-- ==== Sys2Proof/Word.lean ====
section
/-! DEFINITION. The word types of the WX3208's registers, mailbox payloads and memory, and their plainest arithmetic. -/

namespace Sys2Proof

/-- A 32-bit register or payload word (R15, R451). -/
abbrev Word := BitVec 32

/-- One byte of memory or of a byte string. -/
abbrev Byte := BitVec 8

/-- A signed integer as a payload word, two's complement (R451). -/
def Word.int (i : Int) : Word := BitVec.ofInt 32 i

/-- A natural number as a payload word. -/
def Word.nat (n : Nat) : Word := BitVec.ofNat 32 n

/-- A flag as a payload word. -/
def Word.flag (b : Bool) : Word := if b then 1 else 0

end Sys2Proof
end

