-- ==== Sys2Proof/Types.lean ====
section
/-! DEFINITION. The types of the commands' operands: requesters, sentences of a mailbox command, figures that a converter
or a far end delivers, and the small enumerations of the spec. -/

namespace Sys2Proof

/-- The three requesters of R463: PF0, PF1 and the management port. -/
inductive Requester where
  | pf0 | pf1 | mgt
deriving DecidableEq, Repr

/-- The requester's number in ID_REV REQUESTER (R726), and its order under R446. -/
def Requester.num : Requester → Nat
  | .pf0 => 0
  | .pf1 => 1
  | .mgt => 2

/-- One mailbox command as host software submits it (R443): what it wrote to MBX_CMD but for verb and noun (those are
the command's row), to MBX_TAGLEN and to MBX_PAYLOAD before it wrote RING in mailbox `mbx` of `req`. -/
structure Sentence where
  req : Requester
  mbx : Nat
  adverbs : BitVec 8
  inst : BitVec 8
  tag : BitVec 16
  len : BitVec 12
  words : List Word
deriving DecidableEq, Repr

/-- The adverbs (R449). -/
def Sentence.quiet (m : Sentence) : Bool := m.adverbs.getLsbD 0
def Sentence.check (m : Sentence) : Bool := m.adverbs.getLsbD 1
def Sentence.echo (m : Sentence) : Bool := m.adverbs.getLsbD 2

/-- The timekeeping domains A and B (R10). -/
inductive Domain where
  | a | b
deriving DecidableEq, Repr

/-- A is 0, B is 1 (R729). -/
def Domain.num : Domain → Nat
  | .a => 0
  | .b => 1

/-- The members of the family (R1). -/
inductive Part where
  | wx3208 | wx3208n | wx1604
deriving DecidableEq, Repr

/-- What the units count in an estimate period (R105): the gathered FFE samples by value, the clip count, and the frequency offset in
0.1 ppm. -/
structure Quality where
  hist : List (Int × Nat)
  clips : Nat
  freq : Int
deriving DecidableEq, Repr

/-- The measured components of a channel estimate (R107), each in 0.1 dB relative to S, and the echo list
(delay in symbols, level in 0.1 dB). -/
structure Estimate where
  n : Int
  dLin : Int
  dNl2 : Int
  dNl3 : Int
  echoes : List (Nat × Int)
deriving DecidableEq, Repr

/-- What the background estimator finds of a slice in a window (R82, R89): the residual errors after correction, of offset in
1/16 LSB, gain in 0.01 % and skew in fs, and of its codes the number and the count of the commonest value. -/
structure SliceResid where
  slice : Nat
  off : Int
  gain : Int
  skew : Int
  codes : Nat
  same : Nat
deriving DecidableEq, Repr

/-- The verdicts of a march test (R543). -/
inductive MarchVerdict where
  | transient | lastingRow | lastingColumn
deriving DecidableEq, Repr

/-- The conditions of an engine fault (R164). -/
inductive EngineCond where
  | lateSegment | localMemory (addr row : Nat) | streamPort | handshake
deriving DecidableEq, Repr

/-- The fixed datapath stages of R634. -/
inductive FixedStage where
  | sdf | pfx | lex | tku | ltx
deriving DecidableEq, Repr

/-- A symbol on which a host receiver adapts (R259): the sign of the error, the ADC samples under the FFE taps and the level decided one
symbol before, in units of the outer level's third. -/
structure HostUpdate where
  err : Int
  xs : List Int
  level : Int
deriving DecidableEq, Repr

/-- A partner's training request (R267): move tap c-1 (0), c0 (1) or c1 (2) up or down, or load a preset. -/
inductive PartnerReq where
  | tap (which : Nat) (up : Bool)
  | preset (n : Nat)
deriving DecidableEq, Repr

/-- The three results of a marker hunt for one port (R273). -/
inductive HuntResult where
  | normal | mirrored | both
deriving DecidableEq, Repr

/-- A read of an on-chip SRAM word that finds it not good (R523, R527): region, word address and row, and the syndrome of a correctable
word or none for an uncorrectable one. In region 3 the row is the context's number, in region 4 it is 256 times the engine's number
and more (log entry 18). -/
structure SramRead where
  region : Nat
  addr : Nat
  row : Nat
  syn : Option Nat
deriving DecidableEq, Repr

/-- A frame as the parse of PFX delivers it (R353, R355, R356, R399): its fields, and the measured path of its
reference bit when it is a PTP event message (R401), in 1/64 tick. -/
structure Frame where
  da : BitVec 48
  sa : BitVec 48
  tags : List (BitVec 16 × BitVec 16)    -- (TPID, TCI), outermost first
  etype : Option (BitVec 16)             -- none: the frame ends before ETYPE
  length : Nat                           -- bytes from DA to FCS as received
  fcsOk : Bool
  errCtrl : Bool                         -- an error control block inside
  cut : Bool                             -- block lock lost, or the port entered FAULT, before its end
  ptp : Option (BitVec 4 × BitVec 4)     -- (messageType, versionPTP) of a complete 34-byte PTP header
  ip : Nat                               -- 0 EtherType 0x88F7, 4 IPv4, 6 IPv6
  proto : Nat                            -- IP protocol or next header
  frag : Bool                            -- fragmented
  dport : Nat                            -- UDP destination port
  correction : BitVec 64                 -- correctionField
  csum : BitVec 16                       -- UDP checksum
  parseAt : Int                          -- tick and sub-tick of its reference bit at the parse point, in 1/64 tick (R401)
  rewriteAt : Int                        -- the same at the rewrite point
  ecc : List SramRead := []              -- SRAM words found not good on the way (R374, R540)
deriving DecidableEq, Repr

/-- The kinds of element a targeted self-test takes (R632, R649). -/
inductive ElemKind where
  | slice | engine | lexBank | cell | axCore | stage | interp
deriving DecidableEq, Repr

/-- One entry of the repair record (R649). -/
structure RepairEntry where
  kind : Nat
  source : Nat
  unit : Nat
  location : Nat
  start : Nat
  seconds : Nat
deriving DecidableEq, Repr

/-- A rail fault's cause (R692). -/
inductive RailCause where
  | over | under | current
deriving DecidableEq, Repr

/-- The blocks an in-service slice tests (R639): a stream engine or a Lexicon bank. -/
inductive SliceBlock where
  | engine (e : Nat)
  | bank (b : Nat)
deriving DecidableEq, Repr


/-- A sparse table: pairs of an index and a value, indices rising, no value equal to what an unlisted index reads as.
Its operations stand in `Machine/Table.lean`. -/
abbrev Tbl (α : Type) := List (Nat × α)

end Sys2Proof
end

