-- ==== Sys2Proof/Syntax.lean ====
section
/-! DEFINITION. The commands of the WX3208: one constructor per row of spec/opcode_table.json, in the table's order.
A mailbox command carries the sentence that host software wrote (R443); a register access its requester and value; an event of
the part or of its surroundings the object it happens to and the figures that come with it. `now` is the set of RW1C bits
that the device sets in the same access (R17); `ups` are the LPDDR5X words that an access finds
gone bad: address, and the syndrome of a correctable word or none for an uncorrectable one (R527). An operand with a default
is what the event brings beside its object; the default is an event that brings nothing of it. -/

namespace Sys2Proof

/-- One command. -/
inductive Instr where
  | registerWrite (r : Requester) (off : Nat) (v : Word) (whole : Bool)   -- REGISTER_WRITE (R15)
  | bar0WideRead (r : Requester) (off : Nat) (dwords : Nat)   -- BAR0_WIDE_READ (R475)
  | readLoSnapshot (r : Requester) (off : Nat)   -- READ_LO_SNAPSHOT (R19)
  | tkuBcntLoRead (r : Requester)   -- TKU_BCNT_LO_READ (R393)
  | tkuIncLoWrite (r : Requester) (d : Domain) (v : Word)   -- TKU_INC_LO_WRITE (R730)
  | tkuIncHiWrite (r : Requester) (d : Domain) (v : Word)   -- TKU_INC_HI_WRITE (R730)
  | tkuStepGoA (r : Requester)   -- TKU_STEP_GO_A (R389)
  | tkuStepGoB (r : Requester) (both : Bool)   -- TKU_STEP_GO_B (R389)
  | tkuDomSelWrite (r : Requester) (v : Word)   -- TKU_DOM_SEL_WRITE (R397)
  | tkuStatusClear (r : Requester) (v now : Word)   -- TKU_STATUS_CLEAR (R393)
  | icuClaimRead (r : Requester) (vec : Nat)   -- ICU_CLAIM_READ (R504)
  | icuCompleteWrite (r : Requester) (v : Word)   -- ICU_COMPLETE_WRITE (R505)
  | icuLevelRead (r : Requester)   -- ICU_LEVEL_READ (R506)
  | icuEnableWrite (r : Requester) (v : Word)   -- ICU_ENABLE_WRITE (R502)
  | icuPmeCauseClear (r : Requester) (v now : Word)   -- ICU_PME_CAUSE_CLEAR (R521)
  | msixUnmask (r : Requester) (vec : Option Nat)   -- MSIX_UNMASK (R509)
  | pmcValueLoRead (r : Requester)   -- PMC_VALUE_LO_READ (R672)
  | pmcGroupLatchGo (r : Requester)   -- PMC_GROUP_LATCH_GO (R672)
  | dmaTailWrite (r : Requester) (ch : Nat) (v : Word)   -- DMA_TAIL_WRITE (R488)
  | dmaStatusClear (r : Requester) (ch : Nat) (v now : Word)   -- DMA_STATUS_CLEAR (R487)
  | errStickyRead (r : Requester) (now : Word)   -- ERR_STICKY_READ (R734)
  | idErrRead (r : Requester) (now : Word)   -- ID_ERR_READ (R735)
  | mgtMbxStatusRead (n : Nat)   -- MGT_MBX_STATUS_READ (R516)
  | mgtTransferDiscarded   -- MGT_TRANSFER_DISCARDED (R494)
  | i3cDynamicAddress (addr : BitVec 7)   -- I3C_DYNAMIC_ADDRESS (R493)
  | i3cRstdaa   -- I3C_RSTDAA (R493)
  | ibiDeclined   -- IBI_DECLINED (R517)
  | bar2Read (r : Requester) (off dwords : Nat) (ups : List (Nat × Option Nat))   -- BAR2_READ (R480)
  | bar2Write (r : Requester) (off : Nat) (bytes : List (Option Byte)) (ups : List (Nat × Option Nat))   -- BAR2_WRITE (R480)
  | echoEntryExpiry (region addr : Nat)   -- ECHO_ENTRY_EXPIRY (R534)
  | repairCopyDone (region : Nat)   -- REPAIR_COPY_DONE (R543)
  | marchTestDone (region : Nat) (verdict : MarchVerdict)   -- MARCH_TEST_DONE (R543)
  | repairRecordAppend   -- REPAIR_RECORD_APPEND (R543)
  | refreshCommand (die : Nat)   -- REFRESH_COMMAND (R549)
  | vinValid (vin : Nat) (straps : BitVec 3)   -- VIN_VALID (R687)
  | railInRegulation   -- RAIL_IN_REGULATION (R693)
  | pgoodReleaseTimer   -- PGOOD_RELEASE_TIMER (R693)
  | fuseMapLoaded (ok : Bool)   -- FUSE_MAP_LOADED (R424)
  | memoryFillDone (ok : Bool)   -- MEMORY_FILL_DONE (R547)
  | firmwareLoadDone (ok : Bool)   -- FIRMWARE_LOAD_DONE (R424)
  | repairRecordApplied (valid : Bool)   -- REPAIR_RECORD_APPLIED (R650)
  | startUpComplete   -- START_UP_COMPLETE (R417)
  | vinUndervoltage (vin : Nat)   -- VIN_UNDERVOLTAGE (R687)
  | vinPowerDown   -- VIN_POWER_DOWN (R687)
  | inputOvervoltage   -- INPUT_OVERVOLTAGE (R687)
  | enFall   -- EN_FALL (R689)
  | enRise   -- EN_RISE (R429)
  | sysRstNAct   -- SYS_RST_N_ACT (R713)
  | sysRstNRelease   -- SYS_RST_N_RELEASE (R713)
  | railFault (rail : Nat) (cause : RailCause)   -- RAIL_FAULT (R692)
  | railCurrentDwell (rail current : Nat)   -- RAIL_CURRENT_DWELL (R704)
  | backstopTrip   -- BACKSTOP_TRIP (R620)
  | laneRefclkAbsent   -- LANE_REFCLK_ABSENT (R42)
  | laneRefclkPresent   -- LANE_REFCLK_PRESENT (R42)
  | perstNAssert   -- PERST_N_ASSERT (R429)
  | functionLevelReset (r : Requester)   -- FUNCTION_LEVEL_RESET (R472)
  | hotReset   -- HOT_RESET (R472)
  | linkDown   -- LINK_DOWN (R472)
  | linkUp (speed width : Nat)   -- LINK_UP (R740)
  | enterD3hot (r : Requester)   -- ENTER_D3HOT (R511)
  | enterD0 (r : Requester)   -- ENTER_D0 (R513)
  | enterD3cold (r : Requester)   -- ENTER_D3COLD (R515)
  | aspmL1Entry   -- ASPM_L1_ENTRY (R492)
  | tapTakeoverLoad (op : Byte)   -- TAP_TAKEOVER_LOAD (R722)
  | tapRelease   -- TAP_RELEASE (R722)
  | eventRaised (i : Nat)   -- EVENT_RAISED (R499)
  | coalescingTimerExpiry (r : Requester) (vec : Nat)   -- COALESCING_TIMER_EXPIRY (R507)
  | datapathPowered (rates : List Nat)   -- DATAPATH_POWERED (R414)
  | losAssert (l : Nat)   -- LOS_ASSERT (R76)
  | losClear (l : Nat)   -- LOS_CLEAR (R76)
  | receiverPowerSettled (l : Nat)   -- RECEIVER_POWER_SETTLED (R102)
  | agcSettled (l : Nat) (rms : List Nat := [])   -- AGC_SETTLED (R102)
  | sliceCorrectionConverged (l : Nat)   -- SLICE_CORRECTION_CONVERGED (R102)
  | timingRecoveryLocked (l : Nat) (freq : Int)   -- TIMING_RECOVERY_LOCKED (R102)
  | ffeConverged (l : Nat) (ups : List (Int × List Int) := [])   -- FFE_CONVERGED (R102)
  | acquisitionTimeout (l : Nat)   -- ACQUISITION_TIMEOUT (R103)
  | estimatePeriodEnd (l : Nat) (q : Quality) (e : Estimate) (rms : List Nat)   -- ESTIMATE_PERIOD_END (R105)
  | snrWindowEnd (l snr : Nat)   -- SNR_WINDOW_END (R80)
  | timingFrequencyOutOfRange (l : Nat)   -- TIMING_FREQUENCY_OUT_OF_RANGE (R80)
  | backgroundWindowEnd (l : Nat) (rs : List SliceResid) (ups : List (Int × List Int))   -- BACKGROUND_WINDOW_END (R82)
  | rotationStepStart (l : Nat)   -- ROTATION_STEP_START (R84)
  | shadowComparisonDone (l : Nat) (ok : Bool)   -- SHADOW_COMPARISON_DONE (R84)
  | rotationSwitch (l : Nat)   -- ROTATION_SWITCH (R84)
  | transomCalibrationDone (l : Nat) (ok : Bool := true)   -- TRANSOM_CALIBRATION_DONE (R84)
  | captureStartCondition   -- CAPTURE_START_CONDITION (R115)
  | captureSegmentStart   -- CAPTURE_SEGMENT_START (R116)
  | captureSegmentDrained (samples : List Byte) (clips : Nat) (ecc : List SramRead)   -- CAPTURE_SEGMENT_DRAINED (R116)
  | blockEntersFifo (l : Nat) (codes : List Int := [])   -- BLOCK_ENTERS_FIFO (R128)
  | blockRelease (l : Nat) (late : List Nat) (ecc : List SramRead := [])   -- BLOCK_RELEASE (R131)
  | fifoWatermarkCrossed (l : Nat)   -- FIFO_WATERMARK_CROSSED (R51)
  | fifoOverflow (l : Nat)   -- FIFO_OVERFLOW (R52)
  | slackReport (slack : List Int) (rates : List Nat)   -- SLACK_REPORT (R697)
  | loweringDwellExpiry   -- LOWERING_DWELL_EXPIRY (R697)
  | vcoreReductionAnnounced   -- VCORE_REDUCTION_ANNOUNCED (R155)
  | vcoreStepSettled (rates : List Nat)   -- VCORE_STEP_SETTLED (R697)
  | planBlockBoundary (l : Nat)   -- PLAN_BLOCK_BOUNDARY (R156)
  | raiseDwellExpiry   -- RAISE_DWELL_EXPIRY (R154)
  | swapStaged (l : Nat)   -- SWAP_STAGED (R159)
  | shadowSettleEnd (l : Nat) (ups : List (Int × List Int) := [])   -- SHADOW_SETTLE_END (R159)
  | swapComparisonDone (l : Nat) (live shadow : Int)   -- SWAP_COMPARISON_DONE (R159)
  | swapSwitch (l : Nat)   -- SWAP_SWITCH (R160)
  | shadowReturn (l : Nat)   -- SHADOW_RETURN (R159)
  | coefficientPush (l : Nat) (errs : List Int := [])   -- COEFFICIENT_PUSH (R142)
  | shadowRefresh (e : Nat)   -- SHADOW_REFRESH (R143)
  | engineFault (e : Nat) (cond : EngineCond)   -- ENGINE_FAULT (R165)
  | adaptEngineFault (e : Nat) (cond : EngineCond)   -- ADAPT_ENGINE_FAULT (R167)
  | huntTestDone (l : Nat) (hard : List (List (Bool × Bool))) (rel : List (List (Nat × Nat))) (skews : List Int)   -- HUNT_TEST_DONE (R202)
  | lockWindowEnd (l : Nat) (zeros : List Nat)   -- LOCK_WINDOW_END (R205)
  | innerCodewordDecode (l : Nat) (ys after : List Int)   -- INNER_CODEWORD_DECODE (R198)
  | rsCodewordDecode (l : Nat) (r : List Nat)   -- RS_CODEWORD_DECODE (R209)
  | sdfPeriodEnd (l : Nat) (syms : List (Nat × Int) := [])   -- SDF_PERIOD_END (R214)
  | fixedStageFault (stage : FixedStage) (unit ns : Nat)   -- FIXED_STAGE_FAULT (R634)
  | ltxSettingsApply (l : Nat) (bits : List Bool := [])   -- LTX_SETTINGS_APPLY (R227)
  | swingStep (l : Nat)   -- SWING_STEP (R228)
  | dacSettled (l : Nat)   -- DAC_SETTLED (R235)
  | opticsReady (l : Nat)   -- OPTICS_READY (R235)
  | opticsSettleTimeout (l : Nat)   -- OPTICS_SETTLE_TIMEOUT (R236)
  | opticsRetryTimer (l : Nat)   -- OPTICS_RETRY_TIMER (R236)
  | rampUpEnd (l : Nat)   -- RAMP_UP_END (R235)
  | rampDownEnd (l : Nat)   -- RAMP_DOWN_END (R237)
  | dacCellFailure (l cell ns : Nat)   -- DAC_CELL_FAILURE (R244)
  | opticsReleaseTimer (l : Nat)   -- OPTICS_RELEASE_TIMER (R578)
  | axRampUpdate (c : Nat)   -- AX_RAMP_UPDATE (R561)
  | monitorOutputSample (c x : Nat) (sat : Bool)   -- MONITOR_OUTPUT_SAMPLE (R569)
  | loopUpdate (i : Nat)   -- LOOP_UPDATE (R576)
  | axCoreFault (c cause : Nat)   -- AX_CORE_FAULT (R565)
  | axOutputStageFailure (c : Nat)   -- AX_OUTPUT_STAGE_FAILURE (R566)
  | handoverSwitch (c : Nat)   -- HANDOVER_SWITCH (R564)
  | coreCalibrationDone (c : Nat)   -- CORE_CALIBRATION_DONE (R564)
  | pilotPacketStart (l : Nat)   -- PILOT_PACKET_START (R333)
  | pilotPacketEnd (l : Nat)   -- PILOT_PACKET_END (R322)
  | beaconIntervalExpiry (l : Nat)   -- BEACON_INTERVAL_EXPIRY (R332)
  | syncDetection (l : Nat) (m : Int) (diff preamble : Nat)   -- SYNC_DETECTION (R339)
  | headerDecoded (l : Nat) (hdr : List Byte)   -- HEADER_DECODED (R338)
  | bodyDecoded (l : Nat) (body : List Byte) (plq subOff rateOff : Int)   -- BODY_DECODED (R339)
  | peerTimeout (l : Nat)   -- PEER_TIMEOUT (R346)
  | hslSignalDetect (h : Nat)   -- HSL_SIGNAL_DETECT (R260)
  | hslClockRecoveryLocked (h : Nat) (freq : Int := 0)   -- HSL_CLOCK_RECOVERY_LOCKED (R265)
  | trainingFrameLock (h : Nat) (inverted : Bool)   -- TRAINING_FRAME_LOCK (R265)
  | trainingWaitExpiry (h : Nat)   -- TRAINING_WAIT_EXPIRY (R265)
  | trainingMeasurementDone (h : Nat) (snr : Int) (atLimit : Bool)   -- TRAINING_MEASUREMENT_DONE (R266)
  | partnerRequest (h : Nat) (q : PartnerReq)   -- PARTNER_REQUEST (R267)
  | trainingComplete (h : Nat)   -- TRAINING_COMPLETE (R265)
  | trainingTimeout (h : Nat)   -- TRAINING_TIMEOUT (R268)
  | hslEqualisationConverged (h : Nat) (snrs : List Int) (ffe : List Int := []) (dfe : Int := 0)   -- HSL_EQUALISATION_CONVERGED (R265)
  | markerHuntDone (h : Nat) (inverted : Bool) (res : HuntResult) (skew : Int)   -- MARKER_HUNT_DONE (R273)
  | signalLoss (h : Nat)   -- SIGNAL_LOSS (R260)
  | hslSnrWindowEnd (h snr : Nat) (freqOut : Bool)   -- HSL_SNR_WINDOW_END (R260)
  | elasticBufferSlip (h : Nat) (high : Bool)   -- ELASTIC_BUFFER_SLIP (R254)
  | amLockLoss (h pcs : Nat)   -- AM_LOCK_LOSS (R280)
  | hslPeriodEnd (h snr : Nat) (offset lo hi : Int) (ups : List HostUpdate := []) (rs errs : Nat := 0)   -- HSL_PERIOD_END (R256)
  | faultRecoveryTimer (h : Nat)   -- FAULT_RECOVERY_TIMER (R286)
  | warmAcquisitionTimeout (h : Nat)   -- WARM_ACQUISITION_TIMEOUT (R287)
  | blockReceived (p d : Nat) (hdr : BitVec 2)   -- BLOCK_RECEIVED (R282)
  | blockLockWindowEnd (p d : Nat)   -- BLOCK_LOCK_WINDOW_END (R283)
  | frameParsed (p d : Nat) (f : Frame)   -- FRAME_PARSED (R743)
  | portStartTimeout (p : Nat)   -- PORT_START_TIMEOUT (R309)
  | keyInsertion   -- KEY_INSERTION (R358)
  | earlyDrainDone (ecc : List SramRead := [])   -- EARLY_DRAIN_DONE (R366)
  | dumpIntervalExpiry (delay kept : Nat)   -- DUMP_INTERVAL_EXPIRY (R365)
  | dumpPassComplete (ecc : List SramRead := [])   -- DUMP_PASS_COMPLETE (R365)
  | spareBankFillDone (b : Nat)   -- SPARE_BANK_FILL_DONE (R373)
  | logMarkerTimer   -- LOG_MARKER_TIMER (R398)
  | pmcDumpIntervalExpiry (delay kept : Nat)   -- PMC_DUMP_INTERVAL_EXPIRY (R674)
  | pmcDumpWritten   -- PMC_DUMP_WRITTEN (R674)
  | sampleIntervalExpiry (e cat op steps seg : Nat)   -- SAMPLE_INTERVAL_EXPIRY (R680)
  | dmaRecordWritten (ch src : Nat)   -- DMA_RECORD_WRITTEN (R485)
  | thermalReading (conv : List (Option Int)) (mr4 : List (Option Nat))   -- THERMAL_READING (R605)
  | calIntervalExpiry (b : Nat)   -- CAL_INTERVAL_EXPIRY (R588)
  | calibrationRunStart (b : Nat)   -- CALIBRATION_RUN_START (R590)
  | measurementPairDone (b : Nat) (x y : List Int)   -- MEASUREMENT_PAIR_DONE (R593)
  | ltxCalStep (l : Nat)   -- LTX_CAL_STEP (R585)
  | monconvFrame   -- MONCONV_FRAME (R586)
  | calDueTimer (b : Nat)   -- CAL_DUE_TIMER (R592)
  | targetedTestDone (kind : ElemKind) (pass : Bool)   -- TARGETED_TEST_DONE (R627)
  | testSliceStart (b : SliceBlock)   -- TEST_SLICE_START (R639)
  | sliceTestDone (b : SliceBlock) (pass : Bool)   -- SLICE_TEST_DONE (R639)
  | coverageTimer (b : SliceBlock)   -- COVERAGE_TIMER (R641)
  | imageCheckDone (kernel sigOk digestOk : Bool)   -- IMAGE_CHECK_DONE (R466)
  | fwImageWritten (ok : Bool)   -- FW_IMAGE_WRITTEN (R467)
  | paneLoaded (ok : Bool)   -- PANE_LOADED (R657)
  | firmwareStateSaved   -- FIRMWARE_STATE_SAVED (R657)
  | newPaneResumed   -- NEW_PANE_RESUMED (R657)
  | paneMarkedActive   -- PANE_MARKED_ACTIVE (R657)
  | paneSwitchTimeout   -- PANE_SWITCH_TIMEOUT (R659)
  | shutterFlushDone   -- SHUTTER_FLUSH_DONE (R433)
  | shutterDeadlineExpiry   -- SHUTTER_DEADLINE_EXPIRY (R433)
  | shutterLogSaved   -- SHUTTER_LOG_SAVED (R437)
  | shutterHoldEnd   -- SHUTTER_HOLD_END (R433)
  | shutdownBistDone (fails : List RepairEntry)   -- SHUTDOWN_BIST_DONE (R647)
  | shutterPowerDown   -- SHUTTER_POWER_DOWN (R433)
  | getDevMode (m : Sentence)   -- GET_DEV_MODE (R438)
  | enterDevMode (m : Sentence)   -- ENTER_DEV_MODE (R417)
  | shutterDevMode (m : Sentence)   -- SHUTTER_DEV_MODE (R433)
  | enterLaneTest (m : Sentence)   -- ENTER_LANE_TEST (R421)
  | leaveLaneTest (m : Sentence)   -- LEAVE_LANE_TEST (R422)
  | getDevFeature (m : Sentence)   -- GET_DEV_FEATURE (R469)
  | negotiateDevFeature (m : Sentence)   -- NEGOTIATE_DEV_FEATURE (R462)
  | receiveDevEvent (m : Sentence)   -- RECEIVE_DEV_EVENT (R459)
  | getMbxStats (m : Sentence)   -- GET_MBX_STATS (R469)
  | clearMbxStats (m : Sentence)   -- CLEAR_MBX_STATS (R469)
  | loadFwImage (m : Sentence)   -- LOAD_FW_IMAGE (R467)
  | getFwImage (m : Sentence)   -- GET_FW_IMAGE (R469)
  | grantPf1Grant (m : Sentence)   -- GRANT_PF1_GRANT (R463)
  | revokePf1Grant (m : Sentence)   -- REVOKE_PF1_GRANT (R683)
  | getPf1Grant (m : Sentence)   -- GET_PF1_GRANT (R469)
  | getLrxCfg (m : Sentence)   -- GET_LRX_CFG (R120)
  | setLrxCfg (m : Sentence)   -- SET_LRX_CFG (R69)
  | getLrxStatus (m : Sentence)   -- GET_LRX_STATUS (R120)
  | getLrxQuality (m : Sentence)   -- GET_LRX_QUALITY (R120)
  | getLrxEstimate (m : Sentence)   -- GET_LRX_ESTIMATE (R120)
  | getLrxSlices (m : Sentence)   -- GET_LRX_SLICES (R120)
  | restartLrxAcq (m : Sentence)   -- RESTART_LRX_ACQ (R121)
  | captureLrxCapture (m : Sentence)   -- CAPTURE_LRX_CAPTURE (R114)
  | abortLrxCapture (m : Sentence)   -- ABORT_LRX_CAPTURE (R120)
  | getSeaPolicy (m : Sentence)   -- GET_SEA_POLICY (R171)
  | setSeaPolicy (m : Sentence)   -- SET_SEA_POLICY (R148)
  | getSeaHinge (m : Sentence)   -- GET_SEA_HINGE (R171)
  | setSeaHinge (m : Sentence)   -- SET_SEA_HINGE (R171)
  | getSeaPlacement (m : Sentence)   -- GET_SEA_PLACEMENT (R171)
  | getSeaEngines (m : Sentence)   -- GET_SEA_ENGINES (R171)
  | getSeaKernel (m : Sentence)   -- GET_SEA_KERNEL (R171)
  | loadSeaKernel (m : Sentence)   -- LOAD_SEA_KERNEL (R137)
  | selectSeaKernel (m : Sentence)   -- SELECT_SEA_KERNEL (R138)
  | getSeaKparam (m : Sentence)   -- GET_SEA_KPARAM (R171)
  | setSeaKparam (m : Sentence)   -- SET_SEA_KPARAM (R136)
  | getSdfCfg (m : Sentence)   -- GET_SDF_CFG (R220)
  | setSdfCfg (m : Sentence)   -- SET_SDF_CFG (R217)
  | getSdfStatus (m : Sentence)   -- GET_SDF_STATUS (R220)
  | getSdfStats (m : Sentence)   -- GET_SDF_STATS (R220)
  | getSdfDetector (m : Sentence)   -- GET_SDF_DETECTOR (R220)
  | restartSdfHunt (m : Sentence)   -- RESTART_SDF_HUNT (R220)
  | getLtxCfg (m : Sentence)   -- GET_LTX_CFG (R246)
  | setLtxCfg (m : Sentence)   -- SET_LTX_CFG (R231)
  | getLtxStatus (m : Sentence)   -- GET_LTX_STATUS (R246)
  | squelchLtxOut (m : Sentence)   -- SQUELCH_LTX_OUT (R242)
  | releaseLtxOut (m : Sentence)   -- RELEASE_LTX_OUT (R242)
  | getHslCfg (m : Sentence)   -- GET_HSL_CFG (R294)
  | setHslCfg (m : Sentence)   -- SET_HSL_CFG (R290)
  | getHslGroup (m : Sentence)   -- GET_HSL_GROUP (R294)
  | setHslGroup (m : Sentence)   -- SET_HSL_GROUP (R291)
  | getHslStatus (m : Sentence)   -- GET_HSL_STATUS (R294)
  | getHslQuality (m : Sentence)   -- GET_HSL_QUALITY (R294)
  | restartHslTrain (m : Sentence)   -- RESTART_HSL_TRAIN (R286)
  | getPfxBlocklock (m : Sentence)   -- GET_PFX_BLOCKLOCK (R294)
  | getPortCfg (m : Sentence)   -- GET_PORT_CFG (R318)
  | setPortCfg (m : Sentence)   -- SET_PORT_CFG (R302)
  | deletePortCfg (m : Sentence)   -- DELETE_PORT_CFG (R318)
  | startPort (m : Sentence)   -- START_PORT (R308)
  | stopPort (m : Sentence)   -- STOP_PORT (R308)
  | getPortStatus (m : Sentence)   -- GET_PORT_STATUS (R318)
  | getPltCfg (m : Sentence)   -- GET_PLT_CFG (R347)
  | setPltCfg (m : Sentence)   -- SET_PLT_CFG (R345)
  | sendPltPacket (m : Sentence)   -- SEND_PLT_PACKET (R344)
  | receivePltPacket (m : Sentence)   -- RECEIVE_PLT_PACKET (R347)
  | getPltPeer (m : Sentence)   -- GET_PLT_PEER (R347)
  | setPltPeer (m : Sentence)   -- SET_PLT_PEER (R346)
  | getPltStatus (m : Sentence)   -- GET_PLT_STATUS (R347)
  | getLexCfg (m : Sentence)   -- GET_LEX_CFG (R378)
  | setLexCfg (m : Sentence)   -- SET_LEX_CFG (R376)
  | getLexPort (m : Sentence)   -- GET_LEX_PORT (R378)
  | setLexPort (m : Sentence)   -- SET_LEX_PORT (R376)
  | getLexContext (m : Sentence)   -- GET_LEX_CONTEXT (R378)
  | insertLexContext (m : Sentence)   -- INSERT_LEX_CONTEXT (R360)
  | deleteLexContext (m : Sentence)   -- DELETE_LEX_CONTEXT (R363)
  | flushLexDump (m : Sentence)   -- FLUSH_LEX_DUMP (R372)
  | getLexStats (m : Sentence)   -- GET_LEX_STATS (R378)
  | getTkuDomain (m : Sentence)   -- GET_TKU_DOMAIN (R410)
  | setTkuDomain (m : Sentence)   -- SET_TKU_DOMAIN (R392)
  | getTkuPort (m : Sentence)   -- GET_TKU_PORT (R410)
  | setTkuPort (m : Sentence)   -- SET_TKU_PORT (R409)
  | getTkuStats (m : Sentence)   -- GET_TKU_STATS (R410)
  | getHifLink (m : Sentence)   -- GET_HIF_LINK (R497)
  | getHifWindow (m : Sentence)   -- GET_HIF_WINDOW (R497)
  | setHifWindow (m : Sentence)   -- SET_HIF_WINDOW (R477)
  | getHifDma (m : Sentence)   -- GET_HIF_DMA (R497)
  | setHifDma (m : Sentence)   -- SET_HIF_DMA (R482)
  | getHifMgt (m : Sentence)   -- GET_HIF_MGT (R497)
  | getIcuEvent (m : Sentence)   -- GET_ICU_EVENT (R522)
  | setIcuEvent (m : Sentence)   -- SET_ICU_EVENT (R520)
  | getIcuMgt (m : Sentence)   -- GET_ICU_MGT (R522)
  | setIcuMgt (m : Sentence)   -- SET_ICU_MGT (R516)
  | getMemCfg (m : Sentence)   -- GET_MEM_CFG (R553)
  | setMemCfg (m : Sentence)   -- SET_MEM_CFG (R552)
  | getMemStatus (m : Sentence)   -- GET_MEM_STATUS (R553)
  | getMemEcho (m : Sentence)   -- GET_MEM_ECHO (R553)
  | getMemSpares (m : Sentence)   -- GET_MEM_SPARES (R553)
  | getMemStats (m : Sentence)   -- GET_MEM_STATS (R553)
  | getOcuAx (m : Sentence)   -- GET_OCU_AX (R581)
  | setOcuAx (m : Sentence)   -- SET_OCU_AX (R559)
  | getOcuCode (m : Sentence)   -- GET_OCU_CODE (R581)
  | setOcuCode (m : Sentence)   -- SET_OCU_CODE (R561)
  | getOcuMn (m : Sentence)   -- GET_OCU_MN (R581)
  | setOcuMn (m : Sentence)   -- SET_OCU_MN (R572)
  | getOcuLoop (m : Sentence)   -- GET_OCU_LOOP (R581)
  | setOcuLoop (m : Sentence)   -- SET_OCU_LOOP (R576)
  | getOcuLane (m : Sentence)   -- GET_OCU_LANE (R581)
  | getOcuStats (m : Sentence)   -- GET_OCU_STATS (R581)
  | getCalCfg (m : Sentence)   -- GET_CAL_CFG (R602)
  | setCalCfg (m : Sentence)   -- SET_CAL_CFG (R601)
  | getCalBlock (m : Sentence)   -- GET_CAL_BLOCK (R600)
  | runCalBlock (m : Sentence)   -- RUN_CAL_BLOCK (R588)
  | clearCalBlock (m : Sentence)   -- CLEAR_CAL_BLOCK (R595)
  | getThmCfg (m : Sentence)   -- GET_THM_CFG (R623)
  | setThmCfg (m : Sentence)   -- SET_THM_CFG (R621)
  | getThmSensor (m : Sentence)   -- GET_THM_SENSOR (R623)
  | ackThmSensor (m : Sentence)   -- ACK_THM_SENSOR (R610)
  | getThmStatus (m : Sentence)   -- GET_THM_STATUS (R623)
  | clearThmStatus (m : Sentence)   -- CLEAR_THM_STATUS (R620)
  | getFwPane (m : Sentence)   -- GET_FW_PANE (R661)
  | switchFwPane (m : Sentence)   -- SWITCH_FW_PANE (R657)
  | getTstCfg (m : Sentence)   -- GET_TST_CFG (R661)
  | setTstCfg (m : Sentence)   -- SET_TST_CFG (R661)
  | getTstStatus (m : Sentence)   -- GET_TST_STATUS (R661)
  | getTstVerdicts (m : Sentence)   -- GET_TST_VERDICTS (R661)
  | getRepRecord (m : Sentence)   -- GET_REP_RECORD (R661)
  | getRelYields (m : Sentence)   -- GET_REL_YIELDS (R661)
  | getPmcCounter (m : Sentence)   -- GET_PMC_COUNTER (R684)
  | setPmcCounter (m : Sentence)   -- SET_PMC_COUNTER (R669)
  | clearPmcCounter (m : Sentence)   -- CLEAR_PMC_COUNTER (R669)
  | getPmcDump (m : Sentence)   -- GET_PMC_DUMP (R684)
  | setPmcDump (m : Sentence)   -- SET_PMC_DUMP (R684)
  | flushPmcDump (m : Sentence)   -- FLUSH_PMC_DUMP (R678)
  | getPmcSample (m : Sentence)   -- GET_PMC_SAMPLE (R684)
  | setPmcSample (m : Sentence)   -- SET_PMC_SAMPLE (R680)
  | getPwrCfg (m : Sentence)   -- GET_PWR_CFG (R703)
  | setPwrCfg (m : Sentence)   -- SET_PWR_CFG (R702)
  | getPwrStatus (m : Sentence)   -- GET_PWR_STATUS (R703)
  | clearPwrStatus (m : Sentence)   -- CLEAR_PWR_STATUS (R692)
  | getPwrRail (m : Sentence)   -- GET_PWR_RAIL (R703)
  | bcntTick   -- BCNT_TICK (R385)
  | mbxDoorbellRing (verb noun : Byte) (m : Sentence)   -- MBX_DOORBELL_RING (R443)
  | amLockRegained (h : Nat)   -- AM_LOCK_REGAINED (R286)
  | perstNDeassert   -- PERST_N_DEASSERT (R425)
deriving DecidableEq, Repr

end Sys2Proof
end

