-- ==== Sys2Proof/Decode.lean ====
section
/-! DEFINITION. The commands of this block are spelled by no bits: no row of spec/opcode_table.json gives any, so the decoder
over the rows that give bits knows no word. -/

namespace Sys2Proof

/-- The command that a word spells by the table's bits: none. -/
def decodeTableWord (_nbits _w : Nat) : Option Instr := none

end Sys2Proof
end

