-- ==== Sys2Proof/Config.lean ====
section
/-! DEFINITION. What the spec leaves open. A value that the spec does not state is this opaque constant applied to the
state's counter `free`, so that nothing can be proved of it; the reset values that the model names stand in
`Machine/State.lean` (log entries 1, 2, 4, 5). -/

namespace Sys2Proof.Config

/-- The free values: the value that the spec leaves open at the `n`-th time a step needs one (log entry 1). -/
opaque freeWord : Nat → Word

/-- The equaliser preset tables, which the spec names and does not list (R99): the coefficient that the table of a temperature band
holds under a preset index, by distance from the main cursor (log entry 1). -/
opaque ffePreset : Nat → Nat → Int → Word

/-- The step of the host receivers' sign-error LMS, which the spec does not state (R259): a right shift. -/
opaque hostStepShift : Nat

end Sys2Proof.Config
end

