-- ==== Sys2Proof/Machine/Codes.lean ====
section
/-! DEFINITION. The event codes (R519): in each range the events are numbered upwards from the first code, in the order of
the events table named. -/

namespace Sys2Proof.Machine

/-! R459, R417 -/
/-- CMD_DONE -/
def evCmdDone : Nat := 0x0001
/-- EVT_LOST -/
def evEvtLost : Nat := 0x0002
/-- DEV_MODE_CHANGE -/
def evDevModeChange : Nat := 0x0003

/-! R122 -/
/-- LRX_LOS_ASSERT -/
def evLrxLosAssert : Nat := 0x0100
/-- LRX_LOS_CLEAR -/
def evLrxLosClear : Nat := 0x0101
/-- LRX_ACQ_DONE -/
def evLrxAcqDone : Nat := 0x0102
/-- LRX_ACQ_RETRY -/
def evLrxAcqRetry : Nat := 0x0103
/-- LRX_LOCK_LOST -/
def evLrxLockLost : Nat := 0x0104
/-- LRX_CLIP -/
def evLrxClip : Nat := 0x0105
/-- LRX_DEMAND -/
def evLrxDemand : Nat := 0x0106
/-- LRX_SLICE_SUBST -/
def evLrxSliceSubst : Nat := 0x0107
/-- LRX_SLICE_RETIRED -/
def evLrxSliceRetired : Nat := 0x0108
/-- LRX_NO_SPARE_SLICE -/
def evLrxNoSpareSlice : Nat := 0x0109
/-- LRX_CAPTURE_DONE -/
def evLrxCaptureDone : Nat := 0x010A

/-! R172 -/
/-- SEA_PLACED -/
def evSeaPlaced : Nat := 0x0200
/-- SEA_YIELD -/
def evSeaYield : Nat := 0x0201
/-- SEA_YIELD_END -/
def evSeaYieldEnd : Nat := 0x0202
/-- SEA_TIER_DROP -/
def evSeaTierDrop : Nat := 0x0203
/-- SEA_SWAP_DONE -/
def evSeaSwapDone : Nat := 0x0204
/-- SEA_SWAP_ABANDONED -/
def evSeaSwapAbandoned : Nat := 0x0205
/-- SEA_ENGINE_FAULT -/
def evSeaEngineFault : Nat := 0x0206
/-- SEA_ENGINE_RETIRED -/
def evSeaEngineRetired : Nat := 0x0207
/-- SEA_NO_TRANSOM -/
def evSeaNoTransom : Nat := 0x0208
/-- SEA_KERNEL_LOADED -/
def evSeaKernelLoaded : Nat := 0x0209
/-- SEA_FIFO_OVERFLOW -/
def evSeaFifoOverflow : Nat := 0x020A

/-! R221 -/
/-- SDF_LOCK -/
def evSdfLock : Nat := 0x0300
/-- SDF_LOCK_LOST -/
def evSdfLockLost : Nat := 0x0301
/-- SDF_DEGRADE -/
def evSdfDegrade : Nat := 0x0302
/-- SDF_DEGRADE_CLEAR -/
def evSdfDegradeClear : Nat := 0x0303
/-- SDF_RS_DEGRADE -/
def evSdfRsDegrade : Nat := 0x0304
/-- SDF_RS_DEGRADE_CLEAR -/
def evSdfRsDegradeClear : Nat := 0x0305
/-- SDF_RS_UNCORR -/
def evSdfRsUncorr : Nat := 0x0306

/-! R247 -/
/-- LTX_ENABLED -/
def evLtxEnabled : Nat := 0x0380
/-- LTX_DISABLED -/
def evLtxDisabled : Nat := 0x0381
/-- LTX_OPTICS_TIMEOUT -/
def evLtxOpticsTimeout : Nat := 0x0382
/-- LTX_CELL_SUBST -/
def evLtxCellSubst : Nat := 0x0383
/-- LTX_CELL_RETIRED -/
def evLtxCellRetired : Nat := 0x0384
/-- LTX_NO_SPARE_CELL -/
def evLtxNoSpareCell : Nat := 0x0385

/-! R295 -/
/-- HSL_UP -/
def evHslUp : Nat := 0x0400
/-- HSL_TRAIN_DONE -/
def evHslTrainDone : Nat := 0x0401
/-- HSL_SIGNAL_LOST -/
def evHslSignalLost : Nat := 0x0402
/-- HSL_LOCK_LOST -/
def evHslLockLost : Nat := 0x0403
/-- HSL_AM_LOCK_LOST -/
def evHslAmLockLost : Nat := 0x0404
/-- HSL_SLIP -/
def evHslSlip : Nat := 0x0405
/-- HSL_REF_OFFSET -/
def evHslRefOffset : Nat := 0x0406
/-- HSL_REVERSAL -/
def evHslReversal : Nat := 0x0407
/-- HSL_REVERSAL_CONFLICT -/
def evHslReversalConflict : Nat := 0x0408

/-! R285, R319 -/
/-- PFX_BLOCK_LOCK -/
def evPfxBlockLock : Nat := 0x0480
/-- PFX_BLOCK_LOCK_LOST -/
def evPfxBlockLockLost : Nat := 0x0481
/-- PORT_UP -/
def evPortUp : Nat := 0x0482
/-- PORT_FAULT -/
def evPortFault : Nat := 0x0483
/-- PORT_STOPPED -/
def evPortStopped : Nat := 0x0484
/-- PORT_START_LATE -/
def evPortStartLate : Nat := 0x0485

/-! R349 -/
/-- PLT_RX -/
def evPltRx : Nat := 0x0500
/-- PLT_TX_DONE -/
def evPltTxDone : Nat := 0x0501
/-- PLT_PEER -/
def evPltPeer : Nat := 0x0502

/-! R380 -/
/-- LEX_DUMP_DONE -/
def evLexDumpDone : Nat := 0x0580
/-- LEX_DUMP_LATE -/
def evLexDumpLate : Nat := 0x0581
/-- LEX_TABLE_PRESSURE -/
def evLexTablePressure : Nat := 0x0582
/-- LEX_BANK_SPARED -/
def evLexBankSpared : Nat := 0x0583
/-- LEX_NO_SPARE_BANK -/
def evLexNoSpareBank : Nat := 0x0584

/-! R412 -/
/-- TKU_STEP -/
def evTkuStep : Nat := 0x0600
/-- TKU_DOM_SELECT -/
def evTkuDomSelect : Nat := 0x0601
/-- TKU_DISCONTINUITY -/
def evTkuDiscontinuity : Nat := 0x0602
/-- TKU_RESID_RANGE -/
def evTkuResidRange : Nat := 0x0603

/-! R583 -/
/-- OCU_THRESHOLD -/
def evOcuThreshold : Nat := 0x0680
/-- OCU_LANE_READY -/
def evOcuLaneReady : Nat := 0x0681
/-- OCU_LOOP_BAND -/
def evOcuLoopBand : Nat := 0x0682
/-- OCU_LOOP_STOPPED -/
def evOcuLoopStopped : Nat := 0x0683
/-- OCU_CORE_SUBST -/
def evOcuCoreSubst : Nat := 0x0684
/-- OCU_CORE_RETIRED -/
def evOcuCoreRetired : Nat := 0x0685
/-- OCU_NO_SPARE -/
def evOcuNoSpare : Nat := 0x0686

/-! R603 -/
/-- CAL_DONE -/
def evCalDone : Nat := 0x0700
/-- CAL_DISSENT -/
def evCalDissent : Nat := 0x0701
/-- CAL_DISSENT_CLEAR -/
def evCalDissentClear : Nat := 0x0702
/-- CAL_ABANDONED -/
def evCalAbandoned : Nat := 0x0703
/-- CAL_OVERDUE -/
def evCalOverdue : Nat := 0x0704

/-! R624 -/
/-- THM_BAND -/
def evThmBand : Nat := 0x0780
/-- THM_THROTTLE -/
def evThmThrottle : Nat := 0x0781
/-- THM_SENSOR_BROKEN -/
def evThmSensorBroken : Nat := 0x0782
/-- THM_SENSOR_RESTORED -/
def evThmSensorRestored : Nat := 0x0783
/-- THM_BLIND -/
def evThmBlind : Nat := 0x0784
/-- THM_ABOVE_TJMAX -/
def evThmAboveTjmax : Nat := 0x0785
/-- THM_THERM_N -/
def evThmThermN : Nat := 0x0786

/-! R555 -/
/-- MEM_CORRECTED -/
def evMemCorrected : Nat := 0x0800
/-- MEM_UNCORR -/
def evMemUncorr : Nat := 0x0801
/-- MEM_POISON_WRITE -/
def evMemPoisonWrite : Nat := 0x0802
/-- MEM_ECHO -/
def evMemEcho : Nat := 0x0803
/-- MEM_REPAIRED -/
def evMemRepaired : Nat := 0x0804
/-- MEM_SPARES_EXHAUSTED -/
def evMemSparesExhausted : Nat := 0x0805
/-- MEM_REFRESH -/
def evMemRefresh : Nat := 0x0806

/-! R662 -/
/-- TST_VERDICT -/
def evTstVerdict : Nat := 0x0880
/-- TST_SLICE_ABORTED -/
def evTstSliceAborted : Nat := 0x0881
/-- TST_COVERAGE_LATE -/
def evTstCoverageLate : Nat := 0x0882
/-- REL_YIELD -/
def evRelYield : Nat := 0x0883
/-- REL_YIELD_END -/
def evRelYieldEnd : Nat := 0x0884
/-- REL_BOUND_EXCEEDED -/
def evRelBoundExceeded : Nat := 0x0885
/-- REP_RECORD_FULL -/
def evRepRecordFull : Nat := 0x0886
/-- FW_SWITCH_DONE -/
def evFwSwitchDone : Nat := 0x0887
/-- FW_SWITCH_FAILED -/
def evFwSwitchFailed : Nat := 0x0888

/-! R685 -/
/-- PMC_DUMP_DONE -/
def evPmcDumpDone : Nat := 0x0900
/-- PMC_DUMP_LATE -/
def evPmcDumpLate : Nat := 0x0901
/-- PMC_SATURATED -/
def evPmcSaturated : Nat := 0x0902
/-- PMC_SAMPLE_DROP -/
def evPmcSampleDrop : Nat := 0x0903

/-! R704 -/
/-- PWR_UNDERVOLTAGE -/
def evPwrUndervoltage : Nat := 0x0980
/-- PWR_VCORE_CEILING -/
def evPwrVcoreCeiling : Nat := 0x0981
/-- PWR_CURRENT_WARN -/
def evPwrCurrentWarn : Nat := 0x0982
/-- PWR_RAIL_FAULT_SEEN -/
def evPwrRailFaultSeen : Nat := 0x0983

/-! R740 -/
/-- HIF_LINK_CHANGE -/
def evHifLinkChange : Nat := 0x0A00
/-- HIF_FUNCTION_RESET -/
def evHifFunctionReset : Nat := 0x0A01

/-- Every range of codes that an event takes: first code and number of events (R519). -/
def eventRanges : List (Nat × Nat) :=
  [(0x0001, 3), (0x0100, 11), (0x0200, 11), (0x0300, 7), (0x0380, 6), (0x0400, 9),
   (0x0480, 6), (0x0500, 3), (0x0580, 5), (0x0600, 4), (0x0680, 7), (0x0700, 5),
   (0x0780, 7), (0x0800, 7), (0x0880, 9), (0x0900, 4), (0x0980, 4), (0x0A00, 2)]

/-- An event takes the code (R519, R522). -/
def isEventCode (c : Nat) : Bool := eventRanges.any fun r => decide (r.1 ≤ c ∧ c < r.1 + r.2)

/-- The codes marked urgent at start-up (R520, R555, R583, R624, R662, R704). -/
def urgentAtStart (c : Nat) : Bool :=
  [evDevModeChange, evSeaFifoOverflow, evPortFault, evTkuDiscontinuity, evMemUncorr, evMemPoisonWrite,
   evMemSparesExhausted, evOcuNoSpare, evOcuLoopStopped, evThmSensorBroken, evThmBlind, evThmAboveTjmax,
   evRelBoundExceeded, evRepRecordFull, evFwSwitchFailed, evPwrUndervoltage].contains c

end Sys2Proof.Machine
end

