-- ==== Sys2Proof/Machine/Signal.lean ====
section
/-! DEFINITION. Signal processing of the receive path as functions of samples: interleave correction, FFE, gain control, envelope,
level statistics (R67, R74, R81, R89, R98, R101, R105, R112); segments, vector slots and kernels of the stream engines (R124 to
R135, R142). Codes, samples and coefficients are exact integers in the units that each docstring gives. -/

namespace Sys2Proof.Machine

/-- The nearest of a range. -/
def clampInt (lo hi x : Int) : Int := max lo (min hi x)

/-- A quotient to the nearest integer, halves upwards. -/
def roundDiv (a : Int) (d : Nat) : Int := (2 * a + d) / (2 * d)

/-- A 9-bit two's complement sample (R67). -/
def sat9 (x : Int) : Int := clampInt (-256) 255 x

/-- A quotient rounded to the nearest integer, halves away from zero (R225, R402). -/
def roundAway (n : Int) (d : Nat) : Int :=
  if 0 ≤ n then (2 * n + d) / (2 * d) else -((2 * (-n) + d) / (2 * d))

/-- The sign of a number. -/
def signInt (x : Int) : Int := if 0 < x then 1 else if x < 0 then -1 else 0

/-! Interleave correction and FFE. -/

/-- R81: an ADC code corrected with the offset (1/16 LSB) and gain (0.01 %) of its slice: the offset is taken off, then the gain
deviation. The order and the rounding are the model's (DESIGN CHOICE, log entry 125). -/
def correctCode (off gain code : Int) : Int :=
  clampInt (-128) 127 (roundDiv ((16 * code - off) * (10000 - gain)) 160000)

/-- The coefficient of an FFE tap, 10 bits signed, of an accumulator in 2^-16 (R98). -/
def tapCoef (acc : Int) : Int := clampInt (-512) 511 (roundDiv acc 65536)

/-- The FFE output at one sample: `xs` are the sample and its 31 predecessors, newest first. A coefficient of 128 is unity gain
(DESIGN CHOICE, log entry 125). -/
def ffeOut (taps xs : List Int) : Int := sat9 (roundDiv ((taps.zip xs).foldl (fun a p => a + tapCoef p.1 * p.2) 0) 128)

/-- FFE outputs over samples in time order; the samples before the first count as `hist`, newest first. -/
def ffeRun (taps : List Int) : List Int → List Int → List Int
  | _, [] => []
  | hist, x :: xs => ffeOut taps (x :: hist) :: ffeRun taps ((x :: hist).take 31) xs

/-- Sign-error LMS (R98): one update with the sign of the error and the 32 tap inputs; the step is 2^-k. -/
def ffeLms (k : Nat) (taps : List Int) (u : Int × List Int) : List Int :=
  (taps.zipIdx).map fun t => clampInt (-33554432) 33554431 (t.1 + signInt u.1 * u.2.getD t.2 0 * 2 ^ (16 - k))

/-! Gain control (R74). -/

/-- VGA gain from -6 dB to +14 dB in 0.25 dB steps. -/
def vgaClamp (g : Int) : Int := clampInt (-24) 56 g

/-- R74: one AGC update moves the VGA by one step towards the target; `rms` is in 1/16 LSB, the target in LSB. -/
def agcStep (target : Nat) (g : Int) (rms : Nat) : Int :=
  vgaClamp (g + (if rms < 16 * target then 1 else if 16 * target < rms then -1 else 0))

/-- R102 step 2: the RMS code is within 0.5 dB of the target: a ratio between 10^-0.025 and 10^0.025. -/
def agcNear (target rms : Nat) : Bool := decide (944061 * 16 * target ≤ 1000000 * rms ∧ 1000000 * rms ≤ 1059254 * 16 * target)

/-! The envelope tap (R73, R101, R112). -/

/-- Samples of a 20 ns window. -/
def envWindow (half listen : Bool) : Nat := if listen then 1125 else if half then 2250 else 4500

/-- The envelope detector of a lane: the window in progress, the last envelope sample, and its 1 ms average (50,000 samples at
50 MS/s), which changes when a millisecond is complete (DESIGN CHOICE, log entry 126). -/
structure Envelope where
  sum : Nat := 0
  n : Nat := 0
  sample : Nat := 0
  avgSum : Nat := 0
  avgN : Nat := 0
  avg : Nat := 0
  valid : Bool := false
deriving DecidableEq, Repr

/-- R112: one interleave-corrected ADC sample enters; a full window gives a 16-bit envelope sample, the mean of the squares. While
LOS is asserted the samples are marked invalid (R113). -/
def Envelope.take (e : Envelope) (window : Nat) (los : Bool) (x : Int) : Envelope :=
  let sum := e.sum + x.natAbs * x.natAbs
  if e.n + 1 < window then { e with sum := sum, n := e.n + 1 }
  else
    let v := min (sum / window) 65535
    let full := e.avgN + 1 = 50000
    { sum := 0, n := 0, sample := v, avgSum := if full then 0 else e.avgSum + v, avgN := if full then 0 else e.avgN + 1,
      avg := if full then (e.avgSum + v) / 50000 else e.avg, valid := !los }

/-- R101: a sample divided by the envelope normalised to its 1 ms average. Before the first average, and on a zero envelope,
the sample passes. -/
def pilotCancel (e : Envelope) (x : Int) : Int :=
  if e.avg = 0 ∨ e.sample = 0 then x else sat9 (roundDiv (x * e.avg) e.sample)

/-- R98, R101, R112: corrected codes in time order through the envelope tap, the FFE and, where it is on, the pilot canceller. `hist`
holds the codes before the first, newest first. Answers the envelope detector, the codes held, and the samples. -/
def frontRun (taps : List Int) (window : Nat) (los cancel : Bool) : Envelope → List Int → List Int → Envelope × List Int × List Int
  | e, hist, [] => (e, hist, [])
  | e, hist, x :: xs =>
    let e1 := e.take window los x
    let y := ffeOut taps (x :: hist)
    let r := frontRun taps window los cancel e1 ((x :: hist).take 31) xs
    (r.1, r.2.1, (if cancel then pilotCancel e1 y else y) :: r.2.2)

/-! Level statistics (R105). -/

/-- The nearest of the four nominal levels -192, -64, 64, 192; a tie goes up (DESIGN CHOICE, log entry 127). -/
def levelOf (x : Int) : Nat := if x < -128 then 0 else if x < 0 then 1 else if x < 128 then 2 else 3

/-- Count, sum and sum of squares of the gathered samples of a level. `hist` counts samples by value. -/
def levelSums (hist : List (Int × Nat)) (k : Nat) : Nat × Int × Int :=
  (hist.filter fun p => levelOf p.1 == k).foldl
    (fun a p => (a.1 + p.2, a.2.1 + p.1 * p.2, a.2.2 + p.1 * p.1 * p.2)) (0, 0, 0)

/-- The mean of a level in 1/16 LSB, to the nearest; none without a sample. -/
def levelMean (hist : List (Int × Nat)) (k : Nat) : Option Int :=
  let s := levelSums hist k
  if s.1 = 0 then none else some (roundDiv (16 * s.2.1) s.1)

/-- The integer square root by bisection between `lo` and `hi`. -/
def sqrtIn (v : Nat) : Nat → Nat → Nat → Nat
  | 0, lo, _ => lo
  | n + 1, lo, hi =>
    let mid := (lo + hi + 1) / 2
    if hi ≤ lo then lo else if mid * mid ≤ v then sqrtIn v n mid hi else sqrtIn v n lo (mid - 1)

/-- The standard deviation of a level in 1/16 LSB, to the nearest; none without a sample. -/
def levelDev (hist : List (Int × Nat)) (k : Nat) : Option Nat :=
  let s := levelSums hist k
  if s.1 = 0 then none
  else
    let var4 := (1024 * (s.1 * s.2.2 - s.2.1 * s.2.1)).toNat / (s.1 * s.1)
    some ((sqrtIn var4 16 0 16384 + 1) / 2)

/-- The sums S and D of R105 from the published figures, times 64 and 4 in squared figures: S64 is the sum of the squares of
4 mu_k minus the sum of the means, D4 the sum of the squares of the deviations. D / S is 16 D4 / S64. -/
def snrSums (mu sigma : List Int) : Nat × Nat :=
  let t := mu.foldl (· + ·) 0
  ((mu.map fun m => (4 * m - t).natAbs * (4 * m - t).natAbs).sum, (sigma.map fun d => d.natAbs * d.natAbs).sum)

/-- The level separation ratio of R105 in 0.001, to the nearest; none where the outer levels coincide. -/
def levelSeparation (mu : List Int) : Option Int :=
  let m (k : Nat) : Int := mu.getD k 0
  let w := m 3 - m 0
  let gap := min (m 1 - m 0) (min (m 2 - m 1) (m 3 - m 2))
  if w ≤ 0 then none else some (roundDiv (3000 * gap) w.toNat)

/-! Slice verdicts (R89). -/

/-- R89: the residual error after correction exceeds 4 LSB of offset (1/16 LSB), 6.0 % of gain (0.01 %) or 600 fs of skew (fs), or
more than 90 % of the codes are one value. -/
def residBad (r : SliceResid) : Bool :=
  decide (64 < r.off.natAbs ∨ 600 < r.gain.natAbs ∨ 600 < r.skew.natAbs ∨ 9 * r.codes < 10 * r.same)

/-! The stream engines (R124 to R131). -/

/-- R125: an accumulator saturates at -2^35 and 2^35 - 1. -/
def satAcc (x : Int) : Int := clampInt (-34359738368) 34359738367 x

/-- R124: one vector MAC: 128 products of 9-bit operands, each added to one of 128 accumulators. -/
def vectorMac (acc : List Int) (a b : List Int) : List Int :=
  (List.range 128).map fun i => satAcc (acc.getD i 0 + sat9 (a.getD i 0) * sat9 (b.getD i 0))

/-- R124: a rounded 9-bit sample product of the vector ALU; 256 stands for unity (DESIGN CHOICE, log entry 128). -/
def aluProduct (x y : Int) : Int := sat9 (roundDiv (x * y) 256)

/-- Four 9-bit samples in one 36-bit word, the earliest lowest (R22, R125). -/
def packWord (xs : List Int) : BitVec 36 :=
  BitVec.ofNat 36 ((List.range 4).map fun k => (xs.getD k 0 % 512).toNat * 512 ^ k).sum

/-- A sample of a packed word. -/
def unpackWord (w : BitVec 36) (k : Nat) : Int :=
  let v := w.toNat / 512 ^ k % 512
  if 256 ≤ v then (v : Int) - 512 else v

/-- The number of ones below bit 7. -/
def ones7 (v : Nat) : Nat := ((List.range 7).filter fun b => v.testBit b).length

/-- The columns of the 36 data bits in a (43,36) Hsiao code: odd weight, none of weight 7 (R526). The spec does not list them: the
35 of weight 3 ascending, then 0x1F (DESIGN CHOICE, log entry 129). -/
def dataColumns : List Nat := ((List.range 128).filter fun v => ones7 v == 3) ++ [0x1F]

/-- The 7 check bits of a 36-bit word (R126, R526). -/
def checkBits (w : BitVec 36) : BitVec 7 :=
  BitVec.ofNat 7 ((dataColumns.zipIdx).foldl (fun a c => if w.getLsbD c.2 then a ^^^ c.1 else a) 0)

/-- A word of local memory: 36 bits and their check bits (R126). -/
def localWord (w : BitVec 36) : BitVec 43 := (checkBits w) ++ w

/-- The words of a packed vector of samples. -/
def packAll (xs : List Int) : List (BitVec 36) := (List.range (xs.length / 4)).map fun i => packWord (xs.drop (4 * i))

/-! Kernels (R134, R135). Coefficients are 9 bits with 128 for unity; they stand in one list in the order of the nested tiers: 16
linear, 10 second-order, 8 echo taps, 2 for the tracking of the echo phase, 12 third-order. -/

/-- Words of local memory that a kernel uses in each engine (R134). -/
def kernelLocal (id : Nat) : Nat :=
  match id with
  | 0x11 => 1600
  | 0x22 => 1700
  | 0x33 => 3100
  | 0x44 => 3200
  | 0x80 => 9000
  | 0x81 => 600
  | _ => 0

/-- Blocks of 1,024 samples that the ring of a kernel holds in local memory. -/
def ringBlocks (id : Nat) : Nat := max 1 (kernelLocal id / 256)

/-- R135: the adaptation engines choose 12 of the 20 third-order terms; the spec does not say which. A word that the spec leaves open
chooses them, in ascending order: those whose bits are set first, up to 12. -/
def chooseThird (w : Nat) : List Nat :=
  let on := (List.range 20).filter fun b => w.testBit b
  let off := (List.range 20).filter fun b => !w.testBit b
  let pick := (on ++ off).take 12
  (List.range 20).filter fun b => pick.contains b

/-- Pairs i, j with i at most j below 4: the second-order terms of memory 4. -/
def pairs4 : List (Nat × Nat) := (List.range 4).flatMap fun i => ((List.range 4).filter fun j => i ≤ j).map fun j => (i, j)

/-- Triples below 4: the 20 third-order terms of memory 4. -/
def triples4 : List (Nat × Nat × Nat) :=
  pairs4.flatMap fun p => ((List.range 4).filter fun k => p.2 ≤ k).map fun k => (p.1, p.2, k)

/-- The operands of a kernel's terms at one sample; `x i` is the sample i symbols before. A tier's terms open the list of the next
(R135). `third` numbers the third-order terms in use, `delays` the echoes. -/
def kernelTerms (t : Nat) (delays third : List Nat) (x : Nat → Int) : List Int :=
  let lin := (List.range 16).map x
  let quad := pairs4.map fun p => aluProduct (x p.1) (x p.2)
  let echo := (List.range 4).flatMap fun k =>
    match delays[k]? with | none => [0, 0] | some d => [x d, x (d + 1)]
  let track := match delays.head? with | none => [0, 0] | some d => [x (d - 1), x (d + 2)]
  let cube := (List.range 12).map fun k =>
    match third[k]?.bind (triples4[·]?) with
    | none => 0
    | some q => aluProduct (aluProduct (x q.1) (x q.2.1)) (x q.2.2)
  match t with
  | 0 => []
  | 1 => lin
  | 2 => lin ++ quad
  | 3 => lin ++ quad ++ echo ++ track
  | _ => lin ++ quad ++ echo ++ track ++ cube

/-- The 128 operands of step k of a segment: two terms for each of its 64 samples (R128, R129). -/
def stepOperands (terms : List (List Int)) (k : Nat) : List Int :=
  (terms.map fun ts => ts.getD (2 * k) 0) ++ (terms.map fun ts => ts.getD (2 * k + 1) 0)

/-- The coefficients of step k, once for each sample. -/
def stepCoefs (coefs : List Int) (k : Nat) : List Int :=
  List.replicate 64 (coefs.getD (2 * k) 0) ++ List.replicate 64 (coefs.getD (2 * k + 1) 0)

/-- The accumulators after a segment of `steps` steps (R129). -/
def segmentAcc (terms : List (List Int)) (coefs : List Int) : Nat → List Int
  | 0 => List.replicate 128 0
  | k + 1 => vectorMac (segmentAcc terms coefs k) (stepOperands terms k) (stepCoefs coefs k)

/-- The 64 equalised samples of a segment from its accumulators. -/
def segmentOut (acc : List Int) : List Int :=
  (List.range 64).map fun i => sat9 (roundDiv (satAcc (acc.getD i 0 + acc.getD (i + 64) 0)) 128)

/-- Master coefficients that pass the samples: the linear centre tap is unity, every other term 0. -/
def passMaster (centre : Nat) : List Int := (List.range 48).map fun i => if i = centre then 128 * 16777216 else 0

/-- Master coefficients whose linear taps have moved to a new centre (DESIGN CHOICE, log entry 134). -/
def recentre (old new : Nat) (masters : List Int) : List Int :=
  masters.zipIdx.map fun c =>
    if 16 ≤ c.2 then c.1
    else if new ≤ c.2 + old ∧ c.2 + old < new + 16 then masters.getD (c.2 + old - new) 0 else 0

/-- Where a kernel finds the sample `i` symbols before place `n` of the present block: blocks back, and the place in that block.
The first 64 samples of a block are the last 64 of the one before it (R29). -/
def samplePlace (n i : Nat) : Nat × Nat := if i ≤ n then (0, n - i) else ((i - n - 1) / 960 + 1, 959 - (i - n - 1) % 960)

/-- Sign-error LMS of the adaptation engines (R142): `u` is the sign of the error with the term values; step 2^-k, leakage 2^-m or
none. Masters are in 2^-24 of a coefficient. -/
def kernelLms (k : Nat) (leak : Option Nat) (masters : List Int) (u : Int × List Int) : List Int :=
  (masters.zipIdx).map fun c =>
    if u.2.length ≤ c.2 then c.1
    else
      let held := match leak with | none => c.1 | some m => c.1 - roundDiv c.1 (2 ^ m)
      clampInt (-4294967296) 4278190080 (held + signInt u.1 * u.2.getD c.2 0 * 2 ^ (24 - k))

/-- The 9-bit set of master coefficients. -/
def coefSetOf (masters : List Int) : List Int := masters.map fun c => clampInt (-256) 255 (roundDiv c 16777216)

end Sys2Proof.Machine
end

