-- ==== Sys2Proof/Machine/Detector.lean ====
section
/-! DEFINITION. The sequence detector and the codecs of SDF as functions (R173 to R209): the inner code, its interleaver, mapping and
precoding, distribution over line lanes, the trellis and its soft-output Viterbi detector, the slicer, the hunt test, and
RS(544,514). -/

namespace Sys2Proof.Machine

/-! The inner code (R178 to R180). -/

/-- One step of multiplication by x modulo g(x) = 0x11D. -/
def xStep (v : Nat) : Nat := if 128 ≤ v then (2 * v) ^^^ 0x11D else 2 * v

/-- x^d modulo g(x). -/
def xPow : Nat → Nat
  | 0 => 1
  | d + 1 => xStep (xPow d)

/-- The values x^0, x^1, … from a first one on. -/
def xPowers : Nat → Nat → List Nat
  | 0, _ => []
  | n + 1, v => v :: xPowers n (xStep v)

/-- Single-error syndromes of c0 to c143: x^(143 - i) mod g(x). -/
def bitSyndromes : List Nat := (xPowers 144 1).reverse

/-- The exclusive or of the values whose position is set. -/
def xorWhere (p : Nat → Bool) (vs : List Nat) : Nat :=
  (vs.zipIdx).foldl (fun a v => if p v.2 then a ^^^ v.1 else a) 0

/-- The syndrome of a received word; bit i of the vector is r_i (R180). -/
def syndrome (r : BitVec 144) : Nat := xorWhere r.getLsbD bitSyndromes

/-- The parity byte of 136 payload bits (R179): the remainder, p7 first. -/
def parity (m : BitVec 136) : Nat := xorWhere m.getLsbD (bitSyndromes.take 136)

/-- The codeword of a payload piece; bit i of the vector is c_i (R179). -/
def encodeWord (m : BitVec 136) : BitVec 144 :=
  let p := parity m
  BitVec.ofNat 144 (m.toNat + ((List.range 8).map fun k => if p.testBit (7 - k) then 2 ^ (136 + k) else 0).sum)

/-! Interleaver, mapping and precoding (R181 to R188). -/

/-- The codeword and first bit that symbol j of a block carries (R181). -/
def symbolPlace (j : Nat) : Nat × Nat := (j % 4, 2 * (j / 4))

/-- The Gray index of a bit pair, first bit most significant (R183). -/
def grayOf (first second : Bool) : Nat :=
  match first, second with
  | false, false => 0
  | false, true => 1
  | true, true => 2
  | true, false => 3

/-- The bit pair of a Gray index. -/
def grayBits (g : Nat) : Bool × Bool :=
  match g % 4 with
  | 0 => (false, false)
  | 1 => (false, true)
  | 2 => (true, true)
  | _ => (true, false)

/-- R185: the precoded level of a symbol after level `p`. -/
def precode (g p : Nat) : Nat := (g % 4 + 4 - p % 4) % 4

/-- R185: the receiver's recovery. -/
def unprecode (p q : Nat) : Nat := (p + q) % 4

/-- The levels of a run of Gray indices, precoded from level `p` on. -/
def precodeRun : Nat → List Nat → List Nat
  | _, [] => []
  | p, g :: gs => precode g p :: precodeRun (precode g p) gs

/-- The Gray index of symbol j of a block of four codewords. -/
def blockGray (ws : List (BitVec 144)) (j : Nat) : Nat :=
  let c := ws.getD (j % 4) 0
  grayOf (c.getLsbD (2 * (j / 4))) (c.getLsbD (2 * (j / 4) + 1))

/-- The PCS lanes of the k-th line lane of a port with K line lanes and F PCS lanes (R187). -/
def lanePcs (f kk k : Nat) : List Nat := (List.range (f / kk)).map (k * f / kk + ·)

/-! Chase decoding (R198). -/

/-- The four least reliable positions, lower index first on equal reliability. -/
def leastReliable (rel : List Nat) : List Nat :=
  (List.range 16).foldl (fun acc v =>
    if 4 ≤ acc.length then acc
    else (acc ++ ((rel.zipIdx.filter fun p => p.1 == v).map Prod.snd)).take 4) []

/-- The positions flipped by test pattern t. -/
def flipsOf (pos : List Nat) (t : Nat) : List Nat := (pos.zipIdx.filter fun p => t.testBit p.2).map Prod.fst

/-- A candidate of one pattern: its flips, from the syndrome of the hard word. -/
def candidate (syn : Nat) (tested : List Nat) : Option (List Nat) :=
  let s := tested.foldl (fun a i => a ^^^ bitSyndromes.getD i 0) syn
  if s = 0 then some tested
  else
    match bitSyndromes.idxOf? s with
    | none => none
    | some i => some (if tested.contains i then tested.erase i else tested ++ [i])

/-- The metric of a candidate. -/
def metric (rel flips : List Nat) : Nat := match rel, flips with | r, f => (f.map fun i => r.getD i 0).sum

/-- The decoder's choice: the pattern and the flips, or none. `n` positions are tested: 4, or 0 for hard decoding (R217). -/
def chase (hard : BitVec 144) (rel : List Nat) (n : Nat) : Option (Nat × List Nat) :=
  let syn := syndrome hard
  let pos := (leastReliable rel).take n
  (List.range (2 ^ n)).foldl (fun best t =>
    match candidate syn (flipsOf pos t) with
    | none => best
    | some f =>
      match best with
      | none => some (t, f)
      | some (_, g) => if metric rel f < metric rel g then some (t, f) else best) none

/-- A word with positions toggled. -/
def toggle (w : BitVec 144) (fs : List Nat) : BitVec 144 := fs.foldl (fun a i => a ^^^ BitVec.twoPow 144 i) w

/-! Payload, distribution, blocks (R177, R182, R187, R188). -/

/-- R177: the next bit of PRBS31, polynomial x^31 + x^28 + 1: the exclusive or of the bits 31 and 28 places before. `st` holds the
last 31 bits, the newest in bit 0. -/
def prbsBit (st : BitVec 31) : Bool := st.getLsbD 30 ^^ st.getLsbD 27

/-- The state after one bit. -/
def prbsNext (st : BitVec 31) : BitVec 31 := (st <<< 1) ||| (if prbsBit st then 1 else 0)

/-- `n` bits of the fill from a state on. -/
def prbsRun : Nat → BitVec 31 → List Bool
  | 0, _ => []
  | n + 1, st => prbsBit st :: prbsRun n (prbsNext st)

/-- R182: the four codewords of a block: payload pieces of 136 bits in the order q = 0 to 3. -/
def blockWords (payload : List Bool) : List (BitVec 144) :=
  (List.range 4).map fun q =>
    encodeWord (BitVec.ofNat 136 (((payload.drop (136 * q)).take 136).zipIdx.foldl (fun a b => a + b.1.toNat * 2 ^ b.2) 0))

/-- The 288 Gray indices of a block of payload (R181, R182). -/
def blockSymbols (payload : List Bool) : List Nat := (List.range 288).map (blockGray (blockWords payload))

/-- The symbols of a payload: its blocks follow one another without gaps (R182). -/
def payloadSymbols (payload : List Bool) : List Nat :=
  (List.range (payload.length / 544)).flatMap fun b => blockSymbols ((payload.drop (544 * b)).take 544)

/-- PCS lanes of a port type: 400GbE 16, 800GbE 32, 1.6TbE 16 (R187, R297). -/
def pcsLanesOf (type : Nat) : Nat := if type = 1 then 32 else 16

/-- R188: the 10-bit FEC symbols of a line lane's PCS lanes, round-robin in ascending order, one of each in turn; `phase` is the
free-running start. -/
def interleaveFec (lanes : List (List (BitVec 10))) (phase n : Nat) : List (BitVec 10) :=
  (List.range n).map fun i =>
    let k := (i + phase) % max 1 lanes.length
    (lanes.getD k []).getD ((i + phase) / max 1 lanes.length) 0

/-- R188: the receiving end takes the lanes apart, once the markers have told it the phase. -/
def separateFec (count phase : Nat) (xs : List (BitVec 10)) : List (List (BitVec 10)) :=
  (List.range count).map fun k => (xs.zipIdx.filter fun p => (p.2 + phase) % max 1 count == k).map Prod.fst

/-- R188: the bits of a FEC symbol, first bit first. -/
def symbolBits (v : BitVec 10) : List Bool := (List.range 10).map v.getLsbD

/-! The trellis (R192 to R194). A state holds two levels: 4 times the present one plus the one before. -/

/-- The entry of the level table for the present level and the two before. -/
def levelIndex (a b c : Nat) : Nat := 16 * a + 4 * b + c

/-- R194: the bits that a branch carries from level `b` to level `a`. -/
def branchBits (pre : Bool) (a b : Nat) : Bool × Bool := grayBits (if pre then unprecode a b else a)

/-- R193: the branch metric (y - mu)^2 in 1/256 LSB^2; `mu` is in 1/16 LSB. -/
def branchMetric (y mu : Int) : Nat := (16 * y - mu).natAbs * (16 * y - mu).natAbs

/-- One symbol on a survivor path: its bits, and of each the smallest metric difference to a path with the other value. -/
structure SoftSymbol where
  first : Bool
  second : Bool
  d1 : Nat
  d2 : Nat
deriving DecidableEq, Repr

/-- A survivor: its metric and its symbols, newest first. -/
structure Survivor where
  metric : Nat := 0
  path : List SoftSymbol := []
deriving DecidableEq, Repr

/-- A metric difference that stands for none. -/
def noDiff : Nat := 1000000000

/-- R195: the reliabilities of the last 24 symbols of a survivor after a competitor has merged into it. -/
def mergeSoft (diff : Nat) (win lose : List SoftSymbol) : List SoftSymbol :=
  ((win.take 24).zipIdx.map fun w =>
    match lose[w.2]? with
    | none => w.1
    | some o => { w.1 with
        d1 := if w.1.first = o.first then w.1.d1 else min w.1.d1 diff
        d2 := if w.1.second = o.second then w.1.d2 else min w.1.d2 diff }) ++ win.drop 24

/-- The survivor of a state after one sample: the best of the four branches into it, with its reliabilities brought up to date. -/
def extendState (pre : Bool) (mu : Nat → Int) (y : Int) (sv : List Survivor) (st : Nat) : Survivor :=
  let a := st / 4
  let b := st % 4
  let bits := branchBits pre a b
  let into := (List.range 4).map fun c =>
    let p := sv.getD (4 * b + c) {}
    ({ metric := p.metric + branchMetric y (mu (levelIndex a b c)),
       path := { first := bits.1, second := bits.2, d1 := noDiff, d2 := noDiff } :: p.path } : Survivor)
  let best := into.foldl (fun w p => if p.metric < w.metric then p else w) (into.headD {})
  into.foldl (fun w p =>
    if p.path = w.path then w else { w with path := mergeSoft (p.metric - best.metric) w.path p.path }) best

/-- One sample through the 16 states. -/
def viterbiStep (pre : Bool) (mu : Nat → Int) (sv : List Survivor) (y : Int) : List Survivor :=
  (List.range 16).map (extendState pre mu y sv)

/-- The best survivor, the lowest-numbered state on a tie. -/
def bestSurvivor (sv : List Survivor) : Survivor := sv.foldl (fun w p => if p.metric < w.metric then p else w) (sv.headD {})

/-- R195: symbols decided with a depth of 64, in time order: after each sample the best survivor gives its symbol 64 places back. -/
def viterbiRun (pre : Bool) (mu : Nat → Int) : List Survivor → List Int → List SoftSymbol
  | _, [] => []
  | sv, y :: ys =>
    let nx := viterbiStep pre mu sv y
    match (bestSurvivor nx).path[64]? with
    | none => viterbiRun pre mu nx ys
    | some x => x :: viterbiRun pre mu (nx.map fun p => { p with path := p.path.take 64 }) ys

/-- R196: the reliability of a metric difference in 1/256 LSB^2, with the soft scale in LSB^2. -/
def reliability (q diff : Nat) : Nat := min 15 (diff / (256 * max 1 q))

/-! The slicer (R197). -/

/-- The level that the table gives to a decision alone: the mean of its 16 entries, in 1/16 LSB (DESIGN CHOICE, log entry 130). -/
def sliceLevel (mu : Nat → Int) (a : Nat) : Int := roundDiv (((List.range 16).map fun k => mu (16 * a + k)).foldl (· + ·) 0) 16

/-- Twice the three midpoints, in 1/16 LSB. -/
def sliceThresholds (mu : Nat → Int) : List Int := (List.range 3).map fun k => sliceLevel mu k + sliceLevel mu (k + 1)

/-- The level decided for a sample. -/
def sliceDecide (mu : Nat → Int) (y : Int) : Nat := ((sliceThresholds mu).filter fun t => decide (t ≤ 32 * y)).length

/-- R197: the decision with the distance of each bit to the nearest threshold that flips it, in 1/256 LSB (so that `reliability`
divides it by the soft scale). `b` is the level decided before. -/
def sliceSymbol (pre : Bool) (mu : Nat → Int) (b : Nat) (y : Int) : SoftSymbol :=
  let a := sliceDecide mu y
  let bits := branchBits pre a b
  let dist (f : Bool × Bool → Bool) : Nat :=
    (List.range 4).foldl (fun m k =>
      if f (branchBits pre k b) = f bits then m
      else
        let t := (sliceThresholds mu).getD (if k < a then a - 1 else a) 0
        let near := if k < a then (sliceThresholds mu).getD k t else (sliceThresholds mu).getD (k - 1) t
        min m (8 * (32 * y - near).natAbs)) noDiff
  { first := bits.1, second := bits.2, d1 := dist Prod.fst, d2 := dist Prod.snd }

/-- The slicer over samples. -/
def sliceRun (pre : Bool) (mu : Nat → Int) : Nat → List Int → List SoftSymbol
  | _, [] => []
  | b, y :: ys => sliceSymbol pre mu b y :: sliceRun pre mu (sliceDecide mu y) ys

/-- The 288 symbols of a block from its samples with 64 before and 64 after (R195): the survivors have merged after the first 64
(DESIGN CHOICE, log entry 130). -/
def detectBlock (slicer pre : Bool) (mu : Nat → Int) (ys : List Int) : List SoftSymbol :=
  if slicer then ((sliceRun pre mu 0 ys).drop 64).take 288
  else ((viterbiRun pre mu (List.replicate 16 {}) ys).drop 64).take 288

/-- Codeword q of a detected block: hard bits and reliabilities in the order of transmission (R181, R196). -/
def codewordOf (q scale : Nat) (xs : List SoftSymbol) : BitVec 144 × List Nat :=
  let mine := (List.range 72).map fun i => xs.getD (4 * i + q) { first := false, second := false, d1 := 0, d2 := 0 }
  let bits := mine.flatMap fun x => [x.first, x.second]
  (BitVec.ofNat 144 (bits.zipIdx.foldl (fun a b => a + b.1.toNat * 2 ^ b.2) 0),
   mine.flatMap fun x => [reliability scale x.d1, reliability scale x.d2])

/-! The hunt test (R201, R202). -/

/-- The two least reliable positions, lower index first on equal reliability. -/
def twoLeast (rel : List Nat) : List Nat := (leastReliable rel).take 2

/-- R201: a candidate shows a zero syndrome as it is, or after flipping its least reliable bit, its second least, or both. -/
def huntPass (hard : BitVec 144) (rel : List Nat) : Bool :=
  let s := syndrome hard
  let f := (twoLeast rel).map fun i => bitSyndromes.getD i 0
  let a := f.getD 0 0
  let b := f.getD 1 0
  s == 0 || s == a || s == b || s == a ^^^ b

/-- A detected symbol with its reliabilities: bits first and second, with 4-bit reliability each (R196). -/
abbrev HuntSymbol := (Bool × Nat) × (Bool × Nat)

/-- A candidate codeword of a stream: 72 of its symbols from a position on. -/
def huntWord (xs : List HuntSymbol) (pos : Nat) : BitVec 144 × List Nat :=
  let bits := ((xs.drop pos).take 72).flatMap fun x => [x.1, x.2]
  (BitVec.ofNat 144 (bits.zipIdx.foldl (fun a b => a + b.1.1.toNat * 2 ^ b.2) 0), bits.map fun b => b.2)

/-- R202: at an offset, at least 40 of 64 consecutive candidates show a zero syndrome. -/
def huntOffset (xs : List HuntSymbol) (o : Nat) : Bool :=
  decide (40 ≤ ((List.range 64).filter fun k =>
    let c := huntWord xs (o + 72 * k)
    decide (o + 72 * k + 72 ≤ xs.length) && huntPass c.1 c.2).length)

/-- The first of some offsets at which a stream finds its boundary. -/
def huntStream (xs : List HuntSymbol) (offs : List Nat) : Option Nat := offs.find? (huntOffset xs)

/-! RS(544,514) over GF(2^10) (R209): the code of IEEE 802.3, with the field polynomial x^10 + x^3 + 1 and the generator of the
roots alpha^0 to alpha^29 (PRESUMED from IEEE 802.3, log entry 131). Symbol 0 is sent first and has the highest degree. -/

/-- Multiplication by alpha. -/
def gfStep (v : Nat) : Nat := if 512 ≤ v then (2 * v) ^^^ 0x409 else 2 * v

/-- Multiplication in GF(2^10). -/
def gfMul (a b : Nat) : Nat :=
  ((List.range 10).foldl (fun (p : Nat × Nat) k => (if b.testBit k then p.1 ^^^ p.2 else p.1, gfStep p.2)) (0, a)).1

/-- Powers by squaring. -/
def gfPow (a : Nat) (e : Nat) : Nat :=
  ((List.range 10).foldl (fun (p : Nat × Nat) k => (if e.testBit k then gfMul p.1 p.2 else p.1, gfMul p.2 p.2)) (1, a)).1

/-- The inverse: the power 1,022. -/
def gfInv (a : Nat) : Nat := gfPow a 1022

/-- A polynomial, lowest degree first, at a point. -/
def gfEval (p : List Nat) (x : Nat) : Nat := p.foldr (fun c a => gfMul a x ^^^ c) 0

/-- The product of polynomials. -/
def gfPolyMul (p q : List Nat) : List Nat :=
  (List.range (p.length + q.length - 1)).map fun n =>
    (List.range (n + 1)).foldl (fun a i => a ^^^ gfMul (p.getD i 0) (q.getD (n - i) 0)) 0

/-- The generator polynomial of degree 30, lowest degree first. -/
def rsGen : List Nat := (List.range 30).foldl (fun g j => gfPolyMul g [gfPow 2 j, 1]) [1]

/-- The 30 parity symbols of 514 message symbols, first sent first. -/
def rsParity (m : List Nat) : List Nat :=
  let g := (rsGen.take 30).reverse
  m.foldl (fun r x =>
    let f := x ^^^ r.headD 0
    (g.zipIdx).map fun c => gfMul f c.1 ^^^ r.getD (c.2 + 1) 0) (List.replicate 30 0)

/-- A codeword of 544 symbols. -/
def rsEncode (m : List Nat) : List Nat := m ++ rsParity m

/-- The 30 syndromes of a received word. -/
def rsSyndromes (r : List Nat) : List Nat := (List.range 30).map fun j => r.foldl (fun a x => gfMul a (gfPow 2 j) ^^^ x) 0

/-- Berlekamp and Massey: locator, previous locator, length, shift and previous discrepancy after `n` syndromes. -/
def rsLocator (syn : List Nat) : Nat → List Nat × List Nat × Nat × Nat × Nat
  | 0 => ([1], [1], 0, 1, 1)
  | n + 1 =>
    match rsLocator syn n with
    | (c, b, len, m, bd) =>
      let d := (List.range (len + 1)).foldl (fun a i => a ^^^ gfMul (c.getD i 0) (if i ≤ n then syn.getD (n - i) 0 else 0)) 0
      if d = 0 then (c, b, len, m + 1, bd)
      else
        let f := gfMul d (gfInv bd)
        let t := List.replicate m 0 ++ b.map (gfMul f)
        let c1 := (List.range (max c.length t.length)).map fun i => c.getD i 0 ^^^ t.getD i 0
        if 2 * len ≤ n then (c1, c, n + 1 - len, 1, d) else (c1, b, len, m + 1, bd)

/-- The positions at which a locator vanishes: symbol i has degree 543 - i (Chien). -/
def rsRoots (c : List Nat) : List Nat := (List.range 544).filter fun i => gfEval c (gfPow 2 ((1023 - (543 - i)) % 1023)) == 0

/-- The value of the error at a position (Forney). -/
def rsValue (syn c : List Nat) (i : Nat) : Nat :=
  let x := gfPow 2 (543 - i)
  let xi := gfInv x
  let om := (gfPolyMul syn c).take 30
  let der := (c.zipIdx.filter fun p => p.2 % 2 == 1).foldl (fun a p => a ^^^ gfMul p.1 (gfPow xi (p.2 - 1))) 0
  gfMul x (gfMul (gfEval om xi) (gfInv der))

/-- R209: the decoder corrects up to 15 symbol errors: the corrected codeword and their number, or none when the word is
uncorrectable. -/
def rsDecode (r : List Nat) : Option (List Nat × Nat) :=
  let syn := rsSyndromes r
  if syn.all (· == 0) then some (r, 0)
  else
    match rsLocator syn 30 with
    | (c, _, len, _, _) =>
      let at_ := rsRoots c
      if 15 < len ∨ at_.length ≠ len then none
      else
        let fixed := at_.foldl (fun w i => w.set i (w.getD i 0 ^^^ rsValue syn c i)) r
        if (rsSyndromes fixed).all (· == 0) then some (fixed, len) else none

end Sys2Proof.Machine
end

