-- ==== Sys2Proof/Machine/State.lean ====
section
/-! DEFINITION. The state of the WX3208: every register, buffer, counter, mode and pin that the spec gives the part, as
plain data, and the queue of waiting commands. Tables are sparse (`Tbl`); an index that a table does not list reads as
the record's default, which is its value at reset. The reset is the part before VIN is valid. -/

namespace Sys2Proof.Machine

/-- Values that fuses hold (R1, R6, R376, R466, R471, R473). The reset values are the model's (log entry 2). -/
structure Fuses where
  part : Part := .wx3208
  uid : BitVec 64 := 0
  stepping : BitVec 4 := 0
  salt0 : Word := 0
  salt1 : Word := 0
  revoked : BitVec 4 := 0
  rollFw : Nat := 0
  rollKernel : Nat := 0
deriving DecidableEq, Repr

/-- The modes and start-up phases of R413. -/
inductive Mode where
  | starting | dormant | provisioned | service | guarded | workshop | shutter | startFailed
deriving DecidableEq, Repr

/-- The lane states of R286 and R421. -/
inductive LaneState where
  | down | acquire | up | fault | test
deriving DecidableEq, Repr

/-- The port states of R308. -/
inductive PortState where
  | stopped | acquire | up | fault | test
deriving DecidableEq, Repr

/-- Names an ACCEPTED command that waits for its CMD_DONE: the requester and tag (R455, R456). -/
structure Ticket where
  req : Requester
  tag : BitVec 16
deriving DecidableEq, Repr

/-- What the last read that returned data gave back: the bus output of register, claim and BAR2 reads (log entry 3). -/
structure BusRead where
  words : List Word := []
  abort : Bool := false     -- Completer Abort (R475)
  poisoned : Bool := false  -- EP set (R480)
deriving DecidableEq, Repr

/-- A record of firmware's event log (R398): an event with the 32-bit view of the selected domain, or a marker. -/
inductive LogRec where
  | event (code : Nat) (bcnt : BitVec 64) (view : Word)
  | marker (dom : Domain) (sec ns : Nat)
  | lost (addr : Nat)
  | repairIgnored (bcnt : BitVec 64)
deriving DecidableEq, Repr

/-- The device's mode and what start-up and negotiation fixed (R413, R430, R462). -/
structure Dev where
  mode : Mode := .starting
  step : Nat := 0
  error : Nat := 0
  guard : BitVec 10 := 0
  guardSince : Tbl (BitVec 64) := []
  repairIgnored : Bool := false
  negotiated : Bool := false
  refclk : Bool := false
  refclkSeen : Bool := false
  powered : Bool := false
  enterWait : List Sentence := []   -- ENTER commands that wait for the datapath (R414)
  published : Bool := false
  featHi : BitVec 112 := 0
  accepted : BitVec 128 := 0
  grant : Bool := false
  isOpen : Bool := false
  pfEnabled : Bool := false
  mgtUp : Bool := false
  log : List LogRec := []
  busRead : BusRead := {}
deriving DecidableEq, Repr

/-- The three triggers of a Shutter (R431). -/
inductive Trigger where
  | commanded | thermal | undervoltage
deriving DecidableEq, Repr

/-- The Shutter record of R437. -/
structure ShutRec where
  trigger : Trigger := .commanded
  column : Trigger := .commanded   -- in force at step 3
  broken : Bool := false
  bcnt : BitVec 64 := 0
  view : Word := 0
  began : List (BitVec 64) := []
  ended : List (BitVec 64) := []
  completed : List Bool := []
  step5At : BitVec 64 := 0
  lexSeq : Nat := 0
  pmcSeq : Nat := 0
  guard : BitVec 10 := 0
deriving DecidableEq, Repr

/-- The steps of a Shutter (R433), in order; step 1 is carried out at the trigger. -/
inductive ShutStep where
  | none | flush | save | hold | bist | power | complete
deriving DecidableEq, Repr

/-- The Shutter in progress (R431 to R437). -/
structure Shut where
  step : ShutStep := .none
  column : Trigger := .commanded
  hold : Nat := 0
  skipBist : Bool := false
  ticket : Option Ticket := none
  rec_ : ShutRec := {}
  last : Option ShutRec := none
deriving DecidableEq, Repr

/-- The three states of a mailbox (R442). -/
inductive BoxState where
  | idle | busy | complete
deriving DecidableEq, Repr

/-- One mailbox (R442). -/
structure Box where
  cmd : Word := 0
  taglen : Word := 0
  vector : BitVec 6 := 0
  state : BoxState := .idle
  seq : BitVec 8 := 0
  status : Word := 0
  resp : Word := 0
  info : Word := 0
  payload : Tbl Word := []
deriving DecidableEq, Repr

/-- An ACCEPTED command not yet recorded in CMD_DONE (R455, R456); `dropped` after a reset of its function (R447). -/
structure Outst where
  req : Requester
  tag : BitVec 16
  verb : Byte
  noun : Byte
  inst : Byte
  dropped : Bool := false
deriving DecidableEq, Repr

/-- The mailboxes and their bookkeeping (R441 to R457). Boxes are keyed 16 x requester + number. -/
structure Mb where
  box : Tbl Box := []
  waiting : List (Byte × Byte × Sentence) := []
  outstanding : List Outst := []
  counts : Tbl Nat := []      -- 256 x requester + status code
  discards : Tbl Nat := []    -- 16 x requester + number
deriving DecidableEq, Repr

/-- An event as a subsystem raises it: code, BCNT and the words its "Also carries" column lists (R459). -/
structure Ev where
  code : Nat
  bcnt : BitVec 64
  data : List Word
deriving DecidableEq, Repr

/-- A record of an event queue (R459). -/
structure EvRec where
  code : Nat
  flags : Byte
  bcnt : BitVec 64
  qseq : Word
  data : List Word
deriving DecidableEq, Repr

/-- The event queue of one requester (R458). -/
structure EvQueue where
  recs : List EvRec := []
  qseq : Word := 0
  lost : Nat := 0
  lostFirst : BitVec 64 := 0
  lostLast : BitVec 64 := 0
deriving DecidableEq, Repr

/-- Events: raised and not yet recorded, the queues, and the urgent flags that differ from start-up (R499, R520). -/
structure Evs where
  raised : List Ev := []
  queue : Tbl EvQueue := []
  urgent : Tbl Bool := []
deriving DecidableEq, Repr

/-- The states of an interrupt source (R503). -/
inductive SrcState where
  | idle | pending | inService | latched
deriving DecidableEq, Repr

/-- One interrupt source; `looked` after a read of ICU_LEVEL since its claim (R506), `live` its level condition. -/
structure Src where
  state : SrcState := .idle
  looked : Bool := false
  live : Bool := false
deriving DecidableEq, Repr

/-- One vector: coalescing settings, held entries (the source of each, oldest first), running timer, MSI-X mask and pending
bit, messages sent (R507 to R509). -/
structure Vec where
  count : Nat := 1
  time : Nat := 0
  held : List Nat := []
  timer : Bool := false
  masked : Bool := true
  pba : Bool := false
  sent : Nat := 0
  msgAddr : BitVec 64 := 0   -- message address and data of the MSI-X table entry
  msgData : Word := 0
deriving DecidableEq, Repr

/-- One instance of the interrupt controller (R498, R521). -/
structure Icu where
  src : Tbl Src := []
  vec : Tbl Vec := []
  enable : BitVec 24 := 0xFFFFFF
  urgent : BitVec 24 := 0xC20000
  route : Tbl (BitVec 6) := []
  stray : Nat := 0
  vanished : Nat := 0
  pmeCause : BitVec 24 := 0
  pmeStatus : Bool := false
  funcMask : Bool := false
  ibiSent : Nat := 0
  ibiByte : Byte := 0          -- the data byte of the last in-band interrupt (R495, R517)
  ibiRepeated : Nat := 0
deriving DecidableEq, Repr

/-- The device power states of a function (R470, R491). -/
inductive DState where
  | d0 | d3hot | d3cold
deriving DecidableEq, Repr

/-- The header of a record in a host ring (R483), with its offset in the ring. -/
structure DmaHdr where
  offset : Nat
  type : Nat
  flags : Byte
  length : Nat
  bcnt : BitVec 64
  sseq : Nat
  rseq : Nat
  dropped : Nat
  bad : List Nat := []         -- words of the data that the push read as poisoned: their slots carry POISONED (R540)
deriving DecidableEq, Repr

/-- Data that a source has completed and its channel has not yet pushed (R485). -/
structure DmaReady where
  ch : Nat
  src : Nat
  bcnt : BitVec 64
  sseq : Nat
  late : Bool
  flush : Bool
  addr : Nat                   -- where the data stands in LPDDR5X
deriving DecidableEq, Repr

/-- A DMA channel (R481 to R489). `dropped` counts since the previous record, `drops` since enable; `last` holds the headers of
the last push: a pad, if any, and the record. -/
structure Dma where
  owner : Requester := .pf0
  base : BitVec 64 := 0
  size : Nat := 0
  sources : BitVec 6 := 0
  vector : BitVec 6 := 0
  enabled : Bool := false
  head : Nat := 0
  tail : Nat := 0
  gap : Bool := false
  error : Bool := false
  drops : Nat := 0
  records : Nat := 0
  dropped : Nat := 0
  last : List DmaHdr := []
deriving DecidableEq, Repr

/-- What the read snapshots hold for one requester (R19 to R21, R393, R672, R732). -/
structure Snap where
  hi : BitVec 4 := 0
  bcnt : BitVec 64 := 0
  aSec : Nat := 0
  aNs : Nat := 0
  aFrac : Nat := 0
  bSec : Nat := 0
  bNs : Nat := 0
  bFrac : Nat := 0
  scratch : Word := 0
  pmcSel : Nat := 0
  pmcVal : Nat := 0
  pmcFlags : BitVec 4 := 0
  grpSel : Nat := 0
  grp : List (Nat × BitVec 4) := []
  firstBit : Nat := 0
  firstValid : Bool := false
  firstBcnt : Word := 0
deriving DecidableEq, Repr

/-- The host interface: link, functions, windows, DMA, management port, test access port (R470 to R497, R721). -/
structure Hif where
  linkUp : Bool := false
  speed : Nat := 0
  width : Nat := 0
  perst : Bool := true
  l1 : Bool := false
  dstate : Tbl DState := []
  bme : Tbl Bool := []
  aer : List Nat := [0, 0, 0]   -- correctable, non-fatal, fatal
  discarded : Nat := 0
  mgtDiscarded : Nat := 0
  window : Nat := 0x20000000
  dma : Tbl Dma := []
  ready : List DmaReady := []
  i3c : Bool := false
  dynAddr : BitVec 7 := 0
  straps : BitVec 3 := 0
  tap : Option Byte := none
  tapBypassed : Bool := false
  snap : Tbl Snap := []
deriving DecidableEq, Repr

/-- The error summary (R732 to R735), per requester where the spec says so. -/
structure Err where
  state : BitVec 17 := 0
  sticky : Tbl (BitVec 17) := []
  first : Tbl (Nat × Word) := []    -- first bit since the last read: bit + 1, BCNT[31:0]
deriving DecidableEq, Repr

/-- One domain clock (R385 to R392, R730): time, increment, flags, staged fraction, and what takes effect at the next
BCNT tick. -/
structure DomClk where
  sec : Nat := 0
  ns : Nat := 0
  frac : Nat := 0
  inc : Nat := 0x019999999A
  unset : Bool := true
  disc : Bool := false
  steps : Nat := 0
  staged : Option Nat := none
  incNext : Option Nat := none
  setNext : Option (Nat × Nat) := none
deriving DecidableEq, Repr

/-- Residence bookkeeping of one port and direction (R401, R412). -/
structure Resid where
  ingress : Word := 0xFFFFFFFF
  egress : Word := 0xFFFFFFFF
  since : Nat := 0                    -- frames out of range since the last TKU_RESID_RANGE
  lastAt : Option (BitVec 64) := none -- BCNT of the last TKU_RESID_RANGE
  interpDown : Bool := false          -- whole-tick resolution (R654)
  out : Option (BitVec 64 × BitVec 16 × Bool) := none   -- the last PTP event message sent on: correctionField, UDP checksum, FCS good
deriving DecidableEq, Repr

/-- The timekeeping unit (R381 to R412). `gos` are the committed steps of TKU_STEP_GO in write order (R731). -/
structure Tku where
  bcnt : BitVec 64 := 0
  holdAt : BitVec 64 := 0
  domA : DomClk := {}
  domB : DomClk := {}
  stepNs : Word := 0
  stepSec : Word := 0
  gos : List (Bool × Bool × Int × Int) := []
  sel : Domain := .a
  selNext : Option Domain := none
  heldFlag : Bool := false
  stepRefused : Bool := false
  incRefused : Bool := false
  resid : Tbl Resid := []
deriving DecidableEq, Repr

/-- One statistic of class 0x04 (R676): live 36-bit count, 64-bit total, saturation. -/
structure Stat where
  live : Nat := 0
  total : Nat := 0
  sat : Bool := false
deriving DecidableEq, Repr

/-- Power states of a receiver (R71). -/
inductive RxPower where
  | off | listen | full
deriving DecidableEq, Repr

/-- The health of a replaceable element: in order, under targeted self-test, or retired (R629). -/
inductive Health where
  | ok | test | retired
deriving DecidableEq, Repr

/-- One sub-ADC slice (R65, R81, R89, R92). -/
structure Slice where
  pos : Option Nat := none
  health : Health := .ok
  off : Int := 0
  gain : Int := 0
  skew : Int := 0
  needsCal : Bool := false
  bad : Nat := 0
deriving DecidableEq, Repr

/-- Line receive state of one lane (R71 to R111). -/
structure Lrx where
  power : RxPower := .off
  los : Bool := false          -- set at each power-up (R744)
  losSince : BitVec 64 := 0
  losFirst : Bool := true
  frozen : Bool := false
  step : Nat := 0
  cold : Bool := true
  since : BitVec 64 := 0
  retries : Nat := 0
  consec : Nat := 0
  preset : Nat := 0
  freqHeld : Bool := false
  lowSnr : Nat := 0
  q : List Word := []
  qDisturbed : Bool := false
  disturbed : Bool := false
  periods : Nat := 0
  freq : Int := 0
  snr : Nat := 0
  est : List Word := []
  echoes : Nat := 0
  estDisturbed : Bool := false
  recTier : Nat := 0
  shortfall : Bool := false
  lowRuns : List Nat := [0, 0, 0, 0]   -- per tier 0 to 3: consecutive estimates above the target by more than 1.0 dB (R109)
  slices : Tbl Slice := []
  skewWin : Nat := 0          -- 2 us windows since the last 20 us skew window ended (R82)
  rotAt : Option (BitVec 64) := none   -- start of the last rotation step (R86)
  gain : Int := 0             -- VGA gain in 0.25 dB (R74)
  taps : List Int := []       -- the 32 FFE taps in 2^-16 of a coefficient; none before the first cold acquisition (R98)
  tail : List Int := []       -- the last 31 corrected codes, newest first: the FFE's delay line (R98)
  mainCur : Nat := 8          -- FFE main cursor position in force (R69, R98)
  timingBw : Nat := 4         -- timing loop bandwidth in force, MHz (R69)
  presetSet : Int := -2147483648 -- preset index setting of this acquisition; this value is AUTO (R69)
  timeout : Nat := 50         -- acquisition timeout in force, 10 ms (R69)
  band : Nat := 0             -- temperature band whose preset table the thermal code has passed (R53)
  presetBand : Nat := 0       -- band of the table that the taps were loaded from (R99)
  env : Envelope := {}        -- the envelope tap (R112)
  transom : Nat := 64         -- the idle slice that is the transom slice (R65)
  rotStep : Nat := 0
  rotPos : Nat := 0
  rotOld : Option (Int × Int × Int) := none   -- coefficients of the slice before the step's calibration (R91)
deriving DecidableEq, Repr

/-- A kernel swap in progress on a lane (R159). -/
structure Swap where
  step : Nat := 1
  tier : Nat := 0
  version : Nat := 0
  added : List Nat := []
  shadows : List Nat := []
  lent : List Nat := []          -- shadows taken from TRANSOM (R161)
  ticket : Option Ticket := none
  count : Nat := 0               -- engines that the new kernel needs in the group (step 1)
  par : List (Nat × Word) := []  -- "By swap" values that take effect with the switch: element and value (R136)
  coefs : List Int := []         -- master coefficients of the shadows, as `Sea.master` (R159)
  live : Int := 0
  shadow : Int := 0
deriving DecidableEq, Repr

/-- The causes of a SEA_YIELD (R169), in the table's order. -/
inductive YieldCause where
  | capacity | stepRate | throttle | watermark
deriving DecidableEq, Repr

/-- A block in the elastic FIFO (R29, R46, R128): its occupancy and tier at dispatch, its 960 new FFE samples, the engine of each of its 15
segments (none at tier 0), and the 960 samples that these engines give. -/
structure Blk where
  occ : Nat := 0
  tier : Nat := 0
  ffe : List Int := []
  segs : List Nat := []
  out : List Int := []
deriving DecidableEq, Repr

/-- The elastic stage of one lane (R46, R51, R131, R149, R156, R160, R163, R168). -/
structure Sea where
  tier : Nat := 0
  version : Nat := 0
  hasEst : Bool := false
  demand : Nat := 0             -- recommended tier as the Hinge has taken it (R111)
  yielding : Bool := false
  cause : YieldCause := .capacity
  yieldSince : BitVec 64 := 0
  plan : Nat := 0               -- tier of the plan in force
  planEng : Nat := 0            -- engines of the plan in force
  held : Bool := false          -- a raise waits for the raise dwell (R154)
  bar : Nat := 0                -- raises to this tier or above wait for the raise dwell after a drop or an abandonment (R157, R160)
  waitPlan : Bool := false      -- a raise found no shadow engines: it waits for the next plan (R161)
  swap : Option Swap := none
  swapWait : Option Swap := none
  fifo : List Blk := []         -- oldest first
  overlap : List Int := []      -- the last 64 FFE samples, which open the next block (R29)
  out : List Int := []          -- the 960 samples released last (R131)
  discard : Bool := false       -- blocks are discarded until the lane relocks (R52)
  dropNext : Bool := false      -- a tier drop of R51 awaits the block boundary
  master : List Int := []       -- master coefficients in 2^-24, in the order of the nested tiers (R135, R142)
  taps : List (List Int) := []  -- decimated term values that the engines have tapped out since the last update (R127)
  delays : List Nat := []       -- echo delays in use (R135)
  third : List Nat := []        -- third-order terms in use (R135)
  adaptHold : Bool := false     -- coefficients hold for want of an ADAPT engine (R167)
  rr : Nat := 0                 -- next engine of the group in the round robin of R128
  sel : Tbl (Option Nat) := []  -- by kernel ID: the version that SELECT gave the lane (R138)
deriving DecidableEq, Repr

/-- Codeword lock, error figures and the detector table of one lane (R192 to R216). -/
structure Sdf where
  lock : Bool := false
  off : List Nat := [0, 0, 0, 0]
  start : List Nat := [0, 0, 0, 0]
  found : List (Option Nat) := [none, none, none, none]
  prev : Option (List Nat) := none
  first : Nat := 0
  precode : Bool := false
  bad : List Nat := [0, 0, 0, 0]
  huntSince : BitVec 64 := 0
  huntMis : Nat := 0
  skew : Int := 0
  ber : Nat := 0               -- x 10^9 (R214, R737)
  ser : Nat := 0
  bits0 : Nat := 0             -- counts at the last period's end (R214)
  cw0 : Nat := 0
  rsSym0 : Nat := 0
  rsCw0 : Nat := 0
  degHigh : Nat := 0
  degLow : Nat := 0
  deg : Bool := false
  degSince : BitVec 64 := 0
  rsHigh : Nat := 0
  rsLow : Nat := 0
  rsDeg : Bool := false
  rsSince : BitVec 64 := 0
  uncorr : Nat := 0            -- uncorrectable RS codewords since the last SDF_RS_UNCORR
  table : Tbl Int := []        -- detector level table where it differs from the nominal one, 2^-20 LSB (log entry 29)
  payload : BitVec 136 := 0    -- payload bits of the last decoded codeword (R199)
  slicer : Bool := false       -- detector of this acquisition: SLICER (R197, R217)
  preSet : Nat := 2            -- receive precoding setting of this hunt: 0 ON, 1 OFF, 2 AUTO (R217)
  huntOff : Nat := 0           -- first of the 24 offsets that the next hunt test tries (R202)
  countFrom : BitVec 64 := 0   -- BCNT at which the lane's symbol count started from 0 (R202)
  soft : List SoftSymbol := [] -- the block that the detector has decided (R192, R196)
  nextQ : Nat := 0             -- codeword of the block that is delivered next (R203)
  degThr : Nat := 3000         -- degrade thresholds of the present period, 10^-6 (R217)
  rsThr : Nat := 1000
  rsOut : List Nat := []       -- the last RS codeword as it is passed on (R209 to R211)
  rsMark : Bool := false       -- it is marked uncorrectable (R210)
deriving DecidableEq, Repr

/-- Transmitter states (R234). -/
inductive TxState where
  | off | rampUp | on | rampDown
deriving DecidableEq, Repr

/-- What a line transmitter carries (R176, R177, R234, R310). -/
inductive TxContent where
  | none | fill | hostStream | sdfStream | localFault | pattern
deriving DecidableEq, Repr

/-- Causes of LTX_DISABLED (R247). -/
inductive TxCause where
  | laneState | squelch | shutter | refclk
deriving DecidableEq, Repr

/-- One unary DAC cell: the position it serves (none: it is the transom cell, or out) and its health (R243, R244). -/
structure Cell where
  pos : Option Nat := none
  health : Health := .ok
deriving DecidableEq, Repr

/-- The line transmitter of one lane (R223 to R245). -/
structure Ltx where
  state : TxState := .off
  enStep : Nat := 0
  forced : Bool := false
  content : TxContent := .none
  applied : Tbl Word := []     -- level values, taps and table in force where they differ from the defaults (R227)
  staged : Bool := false
  swing : Nat := 60            -- present swing, 10 mV (R228)
  since : BitVec 64 := 0
  attempts : Nat := 0
  retry : Bool := false
  cause : TxCause := .laneState
  fast : Bool := false         -- ramp in 1 us (R239, R573)
  release : Bool := false      -- the 10 us of R237 run
  precoder : Nat := 0          -- the level sent last (R185)
  sent : List Nat := []        -- the last eight levels, newest first (R224)
  index : Nat := 0             -- DAC sample index, modulo a period of the pilot's subcarrier (R225)
  dac : List Int := []         -- the DAC codes of the last block
  prbs : BitVec 31 := 0x7FFFFFFF -- the fill generator (R177)
  dead : Bool := false         -- held OFF until the part is returned (R245)
  cells : Tbl Cell := []
  calPos : Nat := 0
deriving DecidableEq, Repr

/-- A pilot packet to send or on air (R328, R344). -/
structure PltPkt where
  type : Nat
  seq : Nat
  payload : List Byte
  ticket : Option Ticket := none
deriving DecidableEq, Repr

/-- A received USER packet (R341, R347). -/
structure PltRx where
  type : Nat
  seq : Nat
  payload : List Byte
  plq : Int
  m : Int
  sub : Int
  rate : Int
  bcnt : BitVec 64
deriving DecidableEq, Repr

/-- The receiver's states (R339). -/
inductive PltState where
  | idle | header | body
deriving DecidableEq, Repr

/-- Peer states (R346), in the table's order. -/
inductive PeerState where
  | unchecked | none | match_ | mismatch | lost
deriving DecidableEq, Repr

/-- The pilot channel of one lane (R320 to R349). -/
structure Plt where
  air : Option PltPkt := none
  airPhases : List Bool := []        -- the phases of its symbols, in units of pi (R321)
  airAt : Int := 0                   -- DAC samples since its symbol 0; below 0 before it (R320)
  depth : Nat := 2                   -- its modulation depth, in 0.5 % (R345)
  endedAt : Option (BitVec 64) := none -- end of the last packet (R327)
  begun : Bool := false              -- the transmitter has been ON since the port was configured (R332)
  queue : List PltPkt := []
  seq : Nat := 0
  due : Bool := false
  beacons : Nat := 0
  rx : PltState := .idle
  m : Int := 0
  hdr : List Byte := []
  syncAt : BitVec 64 := 0
  rxq : List PltRx := []
  plqHeard : Nat := 0xFF
  peer : PeerState := .unchecked
  expUid : Option (BitVec 64) := none
  expLabel : Option (List Byte) := none
  beacon : Option (List Byte) := none
  beaconPlq : Int := 0
  beaconAt : BitVec 64 := 0
deriving DecidableEq, Repr

/-- The states of a lane's optics (R578). -/
inductive Optics where
  | idle | starting | ready | stopping
deriving DecidableEq, Repr

/-- One line lane (R421). -/
structure Line where
  state : LaneState := .down
  stuck : Bool := false        -- held in FAULT by R94, R245 or R635
  badStage : Bool := false     -- a retired fixed stage serves the lane (R635)
  lrx : Lrx := {}
  sea : Sea := {}
  sdf : Sdf := {}
  ltx : Ltx := {}
  plt : Plt := {}
  optics : Optics := .idle
  optSince : BitVec 64 := 0
deriving DecidableEq, Repr

/-- Causes of a host lane's FAULT (R254, R260, R280). -/
inductive HostCause where
  | none | signal | lock | slip | amLock | refclk
deriving DecidableEq, Repr

/-- Training results (R293), in the order of R738 TRAIN. -/
inductive TrainRes where
  | off | trained | fallback
deriving DecidableEq, Repr

/-- What a host lane sends (R288). -/
inductive HostTx where
  | off | training | stream | localFault | pattern
deriving DecidableEq, Repr

/-- The answer to a partner's request (R267). -/
inductive HostAnswer where
  | none | updated | atLimit | notSupported
deriving DecidableEq, Repr

/-- One logical host lane (R251 to R293). Step 7 is step 4F of R265. -/
structure HostLane where
  state : LaneState := .down
  step : Nat := 0
  since : BitVec 64 := 0
  warm : Bool := false
  warmRuns : Nat := 0
  sigLoss : Bool := true
  cause : HostCause := .none
  recover : Bool := false      -- the 1 ms timer of R286 runs
  lowSnr : Nat := 0
  polInv : Bool := false
  train : TrainRes := .off
  cm1 : Int := -6
  c0 : Int := 48
  c1 : Int := -10
  requests : Nat := 0
  tapIdx : Nat := 0            -- 0 c1, 1 c-1, 2 c0 (the order of R266)
  trying : Nat := 0            -- 0 preset, 1 increment, 2 its undoing, 3 decrement, 4 its undoing
  kept : Bool := false         -- a change was kept in this pass
  lastSnr : Int := 0
  ready : Bool := false        -- receiver ready signalled
  fellBack : Bool := false
  asked : Option PartnerReq := none   -- the last request sent to the partner (R266)
  answer : HostAnswer := .none        -- the status sent to the partner after its last request (R267)
  ctle : Nat := 0
  ffe : List Int := []         -- 24 FFE coefficients of 10 bits (R257)
  amLock : Bool := false
  ctleSet : Int := -2147483648 -- CTLE setting, training mode and receive polarity setting of this acquisition (R290)
  mode : Nat := 2
  rxPol : Nat := 0
  startPreset : Nat := 1       -- further settings of this acquisition (R290): partner start preset, transmit preset, transmit
  txPreset : Nat := 3          -- polarity inverted, FFE main cursor, DFE on
  txInv : Bool := false
  cursor : Nat := 4
  dfeOn : Bool := true
  snr : Nat := 0
  offset : Int := 0
  dfe : Int := 0
  disturbed : Bool := false
  wasUp : Bool := false        -- UP throughout the present period
  periods : Nat := 0
  skew : Int := 0
  elastic : Int := 0           -- offset of the elastic buffer from its centre, in symbols (R254)
  tx : HostTx := .off
  localTimed : Bool := true    -- transmit timed from LANE_REFCLK, not from the recovered clock (R312)
deriving DecidableEq, Repr

/-- The receive verdicts of R274. -/
inductive Verdict where
  | none | normal | reversed | undetermined | conflict
deriving DecidableEq, Repr

/-- A host lane group (R273 to R276). -/
structure Group where
  verdict : Verdict := .none
  results : Tbl (Option HuntResult) := []   -- by port slot
  txRev : Bool := false
deriving DecidableEq, Repr

/-- Profiles (R304), in the table's order. -/
inductive Profile where
  | transparent | observe | terminate
deriving DecidableEq, Repr

/-- A port's configuration (R297 to R304): type 0 400GbE, 1 800GbE, 2 1.6TbE. -/
structure PortCfg where
  type : Nat
  half : Bool
  reduced : Bool
  base : Nat
  profile : Profile
deriving DecidableEq, Repr

/-- A port slot (R308 to R317). -/
structure Port where
  cfg : Option PortCfg := none
  state : PortState := .stopped
  since : BitVec 64 := 0
  ticket : Option Ticket := none
  late : Bool := false
  upOnce : Bool := false
  faultAt : BitVec 64 := 0
  cause : Nat × Nat := (0, 0)  -- cause lane of the last fault and its side: 0 line, 1 host
  lineFault : List Nat := []   -- line lanes of the fault set
  hostFault : List Nat := []   -- host lanes of the fault set
  lineIn : Bool := false       -- the present fault counts on the line side
  hostIn : Bool := false
  clockLost : Bool := false    -- LANE_REFCLK has failed since the port was last UP (R42)
deriving DecidableEq, Repr

/-- The 66-bit block-lock monitor of one port and direction (R282, R283). -/
structure Block where
  lock : Bool := false
  pos : Nat := 0
  run : Nat := 0
  bad : Nat := 0
  seen : Nat := 0
deriving DecidableEq, Repr

/-- Engine roles (R139). -/
inductive Role where
  | tier | adapt | transom | shadow | free | test | retired
deriving DecidableEq, Repr

/-- One stream engine (R139, R639). -/
structure Engine where
  role : Role := .free
  lane : Nat := 0
  slice : Bool := false        -- in an in-service test slice
  lent : Bool := false         -- a transom engine serving a floor (R152)
  coefs : List Int := []       -- coefficient set in use, 9 bits each (R127, R142)
  coefNext : Option (List Int) := none  -- the set received last, until the next block boundary (R127)
  shadow : List (List Int) := []   -- coefficient sets of the lanes that a transom engine shadows (R143)
  vr : Tbl (List (BitVec 36)) := []     -- vector registers that have been written, 32 words each (R125)
  acc : List Int := []         -- the 128 accumulators of ACC0 to ACC3 (R125)
  lmem : Tbl (BitVec 43) := [] -- local memory: 36 bits and 7 check bits a word (R126)
  ring : Nat := 0              -- place of the last block in the ring that Block in writes (R127)
  lfsr : Word := 0             -- 0 until it is seeded (R680)
  interval : Nat := 0          -- the sampling interval drawn last, in steps (R680)
deriving DecidableEq, Repr

/-- The kernel catalogue entry of one ID: the versions held, the older first, and the pane's own (R134, R137). -/
structure Kernel where
  vers : List Word := [0]
  own : Word := 0
deriving DecidableEq, Repr

/-- A signed image on its copy outside every window (R464). -/
structure Image where
  ticket : Option Ticket
  check : Bool                 -- issued under CHECK (R745)
  id : Nat
  pane : Nat
  length : Nat
  hdr : List Byte
  checked : Bool := false
deriving DecidableEq, Repr

/-- The Hinge's device-wide state (R130, R141, R153, R155, R169). -/
structure Hinge where
  rates : List Nat := []       -- per quadrant, 0.01 G steps/s; none while PWR reports none (R148)
  prevRate : Nat := 0
  throttle : Nat := 0
  lend : Nat := 0              -- transom engines that the plan gives to floors (R152)
  lentFloors : List Nat := []  -- transom engines given to floors (R152)
  started : Bool := false
  kern : Tbl Kernel := []      -- the panes' catalogues: 256 x pane + kernel ID (R134)
  load : List Image := []      -- kernel images under their checks, in order of LOAD
deriving DecidableEq, Repr

/-- A Lexicon context's life (R368). -/
inductive CtxState where
  | free | live | retired
deriving DecidableEq, Repr

/-- One observation context or unplaced context (R352, R364, R368). -/
structure Ctx where
  key : List Byte := []
  state : CtxState := .free
  gen : Nat := 0
  installed : Bool := false
  frames : Nat := 0
  bytes : Nat := 0
  errored : Nat := 0
  ptp : Nat := 0
  epoch : Nat := 0
  drains : Nat := 0
  tFrames : Nat := 0
  tBytes : Nat := 0
  tErrored : Nat := 0
  tPtp : Nat := 0
  last : List Nat := []       -- totals as the last dump wrote them
  marked : Bool := false      -- retires at the next pass (R363)
  disc : Bool := false
  poisoned : Bool := false    -- an uncorrectable counter word since the last dump (R374)
  sat : BitVec 4 := 0         -- counters that have reached their maximum: frames, bytes, errored, PTP (R23, R366)
deriving DecidableEq, Repr

/-- The state of one Lexicon bank (R373): what fills from it, or its place. -/
structure Bank where
  health : Health := .ok
  spare : Option Nat := none      -- the spare that serves it
  filling : Bool := false
  slice : Bool := false
deriving DecidableEq, Repr

/-- The Lexicon (R350 to R380). `index` maps 4 x bucket + entry to a context number + 1. -/
structure Lex where
  ctx : Tbl Ctx := []
  unplaced : Tbl Ctx := []
  index : Tbl Nat := []
  insertq : List (List Byte) := []
  drainq : List Nat := []
  seq : Nat := 0
  pass : Option (BitVec 64 × Bool × Bool) := none   -- BCNT at start, late, flush
  tickets : List Ticket := []     -- FLUSHes that the present pass serves
  again : Option Bool := none     -- a pass that starts when the present one ends, and its flush flag
  waiting : List Ticket := []     -- FLUSHes that wait for it
  everDumped : Bool := false
  failures : Nat := 0
  pressAt : Option (BitVec 64) := none
  banks : Tbl Bank := []
deriving DecidableEq, Repr

/-- The condition of a stored LPDDR5X word (R527): correctable carries the syndrome. -/
inductive WordCond where
  | good | correctable (syn : Nat) | uncorrectable | poisoned
deriving DecidableEq, Repr

/-- A live entry of the correction-echo table (R532). -/
structure Echo where
  region : Nat
  addr : Nat
  row : Nat
  syn : Nat
  bcnt : BitVec 64
  pinned : Bool
  window : Nat                 -- the echo window at its entry, in s (R552)
deriving DecidableEq, Repr

/-- A memory repair (R543): row, verdict, BCNT. -/
structure Repair where
  row : Nat
  verdict : MarchVerdict
  bcnt : BitVec 64
deriving DecidableEq, Repr

/-- The repair state of one memory region (R541 to R546). `step` 0 idle, 1 copying, 2 under test, 3 under test without
a spare. -/
structure Region where
  step : Nat := 0
  row : Nat := 0
  queue : List Nat := []
  usedRows : Nat := 0
  usedCols : Nat := 0
  repairs : List Repair := []
  exhausted : Bool := false
  pinnedRows : List Nat := []
  sinceEvent : Nat := 0
  lastEvent : Option (BitVec 64) := none
deriving DecidableEq, Repr

/-- Memory (R523 to R555): LPDDR5X bytes that differ from the fill of R547, the condition of its words by word address,
echo table, regions and refresh. -/
structure Mem where
  data : List Host.Cell := []
  cond : Tbl WordCond := []
  echo : List Echo := []
  region : Tbl Region := []
  toRecord : List RepairEntry := []
  mult : Tbl Nat := []        -- multiplier in force per die: 1, 2 or 4
  mr4 : Tbl Nat := []         -- multiplier that MR4 asks for per die
deriving DecidableEq, Repr

/-- The repair record in boot flash (R648). -/
structure Rep where
  entries : List RepairEntry := []
  gen : Nat := 0
  startNo : Nat := 0
deriving DecidableEq, Repr

/-- An auxiliary DAC channel (R556 to R566). `core` none: the stage holds; some 32: core 32 serves it. -/
structure Ax where
  code : Nat := 0
  target : Nat := 0
  frac : Nat := 0             -- part of a code that the ramp has still to move, in 1/50 code
  failed : Bool := false
  stageOff : Bool := false
  core : Option Nat := none   -- none: its own core
  held : Bool := false        -- the output stage holds for want of a core (R566)
  coreHealth : Health := .ok
  hand : Nat := 0             -- step of R564
deriving DecidableEq, Repr

/-- One threshold of a monitor channel (R572). -/
structure Thr where
  on : Bool := false
  run : Nat := 0
deriving DecidableEq, Repr

/-- A monitor channel (R567 to R575). -/
structure Mon where
  n : Nat := 0
  last : Nat := 0
  lastFlags : BitVec 4 := 0
  disc : Bool := true
  hi : Thr := {}
  lo : Thr := {}
  written : Nat := 0
  first : Nat := 0            -- number of the first sample of the present group of 512 (R575)
  fresh : List Nat := []      -- loops that have not yet taken the last sample (R576)
deriving DecidableEq, Repr

/-- A firmware loop (R576 to R578). -/
structure OcuLoop where
  running : Bool := false
  waiting : Bool := false     -- starts when its ramp ends
  e : Int := 0
  ePrev : Option Int := none   -- none until the first update after a start (R562)
  u : Int := 0                -- 1/256 code
  settle : Nat := 0
  inBand : Bool := false
  outside : Bool := false
deriving DecidableEq, Repr

/-- The optics control unit. `c32` is what core 32 does: none idle, some c it serves channel c; `c32Lasting` for a fault. -/
structure Ocu where
  ax : Tbl Ax := []
  mn : Tbl Mon := []
  loop : Tbl OcuLoop := []
  c32 : Option Nat := none
  c32Lasting : Bool := false
  c32Cal : Bool := false
deriving DecidableEq, Repr

/-- A calibration block (R588 to R600). -/
structure Cal where
  due : Bool := false
  cause : Nat := 0            -- 0 temperature, 1 interval, 2 power-up, 3 command
  dueAt : BitVec 64 := 0
  overdue : Bool := false
  running : Bool := false
  suspended : Bool := false
  elem : Nat := 0
  pair : Nat := 0
  pairs : List Word := []
  frames : Nat := 0           -- converter frames that the run has taken, and the last one's instant (R586)
  frameAt : BitVec 64 := 0
  startAt : BitVec 64 := 0
  runCause : Nat := 0         -- due cause of the present run
  runDis : List Nat := []     -- dissents of the present run
  lastDis : List Nat := []    -- dissents of the last completed run
  flags : List Nat := []
  dissents : Nat := 0
  runs : Nat := 0
  everDue : Bool := false
  lastSec : Nat := 0
  lastNs : Nat := 0
  lastDom : Domain := .a
  lastUnset : Bool := true
  lastBcnt : BitVec 64 := 0
  tStart : Int := 0
  tRef : Int := 0
  tNow : Int := 0
  abandoned : Tbl Nat := []
  coef : Tbl Int := []        -- stored coefficients, two per element
deriving DecidableEq, Repr

/-- A temperature sensor (R607 to R611), values in 1/16 degree. -/
structure Sensor where
  last : Int := 0
  valid : Bool := false
  stale : Bool := false
  fails : Nat := 0
  broken : Bool := false
  acked : Bool := false
  good : Nat := 0
  count : Nat := 0
  hottest : Bool := false     -- it was the hottest at its last valid reading, and the highest other value there (R609)
  others : Int := 0
deriving DecidableEq, Repr

/-- Temperature bands (R613). -/
inductive Band where
  | cold | normal | warm | hot
deriving DecidableEq, Repr

/-- Thermal management (R604 to R622). Temperatures in 1/16 degree; raw level in 1/16 per cent. -/
structure Thm where
  sensor : Tbl Sensor := []
  hot : Int := 0
  band : Band := .normal
  level : Nat := 0
  raw : Nat := 0
  reduction : Nat := 0        -- VCORE reduction, 5 mV steps
  blind : Int := 0
  blindSensor : Option Nat := none
  thermN : Bool := false      -- THERM_N asserted
  trip : Bool := false
  above : Bool := false
  r : Nat := 0
  first : Bool := true
  reading : Bool := false     -- firmware or boot ROM takes readings
  backstop : Bool := false    -- the backstop holds THERM_N
deriving DecidableEq, Repr

/-- A targeted self-test report: element kind and number (lane x 256 + element where a lane owns it). -/
structure Report where
  kind : ElemKind
  unit : Nat
  loc : Nat
  source : Nat
deriving DecidableEq, Repr

/-- The verdicts of R627. -/
inductive TestVerdict where
  | transient | lasting
deriving DecidableEq, Repr

/-- A yield in force (R655, R656). -/
structure YieldRec where
  rank : Nat
  obj : Nat
  keptRank : Word
  since : BitVec 64
  req : Option Requester
deriving DecidableEq, Repr

/-- Self-test (R625 to R644) and the yields in force (R655). -/
structure Tst where
  queue : List Report := []
  under : List (Report × Nat) := []       -- report under test and failed runs so far, at most one per kind
  merged : Nat := 0
  intermittent : Nat := 0
  untested : Tbl Nat := []                -- per kind
  history : List (ElemKind × Nat × Nat × BitVec 64) := []
  verdicts : List (Report × TestVerdict × BitVec 64) := []
  slices : List SliceBlock := []
  lastPass : Tbl (BitVec 64) := []        -- engines 0..255, banks 256..289
  aborted : List Nat := []
  abortAt : Tbl (BitVec 64) := []         -- when a block's slice was aborted last (R643)
  aborts : Nat := 0                       -- engine slices aborted
  bankAborts : Nat := 0
  yields : List YieldRec := []
  counts : Tbl Nat := []                  -- per rank: 2 x rank yields, 2 x rank + 1 ends, 16 + ... kept
  bound : Nat := 0                        -- interruptions above 20 us (R638)
deriving DecidableEq, Repr

/-- A performance counter (R664 to R670). DISCONTINUITY per observer: PF0, PF1, dump. -/
structure Pmc where
  event : Nat := 0
  drain : Bool := true
  value : Nat := 0
  total : Nat := 0
  sat : Bool := false
  disc0 : Bool := false
  disc1 : Bool := false
  discD : Bool := false
deriving DecidableEq, Repr

/-- A counter dump read and not yet written (R674): the slots of its counters (number, value, SATURATED, DISCONTINUITY)
and of its statistics (number, value, SATURATED). -/
structure PmcDump where
  at_ : BitVec 64
  late : Bool
  flush : Bool
  ctrs : List (Nat × Nat × Bool × Bool)
  stats : List (Nat × Nat × Bool)
deriving DecidableEq, Repr

/-- Performance counters, dumps and sampling (R663 to R684). -/
structure Pmcs where
  ctr : Tbl Pmc := []
  d : Nat := 0
  last : Option Nat := none
  dump : Option PmcDump := none
  tickets : List Ticket := []
  again : Option Bool := none     -- a dump that starts when the present one is written, and its flush flag
  waiting : List Ticket := []
  late : Nat := 0
  recs : Nat := 0
  winAt : BitVec 64 := 0          -- start of the present second of sampling, and the records written in it
  winN : Nat := 0
  drops : Nat := 0
  dropSince : Nat := 0
  dropAt : Option (BitVec 64) := none
deriving DecidableEq, Repr

/-- A recorded rail fault (R692): rail, cause, BCNT. -/
structure RailRec where
  rail : Nat
  cause : RailCause
  bcnt : BitVec 64
deriving DecidableEq, Repr

/-- The boot-flash pins between accesses (R720): FL_CS_N high, FL_CLK low and FL_IO0 to FL_IO3 high-impedance, or every one
high-impedance. -/
structure FlashPins where
  csN : Option Bool := none   -- none: high-impedance
  clk : Option Bool := none
  io : List (Option Bool) := [none, none, none, none]
deriving DecidableEq, Repr

/-- Power delivery (R686 to R704). -/
structure Pwr where
  vin : Nat := 0              -- 0.1 V
  en : Bool := true
  sysRst : Bool := false
  rails : Nat := 0            -- rails of R693 in regulation: 0 to 7 groups
  up : Bool := false          -- the converters run
  pgood : Bool := false       -- PGOOD released
  latch : Bool := false
  fault : Option RailRec := none
  vcore : Nat := 750          -- mV
  overVolt : Bool := false    -- input overvoltage: VIN has not returned below 60 V
  slack : List Int := []      -- last report per quadrant, 0.01 %
  rates : List Nat := []      -- last step rates per quadrant, 0.01 G steps/s
  ceiling : Bool := false
  lowering : Bool := false    -- the lowering dwell runs
  announced : Option Nat := none  -- announced VCORE setpoint
  forThrottle : Bool := false     -- the announced step belongs to the throttle reduction (R700)
  applied : Nat := 0              -- steps of the throttle reduction in force (R616, R700)
  stepping : Bool := false
  flash : FlashPins := {}
  warnAt : Tbl (Option (BitVec 64)) := []
deriving DecidableEq, Repr

/-- A firmware pane (R465, R467). -/
structure Pane where
  valid : Bool := false
  version : Word := 0
  features : BitVec 112 := 0
  testSets : BitVec 8 := 0xFF  -- element kinds that the pane holds test sets for (R626, R630)
  hdr : List Byte := []
deriving DecidableEq, Repr

/-- Firmware: the panes, the running pane and a switch in progress (R467, R657, R726). Switch steps 0 (none) to 5. -/
structure Fw where
  a : Pane := { valid := true, features := 0x1FF }
  b : Pane := {}
  active : Bool := false      -- true: Pane B is marked active in boot flash
  running : Bool := false     -- true: Pane B runs
  selGen : Nat := 0           -- generation of the pane-select copy written last (R719)
  verShown : Word := 0        -- ID_FW_VERSION
  shown : Bool := false       -- ID_FW_PANE ACTIVE: true Pane B
  sw : Nat := 0
  swTarget : Bool := false
  ticket : Option Ticket := none
  since : BitVec 64 := 0
  tried : Bool := false       -- start-up step 5 has tried one pane
  load : Option Image := none
deriving DecidableEq, Repr

/-- The sample capture (R114 to R118). -/
structure Cap where
  armed : Bool := false
  running : Bool := false     -- the start condition has occurred
  taking : Bool := false      -- a segment is being taken or drained
  lane : Nat := 0
  raw : Bool := false
  segLen : Nat := 0
  offset : Nat := 0
  count : Nat := 0
  start : Nat := 0            -- 0 IMMEDIATE, 1 BCNT value, 2 LOS clear
  startAt : BitVec 64 := 0
  done : Nat := 0
  segAt : BitVec 64 := 0
  substs : Nat := 0            -- slice substitutions during the segment (R117)
  ticket : Option Ticket := none
deriving DecidableEq, Repr

/-- The whole machine. -/
structure State where
  pending : List Instr := []
  free : Nat := 0
  fuses : Fuses := {}
  dev : Dev := {}
  shut : Shut := {}
  mb : Mb := {}
  ev : Evs := {}
  icu : Tbl Icu := []
  hif : Hif := {}
  err : Err := {}
  tku : Tku := {}
  params : Tbl Word := []
  stats : Tbl Stat := []
  line : Tbl Line := []
  host : Tbl HostLane := []
  group : Tbl Group := []
  port : Tbl Port := []
  block : Tbl Block := []
  eng : Tbl Engine := []
  hinge : Hinge := {}
  lex : Lex := {}
  mem : Mem := {}
  rep : Rep := {}
  ocu : Ocu := {}
  cal : Tbl Cal := []
  thm : Thm := {}
  tst : Tst := {}
  pmc : Pmcs := {}
  pwr : Pwr := {}
  fw : Fw := {}
  cap : Cap := {}
deriving DecidableEq, Repr

/-- The machine right after reset: the part before VIN is valid, every field at its default (log entries 2 to 5). -/
def State.reset : State := {}

/-- Reasons a step could stop with a fault. No meaning of this model raises one: what the spec calls a fault of the
part is state. `unreachable_` is kept for a command outside the part altogether; it is safe, since nothing follows it. -/
inductive Fault where
  /-- Raised by nobody. Safe. -/
  | unreachable_
deriving DecidableEq, Repr

/-- Reasons a command is refused by the model. -/
inductive Refusal where
  /-- Raised by an arm of `exec` whose command has no meaning yet. Safe: the step stops. -/
  | notModelled (mnemonic : String)
deriving DecidableEq, Repr

end Sys2Proof.Machine
end

