-- ==== Sys2Proof/Machine/Table.lean ====
section
/-! DEFINITION. The operations on sparse tables (`Tbl`): a lookup with the value of unlisted indices, and the one write,
which keeps the canonical form (indices rising, no listed value equal to the default of its index). -/

namespace Sys2Proof.Machine

/-- The value at index `i`; an unlisted index reads as `d i`. -/
def tget {α : Type} (t : Tbl α) (d : Nat → α) (i : Nat) : α :=
  match t with
  | [] => d i
  | (k, v) :: r => if k = i then v else tget r d i

/-- Puts an entry before the first with a higher index. -/
def tput {α : Type} (t : Tbl α) (i : Nat) (v : α) : Tbl α :=
  match t with
  | [] => [(i, v)]
  | (k, w) :: r => if k < i then (k, w) :: tput r i v else (i, v) :: (k, w) :: r

/-- Writes `v` at index `i`; writing the default of the index removes its entry. -/
def tset {α : Type} [DecidableEq α] (t : Tbl α) (d : Nat → α) (i : Nat) (v : α) : Tbl α :=
  let r := t.filter fun p => decide (p.1 ≠ i)
  if v = d i then r else tput r i v

/-- Applies `f` to the value at index `i`. -/
def tmod {α : Type} [DecidableEq α] (t : Tbl α) (d : Nat → α) (i : Nat) (f : α → α) : Tbl α :=
  tset t d i (f (tget t d i))

/-- The canonical form. -/
def tableWf {α : Type} [DecidableEq α] (d : Nat → α) : Tbl α → Bool
  | [] => true
  | [(k, v)] => decide (v ≠ d k)
  | (k, v) :: (j, w) :: r => decide (v ≠ d k) && decide (k < j) && tableWf d ((j, w) :: r)

/-- The numbers `0 .. n-1` for which `p` holds. -/
def listWhere (n : Nat) (p : Nat → Bool) : List Nat := (List.range n).filter p

/-- How many of `0 .. n-1` satisfy `p`. -/
def countWhere (n : Nat) (p : Nat → Bool) : Nat := (listWhere n p).length

/-- Replaces the element at `i` of a list, if it is there. -/
def listSet {α : Type} (l : List α) (i : Nat) (v : α) : List α := l.set i v

/-- Repeats a state change for every number of a list, in its order. -/
def forEach {σ : Type} (l : List Nat) (f : Nat → σ → σ) (s : σ) : σ := l.foldl (fun s i => f i s) s

end Sys2Proof.Machine
end

