-- ==== Sys2Proof/Machine/Operands.lean ====
section
/-! DEFINITION. The operand forms of the mailbox commands: the noun and verb codes, the parameter tables with their ranges
and defaults, and the payload form "parameter mask and values" (R451, R452). -/

namespace Sys2Proof.Machine

/-! Verb codes (R448). -/
def vGet : Nat := 0x01
def vSet : Nat := 0x02
def vDelete : Nat := 0x03
def vInsert : Nat := 0x04
def vClear : Nat := 0x05
def vAck : Nat := 0x06
def vStart : Nat := 0x10
def vStop : Nat := 0x11
def vRestart : Nat := 0x12
def vEnter : Nat := 0x13
def vLeave : Nat := 0x14
def vShutter : Nat := 0x15
def vSelect : Nat := 0x16
def vLoad : Nat := 0x20
def vCapture : Nat := 0x21
def vAbort : Nat := 0x22
def vFlush : Nat := 0x23
def vRun : Nat := 0x24
def vSend : Nat := 0x30
def vReceive : Nat := 0x31
def vSquelch : Nat := 0x32
def vRelease : Nat := 0x33
def vNegotiate : Nat := 0x40
def vGrant : Nat := 0x41
def vRevoke : Nat := 0x42
def vSwitch : Nat := 0x43

/-- The verbs the device knows (R448). -/
def knownVerbs : List Nat :=
  [vGet, vSet, vDelete, vInsert, vClear, vAck, vStart, vStop, vRestart, vEnter, vLeave, vShutter, vSelect, vLoad,
   vCapture, vAbort, vFlush, vRun, vSend, vReceive, vSquelch, vRelease, vNegotiate, vGrant, vRevoke, vSwitch]

/-! Noun codes (R468 and the command tables of the chapters). -/
def nDevMode : Nat := 0x01
def nDevFeature : Nat := 0x02
def nDevEvent : Nat := 0x03
def nMbxStats : Nat := 0x04
def nLaneTest : Nat := 0x05
def nFwImage : Nat := 0x06
def nFwPane : Nat := 0x07
def nPf1Grant : Nat := 0x08
def nLrxCfg : Nat := 0x10
def nLrxStatus : Nat := 0x11
def nLrxQuality : Nat := 0x12
def nLrxEstimate : Nat := 0x13
def nLrxSlices : Nat := 0x14
def nLrxAcq : Nat := 0x15
def nLrxCapture : Nat := 0x16
def nSeaPolicy : Nat := 0x20
def nSeaHinge : Nat := 0x21
def nSeaPlacement : Nat := 0x22
def nSeaEngines : Nat := 0x23
def nSeaKernel : Nat := 0x24
def nSeaKparam : Nat := 0x25
def nSdfCfg : Nat := 0x30
def nSdfStatus : Nat := 0x31
def nSdfStats : Nat := 0x32
def nSdfDetector : Nat := 0x33
def nSdfHunt : Nat := 0x34
def nLtxCfg : Nat := 0x38
def nLtxStatus : Nat := 0x39
def nLtxOut : Nat := 0x3A
def nHslCfg : Nat := 0x40
def nHslGroup : Nat := 0x41
def nHslStatus : Nat := 0x42
def nHslQuality : Nat := 0x43
def nHslTrain : Nat := 0x44
def nPfxBlocklock : Nat := 0x45
def nPortCfg : Nat := 0x48
def nPort : Nat := 0x49
def nPortStatus : Nat := 0x4A
def nPltCfg : Nat := 0x50
def nPltPacket : Nat := 0x51
def nPltPeer : Nat := 0x52
def nPltStatus : Nat := 0x53
def nLexCfg : Nat := 0x58
def nLexPort : Nat := 0x59
def nLexContext : Nat := 0x5A
def nLexDump : Nat := 0x5B
def nLexStats : Nat := 0x5C
def nTkuDomain : Nat := 0x60
def nTkuPort : Nat := 0x61
def nTkuStats : Nat := 0x62
def nOcuAx : Nat := 0x68
def nOcuCode : Nat := 0x69
def nOcuMn : Nat := 0x6A
def nOcuLoop : Nat := 0x6B
def nOcuLane : Nat := 0x6C
def nOcuStats : Nat := 0x6D
def nCalCfg : Nat := 0x70
def nCalBlock : Nat := 0x71
def nThmCfg : Nat := 0x78
def nThmSensor : Nat := 0x79
def nThmStatus : Nat := 0x7A
def nMemCfg : Nat := 0x80
def nMemStatus : Nat := 0x81
def nMemEcho : Nat := 0x82
def nMemSpares : Nat := 0x83
def nMemStats : Nat := 0x84
def nTstCfg : Nat := 0x88
def nTstStatus : Nat := 0x89
def nTstVerdicts : Nat := 0x8A
def nRepRecord : Nat := 0x8B
def nRelYields : Nat := 0x8C
def nPmcCounter : Nat := 0x90
def nPmcDump : Nat := 0x91
def nPmcSample : Nat := 0x92
def nPwrCfg : Nat := 0x98
def nPwrStatus : Nat := 0x99
def nPwrRail : Nat := 0x9A
def nHifLink : Nat := 0xA0
def nHifWindow : Nat := 0xA1
def nHifDma : Nat := 0xA2
def nHifMgt : Nat := 0xA3
def nIcuEvent : Nat := 0xA8
def nIcuMgt : Nat := 0xA9

/-- The word of AUTO (R451), as a signed integer. -/
def autoInt : Int := -2147483648

/-- The word of OFF (R451), as a signed integer. -/
def offInt : Int := -2147483647

/-- AUTO (R451). -/
def autoWord : Word := 0x80000000

/-- OFF (R451). -/
def offWord : Word := 0x80000001

/-- One row of a parameter table: the defaults of its elements, its range in steps, the values allowed beside it. A row of
8 unrestricted words is a byte string (R452). -/
structure ParamRow where
  dflt : List Int
  lo : Int
  hi : Int
  extra : List Int := []
deriving DecidableEq, Repr

/-- A row of one element. -/
def row1 (d lo hi : Int) : ParamRow := { dflt := [d], lo := lo, hi := hi }

/-- An enumerated row: the positions 0 to n-1 (R451). -/
def rowEnum (d n : Nat) : ParamRow := { dflt := [(d : Int)], lo := 0, hi := (n : Int) - 1 }

/-- A row of unrestricted words. -/
def rowAny (d : List Int) : ParamRow := { dflt := d, lo := -2147483648, hi := 2147483647 }

/-- R69: ON or OFF, RUN or FREEZE count from 0 in the order listed (R451). -/
def lrxRows : List ParamRow :=
  [{ dflt := [autoInt], lo := -24, hi := 56, extra := [autoInt] }, row1 40 24 64, row1 5 1 10, row1 12 4 40,
   row1 3 1 6, row1 10 1 1000, row1 10 1 1000, row1 4 1 8, row1 8 4 16, row1 (-13) (-16) (-10), rowEnum 0 2,
   { dflt := [autoInt], lo := 0, hi := 3, extra := [autoInt] }, row1 50 5 250, row1 155 120 220, row1 20 16 28,
   row1 (-35) (-45) (-25), rowEnum 0 2, rowEnum 0 2, rowEnum 1 2]

/-- R136. Leakage 0 is the word 0 (log entry 8). -/
def kparamRows : List ParamRow :=
  [row1 8 0 15, row1 (-14) (-18) (-10), { dflt := [-18], lo := -24, hi := -12, extra := [0] }, rowEnum 0 2,
   { dflt := [33, 4095], lo := 33, hi := 4095 }, row1 10 1 100, row1 10 1 20]

/-- R147. -/
def policyRows : List ParamRow := [rowEnum 0 2, row1 0 0 4, row1 16 1 255]

/-- R148, R154. -/
def hingeRows : List ParamRow := [row1 18 14 26, row1 100 10 1000]

/-- R217. -/
def sdfRows : List ParamRow :=
  [rowEnum 1 2, rowEnum 2 3, rowEnum 0 2, rowEnum 0 2, row1 (-11) (-14) (-8), row1 32 1 255,
   { dflt := [4], lo := 4, hi := 4, extra := [0] }, row1 3000 100 4800, row1 1000 10 10000]

/-- R231. -/
def ltxRows : List ParamRow :=
  [row1 60 20 90, { dflt := [-96, -32, 32, 96], lo := -127, hi := 127 },
   { dflt := [0, 0, 64, 0, 0, 0, 0, 0, 0], lo := -128, hi := 127 },
   { dflt := List.replicate 64 0, lo := -32, hi := 31 }, row1 100 1 1000, rowEnum 1 2, rowEnum 0 2, row1 100 1 2000,
   rowEnum 0 8]

/-- R290. The taps of row 5 are the lane's live taps (`HostLane`); its range is that of R261. -/
def hslRows : List ParamRow :=
  [rowEnum 2 3, row1 20 5 200, row1 50 10 200, row1 1 1 5, row1 3 1 5, { dflt := [-6, -10], lo := -24, hi := 0 },
   row1 75 40 90, rowEnum 0 2, rowEnum 0 3, { dflt := [autoInt], lo := 2, hi := 20, extra := [autoInt] }, row1 4 2 8,
   rowEnum 0 2, rowEnum 0 2, row1 12 6 30, row1 26 20 36, rowEnum 0 2]

/-- R291. -/
def hslGroupRows : List ParamRow := [rowEnum 0 3, rowEnum 2 3]

/-- R297, R300, R304, R318: type, line rate, host rate, host base (AUTO: R301), profile. -/
def portRows : List ParamRow :=
  [rowEnum 0 3, rowEnum 0 2, rowEnum 0 2, { dflt := [autoInt], lo := 0, hi := 15, extra := [autoInt] }, rowEnum 0 3]

/-- R345. -/
def pltRows : List ParamRow :=
  [rowEnum 0 2, row1 2 1 8, { dflt := [8], lo := 1, hi := 240, extra := [offInt] }, rowAny (List.replicate 8 0),
   row1 3 0 6, row1 7 1 600]

/-- R376, device-wide. -/
def lexRows : List ParamRow :=
  [row1 25 1 100, { dflt := [300], lo := 1, hi := 86400, extra := [offInt] }, rowAny [0, 0]]

/-- R376, per port. -/
def lexPortRows : List ParamRow := [rowEnum 0 2, row1 0 0 15, { dflt := [0, 0], lo := 0, hi := 1 }]

/-- R409. -/
def tkuPortRows : List ParamRow := [rowEnum 0 2, row1 15 0 15, row1 0 (-256) 256]

/-- R552. -/
def memRows : List ParamRow := [row1 3600 60 86400, row1 10 1 1000, rowEnum 0 3]

/-- R559. Lane NONE is position 8. -/
def axRows : List ParamRow :=
  [row1 1 1 2, rowEnum 0 2, rowEnum 0 2, rowEnum 8 9, rowEnum 4 5, { dflt := [0, 65535], lo := 0, hi := 65535 },
   { dflt := [offInt], lo := 1, hi := 65535, extra := [offInt] }, row1 0 0 65535]

/-- R568, R572, R573, R574, R581. Rows 3 to 6 are HIGH, 7 to 10 LOW: level, hysteresis, dwell, action. -/
def mnRows : List ParamRow :=
  [row1 1000 256 100000, rowEnum 8 9, rowEnum 1 2,
   row1 65535 0 65535, row1 0 0 65535, row1 1 1 255, rowEnum 0 3,
   row1 0 0 65535, row1 0 0 65535, row1 1 1 255, rowEnum 0 3]

/-- R576, R578, R581: monitor channel, AX channel, setpoint, sense, kp, ki, start code, settle band, settle dwell,
enable. -/
def loopRows : List ParamRow :=
  [row1 0 0 63, row1 0 0 32, row1 0 0 65535, rowEnum 0 2, row1 0 0 32767, row1 0 0 32767, row1 0 0 65535,
   row1 0 0 65535, row1 1 1 65535, rowEnum 0 2]

/-- R601. -/
def calRows : List ParamRow := [row1 4 1 16, row1 600 60 600]

/-- R621. -/
def thmRows : List ParamRow := [row1 5 1 100, row1 100 85 105, row1 5 1 20, row1 5 1 100, row1 105 85 110]

/-- R628, R641, R661. -/
def tstRows : List ParamRow := [row1 24 1 168, row1 10 10 1440, rowEnum 0 2]

/-- R684: the dump interval. -/
def pmcDumpRows : List ParamRow := [row1 100 1 500]

/-- R684. -/
def pmcSampleRows : List ParamRow := [rowEnum 1 2, row1 24 16 30, row1 15 0 15]

/-- R702. -/
def pwrRows : List ParamRow := [row1 16 16 100, row1 10 1 100, row1 18 10 20]

/-- The parameter table of a noun; empty for a noun without one. -/
def paramRows (noun : Nat) : List ParamRow :=
  if noun = nLrxCfg then lrxRows else if noun = nSeaKparam then kparamRows
  else if noun = nSeaPolicy then policyRows else if noun = nSeaHinge then hingeRows
  else if noun = nSdfCfg then sdfRows else if noun = nLtxCfg then ltxRows
  else if noun = nHslCfg then hslRows else if noun = nHslGroup then hslGroupRows
  else if noun = nPortCfg then portRows else if noun = nPltCfg then pltRows
  else if noun = nLexCfg then lexRows else if noun = nLexPort then lexPortRows
  else if noun = nTkuPort then tkuPortRows else if noun = nMemCfg then memRows
  else if noun = nOcuAx then axRows else if noun = nOcuMn then mnRows
  else if noun = nOcuLoop then loopRows else if noun = nCalCfg then calRows
  else if noun = nThmCfg then thmRows else if noun = nTstCfg then tstRows
  else if noun = nPmcDump then pmcDumpRows else if noun = nPmcSample then pmcSampleRows
  else if noun = nPwrCfg then pwrRows else []

/-- Number of elements of a row. -/
def ParamRow.width (r : ParamRow) : Nat := r.dflt.length

/-- The index of a row's first element in its table. -/
def rowBase (rows : List ParamRow) (i : Nat) : Nat := ((rows.take i).map ParamRow.width).sum

/-- A value is in a row's range (R70). -/
def ParamRow.ok (r : ParamRow) (w : Word) : Bool :=
  decide (r.lo ≤ w.toInt ∧ w.toInt ≤ r.hi) || r.extra.contains w.toInt

/-- All defaults of a table, in element order. -/
def rowDefaults (rows : List ParamRow) : List Int := rows.flatMap ParamRow.dflt

/-- The key of an element in the parameter file. -/
def paramKey (noun inst elem : Nat) : Nat := noun * 65536 + inst * 256 + elem

/-- The value of an element that nothing has set. The salts are fused (R376); the quadrant mask of R684 names all
quadrants of the part. -/
def paramDflt (f : Fuses) (key : Nat) : Word :=
  let noun := key / 65536
  let elem := key % 256
  if noun = nLexCfg ∧ elem = 2 then f.salt0
  else if noun = nLexCfg ∧ elem = 3 then f.salt1
  else if noun = nPmcSample ∧ elem = 2 ∧ f.part = .wx1604 then 3
  else Word.int ((rowDefaults (paramRows noun)).getD elem 0)

/-- An element of the parameter file as its word (R451). -/
def State.param (s : State) (noun inst elem : Nat) : Word := tget s.params (paramDflt s.fuses) (paramKey noun inst elem)

/-- An element as a signed number of steps. -/
def State.parI (s : State) (noun inst elem : Nat) : Int := (s.param noun inst elem).toInt

/-- An element as a number of steps. -/
def State.parN (s : State) (noun inst elem : Nat) : Nat := (s.param noun inst elem).toNat

/-- Sets one element. -/
def State.setParam (s : State) (noun inst elem : Nat) (w : Word) : State :=
  { s with params := tset s.params (paramDflt s.fuses) (paramKey noun inst elem) w }

/-- Sets elements from `elem` on. -/
def State.setParams (s : State) (noun inst : Nat) : Nat → List Word → State
  | _, [] => s
  | e, w :: ws => (s.setParam noun inst e w).setParams noun inst (e + 1) ws

/-- The words of all elements of a noun's table, in element order. -/
def State.paramWords (s : State) (noun inst : Nat) : List Word :=
  (List.range (rowDefaults (paramRows noun)).length).map (s.param noun inst)

/-- The mask of all rows of a table: two words, low first (R452). -/
def fullMask (rows : List ParamRow) : List Word :=
  let m := 2 ^ rows.length - 1
  [Word.nat m, Word.nat (m / 2 ^ 32)]

/-- What GET returns for a noun with a parameter table (R452). -/
def State.paramSet (s : State) (noun inst : Nat) : List Word := fullMask (paramRows noun) ++ s.paramWords noun inst

/-- One change of a SET: element index and word. -/
abbrev ParamChange := Nat × Word

/-- What step 8 and step 10 of R453 find in a payload of the form "parameter mask and values". -/
inductive MaskParse where
  | badLength (detail : Nat)
  | range
  | ok (rows : List Nat) (changes : List ParamChange)
deriving DecidableEq, Repr

/-- The rows that a mask selects, ascending. -/
def maskRows (rows : List ParamRow) (lo hi : Word) : List Nat :=
  listWhere rows.length fun i => (lo.toNat + hi.toNat * 2 ^ 32).testBit i

/-- The elements of the selected rows, in order. -/
def maskElems (rows : List ParamRow) (sel : List Nat) : List (Nat × ParamRow) :=
  sel.flatMap fun i =>
    match rows[i]? with
    | none => []
    | some r => (List.range r.width).map fun e => (rowBase rows i + e, r)

/-- Reads a payload "parameter mask and values" of `len` bytes (R452): a missing mask or another length is BAD_LENGTH
0x02, a mask bit beyond the table 0x03. -/
def parseMask (rows : List ParamRow) (len : Nat) (words : List Word) : MaskParse :=
  match words with
  | lo :: hi :: vals =>
    if len < 8 then .badLength 2
    else if lo.toNat + hi.toNat * 2 ^ 32 ≥ 2 ^ rows.length then .badLength 3
    else
      let sel := maskRows rows lo hi
      let els := maskElems rows sel
      if len ≠ 8 + 4 * els.length ∨ vals.length ≠ els.length then .badLength 2
      else if (els.zip vals).all fun p => p.1.2.ok p.2 then .ok sel ((els.zip vals).map fun p => (p.1.1, p.2))
      else .range
  | _ => .badLength 2

/-- Applies the changes of a SET. -/
def State.applyChanges (s : State) (noun inst : Nat) (cs : List ParamChange) : State :=
  cs.foldl (fun s c => s.setParam noun inst c.1 c.2) s

/-- The value that an element has after the changes. -/
def changed (s : State) (noun inst elem : Nat) (cs : List ParamChange) : Word :=
  match cs.find? fun c => c.1 = elem with
  | some c => c.2
  | none => s.param noun inst elem

end Sys2Proof.Machine
end

