-- ==== Sys2Proof/Machine/Ops.lean ====
section
/-! DEFINITION. The named operations over the state: the elements of the part, lookups and updates of every table, statistics,
performance counters, events as subsystems raise them, features, times. -/

namespace Sys2Proof.Machine

/-! Elements of the part (R1, R6). -/

/-- Line lanes and port slots of a part. -/
def nLine (p : Part) : Nat := if p = .wx1604 then 4 else 8
/-- Host lanes of a part. -/
def nHost (p : Part) : Nat := if p = .wx1604 then 8 else 16
/-- Engine quadrants of a part. -/
def nQuad (p : Part) : Nat := if p = .wx1604 then 2 else 4
/-- Engines of a part. -/
def nEng (p : Part) : Nat := 64 * nQuad p
/-- Transom complement (R140). -/
def complement (p : Part) : Nat := if p = .wx1604 then 4 else 8

def State.lines (s : State) : Nat := nLine s.fuses.part
def State.hosts (s : State) : Nat := nHost s.fuses.part
def State.quads (s : State) : Nat := nQuad s.fuses.part
def State.engines (s : State) : Nat := nEng s.fuses.part

/-- Bits [15:0] of the feature word (R6). -/
def presence (p : Part) : Nat :=
  match p with
  | .wx3208 => 0x7F
  | .wx3208n => 0x7C
  | .wx1604 => 0x47

/-- Bits [24:16] that a part of this presence can publish (R461): FEAT_LEX_INSTALL needs FEAT_LEX. -/
def publishable (p : Part) : Nat := if p = .wx3208n then 0x1BF else 0x1FF

/-- The published feature word (R5, R726): 0 until step 8. -/
def State.feature (s : State) : BitVec 128 :=
  if s.dev.published then
    BitVec.ofNat 128 (presence s.fuses.part + ((s.dev.featHi.toNat &&& publishable s.fuses.part) * 65536))
  else 0

/-- The unit of a presence bit is on the part (R2, R8). -/
def State.present (s : State) (bit : Nat) : Bool := (presence s.fuses.part).testBit bit

/-- A feature bit is accepted (R9, R426). -/
def State.accepts (s : State) (bit : Nat) : Bool := s.dev.accepted.getLsbD bit

/-- The unit of a presence bit is present and accepted. -/
def State.unitOn (s : State) (bit : Nat) : Bool := s.present bit && s.accepts bit

def fLex : Nat := 0
def fResid : Nat := 1
def fPilot : Nat := 2
def fLineHi : Nat := 3
def fHostHi : Nat := 4
def fSeaHi : Nat := 5
def fDomB : Nat := 6
def fKernelLoad : Nat := 16
def fFwLoad : Nat := 17
def fCapture : Nat := 18
def fDmaPush : Nat := 19
def fSampling : Nat := 20
def fPltUser : Nat := 21
def fLexInstall : Nat := 22
def fCheck : Nat := 23
def fEcho : Nat := 24

/-- The code of a mode (R430). -/
def Mode.num : Mode → Nat
  | .starting => 0
  | .dormant => 1
  | .provisioned => 2
  | .service => 3
  | .guarded => 4
  | .workshop => 5
  | .shutter => 6
  | .startFailed => 7

/-- The code of a lane state (R457). -/
def LaneState.num : LaneState → Nat
  | .down => 1
  | .acquire => 2
  | .up => 3
  | .fault => 4
  | .test => 5

/-- The code of a port state (R457). -/
def PortState.num : PortState → Nat
  | .stopped => 6
  | .acquire => 2
  | .up => 3
  | .fault => 4
  | .test => 5

/-- PROVISIONED, SERVICE or GUARDED: the modes in which lanes carry signals (R72, R234). -/
def State.live (s : State) : Bool := s.dev.mode = .provisioned || s.dev.mode = .service || s.dev.mode = .guarded

/-! Free values. -/

/-- The value the spec leaves open here (log entry 1). -/
def State.freeVal (s : State) : Word := Config.freeWord s.free

/-- The `i`-th of the free values that come next. -/
def State.freeAt (s : State) (i : Nat) : Word := Config.freeWord (s.free + i)

/-- Moves on past `n` free values. -/
def State.freeSkip (s : State) (n : Nat) : State := { s with free := s.free + n }

/-- Moves on to the next free value. -/
def State.freeNext (s : State) : State := { s with free := s.free + 1 }

/-! Lookups and updates of tables. -/

def State.lineAt (s : State) (l : Nat) : Line := tget s.line (fun _ => {}) l
def State.setLine (s : State) (l : Nat) (x : Line) : State := { s with line := tset s.line (fun _ => {}) l x }
def State.modLine (s : State) (l : Nat) (f : Line → Line) : State := s.setLine l (f (s.lineAt l))
def State.modLrx (s : State) (l : Nat) (f : Lrx → Lrx) : State := s.modLine l fun x => { x with lrx := f x.lrx }
def State.modSea (s : State) (l : Nat) (f : Sea → Sea) : State := s.modLine l fun x => { x with sea := f x.sea }
def State.modSdf (s : State) (l : Nat) (f : Sdf → Sdf) : State := s.modLine l fun x => { x with sdf := f x.sdf }
def State.modLtx (s : State) (l : Nat) (f : Ltx → Ltx) : State := s.modLine l fun x => { x with ltx := f x.ltx }
def State.modPlt (s : State) (l : Nat) (f : Plt → Plt) : State := s.modLine l fun x => { x with plt := f x.plt }

def State.hostAt (s : State) (h : Nat) : HostLane := tget s.host (fun _ => {}) h
def State.setHost (s : State) (h : Nat) (x : HostLane) : State := { s with host := tset s.host (fun _ => {}) h x }
def State.modHost (s : State) (h : Nat) (f : HostLane → HostLane) : State := s.setHost h (f (s.hostAt h))

def State.groupAt (s : State) (g : Nat) : Group := tget s.group (fun _ => {}) g
def State.modGroup (s : State) (g : Nat) (f : Group → Group) : State :=
  { s with group := tmod s.group (fun _ => {}) g f }

def State.portAt (s : State) (p : Nat) : Port := tget s.port (fun _ => {}) p
def State.setPort (s : State) (p : Nat) (x : Port) : State := { s with port := tset s.port (fun _ => {}) p x }
def State.modPort (s : State) (p : Nat) (f : Port → Port) : State := s.setPort p (f (s.portAt p))

def State.blockAt (s : State) (i : Nat) : Block := tget s.block (fun _ => {}) i
def State.modBlock (s : State) (i : Nat) (f : Block → Block) : State :=
  { s with block := tmod s.block (fun _ => {}) i f }

def State.engAt (s : State) (e : Nat) : Engine := tget s.eng (fun _ => {}) e
def State.modEng (s : State) (e : Nat) (f : Engine → Engine) : State := { s with eng := tmod s.eng (fun _ => {}) e f }

/-- An engine that its role leaves: FREE, with its sampling generator as it is (R680). -/
def Engine.fresh (x : Engine) : Engine := { lfsr := x.lfsr, interval := x.interval }

def State.calAt (s : State) (b : Nat) : Cal := tget s.cal (fun _ => {}) b
def State.modCal (s : State) (b : Nat) (f : Cal → Cal) : State := { s with cal := tmod s.cal (fun _ => {}) b f }

/-- Slices SL00 to SL63 start on their own positions, SL64 idle. -/
def sliceDflt (n : Nat) : Slice := { pos := if n < 64 then some n else none }
def State.sliceAt (s : State) (l n : Nat) : Slice := tget (s.lineAt l).lrx.slices sliceDflt n
def State.modSlice (s : State) (l n : Nat) (f : Slice → Slice) : State :=
  s.modLrx l fun x => { x with slices := tmod x.slices sliceDflt n f }

/-- Cells 0 to 14 serve the unary positions, cell 15 is the transom cell. -/
def cellDflt (n : Nat) : Cell := { pos := if n < 15 then some n else none }
def State.cellAt (s : State) (l n : Nat) : Cell := tget (s.lineAt l).ltx.cells cellDflt n
def State.modCell (s : State) (l n : Nat) (f : Cell → Cell) : State :=
  s.modLtx l fun x => { x with cells := tmod x.cells cellDflt n f }

def State.axAt (s : State) (c : Nat) : Ax := tget s.ocu.ax (fun _ => {}) c
def State.modAx (s : State) (c : Nat) (f : Ax → Ax) : State :=
  { s with ocu := { s.ocu with ax := tmod s.ocu.ax (fun _ => {}) c f } }
def State.mnAt (s : State) (c : Nat) : Mon := tget s.ocu.mn (fun _ => {}) c
def State.modMn (s : State) (c : Nat) (f : Mon → Mon) : State :=
  { s with ocu := { s.ocu with mn := tmod s.ocu.mn (fun _ => {}) c f } }
def State.loopAt (s : State) (i : Nat) : OcuLoop := tget s.ocu.loop (fun _ => {}) i
def State.modLoop (s : State) (i : Nat) (f : OcuLoop → OcuLoop) : State :=
  { s with ocu := { s.ocu with loop := tmod s.ocu.loop (fun _ => {}) i f } }

def State.ctxAt (s : State) (c : Nat) : Ctx := tget s.lex.ctx (fun _ => {}) c
def State.modCtx (s : State) (c : Nat) (f : Ctx → Ctx) : State :=
  { s with lex := { s.lex with ctx := tmod s.lex.ctx (fun _ => {}) c f } }
def State.unplacedAt (s : State) (i : Nat) : Ctx := tget s.lex.unplaced (fun _ => {}) i
def State.modUnplaced (s : State) (i : Nat) (f : Ctx → Ctx) : State :=
  { s with lex := { s.lex with unplaced := tmod s.lex.unplaced (fun _ => {}) i f } }
def State.bankAt (s : State) (b : Nat) : Bank := tget s.lex.banks (fun _ => {}) b
def State.modBank (s : State) (b : Nat) (f : Bank → Bank) : State :=
  { s with lex := { s.lex with banks := tmod s.lex.banks (fun _ => {}) b f } }

def State.regionAt (s : State) (r : Nat) : Region := tget s.mem.region (fun _ => {}) r
def State.modRegion (s : State) (r : Nat) (f : Region → Region) : State :=
  { s with mem := { s.mem with region := tmod s.mem.region (fun _ => {}) r f } }

def State.sensorAt (s : State) (n : Nat) : Sensor := tget s.thm.sensor (fun _ => {}) n
def State.modSensor (s : State) (n : Nat) (f : Sensor → Sensor) : State :=
  { s with thm := { s.thm with sensor := tmod s.thm.sensor (fun _ => {}) n f } }

def State.dmaAt (s : State) (c : Nat) : Dma := tget s.hif.dma (fun _ => {}) c
def State.modDma (s : State) (c : Nat) (f : Dma → Dma) : State :=
  { s with hif := { s.hif with dma := tmod s.hif.dma (fun _ => {}) c f } }

def State.snapAt (s : State) (r : Requester) : Snap := tget s.hif.snap (fun _ => {}) r.num
def State.modSnap (s : State) (r : Requester) (f : Snap → Snap) : State :=
  { s with hif := { s.hif with snap := tmod s.hif.snap (fun _ => {}) r.num f } }

def State.dstate (s : State) (r : Requester) : DState := tget s.hif.dstate (fun _ => .d0) r.num

def State.icuAt (s : State) (r : Requester) : Icu := tget s.icu (fun _ => {}) r.num
def State.modIcu (s : State) (r : Requester) (f : Icu → Icu) : State :=
  { s with icu := tmod s.icu (fun _ => {}) r.num f }

/-- MBX_VECTOR starts at the mailbox's own number (R442). -/
def boxDflt (k : Nat) : Box := { vector := BitVec.ofNat 6 (k % 16) }
def boxKey (r : Requester) (n : Nat) : Nat := 16 * r.num + n % 16
def State.boxAt (s : State) (r : Requester) (n : Nat) : Box := tget s.mb.box boxDflt (boxKey r n)
def State.modBox (s : State) (r : Requester) (n : Nat) (f : Box → Box) : State :=
  { s with mb := { s.mb with box := tmod s.mb.box boxDflt (boxKey r n) f } }

def State.queueAt (s : State) (r : Requester) : EvQueue := tget s.ev.queue (fun _ => {}) r.num
def State.modQueue (s : State) (r : Requester) (f : EvQueue → EvQueue) : State :=
  { s with ev := { s.ev with queue := tmod s.ev.queue (fun _ => {}) r.num f } }

/-- An event code is marked urgent (R520). -/
def State.urgentCode (s : State) (c : Nat) : Bool := tget s.ev.urgent urgentAtStart c

/-- The running pane's catalogue entry of a kernel (R134). -/
def State.kernKey (s : State) (id : Nat) : Nat := 256 * s.fw.running.toNat + id
def State.kernAt (s : State) (id : Nat) : Kernel := tget s.hinge.kern (fun _ => {}) (s.kernKey id)

def State.residAt (s : State) (i : Nat) : Resid := tget s.tku.resid (fun _ => {}) i
def State.modResid (s : State) (i : Nat) (f : Resid → Resid) : State :=
  { s with tku := { s.tku with resid := tmod s.tku.resid (fun _ => {}) i f } }

/-- The three requesters in the order of R446. -/
def requesters : List Requester := [.pf0, .pf1, .mgt]

/-! Events as subsystems raise them. -/

/-- Between steps 2 and 4 of a pane switch the events stay in the hardware buffer (R658). -/
def State.eventsHeld (s : State) : Bool := s.fw.sw = 2 || s.fw.sw = 3

/-- Counts a record that a requester's queue does not take (R458). -/
def EvQueue.drop (q : EvQueue) (b : BitVec 64) : EvQueue :=
  { q with lost := q.lost + 1, lostFirst := if q.lost = 0 then b else q.lostFirst, lostLast := b }

/-- Raises an event with the words it carries (R459, R499). The buffer of R658 holds 4,096; what exceeds it is dropped and
counted as R458 counts (log entry 15). -/
def State.raise (s : State) (code : Nat) (data : List Word) : State :=
  if s.eventsHeld ∧ s.ev.raised.length ≥ 4096 then
    requesters.foldl (fun s r => s.modQueue r fun q => q.drop s.tku.bcnt) s
  else
    { s with ev := { s.ev with raised := s.ev.raised ++ [{ code := code, bcnt := s.tku.bcnt, data := data }] } }

/-- A 64-bit quantity as two words, low first (log entry 10). -/
def words64 (n : Nat) : List Word := [Word.nat n, Word.nat (n / 2 ^ 32)]

/-- A quantity as an event's field: one word (R459), of a longer one the low 32 bits (DESIGN CHOICE, log entry 10). -/
def field32 (n : Nat) : List Word := [Word.nat n]

/-- A second in BCNT ticks. -/
def secTicks : Nat := 625000000

/-- Ticks since an instant (R381). -/
def State.since (s : State) (b : BitVec 64) : Nat := (s.tku.bcnt - b).toNat

/-- `n` ticks have passed since an instant, as far as BCNT shows it: it stands while LANE_REFCLK is absent (log entry 144). -/
def State.passed (s : State) (b : BitVec 64) (n : Nat) : Bool := decide (n ≤ s.since b) || !s.dev.refclk

/-- A source completes data at `addr`: the enabled channel that carries the source has a record to push (R481, R485). -/
def State.dmaDue (s : State) (src sseq addr : Nat) (late flush : Bool) : State :=
  match (List.range 4).find? fun c => (s.dmaAt c).enabled && (s.dmaAt c).sources.getLsbD src with
  | none => s
  | some c =>
    { s with hif := { s.hif with ready := s.hif.ready ++
        [{ ch := c, src := src, bcnt := s.tku.bcnt, sseq := sseq, late := late, flush := flush
           addr := addr }] } }

/-! Statistics (R676). -/

/-- The largest value of a 36-bit counter. -/
def max36 : Nat := 2 ^ 36 - 1

def statKey (group obj item : Nat) : Nat := 2048 * group + 32 * obj + item

def State.statAt (s : State) (group obj item : Nat) : Stat := tget s.stats (fun _ => {}) (statKey group obj item)

/-- Adds to a count; at 2^36 - 1 it holds and carries SATURATED. -/
def Stat.add (x : Stat) (n : Nat) : Stat :=
  if x.live + n < max36 then { x with live := x.live + n } else { x with live := max36, sat := true }

/-- Counts `n` more of an item. -/
def State.bumpBy (s : State) (group obj item n : Nat) : State :=
  { s with stats := tmod s.stats (fun _ => {}) (statKey group obj item) fun x => x.add n }

/-- Counts one more of an item. -/
def State.bump (s : State) (group obj item : Nat) : State := s.bumpBy group obj item 1

/-- Publishes a figure: its slot holds the latest value. -/
def State.setFigure (s : State) (group obj item : Nat) (v : Word) : State :=
  { s with stats := tmod s.stats (fun _ => {}) (statKey group obj item) fun x => { x with live := v.toNat } }

/-- A count as GET returns it: total plus live count. -/
def State.stat (s : State) (group obj item : Nat) : Nat := (s.statAt group obj item).total + (s.statAt group obj item).live

/-- A count as GET's two words. -/
def State.statWords (s : State) (group obj item : Nat) : List Word := words64 (s.stat group obj item)

def gLrx : Nat := 0
def gSea : Nat := 1
def gSdf : Nat := 2
def gHsl : Nat := 3
def gPfx : Nat := 4
def gPort : Nat := 5
def gPlt : Nat := 6
def gLex : Nat := 7
def gTku : Nat := 8
def gMem : Nat := 9
def gAx : Nat := 10
def gMn : Nat := 11
def gLoop : Nat := 12

/-! Performance counters (R663 to R668). -/

def State.pmcAt (s : State) (k : Nat) : Pmc := tget s.pmc.ctr (fun _ => {}) k
def State.setPmc (s : State) (k : Nat) (x : Pmc) : State :=
  { s with pmc := { s.pmc with ctr := tset s.pmc.ctr (fun _ => {}) k x } }

/-- Adds to a counter; reaching 2^36 - 1 sets SATURATED, once raised (R668). -/
def State.pmcAdd (s : State) (k n : Nat) : State :=
  let c := s.pmcAt k
  if c.value + n < max36 then s.setPmc k { c with value := c.value + n }
  else
    let s1 := s.setPmc k { c with value := max36, sat := true }
    if c.sat then s1 else s1.raise evPmcSaturated [Word.nat k, Word.nat c.event]

/-- Counts `n` occurrences of a global event number in every counter programmed with it. -/
def State.pmcEvent (s : State) (ev n : Nat) : State :=
  ((s.pmc.ctr.filter fun p => decide (p.1 < 32 ∧ p.2.event = ev)).map Prod.fst).foldl (fun s k => s.pmcAdd k n) s

/-- Counts an engine event in the engine's programmable counters 6 and 7, unless it is in TEST or RETIRED (R665). -/
def State.pmcEngine (s : State) (e ev n : Nat) : State :=
  let r := (s.engAt e).role
  if r = .test ∨ r = .retired then s
  else [256 + 8 * e + 6, 256 + 8 * e + 7].foldl (fun s k => if (s.pmcAt k).event = ev then s.pmcAdd k n else s) s

/-! Times (R385, R396). -/

def State.dom (s : State) (d : Domain) : DomClk := match d with | .a => s.tku.domA | .b => s.tku.domB
def State.modDom (s : State) (d : Domain) (f : DomClk → DomClk) : State :=
  match d with
  | .a => { s with tku := { s.tku with domA := f s.tku.domA } }
  | .b => { s with tku := { s.tku with domB := f s.tku.domB } }

/-- The 32-bit view of a domain: nanoseconds modulo 2^32 (R396). -/
def DomClk.view (d : DomClk) : Word := Word.nat (d.sec * 1000000000 + d.ns)

/-- Domain B runs only when present and accepted (R742). -/
def State.domBOn (s : State) : Bool := s.unitOn fDomB

/-- The 32-bit view of the selected domain (R397). -/
def State.view (s : State) : Word := (s.dom s.tku.sel).view

/-! Ports and lanes. -/

/-- Line lanes of a port (R297). -/
def PortCfg.lineCount (c : PortCfg) : Nat :=
  match c.type, c.half with
  | 0, false => 1
  | 0, true => 2
  | 1, false => 2
  | 1, true => 4
  | _, _ => 4

/-- Host lanes of a port (R297). -/
def PortCfg.hostCount (c : PortCfg) : Nat :=
  match c.type, c.reduced with
  | 0, false => 2
  | 0, true => 4
  | 1, false => 4
  | 1, true => 8
  | _, _ => 8

/-- PCS lanes of a port (R297). -/
def PortCfg.pcs (c : PortCfg) : Nat := if c.type = 1 then 32 else 16

/-- The line lanes of slot `p` under `c` (R298). -/
def PortCfg.lineLanes (c : PortCfg) (p : Nat) : List Nat := (List.range c.lineCount).map (p + ·)

/-- The host lanes of `c` (R300). -/
def PortCfg.hostLanes (c : PortCfg) : List Nat := (List.range c.hostCount).map (c.base + ·)

/-- The line lanes of a configured port. -/
def State.portLines (s : State) (p : Nat) : List Nat :=
  match (s.portAt p).cfg with
  | none => []
  | some c => c.lineLanes p

/-- The host lanes of a configured port. -/
def State.portHosts (s : State) (p : Nat) : List Nat :=
  match (s.portAt p).cfg with
  | none => []
  | some c => c.hostLanes

/-- The slots of the part. -/
def State.slots (s : State) : List Nat := List.range s.lines

/-- The configured port that a line lane belongs to. -/
def State.portOf (s : State) (l : Nat) : Option Nat := s.slots.find? fun p => (s.portLines p).contains l

/-- The configured port that a host lane belongs to. -/
def State.portOfHost (s : State) (h : Nat) : Option Nat := s.slots.find? fun p => (s.portHosts p).contains h

/-- The configuration of a line lane's port. -/
def State.lineCfg (s : State) (l : Nat) : Option PortCfg := (s.portOf l).bind fun p => (s.portAt p).cfg

/-- A line lane runs at half rate (R299). -/
def State.half (s : State) (l : Nat) : Bool :=
  match s.lineCfg l with
  | none => false
  | some c => c.half

/-- The configuration of a host lane's port. -/
def State.hostCfg (s : State) (h : Nat) : Option PortCfg := (s.portOfHost h).bind fun p => (s.portAt p).cfg

/-- Every port of the part is in one of the states given. -/
def State.allPorts (s : State) (ok : PortState → Bool) : Bool := s.slots.all fun p => ok (s.portAt p).state

/-- A port is UP or in FAULT (R413). -/
def State.carries (s : State) : Bool := s.slots.any fun p => (s.portAt p).state = .up || (s.portAt p).state = .fault

end Sys2Proof.Machine
end

