-- ==== Sys2Proof/Machine/Flags.lean ====
section
/-! DEFINITION. The status flags that other state implies, and what their changes do: interrupt sources and messages
(R500 to R517), the error summary (R732 to R735), guard causes (R416) and the mode changes they bring (R417), the event
queues (R458, R459). -/

namespace Sys2Proof.Machine

/-! Interrupt sources (R498 to R513). -/

/-- ICU_ROUTE_s starts at the source's own number (R500, R521). -/
def routeDflt (src : Nat) : BitVec 6 := BitVec.ofNat 6 src

/-- The vector a source is routed to; on PF1 a vector above 31 acts as 31 (R500, R501). -/
def State.vectorOf (s : State) (r : Requester) (src : Nat) : Nat :=
  let v := if src < 16 then (s.boxAt r src).vector
    else if 18 ≤ src ∧ src ≤ 21 then (s.dmaAt (src - 18)).vector
    else tget (s.icuAt r).route routeDflt src
  if r = .pf1 ∧ v.toNat > 31 then 31 else v.toNat

def State.srcAt (s : State) (r : Requester) (src : Nat) : Src := tget (s.icuAt r).src (fun _ => {}) src
def State.modSrc (s : State) (r : Requester) (src : Nat) (f : Src → Src) : State :=
  s.modIcu r fun x => { x with src := tmod x.src (fun _ => {}) src f }
def State.vecAt (s : State) (r : Requester) (v : Nat) : Vec := tget (s.icuAt r).vec (fun _ => {}) v
def State.modVec (s : State) (r : Requester) (v : Nat) (f : Vec → Vec) : State :=
  s.modIcu r fun x => { x with vec := tmod x.vec (fun _ => {}) v f }

def State.srcEnabled (s : State) (r : Requester) (src : Nat) : Bool := (s.icuAt r).enable.getLsbD src

/-- Sends a vector's message, or leaves it pending while the vector or function is masked; either clears the held count
and stops the timer (R507, R509). A message returns the link from L1 to L0 (R510). -/
def State.sendVec (s : State) (r : Requester) (v : Nat) : State :=
  let x := s.vecAt r v
  if x.masked ∨ (s.icuAt r).funcMask then s.modVec r v fun x => { x with held := [], timer := false, pba := true }
  else
    let s1 := s.modVec r v fun x => { x with held := [], timer := false, sent := x.sent + 1 }
    ({ s1 with hif := { s1.hif with l1 := false } }).pmcEvent 0x013 1

/-- ICU_COAL_v COUNT 0 acts as 1 (R508). -/
def Vec.limit (x : Vec) : Nat := if x.count = 0 then 1 else x.count

/-- The data byte of an in-band interrupt for a source (R495, R517). -/
def ibiByteOf (src : Nat) : Byte :=
  if src = 0 then 0x01 else if src = 1 then 0x02 else if src = 16 then 0x10 else if src = 17 then 0x11 else 0x20

/-- A source enters PENDING: one entry on its vector, a message when one falls due, PME in D3hot (R507, R509, R511, R512);
an in-band interrupt of the management port under I3C (R517). -/
def State.enterPending (s : State) (r : Requester) (src : Nat) : State :=
  match r with
  | .mgt =>
    if s.hif.i3c then s.modIcu .mgt fun x => { x with ibiSent := x.ibiSent + 1, ibiByte := ibiByteOf src } else s
  | _ =>
    let v := s.vectorOf r src
    let urgent := (s.icuAt r).urgent.getLsbD src
    if s.dstate r = .d0 then
      if (s.vecAt r v).pba then s
      else
        let s1 := s.modVec r v fun x => { x with held := x.held ++ [src] }
        if urgent ∨ (s1.vecAt r v).limit ≤ (s1.vecAt r v).held.length then s1.sendVec r v
        else s1.modVec r v fun x => { x with timer := true }
    else
      let s1 := if (s.vecAt r v).pba then s else s.modVec r v fun x => { x with held := x.held ++ [src] }
      if urgent ∧ s.dstate r = .d3hot then
        s1.modIcu r fun x => { x with pmeStatus := true, pmeCause := x.pmeCause ||| BitVec.twoPow 24 src }
      else s1

/-- An edge arrives at a source (R502, R503). -/
def State.edge (s : State) (r : Requester) (src : Nat) : State :=
  if s.srcEnabled r src then
    match (s.srcAt r src).state with
    | .idle => (s.modSrc r src fun x => { x with state := .pending }).enterPending r src
    | .pending => s
    | .inService => s.modSrc r src fun x => { x with state := .latched }
    | .latched => s
  else s

/-- The level condition of a source takes a value, as the source sees it through its enable bit (R502, R503, R506). -/
def State.level (s : State) (r : Requester) (src : Nat) (cond : Bool) : State :=
  let now := cond && s.srcEnabled r src
  let x := s.srcAt r src
  if now = x.live then s
  else if now then
    let s1 := s.modSrc r src fun x => { x with live := true }
    if x.state = .idle then (s1.modSrc r src fun x => { x with state := .pending }).enterPending r src else s1
  else
    let s1 := s.modSrc r src fun x => { x with live := false }
    if x.state = .pending then
      (s1.modSrc r src fun x => { x with state := .idle }).modVec r (s.vectorOf r src) fun v =>
        { v with held := v.held.erase src, timer := v.timer && decide (v.held.erase src ≠ []) }
    else if x.state = .inService ∧ x.looked = false ∧ cond = false then
      s1.modIcu r fun i => { i with vanished := min (i.vanished + 1) max36 }
    else s1

/-- The error summary of a requester (R732). -/
def State.sticky (s : State) (r : Requester) : BitVec 17 := tget s.err.sticky (fun _ => 0) r.num

/-- The level conditions of sources 16, 17, 22 and 23 (R500). -/
def State.levelNow (s : State) (r : Requester) (src : Nat) : Bool :=
  if src = 16 then !(s.queueAt r).recs.isEmpty
  else if src = 17 then (s.queueAt r).recs.any fun e => s.urgentCode e.code
  else if src = 22 then s.sticky r ≠ 0
  else if src = 23 then s.thm.thermN && (r ≠ .mgt : Bool)
  else false

/-- Brings one requester's level sources up to date. -/
def State.settleIcuOf (s : State) (r : Requester) : State :=
  [16, 17, 22, 23].foldl (fun s src => s.level r src (s.levelNow r src)) s

/-- Brings all level sources up to date. -/
def State.settleIcu (s : State) : State := requesters.foldl (fun s r => s.settleIcuOf r) s

/-- INT_N is driven low (R517, R518). -/
def State.intN (s : State) : Bool :=
  s.dev.mgtUp && !s.hif.i3c &&
    [0, 1, 16, 17, 22].any fun src =>
      s.srcEnabled .mgt src && ((s.srcAt .mgt src).state = .pending || ((s.srcAt .mgt src).live && 16 ≤ src))

/-! The error summary (R733, R734). -/

/-- A bit of a requester's ERR_STICKY sets; the first since its last read is kept with its BCNT. -/
def State.errSet (s : State) (r : Requester) (bit : Nat) : State :=
  let b := BitVec.twoPow 17 bit
  let first := tget s.err.first (fun _ => (0, 0)) r.num
  { s with err := { s.err with
      sticky := tset s.err.sticky (fun _ => 0) r.num (s.sticky r ||| b)
      first := if first.1 = 0 then tset s.err.first (fun _ => (0, 0)) r.num (bit + 1, s.tku.bcnt.setWidth 32)
        else s.err.first } }

/-- A bit sets in the ERR_STICKY of every requester. -/
def State.errAll (s : State) (bit : Nat) : State := requesters.foldl (fun s r => s.errSet r bit) s

/-- The live conditions that every requester shares (R733): all state bits but DMA_ERROR. -/
def State.errLive (s : State) : BitVec 17 :=
  let flag (b : Nat) (c : Bool) : BitVec 17 := if c then BitVec.twoPow 17 b else 0
  flag 2 (s.dev.guard &&& 0x079#10 ≠ 0) |||
  flag 3 ((List.range s.lines).any fun l => (s.lineAt l).stuck) |||
  flag 7 (2048 ≤ s.rep.entries.length) |||
  flag 8 ((List.range 16).any fun n => (s.sensorAt n).broken) |||
  flag 9 s.thm.trip |||
  flag 10 s.pwr.fault.isSome |||
  flag 11 ((List.range 33).any fun c => (s.axAt c).failed) |||
  flag 12 s.dev.repairIgnored |||
  flag 16 (s.dev.refclkSeen && !s.dev.refclk)

/-- DMA_ERROR of a function: ERROR is set in a channel that it owns (R733). -/
def State.dmaError (s : State) (r : Requester) : Bool :=
  (r ≠ .mgt : Bool) && (List.range 4).any fun c => (s.dmaAt c).error && decide ((s.dmaAt c).owner = r)

/-- ERR_STATE as a requester reads it. -/
def State.errState (s : State) (r : Requester) : BitVec 17 :=
  s.err.state ||| (if s.dmaError r then BitVec.twoPow 17 14 else 0)

/-- Brings ERR_STATE up to date; each rise sets the bit in every ERR_STICKY, the lowest bit first (R733). -/
def State.settleErr (s : State) : State :=
  let now := s.errLive
  let s1 := (listWhere 17 fun b => now.getLsbD b && !s.err.state.getLsbD b).foldl (fun s b => s.errAll b) s
  { s1 with err := { s1.err with state := now } }

/-! Modes and guard causes (R413 to R417). -/

/-- The trigger words of DEV_MODE_CHANGE: the row of R417's table, counted from 0 (log entry 11). -/
def tStart8 : Nat := 0
def tFatal : Nat := 1
def tPower : Nat := 2
def tWorkshopD : Nat := 3
def tPortUp : Nat := 4
def tGuardSet : Nat := 5
def tGuardClear : Nat := 6
def tNoPort : Nat := 7
def tWorkshopP : Nat := 8
def tDormant : Nat := 9
def tLeaveWorkshop : Nat := 10
def tShutter : Nat := 11
def tRestart : Nat := 12

/-- Changes the mode and raises DEV_MODE_CHANGE (R417). -/
def State.setMode (s : State) (m : Mode) (trigger : Nat) : State :=
  ({ s with dev := { s.dev with mode := m } }).raise evDevModeChange
    [Word.nat s.dev.mode.num, Word.nat m.num, Word.nat trigger, Word.nat s.dev.guard.toNat]

/-- A lane's port is GUARANTEED (R147). -/
def State.guaranteed (s : State) (p : Nat) : Bool := s.parN nSeaPolicy p 0 = 1
def State.floorOf (s : State) (p : Nat) : Nat := s.parN nSeaPolicy p 1
def State.weightOf (s : State) (p : Nat) : Nat := s.parN nSeaPolicy p 2

/-- A raise to the plan's tier waits for the raise dwell (R154, R157, R160). -/
def Sea.waits (x : Sea) : Bool := x.held || (x.bar != 0 && decide (x.bar ≤ x.plan))

/-- The tier that a lane is placed at: what runs while a raise waits for its dwell, else the plan (R168). -/
def Sea.placed (x : Sea) : Nat := if x.waits then min x.tier x.plan else x.plan

/-- A lane yields below the floor of its GUARANTEED port: rank 2 (R169). -/
def State.floorYielded (s : State) (l : Nat) : Bool :=
  match s.portOf l with
  | none => false
  | some p => (s.lineAt l).sea.yielding && s.guaranteed p && decide ((s.lineAt l).sea.placed < s.floorOf p)

/-- Retired slices of a receiver. -/
def State.retiredSlices (s : State) (l : Nat) : Nat := countWhere 65 fun n => (s.sliceAt l n).health = .retired
/-- Retired cells of a DAC. -/
def State.retiredCells (s : State) (l : Nat) : Nat := countWhere 16 fun n => (s.cellAt l n).health = .retired
/-- Retired Lexicon banks, each served by a spare. -/
def State.retiredBanks (s : State) : Nat := countWhere 34 fun b => (s.bankAt b).health = .retired

/-- Engines that count towards the transom complement: in role TRANSOM, or lent (R140, R166). -/
def State.transomCount (s : State) : Nat :=
  countWhere s.engines (fun e => (s.engAt e).role = .transom) + s.hinge.lentFloors.length +
    ((List.range s.lines).map fun l => match (s.lineAt l).sea.swap with | none => 0 | some w => w.lent.length).sum

/-- Transom engines are lent to a swap or to floors (R416). -/
def State.transomLent (s : State) : Bool :=
  !s.hinge.lentFloors.isEmpty ||
    (List.range s.lines).any fun l => match (s.lineAt l).sea.swap with | none => false | some w => !w.lent.isEmpty

/-- The guard causes as the state implies them (R416). Bits 0, 3, 4, 5 and 6 never clear; bit 1 is judged while the Hinge
holds the transom engines. -/
def State.guardNow (s : State) : BitVec 10 :=
  let keep (b : Nat) (c : Bool) : BitVec 10 := if c || s.dev.guard.getLsbD b then BitVec.twoPow 10 b else 0
  let flag (b : Nat) (c : Bool) : BitVec 10 := if c then BitVec.twoPow 10 b else 0
  keep 0 ((List.range s.lines).any fun l => !s.half l && decide (0 < s.retiredSlices l)) |||
  flag 1 (if s.hinge.started then decide (s.transomCount < complement s.fuses.part) else s.dev.guard.getLsbD 1) |||
  flag 2 s.transomLent |||
  keep 3 ((List.range s.lines).any fun l => decide (0 < s.retiredCells l)) |||
  keep 4 (decide (2 ≤ s.retiredBanks)) |||
  keep 5 s.ocu.c32Lasting |||
  keep 6 ([0, 1, 2, 3, 4, 8, 9, 10, 11].any fun r => (s.regionAt r).exhausted) |||
  flag 7 (decide (0 < s.thm.level)) |||
  flag 8 ((List.range s.lines).any fun l => s.floorYielded l) |||
  flag 9 ((List.range (2 * s.lines)).any fun i => (s.residAt i).interpDown)

/-- Brings the guard causes up to date with their set times, and moves between SERVICE and GUARDED (R416, R417). During a
Shutter no guard cause is re-evaluated (R435). -/
def State.settleGuard (s : State) : State :=
  if s.dev.mode = .shutter then s
  else
    let g := s.guardNow
    let times := (List.range 10).foldl (fun t b =>
      if g.getLsbD b && !s.dev.guard.getLsbD b then tset t (fun _ => 0) b s.tku.bcnt
      else if g.getLsbD b then t else tset t (fun _ => 0) b 0) s.dev.guardSince
    let s1 := { s with dev := { s.dev with guard := g, guardSince := times } }
    if s.dev.mode = .service ∧ g ≠ 0 then s1.setMode .guarded tGuardSet
    else if s.dev.mode = .guarded ∧ g = 0 then s1.setMode .service tGuardClear
    else s1

/-- Moves between PROVISIONED and SERVICE or GUARDED as ports come and go (R417, R418). -/
def State.settlePorts (s : State) : State :=
  if s.dev.mode = .provisioned ∧ s.carries then
    s.setMode (if s.dev.guard = 0 then .service else .guarded) tPortUp
  else if (s.dev.mode = .service ∨ s.dev.mode = .guarded) ∧ !s.carries then s.setMode .provisioned tNoPort
  else s

/-- Everything that follows from a change of state: guard causes, mode, error summary, level sources. -/
def State.settle (s : State) : State := s.settlePorts.settleGuard.settleErr.settleIcu

/-! Event queues (R458, R459). -/

/-- Records that are not completion records; R458 leaves them 960 places. -/
def EvQueue.others (q : EvQueue) : Nat := (q.recs.filter fun e => e.code ≠ evCmdDone).length

/-- Appends a record. -/
def EvQueue.push (q : EvQueue) (code : Nat) (flags : Byte) (b : BitVec 64) (data : List Word) : EvQueue :=
  { q with recs := q.recs ++ [{ code := code, flags := flags, bcnt := b, qseq := q.qseq, data := data }],
           qseq := q.qseq + 1 }

/-- Writes the EVT_LOST record that is due once there is space (R458): the count and the BCNT of the first and the last
lost event. -/
def EvQueue.flushLost (q : EvQueue) (b : BitVec 64) : EvQueue :=
  if 0 < q.lost ∧ q.others < 960 then
    { q.push evEvtLost 2 b (Word.nat q.lost :: field32 q.lostFirst.toNat ++ field32 q.lostLast.toNat) with
      lost := 0, lostFirst := 0, lostLast := 0 }
  else q

/-- Writes the EVT_LOST record that is due in a requester's queue. -/
def State.flushLost (s : State) (r : Requester) : State :=
  if 0 < (s.queueAt r).lost ∧ (s.queueAt r).others < 960 then
    (s.modQueue r fun q => q.flushLost s.tku.bcnt).pmcEvent 0x011 1
  else s

/-- Writes an event into one requester's queue, or drops it and counts it (R458); a drop sets EVT_LOST in the requester's
error summary (R733). -/
def State.deliverTo (s0 : State) (r : Requester) (e : Ev) : State :=
  let s := s0.flushLost r
  let q := s.queueAt r
  if q.others < 960 ∧ q.lost = 0 then
    (s.modQueue r fun q => q.push e.code 0 e.bcnt e.data).pmcEvent 0x011 1
  else ((s.modQueue r fun q => q.drop e.bcnt).errSet r 13).pmcEvent 0x012 1

/-- Writes a completion record (R455, R459): a place is always free for it. -/
def State.cmdDone (s : State) (r : Requester) (o : Outst) (status detail : Nat) (info : Word) (result : List Word) : State :=
  let head : Word := o.tag.setWidth 32 ||| (o.verb.setWidth 32 <<< 16) ||| (o.noun.setWidth 32 <<< 24)
  let mid : Word := o.inst.setWidth 32 ||| (Word.nat status <<< 8) ||| (Word.nat detail <<< 16)
  ((s.modQueue r fun q => q.push evCmdDone 1 s.tku.bcnt (head :: mid :: info :: result)).pmcEvent 0x011 1).settleIcuOf r

end Sys2Proof.Machine
end

