-- ==== Sys2Proof/Machine/Mailbox.lean ====
section
/-! DEFINITION. The mailbox protocol: submission (R443, R444, R741), the order of checks (R453), completion (R445, R457),
adverbs (R449, R745), outstanding commands and their completion records (R455, R456). Each command's arm hands its own
specification, checks and effect to `process`. -/

namespace Sys2Proof.Machine

/-! Status codes (R454). -/
def cDone : Nat := 0x00
def cAccepted : Nat := 0x01
def cBadVerb : Nat := 0x10
def cBadNoun : Nat := 0x11
def cBadInstance : Nat := 0x12
def cBadLength : Nat := 0x13
def cStateRefused : Nat := 0x20
def cResource : Nat := 0x22
def cNotPresent : Nat := 0x30
def cNotNegotiated : Nat := 0x31
def cAuth : Nat := 0x40
def cPermission : Nat := 0x41
def cYielded : Nat := 0x50

/-- The objects that MBX_INFO names (R457). -/
inductive Obj where
  | device
  | line (n : Nat)
  | host (n : Nat)
  | port (n : Nat)
  | group (n : Nat)
  | context (n : Nat)
deriving DecidableEq, Repr

/-- A refusal: status, detail and, where it is not the object that the instance addresses, the object that caused it. -/
structure Refuse where
  code : Nat
  detail : Nat := 0
  obj : Option Obj := none
deriving DecidableEq, Repr

/-- What a command's effect answers: the result words and their length in bytes, the rank word of a YIELDED, an ACCEPTED
with its result words, a wait with the mailbox still BUSY (R414), or a refusal that the device comes to while it carries the
command out, with what it has counted (R359). -/
inductive Reply where
  | done (words : List Word) (bytes : Nat)
  | yielded (ranks : Nat) (words : List Word)
  | accepted (words : List Word)
  | wait
  | failed (r : Refuse)
deriving DecidableEq, Repr

/-- DONE with result words. -/
def okWords (ws : List Word) : Reply := .done ws (4 * ws.length)

/-- DONE without result. -/
def okDone : Reply := .done [] 0

/-- The instance ranges of the nouns (R450). -/
inductive InstKind where
  | zero | line | host | port | group | portDir | quadrant | kernel | laneTest | ax | mn | loop | calBlock | sensor
  | ackSensor | region | rail | dma | domain | pane | context
deriving DecidableEq, Repr

/-- The lengths of a payload (R453 step 8): listed lengths in bytes, a mask form, a range of lengths, or no payload, which
leaves every parameter at its default, and otherwise length `a` where payload word `i` is `v` and `b` elsewhere. -/
inductive LenForm where
  | fixed (ns : List Nat)
  | mask
  | range (lo hi : Nat)
  | choice (i v a b : Nat)
deriving DecidableEq, Repr

/-- The classes of R439's table. -/
inductive ModeClass where
  | any | notShutter | dormant | start | stop | psg | workshop | enter | flushLex | flushPmc
deriving DecidableEq, Repr

/-- What R453 needs of a command before its own checks. -/
structure CmdSpec where
  verb : Nat
  noun : Nat
  unit : Option Nat := none
  feats : List Nat := []
  inst : InstKind
  form : LenForm
  modes : ModeClass
  startFailed : Bool := false
  recovery : Bool := false
deriving DecidableEq, Repr

/-- The kernel IDs of the catalogue (R134). -/
def kernelIds : List Nat := [0x00, 0x11, 0x22, 0x33, 0x44, 0x80, 0x81]

/-- The calibration blocks of a part (R584). -/
def calBlockOk (p : Part) (n : Nat) : Bool :=
  decide (n < nLine p) || decide (16 ≤ n ∧ n < 16 + nLine p) || decide (32 ≤ n ∧ n ≤ 64) || n == 96

/-- The memory regions (R523, R524). -/
def regionOk (n : Nat) : Bool := decide (n ≤ 4) || decide (8 ≤ n ∧ n ≤ 11)

/-- An instance is in a noun's range on the part (R450). -/
def InstKind.ok (k : InstKind) (s : State) (n : Nat) : Bool :=
  match k with
  | .zero | .context => n == 0
  | .line | .port => decide (n < s.lines)
  | .host => decide (n < s.hosts)
  | .group => decide (8 * n < s.hosts)
  | .portDir => decide (n < 2 * s.lines)
  | .quadrant => decide (n < s.quads)
  | .kernel => kernelIds.contains n
  | .laneTest => decide (n < s.lines) || decide (16 ≤ n ∧ n < 16 + s.hosts)
  | .ax => decide (n ≤ 32)
  | .mn => decide (n < 64)
  | .loop => decide (n < 32)
  | .calBlock => calBlockOk s.fuses.part n
  | .sensor => decide (n ≤ 17)
  | .ackSensor => decide (n ≤ 15)
  | .region => regionOk n
  | .rail => decide (n ≤ 8)
  | .dma => decide (n ≤ 3)
  | .domain | .pane => decide (n ≤ 1)

/-- The object that the instance addresses (R457). -/
def InstKind.obj (k : InstKind) (n : Nat) (words : List Word) : Obj :=
  match k with
  | .line => .line n
  | .host => .host n
  | .port => .port n
  | .group => .group n
  | .portDir => .port (n / 2)
  | .laneTest => if n < 16 then .line n else .host (n - 16)
  | .context => .context ((words.getD 0 0).toNat % 256)
  | _ => .device

/-- The OKIND, ONUM and OSTATE of an object (R457). -/
def State.objWord (s : State) (o : Obj) : Nat :=
  match o with
  | .device => 0
  | .line n => 0x100 + n * 65536 + (s.lineAt n).state.num * 16
  | .host n => 0x200 + n * 65536 + (s.hostAt n).state.num * 16
  | .port n => 0x300 + n * 65536 +
      (match (s.portAt n).cfg with | none => 7 | some _ => (s.portAt n).state.num) * 16
  | .group n => 0x400 + n * 65536
  | .context n => 0x500 + n * 65536

/-- MBX_INFO (R442, R457). -/
def State.info (s : State) (o : Obj) : Word := Word.nat (s.dev.mode.num + s.objWord o)

/-- A class of commands is accepted in the present mode (R439). -/
def ModeClass.ok (c : ModeClass) (s : State) : Bool :=
  let m := s.dev.mode
  let five := m = .dormant || m = .provisioned || m = .service || m = .guarded || m = .workshop
  let flushing := m = .shutter && s.shut.step ≠ .power && s.shut.step ≠ .complete
  match c with
  | .any => five || m = .shutter
  | .notShutter => five
  | .dormant => m = .dormant
  | .start => m = .dormant || s.live
  | .stop => s.live || m = .workshop
  | .psg => s.live
  | .workshop => m = .workshop
  | .enter => five
  | .flushLex => s.live || m = .workshop || flushing
  | .flushPmc => five || flushing

/-- The first `n` bytes of a mailbox's payload as words. -/
def Box.words (b : Box) (n : Nat) : List Word := (List.range ((n + 3) / 4)).map fun i => tget b.payload (fun _ => 0) i

/-- Writes words into a payload area from word `i` on. -/
def putWords (p : Tbl Word) (i : Nat) : List Word → Tbl Word
  | [] => p
  | w :: ws => putWords (tset p (fun _ => 0) i w) (i + 1) ws

/-- R453 steps 1 and 3 as far as the adverbs go: a reserved adverb; CHECK on GET or RECEIVE. -/
def adverbCheck (c : CmdSpec) (m : Sentence) : Option Refuse :=
  if m.adverbs &&& 0xF8#8 ≠ 0 then some { code := cBadVerb, detail := 3 }
  else if m.check ∧ (c.verb = vGet ∨ c.verb = vReceive) then some { code := cBadVerb, detail := 4 }
  else none

/-- R453 step 4 (R8); domain B of TKU_DOMAIN under R742. -/
def presentCheck (c : CmdSpec) (m : Sentence) (s : State) : Option Refuse :=
  let absent (u : Nat) : Bool := !s.present u
  if c.unit.any absent ∨ (c.noun = nTkuDomain ∧ m.inst = 1 ∧ absent fDomB) then some { code := cNotPresent } else none

/-- The performance-counter nouns (R463). -/
def pmcNoun (n : Nat) : Bool := decide (0x90 ≤ n ∧ n ≤ 0x97)

/-- R453 step 5 (R463). -/
def rightCheck (c : CmdSpec) (m : Sentence) (s : State) : Option Refuse :=
  match m.req with
  | .pf0 => none
  | .mgt =>
    if c.verb = vLoad ∧ (c.noun = nSeaKernel ∨ c.noun = nFwImage) then some { code := cPermission, detail := 3 } else none
  | .pf1 =>
    if c.verb = vGet then
      if pmcNoun c.noun ∧ s.dev.grant = false then some { code := cPermission, detail := 2 } else none
    else if (c.verb = vReceive ∧ c.noun = nDevEvent) ∨ (c.verb = vClear ∧ c.noun = nMbxStats) then none
    else some { code := cPermission, detail := 1 }

/-- The units of R6 that an instance names: the upper line lanes and slots, host lanes and quadrants. -/
def InstKind.unitBits (k : InstKind) (p : Part) (n : Nat) : List Nat :=
  let bit (b lo hi : Nat) : List Nat := if lo ≤ n ∧ n < hi then [b] else []
  match k with
  | .line | .port => bit fLineHi 4 (nLine p)
  | .portDir => bit fLineHi 8 (2 * nLine p)
  | .host => bit fHostHi 8 (nHost p)
  | .group => bit fHostHi 1 (nHost p / 8)
  | .quadrant => bit fSeaHi 2 (nQuad p)
  | .laneTest => bit fLineHi 4 (nLine p) ++ bit fHostHi 24 (16 + nHost p)
  | .calBlock => bit fLineHi 4 (nLine p) ++ bit fLineHi 20 (16 + nLine p)
  | _ => []

/-- R453 step 6 (R9, R426, R742); the pane-recovery commands skip it in START_FAILED (R660). -/
def acceptCheck (c : CmdSpec) (m : Sentence) (s : State) : Option Refuse :=
  if s.dev.mode = .startFailed ∧ c.recovery then none
  else
    let bits := c.unit.toList ++ c.feats ++ c.inst.unitBits s.fuses.part m.inst.toNat ++ (if c.noun = nTkuDomain ∧ m.inst = 1 then [fDomB] else [])
    match bits.find? fun b => !s.accepts b with
    | some b => some { code := cNotNegotiated, detail := b }
    | none =>
      if (m.check ∧ !s.accepts fCheck) ∨ (m.echo ∧ !s.accepts fEcho) then some { code := cNotNegotiated, detail := 0xFF }
      else none

/-- R453 step 7 (R450); the nouns that name a context take its number from the first payload word. -/
def instCheck (c : CmdSpec) (m : Sentence) (words : List Word) (s : State) : Option Refuse :=
  if c.inst.ok s m.inst.toNat then
    if c.inst = .context then
      if m.len.toNat < 4 then some { code := cBadLength, detail := 2 }
      else if 16383 < (words.getD 0 0).toNat then some { code := cBadInstance }
      else none
    else none
  else some { code := cBadInstance }

/-- R453 step 8. -/
def lenCheck (c : CmdSpec) (m : Sentence) (words : List Word) : Option Refuse :=
  if 4032 < m.len.toNat then some { code := cBadLength, detail := 1 }
  else
    match c.form with
    | .fixed ns => if ns.contains m.len.toNat then none else some { code := cBadLength, detail := 2 }
    | .range lo hi => if lo ≤ m.len.toNat ∧ m.len.toNat ≤ hi then none else some { code := cBadLength, detail := 2 }
    | .choice i v a b =>
      if m.len.toNat = 0 ∨ m.len.toNat = (if (words.getD i 0).toNat = v then a else b) then none else some { code := cBadLength, detail := 2 }
    | .mask =>
      match parseMask (paramRows c.noun) m.len.toNat words with
      | .badLength d => some { code := cBadLength, detail := d }
      | _ => none

/-- R453 step 9 as far as the mode goes (R439, R428). -/
def modeCheck (c : CmdSpec) (s : State) : Option Refuse :=
  if (if s.dev.mode = .startFailed then c.startFailed else c.modes.ok s) then none
  else some { code := cStateRefused, detail := 1 }

/-- The first failure of R453's steps 1 to 9, in order. -/
def commonCheck (c : CmdSpec) (m : Sentence) (words : List Word) (s : State) : Option Refuse :=
  (adverbCheck c m).or <| (presentCheck c m s).or <| (rightCheck c m s).or <| (acceptCheck c m s).or <|
    (instCheck c m words s).or <| (lenCheck c m words).or <| modeCheck c s

/-- The object of a refusal by `commonCheck`: where the instance is in range the object that it addresses, else the
device (R457, log entry 12). -/
def refusalObj (c : CmdSpec) (m : Sentence) (words : List Word) (s : State) : Obj :=
  if c.inst.ok s m.inst.toNat then c.inst.obj m.inst.toNat words else .device

/-- Completes a mailbox command (R445): payload, MBX_RESP, MBX_INFO, MBX_STATUS, SEQ and STATE, then the signal unless
QUIET; counts the reply (R457). -/
def State.complete (s : State) (m : Sentence) (code detail : Nat) (o : Obj) (words : List Word) (bytes : Nat) : State :=
  let s1 := s.modBox m.req m.mbx fun b =>
    { b with payload := putWords b.payload 0 words
             resp := Word.nat (m.tag.toNat + bytes * 65536)
             info := s.info o
             status := Word.nat (code + detail * 256)
             seq := b.seq + 1
             state := .complete }
  let s2 := { s1 with mb := { s1.mb with
    counts := tmod s1.mb.counts (fun _ => 0) (256 * m.req.num + code) (· + 1) } }
  if m.quiet then s2 else s2.edge m.req m.mbx

/-- Commands of a requester that are ACCEPTED and not yet recorded (R456). -/
def State.outstandingOf (s : State) (r : Requester) : List Outst := s.mb.outstanding.filter fun o => o.req = r ∧ !o.dropped

/-- R453 step 10 for a command that would complete ACCEPTED (R456). -/
def ticketCheck (m : Sentence) (s : State) : Option Refuse :=
  if (s.outstandingOf m.req).any fun o => o.tag = m.tag then some { code := cResource, detail := 3 }
  else if 64 ≤ (s.outstandingOf m.req).length then some { code := cResource, detail := 4 }
  else none

/-- The record kept of an ACCEPTED command. -/
def outstOf (c : CmdSpec) (m : Sentence) : Outst :=
  { req := m.req, tag := m.tag, verb := BitVec.ofNat 8 c.verb, noun := BitVec.ofNat 8 c.noun, inst := m.inst }

/-- The ticket of a command, by which its completion record finds it. -/
def ticketOf (m : Sentence) : Ticket := { req := m.req, tag := m.tag }

/-- Ends an ACCEPTED command: its completion record goes into its requester's queue, unless a reset of the function has
discarded it (R447, R455). -/
def State.finishObj (s : State) (t : Ticket) (code detail : Nat) (o : Obj) (result : List Word) : State :=
  match s.mb.outstanding.find? fun x => decide (x.req = t.req ∧ x.tag = t.tag) with
  | none => s
  | some x =>
    let s1 := { s with mb := { s.mb with outstanding := s.mb.outstanding.erase x } }
    if x.dropped then s1 else s1.cmdDone t.req x code detail (s.info o) result

def State.finish (s : State) (t : Ticket) (code detail : Nat) : State := s.finishObj t code detail .device []

/-- Ends a command that may have been issued. -/
def State.finishOpt (s : State) (t : Option Ticket) (code detail : Nat) (o : Obj) : State :=
  match t with
  | none => s
  | some t => s.finishObj t code detail o []

/-- The mailbox commands that wait for the datapath complete (R414). -/
def State.endEnter (s : State) (code detail : Nat) : State :=
  s.dev.enterWait.foldl (fun s m => s.complete m code detail .device [] 0) { s with dev := { s.dev with enterWait := [] } }

/-- LOAD runs its image checks under CHECK as well (R745). -/
def isLoad (c : CmdSpec) : Bool := c.verb = vLoad

/-- Carries out a command whose mailbox is BUSY: the checks of R453 in order, the command's own checks, its effect, its
completion. Under CHECK nothing takes effect (R745); an ACCEPTED then has its completion record at once, except for LOAD.
`echo` is the full parameter set of R449. -/
def process (c : CmdSpec) (check : State → Sentence → List Word → Option Refuse)
    (act : State → Sentence → List Word → State × Reply) (echo : State → Nat → List Word)
    (m : Sentence) (s0 : State) : State :=
  let s := s0.pmcEvent 0x010 1
  let words := (s.boxAt m.req m.mbx).words m.len.toNat
  let obj := c.inst.obj m.inst.toNat words
  match commonCheck c m words s with
  | some r => s.complete m r.code r.detail (refusalObj c m words s) [] 0
  | none =>
    match check s m words with
    | some r => s.complete m r.code r.detail (r.obj.getD obj) [] 0
    | none =>
      let e := act s m words
      let ws := if m.echo && decide (c.verb = vSet) then echo e.1 m.inst.toNat else []
      match e.2 with
      | .done out n =>
        if m.check then s.complete m cDone 0 obj [] 0
        else if ws.isEmpty then e.1.complete m cDone 0 obj out n
        else e.1.complete m cDone 0 obj ws (4 * ws.length)
      | .yielded ranks out =>
        if m.check then s.complete m cDone 0 obj [] 0
        else if ws.isEmpty then e.1.complete m cYielded ranks obj out (4 * out.length)
        else e.1.complete m cYielded ranks obj ws (4 * ws.length)
      | .wait => if m.check then s.complete m cDone 0 obj [] 0 else e.1
      | .failed r => (if m.check then s else e.1).complete m r.code r.detail (r.obj.getD obj) [] 0
      | .accepted out =>
        match ticketCheck m s with
        | some r => s.complete m r.code r.detail obj [] 0
        | none =>
          let base := if m.check ∧ !isLoad c then s else e.1
          let s1 := { base with mb := { base.mb with outstanding := base.mb.outstanding ++ [outstOf c m] } }
          let s2 := s1.complete m cAccepted 0 obj out (4 * out.length)
          if m.check ∧ !isLoad c then s2.finishObj (ticketOf m) cDone 0 obj [] else s2

/-- The mailbox can be reached: its function is enabled, in D0 and the link is up; or the management port answers
(R425, R441, R490, R496). -/
def State.reach (s : State) (r : Requester) (n : Nat) : Bool :=
  match r with
  | .mgt => s.dev.mgtUp && s.hif.tap.isNone && decide (n < 2)
  | _ => s.dev.pfEnabled && s.hif.linkUp && decide (s.dstate r = .d0) && decide (n < 16)

/-- The mailboxes that the boot ROM answers in START_FAILED (R428, R741). -/
def bootRomBox (r : Requester) (n : Nat) : Bool :=
  match r with
  | .pf0 => n = 0
  | .pf1 => false
  | .mgt => true

/-- Firmware begins commands: the mailboxes are open and no pane switch is between its steps 2 and 4 (R657, R741). -/
def State.begins (s : State) : Bool := s.dev.isOpen && !s.eventsHeld

/-- RING on a mailbox that is not BUSY: the sentence is taken and begun, or waits until the mailboxes open (R443, R741,
R657). -/
def State.ring (s : State) (verb noun : Nat) (run : Sentence → State → State) (m : Sentence) : State :=
  if s.dev.mode = .startFailed ∧ !bootRomBox m.req m.mbx then s
  else
    let s2 := s.modBox m.req m.mbx fun b => { b with state := .busy }
    if s.begins then run m s2
    else { s2 with mb := { s2.mb with
      waiting := s2.mb.waiting ++ [(BitVec.ofNat 8 verb, BitVec.ofNat 8 noun, m)] } }

/-- Host software's writes of a sentence (R443), and RING. While the mailbox is BUSY each write and the RING is discarded
and counted (R444). A RING before the mailboxes open waits (R741, R657). -/
def submit (verb noun : Nat) (run : Sentence → State → State) (m : Sentence) (s : State) : State :=
  if s.reach m.req m.mbx then
    if (s.boxAt m.req m.mbx).state = .busy then
      { s with mb := { s.mb with
          discards := tmod s.mb.discards (fun _ => 0) (boxKey m.req m.mbx) (· + (m.words.length + 3)) } }
    else
      let s1 := s.modBox m.req m.mbx fun b =>
        { b with cmd := Word.nat (verb + noun * 256 + m.inst.toNat * 65536 + m.adverbs.toNat * 16777216)
                 taglen := Word.nat (m.tag.toNat + m.len.toNat * 65536)
                 payload := putWords b.payload 0 (m.words.take 1008) }
      s1.ring verb noun run m
  else s

/-- No further check of a command's own. -/
def noCheck (_ : State) (_ : Sentence) (_ : List Word) : Option Refuse := none

/-- No parameter set to echo. -/
def noEcho (_ : State) (_ : Nat) : List Word := []

/-- The effect of a GET: the words that `f` reads. -/
def getAct (f : State → Nat → List Word) (s : State) (m : Sentence) (_ : List Word) : State × Reply :=
  (s, okWords (f s m.inst.toNat))

/-- The changes that a payload of the mask form makes. -/
def maskChanges (noun : Nat) (m : Sentence) (words : List Word) : List ParamChange :=
  match parseMask (paramRows noun) m.len.toNat words with
  | .ok _ cs => cs
  | _ => []

/-- Step 10 for the mask form: a value out of range (R70). -/
def maskRange (noun : Nat) (m : Sentence) (words : List Word) : Option Refuse :=
  match parseMask (paramRows noun) m.len.toNat words with
  | .range => some { code := cResource, detail := 1 }
  | _ => none

/-- The rows that a payload of the mask form selects, also when a value is out of range. -/
def maskSelected (noun : Nat) (words : List Word) : List Nat :=
  maskRows (paramRows noun) (words.getD 0 0) (words.getD 1 0)


end Sys2Proof.Machine
end

