-- ==== Sys2Proof/Machine/Bus.lean ====
section
/-! DEFINITION. The rows of direct register access that have a row of their own: timekeeping (R387 to R397, R730, R731), interrupt
controller (R500 to R517), counter latches (R672), DMA pointers (R487, R488), error summary (R732 to R735), management
port (R493 to R496, R516, R517). -/

namespace Sys2Proof.Machine

/-- A requester's registers can be reached: the function is enabled, in D0 and the link is up (R425, R490), or the
management port answers (R496) and no test instruction holds its pins (R722). -/
def State.bus (s : State) (r : Requester) : Bool :=
  match r with
  | .mgt => s.dev.mgtUp && s.hif.tap.isNone
  | _ => s.dev.pfEnabled && s.hif.linkUp && decide (s.dstate r = .d0)

/-- What a read gives back. -/
def State.answer (s : State) (ws : List Word) : State := { s with dev := { s.dev with busRead := { words := ws } } }

/-- Counts a discarded BAR0 write of a function (R475) or a discarded management transfer (R494), and sets
WRITE_DISCARDED (R733). -/
def State.discardWrite (s : State) (r : Requester) : State :=
  let s1 : State :=
    if r = .mgt then { s with hif := { s.hif with mgtDiscarded := s.hif.mgtDiscarded + 1 } }
    else { s with hif := { s.hif with discarded := s.hif.discarded + 1 } }
  (s1.errSet r 15).settleIcuOf r

/-- RW1C: bits written as 1 clear, except those that the device sets in the same access (R15, R17). -/
def rw1c {n : Nat} (old v now : BitVec n) : BitVec n := (old &&& ~~~v) ||| now

/-- A condition on the bus: a command of a requester that cannot reach the registers changes nothing. -/
def State.onBus (s : State) (r : Requester) (f : State → State) : State := if s.bus r then f s else s

/-- R475: Completer Abort. -/
def execBar0WideRead (r : Requester) (_off _dwords : Nat) (s : State) : Host.Outcome State Fault Refusal :=
  .next (s.onBus r fun s =>
    if r = .mgt then s else { s with dev := { s.dev with busRead := { words := [], abort := true } } })

/-! Timekeeping. -/

/-- R393, R395: the snapshot of BCNT and of both domains at one tick. -/
def State.tkuSnap (s : State) (r : Requester) : State :=
  let b : DomClk := if s.domBOn then s.tku.domB else {}
  (s.modSnap r fun x => { x with
    bcnt := s.tku.bcnt
    aSec := s.tku.domA.sec, aNs := s.tku.domA.ns, aFrac := s.tku.domA.frac
    bSec := b.sec, bNs := b.ns, bFrac := b.frac }).answer [s.tku.bcnt.setWidth 32]

/-- The management port has no TKU block (R494). -/
def execTkuBcntLoRead (r : Requester) (s : State) : Host.Outcome State Fault Refusal :=
  .next (s.onBus r fun s => if r = .mgt then s else s.tkuSnap r)

/-- A TKU write takes effect from PF0 only (R395); the management port does not reach the block (R494). -/
def State.tkuWrite (s : State) (r : Requester) (f : State → State) : State :=
  s.onBus r fun s =>
    match r with
    | .pf0 => f s
    | .pf1 => s.discardWrite .pf1
    | .mgt => s

/-- The domain can be written (R742). -/
def State.domOn (s : State) (d : Domain) : Bool := d = .a || s.domBOn

/-- R730: stages the fraction. -/
def State.incLo (s : State) (d : Domain) (v : Word) : State :=
  if s.domOn d then s.modDom d fun x => { x with staged := some v.toNat } else s.discardWrite .pf0

/-- The permitted increments (R387). -/
def incOk (n : Nat) : Bool := decide (0x019930BE0E ≤ n ∧ n ≤ 0x019A027526)

/-- R387, R388, R730: commits the increment for the next tick, or refuses it. -/
def State.incHi (s : State) (d : Domain) (v : Word) : State :=
  if s.domOn d then
    let x := s.dom d
    let n := (v.toNat % 256) * 2 ^ 32 + x.staged.getD (x.inc % 2 ^ 32)
    if incOk n then s.modDom d fun x => { x with staged := none, incNext := some n }
    else
      let s1 := s.modDom d fun x => { x with staged := none }
      { s1 with tku := { s1.tku with incRefused := true } }
  else s.discardWrite .pf0

def execTkuIncLoWrite (r : Requester) (d : Domain) (v : Word) (s : State) : Host.Outcome State Fault Refusal :=
  .next (s.tkuWrite r fun s => s.incLo d v)

def execTkuIncHiWrite (r : Requester) (d : Domain) (v : Word) (s : State) : Host.Outcome State Fault Refusal :=
  .next (s.tkuWrite r fun s => s.incHi d v)

/-- R389, R394, R731, R742: commits a step of the domains named; `b` is ignored while domain B does not run. -/
def State.stepGo (s : State) (a b : Bool) : State :=
  let b := b && s.domBOn
  if a ∨ b then
    { s with tku := { s.tku with gos := s.tku.gos ++ [(a, b, s.tku.stepSec.toInt, s.tku.stepNs.toInt)] } }
  else s

def execTkuStepGoA (r : Requester) (s : State) : Host.Outcome State Fault Refusal :=
  .next (s.tkuWrite r fun s => s.stepGo true false)

def execTkuStepGoB (r : Requester) (both : Bool) (s : State) : Host.Outcome State Fault Refusal :=
  .next (s.tkuWrite r fun s => s.stepGo both true)

/-- R397, R742: the change takes effect at the next tick. -/
def State.domSelWrite (s : State) (v : Word) : State :=
  if v.getLsbD 0 ∧ !s.domBOn then s.discardWrite .pf0
  else { s with tku := { s.tku with selNext := some (if v.getLsbD 0 then .b else .a) } }

def execTkuDomSelWrite (r : Requester) (v : Word) (s : State) : Host.Outcome State Fault Refusal :=
  .next (s.tkuWrite r fun s => s.domSelWrite v)

/-- TKU_STATUS as it reads (R393, R742). -/
def State.tkuStatus (s : State) : Word :=
  let b := s.domBOn
  Word.nat ((s.tku.domA.disc.toNat) + (b && s.tku.domB.disc).toNat * 2 + s.tku.heldFlag.toNat * 4 +
    s.tku.stepRefused.toNat * 8 + s.tku.incRefused.toNat * 16 + s.tku.domA.unset.toNat * 32 +
    (b && s.tku.domB.unset).toNat * 64)

/-- R393, R17: clears flags of TKU_STATUS. -/
def State.tkuStatusWrite (s : State) (v now : Word) : State :=
  let f (i : Nat) (old : Bool) : Bool := (old && !v.getLsbD i) || now.getLsbD i
  { s with tku := { s.tku with
      domA := { s.tku.domA with disc := f 0 s.tku.domA.disc }
      domB := if s.domBOn then { s.tku.domB with disc := f 1 s.tku.domB.disc } else s.tku.domB
      heldFlag := f 2 s.tku.heldFlag
      stepRefused := f 3 s.tku.stepRefused
      incRefused := f 4 s.tku.incRefused } }

def execTkuStatusClear (r : Requester) (v now : Word) (s : State) : Host.Outcome State Fault Refusal :=
  .next (s.tkuWrite r fun s => s.tkuStatusWrite v now)

/-! Interrupt controller. -/

/-- A PCIe function's own ICU, PMC and DMA blocks; the management port reaches none (R494). -/
def State.funcBus (s : State) (r : Requester) (f : State → State) : State :=
  s.onBus r fun s => if r = .mgt then s else f s

/-- Vectors of a function (R473). -/
def vectors (r : Requester) : Nat := if r = .pf1 then 32 else 64

/-- Sources 16, 17, 22 and 23 are level sources (R500). -/
def isLevelSrc (src : Nat) : Bool := src == 16 || src == 17 || src == 22 || src == 23

/-- The lowest-numbered PENDING source routed to a vector (R504). -/
def State.claimable (s : State) (r : Requester) (v : Nat) : Option Nat :=
  (List.range 24).find? fun src => decide ((s.srcAt r src).state = .pending ∧ s.vectorOf r src = v)

/-- ICU_CLAIM_v when no source is pending (R521). -/
def claimNone : Word := 0x80000000

/-- R504: the read claims at most one source. -/
def State.claim (s : State) (r : Requester) (v : Nat) : State :=
  if v < vectors r then
    match s.claimable r v with
    | none => s.answer [claimNone]
    | some src =>
      (s.modSrc r src fun x => { x with state := .inService, looked := false }).answer
        [Word.nat (src + (isLevelSrc src).toNat * 32)]
  else s.answer [0]

def execIcuClaimRead (r : Requester) (vec : Nat) (s : State) : Host.Outcome State Fault Refusal :=
  .next (s.funcBus r fun s => s.claim r vec)

/-- R503, R505: ends a source's service. -/
def State.completeSrc (s : State) (r : Requester) (src : Nat) : State :=
  let x := s.srcAt r src
  match x.state with
  | .inService =>
    if x.live then (s.modSrc r src fun x => { x with state := .pending }).enterPending r src
    else s.modSrc r src fun x => { x with state := .idle }
  | .latched => (s.modSrc r src fun x => { x with state := .pending }).enterPending r src
  | _ => s.modIcu r fun i => { i with stray := min (i.stray + 1) max36 }

def execIcuCompleteWrite (r : Requester) (v : Word) (s : State) : Host.Outcome State Fault Refusal :=
  .next (s.funcBus r fun s => s.completeSrc r (v.toNat % 32))

/-- ICU_LEVEL (R521). -/
def State.icuLevel (s : State) (r : Requester) : Word :=
  Word.nat (([16, 17, 22, 23].map fun src => (s.levelNow r src).toNat * 2 ^ src).sum)

/-- R506: the look. -/
def State.look (s : State) (r : Requester) : State :=
  [16, 17, 22, 23].foldl (fun s src =>
    if (s.srcAt r src).state = .inService then s.modSrc r src fun x => { x with looked := true } else s) s

def execIcuLevelRead (r : Requester) (s : State) : Host.Outcome State Fault Refusal :=
  .next (s.funcBus r fun s => (s.look r).answer [s.icuLevel r])

/-- R502. -/
def State.icuEnable (s : State) (r : Requester) (v : Word) : State :=
  (s.modIcu r fun x => { x with enable := v.setWidth 24 }).settleIcuOf r

def execIcuEnableWrite (r : Requester) (v : Word) (s : State) : Host.Outcome State Fault Refusal :=
  .next (s.funcBus r fun s => s.icuEnable r v)

def execIcuPmeCauseClear (r : Requester) (v now : Word) (s : State) : Host.Outcome State Fault Refusal :=
  .next (s.funcBus r fun s =>
    s.modIcu r fun x => { x with pmeCause := rw1c x.pmeCause (v.setWidth 24) (now.setWidth 24) })

/-- Sends the message that a vector's pending bit holds, once neither mask stands and the function is in D0 (R509,
R511). -/
def State.sendPba (s : State) (r : Requester) (v : Nat) : State :=
  let x := s.vecAt r v
  if x.pba ∧ !x.masked ∧ !(s.icuAt r).funcMask ∧ s.dstate r = .d0 then
    let s1 := s.modVec r v fun x => { x with pba := false, sent := x.sent + 1 }
    ({ s1 with hif := { s1.hif with l1 := false } }).pmcEvent 0x013 1
  else s

/-- Unmasks a vector, or the whole function (R509). -/
def State.unmask (s : State) (r : Requester) (vec : Option Nat) : State :=
  match vec with
  | some v =>
    if v < vectors r then (s.modVec r v fun x => { x with masked := false }).sendPba r v else s
  | none => (List.range (vectors r)).foldl (fun s v => s.sendPba r v) (s.modIcu r fun x => { x with funcMask := false })

def execMsixUnmask (r : Requester) (vec : Option Nat) (s : State) : Host.Outcome State Fault Refusal :=
  .next (s.funcBus r fun s => s.unmask r vec)

/-! Counter latches. -/

/-- PF1 reaches the counters only with the grant (R474, R683). -/
def State.pmcReach (s : State) (r : Requester) : Bool := r ≠ .pf1 || s.dev.grant

/-- A number names a counter on this part (R663). -/
def State.pmcExists (s : State) (k : Nat) : Bool := decide (k < 32) || decide (256 ≤ k ∧ k < 256 + 8 * s.engines)

/-- A counter's DISCONTINUITY as a function sees it; the management port reads PF0's (R670, log entry 22). -/
def Pmc.discOf (c : Pmc) (r : Requester) : Bool := if r = .pf1 then c.disc1 else c.disc0

/-- The flags of PMC_FLAGS for a counter that exists. -/
def Pmc.flags (c : Pmc) (r : Requester) : BitVec 4 :=
  BitVec.ofNat 4 (c.sat.toNat + (c.discOf r).toNat * 2 + c.drain.toNat * 8)

/-- A function's reading clears its own DISCONTINUITY (R670). -/
def Pmc.clearDisc (c : Pmc) (r : Requester) : Pmc := if r = .pf1 then { c with disc1 := false } else { c with disc0 := false }

/-- R672: latches the selected counter. -/
def State.pmcLatch (s : State) (r : Requester) : State :=
  if s.pmcReach r then
    let k := (s.snapAt r).pmcSel
    if s.pmcExists k then
      let c := s.pmcAt k
      let s1 := s.setPmc k (c.clearDisc r)
      (s1.modSnap r fun x => { x with pmcVal := c.value, pmcFlags := c.flags r }).answer [Word.nat c.value]
    else (s.modSnap r fun x => { x with pmcVal := 0, pmcFlags := 4 }).answer [0]
  else s.answer [0]

def execPmcValueLoRead (r : Requester) (s : State) : Host.Outcome State Fault Refusal :=
  .next (s.funcBus r fun s => s.pmcLatch r)

/-- R672: latches all 32 global counters. -/
def State.pmcGroup (s : State) (r : Requester) : State :=
  if s.pmcReach r then
    let s1 := s.modSnap r fun x => { x with
      grp := (List.range 32).map fun k => ((s.pmcAt k).value, (s.pmcAt k).flags r) }
    (List.range 32).foldl (fun s k => s.setPmc k ((s.pmcAt k).clearDisc r)) s1
  else s.discardWrite r

def execPmcGroupLatchGo (r : Requester) (s : State) : Host.Outcome State Fault Refusal :=
  .next (s.funcBus r fun s => s.pmcGroup r)

/-! DMA pointers. -/

/-- DMA_ERROR rises in the ERR_STICKY of the owner (R733). -/
def State.dmaErrFrom (s old : State) : State :=
  [Requester.pf0, .pf1].foldl (fun s r => if s.dmaError r && !old.dmaError r then (s.errSet r 14).settleIcuOf r else s) s

/-- The span from TAIL forward to HEAD, and the form of R488. -/
def Dma.tailOk (d : Dma) (v : Nat) : Bool :=
  decide (v % 64 = 0) && decide (v < d.size) && decide ((v + d.size - d.tail) % d.size ≤ (d.head + d.size - d.tail) % d.size)

/-- R488. -/
def State.dmaTail (s : State) (r : Requester) (ch : Nat) (v : Word) : State :=
  let d := s.dmaAt ch
  if d.owner = r then
    if d.tailOk (v.toNat % 2 ^ 30) then s.modDma ch fun d => { d with tail := v.toNat % 2 ^ 30 }
    else (s.modDma ch fun d => { d with error := true }).dmaErrFrom s
  else s.discardWrite r

def execDmaTailWrite (r : Requester) (ch : Nat) (v : Word) (s : State) : Host.Outcome State Fault Refusal :=
  .next (s.funcBus r fun s => s.dmaTail r ch v)

/-- R487, R17: GAP is bit 1, ERROR bit 2. -/
def State.dmaStatus (s : State) (r : Requester) (ch : Nat) (v now : Word) : State :=
  if (s.dmaAt ch).owner = r then
    (s.modDma ch fun d => { d with
      gap := (d.gap && !v.getLsbD 1) || now.getLsbD 1
      error := (d.error && !v.getLsbD 2) || now.getLsbD 2 }).dmaErrFrom s
  else s.discardWrite r

def execDmaStatusClear (r : Requester) (ch : Nat) (v now : Word) (s : State) : Host.Outcome State Fault Refusal :=
  .next (s.funcBus r fun s => s.dmaStatus r ch v now)

/-! The error summary. -/

/-- R734: a read of the error summary. -/
def State.readSticky (s : State) (r : Requester) (now : Word) : State :=
  let v := s.sticky r
  let f := tget s.err.first (fun _ => (0, 0)) r.num
  let s1 := s.modSnap r fun x => { x with firstBit := f.1 - 1, firstValid := decide (f.1 ≠ 0), firstBcnt := f.2 }
  let s2 := { s1 with err := { s1.err with
    sticky := tset s1.err.sticky (fun _ => 0) r.num 0
    first := tset s1.err.first (fun _ => (0, 0)) r.num (0, 0) } }
  (((listWhere 17 fun b => now.getLsbD b).foldl (fun s b => s.errSet r b) s2).settleIcuOf r).answer [v.setWidth 32]

/-- ERR_STICKY; the management port does not reach the ERR block (R735). -/
def execErrStickyRead (r : Requester) (now : Word) (s : State) : Host.Outcome State Fault Refusal :=
  .next (s.funcBus r fun s => s.readSticky r now)

/-- ID_ERR (R735). -/
def execIdErrRead (r : Requester) (now : Word) (s : State) : Host.Outcome State Fault Refusal :=
  .next (s.onBus r fun s => s.readSticky r now)

/-! The management port. -/

/-- R516: the read ends the pending state of the mailbox's source. -/
def State.mgtStatus (s : State) (n : Nat) : State :=
  (s.modSrc .mgt n fun x => { x with state := .idle }).answer [(s.boxAt .mgt n).status]

def execMgtMbxStatusRead (n : Nat) (s : State) : Host.Outcome State Fault Refusal :=
  .next (s.onBus .mgt fun s => if n < 2 then s.mgtStatus n else s)

/-- R494. -/
def execMgtTransferDiscarded (s : State) : Host.Outcome State Fault Refusal :=
  .next (s.onBus .mgt fun s => s.discardWrite .mgt)

/-- R493. -/
def execI3cDynamicAddress (addr : BitVec 7) (s : State) : Host.Outcome State Fault Refusal :=
  .next (s.onBus .mgt fun s => { s with hif := { s.hif with i3c := true, dynAddr := addr } })

/-- R493. -/
def execI3cRstdaa (s : State) : Host.Outcome State Fault Refusal :=
  .next (s.onBus .mgt fun s => { s with hif := { s.hif with i3c := false, dynAddr := 0 } })

/-- A source of the management port is pending (R516). -/
def State.mgtPending (s : State) : Bool := [0, 1, 16, 17, 22].any fun src => (s.srcAt .mgt src).state = .pending

/-- R517: a declined in-band interrupt is repeated while its source stays PENDING. -/
def execIbiDeclined (s : State) : Host.Outcome State Fault Refusal :=
  .next (s.onBus .mgt fun s =>
    if s.hif.i3c ∧ s.mgtPending then s.modIcu .mgt fun x => { x with ibiRepeated := x.ibiRepeated + 1 } else s)

end Sys2Proof.Machine
end

