-- ==== Sys2Proof/Machine/Report.lean ====
section
/-! DEFINITION. Fault reports and their queue (R625 to R631), the repair record (R648 to R651), yields (R652 to R656), in-service slices
as far as other subsystems end them (R643). -/

namespace Sys2Proof.Machine

/-! Yields (R655, R656). `tst.counts` keeps four counts per rank: yields and ends by rank yielded, then by rank kept. -/

def State.countRank (s : State) (key : Nat) : State :=
  { s with tst := { s.tst with counts := tmod s.tst.counts (fun _ => 0) key (· + 1) } }

/-- Counts a yield per rank yielded and per rank kept. -/
def State.countYield (s : State) (rank kept : Nat) : State := (s.countRank (4 * rank)).countRank (4 * kept + 2)

/-- Counts the end of a yield. -/
def State.countYieldEnd (s : State) (rank kept : Nat) : State := (s.countRank (4 * rank + 1)).countRank (4 * kept + 3)

/-- No requester in an event's word (log entry 10). -/
def noReq : Nat := 0xFF

/-- Raises REL_YIELD and keeps the yield in force (R655, R656). -/
def State.relYield (s : State) (rank obj kept keptObj : Nat) (req : Option Requester) : State :=
  let y : YieldRec := { rank := rank, obj := obj, keptRank := Word.nat kept, since := s.tku.bcnt, req := req }
  (({ s with tst := { s.tst with yields := s.tst.yields ++ [y] } }).countYield rank kept).raise evRelYield
    [Word.nat rank, Word.nat obj, Word.nat kept, Word.nat keptObj,
     Word.nat (match req with | none => noReq | some r => r.num)]

/-- Ends the yields of a rank and object: REL_YIELD_END follows every REL_YIELD (R656). -/
def State.relYieldEnd (s : State) (rank obj : Nat) : State :=
  (s.tst.yields.filter fun y => decide (y.rank = rank ∧ y.obj = obj)).foldl (fun s y =>
    (({ s with tst := { s.tst with yields := s.tst.yields.erase y } }).countYieldEnd rank y.keptRank.toNat).raise
      evRelYieldEnd (Word.nat rank :: field32 (s.since y.since))) s

/-! Targeted self-test. -/

/-- The position of a kind of element in R632. -/
def kindNum : ElemKind → Nat
  | .slice => 0
  | .engine => 1
  | .lexBank => 2
  | .cell => 3
  | .axCore => 4
  | .stage => 5
  | .interp => 6

/-- Sources of a repair entry (R649). -/
def srcTest : Nat := 0
def srcSlice : Nat := 1
def srcBist : Nat := 2

/-- An element of a report: kind, unit and location. -/
def Report.same (a b : Report) : Bool := a.kind = b.kind && a.unit == b.unit && a.loc == b.loc

/-- Starts the tests that may run: at most one per kind, in arrival order (R631). -/
def State.startTests (s : State) : State :=
  [ElemKind.slice, .engine, .lexBank, .cell, .axCore, .stage, .interp].foldl (fun s k =>
    if s.tst.under.any fun u => u.1.kind = k then s
    else
      match s.tst.queue.find? fun r => r.kind = k with
      | none => s
      | some r => { s with tst := { s.tst with queue := s.tst.queue.erase r, under := s.tst.under ++ [(r, 0)] } }) s

/-- A fault report: a second report of a waiting or tested element is counted and merged (R625, R631). -/
def State.report (s : State) (kind : ElemKind) (unit loc source : Nat) : State :=
  let r : Report := { kind := kind, unit := unit, loc := loc, source := source }
  if (s.tst.queue.any fun q => q.same r) || (s.tst.under.any fun u => u.1.same r) then
    { s with tst := { s.tst with merged := s.tst.merged + 1 } }
  else ({ s with tst := { s.tst with queue := s.tst.queue ++ [r] } }).startTests

/-- The sub-tick interpolator of a port and direction goes to targeted self-test; until its verdict rank 3 yields to rank 2
(R406, R654). -/
def State.interpReport (s : State) (u : Nat) : State :=
  let s1 := if (s.residAt u).interpDown then s
    else (s.modResid u fun x => { x with interpDown := true }).relYield 3 u 2 (u / 2) none
  s1.report .interp u 3 srcTest

/-! The repair record (R648 to R651). -/

/-- floor(BCNT / 625,000,000) (R649). -/
def State.lifeSeconds (s : State) : Nat := s.tku.bcnt.toNat / 625000000

/-- An entry of the repair record for a verdict that falls now (R649). -/
def State.newEntry (s : State) (kind source unit loc : Nat) : RepairEntry :=
  { kind := kind, source := source, unit := unit, location := loc, start := s.rep.startNo, seconds := s.lifeSeconds }

/-- Appends an entry to the repair record: the copy with the older generation is written (R648). At 2,048 entries
nothing is recorded and REP_RECORD_FULL is raised (R651). -/
def State.appendEntry (s : State) (e : RepairEntry) : State :=
  if 2048 ≤ s.rep.entries.length then s.raise evRepRecordFull [Word.nat e.kind, Word.nat e.unit, Word.nat e.location]
  else { s with rep := { s.rep with entries := s.rep.entries ++ [e], gen := s.rep.gen + 1 } }

/-- Records a lasting verdict. -/
def State.repair (s : State) (kind source unit loc : Nat) : State := s.appendEntry (s.newEntry kind source unit loc)

/-! In-service slices as others end them (R643). -/

/-- The number of a block: engine, or 256 + bank. -/
def blockNum : SliceBlock → Nat
  | .engine e => e
  | .bank b => 256 + b

/-- A service request ends a slice: the block is re-initialised and rescheduled first; TST_SLICE_ABORTED and a REL_YIELD
of rank 7. The time that the abort took is open. -/
def State.abortSlice (s : State) (b : SliceBlock) (kept : Nat) (req : Option Requester) : State :=
  if s.tst.slices.contains b then
    let s1 := { s with tst := { s.tst with
      slices := s.tst.slices.erase b, aborted := blockNum b :: s.tst.aborted
      abortAt := tset s.tst.abortAt (fun _ => 0) (blockNum b) s.tku.bcnt
      aborts := s.tst.aborts + (if blockNum b < 256 then 1 else 0)
      bankAborts := s.tst.bankAborts + (if blockNum b < 256 then 0 else 1) } }
    let s2 := s1.raise evTstSliceAborted
      [Word.nat (blockNum b), Word.nat (match req with | none => noReq | some r => r.num), s1.freeVal]
    let s3 := s2.freeNext.relYield 7 (blockNum b) kept 0 req
    match b with
    | .engine e => s3.modEng e Engine.fresh
    | .bank n => s3.modBank n fun x => { x with slice := false, spare := none, filling := false }
  else s

end Sys2Proof.Machine
end

