-- ==== Sys2Proof/Machine/Hinge.lean ====
section
/-! DEFINITION. The Hinge: capacity (R47, R140 to R148), the plan (R149 to R153), its yields (R168, R169), how it is applied
(R154, R156, R158), swaps (R159 to R163), engine faults (R165 to R167). Where the spec leaves the choice among engines
open, the lowest-numbered one is taken, and a group gives up its engines away from home first (log entry 16). -/

namespace Sys2Proof.Machine

/-! Capacity. -/

/-- MAC per sample of a tier (R134). -/
def macOf (t : Nat) : Nat := [0, 16, 26, 36, 48].getD t 48

/-- The kernel ID of a tier (R134). -/
def kernelOf (t : Nat) : Nat := [0x00, 0x11, 0x22, 0x33, 0x44].getD t 0x44

/-- Engines that a tier needs at a step rate in 0.01 G steps/s (R47, R145). -/
def engNeed (half : Bool) (t r : Nat) : Nat :=
  let d := (if half then 256 else 128) * r
  (macOf t * 225 * 108 + d - 1) / d

/-- The planning step rate: the lowest that PWR reports, in 0.01 G steps/s; 0 while it reports none (R141). -/
def State.planRate (s : State) : Nat := s.hinge.rates.min?.getD 0

/-- The headroom of R146 in 0.01 %, to the nearest (R737). -/
def headroom (half : Bool) (e t r : Nat) : Int :=
  let n := e * 128 * r * 100 * (if half then 2 else 1)
  let d := macOf t * 225
  if t = 0 then 0 else ((2 * n + d) / (2 * d) : Nat) - 10000

/-- Line lanes that belong to configured ports. -/
def State.configuredLanes (s : State) : List Nat := listWhere s.lines fun l => (s.portOf l).isSome

/-- An engine that the tier pool may count: neither retired nor under targeted self-test (R140). -/
def Engine.healthy (e : Engine) : Bool := e.role ≠ .retired && !(e.role = .test && !e.slice)

/-- The tier pool (R140). -/
def State.tierPool (s : State) : Nat :=
  countWhere s.engines (fun e => (s.engAt e).healthy) - complement s.fuses.part - 2 * s.configuredLanes.length

/-- The engines of a lane's group. -/
def State.groupOf (s : State) (l : Nat) : List Nat :=
  listWhere s.engines fun e => (s.engAt e).role = .tier && (s.engAt e).lane == l

/-- Adaptation engines of a lane. -/
def State.adaptOf (s : State) (l : Nat) : List Nat :=
  listWhere s.engines fun e => (s.engAt e).role = .adapt && (s.engAt e).lane == l

/-- Quadrants that a lane's group uses, as a mask (R737). -/
def State.quadsOf (s : State) (l : Nat) : Nat :=
  ((List.range 4).map fun q => if (s.groupOf l).any fun e => e / 64 = q then 2 ^ q else 0).sum

/-- The headroom of a lane. -/
def State.laneHeadroom (s : State) (l : Nat) : Int :=
  headroom (s.half l) (s.groupOf l).length (s.lineAt l).sea.tier s.planRate

/-- The floors of all GUARANTEED lanes, with the policy of one port replaced, fit in the tier pool at a step rate (R148). -/
def State.floorsFit (s : State) (pol : Nat → Bool × Nat) (r : Nat) : Bool :=
  decide ((s.configuredLanes.map fun l =>
    match s.portOf l with
    | none => 0
    | some p => if (pol p).1 then engNeed (s.half l) (pol p).2 r else 0).sum ≤ s.tierPool)

/-- The step rate of R148's check: the lower of the planning step rate and the floor reference, or the reference alone. -/
def State.checkRate (s : State) (ref : Nat) : Nat := if s.planRate = 0 then ref else min s.planRate ref

/-! The plan. -/

/-- What the plan needs of a lane (R149 to R151). -/
structure LaneIn where
  lane : Nat
  floor : Nat
  demand : Nat
  weight : Nat
  guar : Bool
  echoEmpty : Bool
  half : Bool
deriving DecidableEq, Repr

/-- A lane in the plan: its tier and its engines above the floor. -/
structure LanePlan where
  inp : LaneIn
  tier : Nat
  extra : Nat := 0
deriving DecidableEq, Repr

/-- Engines of a planned lane. -/
def LanePlan.eng (p : LanePlan) (r : Nat) : Nat := engNeed p.inp.half p.tier r

def usedBy (r : Nat) (ps : List LanePlan) : Nat := (ps.map fun p => p.eng r).sum

/-- The lane that gives up a floor tier first: lowest weight, then highest lane number, among floors above tier 0
(R152). -/
def firstToLower (guar : Bool) (ps : List LanePlan) : Option LanePlan :=
  (ps.filter fun p => p.inp.guar = guar && decide (0 < p.tier)).foldl (fun b p =>
    match b with
    | none => some p
    | some q => if p.inp.weight ≤ q.inp.weight then some p else some q) none

/-- Lowers floors until they fit or none of the class is left (R152 steps 1 and 3). -/
def lowerFloors (guar : Bool) (r cap : Nat) : Nat → List LanePlan → List LanePlan
  | 0, ps => ps
  | n + 1, ps =>
    if usedBy r ps ≤ cap then ps
    else
      match firstToLower guar ps with
      | none => ps
      | some q => lowerFloors guar r cap n
          (ps.map fun p => if p.inp.lane = q.inp.lane then { p with tier := p.tier - 1 } else p)

/-- The next raise of a lane: the new tier (R150, R151). -/
def LanePlan.next (p : LanePlan) : Nat :=
  if p.inp.echoEmpty ∧ p.inp.demand = 4 ∧ p.tier = 2 then 4 else p.tier + 1

/-- What a raise costs. -/
def LanePlan.cost (p : LanePlan) (r : Nat) : Nat := engNeed p.inp.half p.next r - p.eng r

/-- The lane to raise: lowest extra per weight, then lowest number, among those below their demand whose raise fits. -/
def firstToRaise (r room : Nat) (ps : List LanePlan) : Option LanePlan :=
  (ps.filter fun p => decide (p.tier < p.inp.demand ∧ p.cost r ≤ room)).foldl (fun b p =>
    match b with
    | none => some p
    | some q => if p.extra * q.inp.weight < q.extra * p.inp.weight then some p else some q) none

/-- Raises lanes one by one while a raise fits (R151). -/
def raiseLanes (r pool : Nat) : Nat → List LanePlan → List LanePlan
  | 0, ps => ps
  | n + 1, ps =>
    match firstToRaise r (pool - usedBy r ps) ps with
    | none => ps
    | some q => raiseLanes r pool n
        (ps.map fun p => if p.inp.lane = q.inp.lane then { p with tier := p.next, extra := p.extra + p.cost r } else p)

/-- The whole plan at a step rate and a throttle level, and how many transom engines floors take (R151 to R153).
`transoms` is how many could be lent. What is left once floors have been lowered goes to raises (DESIGN CHOICE, log entry 135). -/
def makePlan (ins : List LaneIn) (r pool transoms throttle : Nat) : List LanePlan × Nat :=
  let fl := ins.map fun i => { inp := i, tier := i.floor : LanePlan }
  let f := usedBy r fl
  if f ≤ pool then (raiseLanes r (f + (100 - throttle) * (pool - f) / 100) 64 fl, 0)
  else
    let f1 := lowerFloors false r pool 64 fl
    let lent := min (usedBy r f1 - pool) transoms
    let f2 := lowerFloors true r (pool + lent) 64 f1
    (raiseLanes r (pool + lent) 64 f2, lent)

/-- Lanes of started ports, ascending (R149). -/
def State.startedLanes (s : State) : List Nat :=
  listWhere s.lines fun l =>
    match s.portOf l with
    | none => false
    | some p => (s.portAt p).state ≠ .stopped && (s.portAt p).state ≠ .test

/-- The floor that a lane counts with: before its first estimate an ELASTIC lane counts with none (R149). -/
def State.floorIn (s : State) (l : Nat) : Nat :=
  match s.portOf l with
  | none => 0
  | some p => if (s.lineAt l).sea.hasEst || s.guaranteed p then s.floorOf p else 0

/-- A lane's demand (R150); before its first estimate its reserved floor. -/
def State.demandOf (s : State) (l : Nat) : Nat :=
  let x := (s.lineAt l).sea
  max (s.floorIn l) (if x.hasEst then x.demand else 0)

def State.laneIn (s : State) (l : Nat) : LaneIn :=
  { lane := l, floor := s.floorIn l, demand := s.demandOf l,
    weight := match s.portOf l with | none => 16 | some p => s.weightOf p,
    guar := match s.portOf l with | none => false | some p => s.guaranteed p,
    echoEmpty := (s.lineAt l).lrx.echoes = 0, half := s.half l }

/-- Transom engines that floors may take: those in role, and those that floors already hold. -/
def State.lendable (s : State) : Nat :=
  countWhere s.engines (fun e => (s.engAt e).role = .transom) + s.hinge.lentFloors.length

/-- The plan of the present state at a step rate and throttle level. -/
def State.planAt (s : State) (r throttle : Nat) : List LanePlan × Nat :=
  makePlan (s.startedLanes.map s.laneIn) r s.tierPool s.lendable throttle

def planTier (ps : List LanePlan) (l : Nat) : Nat :=
  match ps.find? fun p => p.inp.lane = l with
  | none => 0
  | some p => p.tier

/-! Yields of the Hinge (R168, R169). -/

def YieldCause.num : YieldCause → Nat
  | .capacity => 0
  | .stepRate => 1
  | .throttle => 2
  | .watermark => 3

/-- Rank yielded: 2 below a GUARANTEED floor, else 4 (R169). -/
def State.rankYielded (s : State) (l tier : Nat) : Nat :=
  match s.portOf l with
  | none => 4
  | some p => if s.guaranteed p ∧ tier < s.floorOf p then 2 else 4

/-- The slots of GUARANTEED ports that are placed, as a mask. -/
def State.guarMask (s : State) : Nat :=
  (s.slots.map fun p =>
    if (s.portLines p).any (s.startedLanes.contains ·) && s.guaranteed p then 2 ^ p else 0).sum

/-- The lanes ahead of a lane by weight, as a mask: those that R151 takes first at equal engines above the floor, as far as the plan
places them (DESIGN CHOICE, log entry 136). -/
def State.aheadMask (s : State) (l : Nat) : Nat :=
  (s.startedLanes.map fun k =>
    let w (j : Nat) : Nat := (s.laneIn j).weight
    if k ≠ l ∧ 0 < (s.lineAt k).sea.plan ∧ (w l < w k ∨ (w l = w k ∧ k < l)) then 2 ^ k else 0).sum

/-- Rank kept and its object (R169): 0 for the part's limits, the lane, a mask of ports, a mask of lanes (DESIGN CHOICE, log entry 136). -/
def State.keptBy (s : State) (l : Nat) (c : YieldCause) : Nat × Nat :=
  match c with
  | .throttle | .stepRate => (1, 0)
  | .watermark => (2, l)
  | .capacity => if s.guarMask ≠ 0 then (2, s.guarMask) else (4, s.aheadMask l)

/-- Raises SEA_YIELD for a lane placed at tier `t` (R168, R169, R172) and counts it per lane and per rank. -/
def State.seaYield (s : State) (l t : Nat) (c : YieldCause) : State :=
  let ry := s.rankYielded l t
  let k := s.keptBy l c
  let s1 := s.modSea l fun x => { x with
    yielding := true, cause := c, yieldSince := if x.yielding then x.yieldSince else s.tku.bcnt }
  ((s1.bump gSea l 2).countYield ry k.1).raise evSeaYield
    [Word.nat l, Word.nat ((s.portOf l).getD 0), Word.nat c.num, Word.nat ry, Word.nat l, Word.nat k.1, Word.nat k.2,
     Word.nat t, Word.nat (s.demandOf l)]

/-- Raises SEA_YIELD_END when the lane was in yield. -/
def State.seaYieldEnd (s : State) (l : Nat) : State :=
  let x := (s.lineAt l).sea
  if x.yielding then
    let s1 := s.modSea l fun x => { x with yielding := false }
    ((s1.bump gSea l 3).countYieldEnd (s.rankYielded l x.placed) (s.keptBy l x.cause).1).raise evSeaYieldEnd
      (Word.nat l :: field32 (s.since x.yieldSince))
  else s

/-! Engines. -/

/-- Free engines of a quadrant, ascending. -/
def State.freeIn (s : State) (q : Nat) : List Nat :=
  ((List.range 64).map (64 * q + ·)).filter fun e => decide (e < s.engines) && (s.engAt e).role = .free

/-- In-service slices on engines, which placement may pre-empt (R158). -/
def State.sliceIn (s : State) (q : Nat) : List Nat :=
  ((List.range 64).map (64 * q + ·)).filter fun e => (s.engAt e).role = .test && (s.engAt e).slice

/-- The quadrant with most free engines, the lowest on a tie. -/
def State.mostFree (s : State) : Nat :=
  (List.range s.quads).foldl (fun b q => if (s.freeIn b).length < (s.freeIn q).length then q else b) 0

/-- The next engine that placement takes for a lane: home quadrant first, then the quadrant with most free engines, FREE
before TEST (R141, R158). -/
def State.nextEngine (s : State) (l : Nat) : Option Nat :=
  let home := l / 2
  ((s.freeIn home).head?.or (s.freeIn s.mostFree).head?).or
    ((s.sliceIn home).head?.or (((List.range s.quads).flatMap s.sliceIn).head?))

/-- Engines that placement can take (R158). -/
def State.takable (s : State) : Nat :=
  ((List.range s.quads).map fun q => (s.freeIn q).length + (s.sliceIn q).length).sum

/-- The coefficient set of a lane: its master coefficients in 9 bits (R142). -/
def State.setOf (s : State) (l : Nat) : List Int := coefSetOf (s.lineAt l).sea.master

/-- Puts an engine into a role for a lane, ending its slice where it is in one. A transom engine starts from its shadow copy of the
lane's set (R165), any other from the set in force; it joins with the samples that the group holds (DESIGN CHOICE, log entry 134). -/
def State.assign (s : State) (e : Nat) (role : Role) (l : Nat) : State :=
  let peer := s.engAt ((s.groupOf l).headD e)
  (s.abortSlice (.engine e) 4 none).modEng e fun x =>
    { role := role, lane := l, lmem := peer.lmem, ring := peer.ring, lfsr := x.lfsr, interval := x.interval
      coefs := if x.role = .transom then x.shadow.getD l (s.setOf l) else s.setOf l }

/-- Adds `n` engines to a lane's group as far as there are any; answers those added. -/
def State.addEngines (s : State) (l : Nat) : Nat → State × List Nat
  | 0 => (s, [])
  | n + 1 =>
    match s.nextEngine l with
    | none => (s, [])
    | some e =>
      let r := (s.assign e .tier l).addEngines l n
      (r.1, e :: r.2)

/-- Returns engines to FREE. -/
def State.freeEngines (s : State) (es : List Nat) : State := es.foldl (fun s e => s.modEng e Engine.fresh) s

/-- Engines become transom engines (R140). -/
def State.toTransom (s : State) (es : List Nat) : State :=
  es.foldl (fun s e => s.modEng e fun x => { x.fresh with role := .transom }) s

/-- A FREE engine becomes a transom engine while the complement is short: in the quadrant `q` that one has left, else two in each
quadrant, where it can (R140, R166). -/
def State.topUpOne (s : State) (q : Option Nat) : State :=
  if s.hinge.started ∧ s.transomCount < complement s.fuses.part then
    let short (q : Nat) : Bool :=
      decide (((List.range 64).filter fun k => (s.engAt (64 * q + k)).role = .transom).length < 2)
    let near := match q with | none => [] | some k => s.freeIn k
    let pick := near ++ (List.range s.quads).flatMap fun q => if short q then (s.freeIn q) else []
    match pick.head?.or ((List.range s.quads).flatMap s.freeIn).head? with
    | none => s
    | some e => s.toTransom [e]
  else s

/-- Brings the transom complement back as far as FREE engines allow (R166). -/
def State.topUp (s : State) (q : Option Nat) : State :=
  (List.range (complement s.fuses.part)).foldl (fun s _ => s.topUpOne q) s

/-- The coefficients hold while an ADAPT place of the lane is vacant after a fault (R167). -/
def State.holdAdapt (s : State) (l : Nat) : State :=
  let full := decide (2 ≤ (s.adaptOf l).length)
  s.modSea l fun x => { x with adaptHold := x.adaptHold && !full }

/-- Fills the two ADAPT places of a configured lane from FREE, home quadrant first (R140, R167). -/
def State.fillAdapt (s : State) (l : Nat) : State :=
  if s.hinge.started then
    ((List.range 2).foldl (fun s _ =>
      if (s.adaptOf l).length < 2 then
        match (s.freeIn (l / 2)).head?.or (s.freeIn s.mostFree).head? with
        | none => s
        | some e => s.assign e .adapt l
      else s) s).holdAdapt l
  else s

/-- Reservations of R140 after engines became free or ports changed. -/
def State.reserve (s : State) : State := (s.configuredLanes.foldl (fun s l => s.fillAdapt l) s).topUp none

/-- Ends the ADAPT places of lanes that no port holds. -/
def State.dropAdapt (s : State) : State :=
  s.freeEngines (listWhere s.engines fun e =>
    (s.engAt e).role = .adapt && (s.portOf (s.engAt e).lane).isNone)

/-- Raises SEA_PLACED (R172). -/
def State.seaPlaced (s : State) (l old : Nat) : State :=
  s.raise evSeaPlaced [Word.nat l, Word.nat old, Word.nat (s.lineAt l).sea.tier, Word.nat (s.groupOf l).length,
    Word.int (s.laneHeadroom l)]

/-- Raises SEA_PLACED for every lane whose tier or engine count is another than in `was` (R172). -/
def State.tellPlaced (s was : State) : State :=
  (List.range s.lines).foldl (fun s l =>
    if (s.lineAt l).sea.tier = (was.lineAt l).sea.tier ∧ (s.groupOf l).length = (was.groupOf l).length then s
    else s.seaPlaced l (was.lineAt l).sea.tier) s

/-! Swaps. -/

/-- Swaps in progress in the device (R163). -/
def State.swapsRunning (s : State) : Nat := countWhere s.lines fun l => (s.lineAt l).sea.swap.isSome

/-- Two shadow engines beside the `need` engines that the group is to take: from FREE, then from TRANSOM (R161). -/
def State.shadowPick (s : State) (need : Nat) : Option (List Nat × List Nat) :=
  if s.takable < need then none
  else
    let free := ((List.range s.quads).flatMap s.freeIn).take (min 2 (s.takable - need))
    let tr := (listWhere s.engines fun e => (s.engAt e).role = .transom).take (2 - free.length)
    if free.length + tr.length = 2 then some (free, tr) else none

/-- Step 1 of R159: two shadows are reserved; the group grows to `count` engines at its next block boundary (R156). Answers none
while engines are missing. -/
def State.startSwap (s : State) (l tier version : Nat) (ticket : Option Ticket) (count : Nat) (par : List (Nat × Word)) :
    Option State :=
  match s.shadowPick (count - (s.groupOf l).length) with
  | none => none
  | some (free, tr) =>
    let s1 := (free ++ tr).foldl (fun s e => s.assign e .shadow l) s
    let w : Swap := { step := 1, tier := tier, version := version, shadows := free, lent := tr, ticket := ticket,
                      count := count, par := par }
    some ((s1.modSea l fun x => { x with swap := some w }).pmcEvent 0x051 1)

/-- Returns a swap's shadows, and after an abandonment the engines added (R159 step 6). Lent shadows go back to TRANSOM. -/
def State.endSwap (s : State) (l : Nat) (w : Swap) (keep : Bool) : State :=
  let s1 := s.freeEngines (w.shadows.filter fun e => (s.engAt e).role = .shadow)
  let s2 := s1.toTransom (w.lent.filter fun e => (s.engAt e).role = .shadow)
  let s3 := if keep then s2
    else s2.freeEngines (w.added.filter fun e => (s.engAt e).role = .tier && (s.engAt e).lane == l)
  (s3.modSea l fun x => { x with swap := none }).reserve

/-- Reasons in SEA_SWAP_ABANDONED (log entry 10): the rule R160, R162 or R163; 3 for a plan, a stop or a Shutter. -/
def swR160 : Nat := 0
def swR162 : Nat := 1
def swR163 : Nat := 2
def swOther : Nat := 3

/-- Abandons a lane's swap at once: the live kernel and its parameters stay (R136, R160, R162, R163). A commanded swap ends with
STATE_REFUSED (R455). A swap that has switched only returns its shadows. -/
def State.abandonSwap (s : State) (l reason detail : Nat) : State :=
  match (s.lineAt l).sea.swap with
  | none => s
  | some w =>
    if w.step = 6 then s.endSwap l w true
    else
      let s1 := ((s.endSwap l w false).bump gSea l 5).raise evSeaSwapAbandoned [Word.nat l, Word.nat reason]
      (s1.finishOpt w.ticket cStateRefused detail (.line l)).tellPlaced s

/-- The version of a kernel that a lane runs (R138): the one that SELECT gave it, else the pane's own. Where LOAD has replaced that
one while the lane did not run it, the older one held (DESIGN CHOICE, log entry 137). -/
def State.versionOf (s : State) (l id : Nat) : Nat :=
  let k := s.kernAt id
  let v := (tget (s.lineAt l).sea.sel (fun _ => none) id).getD k.own.toNat
  if k.vers.any fun w => w.toNat == v then v else (k.vers.headD 0).toNat

/-- The version of a tier's kernel. -/
def State.versionFor (s : State) (l t : Nat) : Nat := s.versionOf l (kernelOf t)

/-- Puts "By swap" values in force (R136). -/
def State.putPar (s : State) (l : Nat) (par : List (Nat × Word)) : State :=
  par.foldl (fun s p => s.setParam nSeaKparam l p.1 p.2) s

/-! Applying a plan. -/

/-- The engines that a lane's group is to have: for its plan; while a raise is to come, for the tier that runs; in a swap, for both
kernels (R47, R50, R156, R159). -/
def State.laneWant (s : State) (l : Nat) : Nat :=
  let x := (s.lineAt l).sea
  let now := engNeed (s.half l) x.tier s.planRate
  match x.swap with
  | some w => max now (max w.count (engNeed (s.half l) w.tier s.planRate))
  | none => if x.tier < x.plan then now else x.planEng

/-- Engines that a group gives up first: away from home, then the highest numbers. -/
def State.leaving (s : State) (l n : Nat) : List Nat :=
  let g := s.groupOf l
  let home (e : Nat) : Bool := e / 64 = l / 2
  (((g.filter fun e => !home e).reverse ++ (g.filter home).reverse).filter fun e => !(s.engAt e).lent).take n

/-- The lent engines of a lane that the plan no longer gives to floors (R152). -/
def State.lentExcess (s : State) (l : Nat) : List Nat :=
  ((s.groupOf l).filter fun e => (s.engAt e).lent).take (s.hinge.lentFloors.length - s.hinge.lend)

/-- The engines that a lane is to release (R156): none while a swap runs. -/
def State.toRelease (s : State) (l : Nat) : List Nat :=
  if (s.lineAt l).sea.swap.isSome then [] else s.leaving l ((s.groupOf l).length - s.laneWant l)

/-- A lowering or a release of the plan is still to come on a lane. -/
def State.mustShrink (s : State) (l : Nat) : Bool :=
  decide ((s.lineAt l).sea.plan < (s.lineAt l).sea.tier) || !(s.lentExcess l).isEmpty || !(s.toRelease l).isEmpty

/-- An addition is still to come on a lane. -/
def State.mustGrow (s : State) (l : Nat) : Bool := decide ((s.groupOf l).length < s.laneWant l)

/-- Lowerings and releases are done, and so are the additions of the lanes before `l`: it may add engines (R141, R156). -/
def State.growTurn (s : State) (l : Nat) : Bool :=
  s.startedLanes.all fun k => !s.mustShrink k && (decide (l ≤ k) || !s.mustGrow k)

/-- Lowerings, releases and additions are done: raises may start (R156). -/
def State.raiseTurn (s : State) : Bool := s.startedLanes.all fun k => !s.mustShrink k && !s.mustGrow k

/-- A waiting commanded swap starts in its turn, or receives RESOURCE (R161, R163); else the plan's raise starts, or waits for
the next plan (R154, R161). -/
def State.startRaise (s : State) (l : Nat) : State :=
  let x := (s.lineAt l).sea
  if x.swap.isSome ∨ 4 ≤ s.swapsRunning then s
  else
    match x.swapWait with
    | some w =>
      let s1 := s.modSea l fun y => { y with swapWait := none }
      (s1.startSwap l w.tier w.version w.ticket (max x.planEng (s.groupOf l).length) w.par).getD
        (s1.finishOpt w.ticket cResource 2 (.line l))
    | none =>
      if x.hasEst ∧ x.tier < x.plan ∧ !x.waits ∧ !x.waitPlan then
        (s.startSwap l x.plan (s.versionFor l x.plan) none x.planEng []).getD
          (s.modSea l fun y => { y with waitPlan := true })
      else s

/-- Starts what may start, in ascending lane order, at most four swaps at once (R154, R156, R163). -/
def State.startRaises (s : State) : State :=
  if s.raiseTurn then (List.range s.lines).foldl (fun s l => s.startRaise l) s else s

/-- Takes one lane's place of a plan: a lowering is due at a block boundary; a raise starts at once where `now` says so, for a
change of the lane's own demand or policy, else after the raise dwell (R154). A swap to a higher tier than the plan's is
abandoned. -/
def State.takePlan (s : State) (now : Bool) (r : Nat) (p : LanePlan) : State :=
  let l := p.inp.lane
  let x := (s.lineAt l).sea
  let s1 := match x.swap with
    | none => s
    | some w => if p.tier < w.tier then s.abandonSwap l swOther 2 else s
  s1.modSea l fun x => { x with
    plan := p.tier, planEng := p.eng r, waitPlan := false
    held := if p.tier ≤ x.tier ∨ now then false else if x.plan < p.tier then x.hasEst else x.held }

/-- The placed tier of every lane in a plan and the one that it runs, before a change. -/
def State.standing (s : State) : List (Nat × Nat × Nat) :=
  s.startedLanes.map fun l => (l, (s.lineAt l).sea.placed, min (s.lineAt l).sea.tier (s.lineAt l).sea.plan)

/-- Yields and their ends (R168) on one lane. A plan that leaves it short yields, and again when its placed tier changes; the yield
ends when the lane runs what it demands. `why` is the cause. -/
def State.judgeLane (s : State) (old : List (Nat × Nat × Nat)) (why : YieldCause) (l : Nat) : State :=
  let x := (s.lineAt l).sea
  let run := min x.tier x.plan
  let same := old.contains (l, x.placed, run)
  if x.placed < s.demandOf l then
    if x.yielding ∧ same then s else s.seaYield l x.placed why
  else if s.demandOf l ≤ run then s.seaYieldEnd l
  else if x.yielding ∧ !same then s.seaYield l run why
  else s

def State.judgeYield (s : State) (old : List (Nat × Nat × Nat)) (why : Nat → YieldCause) : State :=
  s.startedLanes.foldl (fun s l => s.judgeLane old (why l) l) s

/-- Yields and their ends where no plan was made: the cause of the plan in force stands. -/
def State.judgeAgain (s : State) (old : List (Nat × Nat × Nat)) : State :=
  s.judgeYield old fun l => (s.lineAt l).sea.cause

/-- Re-plans (R154). `now` tells which lanes' own demand or policy has changed; `drop` names a lane that R51 has dropped (R169).
A plan made at a steady rate, for another cause, still follows the fall of the last report (DESIGN CHOICE, log entry 136). -/
def State.replan (s : State) (now : Nat → Bool) (drop : Option Nat) : State :=
  let r := s.planRate
  if s.hinge.started ∧ 0 < r then
    let p := s.planAt r s.hinge.throttle
    let free := (s.planAt r 0).1
    let before := (s.planAt s.hinge.prevRate s.hinge.throttle).1
    let why (l : Nat) : YieldCause :=
      if drop = some l then .watermark
      else if 0 < s.hinge.throttle ∧ planTier p.1 l < planTier free l then .throttle
      else if r < s.hinge.prevRate ∧ planTier p.1 l < planTier before l then .stepRate
      else .capacity
    let old := s.standing
    let s1 := p.1.foldl (fun s q => s.takePlan (now q.inp.lane) r q) s
    let s2 := ({ s1 with hinge := { s1.hinge with lend := p.2 } }).pmcEvent 0x050 1
    (s2.judgeYield old why).startRaises
  else s

/-- A plan after a change of demand or policy of some lanes: their raises start at once (R154). -/
def State.replanFor (s : State) (ls : List Nat) : State := s.replan (ls.contains ·) none

/-- A plan whose raises wait for the dwell: after a report, a throttle change, a retirement or freed engines. -/
def State.replanHeld (s : State) : State := s.replan (fun _ => false) none

/-- PWR's report of step rates (R53, R130, R154). -/
def State.reportRates (s : State) (rates : List Nat) : State :=
  let s1 := { s with hinge := { s.hinge with prevRate := s.planRate, rates := rates.take s.quads } }
  s1.replanHeld

/-- A waiting commanded swap follows its lane to another tier: new parameters wait with the kernel that runs now, and at tier 0
take effect at once; a selection for a kernel that runs no more has ended (R163; DESIGN CHOICE, log entry 138). -/
def State.waitFollows (s : State) (l : Nat) : State :=
  let x := (s.lineAt l).sea
  match x.swapWait with
  | none => s
  | some w =>
    if w.tier = x.tier then s
    else
      let s1 := s.modSea l fun y => { y with swapWait := none }
      if w.par.isEmpty then
        (s1.raise evSeaSwapAbandoned [Word.nat l, Word.nat swOther]).finishOpt w.ticket cStateRefused 2 (.line l)
      else if x.tier = 0 then (s1.putPar l w.par).finishOpt w.ticket cDone 0 (.line l)
      else s.modSea l fun y => { y with swapWait := some { w with tier := x.tier, version := x.version } }

/-- R51, R157: the drop of one tier, and the plan that follows it. A swap in progress would restore what is dropped: it ends. -/
def State.tierDrop (s : State) (l : Nat) : State :=
  let x := (s.lineAt l).sea
  if x.tier = 0 then s.modSea l fun x => { x with dropNext := false }
  else
    let s0 := s.abandonSwap l swOther 2
    let s1 := (s0.modSea l fun y => { y with
      dropNext := false, tier := x.tier - 1, version := s.versionFor l (x.tier - 1), bar := x.tier }).bump gSea l 1
    let s2 := s1.raise evSeaTierDrop [Word.nat l, Word.nat x.tier, Word.nat (x.tier - 1), Word.nat x.fifo.length]
    ((s2.tellPlaced s0).waitFollows l).replan (fun _ => false) (some l)

/-- The plan's lowering of a lane (R156). -/
def State.lowerTier (s : State) (l : Nat) : State :=
  let x := (s.lineAt l).sea
  if x.plan < x.tier then
    (s.modSea l fun y => { y with tier := x.plan, version := s.versionFor l x.plan, held := false }).waitFollows l
  else s

/-- Lent engines that floors no longer take return to TRANSOM. -/
def State.returnLent (s : State) (es : List Nat) : State :=
  let s1 := s.toTransom es
  { s1 with hinge := { s1.hinge with lentFloors := s1.hinge.lentFloors.filter fun e => !es.contains e } }

/-- Engines that a lane no longer needs are released (R152, R156). -/
def State.releaseSpare (s : State) (l : Nat) : State :=
  let s1 := if (s.lentExcess l).isEmpty then s else s.returnLent (s.lentExcess l)
  if (s1.toRelease l).isEmpty then s1 else (s1.freeEngines (s1.toRelease l)).reserve

/-- A transom engine is lent to a GUARANTEED lane's floor (R152 step 2). -/
def State.lendOne (s : State) (l : Nat) : State :=
  match (listWhere s.engines fun e => (s.engAt e).role = .transom).head? with
  | none => s
  | some e =>
    let s1 := (s.assign e .tier l).modEng e fun x => { x with lent := true }
    { s1 with hinge := { s1.hinge with lentFloors := s1.hinge.lentFloors ++ [e] } }

/-- Engines join a lane's group: those that are free, then those that the plan lends to its floor (R141, R152, R156). -/
def State.enlarge (s : State) (l : Nat) : State :=
  let a := s.addEngines l (s.laneWant l - (s.groupOf l).length)
  let s1 := a.1.modSea l fun x => { x with swap := x.swap.map fun w => { w with added := w.added ++ a.2 } }
  let lend := min (s1.laneWant l - (s1.groupOf l).length) (s1.hinge.lend - s1.hinge.lentFloors.length)
  if (s1.laneIn l).guar then (List.range lend).foldl (fun s _ => s.lendOne l) s1 else s1

/-- A block boundary of a lane: a due drop (R51), then a lowering, the release of freed engines, additions in their turn, and the
raises that may start (R156). -/
def State.boundary (s : State) (l : Nat) : State :=
  let s0 := if (s.lineAt l).sea.dropNext then s.tierDrop l else s
  let s1 := (s0.lowerTier l).releaseSpare l
  let s2 := if s1.growTurn l ∧ s1.mustGrow l then s1.enlarge l else s1
  (s2.tellPlaced s0).startRaises

/-- Takes a lane out of the Hinge's hands: its swap ends, its engines go back to FREE (R308, R313, R414). -/
def State.releaseLane (s : State) (l : Nat) : State :=
  let s1 := (s.abandonSwap l swOther 2).seaYieldEnd l
  let s2 := match (s1.lineAt l).sea.swapWait with
    | none => s1
    | some w => s1.finishOpt w.ticket cStateRefused 2 (.line l)
  let s4 := s2.returnLent ((s2.groupOf l).filter fun e => (s2.engAt e).lent)
  let s5 := s4.freeEngines (s4.groupOf l)
  ((s5.modSea l fun x => { sel := x.sel }).reserve).tellPlaced s1

/-- The datapath powers up: transom and adaptation engines are reserved, PWR's first report is the planning step rate (R140,
R148). -/
def State.startHinge (s : State) (rates : List Nat) : State :=
  let s1 := { s with hinge := { s.hinge with started := true, rates := rates.take s.quads, prevRate := 0 } }
  ((s1.topUp none).reserve).replanHeld

/-- The datapath powers down: every engine is released (R414, R417). -/
def State.stopHinge (s : State) : State :=
  let s1 := (List.range s.lines).foldl (fun s l => s.releaseLane l) s
  let s2 := s1.freeEngines (listWhere s1.engines fun e =>
    (s1.engAt e).role ≠ .retired && (s1.engAt e).role ≠ .test && (s1.engAt e).role ≠ .free)
  { s2 with hinge := { s2.hinge with started := false, rates := [], prevRate := 0, lend := 0, lentFloors := [] } }

/-! Engine faults. -/

/-- The transom engine that takes a failed engine's place: same quadrant first, then any; then one that serves as a
shadow, whose swap is abandoned (R162, R165). -/
def State.takeTransom (s : State) (e : Nat) : Option (State × Nat) :=
  let tr := listWhere s.engines fun k => (s.engAt k).role = .transom
  match (tr.find? fun k => k / 64 = e / 64).or tr.head? with
  | some k => some (s, k)
  | none =>
    match (List.range s.lines).find? fun l => match (s.lineAt l).sea.swap with | none => false | some w => !w.lent.isEmpty with
    | none => none
    | some l =>
      match (s.lineAt l).sea.swap with
      | none => none
      | some w => w.lent.head?.map fun k => (s.abandonSwap l swR162 2, k)

/-- A FREE engine becomes a transom engine at once, in the quadrant `q` that one has left where it can, or SEA_NO_TRANSOM is raised
(R166). -/
def State.replaceTransom (s : State) (q : Nat) : State :=
  if s.transomCount < complement s.fuses.part then
    let s1 := s.topUp (some q)
    if s1.transomCount < complement s.fuses.part then s1.raise evSeaNoTransom [Word.nat s1.transomCount] else s1
  else s

def condNum : EngineCond → Nat
  | .lateSegment => 0
  | .localMemory _ _ => 1
  | .streamPort => 2
  | .handshake => 3

/-- No engine in an event's word (log entry 10). -/
def noEngine : Nat := 0xFFFF

/-- Isolates an engine for targeted self-test (R164, R625). -/
def State.isolate (s : State) (e source : Nat) : State :=
  (s.modEng e fun x => { x.fresh with role := .test, lane := x.lane }).report .engine e 0 source

/-- SEA_ENGINE_FAULT (R172). -/
def State.engineEvent (s : State) (e l : Nat) (c : EngineCond) (k : Nat) : State :=
  s.raise evSeaEngineFault [Word.nat e, Word.nat l, Word.nat (condNum c), Word.nat k]

/-- An adaptation engine's fault: a transom engine takes the role, else a FREE one; with neither the coefficients hold and the
Hinge re-plans with the place reserved (R167). -/
def State.adaptFault (s : State) (e : Nat) (c : EngineCond) : State :=
  let l := (s.engAt e).lane
  let s0 := (s.isolate e srcTest).bump gSea l 6
  let tr := listWhere s0.engines fun k => (s0.engAt k).role = .transom
  let pick := ((tr.find? fun k => k / 64 = e / 64).or tr.head?).or
    ((s0.freeIn (l / 2)).head?.or (s0.freeIn s0.mostFree).head?)
  match pick with
  | some k => ((((s0.assign k .adapt l).holdAdapt l).engineEvent e l c k).replaceTransom (k / 64))
  | none => ((s0.modSea l fun x => { x with adaptHold := true }).engineEvent e l c noEngine).replanHeld

/-- An engine fault (R164 to R166). An engine in role TEST goes to targeted self-test too, out of its slice. -/
def State.engineFault (s : State) (e : Nat) (c : EngineCond) : State :=
  let x := s.engAt e
  match x.role with
  | .adapt => s.adaptFault e c
  | .tier =>
    let lent := s.hinge.lentFloors.erase e
    let s0 := (s.isolate e srcTest).bump gSea x.lane 6
    let s1 := { s0 with hinge := { s0.hinge with lentFloors := lent } }
    match s1.takeTransom e with
    | some (s2, k) => ((s2.assign k .tier x.lane).engineEvent e x.lane c k).replaceTransom (k / 64)
    | none => (((s1.engineEvent e x.lane c noEngine).tellPlaced s).replaceTransom (e / 64)).replanHeld
  | .shadow => (((s.abandonSwap x.lane swR162 2).isolate e srcTest).engineEvent e x.lane c noEngine).replaceTransom (e / 64)
  | .transom | .free => ((s.isolate e srcTest).engineEvent e x.lane c noEngine).replaceTransom (e / 64)
  | .test =>
    let s0 := { s with tst := { s.tst with slices := s.tst.slices.erase (.engine e) } }
    ((if x.slice then s0 else s).isolate e srcTest).engineEvent e x.lane c noEngine
  | .retired => s

end Sys2Proof.Machine
end

