-- ==== Sys2Proof/Machine/OcuOps.lean ====
section
/-! DEFINITION. The optics control unit as other units use it: targets and ramps of the auxiliary channels (R558, R561), the states of a
lane's optics (R578), the loops that run (R576, R579), the spare core (R564 to R566). -/

namespace Sys2Proof.Machine

/-! Positions of the parameters (R559, R576). -/
def axGain : Nat := 0
def axRef : Nat := 1
def axOwner : Nat := 2
def axLane : Nat := 3
def axRole : Nat := 4
def axMin : Nat := 5
def axMax : Nat := 6
def axSlew : Nat := 7
def axIdle : Nat := 8
def lpMn : Nat := 0
def lpAx : Nat := 1
def lpSet : Nat := 2
def lpSense : Nat := 3
def lpKp : Nat := 4
def lpKi : Nat := 5
def lpStart : Nat := 6
def lpBand : Nat := 7
def lpDwell : Nat := 8
def lpEnable : Nat := 9

/-- The lane that a channel belongs to; none is 8. -/
def State.axLaneOf (s : State) (c : Nat) : Nat := s.parN nOcuAx c axLane

/-- Owner LOOP. -/
def State.axLoop (s : State) (c : Nat) : Bool := s.parN nOcuAx c axOwner == 1

/-- Role OTHER. -/
def State.axOther (s : State) (c : Nat) : Bool := s.parN nOcuAx c axRole == 4

/-- The output voltage of a channel in microvolts, for the reference that it has: 1.2 V internal, or the voltage at VREF_AUX (R557). A
failed stage is off, and AX32 stays at 0 V, whose code is written in WORKSHOP alone (R558, R563, R566). -/
def State.axVoltage (s : State) (vrefAux c : Nat) : Nat :=
  if (s.axAt c).stageOff ∨ !s.pwr.up then 0
  else (s.axAt c).code * (if s.parN nOcuAx c axRef = 0 then 1200000 else vrefAux) * s.parN nOcuAx c axGain / 65536

/-- The channels of a lane; channel 32 drives no optics (R563). -/
def State.laneAx (s : State) (l : Nat) : List Nat := listWhere 32 fun c => s.axLaneOf c == l

/-- A loop is enabled. -/
def State.loopOn (s : State) (i : Nat) : Bool := s.parN nOcuLoop i lpEnable == 1

/-- The AX channel that a loop drives. -/
def State.loopAx (s : State) (i : Nat) : Nat := s.parN nOcuLoop i lpAx

/-- The enabled loops of a lane: a loop belongs to the lane of its AX channel (R578). -/
def State.laneLoops (s : State) (l : Nat) : List Nat :=
  listWhere 32 fun i => s.loopOn i && s.axLaneOf (s.loopAx i) == l

/-- A new target of a channel (R561). Without a slew limit the code steps at once; without LANE_REFCLK it is accepted and applies
when the clock returns (R580). -/
def State.setTarget (s : State) (c t : Nat) : State :=
  if s.param nOcuAx c axSlew = offWord ∧ s.dev.refclk then
    s.modAx c fun x => { x with code := t, target := t, frac := 0 }
  else s.modAx c fun x => { x with target := t, frac := if t = x.code then 0 else x.frac }

/-- A move of a ramp every 20 us: slew codes per ms are slew/50 codes (R561). -/
def Ax.ramp (x : Ax) (slew : Nat) : Ax :=
  let n := (x.frac + slew) / 50
  let f := (x.frac + slew) % 50
  if x.code < x.target then
    if x.code + n < x.target then { x with code := x.code + n, frac := f } else { x with code := x.target, frac := 0 }
  else if x.target + n < x.code then { x with code := x.code - n, frac := f }
  else { x with code := x.target, frac := 0 }

/-- The ramp of a channel has ended. -/
def State.rampEnded (s : State) (c : Nat) : Bool := (s.axAt c).code == (s.axAt c).target

/-- The modes in which loops run (R579). -/
def State.loopMode (s : State) : Bool := s.live || s.dev.mode = .workshop

/-- A loop may run: enabled, its channel owned by LOOP and not FAILED, in a mode of R579, its lane's optics asked for and the
ramp to its start code ended (R576, R578). -/
def State.loopRuns (s : State) (i : Nat) : Bool :=
  let c := s.loopAx i
  let l := s.axLaneOf c
  s.loopOn i && s.axLoop c && !(s.axAt c).failed && s.loopMode &&
    (8 ≤ l || (s.lineAt l).optics = .ready ||
      ((s.lineAt l).optics = .starting && ((s.loopAt i).running || s.rampEnded c)))

/-- Starts or stops a loop as `loopRuns` says. It starts from the present code (R562). -/
def State.syncLoop (s : State) (i : Nat) : State :=
  let x := s.loopAt i
  let want := s.loopRuns i
  if want = x.running then s
  else if want then
    s.modLoop i fun x => { x with
      running := true, waiting := false, ePrev := none, u := 256 * ((s.axAt (s.loopAx i)).code : Int), settle := 0,
      inBand := false, outside := false }
  else s.modLoop i fun x => { x with running := false, settle := 0, inBand := false, outside := false }

def State.syncLoops (s : State) : State := (List.range 32).foldl (fun s i => s.syncLoop i) s

/-- Every ramp of the lane that R578 waits for has ended: in STARTING those of the LOOP channels, in STOPPING those of the
channels whose role is not OTHER. -/
def State.rampsEnded (s : State) (l : Nat) : Bool :=
  (s.laneAx l).all fun c =>
    match (s.lineAt l).optics with
    | .starting => !s.axLoop c || (s.laneLoops l).any (fun i => s.loopAx i == c && (s.loopAt i).running) || s.rampEnded c
    | _ => s.axOther c || (s.axAt c).failed || s.rampEnded c

/-- STARTING to READY, STOPPING to IDLE (R578). -/
def State.opticsStep (s : State) (l : Nat) : State :=
  let x := s.lineAt l
  match x.optics with
  | .starting =>
    if s.rampsEnded l && (s.laneLoops l).all (fun i => (s.loopAt i).running && (s.loopAt i).inBand) &&
        (s.laneAx l).all (fun c => !(s.axAt c).failed) then
      (s.modLine l fun x => { x with optics := .ready }).raise evOcuLaneReady (Word.nat l :: field32 (s.since x.optSince))
    else s
  | .stopping => if s.rampsEnded l then s.modLine l fun x => { x with optics := .idle } else s
  | _ => s

/-- Loops and optics follow a change. -/
def State.opticsCheck (s : State) : State :=
  (List.range s.lines).foldl (fun s l => s.opticsStep l) s.syncLoops

/-- LTX asks for a lane's optics (R235 step 2, R578): each LOOP channel ramps from its present code to its loop's start code. -/
def State.opticsAsk (s : State) (l : Nat) : State :=
  match (s.lineAt l).optics with
  | .idle | .stopping =>
    let s1 := s.modLine l fun x => { x with optics := .starting, optSince := s.tku.bcnt }
    ((s1.laneLoops l).foldl (fun s i =>
      let c := s.loopAx i
      if s.axLoop c && !(s.axAt c).failed then
        (s.setTarget c (s.parN nOcuLoop i lpStart)).modLoop i fun x => { x with waiting := true }
      else s) s1).opticsCheck
  | _ => s

/-- A lane's optics stop (R578): its loops stop, every channel whose role is not OTHER ramps to its idle code. -/
def State.opticsStop (s : State) (l : Nat) : State :=
  match (s.lineAt l).optics with
  | .starting | .ready =>
    let s1 := s.modLine l fun x => { x with optics := .stopping }
    let s2 := (s1.laneLoops l).foldl (fun s i => s.modLoop i fun x => { x with waiting := false }) s1.syncLoops
    ((s2.laneAx l).foldl (fun s c =>
      if s.axOther c || (s.axAt c).failed then s else s.setTarget c (s.parN nOcuAx c axIdle)) s2).opticsCheck
  | _ => s

/-- Every channel whose lane is not NONE and whose role is not OTHER ramps to its idle code (R579). -/
def State.axIdleAll (s : State) : State :=
  let s1 := s.syncLoops
  ((List.range 32).foldl (fun s c =>
    if s.axLaneOf c < 8 ∧ !s.axOther c ∧ !(s.axAt c).failed then s.setTarget c (s.parN nOcuAx c axIdle) else s) s1).opticsCheck

/-- LASER channels move to their idle codes with no slew (R579). -/
def State.laserCut (s : State) : State :=
  (List.range 32).foldl (fun s c =>
    if s.parN nOcuAx c axRole = 0 ∧ !(s.axAt c).failed then
      let t := s.parN nOcuAx c axIdle
      if s.dev.refclk then s.modAx c fun x => { x with code := t, target := t, frac := 0 }
      else s.modAx c fun x => { x with target := t, frac := 0 }
    else s) s

/-- A channel becomes FAILED: its loops stop (R566, R577). -/
def State.axFail (s : State) (c : Nat) : State :=
  let s1 := s.modAx c fun x => { x with failed := true }
  let on := (List.range 32).filter fun i => s.loopOn i && s.loopAx i == c
  (on.foldl (fun s i => s.raise evOcuLoopStopped [Word.nat i, Word.nat c])
    (s1.raise evOcuNoSpare [Word.nat c, Word.nat (s.axAt c).code])).opticsCheck

end Sys2Proof.Machine
end

