-- ==== Sys2Proof/Machine/Lanes.lean ====
section
/-! DEFINITION. Line lanes, host lanes and ports as every family moves them: what R72, R234, R288 and R310 to R312 call for, the entries
to ACQUIRE, UP, FAULT and DOWN (R286, R308, R421), faults of ports (R308 to R317). -/

namespace Sys2Proof.Machine

/-! Parameters by name: positions in the element order of their tables. -/

def ltxSwing : Nat := 0
def ltxLevels : Nat := 1
def ltxTaps : Nat := 5
def ltxTable : Nat := 14
def ltxRamp : Nat := 78
def ltxWhileDown : Nat := 79
def ltxSquelchFault : Nat := 80
def ltxPattern : Nat := 82

/-! Limits of differential delay. -/

/-- Skew figures are in 0.01 ns; the host side accepts 40 ns (R279). -/
def hostSkewMax : Int := 4000

/-- The line side accepts 35 ns between the lanes of a port, in symbols (R190). -/
def lineSkewMax (half : Bool) : Int := if half then 3937 else 7875

/-- The spread of a list of delays. -/
def spread (xs : List Int) : Int := (xs.max?.getD 0) - (xs.min?.getD 0)

/-- Host-side deskew of a port holds (R279). -/
def State.hostDeskew (s : State) (p : Nat) : Bool :=
  decide (spread ((s.portHosts p).map fun h => (s.hostAt h).skew) ≤ hostSkewMax)

/-- Line-side deskew of a port holds. -/
def State.lineDeskew (s : State) (p : Nat) : Bool :=
  decide (spread ((s.portLines p).map fun l => (s.lineAt l).sdf.skew) ≤
    lineSkewMax (match (s.portAt p).cfg with | none => false | some c => c.half))

/-! Receivers and transmitters follow lane state and mode. -/

/-- The receiver's power state (R72). In a Shutter it stays as it is until step 5 (R435). -/
def State.rxWant (s : State) (l : Nat) : RxPower :=
  let x := s.lineAt l
  if !s.dev.powered then .off
  else if s.dev.mode = .workshop then (if x.state = .test then .full else .off)
  else if s.live then
    match x.state with
    | .down => if (s.portOf l).isSome && s.parN nLrxCfg l 17 == 0 then .listen else .off
    | .acquire | .up | .fault => .full
    | .test => x.lrx.power
  else x.lrx.power

/-- R744: from OFF the receiver starts with LOS asserted and no event. -/
def State.syncRx (s : State) (l : Nat) : State :=
  let w := s.rxWant l
  let x := (s.lineAt l).lrx
  if w = x.power then s
  else if x.power = .off then
    s.modLrx l fun x => { x with power := w, los := true, losSince := s.tku.bcnt, losFirst := true }
  else if w = .off then
    (s.modLrx l fun x => { x with power := .off, los := false, frozen := false }).modPlt l fun x => { x with rx := .idle }
  else s.modLrx l fun x => { x with power := w }

/-- The table of R234 calls for ON. -/
def State.txTable (s : State) (l : Nat) : Bool :=
  let x := s.lineAt l
  if s.dev.mode = .workshop then x.state = .test
  else
    match x.state with
    | .down => (s.portOf l).isSome && s.parN nLtxCfg l ltxWhileDown == 1
    | .acquire | .up => true
    | .fault => s.parN nLtxCfg l ltxSquelchFault == 0
    | .test => false

/-- The transmitter shall be ON: the table, unless it is forced OFF (R242), dead (R245) or without LANE_REFCLK (R42). -/
def State.txWant (s : State) (l : Nat) : Bool :=
  s.dev.powered && s.dev.refclk && (s.live || s.dev.mode = .workshop) && s.txTable l &&
    !(s.lineAt l).ltx.forced && !(s.lineAt l).ltx.dead

/-- A port's line side or host side has failed lanes (R310). -/
def State.lineFailed (s : State) (p : Nat) : Bool := (s.portLines p).any fun l => (s.lineAt l).state ≠ .up
def State.hostFailed (s : State) (p : Nat) : Bool := (s.portHosts p).any fun h => (s.hostAt h).state ≠ .up

/-- Index of the block-lock monitor of a port and direction: 0 receive, 1 transmit (R11). -/
def blockIdx (p d : Nat) : Nat := 2 * p + d

/-- A port carries local fault out of a direction in place of traffic (R307, R308, R310): `srcFailed` is the side that the
direction comes from. -/
def State.localOut (s : State) (p d : Nat) : Bool :=
  let x := s.portAt p
  let src := if d = 0 then s.lineFailed p else s.hostFailed p
  let hunt := match x.cfg with
    | some c => c.profile = .terminate && !(s.blockAt (blockIdx p d)).lock
    | none => false
  match x.state with
  | .acquire => true
  | .fault => src || hunt || (d == 0 && x.clockLost)
  | .up => hunt
  | _ => false

/-- What a line transmitter carries (R234, R310): in Terminate the stream that SDF re-encodes, else the host's (R176); under the loopback
of R119 the line format with its fill. Neither the elastic stage nor the Hinge has a part in it (R32). -/
def State.txCarries (s : State) (l : Nat) : TxContent :=
  let x := s.lineAt l
  if x.ltx.state = .off then .none
  else if s.dev.mode = .shutter then .localFault
  else
    match x.state with
    | .test => if s.parN nLrxCfg l 18 = 0 then .fill else .pattern
    | .down => .fill
    | _ =>
      match s.portOf l with
      | none => .fill
      | some p =>
        if s.localOut p 1 then .localFault
        else if (s.portAt p).cfg.any (fun c => decide (c.profile = .terminate)) then .sdfStream
        else .hostStream

/-- The place of a cause in R247's table. -/
def TxCause.num : TxCause → Nat
  | .laneState => 0
  | .squelch => 1
  | .shutter => 2
  | .refclk => 3

/-- A disable in steps 1 to 3 of the enable sequence ends it at once: the optics are withdrawn, LTX_DISABLED (R237). -/
def State.endEnable (s : State) (l : Nat) (cause : TxCause) : State :=
  if (s.lineAt l).ltx.enStep ≠ 0 then
    ((s.modLtx l fun x => { x with enStep := 0, retry := false }).opticsStop l).raise evLtxDisabled
      [Word.nat l, Word.nat cause.num]
  else s.modLtx l fun x => { x with retry := false }

/-- An enable begins, a ramp reverses, an enable ends, or a ramp-down begins, as the table now calls (R235, R237, R238). -/
def State.syncTxState (s : State) (l : Nat) (cause : TxCause) : State :=
  let x := (s.lineAt l).ltx
  if s.txWant l then
    match x.state with
    | .off =>
      if x.enStep = 0 ∧ !x.retry then s.modLtx l fun x => { x with enStep := 1, since := s.tku.bcnt, attempts := 0 } else s
    | .rampDown => s.modLtx l fun x => { x with state := .rampUp, since := s.tku.bcnt, fast := false }
    | _ => s
  else
    match x.state with
    | .off => s.endEnable l cause
    | .on | .rampUp => s.modLtx l fun x => { x with state := .rampDown, enStep := 0, cause := cause }
    | .rampDown => s

def State.syncTx (s : State) (l : Nat) (cause : TxCause) : State :=
  let s0 := if s.live ∨ s.dev.mode = .workshop then s else s.modLtx l fun x => { x with forced := false }
  let s1 := if s.dev.mode = .shutter then s0 else s0.syncTxState l cause
  s1.modLtx l fun x => { x with content := s1.txCarries l }

/-- The lane trains: training mode ON or AUTO, in steps 2 to 4 of a cold acquisition (R265, R288). -/
def State.trains (s : State) (h : Nat) : Bool :=
  let x := s.hostAt h
  x.state = .acquire && !x.warm && x.mode != 1 && !x.fellBack && decide (2 ≤ x.step ∧ x.step ≤ 4)

/-- What a host transmitter sends and its timing (R288, R310, R312). -/
def State.hostCarries (s : State) (h : Nat) : HostTx :=
  let x := s.hostAt h
  if !s.dev.powered || !s.dev.refclk then .off
  else
    match x.state with
    | .down => .off
    | .test => .pattern
    | _ =>
      if s.dev.mode = .shutter then .localFault
      else if s.trains h then .training
      else
        match s.portOfHost h with
        | none => .off
        | some p => if s.localOut p 0 then .localFault else .stream

def State.syncHost (s : State) (h : Nat) : State :=
  let tx := s.hostCarries h
  let rec_ := match s.hostCfg h with
    | some c => c.profile ≠ .terminate && tx = .stream
    | none => false
  s.modHost h fun x => { x with tx := tx, localTimed := !rec_ }

/-- A forced receive order of a group (R291). -/
def State.forcedRev (s : State) (g : Nat) : Bool := s.parN nHslGroup g 0 == 2

/-- The group's receive order is reversed: forced, or by the verdict (R274, R291). -/
def State.groupRev (s : State) (g : Nat) : Bool :=
  if s.parN nHslGroup g 0 = 0 then (s.groupAt g).verdict = .reversed else s.forcedRev g

/-- The transmit order that the settings of a group call for (R276). -/
def State.txWantRev (s : State) (g : Nat) : Bool :=
  match s.parN nHslGroup g 1 with
  | 0 => false
  | 1 => true
  | _ => s.groupRev g

/-- Every lane of a group is DOWN. -/
def State.groupDown (s : State) (g : Nat) : Bool := (List.range 8).all fun k => (s.hostAt (8 * g + k)).state = .down

/-- A group forgets its verdict once every lane of it is DOWN (R275); its transmit order may then change (R276). -/
def State.syncGroup (s : State) (g : Nat) : State :=
  if s.groupDown g then
    let s1 := s.modGroup g fun x => { x with verdict := .none, results := [] }
    s1.modGroup g fun x => { x with txRev := s1.txWantRev g }
  else s

/-- Receivers, transmitters, loops and groups follow; then guard causes, mode, error summary and level sources. -/
def State.syncWith (s : State) (cause : TxCause) : State :=
  let s1 := (List.range s.lines).foldl (fun s l => (s.syncRx l).syncTx l cause) s
  let s2 := (List.range s.hosts).foldl (fun s h => s.syncHost h) s1
  ([0, 1].foldl (fun s g => s.syncGroup g) s2.opticsCheck).settle

def State.sync (s : State) : State := s.syncWith .laneState

/-! Ports. -/

/-- The lane-event word of PORT_FAULT: the code of the lane's event, or one of these (log entry 10). -/
def laneRestart : Nat := 0
def laneRefclk : Nat := 1

/-- The bit mask of a list of numbers. -/
def maskOf (xs : List Nat) : Nat := (xs.map fun x => 2 ^ x).sum

/-- The entry of a side to FAULT is counted once in an episode (R314). -/
def State.countFaultSide (s : State) (p : Nat) (host : Bool) : State :=
  let x := s.portAt p
  if host then
    if x.hostIn then s else (s.modPort p fun x => { x with hostIn := true }).bump gPort p 3
  else if x.lineIn then s else (s.modPort p fun x => { x with lineIn := true }).bump gPort p 0

/-- Lanes of a port fail at one moment (R308, R315): the lowest-numbered is the cause, line lanes before host lanes. In a Shutter
no lane or port state changes (R435); the other modes without traffic have no such lane (R423). -/
def State.portFail (s : State) (p : Nat) (ls hs : List Nat) (ev : Nat) : State :=
  let x := s.portAt p
  let add (s : State) : State := s.modPort p fun x => { x with
    lineFault := x.lineFault ++ ls.filter (!x.lineFault.contains ·)
    hostFault := x.hostFault ++ hs.filter (!x.hostFault.contains ·) }
  let count (s : State) : State :=
    let s1 := if ls.isEmpty then s else s.countFaultSide p false
    if hs.isEmpty then s1 else s1.countFaultSide p true
  match (if s.live then x.state else .stopped) with
  | .up =>
    let cause : Nat × Nat := match ls with | l :: _ => (l, 0) | [] => (hs.headD 0, 1)
    let s1 := s.modPort p fun x => { x with
      state := .fault, faultAt := s.tku.bcnt, cause := cause, lineFault := [], hostFault := [], lineIn := false,
      hostIn := false }
    (count (add s1)).raise evPortFault
      [Word.nat p, Word.nat cause.1, Word.nat cause.2, Word.nat ev,
       Word.nat (maskOf (ls.drop 1)), Word.nat (maskOf (if ls.isEmpty then hs.drop 1 else hs))]
  | .fault => count (add s)
  | _ => s

/-- The fault set that still counts: every lane of the port that is not UP (R310). -/
def State.allUp (s : State) (p : Nat) : Bool :=
  !s.lineFailed p && !s.hostFailed p && s.lineDeskew p && s.hostDeskew p

/-- Both path delays of both directions are fixed at an entry to UP (R401): values that the spec leaves open. -/
def State.fixPaths (s : State) (p : Nat) : State :=
  [0, 1].foldl (fun s d =>
    let s1 := s.modResid (2 * p + d) fun x => { x with ingress := s.freeVal }
    let s2 := s1.freeNext
    (s2.modResid (2 * p + d) fun x => { x with egress := s2.freeVal }).freeNext) s

/-- A port enters UP once every lane is UP and deskew holds (R308). -/
def State.portCheck (s : State) (p : Nat) : State :=
  let x := s.portAt p
  if s.live && x.cfg.isSome && s.allUp p then
    match x.state with
    | .acquire =>
      let s1 := (s.modPort p fun x => { x with state := .up, upOnce := true, ticket := none, clockLost := false }).fixPaths p
      (s1.finishOpt x.ticket cDone 0 (.port p)).raise evPortUp
        (Word.nat p :: field32 (s.since x.since) ++ [0])
    | .fault =>
      let s2 := if x.lineIn then s.bump gPort p 1 else s
      let s3 := if x.hostIn then s2.bump gPort p 4 else s2
      let s4 := (s3.modPort p fun x => { x with
        state := .up, upOnce := true, ticket := none, clockLost := false, lineFault := [], hostFault := [], lineIn := false, hostIn := false }).fixPaths p
      (s4.finishOpt x.ticket cDone 0 (.port p)).raise evPortUp
        (Word.nat p :: field32 (s.since x.faultAt) ++ [1])
    | _ => s
  else s

def State.portsCheck (s : State) : State := s.slots.foldl (fun s p => s.portCheck p) s

/-! Line lanes. -/

/-- The preset of an acquisition's first attempt (R99, R103): under AUTO index 0. -/
def State.firstPreset (s : State) (l : Nat) : Nat :=
  let v := s.parI nLrxCfg l 11
  if v = autoInt then 0 else v.toNat

/-- The FFE taps of a preset: entry `idx` of the table that the thermal code has passed, with the main cursor at the configured
position (R53, R98, R99). -/
def presetTaps (band idx cur : Nat) : List Int :=
  (List.range 32).map fun i => (((Config.ffePreset band idx ((i : Int) - cur)).toNat % 1024 : Nat) - 512) * 65536

/-- Loads the FFE from a preset (R99, R103). -/
def State.loadPreset (s : State) (l idx : Nat) : State :=
  s.modLrx l fun x => { x with preset := idx, presetBand := x.band, taps := presetTaps x.band idx x.mainCur }

/-- The level table is nominal again (R193). -/
def State.resetTable (s : State) (l : Nat) : State := s.modSdf l fun x => { x with table := [] }

/-- SDF begins to hunt (R202, R204, R206): a hunt that follows a lock tries the previous offsets first, with the precoding
setting that was in use; else AUTO begins with precoding off. -/
def State.huntStart (s : State) (l : Nat) : State :=
  let set := s.parN nSdfCfg l 1
  s.modSdf l fun x => { x with
    preSet := set, huntOff := 0, soft := [], nextQ := 0
    prev := if x.lock then some x.off else x.prev
    precode := if set = 2 then (x.lock || x.prev.isSome) && x.precode else set == 0
    lock := false, off := [0, 0, 0, 0], found := [none, none, none, none], bad := [0, 0, 0, 0],
    huntSince := s.tku.bcnt, huntMis := 0 }

/-- Causes of SDF_LOCK_LOST beside a stream's number (log entry 10). -/
def lostLos : Nat := 4
def lostRestart : Nat := 5
def lostLeft : Nat := 6
def lostRefclk : Nat := 7

/-- Codeword lock ends (R205, R206): a relock attempt is counted. -/
def State.lockEnd (s : State) (l cause : Nat) : State :=
  if (s.lineAt l).sdf.lock then
    ((s.huntStart l).bump gSdf l 7).raise evSdfLockLost [Word.nat l, Word.nat cause]
  else s

/-- An acquisition of R102 starts: cold from the preset and with the nominal level table (R193), warm from the held
state. -/
def State.acquire (s : State) (l : Nat) (cold : Bool) : State :=
  let s0 := s.modLrx l fun x => { x with
    step := 1, cold := cold, since := s.tku.bcnt, retries := 0, consec := 0, frozen := false,
    mainCur := s.parN nLrxCfg l 8, timingBw := s.parN nLrxCfg l 7, presetSet := s.parI nLrxCfg l 11,
    timeout := s.parN nLrxCfg l 12, freqHeld := !cold, lowSnr := 0 }
  let s1 := s0.modSdf l fun x => { x with slicer := s.parN nSdfCfg l 2 == 1 }
  (if cold then (s1.resetTable l).loadPreset l (s.firstPreset l) else s1).bump gLrx l 0

/-- The lane's port is started (R421). -/
def State.lineStart (s : State) (l : Nat) : State :=
  let s1 := s.modLine l fun x => { x with
    state := if x.badStage || x.ltx.dead then .fault else .acquire, stuck := x.badStage || x.ltx.dead,
    sea := { sel := x.sea.sel },
    sdf := { x.sdf with prev := none, countFrom := s.tku.bcnt } }
  if (s.lineAt l).badStage || (s.lineAt l).ltx.dead then s1 else (s1.huntStart l).acquire l true

/-- A lane enters FAULT; its port follows R308 (R421). A lane that is DOWN or in TEST stays so; in a Shutter none moves (R435). -/
def State.lineFault (s : State) (l ev : Nat) : State :=
  let was := (s.lineAt l).state
  if !s.live || was = .down || was = .test then s
  else
    let s1 := s.modLine l fun x => { x with state := .fault, lrx := { x.lrx with step := 0, lowSnr := 0 } }
    if was = .up then
      match s1.portOf l with
      | none => s1
      | some p => s1.portFail p [l] [] ev
    else s1

/-- A lane that has lost its signal path enters FAULT and starts a warm acquisition (R80). -/
def State.faultWarm (s : State) (l ev : Nat) : State :=
  let s1 := s.lineFault l ev
  if (s1.lineAt l).state = .fault ∧ !(s1.lineAt l).stuck then s1.acquire l false else s1

/-- A lane in ACQUIRE or reacquiring in FAULT enters UP when step 6 is done and SDF has lock (R104, R421). -/
def State.lineTryUp (s : State) (l : Nat) : State :=
  let x := s.lineAt l
  if (x.state = .acquire ∨ x.state = .fault) ∧ x.lrx.step = 7 ∧ x.sdf.lock ∧ !x.stuck ∧ s.live then
    (s.modLine l fun x => { x with state := .up, lrx := { x.lrx with step := 0 } }).portsCheck
  else s

/-- A lane goes DOWN: its engines are released, its acquisition ends (R308, R421). -/
def State.lineDown (s : State) (l : Nat) : State :=
  ((s.lockEnd l lostLeft).releaseLane l).modLine l fun x => { x with
    state := .down, stuck := false,
    lrx := { x.lrx with step := 0, frozen := false, freqHeld := false, lowSnr := 0 },
    sdf := { x.sdf with prev := none, found := [none, none, none, none] } }

/-! Host lanes. -/

/-- The transmitter presets of R262. -/
def hostPreset (n : Nat) : Int × Int × Int :=
  [(0, 64, 0), (0, 64, 0), (-4, 54, -6), (-6, 48, -10), (-8, 42, -14), (-10, 38, -16)].getD n (0, 64, 0)

/-- An acquisition of R265 starts; a cold one takes the configured preset, a warm one keeps CTLE, taps and polarity. In a
Shutter no lane moves (R435). -/
def State.hostAcquire (s : State) (h : Nat) (warm : Bool) : State :=
  if s.live then
    let t := hostPreset (s.parN nHslCfg h 4)
    let s1 := s.modHost h fun x => { x with
      state := .acquire, step := 1, since := s.tku.bcnt, warm := warm, sigLoss := true, cause := .none, recover := false,
      lowSnr := 0, amLock := false, wasUp := false,
      mode := s.parN nHslCfg h 0, rxPol := s.parN nHslCfg h 9, ctleSet := s.parI nHslCfg h 10,
      startPreset := s.parN nHslCfg h 3, txPreset := s.parN nHslCfg h 4, txInv := s.parN nHslCfg h 8 == 1,
      cursor := s.parN nHslCfg h 11, dfeOn := s.parN nHslCfg h 13 == 0, fellBack := false, answer := .none, asked := none,
      warmRuns := if warm then x.warmRuns else 0 }
    let s2 := if warm then s1
      else s1.modHost h fun x => { x with
        cm1 := t.1, c0 := t.2.1, c1 := t.2.2, train := .off, requests := 0, tapIdx := 0, trying := 0, kept := false,
        ready := false, polInv := s.parN nHslCfg h 9 == 2, ctle := 0, ffe := [], dfe := 0 }
    s2.bump gHsl h (if warm then 1 else 0)
  else s

/-- A host lane enters FAULT; its port follows (R286). The cause of a loss of lock or a slip has cleared at once, so its 1 ms
timer runs. -/
def State.hostFault (s : State) (h : Nat) (cause : HostCause) (ev : Nat) : State :=
  let was := (s.hostAt h).state
  if s.live then
    let s1 := s.modHost h fun x => { x with
      state := .fault, step := 0, cause := cause, recover := cause = .lock || cause = .slip, lowSnr := 0, wasUp := false }
    if was = .up then
      match s1.portOfHost h with
      | none => s1
      | some p => s1.portFail p [] [h] ev
    else s1
  else s

def State.hostDown (s : State) (h : Nat) : State :=
  s.modHost h fun x => { x with
    state := .down, step := 0, cause := .none, recover := false, amLock := false, warmRuns := 0, wasUp := false,
    sigLoss := true, lowSnr := 0 }

/-! Starting and stopping ports. -/

/-- Every lane of a started port enters ACQUIRE once the datapath is powered (R308, R414). -/
def State.startLanes (s : State) (p : Nat) : State :=
  let s1 := (s.portLines p).foldl (fun s l => s.lineStart l) s
  (s1.portHosts p).foldl (fun s h => s.hostAcquire h false) s1

/-- R109: at START a lane's recommended tier is 0 with SHORTFALL clear, until its first estimate. -/
def State.clearDemand (s : State) (p : Nat) : State :=
  (s.portLines p).foldl (fun s l => s.modLrx l fun x => { x with recTier := 0, shortfall := false, lowRuns := [0, 0, 0, 0] }) s

/-- START (R308): the port is in ACQUIRE; the Hinge reserves its floor engines (R149). -/
def State.portStart (s : State) (p : Nat) (t : Option Ticket) : State :=
  let s1 := s.modPort p fun x => { x with
    state := .acquire, since := s.tku.bcnt, ticket := t, clockLost := false, late := false, upOnce := false,
    lineFault := [], hostFault := [], lineIn := false, hostIn := false }
  let s2 := s1.clearDemand p
  if s2.dev.powered then (s2.startLanes p).replanHeld else s2

/-- A port is STOPPED (R308, R316): every lane DOWN, PORT_STOPPED, a START under way ends. A port whose lanes are DOWN takes no part in
the group's hunt (R273). -/
def State.portStop (s : State) (p : Nat) (detail : Nat) : State :=
  let x := s.portAt p
  let s2 := (s.portLines p).foldl (fun s l => s.lineDown l) s
  let s3 := (s2.portHosts p).foldl (fun s h => s.hostDown h) s2
  let s4 := s3.modPort p fun x => { x with
    state := .stopped, ticket := none, lineFault := [], hostFault := [], lineIn := false, hostIn := false, upOnce := false }
  let s4 := [0, 1].foldl (fun s g => s.modGroup g fun y => { y with results := tset y.results (fun _ => none) p none }) s4
  let s5 := [0, 1].foldl (fun s d =>
    (s.modResid (2 * p + d) fun x => { x with ingress := 0xFFFFFFFF, egress := 0xFFFFFFFF }).modBlock (blockIdx p d) fun _ => {}) s4
  ((s5.finishOpt x.ticket cStateRefused detail (.port p)).raise evPortStopped
    [Word.nat p, Word.nat x.state.num]).replanHeld

/-! Loss and return of LANE_REFCLK (R42, R317). -/

/-- The drive goes OFF without a ramp; LTX_DISABLED names LANE_REFCLK (R42, R247). -/
def State.txCut (s : State) (l : Nat) : State :=
  let x := (s.lineAt l).ltx
  if x.state = .off ∧ x.enStep = 0 then s.modLtx l fun x => { x with retry := false }
  else
    (s.modLtx l fun x => { x with state := .off, enStep := 0, retry := false, content := .none, cause := .refclk, release := true }).raise
      evLtxDisabled [Word.nat l, Word.nat 3]

/-- Every lane of a started port and every started port enters FAULT. -/
def State.refclkFault (s : State) : State :=
  let s0 := (List.range s.lines).foldl (fun s l => s.lockEnd l lostRefclk) s
  s0.slots.foldl (fun s p =>
    let st := if s.live then (s.portAt p).state else .stopped
    if st = .acquire ∨ st = .up ∨ st = .fault then
      let ls := s.portLines p
      let hs := s.portHosts p
      let s1 := ls.foldl (fun s l => s.modLine l fun x => { x with
        state := .fault, lrx := { x.lrx with step := 0, lowSnr := 0 } }) s
      let s2 := hs.foldl (fun s h => s.modHost h fun x => { x with
        state := .fault, step := 0, cause := .refclk, recover := false, wasUp := false }) s1
      if st = .acquire then s2.modPort p fun x => { x with
        state := .fault, faultAt := s.tku.bcnt, cause := (ls.headD 0, 0), lineFault := ls, hostFault := hs,
        lineIn := false, hostIn := false, clockLost := true }
      else (s2.portFail p ls hs laneRefclk).modPort p fun x => { x with clockLost := true }
    else s) s0

end Sys2Proof.Machine
end

