-- ==== Sys2Proof/Machine/Calibration.lean ====
section
/-! DEFINITION. Calibration and trimming (R584 to R603): due blocks, runs, pairs of measurements, interruption; with the rotation of
the transom slice (R84 to R88) and of the transom cell (R243, R585), which runs carry out. -/

namespace Sys2Proof.Machine

/-! Blocks. -/

/-- The kinds of R590: at most one run of each. -/
inductive CalKind where
  | lrx | ltx | ax | conv
deriving DecidableEq, Repr

def calKind (b : Nat) : CalKind := if b < 8 then .lrx else if b < 24 then .ltx else if b ≤ 64 then .ax else .conv

/-- The blocks of a part (R584). -/
def State.calBlocks (s : State) : List Nat := (List.range 97).filter (calBlockOk s.fuses.part)

/-- Causes of a due block (R600) and of an abandoned run (R597). -/
def dueTemp : Nat := 0
def dueInterval : Nat := 1
def duePower : Nat := 2
def dueCommand : Nat := 3
def abFault : Nat := 0
def abShutter : Nat := 1
def abEligible : Nat := 2

/-- A slice that is not connected at the moment (R64, R65). -/
def State.sliceIdle (s : State) (l n : Nat) : Bool :=
  match (s.sliceAt l n).pos with
  | none => true
  | some p => s.half l && decide (32 ≤ p)

/-- A slice that runs on a position now: none in OFF, those on positions 0, 4, ..., 60 in LISTEN, every connected one in FULL
(R71). -/
def State.sliceRuns (s : State) (l n : Nat) : Bool :=
  match (s.sliceAt l n).pos with
  | none => false
  | some p =>
    match (s.lineAt l).lrx.power with
    | .off => false
    | .listen => p % 4 == 0
    | .full => !s.sliceIdle l n

/-- A healthy idle slice. -/
def State.sliceSpare (s : State) (l n : Nat) : Bool := s.sliceIdle l n && (s.sliceAt l n).health = .ok

/-- The transom slice: the one kept as such, else the lowest-numbered healthy idle one. -/
def State.transomSlice (s : State) (l : Nat) : Option Nat :=
  let t := (s.lineAt l).lrx.transom
  if s.sliceSpare l t then some t else (List.range 65).find? fun n => s.sliceSpare l n

/-- The transom cell (R243). -/
def State.transomCell (s : State) (l : Nat) : Option Nat :=
  (List.range 16).find? fun n => (s.cellAt l n).pos.isNone && (s.cellAt l n).health = .ok

/-- Core 32 stands in for no channel (R589). -/
def State.core32Idle (s : State) : Bool := s.ocu.c32.isNone && !s.ocu.c32Lasting && !s.ocu.c32Cal

/-- A block that cannot have a spare (R599). -/
def State.noSpare (s : State) (b : Nat) : Bool :=
  match calKind b with
  | .lrx => !s.half b && (s.transomSlice b).isNone
  | .ltx => (s.transomCell (b - 16)).isNone
  | .ax => s.ocu.c32Lasting || (s.axAt 32).coreHealth = .retired
  | .conv => false

/-- Rotation is suspended on a lane (R88). -/
def State.rotSuspended (s : State) (l : Nat) : Bool :=
  ((s.lineAt l).state = .test && s.cap.lane == l && (s.cap.armed || s.cap.running)) || (s.transomSlice l).isNone

/-- The modes in which the optics and the monitor converter calibrate (R589). -/
def State.calMode (s : State) : Bool :=
  s.dev.refclk && s.dev.mode ≠ .shutter && s.dev.mode ≠ .starting && s.dev.mode ≠ .startFailed

/-- A block is eligible but for a suspension (R589); `own` when its own run is the one in progress. -/
def State.calEligible (s : State) (b : Nat) (own : Bool) : Bool :=
  match calKind b with
  | .lrx =>
    let x := s.lineAt b
    (x.state = .up || x.state = .test) && x.lrx.power = .full && !x.lrx.los
  | .ltx => (s.lineAt (b - 16)).ltx.state = .on && (s.transomCell (b - 16)).isSome
  | .ax => s.calMode && (own || s.core32Idle) && (b = 64 || !(s.axAt (b - 32)).failed)
  | .conv => s.calMode

/-- A block's temperature: its sensor's last reading, or the highest among the sensors that are not broken (R587). -/
def State.blockTemp (s : State) (b : Nat) : Int :=
  let n := match calKind b with | .lrx => b | .ltx => b - 16 | _ => 8
  if (s.sensorAt n).broken then
    (((List.range 16).filter fun k => !(s.sensorAt k).broken).map fun k => (s.sensorAt k).last).max?.getD (s.sensorAt n).last
  else (s.sensorAt n).last

/-- A block becomes due (R588); a block that is due keeps its due time. -/
def State.setDue (s : State) (b cause : Nat) : State :=
  if (s.calAt b).due then s
  else s.modCal b fun x => { x with due := true, cause := cause, dueAt := s.tku.bcnt, overdue := false }

/-- The state of a block (R600): IDLE 0, DUE 1, RUNNING 2, SUSPENDED 3, INELIGIBLE 4, NO_SPARE 5. -/
def State.calState (s : State) (b : Nat) : Nat :=
  let x := s.calAt b
  if s.noSpare b then 5
  else if x.running then (if calKind b = .lrx ∧ s.rotSuspended b then 3 else 2)
  else if x.due then (if s.calEligible b false then 1 else 4)
  else 0

/-! Runs. -/

/-- A run is abandoned (R597): the element in progress keeps its old coefficients, the block stays due. -/
def State.calAbandon (s : State) (b cause : Nat) : State :=
  let x := s.calAt b
  if x.running then
    let s1 := s.modCal b fun x => { x with
      running := false, suspended := false, pair := 0, pairs := [],
      due := true, cause := if x.due then x.cause else x.runCause,
      abandoned := tmod x.abandoned (fun _ => 0) cause (· + 1) }
    let s2 := match calKind b with
      | .lrx =>
        let y := (s1.lineAt b).lrx
        let back := match y.rotStep, y.rotOld with
          | 4, some c => s1.modSlice b y.transom fun z => { z with off := c.1, gain := c.2.1, skew := c.2.2 }
          | _, _ => s1
        back.modLrx b fun y => { y with rotStep := 0, rotOld := none }
      | .ltx => s1
      | .ax =>
        if b = 64 then { s1 with ocu := { s1.ocu with c32Cal := false } }
        else
          let s3 := s1.modAx (b - 32) fun a => { a with hand := 0, core := none }
          { s3 with ocu := { s3.ocu with c32 := none } }
      | .conv => s1
    if cause = abShutter then s2 else s2.raise evCalAbandoned [Word.nat b, Word.nat cause, Word.nat x.elem]
  else s

/-- Slices of a receiver that are in order. -/
def State.healthySlices (s : State) (l : Nat) : Nat := countWhere 65 fun n => (s.sliceAt l n).health = .ok

/-- The spare for a failed slice: a healthy idle one; a slice that returned from a self-test is calibrated before it is used
(R90, R92). -/
def State.substSlice (s : State) (l : Nat) : Option Nat :=
  let ok := (List.range 65).filter fun n => s.sliceSpare l n && !(s.sliceAt l n).needsCal
  let t := (s.lineAt l).lrx.transom
  if ok.contains t then some t else ok.head?

/-- A substitution counts for the capture segment in progress on the lane (R117). -/
def State.countSubst (s : State) (l : Nat) : State :=
  if s.cap.taking ∧ s.cap.lane = l then { s with cap := { s.cap with substs := s.cap.substs + 1 } } else s

/-- An active slice has failed (R90, R91, R94): a rotation step that holds the spare is abandoned at once (R58). -/
def State.sliceFailed (s : State) (l n : Nat) : State :=
  match (s.sliceAt l n).pos with
  | none => s
  | some p =>
    let s0 := if (s.lineAt l).lrx.rotStep ≠ 0 then s.calAbandon l abFault else s
    let out := s0.modSlice l n fun x => { x with pos := none, health := .test, bad := 0 }
    match s0.substSlice l with
    | some t =>
      let s1 := out.modSlice l t fun x => { x with pos := some p, bad := 0 }
      let s2 := ((s1.modLrx l fun x => { x with disturbed := true }).countSubst l).bump gLrx l 5
      (s2.raise evLrxSliceSubst [Word.nat l, Word.nat n, Word.nat t, Word.nat p]).report .slice l n srcTest
    | none =>
      let s1 := out.raise evLrxNoSpareSlice [Word.nat l, Word.nat (out.healthySlices l)]
      ((s1.report .slice l n srcTest).lineFault l evLrxNoSpareSlice).modLine l fun x => { x with stuck := true }

/-- Healthy unary cells in their places. -/
def State.healthyCells (s : State) (l : Nat) : Nat :=
  countWhere 16 fun n => (s.cellAt l n).pos.isSome && (s.cellAt l n).health = .ok

/-- A DAC cell has failed (R244, R245): the transom cell takes its place; one that calibration holds is taken from it (R58). Without one
the lane enters FAULT and its transmitter stays OFF. An idle cell only goes to targeted self-test. -/
def State.cellFailed (s : State) (l cell : Nat) : State :=
  let x := s.cellAt l cell
  if x.pos.isNone then (s.modCell l cell fun y => { y with health := .test }).report .cell l cell srcTest
  else
    match s.transomCell l with
    | some t =>
      let s1 := s.calAbandon (l + 16) abFault
      let s2 := (s1.modCell l cell fun y => { y with pos := none, health := .test }).modCell l t fun y => { y with pos := x.pos }
      (s2.raise evLtxCellSubst [Word.nat l, Word.nat cell]).report .cell l cell srcTest
    | none =>
      let s1 := (s.modCell l cell fun y => { y with health := .test }).modLtx l fun y => { y with dead := true }
      let s2 := (s1.raise evLtxNoSpareCell [Word.nat l, Word.nat (s1.healthyCells l)]).report .cell l cell srcTest
      match (s2.lineAt l).state with
      | .acquire | .up | .fault => (s2.modLine l fun y => { y with stuck := true }).lineFault l evLtxNoSpareCell
      | _ => s2

/-- Element to targeted self-test after dissents in two consecutive completed runs (R596). -/
def State.reportElem (s : State) (b e : Nat) : State :=
  match calKind b with
  | .lrx =>
    if s.sliceIdle b e then (s.modSlice b e fun x => { x with health := .test }).report .slice b e srcTest
    else if (s.substSlice b).isSome then s.sliceFailed b e
    else s
  | .ltx => s.cellFailed (b - 16) e
  | .ax => (s.modAx (b - 32) fun x => { x with coreHealth := .test }).report .axCore (b - 32) 0 srcTest
  | .conv => s

/-- A run completes (R595, R600, R603). -/
def State.calFinish (s : State) (b : Nat) : State :=
  let x := s.calAt b
  let d := s.dom s.tku.sel
  let s1 := s.modCal b fun x => { x with
    running := false, runs := min (x.runs + 1) max36, lastDis := x.runDis, tRef := x.tStart,
    lastSec := d.sec, lastNs := d.ns, lastDom := s.tku.sel, lastUnset := d.unset, lastBcnt := s.tku.bcnt }
  let s2 := (x.runDis.filter x.lastDis.contains).foldl (fun s e => s.reportElem b e) s1
  s2.raise evCalDone (Word.nat b :: field32 (x.runs + 1) ++ [Word.nat x.runCause] ++ field32 (s.since x.startAt) ++
    [Word.nat x.runDis.length])

/-- Runs whose block lost eligibility are abandoned; a run suspended under R88 is kept; blocks that become eligible for the
first time since their power-up become due (R588, R597). -/
def State.calCheck (s : State) : State :=
  s.calBlocks.foldl (fun s b =>
    let x := s.calAt b
    if x.running then
      if s.calEligible b true then s.modCal b fun x => { x with suspended := calKind b = .lrx && s.rotSuspended b }
      else s.calAbandon b abEligible
    else if !x.everDue && s.calEligible b false then
      (s.modCal b fun x => { x with everDue := true }).setDue b duePower
    else s) s

/-- Everything that follows from a change of lanes, ports or mode. -/
def State.follow (s : State) : State := s.sync.calCheck

/-- R588: the maximum interval has passed since the end of the last completed run. -/
def execCalIntervalExpiry (b : Nat) (s : State) : Host.Outcome State Fault Refusal :=
  .next (
    if calBlockOk s.fuses.part b ∧ 0 < (s.calAt b).runs ∧
        s.passed (s.calAt b).lastBcnt (s.parN nCalCfg 0 1 * secTicks) then s.setDue b dueInterval else s)

/-- Due blocks of a kind that may start, the earliest due first, then the lowest number (R590). -/
def State.firstDue (s : State) (k : CalKind) : Option Nat :=
  (s.calBlocks.filter fun b => calKind b = k && (s.calAt b).due && !(s.calAt b).running && s.calEligible b false &&
    !s.noSpare b && !(k = .lrx && s.rotSuspended b)).foldl (fun m b =>
      match m with
      | none => some b
      | some a => if (s.calAt b).dueAt.toNat < (s.calAt a).dueAt.toNat then some b else some a) none

/-- Connects the calibrated transom cell to a position at a block boundary; the cell that it frees is the new transom cell
(R585). -/
def State.cellStep (s : State) (l pos : Nat) : State :=
  match s.transomCell l, (List.range 16).find? fun n => (s.cellAt l n).pos = some pos with
  | some t, some n =>
    ((s.modCell l n fun x => { x with pos := none }).modCell l t fun x => { x with pos := some pos }).modLtx l fun x =>
      { x with calPos := pos }
  | _, _ => s

/-- A run starts (R590): not while another run of its kind is in progress, and not during a pane switch (R658). -/
def execCalibrationRunStart (b : Nat) (s : State) : Host.Outcome State Fault Refusal :=
  .next (
    if s.calBlocks.any (fun c => (s.calAt c).running && calKind c = calKind b) ∨ s.eventsHeld ∨
        s.firstDue (calKind b) ≠ some b then s
    else
      let s1 := s.modCal b fun x => { x with
        running := true, suspended := false, due := false, runCause := x.cause, startAt := s.tku.bcnt,
        tStart := s.blockTemp b, elem := 0, pair := 0, pairs := [], runDis := [], frames := 0 }
      match calKind b with
      | .lrx => s1.modLrx b fun x => { x with rotStep := 0, rotPos := 0, rotOld := none }
      | .ltx => s1.cellStep (b - 16) 0
      | .ax =>
        if b = 64 then { s1 with ocu := { s1.ocu with c32Cal := true } }
        else
          let s2 := (s1.modAx (b - 32) fun a => { a with hand := 1 }).modAx 32 fun a => { a with code := 0, target := 0 }
          { s2 with ocu := { s2.ocu with c32 := some (b - 32) } }
      | .conv => s1)

/-! Rotation steps (R84). -/

/-- The rotation of a lane may proceed: its run is in progress. -/
def State.rotating (s : State) (l : Nat) : Bool := (s.calAt l).running

/-- R86: no rotation step of another lane began within the last 100 us (62,500 ticks). -/
def State.rotApart (s : State) (l : Nat) : Bool :=
  (List.range s.lines).all fun k =>
    k == l || (match (s.lineAt k).lrx.rotAt with | none => true | some t => decide (62500 ≤ s.since t))

/-- Step 1: the transom slice shadows the position. A slice that returned from a self-test is calibrated before it is used
(R92): the step then goes to the calibration and leaves the position as it is. -/
def execRotationStepStart (l : Nat) (s0 : State) : Host.Outcome State Fault Refusal :=
  .next (
    if s0.rotating l ∧ (s0.lineAt l).lrx.rotStep = 0 ∧ !s0.rotSuspended l ∧ s0.rotApart l then
      let s := s0.modLrx l fun x => { x with rotAt := some s0.tku.bcnt }
      let t := (s.transomSlice l).getD (s.lineAt l).lrx.transom
      let c := s.sliceAt l t
      if c.needsCal then
        (s.modLrx l fun x => { x with
          rotStep := 4, transom := t, rotOld := some (c.off, c.gain, c.skew) }).modCal l fun y =>
            { y with pair := 0, pairs := [] }
      else s.modLrx l fun x => { x with rotStep := 1, transom := t }
    else s0)

/-- Step 2; a failed comparison keeps the old arrangement and reports the shadow slice (R85). -/
def execShadowComparisonDone (l : Nat) (ok : Bool) (s : State) : Host.Outcome State Fault Refusal :=
  .next (
    if s.rotating l ∧ (s.lineAt l).lrx.rotStep = 1 then
      if ok then s.modLrx l fun x => { x with rotStep := 2 }
      else
        let t := (s.lineAt l).lrx.transom
        let s1 := (s.modLrx l fun x => { x with rotStep := 0 }).bump gLrx l 6
        ((s1.modSlice l t fun x => { x with health := .test }).report .slice l t srcTest).follow
    else s)

/-- The slice on a position. -/
def State.sliceOn (s : State) (l p : Nat) : Option Nat :=
  (List.range 65).find? fun n => (s.sliceAt l n).pos = some p && !s.sliceIdle l n

/-- Step 3: the position takes its samples from the former transom; the former active slice is the new transom. -/
def execRotationSwitch (l : Nat) (s : State) : Host.Outcome State Fault Refusal :=
  .next (
    let x := (s.lineAt l).lrx
    if s.rotating l ∧ x.rotStep = 2 then
      match s.sliceOn l x.rotPos with
      | none => s
      | some n =>
        let c := s.sliceAt l n
        let s1 := (s.modSlice l n fun y => { y with pos := none, bad := 0 }).modSlice l x.transom fun y =>
          { y with pos := some x.rotPos, bad := 0 }
        (s1.modLrx l fun y => { y with rotStep := 4, transom := n, rotOld := some (c.off, c.gain, c.skew) }).modCal l
          fun y => { y with pair := 0, pairs := [] }
    else s)

/-- Steps 4 and 5 end; the next position may begin, or the run completes (R86). An idle slice that fails its calibration or its idle
self-check goes to targeted self-test, and the step ends (R95). -/
def execTransomCalibrationDone (l : Nat) (s : State) (ok : Bool := true) : Host.Outcome State Fault Refusal :=
  .next (
    let x := (s.lineAt l).lrx
    if s.rotating l ∧ x.rotStep = 4 ∧ 3 ≤ (s.calAt l).pair then
      if !ok then
        let s1 := (s.modLrx l fun y => { y with rotStep := 0, rotOld := none }).modCal l fun y => { y with pair := 0, pairs := [] }
        ((s1.modSlice l x.transom fun y => { y with health := .test }).report .slice l x.transom srcTest).follow
      else if (s.sliceAt l x.transom).needsCal then
        ((s.modLrx l fun y => { y with rotStep := 0, rotOld := none }).modSlice l x.transom fun y =>
          { y with needsCal := false }).modCal l fun y => { y with pair := 0, pairs := [] }
      else
        let s1 := s.modLrx l fun y => { y with rotStep := 0, rotPos := y.rotPos + 1, rotOld := none }
        let s2 := s1.modCal l fun y => { y with elem := y.elem + 1, pair := 0, pairs := [] }
        if x.rotPos + 1 = (if s.half l then 32 else 64) then (s2.calFinish l).follow else s2
    else s)

/-! Pairs of measurements (R593 to R595). -/

/-- Tolerance and trim range of each quantity, in its unit (log entry 10): slice offset 1/16 LSB, gain 0.01 %, skew
5 fs; cell weight 0.01 DAC LSB; core offset 1 LSB, gain 0.001 %; converter offset 0.1 code, gain 0.01 %. A range that
the spec does not state is none. -/
def calQuantities (k : CalKind) : List (Nat × Option Nat) :=
  match k with
  | .lrx => [(2, some 256), (2, some 600), (2, some 120)]
  | .ltx => [(5, none)]
  | .ax => [(1, none), (2, none)]
  | .conv => [(5, none), (5, none)]

/-- A pair agrees (R593). -/
def pairAgrees (k : CalKind) (x y : List Int) : Bool :=
  ((calQuantities k).zip (x.zip y)).all fun q =>
    decide ((q.2.1 - q.2.2).natAbs ≤ q.1.1) &&
      match q.1.2 with
      | none => true
      | some m => decide (q.2.1.natAbs ≤ m ∧ q.2.2.natAbs ≤ m)

/-- The mean of a pair, halves away from zero (log entry 17). -/
def pairMean (a b : Int) : Int := if 0 ≤ a + b then (a + b + 1) / 2 else -((-(a + b) + 1) / 2)

/-- The element under calibration. -/
def State.calElem (s : State) (b : Nat) : Nat :=
  match calKind b with
  | .lrx => (s.lineAt b).lrx.transom
  | .ltx => (s.transomCell (b - 16)).getD 15
  | _ => 0

/-- Stores new coefficients of an element. -/
def State.storeCoef (s : State) (b e : Nat) (m : List Int) : State :=
  match calKind b with
  | .lrx => s.modSlice b e fun x => { x with off := m.getD 0 0, gain := m.getD 1 0, skew := m.getD 2 0 }
  | _ => s.modCal b fun x => { x with
      coef := (m.zipIdx).foldl (fun t q => tset t (fun _ => 0) (2 * e + q.2) q.1) x.coef }

/-- One pair of measurements of the element in progress. -/
def State.pairDone (s : State) (b : Nat) (x y : List Int) : State :=
  let k := calKind b
  let e := s.calElem b
  let c := s.calAt b
  if pairAgrees k x y then
    let s1 := (s.storeCoef b e (List.zipWith pairMean x y)).modCal b fun c => { c with pair := 3 }
    if c.flags.contains e then
      (s1.modCal b fun c => { c with flags := c.flags.erase e }).raise evCalDissentClear [Word.nat b, Word.nat e]
    else s1
  else
    let vals := c.pairs ++ (x ++ y).map Word.int
    if c.pair < 2 then s.modCal b fun c => { c with pair := c.pair + 1, pairs := vals }
    else
      (s.modCal b fun c => { c with
        pair := 3, pairs := vals, flags := if c.flags.contains e then c.flags else c.flags ++ [e],
        dissents := c.dissents + 1, runDis := c.runDis ++ [e] }).raise evCalDissent
          (Word.nat b :: Word.nat e :: vals)

/-- A measurement can be taken: the run is in progress and its element is free. -/
def State.measuring (s : State) (b : Nat) : Bool :=
  (s.calAt b).running && decide ((s.calAt b).pair < 3) &&
    match calKind b with
    | .lrx => (s.lineAt b).lrx.rotStep == 4
    | .ax => b == 64 || (s.axAt (b - 32)).hand == 3
    | _ => true

def execMeasurementPairDone (b : Nat) (x y : List Int) (s : State) : Host.Outcome State Fault Refusal :=
  .next (
    let n := (calQuantities (calKind b)).length
    if s.measuring b ∧ x.length = n ∧ y.length = n then
      let s1 := s.pairDone b x y
      if calKind b = .conv ∧ (s1.calAt b).pair = 3 then (s1.calFinish b).follow else s1.follow
    else s)

/-- R585: the next unary position, or the end of the run after the fifteenth. -/
def execLtxCalStep (l : Nat) (s : State) : Host.Outcome State Fault Refusal :=
  .next (
    let b := l + 16
    let x := s.calAt b
    if x.running ∧ 3 ≤ x.pair then
      let s1 := s.modCal b fun y => { y with elem := y.elem + 1, pair := 0, pairs := [] }
      if x.elem + 1 = 15 then (s1.calFinish b).follow else s1.cellStep l (x.elem + 1)
    else s)

/-- R586: one converter frame of a MONCONV run, for one measurement; two frames of a run lie at least 1 ms apart. The monitor
inputs' missing samples are replaced by their previous ones, which no output sample shows (R571). -/
def execMonconvFrame (s : State) : Host.Outcome State Fault Refusal :=
  .next (
    let x := s.calAt 96
    if x.running ∧ s.dev.refclk ∧ (x.frames = 0 ∨ 625000 ≤ s.since x.frameAt) then
      s.modCal 96 fun y => { y with frames := y.frames + 1, frameAt := s.tku.bcnt }
    else s)

/-- R592: due for 60 s without starting. -/
def execCalDueTimer (b : Nat) (s : State) : Host.Outcome State Fault Refusal :=
  .next (
    let x := s.calAt b
    if x.due ∧ !x.overdue ∧ !x.running ∧ s.passed x.dueAt (60 * secTicks) then
      (s.modCal b fun x => { x with overdue := true }).raise evCalOverdue
        (Word.nat b :: Word.nat x.cause :: field32 (s.since x.dueAt) ++ [Word.nat (s.calState b)])
    else s)

/-! The calibration nouns (R602). -/

/-- Run count and domain time of the last run, as several nouns report them (R600): count, seconds, nanoseconds, domain,
UNSET, BCNT. -/
def State.lastRun (s : State) (b : Nat) : List Word :=
  let x := s.calAt b
  words64 x.runs ++ words64 x.lastSec ++ [Word.nat x.lastNs, Word.nat x.lastDom.num, Word.flag x.lastUnset] ++
    words64 x.lastBcnt.toNat

def specGetCalCfg : CmdSpec := { verb := vGet, noun := nCalCfg, inst := .zero, form := .fixed [0], modes := .any }
def procGetCalCfg : Sentence → State → State :=
  process specGetCalCfg noCheck (getAct fun s _ => s.paramSet nCalCfg 0) noEcho
def execGetCalCfg (m : Sentence) (s : State) : Host.Outcome State Fault Refusal :=
  .next (submit vGet nCalCfg procGetCalCfg m s)

/-- The effect of a SET of the mask form with nothing more to it. -/
def setAct (noun : Nat) (s : State) (m : Sentence) (ws : List Word) : State × Reply :=
  (s.applyChanges noun m.inst.toNat (maskChanges noun m ws), okDone)

/-- Range check of the mask form. -/
def setCheck (noun : Nat) (_ : State) (m : Sentence) (ws : List Word) : Option Refuse := maskRange noun m ws

/-- The parameter set that ECHO returns. -/
def setEcho (noun : Nat) (s : State) (i : Nat) : List Word := s.paramSet noun i

def specSetCalCfg : CmdSpec := { verb := vSet, noun := nCalCfg, inst := .zero, form := .mask, modes := .notShutter }
def procSetCalCfg : Sentence → State → State :=
  process specSetCalCfg (setCheck nCalCfg) (setAct nCalCfg) (setEcho nCalCfg)
def execSetCalCfg (m : Sentence) (s : State) : Host.Outcome State Fault Refusal :=
  .next (submit vSet nCalCfg procSetCalCfg m s)

/-- Elements of a block. -/
def calElems (k : CalKind) : Nat :=
  match k with
  | .lrx => 65
  | .ltx => 16
  | _ => 1

/-- The figures of R600. -/
def State.calFigures (s : State) (b : Nat) : List Word :=
  let x := s.calAt b
  Word.nat (s.calState b) :: s.lastRun b ++ [Word.int x.tStart, Word.int (s.blockTemp b), Word.nat x.cause] ++
    words64 x.dueAt.toNat ++ (List.range (calElems (calKind b))).map (fun e => Word.flag (x.flags.contains e)) ++
    [Word.nat x.dissents] ++ [abFault, abShutter, abEligible].map fun c => Word.nat (tget x.abandoned (fun _ => 0) c)

def specGetCalBlock : CmdSpec := { verb := vGet, noun := nCalBlock, inst := .calBlock, form := .fixed [0], modes := .any }
def procGetCalBlock : Sentence → State → State := process specGetCalBlock noCheck (getAct State.calFigures) noEcho
def execGetCalBlock (m : Sentence) (s : State) : Host.Outcome State Fault Refusal :=
  .next (submit vGet nCalBlock procGetCalBlock m s)

/-- RUN: the block is due; STATE_REFUSED when NO_SPARE (R602). -/
def specRunCalBlock : CmdSpec := { verb := vRun, noun := nCalBlock, inst := .calBlock, form := .fixed [0], modes := .notShutter }
def procRunCalBlock : Sentence → State → State :=
  process specRunCalBlock
    (fun s m _ => if s.noSpare m.inst.toNat then some { code := cStateRefused, detail := 2 } else none)
    (fun s m _ => (s.setDue m.inst.toNat dueCommand, okDone)) noEcho
def execRunCalBlock (m : Sentence) (s : State) : Host.Outcome State Fault Refusal :=
  .next (submit vRun nCalBlock procRunCalBlock m s)

/-- CLEAR: dissent flags cleared, no event (R595). -/
def specClearCalBlock : CmdSpec :=
  { verb := vClear, noun := nCalBlock, inst := .calBlock, form := .fixed [0], modes := .notShutter }
def procClearCalBlock : Sentence → State → State :=
  process specClearCalBlock noCheck
    (fun s m _ => (s.modCal m.inst.toNat fun x => { x with flags := [] }, okDone)) noEcho
def execClearCalBlock (m : Sentence) (s : State) : Host.Outcome State Fault Refusal :=
  .next (submit vClear nCalBlock procClearCalBlock m s)

end Sys2Proof.Machine
end

