-- ==== Sys2Proof/Machine/Memory.lean ====
section
/-! DEFINITION. LPDDR5X and its error correction (R523 to R555): reading, writing and splicing bytes, corrections and the
correction-echo table, partial writes and poison, rows under test, refresh; the BAR2 windows (R476 to R480) and the memory
nouns. -/

namespace Sys2Proof.Machine

/-! Bytes. A byte that nothing has written reads 0, the fill of R547 (DESIGN CHOICE before the fill, unsafe: log
entry 124). -/

/-- The byte at a device address. -/
def State.memByte (s : State) (a : Nat) : Byte := tget s.mem.data (fun _ => 0) a

/-- `n` bytes from a device address. -/
def State.memBytes (s : State) (a n : Nat) : List Byte := (List.range n).map fun i => s.memByte (a + i)

/-- The cells of bytes that are not 0, from an address on. -/
def cellsOf (a : Nat) : List Byte → List Host.Cell
  | [] => []
  | b :: bs => if b = 0 then cellsOf (a + 1) bs else (a, b) :: cellsOf (a + 1) bs

/-- Replaces the bytes from `a` on; everything else stays. -/
def spliceCells (m : List Host.Cell) (a : Nat) (bs : List Byte) : List Host.Cell :=
  m.filter (fun c => decide (c.1 < a)) ++ cellsOf a bs ++ m.filter (fun c => decide (a + bs.length ≤ c.1))

/-- Replaces `n` bytes from `a` on by zeros. -/
def clearCells (m : List Host.Cell) (a n : Nat) : List Host.Cell :=
  m.filter fun c => decide (c.1 < a ∨ a + n ≤ c.1)

/-- Memory's canonical form. -/
abbrev Memory.wf (m : List Host.Cell) : Prop := tableWf (fun _ => (0 : Byte)) m = true

/-- 64-byte units that `n` bytes from `a` touch, as performance events 0x020 and 0x021 count them (R666). -/
def units64 (a n : Nat) : Nat := if n = 0 then 0 else (a + n - 1) / 64 - a / 64 + 1

/-- Stores bytes in whole words, which come out good (R539). -/
def State.memStore (s : State) (a : Nat) (bs : List Byte) : State :=
  { s with mem := { s.mem with
      data := spliceCells s.mem.data a bs
      cond := s.mem.cond.filter fun c => decide (c.1 < a ∨ a + bs.length ≤ c.1) } }

/-- Stores whole words as the device's own writers do. -/
def State.memPut (s : State) (a : Nat) (bs : List Byte) : State :=
  (s.memStore a bs).pmcEvent 0x021 (units64 a bs.length)

/-- Zeros `n` bytes. -/
def State.memClear (s : State) (a n : Nat) : State :=
  ({ s with mem := { s.mem with
      data := clearCells s.mem.data a n
      cond := s.mem.cond.filter fun c => decide (c.1 < a ∨ a + n ≤ c.1) } }).pmcEvent 0x021 (units64 a n)

/-- The little-endian value of bytes. -/
def leVal : List Byte → Nat
  | [] => 0
  | b :: bs => b.toNat + 256 * leVal bs

/-- `n` little-endian bytes of a number. -/
def leBytes (n v : Nat) : List Byte := (List.range n).map fun i => BitVec.ofNat 8 (v / 256 ^ i)

/-! Places. -/

/-- The region of a device address: channel A[9:8] (R524, R525). -/
def chanOf (a : Nat) : Nat := 8 + a / 256 % 4

/-- The row of a device address: A[31:13] (R525). -/
def rowOf (a : Nat) : Nat := a / 8192

/-- The condition of the stored word at a word address. -/
def State.condOf (s : State) (w : Nat) : WordCond := tget s.mem.cond (fun _ => .good) w

def State.setCond (s : State) (w : Nat) (c : WordCond) : State :=
  { s with mem := { s.mem with cond := tset s.mem.cond (fun _ => .good) w c } }

/-- Macros of at most 64 KiB in an SRAM region, two to a Lexicon bank, one to an engine (R523, R541; log entry 18). -/
def macros (g : Nat) : Nat := [64, 77, 32, 68, 256].getD g 0

/-- The macro of an SRAM row, 256 rows each; a DRAM channel has one pool (log entry 18). -/
def macroOf (g row : Nat) : Nat := if 8 ≤ g then 0 else row / 256

/-- Spare rows of a macro or pool, and of a region (R541). -/
def macroRows (g : Nat) : Nat := if 8 ≤ g then 8192 else 8
def spareRows (g : Nat) : Nat := if 8 ≤ g then 8192 else 8 * macros g

/-- Spare columns of a macro, and of a region (R541). -/
def macroCols (g : Nat) : Nat := if 8 ≤ g then 0 else 2
def spareCols (g : Nat) : Nat := macroCols g * macros g

/-- Repairs of a macro or pool by row, or by column. -/
def Region.taken (x : Region) (g m : Nat) (column : Bool) : Nat :=
  (x.repairs.filter fun r => macroOf g r.row == m && decide ((r.verdict = .lastingColumn) = (column = true))).length

/-- Spare rows of the macro or pool of a row that are free; the one under test holds one more. -/
def State.rowsFree (s : State) (g row : Nat) : Nat :=
  let x := s.regionAt g
  macroRows g - x.taken g (macroOf g row) false -
    (if (x.step = 1 ∨ x.step = 2) ∧ macroOf g x.row = macroOf g row then 1 else 0)

/-- Spare columns of the macro of a row that are free. -/
def State.colsFree (s : State) (g row : Nat) : Nat := macroCols g - (s.regionAt g).taken g (macroOf g row) true

/-! Rows under test (R541 to R546). -/

/-- The spare of a bank: the lowest-numbered one in order that serves no bank (R373). -/
def State.freeSpare (s : State) : Option Nat :=
  [32, 33].find? fun b => (s.bankAt b).health = .ok && !(s.bankAt b).slice &&
    !(List.range 32).any fun k => (s.bankAt k).spare = some b

/-- The memory of an engine or of a Lexicon bank, which is tested while the whole unit is isolated (R542). -/
def wholeUnit (g : Nat) : Bool := g == 3 || g == 4

/-- Step 1 of R543: takes a spare row where one is free; step 3 stands for a test without one, as R542 has it. -/
def State.rowTest (s : State) (g row : Nat) : State :=
  if 0 < s.rowsFree g row ∧ !wholeUnit g then s.modRegion g fun x => { x with step := 1, row := row, usedRows := x.usedRows + 1 }
  else s.modRegion g fun x => { x with step := 3, row := row }

/-- A row is under test or waits for it (R535). -/
def State.rowBusy (s : State) (g row : Nat) : Bool :=
  let x := s.regionAt g
  (x.step ≠ 0 && x.row == row) || x.queue.contains row

/-- The queue of a region takes no further row (R544). -/
def State.rowQueueFull (s : State) (g : Nat) : Bool := decide ((s.regionAt g).step ≠ 0 ∧ 16 ≤ (s.regionAt g).queue.length)

/-- A row is reported to targeted self-test (R544, R546). -/
def State.reportRow (s : State) (g row : Nat) : State :=
  let x := s.regionAt g
  if s.rowBusy g row ∨ x.pinnedRows.contains row then s
  else if x.step = 0 then s.rowTest g row
  else if x.queue.length < 16 then s.modRegion g fun x => { x with queue := x.queue ++ [row] }
  else s.bump gMem g 8

/-- The test ends; the next report of the region is taken. -/
def State.nextRow (s : State) (g : Nat) : State :=
  let s1 := s.modRegion g fun x => { x with step := 0, row := 0 }
  match (s1.regionAt g).queue with
  | [] => s1
  | r :: rs => (s1.modRegion g fun x => { x with queue := rs }).rowTest g r

/-! Corrections (R529 to R535). -/

/-- The distance in ticks that keeps MEM_CORRECTED within its limit (R531; log entry 18). -/
def State.corrSpacing (s : State) : Nat := 625000000 / max 1 (s.parN nMemCfg 0 1)

/-- MEM_CORRECTED may be raised now. -/
def State.corrDue (s : State) : Bool :=
  [0, 1, 2, 3, 4, 8, 9, 10, 11].all fun g =>
    match (s.regionAt g).lastEvent with
    | none => true
    | some b => decide (s.corrSpacing ≤ s.since b)

/-- Counts a correction and reports it as far as the limit allows. -/
def State.countCorrection (s : State) (g a : Nat) : State :=
  let s1 := (s.bump gMem g 0).modRegion g fun x => { x with sinceEvent := x.sinceEvent + 1 }
  if s1.corrDue then
    let n := (s1.regionAt g).sinceEvent
    (s1.modRegion g fun x => { x with sinceEvent := 0, lastEvent := some s1.tku.bcnt }).raise evMemCorrected
      [Word.nat g, Word.nat n, Word.nat a]
  else s1

/-- Enters a correction in the echo table (R532, R534). -/
def State.enterEcho (s : State) (e : Echo) : State :=
  if s.mem.echo.length < 64 then { s with mem := { s.mem with echo := s.mem.echo ++ [e] } }
  else
    match s.mem.echo.find? fun x => !x.pinned with
    | none => s
    | some x =>
      ({ s with mem := { s.mem with echo := s.mem.echo.erase x ++ [e] } }).bump gMem e.region 7

/-- The echo window of new entries, in s (R552). -/
def State.echoWindow (s : State) : Nat := s.parN nMemCfg 0 0

/-- An entry's window has passed since its correction (R534). -/
def State.expired (s : State) (e : Echo) : Bool := decide (e.window * secTicks ≤ s.since e.bcnt)

/-- A correction at a word whose write-back completes, and whether it is an echo (R529, R532 to R535, R544, R546). The table is kept in the
order of entry, so that its first unpinned entry is the oldest. -/
def State.correctAt (s : State) (g a row syn : Nat) : State × Bool :=
  let s1 := s.countCorrection g a
  let pinned := (s.regionAt g).pinnedRows.contains row
  let entry : Echo := { region := g, addr := a, row := row, syn := syn, bcnt := s.tku.bcnt, pinned := pinned, window := s.echoWindow }
  if s.rowBusy g row then (s1, false)
  else
    match s1.mem.echo.find? fun e => decide (e.region = g ∧ e.addr = a) with
    | none => (s1.enterEcho entry, false)
    | some e =>
      let s2 : State := { s1 with mem := { s1.mem with echo := s1.mem.echo.erase e } }
      if pinned then (s1, false)
      else if s1.expired e then (s2.enterEcho entry, false)
      else
        let s3 := if s.rowQueueFull g then s2.enterEcho entry else s2
        ((s3.bump gMem g 6).raise evMemEcho
          (Word.nat g :: Word.nat a :: Word.nat e.syn :: Word.nat syn :: field32 (s1.since e.bcnt)), true)

/-- A correction of an LPDDR5X word; an echo sends its row to targeted self-test (R533). -/
def State.correct (s : State) (g a syn : Nat) : State :=
  let x := (s.setCond a .good).correctAt g a (rowOf a) syn
  if x.2 then x.1.reportRow g (rowOf a) else x.1

/-- A Lexicon bank goes to targeted self-test; a free spare takes its place first (R373, R374, R542). -/
def State.bankOut (s : State) (b : Nat) : State :=
  if b < 32 then
    let spare := (s.bankAt b).spare.or s.freeSpare
    (s.modBank b fun x => { x with
      health := if x.health = .ok then .test else x.health, spare := spare, filling := x.filling || (x.spare.isNone && spare.isSome) }).report
      .lexBank b 0 srcTest
  else s

/-- An SRAM row is reported to targeted self-test; the engine or bank that it belongs to is replaced first (R542). -/
def State.reportSram (s : State) (u : SramRead) : State :=
  if s.rowBusy u.region u.row ∨ (s.regionAt u.region).pinnedRows.contains u.row then s
  else
    let s1 := if u.region = 3 then s.bankOut (u.row / 512)
      else if u.region = 4 then s.engineFault (u.row / 256) (.localMemory u.addr u.row)
      else s
    s1.reportRow u.region u.row

/-- Readers of on-chip SRAM, numbered after the requesters (log entry 10): engine 3, Lexicon 4, datapath 5, capture 6; a DMA
push is reader 7. -/
def sramReader (g : Nat) : Nat := [5, 5, 6, 4, 3].getD g 5
def dmaReader : Nat := 7

/-- A checked read of an SRAM word (R527, R529, R532 to R535, R538). -/
def State.sramRead (s : State) (u : SramRead) : State :=
  match u.syn with
  | some syn =>
    let x := s.correctAt u.region u.addr u.row syn
    if x.2 then x.1.reportSram u else x.1
  | none => ((s.bump gMem u.region 3).raise evMemUncorr [Word.nat u.region, Word.nat u.addr, Word.nat (sramReader u.region)]).reportSram u

def State.sramReads (s : State) (us : List SramRead) : State := us.foldl State.sramRead s

/-- The rows of a region that reads found uncorrectable. -/
def badRows (g : Nat) (us : List SramRead) : List Nat := (us.filter fun u => u.region = g && u.syn.isNone).map SramRead.row

/-- A word that an access finds gone bad: a poisoned word stays poisoned (R538). -/
def State.upset (s : State) (u : Nat × Option Nat) : State :=
  if s.condOf u.1 = .poisoned ∨ s.condOf u.1 = .uncorrectable then s
  else s.setCond u.1 (match u.2 with | none => .uncorrectable | some syn => .correctable syn)

/-- One checked read of a word (R527, R529, R538, R539): the state after it, and whether the word is delivered. -/
def State.readWord (s : State) (reader : Nat) (w : Nat) : State × Bool :=
  let g := chanOf w
  match s.condOf w with
  | .good => (s, true)
  | .correctable syn => (s.correct g w syn, true)
  | .uncorrectable =>
    ((((s.setCond w .poisoned).bump gMem g 3).raise evMemUncorr
      [Word.nat g, Word.nat w, Word.nat reader]).reportRow g (rowOf w), false)
  | .poisoned => (s.bump gMem g 5, false)

/-- Stores the enabled bytes of one word over the stored ones. -/
def mergeBytes (old : List Byte) (new : List (Option Byte)) : List Byte :=
  old.zipWith (fun o n => n.getD o) new

/-- A write to one word, 8 bytes with enables (R536, R537, R539). -/
def State.writeWord (s : State) (r : Requester) (w : Nat) (bs : List (Option Byte)) : State :=
  let g := chanOf w
  if bs.all Option.isNone then s
  else if bs.all Option.isSome then s.memStore w (bs.map fun b => b.getD 0)
  else
    let s1 := s.bump gMem g 1
    let merged := mergeBytes (s1.memBytes w 8) bs
    let store (s : State) (xs : List Byte) : State := { s with mem := { s.mem with data := spliceCells s.mem.data w xs } }
    match s1.condOf w with
    | .good => store s1 merged
    | .correctable syn => store (s1.correct g w syn) merged
    | .poisoned => store s1 merged
    | .uncorrectable =>
      ((store (s1.setCond w .poisoned) (bs.map fun b => b.getD 0)).bump gMem g 4).raise evMemPoisonWrite
        [Word.nat g, Word.nat w, Word.nat r.num, Word.nat (bs.filter Option.isSome).length]

/-! The BAR2 windows (R476 to R480). -/

/-- The kinds of region behind the windows (R476). -/
inductive MemKind where
  | hidden | staging | readOnly | reserved
deriving DecidableEq, Repr

def memKind (a : Nat) : MemKind :=
  if a < 0x20000000 then .hidden
  else if a < 0x30000000 then .staging
  else if a < 0x34000000 then .readOnly
  else if a < 0x5F000000 then .reserved
  else if a < 0xE0000000 then .readOnly
  else .reserved

/-- Size of a function's BAR2 (R473). -/
def bar2Size (r : Requester) : Nat :=
  match r with
  | .pf0 => 0x10000000
  | .pf1 => 0x4000000
  | .mgt => 0

/-- The device address that a window offset maps to (R477, R478). -/
def State.bar2Addr (s : State) (r : Requester) (off : Nat) : Nat := (if r = .pf0 then s.hif.window else 0x30000000) + off

/-- The word addresses of `n` bytes from `a` on, ascending. -/
def wordsOf (a n : Nat) : List Nat := if n = 0 then [] else (List.range ((a + n - 1) / 8 - a / 8 + 1)).map fun i => 8 * (a / 8 + i)

/-- An address reads 0 to a requester: reserved space, and counter telemetry to PF1 without its grant (R476, R683). -/
def State.readsZero (s : State) (r : Requester) (a : Nat) : Bool :=
  memKind a = .reserved || memKind a = .hidden ||
    (r = .pf1 && !s.dev.grant && decide (0x30400000 ≤ a ∧ a < 0x31000000))

/-- Reads the words of a request in ascending order; answers those that were not delivered. -/
def State.readWords (s : State) (r : Requester) : List Nat → State × List Nat
  | [] => (s, [])
  | w :: ws =>
    if s.readsZero r w then s.readWords r ws
    else
      let x := s.readWord r.num w
      let y := x.1.readWords r ws
      (y.1, if x.2 then y.2 else w :: y.2)

/-- A DWORD at a device address as a read delivers it. -/
def State.dwordAt (s : State) (r : Requester) (bad : List Nat) (a : Nat) : Word :=
  if s.readsZero r a ∨ bad.contains (8 * (a / 8)) then 0 else Word.nat (leVal (s.memBytes a 4))

/-- R480: a read through a window. `ups` are the words that it finds gone bad. -/
def execBar2Read (r : Requester) (off dwords : Nat) (ups : List (Nat × Option Nat)) (s : State) :
    Host.Outcome State Fault Refusal :=
  .next (
    if s.bus r ∧ off + 4 * dwords ≤ bar2Size r then
      let a := s.bar2Addr r off
      let ws := wordsOf a (4 * dwords)
      let s1 := (ups.filter fun u => ws.contains u.1).foldl State.upset s
      let x := s1.readWords r ws
      let out := (List.range dwords).map fun i => x.1.dwordAt r x.2 (a + 4 * i)
      ({ x.1 with dev := { x.1.dev with busRead := { words := out, poisoned := !x.2.isEmpty } } }).pmcEvent 0x020
        (units64 a (4 * dwords))
    else s)

/-- The enabled bytes of a request that fall in one word. -/
def wordBytes (a : Nat) (bs : List (Option Byte)) (w : Nat) : List (Option Byte) :=
  (List.range 8).map fun i => if w + i < a then none else (bs[w + i - a]?).join

/-- R480: a write through a window. Only the staging region takes it; a write of PF0 elsewhere is discarded and counted
(R477), a write of PF1 is discarded (R478). -/
def execBar2Write (r : Requester) (off : Nat) (bs : List (Option Byte)) (ups : List (Nat × Option Nat)) (s : State) :
    Host.Outcome State Fault Refusal :=
  .next (
    if s.bus r ∧ r = .pf0 ∧ off + bs.length ≤ bar2Size r then
      let a := s.bar2Addr r off
      let ws := wordsOf a bs.length
      let here := ws.filter fun w => memKind w = .staging
      let s1 := (ups.filter fun u => here.contains u.1).foldl State.upset s
      let s2 := (here.foldl (fun s w => s.writeWord .pf0 w (wordBytes a bs w)) s1).pmcEvent 0x021
        (if here = [] then 0 else units64 a bs.length)
      if ws.any fun w => memKind w = .readOnly then
        { s2 with hif := { s2.hif with discarded := s2.hif.discarded + 1 } }
      else s2
    else s)

/-! Events of the memory. -/

/-- R534: an entry of the echo table expires once its window has passed. -/
def execEchoEntryExpiry (g a : Nat) (s : State) : Host.Outcome State Fault Refusal :=
  .next { s with mem := { s.mem with echo := s.mem.echo.filter fun e =>
    !(decide (e.region = g ∧ e.addr = a) && (s.expired e || !s.dev.refclk)) } }

/-- R543: the copy is made and accesses are redirected. The words of the row come out corrected in the spare. -/
def execRepairCopyDone (g : Nat) (s : State) : Host.Outcome State Fault Refusal :=
  .next (
    let x := s.regionAt g
    if x.step = 1 then
      let bad := (s.mem.cond.filter fun c => decide (chanOf c.1 = g ∧ rowOf c.1 = x.row)).map Prod.fst
      let s1 := bad.foldl (fun s w =>
        match s.condOf w with
        | .correctable _ => (s.setCond w .good).countCorrection g w
        | .uncorrectable => s.setCond w .poisoned
        | _ => s) s
      s1.modRegion g fun x => { x with step := 2 }
    else s)

/-- The words of MarchVerdict in events and results. -/
def verdictNum : MarchVerdict → Nat
  | .transient => 0
  | .lastingRow => 1
  | .lastingColumn => 2

/-- R546: no free spare for a lasting verdict. -/
def State.exhaust (s : State) (g row : Nat) : State :=
  let s1 := (s.bump gMem g 11).modRegion g fun x => { x with exhausted := true, pinnedRows := x.pinnedRows ++ [row] }
  let s2 := { s1 with mem := { s1.mem with echo := s1.mem.echo.map fun e : Echo =>
    ({ e with pinned := e.pinned || decide (e.region = g ∧ e.row = row) } : Echo) } }
  s2.raise evMemSparesExhausted [Word.nat g, Word.nat row]

/-- A lasting repair waits for the record (R543 step 5). -/
def State.repairDue (s : State) (g row kind : Nat) (v : MarchVerdict) : State :=
  let s1 := s.modRegion g fun x => { x with repairs := x.repairs ++ [{ row := row, verdict := v, bcnt := s.tku.bcnt }] }
  { s1 with mem := { s1.mem with toRecord := s1.mem.toRecord ++ [s1.newEntry kind srcTest g row] } }

/-- R542, R543: the verdict of a march test. A column verdict exists in SRAM only. -/
def execMarchTestDone (g : Nat) (v : MarchVerdict) (s : State) : Host.Outcome State Fault Refusal :=
  .next (
    let x := s.regionAt g
    let back (s : State) : State := if x.step = 2 then s.modRegion g fun x => { x with usedRows := x.usedRows - 1 } else s
    if x.step < 2 ∨ (v = .lastingColumn ∧ 8 ≤ g) then s
    else
      match v with
      | .transient => ((back s).nextRow g).settle
      | .lastingRow =>
        if x.step = 2 then (((s.repairDue g x.row (if 8 ≤ g then 6 else 3) v).bump gMem g 9).nextRow g).settle
        else if wholeUnit g ∧ 0 < s.rowsFree g x.row then
          let s1 := s.modRegion g fun x => { x with usedRows := x.usedRows + 1 }
          (((s1.repairDue g x.row 3 v).bump gMem g 9).nextRow g).settle
        else ((s.exhaust g x.row).nextRow g).settle
      | .lastingColumn =>
        if 0 < s.colsFree g x.row then
          let s1 := (back s).modRegion g fun x => { x with usedCols := x.usedCols + 1 }
          (((s1.repairDue g x.row 4 v).bump gMem g 10).nextRow g).settle
        else (((back s).exhaust g x.row).nextRow g).settle)

/-- R543 step 5: the oldest lasting repair is appended to the record, and MEM_REPAIRED is raised. -/
def execRepairRecordAppend (s : State) : Host.Outcome State Fault Refusal :=
  .next (
    match s.mem.toRecord with
    | [] => s
    | e :: es =>
      let s1 := ({ s with mem := { s.mem with toRecord := es } }).appendEntry e
      let left := if e.kind = 4 then s1.colsFree e.unit e.location else s1.rowsFree e.unit e.location
      (s1.raise evMemRepaired
        [Word.nat e.unit, Word.nat e.location, Word.nat (if e.kind = 4 then 2 else 1), Word.nat left]).settle)

/-! Refresh (R549, R550). -/

/-- The multiplier of a temperature band. -/
def bandMult (b : Band) : Nat :=
  match b with
  | .cold | .normal => 1
  | .warm => 2
  | .hot => 4

/-- The refresh floor of R552. -/
def State.refreshFloor (s : State) : Nat := 2 ^ s.parN nMemCfg 0 2

def State.multOf (s : State) (die : Nat) : Nat := tget s.mem.mult (fun _ => 1) die
def State.mr4Of (s : State) (die : Nat) : Nat := tget s.mem.mr4 (fun _ => 1) die

/-- The multiplier that a die needs, and its cause: 0 band, 1 MR4, 2 floor. -/
def State.multNow (s : State) (die : Nat) : Nat × Nat :=
  let b := bandMult s.thm.band
  let m := s.mr4Of die
  let f := s.refreshFloor
  let top := max b (max m f)
  (top, if b = top then 0 else if m = top then 1 else 2)

/-- R549, R550: a change of multiplier takes effect at a refresh command. -/
def execRefreshCommand (die : Nat) (s : State) : Host.Outcome State Fault Refusal :=
  .next (
    let old := s.multOf die
    let n := s.multNow die
    if n.1 = old then s
    else
      ({ s with mem := { s.mem with mult := tset s.mem.mult (fun _ => 1) die n.1 } }).raise evMemRefresh
        [Word.nat die, Word.nat old, Word.nat n.1, Word.nat n.2])

/-! The memory nouns (R553). -/

def specGetMemCfg : CmdSpec := { verb := vGet, noun := nMemCfg, inst := .zero, form := .fixed [0], modes := .any }
def procGetMemCfg : Sentence → State → State :=
  process specGetMemCfg noCheck
    (getAct fun s _ => s.paramSet nMemCfg 0 ++
      [0, 1].flatMap fun d => [Word.nat (s.multOf d), Word.nat (s.multNow d).2]) noEcho
def execGetMemCfg (m : Sentence) (s : State) : Host.Outcome State Fault Refusal :=
  .next (submit vGet nMemCfg procGetMemCfg m s)

def specSetMemCfg : CmdSpec := { verb := vSet, noun := nMemCfg, inst := .zero, form := .mask, modes := .notShutter }
def procSetMemCfg : Sentence → State → State :=
  process specSetMemCfg (setCheck nMemCfg) (setAct nMemCfg) (setEcho nMemCfg)
def execSetMemCfg (m : Sentence) (s : State) : Host.Outcome State Fault Refusal :=
  .next (submit vSet nMemCfg procSetMemCfg m s)

/-- Size of a region in bytes (R523, R524). -/
def regionSize (g : Nat) : Nat := [4194304, 5033165, 2097152, 3355443, 18874368].getD g 0x38000000

def specGetMemStatus : CmdSpec := { verb := vGet, noun := nMemStatus, inst := .region, form := .fixed [0], modes := .any }
def procGetMemStatus : Sentence → State → State :=
  process specGetMemStatus noCheck
    (getAct fun s g =>
      let x := s.regionAt g
      [Word.nat (regionSize g), Word.flag (x.step ≠ 0), Word.nat x.queue.length, Word.flag x.exhausted]) noEcho
def execGetMemStatus (m : Sentence) (s : State) : Host.Outcome State Fault Refusal :=
  .next (submit vGet nMemStatus procGetMemStatus m s)

/-- One of the 64 places of the echo table: valid (bit 0) and pinned (bit 1), region, address, syndrome, age. -/
def State.echoWords (s : State) (i : Nat) : List Word :=
  match s.mem.echo[i]? with
  | none => [0, 0, 0, 0, 0, 0]
  | some e => Word.nat (1 + if e.pinned then 2 else 0) :: Word.nat e.region :: Word.nat e.addr :: Word.nat e.syn ::
      words64 (s.since e.bcnt)

def specGetMemEcho : CmdSpec := { verb := vGet, noun := nMemEcho, inst := .zero, form := .fixed [0], modes := .any }
def procGetMemEcho : Sentence → State → State :=
  process specGetMemEcho noCheck (getAct fun s _ => (List.range 64).flatMap s.echoWords) noEcho
def execGetMemEcho (m : Sentence) (s : State) : Host.Outcome State Fault Refusal :=
  .next (submit vGet nMemEcho procGetMemEcho m s)

/-- An engine's spares in one word: free rows, used rows, free columns, used columns, 8 bits each (log entry 18). -/
def State.engineSpares (s : State) (e : Nat) : Word :=
  let rows := (s.regionAt 4).taken 4 e false
  let cols := (s.regionAt 4).taken 4 e true
  Word.nat (8 - rows + rows * 2 ^ 8 + (2 - cols) * 2 ^ 16 + cols * 2 ^ 24)

/-- Free and used spares, for region 4 those of each engine, and the repairs as far as the payload area holds them. -/
def State.spareWords (s : State) (g : Nat) : List Word :=
  let x := s.regionAt g
  [Word.nat (spareRows g - x.usedRows), Word.nat x.usedRows, Word.nat (spareCols g - x.usedCols), Word.nat x.usedCols] ++
    (if g = 4 then (List.range s.engines).map s.engineSpares else []) ++
    (x.repairs.take 120).flatMap fun r =>
      Word.nat r.row :: Word.nat (verdictNum r.verdict) :: words64 r.bcnt.toNat

def specGetMemSpares : CmdSpec := { verb := vGet, noun := nMemSpares, inst := .region, form := .fixed [0], modes := .any }
def procGetMemSpares : Sentence → State → State := process specGetMemSpares noCheck (getAct State.spareWords) noEcho
def execGetMemSpares (m : Sentence) (s : State) : Host.Outcome State Fault Refusal :=
  .next (submit vGet nMemSpares procGetMemSpares m s)

def specGetMemStats : CmdSpec := { verb := vGet, noun := nMemStats, inst := .region, form := .fixed [0], modes := .any }
def procGetMemStats : Sentence → State → State :=
  process specGetMemStats noCheck (getAct fun s g => (List.range 12).flatMap (s.statWords gMem g)) noEcho
def execGetMemStats (m : Sentence) (s : State) : Host.Outcome State Fault Refusal :=
  .next (submit vGet nMemStats procGetMemStats m s)

end Sys2Proof.Machine
end

