-- ==== Sys2Proof/Machine/Pilot.lean ====
section
/-! DEFINITION. The Louvre pilot channel (R320 to R349): packets, header and checks, the convolutional code, beacons, the transmit
queue, the receiver's states, the peer record and the PLT nouns. -/

namespace Sys2Proof.Machine

/-! Checks and coding. -/

/-- One byte of the CRC-8 of R329. -/
def crc8Step (crc : Nat) : Nat → Nat
  | 0 => crc
  | n + 1 => crc8Step (if 128 ≤ crc then (2 * crc ^^^ 0x07) % 256 else 2 * crc % 256) n

/-- R329: polynomial x^8 + x^2 + x + 1, initial value 0. -/
def crc8 (bs : List Byte) : Nat := bs.foldl (fun c b => crc8Step (c ^^^ b.toNat) 8) 0

/-- The eight shifts of a reflected 32-bit CRC. -/
def crcShift (poly crc : Nat) : Nat → Nat
  | 0 => crc
  | n + 1 => crcShift poly (if crc % 2 = 1 then crc / 2 ^^^ poly else crc / 2) n

/-- A reflected 32-bit CRC with initial value and final XOR 0xFFFFFFFF. -/
def crcReflected (poly : Nat) (bs : List Byte) : Nat :=
  (bs.foldl (fun c b => crcShift poly (c ^^^ b.toNat) 8) 0xFFFFFFFF) ^^^ 0xFFFFFFFF

/-- R330: the Ethernet frame check sequence. -/
def crc32 (bs : List Byte) : Nat := crcReflected 0xEDB88320 bs

/-- The bits of bytes, least significant first (R325). -/
def bitsOf (bs : List Byte) : List Bool := bs.flatMap fun b => (List.range 8).map fun i => b.getLsbD i

/-- XOR of the bits of the shift register that a generator selects. The window holds the current bit as bit 6 and the bit six
places back as bit 0 (R324). -/
def genBit (gen window : Nat) : Bool := ((List.range 7).filter fun i => gen.testBit i && window.testBit i).length % 2 == 1

/-- The encoder of R324 from a window: the 171 output, then the 133 output, for each input bit. -/
def convRun (window : Nat) : List Bool → List Bool
  | [] => []
  | b :: bs =>
    let w := window / 2 + b.toNat * 64
    genBit 0o171 w :: genBit 0o133 w :: convRun w bs

/-- The coded body of a packet: header, payload and CRC-32, then six zeros (R324, R325). -/
def codedBody (hdr payload : List Byte) : List Bool :=
  convRun 0 (bitsOf (hdr ++ payload ++ leBytes 4 (crc32 (hdr ++ payload))) ++ List.replicate 6 false)

/-- The sync word, most significant bit first (R322). -/
def syncBits : List Bool := (List.range 32).map fun i => (0x5E1B7A43 : Nat).testBit (31 - i)

/-- The channel bits of a packet from symbol 0 on; symbol 0 carries none and stands as 0 (R321, R322). -/
def packetBits (hdr payload : List Byte) : List Bool :=
  (false :: List.replicate 95 true) ++ syncBits ++ codedBody hdr payload ++ List.replicate 32 true

/-- The phases of a packet's symbols, in units of pi: d(n) = d(n-1) XOR b(n), d(0) = 0 (R321). -/
def phases (bits : List Bool) : List Bool := (bits.foldl (fun acc b => ((acc.1 != b), acc.2 ++ [acc.1 != b])) (false, [])).2

/-- The header of a packet (R328). -/
def header (type n seq : Nat) : List Byte :=
  let h : List Byte := [BitVec.ofNat 8 type, BitVec.ofNat 8 n, BitVec.ofNat 8 seq]
  h ++ [BitVec.ofNat 8 (crc8 h)]

/-- A header passes: HCRC, VERSION and LENGTH (R338). -/
def headerOk (h : List Byte) : Bool :=
  decide (h.length = 4) && decide (crc8 (h.take 3) = (h.getD 3 0).toNat) && decide ((h.getD 0 0).toNat < 64) &&
    decide ((h.getD 1 0).toNat ≤ 224)

def pltIdentity : Nat := 0x01

/-- USER types (R328). -/
def pltUser (t : Nat) : Bool := decide (0x10 ≤ t ∧ t ≤ 0x1F)

/-! Positions of the parameters (R345). -/
def pltTransmit : Nat := 0
def pltDepth : Nat := 1
def pltInterval : Nat := 2
def pltLabel : Nat := 3
def pltThreshold : Nat := 11
def pltTimeout : Nat := 12

/-! Packet ends. -/

def pltSent : Nat := 0
def pltTruncated : Nat := 1
def pltDiscarded : Nat := 2

/-- A USER packet ends: PLT_TX_DONE and the completion of its SEND (R344, R349). -/
def State.pltDone (s : State) (l : Nat) (p : PltPkt) (how : Nat) : State :=
  let s1 := s.raise evPltTxDone [Word.nat l, Word.nat p.seq, Word.nat how]
  match p.ticket with
  | none => s1
  | some t => s1.finishObj t (if how = pltSent then cDone else cStateRefused) (if how = pltSent then 0 else 2) (.line l)
      [Word.nat p.seq, Word.nat how]

/-- The packet on air has ended. -/
def State.airEnd (s : State) (l : Nat) : State :=
  s.modPlt l fun x => { x with air := none, airPhases := [], endedAt := some s.tku.bcnt }

/-- The packet on air is cut off and counted as truncated (R233, R344). -/
def State.pltTruncate (s : State) (l : Nat) : State :=
  match (s.lineAt l).plt.air with
  | none => s
  | some p =>
    let s1 := (s.airEnd l).bump gPlt l 3
    if p.type = pltIdentity then s1 else s1.pltDone l p pltTruncated

/-- The transmit queue is discarded (R344). -/
def State.pltDiscard (s : State) (l : Nat) : State :=
  let q := (s.lineAt l).plt.queue
  q.foldl (fun s p => s.pltDone l p pltDiscarded) (s.modPlt l fun x => { x with queue := [] })

/-- LOS aborts a reception (R339). -/
def State.pltAbort (s : State) (l : Nat) : State :=
  if (s.lineAt l).plt.rx = .idle then s else (s.modPlt l fun x => { x with rx := .idle }).bump gPlt l 11

/-! The peer record (R346). -/

def PeerState.num : PeerState → Nat
  | .unchecked => 0
  | .none => 1
  | .match_ => 2
  | .mismatch => 3
  | .lost => 4

/-- The peer state takes a value; a change raises PLT_PEER with the UID, LABEL, SLOT and LANE of the beacon. -/
def State.setPeer (s : State) (l : Nat) (p : PeerState) (beacon : List Byte) : State :=
  let old := (s.lineAt l).plt.peer
  if old = p then s
  else
    (s.modPlt l fun x => { x with peer := p }).raise evPltPeer
      ([Word.nat l, Word.nat old.num, Word.nat p.num] ++ words64 (leVal ((beacon.drop 4).take 8)) ++
        (List.range 8).map (fun i => Word.nat (leVal ((beacon.drop (24 + 4 * i)).take 4))) ++
        [Word.nat (leVal ((beacon.drop 13).take 1)), Word.nat (leVal ((beacon.drop 12).take 1))])

/-- An expectation is set. -/
def Plt.expects (x : Plt) : Bool := x.expUid.isSome || x.expLabel.isSome

/-- The state before any beacon. -/
def Plt.peer0 (x : Plt) : PeerState := if x.expects then .none else .unchecked

/-- A beacon carries every expected field. -/
def Plt.matches_ (x : Plt) (b : List Byte) : Bool :=
  (match x.expUid with
    | none => true
    | some u => decide (leVal ((b.drop 4).take 8) = u.toNat)) &&
  (match x.expLabel with
    | none => true
    | some t => decide ((b.drop 24).take 32 = t))

/-- A lane's port is configured or deleted: the record and the beacon count start afresh (R331, R346). -/
def State.pltConfigured (s : State) (l : Nat) : State :=
  let x := (s.lineAt l).plt
  (s.setPeer l x.peer0 []).modPlt l fun y => { y with beacons := 0, due := false, begun := decide ((s.lineAt l).ltx.state = .on), beacon := none, plqHeard := 0xFF }

/-! Beacons (R331, R332). -/

/-- The Device ID of PF0 (R473). -/
def vendorId : Nat := 0x1F2E
def deviceId (p : Part) : Nat :=
  match p with
  | .wx3208 => 0x3208
  | .wx3208n => 0x320A
  | .wx1604 => 0x1604

/-- The words of a row as bytes. -/
def wordBytesOf (ws : List Word) : List Byte := ws.flatMap fun w => leBytes 4 w.toNat

/-- The payload of a beacon (R331). -/
def State.beaconPayload (s : State) (l : Nat) : List Byte :=
  let x := s.lineAt l
  let p := (s.portOf l).getD l
  let c := s.lineCfg l
  let up := (s.portAt p).state = .up
  [0x01, BitVec.ofNat 8 ((x.lrx.power ≠ .off && !x.lrx.los : Bool).toNat + (x.state = .up : Bool).toNat * 2 + (up : Bool).toNat * 4 +
      (x.plt.peer = .match_ : Bool).toNat * 8)] ++
    leBytes 2 (deviceId s.fuses.part) ++ leBytes 8 s.fuses.uid.toNat ++
    [BitVec.ofNat 8 l, BitVec.ofNat 8 p,
     BitVec.ofNat 8 (match c with | none => 0 | some c => c.type + 1 + c.half.toNat * 8), BitVec.ofNat 8 (l - p)] ++
    leBytes 4 x.plt.beacons ++ [BitVec.ofNat 8 x.plt.plqHeard, 0, 0, 0] ++
    wordBytesOf ((List.range 8).map fun i => s.param nPltCfg l (pltLabel + i))

/-- R332: a beacon falls due, once the transmitter has been ON; one that is still due is missed. -/
def execBeaconIntervalExpiry (l : Nat) (s : State) : Host.Outcome State Fault Refusal :=
  .next (
    if l < s.lines ∧ (s.portOf l).isSome ∧ s.unitOn fPilot ∧ s.parN nPltCfg l pltTransmit = 0 ∧
        s.param nPltCfg l pltInterval ≠ offWord ∧ (s.lineAt l).plt.begun then
      if (s.lineAt l).plt.due then s.bump gPlt l 2 else s.modPlt l fun x => { x with due := true }
    else s)

/-! Transmission (R322, R333, R344). -/

/-- The 256 us of R327 in BCNT ticks. -/
def pltGap : Nat := 160000

/-- The pilot transmitter of a lane may start a packet (R327, R333, R335). -/
def State.pltCanSend (s : State) (l : Nat) : Bool :=
  decide (l < s.lines) && s.unitOn fPilot && s.parN nPltCfg l pltTransmit == 0 && (s.lineAt l).ltx.state = .on && s.dev.refclk &&
    (s.lineAt l).plt.air.isNone &&
    (match (s.lineAt l).plt.endedAt with | none => true | some b => decide (pltGap ≤ s.since b))

/-- A packet goes on air: symbol 0 falls on the next DAC sample whose index is a multiple of 18,000 (R320), its phases and depth are fixed
(R321, R345). -/
def State.airStart (s : State) (l : Nat) (p : PltPkt) : State :=
  s.modPlt l fun y => { y with
    air := some p, airPhases := phases (packetBits (header p.type p.payload.length p.seq) p.payload)
    airAt := -(((18000 - (s.lineAt l).ltx.index % 18000) % 18000 : Nat) : Int), depth := s.parN nPltCfg l pltDepth }

/-- A packet starts: the beacon that is due, else the oldest USER packet. A beacon takes its SEQ now (R328). -/
def execPilotPacketStart (l : Nat) (s : State) : Host.Outcome State Fault Refusal :=
  .next (
    if s.pltCanSend l then
      let x := (s.lineAt l).plt
      if x.due then
        (s.modPlt l fun y => { y with due := false, seq := (y.seq + 1) % 256 }).airStart l
          { type := pltIdentity, seq := x.seq, payload := s.beaconPayload l }
      else
        match x.queue with
        | [] => s
        | p :: rest => (s.modPlt l fun y => { y with queue := rest }).airStart l p
    else s)

/-- R322: the postamble of the packet on air ends. -/
def execPilotPacketEnd (l : Nat) (s : State) : Host.Outcome State Fault Refusal :=
  .next (
    match (s.lineAt l).plt.air with
    | none => s
    | some p =>
      let s1 := (s.airEnd l).bump gPlt l 0
      if p.type = pltIdentity then (s1.modPlt l fun x => { x with beacons := x.beacons + 1 }).bump gPlt l 1
      else s1.pltDone l p pltSent)

/-! Reception (R337 to R343). -/

/-- The envelope tap delivers valid samples (R113, R333). -/
def State.pltHears (s : State) (l : Nat) : Bool :=
  decide (l < s.lines) && (s.lineAt l).lrx.power ≠ .off && !(s.lineAt l).lrx.los

/-- A sync detection begins the reception of a packet. -/
def State.pltBegin (s : State) (l : Nat) (m : Int) : State :=
  s.modPlt l fun x => { x with rx := .header, m := m, hdr := [], syncAt := s.tku.bcnt }

/-- R337, R339: `m` in 0.1 dB, `diff` differing bits of the sync word, `preamble` symbols within R326 before it. -/
def execSyncDetection (l : Nat) (m : Int) (diff preamble : Nat) (s : State) : Host.Outcome State Fault Refusal :=
  .next (
    if s.pltHears l ∧ diff ≤ s.parN nPltCfg l pltThreshold ∧ 24 ≤ preamble then
      let s1 := s.bump gPlt l 4
      match (s.lineAt l).plt.rx with
      | .idle => s1.pltBegin l m
      | .header => (s1.bump gPlt l 7).pltBegin l m
      | .body =>
        if (s.lineAt l).plt.m + 60 ≤ m then (s1.bump gPlt l 8).pltBegin l m else s1.bump gPlt l 9
    else s)

/-- R338, R339. -/
def execHeaderDecoded (l : Nat) (hdr : List Byte) (s : State) : Host.Outcome State Fault Refusal :=
  .next (
    if s.pltHears l ∧ (s.lineAt l).plt.rx = .header then
      if headerOk hdr then (s.modPlt l fun x => { x with rx := .body, hdr := hdr }).bump gPlt l 5
      else (s.modPlt l fun x => { x with rx := .idle }).bump gPlt l 6
    else s)

/-- PLQ in steps of 0.25 dB, from 0.1 dB (R331). -/
def plqQuarter (plq : Int) : Nat := min 0xFE (plq * 2 / 5).toNat

/-- A beacon is delivered to the peer record (R343, R346). -/
def State.takeBeacon (s : State) (l : Nat) (b : List Byte) (plq : Int) : State :=
  let s1 := s.modPlt l fun x => { x with beacon := some b, beaconPlq := plq, beaconAt := s.tku.bcnt }
  let x := (s1.lineAt l).plt
  s1.setPeer l (if x.expects then (if x.matches_ b then .match_ else .mismatch) else .unchecked) b

/-- A USER packet is delivered to the receive queue of 16 (R343, R349). -/
def State.takeUser (s : State) (l : Nat) (p : PltRx) : State :=
  let q := (s.lineAt l).plt.rxq
  if 16 ≤ q.length then s.bump gPlt l 14
  else
    let s1 := (s.modPlt l fun x => { x with rxq := x.rxq ++ [p], plqHeard := plqQuarter p.plq }).bump gPlt l 13
    if q.isEmpty then s1.raise evPltRx [Word.nat l, 1] else s1

/-- The packet of header `hdr` and body `body` has passed its CRC-32 (R330): `body` is the payload and the four bytes of the
CRC. -/
def bodyOk (hdr body : List Byte) : Bool :=
  let n := body.length - 4
  decide (leVal (body.drop n) = crc32 (hdr ++ body.take n))

/-- R339 to R343: the last coded symbol is decoded. Nothing is delivered while FEAT_PILOT is not accepted (R335). -/
def execBodyDecoded (l : Nat) (body : List Byte) (plq subOff rateOff : Int) (s : State) : Host.Outcome State Fault Refusal :=
  .next (
    let x := (s.lineAt l).plt
    let n := (x.hdr.getD 1 0).toNat
    if s.pltHears l ∧ x.rx = .body ∧ body.length = n + 4 then
      let s1 := s.modPlt l fun y => { y with rx := .idle }
      if bodyOk x.hdr body then
        let t := (x.hdr.getD 0 0).toNat
        let payload := body.take n
        if !s.unitOn fPilot then s1
        else if t = pltIdentity ∧ n = 56 ∧ payload.getD 0 0 = 0x01 then
          (((s1.modPlt l fun y => { y with plqHeard := plqQuarter plq }).bump gPlt l 13).takeBeacon l payload plq)
        else if pltUser t ∧ s.accepts fPltUser then
          s1.takeUser l { type := t, seq := (x.hdr.getD 2 0).toNat, payload := payload, plq := plq, m := x.m,
                          sub := subOff, rate := rateOff, bcnt := x.syncAt }
        else s1.bump gPlt l 12
      else s1.bump gPlt l 10
    else s)

/-- R346: no beacon within the peer timeout; NONE stays NONE. -/
def execPeerTimeout (l : Nat) (s : State) : Host.Outcome State Fault Refusal :=
  .next (
    let x := (s.lineAt l).plt
    if l < s.lines ∧ (x.peer = .match_ ∨ x.peer = .mismatch) then s.setPeer l .lost (x.beacon.getD []) else s)

/-! The PLT nouns (R347). -/

def specGetPltCfg : CmdSpec :=
  { verb := vGet, noun := nPltCfg, unit := some fPilot, inst := .line, form := .fixed [0], modes := .any }
def procGetPltCfg : Sentence → State → State := process specGetPltCfg noCheck (getAct fun s l => s.paramSet nPltCfg l) noEcho
def execGetPltCfg (m : Sentence) (s : State) : Host.Outcome State Fault Refusal :=
  .next (submit vGet nPltCfg procGetPltCfg m s)

/-- The largest of the absolute values of a list. -/
def maxAbs (xs : List Int) : Nat := (xs.map Int.natAbs).foldl max 0

/-- The bound of R226 holds: the worst case of level values, taps and table, at a depth in steps of 0.5 %. -/
def driveOk (levels taps table : List Int) (depth : Nat) : Bool :=
  let worst := max (levels.getD 0 0).natAbs (levels.getD 3 0).natAbs * (taps.map Int.natAbs).sum + 64 * maxAbs table
  decide (worst * (200 + depth) ≤ 127 * 200 * 64)

/-- The elements `from .. from + n - 1` of LTX_CFG as a SET leaves them. -/
def ltxValues (s : State) (l first n : Nat) (cs : List ParamChange) : List Int :=
  (List.range n).map fun i => (changed s nLtxCfg l (first + i) cs).toInt

/-- R226: a depth that breaks the bound under the present settings is RESOURCE. -/
def checkPltCfg (s : State) (m : Sentence) (ws : List Word) : Option Refuse :=
  let l := m.inst.toNat
  let cs := maskChanges nPltCfg m ws
  (maskRange nPltCfg m ws).or
    (if (maskSelected nPltCfg ws).contains 1 ∧
        !driveOk (ltxValues s l ltxLevels 4 []) (ltxValues s l ltxTaps 9 []) (ltxValues s l ltxTable 64 [])
          (changed s nPltCfg l pltDepth cs).toNat then some { code := cResource, detail := 1 } else none)

def specSetPltCfg : CmdSpec :=
  { verb := vSet, noun := nPltCfg, unit := some fPilot, inst := .line, form := .mask, modes := .notShutter }
def procSetPltCfg : Sentence → State → State := process specSetPltCfg checkPltCfg (setAct nPltCfg) (setEcho nPltCfg)
def execSetPltCfg (m : Sentence) (s : State) : Host.Outcome State Fault Refusal :=
  .next (submit vSet nPltCfg procSetPltCfg m s)

/-- The first `n` bytes of words. -/
def bytesOfWords (n : Nat) (ws : List Word) : List Byte := (wordBytesOf ws).take n

/-- Bytes as words, the last one filled with zeros. -/
def wordsOfBytes (bs : List Byte) : List Word :=
  (List.range ((bs.length + 3) / 4)).map fun i => Word.nat (leVal ((bs.drop (4 * i)).take 4))

/-- The payload of SEND: TYPE as one word, then N bytes (R347). -/
def checkSend (s : State) (m : Sentence) (ws : List Word) : Option Refuse :=
  if !pltUser (ws.getD 0 0).toNat then some { code := cResource, detail := 1 }
  else if 4 ≤ (s.lineAt m.inst.toNat).plt.queue.length then some { code := cResource, detail := 5 }
  else none

/-- R344: the packet joins the queue with its SEQ. -/
def actSend (s : State) (m : Sentence) (ws : List Word) : State × Reply :=
  let l := m.inst.toNat
  let q := (s.lineAt l).plt.seq
  (s.modPlt l fun x => { x with
    seq := (x.seq + 1) % 256
    queue := x.queue ++ [{ type := (ws.getD 0 0).toNat, seq := x.seq,
                           payload := bytesOfWords (m.len.toNat - 4) (ws.drop 1), ticket := some (ticketOf m) }] },
   .accepted [Word.nat q])

def specSendPltPacket : CmdSpec :=
  { verb := vSend, noun := nPltPacket, unit := some fPilot, feats := [fPltUser], inst := .line, form := .range 4 228,
    modes := .stop }
def procSendPltPacket : Sentence → State → State := process specSendPltPacket checkSend actSend noEcho
def execSendPltPacket (m : Sentence) (s : State) : Host.Outcome State Fault Refusal :=
  .next (submit vSend nPltPacket procSendPltPacket m s)

/-- R347: the oldest packet leaves the receive queue; its words are TYPE, SEQ, PLQ, M, the offsets, BCNT, length, bytes. -/
def actReceive (s : State) (m : Sentence) (_ : List Word) : State × Reply :=
  let l := m.inst.toNat
  match (s.lineAt l).plt.rxq with
  | [] => (s, okDone)
  | p :: rest =>
    (s.modPlt l fun x => { x with rxq := rest },
     .done ([Word.nat p.type, Word.nat p.seq, Word.int p.plq, Word.int p.m, Word.int p.sub, Word.int p.rate] ++
       words64 p.bcnt.toNat ++ [Word.nat p.payload.length] ++ wordsOfBytes p.payload) (36 + p.payload.length))

def specReceivePltPacket : CmdSpec :=
  { verb := vReceive, noun := nPltPacket, unit := some fPilot, inst := .line, form := .fixed [0], modes := .notShutter }
def procReceivePltPacket : Sentence → State → State := process specReceivePltPacket noCheck actReceive noEcho
def execReceivePltPacket (m : Sentence) (s : State) : Host.Outcome State Fault Refusal :=
  .next (submit vReceive nPltPacket procReceivePltPacket m s)

/-- The expectation as SET gives it: mask, UID, label. -/
def Plt.expectWords (x : Plt) : List Word :=
  [Word.nat (x.expUid.isSome.toNat + x.expLabel.isSome.toNat * 2)] ++ words64 (x.expUid.getD 0).toNat ++
    padTo' 8 (wordsOfBytes (x.expLabel.getD []))
where
  padTo' (n : Nat) (ws : List Word) : List Word := ws ++ List.replicate (n - ws.length) 0

/-- Peer state, expected fields, a beacon has been recorded, the beacon's 14 words, its PLQ, ticks since it. -/
def State.peerWords (s : State) (l : Nat) : List Word :=
  let x := (s.lineAt l).plt
  let b := wordsOfBytes (x.beacon.getD [])
  [Word.nat x.peer.num] ++ x.expectWords ++ [Word.flag x.beacon.isSome] ++ b ++ List.replicate (14 - b.length) 0 ++
    [Word.int x.beaconPlq] ++ words64 (if x.beacon.isSome then s.since x.beaconAt else 0)

def specGetPltPeer : CmdSpec :=
  { verb := vGet, noun := nPltPeer, unit := some fPilot, inst := .line, form := .fixed [0], modes := .any }
def procGetPltPeer : Sentence → State → State := process specGetPltPeer noCheck (getAct State.peerWords) noEcho
def execGetPltPeer (m : Sentence) (s : State) : Host.Outcome State Fault Refusal :=
  .next (submit vGet nPltPeer procGetPltPeer m s)

/-- A mask bit beyond UID and label. -/
def checkPeer (_ : State) (_ : Sentence) (ws : List Word) : Option Refuse :=
  if 4 ≤ (ws.getD 0 0).toNat then some { code := cBadLength, detail := 3 } else none

/-- R346: the state becomes NONE, or UNCHECKED when the expectation is cleared. -/
def actPeer (s : State) (m : Sentence) (ws : List Word) : State × Reply :=
  let l := m.inst.toNat
  let k := (ws.getD 0 0).toNat
  let s1 := s.modPlt l fun x => { x with
    expUid := if k.testBit 0 then some (BitVec.ofNat 64 ((ws.getD 1 0).toNat + (ws.getD 2 0).toNat * 2 ^ 32)) else none
    expLabel := if k.testBit 1 then some (wordBytesOf ((ws.drop 3).take 8)) else none }
  (s1.setPeer l (s1.lineAt l).plt.peer0 [], okDone)

def specSetPltPeer : CmdSpec :=
  { verb := vSet, noun := nPltPeer, unit := some fPilot, inst := .line, form := .fixed [44], modes := .notShutter }
def procSetPltPeer : Sentence → State → State :=
  process specSetPltPeer checkPeer actPeer (fun s l => (s.lineAt l).plt.expectWords)
def execSetPltPeer (m : Sentence) (s : State) : Host.Outcome State Fault Refusal :=
  .next (submit vSet nPltPeer procSetPltPeer m s)

/-- What is on air (0 nothing, 1 a beacon, 2 a USER packet), the receiver's state, queue depths, counters of R348. -/
def State.pltStatus (s : State) (l : Nat) : List Word :=
  let x := (s.lineAt l).plt
  [Word.nat (match x.air with | none => 0 | some p => if p.type = pltIdentity then 1 else 2),
   Word.nat (match x.rx with | .idle => 0 | .header => 1 | .body => 2), Word.nat x.queue.length, Word.nat x.rxq.length] ++
    (List.range 15).flatMap (s.statWords gPlt l)

def specGetPltStatus : CmdSpec :=
  { verb := vGet, noun := nPltStatus, unit := some fPilot, inst := .line, form := .fixed [0], modes := .any }
def procGetPltStatus : Sentence → State → State := process specGetPltStatus noCheck (getAct State.pltStatus) noEcho
def execGetPltStatus (m : Sentence) (s : State) : Host.Outcome State Fault Refusal :=
  .next (submit vGet nPltStatus procGetPltStatus m s)

end Sys2Proof.Machine
end

