-- ==== Sys2Proof/Machine/LineReceive.lean ====
section
/-! DEFINITION. The line receivers (R64 to R123): loss of signal, acquisition, estimate periods and the channel estimate, loss
of lock, the background estimator and slice substitution, sample capture, and the LRX nouns. -/

namespace Sys2Proof.Machine

/-! Loss of signal (R76 to R79, R744). -/

/-- R222: an SDF_LOCK_LOST of the lane that was raised at this moment for a window expiry names LOS. -/
def State.nameLos (s : State) (l : Nat) : State :=
  { s with ev := { s.ev with raised := s.ev.raised.map fun e =>
      if e.code = evSdfLockLost ∧ e.bcnt = s.tku.bcnt ∧ e.data.headD 0 = Word.nat l ∧ (e.data.getD 1 0).toNat < 4 then
        { e with data := [Word.nat l, Word.nat lostLos] }
      else e } }

/-- R78: a lane in ACQUIRE or UP enters FAULT; a reacquisition ends. -/
def execLosAssert (l : Nat) (s : State) : Host.Outcome State Fault Refusal :=
  .next (
    let x := s.lineAt l
    if l < s.lines ∧ x.lrx.power ≠ .off ∧ !x.lrx.los then
      let s1 := (s.modLrx l fun y => { y with
        los := true, losSince := s.tku.bcnt, losFirst := false, disturbed := true }).bump gLrx l 2
      let s2 := ((s1.raise evLrxLosAssert [Word.nat l, Word.nat x.state.num]).nameLos l).pltAbort l
      (match x.state with
        | .acquire | .up =>
          ((s2.modLrx l fun y => { y with frozen := true, freqHeld := true }).lockEnd l lostLos).lineFault l evLrxLosAssert
        | .fault => (s2.modLrx l fun y => { y with frozen := true, freqHeld := true, step := 0 }).lockEnd l lostLos
        | _ => s2.lockEnd l lostLos).follow
    else s)

/-- 100 ms in BCNT ticks. -/
def losWarmTicks : Nat := 62500000

/-- R79, R744: the clear starts a warm acquisition after at most 100 ms, else a cold one; an acquisition that waited for light
begins its time now (R102). -/
def execLosClear (l : Nat) (s : State) : Host.Outcome State Fault Refusal :=
  .next (
    let x := s.lineAt l
    if l < s.lines ∧ x.lrx.power ≠ .off ∧ x.lrx.los then
      let t := s.since x.lrx.losSince
      let cold := x.lrx.losFirst || decide (losWarmTicks < t)
      let s1 := (s.modLrx l fun y => { y with los := false, losFirst := false }).raise evLrxLosClear
        (Word.nat l :: field32 t ++ [Word.flag cold])
      (match x.state with
        | .acquire => s1.modLrx l fun y => { y with since := s.tku.bcnt }
        | .fault => if x.stuck then s1 else s1.acquire l cold
        | _ => s1).follow
    else s)

/-! FFE adaptation (R98, R100). -/

/-- FFE adaptation runs: RUN is set (R100), the receiver is not frozen (R78), and no lane waits in FAULT for its reacquisition
(R72). -/
def State.ffeRuns (s : State) (l : Nat) : Bool :=
  let x := s.lineAt l
  x.lrx.power = .full && s.parN nLrxCfg l 10 == 0 && !x.lrx.frozen && !(x.state = .fault && x.lrx.step == 0)

/-- The exponent of the FFE adaptation step 2^-k (R69). -/
def State.ffeStep (s : State) (l : Nat) : Nat := (-(s.parI nLrxCfg l 9)).toNat

/-- LMS updates of the FFE (R98). -/
def State.adaptFfe (s : State) (l : Nat) (ups : List (Int × List Int)) : State :=
  if s.ffeRuns l then s.modLrx l fun x => { x with taps := ups.foldl (ffeLms (s.ffeStep l)) x.taps } else s

/-! Acquisition (R102, R103). -/

/-- A lane's acquisition is in a step and may end it. -/
def State.inStep (s : State) (l n : Nat) : Bool :=
  let x := s.lineAt l
  decide (l < s.lines) && (x.state = .acquire || x.state = .fault) && !x.stuck && x.lrx.step == n && !x.lrx.los &&
    decide (x.lrx.power = .full)

def State.toStep (s : State) (l n : Nat) : State := s.modLrx l fun x => { x with step := n }

def execReceiverPowerSettled (l : Nat) (s : State) : Host.Outcome State Fault Refusal :=
  .next (if s.inStep l 1 then s.toStep l 2 else s)

/-- The VGA gain setting: AUTO, or a gain (R69). -/
def State.vgaAuto (s : State) (l : Nat) : Bool := s.parI nLrxCfg l 0 = autoInt

/-- R74: the AGC's updates of a span of time move the VGA, unless its gain is set or the receiver is frozen (R78). An AGC of
loop bandwidth b kHz takes at most 10 b updates in a period of 10 ms (DESIGN CHOICE, log entry 125). -/
def State.agcRun (s : State) (l : Nat) (rms : List Nat) : State :=
  if s.vgaAuto l ∧ !(s.lineAt l).lrx.frozen then
    s.modLrx l fun x => { x with
      gain := (rms.take (10 * s.parN nLrxCfg l 2)).foldl (agcStep (s.parN nLrxCfg l 1)) x.gain }
  else s

/-- Step 2: the AGC settles to the target within 0.5 dB; `rms` are the RMS codes of its updates, the last one after the last
move. A gain that is set needs no settling. A warm acquisition skips step 3. -/
def execAgcSettled (l : Nat) (s : State) (rms : List Nat := []) : Host.Outcome State Fault Refusal :=
  .next (
    if s.inStep l 2 ∧ (!s.vgaAuto l ∨ agcNear (s.parN nLrxCfg l 1) (rms.getLastD 0)) then
      (s.agcRun l rms).toStep l (if (s.lineAt l).lrx.cold then 3 else 4)
    else s)

def execSliceCorrectionConverged (l : Nat) (s : State) : Host.Outcome State Fault Refusal :=
  .next (if s.inStep l 3 then s.toStep l 4 else s)

/-- Step 6 starts, and with it an estimate period: a warm acquisition marks it DISTURBED (R106). The lane has relocked, and its blocks
flow again after an overflow (R52). -/
def State.toSix (s : State) (l : Nat) : State :=
  ((s.toStep l 6).modLrx l fun x => { x with disturbed := !x.cold }).modSea l fun x => { x with discard := false }

/-- Timing recovery captures within 200 ppm, in steps of 0.1 ppm (R97, R105). A warm acquisition skips step 5. -/
def execTimingRecoveryLocked (l : Nat) (freq : Int) (s : State) : Host.Outcome State Fault Refusal :=
  .next (
    if s.inStep l 4 ∧ freq.natAbs ≤ 2000 then
      let s1 := s.modLrx l fun x => { x with freq := freq }
      if (s.lineAt l).lrx.cold then s1.toStep l 5 else s1.toSix l
    else s)

/-- Step 5: the FFE has adapted from the preset; `ups` are its updates (R98). -/
def execFfeConverged (l : Nat) (s : State) (ups : List (Int × List Int) := []) : Host.Outcome State Fault Refusal :=
  .next (if s.inStep l 5 then (s.adaptFfe l ups).toSix l else s)

/-- R103: a retry runs the cold steps from step 2; under AUTO with the next preset. -/
def execAcquisitionTimeout (l : Nat) (s : State) : Host.Outcome State Fault Refusal :=
  .next (
    let x := (s.lineAt l).lrx
    if [1, 2, 3, 4, 5, 6].any (s.inStep l) then
      let idx := if x.presetSet = autoInt then (x.preset + 1) % 4 else x.presetSet.toNat
      let s0 := s.modLrx l fun y => { y with
        step := 2, cold := true, freqHeld := false, retries := y.retries + 1, consec := y.consec + 1 }
      let s1 := ((s0.resetTable l).loadPreset l idx).bump gLrx l 1
      if (x.consec + 1) % 4 = 0 then
        s1.raise evLrxAcqRetry [Word.nat l, Word.nat (x.retries + 1), Word.nat x.preset]
      else s1
    else s)

/-! The channel estimate (R107 to R111), in fixed point with 10^30 for 1. -/

def one30 : Nat := 10 ^ 30

/-- 10 ^ (-2^j / 2000). -/
def powTable : List Nat :=
  [998849369936505149515382057465, 997700063822553317194421942854, 995405417351526962448061470895,
   990831944892767574408283143884, 981747943019984399379281616229, 963829023623970534965799783319,
   928966386779936351583087515646, 862978547766970304288633088783, 744731973905989047162548350808,
   554625712957910751040325523589, 307609681474070809573983575424, 94623716136579302233672799561,
   8953647655495938230728347044, 80167806338767911378417382, 6426877173170196511584, 41304750199016]

/-- 10 ^ (-n / 2000) for a natural number. -/
def powNeg (n : Nat) : Nat :=
  if 65536 ≤ n then 0
  else (powTable.zipIdx).foldl (fun a p => if n.testBit p.2 then a * p.1 / one30 else a) one30

/-- 10 ^ (-n / 2000). -/
def powInt (n : Int) : Nat := if 0 ≤ n then powNeg n.toNat else one30 * one30 / max 1 (powNeg (-n).toNat)

/-- The linear ratio of a component in 0.1 dB. -/
def linOf (x : Int) : Nat := powInt (-20 * x)

/-- The smallest number above `lo` and at most `hi` for which `p` holds, given that `p` rises. -/
def bisect (p : Int → Bool) : Nat → Int → Int → Int
  | 0, _, hi => hi
  | n + 1, lo, hi =>
    let mid := (lo + hi) / 2
    if hi ≤ lo + 1 then hi else if p mid then bisect p n lo mid else bisect p n mid hi

/-- -10 log10 of a ratio in 0.01 dB, to the nearest; none for a ratio without a logarithm here. -/
def dbOf (total : Nat) : Option Int :=
  if total = 0 then none else some (bisect (fun v => decide (powInt (2 * v + 1) < total)) 17 (-30000) 30000)

/-- The echoes that the list holds (R107): at most 4, each stronger than the threshold. -/
def echoList (thr : Int) (es : List (Nat × Int)) : List (Nat × Int) :=
  (es.filter fun e => decide (33 ≤ e.1 ∧ e.1 ≤ 4095 ∧ 10 * thr < e.2)).take 4

/-- D_echo in 0.1 dB: the sum of the echoes of the list; none for an empty list. -/
def echoSum (es : List (Nat × Int)) : Option Int :=
  let t := (es.map fun e => linOf e.2).sum
  if t = 0 then none
  else some (-(bisect (fun v => decide (powInt (20 * v + 10) < t)) 13 (-3000) 3000))

/-- The remaining error of tiers 0 to 4 (R108). -/
def tierErrors (e : Estimate) (dEcho : Option Int) : List Nat :=
  let n := linOf e.n
  let l := linOf e.dLin
  let q := linOf e.dNl2
  let c := match dEcho with | none => 0 | some x => linOf x
  let t := linOf e.dNl3
  [n + l + q + c + t, n + q + c + t, n + c + t, n + t, n + t * 3 / 10]

/-- A tier meets a level: no predicted SNR is stated for a remaining error of zero, which meets any. -/
def meets (lvl : Int) : Option Int → Bool
  | none => true
  | some v => decide (lvl ≤ v)

/-- Tiers that may be recommended: tier 3 only with an echo list (R110). -/
def tierAllowed (echoes : Nat) (t : Nat) : Bool := decide (t ≠ 3 ∨ 0 < echoes)

/-- The runs of R109 after one estimate: `hit` says which tiers exceed the target by more than 1.0 dB. -/
def nextRuns (runs : List Nat) (disturbed : Bool) (hit : Nat → Bool) : List Nat :=
  (List.range 4).map fun t => if disturbed || !hit t then 0 else min (runs.getD t 0 + 1) 10

/-- The recommendation of R109 and R110. `runs` are the runs with this estimate counted. Where tier 3 is current and the echo list
empties, R110 rules tier 3 out and R109 a fall without its ten estimates: the recommendation goes to tier 4 until they have come
(DEDUCED, log entry 132). -/
def recommend (cur target echoes : Nat) (snr : List (Option Int)) (runs : List Nat) : Nat :=
  let ok (t : Nat) : Bool := tierAllowed echoes t && meets target (snr.getD t none)
  if !meets target (snr.getD cur none) then ((List.range 5).find? ok).getD 4
  else
    ((List.range cur).find? fun t => tierAllowed echoes t && decide (10 ≤ runs.getD t 0)).getD
      (if tierAllowed echoes cur then cur else 4)

/-- LRX_CLIP: more than 1 in 10^4 codes of a 10 ms period (R64, R75). -/
def clipLimit (half : Bool) : Nat := if half then 112500 else 225000

/-- The word of a logarithm, or the free value. -/
def State.logWord (s : State) (v : Option Int) : Word := match v with | some x => Word.int x | none => s.freeVal

/-- A figure, or the free value `i` where the spec states none (R105: a level without samples, a ratio without a denominator). -/
def State.figure (s : State) (i : Nat) (v : Option Int) : Int := match v with | some x => x | none => (s.freeAt i).toInt

/-- The figures of R105: four means, four deviations, SNR, level separation ratio, clip count, VGA gain, frequency offset. SNR and ratio
follow from the means and deviations as published (DEDUCED, log entry 127). -/
def State.figures (s : State) (l : Nat) (q : Quality) : List Int :=
  let mu := (List.range 4).map fun k => s.figure k (levelMean q.hist k)
  let sigma := (List.range 4).map fun k => s.figure (4 + k) ((levelDev q.hist k).map Int.ofNat)
  let p := snrSums mu sigma
  let snr := if p.1 = 0 then none else dbOf (16 * p.2 * one30 / p.1)
  mu ++ sigma ++ [s.figure 8 snr, s.figure 9 (levelSeparation mu), q.clips, (s.lineAt l).lrx.gain, q.freq]

/-- Publishes a period's figures (R105, R106). -/
def State.publish (s : State) (l : Nat) (q : Quality) (dis : Bool) : State :=
  let ws := (s.figures l q).map Word.int
  let s1 := (s.freeSkip 10).modLrx l fun x => { x with
    q := ws, qDisturbed := dis, disturbed := false, periods := x.periods + 1, freq := q.freq, snr := (ws.getD 8 0).toNat }
  let s2 := ((s1.bumpBy gLrx l 4 q.clips).setFigure gLrx l 7 (ws.getD 8 0)).setFigure gLrx l 8 (Word.int q.freq)
  if clipLimit (s.half l) < q.clips then s2.raise evLrxClip [Word.nat l, Word.nat q.clips] else s2

/-- Takes the channel estimate (R107 to R111): the fields, the recommendation, LRX_DEMAND. The predicted SNRs are compared as they are
published, to the nearest 0.01 dB (DESIGN CHOICE, log entry 132). -/
def State.takeEstimate (s : State) (l : Nat) (e : Estimate) (dis : Bool) : State :=
  let es := echoList (s.parI nLrxCfg l 15) e.echoes
  let dEcho := echoSum es
  let target := 10 * s.parN nLrxCfg l 13
  let snr := (tierErrors e dEcho).map dbOf
  let x := (s.lineAt l).lrx
  let runs := nextRuns x.lowRuns dis fun t => meets (target + 100) (snr.getD t none)
  let rec_ := recommend x.recTier target es.length snr runs
  let short := !meets target (snr.getD 4 none)
  let pad := (es.map fun e => [Word.nat e.1, Word.int e.2]).flatten ++ List.replicate (2 * (4 - es.length)) 0
  let ws := [Word.int e.n, Word.int e.dLin, Word.int e.dNl2, s.logWord dEcho, Word.int e.dNl3] ++ pad ++
    snr.map s.logWord ++ [Word.nat rec_, Word.flag short, Word.flag dis]
  let win := (es.map Prod.fst).filter fun d => decide (s.parN nSeaKparam l 4 ≤ d ∧ d ≤ s.parN nSeaKparam l 5)
  let s0 := if dis then s.freeNext else s.freeNext.modSea l fun y => { y with delays := if 3 ≤ y.tier then win else y.delays }
  let s1 := s0.modLrx l fun x => { x with
    est := ws, echoes := es.length, estDisturbed := dis, recTier := rec_, shortfall := short, lowRuns := runs }
  if rec_ ≠ x.recTier ∨ short ≠ x.shortfall then
    s1.raise evLrxDemand [Word.nat l, Word.nat x.recTier, Word.nat rec_, Word.flag short]
  else s1

/-- The Hinge takes the recommendation: the first estimate after START places the lane (R149); no change that a DISTURBED
estimate carries is acted on (R111). -/
def State.hingeTakes (s : State) (l : Nat) (dis : Bool) : State :=
  let x := s.lineAt l
  if !s.startedLanes.contains l then s
  else if !x.sea.hasEst then
    (s.modSea l fun y => { y with hasEst := true, demand := if dis then 0 else x.lrx.recTier }).replanFor [l]
  else if !dis ∧ x.lrx.recTier ≠ x.sea.demand then
    (s.modSea l fun y => { y with demand := x.lrx.recTier }).replanFor [l]
  else s

/-- R105: an estimate period ends in UP, in TEST, or in step 6 of an acquisition and after it. `rms` are the RMS ADC codes of the AGC
updates in it, in 1/16 LSB (R74). -/
def execEstimatePeriodEnd (l : Nat) (q : Quality) (e : Estimate) (rms : List Nat) (s : State) : Host.Outcome State Fault Refusal :=
  .next (
    let x := s.lineAt l
    let six := s.inStep l 6
    if l < s.lines ∧ (x.lrx.power = .full) ∧ (x.state = .up ∨ x.state = .test ∨ six ∨ s.inStep l 7) then
      let dis := x.lrx.disturbed || x.lrx.los
      let s1 := ((((s.agcRun l rms).publish l q dis).takeEstimate l e dis).hingeTakes l dis)
      if six then
        let s2 := (s1.toStep l 7).modLrx l fun y => { y with consec := 0 }
        let s3 := s2.raise evLrxAcqDone (Word.nat l :: field32 (s.since x.lrx.since) ++ [Word.nat x.lrx.retries])
        (s3.lineTryUp l).follow
      else s1.follow
    else s)

/-! Loss of lock (R80). -/

/-- FAULT, LRX_LOCK_LOST and a warm acquisition. Conditions: 0 SNR, 1 frequency (log entry 10). -/
def State.lockLost (s : State) (l cond : Nat) : State :=
  (((s.bump gLrx l 3).raise evLrxLockLost [Word.nat l, Word.nat cond]).faultWarm l evLrxLockLost).follow

/-- R80: three consecutive windows below the threshold, which is in 0.5 dB. -/
def execSnrWindowEnd (l snr : Nat) (s : State) : Host.Outcome State Fault Refusal :=
  .next (
    if (s.lineAt l).state = .up ∧ l < s.lines then
      if snr < 50 * s.parN nLrxCfg l 14 then
        if 2 ≤ (s.lineAt l).lrx.lowSnr then s.lockLost l 0
        else s.modLrx l fun x => { x with lowSnr := x.lowSnr + 1 }
      else s.modLrx l fun x => { x with lowSnr := 0 }
    else s)

def execTimingFrequencyOutOfRange (l : Nat) (s : State) : Host.Outcome State Fault Refusal :=
  .next (if (s.lineAt l).state = .up ∧ l < s.lines then s.lockLost l 1 else s)

/-! The background estimator and slice failures (R82, R89 to R94). -/

/-- One step of the background estimator on a running slice against the residual that it finds, within the ranges of R81; skew
moves in the windows that end a 20 us window (R82). -/
def State.moveSlice (s : State) (l : Nat) (skew : Bool) (r : SliceResid) : State :=
  if s.sliceRuns l r.slice then
    s.modSlice l r.slice fun x => { x with
      off := clampInt (-256) 256 (x.off + signInt r.off)
      gain := clampInt (-600) 600 (x.gain + signInt r.gain)
      skew := if skew then clampInt (-120) 120 (x.skew + signInt r.skew) else x.skew }
  else s

/-- The residual of a slice in a window: the first that names it. -/
def residOf (rs : List SliceResid) (n : Nat) : Option SliceResid := rs.find? fun r => r.slice == n

/-- R82, R89, R98: the background estimator's window of 2 us ends. `rs` are the residuals it finds; a slice that breaks R89 in two
consecutive windows has failed. `ups` are the FFE's updates in the window. A frozen receiver takes no moves (R78). -/
def execBackgroundWindowEnd (l : Nat) (rs : List SliceResid) (ups : List (Int × List Int)) (s : State) :
    Host.Outcome State Fault Refusal :=
  .next (
    let x := s.lineAt l
    if l < s.lines ∧ x.lrx.power = .full then
      let s0 := s.modLrx l fun y => { y with skewWin := (y.skewWin + 1) % 10 }
      let s1 := if x.lrx.frozen then s0
        else (List.range 65).foldl (fun s n =>
          match residOf rs n with
          | none => s
          | some r => s.moveSlice l (x.lrx.skewWin == 9) r) s0
      let s2 := s1.adaptFfe l ups
      let active := (List.range 65).filter fun n => s2.sliceRuns l n
      let bad (n : Nat) : Bool := match residOf rs n with | none => false | some r => residBad r
      let failed := active.filter fun n => bad n && decide (1 ≤ (s2.sliceAt l n).bad)
      let s3 := active.foldl (fun s n => s.modSlice l n fun y => { y with bad := if bad n then 1 else 0 }) s2
      if failed.isEmpty then s3 else (failed.foldl (fun s n => s.sliceFailed l n) s3).follow
    else s)

/-- Vacant positions take healthy slices, when a receiver starts (R65, R96): those without a position first; at half rate also
those on the positions from 32 on, which it does not use (R64). -/
def State.arrange (s : State) (l : Nat) : State :=
  (List.range (if s.half l then 32 else 64)).foldl (fun s p =>
    if (List.range 65).any fun n => (s.sliceAt l n).pos = some p then s
    else
      match (List.range 65).find? fun n => (s.sliceAt l n).pos.isNone && (s.sliceAt l n).health = .ok && !(s.sliceAt l n).needsCal with
      | some n => s.modSlice l n fun x => { x with pos := some p }
      | none =>
        match (List.range 65).find? fun n => s.sliceSpare l n && !(s.sliceAt l n).needsCal with
        | some n => s.modSlice l n fun x => { x with pos := some p }
        | none => s) s

/-- The lane has the slices that its rate needs (R94). -/
def State.slicesSuffice (s : State) (l : Nat) : Bool :=
  (List.range (if s.half l then 32 else 64)).all fun p => (List.range 65).any fun n => (s.sliceAt l n).pos = some p

/-- Lanes of a port that starts without enough slices enter FAULT and stay there (R94). -/
def State.checkSlices (s : State) (p : Nat) : State :=
  (s.portLines p).foldl (fun s l =>
    let s1 := s.arrange l
    if s1.slicesSuffice l then s1
    else (s1.lineFault l evLrxNoSpareSlice).modLine l fun x => { x with stuck := true }) s

/-! Sample capture (R114 to R118). -/

/-- R115: the start condition of an armed capture: IMMEDIATE, a BCNT value reached, or LOS clear. -/
def execCaptureStartCondition (s : State) : Host.Outcome State Fault Refusal :=
  .next (
    let c := s.cap
    let met := c.start = 0 ∨ (c.start = 1 ∧ c.startAt.toNat ≤ s.tku.bcnt.toNat) ∨
      (c.start = 2 ∧ !(s.lineAt c.lane).lrx.los)
    if c.armed ∧ !c.running ∧ met then { s with cap := { c with armed := false, running := true } } else s)

/-- R116: the next segment starts at a block boundary, once the one before it has been drained. -/
def execCaptureSegmentStart (s : State) : Host.Outcome State Fault Refusal :=
  .next (
    if s.cap.running ∧ !s.cap.taking then { s with cap := { s.cap with taking := true, segAt := s.tku.bcnt, substs := 0 } } else s)

/-- The descriptor of a segment (R117). The 8-bit and 16-bit counts stop at their highest value (DESIGN CHOICE, log entry 133). -/
def capDescriptor (c : Cap) (clips : Nat) : List Byte :=
  leBytes 8 c.segAt.toNat ++ leBytes 4 c.segLen ++ leBytes 1 (if c.raw then 0 else 1) ++ leBytes 1 (min c.substs 255) ++
    leBytes 2 (min clips 65535) ++ List.replicate 16 0

/-- R116 to R118: the segment is drained. The clip count of RAW codes is that of the samples; `clips` are the ADC codes at their limits
under a CORRECTED segment. The bytes are written, those of an uncorrectable word of the buffer as 0 (R540; log entry 142), and the
descriptor written; after the last one the capture ends. -/
def execCaptureSegmentDrained (samples : List Byte) (clips : Nat) (ecc : List SramRead) (s : State) :
    Host.Outcome State Fault Refusal :=
  .next (
    let c := s.cap
    if c.running ∧ c.taking ∧ samples.length = c.segLen then
      let s := s.sramReads ecc
      let bad := (ecc.filter fun u => u.syn.isNone).map SramRead.addr
      let samples := if bad.isEmpty then samples else samples.mapIdx fun i b => if bad.contains (i / 4) then 0 else b
      let rel := c.offset + c.done * c.segLen
      let n := if c.raw then (samples.filter fun b => b == 0x80 || b == 0x7F).length else clips
      let s1 := (s.memPut (0x60000000 + rel) samples).memPut (0x5F000000 + 32 * (rel / 4096)) (capDescriptor c n)
      let s2 := { s1 with cap := { c with taking := false, done := c.done + 1 } }
      if c.done + 1 = c.count then
        (({ s2 with cap := { s2.cap with running := false, ticket := none } }).finishOpt c.ticket cDone 0 (.line c.lane)).raise
          evLrxCaptureDone [Word.nat c.lane, Word.nat (c.done + 1)]
      else s2
    else s)

/-- Ends a capture before its last segment; its command completes with STATE_REFUSED (R455). -/
def State.captureEnd (s : State) (detail : Nat) : State :=
  if s.cap.armed ∨ s.cap.running then
    ({ s with cap := { s.cap with armed := false, running := false, taking := false, ticket := none } }).finishOpt
      s.cap.ticket cStateRefused detail (.line s.cap.lane)
  else s

/-! The LRX nouns (R120). -/

def RxPower.num : RxPower → Nat
  | .off => 0
  | .listen => 1
  | .full => 2

def specGetLrxCfg : CmdSpec := { verb := vGet, noun := nLrxCfg, inst := .line, form := .fixed [0], modes := .any }
def procGetLrxCfg : Sentence → State → State :=
  process specGetLrxCfg noCheck (getAct fun s l => s.paramSet nLrxCfg l) noEcho
def execGetLrxCfg (m : Sentence) (s : State) : Host.Outcome State Fault Refusal :=
  .next (submit vGet nLrxCfg procGetLrxCfg m s)

/-- The value that a mask payload holds for a row with one element, whatever its other values are (R452). -/
def maskWord (noun : Nat) (ws : List Word) (row : Nat) : Word :=
  ws.getD (2 + ((maskElems (paramRows noun) ((maskSelected noun ws).filter (· < row))).length)) 0

/-- R119, step 9 of R453: the loopback turns ON in TEST only. -/
def checkLoopback (s : State) (m : Sentence) (ws : List Word) : Option Refuse :=
  if (maskSelected nLrxCfg ws).contains 18 ∧ maskWord nLrxCfg ws 18 = 0 ∧ (s.lineAt m.inst.toNat).state ≠ .test then
    some { code := cStateRefused, detail := 2 }
  else maskRange nLrxCfg m ws

/-- A VGA gain that is set acts at once; a step larger than 0.5 dB disturbs the period (R69, R106). -/
def State.setGain (s : State) (l : Nat) : State :=
  let x := (s.lineAt l).lrx
  if s.vgaAuto l ∨ x.power = .off then s
  else
    let g := s.parI nLrxCfg l 0
    s.modLrx l fun y => { y with gain := g, disturbed := y.disturbed || decide (2 < (g - x.gain).natAbs) }

def specSetLrxCfg : CmdSpec := { verb := vSet, noun := nLrxCfg, inst := .line, form := .mask, modes := .notShutter }
def procSetLrxCfg : Sentence → State → State :=
  process specSetLrxCfg checkLoopback
    (fun s m ws => (((setAct nLrxCfg s m ws).1.setGain m.inst.toNat).follow, okDone)) (setEcho nLrxCfg)
def execSetLrxCfg (m : Sentence) (s : State) : Host.Outcome State Fault Refusal :=
  .next (submit vSet nLrxCfg procSetLrxCfg m s)

/-- Power state, LOS, step, retries, lock of timing recovery, frequency offset. -/
def State.lrxStatus (s : State) (l : Nat) : List Word :=
  let x := s.lineAt l
  [Word.nat x.lrx.power.num, Word.flag x.lrx.los, Word.nat (min x.lrx.step 6), Word.nat x.lrx.retries,
   Word.flag (x.state = .up || decide (5 ≤ x.lrx.step)), Word.int x.lrx.freq]

def specGetLrxStatus : CmdSpec := { verb := vGet, noun := nLrxStatus, inst := .line, form := .fixed [0], modes := .any }
def procGetLrxStatus : Sentence → State → State := process specGetLrxStatus noCheck (getAct State.lrxStatus) noEcho
def execGetLrxStatus (m : Sentence) (s : State) : Host.Outcome State Fault Refusal :=
  .next (submit vGet nLrxStatus procGetLrxStatus m s)

/-- `n` words: those of a list, then zeros. -/
def padTo (n : Nat) (ws : List Word) : List Word := ws ++ List.replicate (n - ws.length) 0

def specGetLrxQuality : CmdSpec := { verb := vGet, noun := nLrxQuality, inst := .line, form := .fixed [0], modes := .any }
def procGetLrxQuality : Sentence → State → State :=
  process specGetLrxQuality noCheck
    (getAct fun s l => padTo 13 (s.lineAt l).lrx.q ++ [Word.flag (s.lineAt l).lrx.qDisturbed]) noEcho
def execGetLrxQuality (m : Sentence) (s : State) : Host.Outcome State Fault Refusal :=
  .next (submit vGet nLrxQuality procGetLrxQuality m s)

def specGetLrxEstimate : CmdSpec := { verb := vGet, noun := nLrxEstimate, inst := .line, form := .fixed [0], modes := .any }
def procGetLrxEstimate : Sentence → State → State :=
  process specGetLrxEstimate noCheck
    (getAct fun s l =>
      let x := (s.lineAt l).lrx
      padTo 18 (x.est.take 18) ++ [Word.nat x.recTier, Word.flag x.shortfall, Word.flag x.estDisturbed]) noEcho
def execGetLrxEstimate (m : Sentence) (s : State) : Host.Outcome State Fault Refusal :=
  .next (submit vGet nLrxEstimate procGetLrxEstimate m s)

def Health.num : Health → Nat
  | .ok => 0
  | .test => 1
  | .retired => 2

/-- Idle, in the place of a position. -/
def idleWord : Word := 0xFFFFFFFF

/-- Per slice position, health, retired flag and coefficients, then the run count and time of the last run. -/
def State.lrxSlices (s : State) (l : Nat) : List Word :=
  ((List.range 65).flatMap fun n =>
    let x := s.sliceAt l n
    [match x.pos with | some p => (if s.sliceRuns l n then Word.nat p else idleWord) | none => idleWord,
     Word.nat x.health.num, Word.flag (x.health = .retired), Word.int x.off, Word.int x.gain, Word.int x.skew]) ++ s.lastRun l

def specGetLrxSlices : CmdSpec := { verb := vGet, noun := nLrxSlices, inst := .line, form := .fixed [0], modes := .any }
def procGetLrxSlices : Sentence → State → State := process specGetLrxSlices noCheck (getAct State.lrxSlices) noEcho
def execGetLrxSlices (m : Sentence) (s : State) : Host.Outcome State Fault Refusal :=
  .next (submit vGet nLrxSlices procGetLrxSlices m s)

/-- A one-word enumerated payload (R451): a position beyond the list is out of range. -/
def enumCheck (n : Nat) (ws : List Word) : Option Refuse :=
  if (ws.getD 0 0).toNat < n then none else some { code := cResource, detail := 1 }

/-- R121: COLD 0, WARM 1. An UP lane enters ACQUIRE and its port follows the fault rules. -/
def State.restartAcq (s : State) (l : Nat) (cold : Bool) : State :=
  let s := s.lockEnd l lostRestart
  if (s.lineAt l).state = .up then
    let s1 := (s.modLine l fun x => { x with state := .acquire }).acquire l cold
    match s1.portOf l with
    | none => s1
    | some p => s1.portFail p [l] [] laneRestart
  else s.acquire l cold

def specRestartLrxAcq : CmdSpec := { verb := vRestart, noun := nLrxAcq, inst := .line, form := .fixed [4], modes := .psg }
def procRestartLrxAcq : Sentence → State → State :=
  process specRestartLrxAcq
    (fun s m ws =>
      if (s.lineAt m.inst.toNat).state = .down then some { code := cStateRefused, detail := 2 } else enumCheck 2 ws)
    (fun s m ws => ((s.restartAcq m.inst.toNat ((ws.getD 0 0) = 0)).follow, okDone)) noEcho
def execRestartLrxAcq (m : Sentence) (s : State) : Host.Outcome State Fault Refusal :=
  .next (submit vRestart nLrxAcq procRestartLrxAcq m s)

/-- 2 GiB, the capture region. -/
def capRegion : Nat := 2147483648

/-- The parameters of a CAPTURE: point (RAW 0, CORRECTED 1), exponent of the segment length, offset, count, start, and under BCNT two
words of BCNT; without a payload the defaults of R115 (log entry 133). -/
def capParams (m : Sentence) (ws : List Word) : List Word := if m.len.toNat = 0 then [1, 20, 0, 2048, 0] else ws

/-- R115, R117. -/
def checkCapture (s : State) (m : Sentence) (ws : List Word) : Option Refuse :=
  let w (i : Nat) : Nat := ((capParams m ws).getD i 0).toNat
  let len := 2 ^ w 1
  if (s.lineAt m.inst.toNat).state ≠ .test then some { code := cStateRefused, detail := 2 }
  else if 2 ≤ w 0 ∨ w 1 < 12 ∨ 21 < w 1 ∨ 3 ≤ w 4 ∨ w 2 % len ≠ 0 ∨ capRegion < w 2 + len ∨ w 3 = 0 ∨
      capRegion < w 2 + w 3 * len then some { code := cResource, detail := 1 }
  else if s.cap.armed ∨ s.cap.running then some { code := cResource, detail := 2 }
  else none

def specCaptureLrxCapture : CmdSpec :=
  { verb := vCapture, noun := nLrxCapture, feats := [fCapture], inst := .line, form := .choice 4 1 28 20, modes := .workshop }
def procCaptureLrxCapture : Sentence → State → State :=
  process specCaptureLrxCapture checkCapture
    (fun s m ws =>
      let w (i : Nat) : Nat := ((capParams m ws).getD i 0).toNat
      ({ s with cap := {
        armed := true, lane := m.inst.toNat, raw := w 0 == 0, segLen := 2 ^ w 1, offset := w 2, count := w 3, start := w 4,
        startAt := BitVec.ofNat 64 (w 5 + w 6 * 2 ^ 32), ticket := some (ticketOf m) } }, .accepted [])) noEcho
def execCaptureLrxCapture (m : Sentence) (s : State) : Host.Outcome State Fault Refusal :=
  .next (submit vCapture nLrxCapture procCaptureLrxCapture m s)

/-- ABORT: segments already drained stay; the CAPTURE ends with STATE_REFUSED (R455). Without a capture on the lane it is DONE and
changes nothing (DESIGN CHOICE, log entry 133). -/
def specAbortLrxCapture : CmdSpec :=
  { verb := vAbort, noun := nLrxCapture, feats := [fCapture], inst := .line, form := .fixed [0], modes := .workshop }
def procAbortLrxCapture : Sentence → State → State :=
  process specAbortLrxCapture noCheck
    (fun s m _ => ((if s.cap.lane = m.inst.toNat then s.captureEnd 2 else s).follow, okDone)) noEcho
def execAbortLrxCapture (m : Sentence) (s : State) : Host.Outcome State Fault Refusal :=
  .next (submit vAbort nLrxCapture procAbortLrxCapture m s)

end Sys2Proof.Machine
end

