-- ==== Sys2Proof/Machine/Elastic.lean ====
section
/-! DEFINITION. The elastic stage: blocks and segments (R128 to R133), the datapath of the stream engines (R124 to R127), the FIFO (R46,
R51, R52), the rows that carry out plans, swaps and coefficient sets (R142 to R163), engine faults (R164 to R167), and the SEA
nouns (R171). -/

namespace Sys2Proof.Machine

/-! The engines' datapath. Which registers a kernel uses and how its ring lies in local memory are the model's choice (DESIGN CHOICE,
log entry 134). -/

/-- Blocks that the ring of the largest kernel holds. -/
def ringDepth : Nat := ringBlocks 0x44

/-- R127: Block in. The 256 words of a block of 1,024 samples go into the next place of the ring in local memory, with their check
bits (R126); blocks older than the kernel's ring `rb` are given up. A coefficient set that has come in is switched to (R142). -/
def Engine.blockIn (x : Engine) (rb : Nat) (block : List Int) : Engine :=
  let at_ := (x.ring + 1) % ringDepth
  let kept := x.lmem.filter fun p => (List.range rb).any fun k => p.1 / 256 == (at_ + ringDepth - k) % ringDepth && k != 0
  { x with
    ring := at_, coefs := x.coefNext.getD x.coefs, coefNext := none
    lmem := ((packAll block).zipIdx).foldl (fun t w => tset t (fun _ => 0) (256 * at_ + w.2) (localWord w.1)) kept }

/-- The sample `i` symbols before place `n` of the present block, as local memory holds it. -/
def Engine.sample (x : Engine) (n i : Nat) : Int :=
  let p := samplePlace n i
  let w := tget x.lmem (fun _ => 0) (256 * ((x.ring + ringDepth - p.1 % ringDepth) % ringDepth) + p.2 / 4)
  unpackWord (w.setWidth 36) (p.2 % 4)

/-- R128, R129: segment `k` of the present block under a tier's kernel: the engine after it, its 64 samples, and the term values at
its last sample, which it taps out. The operands and coefficients of the last step stand in VR00 and VR01. -/
def Engine.segment (x : Engine) (t k : Nat) (delays third : List Nat) : Engine × List Int × List Int :=
  let terms := (List.range 64).map fun j => kernelTerms t delays third (x.sample (64 + 64 * k + j))
  let steps := macOf t / 2
  let acc := segmentAcc terms x.coefs steps
  let vr0 := packAll (stepOperands terms (steps - 1))
  let vr1 := packAll (stepCoefs x.coefs (steps - 1))
  ({ x with acc := acc, vr := tset (tset x.vr (fun _ => []) 0 vr0) (fun _ => []) 1 vr1 }, segmentOut acc, terms.getLastD [])

/-! Blocks. -/

/-- A lane's blocks enter its FIFO: the receiver runs, and after an overflow they are discarded until the lane relocks
(R52). -/
def State.blocksFlow (s : State) (l : Nat) : Bool :=
  let x := s.lineAt l
  decide (l < s.lines) && x.lrx.power = .full && !x.sea.discard &&
    (x.state = .acquire || x.state = .up || x.state = .test || (x.state = .fault && decide (1 ≤ x.lrx.step)))

/-- The slice that serves a position. -/
def State.sliceServing (s : State) (l p : Nat) : Slice :=
  match s.sliceOn l p with
  | none => {}
  | some n => s.sliceAt l n

/-- R65, R81: ADC codes in time order, each corrected for the slice that took it: 64 positions at full rate, 32 at half rate, the 16
positions 0, 4, ..., 60 in LISTEN (R71). -/
def State.correctCodes (s : State) (l : Nat) (codes : List Int) : List Int :=
  let n := if (s.lineAt l).lrx.power = .listen then 16 else if s.half l then 32 else 64
  let step := if (s.lineAt l).lrx.power = .listen then 4 else 1
  let at_ := (List.range n).map fun k => s.sliceServing l (step * k)
  (codes.zipIdx).map fun c =>
    let z := at_.getD (c.2 % n) {}
    correctCode z.off z.gain c.1

/-- R67, R98, R101, R112: the front end takes corrected codes: the envelope tap always, the FFE and the pilot canceller in FULL. Answers
the FFE samples. -/
def State.frontEnd (s : State) (l : Nat) (xs : List Int) : State × List Int :=
  let x := (s.lineAt l).lrx
  let win := envWindow (s.half l) (x.power = .listen)
  if x.power = .full then
    let r := frontRun x.taps win x.los (s.parN nLrxCfg l 16 == 0) x.env x.tail xs
    (s.modLrx l fun y => { y with env := r.1, tail := r.2.1 }, r.2.2)
  else (s.modLrx l fun y => { y with env := xs.foldl (fun e v => e.take win x.los v) y.env }, [])

/-- R127, R128: a block goes to every engine of the lane's group, its 15 segments round-robin over them. Results stand with the block
until its release. -/
def State.dispatch (s : State) (l : Nat) (ys : List Int) : State :=
  let x := (s.lineAt l).sea
  let block := List.replicate (64 - x.overlap.length) 0 ++ x.overlap ++ ys
  let g := s.groupOf l
  let s1 := g.foldl (fun s e =>
    (s.modEng e fun y => y.blockIn (ringBlocks (kernelOf x.tier)) block).pmcEngine e 0x102 1) s
  let occ := x.fifo.length + 1
  let last := ys.drop (ys.length - 64)
  if x.tier = 0 ∨ g.isEmpty then
    s1.modSea l fun y => { y with fifo := y.fifo ++ [{ occ := occ, ffe := ys, out := ys }], overlap := last }
  else
    let segs := (List.range 15).map fun k => g.getD ((x.rr + k) % g.length) 0
    let work (s : State) (p : Nat × Nat) := (s.engAt p.1).segment x.tier p.2 x.delays x.third
    let s2 := (segs.zipIdx).foldl (fun s p => s.modEng p.1 fun _ => (work s p).1) s1
    let out := (segs.zipIdx).flatMap fun p => (work s1 p).2.1
    let tap := ((segs.zipIdx).getLast?.map fun p => (work s1 p).2.2).getD []
    s2.modSea l fun y => { y with
      fifo := y.fifo ++ [{ occ := occ, tier := x.tier, ffe := ys, segs := segs, out := out }], overlap := last
      taps := (y.taps ++ [tap]).drop (y.taps.length + 1 - 256), rr := (x.rr + 15) % g.length }

/-- R29, R46, R128: the ADC codes of the 960 new samples of a block. The front end takes them; where blocks flow, the block enters
the FIFO and is dispatched. In LISTEN the codes are those of the running slices, for the envelope alone. -/
def execBlockEntersFifo (l : Nat) (s : State) (codes : List Int := []) : Host.Outcome State Fault Refusal :=
  .next (
    if l < s.lines ∧ (s.lineAt l).lrx.power ≠ .off then
      let r := s.frontEnd l (s.correctCodes l codes)
      if s.blocksFlow l ∧ (s.lineAt l).sea.fifo.length < 16 then r.1.dispatch l r.2 else r.1
    else s)

/-- R132, R133: a segment of engine `e` is late. -/
def State.lateSegment (s : State) (l e occ : Nat) : State :=
  let s1 := ((s.bump gSea l 0).pmcEvent 0x052 1).pmcEngine e 0x107 1
  if occ ≤ 2 ∧ (s1.groupOf l).contains e then s1.engineFault e .lateSegment else s1

/-- R131, R132: the samples of a block as they are released: a late segment's FFE samples stand in for its result; a block with a poisoned
word leaves as zeros (R540). -/
def Blk.released (b : Blk) (late : List Nat) (bad : Bool) : List Int :=
  if bad then List.replicate 960 0
  else (List.range 15).flatMap fun k => ((if late.contains k then b.ffe else b.out).drop (64 * k)).take 64

/-- R129, R131: the oldest block is released; each segment took its MAC-slot issues. `late` names the segments whose results have not
arrived. -/
def execBlockRelease (l : Nat) (late : List Nat) (s : State) (ecc : List SramRead := []) : Host.Outcome State Fault Refusal :=
  .next (
    match (s.lineAt l).sea.fifo with
    | [] => s
    | b :: rest =>
      let s1 := s.modSea l fun x => { x with fifo := rest, out := b.released late (!(badRows 1 ecc).isEmpty) }
      let s2 := b.segs.foldl (fun s e => (s.pmcEngine e 0x101 1).pmcEngine e 0x100 (macOf b.tier / 2)) s1
      let slow := (b.segs.zipIdx).filter fun p => late.contains p.2
      let s3 := slow.foldl (fun s p => s.lateSegment l p.1 b.occ) s2
      if slow.isEmpty ∧ ecc.isEmpty then s3 else (s3.sramReads ecc).follow)

/-- R51: the occupancy has crossed the high watermark of 4; the kernel drops one tier at the next block boundary. -/
def execFifoWatermarkCrossed (l : Nat) (s : State) : Host.Outcome State Fault Refusal :=
  .next (
    if 4 ≤ (s.lineAt l).sea.fifo.length ∧ 0 < (s.lineAt l).sea.tier then
      s.modSea l fun x => { x with dropNext := true }
    else s)

/-- R52: the lane enters FAULT and reacquires; its blocks are discarded until it relocks, the event goes to targeted self-test. -/
def execFifoOverflow (l : Nat) (s : State) : Host.Outcome State Fault Refusal :=
  .next (
    if 16 ≤ (s.lineAt l).sea.fifo.length ∧ l < s.lines then
      let x := s.lineAt l
      let s1 := ((s.modSea l fun y => { y with fifo := [] }).raise evSeaFifoOverflow [Word.nat l]).errAll 4
      let s2 := if x.state = .up ∨ x.state = .acquire ∨ x.state = .fault then
          (s1.modSea l fun y => { y with discard := true }).faultWarm l evSeaFifoOverflow
        else s1
      (s2.report .stage l 5 srcTest).follow
    else s)

/-! Plans. -/

/-- R156: a block boundary of a lane. -/
def execPlanBlockBoundary (l : Nat) (s : State) : Host.Outcome State Fault Refusal :=
  .next (if s.hinge.started ∧ 0 < s.planRate ∧ s.startedLanes.contains l then (s.boundary l).follow else s)

/-- R154, R157, R160: the raise dwell has passed for every raise that waits for it. -/
def execRaiseDwellExpiry (s : State) : Host.Outcome State Fault Refusal :=
  .next (
    if s.hinge.started then
      ((((List.range s.lines).foldl (fun s l => s.modSea l fun x => { x with held := false, bar := 0 }) s).judgeAgain
        s.standing).startRaises).follow
    else s)

/-! Swaps (R159 to R163). -/

/-- The lane's swap is in a step. -/
def State.swapIn (s : State) (l n : Nat) : Option Swap :=
  match (s.lineAt l).sea.swap with
  | none => none
  | some w => if w.step = n then some w else none

def State.setSwap (s : State) (l : Nat) (w : Swap) : State := s.modSea l fun x => { x with swap := some w }

/-- A "By swap" row as a swap finds it: its new value, else the one in force (R136). -/
def State.parWith (s : State) (l : Nat) (par : List (Nat × Word)) (e : Nat) : Nat :=
  match par.find? fun p => p.1 = e with
  | some p => p.2.toNat
  | none => s.parN nSeaKparam l e

/-- The live master coefficients under a centre tap: at tier 0 those that pass the samples. -/
def State.liveMaster (s : State) (l centre : Nat) : List Int :=
  let x := (s.lineAt l).sea
  if x.tier = 0 then passMaster centre else recentre (s.parN nSeaKparam l 0) centre x.master

/-- The delays of the echo list of the estimate (R107) that lie in the echo delay window (R135, R136). -/
def State.echoDelays (s : State) (l lo hi : Nat) : List Nat :=
  let x := (s.lineAt l).lrx
  ((List.range x.echoes).map fun k => (x.est.getD (5 + 2 * k) 0).toNat).filter fun d => decide (lo ≤ d ∧ d ≤ hi)

/-- The shadows take a coefficient set. -/
def State.shadowCoefs (s : State) (w : Swap) (cs : List Int) : State :=
  (w.shadows ++ w.lent).foldl (fun s e => s.modEng e fun x => { x with coefs := coefSetOf cs }) s

/-- Step 2 ends: the group has its engines and the image is staged. The shadows start from the live coefficients, new terms at zero
(R159); the adaptation engines take echo delays and choose third-order terms that come new (R135). -/
def execSwapStaged (l : Nat) (s : State) : Host.Outcome State Fault Refusal :=
  .next (
    match s.swapIn l 1 with
    | none => s
    | some w =>
      if (s.groupOf l).length < w.count then s
      else
        let x := (s.lineAt l).sea
        let live := max 16 (macOf x.tier)
        let cs := (s.liveMaster l (s.parWith l w.par 0)).zipIdx.map fun c => if live ≤ c.2 then 0 else c.1
        let s1 := if x.tier < 3 then
            s.modSea l fun y => { y with delays := s.echoDelays l (s.parWith l w.par 4) (s.parWith l w.par 5) }
          else s
        let s2 := if x.tier < 4 ∧ w.tier = 4 then
            (s1.modSea l fun y => { y with third := chooseThird s.freeVal.toNat }).freeNext
          else s1
        (s2.setSwap l { w with step := 3, coefs := cs }).shadowCoefs w cs)

/-- The coefficient leakage of a lane: none, or 2^-m (R136). -/
def State.leakOf (s : State) (l : Nat) : Option Nat :=
  let v := s.parI nSeaKparam l 2
  if v = 0 then none else some (-v).toNat

/-- Step 3 ends: the shadow settle time has passed. `ups` are the errors of the shadows with their term values: the terms that come
new have adapted. -/
def execShadowSettleEnd (l : Nat) (s : State) (ups : List (Int × List Int) := []) : Host.Outcome State Fault Refusal :=
  .next (
    match s.swapIn l 3 with
    | none => s
    | some w =>
      let live := macOf (s.lineAt l).sea.tier
      let cs := (ups.foldl (kernelLms (-(s.parI nSeaKparam l 1)).toNat (s.leakOf l)) w.coefs).zipIdx.map fun c =>
        if c.2 < live then w.coefs.getD c.2 0 else c.1
      (s.setSwap l { w with step := 4, coefs := cs }).shadowCoefs w cs)

/-- Step 4 ends: the error powers of the live output and of the shadow, in 0.01 dB. -/
def execSwapComparisonDone (l : Nat) (live shadow : Int) (s : State) : Host.Outcome State Fault Refusal :=
  .next (match s.swapIn l 4 with | none => s | some w => s.setSwap l { w with step := 5, live := live, shadow := shadow })

/-- The switch: the new kernel with the adapted coefficients, and the "By swap" values (R136, R159). -/
def State.switchKernel (s : State) (l : Nat) (w : Swap) : State :=
  let live := macOf (s.lineAt l).sea.tier
  let m := (s.liveMaster l (s.parWith l w.par 0)).zipIdx.map fun c => if c.2 < live then c.1 else w.coefs.getD c.2 0
  let s1 := (s.putPar l w.par).modSea l fun x => { x with
    swap := some { w with step := 6, ticket := none }, tier := w.tier, version := w.version, master := m
    sel := tset x.sel (fun _ => none) (kernelOf w.tier) (some w.version) }
  (s1.groupOf l).foldl (fun s e => s.modEng e fun y => { y with coefs := coefSetOf m, coefNext := none }) s1

/-- Step 5: the switch; or the abandonment of R160 when the shadow is more than 0.1 dB above the live power, or where the group no
longer meets R47 at the present step rate. -/
def execSwapSwitch (l : Nat) (s : State) : Host.Outcome State Fault Refusal :=
  .next (
    match s.swapIn l 5 with
    | none => s
    | some w =>
      let fits := engNeed (s.half l) w.tier s.planRate ≤ (s.groupOf l).length
      if w.shadow ≤ w.live + 10 ∧ fits then
        let s2 := ((s.switchKernel l w).bump gSea l 4).raise evSeaSwapDone
          [Word.nat l, Word.nat (kernelOf w.tier), Word.nat w.version, Word.int w.live, Word.int w.shadow]
        (((s2.tellPlaced s).judgeAgain s.standing).finishOpt w.ticket cDone 0 (.line l)).follow
      else
        let s1 := s.abandonSwap l (if fits then swR160 else swOther) 2
        ((if (s.lineAt l).sea.tier < w.tier then s1.modSea l fun x => { x with bar := w.tier } else s1).judgeAgain
          s.standing).follow)

/-- Step 6: the shadows return; waiting swaps may start. -/
def execShadowReturn (l : Nat) (s : State) : Host.Outcome State Fault Refusal :=
  .next (match s.swapIn l 6 with | none => s | some w => ((s.endSwap l w true).startRaises).follow)

/-! Coefficients (R142, R143, R167). -/

/-- R142: the adaptation engines update the master coefficients with the errors at the samples that the engines have tapped out, and
push the set to every engine of the group, which take it at the next block boundary. Under FREEZE, or without an adaptation
engine, the coefficients hold. -/
def execCoefficientPush (l : Nat) (s : State) (errs : List Int := []) : Host.Outcome State Fault Refusal :=
  .next (
    let x := (s.lineAt l).sea
    let g := s.groupOf l
    if l < s.lines ∧ s.parN nSeaKparam l 3 = 0 ∧ !x.adaptHold ∧ !(s.adaptOf l).isEmpty ∧ !g.isEmpty then
      let m := (errs.zip x.taps).foldl (kernelLms (-(s.parI nSeaKparam l 1)).toNat (s.leakOf l)) x.master
      let s1 := s.modSea l fun y => { y with master := m, taps := [] }
      g.foldl (fun s e => (s.modEng e fun y => { y with coefNext := some (coefSetOf m) }).pmcEngine e 0x103 1) s1
    else s)

/-- R143: a transom engine's shadow copies of the sets of every lane. -/
def execShadowRefresh (e : Nat) (s : State) : Host.Outcome State Fault Refusal :=
  .next (
    if (s.engAt e).role = .transom then
      s.modEng e fun x => { x with shadow := (List.range s.lines).map s.setOf }
    else s)

/-! Engine faults. -/

/-- The uncorrectable word behind a fault of an engine's local memory: MEM_UNCORR, and a test of its row on the isolated memory (R538,
R540, R542). -/
def State.faultRow (s : State) (c : EngineCond) : State :=
  match c with
  | .localMemory a r => ((s.bump gMem 4 3).raise evMemUncorr [Word.nat 4, Word.nat a, Word.nat (sramReader 4)]).reportRow 4 r
  | _ => s

/-- R164 to R166: a fault of an engine that is not an adaptation engine. -/
def execEngineFault (e : Nat) (c : EngineCond) (s : State) : Host.Outcome State Fault Refusal :=
  .next (if e < s.engines ∧ (s.engAt e).role ≠ .adapt then ((s.engineFault e c).faultRow c).follow else s)

/-- R167. -/
def execAdaptEngineFault (e : Nat) (c : EngineCond) (s : State) : Host.Outcome State Fault Refusal :=
  .next (if e < s.engines ∧ (s.engAt e).role = .adapt then ((s.adaptFault e c).faultRow c).follow else s)

/-! Commanded swaps (R138, R161, R163). -/

/-- The state as a commanded swap finds it: a swap in progress or waiting on the lane has ended. -/
def State.clearSwap (s : State) (l : Nat) : State :=
  let s1 := s.abandonSwap l swR163 2
  match (s1.lineAt l).sea.swapWait with
  | none => s1
  | some w => (s1.modSea l fun x => { x with swapWait := none }).finishOpt w.ticket cStateRefused 2 (.line l)

/-- Engines that a commanded swap adds to the lane's group. -/
def State.swapNeed (s : State) (l : Nat) : Nat := (s.lineAt l).sea.planEng - (s.groupOf l).length

/-- A commanded swap finds shadow engines, or waits for one of the four places (R161, R163). -/
def State.canSwap (s : State) (l : Nat) : Bool :=
  let s1 := s.clearSwap l
  decide (4 ≤ s1.swapsRunning) || (s1.shadowPick (s1.swapNeed l)).isSome

/-- Starts a commanded swap to a version of the tier that runs, with "By swap" values, or lets it wait. -/
def State.commandSwap (s : State) (l version : Nat) (par : List (Nat × Word)) (t : Ticket) : State :=
  let s1 := s.clearSwap l
  let x := (s1.lineAt l).sea
  if 4 ≤ s1.swapsRunning then
    s1.modSea l fun y => { y with swapWait := some { tier := x.tier, version := version, par := par, ticket := some t } }
  else (s1.startSwap l x.tier version (some t) (max x.planEng (s1.groupOf l).length) par).getD s1

/-! The SEA nouns (R171). -/

/-- Class, floor and weight of a port. -/
def State.policy (s : State) (p : Nat) : List Word := (List.range 3).map (s.param nSeaPolicy p)

def specGetSeaPolicy : CmdSpec := { verb := vGet, noun := nSeaPolicy, inst := .port, form := .fixed [0], modes := .any }
def procGetSeaPolicy : Sentence → State → State := process specGetSeaPolicy noCheck (getAct State.policy) noEcho
def execGetSeaPolicy (m : Sentence) (s : State) : Host.Outcome State Fault Refusal :=
  .next (submit vGet nSeaPolicy procGetSeaPolicy m s)

/-- The words of a payload are in the ranges of the rows, one element each (R70). -/
def wordsInRange (rows : List ParamRow) (ws : List Word) : Bool := (rows.zip ws).all fun p => p.1.ok p.2

/-- R148: a SET that makes the port GUARANTEED or raises the floor of a GUARANTEED one needs all floors to fit. -/
def checkPolicy (s : State) (m : Sentence) (ws : List Word) : Option Refuse :=
  let p := m.inst.toNat
  let guar := ws.getD 0 0 = 1
  let floor := (ws.getD 1 0).toNat
  if !wordsInRange policyRows ws then some { code := cResource, detail := 1 }
  else if guar ∧ (!s.guaranteed p ∨ s.floorOf p < floor) ∧
      !s.floorsFit (fun k => if k = p then (guar, floor) else (s.guaranteed k, s.floorOf k))
        (s.checkRate (10 * s.parN nSeaHinge 0 0)) then some { code := cResource, detail := 2 }
  else none

/-- The first lane of a port that the plan leaves below the port's floor. -/
def State.belowFloor (s : State) (p : Nat) : Option Nat :=
  (s.portLines p).find? fun l =>
    s.startedLanes.contains l && (s.lineAt l).sea.yielding && decide ((s.lineAt l).sea.placed < s.floorIn l)

/-- Sets the policy and re-plans; YIELDED names the ranks where the floor cannot be placed (R454). -/
def actPolicy (s : State) (m : Sentence) (ws : List Word) : State × Reply :=
  let p := m.inst.toNat
  let s1 := ((s.setParams nSeaPolicy p 0 (ws.take 3)).replanFor (s.portLines p)).follow
  match s1.belowFloor p with
  | none => (s1, okDone)
  | some l =>
    let x := (s1.lineAt l).sea
    (s1, .yielded (16 * s1.rankYielded l x.placed + (s1.keptBy l x.cause).1) [])

def specSetSeaPolicy : CmdSpec := { verb := vSet, noun := nSeaPolicy, inst := .port, form := .fixed [12], modes := .notShutter }
def procSetSeaPolicy : Sentence → State → State := process specSetSeaPolicy checkPolicy actPolicy State.policy
def execSetSeaPolicy (m : Sentence) (s : State) : Host.Outcome State Fault Refusal :=
  .next (submit vSet nSeaPolicy procSetSeaPolicy m s)

/-- Floor reference, raise dwell, pool size, throttle level in force. -/
def State.hingeWords (s : State) : List Word :=
  [s.param nSeaHinge 0 0, s.param nSeaHinge 0 1, Word.nat s.tierPool, Word.nat s.hinge.throttle]

def specGetSeaHinge : CmdSpec := { verb := vGet, noun := nSeaHinge, inst := .zero, form := .fixed [0], modes := .any }
def procGetSeaHinge : Sentence → State → State := process specGetSeaHinge noCheck (getAct fun s _ => s.hingeWords) noEcho
def execGetSeaHinge (m : Sentence) (s : State) : Host.Outcome State Fault Refusal :=
  .next (submit vGet nSeaHinge procGetSeaHinge m s)

/-- RESOURCE when admitted floors would no longer fit (R171), also where the SET leaves the floor reference as it is (DESIGN CHOICE, log
entry 139). -/
def checkHinge (s : State) (_ : Sentence) (ws : List Word) : Option Refuse :=
  if !wordsInRange hingeRows ws then some { code := cResource, detail := 1 }
  else if !s.floorsFit (fun k => (s.guaranteed k, s.floorOf k)) (s.checkRate (10 * (ws.getD 0 0).toNat)) then
    some { code := cResource, detail := 2 }
  else none

def specSetSeaHinge : CmdSpec := { verb := vSet, noun := nSeaHinge, inst := .zero, form := .fixed [8], modes := .notShutter }
def procSetSeaHinge : Sentence → State → State :=
  process specSetSeaHinge checkHinge (fun s _ ws => (s.setParams nSeaHinge 0 0 (ws.take 2), okDone)) (fun s _ => s.hingeWords)
def execSetSeaHinge (m : Sentence) (s : State) : Host.Outcome State Fault Refusal :=
  .next (submit vSet nSeaHinge procSetSeaHinge m s)

/-- The figures of SEA_PLACEMENT: the floor is the port's (R147), the demand the higher of it and the recommended tier (R150). -/
def State.placement (s : State) (l : Nat) : List Word :=
  let x := (s.lineAt l).sea
  let floor := match s.portOf l with | none => 0 | some p => s.floorOf p
  [Word.nat x.tier, Word.nat (kernelOf x.tier), Word.nat x.version, Word.nat (s.groupOf l).length, Word.nat (s.quadsOf l),
   Word.nat s.planRate, Word.int (s.laneHeadroom l), Word.nat (max floor x.demand), Word.nat floor, Word.flag x.yielding,
   Word.nat x.cause.num] ++ s.statWords gSea l 0 ++ s.statWords gSea l 1

def specGetSeaPlacement : CmdSpec := { verb := vGet, noun := nSeaPlacement, inst := .line, form := .fixed [0], modes := .any }
def procGetSeaPlacement : Sentence → State → State := process specGetSeaPlacement noCheck (getAct State.placement) noEcho
def execGetSeaPlacement (m : Sentence) (s : State) : Host.Outcome State Fault Refusal :=
  .next (submit vGet nSeaPlacement procGetSeaPlacement m s)

def Role.num : Role → Nat
  | .tier => 0
  | .adapt => 1
  | .transom => 2
  | .shadow => 3
  | .free => 4
  | .test => 5
  | .retired => 6

/-- Per engine of a quadrant role, lane, health (0 in order, 1 under targeted self-test, 2 retired) and retired flag; then the
quadrant's step rate. -/
def State.engineWords (s : State) (q : Nat) : List Word :=
  ((List.range 64).flatMap fun k =>
    let x := s.engAt (64 * q + k)
    let retired := x.role = .retired
    [Word.nat x.role.num, Word.nat x.lane,
     Word.nat (if retired then 2 else if x.role = .test ∧ !x.slice then 1 else 0), Word.flag retired]) ++
    [Word.nat (s.hinge.rates.getD q 0)]

def specGetSeaEngines : CmdSpec := { verb := vGet, noun := nSeaEngines, inst := .quadrant, form := .fixed [0], modes := .any }
def procGetSeaEngines : Sentence → State → State := process specGetSeaEngines noCheck (getAct State.engineWords) noEcho
def execGetSeaEngines (m : Sentence) (s : State) : Host.Outcome State Fault Refusal :=
  .next (submit vGet nSeaEngines procGetSeaEngines m s)

/-- MAC per sample of a kernel ID; none for ADAPT and KEEPER (R134). -/
def macOfKernel (k : Nat) : Nat := if k = 0x11 then 16 else if k = 0x22 then 26 else if k = 0x33 then 36 else if k = 0x44 then 48 else 0

/-- The number of versions held, the versions (two places), MAC per sample, signature status: 1, verified. -/
def State.kernelWords (s : State) (k : Nat) : List Word :=
  let v := (s.kernAt k).vers
  [Word.nat v.length, v.getD 0 0, v.getD 1 0, Word.nat (macOfKernel k), 1]

def specGetSeaKernel : CmdSpec := { verb := vGet, noun := nSeaKernel, inst := .kernel, form := .fixed [0], modes := .any }
def procGetSeaKernel : Sentence → State → State := process specGetSeaKernel noCheck (getAct State.kernelWords) noEcho
def execGetSeaKernel (m : Sentence) (s : State) : Host.Outcome State Fault Refusal :=
  .next (submit vGet nSeaKernel procGetSeaKernel m s)

/-- The lane runs a tier kernel, which a change of version swaps (R138). -/
def State.runsKernel (s : State) (l k : Nat) : Bool :=
  let x := (s.lineAt l).sea
  decide (0 < x.tier) && kernelOf x.tier == k && s.startedLanes.contains l

/-- SELECT names a kernel of the catalogue and a version held (R138); a version that a feature bit governs needs the bit (R453
step 10). -/
def checkSelect (s : State) (m : Sentence) (ws : List Word) : Option Refuse :=
  let k := (ws.getD 0 0).toNat
  if !kernelIds.contains k ∨ !(s.kernAt k).vers.contains (ws.getD 1 0) then some { code := cResource, detail := 1 }
  else if (s.kernAt k).own ≠ ws.getD 1 0 ∧ !s.accepts fKernelLoad then
    some { code := cNotNegotiated, detail := fKernelLoad }
  else if s.runsKernel m.inst.toNat k ∧ !s.canSwap m.inst.toNat then some { code := cResource, detail := 2 }
  else none

/-- The kernel that runs is swapped. For any other kernel the version is the one that the lane will run, and the command is DONE at
once: nothing is there to swap (DESIGN CHOICE, log entry 139). -/
def actSelect (s : State) (m : Sentence) (ws : List Word) : State × Reply :=
  let l := m.inst.toNat
  let k := (ws.getD 0 0).toNat
  let v := (ws.getD 1 0).toNat
  if s.runsKernel l k then ((s.commandSwap l v [] (ticketOf m)).follow, .accepted [])
  else (s.modSea l fun x => { x with
      sel := tset x.sel (fun _ => none) k (some v), version := if x.tier = 0 ∧ k = 0 then v else x.version }, okDone)

def specSelectSeaKernel : CmdSpec :=
  { verb := vSelect, noun := nSeaKernel, inst := .line, form := .fixed [8], modes := .psg }
def procSelectSeaKernel : Sentence → State → State := process specSelectSeaKernel checkSelect actSelect noEcho
def execSelectSeaKernel (m : Sentence) (s : State) : Host.Outcome State Fault Refusal :=
  .next (submit vSelect nSeaKernel procSelectSeaKernel m s)

def specGetSeaKparam : CmdSpec := { verb := vGet, noun := nSeaKparam, inst := .line, form := .fixed [0], modes := .any }
def procGetSeaKparam : Sentence → State → State :=
  process specGetSeaKparam noCheck (getAct fun s l => s.paramSet nSeaKparam l) noEcho
def execGetSeaKparam (m : Sentence) (s : State) : Host.Outcome State Fault Refusal :=
  .next (submit vGet nSeaKparam procGetSeaKparam m s)

/-- A SET changes a "By swap" row on a lane that runs a kernel (R136). -/
def swapFollows (s : State) (m : Sentence) (ws : List Word) : Bool :=
  let sel := maskSelected nSeaKparam ws
  (sel.contains 0 || sel.contains 4) && decide (0 < (s.lineAt m.inst.toNat).sea.tier)

/-- An element of a "By swap" row: the centre tap, and both ends of the echo delay window. -/
def bySwap (e : Nat) : Bool := e = 0 || e = 4 || e = 5

/-- A window whose lower end lies above its upper end is accepted; it holds no echo (DESIGN CHOICE, log entry 139). -/
def checkKparam (s : State) (m : Sentence) (ws : List Word) : Option Refuse :=
  (maskRange nSeaKparam m ws).or
    (if swapFollows s m ws ∧ !s.canSwap m.inst.toNat then some { code := cResource, detail := 2 } else none)

/-- Values that take effect at once are set; "By swap" values go with the swap, and are lost with it. -/
def actKparam (s : State) (m : Sentence) (ws : List Word) : State × Reply :=
  let l := m.inst.toNat
  let cs := maskChanges nSeaKparam m ws
  if swapFollows s m ws then
    let s1 := s.applyChanges nSeaKparam l (cs.filter fun c => !bySwap c.1)
    ((s1.commandSwap l (s.lineAt l).sea.version (cs.filter fun c => bySwap c.1) (ticketOf m)).follow, .accepted [])
  else ((setAct nSeaKparam s m ws).1, okDone)

def specSetSeaKparam : CmdSpec := { verb := vSet, noun := nSeaKparam, inst := .line, form := .mask, modes := .notShutter }
def procSetSeaKparam : Sentence → State → State := process specSetSeaKparam checkKparam actKparam (setEcho nSeaKparam)
def execSetSeaKparam (m : Sentence) (s : State) : Host.Outcome State Fault Refusal :=
  .next (submit vSet nSeaKparam procSetSeaKparam m s)

end Sys2Proof.Machine
end

