-- ==== Sys2Proof/Machine/HostLanes.lean ====
section
/-! DEFINITION. Host lanes (R248 to R296): acquisition and training, polarity and reversal, loss of signal, lock and markers, recovery,
figures; the 66-bit block-lock monitor; the HSL nouns and PFX_BLOCKLOCK. -/

namespace Sys2Proof.Machine

/-! Acquisition (R265). -/

/-- A host lane's acquisition is in a step. -/
def State.hostIn (s : State) (h n : Nat) : Bool :=
  decide (h < s.hosts) && (s.hostAt h).state = .acquire && (s.hostAt h).step == n

/-- R260: signal loss clears; it ends step 1, and a FAULT that it caused (R286). Without LANE_REFCLK nothing acquires (R42). -/
def execHslSignalDetect (h : Nat) (s : State) : Host.Outcome State Fault Refusal :=
  .next (
    let x := s.hostAt h
    if h < s.hosts ∧ x.state ≠ .down ∧ x.sigLoss ∧ s.dev.refclk then
      let s1 := s.modHost h fun y => { y with sigLoss := false }
      (match x.state with
        | .acquire => if x.step = 1 then s1.modHost h fun y => { y with step := 2 } else s1
        | .fault => if x.cause = HostCause.signal then s1.hostAcquire h true else s1
        | _ => s1).follow
    else s)

/-- Step 2 ends: the receiver captures a frequency offset `freq`, in 0.1 ppm, within ±200 ppm (R257). A warm acquisition and training
mode OFF skip steps 3 and 4 (R264, R286). -/
def execHslClockRecoveryLocked (h : Nat) (s : State) (freq : Int := 0) : Host.Outcome State Fault Refusal :=
  .next (
    if s.hostIn h 2 ∧ freq.natAbs ≤ 2000 then
      let x := s.hostAt h
      (s.modHost h fun y => { y with step := if x.warm ∨ x.mode = 1 then 5 else 3 }).follow
    else s)

/-- The request to the partner for a tap and stage of R266: the start preset, an increment, its undoing, a decrement, its undoing. Taps
are numbered c1, c-1, c0 in the order of the passes. -/
def State.request (s : State) (h tap trying : Nat) : PartnerReq :=
  match trying with
  | 0 => .preset (s.hostAt h).startPreset
  | n => .tap ([2, 0, 1].getD tap 1) (n == 1 || n == 4)

/-- A request for a partner tap is sent, unless 64 have been (R266). -/
def State.askTap (s : State) (h tap trying : Nat) : State :=
  if 64 ≤ (s.hostAt h).requests then s.modHost h fun x => { x with ready := true }
  else (s.modHost h fun x => { x with
    tapIdx := tap, trying := trying, asked := some (s.request h tap trying), requests := x.requests + 1 }).bump gHsl h 7

/-- The next tap of the pass, or a new pass when the last one kept a change, or receiver ready (R266). -/
def State.nextTap (s : State) (h : Nat) : State :=
  let x := s.hostAt h
  if x.tapIdx < 2 then s.askTap h (x.tapIdx + 1) 1
  else if x.kept then (s.modHost h fun y => { y with kept := false }).askTap h 0 1
  else s.modHost h fun y => { y with ready := true }

/-- Step 3 ends: polarity from the training frames under AUTO (R271), the request for the partner's start preset (R266). A
lane that has fallen back counts a late partner (R269). -/
def execTrainingFrameLock (h : Nat) (inverted : Bool) (s : State) : Host.Outcome State Fault Refusal :=
  .next (
    let x := s.hostAt h
    if s.hostIn h 3 then
      let s1 := s.modHost h fun y => { y with
        step := 4, polInv := if y.rxPol = 0 then inverted else y.polInv, trying := 0, tapIdx := 0, kept := false,
        ready := false, requests := 0, lastSnr := 0 }
      ((s1.bump gHsl h 2).askTap h 0 0).follow
    else if h < s.hosts ∧ x.state ≠ .down ∧ x.fellBack then s.bump gHsl h 6
    else s)

/-- Fallback (R265 step 4F, R268). -/
def State.fallBack (s : State) (h : Nat) : State :=
  (s.modHost h fun x => { x with step := 7, fellBack := true }).bump gHsl h 3

/-- R265: under AUTO the wait leads to fallback; under ON the lane keeps waiting. -/
def execTrainingWaitExpiry (h : Nat) (s : State) : Host.Outcome State Fault Refusal :=
  .next (if s.hostIn h 3 ∧ (s.hostAt h).mode = 2 then (s.fallBack h).follow else s)

/-- R266: 100 us after a request. `snr` in 0.01 dB; `atLimit`: the partner answered that its tap is at a limit. -/
def execTrainingMeasurementDone (h : Nat) (snr : Int) (atLimit : Bool) (s : State) : Host.Outcome State Fault Refusal :=
  .next (
    let x := s.hostAt h
    if s.hostIn h 4 ∧ !x.ready then
      let better := !atLimit && decide (x.lastSnr + 5 ≤ snr)
      let s1 := if atLimit then s.bump gHsl h 8 else s
      match x.trying with
      | 0 => (s1.modHost h fun y => { y with lastSnr := snr }).askTap h 0 1
      | 1 =>
        if better then (s1.modHost h fun y => { y with lastSnr := snr, kept := true }).nextTap h
        else if atLimit then s1.askTap h x.tapIdx 3
        else s1.askTap h x.tapIdx 2
      | 2 => s1.askTap h x.tapIdx 3
      | 3 =>
        if better then (s1.modHost h fun y => { y with lastSnr := snr, kept := true }).nextTap h
        else if atLimit then s1.nextTap h
        else s1.askTap h x.tapIdx 4
      | _ => s1.nextTap h
    else s)

/-- R261: the limits of the transmitter taps. -/
def tapsOk (cm1 c0 c1 : Int) : Bool :=
  decide (-16 ≤ cm1 ∧ cm1 ≤ 0 ∧ -24 ≤ c1 ∧ c1 ≤ 0 ∧ 32 ≤ c0 ∧ -cm1 + c0 - c1 = 64)

/-- The taps after a partner's request (R263, R267): c-1 and c1 move with c0; a request that would break R261, and any
preset but 1 to 5, changes nothing. -/
def tapsAfter (q : PartnerReq) (t : Int × Int × Int) : Int × Int × Int :=
  let new : Int × Int × Int :=
    match q with
    | .tap 0 true => (t.1 + 1, t.2.1 + 1, t.2.2)
    | .tap 0 false => (t.1 - 1, t.2.1 - 1, t.2.2)
    | .tap 2 true => (t.1, t.2.1 + 1, t.2.2 + 1)
    | .tap 2 false => (t.1, t.2.1 - 1, t.2.2 - 1)
    | .tap _ _ => t
    | .preset n => if 1 ≤ n ∧ n ≤ 5 then hostPreset n else t
  if tapsOk new.1 new.2.1 new.2.2 then new else t

/-- The answer to a request (R267): a preset other than 1 to 5 is not supported; one that would break R261, and one for c0 alone, finds
the tap at its limit. -/
def answerTo (q : PartnerReq) (t : Int × Int × Int) : HostAnswer :=
  match q with
  | .preset n => if 1 ≤ n ∧ n ≤ 5 then .updated else .notSupported
  | .tap _ _ => if tapsAfter q t = t then .atLimit else .updated

/-- R267. -/
def execPartnerRequest (h : Nat) (q : PartnerReq) (s : State) : Host.Outcome State Fault Refusal :=
  .next (
    if s.hostIn h 4 then
      let x := s.hostAt h
      let t := tapsAfter q (x.cm1, x.c0, x.c1)
      s.modHost h fun y => { y with cm1 := t.1, c0 := t.2.1, c1 := t.2.2, answer := answerTo q (x.cm1, x.c0, x.c1) }
    else s)

/-- The place of a training result in R293. -/
def TrainRes.num : TrainRes → Nat
  | .trained => 0
  | .fallback => 1
  | .off => 2

/-- Step 4 or 4F ends (R265, R295). After a fallback no SNR of training is stated. -/
def execTrainingComplete (h : Nat) (s : State) : Host.Outcome State Fault Refusal :=
  .next (
    let x := s.hostAt h
    if s.hostIn h 4 then
      ((s.modHost h fun y => { y with step := 5, ready := true, train := .trained }).raise evHslTrainDone
        [Word.nat h, Word.nat TrainRes.trained.num, Word.nat x.requests, Word.int x.lastSnr]).follow
    else if s.hostIn h 7 then
      (((s.modHost h fun y => { y with step := 5, train := .fallback }).raise evHslTrainDone
        [Word.nat h, Word.nat TrainRes.fallback.num, Word.nat x.requests, s.freeVal]).freeNext).follow
    else s)

/-- R268: under AUTO fallback, under ON a retry from step 2, where the transmitter is at its configured preset (R265). -/
def execTrainingTimeout (h : Nat) (s : State) : Host.Outcome State Fault Refusal :=
  .next (
    if s.hostIn h 3 ∨ s.hostIn h 4 then
      (if (s.hostAt h).mode = 2 then s.fallBack h
      else
        let t := hostPreset (s.hostAt h).txPreset
        (s.modHost h fun y => { y with
          step := 2, requests := 0, ready := false, cm1 := t.1, c0 := t.2.1, c1 := t.2.2 }).bump gHsl h 4).follow
    else s)

/-- The peaking with the highest SNR after convergence, of 2 dB, 3 dB, ...; of equal ones the lowest (R258, log entry 141). -/
def bestPeaking (snrs : List Int) : Nat :=
  (snrs.zipIdx.foldl (fun (b : Int × Nat) p => if b.1 < p.1 then (p.1, p.2 + 2) else b) (snrs.getD 0 0, 2)).2

/-- The DFE tap within ±0.35 of the main cursor; 0 with the DFE off (R259). -/
def HostLane.dfeIn (x : HostLane) (d : Int) : Int :=
  let m : Int := (35 * (x.ffe.getD (x.cursor - 1) 0).natAbs / 100 : Nat)
  if x.dfeOn then max (-m) (min m d) else 0

/-- Step 5 ends: `snrs` are the SNRs after convergence at 2 dB to 20 dB, in 0.01 dB, `ffe` and `dfe` the coefficients reached. AUTO keeps
the best peaking, a warm acquisition its own (R257 to R259, R286). -/
def execHslEqualisationConverged (h : Nat) (snrs : List Int) (s : State) (ffe : List Int := []) (dfe : Int := 0) :
    Host.Outcome State Fault Refusal :=
  .next (
    if s.hostIn h 5 then
      ((s.modHost h fun y => { y with
        step := 6, ffe := ffe
        ctle := if y.warm then y.ctle else if y.ctleSet = autoInt then bestPeaking snrs else y.ctleSet.toNat }).modHost h fun y =>
        { y with dfe := y.dfeIn dfe }).follow
    else s)

/-! Reversal and alignment markers (R271 to R280). -/

/-- The code of a verdict (log entry 10). -/
def Verdict.num : Verdict → Nat
  | .none => 0
  | .normal => 1
  | .reversed => 2
  | .undetermined => 3
  | .conflict => 4

/-- A port's markers lock in the group's order (R274). -/
def State.orderOk (s : State) (g p : Nat) : Bool :=
  match tget (s.groupAt g).results (fun _ => none) p with
  | some .both => true
  | some .normal => !s.groupRev g
  | some .mirrored => s.groupRev g
  | none => false

/-- The verdict of R274 from the port results. -/
def verdictOf (rs : List HuntResult) : Verdict :=
  if rs.contains .mirrored then (if rs.contains .normal then .conflict else .reversed)
  else if rs.contains .normal then .normal else .undetermined

/-- Every host lane of a port has finished step 6 or is UP. -/
def State.huntsEnded (s : State) (p : Nat) : Bool :=
  (s.portHosts p).all fun h => (s.hostAt h).amLock && ((s.hostAt h).state = .up || (s.hostAt h).state = .acquire)

/-- Ports whose markers lock only against the group's order. -/
def State.againstOrder (s : State) (g : Nat) : List Nat :=
  s.slots.filter fun p => (tget (s.groupAt g).results (fun _ => none) p).isSome && !s.orderOk g p

/-- R274, R275: the verdict is made when the first port of the group completes step 6 while every other lane is DOWN or in
ACQUIRE; a port that acquires later against it follows the CONFLICT outcome. -/
def State.judgeGroup (s : State) (g p : Nat) : State :=
  if s.parN nHslGroup g 0 = 0 ∧ s.huntsEnded p then
    if (s.groupAt g).verdict = .none then
      if (List.range 8).all fun k =>
          (s.hostAt (8 * g + k)).state = .down || (s.hostAt (8 * g + k)).state = .acquire then
        let v := verdictOf (s.slots.filterMap fun q => tget (s.groupAt g).results (fun _ => none) q)
        let s1 := (s.modGroup g fun x => { x with verdict := v }).raise evHslReversal [Word.nat g, Word.nat v.num]
        let s2 := s1.modGroup g fun x => { x with txRev := s1.txWantRev g }
        if v = .conflict then s2.raise evHslReversalConflict [Word.nat g, Word.nat (maskOf (s2.againstOrder g))] else s2
      else s
    else if s.orderOk g p then s
    else s.raise evHslReversalConflict [Word.nat g, Word.nat (maskOf [p])]
  else s

/-- A lane enters UP: its markers lock in the group's order and deskew holds over the lanes of its port that have lock (R278,
R279, R286). -/
def State.hostTryUp (s : State) (h : Nat) : State :=
  let x := s.hostAt h
  match s.portOfHost h with
  | none => s
  | some p =>
    let locked := (s.portHosts p).filter fun k => (s.hostAt k).amLock
    if s.live ∧ x.state = .acquire ∧ x.step = 6 ∧ x.amLock ∧ s.orderOk (h / 8) p ∧
        ((s.groupAt (h / 8)).verdict ≠ .none ∨ s.parN nHslGroup (h / 8) 0 ≠ 0) ∧
        spread (locked.map fun k => (s.hostAt k).skew) ≤ hostSkewMax then
      (s.modHost h fun y => { y with state := .up, step := 0, warmRuns := 0, lowSnr := 0, elastic := 0 }).raise evHslUp
        (Word.nat h :: field32 (s.since x.since) ++ [Word.nat x.train.num])
    else s

/-- Step 6 ends for a lane: its markers lock. Polarity is found here unless training has found it, an acquisition is warm, or it
is forced (R271). `skew` is the lane's delay in 0.01 ns. -/
def execMarkerHuntDone (h : Nat) (inverted : Bool) (res : HuntResult) (skew : Int) (s : State) :
    Host.Outcome State Fault Refusal :=
  .next (
    match s.portOfHost h with
    | none => s
    | some p =>
      if s.hostIn h 6 ∧ !(s.hostAt h).amLock then
        let g := h / 8
        let s1 := s.modHost h fun y => { y with
          amLock := true, skew := skew
          polInv := if y.rxPol = 0 && !y.warm && y.train ≠ .trained then inverted else y.polInv }
        let s2 := (s1.modGroup g fun x => { x with results := tset x.results (fun _ => none) p (some res) }).judgeGroup g p
        let s3 := (List.range 8).foldl (fun s k => s.hostTryUp (8 * g + k)) s2
        s3.portsCheck.follow
      else s)

/-! Losses (R254, R260, R270, R280). -/

/-- R260, R270, R296. -/
def execSignalLoss (h : Nat) (s : State) : Host.Outcome State Fault Refusal :=
  .next (
    let x := s.hostAt h
    if h < s.hosts ∧ x.state ≠ .down ∧ !x.sigLoss then
      let s1 := ((s.modHost h fun y => { y with sigLoss := true }).bump gHsl h 9).raise evHslSignalLost
        [Word.nat h, Word.nat x.state.num]
      (match x.state with
        | .up => s1.hostFault h .signal evHslSignalLost
        | .acquire =>
          (s1.modHost h fun y => { y with
            step := 1, amLock := false, ready := false, requests := 0, fellBack := false }).bump gHsl h 5
        | .fault => s1.modHost h fun y => { y with cause := if y.cause = HostCause.refclk then y.cause else .signal, recover := false }
        | _ => s1).follow
    else s)

/-- A loss of lock: condition 0 for SNR, 1 for frequency (R260). -/
def State.hostLockLost (s : State) (h cond : Nat) : State :=
  (((s.bump gHsl h 10).raise evHslLockLost [Word.nat h, Word.nat cond]).hostFault h .lock evHslLockLost).follow

/-- R260: `snr` in 0.01 dB. -/
def execHslSnrWindowEnd (h snr : Nat) (freqOut : Bool) (s : State) : Host.Outcome State Fault Refusal :=
  .next (
    if h < s.hosts ∧ (s.hostAt h).state = .up then
      if freqOut then s.hostLockLost h 1
      else
        let n := if snr < 50 * s.parN nHslCfg h 15 then (s.hostAt h).lowSnr + 1 else 0
        let s1 := s.modHost h fun y => { y with lowSnr := n }
        if 3 ≤ n then s1.hostLockLost h 0 else s1
    else s)

/-- R254: not in Terminate (R255). -/
def execElasticBufferSlip (h : Nat) (high : Bool) (s : State) : Host.Outcome State Fault Refusal :=
  .next (
    match s.hostCfg h with
    | none => s
    | some c =>
      if (s.hostAt h).state = .up ∧ c.profile ≠ .terminate then
        ((((s.modHost h fun y => { y with elastic := if high then 128 else -128 }).bump gHsl h 11).raise evHslSlip
          [Word.nat h, Word.flag high]).hostFault h .slip evHslSlip).follow
      else s)

/-- R280. -/
def execAmLockLoss (h pcs : Nat) (s : State) : Host.Outcome State Fault Refusal :=
  .next (
    if h < s.hosts ∧ (s.hostAt h).state = .up then
      let s1 := s.modHost h fun y => { y with amLock := false }
      (((s1.bump gHsl h 12).raise evHslAmLockLost [Word.nat h, Word.nat pcs]).hostFault h .amLock evHslAmLockLost).follow
    else s)

/-- The cause AM_LOCK clears; the 1 ms timer starts (R286). -/
def execAmLockRegained (h : Nat) (s : State) : Host.Outcome State Fault Refusal :=
  .next (
    if h < s.hosts ∧ (s.hostAt h).state = .fault ∧ (s.hostAt h).cause = HostCause.amLock then
      s.modHost h fun y => { y with amLock := true, recover := true }
    else s)

/-- 1 ms after the cause cleared: warm acquisition (R286). -/
def execFaultRecoveryTimer (h : Nat) (s : State) : Host.Outcome State Fault Refusal :=
  .next (
    if h < s.hosts ∧ (s.hostAt h).state = .fault ∧ (s.hostAt h).recover then (s.hostAcquire h true).follow else s)

/-- R287: warm again, but cold after three in a row. -/
def execWarmAcquisitionTimeout (h : Nat) (s : State) : Host.Outcome State Fault Refusal :=
  .next (
    if h < s.hosts ∧ (s.hostAt h).state = .acquire ∧ (s.hostAt h).warm then
      let n := (s.hostAt h).warmRuns + 1
      (if 3 ≤ n then s.hostAcquire h false
      else (s.modHost h fun y => { y with warmRuns := n }).hostAcquire h true).follow
    else s)

/-! Figures (R256, R293). -/

/-- The limit of the frequency offset, in 0.1 ppm (R256). -/
def offsetLimit (p : Profile) : Nat := if p = .terminate then 2000 else 20

/-- R259: one sign-error LMS update of FFE and DFE; the step is the implementation's (log entry 141). -/
def HostLane.adapt (x : HostLane) (u : HostUpdate) : HostLane :=
  let k := 2 ^ Config.hostStepShift
  let y := { x with ffe := (x.ffe.zip u.xs).map fun (p : Int × Int) => max (-512) (min 511 (p.1 - signInt u.err * p.2 / k)) }
  { y with dfe := y.dfeIn (x.dfe - signInt u.err * u.level / k) }

/-- R256, R259, R293: a period ends. `snr` in 0.01 dB, `offset` in 0.1 ppm, which moved between `lo` and `hi`: a sweep of more than
1,000 ppm is flagged SSC. `ups` are the period's LMS updates, which FREEZE leaves out; `rs` the RS symbols corrected on the lane's PCS
lanes, counted in Observe and Terminate, `errs` the bit errors of the test pattern, counted in TEST (R292). -/
def execHslPeriodEnd (h snr : Nat) (offset lo hi : Int) (s : State) (ups : List HostUpdate := []) (rs errs : Nat := 0) :
    Host.Outcome State Fault Refusal :=
  .next (
    let x := s.hostAt h
    if h < s.hosts ∧ x.state ≠ .down then
      let run := decide (x.state = .up) && s.parN nHslCfg h 12 == 0
      let s1 := s.modHost h fun y => { (if run then ups.foldl HostLane.adapt y else y) with
        snr := snr, offset := offset, disturbed := !(y.wasUp && y.state = .up), wasUp := y.state = .up,
        periods := y.periods + 1 }
      let s1 := if x.state = .test then s1.bumpBy gHsl h 14 errs else s1
      match s.hostCfg h with
      | none => s1
      | some c =>
        let s1 := if x.state = .up ∧ c.profile ≠ .transparent then s1.bumpBy gHsl h 13 rs else s1
        if offsetLimit c.profile < offset.natAbs then
          s1.raise evHslRefOffset [Word.nat h, Word.int offset, Word.flag (decide (10000 < hi - lo))]
        else s1
    else s)

/-! The block-lock monitor (R282 to R285). -/

/-- The monitor of a port and direction watches its stream (R282, R308). -/
def State.watched (s : State) (p : Nat) : Bool :=
  match (s.portAt p).cfg with
  | none => false
  | some c => c.profile ≠ .transparent && ((s.portAt p).state = .acquire || (s.portAt p).state = .up || (s.portAt p).state = .fault)

/-- One header: hunting, or counting in LOCK. A window that has ended gives way to the next one. -/
def Block.take (x : Block) (valid : Bool) : Block :=
  if x.lock then
    let y : Block := if 1024 ≤ x.seen then { x with seen := 0, bad := 0 } else x
    let n := if valid then y.bad else y.bad + 1
    if 65 ≤ n then { lock := false, pos := y.pos } else { y with seen := y.seen + 1, bad := n }
  else if valid then
    if 64 ≤ x.run + 1 then { lock := true, pos := x.pos } else { x with run := x.run + 1 }
  else { x with pos := (x.pos + 1) % 66, run := 0 }

def execBlockReceived (p d : Nat) (hdr : BitVec 2) (s : State) : Host.Outcome State Fault Refusal :=
  .next (
    if p < s.lines ∧ d < 2 ∧ s.watched p then
      let i := blockIdx p d
      let valid := decide (hdr = 1 ∨ hdr = 2)
      let old := s.blockAt i
      let new := old.take valid
      let s1 := s.modBlock i fun _ => new
      let s2 := if old.lock && !valid then s1.bump gPfx i 1 else s1
      if new.lock = old.lock then s2
      else if new.lock then (s2.raise evPfxBlockLock [Word.nat p, Word.nat d]).follow
      else ((s2.bump gPfx i 0).raise evPfxBlockLockLost [Word.nat p, Word.nat d]).follow
    else s)

/-- R283: a window of 1,024 blocks ends. -/
def execBlockLockWindowEnd (p d : Nat) (s : State) : Host.Outcome State Fault Refusal :=
  .next (
    let x := s.blockAt (blockIdx p d)
    if p < s.lines ∧ d < 2 ∧ x.lock ∧ 1024 ≤ x.seen then
      s.modBlock (blockIdx p d) fun y => { y with seen := 0, bad := 0 }
    else s)

/-! The HSL nouns (R294). -/

/-- The parameters of R290 with the live taps in row 5. -/
def State.hslParams (s : State) (h : Nat) : List Word :=
  let x := s.hostAt h
  s.paramSet nHslCfg h |>.set 7 (Word.int x.cm1) |>.set 8 (Word.int x.c1)

def specGetHslCfg : CmdSpec := { verb := vGet, noun := nHslCfg, inst := .host, form := .fixed [0], modes := .any }
def procGetHslCfg : Sentence → State → State := process specGetHslCfg noCheck (getAct State.hslParams) noEcho
def execGetHslCfg (m : Sentence) (s : State) : Host.Outcome State Fault Refusal :=
  .next (submit vGet nHslCfg procGetHslCfg m s)

/-- The taps that a SET asks for. -/
def askedTaps (s : State) (m : Sentence) (ws : List Word) : Option (Int × Int) :=
  if (maskSelected nHslCfg ws).contains 5 then
    let cs := maskChanges nHslCfg m ws
    some ((changed s nHslCfg m.inst.toNat 5 cs).toInt, (changed s nHslCfg m.inst.toNat 6 cs).toInt)
  else none

/-- R261. -/
def checkHslCfg (s : State) (m : Sentence) (ws : List Word) : Option Refuse :=
  (maskRange nHslCfg m ws).or
    (match askedTaps s m ws with
      | none => none
      | some t => if tapsOk t.1 (64 + t.1 + t.2) t.2 then none else some { code := cResource, detail := 1 })

/-- The taps take effect at once, in UP or TEST only. -/
def actHslCfg (s : State) (m : Sentence) (ws : List Word) : State × Reply :=
  let h := m.inst.toNat
  let s1 := (setAct nHslCfg s m ws).1
  (match askedTaps s m ws with
    | none => s1
    | some t =>
      if (s.hostAt h).state = .up ∨ (s.hostAt h).state = .test then
        s1.modHost h fun x => { x with cm1 := t.1, c0 := 64 + t.1 + t.2, c1 := t.2 }
      else s1, okDone)

def specSetHslCfg : CmdSpec := { verb := vSet, noun := nHslCfg, inst := .host, form := .mask, modes := .notShutter }
def procSetHslCfg : Sentence → State → State := process specSetHslCfg checkHslCfg actHslCfg State.hslParams
def execSetHslCfg (m : Sentence) (s : State) : Host.Outcome State Fault Refusal :=
  .next (submit vSet nHslCfg procSetHslCfg m s)

/-- Settings, verdict, receive and transmit order, per slot the result of R273: 0 none, 1 NORMAL, 2 MIRRORED, 3 BOTH. -/
def State.groupWords (s : State) (g : Nat) : List Word :=
  let x := s.groupAt g
  [s.param nHslGroup g 0, s.param nHslGroup g 1, Word.nat x.verdict.num, Word.flag (s.groupRev g), Word.flag x.txRev] ++
    (List.range 8).map fun p => Word.nat (match tget x.results (fun _ => none) p with
      | none => 0 | some .normal => 1 | some .mirrored => 2 | some .both => 3)

def specGetHslGroup : CmdSpec := { verb := vGet, noun := nHslGroup, inst := .group, form := .fixed [0], modes := .any }
def procGetHslGroup : Sentence → State → State := process specGetHslGroup noCheck (getAct State.groupWords) noEcho
def execGetHslGroup (m : Sentence) (s : State) : Host.Outcome State Fault Refusal :=
  .next (submit vGet nHslGroup procGetHslGroup m s)

/-- R291: a forced receive setting, or another one than at present, needs every lane of the group DOWN. -/
def checkHslGroup (s : State) (m : Sentence) (ws : List Word) : Option Refuse :=
  let g := m.inst.toNat
  if !s.groupDown g ∧ (ws.getD 0 0 ≠ 0 ∨ ws.getD 0 0 ≠ s.param nHslGroup g 0) then
    some { code := cStateRefused, detail := 2 }
  else if !((hslGroupRows.zip ws).all fun p => p.1.ok p.2) then some { code := cResource, detail := 1 }
  else none

def specSetHslGroup : CmdSpec := { verb := vSet, noun := nHslGroup, inst := .group, form := .fixed [8], modes := .notShutter }
def procSetHslGroup : Sentence → State → State :=
  process specSetHslGroup checkHslGroup
    (fun s m ws => ((s.setParams nHslGroup m.inst.toNat 0 (ws.take 2)).follow, okDone))
    (fun s g => [s.param nHslGroup g 0, s.param nHslGroup g 1])
def execSetHslGroup (m : Sentence) (s : State) : Host.Outcome State Fault Refusal :=
  .next (submit vSet nHslGroup procSetHslGroup m s)

/-- The physical receive lane of a logical lane (R251). -/
def State.physLane (s : State) (h : Nat) : Nat := if s.groupRev (h / 8) then 8 * (h / 8) + 7 - h % 8 else h

/-- State, step, physical lane, polarity inverted, training result, port skew in 0.01 ns, then the taps c-1, c0 and c1 that the
worked example of chapter 6 reads back here (log entry 10). -/
def State.hslStatus (s : State) (h : Nat) : List Word :=
  let x := s.hostAt h
  [Word.nat x.state.num, Word.nat x.step, Word.nat (s.physLane h), Word.flag x.polInv, Word.nat x.train.num,
   Word.int (match s.portOfHost h with
     | none => 0
     | some p => spread ((s.portHosts p).map fun k => (s.hostAt k).skew)),
   Word.int x.cm1, Word.int x.c0, Word.int x.c1]

def specGetHslStatus : CmdSpec := { verb := vGet, noun := nHslStatus, inst := .host, form := .fixed [0], modes := .any }
def procGetHslStatus : Sentence → State → State := process specGetHslStatus noCheck (getAct State.hslStatus) noEcho
def execGetHslStatus (m : Sentence) (s : State) : Host.Outcome State Fault Refusal :=
  .next (submit vGet nHslStatus procGetHslStatus m s)

/-- The figures of R293 with DISTURBED, then the counters of R292. -/
def State.hslQuality (s : State) (h : Nat) : List Word :=
  let x := s.hostAt h
  [Word.nat x.snr, Word.int x.offset, Word.nat x.ctle, Word.int x.dfe, Word.int x.cm1, Word.int x.c0, Word.int x.c1,
   Word.nat x.train.num, Word.flag x.polInv, Word.flag x.disturbed] ++ (List.range 15).flatMap (s.statWords gHsl h)

def specGetHslQuality : CmdSpec := { verb := vGet, noun := nHslQuality, inst := .host, form := .fixed [0], modes := .any }
def procGetHslQuality : Sentence → State → State := process specGetHslQuality noCheck (getAct State.hslQuality) noEcho
def execGetHslQuality (m : Sentence) (s : State) : Host.Outcome State Fault Refusal :=
  .next (submit vGet nHslQuality procGetHslQuality m s)

/-- R286: COLD 0, WARM 1; the port of an UP lane follows R308. -/
def State.restartTrain (s : State) (h : Nat) (warm : Bool) : State :=
  let was := (s.hostAt h).state
  let s1 := (s.modHost h fun x => { x with warmRuns := 0 }).hostAcquire h warm
  match was, s1.portOfHost h with
  | .up, some p => s1.portFail p [] [h] laneRestart
  | _, _ => s1

def specRestartHslTrain : CmdSpec := { verb := vRestart, noun := nHslTrain, inst := .host, form := .fixed [4], modes := .psg }
def procRestartHslTrain : Sentence → State → State :=
  process specRestartHslTrain
    (fun s m ws =>
      if (s.hostAt m.inst.toNat).state = .down then some { code := cStateRefused, detail := 2 } else enumCheck 2 ws)
    (fun s m ws => ((s.restartTrain m.inst.toNat (ws.getD 0 0 = 1)).follow, okDone)) noEcho
def execRestartHslTrain (m : Sentence) (s : State) : Host.Outcome State Fault Refusal :=
  .next (submit vRestart nHslTrain procRestartHslTrain m s)

/-- State (0 HUNT, 1 LOCK), position, invalid headers in the window, counters: losses, invalid headers, ticks in HUNT. -/
def State.blockWords (s : State) (i : Nat) : List Word :=
  let x := s.blockAt i
  [Word.flag x.lock, Word.nat x.pos, Word.nat x.bad] ++ (List.range 3).flatMap (s.statWords gPfx i)

def specGetPfxBlocklock : CmdSpec := { verb := vGet, noun := nPfxBlocklock, inst := .portDir, form := .fixed [0], modes := .any }
def procGetPfxBlocklock : Sentence → State → State := process specGetPfxBlocklock noCheck (getAct State.blockWords) noEcho
def execGetPfxBlocklock (m : Sentence) (s : State) : Host.Outcome State Fault Refusal :=
  .next (submit vGet nPfxBlocklock procGetPfxBlocklock m s)

end Sys2Proof.Machine
end

