-- ==== Sys2Proof/Machine/Slots.lean ====
section
/-! DEFINITION. The 64-bit slot (R23 to R27) and the places of the telemetry region (R367, R479, R574). -/

namespace Sys2Proof.Machine

/-! Source classes (R27). -/
def clsLex : Nat := 0x01
def clsUnplaced : Nat := 0x02
def clsPmc : Nat := 0x03
def clsStat : Nat := 0x04
def clsMon : Nat := 0x05
def clsThermal : Nat := 0x06
def clsSample : Nat := 0x07

/-- A slot: PART, CLASS, INSTANCE, the flags STALE, POISONED, DISCONTINUITY and SATURATED as bits 3 to 0, VALUE (R23). With
POISONED the device writes VALUE as 0 (R25). -/
def slotVal (part cls inst : Nat) (flags : BitVec 4) (value : Nat) : Nat :=
  (part % 2) * 2 ^ 63 + (cls % 128) * 2 ^ 56 + (inst % 65536) * 2 ^ 40 + flags.toNat * 2 ^ 36 +
    (if flags.getLsbD 2 then 0 else value % 2 ^ 36)

/-- A slot as its bytes (R23). -/
def slot (cls inst : Nat) (flags : BitVec 4) (value : Nat) : List Byte := leBytes 8 (slotVal 0 cls inst flags value)

/-- A quantity wider than 36 bits: two slots (R24). -/
def slotPair (cls inst : Nat) (flags : BitVec 4) (value : Nat) : List Byte :=
  leBytes 8 (slotVal 0 cls inst flags value) ++ leBytes 8 (slotVal 1 cls inst flags (value % 2 ^ 64 / 2 ^ 36))

/-- Flags of a slot. -/
def slotFlags (stale poisoned disc sat : Bool) : BitVec 4 :=
  BitVec.ofNat 4 (sat.toNat + disc.toNat * 2 + poisoned.toNat * 4 + stale.toNat * 8)

/-- The telemetry region in the device address space (R478). -/
def telemetry : Nat := 0x30000000
def telPmc : Nat := 0x00400000
def telSample : Nat := 0x00800000
def telMon : Nat := 0x01000000
def telHist : Nat := 0x02000000

/-- Writes bytes at a telemetry offset. -/
def State.telPut (s : State) (off : Nat) (bs : List Byte) : State := s.memPut (telemetry + off) bs

end Sys2Proof.Machine
end

