-- ==== Sys2Proof/Machine/Lexicon.lean ====
section
/-! DEFINITION. The Lexicon (R350 to R380): keys and their index, insertion and moves, counting, early drains, dump passes,
retirement and its nouns. The totals of R365 stand with each context; the dump buffers stand in LPDDR5X. -/

namespace Sys2Proof.Machine

/-! Items of the Lexicon's statistics (R379). -/
def lxLookups : Nat := 0
def lxMisses : Nat := 1
def lxInsertions : Nat := 2
def lxMoves : Nat := 3
def lxFailures : Nat := 4
def lxOverflows : Nat := 5
def lxRetirements : Nat := 6
def lxDrains : Nat := 7
def lxLate : Nat := 8
def lxStale : Nat := 9
def lxPoisoned : Nat := 10

/-! Keys (R355 to R357). -/

/-- A tag that the parse skips (R356). -/
def isTag (t : BitVec 16 × BitVec 16) : Bool := t.1 == 0x8100 || t.1 == 0x88A8

/-- The tags that the parse skips: at most two (R356). -/
def skippedTags (f : Frame) : List (BitVec 16 × BitVec 16) := (f.tags.takeWhile isTag).take 2

/-- The 16-bit value that follows the last skipped tag, below 0x0600 as 0 (R356). -/
def frameEtherType (f : Frame) : Option Nat :=
  let v : Option (BitVec 16) := match f.tags.drop (skippedTags f).length with | [] => f.etype | t :: _ => some t.1
  v.map fun e => if e.toNat < 0x600 then 0 else e.toNat

/-- Big-endian bytes of a number. -/
def beBytes (n v : Nat) : List Byte := (leBytes n v).reverse

/-- The VLAN field of R355. -/
def frameVlan (f : Frame) : Nat :=
  match skippedTags f with
  | [] => 0
  | t :: _ => 0x8000 + t.2.toNat % 4096

/-- The key image of R355 under the port's mask (bits DA, SA, VLAN, ETYPE); none for a frame that ends before ETYPE. -/
def frameKey (f : Frame) (p d mask : Nat) : Option (List Byte) :=
  (frameEtherType f).map fun e =>
    let keep (b n v : Nat) : List Byte := beBytes n (if mask.testBit b then 0 else v)
    BitVec.ofNat 8 (2 * p + d) :: (keep 0 6 f.da.toNat ++ keep 1 6 f.sa.toNat ++ keep 2 2 (frameVlan f) ++ keep 3 2 e)

/-- R357: CRC-32C over the salt, least significant byte first, and the key image; bits [10:0]. -/
def lexHash (salt : Word) (key : List Byte) : Nat := crcReflected 0x82F63B78 (leBytes 4 salt.toNat ++ key) % 2048

/-- The two candidate buckets of a key (R357). -/
def State.buckets (s : State) (key : List Byte) : Nat × Nat :=
  (lexHash (s.param nLexCfg 0 2) key, 2048 + lexHash (s.param nLexCfg 0 3) key)

/-- The context number + 1 at an index entry, 4 x bucket + entry; 0 for a free one. -/
def State.entryAt (s : State) (i : Nat) : Nat := tget s.lex.index (fun _ => 0) i
def State.setEntry (s : State) (i v : Nat) : State :=
  { s with lex := { s.lex with index := tset s.lex.index (fun _ => 0) i v } }

/-- The entries of a bucket. -/
def bucketSlots (b : Nat) : List Nat := [4 * b, 4 * b + 1, 4 * b + 2, 4 * b + 3]

/-- The entries in which a key may stand. -/
def State.candidates (s : State) (key : List Byte) : List Nat :=
  bucketSlots (s.buckets key).1 ++ bucketSlots (s.buckets key).2

/-- A lookup reads both buckets (R357). -/
def State.lookup (s : State) (key : List Byte) : Option Nat :=
  ((s.candidates key).find? fun i => s.entryAt i != 0 && (s.ctxAt (s.entryAt i - 1)).key == key).map fun i => s.entryAt i - 1

/-- LIVE contexts. -/
def State.liveCtx (s : State) : Nat := (s.lex.ctx.filter fun c => c.2.state = .live).length

/-- LIVE contexts of a port. -/
def State.portLiveCtx (s : State) (p : Nat) : Nat :=
  (s.lex.ctx.filter fun c => c.2.state = .live && (c.2.key.headD 0).toNat / 2 == p).length

/-! Insertion (R358, R359). -/

/-- The lowest number from `n` on that no LIVE context of a table holds. -/
def firstFreeCtx : Nat → Tbl Ctx → Nat
  | n, [] => n
  | n, (k, c) :: r => if n < k then n else if c.state = .live then firstFreeCtx (n + 1) r else n

/-- The bucket of a resident key other than the one that entry `i` is in. -/
def State.otherBucket (s : State) (i : Nat) : Nat :=
  let bs := s.buckets (s.ctxAt (s.entryAt i - 1)).key
  if i / 4 = bs.1 then bs.2 else bs.1

/-- A free entry among those given. -/
def State.freeEntry (s : State) (is : List Nat) : Option Nat := is.find? fun i => s.entryAt i == 0

/-- The breadth-first search of R359: paths of entries, the last moved key first. Answers the free entry before the path. -/
def State.chain (s : State) : Nat → List (List Nat) → Option (List Nat)
  | 0, _ => none
  | n + 1, paths =>
    let ends : List Nat → Option (List Nat) := fun p =>
      match p with
      | [] => none
      | i :: _ => (s.freeEntry (bucketSlots (s.otherBucket i))).map (· :: p)
    match paths.findSome? ends with
    | some p => some p
    | none => s.chain n (paths.flatMap fun p =>
        match p with
        | [] => []
        | i :: _ => (bucketSlots (s.otherBucket i)).map (· :: p))

/-- Shifts each key of a path one entry on; answers the entry that comes free (R359). -/
def State.shift (s : State) : List Nat → State × Nat
  | [] => (s, 0)
  | [i] => (s, i)
  | i :: j :: r => ((s.setEntry i (s.entryAt j)).setEntry j 0).shift (j :: r)

/-- An entry for a key, after at most three moves. -/
def State.makeRoom (s : State) (key : List Byte) : Option (State × Nat) :=
  match s.freeEntry (s.candidates key) with
  | some i => some (s, i)
  | none =>
    match s.chain 3 ((s.candidates key).map fun i => [i]) with
    | none => none
    | some p => some ((s.shift p).1.bumpBy gLex 0 lxMoves (p.length - 1), (s.shift p).2)

/-- A placement failure, with LEX_TABLE_PRESSURE at most once per second (R359, R380). -/
def State.placeFailure (s : State) : State :=
  let s1 := s.bump gLex 0 lxFailures
  let n := s1.lex.failures + 1
  let due := match s1.lex.pressAt with | none => true | some b => decide (625000000 ≤ s1.since b)
  if due then
    ({ s1 with lex := { s1.lex with failures := 0, pressAt := some s1.tku.bcnt } }).raise evLexTablePressure
      [Word.nat n, Word.nat s1.liveCtx]
  else { s1 with lex := { s1.lex with failures := n } }

/-- The new context of a number: each reuse increments the generation and sets DISCONTINUITY (R364). -/
def Ctx.renew (c : Ctx) (key : List Byte) (installed : Bool) (epoch : Nat) : Ctx :=
  { key := key, state := .live, installed := installed, epoch := epoch
    gen := if c.state = .retired then (c.gen + 1) % 256 else c.gen, disc := c.state = .retired }

/-- floor(BCNT / 625,000) modulo 2^32 (R354). -/
def State.epoch (s : State) : Nat := s.tku.bcnt.toNat / 625000 % 2 ^ 32

/-- Creates a context for a key that has none: the lowest free number, an entry in either bucket (R358, R359). -/
def State.insertKey (s : State) (key : List Byte) (installed : Bool) : State × Option Nat :=
  let n := firstFreeCtx 0 s.lex.ctx
  if 16383 < n then (s.placeFailure, none)
  else
    match s.makeRoom key with
    | none => (s.placeFailure, none)
    | some (s1, i) =>
      (((s1.setEntry i (n + 1)).modCtx n fun c => c.renew key installed s.epoch).bump gLex 0 lxInsertions, some n)

/-- The inserter takes the first queued key; a key already present is not inserted twice (R358). -/
def execKeyInsertion (s : State) : Host.Outcome State Fault Refusal :=
  .next (
    match s.lex.insertq with
    | [] => s
    | k :: r =>
      let s1 := { s with lex := { s.lex with insertq := r } }
      if (s1.lookup k).isSome then s1 else (s1.insertKey k false).1)

/-! Counting (R351 to R353, R358, R366). -/

/-- A 36-bit counter after `n` more; it holds at its largest value. -/
def add36 (v n : Nat) : Nat := min (v + n) max36

/-- One frame in a context or unplaced context (R352); a counter at its maximum is marked (R23). -/
def Ctx.frame (c : Ctx) (bytes : Nat) (err ptp : Bool) (epoch : Nat) : Ctx :=
  { c with frames := add36 c.frames 1, bytes := add36 c.bytes bytes, errored := add36 c.errored err.toNat
           ptp := add36 c.ptp ptp.toNat, epoch := epoch
           sat := c.sat ||| (BitVec.ofBool (decide (max36 ≤ c.ptp + ptp.toNat)) ++ BitVec.ofBool (decide (max36 ≤ c.errored + err.toNat)) ++
             BitVec.ofBool (decide (max36 ≤ c.bytes + bytes)) ++ BitVec.ofBool (decide (max36 ≤ c.frames + 1))) }

/-- A counter has reached 2^35 (R366). -/
def Ctx.full (c : Ctx) : Bool := [c.frames, c.bytes, c.errored, c.ptp].any fun v => decide (2 ^ 35 ≤ v)

/-- Contexts by number, unplaced contexts from 16,384 on. -/
def State.anyCtx (s : State) (n : Nat) : Ctx := if n < 16384 then s.ctxAt n else s.unplacedAt (n - 16384)
def State.modAnyCtx (s : State) (n : Nat) (f : Ctx → Ctx) : State :=
  if n < 16384 then s.modCtx n f else s.modUnplaced (n - 16384) f

/-- Counts a frame in a context and queues the early drain (R351, R366). -/
def State.countIn (s : State) (n bytes : Nat) (err ptp : Bool) : State :=
  let s1 := s.modAnyCtx n fun c => c.frame bytes err ptp s.epoch
  if (s1.anyCtx n).full && !s1.lex.drainq.contains n then { s1 with lex := { s1.lex with drainq := s1.lex.drainq ++ [n] } }
  else s1

/-- R353. -/
def frameErrored (f : Frame) : Bool :=
  !f.fcsOk || decide (f.length < 64) || decide (16383 < f.length) || f.errCtrl || f.cut

/-- A missed key goes to the insertion queue under learning AUTO, unless the frame is errored or the key is queued
(R358, R360). -/
def State.queueKey (s : State) (p : Nat) (key : List Byte) (err : Bool) : State :=
  if s.parN nLexPort p 0 ≠ 0 ∨ err ∨ s.lex.insertq.contains key then s
  else if 256 ≤ s.lex.insertq.length then s.bump gLex 0 lxOverflows
  else { s with lex := { s.lex with insertq := s.lex.insertq ++ [key] } }

/-- R351: every frame counts once, in its context or in the unplaced context of port and direction. -/
def State.lexFrame (s : State) (p d : Nat) (f : Frame) (ptp : Bool) : State :=
  let err := frameErrored f
  let bytes := min f.length 16383
  let lost (s : State) : State := s.countIn (16384 + 2 * p + d) bytes err ptp
  if s.parN nLexPort p (2 + d) = 1 then lost s
  else
    match frameKey f p d (s.parN nLexPort p 1) with
    | none => lost s
    | some key =>
      let s1 := s.bump gLex 0 lxLookups
      match s1.lookup key with
      | some n => s1.countIn n bytes err ptp
      | none => (lost (s1.bump gLex 0 lxMisses)).queueKey p key err

/-! Reads into the totals (R365, R366). -/

/-- Read-and-zero: the counters are added to the totals. -/
def Ctx.drain (c : Ctx) : Ctx :=
  { c with tFrames := (c.tFrames + c.frames) % 2 ^ 64, tBytes := (c.tBytes + c.bytes) % 2 ^ 64
           tErrored := (c.tErrored + c.errored) % 2 ^ 64, tPtp := (c.tPtp + c.ptp) % 2 ^ 64
           frames := 0, bytes := 0, errored := 0, ptp := 0 }

/-- The totals of a context. -/
def Ctx.totals (c : Ctx) : List Nat := [c.tFrames, c.tBytes, c.tErrored, c.tPtp]

/-- All four counters read zero. -/
def Ctx.quiet (c : Ctx) : Bool := c.frames == 0 && c.bytes == 0 && c.errored == 0 && c.ptp == 0

/-- A context as a pass leaves it, the totals of its record and the flags of its slots but for SATURATED: an unreadable one keeps its
counts and repeats the totals of the last dump (R23, R26, R370), a POISONED total restarts from the next read, whose slots carry
DISCONTINUITY (R370). -/
def Ctx.visit (c : Ctx) (first stale : Bool) : Ctx × List Nat × BitVec 4 :=
  if stale then ({ c with disc := false, drains := 0 }, c.last, slotFlags true false (c.disc || first) false)
  else
    let d := c.drain
    let e := if c.poisoned then { d with tFrames := 0, tBytes := 0, tErrored := 0, tPtp := 0 } else d
    ({ e with last := e.totals, disc := c.poisoned, poisoned := false, sat := 0, drains := 0 }, e.totals,
      slotFlags false c.poisoned (c.disc || first) false)

/-- A record: eight slots, SATURATED for each quantity by itself (R23, R368). -/
def ctxRecord (cls n : Nat) (flags sat : BitVec 4) (totals : List Nat) : List Byte :=
  (List.range 4).flatMap fun i => slotPair cls n (flags ||| slotFlags false false false (sat.getLsbD i)) (totals.getD i 0)

/-- The directory entry of R368. -/
def dirEntry (key : List Byte) (state gen : Nat) (installed : Bool) (epoch drains : Nat) : List Byte :=
  (key ++ List.replicate 17 0).take 17 ++ [BitVec.ofNat 8 state, BitVec.ofNat 8 gen, if installed then 1 else 0] ++
    leBytes 4 epoch ++ leBytes 4 drains ++ [0, 0, 0, 0]

/-- The directory entry of a context as it stands. -/
def Ctx.dir (c : Ctx) : List Byte :=
  match c.state with
  | .live => dirEntry c.key 1 c.gen c.installed c.epoch c.drains
  | _ => dirEntry [] 0 c.gen false 0 0

/-- Dump buffer of a sequence number (R367). -/
def lexBuffer (seq : Nat) : Nat := telemetry + (seq % 2) * 0x200000

/-- Stores bytes inside a block whose units have been counted. -/
def State.splice (s : State) (a : Nat) (bs : List Byte) : State :=
  { s with mem := { s.mem with data := spliceCells s.mem.data a bs } }

/-- The bank of a context cannot be read: it is being changed to a spare (R370). -/
def State.ctxStale (s : State) (n : Nat) : Bool := (s.bankAt (n / 512)).filling

/-- Reads of counter words that find them not good: an uncorrectable one makes the context's next slots POISONED (R374). -/
def State.counterReads (s : State) (us : List SramRead) : State :=
  (badRows 3 us).foldl (fun s n =>
    if (s.anyCtx n).state = .live ∨ (16384 ≤ n ∧ n < 16400) then s.modAnyCtx n fun c => { c with poisoned := true } else s) (s.sramReads us)

/-- R366: the first queued context that can be read is drained (R26, R370). -/
def execEarlyDrainDone (s : State) (ecc : List SramRead := []) : Host.Outcome State Fault Refusal :=
  .next (
    match s.lex.drainq.find? fun n => !s.ctxStale n with
    | none => s
    | some n =>
      let s1 := if ecc.isEmpty then s else s.counterReads ecc
      let s2 := { s1 with lex := { s1.lex with drainq := s1.lex.drainq.erase n } }
      let s3 := (s2.modAnyCtx n fun c => { c.drain with drains := c.drains + 1 }).bump gLex 0 lxDrains
      if ecc.isEmpty then s3 else s3.follow)

/-- A learned context that the pass retires (R362), or one marked for it (R363). -/
def State.ctxRetires (s : State) (c : Ctx) : Bool :=
  c.marked || (!c.installed && c.quiet && (s.parI nLexCfg 0 1 != offInt) &&
    decide (s.parN nLexCfg 0 1 * 1000 < (s.epoch + 2 ^ 32 - c.epoch) % 2 ^ 32))

/-- Frees a number: the key leaves the index, totals are discarded, the generation stays (R362, R364). -/
def State.retireCtx (s : State) (n : Nat) : State :=
  let s1 := { s with lex := { s.lex with
    index := s.lex.index.filter fun e => e.2 ≠ n + 1, drainq := s.lex.drainq.filter (· ≠ n) } }
  (s1.modCtx n fun c => { state := .retired, gen := c.gen }).bump gLex 0 lxRetirements

/-- Visits one context (R365): its record and directory entry go into the buffer at `base`. -/
def State.visitCtx (s : State) (base : Nat) (first : Bool) (n : Nat) : State :=
  let c := s.ctxAt n
  if c.state = .live then
    let stale := s.ctxStale n
    let gone := !stale && s.ctxRetires c
    let v := c.visit first stale
    let s1 := s.modCtx n fun _ => v.1
    let s2 := s1.splice (base + 0x10000 + 64 * n) (ctxRecord clsLex n v.2.2 c.sat v.2.1)
    let s3 := s2.splice (base + 0x110000 + 32 * n)
      (dirEntry c.key (if gone then 2 else 1) c.gen c.installed c.epoch c.drains)
    let s4 := if stale then s3.bump gLex 0 lxStale else s3
    let s5 := if c.poisoned ∧ !stale then s4.bump gLex 0 lxPoisoned else s4
    if gone then s5.retireCtx n else s5
  else s.splice (base + 0x110000 + 32 * n) c.dir

/-- Visits one unplaced context. -/
def State.visitUnplaced (s : State) (base : Nat) (first : Bool) (i : Nat) : State :=
  let v := (s.unplacedAt i).visit first false
  (s.modUnplaced i fun _ => v.1).splice (base + 0x1000 + 64 * i)
    (ctxRecord clsUnplaced i v.2.2 (s.unplacedAt i).sat v.2.1)

/-- Flags of a dump header (R367). -/
def dumpFlags (late flush first : Bool) : Nat := late.toNat + 2 * flush.toNat + 4 * first.toNat

/-- Interval between passes in ms (R376). -/
def State.lexInterval (s : State) : Nat := 10 * s.parN nLexCfg 0 0

/-- The header of R367. -/
def State.lexHeader (s : State) (start : BitVec 64) (flags : Nat) : List Byte :=
  leBytes 8 s.lex.seq ++ leBytes 8 start.toNat ++ leBytes 8 s.tku.bcnt.toNat ++ leBytes 4 s.lexInterval ++
    leBytes 2 s.liveCtx ++ [BitVec.ofNat 8 flags] ++ List.replicate 33 0

/-- A whole pass: every unplaced context and every context in number order, those of a bank in change last (R365, R370). -/
def State.lexPass (s : State) (first : Bool) : State :=
  let base := lexBuffer s.lex.seq
  let s1 := (s.memClear (base + 0x10000) 0x180000).memClear (base + 0x1000) 0x400
  let s2 := (List.range 16).foldl (fun s i => s.visitUnplaced base first i) s1
  let ns := s2.lex.ctx.map Prod.fst
  (ns.filter (fun n => !s2.ctxStale n) ++ ns.filter s2.ctxStale).foldl (fun s n => s.visitCtx base first n) s2

/-! Dump passes (R365, R371, R372). -/

/-- Dumps run (R372). -/
def State.dumpsRun (s : State) : Bool := s.unitOn fLex && (s.live || s.dev.mode = .workshop)

/-- Starts a pass, or lets it follow the one that runs (R372). -/
def State.startPass (s : State) (late flush : Bool) (t : List Ticket) : State :=
  match s.lex.pass with
  | none => { s with lex := { s.lex with pass := some (s.tku.bcnt, late, flush), tickets := t } }
  | some _ => { s with lex := { s.lex with again := some (flush || s.lex.again.getD false), waiting := s.lex.waiting ++ t } }

/-- The scheduled pass starts; late, the yield of rank 6 is reported (R371, R655). -/
def execDumpIntervalExpiry (delay kept : Nat) (s : State) : Host.Outcome State Fault Refusal :=
  .next (
    if s.dumpsRun ∧ s.lex.pass = none then
      let s1 := s.startPass (decide (0 < delay)) false []
      if delay = 0 then s1
      else ((s1.bump gLex 0 lxLate).countYield 6 kept).raise evLexDumpLate
        (field32 delay ++ [Word.nat 6, Word.nat kept])
    else s)

/-- The pass in progress completes: the buffer is written, its header last (R369), the FLUSHes that it serves end, and a
pass that waited starts. -/
def State.passDone (s : State) : State :=
  match s.lex.pass with
  | none => s
  | some (start, late, flush) =>
    let seq := s.lex.seq
    let first := !s.lex.everDumped
    let flags := dumpFlags late flush first
    let s1 := s.lexPass first
    let s2 := s1.memPut (lexBuffer seq) (s1.lexHeader start flags)
    let s3 := { s2 with lex := { s2.lex with pass := none, tickets := [], seq := seq + 1, everDumped := true } }
    let s4 := s.lex.tickets.foldl (fun s t => s.finish t cDone 0) s3
    let s5 := (s4.dmaDue 0 seq (lexBuffer seq) late flush).raise evLexDumpDone (field32 seq ++ [Word.nat (seq % 2), Word.nat flags])
    match s5.lex.again with
    | none => s5
    | some fl =>
      ({ s5 with lex := { s5.lex with again := none, waiting := [] } }).startPass false fl s5.lex.waiting

/-- R365, R374, R380. -/
def execDumpPassComplete (s : State) (ecc : List SramRead := []) : Host.Outcome State Fault Refusal :=
  .next (if s.lex.pass.isSome ∧ !ecc.isEmpty then (s.counterReads ecc).passDone.follow else s.passDone)

/-! Spare banks (R373). -/

/-- A fill of a spare completes: the redirect takes effect and the bank can be read again. -/
def execSpareBankFillDone (b : Nat) (s : State) : Host.Outcome State Fault Refusal :=
  .next (if (s.bankAt b).filling then s.modBank b fun x => { x with filling := false } else s)

/-! Nouns. -/

/-- Marks a port's contexts for retirement at the next pass (R363). -/
def State.markPort (s : State) (p : Nat) : State :=
  ((s.lex.ctx.filter fun c => c.2.state = .live && (c.2.key.headD 0).toNat / 2 == p).map Prod.fst).foldl
    (fun s n => s.modCtx n fun c => { c with marked := true }) s

/-- New salts move every key; one that finds no place is counted and retires at the next pass (log entry 20). -/
def State.rehash (s : State) : State :=
  ((s.lex.ctx.filter fun c => c.2.state = .live).map Prod.fst).foldl (fun s n =>
    match s.makeRoom (s.ctxAt n).key with
    | some (s1, i) => s1.setEntry i (n + 1)
    | none => s.placeFailure.modCtx n fun c => { c with marked := true })
    { s with lex := { s.lex with index := [] } }

/-- R377 before R70: salts outside DORMANT. -/
def checkLexCfg (s : State) (m : Sentence) (ws : List Word) : Option Refuse :=
  if (maskSelected nLexCfg ws).contains 2 ∧ s.dev.mode ≠ .dormant then some { code := cStateRefused, detail := 1 }
  else maskRange nLexCfg m ws

def actLexCfg (s : State) (m : Sentence) (ws : List Word) : State × Reply :=
  let s1 := s.applyChanges nLexCfg 0 (maskChanges nLexCfg m ws)
  (if (maskSelected nLexCfg ws).contains 2 then s1.rehash else s1, okDone)

/-- Parameters, region base, sequence number of the last dump. -/
def State.lexCfgWords (s : State) (_ : Nat) : List Word :=
  s.paramSet nLexCfg 0 ++ [Word.nat telemetry] ++ words64 (s.lex.seq - 1)

def specGetLexCfg : CmdSpec := { verb := vGet, noun := nLexCfg, unit := some fLex, inst := .zero, form := .fixed [0], modes := .any }
def procGetLexCfg : Sentence → State → State := process specGetLexCfg noCheck (getAct State.lexCfgWords) noEcho
def execGetLexCfg (m : Sentence) (s : State) : Host.Outcome State Fault Refusal :=
  .next (submit vGet nLexCfg procGetLexCfg m s)

def specSetLexCfg : CmdSpec := { verb := vSet, noun := nLexCfg, unit := some fLex, inst := .zero, form := .mask, modes := .notShutter }
def procSetLexCfg : Sentence → State → State := process specSetLexCfg checkLexCfg actLexCfg fun s i => s.paramSet nLexCfg i
def execSetLexCfg (m : Sentence) (s : State) : Host.Outcome State Fault Refusal :=
  .next (submit vSet nLexCfg procSetLexCfg m s)

/-- Learning, key mask, counting, LIVE contexts of the port. -/
def State.lexPortWords (s : State) (p : Nat) : List Word := s.paramWords nLexPort p ++ [Word.nat (s.portLiveCtx p)]

def specGetLexPort : CmdSpec := { verb := vGet, noun := nLexPort, unit := some fLex, inst := .port, form := .fixed [0], modes := .any }
def procGetLexPort : Sentence → State → State := process specGetLexPort noCheck (getAct State.lexPortWords) noEcho
def execGetLexPort (m : Sentence) (s : State) : Host.Outcome State Fault Refusal :=
  .next (submit vGet nLexPort procGetLexPort m s)

/-- R461: learning FIXED is governed by FEAT_LEX_INSTALL. -/
def checkLexPort (s : State) (m : Sentence) (ws : List Word) : Option Refuse :=
  match maskRange nLexPort m ws with
  | some r => some r
  | none =>
    if ((maskChanges nLexPort m ws).any fun c => c.1 == 0 && c.2 == 1) && !s.accepts fLexInstall then
      some { code := cNotNegotiated, detail := fLexInstall }
    else none

/-- A change of the key mask retires the port's contexts (R363, R376). -/
def actLexPort (s : State) (m : Sentence) (ws : List Word) : State × Reply :=
  let p := m.inst.toNat
  let s1 := s.applyChanges nLexPort p (maskChanges nLexPort m ws)
  (if s1.param nLexPort p 1 = s.param nLexPort p 1 then s1 else s1.markPort p, okDone)

def specSetLexPort : CmdSpec := { verb := vSet, noun := nLexPort, unit := some fLex, inst := .port, form := .mask, modes := .notShutter }
def procSetLexPort : Sentence → State → State := process specSetLexPort checkLexPort actLexPort fun s i => s.paramSet nLexPort i
def execSetLexPort (m : Sentence) (s : State) : Host.Outcome State Fault Refusal :=
  .next (submit vSet nLexPort procSetLexPort m s)

/-- Directory entry, totals of the last dump, live counts. -/
def State.lexContextWords (s : State) (n : Nat) : List Word :=
  let c := s.ctxAt n
  wordsOfBytes c.dir ++ ((List.range 4).flatMap fun i => words64 (c.last.getD i 0)) ++
    [c.frames, c.bytes, c.errored, c.ptp].flatMap words64

/-- The effect of GET on LEX_CONTEXT: the number is the payload word (R450). -/
def actLexContext (s : State) (_ : Sentence) (ws : List Word) : State × Reply :=
  (s, okWords (s.lexContextWords (ws.getD 0 0).toNat))

def specGetLexContext : CmdSpec :=
  { verb := vGet, noun := nLexContext, unit := some fLex, inst := .context, form := .fixed [4], modes := .any }
def procGetLexContext : Sentence → State → State := process specGetLexContext noCheck actLexContext noEcho
def execGetLexContext (m : Sentence) (s : State) : Host.Outcome State Fault Refusal :=
  .next (submit vGet nLexContext procGetLexContext m s)

/-- The key image in five words (log entry 10); a PORT_DIR that R355 does not write is out of range. -/
def checkInsertCtx (s : State) (_ : Sentence) (ws : List Word) : Option Refuse :=
  if 2 * s.lines ≤ ((bytesOfWords 17 ws).headD 0).toNat then some { code := cResource, detail := 1 } else none

/-- INSERT: a key already present is not inserted twice (R358); without a place the command ends in RESOURCE (R359). -/
def actInsertCtx (s : State) (_ : Sentence) (ws : List Word) : State × Reply :=
  let key := bytesOfWords 17 ws
  match s.lookup key with
  | some n => (s, okWords [Word.nat n])
  | none =>
    let r := s.insertKey key true
    match r.2 with
    | some n => (r.1, okWords [Word.nat n])
    | none => (r.1, .failed { code := cResource, detail := 2 })

def specInsertLexContext : CmdSpec :=
  { verb := vInsert, noun := nLexContext, unit := some fLex, feats := [fLexInstall], inst := .zero, form := .fixed [20]
    modes := .notShutter }
def procInsertLexContext : Sentence → State → State := process specInsertLexContext checkInsertCtx actInsertCtx noEcho
def execInsertLexContext (m : Sentence) (s : State) : Host.Outcome State Fault Refusal :=
  .next (submit vInsert nLexContext procInsertLexContext m s)

/-- A context that is not LIVE is refused as object state. -/
def checkDeleteCtx (s : State) (_ : Sentence) (ws : List Word) : Option Refuse :=
  if (s.ctxAt (ws.getD 0 0).toNat).state = .live then none else some { code := cStateRefused, detail := 2 }

/-- DELETE retires at the next pass (R363). -/
def actDeleteCtx (s : State) (_ : Sentence) (ws : List Word) : State × Reply :=
  (s.modCtx (ws.getD 0 0).toNat fun c => { c with marked := true }, okDone)

def specDeleteLexContext : CmdSpec :=
  { verb := vDelete, noun := nLexContext, unit := some fLex, inst := .context, form := .fixed [4], modes := .notShutter }
def procDeleteLexContext : Sentence → State → State := process specDeleteLexContext checkDeleteCtx actDeleteCtx noEcho
def execDeleteLexContext (m : Sentence) (s : State) : Host.Outcome State Fault Refusal :=
  .next (submit vDelete nLexContext procDeleteLexContext m s)

/-- FLUSH starts a pass at once (R372). -/
def actFlushLex (s : State) (m : Sentence) (_ : List Word) : State × Reply :=
  (s.startPass false true [ticketOf m], .accepted [])

def specFlushLexDump : CmdSpec :=
  { verb := vFlush, noun := nLexDump, unit := some fLex, inst := .zero, form := .fixed [0], modes := .flushLex }
def procFlushLexDump : Sentence → State → State := process specFlushLexDump noCheck actFlushLex noEcho
def execFlushLexDump (m : Sentence) (s : State) : Host.Outcome State Fault Refusal :=
  .next (submit vFlush nLexDump procFlushLexDump m s)

/-- The counters of R379 in its order. -/
def State.lexStatWords (s : State) (_ : Nat) : List Word := (List.range 11).flatMap fun i => s.statWords gLex 0 i

def specGetLexStats : CmdSpec :=
  { verb := vGet, noun := nLexStats, unit := some fLex, inst := .zero, form := .fixed [0], modes := .any }
def procGetLexStats : Sentence → State → State := process specGetLexStats noCheck (getAct State.lexStatWords) noEcho
def execGetLexStats (m : Sentence) (s : State) : Host.Outcome State Fault Refusal :=
  .next (submit vGet nLexStats procGetLexStats m s)

end Sys2Proof.Machine
end

