-- ==== Sys2Proof/Machine/Ports.lean ====
section
/-! DEFINITION. Ports (R297 to R319): configuration and its checks, START and STOP, the late start, and the port nouns. The faults of
ports stand in `Machine/Lanes.lean`. -/

namespace Sys2Proof.Machine

/-- R309, R460: a port that is not UP 3 s after START is late; its START completes as late. The words name the lanes still in
ACQUIRE and their steps. -/
def execPortStartTimeout (p : Nat) (s : State) : Host.Outcome State Fault Refusal :=
  .next (
    let x := s.portAt p
    if p < s.lines ∧ (x.state = .acquire ∨ x.state = .fault) ∧ !x.upOnce ∧ !x.late then
      let ls := (s.portLines p).filter fun l => (s.lineAt l).state = .acquire
      let hs := (s.portHosts p).filter fun h => (s.hostAt h).state = .acquire
      let s1 := s.modPort p fun y => { y with late := true, ticket := none }
      (s1.finishOpt x.ticket cDone 1 (.port p)).raise evPortStartLate
        ([Word.nat p, Word.nat (maskOf ls), Word.nat (maskOf hs)] ++ ls.map (fun l => Word.nat (s.lineAt l).lrx.step) ++
          hs.map fun h => Word.nat (s.hostAt h).step)
    else s)

/-! Configuration (R297 to R306). -/

/-- A combination of R297. -/
def PortCfg.legal (c : PortCfg) : Bool := decide (c.type ≤ 1) || (c.type == 2 && !c.half && !c.reduced)

/-- The default host base of a slot, where its lanes exist (R301). -/
def defaultBase (hosts p count : Nat) (reduced : Bool) : Option Nat :=
  let b := if reduced then 4 * p else 2 * p
  if b + count ≤ hosts then some b else none

/-- The configuration that five parameter words describe for slot `p`; none without a host base. -/
def cfgOf (hosts p : Nat) (ws : List Word) : Option PortCfg :=
  let w (i : Nat) : Nat := (ws.getD i 0).toNat
  let c : PortCfg :=
    { type := w 0, half := w 1 = 1, reduced := w 2 = 1, base := w 3,
      profile := match w 4 with | 0 => .transparent | 1 => .observe | _ => .terminate }
  if (ws.getD 3 0).toInt = autoInt then (defaultBase hosts p c.hostCount c.reduced).map fun b => { c with base := b } else some c

/-- R302: the combination, the slot, the host base and the lanes of a configuration stand. -/
def State.cfgOk (s : State) (p : Nat) (c : PortCfg) : Bool :=
  c.legal && decide (p % c.lineCount = 0) && decide (p + c.lineCount ≤ s.lines) && decide (c.base % c.hostCount = 0) &&
    decide (c.base + c.hostCount ≤ s.hosts) &&
    s.slots.all fun q => q == p ||
      ((s.portLines q).all (fun l => !(c.lineLanes p).contains l) && (s.portHosts q).all fun h => !c.hostLanes.contains h)

/-- The configuration that a SET leaves. -/
def askedCfg (s : State) (m : Sentence) (ws : List Word) : Option PortCfg :=
  cfgOf s.hosts m.inst.toNat ((List.range 5).map fun e => changed s nPortCfg m.inst.toNat e (maskChanges nPortCfg m ws))

/-- Only the profile changes, and between Transparent and Observe (R305, R306). -/
def profileOnly (a b : PortCfg) : Bool :=
  decide ({ a with profile := b.profile } = b) && (a.profile = b.profile || (a.profile ≠ .terminate && b.profile ≠ .terminate))

/-- R306: what a port in another state than STOPPED may take. -/
def State.cfgFits (s : State) (p : Nat) (c : Option PortCfg) : Bool :=
  match (s.portAt p).state, (s.portAt p).cfg, c with
  | .stopped, _, _ => true
  | _, some a, some b => profileOnly a b
  | _, _, _ => false

/-- R302, R306. -/
def checkPortCfg (s : State) (m : Sentence) (ws : List Word) : Option Refuse :=
  let p := m.inst.toNat
  match maskRange nPortCfg m ws with
  | some r => if (s.portAt p).state = .stopped then some r else some { code := cStateRefused, detail := 2 }
  | none =>
    let c := askedCfg s m ws
    if !s.cfgFits p c then some { code := cStateRefused, detail := 2 }
    else
      match c with
      | none => some { code := cResource, detail := 1 }
      | some c => if s.cfgOk p c then none else some { code := cResource, detail := 1 }

/-- The lanes of a slot get a configuration or lose it: pilot records, adaptation engines, receivers and transmitters follow
(R72, R140, R234, R331). -/
def State.reconfigure (s : State) (p : Nat) (c : Option PortCfg) : State :=
  let old := s.portLines p
  let s1 := s.modPort p fun x => { x with cfg := c }
  let new := s1.portLines p
  let s2 := (new ++ old.filter (!new.contains ·)).foldl (fun s l => s.pltConfigured l) s1
  (if s2.hinge.started then s2.dropAdapt.reserve else s2).follow

/-- A profile change between Transparent and Observe acts in any state; Transparent has no block-lock monitor (R304, R305). -/
def actPortCfg (s : State) (m : Sentence) (ws : List Word) : State × Reply :=
  let p := m.inst.toNat
  let c := askedCfg s m ws
  let s1 := (setAct nPortCfg s m ws).1
  (match (s.portAt p).cfg, c with
    | some a, some b =>
      if profileOnly a b then
        let s2 := s1.modPort p fun x => { x with cfg := c }
        (if b.profile = .transparent then [0, 1].foldl (fun s d => s.modBlock (blockIdx p d) fun _ => {}) s2 else s2).follow
      else s1.reconfigure p c
    | _, _ => s1.reconfigure p c, okDone)

/-- Type, line rate, host rate, host base, profile; an unconfigured slot shows its parameters. -/
def State.portCfgWords (s : State) (p : Nat) : List Word :=
  match (s.portAt p).cfg with
  | none => s.paramWords nPortCfg p
  | some c => (s.paramWords nPortCfg p).set 3 (Word.nat c.base)

def specGetPortCfg : CmdSpec := { verb := vGet, noun := nPortCfg, inst := .port, form := .fixed [0], modes := .any }
def procGetPortCfg : Sentence → State → State := process specGetPortCfg noCheck (getAct State.portCfgWords) noEcho
def execGetPortCfg (m : Sentence) (s : State) : Host.Outcome State Fault Refusal :=
  .next (submit vGet nPortCfg procGetPortCfg m s)

def specSetPortCfg : CmdSpec := { verb := vSet, noun := nPortCfg, inst := .port, form := .mask, modes := .notShutter }
def procSetPortCfg : Sentence → State → State := process specSetPortCfg checkPortCfg actPortCfg State.portCfgWords
def execSetPortCfg (m : Sentence) (s : State) : Host.Outcome State Fault Refusal :=
  .next (submit vSet nPortCfg procSetPortCfg m s)

/-- Object state: the slot is configured and in one of the states given. -/
def State.portIn (s : State) (p : Nat) (ok : PortState → Bool) : Option Refuse :=
  if (s.portAt p).cfg.isSome && ok (s.portAt p).state then none else some { code := cStateRefused, detail := 2 }

/-- The slot's lanes become free; its parameters return to their defaults; queued pilot packets are discarded (R344); the
port's contexts retire at the next dump pass (R363). -/
def actDeletePort (s : State) (m : Sentence) (_ : List Word) : State × Reply :=
  let p := m.inst.toNat
  let s1 := (s.portLines p).foldl (fun s l => s.pltDiscard l) s
  let s2 := s1.setParams nPortCfg p 0 ((rowDefaults portRows).map Word.int)
  ((s2.reconfigure p none).markPort p, okDone)

def specDeletePortCfg : CmdSpec := { verb := vDelete, noun := nPortCfg, inst := .port, form := .fixed [0], modes := .notShutter }
def procDeletePortCfg : Sentence → State → State :=
  process specDeletePortCfg (fun s m _ => s.portIn m.inst.toNat (· = .stopped)) actDeletePort noEcho
def execDeletePortCfg (m : Sentence) (s : State) : Host.Outcome State Fault Refusal :=
  .next (submit vDelete nPortCfg procDeletePortCfg m s)

/-! START and STOP (R308, R417). -/

/-- R41: START needs LANE_REFCLK. -/
def checkStart (s : State) (m : Sentence) (_ : List Word) : Option Refuse :=
  if !s.dev.refclk then some { code := cStateRefused, detail := 1 } else s.portIn m.inst.toNat (· = .stopped)

/-- START: in DORMANT the device moves to PROVISIONED, and the lanes start once the datapath is powered (R414, R417). -/
def actStart (s : State) (m : Sentence) (_ : List Word) : State × Reply :=
  let p := m.inst.toNat
  let s1 := if s.dev.mode = .dormant then s.setMode .provisioned tPower else s
  let s2 := s1.portStart p (some (ticketOf m))
  ((if s2.dev.powered then s2.checkSlices p else s2).follow, .accepted [])

def specStartPort : CmdSpec := { verb := vStart, noun := nPort, inst := .port, form := .fixed [0], modes := .start }
def procStartPort : Sentence → State → State := process specStartPort checkStart actStart noEcho
def execStartPort (m : Sentence) (s : State) : Host.Outcome State Fault Refusal :=
  .next (submit vStart nPort procStartPort m s)

/-- STOP: the pilot queues are discarded (R344), every lane goes DOWN, a START under way ends. -/
def State.stopPort (s : State) (p : Nat) : State :=
  (((s.portLines p).foldl (fun s l => s.pltDiscard l) s).portStop p 2).follow

/-- STOP on a STOPPED port is DONE without effect. -/
def actStop (s : State) (m : Sentence) (_ : List Word) : State × Reply :=
  let p := m.inst.toNat
  ((if (s.portAt p).state = .stopped then s else s.stopPort p), okDone)

def specStopPort : CmdSpec := { verb := vStop, noun := nPort, inst := .port, form := .fixed [0], modes := .stop }
def procStopPort : Sentence → State → State :=
  process specStopPort (fun s m _ => s.portIn m.inst.toNat (· ≠ .test)) actStop noEcho
def execStopPort (m : Sentence) (s : State) : Host.Outcome State Fault Refusal :=
  .next (submit vStop nPort procStopPort m s)

/-- Port state; the state of each line lane and of each host lane; the lanes of the fault set on either side; cause lane and
side; the counters of R314; ticks in HUNT per direction (R307). -/
def State.portStatus (s : State) (p : Nat) : List Word :=
  let x := s.portAt p
  [Word.nat x.state.num] ++ (s.portLines p).map (fun l => Word.nat (s.lineAt l).state.num) ++
    (s.portHosts p).map (fun h => Word.nat (s.hostAt h).state.num) ++
    [Word.nat (maskOf x.lineFault), Word.nat (maskOf x.hostFault), Word.nat x.cause.1, Word.nat x.cause.2] ++
    (List.range 6).flatMap (s.statWords gPort p) ++ s.statWords gPfx (2 * p) 2 ++ s.statWords gPfx (2 * p + 1) 2

def specGetPortStatus : CmdSpec := { verb := vGet, noun := nPortStatus, inst := .port, form := .fixed [0], modes := .any }
def procGetPortStatus : Sentence → State → State := process specGetPortStatus noCheck (getAct State.portStatus) noEcho
def execGetPortStatus (m : Sentence) (s : State) : Host.Outcome State Fault Refusal :=
  .next (submit vGet nPortStatus procGetPortStatus m s)

end Sys2Proof.Machine
end

