-- ==== Sys2Proof/Machine/Counters.lean ====
section
/-! DEFINITION. Performance counters, dumps and instruction sampling (R663 to R685) and the PMC nouns. The fixed engine
counters of R664 count steps of the self-timed fabric, which no command shows (log entry 14). -/

namespace Sys2Proof.Machine

/-! Programming (R666, R669). -/

/-- Events that every programmable counter takes: none, or the global ones. -/
def globalEvents : List Nat :=
  [0x000, 0x001, 0x010, 0x011, 0x012, 0x013, 0x020, 0x021, 0x022, 0x030, 0x040, 0x050, 0x051, 0x052]

/-- R666: the event number has the counter's scope. A fixed engine counter takes no event number but 0. -/
def eventFits (k ev : Nat) : Bool :=
  if k < 32 then globalEvents.contains ev
  else ev == 0 || (decide (6 ≤ k % 8) && decide (0x100 ≤ ev ∧ ev ≤ 0x107))

/-- A restart: value and total from 0, DISCONTINUITY for all three observers (R669, R670). -/
def Pmc.restart (c : Pmc) : Pmc := { c with value := 0, total := 0, disc0 := true, disc1 := true, discD := true }

/-- Every counter of the part (R663). -/
def State.pmcNumbers (s : State) : List Nat := List.range 32 ++ (List.range (8 * s.engines)).map (256 + ·)

/-! Dumps (R674 to R678). -/

/-- A counter is read: in DRAIN it is zeroed into its total (R667, R670). -/
def Pmc.drained (c : Pmc) : Pmc :=
  if c.drain then { c with value := 0, total := (c.total + c.value) % 2 ^ 64, discD := false } else { c with discD := false }

/-- What a dump shows of a counter: the total in DRAIN, the value in FREE (R675). -/
def Pmc.shown (c : Pmc) : Nat := if c.drain then (c.total + c.value) % 2 ^ 64 else c.value

/-- The statistics that are figures: SNR and frequency offset of LRX (R676). -/
def isFigure (i : Nat) : Bool := decide (i / 2048 = gLrx) && (i % 32 == 7 || i % 32 == 8)

/-- A statistic is read and zeroed into its total; a figure stays (R676). -/
def Stat.drained (x : Stat) : Stat := { live := 0, total := (x.total + x.live) % 2 ^ 64 }

/-- A dump reads every counter and statistic at one tick (R674). -/
def State.dumpRead (s : State) (late flush : Bool) : State :=
  let d : PmcDump := { at_ := s.tku.bcnt, late := late, flush := flush
                       ctrs := s.pmc.ctr.map fun c => (c.1, c.2.shown, c.2.sat, c.2.discD)
                       stats := s.stats.map fun x => (x.1, x.2.live, x.2.sat) }
  let s1 := s.pmc.ctr.foldl (fun s c => s.setPmc c.1 (s.pmcAt c.1).drained) s
  { s1 with
    stats := s.stats.foldl (fun t x =>
      if isFigure x.1 then t else tmod t (fun _ => {}) x.1 Stat.drained) s.stats
    pmc := { s1.pmc with dump := some d } }

/-- Starts a dump, or lets it follow the one that is being written. -/
def State.startDump (s : State) (late flush : Bool) (t : List Ticket) : State :=
  match s.pmc.dump with
  | none => let s1 := s.dumpRead late flush; { s1 with pmc := { s1.pmc with tickets := t } }
  | some _ => { s with pmc := { s.pmc with
      again := some (flush || s.pmc.again.getD false), waiting := s.pmc.waiting ++ t } }

/-- Dumps run from DORMANT on (R674). -/
def State.pmcRuns (s : State) : Bool :=
  s.live || s.dev.mode = .dormant || s.dev.mode = .workshop

/-- The scheduled dump; late, the yield of rank 6 is reported (R678, R655). -/
def execPmcDumpIntervalExpiry (delay kept : Nat) (s : State) : Host.Outcome State Fault Refusal :=
  .next (
    if s.pmcRuns ∧ s.pmc.dump = none then
      let s1 := s.startDump (decide (0 < delay)) false []
      if delay = 0 then s1
      else (({ s1 with pmc := { s1.pmc with late := s1.pmc.late + 1 } }).countYield 6 kept).raise evPmcDumpLate
        (field32 delay ++ [Word.nat 6, Word.nat kept])
    else s)

/-- A dump's header (R675). -/
def dumpHeader (d at_ interval flags : Nat) : List Byte :=
  leBytes 8 d ++ leBytes 8 at_ ++ leBytes 4 interval ++ [BitVec.ofNat 8 flags] ++ List.replicate 43 0

/-- The slot pair of counter `k` in a dump. -/
def PmcDump.pair (d : PmcDump) (first : Bool) (k : Nat) : List Byte :=
  match d.ctrs.find? fun c => c.1 == k with
  | none => slotPair clsPmc k (slotFlags false false first false) 0
  | some c => slotPair clsPmc k (slotFlags false false (c.2.2.2 || first) c.2.2.1) c.2.1

/-- The counter buffer of R675: header, global counters, engine counters, absent ones as padding. -/
def pmcBuffer (d : PmcDump) (first : Bool) (engines : Nat) (header : List Byte) : List Byte :=
  header ++ List.replicate 0xC0 0 ++ (List.range 32).flatMap (d.pair first) ++ List.replicate 0xD00 0 ++
    (List.range 2048).flatMap fun n => if n < 8 * engines then d.pair first (256 + n) else List.replicate 16 0

/-- Objects and items of a group of statistics (R676). -/
def State.statShape (s : State) (g : Nat) : (Nat → Bool) × Nat :=
  let below (n o : Nat) : Bool := decide (o < n)
  [(below s.lines, 9), (below s.lines, 7), (below s.lines, 28), (below s.hosts, 15), (below (2 * s.lines), 3),
   (below s.lines, 6), (below s.lines, 15), (below 1, 11), (below (2 * s.lines), 8), (regionOk, 12), (below 33, 3),
   (below 64, 3), (below 32, 3)].getD g (below 0, 0)

/-- The number names an item (R676). -/
def State.statExists (s : State) (i : Nat) : Bool :=
  let x := s.statShape (i / 2048)
  x.1 (i % 2048 / 32) && decide (i % 32 < x.2)

/-- Extends a figure's word to the 36 bits of a slot: the frequency offset is in two's complement. -/
def figureValue (i v : Nat) : Nat := if i % 32 = 8 ∧ 2 ^ 31 ≤ v then v + (2 ^ 36 - 2 ^ 32) else v

/-- The slot of statistic `i` in a record. -/
def State.statSlot (s : State) (d : PmcDump) (first : Bool) (i : Nat) : List Byte :=
  if s.statExists i then
    match d.stats.find? fun x => x.1 == i with
    | none => slot clsStat i (slotFlags false false first false) 0
    | some x => slot clsStat i (slotFlags false false first x.2.2) (if isFigure i then figureValue i x.2.1 else x.2.1)
  else List.replicate 8 0

/-- The statistics record of R676. -/
def State.statRecord (s : State) (d : PmcDump) (first : Bool) (header : List Byte) : List Byte :=
  header ++ (List.range (13 * 2048)).flatMap (s.statSlot d first)

/-- The interval between dumps in ms. -/
def State.pmcInterval (s : State) : Nat := 10 * s.parN nPmcDump 0 0

/-- The dump that has been read is written (R674 to R677); the FLUSHes that it serves end, and one that waited starts. -/
def State.dumpWritten (s : State) : State :=
  match s.pmc.dump with
  | none => s
  | some x =>
    let d := s.pmc.d
    let first := s.pmc.last.isNone
    let flags := dumpFlags x.late x.flush first
    let h := dumpHeader d x.at_.toNat s.pmcInterval flags
    let s1 := (s.telPut (telPmc + 0x200000 * (d % 2)) (pmcBuffer x first s.engines h)).telPut
      (telHist + 0x40000 * (d % 112)) (s.statRecord x first h)
    let s2 := { s1 with pmc := { s1.pmc with dump := none, tickets := [], d := d + 1, last := some d } }
    let s3 := s.pmc.tickets.foldl (fun s t => s.finish t cDone 0) s2
    let s4 := ((s3.dmaDue 1 d (telemetry + telPmc + 0x200000 * (d % 2)) x.late x.flush).dmaDue 5 d
      (telemetry + telHist + 0x40000 * (d % 112)) x.late x.flush).raise evPmcDumpDone (field32 d ++ [Word.nat (d % 2), Word.nat flags])
    match s4.pmc.again with
    | none => s4
    | some fl => ({ s4 with pmc := { s4.pmc with again := none, waiting := [] } }).startDump false fl s4.pmc.waiting

def execPmcDumpWritten (s : State) : Host.Outcome State Fault Refusal := .next s.dumpWritten

/-! Instruction sampling (R680 to R682). -/

/-- The role of a record (R681); an engine under test or retired is not sampled (R665). -/
def roleNum : Role → Option Nat
  | .tier => some 0
  | .adapt => some 1
  | .transom => some 2
  | .shadow => some 3
  | .free => some 4
  | .test | .retired => none

/-- The kernel that an engine runs (R134), and its version index. -/
def State.engKernel (s : State) (e : Nat) : Nat × Nat :=
  let x := s.engAt e
  let sea := (s.lineAt x.lane).sea
  let idx (id v : Nat) : Nat := ((s.kernAt id).vers.findIdx? fun w => w.toNat == v).getD 0
  match x.role with
  | .tier => (kernelOf sea.tier, idx (kernelOf sea.tier) sea.version)
  | .shadow =>
    match sea.swap with
    | some w => (kernelOf w.tier, idx (kernelOf w.tier) w.version)
    | none => (0, 0)
  | .adapt => (0x80, idx 0x80 (s.versionOf x.lane 0x80))
  | .transom => (0x81, idx 0x81 (s.kernAt 0x81).own.toNat)
  | _ => (0, 0)

/-- The descriptor of R681. -/
def State.descriptor (s : State) (e role slotNo cat op steps seg : Nat) : Nat :=
  let k := s.engKernel e
  e + slotNo * 2 ^ 8 + (s.engAt e).lane % 8 * 2 ^ 10 + role * 2 ^ 13 + k.1 * 2 ^ 16 + k.2 % 2 * 2 ^ 24 + cat * 2 ^ 25 +
    (if cat = 1 then op % 2 ^ 16 else 0) * 2 ^ 28 + min steps 1023 * 2 ^ 44 + seg % 16 * 2 ^ 54

/-- The ring header of R682. -/
def State.sampleHeader (s : State) : List Byte :=
  leBytes 8 (s.pmc.recs - 1) ++ leBytes 4 s.pmc.recs ++ leBytes 4 s.pmc.drops

/-- Writes record r (R681, R682). -/
def State.sampleWrite (s : State) (desc : Nat) : State :=
  let r := s.pmc.recs
  let s1 := s.telPut (telSample + 0x40 + 32 * (r % 262142))
    (slotPair clsSample (r % 65536) 0 s.tku.bcnt.toNat ++ slotPair clsSample (r % 65536) 0 desc)
  let s2 := { s1 with pmc := { s1.pmc with recs := r + 1, winN := s1.pmc.winN + 1 } }
  let s3 := s2.telPut telSample s2.sampleHeader
  if (r + 1) % 128 = 0 then s3.dmaDue 2 (r - 127) (telemetry + telSample + 0x40 + 32 * ((r - 127) % 262142)) false false else s3

/-- Drops a record above 500,000 per second; PMC_SAMPLE_DROP at most once per second (R682). -/
def State.sampleDrop (s : State) : State :=
  let n := s.pmc.dropSince + 1
  let s1 := { s with pmc := { s.pmc with drops := s.pmc.drops + 1, dropSince := n } }
  let s2 := s1.telPut telSample s1.sampleHeader
  let due := match s.pmc.dropAt with | none => true | some b => decide (625000000 ≤ s.since b)
  if due then
    ({ s2 with pmc := { s2.pmc with dropSince := 0, dropAt := some s.tku.bcnt } }).raise evPmcSampleDrop [Word.nat n]
  else s2

/-- Sampling is ON and accepted, and engine `e` is sampled. -/
def State.sampled (s : State) (e : Nat) : Bool :=
  decide (e < s.engines) && s.parN nPmcSample 0 0 == 0 && s.accepts fSampling && (s.parN nPmcSample 0 2).testBit (e / 64) &&
    s.dev.powered

/-- One step of the 32-bit LFSR of R626, x^32 + x^22 + x^2 + x + 1 (log entry 145). -/
def lfsrStep (w : Word) : Word := (w <<< 1) ||| Word.flag (w.getLsbD 31 ^^ w.getLsbD 21 ^^ w.getLsbD 1 ^^ w.getLsbD 0)

/-- A draw: 32 steps, so that no bit of one draw stands in the next. -/
def lfsrDraw (w : Word) : Word := (List.range 32).foldl (fun w _ => lfsrStep w) w

/-- An interval drawn uniformly from 0.5 to 1.5 times the mean. -/
def intervalOf (mean : Nat) (draw : Word) : Nat := mean / 2 + draw.toNat * mean / 2 ^ 32

/-- R680: an engine's interval expires; its LFSR picks the slot and draws the next interval. How UID and engine number give the seed is
open (log entry 145). -/
def execSampleIntervalExpiry (e cat op steps seg : Nat) (s : State) : Host.Outcome State Fault Refusal :=
  .next (
    match roleNum (s.engAt e).role with
    | none => s
    | some role =>
      if s.sampled e then
        let w := lfsrDraw (if (s.engAt e).lfsr = 0 then s.freeVal else (s.engAt e).lfsr)
        let next := lfsrDraw w
        let s1 := (s.modEng e fun x => { x with lfsr := next, interval := intervalOf (2 ^ s.parN nPmcSample 0 1) next }).freeNext
        let s2 := if 625000000 ≤ s1.since s1.pmc.winAt then
            { s1 with pmc := { s1.pmc with winAt := s1.tku.bcnt, winN := 0 } }
          else s1
        if s2.pmc.winN < 500000 then s2.sampleWrite (s2.descriptor e role (w.toNat % 4) cat op steps seg) else s2.sampleDrop
      else s)

/-! The PMC nouns (R684). -/

/-- Event, mode (0 FREE, 1 DRAIN), value, total, SATURATED, the requester's DISCONTINUITY. -/
def State.pmcWords (s : State) (r : Requester) (k : Nat) : List Word :=
  let c := s.pmcAt k
  [Word.nat c.event, Word.flag c.drain] ++ words64 c.value ++ words64 c.total ++ [Word.flag c.sat, Word.flag (c.discOf r)]

/-- A number that names no counter. -/
def checkPmcNumber (s : State) (_ : Sentence) (ws : List Word) : Option Refuse :=
  if s.pmcExists (ws.getD 0 0).toNat then none else some { code := cResource, detail := 1 }

def actGetPmcCounter (s : State) (m : Sentence) (ws : List Word) : State × Reply :=
  (s, okWords (s.pmcWords m.req (ws.getD 0 0).toNat))

def specGetPmcCounter : CmdSpec := { verb := vGet, noun := nPmcCounter, inst := .zero, form := .fixed [4], modes := .any }
def procGetPmcCounter : Sentence → State → State := process specGetPmcCounter checkPmcNumber actGetPmcCounter noEcho
def execGetPmcCounter (m : Sentence) (s : State) : Host.Outcome State Fault Refusal :=
  .next (submit vGet nPmcCounter procGetPmcCounter m s)

/-- R666 and the range of the mode. -/
def checkSetPmc (s : State) (m : Sentence) (ws : List Word) : Option Refuse :=
  (checkPmcNumber s m ws).or
    (if eventFits (ws.getD 0 0).toNat (ws.getD 1 0).toNat ∧ (ws.getD 2 0).toNat ≤ 1 then none
     else some { code := cResource, detail := 1 })

/-- R669; ECHO returns what GET returns. -/
def actSetPmc (s : State) (m : Sentence) (ws : List Word) : State × Reply :=
  let k := (ws.getD 0 0).toNat
  let c := (s.pmcAt k).restart
  let s1 := s.setPmc k { c with event := (ws.getD 1 0).toNat, drain := decide ((ws.getD 2 0).toNat = 1) }
  (s1, if m.echo then okWords (s1.pmcWords m.req k) else okDone)

def specSetPmcCounter : CmdSpec := { verb := vSet, noun := nPmcCounter, inst := .zero, form := .fixed [12], modes := .notShutter }
def procSetPmcCounter : Sentence → State → State := process specSetPmcCounter checkSetPmc actSetPmc noEcho
def execSetPmcCounter (m : Sentence) (s : State) : Host.Outcome State Fault Refusal :=
  .next (submit vSet nPmcCounter procSetPmcCounter m s)

/-- The word that names all counters. -/
def allCounters : Word := 0xFFFFFFFF

def checkClearPmc (s : State) (m : Sentence) (ws : List Word) : Option Refuse :=
  if ws.getD 0 0 = allCounters then none else checkPmcNumber s m ws

/-- CLEAR restarts the counters and clears SATURATED (R669). -/
def actClearPmc (s : State) (_ : Sentence) (ws : List Word) : State × Reply :=
  let ks := if ws.getD 0 0 = allCounters then s.pmcNumbers else [(ws.getD 0 0).toNat]
  (ks.foldl (fun s k => let c := (s.pmcAt k).restart; s.setPmc k { c with sat := false }) s, okDone)

def specClearPmcCounter : CmdSpec :=
  { verb := vClear, noun := nPmcCounter, inst := .zero, form := .fixed [4], modes := .notShutter }
def procClearPmcCounter : Sentence → State → State := process specClearPmcCounter checkClearPmc actClearPmc noEcho
def execClearPmcCounter (m : Sentence) (s : State) : Host.Outcome State Fault Refusal :=
  .next (submit vClear nPmcCounter procClearPmcCounter m s)

/-- Interval, last d (0 before the first dump), late dumps. -/
def State.pmcDumpWords (s : State) (_ : Nat) : List Word :=
  s.paramWords nPmcDump 0 ++ words64 (s.pmc.last.getD 0) ++ words64 s.pmc.late

def specGetPmcDump : CmdSpec := { verb := vGet, noun := nPmcDump, inst := .zero, form := .fixed [0], modes := .any }
def procGetPmcDump : Sentence → State → State := process specGetPmcDump noCheck (getAct State.pmcDumpWords) noEcho
def execGetPmcDump (m : Sentence) (s : State) : Host.Outcome State Fault Refusal :=
  .next (submit vGet nPmcDump procGetPmcDump m s)

/-- The payload is the interval alone. -/
def checkPmcDump (_ : State) (_ : Sentence) (ws : List Word) : Option Refuse :=
  if (row1 100 1 500).ok (ws.getD 0 0) then none else some { code := cResource, detail := 1 }

def actSetPmcDump (s : State) (_ : Sentence) (ws : List Word) : State × Reply := (s.setParam nPmcDump 0 0 (ws.getD 0 0), okDone)

def specSetPmcDump : CmdSpec := { verb := vSet, noun := nPmcDump, inst := .zero, form := .fixed [4], modes := .notShutter }
def procSetPmcDump : Sentence → State → State :=
  process specSetPmcDump checkPmcDump actSetPmcDump fun s i => s.paramWords nPmcDump i
def execSetPmcDump (m : Sentence) (s : State) : Host.Outcome State Fault Refusal :=
  .next (submit vSet nPmcDump procSetPmcDump m s)

/-- FLUSH starts a dump at once (R678). -/
def actFlushPmc (s : State) (m : Sentence) (_ : List Word) : State × Reply :=
  (s.startDump false true [ticketOf m], .accepted [])

def specFlushPmcDump : CmdSpec := { verb := vFlush, noun := nPmcDump, inst := .zero, form := .fixed [0], modes := .flushPmc }
def procFlushPmcDump : Sentence → State → State := process specFlushPmcDump noCheck actFlushPmc noEcho
def execFlushPmcDump (m : Sentence) (s : State) : Host.Outcome State Fault Refusal :=
  .next (submit vFlush nPmcDump procFlushPmcDump m s)

/-- Parameters, records written, records dropped. -/
def State.pmcSampleWords (s : State) (_ : Nat) : List Word :=
  s.paramSet nPmcSample 0 ++ words64 s.pmc.recs ++ words64 s.pmc.drops

def specGetPmcSample : CmdSpec := { verb := vGet, noun := nPmcSample, inst := .zero, form := .fixed [0], modes := .any }
def procGetPmcSample : Sentence → State → State := process specGetPmcSample noCheck (getAct State.pmcSampleWords) noEcho
def execGetPmcSample (m : Sentence) (s : State) : Host.Outcome State Fault Refusal :=
  .next (submit vGet nPmcSample procGetPmcSample m s)

/-- A quadrant that the part lacks is out of range. -/
def checkPmcSample (s : State) (m : Sentence) (ws : List Word) : Option Refuse :=
  match maskRange nPmcSample m ws with
  | some r => some r
  | none =>
    if (maskChanges nPmcSample m ws).any fun c => c.1 == 2 && decide (2 ^ s.quads ≤ c.2.toNat) then
      some { code := cResource, detail := 1 }
    else none

def specSetPmcSample : CmdSpec := { verb := vSet, noun := nPmcSample, inst := .zero, form := .mask, modes := .notShutter }
def procSetPmcSample : Sentence → State → State :=
  process specSetPmcSample checkPmcSample (setAct nPmcSample) (setEcho nPmcSample)
def execSetPmcSample (m : Sentence) (s : State) : Host.Outcome State Fault Refusal :=
  .next (submit vSet nPmcSample procSetPmcSample m s)

end Sys2Proof.Machine
end

