-- ==== Sys2Proof/Machine/LineFormat.lean ====
section
/-! DEFINITION. The line format and SDF (R173 to R222) on a lane: detection and decoding of the inner code, codeword lock, RS decoding
and its statistics, degrade thresholds; faults of fixed stages (R634); the SDF nouns. The detector and the codecs themselves are
functions of `Machine/Detector.lean`. -/

namespace Sys2Proof.Machine

/-- The nominal level of an entry of the table in 2^-20 LSB (R67, R193). -/
def nominalLevel (k : Nat) : Int := 1048576 * ([-192, -64, 64, 192].getD (k / 16) 0)

/-- An entry of the level table in 1/16 LSB: the nominal level where no adaptation has run. -/
def State.levelEntry (s : State) (l k : Nat) : Int := roundDiv (tget (s.lineAt l).sdf.table nominalLevel k) 65536

/-- R192 to R196: the detector takes the samples of an interleaver block, with 64 before and 64 after it. -/
def State.detect (s : State) (l : Nat) (ys : List Int) : List SoftSymbol :=
  let x := (s.lineAt l).sdf
  detectBlock x.slicer x.precode (s.levelEntry l) ys

/-- R198, R199, R213: one codeword of a locked lane is decoded and counted. `ys` are the samples of its block with the 64 before it,
and `after` the 64 that follow (R195), which the detector takes with the first codeword; the four codewords are delivered in the
order q = 0 to 3 (R203). -/
def execInnerCodewordDecode (l : Nat) (ys after : List Int) (s : State) : Host.Outcome State Fault Refusal :=
  .next (
    if l < s.lines ∧ (s.lineAt l).sdf.lock then
      let x := (s.lineAt l).sdf
      let soft := if x.nextQ = 0 then s.detect l (ys ++ after) else x.soft
      let w := codewordOf x.nextQ (s.parN nSdfCfg l 5) soft
      let s0 := s.modSdf l fun y => { y with soft := soft, nextQ := (x.nextQ + 1) % 4 }
      let s1 := s0.bump gSdf l 0
      let s2 := if syndrome w.1 = 0 then s1.bump gSdf l 1 else s1
      match chase w.1 w.2 (s.parN nSdfCfg l 6) with
      | none => (s2.bump gSdf l 4).modSdf l fun y => { y with payload := w.1.setWidth 136 }
      | some (t, fs) =>
        let s3 := if fs.isEmpty then s2 else (s2.bump gSdf l (if t = 0 then 2 else 3)).bumpBy gSdf l 5 fs.length
        s3.modSdf l fun y => { y with payload := (toggle w.1 fs).setWidth 136 }
    else s)

/-! Codeword lock (R201 to R208). -/

/-- R203: the stream whose start opens four consecutive values modulo 288. -/
def blockStart (starts : List Nat) : Option Nat :=
  (List.range starts.length).find? fun q =>
    (List.range 4).all fun k => starts.contains ((starts.getD q 0 + k) % 288)

/-- R203: the start of stream s at offset o. -/
def streamStart (o s : Nat) : Nat := (4 * o + s) % 288

/-- SDF hunts on a lane: it has samples and no lock. -/
def State.hunting (s : State) (l : Nat) : Bool :=
  let x := s.lineAt l
  decide (l < s.lines) && (x.state = .acquire || x.state = .fault || x.state = .test) && x.lrx.power = .full &&
    !x.lrx.los && !x.sdf.lock

/-- The delays of a port's line lanes, each against its lowest one (R190). -/
def relSkews (skews : List Int) : List Int := skews.map fun k => k - skews.headD 0

/-- The word of a precoding setting: its place in R217's list. -/
def precodeWord (on : Bool) : Word := Word.flag (!on)

/-- Fixes the block start and reports the lock (R206); `skews` are the delays of the port's line lanes (R190). -/
def State.sdfLock (s : State) (l : Nat) (offs starts : List Nat) (first : Nat) (skews : List Int) : State :=
  let x := (s.lineAt l).sdf
  let s1 := s.modSdf l fun y => { y with
    lock := true, off := offs, start := starts, first := first, found := offs.map some, bad := [0, 0, 0, 0], prev := none,
    nextQ := 0, soft := [] }
  let s2 := match s1.portOf l with
    | none => s1
    | some p => ((s1.portLines p).zip (relSkews skews)).foldl (fun s (k : Nat × Int) => s.modSdf k.1 fun y => { y with skew := k.2 }) s1
  let s3 := s2.raise evSdfLock (Word.nat l :: precodeWord x.precode :: field32 (s.since x.huntSince) ++ [Word.nat x.huntMis])
  s3.lineTryUp l

/-- The offsets that a hunt test tries in stream `k`: the previous one after a loss of lock, else 24 at once (R202, R206). -/
def Sdf.huntOffsets (x : Sdf) (k : Nat) : List Nat :=
  match x.prev with
  | some ps => [ps.getD k 0]
  | none => (List.range 24).map (x.huntOff + ·)

/-- The symbols of the four streams of a hunt test: hard bits with their reliabilities. -/
def huntStreams (hard : List (List (Bool × Bool))) (rel : List (List (Nat × Nat))) : List (List HuntSymbol) :=
  (hard.zip rel).map fun p => (p.1.zip p.2).map fun x => ((x.1.1, x.2.1), (x.1.2, x.2.2))

/-- R201 to R206: a hunt test ends. `hard` and `rel` are the hard bits of the four streams and their reliabilities, counted as the
lane counts its symbols; a stream that has found its boundary in this sweep keeps it. -/
def execHuntTestDone (l : Nat) (hard : List (List (Bool × Bool))) (rel : List (List (Nat × Nat))) (skews : List Int) (s : State) :
    Host.Outcome State Fault Refusal :=
  .next (
    if s.hunting l then
      let streams := huntStreams hard rel
      let x := (s.lineAt l).sdf
      let now := (List.range 4).map fun k => (x.found.getD k none).or (huntStream (streams.getD k []) (x.huntOffsets k))
      if now.all Option.isSome then
        let offs := now.map fun o => o.getD 0
        let starts := offs.zipIdx.map fun o => streamStart o.1 o.2
        match blockStart starts with
        | some q => (s.sdfLock l offs starts q skews).follow
        | none => (s.bump gSdf l 6).modSdf l fun y => { y with
            found := [none, none, none, none], huntMis := y.huntMis + 1, prev := none, huntOff := 0 }
      else if x.prev.isSome then s.modSdf l fun y => { y with found := now, prev := none, huntOff := 0 }
      else if 48 ≤ x.huntOff then
        let auto := x.preSet = 2
        s.modSdf l fun y => { y with
          huntOff := 0, precode := if auto then !y.precode else y.precode
          found := if auto then [none, none, none, none] else now }
      else s.modSdf l fun y => { y with found := now, huntOff := y.huntOff + 24 }
    else s)

/-- The lane loses codeword lock: an UP lane enters FAULT and starts a warm acquisition, as after any loss of lock (R80, R205,
R207). -/
def State.sdfLost (s : State) (l cause : Nat) : State :=
  let s1 := s.lockEnd l cause
  if (s.lineAt l).state = .up then s1.faultWarm l evSdfLockLost else s1

/-- R205: windows of 64 codewords end in the four streams; `zeros` are their zero syndromes. -/
def execLockWindowEnd (l : Nat) (zeros : List Nat) (s : State) : Host.Outcome State Fault Refusal :=
  .next (
    if l < s.lines ∧ (s.lineAt l).sdf.lock then
      let bad := (List.range 4).map fun k => if zeros.getD k 0 < 8 then (s.lineAt l).sdf.bad.getD k 0 + 1 else 0
      let s1 := s.modSdf l fun x => { x with bad := bad }
      match (List.range 4).find? fun k => decide (4 ≤ bad.getD k 0) with
      | none => s1
      | some k => (s1.sdfLost l k).follow
    else s)

/-! RS statistics (R209 to R216). -/

/-- The lane's port decodes and re-encodes its stream: the Terminate profile (R31). -/
def State.terminates (s : State) (l : Nat) : Bool :=
  match s.lineCfg l with
  | none => false
  | some c => c.profile = .terminate

/-- R209, R213: one RS codeword of 544 symbols is decoded and counted. In Terminate it is passed on corrected, or marked when it is
uncorrectable (R210); else the stream passes as it came (R211). -/
def execRsCodewordDecode (l : Nat) (r : List Nat) (s : State) : Host.Outcome State Fault Refusal :=
  .next (
    if l < s.lines ∧ (s.lineAt l).sdf.lock then
      let s1 := s.bump gSdf l 8
      match rsDecode r with
      | none => (s1.bump gSdf l 10).modSdf l fun x => { x with uncorr := x.uncorr + 1, rsOut := r, rsMark := s.terminates l }
      | some (w, n) =>
        let s2 := (s1.bump gSdf l (12 + min n 15)).modSdf l fun x => { x with
          rsOut := if s.terminates l then rsEncode (w.take 514) else r, rsMark := false }
        if n = 0 then s2 else (s2.bump gSdf l 9).bumpBy gSdf l 11 n
    else s)

/-- A ratio of R214; without a codeword in the period the spec states none. -/
def ratioOf (num den : Nat) (open_ : Word) : Nat × Nat := if den = 0 then (open_.toNat, 1000000000) else (num, den)

/-- A ratio times 10^9, saturating (R737). -/
def ratioWord (r : Nat × Nat) : Nat := min (r.1 * 1000000000 / r.2) (2 ^ 32 - 1)

/-- R215: counts of consecutive periods above the threshold and below half of it. -/
def degRuns (r : Nat × Nat) (thr high low : Nat) : Nat × Nat :=
  (if thr * r.2 < r.1 * 1000000 then min (high + 1) 3 else 0,
   if 2 * r.1 * 1000000 < thr * r.2 then min (low + 1) 10 else 0)

/-- R193: the LMS of the level table at step 2^-k: each decided symbol, by the entry of its level and the two before, moves that entry
towards its sample. -/
def State.adaptTable (s : State) (l : Nat) (syms : List (Nat × Int)) : State :=
  let k := (-(s.parI nSdfCfg l 4)).toNat
  s.modSdf l fun x => { x with
    table := syms.foldl (fun t p => tmod t nominalLevel p.1 fun m => m + roundDiv (1048576 * p.2 - m) (2 ^ k)) x.table }

/-- R214 to R216: a 10 ms period ends, judged by the thresholds that were set before it began (R217). `syms` are the decided symbols of
the period as the level table takes them. -/
def execSdfPeriodEnd (l : Nat) (s : State) (syms : List (Nat × Int) := []) : Host.Outcome State Fault Refusal :=
  .next (
    if l < s.lines then
      let x := (s.lineAt l).sdf
      let bits := s.stat gSdf l 5
      let cws := s.stat gSdf l 0
      let rsS := s.stat gSdf l 11
      let rsC := s.stat gSdf l 8
      let ber := ratioOf (bits - x.bits0) (144 * (cws - x.cw0)) (s.freeAt 0)
      let ser := ratioOf (rsS - x.rsSym0) (544 * (rsC - x.rsCw0)) (s.freeAt 1)
      let a := degRuns ber x.degThr x.degHigh x.degLow
      let b := degRuns ser x.rsThr x.rsHigh x.rsLow
      let up := decide (3 ≤ a.1) && !x.deg
      let down := decide (10 ≤ a.2) && x.deg
      let rsUp := decide (3 ≤ b.1) && !x.rsDeg
      let rsDown := decide (10 ≤ b.2) && x.rsDeg
      let s1 := (s.freeSkip 2).modSdf l fun y => { y with
        ber := ratioWord ber, ser := ratioWord ser, bits0 := bits, cw0 := cws, rsSym0 := rsS, rsCw0 := rsC,
        degHigh := a.1, degLow := a.2, deg := (y.deg || up) && !down, degSince := if up then s.tku.bcnt else y.degSince,
        rsHigh := b.1, rsLow := b.2, rsDeg := (y.rsDeg || rsUp) && !rsDown, rsSince := if rsUp then s.tku.bcnt else y.rsSince,
        uncorr := 0, degThr := s.parN nSdfCfg l 7, rsThr := s.parN nSdfCfg l 8 }
      let s2 := if up then s1.raise evSdfDegrade [Word.nat l, Word.nat (ratioWord ber)] else s1
      let s3 := if down then s2.raise evSdfDegradeClear (Word.nat l :: field32 (s.since x.degSince)) else s2
      let s4 := if rsUp then s3.raise evSdfRsDegrade [Word.nat l, Word.nat (ratioWord ser)] else s3
      let s5 := if rsDown then s4.raise evSdfRsDegradeClear (Word.nat l :: field32 (s.since x.rsSince)) else s4
      let s6 := if 0 < x.uncorr then s5.raise evSdfRsUncorr [Word.nat l, Word.nat x.uncorr] else s5
      if s.parN nSdfCfg l 3 = 0 ∧ x.lock then s6.adaptTable l syms else s6
    else s)

/-! Faults of fixed stages (R212, R634, R638, R654). -/

/-- The location of a fixed stage in reports and in the repair record (log entry 10); 5 is the elastic FIFO. -/
def stageNum : FixedStage → Nat
  | .sdf => 0
  | .pfx => 1
  | .lex => 2
  | .tku => 3
  | .ltx => 4

/-- The port that a stage serves: stages of SDF and LTX are numbered by line lane, the others by port and direction. -/
def State.stagePort (s : State) (st : FixedStage) (unit : Nat) : Nat :=
  match st with
  | .sdf | .ltx => (s.portOf unit).getD unit
  | _ => unit / 2

/-- An interruption longer than 20 us is reported and counted (R638). -/
def State.boundCheck (s : State) (port fault ns : Nat) : State :=
  if 20000 < ns then
    ({ s with tst := { s.tst with bound := s.tst.bound + 1 } }).raise evRelBoundExceeded
      [Word.nat port, Word.nat fault, Word.nat ns]
  else s

/-- R634: the stage is flushed, re-initialised in place and sent to targeted self-test. The stage of TKU holds the sub-tick
interpolator, whose loss yields rank 3 to rank 2 (R654). `ns` is the interruption measured. -/
def execFixedStageFault (st : FixedStage) (unit ns : Nat) (s : State) : Host.Outcome State Fault Refusal :=
  .next (
    let ok := match st with | .sdf | .ltx => decide (unit < s.lines) | _ => decide (unit < 2 * s.lines)
    if ok then
      let s1 := s.boundCheck (s.stagePort st unit) (stageNum st) ns
      (match st with
        | .tku => s1.interpReport unit
        | _ => s1.report .stage unit (stageNum st) srcTest).follow
    else s)

/-! The SDF nouns (R220). -/

def specGetSdfCfg : CmdSpec := { verb := vGet, noun := nSdfCfg, inst := .line, form := .fixed [0], modes := .any }
def procGetSdfCfg : Sentence → State → State :=
  process specGetSdfCfg noCheck (getAct fun s l => s.paramSet nSdfCfg l) noEcho
def execGetSdfCfg (m : Sentence) (s : State) : Host.Outcome State Fault Refusal :=
  .next (submit vGet nSdfCfg procGetSdfCfg m s)

/-- R218: transmit precoding is set on a lane in DOWN or TEST only. -/
def checkSdfCfg (s : State) (m : Sentence) (ws : List Word) : Option Refuse :=
  let st := (s.lineAt m.inst.toNat).state
  if (maskSelected nSdfCfg ws).contains 0 ∧ st ≠ .down ∧ st ≠ .test then some { code := cStateRefused, detail := 2 }
  else maskRange nSdfCfg m ws

def specSetSdfCfg : CmdSpec := { verb := vSet, noun := nSdfCfg, inst := .line, form := .mask, modes := .notShutter }
def procSetSdfCfg : Sentence → State → State := process specSetSdfCfg checkSdfCfg (setAct nSdfCfg) (setEcho nSdfCfg)
def execSetSdfCfg (m : Sentence) (s : State) : Host.Outcome State Fault Refusal :=
  .next (submit vSet nSdfCfg procSetSdfCfg m s)

/-- Lock, offsets, starts, block-start stream, precoding, hunt mismatches and relock attempts, skew. -/
def State.sdfStatus (s : State) (l : Nat) : List Word :=
  let x := (s.lineAt l).sdf
  Word.flag x.lock :: x.off.map Word.nat ++ x.start.map Word.nat ++ [Word.nat x.first, precodeWord x.precode] ++
    s.statWords gSdf l 6 ++ s.statWords gSdf l 7 ++ [Word.int x.skew]

def specGetSdfStatus : CmdSpec := { verb := vGet, noun := nSdfStatus, inst := .line, form := .fixed [0], modes := .any }
def procGetSdfStatus : Sentence → State → State := process specGetSdfStatus noCheck (getAct State.sdfStatus) noEcho
def execGetSdfStatus (m : Sentence) (s : State) : Host.Outcome State Fault Refusal :=
  .next (submit vGet nSdfStatus procGetSdfStatus m s)

def specGetSdfStats : CmdSpec := { verb := vGet, noun := nSdfStats, inst := .line, form := .fixed [0], modes := .any }
def procGetSdfStats : Sentence → State → State :=
  process specGetSdfStats noCheck
    (getAct fun s l => (List.range 28).flatMap (s.statWords gSdf l) ++
      [Word.nat (s.lineAt l).sdf.ber, Word.nat (s.lineAt l).sdf.ser]) noEcho
def execGetSdfStats (m : Sentence) (s : State) : Host.Outcome State Fault Refusal :=
  .next (submit vGet nSdfStats procGetSdfStats m s)

def specGetSdfDetector : CmdSpec := { verb := vGet, noun := nSdfDetector, inst := .line, form := .fixed [0], modes := .any }
def procGetSdfDetector : Sentence → State → State :=
  process specGetSdfDetector noCheck (getAct fun s l => (List.range 64).map fun k => Word.int (s.levelEntry l k)) noEcho
def execGetSdfDetector (m : Sentence) (s : State) : Host.Outcome State Fault Refusal :=
  .next (submit vGet nSdfDetector procGetSdfDetector m s)

/-- R220: the hunt starts a full sweep; an UP lane follows R121. -/
def State.restartHunt (s : State) (l : Nat) : State :=
  let up := (s.lineAt l).state = .up
  let s1 := s.lockEnd l lostRestart
  let s2 := (s1.modSdf l fun x => { x with prev := none }).huntStart l
  if up then
    let s3 := s2.modLine l fun x => { x with state := .acquire, lrx := { x.lrx with step := 7, since := s.tku.bcnt } }
    match s3.portOf l with
    | none => s3
    | some p => s3.portFail p [l] [] laneRestart
  else s2

def specRestartSdfHunt : CmdSpec := { verb := vRestart, noun := nSdfHunt, inst := .line, form := .fixed [0], modes := .stop }
def procRestartSdfHunt : Sentence → State → State :=
  process specRestartSdfHunt
    (fun s m _ => if (s.lineAt m.inst.toNat).state = .down then some { code := cStateRefused, detail := 2 } else none)
    (fun s m _ => ((s.restartHunt m.inst.toNat).follow, okDone)) noEcho
def execRestartSdfHunt (m : Sentence) (s : State) : Host.Outcome State Fault Refusal :=
  .next (submit vRestart nSdfHunt procRestartSdfHunt m s)

end Sys2Proof.Machine
end

