-- ==== Sys2Proof/Machine/LineTransmit.lean ====
section
/-! DEFINITION. The line transmitters (R223 to R247): the transmit datapath from payload to DAC codes, settings, swing, the enable and
disable sequences, forced OFF, DAC cells, and the LTX nouns. -/

namespace Sys2Proof.Machine

/-! Figures of the transmit datapath. -/

/-- R224, before the division: 64 x(n) for taps c-2 .. c6, level values, table, and the levels a(n+2) .. a(n-6). -/
def preDistort (v taps nl : List Int) (a : List Nat) : Int :=
  ((taps.zip a).map fun p => p.1 * v.getD p.2 0).sum +
    64 * nl.getD (16 * a.getD 2 0 + 4 * a.getD 3 0 + a.getD 4 0) 0

/-- cos and sin of 2 pi 2^j / 18,000 in 10^-18. -/
def turnTable : List (Int × Int) :=
  [(999999939076516661, 349065843310097), (999999756306074068, 698131644087579), (999999025224415047, 1396262947914276),
   (999996100899560563, 2792523173742489), (999984403628648222, 5585024570828310), (999937615001086488, 11169874929422189),
   (999750467788122131, 22338356193573705), (999001995685138055, 44665564108286014), (996009974765777184, 89241975365160403),
   (984071739665848208, 177771795263003044), (936794377617937857, 349880399655968797), (755167411873159099, 655531982472857297),
   (140555639910411028, 990072781208217475), (-960488224178749741, 278320626641202756), (845075257572096438, -534647368869851320)]

/-- cos(2 pi k / 18,000) in 10^-18 (R225). -/
def carrier (k : Nat) : Int :=
  ((turnTable.zipIdx).foldl (fun (a : Int × Int) p =>
    if (k % 18000).testBit p.2 then
      ((a.1 * p.1.1 - a.2 * p.1.2) / 1000000000000000000, (a.1 * p.1.2 + a.2 * p.1.1) / 1000000000000000000)
    else a) (1000000000000000000, 0)).1

/-- One in the fixed point of the carrier and the envelope, 10^-18. -/
def one18 : Int := 1000000000000000000

/-- The envelope e of a packet of `n` symbols, `t` samples after the start of its symbol 0: the raised cosine over its first and last 32
symbols, updated every 6,400 samples, and 0 outside it (R323). -/
def envelope (n : Nat) (t : Int) : Int :=
  let d : Int := 1800000 * n
  let edge := min t (d - t)
  if t < 0 ∨ d ≤ t then 0
  else if edge < 57600000 then (one18 - carrier (edge / 6400).toNat) / 2
  else one18

/-- R225: the DAC code of a sample: `x64` is 64 x, `m` the modulation depth in 0.5 %, `e` the envelope, `theta` the phase pi. -/
def pilotCode (x64 : Int) (m : Nat) (e : Int) (k : Nat) (theta : Bool) : Int :=
  let s := if theta then -carrier k else carrier k
  roundAway (x64 * (200 * one18 * one18 + m * e * s)) (64 * 200 * (one18 * one18).toNat)

/-- R185, R224: the levels of symbols: the p row with precoding on, from the level before, the g row with precoding off. -/
def txLevels (on : Bool) (p : Nat) (gs : List Nat) : List Nat := if on then precodeRun p gs else gs.map (· % 4)

/-- R223: the DAC samples of levels: one for each symbol, at half rate two, with the taps spaced at half a symbol. The table goes by
symbols. `hist` holds the eight levels before, newest first; outputs wait for the two levels that come after them. -/
def txSamples (half : Bool) (v taps nl : List Int) (hist levels : List Nat) : List Int :=
  let n := if half then 2 else 1
  let all := hist.reverse ++ levels
  let lev (i : Int) : Nat := all.getD i.toNat 0
  (List.range (n * levels.length)).map fun j =>
    let at_ : Int := n * (all.length - levels.length) + j - 2
    let tapped := ((taps.zipIdx).map fun t => t.1 * v.getD (lev ((at_ + 2 - t.2) / n)) 0).sum
    let sym := at_ / n
    tapped + 64 * nl.getD (16 * lev sym + 4 * lev (sym - 1) + lev (sym - 2)) 0

/-- The levels of a test pattern from symbol `k` on (R231): SQUARE16 and LEVEL0 to LEVEL3; the patterns of IEEE 802.3 come as bits. -/
def patternLevels (pat k : Nat) (bits : List Bool) : List Nat :=
  if pat < 3 then (List.range (bits.length / 2)).map fun i => grayOf (bits.getD (2 * i) false) (bits.getD (2 * i + 1) false)
  else (List.range 288).map fun i => if pat = 3 then (if (k + i) % 16 < 8 then 0 else 3) else pat - 4

/-- The worst-case figure of R226 in DAC LSB, rounded up. -/
def State.worstDrive (s : State) (l : Nat) : Nat :=
  let v := ltxValues s l ltxLevels 4 []
  let w := max (v.getD 0 0).natAbs (v.getD 3 0).natAbs * ((ltxValues s l ltxTaps 9 []).map Int.natAbs).sum +
    64 * maxAbs (ltxValues s l ltxTable 64 [])
  (w + 63) / 64

/-! Settings (R227, R228). -/

/-- Settings in force from element `e` on (R227). -/
def State.txSet (s : State) (l e n : Nat) : List Int :=
  (List.range n).map fun i =>
    (tget (s.lineAt l).ltx.applied (fun k => paramDflt s.fuses (paramKey nLtxCfg l k)) (e + i)).toInt

/-- The levels that a transmitter sends next: the line format of its payload, its fill from PRBS31 (R177), or the test pattern.
`bits` are the payload bits that its stream supplies. The transmit precoding setting decides the row (R186), and nothing of the elastic
stage or the Hinge does (R32). -/
def State.txBlock (s : State) (l : Nat) (bits : List Bool) : List Nat :=
  let x := (s.lineAt l).ltx
  match x.content with
  | .none => []
  | .pattern => patternLevels (s.parN nLtxCfg l ltxPattern) x.index bits
  | c =>
    let payload := if c = .fill then prbsRun 544 x.prbs else bits
    txLevels (s.parN nSdfCfg l 0 == 0) x.precoder (payloadSymbols payload)

/-- The DAC code of sample `i` of a block: envelope and phase are those of the packet on air; between packets the multiplier passes x
(R225, R321, R323). -/
def Line.sampleCode (y : Line) (x64 : Int) (i : Nat) : Int :=
  let t := y.plt.airAt + i
  let e := if y.plt.air.isSome then envelope y.plt.airPhases.length t else 0
  pilotCode x64 y.plt.depth e (y.ltx.index + i) (y.plt.airPhases.getD (t / 1800000).toNat false)

/-- R176 to R188, R223 to R225: one interleaver block leaves the DAC. -/
def State.transmit (s : State) (l : Nat) (bits : List Bool) : State :=
  let x := (s.lineAt l).ltx
  let levels := s.txBlock l bits
  let xs := txSamples (s.half l) (s.txSet l ltxLevels 4) (s.txSet l ltxTaps 9) (s.txSet l ltxTable 64) x.sent levels
  (s.modPlt l fun y => { y with airAt := if y.air.isSome then y.airAt + xs.length else y.airAt }).modLtx l fun y => { y with
    dac := (xs.zipIdx).map fun p => (s.lineAt l).sampleCode p.1 p.2
    index := (x.index + xs.length) % 18000, precoder := levels.getLastD x.precoder, sent := (levels.reverse ++ x.sent).take 8
    prbs := if x.content = .fill then (List.range 544).foldl (fun st _ => prbsNext st) x.prbs else x.prbs }

/-- R227: an interleaver block of a transmitter ends. Its symbols have been sent; level values, taps and table that were staged take
effect together. -/
def execLtxSettingsApply (l : Nat) (s : State) (bits : List Bool := []) : Host.Outcome State Fault Refusal :=
  .next (
    if l < s.lines then
      let s1 := s.transmit l bits
      if (s.lineAt l).ltx.staged then
        s1.modLtx l fun x => { x with
          staged := false
          applied := (List.range 77).foldl (fun t i =>
            tset t (fun e => paramDflt s.fuses (paramKey nLtxCfg l e)) (i + 1) (s.param nLtxCfg l (i + 1))) [] }
      else s1
    else s)

/-- R228: one step of 10 mV towards the configured swing. -/
def execSwingStep (l : Nat) (s : State) : Host.Outcome State Fault Refusal :=
  .next (
    if l < s.lines then
      let want := s.parN nLtxCfg l ltxSwing
      s.modLtx l fun x => { x with
        swing := if x.swing < want then x.swing + 1 else if want < x.swing then x.swing - 1 else x.swing }
    else s)

/-! The enable sequence (R235, R236) and its reverse (R237). -/

/-- Step 2: LTX asks for the lane's optics. -/
def execDacSettled (l : Nat) (s : State) : Host.Outcome State Fault Refusal :=
  .next (
    if (s.lineAt l).ltx.enStep = 1 ∧ (s.lineAt l).ltx.state = .off then
      (s.modLtx l fun x => { x with enStep := 3, release := false }).opticsAsk l
    else s)

/-- Step 3: OCU reports optics ready; the precoder starts from p = 0. -/
def execOpticsReady (l : Nat) (s : State) : Host.Outcome State Fault Refusal :=
  .next (
    if (s.lineAt l).ltx.enStep = 3 ∧ (s.lineAt l).optics = .ready then
      (s.modLtx l fun x => { x with enStep := 4, state := .rampUp, precoder := 0, sent := [], fast := false }).follow
    else s)

/-- R236: back to OFF; the retry follows after 1 s. -/
def execOpticsSettleTimeout (l : Nat) (s : State) : Host.Outcome State Fault Refusal :=
  .next (
    if (s.lineAt l).ltx.enStep = 3 ∧ (s.lineAt l).optics ≠ .ready then
      let n := (s.lineAt l).ltx.attempts + 1
      ((s.modLtx l fun x => { x with enStep := 0, retry := true, attempts := n }).raise evLtxOpticsTimeout
        [Word.nat l, Word.nat n]).opticsStop l
    else s)

def execOpticsRetryTimer (l : Nat) (s : State) : Host.Outcome State Fault Refusal :=
  .next (
    if (s.lineAt l).ltx.retry ∧ s.txWant l then
      s.modLtx l fun x => { x with enStep := 1, retry := false, since := s.tku.bcnt }
    else s)

/-- Step 5. -/
def execRampUpEnd (l : Nat) (s : State) : Host.Outcome State Fault Refusal :=
  .next (
    if (s.lineAt l).ltx.state = .rampUp then
      (((s.modLtx l fun x => { x with state := .on, enStep := 0, attempts := 0 }).modPlt l fun x => { x with begun := true }).raise evLtxEnabled
        (Word.nat l :: field32 (s.since (s.lineAt l).ltx.since))).follow
    else s)

/-- R237: the end of a ramp-down; a pilot packet on air is truncated (R233). -/
def execRampDownEnd (l : Nat) (s : State) : Host.Outcome State Fault Refusal :=
  .next (
    if (s.lineAt l).ltx.state = .rampDown then
      (((s.modLtx l fun x => { x with state := .off, content := .none, fast := false, release := true }).raise
        evLtxDisabled [Word.nat l, Word.nat (s.lineAt l).ltx.cause.num]).pltTruncate l).follow
    else s)

/-- R578: 10 us after the end of a ramp-down. -/
def execOpticsReleaseTimer (l : Nat) (s : State) : Host.Outcome State Fault Refusal :=
  .next (
    if (s.lineAt l).ltx.release ∧ (s.lineAt l).ltx.state = .off then
      (s.modLtx l fun x => { x with release := false }).opticsStop l
    else s)

/-! DAC cells (R243 to R245). -/

/-- The number of a DAC cell's fault in REL_BOUND_EXCEEDED (log entry 10). -/
def faultCell : Nat := 6

/-- R244, R245: the transom cell takes the failed cell's place; one that calibration holds is taken from it (R58). Without
one the lane enters FAULT and its transmitter stays OFF. -/
def execDacCellFailure (l cell ns : Nat) (s : State) : Host.Outcome State Fault Refusal :=
  .next (
    let x := s.cellAt l cell
    if l < s.lines ∧ cell < 16 ∧ x.pos.isSome ∧ x.health = .ok then
      let s1 := s.boundCheck ((s.portOf l).getD l) faultCell ns
      (s1.cellFailed l cell).follow
    else s)

/-! The LTX nouns (R246). -/

def specGetLtxCfg : CmdSpec := { verb := vGet, noun := nLtxCfg, inst := .line, form := .fixed [0], modes := .any }
def procGetLtxCfg : Sentence → State → State := process specGetLtxCfg noCheck (getAct fun s l => s.paramSet nLtxCfg l) noEcho
def execGetLtxCfg (m : Sentence) (s : State) : Host.Outcome State Fault Refusal :=
  .next (submit vGet nLtxCfg procGetLtxCfg m s)

/-- R229. -/
def levelsOk (v : List Int) : Bool :=
  decide (v.getD 0 0 < v.getD 1 0 ∧ v.getD 1 0 < v.getD 2 0 ∧ v.getD 2 0 < v.getD 3 0)

/-- A SET touches what R227 holds back: level values, taps or table. -/
def ltxShape (ws : List Word) : Bool := (maskSelected nLtxCfg ws).any fun i => decide (1 ≤ i ∧ i ≤ 3)

/-- R226, R229. -/
def checkLtxCfg (s : State) (m : Sentence) (ws : List Word) : Option Refuse :=
  let l := m.inst.toNat
  let cs := maskChanges nLtxCfg m ws
  let v := ltxValues s l ltxLevels 4 cs
  (maskRange nLtxCfg m ws).or
    (if ltxShape ws ∧
        (!levelsOk v || !driveOk v (ltxValues s l ltxTaps 9 cs) (ltxValues s l ltxTable 64 cs) (s.parN nPltCfg l pltDepth)) then
      some { code := cResource, detail := 1 } else none)

/-- The settings of R227 are staged; the rows marked "at once" act on the transmitter. -/
def actLtxCfg (s : State) (m : Sentence) (ws : List Word) : State × Reply :=
  let l := m.inst.toNat
  let s1 := (setAct nLtxCfg s m ws).1
  ((if ltxShape ws then s1.modLtx l fun x => { x with staged := true } else s1).follow, okDone)

def specSetLtxCfg : CmdSpec := { verb := vSet, noun := nLtxCfg, inst := .line, form := .mask, modes := .notShutter }
def procSetLtxCfg : Sentence → State → State := process specSetLtxCfg checkLtxCfg actLtxCfg (setEcho nLtxCfg)
def execSetLtxCfg (m : Sentence) (s : State) : Host.Outcome State Fault Refusal :=
  .next (submit vSet nLtxCfg procSetLtxCfg m s)

/-- The place of a transmitter state in R234. -/
def TxState.num : TxState → Nat
  | .off => 0
  | .rampUp => 1
  | .on => 2
  | .rampDown => 3

/-- The code of a content (log entry 10). -/
def TxContent.num : TxContent → Nat
  | .none => 0
  | .fill => 1
  | .hostStream => 2
  | .localFault => 3
  | .pattern => 4
  | .sdfStream => 5

def State.ltxStatus (s : State) (l : Nat) : List Word :=
  let x := (s.lineAt l).ltx
  [Word.nat x.state.num, Word.flag x.forced, Word.nat x.content.num, Word.nat x.swing, Word.nat (s.worstDrive l),
   Word.nat (countWhere 16 fun n => (s.cellAt l n).health = .ok), Word.nat (s.retiredCells l)] ++ s.lastRun (l + 16)

def specGetLtxStatus : CmdSpec := { verb := vGet, noun := nLtxStatus, inst := .line, form := .fixed [0], modes := .any }
def procGetLtxStatus : Sentence → State → State := process specGetLtxStatus noCheck (getAct State.ltxStatus) noEcho
def execGetLtxStatus (m : Sentence) (s : State) : Host.Outcome State Fault Refusal :=
  .next (submit vGet nLtxStatus procGetLtxStatus m s)

/-- R242: the transmitter is forced OFF. -/
def State.squelch (s : State) (l : Nat) (fast : Bool) : State :=
  ((s.modLtx l fun x => { x with forced := true, fast := x.fast || fast }).syncWith .squelch).calCheck

def specSquelchLtxOut : CmdSpec := { verb := vSquelch, noun := nLtxOut, inst := .line, form := .fixed [0], modes := .stop }
def procSquelchLtxOut : Sentence → State → State :=
  process specSquelchLtxOut noCheck (fun s m _ => (s.squelch m.inst.toNat false, okDone)) noEcho
def execSquelchLtxOut (m : Sentence) (s : State) : Host.Outcome State Fault Refusal :=
  .next (submit vSquelch nLtxOut procSquelchLtxOut m s)

def specReleaseLtxOut : CmdSpec := { verb := vRelease, noun := nLtxOut, inst := .line, form := .fixed [0], modes := .stop }
def procReleaseLtxOut : Sentence → State → State :=
  process specReleaseLtxOut noCheck
    (fun s m _ => ((s.modLtx m.inst.toNat fun x => { x with forced := false }).follow, okDone)) noEcho
def execReleaseLtxOut (m : Sentence) (s : State) : Host.Outcome State Fault Refusal :=
  .next (submit vRelease nLtxOut procReleaseLtxOut m s)

end Sys2Proof.Machine
end

