-- ==== Sys2Proof/Machine/Timekeeping.lean ====
section
/-! DEFINITION. Timekeeping (R381 to R412): the base counter and the domain clocks at a tick, loss and return of LANE_REFCLK (R42),
the log marker (R398), the frame parse with residence correction (R743, R399 to R408), and the TKU nouns. -/

namespace Sys2Proof.Machine

/-! Domain clocks (R385 to R391). -/

/-- One tick: nanoseconds and fraction take the increment; 10^9 ns carry into the 48-bit seconds (R385). -/
def DomClk.advance (x : DomClk) : DomClk :=
  let n := x.ns * 2 ^ 32 + x.frac + x.inc
  let ns := n / 2 ^ 32
  { x with frac := n % 2 ^ 32, ns := ns % 1000000000, sec := (x.sec + ns / 1000000000) % 2 ^ 48 }

/-- A committed increment takes effect, then the tick (R388, R390). -/
def DomClk.tick (x : DomClk) : DomClk := DomClk.advance { x with inc := x.incNext.getD x.inc, incNext := none }

/-- What every applied step or set does (R391). -/
def DomClk.mark (x : DomClk) : DomClk := { x with unset := false, disc := true, steps := (x.steps + 1) % 2 ^ 32 }

/-- The nanoseconds of a clock after an offset, counted from 0 s; none when a step is refused (R389). -/
def stepTotal (x : DomClk) (sec ns : Int) : Option Nat :=
  let t : Int := ((x.sec : Int) + sec) * 1000000000 + x.ns + ns
  if -999999999 ≤ ns ∧ ns ≤ 999999999 ∧ 0 ≤ t ∧ t < 2 ^ 48 * 1000000000 then some t.toNat else none

/-- The words of TKU_STEP: domain, seconds low and high, nanoseconds, step count. -/
def stepWords (d : Domain) (sec ns : Int) (n : Nat) : List Word :=
  [Word.nat d.num, Word.int sec, Word.int (sec / 2 ^ 32), Word.int ns, Word.nat n]

/-- Applies a committed step to a domain (R389). -/
def State.domStep (s : State) (d : Domain) (sec ns : Int) : State :=
  match stepTotal (s.dom d) sec ns with
  | none => { s with tku := { s.tku with stepRefused := true } }
  | some t =>
    let s1 := s.modDom d fun x => { x.mark with sec := t / 1000000000, ns := t % 1000000000 }
    s1.raise evTkuStep (stepWords d sec ns (s1.dom d).steps)

/-- Applies a SET of the time: the fraction is zeroed (R392). -/
def State.domSet (s : State) (d : Domain) : State :=
  match (s.dom d).setNext with
  | none => s
  | some (sec, ns) =>
    let s1 := s.modDom d fun x => { x.mark with sec := sec, ns := ns, frac := 0, setNext := none }
    s1.raise evTkuStep (stepWords d sec ns (s1.dom d).steps)

/-- The first committed step is applied; each GO takes a tick of its own (R731). -/
def State.goStep (s : State) : State :=
  match s.tku.gos with
  | [] => s
  | (a, b, sec, ns) :: r =>
    let s1 := { s with tku := { s.tku with gos := r } }
    let s2 := if a then s1.domStep .a sec ns else s1
    if b ∧ s2.domBOn then s2.domStep .b sec ns else s2

/-- A change of the selected domain takes effect (R397). -/
def State.selectDomain (s : State) : State :=
  match s.tku.selNext with
  | none => s
  | some d =>
    let s1 := { s with tku := { s.tku with sel := d, selNext := none } }
    if d = s.tku.sel then s1 else s1.raise evTkuDomSelect [Word.nat s.tku.sel.num, Word.nat d.num]

/-! BCNT_TICK (R381, R385). -/

/-- The ticks that ports spend in FAULT (R314), and directions of a Terminate port in HUNT (R307). -/
def State.countTicks (s : State) : State :=
  s.slots.foldl (fun (s : State) p =>
    let x := s.portAt p
    let s1 := if x.state = .fault ∧ x.lineIn then s.bump gPort p 2 else s
    let s2 := if x.state = .fault ∧ x.hostIn then s1.bump gPort p 5 else s1
    let term : Bool := match x.cfg with
      | none => false
      | some c => c.profile = .terminate && (x.state = .up || x.state = .fault)
    if term then
      [0, 1].foldl (fun s d => if (s.blockAt (blockIdx p d)).lock then s else s.bump gPfx (blockIdx p d) 2) s2
    else s2) s

/-- One edge of the 625 MHz clock: BCNT and the domain clocks advance, then what was committed takes effect (R381 to R397).
Without LANE_REFCLK there is no edge (R41, R383). -/
def State.tick (s : State) : State :=
  let s1 := ({ s with tku := { s.tku with bcnt := s.tku.bcnt + 1 } }).modDom .a DomClk.tick
  let s2 := if s1.domBOn then s1.modDom .b DomClk.tick else s1
  let s3 := s2.goStep.domSet .a
  let s4 := if s3.domBOn then s3.domSet .b else s3
  (s4.selectDomain.countTicks).pmcEvent 0x001 1

def execBcntTick (s : State) : Host.Outcome State Fault Refusal := .next (if s.dev.refclk then s.tick else s)

/-! LANE_REFCLK (R41, R42, R716). -/

/-- The clock is declared absent: BCNT holds, transmitters go OFF, the pilot stops, lanes and started ports enter FAULT. -/
def execLaneRefclkAbsent (s : State) : Host.Outcome State Fault Refusal :=
  .next (
    if s.dev.refclk then
      let s1 := { s with dev := { s.dev with refclk := false }, tku := { s.tku with holdAt := s.tku.bcnt } }
      let s2 := (List.range s.lines).foldl (fun s l => ((s.pltTruncate l).pltAbort l).txCut l) s1
      ((s2.refclkFault).syncWith .refclk).calCheck
    else s)

/-- Codes written meanwhile apply (R580). -/
def State.applyCodes (s : State) : State :=
  (List.range 33).foldl (fun s c =>
    if s.param nOcuAx c axSlew = offWord then
      let t := (s.axAt c).target
      s.modAx c fun x => { x with code := t, frac := 0 }
    else s) s

/-- Every lane of a started port begins a cold acquisition (R42); a line lane stays in FAULT meanwhile (R421). -/
def State.coldAgain (s : State) (p : Nat) : State :=
  let s1 := (s.portLines p).foldl (fun s l =>
    if (s.lineAt l).stuck then s else (s.huntStart l).acquire l true) s
  (s1.portHosts p).foldl (fun s h => s.hostAcquire h false) s1

/-- The clock is declared present: BCNT runs on; after a hold every time view is discontinuous and the lanes of started ports
acquire anew (R42, R383). -/
def execLaneRefclkPresent (s : State) : Host.Outcome State Fault Refusal :=
  .next (
    if s.dev.refclk ∨ s.dev.mode = .starting ∧ s.dev.step = 0 then s
    else if s.dev.refclkSeen then
      let s1 := { s with
        dev := { s.dev with refclk := true }
        tku := { s.tku with heldFlag := true, domA := { s.tku.domA with disc := true }
                            domB := if s.domBOn then { s.tku.domB with disc := true } else s.tku.domB } }
      let s2 := s1.raise evTkuDiscontinuity (field32 s.tku.holdAt.toNat ++ field32 s.tku.bcnt.toNat)
      let s3 := (List.range 64).foldl (fun s c => s.modMn c fun x => { x with disc := true }) s2.applyCodes
      let s4 := s.slots.foldl (fun s p =>
        if s.dev.powered ∧ s.live ∧ ((s.portAt p).state = .acquire ∨ (s.portAt p).state = .fault) then s.coldAgain p else s) s3
      s4.follow
    else ({ s with dev := { s.dev with refclk := true, refclkSeen := true } }).applyCodes.follow)

/-! The log marker (R398). -/

/-- Firmware writes the selected domain's full time into its event log. -/
def execLogMarkerTimer (s : State) : Host.Outcome State Fault Refusal :=
  .next (
    if s.begins then
      let x := s.dom s.tku.sel
      { s with dev := { s.dev with log := s.dev.log ++ [.marker s.tku.sel x.sec x.ns] } }
    else s)

/-! The frame parse and residence correction (R399 to R408, R743). -/

/-- R399. -/
def ptpEvent (f : Frame) : Bool :=
  match f.ptp with
  | none => false
  | some (t, v) =>
    let udp := f.proto == 17 && (f.dport == 319 || f.dport == 320)
    decide (v = 2 ∧ t.toNat ≤ 3) &&
      (if f.ip = 4 then frameEtherType f == some 0x0800 && udp && !f.frag
       else if f.ip = 6 then frameEtherType f == some 0x86DD && udp
       else frameEtherType f == some 0x88F7)

/-- The corrected residence in units of 2^-16 ns: ticks/64 times the increment, and the adjust in 1/16 ns (R402). -/
def residence16 (res64 : Int) (inc : Nat) (adjust : Int) : Int := roundAway (res64 * inc + adjust * 2 ^ 34) (2 ^ 22)

/-- A one's complement sum of 16-bit words. -/
def sum16 (a b : Nat) : Nat := if a + b < 0x10000 then a + b else a + b - 0xFFFF

/-- RFC 1624 over the four words of correctionField (R405). -/
def udpUpdate (csum : Nat) (old new : Nat) : Nat :=
  0xFFFF - (List.range 4).foldl (fun c i => sum16 (sum16 c (0xFFFF - old / 65536 ^ i % 65536)) (new / 65536 ^ i % 65536))
    (0xFFFF - csum)

/-- The UDP checksum that leaves (R405). -/
def udpCsum (f : Frame) (new : BitVec 64) : BitVec 16 :=
  let c := udpUpdate f.csum.toNat f.correction.toNat new.toNat
  if f.ip = 4 then (if f.csum = 0 then 0 else BitVec.ofNat 16 c)
  else if f.ip = 6 then BitVec.ofNat 16 (if c = 0 then 0xFFFF else c)
  else f.csum

/-! Items of R411. -/
def tkEvents : Nat := 0
def tkCorrections : Nat := 1
def tkMasked : Nat := 2
def tkFieldMax : Nat := 3
def tkOverflow : Nat := 4
def tkRange : Nat := 5
def tkCsumZero : Nat := 6
def tkErrored : Nat := 7

/-- R406: TKU_RESID_RANGE at most once per second per port and direction, and a targeted self-test. -/
def State.residRange (s : State) (u : Nat) (res64 : Int) : State :=
  let x := s.residAt u
  let n := x.since + 1
  let due := match x.lastAt with | none => true | some b => decide (625000000 ≤ s.since b)
  let s1 := if due then
      (s.modResid u fun x => { x with since := 0, lastAt := some s.tku.bcnt }).raise evTkuResidRange [Word.int res64, Word.nat n]
    else s.modResid u fun x => { x with since := n }
  s1.interpReport u

/-- The frame leaves as given. -/
def State.sendFrame (s : State) (u : Nat) (corr : BitVec 64) (csum : BitVec 16) (ok : Bool) : State :=
  s.modResid u fun x => { x with out := some (corr, csum, ok) }

/-- An uncorrected frame: bytes and FCS unchanged, counted by reason (R406). -/
def State.uncorrected (s : State) (u item : Nat) (f : Frame) : State :=
  (s.bump gTku u item).sendFrame u f.correction f.csum f.fcsOk

/-- The rewrite of R404; over a wrong FCS the complement of the correct one is sent (R407). -/
def State.rewrite (s : State) (u : Nat) (f : Frame) (new : BitVec 64) : State :=
  (s.bump gTku u (if f.fcsOk then tkCorrections else tkErrored)).sendFrame u new (udpCsum f new) f.fcsOk

/-- The residence of a frame in 1/64 tick: from parse to rewrite point with the path delays on either side (R401); without the sub-tick
interpolator both are taken in whole ticks (R654). -/
def State.residence (s : State) (u : Nat) (f : Frame) : Int :=
  let x := s.residAt u
  let t (n : Int) : Int := if x.interpDown then n / 64 * 64 else n
  (t f.rewriteAt + x.egress.toNat) - (t f.parseAt - x.ingress.toNat)

/-- Residence correction of one PTP event message of type `t` (R404 to R408). -/
def State.correctFrame (s : State) (u : Nat) (f : Frame) (t : Nat) : State :=
  let s1 := s.bump gTku u tkEvents
  let inc := (s.dom s.tku.sel).inc
  let res := s.residence u f
  if f.cut then (s1.bump gTku u tkErrored).modResid u fun x => { x with out := none }
  else if s.parN nTkuPort u 0 = 1 ∨ !(s.parN nTkuPort u 1).testBit t then s1.uncorrected u tkMasked f
  else if f.correction = 0x7FFFFFFFFFFFFFFF then s1.uncorrected u tkFieldMax f
  else if f.ip = 6 ∧ f.csum = 0 then s1.uncorrected u tkCsumZero f
  else if res < 0 ∨ 1000 * 2 ^ 38 < res * inc then (s1.uncorrected u tkRange f).residRange u res
  else
    let new := f.correction.toInt + residence16 res inc (s.parI nTkuPort u 2)
    if new < -(2 ^ 63) ∨ 2 ^ 63 ≤ new then s1.uncorrected u tkOverflow f
    else s1.rewrite u f (BitVec.ofInt 64 new)

/-- The parse takes a frame: from traffic that the port forwards, while block lock holds; a frame cut short ends with the
lock or the port's fault (R743, R408). -/
def State.parses (s : State) (p d : Nat) (f : Frame) (c : PortCfg) : Bool :=
  decide (p < s.lines ∧ d < 2) && c.profile ≠ .transparent && s.live &&
    ((s.portAt p).state = .up || (s.portAt p).state = .fault) &&
    (f.cut || ((s.blockAt (blockIdx p d)).lock && !s.localOut p d))

/-- A poisoned word of the frame buffer: the frame is sent errored with a complemented FCS (R540). -/
def frameSent (f : Frame) : Frame := if (badRows 1 f.ecc).isEmpty then f else { f with fcsOk := false }

def execFrameParsed (p d : Nat) (f : Frame) (s : State) : Host.Outcome State Fault Refusal :=
  .next (
    match (s.portAt p).cfg with
    | none => s
    | some c =>
      if s.parses p d f c then
        let s0 := if f.ecc.isEmpty then s else (s.counterReads f.ecc).follow
        let s1 := if s.unitOn fLex then s0.lexFrame p d f (ptpEvent f) else s0
        if c.profile = .terminate ∧ s.unitOn fResid ∧ ptpEvent f then
          (s1.correctFrame (2 * p + d) (frameSent f) ((f.ptp.getD (0, 0)).1.toNat)).follow
        else s1
      else s)

/-! The TKU nouns (R410). -/

/-- Seconds low and high, nanoseconds, fraction, increment low and high, flags (0 discontinuity, 1 UNSET), step count, selected. -/
def State.domWords (s : State) (i : Nat) : List Word :=
  let d : Domain := if i = 0 then .a else .b
  let x := s.dom d
  words64 x.sec ++ [Word.nat x.ns, Word.nat x.frac] ++ words64 x.inc ++
    [Word.nat (x.disc.toNat + 2 * x.unset.toNat), Word.nat x.steps, Word.flag (s.tku.sel = d)]

def specGetTkuDomain : CmdSpec := { verb := vGet, noun := nTkuDomain, inst := .domain, form := .fixed [0], modes := .any }
def procGetTkuDomain : Sentence → State → State := process specGetTkuDomain noCheck (getAct State.domWords) noEcho
def execGetTkuDomain (m : Sentence) (s : State) : Host.Outcome State Fault Refusal :=
  .next (submit vGet nTkuDomain procGetTkuDomain m s)

/-- 48-bit seconds and nanoseconds below 10^9. -/
def checkTkuDomain (_ : State) (_ : Sentence) (ws : List Word) : Option Refuse :=
  if 65536 ≤ (ws.getD 1 0).toNat ∨ 1000000000 ≤ (ws.getD 2 0).toNat then some { code := cResource, detail := 1 } else none

/-- The time is applied at the next tick (R392). -/
def actTkuDomain (s : State) (m : Sentence) (ws : List Word) : State × Reply :=
  let t := ((ws.getD 0 0).toNat + (ws.getD 1 0).toNat * 2 ^ 32, (ws.getD 2 0).toNat)
  (s.modDom (if m.inst = 0 then .a else .b) fun x => { x with setNext := some t }, okDone)

def specSetTkuDomain : CmdSpec := { verb := vSet, noun := nTkuDomain, inst := .domain, form := .fixed [12], modes := .notShutter }
def procSetTkuDomain : Sentence → State → State := process specSetTkuDomain checkTkuDomain actTkuDomain State.domWords
def execSetTkuDomain (m : Sentence) (s : State) : Host.Outcome State Fault Refusal :=
  .next (submit vSet nTkuDomain procSetTkuDomain m s)

/-- The parameters of R409, then the path delays, 0xFFFF_FFFF before the port has reached UP. -/
def State.tkuPortWords (s : State) (u : Nat) : List Word :=
  s.paramSet nTkuPort u ++ [(s.residAt u).ingress, (s.residAt u).egress]

def specGetTkuPort : CmdSpec :=
  { verb := vGet, noun := nTkuPort, unit := some fResid, inst := .portDir, form := .fixed [0], modes := .any }
def procGetTkuPort : Sentence → State → State := process specGetTkuPort noCheck (getAct State.tkuPortWords) noEcho
def execGetTkuPort (m : Sentence) (s : State) : Host.Outcome State Fault Refusal :=
  .next (submit vGet nTkuPort procGetTkuPort m s)

def specSetTkuPort : CmdSpec :=
  { verb := vSet, noun := nTkuPort, unit := some fResid, inst := .portDir, form := .mask, modes := .notShutter }
def procSetTkuPort : Sentence → State → State :=
  process specSetTkuPort (setCheck nTkuPort) (setAct nTkuPort) (setEcho nTkuPort)
def execSetTkuPort (m : Sentence) (s : State) : Host.Outcome State Fault Refusal :=
  .next (submit vSet nTkuPort procSetTkuPort m s)

/-- The counters of R411 in its order. -/
def State.tkuStatWords (s : State) (u : Nat) : List Word := (List.range 8).flatMap fun i => s.statWords gTku u i

def specGetTkuStats : CmdSpec := { verb := vGet, noun := nTkuStats, inst := .portDir, form := .fixed [0], modes := .any }
def procGetTkuStats : Sentence → State → State := process specGetTkuStats noCheck (getAct State.tkuStatWords) noEcho
def execGetTkuStats (m : Sentence) (s : State) : Host.Outcome State Fault Refusal :=
  .next (submit vGet nTkuStats procGetTkuStats m s)

end Sys2Proof.Machine
end

