-- ==== Sys2Proof/Machine/Shutter.lean ====
section
/-! DEFINITION. The Shutter (R431 to R437): its triggers, its steps in order, stricter triggers, the record of step 3, the power-down
of step 5. Times are in BCNT ticks from the trigger. -/

namespace Sys2Proof.Machine

/-- Undervoltage is stricter than thermal, thermal than commanded (R434). -/
def Trigger.rank : Trigger → Nat
  | .commanded => 0
  | .thermal => 1
  | .undervoltage => 2

/-- A step begins: its time goes into the record. -/
def ShutRec.begin (r : ShutRec) (b : BitVec 64) : ShutRec := { r with began := r.began ++ [b] }

/-- A step ends, completed or abandoned. -/
def ShutRec.stop (r : ShutRec) (b : BitVec 64) (done : Bool) : ShutRec :=
  { r with ended := r.ended ++ [b], completed := r.completed ++ [done] }

def State.modShut (s : State) (f : Shut → Shut) : State := { s with shut := f s.shut }

/-! TEST and the link, which the Shutter leaves and takes down. -/

def State.modHif (s : State) (f : Hif → Hif) : State := { s with hif := f s.hif }

/-- The link goes down: HIF_LINK_CHANGE with cause down, old and new speed and width (R740). -/
def State.linkGone (s : State) : State :=
  if s.hif.linkUp then
    (s.modHif fun x => { x with linkUp := false, l1 := false, speed := 0, width := 0 }).raise evHifLinkChange
      [0, Word.nat s.hif.speed, Word.nat s.hif.width, 0, 0]
  else s

/-- Ports follow their lanes into TEST and out of it (R308). -/
def State.testPorts (s : State) : State :=
  s.slots.foldl (fun s p =>
    let x := s.portAt p
    let any := (s.portLines p).any (fun l => (s.lineAt l).state = .test) || (s.portHosts p).any fun h => (s.hostAt h).state = .test
    if x.state = .stopped ∧ any then s.modPort p fun y => { y with state := .test }
    else if x.state = .test ∧ !any then s.modPort p fun y => { y with state := .stopped }
    else s) s

/-- A line lane leaves TEST: capture, loopback, then the transmitter (R422). -/
def State.lineLeaves (s : State) (l : Nat) : State :=
  if (s.lineAt l).state = .test then
    let s1 := if s.cap.lane = l then s.captureEnd 2 else s
    (s1.setParam nLrxCfg l 18 1).lineDown l
  else s

def State.hostLeaves (s : State) (h : Nat) : State := if (s.hostAt h).state = .test then s.hostDown h else s

/-- Every lane leaves TEST. -/
def State.leaveTests (s : State) : State :=
  ((List.range s.hosts).foldl (fun s h => s.hostLeaves h) ((List.range s.lines).foldl (fun s l => s.lineLeaves l) s)).testPorts

/-- The Shutter ends WORKSHOP: lanes leave TEST, and their transmitters ramp down (R421, R422). -/
def State.endTests (s : State) : State :=
  ((List.range s.lines).filter fun l => (s.lineAt l).state = .test).foldl (fun s l => s.syncTxState l .laneState) s.leaveTests

/-! On entry (R435). -/

/-- Every outstanding command ends with STATE_REFUSED, but for SHUTTER itself and the FLUSHes. -/
def State.refuseOutstanding (s : State) : State :=
  let keep := s.lex.tickets ++ s.lex.waiting ++ s.pmc.tickets ++ s.pmc.waiting
  (s.mb.outstanding.filter fun o => !keep.contains { req := o.req, tag := o.tag }).foldl (fun s o =>
    s.finish { req := o.req, tag := o.tag } cStateRefused 1) s

/-- Commands that wait for the new pane of a switch that the Shutter ends are completed in their mailboxes. -/
def State.refuseWaiting (s : State) : State :=
  s.mb.waiting.foldl (fun s w => s.complete w.2.2 cStateRefused 1 .device [] 0) { s with mb := { s.mb with waiting := [] } }

/-- What the refused commands had under way: START keeps its port's state, swaps and captures are aborted, images and a
pane switch are dropped. -/
def State.dropWork (s : State) : State :=
  let s1 := (List.range s.lines).foldl (fun s l =>
    ((s.abandonSwap l swOther 1).modSea l fun x => { x with swapWait := none }).modPlt l fun x =>
      { x with queue := x.queue.map fun p => { p with ticket := none }, air := x.air.map fun p => { p with ticket := none } })
    (s.captureEnd 1)
  let s2 := s1.slots.foldl (fun s p => s.modPort p fun x => { x with ticket := none }) s1
  let s3 := s2.tst.slices.foldl (fun s b => s.abortSlice b 1 none) s2
  let s4 := s3.calBlocks.foldl (fun s b => s.calAbandon b abShutter) s3
  let s5 := { s4 with hinge := { s4.hinge with load := [] }, fw := { s4.fw with load := none, sw := 0, ticket := none } }
  let s6 := if s.eventsHeld then s5.refuseWaiting else s5
  s6.endEnter cStateRefused 1

/-- Line transmitters ramp down in 1 us, lasers move to idle at once (R239, R579). -/
def State.cutLines (s : State) : State :=
  (List.range s.lines).foldl (fun s l =>
    let x := (s.lineAt l).ltx
    match x.state with
    | .off => s.endEnable l .shutter
    | _ => s.modLtx l fun x => { x with state := .rampDown, enStep := 0, fast := true, cause := .shutter }) s.laserCut

/-- Firmware runs: a mode of R413 in which it flushes and saves. -/
def State.fwModes (s : State) : Bool := s.live || s.dev.mode = .dormant || s.dev.mode = .workshop

/-- Step 2: a Lexicon pass and a final counter dump (R433). -/
def State.shutFlush (s : State) (lexicon : Bool) : State :=
  let s1 := s.modShut fun x => { x with step := .flush, rec_ := x.rec_.begin s.tku.bcnt }
  (if lexicon then s1.startPass false true [] else s1).startDump false true []

/-- Step 3: the record is about to be written; the column that counts is the one in force now. -/
def State.shutSave (s : State) : State :=
  s.modShut fun x => { x with step := .save, rec_ := { x.rec_.begin s.tku.bcnt with column := x.column } }

/-- A trigger of R431 starts the Shutter; lanes in TEST leave it with WORKSHOP (R421). Outside the modes in which firmware flushes, steps 1 and 2 have nothing to act on. -/
def State.shutStart (s : State) (t : Trigger) (broken : Bool) (hold : Nat) (skip : Bool) (ticket : Option Ticket) : State :=
  let now := s.tku.bcnt
  let r : ShutRec := { trigger := t, broken := broken, bcnt := now, view := s.view, began := [now], ended := [now]
                       completed := [true], guard := s.dev.guard }
  let s1 := (s.setMode .shutter tShutter).refuseOutstanding.dropWork
  let s1 := if s.dev.mode = .workshop then s1.endTests else s1
  let s2 := s1.modShut fun x => { x with column := t, hold := hold, skipBist := skip, ticket := ticket, rec_ := r }
  let s3 := (if t = .undervoltage then s2.cutLines else s2).sync
  if s.fwModes then s3.shutFlush (s.dev.powered && s.unitOn fLex)
  else (s3.modShut fun x => { x with rec_ := (x.rec_.begin now).stop now true }).shutSave

/-! The steps after the flush. -/

/-- Step 4 runs in a commanded Shutter only, unless SKIP is given (R645). -/
def State.afterHold (s : State) : State :=
  s.modShut fun x => { x with step := if x.column = .commanded ∧ !x.skipBist then .bist else .power }

/-- The end of step 3: SHUTTER completes with DONE (R435, R438); the hold follows in a commanded Shutter (R433). -/
def State.afterSave (s : State) (done : Bool) : State :=
  let s1 := s.modShut fun x => { x with rec_ := x.rec_.stop s.tku.bcnt done, ticket := none }
  let s2 := s1.finishOpt s.shut.ticket cDone 0 .device
  if s2.shut.column = .commanded ∧ 0 < s2.shut.hold then s2.modShut fun x => { x with step := .hold } else s2.afterHold

/-- The flush ends: the numbers of the last dumps written go into the record; FLUSHes still open end (R435). -/
def State.afterFlush (s : State) (done : Bool) : State :=
  let open_ := s.lex.tickets ++ s.lex.waiting ++ s.pmc.tickets ++ s.pmc.waiting
  let s1 := open_.foldl (fun s t => s.finish t cStateRefused 1) s
  let s2 := { s1 with lex := { s1.lex with pass := none, tickets := [], again := none, waiting := [] }
                      pmc := { s1.pmc with dump := none, tickets := [], again := none, waiting := [] } }
  (s2.modShut fun x => { x with rec_ := { x.rec_.stop s.tku.bcnt done with
    lexSeq := s2.lex.seq - 1, pmcSeq := s2.pmc.last.getD 0 } }).shutSave

/-- A step in progress is abandoned and the next starts (R433). -/
def State.shutAbandon (s : State) : State :=
  match s.shut.step with
  | .flush => s.afterFlush false
  | .save => s.afterSave false
  | .hold => s.afterHold
  | .bist => s.modShut fun x => { x with step := .power }
  | _ => s

/-- Milliseconds in BCNT ticks. -/
def msTicks (n : Nat) : Nat := 625000 * n

/-- The deadline of the step in progress under a column has passed (R433): step 2 from the trigger, step 3 from the trigger
under undervoltage and from the end of step 2 else. -/
def State.shutOverdue (s : State) (c : Trigger) : Bool :=
  let fromTrigger := s.since s.shut.rec_.bcnt
  let fromFlush := s.since (s.shut.rec_.ended.getD 1 0)
  match s.shut.step, c with
  | .flush, .commanded => decide (msTicks 50 ≤ fromTrigger)
  | .flush, .thermal => decide (msTicks 20 ≤ fromTrigger)
  | .flush, .undervoltage => decide (msTicks 5 ≤ fromTrigger)
  | .save, .undervoltage => decide (msTicks 9 ≤ fromTrigger)
  | .save, _ => decide (msTicks 60 ≤ fromFlush)
  | _, _ => false

/-- R434: the stricter column applies from now on; a hold and a test are not in it, a step beyond its deadline is abandoned. -/
def State.shutAdopt (s : State) (t : Trigger) : State :=
  if s.shut.column.rank < t.rank ∧ s.shut.step ≠ .complete then
    let s1 := s.modShut fun x => { x with column := t }
    let s2 := if t = .undervoltage then s1.cutLines else s1
    match s2.shut.step with
    | .hold | .bist => s2.shutAbandon
    | _ => if s2.shutOverdue t then s2.shutAbandon else s2
  else s

/-- A trigger that is not a command (R431, R434). -/
def State.shutTrigger (s : State) (t : Trigger) (broken : Bool) : State :=
  if s.dev.mode = .shutter then s.shutAdopt t else s.shutStart t broken 0 false none

/-- Step 2 ends once both dumps are written and pushed (R433). -/
def execShutterFlushDone (s : State) : Host.Outcome State Fault Refusal :=
  .next (
    if s.dev.mode = .shutter ∧ s.shut.step = .flush ∧ s.lex.pass = none ∧ s.pmc.dump = none ∧
        (s.hif.ready.all fun r => decide (1 < r.src) || !s.hif.linkUp) then s.afterFlush true else s)

/-- The deadline of step 2 or 3 passes (R433). -/
def execShutterDeadlineExpiry (s : State) : Host.Outcome State Fault Refusal :=
  .next (if s.dev.mode = .shutter ∧ (s.shut.step = .flush ∨ s.shut.step = .save) then s.shutAbandon else s)

/-- The time of step 5 that the record carries (R437): 10 ms after an undervoltage trigger, at the end of step 3, or 0 where a
hold or the BIST leaves it open. -/
def State.step5Time (s : State) : BitVec 64 :=
  match s.shut.column with
  | .undervoltage => s.shut.rec_.bcnt + BitVec.ofNat 64 (msTicks 10)
  | .thermal => s.tku.bcnt
  | .commanded => if s.shut.hold = 0 ∧ s.shut.skipBist then s.tku.bcnt else 0

/-- Step 3 ends with the record in the log sector (R437). -/
def execShutterLogSaved (s : State) : Host.Outcome State Fault Refusal :=
  .next (
    if s.dev.mode = .shutter ∧ s.shut.step = .save then
      (s.modShut fun x => { x with rec_ := { x.rec_ with step5At := s.step5Time } }).afterSave true
    else s)

/-- The hold ends (R433). -/
def execShutterHoldEnd (s : State) : Host.Outcome State Fault Refusal :=
  .next (if s.dev.mode = .shutter ∧ s.shut.step = .hold then s.afterHold else s)

/-- Step 4 ends: every failing element is entered with source BIST; the record is written (R646, R647). -/
def execShutdownBistDone (fails : List RepairEntry) (s : State) : Host.Outcome State Fault Refusal :=
  .next (
    if s.dev.mode = .shutter ∧ s.shut.step = .bist then
      let s1 := fails.foldl (fun s e => s.repair e.kind srcBist e.unit e.location) s
      (s1.modShut fun x => { x with step := .power }).settle
    else s)

/-- No lane is in another state than DOWN once step 5 has come (R423). -/
def State.lanesDown (s : State) : State :=
  (List.range s.hosts).foldl (fun s h => s.hostDown h) ((List.range s.lines).foldl (fun s l =>
    s.modLine l fun x => { x with state := .down, stuck := false, lrx := { x.lrx with step := 0, frozen := false } }) s)

/-- What step 5 ends of lane l's transmitter: an enable that has not sent, withdrawn as endEnable does, or a
carrier still on air, whose LTX_DISABLED names the Shutter, or the cause of a ramp-down already running (R237, R247). -/
def State.rampOut (s : State) (l : Nat) : State :=
  let x := (s.lineAt l).ltx
  if x.state = .off then s.endEnable l .shutter
  else s.raise evLtxDisabled [Word.nat l, Word.nat (if x.state = .rampDown then x.cause else .shutter).num]

/-- Step 5: the line transmitters ramp down and are OFF, the optics, datapath, LPDDR5X and PCIe powered down, PGOOD
low (R433, R579); lanes DOWN. After a thermal Shutter THERM_N stays asserted (R436). -/
def State.shutPower (s : State) : State :=
  let s0 := (List.range s.lines).foldl (fun s l => s.rampOut l) s
  let s1 := (List.range s.lines).foldl (fun s l => (s.pltTruncate l).modLtx l fun x =>
    { x with state := .off, enStep := 0, retry := false, content := .none, release := false }) s0.lanesDown.axIdleAll.linkGone
  let s2 := { s1 with
    dev := { s1.dev with powered := false, pfEnabled := false }
    mem := { s1.mem with data := [], cond := [] }
    thm := { s1.thm with thermN := s1.thm.thermN || decide (s1.shut.column = Trigger.thermal) }
    pwr := { s1.pwr with pgood := false } }
  (s2.modShut fun x => { x with step := .complete }).sync

def execShutterPowerDown (s : State) : Host.Outcome State Fault Refusal :=
  .next (if s.dev.mode = .shutter ∧ s.shut.step = .power then s.shutPower else s)

end Sys2Proof.Machine
end

