-- ==== Sys2Proof/Machine/Thermal.lean ====
section
/-! DEFINITION. Thermal management (R604 to R624): a reading with its failed conversions, broken sensors and blind margin, band,
throttle level, THERM_N, the firmware limit, the thermal ring, and the thermal nouns. Temperatures are in 1/16 degree. -/

namespace Sys2Proof.Machine

/-! Parameters (R621). -/
def thPeriod : Nat := 0
def thThreshold : Nat := 1
def thSlope : Nat := 2
def thRelease : Nat := 3
def thThermN : Nat := 4

/-! Conversions (R607). -/

/-- Inserts into an ascending list. -/
def insertAsc (v : Int) : List Int → List Int
  | [] => [v]
  | x :: r => if v ≤ x then v :: x :: r else x :: insertAsc v r

/-- Twice the median of a list. -/
def median2 (xs : List Int) : Int :=
  let l := xs.foldr insertAsc []
  l.getD ((l.length - 1) / 2) 0 + l.getD (l.length / 2) 0

/-- A value that a sensor may report. -/
def inSensorRange (v : Int) : Bool := decide (-640 ≤ v ∧ v ≤ 2400)

/-- A conversion's value where it lies in range. -/
def convIn (conv : List (Option Int)) (n : Nat) : Option Int := (conv.getD n none).filter inSensorRange

/-- Causes of a failed conversion: no result, out of range, a step that the others do not share. -/
def failNone : Nat := 0
def failRange : Nat := 1
def failStep : Nat := 2

/-- A conversion steps by more than 15 degrees while the median of the other valid sensors moves by less than 3. -/
def State.stepFails (s : State) (conv : List (Option Int)) (n : Nat) (v : Int) : Bool :=
  let x := s.sensorAt n
  let others := listWhere 16 fun k => k != n && !(s.sensorAt k).broken && (s.sensorAt k).valid && (convIn conv k).isSome
  let now := median2 (others.map fun k => (convIn conv k).getD 0)
  let last := median2 (others.map fun k => (s.sensorAt k).last)
  x.valid && decide (240 < (v - x.last).natAbs) && decide ((now - last).natAbs < 96)

/-- Why a conversion fails; none for a valid one. -/
def State.convFails (s : State) (conv : List (Option Int)) (n : Nat) : Option Nat :=
  match conv.getD n none with
  | none => some failNone
  | some v => if !inSensorRange v then some failRange else if s.stepFails conv n v then some failStep else none

/-- What a reading makes of one sensor: the third failed conversion in a row flags it BROKEN; three valid ones after the ACK
restore it (R607, R611). -/
def Sensor.take (x : Sensor) (fail : Option Nat) (v : Int) : Sensor :=
  match fail with
  | none =>
    let y := { x with last := v, valid := true, stale := false, fails := 0 }
    if x.broken then
      if x.acked then
        if 3 ≤ x.good + 1 then { y with broken := false, acked := false, good := 0 } else { y with stale := true, good := x.good + 1 }
      else { y with stale := true }
    else y
  | some _ =>
    if x.broken then { x with stale := true, good := 0, count := x.count + 1 }
    else if 3 ≤ x.fails + 1 then { x with stale := true, fails := 0, count := x.count + 1, broken := true, acked := false, good := 0 }
    else { x with stale := true, fails := x.fails + 1, count := x.count + 1 }

/-- The sensors that a reading uses: not BROKEN, with a value (R608). -/
def State.usedSensors (s : State) : List Nat := listWhere 16 fun n => !(s.sensorAt n).broken && (s.sensorAt n).valid

/-- The highest value among sensors. -/
def State.highest (s : State) (ns : List Nat) : Option Int := (ns.map fun n => (s.sensorAt n).last).max?

/-- Keeps for each sensor with a fresh value whether it was the hottest, and the highest other value (R609). -/
def State.rankSensors (s : State) (fresh : List Nat) : State :=
  let used := s.usedSensors
  fresh.foldl (fun s n =>
    let other := s.highest (used.filter (· ≠ n))
    s.modSensor n fun x => { x with
      hottest := match other with | none => true | some o => decide (o ≤ x.last)
      others := other.getD x.last }) s

/-- No sensor in a word. -/
def noSensor : Nat := 0xFF

/-- A sensor has been flagged BROKEN: under R609 its blind margin is kept, the larger of two. Answers whether the throttle level
is held. -/
def State.brokenSensor (s : State) (n cause : Nat) : State × Bool :=
  let x := s.sensorAt n
  let s1 := s.raise evThmSensorBroken [Word.nat n, Word.nat cause, Word.int x.last]
  if x.valid && x.hottest && decide (0 < s.thm.level) then
    let m := x.last - x.others
    let keep := s.thm.blindSensor = none ∨ s.thm.blind < m
    let s2 := if keep then { s1 with thm := { s1.thm with blind := m, blindSensor := some n } } else s1
    (s2.raise evThmBlind [Word.nat n, Word.int s2.thm.blind, Word.nat s.thm.level], true)
  else (s1, false)

/-- A sensor is restored: its margin goes (R611). -/
def State.restoredSensor (s : State) (n : Nat) : State :=
  let s1 := if s.thm.blindSensor = some n then { s with thm := { s.thm with blind := 0, blindSensor := none } } else s
  s1.raise evThmSensorRestored [Word.nat n]

/-- The conversions of a reading. Answers the highest valid value of a BROKEN sensor without ACK (R610), and whether the
throttle level is held. -/
def State.convert (s : State) (conv : List (Option Int)) : State × Option Int × Bool :=
  let fails := (List.range 16).map fun n => s.convFails conv n
  let s1 := (List.range 16).foldl (fun s n =>
    s.modSensor n fun x => x.take (fails.getD n none) ((conv.getD n none).getD 0)) s
  let fresh := listWhere 16 fun n => (fails.getD n none).isNone && !(s1.sensorAt n).broken
  let s2 := s1.rankSensors fresh
  let raised := (listWhere 16 fun n => (fails.getD n none).isNone && (s.sensorAt n).broken && !(s.sensorAt n).acked).map fun n =>
    (s1.sensorAt n).last
  let newly := listWhere 16 fun n => (s1.sensorAt n).broken && !(s.sensorAt n).broken
  let s3 := newly.foldl (fun (p : State × Bool) n =>
    let q := p.1.brokenSensor n ((fails.getD n none).getD 0)
    (q.1, p.2 || q.2)) (s2, false)
  let back := listWhere 16 fun n => (s.sensorAt n).broken && !(s1.sensorAt n).broken
  (back.foldl (fun s n => s.restoredSensor n) s3.1, raised.max?, s3.2)

/-- The hot figure (R608, R610). -/
def State.hotFigure (s : State) (raised : Option Int) : Option Int :=
  let base := (s.highest s.usedSensors).map (· + s.thm.blind)
  match base, raised with
  | none, r => r
  | some b, none => some b
  | some b, some r => some (max b r)

/-! Bands (R613). -/

def Band.num : Band → Nat
  | .cold => 0
  | .normal => 1
  | .warm => 2
  | .hot => 3

def bandOf (n : Nat) : Band := [Band.cold, .normal, .warm, .hot].getD n .hot

/-- The lower bound of a band; Cold has none. -/
def bandLower (n : Nat) : Int := [-640, 160, 1360, 1600].getD n 1600

/-- The band that the lower bounds alone select. -/
def bandAt (hot : Int) : Nat := if 1600 ≤ hot then 3 else if 1360 ≤ hot then 2 else if 160 ≤ hot then 1 else 0

/-- Falls while the hot figure is 2 degrees below the lower bound of the band. -/
def bandFall (hot : Int) : Nat → Nat
  | 0 => 0
  | n + 1 => if hot ≤ bandLower (n + 1) - 32 then bandFall hot n else n + 1

/-- R613: the first reading by the lower bounds alone; then a rise at a lower bound, a fall with 2 degrees of hysteresis. -/
def nextBand (first : Bool) (old : Band) (hot : Int) : Band :=
  let top := bandAt hot
  if first then bandOf top else if old.num < top then bandOf top else bandOf (bandFall hot old.num)

/-- A band change, which goes to every receiver (R53), and THM_ABOVE_TJMAX once for each excursion (R613, R614). -/
def State.setBand (s : State) (hot : Int) : State :=
  let b := nextBand s.thm.first s.thm.band hot
  let s1 := (List.range s.lines).foldl (fun s l => s.modLrx l fun x => { x with band := b.num })
    { s with thm := { s.thm with band := b, first := false, above := decide (1680 < hot) } }
  let s2 := if b = s.thm.band then s1
    else s1.raise evThmBand [Word.nat s.thm.band.num, Word.nat b.num, Word.int hot]
  if 1680 < hot ∧ !s.thm.above then s2.raise evThmAboveTjmax [Word.int hot] else s2

/-! Throttling (R615, R616). -/

/-- The raw level in 1/16 per cent. -/
def rawLevel (slope threshold : Nat) (hot : Int) : Nat := ((slope : Int) * (hot - 16 * threshold)).toNat

/-- The throttle level after a reading: up at once, down by at most the release step. -/
def nextLevel (old raw release : Nat) : Nat :=
  let t := min 100 (raw / 16)
  if old ≤ t then t else max t (old - release)

/-- The VCORE reduction in steps of 5 mV: one for every whole 10 % above 100 % (R616). -/
def vcoreReduction (raw : Nat) : Nat := (raw - 1600) / 160

/-- Sets the level; the Hinge re-plans, THM_THROTTLE follows (R153, R154, R617). -/
def State.setLevel (s : State) (hot : Int) : State :=
  let raw := rawLevel (s.parN nThmCfg 0 thSlope) (s.parN nThmCfg 0 thThreshold) hot
  let lvl := nextLevel s.thm.level raw (s.parN nThmCfg 0 thRelease)
  let s1 := { s with thm := { s.thm with raw := raw, level := lvl, reduction := vcoreReduction raw } }
  if lvl = s.thm.level then s1
  else
    let s2 := ({ s1 with hinge := { s1.hinge with throttle := lvl } }).raise evThmThrottle
      [Word.nat s.thm.level, Word.nat lvl, Word.nat raw, Word.nat (vcoreReduction raw)]
    if s2.hinge.started then s2.replanHeld else s2

/-- THERM_N (R619, R620). -/
def State.setThermN (s : State) (hot : Int) : State :=
  let lvl : Int := 16 * s.parN nThmCfg 0 thThermN
  let on := s.thm.backstop || (if lvl ≤ hot then true else if hot ≤ lvl - 48 then false else s.thm.thermN)
  let s1 := { s with thm := { s.thm with thermN := on } }
  if on = s.thm.thermN then s1 else s1.raise evThmThermN [Word.flag on, Word.int hot]

/-! The thermal ring (R622). -/

def telThermal : Nat := 0x03C00000

/-- The slot of sensor `n` in record `r`. -/
def State.thermSlot (s : State) (r n : Nat) : List Byte :=
  slot 0x06 n (slotFlags (s.sensorAt n).stale false false false)
    ((s.sensorAt n).last.emod 65536 |>.toNat |> (· + (r % 2 ^ 20) * 65536))

/-- Writes record r and the ring header. -/
def State.thermRecord (s : State) : State :=
  let r := s.thm.r
  let s1 := s.telPut (telThermal + 0x100 + 256 * (r % 16383))
    ((List.range 18).flatMap (s.thermSlot r) ++ List.replicate 112 0)
  let s2 := s1.telPut telThermal (leBytes 8 r ++ leBytes 4 (10 * s.parN nThmCfg 0 thPeriod) ++ leBytes 4 (r + 1))
  ({ s2 with thm := { s2.thm with r := r + 1 } }).dmaDue 4 r (telemetry + telThermal + 0x100 + 256 * (r % 16383)) false false

/-- MR4 of a die: the multiplier that it asks for, x4 where the reading fails (R550). The temperature that its slot shows is
open. -/
def State.dieReading (s : State) (die : Nat) (m : Option Nat) : State :=
  let s1 := { s with mem := { s.mem with mr4 := tset s.mem.mr4 (fun _ => 1) die (m.getD 4) } }
  match m with
  | none => s1.modSensor (16 + die) fun x => { x with stale := true, count := x.count + 1 }
  | some _ => (s1.modSensor (16 + die) fun x => { x with
      last := (BitVec.setWidth 16 s1.freeVal).toInt, valid := true, stale := false }).freeNext

/-- Blocks whose temperature differs from that of their last run by more than the threshold become due (R588). -/
def State.calTemps (s : State) : State :=
  s.calBlocks.foldl (fun s b =>
    let x := s.calAt b
    if 0 < x.runs ∧ 16 * s.parN nCalCfg 0 0 < (s.blockTemp b - x.tRef).natAbs then s.setDue b dueTemp else s) s

/-! THERMAL_READING (R605). -/

/-- The firmware limit: 110 degrees, or every sensor BROKEN (R612, R618). -/
def State.thermLimit (s : State) (hot : Option Int) : State :=
  match hot.map fun h => decide (1760 ≤ h) with
  | some true => s.shutTrigger .thermal false
  | _ => if (List.range 16).all fun n => (s.sensorAt n).broken then s.shutTrigger .thermal true else s

/-- What firmware makes of a reading. -/
def State.applyReading (s : State) (hot : Option Int) (held : Bool) : State :=
  match hot with
  | none => s
  | some h =>
    let s1 := ({ s with thm := { s.thm with hot := h } }).setBand h
    (if held then s1 else s1.setLevel h).setThermN h

/-- Readings run from the end of start-up step 5 up to Shutter step 5; in START_FAILED the boot ROM applies the limit alone
(R606). -/
def execThermalReading (conv : List (Option Int)) (mr4 : List (Option Nat)) (s : State) : Host.Outcome State Fault Refusal :=
  .next (
    if s.thm.reading ∧ ¬(s.dev.mode = .shutter ∧ s.shut.step = .complete) then
      let c := s.convert conv
      let hot := c.1.hotFigure c.2.1
      if s.dev.mode = .startFailed then (c.1.thermLimit hot).settle
      else
        let s1 := (c.1.applyReading hot c.2.2)
        let s2 := ((s1.dieReading 0 (mr4.getD 0 none)).dieReading 1 (mr4.getD 1 none)).thermRecord
        let s3 := if s2.dev.mode = .shutter then s2 else s2.calTemps
        (s3.thermLimit hot).follow
    else s)

/-! The thermal nouns (R623). -/

def specGetThmCfg : CmdSpec := { verb := vGet, noun := nThmCfg, inst := .zero, form := .fixed [0], modes := .any }
def procGetThmCfg : Sentence → State → State := process specGetThmCfg noCheck (getAct fun s i => s.paramSet nThmCfg i) noEcho
def execGetThmCfg (m : Sentence) (s : State) : Host.Outcome State Fault Refusal :=
  .next (submit vGet nThmCfg procGetThmCfg m s)

def specSetThmCfg : CmdSpec := { verb := vSet, noun := nThmCfg, inst := .zero, form := .mask, modes := .notShutter }
def procSetThmCfg : Sentence → State → State :=
  process specSetThmCfg (setCheck nThmCfg) (setAct nThmCfg) (setEcho nThmCfg)
def execSetThmCfg (m : Sentence) (s : State) : Host.Outcome State Fault Refusal :=
  .next (submit vSet nThmCfg procSetThmCfg m s)

/-- Last value, STALE, BROKEN, acknowledged, failure count. -/
def State.sensorWords (s : State) (n : Nat) : List Word :=
  let x := s.sensorAt n
  [Word.int x.last, Word.flag x.stale, Word.flag x.broken, Word.flag x.acked, Word.nat x.count]

def specGetThmSensor : CmdSpec := { verb := vGet, noun := nThmSensor, inst := .sensor, form := .fixed [0], modes := .any }
def procGetThmSensor : Sentence → State → State := process specGetThmSensor noCheck (getAct State.sensorWords) noEcho
def execGetThmSensor (m : Sentence) (s : State) : Host.Outcome State Fault Refusal :=
  .next (submit vGet nThmSensor procGetThmSensor m s)

/-- A sensor that is not BROKEN is refused (R623). -/
def checkAckSensor (s : State) (m : Sentence) (_ : List Word) : Option Refuse :=
  if (s.sensorAt m.inst.toNat).broken then none else some { code := cStateRefused, detail := 2 }

def actAckSensor (s : State) (m : Sentence) (_ : List Word) : State × Reply :=
  (s.modSensor m.inst.toNat fun x => { x with acked := true, good := if x.acked then x.good else 0 }, okDone)

def specAckThmSensor : CmdSpec := { verb := vAck, noun := nThmSensor, inst := .ackSensor, form := .fixed [0], modes := .notShutter }
def procAckThmSensor : Sentence → State → State := process specAckThmSensor checkAckSensor actAckSensor noEcho
def execAckThmSensor (m : Sentence) (s : State) : Host.Outcome State Fault Refusal :=
  .next (submit vAck nThmSensor procAckThmSensor m s)

/-- Hot figure, band, throttle level, raw level in 1/16 %, VCORE reduction in 5 mV steps, blind margin and its sensor, THERM_N,
backstop trip flag. -/
def State.thmWords (s : State) (_ : Nat) : List Word :=
  let t := s.thm
  [Word.int t.hot, Word.nat t.band.num, Word.nat t.level, Word.nat t.raw, Word.nat t.reduction, Word.int t.blind,
   Word.nat (t.blindSensor.getD noSensor), Word.flag t.thermN, Word.flag t.trip]

def specGetThmStatus : CmdSpec :=
  { verb := vGet, noun := nThmStatus, inst := .zero, form := .fixed [0], modes := .any, startFailed := true }
def procGetThmStatus : Sentence → State → State := process specGetThmStatus noCheck (getAct State.thmWords) noEcho
def execGetThmStatus (m : Sentence) (s : State) : Host.Outcome State Fault Refusal :=
  .next (submit vGet nThmStatus procGetThmStatus m s)

/-- The backstop trip flag is cleared (R620). -/
def actClearThm (s : State) (_ : Sentence) (_ : List Word) : State × Reply :=
  (({ s with thm := { s.thm with trip := false } }).settle, okDone)

def specClearThmStatus : CmdSpec := { verb := vClear, noun := nThmStatus, inst := .zero, form := .fixed [0], modes := .notShutter }
def procClearThmStatus : Sentence → State → State := process specClearThmStatus noCheck actClearThm noEcho
def execClearThmStatus (m : Sentence) (s : State) : Host.Outcome State Fault Refusal :=
  .next (submit vClear nThmStatus procClearThmStatus m s)

end Sys2Proof.Machine
end

