-- ==== Sys2Proof/Machine/Power.lean ====
section
/-! DEFINITION. Power delivery (R686 to R704): the loss of every converter, undervoltage, rail faults and current warnings, the
adaptive VCORE with its announcements to the Hinge, and the PWR nouns. VIN is in 0.1 V, VCORE in mV, slack in 0.01 %. -/

namespace Sys2Proof.Machine

/-! Parameters (R702). -/
def pwLevel : Nat := 0
def pwDwell : Nat := 1
def pwWarn : Nat := 2

def State.modPwr (s : State) (f : Pwr → Pwr) : State := { s with pwr := f s.pwr }

/-- The undervoltage level in 0.1 V: steps of 0.5 V. -/
def State.uvLevel (s : State) : Nat := 5 * s.parN nPwrCfg 0 pwLevel

/-! Without converters. -/

/-- R720: no access is under way; the pins are released while SYS_RST_N acts and while VIN is below 7.0 V. -/
def flashPins (rst : Bool) (vin : Nat) : FlashPins := if rst ∨ vin < 70 then {} else { csN := some true, clk := some false }

/-- Every converter has stopped, or start-up begins anew: what keeps its value are the fuses, the boot flash (panes, pane
select, repair record, log sector), the pins and the latches that R620, R687 and R692 keep. -/
def State.cold (s : State) : State :=
  { State.reset with
    pending := s.pending
    free := s.free
    fuses := s.fuses
    rep := s.rep
    shut := { last := s.shut.last }
    hif := { perst := s.hif.perst, straps := s.hif.straps }
    thm := { thermN := s.thm.backstop, trip := s.thm.trip, backstop := s.thm.backstop }
    pwr := { vin := s.pwr.vin, en := s.pwr.en, sysRst := s.pwr.sysRst, latch := s.pwr.latch, fault := s.pwr.fault
             overVolt := s.pwr.overVolt, flash := flashPins s.pwr.sysRst s.pwr.vin }
    fw := { a := s.fw.a, b := s.fw.b, active := s.fw.active, selGen := s.fw.selGen } }

/-- The Shutter record that boot flash holds: the present one once step 3 has completed (R437). -/
def State.keepRecord (s : State) : State :=
  if s.dev.mode = .shutter ∧ s.shut.rec_.completed.getD 2 false then
    s.modShut fun x => { x with last := some x.rec_ }
  else s

/-- Every converter stops (R687, R689, R692, R713, R620). -/
def State.powerLoss (s : State) : State := s.keepRecord.cold

/-! Rails (R690, R693). -/

/-- The place of a rail in the start-up order of R693; VAFE has none. -/
def railStep (rail : Nat) : Nat := [4, 0, 5, 3, 6, 7, 2, 1, 1].getD rail 0

/-- A rail should be in regulation: VAFE while the datapath is powered (R691); VSRD and the LPDDR5X rails not in a completed
Shutter (R433). -/
def State.railOn (s : State) (rail : Nat) : Bool :=
  let done := s.dev.mode = .shutter && s.shut.step = .complete
  s.pwr.up && decide (rail ≤ 8) &&
    (if rail = 1 then s.dev.powered
     else decide (railStep rail ≤ s.pwr.rails) && !(done && [2, 4, 5, 6].contains rail))

/-- R692. -/
def execRailFault (rail : Nat) (cause : RailCause) (s : State) : Host.Outcome State Fault Refusal :=
  .next (
    if s.railOn rail then
      s.powerLoss.modPwr fun x => { x with latch := true, fault := some { rail := rail, cause := cause, bcnt := s.tku.bcnt } }
    else s)

/-- The current limits of R690 in 10 mA. -/
def railLimit (rail : Nat) : Nat := [4000, 1800, 1200, 500, 300, 200, 30, 15, 15].getD rail 0

/-- A rail exceeds the warning level for 1 ms; at most one event per second and rail (R702, R704). -/
def execRailCurrentDwell (rail current : Nat) (s : State) : Host.Outcome State Fault Refusal :=
  .next (
    let due : Bool := match tget s.pwr.warnAt (fun _ => none) rail with
      | none => true
      | some b => decide (secTicks ≤ s.since b)
    if s.railOn rail ∧ railLimit rail * s.parN nPwrCfg 0 pwWarn < 20 * current ∧ due then
      (s.modPwr fun x => { x with warnAt := tset x.warnAt (fun _ => none) rail (some s.tku.bcnt) }).raise evPwrCurrentWarn
        [Word.nat rail, Word.nat current]
    else s)

/-! VIN (R687). -/

/-- Undervoltage: PWR reports it, and the Shutter starts or becomes stricter (R431, R434). -/
def execVinUndervoltage (vin : Nat) (s : State) : Host.Outcome State Fault Refusal :=
  .next (
    if s.pwr.up ∧ vin < s.uvLevel ∧ ¬(s.dev.mode = .shutter ∧ s.shut.step = .complete) then
      (((s.modPwr fun x => { x with vin := vin }).raise evPwrUndervoltage
        [Word.nat vin, s.param nPwrCfg 0 pwLevel]).shutTrigger .undervoltage false)
    else s)

/-- VIN falls below 7.0 V: every converter stops, which is Shutter step 5; latch and backstop are released (R620, R692). -/
def execVinPowerDown (s : State) : Host.Outcome State Fault Refusal :=
  .next ((s.modPwr fun x => { x with vin := 0, latch := false }).powerLoss |> fun s =>
    { s with thm := { s.thm with backstop := false, thermN := false } })

/-- VIN above 64 V: every converter stops with no Shutter step. -/
def execInputOvervoltage (s : State) : Host.Outcome State Fault Refusal :=
  .next ((s.modPwr fun x => { x with overVolt := true }).powerLoss)

/-! Adaptive VCORE (R696 to R701). -/

/-- The slack target of a band, in 0.01 % (R696). -/
def slackTarget : Band → Int
  | .cold => 1200
  | .normal => 1000
  | .warm => 900
  | .hot => 800

/-- Lowering hysteresis, in 0.01 %. -/
def slackHyst : Int := 300

def vcoreMin : Nat := 550
def vcoreMax : Nat := 850

/-- The slowest quadrant: the one with the least slack, the lowest number on a tie. -/
def slowest (slack : List Int) : Nat :=
  match slack.min? with
  | none => 0
  | some m => (slack.findIdx? fun x => decide (x = m)).getD 0

/-- VCORE steps up by 5 mV; a raise needs no announcement (R697). -/
def State.vcoreUp (s : State) : State := s.modPwr fun x => { x with vcore := x.vcore + 5, stepping := true, announced := none }

/-- Slack below the target: a raise, or at 0.85 V the ceiling (R697, R698). -/
def State.slackLow (s : State) (slack : List Int) (rates : List Nat) : State :=
  if s.pwr.vcore + 5 ≤ vcoreMax then s.vcoreUp
  else if s.pwr.ceiling then s
  else
    let q := slowest slack
    (s.modPwr fun x => { x with ceiling := true }).raise evPwrVcoreCeiling
      [Word.nat q, Word.int (slack.getD q 0), Word.nat (rates.getD q 0)]

/-- What the slack alone calls for. While a throttle reduction is in force a slack below the target raises nothing (R700). -/
def State.slackRegulate (s : State) (slack : List Int) (rates : List Nat) : State :=
  let m := slack.min?.getD 0
  let t := slackTarget s.thm.band
  let s1 := s.modPwr fun x => { x with lowering := decide (t + slackHyst < m) }
  if m < t ∧ s.pwr.applied = 0 then s1.slackLow slack rates else s1

/-- The throttle reduction asked for and the one in force differ: PWR announces a step, or takes one back (R616, R700). -/
def State.slackThrottle (s : State) : State :=
  if s.pwr.applied < s.thm.reduction ∧ vcoreMin + 5 ≤ s.pwr.vcore then
    s.modPwr fun x => { x with announced := some (x.vcore - 5), forThrottle := true }
  else if s.thm.reduction < s.pwr.applied ∧ s.pwr.vcore + 5 ≤ vcoreMax then
    s.vcoreUp.modPwr fun x => { x with applied := x.applied - 1 }
  else s

/-- A slack report (R696): at the ceiling the step rates go to the Hinge at every report (R53, R698); the setpoint moves by
at most 5 mV a report (R701). -/
def execSlackReport (slack : List Int) (rates : List Nat) (s : State) : Host.Outcome State Fault Refusal :=
  .next (
    if s.dev.powered ∧ slack.length = s.quads ∧ rates.length = s.quads then
      let s1 := s.modPwr fun x => { x with slack := slack, rates := rates }
      if s1.pwr.stepping then s1
      else
        let s2 := if s1.pwr.applied = s1.thm.reduction then s1.slackRegulate slack rates
          else (s1.modPwr fun x => { x with lowering := false }).slackThrottle
        (if s2.pwr.vcore = vcoreMax ∧ !s2.pwr.stepping then s2.reportRates rates else s2).sync
    else s)

/-- The lowering dwell has passed with the slack above target and hysteresis: a reduction of 5 mV is announced (R697). -/
def execLoweringDwellExpiry (s : State) : Host.Outcome State Fault Refusal :=
  .next (
    if s.dev.powered ∧ s.pwr.lowering ∧ !s.pwr.stepping ∧ vcoreMin + 5 ≤ s.pwr.vcore then
      s.modPwr fun x => { x with announced := some (x.vcore - 5), forThrottle := false }
    else s)

/-- Every placement meets R47 at the announced step rate, the present one less 1 % (R155, R697). -/
def State.placementsHold (s : State) : Bool :=
  s.startedLanes.all fun l =>
    let d := if s.half l then 256 else 128
    decide (macOf (s.lineAt l).sea.tier * 225 * 108 * 100 ≤ (s.groupOf l).length * d * 99 * s.planRate)

/-- Every GUARANTEED floor still meets R47 (R55): no such lane is placed below its floor. -/
def State.floorsHold (s : State) : Bool :=
  s.startedLanes.all fun l => !(s.laneIn l).guar || decide ((s.laneIn l).floor ≤ (s.lineAt l).sea.tier)

/-- No started lane is placed above its floor any more (R54). -/
def State.atFloors (s : State) : Bool := s.startedLanes.all fun l => decide ((s.lineAt l).sea.tier ≤ (s.laneIn l).floor)

/-- The Hinge confirms, and PWR steps; a reduction that it does not confirm is dropped (R155). -/
def execVcoreReductionAnnounced (s : State) : Host.Outcome State Fault Refusal :=
  .next (
    match s.pwr.announced with
    | none => s
    | some v =>
      let s1 := s.modPwr fun x => { x with announced := none }
      if s.dev.powered ∧ s.placementsHold ∧ (!s.pwr.forThrottle ∨ (s.floorsHold ∧ s.atFloors)) then
        s1.modPwr fun x => { x with
          vcore := v, stepping := true, ceiling := false, lowering := false
          applied := if x.forThrottle then x.applied + 1 else x.applied }
      else s1)

/-- A step has settled: PWR reports the new step rates to the Hinge (R53, R697). -/
def execVcoreStepSettled (rates : List Nat) (s : State) : Host.Outcome State Fault Refusal :=
  .next (
    if s.dev.powered ∧ s.pwr.stepping ∧ rates.length = s.quads then
      ((s.modPwr fun x => { x with stepping := false, rates := rates }).reportRates rates).follow
    else s)

/-- The datapath's power goes: VCORE holds at 0.75 V (R697). -/
def State.vcoreIdle (s : State) : State :=
  s.modPwr fun x => { x with
    vcore := 750, slack := [], rates := [], ceiling := false, lowering := false, announced := none, applied := 0
    stepping := false }

/-! The PWR nouns (R703). -/

def specGetPwrCfg : CmdSpec := { verb := vGet, noun := nPwrCfg, inst := .zero, form := .fixed [0], modes := .any }
def procGetPwrCfg : Sentence → State → State := process specGetPwrCfg noCheck (getAct fun s i => s.paramSet nPwrCfg i) noEcho
def execGetPwrCfg (m : Sentence) (s : State) : Host.Outcome State Fault Refusal :=
  .next (submit vGet nPwrCfg procGetPwrCfg m s)

/-- R688: a level at or above VIN less 1.0 V. -/
def checkPwrCfg (s : State) (m : Sentence) (ws : List Word) : Option Refuse :=
  (maskRange nPwrCfg m ws).or
    (if (maskSelected nPwrCfg ws).contains 0 ∧
        s.pwr.vin ≤ 5 * (changed s nPwrCfg 0 pwLevel (maskChanges nPwrCfg m ws)).toNat + 10 then
      some { code := cResource, detail := 1 } else none)

def specSetPwrCfg : CmdSpec := { verb := vSet, noun := nPwrCfg, inst := .zero, form := .mask, modes := .notShutter }
def procSetPwrCfg : Sentence → State → State := process specSetPwrCfg checkPwrCfg (setAct nPwrCfg) (setEcho nPwrCfg)
def execSetPwrCfg (m : Sentence) (s : State) : Host.Outcome State Fault Refusal :=
  .next (submit vSet nPwrCfg procSetPwrCfg m s)

def RailCause.num : RailCause → Nat
  | .over => 0
  | .under => 1
  | .current => 2

/-- A rail-fault record: valid, rail, cause, BCNT. -/
def railRecWords : Option RailRec → List Word
  | none => [0, 0, 0, 0, 0]
  | some r => [1, Word.nat r.rail, Word.nat (RailCause.num r.cause)] ++ words64 r.bcnt.toNat

/-- VIN, input power (open), VCORE in 5 mV, slack and step rate of each quadrant, band target, throttle reduction in 5 mV,
rail-fault record, backstop trip flag. -/
def State.pwrWords (s : State) : List Word :=
  [Word.nat s.pwr.vin, s.freeVal, Word.nat (s.pwr.vcore / 5)] ++
    ((List.range s.quads).flatMap fun q => [Word.int (s.pwr.slack.getD q 0), Word.nat (s.pwr.rates.getD q 0)]) ++
    [Word.int (slackTarget s.thm.band), Word.nat s.pwr.applied] ++ railRecWords s.pwr.fault ++ [Word.flag s.thm.trip]

def actPwrStatus (s : State) (_ : Sentence) (_ : List Word) : State × Reply := (s.freeNext, okWords s.pwrWords)

def specGetPwrStatus : CmdSpec :=
  { verb := vGet, noun := nPwrStatus, inst := .zero, form := .fixed [0], modes := .any, startFailed := true }
def procGetPwrStatus : Sentence → State → State := process specGetPwrStatus noCheck actPwrStatus noEcho
def execGetPwrStatus (m : Sentence) (s : State) : Host.Outcome State Fault Refusal :=
  .next (submit vGet nPwrStatus procGetPwrStatus m s)

/-- R692: the record is cleared; the latch is not. -/
def actClearPwr (s : State) (_ : Sentence) (_ : List Word) : State × Reply :=
  ((s.modPwr fun x => { x with fault := none }).settle, okDone)

def specClearPwrStatus : CmdSpec := { verb := vClear, noun := nPwrStatus, inst := .zero, form := .fixed [0], modes := .notShutter }
def procClearPwrStatus : Sentence → State → State := process specClearPwrStatus noCheck actClearPwr noEcho
def execClearPwrStatus (m : Sentence) (s : State) : Host.Outcome State Fault Refusal :=
  .next (submit vClear nPwrStatus procClearPwrStatus m s)

/-- Voltage, current and peak current as measured (open), and whether the rail is in regulation. -/
def actPwrRail (s : State) (m : Sentence) (_ : List Word) : State × Reply :=
  (s.freeSkip 3, okWords [s.freeVal, s.freeAt 1, Word.flag (s.railOn m.inst.toNat), s.freeAt 2])

def specGetPwrRail : CmdSpec :=
  { verb := vGet, noun := nPwrRail, inst := .rail, form := .fixed [0], modes := .any, startFailed := true }
def procGetPwrRail : Sentence → State → State := process specGetPwrRail noCheck actPwrRail noEcho
def execGetPwrRail (m : Sentence) (s : State) : Host.Outcome State Fault Refusal :=
  .next (submit vGet nPwrRail procGetPwrRail m s)

end Sys2Proof.Machine
end

