-- ==== Sys2Proof/Machine/Startup.lean ====
section
/-! DEFINITION. Start-up from VIN valid to the end of step 7 (R424 to R429), with the repair record (R650), and what restarts it or
stops every converter: EN, SYS_RST_N, the 125 degree backstop. Steps 5 and 8, which begin waiting commands, stand in
`Machine/Opening.lean`. -/

namespace Sys2Proof.Machine

/-! Step 1. -/

/-- VIN is valid and nothing holds the converters off (R620, R687, R692, R713). -/
def State.canStart (s : State) : Bool :=
  s.pwr.en && !s.pwr.sysRst && !s.pwr.latch && !s.thm.backstop && !s.pwr.overVolt && decide (88 ≤ s.pwr.vin)

/-- Start-up begins at step 1 (R429). -/
def State.startUp (s : State) : State :=
  if s.canStart then
    let s1 := s.powerLoss.modPwr fun x => { x with up := true }
    { s1 with dev := { s1.dev with step := 1 } }
  else s

/-- The part waits for VIN: it is without converters, or a Shutter has completed (R436). -/
def State.waitsForVin (s : State) : Bool :=
  (s.dev.mode = .starting && s.dev.step == 0) || (s.dev.mode = .shutter && s.shut.step = .complete)

/-- VIN has been valid for 1 ms; the address pins are sampled in step 1 (R493, R687). -/
def execVinValid (vin : Nat) (straps : BitVec 3) (s : State) : Host.Outcome State Fault Refusal :=
  .next (
    if s.waitsForVin ∧ 88 ≤ vin then
      let s1 := s.modPwr fun x => { x with vin := vin, overVolt := x.overVolt && decide (600 ≤ vin) }
      ({ s1 with hif := { s1.hif with straps := straps } }).startUp
    else s)

/-- A rail reaches regulation and the next one starts (R693). -/
def execRailInRegulation (s : State) : Host.Outcome State Fault Refusal :=
  .next (
    if s.dev.mode = .starting ∧ s.dev.step = 1 ∧ s.pwr.rails < 7 then s.modPwr fun x => { x with rails := x.rails + 1 } else s)

def State.upStep (s : State) (n : Nat) : State := { s with dev := { s.dev with step := n } }

/-- START_FAILED: the step that failed stays in ID_MODE with its error code (R427, R430). -/
def State.startFail (s : State) (err : Nat) : State :=
  ({ s with dev := { s.dev with error := err } }).setMode .startFailed tFatal

/-- R693 step 8: PGOOD is released, step 1 ends. -/
def execPgoodReleaseTimer (s : State) : Host.Outcome State Fault Refusal :=
  .next (
    if s.dev.mode = .starting ∧ s.dev.step = 1 ∧ s.pwr.rails = 7 then (s.modPwr fun x => { x with pgood := true }).upStep 2
    else s)

/-- R424 step 2. -/
def execFuseMapLoaded (ok : Bool) (s : State) : Host.Outcome State Fault Refusal :=
  .next (
    if s.dev.mode = .starting ∧ s.dev.step = 2 then (if ok then s.upStep 3 else (s.startFail 1).settle) else s)

/-- R424 steps 3 and 4: all memory holds zeros with valid check bits (R547); the control cores run the boot ROM, and the
management port answers (R496). -/
def execMemoryFillDone (ok : Bool) (s : State) : Host.Outcome State Fault Refusal :=
  .next (
    if s.dev.mode = .starting ∧ s.dev.step = 3 then
      if ok then
        ({ s with mem := { s.mem with data := [], cond := [] }, dev := { s.dev with mgtUp := true } }).upStep 5
      else (s.startFail 2).settle
    else s)

/-! Step 6: the repair record (R650). -/

/-- Vacant DAC positions take healthy cells without one; a transmitter short of a cell stays OFF (R245). -/
def State.arrangeCells (s : State) (l : Nat) : State :=
  (List.range 15).foldl (fun s p =>
    if (List.range 16).any fun n => (s.cellAt l n).pos = some p then s
    else
      match (List.range 16).find? fun n => (s.cellAt l n).pos.isNone && (s.cellAt l n).health = .ok with
      | none => s.modLtx l fun x => { x with dead := true }
      | some n => s.modCell l n fun x => { x with pos := some p }) s

/-- A bank is retired; a spare serves it (R373). -/
def State.retireBank (s : State) (b : Nat) : State :=
  let s1 := s.modBank b fun x => { x with health := .retired }
  if 32 ≤ b ∨ (s.bankAt b).spare.isSome then s1
  else
    match s.freeSpare with
    | none => s1
    | some k => s1.modBank b fun x => { x with spare := some k }

/-- A core of the auxiliary DACs is retired: core 32 serves its channel, or the channel is FAILED (R565, R566). -/
def State.retireCore (s : State) (c : Nat) : State :=
  let s1 := s.modAx c fun x => { x with coreHealth := .retired }
  if c = 32 then s1
  else if s.ocu.c32.isNone ∧ (s.axAt 32).coreHealth = .ok then
    let s2 := s1.modAx c fun x => { x with core := some 32 }
    { s2 with ocu := { s2.ocu with c32 := some c, c32Lasting := true } }
  else s1.modAx c fun x => { x with held := true, failed := true }

/-- The lanes that a fixed stage serves: one for SDF, LTX and the elastic FIFO, those of the port else (R635). -/
def State.stageLanes (s : State) (unit loc : Nat) : List Nat :=
  if loc = 0 ∨ loc = 4 ∨ loc = 5 then [unit]
  else
    match s.portLines (unit / 2) with
    | [] => [unit / 2]
    | ls => ls

/-- A memory repair of an earlier life as MEM_SPARES shows it: its BCNT is the one that SECONDS gives (log entry 146). -/
def repairOf (e : RepairEntry) (v : MarchVerdict) : Repair :=
  { row := e.location, verdict := v, bcnt := BitVec.ofNat 64 (e.seconds * secTicks) }

/-- Applies one entry (R649, R650). -/
def State.applyEntry (s : State) (e : RepairEntry) : State :=
  match e.kind with
  | 1 => s.modSlice e.unit e.location fun x => { x with health := .retired, pos := none }
  | 2 => s.modEng e.unit fun x => { x with role := .retired }
  | 3 | 6 => s.modRegion e.unit fun x => { x with usedRows := x.usedRows + 1, repairs := x.repairs ++ [repairOf e .lastingRow] }
  | 4 => s.modRegion e.unit fun x => { x with usedCols := x.usedCols + 1, repairs := x.repairs ++ [repairOf e .lastingColumn] }
  | 5 => s.retireBank e.unit
  | 7 => s.modCell e.unit e.location fun x => { x with health := .retired, pos := none }
  | 8 => s.retireCore e.unit
  | 9 =>
    if e.location = 3 then (s.modResid e.unit fun x => { x with interpDown := true }).relYield 3 e.unit 2 (e.unit / 2) none
    else (s.stageLanes e.unit e.location).foldl (fun s l => s.modLine l fun x => { x with badStage := true }) s
  | _ => s

/-- The whole record, and the arrangement of what is left (R96, R650). -/
def State.applyRecord (s : State) : State :=
  (List.range s.lines).foldl (fun s l => (s.arrange l).arrangeCells l) (s.rep.entries.foldl State.applyEntry s)

/-- R427: an invalid record is not fatal; the part starts with the factory spare map only. -/
def State.ignoreRecord (s : State) : State :=
  { s with
    rep := { s.rep with entries := [], gen := 0 }
    dev := { s.dev with repairIgnored := true, log := s.dev.log ++ [.repairIgnored s.tku.bcnt] } }

/-- R424 steps 6 and 7: the record is applied, this life gets its start number (R648), both PCIe functions are enabled
(R425). -/
def execRepairRecordApplied (valid : Bool) (s : State) : Host.Outcome State Fault Refusal :=
  .next (
    if s.dev.mode = .starting ∧ s.dev.step = 6 then
      let s1 := if valid then s.applyRecord else s.ignoreRecord
      let s2 := { s1 with rep := { s1.rep with startNo := s1.rep.startNo + 1 }, dev := { s1.dev with pfEnabled := true } }
      (s2.upStep 8).sync
    else s)

/-! EN, SYS_RST_N and the backstop. -/

/-- R689: every converter stops; the rail-fault latch and the backstop are released (R620, R692). -/
def execEnFall (s : State) : Host.Outcome State Fault Refusal :=
  .next (
    let s1 := (s.modPwr fun x => { x with en := false, latch := false }).powerLoss
    { s1 with thm := { s1.thm with backstop := false, thermN := false } })

/-- R429. -/
def execEnRise (s : State) : Host.Outcome State Fault Refusal :=
  .next (if s.pwr.en then s else (s.modPwr fun x => { x with en := true }).startUp)

/-- R713. -/
def execSysRstNAct (s : State) : Host.Outcome State Fault Refusal :=
  .next (if s.pwr.sysRst then s else (s.modPwr fun x => { x with sysRst := true }).powerLoss)

/-- R713: start-up runs again from step 1, and BCNT from 0. -/
def execSysRstNRelease (s : State) : Host.Outcome State Fault Refusal :=
  .next (if s.pwr.sysRst then (s.modPwr fun x => { x with sysRst := false }).startUp else s)

/-- R620: every converter is disabled with no Shutter step; THERM_N is held and the trip flag set. -/
def execBackstopTrip (s : State) : Host.Outcome State Fault Refusal :=
  .next (
    if s.pwr.up then
      ({ s with thm := { s.thm with backstop := true, trip := true, thermN := true } }).powerLoss
    else s)

/-! The datapath (R414). -/

/-- A mode whose datapath is powered (R413). -/
def State.wantsPower (s : State) : Bool := s.live || s.dev.mode = .workshop

/-- The datapath is powered: the Hinge takes PWR's first report, lanes of started ports enter ACQUIRE, ENTER completes. -/
def execDatapathPowered (rates : List Nat) (s : State) : Host.Outcome State Fault Refusal :=
  .next (
    if s.wantsPower ∧ !s.dev.powered ∧ rates.length = s.quads then
      let s1 := ({ s with dev := { s.dev with powered := true } }).modPwr fun x => { x with rates := rates }
      let s2 := s1.startHinge rates
      let on := s2.slots.filter fun p => (s2.portAt p).state = .acquire
      let s3 := on.foldl (fun s p => (s.startLanes p).checkSlices p) s2
      ((if on.isEmpty then s3 else s3.replanHeld).endEnter cDone 0).follow
    else s)

end Sys2Proof.Machine
end

