-- ==== Sys2Proof/Machine/Reliability.lean ====
section
/-! DEFINITION. Targeted self-test and its verdicts (R625 to R635), in-service test slices (R639 to R644), and the nouns of
self-test, repair record and precedence (R661). -/

namespace Sys2Proof.Machine

def State.modTst (s : State) (f : Tst → Tst) : State := { s with tst := f s.tst }

/-- The running pane. -/
def State.pane (s : State) : Pane := if s.fw.running then s.fw.b else s.fw.a

/-- The running pane holds a test set for a kind of element (R626, R630). -/
def State.hasTestSet (s : State) (k : ElemKind) : Bool := s.pane.testSets.getLsbD (kindNum k)

/-! The fault history (R628). -/

/-- The history window in ticks. -/
def State.historyTicks (s : State) : Nat := s.parN nTstCfg 0 0 * 3600 * secTicks

/-- TRANSIENT verdicts of an element within the window. -/
def State.recentTransients (s : State) (r : Report) : Nat :=
  (s.tst.history.filter fun h =>
    decide (h.1 = r.kind ∧ h.2.1 = r.unit ∧ h.2.2.1 = r.loc) && decide (s.since h.2.2.2 ≤ s.historyTicks)).length

/-- Adds a TRANSIENT verdict: two for each element are enough, and at most 256 elements are kept, the latest ones. -/
def State.addHistory (s : State) (r : Report) : State :=
  let same (h : ElemKind × Nat × Nat × BitVec 64) : Bool := decide (h.1 = r.kind ∧ h.2.1 = r.unit ∧ h.2.2.1 = r.loc)
  let mine := s.tst.history.filter same
  let others := s.tst.history.filter fun h => !same h
  let elems := (others.map fun h => (h.1, h.2.1, h.2.2.1)).eraseDups
  let kept := match elems with
    | (k, u, l) :: _ =>
      if 256 ≤ elems.length then others.filter fun h => !decide (h.1 = k ∧ h.2.1 = u ∧ h.2.2.1 = l) else others
    | [] => others
  s.modTst fun t => { t with history := kept ++ mine.drop (mine.length - 1) ++ [(r.kind, r.unit, r.loc, s.tku.bcnt)] }

/-! What a verdict does to an element (R629, R632). -/

/-- The KIND of an entry of the repair record (R649). -/
def repairKind : ElemKind → Nat
  | .slice => 1
  | .engine => 2
  | .lexBank => 5
  | .cell => 7
  | .axCore => 8
  | .stage | .interp => 9

/-- A TRANSIENT element returns to its pool under its own rule (R92, R166, R244, R565, R654). A core hands its channel back
through a calibration run. -/
def State.returnElem (s : State) (r : Report) : State :=
  match r.kind with
  | .slice => s.modSlice r.unit r.loc fun x => { x with health := .ok, needsCal := true, bad := 0 }
  | .engine => ((s.modEng r.unit Engine.fresh).reserve).replanHeld
  | .lexBank => s.modBank r.unit fun x => { x with health := .ok, filling := x.spare.isSome, spare := none }
  | .cell => s.modCell r.unit r.loc fun x => { x with health := .ok }
  | .axCore =>
    let s1 := s.modAx r.unit fun x => { x with coreHealth := .ok }
    if (s.axAt r.unit).core = some 32 ∧ s.ocu.c32 = some r.unit then
      (s1.modAx r.unit fun x => { x with hand := 3 }).modCal (32 + r.unit) fun x => { x with
        running := true, suspended := false, due := false, runCause := dueCommand, startAt := s.tku.bcnt
        tStart := s.blockTemp (32 + r.unit), elem := 0, pair := 0, pairs := [], runDis := [] }
    else s1
  | .stage => s
  | .interp => (s.modResid r.unit fun x => { x with interpDown := false }).relYieldEnd 3 r.unit

/-- A lane of a fixed stage with a lasting fault enters FAULT and stays there (R635). -/
def State.stageDown (s : State) (l : Nat) : State :=
  let s1 := s.modLine l fun x => { x with badStage := true }
  match (s1.lineAt l).state with
  | .acquire | .up | .fault => (s1.modLine l fun x => { x with stuck := true }).lineFault l evTstVerdict
  | _ => s1

/-- A LASTING element is retired (R92, R93, R166, R244, R373, R375, R565, R635). -/
def State.retireElem (s : State) (r : Report) : State :=
  match r.kind with
  | .slice =>
    let s1 := (s.modSlice r.unit r.loc fun x => { x with health := .retired, pos := none }).raise evLrxSliceRetired
      [Word.nat r.unit, Word.nat r.loc]
    if !s1.half r.unit ∧ (s1.transomSlice r.unit).isNone then
      s1.raise evLrxNoSpareSlice [Word.nat r.unit, Word.nat (s1.healthySlices r.unit)]
    else s1
  | .engine =>
    ((s.modEng r.unit fun x => { x.fresh with role := .retired }).raise evSeaEngineRetired [Word.nat r.unit]).replanHeld
  | .lexBank =>
    let s1 := s.modBank r.unit fun x => { x with health := .retired }
    let s2 := match (s1.bankAt r.unit).spare with
      | none => s1
      | some k => s1.raise evLexBankSpared [Word.nat r.unit, Word.nat k]
    if 2 ≤ s2.retiredBanks ∧ s.retiredBanks < 2 then s2.raise evLexNoSpareBank [] else s2
  | .cell =>
    let s1 := (s.modCell r.unit r.loc fun x => { x with health := .retired, pos := none }).raise evLtxCellRetired
      [Word.nat r.unit, Word.nat r.loc]
    s1.raise evLtxNoSpareCell [Word.nat r.unit, Word.nat (s1.healthyCells r.unit)]
  | .axCore =>
    let s1 := (s.modAx r.unit fun x => { x with coreHealth := .retired }).raise evOcuCoreRetired [Word.nat r.unit]
    if s.ocu.c32 = some r.unit then { s1 with ocu := { s1.ocu with c32Lasting := true } } else s1
  | .stage => (s.stageLanes r.unit r.loc).foldl (fun s l => s.stageDown l) s
  | .interp => s

/-- A verdict is reached: it is recorded, TST_VERDICT is raised, the element returns or retires, and the next test of the kind
starts (R629, R631). -/
def State.verdict (s : State) (r : Report) (lasting : Bool) (runs : Nat) (untested : Bool) : State :=
  let v : TestVerdict := if lasting then .lasting else .transient
  let s1 := s.modTst fun t =>
    let all := t.verdicts ++ [(r, v, s.tku.bcnt)]
    { t with verdicts := all.drop (all.length - 256) }
  let s2 := s1.raise evTstVerdict
    [Word.nat (kindNum r.kind), Word.nat r.unit, Word.nat r.loc, Word.flag lasting, Word.nat r.source, Word.nat runs,
     Word.flag untested]
  let s3 := if lasting then (s2.retireElem r).repair (repairKind r.kind) r.source r.unit r.loc
    else (s2.addHistory r).returnElem r
  s3.startTests.follow

/-- R627, R628, R630: a run of a targeted test ends. -/
def execTargetedTestDone (kind : ElemKind) (pass : Bool) (s : State) : Host.Outcome State Fault Refusal :=
  .next (
    match s.tst.under.find? fun u => u.1.kind = kind with
    | none => s
    | some (r, failed) =>
      let s1 := s.modTst fun t => { t with under := t.under.erase (r, failed) }
      if !s.hasTestSet kind then
        (s1.modTst fun t => { t with untested := tmod t.untested (fun _ => 0) (kindNum kind) (· + 1) }).verdict r true 0 true
      else if pass then
        let s2 := if failed = 0 then s1 else s1.modTst fun t => { t with intermittent := t.intermittent + 1 }
        s2.verdict r (decide (2 ≤ s.recentTransients r)) (failed + 1) false
      else if failed = 0 then s1.modTst fun t => { t with under := t.under ++ [(r, 1)] }
      else s1.verdict r true 2 false)

/-! In-service slices (R639 to R644). -/

/-- Slices ON: the first value of its row. -/
def State.slicesOn (s : State) : Bool := s.parN nTstCfg 0 2 == 0

/-- The object of the yield while slices are OFF (log entry 10). -/
def objSlices : Nat := 0xFFFF

/-- The modes in which slices run: the blocks have power (R414). -/
def State.sliceMode (s : State) : Bool := s.dev.powered && (s.live || s.dev.mode = .workshop)

/-- An engine that a slice may test (R640, R642). -/
def State.engineTestable (s : State) (e : Nat) : Bool :=
  let x := s.engAt e
  decide (e < s.engines) &&
    match x.role with
    | .free | .transom => true
    | .tier | .adapt => (s.lineAt x.lane).sea.swap.isNone
    | _ => false

/-- When a block is due: an aborted one first, then by the time of the last pass (R641, R643). -/
def State.sliceDue (s : State) (b : Nat) : Nat × Nat :=
  ((if s.tst.aborted.contains b then 0 else 1), (tget s.tst.lastPass (fun _ => 0) b).toNat)

/-- Block `a` is due before block `b`. -/
def State.sliceBefore (s : State) (a b : Nat) : Bool :=
  let x := s.sliceDue a
  let y := s.sliceDue b
  decide (x.1 < y.1) || (x.1 == y.1 && (decide (x.2 < y.2) || (x.2 == y.2 && decide (a < b))))

/-- The FREE engine that takes the work of an engine of role TIER, TRANSOM or ADAPT, same quadrant first. -/
def State.sliceSubst (s : State) (e : Nat) : Option Nat :=
  (s.freeIn (e / 64)).head?.or (s.freeIn s.mostFree).head?

/-- A FREE engine takes over; the engine under test is isolated in role TEST. -/
def State.swapEngine (s : State) (e k : Nat) : State :=
  let x := s.engAt e
  let s1 := (s.modEng k fun y => { x with lfsr := y.lfsr, interval := y.interval }).modEng e fun y => { y.fresh with role := .test, slice := true }
  { s1 with hinge := { s1.hinge with lentFloors := s1.hinge.lentFloors.map fun n => if n = e then k else n } }

/-- A block's slice may start again: at least 1 s has passed since its abort (R643). -/
def State.rested (s : State) (b : Nat) : Bool :=
  !s.tst.aborted.contains b || s.passed (tget s.tst.abortAt (fun _ => 0) b) secTicks

/-- An engine slice starts: one for each quadrant, in order of the time since the last pass. -/
def State.startEngineSlice (s : State) (e : Nat) : State :=
  let q := e / 64
  let busy := s.tst.slices.any fun b => match b with | .engine k => k / 64 == q | .bank _ => false
  let first := (List.range 64).all fun i =>
    let k := 64 * q + i
    k == e || !s.engineTestable k || !s.rested k || !s.sliceBefore k e
  if busy ∨ !first ∨ !s.engineTestable e ∨ !s.rested e then s
  else
    let begin_ (s : State) : State := s.modTst fun t => { t with slices := t.slices ++ [.engine e] }
    match (s.engAt e).role with
    | .free => begin_ (s.modEng e fun x => { x.fresh with role := .test, slice := true })
    | _ =>
      match s.sliceSubst e with
      | none => s
      | some k => begin_ (s.swapEngine e k)

/-- A bank that a slice may test: in order, and for a spare one that serves no bank (R640). -/
def State.bankTestable (s : State) (b : Nat) : Bool :=
  decide (b < 34) && (s.bankAt b).health = .ok && !(s.bankAt b).filling && (s.bankAt b).spare.isNone &&
    !(List.range 32).any fun k => (s.bankAt k).spare = some b

/-- A bank slice starts: one at a time, none while both spares serve lasting faults (R375, R642). -/
def State.startBankSlice (s : State) (b : Nat) : State :=
  let busy := s.tst.slices.any fun x => match x with | .engine _ => false | .bank _ => true
  let first := (List.range 34).all fun k => k == b || !s.bankTestable k || !s.rested (256 + k) || !s.sliceBefore (256 + k) (256 + b)
  if busy ∨ !first ∨ !s.bankTestable b ∨ !s.rested (256 + b) ∨ 2 ≤ s.retiredBanks ∨ !s.unitOn fLex then s
  else
    let begin_ (s : State) : State := s.modTst fun t => { t with slices := t.slices ++ [.bank b] }
    if 32 ≤ b then begin_ (s.modBank b fun x => { x with slice := true })
    else
      match s.freeSpare with
      | none => s
      | some k => begin_ (s.modBank b fun x => { x with slice := true, spare := some k, filling := true })

/-- R639 steps 1 and 2. -/
def execTestSliceStart (b : SliceBlock) (s : State) : Host.Outcome State Fault Refusal :=
  .next (
    if s.sliceMode ∧ s.slicesOn then
      match b with
      | .engine e => (s.startEngineSlice e).settle
      | .bank n => s.startBankSlice n
    else s)

/-- A slice passes: the block is re-initialised and returned, its lost coverage ends (R639 step 4, R656). -/
def State.slicePass (s : State) (b : SliceBlock) : State :=
  let n := blockNum b
  let s1 := (s.modTst fun t => { t with
    lastPass := tset t.lastPass (fun _ => 0) n s.tku.bcnt, aborted := t.aborted.filter (· ≠ n) }).relYieldEnd 7 n
  match b with
  | .engine e => ((s1.modEng e Engine.fresh).reserve).startRaises
  | .bank k => s1.modBank k fun x => { x with slice := false, filling := x.spare.isSome, spare := none }

/-- A slice fails: the block stays isolated and is reported (R644). -/
def State.sliceFail (s : State) (b : SliceBlock) : State :=
  match b with
  | .engine e => s.isolate e srcSlice
  | .bank k => (s.modBank k fun x => { x with slice := false, filling := false, health := .test }).report .lexBank k 0 srcSlice

/-- R639 steps 3 and 4. -/
def execSliceTestDone (b : SliceBlock) (pass : Bool) (s : State) : Host.Outcome State Fault Refusal :=
  .next (
    if s.tst.slices.contains b then
      let s1 := s.modTst fun t => { t with slices := t.slices.erase b }
      (if pass then s1.slicePass b else s1.sliceFail b).follow
    else s)

/-- The rank that a slice yields to, where the spec names none: placement (log entry 23). -/
def sliceKept : Nat := 4

/-- A block that slices cover. -/
def State.covered (s : State) (b : SliceBlock) : Bool :=
  match b with
  | .engine e => decide (e < s.engines) && (s.engAt e).role ≠ .retired
  | .bank n => decide (n < 34) && (s.bankAt n).health ≠ .retired

/-- 1.5 coverage periods in ticks. -/
def State.coverageLate (s : State) : Nat := s.parN nTstCfg 0 1 * 90 * secTicks

/-- R641: a block has not been tested for 1.5 coverage periods. -/
def execCoverageTimer (b : SliceBlock) (s : State) : Host.Outcome State Fault Refusal :=
  .next (
    let n := blockNum b
    if s.sliceMode ∧ s.slicesOn ∧ s.covered b ∧ s.passed (tget s.tst.lastPass (fun _ => 0) n) s.coverageLate ∧
        !(s.tst.yields.any fun y => y.rank == 7 && y.obj == n) then
      (s.raise evTstCoverageLate (Word.nat n :: field32 (s.since (tget s.tst.lastPass (fun _ => 0) n)))).relYield
        7 n sliceKept 0 none
    else s)

/-! The nouns (R661). -/

def specGetTstCfg : CmdSpec := { verb := vGet, noun := nTstCfg, inst := .zero, form := .fixed [0], modes := .any }
def procGetTstCfg : Sentence → State → State := process specGetTstCfg noCheck (getAct fun s i => s.paramSet nTstCfg i) noEcho
def execGetTstCfg (m : Sentence) (s : State) : Host.Outcome State Fault Refusal :=
  .next (submit vGet nTstCfg procGetTstCfg m s)

/-- Slices OFF yield rank 7 while they are OFF; the command completes with YIELDED (R655, R661). -/
def actTstCfg (s : State) (m : Sentence) (ws : List Word) : State × Reply :=
  let s1 := (setAct nTstCfg s m ws).1
  if s.slicesOn ∧ !s1.slicesOn then (s1.relYield 7 objSlices sliceKept 0 (some m.req), .yielded (7 * 16 + sliceKept) [])
  else if !s.slicesOn ∧ s1.slicesOn then (s1.relYieldEnd 7 objSlices, okDone)
  else (s1, okDone)

def specSetTstCfg : CmdSpec := { verb := vSet, noun := nTstCfg, inst := .zero, form := .mask, modes := .notShutter }
def procSetTstCfg : Sentence → State → State := process specSetTstCfg (setCheck nTstCfg) actTstCfg (setEcho nTstCfg)
def execSetTstCfg (m : Sentence) (s : State) : Host.Outcome State Fault Refusal :=
  .next (submit vSet nTstCfg procSetTstCfg m s)

/-- The kinds of element in the order of their numbers. -/
def elemKinds : List ElemKind := [.slice, .engine, .lexBank, .cell, .axCore, .stage, .interp]

/-- The blocks that slices cover, by number. -/
def State.blockNums (s : State) : List Nat := List.range s.engines ++ (List.range 34).map (256 + ·)

/-- The first block of a list in the order of R641 and R643. -/
def State.headOf (s : State) : List Nat → Nat
  | [] => noEngine
  | b :: bs => bs.foldl (fun m k => if s.sliceBefore k m then k else m) b

/-- Per kind: queued, under test, untested; blocks passed within the coverage period; aborts of engine and bank slices; the heads
of both queues; the last pass of every block. -/
def State.tstWords (s : State) : List Word :=
  (elemKinds.flatMap fun k =>
    [Word.nat (s.tst.queue.filter fun r => r.kind = k).length, Word.nat (s.tst.under.filter fun u => u.1.kind = k).length,
     Word.nat (tget s.tst.untested (fun _ => 0) (kindNum k))]) ++
    [Word.nat (s.blockNums.filter fun b =>
      let p := tget s.tst.lastPass (fun _ => 0) b
      decide (p ≠ 0) && decide (s.since p ≤ s.parN nTstCfg 0 1 * 60 * secTicks)).length,
     Word.nat s.tst.aborts, Word.nat s.tst.bankAborts,
     Word.nat (s.headOf ((List.range s.engines).filter s.engineTestable)),
     Word.nat (s.headOf (((List.range 34).filter s.bankTestable).map (256 + ·)))] ++
    s.blockNums.flatMap fun b => words64 (tget s.tst.lastPass (fun _ => 0) b).toNat

def specGetTstStatus : CmdSpec := { verb := vGet, noun := nTstStatus, inst := .zero, form := .fixed [0], modes := .any }
def procGetTstStatus : Sentence → State → State := process specGetTstStatus noCheck (getAct fun s _ => s.tstWords) noEcho
def execGetTstStatus (m : Sentence) (s : State) : Host.Outcome State Fault Refusal :=
  .next (submit vGet nTstStatus procGetTstStatus m s)

/-- A first record or entry below `n` (R70). -/
def firstCheck (n : Nat) (_ : State) (_ : Sentence) (ws : List Word) : Option Refuse :=
  if (ws.getD 0 0).toNat < n then none else some { code := cResource, detail := 1 }

/-- A verdict: kind, unit, location, source, verdict, BCNT; as many as the payload area holds. -/
def verdictWords (v : Report × TestVerdict × BitVec 64) : List Word :=
  [Word.nat (kindNum v.1.kind), Word.nat v.1.unit, Word.nat v.1.loc, Word.nat v.1.source,
   Word.flag (decide (v.2.1 = TestVerdict.lasting))] ++ words64 v.2.2.toNat

def actTstVerdicts (s : State) (_ : Sentence) (ws : List Word) : State × Reply :=
  (s, okWords (((s.tst.verdicts.drop (ws.getD 0 0).toNat).take 144).flatMap verdictWords))

def specGetTstVerdicts : CmdSpec := { verb := vGet, noun := nTstVerdicts, inst := .zero, form := .fixed [4], modes := .any }
def procGetTstVerdicts : Sentence → State → State := process specGetTstVerdicts (firstCheck 256) actTstVerdicts noEcho
def execGetTstVerdicts (m : Sentence) (s : State) : Host.Outcome State Fault Refusal :=
  .next (submit vGet nTstVerdicts procGetTstVerdicts m s)

/-- The 16 bytes of an entry (R649). -/
def entryBytes (e : RepairEntry) : List Byte :=
  leBytes 1 e.kind ++ leBytes 1 e.source ++ leBytes 2 e.unit ++ leBytes 4 e.location ++ leBytes 4 e.start ++ leBytes 4 e.seconds

/-- The 64-byte header of the record (R648). -/
def repHeader (r : Rep) : List Byte :=
  [0x57, 0x58, 0x52, 0x52] ++ leBytes 4 r.gen ++ leBytes 4 r.entries.length ++ leBytes 4 r.startNo ++
    leBytes 4 (crc32 (r.entries.flatMap entryBytes)) ++ List.replicate 44 0

/-- The header and at most 248 entries. -/
def actRepRecord (s : State) (_ : Sentence) (ws : List Word) : State × Reply :=
  (s, okWords (wordsOfBytes (repHeader s.rep ++ (((s.rep.entries.drop (ws.getD 0 0).toNat).take 248).flatMap entryBytes))))

def specGetRepRecord : CmdSpec := { verb := vGet, noun := nRepRecord, inst := .zero, form := .fixed [4], modes := .any }
def procGetRepRecord : Sentence → State → State := process specGetRepRecord (firstCheck 2048) actRepRecord noEcho
def execGetRepRecord (m : Sentence) (s : State) : Host.Outcome State Fault Refusal :=
  .next (submit vGet nRepRecord procGetRepRecord m s)

/-- The yields of the Hinge in force, as those of REL_YIELD are kept. -/
def State.seaYields (s : State) : List YieldRec :=
  (s.startedLanes.filter fun l => (s.lineAt l).sea.yielding).map fun l =>
    let x := (s.lineAt l).sea
    { rank := s.rankYielded l x.placed, obj := l, keptRank := Word.nat (s.keptBy l x.cause).1, since := x.yieldSince, req := none }

/-- Per rank 1 to 7: yields and ends by rank yielded, then by rank kept; the number in force, and of each its rank, object, rank
kept and start. -/
def State.yieldWords (s : State) : List Word :=
  let all := s.tst.yields ++ s.seaYields
  let per (k : Nat) : List Word := (List.range 7).flatMap fun r =>
    Word.nat (tget s.tst.counts (fun _ => 0) (4 * (r + 1) + k)) :: [Word.nat (tget s.tst.counts (fun _ => 0) (4 * (r + 1) + k + 1))]
  per 0 ++ per 2 ++ Word.nat all.length ::
    (all.take 190).flatMap fun y => [Word.nat y.rank, Word.nat y.obj, y.keptRank] ++ words64 y.since.toNat

def specGetRelYields : CmdSpec := { verb := vGet, noun := nRelYields, inst := .zero, form := .fixed [0], modes := .any }
def procGetRelYields : Sentence → State → State := process specGetRelYields noCheck (getAct fun s _ => s.yieldWords) noEcho
def execGetRelYields (m : Sentence) (s : State) : Host.Outcome State Fault Refusal :=
  .next (submit vGet nRelYields procGetRelYields m s)

end Sys2Proof.Machine
end

