-- ==== Sys2Proof/Machine/HostInterface.lean ====
section
/-! DEFINITION. The host interface: link, resets and power states of the functions (R472, R490 to R492, R511 to R515), DMA channels
(R481 to R489), the test access port (R722), coalescing timers and the delivery of events (R499, R507), and the HIF and
ICU nouns (R497, R522). -/

namespace Sys2Proof.Machine

/-! The functions (R470, R471, R473, R492). -/

/-- The link speeds, numbered 1 to 5 from 2.5 to 32.0 GT/s, and widths of R470. -/
def linkSpeedOk (speed : Nat) : Bool := decide (1 ≤ speed ∧ speed ≤ 5)
def linkWidths : List Nat := [1, 2, 4, 8]

/-- The Device ID of a function. -/
def State.pciDevice (s : State) (r : Requester) : Nat := deviceId s.fuses.part + (if r = .pf1 then 1 else 0)

/-- Size of a function's BAR0. -/
def bar0Size (r : Requester) : Nat :=
  match r with
  | .pf0 => 0x400000
  | .pf1 => 0x100000
  | .mgt => 0

/-- A PCIe function as configuration reads show it: Vendor ID, Device ID, class code, Revision ID, Subsystem Vendor ID, Subsystem ID,
sizes of BAR0 and BAR2, MSI-X vectors, Device Serial Number. -/
def State.pciIdentity (s : State) (r : Requester) : List Nat :=
  [vendorId, s.pciDevice r, 0x118000, s.fuses.stepping.toNat, vendorId, s.pciDevice r, bar0Size r, bar2Size r, vectors r,
   s.fuses.uid.toNat]

/-- The latency of the LTR messages in microseconds (R492). -/
def State.ltrUs (s : State) : Nat := if (List.range 4).any fun c => (s.dmaAt c).enabled then 100 else 1000

/-! The link. -/

/-- R472. -/
def execLinkDown (s : State) : Host.Outcome State Fault Refusal := .next s.linkGone

/-- The link can train: step 1 of start-up is over, the part has its power, PERST_N is high and no test instruction holds the
pins (R425, R433, R722). -/
def State.linkCan (s : State) : Bool :=
  s.pwr.up && !s.hif.perst && s.hif.tap.isNone && !(s.dev.mode = .shutter && s.shut.step = .complete) &&
    !(s.dev.mode = .starting && decide (s.dev.step < 2))

/-- The link comes up, or retrains to another speed or width (R470, R740): speeds 1 to 5, widths 1, 2, 4 and 8. -/
def execLinkUp (speed width : Nat) (s : State) : Host.Outcome State Fault Refusal :=
  .next (
    if s.linkCan ∧ linkSpeedOk speed ∧ linkWidths.contains width then
      let s1 := s.modHif fun x => { x with linkUp := true, l1 := false, speed := speed, width := width }
      if s.hif.linkUp ∧ s.hif.speed = speed ∧ s.hif.width = width then s1
      else s1.raise evHifLinkChange
        [if s.hif.linkUp then 2 else 1, Word.nat s.hif.speed, Word.nat s.hif.width, Word.nat speed, Word.nat width]
    else s)

/-- R492. -/
def execAspmL1Entry (s : State) : Host.Outcome State Fault Refusal :=
  .next (if s.hif.linkUp then s.modHif fun x => { x with l1 := true } else s)

/-! Resets of a function (R447, R472, R489, R515, R673). -/

/-- Kinds of reset in HIF_FUNCTION_RESET. -/
def resetFlr : Nat := 0
def resetHot : Nat := 1
def resetPerst : Nat := 2

/-- The event queue of a reset function is emptied; its records count as lost (R472). -/
def EvQueue.emptied (q : EvQueue) : EvQueue :=
  match q.recs with
  | [] => q
  | e :: r =>
    { q with recs := [], lost := q.lost + (e :: r).length
             lostFirst := if q.lost = 0 then e.bcnt else q.lostFirst
             lostLast := ((e :: r).getLastD e).bcnt }

/-- The mailboxes of a function return to their reset values; commands in flight are abandoned, the records of ACCEPTED ones will
be discarded (R447). -/
def State.dropMailboxes (s : State) (r : Requester) : State :=
  let s1 := (List.range 16).foldl (fun s n => s.modBox r n fun _ => boxDflt n) s
  { s1 with
    mb := { s1.mb with
      waiting := s1.mb.waiting.filter fun w => w.2.2.req ≠ r
      outstanding := s1.mb.outstanding.map fun o => if o.req = r then { o with dropped := true } else o }
    dev := { s1.dev with enterWait := s1.dev.enterWait.filter fun m => decide (m.req ≠ r) } }

/-- The channels of a function stop; the rest of their configuration stays (R489). -/
def State.stopChannels (s : State) (r : Requester) : State :=
  let own := (List.range 4).filter fun c => (s.dmaAt c).owner = r
  let s1 := own.foldl (fun s c => s.modDma c fun d => { d with enabled := false }) s
  s1.modHif fun x => { x with ready := x.ready.filter fun q => !own.contains q.ch }

/-- A function is reset. -/
def State.resetFunction (s : State) (r : Requester) (kind : Nat) : State :=
  let n := (s.queueAt r).recs.length
  let s1 := ((s.dropMailboxes r).stopChannels r).modQueue r EvQueue.emptied
  let s2 := (s1.modIcu r fun _ => {}).modSnap r fun _ => {}
  let s3 := s2.modHif fun x => { x with dstate := tset x.dstate (fun _ => .d0) r.num .d0 }
  (s3.raise evHifFunctionReset [Word.nat r.num, Word.nat kind, Word.nat n]).settleIcuOf r

/-- The functions of the part exist once their logic has power (R424). -/
def State.functionsOn (s : State) : Bool := s.pwr.up && !(s.dev.mode = .starting && decide (s.dev.step < 2))

def execFunctionLevelReset (r : Requester) (s : State) : Host.Outcome State Fault Refusal :=
  .next (if r ≠ .mgt ∧ s.functionsOn ∧ s.hif.linkUp then s.resetFunction r resetFlr else s)

def execHotReset (s : State) : Host.Outcome State Fault Refusal :=
  .next (
    if s.functionsOn ∧ s.hif.linkUp then (s.resetFunction .pf0 resetHot).resetFunction .pf1 resetHot else s)

/-- R429, R714: PERST_N acts on the PCIe functions alone. -/
def execPerstNAssert (s : State) : Host.Outcome State Fault Refusal :=
  .next (
    let s1 := (s.modHif fun x => { x with perst := true }).linkGone
    if s.functionsOn then (s1.resetFunction .pf0 resetPerst).resetFunction .pf1 resetPerst else s1)

/-- R425: the functions leave reset and the link may train. -/
def execPerstNDeassert (s : State) : Host.Outcome State Fault Refusal :=
  .next (s.modHif fun x => { x with perst := false })

/-! Power states. -/

def State.setD (s : State) (r : Requester) (d : DState) : State :=
  s.modHif fun x => { x with dstate := tset x.dstate (fun _ => .d0) r.num d }

/-- R490, R511: the function answers configuration requests only; its timers stop. -/
def execEnterD3hot (r : Requester) (s : State) : Host.Outcome State Fault Refusal :=
  .next (if r ≠ .mgt ∧ s.hif.linkUp ∧ s.dstate r = .d0 then s.setD r .d3hot else s)

/-- R513: every vector that holds entries sends its message, subject to R509. -/
def execEnterD0 (r : Requester) (s : State) : Host.Outcome State Fault Refusal :=
  .next (
    if r ≠ .mgt ∧ s.hif.linkUp ∧ s.dstate r ≠ .d0 then
      (List.range (vectors r)).foldl (fun s v =>
        if (s.vecAt r v).held ≠ [] then s.sendVec r v else s.sendPba r v) (s.setD r .d0)
    else s)

/-- R491, R515: the link is down and the interrupt controller instance is at its reset values; ID_SCRATCH returns to 0 with
the resets that R515 lists (R728). -/
def execEnterD3cold (r : Requester) (s : State) : Host.Outcome State Fault Refusal :=
  .next (
    if r ≠ .mgt ∧ s.functionsOn then
      ((((s.setD r .d3cold).modIcu r fun _ => {}).modSnap r fun x => { x with scratch := 0 }).linkGone).settleIcuOf r
    else s)

/-! The test access port (R721, R722). -/

/-- The IDCODE (R721). -/
def State.idcode (s : State) : Nat :=
  s.fuses.stepping.toNat * 2 ^ 28 +
    match s.fuses.part with
    | .wx3208 => 0x032080B5
    | .wx3208n => 0x0320A0B5
    | .wx1604 => 0x016040B5

/-- What Capture-IR returns (R722). -/
def State.captureIr (s : State) : Byte := if s.hif.tapBypassed then 0x09 else 0x01

/-- EXTEST, CLAMP, HIGHZ, EXTEST_PULSE and EXTEST_TRAIN. -/
def tapTakes (op : Byte) : Bool := [0x00, 0x03, 0x04, 0x05, 0x06].contains op.toNat

/-- The modes in which a takeover is permitted. -/
def State.tapMay (s : State) : Bool :=
  (s.dev.mode = .dormant || s.dev.mode = .startFailed || (s.dev.mode = .shutter && s.shut.step = .complete)) && !s.pwr.sysRst

/-- R722: a takeover where permitted takes the link down; elsewhere the instruction acts as BYPASS and the next Capture-IR says
so. -/
def execTapTakeoverLoad (op : Byte) (s : State) : Host.Outcome State Fault Refusal :=
  .next (
    if !tapTakes op then s
    else if s.tapMay then (s.modHif fun x => { x with tap := some op, tapBypassed := false }).linkGone
    else s.modHif fun x => { x with tap := none, tapBypassed := true })

/-- R722: the pins return at once. -/
def execTapRelease (s : State) : Host.Outcome State Fault Refusal :=
  .next (s.modHif fun x => { x with tap := none, tapBypassed := false })

/-! Events and messages. -/

/-- Firmware takes events from the end of start-up step 5; the boot ROM of START_FAILED keeps no queues. -/
def State.fwTakes (s : State) : Bool :=
  s.dev.mode ≠ .startFailed && !(s.dev.mode = .starting && decide (s.dev.step < 6)) && !s.eventsHeld

/-- R499: firmware writes the record of an event into every queue, and the event into its log (R398). -/
def execEventRaised (i : Nat) (s : State) : Host.Outcome State Fault Refusal :=
  .next (
    match s.ev.raised[i]? with
    | none => s
    | some e =>
      if s.fwTakes then
        let s1 : State := { s with
          ev := { s.ev with raised := s.ev.raised.eraseIdx i }
          dev := { s.dev with log := s.dev.log ++ [LogRec.event e.code e.bcnt s.view] } }
        (requesters.foldl (fun s r => s.deliverTo r e) s1).settleIcu
      else s)

/-- R507, R511: a vector's timer fires only while its function is in D0. -/
def execCoalescingTimerExpiry (r : Requester) (vec : Nat) (s : State) : Host.Outcome State Fault Refusal :=
  .next (
    if r ≠ .mgt ∧ vec < vectors r ∧ s.dstate r = .d0 ∧ (s.vecAt r vec).timer ∧ (s.vecAt r vec).held ≠ [] then s.sendVec r vec
    else s)

/-! DMA channels. -/

/-- The length of a source's record (R482, R575, R622, R679, R682). -/
def dmaLength (src : Nat) : Nat := [0x190040, 0x9040, 4160, 4160, 320, 0x34080].getD src 64

/-- R486: records are pushed only while the owner is in D0 with Bus Master Enable set and the link is up. -/
def State.dmaMay (s : State) (r : Requester) : Bool :=
  s.dev.pfEnabled && s.hif.linkUp && decide (s.dstate r = .d0) && tget s.hif.bme (fun _ => true) r.num

/-- The bytes that a record needs, and those of a pad before it (R484). -/
def Dma.need (d : Dma) (len : Nat) : Nat × Nat :=
  let toEnd := d.size - d.head
  if toEnd < len then (len + toEnd, toEnd) else (len, 0)

/-- The space of R484. -/
def Dma.space (d : Dma) : Nat := d.size - (d.head + d.size - d.tail) % d.size - 64

/-- The channel drops a record (R484, R487). -/
def Dma.dropOne (d : Dma) : Dma := { d with gap := true, dropped := d.dropped + 1, drops := min (d.drops + 1) 0xFFFF }

/-- The FLAGS of a record (R483). -/
def dmaFlags (gap flush late : Bool) : Byte := BitVec.ofNat 8 (gap.toNat + 2 * flush.toNat + 4 * late.toNat)

/-- The channel writes a record, after a pad where it does not fit before the end (R483, R484). -/
def Dma.push (d : Dma) (q : DmaReady) (bad : List Nat) : Dma :=
  let len := dmaLength q.src
  let pad := (d.need len).2
  let at_ := if pad = 0 then d.head else 0
  let n := if pad = 0 then d.records else (d.records + 1) % 2 ^ 32
  let padHdr : List DmaHdr := if pad = 0 then []
    else [{ offset := d.head, type := 0, flags := 0, length := pad, bcnt := q.bcnt, sseq := 0, rseq := d.records, dropped := 0 }]
  { d with
    head := (at_ + len) % d.size
    records := (n + 1) % 2 ^ 32
    dropped := 0
    last := padHdr ++ [{ offset := at_, type := q.src + 1, flags := dmaFlags (decide (0 < d.dropped)) q.flush q.late,
                         length := len, bcnt := q.bcnt, sseq := q.sseq, rseq := n, dropped := d.dropped, bad := bad }] }

/-- A word stands in the data of a record; sampling and monitor records lie in rings (R574, R682). -/
def dmaData (q : DmaReady) (w : Nat) : Bool :=
  let len := dmaLength q.src - 64
  let ring (base size : Nat) : Bool := decide (base ≤ w ∧ w < base + size) && decide ((w + size - q.addr) % size < len)
  if q.src = 2 then ring (telemetry + telSample + 0x40) (32 * 262142)
  else if q.src = 3 then ring (q.addr / 0x40000 * 0x40000 + 0x40) (8 * 32760)
  else decide (q.addr ≤ w ∧ w < q.addr + len)

/-- The reads of a push: every word that is not good is checked (R528); those that are not delivered (R540). -/
def State.pushReads (s : State) (q : DmaReady) : State × List Nat :=
  ((s.mem.cond.map Prod.fst).filter (dmaData q)).foldl (fun x w =>
    let y := x.1.readWord dmaReader w
    (y.1, if y.2 then x.2 else x.2 ++ [w])) (s, [])

/-- R484 to R486: the oldest completed data of a source is pushed, and the channel's source fires in the owner; or it is
dropped. -/
def execDmaRecordWritten (ch src : Nat) (s : State) : Host.Outcome State Fault Refusal :=
  .next (
    match s.hif.ready.find? fun q => q.ch == ch && q.src == src with
    | none => s
    | some q =>
      let s1 := s.modHif fun x => { x with ready := x.ready.erase q }
      let d := s.dmaAt ch
      let n := (d.need (dmaLength src)).1
      if s.dmaMay d.owner ∧ n ≤ d.space then
        let x := s1.pushReads q
        (((x.1.modDma ch fun d => d.push q x.2).pmcEvent 0x020 (units64 q.addr (dmaLength src - 64))).pmcEvent 0x040 (n / 64)).edge
          d.owner (18 + ch)
      else s1.modDma ch Dma.dropOne)

/-! The HIF nouns (R497). -/

def DState.num : DState → Nat
  | .d0 => 0
  | .d3hot => 1
  | .d3cold => 2

/-- The state of the link: 0 Detect, 1 L0, 2 L1 (log entry 10). -/
def State.ltssm (s : State) : Nat := if s.hif.linkUp then (if s.hif.l1 then 2 else 1) else 0

def State.hifLinkWords (s : State) : List Word :=
  [Word.nat s.hif.speed, Word.nat s.hif.width, Word.nat s.ltssm, Word.nat (DState.num (s.dstate .pf0)),
   Word.nat (DState.num (s.dstate .pf1))] ++ s.hif.aer.map Word.nat ++ words64 s.hif.discarded

def specGetHifLink : CmdSpec := { verb := vGet, noun := nHifLink, inst := .zero, form := .fixed [0], modes := .any }
def procGetHifLink : Sentence → State → State := process specGetHifLink noCheck (getAct fun s _ => s.hifLinkWords) noEcho
def execGetHifLink (m : Sentence) (s : State) : Host.Outcome State Fault Refusal :=
  .next (submit vGet nHifLink procGetHifLink m s)

def specGetHifWindow : CmdSpec := { verb := vGet, noun := nHifWindow, inst := .zero, form := .fixed [0], modes := .any }
def procGetHifWindow : Sentence → State → State :=
  process specGetHifWindow noCheck (getAct fun s _ => [Word.nat s.hif.window]) noEcho
def execGetHifWindow (m : Sentence) (s : State) : Host.Outcome State Fault Refusal :=
  .next (submit vGet nHifWindow procGetHifWindow m s)

/-- R477: a multiple of 256 MiB from 0x2000_0000 to 0xD000_0000. -/
def checkHifWindow (_ : State) (_ : Sentence) (ws : List Word) : Option Refuse :=
  let b := (ws.getD 0 0).toNat
  if b % 0x10000000 = 0 ∧ 0x20000000 ≤ b ∧ b ≤ 0xD0000000 then none else some { code := cResource, detail := 1 }

def actHifWindow (s : State) (_ : Sentence) (ws : List Word) : State × Reply :=
  (s.modHif fun x => { x with window := (ws.getD 0 0).toNat }, okDone)

def specSetHifWindow : CmdSpec := { verb := vSet, noun := nHifWindow, inst := .zero, form := .fixed [4], modes := .notShutter }
def procSetHifWindow : Sentence → State → State :=
  process specSetHifWindow checkHifWindow actHifWindow fun s _ => [Word.nat s.hif.window]
def execSetHifWindow (m : Sentence) (s : State) : Host.Outcome State Fault Refusal :=
  .next (submit vSet nHifWindow procSetHifWindow m s)

/-- Owner, base, size, sources, vector, enable, HEAD, TAIL, drops. -/
def State.dmaWords (s : State) (c : Nat) : List Word :=
  let d := s.dmaAt c
  Word.nat d.owner.num :: words64 d.base.toNat ++
    [Word.nat d.size, d.sources.setWidth 32, d.vector.setWidth 32, Word.flag d.enabled, Word.nat d.head, Word.nat d.tail,
     Word.nat d.drops]

def specGetHifDma : CmdSpec := { verb := vGet, noun := nHifDma, inst := .dma, form := .fixed [0], modes := .any }
def procGetHifDma : Sentence → State → State := process specGetHifDma noCheck (getAct State.dmaWords) noEcho
def execGetHifDma (m : Sentence) (s : State) : Host.Outcome State Fault Refusal :=
  .next (submit vGet nHifDma procGetHifDma m s)

/-- The owner that a word names. -/
def dmaOwner (w : Word) : Requester := if w.toNat = 1 then .pf1 else .pf0

/-- The sources that a mask names. -/
def sourceList (w : Word) : List Nat := listWhere 6 fun b => w.getLsbD b

/-- A feature bit of a named source that is not accepted (R481). -/
def State.sourceFeature (s : State) (srcs : List Nat) : Option Nat :=
  let need := if srcs.isEmpty then []
    else [fDmaPush] ++ (if srcs.contains 0 then [fLex] else []) ++ (if srcs.contains 2 then [fSampling] else [])
  need.find? fun b => !s.accepts b

/-- A value of the payload that no configuration allows (R481, R482). -/
def dmaValues (ws : List Word) : Bool :=
  let w (i : Nat) : Nat := (ws.getD i 0).toNat
  decide (w 0 ≤ 1) && decide (w 1 % 4096 = 0) && (List.range 15).any (fun k => w 3 == 2 ^ (16 + k)) && decide (w 4 < 64) &&
    decide (w 5 < vectors (dmaOwner (ws.getD 0 0))) && decide (w 6 ≤ 1)

/-- R482, R683: first the right of PF1's channels, then the features, then the values, then conflict and size. -/
def checkHifDma (s : State) (m : Sentence) (ws : List Word) : Option Refuse :=
  let srcs := sourceList (ws.getD 4 0)
  let taken := (List.range 4).any fun c =>
    c ≠ m.inst.toNat && (s.dmaAt c).enabled && srcs.any fun b => (s.dmaAt c).sources.getLsbD b
  let largest := (srcs.map dmaLength).max?.getD 0
  if (ws.getD 0 0).toNat = 1 ∧ !s.dev.grant ∧ (srcs.contains 1 ∨ srcs.contains 2) then
    some { code := cPermission, detail := 2 }
  else
    match s.sourceFeature srcs with
    | some b => some { code := cNotNegotiated, detail := b }
    | none =>
      if !dmaValues ws then some { code := cResource, detail := 1 }
      else if taken ∨ (ws.getD 3 0).toNat < 2 * largest then some { code := cResource, detail := 2 }
      else none

/-- R489: enabling a channel resets its pointers and counts; a channel that stops has nothing more to push. -/
def actHifDma (s : State) (m : Sentence) (ws : List Word) : State × Reply :=
  let c := m.inst.toNat
  let on := decide ((ws.getD 6 0).toNat = 1)
  let s1 := s.modDma c fun d =>
    let e := { d with
      owner := dmaOwner (ws.getD 0 0)
      base := (ws.getD 2 0) ++ (ws.getD 1 0)
      size := (ws.getD 3 0).toNat
      sources := (ws.getD 4 0).setWidth 6
      vector := (ws.getD 5 0).setWidth 6
      enabled := on }
    if on then { e with head := 0, tail := 0, records := 0, drops := 0, dropped := 0, last := [] } else e
  ((s1.modHif fun x => { x with ready := x.ready.filter fun q => q.ch ≠ c }).settle, okDone)

def specSetHifDma : CmdSpec := { verb := vSet, noun := nHifDma, inst := .dma, form := .fixed [28], modes := .notShutter }
def procSetHifDma : Sentence → State → State := process specSetHifDma checkHifDma actHifDma State.dmaWords
def execSetHifDma (m : Sentence) (s : State) : Host.Outcome State Fault Refusal :=
  .next (submit vSet nHifDma procSetHifDma m s)

/-- I3C, static address 0b1011_A2A1A0, dynamic address, bus speed (open), transfers discarded (R493, R494). -/
def actHifMgt (s : State) (_ : Sentence) (_ : List Word) : State × Reply :=
  (s.freeNext, okWords [Word.flag s.hif.i3c, Word.nat (0x58 + s.hif.straps.toNat), Word.nat s.hif.dynAddr.toNat, s.freeVal,
    Word.nat s.hif.mgtDiscarded])

def specGetHifMgt : CmdSpec := { verb := vGet, noun := nHifMgt, inst := .zero, form := .fixed [0], modes := .any }
def procGetHifMgt : Sentence → State → State := process specGetHifMgt noCheck actHifMgt noEcho
def execGetHifMgt (m : Sentence) (s : State) : Host.Outcome State Fault Refusal :=
  .next (submit vGet nHifMgt procGetHifMgt m s)

/-! The ICU nouns (R522). -/

/-- A code that no event takes. -/
def checkIcuEvent (_ : State) (_ : Sentence) (ws : List Word) : Option Refuse :=
  if isEventCode (ws.getD 0 0).toNat ∧ (ws.getD 1 0).toNat ≤ 1 then none else some { code := cResource, detail := 1 }

def actGetIcuEvent (s : State) (_ : Sentence) (ws : List Word) : State × Reply :=
  (s, okWords [Word.flag (s.urgentCode (ws.getD 0 0).toNat)])

def specGetIcuEvent : CmdSpec := { verb := vGet, noun := nIcuEvent, inst := .zero, form := .fixed [4], modes := .any }
def procGetIcuEvent : Sentence → State → State := process specGetIcuEvent checkIcuEvent actGetIcuEvent noEcho
def execGetIcuEvent (m : Sentence) (s : State) : Host.Outcome State Fault Refusal :=
  .next (submit vGet nIcuEvent procGetIcuEvent m s)

/-- R520: the flag is device-wide. -/
def actSetIcuEvent (s : State) (_ : Sentence) (ws : List Word) : State × Reply :=
  (({ s with ev := { s.ev with
    urgent := tset s.ev.urgent urgentAtStart (ws.getD 0 0).toNat (decide (ws.getD 1 0 = 1)) } }).settleIcu, okDone)

/-- What ECHO returns of the flags: as GET takes a code, nothing (log entry 10). -/
def specSetIcuEvent : CmdSpec := { verb := vSet, noun := nIcuEvent, inst := .zero, form := .fixed [8], modes := .notShutter }
def procSetIcuEvent : Sentence → State → State := process specSetIcuEvent checkIcuEvent actSetIcuEvent noEcho
def execSetIcuEvent (m : Sentence) (s : State) : Host.Outcome State Fault Refusal :=
  .next (submit vSet nIcuEvent procSetIcuEvent m s)

/-- The sources of the management port (R500). -/
def mgtMask : Nat := 0x430003

/-- Pending sources of an instance as a mask: PENDING, or IN_SERVICE with a latched arrival (R521). -/
def State.pendingMask (s : State) (r : Requester) : Nat :=
  maskOf ((List.range 24).filter fun src => (s.srcAt r src).state = .pending || (s.srcAt r src).state = .latched)

/-- Enables, pending state, level of INT_N (1 released), in-band interrupts sent and repeated. -/
def State.icuMgtWords (s : State) : List Word :=
  let i := s.icuAt .mgt
  [Word.nat (i.enable.toNat &&& mgtMask), Word.nat (s.pendingMask .mgt &&& mgtMask), Word.flag (!s.intN), Word.nat i.ibiSent,
   Word.nat i.ibiRepeated]

def specGetIcuMgt : CmdSpec := { verb := vGet, noun := nIcuMgt, inst := .zero, form := .fixed [0], modes := .any }
def procGetIcuMgt : Sentence → State → State := process specGetIcuMgt noCheck (getAct fun s _ => s.icuMgtWords) noEcho
def execGetIcuMgt (m : Sentence) (s : State) : Host.Outcome State Fault Refusal :=
  .next (submit vGet nIcuMgt procGetIcuMgt m s)

/-- A bit of no source of the management port. -/
def checkIcuMgt (_ : State) (_ : Sentence) (ws : List Word) : Option Refuse :=
  if (ws.getD 0 0).toNat &&& mgtMask = (ws.getD 0 0).toNat then none else some { code := cResource, detail := 1 }

def actIcuMgt (s : State) (_ : Sentence) (ws : List Word) : State × Reply := (s.icuEnable .mgt (ws.getD 0 0), okDone)

def specSetIcuMgt : CmdSpec := { verb := vSet, noun := nIcuMgt, inst := .zero, form := .fixed [4], modes := .notShutter }
def procSetIcuMgt : Sentence → State → State := process specSetIcuMgt checkIcuMgt actIcuMgt fun s _ => s.icuMgtWords
def execSetIcuMgt (m : Sentence) (s : State) : Host.Outcome State Fault Refusal :=
  .next (submit vSet nIcuMgt procSetIcuMgt m s)

end Sys2Proof.Machine
end

