-- ==== Sys2Proof/Machine/Firmware.lean ====
section
/-! DEFINITION. Signed images (R464 to R467) and kernel loads (R137), firmware panes and the steps of a pane switch that begin no
commands (R657 to R661). Steps that let waiting commands begin stand in `Machine/Opening.lean`. -/

namespace Sys2Proof.Machine

/-! Panes: false is Pane A, true Pane B. -/

def Fw.pane (x : Fw) (b : Bool) : Pane := if b then x.b else x.a
def Fw.setPane (x : Fw) (b : Bool) (p : Pane) : Fw := if b then { x with b := p } else { x with a := p }

/-- The pane-select copy written last (R719). -/
def State.paneSelect (s : State) : List Byte :=
  let body := [0x57, 0x58, 0x50, 0x53] ++ leBytes 4 s.fw.selGen ++ leBytes 4 s.fw.active.toNat
  body ++ leBytes 4 (crc32 body)

def State.modFw (s : State) (f : Fw → Fw) : State := { s with fw := f s.fw }

/-- The active pane: the one that start-up or a switch has taken into use, as ID_FW_PANE shows it; in START_FAILED the one
marked in boot flash (R467, R727). -/
def State.activePane (s : State) : Bool := if s.dev.mode = .startFailed then s.fw.active else s.fw.shown

/-! The header of R465. -/

/-- A little-endian field of a header. -/
def hdrField (h : List Byte) (at_ n : Nat) : Nat := leVal ((h.drop at_).take n)

def hdrVersion (h : List Byte) : Word := Word.nat (hdrField h 0x08 4)

/-- FEATURES: the bits [127:16]. -/
def hdrFeatures (h : List Byte) : BitVec 112 := BitVec.ofNat 112 (hdrField h 0x10 16 / 65536)

/-- Reason 0x01 of R466 does not apply: MAGIC "WXIM", TYPE, ID, FORMAT, LENGTH and the bytes that hold 0. -/
def hdrForm (h : List Byte) (type id length : Nat) : Bool :=
  decide (hdrField h 0x00 4 = 0x4D495857) && decide (hdrField h 0x04 1 = type) && decide (hdrField h 0x05 1 = id) &&
    decide (hdrField h 0x06 1 = 1) && decide (hdrField h 0x0C 4 + 0x100 = length) && decide (hdrField h 0x24 28 = 0) &&
    decide (hdrField h 0xD0 48 = 0) &&
    (if type = 1 then decide (hdrField h 0x10 2 = 0) else decide (hdrField h 0x10 16 = 0))

/-- The reason of R466 for which an image is refused, the lowest first; a KEY above 3 has no boot ROM key. -/
def State.imageReason (s : State) (h : List Byte) (kernel : Bool) (id length : Nat) (sigOk digestOk : Bool) : Option Nat :=
  let key := hdrField h 0x07 1
  if !hdrForm h (if kernel then 2 else 1) id length then some 1
  else if key < 4 ∧ s.fuses.revoked.getLsbD key then some 2
  else if 4 ≤ key ∨ !sigOk then some 3
  else if !digestOk then some 4
  else if hdrField h 0x20 4 < (if kernel then s.fuses.rollKernel else s.fuses.rollFw) then some 5
  else none

/-! LOAD (R464, R467). -/

/-- A byte of the PF0 window as the device's copy takes it. -/
def State.windowByte (s : State) (off : Nat) : Byte :=
  let a := s.bar2Addr .pf0 off
  if s.readsZero .pf0 a then 0 else s.memByte a

/-- The header of the copy. -/
def State.copyHeader (s : State) (off : Nat) : List Byte := (List.range 256).map fun i => s.windowByte (off + i)

/-- R464: the offset is aligned and the image lies in the window; the length is at most `limit`. -/
def checkStage (limit : Nat) (ws : List Word) : Option Refuse :=
  let off := (ws.getD 0 0).toNat
  let len := (ws.getD 1 0).toNat
  if off % 4096 = 0 ∧ off + len ≤ bar2Size .pf0 ∧ off < bar2Size .pf0 ∧ len ≤ limit then none
  else some { code := cResource, detail := 1 }

/-- The image that a LOAD names, on its copy. -/
def State.stage (s : State) (m : Sentence) (ws : List Word) (pane : Bool) : Image :=
  { ticket := some (ticketOf m), check := m.check, id := m.inst.toNat, pane := pane.toNat, length := (ws.getD 1 0).toNat
    hdr := s.copyHeader (ws.getD 0 0).toNat }

def checkLoadKernel (_ : State) (_ : Sentence) (ws : List Word) : Option Refuse := checkStage 0x100000 ws

def actLoadKernel (s : State) (m : Sentence) (ws : List Word) : State × Reply :=
  ({ s with hinge := { s.hinge with load := s.hinge.load ++ [s.stage m ws false] } }, .accepted [])

def specLoadSeaKernel : CmdSpec :=
  { verb := vLoad, noun := nSeaKernel, feats := [fKernelLoad], inst := .kernel, form := .fixed [8], modes := .notShutter }
def procLoadSeaKernel : Sentence → State → State := process specLoadSeaKernel checkLoadKernel actLoadKernel noEcho
def execLoadSeaKernel (m : Sentence) (s : State) : Host.Outcome State Fault Refusal :=
  .next (submit vLoad nSeaKernel procLoadSeaKernel m s)

/-- The pane that a firmware LOAD writes: the inactive one; in START_FAILED one that is not valid (R467, R660). -/
def State.loadPane (s : State) : Option Bool :=
  let inactive := !s.activePane
  if s.dev.mode = .startFailed then [inactive, !inactive].find? fun b => !(s.fw.pane b).valid else some inactive

/-- R464, R467: no pane switch and no other firmware LOAD is in progress. -/
def checkLoadFw (s : State) (_ : Sentence) (ws : List Word) : Option Refuse :=
  (checkStage 0x1000000 ws).or
    (if s.fw.sw ≠ 0 ∨ s.fw.load.isSome ∨ s.loadPane.isNone then some { code := cResource, detail := 2 } else none)

def actLoadFw (s : State) (m : Sentence) (ws : List Word) : State × Reply :=
  (s.modFw fun x => { x with load := some (s.stage m ws (s.loadPane.getD false)) }, .accepted [])

def specLoadFwImage : CmdSpec :=
  { verb := vLoad, noun := nFwImage, feats := [fFwLoad], inst := .zero, form := .fixed [8], modes := .notShutter
    startFailed := true, recovery := true }
def procLoadFwImage : Sentence → State → State := process specLoadFwImage checkLoadFw actLoadFw noEcho
def execLoadFwImage (m : Sentence) (s : State) : Host.Outcome State Fault Refusal :=
  .next (submit vLoad nFwImage procLoadFwImage m s)

/-! The asynchronous part (R137, R466, R467). -/

/-- A lane runs a version of a kernel, or brings it up in a swap. Lanes of started ports at tier 0 run PASS, lanes with adaptation
engines ADAPT; the transom engines run KEEPER for every lane. -/
def State.runsVersion (s : State) (k : Nat) (v : Word) : Bool :=
  (List.range s.lines).any fun l =>
    let x := (s.lineAt l).sea
    (s.startedLanes.contains l && kernelOf x.tier == k && x.version == v.toNat) ||
      (k == 0x80 && !(s.adaptOf l).isEmpty && s.versionOf l 0x80 == v.toNat) ||
      (k == 0x81 && s.hinge.started && (s.kernAt k).own == v) ||
      (match x.swap with | none => false | some w => kernelOf w.tier == k && w.version == v.toNat)

/-- A verified image enters the catalogue: it replaces the older of two versions (R137). -/
def State.enterKernel (s : State) (i : Image) : State :=
  let v := hdrVersion i.hdr
  let k := s.kernAt i.id
  let old := k.vers.headD 0
  if 2 ≤ k.vers.length ∧ s.runsVersion i.id old then s.finishOpt i.ticket cResource 2 .device
  else
    let vers := if 2 ≤ k.vers.length then k.vers.drop 1 ++ [v] else k.vers ++ [v]
    let s1 := { s with hinge := { s.hinge with kern := tset s.hinge.kern (fun _ => {}) (s.kernKey i.id) { k with vers := vers } } }
    (s1.finishOpt i.ticket cDone 0 .device).raise evSeaKernelLoaded [Word.nat i.id, v]

/-- The checks of a kernel image end. -/
def State.kernelChecked (s : State) (sigOk digestOk : Bool) : State :=
  match s.hinge.load with
  | [] => s
  | i :: rest =>
    let s1 := { s with hinge := { s.hinge with load := rest } }
    match s.imageReason i.hdr true i.id i.length sigOk digestOk with
    | some r => s1.finishOpt i.ticket cAuth r .device
    | none => if i.check then s1.finishOpt i.ticket cDone 0 .device else s1.enterKernel i

/-- The checks of a firmware image end; its pane holds no valid image while it is written. -/
def State.paneChecked (s : State) (sigOk digestOk : Bool) : State :=
  match s.fw.load with
  | none => s
  | some i =>
    if i.checked then s
    else
      let s1 := s.modFw fun x => { x with load := none }
      match s.imageReason i.hdr false 0 i.length sigOk digestOk with
      | some r => s1.finishOpt i.ticket cAuth r .device
      | none =>
        if i.check then s1.finishOpt i.ticket cDone 0 .device
        else
          let b := i.pane == 1
          s.modFw fun x => ({ x with load := some { i with checked := true } }).setPane b { x.pane b with valid := false }

/-- R466, R745. -/
def execImageCheckDone (kernel sigOk digestOk : Bool) (s : State) : Host.Outcome State Fault Refusal :=
  .next (if s.eventsHeld then s else if kernel then s.kernelChecked sigOk digestOk else s.paneChecked sigOk digestOk)

/-- R467: the pane has been written and read back; its catalogue is its own again (R134). Which test sets a new pane holds is open. -/
def State.paneWritten (s : State) (i : Image) (ok : Bool) : State :=
  let b := i.pane == 1
  let p : Pane := { valid := ok, version := hdrVersion i.hdr, features := hdrFeatures i.hdr, testSets := s.freeVal.setWidth 8
                    hdr := i.hdr }
  let s0 := { s with hinge := { s.hinge with kern := s.hinge.kern.filter fun k => k.1 / 256 ≠ b.toNat } }
  let s1 := s0.freeNext.modFw fun x => ({ x with load := none }).setPane b p
  if ok then s1.finishOpt i.ticket cDone 0 .device else s1.finishOpt i.ticket cResource 2 .device

def execFwImageWritten (ok : Bool) (s : State) : Host.Outcome State Fault Refusal :=
  .next (
    match s.fw.load with
    | none => s
    | some i => if i.checked then s.paneWritten i ok else s)

/-! The GET rows. -/

/-- The 64 words of the header, validity, active flag. -/
def State.imageWords (s : State) (n : Nat) : List Word :=
  let p := s.fw.pane (n == 1)
  (List.range 64).map (fun k => Word.nat (hdrField p.hdr (4 * k) 4)) ++ [Word.flag p.valid, Word.flag (s.activePane == (n == 1))]

def specGetFwImage : CmdSpec :=
  { verb := vGet, noun := nFwImage, inst := .pane, form := .fixed [0], modes := .any, startFailed := true, recovery := true }
def procGetFwImage : Sentence → State → State := process specGetFwImage noCheck (getAct State.imageWords) noEcho
def execGetFwImage (m : Sentence) (s : State) : Host.Outcome State Fault Refusal :=
  .next (submit vGet nFwImage procGetFwImage m s)

/-- Active pane; validity and version of Pane A and of Pane B; a switch is in progress. -/
def State.paneWords (s : State) : List Word :=
  [Word.flag s.activePane, Word.flag s.fw.a.valid, s.fw.a.version, Word.flag s.fw.b.valid, s.fw.b.version,
   Word.flag (s.fw.sw ≠ 0)]

def specGetFwPane : CmdSpec :=
  { verb := vGet, noun := nFwPane, inst := .zero, form := .fixed [0], modes := .any, startFailed := true }
def procGetFwPane : Sentence → State → State := process specGetFwPane noCheck (getAct fun s _ => s.paneWords) noEcho
def execGetFwPane (m : Sentence) (s : State) : Host.Outcome State Fault Refusal :=
  .next (submit vGet nFwPane procGetFwPane m s)

/-! SWITCH (R657 to R660). -/

/-- Every accepted bit is published by a pane (R462). -/
def State.covers (s : State) (p : Pane) : Bool :=
  let hi := s.dev.accepted.toNat / 65536
  hi &&& (p.features.toNat &&& publishable s.fuses.part) == hi

/-- R657, R660: another pane than the active one, valid, publishing every accepted bit; no switch or firmware LOAD in
progress. In START_FAILED either valid pane. -/
def checkSwitch (s : State) (_ : Sentence) (ws : List Word) : Option Refuse :=
  let n := (ws.getD 0 0).toNat
  let b := n == 1
  if 1 < n ∨ (s.dev.mode ≠ .startFailed ∧ b = s.activePane) then some { code := cResource, detail := 1 }
  else if (s.fw.pane b).valid ∧ s.covers (s.fw.pane b) ∧ s.fw.sw = 0 ∧ s.fw.load.isNone then none
  else some { code := cResource, detail := 2 }

/-- Step 1 begins; or start-up runs again from step 5 with the named pane (R660). -/
def actSwitch (s : State) (m : Sentence) (ws : List Word) : State × Reply :=
  let s1 := s.modFw fun x => { x with swTarget := decide ((ws.getD 0 0).toNat = 1), ticket := some (ticketOf m), since := s.tku.bcnt }
  if s.dev.mode = .startFailed then
    let s2 := s1.setMode .starting tRestart
    ({ s2 with dev := { s2.dev with step := 5, error := 0, isOpen := false }, fw := { s2.fw with tried := false } }, .accepted [])
  else (s1.modFw fun x => { x with sw := 1 }, .accepted [])

def specSwitchFwPane : CmdSpec :=
  { verb := vSwitch, noun := nFwPane, feats := [fFwLoad], inst := .zero, form := .fixed [4], modes := .notShutter
    startFailed := true, recovery := true }
def procSwitchFwPane : Sentence → State → State := process specSwitchFwPane checkSwitch actSwitch noEcho
def execSwitchFwPane (m : Sentence) (s : State) : Host.Outcome State Fault Refusal :=
  .next (submit vSwitch nFwPane procSwitchFwPane m s)

/-- A switch fails at a step: the old pane goes on, CMD_DONE carries RESOURCE (R659). -/
def State.switchFail (s : State) : State :=
  let s1 := s.modFw fun x => { x with sw := 0, ticket := none }
  (((s1.finishOpt s.fw.ticket cResource 2 .device).raise evFwSwitchFailed
    [Word.flag s.fw.swTarget, Word.nat s.fw.sw]).errAll 6).settle

/-- Steps 1 and 2: the target is loaded and its signature checked again; the old firmware stops beginning commands. The
time of step 2 is kept for the handover time. -/
def execPaneLoaded (ok : Bool) (s : State) : Host.Outcome State Fault Refusal :=
  .next (
    if s.fw.sw = 1 then (if ok then s.modFw fun x => { x with sw := 2, since := s.tku.bcnt } else s.switchFail) else s)

/-- Step 3. -/
def execFirmwareStateSaved (s : State) : Host.Outcome State Fault Refusal :=
  .next (if s.fw.sw = 2 then s.modFw fun x => { x with sw := 3 } else s)

/-- Step 5: the target is marked active in boot flash, ID_FW_VERSION and ID_FW_PANE change (R727). -/
def State.markActive (s : State) : State :=
  let b := s.fw.swTarget
  let s1 := s.modFw fun x => { x with
    active := b, selGen := x.selGen + 1, shown := b, verShown := (x.pane b).version, sw := 0, ticket := none }
  (s1.finishOpt s.fw.ticket cDone 0 .device).raise evFwSwitchDone
    ([Word.flag s.fw.shown, Word.flag b, s.fw.verShown, (s.fw.pane b).version] ++ field32 s.fw.since.toNat)

def execPaneMarkedActive (s : State) : Host.Outcome State Fault Refusal :=
  .next (if s.fw.sw = 4 then s.markActive else s)

end Sys2Proof.Machine
end

