-- ==== Sys2Proof/Machine/Modes.lean ====
section
/-! DEFINITION. The mode commands (R417 to R423, R438), feature negotiation (R426, R462), the event queue's RECEIVE (R458, R459),
the mailbox statistics (R457) and PF1's grant (R463, R683). -/

namespace Sys2Proof.Machine

/-! GET on DEV_MODE (R430, R437, R438). -/

/-- Steps of the Shutter as ID_MODE numbers them; the hold follows step 3. -/
def ShutStep.num : ShutStep → Nat
  | .none => 1
  | .flush => 2
  | .save => 3
  | .hold => 3
  | .bist => 4
  | .power => 5
  | .complete => 5

/-- STEP of ID_MODE (R430). -/
def State.stepNum (s : State) : Nat :=
  match s.dev.mode with
  | .starting | .startFailed => s.dev.step
  | .shutter => s.shut.step.num
  | _ => 0

/-- The triggers in the order of R431. -/
def Trigger.num : Trigger → Nat
  | .commanded => 0
  | .undervoltage => 1
  | .thermal => 2

/-- The fields of ID_MODE, one word each. -/
def State.modeWords (s : State) : List Word :=
  [Word.nat s.dev.mode.num, Word.nat s.stepNum, Word.nat s.dev.error, Word.nat s.dev.guard.toNat, Word.flag s.dev.repairIgnored,
   Word.flag s.dev.negotiated, Word.flag s.dev.refclk]

/-- The Shutter record in the order of R437: trigger, broken sensors, BCNT, view, begin and end of steps 1 to 3, the time of
step 5, completion of steps 1 to 3, Lexicon and counter sequence numbers, GUARD_CAUSE. -/
def ShutRec.words (r : ShutRec) : List Word :=
  [Word.nat r.trigger.num, Word.flag r.broken] ++ words64 r.bcnt.toNat ++ [r.view] ++
    ([0, 1, 2].flatMap fun k => words64 (r.began.getD k 0).toNat ++ words64 (r.ended.getD k 0).toNat) ++
    words64 r.step5At.toNat ++ ([0, 1, 2].map fun k => Word.flag (r.completed.getD k false)) ++ words64 r.lexSeq ++
    words64 r.pmcSeq ++ [Word.nat r.guard.toNat]

/-- Mode fields, set times of the ten causes, and the last Shutter record with a word that says whether there is one. -/
def State.devModeWords (s : State) : List Word :=
  s.modeWords ++ ((List.range 10).flatMap fun b => words64 (tget s.dev.guardSince (fun _ => 0) b).toNat) ++
    (match s.shut.last with
      | none => Word.flag false :: (ShutRec.words {})
      | some r => Word.flag true :: r.words)

def specGetDevMode : CmdSpec :=
  { verb := vGet, noun := nDevMode, inst := .zero, form := .fixed [0], modes := .any, startFailed := true }
def procGetDevMode : Sentence → State → State := process specGetDevMode noCheck (getAct fun s _ => s.devModeWords) noEcho
def execGetDevMode (m : Sentence) (s : State) : Host.Outcome State Fault Refusal :=
  .next (submit vGet nDevMode procGetDevMode m s)

/-! ENTER on DEV_MODE (R414, R417, R419, R420). -/

/-- The targets in the order of R438. -/
def enterTarget (n : Nat) : Mode := if n = 0 then .dormant else if n = 1 then .provisioned else .workshop

/-- R417 has a transition by ENTER between the modes. -/
def enterLegal (a b : Mode) : Bool :=
  match a, b with
  | .dormant, .provisioned | .dormant, .workshop => true
  | .provisioned, .workshop | .provisioned, .dormant => true
  | .workshop, .provisioned | .workshop, .dormant => true
  | _, _ => false

/-- R419, R439: refused in SERVICE and GUARDED, where R417 has no transition, and while a port is in ACQUIRE, UP or FAULT. -/
def checkEnter (s : State) (_ : Sentence) (ws : List Word) : Option Refuse :=
  let n := (ws.getD 0 0).toNat
  if s.dev.mode = .service ∨ s.dev.mode = .guarded then some { code := cStateRefused, detail := 1 }
  else if 2 < n then some { code := cResource, detail := 1 }
  else if !enterLegal s.dev.mode (enterTarget n) then some { code := cStateRefused, detail := 1 }
  else if n ≠ 1 ∧ !s.allPorts (fun p => p = .stopped || p = .test) then some { code := cStateRefused, detail := 2 }
  else none

/-- The datapath powers down on entry to DORMANT: a final dump pass, engines released, optics to their idle codes (R415,
R417, R420). -/
def State.datapathOff (s : State) : State :=
  let s1 := if s.dev.powered && s.unitOn fLex then s.startPass false false [] else s
  let s2 := (List.range s1.lines).foldl (fun s l => (s.pltTruncate l).pltDiscard l) s1
  let s3 := s2.stopHinge.vcoreIdle
  ({ s3 with dev := { s3.dev with powered := false } }).axIdleAll

/-- The trigger word of a transition by ENTER. -/
def enterTrigger (a b : Mode) : Nat :=
  match a, b with
  | .dormant, .workshop => tWorkshopD
  | .dormant, _ => tPower
  | .provisioned, .workshop => tWorkshopP
  | .provisioned, _ => tDormant
  | _, _ => tLeaveWorkshop

/-- The mode changes at once; the command completes when the datapath is powered (R414). An ENTER that still waits for
another mode ends. -/
def actEnter (s : State) (m : Sentence) (ws : List Word) : State × Reply :=
  let t := enterTarget (ws.getD 0 0).toNat
  let s1 := (if s.dev.mode = .workshop then s.leaveTests else s).endEnter cStateRefused 1
  let s2 := s1.setMode t (enterTrigger s.dev.mode t)
  let s3 := if t = .dormant then s2.datapathOff else s2
  if t = .dormant ∨ s3.dev.powered then (s3.follow, okDone)
  else (({ s3 with dev := { s3.dev with enterWait := [m] } }).follow, .wait)

def specEnterDevMode : CmdSpec := { verb := vEnter, noun := nDevMode, inst := .zero, form := .fixed [4], modes := .enter }
def procEnterDevMode : Sentence → State → State := process specEnterDevMode checkEnter actEnter noEcho
def execEnterDevMode (m : Sentence) (s : State) : Host.Outcome State Fault Refusal :=
  .next (submit vEnter nDevMode procEnterDevMode m s)

/-! SHUTTER (R431, R438). -/

/-- Hold 0 s to 60 s, BIST RUN or SKIP; both have defaults. -/
def checkShutter (_ : State) (_ : Sentence) (ws : List Word) : Option Refuse :=
  if (ws.getD 0 0).toNat ≤ 60 ∧ (ws.getD 1 0).toNat ≤ 1 then none else some { code := cResource, detail := 1 }

def actShutter (s : State) (m : Sentence) (ws : List Word) : State × Reply :=
  (s.shutStart .commanded false (ws.getD 0 0).toNat (decide ((ws.getD 1 0).toNat = 1)) (some (ticketOf m)), .accepted [])

def specShutterDevMode : CmdSpec := { verb := vShutter, noun := nDevMode, inst := .zero, form := .fixed [0, 8], modes := .notShutter }
def procShutterDevMode : Sentence → State → State := process specShutterDevMode checkShutter actShutter noEcho
def execShutterDevMode (m : Sentence) (s : State) : Host.Outcome State Fault Refusal :=
  .next (submit vShutter nDevMode procShutterDevMode m s)

/-! LANE_TEST (R421 to R423, R438): instances from 16 on are host lanes. -/

/-- The state of the lane that an instance names. -/
def State.testLane (s : State) (i : Nat) : LaneState := if i < 16 then (s.lineAt i).state else (s.hostAt (i - 16)).state

/-- The lane is DOWN, and the datapath powered: until then every lane stays DOWN (R414). -/
def checkEnterTest (s : State) (m : Sentence) (_ : List Word) : Option Refuse :=
  if !s.dev.powered then some { code := cStateRefused, detail := 1 }
  else if s.testLane m.inst.toNat = .down then none
  else some { code := cStateRefused, detail := 2 }

/-- The lane enters TEST; a line lane's symbol count and its hunt start anew (R202, R421). -/
def actEnterTest (s : State) (m : Sentence) (_ : List Word) : State × Reply :=
  let i := m.inst.toNat
  let s1 :=
    if i < 16 then
      (s.modLine i fun x => { x with
        state := .test, lrx := { x.lrx with disturbed := false }
        sdf := { x.sdf with prev := none, countFrom := s.tku.bcnt } }).huntStart i
    else s.modHost (i - 16) fun x => { x with state := .test }
  (s1.testPorts.follow, okDone)

def specEnterLaneTest : CmdSpec := { verb := vEnter, noun := nLaneTest, inst := .laneTest, form := .fixed [0], modes := .workshop }
def procEnterLaneTest : Sentence → State → State := process specEnterLaneTest checkEnterTest actEnterTest noEcho
def execEnterLaneTest (m : Sentence) (s : State) : Host.Outcome State Fault Refusal :=
  .next (submit vEnter nLaneTest procEnterLaneTest m s)

def checkLeaveTest (s : State) (m : Sentence) (_ : List Word) : Option Refuse :=
  if s.testLane m.inst.toNat = .test then none else some { code := cStateRefused, detail := 2 }

def actLeaveTest (s : State) (m : Sentence) (_ : List Word) : State × Reply :=
  let i := m.inst.toNat
  ((if i < 16 then s.lineLeaves i else s.hostLeaves (i - 16)).testPorts.follow, okDone)

def specLeaveLaneTest : CmdSpec := { verb := vLeave, noun := nLaneTest, inst := .laneTest, form := .fixed [0], modes := .workshop }
def procLeaveLaneTest : Sentence → State → State := process specLeaveLaneTest checkLeaveTest actLeaveTest noEcho
def execLeaveLaneTest (m : Sentence) (s : State) : Host.Outcome State Fault Refusal :=
  .next (submit vLeave nLaneTest procLeaveLaneTest m s)

/-! DEV_FEATURE (R426, R462). -/

/-- The four words of a 128-bit word, bits [31:0] first. -/
def words128 (v : BitVec 128) : List Word := (List.range 4).map fun k => Word.nat (v.toNat / 2 ^ (32 * k))

/-- Published word, accepted word, NEGOTIATED; in START_FAILED the published word is the fuse map's presence bits (R428). -/
def State.featureWords (s : State) : List Word :=
  words128 (if s.dev.mode = .startFailed then BitVec.ofNat 128 (presence s.fuses.part) else s.feature) ++
    words128 s.dev.accepted ++ [Word.flag s.dev.negotiated]

def specGetDevFeature : CmdSpec :=
  { verb := vGet, noun := nDevFeature, inst := .zero, form := .fixed [0], modes := .any, startFailed := true }
def procGetDevFeature : Sentence → State → State := process specGetDevFeature noCheck (getAct fun s _ => s.featureWords) noEcho
def execGetDevFeature (m : Sentence) (s : State) : Host.Outcome State Fault Refusal :=
  .next (submit vGet nDevFeature procGetDevFeature m s)

/-- The word that a payload asks for. -/
def askedFeatures (ws : List Word) : BitVec 128 :=
  BitVec.ofNat 128 (((List.range 4).map fun k => (ws.getD k 0).toNat * 2 ^ (32 * k)).sum)

/-- R426: the first negotiation binds. R462: a bit that reads 0 is NOT_PRESENT. -/
def checkNegotiate (s : State) (_ : Sentence) (ws : List Word) : Option Refuse :=
  if s.dev.negotiated then some { code := cStateRefused, detail := 3 }
  else if askedFeatures ws &&& s.feature = askedFeatures ws then none
  else some { code := cNotPresent }

def actNegotiate (s : State) (_ : Sentence) (ws : List Word) : State × Reply :=
  let w := askedFeatures ws
  (({ s with dev := { s.dev with accepted := w, negotiated := true } }).follow, okWords (words128 w))

def specNegotiateDevFeature : CmdSpec :=
  { verb := vNegotiate, noun := nDevFeature, inst := .zero, form := .fixed [16], modes := .dormant }
def procNegotiateDevFeature : Sentence → State → State := process specNegotiateDevFeature checkNegotiate actNegotiate noEcho
def execNegotiateDevFeature (m : Sentence) (s : State) : Host.Outcome State Fault Refusal :=
  .next (submit vNegotiate nDevFeature procNegotiateDevFeature m s)

/-! RECEIVE on DEV_EVENT (R458, R459). -/

/-- The 64 bytes of a record. -/
def EvRec.words (e : EvRec) : List Word :=
  [Word.nat (e.code + e.flags.toNat * 65536)] ++ words64 e.bcnt.toNat ++ [e.qseq] ++ (List.range 12).map fun k => e.data.getD k 0

def checkReceiveEvent (_ : State) (_ : Sentence) (ws : List Word) : Option Refuse :=
  let n := (ws.getD 0 0).toNat
  if 1 ≤ n ∧ n ≤ 62 then none else some { code := cResource, detail := 1 }

/-- The oldest records leave the requester's queue; EVT_LOST follows once there is space. -/
def actReceiveEvent (s : State) (m : Sentence) (ws : List Word) : State × Reply :=
  let q := s.queueAt m.req
  let out := q.recs.take (ws.getD 0 0).toNat
  let rest := q.recs.drop out.length
  let s1 := (s.modQueue m.req fun x => { x with recs := x.recs.drop out.length }).flushLost m.req
  (s1.settleIcuOf m.req,
   okWords ([Word.nat out.length, Word.nat rest.length, Word.nat q.lost, 0] ++ out.flatMap EvRec.words))

def specReceiveDevEvent : CmdSpec := { verb := vReceive, noun := nDevEvent, inst := .zero, form := .fixed [4], modes := .any }
def procReceiveDevEvent : Sentence → State → State := process specReceiveDevEvent checkReceiveEvent actReceiveEvent noEcho
def execReceiveDevEvent (m : Sentence) (s : State) : Host.Outcome State Fault Refusal :=
  .next (submit vReceive nDevEvent procReceiveDevEvent m s)

/-! MBX_STATS (R444, R457). -/

/-- The status codes in the order of R454. -/
def statusCodes : List Nat :=
  [cDone, cAccepted, cBadVerb, cBadNoun, cBadInstance, cBadLength, cStateRefused, cResource, cNotPresent, cNotNegotiated, cAuth,
   cPermission, cYielded]

/-- The mailboxes of a requester (R441). -/
def mailboxes (r : Requester) : Nat := if r = .mgt then 2 else 16

/-- Replies per status code, then discarded writes and RINGs per mailbox: the requester's own. -/
def State.mbxWords (s : State) (r : Requester) : List Word :=
  (statusCodes.flatMap fun c => words64 (tget s.mb.counts (fun _ => 0) (256 * r.num + c))) ++
    (List.range (mailboxes r)).flatMap fun n => words64 (tget s.mb.discards (fun _ => 0) (boxKey r n))

def actGetMbxStats (s : State) (m : Sentence) (_ : List Word) : State × Reply := (s, okWords (s.mbxWords m.req))

def specGetMbxStats : CmdSpec := { verb := vGet, noun := nMbxStats, inst := .zero, form := .fixed [0], modes := .any }
def procGetMbxStats : Sentence → State → State := process specGetMbxStats noCheck actGetMbxStats noEcho
def execGetMbxStats (m : Sentence) (s : State) : Host.Outcome State Fault Refusal :=
  .next (submit vGet nMbxStats procGetMbxStats m s)

def actClearMbxStats (s : State) (m : Sentence) (_ : List Word) : State × Reply :=
  ({ s with mb := { s.mb with
      counts := s.mb.counts.filter fun p => p.1 / 256 ≠ m.req.num
      discards := s.mb.discards.filter fun p => p.1 / 16 ≠ m.req.num } }, okDone)

def specClearMbxStats : CmdSpec := { verb := vClear, noun := nMbxStats, inst := .zero, form := .fixed [0], modes := .notShutter }
def procClearMbxStats : Sentence → State → State := process specClearMbxStats noCheck actClearMbxStats noEcho
def execClearMbxStats (m : Sentence) (s : State) : Host.Outcome State Fault Refusal :=
  .next (submit vClear nMbxStats procClearMbxStats m s)

/-! PF1_GRANT (R463, R683). -/

def State.setGrant (s : State) (g : Bool) : State := { s with dev := { s.dev with grant := g } }

def specGrantPf1Grant : CmdSpec := { verb := vGrant, noun := nPf1Grant, inst := .zero, form := .fixed [0], modes := .notShutter }
def procGrantPf1Grant : Sentence → State → State :=
  process specGrantPf1Grant noCheck (fun s _ _ => (s.setGrant true, okDone)) noEcho
def execGrantPf1Grant (m : Sentence) (s : State) : Host.Outcome State Fault Refusal :=
  .next (submit vGrant nPf1Grant procGrantPf1Grant m s)

/-- REVOKE removes sources 1 and 2 from every channel of PF1, with what they still had to push. -/
def State.revoke (s : State) : State :=
  let own := (List.range 4).filter fun c => (s.dmaAt c).owner = .pf1
  let s1 := own.foldl (fun s c => s.modDma c fun d => { d with sources := d.sources &&& 0x39 }) (s.setGrant false)
  s1.modHif fun x => { x with ready := x.ready.filter fun q => !(own.contains q.ch && (q.src == 1 || q.src == 2)) }

def specRevokePf1Grant : CmdSpec := { verb := vRevoke, noun := nPf1Grant, inst := .zero, form := .fixed [0], modes := .notShutter }
def procRevokePf1Grant : Sentence → State → State := process specRevokePf1Grant noCheck (fun s _ _ => (s.revoke, okDone)) noEcho
def execRevokePf1Grant (m : Sentence) (s : State) : Host.Outcome State Fault Refusal :=
  .next (submit vRevoke nPf1Grant procRevokePf1Grant m s)

def specGetPf1Grant : CmdSpec := { verb := vGet, noun := nPf1Grant, inst := .zero, form := .fixed [0], modes := .any }
def procGetPf1Grant : Sentence → State → State := process specGetPf1Grant noCheck (getAct fun s _ => [Word.flag s.dev.grant]) noEcho
def execGetPf1Grant (m : Sentence) (s : State) : Host.Outcome State Fault Refusal :=
  .next (submit vGet nPf1Grant procGetPf1Grant m s)

end Sys2Proof.Machine
end

