-- ==== Sys2Proof/Machine/Optics.lean ====
section
/-! DEFINITION. Optics control (R556 to R583): ramps, core faults and handovers, monitor samples and thresholds, loops, and the OCU
nouns. -/

namespace Sys2Proof.Machine

/-! Ramps. -/

/-- R561, R580: a move of a channel's ramp. -/
def execAxRampUpdate (c : Nat) (s : State) : Host.Outcome State Fault Refusal :=
  .next (
    if c ≤ 32 ∧ s.dev.refclk ∧ !(s.axAt c).failed then
      let slew := s.param nOcuAx c axSlew
      (s.modAx c fun x =>
        if slew = offWord then { x with code := x.target, frac := 0 } else x.ramp slew.toNat).opticsCheck
    else s)

/-! The spare core (R564 to R566). -/

/-- Core 32 can take over a faulty channel's output stage, from a calibration if need be (R58, R565). -/
def State.spareCore (s : State) : Bool :=
  !s.ocu.c32Lasting && (s.axAt 32).coreHealth = .ok &&
    match s.ocu.c32 with
    | none => true
    | some d => decide ((s.axAt d).hand ≠ 0)

/-- A calibration that holds core 32 gives way. -/
def State.freeCore32 (s : State) : State :=
  let s1 := if s.ocu.c32Cal then s.calAbandon 64 abFault else s
  match s1.ocu.c32 with
  | none => s1
  | some d => if (s1.axAt d).hand ≠ 0 then s1.calAbandon (32 + d) abFault else s1

/-- A core goes to targeted self-test. -/
def State.coreToTest (s : State) (c : Nat) : State := (s.modAx c fun x => { x with coreHealth := .test }).report .axCore c 0 srcTest

/-- The core of channel `c` fails: core 32 takes its output stage, or the channel becomes FAILED and holds. -/
def State.coreFault (s : State) (c cause : Nat) : State :=
  if s.spareCore then
    let s1 := s.freeCore32
    let s2 := (s1.modAx c fun x => { x with core := some 32 }).modAx 32 fun x => { x with code := 0, target := 0 }
    let s3 := { s2 with ocu := { s2.ocu with c32 := some c } }
    ((s3.raise evOcuCoreSubst [Word.nat c, Word.nat cause]).bump gAx c 2).coreToTest c
  else ((s.modAx c fun x => { x with held := true }).axFail c).coreToTest c

/-- Core 32 fails: a channel that it serves for a calibration returns to its own core, one that it serves for a fault holds and
is FAILED. -/
def State.core32Fault (s : State) : State :=
  (match s.ocu.c32 with
    | none => if s.ocu.c32Cal then s.calAbandon 64 abFault else s
    | some d =>
      if (s.axAt d).hand ≠ 0 then s.calAbandon (32 + d) abFault
      else (s.modAx d fun x => { x with held := true }).axFail d).coreToTest 32

/-- R565, R566: a fault of the core that serves channel `c`. -/
def execAxCoreFault (c cause : Nat) (s : State) : Host.Outcome State Fault Refusal :=
  .next (
    if c ≤ 32 ∧ s.dev.refclk then
      if c = 32 ∨ (s.axAt c).core = some 32 then
        (if (s.axAt 32).coreHealth = .ok then s.core32Fault.follow else s)
      else if (s.axAt c).coreHealth = .ok then (s.coreFault c cause).follow
      else s
    else s)

/-- R566: the output stage switches off. -/
def execAxOutputStageFailure (c : Nat) (s : State) : Host.Outcome State Fault Refusal :=
  .next (
    if c ≤ 32 ∧ !(s.axAt c).stageOff then
      let s1 := s.modAx c fun x => { x with stageOff := true }
      (if (s.axAt c).failed then s1 else s1.axFail c).follow
    else s)

/-- R564: steps 2 and 4 switch the output stage. -/
def execHandoverSwitch (c : Nat) (s : State) : Host.Outcome State Fault Refusal :=
  .next (
    if c < 32 ∧ (s.calAt (32 + c)).running then
      if (s.axAt c).hand = 1 then
        (s.modAx c fun x => { x with hand := 3, core := some 32 }).modCal (32 + c) fun y => { y with pair := 0, pairs := [] }
      else if (s.axAt c).hand = 4 then
        let s1 := s.modAx c fun x => { x with hand := 0, core := none }
        (({ s1 with ocu := { s1.ocu with c32 := none } }).calFinish (32 + c)).follow
      else s
    else s)

/-- R564 step 3 ends; core 32 calibrates itself in a run of its own block. -/
def execCoreCalibrationDone (c : Nat) (s : State) : Host.Outcome State Fault Refusal :=
  .next (
    if (s.calAt (32 + c)).running ∧ 3 ≤ (s.calAt (32 + c)).pair then
      if c = 32 then (({ s with ocu := { s.ocu with c32Cal := false } }).calFinish 64).follow
      else if c < 32 ∧ (s.axAt c).hand = 3 then s.modAx c fun x => { x with hand := 4 }
      else s
    else s)

/-! Monitor samples and thresholds (R567 to R575). -/

/-- The converter runs (R571). -/
def State.monOn (s : State) : Bool := s.dev.refclk && s.dev.mode ≠ .starting && s.dev.mode ≠ .startFailed

/-- P in microseconds (R568). -/
def State.monP (s : State) (c : Nat) : Nat := s.parN nOcuMn c 0

/-- The number of the output sample that is delivered now: sample n is delivered 2.112 ms + 4 P after BCNT n x 625 x P, and
numbers rise (R568, R569). -/
def State.monIndex (s : State) (c : Nat) : Nat :=
  max (s.mnAt c).n ((s.tku.bcnt.toNat - 1320000 - 2500 * s.monP c) / max 1 (625 * s.monP c))

/-- One sample's effect on a threshold (R572): asserts after `dwell` consecutive samples that `above` holds of, clears after
`dwell` that `back` holds of. -/
def Thr.next (t : Thr) (dwell : Nat) (above back : Bool) : Thr :=
  let hit := if t.on then back else above
  if hit then (if dwell ≤ t.run + 1 then { on := !t.on, run := 0 } else { t with run := t.run + 1 }) else { t with run := 0 }

/-- Threshold `k` (0 HIGH, 1 LOW) of a channel takes sample `x` with index `n`. -/
def State.threshold (s : State) (c k n : Nat) (x : Int) : State :=
  let base := 3 + 4 * k
  let act := s.parN nOcuMn c (base + 3)
  if act = 0 then s
  else
    let lvl := s.parI nOcuMn c base
    let hyst := s.parI nOcuMn c (base + 1)
    let old := if k = 0 then (s.mnAt c).hi else (s.mnAt c).lo
    let new := if k = 0 then old.next (s.parN nOcuMn c (base + 2)) (decide (lvl < x)) (decide (x < lvl - hyst))
      else old.next (s.parN nOcuMn c (base + 2)) (decide (x < lvl)) (decide (lvl + hyst < x))
    let s1 := s.modMn c fun m => if k = 0 then { m with hi := new } else { m with lo := new }
    if new.on = old.on then s1
    else
      let s2 := s1.raise evOcuThreshold
        ([Word.nat c, Word.nat k, Word.flag (!new.on), Word.int x] ++ field32 (n * 625 * s.monP c) ++
          [Word.nat (if new.on then act else 1)])
      if new.on then
        let s3 := s2.bump gMn c (1 + k)
        let l := s.parN nOcuMn c 1
        if act = 2 ∧ l < s.lines then s3.squelch l true else s3
      else s2

/-- A channel's ring (R574). -/
def ringBase (c : Nat) : Nat := telMon + 0x40000 * c

/-- Writes a sample into its ring: the slot first, the header last (R574); 512 samples make a record to push (R575). -/
def State.monRecord (s : State) (c n x : Nat) (flags : BitVec 4) : State :=
  if s.parN nOcuMn c 2 = 0 then
    let w := (s.mnAt c).written + 1
    let s1 := s.modMn c fun m => { m with written := w, first := if w % 512 = 1 then n else m.first }
    let s2 := s1.telPut (ringBase c + 0x40 + 8 * (n % 32760)) (slot clsMon c flags (x + (n % 2 ^ 20) * 65536))
    let s3 := (s2.telPut (ringBase c + 8) (leBytes 4 (s.monP c) ++ leBytes 4 w)).telPut (ringBase c) (leBytes 8 n)
    if w % 512 = 0 then s3.dmaDue 3 (s3.mnAt c).first (telemetry + ringBase c + 0x40 + 8 * ((s3.mnAt c).first % 32760)) false false else s3
  else s

/-- R569 to R574: an output sample is delivered. How many input samples of its span were clipped is open. -/
def execMonitorOutputSample (c x : Nat) (sat : Bool) (s : State) : Host.Outcome State Fault Refusal :=
  .next (
    if s.monOn ∧ c < 64 then
      let n := s.monIndex c
      let flags := slotFlags false false (s.mnAt c).disc sat
      let s1 := s.modMn c fun m => { m with
        n := n + 1, last := x, lastFlags := flags, disc := false
        fresh := listWhere 32 fun i => (s.loopAt i).running && s.parN nOcuLoop i lpMn == c }
      let s2 := if sat then (s1.bumpBy gMn c 0 s1.freeVal.toNat).freeNext else s1
      ((s2.monRecord c n x flags).threshold c 0 n x).threshold c 1 n x
    else s)

/-! Loops (R576 to R578). -/

/-- The figures of one update: error, new u in 1/256 code and whether it was clamped. The first update after a start has no error
before it; a loop takes over without a bump (R562), so its own stands for it. -/
def loopStep (sense : Nat) (set x kp ki : Int) (ePrev : Option Int) (u lo hi : Int) : Int × Int × Bool :=
  let e := if sense = 0 then set - x else x - set
  let v := u + kp * (e - ePrev.getD e) + ki * e
  let w := max (256 * lo) (min (256 * hi) v)
  (e, w, decide (w ≠ v))

/-- The nearest code, halves up. -/
def roundCode (u : Int) : Int := (u + 128) / 256

/-- Settle band and excursions (R578). -/
def State.loopBand (s : State) (i : Nat) (e : Int) : State :=
  let x := s.loopAt i
  let band := s.parI nOcuLoop i lpBand
  let inside := decide ((e.natAbs : Int) ≤ band)
  let run := if inside then x.settle + 1 else 0
  let l := s.axLaneOf (s.loopAx i)
  let ready := decide (l < 8) && (s.lineAt l).optics = .ready
  let s1 := s.modLoop i fun y => { y with
    settle := run, inBand := decide (s.parN nOcuLoop i lpDwell ≤ run), outside := ready && !inside }
  if ready && !inside && !x.outside then (s1.bump gLoop i 2).raise evOcuLoopBand [Word.nat i, Word.int e] else s1

/-- R576, R577: the loop takes the last sample of its monitor channel. -/
def execLoopUpdate (i : Nat) (s : State) : Host.Outcome State Fault Refusal :=
  .next (
    let c := s.loopAx i
    let m := s.parN nOcuLoop i lpMn
    let y := s.mnAt m
    if i < 32 ∧ (s.loopAt i).running ∧ s.loopRuns i ∧ s.dev.refclk ∧ !s.eventsHeld ∧ y.fresh.contains i then
      let s1 := s.modMn m fun y => { y with fresh := y.fresh.erase i }
      if y.lastFlags.getLsbD 0 ∨ y.lastFlags.getLsbD 1 then s1.bump gLoop i 1
      else
        let r := loopStep (s.parN nOcuLoop i lpSense) (s.parI nOcuLoop i lpSet) y.last (s.parI nOcuLoop i lpKp)
          (s.parI nOcuLoop i lpKi) (s.loopAt i).ePrev (s.loopAt i).u (s.parI nOcuAx c axMin) (s.parI nOcuAx c axMax)
        let s2 := (s1.modLoop i fun x => { x with e := r.1, ePrev := some r.1, u := r.2.1 }).bump gLoop i 0
        let s3 := if r.2.2 then s2.bump gAx c 1 else s2
        (((s3.setTarget c (roundCode r.2.1).toNat).bump gAx c 0).loopBand i r.1).opticsCheck
    else s)

/-! The OCU nouns (R581). -/

/-- Parameters, core in use (the channel's number or 32), FAILED, run count and time of the last run. -/
def State.axWords (s : State) (c : Nat) : List Word :=
  s.paramSet nOcuAx c ++ [Word.nat ((s.axAt c).core.getD c), Word.flag (s.axAt c).failed] ++ s.lastRun (32 + c)

def specGetOcuAx : CmdSpec := { verb := vGet, noun := nOcuAx, inst := .ax, form := .fixed [0], modes := .any }
def procGetOcuAx : Sentence → State → State := process specGetOcuAx noCheck (getAct State.axWords) noEcho
def execGetOcuAx (m : Sentence) (s : State) : Host.Outcome State Fault Refusal :=
  .next (submit vGet nOcuAx procGetOcuAx m s)

/-- A lane parameter names a lane of the part or NONE. -/
def State.laneParamOk (s : State) (v : Nat) : Bool := decide (v < s.lines) || v == 8

/-- R559, R560. -/
def checkOcuAx (s : State) (m : Sentence) (ws : List Word) : Option Refuse :=
  let c := m.inst.toNat
  let sel := maskSelected nOcuAx ws
  let cs := maskChanges nOcuAx m ws
  let v (e : Nat) : Int := (changed s nOcuAx c e cs).toInt
  if (sel.contains 0 ∨ sel.contains 1) ∧ (s.axAt c).code ≠ 0 then some { code := cStateRefused, detail := 2 }
  else (maskRange nOcuAx m ws).or
    (if v axMax < v axMin ∨ ((s.axAt c).code : Int) < v axMin ∨ v axMax < (s.axAt c).code ∨ v axIdle < v axMin ∨
        v axMax < v axIdle ∨ !s.laneParamOk (v axLane).toNat then some { code := cResource, detail := 1 } else none)

def specSetOcuAx : CmdSpec := { verb := vSet, noun := nOcuAx, inst := .ax, form := .mask, modes := .notShutter }
def procSetOcuAx : Sentence → State → State :=
  process specSetOcuAx checkOcuAx (fun s m ws => ((setAct nOcuAx s m ws).1.opticsCheck, okDone)) (setEcho nOcuAx)
def execSetOcuAx (m : Sentence) (s : State) : Host.Outcome State Fault Refusal :=
  .next (submit vSet nOcuAx procSetOcuAx m s)

def specGetOcuCode : CmdSpec := { verb := vGet, noun := nOcuCode, inst := .ax, form := .fixed [0], modes := .any }
def procGetOcuCode : Sentence → State → State :=
  process specGetOcuCode noCheck
    (getAct fun s c => [Word.nat (s.axAt c).code, Word.nat (s.axAt c).target, Word.flag (!s.rampEnded c)]) noEcho
def execGetOcuCode (m : Sentence) (s : State) : Host.Outcome State Fault Refusal :=
  .next (submit vGet nOcuCode procGetOcuCode m s)

/-- R561, R563, R566. -/
def checkOcuCode (s : State) (m : Sentence) (ws : List Word) : Option Refuse :=
  let c := m.inst.toNat
  let v := (ws.getD 0 0).toInt
  if c = 32 ∧ s.dev.mode ≠ .workshop then some { code := cStateRefused, detail := 1 }
  else if (c = 32 ∧ !s.core32Idle) ∨ s.axLoop c ∨ (s.axAt c).failed then some { code := cStateRefused, detail := 2 }
  else if v < s.parI nOcuAx c axMin ∨ s.parI nOcuAx c axMax < v then some { code := cResource, detail := 1 }
  else none

def actOcuCode (s : State) (m : Sentence) (ws : List Word) : State × Reply :=
  let c := m.inst.toNat
  (((s.setTarget c (ws.getD 0 0).toNat).bump gAx c 0).opticsCheck, okDone)

def specSetOcuCode : CmdSpec := { verb := vSet, noun := nOcuCode, inst := .ax, form := .fixed [4], modes := .notShutter }
def procSetOcuCode : Sentence → State → State :=
  process specSetOcuCode checkOcuCode actOcuCode fun s c => [Word.nat (s.axAt c).target]
def execSetOcuCode (m : Sentence) (s : State) : Host.Outcome State Fault Refusal :=
  .next (submit vSet nOcuCode procSetOcuCode m s)

/-- Parameters, the states of HIGH and LOW, the last sample and its flags. -/
def State.mnWords (s : State) (c : Nat) : List Word :=
  let x := s.mnAt c
  s.paramSet nOcuMn c ++ [Word.flag x.hi.on, Word.flag x.lo.on, Word.nat x.last, Word.nat x.lastFlags.toNat]

def specGetOcuMn : CmdSpec := { verb := vGet, noun := nOcuMn, inst := .mn, form := .fixed [0], modes := .any }
def procGetOcuMn : Sentence → State → State := process specGetOcuMn noCheck (getAct State.mnWords) noEcho
def execGetOcuMn (m : Sentence) (s : State) : Host.Outcome State Fault Refusal :=
  .next (submit vGet nOcuMn procGetOcuMn m s)

/-- R573: SQUELCH needs a lane. -/
def checkOcuMn (s : State) (m : Sentence) (ws : List Word) : Option Refuse :=
  let c := m.inst.toNat
  let cs := maskChanges nOcuMn m ws
  let v (e : Nat) : Nat := (changed s nOcuMn c e cs).toNat
  (maskRange nOcuMn m ws).or
    (if !s.laneParamOk (v 1) ∨ (v 1 = 8 ∧ (v 6 = 2 ∨ v 10 = 2)) then some { code := cResource, detail := 1 } else none)

/-- A change of P restarts the resampler (R570); recording that begins counts from 0 (R574); a threshold without action is not
evaluated. -/
def actOcuMn (s : State) (m : Sentence) (ws : List Word) : State × Reply :=
  let c := m.inst.toNat
  let s1 := (setAct nOcuMn s m ws).1
  let restart := decide (s.monP c ≠ s1.monP c)
  let begins := decide (s.parN nOcuMn c 2 ≠ 0 ∧ s1.parN nOcuMn c 2 = 0)
  (s1.modMn c fun x => { x with
    n := if restart then 0 else x.n
    disc := x.disc || restart
    written := if begins then 0 else x.written
    hi := if s1.parN nOcuMn c 6 = 0 then {} else x.hi
    lo := if s1.parN nOcuMn c 10 = 0 then {} else x.lo }, okDone)

def specSetOcuMn : CmdSpec := { verb := vSet, noun := nOcuMn, inst := .mn, form := .mask, modes := .notShutter }
def procSetOcuMn : Sentence → State → State := process specSetOcuMn checkOcuMn actOcuMn (setEcho nOcuMn)
def execSetOcuMn (m : Sentence) (s : State) : Host.Outcome State Fault Refusal :=
  .next (submit vSet nOcuMn procSetOcuMn m s)

/-- Parameters, e, u in 1/256 code, state: 0 stopped, 1 waiting for its ramp, 2 running. -/
def State.loopWords (s : State) (i : Nat) : List Word :=
  let x := s.loopAt i
  s.paramSet nOcuLoop i ++ [Word.int x.e, Word.int x.u, Word.nat (if x.running then 2 else x.waiting.toNat)]

def specGetOcuLoop : CmdSpec := { verb := vGet, noun := nOcuLoop, inst := .loop, form := .fixed [0], modes := .any }
def procGetOcuLoop : Sentence → State → State := process specGetOcuLoop noCheck (getAct State.loopWords) noEcho
def execGetOcuLoop (m : Sentence) (s : State) : Host.Outcome State Fault Refusal :=
  .next (submit vGet nOcuLoop procGetOcuLoop m s)

/-- R577: one AX channel, one enabled loop. -/
def checkOcuLoop (s : State) (m : Sentence) (ws : List Word) : Option Refuse :=
  let i := m.inst.toNat
  let cs := maskChanges nOcuLoop m ws
  (maskRange nOcuLoop m ws).or
    (if changed s nOcuLoop i lpEnable cs = 1 ∧
        (List.range 32).any (fun k => k ≠ i && s.loopOn k && s.param nOcuLoop k lpAx == changed s nOcuLoop i lpAx cs) then
      some { code := cResource, detail := 2 } else none)

/-- A loop that gets another channel starts anew on it. -/
def actOcuLoop (s : State) (m : Sentence) (ws : List Word) : State × Reply :=
  let i := m.inst.toNat
  let s1 := (setAct nOcuLoop s m ws).1
  let s2 := if s1.loopAx i = s.loopAx i then s1
    else s1.modLoop i fun x => { x with running := false, settle := 0, inBand := false, outside := false }
  (s2.opticsCheck, okDone)

def specSetOcuLoop : CmdSpec := { verb := vSet, noun := nOcuLoop, inst := .loop, form := .mask, modes := .notShutter }
def procSetOcuLoop : Sentence → State → State := process specSetOcuLoop checkOcuLoop actOcuLoop (setEcho nOcuLoop)
def execSetOcuLoop (m : Sentence) (s : State) : Host.Outcome State Fault Refusal :=
  .next (submit vSet nOcuLoop procSetOcuLoop m s)

/-- The place of a state in R578. -/
def Optics.num : Optics → Nat
  | .idle => 0
  | .starting => 1
  | .ready => 2
  | .stopping => 3

/-- State, the mask of its loops, the mask of its channels in two words. -/
def State.ocuLaneWords (s : State) (l : Nat) : List Word :=
  [Word.nat (s.lineAt l).optics.num, Word.nat (maskOf (s.laneLoops l))] ++ words64 (maskOf (s.laneAx l))

def specGetOcuLane : CmdSpec := { verb := vGet, noun := nOcuLane, inst := .line, form := .fixed [0], modes := .any }
def procGetOcuLane : Sentence → State → State := process specGetOcuLane noCheck (getAct State.ocuLaneWords) noEcho
def execGetOcuLane (m : Sentence) (s : State) : Host.Outcome State Fault Refusal :=
  .next (submit vGet nOcuLane procGetOcuLane m s)

/-- The counters of R582. -/
def State.ocuStats (s : State) : List Word :=
  ((List.range 33).flatMap fun c => (List.range 3).flatMap (s.statWords gAx c)) ++
    ((List.range 64).flatMap fun c => (List.range 3).flatMap (s.statWords gMn c)) ++
    ((List.range 32).flatMap fun i => (List.range 3).flatMap (s.statWords gLoop i))

def specGetOcuStats : CmdSpec := { verb := vGet, noun := nOcuStats, inst := .zero, form := .fixed [0], modes := .any }
def procGetOcuStats : Sentence → State → State := process specGetOcuStats noCheck (getAct fun s _ => s.ocuStats) noEcho
def execGetOcuStats (m : Sentence) (s : State) : Host.Outcome State Fault Refusal :=
  .next (submit vGet nOcuStats procGetOcuStats m s)

end Sys2Proof.Machine
end

