-- ==== Sys2Proof/Machine/Registers.lean ====
section
/-! DEFINITION. The register map (R442, R474, R475, R487, R494, R521, R672, R725 to R739): what a read of each register returns, the
36-bit pairs (R18 to R21), and what a write does to registers other than the doorbells. -/

namespace Sys2Proof.Machine

/-! Identity (R726). -/

/-- ID_MODE (R430). -/
def State.idMode (s : State) : Word :=
  Word.nat (s.dev.mode.num + s.stepNum * 2 ^ 4 + s.dev.error * 2 ^ 8 + s.dev.guard.toNat * 2 ^ 16 +
    s.dev.repairIgnored.toNat * 2 ^ 26 + s.dev.negotiated.toNat * 2 ^ 27 + s.dev.refclk.toNat * 2 ^ 28)

/-- ID_FW_VERSION and ID_FW_PANE have their values from the end of start-up step 5 on (R727). -/
def State.fwKnown (s : State) : Bool := s.dev.mode ≠ .startFailed && !(s.dev.mode = .starting && decide (s.dev.step ≤ 5))

/-- ID_FW_PANE. -/
def State.idFwPane (s : State) : Word :=
  if s.fwKnown then
    Word.nat (s.fw.shown.toNat + s.fw.a.valid.toNat * 2 + s.fw.b.valid.toNat * 4 + (decide (s.fw.sw ≠ 0)).toNat * 8)
  else 0

/-- A register of the identity block, but for ID_ERR, whose read has an effect. -/
def State.idRead (s : State) (r : Requester) (off : Nat) : Word :=
  if off = 0x000 then Word.nat (vendorId + deviceId s.fuses.part * 2 ^ 16)
  else if off = 0x004 then Word.nat (s.fuses.stepping.toNat + r.num * 16)
  else if off = 0x008 then Word.nat s.fuses.uid.toNat
  else if off = 0x00C then Word.nat (s.fuses.uid.toNat / 2 ^ 32)
  else if off = 0x010 then (if s.fwKnown then s.fw.verShown else 0)
  else if off = 0x014 then s.idFwPane
  else if 0x020 ≤ off ∧ off < 0x030 then (words128 s.feature).getD ((off - 0x020) / 4) 0
  else if 0x030 ≤ off ∧ off < 0x040 then (words128 s.dev.accepted).getD ((off - 0x030) / 4) 0
  else if off = 0x040 then s.idMode
  else if off = 0x050 then (s.snapAt r).scratch
  else if off = 0x0A0 then (s.sticky r).setWidth 32
  else 0

/-! Mailboxes (R442). -/

def BoxState.num : BoxState → Nat
  | .idle => 0
  | .busy => 1
  | .complete => 2

/-- A register of a mailbox, at its offset in the box. -/
def Box.read (b : Box) (off : Nat) : Word :=
  if off = 0x000 then b.cmd
  else if off = 0x004 then b.taglen
  else if off = 0x00C then b.vector.setWidth 32
  else if off = 0x010 then Word.nat (b.state.num + b.seq.toNat * 256)
  else if off = 0x014 then b.status
  else if off = 0x018 then b.resp
  else if off = 0x01C then b.info
  else if 0x040 ≤ off ∧ off < 0x1000 then tget b.payload (fun _ => 0) ((off - 0x040) / 4)
  else 0

/-! Interrupt controller (R521). -/

/-- A register of an ICU instance, as a read without its effect returns it. -/
def State.icuRead (s : State) (r : Requester) (off : Nat) : Word :=
  let i := s.icuAt r
  if off = 0x000 then Word.nat (s.pendingMask r)
  else if off = 0x004 then
    Word.nat (maskOf ((List.range 24).filter fun c => (s.srcAt r c).state = .inService || (s.srcAt r c).state = .latched))
  else if off = 0x008 then s.icuLevel r
  else if off = 0x00C then i.enable.setWidth 32
  else if off = 0x010 then i.urgent.setWidth 32
  else if off = 0x018 then Word.nat i.stray
  else if off = 0x01C then Word.nat (s.snapAt r).hi.toNat
  else if off = 0x020 then Word.nat i.vanished
  else if off = 0x024 then Word.nat (s.snapAt r).hi.toNat
  else if off = 0x028 then i.pmeCause.setWidth 32
  else if 0x040 ≤ off ∧ off < 0x060 then
    let c := 16 + (off - 0x040) / 4
    if 18 ≤ c ∧ c ≤ 21 then (s.dmaAt (c - 18)).vector.setWidth 32 else (tget i.route routeDflt c).setWidth 32
  else if 0x100 ≤ off ∧ off < 0x100 + 4 * vectors r then
    let x := s.vecAt r ((off - 0x100) / 4)
    Word.nat (x.count + x.time * 256)
  else if 0x200 ≤ off ∧ off < 0x200 + 4 * vectors r then
    match s.claimable r ((off - 0x200) / 4) with
    | none => claimNone
    | some c => Word.nat (c + (isLevelSrc c).toNat * 32)
  else 0

/-! Counter latch (R672). -/

def State.pmcRead (s : State) (r : Requester) (off : Nat) : Word :=
  let x := s.snapAt r
  let g := x.grp.getD x.grpSel (0, 0)
  if !s.pmcReach r then 0
  else if off = 0x000 then Word.nat x.pmcSel
  else if off = 0x004 then Word.nat x.pmcVal
  else if off = 0x008 then Word.nat (x.pmcVal / 2 ^ 32)
  else if off = 0x00C then x.pmcFlags.setWidth 32
  else if off = 0x014 then Word.nat x.grpSel
  else if off = 0x018 then Word.nat g.1
  else if off = 0x01C then Word.nat (g.1 / 2 ^ 32)
  else if off = 0x020 then g.2.setWidth 32
  else if off = 0x024 then
    Word.nat (s.pmc.last.getD 0 % 2 ^ 16 + (decide (s.parN nPmcSample 0 0 = 0)).toNat * 2 ^ 16 + s.dev.grant.toNat * 2 ^ 17)
  else 0

/-! Timekeeping (R729). -/

/-- The four words of a domain's snapshot, from NS on. -/
def clockWords (sec ns frac : Nat) : List Word := [Word.nat ns, Word.nat sec, Word.nat (sec / 2 ^ 32 % 2 ^ 16), Word.nat frac]

def State.tkuRead (s : State) (r : Requester) (off : Nat) : Word :=
  let x := s.snapAt r
  let b : DomClk := if s.domBOn then s.tku.domB else { inc := 0 }
  if off = 0x000 then s.tku.bcnt.setWidth 32
  else if off = 0x004 then Word.nat (x.bcnt.toNat / 2 ^ 32)
  else if 0x008 ≤ off ∧ off < 0x018 then (clockWords x.aSec x.aNs x.aFrac).getD ((off - 0x008) / 4) 0
  else if 0x018 ≤ off ∧ off < 0x028 then (clockWords x.bSec x.bNs x.bFrac).getD ((off - 0x018) / 4) 0
  else if off = 0x028 then s.tku.domA.view
  else if off = 0x02C then (if s.domBOn then b.view else 0)
  else if off = 0x030 then Word.nat s.tku.domA.inc
  else if off = 0x034 then Word.nat (s.tku.domA.inc / 2 ^ 32)
  else if off = 0x038 then Word.nat b.inc
  else if off = 0x03C then Word.nat (b.inc / 2 ^ 32)
  else if off = 0x040 then s.tku.stepNs
  else if off = 0x044 then s.tku.stepSec
  else if off = 0x04C then Word.nat s.tku.sel.num
  else if off = 0x050 then s.tkuStatus
  else if off = 0x054 then Word.nat s.tku.domA.steps
  else if off = 0x058 then Word.nat b.steps
  else 0

/-! DMA (R487) and error summary (R732). -/

def State.dmaRead (s : State) (r : Requester) (off : Nat) : Word :=
  let d := s.dmaAt (off / 0x20)
  if d.owner ≠ r ∨ 0x80 ≤ off then 0
  else if off % 0x20 = 0x00 then Word.nat d.head
  else if off % 0x20 = 0x04 then Word.nat d.tail
  else if off % 0x20 = 0x08 then Word.nat (d.enabled.toNat + d.gap.toNat * 2 + d.error.toNat * 4 + d.drops * 2 ^ 16)
  else if off % 0x20 = 0x0C then Word.nat d.records
  else 0

def State.errRead (s : State) (r : Requester) (off : Nat) : Word :=
  let x := s.snapAt r
  if off = 0x000 then (s.errState r).setWidth 32
  else if off = 0x004 then (s.sticky r).setWidth 32
  else if off = 0x008 then Word.nat (x.firstBit + x.firstValid.toNat * 32)
  else if off = 0x00C then x.firstBcnt
  else 0

/-! MSI-X table and pending-bit array (R509). -/

def State.msixRead (s : State) (r : Requester) (off : Nat) : Word :=
  let x := s.vecAt r (off / 16)
  if vectors r ≤ off / 16 then 0
  else if off % 16 = 0 then Word.nat x.msgAddr.toNat
  else if off % 16 = 4 then Word.nat (x.msgAddr.toNat / 2 ^ 32)
  else if off % 16 = 8 then x.msgData
  else Word.flag x.masked

def State.pbaRead (s : State) (r : Requester) (off : Nat) : Word :=
  Word.nat (maskOf ((List.range 32).filter fun k => decide (8 * off + k < vectors r) && (s.vecAt r (8 * off + k)).pba))

/-! Lane status windows (R736 to R739). -/

/-- Two's complement in `n` bits. -/
def lowBits (n : Nat) (i : Int) : Nat := (i % (2 ^ n : Nat)).toNat

/-- LS_STATE of a line lane. -/
def State.lineLsState (s : State) (l : Nat) : Nat :=
  let x := s.lineAt l
  let p := s.portOf l
  x.state.num + (if x.state = .acquire then x.lrx.step else 0) * 2 ^ 3 + x.lrx.los.toNat * 2 ^ 7 + x.sdf.lock.toNat * 2 ^ 8 +
    x.sdf.precode.toNat * 2 ^ 9 + (s.half l).toNat * 2 ^ 10 + x.sea.placed * 2 ^ 11 + x.sea.yielding.toNat * 2 ^ 14 +
    x.lrx.qDisturbed.toNat * 2 ^ 15 + p.getD 0 * 2 ^ 16 + p.isSome.toNat * 2 ^ 19

/-- LS_PLACE. -/
def State.lineLsPlace (s : State) (l : Nat) : Nat :=
  (s.groupOf l).length + s.quadsOf l * 2 ^ 9 +
    (if (s.lineAt l).sea.tier = 0 then 0 else lowBits 16 (s.laneHeadroom l)) * 2 ^ 16

/-- A register of a line window, counter pairs apart. -/
def State.lineLs (s : State) (l off : Nat) : Word :=
  let x := s.lineAt l
  if off = 0x000 then Word.nat (0x10001 + l * 2 ^ 8)
  else if off = 0x004 then Word.nat x.lrx.periods
  else if off = 0x008 then Word.nat (s.lineLsState l)
  else if off = 0x00C then Word.nat (s.lineLsPlace l)
  else if off = 0x010 then Word.nat (x.lrx.snr % 2 ^ 16 + (x.lrx.q.getD 12 0).toNat % 2 ^ 16 * 2 ^ 16)
  else if off = 0x014 then Word.nat (min x.sdf.ber 0xFFFFFFFF)
  else if off = 0x018 then Word.nat (min x.sdf.ser 0xFFFFFFFF)
  else 0

/-- TRAIN of R738. -/
def trainCode : TrainRes → Nat
  | .off => 0
  | .trained => 1
  | .fallback => 2

/-- LS_STATE of a host lane. -/
def State.hostLsState (s : State) (h : Nat) : Nat :=
  let x := s.hostAt h
  let p := s.portOfHost h
  x.state.num + (if x.state = .acquire then x.step else 0) * 2 ^ 3 + x.sigLoss.toNat * 2 ^ 7 + x.amLock.toNat * 2 ^ 8 +
    (match s.hostCfg h with | none => false | some c => c.reduced).toNat * 2 ^ 9 + x.polInv.toNat * 2 ^ 10 +
    trainCode x.train * 2 ^ 11 + (s.physLane h) % 8 * 2 ^ 13 + p.getD 0 * 2 ^ 17 + p.isSome.toNat * 2 ^ 20

/-- A register of a host window, counter pairs apart. The taps of a transmitter that is off read 0. -/
def State.hostLs (s : State) (h off : Nat) : Word :=
  let x := s.hostAt h
  if off = 0x000 then Word.nat (0x10002 + h * 2 ^ 8)
  else if off = 0x004 then Word.nat x.periods
  else if off = 0x008 then Word.nat (s.hostLsState h)
  else if off = 0x00C then
    if x.tx = .off then 0
    else Word.nat (lowBits 8 x.cm1 + lowBits 8 x.c0 * 2 ^ 8 + lowBits 8 x.c1 * 2 ^ 16 + x.ctle % 32 * 2 ^ 24)
  else if off = 0x010 then Word.nat (x.snr % 2 ^ 16 + lowBits 16 x.offset * 2 ^ 16)
  else 0

/-- The counters of a window's pairs: group, object and item of the statistic (R737, R738). -/
def lsCounter (n k : Nat) : Nat × Nat × Nat :=
  if n < 16 then [(gSdf, n, 10), (gSdf, n, 7), (gSea, n, 0), (gLrx, n, 2)].getD k (gSdf, n, 10)
  else [(gHsl, n - 16, 9), (gHsl, n - 16, 10), (gHsl, n - 16, 12), (gHsl, n - 16, 11)].getD k (gHsl, n - 16, 9)

/-- A lane of the part has window `n`. -/
def State.window (s : State) (n : Nat) : Bool := decide (n < s.lines) || decide (16 ≤ n ∧ n < 16 + s.hosts)

/-! The map. -/

/-- The offset in the lane status windows, from window 0 on (R474). -/
def lsOff (r : Requester) (off : Nat) : Option Nat :=
  match r with
  | .pf0 => if 0x100000 ≤ off ∧ off < 0x120000 then some (off - 0x100000) else none
  | .pf1 => if 0x80000 ≤ off ∧ off < 0xA0000 then some (off - 0x80000) else none
  | .mgt => none

/-- The 36-bit value whose _LO register stands at an offset (R18). -/
def State.pair (s : State) (r : Requester) (off : Nat) : Option Nat :=
  match lsOff r off with
  | some o =>
    let q := o % 0x1000
    if s.window (o / 0x1000) ∧ [0x20, 0x28, 0x30, 0x38].contains q then
      let c := lsCounter (o / 0x1000) ((q - 0x20) / 8)
      some (min (s.stat c.1 c.2.1 c.2.2) max36)
    else none
  | none =>
    if r = .mgt then none
    else if off = 0x20018 then some (s.icuAt r).stray
    else if off = 0x20020 then some (s.icuAt r).vanished
    else none

/-- A register of a lane status window. -/
def State.lsRead (s : State) (r : Requester) (o : Nat) : Word :=
  let n := o / 0x1000
  let q := o % 0x1000
  if !s.window n then 0
  else if 0x20 ≤ q ∧ q < 0x40 then
    if q % 8 = 0 then
      let c := lsCounter n ((q - 0x20) / 8)
      Word.nat (min (s.stat c.1 c.2.1 c.2.2) max36)
    else Word.nat (s.snapAt r).hi.toNat
  else if n < 16 then s.lineLs n q
  else s.hostLs (n - 16) q

/-- What a read of a register returns, its effect apart (R474, R494): unmapped offsets read 0. -/
def State.regRead (s : State) (r : Requester) (off0 : Nat) : Word :=
  let off := off0 / 4 * 4
  if off < 0x1000 then s.idRead r off
  else if r = .mgt then
    if off < 0x3000 then (s.boxAt .mgt (off / 0x1000 - 1)).read (off % 0x1000) else 0
  else if off < 0x11000 then (s.boxAt r (off / 0x1000 - 1)).read (off % 0x1000)
  else if 0x20000 ≤ off ∧ off < 0x21000 then s.icuRead r (off - 0x20000)
  else if 0x30000 ≤ off ∧ off < 0x31000 then s.pmcRead r (off - 0x30000)
  else if 0x40000 ≤ off ∧ off < 0x41000 then s.tkuRead r (off - 0x40000)
  else if 0x50000 ≤ off ∧ off < 0x51000 then s.dmaRead r (off - 0x50000)
  else if 0x60000 ≤ off ∧ off < 0x61000 then s.errRead r (off - 0x60000)
  else if 0x70000 ≤ off ∧ off < 0x78000 then s.msixRead r (off - 0x70000)
  else if 0x78000 ≤ off ∧ off < 0x79000 then s.pbaRead r (off - 0x78000)
  else
    match lsOff r off with
    | some o => s.lsRead r o
    | none => 0

/-- A read of a register that is no _LO of a 36-bit pair: the registers whose read acts do what the rows of their own do
(R393, R504, R506, R516, R672, R734, R735); any other returns its value. -/
def State.readAct (s : State) (r : Requester) (off0 : Nat) : State :=
  let off := off0 / 4 * 4
  if off = 0x0A0 then s.readSticky r 0
  else if r = .mgt then
    if off = 0x1014 then s.mgtStatus 0
    else if off = 0x2014 then s.mgtStatus 1
    else s.answer [s.regRead r off]
  else if off = 0x20008 then (s.look r).answer [s.icuLevel r]
  else if 0x20200 ≤ off ∧ off < 0x20200 + 4 * vectors r then s.claim r ((off - 0x20200) / 4)
  else if off = 0x30004 then s.pmcLatch r
  else if off = 0x40000 then s.tkuSnap r
  else if off = 0x60004 then s.readSticky r 0
  else s.answer [s.regRead r off]

/-- R19, R20: a read of _LO takes the requester's snapshot; a read of any other register is one of that register. -/
def execReadLoSnapshot (r : Requester) (off : Nat) (s : State) : Host.Outcome State Fault Refusal :=
  .next (s.onBus r fun s =>
    match s.pair r off with
    | some v => (s.modSnap r fun x => { x with hi := BitVec.ofNat 4 (v / 2 ^ 32) }).answer [Word.nat v]
    | none => s.readAct r off)

/-! Writes. -/

/-- A write to a mailbox register other than the doorbell; while the mailbox is BUSY it is discarded and counted (R444). -/
def State.boxWrite (s : State) (r : Requester) (n off : Nat) (v : Word) : State :=
  let hit := off = 0x000 || off = 0x004 || off = 0x00C || decide (0x040 ≤ off)
  if !hit then s
  else if (s.boxAt r n).state = .busy then
    { s with mb := { s.mb with discards := tmod s.mb.discards (fun _ => 0) (boxKey r n) (· + 1) } }
  else
    s.modBox r n fun b =>
      if off = 0x000 then { b with cmd := v }
      else if off = 0x004 then { b with taglen := v &&& 0x0FFFFFFF }
      else if off = 0x00C then { b with vector := v.setWidth 6 }
      else { b with payload := tset b.payload (fun _ => 0) ((off - 0x040) / 4) v }

/-- A write to an ICU register (R502, R505, R508, R521). -/
def State.icuWrite (s : State) (r : Requester) (off : Nat) (v : Word) : State :=
  if off = 0x00C then s.icuEnable r v
  else if off = 0x010 then s.modIcu r fun i => { i with urgent := v.setWidth 24 }
  else if off = 0x014 then s.completeSrc r (v.toNat % 32)
  else if off = 0x028 then s.modIcu r fun x => { x with pmeCause := rw1c x.pmeCause (v.setWidth 24) 0 }
  else if 0x040 ≤ off ∧ off < 0x060 then
    let c := 16 + (off - 0x040) / 4
    if 18 ≤ c ∧ c ≤ 21 then s else s.modIcu r fun i => { i with route := tset i.route routeDflt c (v.setWidth 6) }
  else if 0x100 ≤ off ∧ off < 0x100 + 4 * vectors r then
    s.modVec r ((off - 0x100) / 4) fun x => { x with count := v.toNat % 256, time := v.toNat / 256 % 1024 }
  else if off < 0x02C ∨ (0x200 ≤ off ∧ off < 0x200 + 4 * vectors r) then s
  else s.discardWrite r

/-- A write to the counter latch (R672); PF1 without its grant writes outside its rights (R474). -/
def State.pmcWrite (s : State) (r : Requester) (off : Nat) (v : Word) : State :=
  if !s.pmcReach r then s.discardWrite r
  else if off = 0x000 then s.modSnap r fun x => { x with pmcSel := v.toNat % 4096 }
  else if off = 0x010 then (if v.getLsbD 0 then s.pmcGroup r else s)
  else if off = 0x014 then s.modSnap r fun x => { x with grpSel := v.toNat % 32 }
  else if off < 0x028 then s
  else s.discardWrite r

/-- A write to the TKU block from PF0 (R387 to R397, R729 to R731). -/
def State.tkuRegWrite (s : State) (off : Nat) (v : Word) : State :=
  if off = 0x030 then s.incLo .a v
  else if off = 0x034 then s.incHi .a v
  else if off = 0x038 then s.incLo .b v
  else if off = 0x03C then s.incHi .b v
  else if off = 0x040 then { s with tku := { s.tku with stepNs := v } }
  else if off = 0x044 then { s with tku := { s.tku with stepSec := v } }
  else if off = 0x048 then s.stepGo (v.getLsbD 0) (v.getLsbD 1)
  else if off = 0x04C then s.domSelWrite v
  else if off = 0x050 then s.tkuStatusWrite v 0
  else if off < 0x05C then s
  else s.discardWrite .pf0

/-- A write to a DMA channel's registers (R487, R488). -/
def State.dmaWrite (s : State) (r : Requester) (off : Nat) (v : Word) : State :=
  let c := off / 0x20
  if 0x80 ≤ off ∨ (s.dmaAt c).owner ≠ r then s.discardWrite r
  else if off % 0x20 = 0x04 then s.dmaTail r c v
  else if off % 0x20 = 0x08 then s.dmaStatus r c v 0
  else if off % 0x20 < 0x10 then s
  else s.discardWrite r

/-- A write to the MSI-X table: message address and data, mask bit (R509). -/
def State.msixWrite (s : State) (r : Requester) (off : Nat) (v : Word) : State :=
  let k := off / 16
  if vectors r ≤ k then s.discardWrite r
  else if off % 16 = 0 then s.modVec r k fun x => { x with msgAddr := x.msgAddr.extractLsb' 32 32 ++ (v &&& 0xFFFFFFFC) }
  else if off % 16 = 4 then s.modVec r k fun x => { x with msgAddr := v ++ x.msgAddr.setWidth 32 }
  else if off % 16 = 8 then s.modVec r k fun x => { x with msgData := v }
  else if v.getLsbD 0 then s.modVec r k fun x => { x with masked := true }
  else s.unmask r (some k)

/-- A write to the identity block or the error block; PF1 reads them only (R474). -/
def State.idWrite (s : State) (r : Requester) (off : Nat) (v : Word) : State :=
  if r ≠ .pf0 then s.discardWrite r
  else if off = 0x050 then s.modSnap r fun x => { x with scratch := v }
  else if off < 0x018 ∨ (0x020 ≤ off ∧ off < 0x044) ∨ off = 0x0A0 then s
  else s.discardWrite r

def State.errWrite (s : State) (r : Requester) (off : Nat) : State := if r = .pf0 ∧ off < 0x010 then s else s.discardWrite r

/-- A whole-DWORD write of a PCIe function to any register but a mailbox (R474, R475). -/
def State.blockWrite (s : State) (r : Requester) (off : Nat) (v : Word) : State :=
  if off < 0x1000 then s.idWrite r off v
  else if 0x20000 ≤ off ∧ off < 0x21000 then s.icuWrite r (off - 0x20000) v
  else if 0x30000 ≤ off ∧ off < 0x31000 then s.pmcWrite r (off - 0x30000) v
  else if 0x40000 ≤ off ∧ off < 0x41000 then
    if r = .pf0 then s.tkuRegWrite (off - 0x40000) v else s.discardWrite r
  else if 0x50000 ≤ off ∧ off < 0x51000 then s.dmaWrite r (off - 0x50000) v
  else if 0x60000 ≤ off ∧ off < 0x61000 then s.errWrite r (off - 0x60000)
  else if 0x70000 ≤ off ∧ off < 0x78000 then s.msixWrite r (off - 0x70000) v
  else if 0x78000 ≤ off ∧ off < 0x78008 then s
  else s.discardWrite r

/-- The mailbox and the offset in it that an offset names. -/
def boxOf (r : Requester) (off : Nat) : Option (Nat × Nat) :=
  if 0x1000 ≤ off ∧ off < 0x1000 + 0x1000 * mailboxes r then some (off / 0x1000 - 1, off % 0x1000) else none

/-- The sentence that a mailbox's registers hold (R443). -/
def State.sentenceOf (s : State) (r : Requester) (n : Nat) : Sentence :=
  let b := s.boxAt r n
  { req := r, mbx := n, adverbs := b.cmd.extractLsb' 24 8, inst := b.cmd.extractLsb' 16 8, tag := b.taglen.setWidth 16
    len := b.taglen.extractLsb' 16 12, words := b.words (b.taglen.extractLsb' 16 12).toNat }

end Sys2Proof.Machine
end

