-- ==== Sys2Proof/Machine/Sentences.lean ====
section
/-! DEFINITION. The commands that a mailbox takes, by verb and noun, and what the firmware does with any sentence (R448, R453, R468): the
interpreter for commands that waited and for doorbells of sentences without a row of their own. -/

namespace Sys2Proof.Machine

/-- A command: its specification and its processing. -/
abbrev Command := CmdSpec × (Sentence → State → State)

def commands0 : List Command :=
  [(specGetDevMode, procGetDevMode), (specEnterDevMode, procEnterDevMode), (specShutterDevMode, procShutterDevMode),
   (specEnterLaneTest, procEnterLaneTest), (specLeaveLaneTest, procLeaveLaneTest),
   (specGetDevFeature, procGetDevFeature), (specNegotiateDevFeature, procNegotiateDevFeature),
   (specReceiveDevEvent, procReceiveDevEvent), (specGetMbxStats, procGetMbxStats),
   (specClearMbxStats, procClearMbxStats), (specLoadFwImage, procLoadFwImage), (specGetFwImage, procGetFwImage),
   (specGrantPf1Grant, procGrantPf1Grant), (specRevokePf1Grant, procRevokePf1Grant),
   (specGetPf1Grant, procGetPf1Grant), (specGetLrxCfg, procGetLrxCfg), (specSetLrxCfg, procSetLrxCfg),
   (specGetLrxStatus, procGetLrxStatus), (specGetLrxQuality, procGetLrxQuality),
   (specGetLrxEstimate, procGetLrxEstimate)]

def commands1 : List Command :=
  [(specGetLrxSlices, procGetLrxSlices), (specRestartLrxAcq, procRestartLrxAcq),
   (specCaptureLrxCapture, procCaptureLrxCapture), (specAbortLrxCapture, procAbortLrxCapture),
   (specGetSeaPolicy, procGetSeaPolicy), (specSetSeaPolicy, procSetSeaPolicy), (specGetSeaHinge, procGetSeaHinge),
   (specSetSeaHinge, procSetSeaHinge), (specGetSeaPlacement, procGetSeaPlacement),
   (specGetSeaEngines, procGetSeaEngines), (specGetSeaKernel, procGetSeaKernel),
   (specLoadSeaKernel, procLoadSeaKernel), (specSelectSeaKernel, procSelectSeaKernel),
   (specGetSeaKparam, procGetSeaKparam), (specSetSeaKparam, procSetSeaKparam), (specGetSdfCfg, procGetSdfCfg),
   (specSetSdfCfg, procSetSdfCfg), (specGetSdfStatus, procGetSdfStatus), (specGetSdfStats, procGetSdfStats),
   (specGetSdfDetector, procGetSdfDetector)]

def commands2 : List Command :=
  [(specRestartSdfHunt, procRestartSdfHunt), (specGetLtxCfg, procGetLtxCfg), (specSetLtxCfg, procSetLtxCfg),
   (specGetLtxStatus, procGetLtxStatus), (specSquelchLtxOut, procSquelchLtxOut),
   (specReleaseLtxOut, procReleaseLtxOut), (specGetHslCfg, procGetHslCfg), (specSetHslCfg, procSetHslCfg),
   (specGetHslGroup, procGetHslGroup), (specSetHslGroup, procSetHslGroup), (specGetHslStatus, procGetHslStatus),
   (specGetHslQuality, procGetHslQuality), (specRestartHslTrain, procRestartHslTrain),
   (specGetPfxBlocklock, procGetPfxBlocklock), (specGetPortCfg, procGetPortCfg), (specSetPortCfg, procSetPortCfg),
   (specDeletePortCfg, procDeletePortCfg), (specStartPort, procStartPort), (specStopPort, procStopPort),
   (specGetPortStatus, procGetPortStatus)]

def commands3 : List Command :=
  [(specGetPltCfg, procGetPltCfg), (specSetPltCfg, procSetPltCfg), (specSendPltPacket, procSendPltPacket),
   (specReceivePltPacket, procReceivePltPacket), (specGetPltPeer, procGetPltPeer), (specSetPltPeer, procSetPltPeer),
   (specGetPltStatus, procGetPltStatus), (specGetLexCfg, procGetLexCfg), (specSetLexCfg, procSetLexCfg),
   (specGetLexPort, procGetLexPort), (specSetLexPort, procSetLexPort), (specGetLexContext, procGetLexContext),
   (specInsertLexContext, procInsertLexContext), (specDeleteLexContext, procDeleteLexContext),
   (specFlushLexDump, procFlushLexDump), (specGetLexStats, procGetLexStats), (specGetTkuDomain, procGetTkuDomain),
   (specSetTkuDomain, procSetTkuDomain), (specGetTkuPort, procGetTkuPort), (specSetTkuPort, procSetTkuPort)]

def commands4 : List Command :=
  [(specGetTkuStats, procGetTkuStats), (specGetHifLink, procGetHifLink), (specGetHifWindow, procGetHifWindow),
   (specSetHifWindow, procSetHifWindow), (specGetHifDma, procGetHifDma), (specSetHifDma, procSetHifDma),
   (specGetHifMgt, procGetHifMgt), (specGetIcuEvent, procGetIcuEvent), (specSetIcuEvent, procSetIcuEvent),
   (specGetIcuMgt, procGetIcuMgt), (specSetIcuMgt, procSetIcuMgt), (specGetMemCfg, procGetMemCfg),
   (specSetMemCfg, procSetMemCfg), (specGetMemStatus, procGetMemStatus), (specGetMemEcho, procGetMemEcho),
   (specGetMemSpares, procGetMemSpares), (specGetMemStats, procGetMemStats), (specGetOcuAx, procGetOcuAx),
   (specSetOcuAx, procSetOcuAx), (specGetOcuCode, procGetOcuCode)]

def commands5 : List Command :=
  [(specSetOcuCode, procSetOcuCode), (specGetOcuMn, procGetOcuMn), (specSetOcuMn, procSetOcuMn),
   (specGetOcuLoop, procGetOcuLoop), (specSetOcuLoop, procSetOcuLoop), (specGetOcuLane, procGetOcuLane),
   (specGetOcuStats, procGetOcuStats), (specGetCalCfg, procGetCalCfg), (specSetCalCfg, procSetCalCfg),
   (specGetCalBlock, procGetCalBlock), (specRunCalBlock, procRunCalBlock), (specClearCalBlock, procClearCalBlock),
   (specGetThmCfg, procGetThmCfg), (specSetThmCfg, procSetThmCfg), (specGetThmSensor, procGetThmSensor),
   (specAckThmSensor, procAckThmSensor), (specGetThmStatus, procGetThmStatus),
   (specClearThmStatus, procClearThmStatus), (specGetFwPane, procGetFwPane), (specSwitchFwPane, procSwitchFwPane)]

def commands6 : List Command :=
  [(specGetTstCfg, procGetTstCfg), (specSetTstCfg, procSetTstCfg), (specGetTstStatus, procGetTstStatus),
   (specGetTstVerdicts, procGetTstVerdicts), (specGetRepRecord, procGetRepRecord),
   (specGetRelYields, procGetRelYields), (specGetPmcCounter, procGetPmcCounter),
   (specSetPmcCounter, procSetPmcCounter), (specClearPmcCounter, procClearPmcCounter),
   (specGetPmcDump, procGetPmcDump), (specSetPmcDump, procSetPmcDump), (specFlushPmcDump, procFlushPmcDump),
   (specGetPmcSample, procGetPmcSample), (specSetPmcSample, procSetPmcSample), (specGetPwrCfg, procGetPwrCfg),
   (specSetPwrCfg, procSetPwrCfg), (specGetPwrStatus, procGetPwrStatus), (specClearPwrStatus, procClearPwrStatus),
   (specGetPwrRail, procGetPwrRail)]

/-- Every command of the spec's tables. -/
def commands : List Command :=
  commands0 ++ commands1 ++ commands2 ++ commands3 ++ commands4 ++ commands5 ++ commands6

/-- The command of a verb and noun. -/
def commandOf (verb noun : Nat) : Option Command := commands.find? fun c => c.1.verb == verb && c.1.noun == noun

/-- A noun code is known (R468). -/
def knownNoun (noun : Nat) : Bool := commands.any fun c => c.1.noun == noun

/-- The refusal of a sentence that names no command: steps 1 to 3 of R453. -/
def undefinedRefusal (verb noun : Nat) (m : Sentence) : Refuse :=
  if !knownVerbs.contains verb then { code := cBadVerb, detail := 1 }
  else if m.adverbs &&& 0xF8#8 ≠ 0 then { code := cBadVerb, detail := 3 }
  else if !knownNoun noun then { code := cBadNoun }
  else { code := cBadVerb, detail := 2 }

/-- The firmware begins a sentence that names no command. -/
def procUndefined (verb noun : Nat) (m : Sentence) (s : State) : State :=
  (s.pmcEvent 0x010 1).complete m (undefinedRefusal verb noun m).code (undefinedRefusal verb noun m).detail .device [] 0

/-- The firmware begins a sentence. -/
def runSentence (verb noun : Nat) : Sentence → State → State :=
  match commandOf verb noun with
  | some c => c.2
  | none => procUndefined verb noun

end Sys2Proof.Machine
end

