-- ==== Sys2Proof/Machine/Opening.lean ====
section
/-! DEFINITION. Where waiting commands begin (R446, R741, R657): the ends of start-up steps 5 and 8, the steps of a pane switch that hand
over or go back, the doorbells, and register writes. -/

namespace Sys2Proof.Machine

/-! Waiting commands. -/

/-- Waiting commands begin in the order of their RINGs (R446). -/
def State.beginWaiting (s : State) : State :=
  s.mb.waiting.foldl (fun s w => runSentence w.1.toNat w.2.1.toNat w.2.2 s) { s with mb := { s.mb with waiting := [] } }

/-- In START_FAILED the boot ROM begins those of MBX0 of PF0 and of the management port and refuses the others (R741). -/
def State.bootRomBegins (s : State) : State :=
  s.mb.waiting.foldl (fun s w =>
    if bootRomBox w.2.2.req w.2.2.mbx then runSentence w.1.toNat w.2.1.toNat w.2.2 s
    else s.complete w.2.2 cStateRefused 1 .device [] 0) { s with mb := { s.mb with waiting := [] } }

/-! Start-up step 5 (R424, R427, R660). -/

/-- The pane that step 5 tries first: the one that SWITCH named, else the one marked active. -/
def State.firstPane (s : State) : Bool := if s.fw.ticket.isSome then s.fw.swTarget else s.fw.active

/-- A SWITCH from START_FAILED ends with the pane that start-up has taken; that pane is marked active in boot flash. -/
def State.endRecovery (s : State) (b : Bool) : State :=
  match s.fw.ticket with
  | none => s
  | some t =>
    let s1 := s.modFw fun x => { x with ticket := none }
    if b = s.fw.swTarget then
      (s1.modFw fun x => { x with active := b, selGen := if x.active = b then x.selGen else x.selGen + 1 }).finish t cDone 0
    else s1.finish t cResource 2

/-- Step 5 ends with a pane: firmware runs, takes readings (R606), and ID_FW_VERSION and ID_FW_PANE have their values. -/
def State.firmwareUp (s : State) (b : Bool) : State :=
  let s1 := s.modFw fun x => { x with running := b, shown := b, verShown := (x.pane b).version, tried := false }
  ({ s1 with thm := { s1.thm with reading := true } }.endRecovery b).upStep 6

/-- Both panes have failed: START_FAILED, with PCIe enabled and the boot ROM at its mailboxes (R427, R428, R741). -/
def State.firmwareDown (s : State) : State :=
  let s1 := (s.modFw fun x => { x with tried := false, ticket := none }).finishOpt s.fw.ticket cResource 2 .device
  let s2 := { s1 with dev := { s1.dev with pfEnabled := true, isOpen := true }, thm := { s1.thm with reading := true } }
  ((s2.startFail 3).settle).bootRomBegins

/-- A pane whose signature fails holds no valid image. -/
def execFirmwareLoadDone (ok : Bool) (s : State) : Host.Outcome State Fault Refusal :=
  .next (
    if s.dev.mode = .starting ∧ s.dev.step = 5 then
      let b := s.firstPane != s.fw.tried
      if ok then (s.firmwareUp b).settle
      else
        let s1 := s.modFw fun x => x.setPane b { x.pane b with valid := false }
        if s.fw.tried then s1.firmwareDown else s1.modFw fun x => { x with tried := true }
    else s)

/-! Start-up step 8 (R417, R424, R704, R741). -/

/-- The bits [127:16] that the running pane publishes (R461, R465). -/
def State.paneFeatures (s : State) : BitVec 112 := s.pane.features &&& BitVec.ofNat 112 (publishable s.fuses.part)

/-- The rail-fault record is not empty: PWR_RAIL_FAULT_SEEN. -/
def State.railSeen (s : State) : State :=
  match s.pwr.fault with
  | none => s
  | some f => s.raise evPwrRailFaultSeen ([Word.nat f.rail, Word.nat (RailCause.num f.cause)] ++ field32 f.bcnt.toNat)

def execStartUpComplete (s : State) : Host.Outcome State Fault Refusal :=
  .next (
    if s.dev.mode = .starting ∧ s.dev.step = 8 then
      let s1 := { s with dev := { s.dev with published := true, featHi := s.paneFeatures, step := 0, isOpen := true } }
      ((s1.setMode .dormant tStart8).railSeen.follow).beginWaiting
    else s)

/-! A pane switch (R657 to R659). -/

/-- Step 4: the new pane runs and publishes its own bits (R7); waiting RINGs begin. The time since step 2 is the handover
time. -/
def execNewPaneResumed (s : State) : Host.Outcome State Fault Refusal :=
  .next (
    if s.fw.sw = 3 then
      let s1 := s.modFw fun x => { x with sw := 4, running := x.swTarget, since := s.tku.bcnt - x.since }
      (({ s1 with dev := { s1.dev with featHi := s1.paneFeatures } }).settle).beginWaiting
    else s)

/-- R659: the old pane goes on from the state of step 3. -/
def execPaneSwitchTimeout (s : State) : Host.Outcome State Fault Refusal :=
  .next (if s.eventsHeld then s.switchFail.beginWaiting else s)

/-! Doorbells and register writes. -/

/-- A RING for a sentence without a row of its own, or for any sentence (R443, R444, R741). -/
def execMbxDoorbellRing (verb noun : Byte) (m : Sentence) (s : State) : Host.Outcome State Fault Refusal :=
  .next (submit verb.toNat noun.toNat (runSentence verb.toNat noun.toNat) m s)

/-- RING in MBX_DOORBELL: the firmware takes the sentence that the mailbox holds (R443); while BUSY it has no effect and is
counted (R444). -/
def State.doorbell (s : State) (r : Requester) (n : Nat) (v : Word) : State :=
  if !v.getLsbD 0 ∨ !s.reach r n then s
  else if (s.boxAt r n).state = .busy then
    { s with mb := { s.mb with discards := tmod s.mb.discards (fun _ => 0) (boxKey r n) (· + 1) } }
  else
    let b := s.boxAt r n
    let verb := b.cmd.toNat % 256
    let noun := b.cmd.toNat / 256 % 256
    s.ring verb noun (runSentence verb noun) (s.sentenceOf r n)

/-- R15, R16, R475, R494: a write of part of a register is discarded; the identity mirror of the management port is read only. -/
def execRegisterWrite (r : Requester) (off : Nat) (v : Word) (whole : Bool) (s : State) : Host.Outcome State Fault Refusal :=
  .next (s.onBus r fun s =>
    if !whole then s.discardWrite r
    else
      match boxOf r off with
      | some (n, o) => if o = 0x008 then s.doorbell r n v else s.boxWrite r n o v
      | none => if r = .mgt then s else s.blockWrite r off v)

end Sys2Proof.Machine
end

