-- ==== Sys2Proof/Machine/Dispatch.lean ====
section
/-! DEFINITION. One arm per command. -/

namespace Sys2Proof.Machine

def exec (i : Instr) (s : State) : Host.Outcome State Fault Refusal :=
  match i with
  | .registerWrite r off v whole => Sys2Proof.Machine.execRegisterWrite r off v whole s
  | .bar0WideRead r off dwords => Sys2Proof.Machine.execBar0WideRead r off dwords s
  | .readLoSnapshot r off => Sys2Proof.Machine.execReadLoSnapshot r off s
  | .tkuBcntLoRead r => Sys2Proof.Machine.execTkuBcntLoRead r s
  | .tkuIncLoWrite r d v => Sys2Proof.Machine.execTkuIncLoWrite r d v s
  | .tkuIncHiWrite r d v => Sys2Proof.Machine.execTkuIncHiWrite r d v s
  | .tkuStepGoA r => Sys2Proof.Machine.execTkuStepGoA r s
  | .tkuStepGoB r both => Sys2Proof.Machine.execTkuStepGoB r both s
  | .tkuDomSelWrite r v => Sys2Proof.Machine.execTkuDomSelWrite r v s
  | .tkuStatusClear r v now => Sys2Proof.Machine.execTkuStatusClear r v now s
  | .icuClaimRead r vec => Sys2Proof.Machine.execIcuClaimRead r vec s
  | .icuCompleteWrite r v => Sys2Proof.Machine.execIcuCompleteWrite r v s
  | .icuLevelRead r => Sys2Proof.Machine.execIcuLevelRead r s
  | .icuEnableWrite r v => Sys2Proof.Machine.execIcuEnableWrite r v s
  | .icuPmeCauseClear r v now => Sys2Proof.Machine.execIcuPmeCauseClear r v now s
  | .msixUnmask r vec => Sys2Proof.Machine.execMsixUnmask r vec s
  | .pmcValueLoRead r => Sys2Proof.Machine.execPmcValueLoRead r s
  | .pmcGroupLatchGo r => Sys2Proof.Machine.execPmcGroupLatchGo r s
  | .dmaTailWrite r ch v => Sys2Proof.Machine.execDmaTailWrite r ch v s
  | .dmaStatusClear r ch v now => Sys2Proof.Machine.execDmaStatusClear r ch v now s
  | .errStickyRead r now => Sys2Proof.Machine.execErrStickyRead r now s
  | .idErrRead r now => Sys2Proof.Machine.execIdErrRead r now s
  | .mgtMbxStatusRead n => Sys2Proof.Machine.execMgtMbxStatusRead n s
  | .mgtTransferDiscarded => Sys2Proof.Machine.execMgtTransferDiscarded s
  | .i3cDynamicAddress addr => Sys2Proof.Machine.execI3cDynamicAddress addr s
  | .i3cRstdaa => Sys2Proof.Machine.execI3cRstdaa s
  | .ibiDeclined => Sys2Proof.Machine.execIbiDeclined s
  | .bar2Read r off dwords ups => Sys2Proof.Machine.execBar2Read r off dwords ups s
  | .bar2Write r off bytes ups => Sys2Proof.Machine.execBar2Write r off bytes ups s
  | .echoEntryExpiry region addr => Sys2Proof.Machine.execEchoEntryExpiry region addr s
  | .repairCopyDone region => Sys2Proof.Machine.execRepairCopyDone region s
  | .marchTestDone region verdict => Sys2Proof.Machine.execMarchTestDone region verdict s
  | .repairRecordAppend => Sys2Proof.Machine.execRepairRecordAppend s
  | .refreshCommand die => Sys2Proof.Machine.execRefreshCommand die s
  | .vinValid vin straps => Sys2Proof.Machine.execVinValid vin straps s
  | .railInRegulation => Sys2Proof.Machine.execRailInRegulation s
  | .pgoodReleaseTimer => Sys2Proof.Machine.execPgoodReleaseTimer s
  | .fuseMapLoaded ok => Sys2Proof.Machine.execFuseMapLoaded ok s
  | .memoryFillDone ok => Sys2Proof.Machine.execMemoryFillDone ok s
  | .firmwareLoadDone ok => Sys2Proof.Machine.execFirmwareLoadDone ok s
  | .repairRecordApplied valid => Sys2Proof.Machine.execRepairRecordApplied valid s
  | .startUpComplete => Sys2Proof.Machine.execStartUpComplete s
  | .vinUndervoltage vin => Sys2Proof.Machine.execVinUndervoltage vin s
  | .vinPowerDown => Sys2Proof.Machine.execVinPowerDown s
  | .inputOvervoltage => Sys2Proof.Machine.execInputOvervoltage s
  | .enFall => Sys2Proof.Machine.execEnFall s
  | .enRise => Sys2Proof.Machine.execEnRise s
  | .sysRstNAct => Sys2Proof.Machine.execSysRstNAct s
  | .sysRstNRelease => Sys2Proof.Machine.execSysRstNRelease s
  | .railFault rail cause => Sys2Proof.Machine.execRailFault rail cause s
  | .railCurrentDwell rail current => Sys2Proof.Machine.execRailCurrentDwell rail current s
  | .backstopTrip => Sys2Proof.Machine.execBackstopTrip s
  | .laneRefclkAbsent => Sys2Proof.Machine.execLaneRefclkAbsent s
  | .laneRefclkPresent => Sys2Proof.Machine.execLaneRefclkPresent s
  | .perstNAssert => Sys2Proof.Machine.execPerstNAssert s
  | .functionLevelReset r => Sys2Proof.Machine.execFunctionLevelReset r s
  | .hotReset => Sys2Proof.Machine.execHotReset s
  | .linkDown => Sys2Proof.Machine.execLinkDown s
  | .linkUp speed width => Sys2Proof.Machine.execLinkUp speed width s
  | .enterD3hot r => Sys2Proof.Machine.execEnterD3hot r s
  | .enterD0 r => Sys2Proof.Machine.execEnterD0 r s
  | .enterD3cold r => Sys2Proof.Machine.execEnterD3cold r s
  | .aspmL1Entry => Sys2Proof.Machine.execAspmL1Entry s
  | .tapTakeoverLoad op => Sys2Proof.Machine.execTapTakeoverLoad op s
  | .tapRelease => Sys2Proof.Machine.execTapRelease s
  | .eventRaised n => Sys2Proof.Machine.execEventRaised n s
  | .coalescingTimerExpiry r vec => Sys2Proof.Machine.execCoalescingTimerExpiry r vec s
  | .datapathPowered rates => Sys2Proof.Machine.execDatapathPowered rates s
  | .losAssert l => Sys2Proof.Machine.execLosAssert l s
  | .losClear l => Sys2Proof.Machine.execLosClear l s
  | .receiverPowerSettled l => Sys2Proof.Machine.execReceiverPowerSettled l s
  | .agcSettled l rms => Sys2Proof.Machine.execAgcSettled l s rms
  | .sliceCorrectionConverged l => Sys2Proof.Machine.execSliceCorrectionConverged l s
  | .timingRecoveryLocked l freq => Sys2Proof.Machine.execTimingRecoveryLocked l freq s
  | .ffeConverged l ups => Sys2Proof.Machine.execFfeConverged l s ups
  | .acquisitionTimeout l => Sys2Proof.Machine.execAcquisitionTimeout l s
  | .estimatePeriodEnd l q e rms => Sys2Proof.Machine.execEstimatePeriodEnd l q e rms s
  | .snrWindowEnd l snr => Sys2Proof.Machine.execSnrWindowEnd l snr s
  | .timingFrequencyOutOfRange l => Sys2Proof.Machine.execTimingFrequencyOutOfRange l s
  | .backgroundWindowEnd l rs ups => Sys2Proof.Machine.execBackgroundWindowEnd l rs ups s
  | .rotationStepStart l => Sys2Proof.Machine.execRotationStepStart l s
  | .shadowComparisonDone l ok => Sys2Proof.Machine.execShadowComparisonDone l ok s
  | .rotationSwitch l => Sys2Proof.Machine.execRotationSwitch l s
  | .transomCalibrationDone l ok => Sys2Proof.Machine.execTransomCalibrationDone l s ok
  | .captureStartCondition => Sys2Proof.Machine.execCaptureStartCondition s
  | .captureSegmentStart => Sys2Proof.Machine.execCaptureSegmentStart s
  | .captureSegmentDrained samples clips ecc => Sys2Proof.Machine.execCaptureSegmentDrained samples clips ecc s
  | .blockEntersFifo l codes => Sys2Proof.Machine.execBlockEntersFifo l s codes
  | .blockRelease l late ecc => Sys2Proof.Machine.execBlockRelease l late s ecc
  | .fifoWatermarkCrossed l => Sys2Proof.Machine.execFifoWatermarkCrossed l s
  | .fifoOverflow l => Sys2Proof.Machine.execFifoOverflow l s
  | .slackReport slack rates => Sys2Proof.Machine.execSlackReport slack rates s
  | .loweringDwellExpiry => Sys2Proof.Machine.execLoweringDwellExpiry s
  | .vcoreReductionAnnounced => Sys2Proof.Machine.execVcoreReductionAnnounced s
  | .vcoreStepSettled rates => Sys2Proof.Machine.execVcoreStepSettled rates s
  | .planBlockBoundary l => Sys2Proof.Machine.execPlanBlockBoundary l s
  | .raiseDwellExpiry => Sys2Proof.Machine.execRaiseDwellExpiry s
  | .swapStaged l => Sys2Proof.Machine.execSwapStaged l s
  | .shadowSettleEnd l ups => Sys2Proof.Machine.execShadowSettleEnd l s ups
  | .swapComparisonDone l live shadow => Sys2Proof.Machine.execSwapComparisonDone l live shadow s
  | .swapSwitch l => Sys2Proof.Machine.execSwapSwitch l s
  | .shadowReturn l => Sys2Proof.Machine.execShadowReturn l s
  | .coefficientPush l errs => Sys2Proof.Machine.execCoefficientPush l s errs
  | .shadowRefresh e => Sys2Proof.Machine.execShadowRefresh e s
  | .engineFault e cond => Sys2Proof.Machine.execEngineFault e cond s
  | .adaptEngineFault e cond => Sys2Proof.Machine.execAdaptEngineFault e cond s
  | .huntTestDone l hard rel skews => Sys2Proof.Machine.execHuntTestDone l hard rel skews s
  | .lockWindowEnd l zeros => Sys2Proof.Machine.execLockWindowEnd l zeros s
  | .innerCodewordDecode l ys after => Sys2Proof.Machine.execInnerCodewordDecode l ys after s
  | .rsCodewordDecode l r => Sys2Proof.Machine.execRsCodewordDecode l r s
  | .sdfPeriodEnd l syms => Sys2Proof.Machine.execSdfPeriodEnd l s syms
  | .fixedStageFault stage unit ns => Sys2Proof.Machine.execFixedStageFault stage unit ns s
  | .ltxSettingsApply l bits => Sys2Proof.Machine.execLtxSettingsApply l s bits
  | .swingStep l => Sys2Proof.Machine.execSwingStep l s
  | .dacSettled l => Sys2Proof.Machine.execDacSettled l s
  | .opticsReady l => Sys2Proof.Machine.execOpticsReady l s
  | .opticsSettleTimeout l => Sys2Proof.Machine.execOpticsSettleTimeout l s
  | .opticsRetryTimer l => Sys2Proof.Machine.execOpticsRetryTimer l s
  | .rampUpEnd l => Sys2Proof.Machine.execRampUpEnd l s
  | .rampDownEnd l => Sys2Proof.Machine.execRampDownEnd l s
  | .dacCellFailure l cell ns => Sys2Proof.Machine.execDacCellFailure l cell ns s
  | .opticsReleaseTimer l => Sys2Proof.Machine.execOpticsReleaseTimer l s
  | .axRampUpdate c => Sys2Proof.Machine.execAxRampUpdate c s
  | .monitorOutputSample c x sat => Sys2Proof.Machine.execMonitorOutputSample c x sat s
  | .loopUpdate n => Sys2Proof.Machine.execLoopUpdate n s
  | .axCoreFault c cause => Sys2Proof.Machine.execAxCoreFault c cause s
  | .axOutputStageFailure c => Sys2Proof.Machine.execAxOutputStageFailure c s
  | .handoverSwitch c => Sys2Proof.Machine.execHandoverSwitch c s
  | .coreCalibrationDone c => Sys2Proof.Machine.execCoreCalibrationDone c s
  | .pilotPacketStart l => Sys2Proof.Machine.execPilotPacketStart l s
  | .pilotPacketEnd l => Sys2Proof.Machine.execPilotPacketEnd l s
  | .beaconIntervalExpiry l => Sys2Proof.Machine.execBeaconIntervalExpiry l s
  | .syncDetection l m diff preamble => Sys2Proof.Machine.execSyncDetection l m diff preamble s
  | .headerDecoded l hdr => Sys2Proof.Machine.execHeaderDecoded l hdr s
  | .bodyDecoded l body plq subOff rateOff => Sys2Proof.Machine.execBodyDecoded l body plq subOff rateOff s
  | .peerTimeout l => Sys2Proof.Machine.execPeerTimeout l s
  | .hslSignalDetect h => Sys2Proof.Machine.execHslSignalDetect h s
  | .hslClockRecoveryLocked h freq => Sys2Proof.Machine.execHslClockRecoveryLocked h s freq
  | .trainingFrameLock h inverted => Sys2Proof.Machine.execTrainingFrameLock h inverted s
  | .trainingWaitExpiry h => Sys2Proof.Machine.execTrainingWaitExpiry h s
  | .trainingMeasurementDone h snr atLimit => Sys2Proof.Machine.execTrainingMeasurementDone h snr atLimit s
  | .partnerRequest h q => Sys2Proof.Machine.execPartnerRequest h q s
  | .trainingComplete h => Sys2Proof.Machine.execTrainingComplete h s
  | .trainingTimeout h => Sys2Proof.Machine.execTrainingTimeout h s
  | .hslEqualisationConverged h snrs ffe dfe => Sys2Proof.Machine.execHslEqualisationConverged h snrs s ffe dfe
  | .markerHuntDone h inverted res skew => Sys2Proof.Machine.execMarkerHuntDone h inverted res skew s
  | .signalLoss h => Sys2Proof.Machine.execSignalLoss h s
  | .hslSnrWindowEnd h snr freqOut => Sys2Proof.Machine.execHslSnrWindowEnd h snr freqOut s
  | .elasticBufferSlip h high => Sys2Proof.Machine.execElasticBufferSlip h high s
  | .amLockLoss h pcs => Sys2Proof.Machine.execAmLockLoss h pcs s
  | .hslPeriodEnd h snr offset lo hi ups rs errs => Sys2Proof.Machine.execHslPeriodEnd h snr offset lo hi s ups rs errs
  | .faultRecoveryTimer h => Sys2Proof.Machine.execFaultRecoveryTimer h s
  | .warmAcquisitionTimeout h => Sys2Proof.Machine.execWarmAcquisitionTimeout h s
  | .blockReceived p d hdr => Sys2Proof.Machine.execBlockReceived p d hdr s
  | .blockLockWindowEnd p d => Sys2Proof.Machine.execBlockLockWindowEnd p d s
  | .frameParsed p d f => Sys2Proof.Machine.execFrameParsed p d f s
  | .portStartTimeout p => Sys2Proof.Machine.execPortStartTimeout p s
  | .keyInsertion => Sys2Proof.Machine.execKeyInsertion s
  | .earlyDrainDone ecc => Sys2Proof.Machine.execEarlyDrainDone s ecc
  | .dumpIntervalExpiry delay kept => Sys2Proof.Machine.execDumpIntervalExpiry delay kept s
  | .dumpPassComplete ecc => Sys2Proof.Machine.execDumpPassComplete s ecc
  | .spareBankFillDone b => Sys2Proof.Machine.execSpareBankFillDone b s
  | .logMarkerTimer => Sys2Proof.Machine.execLogMarkerTimer s
  | .pmcDumpIntervalExpiry delay kept => Sys2Proof.Machine.execPmcDumpIntervalExpiry delay kept s
  | .pmcDumpWritten => Sys2Proof.Machine.execPmcDumpWritten s
  | .sampleIntervalExpiry e cat op steps seg => Sys2Proof.Machine.execSampleIntervalExpiry e cat op steps seg s
  | .dmaRecordWritten ch src => Sys2Proof.Machine.execDmaRecordWritten ch src s
  | .thermalReading conv mr4 => Sys2Proof.Machine.execThermalReading conv mr4 s
  | .calIntervalExpiry b => Sys2Proof.Machine.execCalIntervalExpiry b s
  | .calibrationRunStart b => Sys2Proof.Machine.execCalibrationRunStart b s
  | .measurementPairDone b x y => Sys2Proof.Machine.execMeasurementPairDone b x y s
  | .ltxCalStep l => Sys2Proof.Machine.execLtxCalStep l s
  | .monconvFrame => Sys2Proof.Machine.execMonconvFrame s
  | .calDueTimer b => Sys2Proof.Machine.execCalDueTimer b s
  | .targetedTestDone kind pass => Sys2Proof.Machine.execTargetedTestDone kind pass s
  | .testSliceStart b => Sys2Proof.Machine.execTestSliceStart b s
  | .sliceTestDone b pass => Sys2Proof.Machine.execSliceTestDone b pass s
  | .coverageTimer b => Sys2Proof.Machine.execCoverageTimer b s
  | .imageCheckDone kernel sigOk digestOk => Sys2Proof.Machine.execImageCheckDone kernel sigOk digestOk s
  | .fwImageWritten ok => Sys2Proof.Machine.execFwImageWritten ok s
  | .paneLoaded ok => Sys2Proof.Machine.execPaneLoaded ok s
  | .firmwareStateSaved => Sys2Proof.Machine.execFirmwareStateSaved s
  | .newPaneResumed => Sys2Proof.Machine.execNewPaneResumed s
  | .paneMarkedActive => Sys2Proof.Machine.execPaneMarkedActive s
  | .paneSwitchTimeout => Sys2Proof.Machine.execPaneSwitchTimeout s
  | .shutterFlushDone => Sys2Proof.Machine.execShutterFlushDone s
  | .shutterDeadlineExpiry => Sys2Proof.Machine.execShutterDeadlineExpiry s
  | .shutterLogSaved => Sys2Proof.Machine.execShutterLogSaved s
  | .shutterHoldEnd => Sys2Proof.Machine.execShutterHoldEnd s
  | .shutdownBistDone fails => Sys2Proof.Machine.execShutdownBistDone fails s
  | .shutterPowerDown => Sys2Proof.Machine.execShutterPowerDown s
  | .getDevMode m => Sys2Proof.Machine.execGetDevMode m s
  | .enterDevMode m => Sys2Proof.Machine.execEnterDevMode m s
  | .shutterDevMode m => Sys2Proof.Machine.execShutterDevMode m s
  | .enterLaneTest m => Sys2Proof.Machine.execEnterLaneTest m s
  | .leaveLaneTest m => Sys2Proof.Machine.execLeaveLaneTest m s
  | .getDevFeature m => Sys2Proof.Machine.execGetDevFeature m s
  | .negotiateDevFeature m => Sys2Proof.Machine.execNegotiateDevFeature m s
  | .receiveDevEvent m => Sys2Proof.Machine.execReceiveDevEvent m s
  | .getMbxStats m => Sys2Proof.Machine.execGetMbxStats m s
  | .clearMbxStats m => Sys2Proof.Machine.execClearMbxStats m s
  | .loadFwImage m => Sys2Proof.Machine.execLoadFwImage m s
  | .getFwImage m => Sys2Proof.Machine.execGetFwImage m s
  | .grantPf1Grant m => Sys2Proof.Machine.execGrantPf1Grant m s
  | .revokePf1Grant m => Sys2Proof.Machine.execRevokePf1Grant m s
  | .getPf1Grant m => Sys2Proof.Machine.execGetPf1Grant m s
  | .getLrxCfg m => Sys2Proof.Machine.execGetLrxCfg m s
  | .setLrxCfg m => Sys2Proof.Machine.execSetLrxCfg m s
  | .getLrxStatus m => Sys2Proof.Machine.execGetLrxStatus m s
  | .getLrxQuality m => Sys2Proof.Machine.execGetLrxQuality m s
  | .getLrxEstimate m => Sys2Proof.Machine.execGetLrxEstimate m s
  | .getLrxSlices m => Sys2Proof.Machine.execGetLrxSlices m s
  | .restartLrxAcq m => Sys2Proof.Machine.execRestartLrxAcq m s
  | .captureLrxCapture m => Sys2Proof.Machine.execCaptureLrxCapture m s
  | .abortLrxCapture m => Sys2Proof.Machine.execAbortLrxCapture m s
  | .getSeaPolicy m => Sys2Proof.Machine.execGetSeaPolicy m s
  | .setSeaPolicy m => Sys2Proof.Machine.execSetSeaPolicy m s
  | .getSeaHinge m => Sys2Proof.Machine.execGetSeaHinge m s
  | .setSeaHinge m => Sys2Proof.Machine.execSetSeaHinge m s
  | .getSeaPlacement m => Sys2Proof.Machine.execGetSeaPlacement m s
  | .getSeaEngines m => Sys2Proof.Machine.execGetSeaEngines m s
  | .getSeaKernel m => Sys2Proof.Machine.execGetSeaKernel m s
  | .loadSeaKernel m => Sys2Proof.Machine.execLoadSeaKernel m s
  | .selectSeaKernel m => Sys2Proof.Machine.execSelectSeaKernel m s
  | .getSeaKparam m => Sys2Proof.Machine.execGetSeaKparam m s
  | .setSeaKparam m => Sys2Proof.Machine.execSetSeaKparam m s
  | .getSdfCfg m => Sys2Proof.Machine.execGetSdfCfg m s
  | .setSdfCfg m => Sys2Proof.Machine.execSetSdfCfg m s
  | .getSdfStatus m => Sys2Proof.Machine.execGetSdfStatus m s
  | .getSdfStats m => Sys2Proof.Machine.execGetSdfStats m s
  | .getSdfDetector m => Sys2Proof.Machine.execGetSdfDetector m s
  | .restartSdfHunt m => Sys2Proof.Machine.execRestartSdfHunt m s
  | .getLtxCfg m => Sys2Proof.Machine.execGetLtxCfg m s
  | .setLtxCfg m => Sys2Proof.Machine.execSetLtxCfg m s
  | .getLtxStatus m => Sys2Proof.Machine.execGetLtxStatus m s
  | .squelchLtxOut m => Sys2Proof.Machine.execSquelchLtxOut m s
  | .releaseLtxOut m => Sys2Proof.Machine.execReleaseLtxOut m s
  | .getHslCfg m => Sys2Proof.Machine.execGetHslCfg m s
  | .setHslCfg m => Sys2Proof.Machine.execSetHslCfg m s
  | .getHslGroup m => Sys2Proof.Machine.execGetHslGroup m s
  | .setHslGroup m => Sys2Proof.Machine.execSetHslGroup m s
  | .getHslStatus m => Sys2Proof.Machine.execGetHslStatus m s
  | .getHslQuality m => Sys2Proof.Machine.execGetHslQuality m s
  | .restartHslTrain m => Sys2Proof.Machine.execRestartHslTrain m s
  | .getPfxBlocklock m => Sys2Proof.Machine.execGetPfxBlocklock m s
  | .getPortCfg m => Sys2Proof.Machine.execGetPortCfg m s
  | .setPortCfg m => Sys2Proof.Machine.execSetPortCfg m s
  | .deletePortCfg m => Sys2Proof.Machine.execDeletePortCfg m s
  | .startPort m => Sys2Proof.Machine.execStartPort m s
  | .stopPort m => Sys2Proof.Machine.execStopPort m s
  | .getPortStatus m => Sys2Proof.Machine.execGetPortStatus m s
  | .getPltCfg m => Sys2Proof.Machine.execGetPltCfg m s
  | .setPltCfg m => Sys2Proof.Machine.execSetPltCfg m s
  | .sendPltPacket m => Sys2Proof.Machine.execSendPltPacket m s
  | .receivePltPacket m => Sys2Proof.Machine.execReceivePltPacket m s
  | .getPltPeer m => Sys2Proof.Machine.execGetPltPeer m s
  | .setPltPeer m => Sys2Proof.Machine.execSetPltPeer m s
  | .getPltStatus m => Sys2Proof.Machine.execGetPltStatus m s
  | .getLexCfg m => Sys2Proof.Machine.execGetLexCfg m s
  | .setLexCfg m => Sys2Proof.Machine.execSetLexCfg m s
  | .getLexPort m => Sys2Proof.Machine.execGetLexPort m s
  | .setLexPort m => Sys2Proof.Machine.execSetLexPort m s
  | .getLexContext m => Sys2Proof.Machine.execGetLexContext m s
  | .insertLexContext m => Sys2Proof.Machine.execInsertLexContext m s
  | .deleteLexContext m => Sys2Proof.Machine.execDeleteLexContext m s
  | .flushLexDump m => Sys2Proof.Machine.execFlushLexDump m s
  | .getLexStats m => Sys2Proof.Machine.execGetLexStats m s
  | .getTkuDomain m => Sys2Proof.Machine.execGetTkuDomain m s
  | .setTkuDomain m => Sys2Proof.Machine.execSetTkuDomain m s
  | .getTkuPort m => Sys2Proof.Machine.execGetTkuPort m s
  | .setTkuPort m => Sys2Proof.Machine.execSetTkuPort m s
  | .getTkuStats m => Sys2Proof.Machine.execGetTkuStats m s
  | .getHifLink m => Sys2Proof.Machine.execGetHifLink m s
  | .getHifWindow m => Sys2Proof.Machine.execGetHifWindow m s
  | .setHifWindow m => Sys2Proof.Machine.execSetHifWindow m s
  | .getHifDma m => Sys2Proof.Machine.execGetHifDma m s
  | .setHifDma m => Sys2Proof.Machine.execSetHifDma m s
  | .getHifMgt m => Sys2Proof.Machine.execGetHifMgt m s
  | .getIcuEvent m => Sys2Proof.Machine.execGetIcuEvent m s
  | .setIcuEvent m => Sys2Proof.Machine.execSetIcuEvent m s
  | .getIcuMgt m => Sys2Proof.Machine.execGetIcuMgt m s
  | .setIcuMgt m => Sys2Proof.Machine.execSetIcuMgt m s
  | .getMemCfg m => Sys2Proof.Machine.execGetMemCfg m s
  | .setMemCfg m => Sys2Proof.Machine.execSetMemCfg m s
  | .getMemStatus m => Sys2Proof.Machine.execGetMemStatus m s
  | .getMemEcho m => Sys2Proof.Machine.execGetMemEcho m s
  | .getMemSpares m => Sys2Proof.Machine.execGetMemSpares m s
  | .getMemStats m => Sys2Proof.Machine.execGetMemStats m s
  | .getOcuAx m => Sys2Proof.Machine.execGetOcuAx m s
  | .setOcuAx m => Sys2Proof.Machine.execSetOcuAx m s
  | .getOcuCode m => Sys2Proof.Machine.execGetOcuCode m s
  | .setOcuCode m => Sys2Proof.Machine.execSetOcuCode m s
  | .getOcuMn m => Sys2Proof.Machine.execGetOcuMn m s
  | .setOcuMn m => Sys2Proof.Machine.execSetOcuMn m s
  | .getOcuLoop m => Sys2Proof.Machine.execGetOcuLoop m s
  | .setOcuLoop m => Sys2Proof.Machine.execSetOcuLoop m s
  | .getOcuLane m => Sys2Proof.Machine.execGetOcuLane m s
  | .getOcuStats m => Sys2Proof.Machine.execGetOcuStats m s
  | .getCalCfg m => Sys2Proof.Machine.execGetCalCfg m s
  | .setCalCfg m => Sys2Proof.Machine.execSetCalCfg m s
  | .getCalBlock m => Sys2Proof.Machine.execGetCalBlock m s
  | .runCalBlock m => Sys2Proof.Machine.execRunCalBlock m s
  | .clearCalBlock m => Sys2Proof.Machine.execClearCalBlock m s
  | .getThmCfg m => Sys2Proof.Machine.execGetThmCfg m s
  | .setThmCfg m => Sys2Proof.Machine.execSetThmCfg m s
  | .getThmSensor m => Sys2Proof.Machine.execGetThmSensor m s
  | .ackThmSensor m => Sys2Proof.Machine.execAckThmSensor m s
  | .getThmStatus m => Sys2Proof.Machine.execGetThmStatus m s
  | .clearThmStatus m => Sys2Proof.Machine.execClearThmStatus m s
  | .getFwPane m => Sys2Proof.Machine.execGetFwPane m s
  | .switchFwPane m => Sys2Proof.Machine.execSwitchFwPane m s
  | .getTstCfg m => Sys2Proof.Machine.execGetTstCfg m s
  | .setTstCfg m => Sys2Proof.Machine.execSetTstCfg m s
  | .getTstStatus m => Sys2Proof.Machine.execGetTstStatus m s
  | .getTstVerdicts m => Sys2Proof.Machine.execGetTstVerdicts m s
  | .getRepRecord m => Sys2Proof.Machine.execGetRepRecord m s
  | .getRelYields m => Sys2Proof.Machine.execGetRelYields m s
  | .getPmcCounter m => Sys2Proof.Machine.execGetPmcCounter m s
  | .setPmcCounter m => Sys2Proof.Machine.execSetPmcCounter m s
  | .clearPmcCounter m => Sys2Proof.Machine.execClearPmcCounter m s
  | .getPmcDump m => Sys2Proof.Machine.execGetPmcDump m s
  | .setPmcDump m => Sys2Proof.Machine.execSetPmcDump m s
  | .flushPmcDump m => Sys2Proof.Machine.execFlushPmcDump m s
  | .getPmcSample m => Sys2Proof.Machine.execGetPmcSample m s
  | .setPmcSample m => Sys2Proof.Machine.execSetPmcSample m s
  | .getPwrCfg m => Sys2Proof.Machine.execGetPwrCfg m s
  | .setPwrCfg m => Sys2Proof.Machine.execSetPwrCfg m s
  | .getPwrStatus m => Sys2Proof.Machine.execGetPwrStatus m s
  | .clearPwrStatus m => Sys2Proof.Machine.execClearPwrStatus m s
  | .getPwrRail m => Sys2Proof.Machine.execGetPwrRail m s
  | .bcntTick => Sys2Proof.Machine.execBcntTick s
  | .mbxDoorbellRing verb noun m => Sys2Proof.Machine.execMbxDoorbellRing verb noun m s
  | .amLockRegained h => Sys2Proof.Machine.execAmLockRegained h s
  | .perstNDeassert => Sys2Proof.Machine.execPerstNDeassert s

end Sys2Proof.Machine
end

