-- ==== Sys2Proof/Safety.lean ====
section
/-! DEFINITION. What counts as a safe run of the block: every step answers a next state, changes only what its command may
change, and keeps the bounds that the spec gives the part's stores. -/

namespace Sys2Proof.Machine

/-- The queue's commands all complete, one after another, within `n` steps. -/
def safeRun : Nat → State → Bool
  | 0, _ => true
  | n + 1, s =>
    match step s with
    | .next t => safeRun n t
    | _ => false

/-! The components of the state that a frame names. -/

/-- The device's record but for mode, guard causes and the bus output. -/
def Dev.rest (x : Dev) : Dev := { x with mode := .starting, guard := 0, guardSince := [], busRead := {} }

/-- The host interface but for the L1 flag of the link. -/
def Hif.rest (x : Hif) : Hif := { x with l1 := false }

/-- A receiver but for its power state, LOS and the arrangement of its slices. -/
def Lrx.rest (x : Lrx) : Lrx :=
  { x with power := .off, los := false, losSince := 0, losFirst := true, frozen := false, slices := [], transom := 64,
           rotStep := 0, rotPos := 0, rotOld := none }

/-- A host lane but for what it sends and how that is timed. -/
def HostLane.rest (x : HostLane) : HostLane := { x with tx := .off, localTimed := true }

/-- Memory but for its bytes. -/
def Mem.rest (x : Mem) : Mem := { x with data := [] }

/-- The counters' unit but for the counters. -/
def Pmcs.rest (x : Pmcs) : Pmcs := { x with ctr := [] }

/-- The components of the state. A component with `Rest` in its name is the record of that name but for the components beside
it; `lnRx` is a receiver but for power, LOS and slices, `lnRxPower` the whole receiver; `outstanding` changes where a
requester has more commands outstanding than before, `evTaken` where an event raised before no longer stands in its place. -/
inductive Comp where
  | pending | free | fuses | devMode | devBus | devRest | shut | mb | evRaised
  | evQueue | evUrgent | icu | hifL1 | hifRest | err | tku | params | stats
  | lnState | lnRx | lnRxPower | lnSea | lnSdf | lnLtx | lnPlt | lnOptics | hostRest
  | hostTx | group | port | block | eng | hinge | lex | memData | memRest
  | rep | ocu | cal | thm | tst | pmcCtr | pmcRest | pwr | fw
  | cap | outstanding | evTaken
deriving DecidableEq, Repr

/-- A component is not changed from `s` to `t`. -/
def Comp.same (c : Comp) (s t : State) : Prop :=
  match c with
  | .pending => s.pending = t.pending
  | .free => s.free = t.free
  | .fuses => s.fuses = t.fuses
  | .devMode => s.dev.mode = t.dev.mode ∧ s.dev.guard = t.dev.guard ∧ s.dev.guardSince = t.dev.guardSince
  | .devBus => s.dev.busRead = t.dev.busRead
  | .devRest => s.dev.rest = t.dev.rest
  | .shut => s.shut = t.shut
  | .mb => s.mb = t.mb
  | .evRaised => s.ev.raised = t.ev.raised
  | .evQueue => s.ev.queue = t.ev.queue
  | .evUrgent => s.ev.urgent = t.ev.urgent
  | .icu => s.icu = t.icu
  | .hifL1 => s.hif.l1 = t.hif.l1
  | .hifRest => s.hif.rest = t.hif.rest
  | .err => s.err = t.err
  | .tku => s.tku = t.tku
  | .params => s.params = t.params
  | .stats => s.stats = t.stats
  | .lnState => ∀ l, (s.lineAt l).state = (t.lineAt l).state ∧ (s.lineAt l).stuck = (t.lineAt l).stuck ∧ (s.lineAt l).badStage = (t.lineAt l).badStage
  | .lnRx => ∀ l, (s.lineAt l).lrx.rest = (t.lineAt l).lrx.rest
  | .lnRxPower => ∀ l, (s.lineAt l).lrx = (t.lineAt l).lrx
  | .lnSea => ∀ l, (s.lineAt l).sea = (t.lineAt l).sea
  | .lnSdf => ∀ l, (s.lineAt l).sdf = (t.lineAt l).sdf
  | .lnLtx => ∀ l, (s.lineAt l).ltx = (t.lineAt l).ltx
  | .lnPlt => ∀ l, (s.lineAt l).plt = (t.lineAt l).plt
  | .lnOptics => ∀ l, (s.lineAt l).optics = (t.lineAt l).optics ∧ (s.lineAt l).optSince = (t.lineAt l).optSince
  | .hostRest => ∀ h, (s.hostAt h).rest = (t.hostAt h).rest
  | .hostTx => ∀ h, s.hostAt h = t.hostAt h
  | .group => s.group = t.group
  | .port => s.port = t.port
  | .block => s.block = t.block
  | .eng => s.eng = t.eng
  | .hinge => s.hinge = t.hinge
  | .lex => s.lex = t.lex
  | .memData => s.mem.data = t.mem.data
  | .memRest => s.mem.rest = t.mem.rest
  | .rep => s.rep = t.rep
  | .ocu => s.ocu = t.ocu
  | .cal => s.cal = t.cal
  | .thm => s.thm = t.thm
  | .tst => s.tst = t.tst
  | .pmcCtr => s.pmc.ctr = t.pmc.ctr
  | .pmcRest => s.pmc.rest = t.pmc.rest
  | .pwr => s.pwr = t.pwr
  | .fw => s.fw = t.fw
  | .cap => s.cap = t.cap
  | .outstanding => ∀ r, (t.outstandingOf r).length ≤ (s.outstandingOf r).length
  | .evTaken => s.ev.raised <+: t.ev.raised

/-- A change of state leaves every component alone but those listed. -/
def OnlyChanges (cs : List Comp) (s t : State) : Prop := ∀ c : Comp, c ∉ cs → c.same s t

/-! The bounds that every step keeps. -/

/-- The bounds: LPDDR5X in canonical form; the 960 places of each event queue that R458 leaves to records other than
completions; 64 outstanding commands of a requester (R456); 2,048 entries of the repair record (R651); 36-bit statistics and
counters (R668, R676); 64 entries of the correction-echo table (R532). -/
inductive Bound where
  | memory | queues | outstanding | repair | stats | counters | echo
deriving DecidableEq, Repr

/-- A bound holds. -/
def Bound.holds (b : Bound) (s : State) : Prop :=
  match b with
  | .memory => Memory.wf s.mem.data
  | .queues => ∀ r, (s.queueAt r).others ≤ 960
  | .outstanding => ∀ r, (s.outstandingOf r).length ≤ 64
  | .repair => s.rep.entries.length ≤ 2048
  | .stats => ∀ p ∈ s.stats, p.2.live ≤ max36
  | .counters => ∀ p ∈ s.pmc.ctr, p.2.value ≤ max36
  | .echo => s.mem.echo.length ≤ 64

/-! Completion. -/

/-- A command completes: in every state that meets `pre` it answers a next state, and `post` holds of the two. -/
def Completes (c : Instr) (pre : State → Prop) (post : State → State → Prop) : Prop :=
  ∀ s, pre s → ∃ t, exec c s = .next t ∧ post s t

/-- Events reach the raised list: no pane switch holds them back (R658). -/
abbrev State.hears (s : State) : Prop := s.eventsHeld = false

/-- A command raises an event with these words, after the events that were raised before it. -/
def Raises (s t : State) (code : Nat) (data : List Word) : Prop :=
  s.ev.raised <+: t.ev.raised ∧ ({ code := code, bcnt := s.tku.bcnt, data := data } : Ev) ∈ t.ev.raised

/-- The device address under offset `off` of a requester's BAR2 window at its reset base (R476). -/
def windowAddr (r : Requester) (off : Nat) : Nat := (if r = .pf0 then 0x20000000 else 0x30000000) + off

/-! Sentences. -/

/-- The payload words of a sentence: those that its length counts. -/
def payloadOf (m : Sentence) : List Word := m.words.take ((m.len.toNat + 3) / 4)

/-- A sentence is taken and its checks of R453 up to step 9 pass: the mailbox can be reached and is not BUSY, firmware begins
commands, and every payload word is written. -/
structure State.Takes (s : State) (c : CmdSpec) (m : Sentence) : Prop where
  reach : s.reach m.req m.mbx = true
  ready : (s.boxAt m.req m.mbx).state ≠ .busy
  begins : s.begins = true
  started : s.dev.mode ≠ .startFailed
  written : (m.len.toNat + 3) / 4 ≤ m.words.length
  fits : m.words.length ≤ 1008
  passes : commonCheck c m (payloadOf m) s = none

/-- The state in which a command that was taken is carried out: its sentence stands in the mailbox, which is BUSY, and event
0x010 has counted it. -/
def State.begun (s : State) (verb noun : Nat) (m : Sentence) : State :=
  (((s.modBox m.req m.mbx fun b =>
      { b with cmd := Word.nat (verb + noun * 256 + m.inst.toNat * 65536 + m.adverbs.toNat * 16777216)
               taglen := Word.nat (m.tag.toNat + m.len.toNat * 65536)
               payload := putWords b.payload 0 m.words }).modBox m.req m.mbx fun b => { b with state := .busy }).pmcEvent 0x010 1)

/-- The mailbox is COMPLETE with a status, and its SEQ has moved on. -/
def Replied (s t : State) (m : Sentence) (code detail : Nat) : Prop :=
  (t.boxAt m.req m.mbx).state = .complete ∧ (t.boxAt m.req m.mbx).status = Word.nat (code + detail * 256) ∧
    (t.boxAt m.req m.mbx).seq = (s.boxAt m.req m.mbx).seq + 1

/-- The mailbox holds result words, and MBX_RESP their length in bytes beside the tag. -/
def Delivers (t : State) (m : Sentence) (ws : List Word) : Prop :=
  (t.boxAt m.req m.mbx).resp = Word.nat (m.tag.toNat + 4 * ws.length * 65536) ∧
    ∀ i, i < ws.length → tget (t.boxAt m.req m.mbx).payload (fun _ => 0) i = ws.getD i 0

/-- A GET that passes the checks replies DONE with the words that `f` reads. -/
def Reads (c : Sentence → Instr) (k : CmdSpec) (f : State → Nat → List Word) : Prop :=
  ∀ m s, s.Takes k m → ∃ t, exec (c m) s = .next t ∧ Replied s t m cDone 0 ∧
    Delivers t m (f (s.begun k.verb k.noun m) m.inst.toNat)

/-- A command without CHECK that passes the checks, in a state that meets `pre`, completes, and `post` holds. -/
def Carries (c : Sentence → Instr) (k : CmdSpec) (pre : Sentence → State → Prop)
    (post : Sentence → State → State → Prop) : Prop :=
  ∀ m s, s.Takes k m → m.check = false → pre m s → ∃ t, exec (c m) s = .next t ∧ post m s t

/-- A SET of the mask form without CHECK: where its own check passes it replies DONE and the parameters hold the payload's values,
the others what they held; where the check refuses, the reply is the refusal and no parameter changes. -/
def Sets (c : Sentence → Instr) (k : CmdSpec) (check : State → Sentence → List Word → Option Refuse)
    (pre : Sentence → State → Prop) : Prop :=
  (∀ r cs, Carries c k
    (fun m s => pre m s ∧ check (s.begun k.verb k.noun m) m (payloadOf m) = none ∧
      parseMask (paramRows k.noun) m.len.toNat (payloadOf m) = .ok r cs)
    fun m s t => Replied s t m cDone 0 ∧ t.params = (s.applyChanges k.noun m.inst.toNat cs).params) ∧
  ∀ r, Carries c k (fun m s => check (s.begun k.verb k.noun m) m (payloadOf m) = some r)
    fun m s t => Replied s t m r.code r.detail ∧ t.params = s.params

/-! Frames: what each command may change. -/

/-- The settling of guard causes, mode, error summary and interrupts. -/
def settled : List Comp :=
  [.devMode, .evRaised, .evQueue, .icu, .hifL1, .err, .pmcCtr]

/-- Settling, and what follows a change of lanes, ports or mode. -/
def followed : List Comp :=
  [.devMode, .evRaised, .evQueue, .icu, .hifL1, .err, .lnRxPower, .lnLtx, .lnPlt, .lnOptics, .hostTx, .group, .ocu, .cal, .pmcCtr]

/-- A reply of a mailbox, and what its event counts. -/
def replied : List Comp :=
  [.mb, .evRaised, .evQueue, .icu, .hifL1, .pmcCtr, .outstanding]

/-- The components that a command may change; every other component of the state it leaves as it was. -/
def mayChange (c : Instr) : List Comp :=
  match c with
  | .registerWrite _ _ _ _ => followed ++ replied ++ [.free, .devRest, .shut, .evUrgent, .hifRest, .tku, .params, .stats, .lnState, .lnRx, .lnSea, .lnSdf, .hostRest, .port, .block, .eng, .hinge, .lex, .thm, .tst, .pmcRest, .pwr, .fw, .cap]
  | .bar0WideRead _ _ _ => [.devBus]
  | .readLoSnapshot _ _ => [.devBus, .evRaised, .evQueue, .icu, .hifL1, .hifRest, .err, .pmcCtr]
  | .tkuBcntLoRead _ => [.devBus, .hifRest]
  | .tkuIncLoWrite _ _ _ => [.evRaised, .evQueue, .icu, .hifL1, .hifRest, .err, .tku, .pmcCtr]
  | .tkuIncHiWrite _ _ _ => [.evRaised, .evQueue, .icu, .hifL1, .hifRest, .err, .tku, .pmcCtr]
  | .tkuStepGoA _ => [.evRaised, .evQueue, .icu, .hifL1, .hifRest, .err, .tku, .pmcCtr]
  | .tkuStepGoB _ _ => [.evRaised, .evQueue, .icu, .hifL1, .hifRest, .err, .tku, .pmcCtr]
  | .tkuDomSelWrite _ _ => [.evRaised, .evQueue, .icu, .hifL1, .hifRest, .err, .tku, .pmcCtr]
  | .tkuStatusClear _ _ _ => [.evRaised, .evQueue, .icu, .hifL1, .hifRest, .err, .tku, .pmcCtr]
  | .icuClaimRead _ _ => [.devBus, .icu]
  | .icuCompleteWrite _ _ => [.evRaised, .evQueue, .icu, .hifL1, .pmcCtr]
  | .icuLevelRead _ => [.devBus, .icu]
  | .icuEnableWrite _ _ => [.evRaised, .evQueue, .icu, .hifL1, .pmcCtr]
  | .icuPmeCauseClear _ _ _ => [.icu]
  | .msixUnmask _ _ => [.evRaised, .evQueue, .icu, .hifL1, .pmcCtr]
  | .pmcValueLoRead _ => [.devBus, .hifRest, .pmcCtr]
  | .pmcGroupLatchGo _ => [.evRaised, .evQueue, .icu, .hifL1, .hifRest, .err, .pmcCtr]
  | .dmaTailWrite _ _ _ => [.evRaised, .evQueue, .icu, .hifL1, .hifRest, .err, .pmcCtr]
  | .dmaStatusClear _ _ _ _ => [.evRaised, .evQueue, .icu, .hifL1, .hifRest, .err, .pmcCtr]
  | .errStickyRead _ _ => [.devBus, .evRaised, .evQueue, .icu, .hifL1, .hifRest, .err, .pmcCtr]
  | .idErrRead _ _ => [.devBus, .evRaised, .evQueue, .icu, .hifL1, .hifRest, .err, .pmcCtr]
  | .mgtMbxStatusRead _ => [.devBus, .icu]
  | .mgtTransferDiscarded => [.evRaised, .evQueue, .icu, .hifL1, .hifRest, .err, .pmcCtr]
  | .i3cDynamicAddress _ => [.hifRest]
  | .i3cRstdaa => [.hifRest]
  | .ibiDeclined => [.icu]
  | .bar2Read _ _ _ _ => [.devBus, .evRaised, .evQueue, .stats, .memRest, .pmcCtr]
  | .bar2Write _ _ _ _ => [.evRaised, .evQueue, .hifRest, .stats, .memData, .memRest, .pmcCtr]
  | .echoEntryExpiry _ _ => [.memRest]
  | .repairCopyDone _ => [.evRaised, .evQueue, .stats, .memRest]
  | .marchTestDone _ _ => settled ++ [.stats, .memRest]
  | .repairRecordAppend => settled ++ [.memRest, .rep]
  | .refreshCommand _ => [.evRaised, .evQueue, .memRest]
  | .vinValid _ _ => followed ++ [.devBus, .devRest, .shut, .mb, .evUrgent, .hifRest, .tku, .params, .stats, .lnState, .lnRx, .lnSea, .lnSdf, .hostRest, .port, .block, .eng, .hinge, .lex, .memData, .memRest, .thm, .tst, .pmcRest, .pwr, .fw, .cap, .evTaken]
  | .railInRegulation => [.pwr]
  | .pgoodReleaseTimer => [.devRest, .pwr]
  | .fuseMapLoaded _ => settled ++ [.devRest]
  | .memoryFillDone _ => settled ++ [.devRest, .memData, .memRest]
  | .firmwareLoadDone _ => followed ++ replied ++ [.free, .devRest, .shut, .evUrgent, .hifRest, .tku, .params, .stats, .lnState, .lnRx, .lnSea, .lnSdf, .hostRest, .port, .block, .eng, .hinge, .lex, .thm, .tst, .pmcRest, .pwr, .fw, .cap]
  | .repairRecordApplied _ => settled ++ [.devRest, .tku, .lnState, .lnRxPower, .lnLtx, .lnPlt, .lnOptics, .hostTx, .group, .eng, .lex, .memRest, .rep, .ocu, .tst]
  | .startUpComplete => followed ++ replied ++ [.free, .devRest, .shut, .evUrgent, .hifRest, .tku, .params, .stats, .lnState, .lnRx, .lnSea, .lnSdf, .hostRest, .port, .block, .eng, .hinge, .lex, .thm, .tst, .pmcRest, .pwr, .fw, .cap]
  | .vinUndervoltage _ => followed ++ [.free, .devRest, .shut, .mb, .params, .stats, .lnState, .lnRx, .lnSea, .lnSdf, .hostRest, .port, .eng, .hinge, .lex, .tst, .pmcRest, .pwr, .fw, .cap]
  | .vinPowerDown => followed ++ [.devBus, .devRest, .shut, .mb, .evUrgent, .hifRest, .tku, .params, .stats, .lnState, .lnRx, .lnSea, .lnSdf, .hostRest, .port, .block, .eng, .hinge, .lex, .memData, .memRest, .thm, .tst, .pmcRest, .pwr, .fw, .cap, .evTaken]
  | .inputOvervoltage => followed ++ [.devBus, .devRest, .shut, .mb, .evUrgent, .hifRest, .tku, .params, .stats, .lnState, .lnRx, .lnSea, .lnSdf, .hostRest, .port, .block, .eng, .hinge, .lex, .memData, .memRest, .thm, .tst, .pmcRest, .pwr, .fw, .cap, .evTaken]
  | .enFall => followed ++ [.devBus, .devRest, .shut, .mb, .evUrgent, .hifRest, .tku, .params, .stats, .lnState, .lnRx, .lnSea, .lnSdf, .hostRest, .port, .block, .eng, .hinge, .lex, .memData, .memRest, .thm, .tst, .pmcRest, .pwr, .fw, .cap, .evTaken]
  | .enRise => followed ++ [.devBus, .devRest, .shut, .mb, .evUrgent, .hifRest, .tku, .params, .stats, .lnState, .lnRx, .lnSea, .lnSdf, .hostRest, .port, .block, .eng, .hinge, .lex, .memData, .memRest, .thm, .tst, .pmcRest, .pwr, .fw, .cap, .evTaken]
  | .sysRstNAct => followed ++ [.devBus, .devRest, .shut, .mb, .evUrgent, .hifRest, .tku, .params, .stats, .lnState, .lnRx, .lnSea, .lnSdf, .hostRest, .port, .block, .eng, .hinge, .lex, .memData, .memRest, .thm, .tst, .pmcRest, .pwr, .fw, .cap, .evTaken]
  | .sysRstNRelease => followed ++ [.devBus, .devRest, .shut, .mb, .evUrgent, .hifRest, .tku, .params, .stats, .lnState, .lnRx, .lnSea, .lnSdf, .hostRest, .port, .block, .eng, .hinge, .lex, .memData, .memRest, .thm, .tst, .pmcRest, .pwr, .fw, .cap, .evTaken]
  | .railFault _ _ => followed ++ [.devBus, .devRest, .shut, .mb, .evUrgent, .hifRest, .tku, .params, .stats, .lnState, .lnRx, .lnSea, .lnSdf, .hostRest, .port, .block, .eng, .hinge, .lex, .memData, .memRest, .thm, .tst, .pmcRest, .pwr, .fw, .cap, .evTaken]
  | .railCurrentDwell _ _ => [.evRaised, .evQueue, .pwr]
  | .backstopTrip => followed ++ [.devBus, .devRest, .shut, .mb, .evUrgent, .hifRest, .tku, .params, .stats, .lnState, .lnRx, .lnSea, .lnSdf, .hostRest, .port, .block, .eng, .hinge, .lex, .memData, .memRest, .thm, .tst, .pmcRest, .pwr, .fw, .cap, .evTaken]
  | .laneRefclkAbsent => followed ++ [.devRest, .mb, .tku, .stats, .lnState, .lnRx, .lnSdf, .hostRest, .port]
  | .laneRefclkPresent => followed ++ [.devRest, .tku, .stats, .lnRx, .lnSdf, .hostRest]
  | .perstNAssert => [.devRest, .mb, .evRaised, .evQueue, .icu, .hifL1, .hifRest, .pmcCtr]
  | .functionLevelReset _ => [.devRest, .mb, .evRaised, .evQueue, .icu, .hifL1, .hifRest, .pmcCtr]
  | .hotReset => [.devRest, .mb, .evRaised, .evQueue, .icu, .hifL1, .hifRest, .pmcCtr]
  | .linkDown => [.evRaised, .evQueue, .hifL1, .hifRest]
  | .linkUp _ _ => [.evRaised, .evQueue, .hifL1, .hifRest]
  | .enterD3hot _ => [.hifL1, .hifRest]
  | .enterD0 _ => [.evRaised, .evQueue, .icu, .hifL1, .hifRest, .pmcCtr]
  | .enterD3cold _ => [.evRaised, .evQueue, .icu, .hifL1, .hifRest, .pmcCtr]
  | .aspmL1Entry => [.hifL1, .hifRest]
  | .tapTakeoverLoad _ => [.evRaised, .evQueue, .hifL1, .hifRest]
  | .tapRelease => [.hifL1, .hifRest]
  | .eventRaised _ => [.devRest, .evRaised, .evQueue, .icu, .hifL1, .err, .pmcCtr, .evTaken]
  | .coalescingTimerExpiry _ _ => [.evRaised, .evQueue, .icu, .hifL1, .pmcCtr]
  | .datapathPowered _ => followed ++ [.free, .devRest, .mb, .stats, .lnState, .lnRx, .lnSea, .lnSdf, .hostRest, .port, .eng, .hinge, .lex, .tst, .pwr]
  | .losAssert _ => followed ++ [.stats, .lnState, .lnRx, .lnSdf, .hostRest, .port, .evTaken]
  | .losClear _ => followed ++ [.stats, .lnRx, .lnSdf]
  | .receiverPowerSettled _ => [.lnRx, .lnRxPower]
  | .agcSettled _ _ => [.lnRx, .lnRxPower]
  | .sliceCorrectionConverged _ => [.lnRx, .lnRxPower]
  | .timingRecoveryLocked _ _ => [.lnRx, .lnRxPower, .lnSea]
  | .ffeConverged _ _ => [.lnRx, .lnRxPower, .lnSea]
  | .acquisitionTimeout _ => [.evRaised, .evQueue, .stats, .lnRx, .lnRxPower, .lnSdf]
  | .estimatePeriodEnd _ _ _ _ => followed ++ [.free, .mb, .tku, .stats, .lnState, .lnRx, .lnSea, .port, .eng, .hinge, .lex, .tst]
  | .snrWindowEnd _ _ => followed ++ [.stats, .lnState, .lnRx, .lnSdf, .hostRest, .port]
  | .timingFrequencyOutOfRange _ => followed ++ [.stats, .lnState, .lnRx, .lnSdf, .hostRest, .port]
  | .backgroundWindowEnd _ _ _ => followed ++ [.stats, .lnState, .lnRx, .hostRest, .port, .tst, .cap]
  | .rotationStepStart _ => [.lnRx, .lnRxPower, .cal]
  | .shadowComparisonDone _ _ => followed ++ [.stats, .tst]
  | .rotationSwitch _ => [.lnRxPower, .cal]
  | .transomCalibrationDone _ _ => followed ++ [.stats, .lnState, .lnRx, .hostRest, .port, .tst, .cap]
  | .captureStartCondition => [.cap]
  | .captureSegmentStart => [.cap]
  | .captureSegmentDrained _ _ _ => [.free, .mb, .evRaised, .evQueue, .icu, .hifL1, .stats, .lnSea, .eng, .hinge, .lex, .memData, .memRest, .tst, .pmcCtr, .cap]
  | .blockEntersFifo _ _ => [.evRaised, .evQueue, .lnRx, .lnRxPower, .lnSea, .eng, .pmcCtr]
  | .blockRelease _ _ _ => followed ++ [.free, .mb, .stats, .lnSea, .eng, .hinge, .lex, .memRest, .tst]
  | .fifoWatermarkCrossed _ => [.lnSea]
  | .fifoOverflow _ => followed ++ [.stats, .lnState, .lnRx, .lnSea, .lnSdf, .hostRest, .port, .tst]
  | .slackReport _ _ => settled ++ [.free, .mb, .stats, .lnRxPower, .lnSea, .lnLtx, .lnPlt, .lnOptics, .hostTx, .group, .eng, .hinge, .lex, .ocu, .tst, .pwr]
  | .loweringDwellExpiry => [.pwr]
  | .vcoreReductionAnnounced => [.pwr]
  | .vcoreStepSettled _ => followed ++ [.free, .mb, .stats, .lnSea, .eng, .hinge, .lex, .tst, .pwr]
  | .planBlockBoundary _ => followed ++ [.free, .mb, .params, .stats, .lnSea, .eng, .hinge, .lex, .tst]
  | .raiseDwellExpiry => followed ++ [.free, .mb, .stats, .lnSea, .eng, .lex, .tst]
  | .swapStaged _ => [.free, .lnSea, .eng]
  | .shadowSettleEnd _ _ => [.lnSea, .eng]
  | .swapComparisonDone _ _ _ => [.lnSea]
  | .swapSwitch _ => followed ++ [.free, .mb, .params, .stats, .lnSea, .eng, .lex, .tst]
  | .shadowReturn _ => followed ++ [.free, .mb, .lnSea, .eng, .lex, .tst]
  | .coefficientPush _ _ => [.evRaised, .evQueue, .lnSea, .eng, .pmcCtr]
  | .shadowRefresh _ => [.eng]
  | .engineFault _ _ => followed ++ [.free, .mb, .stats, .lnSea, .eng, .hinge, .lex, .memRest, .tst]
  | .adaptEngineFault _ _ => followed ++ [.free, .mb, .stats, .lnSea, .eng, .hinge, .lex, .memRest, .tst]
  | .huntTestDone _ _ _ _ => followed ++ [.free, .mb, .tku, .stats, .lnState, .lnRx, .lnSdf, .port]
  | .lockWindowEnd _ _ => followed ++ [.stats, .lnState, .lnRx, .lnSdf, .hostRest, .port]
  | .innerCodewordDecode _ _ _ => [.stats, .lnSdf]
  | .rsCodewordDecode _ _ => [.stats, .lnSdf]
  | .sdfPeriodEnd _ _ => [.free, .evRaised, .evQueue, .lnSdf]
  | .fixedStageFault _ _ _ => followed ++ [.tku, .tst]
  | .ltxSettingsApply _ _ => [.lnLtx, .lnPlt]
  | .swingStep _ => [.lnLtx]
  | .dacSettled _ => [.evRaised, .evQueue, .lnLtx, .lnOptics, .ocu]
  | .opticsReady _ => followed
  | .opticsSettleTimeout _ => [.evRaised, .evQueue, .lnLtx, .lnOptics, .ocu]
  | .opticsRetryTimer _ => [.lnLtx]
  | .rampUpEnd _ => followed
  | .rampDownEnd _ => followed ++ [.mb, .stats]
  | .dacCellFailure _ _ _ => followed ++ [.stats, .lnState, .lnRx, .hostRest, .port, .tst]
  | .opticsReleaseTimer _ => [.evRaised, .evQueue, .lnLtx, .lnOptics, .ocu]
  | .axRampUpdate _ => [.evRaised, .evQueue, .lnOptics, .ocu]
  | .monitorOutputSample _ _ _ => followed ++ [.free, .hifRest, .stats, .memData, .memRest]
  | .loopUpdate _ => settled ++ [.stats, .lnOptics, .ocu]
  | .axCoreFault _ _ => followed ++ [.stats, .tst]
  | .axOutputStageFailure _ => followed
  | .handoverSwitch _ => followed ++ [.stats, .lnState, .lnRx, .hostRest, .port, .tst, .cap]
  | .coreCalibrationDone _ => followed ++ [.stats, .lnState, .lnRx, .hostRest, .port, .tst, .cap]
  | .pilotPacketStart _ => [.lnPlt]
  | .pilotPacketEnd _ => [.mb, .evRaised, .evQueue, .icu, .hifL1, .stats, .lnPlt, .pmcCtr]
  | .beaconIntervalExpiry _ => [.stats, .lnPlt]
  | .syncDetection _ _ _ _ => [.stats, .lnPlt]
  | .headerDecoded _ _ => [.stats, .lnPlt]
  | .bodyDecoded _ _ _ _ _ => [.evRaised, .evQueue, .stats, .lnPlt]
  | .peerTimeout _ => [.evRaised, .evQueue, .lnPlt]
  | .hslSignalDetect _ => followed ++ [.stats, .hostRest]
  | .hslClockRecoveryLocked _ _ => followed ++ [.hostRest]
  | .trainingFrameLock _ _ => followed ++ [.stats, .hostRest]
  | .trainingWaitExpiry _ => followed ++ [.stats, .hostRest]
  | .trainingMeasurementDone _ _ _ => [.stats, .hostRest, .hostTx]
  | .partnerRequest _ _ => [.hostRest, .hostTx]
  | .trainingComplete _ => followed ++ [.free, .hostRest]
  | .trainingTimeout _ => followed ++ [.stats, .hostRest]
  | .hslEqualisationConverged _ _ _ _ => followed ++ [.hostRest]
  | .markerHuntDone _ _ _ _ => followed ++ [.free, .mb, .tku, .stats, .lnState, .lnRx, .lnSea, .hostRest, .port, .eng, .hinge, .lex, .rep, .tst]
  | .signalLoss _ => followed ++ [.stats, .lnState, .lnRx, .hostRest, .port]
  | .hslSnrWindowEnd _ _ _ => followed ++ [.stats, .lnState, .lnRx, .hostRest, .port]
  | .elasticBufferSlip _ _ => followed ++ [.stats, .lnState, .lnRx, .hostRest, .port]
  | .amLockLoss _ _ => followed ++ [.stats, .lnState, .lnRx, .hostRest, .port]
  | .hslPeriodEnd _ _ _ _ _ _ _ _ => [.evRaised, .evQueue, .stats, .hostRest, .hostTx]
  | .faultRecoveryTimer _ => followed ++ [.stats, .hostRest]
  | .warmAcquisitionTimeout _ => followed ++ [.stats, .hostRest]
  | .blockReceived _ _ _ => followed ++ [.stats, .block]
  | .blockLockWindowEnd _ _ => [.block]
  | .frameParsed _ _ _ => followed ++ [.free, .mb, .tku, .stats, .lnSea, .eng, .hinge, .lex, .memRest, .tst]
  | .portStartTimeout _ => [.mb, .evRaised, .evQueue, .icu, .hifL1, .port, .pmcCtr]
  | .keyInsertion => [.evRaised, .evQueue, .stats, .lex]
  | .earlyDrainDone _ => followed ++ [.free, .mb, .stats, .lnSea, .eng, .hinge, .lex, .memRest, .tst]
  | .dumpIntervalExpiry _ _ => [.evRaised, .evQueue, .stats, .lex, .tst]
  | .dumpPassComplete _ => followed ++ [.free, .mb, .hifRest, .stats, .lnSea, .eng, .hinge, .lex, .memData, .memRest, .tst]
  | .spareBankFillDone _ => [.lex]
  | .logMarkerTimer => [.devRest]
  | .pmcDumpIntervalExpiry _ _ => [.evRaised, .evQueue, .stats, .tst, .pmcCtr, .pmcRest]
  | .pmcDumpWritten => [.mb, .evRaised, .evQueue, .icu, .hifL1, .hifRest, .stats, .memData, .memRest, .pmcCtr, .pmcRest]
  | .sampleIntervalExpiry _ _ _ _ _ => [.free, .evRaised, .evQueue, .hifRest, .eng, .memData, .memRest, .pmcCtr, .pmcRest]
  | .dmaRecordWritten _ _ => [.evRaised, .evQueue, .icu, .hifL1, .hifRest, .stats, .memRest, .pmcCtr]
  | .thermalReading _ _ => followed ++ [.free, .devRest, .shut, .mb, .hifRest, .params, .stats, .lnState, .lnRx, .lnSea, .lnSdf, .hostRest, .port, .eng, .hinge, .lex, .memData, .memRest, .thm, .tst, .pmcRest, .fw, .cap]
  | .calIntervalExpiry _ => [.cal]
  | .calibrationRunStart _ => [.lnRxPower, .lnLtx, .ocu, .cal]
  | .measurementPairDone _ _ _ => followed ++ [.stats, .lnState, .lnRx, .hostRest, .port, .tst, .cap]
  | .ltxCalStep _ => followed ++ [.stats, .lnState, .lnRx, .hostRest, .port, .tst, .cap]
  | .monconvFrame => [.cal]
  | .calDueTimer _ => [.evRaised, .evQueue, .cal]
  | .targetedTestDone _ _ => followed ++ [.free, .mb, .tku, .stats, .lnState, .lnRx, .lnSea, .hostRest, .port, .eng, .hinge, .lex, .rep, .tst]
  | .testSliceStart _ => settled ++ [.eng, .hinge, .lex, .tst]
  | .sliceTestDone _ _ => followed ++ [.free, .mb, .lnSea, .eng, .lex, .tst]
  | .coverageTimer _ => [.evRaised, .evQueue, .tst]
  | .imageCheckDone _ _ _ => [.mb, .evRaised, .evQueue, .icu, .hifL1, .hinge, .pmcCtr, .fw]
  | .fwImageWritten _ => [.free, .mb, .evRaised, .evQueue, .icu, .hifL1, .hinge, .pmcCtr, .fw]
  | .paneLoaded _ => settled ++ [.mb, .fw]
  | .firmwareStateSaved => [.fw]
  | .newPaneResumed => followed ++ replied ++ [.free, .devRest, .shut, .evUrgent, .hifRest, .tku, .params, .stats, .lnState, .lnRx, .lnSea, .lnSdf, .hostRest, .port, .block, .eng, .hinge, .lex, .thm, .tst, .pmcRest, .pwr, .fw, .cap]
  | .paneMarkedActive => [.mb, .evRaised, .evQueue, .icu, .hifL1, .pmcCtr, .fw]
  | .paneSwitchTimeout => followed ++ replied ++ [.free, .devRest, .shut, .evUrgent, .hifRest, .tku, .params, .stats, .lnState, .lnRx, .lnSea, .lnSdf, .hostRest, .port, .block, .eng, .hinge, .lex, .thm, .tst, .pmcRest, .pwr, .fw, .cap]
  | .shutterFlushDone => [.shut, .mb, .evRaised, .evQueue, .icu, .hifL1, .lex, .pmcCtr, .pmcRest]
  | .shutterDeadlineExpiry => [.shut, .mb, .evRaised, .evQueue, .icu, .hifL1, .lex, .pmcCtr, .pmcRest]
  | .shutterLogSaved => [.shut, .mb, .evRaised, .evQueue, .icu, .hifL1, .pmcCtr]
  | .shutterHoldEnd => [.shut]
  | .shutdownBistDone _ => settled ++ [.shut, .rep]
  | .shutterPowerDown => settled ++ [.devRest, .shut, .mb, .hifRest, .stats, .lnState, .lnRx, .lnRxPower, .lnLtx, .lnPlt, .lnOptics, .hostRest, .hostTx, .group, .memData, .memRest, .ocu, .thm, .pwr]
  | .getDevMode _ => replied
  | .enterDevMode _ => followed ++ replied ++ [.free, .devRest, .params, .stats, .lnState, .lnRx, .lnSea, .lnSdf, .hostRest, .port, .eng, .hinge, .lex, .tst, .pwr, .cap]
  | .shutterDevMode _ => followed ++ replied ++ [.free, .devRest, .shut, .params, .stats, .lnState, .lnRx, .lnSea, .lnSdf, .hostRest, .port, .eng, .hinge, .lex, .tst, .pmcRest, .fw, .cap]
  | .enterLaneTest _ => followed ++ replied ++ [.lnState, .lnRx, .lnSdf, .hostRest, .port]
  | .leaveLaneTest _ => followed ++ replied ++ [.free, .params, .stats, .lnState, .lnRx, .lnSea, .lnSdf, .hostRest, .port, .eng, .hinge, .lex, .tst, .cap]
  | .getDevFeature _ => replied
  | .negotiateDevFeature _ => followed ++ replied ++ [.devRest]
  | .receiveDevEvent _ => replied
  | .getMbxStats _ => replied
  | .clearMbxStats _ => replied
  | .loadFwImage _ => replied ++ [.fw]
  | .getFwImage _ => replied
  | .grantPf1Grant _ => replied ++ [.devRest]
  | .revokePf1Grant _ => replied ++ [.devRest, .hifRest]
  | .getPf1Grant _ => replied
  | .getLrxCfg _ => replied
  | .setLrxCfg _ => followed ++ replied ++ [.params, .lnRx]
  | .getLrxStatus _ => replied
  | .getLrxQuality _ => replied
  | .getLrxEstimate _ => replied
  | .getLrxSlices _ => replied
  | .restartLrxAcq _ => followed ++ replied ++ [.stats, .lnState, .lnRx, .lnSdf, .hostRest, .port]
  | .captureLrxCapture _ => replied ++ [.cap]
  | .abortLrxCapture _ => followed ++ replied ++ [.cap]
  | .getSeaPolicy _ => replied
  | .setSeaPolicy _ => followed ++ replied ++ [.free, .params, .stats, .lnSea, .eng, .hinge, .lex, .tst]
  | .getSeaHinge _ => replied
  | .setSeaHinge _ => replied ++ [.params]
  | .getSeaPlacement _ => replied
  | .getSeaEngines _ => replied
  | .getSeaKernel _ => replied
  | .loadSeaKernel _ => replied ++ [.hinge]
  | .selectSeaKernel _ => followed ++ replied ++ [.free, .stats, .lnSea, .eng, .lex, .tst]
  | .getSeaKparam _ => replied
  | .setSeaKparam _ => followed ++ replied ++ [.free, .params, .stats, .lnSea, .eng, .lex, .tst]
  | .getSdfCfg _ => replied
  | .setSdfCfg _ => replied ++ [.params]
  | .getSdfStatus _ => replied
  | .getSdfStats _ => replied
  | .getSdfDetector _ => replied
  | .restartSdfHunt _ => followed ++ replied ++ [.stats, .lnState, .lnRx, .lnSdf, .hostRest, .port]
  | .getLtxCfg _ => replied
  | .setLtxCfg _ => followed ++ replied ++ [.params]
  | .getLtxStatus _ => replied
  | .squelchLtxOut _ => followed ++ replied
  | .releaseLtxOut _ => followed ++ replied
  | .getHslCfg _ => replied
  | .setHslCfg _ => replied ++ [.params, .hostRest, .hostTx]
  | .getHslGroup _ => replied
  | .setHslGroup _ => followed ++ replied ++ [.params]
  | .getHslStatus _ => replied
  | .getHslQuality _ => replied
  | .restartHslTrain _ => followed ++ replied ++ [.stats, .lnState, .lnRx, .hostRest, .port]
  | .getPfxBlocklock _ => replied
  | .getPortCfg _ => replied
  | .setPortCfg _ => followed ++ replied ++ [.free, .params, .lnSea, .port, .block, .eng, .lex, .tst]
  | .deletePortCfg _ => followed ++ replied ++ [.free, .params, .lnSea, .port, .eng, .lex, .tst]
  | .startPort _ => followed ++ replied ++ [.free, .stats, .lnState, .lnRx, .lnSea, .lnSdf, .hostRest, .port, .eng, .hinge, .lex, .tst]
  | .stopPort _ => followed ++ replied ++ [.free, .tku, .stats, .lnState, .lnRx, .lnSea, .lnSdf, .hostRest, .port, .block, .eng, .hinge, .lex, .tst]
  | .getPortStatus _ => replied
  | .getPltCfg _ => replied
  | .setPltCfg _ => replied ++ [.params]
  | .sendPltPacket _ => replied ++ [.lnPlt]
  | .receivePltPacket _ => replied ++ [.lnPlt]
  | .getPltPeer _ => replied
  | .setPltPeer _ => replied ++ [.lnPlt]
  | .getPltStatus _ => replied
  | .getLexCfg _ => replied
  | .setLexCfg _ => replied ++ [.params, .stats, .lex]
  | .getLexPort _ => replied
  | .setLexPort _ => replied ++ [.params, .lex]
  | .getLexContext _ => replied
  | .insertLexContext _ => replied ++ [.stats, .lex]
  | .deleteLexContext _ => replied ++ [.lex]
  | .flushLexDump _ => replied ++ [.lex]
  | .getLexStats _ => replied
  | .getTkuDomain _ => replied
  | .setTkuDomain _ => replied ++ [.tku]
  | .getTkuPort _ => replied
  | .setTkuPort _ => replied ++ [.params]
  | .getTkuStats _ => replied
  | .getHifLink _ => replied
  | .getHifWindow _ => replied
  | .setHifWindow _ => replied ++ [.hifRest]
  | .getHifDma _ => replied
  | .setHifDma _ => settled ++ replied ++ [.hifRest]
  | .getHifMgt _ => replied ++ [.free]
  | .getIcuEvent _ => replied
  | .setIcuEvent _ => replied ++ [.evUrgent]
  | .getIcuMgt _ => replied
  | .setIcuMgt _ => replied
  | .getMemCfg _ => replied
  | .setMemCfg _ => replied ++ [.params]
  | .getMemStatus _ => replied
  | .getMemEcho _ => replied
  | .getMemSpares _ => replied
  | .getMemStats _ => replied
  | .getOcuAx _ => replied
  | .setOcuAx _ => replied ++ [.params, .lnOptics, .ocu]
  | .getOcuCode _ => replied
  | .setOcuCode _ => replied ++ [.stats, .lnOptics, .ocu]
  | .getOcuMn _ => replied
  | .setOcuMn _ => replied ++ [.params, .ocu]
  | .getOcuLoop _ => replied
  | .setOcuLoop _ => replied ++ [.params, .lnOptics, .ocu]
  | .getOcuLane _ => replied
  | .getOcuStats _ => replied
  | .getCalCfg _ => replied
  | .setCalCfg _ => replied ++ [.params]
  | .getCalBlock _ => replied
  | .runCalBlock _ => replied ++ [.cal]
  | .clearCalBlock _ => replied ++ [.cal]
  | .getThmCfg _ => replied
  | .setThmCfg _ => replied ++ [.params]
  | .getThmSensor _ => replied
  | .ackThmSensor _ => replied ++ [.thm]
  | .getThmStatus _ => replied
  | .clearThmStatus _ => settled ++ replied ++ [.thm]
  | .getFwPane _ => replied
  | .switchFwPane _ => replied ++ [.devMode, .devRest, .fw]
  | .getTstCfg _ => replied
  | .setTstCfg _ => replied ++ [.params, .tst]
  | .getTstStatus _ => replied
  | .getTstVerdicts _ => replied
  | .getRepRecord _ => replied
  | .getRelYields _ => replied
  | .getPmcCounter _ => replied
  | .setPmcCounter _ => replied
  | .clearPmcCounter _ => replied
  | .getPmcDump _ => replied
  | .setPmcDump _ => replied ++ [.params]
  | .flushPmcDump _ => replied ++ [.stats, .pmcRest]
  | .getPmcSample _ => replied
  | .setPmcSample _ => replied ++ [.params]
  | .getPwrCfg _ => replied
  | .setPwrCfg _ => replied ++ [.params]
  | .getPwrStatus _ => replied ++ [.free]
  | .clearPwrStatus _ => settled ++ replied ++ [.pwr]
  | .getPwrRail _ => replied ++ [.free]
  | .bcntTick => [.evRaised, .evQueue, .tku, .stats, .pmcCtr]
  | .mbxDoorbellRing _ _ _ => followed ++ replied ++ [.free, .devRest, .shut, .evUrgent, .hifRest, .tku, .params, .stats, .lnState, .lnRx, .lnSea, .lnSdf, .hostRest, .port, .block, .eng, .hinge, .lex, .thm, .tst, .pmcRest, .pwr, .fw, .cap]
  | .amLockRegained _ => [.hostRest, .hostTx]
  | .perstNDeassert => [.hifL1, .hifRest]

end Sys2Proof.Machine
end

