-- ==== Sys2Proof/Certificates/Slice0/Obligations.lean ====
section
/-! DEFINITION. The statements for the provers. -/

open Sys2Proof Sys2Proof.Machine

/-! ## Registers of the timekeeping unit (R387 to R397, R730, R731, R742) -/

/-- Reads and writes of the timekeeping registers that have a row of their own: a PCIe function's read of BCNT_LO takes its
snapshot of BCNT and of both domains at one tick; PF0's writes stage and commit increments, commit steps, choose the domain
and clear flags. PF1's write of one changes nothing in the unit: it is discarded and counted, and sets WRITE_DISCARDED in
PF1's summary; the management port has no timekeeping block, and its access changes nothing. -/
def Obligations.TimekeepingRegistersComplete : Prop :=
  ((∀ (r : Requester) (s : State), s.bus r → r ≠ .mgt → ∃ t, exec (.tkuBcntLoRead r) s = .next t ∧
    (t.snapAt r).bcnt = s.tku.bcnt ∧ t.dev.busRead = { words := [s.tku.bcnt.setWidth 32] } ∧
    (t.snapAt r).aSec = s.tku.domA.sec ∧ (t.snapAt r).aNs = s.tku.domA.ns ∧ (t.snapAt r).aFrac = s.tku.domA.frac ∧
    (s.domBOn → (t.snapAt r).bSec = s.tku.domB.sec ∧ (t.snapAt r).bNs = s.tku.domB.ns ∧ (t.snapAt r).bFrac = s.tku.domB.frac) ∧
    (¬s.domBOn → (t.snapAt r).bSec = 0 ∧ (t.snapAt r).bNs = 0 ∧ (t.snapAt r).bFrac = 0) ∧
    OnlyChanges [.devBus, .hifRest] s t) ∧
  (∀ (d : Domain) (v : Word) (s : State), s.bus .pf0 → s.domOn d → ∃ t, exec (.tkuIncLoWrite .pf0 d v) s = .next t ∧
    (t.dom d).staged = some v.toNat ∧ (t.dom d).inc = (s.dom d).inc ∧ OnlyChanges [.tku] s t) ∧
  (∀ (d : Domain) (v : Word) (s : State), s.bus .pf0 → s.domOn d → ∃ t, exec (.tkuIncHiWrite .pf0 d v) s = .next t ∧
    (t.dom d).inc = (s.dom d).inc ∧ (t.dom d).staged = none ∧ OnlyChanges [.tku] s t ∧
    (∀ n, n = v.toNat % 256 * 2 ^ 32 + (s.dom d).staged.getD ((s.dom d).inc % 2 ^ 32) →
      (0x019930BE0E ≤ n → n ≤ 0x019A027526 → (t.dom d).incNext = some n ∧ t.tku.incRefused = s.tku.incRefused) ∧
      (n < 0x019930BE0E ∨ 0x019A027526 < n → (t.dom d).incNext = (s.dom d).incNext ∧ t.tku.incRefused = true))) ∧
  (∀ s : State, s.bus .pf0 → ∃ t, exec (.tkuStepGoA .pf0) s = .next t ∧
    t.tku.gos = s.tku.gos ++ [(true, false, s.tku.stepSec.toInt, s.tku.stepNs.toInt)] ∧ OnlyChanges [.tku] s t) ∧
  (∀ (both : Bool) (s : State), s.bus .pf0 → s.domBOn → ∃ t, exec (.tkuStepGoB .pf0 both) s = .next t ∧
    t.tku.gos = s.tku.gos ++ [(both, true, s.tku.stepSec.toInt, s.tku.stepNs.toInt)] ∧ OnlyChanges [.tku] s t) ∧
  (∀ (v : Word) (s : State), s.bus .pf0 → (v.getLsbD 0 → s.domBOn) → ∃ t, exec (.tkuDomSelWrite .pf0 v) s = .next t ∧
    t.tku.selNext = some (if v.getLsbD 0 then .b else .a) ∧ t.tku.sel = s.tku.sel ∧ OnlyChanges [.tku] s t) ∧
  (∀ (v now : Word) (s : State), s.bus .pf0 → ∃ t, exec (.tkuStatusClear .pf0 v now) s = .next t ∧
    t.tku.domA.disc = ((s.tku.domA.disc && !v.getLsbD 0) || now.getLsbD 0) ∧
    (s.domBOn → t.tku.domB.disc = ((s.tku.domB.disc && !v.getLsbD 1) || now.getLsbD 1)) ∧
    t.tku.heldFlag = ((s.tku.heldFlag && !v.getLsbD 2) || now.getLsbD 2) ∧
    t.tku.stepRefused = ((s.tku.stepRefused && !v.getLsbD 3) || now.getLsbD 3) ∧
    t.tku.incRefused = ((s.tku.incRefused && !v.getLsbD 4) || now.getLsbD 4) ∧ OnlyChanges [.tku] s t)) ∧
  ((∀ (c : Instr) (s : State), (∃ d v, c = .tkuIncLoWrite .pf1 d v) ∨ (∃ d v, c = .tkuIncHiWrite .pf1 d v) ∨
      c = .tkuStepGoA .pf1 ∨ (∃ b, c = .tkuStepGoB .pf1 b) ∨ (∃ v, c = .tkuDomSelWrite .pf1 v) ∨
      (∃ v now, c = .tkuStatusClear .pf1 v now) → s.bus .pf1 → ∃ t, exec c s = .next t ∧
    t.tku = s.tku ∧ t.hif.discarded = s.hif.discarded + 1 ∧ (t.sticky .pf1).getLsbD 15 = true ∧
    OnlyChanges [.evRaised, .evQueue, .icu, .hifL1, .hifRest, .err, .pmcCtr] s t) ∧
  (∀ (c : Instr) (s : State), c = .tkuBcntLoRead .mgt ∨ (∃ d v, c = .tkuIncLoWrite .mgt d v) ∨
      (∃ d v, c = .tkuIncHiWrite .mgt d v) ∨ c = .tkuStepGoA .mgt ∨ (∃ b, c = .tkuStepGoB .mgt b) ∨
      (∃ v, c = .tkuDomSelWrite .mgt v) ∨ (∃ v now, c = .tkuStatusClear .mgt v now) → exec c s = .next s))

/-! ## Interrupt controller (R500 to R512, R521) -/

/-- The registers of a function's interrupt controller: claim, complete, look, enable, wake cause, unmask. -/
def Obligations.InterruptRegistersComplete : Prop :=
  (∀ (r : Requester) (v : Nat) (s : State), s.bus r → r ≠ .mgt → v < vectors r → ∃ t, exec (.icuClaimRead r v) s = .next t ∧
    OnlyChanges [.devBus, .icu] s t ∧
    (∀ src, s.claimable r v = some src → (t.srcAt r src).state = .inService ∧
      t.dev.busRead = { words := [Word.nat (src + (isLevelSrc src).toNat * 32)] }) ∧
    (s.claimable r v = none → t.icu = s.icu ∧ t.dev.busRead = { words := [0x80000000] })) ∧
  (∀ (r : Requester) (v : Word) (s : State), s.bus r → r ≠ .mgt → ∃ t, exec (.icuCompleteWrite r v) s = .next t ∧
    OnlyChanges [.evRaised, .icu, .hifL1, .pmcCtr] s t ∧
    ((s.srcAt r (v.toNat % 32)).state = .inService → (s.srcAt r (v.toNat % 32)).live = false →
      (t.srcAt r (v.toNat % 32)).state = .idle) ∧
    ((s.srcAt r (v.toNat % 32)).state = .idle ∨ (s.srcAt r (v.toNat % 32)).state = .pending →
      t.srcAt r (v.toNat % 32) = s.srcAt r (v.toNat % 32) ∧ (t.icuAt r).stray = min ((s.icuAt r).stray + 1) max36) ∧
    ((s.srcAt r (v.toNat % 32)).state = .latched ∨
        ((s.srcAt r (v.toNat % 32)).state = .inService ∧ (s.srcAt r (v.toNat % 32)).live = true) →
      (t.srcAt r (v.toNat % 32)).state = .pending)) ∧
  (∀ (r : Requester) (s : State), s.bus r → r ≠ .mgt → ∃ t, exec (.icuLevelRead r) s = .next t ∧
    t.dev.busRead = { words := [s.icuLevel r] } ∧ OnlyChanges [.devBus, .icu] s t ∧
    (∀ src, src ∈ [16, 17, 22, 23] → (s.srcAt r src).state = .inService → (t.srcAt r src).looked = true)) ∧
  (∀ (r : Requester) (v : Word) (s : State), s.bus r → r ≠ .mgt → ∃ t, exec (.icuEnableWrite r v) s = .next t ∧
    (t.icuAt r).enable = v.setWidth 24 ∧ OnlyChanges [.evRaised, .icu, .hifL1, .pmcCtr] s t) ∧
  (∀ (r : Requester) (v now : Word) (s : State), s.bus r → r ≠ .mgt → ∃ t, exec (.icuPmeCauseClear r v now) s = .next t ∧
    (t.icuAt r).pmeCause = ((s.icuAt r).pmeCause &&& ~~~(v.setWidth 24)) ||| now.setWidth 24 ∧ OnlyChanges [.icu] s t) ∧
  (∀ (r : Requester) (v : Nat) (s : State), s.bus r → r ≠ .mgt → v < vectors r →
    ∃ t, exec (.msixUnmask r (some v)) s = .next t ∧ (t.vecAt r v).masked = false ∧
    OnlyChanges [.evRaised, .icu, .hifL1, .pmcCtr] s t ∧
    ((s.vecAt r v).pba → (s.icuAt r).funcMask = false →
      (t.vecAt r v).pba = false ∧ (t.vecAt r v).sent = (s.vecAt r v).sent + 1)) ∧
  (∀ (r : Requester) (s : State), s.bus r → r ≠ .mgt → ∃ t, exec (.msixUnmask r none) s = .next t ∧
    (t.icuAt r).funcMask = false ∧ OnlyChanges [.evRaised, .icu, .hifL1, .pmcCtr] s t)

/-! ## Other register accesses -/

/-- Accesses whose effect is on the access itself or on one latch: a wide read is answered with Completer Abort; a read of
_LO latches the upper bits (R19, R20); the counter latches (R672); the DMA pointers (R487, R488); the error summary's read
clears it (R734); the management port (R493, R494, R516, R517). -/
def Obligations.RegisterAccessesComplete : Prop :=
  (∀ (r : Requester) (o n : Nat) (s : State), s.bus r → r ≠ .mgt → ∃ t, exec (.bar0WideRead r o n) s = .next t ∧
    t.dev.busRead = { words := [], abort := true } ∧ OnlyChanges [.devBus] s t) ∧
  (∀ (r : Requester) (o v : Nat) (s : State), s.bus r → s.pair r o = some v → ∃ t, exec (.readLoSnapshot r o) s = .next t ∧
    (t.snapAt r).hi = BitVec.ofNat 4 (v / 2 ^ 32) ∧ t.dev.busRead = { words := [Word.nat v] } ∧
    OnlyChanges [.devBus, .hifRest] s t) ∧
  (∀ (r : Requester) (o : Nat) (s : State), s.bus r → s.pair r o = none → o % 4 = 0 → o ≠ 0x0A0 →
    (r = .mgt → o ≠ 0x1014 ∧ o ≠ 0x2014) →
    (r ≠ .mgt → o ≠ 0x20008 ∧ (o < 0x20200 ∨ 0x20200 + 4 * vectors r ≤ o) ∧ o ≠ 0x30004 ∧ o ≠ 0x40000 ∧ o ≠ 0x60004) →
    ∃ t, exec (.readLoSnapshot r o) s = .next t ∧ t.dev.busRead = { words := [s.regRead r o] } ∧ OnlyChanges [.devBus] s t) ∧
  (∀ (r : Requester) (s : State), s.bus r → r ≠ .mgt → s.pmcReach r → s.pmcExists (s.snapAt r).pmcSel →
    ∃ t, exec (.pmcValueLoRead r) s = .next t ∧ t.dev.busRead = { words := [Word.nat (s.pmcAt (s.snapAt r).pmcSel).value] } ∧
    (t.snapAt r).pmcVal = (s.pmcAt (s.snapAt r).pmcSel).value ∧ (t.pmcAt (s.snapAt r).pmcSel).discOf r = false ∧
    (t.pmcAt (s.snapAt r).pmcSel).value = (s.pmcAt (s.snapAt r).pmcSel).value ∧ OnlyChanges [.devBus, .hifRest, .pmcCtr] s t) ∧
  (∀ (r : Requester) (s : State), s.bus r → r ≠ .mgt → s.pmcReach r → ∃ t, exec (.pmcGroupLatchGo r) s = .next t ∧
    (t.snapAt r).grp = (List.range 32).map (fun k => ((s.pmcAt k).value, (s.pmcAt k).flags r)) ∧
    OnlyChanges [.hifRest, .pmcCtr] s t) ∧
  (∀ (r : Requester) (ch : Nat) (v : Word) (s : State), s.bus r → r ≠ .mgt → (s.dmaAt ch).owner = r →
    (s.dmaAt ch).tailOk (v.toNat % 2 ^ 30) → ∃ t, exec (.dmaTailWrite r ch v) s = .next t ∧
    (t.dmaAt ch).tail = v.toNat % 2 ^ 30 ∧ (t.dmaAt ch).error = (s.dmaAt ch).error ∧ OnlyChanges [.hifRest] s t) ∧
  (∀ (r : Requester) (ch : Nat) (v : Word) (s : State), s.bus r → r ≠ .mgt → (s.dmaAt ch).owner = r →
    (s.dmaAt ch).tailOk (v.toNat % 2 ^ 30) = false → ∃ t, exec (.dmaTailWrite r ch v) s = .next t ∧
    (t.dmaAt ch).tail = (s.dmaAt ch).tail ∧ (t.dmaAt ch).error = true ∧
    OnlyChanges [.evRaised, .icu, .hifL1, .hifRest, .err, .pmcCtr] s t) ∧
  (∀ (r : Requester) (ch : Nat) (v now : Word) (s : State), s.bus r → r ≠ .mgt → (s.dmaAt ch).owner = r →
    ∃ t, exec (.dmaStatusClear r ch v now) s = .next t ∧
    (t.dmaAt ch).gap = (((s.dmaAt ch).gap && !v.getLsbD 1) || now.getLsbD 1) ∧
    (t.dmaAt ch).error = (((s.dmaAt ch).error && !v.getLsbD 2) || now.getLsbD 2) ∧
    OnlyChanges [.evRaised, .icu, .hifL1, .hifRest, .err, .pmcCtr] s t) ∧
  (∀ (r : Requester) (s : State), s.bus r → r ≠ .mgt → ∃ t, exec (.errStickyRead r 0) s = .next t ∧
    t.sticky r = 0 ∧ t.dev.busRead = { words := [(s.sticky r).setWidth 32] } ∧
    OnlyChanges [.evRaised, .devBus, .icu, .hifL1, .hifRest, .err, .pmcCtr] s t) ∧
  (∀ (r : Requester) (s : State), s.bus r → ∃ t, exec (.idErrRead r 0) s = .next t ∧
    t.sticky r = 0 ∧ t.dev.busRead = { words := [(s.sticky r).setWidth 32] } ∧
    OnlyChanges [.evRaised, .devBus, .icu, .hifL1, .hifRest, .err, .pmcCtr] s t) ∧
  (∀ (n : Nat) (s : State), s.bus .mgt → n < 2 → ∃ t, exec (.mgtMbxStatusRead n) s = .next t ∧
    (t.srcAt .mgt n).state = .idle ∧ t.dev.busRead = { words := [(s.boxAt .mgt n).status] } ∧ OnlyChanges [.devBus, .icu] s t) ∧
  (∀ s : State, s.bus .mgt → ∃ t, exec .mgtTransferDiscarded s = .next t ∧
    t.hif.mgtDiscarded = s.hif.mgtDiscarded + 1 ∧ (t.sticky .mgt).getLsbD 15 = true ∧
    OnlyChanges [.evRaised, .icu, .hifL1, .hifRest, .err, .pmcCtr] s t) ∧
  (∀ (a : BitVec 7) (s : State), s.bus .mgt → ∃ t, exec (.i3cDynamicAddress a) s = .next t ∧
    t.hif.i3c = true ∧ t.hif.dynAddr = a ∧ OnlyChanges [.hifRest] s t) ∧
  (∀ s : State, s.bus .mgt → ∃ t, exec .i3cRstdaa s = .next t ∧ t.hif.i3c = false ∧ OnlyChanges [.hifRest] s t) ∧
  (∀ s : State, s.bus .mgt → s.hif.i3c → s.mgtPending → ∃ t, exec .ibiDeclined s = .next t ∧
    (t.icuAt .mgt).ibiRepeated = (s.icuAt .mgt).ibiRepeated + 1 ∧ OnlyChanges [.icu] s t)

/-- A write of part of a register is discarded and counted; a whole write of a mailbox register that is not BUSY stores it;
one of a BUSY mailbox is discarded and counted on that mailbox; one of a scratch, step, select or coalescing register
stores the value. -/
def Obligations.RegisterWriteCompletes : Prop :=
  (∀ (r : Requester) (o : Nat) (v : Word) (s : State), s.bus r → ∃ t, exec (.registerWrite r o v false) s = .next t ∧
    (t.sticky r).getLsbD 15 = true ∧
    (r ≠ .mgt → t.hif.discarded = s.hif.discarded + 1) ∧ (r = .mgt → t.hif.mgtDiscarded = s.hif.mgtDiscarded + 1) ∧
    OnlyChanges [.evRaised, .icu, .hifL1, .hifRest, .err, .pmcCtr] s t) ∧
  (∀ (r : Requester) (n : Nat) (v : Word) (s : State), s.bus r → n < mailboxes r → (s.boxAt r n).state ≠ .busy →
    ∃ t, exec (.registerWrite r (0x1000 * (n + 1)) v true) s = .next t ∧ (t.boxAt r n).cmd = v ∧ OnlyChanges [.mb] s t) ∧
  (∀ (r : Requester) (n i : Nat) (v : Word) (s : State), s.bus r → n < mailboxes r → i < 1008 → (s.boxAt r n).state ≠ .busy →
    ∃ t, exec (.registerWrite r (0x1000 * (n + 1) + 0x40 + 4 * i) v true) s = .next t ∧
    tget (t.boxAt r n).payload (fun _ => 0) i = v ∧ OnlyChanges [.mb] s t) ∧
  (∀ (r : Requester) (n : Nat) (v : Word) (s : State), s.bus r → n < mailboxes r → (s.boxAt r n).state = .busy →
    ∃ t, exec (.registerWrite r (0x1000 * (n + 1)) v true) s = .next t ∧ t.boxAt r n = s.boxAt r n ∧
    tget t.mb.discards (fun _ => 0) (boxKey r n) = tget s.mb.discards (fun _ => 0) (boxKey r n) + 1 ∧ OnlyChanges [.mb] s t) ∧
  (∀ (v : Word) (s : State), s.bus .pf0 → ∃ t, exec (.registerWrite .pf0 0x050 v true) s = .next t ∧
    (t.snapAt .pf0).scratch = v ∧ OnlyChanges [.hifRest] s t) ∧
  (∀ (v : Word) (s : State), s.bus .pf0 → ∃ t, exec (.registerWrite .pf0 0x40040 v true) s = .next t ∧
    t.tku.stepNs = v ∧ OnlyChanges [.tku] s t) ∧
  (∀ (r : Requester) (v : Word) (s : State), s.bus r → r ≠ .mgt → s.pmcReach r →
    ∃ t, exec (.registerWrite r 0x30000 v true) s = .next t ∧ (t.snapAt r).pmcSel = v.toNat % 4096 ∧
    OnlyChanges [.hifRest] s t) ∧
  (∀ (r : Requester) (k : Nat) (v : Word) (s : State), s.bus r → r ≠ .mgt → k < vectors r →
    ∃ t, exec (.registerWrite r (0x20100 + 4 * k) v true) s = .next t ∧ (t.vecAt r k).count = v.toNat % 256 ∧
    (t.vecAt r k).time = v.toNat / 256 % 1024 ∧ OnlyChanges [.icu] s t)

/-- What is written to a whole register can be read back: scratch, the interrupt enables, urgent sources, and a mailbox's
command and payload words. -/
def Obligations.RegisterReadsReturnWhatWasWritten : Prop :=
  (∀ (r : Requester) (n i : Nat) (v : Word) (s : State), s.bus r → n < mailboxes r → i < 1008 → (s.boxAt r n).state ≠ .busy →
    ∃ t, exec (.registerWrite r (0x1000 * (n + 1) + 0x40 + 4 * i) v true) s = .next t ∧
      ∃ u, exec (.readLoSnapshot r (0x1000 * (n + 1) + 0x40 + 4 * i)) t = .next u ∧ u.dev.busRead = { words := [v] }) ∧
  (∀ (v : Word) (s : State), s.bus .pf0 → ∃ t, exec (.registerWrite .pf0 0x050 v true) s = .next t ∧
    ∃ u, exec (.readLoSnapshot .pf0 0x050) t = .next u ∧ u.dev.busRead = { words := [v] }) ∧
  (∀ (r : Requester) (v : Word) (s : State), s.bus r → r ≠ .mgt → ∃ t, exec (.registerWrite r 0x2000C v true) s = .next t ∧
    ∃ u, exec (.readLoSnapshot r 0x2000C) t = .next u ∧ u.dev.busRead = { words := [v &&& 0xFFFFFF] }) ∧
  (∀ (r : Requester) (v : Word) (s : State), s.bus r → r ≠ .mgt → ∃ t, exec (.registerWrite r 0x20010 v true) s = .next t ∧
    ∃ u, exec (.readLoSnapshot r 0x20010) t = .next u ∧ u.dev.busRead = { words := [v &&& 0xFFFFFF] })
/-! ## Line receivers (R64 to R123) -/

/-- The steps of an acquisition (R102, R103), on a lane in ACQUIRE or FAULT that is not held there, whose receiver is in FULL and sees
light: each event of a step moves the lane on, a warm acquisition skips steps 3 and 5. Step 2 ends with the AGC within 0.5 dB of
its target, or at once where the gain is set (R74); step 4 takes a frequency within 200 ppm (R97); step 5 leaves the taps as
the LMS updates move them, which FREEZE holds (R98, R100); a timeout begins again at step 2 as a cold acquisition with its preset's
taps. The receiver of the lane changes, no other lane's, and nothing else. -/
def Obligations.AcquisitionStepsComplete : Prop :=
  (∀ l, Completes (.receiverPowerSettled l) (fun s => l < s.lines ∧
      ((s.lineAt l).state = .acquire ∨ (s.lineAt l).state = .fault) ∧ (s.lineAt l).stuck = false ∧ (s.lineAt l).lrx.step = 1 ∧
      (s.lineAt l).lrx.los = false ∧ (s.lineAt l).lrx.power = .full)
    fun s t => (t.lineAt l).lrx = { (s.lineAt l).lrx with step := 2 } ∧
      (∀ k, k ≠ l → t.lineAt k = s.lineAt k) ∧ OnlyChanges [.lnRx, .lnRxPower] s t) ∧
  (∀ l rms, Completes (.agcSettled l rms) (fun s => l < s.lines ∧
      ((s.lineAt l).state = .acquire ∨ (s.lineAt l).state = .fault) ∧ (s.lineAt l).stuck = false ∧ (s.lineAt l).lrx.step = 2 ∧
      (s.lineAt l).lrx.los = false ∧ (s.lineAt l).lrx.power = .full ∧ s.parI nLrxCfg l 0 = autoInt ∧
      agcNear (s.parN nLrxCfg l 1) (rms.getLastD 0) = true)
    fun s t => (t.lineAt l).lrx = { (s.lineAt l).lrx with
        step := if (s.lineAt l).lrx.cold then 3 else 4
        gain := if (s.lineAt l).lrx.frozen then (s.lineAt l).lrx.gain
          else (rms.take (10 * s.parN nLrxCfg l 2)).foldl (agcStep (s.parN nLrxCfg l 1)) (s.lineAt l).lrx.gain } ∧
      (∀ k, k ≠ l → t.lineAt k = s.lineAt k) ∧ OnlyChanges [.lnRx, .lnRxPower] s t) ∧
  (∀ l rms, Completes (.agcSettled l rms) (fun s => l < s.lines ∧
      ((s.lineAt l).state = .acquire ∨ (s.lineAt l).state = .fault) ∧ (s.lineAt l).stuck = false ∧ (s.lineAt l).lrx.step = 2 ∧
      (s.lineAt l).lrx.los = false ∧ (s.lineAt l).lrx.power = .full ∧ s.parI nLrxCfg l 0 ≠ autoInt)
    fun s t => (t.lineAt l).lrx = { (s.lineAt l).lrx with step := if (s.lineAt l).lrx.cold then 3 else 4 } ∧
      (∀ k, k ≠ l → t.lineAt k = s.lineAt k) ∧ OnlyChanges [.lnRx, .lnRxPower] s t) ∧
  (∀ l, Completes (.sliceCorrectionConverged l) (fun s => l < s.lines ∧
      ((s.lineAt l).state = .acquire ∨ (s.lineAt l).state = .fault) ∧ (s.lineAt l).stuck = false ∧ (s.lineAt l).lrx.step = 3 ∧
      (s.lineAt l).lrx.los = false ∧ (s.lineAt l).lrx.power = .full)
    fun s t => (t.lineAt l).lrx = { (s.lineAt l).lrx with step := 4 } ∧
      (∀ k, k ≠ l → t.lineAt k = s.lineAt k) ∧ OnlyChanges [.lnRx, .lnRxPower] s t) ∧
  (∀ l f, Completes (.timingRecoveryLocked l f) (fun s => l < s.lines ∧
      ((s.lineAt l).state = .acquire ∨ (s.lineAt l).state = .fault) ∧ (s.lineAt l).stuck = false ∧ (s.lineAt l).lrx.step = 4 ∧
      (s.lineAt l).lrx.los = false ∧ (s.lineAt l).lrx.power = .full ∧ -2000 ≤ f ∧ f ≤ 2000)
    fun s t => (t.lineAt l).lrx.freq = f ∧ (t.lineAt l).lrx.step = (if (s.lineAt l).lrx.cold then 5 else 6) ∧
      ((s.lineAt l).lrx.cold = true → (t.lineAt l).lrx = { (s.lineAt l).lrx with step := 5, freq := f } ∧
        (t.lineAt l).sea = (s.lineAt l).sea) ∧
      ((s.lineAt l).lrx.cold = false → (t.lineAt l).lrx = { (s.lineAt l).lrx with step := 6, freq := f, disturbed := true } ∧
        (t.lineAt l).sea = { (s.lineAt l).sea with discard := false }) ∧
      (∀ k, k ≠ l → t.lineAt k = s.lineAt k) ∧ OnlyChanges [.lnRx, .lnRxPower, .lnSea] s t) ∧
  (∀ l ups, Completes (.ffeConverged l ups) (fun s => l < s.lines ∧
      ((s.lineAt l).state = .acquire ∨ (s.lineAt l).state = .fault) ∧ (s.lineAt l).stuck = false ∧ (s.lineAt l).lrx.step = 5 ∧
      (s.lineAt l).lrx.los = false ∧ (s.lineAt l).lrx.power = .full)
    fun s t => (t.lineAt l).lrx = { (s.lineAt l).lrx with
        step := 6, disturbed := !(s.lineAt l).lrx.cold
        taps := if s.parN nLrxCfg l 10 = 0 ∧ (s.lineAt l).lrx.frozen = false
          then ups.foldl (ffeLms (-(s.parI nLrxCfg l 9)).toNat) (s.lineAt l).lrx.taps else (s.lineAt l).lrx.taps } ∧
      (t.lineAt l).sea = { (s.lineAt l).sea with discard := false } ∧
      (∀ k, k ≠ l → t.lineAt k = s.lineAt k) ∧ OnlyChanges [.lnRx, .lnRxPower, .lnSea] s t) ∧
  (∀ l, Completes (.acquisitionTimeout l) (fun s => l < s.lines ∧
      ((s.lineAt l).state = .acquire ∨ (s.lineAt l).state = .fault) ∧ (s.lineAt l).stuck = false ∧
      1 ≤ (s.lineAt l).lrx.step ∧ (s.lineAt l).lrx.step ≤ 6 ∧ (s.lineAt l).lrx.los = false ∧ (s.lineAt l).lrx.power = .full)
    fun s t => (t.lineAt l).lrx.step = 2 ∧ (t.lineAt l).lrx.cold = true ∧ (t.lineAt l).lrx.freqHeld = false ∧
      (t.lineAt l).lrx.retries = (s.lineAt l).lrx.retries + 1 ∧ (t.lineAt l).lrx.consec = (s.lineAt l).lrx.consec + 1 ∧
      (t.lineAt l).lrx.preset = (if (s.lineAt l).lrx.presetSet = autoInt then ((s.lineAt l).lrx.preset + 1) % 4
        else (s.lineAt l).lrx.presetSet.toNat) ∧
      (t.lineAt l).lrx.taps = presetTaps (s.lineAt l).lrx.band (t.lineAt l).lrx.preset (s.lineAt l).lrx.mainCur ∧
      (t.lineAt l).sdf.table = [] ∧ t.statAt gLrx l 1 = (s.statAt gLrx l 1).add 1 ∧
      (((s.lineAt l).lrx.consec + 1) % 4 = 0 → s.hears →
        Raises s t evLrxAcqRetry [Word.nat l, Word.nat ((s.lineAt l).lrx.retries + 1), Word.nat (s.lineAt l).lrx.preset]) ∧
      (∀ k, k ≠ l → t.lineAt k = s.lineAt k) ∧
      OnlyChanges [.lnRx, .lnRxPower, .lnSdf, .stats, .evRaised, .evQueue] s t)

/-- Loss of signal, its end, and loss of lock (R76 to R80): the words of the event, the lane's state, and the acquisition that
starts. A loss of signal leaves every event raised before it but an SDF_LOCK_LOST, whose cause it may name (R222). -/
def Obligations.LossOfSignalAndLockComplete : Prop :=
  (∀ l, Completes (.losAssert l) (fun s => s.live ∧ l < s.lines ∧ (s.lineAt l).lrx.power ≠ .off ∧ (s.lineAt l).lrx.los = false ∧ s.hears)
    fun s t => { code := evLrxLosAssert, bcnt := s.tku.bcnt, data := [Word.nat l, Word.nat (s.lineAt l).state.num] } ∈ t.ev.raised ∧
      (∀ e ∈ s.ev.raised, e.code ≠ evSdfLockLost → e ∈ t.ev.raised) ∧
      ((s.lineAt l).state = .acquire ∨ (s.lineAt l).state = .up → (t.lineAt l).state = .fault ∧ (t.lineAt l).lrx.freqHeld = true) ∧
      ((s.lineAt l).state = .down ∨ (s.lineAt l).state = .test ∨ (s.lineAt l).state = .fault →
        (t.lineAt l).state = (s.lineAt l).state) ∧
      (t.lineAt l).lrx.gain = (s.lineAt l).lrx.gain ∧ (t.lineAt l).lrx.taps = (s.lineAt l).lrx.taps) ∧
  (∀ l, Completes (.losClear l) (fun s => l < s.lines ∧ (s.lineAt l).lrx.power ≠ .off ∧ (s.lineAt l).lrx.los = true ∧ s.hears)
    fun s t => Raises s t evLrxLosClear [Word.nat l, Word.nat (s.since (s.lineAt l).lrx.losSince),
        Word.flag ((s.lineAt l).lrx.losFirst || decide (62500000 < s.since (s.lineAt l).lrx.losSince))] ∧
      ((s.lineAt l).state = .fault → (s.lineAt l).stuck = false → (t.lineAt l).lrx.step = 1 ∧
        (t.lineAt l).lrx.cold = ((s.lineAt l).lrx.losFirst || decide (62500000 < s.since (s.lineAt l).lrx.losSince)))) ∧
  (∀ l snr, Completes (.snrWindowEnd l snr)
    (fun s => s.live ∧ l < s.lines ∧ (s.lineAt l).state = .up ∧ (s.lineAt l).stuck = false ∧ snr < 50 * s.parN nLrxCfg l 14 ∧
      2 ≤ (s.lineAt l).lrx.lowSnr ∧ s.hears)
    fun s t => Raises s t evLrxLockLost [Word.nat l, Word.nat 0] ∧ (t.lineAt l).state = .fault ∧
      (t.lineAt l).lrx.step = 1 ∧ (t.lineAt l).lrx.cold = false) ∧
  (∀ l snr, Completes (.snrWindowEnd l snr)
    (fun s => l < s.lines ∧ (s.lineAt l).state = .up ∧ (50 * s.parN nLrxCfg l 14 ≤ snr ∨ (s.lineAt l).lrx.lowSnr < 2))
    fun s t => (t.lineAt l).state = .up ∧
      (t.lineAt l).lrx.lowSnr = (if snr < 50 * s.parN nLrxCfg l 14 then (s.lineAt l).lrx.lowSnr + 1 else 0) ∧
      OnlyChanges [.lnRx, .lnRxPower] s t) ∧
  (∀ l, Completes (.timingFrequencyOutOfRange l)
    (fun s => s.live ∧ l < s.lines ∧ (s.lineAt l).state = .up ∧ (s.lineAt l).stuck = false ∧ s.hears)
    fun s t => Raises s t evLrxLockLost [Word.nat l, Word.nat 1] ∧ (t.lineAt l).state = .fault ∧
      (t.lineAt l).lrx.step = 1 ∧ (t.lineAt l).lrx.cold = false)

/-- An estimate period (R105 to R111) publishes its figures; the period that ends step 6 of an acquisition ends the step, and
LRX_ACQ_DONE carries the time and the retries. A window of the background estimator (R82) moves the coefficients of a slice that runs
by at most one step within their ranges, skew in the window that ends 20 us; an active slice that fails R89 a second time has its
position taken by the spare (R90). -/
def Obligations.EstimatesAndSlicesComplete : Prop :=
  (∀ l q e rms, Completes (.estimatePeriodEnd l q e rms)
    (fun s => l < s.lines ∧ (s.lineAt l).lrx.power = .full ∧ ((s.lineAt l).state = .up ∨ (s.lineAt l).state = .test))
    fun s t => (t.lineAt l).lrx.q = ((s.agcRun l rms).figures l q).map Word.int ∧ (t.lineAt l).lrx.freq = q.freq ∧
      (t.lineAt l).lrx.periods = (s.lineAt l).lrx.periods + 1 ∧
      (t.lineAt l).lrx.qDisturbed = ((s.lineAt l).lrx.disturbed || (s.lineAt l).lrx.los) ∧
      (t.lineAt l).lrx.disturbed = false ∧ (t.lineAt l).lrx.estDisturbed = (t.lineAt l).lrx.qDisturbed ∧
      (t.lineAt l).lrx.echoes = (echoList (s.parI nLrxCfg l 15) e.echoes).length) ∧
  (∀ l q e rms, Completes (.estimatePeriodEnd l q e rms) (fun s => l < s.lines ∧
      ((s.lineAt l).state = .acquire ∨ (s.lineAt l).state = .fault) ∧ (s.lineAt l).stuck = false ∧ (s.lineAt l).lrx.step = 6 ∧
      (s.lineAt l).lrx.los = false ∧ (s.lineAt l).lrx.power = .full ∧ s.hears)
    fun s t => (t.lineAt l).lrx.q = ((s.agcRun l rms).figures l q).map Word.int ∧ (t.lineAt l).lrx.consec = 0 ∧
      Raises s t evLrxAcqDone [Word.nat l, Word.nat (s.since (s.lineAt l).lrx.since), Word.nat (s.lineAt l).lrx.retries]) ∧
  (∀ l r p, Completes (.backgroundWindowEnd l [r] [])
    (fun s => l < s.lines ∧ (s.lineAt l).lrx.power = .full ∧ (s.lineAt l).lrx.frozen = false ∧ r.slice < 65 ∧
      (s.sliceAt l r.slice).pos = some p ∧ (s.half l = true → p < 32) ∧
      r.off.natAbs ≤ 64 ∧ r.gain.natAbs ≤ 600 ∧ r.skew.natAbs ≤ 600 ∧ 10 * r.same ≤ 9 * r.codes)
    fun s t => (t.sliceAt l r.slice).off = max (-256) (min 256 ((s.sliceAt l r.slice).off + max (-1) (min 1 r.off))) ∧
      (t.sliceAt l r.slice).gain = max (-600) (min 600 ((s.sliceAt l r.slice).gain + max (-1) (min 1 r.gain))) ∧
      (t.sliceAt l r.slice).skew = (if (s.lineAt l).lrx.skewWin = 9
        then max (-120) (min 120 ((s.sliceAt l r.slice).skew + max (-1) (min 1 r.skew))) else (s.sliceAt l r.slice).skew) ∧
      OnlyChanges [.lnRx, .lnRxPower] s t) ∧
  (∀ l r p k, Completes (.backgroundWindowEnd l [r] [])
    (fun s => l < s.lines ∧ (s.lineAt l).lrx.power = .full ∧ r.slice < 65 ∧
      (s.sliceAt l r.slice).pos = some p ∧ (s.half l = true → p < 32) ∧
      (64 < r.off.natAbs ∨ 600 < r.gain.natAbs ∨ 600 < r.skew.natAbs ∨ 9 * r.codes < 10 * r.same) ∧
      1 ≤ (s.sliceAt l r.slice).bad ∧ (s.lineAt l).lrx.rotStep = 0 ∧ (s.lineAt l).lrx.transom = k ∧ k ≠ r.slice ∧ k < 65 ∧
      (s.sliceAt l k).pos = none ∧ (s.sliceAt l k).health = .ok ∧ (s.sliceAt l k).needsCal = false ∧ s.hears)
    fun s t => Raises s t evLrxSliceSubst [Word.nat l, Word.nat r.slice, Word.nat k, Word.nat p] ∧
      (t.sliceAt l k).pos = some p ∧ (t.sliceAt l r.slice).pos = none ∧ (t.sliceAt l r.slice).health = .test ∧
      (t.lineAt l).lrx.disturbed = true)

/-- Sample capture (R114 to R118): an armed capture begins at its condition, takes a segment at a time, writes the segment and
its descriptor into its memory, the bytes of an uncorrectable word of the buffer as 0 (R540), and ends with the last one. -/
def Obligations.SampleCaptureCompletes : Prop :=
  (Completes .captureStartCondition (fun s => s.cap.armed ∧ s.cap.running = false ∧
      (s.cap.start = 0 ∨ (s.cap.start = 1 ∧ s.cap.startAt.toNat ≤ s.tku.bcnt.toNat) ∨
        (s.cap.start = 2 ∧ (s.lineAt s.cap.lane).lrx.los = false)))
    fun s t => t.cap = { s.cap with armed := false, running := true } ∧ OnlyChanges [.cap] s t) ∧
  (Completes .captureSegmentStart (fun s => s.cap.running ∧ s.cap.taking = false)
    fun s t => t.cap = { s.cap with taking := true, segAt := s.tku.bcnt, substs := 0 } ∧ OnlyChanges [.cap] s t) ∧
  (∀ bs clips, Completes (.captureSegmentDrained bs clips [])
    (fun s => s.cap.running ∧ s.cap.taking ∧ bs.length = s.cap.segLen ∧ s.cap.done + 1 ≠ s.cap.count ∧ 4096 ≤ s.cap.segLen ∧
      s.cap.offset + s.cap.done * s.cap.segLen + s.cap.segLen ≤ capRegion)
    fun s t => t.cap.done = s.cap.done + 1 ∧ t.cap.running = true ∧ t.cap.taking = false ∧
      (∀ i, i < s.cap.segLen → t.memByte (0x60000000 + (s.cap.offset + s.cap.done * s.cap.segLen) + i) = bs.getD i 0) ∧
      (∀ i, i < 32 → t.memByte (0x5F000000 + 32 * ((s.cap.offset + s.cap.done * s.cap.segLen) / 4096) + i) =
        (leBytes 8 s.cap.segAt.toNat ++ leBytes 4 s.cap.segLen ++ leBytes 1 (if s.cap.raw then 0 else 1) ++
          leBytes 1 (min s.cap.substs 255) ++ leBytes 2 (min (if s.cap.raw
            then (bs.filter fun b => b == 0x80 || b == 0x7F).length else clips) 65535)).getD i 0) ∧
      OnlyChanges [.cap, .memData, .memRest, .evRaised, .evQueue, .pmcCtr] s t) ∧
  (∀ bs clips w row, Completes (.captureSegmentDrained bs clips [{ region := 2, addr := w, row := row, syn := none }])
    (fun s => s.cap.running ∧ s.cap.taking ∧ bs.length = s.cap.segLen ∧ s.cap.done + 1 ≠ s.cap.count ∧ 4096 ≤ s.cap.segLen ∧
      s.cap.offset + s.cap.done * s.cap.segLen + s.cap.segLen ≤ capRegion ∧ s.hears)
    fun s t => (∀ i, i < s.cap.segLen → t.memByte (0x60000000 + (s.cap.offset + s.cap.done * s.cap.segLen) + i) =
        if i / 4 = w then 0 else bs.getD i 0) ∧
      t.statAt gMem 2 3 = (s.statAt gMem 2 3).add 1 ∧ Raises s t evMemUncorr [2, Word.nat w, 6]) ∧
  (∀ bs clips, Completes (.captureSegmentDrained bs clips [])
    (fun s => s.cap.running ∧ s.cap.taking ∧ bs.length = s.cap.segLen ∧ s.cap.done + 1 = s.cap.count ∧ s.hears)
    fun s t => t.cap.done = s.cap.done + 1 ∧ t.cap.running = false ∧
      Raises s t evLrxCaptureDone [Word.nat s.cap.lane, Word.nat (s.cap.done + 1)])

/-! ## Elastic equalisation (R46, R51, R52, R124 to R172) -/

/-- The FIFO of a lane (R46, R51, R52, R128, R131, R132): a block enters with its samples as the receiver corrects and equalises them,
its segments spread over the group; the oldest leaves, a late segment with its FFE samples, a block with a poisoned word as zeros
(R540); the high watermark makes a tier drop due, the overflow discards the blocks and puts an UP lane into FAULT. Coefficients and
engine faults (R142, R143, R164 to R167): a pushed set reaches every engine of the group for its next block boundary, a transom
engine copies every lane's set, and takes the place of an engine that fails, from its shadow copy. -/
def Obligations.FifosAndEnginesComplete : Prop :=
  ((∀ l codes, Completes (.blockEntersFifo l codes)
    (fun s => l < s.lines ∧ (s.lineAt l).lrx.power = .full ∧ (s.lineAt l).sea.discard = false ∧
      ((s.lineAt l).state = .acquire ∨ (s.lineAt l).state = .up ∨ (s.lineAt l).state = .test ∨
        ((s.lineAt l).state = .fault ∧ 1 ≤ (s.lineAt l).lrx.step)) ∧ (s.lineAt l).sea.fifo.length < 16)
    fun s t => (∃ b, (t.lineAt l).sea.fifo = (s.lineAt l).sea.fifo ++ [b] ∧ b.occ = (s.lineAt l).sea.fifo.length + 1 ∧
        b.ffe = (s.frontEnd l (s.correctCodes l codes)).2 ∧ ((s.lineAt l).sea.tier = 0 → b.out = b.ffe) ∧
        (0 < (s.lineAt l).sea.tier → s.groupOf l ≠ [] → b.tier = (s.lineAt l).sea.tier ∧
          b.segs = (List.range 15).map (fun k =>
            (s.groupOf l).getD (((s.lineAt l).sea.rr + k) % (s.groupOf l).length) 0) ∧
          (t.lineAt l).sea.rr = ((s.lineAt l).sea.rr + 15) % (s.groupOf l).length) ∧
        (t.lineAt l).sea.overlap = b.ffe.drop (b.ffe.length - 64)) ∧
      (∀ k, k ≠ l → t.lineAt k = s.lineAt k)) ∧
  (∀ l codes, Completes (.blockEntersFifo l codes) (fun s => l < s.lines ∧ (s.lineAt l).lrx.power = .listen)
    fun s t => (t.lineAt l).sea = (s.lineAt l).sea ∧
      (t.lineAt l).lrx.env = (s.correctCodes l codes).foldl
        (fun e v => e.take (envWindow (s.half l) true) (s.lineAt l).lrx.los v) (s.lineAt l).lrx.env ∧
      (∀ k, k ≠ l → t.lineAt k = s.lineAt k) ∧ OnlyChanges [.lnRx, .lnRxPower] s t) ∧
  (∀ l b rest, Completes (.blockRelease l [] []) (fun s => (s.lineAt l).sea.fifo = b :: rest)
    fun s t => (t.lineAt l).sea = { (s.lineAt l).sea with fifo := rest, out := b.released [] false } ∧
      (∀ k, k ≠ l → t.lineAt k = s.lineAt k) ∧ OnlyChanges [.lnSea, .evRaised, .evQueue, .pmcCtr] s t) ∧
  (∀ l b rest k, Completes (.blockRelease l [k] [])
    (fun s => (s.lineAt l).sea.fifo = b :: rest ∧ 2 < b.occ ∧ k < b.segs.length)
    fun s t => (t.lineAt l).sea.fifo = rest ∧ (t.lineAt l).sea.out = b.released [k] false ∧
      t.statAt gSea l 0 = (s.statAt gSea l 0).add 1 ∧ t.eng = s.eng) ∧
  (∀ l b rest w row, Completes (.blockRelease l [] [{ region := 1, addr := w, row := row, syn := none }])
    (fun s => (s.lineAt l).sea.fifo = b :: rest ∧ s.hears)
    fun s t => (t.lineAt l).sea.fifo = rest ∧ (t.lineAt l).sea.out = List.replicate 960 0 ∧
      Raises s t evMemUncorr [1, Word.nat w, 5]) ∧
  (∀ l, Completes (.fifoWatermarkCrossed l) (fun s => 4 ≤ (s.lineAt l).sea.fifo.length ∧ 0 < (s.lineAt l).sea.tier)
    fun s t => (t.lineAt l).sea = { (s.lineAt l).sea with dropNext := true } ∧ ∀ k, k ≠ l → t.lineAt k = s.lineAt k) ∧
  (∀ l, Completes (.fifoOverflow l)
    (fun s => s.live ∧ 16 ≤ (s.lineAt l).sea.fifo.length ∧ l < s.lines ∧ (s.lineAt l).state = .up ∧
      (s.lineAt l).stuck = false ∧ s.hears)
    fun s t => (t.lineAt l).sea.fifo = [] ∧ (t.lineAt l).sea.discard = true ∧ (t.lineAt l).state = .fault ∧
      (t.lineAt l).lrx.step = 1 ∧ (t.lineAt l).lrx.cold = false ∧ Raises s t evSeaFifoOverflow [Word.nat l])) ∧
  ((∀ l errs, Completes (.coefficientPush l errs)
    (fun s => l < s.lines ∧ s.parN nSeaKparam l 3 = 0 ∧ (s.lineAt l).sea.adaptHold = false ∧ s.adaptOf l ≠ [] ∧ s.groupOf l ≠ [])
    fun s t => (t.lineAt l).sea.master = (errs.zip (s.lineAt l).sea.taps).foldl
        (kernelLms (-(s.parI nSeaKparam l 1)).toNat (s.leakOf l)) (s.lineAt l).sea.master ∧
      (t.lineAt l).sea.taps = [] ∧
      (∀ e ∈ s.groupOf l, t.engAt e = { s.engAt e with coefNext := some (coefSetOf (t.lineAt l).sea.master) }) ∧
      ∀ e, e ∉ s.groupOf l → t.engAt e = s.engAt e) ∧
  (∀ e, Completes (.shadowRefresh e) (fun s => (s.engAt e).role = .transom)
    fun s t => t.engAt e = { s.engAt e with shadow := (List.range s.lines).map fun l => coefSetOf (s.lineAt l).sea.master } ∧
      OnlyChanges [.eng] s t) ∧
  (∀ e k c, Completes (.engineFault e c)
    (fun s => e < s.engines ∧ (s.engAt e).role = .tier ∧ k < s.engines ∧ (s.engAt k).role = .transom ∧ k / 64 = e / 64 ∧
      (∀ j, j < k → j / 64 = e / 64 → (s.engAt j).role ≠ .transom) ∧ s.hears)
    fun s t => (t.engAt e).role = .test ∧ (t.engAt k).role = .tier ∧ (t.engAt k).lane = (s.engAt e).lane ∧
      (.engine k ∉ s.tst.slices → (t.engAt k).coefs =
        (s.engAt k).shadow.getD (s.engAt e).lane (coefSetOf (s.lineAt (s.engAt e).lane).sea.master)) ∧
      t.statAt gSea (s.engAt e).lane 6 = (s.statAt gSea (s.engAt e).lane 6).add 1 ∧
      Raises s t evSeaEngineFault [Word.nat e, Word.nat (s.engAt e).lane, Word.nat (condNum c), Word.nat k]) ∧
  (∀ e k c, Completes (.adaptEngineFault e c)
    (fun s => e < s.engines ∧ (s.engAt e).role = .adapt ∧ k < s.engines ∧ (s.engAt k).role = .transom ∧ k / 64 = e / 64 ∧
      (∀ j, j < k → j / 64 = e / 64 → (s.engAt j).role ≠ .transom) ∧ s.hears)
    fun s t => (t.engAt e).role = .test ∧ (t.engAt k).role = .adapt ∧ (t.engAt k).lane = (s.engAt e).lane ∧
      t.statAt gSea (s.engAt e).lane 6 = (s.statAt gSea (s.engAt e).lane 6).add 1 ∧
      Raises s t evSeaEngineFault [Word.nat e, Word.nat (s.engAt e).lane, Word.nat (condNum c), Word.nat k]))

/-- What the Hinge does at a block boundary and after the raise dwell (R154, R156, R157): a lane above its plan is lowered to
it at the boundary, a drop that is due lowers it one tier with SEA_TIER_DROP, and the dwell frees every waiting raise. -/
def Obligations.PlansAreApplied : Prop :=
  (∀ l, Completes (.planBlockBoundary l)
    (fun s => s.hinge.started ∧ 0 < s.planRate ∧ s.startedLanes.contains l ∧ (s.lineAt l).sea.dropNext = false ∧
      (s.lineAt l).sea.plan < (s.lineAt l).sea.tier)
    fun s t => (t.lineAt l).sea.tier = (s.lineAt l).sea.plan ∧ (t.lineAt l).sea.plan = (s.lineAt l).sea.plan ∧
      (t.lineAt l).sea.fifo = (s.lineAt l).sea.fifo) ∧
  (∀ l, Completes (.planBlockBoundary l)
    (fun s => s.hinge.started ∧ 0 < s.planRate ∧ s.startedLanes.contains l ∧ (s.lineAt l).sea.dropNext ∧
      0 < (s.lineAt l).sea.tier ∧ s.hears)
    fun s t => (t.lineAt l).sea.dropNext = false ∧ (t.lineAt l).sea.tier ≤ (s.lineAt l).sea.tier - 1 ∧
      t.statAt gSea l 1 = (s.statAt gSea l 1).add 1 ∧
      Raises s t evSeaTierDrop [Word.nat l, Word.nat (s.lineAt l).sea.tier, Word.nat ((s.lineAt l).sea.tier - 1),
        Word.nat (s.lineAt l).sea.fifo.length]) ∧
  Completes .raiseDwellExpiry (fun s => s.hinge.started)
    fun s t => ∀ l, l < s.lines → (t.lineAt l).sea.held = false ∧ (t.lineAt l).sea.bar = 0 ∧
      (t.lineAt l).sea.tier = (s.lineAt l).sea.tier

/-- The steps of a swap (R159, R160): each step's event moves it on; the shadows start from the live coefficients, with new terms at
zero, and adapt only those; the group switches when the shadow's error power is at most 0.1 dB above the live one and the group
has the engines that R47 asks for, else the live kernel stays and the swap is abandoned. "By swap" values take effect with the
switch alone (R136). -/
def Obligations.SwapStepsComplete : Prop :=
  (∀ l w, Completes (.swapStaged l)
    (fun s => (s.lineAt l).sea.swap = some w ∧ w.step = 1 ∧ w.count ≤ (s.groupOf l).length)
    fun s t => (∃ cs, (t.lineAt l).sea.swap = some { w with step := 3, coefs := cs } ∧
        cs = (s.liveMaster l (s.parWith l w.par 0)).zipIdx.map
          (fun c => if max 16 (macOf (s.lineAt l).sea.tier) ≤ c.2 then 0 else c.1) ∧
        ∀ e ∈ w.shadows ++ w.lent, (t.engAt e).coefs = coefSetOf cs) ∧
      (∀ k, k ≠ l → t.lineAt k = s.lineAt k) ∧ OnlyChanges [.free, .lnSea, .eng] s t) ∧
  (∀ l w ups, Completes (.shadowSettleEnd l ups) (fun s => (s.lineAt l).sea.swap = some w ∧ w.step = 3)
    fun s t => (∃ cs, (t.lineAt l).sea = { (s.lineAt l).sea with swap := some { w with step := 4, coefs := cs } } ∧
        cs = (ups.foldl (kernelLms (-(s.parI nSeaKparam l 1)).toNat (s.leakOf l)) w.coefs).zipIdx.map
          (fun c => if c.2 < macOf (s.lineAt l).sea.tier then w.coefs.getD c.2 0 else c.1) ∧
        ∀ e ∈ w.shadows ++ w.lent, (t.engAt e).coefs = coefSetOf cs) ∧
      (∀ k, k ≠ l → t.lineAt k = s.lineAt k) ∧ OnlyChanges [.lnSea, .eng] s t) ∧
  (∀ l w a b, Completes (.swapComparisonDone l a b) (fun s => (s.lineAt l).sea.swap = some w ∧ w.step = 4)
    fun s t => (t.lineAt l).sea = { (s.lineAt l).sea with swap := some { w with step := 5, live := a, shadow := b } } ∧
      (∀ k, k ≠ l → t.lineAt k = s.lineAt k) ∧ OnlyChanges [.lnSea] s t) ∧
  (∀ l w, Completes (.swapSwitch l)
    (fun s => (s.lineAt l).sea.swap = some w ∧ w.step = 5 ∧ w.shadow ≤ w.live + 10 ∧
      engNeed (s.half l) w.tier s.planRate ≤ (s.groupOf l).length ∧ s.hears)
    fun s t => (t.lineAt l).sea.tier = w.tier ∧ (t.lineAt l).sea.version = w.version ∧
      (t.lineAt l).sea.swap = some { w with step := 6, ticket := none } ∧
      (t.lineAt l).sea.master = (s.liveMaster l (s.parWith l w.par 0)).zipIdx.map
        (fun c => if c.2 < macOf (s.lineAt l).sea.tier then c.1 else w.coefs.getD c.2 0) ∧
      t.params = (s.putPar l w.par).params ∧
      Raises s t evSeaSwapDone [Word.nat l, Word.nat (kernelOf w.tier), Word.nat w.version, Word.int w.live, Word.int w.shadow]) ∧
  (∀ l w, Completes (.swapSwitch l)
    (fun s => (s.lineAt l).sea.swap = some w ∧ w.step = 5 ∧ w.live + 10 < w.shadow ∧
      engNeed (s.half l) w.tier s.planRate ≤ (s.groupOf l).length ∧ s.hears)
    fun s t => (t.lineAt l).sea.tier = (s.lineAt l).sea.tier ∧ (t.lineAt l).sea.version = (s.lineAt l).sea.version ∧
      (t.lineAt l).sea.swap = none ∧ t.params = s.params ∧
      ((s.lineAt l).sea.tier < w.tier → (t.lineAt l).sea.bar = w.tier) ∧
      t.statAt gSea l 5 = (s.statAt gSea l 5).add 1 ∧ Raises s t evSeaSwapAbandoned [Word.nat l, Word.nat 0]) ∧
  (∀ l w, Completes (.shadowReturn l)
    (fun s => (s.lineAt l).sea.swap = some w ∧ w.step = 6 ∧ (s.lineAt l).sea.swapWait = none ∧
      (s.lineAt l).sea.plan ≤ (s.lineAt l).sea.tier)
    fun s t => (t.lineAt l).sea.swap = none ∧ (t.lineAt l).sea.tier = (s.lineAt l).sea.tier)

/-! ## Line format and SDF (R173 to R222) -/

/-- The inner code (R178 to R180, R198): every codeword has syndrome 0, the syndrome of a word is the sum of
those of its bits, bit i alone gives x^(143 - i) mod g(x), and every nonzero syndrome matches exactly one degree from
0 to 254; hard decoding of a word with one wrong bit gives back the codeword, whatever the reliabilities, and a syndrome of
degree 144 or more points at no bit. -/
def Obligations.HardDecodingCorrectsSingleErrors : Prop :=
  (∀ m : BitVec 136, syndrome (encodeWord m) = 0 ∧ (encodeWord m).setWidth 136 = m) ∧
  (∀ a b : BitVec 144, syndrome (a ^^^ b) = syndrome a ^^^ syndrome b) ∧
  (∀ i, i < 144 → syndrome (BitVec.twoPow 144 i) = xPow (143 - i)) ∧
  (∀ (m : BitVec 136) (i : Nat), i < 144 → syndrome (encodeWord m ^^^ BitVec.twoPow 144 i) = xPow (143 - i)) ∧
  (∀ (m : BitVec 136) (i : Nat) (rel : List Nat), i < 144 →
    chase (encodeWord m ^^^ BitVec.twoPow 144 i) rel 0 = some (0, [i]) ∧
    toggle (encodeWord m ^^^ BitVec.twoPow 144 i) [i] = encodeWord m) ∧
  (∀ x, 0 < x → x < 256 → ∃ d, d < 255 ∧ xPow d = x ∧ ∀ e, e < 255 → xPow e = x → e = d) ∧
  (∀ (w : BitVec 144) (rel : List Nat) (d : Nat), 144 ≤ d → d < 255 → syndrome w = xPow d → chase w rel 0 = none)

/-- Transmit precoding and its recovery (R183, R185): a run of Gray indices, precoded from any level on, is recovered symbol by
symbol from each level and the one before it. Each bit pair has the Gray index of the table, and comes back from it. A branch of the
trellis carries the bits of its level, under precoding those of the recovered index (R194). The FEC symbols of PCS lanes that are
interleaved round-robin come apart again (R188). -/
def Obligations.PrecodingIsRecovered : Prop :=
  (∀ (gs : List Nat) (p n : Nat), (∀ g ∈ gs, g < 4) → p < 4 → n < gs.length →
    unprecode ((p :: precodeRun p gs).getD n 0) ((precodeRun p gs).getD n 0) = gs.getD n 0) ∧
  (grayOf false false = 0 ∧ grayOf false true = 1 ∧ grayOf true true = 2 ∧ grayOf true false = 3) ∧
  (∀ a b : Bool, grayBits (grayOf a b) = (a, b)) ∧ (∀ g, g < 4 → grayOf (grayBits g).1 (grayBits g).2 = g) ∧
  (∀ a b, a < 4 → b < 4 → branchBits false a b = grayBits a ∧ branchBits true a b = grayBits ((a + b) % 4)) ∧
  (∀ (lanes : List (List (BitVec 10))) (n : Nat), lanes ≠ [] → (∀ x ∈ lanes, x.length = n) →
    separateFec lanes.length 0 (interleaveFec lanes 0 (lanes.length * n)) = lanes)

/-- Codewords of a locked lane (R198, R199, R203, R209 to R213): the detector takes a block with its first codeword, the decoder's choice
is passed on and counted by how it was found, a word without a candidate passes unchanged and counts as inner-uncorrectable; an
RS codeword counts in its bin, and is passed on corrected, or marked, by a Terminate port. Codeword lock (R201 to R206): a hunt
test that gives all four boundaries with consecutive starts locks, one whose starts are not consecutive counts a hunt mismatch
and discards them, one without a boundary goes to the next 24 offsets, and under AUTO to the other precoding setting after a
sweep; four windows in one stream with fewer than 8 zero syndromes end the lock, and a window with 8 or more in every stream
restarts the counts. -/
def Obligations.CodewordsAndLockComplete : Prop :=
  ((∀ l ys after w k fs, Completes (.innerCodewordDecode l ys after)
    (fun s => l < s.lines ∧ (s.lineAt l).sdf.lock ∧ w = codewordOf (s.lineAt l).sdf.nextQ (s.parN nSdfCfg l 5)
        (if (s.lineAt l).sdf.nextQ = 0 then s.detect l (ys ++ after) else (s.lineAt l).sdf.soft) ∧
      chase w.1 w.2 (s.parN nSdfCfg l 6) = some (k, fs) ∧ fs ≠ [])
    fun s t => (t.lineAt l).sdf.payload = (toggle w.1 fs).setWidth 136 ∧ t.statAt gSdf l 0 = (s.statAt gSdf l 0).add 1 ∧
      t.statAt gSdf l (if k = 0 then 2 else 3) = (s.statAt gSdf l (if k = 0 then 2 else 3)).add 1 ∧
      t.statAt gSdf l 5 = (s.statAt gSdf l 5).add fs.length ∧ t.statAt gSdf l 4 = s.statAt gSdf l 4 ∧
      (t.lineAt l).sdf.nextQ = ((s.lineAt l).sdf.nextQ + 1) % 4 ∧
      (∀ j, j ≠ l → t.lineAt j = s.lineAt j)) ∧
  (∀ l ys after w, Completes (.innerCodewordDecode l ys after)
    (fun s => l < s.lines ∧ (s.lineAt l).sdf.lock ∧ w = codewordOf (s.lineAt l).sdf.nextQ (s.parN nSdfCfg l 5)
        (if (s.lineAt l).sdf.nextQ = 0 then s.detect l (ys ++ after) else (s.lineAt l).sdf.soft) ∧
      chase w.1 w.2 (s.parN nSdfCfg l 6) = none)
    fun s t => (t.lineAt l).sdf.payload = w.1.setWidth 136 ∧ t.statAt gSdf l 0 = (s.statAt gSdf l 0).add 1 ∧
      t.statAt gSdf l 4 = (s.statAt gSdf l 4).add 1 ∧ t.statAt gSdf l 5 = s.statAt gSdf l 5 ∧
      (t.lineAt l).sdf.nextQ = ((s.lineAt l).sdf.nextQ + 1) % 4 ∧
      (∀ j, j ≠ l → t.lineAt j = s.lineAt j)) ∧
  (∀ l r w n, Completes (.rsCodewordDecode l r)
    (fun s => l < s.lines ∧ (s.lineAt l).sdf.lock ∧ rsDecode r = some (w, n) ∧ 0 < n ∧ n ≤ 15)
    fun s t => t.statAt gSdf l 8 = (s.statAt gSdf l 8).add 1 ∧ t.statAt gSdf l 9 = (s.statAt gSdf l 9).add 1 ∧
      t.statAt gSdf l 10 = s.statAt gSdf l 10 ∧ t.statAt gSdf l 11 = (s.statAt gSdf l 11).add n ∧
      t.statAt gSdf l (12 + n) = (s.statAt gSdf l (12 + n)).add 1 ∧ (t.lineAt l).sdf.rsMark = false ∧
      (t.lineAt l).sdf.rsOut = (if s.terminates l then rsEncode (w.take 514) else r) ∧ OnlyChanges [.stats, .lnSdf] s t) ∧
  (∀ l r, Completes (.rsCodewordDecode l r) (fun s => l < s.lines ∧ (s.lineAt l).sdf.lock ∧ rsDecode r = none)
    fun s t => t.statAt gSdf l 8 = (s.statAt gSdf l 8).add 1 ∧ t.statAt gSdf l 9 = s.statAt gSdf l 9 ∧
      t.statAt gSdf l 10 = (s.statAt gSdf l 10).add 1 ∧
      (t.lineAt l).sdf = { (s.lineAt l).sdf with
        uncorr := (s.lineAt l).sdf.uncorr + 1, rsOut := r, rsMark := s.terminates l } ∧ OnlyChanges [.stats, .lnSdf] s t)) ∧
  ((∀ l hd rl a b c d k q, Completes (.huntTestDone l hd rl k)
    (fun s => l < s.lines ∧ ((s.lineAt l).state = .acquire ∨ (s.lineAt l).state = .fault ∨ (s.lineAt l).state = .test) ∧
      (s.lineAt l).lrx.power = .full ∧ (s.lineAt l).lrx.los = false ∧ (s.lineAt l).sdf.lock = false ∧
      (s.lineAt l).sdf.found = [none, none, none, none] ∧
      (∀ i, i < 4 → huntStream ((huntStreams hd rl).getD i []) ((s.lineAt l).sdf.huntOffsets i) = some ([a, b, c, d].getD i 0)) ∧
      blockStart [streamStart a 0, streamStart b 1, streamStart c 2, streamStart d 3] = some q ∧ s.hears)
    fun s t => (t.lineAt l).sdf.lock = true ∧ (t.lineAt l).sdf.off = [a, b, c, d] ∧ (t.lineAt l).sdf.first = q ∧
      (t.lineAt l).sdf.start = [streamStart a 0, streamStart b 1, streamStart c 2, streamStart d 3] ∧
      Raises s t evSdfLock [Word.nat l, if (s.lineAt l).sdf.precode then 0 else 1,
        Word.nat (s.since (s.lineAt l).sdf.huntSince), Word.nat (s.lineAt l).sdf.huntMis]) ∧
  (∀ l hd rl a b c d k, Completes (.huntTestDone l hd rl k)
    (fun s => l < s.lines ∧ ((s.lineAt l).state = .acquire ∨ (s.lineAt l).state = .fault ∨ (s.lineAt l).state = .test) ∧
      (s.lineAt l).lrx.power = .full ∧ (s.lineAt l).lrx.los = false ∧ (s.lineAt l).sdf.lock = false ∧
      (s.lineAt l).sdf.found = [none, none, none, none] ∧
      (∀ i, i < 4 → huntStream ((huntStreams hd rl).getD i []) ((s.lineAt l).sdf.huntOffsets i) = some ([a, b, c, d].getD i 0)) ∧
      blockStart [streamStart a 0, streamStart b 1, streamStart c 2, streamStart d 3] = none)
    fun s t => (t.lineAt l).sdf = { (s.lineAt l).sdf with prev := none, huntOff := 0, huntMis := (s.lineAt l).sdf.huntMis + 1 } ∧
      t.statAt gSdf l 6 = (s.statAt gSdf l 6).add 1 ∧ ∀ j, j ≠ l → t.lineAt j = s.lineAt j) ∧
  (∀ l hd rl k, Completes (.huntTestDone l hd rl k)
    (fun s => l < s.lines ∧ ((s.lineAt l).state = .acquire ∨ (s.lineAt l).state = .fault ∨ (s.lineAt l).state = .test) ∧
      (s.lineAt l).lrx.power = .full ∧ (s.lineAt l).lrx.los = false ∧ (s.lineAt l).sdf.lock = false ∧
      (s.lineAt l).sdf.found = [none, none, none, none] ∧ (s.lineAt l).sdf.prev = none ∧
      (∀ i, i < 4 → huntStream ((huntStreams hd rl).getD i []) ((List.range 24).map ((s.lineAt l).sdf.huntOff + ·)) = none))
    fun s t => (t.lineAt l).sdf = (if 48 ≤ (s.lineAt l).sdf.huntOff
        then { (s.lineAt l).sdf with huntOff := 0, precode := ((s.lineAt l).sdf.preSet == 2) ^^ (s.lineAt l).sdf.precode }
        else { (s.lineAt l).sdf with huntOff := (s.lineAt l).sdf.huntOff + 24 }) ∧ OnlyChanges [.lnSdf] s t) ∧
  (∀ l z, Completes (.lockWindowEnd l z)
    (fun s => l < s.lines ∧ (s.lineAt l).sdf.lock ∧ ∀ k, k < 4 → 8 ≤ z.getD k 0)
    fun s t => (t.lineAt l).sdf = { (s.lineAt l).sdf with bad := [0, 0, 0, 0] } ∧ OnlyChanges [.lnSdf] s t) ∧
  (∀ l z k, Completes (.lockWindowEnd l z)
    (fun s => s.live ∧ l < s.lines ∧ (s.lineAt l).sdf.lock ∧ (s.lineAt l).state = .up ∧ (s.lineAt l).stuck = false ∧
      k < 4 ∧ z.getD k 0 < 8 ∧ 3 ≤ (s.lineAt l).sdf.bad.getD k 0 ∧ (∀ j, j < k → 8 ≤ z.getD j 0) ∧ s.hears)
    fun s t => (t.lineAt l).sdf.lock = false ∧ (t.lineAt l).sdf.prev = some (s.lineAt l).sdf.off ∧
      (t.lineAt l).state = .fault ∧ (t.lineAt l).lrx.step = 1 ∧ (t.lineAt l).lrx.cold = false ∧
      t.statAt gSdf l 7 = (s.statAt gSdf l 7).add 1 ∧ Raises s t evSdfLockLost [Word.nat l, Word.nat k]))

/-- The 10 ms period (R193, R214 to R217) publishes the ratios of its counts, raises SDF_DEGRADE after the third period above the
threshold in a row, by the threshold that was set before the period, and SDF_RS_UNCORR when there were uncorrectable codewords;
on a lane with lock the level table adapts by its symbols; a fault of a fixed stage longer than 20 us is counted and reported
(R638). -/
def Obligations.SdfPeriodsAndStageFaultsComplete : Prop :=
  (∀ l syms, Completes (.sdfPeriodEnd l syms)
    (fun s => l < s.lines ∧ (s.lineAt l).sdf.cw0 < s.stat gSdf l 0 ∧ (s.lineAt l).sdf.rsCw0 < s.stat gSdf l 8)
    fun s t => (t.lineAt l).sdf.ber = ratioWord (s.stat gSdf l 5 - (s.lineAt l).sdf.bits0,
        144 * (s.stat gSdf l 0 - (s.lineAt l).sdf.cw0)) ∧
      (t.lineAt l).sdf.ser = ratioWord (s.stat gSdf l 11 - (s.lineAt l).sdf.rsSym0,
        544 * (s.stat gSdf l 8 - (s.lineAt l).sdf.rsCw0)) ∧
      (t.lineAt l).sdf.uncorr = 0 ∧ (t.lineAt l).sdf.degThr = s.parN nSdfCfg l 7 ∧ (t.lineAt l).sdf.rsThr = s.parN nSdfCfg l 8 ∧
      (t.lineAt l).sdf.table = (if s.parN nSdfCfg l 3 = 0 ∧ (s.lineAt l).sdf.lock then syms.foldl (fun t p =>
          tmod t nominalLevel p.1 fun m => m + roundDiv (1048576 * p.2 - m) (2 ^ (-(s.parI nSdfCfg l 4)).toNat))
          (s.lineAt l).sdf.table
        else (s.lineAt l).sdf.table) ∧
      (0 < (s.lineAt l).sdf.uncorr → s.hears → Raises s t evSdfRsUncorr [Word.nat l, Word.nat (s.lineAt l).sdf.uncorr]) ∧
      (∀ j, j ≠ l → t.lineAt j = s.lineAt j) ∧ OnlyChanges [.free, .lnSdf, .evRaised, .evQueue] s t) ∧
  (∀ l syms, Completes (.sdfPeriodEnd l syms)
    (fun s => l < s.lines ∧ (s.lineAt l).sdf.cw0 < s.stat gSdf l 0 ∧ (s.lineAt l).sdf.degHigh = 2 ∧
      (s.lineAt l).sdf.deg = false ∧ s.hears ∧
      (s.lineAt l).sdf.degThr * (144 * (s.stat gSdf l 0 - (s.lineAt l).sdf.cw0)) <
        (s.stat gSdf l 5 - (s.lineAt l).sdf.bits0) * 1000000)
    fun s t => (t.lineAt l).sdf.deg = true ∧ Raises s t evSdfDegrade [Word.nat l,
      Word.nat (ratioWord (s.stat gSdf l 5 - (s.lineAt l).sdf.bits0, 144 * (s.stat gSdf l 0 - (s.lineAt l).sdf.cw0)))]) ∧
  (∀ l ns, Completes (.fixedStageFault .sdf l ns) (fun s => l < s.lines ∧ 20000 < ns ∧ s.hears)
    fun s t => t.tst.bound = s.tst.bound + 1 ∧
      Raises s t evRelBoundExceeded [Word.nat ((s.portOf l).getD l), Word.nat 0, Word.nat ns])

/-! ## Line transmit (R223 to R247) -/

/-- A line transmitter (R223 to R228, R234 to R245): the steps of its enabling and disabling, the DAC codes of an interleaver block,
staged settings that take effect together at its end, the swing that moves one step, the transom cell that takes a failed cell's
place, and without one an UP lane in FAULT. -/
def Obligations.TransmittersComplete : Prop :=
  ((∀ l, Completes (.dacSettled l)
    (fun s => (s.lineAt l).ltx.enStep = 1 ∧ (s.lineAt l).ltx.state = .off ∧ (s.lineAt l).optics = .idle)
    fun _ t => (t.lineAt l).ltx.enStep = 3 ∧ ((t.lineAt l).optics = .starting ∨ (t.lineAt l).optics = .ready)) ∧
  (∀ l, Completes (.opticsReady l) (fun s => (s.lineAt l).ltx.enStep = 3 ∧ (s.lineAt l).optics = .ready)
    fun s t => (t.lineAt l).ltx.precoder = 0 ∧ (t.lineAt l).ltx.sent = [] ∧
      (s.txWant l → (t.lineAt l).ltx.state = .rampUp ∧ (t.lineAt l).ltx.enStep = 4)) ∧
  (∀ l, Completes (.opticsSettleTimeout l)
    (fun s => (s.lineAt l).ltx.enStep = 3 ∧ (s.lineAt l).optics ≠ .ready ∧ s.hears)
    fun s t => (t.lineAt l).ltx.enStep = 0 ∧ (t.lineAt l).ltx.retry = true ∧
      (t.lineAt l).ltx.attempts = (s.lineAt l).ltx.attempts + 1 ∧ (t.lineAt l).state = (s.lineAt l).state ∧
      Raises s t evLtxOpticsTimeout [Word.nat l, Word.nat ((s.lineAt l).ltx.attempts + 1)]) ∧
  (∀ l, Completes (.opticsRetryTimer l)
    (fun s => (s.lineAt l).ltx.retry ∧ s.dev.powered ∧ s.dev.refclk ∧ (s.lineAt l).ltx.forced = false ∧
      (s.lineAt l).ltx.dead = false ∧
      ((s.live ∧ ((s.lineAt l).state = .acquire ∨ (s.lineAt l).state = .up ∨
          ((s.lineAt l).state = .fault ∧ s.parN nLtxCfg l ltxSquelchFault = 0) ∨
          ((s.lineAt l).state = .down ∧ (s.portOf l).isSome ∧ s.parN nLtxCfg l ltxWhileDown = 1))) ∨
        (s.dev.mode = .workshop ∧ (s.lineAt l).state = .test)))
    fun s t => (t.lineAt l).ltx = { (s.lineAt l).ltx with enStep := 1, retry := false, since := s.tku.bcnt } ∧
      (∀ k, k ≠ l → t.lineAt k = s.lineAt k) ∧ OnlyChanges [.lnLtx] s t) ∧
  (∀ l, Completes (.rampUpEnd l) (fun s => (s.lineAt l).ltx.state = .rampUp ∧ s.hears)
    fun s t => (s.txWant l → (t.lineAt l).ltx.state = .on) ∧ (t.lineAt l).plt.begun = true ∧
      Raises s t evLtxEnabled [Word.nat l, Word.nat (s.since (s.lineAt l).ltx.since)]) ∧
  (∀ l, Completes (.rampDownEnd l) (fun s => (s.lineAt l).ltx.state = .rampDown ∧ s.hears)
    fun s t => (t.lineAt l).ltx.state = .off ∧ (t.lineAt l).ltx.content = .none ∧ (t.lineAt l).ltx.release = true ∧
      Raises s t evLtxDisabled [Word.nat l, Word.nat (s.lineAt l).ltx.cause.num]) ∧
  (∀ l, Completes (.opticsReleaseTimer l)
    (fun s => (s.lineAt l).ltx.release ∧ (s.lineAt l).ltx.state = .off ∧ (s.lineAt l).optics = .ready)
    fun _ t => (t.lineAt l).ltx.release = false ∧ ((t.lineAt l).optics = .stopping ∨ (t.lineAt l).optics = .idle))) ∧
  ((∀ l bits, Completes (.ltxSettingsApply l bits) (fun s => l < s.lines)
    fun s t => (∃ levels xs, levels = s.txBlock l bits ∧
        xs = txSamples (s.half l) (s.txSet l ltxLevels 4) (s.txSet l ltxTaps 9) (s.txSet l ltxTable 64)
          (s.lineAt l).ltx.sent levels ∧
        (t.lineAt l).ltx.dac = (xs.zipIdx).map (fun p => (s.lineAt l).sampleCode p.1 p.2) ∧
        (t.lineAt l).ltx.precoder = levels.getLastD (s.lineAt l).ltx.precoder ∧
        (t.lineAt l).ltx.index = ((s.lineAt l).ltx.index + xs.length) % 18000 ∧
        ((s.lineAt l).ltx.content = .fill → levels = txLevels (s.parN nSdfCfg l 0 == 0) (s.lineAt l).ltx.precoder
          (payloadSymbols (prbsRun 544 (s.lineAt l).ltx.prbs)))) ∧
      (t.lineAt l).ltx.staged = false ∧
      ((s.lineAt l).ltx.staged = false → (t.lineAt l).ltx.applied = (s.lineAt l).ltx.applied) ∧
      ((s.lineAt l).ltx.staged = true → ∀ i, 1 ≤ i → i ≤ 77 →
        tget (t.lineAt l).ltx.applied (fun e => paramDflt s.fuses (paramKey nLtxCfg l e)) i = s.param nLtxCfg l i) ∧
      (∀ k, k ≠ l → t.lineAt k = s.lineAt k) ∧ OnlyChanges [.lnLtx, .lnPlt] s t) ∧
  (∀ l, Completes (.swingStep l) (fun s => l < s.lines)
    fun s t => ((s.lineAt l).ltx.swing < s.parN nLtxCfg l ltxSwing → (t.lineAt l).ltx.swing = (s.lineAt l).ltx.swing + 1) ∧
      (s.parN nLtxCfg l ltxSwing < (s.lineAt l).ltx.swing → (t.lineAt l).ltx.swing = (s.lineAt l).ltx.swing - 1) ∧
      (s.parN nLtxCfg l ltxSwing = (s.lineAt l).ltx.swing → t.lineAt l = s.lineAt l) ∧ OnlyChanges [.lnLtx] s t) ∧
  (∀ l cell k ns, Completes (.dacCellFailure l cell ns)
    (fun s => l < s.lines ∧ cell < 16 ∧ (s.cellAt l cell).pos.isSome ∧ (s.cellAt l cell).health = .ok ∧
      k < 16 ∧ (s.cellAt l k).pos = none ∧ (s.cellAt l k).health = .ok ∧
      (∀ j, j < k → (s.cellAt l j).pos = none → (s.cellAt l j).health ≠ .ok) ∧ ns ≤ 20000 ∧ s.hears)
    fun s t => (t.cellAt l k).pos = (s.cellAt l cell).pos ∧ (t.cellAt l cell).pos = none ∧ (t.cellAt l cell).health = .test ∧
      Raises s t evLtxCellSubst [Word.nat l, Word.nat cell]) ∧
  (∀ l cell ns, Completes (.dacCellFailure l cell ns)
    (fun s => l < s.lines ∧ cell < 16 ∧ (s.cellAt l cell).pos.isSome ∧ (s.cellAt l cell).health = .ok ∧
      (∀ j, j < 16 → (s.cellAt l j).pos = none → (s.cellAt l j).health ≠ .ok) ∧
      ns ≤ 20000 ∧ s.live ∧ (s.lineAt l).state = .up)
    fun _ t => (t.lineAt l).state = .fault ∧ (t.lineAt l).stuck = true ∧ (t.lineAt l).ltx.dead = true))

/-- No SET makes a transmit sample that could clip (R226) or levels out of order (R229): where the changes of a SET of levels,
taps or table, or of the pilot depth, would, it replies RESOURCE and no parameter changes. -/
def Obligations.LtxBoundsAreKept : Prop :=
  (∀ (m : Sentence) (s : State) (r : List Nat) (cs : List ParamChange), s.Takes specSetLtxCfg m →
    parseMask (paramRows nLtxCfg) m.len.toNat (payloadOf m) = .ok r cs → ltxShape (payloadOf m) = true →
    (levelsOk (ltxValues s m.inst.toNat ltxLevels 4 cs) = false ∨
      driveOk (ltxValues s m.inst.toNat ltxLevels 4 cs) (ltxValues s m.inst.toNat ltxTaps 9 cs)
        (ltxValues s m.inst.toNat ltxTable 64 cs) (s.parN nPltCfg m.inst.toNat pltDepth) = false) →
    ∃ t, exec (.setLtxCfg m) s = .next t ∧ Replied s t m cResource 1 ∧ t.params = s.params ∧ t.line = s.line) ∧
  (∀ (m : Sentence) (s : State) (r : List Nat) (cs : List ParamChange), s.Takes specSetPltCfg m →
    parseMask (paramRows nPltCfg) m.len.toNat (payloadOf m) = .ok r cs → (maskSelected nPltCfg (payloadOf m)).contains pltDepth →
    driveOk (ltxValues s m.inst.toNat ltxLevels 4 []) (ltxValues s m.inst.toNat ltxTaps 9 [])
      (ltxValues s m.inst.toNat ltxTable 64 []) (changed s nPltCfg m.inst.toNat pltDepth cs).toNat = false →
    ∃ t, exec (.setPltCfg m) s = .next t ∧ Replied s t m cResource 1 ∧ t.params = s.params ∧ t.line = s.line)
/-! ## Host lanes (R248 to R296) -/

/-- The acquisition of a host lane (R260, R264 to R271): each event of a step moves it on; training off or a warm acquisition
skips steps 3 and 4, a partner that does not train leads to fallback under AUTO and to a retry under ON. -/
def Obligations.HostAcquisitionCompletes : Prop :=
  (∀ h, Completes (.hslSignalDetect h) (fun s => h < s.hosts ∧ (s.hostAt h).state = .acquire ∧ (s.hostAt h).step = 1 ∧
      (s.hostAt h).sigLoss ∧ s.dev.refclk)
    fun _ t => (t.hostAt h).sigLoss = false ∧ (t.hostAt h).step = 2 ∧ (t.hostAt h).state = .acquire) ∧
  (∀ h freq, Completes (.hslClockRecoveryLocked h freq)
    (fun s => h < s.hosts ∧ (s.hostAt h).state = .acquire ∧ (s.hostAt h).step = 2 ∧ -2000 ≤ freq ∧ freq ≤ 2000)
    fun s t => (t.hostAt h).step = (if (s.hostAt h).warm ∨ (s.hostAt h).mode = 1 then 5 else 3)) ∧
  (∀ h inv, Completes (.trainingFrameLock h inv) (fun s => h < s.hosts ∧ (s.hostAt h).state = .acquire ∧ (s.hostAt h).step = 3)
    fun s t => (t.hostAt h).step = 4 ∧ (t.hostAt h).requests = 1 ∧ (t.hostAt h).ready = false ∧
      (t.hostAt h).asked = some (.preset (s.hostAt h).startPreset) ∧
      (t.hostAt h).polInv = (if (s.hostAt h).rxPol = 0 then inv else (s.hostAt h).polInv) ∧
      t.statAt gHsl h 2 = (s.statAt gHsl h 2).add 1 ∧ t.statAt gHsl h 7 = (s.statAt gHsl h 7).add 1) ∧
  (∀ h, Completes (.trainingWaitExpiry h) (fun s => h < s.hosts ∧ (s.hostAt h).state = .acquire ∧ (s.hostAt h).step = 3 ∧ (s.hostAt h).mode = 2)
    fun s t => (t.hostAt h).step = 7 ∧ (t.hostAt h).fellBack = true ∧ t.statAt gHsl h 3 = (s.statAt gHsl h 3).add 1) ∧
  (∀ h, Completes (.trainingComplete h) (fun s => h < s.hosts ∧ (s.hostAt h).state = .acquire ∧ (s.hostAt h).step = 4 ∧ s.hears)
    fun s t => (t.hostAt h).step = 5 ∧ (t.hostAt h).train = .trained ∧ Raises s t evHslTrainDone
      [Word.nat h, Word.nat 0, Word.nat (s.hostAt h).requests, Word.int (s.hostAt h).lastSnr]) ∧
  (∀ h, Completes (.trainingComplete h)
    (fun s => h < s.hosts ∧ (s.hostAt h).state = .acquire ∧ (s.hostAt h).step = 7 ∧ s.hears)
    fun s t => (t.hostAt h).step = 5 ∧ (t.hostAt h).train = .fallback ∧ ∃ v, Raises s t evHslTrainDone
      [Word.nat h, Word.nat 1, Word.nat (s.hostAt h).requests, v]) ∧
  (∀ h, Completes (.trainingTimeout h) (fun s => h < s.hosts ∧ (s.hostAt h).state = .acquire ∧ (s.hostAt h).step = 4 ∧ (s.hostAt h).mode ≠ 2)
    fun s t => (t.hostAt h).step = 2 ∧ (t.hostAt h).requests = 0 ∧
      ((t.hostAt h).cm1, (t.hostAt h).c0, (t.hostAt h).c1) = hostPreset (s.hostAt h).txPreset ∧ t.statAt gHsl h 4 = (s.statAt gHsl h 4).add 1) ∧
  (∀ h snrs ffe dfe, Completes (.hslEqualisationConverged h snrs ffe dfe)
    (fun s => h < s.hosts ∧ (s.hostAt h).state = .acquire ∧ (s.hostAt h).step = 5)
    fun s t => (t.hostAt h).step = 6 ∧ (t.hostAt h).ffe = ffe ∧
      ((s.hostAt h).dfeOn = false → (t.hostAt h).dfe = 0) ∧
      ((s.hostAt h).dfeOn = true → (t.hostAt h).dfe.natAbs ≤ 35 * (ffe.getD ((s.hostAt h).cursor - 1) 0).natAbs / 100 ∧
        (dfe.natAbs ≤ 35 * (ffe.getD ((s.hostAt h).cursor - 1) 0).natAbs / 100 → (t.hostAt h).dfe = dfe)) ∧
      ((s.hostAt h).warm → (t.hostAt h).ctle = (s.hostAt h).ctle) ∧
      ((s.hostAt h).warm = false → (s.hostAt h).ctleSet ≠ autoInt → (t.hostAt h).ctle = (s.hostAt h).ctleSet.toNat) ∧
      ((s.hostAt h).warm = false → (s.hostAt h).ctleSet = autoInt → snrs.length = 19 →
        2 ≤ (t.hostAt h).ctle ∧ (t.hostAt h).ctle ≤ 20 ∧
        ∀ v ∈ snrs, v ≤ snrs.getD ((t.hostAt h).ctle - 2) 0)) ∧
  (∀ h, Completes (.warmAcquisitionTimeout h)
    (fun s => s.live ∧ h < s.hosts ∧ (s.hostAt h).state = .acquire ∧ (s.hostAt h).warm)
    fun s t => (t.hostAt h).state = .acquire ∧ (t.hostAt h).step = 1 ∧
      (t.hostAt h).warm = decide ((s.hostAt h).warmRuns + 1 < 3) ∧
      t.statAt gHsl h (if (s.hostAt h).warmRuns + 1 < 3 then 1 else 0) =
        (s.statAt gHsl h (if (s.hostAt h).warmRuns + 1 < 3 then 1 else 0)).add 1)

/-- Training requests (R261, R263, R266, R267): a measurement in a state of the pass sends the request that the policy names;
a partner's request moves one tap together with c0, keeps the taps within their limits, and otherwise changes nothing. -/
def Obligations.TrainingRequestsComplete : Prop :=
  (∀ h snr, Completes (.trainingMeasurementDone h snr false)
    (fun s => h < s.hosts ∧ (s.hostAt h).state = .acquire ∧ (s.hostAt h).step = 4 ∧ (s.hostAt h).ready = false ∧ (s.hostAt h).trying = 1 ∧ (s.hostAt h).requests < 64 ∧
      snr < (s.hostAt h).lastSnr + 5)
    fun s t => t.hostAt h = { s.hostAt h with
        trying := 2, requests := (s.hostAt h).requests + 1,
        asked := some (.tap ([2, 0, 1].getD (s.hostAt h).tapIdx 1) false) } ∧
      t.statAt gHsl h 7 = (s.statAt gHsl h 7).add 1 ∧ ∀ k, k ≠ h → t.hostAt k = s.hostAt k) ∧
  (∀ h snr, Completes (.trainingMeasurementDone h snr false)
    (fun s => h < s.hosts ∧ (s.hostAt h).state = .acquire ∧ (s.hostAt h).step = 4 ∧ (s.hostAt h).ready = false ∧ (s.hostAt h).trying = 1 ∧ (s.hostAt h).requests < 64 ∧
      (s.hostAt h).tapIdx < 2 ∧ (s.hostAt h).lastSnr + 5 ≤ snr)
    fun s t => t.hostAt h = { s.hostAt h with
        lastSnr := snr, kept := true, tapIdx := (s.hostAt h).tapIdx + 1, requests := (s.hostAt h).requests + 1,
        asked := some (.tap ([2, 0, 1].getD ((s.hostAt h).tapIdx + 1) 1) true) } ∧
      ∀ k, k ≠ h → t.hostAt k = s.hostAt k) ∧
  (∀ h snr, Completes (.trainingMeasurementDone h snr false)
    (fun s => h < s.hosts ∧ (s.hostAt h).state = .acquire ∧ (s.hostAt h).step = 4 ∧ (s.hostAt h).ready = false ∧ (s.hostAt h).trying = 4 ∧ (s.hostAt h).tapIdx = 2 ∧
      (s.hostAt h).kept = false)
    fun s t => t.hostAt h = { s.hostAt h with ready := true } ∧ ∀ k, k ≠ h → t.hostAt k = s.hostAt k) ∧
  (∀ h snr, Completes (.trainingMeasurementDone h snr true)
    (fun s => h < s.hosts ∧ (s.hostAt h).state = .acquire ∧ (s.hostAt h).step = 4 ∧ (s.hostAt h).ready = false ∧
      (s.hostAt h).trying = 1 ∧ (s.hostAt h).requests < 64)
    fun s t => t.hostAt h = { s.hostAt h with
        trying := 3, requests := (s.hostAt h).requests + 1,
        asked := some (.tap ([2, 0, 1].getD (s.hostAt h).tapIdx 1) false) } ∧
      t.statAt gHsl h 8 = (s.statAt gHsl h 8).add 1 ∧ ∀ k, k ≠ h → t.hostAt k = s.hostAt k) ∧
  (∀ h q, Completes (.partnerRequest h q)
    (fun s => h < s.hosts ∧ (s.hostAt h).state = .acquire ∧ (s.hostAt h).step = 4 ∧ tapsOk (s.hostAt h).cm1 (s.hostAt h).c0 (s.hostAt h).c1)
    fun s t => tapsOk (t.hostAt h).cm1 (t.hostAt h).c0 (t.hostAt h).c1 ∧
      (q = .tap 0 false → (s.hostAt h).cm1 = -16 → t.hostAt h = { s.hostAt h with answer := .atLimit }) ∧
      (q = .tap 0 false → -16 < (s.hostAt h).cm1 → 32 < (s.hostAt h).c0 →
        t.hostAt h = { s.hostAt h with cm1 := (s.hostAt h).cm1 - 1, c0 := (s.hostAt h).c0 - 1, answer := .updated }) ∧
      (q = .preset 3 → t.hostAt h = { s.hostAt h with cm1 := -6, c0 := 48, c1 := -10, answer := .updated }) ∧
      (q = .preset 6 → t.hostAt h = { s.hostAt h with answer := .notSupported }) ∧ ∀ k, k ≠ h → t.hostAt k = s.hostAt k)

/-- The end of step 6 (R271, R273 to R279, R286): the last lane of the first port of a group to find its markers, in the mirrored
position, makes the group's verdict REVERSED and enters UP. -/
def Obligations.MarkerHuntCompletes : Prop :=
  ∀ h p inv skew, Completes (.markerHuntDone h inv .mirrored skew)
    (fun s => s.live ∧ s.portOfHost h = some p ∧ h ∈ s.portHosts p ∧ p < s.lines ∧ h < s.hosts ∧ (s.hostAt h).state = .acquire ∧ (s.hostAt h).step = 6 ∧ (s.hostAt h).amLock = false ∧
      s.parN nHslGroup (h / 8) 0 = 0 ∧ (s.groupAt (h / 8)).verdict = .none ∧ (s.groupAt (h / 8)).results = [] ∧
      (∀ k ∈ s.portHosts p, (s.hostAt k).state = .acquire ∧ (k = h ∨ ((s.hostAt k).amLock ∧ (s.hostAt k).skew = skew))) ∧
      (∀ k, k < 8 → (s.hostAt (8 * (h / 8) + k)).state = .down ∨ (s.hostAt (8 * (h / 8) + k)).state = .acquire) ∧ s.hears)
    fun s t => (t.groupAt (h / 8)).verdict = .reversed ∧ (t.hostAt h).state = .up ∧ (t.hostAt h).amLock = true ∧
      (t.hostAt h).skew = skew ∧ Raises s t evHslReversal [Word.nat (h / 8), Word.nat 2] ∧
      Raises s t evHslUp [Word.nat h, Word.nat (s.since (s.hostAt h).since), Word.nat (s.hostAt h).train.num]

/-- Losses and recovery of host lanes (R254, R256, R260, R270, R280, R286): the event of each loss, the FAULT with its cause, the
timer and the warm acquisition; a loss of signal in an acquisition goes back to step 1. The block-lock monitor (R282, R283):
the 64th valid header in a row locks, an invalid one in HUNT slips by one bit, the 65th invalid header of a window ends the
lock at the same position; a window that ends gives way to the next. -/
def Obligations.HostLossesAndBlockLockComplete : Prop :=
  ((∀ h, Completes (.signalLoss h) (fun s => s.live ∧ h < s.hosts ∧ (s.hostAt h).state = .up ∧ (s.hostAt h).sigLoss = false ∧ s.hears)
    fun s t => (t.hostAt h).state = .fault ∧ (t.hostAt h).cause = .signal ∧ t.statAt gHsl h 9 = (s.statAt gHsl h 9).add 1 ∧
      Raises s t evHslSignalLost [Word.nat h, Word.nat (s.hostAt h).state.num]) ∧
  (∀ h, Completes (.signalLoss h) (fun s => h < s.hosts ∧ (s.hostAt h).state = .acquire ∧ (s.hostAt h).sigLoss = false)
    fun s t => (t.hostAt h).state = .acquire ∧ (t.hostAt h).step = 1 ∧ t.statAt gHsl h 5 = (s.statAt gHsl h 5).add 1 ∧
      (t.hostAt h).cm1 = (s.hostAt h).cm1 ∧ (t.hostAt h).c0 = (s.hostAt h).c0 ∧ (t.hostAt h).c1 = (s.hostAt h).c1) ∧
  (∀ h snr, Completes (.hslSnrWindowEnd h snr true) (fun s => s.live ∧ h < s.hosts ∧ (s.hostAt h).state = .up ∧ s.hears)
    fun s t => (t.hostAt h).state = .fault ∧ (t.hostAt h).cause = .lock ∧ (t.hostAt h).recover = true ∧
      t.statAt gHsl h 10 = (s.statAt gHsl h 10).add 1 ∧ Raises s t evHslLockLost [Word.nat h, Word.nat 1]) ∧
  (∀ h high c, Completes (.elasticBufferSlip h high)
    (fun s => s.live ∧ s.hostCfg h = some c ∧ (s.hostAt h).state = .up ∧ c.profile ≠ .terminate ∧ s.hears)
    fun s t => (t.hostAt h).state = .fault ∧ (t.hostAt h).cause = .slip ∧ Raises s t evHslSlip [Word.nat h, Word.flag high]) ∧
  (∀ h high c, Completes (.elasticBufferSlip h high) (fun s => s.hostCfg h = some c ∧ c.profile = .terminate) fun s t => t = s) ∧
  (∀ h pcs, Completes (.amLockLoss h pcs) (fun s => s.live ∧ h < s.hosts ∧ (s.hostAt h).state = .up ∧ s.hears)
    fun s t => (t.hostAt h).state = .fault ∧ (t.hostAt h).cause = .amLock ∧ (t.hostAt h).amLock = false ∧
      Raises s t evHslAmLockLost [Word.nat h, Word.nat pcs]) ∧
  (∀ h, Completes (.amLockRegained h) (fun s => h < s.hosts ∧ (s.hostAt h).state = .fault ∧ (s.hostAt h).cause = .amLock)
    fun s t => t.hostAt h = { s.hostAt h with amLock := true, recover := true } ∧ ∀ k, k ≠ h → t.hostAt k = s.hostAt k) ∧
  (∀ h, Completes (.faultRecoveryTimer h) (fun s => s.live ∧ h < s.hosts ∧ (s.hostAt h).state = .fault ∧ (s.hostAt h).recover)
    fun s t => (t.hostAt h).state = .acquire ∧ (t.hostAt h).warm = true ∧ (t.hostAt h).step = 1 ∧
      (t.hostAt h).cm1 = (s.hostAt h).cm1 ∧ (t.hostAt h).ctle = (s.hostAt h).ctle ∧ (t.hostAt h).polInv = (s.hostAt h).polInv) ∧
  (∀ h snr off lo hi ups rs errs c, Completes (.hslPeriodEnd h snr off lo hi ups rs errs)
    (fun s => h < s.hosts ∧ (s.hostAt h).state = .up ∧ s.hostCfg h = some c ∧
      (if c.profile = .terminate then 2000 else 20) < off.natAbs ∧ s.hears)
    fun s t => (t.hostAt h).snr = snr ∧ (t.hostAt h).offset = off ∧ (t.hostAt h).state = .up ∧
      (t.hostAt h).disturbed = !(s.hostAt h).wasUp ∧
      (s.parN nHslCfg h 12 ≠ 0 → (t.hostAt h).ffe = (s.hostAt h).ffe ∧ (t.hostAt h).dfe = (s.hostAt h).dfe) ∧
      (s.parN nHslCfg h 12 = 0 → (t.hostAt h).ffe = (ups.foldl HostLane.adapt (s.hostAt h)).ffe ∧
        (t.hostAt h).dfe = (ups.foldl HostLane.adapt (s.hostAt h)).dfe) ∧
      (c.profile ≠ .transparent → t.statAt gHsl h 13 = (s.statAt gHsl h 13).add rs) ∧
      Raises s t evHslRefOffset [Word.nat h, Word.int off, Word.flag (decide (10000 < hi - lo))]) ∧
  (∀ h snr off lo hi ups rs errs, Completes (.hslPeriodEnd h snr off lo hi ups rs errs)
    (fun s => h < s.hosts ∧ (s.hostAt h).state = .test)
    fun s t => (t.hostAt h).snr = snr ∧ (t.hostAt h).offset = off ∧ (t.hostAt h).ffe = (s.hostAt h).ffe ∧
      t.statAt gHsl h 14 = (s.statAt gHsl h 14).add errs)) ∧
  ((∀ p d hdr c, Completes (.blockReceived p d hdr)
    (fun s => p < s.lines ∧ d < 2 ∧ (s.portAt p).cfg = some c ∧ c.profile ≠ .transparent ∧
      ((s.portAt p).state = .acquire ∨ (s.portAt p).state = .up ∨ (s.portAt p).state = .fault) ∧ (hdr = 1 ∨ hdr = 2) ∧ (s.blockAt (blockIdx p d)).lock = false ∧
      63 ≤ (s.blockAt (blockIdx p d)).run ∧ s.hears)
    fun s t => t.blockAt (blockIdx p d) = { lock := true, pos := (s.blockAt (blockIdx p d)).pos } ∧
      Raises s t evPfxBlockLock [Word.nat p, Word.nat d]) ∧
  (∀ p d hdr c, Completes (.blockReceived p d hdr)
    (fun s => p < s.lines ∧ d < 2 ∧ (s.portAt p).cfg = some c ∧ c.profile ≠ .transparent ∧
      ((s.portAt p).state = .acquire ∨ (s.portAt p).state = .up ∨ (s.portAt p).state = .fault) ∧ (hdr = 0 ∨ hdr = 3) ∧ (s.blockAt (blockIdx p d)).lock = false)
    fun s t => t.blockAt (blockIdx p d) =
      { s.blockAt (blockIdx p d) with pos := ((s.blockAt (blockIdx p d)).pos + 1) % 66, run := 0 }) ∧
  (∀ p d hdr c, Completes (.blockReceived p d hdr)
    (fun s => p < s.lines ∧ d < 2 ∧ (s.portAt p).cfg = some c ∧ c.profile ≠ .transparent ∧
      ((s.portAt p).state = .acquire ∨ (s.portAt p).state = .up ∨ (s.portAt p).state = .fault) ∧ (hdr = 0 ∨ hdr = 3) ∧ (s.blockAt (blockIdx p d)).lock ∧
      (s.blockAt (blockIdx p d)).bad = 64 ∧ (s.blockAt (blockIdx p d)).seen < 1024 ∧ s.hears)
    fun s t => t.blockAt (blockIdx p d) = { lock := false, pos := (s.blockAt (blockIdx p d)).pos } ∧
      t.statAt gPfx (blockIdx p d) 0 = (s.statAt gPfx (blockIdx p d) 0).add 1 ∧
      t.statAt gPfx (blockIdx p d) 1 = (s.statAt gPfx (blockIdx p d) 1).add 1 ∧
      Raises s t evPfxBlockLockLost [Word.nat p, Word.nat d]) ∧
  (∀ p d, Completes (.blockLockWindowEnd p d)
    (fun s => p < s.lines ∧ d < 2 ∧ (s.blockAt (blockIdx p d)).lock ∧ 1024 ≤ (s.blockAt (blockIdx p d)).seen)
    fun s t => t.blockAt (blockIdx p d) = { s.blockAt (blockIdx p d) with seen := 0, bad := 0 } ∧ OnlyChanges [.block] s t))
/-! ## Ports (R297 to R319) -/

/-- START, STOP, SET and DELETE of a port (R302, R306, R308, R318) and the late start (R309). A SET that breaks R302 replies
RESOURCE and leaves the slot as it was. -/
def Obligations.PortCommandsComplete : Prop :=
  Carries .startPort specStartPort
    (fun m s => s.dev.refclk ∧ (s.portAt m.inst.toNat).cfg.isSome ∧ (s.portAt m.inst.toNat).state = .stopped ∧
      ticketCheck m s = none ∧ s.dev.powered = false)
    (fun m s t => Replied s t m cAccepted 0 ∧ (t.portAt m.inst.toNat).state = .acquire ∧
      (t.portAt m.inst.toNat).ticket = some (ticketOf m) ∧ t.dev.mode ≠ .dormant ∧
      (t.portAt m.inst.toNat).cfg = (s.portAt m.inst.toNat).cfg ∧ outstOf specStartPort m ∈ t.mb.outstanding) ∧
  Carries .stopPort specStopPort
    (fun m s => (s.portAt m.inst.toNat).cfg.isSome ∧
      ((s.portAt m.inst.toNat).state = .acquire ∨ (s.portAt m.inst.toNat).state = .up ∨ (s.portAt m.inst.toNat).state = .fault))
    (fun m s t => Replied s t m cDone 0 ∧ (t.portAt m.inst.toNat).state = .stopped ∧
      (∀ l ∈ s.portLines m.inst.toNat, (t.lineAt l).state = .down) ∧ (∀ h ∈ s.portHosts m.inst.toNat, (t.hostAt h).state = .down) ∧
      Raises s t evPortStopped [Word.nat m.inst.toNat, Word.nat (s.portAt m.inst.toNat).state.num]) ∧
  (∀ c, Carries .setPortCfg specSetPortCfg
    (fun m s => (s.portAt m.inst.toNat).state = .stopped ∧ maskRange nPortCfg m (payloadOf m) = none ∧
      askedCfg s m (payloadOf m) = some c ∧ s.cfgOk m.inst.toNat c)
    (fun m s t => Replied s t m cDone 0 ∧ (t.portAt m.inst.toNat).cfg = some c ∧
      ∀ p, p ≠ m.inst.toNat → t.portAt p = s.portAt p)) ∧
  (∀ c, Carries .setPortCfg specSetPortCfg
    (fun m s => (s.portAt m.inst.toNat).state = .stopped ∧ maskRange nPortCfg m (payloadOf m) = none ∧
      askedCfg s m (payloadOf m) = some c ∧ s.cfgOk m.inst.toNat c = false)
    (fun m s t => Replied s t m cResource 1 ∧ t.port = s.port ∧ t.params = s.params)) ∧
  Carries .deletePortCfg specDeletePortCfg
    (fun m s => (s.portAt m.inst.toNat).cfg.isSome ∧ (s.portAt m.inst.toNat).state = .stopped)
    (fun m s t => Replied s t m cDone 0 ∧ (t.portAt m.inst.toNat).cfg = none ∧ t.portLines m.inst.toNat = []) ∧
  (∀ p, Completes (.portStartTimeout p)
    (fun s => p < s.lines ∧ (s.portAt p).state = .acquire ∧ (s.portAt p).upOnce = false ∧ (s.portAt p).late = false ∧ s.hears)
    fun s t => (t.portAt p).late = true ∧ (t.portAt p).ticket = none ∧ (t.portAt p).state = .acquire ∧
      Raises s t evPortStartLate
        ([Word.nat p, Word.nat (maskOf ((s.portLines p).filter fun l => (s.lineAt l).state = .acquire)),
          Word.nat (maskOf ((s.portHosts p).filter fun h => (s.hostAt h).state = .acquire))] ++
        ((s.portLines p).filter fun l => (s.lineAt l).state = .acquire).map (fun l => Word.nat (s.lineAt l).lrx.step) ++
        ((s.portHosts p).filter fun h => (s.hostAt h).state = .acquire).map fun h => Word.nat (s.hostAt h).step))
/-! ## The Louvre pilot channel (R320 to R349) -/

/-- The pilot. Packets sent (R332, R333, R344): the interval makes a beacon due or counts a missed one; the beacon that is due
starts before the oldest USER packet; the end of a packet counts it and reports a USER packet as SENT; SEND queues. Packets
received (R337 to R346): the rules for sync detections, headers and bodies, the peer record, and its queue. -/
def Obligations.PilotPacketsComplete : Prop :=
  ((∀ l, Completes (.beaconIntervalExpiry l)
    (fun s => l < s.lines ∧ (s.portOf l).isSome ∧ s.unitOn fPilot ∧ s.parN nPltCfg l pltTransmit = 0 ∧
      s.param nPltCfg l pltInterval ≠ offWord ∧ (s.lineAt l).plt.begun)
    fun s t => (t.lineAt l).plt = { (s.lineAt l).plt with due := true } ∧
      ((s.lineAt l).plt.due → t.statAt gPlt l 2 = (s.statAt gPlt l 2).add 1) ∧
      ((s.lineAt l).plt.due = false → t.stats = s.stats) ∧ ∀ k, k ≠ l → t.lineAt k = s.lineAt k) ∧
  (∀ l p, Completes (.pilotPacketStart l)
    (fun s => l < s.lines ∧ s.unitOn fPilot ∧ s.parN nPltCfg l pltTransmit = 0 ∧ (s.lineAt l).ltx.state = .on ∧ s.dev.refclk ∧
      (s.lineAt l).plt.air = none ∧ ((s.lineAt l).plt.endedAt.all fun b => 160000 ≤ s.since b) ∧
      (s.lineAt l).plt.due ∧ p = { type := pltIdentity, seq := (s.lineAt l).plt.seq, payload := s.beaconPayload l })
    fun s t => (t.lineAt l).plt = { (s.lineAt l).plt with
        due := false, seq := ((s.lineAt l).plt.seq + 1) % 256, air := some p,
        airPhases := phases (packetBits (header p.type p.payload.length p.seq) p.payload),
        airAt := -(((18000 - (s.lineAt l).ltx.index % 18000) % 18000 : Nat) : Int), depth := s.parN nPltCfg l pltDepth } ∧
      (∀ k, k ≠ l → t.lineAt k = s.lineAt k) ∧ OnlyChanges [.lnPlt] s t) ∧
  (∀ l p ps, Completes (.pilotPacketStart l)
    (fun s => l < s.lines ∧ s.unitOn fPilot ∧ s.parN nPltCfg l pltTransmit = 0 ∧ (s.lineAt l).ltx.state = .on ∧ s.dev.refclk ∧
      (s.lineAt l).plt.air = none ∧ ((s.lineAt l).plt.endedAt.all fun b => 160000 ≤ s.since b) ∧
      (s.lineAt l).plt.due = false ∧ (s.lineAt l).plt.queue = p :: ps)
    fun s t => (t.lineAt l).plt = { (s.lineAt l).plt with
        queue := ps, air := some p,
        airPhases := phases (packetBits (header p.type p.payload.length p.seq) p.payload),
        airAt := -(((18000 - (s.lineAt l).ltx.index % 18000) % 18000 : Nat) : Int), depth := s.parN nPltCfg l pltDepth } ∧
      (∀ k, k ≠ l → t.lineAt k = s.lineAt k) ∧ OnlyChanges [.lnPlt] s t) ∧
  (∀ l p, Completes (.pilotPacketEnd l) (fun s => (s.lineAt l).plt.air = some p ∧ p.type = pltIdentity)
    fun s t => (t.lineAt l).plt = { (s.lineAt l).plt with
        air := none, airPhases := [], endedAt := some s.tku.bcnt, beacons := (s.lineAt l).plt.beacons + 1 } ∧
      t.statAt gPlt l 0 = (s.statAt gPlt l 0).add 1 ∧ t.statAt gPlt l 1 = (s.statAt gPlt l 1).add 1 ∧
      (∀ k, k ≠ l → t.lineAt k = s.lineAt k) ∧ OnlyChanges [.lnPlt, .stats] s t) ∧
  (∀ l p, Completes (.pilotPacketEnd l) (fun s => (s.lineAt l).plt.air = some p ∧ p.type ≠ pltIdentity ∧ s.hears)
    fun s t => (t.lineAt l).plt = { (s.lineAt l).plt with air := none, airPhases := [], endedAt := some s.tku.bcnt } ∧
      t.statAt gPlt l 0 = (s.statAt gPlt l 0).add 1 ∧
      Raises s t evPltTxDone [Word.nat l, Word.nat p.seq, Word.nat 0]) ∧
  Carries .sendPltPacket specSendPltPacket
    (fun m s => pltUser ((payloadOf m).getD 0 0).toNat ∧ (s.lineAt m.inst.toNat).plt.queue.length < 4 ∧ ticketCheck m s = none)
    (fun m s t => Replied s t m cAccepted 0 ∧ Delivers t m [Word.nat (s.lineAt m.inst.toNat).plt.seq] ∧
      (t.lineAt m.inst.toNat).plt = { (s.lineAt m.inst.toNat).plt with
        seq := ((s.lineAt m.inst.toNat).plt.seq + 1) % 256
        queue := (s.lineAt m.inst.toNat).plt.queue ++ [{
          type := ((payloadOf m).getD 0 0).toNat, seq := (s.lineAt m.inst.toNat).plt.seq,
          payload := bytesOfWords (m.len.toNat - 4) ((payloadOf m).drop 1), ticket := some (ticketOf m) }] }) ∧
  Carries .sendPltPacket specSendPltPacket
    (fun m s => pltUser ((payloadOf m).getD 0 0).toNat ∧ 4 ≤ (s.lineAt m.inst.toNat).plt.queue.length)
    (fun m s t => Replied s t m cResource 5 ∧ t.line = s.line)) ∧
  ((∀ l m d p, Completes (.syncDetection l m d p)
    (fun s => l < s.lines ∧ (s.lineAt l).lrx.power ≠ .off ∧ (s.lineAt l).lrx.los = false ∧ d ≤ s.parN nPltCfg l pltThreshold ∧ 24 ≤ p)
    fun s t => t.statAt gPlt l 4 = (s.statAt gPlt l 4).add 1 ∧
      ((s.lineAt l).plt.rx = .idle → (t.lineAt l).plt =
        { (s.lineAt l).plt with rx := .header, m := m, hdr := [], syncAt := s.tku.bcnt }) ∧
      ((s.lineAt l).plt.rx = .header → t.statAt gPlt l 7 = (s.statAt gPlt l 7).add 1 ∧ (t.lineAt l).plt.m = m) ∧
      ((s.lineAt l).plt.rx = .body → (s.lineAt l).plt.m + 60 ≤ m →
        t.statAt gPlt l 8 = (s.statAt gPlt l 8).add 1 ∧ (t.lineAt l).plt.rx = .header ∧ (t.lineAt l).plt.m = m) ∧
      ((s.lineAt l).plt.rx = .body → m < (s.lineAt l).plt.m + 60 →
        t.statAt gPlt l 9 = (s.statAt gPlt l 9).add 1 ∧ (t.lineAt l).plt = (s.lineAt l).plt)) ∧
  (∀ l hdr, Completes (.headerDecoded l hdr) (fun s => l < s.lines ∧ (s.lineAt l).lrx.power ≠ .off ∧ (s.lineAt l).lrx.los = false ∧ (s.lineAt l).plt.rx = .header)
    fun s t => (headerOk hdr → (t.lineAt l).plt = { (s.lineAt l).plt with rx := .body, hdr := hdr } ∧
        t.statAt gPlt l 5 = (s.statAt gPlt l 5).add 1) ∧
      (headerOk hdr = false → (t.lineAt l).plt = { (s.lineAt l).plt with rx := .idle } ∧
        t.statAt gPlt l 6 = (s.statAt gPlt l 6).add 1)) ∧
  (∀ l body plq so ro, Completes (.bodyDecoded l body plq so ro)
    (fun s => l < s.lines ∧ (s.lineAt l).lrx.power ≠ .off ∧ (s.lineAt l).lrx.los = false ∧ (s.lineAt l).plt.rx = .body ∧ body.length = ((s.lineAt l).plt.hdr.getD 1 0).toNat + 4 ∧
      bodyOk (s.lineAt l).plt.hdr body = false)
    fun s t => (t.lineAt l).plt = { (s.lineAt l).plt with rx := .idle } ∧ t.statAt gPlt l 10 = (s.statAt gPlt l 10).add 1 ∧
      t.statAt gPlt l 13 = s.statAt gPlt l 13) ∧
  (∀ l body plq so ro, Completes (.bodyDecoded l body plq so ro)
    (fun s => l < s.lines ∧ (s.lineAt l).lrx.power ≠ .off ∧ (s.lineAt l).lrx.los = false ∧ (s.lineAt l).plt.rx = .body ∧ s.unitOn fPilot ∧ (s.lineAt l).plt.hdr.take 2 = [1, 56] ∧
      body.length = 60 ∧ body.getD 0 0 = 1 ∧ bodyOk (s.lineAt l).plt.hdr body)
    fun s t => (t.lineAt l).plt.rx = .idle ∧ (t.lineAt l).plt.beacon = some (body.take 56) ∧ (t.lineAt l).plt.beaconPlq = plq ∧
      (t.lineAt l).plt.beaconAt = s.tku.bcnt ∧ t.statAt gPlt l 13 = (s.statAt gPlt l 13).add 1 ∧
      (t.lineAt l).plt.peer = (if (s.lineAt l).plt.expects then
        (if (s.lineAt l).plt.matches_ (body.take 56) then .match_ else .mismatch) else .unchecked)) ∧
  (∀ l, Completes (.peerTimeout l) (fun s => l < s.lines ∧ (s.lineAt l).plt.peer = .match_)
    fun s t => (t.lineAt l).plt = { (s.lineAt l).plt with peer := .lost } ∧ OnlyChanges [.lnPlt, .evRaised, .evQueue] s t) ∧
  (∀ p ps, Carries .receivePltPacket specReceivePltPacket (fun m s => (s.lineAt m.inst.toNat).plt.rxq = p :: ps)
    (fun m s t => Replied s t m cDone 0 ∧
      (t.lineAt m.inst.toNat).plt = { (s.lineAt m.inst.toNat).plt with rxq := ps } ∧
      tget (t.boxAt m.req m.mbx).payload (fun _ => 0) 0 = Word.nat p.type ∧
      tget (t.boxAt m.req m.mbx).payload (fun _ => 0) 1 = Word.nat p.seq)) ∧
  Carries .receivePltPacket specReceivePltPacket (fun m s => (s.lineAt m.inst.toNat).plt.rxq = [])
    (fun m s t => Replied s t m cDone 0 ∧ Delivers t m [] ∧ t.line = s.line) ∧
  Carries .setPltPeer specSetPltPeer (fun m _ => ((payloadOf m).getD 0 0).toNat = 0)
    (fun m s t => Replied s t m cDone 0 ∧ (t.lineAt m.inst.toNat).plt.expUid = none ∧
      (t.lineAt m.inst.toNat).plt.expLabel = none ∧ (t.lineAt m.inst.toNat).plt.peer = .unchecked) ∧
  Carries .setPltPeer specSetPltPeer (fun m _ => ((payloadOf m).getD 0 0).toNat = 1)
    (fun m s t => Replied s t m cDone 0 ∧ (t.lineAt m.inst.toNat).plt.peer = .none ∧
      (t.lineAt m.inst.toNat).plt.expUid =
        some (BitVec.ofNat 64 (((payloadOf m).getD 1 0).toNat + ((payloadOf m).getD 2 0).toNat * 2 ^ 32))))
/-! ## The Lexicon (R350 to R380) -/

/-- Every frame that the parse delivers is counted exactly once (R351): one context, or the unplaced context of its port and
direction, counts it in frames, bytes, errored and PTP frames; every other one keeps its counts, and only a poisoned counter word
that the frame meets (R374) marks it. -/
def Obligations.EveryFrameCountsOnce : Prop :=
  ∀ (s : State) (p d : Nat) (f : Frame) (c : PortCfg), (s.portAt p).cfg = some c → p < s.lines → d < 2 →
    c.profile ≠ .transparent → s.live → (s.portAt p).state = .up ∨ (s.portAt p).state = .fault →
    (f.cut ∨ ((s.blockAt (blockIdx p d)).lock ∧ s.localOut p d = false)) → s.unitOn fLex →
    ∃ t, exec (.frameParsed p d f) s = .next t ∧ ∃ n,
      t.anyCtx n = { (s.anyCtx n).frame (min f.length 16383) (frameErrored f) (ptpEvent f) s.epoch with
        poisoned := (t.anyCtx n).poisoned } ∧
      (∀ k, k ≠ n → t.anyCtx k = { s.anyCtx k with poisoned := (t.anyCtx k).poisoned }) ∧
      (f.ecc = [] → ∀ k, (t.anyCtx k).poisoned = (s.anyCtx k).poisoned) ∧
      (n = 16384 + 2 * p + d ∨ ∃ key, frameKey f p d (s.parN nLexPort p 1) = some key ∧ s.lookup key = some n)

/-- What the Lexicon does by itself (R358, R359, R365, R366, R369, R371, R373): the inserter gives a key the lowest free number and a
free entry, where a lookup then finds it; an early drain moves a context's counts into its totals; a pass starts, late or
on time, and completes with its sequence number; a fill ends. A drain takes the
first queued context whose bank can be read (R26, R370); an uncorrectable counter word makes the context's next slots POISONED (R374). -/
def Obligations.LexiconEventsComplete : Prop :=
  (∀ k ks i, Completes .keyInsertion
    (fun s => s.lex.insertq = k :: ks ∧ s.lookup k = none ∧ s.freeEntry (s.candidates k) = some i ∧
      firstFreeCtx 0 s.lex.ctx ≤ 16383)
    fun s t => t.lex.insertq = ks ∧ t.entryAt i = firstFreeCtx 0 s.lex.ctx + 1 ∧
      t.lookup k = some (firstFreeCtx 0 s.lex.ctx) ∧
      t.ctxAt (firstFreeCtx 0 s.lex.ctx) = (s.ctxAt (firstFreeCtx 0 s.lex.ctx)).renew k false s.epoch ∧
      t.statAt gLex 0 lxInsertions = (s.statAt gLex 0 lxInsertions).add 1) ∧
  (∀ k ks, Completes .keyInsertion (fun s => s.lex.insertq = k :: ks ∧ (s.lookup k).isSome)
    fun s t => t.lex = { s.lex with insertq := ks } ∧ OnlyChanges [.lex] s t) ∧
  (∀ n ns, Completes (.earlyDrainDone []) (fun s => s.lex.drainq = n :: ns ∧ (s.bankAt (n / 512)).filling = false)
    fun s t => t.lex.drainq = ns ∧ t.anyCtx n = { (s.anyCtx n).drain with drains := (s.anyCtx n).drains + 1 } ∧
      (∀ k, k ≠ n → t.anyCtx k = s.anyCtx k) ∧ t.statAt gLex 0 lxDrains = (s.statAt gLex 0 lxDrains).add 1 ∧
      OnlyChanges [.lex, .stats] s t) ∧
  (∀ n ns a, Completes (.earlyDrainDone [{ region := 3, addr := a, row := n, syn := none }])
    (fun s => s.lex.drainq = n :: ns ∧ (s.bankAt (n / 512)).filling = false ∧ n < 16384 ∧ (s.ctxAt n).state = .live)
    fun s t => t.lex.drainq = ns ∧
      t.ctxAt n = { (s.ctxAt n).drain with drains := (s.ctxAt n).drains + 1, poisoned := true } ∧
      ∀ k, k ≠ n → t.anyCtx k = s.anyCtx k) ∧
  (∀ us, Completes (.earlyDrainDone us) (fun s => ∀ n ∈ s.lex.drainq, (s.bankAt (n / 512)).filling = true) fun s t => t = s) ∧
  (∀ kept, Completes (.dumpIntervalExpiry 0 kept)
    (fun s => s.unitOn fLex ∧ (s.live ∨ s.dev.mode = .workshop) ∧ s.lex.pass = none)
    fun s t => t.lex = { s.lex with pass := some (s.tku.bcnt, false, false), tickets := [] } ∧ OnlyChanges [.lex] s t) ∧
  (∀ delay kept, Completes (.dumpIntervalExpiry delay kept)
    (fun s => s.unitOn fLex ∧ (s.live ∨ s.dev.mode = .workshop) ∧ s.lex.pass = none ∧ 0 < delay ∧ s.hears)
    fun s t => t.lex.pass = some (s.tku.bcnt, true, false) ∧ t.statAt gLex 0 lxLate = (s.statAt gLex 0 lxLate).add 1 ∧
      Raises s t evLexDumpLate [Word.nat delay, 6, Word.nat kept]) ∧
  (∀ start late flush, Completes (.dumpPassComplete [])
    (fun s => s.lex.pass = some (start, late, flush) ∧ s.lex.again = none ∧ s.hears)
    fun s t => t.lex.pass = none ∧ t.lex.seq = s.lex.seq + 1 ∧ t.lex.everDumped = true ∧
      (∀ i, i < 16 → t.unplacedAt i = ((s.unplacedAt i).visit (!s.lex.everDumped) false).1) ∧
      Raises s t evLexDumpDone [Word.nat s.lex.seq, Word.nat (s.lex.seq % 2),
        Word.nat (dumpFlags late flush (!s.lex.everDumped))]) ∧
  (∀ b, Completes (.spareBankFillDone b) (fun s => (s.bankAt b).filling)
    fun s t => t.bankAt b = { s.bankAt b with filling := false } ∧ (∀ k, k ≠ b → t.bankAt k = s.bankAt k))

/-- The Lexicon's commands (R358, R359, R363, R372, R376, R377): INSERT answers the number of the key's context, DELETE marks one
for retirement, FLUSH starts a pass, a change of a port's key mask marks its contexts, and a SET of the salts outside
DORMANT changes nothing. -/
def Obligations.LexiconCommandsComplete : Prop :=
  (∀ i, Carries .insertLexContext specInsertLexContext
    (fun m s => (bytesOfWords 17 (payloadOf m)).headD 0 < BitVec.ofNat 8 (2 * s.lines) ∧
      s.lookup (bytesOfWords 17 (payloadOf m)) = none ∧ firstFreeCtx 0 s.lex.ctx ≤ 16383 ∧
      s.freeEntry (s.candidates (bytesOfWords 17 (payloadOf m))) = some i)
    (fun m s t => Replied s t m cDone 0 ∧ Delivers t m [Word.nat (firstFreeCtx 0 s.lex.ctx)] ∧
      (t.ctxAt (firstFreeCtx 0 s.lex.ctx)).installed = true ∧ (t.ctxAt (firstFreeCtx 0 s.lex.ctx)).state = .live ∧
      (t.ctxAt (firstFreeCtx 0 s.lex.ctx)).key = bytesOfWords 17 (payloadOf m))) ∧
  (∀ n, Carries .insertLexContext specInsertLexContext
    (fun m s => (bytesOfWords 17 (payloadOf m)).headD 0 < BitVec.ofNat 8 (2 * s.lines) ∧
      s.lookup (bytesOfWords 17 (payloadOf m)) = some n)
    (fun m s t => Replied s t m cDone 0 ∧ Delivers t m [Word.nat n] ∧ t.lex = s.lex)) ∧
  (∀ n, Carries .deleteLexContext specDeleteLexContext
    (fun m s => ((payloadOf m).getD 0 0).toNat = n ∧ (s.ctxAt n).state = .live)
    (fun m s t => Replied s t m cDone 0 ∧ t.ctxAt n = { s.ctxAt n with marked := true } ∧
      ∀ k, k ≠ n → t.ctxAt k = s.ctxAt k)) ∧
  Carries .flushLexDump specFlushLexDump (fun m s => s.lex.pass = none ∧ ticketCheck m s = none)
    (fun m s t => Replied s t m cAccepted 0 ∧ outstOf specFlushLexDump m ∈ t.mb.outstanding ∧
      t.lex = { s.lex with pass := some (s.tku.bcnt, false, true), tickets := [ticketOf m] }) ∧
  (∀ r cs, Carries .setLexPort specSetLexPort
    (fun m s => parseMask (paramRows nLexPort) m.len.toNat (payloadOf m) = .ok r cs ∧ (∀ c ∈ cs, c.1 = 1) ∧
      changed s nLexPort m.inst.toNat 1 cs ≠ s.param nLexPort m.inst.toNat 1)
    (fun m s t => Replied s t m cDone 0 ∧ t.param nLexPort m.inst.toNat 1 = changed s nLexPort m.inst.toNat 1 cs ∧
      ∀ n, (s.ctxAt n).state = .live → (s.ctxAt n).key.headD 0 = BitVec.ofNat 8 (2 * m.inst.toNat) →
        (n, s.ctxAt n) ∈ s.lex.ctx → (t.ctxAt n).marked = true)) ∧
  Carries .setLexCfg specSetLexCfg (fun m s => (maskSelected nLexCfg (payloadOf m)).contains 2 ∧ s.dev.mode ≠ .dormant)
    (fun m s t => Replied s t m cStateRefused 1 ∧ t.params = s.params ∧ t.lex = s.lex) ∧
  (∀ r cs, Carries .setLexCfg specSetLexCfg
    (fun m _ => parseMask (paramRows nLexCfg) m.len.toNat (payloadOf m) = .ok r cs ∧
      (maskSelected nLexCfg (payloadOf m)).contains 2 = false)
    (fun m s t => Replied s t m cDone 0 ∧ t.params = (s.applyChanges nLexCfg 0 cs).params ∧ t.lex = s.lex))
/-! ## Timekeeping (R381 to R412) -/

/-- A domain clock at a tick (R385): whatever it held, its fields are in range afterwards, and the time that they hold has
advanced by the increment, modulo 2^48 seconds. A tick at which nothing else is due gives each clock that runs this advance. -/
def Obligations.DomainClockAdvances : Prop :=
  (∀ x : DomClk, x.advance.frac < 2 ^ 32 ∧ x.advance.ns < 1000000000 ∧ x.advance.sec < 2 ^ 48 ∧ x.advance.inc = x.inc ∧
    ((x.advance.sec * 1000000000 + x.advance.ns) * 2 ^ 32 + x.advance.frac) % (2 ^ 48 * 1000000000 * 2 ^ 32) =
      ((x.sec * 1000000000 + x.ns) * 2 ^ 32 + x.frac + x.inc) % (2 ^ 48 * 1000000000 * 2 ^ 32)) ∧
  Completes .bcntTick
    (fun s => s.dev.refclk ∧ s.tku.gos = [] ∧ s.tku.domA.setNext = none ∧ s.tku.domA.incNext = none ∧
      s.tku.domB.setNext = none ∧ s.tku.domB.incNext = none)
    fun s t => t.tku.domA = s.tku.domA.advance ∧ (s.domBOn → t.tku.domB = s.tku.domB.advance)

/-- A tick (R381, R383, R388 to R392, R397): BCNT advances by one while LANE_REFCLK is present and holds while it is absent; a
committed increment, step, set and selection take effect; a step outside its range is refused. -/
def Obligations.TicksComplete : Prop :=
  Completes .bcntTick (fun s => s.dev.refclk = false) (fun s t => t = s) ∧
  Completes .bcntTick (fun s => s.dev.refclk ∧ s.tku.gos = [] ∧ s.tku.domA.setNext = none ∧ s.domBOn = false)
    (fun s t => t.tku.bcnt = s.tku.bcnt + 1 ∧ t.tku.domA = s.tku.domA.tick ∧ t.tku.domB = s.tku.domB ∧
      t.tku.sel = s.tku.selNext.getD s.tku.sel) ∧
  (∀ sec ns r n, Completes .bcntTick
    (fun s => s.dev.refclk ∧ s.tku.gos = (true, false, sec, ns) :: r ∧ s.tku.domA.setNext = none ∧
      stepTotal s.tku.domA.tick sec ns = some n ∧ s.hears)
    (fun s t => t.tku.bcnt = s.tku.bcnt + 1 ∧ t.tku.gos = r ∧ t.tku.domA.sec = n / 1000000000 ∧
      t.tku.domA.ns = n % 1000000000 ∧ t.tku.domA.frac = s.tku.domA.tick.frac ∧ t.tku.domA.unset = false ∧
      t.tku.domA.disc = true ∧ t.tku.domA.steps = (s.tku.domA.steps + 1) % 2 ^ 32 ∧
      ({ code := evTkuStep, bcnt := s.tku.bcnt + 1, data := stepWords .a sec ns ((s.tku.domA.steps + 1) % 2 ^ 32) } : Ev) ∈
        t.ev.raised)) ∧
  (∀ sec ns r, Completes .bcntTick
    (fun s => s.dev.refclk ∧ s.tku.gos = (true, false, sec, ns) :: r ∧ s.tku.domA.setNext = none ∧
      stepTotal s.tku.domA.tick sec ns = none)
    (fun s t => t.tku.gos = r ∧ t.tku.domA = s.tku.domA.tick ∧ t.tku.stepRefused = true)) ∧
  (∀ sec ns, Completes .bcntTick
    (fun s => s.dev.refclk ∧ s.tku.gos = [] ∧ s.tku.domA.setNext = some (sec, ns))
    (fun s t => t.tku.domA.sec = sec ∧ t.tku.domA.ns = ns ∧ t.tku.domA.frac = 0 ∧ t.tku.domA.unset = false ∧
      t.tku.domA.disc = true ∧ t.tku.domA.steps = (s.tku.domA.steps + 1) % 2 ^ 32))

/-- Loss and return of LANE_REFCLK (R42, R317, R383), and the log marker (R398): BCNT keeps its value, every transmitter is OFF, every
port that was UP is in FAULT; at the return the flags are set and TKU_DISCONTINUITY names hold and resumption. -/
def Obligations.ClockLossAndReturnComplete : Prop :=
  Completes .laneRefclkAbsent (fun s => s.dev.refclk)
    (fun s t => t.dev.refclk = false ∧ t.tku.bcnt = s.tku.bcnt ∧ t.tku.holdAt = s.tku.bcnt ∧
      (∀ l, l < s.lines → (t.lineAt l).ltx.state = .off ∧ (t.lineAt l).plt.air = none) ∧
      ∀ p ∈ s.slots, s.live → (s.portAt p).state = .up → (t.portAt p).state = .fault) ∧
  Completes .laneRefclkPresent
    (fun s => s.dev.refclk = false ∧ s.dev.refclkSeen ∧ s.dev.mode ≠ .starting ∧ s.hears)
    (fun s t => t.dev.refclk = true ∧ t.tku.bcnt = s.tku.bcnt ∧ t.tku.heldFlag = true ∧ t.tku.domA.disc = true ∧
      (s.domBOn → t.tku.domB.disc = true) ∧
      Raises s t evTkuDiscontinuity [Word.nat s.tku.holdAt.toNat, Word.nat s.tku.bcnt.toNat]) ∧
  Completes .laneRefclkPresent
    (fun s => s.dev.refclk = false ∧ s.dev.refclkSeen = false ∧ s.dev.mode ≠ .starting)
    (fun s t => t.dev.refclk = true ∧ t.dev.refclkSeen = true ∧ t.tku = s.tku) ∧
  Completes .logMarkerTimer (fun s => s.begins)
    (fun s t => t.dev.log = s.dev.log ++ [.marker s.tku.sel (s.dom s.tku.sel).sec (s.dom s.tku.sel).ns] ∧
      OnlyChanges [.devRest] s t)

/-- A frame at the parse (R304, R399 to R407, R743): an enabled PTP event message of a Terminate port leaves with the corrected
residence added to its correctionField, one that is masked or whose residence is out of range leaves as it
came, and a Transparent port gives the parse no
frame. -/
def Obligations.FramesAreCorrected : Prop :=
  (∀ p d f c, Completes (.frameParsed p d f)
    (fun s => (s.portAt p).cfg = some c ∧ c.profile = .terminate ∧ p < s.lines ∧ d < 2 ∧ s.live ∧
      ((s.portAt p).state = .up ∨ (s.portAt p).state = .fault) ∧ (s.blockAt (blockIdx p d)).lock ∧ s.localOut p d = false ∧
      f.ecc = [] ∧ s.unitOn fResid ∧ ptpEvent f ∧
      f.cut = false ∧ f.fcsOk ∧ s.parN nTkuPort (2 * p + d) 0 ≠ 1 ∧
      (s.parN nTkuPort (2 * p + d) 1).testBit (f.ptp.getD (0, 0)).1.toNat ∧ f.correction ≠ 0x7FFFFFFFFFFFFFFF ∧
      ¬(f.ip = 6 ∧ f.csum = 0) ∧ 0 ≤ s.residence (2 * p + d) f ∧ s.residence (2 * p + d) f * (s.dom s.tku.sel).inc ≤ 1000 * 2 ^ 38 ∧
      f.correction.toInt + residence16 (s.residence (2 * p + d) f) (s.dom s.tku.sel).inc (s.parI nTkuPort (2 * p + d) 2) < 2 ^ 63 ∧
      -(2 ^ 63) ≤ f.correction.toInt + residence16 (s.residence (2 * p + d) f) (s.dom s.tku.sel).inc (s.parI nTkuPort (2 * p + d) 2))
    fun s t => (t.residAt (2 * p + d)).out = some
        (BitVec.ofInt 64 (f.correction.toInt + residence16 (s.residence (2 * p + d) f) (s.dom s.tku.sel).inc (s.parI nTkuPort (2 * p + d) 2)),
         udpCsum f (BitVec.ofInt 64 (f.correction.toInt +
           residence16 (s.residence (2 * p + d) f) (s.dom s.tku.sel).inc (s.parI nTkuPort (2 * p + d) 2))), true) ∧
      t.statAt gTku (2 * p + d) tkEvents = (s.statAt gTku (2 * p + d) tkEvents).add 1 ∧
      t.statAt gTku (2 * p + d) tkCorrections = (s.statAt gTku (2 * p + d) tkCorrections).add 1) ∧
  (∀ p d f c, Completes (.frameParsed p d f)
    (fun s => (s.portAt p).cfg = some c ∧ c.profile = .terminate ∧ p < s.lines ∧ d < 2 ∧ s.live ∧
      ((s.portAt p).state = .up ∨ (s.portAt p).state = .fault) ∧ (s.blockAt (blockIdx p d)).lock ∧ s.localOut p d = false ∧
      f.ecc = [] ∧ s.unitOn fResid ∧ ptpEvent f ∧
      f.cut = false ∧ s.parN nTkuPort (2 * p + d) 0 = 1)
    fun s t => (t.residAt (2 * p + d)).out = some (f.correction, f.csum, f.fcsOk) ∧
      t.statAt gTku (2 * p + d) tkMasked = (s.statAt gTku (2 * p + d) tkMasked).add 1 ∧
      t.statAt gTku (2 * p + d) tkCorrections = s.statAt gTku (2 * p + d) tkCorrections) ∧
  (∀ p d f c, Completes (.frameParsed p d f)
    (fun s => (s.portAt p).cfg = some c ∧ c.profile = .terminate ∧ p < s.lines ∧ d < 2 ∧ s.live ∧
      ((s.portAt p).state = .up ∨ (s.portAt p).state = .fault) ∧ (s.blockAt (blockIdx p d)).lock ∧ s.localOut p d = false ∧
      s.unitOn fResid ∧ ptpEvent f ∧ f.cut = false ∧ s.parN nTkuPort (2 * p + d) 0 ≠ 1 ∧
      (s.parN nTkuPort (2 * p + d) 1).testBit (f.ptp.getD (0, 0)).1.toNat ∧ f.correction ≠ 0x7FFFFFFFFFFFFFFF ∧
      ¬(f.ip = 6 ∧ f.csum = 0) ∧
      (s.residence (2 * p + d) f < 0 ∨ 1000 * 2 ^ 38 < s.residence (2 * p + d) f * (s.dom s.tku.sel).inc))
    fun s t => (t.residAt (2 * p + d)).out = some (f.correction, f.csum, (frameSent f).fcsOk) ∧
      (t.residAt (2 * p + d)).interpDown = true ∧
      t.statAt gTku (2 * p + d) tkRange = (s.statAt gTku (2 * p + d) tkRange).add 1) ∧
  (∀ p d f c, Completes (.frameParsed p d f) (fun s => (s.portAt p).cfg = some c ∧ c.profile = .transparent) fun s t => t = s)

/-! ## Mailboxes, modes and features (R414 to R423, R426, R438 to R464) -/

/-- A RING (R443, R444, R454, R741): while the mailbox is BUSY the writes and the RING are discarded and counted; before the mailboxes
open a sentence waits with its mailbox BUSY; one whose verb code is unknown completes BAD_VERB with detail 1. -/
def Obligations.DoorbellsComplete : Prop :=
  (∀ verb noun m, Completes (.mbxDoorbellRing verb noun m)
    (fun s => s.reach m.req m.mbx ∧ (s.boxAt m.req m.mbx).state = .busy)
    fun s t => OnlyChanges [.mb] s t ∧ t.boxAt m.req m.mbx = s.boxAt m.req m.mbx ∧ t.mb.waiting = s.mb.waiting ∧
      tget t.mb.discards (fun _ => 0) (boxKey m.req m.mbx) =
        tget s.mb.discards (fun _ => 0) (boxKey m.req m.mbx) + (m.words.length + 3)) ∧
  (∀ (r : Requester) (n o : Nat) (v : Word), Completes (.registerWrite r (0x1000 * (n + 1) + o) v true)
    (fun s => s.bus r ∧ n < mailboxes r ∧ (s.boxAt r n).state = .busy ∧ o % 4 = 0 ∧
      (o = 0x000 ∨ o = 0x004 ∨ o = 0x00C ∨ (0x040 ≤ o ∧ o < 0x1000)))
    fun s t => OnlyChanges [.mb] s t ∧ t.mb.box = s.mb.box ∧ t.mb.waiting = s.mb.waiting ∧
      tget t.mb.discards (fun _ => 0) (boxKey r n) = tget s.mb.discards (fun _ => 0) (boxKey r n) + 1) ∧
  (∀ verb noun m, Completes (.mbxDoorbellRing verb noun m)
    (fun s => s.reach m.req m.mbx ∧ (s.boxAt m.req m.mbx).state ≠ .busy ∧ s.dev.mode ≠ .startFailed ∧ s.begins = false)
    fun s t => OnlyChanges [.mb] s t ∧ (t.boxAt m.req m.mbx).state = .busy ∧
      (t.boxAt m.req m.mbx).seq = (s.boxAt m.req m.mbx).seq ∧ t.mb.waiting = s.mb.waiting ++ [(verb, noun, m)]) ∧
  (∀ verb noun m, Completes (.mbxDoorbellRing verb noun m)
    (fun s => s.reach m.req m.mbx ∧ (s.boxAt m.req m.mbx).state ≠ .busy ∧ s.dev.mode ≠ .startFailed ∧ s.begins ∧
      knownVerbs.contains verb.toNat = false)
    fun s t => Replied s t m cBadVerb 1 ∧ OnlyChanges [.mb, .evRaised, .evQueue, .icu, .hifL1, .pmcCtr] s t) ∧
  (∀ verb noun m, Completes (.mbxDoorbellRing verb noun m) (fun s => s.reach m.req m.mbx = false) fun s t => t = s)

/-- ENTER (R414, R417, R419, R438, R439): to PROVISIONED or WORKSHOP with an unpowered datapath the mode changes and the reply waits; with
a powered one, and to DORMANT, it is DONE; no port may be in ACQUIRE, UP or FAULT on the way to DORMANT or WORKSHOP, and
none of it is accepted in SERVICE or GUARDED. -/
def Obligations.ModeCommandsComplete : Prop :=
  (∀ n, Carries .enterDevMode specEnterDevMode
    (fun m s => payloadOf m = [Word.nat n] ∧ n ≤ 2 ∧ enterLegal s.dev.mode (enterTarget n) ∧ (s.allPorts fun p => p = .stopped || p = .test) ∧
      s.dev.enterWait = [] ∧ s.dev.mode ≠ .workshop ∧ s.dev.powered = false ∧ 0 < n ∧ s.hears)
    (fun m s t => (t.boxAt m.req m.mbx).state = .busy ∧ t.dev.mode = enterTarget n ∧ t.dev.enterWait = [m] ∧
      ({ code := evDevModeChange, bcnt := s.tku.bcnt, data := [Word.nat s.dev.mode.num, Word.nat (enterTarget n).num,
          Word.nat (enterTrigger s.dev.mode (enterTarget n)), Word.nat s.dev.guard.toNat] } : Ev) ∈ t.ev.raised)) ∧
  (∀ n, Carries .enterDevMode specEnterDevMode
    (fun m s => payloadOf m = [Word.nat n] ∧ n ≤ 2 ∧ enterLegal s.dev.mode (enterTarget n) ∧ (s.allPorts fun p => p = .stopped || p = .test) ∧
      s.dev.enterWait = [] ∧ s.dev.mode ≠ .workshop ∧ (n = 0 ∨ s.dev.powered))
    (fun m s t => Replied s t m cDone 0 ∧ t.dev.mode = enterTarget n ∧ t.dev.powered = decide (0 < n))) ∧
  (∀ n, Carries .enterDevMode specEnterDevMode
    (fun m s => payloadOf m = [Word.nat n] ∧ n ≤ 2 ∧ n ≠ 1 ∧ enterLegal s.dev.mode (enterTarget n) ∧
      s.allPorts (fun p => p = .stopped || p = .test) = false)
    (fun m s t => Replied s t m cStateRefused 2 ∧ t.dev.mode = s.dev.mode ∧ t.params = s.params)) ∧
  Carries .enterDevMode specEnterDevMode (fun _ s => s.dev.mode = .service ∨ s.dev.mode = .guarded)
    (fun m s t => Replied s t m cStateRefused 1 ∧ t.dev.mode = s.dev.mode) ∧
  (∀ hold skip, Carries .shutterDevMode specShutterDevMode
    (fun m s => payloadOf m = [Word.nat hold, Word.nat skip] ∧ hold ≤ 60 ∧ skip ≤ 1 ∧ ticketCheck m s = none ∧
      s.fw.sw = 0 ∧ s.fw.load = none)
    (fun m s t => Replied s t m cAccepted 0 ∧ t.dev.mode = .shutter ∧ t.shut.step = .flush ∧ t.shut.hold = hold ∧
      t.shut.skipBist = decide (skip = 1) ∧ t.shut.ticket = some (ticketOf m))) ∧
  (∀ hold skip, Carries .shutterDevMode specShutterDevMode
    (fun m _ => payloadOf m = [Word.nat hold, Word.nat skip] ∧ hold < 2 ^ 32 ∧ skip < 2 ^ 32 ∧ (60 < hold ∨ 1 < skip))
    (fun m s t => Replied s t m cResource 1 ∧ t.shut = s.shut ∧ t.dev.mode = s.dev.mode))

/-- LANE_TEST, negotiation and the grant (R421, R422, R426, R438, R462, R463): a lane that is DOWN enters TEST, and one in TEST leaves
it; the first negotiation binds the accepted word; GRANT and REVOKE set PF1's right to the counters. -/
def Obligations.LaneTestNegotiationAndGrantComplete : Prop :=
  Carries .enterLaneTest specEnterLaneTest
    (fun m s => m.inst.toNat < 16 ∧ s.dev.powered ∧ (s.lineAt m.inst.toNat).state = .down)
    (fun m s t => Replied s t m cDone 0 ∧ (t.lineAt m.inst.toNat).state = .test ∧
      ∀ l, l ≠ m.inst.toNat → (t.lineAt l).state = (s.lineAt l).state) ∧
  Carries .enterLaneTest specEnterLaneTest
    (fun m s => 16 ≤ m.inst.toNat ∧ s.dev.powered ∧ (s.hostAt (m.inst.toNat - 16)).state = .down)
    (fun m s t => Replied s t m cDone 0 ∧ (t.hostAt (m.inst.toNat - 16)).state = .test) ∧
  Carries .enterLaneTest specEnterLaneTest (fun m s => s.dev.powered ∧ s.testLane m.inst.toNat ≠ .down)
    (fun m s t => Replied s t m cStateRefused 2 ∧ ∀ l, (t.lineAt l).state = (s.lineAt l).state) ∧
  Carries .leaveLaneTest specLeaveLaneTest
    (fun m s => m.inst.toNat < 16 ∧ (s.lineAt m.inst.toNat).state = .test)
    (fun m s t => Replied s t m cDone 0 ∧ (t.lineAt m.inst.toNat).state = .down) ∧
  Carries .leaveLaneTest specLeaveLaneTest
    (fun m s => 16 ≤ m.inst.toNat ∧ (s.hostAt (m.inst.toNat - 16)).state = .test)
    (fun m s t => Replied s t m cDone 0 ∧ (t.hostAt (m.inst.toNat - 16)).state = .down) ∧
  Carries .leaveLaneTest specLeaveLaneTest (fun m s => s.testLane m.inst.toNat ≠ .test)
    (fun m s t => Replied s t m cStateRefused 2) ∧
  Carries .negotiateDevFeature specNegotiateDevFeature
    (fun m s => s.dev.negotiated = false ∧ askedFeatures (payloadOf m) &&& s.feature = askedFeatures (payloadOf m))
    (fun m s t => Replied s t m cDone 0 ∧ Delivers t m (words128 (askedFeatures (payloadOf m))) ∧
      t.dev.accepted = askedFeatures (payloadOf m) ∧ t.dev.negotiated = true) ∧
  Carries .negotiateDevFeature specNegotiateDevFeature (fun _ s => s.dev.negotiated)
    (fun m s t => Replied s t m cStateRefused 3 ∧ t.dev.accepted = s.dev.accepted) ∧
  Carries .negotiateDevFeature specNegotiateDevFeature
    (fun m s => s.dev.negotiated = false ∧ askedFeatures (payloadOf m) &&& s.feature ≠ askedFeatures (payloadOf m))
    (fun m s t => Replied s t m cNotPresent 0 ∧ t.dev.negotiated = false) ∧
  Carries .grantPf1Grant specGrantPf1Grant (fun _ _ => True)
    (fun m s t => Replied s t m cDone 0 ∧ t.dev.grant = true ∧ t.hif.rest = s.hif.rest) ∧
  Carries .revokePf1Grant specRevokePf1Grant (fun _ _ => True)
    (fun m s t => Replied s t m cDone 0 ∧ t.dev.grant = false ∧
      (∀ c, c < 4 → (s.dmaAt c).owner = .pf1 → (t.dmaAt c).sources.getLsbD 1 = false ∧ (t.dmaAt c).sources.getLsbD 2 = false) ∧
      ∀ c, (s.dmaAt c).owner ≠ .pf1 → t.dmaAt c = s.dmaAt c)

/-- RECEIVE on DEV_EVENT hands out the oldest records of the requester's own queue, at most as many as asked for (R458, R459); CLEAR
on MBX_STATS clears the requester's own counts (R469). -/
def Obligations.EventQueueIsFifo : Prop :=
  (∀ n, Carries .receiveDevEvent specReceiveDevEvent
    (fun m s => payloadOf m = [Word.nat n] ∧ 1 ≤ n ∧ n ≤ 62 ∧ (s.queueAt m.req).lost = 0)
    (fun m s t => Replied s t m cDone 0 ∧
      Delivers t m ([Word.nat (min n (s.queueAt m.req).recs.length), Word.nat ((s.queueAt m.req).recs.length - n), 0, 0] ++
        ((s.queueAt m.req).recs.take n).flatMap EvRec.words) ∧
      (t.queueAt m.req).recs = (s.queueAt m.req).recs.drop n ∧
      ∀ r, r ≠ m.req → t.queueAt r = s.queueAt r)) ∧
  (∀ n, Carries .receiveDevEvent specReceiveDevEvent
    (fun m _ => payloadOf m = [Word.nat n] ∧ n < 2 ^ 32 ∧ (n = 0 ∨ 62 < n))
    (fun m s t => Replied s t m cResource 1 ∧ t.queueAt m.req = s.queueAt m.req)) ∧
  Carries .clearMbxStats specClearMbxStats (fun _ _ => True)
    (fun m s t => Replied s t m cDone 0 ∧
      (∀ c, c < 256 → c ≠ cDone → tget t.mb.counts (fun _ => 0) (256 * m.req.num + c) = 0) ∧
      (∀ n, n < 16 → tget t.mb.discards (fun _ => 0) (boxKey m.req n) = 0) ∧
      ∀ r c, r ≠ m.req → c < 256 → tget t.mb.counts (fun _ => 0) (256 * r.num + c) = tget s.mb.counts (fun _ => 0) (256 * r.num + c))

/-- GET on the parameter sets (R69, R449, R452) and on the status nouns of lanes, ports and units (R120, R171, R220, R246,
R294, R318, R347, R378, R410, R581, R602): DONE with every parameter of the instance, or with what the noun reports. -/
def Obligations.StatusReadsComplete : Prop :=
  (Reads .getLrxCfg specGetLrxCfg (fun s l => s.paramSet nLrxCfg l) ∧ Reads .getSeaPolicy specGetSeaPolicy State.policy ∧
  Reads .getSeaHinge specGetSeaHinge (fun s _ => s.hingeWords) ∧
  Reads .getSeaKparam specGetSeaKparam (fun s l => s.paramSet nSeaKparam l) ∧
  Reads .getSdfCfg specGetSdfCfg (fun s l => s.paramSet nSdfCfg l) ∧
  Reads .getLtxCfg specGetLtxCfg (fun s l => s.paramSet nLtxCfg l) ∧ Reads .getHslCfg specGetHslCfg State.hslParams ∧
  Reads .getHslGroup specGetHslGroup State.groupWords ∧ Reads .getPortCfg specGetPortCfg State.portCfgWords ∧
  Reads .getPltCfg specGetPltCfg (fun s l => s.paramSet nPltCfg l) ∧ Reads .getLexCfg specGetLexCfg State.lexCfgWords ∧
  Reads .getLexPort specGetLexPort State.lexPortWords ∧ Reads .getTkuDomain specGetTkuDomain State.domWords ∧
  Reads .getTkuPort specGetTkuPort State.tkuPortWords ∧
  Reads .getHifWindow specGetHifWindow (fun s _ => [Word.nat s.hif.window]) ∧
  Reads .getHifDma specGetHifDma State.dmaWords ∧ Reads .getIcuMgt specGetIcuMgt (fun s _ => s.icuMgtWords) ∧
  Reads .getMemCfg specGetMemCfg (fun s _ => s.paramSet nMemCfg 0 ++
    [0, 1].flatMap fun d => [Word.nat (s.multOf d), Word.nat (s.multNow d).2]) ∧
  Reads .getOcuAx specGetOcuAx State.axWords ∧ Reads .getOcuMn specGetOcuMn State.mnWords ∧
  Reads .getOcuLoop specGetOcuLoop State.loopWords ∧ Reads .getCalCfg specGetCalCfg (fun s _ => s.paramSet nCalCfg 0) ∧
  Reads .getThmCfg specGetThmCfg (fun s i => s.paramSet nThmCfg i) ∧
  Reads .getTstCfg specGetTstCfg (fun s i => s.paramSet nTstCfg i) ∧ Reads .getPmcDump specGetPmcDump State.pmcDumpWords ∧
  Reads .getPmcSample specGetPmcSample State.pmcSampleWords ∧ Reads .getPwrCfg specGetPwrCfg (fun s i => s.paramSet nPwrCfg i)) ∧
  (Reads .getLrxStatus specGetLrxStatus State.lrxStatus ∧
  Reads .getLrxQuality specGetLrxQuality (fun s l => padTo 13 (s.lineAt l).lrx.q ++ [Word.flag (s.lineAt l).lrx.qDisturbed]) ∧
  Reads .getLrxSlices specGetLrxSlices State.lrxSlices ∧ Reads .getSdfStatus specGetSdfStatus State.sdfStatus ∧
  Reads .getSdfDetector specGetSdfDetector (fun s l => (List.range 64).map fun k => Word.int (s.levelEntry l k)) ∧
  Reads .getLtxStatus specGetLtxStatus State.ltxStatus ∧ Reads .getHslStatus specGetHslStatus State.hslStatus ∧
  Reads .getHslQuality specGetHslQuality State.hslQuality ∧ Reads .getPfxBlocklock specGetPfxBlocklock State.blockWords ∧
  Reads .getPortStatus specGetPortStatus State.portStatus ∧ Reads .getPltPeer specGetPltPeer State.peerWords ∧
  Reads .getPltStatus specGetPltStatus State.pltStatus ∧ Reads .getLexStats specGetLexStats State.lexStatWords ∧
  Reads .getTkuStats specGetTkuStats State.tkuStatWords ∧ Reads .getSeaPlacement specGetSeaPlacement State.placement ∧
  Reads .getSeaEngines specGetSeaEngines State.engineWords ∧ Reads .getSeaKernel specGetSeaKernel State.kernelWords ∧
  Reads .getLrxEstimate specGetLrxEstimate (fun s l => padTo 18 ((s.lineAt l).lrx.est.take 18) ++
    [Word.nat (s.lineAt l).lrx.recTier, Word.flag (s.lineAt l).lrx.shortfall, Word.flag (s.lineAt l).lrx.estDisturbed]) ∧
  Reads .getSdfStats specGetSdfStats (fun s l => (List.range 28).flatMap (s.statWords gSdf l) ++
    [Word.nat (s.lineAt l).sdf.ber, Word.nat (s.lineAt l).sdf.ser]) ∧
  Reads .getOcuLane specGetOcuLane State.ocuLaneWords ∧ Reads .getCalBlock specGetCalBlock State.calFigures)

/-- GET on the device's nouns (R378, R438, R469, R497, R522, R553, R581, R623, R661, R684, R703): DONE with what the noun reports; a number in the payload names an event, a context, a counter, or the first entry wanted. Values that the spec
leaves open (bus speed, input power, voltages and currents) are free values (log entry 1). -/
def Obligations.DeviceReadsComplete : Prop :=
  Reads .getDevMode specGetDevMode (fun s _ => s.devModeWords) ∧
  Reads .getDevFeature specGetDevFeature (fun s _ => s.featureWords) ∧
  Reads .getPf1Grant specGetPf1Grant (fun s _ => [Word.flag s.dev.grant]) ∧
  Carries .getMbxStats specGetMbxStats (fun _ _ => True)
    (fun m s t => Replied s t m cDone 0 ∧ Delivers t m (s.mbxWords m.req)) ∧
  Reads .getFwImage specGetFwImage State.imageWords ∧ Reads .getFwPane specGetFwPane (fun s _ => s.paneWords) ∧
  Reads .getHifLink specGetHifLink (fun s _ => s.hifLinkWords) ∧
  Carries .getHifMgt specGetHifMgt (fun _ _ => True)
    (fun m s t => Replied s t m cDone 0 ∧ Delivers t m [Word.flag s.hif.i3c, Word.nat (0x58 + s.hif.straps.toNat),
      Word.nat s.hif.dynAddr.toNat, s.freeVal, Word.nat s.hif.mgtDiscarded]) ∧
  (∀ code, Carries .getIcuEvent specGetIcuEvent (fun m _ => payloadOf m = [Word.nat code] ∧ isEventCode code ∧ code < 2 ^ 32)
    (fun m s t => Replied s t m cDone 0 ∧ Delivers t m [Word.flag (s.urgentCode code)])) ∧
  (∀ code, Carries .getIcuEvent specGetIcuEvent (fun m _ => payloadOf m = [Word.nat code] ∧ isEventCode code = false ∧ code < 2 ^ 32)
    (fun m s t => Replied s t m cResource 1)) ∧
  Reads .getMemStatus specGetMemStatus (fun s g => [Word.nat (regionSize g), Word.flag ((s.regionAt g).step ≠ 0),
    Word.nat (s.regionAt g).queue.length, Word.flag (s.regionAt g).exhausted]) ∧
  Reads .getMemEcho specGetMemEcho (fun s _ => (List.range 64).flatMap s.echoWords) ∧
  Reads .getMemSpares specGetMemSpares State.spareWords ∧
  Reads .getMemStats specGetMemStats (fun s g => (List.range 12).flatMap (s.statWords gMem g)) ∧
  Reads .getOcuCode specGetOcuCode (fun s c => [Word.nat (s.axAt c).code, Word.nat (s.axAt c).target, Word.flag (!s.rampEnded c)]) ∧
  Reads .getOcuStats specGetOcuStats (fun s _ => s.ocuStats) ∧ Reads .getThmSensor specGetThmSensor State.sensorWords ∧
  Reads .getThmStatus specGetThmStatus State.thmWords ∧ Reads .getTstStatus specGetTstStatus (fun s _ => s.tstWords) ∧
  (∀ n, Carries .getTstVerdicts specGetTstVerdicts (fun m _ => payloadOf m = [Word.nat n] ∧ n < 256)
    (fun m s t => Replied s t m cDone 0 ∧ Delivers t m (((s.tst.verdicts.drop n).take 144).flatMap verdictWords))) ∧
  (∀ n, Carries .getRepRecord specGetRepRecord (fun m _ => payloadOf m = [Word.nat n] ∧ n < 2048)
    (fun m s t => Replied s t m cDone 0 ∧
      Delivers t m (wordsOfBytes (repHeader s.rep ++ (((s.rep.entries.drop n).take 248).flatMap entryBytes))))) ∧
  Reads .getRelYields specGetRelYields (fun s _ => s.yieldWords) ∧
  (∀ k, Carries .getPmcCounter specGetPmcCounter (fun m s => payloadOf m = [Word.nat k] ∧ k < 4096 ∧ s.pmcExists k)
    (fun m s t => Replied s t m cDone 0 ∧ Delivers t m ((s.begun vGet nPmcCounter m).pmcWords m.req k))) ∧
  Carries .getLexContext specGetLexContext (fun _ _ => True)
    (fun m s t => Replied s t m cDone 0 ∧ Delivers t m (s.lexContextWords ((payloadOf m).getD 0 0).toNat)) ∧
  Carries .getPwrStatus specGetPwrStatus (fun _ _ => True) (fun m s t => Replied s t m cDone 0 ∧ Delivers t m s.pwrWords) ∧
  Carries .getPwrRail specGetPwrRail (fun _ _ => True)
    (fun m s t => Replied s t m cDone 0 ∧ Delivers t m [s.freeVal, s.freeAt 1, Word.flag (s.railOn m.inst.toNat), s.freeAt 2])

/-- SET on the parameter tables (R69, R70, R449, R452): the selected parameters take the payload's values, and a refused SET changes
none; slices set OFF reply YIELDED with rank 7 and the rank kept (R655, R661). -/
def Obligations.SettingsComplete : Prop :=
  Sets .setLrxCfg specSetLrxCfg checkLoopback (fun _ _ => True) ∧ Sets .setSdfCfg specSetSdfCfg checkSdfCfg (fun _ _ => True) ∧
  Sets .setLtxCfg specSetLtxCfg checkLtxCfg (fun _ _ => True) ∧ Sets .setHslCfg specSetHslCfg checkHslCfg (fun _ _ => True) ∧
  Sets .setPltCfg specSetPltCfg checkPltCfg (fun _ _ => True) ∧
  Sets .setTkuPort specSetTkuPort (setCheck nTkuPort) (fun _ _ => True) ∧
  Sets .setMemCfg specSetMemCfg (setCheck nMemCfg) (fun _ _ => True) ∧
  Sets .setCalCfg specSetCalCfg (setCheck nCalCfg) (fun _ _ => True) ∧
  Sets .setThmCfg specSetThmCfg (setCheck nThmCfg) (fun _ _ => True) ∧
  Sets .setPwrCfg specSetPwrCfg checkPwrCfg (fun _ _ => True) ∧
  Sets .setPmcSample specSetPmcSample checkPmcSample (fun _ _ => True) ∧
  Sets .setOcuAx specSetOcuAx checkOcuAx (fun _ _ => True) ∧ Sets .setOcuMn specSetOcuMn checkOcuMn (fun _ _ => True) ∧
  Sets .setOcuLoop specSetOcuLoop checkOcuLoop (fun _ _ => True) ∧
  Sets .setSeaKparam specSetSeaKparam checkKparam
    (fun m s => swapFollows (s.begun vSet nSeaKparam m) m (payloadOf m) = false) ∧
  Sets .setTstCfg specSetTstCfg (setCheck nTstCfg) (fun m _ => (maskSelected nTstCfg (payloadOf m)).contains 2 = false) ∧
  Carries .setTstCfg specSetTstCfg (fun m s => payloadOf m = [4, 0, 1] ∧ s.slicesOn ∧ m.echo = false)
    (fun m s t => Replied s t m cYielded (7 * 16 + sliceKept) ∧ t.param nTstCfg 0 2 = 1) ∧
  Carries .setTstCfg specSetTstCfg (fun m s => payloadOf m = [4, 0, 0] ∧ s.slicesOn = false)
    (fun m s t => Replied s t m cDone 0 ∧ t.param nTstCfg 0 2 = 0 ∧
      (t.tst.yields.any fun y => y.rank == 7 && y.obj == objSlices) = false)

/-- SET on the nouns with a payload of their own (R148, R171, R291, R392, R410, R477, R481, R489, R520, R522, R561, R684): a policy, floor
reference, group setting, time, window base, channel, urgent flag, enable mask, code or interval takes the payload's value. -/
def Obligations.AssignmentsComplete : Prop :=
  Carries .setSeaPolicy specSetSeaPolicy
    (fun m s => checkPolicy (s.begun vSet nSeaPolicy m) m (payloadOf m) = none)
    (fun m s t => (Replied s t m cDone 0 ∨ ∃ d, Replied s t m cYielded d) ∧
      ∀ i, i < 3 → t.param nSeaPolicy m.inst.toNat i = (payloadOf m).getD i 0) ∧
  Carries .setSeaHinge specSetSeaHinge (fun m s => checkHinge (s.begun vSet nSeaHinge m) m (payloadOf m) = none)
    (fun m s t => Replied s t m cDone 0 ∧ t.param nSeaHinge 0 0 = (payloadOf m).getD 0 0 ∧
      t.param nSeaHinge 0 1 = (payloadOf m).getD 1 0) ∧
  Carries .setHslGroup specSetHslGroup (fun m s => checkHslGroup (s.begun vSet nHslGroup m) m (payloadOf m) = none)
    (fun m s t => Replied s t m cDone 0 ∧ t.param nHslGroup m.inst.toNat 0 = (payloadOf m).getD 0 0 ∧
      t.param nHslGroup m.inst.toNat 1 = (payloadOf m).getD 1 0) ∧
  (∀ lo hi ns, Carries .setTkuDomain specSetTkuDomain
    (fun m _ => payloadOf m = [Word.nat lo, Word.nat hi, Word.nat ns] ∧ lo < 2 ^ 32 ∧ hi < 2 ^ 16 ∧ ns < 1000000000)
    (fun m s t => Replied s t m cDone 0 ∧
      (m.inst = 0 → t.tku.domA = { s.tku.domA with setNext := some (lo + hi * 2 ^ 32, ns) } ∧ t.tku.domB = s.tku.domB) ∧
      (m.inst = 1 → t.tku.domB = { s.tku.domB with setNext := some (lo + hi * 2 ^ 32, ns) } ∧ t.tku.domA = s.tku.domA))) ∧
  (∀ b, Carries .setHifWindow specSetHifWindow
    (fun m _ => payloadOf m = [Word.nat b] ∧ b % 0x10000000 = 0 ∧ 0x20000000 ≤ b ∧ b ≤ 0xD0000000)
    (fun m s t => Replied s t m cDone 0 ∧ t.hif.window = b)) ∧
  (∀ b, Carries .setHifWindow specSetHifWindow
    (fun m _ => payloadOf m = [Word.nat b] ∧ b < 2 ^ 32 ∧ (b % 0x10000000 ≠ 0 ∨ b < 0x20000000 ∨ 0xD0000000 < b))
    (fun m s t => Replied s t m cResource 1 ∧ t.hif.window = s.hif.window)) ∧
  Carries .setHifDma specSetHifDma
    (fun m s => checkHifDma (s.begun vSet nHifDma m) m (payloadOf m) = none ∧ (payloadOf m).getD 6 0 = 1)
    (fun m s t => Replied s t m cDone 0 ∧ (t.dmaAt m.inst.toNat).enabled = true ∧ (t.dmaAt m.inst.toNat).head = 0 ∧
      (t.dmaAt m.inst.toNat).tail = 0 ∧ (t.dmaAt m.inst.toNat).records = 0 ∧ (t.dmaAt m.inst.toNat).drops = 0 ∧
      (t.dmaAt m.inst.toNat).size = ((payloadOf m).getD 3 0).toNat ∧
      (t.dmaAt m.inst.toNat).base = (payloadOf m).getD 2 0 ++ (payloadOf m).getD 1 0) ∧
  Carries .setHifDma specSetHifDma
    (fun m s => checkHifDma (s.begun vSet nHifDma m) m (payloadOf m) = none ∧ (payloadOf m).getD 6 0 = 0)
    (fun m s t => Replied s t m cDone 0 ∧ (t.dmaAt m.inst.toNat).enabled = false ∧
      (t.dmaAt m.inst.toNat).head = (s.dmaAt m.inst.toNat).head ∧ ∀ q ∈ t.hif.ready, q.ch ≠ m.inst.toNat) ∧
  (∀ code u, Carries .setIcuEvent specSetIcuEvent
    (fun m _ => payloadOf m = [Word.nat code, Word.nat u] ∧ isEventCode code ∧ code < 2 ^ 32 ∧ u ≤ 1)
    (fun m s t => Replied s t m cDone 0 ∧ t.urgentCode code = decide (u = 1) ∧
      ∀ k, k ≠ code → t.urgentCode k = s.urgentCode k)) ∧
  (∀ e, Carries .setIcuMgt specSetIcuMgt (fun m _ => payloadOf m = [Word.nat e] ∧ e < 2 ^ 32 ∧ e &&& mgtMask = e)
    (fun m s t => Replied s t m cDone 0 ∧ (t.icuAt .mgt).enable = BitVec.ofNat 24 e)) ∧
  Carries .setOcuCode specSetOcuCode
    (fun m s => checkOcuCode (s.begun vSet nOcuCode m) m (payloadOf m) = none)
    (fun m s t => Replied s t m cDone 0 ∧ (t.axAt m.inst.toNat).target = ((payloadOf m).getD 0 0).toNat ∧
      (s.param nOcuAx m.inst.toNat axSlew = offWord → s.dev.refclk →
        (t.axAt m.inst.toNat).code = ((payloadOf m).getD 0 0).toNat)) ∧
  (∀ n, Carries .setPmcDump specSetPmcDump (fun m _ => payloadOf m = [Word.nat n] ∧ 1 ≤ n ∧ n ≤ 500)
    (fun m s t => Replied s t m cDone 0 ∧ t.param nPmcDump 0 0 = Word.nat n))

/-- The commands that restart, force, capture, calibrate, acknowledge, load and switch (R114, R115, R120, R137, R138, R220, R242,
R294, R438, R464, R602, R623, R657, R703). -/
def Obligations.UnitCommandsComplete : Prop :=
  (∀ cold, Carries .restartLrxAcq specRestartLrxAcq
    (fun m s => (s.lineAt m.inst.toNat).state ≠ .down ∧ payloadOf m = [if cold then 0 else 1])
    (fun m s t => Replied s t m cDone 0 ∧ (t.lineAt m.inst.toNat).lrx.step = 1 ∧ (t.lineAt m.inst.toNat).lrx.cold = cold ∧
      (t.lineAt m.inst.toNat).sdf.lock = false ∧
      (t.lineAt m.inst.toNat).state = (if (s.lineAt m.inst.toNat).state = .up then .acquire else (s.lineAt m.inst.toNat).state))) ∧
  Carries .restartLrxAcq specRestartLrxAcq (fun m s => (s.lineAt m.inst.toNat).state = .down)
    (fun m s t => Replied s t m cStateRefused 2) ∧
  Carries .restartSdfHunt specRestartSdfHunt (fun m s => (s.lineAt m.inst.toNat).state ≠ .down)
    (fun m s t => Replied s t m cDone 0 ∧ (t.lineAt m.inst.toNat).sdf.lock = false ∧ (t.lineAt m.inst.toNat).sdf.prev = none ∧
      (t.lineAt m.inst.toNat).sdf.off = [0, 0, 0, 0] ∧
      (t.lineAt m.inst.toNat).state = (if (s.lineAt m.inst.toNat).state = .up then .acquire else (s.lineAt m.inst.toNat).state)) ∧
  (∀ warm, Carries .restartHslTrain specRestartHslTrain
    (fun m s => (s.hostAt m.inst.toNat).state ≠ .down ∧ payloadOf m = [if warm then 1 else 0])
    (fun m s t => Replied s t m cDone 0 ∧ (t.hostAt m.inst.toNat).state = .acquire ∧ (t.hostAt m.inst.toNat).step = 1 ∧
      (t.hostAt m.inst.toNat).warm = warm ∧ (t.hostAt m.inst.toNat).warmRuns = 0)) ∧
  Carries .squelchLtxOut specSquelchLtxOut (fun m s => (s.lineAt m.inst.toNat).ltx.state = .on)
    (fun m s t => Replied s t m cDone 0 ∧ (t.lineAt m.inst.toNat).ltx.forced = true ∧
      (t.lineAt m.inst.toNat).ltx.state = .rampDown) ∧
  Carries .releaseLtxOut specReleaseLtxOut (fun _ _ => True)
    (fun m s t => Replied s t m cDone 0 ∧ (t.lineAt m.inst.toNat).ltx.forced = false) ∧
  (∀ e off n st at_, Carries .captureLrxCapture specCaptureLrxCapture
    (fun m s => payloadOf m = [0, Word.nat e, Word.nat off, Word.nat n, Word.nat st] ++ (if st = 1 then words64 at_ else []) ∧
      (s.lineAt m.inst.toNat).state = .test ∧ 12 ≤ e ∧ e ≤ 21 ∧ st ≤ 2 ∧ off % 2 ^ e = 0 ∧ 0 < n ∧ off + n * 2 ^ e ≤ capRegion ∧
      at_ < 2 ^ 64 ∧ s.cap.armed = false ∧ s.cap.running = false ∧ ticketCheck m s = none)
    (fun m s t => Replied s t m cAccepted 0 ∧ t.cap = { armed := true, lane := m.inst.toNat, raw := true, segLen := 2 ^ e, offset := off,
                                                        count := n, start := st, startAt := if st = 1 then BitVec.ofNat 64 at_ else 0,
                                                        ticket := some (ticketOf m) })) ∧
  Carries .abortLrxCapture specAbortLrxCapture (fun m s => s.cap.lane = m.inst.toNat ∧ s.cap.running)
    (fun m s t => Replied s t m cDone 0 ∧ t.cap.running = false ∧ t.cap.armed = false ∧ t.cap.ticket = none) ∧
  Carries .loadSeaKernel specLoadSeaKernel
    (fun m s => checkStage 0x100000 (payloadOf m) = none ∧ ticketCheck m s = none)
    (fun m s t => Replied s t m cAccepted 0 ∧ t.hinge.load = s.hinge.load ++ [s.stage m (payloadOf m) false] ∧
      outstOf specLoadSeaKernel m ∈ t.mb.outstanding) ∧
  Carries .loadFwImage specLoadFwImage
    (fun m s => checkStage 0x1000000 (payloadOf m) = none ∧ s.fw.sw = 0 ∧ s.fw.load = none ∧ ticketCheck m s = none)
    (fun m s t => Replied s t m cAccepted 0 ∧ t.fw = { s.fw with load := some (s.stage m (payloadOf m) (!s.fw.shown)) }) ∧
  (∀ k v, Carries .selectSeaKernel specSelectSeaKernel
    (fun m s => payloadOf m = [Word.nat k, v] ∧ 0 < (s.lineAt m.inst.toNat).sea.tier ∧ kernelOf (s.lineAt m.inst.toNat).sea.tier = k ∧
      s.startedLanes.contains m.inst.toNat ∧ (s.kernAt k).vers.contains v ∧ ((s.kernAt k).own = v ∨ s.accepts fKernelLoad) ∧
      (s.lineAt m.inst.toNat).sea.swap = none ∧ (s.lineAt m.inst.toNat).sea.swapWait = none ∧ 4 ≤ s.swapsRunning ∧
      ticketCheck m s = none)
    (fun m s t => Replied s t m cAccepted 0 ∧ (t.lineAt m.inst.toNat).sea.swapWait =
      some { tier := (s.lineAt m.inst.toNat).sea.tier, version := v.toNat, ticket := some (ticketOf m) })) ∧
  (∀ k v, Carries .selectSeaKernel specSelectSeaKernel
    (fun m s => payloadOf m = [Word.nat k, v] ∧ 0 < (s.lineAt m.inst.toNat).sea.tier ∧ kernelOf (s.lineAt m.inst.toNat).sea.tier = k ∧
      s.startedLanes.contains m.inst.toNat ∧ (s.kernAt k).vers.contains v ∧ ((s.kernAt k).own = v ∨ s.accepts fKernelLoad) ∧
      (s.lineAt m.inst.toNat).sea.swap = none ∧ (s.lineAt m.inst.toNat).sea.swapWait = none ∧ s.swapsRunning < 4 ∧
      (s.lineAt m.inst.toNat).sea.planEng ≤ (s.groupOf m.inst.toNat).length ∧
      2 ≤ ((List.range s.quads).flatMap s.freeIn).length ∧ ticketCheck m s = none)
    (fun m s t => Replied s t m cAccepted 0 ∧ (t.lineAt m.inst.toNat).sea.swap =
      some { step := 1, tier := (s.lineAt m.inst.toNat).sea.tier, version := v.toNat, ticket := some (ticketOf m),
             shadows := ((List.range s.quads).flatMap s.freeIn).take 2, count := (s.groupOf m.inst.toNat).length } ∧
      ∀ e ∈ ((List.range s.quads).flatMap s.freeIn).take 2, (t.engAt e).role = .shadow ∧ (t.engAt e).lane = m.inst.toNat)) ∧
  (∀ k v, Carries .selectSeaKernel specSelectSeaKernel
    (fun m s => payloadOf m = [Word.nat k, v] ∧ k ≠ 0 ∧ k < 2 ^ 32 ∧ kernelIds.contains k ∧
      (s.startedLanes.contains m.inst.toNat = false ∨ kernelOf (s.lineAt m.inst.toNat).sea.tier ≠ k) ∧
      (s.kernAt k).vers.contains v ∧ ((s.kernAt k).own = v ∨ s.accepts fKernelLoad))
    (fun m s t => Replied s t m cDone 0 ∧ (t.lineAt m.inst.toNat).sea.sel = tset (s.lineAt m.inst.toNat).sea.sel (fun _ => none) k (some v.toNat) ∧
      (t.lineAt m.inst.toNat).sea.swap = (s.lineAt m.inst.toNat).sea.swap)) ∧
  (∀ r cs, Carries .setSeaKparam specSetSeaKparam
    (fun m s => parseMask (paramRows nSeaKparam) m.len.toNat (payloadOf m) = .ok r cs ∧
      (maskRange nSeaKparam m (payloadOf m)).isNone ∧
      ((maskSelected nSeaKparam (payloadOf m)).contains 0 ∨ (maskSelected nSeaKparam (payloadOf m)).contains 4) ∧
      0 < (s.lineAt m.inst.toNat).sea.tier ∧ (s.lineAt m.inst.toNat).sea.swap = none ∧
      (s.lineAt m.inst.toNat).sea.swapWait = none ∧ 4 ≤ s.swapsRunning ∧ ticketCheck m s = none)
    (fun m s t => Replied s t m cAccepted 0 ∧
      t.params = (s.applyChanges nSeaKparam m.inst.toNat (cs.filter fun c => c.1 ≠ 0 ∧ c.1 ≠ 4 ∧ c.1 ≠ 5)).params ∧
      (t.lineAt m.inst.toNat).sea.swapWait =
        some { tier := (s.lineAt m.inst.toNat).sea.tier, version := (s.lineAt m.inst.toNat).sea.version,
               par := cs.filter fun c => c.1 = 0 ∨ c.1 = 4 ∨ c.1 = 5, ticket := some (ticketOf m) })) ∧
  Carries .runCalBlock specRunCalBlock (fun m s => s.noSpare m.inst.toNat = false)
    (fun m s t => Replied s t m cDone 0 ∧ (t.calAt m.inst.toNat).due = true) ∧
  Carries .runCalBlock specRunCalBlock (fun m s => s.noSpare m.inst.toNat)
    (fun m s t => Replied s t m cStateRefused 2 ∧ t.cal = s.cal) ∧
  Carries .clearCalBlock specClearCalBlock (fun _ _ => True)
    (fun m s t => Replied s t m cDone 0 ∧ t.calAt m.inst.toNat = { s.calAt m.inst.toNat with flags := [] }) ∧
  Carries .ackThmSensor specAckThmSensor (fun m s => (s.sensorAt m.inst.toNat).broken)
    (fun m s t => Replied s t m cDone 0 ∧ (t.sensorAt m.inst.toNat).acked = true ∧
      (t.sensorAt m.inst.toNat).broken = true) ∧
  Carries .ackThmSensor specAckThmSensor (fun m s => (s.sensorAt m.inst.toNat).broken = false)
    (fun m s t => Replied s t m cStateRefused 2 ∧ t.thm = s.thm) ∧
  Carries .clearThmStatus specClearThmStatus (fun _ _ => True)
    (fun m s t => Replied s t m cDone 0 ∧ t.thm = { s.thm with trip := false }) ∧
  Carries .clearPwrStatus specClearPwrStatus (fun _ _ => True)
    (fun m s t => Replied s t m cDone 0 ∧ t.pwr = { s.pwr with fault := none }) ∧
  (∀ n, Carries .switchFwPane specSwitchFwPane
    (fun m s => payloadOf m = [Word.nat n] ∧ n ≤ 1 ∧ (n == 1) = !s.fw.shown ∧ (s.fw.pane (n == 1)).valid ∧
      s.covers (s.fw.pane (n == 1)) ∧ s.fw.sw = 0 ∧ s.fw.load = none ∧ ticketCheck m s = none)
    (fun m s t => Replied s t m cAccepted 0 ∧ t.fw.sw = 1 ∧ t.fw.swTarget = (n == 1) ∧ t.fw.ticket = some (ticketOf m) ∧
      t.fw.running = s.fw.running ∧ t.dev.mode = s.dev.mode)) ∧
  (∀ n, Carries .switchFwPane specSwitchFwPane
    (fun m s => payloadOf m = [Word.nat n] ∧ n ≤ 1 ∧ (n == 1) = s.fw.shown)
    (fun m s t => Replied s t m cResource 1 ∧ t.fw = s.fw))
/-! ## Memory (R476 to R480, R523 to R555) -/

/-- Reads and writes through the BAR2 windows: a read delivers the stored bytes of good words, little endian, and zero where
the requester may not read; a write of PF0 to the staging region stores the enabled bytes and leaves every other byte of
memory as it was. -/
def Obligations.WindowAccessesComplete : Prop :=
  (∀ r off n, Completes (.bar2Read r off n [])
    (fun s => s.bus r ∧ off + 4 * n ≤ bar2Size r ∧ ∀ w ∈ wordsOf (s.bar2Addr r off) (4 * n), s.condOf w = .good)
    fun s t => t.dev.busRead.words = (List.range n).map (fun i =>
        if s.readsZero r (s.bar2Addr r off + 4 * i) then 0 else Word.nat (leVal (s.memBytes (s.bar2Addr r off + 4 * i) 4))) ∧
      t.dev.busRead.poisoned = false ∧ t.mem = s.mem ∧ OnlyChanges [.devBus, .pmcCtr, .evRaised, .evQueue] s t) ∧
  (∀ off bs, Completes (.bar2Write .pf0 off bs [])
    (fun s => s.bus .pf0 ∧ off + bs.length ≤ 0x10000000 ∧ 0x20000000 ≤ s.hif.window + off ∧
      s.hif.window + off + bs.length ≤ 0x30000000 ∧ ∀ w ∈ wordsOf (s.hif.window + off) bs.length, s.condOf w = .good)
    fun s t => (∀ i, i < bs.length → t.memByte (s.hif.window + off + i) =
        ((bs.getD i none).getD (s.memByte (s.hif.window + off + i)))) ∧
      (∀ a, a < s.hif.window + off ∨ s.hif.window + off + bs.length ≤ a → t.memByte a = s.memByte a) ∧
      t.hif = s.hif ∧ OnlyChanges [.memData, .memRest, .stats, .pmcCtr, .evRaised, .evQueue] s t)

/-- A word that a window read finds gone bad (R527, R529, R538, R539): a correctable one is delivered and is good afterwards,
an uncorrectable one becomes poisoned with MEM_UNCORR and is not delivered, a poisoned one is not delivered. -/
def Obligations.BadWordsReadAsTheSpecSays : Prop :=
  (∀ r off u, Completes (.bar2Read r off 2 [(windowAddr r off, u)])
    (fun s => s.bus r ∧ off % 8 = 0 ∧ off + 8 ≤ bar2Size r ∧ s.bar2Addr r off = windowAddr r off ∧ s.readsZero r (windowAddr r off) = false ∧
      s.condOf (windowAddr r off) = .good ∧ s.hears)
    fun s t => (∀ syn, u = some syn → t.condOf (windowAddr r off) = .good ∧ t.dev.busRead.poisoned = false) ∧
      (u = none → t.condOf (windowAddr r off) = .poisoned ∧ t.dev.busRead = { words := [0, 0], poisoned := true } ∧
        Raises s t evMemUncorr [Word.nat (chanOf (windowAddr r off)), Word.nat (windowAddr r off), Word.nat r.num])) ∧
  (∀ r off, Completes (.bar2Read r off 2 [])
    (fun s => s.bus r ∧ off % 8 = 0 ∧ off + 8 ≤ bar2Size r ∧ s.bar2Addr r off = windowAddr r off ∧ s.readsZero r (windowAddr r off) = false ∧
      s.condOf (windowAddr r off) = .poisoned)
    fun _ t => t.condOf (windowAddr r off) = .poisoned ∧ t.dev.busRead = { words := [0, 0], poisoned := true })

/-- The steps of a row's test and of its repair (R534, R543, R546, R549): the entry that expires leaves the echo table, the copy
ends step 1, the verdict ends the test, the record takes a lasting repair, a refresh command takes the multiplier. -/
def Obligations.MemoryRepairCompletes : Prop :=
  (∀ g a, Completes (.echoEntryExpiry g a) (fun _ => True) fun s t =>
    (∀ e, e ∈ t.mem.echo ↔ e ∈ s.mem.echo ∧
      ¬(e.region = g ∧ e.addr = a ∧ (e.window * 625000000 ≤ s.since e.bcnt ∨ s.dev.refclk = false))) ∧
    t.mem.data = s.mem.data ∧
    OnlyChanges [.memRest] s t) ∧
  (∀ g, Completes (.repairCopyDone g) (fun s => (s.regionAt g).step = 1) fun s t => (t.regionAt g).step = 2 ∧
    (t.regionAt g).row = (s.regionAt g).row ∧ (t.regionAt g).usedRows = (s.regionAt g).usedRows ∧
    t.mem.data = s.mem.data ∧ OnlyChanges [.memRest, .stats, .evRaised, .evQueue] s t) ∧
  (∀ g, Completes (.marchTestDone g .transient) (fun s => (s.regionAt g).step = 2 ∧ (s.regionAt g).queue = []) fun s t =>
    (t.regionAt g).step = 0 ∧ (t.regionAt g).usedRows = (s.regionAt g).usedRows - 1 ∧
    (t.regionAt g).repairs = (s.regionAt g).repairs ∧ t.mem.toRecord = s.mem.toRecord) ∧
  (∀ g, Completes (.marchTestDone g .lastingRow) (fun s => (s.regionAt g).step = 2 ∧ (s.regionAt g).queue = []) fun s t =>
    (t.regionAt g).step = 0 ∧ (t.regionAt g).usedRows = (s.regionAt g).usedRows ∧
    (t.regionAt g).repairs = (s.regionAt g).repairs ++ [{ row := (s.regionAt g).row, verdict := .lastingRow, bcnt := s.tku.bcnt }] ∧
    t.mem.toRecord = s.mem.toRecord ++ [s.newEntry (if 8 ≤ g then 6 else 3) 0 g (s.regionAt g).row] ∧
    t.statAt gMem g 9 = (s.statAt gMem g 9).add 1) ∧
  (∀ g, Completes (.marchTestDone g .lastingColumn)
    (fun s => (s.regionAt g).step = 2 ∧ (s.regionAt g).queue = [] ∧ g < 8 ∧ 0 < s.colsFree g (s.regionAt g).row) fun s t =>
    (t.regionAt g).step = 0 ∧ (t.regionAt g).usedRows = (s.regionAt g).usedRows - 1 ∧
    (t.regionAt g).usedCols = (s.regionAt g).usedCols + 1 ∧
    (t.regionAt g).repairs = (s.regionAt g).repairs ++ [{ row := (s.regionAt g).row, verdict := .lastingColumn, bcnt := s.tku.bcnt }] ∧
    t.mem.toRecord = s.mem.toRecord ++ [s.newEntry 4 0 g (s.regionAt g).row] ∧
    t.statAt gMem g 10 = (s.statAt gMem g 10).add 1) ∧
  (∀ g, Completes (.marchTestDone g .lastingRow)
    (fun s => (s.regionAt g).step = 3 ∧ (s.regionAt g).queue = [] ∧ (g = 3 ∨ g = 4) ∧ 0 < s.rowsFree g (s.regionAt g).row) fun s t =>
    (t.regionAt g).step = 0 ∧ (t.regionAt g).usedRows = (s.regionAt g).usedRows + 1 ∧
    (t.regionAt g).repairs = (s.regionAt g).repairs ++ [{ row := (s.regionAt g).row, verdict := .lastingRow, bcnt := s.tku.bcnt }] ∧
    t.mem.toRecord = s.mem.toRecord ++ [s.newEntry 3 0 g (s.regionAt g).row] ∧
    t.statAt gMem g 9 = (s.statAt gMem g 9).add 1) ∧
  (∀ g, Completes (.marchTestDone g .lastingRow)
    (fun s => (s.regionAt g).step = 3 ∧ (s.regionAt g).queue = [] ∧
      ((g ≠ 3 ∧ g ≠ 4) ∨ s.rowsFree g (s.regionAt g).row = 0) ∧ s.hears) fun s t =>
    (t.regionAt g).step = 0 ∧ (t.regionAt g).exhausted = true ∧
    (t.regionAt g).pinnedRows = (s.regionAt g).pinnedRows ++ [(s.regionAt g).row] ∧
    Raises s t evMemSparesExhausted [Word.nat g, Word.nat (s.regionAt g).row]) ∧
  (∀ e es, Completes .repairRecordAppend (fun s => s.mem.toRecord = e :: es ∧ s.rep.entries.length < 2048 ∧ s.hears) fun s t =>
    t.mem.toRecord = es ∧ t.rep.entries = s.rep.entries ++ [e] ∧ t.rep.gen = s.rep.gen + 1 ∧
    Raises s t evMemRepaired [Word.nat e.unit, Word.nat e.location, Word.nat (if e.kind = 4 then 2 else 1),
      Word.nat (if e.kind = 4 then s.colsFree e.unit e.location else s.rowsFree e.unit e.location)]) ∧
  (∀ die, Completes (.refreshCommand die) (fun s => s.hears) fun s t => t.multOf die = (s.multNow die).1 ∧
    ((s.multNow die).1 ≠ s.multOf die → Raises s t evMemRefresh
      [Word.nat die, Word.nat (s.multOf die), Word.nat (s.multNow die).1, Word.nat (s.multNow die).2]) ∧
    OnlyChanges [.memRest, .evRaised, .evQueue] s t)
/-! ## Calibration (R84 to R88, R584 to R603) -/

/-- Calibration runs (R588 to R597): the maximum interval makes a block due, the earliest due block of a kind starts, a block
due for 60 s raises CAL_OVERDUE, pairs that agree store their mean, the third that disagrees raises CAL_DISSENT. The rotation
of the transom slice (R84 to R88): the transom shadows the position, takes it over when the comparison passes, and the slice
that it relieves is the new transom; a failed comparison leaves every position as it was. -/
def Obligations.CalibrationsComplete : Prop :=
  ((∀ b, Completes (.calIntervalExpiry b) (fun s => calBlockOk s.fuses.part b ∧ 0 < (s.calAt b).runs ∧ (s.calAt b).due = false ∧
      (s.dev.refclk = false ∨ s.parN nCalCfg 0 1 * 625000000 ≤ s.since (s.calAt b).lastBcnt))
    fun s t => t.calAt b = { s.calAt b with due := true, cause := dueInterval, dueAt := s.tku.bcnt, overdue := false } ∧
      ∀ k, k ≠ b → t.calAt k = s.calAt k) ∧
  (∀ b, Completes (.calibrationRunStart b)
    (fun s => (∀ c ∈ s.calBlocks, (s.calAt c).running → calKind c ≠ calKind b) ∧ s.hears ∧ s.firstDue (calKind b) = some b)
    fun s t => (t.calAt b).running = true ∧ (t.calAt b).due = false ∧ (t.calAt b).runCause = (s.calAt b).cause ∧
      (t.calAt b).startAt = s.tku.bcnt ∧ (t.calAt b).tStart = s.blockTemp b ∧
      (32 ≤ b → b < 64 → t.ocu.c32 = some (b - 32)) ∧ ∀ k, k ≠ b → t.calAt k = s.calAt k) ∧
  (∀ b, Completes (.calDueTimer b)
    (fun s => (s.calAt b).due ∧ (s.calAt b).overdue = false ∧ (s.calAt b).running = false ∧ s.hears ∧
      (s.dev.refclk = false ∨ 60 * 625000000 ≤ s.since (s.calAt b).dueAt))
    fun s t => (t.calAt b).overdue = true ∧ (t.calAt b).due = true ∧
      Raises s t evCalOverdue [Word.nat b, Word.nat (s.calAt b).cause, Word.nat (s.since (s.calAt b).dueAt),
        Word.nat (s.calState b)]) ∧
  (∀ x y, Completes (.measurementPairDone 64 x y)
    (fun s => (s.calAt 64).running ∧ (s.calAt 64).pair < 3 ∧ x.length = 2 ∧ y.length = 2 ∧ pairAgrees .ax x y)
    fun _ t => tget (t.calAt 64).coef (fun _ => 0) 0 = pairMean (x.getD 0 0) (y.getD 0 0) ∧
      tget (t.calAt 64).coef (fun _ => 0) 1 = pairMean (x.getD 1 0) (y.getD 1 0)) ∧
  (∀ b x y, Completes (.measurementPairDone b x y)
    (fun s => (s.calAt b).running ∧ (calKind b = .lrx → (s.lineAt b).lrx.rotStep = 4) ∧
      (calKind b = .ax → b = 64 ∨ (s.axAt (b - 32)).hand = 3) ∧ x.length = (calQuantities (calKind b)).length ∧ y.length = x.length ∧
      pairAgrees (calKind b) x y = false ∧ (s.calAt b).pair = 2 ∧ s.hears)
    fun s t => s.calElem b ∈ (t.calAt b).flags ∧ (t.calAt b).dissents = (s.calAt b).dissents + 1 ∧
      (t.calAt b).coef = (s.calAt b).coef ∧
      Raises s t evCalDissent (Word.nat b :: Word.nat (s.calElem b) :: ((s.calAt b).pairs ++ (x ++ y).map Word.int))) ∧
  (∀ l, Completes (.ltxCalStep l) (fun s => (s.calAt (l + 16)).running ∧ 3 ≤ (s.calAt (l + 16)).pair ∧ (s.calAt (l + 16)).elem < 14)
    fun s t => (t.calAt (l + 16)).elem = (s.calAt (l + 16)).elem + 1 ∧ (t.calAt (l + 16)).pair = 0) ∧
  (∀ l, Completes (.ltxCalStep l)
    (fun s => (s.calAt (l + 16)).running ∧ 3 ≤ (s.calAt (l + 16)).pair ∧ (s.calAt (l + 16)).elem = 14 ∧ s.hears)
    fun s t => (t.calAt (l + 16)).runs = min ((s.calAt (l + 16)).runs + 1) max36 ∧ (t.calAt (l + 16)).running = false ∧
      Raises s t evCalDone [Word.nat (l + 16), Word.nat ((s.calAt (l + 16)).runs + 1),
        Word.nat (s.calAt (l + 16)).runCause, Word.nat (s.since (s.calAt (l + 16)).startAt),
        Word.nat (s.calAt (l + 16)).runDis.length]) ∧
  Completes .monconvFrame
    (fun s => (s.calAt 96).running ∧ s.dev.refclk ∧ ((s.calAt 96).frames = 0 ∨ 625000 ≤ s.since (s.calAt 96).frameAt))
    fun s t => t.calAt 96 = { s.calAt 96 with frames := (s.calAt 96).frames + 1, frameAt := s.tku.bcnt } ∧
      (∀ b, b ≠ 96 → t.calAt b = s.calAt b) ∧ OnlyChanges [.cal] s t) ∧
  ((∀ l k, Completes (.rotationStepStart l)
    (fun s => (s.calAt l).running ∧ (s.lineAt l).lrx.rotStep = 0 ∧ 
      ((s.lineAt l).state = .test → s.cap.lane = l → s.cap.armed = false ∧ s.cap.running = false) ∧ s.transomSlice l = some k ∧
      (s.sliceAt l k).needsCal = false ∧
      ∀ j, j < s.lines → j ≠ l → (s.lineAt j).lrx.rotAt.all fun b => 62500 ≤ s.since b)
    fun s t => (t.lineAt l).lrx = { (s.lineAt l).lrx with rotStep := 1, transom := k, rotAt := some s.tku.bcnt } ∧ ∀ j, j ≠ l → t.lineAt j = s.lineAt j) ∧
  (∀ l, Completes (.shadowComparisonDone l true) (fun s => (s.calAt l).running ∧ (s.lineAt l).lrx.rotStep = 1)
    fun s t => (t.lineAt l).lrx = { (s.lineAt l).lrx with rotStep := 2 } ∧ ∀ j, j ≠ l → t.lineAt j = s.lineAt j) ∧
  (∀ l, Completes (.shadowComparisonDone l false) (fun s => (s.calAt l).running ∧ (s.lineAt l).lrx.rotStep = 1)
    fun s t => t.statAt gLrx l 6 = (s.statAt gLrx l 6).add 1 ∧ (∀ p, t.sliceOn l p = s.sliceOn l p) ∧
      (t.sliceAt l (s.lineAt l).lrx.transom).health = .test) ∧
  (∀ l n, Completes (.rotationSwitch l)
    (fun s => (s.calAt l).running ∧ (s.lineAt l).lrx.rotStep = 2 ∧ s.sliceOn l (s.lineAt l).lrx.rotPos = some n ∧
      n ≠ (s.lineAt l).lrx.transom)
    fun s t => (t.sliceAt l n).pos = none ∧ (t.sliceAt l (s.lineAt l).lrx.transom).pos = some (s.lineAt l).lrx.rotPos ∧
      (t.lineAt l).lrx.transom = n ∧ (t.lineAt l).lrx.rotStep = 4 ∧
      (∀ k, k ≠ n → k ≠ (s.lineAt l).lrx.transom → t.sliceAt l k = s.sliceAt l k) ∧ ∀ j, j ≠ l → t.lineAt j = s.lineAt j) ∧
  (∀ l, Completes (.transomCalibrationDone l false)
    (fun s => (s.calAt l).running ∧ (s.lineAt l).lrx.rotStep = 4 ∧ 3 ≤ (s.calAt l).pair)
    fun s t => (t.sliceAt l (s.lineAt l).lrx.transom).health = .test ∧ (∀ p, t.sliceOn l p = s.sliceOn l p) ∧
      (t.lineAt l).lrx.rotPos = (s.lineAt l).lrx.rotPos) ∧
  (∀ l, Completes (.transomCalibrationDone l true)
    (fun s => (s.calAt l).running ∧ (s.lineAt l).lrx.rotStep = 4 ∧ 3 ≤ (s.calAt l).pair ∧
      (s.sliceAt l (s.lineAt l).lrx.transom).needsCal)
    fun s t => (t.sliceAt l (s.lineAt l).lrx.transom).needsCal = false ∧ (t.lineAt l).lrx.rotStep = 0 ∧
      (t.lineAt l).lrx.rotPos = (s.lineAt l).lrx.rotPos) ∧
  (∀ l, Completes (.transomCalibrationDone l true)
    (fun s => (s.calAt l).running ∧ (s.lineAt l).lrx.rotStep = 4 ∧ 3 ≤ (s.calAt l).pair ∧
      (s.sliceAt l (s.lineAt l).lrx.transom).needsCal = false ∧ (s.lineAt l).lrx.rotPos + 1 ≠ (if s.half l then 32 else 64))
    fun s t => (t.lineAt l).lrx.rotStep = 0 ∧ (t.lineAt l).lrx.rotPos = (s.lineAt l).lrx.rotPos + 1 ∧
      (t.calAt l).running = true ∧ (t.calAt l).runs = (s.calAt l).runs) ∧
  (∀ l, Completes (.transomCalibrationDone l true)
    (fun s => (s.calAt l).running ∧ (s.lineAt l).lrx.rotStep = 4 ∧ 3 ≤ (s.calAt l).pair ∧
      (s.sliceAt l (s.lineAt l).lrx.transom).needsCal = false ∧ (s.lineAt l).lrx.rotPos + 1 = (if s.half l then 32 else 64) ∧
      s.hears)
    fun s t => (t.calAt l).running = false ∧ (t.calAt l).runs = min ((s.calAt l).runs + 1) max36 ∧
      Raises s t evCalDone [Word.nat l, Word.nat ((s.calAt l).runs + 1), Word.nat (s.calAt l).runCause,
        Word.nat (s.since (s.calAt l).startAt), Word.nat (s.calAt l).runDis.length]))
/-! ## Performance counters and sampling (R663 to R685) -/

/-- Dumps and sampling records (R674 to R682): a dump is read at one tick and drains the counters in mode DRAIN into their totals,
its writing moves the sequence number on, and a sampling record of an engine that is sampled is written or dropped. SET and
CLEAR of a counter restart it with DISCONTINUITY for every observer (R669, R670); a SET of an event of the wrong scope replies
RESOURCE (R666); FLUSH starts a dump (R678). -/
def Obligations.CountersComplete : Prop :=
  ((∀ kept, Completes (.pmcDumpIntervalExpiry 0 kept) (fun s => (s.live ∨ s.dev.mode = .dormant ∨ s.dev.mode = .workshop) ∧ s.pmc.dump = none)
    fun s t => (∃ x, t.pmc.dump = some x ∧ x.at_ = s.tku.bcnt ∧ x.late = false ∧ x.flush = false) ∧
      ∀ k,
        (t.pmcAt k).value = (if (s.pmcAt k).drain then 0 else (s.pmcAt k).value) ∧
        (t.pmcAt k).total = (if (s.pmcAt k).drain then ((s.pmcAt k).total + (s.pmcAt k).value) % 2 ^ 64 else (s.pmcAt k).total)) ∧
  (∀ delay kept, Completes (.pmcDumpIntervalExpiry delay kept)
    (fun s => (s.live ∨ s.dev.mode = .dormant ∨ s.dev.mode = .workshop) ∧ s.pmc.dump = none ∧ 0 < delay ∧ s.hears)
    fun s t => (∃ x, t.pmc.dump = some x ∧ x.late = true) ∧ t.pmc.late = s.pmc.late + 1 ∧
      Raises s t evPmcDumpLate [Word.nat delay, Word.nat 6, Word.nat kept]) ∧
  (∀ x, Completes .pmcDumpWritten (fun s => s.pmc.dump = some x ∧ s.pmc.again = none ∧ s.hears)
    fun s t => t.pmc.dump = none ∧ t.pmc.d = s.pmc.d + 1 ∧ t.pmc.last = some s.pmc.d ∧
      Raises s t evPmcDumpDone [Word.nat s.pmc.d, Word.nat (s.pmc.d % 2),
        Word.nat (dumpFlags x.late x.flush s.pmc.last.isNone)]) ∧
  (∀ e cat op steps seg, Completes (.sampleIntervalExpiry e cat op steps seg)
    (fun s => (s.engAt e).role ≠ .test ∧ (s.engAt e).role ≠ .retired ∧ e < s.engines ∧ s.param nPmcSample 0 0 = 0 ∧
      s.accepts fSampling ∧ (s.parN nPmcSample 0 2).testBit (e / 64) ∧ s.dev.powered ∧
      s.since s.pmc.winAt < 625000000 ∧ s.pmc.winN < 500000)
    fun s t => t.pmc.recs = s.pmc.recs + 1 ∧ t.pmc.winN = s.pmc.winN + 1 ∧ t.pmc.drops = s.pmc.drops ∧
      (t.engAt e).role = (s.engAt e).role ∧
      (t.engAt e).interval = intervalOf (2 ^ s.parN nPmcSample 0 1) (t.engAt e).lfsr) ∧
  (∀ e cat op steps seg, Completes (.sampleIntervalExpiry e cat op steps seg)
    (fun s => (s.engAt e).role ≠ .test ∧ (s.engAt e).role ≠ .retired ∧ e < s.engines ∧ s.param nPmcSample 0 0 = 0 ∧
      s.accepts fSampling ∧ (s.parN nPmcSample 0 2).testBit (e / 64) ∧ s.dev.powered ∧
      625000000 ≤ s.since s.pmc.winAt)
    fun s t => t.pmc.recs = s.pmc.recs + 1 ∧ t.pmc.winN = 1 ∧ t.pmc.winAt = s.tku.bcnt ∧ t.pmc.drops = s.pmc.drops) ∧
  (∀ e cat op steps seg, Completes (.sampleIntervalExpiry e cat op steps seg)
    (fun s => (s.engAt e).role ≠ .test ∧ (s.engAt e).role ≠ .retired ∧ e < s.engines ∧ s.param nPmcSample 0 0 = 0 ∧
      s.accepts fSampling ∧ (s.parN nPmcSample 0 2).testBit (e / 64) ∧ s.dev.powered ∧
      s.since s.pmc.winAt < 625000000 ∧ 500000 ≤ s.pmc.winN)
    fun s t => t.pmc.recs = s.pmc.recs ∧ t.pmc.drops = s.pmc.drops + 1)) ∧
  ((∀ k ev md, Carries .setPmcCounter specSetPmcCounter
    (fun m s => payloadOf m = [Word.nat k, Word.nat ev, Word.nat md] ∧ k < 2304 ∧ ev < 0x200 ∧ md ≤ 1 ∧ s.pmcExists k ∧
      eventFits k ev)
    (fun m s t => Replied s t m cDone 0 ∧ (t.pmcAt k).event = ev ∧ (t.pmcAt k).drain = decide (md = 1) ∧
      (t.pmcAt k).total = 0 ∧ (m.quiet → (t.pmcAt k).value = 0) ∧
      (t.pmcAt k).disc0 = true ∧ (t.pmcAt k).disc1 = true ∧ (t.pmcAt k).discD = true)) ∧
  (∀ k ev md, Carries .setPmcCounter specSetPmcCounter
    (fun m s => payloadOf m = [Word.nat k, Word.nat ev, Word.nat md] ∧ k < 2304 ∧ ev < 0x200 ∧ md ≤ 1 ∧ s.pmcExists k ∧
      eventFits k ev = false)
    (fun m s t => Replied s t m cResource 1)) ∧
  (∀ k, Carries .clearPmcCounter specClearPmcCounter
    (fun m s => payloadOf m = [Word.nat k] ∧ k < 2304 ∧ s.pmcExists k)
    (fun m s t => Replied s t m cDone 0 ∧ (t.pmcAt k).total = 0 ∧ (t.pmcAt k).disc0 = true ∧
      (t.pmcAt k).disc1 = true ∧ (t.pmcAt k).discD = true ∧
      (m.quiet → (t.pmcAt k).value = 0 ∧ (t.pmcAt k).sat = false))) ∧
  Carries .flushPmcDump specFlushPmcDump (fun m s => s.pmc.dump = none ∧ ticketCheck m s = none)
    (fun m s t => Replied s t m cAccepted 0 ∧ outstOf specFlushPmcDump m ∈ t.mb.outstanding ∧
      t.pmc.tickets = [ticketOf m] ∧ ∃ x, t.pmc.dump = some x ∧ x.flush = true))

/-! ## Host interface and events (R425, R429, R447, R458, R470 to R516, R714, R721, R722) -/

/-- Link, power states and the test access port (R425, R470, R472, R490 to R492, R511, R515, R714, R722). -/
def Obligations.LinkAndPowerStatesComplete : Prop :=
  Completes .linkDown (fun s => s.hif.linkUp ∧ s.hears)
    (fun s t => t.hif.linkUp = false ∧ t.hif.l1 = false ∧ t.hif.speed = 0 ∧ t.hif.width = 0 ∧ t.mb = s.mb ∧ t.icu = s.icu ∧
      Raises s t evHifLinkChange [0, Word.nat s.hif.speed, Word.nat s.hif.width, 0, 0]) ∧
  (∀ v w, Completes (.linkUp v w)
    (fun s => s.pwr.up ∧ s.hif.perst = false ∧ s.hif.tap = none ∧ ¬(s.dev.mode = .shutter ∧ s.shut.step = .complete) ∧
      (s.dev.mode = .starting → 2 ≤ s.dev.step) ∧ 1 ≤ v ∧ v ≤ 5 ∧ [1, 2, 4, 8].contains w ∧ s.hif.linkUp = false ∧ s.hears)
    fun s t => t.hif.linkUp = true ∧ t.hif.speed = v ∧ t.hif.width = w ∧
      Raises s t evHifLinkChange [1, Word.nat s.hif.speed, Word.nat s.hif.width, Word.nat v, Word.nat w]) ∧
  (∀ v w, Completes (.linkUp v w)
    (fun s => s.pwr.up ∧ s.hif.perst = false ∧ s.hif.tap = none ∧ ¬(s.dev.mode = .shutter ∧ s.shut.step = .complete) ∧
      (s.dev.mode = .starting → 2 ≤ s.dev.step) ∧ 1 ≤ v ∧ v ≤ 5 ∧ [1, 2, 4, 8].contains w ∧ s.hif.linkUp ∧
      (s.hif.speed ≠ v ∨ s.hif.width ≠ w) ∧ s.hears)
    fun s t => t.hif.linkUp = true ∧ t.hif.speed = v ∧ t.hif.width = w ∧
      Raises s t evHifLinkChange [2, Word.nat s.hif.speed, Word.nat s.hif.width, Word.nat v, Word.nat w]) ∧
  Completes .aspmL1Entry (fun s => s.hif.linkUp) (fun s t => t = { s with hif := { s.hif with l1 := true } }) ∧
  (∀ r, Completes (.enterD3hot r) (fun s => r ≠ .mgt ∧ s.hif.linkUp ∧ s.dstate r = .d0)
    fun s t => t.dstate r = .d3hot ∧ (∀ q, q ≠ r → t.dstate q = s.dstate q) ∧ OnlyChanges [.hifRest] s t) ∧
  (∀ r, Completes (.enterD0 r) (fun s => r ≠ .mgt ∧ s.hif.linkUp ∧ s.dstate r ≠ .d0)
    fun _ t => t.dstate r = .d0 ∧ ∀ v, v < vectors r → (t.vecAt r v).held = []) ∧
  (∀ r, Completes (.enterD3cold r) (fun s => r ≠ .mgt ∧ s.pwr.up ∧ (s.dev.mode = .starting → 2 ≤ s.dev.step))
    fun _ t => t.dstate r = .d3cold ∧ t.hif.linkUp = false ∧ (t.icuAt r).enable = 0xFFFFFF ∧ (t.snapAt r).scratch = 0) ∧
  Completes .perstNAssert (fun s => s.pwr.up ∧ (s.dev.mode = .starting → 2 ≤ s.dev.step) ∧ s.hif.linkUp = false)
    (fun s t => t.hif.perst = true ∧ (∀ r n, r ≠ .mgt → t.boxAt r n = boxDflt (boxKey r n)) ∧
      (∀ n, t.boxAt .mgt n = s.boxAt .mgt n) ∧ t.dev.mode = s.dev.mode ∧ t.tku = s.tku ∧ t.params = s.params) ∧
  Completes .perstNDeassert (fun _ => True) (fun s t => t = { s with hif := { s.hif with perst := false } }) ∧
  (∀ op, Completes (.tapTakeoverLoad op) (fun s => tapTakes op ∧ s.tapMay)
    fun _ t => t.hif.tap = some op ∧ t.hif.linkUp = false) ∧
  (∀ op, Completes (.tapTakeoverLoad op) (fun s => tapTakes op ∧ s.tapMay = false)
    fun s t => t.hif = { s.hif with tap := none, tapBypassed := true } ∧ OnlyChanges [.hifRest] s t) ∧
  Completes .tapRelease (fun _ => True)
    (fun s t => t = { s with hif := { s.hif with tap := none, tapBypassed := false } })

/-- A reset of a function (R447, R472, R489, R515): its mailboxes return to their reset values, its channels stop, its queue is
emptied with the records counted as lost, its interrupt controller instance is reset; the other functions keep theirs. -/
def Obligations.FunctionResetsComplete : Prop :=
  (∀ r, Completes (.functionLevelReset r)
    (fun s => r ≠ .mgt ∧ s.pwr.up ∧ (s.dev.mode = .starting → 2 ≤ s.dev.step) ∧ s.hif.linkUp ∧ s.hears)
    fun s t => (∀ n, t.boxAt r n = boxDflt (boxKey r n)) ∧ (∀ q n, q ≠ r → t.boxAt q n = s.boxAt q n) ∧
      (t.queueAt r).recs = [] ∧ (t.queueAt r).lost = (s.queueAt r).lost + (s.queueAt r).recs.length ∧
      (t.queueAt r).qseq = (s.queueAt r).qseq ∧ (t.icuAt r).enable = 0xFFFFFF ∧ (t.icuAt r).stray = 0 ∧ t.snapAt r = {} ∧ (∀ q, q ≠ r → t.icuAt q = s.icuAt q) ∧
      (∀ c, c < 4 → (s.dmaAt c).owner = r → t.dmaAt c = { s.dmaAt c with enabled := false }) ∧
      (∀ c, (s.dmaAt c).owner ≠ r → t.dmaAt c = s.dmaAt c) ∧ t.hif.linkUp = true ∧
      Raises s t evHifFunctionReset [Word.nat r.num, Word.nat 0, Word.nat (s.queueAt r).recs.length]) ∧
  Completes .hotReset (fun s => s.pwr.up ∧ (s.dev.mode = .starting → 2 ≤ s.dev.step) ∧ s.hif.linkUp ∧ s.hears)
    (fun s t => (∀ r n, r ≠ .mgt → t.boxAt r n = boxDflt (boxKey r n)) ∧ (∀ n, t.boxAt .mgt n = s.boxAt .mgt n) ∧
      t.icuAt .mgt = s.icuAt .mgt ∧ t.params = s.params ∧
      Raises s t evHifFunctionReset [Word.nat 0, Word.nat 1, Word.nat (s.queueAt .pf0).recs.length] ∧
      Raises s t evHifFunctionReset [Word.nat 1, Word.nat 1, Word.nat (s.queueAt .pf1).recs.length])

/-- Events reach the queues (R398, R458, R499), vectors their messages (R507, R509), and channels their records (R483 to R487): the record of
an event goes into every queue that has room for it and into the log; a channel writes a record at HEAD where it fits, and
drops it otherwise. -/
def Obligations.DeliveriesComplete : Prop :=
  (∀ i e, Completes (.eventRaised i) (fun s => s.ev.raised[i]? = some e ∧ s.dev.mode ≠ .startFailed ∧
      (s.dev.mode = .starting → 6 ≤ s.dev.step) ∧ s.hears)
    fun s t => s.ev.raised.eraseIdx i <+: t.ev.raised ∧ t.dev.log = s.dev.log ++ [.event e.code e.bcnt s.view] ∧
      ∀ r, (s.queueAt r).lost = 0 → (s.queueAt r).others < 960 →
        (t.queueAt r).recs = (s.queueAt r).recs ++
          [{ code := e.code, flags := 0, bcnt := e.bcnt, qseq := (s.queueAt r).qseq, data := e.data }] ∧
        (t.queueAt r).qseq = (s.queueAt r).qseq + 1 ∧ (t.queueAt r).lost = 0) ∧
  (∀ i e, Completes (.eventRaised i) (fun s => s.ev.raised[i]? = some e ∧ s.dev.mode ≠ .startFailed ∧
      (s.dev.mode = .starting → 6 ≤ s.dev.step) ∧ s.hears)
    fun s t => ∀ r, 960 ≤ (s.queueAt r).others →
      (t.queueAt r).recs = (s.queueAt r).recs ∧ (t.queueAt r).lost = (s.queueAt r).lost + 1 ∧
        (t.queueAt r).lostLast = e.bcnt ∧ (t.sticky r).getLsbD 13 = true) ∧
  (∀ i, Completes (.eventRaised i) (fun s => s.dev.mode = .startFailed ∨ s.eventsHeld) fun s t => t = s) ∧
  (∀ r v, Completes (.coalescingTimerExpiry r v)
    (fun s => r ≠ .mgt ∧ v < vectors r ∧ s.dstate r = .d0 ∧ (s.vecAt r v).timer ∧ (s.vecAt r v).held ≠ [] ∧
      (s.vecAt r v).masked = false ∧ (s.icuAt r).funcMask = false)
    fun s t => t.vecAt r v = { s.vecAt r v with held := [], timer := false, sent := (s.vecAt r v).sent + 1 } ∧ t.hif.l1 = false) ∧
  (∀ r v, Completes (.coalescingTimerExpiry r v)
    (fun s => r ≠ .mgt ∧ v < vectors r ∧ s.dstate r = .d0 ∧ (s.vecAt r v).timer ∧ (s.vecAt r v).held ≠ [] ∧
      ((s.vecAt r v).masked ∨ (s.icuAt r).funcMask))
    fun s t => t.vecAt r v = { s.vecAt r v with held := [], timer := false, pba := true } ∧ OnlyChanges [.icu] s t) ∧
  (∀ ch src q, Completes (.dmaRecordWritten ch src)
    (fun s => s.hif.ready = [q] ∧ q.ch = ch ∧ q.src = src ∧ s.dev.pfEnabled ∧ s.hif.linkUp ∧
      s.dstate (s.dmaAt ch).owner = .d0 ∧ tget s.hif.bme (fun _ => true) (s.dmaAt ch).owner.num ∧ 0 < dmaLength src ∧
      (s.dmaAt ch).head + dmaLength src ≤ (s.dmaAt ch).size ∧ (s.dmaAt ch).head < (s.dmaAt ch).size ∧
      dmaLength src ≤ (s.dmaAt ch).space)
    fun s t => t.hif.ready = [] ∧ (t.dmaAt ch).head = ((s.dmaAt ch).head + dmaLength src) % (s.dmaAt ch).size ∧
      (t.dmaAt ch).records = ((s.dmaAt ch).records + 1) % 2 ^ 32 ∧ (t.dmaAt ch).dropped = 0 ∧
      ∃ bad, (s.mem.cond = [] → bad = []) ∧
      (t.dmaAt ch).last = [{ offset := (s.dmaAt ch).head, type := src + 1,
                             flags := dmaFlags (decide (0 < (s.dmaAt ch).dropped)) q.flush q.late, length := dmaLength src,
                             bcnt := q.bcnt, sseq := q.sseq, rseq := (s.dmaAt ch).records, dropped := (s.dmaAt ch).dropped, bad := bad }]) ∧
  (∀ ch src q, Completes (.dmaRecordWritten ch src)
    (fun s => s.hif.ready = [q] ∧ q.ch = ch ∧ q.src = src ∧
      (s.hif.linkUp = false ∨ s.dstate (s.dmaAt ch).owner ≠ .d0 ∨ (s.dmaAt ch).space < dmaLength src))
    fun s t => t.hif.ready = [] ∧ (t.dmaAt ch).head = (s.dmaAt ch).head ∧ (t.dmaAt ch).gap = true ∧
      (t.dmaAt ch).dropped = (s.dmaAt ch).dropped + 1 ∧ (t.dmaAt ch).drops = min ((s.dmaAt ch).drops + 1) 0xFFFF ∧
      OnlyChanges [.hifRest] s t)

/-! ## Optics control (R556 to R583) -/

/-- Ramps, monitor samples and loops (R561, R562, R569 to R572, R576, R577): a ramp moves towards its target, an output sample takes the next
number and is the channel's last one, an update computes e and u of R577 and sets the channel's code. -/
def Obligations.OpticsUpdatesComplete : Prop :=
  (∀ c, Completes (.axRampUpdate c) (fun s => c ≤ 32 ∧ s.dev.refclk ∧ (s.axAt c).failed = false ∧ s.param nOcuAx c axSlew ≠ offWord)
    fun s t => t.axAt c = (s.axAt c).ramp (s.parN nOcuAx c axSlew) ∧ ∀ k, k ≠ c → t.axAt k = s.axAt k) ∧
  (∀ c, Completes (.axRampUpdate c) (fun s => c ≤ 32 ∧ s.dev.refclk ∧ (s.axAt c).failed = false ∧ s.param nOcuAx c axSlew = offWord)
    fun s t => t.axAt c = { s.axAt c with code := (s.axAt c).target, frac := 0 } ∧ ∀ k, k ≠ c → t.axAt k = s.axAt k) ∧
  (∀ c, Completes (.axRampUpdate c) (fun s => s.dev.refclk = false ∨ (s.axAt c).failed) fun s t => t = s) ∧
  (∀ c x, Completes (.monitorOutputSample c x false)
    (fun s => s.dev.refclk ∧ s.dev.mode ≠ .starting ∧ s.dev.mode ≠ .startFailed ∧ c < 64 ∧ s.parN nOcuMn c 2 ≠ 0 ∧ s.parN nOcuMn c 6 = 0 ∧ s.parN nOcuMn c 10 = 0)
    fun s t => (t.mnAt c).n = s.monIndex c + 1 ∧ (t.mnAt c).last = x ∧ (t.mnAt c).disc = false ∧
      (t.mnAt c).lastFlags = slotFlags false false (s.mnAt c).disc false ∧ (∀ k, k ≠ c → t.mnAt k = s.mnAt k) ∧
      OnlyChanges [.ocu] s t) ∧
  (∀ c x, Completes (.monitorOutputSample c x false)
    (fun s => s.dev.refclk ∧ s.dev.mode ≠ .starting ∧ s.dev.mode ≠ .startFailed ∧ c < 64 ∧ s.parN nOcuMn c 2 ≠ 0 ∧ s.parN nOcuMn c 6 = 1 ∧ s.parN nOcuMn c 10 = 0 ∧ s.parN nOcuMn c 5 ≤ 1 ∧
      s.parI nOcuMn c 3 < x ∧ (s.mnAt c).hi = { on := false, run := 0 } ∧ s.hears)
    fun s t => (t.mnAt c).hi.on = true ∧ t.statAt gMn c 1 = (s.statAt gMn c 1).add 1 ∧
      Raises s t evOcuThreshold [Word.nat c, 0, 0, Word.nat x, Word.nat (s.monIndex c * 625 * s.monP c), 1]) ∧
  (∀ i, Completes (.loopUpdate i)
    (fun s => i < 32 ∧ (s.loopAt i).running ∧ s.loopRuns i ∧ s.dev.refclk ∧ s.hears ∧
      (s.mnAt (s.parN nOcuLoop i lpMn)).fresh = [i] ∧ (s.mnAt (s.parN nOcuLoop i lpMn)).lastFlags = 0 ∧
      s.param nOcuAx (s.loopAx i) axSlew = offWord)
    fun s t =>
      let r := loopStep (s.parN nOcuLoop i lpSense) (s.parI nOcuLoop i lpSet) (s.mnAt (s.parN nOcuLoop i lpMn)).last
        (s.parI nOcuLoop i lpKp) (s.parI nOcuLoop i lpKi) (s.loopAt i).ePrev (s.loopAt i).u (s.parI nOcuAx (s.loopAx i) axMin)
        (s.parI nOcuAx (s.loopAx i) axMax)
      (t.loopAt i).e = r.1 ∧ (t.loopAt i).ePrev = some r.1 ∧ (t.loopAt i).u = r.2.1 ∧
        (t.axAt (s.loopAx i)).code = (roundCode r.2.1).toNat ∧ (t.mnAt (s.parN nOcuLoop i lpMn)).fresh = [] ∧
        t.statAt gLoop i 0 = (s.statAt gLoop i 0).add 1) ∧
  (∀ i, Completes (.loopUpdate i)
    (fun s => i < 32 ∧ (s.loopAt i).running ∧ s.loopRuns i ∧ s.dev.refclk ∧ s.hears ∧
      (s.mnAt (s.parN nOcuLoop i lpMn)).fresh = [i] ∧ (s.mnAt (s.parN nOcuLoop i lpMn)).lastFlags.getLsbD 0)
    fun s t => t.loopAt i = s.loopAt i ∧ t.axAt (s.loopAx i) = s.axAt (s.loopAx i) ∧
      t.statAt gLoop i 1 = (s.statAt gLoop i 1).add 1)

/-- Core faults and handovers (R564 to R566): core 32 takes the output stage of a faulty core, or the channel is FAILED and holds; a
failed output stage makes its channel FAILED; a handover takes steps 2 and 4 and ends its run. -/
def Obligations.CoresComplete : Prop :=
  (∀ c k, Completes (.axCoreFault c k)
    (fun s => c < 32 ∧ s.dev.refclk ∧ (s.axAt c).core = none ∧ (s.axAt c).coreHealth = .ok ∧ s.spareCore ∧ s.ocu.c32 = none ∧
      s.ocu.c32Cal = false ∧ (∀ b, (s.calAt b).running = false) ∧ s.hears)
    fun s t => t.ocu.c32 = some c ∧ (t.axAt c).core = some 32 ∧ (t.axAt c).coreHealth = .test ∧
      (8 ≤ s.axLaneOf c → (t.axAt c).code = (s.axAt c).code) ∧ (t.axAt c).failed = (s.axAt c).failed ∧ t.statAt gAx c 2 = (s.statAt gAx c 2).add 1 ∧
      Raises s t evOcuCoreSubst [Word.nat c, Word.nat k]) ∧
  (∀ c k, Completes (.axCoreFault c k)
    (fun s => c < 32 ∧ s.dev.refclk ∧ (s.axAt c).core = none ∧ (s.axAt c).coreHealth = .ok ∧ s.spareCore = false ∧ s.hears)
    fun s t => (t.axAt c).failed = true ∧ (t.axAt c).held = true ∧ (t.axAt c).coreHealth = .test ∧
      Raises s t evOcuNoSpare [Word.nat c, Word.nat (s.axAt c).code]) ∧
  (∀ k, Completes (.axCoreFault 32 k)
    (fun s => s.dev.refclk ∧ (s.axAt 32).coreHealth = .ok ∧ s.ocu.c32 = none ∧ s.ocu.c32Cal = false)
    fun s t => (t.axAt 32).coreHealth = .test ∧ ∀ c, c < 32 → (t.axAt c).failed = (s.axAt c).failed) ∧
  (∀ c k, Completes (.axCoreFault c k) (fun s => 32 < c ∨ s.dev.refclk = false) fun s t => t = s) ∧
  (∀ c, Completes (.axOutputStageFailure c)
    (fun s => c ≤ 32 ∧ (s.axAt c).stageOff = false ∧ (s.axAt c).failed = false ∧ s.hears)
    fun s t => (t.axAt c).stageOff = true ∧ (t.axAt c).failed = true ∧
      Raises s t evOcuNoSpare [Word.nat c, Word.nat (s.axAt c).code]) ∧
  (∀ c, Completes (.handoverSwitch c)
    (fun s => c < 32 ∧ (s.calAt (32 + c)).running ∧ (s.axAt c).hand = 1)
    fun s t => t.axAt c = { s.axAt c with hand := 3, core := some 32 } ∧ (t.calAt (32 + c)).pairs = [] ∧
      OnlyChanges [.ocu, .cal] s t) ∧
  (∀ c, Completes (.handoverSwitch c)
    (fun s => c < 32 ∧ (s.calAt (32 + c)).running ∧ (s.axAt c).hand = 4)
    fun _ t => (t.axAt c).hand = 0 ∧ (t.axAt c).core = none ∧ t.ocu.c32 = none ∧ (t.calAt (32 + c)).running = false) ∧
  (∀ c, Completes (.coreCalibrationDone c)
    (fun s => c < 32 ∧ (s.calAt (32 + c)).running ∧ 3 ≤ (s.calAt (32 + c)).pair ∧ (s.axAt c).hand = 3)
    fun s t => t.axAt c = { s.axAt c with hand := 4 } ∧ OnlyChanges [.ocu] s t) ∧
  Completes (.coreCalibrationDone 32) (fun s => (s.calAt 64).running ∧ 3 ≤ (s.calAt 64).pair)
    (fun _ t => t.ocu.c32Cal = false ∧ (t.calAt 64).running = false)

/-! ## Thermal management (R604 to R624) and self-test (R625 to R656) -/

/-- A thermal reading (R605, R607, R608, R613 to R618) of sixteen conversions that all lie in range and step by no more than 15 degrees: every
sensor has its value, the hot figure is the highest of the sensors in use plus the blind margin, band and level follow from
it, and at 110 degrees the Shutter starts. -/
def Obligations.ThermalReadingsComplete : Prop :=
  (∀ conv mr4 h, Completes (.thermalReading conv mr4)
    (fun s => s.thm.reading ∧ (s.dev.mode = .dormant ∨ s.dev.mode = .provisioned) ∧ s.hears ∧ s.hinge.started = false ∧
      (∀ n, n < 16 → s.convFails conv n = none ∧ (s.sensorAt n).broken = false) ∧
      ((List.range 16).map fun n => (conv.getD n none).getD 0).max? = some h ∧ h + s.thm.blind < 1760)
    fun s t => (∀ n, n < 16 → (t.sensorAt n).last = (conv.getD n none).getD 0 ∧ (t.sensorAt n).valid = true ∧
        (t.sensorAt n).stale = false ∧ (t.sensorAt n).fails = 0) ∧
      t.thm.hot = h + s.thm.blind ∧ t.thm.band = nextBand s.thm.first s.thm.band (h + s.thm.blind) ∧
      (∀ l, l < s.lines → (t.lineAt l).lrx.band = (nextBand s.thm.first s.thm.band (h + s.thm.blind)).num) ∧
      t.thm.raw = rawLevel (s.parN nThmCfg 0 thSlope) (s.parN nThmCfg 0 thThreshold) (h + s.thm.blind) ∧
      t.thm.level = nextLevel s.thm.level t.thm.raw (s.parN nThmCfg 0 thRelease) ∧
      t.thm.reduction = vcoreReduction t.thm.raw ∧ t.thm.r = s.thm.r + 1 ∧ t.dev.mode ≠ .shutter ∧ t.shut = s.shut) ∧
  (∀ conv mr4 h, Completes (.thermalReading conv mr4)
    (fun s => s.thm.reading ∧ (s.dev.mode = .dormant ∨ s.dev.mode = .provisioned) ∧ s.hears ∧ s.hinge.started = false ∧
      (∀ n, n < 16 → s.convFails conv n = none ∧ (s.sensorAt n).broken = false) ∧
      ((List.range 16).map fun n => (conv.getD n none).getD 0).max? = some h ∧ 1760 ≤ h + s.thm.blind)
    fun s t => t.thm.hot = h + s.thm.blind ∧ t.dev.mode = .shutter ∧ t.shut.column = .thermal ∧ t.shut.rec_.trigger = .thermal ∧
      t.shut.rec_.broken = false) ∧
  (∀ conv mr4, Completes (.thermalReading conv mr4) (fun s => s.thm.reading = false) fun s t => t = s) ∧
  (∀ x : Sensor, x.broken = false → ∀ k v, (x.take none v).last = v ∧ (x.take none v).fails = 0 ∧
    (x.take (some k) v).last = x.last ∧ (x.take (some k) v).stale = true ∧ (x.take (some k) v).count = x.count + 1 ∧
    (x.take (some k) v).broken = decide (3 ≤ x.fails + 1))

/-- Targeted tests, slices and coverage (R627 to R632, R639 to R642, R655): a failed run is repeated once, a second failure and a test set that
the pane lacks are LASTING, a pass is TRANSIENT unless the history holds two; a verdict is recorded and raised. A FREE
engine under a slice is in role TEST and returns to FREE when it passes. -/
def Obligations.TestsComplete : Prop :=
  (∀ k r, Completes (.targetedTestDone k false)
    (fun s => s.tst.under = [(r, 0)] ∧ r.kind = k ∧ s.hasTestSet k)
    fun s t => t.tst.under = [(r, 1)] ∧ t.tst.verdicts = s.tst.verdicts ∧ OnlyChanges [.tst] s t) ∧
  (∀ k r, Completes (.targetedTestDone k false)
    (fun s => s.tst.under = [(r, 1)] ∧ r.kind = k ∧ s.hasTestSet k ∧ s.hears)
    fun s t => t.tst.verdicts.getLast? = some (r, .lasting, s.tku.bcnt) ∧ Raises s t evTstVerdict
      [Word.nat (kindNum k), Word.nat r.unit, Word.nat r.loc, 1, Word.nat r.source, 2, 0]) ∧
  (∀ k r n, Completes (.targetedTestDone k true)
    (fun s => s.tst.under = [(r, n)] ∧ r.kind = k ∧ s.hasTestSet k ∧ s.recentTransients r < 2 ∧ s.hears)
    fun s t => t.tst.verdicts.getLast? = some (r, .transient, s.tku.bcnt) ∧ t.rep = s.rep ∧
      t.tst.intermittent = s.tst.intermittent + (if n = 0 then 0 else 1) ∧ Raises s t evTstVerdict
        [Word.nat (kindNum k), Word.nat r.unit, Word.nat r.loc, 0, Word.nat r.source, Word.nat (n + 1), 0]) ∧
  (∀ k r n pass, Completes (.targetedTestDone k pass)
    (fun s => s.tst.under = [(r, n)] ∧ r.kind = k ∧ s.hasTestSet k = false)
    fun s t => t.tst.verdicts.getLast? = some (r, .lasting, s.tku.bcnt) ∧
      tget t.tst.untested (fun _ => 0) (kindNum k) = tget s.tst.untested (fun _ => 0) (kindNum k) + 1) ∧
  (∀ e, Completes (.testSliceStart (.engine e))
    (fun s => s.dev.powered ∧ (s.live ∨ s.dev.mode = .workshop) ∧ s.param nTstCfg 0 2 = 0 ∧
      (s.tst.aborted.contains e = false ∨ s.dev.refclk = false ∨ 625000000 ≤ s.since (tget s.tst.abortAt (fun _ => 0) e)) ∧
      s.tst.slices = [] ∧ e < s.engines ∧ (s.engAt e).role = .free ∧
      ∀ i, i < 64 → 64 * (e / 64) + i ≠ e → s.engineTestable (64 * (e / 64) + i) = false)
    fun s t => t.tst.slices = [.engine e] ∧ t.engAt e = 
        { role := .test, slice := true, lfsr := (s.engAt e).lfsr, interval := (s.engAt e).interval } ∧
      ∀ k, k ≠ e → t.engAt k = s.engAt k) ∧
  (∀ b, Completes (.testSliceStart b) (fun s => s.param nTstCfg 0 2 ≠ 0 ∨ s.dev.powered = false) fun s t => t = s) ∧
  (∀ e, Completes (.sliceTestDone (.engine e) true)
    (fun s => s.tst.slices = [.engine e] ∧ s.hinge.started = false ∧
      ∀ l, l < s.lines → (s.lineAt l).sea.swapWait = none ∧ (s.lineAt l).sea.hasEst = false)
    fun s t => t.tst.slices = [] ∧ t.engAt e = { lfsr := (s.engAt e).lfsr, interval := (s.engAt e).interval } ∧
      tget t.tst.lastPass (fun _ => 0) e = s.tku.bcnt ∧ ∀ k, k ≠ e → t.engAt k = s.engAt k) ∧
  (∀ b, Completes (.coverageTimer b)
    (fun s => s.dev.powered ∧ (s.live ∨ s.dev.mode = .workshop) ∧ s.param nTstCfg 0 2 = 0 ∧ s.covered b ∧
      (s.dev.refclk = false ∨
        s.parN nTstCfg 0 1 * 90 * 625000000 ≤ s.since (tget s.tst.lastPass (fun _ => 0) (blockNum b))) ∧
      (s.tst.yields.any fun y => y.rank == 7 && y.obj == blockNum b) = false ∧ s.hears)
    fun s t => Raises s t evTstCoverageLate
      [Word.nat (blockNum b), Word.nat (s.since (tget s.tst.lastPass (fun _ => 0) (blockNum b)))] ∧
      (t.tst.yields.any fun y => y.rank == 7 && y.obj == blockNum b) = true)

/-! ## Power and start-up (R424 to R429, R496, R650, R686 to R704, R713) -/

/-- Power (R687, R689, R692, R696 to R702, R713): what stops the converters leaves the start-up of a part without power, with the fuses, the
repair record, both panes and the latches that the rules keep; VCORE moves by 5 mV a report towards the band's slack. -/
def Obligations.PowerCommandsComplete : Prop :=
  Completes .vinPowerDown (fun _ => True)
    (fun s t => t.pwr.up = false ∧ t.dev.mode = .starting ∧ t.dev.step = 0 ∧ t.pwr.latch = false ∧ t.pwr.vin = 0 ∧ t.fuses = s.fuses ∧
      t.rep = s.rep ∧ t.fw.a = s.fw.a ∧ t.fw.b = s.fw.b ∧ t.pending = s.pending ∧ t.pwr.fault = s.pwr.fault ∧ t.thm.thermN = false) ∧
  Completes .inputOvervoltage (fun _ => True) (fun s t => t.pwr.up = false ∧ t.pwr.overVolt = true ∧ t.fuses = s.fuses ∧ t.rep = s.rep) ∧
  Completes .enFall (fun _ => True) (fun s t => t.pwr.en = false ∧ t.pwr.latch = false ∧ t.pwr.up = false ∧ t.rep = s.rep) ∧
  Completes .enRise (fun s => s.pwr.en = false ∧ s.pwr.sysRst = false ∧ s.pwr.latch = false ∧ s.thm.backstop = false ∧
      s.pwr.overVolt = false ∧ 88 ≤ s.pwr.vin)
    (fun _ t => t.pwr.en = true ∧ t.pwr.up = true ∧ t.dev.mode = .starting ∧ t.dev.step = 1) ∧
  Completes .sysRstNAct (fun s => s.pwr.sysRst = false)
    (fun s t => t.pwr.sysRst = true ∧ t.pwr.up = false ∧ t.tku.bcnt = 0 ∧ t.rep = s.rep) ∧
  Completes .sysRstNRelease (fun s => s.pwr.sysRst ∧ s.pwr.en ∧ s.pwr.latch = false ∧ s.thm.backstop = false ∧ s.pwr.overVolt = false ∧
      88 ≤ s.pwr.vin)
    (fun _ t => t.pwr.sysRst = false ∧ t.pwr.up = true ∧ t.dev.step = 1 ∧ t.tku.bcnt = 0) ∧
  (∀ rail c, Completes (.railFault rail c) (fun s => s.railOn rail)
    fun s t => t.pwr.up = false ∧ t.pwr.latch = true ∧ t.pwr.fault = some { rail := rail, cause := c, bcnt := s.tku.bcnt }) ∧
  (∀ rail i, Completes (.railCurrentDwell rail i)
    (fun s => s.railOn rail ∧ railLimit rail * s.parN nPwrCfg 0 pwWarn < 20 * i ∧ tget s.pwr.warnAt (fun _ => none) rail = none ∧ s.hears)
    fun s t => Raises s t evPwrCurrentWarn [Word.nat rail, Word.nat i] ∧
      tget t.pwr.warnAt (fun _ => none) rail = some s.tku.bcnt) ∧
  Completes .backstopTrip (fun s => s.pwr.up)
    (fun s t => t.pwr.up = false ∧ t.thm.backstop = true ∧ t.thm.trip = true ∧ t.thm.thermN = true ∧ t.shut.last = s.keepRecord.shut.last) ∧
  (∀ slack rates m, Completes (.slackReport slack rates)
    (fun s => s.dev.powered ∧ slack.length = s.quads ∧ rates.length = s.quads ∧ s.pwr.stepping = false ∧ s.pwr.applied = 0 ∧
      s.thm.reduction = 0 ∧ slack.min? = some m ∧ m < slackTarget s.thm.band ∧ s.pwr.vcore + 5 ≤ vcoreMax)
    fun s t => t.pwr.vcore = s.pwr.vcore + 5 ∧ t.pwr.stepping = true ∧ t.pwr.announced = none) ∧
  (∀ slack rates m, Completes (.slackReport slack rates)
    (fun s => s.dev.powered ∧ slack.length = s.quads ∧ rates.length = s.quads ∧ s.pwr.stepping = false ∧ s.pwr.applied = 0 ∧
      s.thm.reduction = 0 ∧ slack.min? = some m ∧ slackTarget s.thm.band + 300 < m)
    fun s t => t.pwr.vcore = s.pwr.vcore ∧ t.pwr.lowering = true) ∧
  Completes .loweringDwellExpiry
    (fun s => s.dev.powered ∧ s.pwr.lowering ∧ s.pwr.stepping = false ∧ 555 ≤ s.pwr.vcore)
    (fun s t => t = { s with pwr := { s.pwr with announced := some (s.pwr.vcore - 5), forThrottle := false } }) ∧
  (∀ v, Completes .vcoreReductionAnnounced
    (fun s => s.pwr.announced = some v ∧ s.dev.powered ∧ s.placementsHold ∧ s.pwr.forThrottle = false)
    fun s t => t.pwr.vcore = v ∧ t.pwr.announced = none ∧ t.pwr.stepping = true ∧ OnlyChanges [.pwr] s t) ∧
  (∀ v, Completes .vcoreReductionAnnounced
    (fun s => s.pwr.announced = some v ∧ s.dev.powered ∧ s.placementsHold ∧ s.pwr.forThrottle ∧
      ∀ l, l ∈ s.startedLanes → (s.lineAt l).sea.tier ≤ (s.laneIn l).floor ∧
        ((s.laneIn l).guar → (s.laneIn l).floor ≤ (s.lineAt l).sea.tier))
    fun s t => t.pwr.vcore = v ∧ t.pwr.announced = none ∧ t.pwr.stepping = true ∧ t.pwr.applied = s.pwr.applied + 1 ∧
      OnlyChanges [.pwr] s t) ∧
  (∀ v l, Completes .vcoreReductionAnnounced
    (fun s => s.pwr.announced = some v ∧ s.pwr.forThrottle ∧ l ∈ s.startedLanes ∧ (s.laneIn l).floor < (s.lineAt l).sea.tier)
    fun s t => t = { s with pwr := { s.pwr with announced := none } }) ∧
  (∀ v, Completes .vcoreReductionAnnounced (fun s => s.pwr.announced = some v ∧ s.placementsHold = false)
    fun s t => t = { s with pwr := { s.pwr with announced := none } }) ∧
  (∀ rates, Completes (.vcoreStepSettled rates) (fun s => s.dev.powered ∧ s.pwr.stepping ∧ rates.length = s.quads)
    fun s t => t.pwr.stepping = false ∧ t.pwr.rates = rates ∧ t.pwr.vcore = s.pwr.vcore)

/-- Start-up (R424 to R428, R496, R648, R650, R693): each step begins when the one before it has ended; a failed fuse map, memory fill or
firmware load ends in START_FAILED with its error code; the record gives the life its number; DORMANT is reached with step
8, and the datapath serves the modes that need it. -/
def Obligations.StartUpStepsComplete : Prop :=
  (∀ v a, Completes (.vinValid v a)
    (fun s => s.dev.mode = .starting ∧ s.dev.step = 0 ∧ 88 ≤ v ∧ s.pwr.en ∧ s.pwr.sysRst = false ∧ s.pwr.latch = false ∧
      s.thm.backstop = false ∧ s.pwr.overVolt = false)
    fun _ t => t.dev.mode = .starting ∧ t.dev.step = 1 ∧ t.pwr.up = true ∧ t.pwr.vin = v ∧ t.hif.straps = a) ∧
  Completes .railInRegulation (fun s => s.dev.mode = .starting ∧ s.dev.step = 1 ∧ s.pwr.rails < 7)
    (fun s t => t = { s with pwr := { s.pwr with rails := s.pwr.rails + 1 } }) ∧
  Completes .pgoodReleaseTimer (fun s => s.dev.mode = .starting ∧ s.dev.step = 1 ∧ s.pwr.rails = 7)
    (fun s t => t = { s with pwr := { s.pwr with pgood := true }, dev := { s.dev with step := 2 } }) ∧
  Completes (.fuseMapLoaded true) (fun s => s.dev.mode = .starting ∧ s.dev.step = 2)
    (fun s t => t = { s with dev := { s.dev with step := 3 } }) ∧
  Completes (.fuseMapLoaded false) (fun s => s.dev.mode = .starting ∧ s.dev.step = 2)
    (fun _ t => t.dev.mode = .startFailed ∧ t.dev.step = 2 ∧ t.dev.error = 1) ∧
  Completes (.memoryFillDone true) (fun s => s.dev.mode = .starting ∧ s.dev.step = 3)
    (fun s t => t.mem.data = [] ∧ t.mem.cond = [] ∧ t.dev = { s.dev with mgtUp := true, step := 5 }) ∧
  Completes (.memoryFillDone false) (fun s => s.dev.mode = .starting ∧ s.dev.step = 3)
    (fun _ t => t.dev.mode = .startFailed ∧ t.dev.step = 3 ∧ t.dev.error = 2) ∧
  Completes (.firmwareLoadDone true) (fun s => s.dev.mode = .starting ∧ s.dev.step = 5 ∧ s.fw.ticket = none)
    (fun s t => t.dev.mode = .starting ∧ t.dev.step = 6 ∧ t.fw.running = (s.fw.active != s.fw.tried) ∧
      t.fw.shown = (s.fw.active != s.fw.tried) ∧ t.thm.reading = true) ∧
  Completes (.firmwareLoadDone false) (fun s => s.dev.mode = .starting ∧ s.dev.step = 5 ∧ s.fw.ticket = none ∧ s.fw.tried = false)
    (fun s t => t.dev = s.dev ∧ t.fw.tried = true ∧ (t.fw.pane s.fw.active).valid = false) ∧
  Completes (.firmwareLoadDone false) (fun s => s.dev.mode = .starting ∧ s.dev.step = 5 ∧ s.fw.ticket = none ∧ s.fw.tried ∧
      s.mb.waiting = [])
    (fun _ t => t.dev.mode = .startFailed ∧ t.dev.step = 5 ∧ t.dev.error = 3 ∧ t.dev.pfEnabled = true ∧ t.dev.isOpen = true) ∧
  Completes (.repairRecordApplied true) (fun s => s.dev.mode = .starting ∧ s.dev.step = 6)
    (fun s t => t.dev.step = 8 ∧ t.dev.pfEnabled = true ∧ t.rep = { s.rep with startNo := s.rep.startNo + 1 } ∧ t.dev.mode = .starting) ∧
  Completes (.repairRecordApplied false) (fun s => s.dev.mode = .starting ∧ s.dev.step = 6)
    (fun s t => t.dev.step = 8 ∧ t.dev.repairIgnored = true ∧ t.rep.entries = [] ∧ t.rep.startNo = s.rep.startNo + 1) ∧
  Completes .startUpComplete (fun s => s.dev.mode = .starting ∧ s.dev.step = 8 ∧ s.mb.waiting = [] ∧ s.hears)
    (fun s t => t.dev.mode = .dormant ∧ t.dev.isOpen = true ∧ t.dev.published = true ∧ t.dev.featHi = s.paneFeatures ∧
      ({ code := evDevModeChange, bcnt := s.tku.bcnt, data := [Word.nat Mode.starting.num, Word.nat Mode.dormant.num, 0,
          Word.nat s.dev.guard.toNat] } : Ev) ∈ t.ev.raised) ∧
  (∀ rates, Completes (.datapathPowered rates)
    (fun s => s.wantsPower ∧ s.dev.powered = false ∧ rates.length = s.quads ∧ s.allPorts fun p => p = .stopped)
    fun s t => t.dev.powered = true ∧ t.pwr.rates = rates ∧ t.hinge.started = true ∧ t.dev.enterWait = [] ∧
      ∀ m ∈ s.dev.enterWait, (t.boxAt m.req m.mbx).state = .complete ∧ (t.boxAt m.req m.mbx).status = Word.nat cDone)

/-! ## The Shutter (R431 to R437) and firmware panes (R464 to R467, R657 to R659) -/

/-- The Shutter's steps in order (R431, R433 to R437): an undervoltage starts it or makes it stricter, a flush ends into the saving of
the log, a deadline abandons the step, and step 5 leaves the part without PCIe and with every line transmitter OFF. -/
def Obligations.ShutterStepsComplete : Prop :=
  (∀ v, Completes (.vinUndervoltage v)
    (fun s => s.pwr.up ∧ v < s.uvLevel ∧ s.dev.mode = .dormant ∧ s.hears)
    fun s t => t.dev.mode = .shutter ∧ t.shut.column = .undervoltage ∧ t.shut.step = .flush ∧ t.shut.hold = 0 ∧ t.pwr.vin = v ∧
      Raises s t evPwrUndervoltage [Word.nat v, s.param nPwrCfg 0 pwLevel]) ∧
  (∀ v, Completes (.vinUndervoltage v)
    (fun s => s.pwr.up ∧ v < s.uvLevel ∧ s.dev.mode = .shutter ∧ s.shut.column = .commanded ∧ s.shut.step = .hold)
    fun _ t => t.shut.column = .undervoltage ∧ t.shut.step = .power ∧ t.dev.mode = .shutter) ∧
  Completes .shutterFlushDone
    (fun s => s.dev.mode = .shutter ∧ s.shut.step = .flush ∧ s.lex.pass = none ∧ s.pmc.dump = none ∧ s.hif.ready = [])
    (fun s t => t.shut.step = .save ∧ t.shut.rec_.completed = s.shut.rec_.completed ++ [true] ∧
      t.shut.rec_.ended = s.shut.rec_.ended ++ [s.tku.bcnt] ∧ t.shut.rec_.lexSeq = s.lex.seq - 1 ∧
      t.shut.rec_.pmcSeq = s.pmc.last.getD 0 ∧ t.shut.rec_.column = s.shut.column) ∧
  Completes .shutterDeadlineExpiry (fun s => s.dev.mode = .shutter ∧ s.shut.step = .flush)
    (fun s t => t.shut.step = .save ∧ t.shut.rec_.completed = s.shut.rec_.completed ++ [false] ∧ t.lex.pass = none ∧ t.pmc.dump = none) ∧
  Completes .shutterDeadlineExpiry (fun s => s.dev.mode = .shutter ∧ s.shut.step = .save ∧ s.shut.column = .thermal)
    (fun s t => t.shut.step = .power ∧ t.shut.rec_.completed = s.shut.rec_.completed ++ [false]) ∧
  Completes .shutterLogSaved (fun s => s.dev.mode = .shutter ∧ s.shut.step = .save)
    (fun s t => t.shut.step = (if s.shut.column = .commanded then
        (if 0 < s.shut.hold then .hold else if s.shut.skipBist then .power else .bist) else .power) ∧
      t.shut.rec_.completed = s.shut.rec_.completed ++ [true] ∧ t.shut.ticket = none) ∧
  Completes .shutterHoldEnd (fun s => s.dev.mode = .shutter ∧ s.shut.step = .hold ∧ s.shut.column = .commanded)
    (fun s t => t = { s with shut := { s.shut with step := if s.shut.skipBist then .power else .bist } }) ∧
  Completes (.shutdownBistDone []) (fun s => s.dev.mode = .shutter ∧ s.shut.step = .bist)
    (fun s t => t.shut = { s.shut with step := .power } ∧ t.rep = s.rep) ∧
  Completes .shutterPowerDown (fun s => s.dev.mode = .shutter ∧ s.shut.step = .power)
    (fun s t => t.shut = { s.shut with step := .complete } ∧ t.dev.powered = false ∧ t.dev.pfEnabled = false ∧ t.hif.linkUp = false ∧
      t.mem.data = [] ∧ t.pwr.pgood = false ∧ (∀ l, l < s.lines → (t.lineAt l).ltx.state = .off) ∧
      (∀ l, l < s.lines → (s.lineAt l).ltx.state = .on ∨ (s.lineAt l).ltx.state = .rampUp → s.hears →
        Raises s t evLtxDisabled [Word.nat l, 2]) ∧
      t.thm.thermN = (s.thm.thermN || decide (s.shut.column = Trigger.thermal)))

/-- Images and panes (R464 to R467, R657 to R659): an image is refused for the lowest reason that applies, a checked one is written to its
pane; a switch loads, saves, resumes and marks its pane, and fails back to the old pane at a timeout. -/
def Obligations.PanesComplete : Prop :=
  (∀ k sig dig i r, Completes (.imageCheckDone k sig dig)
    (fun s => k = false ∧ s.hears ∧ s.fw.load = some i ∧ i.checked = false ∧ s.imageReason i.hdr false 0 i.length sig dig = some r)
    fun s t => t.fw = { s.fw with load := none }) ∧
  (∀ i, Completes (.imageCheckDone false true true)
    (fun s => s.hears ∧ s.fw.load = some i ∧ i.checked = false ∧ i.check = false ∧ s.imageReason i.hdr false 0 i.length true true = none)
    fun s t => t.fw.load = some { i with checked := true } ∧ (t.fw.pane (i.pane == 1)).valid = false ∧
      t.fw.pane (i.pane != 1) = s.fw.pane (i.pane != 1) ∧ OnlyChanges [.fw] s t) ∧
  (∀ i rest, Completes (.imageCheckDone true true true)
    (fun s => s.hears ∧ s.hinge.load = i :: rest ∧ i.check = false ∧ s.imageReason i.hdr true i.id i.length true true = none ∧
      (s.kernAt i.id).vers.length < 2)
    fun s t => t.hinge.load = rest ∧ (t.kernAt i.id).vers = (s.kernAt i.id).vers ++ [hdrVersion i.hdr] ∧
      Raises s t evSeaKernelLoaded [Word.nat i.id, hdrVersion i.hdr]) ∧
  (∀ ok i, Completes (.fwImageWritten ok) (fun s => s.fw.load = some i ∧ i.checked)
    fun s t => t.fw.load = none ∧ (t.fw.pane (i.pane == 1)).valid = ok ∧ (t.fw.pane (i.pane == 1)).version = hdrVersion i.hdr ∧
      (t.fw.pane (i.pane == 1)).features = hdrFeatures i.hdr ∧ t.fw.pane (i.pane != 1) = s.fw.pane (i.pane != 1)) ∧
  Completes (.paneLoaded true) (fun s => s.fw.sw = 1) (fun s t => t.fw = { s.fw with sw := 2, since := s.tku.bcnt } ∧ OnlyChanges [.fw] s t) ∧
  Completes (.paneLoaded false) (fun s => s.fw.sw = 1)
    (fun s t => t.fw.sw = 0 ∧ t.fw.ticket = none ∧ t.fw.running = s.fw.running ∧
      ({ code := evFwSwitchFailed, bcnt := s.tku.bcnt, data := [Word.flag s.fw.swTarget, 1] } : Ev) ∈ t.ev.raised) ∧
  Completes .firmwareStateSaved (fun s => s.fw.sw = 2) (fun s t => t = { s with fw := { s.fw with sw := 3 } }) ∧
  Completes .newPaneResumed (fun s => s.fw.sw = 3 ∧ s.mb.waiting = [])
    (fun s t => t.fw.sw = 4 ∧ t.fw.running = s.fw.swTarget ∧ t.fw.since = s.tku.bcnt - s.fw.since ∧ t.line = s.line ∧ t.port = s.port) ∧
  Completes .paneMarkedActive (fun s => s.fw.sw = 4)
    (fun s t => t.fw.sw = 0 ∧ t.fw.active = s.fw.swTarget ∧ t.fw.shown = s.fw.swTarget ∧ t.fw.selGen = s.fw.selGen + 1 ∧
      t.fw.ticket = none ∧ ({ code := evFwSwitchDone, bcnt := s.tku.bcnt, data := [Word.flag s.fw.shown, Word.flag s.fw.swTarget,
          s.fw.verShown, (s.fw.pane s.fw.swTarget).version, Word.nat s.fw.since.toNat] } : Ev) ∈ t.ev.raised) ∧
  Completes .paneSwitchTimeout (fun s => (s.fw.sw = 2 ∨ s.fw.sw = 3) ∧ s.mb.waiting = [])
    (fun s t => t.fw.sw = 0 ∧ t.fw.ticket = none ∧ t.fw.running = s.fw.running ∧ t.fw.active = s.fw.active) ∧
  Completes .paneSwitchTimeout (fun s => s.hears) (fun s t => t = s)

/-! ## The whole block -/

/-- A step takes the command at the front of the queue and carries it out on the state with the queue's rest; on an empty queue the
block idles, and a step answers the state as it is (that the block idles is the model's choice, log entry 9). -/
def Obligations.StepsTakeTheQueueInOrder : Prop :=
  (∀ (s : State) (c : Instr) (cs : List Instr), s.pending = c :: cs → step s = exec c { s with pending := cs }) ∧
  (∀ s : State, s.pending = [] → step s = .next s)

/-- The frame of every command: it changes no component of the state but those that `mayChange` lists for it. In particular the
fuses and the queue of waiting commands are no command's. -/
def Obligations.CommandsKeepTheirFrames : Prop :=
  ∀ (c : Instr) (s t : State), exec c s = .next t → OnlyChanges (mayChange c) s t

/-- The bounds of the part's stores hold after every step of a state in which they hold. -/
def Obligations.BoundsAreKept : Prop :=
  ∀ s t : State, (∀ b : Bound, b.holds s) → step s = .next t → ∀ b : Bound, b.holds t

/-- The bounds hold after reset. -/
def Obligations.BoundsHoldAtReset : Prop := ∀ b : Bound, b.holds State.reset
end

