-- ==== Sys2Proof/Laws/Table.lean ====
section
/-! SUPPORT. The laws of sparse tables: a read after a write, at the same index and at others, in any table; writes keep the
canonical form. -/

set_option linter.unusedTactic false
set_option linter.unreachableTactic false
set_option linter.unnecessarySeqFocus false
set_option linter.unusedVariables false
set_option linter.unusedSimpArgs false

namespace Sys2Proof.Machine

variable {α : Type}

@[simp] theorem tget_nil (d : Nat → α) (i : Nat) : tget [] d i = d i := rfl

theorem tget_cons (p : Nat × α) (r : Tbl α) (d : Nat → α) (i : Nat) :
    tget (p :: r) d i = if p.1 = i then p.2 else tget r d i := rfl

theorem tget_drop (t : Tbl α) (d : Nat → α) (i j : Nat) :
    tget (t.filter fun p => decide (p.1 ≠ i)) d j = if j = i then d i else tget t d j := by
  induction t with
  | nil => by_cases h : j = i <;> simp [h]
  | cons p r ih =>
    by_cases hp : p.1 = i
    · have hd : decide (p.1 ≠ i) = false := by simp [hp]
      rw [List.filter_cons_of_neg (by simpa using hp), ih, tget_cons]
      by_cases hj : j = i
      · simp [hj]
      · rw [if_neg hj, if_neg hj, if_neg (by omega)]
    · rw [List.filter_cons_of_pos (by simpa using hp), tget_cons, tget_cons, ih]
      by_cases hj : j = i
      · subst hj; simp [hp]
      · simp [hj]

theorem tget_tput (t : Tbl α) (d : Nat → α) (i j : Nat) (v : α) (h : ∀ p ∈ t, p.1 ≠ i) :
    tget (tput t i v) d j = if j = i then v else tget t d j := by
  induction t with
  | nil => simp only [tput, tget_cons, tget_nil, eq_comm]
  | cons p r ih =>
    have hr : ∀ q ∈ r, q.1 ≠ i := fun q hq => h q (List.mem_cons_of_mem _ hq)
    have hp : p.1 ≠ i := h p (List.mem_cons_self ..)
    simp only [tput]
    by_cases hk : p.1 < i
    · rw [if_pos hk, tget_cons, tget_cons, ih hr]
      by_cases hj : j = i
      · subst hj; simp [hp]
      · simp [hj]
    · rw [if_neg hk, tget_cons]
      by_cases hj : j = i
      · simp [hj]
      · rw [if_neg (by simpa using fun e => hj e.symm), if_neg hj]

/-- A read after a write. -/
theorem tget_tset [DecidableEq α] (t : Tbl α) (d : Nat → α) (i j : Nat) (v : α) :
    tget (tset t d i v) d j = if j = i then v else tget t d j := by
  unfold tset
  by_cases hv : v = d i
  · simp only [hv, if_true, tget_drop]
  · simp only [hv, if_false]
    rw [tget_tput _ _ _ _ _ (by simp), tget_drop]
    by_cases hj : j = i <;> simp [hj]

@[simp] theorem tget_tset_same [DecidableEq α] (t : Tbl α) (d : Nat → α) (i : Nat) (v : α) :
    tget (tset t d i v) d i = v := by simp [tget_tset]

theorem tget_tset_other [DecidableEq α] (t : Tbl α) (d : Nat → α) {i j : Nat} (v : α) (h : j ≠ i) :
    tget (tset t d i v) d j = tget t d j := by simp [tget_tset, h]

theorem tget_tmod [DecidableEq α] (t : Tbl α) (d : Nat → α) (i j : Nat) (f : α → α) :
    tget (tmod t d i f) d j = if j = i then f (tget t d i) else tget t d j := tget_tset ..

@[simp] theorem tget_tmod_same [DecidableEq α] (t : Tbl α) (d : Nat → α) (i : Nat) (f : α → α) :
    tget (tmod t d i f) d i = f (tget t d i) := by simp [tget_tmod]

theorem tget_tmod_other [DecidableEq α] (t : Tbl α) (d : Nat → α) {i j : Nat} (f : α → α) (h : j ≠ i) :
    tget (tmod t d i f) d j = tget t d j := by simp [tget_tmod, h]

/-! The canonical form. -/

/-- The canonical form in terms of its members: indices rise, and no value is the default of its index. -/
def Canon (d : Nat → α) (t : Tbl α) : Prop := t.Pairwise (fun p q => p.1 < q.1) ∧ ∀ p ∈ t, p.2 ≠ d p.1

theorem tableWf_iff [DecidableEq α] (d : Nat → α) (t : Tbl α) : tableWf d t = true ↔ Canon d t := by
  induction t with
  | nil => simp [tableWf, Canon]
  | cons p r ih =>
    cases r with
    | nil => simp [tableWf, Canon]
    | cons q r' =>
      obtain ⟨k, v⟩ := p
      obtain ⟨j, w⟩ := q
      simp only [tableWf, Bool.and_eq_true, decide_eq_true_eq, ih, Canon, List.pairwise_cons, List.mem_cons,
        forall_eq_or_imp]
      constructor
      · rintro ⟨⟨h1, h2⟩, ⟨h3, h4⟩, h5, h6⟩
        exact ⟨⟨⟨h2, fun a ha => Nat.lt_trans h2 (h3 a ha)⟩, h3, h4⟩, h1, h5, h6⟩
      · rintro ⟨⟨⟨h1, _⟩, h3, h4⟩, h5, h6, h7⟩
        exact ⟨⟨h5, h1⟩, ⟨h3, h4⟩, h6, h7⟩

theorem Canon.filter {d : Nat → α} {t : Tbl α} (h : Canon d t) (p : Nat × α → Bool) : Canon d (t.filter p) :=
  ⟨h.1.filter _, fun q hq => h.2 q (List.mem_of_mem_filter hq)⟩

theorem tput_mem (t : Tbl α) (i : Nat) (v : α) (p : Nat × α) : p ∈ tput t i v ↔ p = (i, v) ∨ p ∈ t := by
  induction t with
  | nil => simp [tput]
  | cons q r ih =>
    simp only [tput]
    by_cases h : q.1 < i <;> simp [h, ih] <;> tauto

theorem Canon.tput {d : Nat → α} {t : Tbl α} (h : Canon d t) (i : Nat) (v : α) (hv : v ≠ d i) (hn : ∀ p ∈ t, p.1 ≠ i) :
    Canon d (tput t i v) := by
  refine ⟨?_, fun p hp => ?_⟩
  · induction t with
    | nil => simp [Machine.tput]
    | cons q r ih =>
      have hr : Canon d r := ⟨(List.pairwise_cons.1 h.1).2, fun p hp => h.2 p (List.mem_cons_of_mem _ hp)⟩
      simp only [Machine.tput]
      by_cases hk : q.1 < i
      · simp only [hk, if_true, List.pairwise_cons, tput_mem]
        refine ⟨fun p hp => ?_, ih hr fun p hp => hn p (List.mem_cons_of_mem _ hp)⟩
        rcases hp with rfl | hp
        · exact hk
        · exact (List.pairwise_cons.1 h.1).1 p hp
      · have hq : i < q.1 := by
          have := hn q (List.mem_cons_self ..)
          omega
        simp only [hk, if_false, List.pairwise_cons, List.mem_cons]
        refine ⟨fun p hp => ?_, (List.pairwise_cons.1 h.1).1, hr.1⟩
        rcases hp with rfl | hp
        · exact hq
        · exact Nat.lt_trans hq ((List.pairwise_cons.1 h.1).1 p hp)
  · rcases (tput_mem t i v p).1 hp with rfl | hp
    · exact hv
    · exact h.2 p hp

/-- What a written table lists. -/
theorem tset_mem [DecidableEq α] (t : Tbl α) (d : Nat → α) (i : Nat) (v : α) {p : Nat × α} (h : p ∈ tset t d i v) :
    p = (i, v) ∨ p ∈ t := by
  unfold tset at h
  by_cases hv : v = d i
  · simp only [hv, if_true] at h
    exact .inr (List.mem_of_mem_filter h)
  · simp only [hv, if_false] at h
    exact ((tput_mem _ _ _ _).1 h).imp id List.mem_of_mem_filter

/-- A value read is listed, or the default. -/
theorem tget_mem (t : Tbl α) (d : Nat → α) (i : Nat) : tget t d i = d i ∨ (i, tget t d i) ∈ t := by
  induction t with
  | nil => exact .inl rfl
  | cons p r ih =>
    rw [tget_cons]
    by_cases h : p.1 = i
    · rw [if_pos h]; subst h; exact .inr (List.mem_cons_self ..)
    · rw [if_neg h]; exact ih.imp id (List.mem_cons_of_mem _)

/-- A write keeps the canonical form. -/
theorem tset_wf [DecidableEq α] (d : Nat → α) (t : Tbl α) (i : Nat) (v : α) (h : tableWf d t = true) :
    tableWf d (tset t d i v) = true := by
  rw [tableWf_iff] at h ⊢
  unfold tset
  by_cases hv : v = d i
  · simpa [hv] using h.filter _
  · simp only [hv, if_false]
    exact (h.filter _).tput i v hv (by simp)

end Sys2Proof.Machine
end

