-- ==== Sys2Proof/Laws/Keep.lean ====
section
/-! SUPPORT. What a change of state leaves alone, as one relation that composes: the components outside a mask are the same, and
the bounds of `Bound` carry over. Every operation of the model has one lemma in this form. -/

set_option linter.unusedTactic false
set_option linter.unreachableTactic false
set_option linter.unnecessarySeqFocus false
set_option linter.unusedVariables false
set_option linter.unusedSimpArgs false

namespace Sys2Proof.Machine

/-- From `s` to `t` only the components in the mask `m` (bit `Comp.ctorIdx`) change, and every bound carries over. -/
def Keep (m : Nat) (s t : State) : Prop :=
  (∀ c : Comp, m.testBit c.ctorIdx = false → c.same s t) ∧ ∀ b : Bound, b.holds s → b.holds t

theorem Comp.same_rfl (c : Comp) (s : State) : c.same s s := by
  cases c <;> simp [Comp.same]

theorem Comp.same_trans (c : Comp) {s t u : State} (h1 : c.same s t) (h2 : c.same t u) : c.same s u := by
  cases c <;> simp only [Comp.same] at * <;> first
    | exact h1.trans h2
    | exact fun r => (h2 r).trans (h1 r)
    | exact fun l => (h1 l).trans (h2 l)
    | exact ⟨h1.1.trans h2.1, h1.2.1.trans h2.2.1, h1.2.2.trans h2.2.2⟩
    | exact fun l => ⟨(h1 l).1.trans (h2 l).1, (h1 l).2.1.trans (h2 l).2.1, (h1 l).2.2.trans (h2 l).2.2⟩
    | exact fun l => ⟨(h1 l).1.trans (h2 l).1, (h1 l).2.trans (h2 l).2⟩

theorem Keep.refl (m : Nat) (s : State) : Keep m s s := ⟨fun c _ => c.same_rfl s, fun _ h => h⟩

theorem testBit_of_sub {n m i : Nat} (h : n.land m = n) (hm : m.testBit i = false) : n.testBit i = false := by
  have e : n &&& m = n := h
  rw [← e, Nat.testBit_and, hm, Bool.and_false]

/-- A further change whose mask lies in the first one's. -/
theorem Keep.step {m n : Nat} {s t u : State} (h2 : Keep n t u) (hn : n.land m = n) (h1 : Keep m s t) : Keep m s u :=
  ⟨fun c hc => c.same_trans (h1.1 c hc) (h2.1 c (testBit_of_sub hn hc)), fun b hb => h2.2 b (h1.2 b hb)⟩

theorem Keep.trans {m : Nat} {s t u : State} (h1 : Keep m s t) (h2 : Keep m t u) : Keep m s u :=
  ⟨fun c hc => c.same_trans (h1.1 c hc) (h2.1 c hc), fun b hb => h2.2 b (h1.2 b hb)⟩

theorem Keep.ite {m : Nat} {s t u : State} {c : Prop} [Decidable c] (h1 : Keep m s t) (h2 : Keep m s u) :
    Keep m s (if c then t else u) := by split <;> assumption

theorem Keep.foldl {α : Type} {m : Nat} {s : State} {f : State → α → State} (l : List α) {t : State}
    (hf : ∀ u x, Keep m s u → Keep m s (f u x)) (h : Keep m s t) : Keep m s (l.foldl f t) := by
  induction l generalizing t with
  | nil => exact h
  | cons x xs ih => exact ih (hf t x h)

/-- The frame in terms of a list of components. -/
theorem Keep.only {m : Nat} {s t : State} (h : Keep m s t) (cs : List Comp)
    (hm : ∀ c : Comp, c ∉ cs → m.testBit c.ctorIdx = false) : OnlyChanges cs s t := fun c hc => h.1 c (hm c hc)

/-- The mask of a list of components. -/
def compMask : List Comp → Nat
  | [] => 0
  | c :: cs => (2 ^ c.ctorIdx) ||| compMask cs

theorem compMask_testBit (cs : List Comp) (c : Comp) (h : c ∉ cs) : (compMask cs).testBit c.ctorIdx = false := by
  induction cs with
  | nil => simp [compMask]
  | cons d ds ih =>
    rw [List.mem_cons, not_or] at h
    rw [compMask, Nat.testBit_or, ih h.2, Bool.or_false, Nat.testBit_two_pow]
    refine decide_eq_false fun e => h.1 ?_
    rw [← Comp.ofNat_ctorIdx c, ← Comp.ofNat_ctorIdx d, e]

/-- A frame with a list of components, from one with a mask. -/
theorem Keep.among {m : Nat} {s t : State} {cs : List Comp} (h : Keep m s t) (hm : Nat.land m (compMask cs) = m) :
    OnlyChanges cs s t := fun c hc => h.1 c (testBit_of_sub hm (compMask_testBit cs c hc))
/-- A record update of fields other than the lanes and the statistics. -/
theorem Keep.upd {m : Nat} {s t : State}
    {p_pending : List Instr} {p_free : Nat} {p_fuses : Fuses} {p_dev : Dev} {p_shut : Shut} {p_mb : Mb} {p_ev : Evs}
    {p_icu : Tbl Icu} {p_hif : Hif} {p_err : Err} {p_tku : Tku} {p_params : Tbl Word} {p_stats : Tbl Stat} {p_line : Tbl Line}
    {p_host : Tbl HostLane} {p_group : Tbl Group} {p_port : Tbl Port} {p_block : Tbl Block} {p_eng : Tbl Engine} {p_hinge : Hinge}
    {p_lex : Lex} {p_mem : Mem} {p_rep : Rep} {p_ocu : Ocu} {p_cal : Tbl Cal} {p_thm : Thm} {p_tst : Tst} {p_pmc : Pmcs} {p_pwr : Pwr}
    {p_fw : Fw} {p_cap : Cap}
    (h_fuses : p_fuses = t.fuses) (h_line : p_line = t.line) (h_host : p_host = t.host) (h_stats : p_stats = t.stats)
    (h_pending : m.testBit 0 = true ∨ p_pending = t.pending)
    (h_free : m.testBit 1 = true ∨ p_free = t.free)
    (h_shut : m.testBit 6 = true ∨ p_shut = t.shut)
    (h_mb : m.testBit 7 = true ∨ p_mb = t.mb)
    (h_icu : m.testBit 11 = true ∨ p_icu = t.icu)
    (h_err : m.testBit 14 = true ∨ p_err = t.err)
    (h_tku : m.testBit 15 = true ∨ p_tku = t.tku)
    (h_params : m.testBit 16 = true ∨ p_params = t.params)
    (h_group : m.testBit 28 = true ∨ p_group = t.group)
    (h_port : m.testBit 29 = true ∨ p_port = t.port)
    (h_block : m.testBit 30 = true ∨ p_block = t.block)
    (h_eng : m.testBit 31 = true ∨ p_eng = t.eng)
    (h_hinge : m.testBit 32 = true ∨ p_hinge = t.hinge)
    (h_lex : m.testBit 33 = true ∨ p_lex = t.lex)
    (h_rep : m.testBit 36 = true ∨ p_rep = t.rep)
    (h_ocu : m.testBit 37 = true ∨ p_ocu = t.ocu)
    (h_cal : m.testBit 38 = true ∨ p_cal = t.cal)
    (h_thm : m.testBit 39 = true ∨ p_thm = t.thm)
    (h_tst : m.testBit 40 = true ∨ p_tst = t.tst)
    (h_pwr : m.testBit 43 = true ∨ p_pwr = t.pwr)
    (h_fw : m.testBit 44 = true ∨ p_fw = t.fw)
    (h_cap : m.testBit 45 = true ∨ p_cap = t.cap)
    (h_devMode : m.testBit 3 = true ∨ (p_dev.mode = t.dev.mode ∧ p_dev.guard = t.dev.guard ∧ p_dev.guardSince = t.dev.guardSince))
    (h_devBus : m.testBit 4 = true ∨ p_dev.busRead = t.dev.busRead)
    (h_devRest : m.testBit 5 = true ∨ p_dev.rest = t.dev.rest)
    (h_evRaised : m.testBit 8 = true ∨ p_ev.raised = t.ev.raised)
    (h_evQueue : m.testBit 9 = true ∨ p_ev.queue = t.ev.queue)
    (h_evUrgent : m.testBit 10 = true ∨ p_ev.urgent = t.ev.urgent)
    (h_hifL1 : m.testBit 12 = true ∨ p_hif.l1 = t.hif.l1)
    (h_hifRest : m.testBit 13 = true ∨ p_hif.rest = t.hif.rest)
    (h_memData : m.testBit 34 = true ∨ p_mem.data = t.mem.data)
    (h_memRest : m.testBit 35 = true ∨ p_mem.rest = t.mem.rest)
    (h_pmcCtr : m.testBit 41 = true ∨ p_pmc.ctr = t.pmc.ctr)
    (h_pmcRest : m.testBit 42 = true ∨ p_pmc.rest = t.pmc.rest)
    (h_outstanding : m.testBit 46 = true ∨ ∀ r : Requester, (p_mb.outstanding.filter fun o => o.req = r ∧ !o.dropped).length ≤ (t.outstandingOf r).length)
    (h_evTaken : m.testBit 47 = true ∨ t.ev.raised <+: p_ev.raised)
    (b_memory : Memory.wf t.mem.data → Memory.wf p_mem.data) (b_echo : t.mem.echo.length ≤ 64 → p_mem.echo.length ≤ 64)
    (b_queues : (∀ r : Requester, (tget t.ev.queue (fun _ => {}) r.num).others ≤ 960) →
      ∀ r : Requester, (tget p_ev.queue (fun _ => {}) r.num).others ≤ 960)
    (b_out : (∀ r : Requester, (t.mb.outstanding.filter fun o => o.req = r ∧ !o.dropped).length ≤ 64) →
      ∀ r : Requester, (p_mb.outstanding.filter fun o => o.req = r ∧ !o.dropped).length ≤ 64)
    (b_rep : t.rep.entries.length ≤ 2048 → p_rep.entries.length ≤ 2048)
    (b_ctr : (∀ p ∈ t.pmc.ctr, p.2.value ≤ max36) → ∀ p ∈ p_pmc.ctr, p.2.value ≤ max36)
    (h : Keep m s t) :
    Keep m s (State.mk p_pending p_free p_fuses p_dev p_shut p_mb p_ev p_icu p_hif p_err p_tku p_params p_stats p_line p_host p_group p_port p_block p_eng p_hinge p_lex p_mem p_rep p_ocu p_cal p_thm p_tst p_pmc p_pwr p_fw p_cap) := by
  subst h_fuses h_line h_host h_stats
  refine h.trans ⟨fun c hc => ?_, fun b hb => ?_⟩
  · cases c
    case pending => exact ((h_pending.resolve_left fun e => by rw [show Comp.ctorIdx Comp.pending = 0 from rfl, e] at hc; cases hc) |> fun e => by
      first | exact e | exact e.symm | (simp only [Comp.same, e]; done) | simp only [Comp.same, e, and_self])
    case free => exact ((h_free.resolve_left fun e => by rw [show Comp.ctorIdx Comp.free = 1 from rfl, e] at hc; cases hc) |> fun e => by
      first | exact e | exact e.symm | (simp only [Comp.same, e]; done) | simp only [Comp.same, e, and_self])
    case fuses => exact rfl
    case devMode => exact ((h_devMode.resolve_left fun e => by rw [show Comp.ctorIdx Comp.devMode = 3 from rfl, e] at hc; cases hc) |> fun e => by
      first | exact e | exact e.symm | (simp only [Comp.same, e]; done) | simp only [Comp.same, e, and_self])
    case devBus => exact ((h_devBus.resolve_left fun e => by rw [show Comp.ctorIdx Comp.devBus = 4 from rfl, e] at hc; cases hc) |> fun e => by
      first | exact e | exact e.symm | (simp only [Comp.same, e]; done) | simp only [Comp.same, e, and_self])
    case devRest => exact ((h_devRest.resolve_left fun e => by rw [show Comp.ctorIdx Comp.devRest = 5 from rfl, e] at hc; cases hc) |> fun e => by
      first | exact e | exact e.symm | (simp only [Comp.same, e]; done) | simp only [Comp.same, e, and_self])
    case shut => exact ((h_shut.resolve_left fun e => by rw [show Comp.ctorIdx Comp.shut = 6 from rfl, e] at hc; cases hc) |> fun e => by
      first | exact e | exact e.symm | (simp only [Comp.same, e]; done) | simp only [Comp.same, e, and_self])
    case mb => exact ((h_mb.resolve_left fun e => by rw [show Comp.ctorIdx Comp.mb = 7 from rfl, e] at hc; cases hc) |> fun e => by
      first | exact e | exact e.symm | (simp only [Comp.same, e]; done) | simp only [Comp.same, e, and_self])
    case evRaised => exact ((h_evRaised.resolve_left fun e => by rw [show Comp.ctorIdx Comp.evRaised = 8 from rfl, e] at hc; cases hc) |> fun e => by
      first | exact e | exact e.symm | (simp only [Comp.same, e]; done) | simp only [Comp.same, e, and_self])
    case evQueue => exact ((h_evQueue.resolve_left fun e => by rw [show Comp.ctorIdx Comp.evQueue = 9 from rfl, e] at hc; cases hc) |> fun e => by
      first | exact e | exact e.symm | (simp only [Comp.same, e]; done) | simp only [Comp.same, e, and_self])
    case evUrgent => exact ((h_evUrgent.resolve_left fun e => by rw [show Comp.ctorIdx Comp.evUrgent = 10 from rfl, e] at hc; cases hc) |> fun e => by
      first | exact e | exact e.symm | (simp only [Comp.same, e]; done) | simp only [Comp.same, e, and_self])
    case icu => exact ((h_icu.resolve_left fun e => by rw [show Comp.ctorIdx Comp.icu = 11 from rfl, e] at hc; cases hc) |> fun e => by
      first | exact e | exact e.symm | (simp only [Comp.same, e]; done) | simp only [Comp.same, e, and_self])
    case hifL1 => exact ((h_hifL1.resolve_left fun e => by rw [show Comp.ctorIdx Comp.hifL1 = 12 from rfl, e] at hc; cases hc) |> fun e => by
      first | exact e | exact e.symm | (simp only [Comp.same, e]; done) | simp only [Comp.same, e, and_self])
    case hifRest => exact ((h_hifRest.resolve_left fun e => by rw [show Comp.ctorIdx Comp.hifRest = 13 from rfl, e] at hc; cases hc) |> fun e => by
      first | exact e | exact e.symm | (simp only [Comp.same, e]; done) | simp only [Comp.same, e, and_self])
    case err => exact ((h_err.resolve_left fun e => by rw [show Comp.ctorIdx Comp.err = 14 from rfl, e] at hc; cases hc) |> fun e => by
      first | exact e | exact e.symm | (simp only [Comp.same, e]; done) | simp only [Comp.same, e, and_self])
    case tku => exact ((h_tku.resolve_left fun e => by rw [show Comp.ctorIdx Comp.tku = 15 from rfl, e] at hc; cases hc) |> fun e => by
      first | exact e | exact e.symm | (simp only [Comp.same, e]; done) | simp only [Comp.same, e, and_self])
    case params => exact ((h_params.resolve_left fun e => by rw [show Comp.ctorIdx Comp.params = 16 from rfl, e] at hc; cases hc) |> fun e => by
      first | exact e | exact e.symm | (simp only [Comp.same, e]; done) | simp only [Comp.same, e, and_self])
    case stats => exact rfl
    case lnState => exact fun _ => by first | exact rfl | exact ⟨rfl, rfl⟩ | exact ⟨rfl, rfl, rfl⟩ | exact fun _ => Nat.le_refl _ | exact List.prefix_refl _
    case lnRx => exact fun _ => by first | exact rfl | exact ⟨rfl, rfl⟩ | exact ⟨rfl, rfl, rfl⟩ | exact fun _ => Nat.le_refl _ | exact List.prefix_refl _
    case lnRxPower => exact fun _ => by first | exact rfl | exact ⟨rfl, rfl⟩ | exact ⟨rfl, rfl, rfl⟩ | exact fun _ => Nat.le_refl _ | exact List.prefix_refl _
    case lnSea => exact fun _ => by first | exact rfl | exact ⟨rfl, rfl⟩ | exact ⟨rfl, rfl, rfl⟩ | exact fun _ => Nat.le_refl _ | exact List.prefix_refl _
    case lnSdf => exact fun _ => by first | exact rfl | exact ⟨rfl, rfl⟩ | exact ⟨rfl, rfl, rfl⟩ | exact fun _ => Nat.le_refl _ | exact List.prefix_refl _
    case lnLtx => exact fun _ => by first | exact rfl | exact ⟨rfl, rfl⟩ | exact ⟨rfl, rfl, rfl⟩ | exact fun _ => Nat.le_refl _ | exact List.prefix_refl _
    case lnPlt => exact fun _ => by first | exact rfl | exact ⟨rfl, rfl⟩ | exact ⟨rfl, rfl, rfl⟩ | exact fun _ => Nat.le_refl _ | exact List.prefix_refl _
    case lnOptics => exact fun _ => by first | exact rfl | exact ⟨rfl, rfl⟩ | exact ⟨rfl, rfl, rfl⟩ | exact fun _ => Nat.le_refl _ | exact List.prefix_refl _
    case hostRest => exact fun _ => by first | exact rfl | exact ⟨rfl, rfl⟩ | exact ⟨rfl, rfl, rfl⟩ | exact fun _ => Nat.le_refl _ | exact List.prefix_refl _
    case hostTx => exact fun _ => by first | exact rfl | exact ⟨rfl, rfl⟩ | exact ⟨rfl, rfl, rfl⟩ | exact fun _ => Nat.le_refl _ | exact List.prefix_refl _
    case group => exact ((h_group.resolve_left fun e => by rw [show Comp.ctorIdx Comp.group = 28 from rfl, e] at hc; cases hc) |> fun e => by
      first | exact e | exact e.symm | (simp only [Comp.same, e]; done) | simp only [Comp.same, e, and_self])
    case port => exact ((h_port.resolve_left fun e => by rw [show Comp.ctorIdx Comp.port = 29 from rfl, e] at hc; cases hc) |> fun e => by
      first | exact e | exact e.symm | (simp only [Comp.same, e]; done) | simp only [Comp.same, e, and_self])
    case block => exact ((h_block.resolve_left fun e => by rw [show Comp.ctorIdx Comp.block = 30 from rfl, e] at hc; cases hc) |> fun e => by
      first | exact e | exact e.symm | (simp only [Comp.same, e]; done) | simp only [Comp.same, e, and_self])
    case eng => exact ((h_eng.resolve_left fun e => by rw [show Comp.ctorIdx Comp.eng = 31 from rfl, e] at hc; cases hc) |> fun e => by
      first | exact e | exact e.symm | (simp only [Comp.same, e]; done) | simp only [Comp.same, e, and_self])
    case hinge => exact ((h_hinge.resolve_left fun e => by rw [show Comp.ctorIdx Comp.hinge = 32 from rfl, e] at hc; cases hc) |> fun e => by
      first | exact e | exact e.symm | (simp only [Comp.same, e]; done) | simp only [Comp.same, e, and_self])
    case lex => exact ((h_lex.resolve_left fun e => by rw [show Comp.ctorIdx Comp.lex = 33 from rfl, e] at hc; cases hc) |> fun e => by
      first | exact e | exact e.symm | (simp only [Comp.same, e]; done) | simp only [Comp.same, e, and_self])
    case memData => exact ((h_memData.resolve_left fun e => by rw [show Comp.ctorIdx Comp.memData = 34 from rfl, e] at hc; cases hc) |> fun e => by
      first | exact e | exact e.symm | (simp only [Comp.same, e]; done) | simp only [Comp.same, e, and_self])
    case memRest => exact ((h_memRest.resolve_left fun e => by rw [show Comp.ctorIdx Comp.memRest = 35 from rfl, e] at hc; cases hc) |> fun e => by
      first | exact e | exact e.symm | (simp only [Comp.same, e]; done) | simp only [Comp.same, e, and_self])
    case rep => exact ((h_rep.resolve_left fun e => by rw [show Comp.ctorIdx Comp.rep = 36 from rfl, e] at hc; cases hc) |> fun e => by
      first | exact e | exact e.symm | (simp only [Comp.same, e]; done) | simp only [Comp.same, e, and_self])
    case ocu => exact ((h_ocu.resolve_left fun e => by rw [show Comp.ctorIdx Comp.ocu = 37 from rfl, e] at hc; cases hc) |> fun e => by
      first | exact e | exact e.symm | (simp only [Comp.same, e]; done) | simp only [Comp.same, e, and_self])
    case cal => exact ((h_cal.resolve_left fun e => by rw [show Comp.ctorIdx Comp.cal = 38 from rfl, e] at hc; cases hc) |> fun e => by
      first | exact e | exact e.symm | (simp only [Comp.same, e]; done) | simp only [Comp.same, e, and_self])
    case thm => exact ((h_thm.resolve_left fun e => by rw [show Comp.ctorIdx Comp.thm = 39 from rfl, e] at hc; cases hc) |> fun e => by
      first | exact e | exact e.symm | (simp only [Comp.same, e]; done) | simp only [Comp.same, e, and_self])
    case tst => exact ((h_tst.resolve_left fun e => by rw [show Comp.ctorIdx Comp.tst = 40 from rfl, e] at hc; cases hc) |> fun e => by
      first | exact e | exact e.symm | (simp only [Comp.same, e]; done) | simp only [Comp.same, e, and_self])
    case pmcCtr => exact ((h_pmcCtr.resolve_left fun e => by rw [show Comp.ctorIdx Comp.pmcCtr = 41 from rfl, e] at hc; cases hc) |> fun e => by
      first | exact e | exact e.symm | (simp only [Comp.same, e]; done) | simp only [Comp.same, e, and_self])
    case pmcRest => exact ((h_pmcRest.resolve_left fun e => by rw [show Comp.ctorIdx Comp.pmcRest = 42 from rfl, e] at hc; cases hc) |> fun e => by
      first | exact e | exact e.symm | (simp only [Comp.same, e]; done) | simp only [Comp.same, e, and_self])
    case pwr => exact ((h_pwr.resolve_left fun e => by rw [show Comp.ctorIdx Comp.pwr = 43 from rfl, e] at hc; cases hc) |> fun e => by
      first | exact e | exact e.symm | (simp only [Comp.same, e]; done) | simp only [Comp.same, e, and_self])
    case fw => exact ((h_fw.resolve_left fun e => by rw [show Comp.ctorIdx Comp.fw = 44 from rfl, e] at hc; cases hc) |> fun e => by
      first | exact e | exact e.symm | (simp only [Comp.same, e]; done) | simp only [Comp.same, e, and_self])
    case cap => exact ((h_cap.resolve_left fun e => by rw [show Comp.ctorIdx Comp.cap = 45 from rfl, e] at hc; cases hc) |> fun e => by
      first | exact e | exact e.symm | (simp only [Comp.same, e]; done) | simp only [Comp.same, e, and_self])
    case outstanding => exact ((h_outstanding.resolve_left fun e => by rw [show Comp.ctorIdx Comp.outstanding = 46 from rfl, e] at hc; cases hc) |> fun e => by
      first | exact e | exact e.symm | (simp only [Comp.same, e]; done) | simp only [Comp.same, e, and_self])
    case evTaken => exact ((h_evTaken.resolve_left fun e => by rw [show Comp.ctorIdx Comp.evTaken = 47 from rfl, e] at hc; cases hc) |> fun e => by
      first | exact e | exact e.symm | (simp only [Comp.same, e]; done) | simp only [Comp.same, e, and_self])
  · cases b
    case memory => exact b_memory hb
    case queues => exact b_queues hb
    case outstanding => exact b_out hb
    case repair => exact b_rep hb
    case stats => exact hb
    case counters => exact b_ctr hb
    case echo => exact b_echo hb

/-! Lanes. -/

theorem State.lineAt_setLine_if (s : State) (l k : Nat) (x : Line) : (s.setLine l x).lineAt k = if k = l then x else s.lineAt k := by
  exact tget_tset s.line (fun _ => {}) l k x

theorem State.hostAt_setHost_if (s : State) (l k : Nat) (x : HostLane) : (s.setHost l x).hostAt k = if k = l then x else s.hostAt k := by
  exact tget_tset s.host (fun _ => {}) l k x

theorem Keep.setLine {m : Nat} {s t : State} {l : Nat} {x : Line}
    (h_lnState : m.testBit 18 = true ∨ (x.state = (t.lineAt l).state ∧ x.stuck = (t.lineAt l).stuck ∧ x.badStage = (t.lineAt l).badStage))
    (h_lnRx : m.testBit 19 = true ∨ (x.lrx.rest = (t.lineAt l).lrx.rest))
    (h_lnRxPower : m.testBit 20 = true ∨ (x.lrx = (t.lineAt l).lrx))
    (h_lnSea : m.testBit 21 = true ∨ (x.sea = (t.lineAt l).sea))
    (h_lnSdf : m.testBit 22 = true ∨ (x.sdf = (t.lineAt l).sdf))
    (h_lnLtx : m.testBit 23 = true ∨ (x.ltx = (t.lineAt l).ltx))
    (h_lnPlt : m.testBit 24 = true ∨ (x.plt = (t.lineAt l).plt))
    (h_lnOptics : m.testBit 25 = true ∨ (x.optics = (t.lineAt l).optics ∧ x.optSince = (t.lineAt l).optSince))
    (h : Keep m s t) : Keep m s (t.setLine l x) := by
  refine h.trans ⟨fun c hc => ?_, fun b hb => by cases b <;> exact hb⟩
  cases c
  case pending => first | exact rfl | exact ⟨rfl, rfl⟩ | exact ⟨rfl, rfl, rfl⟩ | exact fun _ => Nat.le_refl _ | exact List.prefix_refl _
  case free => first | exact rfl | exact ⟨rfl, rfl⟩ | exact ⟨rfl, rfl, rfl⟩ | exact fun _ => Nat.le_refl _ | exact List.prefix_refl _
  case fuses => first | exact rfl | exact ⟨rfl, rfl⟩ | exact ⟨rfl, rfl, rfl⟩ | exact fun _ => Nat.le_refl _ | exact List.prefix_refl _
  case devMode => first | exact rfl | exact ⟨rfl, rfl⟩ | exact ⟨rfl, rfl, rfl⟩ | exact fun _ => Nat.le_refl _ | exact List.prefix_refl _
  case devBus => first | exact rfl | exact ⟨rfl, rfl⟩ | exact ⟨rfl, rfl, rfl⟩ | exact fun _ => Nat.le_refl _ | exact List.prefix_refl _
  case devRest => first | exact rfl | exact ⟨rfl, rfl⟩ | exact ⟨rfl, rfl, rfl⟩ | exact fun _ => Nat.le_refl _ | exact List.prefix_refl _
  case shut => first | exact rfl | exact ⟨rfl, rfl⟩ | exact ⟨rfl, rfl, rfl⟩ | exact fun _ => Nat.le_refl _ | exact List.prefix_refl _
  case mb => first | exact rfl | exact ⟨rfl, rfl⟩ | exact ⟨rfl, rfl, rfl⟩ | exact fun _ => Nat.le_refl _ | exact List.prefix_refl _
  case evRaised => first | exact rfl | exact ⟨rfl, rfl⟩ | exact ⟨rfl, rfl, rfl⟩ | exact fun _ => Nat.le_refl _ | exact List.prefix_refl _
  case evQueue => first | exact rfl | exact ⟨rfl, rfl⟩ | exact ⟨rfl, rfl, rfl⟩ | exact fun _ => Nat.le_refl _ | exact List.prefix_refl _
  case evUrgent => first | exact rfl | exact ⟨rfl, rfl⟩ | exact ⟨rfl, rfl, rfl⟩ | exact fun _ => Nat.le_refl _ | exact List.prefix_refl _
  case icu => first | exact rfl | exact ⟨rfl, rfl⟩ | exact ⟨rfl, rfl, rfl⟩ | exact fun _ => Nat.le_refl _ | exact List.prefix_refl _
  case hifL1 => first | exact rfl | exact ⟨rfl, rfl⟩ | exact ⟨rfl, rfl, rfl⟩ | exact fun _ => Nat.le_refl _ | exact List.prefix_refl _
  case hifRest => first | exact rfl | exact ⟨rfl, rfl⟩ | exact ⟨rfl, rfl, rfl⟩ | exact fun _ => Nat.le_refl _ | exact List.prefix_refl _
  case err => first | exact rfl | exact ⟨rfl, rfl⟩ | exact ⟨rfl, rfl, rfl⟩ | exact fun _ => Nat.le_refl _ | exact List.prefix_refl _
  case tku => first | exact rfl | exact ⟨rfl, rfl⟩ | exact ⟨rfl, rfl, rfl⟩ | exact fun _ => Nat.le_refl _ | exact List.prefix_refl _
  case params => first | exact rfl | exact ⟨rfl, rfl⟩ | exact ⟨rfl, rfl, rfl⟩ | exact fun _ => Nat.le_refl _ | exact List.prefix_refl _
  case stats => first | exact rfl | exact ⟨rfl, rfl⟩ | exact ⟨rfl, rfl, rfl⟩ | exact fun _ => Nat.le_refl _ | exact List.prefix_refl _
  case lnState =>
    have e := h_lnState.resolve_left fun e => by rw [show Comp.ctorIdx Comp.lnState = 18 from rfl, e] at hc; cases hc
    intro k
    rw [State.lineAt_setLine_if]
    by_cases hk : k = l
    · subst hk; rw [if_pos rfl]; first | exact e.symm | exact ⟨e.1.symm, e.2.symm⟩ | exact ⟨e.1.symm, e.2.1.symm, e.2.2.symm⟩
    · simp only [if_neg hk, and_self]
  case lnRx =>
    have e := h_lnRx.resolve_left fun e => by rw [show Comp.ctorIdx Comp.lnRx = 19 from rfl, e] at hc; cases hc
    intro k
    rw [State.lineAt_setLine_if]
    by_cases hk : k = l
    · subst hk; rw [if_pos rfl]; first | exact e.symm | exact ⟨e.1.symm, e.2.symm⟩ | exact ⟨e.1.symm, e.2.1.symm, e.2.2.symm⟩
    · simp only [if_neg hk, and_self]
  case lnRxPower =>
    have e := h_lnRxPower.resolve_left fun e => by rw [show Comp.ctorIdx Comp.lnRxPower = 20 from rfl, e] at hc; cases hc
    intro k
    rw [State.lineAt_setLine_if]
    by_cases hk : k = l
    · subst hk; rw [if_pos rfl]; first | exact e.symm | exact ⟨e.1.symm, e.2.symm⟩ | exact ⟨e.1.symm, e.2.1.symm, e.2.2.symm⟩
    · simp only [if_neg hk, and_self]
  case lnSea =>
    have e := h_lnSea.resolve_left fun e => by rw [show Comp.ctorIdx Comp.lnSea = 21 from rfl, e] at hc; cases hc
    intro k
    rw [State.lineAt_setLine_if]
    by_cases hk : k = l
    · subst hk; rw [if_pos rfl]; first | exact e.symm | exact ⟨e.1.symm, e.2.symm⟩ | exact ⟨e.1.symm, e.2.1.symm, e.2.2.symm⟩
    · simp only [if_neg hk, and_self]
  case lnSdf =>
    have e := h_lnSdf.resolve_left fun e => by rw [show Comp.ctorIdx Comp.lnSdf = 22 from rfl, e] at hc; cases hc
    intro k
    rw [State.lineAt_setLine_if]
    by_cases hk : k = l
    · subst hk; rw [if_pos rfl]; first | exact e.symm | exact ⟨e.1.symm, e.2.symm⟩ | exact ⟨e.1.symm, e.2.1.symm, e.2.2.symm⟩
    · simp only [if_neg hk, and_self]
  case lnLtx =>
    have e := h_lnLtx.resolve_left fun e => by rw [show Comp.ctorIdx Comp.lnLtx = 23 from rfl, e] at hc; cases hc
    intro k
    rw [State.lineAt_setLine_if]
    by_cases hk : k = l
    · subst hk; rw [if_pos rfl]; first | exact e.symm | exact ⟨e.1.symm, e.2.symm⟩ | exact ⟨e.1.symm, e.2.1.symm, e.2.2.symm⟩
    · simp only [if_neg hk, and_self]
  case lnPlt =>
    have e := h_lnPlt.resolve_left fun e => by rw [show Comp.ctorIdx Comp.lnPlt = 24 from rfl, e] at hc; cases hc
    intro k
    rw [State.lineAt_setLine_if]
    by_cases hk : k = l
    · subst hk; rw [if_pos rfl]; first | exact e.symm | exact ⟨e.1.symm, e.2.symm⟩ | exact ⟨e.1.symm, e.2.1.symm, e.2.2.symm⟩
    · simp only [if_neg hk, and_self]
  case lnOptics =>
    have e := h_lnOptics.resolve_left fun e => by rw [show Comp.ctorIdx Comp.lnOptics = 25 from rfl, e] at hc; cases hc
    intro k
    rw [State.lineAt_setLine_if]
    by_cases hk : k = l
    · subst hk; rw [if_pos rfl]; first | exact e.symm | exact ⟨e.1.symm, e.2.symm⟩ | exact ⟨e.1.symm, e.2.1.symm, e.2.2.symm⟩
    · simp only [if_neg hk, and_self]
  case hostRest => exact fun _ => rfl
  case hostTx => exact fun _ => rfl
  case group => first | exact rfl | exact ⟨rfl, rfl⟩ | exact ⟨rfl, rfl, rfl⟩ | exact fun _ => Nat.le_refl _ | exact List.prefix_refl _
  case port => first | exact rfl | exact ⟨rfl, rfl⟩ | exact ⟨rfl, rfl, rfl⟩ | exact fun _ => Nat.le_refl _ | exact List.prefix_refl _
  case block => first | exact rfl | exact ⟨rfl, rfl⟩ | exact ⟨rfl, rfl, rfl⟩ | exact fun _ => Nat.le_refl _ | exact List.prefix_refl _
  case eng => first | exact rfl | exact ⟨rfl, rfl⟩ | exact ⟨rfl, rfl, rfl⟩ | exact fun _ => Nat.le_refl _ | exact List.prefix_refl _
  case hinge => first | exact rfl | exact ⟨rfl, rfl⟩ | exact ⟨rfl, rfl, rfl⟩ | exact fun _ => Nat.le_refl _ | exact List.prefix_refl _
  case lex => first | exact rfl | exact ⟨rfl, rfl⟩ | exact ⟨rfl, rfl, rfl⟩ | exact fun _ => Nat.le_refl _ | exact List.prefix_refl _
  case memData => first | exact rfl | exact ⟨rfl, rfl⟩ | exact ⟨rfl, rfl, rfl⟩ | exact fun _ => Nat.le_refl _ | exact List.prefix_refl _
  case memRest => first | exact rfl | exact ⟨rfl, rfl⟩ | exact ⟨rfl, rfl, rfl⟩ | exact fun _ => Nat.le_refl _ | exact List.prefix_refl _
  case rep => first | exact rfl | exact ⟨rfl, rfl⟩ | exact ⟨rfl, rfl, rfl⟩ | exact fun _ => Nat.le_refl _ | exact List.prefix_refl _
  case ocu => first | exact rfl | exact ⟨rfl, rfl⟩ | exact ⟨rfl, rfl, rfl⟩ | exact fun _ => Nat.le_refl _ | exact List.prefix_refl _
  case cal => first | exact rfl | exact ⟨rfl, rfl⟩ | exact ⟨rfl, rfl, rfl⟩ | exact fun _ => Nat.le_refl _ | exact List.prefix_refl _
  case thm => first | exact rfl | exact ⟨rfl, rfl⟩ | exact ⟨rfl, rfl, rfl⟩ | exact fun _ => Nat.le_refl _ | exact List.prefix_refl _
  case tst => first | exact rfl | exact ⟨rfl, rfl⟩ | exact ⟨rfl, rfl, rfl⟩ | exact fun _ => Nat.le_refl _ | exact List.prefix_refl _
  case pmcCtr => first | exact rfl | exact ⟨rfl, rfl⟩ | exact ⟨rfl, rfl, rfl⟩ | exact fun _ => Nat.le_refl _ | exact List.prefix_refl _
  case pmcRest => first | exact rfl | exact ⟨rfl, rfl⟩ | exact ⟨rfl, rfl, rfl⟩ | exact fun _ => Nat.le_refl _ | exact List.prefix_refl _
  case pwr => first | exact rfl | exact ⟨rfl, rfl⟩ | exact ⟨rfl, rfl, rfl⟩ | exact fun _ => Nat.le_refl _ | exact List.prefix_refl _
  case fw => first | exact rfl | exact ⟨rfl, rfl⟩ | exact ⟨rfl, rfl, rfl⟩ | exact fun _ => Nat.le_refl _ | exact List.prefix_refl _
  case cap => first | exact rfl | exact ⟨rfl, rfl⟩ | exact ⟨rfl, rfl, rfl⟩ | exact fun _ => Nat.le_refl _ | exact List.prefix_refl _
  case outstanding => first | exact rfl | exact ⟨rfl, rfl⟩ | exact ⟨rfl, rfl, rfl⟩ | exact fun _ => Nat.le_refl _ | exact List.prefix_refl _
  case evTaken => first | exact rfl | exact ⟨rfl, rfl⟩ | exact ⟨rfl, rfl, rfl⟩ | exact fun _ => Nat.le_refl _ | exact List.prefix_refl _

theorem Keep.setHost {m : Nat} {s t : State} {l : Nat} {x : HostLane}
    (h_hostRest : m.testBit 26 = true ∨ (x.rest = (t.hostAt l).rest))
    (h_hostTx : m.testBit 27 = true ∨ (x = (t.hostAt l)))
    (h : Keep m s t) : Keep m s (t.setHost l x) := by
  refine h.trans ⟨fun c hc => ?_, fun b hb => by cases b <;> exact hb⟩
  cases c
  case pending => first | exact rfl | exact ⟨rfl, rfl⟩ | exact ⟨rfl, rfl, rfl⟩ | exact fun _ => Nat.le_refl _ | exact List.prefix_refl _
  case free => first | exact rfl | exact ⟨rfl, rfl⟩ | exact ⟨rfl, rfl, rfl⟩ | exact fun _ => Nat.le_refl _ | exact List.prefix_refl _
  case fuses => first | exact rfl | exact ⟨rfl, rfl⟩ | exact ⟨rfl, rfl, rfl⟩ | exact fun _ => Nat.le_refl _ | exact List.prefix_refl _
  case devMode => first | exact rfl | exact ⟨rfl, rfl⟩ | exact ⟨rfl, rfl, rfl⟩ | exact fun _ => Nat.le_refl _ | exact List.prefix_refl _
  case devBus => first | exact rfl | exact ⟨rfl, rfl⟩ | exact ⟨rfl, rfl, rfl⟩ | exact fun _ => Nat.le_refl _ | exact List.prefix_refl _
  case devRest => first | exact rfl | exact ⟨rfl, rfl⟩ | exact ⟨rfl, rfl, rfl⟩ | exact fun _ => Nat.le_refl _ | exact List.prefix_refl _
  case shut => first | exact rfl | exact ⟨rfl, rfl⟩ | exact ⟨rfl, rfl, rfl⟩ | exact fun _ => Nat.le_refl _ | exact List.prefix_refl _
  case mb => first | exact rfl | exact ⟨rfl, rfl⟩ | exact ⟨rfl, rfl, rfl⟩ | exact fun _ => Nat.le_refl _ | exact List.prefix_refl _
  case evRaised => first | exact rfl | exact ⟨rfl, rfl⟩ | exact ⟨rfl, rfl, rfl⟩ | exact fun _ => Nat.le_refl _ | exact List.prefix_refl _
  case evQueue => first | exact rfl | exact ⟨rfl, rfl⟩ | exact ⟨rfl, rfl, rfl⟩ | exact fun _ => Nat.le_refl _ | exact List.prefix_refl _
  case evUrgent => first | exact rfl | exact ⟨rfl, rfl⟩ | exact ⟨rfl, rfl, rfl⟩ | exact fun _ => Nat.le_refl _ | exact List.prefix_refl _
  case icu => first | exact rfl | exact ⟨rfl, rfl⟩ | exact ⟨rfl, rfl, rfl⟩ | exact fun _ => Nat.le_refl _ | exact List.prefix_refl _
  case hifL1 => first | exact rfl | exact ⟨rfl, rfl⟩ | exact ⟨rfl, rfl, rfl⟩ | exact fun _ => Nat.le_refl _ | exact List.prefix_refl _
  case hifRest => first | exact rfl | exact ⟨rfl, rfl⟩ | exact ⟨rfl, rfl, rfl⟩ | exact fun _ => Nat.le_refl _ | exact List.prefix_refl _
  case err => first | exact rfl | exact ⟨rfl, rfl⟩ | exact ⟨rfl, rfl, rfl⟩ | exact fun _ => Nat.le_refl _ | exact List.prefix_refl _
  case tku => first | exact rfl | exact ⟨rfl, rfl⟩ | exact ⟨rfl, rfl, rfl⟩ | exact fun _ => Nat.le_refl _ | exact List.prefix_refl _
  case params => first | exact rfl | exact ⟨rfl, rfl⟩ | exact ⟨rfl, rfl, rfl⟩ | exact fun _ => Nat.le_refl _ | exact List.prefix_refl _
  case stats => first | exact rfl | exact ⟨rfl, rfl⟩ | exact ⟨rfl, rfl, rfl⟩ | exact fun _ => Nat.le_refl _ | exact List.prefix_refl _
  case lnState => exact fun _ => by first | exact rfl | exact ⟨rfl, rfl⟩ | exact ⟨rfl, rfl, rfl⟩ | exact fun _ => Nat.le_refl _ | exact List.prefix_refl _
  case lnRx => exact fun _ => by first | exact rfl | exact ⟨rfl, rfl⟩ | exact ⟨rfl, rfl, rfl⟩ | exact fun _ => Nat.le_refl _ | exact List.prefix_refl _
  case lnRxPower => exact fun _ => by first | exact rfl | exact ⟨rfl, rfl⟩ | exact ⟨rfl, rfl, rfl⟩ | exact fun _ => Nat.le_refl _ | exact List.prefix_refl _
  case lnSea => exact fun _ => by first | exact rfl | exact ⟨rfl, rfl⟩ | exact ⟨rfl, rfl, rfl⟩ | exact fun _ => Nat.le_refl _ | exact List.prefix_refl _
  case lnSdf => exact fun _ => by first | exact rfl | exact ⟨rfl, rfl⟩ | exact ⟨rfl, rfl, rfl⟩ | exact fun _ => Nat.le_refl _ | exact List.prefix_refl _
  case lnLtx => exact fun _ => by first | exact rfl | exact ⟨rfl, rfl⟩ | exact ⟨rfl, rfl, rfl⟩ | exact fun _ => Nat.le_refl _ | exact List.prefix_refl _
  case lnPlt => exact fun _ => by first | exact rfl | exact ⟨rfl, rfl⟩ | exact ⟨rfl, rfl, rfl⟩ | exact fun _ => Nat.le_refl _ | exact List.prefix_refl _
  case lnOptics => exact fun _ => by first | exact rfl | exact ⟨rfl, rfl⟩ | exact ⟨rfl, rfl, rfl⟩ | exact fun _ => Nat.le_refl _ | exact List.prefix_refl _
  case hostRest =>
    have e := h_hostRest.resolve_left fun e => by rw [show Comp.ctorIdx Comp.hostRest = 26 from rfl, e] at hc; cases hc
    intro k
    rw [State.hostAt_setHost_if]
    by_cases hk : k = l
    · subst hk; rw [if_pos rfl]; exact e.symm
    · rw [if_neg hk]
  case hostTx =>
    have e := h_hostTx.resolve_left fun e => by rw [show Comp.ctorIdx Comp.hostTx = 27 from rfl, e] at hc; cases hc
    intro k
    rw [State.hostAt_setHost_if]
    by_cases hk : k = l
    · subst hk; rw [if_pos rfl]; exact e.symm
    · rw [if_neg hk]
  case group => first | exact rfl | exact ⟨rfl, rfl⟩ | exact ⟨rfl, rfl, rfl⟩ | exact fun _ => Nat.le_refl _ | exact List.prefix_refl _
  case port => first | exact rfl | exact ⟨rfl, rfl⟩ | exact ⟨rfl, rfl, rfl⟩ | exact fun _ => Nat.le_refl _ | exact List.prefix_refl _
  case block => first | exact rfl | exact ⟨rfl, rfl⟩ | exact ⟨rfl, rfl, rfl⟩ | exact fun _ => Nat.le_refl _ | exact List.prefix_refl _
  case eng => first | exact rfl | exact ⟨rfl, rfl⟩ | exact ⟨rfl, rfl, rfl⟩ | exact fun _ => Nat.le_refl _ | exact List.prefix_refl _
  case hinge => first | exact rfl | exact ⟨rfl, rfl⟩ | exact ⟨rfl, rfl, rfl⟩ | exact fun _ => Nat.le_refl _ | exact List.prefix_refl _
  case lex => first | exact rfl | exact ⟨rfl, rfl⟩ | exact ⟨rfl, rfl, rfl⟩ | exact fun _ => Nat.le_refl _ | exact List.prefix_refl _
  case memData => first | exact rfl | exact ⟨rfl, rfl⟩ | exact ⟨rfl, rfl, rfl⟩ | exact fun _ => Nat.le_refl _ | exact List.prefix_refl _
  case memRest => first | exact rfl | exact ⟨rfl, rfl⟩ | exact ⟨rfl, rfl, rfl⟩ | exact fun _ => Nat.le_refl _ | exact List.prefix_refl _
  case rep => first | exact rfl | exact ⟨rfl, rfl⟩ | exact ⟨rfl, rfl, rfl⟩ | exact fun _ => Nat.le_refl _ | exact List.prefix_refl _
  case ocu => first | exact rfl | exact ⟨rfl, rfl⟩ | exact ⟨rfl, rfl, rfl⟩ | exact fun _ => Nat.le_refl _ | exact List.prefix_refl _
  case cal => first | exact rfl | exact ⟨rfl, rfl⟩ | exact ⟨rfl, rfl, rfl⟩ | exact fun _ => Nat.le_refl _ | exact List.prefix_refl _
  case thm => first | exact rfl | exact ⟨rfl, rfl⟩ | exact ⟨rfl, rfl, rfl⟩ | exact fun _ => Nat.le_refl _ | exact List.prefix_refl _
  case tst => first | exact rfl | exact ⟨rfl, rfl⟩ | exact ⟨rfl, rfl, rfl⟩ | exact fun _ => Nat.le_refl _ | exact List.prefix_refl _
  case pmcCtr => first | exact rfl | exact ⟨rfl, rfl⟩ | exact ⟨rfl, rfl, rfl⟩ | exact fun _ => Nat.le_refl _ | exact List.prefix_refl _
  case pmcRest => first | exact rfl | exact ⟨rfl, rfl⟩ | exact ⟨rfl, rfl, rfl⟩ | exact fun _ => Nat.le_refl _ | exact List.prefix_refl _
  case pwr => first | exact rfl | exact ⟨rfl, rfl⟩ | exact ⟨rfl, rfl, rfl⟩ | exact fun _ => Nat.le_refl _ | exact List.prefix_refl _
  case fw => first | exact rfl | exact ⟨rfl, rfl⟩ | exact ⟨rfl, rfl, rfl⟩ | exact fun _ => Nat.le_refl _ | exact List.prefix_refl _
  case cap => first | exact rfl | exact ⟨rfl, rfl⟩ | exact ⟨rfl, rfl, rfl⟩ | exact fun _ => Nat.le_refl _ | exact List.prefix_refl _
  case outstanding => first | exact rfl | exact ⟨rfl, rfl⟩ | exact ⟨rfl, rfl, rfl⟩ | exact fun _ => Nat.le_refl _ | exact List.prefix_refl _
  case evTaken => first | exact rfl | exact ⟨rfl, rfl⟩ | exact ⟨rfl, rfl, rfl⟩ | exact fun _ => Nat.le_refl _ | exact List.prefix_refl _

/-- A write of statistics whose live counts stay within 36 bits. -/
theorem Keep.setStats {m : Nat} {s t : State} {x : Tbl Stat} (hm : m.testBit 17 = true)
    (hb : (∀ p ∈ t.stats, p.2.live ≤ max36) → ∀ p ∈ x, p.2.live ≤ max36)
    (h : Keep m s t) : Keep m s { t with stats := x } := by
  refine h.trans ⟨fun c hc => ?_, fun b hb' => ?_⟩
  · cases c
    case stats => rw [show Comp.ctorIdx Comp.stats = 17 from rfl, hm] at hc; cases hc
    all_goals first | exact rfl | exact ⟨rfl, rfl, rfl⟩ | exact fun _ => rfl | exact fun _ => ⟨rfl, rfl⟩ | exact fun _ => ⟨rfl, rfl, rfl⟩ | exact fun _ => Nat.le_refl _ | exact List.prefix_refl _
  · cases b
    case stats => exact hb hb'
    all_goals exact hb'

end Sys2Proof.Machine
end

