-- ==== Sys2Proof/Laws/Leaf.lean ====
section
/-! SUPPORT. `Keep` for the updates of one field of the state and for the named lookups' updates (`Machine/Ops.lean`,
`Machine/Flags.lean`, `Machine/Operands.lean`). -/

set_option linter.unusedTactic false
set_option linter.unreachableTactic false
set_option linter.unnecessarySeqFocus false
set_option linter.unusedVariables false
set_option linter.unusedSimpArgs false

namespace Sys2Proof.Machine

variable {m : Nat} {s t : State}

/-! The updates of one field, as functions. -/

def State.withPending (t : State) (x : List Instr) : State := { t with pending := x }
theorem State.fold_pending (t : State) (x : List Instr) :
    State.mk x t.free t.fuses t.dev t.shut t.mb t.ev t.icu t.hif t.err t.tku t.params t.stats t.line t.host t.group t.port t.block t.eng t.hinge t.lex t.mem t.rep t.ocu t.cal t.thm t.tst t.pmc t.pwr t.fw t.cap = t.withPending x := rfl

def State.withFree (t : State) (x : Nat) : State := { t with free := x }
theorem State.fold_free (t : State) (x : Nat) :
    State.mk t.pending x t.fuses t.dev t.shut t.mb t.ev t.icu t.hif t.err t.tku t.params t.stats t.line t.host t.group t.port t.block t.eng t.hinge t.lex t.mem t.rep t.ocu t.cal t.thm t.tst t.pmc t.pwr t.fw t.cap = t.withFree x := rfl

def State.withDev (t : State) (x : Dev) : State := { t with dev := x }
theorem State.fold_dev (t : State) (x : Dev) :
    State.mk t.pending t.free t.fuses x t.shut t.mb t.ev t.icu t.hif t.err t.tku t.params t.stats t.line t.host t.group t.port t.block t.eng t.hinge t.lex t.mem t.rep t.ocu t.cal t.thm t.tst t.pmc t.pwr t.fw t.cap = t.withDev x := rfl

def State.withShut (t : State) (x : Shut) : State := { t with shut := x }
theorem State.fold_shut (t : State) (x : Shut) :
    State.mk t.pending t.free t.fuses t.dev x t.mb t.ev t.icu t.hif t.err t.tku t.params t.stats t.line t.host t.group t.port t.block t.eng t.hinge t.lex t.mem t.rep t.ocu t.cal t.thm t.tst t.pmc t.pwr t.fw t.cap = t.withShut x := rfl

def State.withMb (t : State) (x : Mb) : State := { t with mb := x }
theorem State.fold_mb (t : State) (x : Mb) :
    State.mk t.pending t.free t.fuses t.dev t.shut x t.ev t.icu t.hif t.err t.tku t.params t.stats t.line t.host t.group t.port t.block t.eng t.hinge t.lex t.mem t.rep t.ocu t.cal t.thm t.tst t.pmc t.pwr t.fw t.cap = t.withMb x := rfl

def State.withEv (t : State) (x : Evs) : State := { t with ev := x }
theorem State.fold_ev (t : State) (x : Evs) :
    State.mk t.pending t.free t.fuses t.dev t.shut t.mb x t.icu t.hif t.err t.tku t.params t.stats t.line t.host t.group t.port t.block t.eng t.hinge t.lex t.mem t.rep t.ocu t.cal t.thm t.tst t.pmc t.pwr t.fw t.cap = t.withEv x := rfl

def State.withIcu (t : State) (x : Tbl Icu) : State := { t with icu := x }
theorem State.fold_icu (t : State) (x : Tbl Icu) :
    State.mk t.pending t.free t.fuses t.dev t.shut t.mb t.ev x t.hif t.err t.tku t.params t.stats t.line t.host t.group t.port t.block t.eng t.hinge t.lex t.mem t.rep t.ocu t.cal t.thm t.tst t.pmc t.pwr t.fw t.cap = t.withIcu x := rfl

def State.withHif (t : State) (x : Hif) : State := { t with hif := x }
theorem State.fold_hif (t : State) (x : Hif) :
    State.mk t.pending t.free t.fuses t.dev t.shut t.mb t.ev t.icu x t.err t.tku t.params t.stats t.line t.host t.group t.port t.block t.eng t.hinge t.lex t.mem t.rep t.ocu t.cal t.thm t.tst t.pmc t.pwr t.fw t.cap = t.withHif x := rfl

def State.withErr (t : State) (x : Err) : State := { t with err := x }
theorem State.fold_err (t : State) (x : Err) :
    State.mk t.pending t.free t.fuses t.dev t.shut t.mb t.ev t.icu t.hif x t.tku t.params t.stats t.line t.host t.group t.port t.block t.eng t.hinge t.lex t.mem t.rep t.ocu t.cal t.thm t.tst t.pmc t.pwr t.fw t.cap = t.withErr x := rfl

def State.withTku (t : State) (x : Tku) : State := { t with tku := x }
theorem State.fold_tku (t : State) (x : Tku) :
    State.mk t.pending t.free t.fuses t.dev t.shut t.mb t.ev t.icu t.hif t.err x t.params t.stats t.line t.host t.group t.port t.block t.eng t.hinge t.lex t.mem t.rep t.ocu t.cal t.thm t.tst t.pmc t.pwr t.fw t.cap = t.withTku x := rfl

def State.withParams (t : State) (x : Tbl Word) : State := { t with params := x }
theorem State.fold_params (t : State) (x : Tbl Word) :
    State.mk t.pending t.free t.fuses t.dev t.shut t.mb t.ev t.icu t.hif t.err t.tku x t.stats t.line t.host t.group t.port t.block t.eng t.hinge t.lex t.mem t.rep t.ocu t.cal t.thm t.tst t.pmc t.pwr t.fw t.cap = t.withParams x := rfl

def State.withStats (t : State) (x : Tbl Stat) : State := { t with stats := x }
theorem State.fold_stats (t : State) (x : Tbl Stat) :
    State.mk t.pending t.free t.fuses t.dev t.shut t.mb t.ev t.icu t.hif t.err t.tku t.params x t.line t.host t.group t.port t.block t.eng t.hinge t.lex t.mem t.rep t.ocu t.cal t.thm t.tst t.pmc t.pwr t.fw t.cap = t.withStats x := rfl

def State.withGroup (t : State) (x : Tbl Group) : State := { t with group := x }
theorem State.fold_group (t : State) (x : Tbl Group) :
    State.mk t.pending t.free t.fuses t.dev t.shut t.mb t.ev t.icu t.hif t.err t.tku t.params t.stats t.line t.host x t.port t.block t.eng t.hinge t.lex t.mem t.rep t.ocu t.cal t.thm t.tst t.pmc t.pwr t.fw t.cap = t.withGroup x := rfl

def State.withPort (t : State) (x : Tbl Port) : State := { t with port := x }
theorem State.fold_port (t : State) (x : Tbl Port) :
    State.mk t.pending t.free t.fuses t.dev t.shut t.mb t.ev t.icu t.hif t.err t.tku t.params t.stats t.line t.host t.group x t.block t.eng t.hinge t.lex t.mem t.rep t.ocu t.cal t.thm t.tst t.pmc t.pwr t.fw t.cap = t.withPort x := rfl

def State.withBlock (t : State) (x : Tbl Block) : State := { t with block := x }
theorem State.fold_block (t : State) (x : Tbl Block) :
    State.mk t.pending t.free t.fuses t.dev t.shut t.mb t.ev t.icu t.hif t.err t.tku t.params t.stats t.line t.host t.group t.port x t.eng t.hinge t.lex t.mem t.rep t.ocu t.cal t.thm t.tst t.pmc t.pwr t.fw t.cap = t.withBlock x := rfl

def State.withEng (t : State) (x : Tbl Engine) : State := { t with eng := x }
theorem State.fold_eng (t : State) (x : Tbl Engine) :
    State.mk t.pending t.free t.fuses t.dev t.shut t.mb t.ev t.icu t.hif t.err t.tku t.params t.stats t.line t.host t.group t.port t.block x t.hinge t.lex t.mem t.rep t.ocu t.cal t.thm t.tst t.pmc t.pwr t.fw t.cap = t.withEng x := rfl

def State.withHinge (t : State) (x : Hinge) : State := { t with hinge := x }
theorem State.fold_hinge (t : State) (x : Hinge) :
    State.mk t.pending t.free t.fuses t.dev t.shut t.mb t.ev t.icu t.hif t.err t.tku t.params t.stats t.line t.host t.group t.port t.block t.eng x t.lex t.mem t.rep t.ocu t.cal t.thm t.tst t.pmc t.pwr t.fw t.cap = t.withHinge x := rfl

def State.withLex (t : State) (x : Lex) : State := { t with lex := x }
theorem State.fold_lex (t : State) (x : Lex) :
    State.mk t.pending t.free t.fuses t.dev t.shut t.mb t.ev t.icu t.hif t.err t.tku t.params t.stats t.line t.host t.group t.port t.block t.eng t.hinge x t.mem t.rep t.ocu t.cal t.thm t.tst t.pmc t.pwr t.fw t.cap = t.withLex x := rfl

def State.withMem (t : State) (x : Mem) : State := { t with mem := x }
theorem State.fold_mem (t : State) (x : Mem) :
    State.mk t.pending t.free t.fuses t.dev t.shut t.mb t.ev t.icu t.hif t.err t.tku t.params t.stats t.line t.host t.group t.port t.block t.eng t.hinge t.lex x t.rep t.ocu t.cal t.thm t.tst t.pmc t.pwr t.fw t.cap = t.withMem x := rfl

def State.withRep (t : State) (x : Rep) : State := { t with rep := x }
theorem State.fold_rep (t : State) (x : Rep) :
    State.mk t.pending t.free t.fuses t.dev t.shut t.mb t.ev t.icu t.hif t.err t.tku t.params t.stats t.line t.host t.group t.port t.block t.eng t.hinge t.lex t.mem x t.ocu t.cal t.thm t.tst t.pmc t.pwr t.fw t.cap = t.withRep x := rfl

def State.withOcu (t : State) (x : Ocu) : State := { t with ocu := x }
theorem State.fold_ocu (t : State) (x : Ocu) :
    State.mk t.pending t.free t.fuses t.dev t.shut t.mb t.ev t.icu t.hif t.err t.tku t.params t.stats t.line t.host t.group t.port t.block t.eng t.hinge t.lex t.mem t.rep x t.cal t.thm t.tst t.pmc t.pwr t.fw t.cap = t.withOcu x := rfl

def State.withCal (t : State) (x : Tbl Cal) : State := { t with cal := x }
theorem State.fold_cal (t : State) (x : Tbl Cal) :
    State.mk t.pending t.free t.fuses t.dev t.shut t.mb t.ev t.icu t.hif t.err t.tku t.params t.stats t.line t.host t.group t.port t.block t.eng t.hinge t.lex t.mem t.rep t.ocu x t.thm t.tst t.pmc t.pwr t.fw t.cap = t.withCal x := rfl

def State.withThm (t : State) (x : Thm) : State := { t with thm := x }
theorem State.fold_thm (t : State) (x : Thm) :
    State.mk t.pending t.free t.fuses t.dev t.shut t.mb t.ev t.icu t.hif t.err t.tku t.params t.stats t.line t.host t.group t.port t.block t.eng t.hinge t.lex t.mem t.rep t.ocu t.cal x t.tst t.pmc t.pwr t.fw t.cap = t.withThm x := rfl

def State.withTst (t : State) (x : Tst) : State := { t with tst := x }
theorem State.fold_tst (t : State) (x : Tst) :
    State.mk t.pending t.free t.fuses t.dev t.shut t.mb t.ev t.icu t.hif t.err t.tku t.params t.stats t.line t.host t.group t.port t.block t.eng t.hinge t.lex t.mem t.rep t.ocu t.cal t.thm x t.pmc t.pwr t.fw t.cap = t.withTst x := rfl

def State.withPmc (t : State) (x : Pmcs) : State := { t with pmc := x }
theorem State.fold_pmc (t : State) (x : Pmcs) :
    State.mk t.pending t.free t.fuses t.dev t.shut t.mb t.ev t.icu t.hif t.err t.tku t.params t.stats t.line t.host t.group t.port t.block t.eng t.hinge t.lex t.mem t.rep t.ocu t.cal t.thm t.tst x t.pwr t.fw t.cap = t.withPmc x := rfl

def State.withPwr (t : State) (x : Pwr) : State := { t with pwr := x }
theorem State.fold_pwr (t : State) (x : Pwr) :
    State.mk t.pending t.free t.fuses t.dev t.shut t.mb t.ev t.icu t.hif t.err t.tku t.params t.stats t.line t.host t.group t.port t.block t.eng t.hinge t.lex t.mem t.rep t.ocu t.cal t.thm t.tst t.pmc x t.fw t.cap = t.withPwr x := rfl

def State.withFw (t : State) (x : Fw) : State := { t with fw := x }
theorem State.fold_fw (t : State) (x : Fw) :
    State.mk t.pending t.free t.fuses t.dev t.shut t.mb t.ev t.icu t.hif t.err t.tku t.params t.stats t.line t.host t.group t.port t.block t.eng t.hinge t.lex t.mem t.rep t.ocu t.cal t.thm t.tst t.pmc t.pwr x t.cap = t.withFw x := rfl

def State.withCap (t : State) (x : Cap) : State := { t with cap := x }
theorem State.fold_cap (t : State) (x : Cap) :
    State.mk t.pending t.free t.fuses t.dev t.shut t.mb t.ev t.icu t.hif t.err t.tku t.params t.stats t.line t.host t.group t.port t.block t.eng t.hinge t.lex t.mem t.rep t.ocu t.cal t.thm t.tst t.pmc t.pwr t.fw x = t.withCap x := rfl

theorem Keep.set_pending {x : List Instr} (hm : m.testBit 0 = true) (h : Keep m s t) :
    Keep m s (t.withPending x) :=
  .upd rfl rfl rfl rfl (.inl hm) (.inr rfl) (.inr rfl) (.inr rfl) (.inr rfl) (.inr rfl) (.inr rfl) (.inr rfl) (.inr rfl) (.inr rfl) (.inr rfl) (.inr rfl) (.inr rfl) (.inr rfl) (.inr rfl) (.inr rfl) (.inr rfl) (.inr rfl) (.inr rfl) (.inr rfl) (.inr rfl) (.inr rfl) (.inr ⟨rfl, rfl, rfl⟩) (.inr rfl) (.inr rfl) (.inr rfl) (.inr rfl) (.inr rfl) (.inr rfl) (.inr rfl) (.inr rfl) (.inr rfl) (.inr rfl) (.inr rfl) (.inr fun _ => Nat.le_refl _) (.inr (List.prefix_refl _)) id id id id id id h

theorem Keep.set_free {x : Nat} (hm : m.testBit 1 = true) (h : Keep m s t) :
    Keep m s (t.withFree x) :=
  .upd rfl rfl rfl rfl (.inr rfl) (.inl hm) (.inr rfl) (.inr rfl) (.inr rfl) (.inr rfl) (.inr rfl) (.inr rfl) (.inr rfl) (.inr rfl) (.inr rfl) (.inr rfl) (.inr rfl) (.inr rfl) (.inr rfl) (.inr rfl) (.inr rfl) (.inr rfl) (.inr rfl) (.inr rfl) (.inr rfl) (.inr rfl) (.inr ⟨rfl, rfl, rfl⟩) (.inr rfl) (.inr rfl) (.inr rfl) (.inr rfl) (.inr rfl) (.inr rfl) (.inr rfl) (.inr rfl) (.inr rfl) (.inr rfl) (.inr rfl) (.inr fun _ => Nat.le_refl _) (.inr (List.prefix_refl _)) id id id id id id h

theorem Keep.set_shut {x : Shut} (hm : m.testBit 6 = true) (h : Keep m s t) :
    Keep m s (t.withShut x) :=
  .upd rfl rfl rfl rfl (.inr rfl) (.inr rfl) (.inl hm) (.inr rfl) (.inr rfl) (.inr rfl) (.inr rfl) (.inr rfl) (.inr rfl) (.inr rfl) (.inr rfl) (.inr rfl) (.inr rfl) (.inr rfl) (.inr rfl) (.inr rfl) (.inr rfl) (.inr rfl) (.inr rfl) (.inr rfl) (.inr rfl) (.inr rfl) (.inr ⟨rfl, rfl, rfl⟩) (.inr rfl) (.inr rfl) (.inr rfl) (.inr rfl) (.inr rfl) (.inr rfl) (.inr rfl) (.inr rfl) (.inr rfl) (.inr rfl) (.inr rfl) (.inr fun _ => Nat.le_refl _) (.inr (List.prefix_refl _)) id id id id id id h

theorem Keep.set_icu {x : Tbl Icu} (hm : m.testBit 11 = true) (h : Keep m s t) :
    Keep m s (t.withIcu x) :=
  .upd rfl rfl rfl rfl (.inr rfl) (.inr rfl) (.inr rfl) (.inr rfl) (.inl hm) (.inr rfl) (.inr rfl) (.inr rfl) (.inr rfl) (.inr rfl) (.inr rfl) (.inr rfl) (.inr rfl) (.inr rfl) (.inr rfl) (.inr rfl) (.inr rfl) (.inr rfl) (.inr rfl) (.inr rfl) (.inr rfl) (.inr rfl) (.inr ⟨rfl, rfl, rfl⟩) (.inr rfl) (.inr rfl) (.inr rfl) (.inr rfl) (.inr rfl) (.inr rfl) (.inr rfl) (.inr rfl) (.inr rfl) (.inr rfl) (.inr rfl) (.inr fun _ => Nat.le_refl _) (.inr (List.prefix_refl _)) id id id id id id h

theorem Keep.set_err {x : Err} (hm : m.testBit 14 = true) (h : Keep m s t) :
    Keep m s (t.withErr x) :=
  .upd rfl rfl rfl rfl (.inr rfl) (.inr rfl) (.inr rfl) (.inr rfl) (.inr rfl) (.inl hm) (.inr rfl) (.inr rfl) (.inr rfl) (.inr rfl) (.inr rfl) (.inr rfl) (.inr rfl) (.inr rfl) (.inr rfl) (.inr rfl) (.inr rfl) (.inr rfl) (.inr rfl) (.inr rfl) (.inr rfl) (.inr rfl) (.inr ⟨rfl, rfl, rfl⟩) (.inr rfl) (.inr rfl) (.inr rfl) (.inr rfl) (.inr rfl) (.inr rfl) (.inr rfl) (.inr rfl) (.inr rfl) (.inr rfl) (.inr rfl) (.inr fun _ => Nat.le_refl _) (.inr (List.prefix_refl _)) id id id id id id h

theorem Keep.set_tku {x : Tku} (hm : m.testBit 15 = true) (h : Keep m s t) :
    Keep m s (t.withTku x) :=
  .upd rfl rfl rfl rfl (.inr rfl) (.inr rfl) (.inr rfl) (.inr rfl) (.inr rfl) (.inr rfl) (.inl hm) (.inr rfl) (.inr rfl) (.inr rfl) (.inr rfl) (.inr rfl) (.inr rfl) (.inr rfl) (.inr rfl) (.inr rfl) (.inr rfl) (.inr rfl) (.inr rfl) (.inr rfl) (.inr rfl) (.inr rfl) (.inr ⟨rfl, rfl, rfl⟩) (.inr rfl) (.inr rfl) (.inr rfl) (.inr rfl) (.inr rfl) (.inr rfl) (.inr rfl) (.inr rfl) (.inr rfl) (.inr rfl) (.inr rfl) (.inr fun _ => Nat.le_refl _) (.inr (List.prefix_refl _)) id id id id id id h

theorem Keep.set_params {x : Tbl Word} (hm : m.testBit 16 = true) (h : Keep m s t) :
    Keep m s (t.withParams x) :=
  .upd rfl rfl rfl rfl (.inr rfl) (.inr rfl) (.inr rfl) (.inr rfl) (.inr rfl) (.inr rfl) (.inr rfl) (.inl hm) (.inr rfl) (.inr rfl) (.inr rfl) (.inr rfl) (.inr rfl) (.inr rfl) (.inr rfl) (.inr rfl) (.inr rfl) (.inr rfl) (.inr rfl) (.inr rfl) (.inr rfl) (.inr rfl) (.inr ⟨rfl, rfl, rfl⟩) (.inr rfl) (.inr rfl) (.inr rfl) (.inr rfl) (.inr rfl) (.inr rfl) (.inr rfl) (.inr rfl) (.inr rfl) (.inr rfl) (.inr rfl) (.inr fun _ => Nat.le_refl _) (.inr (List.prefix_refl _)) id id id id id id h

theorem Keep.set_group {x : Tbl Group} (hm : m.testBit 28 = true) (h : Keep m s t) :
    Keep m s (t.withGroup x) :=
  .upd rfl rfl rfl rfl (.inr rfl) (.inr rfl) (.inr rfl) (.inr rfl) (.inr rfl) (.inr rfl) (.inr rfl) (.inr rfl) (.inl hm) (.inr rfl) (.inr rfl) (.inr rfl) (.inr rfl) (.inr rfl) (.inr rfl) (.inr rfl) (.inr rfl) (.inr rfl) (.inr rfl) (.inr rfl) (.inr rfl) (.inr rfl) (.inr ⟨rfl, rfl, rfl⟩) (.inr rfl) (.inr rfl) (.inr rfl) (.inr rfl) (.inr rfl) (.inr rfl) (.inr rfl) (.inr rfl) (.inr rfl) (.inr rfl) (.inr rfl) (.inr fun _ => Nat.le_refl _) (.inr (List.prefix_refl _)) id id id id id id h

theorem Keep.set_port {x : Tbl Port} (hm : m.testBit 29 = true) (h : Keep m s t) :
    Keep m s (t.withPort x) :=
  .upd rfl rfl rfl rfl (.inr rfl) (.inr rfl) (.inr rfl) (.inr rfl) (.inr rfl) (.inr rfl) (.inr rfl) (.inr rfl) (.inr rfl) (.inl hm) (.inr rfl) (.inr rfl) (.inr rfl) (.inr rfl) (.inr rfl) (.inr rfl) (.inr rfl) (.inr rfl) (.inr rfl) (.inr rfl) (.inr rfl) (.inr rfl) (.inr ⟨rfl, rfl, rfl⟩) (.inr rfl) (.inr rfl) (.inr rfl) (.inr rfl) (.inr rfl) (.inr rfl) (.inr rfl) (.inr rfl) (.inr rfl) (.inr rfl) (.inr rfl) (.inr fun _ => Nat.le_refl _) (.inr (List.prefix_refl _)) id id id id id id h

theorem Keep.set_block {x : Tbl Block} (hm : m.testBit 30 = true) (h : Keep m s t) :
    Keep m s (t.withBlock x) :=
  .upd rfl rfl rfl rfl (.inr rfl) (.inr rfl) (.inr rfl) (.inr rfl) (.inr rfl) (.inr rfl) (.inr rfl) (.inr rfl) (.inr rfl) (.inr rfl) (.inl hm) (.inr rfl) (.inr rfl) (.inr rfl) (.inr rfl) (.inr rfl) (.inr rfl) (.inr rfl) (.inr rfl) (.inr rfl) (.inr rfl) (.inr rfl) (.inr ⟨rfl, rfl, rfl⟩) (.inr rfl) (.inr rfl) (.inr rfl) (.inr rfl) (.inr rfl) (.inr rfl) (.inr rfl) (.inr rfl) (.inr rfl) (.inr rfl) (.inr rfl) (.inr fun _ => Nat.le_refl _) (.inr (List.prefix_refl _)) id id id id id id h

theorem Keep.set_eng {x : Tbl Engine} (hm : m.testBit 31 = true) (h : Keep m s t) :
    Keep m s (t.withEng x) :=
  .upd rfl rfl rfl rfl (.inr rfl) (.inr rfl) (.inr rfl) (.inr rfl) (.inr rfl) (.inr rfl) (.inr rfl) (.inr rfl) (.inr rfl) (.inr rfl) (.inr rfl) (.inl hm) (.inr rfl) (.inr rfl) (.inr rfl) (.inr rfl) (.inr rfl) (.inr rfl) (.inr rfl) (.inr rfl) (.inr rfl) (.inr rfl) (.inr ⟨rfl, rfl, rfl⟩) (.inr rfl) (.inr rfl) (.inr rfl) (.inr rfl) (.inr rfl) (.inr rfl) (.inr rfl) (.inr rfl) (.inr rfl) (.inr rfl) (.inr rfl) (.inr fun _ => Nat.le_refl _) (.inr (List.prefix_refl _)) id id id id id id h

theorem Keep.set_hinge {x : Hinge} (hm : m.testBit 32 = true) (h : Keep m s t) :
    Keep m s (t.withHinge x) :=
  .upd rfl rfl rfl rfl (.inr rfl) (.inr rfl) (.inr rfl) (.inr rfl) (.inr rfl) (.inr rfl) (.inr rfl) (.inr rfl) (.inr rfl) (.inr rfl) (.inr rfl) (.inr rfl) (.inl hm) (.inr rfl) (.inr rfl) (.inr rfl) (.inr rfl) (.inr rfl) (.inr rfl) (.inr rfl) (.inr rfl) (.inr rfl) (.inr ⟨rfl, rfl, rfl⟩) (.inr rfl) (.inr rfl) (.inr rfl) (.inr rfl) (.inr rfl) (.inr rfl) (.inr rfl) (.inr rfl) (.inr rfl) (.inr rfl) (.inr rfl) (.inr fun _ => Nat.le_refl _) (.inr (List.prefix_refl _)) id id id id id id h

theorem Keep.set_lex {x : Lex} (hm : m.testBit 33 = true) (h : Keep m s t) :
    Keep m s (t.withLex x) :=
  .upd rfl rfl rfl rfl (.inr rfl) (.inr rfl) (.inr rfl) (.inr rfl) (.inr rfl) (.inr rfl) (.inr rfl) (.inr rfl) (.inr rfl) (.inr rfl) (.inr rfl) (.inr rfl) (.inr rfl) (.inl hm) (.inr rfl) (.inr rfl) (.inr rfl) (.inr rfl) (.inr rfl) (.inr rfl) (.inr rfl) (.inr rfl) (.inr ⟨rfl, rfl, rfl⟩) (.inr rfl) (.inr rfl) (.inr rfl) (.inr rfl) (.inr rfl) (.inr rfl) (.inr rfl) (.inr rfl) (.inr rfl) (.inr rfl) (.inr rfl) (.inr fun _ => Nat.le_refl _) (.inr (List.prefix_refl _)) id id id id id id h

theorem Keep.set_ocu {x : Ocu} (hm : m.testBit 37 = true) (h : Keep m s t) :
    Keep m s (t.withOcu x) :=
  .upd rfl rfl rfl rfl (.inr rfl) (.inr rfl) (.inr rfl) (.inr rfl) (.inr rfl) (.inr rfl) (.inr rfl) (.inr rfl) (.inr rfl) (.inr rfl) (.inr rfl) (.inr rfl) (.inr rfl) (.inr rfl) (.inr rfl) (.inl hm) (.inr rfl) (.inr rfl) (.inr rfl) (.inr rfl) (.inr rfl) (.inr rfl) (.inr ⟨rfl, rfl, rfl⟩) (.inr rfl) (.inr rfl) (.inr rfl) (.inr rfl) (.inr rfl) (.inr rfl) (.inr rfl) (.inr rfl) (.inr rfl) (.inr rfl) (.inr rfl) (.inr fun _ => Nat.le_refl _) (.inr (List.prefix_refl _)) id id id id id id h

theorem Keep.set_cal {x : Tbl Cal} (hm : m.testBit 38 = true) (h : Keep m s t) :
    Keep m s (t.withCal x) :=
  .upd rfl rfl rfl rfl (.inr rfl) (.inr rfl) (.inr rfl) (.inr rfl) (.inr rfl) (.inr rfl) (.inr rfl) (.inr rfl) (.inr rfl) (.inr rfl) (.inr rfl) (.inr rfl) (.inr rfl) (.inr rfl) (.inr rfl) (.inr rfl) (.inl hm) (.inr rfl) (.inr rfl) (.inr rfl) (.inr rfl) (.inr rfl) (.inr ⟨rfl, rfl, rfl⟩) (.inr rfl) (.inr rfl) (.inr rfl) (.inr rfl) (.inr rfl) (.inr rfl) (.inr rfl) (.inr rfl) (.inr rfl) (.inr rfl) (.inr rfl) (.inr fun _ => Nat.le_refl _) (.inr (List.prefix_refl _)) id id id id id id h

theorem Keep.set_thm {x : Thm} (hm : m.testBit 39 = true) (h : Keep m s t) :
    Keep m s (t.withThm x) :=
  .upd rfl rfl rfl rfl (.inr rfl) (.inr rfl) (.inr rfl) (.inr rfl) (.inr rfl) (.inr rfl) (.inr rfl) (.inr rfl) (.inr rfl) (.inr rfl) (.inr rfl) (.inr rfl) (.inr rfl) (.inr rfl) (.inr rfl) (.inr rfl) (.inr rfl) (.inl hm) (.inr rfl) (.inr rfl) (.inr rfl) (.inr rfl) (.inr ⟨rfl, rfl, rfl⟩) (.inr rfl) (.inr rfl) (.inr rfl) (.inr rfl) (.inr rfl) (.inr rfl) (.inr rfl) (.inr rfl) (.inr rfl) (.inr rfl) (.inr rfl) (.inr fun _ => Nat.le_refl _) (.inr (List.prefix_refl _)) id id id id id id h

theorem Keep.set_tst {x : Tst} (hm : m.testBit 40 = true) (h : Keep m s t) :
    Keep m s (t.withTst x) :=
  .upd rfl rfl rfl rfl (.inr rfl) (.inr rfl) (.inr rfl) (.inr rfl) (.inr rfl) (.inr rfl) (.inr rfl) (.inr rfl) (.inr rfl) (.inr rfl) (.inr rfl) (.inr rfl) (.inr rfl) (.inr rfl) (.inr rfl) (.inr rfl) (.inr rfl) (.inr rfl) (.inl hm) (.inr rfl) (.inr rfl) (.inr rfl) (.inr ⟨rfl, rfl, rfl⟩) (.inr rfl) (.inr rfl) (.inr rfl) (.inr rfl) (.inr rfl) (.inr rfl) (.inr rfl) (.inr rfl) (.inr rfl) (.inr rfl) (.inr rfl) (.inr fun _ => Nat.le_refl _) (.inr (List.prefix_refl _)) id id id id id id h

theorem Keep.set_pwr {x : Pwr} (hm : m.testBit 43 = true) (h : Keep m s t) :
    Keep m s (t.withPwr x) :=
  .upd rfl rfl rfl rfl (.inr rfl) (.inr rfl) (.inr rfl) (.inr rfl) (.inr rfl) (.inr rfl) (.inr rfl) (.inr rfl) (.inr rfl) (.inr rfl) (.inr rfl) (.inr rfl) (.inr rfl) (.inr rfl) (.inr rfl) (.inr rfl) (.inr rfl) (.inr rfl) (.inr rfl) (.inl hm) (.inr rfl) (.inr rfl) (.inr ⟨rfl, rfl, rfl⟩) (.inr rfl) (.inr rfl) (.inr rfl) (.inr rfl) (.inr rfl) (.inr rfl) (.inr rfl) (.inr rfl) (.inr rfl) (.inr rfl) (.inr rfl) (.inr fun _ => Nat.le_refl _) (.inr (List.prefix_refl _)) id id id id id id h

theorem Keep.set_fw {x : Fw} (hm : m.testBit 44 = true) (h : Keep m s t) :
    Keep m s (t.withFw x) :=
  .upd rfl rfl rfl rfl (.inr rfl) (.inr rfl) (.inr rfl) (.inr rfl) (.inr rfl) (.inr rfl) (.inr rfl) (.inr rfl) (.inr rfl) (.inr rfl) (.inr rfl) (.inr rfl) (.inr rfl) (.inr rfl) (.inr rfl) (.inr rfl) (.inr rfl) (.inr rfl) (.inr rfl) (.inr rfl) (.inl hm) (.inr rfl) (.inr ⟨rfl, rfl, rfl⟩) (.inr rfl) (.inr rfl) (.inr rfl) (.inr rfl) (.inr rfl) (.inr rfl) (.inr rfl) (.inr rfl) (.inr rfl) (.inr rfl) (.inr rfl) (.inr fun _ => Nat.le_refl _) (.inr (List.prefix_refl _)) id id id id id id h

theorem Keep.set_cap {x : Cap} (hm : m.testBit 45 = true) (h : Keep m s t) :
    Keep m s (t.withCap x) :=
  .upd rfl rfl rfl rfl (.inr rfl) (.inr rfl) (.inr rfl) (.inr rfl) (.inr rfl) (.inr rfl) (.inr rfl) (.inr rfl) (.inr rfl) (.inr rfl) (.inr rfl) (.inr rfl) (.inr rfl) (.inr rfl) (.inr rfl) (.inr rfl) (.inr rfl) (.inr rfl) (.inr rfl) (.inr rfl) (.inr rfl) (.inl hm) (.inr ⟨rfl, rfl, rfl⟩) (.inr rfl) (.inr rfl) (.inr rfl) (.inr rfl) (.inr rfl) (.inr rfl) (.inr rfl) (.inr rfl) (.inr rfl) (.inr rfl) (.inr rfl) (.inr fun _ => Nat.le_refl _) (.inr (List.prefix_refl _)) id id id id id id h

theorem Keep.set_mb {x : Mb} (hm : m.testBit 7 = true) (hx : x.outstanding = t.mb.outstanding) (h : Keep m s t) :
    Keep m s (t.withMb x) :=
  .upd rfl rfl rfl rfl (.inr rfl) (.inr rfl) (.inr rfl) (.inl hm) (.inr rfl) (.inr rfl) (.inr rfl) (.inr rfl) (.inr rfl) (.inr rfl) (.inr rfl) (.inr rfl) (.inr rfl) (.inr rfl) (.inr rfl) (.inr rfl) (.inr rfl) (.inr rfl) (.inr rfl) (.inr rfl) (.inr rfl) (.inr rfl) (.inr ⟨rfl, rfl, rfl⟩) (.inr rfl) (.inr rfl) (.inr rfl) (.inr rfl) (.inr rfl) (.inr rfl) (.inr rfl) (.inr rfl) (.inr rfl) (.inr rfl) (.inr rfl) (.inr fun r => by rw [hx]; exact Nat.le_refl _) (.inr (List.prefix_refl _)) id id id (fun hb => by rw [hx]; exact hb) id id h

theorem Keep.set_fewer {x : Mb} (hm : m.testBit 7 = true) (hx : ∀ r : Requester,
      (x.outstanding.filter fun o => o.req = r ∧ !o.dropped).length ≤ (t.outstandingOf r).length) (h : Keep m s t) :
    Keep m s (t.withMb x) :=
  .upd rfl rfl rfl rfl (.inr rfl) (.inr rfl) (.inr rfl) (.inl hm) (.inr rfl) (.inr rfl) (.inr rfl) (.inr rfl) (.inr rfl) (.inr rfl) (.inr rfl) (.inr rfl) (.inr rfl) (.inr rfl) (.inr rfl) (.inr rfl) (.inr rfl) (.inr rfl) (.inr rfl) (.inr rfl) (.inr rfl) (.inr rfl) (.inr ⟨rfl, rfl, rfl⟩) (.inr rfl) (.inr rfl) (.inr rfl) (.inr rfl) (.inr rfl) (.inr rfl) (.inr rfl) (.inr rfl) (.inr rfl) (.inr rfl) (.inr rfl) (.inr hx) (.inr (List.prefix_refl _)) id id id (fun hb r => (hx r).trans (hb r)) id id h

theorem Keep.set_more {x : Mb} (hm : m.testBit 7 = true) (hm2 : m.testBit 46 = true) (hx : (∀ r : Requester, (t.outstandingOf r).length ≤ 64) →
      ∀ r : Requester, (x.outstanding.filter fun o => o.req = r ∧ !o.dropped).length ≤ 64) (h : Keep m s t) :
    Keep m s (t.withMb x) :=
  .upd rfl rfl rfl rfl (.inr rfl) (.inr rfl) (.inr rfl) (.inl hm) (.inr rfl) (.inr rfl) (.inr rfl) (.inr rfl) (.inr rfl) (.inr rfl) (.inr rfl) (.inr rfl) (.inr rfl) (.inr rfl) (.inr rfl) (.inr rfl) (.inr rfl) (.inr rfl) (.inr rfl) (.inr rfl) (.inr rfl) (.inr rfl) (.inr ⟨rfl, rfl, rfl⟩) (.inr rfl) (.inr rfl) (.inr rfl) (.inr rfl) (.inr rfl) (.inr rfl) (.inr rfl) (.inr rfl) (.inr rfl) (.inr rfl) (.inr rfl) (.inl hm2) (.inr (List.prefix_refl _)) id id id hx id id h

theorem Keep.set_rep {x : Rep} (hm : m.testBit 36 = true) (hx : t.rep.entries.length ≤ 2048 → x.entries.length ≤ 2048) (h : Keep m s t) :
    Keep m s (t.withRep x) :=
  .upd rfl rfl rfl rfl (.inr rfl) (.inr rfl) (.inr rfl) (.inr rfl) (.inr rfl) (.inr rfl) (.inr rfl) (.inr rfl) (.inr rfl) (.inr rfl) (.inr rfl) (.inr rfl) (.inr rfl) (.inr rfl) (.inl hm) (.inr rfl) (.inr rfl) (.inr rfl) (.inr rfl) (.inr rfl) (.inr rfl) (.inr rfl) (.inr ⟨rfl, rfl, rfl⟩) (.inr rfl) (.inr rfl) (.inr rfl) (.inr rfl) (.inr rfl) (.inr rfl) (.inr rfl) (.inr rfl) (.inr rfl) (.inr rfl) (.inr rfl) (.inr fun _ => Nat.le_refl _) (.inr (List.prefix_refl _)) id id id id hx id h

theorem Keep.set_dev {x : Dev} (h1 : m.testBit 3 = true ∨ (x.mode = t.dev.mode ∧ x.guard = t.dev.guard ∧ x.guardSince = t.dev.guardSince))
    (h2 : m.testBit 4 = true ∨ x.busRead = t.dev.busRead) (h3 : m.testBit 5 = true ∨ x.rest = t.dev.rest) (h : Keep m s t) :
    Keep m s (t.withDev x) :=
  .upd rfl rfl rfl rfl (.inr rfl) (.inr rfl) (.inr rfl) (.inr rfl) (.inr rfl) (.inr rfl) (.inr rfl) (.inr rfl) (.inr rfl) (.inr rfl) (.inr rfl) (.inr rfl) (.inr rfl) (.inr rfl) (.inr rfl) (.inr rfl) (.inr rfl) (.inr rfl) (.inr rfl) (.inr rfl) (.inr rfl) (.inr rfl) h1 h2 h3 (.inr rfl) (.inr rfl) (.inr rfl) (.inr rfl) (.inr rfl) (.inr rfl) (.inr rfl) (.inr rfl) (.inr rfl) (.inr fun _ => Nat.le_refl _) (.inr (List.prefix_refl _)) id id id id id id h

theorem Keep.set_hif {x : Hif} (h1 : m.testBit 12 = true ∨ x.l1 = t.hif.l1) (h2 : m.testBit 13 = true ∨ x.rest = t.hif.rest) (h : Keep m s t) :
    Keep m s (t.withHif x) :=
  .upd rfl rfl rfl rfl (.inr rfl) (.inr rfl) (.inr rfl) (.inr rfl) (.inr rfl) (.inr rfl) (.inr rfl) (.inr rfl) (.inr rfl) (.inr rfl) (.inr rfl) (.inr rfl) (.inr rfl) (.inr rfl) (.inr rfl) (.inr rfl) (.inr rfl) (.inr rfl) (.inr rfl) (.inr rfl) (.inr rfl) (.inr rfl) (.inr ⟨rfl, rfl, rfl⟩) (.inr rfl) (.inr rfl) (.inr rfl) (.inr rfl) (.inr rfl) h1 h2 (.inr rfl) (.inr rfl) (.inr rfl) (.inr rfl) (.inr fun _ => Nat.le_refl _) (.inr (List.prefix_refl _)) id id id id id id h

theorem Keep.set_mem {x : Mem} (h1 : m.testBit 34 = true ∨ x.data = t.mem.data) (h2 : m.testBit 35 = true ∨ x.rest = t.mem.rest)
    (b1 : Memory.wf t.mem.data → Memory.wf x.data) (b2 : t.mem.echo.length ≤ 64 → x.echo.length ≤ 64) (h : Keep m s t) :
    Keep m s (t.withMem x) :=
  .upd rfl rfl rfl rfl (.inr rfl) (.inr rfl) (.inr rfl) (.inr rfl) (.inr rfl) (.inr rfl) (.inr rfl) (.inr rfl) (.inr rfl) (.inr rfl) (.inr rfl) (.inr rfl) (.inr rfl) (.inr rfl) (.inr rfl) (.inr rfl) (.inr rfl) (.inr rfl) (.inr rfl) (.inr rfl) (.inr rfl) (.inr rfl) (.inr ⟨rfl, rfl, rfl⟩) (.inr rfl) (.inr rfl) (.inr rfl) (.inr rfl) (.inr rfl) (.inr rfl) (.inr rfl) h1 h2 (.inr rfl) (.inr rfl) (.inr fun _ => Nat.le_refl _) (.inr (List.prefix_refl _)) b1 b2 id id id id h

theorem Keep.set_ev {x : Evs} (h1 : m.testBit 8 = true ∨ x.raised = t.ev.raised) (h2 : x.queue = t.ev.queue)
    (h3 : m.testBit 10 = true ∨ x.urgent = t.ev.urgent)
    (h4 : m.testBit 47 = true ∨ t.ev.raised <+: x.raised) (h : Keep m s t) :
    Keep m s (t.withEv x) :=
  .upd rfl rfl rfl rfl (.inr rfl) (.inr rfl) (.inr rfl) (.inr rfl) (.inr rfl) (.inr rfl) (.inr rfl) (.inr rfl) (.inr rfl) (.inr rfl) (.inr rfl) (.inr rfl) (.inr rfl) (.inr rfl) (.inr rfl) (.inr rfl) (.inr rfl) (.inr rfl) (.inr rfl) (.inr rfl) (.inr rfl) (.inr rfl) (.inr ⟨rfl, rfl, rfl⟩) (.inr rfl) (.inr rfl) h1 (.inr h2) h3 (.inr rfl) (.inr rfl) (.inr rfl) (.inr rfl) (.inr rfl) (.inr rfl) (.inr fun _ => Nat.le_refl _) h4 id id (fun hb => by rw [h2]; exact hb) id id id h

theorem Keep.set_pmc {x : Pmcs} (h1 : x.ctr = t.pmc.ctr) (h2 : m.testBit 42 = true) (h : Keep m s t) :
    Keep m s (t.withPmc x) :=
  .upd rfl rfl rfl rfl (.inr rfl) (.inr rfl) (.inr rfl) (.inr rfl) (.inr rfl) (.inr rfl) (.inr rfl) (.inr rfl) (.inr rfl) (.inr rfl) (.inr rfl) (.inr rfl) (.inr rfl) (.inr rfl) (.inr rfl) (.inr rfl) (.inr rfl) (.inr rfl) (.inr rfl) (.inr rfl) (.inr rfl) (.inr rfl) (.inr ⟨rfl, rfl, rfl⟩) (.inr rfl) (.inr rfl) (.inr rfl) (.inr rfl) (.inr rfl) (.inr rfl) (.inr rfl) (.inr rfl) (.inr rfl) (.inr h1) (.inl h2) (.inr fun _ => Nat.le_refl _) (.inr (List.prefix_refl _)) id id id id id (fun hb => by rw [h1]; exact hb) h

theorem Keep.set_ctr {x : Pmcs} (h1 : m.testBit 41 = true) (h2 : m.testBit 42 = true ∨ x.rest = t.pmc.rest)
    (hb : (∀ p ∈ t.pmc.ctr, p.2.value ≤ max36) → ∀ p ∈ x.ctr, p.2.value ≤ max36) (h : Keep m s t) :
    Keep m s (t.withPmc x) :=
  .upd rfl rfl rfl rfl (.inr rfl) (.inr rfl) (.inr rfl) (.inr rfl) (.inr rfl) (.inr rfl) (.inr rfl) (.inr rfl) (.inr rfl) (.inr rfl) (.inr rfl) (.inr rfl) (.inr rfl) (.inr rfl) (.inr rfl) (.inr rfl) (.inr rfl) (.inr rfl) (.inr rfl) (.inr rfl) (.inr rfl) (.inr rfl) (.inr ⟨rfl, rfl, rfl⟩) (.inr rfl) (.inr rfl) (.inr rfl) (.inr rfl) (.inr rfl) (.inr rfl) (.inr rfl) (.inr rfl) (.inr rfl) (.inl h1) h2 (.inr fun _ => Nat.le_refl _) (.inr (List.prefix_refl _)) id id id id id hb h

theorem Keep.modQueue {r : Requester} {f : EvQueue → EvQueue} (hm : m.testBit 9 = true)
    (hf : ∀ q : EvQueue, q.others ≤ 960 → (f q).others ≤ 960) (h : Keep m s t) : Keep m s (t.modQueue r f) :=
  .upd rfl rfl rfl rfl (.inr rfl) (.inr rfl) (.inr rfl) (.inr rfl) (.inr rfl) (.inr rfl) (.inr rfl) (.inr rfl) (.inr rfl) (.inr rfl) (.inr rfl) (.inr rfl) (.inr rfl) (.inr rfl) (.inr rfl) (.inr rfl) (.inr rfl) (.inr rfl) (.inr rfl) (.inr rfl) (.inr rfl) (.inr rfl) (.inr ⟨rfl, rfl, rfl⟩) (.inr rfl) (.inr rfl) (.inr rfl) (.inl hm) (.inr rfl) (.inr rfl) (.inr rfl) (.inr rfl) (.inr rfl) (.inr rfl) (.inr rfl) (.inr fun _ => Nat.le_refl _) (.inr (List.prefix_refl _)) id id (fun hb k => by
    show (tget (tmod t.ev.queue (fun _ => {}) r.num f) (fun _ => {}) k.num).others ≤ 960
    rw [tget_tmod]
    by_cases hk : k.num = r.num
    · rw [if_pos hk]; exact hf _ (hb r)
    · rw [if_neg hk]; exact hb k) id id id h

theorem Keep.modGroup {g : Nat} {f : Group → Group} (hm : m.testBit 28 = true) (h : Keep m s t) :
    Keep m s (t.modGroup g f) :=
  .set_group hm h

theorem Keep.modPort {p : Nat} {f : Port → Port} (hm : m.testBit 29 = true) (h : Keep m s t) :
    Keep m s (t.modPort p f) :=
  .set_port hm h

theorem Keep.modBlock {i : Nat} {f : Block → Block} (hm : m.testBit 30 = true) (h : Keep m s t) :
    Keep m s (t.modBlock i f) :=
  .set_block hm h

theorem Keep.modEng {e : Nat} {f : Engine → Engine} (hm : m.testBit 31 = true) (h : Keep m s t) :
    Keep m s (t.modEng e f) :=
  .set_eng hm h

theorem Keep.modCal {b : Nat} {f : Cal → Cal} (hm : m.testBit 38 = true) (h : Keep m s t) :
    Keep m s (t.modCal b f) :=
  .set_cal hm h

theorem Keep.modAx {c : Nat} {f : Ax → Ax} (hm : m.testBit 37 = true) (h : Keep m s t) :
    Keep m s (t.modAx c f) :=
  .set_ocu hm h

theorem Keep.modMn {c : Nat} {f : Mon → Mon} (hm : m.testBit 37 = true) (h : Keep m s t) :
    Keep m s (t.modMn c f) :=
  .set_ocu hm h

theorem Keep.modLoop {i : Nat} {f : OcuLoop → OcuLoop} (hm : m.testBit 37 = true) (h : Keep m s t) :
    Keep m s (t.modLoop i f) :=
  .set_ocu hm h

theorem Keep.modCtx {c : Nat} {f : Ctx → Ctx} (hm : m.testBit 33 = true) (h : Keep m s t) :
    Keep m s (t.modCtx c f) :=
  .set_lex hm h

theorem Keep.modUnplaced {i : Nat} {f : Ctx → Ctx} (hm : m.testBit 33 = true) (h : Keep m s t) :
    Keep m s (t.modUnplaced i f) :=
  .set_lex hm h

theorem Keep.modBank {b : Nat} {f : Bank → Bank} (hm : m.testBit 33 = true) (h : Keep m s t) :
    Keep m s (t.modBank b f) :=
  .set_lex hm h

theorem Keep.modSensor {n : Nat} {f : Sensor → Sensor} (hm : m.testBit 39 = true) (h : Keep m s t) :
    Keep m s (t.modSensor n f) :=
  .set_thm hm h

theorem Keep.modResid {i : Nat} {f : Resid → Resid} (hm : m.testBit 15 = true) (h : Keep m s t) :
    Keep m s (t.modResid i f) :=
  .set_tku hm h

theorem Keep.setPort {p : Nat} {x : Port} (hm : m.testBit 29 = true) (h : Keep m s t) :
    Keep m s (t.setPort p x) :=
  .set_port hm h

theorem Keep.modRegion {r : Nat} {f : Region → Region} (hm : m.testBit 35 = true) (h : Keep m s t) :
    Keep m s (t.modRegion r f) :=
  .set_mem (.inr rfl) (.inl hm) id id h

theorem Keep.modDma {c : Nat} {f : Dma → Dma} (hm : m.testBit 13 = true) (h : Keep m s t) :
    Keep m s (t.modDma c f) :=
  .set_hif (.inr rfl) (.inl hm) h

theorem Keep.modSnap {r : Requester} {f : Snap → Snap} (hm : m.testBit 13 = true) (h : Keep m s t) :
    Keep m s (t.modSnap r f) :=
  .set_hif (.inr rfl) (.inl hm) h

theorem Keep.modIcu {r : Requester} {f : Icu → Icu} (hm : m.testBit 11 = true) (h : Keep m s t) :
    Keep m s (t.modIcu r f) :=
  .set_icu hm h

theorem Keep.modBox {r : Requester} {n : Nat} {f : Box → Box} (hm : m.testBit 7 = true) (h : Keep m s t) :
    Keep m s (t.modBox r n f) :=
  .set_mb hm rfl h

theorem Keep.modDom {d : Domain} {f : DomClk → DomClk} (hm : m.testBit 15 = true) (h : Keep m s t) :
    Keep m s (t.modDom d f) :=
  by cases d <;> exact .set_tku hm h

theorem State.pmcAt_le (h : ∀ p ∈ t.pmc.ctr, p.2.value ≤ max36) (j : Nat) : (t.pmcAt j).value ≤ max36 := by
  rcases tget_mem t.pmc.ctr (fun _ => ({} : Pmc)) j with e | e
  · show (tget t.pmc.ctr (fun _ => ({} : Pmc)) j).value ≤ max36
    rw [e]
    exact Nat.zero_le _
  · exact h _ e

theorem Keep.setPmc {k : Nat} {x : Pmc} (hm : m.testBit 41 = true) (hx : (∀ p ∈ t.pmc.ctr, p.2.value ≤ max36) → x.value ≤ max36) (h : Keep m s t) :
    Keep m s (t.setPmc k x) :=
  .set_ctr hm (.inr rfl) (fun hb p hp => by
    rcases tset_mem t.pmc.ctr (fun _ => ({} : Pmc)) k x hp with rfl | hp
    · exact hx hb
    · exact hb p hp) h

theorem Keep.modLine {l : Nat} {f : Line → Line}
    (h_state : m.testBit 18 = true ∨ ∀ x, (f x).state = x.state ∧ (f x).stuck = x.stuck ∧ (f x).badStage = x.badStage)
    (h_rx : m.testBit 19 = true ∨ ∀ x, (f x).lrx.rest = x.lrx.rest)
    (h_rxp : m.testBit 20 = true ∨ ∀ x, (f x).lrx = x.lrx)
    (h_sea : m.testBit 21 = true ∨ ∀ x, (f x).sea = x.sea)
    (h_sdf : m.testBit 22 = true ∨ ∀ x, (f x).sdf = x.sdf)
    (h_ltx : m.testBit 23 = true ∨ ∀ x, (f x).ltx = x.ltx)
    (h_plt : m.testBit 24 = true ∨ ∀ x, (f x).plt = x.plt)
    (h_opt : m.testBit 25 = true ∨ ∀ x, (f x).optics = x.optics ∧ (f x).optSince = x.optSince)
    (h : Keep m s t) : Keep m s (t.modLine l f) :=
  .setLine (h_state.imp id fun e => e _) (h_rx.imp id fun e => e _) (h_rxp.imp id fun e => e _) (h_sea.imp id fun e => e _) (h_sdf.imp id fun e => e _) (h_ltx.imp id fun e => e _) (h_plt.imp id fun e => e _) (h_opt.imp id fun e => e _) h

theorem Keep.modLrx {l : Nat} {f : Lrx → Lrx} (h1 : m.testBit 19 = true ∨ ∀ x, (f x).rest = x.rest) (h2 : m.testBit 20 = true)
    (h : Keep m s t) :
    Keep m s (t.modLrx l f) :=
  .modLine (.inr fun _ => ⟨rfl, rfl, rfl⟩) (h1.imp id fun e _ => e _) (.inl h2) (.inr fun _ => rfl) (.inr fun _ => rfl) (.inr fun _ => rfl) (.inr fun _ => rfl) (.inr fun _ => ⟨rfl, rfl⟩) h

theorem Keep.modSea {l : Nat} {f : Sea → Sea} (hm : m.testBit 21 = true) (h : Keep m s t) :
    Keep m s (t.modSea l f) :=
  .modLine (.inr fun _ => ⟨rfl, rfl, rfl⟩) (.inr fun _ => rfl) (.inr fun _ => rfl) (.inl hm) (.inr fun _ => rfl) (.inr fun _ => rfl) (.inr fun _ => rfl) (.inr fun _ => ⟨rfl, rfl⟩) h

theorem Keep.modSdf {l : Nat} {f : Sdf → Sdf} (hm : m.testBit 22 = true) (h : Keep m s t) :
    Keep m s (t.modSdf l f) :=
  .modLine (.inr fun _ => ⟨rfl, rfl, rfl⟩) (.inr fun _ => rfl) (.inr fun _ => rfl) (.inr fun _ => rfl) (.inl hm) (.inr fun _ => rfl) (.inr fun _ => rfl) (.inr fun _ => ⟨rfl, rfl⟩) h

theorem Keep.modLtx {l : Nat} {f : Ltx → Ltx} (hm : m.testBit 23 = true) (h : Keep m s t) :
    Keep m s (t.modLtx l f) :=
  .modLine (.inr fun _ => ⟨rfl, rfl, rfl⟩) (.inr fun _ => rfl) (.inr fun _ => rfl) (.inr fun _ => rfl) (.inr fun _ => rfl) (.inl hm) (.inr fun _ => rfl) (.inr fun _ => ⟨rfl, rfl⟩) h

theorem Keep.modPlt {l : Nat} {f : Plt → Plt} (hm : m.testBit 24 = true) (h : Keep m s t) :
    Keep m s (t.modPlt l f) :=
  .modLine (.inr fun _ => ⟨rfl, rfl, rfl⟩) (.inr fun _ => rfl) (.inr fun _ => rfl) (.inr fun _ => rfl) (.inr fun _ => rfl) (.inr fun _ => rfl) (.inl hm) (.inr fun _ => ⟨rfl, rfl⟩) h

theorem Keep.modSlice {l n : Nat} {f : Slice → Slice} (hm : m.testBit 20 = true) (h : Keep m s t) :
    Keep m s (t.modSlice l n f) :=
  .modLrx (.inr fun _ => rfl) hm h

theorem Keep.modCell {l n : Nat} {f : Cell → Cell} (hm : m.testBit 23 = true) (h : Keep m s t) :
    Keep m s (t.modCell l n f) :=
  .modLtx hm h

theorem Keep.modHost {l : Nat} {f : HostLane → HostLane} (h1 : m.testBit 26 = true ∨ ∀ x, (f x).rest = x.rest) (h2 : m.testBit 27 = true)
    (h : Keep m s t) :
    Keep m s (t.modHost l f) :=
  .setHost (h1.imp id fun e => e _) (.inl h2) h

theorem Keep.setParam {noun inst elem : Nat} {w : Word} (hm : m.testBit 16 = true) (h : Keep m s t) :
    Keep m s (t.setParam noun inst elem w) :=
  .set_params hm h

theorem Keep.modSrc {r : Requester} {n : Nat} {f : Src → Src} (hm : m.testBit 11 = true) (h : Keep m s t) :
    Keep m s (t.modSrc r n f) :=
  .set_icu hm h

theorem Keep.modVec {r : Requester} {n : Nat} {f : Vec → Vec} (hm : m.testBit 11 = true) (h : Keep m s t) :
    Keep m s (t.modVec r n f) :=
  .set_icu hm h

theorem Stat.add_le (x : Stat) (n : Nat) : (x.add n).live ≤ max36 := by
  unfold Stat.add
  split
  · rename_i h; exact Nat.le_of_lt h
  · exact Nat.le_refl _

theorem State.statAt_le (h : ∀ p ∈ t.stats, p.2.live ≤ max36) (k : Nat) :
    (tget t.stats (fun _ => ({} : Stat)) k).live ≤ max36 := by
  rcases tget_mem t.stats (fun _ => ({} : Stat)) k with e | e
  · rw [e]
    exact Nat.zero_le _
  · exact h _ e

theorem Keep.modStat {k : Nat} {f : Stat → Stat} (hm : m.testBit 17 = true) (hf : ∀ x : Stat, x.live ≤ max36 → (f x).live ≤ max36)
    (h : Keep m s t) : Keep m s { t with stats := tmod t.stats (fun _ => {}) k f } :=
  .setStats hm (fun hb p hp => by
    rcases tset_mem _ _ _ _ hp with rfl | hp
    · exact hf _ (State.statAt_le hb k)
    · exact hb p hp) h

theorem Keep.bumpBy {g j i n : Nat} (hm : m.testBit 17 = true) (h : Keep m s t) : Keep m s (t.bumpBy g j i n) :=
  .modStat hm (fun x _ => Stat.add_le x n) h

theorem Keep.bump {g j i : Nat} (hm : m.testBit 17 = true) (h : Keep m s t) : Keep m s (t.bump g j i) := .bumpBy hm h

theorem Keep.setFigure {g j i : Nat} {v : Word} (hm : m.testBit 17 = true) (h : Keep m s t) : Keep m s (t.setFigure g j i v) :=
  .modStat hm (fun x _ => by
    have := v.isLt
    show v.toNat ≤ 2 ^ 36 - 1
    omega) h

end Sys2Proof.Machine
end

