-- ==== Sys2Proof/Laws/KeepOps.lean ====
section
/-! SUPPORT. `Keep` for every operation of `Machine/Ops.lean`, `Machine/Operands.lean`, `Machine/Flags.lean`. -/

set_option linter.unusedTactic false
set_option linter.unreachableTactic false
set_option linter.unnecessarySeqFocus false
set_option linter.unusedVariables false
set_option linter.unusedSimpArgs false

namespace Sys2Proof.Machine

theorem State.setParams_keep (s : State) (noun inst e : Nat) (ws : List Word) {k0 : Nat} {z0 : State} (hk : Nat.land 0x10000 k0 = 0x10000) (hz : Keep k0 z0 s) :
    Keep k0 z0 (s.setParams noun inst e ws) := by
  induction ws generalizing s e with
  | nil => exact hz
  | cons w ws ih => exact ih _ _ (Keep.step (Keep.setParam rfl (Keep.refl _ _)) hk hz)

theorem State.applyChanges_keep (s : State) (noun inst : Nat) (cs : List ParamChange) {k0 : Nat} {z0 : State} (hk : Nat.land 0x10000 k0 = 0x10000) (hz : Keep k0 z0 s) : Keep k0 z0 (State.applyChanges s noun inst cs) := by
  refine Keep.step ?_ hk hz
  unfold State.applyChanges
  repeat' first
    | with_reducible refine Keep.ite ?_ ?_
    | with_reducible refine Keep.foldl _ ?_ ?_
    | intro u x hu
    | intro u hu
    | with_reducible apply Keep.setParam
    | with_reducible exact Keep.refl _ _
    | with_reducible assumption
    | exact rfl
    | exact id
    | exact Or.inl rfl
    | exact Or.inr rfl
    | exact Or.inr (List.prefix_refl _)
    | exact Or.inr fun _ => rfl
    | exact Or.inr ⟨rfl, rfl, rfl⟩
    | exact Or.inr fun _ => ⟨rfl, rfl, rfl⟩
    | exact Or.inr fun _ => ⟨rfl, rfl⟩
    | split
    | dsimp only

theorem State.freeSkip_keep (s : State) (n : Nat) {k0 : Nat} {z0 : State} (hk : Nat.land 0x2 k0 = 0x2) (hz : Keep k0 z0 s) : Keep k0 z0 (State.freeSkip s n) := by
  refine Keep.step ?_ hk hz
  unfold State.freeSkip
  try simp -zeta only [State.fold_free]
  repeat' first
    | with_reducible refine Keep.ite ?_ ?_
    | with_reducible apply Keep.set_free
    | with_reducible exact Keep.refl _ _
    | with_reducible assumption
    | exact rfl
    | exact id
    | exact Or.inl rfl
    | exact Or.inr rfl
    | exact Or.inr (List.prefix_refl _)
    | exact Or.inr fun _ => rfl
    | exact Or.inr ⟨rfl, rfl, rfl⟩
    | exact Or.inr fun _ => ⟨rfl, rfl, rfl⟩
    | exact Or.inr fun _ => ⟨rfl, rfl⟩
    | split
    | dsimp only

theorem State.freeNext_keep (s : State) {k0 : Nat} {z0 : State} (hk : Nat.land 0x2 k0 = 0x2) (hz : Keep k0 z0 s) : Keep k0 z0 (State.freeNext s) := by
  refine Keep.step ?_ hk hz
  unfold State.freeNext
  try simp -zeta only [State.fold_free]
  repeat' first
    | with_reducible refine Keep.ite ?_ ?_
    | with_reducible apply Keep.set_free
    | with_reducible exact Keep.refl _ _
    | with_reducible assumption
    | exact rfl
    | exact id
    | exact Or.inl rfl
    | exact Or.inr rfl
    | exact Or.inr (List.prefix_refl _)
    | exact Or.inr fun _ => rfl
    | exact Or.inr ⟨rfl, rfl, rfl⟩
    | exact Or.inr fun _ => ⟨rfl, rfl, rfl⟩
    | exact Or.inr fun _ => ⟨rfl, rfl⟩
    | split
    | dsimp only

theorem EvQueue.drop_others (q : EvQueue) (b : BitVec 64) : (q.drop b).others = q.others := rfl

theorem EvQueue.push_done (q : EvQueue) (fl : Byte) (b : BitVec 64) (d : List Word) :
    (q.push evCmdDone fl b d).others = q.others := by
  simp [EvQueue.others, EvQueue.push, List.filter_append]

theorem EvQueue.push_others (q : EvQueue) (c : Nat) (fl : Byte) (b : BitVec 64) (d : List Word) :
    (q.push c fl b d).others ≤ q.others + 1 := by
  simp only [EvQueue.others, EvQueue.push, List.filter_append, List.length_append]
  exact Nat.add_le_add_left (List.length_filter_le ..) _

theorem State.raise_keep (s : State) (code : Nat) (data : List Word) {k0 : Nat} {z0 : State} (hk : Nat.land 0x300 k0 = 0x300) (hz : Keep k0 z0 s) : Keep k0 z0 (s.raise code data) := by
  refine Keep.step ?_ hk hz
  unfold State.raise
  refine Keep.ite (Keep.foldl _ (fun u x hu => Keep.modQueue rfl (fun q hq => hq) hu) (Keep.refl _ _)) ?_
  exact Keep.set_ev (.inl rfl) rfl (.inr rfl) (.inr (List.prefix_append _ _)) (Keep.refl _ _)

theorem State.dmaDue_keep (s : State) (src sseq addr : Nat) (late flush : Bool) {k0 : Nat} {z0 : State} (hk : Nat.land 0x2000 k0 = 0x2000) (hz : Keep k0 z0 s) : Keep k0 z0 (State.dmaDue s src sseq addr late flush) := by
  refine Keep.step ?_ hk hz
  unfold State.dmaDue
  try simp -zeta only [State.fold_hif]
  repeat' first
    | with_reducible refine Keep.ite ?_ ?_
    | with_reducible apply Keep.set_hif
    | with_reducible exact Keep.refl _ _
    | with_reducible assumption
    | exact rfl
    | exact id
    | exact Or.inl rfl
    | exact Or.inr rfl
    | exact Or.inr (List.prefix_refl _)
    | exact Or.inr fun _ => rfl
    | exact Or.inr ⟨rfl, rfl, rfl⟩
    | exact Or.inr fun _ => ⟨rfl, rfl, rfl⟩
    | exact Or.inr fun _ => ⟨rfl, rfl⟩
    | split
    | dsimp only

theorem State.pmcAdd_keep (s : State) (k n : Nat) {k0 : Nat} {z0 : State} (hk : Nat.land 0x20000000300 k0 = 0x20000000300) (hz : Keep k0 z0 s) : Keep k0 z0 (s.pmcAdd k n) := by
  refine Keep.step ?_ hk hz
  unfold State.pmcAdd
  dsimp only
  split
  · rename_i h
    exact Keep.setPmc rfl (fun _ => Nat.le_of_lt h) (Keep.refl _ _)
  · split
    · exact Keep.setPmc rfl (fun _ => Nat.le_refl _) (Keep.refl _ _)
    · exact State.raise_keep _ _ _ rfl (Keep.setPmc rfl (fun _ => Nat.le_refl _) (Keep.refl _ _))

theorem State.pmcEvent_keep (s : State) (ev n : Nat) {k0 : Nat} {z0 : State} (hk : Nat.land 0x20000000300 k0 = 0x20000000300) (hz : Keep k0 z0 s) : Keep k0 z0 (State.pmcEvent s ev n) := by
  refine Keep.step ?_ hk hz
  unfold State.pmcEvent
  repeat' first
    | with_reducible refine Keep.ite ?_ ?_
    | with_reducible refine Keep.foldl _ ?_ ?_
    | intro u x hu
    | intro u hu
    | with_reducible apply State.pmcAdd_keep
    | with_reducible exact Keep.refl _ _
    | with_reducible assumption
    | exact rfl
    | exact id
    | exact Or.inl rfl
    | exact Or.inr rfl
    | exact Or.inr (List.prefix_refl _)
    | exact Or.inr fun _ => rfl
    | exact Or.inr ⟨rfl, rfl, rfl⟩
    | exact Or.inr fun _ => ⟨rfl, rfl, rfl⟩
    | exact Or.inr fun _ => ⟨rfl, rfl⟩
    | split
    | dsimp only

theorem State.pmcEngine_keep (s : State) (e ev n : Nat) {k0 : Nat} {z0 : State} (hk : Nat.land 0x20000000300 k0 = 0x20000000300) (hz : Keep k0 z0 s) : Keep k0 z0 (State.pmcEngine s e ev n) := by
  refine Keep.step ?_ hk hz
  unfold State.pmcEngine
  repeat' first
    | with_reducible refine Keep.ite ?_ ?_
    | with_reducible refine Keep.foldl _ ?_ ?_
    | intro u x hu
    | intro u hu
    | with_reducible apply State.pmcAdd_keep
    | with_reducible exact Keep.refl _ _
    | with_reducible assumption
    | exact rfl
    | exact id
    | exact Or.inl rfl
    | exact Or.inr rfl
    | exact Or.inr (List.prefix_refl _)
    | exact Or.inr fun _ => rfl
    | exact Or.inr ⟨rfl, rfl, rfl⟩
    | exact Or.inr fun _ => ⟨rfl, rfl, rfl⟩
    | exact Or.inr fun _ => ⟨rfl, rfl⟩
    | split
    | dsimp only

theorem State.sendVec_keep (s : State) (r : Requester) (v : Nat) {k0 : Nat} {z0 : State} (hk : Nat.land 0x20000001b00 k0 = 0x20000001b00) (hz : Keep k0 z0 s) : Keep k0 z0 (State.sendVec s r v) := by
  refine Keep.step ?_ hk hz
  unfold State.sendVec
  try simp -zeta only [State.fold_hif]
  repeat' first
    | with_reducible refine Keep.ite ?_ ?_
    | with_reducible apply State.pmcEvent_keep
    | with_reducible apply Keep.modVec
    | with_reducible apply Keep.set_hif
    | with_reducible exact Keep.refl _ _
    | with_reducible assumption
    | exact rfl
    | exact id
    | exact Or.inl rfl
    | exact Or.inr rfl
    | exact Or.inr (List.prefix_refl _)
    | exact Or.inr fun _ => rfl
    | exact Or.inr ⟨rfl, rfl, rfl⟩
    | exact Or.inr fun _ => ⟨rfl, rfl, rfl⟩
    | exact Or.inr fun _ => ⟨rfl, rfl⟩
    | split
    | dsimp only

theorem State.enterPending_keep (s : State) (r : Requester) (src : Nat) {k0 : Nat} {z0 : State} (hk : Nat.land 0x20000001b00 k0 = 0x20000001b00) (hz : Keep k0 z0 s) : Keep k0 z0 (State.enterPending s r src) := by
  refine Keep.step ?_ hk hz
  unfold State.enterPending
  repeat' first
    | with_reducible refine Keep.ite ?_ ?_
    | with_reducible apply State.sendVec_keep
    | with_reducible apply Keep.modIcu
    | with_reducible apply Keep.modVec
    | with_reducible exact Keep.refl _ _
    | with_reducible assumption
    | exact rfl
    | exact id
    | exact Or.inl rfl
    | exact Or.inr rfl
    | exact Or.inr (List.prefix_refl _)
    | exact Or.inr fun _ => rfl
    | exact Or.inr ⟨rfl, rfl, rfl⟩
    | exact Or.inr fun _ => ⟨rfl, rfl, rfl⟩
    | exact Or.inr fun _ => ⟨rfl, rfl⟩
    | split
    | dsimp only

theorem State.edge_keep (s : State) (r : Requester) (src : Nat) {k0 : Nat} {z0 : State} (hk : Nat.land 0x20000001b00 k0 = 0x20000001b00) (hz : Keep k0 z0 s) : Keep k0 z0 (State.edge s r src) := by
  refine Keep.step ?_ hk hz
  unfold State.edge
  repeat' first
    | with_reducible refine Keep.ite ?_ ?_
    | with_reducible apply State.enterPending_keep
    | with_reducible apply Keep.modSrc
    | with_reducible exact Keep.refl _ _
    | with_reducible assumption
    | exact rfl
    | exact id
    | exact Or.inl rfl
    | exact Or.inr rfl
    | exact Or.inr (List.prefix_refl _)
    | exact Or.inr fun _ => rfl
    | exact Or.inr ⟨rfl, rfl, rfl⟩
    | exact Or.inr fun _ => ⟨rfl, rfl, rfl⟩
    | exact Or.inr fun _ => ⟨rfl, rfl⟩
    | split
    | dsimp only

theorem State.level_keep (s : State) (r : Requester) (src : Nat) (cond : Bool) {k0 : Nat} {z0 : State} (hk : Nat.land 0x20000001b00 k0 = 0x20000001b00) (hz : Keep k0 z0 s) : Keep k0 z0 (State.level s r src cond) := by
  refine Keep.step ?_ hk hz
  unfold State.level
  repeat' first
    | with_reducible refine Keep.ite ?_ ?_
    | with_reducible apply State.enterPending_keep
    | with_reducible apply Keep.modSrc
    | with_reducible apply Keep.modVec
    | with_reducible apply Keep.modIcu
    | with_reducible exact Keep.refl _ _
    | with_reducible assumption
    | exact rfl
    | exact id
    | exact Or.inl rfl
    | exact Or.inr rfl
    | exact Or.inr (List.prefix_refl _)
    | exact Or.inr fun _ => rfl
    | exact Or.inr ⟨rfl, rfl, rfl⟩
    | exact Or.inr fun _ => ⟨rfl, rfl, rfl⟩
    | exact Or.inr fun _ => ⟨rfl, rfl⟩
    | split
    | dsimp only

theorem State.settleIcuOf_keep (s : State) (r : Requester) {k0 : Nat} {z0 : State} (hk : Nat.land 0x20000001b00 k0 = 0x20000001b00) (hz : Keep k0 z0 s) : Keep k0 z0 (State.settleIcuOf s r) := by
  refine Keep.step ?_ hk hz
  unfold State.settleIcuOf
  repeat' first
    | with_reducible refine Keep.ite ?_ ?_
    | with_reducible refine Keep.foldl _ ?_ ?_
    | intro u x hu
    | intro u hu
    | with_reducible apply State.level_keep
    | with_reducible exact Keep.refl _ _
    | with_reducible assumption
    | exact rfl
    | exact id
    | exact Or.inl rfl
    | exact Or.inr rfl
    | exact Or.inr (List.prefix_refl _)
    | exact Or.inr fun _ => rfl
    | exact Or.inr ⟨rfl, rfl, rfl⟩
    | exact Or.inr fun _ => ⟨rfl, rfl, rfl⟩
    | exact Or.inr fun _ => ⟨rfl, rfl⟩
    | split
    | dsimp only

theorem State.settleIcu_keep (s : State) {k0 : Nat} {z0 : State} (hk : Nat.land 0x20000001b00 k0 = 0x20000001b00) (hz : Keep k0 z0 s) : Keep k0 z0 (State.settleIcu s) := by
  refine Keep.step ?_ hk hz
  unfold State.settleIcu
  repeat' first
    | with_reducible refine Keep.ite ?_ ?_
    | with_reducible refine Keep.foldl _ ?_ ?_
    | intro u x hu
    | intro u hu
    | with_reducible apply State.settleIcuOf_keep
    | with_reducible exact Keep.refl _ _
    | with_reducible assumption
    | exact rfl
    | exact id
    | exact Or.inl rfl
    | exact Or.inr rfl
    | exact Or.inr (List.prefix_refl _)
    | exact Or.inr fun _ => rfl
    | exact Or.inr ⟨rfl, rfl, rfl⟩
    | exact Or.inr fun _ => ⟨rfl, rfl, rfl⟩
    | exact Or.inr fun _ => ⟨rfl, rfl⟩
    | split
    | dsimp only

theorem State.errSet_keep (s : State) (r : Requester) (bit : Nat) {k0 : Nat} {z0 : State} (hk : Nat.land 0x4000 k0 = 0x4000) (hz : Keep k0 z0 s) : Keep k0 z0 (State.errSet s r bit) := by
  refine Keep.step ?_ hk hz
  unfold State.errSet
  try simp -zeta only [State.fold_err]
  repeat' first
    | with_reducible refine Keep.ite ?_ ?_
    | with_reducible apply Keep.set_err
    | with_reducible exact Keep.refl _ _
    | with_reducible assumption
    | exact rfl
    | exact id
    | exact Or.inl rfl
    | exact Or.inr rfl
    | exact Or.inr (List.prefix_refl _)
    | exact Or.inr fun _ => rfl
    | exact Or.inr ⟨rfl, rfl, rfl⟩
    | exact Or.inr fun _ => ⟨rfl, rfl, rfl⟩
    | exact Or.inr fun _ => ⟨rfl, rfl⟩
    | split
    | dsimp only

theorem State.errAll_keep (s : State) (bit : Nat) {k0 : Nat} {z0 : State} (hk : Nat.land 0x4000 k0 = 0x4000) (hz : Keep k0 z0 s) : Keep k0 z0 (State.errAll s bit) := by
  refine Keep.step ?_ hk hz
  unfold State.errAll
  repeat' first
    | with_reducible refine Keep.ite ?_ ?_
    | with_reducible refine Keep.foldl _ ?_ ?_
    | intro u x hu
    | intro u hu
    | with_reducible apply State.errSet_keep
    | with_reducible exact Keep.refl _ _
    | with_reducible assumption
    | exact rfl
    | exact id
    | exact Or.inl rfl
    | exact Or.inr rfl
    | exact Or.inr (List.prefix_refl _)
    | exact Or.inr fun _ => rfl
    | exact Or.inr ⟨rfl, rfl, rfl⟩
    | exact Or.inr fun _ => ⟨rfl, rfl, rfl⟩
    | exact Or.inr fun _ => ⟨rfl, rfl⟩
    | split
    | dsimp only

theorem State.settleErr_keep (s : State) {k0 : Nat} {z0 : State} (hk : Nat.land 0x4000 k0 = 0x4000) (hz : Keep k0 z0 s) : Keep k0 z0 (State.settleErr s) := by
  refine Keep.step ?_ hk hz
  unfold State.settleErr
  try simp -zeta only [State.fold_err]
  repeat' first
    | with_reducible refine Keep.ite ?_ ?_
    | with_reducible refine Keep.foldl _ ?_ ?_
    | intro u x hu
    | intro u hu
    | with_reducible apply State.errAll_keep
    | with_reducible apply Keep.set_err
    | with_reducible exact Keep.refl _ _
    | with_reducible assumption
    | exact rfl
    | exact id
    | exact Or.inl rfl
    | exact Or.inr rfl
    | exact Or.inr (List.prefix_refl _)
    | exact Or.inr fun _ => rfl
    | exact Or.inr ⟨rfl, rfl, rfl⟩
    | exact Or.inr fun _ => ⟨rfl, rfl, rfl⟩
    | exact Or.inr fun _ => ⟨rfl, rfl⟩
    | split
    | dsimp only

theorem State.setMode_keep (s : State) (m : Mode) (trigger : Nat) {k0 : Nat} {z0 : State} (hk : Nat.land 0x308 k0 = 0x308) (hz : Keep k0 z0 s) : Keep k0 z0 (State.setMode s m trigger) := by
  refine Keep.step ?_ hk hz
  unfold State.setMode
  try simp -zeta only [State.fold_dev]
  repeat' first
    | with_reducible refine Keep.ite ?_ ?_
    | with_reducible apply State.raise_keep
    | with_reducible apply Keep.set_dev
    | with_reducible exact Keep.refl _ _
    | with_reducible assumption
    | exact rfl
    | exact id
    | exact Or.inl rfl
    | exact Or.inr rfl
    | exact Or.inr (List.prefix_refl _)
    | exact Or.inr fun _ => rfl
    | exact Or.inr ⟨rfl, rfl, rfl⟩
    | exact Or.inr fun _ => ⟨rfl, rfl, rfl⟩
    | exact Or.inr fun _ => ⟨rfl, rfl⟩
    | split
    | dsimp only

theorem State.settleGuard_keep (s : State) {k0 : Nat} {z0 : State} (hk : Nat.land 0x308 k0 = 0x308) (hz : Keep k0 z0 s) : Keep k0 z0 (State.settleGuard s) := by
  refine Keep.step ?_ hk hz
  unfold State.settleGuard
  try simp -zeta only [State.fold_dev]
  repeat' first
    | with_reducible refine Keep.ite ?_ ?_
    | with_reducible refine Keep.foldl _ ?_ ?_
    | intro u x hu
    | with_reducible apply State.setMode_keep
    | with_reducible apply Keep.set_dev
    | with_reducible exact Keep.refl _ _
    | with_reducible assumption
    | exact rfl
    | exact id
    | exact Or.inl rfl
    | exact Or.inr rfl
    | exact Or.inr (List.prefix_refl _)
    | exact Or.inr fun _ => rfl
    | exact Or.inr ⟨rfl, rfl, rfl⟩
    | exact Or.inr fun _ => ⟨rfl, rfl, rfl⟩
    | exact Or.inr fun _ => ⟨rfl, rfl⟩
    | split
    | dsimp only

theorem State.settlePorts_keep (s : State) {k0 : Nat} {z0 : State} (hk : Nat.land 0x308 k0 = 0x308) (hz : Keep k0 z0 s) : Keep k0 z0 (State.settlePorts s) := by
  refine Keep.step ?_ hk hz
  unfold State.settlePorts
  repeat' first
    | with_reducible refine Keep.ite ?_ ?_
    | with_reducible apply State.setMode_keep
    | with_reducible exact Keep.refl _ _
    | with_reducible assumption
    | exact rfl
    | exact id
    | exact Or.inl rfl
    | exact Or.inr rfl
    | exact Or.inr (List.prefix_refl _)
    | exact Or.inr fun _ => rfl
    | exact Or.inr ⟨rfl, rfl, rfl⟩
    | exact Or.inr fun _ => ⟨rfl, rfl, rfl⟩
    | exact Or.inr fun _ => ⟨rfl, rfl⟩
    | split
    | dsimp only

theorem State.settle_keep (s : State) {k0 : Nat} {z0 : State} (hk : Nat.land 0x20000005b08 k0 = 0x20000005b08) (hz : Keep k0 z0 s) : Keep k0 z0 (State.settle s) := by
  refine Keep.step ?_ hk hz
  unfold State.settle
  repeat' first
    | with_reducible refine Keep.ite ?_ ?_
    | with_reducible apply State.settlePorts_keep
    | with_reducible apply State.settleGuard_keep
    | with_reducible apply State.settleErr_keep
    | with_reducible apply State.settleIcu_keep
    | with_reducible exact Keep.refl _ _
    | with_reducible assumption
    | exact rfl
    | exact id
    | exact Or.inl rfl
    | exact Or.inr rfl
    | exact Or.inr (List.prefix_refl _)
    | exact Or.inr fun _ => rfl
    | exact Or.inr ⟨rfl, rfl, rfl⟩
    | exact Or.inr fun _ => ⟨rfl, rfl, rfl⟩
    | exact Or.inr fun _ => ⟨rfl, rfl⟩
    | split
    | dsimp only

theorem EvQueue.flushLost_others (q : EvQueue) (b : BitVec 64) (h : q.others ≤ 960) : (q.flushLost b).others ≤ 960 := by
  unfold EvQueue.flushLost
  split
  · rename_i h'
    exact Nat.le_trans (EvQueue.push_others ..) h'.2
  · exact h

theorem State.flushLost_keep (s : State) (r : Requester) {k0 : Nat} {z0 : State} (hk : Nat.land 0x20000000300 k0 = 0x20000000300) (hz : Keep k0 z0 s) : Keep k0 z0 (s.flushLost r) := by
  refine Keep.step ?_ hk hz
  unfold State.flushLost
  split
  · exact State.pmcEvent_keep _ _ _ rfl (Keep.modQueue rfl (fun q hq => EvQueue.flushLost_others q _ hq) (Keep.refl _ _))
  · exact Keep.refl _ _

/-- A record other than a completion enters a queue only while it has room. -/
theorem Keep.pushQueue {m : Nat} {s t : State} {r : Requester} {code : Nat} {fl : Byte} {bc : BitVec 64} {d : List Word}
    (hm : m.testBit 9 = true) (hroom : (t.queueAt r).others < 960) (h : Keep m s t) :
    Keep m s (t.modQueue r fun q => q.push code fl bc d) := by
  refine h.trans ⟨fun c hc => ?_, fun b hb => ?_⟩
  · cases c
    case evQueue => rw [show Comp.ctorIdx Comp.evQueue = 9 from rfl, hm] at hc; cases hc
    all_goals first | exact rfl | exact fun _ => Nat.le_refl _ | exact List.prefix_refl _ | exact ⟨rfl, rfl, rfl⟩ | exact fun _ => rfl | exact fun _ => ⟨rfl, rfl⟩ | exact fun _ => ⟨rfl, rfl, rfl⟩
  · cases b
    case queues =>
      intro k
      show (tget (tmod t.ev.queue (fun _ => {}) r.num fun q => q.push code fl bc d) (fun _ => {}) k.num).others ≤ 960
      rw [tget_tmod]
      by_cases hk : k.num = r.num
      · rw [if_pos hk]
        exact Nat.le_trans (EvQueue.push_others ..) hroom
      · rw [if_neg hk]; exact hb k
    all_goals exact hb

theorem State.deliverTo_keep (s0 : State) (r : Requester) (e : Ev) {k0 : Nat} {z0 : State} (hk : Nat.land 0x20000004300 k0 = 0x20000004300) (hz : Keep k0 z0 s0) : Keep k0 z0 (s0.deliverTo r e) := by
  refine Keep.step ?_ hk hz
  unfold State.deliverTo
  dsimp only
  have h0 : Keep 0x20000004300 s0 (s0.flushLost r) := State.flushLost_keep _ _ rfl (Keep.refl _ _)
  split
  · rename_i h
    exact State.pmcEvent_keep _ _ _ rfl (Keep.pushQueue rfl h.1 h0)
  · exact State.pmcEvent_keep _ _ _ rfl (State.errSet_keep _ _ _ rfl (Keep.modQueue rfl (fun q hq => hq) h0))

theorem State.cmdDone_keep (s : State) (r : Requester) (o : Outst) (status detail : Nat) (info : Word) (result : List Word) {k0 : Nat} {z0 : State} (hk : Nat.land 0x20000001b00 k0 = 0x20000001b00) (hz : Keep k0 z0 s) :
    Keep k0 z0 (s.cmdDone r o status detail info result) := by
  refine Keep.step ?_ hk hz
  unfold State.cmdDone
  dsimp only
  refine State.settleIcuOf_keep _ _ rfl (State.pmcEvent_keep _ _ _ rfl (Keep.modQueue rfl (fun q hq => ?_) (Keep.refl _ _)))
  rw [EvQueue.push_done]
  exact hq

end Sys2Proof.Machine
end

