-- ==== Sys2Proof/Laws/KeepShared.lean ====
section
/-! SUPPORT. `Keep` for every operation of `Machine/Mailbox.lean`, `Machine/Bus.lean`, `Machine/Report.lean`, `Machine/OcuOps.lean`. -/

set_option linter.unusedTactic false
set_option linter.unreachableTactic false
set_option linter.unnecessarySeqFocus false
set_option linter.unusedVariables false
set_option linter.unusedSimpArgs false

namespace Sys2Proof.Machine

theorem State.complete_keep (s : State) (m : Sentence) (code detail : Nat) (o : Obj) (words : List Word) (bytes : Nat) {k0 : Nat} {z0 : State} (hk : Nat.land 0x20000001b80 k0 = 0x20000001b80) (hz : Keep k0 z0 s) : Keep k0 z0 (State.complete s m code detail o words bytes) := by
  refine Keep.step ?_ hk hz
  unfold State.complete
  try simp -zeta only [State.fold_mb]
  repeat' first
    | with_reducible refine Keep.ite ?_ ?_
    | with_reducible apply State.edge_keep
    | with_reducible apply Keep.modBox
    | with_reducible apply Keep.set_mb
    | with_reducible exact Keep.refl _ _
    | with_reducible assumption
    | exact rfl
    | exact id
    | exact Or.inl rfl
    | exact Or.inr rfl
    | exact Or.inr (List.prefix_refl _)
    | exact Or.inr fun _ => rfl
    | exact Or.inr ⟨rfl, rfl, rfl⟩
    | exact Or.inr fun _ => ⟨rfl, rfl, rfl⟩
    | exact Or.inr fun _ => ⟨rfl, rfl⟩
    | split
    | dsimp only

theorem State.finishObj_keep (s : State) (t : Ticket) (code detail : Nat) (o : Obj) (result : List Word) {k0 : Nat} {z0 : State} (hk : Nat.land 0x20000001b80 k0 = 0x20000001b80) (hz : Keep k0 z0 s) :
    Keep k0 z0 (s.finishObj t code detail o result) := by
  refine Keep.step ?_ hk hz
  unfold State.finishObj
  split
  · exact Keep.refl _ _
  · rename_i x _
    have h1 : Keep 0x20000001b80 s (s.withMb { s.mb with outstanding := s.mb.outstanding.erase x }) :=
      Keep.set_fewer rfl (fun r => (List.Sublist.filter _ (List.erase_sublist)).length_le) (Keep.refl _ _)
    show Keep 0x20000001b80 s (if x.dropped then s.withMb { s.mb with outstanding := s.mb.outstanding.erase x }
      else (s.withMb { s.mb with outstanding := s.mb.outstanding.erase x }).cmdDone _ _ _ _ _ _)
    exact Keep.ite h1 (State.cmdDone_keep _ _ _ _ _ _ _ rfl h1)

theorem State.finish_keep (s : State) (t : Ticket) (code detail : Nat) {k0 : Nat} {z0 : State} (hk : Nat.land 0x20000001b80 k0 = 0x20000001b80) (hz : Keep k0 z0 s) : Keep k0 z0 (State.finish s t code detail) := by
  refine Keep.step ?_ hk hz
  unfold State.finish
  repeat' first
    | with_reducible refine Keep.ite ?_ ?_
    | with_reducible apply State.finishObj_keep
    | with_reducible exact Keep.refl _ _
    | with_reducible assumption
    | exact rfl
    | exact id
    | exact Or.inl rfl
    | exact Or.inr rfl
    | exact Or.inr (List.prefix_refl _)
    | exact Or.inr fun _ => rfl
    | exact Or.inr ⟨rfl, rfl, rfl⟩
    | exact Or.inr fun _ => ⟨rfl, rfl, rfl⟩
    | exact Or.inr fun _ => ⟨rfl, rfl⟩
    | split
    | dsimp only

theorem State.finishOpt_keep (s : State) (t : Option Ticket) (code detail : Nat) (o : Obj) {k0 : Nat} {z0 : State} (hk : Nat.land 0x20000001b80 k0 = 0x20000001b80) (hz : Keep k0 z0 s) : Keep k0 z0 (State.finishOpt s t code detail o) := by
  refine Keep.step ?_ hk hz
  unfold State.finishOpt
  repeat' first
    | with_reducible refine Keep.ite ?_ ?_
    | with_reducible apply State.finishObj_keep
    | with_reducible exact Keep.refl _ _
    | with_reducible assumption
    | exact rfl
    | exact id
    | exact Or.inl rfl
    | exact Or.inr rfl
    | exact Or.inr (List.prefix_refl _)
    | exact Or.inr fun _ => rfl
    | exact Or.inr ⟨rfl, rfl, rfl⟩
    | exact Or.inr fun _ => ⟨rfl, rfl, rfl⟩
    | exact Or.inr fun _ => ⟨rfl, rfl⟩
    | split
    | dsimp only

theorem State.endEnter_keep (s : State) (code detail : Nat) {k0 : Nat} {z0 : State} (hk : Nat.land 0x20000001ba0 k0 = 0x20000001ba0) (hz : Keep k0 z0 s) : Keep k0 z0 (State.endEnter s code detail) := by
  refine Keep.step ?_ hk hz
  unfold State.endEnter
  try simp -zeta only [State.fold_dev]
  repeat' first
    | with_reducible refine Keep.ite ?_ ?_
    | with_reducible refine Keep.foldl _ ?_ ?_
    | intro u x hu
    | intro u hu
    | with_reducible apply State.complete_keep
    | with_reducible apply Keep.set_dev
    | with_reducible exact Keep.refl _ _
    | with_reducible assumption
    | exact rfl
    | exact id
    | exact Or.inl rfl
    | exact Or.inr rfl
    | exact Or.inr (List.prefix_refl _)
    | exact Or.inr fun _ => rfl
    | exact Or.inr ⟨rfl, rfl, rfl⟩
    | exact Or.inr fun _ => ⟨rfl, rfl, rfl⟩
    | exact Or.inr fun _ => ⟨rfl, rfl⟩
    | split
    | dsimp only

/-- What `process` changes: what the command's effect changes, and the mailboxes. -/
theorem process_keep (c : CmdSpec) (check : State → Sentence → List Word → Option Refuse)
    (act : State → Sentence → List Word → State × Reply) (echo : State → Nat → List Word) (m : Sentence) (s0 : State) (n : Nat)
    (hact : ∀ u ws, Keep n u (act u m ws).1) (hn : n.testBit 46 = false)
    {k0 : Nat} {z0 : State} (hnk : Nat.land n k0 = n) (hk : Nat.land 0x420000001b80 k0 = 0x420000001b80) (hz : Keep k0 z0 s0) :
    Keep k0 z0 (process c check act echo m s0) := by
  have hk0 : Nat.land 0x20000001b80 k0 = 0x20000001b80 := by
    have h1 : 0x20000001b80 &&& 0x420000001b80 = 0x20000001b80 := rfl
    have h2 : 0x420000001b80 &&& k0 = 0x420000001b80 := hk
    show 0x20000001b80 &&& k0 = 0x20000001b80
    rw [← h1, Nat.and_assoc, h2]
  have hmb : k0.testBit 7 = true := by
    have h2 : 0x420000001b80 &&& k0 = 0x420000001b80 := hk
    have h3 := congrArg (·.testBit 7) h2
    simp only [Nat.testBit_and, show (0x420000001b80 : Nat).testBit 7 = true from rfl, Bool.true_and] at h3
    exact h3
  have hgb : k0.testBit 46 = true := by
    have h2 : 0x420000001b80 &&& k0 = 0x420000001b80 := hk
    have h3 := congrArg (·.testBit 46) h2
    simp only [Nat.testBit_and, show (0x420000001b80 : Nat).testBit 46 = true from rfl, Bool.true_and] at h3
    exact h3
  unfold process
  dsimp only
  have hs : Keep k0 z0 (s0.pmcEvent 0x010 1) := State.pmcEvent_keep _ _ _ (by
    have h1 : (0x20000000300 : Nat) &&& 0x420000001b80 = 0x20000000300 := rfl
    have h2 : 0x420000001b80 &&& k0 = 0x420000001b80 := hk
    show 0x20000000300 &&& k0 = 0x20000000300
    rw [← h1, Nat.and_assoc, h2]) hz
  generalize s0.pmcEvent 0x010 1 = s at hs
  have hc : ∀ {u : State} (code detail : Nat) (o : Obj) (ws : List Word) (k : Nat), Keep k0 z0 u →
      Keep k0 z0 (u.complete m code detail o ws k) := fun code detail o ws k h => State.complete_keep _ _ _ _ _ _ _ hk0 h
  split
  · exact hc _ _ _ _ _ hs
  · split
    · exact hc _ _ _ _ _ hs
    · have he := (hact s ((s.boxAt m.req m.mbx).words m.len.toNat)).step hnk hs
      have hshrink := (hact s ((s.boxAt m.req m.mbx).words m.len.toNat)).1 .outstanding hn
      generalize act s m ((s.boxAt m.req m.mbx).words m.len.toNat) = e at he hshrink
      split
      · exact Keep.ite (hc _ _ _ _ _ hs) (Keep.ite (hc _ _ _ _ _ he) (hc _ _ _ _ _ he))
      · exact Keep.ite (hc _ _ _ _ _ hs) (Keep.ite (hc _ _ _ _ _ he) (hc _ _ _ _ _ he))
      · exact Keep.ite (hc _ _ _ _ _ hs) he
      · exact hc _ _ _ _ _ (Keep.ite hs he)
      · split
        · exact hc _ _ _ _ _ hs
        · rename_i ht
          have hroom : (s.outstandingOf m.req).length < 64 := by
            unfold ticketCheck at ht
            split at ht
            · cases ht
            · split at ht
              · cases ht
              · omega
          have add : ∀ u : State, Keep k0 z0 u → (∀ r : Requester, (u.outstandingOf r).length ≤ (s.outstandingOf r).length) →
              Keep k0 z0 (u.withMb { u.mb with outstanding := u.mb.outstanding ++ [outstOf c m] }) := by
            intro u hu hle
            refine Keep.set_more hmb hgb (fun hb r => ?_) hu
            rw [List.filter_append, List.length_append]
            by_cases hr : r = m.req
            · subst hr
              have h1 := hle m.req
              have h2 : ([outstOf c m].filter fun o => o.req = m.req ∧ !o.dropped).length ≤ 1 := List.length_filter_le ..
              have h3 : (u.mb.outstanding.filter fun o => o.req = m.req ∧ !o.dropped).length < 64 := Nat.lt_of_le_of_lt h1 hroom
              omega
            · have h2 : ([outstOf c m].filter fun o => o.req = r ∧ !o.dropped).length = 0 := by
                simp [outstOf, Ne.symm hr]
              have h3 : (u.mb.outstanding.filter fun o => o.req = r ∧ !o.dropped).length ≤ 64 := hb r
              omega
          have hbase : Keep k0 z0 (if m.check ∧ !isLoad c then s else e.1) ∧ ∀ r : Requester,
              ((if m.check ∧ !isLoad c then s else e.1).outstandingOf r).length ≤ (s.outstandingOf r).length := by
            split
            · exact ⟨hs, fun r => Nat.le_refl _⟩
            · exact ⟨he, hshrink⟩
          have h2 := hc cAccepted 0 (c.inst.obj m.inst.toNat ((s.boxAt m.req m.mbx).words m.len.toNat)) ‹List Word›
            (4 * (‹List Word› : List Word).length) (add _ hbase.1 hbase.2)
          exact Keep.ite (State.finishObj_keep _ _ _ _ _ _ hk0 h2) h2

/-- What a RING changes: what the command's run changes. -/
theorem State.ring_keep (s : State) (verb noun : Nat) (run : Sentence → State → State) (a : Sentence)
    {k0 : Nat} {z0 : State} (hrun : ∀ u, Keep k0 z0 u → Keep k0 z0 (run a u)) (hk : k0.testBit 7 = true) (hz : Keep k0 z0 s) :
    Keep k0 z0 (s.ring verb noun run a) := by
  unfold State.ring
  refine Keep.ite hz ?_
  have h1 : Keep k0 z0 (s.modBox a.req a.mbx fun b => { b with state := .busy }) := Keep.modBox hk hz
  exact Keep.ite (hrun _ h1) (Keep.set_mb hk rfl h1)

/-- What a submission changes: what the command's run changes, and the mailbox. -/
theorem submit_keep (verb noun : Nat) (run : Sentence → State → State) (a : Sentence) (s : State)
    {k0 : Nat} {z0 : State} (hrun : ∀ u, Keep k0 z0 u → Keep k0 z0 (run a u)) (hk : k0.testBit 7 = true) (hz : Keep k0 z0 s) :
    Keep k0 z0 (submit verb noun run a s) := by
  unfold submit
  refine Keep.ite (Keep.ite (Keep.set_mb hk rfl hz) ?_) hz
  exact State.ring_keep _ _ _ _ _ hrun hk (Keep.modBox hk hz)

theorem getAct_keep (f : State → Nat → List Word) (s : State) (a : Sentence) (ws : List Word) :
    Keep 0 s (getAct f s a ws).1 := Keep.refl _ _

theorem State.answer_keep (s : State) (ws : List Word) {k0 : Nat} {z0 : State} (hk : Nat.land 0x10 k0 = 0x10) (hz : Keep k0 z0 s) : Keep k0 z0 (State.answer s ws) := by
  refine Keep.step ?_ hk hz
  unfold State.answer
  try simp -zeta only [State.fold_dev]
  repeat' first
    | with_reducible refine Keep.ite ?_ ?_
    | with_reducible apply Keep.set_dev
    | with_reducible exact Keep.refl _ _
    | with_reducible assumption
    | exact rfl
    | exact id
    | exact Or.inl rfl
    | exact Or.inr rfl
    | exact Or.inr (List.prefix_refl _)
    | exact Or.inr fun _ => rfl
    | exact Or.inr ⟨rfl, rfl, rfl⟩
    | exact Or.inr fun _ => ⟨rfl, rfl, rfl⟩
    | exact Or.inr fun _ => ⟨rfl, rfl⟩
    | split
    | dsimp only

theorem State.discardWrite_keep (s : State) (r : Requester) {k0 : Nat} {z0 : State} (hk : Nat.land 0x20000007b00 k0 = 0x20000007b00) (hz : Keep k0 z0 s) : Keep k0 z0 (State.discardWrite s r) := by
  refine Keep.step ?_ hk hz
  unfold State.discardWrite
  try simp -zeta only [State.fold_hif]
  repeat' first
    | with_reducible refine Keep.ite ?_ ?_
    | with_reducible apply State.errSet_keep
    | with_reducible apply State.settleIcuOf_keep
    | with_reducible apply Keep.set_hif
    | with_reducible exact Keep.refl _ _
    | with_reducible assumption
    | exact rfl
    | exact id
    | exact Or.inl rfl
    | exact Or.inr rfl
    | exact Or.inr (List.prefix_refl _)
    | exact Or.inr fun _ => rfl
    | exact Or.inr ⟨rfl, rfl, rfl⟩
    | exact Or.inr fun _ => ⟨rfl, rfl, rfl⟩
    | exact Or.inr fun _ => ⟨rfl, rfl⟩
    | split
    | dsimp only

theorem State.onBus_keep (s : State) (r : Requester) (f : State → State) {k0 : Nat} {z0 : State}
    (hf : ∀ u, Keep k0 z0 u → Keep k0 z0 (f u)) (hz : Keep k0 z0 s) : Keep k0 z0 (s.onBus r f) :=
  Keep.ite (hf _ hz) hz

theorem execBar0WideRead_keep (r : Requester) (_off _dwords : Nat) (s : State) {t : State} (h : execBar0WideRead r _off _dwords s = .next t) : Keep 0x10 s t := by
  unfold execBar0WideRead at h
  injection h with h
  subst h
  try simp -zeta only [State.fold_dev]
  repeat' first
    | with_reducible refine Keep.ite ?_ ?_
    | intro u hu
    | with_reducible apply State.onBus_keep
    | with_reducible apply Keep.set_dev
    | with_reducible exact Keep.refl _ _
    | with_reducible assumption
    | exact rfl
    | exact id
    | exact Or.inl rfl
    | exact Or.inr rfl
    | exact Or.inr (List.prefix_refl _)
    | exact Or.inr fun _ => rfl
    | exact Or.inr ⟨rfl, rfl, rfl⟩
    | exact Or.inr fun _ => ⟨rfl, rfl, rfl⟩
    | exact Or.inr fun _ => ⟨rfl, rfl⟩
    | split
    | dsimp only

theorem State.tkuSnap_keep (s : State) (r : Requester) {k0 : Nat} {z0 : State} (hk : Nat.land 0x2010 k0 = 0x2010) (hz : Keep k0 z0 s) : Keep k0 z0 (State.tkuSnap s r) := by
  refine Keep.step ?_ hk hz
  unfold State.tkuSnap
  repeat' first
    | with_reducible refine Keep.ite ?_ ?_
    | with_reducible apply State.answer_keep
    | with_reducible apply Keep.modSnap
    | with_reducible exact Keep.refl _ _
    | with_reducible assumption
    | exact rfl
    | exact id
    | exact Or.inl rfl
    | exact Or.inr rfl
    | exact Or.inr (List.prefix_refl _)
    | exact Or.inr fun _ => rfl
    | exact Or.inr ⟨rfl, rfl, rfl⟩
    | exact Or.inr fun _ => ⟨rfl, rfl, rfl⟩
    | exact Or.inr fun _ => ⟨rfl, rfl⟩
    | split
    | dsimp only

theorem execTkuBcntLoRead_keep (r : Requester) (s : State) {t : State} (h : execTkuBcntLoRead r s = .next t) : Keep 0x2010 s t := by
  unfold execTkuBcntLoRead at h
  injection h with h
  subst h
  repeat' first
    | with_reducible refine Keep.ite ?_ ?_
    | intro u hu
    | with_reducible apply State.onBus_keep
    | with_reducible apply State.tkuSnap_keep
    | with_reducible exact Keep.refl _ _
    | with_reducible assumption
    | exact rfl
    | exact id
    | exact Or.inl rfl
    | exact Or.inr rfl
    | exact Or.inr (List.prefix_refl _)
    | exact Or.inr fun _ => rfl
    | exact Or.inr ⟨rfl, rfl, rfl⟩
    | exact Or.inr fun _ => ⟨rfl, rfl, rfl⟩
    | exact Or.inr fun _ => ⟨rfl, rfl⟩
    | split
    | dsimp only

theorem State.tkuWrite_keep (s : State) (r : Requester) (f : State → State) {k0 : Nat} {z0 : State}
    (hf : ∀ u, Keep k0 z0 u → Keep k0 z0 (f u)) (hk : Nat.land 0x20000007b00 k0 = 0x20000007b00) (hz : Keep k0 z0 s) :
    Keep k0 z0 (s.tkuWrite r f) := by
  unfold State.tkuWrite
  refine State.onBus_keep _ _ _ (fun u hu => ?_) hz
  split
  · exact hf _ hu
  · exact State.discardWrite_keep _ _ hk hu
  · exact hu

theorem State.incLo_keep (s : State) (d : Domain) (v : Word) {k0 : Nat} {z0 : State} (hk : Nat.land 0x2000000fb00 k0 = 0x2000000fb00) (hz : Keep k0 z0 s) : Keep k0 z0 (State.incLo s d v) := by
  refine Keep.step ?_ hk hz
  unfold State.incLo
  repeat' first
    | with_reducible refine Keep.ite ?_ ?_
    | with_reducible apply State.discardWrite_keep
    | with_reducible apply Keep.modDom
    | with_reducible exact Keep.refl _ _
    | with_reducible assumption
    | exact rfl
    | exact id
    | exact Or.inl rfl
    | exact Or.inr rfl
    | exact Or.inr (List.prefix_refl _)
    | exact Or.inr fun _ => rfl
    | exact Or.inr ⟨rfl, rfl, rfl⟩
    | exact Or.inr fun _ => ⟨rfl, rfl, rfl⟩
    | exact Or.inr fun _ => ⟨rfl, rfl⟩
    | split
    | dsimp only

theorem State.incHi_keep (s : State) (d : Domain) (v : Word) {k0 : Nat} {z0 : State} (hk : Nat.land 0x2000000fb00 k0 = 0x2000000fb00) (hz : Keep k0 z0 s) : Keep k0 z0 (State.incHi s d v) := by
  refine Keep.step ?_ hk hz
  unfold State.incHi
  try simp -zeta only [State.fold_tku]
  repeat' first
    | with_reducible refine Keep.ite ?_ ?_
    | with_reducible apply State.discardWrite_keep
    | with_reducible apply Keep.modDom
    | with_reducible apply Keep.set_tku
    | with_reducible exact Keep.refl _ _
    | with_reducible assumption
    | exact rfl
    | exact id
    | exact Or.inl rfl
    | exact Or.inr rfl
    | exact Or.inr (List.prefix_refl _)
    | exact Or.inr fun _ => rfl
    | exact Or.inr ⟨rfl, rfl, rfl⟩
    | exact Or.inr fun _ => ⟨rfl, rfl, rfl⟩
    | exact Or.inr fun _ => ⟨rfl, rfl⟩
    | split
    | dsimp only

theorem execTkuIncLoWrite_keep (r : Requester) (d : Domain) (v : Word) (s : State) {t : State} (h : execTkuIncLoWrite r d v s = .next t) : Keep 0x2000000fb00 s t := by
  unfold execTkuIncLoWrite at h
  injection h with h
  subst h
  repeat' first
    | with_reducible refine Keep.ite ?_ ?_
    | intro u hu
    | with_reducible apply State.tkuWrite_keep
    | with_reducible apply State.incLo_keep
    | with_reducible exact Keep.refl _ _
    | with_reducible assumption
    | exact rfl
    | exact id
    | exact Or.inl rfl
    | exact Or.inr rfl
    | exact Or.inr (List.prefix_refl _)
    | exact Or.inr fun _ => rfl
    | exact Or.inr ⟨rfl, rfl, rfl⟩
    | exact Or.inr fun _ => ⟨rfl, rfl, rfl⟩
    | exact Or.inr fun _ => ⟨rfl, rfl⟩
    | split
    | dsimp only

theorem execTkuIncHiWrite_keep (r : Requester) (d : Domain) (v : Word) (s : State) {t : State} (h : execTkuIncHiWrite r d v s = .next t) : Keep 0x2000000fb00 s t := by
  unfold execTkuIncHiWrite at h
  injection h with h
  subst h
  repeat' first
    | with_reducible refine Keep.ite ?_ ?_
    | intro u hu
    | with_reducible apply State.tkuWrite_keep
    | with_reducible apply State.incHi_keep
    | with_reducible exact Keep.refl _ _
    | with_reducible assumption
    | exact rfl
    | exact id
    | exact Or.inl rfl
    | exact Or.inr rfl
    | exact Or.inr (List.prefix_refl _)
    | exact Or.inr fun _ => rfl
    | exact Or.inr ⟨rfl, rfl, rfl⟩
    | exact Or.inr fun _ => ⟨rfl, rfl, rfl⟩
    | exact Or.inr fun _ => ⟨rfl, rfl⟩
    | split
    | dsimp only

theorem State.stepGo_keep (s : State) (a b : Bool) {k0 : Nat} {z0 : State} (hk : Nat.land 0x8000 k0 = 0x8000) (hz : Keep k0 z0 s) : Keep k0 z0 (State.stepGo s a b) := by
  refine Keep.step ?_ hk hz
  unfold State.stepGo
  try simp -zeta only [State.fold_tku]
  repeat' first
    | with_reducible refine Keep.ite ?_ ?_
    | with_reducible apply Keep.set_tku
    | with_reducible exact Keep.refl _ _
    | with_reducible assumption
    | exact rfl
    | exact id
    | exact Or.inl rfl
    | exact Or.inr rfl
    | exact Or.inr (List.prefix_refl _)
    | exact Or.inr fun _ => rfl
    | exact Or.inr ⟨rfl, rfl, rfl⟩
    | exact Or.inr fun _ => ⟨rfl, rfl, rfl⟩
    | exact Or.inr fun _ => ⟨rfl, rfl⟩
    | split
    | dsimp only

theorem execTkuStepGoA_keep (r : Requester) (s : State) {t : State} (h : execTkuStepGoA r s = .next t) : Keep 0x2000000fb00 s t := by
  unfold execTkuStepGoA at h
  injection h with h
  subst h
  repeat' first
    | with_reducible refine Keep.ite ?_ ?_
    | intro u hu
    | with_reducible apply State.tkuWrite_keep
    | with_reducible apply State.stepGo_keep
    | with_reducible exact Keep.refl _ _
    | with_reducible assumption
    | exact rfl
    | exact id
    | exact Or.inl rfl
    | exact Or.inr rfl
    | exact Or.inr (List.prefix_refl _)
    | exact Or.inr fun _ => rfl
    | exact Or.inr ⟨rfl, rfl, rfl⟩
    | exact Or.inr fun _ => ⟨rfl, rfl, rfl⟩
    | exact Or.inr fun _ => ⟨rfl, rfl⟩
    | split
    | dsimp only

theorem execTkuStepGoB_keep (r : Requester) (both : Bool) (s : State) {t : State} (h : execTkuStepGoB r both s = .next t) : Keep 0x2000000fb00 s t := by
  unfold execTkuStepGoB at h
  injection h with h
  subst h
  repeat' first
    | with_reducible refine Keep.ite ?_ ?_
    | intro u hu
    | with_reducible apply State.tkuWrite_keep
    | with_reducible apply State.stepGo_keep
    | with_reducible exact Keep.refl _ _
    | with_reducible assumption
    | exact rfl
    | exact id
    | exact Or.inl rfl
    | exact Or.inr rfl
    | exact Or.inr (List.prefix_refl _)
    | exact Or.inr fun _ => rfl
    | exact Or.inr ⟨rfl, rfl, rfl⟩
    | exact Or.inr fun _ => ⟨rfl, rfl, rfl⟩
    | exact Or.inr fun _ => ⟨rfl, rfl⟩
    | split
    | dsimp only

theorem State.domSelWrite_keep (s : State) (v : Word) {k0 : Nat} {z0 : State} (hk : Nat.land 0x2000000fb00 k0 = 0x2000000fb00) (hz : Keep k0 z0 s) : Keep k0 z0 (State.domSelWrite s v) := by
  refine Keep.step ?_ hk hz
  unfold State.domSelWrite
  try simp -zeta only [State.fold_tku]
  repeat' first
    | with_reducible refine Keep.ite ?_ ?_
    | with_reducible apply State.discardWrite_keep
    | with_reducible apply Keep.set_tku
    | with_reducible exact Keep.refl _ _
    | with_reducible assumption
    | exact rfl
    | exact id
    | exact Or.inl rfl
    | exact Or.inr rfl
    | exact Or.inr (List.prefix_refl _)
    | exact Or.inr fun _ => rfl
    | exact Or.inr ⟨rfl, rfl, rfl⟩
    | exact Or.inr fun _ => ⟨rfl, rfl, rfl⟩
    | exact Or.inr fun _ => ⟨rfl, rfl⟩
    | split
    | dsimp only

theorem execTkuDomSelWrite_keep (r : Requester) (v : Word) (s : State) {t : State} (h : execTkuDomSelWrite r v s = .next t) : Keep 0x2000000fb00 s t := by
  unfold execTkuDomSelWrite at h
  injection h with h
  subst h
  repeat' first
    | with_reducible refine Keep.ite ?_ ?_
    | intro u hu
    | with_reducible apply State.tkuWrite_keep
    | with_reducible apply State.domSelWrite_keep
    | with_reducible exact Keep.refl _ _
    | with_reducible assumption
    | exact rfl
    | exact id
    | exact Or.inl rfl
    | exact Or.inr rfl
    | exact Or.inr (List.prefix_refl _)
    | exact Or.inr fun _ => rfl
    | exact Or.inr ⟨rfl, rfl, rfl⟩
    | exact Or.inr fun _ => ⟨rfl, rfl, rfl⟩
    | exact Or.inr fun _ => ⟨rfl, rfl⟩
    | split
    | dsimp only

theorem State.tkuStatusWrite_keep (s : State) (v now : Word) {k0 : Nat} {z0 : State} (hk : Nat.land 0x8000 k0 = 0x8000) (hz : Keep k0 z0 s) : Keep k0 z0 (State.tkuStatusWrite s v now) := by
  refine Keep.step ?_ hk hz
  unfold State.tkuStatusWrite
  try simp -zeta only [State.fold_tku]
  repeat' first
    | with_reducible refine Keep.ite ?_ ?_
    | with_reducible apply Keep.set_tku
    | with_reducible exact Keep.refl _ _
    | with_reducible assumption
    | exact rfl
    | exact id
    | exact Or.inl rfl
    | exact Or.inr rfl
    | exact Or.inr (List.prefix_refl _)
    | exact Or.inr fun _ => rfl
    | exact Or.inr ⟨rfl, rfl, rfl⟩
    | exact Or.inr fun _ => ⟨rfl, rfl, rfl⟩
    | exact Or.inr fun _ => ⟨rfl, rfl⟩
    | split
    | dsimp only

theorem execTkuStatusClear_keep (r : Requester) (v now : Word) (s : State) {t : State} (h : execTkuStatusClear r v now s = .next t) : Keep 0x2000000fb00 s t := by
  unfold execTkuStatusClear at h
  injection h with h
  subst h
  repeat' first
    | with_reducible refine Keep.ite ?_ ?_
    | intro u hu
    | with_reducible apply State.tkuWrite_keep
    | with_reducible apply State.tkuStatusWrite_keep
    | with_reducible exact Keep.refl _ _
    | with_reducible assumption
    | exact rfl
    | exact id
    | exact Or.inl rfl
    | exact Or.inr rfl
    | exact Or.inr (List.prefix_refl _)
    | exact Or.inr fun _ => rfl
    | exact Or.inr ⟨rfl, rfl, rfl⟩
    | exact Or.inr fun _ => ⟨rfl, rfl, rfl⟩
    | exact Or.inr fun _ => ⟨rfl, rfl⟩
    | split
    | dsimp only

theorem State.funcBus_keep (s : State) (r : Requester) (f : State → State) {k0 : Nat} {z0 : State}
    (hf : ∀ u, Keep k0 z0 u → Keep k0 z0 (f u)) (hz : Keep k0 z0 s) : Keep k0 z0 (s.funcBus r f) :=
  State.onBus_keep _ _ _ (fun u hu => Keep.ite hu (hf u hu)) hz

theorem State.claim_keep (s : State) (r : Requester) (v : Nat) {k0 : Nat} {z0 : State} (hk : Nat.land 0x810 k0 = 0x810) (hz : Keep k0 z0 s) : Keep k0 z0 (State.claim s r v) := by
  refine Keep.step ?_ hk hz
  unfold State.claim
  repeat' first
    | with_reducible refine Keep.ite ?_ ?_
    | with_reducible apply State.answer_keep
    | with_reducible apply Keep.modSrc
    | with_reducible exact Keep.refl _ _
    | with_reducible assumption
    | exact rfl
    | exact id
    | exact Or.inl rfl
    | exact Or.inr rfl
    | exact Or.inr (List.prefix_refl _)
    | exact Or.inr fun _ => rfl
    | exact Or.inr ⟨rfl, rfl, rfl⟩
    | exact Or.inr fun _ => ⟨rfl, rfl, rfl⟩
    | exact Or.inr fun _ => ⟨rfl, rfl⟩
    | split
    | dsimp only

theorem execIcuClaimRead_keep (r : Requester) (vec : Nat) (s : State) {t : State} (h : execIcuClaimRead r vec s = .next t) : Keep 0x810 s t := by
  unfold execIcuClaimRead at h
  injection h with h
  subst h
  repeat' first
    | with_reducible refine Keep.ite ?_ ?_
    | intro u hu
    | with_reducible apply State.funcBus_keep
    | with_reducible apply State.claim_keep
    | with_reducible exact Keep.refl _ _
    | with_reducible assumption
    | exact rfl
    | exact id
    | exact Or.inl rfl
    | exact Or.inr rfl
    | exact Or.inr (List.prefix_refl _)
    | exact Or.inr fun _ => rfl
    | exact Or.inr ⟨rfl, rfl, rfl⟩
    | exact Or.inr fun _ => ⟨rfl, rfl, rfl⟩
    | exact Or.inr fun _ => ⟨rfl, rfl⟩
    | split
    | dsimp only

theorem State.completeSrc_keep (s : State) (r : Requester) (src : Nat) {k0 : Nat} {z0 : State} (hk : Nat.land 0x20000001b00 k0 = 0x20000001b00) (hz : Keep k0 z0 s) : Keep k0 z0 (State.completeSrc s r src) := by
  refine Keep.step ?_ hk hz
  unfold State.completeSrc
  repeat' first
    | with_reducible refine Keep.ite ?_ ?_
    | with_reducible apply State.enterPending_keep
    | with_reducible apply Keep.modSrc
    | with_reducible apply Keep.modIcu
    | with_reducible exact Keep.refl _ _
    | with_reducible assumption
    | exact rfl
    | exact id
    | exact Or.inl rfl
    | exact Or.inr rfl
    | exact Or.inr (List.prefix_refl _)
    | exact Or.inr fun _ => rfl
    | exact Or.inr ⟨rfl, rfl, rfl⟩
    | exact Or.inr fun _ => ⟨rfl, rfl, rfl⟩
    | exact Or.inr fun _ => ⟨rfl, rfl⟩
    | split
    | dsimp only

theorem execIcuCompleteWrite_keep (r : Requester) (v : Word) (s : State) {t : State} (h : execIcuCompleteWrite r v s = .next t) : Keep 0x20000001b00 s t := by
  unfold execIcuCompleteWrite at h
  injection h with h
  subst h
  repeat' first
    | with_reducible refine Keep.ite ?_ ?_
    | intro u hu
    | with_reducible apply State.funcBus_keep
    | with_reducible apply State.completeSrc_keep
    | with_reducible exact Keep.refl _ _
    | with_reducible assumption
    | exact rfl
    | exact id
    | exact Or.inl rfl
    | exact Or.inr rfl
    | exact Or.inr (List.prefix_refl _)
    | exact Or.inr fun _ => rfl
    | exact Or.inr ⟨rfl, rfl, rfl⟩
    | exact Or.inr fun _ => ⟨rfl, rfl, rfl⟩
    | exact Or.inr fun _ => ⟨rfl, rfl⟩
    | split
    | dsimp only

theorem State.look_keep (s : State) (r : Requester) {k0 : Nat} {z0 : State} (hk : Nat.land 0x800 k0 = 0x800) (hz : Keep k0 z0 s) : Keep k0 z0 (State.look s r) := by
  refine Keep.step ?_ hk hz
  unfold State.look
  repeat' first
    | with_reducible refine Keep.ite ?_ ?_
    | with_reducible refine Keep.foldl _ ?_ ?_
    | intro u x hu
    | intro u hu
    | with_reducible apply Keep.modSrc
    | with_reducible exact Keep.refl _ _
    | with_reducible assumption
    | exact rfl
    | exact id
    | exact Or.inl rfl
    | exact Or.inr rfl
    | exact Or.inr (List.prefix_refl _)
    | exact Or.inr fun _ => rfl
    | exact Or.inr ⟨rfl, rfl, rfl⟩
    | exact Or.inr fun _ => ⟨rfl, rfl, rfl⟩
    | exact Or.inr fun _ => ⟨rfl, rfl⟩
    | split
    | dsimp only

theorem execIcuLevelRead_keep (r : Requester) (s : State) {t : State} (h : execIcuLevelRead r s = .next t) : Keep 0x810 s t := by
  unfold execIcuLevelRead at h
  injection h with h
  subst h
  repeat' first
    | with_reducible refine Keep.ite ?_ ?_
    | intro u hu
    | with_reducible apply State.funcBus_keep
    | with_reducible apply State.look_keep
    | with_reducible apply State.answer_keep
    | with_reducible exact Keep.refl _ _
    | with_reducible assumption
    | exact rfl
    | exact id
    | exact Or.inl rfl
    | exact Or.inr rfl
    | exact Or.inr (List.prefix_refl _)
    | exact Or.inr fun _ => rfl
    | exact Or.inr ⟨rfl, rfl, rfl⟩
    | exact Or.inr fun _ => ⟨rfl, rfl, rfl⟩
    | exact Or.inr fun _ => ⟨rfl, rfl⟩
    | split
    | dsimp only

theorem State.icuEnable_keep (s : State) (r : Requester) (v : Word) {k0 : Nat} {z0 : State} (hk : Nat.land 0x20000001b00 k0 = 0x20000001b00) (hz : Keep k0 z0 s) : Keep k0 z0 (State.icuEnable s r v) := by
  refine Keep.step ?_ hk hz
  unfold State.icuEnable
  repeat' first
    | with_reducible refine Keep.ite ?_ ?_
    | with_reducible apply State.settleIcuOf_keep
    | with_reducible apply Keep.modIcu
    | with_reducible exact Keep.refl _ _
    | with_reducible assumption
    | exact rfl
    | exact id
    | exact Or.inl rfl
    | exact Or.inr rfl
    | exact Or.inr (List.prefix_refl _)
    | exact Or.inr fun _ => rfl
    | exact Or.inr ⟨rfl, rfl, rfl⟩
    | exact Or.inr fun _ => ⟨rfl, rfl, rfl⟩
    | exact Or.inr fun _ => ⟨rfl, rfl⟩
    | split
    | dsimp only

theorem execIcuEnableWrite_keep (r : Requester) (v : Word) (s : State) {t : State} (h : execIcuEnableWrite r v s = .next t) : Keep 0x20000001b00 s t := by
  unfold execIcuEnableWrite at h
  injection h with h
  subst h
  repeat' first
    | with_reducible refine Keep.ite ?_ ?_
    | intro u hu
    | with_reducible apply State.funcBus_keep
    | with_reducible apply State.icuEnable_keep
    | with_reducible exact Keep.refl _ _
    | with_reducible assumption
    | exact rfl
    | exact id
    | exact Or.inl rfl
    | exact Or.inr rfl
    | exact Or.inr (List.prefix_refl _)
    | exact Or.inr fun _ => rfl
    | exact Or.inr ⟨rfl, rfl, rfl⟩
    | exact Or.inr fun _ => ⟨rfl, rfl, rfl⟩
    | exact Or.inr fun _ => ⟨rfl, rfl⟩
    | split
    | dsimp only

theorem execIcuPmeCauseClear_keep (r : Requester) (v now : Word) (s : State) {t : State} (h : execIcuPmeCauseClear r v now s = .next t) : Keep 0x800 s t := by
  unfold execIcuPmeCauseClear at h
  injection h with h
  subst h
  repeat' first
    | with_reducible refine Keep.ite ?_ ?_
    | intro u hu
    | with_reducible apply State.funcBus_keep
    | with_reducible apply Keep.modIcu
    | with_reducible exact Keep.refl _ _
    | with_reducible assumption
    | exact rfl
    | exact id
    | exact Or.inl rfl
    | exact Or.inr rfl
    | exact Or.inr (List.prefix_refl _)
    | exact Or.inr fun _ => rfl
    | exact Or.inr ⟨rfl, rfl, rfl⟩
    | exact Or.inr fun _ => ⟨rfl, rfl, rfl⟩
    | exact Or.inr fun _ => ⟨rfl, rfl⟩
    | split
    | dsimp only

theorem State.sendPba_keep (s : State) (r : Requester) (v : Nat) {k0 : Nat} {z0 : State} (hk : Nat.land 0x20000001b00 k0 = 0x20000001b00) (hz : Keep k0 z0 s) : Keep k0 z0 (State.sendPba s r v) := by
  refine Keep.step ?_ hk hz
  unfold State.sendPba
  try simp -zeta only [State.fold_hif]
  repeat' first
    | with_reducible refine Keep.ite ?_ ?_
    | with_reducible apply State.pmcEvent_keep
    | with_reducible apply Keep.modVec
    | with_reducible apply Keep.set_hif
    | with_reducible exact Keep.refl _ _
    | with_reducible assumption
    | exact rfl
    | exact id
    | exact Or.inl rfl
    | exact Or.inr rfl
    | exact Or.inr (List.prefix_refl _)
    | exact Or.inr fun _ => rfl
    | exact Or.inr ⟨rfl, rfl, rfl⟩
    | exact Or.inr fun _ => ⟨rfl, rfl, rfl⟩
    | exact Or.inr fun _ => ⟨rfl, rfl⟩
    | split
    | dsimp only

theorem State.unmask_keep (s : State) (r : Requester) (vec : Option Nat) {k0 : Nat} {z0 : State} (hk : Nat.land 0x20000001b00 k0 = 0x20000001b00) (hz : Keep k0 z0 s) : Keep k0 z0 (State.unmask s r vec) := by
  refine Keep.step ?_ hk hz
  unfold State.unmask
  repeat' first
    | with_reducible refine Keep.ite ?_ ?_
    | with_reducible refine Keep.foldl _ ?_ ?_
    | intro u x hu
    | intro u hu
    | with_reducible apply State.sendPba_keep
    | with_reducible apply Keep.modVec
    | with_reducible apply Keep.modIcu
    | with_reducible exact Keep.refl _ _
    | with_reducible assumption
    | exact rfl
    | exact id
    | exact Or.inl rfl
    | exact Or.inr rfl
    | exact Or.inr (List.prefix_refl _)
    | exact Or.inr fun _ => rfl
    | exact Or.inr ⟨rfl, rfl, rfl⟩
    | exact Or.inr fun _ => ⟨rfl, rfl, rfl⟩
    | exact Or.inr fun _ => ⟨rfl, rfl⟩
    | split
    | dsimp only

theorem execMsixUnmask_keep (r : Requester) (vec : Option Nat) (s : State) {t : State} (h : execMsixUnmask r vec s = .next t) : Keep 0x20000001b00 s t := by
  unfold execMsixUnmask at h
  injection h with h
  subst h
  repeat' first
    | with_reducible refine Keep.ite ?_ ?_
    | intro u hu
    | with_reducible apply State.funcBus_keep
    | with_reducible apply State.unmask_keep
    | with_reducible exact Keep.refl _ _
    | with_reducible assumption
    | exact rfl
    | exact id
    | exact Or.inl rfl
    | exact Or.inr rfl
    | exact Or.inr (List.prefix_refl _)
    | exact Or.inr fun _ => rfl
    | exact Or.inr ⟨rfl, rfl, rfl⟩
    | exact Or.inr fun _ => ⟨rfl, rfl, rfl⟩
    | exact Or.inr fun _ => ⟨rfl, rfl⟩
    | split
    | dsimp only

theorem Pmc.clearDisc_value (c : Pmc) (r : Requester) : (c.clearDisc r).value = c.value := by
  unfold Pmc.clearDisc
  split <;> rfl

theorem State.pmcLatch_keep (s : State) (r : Requester) {k0 : Nat} {z0 : State} (hk : Nat.land 0x20000002010 k0 = 0x20000002010) (hz : Keep k0 z0 s) : Keep k0 z0 (State.pmcLatch s r) := by
  refine Keep.step ?_ hk hz
  unfold State.pmcLatch
  repeat' first
    | exact fun hb => (Pmc.clearDisc_value _ _).symm ▸ State.pmcAt_le hb _
    | with_reducible refine Keep.ite ?_ ?_
    | with_reducible apply State.answer_keep
    | with_reducible apply Keep.setPmc
    | with_reducible apply Keep.modSnap
    | with_reducible exact Keep.refl _ _
    | with_reducible assumption
    | exact rfl
    | exact id
    | exact Or.inl rfl
    | exact Or.inr rfl
    | exact Or.inr (List.prefix_refl _)
    | exact Or.inr fun _ => rfl
    | exact Or.inr ⟨rfl, rfl, rfl⟩
    | exact Or.inr fun _ => ⟨rfl, rfl, rfl⟩
    | exact Or.inr fun _ => ⟨rfl, rfl⟩
    | split
    | dsimp only

theorem execPmcValueLoRead_keep (r : Requester) (s : State) {t : State} (h : execPmcValueLoRead r s = .next t) : Keep 0x20000002010 s t := by
  unfold execPmcValueLoRead at h
  injection h with h
  subst h
  repeat' first
    | with_reducible refine Keep.ite ?_ ?_
    | intro u hu
    | with_reducible apply State.funcBus_keep
    | with_reducible apply State.pmcLatch_keep
    | with_reducible exact Keep.refl _ _
    | with_reducible assumption
    | exact rfl
    | exact id
    | exact Or.inl rfl
    | exact Or.inr rfl
    | exact Or.inr (List.prefix_refl _)
    | exact Or.inr fun _ => rfl
    | exact Or.inr ⟨rfl, rfl, rfl⟩
    | exact Or.inr fun _ => ⟨rfl, rfl, rfl⟩
    | exact Or.inr fun _ => ⟨rfl, rfl⟩
    | split
    | dsimp only

theorem State.pmcGroup_keep (s : State) (r : Requester) {k0 : Nat} {z0 : State} (hk : Nat.land 0x20000007b00 k0 = 0x20000007b00) (hz : Keep k0 z0 s) : Keep k0 z0 (State.pmcGroup s r) := by
  refine Keep.step ?_ hk hz
  unfold State.pmcGroup
  repeat' first
    | exact fun hb => (Pmc.clearDisc_value _ _).symm ▸ State.pmcAt_le hb _
    | with_reducible refine Keep.ite ?_ ?_
    | with_reducible refine Keep.foldl _ ?_ ?_
    | intro u x hu
    | intro u hu
    | with_reducible apply State.discardWrite_keep
    | with_reducible apply Keep.modSnap
    | with_reducible apply Keep.setPmc
    | with_reducible exact Keep.refl _ _
    | with_reducible assumption
    | exact rfl
    | exact id
    | exact Or.inl rfl
    | exact Or.inr rfl
    | exact Or.inr (List.prefix_refl _)
    | exact Or.inr fun _ => rfl
    | exact Or.inr ⟨rfl, rfl, rfl⟩
    | exact Or.inr fun _ => ⟨rfl, rfl, rfl⟩
    | exact Or.inr fun _ => ⟨rfl, rfl⟩
    | split
    | dsimp only

theorem execPmcGroupLatchGo_keep (r : Requester) (s : State) {t : State} (h : execPmcGroupLatchGo r s = .next t) : Keep 0x20000007b00 s t := by
  unfold execPmcGroupLatchGo at h
  injection h with h
  subst h
  repeat' first
    | with_reducible refine Keep.ite ?_ ?_
    | intro u hu
    | with_reducible apply State.funcBus_keep
    | with_reducible apply State.pmcGroup_keep
    | with_reducible exact Keep.refl _ _
    | with_reducible assumption
    | exact rfl
    | exact id
    | exact Or.inl rfl
    | exact Or.inr rfl
    | exact Or.inr (List.prefix_refl _)
    | exact Or.inr fun _ => rfl
    | exact Or.inr ⟨rfl, rfl, rfl⟩
    | exact Or.inr fun _ => ⟨rfl, rfl, rfl⟩
    | exact Or.inr fun _ => ⟨rfl, rfl⟩
    | split
    | dsimp only

theorem State.dmaErrFrom_keep (s old : State) {k0 : Nat} {z0 : State} (hk : Nat.land 0x20000005b00 k0 = 0x20000005b00) (hz : Keep k0 z0 s) : Keep k0 z0 (State.dmaErrFrom s old) := by
  refine Keep.step ?_ hk hz
  unfold State.dmaErrFrom
  repeat' first
    | with_reducible refine Keep.ite ?_ ?_
    | with_reducible refine Keep.foldl _ ?_ ?_
    | intro u x hu
    | intro u hu
    | with_reducible apply State.errSet_keep
    | with_reducible apply State.settleIcuOf_keep
    | with_reducible exact Keep.refl _ _
    | with_reducible assumption
    | exact rfl
    | exact id
    | exact Or.inl rfl
    | exact Or.inr rfl
    | exact Or.inr (List.prefix_refl _)
    | exact Or.inr fun _ => rfl
    | exact Or.inr ⟨rfl, rfl, rfl⟩
    | exact Or.inr fun _ => ⟨rfl, rfl, rfl⟩
    | exact Or.inr fun _ => ⟨rfl, rfl⟩
    | split
    | dsimp only

theorem State.dmaTail_keep (s : State) (r : Requester) (ch : Nat) (v : Word) {k0 : Nat} {z0 : State} (hk : Nat.land 0x20000007b00 k0 = 0x20000007b00) (hz : Keep k0 z0 s) : Keep k0 z0 (State.dmaTail s r ch v) := by
  refine Keep.step ?_ hk hz
  unfold State.dmaTail
  repeat' first
    | with_reducible refine Keep.ite ?_ ?_
    | with_reducible apply State.dmaErrFrom_keep
    | with_reducible apply State.discardWrite_keep
    | with_reducible apply Keep.modDma
    | with_reducible exact Keep.refl _ _
    | with_reducible assumption
    | exact rfl
    | exact id
    | exact Or.inl rfl
    | exact Or.inr rfl
    | exact Or.inr (List.prefix_refl _)
    | exact Or.inr fun _ => rfl
    | exact Or.inr ⟨rfl, rfl, rfl⟩
    | exact Or.inr fun _ => ⟨rfl, rfl, rfl⟩
    | exact Or.inr fun _ => ⟨rfl, rfl⟩
    | split
    | dsimp only

theorem execDmaTailWrite_keep (r : Requester) (ch : Nat) (v : Word) (s : State) {t : State} (h : execDmaTailWrite r ch v s = .next t) : Keep 0x20000007b00 s t := by
  unfold execDmaTailWrite at h
  injection h with h
  subst h
  repeat' first
    | with_reducible refine Keep.ite ?_ ?_
    | intro u hu
    | with_reducible apply State.funcBus_keep
    | with_reducible apply State.dmaTail_keep
    | with_reducible exact Keep.refl _ _
    | with_reducible assumption
    | exact rfl
    | exact id
    | exact Or.inl rfl
    | exact Or.inr rfl
    | exact Or.inr (List.prefix_refl _)
    | exact Or.inr fun _ => rfl
    | exact Or.inr ⟨rfl, rfl, rfl⟩
    | exact Or.inr fun _ => ⟨rfl, rfl, rfl⟩
    | exact Or.inr fun _ => ⟨rfl, rfl⟩
    | split
    | dsimp only

theorem State.dmaStatus_keep (s : State) (r : Requester) (ch : Nat) (v now : Word) {k0 : Nat} {z0 : State} (hk : Nat.land 0x20000007b00 k0 = 0x20000007b00) (hz : Keep k0 z0 s) : Keep k0 z0 (State.dmaStatus s r ch v now) := by
  refine Keep.step ?_ hk hz
  unfold State.dmaStatus
  repeat' first
    | with_reducible refine Keep.ite ?_ ?_
    | with_reducible apply State.dmaErrFrom_keep
    | with_reducible apply State.discardWrite_keep
    | with_reducible apply Keep.modDma
    | with_reducible exact Keep.refl _ _
    | with_reducible assumption
    | exact rfl
    | exact id
    | exact Or.inl rfl
    | exact Or.inr rfl
    | exact Or.inr (List.prefix_refl _)
    | exact Or.inr fun _ => rfl
    | exact Or.inr ⟨rfl, rfl, rfl⟩
    | exact Or.inr fun _ => ⟨rfl, rfl, rfl⟩
    | exact Or.inr fun _ => ⟨rfl, rfl⟩
    | split
    | dsimp only

theorem execDmaStatusClear_keep (r : Requester) (ch : Nat) (v now : Word) (s : State) {t : State} (h : execDmaStatusClear r ch v now s = .next t) : Keep 0x20000007b00 s t := by
  unfold execDmaStatusClear at h
  injection h with h
  subst h
  repeat' first
    | with_reducible refine Keep.ite ?_ ?_
    | intro u hu
    | with_reducible apply State.funcBus_keep
    | with_reducible apply State.dmaStatus_keep
    | with_reducible exact Keep.refl _ _
    | with_reducible assumption
    | exact rfl
    | exact id
    | exact Or.inl rfl
    | exact Or.inr rfl
    | exact Or.inr (List.prefix_refl _)
    | exact Or.inr fun _ => rfl
    | exact Or.inr ⟨rfl, rfl, rfl⟩
    | exact Or.inr fun _ => ⟨rfl, rfl, rfl⟩
    | exact Or.inr fun _ => ⟨rfl, rfl⟩
    | split
    | dsimp only

theorem State.readSticky_keep (s : State) (r : Requester) (now : Word) {k0 : Nat} {z0 : State} (hk : Nat.land 0x20000007b10 k0 = 0x20000007b10) (hz : Keep k0 z0 s) : Keep k0 z0 (State.readSticky s r now) := by
  refine Keep.step ?_ hk hz
  unfold State.readSticky
  try simp -zeta only [State.fold_err]
  repeat' first
    | with_reducible refine Keep.ite ?_ ?_
    | with_reducible refine Keep.foldl _ ?_ ?_
    | intro u x hu
    | intro u hu
    | with_reducible apply State.errSet_keep
    | with_reducible apply State.settleIcuOf_keep
    | with_reducible apply State.answer_keep
    | with_reducible apply Keep.modSnap
    | with_reducible apply Keep.set_err
    | with_reducible exact Keep.refl _ _
    | with_reducible assumption
    | exact rfl
    | exact id
    | exact Or.inl rfl
    | exact Or.inr rfl
    | exact Or.inr (List.prefix_refl _)
    | exact Or.inr fun _ => rfl
    | exact Or.inr ⟨rfl, rfl, rfl⟩
    | exact Or.inr fun _ => ⟨rfl, rfl, rfl⟩
    | exact Or.inr fun _ => ⟨rfl, rfl⟩
    | split
    | dsimp only

theorem execErrStickyRead_keep (r : Requester) (now : Word) (s : State) {t : State} (h : execErrStickyRead r now s = .next t) : Keep 0x20000007b10 s t := by
  unfold execErrStickyRead at h
  injection h with h
  subst h
  repeat' first
    | with_reducible refine Keep.ite ?_ ?_
    | intro u hu
    | with_reducible apply State.funcBus_keep
    | with_reducible apply State.readSticky_keep
    | with_reducible exact Keep.refl _ _
    | with_reducible assumption
    | exact rfl
    | exact id
    | exact Or.inl rfl
    | exact Or.inr rfl
    | exact Or.inr (List.prefix_refl _)
    | exact Or.inr fun _ => rfl
    | exact Or.inr ⟨rfl, rfl, rfl⟩
    | exact Or.inr fun _ => ⟨rfl, rfl, rfl⟩
    | exact Or.inr fun _ => ⟨rfl, rfl⟩
    | split
    | dsimp only

theorem execIdErrRead_keep (r : Requester) (now : Word) (s : State) {t : State} (h : execIdErrRead r now s = .next t) : Keep 0x20000007b10 s t := by
  unfold execIdErrRead at h
  injection h with h
  subst h
  repeat' first
    | with_reducible refine Keep.ite ?_ ?_
    | intro u hu
    | with_reducible apply State.onBus_keep
    | with_reducible apply State.readSticky_keep
    | with_reducible exact Keep.refl _ _
    | with_reducible assumption
    | exact rfl
    | exact id
    | exact Or.inl rfl
    | exact Or.inr rfl
    | exact Or.inr (List.prefix_refl _)
    | exact Or.inr fun _ => rfl
    | exact Or.inr ⟨rfl, rfl, rfl⟩
    | exact Or.inr fun _ => ⟨rfl, rfl, rfl⟩
    | exact Or.inr fun _ => ⟨rfl, rfl⟩
    | split
    | dsimp only

theorem State.mgtStatus_keep (s : State) (n : Nat) {k0 : Nat} {z0 : State} (hk : Nat.land 0x810 k0 = 0x810) (hz : Keep k0 z0 s) : Keep k0 z0 (State.mgtStatus s n) := by
  refine Keep.step ?_ hk hz
  unfold State.mgtStatus
  repeat' first
    | with_reducible refine Keep.ite ?_ ?_
    | with_reducible apply State.answer_keep
    | with_reducible apply Keep.modSrc
    | with_reducible exact Keep.refl _ _
    | with_reducible assumption
    | exact rfl
    | exact id
    | exact Or.inl rfl
    | exact Or.inr rfl
    | exact Or.inr (List.prefix_refl _)
    | exact Or.inr fun _ => rfl
    | exact Or.inr ⟨rfl, rfl, rfl⟩
    | exact Or.inr fun _ => ⟨rfl, rfl, rfl⟩
    | exact Or.inr fun _ => ⟨rfl, rfl⟩
    | split
    | dsimp only

theorem execMgtMbxStatusRead_keep (n : Nat) (s : State) {t : State} (h : execMgtMbxStatusRead n s = .next t) : Keep 0x810 s t := by
  unfold execMgtMbxStatusRead at h
  injection h with h
  subst h
  repeat' first
    | with_reducible refine Keep.ite ?_ ?_
    | intro u hu
    | with_reducible apply State.onBus_keep
    | with_reducible apply State.mgtStatus_keep
    | with_reducible exact Keep.refl _ _
    | with_reducible assumption
    | exact rfl
    | exact id
    | exact Or.inl rfl
    | exact Or.inr rfl
    | exact Or.inr (List.prefix_refl _)
    | exact Or.inr fun _ => rfl
    | exact Or.inr ⟨rfl, rfl, rfl⟩
    | exact Or.inr fun _ => ⟨rfl, rfl, rfl⟩
    | exact Or.inr fun _ => ⟨rfl, rfl⟩
    | split
    | dsimp only

theorem execMgtTransferDiscarded_keep (s : State) {t : State} (h : execMgtTransferDiscarded s = .next t) : Keep 0x20000007b00 s t := by
  unfold execMgtTransferDiscarded at h
  injection h with h
  subst h
  repeat' first
    | with_reducible refine Keep.ite ?_ ?_
    | intro u hu
    | with_reducible apply State.onBus_keep
    | with_reducible apply State.discardWrite_keep
    | with_reducible exact Keep.refl _ _
    | with_reducible assumption
    | exact rfl
    | exact id
    | exact Or.inl rfl
    | exact Or.inr rfl
    | exact Or.inr (List.prefix_refl _)
    | exact Or.inr fun _ => rfl
    | exact Or.inr ⟨rfl, rfl, rfl⟩
    | exact Or.inr fun _ => ⟨rfl, rfl, rfl⟩
    | exact Or.inr fun _ => ⟨rfl, rfl⟩
    | split
    | dsimp only

theorem execI3cDynamicAddress_keep (addr : BitVec 7) (s : State) {t : State} (h : execI3cDynamicAddress addr s = .next t) : Keep 0x2000 s t := by
  unfold execI3cDynamicAddress at h
  injection h with h
  subst h
  try simp -zeta only [State.fold_hif]
  repeat' first
    | with_reducible refine Keep.ite ?_ ?_
    | intro u hu
    | with_reducible apply State.onBus_keep
    | with_reducible apply Keep.set_hif
    | with_reducible exact Keep.refl _ _
    | with_reducible assumption
    | exact rfl
    | exact id
    | exact Or.inl rfl
    | exact Or.inr rfl
    | exact Or.inr (List.prefix_refl _)
    | exact Or.inr fun _ => rfl
    | exact Or.inr ⟨rfl, rfl, rfl⟩
    | exact Or.inr fun _ => ⟨rfl, rfl, rfl⟩
    | exact Or.inr fun _ => ⟨rfl, rfl⟩
    | split
    | dsimp only

theorem execI3cRstdaa_keep (s : State) {t : State} (h : execI3cRstdaa s = .next t) : Keep 0x2000 s t := by
  unfold execI3cRstdaa at h
  injection h with h
  subst h
  try simp -zeta only [State.fold_hif]
  repeat' first
    | with_reducible refine Keep.ite ?_ ?_
    | intro u hu
    | with_reducible apply State.onBus_keep
    | with_reducible apply Keep.set_hif
    | with_reducible exact Keep.refl _ _
    | with_reducible assumption
    | exact rfl
    | exact id
    | exact Or.inl rfl
    | exact Or.inr rfl
    | exact Or.inr (List.prefix_refl _)
    | exact Or.inr fun _ => rfl
    | exact Or.inr ⟨rfl, rfl, rfl⟩
    | exact Or.inr fun _ => ⟨rfl, rfl, rfl⟩
    | exact Or.inr fun _ => ⟨rfl, rfl⟩
    | split
    | dsimp only

theorem execIbiDeclined_keep (s : State) {t : State} (h : execIbiDeclined s = .next t) : Keep 0x800 s t := by
  unfold execIbiDeclined at h
  injection h with h
  subst h
  repeat' first
    | with_reducible refine Keep.ite ?_ ?_
    | intro u hu
    | with_reducible apply State.onBus_keep
    | with_reducible apply Keep.modIcu
    | with_reducible exact Keep.refl _ _
    | with_reducible assumption
    | exact rfl
    | exact id
    | exact Or.inl rfl
    | exact Or.inr rfl
    | exact Or.inr (List.prefix_refl _)
    | exact Or.inr fun _ => rfl
    | exact Or.inr ⟨rfl, rfl, rfl⟩
    | exact Or.inr fun _ => ⟨rfl, rfl, rfl⟩
    | exact Or.inr fun _ => ⟨rfl, rfl⟩
    | split
    | dsimp only

theorem State.countRank_keep (s : State) (key : Nat) {k0 : Nat} {z0 : State} (hk : Nat.land 0x10000000000 k0 = 0x10000000000) (hz : Keep k0 z0 s) : Keep k0 z0 (State.countRank s key) := by
  refine Keep.step ?_ hk hz
  unfold State.countRank
  try simp -zeta only [State.fold_tst]
  repeat' first
    | with_reducible refine Keep.ite ?_ ?_
    | with_reducible apply Keep.set_tst
    | with_reducible exact Keep.refl _ _
    | with_reducible assumption
    | exact rfl
    | exact id
    | exact Or.inl rfl
    | exact Or.inr rfl
    | exact Or.inr (List.prefix_refl _)
    | exact Or.inr fun _ => rfl
    | exact Or.inr ⟨rfl, rfl, rfl⟩
    | exact Or.inr fun _ => ⟨rfl, rfl, rfl⟩
    | exact Or.inr fun _ => ⟨rfl, rfl⟩
    | split
    | dsimp only

theorem State.countYield_keep (s : State) (rank kept : Nat) {k0 : Nat} {z0 : State} (hk : Nat.land 0x10000000000 k0 = 0x10000000000) (hz : Keep k0 z0 s) : Keep k0 z0 (State.countYield s rank kept) := by
  refine Keep.step ?_ hk hz
  unfold State.countYield
  repeat' first
    | with_reducible refine Keep.ite ?_ ?_
    | with_reducible apply State.countRank_keep
    | with_reducible exact Keep.refl _ _
    | with_reducible assumption
    | exact rfl
    | exact id
    | exact Or.inl rfl
    | exact Or.inr rfl
    | exact Or.inr (List.prefix_refl _)
    | exact Or.inr fun _ => rfl
    | exact Or.inr ⟨rfl, rfl, rfl⟩
    | exact Or.inr fun _ => ⟨rfl, rfl, rfl⟩
    | exact Or.inr fun _ => ⟨rfl, rfl⟩
    | split
    | dsimp only

theorem State.countYieldEnd_keep (s : State) (rank kept : Nat) {k0 : Nat} {z0 : State} (hk : Nat.land 0x10000000000 k0 = 0x10000000000) (hz : Keep k0 z0 s) : Keep k0 z0 (State.countYieldEnd s rank kept) := by
  refine Keep.step ?_ hk hz
  unfold State.countYieldEnd
  repeat' first
    | with_reducible refine Keep.ite ?_ ?_
    | with_reducible apply State.countRank_keep
    | with_reducible exact Keep.refl _ _
    | with_reducible assumption
    | exact rfl
    | exact id
    | exact Or.inl rfl
    | exact Or.inr rfl
    | exact Or.inr (List.prefix_refl _)
    | exact Or.inr fun _ => rfl
    | exact Or.inr ⟨rfl, rfl, rfl⟩
    | exact Or.inr fun _ => ⟨rfl, rfl, rfl⟩
    | exact Or.inr fun _ => ⟨rfl, rfl⟩
    | split
    | dsimp only

theorem State.relYield_keep (s : State) (rank obj kept keptObj : Nat) (req : Option Requester) {k0 : Nat} {z0 : State} (hk : Nat.land 0x10000000300 k0 = 0x10000000300) (hz : Keep k0 z0 s) : Keep k0 z0 (State.relYield s rank obj kept keptObj req) := by
  refine Keep.step ?_ hk hz
  unfold State.relYield
  try simp -zeta only [State.fold_tst]
  repeat' first
    | with_reducible refine Keep.ite ?_ ?_
    | with_reducible apply State.countYield_keep
    | with_reducible apply State.raise_keep
    | with_reducible apply Keep.set_tst
    | with_reducible exact Keep.refl _ _
    | with_reducible assumption
    | exact rfl
    | exact id
    | exact Or.inl rfl
    | exact Or.inr rfl
    | exact Or.inr (List.prefix_refl _)
    | exact Or.inr fun _ => rfl
    | exact Or.inr ⟨rfl, rfl, rfl⟩
    | exact Or.inr fun _ => ⟨rfl, rfl, rfl⟩
    | exact Or.inr fun _ => ⟨rfl, rfl⟩
    | split
    | dsimp only

theorem State.relYieldEnd_keep (s : State) (rank obj : Nat) {k0 : Nat} {z0 : State} (hk : Nat.land 0x10000000300 k0 = 0x10000000300) (hz : Keep k0 z0 s) : Keep k0 z0 (State.relYieldEnd s rank obj) := by
  refine Keep.step ?_ hk hz
  unfold State.relYieldEnd
  try simp -zeta only [State.fold_tst]
  repeat' first
    | with_reducible refine Keep.ite ?_ ?_
    | with_reducible refine Keep.foldl _ ?_ ?_
    | intro u x hu
    | intro u hu
    | with_reducible apply State.countYieldEnd_keep
    | with_reducible apply State.raise_keep
    | with_reducible apply Keep.set_tst
    | with_reducible exact Keep.refl _ _
    | with_reducible assumption
    | exact rfl
    | exact id
    | exact Or.inl rfl
    | exact Or.inr rfl
    | exact Or.inr (List.prefix_refl _)
    | exact Or.inr fun _ => rfl
    | exact Or.inr ⟨rfl, rfl, rfl⟩
    | exact Or.inr fun _ => ⟨rfl, rfl, rfl⟩
    | exact Or.inr fun _ => ⟨rfl, rfl⟩
    | split
    | dsimp only

theorem State.startTests_keep (s : State) {k0 : Nat} {z0 : State} (hk : Nat.land 0x10000000000 k0 = 0x10000000000) (hz : Keep k0 z0 s) : Keep k0 z0 (State.startTests s) := by
  refine Keep.step ?_ hk hz
  unfold State.startTests
  try simp -zeta only [State.fold_tst]
  repeat' first
    | with_reducible refine Keep.ite ?_ ?_
    | with_reducible refine Keep.foldl _ ?_ ?_
    | intro u x hu
    | intro u hu
    | with_reducible apply Keep.set_tst
    | with_reducible exact Keep.refl _ _
    | with_reducible assumption
    | exact rfl
    | exact id
    | exact Or.inl rfl
    | exact Or.inr rfl
    | exact Or.inr (List.prefix_refl _)
    | exact Or.inr fun _ => rfl
    | exact Or.inr ⟨rfl, rfl, rfl⟩
    | exact Or.inr fun _ => ⟨rfl, rfl, rfl⟩
    | exact Or.inr fun _ => ⟨rfl, rfl⟩
    | split
    | dsimp only

theorem State.report_keep (s : State) (kind : ElemKind) (unit loc source : Nat) {k0 : Nat} {z0 : State} (hk : Nat.land 0x10000000000 k0 = 0x10000000000) (hz : Keep k0 z0 s) : Keep k0 z0 (State.report s kind unit loc source) := by
  refine Keep.step ?_ hk hz
  unfold State.report
  try simp -zeta only [State.fold_tst]
  repeat' first
    | with_reducible refine Keep.ite ?_ ?_
    | with_reducible apply State.startTests_keep
    | with_reducible apply Keep.set_tst
    | with_reducible exact Keep.refl _ _
    | with_reducible assumption
    | exact rfl
    | exact id
    | exact Or.inl rfl
    | exact Or.inr rfl
    | exact Or.inr (List.prefix_refl _)
    | exact Or.inr fun _ => rfl
    | exact Or.inr ⟨rfl, rfl, rfl⟩
    | exact Or.inr fun _ => ⟨rfl, rfl, rfl⟩
    | exact Or.inr fun _ => ⟨rfl, rfl⟩
    | split
    | dsimp only

theorem State.interpReport_keep (s : State) (u : Nat) {k0 : Nat} {z0 : State} (hk : Nat.land 0x10000008300 k0 = 0x10000008300) (hz : Keep k0 z0 s) : Keep k0 z0 (State.interpReport s u) := by
  refine Keep.step ?_ hk hz
  unfold State.interpReport
  repeat' first
    | with_reducible refine Keep.ite ?_ ?_
    | with_reducible apply State.relYield_keep
    | with_reducible apply State.report_keep
    | with_reducible apply Keep.modResid
    | with_reducible exact Keep.refl _ _
    | with_reducible assumption
    | exact rfl
    | exact id
    | exact Or.inl rfl
    | exact Or.inr rfl
    | exact Or.inr (List.prefix_refl _)
    | exact Or.inr fun _ => rfl
    | exact Or.inr ⟨rfl, rfl, rfl⟩
    | exact Or.inr fun _ => ⟨rfl, rfl, rfl⟩
    | exact Or.inr fun _ => ⟨rfl, rfl⟩
    | split
    | dsimp only

theorem State.appendEntry_keep (s : State) (e : RepairEntry) {k0 : Nat} {z0 : State} (hk : Nat.land 0x1000000300 k0 = 0x1000000300) (hz : Keep k0 z0 s) : Keep k0 z0 (s.appendEntry e) := by
  refine Keep.step ?_ hk hz
  unfold State.appendEntry
  split
  · exact State.raise_keep _ _ _ rfl (Keep.refl _ _)
  · rename_i h
    refine Keep.set_rep rfl (fun _ => ?_) (Keep.refl _ _)
    show (s.rep.entries ++ [e]).length ≤ 2048
    rw [List.length_append]
    exact Nat.lt_of_not_le h

theorem State.repair_keep (s : State) (kind source unit loc : Nat) {k0 : Nat} {z0 : State} (hk : Nat.land 0x1000000300 k0 = 0x1000000300) (hz : Keep k0 z0 s) : Keep k0 z0 (State.repair s kind source unit loc) := by
  refine Keep.step ?_ hk hz
  unfold State.repair
  repeat' first
    | with_reducible refine Keep.ite ?_ ?_
    | with_reducible apply State.appendEntry_keep
    | with_reducible exact Keep.refl _ _
    | with_reducible assumption
    | exact rfl
    | exact id
    | exact Or.inl rfl
    | exact Or.inr rfl
    | exact Or.inr (List.prefix_refl _)
    | exact Or.inr fun _ => rfl
    | exact Or.inr ⟨rfl, rfl, rfl⟩
    | exact Or.inr fun _ => ⟨rfl, rfl, rfl⟩
    | exact Or.inr fun _ => ⟨rfl, rfl⟩
    | split
    | dsimp only

theorem State.abortSlice_keep (s : State) (b : SliceBlock) (kept : Nat) (req : Option Requester) {k0 : Nat} {z0 : State} (hk : Nat.land 0x10280000302 k0 = 0x10280000302) (hz : Keep k0 z0 s) : Keep k0 z0 (State.abortSlice s b kept req) := by
  refine Keep.step ?_ hk hz
  unfold State.abortSlice
  try simp -zeta only [State.fold_tst]
  repeat' first
    | with_reducible refine Keep.ite ?_ ?_
    | with_reducible apply State.raise_keep
    | with_reducible apply State.freeNext_keep
    | with_reducible apply State.relYield_keep
    | with_reducible apply Keep.modEng
    | with_reducible apply Keep.modBank
    | with_reducible apply Keep.set_tst
    | with_reducible exact Keep.refl _ _
    | with_reducible assumption
    | exact rfl
    | exact id
    | exact Or.inl rfl
    | exact Or.inr rfl
    | exact Or.inr (List.prefix_refl _)
    | exact Or.inr fun _ => rfl
    | exact Or.inr ⟨rfl, rfl, rfl⟩
    | exact Or.inr fun _ => ⟨rfl, rfl, rfl⟩
    | exact Or.inr fun _ => ⟨rfl, rfl⟩
    | split
    | dsimp only

theorem State.setTarget_keep (s : State) (c t : Nat) {k0 : Nat} {z0 : State} (hk : Nat.land 0x2000000000 k0 = 0x2000000000) (hz : Keep k0 z0 s) : Keep k0 z0 (State.setTarget s c t) := by
  refine Keep.step ?_ hk hz
  unfold State.setTarget
  repeat' first
    | with_reducible refine Keep.ite ?_ ?_
    | with_reducible apply Keep.modAx
    | with_reducible exact Keep.refl _ _
    | with_reducible assumption
    | exact rfl
    | exact id
    | exact Or.inl rfl
    | exact Or.inr rfl
    | exact Or.inr (List.prefix_refl _)
    | exact Or.inr fun _ => rfl
    | exact Or.inr ⟨rfl, rfl, rfl⟩
    | exact Or.inr fun _ => ⟨rfl, rfl, rfl⟩
    | exact Or.inr fun _ => ⟨rfl, rfl⟩
    | split
    | dsimp only

theorem State.syncLoop_keep (s : State) (i : Nat) {k0 : Nat} {z0 : State} (hk : Nat.land 0x2000000000 k0 = 0x2000000000) (hz : Keep k0 z0 s) : Keep k0 z0 (State.syncLoop s i) := by
  refine Keep.step ?_ hk hz
  unfold State.syncLoop
  repeat' first
    | with_reducible refine Keep.ite ?_ ?_
    | with_reducible apply Keep.modLoop
    | with_reducible exact Keep.refl _ _
    | with_reducible assumption
    | exact rfl
    | exact id
    | exact Or.inl rfl
    | exact Or.inr rfl
    | exact Or.inr (List.prefix_refl _)
    | exact Or.inr fun _ => rfl
    | exact Or.inr ⟨rfl, rfl, rfl⟩
    | exact Or.inr fun _ => ⟨rfl, rfl, rfl⟩
    | exact Or.inr fun _ => ⟨rfl, rfl⟩
    | split
    | dsimp only

theorem State.syncLoops_keep (s : State) {k0 : Nat} {z0 : State} (hk : Nat.land 0x2000000000 k0 = 0x2000000000) (hz : Keep k0 z0 s) : Keep k0 z0 (State.syncLoops s) := by
  refine Keep.step ?_ hk hz
  unfold State.syncLoops
  repeat' first
    | with_reducible refine Keep.ite ?_ ?_
    | with_reducible refine Keep.foldl _ ?_ ?_
    | intro u x hu
    | intro u hu
    | with_reducible apply State.syncLoop_keep
    | with_reducible exact Keep.refl _ _
    | with_reducible assumption
    | exact rfl
    | exact id
    | exact Or.inl rfl
    | exact Or.inr rfl
    | exact Or.inr (List.prefix_refl _)
    | exact Or.inr fun _ => rfl
    | exact Or.inr ⟨rfl, rfl, rfl⟩
    | exact Or.inr fun _ => ⟨rfl, rfl, rfl⟩
    | exact Or.inr fun _ => ⟨rfl, rfl⟩
    | split
    | dsimp only

theorem State.opticsStep_keep (s : State) (l : Nat) {k0 : Nat} {z0 : State} (hk : Nat.land 0x2000300 k0 = 0x2000300) (hz : Keep k0 z0 s) : Keep k0 z0 (State.opticsStep s l) := by
  refine Keep.step ?_ hk hz
  unfold State.opticsStep
  repeat' first
    | with_reducible refine Keep.ite ?_ ?_
    | with_reducible apply State.raise_keep
    | with_reducible apply Keep.modLine
    | with_reducible exact Keep.refl _ _
    | with_reducible assumption
    | exact rfl
    | exact id
    | exact Or.inl rfl
    | exact Or.inr rfl
    | exact Or.inr (List.prefix_refl _)
    | exact Or.inr fun _ => rfl
    | exact Or.inr ⟨rfl, rfl, rfl⟩
    | exact Or.inr fun _ => ⟨rfl, rfl, rfl⟩
    | exact Or.inr fun _ => ⟨rfl, rfl⟩
    | split
    | dsimp only

theorem State.opticsCheck_keep (s : State) {k0 : Nat} {z0 : State} (hk : Nat.land 0x2002000300 k0 = 0x2002000300) (hz : Keep k0 z0 s) : Keep k0 z0 (State.opticsCheck s) := by
  refine Keep.step ?_ hk hz
  unfold State.opticsCheck
  repeat' first
    | with_reducible refine Keep.ite ?_ ?_
    | with_reducible refine Keep.foldl _ ?_ ?_
    | intro u x hu
    | intro u hu
    | with_reducible apply State.opticsStep_keep
    | with_reducible apply State.syncLoops_keep
    | with_reducible exact Keep.refl _ _
    | with_reducible assumption
    | exact rfl
    | exact id
    | exact Or.inl rfl
    | exact Or.inr rfl
    | exact Or.inr (List.prefix_refl _)
    | exact Or.inr fun _ => rfl
    | exact Or.inr ⟨rfl, rfl, rfl⟩
    | exact Or.inr fun _ => ⟨rfl, rfl, rfl⟩
    | exact Or.inr fun _ => ⟨rfl, rfl⟩
    | split
    | dsimp only

theorem State.opticsAsk_keep (s : State) (l : Nat) {k0 : Nat} {z0 : State} (hk : Nat.land 0x2002000300 k0 = 0x2002000300) (hz : Keep k0 z0 s) : Keep k0 z0 (State.opticsAsk s l) := by
  refine Keep.step ?_ hk hz
  unfold State.opticsAsk
  repeat' first
    | with_reducible refine Keep.ite ?_ ?_
    | with_reducible refine Keep.foldl _ ?_ ?_
    | intro u x hu
    | intro u hu
    | with_reducible apply State.setTarget_keep
    | with_reducible apply State.opticsCheck_keep
    | with_reducible apply Keep.modLine
    | with_reducible apply Keep.modLoop
    | with_reducible exact Keep.refl _ _
    | with_reducible assumption
    | exact rfl
    | exact id
    | exact Or.inl rfl
    | exact Or.inr rfl
    | exact Or.inr (List.prefix_refl _)
    | exact Or.inr fun _ => rfl
    | exact Or.inr ⟨rfl, rfl, rfl⟩
    | exact Or.inr fun _ => ⟨rfl, rfl, rfl⟩
    | exact Or.inr fun _ => ⟨rfl, rfl⟩
    | split
    | dsimp only

theorem State.opticsStop_keep (s : State) (l : Nat) {k0 : Nat} {z0 : State} (hk : Nat.land 0x2002000300 k0 = 0x2002000300) (hz : Keep k0 z0 s) : Keep k0 z0 (State.opticsStop s l) := by
  refine Keep.step ?_ hk hz
  unfold State.opticsStop
  repeat' first
    | with_reducible refine Keep.ite ?_ ?_
    | with_reducible refine Keep.foldl _ ?_ ?_
    | intro u x hu
    | intro u hu
    | with_reducible apply State.syncLoops_keep
    | with_reducible apply State.setTarget_keep
    | with_reducible apply State.opticsCheck_keep
    | with_reducible apply Keep.modLine
    | with_reducible apply Keep.modLoop
    | with_reducible exact Keep.refl _ _
    | with_reducible assumption
    | exact rfl
    | exact id
    | exact Or.inl rfl
    | exact Or.inr rfl
    | exact Or.inr (List.prefix_refl _)
    | exact Or.inr fun _ => rfl
    | exact Or.inr ⟨rfl, rfl, rfl⟩
    | exact Or.inr fun _ => ⟨rfl, rfl, rfl⟩
    | exact Or.inr fun _ => ⟨rfl, rfl⟩
    | split
    | dsimp only

theorem State.axIdleAll_keep (s : State) {k0 : Nat} {z0 : State} (hk : Nat.land 0x2002000300 k0 = 0x2002000300) (hz : Keep k0 z0 s) : Keep k0 z0 (State.axIdleAll s) := by
  refine Keep.step ?_ hk hz
  unfold State.axIdleAll
  repeat' first
    | with_reducible refine Keep.ite ?_ ?_
    | with_reducible refine Keep.foldl _ ?_ ?_
    | intro u x hu
    | intro u hu
    | with_reducible apply State.syncLoops_keep
    | with_reducible apply State.setTarget_keep
    | with_reducible apply State.opticsCheck_keep
    | with_reducible exact Keep.refl _ _
    | with_reducible assumption
    | exact rfl
    | exact id
    | exact Or.inl rfl
    | exact Or.inr rfl
    | exact Or.inr (List.prefix_refl _)
    | exact Or.inr fun _ => rfl
    | exact Or.inr ⟨rfl, rfl, rfl⟩
    | exact Or.inr fun _ => ⟨rfl, rfl, rfl⟩
    | exact Or.inr fun _ => ⟨rfl, rfl⟩
    | split
    | dsimp only

theorem State.laserCut_keep (s : State) {k0 : Nat} {z0 : State} (hk : Nat.land 0x2000000000 k0 = 0x2000000000) (hz : Keep k0 z0 s) : Keep k0 z0 (State.laserCut s) := by
  refine Keep.step ?_ hk hz
  unfold State.laserCut
  repeat' first
    | with_reducible refine Keep.ite ?_ ?_
    | with_reducible refine Keep.foldl _ ?_ ?_
    | intro u x hu
    | intro u hu
    | with_reducible apply Keep.modAx
    | with_reducible exact Keep.refl _ _
    | with_reducible assumption
    | exact rfl
    | exact id
    | exact Or.inl rfl
    | exact Or.inr rfl
    | exact Or.inr (List.prefix_refl _)
    | exact Or.inr fun _ => rfl
    | exact Or.inr ⟨rfl, rfl, rfl⟩
    | exact Or.inr fun _ => ⟨rfl, rfl, rfl⟩
    | exact Or.inr fun _ => ⟨rfl, rfl⟩
    | split
    | dsimp only

theorem State.axFail_keep (s : State) (c : Nat) {k0 : Nat} {z0 : State} (hk : Nat.land 0x2002000300 k0 = 0x2002000300) (hz : Keep k0 z0 s) : Keep k0 z0 (State.axFail s c) := by
  refine Keep.step ?_ hk hz
  unfold State.axFail
  repeat' first
    | with_reducible refine Keep.ite ?_ ?_
    | with_reducible refine Keep.foldl _ ?_ ?_
    | intro u x hu
    | intro u hu
    | with_reducible apply State.raise_keep
    | with_reducible apply State.opticsCheck_keep
    | with_reducible apply Keep.modAx
    | with_reducible exact Keep.refl _ _
    | with_reducible assumption
    | exact rfl
    | exact id
    | exact Or.inl rfl
    | exact Or.inr rfl
    | exact Or.inr (List.prefix_refl _)
    | exact Or.inr fun _ => rfl
    | exact Or.inr ⟨rfl, rfl, rfl⟩
    | exact Or.inr fun _ => ⟨rfl, rfl, rfl⟩
    | exact Or.inr fun _ => ⟨rfl, rfl⟩
    | split
    | dsimp only

end Sys2Proof.Machine
end

