-- ==== Sys2Proof/Laws/KeepLanes.lean ====
section
/-! SUPPORT. `Keep` for every operation of `Machine/Hinge.lean`, `Machine/Lanes.lean`, `Machine/Calibration.lean`, `Machine/Memory.lean`. -/

set_option linter.unusedTactic false
set_option linter.unreachableTactic false
set_option linter.unnecessarySeqFocus false
set_option linter.unusedVariables false
set_option linter.unusedSimpArgs false

namespace Sys2Proof.Machine

theorem State.seaYield_keep (s : State) (l t : Nat) (c : YieldCause) {k0 : Nat} {z0 : State} (hk : Nat.land 0x10000220300 k0 = 0x10000220300) (hz : Keep k0 z0 s) : Keep k0 z0 (State.seaYield s l t c) := by
  refine Keep.step ?_ hk hz
  unfold State.seaYield
  repeat' first
    | with_reducible refine Keep.ite ?_ ?_
    | with_reducible apply State.countYield_keep
    | with_reducible apply State.raise_keep
    | with_reducible apply Keep.modSea
    | with_reducible apply Keep.bump
    | with_reducible exact Keep.refl _ _
    | with_reducible assumption
    | exact rfl
    | exact id
    | exact Or.inl rfl
    | exact Or.inr rfl
    | exact Or.inr (List.prefix_refl _)
    | exact Or.inr fun _ => rfl
    | exact Or.inr ⟨rfl, rfl, rfl⟩
    | exact Or.inr fun _ => ⟨rfl, rfl, rfl⟩
    | exact Or.inr fun _ => ⟨rfl, rfl⟩
    | split
    | dsimp only

theorem State.seaYieldEnd_keep (s : State) (l : Nat) {k0 : Nat} {z0 : State} (hk : Nat.land 0x10000220300 k0 = 0x10000220300) (hz : Keep k0 z0 s) : Keep k0 z0 (State.seaYieldEnd s l) := by
  refine Keep.step ?_ hk hz
  unfold State.seaYieldEnd
  repeat' first
    | with_reducible refine Keep.ite ?_ ?_
    | with_reducible apply State.countYieldEnd_keep
    | with_reducible apply State.raise_keep
    | with_reducible apply Keep.modSea
    | with_reducible apply Keep.bump
    | with_reducible exact Keep.refl _ _
    | with_reducible assumption
    | exact rfl
    | exact id
    | exact Or.inl rfl
    | exact Or.inr rfl
    | exact Or.inr (List.prefix_refl _)
    | exact Or.inr fun _ => rfl
    | exact Or.inr ⟨rfl, rfl, rfl⟩
    | exact Or.inr fun _ => ⟨rfl, rfl, rfl⟩
    | exact Or.inr fun _ => ⟨rfl, rfl⟩
    | split
    | dsimp only

theorem State.assign_keep (s : State) (e : Nat) (role : Role) (l : Nat) {k0 : Nat} {z0 : State} (hk : Nat.land 0x10280000382 k0 = 0x10280000382) (hz : Keep k0 z0 s) : Keep k0 z0 (State.assign s e role l) := by
  refine Keep.step ?_ hk hz
  unfold State.assign
  repeat' first
    | with_reducible refine Keep.ite ?_ ?_
    | with_reducible apply State.abortSlice_keep
    | with_reducible apply State.ring_keep
    | with_reducible apply Keep.modEng
    | with_reducible exact Keep.refl _ _
    | with_reducible assumption
    | exact rfl
    | exact id
    | exact Or.inl rfl
    | exact Or.inr rfl
    | exact Or.inr (List.prefix_refl _)
    | exact Or.inr fun _ => rfl
    | exact Or.inr ⟨rfl, rfl, rfl⟩
    | exact Or.inr fun _ => ⟨rfl, rfl, rfl⟩
    | exact Or.inr fun _ => ⟨rfl, rfl⟩
    | split
    | dsimp only

theorem State.addEngines_keep (s : State) (l n : Nat) {k0 : Nat} {z0 : State} (hk : Nat.land 0x10280000382 k0 = 0x10280000382) (hz : Keep k0 z0 s) : Keep k0 z0 (s.addEngines l n).1 := by
  induction n generalizing s with
  | zero => exact hz
  | succ n ih =>
    unfold State.addEngines
    split
    · exact hz
    · exact ih _ (State.assign_keep _ _ _ _ (by
        have h1 : 0x10280000382 &&& 0x10280000382 = 0x10280000382 := rfl
        have h2 : 0x10280000382 &&& k0 = 0x10280000382 := hk
        show 0x10280000382 &&& k0 = 0x10280000382
        rw [← h1, Nat.and_assoc, h2]) hz)

theorem State.freeEngines_keep (s : State) (es : List Nat) {k0 : Nat} {z0 : State} (hk : Nat.land 0x80000000 k0 = 0x80000000) (hz : Keep k0 z0 s) : Keep k0 z0 (State.freeEngines s es) := by
  refine Keep.step ?_ hk hz
  unfold State.freeEngines
  repeat' first
    | with_reducible refine Keep.ite ?_ ?_
    | with_reducible refine Keep.foldl _ ?_ ?_
    | intro u x hu
    | intro u hu
    | with_reducible apply Keep.modEng
    | with_reducible exact Keep.refl _ _
    | with_reducible assumption
    | exact rfl
    | exact id
    | exact Or.inl rfl
    | exact Or.inr rfl
    | exact Or.inr (List.prefix_refl _)
    | exact Or.inr fun _ => rfl
    | exact Or.inr ⟨rfl, rfl, rfl⟩
    | exact Or.inr fun _ => ⟨rfl, rfl, rfl⟩
    | exact Or.inr fun _ => ⟨rfl, rfl⟩
    | split
    | dsimp only

theorem State.toTransom_keep (s : State) (es : List Nat) {k0 : Nat} {z0 : State} (hk : Nat.land 0x80000000 k0 = 0x80000000) (hz : Keep k0 z0 s) : Keep k0 z0 (State.toTransom s es) := by
  refine Keep.step ?_ hk hz
  unfold State.toTransom
  repeat' first
    | with_reducible refine Keep.ite ?_ ?_
    | with_reducible refine Keep.foldl _ ?_ ?_
    | intro u x hu
    | intro u hu
    | with_reducible apply Keep.modEng
    | with_reducible exact Keep.refl _ _
    | with_reducible assumption
    | exact rfl
    | exact id
    | exact Or.inl rfl
    | exact Or.inr rfl
    | exact Or.inr (List.prefix_refl _)
    | exact Or.inr fun _ => rfl
    | exact Or.inr ⟨rfl, rfl, rfl⟩
    | exact Or.inr fun _ => ⟨rfl, rfl, rfl⟩
    | exact Or.inr fun _ => ⟨rfl, rfl⟩
    | split
    | dsimp only

theorem State.topUpOne_keep (s : State) (q : Option Nat) {k0 : Nat} {z0 : State} (hk : Nat.land 0x80000000 k0 = 0x80000000) (hz : Keep k0 z0 s) : Keep k0 z0 (State.topUpOne s q) := by
  refine Keep.step ?_ hk hz
  unfold State.topUpOne
  repeat' first
    | with_reducible refine Keep.ite ?_ ?_
    | with_reducible apply State.toTransom_keep
    | with_reducible exact Keep.refl _ _
    | with_reducible assumption
    | exact rfl
    | exact id
    | exact Or.inl rfl
    | exact Or.inr rfl
    | exact Or.inr (List.prefix_refl _)
    | exact Or.inr fun _ => rfl
    | exact Or.inr ⟨rfl, rfl, rfl⟩
    | exact Or.inr fun _ => ⟨rfl, rfl, rfl⟩
    | exact Or.inr fun _ => ⟨rfl, rfl⟩
    | split
    | dsimp only

theorem State.topUp_keep (s : State) (q : Option Nat) {k0 : Nat} {z0 : State} (hk : Nat.land 0x80000000 k0 = 0x80000000) (hz : Keep k0 z0 s) : Keep k0 z0 (State.topUp s q) := by
  refine Keep.step ?_ hk hz
  unfold State.topUp
  repeat' first
    | with_reducible refine Keep.ite ?_ ?_
    | with_reducible refine Keep.foldl _ ?_ ?_
    | intro u x hu
    | intro u hu
    | with_reducible apply State.topUpOne_keep
    | with_reducible exact Keep.refl _ _
    | with_reducible assumption
    | exact rfl
    | exact id
    | exact Or.inl rfl
    | exact Or.inr rfl
    | exact Or.inr (List.prefix_refl _)
    | exact Or.inr fun _ => rfl
    | exact Or.inr ⟨rfl, rfl, rfl⟩
    | exact Or.inr fun _ => ⟨rfl, rfl, rfl⟩
    | exact Or.inr fun _ => ⟨rfl, rfl⟩
    | split
    | dsimp only

theorem State.holdAdapt_keep (s : State) (l : Nat) {k0 : Nat} {z0 : State} (hk : Nat.land 0x200000 k0 = 0x200000) (hz : Keep k0 z0 s) : Keep k0 z0 (State.holdAdapt s l) := by
  refine Keep.step ?_ hk hz
  unfold State.holdAdapt
  repeat' first
    | with_reducible refine Keep.ite ?_ ?_
    | with_reducible apply Keep.modSea
    | with_reducible exact Keep.refl _ _
    | with_reducible assumption
    | exact rfl
    | exact id
    | exact Or.inl rfl
    | exact Or.inr rfl
    | exact Or.inr (List.prefix_refl _)
    | exact Or.inr fun _ => rfl
    | exact Or.inr ⟨rfl, rfl, rfl⟩
    | exact Or.inr fun _ => ⟨rfl, rfl, rfl⟩
    | exact Or.inr fun _ => ⟨rfl, rfl⟩
    | split
    | dsimp only

theorem State.fillAdapt_keep (s : State) (l : Nat) {k0 : Nat} {z0 : State} (hk : Nat.land 0x10280200382 k0 = 0x10280200382) (hz : Keep k0 z0 s) : Keep k0 z0 (State.fillAdapt s l) := by
  refine Keep.step ?_ hk hz
  unfold State.fillAdapt
  repeat' first
    | with_reducible refine Keep.ite ?_ ?_
    | with_reducible refine Keep.foldl _ ?_ ?_
    | intro u x hu
    | intro u hu
    | with_reducible apply State.assign_keep
    | with_reducible apply State.holdAdapt_keep
    | with_reducible exact Keep.refl _ _
    | with_reducible assumption
    | exact rfl
    | exact id
    | exact Or.inl rfl
    | exact Or.inr rfl
    | exact Or.inr (List.prefix_refl _)
    | exact Or.inr fun _ => rfl
    | exact Or.inr ⟨rfl, rfl, rfl⟩
    | exact Or.inr fun _ => ⟨rfl, rfl, rfl⟩
    | exact Or.inr fun _ => ⟨rfl, rfl⟩
    | split
    | dsimp only

theorem State.reserve_keep (s : State) {k0 : Nat} {z0 : State} (hk : Nat.land 0x10280200382 k0 = 0x10280200382) (hz : Keep k0 z0 s) : Keep k0 z0 (State.reserve s) := by
  refine Keep.step ?_ hk hz
  unfold State.reserve
  repeat' first
    | with_reducible refine Keep.ite ?_ ?_
    | with_reducible refine Keep.foldl _ ?_ ?_
    | intro u x hu
    | intro u hu
    | with_reducible apply State.fillAdapt_keep
    | with_reducible apply State.topUp_keep
    | with_reducible exact Keep.refl _ _
    | with_reducible assumption
    | exact rfl
    | exact id
    | exact Or.inl rfl
    | exact Or.inr rfl
    | exact Or.inr (List.prefix_refl _)
    | exact Or.inr fun _ => rfl
    | exact Or.inr ⟨rfl, rfl, rfl⟩
    | exact Or.inr fun _ => ⟨rfl, rfl, rfl⟩
    | exact Or.inr fun _ => ⟨rfl, rfl⟩
    | split
    | dsimp only

theorem State.dropAdapt_keep (s : State) {k0 : Nat} {z0 : State} (hk : Nat.land 0x80000000 k0 = 0x80000000) (hz : Keep k0 z0 s) : Keep k0 z0 (State.dropAdapt s) := by
  refine Keep.step ?_ hk hz
  unfold State.dropAdapt
  repeat' first
    | with_reducible refine Keep.ite ?_ ?_
    | with_reducible apply State.freeEngines_keep
    | with_reducible exact Keep.refl _ _
    | with_reducible assumption
    | exact rfl
    | exact id
    | exact Or.inl rfl
    | exact Or.inr rfl
    | exact Or.inr (List.prefix_refl _)
    | exact Or.inr fun _ => rfl
    | exact Or.inr ⟨rfl, rfl, rfl⟩
    | exact Or.inr fun _ => ⟨rfl, rfl, rfl⟩
    | exact Or.inr fun _ => ⟨rfl, rfl⟩
    | split
    | dsimp only

theorem State.seaPlaced_keep (s : State) (l old : Nat) {k0 : Nat} {z0 : State} (hk : Nat.land 0x300 k0 = 0x300) (hz : Keep k0 z0 s) : Keep k0 z0 (State.seaPlaced s l old) := by
  refine Keep.step ?_ hk hz
  unfold State.seaPlaced
  repeat' first
    | with_reducible refine Keep.ite ?_ ?_
    | with_reducible apply State.raise_keep
    | with_reducible exact Keep.refl _ _
    | with_reducible assumption
    | exact rfl
    | exact id
    | exact Or.inl rfl
    | exact Or.inr rfl
    | exact Or.inr (List.prefix_refl _)
    | exact Or.inr fun _ => rfl
    | exact Or.inr ⟨rfl, rfl, rfl⟩
    | exact Or.inr fun _ => ⟨rfl, rfl, rfl⟩
    | exact Or.inr fun _ => ⟨rfl, rfl⟩
    | split
    | dsimp only

theorem State.tellPlaced_keep (s was : State) {k0 : Nat} {z0 : State} (hk : Nat.land 0x300 k0 = 0x300) (hz : Keep k0 z0 s) : Keep k0 z0 (State.tellPlaced s was) := by
  refine Keep.step ?_ hk hz
  unfold State.tellPlaced
  repeat' first
    | with_reducible refine Keep.ite ?_ ?_
    | with_reducible refine Keep.foldl _ ?_ ?_
    | intro u x hu
    | intro u hu
    | with_reducible apply State.seaPlaced_keep
    | with_reducible exact Keep.refl _ _
    | with_reducible assumption
    | exact rfl
    | exact id
    | exact Or.inl rfl
    | exact Or.inr rfl
    | exact Or.inr (List.prefix_refl _)
    | exact Or.inr fun _ => rfl
    | exact Or.inr ⟨rfl, rfl, rfl⟩
    | exact Or.inr fun _ => ⟨rfl, rfl, rfl⟩
    | exact Or.inr fun _ => ⟨rfl, rfl⟩
    | split
    | dsimp only

theorem State.startSwap_keep (s : State) (l tier version : Nat) (ticket : Option Ticket) (count : Nat) (par : List (Nat × Word))
    {u : State} (hu : s.startSwap l tier version ticket count par = some u) {k0 : Nat} {z0 : State} (hk : Nat.land 0x30280200382 k0 = 0x30280200382) (hz : Keep k0 z0 s) : Keep k0 z0 u := by
  refine Keep.step ?_ hk hz
  unfold State.startSwap at hu
  dsimp only at hu
  split at hu
  · cases hu
  · injection hu with hu
    subst hu
    exact State.pmcEvent_keep _ _ _ rfl (Keep.modSea rfl (Keep.foldl _ (fun u x hu => State.assign_keep u x .shadow l rfl hu) (Keep.refl _ _)))

theorem State.endSwap_keep (s : State) (l : Nat) (w : Swap) (keep : Bool) {k0 : Nat} {z0 : State} (hk : Nat.land 0x10280200382 k0 = 0x10280200382) (hz : Keep k0 z0 s) : Keep k0 z0 (State.endSwap s l w keep) := by
  refine Keep.step ?_ hk hz
  unfold State.endSwap
  repeat' first
    | with_reducible refine Keep.ite ?_ ?_
    | with_reducible apply State.freeEngines_keep
    | with_reducible apply State.toTransom_keep
    | with_reducible apply State.reserve_keep
    | with_reducible apply Keep.modSea
    | with_reducible exact Keep.refl _ _
    | with_reducible assumption
    | exact rfl
    | exact id
    | exact Or.inl rfl
    | exact Or.inr rfl
    | exact Or.inr (List.prefix_refl _)
    | exact Or.inr fun _ => rfl
    | exact Or.inr ⟨rfl, rfl, rfl⟩
    | exact Or.inr fun _ => ⟨rfl, rfl, rfl⟩
    | exact Or.inr fun _ => ⟨rfl, rfl⟩
    | split
    | dsimp only

theorem State.abandonSwap_keep (s : State) (l reason detail : Nat) {k0 : Nat} {z0 : State} (hk : Nat.land 0x30280221b82 k0 = 0x30280221b82) (hz : Keep k0 z0 s) : Keep k0 z0 (State.abandonSwap s l reason detail) := by
  refine Keep.step ?_ hk hz
  unfold State.abandonSwap
  repeat' first
    | with_reducible refine Keep.ite ?_ ?_
    | with_reducible apply State.endSwap_keep
    | with_reducible apply State.raise_keep
    | with_reducible apply State.finishOpt_keep
    | with_reducible apply State.tellPlaced_keep
    | with_reducible apply Keep.bump
    | with_reducible exact Keep.refl _ _
    | with_reducible assumption
    | exact rfl
    | exact id
    | exact Or.inl rfl
    | exact Or.inr rfl
    | exact Or.inr (List.prefix_refl _)
    | exact Or.inr fun _ => rfl
    | exact Or.inr ⟨rfl, rfl, rfl⟩
    | exact Or.inr fun _ => ⟨rfl, rfl, rfl⟩
    | exact Or.inr fun _ => ⟨rfl, rfl⟩
    | split
    | dsimp only

theorem State.putPar_keep (s : State) (l : Nat) (par : List (Nat × Word)) {k0 : Nat} {z0 : State} (hk : Nat.land 0x10000 k0 = 0x10000) (hz : Keep k0 z0 s) : Keep k0 z0 (State.putPar s l par) := by
  refine Keep.step ?_ hk hz
  unfold State.putPar
  repeat' first
    | with_reducible refine Keep.ite ?_ ?_
    | with_reducible refine Keep.foldl _ ?_ ?_
    | intro u x hu
    | intro u hu
    | with_reducible apply Keep.setParam
    | with_reducible exact Keep.refl _ _
    | with_reducible assumption
    | exact rfl
    | exact id
    | exact Or.inl rfl
    | exact Or.inr rfl
    | exact Or.inr (List.prefix_refl _)
    | exact Or.inr fun _ => rfl
    | exact Or.inr ⟨rfl, rfl, rfl⟩
    | exact Or.inr fun _ => ⟨rfl, rfl, rfl⟩
    | exact Or.inr fun _ => ⟨rfl, rfl⟩
    | split
    | dsimp only

theorem Keep.getD {m : Nat} {s t : State} {o : Option State} (h : ∀ u, o = some u → Keep m s u) (h0 : Keep m s t) :
    Keep m s (o.getD t) := by
  cases o with
  | none => exact h0
  | some u => exact h u rfl

theorem State.startRaise_keep (s : State) (l : Nat) {k0 : Nat} {z0 : State} (hk : Nat.land 0x30280201b82 k0 = 0x30280201b82) (hz : Keep k0 z0 s) : Keep k0 z0 (s.startRaise l) := by
  refine Keep.step ?_ hk hz
  unfold State.startRaise
  dsimp only
  refine Keep.ite (Keep.refl _ _) ?_
  split
  · have h1 : Keep 0x30280201b82 s (s.modSea l fun y => { y with swapWait := none }) := Keep.modSea rfl (Keep.refl _ _)
    exact Keep.getD (fun _ h => State.startSwap_keep _ _ _ _ _ _ _ h rfl h1) (State.finishOpt_keep _ _ _ _ _ rfl h1)
  · exact Keep.ite (Keep.getD (fun _ h => State.startSwap_keep _ _ _ _ _ _ _ h rfl (Keep.refl _ _)) (Keep.modSea rfl (Keep.refl _ _)))
      (Keep.refl _ _)

theorem State.startRaises_keep (s : State) {k0 : Nat} {z0 : State} (hk : Nat.land 0x30280201b82 k0 = 0x30280201b82) (hz : Keep k0 z0 s) : Keep k0 z0 (State.startRaises s) := by
  refine Keep.step ?_ hk hz
  unfold State.startRaises
  repeat' first
    | with_reducible refine Keep.ite ?_ ?_
    | with_reducible refine Keep.foldl _ ?_ ?_
    | intro u x hu
    | intro u hu
    | with_reducible apply State.startRaise_keep
    | with_reducible exact Keep.refl _ _
    | with_reducible assumption
    | exact rfl
    | exact id
    | exact Or.inl rfl
    | exact Or.inr rfl
    | exact Or.inr (List.prefix_refl _)
    | exact Or.inr fun _ => rfl
    | exact Or.inr ⟨rfl, rfl, rfl⟩
    | exact Or.inr fun _ => ⟨rfl, rfl, rfl⟩
    | exact Or.inr fun _ => ⟨rfl, rfl⟩
    | split
    | dsimp only

theorem State.takePlan_keep (s : State) (now : Bool) (r : Nat) (p : LanePlan) {k0 : Nat} {z0 : State} (hk : Nat.land 0x30280221b82 k0 = 0x30280221b82) (hz : Keep k0 z0 s) : Keep k0 z0 (State.takePlan s now r p) := by
  refine Keep.step ?_ hk hz
  unfold State.takePlan
  repeat' first
    | with_reducible refine Keep.ite ?_ ?_
    | with_reducible apply State.abandonSwap_keep
    | with_reducible apply Keep.modSea
    | with_reducible exact Keep.refl _ _
    | with_reducible assumption
    | exact rfl
    | exact id
    | exact Or.inl rfl
    | exact Or.inr rfl
    | exact Or.inr (List.prefix_refl _)
    | exact Or.inr fun _ => rfl
    | exact Or.inr ⟨rfl, rfl, rfl⟩
    | exact Or.inr fun _ => ⟨rfl, rfl, rfl⟩
    | exact Or.inr fun _ => ⟨rfl, rfl⟩
    | split
    | dsimp only

theorem State.judgeLane_keep (s : State) (old : List (Nat × Nat × Nat)) (why : YieldCause) (l : Nat) {k0 : Nat} {z0 : State} (hk : Nat.land 0x10000220300 k0 = 0x10000220300) (hz : Keep k0 z0 s) : Keep k0 z0 (State.judgeLane s old why l) := by
  refine Keep.step ?_ hk hz
  unfold State.judgeLane
  repeat' first
    | with_reducible refine Keep.ite ?_ ?_
    | with_reducible apply State.seaYield_keep
    | with_reducible apply State.seaYieldEnd_keep
    | with_reducible exact Keep.refl _ _
    | with_reducible assumption
    | exact rfl
    | exact id
    | exact Or.inl rfl
    | exact Or.inr rfl
    | exact Or.inr (List.prefix_refl _)
    | exact Or.inr fun _ => rfl
    | exact Or.inr ⟨rfl, rfl, rfl⟩
    | exact Or.inr fun _ => ⟨rfl, rfl, rfl⟩
    | exact Or.inr fun _ => ⟨rfl, rfl⟩
    | split
    | dsimp only

theorem State.judgeYield_keep (s : State) (old : List (Nat × Nat × Nat)) (why : Nat → YieldCause) {k0 : Nat} {z0 : State} (hk : Nat.land 0x10000220300 k0 = 0x10000220300) (hz : Keep k0 z0 s) : Keep k0 z0 (State.judgeYield s old why) := by
  refine Keep.step ?_ hk hz
  unfold State.judgeYield
  repeat' first
    | with_reducible refine Keep.ite ?_ ?_
    | with_reducible refine Keep.foldl _ ?_ ?_
    | intro u x hu
    | intro u hu
    | with_reducible apply State.judgeLane_keep
    | with_reducible exact Keep.refl _ _
    | with_reducible assumption
    | exact rfl
    | exact id
    | exact Or.inl rfl
    | exact Or.inr rfl
    | exact Or.inr (List.prefix_refl _)
    | exact Or.inr fun _ => rfl
    | exact Or.inr ⟨rfl, rfl, rfl⟩
    | exact Or.inr fun _ => ⟨rfl, rfl, rfl⟩
    | exact Or.inr fun _ => ⟨rfl, rfl⟩
    | split
    | dsimp only

theorem State.judgeAgain_keep (s : State) (old : List (Nat × Nat × Nat)) {k0 : Nat} {z0 : State} (hk : Nat.land 0x10000220300 k0 = 0x10000220300) (hz : Keep k0 z0 s) : Keep k0 z0 (State.judgeAgain s old) := by
  refine Keep.step ?_ hk hz
  unfold State.judgeAgain
  repeat' first
    | with_reducible refine Keep.ite ?_ ?_
    | with_reducible apply State.judgeYield_keep
    | with_reducible exact Keep.refl _ _
    | with_reducible assumption
    | exact rfl
    | exact id
    | exact Or.inl rfl
    | exact Or.inr rfl
    | exact Or.inr (List.prefix_refl _)
    | exact Or.inr fun _ => rfl
    | exact Or.inr ⟨rfl, rfl, rfl⟩
    | exact Or.inr fun _ => ⟨rfl, rfl, rfl⟩
    | exact Or.inr fun _ => ⟨rfl, rfl⟩
    | split
    | dsimp only

theorem State.replan_keep (s : State) (now : Nat → Bool) (drop : Option Nat) {k0 : Nat} {z0 : State} (hk : Nat.land 0x30380221b82 k0 = 0x30380221b82) (hz : Keep k0 z0 s) : Keep k0 z0 (State.replan s now drop) := by
  refine Keep.step ?_ hk hz
  unfold State.replan
  try simp -zeta only [State.fold_free, State.fold_hinge]
  repeat' first
    | with_reducible refine Keep.ite ?_ ?_
    | with_reducible refine Keep.foldl _ ?_ ?_
    | intro u x hu
    | intro u hu
    | with_reducible apply State.takePlan_keep
    | with_reducible apply State.pmcEvent_keep
    | with_reducible apply State.judgeYield_keep
    | with_reducible apply State.startRaises_keep
    | with_reducible apply Keep.set_free
    | with_reducible apply Keep.set_hinge
    | with_reducible exact Keep.refl _ _
    | with_reducible assumption
    | exact rfl
    | exact id
    | exact Or.inl rfl
    | exact Or.inr rfl
    | exact Or.inr (List.prefix_refl _)
    | exact Or.inr fun _ => rfl
    | exact Or.inr ⟨rfl, rfl, rfl⟩
    | exact Or.inr fun _ => ⟨rfl, rfl, rfl⟩
    | exact Or.inr fun _ => ⟨rfl, rfl⟩
    | split
    | dsimp only

theorem State.replanFor_keep (s : State) (ls : List Nat) {k0 : Nat} {z0 : State} (hk : Nat.land 0x30380221b82 k0 = 0x30380221b82) (hz : Keep k0 z0 s) : Keep k0 z0 (State.replanFor s ls) := by
  refine Keep.step ?_ hk hz
  unfold State.replanFor
  repeat' first
    | with_reducible refine Keep.ite ?_ ?_
    | with_reducible apply State.replan_keep
    | with_reducible exact Keep.refl _ _
    | with_reducible assumption
    | exact rfl
    | exact id
    | exact Or.inl rfl
    | exact Or.inr rfl
    | exact Or.inr (List.prefix_refl _)
    | exact Or.inr fun _ => rfl
    | exact Or.inr ⟨rfl, rfl, rfl⟩
    | exact Or.inr fun _ => ⟨rfl, rfl, rfl⟩
    | exact Or.inr fun _ => ⟨rfl, rfl⟩
    | split
    | dsimp only

theorem State.replanHeld_keep (s : State) {k0 : Nat} {z0 : State} (hk : Nat.land 0x30380221b82 k0 = 0x30380221b82) (hz : Keep k0 z0 s) : Keep k0 z0 (State.replanHeld s) := by
  refine Keep.step ?_ hk hz
  unfold State.replanHeld
  repeat' first
    | with_reducible refine Keep.ite ?_ ?_
    | with_reducible apply State.replan_keep
    | with_reducible exact Keep.refl _ _
    | with_reducible assumption
    | exact rfl
    | exact id
    | exact Or.inl rfl
    | exact Or.inr rfl
    | exact Or.inr (List.prefix_refl _)
    | exact Or.inr fun _ => rfl
    | exact Or.inr ⟨rfl, rfl, rfl⟩
    | exact Or.inr fun _ => ⟨rfl, rfl, rfl⟩
    | exact Or.inr fun _ => ⟨rfl, rfl⟩
    | split
    | dsimp only

theorem State.reportRates_keep (s : State) (rates : List Nat) {k0 : Nat} {z0 : State} (hk : Nat.land 0x30380221b82 k0 = 0x30380221b82) (hz : Keep k0 z0 s) : Keep k0 z0 (State.reportRates s rates) := by
  refine Keep.step ?_ hk hz
  unfold State.reportRates
  try simp -zeta only [State.fold_hinge]
  repeat' first
    | with_reducible refine Keep.ite ?_ ?_
    | with_reducible apply State.replanHeld_keep
    | with_reducible apply Keep.set_hinge
    | with_reducible exact Keep.refl _ _
    | with_reducible assumption
    | exact rfl
    | exact id
    | exact Or.inl rfl
    | exact Or.inr rfl
    | exact Or.inr (List.prefix_refl _)
    | exact Or.inr fun _ => rfl
    | exact Or.inr ⟨rfl, rfl, rfl⟩
    | exact Or.inr fun _ => ⟨rfl, rfl, rfl⟩
    | exact Or.inr fun _ => ⟨rfl, rfl⟩
    | split
    | dsimp only

theorem State.waitFollows_keep (s : State) (l : Nat) {k0 : Nat} {z0 : State} (hk : Nat.land 0x20000211b80 k0 = 0x20000211b80) (hz : Keep k0 z0 s) : Keep k0 z0 (State.waitFollows s l) := by
  refine Keep.step ?_ hk hz
  unfold State.waitFollows
  repeat' first
    | with_reducible refine Keep.ite ?_ ?_
    | with_reducible apply State.raise_keep
    | with_reducible apply State.finishOpt_keep
    | with_reducible apply State.putPar_keep
    | with_reducible apply Keep.modSea
    | with_reducible exact Keep.refl _ _
    | with_reducible assumption
    | exact rfl
    | exact id
    | exact Or.inl rfl
    | exact Or.inr rfl
    | exact Or.inr (List.prefix_refl _)
    | exact Or.inr fun _ => rfl
    | exact Or.inr ⟨rfl, rfl, rfl⟩
    | exact Or.inr fun _ => ⟨rfl, rfl, rfl⟩
    | exact Or.inr fun _ => ⟨rfl, rfl⟩
    | split
    | dsimp only

theorem State.tierDrop_keep (s : State) (l : Nat) {k0 : Nat} {z0 : State} (hk : Nat.land 0x30380231b82 k0 = 0x30380231b82) (hz : Keep k0 z0 s) : Keep k0 z0 (State.tierDrop s l) := by
  refine Keep.step ?_ hk hz
  unfold State.tierDrop
  repeat' first
    | with_reducible refine Keep.ite ?_ ?_
    | with_reducible apply State.abandonSwap_keep
    | with_reducible apply State.raise_keep
    | with_reducible apply State.tellPlaced_keep
    | with_reducible apply State.waitFollows_keep
    | with_reducible apply State.replan_keep
    | with_reducible apply Keep.modSea
    | with_reducible apply Keep.bump
    | with_reducible exact Keep.refl _ _
    | with_reducible assumption
    | exact rfl
    | exact id
    | exact Or.inl rfl
    | exact Or.inr rfl
    | exact Or.inr (List.prefix_refl _)
    | exact Or.inr fun _ => rfl
    | exact Or.inr ⟨rfl, rfl, rfl⟩
    | exact Or.inr fun _ => ⟨rfl, rfl, rfl⟩
    | exact Or.inr fun _ => ⟨rfl, rfl⟩
    | split
    | dsimp only

theorem State.lowerTier_keep (s : State) (l : Nat) {k0 : Nat} {z0 : State} (hk : Nat.land 0x20000211b80 k0 = 0x20000211b80) (hz : Keep k0 z0 s) : Keep k0 z0 (State.lowerTier s l) := by
  refine Keep.step ?_ hk hz
  unfold State.lowerTier
  repeat' first
    | with_reducible refine Keep.ite ?_ ?_
    | with_reducible apply State.waitFollows_keep
    | with_reducible apply Keep.modSea
    | with_reducible exact Keep.refl _ _
    | with_reducible assumption
    | exact rfl
    | exact id
    | exact Or.inl rfl
    | exact Or.inr rfl
    | exact Or.inr (List.prefix_refl _)
    | exact Or.inr fun _ => rfl
    | exact Or.inr ⟨rfl, rfl, rfl⟩
    | exact Or.inr fun _ => ⟨rfl, rfl, rfl⟩
    | exact Or.inr fun _ => ⟨rfl, rfl⟩
    | split
    | dsimp only

theorem State.returnLent_keep (s : State) (es : List Nat) {k0 : Nat} {z0 : State} (hk : Nat.land 0x180000000 k0 = 0x180000000) (hz : Keep k0 z0 s) : Keep k0 z0 (State.returnLent s es) := by
  refine Keep.step ?_ hk hz
  unfold State.returnLent
  try simp -zeta only [State.fold_hinge]
  repeat' first
    | with_reducible refine Keep.ite ?_ ?_
    | with_reducible apply State.toTransom_keep
    | with_reducible apply Keep.set_hinge
    | with_reducible exact Keep.refl _ _
    | with_reducible assumption
    | exact rfl
    | exact id
    | exact Or.inl rfl
    | exact Or.inr rfl
    | exact Or.inr (List.prefix_refl _)
    | exact Or.inr fun _ => rfl
    | exact Or.inr ⟨rfl, rfl, rfl⟩
    | exact Or.inr fun _ => ⟨rfl, rfl, rfl⟩
    | exact Or.inr fun _ => ⟨rfl, rfl⟩
    | split
    | dsimp only

theorem State.releaseSpare_keep (s : State) (l : Nat) {k0 : Nat} {z0 : State} (hk : Nat.land 0x10380200382 k0 = 0x10380200382) (hz : Keep k0 z0 s) : Keep k0 z0 (State.releaseSpare s l) := by
  refine Keep.step ?_ hk hz
  unfold State.releaseSpare
  repeat' first
    | with_reducible refine Keep.ite ?_ ?_
    | with_reducible apply State.returnLent_keep
    | with_reducible apply State.freeEngines_keep
    | with_reducible apply State.reserve_keep
    | with_reducible exact Keep.refl _ _
    | with_reducible assumption
    | exact rfl
    | exact id
    | exact Or.inl rfl
    | exact Or.inr rfl
    | exact Or.inr (List.prefix_refl _)
    | exact Or.inr fun _ => rfl
    | exact Or.inr ⟨rfl, rfl, rfl⟩
    | exact Or.inr fun _ => ⟨rfl, rfl, rfl⟩
    | exact Or.inr fun _ => ⟨rfl, rfl⟩
    | split
    | dsimp only

theorem State.lendOne_keep (s : State) (l : Nat) {k0 : Nat} {z0 : State} (hk : Nat.land 0x10380000382 k0 = 0x10380000382) (hz : Keep k0 z0 s) : Keep k0 z0 (State.lendOne s l) := by
  refine Keep.step ?_ hk hz
  unfold State.lendOne
  try simp -zeta only [State.fold_hinge]
  repeat' first
    | with_reducible refine Keep.ite ?_ ?_
    | with_reducible apply State.assign_keep
    | with_reducible apply Keep.modEng
    | with_reducible apply Keep.set_hinge
    | with_reducible exact Keep.refl _ _
    | with_reducible assumption
    | exact rfl
    | exact id
    | exact Or.inl rfl
    | exact Or.inr rfl
    | exact Or.inr (List.prefix_refl _)
    | exact Or.inr fun _ => rfl
    | exact Or.inr ⟨rfl, rfl, rfl⟩
    | exact Or.inr fun _ => ⟨rfl, rfl, rfl⟩
    | exact Or.inr fun _ => ⟨rfl, rfl⟩
    | split
    | dsimp only

theorem State.enlarge_keep (s : State) (l : Nat) {k0 : Nat} {z0 : State} (hk : Nat.land 0x10380200382 k0 = 0x10380200382) (hz : Keep k0 z0 s) : Keep k0 z0 (State.enlarge s l) := by
  refine Keep.step ?_ hk hz
  unfold State.enlarge
  repeat' first
    | with_reducible refine Keep.ite ?_ ?_
    | with_reducible refine Keep.foldl _ ?_ ?_
    | intro u x hu
    | intro u hu
    | with_reducible apply State.addEngines_keep
    | with_reducible apply State.lendOne_keep
    | with_reducible apply Keep.modSea
    | with_reducible exact Keep.refl _ _
    | with_reducible assumption
    | exact rfl
    | exact id
    | exact Or.inl rfl
    | exact Or.inr rfl
    | exact Or.inr (List.prefix_refl _)
    | exact Or.inr fun _ => rfl
    | exact Or.inr ⟨rfl, rfl, rfl⟩
    | exact Or.inr fun _ => ⟨rfl, rfl, rfl⟩
    | exact Or.inr fun _ => ⟨rfl, rfl⟩
    | split
    | dsimp only

theorem State.boundary_keep (s : State) (l : Nat) {k0 : Nat} {z0 : State} (hk : Nat.land 0x30380231b82 k0 = 0x30380231b82) (hz : Keep k0 z0 s) : Keep k0 z0 (State.boundary s l) := by
  refine Keep.step ?_ hk hz
  unfold State.boundary
  repeat' first
    | with_reducible refine Keep.ite ?_ ?_
    | with_reducible apply State.tierDrop_keep
    | with_reducible apply State.lowerTier_keep
    | with_reducible apply State.releaseSpare_keep
    | with_reducible apply State.enlarge_keep
    | with_reducible apply State.tellPlaced_keep
    | with_reducible apply State.startRaises_keep
    | with_reducible exact Keep.refl _ _
    | with_reducible assumption
    | exact rfl
    | exact id
    | exact Or.inl rfl
    | exact Or.inr rfl
    | exact Or.inr (List.prefix_refl _)
    | exact Or.inr fun _ => rfl
    | exact Or.inr ⟨rfl, rfl, rfl⟩
    | exact Or.inr fun _ => ⟨rfl, rfl, rfl⟩
    | exact Or.inr fun _ => ⟨rfl, rfl⟩
    | split
    | dsimp only

theorem State.releaseLane_keep (s : State) (l : Nat) {k0 : Nat} {z0 : State} (hk : Nat.land 0x30380221b82 k0 = 0x30380221b82) (hz : Keep k0 z0 s) : Keep k0 z0 (State.releaseLane s l) := by
  refine Keep.step ?_ hk hz
  unfold State.releaseLane
  repeat' first
    | with_reducible refine Keep.ite ?_ ?_
    | with_reducible apply State.abandonSwap_keep
    | with_reducible apply State.seaYieldEnd_keep
    | with_reducible apply State.finishOpt_keep
    | with_reducible apply State.returnLent_keep
    | with_reducible apply State.freeEngines_keep
    | with_reducible apply State.reserve_keep
    | with_reducible apply State.tellPlaced_keep
    | with_reducible apply Keep.modSea
    | with_reducible exact Keep.refl _ _
    | with_reducible assumption
    | exact rfl
    | exact id
    | exact Or.inl rfl
    | exact Or.inr rfl
    | exact Or.inr (List.prefix_refl _)
    | exact Or.inr fun _ => rfl
    | exact Or.inr ⟨rfl, rfl, rfl⟩
    | exact Or.inr fun _ => ⟨rfl, rfl, rfl⟩
    | exact Or.inr fun _ => ⟨rfl, rfl⟩
    | split
    | dsimp only

theorem State.startHinge_keep (s : State) (rates : List Nat) {k0 : Nat} {z0 : State} (hk : Nat.land 0x30380221b82 k0 = 0x30380221b82) (hz : Keep k0 z0 s) : Keep k0 z0 (State.startHinge s rates) := by
  refine Keep.step ?_ hk hz
  unfold State.startHinge
  try simp -zeta only [State.fold_hinge]
  repeat' first
    | with_reducible refine Keep.ite ?_ ?_
    | with_reducible apply State.topUp_keep
    | with_reducible apply State.reserve_keep
    | with_reducible apply State.replanHeld_keep
    | with_reducible apply Keep.set_hinge
    | with_reducible exact Keep.refl _ _
    | with_reducible assumption
    | exact rfl
    | exact id
    | exact Or.inl rfl
    | exact Or.inr rfl
    | exact Or.inr (List.prefix_refl _)
    | exact Or.inr fun _ => rfl
    | exact Or.inr ⟨rfl, rfl, rfl⟩
    | exact Or.inr fun _ => ⟨rfl, rfl, rfl⟩
    | exact Or.inr fun _ => ⟨rfl, rfl⟩
    | split
    | dsimp only

theorem State.stopHinge_keep (s : State) {k0 : Nat} {z0 : State} (hk : Nat.land 0x30380221b82 k0 = 0x30380221b82) (hz : Keep k0 z0 s) : Keep k0 z0 (State.stopHinge s) := by
  refine Keep.step ?_ hk hz
  unfold State.stopHinge
  try simp -zeta only [State.fold_hinge]
  repeat' first
    | with_reducible refine Keep.ite ?_ ?_
    | with_reducible refine Keep.foldl _ ?_ ?_
    | intro u x hu
    | intro u hu
    | with_reducible apply State.releaseLane_keep
    | with_reducible apply State.freeEngines_keep
    | with_reducible apply Keep.set_hinge
    | with_reducible exact Keep.refl _ _
    | with_reducible assumption
    | exact rfl
    | exact id
    | exact Or.inl rfl
    | exact Or.inr rfl
    | exact Or.inr (List.prefix_refl _)
    | exact Or.inr fun _ => rfl
    | exact Or.inr ⟨rfl, rfl, rfl⟩
    | exact Or.inr fun _ => ⟨rfl, rfl, rfl⟩
    | exact Or.inr fun _ => ⟨rfl, rfl⟩
    | split
    | dsimp only

theorem State.takeTransom_keep (s : State) (e : Nat) {p : State × Nat} (hp : s.takeTransom e = some p) {k0 : Nat} {z0 : State} (hk : Nat.land 0x30280221b82 k0 = 0x30280221b82) (hz : Keep k0 z0 s) :
    Keep k0 z0 p.1 := by
  refine Keep.step ?_ hk hz
  unfold State.takeTransom at hp
  dsimp only at hp
  split at hp
  · injection hp with hp; subst hp; exact Keep.refl _ _
  · split at hp
    · cases hp
    · split at hp
      · cases hp
      · rw [Option.map_eq_some_iff] at hp
        obtain ⟨k, _, rfl⟩ := hp
        exact State.abandonSwap_keep _ _ _ _ rfl (Keep.refl _ _)

theorem State.replaceTransom_keep (s : State) (q : Nat) {k0 : Nat} {z0 : State} (hk : Nat.land 0x80000300 k0 = 0x80000300) (hz : Keep k0 z0 s) : Keep k0 z0 (State.replaceTransom s q) := by
  refine Keep.step ?_ hk hz
  unfold State.replaceTransom
  repeat' first
    | with_reducible refine Keep.ite ?_ ?_
    | with_reducible apply State.topUp_keep
    | with_reducible apply State.raise_keep
    | with_reducible exact Keep.refl _ _
    | with_reducible assumption
    | exact rfl
    | exact id
    | exact Or.inl rfl
    | exact Or.inr rfl
    | exact Or.inr (List.prefix_refl _)
    | exact Or.inr fun _ => rfl
    | exact Or.inr ⟨rfl, rfl, rfl⟩
    | exact Or.inr fun _ => ⟨rfl, rfl, rfl⟩
    | exact Or.inr fun _ => ⟨rfl, rfl⟩
    | split
    | dsimp only

theorem State.isolate_keep (s : State) (e source : Nat) {k0 : Nat} {z0 : State} (hk : Nat.land 0x10080000000 k0 = 0x10080000000) (hz : Keep k0 z0 s) : Keep k0 z0 (State.isolate s e source) := by
  refine Keep.step ?_ hk hz
  unfold State.isolate
  repeat' first
    | with_reducible refine Keep.ite ?_ ?_
    | with_reducible apply State.report_keep
    | with_reducible apply Keep.modEng
    | with_reducible exact Keep.refl _ _
    | with_reducible assumption
    | exact rfl
    | exact id
    | exact Or.inl rfl
    | exact Or.inr rfl
    | exact Or.inr (List.prefix_refl _)
    | exact Or.inr fun _ => rfl
    | exact Or.inr ⟨rfl, rfl, rfl⟩
    | exact Or.inr fun _ => ⟨rfl, rfl, rfl⟩
    | exact Or.inr fun _ => ⟨rfl, rfl⟩
    | split
    | dsimp only

theorem State.engineEvent_keep (s : State) (e l : Nat) (c : EngineCond) (k : Nat) {k0 : Nat} {z0 : State} (hk : Nat.land 0x300 k0 = 0x300) (hz : Keep k0 z0 s) : Keep k0 z0 (State.engineEvent s e l c k) := by
  refine Keep.step ?_ hk hz
  unfold State.engineEvent
  repeat' first
    | with_reducible refine Keep.ite ?_ ?_
    | with_reducible apply State.raise_keep
    | with_reducible exact Keep.refl _ _
    | with_reducible assumption
    | exact rfl
    | exact id
    | exact Or.inl rfl
    | exact Or.inr rfl
    | exact Or.inr (List.prefix_refl _)
    | exact Or.inr fun _ => rfl
    | exact Or.inr ⟨rfl, rfl, rfl⟩
    | exact Or.inr fun _ => ⟨rfl, rfl, rfl⟩
    | exact Or.inr fun _ => ⟨rfl, rfl⟩
    | split
    | dsimp only

theorem State.adaptFault_keep (s : State) (e : Nat) (c : EngineCond) {k0 : Nat} {z0 : State} (hk : Nat.land 0x30380221b82 k0 = 0x30380221b82) (hz : Keep k0 z0 s) : Keep k0 z0 (State.adaptFault s e c) := by
  refine Keep.step ?_ hk hz
  unfold State.adaptFault
  repeat' first
    | with_reducible refine Keep.ite ?_ ?_
    | with_reducible apply State.isolate_keep
    | with_reducible apply State.assign_keep
    | with_reducible apply State.holdAdapt_keep
    | with_reducible apply State.engineEvent_keep
    | with_reducible apply State.replaceTransom_keep
    | with_reducible apply State.replanHeld_keep
    | with_reducible apply Keep.bump
    | with_reducible apply Keep.modSea
    | with_reducible exact Keep.refl _ _
    | with_reducible assumption
    | exact rfl
    | exact id
    | exact Or.inl rfl
    | exact Or.inr rfl
    | exact Or.inr (List.prefix_refl _)
    | exact Or.inr fun _ => rfl
    | exact Or.inr ⟨rfl, rfl, rfl⟩
    | exact Or.inr fun _ => ⟨rfl, rfl, rfl⟩
    | exact Or.inr fun _ => ⟨rfl, rfl⟩
    | split
    | dsimp only

theorem State.engineFault_keep (s : State) (e : Nat) (c : EngineCond) {k0 : Nat} {z0 : State} (hk : Nat.land 0x30380221b82 k0 = 0x30380221b82) (hz : Keep k0 z0 s) : Keep k0 z0 (s.engineFault e c) := by
  refine Keep.step ?_ hk hz
  unfold State.engineFault
  dsimp only
  have hi : Keep 0x30380221b82 s (s.isolate e srcTest) := State.isolate_keep _ _ _ rfl (Keep.refl _ _)
  split
  · exact State.adaptFault_keep _ _ _ rfl (Keep.refl _ _)
  · have h1 : Keep 0x30380221b82 s (((s.isolate e srcTest).bump gSea (s.engAt e).lane 6).withHinge
        { ((s.isolate e srcTest).bump gSea (s.engAt e).lane 6).hinge with lentFloors := s.hinge.lentFloors.erase e }) :=
      Keep.set_hinge rfl (Keep.bump rfl hi)
    split
    · rename_i h
      exact State.replaceTransom_keep _ _ rfl (State.engineEvent_keep _ _ _ _ _ rfl (State.assign_keep _ _ _ _ rfl
        (State.takeTransom_keep _ _ h rfl h1)))
    · exact State.replanHeld_keep _ rfl (State.replaceTransom_keep _ _ rfl (State.tellPlaced_keep _ _ rfl
        (State.engineEvent_keep _ _ _ _ _ rfl h1)))
  · exact State.replaceTransom_keep _ _ rfl (State.engineEvent_keep _ _ _ _ _ rfl (State.isolate_keep _ _ _ rfl
      (State.abandonSwap_keep _ _ _ _ rfl (Keep.refl _ _))))
  · exact State.replaceTransom_keep _ _ rfl (State.engineEvent_keep _ _ _ _ _ rfl hi)
  · exact State.replaceTransom_keep _ _ rfl (State.engineEvent_keep _ _ _ _ _ rfl hi)
  · have h1 : Keep 0x30380221b82 s (s.withTst { s.tst with slices := s.tst.slices.erase (.engine e) }) := Keep.set_tst rfl (Keep.refl _ _)
    refine State.engineEvent_keep _ _ _ _ _ rfl (State.isolate_keep _ _ _ rfl ?_)
    split
    · exact h1
    · exact Keep.refl _ _
  · exact Keep.refl _ _

theorem State.syncRx_keep (s : State) (l : Nat) {k0 : Nat} {z0 : State} (hk : Nat.land 0x1100000 k0 = 0x1100000) (hz : Keep k0 z0 s) : Keep k0 z0 (State.syncRx s l) := by
  refine Keep.step ?_ hk hz
  unfold State.syncRx
  repeat' first
    | with_reducible refine Keep.ite ?_ ?_
    | with_reducible apply Keep.modLrx
    | with_reducible apply Keep.modPlt
    | with_reducible exact Keep.refl _ _
    | with_reducible assumption
    | exact rfl
    | exact id
    | exact Or.inl rfl
    | exact Or.inr rfl
    | exact Or.inr (List.prefix_refl _)
    | exact Or.inr fun _ => rfl
    | exact Or.inr ⟨rfl, rfl, rfl⟩
    | exact Or.inr fun _ => ⟨rfl, rfl, rfl⟩
    | exact Or.inr fun _ => ⟨rfl, rfl⟩
    | split
    | dsimp only

theorem State.endEnable_keep (s : State) (l : Nat) (cause : TxCause) {k0 : Nat} {z0 : State} (hk : Nat.land 0x2002800300 k0 = 0x2002800300) (hz : Keep k0 z0 s) : Keep k0 z0 (State.endEnable s l cause) := by
  refine Keep.step ?_ hk hz
  unfold State.endEnable
  repeat' first
    | with_reducible refine Keep.ite ?_ ?_
    | with_reducible apply State.opticsStop_keep
    | with_reducible apply State.raise_keep
    | with_reducible apply Keep.modLtx
    | with_reducible exact Keep.refl _ _
    | with_reducible assumption
    | exact rfl
    | exact id
    | exact Or.inl rfl
    | exact Or.inr rfl
    | exact Or.inr (List.prefix_refl _)
    | exact Or.inr fun _ => rfl
    | exact Or.inr ⟨rfl, rfl, rfl⟩
    | exact Or.inr fun _ => ⟨rfl, rfl, rfl⟩
    | exact Or.inr fun _ => ⟨rfl, rfl⟩
    | split
    | dsimp only

theorem State.syncTxState_keep (s : State) (l : Nat) (cause : TxCause) {k0 : Nat} {z0 : State} (hk : Nat.land 0x2002800300 k0 = 0x2002800300) (hz : Keep k0 z0 s) : Keep k0 z0 (State.syncTxState s l cause) := by
  refine Keep.step ?_ hk hz
  unfold State.syncTxState
  repeat' first
    | with_reducible refine Keep.ite ?_ ?_
    | with_reducible apply State.endEnable_keep
    | with_reducible apply Keep.modLtx
    | with_reducible exact Keep.refl _ _
    | with_reducible assumption
    | exact rfl
    | exact id
    | exact Or.inl rfl
    | exact Or.inr rfl
    | exact Or.inr (List.prefix_refl _)
    | exact Or.inr fun _ => rfl
    | exact Or.inr ⟨rfl, rfl, rfl⟩
    | exact Or.inr fun _ => ⟨rfl, rfl, rfl⟩
    | exact Or.inr fun _ => ⟨rfl, rfl⟩
    | split
    | dsimp only

theorem State.syncTx_keep (s : State) (l : Nat) (cause : TxCause) {k0 : Nat} {z0 : State} (hk : Nat.land 0x2002800300 k0 = 0x2002800300) (hz : Keep k0 z0 s) : Keep k0 z0 (State.syncTx s l cause) := by
  refine Keep.step ?_ hk hz
  unfold State.syncTx
  repeat' first
    | with_reducible refine Keep.ite ?_ ?_
    | with_reducible apply State.syncTxState_keep
    | with_reducible apply Keep.modLtx
    | with_reducible exact Keep.refl _ _
    | with_reducible assumption
    | exact rfl
    | exact id
    | exact Or.inl rfl
    | exact Or.inr rfl
    | exact Or.inr (List.prefix_refl _)
    | exact Or.inr fun _ => rfl
    | exact Or.inr ⟨rfl, rfl, rfl⟩
    | exact Or.inr fun _ => ⟨rfl, rfl, rfl⟩
    | exact Or.inr fun _ => ⟨rfl, rfl⟩
    | split
    | dsimp only

theorem State.syncHost_keep (s : State) (h : Nat) {k0 : Nat} {z0 : State} (hk : Nat.land 0x8000000 k0 = 0x8000000) (hz : Keep k0 z0 s) : Keep k0 z0 (State.syncHost s h) := by
  refine Keep.step ?_ hk hz
  unfold State.syncHost
  repeat' first
    | with_reducible refine Keep.ite ?_ ?_
    | with_reducible apply Keep.modHost
    | with_reducible exact Keep.refl _ _
    | with_reducible assumption
    | exact rfl
    | exact id
    | exact Or.inl rfl
    | exact Or.inr rfl
    | exact Or.inr (List.prefix_refl _)
    | exact Or.inr fun _ => rfl
    | exact Or.inr ⟨rfl, rfl, rfl⟩
    | exact Or.inr fun _ => ⟨rfl, rfl, rfl⟩
    | exact Or.inr fun _ => ⟨rfl, rfl⟩
    | split
    | dsimp only

theorem State.syncGroup_keep (s : State) (g : Nat) {k0 : Nat} {z0 : State} (hk : Nat.land 0x10000000 k0 = 0x10000000) (hz : Keep k0 z0 s) : Keep k0 z0 (State.syncGroup s g) := by
  refine Keep.step ?_ hk hz
  unfold State.syncGroup
  repeat' first
    | with_reducible refine Keep.ite ?_ ?_
    | with_reducible apply Keep.modGroup
    | with_reducible exact Keep.refl _ _
    | with_reducible assumption
    | exact rfl
    | exact id
    | exact Or.inl rfl
    | exact Or.inr rfl
    | exact Or.inr (List.prefix_refl _)
    | exact Or.inr fun _ => rfl
    | exact Or.inr ⟨rfl, rfl, rfl⟩
    | exact Or.inr fun _ => ⟨rfl, rfl, rfl⟩
    | exact Or.inr fun _ => ⟨rfl, rfl⟩
    | split
    | dsimp only

theorem State.syncWith_keep (s : State) (cause : TxCause) {k0 : Nat} {z0 : State} (hk : Nat.land 0x2201b905b08 k0 = 0x2201b905b08) (hz : Keep k0 z0 s) : Keep k0 z0 (State.syncWith s cause) := by
  refine Keep.step ?_ hk hz
  unfold State.syncWith
  repeat' first
    | with_reducible refine Keep.ite ?_ ?_
    | with_reducible refine Keep.foldl _ ?_ ?_
    | intro u x hu
    | intro u hu
    | with_reducible apply State.syncRx_keep
    | with_reducible apply State.syncTx_keep
    | with_reducible apply State.syncHost_keep
    | with_reducible apply State.syncGroup_keep
    | with_reducible apply State.opticsCheck_keep
    | with_reducible apply State.settle_keep
    | with_reducible exact Keep.refl _ _
    | with_reducible assumption
    | exact rfl
    | exact id
    | exact Or.inl rfl
    | exact Or.inr rfl
    | exact Or.inr (List.prefix_refl _)
    | exact Or.inr fun _ => rfl
    | exact Or.inr ⟨rfl, rfl, rfl⟩
    | exact Or.inr fun _ => ⟨rfl, rfl, rfl⟩
    | exact Or.inr fun _ => ⟨rfl, rfl⟩
    | split
    | dsimp only

theorem State.sync_keep (s : State) {k0 : Nat} {z0 : State} (hk : Nat.land 0x2201b905b08 k0 = 0x2201b905b08) (hz : Keep k0 z0 s) : Keep k0 z0 (State.sync s) := by
  refine Keep.step ?_ hk hz
  unfold State.sync
  repeat' first
    | with_reducible refine Keep.ite ?_ ?_
    | with_reducible apply State.syncWith_keep
    | with_reducible exact Keep.refl _ _
    | with_reducible assumption
    | exact rfl
    | exact id
    | exact Or.inl rfl
    | exact Or.inr rfl
    | exact Or.inr (List.prefix_refl _)
    | exact Or.inr fun _ => rfl
    | exact Or.inr ⟨rfl, rfl, rfl⟩
    | exact Or.inr fun _ => ⟨rfl, rfl, rfl⟩
    | exact Or.inr fun _ => ⟨rfl, rfl⟩
    | split
    | dsimp only

theorem State.countFaultSide_keep (s : State) (p : Nat) (host : Bool) {k0 : Nat} {z0 : State} (hk : Nat.land 0x20020000 k0 = 0x20020000) (hz : Keep k0 z0 s) : Keep k0 z0 (State.countFaultSide s p host) := by
  refine Keep.step ?_ hk hz
  unfold State.countFaultSide
  repeat' first
    | with_reducible refine Keep.ite ?_ ?_
    | with_reducible apply Keep.modPort
    | with_reducible apply Keep.bump
    | with_reducible exact Keep.refl _ _
    | with_reducible assumption
    | exact rfl
    | exact id
    | exact Or.inl rfl
    | exact Or.inr rfl
    | exact Or.inr (List.prefix_refl _)
    | exact Or.inr fun _ => rfl
    | exact Or.inr ⟨rfl, rfl, rfl⟩
    | exact Or.inr fun _ => ⟨rfl, rfl, rfl⟩
    | exact Or.inr fun _ => ⟨rfl, rfl⟩
    | split
    | dsimp only

theorem State.portFail_keep (s : State) (p : Nat) (ls hs : List Nat) (ev : Nat) {k0 : Nat} {z0 : State} (hk : Nat.land 0x2c1e0300 k0 = 0x2c1e0300) (hz : Keep k0 z0 s) : Keep k0 z0 (State.portFail s p ls hs ev) := by
  refine Keep.step ?_ hk hz
  unfold State.portFail
  repeat' first
    | with_reducible refine Keep.ite ?_ ?_
    | with_reducible apply State.lineFault_keep
    | with_reducible apply State.hostFault_keep
    | with_reducible apply State.countFaultSide_keep
    | with_reducible apply State.raise_keep
    | with_reducible apply Keep.modPort
    | with_reducible exact Keep.refl _ _
    | with_reducible assumption
    | exact rfl
    | exact id
    | exact Or.inl rfl
    | exact Or.inr rfl
    | exact Or.inr (List.prefix_refl _)
    | exact Or.inr fun _ => rfl
    | exact Or.inr ⟨rfl, rfl, rfl⟩
    | exact Or.inr fun _ => ⟨rfl, rfl, rfl⟩
    | exact Or.inr fun _ => ⟨rfl, rfl⟩
    | split
    | dsimp only

theorem State.fixPaths_keep (s : State) (p : Nat) {k0 : Nat} {z0 : State} (hk : Nat.land 0x8002 k0 = 0x8002) (hz : Keep k0 z0 s) : Keep k0 z0 (State.fixPaths s p) := by
  refine Keep.step ?_ hk hz
  unfold State.fixPaths
  repeat' first
    | with_reducible refine Keep.ite ?_ ?_
    | with_reducible refine Keep.foldl _ ?_ ?_
    | intro u x hu
    | intro u hu
    | with_reducible apply State.freeNext_keep
    | with_reducible apply Keep.modResid
    | with_reducible exact Keep.refl _ _
    | with_reducible assumption
    | exact rfl
    | exact id
    | exact Or.inl rfl
    | exact Or.inr rfl
    | exact Or.inr (List.prefix_refl _)
    | exact Or.inr fun _ => rfl
    | exact Or.inr ⟨rfl, rfl, rfl⟩
    | exact Or.inr fun _ => ⟨rfl, rfl, rfl⟩
    | exact Or.inr fun _ => ⟨rfl, rfl⟩
    | split
    | dsimp only

theorem State.portCheck_keep (s : State) (p : Nat) {k0 : Nat} {z0 : State} (hk : Nat.land 0x20020029b82 k0 = 0x20020029b82) (hz : Keep k0 z0 s) : Keep k0 z0 (State.portCheck s p) := by
  refine Keep.step ?_ hk hz
  unfold State.portCheck
  repeat' first
    | with_reducible refine Keep.ite ?_ ?_
    | with_reducible apply State.fixPaths_keep
    | with_reducible apply State.finishOpt_keep
    | with_reducible apply State.raise_keep
    | with_reducible apply Keep.modPort
    | with_reducible apply Keep.bump
    | with_reducible exact Keep.refl _ _
    | with_reducible assumption
    | exact rfl
    | exact id
    | exact Or.inl rfl
    | exact Or.inr rfl
    | exact Or.inr (List.prefix_refl _)
    | exact Or.inr fun _ => rfl
    | exact Or.inr ⟨rfl, rfl, rfl⟩
    | exact Or.inr fun _ => ⟨rfl, rfl, rfl⟩
    | exact Or.inr fun _ => ⟨rfl, rfl⟩
    | split
    | dsimp only

theorem State.portsCheck_keep (s : State) {k0 : Nat} {z0 : State} (hk : Nat.land 0x20020029b82 k0 = 0x20020029b82) (hz : Keep k0 z0 s) : Keep k0 z0 (State.portsCheck s) := by
  refine Keep.step ?_ hk hz
  unfold State.portsCheck
  repeat' first
    | with_reducible refine Keep.ite ?_ ?_
    | with_reducible refine Keep.foldl _ ?_ ?_
    | intro u x hu
    | intro u hu
    | with_reducible apply State.portCheck_keep
    | with_reducible exact Keep.refl _ _
    | with_reducible assumption
    | exact rfl
    | exact id
    | exact Or.inl rfl
    | exact Or.inr rfl
    | exact Or.inr (List.prefix_refl _)
    | exact Or.inr fun _ => rfl
    | exact Or.inr ⟨rfl, rfl, rfl⟩
    | exact Or.inr fun _ => ⟨rfl, rfl, rfl⟩
    | exact Or.inr fun _ => ⟨rfl, rfl⟩
    | split
    | dsimp only

theorem State.loadPreset_keep (s : State) (l idx : Nat) {k0 : Nat} {z0 : State} (hk : Nat.land 0x180000 k0 = 0x180000) (hz : Keep k0 z0 s) : Keep k0 z0 (State.loadPreset s l idx) := by
  refine Keep.step ?_ hk hz
  unfold State.loadPreset
  repeat' first
    | with_reducible refine Keep.ite ?_ ?_
    | with_reducible apply Keep.modLrx
    | with_reducible exact Keep.refl _ _
    | with_reducible assumption
    | exact rfl
    | exact id
    | exact Or.inl rfl
    | exact Or.inr rfl
    | exact Or.inr (List.prefix_refl _)
    | exact Or.inr fun _ => rfl
    | exact Or.inr ⟨rfl, rfl, rfl⟩
    | exact Or.inr fun _ => ⟨rfl, rfl, rfl⟩
    | exact Or.inr fun _ => ⟨rfl, rfl⟩
    | split
    | dsimp only

theorem State.resetTable_keep (s : State) (l : Nat) {k0 : Nat} {z0 : State} (hk : Nat.land 0x400000 k0 = 0x400000) (hz : Keep k0 z0 s) : Keep k0 z0 (State.resetTable s l) := by
  refine Keep.step ?_ hk hz
  unfold State.resetTable
  repeat' first
    | with_reducible refine Keep.ite ?_ ?_
    | with_reducible apply Keep.modSdf
    | with_reducible exact Keep.refl _ _
    | with_reducible assumption
    | exact rfl
    | exact id
    | exact Or.inl rfl
    | exact Or.inr rfl
    | exact Or.inr (List.prefix_refl _)
    | exact Or.inr fun _ => rfl
    | exact Or.inr ⟨rfl, rfl, rfl⟩
    | exact Or.inr fun _ => ⟨rfl, rfl, rfl⟩
    | exact Or.inr fun _ => ⟨rfl, rfl⟩
    | split
    | dsimp only

theorem State.huntStart_keep (s : State) (l : Nat) {k0 : Nat} {z0 : State} (hk : Nat.land 0x400000 k0 = 0x400000) (hz : Keep k0 z0 s) : Keep k0 z0 (State.huntStart s l) := by
  refine Keep.step ?_ hk hz
  unfold State.huntStart
  repeat' first
    | with_reducible refine Keep.ite ?_ ?_
    | with_reducible apply Keep.modSdf
    | with_reducible exact Keep.refl _ _
    | with_reducible assumption
    | exact rfl
    | exact id
    | exact Or.inl rfl
    | exact Or.inr rfl
    | exact Or.inr (List.prefix_refl _)
    | exact Or.inr fun _ => rfl
    | exact Or.inr ⟨rfl, rfl, rfl⟩
    | exact Or.inr fun _ => ⟨rfl, rfl, rfl⟩
    | exact Or.inr fun _ => ⟨rfl, rfl⟩
    | split
    | dsimp only

theorem State.lockEnd_keep (s : State) (l cause : Nat) {k0 : Nat} {z0 : State} (hk : Nat.land 0x420300 k0 = 0x420300) (hz : Keep k0 z0 s) : Keep k0 z0 (State.lockEnd s l cause) := by
  refine Keep.step ?_ hk hz
  unfold State.lockEnd
  repeat' first
    | with_reducible refine Keep.ite ?_ ?_
    | with_reducible apply State.huntStart_keep
    | with_reducible apply State.raise_keep
    | with_reducible apply Keep.bump
    | with_reducible exact Keep.refl _ _
    | with_reducible assumption
    | exact rfl
    | exact id
    | exact Or.inl rfl
    | exact Or.inr rfl
    | exact Or.inr (List.prefix_refl _)
    | exact Or.inr fun _ => rfl
    | exact Or.inr ⟨rfl, rfl, rfl⟩
    | exact Or.inr fun _ => ⟨rfl, rfl, rfl⟩
    | exact Or.inr fun _ => ⟨rfl, rfl⟩
    | split
    | dsimp only

theorem State.acquire_keep (s : State) (l : Nat) (cold : Bool) {k0 : Nat} {z0 : State} (hk : Nat.land 0x5a0000 k0 = 0x5a0000) (hz : Keep k0 z0 s) : Keep k0 z0 (State.acquire s l cold) := by
  refine Keep.step ?_ hk hz
  unfold State.acquire
  repeat' first
    | with_reducible refine Keep.ite ?_ ?_
    | with_reducible apply State.resetTable_keep
    | with_reducible apply State.loadPreset_keep
    | with_reducible apply Keep.modLrx
    | with_reducible apply Keep.modSdf
    | with_reducible apply Keep.bump
    | with_reducible exact Keep.refl _ _
    | with_reducible assumption
    | exact rfl
    | exact id
    | exact Or.inl rfl
    | exact Or.inr rfl
    | exact Or.inr (List.prefix_refl _)
    | exact Or.inr fun _ => rfl
    | exact Or.inr ⟨rfl, rfl, rfl⟩
    | exact Or.inr fun _ => ⟨rfl, rfl, rfl⟩
    | exact Or.inr fun _ => ⟨rfl, rfl⟩
    | split
    | dsimp only

theorem State.lineStart_keep (s : State) (l : Nat) {k0 : Nat} {z0 : State} (hk : Nat.land 0x7e0000 k0 = 0x7e0000) (hz : Keep k0 z0 s) : Keep k0 z0 (State.lineStart s l) := by
  refine Keep.step ?_ hk hz
  unfold State.lineStart
  repeat' first
    | with_reducible refine Keep.ite ?_ ?_
    | with_reducible apply State.huntStart_keep
    | with_reducible apply State.acquire_keep
    | with_reducible apply Keep.modLine
    | with_reducible exact Keep.refl _ _
    | with_reducible assumption
    | exact rfl
    | exact id
    | exact Or.inl rfl
    | exact Or.inr rfl
    | exact Or.inr (List.prefix_refl _)
    | exact Or.inr fun _ => rfl
    | exact Or.inr ⟨rfl, rfl, rfl⟩
    | exact Or.inr fun _ => ⟨rfl, rfl, rfl⟩
    | exact Or.inr fun _ => ⟨rfl, rfl⟩
    | split
    | dsimp only

theorem State.lineFault_keep (s : State) (l ev : Nat) {k0 : Nat} {z0 : State} (hk : Nat.land 0x2c1e0300 k0 = 0x2c1e0300) (hz : Keep k0 z0 s) : Keep k0 z0 (State.lineFault s l ev) := by
  refine Keep.step ?_ hk hz
  unfold State.lineFault
  repeat' first
    | with_reducible refine Keep.ite ?_ ?_
    | with_reducible apply State.portFail_keep
    | with_reducible apply Keep.modLine
    | with_reducible exact Keep.refl _ _
    | with_reducible assumption
    | exact rfl
    | exact id
    | exact Or.inl rfl
    | exact Or.inr rfl
    | exact Or.inr (List.prefix_refl _)
    | exact Or.inr fun _ => rfl
    | exact Or.inr ⟨rfl, rfl, rfl⟩
    | exact Or.inr fun _ => ⟨rfl, rfl, rfl⟩
    | exact Or.inr fun _ => ⟨rfl, rfl⟩
    | split
    | dsimp only

theorem State.faultWarm_keep (s : State) (l ev : Nat) {k0 : Nat} {z0 : State} (hk : Nat.land 0x2c5e0300 k0 = 0x2c5e0300) (hz : Keep k0 z0 s) : Keep k0 z0 (State.faultWarm s l ev) := by
  refine Keep.step ?_ hk hz
  unfold State.faultWarm
  repeat' first
    | with_reducible refine Keep.ite ?_ ?_
    | with_reducible apply State.lineFault_keep
    | with_reducible apply State.acquire_keep
    | with_reducible exact Keep.refl _ _
    | with_reducible assumption
    | exact rfl
    | exact id
    | exact Or.inl rfl
    | exact Or.inr rfl
    | exact Or.inr (List.prefix_refl _)
    | exact Or.inr fun _ => rfl
    | exact Or.inr ⟨rfl, rfl, rfl⟩
    | exact Or.inr fun _ => ⟨rfl, rfl, rfl⟩
    | exact Or.inr fun _ => ⟨rfl, rfl⟩
    | split
    | dsimp only

theorem State.lineTryUp_keep (s : State) (l : Nat) {k0 : Nat} {z0 : State} (hk : Nat.land 0x200201e9b82 k0 = 0x200201e9b82) (hz : Keep k0 z0 s) : Keep k0 z0 (State.lineTryUp s l) := by
  refine Keep.step ?_ hk hz
  unfold State.lineTryUp
  repeat' first
    | with_reducible refine Keep.ite ?_ ?_
    | with_reducible apply State.portsCheck_keep
    | with_reducible apply Keep.modLine
    | with_reducible exact Keep.refl _ _
    | with_reducible assumption
    | exact rfl
    | exact id
    | exact Or.inl rfl
    | exact Or.inr rfl
    | exact Or.inr (List.prefix_refl _)
    | exact Or.inr fun _ => rfl
    | exact Or.inr ⟨rfl, rfl, rfl⟩
    | exact Or.inr fun _ => ⟨rfl, rfl, rfl⟩
    | exact Or.inr fun _ => ⟨rfl, rfl⟩
    | split
    | dsimp only

theorem State.lineDown_keep (s : State) (l : Nat) {k0 : Nat} {z0 : State} (hk : Nat.land 0x303807e1b82 k0 = 0x303807e1b82) (hz : Keep k0 z0 s) : Keep k0 z0 (State.lineDown s l) := by
  refine Keep.step ?_ hk hz
  unfold State.lineDown
  repeat' first
    | with_reducible refine Keep.ite ?_ ?_
    | with_reducible apply State.lockEnd_keep
    | with_reducible apply State.releaseLane_keep
    | with_reducible apply Keep.modLine
    | with_reducible exact Keep.refl _ _
    | with_reducible assumption
    | exact rfl
    | exact id
    | exact Or.inl rfl
    | exact Or.inr rfl
    | exact Or.inr (List.prefix_refl _)
    | exact Or.inr fun _ => rfl
    | exact Or.inr ⟨rfl, rfl, rfl⟩
    | exact Or.inr fun _ => ⟨rfl, rfl, rfl⟩
    | exact Or.inr fun _ => ⟨rfl, rfl⟩
    | split
    | dsimp only

theorem State.hostAcquire_keep (s : State) (h : Nat) (warm : Bool) {k0 : Nat} {z0 : State} (hk : Nat.land 0xc020000 k0 = 0xc020000) (hz : Keep k0 z0 s) : Keep k0 z0 (State.hostAcquire s h warm) := by
  refine Keep.step ?_ hk hz
  unfold State.hostAcquire
  repeat' first
    | with_reducible refine Keep.ite ?_ ?_
    | with_reducible apply Keep.modHost
    | with_reducible apply Keep.bump
    | with_reducible exact Keep.refl _ _
    | with_reducible assumption
    | exact rfl
    | exact id
    | exact Or.inl rfl
    | exact Or.inr rfl
    | exact Or.inr (List.prefix_refl _)
    | exact Or.inr fun _ => rfl
    | exact Or.inr ⟨rfl, rfl, rfl⟩
    | exact Or.inr fun _ => ⟨rfl, rfl, rfl⟩
    | exact Or.inr fun _ => ⟨rfl, rfl⟩
    | split
    | dsimp only

theorem State.hostFault_keep (s : State) (h : Nat) (cause : HostCause) (ev : Nat) {k0 : Nat} {z0 : State} (hk : Nat.land 0x2c1e0300 k0 = 0x2c1e0300) (hz : Keep k0 z0 s) : Keep k0 z0 (State.hostFault s h cause ev) := by
  refine Keep.step ?_ hk hz
  unfold State.hostFault
  repeat' first
    | with_reducible refine Keep.ite ?_ ?_
    | with_reducible apply State.portFail_keep
    | with_reducible apply Keep.modHost
    | with_reducible exact Keep.refl _ _
    | with_reducible assumption
    | exact rfl
    | exact id
    | exact Or.inl rfl
    | exact Or.inr rfl
    | exact Or.inr (List.prefix_refl _)
    | exact Or.inr fun _ => rfl
    | exact Or.inr ⟨rfl, rfl, rfl⟩
    | exact Or.inr fun _ => ⟨rfl, rfl, rfl⟩
    | exact Or.inr fun _ => ⟨rfl, rfl⟩
    | split
    | dsimp only

theorem State.hostDown_keep (s : State) (h : Nat) {k0 : Nat} {z0 : State} (hk : Nat.land 0xc000000 k0 = 0xc000000) (hz : Keep k0 z0 s) : Keep k0 z0 (State.hostDown s h) := by
  refine Keep.step ?_ hk hz
  unfold State.hostDown
  repeat' first
    | with_reducible refine Keep.ite ?_ ?_
    | with_reducible apply Keep.modHost
    | with_reducible exact Keep.refl _ _
    | with_reducible assumption
    | exact rfl
    | exact id
    | exact Or.inl rfl
    | exact Or.inr rfl
    | exact Or.inr (List.prefix_refl _)
    | exact Or.inr fun _ => rfl
    | exact Or.inr ⟨rfl, rfl, rfl⟩
    | exact Or.inr fun _ => ⟨rfl, rfl, rfl⟩
    | exact Or.inr fun _ => ⟨rfl, rfl⟩
    | split
    | dsimp only

theorem State.startLanes_keep (s : State) (p : Nat) {k0 : Nat} {z0 : State} (hk : Nat.land 0xc7e0000 k0 = 0xc7e0000) (hz : Keep k0 z0 s) : Keep k0 z0 (State.startLanes s p) := by
  refine Keep.step ?_ hk hz
  unfold State.startLanes
  repeat' first
    | with_reducible refine Keep.ite ?_ ?_
    | with_reducible refine Keep.foldl _ ?_ ?_
    | intro u x hu
    | intro u hu
    | with_reducible apply State.lineStart_keep
    | with_reducible apply State.hostAcquire_keep
    | with_reducible exact Keep.refl _ _
    | with_reducible assumption
    | exact rfl
    | exact id
    | exact Or.inl rfl
    | exact Or.inr rfl
    | exact Or.inr (List.prefix_refl _)
    | exact Or.inr fun _ => rfl
    | exact Or.inr ⟨rfl, rfl, rfl⟩
    | exact Or.inr fun _ => ⟨rfl, rfl, rfl⟩
    | exact Or.inr fun _ => ⟨rfl, rfl⟩
    | split
    | dsimp only

theorem State.clearDemand_keep (s : State) (p : Nat) {k0 : Nat} {z0 : State} (hk : Nat.land 0x180000 k0 = 0x180000) (hz : Keep k0 z0 s) : Keep k0 z0 (State.clearDemand s p) := by
  refine Keep.step ?_ hk hz
  unfold State.clearDemand
  repeat' first
    | with_reducible refine Keep.ite ?_ ?_
    | with_reducible refine Keep.foldl _ ?_ ?_
    | intro u x hu
    | intro u hu
    | with_reducible apply Keep.modLrx
    | with_reducible exact Keep.refl _ _
    | with_reducible assumption
    | exact rfl
    | exact id
    | exact Or.inl rfl
    | exact Or.inr rfl
    | exact Or.inr (List.prefix_refl _)
    | exact Or.inr fun _ => rfl
    | exact Or.inr ⟨rfl, rfl, rfl⟩
    | exact Or.inr fun _ => ⟨rfl, rfl, rfl⟩
    | exact Or.inr fun _ => ⟨rfl, rfl⟩
    | split
    | dsimp only

theorem State.portStart_keep (s : State) (p : Nat) (t : Option Ticket) {k0 : Nat} {z0 : State} (hk : Nat.land 0x303ac7e1b82 k0 = 0x303ac7e1b82) (hz : Keep k0 z0 s) : Keep k0 z0 (State.portStart s p t) := by
  refine Keep.step ?_ hk hz
  unfold State.portStart
  repeat' first
    | with_reducible refine Keep.ite ?_ ?_
    | with_reducible apply State.clearDemand_keep
    | with_reducible apply State.startLanes_keep
    | with_reducible apply State.replanHeld_keep
    | with_reducible apply Keep.modPort
    | with_reducible exact Keep.refl _ _
    | with_reducible assumption
    | exact rfl
    | exact id
    | exact Or.inl rfl
    | exact Or.inr rfl
    | exact Or.inr (List.prefix_refl _)
    | exact Or.inr fun _ => rfl
    | exact Or.inr ⟨rfl, rfl, rfl⟩
    | exact Or.inr fun _ => ⟨rfl, rfl, rfl⟩
    | exact Or.inr fun _ => ⟨rfl, rfl⟩
    | split
    | dsimp only

theorem State.portStop_keep (s : State) (p : Nat) (detail : Nat) {k0 : Nat} {z0 : State} (hk : Nat.land 0x303fc7e9b82 k0 = 0x303fc7e9b82) (hz : Keep k0 z0 s) : Keep k0 z0 (State.portStop s p detail) := by
  refine Keep.step ?_ hk hz
  unfold State.portStop
  repeat' first
    | with_reducible refine Keep.ite ?_ ?_
    | with_reducible refine Keep.foldl _ ?_ ?_
    | intro u x hu
    | intro u hu
    | with_reducible apply State.lineDown_keep
    | with_reducible apply State.hostDown_keep
    | with_reducible apply State.finishOpt_keep
    | with_reducible apply State.raise_keep
    | with_reducible apply State.replanHeld_keep
    | with_reducible apply Keep.modPort
    | with_reducible apply Keep.modGroup
    | with_reducible apply Keep.modResid
    | with_reducible apply Keep.modBlock
    | with_reducible exact Keep.refl _ _
    | with_reducible assumption
    | exact rfl
    | exact id
    | exact Or.inl rfl
    | exact Or.inr rfl
    | exact Or.inr (List.prefix_refl _)
    | exact Or.inr fun _ => rfl
    | exact Or.inr ⟨rfl, rfl, rfl⟩
    | exact Or.inr fun _ => ⟨rfl, rfl, rfl⟩
    | exact Or.inr fun _ => ⟨rfl, rfl⟩
    | split
    | dsimp only

theorem State.txCut_keep (s : State) (l : Nat) {k0 : Nat} {z0 : State} (hk : Nat.land 0x800300 k0 = 0x800300) (hz : Keep k0 z0 s) : Keep k0 z0 (State.txCut s l) := by
  refine Keep.step ?_ hk hz
  unfold State.txCut
  repeat' first
    | with_reducible refine Keep.ite ?_ ?_
    | with_reducible apply State.raise_keep
    | with_reducible apply Keep.modLtx
    | with_reducible exact Keep.refl _ _
    | with_reducible assumption
    | exact rfl
    | exact id
    | exact Or.inl rfl
    | exact Or.inr rfl
    | exact Or.inr (List.prefix_refl _)
    | exact Or.inr fun _ => rfl
    | exact Or.inr ⟨rfl, rfl, rfl⟩
    | exact Or.inr fun _ => ⟨rfl, rfl, rfl⟩
    | exact Or.inr fun _ => ⟨rfl, rfl⟩
    | split
    | dsimp only

theorem State.refclkFault_keep (s : State) {k0 : Nat} {z0 : State} (hk : Nat.land 0x2c5e0300 k0 = 0x2c5e0300) (hz : Keep k0 z0 s) : Keep k0 z0 (State.refclkFault s) := by
  refine Keep.step ?_ hk hz
  unfold State.refclkFault
  repeat' first
    | with_reducible refine Keep.ite ?_ ?_
    | with_reducible refine Keep.foldl _ ?_ ?_
    | intro u x hu
    | intro u hu
    | with_reducible apply State.lockEnd_keep
    | with_reducible apply State.portFail_keep
    | with_reducible apply Keep.modLine
    | with_reducible apply Keep.modHost
    | with_reducible apply Keep.modPort
    | with_reducible exact Keep.refl _ _
    | with_reducible assumption
    | exact rfl
    | exact id
    | exact Or.inl rfl
    | exact Or.inr rfl
    | exact Or.inr (List.prefix_refl _)
    | exact Or.inr fun _ => rfl
    | exact Or.inr ⟨rfl, rfl, rfl⟩
    | exact Or.inr fun _ => ⟨rfl, rfl, rfl⟩
    | exact Or.inr fun _ => ⟨rfl, rfl⟩
    | split
    | dsimp only

theorem State.setDue_keep (s : State) (b cause : Nat) {k0 : Nat} {z0 : State} (hk : Nat.land 0x4000000000 k0 = 0x4000000000) (hz : Keep k0 z0 s) : Keep k0 z0 (State.setDue s b cause) := by
  refine Keep.step ?_ hk hz
  unfold State.setDue
  repeat' first
    | with_reducible refine Keep.ite ?_ ?_
    | with_reducible apply Keep.modCal
    | with_reducible exact Keep.refl _ _
    | with_reducible assumption
    | exact rfl
    | exact id
    | exact Or.inl rfl
    | exact Or.inr rfl
    | exact Or.inr (List.prefix_refl _)
    | exact Or.inr fun _ => rfl
    | exact Or.inr ⟨rfl, rfl, rfl⟩
    | exact Or.inr fun _ => ⟨rfl, rfl, rfl⟩
    | exact Or.inr fun _ => ⟨rfl, rfl⟩
    | split
    | dsimp only

theorem State.calAbandon_keep (s : State) (b cause : Nat) {k0 : Nat} {z0 : State} (hk : Nat.land 0x6000100300 k0 = 0x6000100300) (hz : Keep k0 z0 s) : Keep k0 z0 (State.calAbandon s b cause) := by
  refine Keep.step ?_ hk hz
  unfold State.calAbandon
  try simp -zeta only [State.fold_ocu]
  repeat' first
    | with_reducible refine Keep.ite ?_ ?_
    | with_reducible apply State.raise_keep
    | with_reducible apply Keep.modCal
    | with_reducible apply Keep.modSlice
    | with_reducible apply Keep.modLrx
    | with_reducible apply Keep.modAx
    | with_reducible apply Keep.set_ocu
    | with_reducible exact Keep.refl _ _
    | with_reducible assumption
    | exact rfl
    | exact id
    | exact Or.inl rfl
    | exact Or.inr rfl
    | exact Or.inr (List.prefix_refl _)
    | exact Or.inr fun _ => rfl
    | exact Or.inr ⟨rfl, rfl, rfl⟩
    | exact Or.inr fun _ => ⟨rfl, rfl, rfl⟩
    | exact Or.inr fun _ => ⟨rfl, rfl⟩
    | split
    | dsimp only

theorem State.countSubst_keep (s : State) (l : Nat) {k0 : Nat} {z0 : State} (hk : Nat.land 0x200000000000 k0 = 0x200000000000) (hz : Keep k0 z0 s) : Keep k0 z0 (State.countSubst s l) := by
  refine Keep.step ?_ hk hz
  unfold State.countSubst
  try simp -zeta only [State.fold_cap]
  repeat' first
    | with_reducible refine Keep.ite ?_ ?_
    | with_reducible apply Keep.set_cap
    | with_reducible exact Keep.refl _ _
    | with_reducible assumption
    | exact rfl
    | exact id
    | exact Or.inl rfl
    | exact Or.inr rfl
    | exact Or.inr (List.prefix_refl _)
    | exact Or.inr fun _ => rfl
    | exact Or.inr ⟨rfl, rfl, rfl⟩
    | exact Or.inr fun _ => ⟨rfl, rfl, rfl⟩
    | exact Or.inr fun _ => ⟨rfl, rfl⟩
    | split
    | dsimp only

theorem State.sliceFailed_keep (s : State) (l n : Nat) {k0 : Nat} {z0 : State} (hk : Nat.land 0x21602c1e0300 k0 = 0x21602c1e0300) (hz : Keep k0 z0 s) : Keep k0 z0 (State.sliceFailed s l n) := by
  refine Keep.step ?_ hk hz
  unfold State.sliceFailed
  repeat' first
    | with_reducible refine Keep.ite ?_ ?_
    | with_reducible apply State.calAbandon_keep
    | with_reducible apply State.countSubst_keep
    | with_reducible apply State.raise_keep
    | with_reducible apply State.report_keep
    | with_reducible apply State.lineFault_keep
    | with_reducible apply Keep.modSlice
    | with_reducible apply Keep.modLrx
    | with_reducible apply Keep.bump
    | with_reducible apply Keep.modLine
    | with_reducible exact Keep.refl _ _
    | with_reducible assumption
    | exact rfl
    | exact id
    | exact Or.inl rfl
    | exact Or.inr rfl
    | exact Or.inr (List.prefix_refl _)
    | exact Or.inr fun _ => rfl
    | exact Or.inr ⟨rfl, rfl, rfl⟩
    | exact Or.inr fun _ => ⟨rfl, rfl, rfl⟩
    | exact Or.inr fun _ => ⟨rfl, rfl⟩
    | split
    | dsimp only

theorem State.cellFailed_keep (s : State) (l cell : Nat) {k0 : Nat} {z0 : State} (hk : Nat.land 0x1602c9e0300 k0 = 0x1602c9e0300) (hz : Keep k0 z0 s) : Keep k0 z0 (State.cellFailed s l cell) := by
  refine Keep.step ?_ hk hz
  unfold State.cellFailed
  repeat' first
    | with_reducible refine Keep.ite ?_ ?_
    | with_reducible apply State.report_keep
    | with_reducible apply State.calAbandon_keep
    | with_reducible apply State.raise_keep
    | with_reducible apply State.lineFault_keep
    | with_reducible apply Keep.modCell
    | with_reducible apply Keep.modLtx
    | with_reducible apply Keep.modLine
    | with_reducible exact Keep.refl _ _
    | with_reducible assumption
    | exact rfl
    | exact id
    | exact Or.inl rfl
    | exact Or.inr rfl
    | exact Or.inr (List.prefix_refl _)
    | exact Or.inr fun _ => rfl
    | exact Or.inr ⟨rfl, rfl, rfl⟩
    | exact Or.inr fun _ => ⟨rfl, rfl, rfl⟩
    | exact Or.inr fun _ => ⟨rfl, rfl⟩
    | split
    | dsimp only

theorem State.reportElem_keep (s : State) (b e : Nat) {k0 : Nat} {z0 : State} (hk : Nat.land 0x21602c9e0300 k0 = 0x21602c9e0300) (hz : Keep k0 z0 s) : Keep k0 z0 (State.reportElem s b e) := by
  refine Keep.step ?_ hk hz
  unfold State.reportElem
  repeat' first
    | with_reducible refine Keep.ite ?_ ?_
    | with_reducible apply State.report_keep
    | with_reducible apply State.sliceFailed_keep
    | with_reducible apply State.cellFailed_keep
    | with_reducible apply Keep.modSlice
    | with_reducible apply Keep.modAx
    | with_reducible exact Keep.refl _ _
    | with_reducible assumption
    | exact rfl
    | exact id
    | exact Or.inl rfl
    | exact Or.inr rfl
    | exact Or.inr (List.prefix_refl _)
    | exact Or.inr fun _ => rfl
    | exact Or.inr ⟨rfl, rfl, rfl⟩
    | exact Or.inr fun _ => ⟨rfl, rfl, rfl⟩
    | exact Or.inr fun _ => ⟨rfl, rfl⟩
    | split
    | dsimp only

theorem State.calFinish_keep (s : State) (b : Nat) {k0 : Nat} {z0 : State} (hk : Nat.land 0x21602c9e0300 k0 = 0x21602c9e0300) (hz : Keep k0 z0 s) : Keep k0 z0 (State.calFinish s b) := by
  refine Keep.step ?_ hk hz
  unfold State.calFinish
  repeat' first
    | with_reducible refine Keep.ite ?_ ?_
    | with_reducible refine Keep.foldl _ ?_ ?_
    | intro u x hu
    | intro u hu
    | with_reducible apply State.reportElem_keep
    | with_reducible apply State.raise_keep
    | with_reducible apply Keep.modCal
    | with_reducible exact Keep.refl _ _
    | with_reducible assumption
    | exact rfl
    | exact id
    | exact Or.inl rfl
    | exact Or.inr rfl
    | exact Or.inr (List.prefix_refl _)
    | exact Or.inr fun _ => rfl
    | exact Or.inr ⟨rfl, rfl, rfl⟩
    | exact Or.inr fun _ => ⟨rfl, rfl, rfl⟩
    | exact Or.inr fun _ => ⟨rfl, rfl⟩
    | split
    | dsimp only

theorem State.calCheck_keep (s : State) {k0 : Nat} {z0 : State} (hk : Nat.land 0x6000100300 k0 = 0x6000100300) (hz : Keep k0 z0 s) : Keep k0 z0 (State.calCheck s) := by
  refine Keep.step ?_ hk hz
  unfold State.calCheck
  repeat' first
    | with_reducible refine Keep.ite ?_ ?_
    | with_reducible refine Keep.foldl _ ?_ ?_
    | intro u x hu
    | intro u hu
    | with_reducible apply State.calAbandon_keep
    | with_reducible apply State.setDue_keep
    | with_reducible apply Keep.modCal
    | with_reducible exact Keep.refl _ _
    | with_reducible assumption
    | exact rfl
    | exact id
    | exact Or.inl rfl
    | exact Or.inr rfl
    | exact Or.inr (List.prefix_refl _)
    | exact Or.inr fun _ => rfl
    | exact Or.inr ⟨rfl, rfl, rfl⟩
    | exact Or.inr fun _ => ⟨rfl, rfl, rfl⟩
    | exact Or.inr fun _ => ⟨rfl, rfl⟩
    | split
    | dsimp only

theorem State.follow_keep (s : State) {k0 : Nat} {z0 : State} (hk : Nat.land 0x2601b905b08 k0 = 0x2601b905b08) (hz : Keep k0 z0 s) : Keep k0 z0 (State.follow s) := by
  refine Keep.step ?_ hk hz
  unfold State.follow
  repeat' first
    | with_reducible refine Keep.ite ?_ ?_
    | with_reducible apply State.sync_keep
    | with_reducible apply State.calCheck_keep
    | with_reducible exact Keep.refl _ _
    | with_reducible assumption
    | exact rfl
    | exact id
    | exact Or.inl rfl
    | exact Or.inr rfl
    | exact Or.inr (List.prefix_refl _)
    | exact Or.inr fun _ => rfl
    | exact Or.inr ⟨rfl, rfl, rfl⟩
    | exact Or.inr fun _ => ⟨rfl, rfl, rfl⟩
    | exact Or.inr fun _ => ⟨rfl, rfl⟩
    | split
    | dsimp only

theorem execCalIntervalExpiry_keep (b : Nat) (s : State) {t : State} (h : execCalIntervalExpiry b s = .next t) : Keep 0x4000000000 s t := by
  unfold execCalIntervalExpiry at h
  injection h with h
  subst h
  repeat' first
    | with_reducible refine Keep.ite ?_ ?_
    | intro u hu
    | with_reducible apply State.setDue_keep
    | with_reducible exact Keep.refl _ _
    | with_reducible assumption
    | exact rfl
    | exact id
    | exact Or.inl rfl
    | exact Or.inr rfl
    | exact Or.inr (List.prefix_refl _)
    | exact Or.inr fun _ => rfl
    | exact Or.inr ⟨rfl, rfl, rfl⟩
    | exact Or.inr fun _ => ⟨rfl, rfl, rfl⟩
    | exact Or.inr fun _ => ⟨rfl, rfl⟩
    | split
    | dsimp only

theorem State.cellStep_keep (s : State) (l pos : Nat) {k0 : Nat} {z0 : State} (hk : Nat.land 0x800000 k0 = 0x800000) (hz : Keep k0 z0 s) : Keep k0 z0 (State.cellStep s l pos) := by
  refine Keep.step ?_ hk hz
  unfold State.cellStep
  repeat' first
    | with_reducible refine Keep.ite ?_ ?_
    | with_reducible apply Keep.modCell
    | with_reducible apply Keep.modLtx
    | with_reducible exact Keep.refl _ _
    | with_reducible assumption
    | exact rfl
    | exact id
    | exact Or.inl rfl
    | exact Or.inr rfl
    | exact Or.inr (List.prefix_refl _)
    | exact Or.inr fun _ => rfl
    | exact Or.inr ⟨rfl, rfl, rfl⟩
    | exact Or.inr fun _ => ⟨rfl, rfl, rfl⟩
    | exact Or.inr fun _ => ⟨rfl, rfl⟩
    | split
    | dsimp only

theorem execCalibrationRunStart_keep (b : Nat) (s : State) {t : State} (h : execCalibrationRunStart b s = .next t) : Keep 0x6000900000 s t := by
  unfold execCalibrationRunStart at h
  injection h with h
  subst h
  try simp -zeta only [State.fold_ocu]
  repeat' first
    | with_reducible refine Keep.ite ?_ ?_
    | intro u hu
    | with_reducible apply State.cellStep_keep
    | with_reducible apply Keep.modCal
    | with_reducible apply Keep.modLrx
    | with_reducible apply Keep.modAx
    | with_reducible apply Keep.set_ocu
    | with_reducible exact Keep.refl _ _
    | with_reducible assumption
    | exact rfl
    | exact id
    | exact Or.inl rfl
    | exact Or.inr rfl
    | exact Or.inr (List.prefix_refl _)
    | exact Or.inr fun _ => rfl
    | exact Or.inr ⟨rfl, rfl, rfl⟩
    | exact Or.inr fun _ => ⟨rfl, rfl, rfl⟩
    | exact Or.inr fun _ => ⟨rfl, rfl⟩
    | split
    | dsimp only

theorem execRotationStepStart_keep (l : Nat) (s0 : State) {t : State} (h : execRotationStepStart l s0 = .next t) : Keep 0x4000180000 s0 t := by
  unfold execRotationStepStart at h
  injection h with h
  subst h
  repeat' first
    | with_reducible refine Keep.ite ?_ ?_
    | intro u hu
    | with_reducible apply Keep.modLrx
    | with_reducible apply Keep.modCal
    | with_reducible exact Keep.refl _ _
    | with_reducible assumption
    | exact rfl
    | exact id
    | exact Or.inl rfl
    | exact Or.inr rfl
    | exact Or.inr (List.prefix_refl _)
    | exact Or.inr fun _ => rfl
    | exact Or.inr ⟨rfl, rfl, rfl⟩
    | exact Or.inr fun _ => ⟨rfl, rfl, rfl⟩
    | exact Or.inr fun _ => ⟨rfl, rfl⟩
    | split
    | dsimp only

theorem execShadowComparisonDone_keep (l : Nat) (ok : Bool) (s : State) {t : State} (h : execShadowComparisonDone l ok s = .next t) : Keep 0x3601b925b08 s t := by
  unfold execShadowComparisonDone at h
  injection h with h
  subst h
  repeat' first
    | with_reducible refine Keep.ite ?_ ?_
    | intro u hu
    | with_reducible apply State.report_keep
    | with_reducible apply State.follow_keep
    | with_reducible apply Keep.modLrx
    | with_reducible apply Keep.bump
    | with_reducible apply Keep.modSlice
    | with_reducible exact Keep.refl _ _
    | with_reducible assumption
    | exact rfl
    | exact id
    | exact Or.inl rfl
    | exact Or.inr rfl
    | exact Or.inr (List.prefix_refl _)
    | exact Or.inr fun _ => rfl
    | exact Or.inr ⟨rfl, rfl, rfl⟩
    | exact Or.inr fun _ => ⟨rfl, rfl, rfl⟩
    | exact Or.inr fun _ => ⟨rfl, rfl⟩
    | split
    | dsimp only

theorem execRotationSwitch_keep (l : Nat) (s : State) {t : State} (h : execRotationSwitch l s = .next t) : Keep 0x4000100000 s t := by
  unfold execRotationSwitch at h
  injection h with h
  subst h
  repeat' first
    | with_reducible refine Keep.ite ?_ ?_
    | intro u hu
    | with_reducible apply Keep.modSlice
    | with_reducible apply Keep.modLrx
    | with_reducible apply Keep.modCal
    | with_reducible exact Keep.refl _ _
    | with_reducible assumption
    | exact rfl
    | exact id
    | exact Or.inl rfl
    | exact Or.inr rfl
    | exact Or.inr (List.prefix_refl _)
    | exact Or.inr fun _ => rfl
    | exact Or.inr ⟨rfl, rfl, rfl⟩
    | exact Or.inr fun _ => ⟨rfl, rfl, rfl⟩
    | exact Or.inr fun _ => ⟨rfl, rfl⟩
    | split
    | dsimp only

theorem execTransomCalibrationDone_keep (l : Nat) (s : State) (ok : Bool) {t : State} (h : execTransomCalibrationDone l s ok = .next t) : Keep 0x23603f9e5b08 s t := by
  unfold execTransomCalibrationDone at h
  injection h with h
  subst h
  repeat' first
    | with_reducible refine Keep.ite ?_ ?_
    | intro u hu
    | with_reducible apply State.report_keep
    | with_reducible apply State.follow_keep
    | with_reducible apply State.calFinish_keep
    | with_reducible apply Keep.modLrx
    | with_reducible apply Keep.modCal
    | with_reducible apply Keep.modSlice
    | with_reducible exact Keep.refl _ _
    | with_reducible assumption
    | exact rfl
    | exact id
    | exact Or.inl rfl
    | exact Or.inr rfl
    | exact Or.inr (List.prefix_refl _)
    | exact Or.inr fun _ => rfl
    | exact Or.inr ⟨rfl, rfl, rfl⟩
    | exact Or.inr fun _ => ⟨rfl, rfl, rfl⟩
    | exact Or.inr fun _ => ⟨rfl, rfl⟩
    | split
    | dsimp only

theorem State.storeCoef_keep (s : State) (b e : Nat) (m : List Int) {k0 : Nat} {z0 : State} (hk : Nat.land 0x4000100000 k0 = 0x4000100000) (hz : Keep k0 z0 s) : Keep k0 z0 (State.storeCoef s b e m) := by
  refine Keep.step ?_ hk hz
  unfold State.storeCoef
  repeat' first
    | with_reducible refine Keep.ite ?_ ?_
    | with_reducible refine Keep.foldl _ ?_ ?_
    | intro u x hu
    | with_reducible apply Keep.modSlice
    | with_reducible apply Keep.modCal
    | with_reducible exact Keep.refl _ _
    | with_reducible assumption
    | exact rfl
    | exact id
    | exact Or.inl rfl
    | exact Or.inr rfl
    | exact Or.inr (List.prefix_refl _)
    | exact Or.inr fun _ => rfl
    | exact Or.inr ⟨rfl, rfl, rfl⟩
    | exact Or.inr fun _ => ⟨rfl, rfl, rfl⟩
    | exact Or.inr fun _ => ⟨rfl, rfl⟩
    | split
    | dsimp only

theorem State.pairDone_keep (s : State) (b : Nat) (x y : List Int) {k0 : Nat} {z0 : State} (hk : Nat.land 0x4000100300 k0 = 0x4000100300) (hz : Keep k0 z0 s) : Keep k0 z0 (State.pairDone s b x y) := by
  refine Keep.step ?_ hk hz
  unfold State.pairDone
  repeat' first
    | with_reducible refine Keep.ite ?_ ?_
    | with_reducible apply State.storeCoef_keep
    | with_reducible apply State.raise_keep
    | with_reducible apply Keep.modCal
    | with_reducible exact Keep.refl _ _
    | with_reducible assumption
    | exact rfl
    | exact id
    | exact Or.inl rfl
    | exact Or.inr rfl
    | exact Or.inr (List.prefix_refl _)
    | exact Or.inr fun _ => rfl
    | exact Or.inr ⟨rfl, rfl, rfl⟩
    | exact Or.inr fun _ => ⟨rfl, rfl, rfl⟩
    | exact Or.inr fun _ => ⟨rfl, rfl⟩
    | split
    | dsimp only

theorem execMeasurementPairDone_keep (b : Nat) (x y : List Int) (s : State) {t : State} (h : execMeasurementPairDone b x y s = .next t) : Keep 0x23603f9e5b08 s t := by
  unfold execMeasurementPairDone at h
  injection h with h
  subst h
  repeat' first
    | with_reducible refine Keep.ite ?_ ?_
    | intro u hu
    | with_reducible apply State.pairDone_keep
    | with_reducible apply State.calFinish_keep
    | with_reducible apply State.follow_keep
    | with_reducible exact Keep.refl _ _
    | with_reducible assumption
    | exact rfl
    | exact id
    | exact Or.inl rfl
    | exact Or.inr rfl
    | exact Or.inr (List.prefix_refl _)
    | exact Or.inr fun _ => rfl
    | exact Or.inr ⟨rfl, rfl, rfl⟩
    | exact Or.inr fun _ => ⟨rfl, rfl, rfl⟩
    | exact Or.inr fun _ => ⟨rfl, rfl⟩
    | split
    | dsimp only

theorem execLtxCalStep_keep (l : Nat) (s : State) {t : State} (h : execLtxCalStep l s = .next t) : Keep 0x23603f9e5b08 s t := by
  unfold execLtxCalStep at h
  injection h with h
  subst h
  repeat' first
    | with_reducible refine Keep.ite ?_ ?_
    | intro u hu
    | with_reducible apply State.calFinish_keep
    | with_reducible apply State.follow_keep
    | with_reducible apply State.cellStep_keep
    | with_reducible apply Keep.modCal
    | with_reducible exact Keep.refl _ _
    | with_reducible assumption
    | exact rfl
    | exact id
    | exact Or.inl rfl
    | exact Or.inr rfl
    | exact Or.inr (List.prefix_refl _)
    | exact Or.inr fun _ => rfl
    | exact Or.inr ⟨rfl, rfl, rfl⟩
    | exact Or.inr fun _ => ⟨rfl, rfl, rfl⟩
    | exact Or.inr fun _ => ⟨rfl, rfl⟩
    | split
    | dsimp only

theorem execMonconvFrame_keep (s : State) {t : State} (h : execMonconvFrame s = .next t) : Keep 0x4000000000 s t := by
  unfold execMonconvFrame at h
  injection h with h
  subst h
  repeat' first
    | with_reducible refine Keep.ite ?_ ?_
    | intro u hu
    | with_reducible apply Keep.modCal
    | with_reducible exact Keep.refl _ _
    | with_reducible assumption
    | exact rfl
    | exact id
    | exact Or.inl rfl
    | exact Or.inr rfl
    | exact Or.inr (List.prefix_refl _)
    | exact Or.inr fun _ => rfl
    | exact Or.inr ⟨rfl, rfl, rfl⟩
    | exact Or.inr fun _ => ⟨rfl, rfl, rfl⟩
    | exact Or.inr fun _ => ⟨rfl, rfl⟩
    | split
    | dsimp only

theorem execCalDueTimer_keep (b : Nat) (s : State) {t : State} (h : execCalDueTimer b s = .next t) : Keep 0x4000000300 s t := by
  unfold execCalDueTimer at h
  injection h with h
  subst h
  repeat' first
    | with_reducible refine Keep.ite ?_ ?_
    | intro u hu
    | with_reducible apply State.raise_keep
    | with_reducible apply Keep.modCal
    | with_reducible exact Keep.refl _ _
    | with_reducible assumption
    | exact rfl
    | exact id
    | exact Or.inl rfl
    | exact Or.inr rfl
    | exact Or.inr (List.prefix_refl _)
    | exact Or.inr fun _ => rfl
    | exact Or.inr ⟨rfl, rfl, rfl⟩
    | exact Or.inr fun _ => ⟨rfl, rfl, rfl⟩
    | exact Or.inr fun _ => ⟨rfl, rfl⟩
    | split
    | dsimp only

theorem procGetCalCfg_keep  (a : Sentence) (s : State) {k0 : Nat} {z0 : State} (hk : Nat.land 0x420000001b80 k0 = 0x420000001b80) (hz : Keep k0 z0 s) : Keep k0 z0 (procGetCalCfg  a s) := by
  refine Keep.step ?_ hk hz
  unfold procGetCalCfg
  refine process_keep _ _ _ _ _ _ 0x0 (fun u ws => ?_) rfl rfl rfl (Keep.refl _ _)
  repeat' first
    | exact getAct_keep ..

theorem execGetCalCfg_keep (m : Sentence) (s : State) {t : State} (h : execGetCalCfg m s = .next t) : Keep 0x420000001b80 s t := by
  unfold execGetCalCfg at h
  injection h with h
  subst h
  repeat' first
    | with_reducible refine Keep.ite ?_ ?_
    | intro u hu
    | with_reducible apply submit_keep
    | with_reducible apply procGetCalCfg_keep
    | with_reducible exact Keep.refl _ _
    | with_reducible assumption
    | exact rfl
    | exact id
    | exact Or.inl rfl
    | exact Or.inr rfl
    | exact Or.inr (List.prefix_refl _)
    | exact Or.inr fun _ => rfl
    | exact Or.inr ⟨rfl, rfl, rfl⟩
    | exact Or.inr fun _ => ⟨rfl, rfl, rfl⟩
    | exact Or.inr fun _ => ⟨rfl, rfl⟩
    | split
    | dsimp only

theorem setAct_keep (noun : Nat) (s : State) (m : Sentence) (ws : List Word) {k0 : Nat} {z0 : State} (hk : Nat.land 0x10000 k0 = 0x10000) (hz : Keep k0 z0 s) : Keep k0 z0 (setAct noun s m ws).1 := by
  refine Keep.step ?_ hk hz
  unfold setAct
  repeat' first
    | with_reducible refine Keep.ite ?_ ?_
    | intro u hu
    | with_reducible apply State.applyChanges_keep
    | with_reducible exact Keep.refl _ _
    | with_reducible assumption
    | exact rfl
    | exact id
    | exact Or.inl rfl
    | exact Or.inr rfl
    | exact Or.inr (List.prefix_refl _)
    | exact Or.inr fun _ => rfl
    | exact Or.inr ⟨rfl, rfl, rfl⟩
    | exact Or.inr fun _ => ⟨rfl, rfl, rfl⟩
    | exact Or.inr fun _ => ⟨rfl, rfl⟩
    | split
    | dsimp only

theorem procSetCalCfg_keep  (a : Sentence) (s : State) {k0 : Nat} {z0 : State} (hk : Nat.land 0x420000011b80 k0 = 0x420000011b80) (hz : Keep k0 z0 s) : Keep k0 z0 (procSetCalCfg  a s) := by
  refine Keep.step ?_ hk hz
  unfold procSetCalCfg
  refine process_keep _ _ _ _ _ _ 0x10000 (fun u ws => ?_) rfl rfl rfl (Keep.refl _ _)
  repeat' first
    | with_reducible refine Keep.ite ?_ ?_
    | intro u hu
    | with_reducible apply setAct_keep
    | with_reducible exact Keep.refl _ _
    | with_reducible assumption
    | exact rfl
    | exact id
    | exact Or.inl rfl
    | exact Or.inr rfl
    | exact Or.inr (List.prefix_refl _)
    | exact Or.inr fun _ => rfl
    | exact Or.inr ⟨rfl, rfl, rfl⟩
    | exact Or.inr fun _ => ⟨rfl, rfl, rfl⟩
    | exact Or.inr fun _ => ⟨rfl, rfl⟩
    | split
    | dsimp only

theorem execSetCalCfg_keep (m : Sentence) (s : State) {t : State} (h : execSetCalCfg m s = .next t) : Keep 0x420000011b80 s t := by
  unfold execSetCalCfg at h
  injection h with h
  subst h
  repeat' first
    | with_reducible refine Keep.ite ?_ ?_
    | intro u hu
    | with_reducible apply submit_keep
    | with_reducible apply procSetCalCfg_keep
    | with_reducible exact Keep.refl _ _
    | with_reducible assumption
    | exact rfl
    | exact id
    | exact Or.inl rfl
    | exact Or.inr rfl
    | exact Or.inr (List.prefix_refl _)
    | exact Or.inr fun _ => rfl
    | exact Or.inr ⟨rfl, rfl, rfl⟩
    | exact Or.inr fun _ => ⟨rfl, rfl, rfl⟩
    | exact Or.inr fun _ => ⟨rfl, rfl⟩
    | split
    | dsimp only

theorem procGetCalBlock_keep  (a : Sentence) (s : State) {k0 : Nat} {z0 : State} (hk : Nat.land 0x420000001b80 k0 = 0x420000001b80) (hz : Keep k0 z0 s) : Keep k0 z0 (procGetCalBlock  a s) := by
  refine Keep.step ?_ hk hz
  unfold procGetCalBlock
  refine process_keep _ _ _ _ _ _ 0x0 (fun u ws => ?_) rfl rfl rfl (Keep.refl _ _)
  repeat' first
    | exact getAct_keep ..

theorem execGetCalBlock_keep (m : Sentence) (s : State) {t : State} (h : execGetCalBlock m s = .next t) : Keep 0x420000001b80 s t := by
  unfold execGetCalBlock at h
  injection h with h
  subst h
  repeat' first
    | with_reducible refine Keep.ite ?_ ?_
    | intro u hu
    | with_reducible apply submit_keep
    | with_reducible apply procGetCalBlock_keep
    | with_reducible exact Keep.refl _ _
    | with_reducible assumption
    | exact rfl
    | exact id
    | exact Or.inl rfl
    | exact Or.inr rfl
    | exact Or.inr (List.prefix_refl _)
    | exact Or.inr fun _ => rfl
    | exact Or.inr ⟨rfl, rfl, rfl⟩
    | exact Or.inr fun _ => ⟨rfl, rfl, rfl⟩
    | exact Or.inr fun _ => ⟨rfl, rfl⟩
    | split
    | dsimp only

theorem procRunCalBlock_keep  (a : Sentence) (s : State) {k0 : Nat} {z0 : State} (hk : Nat.land 0x424000001b80 k0 = 0x424000001b80) (hz : Keep k0 z0 s) : Keep k0 z0 (procRunCalBlock  a s) := by
  refine Keep.step ?_ hk hz
  unfold procRunCalBlock
  refine process_keep _ _ _ _ _ _ 0x4000000000 (fun u ws => ?_) rfl rfl rfl (Keep.refl _ _)
  repeat' first
    | with_reducible refine Keep.ite ?_ ?_
    | intro u hu
    | with_reducible apply State.setDue_keep
    | with_reducible exact Keep.refl _ _
    | with_reducible assumption
    | exact rfl
    | exact id
    | exact Or.inl rfl
    | exact Or.inr rfl
    | exact Or.inr (List.prefix_refl _)
    | exact Or.inr fun _ => rfl
    | exact Or.inr ⟨rfl, rfl, rfl⟩
    | exact Or.inr fun _ => ⟨rfl, rfl, rfl⟩
    | exact Or.inr fun _ => ⟨rfl, rfl⟩
    | split
    | dsimp only

theorem execRunCalBlock_keep (m : Sentence) (s : State) {t : State} (h : execRunCalBlock m s = .next t) : Keep 0x424000001b80 s t := by
  unfold execRunCalBlock at h
  injection h with h
  subst h
  repeat' first
    | with_reducible refine Keep.ite ?_ ?_
    | intro u hu
    | with_reducible apply submit_keep
    | with_reducible apply procRunCalBlock_keep
    | with_reducible exact Keep.refl _ _
    | with_reducible assumption
    | exact rfl
    | exact id
    | exact Or.inl rfl
    | exact Or.inr rfl
    | exact Or.inr (List.prefix_refl _)
    | exact Or.inr fun _ => rfl
    | exact Or.inr ⟨rfl, rfl, rfl⟩
    | exact Or.inr fun _ => ⟨rfl, rfl, rfl⟩
    | exact Or.inr fun _ => ⟨rfl, rfl⟩
    | split
    | dsimp only

theorem procClearCalBlock_keep  (a : Sentence) (s : State) {k0 : Nat} {z0 : State} (hk : Nat.land 0x424000001b80 k0 = 0x424000001b80) (hz : Keep k0 z0 s) : Keep k0 z0 (procClearCalBlock  a s) := by
  refine Keep.step ?_ hk hz
  unfold procClearCalBlock
  refine process_keep _ _ _ _ _ _ 0x4000000000 (fun u ws => ?_) rfl rfl rfl (Keep.refl _ _)
  repeat' first
    | with_reducible refine Keep.ite ?_ ?_
    | intro u hu
    | with_reducible apply Keep.modCal
    | with_reducible exact Keep.refl _ _
    | with_reducible assumption
    | exact rfl
    | exact id
    | exact Or.inl rfl
    | exact Or.inr rfl
    | exact Or.inr (List.prefix_refl _)
    | exact Or.inr fun _ => rfl
    | exact Or.inr ⟨rfl, rfl, rfl⟩
    | exact Or.inr fun _ => ⟨rfl, rfl, rfl⟩
    | exact Or.inr fun _ => ⟨rfl, rfl⟩
    | split
    | dsimp only

theorem execClearCalBlock_keep (m : Sentence) (s : State) {t : State} (h : execClearCalBlock m s = .next t) : Keep 0x424000001b80 s t := by
  unfold execClearCalBlock at h
  injection h with h
  subst h
  repeat' first
    | with_reducible refine Keep.ite ?_ ?_
    | intro u hu
    | with_reducible apply submit_keep
    | with_reducible apply procClearCalBlock_keep
    | with_reducible exact Keep.refl _ _
    | with_reducible assumption
    | exact rfl
    | exact id
    | exact Or.inl rfl
    | exact Or.inr rfl
    | exact Or.inr (List.prefix_refl _)
    | exact Or.inr fun _ => rfl
    | exact Or.inr ⟨rfl, rfl, rfl⟩
    | exact Or.inr fun _ => ⟨rfl, rfl, rfl⟩
    | exact Or.inr fun _ => ⟨rfl, rfl⟩
    | split
    | dsimp only

theorem cellsOf_range (a : Nat) (bs : List Byte) : ∀ p ∈ cellsOf a bs, a ≤ p.1 ∧ p.1 < a + bs.length ∧ p.2 ≠ 0 := by
  induction bs generalizing a with
  | nil => intro p hp; cases hp
  | cons b bs ih =>
    intro p hp
    unfold cellsOf at hp
    split at hp
    · obtain ⟨h1, h2, h3⟩ := ih (a + 1) p hp
      rw [List.length_cons]
      exact ⟨by omega, by omega, h3⟩
    · rename_i hb
      rcases List.mem_cons.1 hp with rfl | hp
      · exact ⟨Nat.le_refl _, by simp, hb⟩
      · obtain ⟨h1, h2, h3⟩ := ih (a + 1) p hp
        rw [List.length_cons]
        exact ⟨by omega, by omega, h3⟩

theorem cellsOf_sorted (a : Nat) (bs : List Byte) : (cellsOf a bs).Pairwise fun p q => p.1 < q.1 := by
  induction bs generalizing a with
  | nil => exact List.Pairwise.nil
  | cons b bs ih =>
    unfold cellsOf
    split
    · exact ih _
    · refine List.pairwise_cons.2 ⟨fun p hp => ?_, ih _⟩
      have := (cellsOf_range (a + 1) bs p hp).1
      show a < p.1
      exact this

/-- Storing bytes keeps the canonical form of memory. -/
theorem spliceCells_wf (m : List Host.Cell) (a : Nat) (bs : List Byte) (h : Memory.wf m) : Memory.wf (spliceCells m a bs) := by
  have hc := (tableWf_iff _ _).1 h
  refine (tableWf_iff _ _).2 ⟨?_, fun p hp => ?_⟩
  · unfold spliceCells
    refine List.pairwise_append.2 ⟨List.pairwise_append.2 ⟨hc.1.filter _, cellsOf_sorted a bs, fun p hp q hq => ?_⟩, hc.1.filter _,
      fun p hp q hq => ?_⟩
    · have h1 := of_decide_eq_true (List.mem_filter.1 hp).2
      have h2 := (cellsOf_range a bs q hq).1
      omega
    · have h2 := of_decide_eq_true (List.mem_filter.1 hq).2
      rcases List.mem_append.1 hp with hp | hp
      · have h1 := of_decide_eq_true (List.mem_filter.1 hp).2
        omega
      · have h1 := (cellsOf_range a bs p hp).2.1
        omega
  · unfold spliceCells at hp
    rcases List.mem_append.1 hp with hp | hp
    · rcases List.mem_append.1 hp with hp | hp
      · exact hc.2 p (List.mem_of_mem_filter hp)
      · exact (cellsOf_range a bs p hp).2.2
    · exact hc.2 p (List.mem_of_mem_filter hp)

/-- Zeroing bytes keeps the canonical form of memory. -/
theorem clearCells_wf (m : List Host.Cell) (a n : Nat) (h : Memory.wf m) : Memory.wf (clearCells m a n) :=
  (tableWf_iff _ _).2 (((tableWf_iff _ _).1 h).filter _)

theorem State.memStore_keep (s : State) (a : Nat) (bs : List Byte) {k0 : Nat} {z0 : State} (hk : Nat.land 0xc00000000 k0 = 0xc00000000) (hz : Keep k0 z0 s) : Keep k0 z0 (State.memStore s a bs) := by
  refine Keep.step ?_ hk hz
  unfold State.memStore
  try simp -zeta only [State.fold_mem]
  repeat' first
    | exact fun h => spliceCells_wf _ _ _ h
    | with_reducible refine Keep.ite ?_ ?_
    | with_reducible apply Keep.set_mem
    | with_reducible exact Keep.refl _ _
    | with_reducible assumption
    | exact rfl
    | exact id
    | exact Or.inl rfl
    | exact Or.inr rfl
    | exact Or.inr (List.prefix_refl _)
    | exact Or.inr fun _ => rfl
    | exact Or.inr ⟨rfl, rfl, rfl⟩
    | exact Or.inr fun _ => ⟨rfl, rfl, rfl⟩
    | exact Or.inr fun _ => ⟨rfl, rfl⟩
    | split
    | dsimp only

theorem State.memPut_keep (s : State) (a : Nat) (bs : List Byte) {k0 : Nat} {z0 : State} (hk : Nat.land 0x20c00000300 k0 = 0x20c00000300) (hz : Keep k0 z0 s) : Keep k0 z0 (State.memPut s a bs) := by
  refine Keep.step ?_ hk hz
  unfold State.memPut
  repeat' first
    | with_reducible refine Keep.ite ?_ ?_
    | with_reducible apply State.memStore_keep
    | with_reducible apply State.pmcEvent_keep
    | with_reducible exact Keep.refl _ _
    | with_reducible assumption
    | exact rfl
    | exact id
    | exact Or.inl rfl
    | exact Or.inr rfl
    | exact Or.inr (List.prefix_refl _)
    | exact Or.inr fun _ => rfl
    | exact Or.inr ⟨rfl, rfl, rfl⟩
    | exact Or.inr fun _ => ⟨rfl, rfl, rfl⟩
    | exact Or.inr fun _ => ⟨rfl, rfl⟩
    | split
    | dsimp only

theorem State.memClear_keep (s : State) (a n : Nat) {k0 : Nat} {z0 : State} (hk : Nat.land 0x20c00000300 k0 = 0x20c00000300) (hz : Keep k0 z0 s) : Keep k0 z0 (State.memClear s a n) := by
  refine Keep.step ?_ hk hz
  unfold State.memClear
  try simp -zeta only [State.fold_mem]
  repeat' first
    | exact fun h => clearCells_wf _ _ _ h
    | with_reducible refine Keep.ite ?_ ?_
    | with_reducible apply State.pmcEvent_keep
    | with_reducible apply Keep.set_mem
    | with_reducible exact Keep.refl _ _
    | with_reducible assumption
    | exact rfl
    | exact id
    | exact Or.inl rfl
    | exact Or.inr rfl
    | exact Or.inr (List.prefix_refl _)
    | exact Or.inr fun _ => rfl
    | exact Or.inr ⟨rfl, rfl, rfl⟩
    | exact Or.inr fun _ => ⟨rfl, rfl, rfl⟩
    | exact Or.inr fun _ => ⟨rfl, rfl⟩
    | split
    | dsimp only

theorem State.setCond_keep (s : State) (w : Nat) (c : WordCond) {k0 : Nat} {z0 : State} (hk : Nat.land 0x800000000 k0 = 0x800000000) (hz : Keep k0 z0 s) : Keep k0 z0 (State.setCond s w c) := by
  refine Keep.step ?_ hk hz
  unfold State.setCond
  try simp -zeta only [State.fold_mem]
  repeat' first
    | with_reducible refine Keep.ite ?_ ?_
    | with_reducible apply Keep.set_mem
    | with_reducible exact Keep.refl _ _
    | with_reducible assumption
    | exact rfl
    | exact id
    | exact Or.inl rfl
    | exact Or.inr rfl
    | exact Or.inr (List.prefix_refl _)
    | exact Or.inr fun _ => rfl
    | exact Or.inr ⟨rfl, rfl, rfl⟩
    | exact Or.inr fun _ => ⟨rfl, rfl, rfl⟩
    | exact Or.inr fun _ => ⟨rfl, rfl⟩
    | split
    | dsimp only

theorem State.rowTest_keep (s : State) (g row : Nat) {k0 : Nat} {z0 : State} (hk : Nat.land 0x800000000 k0 = 0x800000000) (hz : Keep k0 z0 s) : Keep k0 z0 (State.rowTest s g row) := by
  refine Keep.step ?_ hk hz
  unfold State.rowTest
  repeat' first
    | with_reducible refine Keep.ite ?_ ?_
    | with_reducible apply Keep.modRegion
    | with_reducible exact Keep.refl _ _
    | with_reducible assumption
    | exact rfl
    | exact id
    | exact Or.inl rfl
    | exact Or.inr rfl
    | exact Or.inr (List.prefix_refl _)
    | exact Or.inr fun _ => rfl
    | exact Or.inr ⟨rfl, rfl, rfl⟩
    | exact Or.inr fun _ => ⟨rfl, rfl, rfl⟩
    | exact Or.inr fun _ => ⟨rfl, rfl⟩
    | split
    | dsimp only

theorem State.reportRow_keep (s : State) (g row : Nat) {k0 : Nat} {z0 : State} (hk : Nat.land 0x800020000 k0 = 0x800020000) (hz : Keep k0 z0 s) : Keep k0 z0 (State.reportRow s g row) := by
  refine Keep.step ?_ hk hz
  unfold State.reportRow
  repeat' first
    | with_reducible refine Keep.ite ?_ ?_
    | with_reducible apply State.rowTest_keep
    | with_reducible apply Keep.modRegion
    | with_reducible apply Keep.bump
    | with_reducible exact Keep.refl _ _
    | with_reducible assumption
    | exact rfl
    | exact id
    | exact Or.inl rfl
    | exact Or.inr rfl
    | exact Or.inr (List.prefix_refl _)
    | exact Or.inr fun _ => rfl
    | exact Or.inr ⟨rfl, rfl, rfl⟩
    | exact Or.inr fun _ => ⟨rfl, rfl, rfl⟩
    | exact Or.inr fun _ => ⟨rfl, rfl⟩
    | split
    | dsimp only

theorem State.nextRow_keep (s : State) (g : Nat) {k0 : Nat} {z0 : State} (hk : Nat.land 0x800000000 k0 = 0x800000000) (hz : Keep k0 z0 s) : Keep k0 z0 (State.nextRow s g) := by
  refine Keep.step ?_ hk hz
  unfold State.nextRow
  repeat' first
    | with_reducible refine Keep.ite ?_ ?_
    | with_reducible apply State.rowTest_keep
    | with_reducible apply Keep.modRegion
    | with_reducible exact Keep.refl _ _
    | with_reducible assumption
    | exact rfl
    | exact id
    | exact Or.inl rfl
    | exact Or.inr rfl
    | exact Or.inr (List.prefix_refl _)
    | exact Or.inr fun _ => rfl
    | exact Or.inr ⟨rfl, rfl, rfl⟩
    | exact Or.inr fun _ => ⟨rfl, rfl, rfl⟩
    | exact Or.inr fun _ => ⟨rfl, rfl⟩
    | split
    | dsimp only

theorem State.countCorrection_keep (s : State) (g a : Nat) {k0 : Nat} {z0 : State} (hk : Nat.land 0x800020300 k0 = 0x800020300) (hz : Keep k0 z0 s) : Keep k0 z0 (State.countCorrection s g a) := by
  refine Keep.step ?_ hk hz
  unfold State.countCorrection
  repeat' first
    | with_reducible refine Keep.ite ?_ ?_
    | with_reducible apply State.raise_keep
    | with_reducible apply Keep.bump
    | with_reducible apply Keep.modRegion
    | with_reducible exact Keep.refl _ _
    | with_reducible assumption
    | exact rfl
    | exact id
    | exact Or.inl rfl
    | exact Or.inr rfl
    | exact Or.inr (List.prefix_refl _)
    | exact Or.inr fun _ => rfl
    | exact Or.inr ⟨rfl, rfl, rfl⟩
    | exact Or.inr fun _ => ⟨rfl, rfl, rfl⟩
    | exact Or.inr fun _ => ⟨rfl, rfl⟩
    | split
    | dsimp only

theorem Echo.room {l : List Echo} {e : Echo} (h : l.length < 64) : (l ++ [e]).length ≤ 64 := by
  rw [List.length_append]
  exact h

theorem Echo.swap {l : List Echo} (e x : Echo) (hx : x ∈ l) (h : l.length ≤ 64) : (l.erase x ++ [e]).length ≤ 64 := by
  have h1 := List.length_erase_of_mem hx
  have h2 := List.length_pos_of_mem hx
  rw [List.length_append, h1]
  show l.length - 1 + 1 ≤ 64
  omega

theorem State.enterEcho_keep (s : State) (e : Echo) {k0 : Nat} {z0 : State} (hk : Nat.land 0x800020000 k0 = 0x800020000) (hz : Keep k0 z0 s) : Keep k0 z0 (s.enterEcho e) := by
  refine Keep.step ?_ hk hz
  unfold State.enterEcho
  split
  · rename_i h
    exact Keep.set_mem (x := { s.mem with echo := s.mem.echo ++ [e] }) (.inr rfl) (.inl rfl) id (fun _ => Echo.room h) (Keep.refl _ _)
  · split
    · exact Keep.refl _ _
    · rename_i x hx
      exact Keep.bump rfl (Keep.set_mem (x := { s.mem with echo := s.mem.echo.erase x ++ [e] }) (.inr rfl) (.inl rfl) id
        (Echo.swap _ _ (List.mem_of_find?_eq_some hx)) (Keep.refl _ _))

theorem State.correctAt_keep (s : State) (g a row syn : Nat) {k0 : Nat} {z0 : State} (hk : Nat.land 0x800020300 k0 = 0x800020300) (hz : Keep k0 z0 s) : Keep k0 z0 (State.correctAt s g a row syn).1 := by
  refine Keep.step ?_ hk hz
  unfold State.correctAt
  try simp -zeta only [State.fold_mem]
  repeat' first
    | exact fun h => (List.erase_sublist.length_le).trans h
    | with_reducible refine Keep.ite ?_ ?_
    | intro u hu
    | with_reducible apply State.countCorrection_keep
    | with_reducible apply State.enterEcho_keep
    | with_reducible apply State.raise_keep
    | with_reducible apply Keep.bump
    | with_reducible apply Keep.set_mem
    | with_reducible exact Keep.refl _ _
    | with_reducible assumption
    | exact rfl
    | exact id
    | exact Or.inl rfl
    | exact Or.inr rfl
    | exact Or.inr (List.prefix_refl _)
    | exact Or.inr fun _ => rfl
    | exact Or.inr ⟨rfl, rfl, rfl⟩
    | exact Or.inr fun _ => ⟨rfl, rfl, rfl⟩
    | exact Or.inr fun _ => ⟨rfl, rfl⟩
    | split
    | dsimp only

theorem State.correct_keep (s : State) (g a syn : Nat) {k0 : Nat} {z0 : State} (hk : Nat.land 0x800020300 k0 = 0x800020300) (hz : Keep k0 z0 s) : Keep k0 z0 (State.correct s g a syn) := by
  refine Keep.step ?_ hk hz
  unfold State.correct
  repeat' first
    | exact fun h => (List.erase_sublist.length_le).trans h
    | with_reducible refine Keep.ite ?_ ?_
    | with_reducible apply State.setCond_keep
    | with_reducible apply State.correctAt_keep
    | with_reducible apply State.reportRow_keep
    | with_reducible exact Keep.refl _ _
    | with_reducible assumption
    | exact rfl
    | exact id
    | exact Or.inl rfl
    | exact Or.inr rfl
    | exact Or.inr (List.prefix_refl _)
    | exact Or.inr fun _ => rfl
    | exact Or.inr ⟨rfl, rfl, rfl⟩
    | exact Or.inr fun _ => ⟨rfl, rfl, rfl⟩
    | exact Or.inr fun _ => ⟨rfl, rfl⟩
    | split
    | dsimp only

theorem State.bankOut_keep (s : State) (b : Nat) {k0 : Nat} {z0 : State} (hk : Nat.land 0x10200000000 k0 = 0x10200000000) (hz : Keep k0 z0 s) : Keep k0 z0 (State.bankOut s b) := by
  refine Keep.step ?_ hk hz
  unfold State.bankOut
  repeat' first
    | with_reducible refine Keep.ite ?_ ?_
    | with_reducible apply State.report_keep
    | with_reducible apply Keep.modBank
    | with_reducible exact Keep.refl _ _
    | with_reducible assumption
    | exact rfl
    | exact id
    | exact Or.inl rfl
    | exact Or.inr rfl
    | exact Or.inr (List.prefix_refl _)
    | exact Or.inr fun _ => rfl
    | exact Or.inr ⟨rfl, rfl, rfl⟩
    | exact Or.inr fun _ => ⟨rfl, rfl, rfl⟩
    | exact Or.inr fun _ => ⟨rfl, rfl⟩
    | split
    | dsimp only

theorem State.reportSram_keep (s : State) (u : SramRead) {k0 : Nat} {z0 : State} (hk : Nat.land 0x30b80221b82 k0 = 0x30b80221b82) (hz : Keep k0 z0 s) : Keep k0 z0 (State.reportSram s u) := by
  refine Keep.step ?_ hk hz
  unfold State.reportSram
  repeat' first
    | with_reducible refine Keep.ite ?_ ?_
    | with_reducible apply State.bankOut_keep
    | with_reducible apply State.engineFault_keep
    | with_reducible apply State.reportRow_keep
    | with_reducible exact Keep.refl _ _
    | with_reducible assumption
    | exact rfl
    | exact id
    | exact Or.inl rfl
    | exact Or.inr rfl
    | exact Or.inr (List.prefix_refl _)
    | exact Or.inr fun _ => rfl
    | exact Or.inr ⟨rfl, rfl, rfl⟩
    | exact Or.inr fun _ => ⟨rfl, rfl, rfl⟩
    | exact Or.inr fun _ => ⟨rfl, rfl⟩
    | split
    | dsimp only

theorem State.sramRead_keep (s : State) (u : SramRead) {k0 : Nat} {z0 : State} (hk : Nat.land 0x30b80221b82 k0 = 0x30b80221b82) (hz : Keep k0 z0 s) : Keep k0 z0 (State.sramRead s u) := by
  refine Keep.step ?_ hk hz
  unfold State.sramRead
  repeat' first
    | with_reducible refine Keep.ite ?_ ?_
    | with_reducible apply State.correctAt_keep
    | with_reducible apply State.reportSram_keep
    | with_reducible apply State.raise_keep
    | with_reducible apply Keep.bump
    | with_reducible exact Keep.refl _ _
    | with_reducible assumption
    | exact rfl
    | exact id
    | exact Or.inl rfl
    | exact Or.inr rfl
    | exact Or.inr (List.prefix_refl _)
    | exact Or.inr fun _ => rfl
    | exact Or.inr ⟨rfl, rfl, rfl⟩
    | exact Or.inr fun _ => ⟨rfl, rfl, rfl⟩
    | exact Or.inr fun _ => ⟨rfl, rfl⟩
    | split
    | dsimp only

theorem State.sramReads_keep (s : State) (us : List SramRead) {k0 : Nat} {z0 : State} (hk : Nat.land 0x30b80221b82 k0 = 0x30b80221b82) (hz : Keep k0 z0 s) : Keep k0 z0 (State.sramReads s us) := by
  refine Keep.step ?_ hk hz
  unfold State.sramReads
  repeat' first
    | with_reducible refine Keep.ite ?_ ?_
    | with_reducible refine Keep.foldl _ ?_ ?_
    | intro u x hu
    | with_reducible apply State.sramRead_keep
    | with_reducible exact Keep.refl _ _
    | with_reducible assumption
    | exact rfl
    | exact id
    | exact Or.inl rfl
    | exact Or.inr rfl
    | exact Or.inr (List.prefix_refl _)
    | exact Or.inr fun _ => rfl
    | exact Or.inr ⟨rfl, rfl, rfl⟩
    | exact Or.inr fun _ => ⟨rfl, rfl, rfl⟩
    | exact Or.inr fun _ => ⟨rfl, rfl⟩
    | split
    | dsimp only

theorem State.upset_keep (s : State) (u : Nat × Option Nat) {k0 : Nat} {z0 : State} (hk : Nat.land 0x800000000 k0 = 0x800000000) (hz : Keep k0 z0 s) : Keep k0 z0 (State.upset s u) := by
  refine Keep.step ?_ hk hz
  unfold State.upset
  repeat' first
    | with_reducible refine Keep.ite ?_ ?_
    | with_reducible apply State.setCond_keep
    | with_reducible exact Keep.refl _ _
    | with_reducible assumption
    | exact rfl
    | exact id
    | exact Or.inl rfl
    | exact Or.inr rfl
    | exact Or.inr (List.prefix_refl _)
    | exact Or.inr fun _ => rfl
    | exact Or.inr ⟨rfl, rfl, rfl⟩
    | exact Or.inr fun _ => ⟨rfl, rfl, rfl⟩
    | exact Or.inr fun _ => ⟨rfl, rfl⟩
    | split
    | dsimp only

theorem State.readWord_keep (s : State) (reader : Nat) (w : Nat) {k0 : Nat} {z0 : State} (hk : Nat.land 0x800020300 k0 = 0x800020300) (hz : Keep k0 z0 s) : Keep k0 z0 (State.readWord s reader w).1 := by
  refine Keep.step ?_ hk hz
  unfold State.readWord
  repeat' first
    | with_reducible refine Keep.ite ?_ ?_
    | intro u hu
    | with_reducible apply State.correct_keep
    | with_reducible apply State.setCond_keep
    | with_reducible apply State.raise_keep
    | with_reducible apply State.reportRow_keep
    | with_reducible apply Keep.bump
    | with_reducible exact Keep.refl _ _
    | with_reducible assumption
    | exact rfl
    | exact id
    | exact Or.inl rfl
    | exact Or.inr rfl
    | exact Or.inr (List.prefix_refl _)
    | exact Or.inr fun _ => rfl
    | exact Or.inr ⟨rfl, rfl, rfl⟩
    | exact Or.inr fun _ => ⟨rfl, rfl, rfl⟩
    | exact Or.inr fun _ => ⟨rfl, rfl⟩
    | split
    | dsimp only

theorem State.writeWord_keep (s : State) (r : Requester) (w : Nat) (bs : List (Option Byte)) {k0 : Nat} {z0 : State} (hk : Nat.land 0xc00020300 k0 = 0xc00020300) (hz : Keep k0 z0 s) : Keep k0 z0 (State.writeWord s r w bs) := by
  refine Keep.step ?_ hk hz
  unfold State.writeWord
  try simp -zeta only [State.fold_mem]
  repeat' first
    | exact fun h => spliceCells_wf _ _ _ h
    | with_reducible refine Keep.ite ?_ ?_
    | with_reducible apply State.memStore_keep
    | with_reducible apply State.correct_keep
    | with_reducible apply State.setCond_keep
    | with_reducible apply State.raise_keep
    | with_reducible apply Keep.bump
    | with_reducible apply Keep.set_mem
    | with_reducible exact Keep.refl _ _
    | with_reducible assumption
    | exact rfl
    | exact id
    | exact Or.inl rfl
    | exact Or.inr rfl
    | exact Or.inr (List.prefix_refl _)
    | exact Or.inr fun _ => rfl
    | exact Or.inr ⟨rfl, rfl, rfl⟩
    | exact Or.inr fun _ => ⟨rfl, rfl, rfl⟩
    | exact Or.inr fun _ => ⟨rfl, rfl⟩
    | split
    | dsimp only

theorem State.readWords_keep (s : State) (r : Requester) (ws : List Nat) {k0 : Nat} {z0 : State} (hk : Nat.land 0x800020300 k0 = 0x800020300) (hz : Keep k0 z0 s) : Keep k0 z0 (s.readWords r ws).1 := by
  have hk' : Nat.land 0x800020300 k0 = 0x800020300 := by
    have h1 : 0x800020300 &&& 0x800020300 = 0x800020300 := rfl
    have h2 : 0x800020300 &&& k0 = 0x800020300 := hk
    show 0x800020300 &&& k0 = 0x800020300
    rw [← h1, Nat.and_assoc, h2]
  induction ws generalizing s with
  | nil => exact hz
  | cons w ws ih =>
    unfold State.readWords
    dsimp only
    split
    · exact ih _ hz
    · exact ih _ (State.readWord_keep _ _ _ hk' hz)

theorem execBar2Read_keep (r : Requester) (off dwords : Nat) (ups : List (Nat × Option Nat)) (s : State) {t : State} (h : execBar2Read r off dwords ups s = .next t) : Keep 0x20800020310 s t := by
  unfold execBar2Read at h
  injection h with h
  subst h
  try simp -zeta only [State.fold_dev]
  repeat' first
    | with_reducible refine Keep.ite ?_ ?_
    | with_reducible refine Keep.foldl _ ?_ ?_
    | intro u x hu
    | intro u hu
    | with_reducible apply State.upset_keep
    | with_reducible apply State.readWords_keep
    | with_reducible apply State.pmcEvent_keep
    | with_reducible apply Keep.set_dev
    | with_reducible exact Keep.refl _ _
    | with_reducible assumption
    | exact rfl
    | exact id
    | exact Or.inl rfl
    | exact Or.inr rfl
    | exact Or.inr (List.prefix_refl _)
    | exact Or.inr fun _ => rfl
    | exact Or.inr ⟨rfl, rfl, rfl⟩
    | exact Or.inr fun _ => ⟨rfl, rfl, rfl⟩
    | exact Or.inr fun _ => ⟨rfl, rfl⟩
    | split
    | dsimp only

theorem execBar2Write_keep (r : Requester) (off : Nat) (bs : List (Option Byte)) (ups : List (Nat × Option Nat)) (s : State) {t : State} (h : execBar2Write r off bs ups s = .next t) : Keep 0x20c00022300 s t := by
  unfold execBar2Write at h
  injection h with h
  subst h
  try simp -zeta only [State.fold_hif]
  repeat' first
    | with_reducible refine Keep.ite ?_ ?_
    | with_reducible refine Keep.foldl _ ?_ ?_
    | intro u x hu
    | intro u hu
    | with_reducible apply State.upset_keep
    | with_reducible apply State.writeWord_keep
    | with_reducible apply State.pmcEvent_keep
    | with_reducible apply Keep.set_hif
    | with_reducible exact Keep.refl _ _
    | with_reducible assumption
    | exact rfl
    | exact id
    | exact Or.inl rfl
    | exact Or.inr rfl
    | exact Or.inr (List.prefix_refl _)
    | exact Or.inr fun _ => rfl
    | exact Or.inr ⟨rfl, rfl, rfl⟩
    | exact Or.inr fun _ => ⟨rfl, rfl, rfl⟩
    | exact Or.inr fun _ => ⟨rfl, rfl⟩
    | split
    | dsimp only

theorem execEchoEntryExpiry_keep (g a : Nat) (s : State) {t : State} (h : execEchoEntryExpiry g a s = .next t) : Keep 0x800000000 s t := by
  unfold execEchoEntryExpiry at h
  injection h with h
  subst h
  try simp -zeta only [State.fold_mem]
  repeat' first
    | exact fun h => (List.length_filter_le ..).trans h
    | with_reducible refine Keep.ite ?_ ?_
    | intro u hu
    | with_reducible apply Keep.set_mem
    | with_reducible exact Keep.refl _ _
    | with_reducible assumption
    | exact rfl
    | exact id
    | exact Or.inl rfl
    | exact Or.inr rfl
    | exact Or.inr (List.prefix_refl _)
    | exact Or.inr fun _ => rfl
    | exact Or.inr ⟨rfl, rfl, rfl⟩
    | exact Or.inr fun _ => ⟨rfl, rfl, rfl⟩
    | exact Or.inr fun _ => ⟨rfl, rfl⟩
    | split
    | dsimp only

theorem execRepairCopyDone_keep (g : Nat) (s : State) {t : State} (h : execRepairCopyDone g s = .next t) : Keep 0x800020300 s t := by
  unfold execRepairCopyDone at h
  injection h with h
  subst h
  repeat' first
    | with_reducible refine Keep.ite ?_ ?_
    | with_reducible refine Keep.foldl _ ?_ ?_
    | intro u x hu
    | intro u hu
    | with_reducible apply State.setCond_keep
    | with_reducible apply State.countCorrection_keep
    | with_reducible apply Keep.modRegion
    | with_reducible exact Keep.refl _ _
    | with_reducible assumption
    | exact rfl
    | exact id
    | exact Or.inl rfl
    | exact Or.inr rfl
    | exact Or.inr (List.prefix_refl _)
    | exact Or.inr fun _ => rfl
    | exact Or.inr ⟨rfl, rfl, rfl⟩
    | exact Or.inr fun _ => ⟨rfl, rfl, rfl⟩
    | exact Or.inr fun _ => ⟨rfl, rfl⟩
    | split
    | dsimp only

theorem State.exhaust_keep (s : State) (g row : Nat) {k0 : Nat} {z0 : State} (hk : Nat.land 0x800020300 k0 = 0x800020300) (hz : Keep k0 z0 s) : Keep k0 z0 (State.exhaust s g row) := by
  refine Keep.step ?_ hk hz
  unfold State.exhaust
  try simp -zeta only [State.fold_mem]
  repeat' first
    | exact fun h => (List.length_map ..).trans_le h
    | with_reducible refine Keep.ite ?_ ?_
    | with_reducible apply State.raise_keep
    | with_reducible apply Keep.bump
    | with_reducible apply Keep.modRegion
    | with_reducible apply Keep.set_mem
    | with_reducible exact Keep.refl _ _
    | with_reducible assumption
    | exact rfl
    | exact id
    | exact Or.inl rfl
    | exact Or.inr rfl
    | exact Or.inr (List.prefix_refl _)
    | exact Or.inr fun _ => rfl
    | exact Or.inr ⟨rfl, rfl, rfl⟩
    | exact Or.inr fun _ => ⟨rfl, rfl, rfl⟩
    | exact Or.inr fun _ => ⟨rfl, rfl⟩
    | split
    | dsimp only

theorem State.repairDue_keep (s : State) (g row kind : Nat) (v : MarchVerdict) {k0 : Nat} {z0 : State} (hk : Nat.land 0x800000000 k0 = 0x800000000) (hz : Keep k0 z0 s) : Keep k0 z0 (State.repairDue s g row kind v) := by
  refine Keep.step ?_ hk hz
  unfold State.repairDue
  try simp -zeta only [State.fold_mem]
  repeat' first
    | with_reducible refine Keep.ite ?_ ?_
    | with_reducible apply Keep.modRegion
    | with_reducible apply Keep.set_mem
    | with_reducible exact Keep.refl _ _
    | with_reducible assumption
    | exact rfl
    | exact id
    | exact Or.inl rfl
    | exact Or.inr rfl
    | exact Or.inr (List.prefix_refl _)
    | exact Or.inr fun _ => rfl
    | exact Or.inr ⟨rfl, rfl, rfl⟩
    | exact Or.inr fun _ => ⟨rfl, rfl, rfl⟩
    | exact Or.inr fun _ => ⟨rfl, rfl⟩
    | split
    | dsimp only

theorem execMarchTestDone_keep (g : Nat) (v : MarchVerdict) (s : State) {t : State} (h : execMarchTestDone g v s = .next t) : Keep 0x20800025b08 s t := by
  unfold execMarchTestDone at h
  injection h with h
  subst h
  repeat' first
    | with_reducible refine Keep.ite ?_ ?_
    | intro u hu
    | with_reducible apply State.nextRow_keep
    | with_reducible apply State.settle_keep
    | with_reducible apply State.repairDue_keep
    | with_reducible apply State.exhaust_keep
    | with_reducible apply Keep.modRegion
    | with_reducible apply Keep.bump
    | with_reducible exact Keep.refl _ _
    | with_reducible assumption
    | exact rfl
    | exact id
    | exact Or.inl rfl
    | exact Or.inr rfl
    | exact Or.inr (List.prefix_refl _)
    | exact Or.inr fun _ => rfl
    | exact Or.inr ⟨rfl, rfl, rfl⟩
    | exact Or.inr fun _ => ⟨rfl, rfl, rfl⟩
    | exact Or.inr fun _ => ⟨rfl, rfl⟩
    | split
    | dsimp only

theorem execRepairRecordAppend_keep (s : State) {t : State} (h : execRepairRecordAppend s = .next t) : Keep 0x21800005b08 s t := by
  unfold execRepairRecordAppend at h
  injection h with h
  subst h
  try simp -zeta only [State.fold_mem]
  repeat' first
    | with_reducible refine Keep.ite ?_ ?_
    | intro u hu
    | with_reducible apply State.appendEntry_keep
    | with_reducible apply State.raise_keep
    | with_reducible apply State.settle_keep
    | with_reducible apply Keep.set_mem
    | with_reducible exact Keep.refl _ _
    | with_reducible assumption
    | exact rfl
    | exact id
    | exact Or.inl rfl
    | exact Or.inr rfl
    | exact Or.inr (List.prefix_refl _)
    | exact Or.inr fun _ => rfl
    | exact Or.inr ⟨rfl, rfl, rfl⟩
    | exact Or.inr fun _ => ⟨rfl, rfl, rfl⟩
    | exact Or.inr fun _ => ⟨rfl, rfl⟩
    | split
    | dsimp only

theorem execRefreshCommand_keep (die : Nat) (s : State) {t : State} (h : execRefreshCommand die s = .next t) : Keep 0x800000300 s t := by
  unfold execRefreshCommand at h
  injection h with h
  subst h
  try simp -zeta only [State.fold_mem]
  repeat' first
    | with_reducible refine Keep.ite ?_ ?_
    | intro u hu
    | with_reducible apply State.raise_keep
    | with_reducible apply Keep.set_mem
    | with_reducible exact Keep.refl _ _
    | with_reducible assumption
    | exact rfl
    | exact id
    | exact Or.inl rfl
    | exact Or.inr rfl
    | exact Or.inr (List.prefix_refl _)
    | exact Or.inr fun _ => rfl
    | exact Or.inr ⟨rfl, rfl, rfl⟩
    | exact Or.inr fun _ => ⟨rfl, rfl, rfl⟩
    | exact Or.inr fun _ => ⟨rfl, rfl⟩
    | split
    | dsimp only

theorem procGetMemCfg_keep  (a : Sentence) (s : State) {k0 : Nat} {z0 : State} (hk : Nat.land 0x420000001b80 k0 = 0x420000001b80) (hz : Keep k0 z0 s) : Keep k0 z0 (procGetMemCfg  a s) := by
  refine Keep.step ?_ hk hz
  unfold procGetMemCfg
  refine process_keep _ _ _ _ _ _ 0x0 (fun u ws => ?_) rfl rfl rfl (Keep.refl _ _)
  repeat' first
    | exact getAct_keep ..

theorem execGetMemCfg_keep (m : Sentence) (s : State) {t : State} (h : execGetMemCfg m s = .next t) : Keep 0x420000001b80 s t := by
  unfold execGetMemCfg at h
  injection h with h
  subst h
  repeat' first
    | with_reducible refine Keep.ite ?_ ?_
    | intro u hu
    | with_reducible apply submit_keep
    | with_reducible apply procGetMemCfg_keep
    | with_reducible exact Keep.refl _ _
    | with_reducible assumption
    | exact rfl
    | exact id
    | exact Or.inl rfl
    | exact Or.inr rfl
    | exact Or.inr (List.prefix_refl _)
    | exact Or.inr fun _ => rfl
    | exact Or.inr ⟨rfl, rfl, rfl⟩
    | exact Or.inr fun _ => ⟨rfl, rfl, rfl⟩
    | exact Or.inr fun _ => ⟨rfl, rfl⟩
    | split
    | dsimp only

theorem procSetMemCfg_keep  (a : Sentence) (s : State) {k0 : Nat} {z0 : State} (hk : Nat.land 0x420000011b80 k0 = 0x420000011b80) (hz : Keep k0 z0 s) : Keep k0 z0 (procSetMemCfg  a s) := by
  refine Keep.step ?_ hk hz
  unfold procSetMemCfg
  refine process_keep _ _ _ _ _ _ 0x10000 (fun u ws => ?_) rfl rfl rfl (Keep.refl _ _)
  repeat' first
    | with_reducible refine Keep.ite ?_ ?_
    | intro u hu
    | with_reducible apply setAct_keep
    | with_reducible exact Keep.refl _ _
    | with_reducible assumption
    | exact rfl
    | exact id
    | exact Or.inl rfl
    | exact Or.inr rfl
    | exact Or.inr (List.prefix_refl _)
    | exact Or.inr fun _ => rfl
    | exact Or.inr ⟨rfl, rfl, rfl⟩
    | exact Or.inr fun _ => ⟨rfl, rfl, rfl⟩
    | exact Or.inr fun _ => ⟨rfl, rfl⟩
    | split
    | dsimp only

theorem execSetMemCfg_keep (m : Sentence) (s : State) {t : State} (h : execSetMemCfg m s = .next t) : Keep 0x420000011b80 s t := by
  unfold execSetMemCfg at h
  injection h with h
  subst h
  repeat' first
    | with_reducible refine Keep.ite ?_ ?_
    | intro u hu
    | with_reducible apply submit_keep
    | with_reducible apply procSetMemCfg_keep
    | with_reducible exact Keep.refl _ _
    | with_reducible assumption
    | exact rfl
    | exact id
    | exact Or.inl rfl
    | exact Or.inr rfl
    | exact Or.inr (List.prefix_refl _)
    | exact Or.inr fun _ => rfl
    | exact Or.inr ⟨rfl, rfl, rfl⟩
    | exact Or.inr fun _ => ⟨rfl, rfl, rfl⟩
    | exact Or.inr fun _ => ⟨rfl, rfl⟩
    | split
    | dsimp only

theorem procGetMemStatus_keep  (a : Sentence) (s : State) {k0 : Nat} {z0 : State} (hk : Nat.land 0x420000001b80 k0 = 0x420000001b80) (hz : Keep k0 z0 s) : Keep k0 z0 (procGetMemStatus  a s) := by
  refine Keep.step ?_ hk hz
  unfold procGetMemStatus
  refine process_keep _ _ _ _ _ _ 0x0 (fun u ws => ?_) rfl rfl rfl (Keep.refl _ _)
  repeat' first
    | exact getAct_keep ..

theorem execGetMemStatus_keep (m : Sentence) (s : State) {t : State} (h : execGetMemStatus m s = .next t) : Keep 0x420000001b80 s t := by
  unfold execGetMemStatus at h
  injection h with h
  subst h
  repeat' first
    | with_reducible refine Keep.ite ?_ ?_
    | intro u hu
    | with_reducible apply submit_keep
    | with_reducible apply procGetMemStatus_keep
    | with_reducible exact Keep.refl _ _
    | with_reducible assumption
    | exact rfl
    | exact id
    | exact Or.inl rfl
    | exact Or.inr rfl
    | exact Or.inr (List.prefix_refl _)
    | exact Or.inr fun _ => rfl
    | exact Or.inr ⟨rfl, rfl, rfl⟩
    | exact Or.inr fun _ => ⟨rfl, rfl, rfl⟩
    | exact Or.inr fun _ => ⟨rfl, rfl⟩
    | split
    | dsimp only

theorem procGetMemEcho_keep  (a : Sentence) (s : State) {k0 : Nat} {z0 : State} (hk : Nat.land 0x420000001b80 k0 = 0x420000001b80) (hz : Keep k0 z0 s) : Keep k0 z0 (procGetMemEcho  a s) := by
  refine Keep.step ?_ hk hz
  unfold procGetMemEcho
  refine process_keep _ _ _ _ _ _ 0x0 (fun u ws => ?_) rfl rfl rfl (Keep.refl _ _)
  repeat' first
    | exact getAct_keep ..

theorem execGetMemEcho_keep (m : Sentence) (s : State) {t : State} (h : execGetMemEcho m s = .next t) : Keep 0x420000001b80 s t := by
  unfold execGetMemEcho at h
  injection h with h
  subst h
  repeat' first
    | with_reducible refine Keep.ite ?_ ?_
    | intro u hu
    | with_reducible apply submit_keep
    | with_reducible apply procGetMemEcho_keep
    | with_reducible exact Keep.refl _ _
    | with_reducible assumption
    | exact rfl
    | exact id
    | exact Or.inl rfl
    | exact Or.inr rfl
    | exact Or.inr (List.prefix_refl _)
    | exact Or.inr fun _ => rfl
    | exact Or.inr ⟨rfl, rfl, rfl⟩
    | exact Or.inr fun _ => ⟨rfl, rfl, rfl⟩
    | exact Or.inr fun _ => ⟨rfl, rfl⟩
    | split
    | dsimp only

theorem procGetMemSpares_keep  (a : Sentence) (s : State) {k0 : Nat} {z0 : State} (hk : Nat.land 0x420000001b80 k0 = 0x420000001b80) (hz : Keep k0 z0 s) : Keep k0 z0 (procGetMemSpares  a s) := by
  refine Keep.step ?_ hk hz
  unfold procGetMemSpares
  refine process_keep _ _ _ _ _ _ 0x0 (fun u ws => ?_) rfl rfl rfl (Keep.refl _ _)
  repeat' first
    | exact getAct_keep ..

theorem execGetMemSpares_keep (m : Sentence) (s : State) {t : State} (h : execGetMemSpares m s = .next t) : Keep 0x420000001b80 s t := by
  unfold execGetMemSpares at h
  injection h with h
  subst h
  repeat' first
    | with_reducible refine Keep.ite ?_ ?_
    | intro u hu
    | with_reducible apply submit_keep
    | with_reducible apply procGetMemSpares_keep
    | with_reducible exact Keep.refl _ _
    | with_reducible assumption
    | exact rfl
    | exact id
    | exact Or.inl rfl
    | exact Or.inr rfl
    | exact Or.inr (List.prefix_refl _)
    | exact Or.inr fun _ => rfl
    | exact Or.inr ⟨rfl, rfl, rfl⟩
    | exact Or.inr fun _ => ⟨rfl, rfl, rfl⟩
    | exact Or.inr fun _ => ⟨rfl, rfl⟩
    | split
    | dsimp only

theorem procGetMemStats_keep  (a : Sentence) (s : State) {k0 : Nat} {z0 : State} (hk : Nat.land 0x420000001b80 k0 = 0x420000001b80) (hz : Keep k0 z0 s) : Keep k0 z0 (procGetMemStats  a s) := by
  refine Keep.step ?_ hk hz
  unfold procGetMemStats
  refine process_keep _ _ _ _ _ _ 0x0 (fun u ws => ?_) rfl rfl rfl (Keep.refl _ _)
  repeat' first
    | exact getAct_keep ..

theorem execGetMemStats_keep (m : Sentence) (s : State) {t : State} (h : execGetMemStats m s = .next t) : Keep 0x420000001b80 s t := by
  unfold execGetMemStats at h
  injection h with h
  subst h
  repeat' first
    | with_reducible refine Keep.ite ?_ ?_
    | intro u hu
    | with_reducible apply submit_keep
    | with_reducible apply procGetMemStats_keep
    | with_reducible exact Keep.refl _ _
    | with_reducible assumption
    | exact rfl
    | exact id
    | exact Or.inl rfl
    | exact Or.inr rfl
    | exact Or.inr (List.prefix_refl _)
    | exact Or.inr fun _ => rfl
    | exact Or.inr ⟨rfl, rfl, rfl⟩
    | exact Or.inr fun _ => ⟨rfl, rfl, rfl⟩
    | exact Or.inr fun _ => ⟨rfl, rfl⟩
    | split
    | dsimp only

end Sys2Proof.Machine
end

