-- ==== Sys2Proof/Laws/KeepPath.lean ====
section
/-! SUPPORT. `Keep` for every operation of `Machine/Pilot.lean`, `Machine/Slots.lean`, `Machine/LineReceive.lean`, `Machine/HostLanes.lean`, `Machine/Elastic.lean`, `Machine/LineFormat.lean`, `Machine/LineTransmit.lean`, `Machine/Optics.lean`. -/

set_option linter.unusedTactic false
set_option linter.unreachableTactic false
set_option linter.unnecessarySeqFocus false
set_option linter.unusedVariables false
set_option linter.unusedSimpArgs false

namespace Sys2Proof.Machine

theorem State.pltDone_keep (s : State) (l : Nat) (p : PltPkt) (how : Nat) {k0 : Nat} {z0 : State} (hk : Nat.land 0x20000001b80 k0 = 0x20000001b80) (hz : Keep k0 z0 s) : Keep k0 z0 (State.pltDone s l p how) := by
  refine Keep.step ?_ hk hz
  unfold State.pltDone
  repeat' first
    | with_reducible refine Keep.ite ?_ ?_
    | with_reducible apply State.raise_keep
    | with_reducible apply State.finishObj_keep
    | with_reducible exact Keep.refl _ _
    | with_reducible assumption
    | exact rfl
    | exact id
    | exact Or.inl rfl
    | exact Or.inr rfl
    | exact Or.inr (List.prefix_refl _)
    | exact Or.inr fun _ => rfl
    | exact Or.inr ⟨rfl, rfl, rfl⟩
    | exact Or.inr fun _ => ⟨rfl, rfl, rfl⟩
    | exact Or.inr fun _ => ⟨rfl, rfl⟩
    | split
    | dsimp only

theorem State.airEnd_keep (s : State) (l : Nat) {k0 : Nat} {z0 : State} (hk : Nat.land 0x1000000 k0 = 0x1000000) (hz : Keep k0 z0 s) : Keep k0 z0 (State.airEnd s l) := by
  refine Keep.step ?_ hk hz
  unfold State.airEnd
  repeat' first
    | with_reducible refine Keep.ite ?_ ?_
    | with_reducible apply Keep.modPlt
    | with_reducible exact Keep.refl _ _
    | with_reducible assumption
    | exact rfl
    | exact id
    | exact Or.inl rfl
    | exact Or.inr rfl
    | exact Or.inr (List.prefix_refl _)
    | exact Or.inr fun _ => rfl
    | exact Or.inr ⟨rfl, rfl, rfl⟩
    | exact Or.inr fun _ => ⟨rfl, rfl, rfl⟩
    | exact Or.inr fun _ => ⟨rfl, rfl⟩
    | split
    | dsimp only

theorem State.pltTruncate_keep (s : State) (l : Nat) {k0 : Nat} {z0 : State} (hk : Nat.land 0x20001021b80 k0 = 0x20001021b80) (hz : Keep k0 z0 s) : Keep k0 z0 (State.pltTruncate s l) := by
  refine Keep.step ?_ hk hz
  unfold State.pltTruncate
  repeat' first
    | with_reducible refine Keep.ite ?_ ?_
    | with_reducible apply State.airEnd_keep
    | with_reducible apply State.pltDone_keep
    | with_reducible apply Keep.bump
    | with_reducible exact Keep.refl _ _
    | with_reducible assumption
    | exact rfl
    | exact id
    | exact Or.inl rfl
    | exact Or.inr rfl
    | exact Or.inr (List.prefix_refl _)
    | exact Or.inr fun _ => rfl
    | exact Or.inr ⟨rfl, rfl, rfl⟩
    | exact Or.inr fun _ => ⟨rfl, rfl, rfl⟩
    | exact Or.inr fun _ => ⟨rfl, rfl⟩
    | split
    | dsimp only

theorem State.pltDiscard_keep (s : State) (l : Nat) {k0 : Nat} {z0 : State} (hk : Nat.land 0x20001001b80 k0 = 0x20001001b80) (hz : Keep k0 z0 s) : Keep k0 z0 (State.pltDiscard s l) := by
  refine Keep.step ?_ hk hz
  unfold State.pltDiscard
  repeat' first
    | with_reducible refine Keep.ite ?_ ?_
    | with_reducible refine Keep.foldl _ ?_ ?_
    | intro u x hu
    | intro u hu
    | with_reducible apply State.pltDone_keep
    | with_reducible apply Keep.modPlt
    | with_reducible exact Keep.refl _ _
    | with_reducible assumption
    | exact rfl
    | exact id
    | exact Or.inl rfl
    | exact Or.inr rfl
    | exact Or.inr (List.prefix_refl _)
    | exact Or.inr fun _ => rfl
    | exact Or.inr ⟨rfl, rfl, rfl⟩
    | exact Or.inr fun _ => ⟨rfl, rfl, rfl⟩
    | exact Or.inr fun _ => ⟨rfl, rfl⟩
    | split
    | dsimp only

theorem State.pltAbort_keep (s : State) (l : Nat) {k0 : Nat} {z0 : State} (hk : Nat.land 0x1020000 k0 = 0x1020000) (hz : Keep k0 z0 s) : Keep k0 z0 (State.pltAbort s l) := by
  refine Keep.step ?_ hk hz
  unfold State.pltAbort
  repeat' first
    | with_reducible refine Keep.ite ?_ ?_
    | with_reducible apply Keep.modPlt
    | with_reducible apply Keep.bump
    | with_reducible exact Keep.refl _ _
    | with_reducible assumption
    | exact rfl
    | exact id
    | exact Or.inl rfl
    | exact Or.inr rfl
    | exact Or.inr (List.prefix_refl _)
    | exact Or.inr fun _ => rfl
    | exact Or.inr ⟨rfl, rfl, rfl⟩
    | exact Or.inr fun _ => ⟨rfl, rfl, rfl⟩
    | exact Or.inr fun _ => ⟨rfl, rfl⟩
    | split
    | dsimp only

theorem State.setPeer_keep (s : State) (l : Nat) (p : PeerState) (beacon : List Byte) {k0 : Nat} {z0 : State} (hk : Nat.land 0x1000300 k0 = 0x1000300) (hz : Keep k0 z0 s) : Keep k0 z0 (State.setPeer s l p beacon) := by
  refine Keep.step ?_ hk hz
  unfold State.setPeer
  repeat' first
    | with_reducible refine Keep.ite ?_ ?_
    | with_reducible apply State.raise_keep
    | with_reducible apply Keep.modPlt
    | with_reducible exact Keep.refl _ _
    | with_reducible assumption
    | exact rfl
    | exact id
    | exact Or.inl rfl
    | exact Or.inr rfl
    | exact Or.inr (List.prefix_refl _)
    | exact Or.inr fun _ => rfl
    | exact Or.inr ⟨rfl, rfl, rfl⟩
    | exact Or.inr fun _ => ⟨rfl, rfl, rfl⟩
    | exact Or.inr fun _ => ⟨rfl, rfl⟩
    | split
    | dsimp only

theorem State.pltConfigured_keep (s : State) (l : Nat) {k0 : Nat} {z0 : State} (hk : Nat.land 0x1000300 k0 = 0x1000300) (hz : Keep k0 z0 s) : Keep k0 z0 (State.pltConfigured s l) := by
  refine Keep.step ?_ hk hz
  unfold State.pltConfigured
  repeat' first
    | with_reducible refine Keep.ite ?_ ?_
    | with_reducible apply State.setPeer_keep
    | with_reducible apply Keep.modPlt
    | with_reducible exact Keep.refl _ _
    | with_reducible assumption
    | exact rfl
    | exact id
    | exact Or.inl rfl
    | exact Or.inr rfl
    | exact Or.inr (List.prefix_refl _)
    | exact Or.inr fun _ => rfl
    | exact Or.inr ⟨rfl, rfl, rfl⟩
    | exact Or.inr fun _ => ⟨rfl, rfl, rfl⟩
    | exact Or.inr fun _ => ⟨rfl, rfl⟩
    | split
    | dsimp only

theorem execBeaconIntervalExpiry_keep (l : Nat) (s : State) {t : State} (h : execBeaconIntervalExpiry l s = .next t) : Keep 0x1020000 s t := by
  unfold execBeaconIntervalExpiry at h
  injection h with h
  subst h
  repeat' first
    | with_reducible refine Keep.ite ?_ ?_
    | intro u hu
    | with_reducible apply Keep.bump
    | with_reducible apply Keep.modPlt
    | with_reducible exact Keep.refl _ _
    | with_reducible assumption
    | exact rfl
    | exact id
    | exact Or.inl rfl
    | exact Or.inr rfl
    | exact Or.inr (List.prefix_refl _)
    | exact Or.inr fun _ => rfl
    | exact Or.inr ⟨rfl, rfl, rfl⟩
    | exact Or.inr fun _ => ⟨rfl, rfl, rfl⟩
    | exact Or.inr fun _ => ⟨rfl, rfl⟩
    | split
    | dsimp only

theorem State.airStart_keep (s : State) (l : Nat) (p : PltPkt) {k0 : Nat} {z0 : State} (hk : Nat.land 0x1000000 k0 = 0x1000000) (hz : Keep k0 z0 s) : Keep k0 z0 (State.airStart s l p) := by
  refine Keep.step ?_ hk hz
  unfold State.airStart
  repeat' first
    | with_reducible refine Keep.ite ?_ ?_
    | with_reducible apply Keep.modPlt
    | with_reducible exact Keep.refl _ _
    | with_reducible assumption
    | exact rfl
    | exact id
    | exact Or.inl rfl
    | exact Or.inr rfl
    | exact Or.inr (List.prefix_refl _)
    | exact Or.inr fun _ => rfl
    | exact Or.inr ⟨rfl, rfl, rfl⟩
    | exact Or.inr fun _ => ⟨rfl, rfl, rfl⟩
    | exact Or.inr fun _ => ⟨rfl, rfl⟩
    | split
    | dsimp only

theorem execPilotPacketStart_keep (l : Nat) (s : State) {t : State} (h : execPilotPacketStart l s = .next t) : Keep 0x1000000 s t := by
  unfold execPilotPacketStart at h
  injection h with h
  subst h
  repeat' first
    | with_reducible refine Keep.ite ?_ ?_
    | intro u hu
    | with_reducible apply State.airStart_keep
    | with_reducible apply Keep.modPlt
    | with_reducible exact Keep.refl _ _
    | with_reducible assumption
    | exact rfl
    | exact id
    | exact Or.inl rfl
    | exact Or.inr rfl
    | exact Or.inr (List.prefix_refl _)
    | exact Or.inr fun _ => rfl
    | exact Or.inr ⟨rfl, rfl, rfl⟩
    | exact Or.inr fun _ => ⟨rfl, rfl, rfl⟩
    | exact Or.inr fun _ => ⟨rfl, rfl⟩
    | split
    | dsimp only

theorem execPilotPacketEnd_keep (l : Nat) (s : State) {t : State} (h : execPilotPacketEnd l s = .next t) : Keep 0x20001021b80 s t := by
  unfold execPilotPacketEnd at h
  injection h with h
  subst h
  repeat' first
    | with_reducible refine Keep.ite ?_ ?_
    | intro u hu
    | with_reducible apply State.airEnd_keep
    | with_reducible apply State.pltDone_keep
    | with_reducible apply Keep.bump
    | with_reducible apply Keep.modPlt
    | with_reducible exact Keep.refl _ _
    | with_reducible assumption
    | exact rfl
    | exact id
    | exact Or.inl rfl
    | exact Or.inr rfl
    | exact Or.inr (List.prefix_refl _)
    | exact Or.inr fun _ => rfl
    | exact Or.inr ⟨rfl, rfl, rfl⟩
    | exact Or.inr fun _ => ⟨rfl, rfl, rfl⟩
    | exact Or.inr fun _ => ⟨rfl, rfl⟩
    | split
    | dsimp only

theorem State.pltBegin_keep (s : State) (l : Nat) (m : Int) {k0 : Nat} {z0 : State} (hk : Nat.land 0x1000000 k0 = 0x1000000) (hz : Keep k0 z0 s) : Keep k0 z0 (State.pltBegin s l m) := by
  refine Keep.step ?_ hk hz
  unfold State.pltBegin
  repeat' first
    | with_reducible refine Keep.ite ?_ ?_
    | with_reducible apply Keep.modPlt
    | with_reducible exact Keep.refl _ _
    | with_reducible assumption
    | exact rfl
    | exact id
    | exact Or.inl rfl
    | exact Or.inr rfl
    | exact Or.inr (List.prefix_refl _)
    | exact Or.inr fun _ => rfl
    | exact Or.inr ⟨rfl, rfl, rfl⟩
    | exact Or.inr fun _ => ⟨rfl, rfl, rfl⟩
    | exact Or.inr fun _ => ⟨rfl, rfl⟩
    | split
    | dsimp only

theorem execSyncDetection_keep (l : Nat) (m : Int) (diff preamble : Nat) (s : State) {t : State} (h : execSyncDetection l m diff preamble s = .next t) : Keep 0x1020000 s t := by
  unfold execSyncDetection at h
  injection h with h
  subst h
  repeat' first
    | with_reducible refine Keep.ite ?_ ?_
    | intro u hu
    | with_reducible apply State.pltBegin_keep
    | with_reducible apply Keep.bump
    | with_reducible exact Keep.refl _ _
    | with_reducible assumption
    | exact rfl
    | exact id
    | exact Or.inl rfl
    | exact Or.inr rfl
    | exact Or.inr (List.prefix_refl _)
    | exact Or.inr fun _ => rfl
    | exact Or.inr ⟨rfl, rfl, rfl⟩
    | exact Or.inr fun _ => ⟨rfl, rfl, rfl⟩
    | exact Or.inr fun _ => ⟨rfl, rfl⟩
    | split
    | dsimp only

theorem execHeaderDecoded_keep (l : Nat) (hdr : List Byte) (s : State) {t : State} (h : execHeaderDecoded l hdr s = .next t) : Keep 0x1020000 s t := by
  unfold execHeaderDecoded at h
  injection h with h
  subst h
  repeat' first
    | with_reducible refine Keep.ite ?_ ?_
    | intro u hu
    | with_reducible apply Keep.modPlt
    | with_reducible apply Keep.bump
    | with_reducible exact Keep.refl _ _
    | with_reducible assumption
    | exact rfl
    | exact id
    | exact Or.inl rfl
    | exact Or.inr rfl
    | exact Or.inr (List.prefix_refl _)
    | exact Or.inr fun _ => rfl
    | exact Or.inr ⟨rfl, rfl, rfl⟩
    | exact Or.inr fun _ => ⟨rfl, rfl, rfl⟩
    | exact Or.inr fun _ => ⟨rfl, rfl⟩
    | split
    | dsimp only

theorem State.takeBeacon_keep (s : State) (l : Nat) (b : List Byte) (plq : Int) {k0 : Nat} {z0 : State} (hk : Nat.land 0x1000300 k0 = 0x1000300) (hz : Keep k0 z0 s) : Keep k0 z0 (State.takeBeacon s l b plq) := by
  refine Keep.step ?_ hk hz
  unfold State.takeBeacon
  repeat' first
    | with_reducible refine Keep.ite ?_ ?_
    | with_reducible apply State.setPeer_keep
    | with_reducible apply Keep.modPlt
    | with_reducible exact Keep.refl _ _
    | with_reducible assumption
    | exact rfl
    | exact id
    | exact Or.inl rfl
    | exact Or.inr rfl
    | exact Or.inr (List.prefix_refl _)
    | exact Or.inr fun _ => rfl
    | exact Or.inr ⟨rfl, rfl, rfl⟩
    | exact Or.inr fun _ => ⟨rfl, rfl, rfl⟩
    | exact Or.inr fun _ => ⟨rfl, rfl⟩
    | split
    | dsimp only

theorem State.takeUser_keep (s : State) (l : Nat) (p : PltRx) {k0 : Nat} {z0 : State} (hk : Nat.land 0x1020300 k0 = 0x1020300) (hz : Keep k0 z0 s) : Keep k0 z0 (State.takeUser s l p) := by
  refine Keep.step ?_ hk hz
  unfold State.takeUser
  repeat' first
    | with_reducible refine Keep.ite ?_ ?_
    | with_reducible apply State.raise_keep
    | with_reducible apply Keep.bump
    | with_reducible apply Keep.modPlt
    | with_reducible exact Keep.refl _ _
    | with_reducible assumption
    | exact rfl
    | exact id
    | exact Or.inl rfl
    | exact Or.inr rfl
    | exact Or.inr (List.prefix_refl _)
    | exact Or.inr fun _ => rfl
    | exact Or.inr ⟨rfl, rfl, rfl⟩
    | exact Or.inr fun _ => ⟨rfl, rfl, rfl⟩
    | exact Or.inr fun _ => ⟨rfl, rfl⟩
    | split
    | dsimp only

theorem execBodyDecoded_keep (l : Nat) (body : List Byte) (plq subOff rateOff : Int) (s : State) {t : State} (h : execBodyDecoded l body plq subOff rateOff s = .next t) : Keep 0x1020300 s t := by
  unfold execBodyDecoded at h
  injection h with h
  subst h
  repeat' first
    | with_reducible refine Keep.ite ?_ ?_
    | intro u hu
    | with_reducible apply State.takeBeacon_keep
    | with_reducible apply State.takeUser_keep
    | with_reducible apply Keep.modPlt
    | with_reducible apply Keep.bump
    | with_reducible exact Keep.refl _ _
    | with_reducible assumption
    | exact rfl
    | exact id
    | exact Or.inl rfl
    | exact Or.inr rfl
    | exact Or.inr (List.prefix_refl _)
    | exact Or.inr fun _ => rfl
    | exact Or.inr ⟨rfl, rfl, rfl⟩
    | exact Or.inr fun _ => ⟨rfl, rfl, rfl⟩
    | exact Or.inr fun _ => ⟨rfl, rfl⟩
    | split
    | dsimp only

theorem execPeerTimeout_keep (l : Nat) (s : State) {t : State} (h : execPeerTimeout l s = .next t) : Keep 0x1000300 s t := by
  unfold execPeerTimeout at h
  injection h with h
  subst h
  repeat' first
    | with_reducible refine Keep.ite ?_ ?_
    | intro u hu
    | with_reducible apply State.setPeer_keep
    | with_reducible exact Keep.refl _ _
    | with_reducible assumption
    | exact rfl
    | exact id
    | exact Or.inl rfl
    | exact Or.inr rfl
    | exact Or.inr (List.prefix_refl _)
    | exact Or.inr fun _ => rfl
    | exact Or.inr ⟨rfl, rfl, rfl⟩
    | exact Or.inr fun _ => ⟨rfl, rfl, rfl⟩
    | exact Or.inr fun _ => ⟨rfl, rfl⟩
    | split
    | dsimp only

theorem procGetPltCfg_keep  (a : Sentence) (s : State) {k0 : Nat} {z0 : State} (hk : Nat.land 0x420000001b80 k0 = 0x420000001b80) (hz : Keep k0 z0 s) : Keep k0 z0 (procGetPltCfg  a s) := by
  refine Keep.step ?_ hk hz
  unfold procGetPltCfg
  refine process_keep _ _ _ _ _ _ 0x0 (fun u ws => ?_) rfl rfl rfl (Keep.refl _ _)
  repeat' first
    | exact getAct_keep ..

theorem execGetPltCfg_keep (m : Sentence) (s : State) {t : State} (h : execGetPltCfg m s = .next t) : Keep 0x420000001b80 s t := by
  unfold execGetPltCfg at h
  injection h with h
  subst h
  repeat' first
    | with_reducible refine Keep.ite ?_ ?_
    | intro u hu
    | with_reducible apply submit_keep
    | with_reducible apply procGetPltCfg_keep
    | with_reducible exact Keep.refl _ _
    | with_reducible assumption
    | exact rfl
    | exact id
    | exact Or.inl rfl
    | exact Or.inr rfl
    | exact Or.inr (List.prefix_refl _)
    | exact Or.inr fun _ => rfl
    | exact Or.inr ⟨rfl, rfl, rfl⟩
    | exact Or.inr fun _ => ⟨rfl, rfl, rfl⟩
    | exact Or.inr fun _ => ⟨rfl, rfl⟩
    | split
    | dsimp only

theorem procSetPltCfg_keep  (a : Sentence) (s : State) {k0 : Nat} {z0 : State} (hk : Nat.land 0x420000011b80 k0 = 0x420000011b80) (hz : Keep k0 z0 s) : Keep k0 z0 (procSetPltCfg  a s) := by
  refine Keep.step ?_ hk hz
  unfold procSetPltCfg
  refine process_keep _ _ _ _ _ _ 0x10000 (fun u ws => ?_) rfl rfl rfl (Keep.refl _ _)
  repeat' first
    | with_reducible refine Keep.ite ?_ ?_
    | intro u hu
    | with_reducible apply setAct_keep
    | with_reducible exact Keep.refl _ _
    | with_reducible assumption
    | exact rfl
    | exact id
    | exact Or.inl rfl
    | exact Or.inr rfl
    | exact Or.inr (List.prefix_refl _)
    | exact Or.inr fun _ => rfl
    | exact Or.inr ⟨rfl, rfl, rfl⟩
    | exact Or.inr fun _ => ⟨rfl, rfl, rfl⟩
    | exact Or.inr fun _ => ⟨rfl, rfl⟩
    | split
    | dsimp only

theorem execSetPltCfg_keep (m : Sentence) (s : State) {t : State} (h : execSetPltCfg m s = .next t) : Keep 0x420000011b80 s t := by
  unfold execSetPltCfg at h
  injection h with h
  subst h
  repeat' first
    | with_reducible refine Keep.ite ?_ ?_
    | intro u hu
    | with_reducible apply submit_keep
    | with_reducible apply procSetPltCfg_keep
    | with_reducible exact Keep.refl _ _
    | with_reducible assumption
    | exact rfl
    | exact id
    | exact Or.inl rfl
    | exact Or.inr rfl
    | exact Or.inr (List.prefix_refl _)
    | exact Or.inr fun _ => rfl
    | exact Or.inr ⟨rfl, rfl, rfl⟩
    | exact Or.inr fun _ => ⟨rfl, rfl, rfl⟩
    | exact Or.inr fun _ => ⟨rfl, rfl⟩
    | split
    | dsimp only

theorem actSend_keep (s : State) (m : Sentence) (ws : List Word) {k0 : Nat} {z0 : State} (hk : Nat.land 0x1000000 k0 = 0x1000000) (hz : Keep k0 z0 s) : Keep k0 z0 (actSend s m ws).1 := by
  refine Keep.step ?_ hk hz
  unfold actSend
  repeat' first
    | with_reducible refine Keep.ite ?_ ?_
    | intro u hu
    | with_reducible apply Keep.modPlt
    | with_reducible exact Keep.refl _ _
    | with_reducible assumption
    | exact rfl
    | exact id
    | exact Or.inl rfl
    | exact Or.inr rfl
    | exact Or.inr (List.prefix_refl _)
    | exact Or.inr fun _ => rfl
    | exact Or.inr ⟨rfl, rfl, rfl⟩
    | exact Or.inr fun _ => ⟨rfl, rfl, rfl⟩
    | exact Or.inr fun _ => ⟨rfl, rfl⟩
    | split
    | dsimp only

theorem procSendPltPacket_keep  (a : Sentence) (s : State) {k0 : Nat} {z0 : State} (hk : Nat.land 0x420001001b80 k0 = 0x420001001b80) (hz : Keep k0 z0 s) : Keep k0 z0 (procSendPltPacket  a s) := by
  refine Keep.step ?_ hk hz
  unfold procSendPltPacket
  refine process_keep _ _ _ _ _ _ 0x1000000 (fun u ws => ?_) rfl rfl rfl (Keep.refl _ _)
  repeat' first
    | with_reducible refine Keep.ite ?_ ?_
    | intro u hu
    | with_reducible apply actSend_keep
    | with_reducible exact Keep.refl _ _
    | with_reducible assumption
    | exact rfl
    | exact id
    | exact Or.inl rfl
    | exact Or.inr rfl
    | exact Or.inr (List.prefix_refl _)
    | exact Or.inr fun _ => rfl
    | exact Or.inr ⟨rfl, rfl, rfl⟩
    | exact Or.inr fun _ => ⟨rfl, rfl, rfl⟩
    | exact Or.inr fun _ => ⟨rfl, rfl⟩
    | split
    | dsimp only

theorem execSendPltPacket_keep (m : Sentence) (s : State) {t : State} (h : execSendPltPacket m s = .next t) : Keep 0x420001001b80 s t := by
  unfold execSendPltPacket at h
  injection h with h
  subst h
  repeat' first
    | with_reducible refine Keep.ite ?_ ?_
    | intro u hu
    | with_reducible apply submit_keep
    | with_reducible apply procSendPltPacket_keep
    | with_reducible exact Keep.refl _ _
    | with_reducible assumption
    | exact rfl
    | exact id
    | exact Or.inl rfl
    | exact Or.inr rfl
    | exact Or.inr (List.prefix_refl _)
    | exact Or.inr fun _ => rfl
    | exact Or.inr ⟨rfl, rfl, rfl⟩
    | exact Or.inr fun _ => ⟨rfl, rfl, rfl⟩
    | exact Or.inr fun _ => ⟨rfl, rfl⟩
    | split
    | dsimp only

theorem actReceive_keep (s : State) (m : Sentence) (x_ : List Word) {k0 : Nat} {z0 : State} (hk : Nat.land 0x1000000 k0 = 0x1000000) (hz : Keep k0 z0 s) : Keep k0 z0 (actReceive s m x_).1 := by
  refine Keep.step ?_ hk hz
  unfold actReceive
  repeat' first
    | with_reducible refine Keep.ite ?_ ?_
    | intro u hu
    | with_reducible apply Keep.modPlt
    | with_reducible exact Keep.refl _ _
    | with_reducible assumption
    | exact rfl
    | exact id
    | exact Or.inl rfl
    | exact Or.inr rfl
    | exact Or.inr (List.prefix_refl _)
    | exact Or.inr fun _ => rfl
    | exact Or.inr ⟨rfl, rfl, rfl⟩
    | exact Or.inr fun _ => ⟨rfl, rfl, rfl⟩
    | exact Or.inr fun _ => ⟨rfl, rfl⟩
    | split
    | dsimp only

theorem procReceivePltPacket_keep  (a : Sentence) (s : State) {k0 : Nat} {z0 : State} (hk : Nat.land 0x420001001b80 k0 = 0x420001001b80) (hz : Keep k0 z0 s) : Keep k0 z0 (procReceivePltPacket  a s) := by
  refine Keep.step ?_ hk hz
  unfold procReceivePltPacket
  refine process_keep _ _ _ _ _ _ 0x1000000 (fun u ws => ?_) rfl rfl rfl (Keep.refl _ _)
  repeat' first
    | with_reducible refine Keep.ite ?_ ?_
    | intro u hu
    | with_reducible apply actReceive_keep
    | with_reducible exact Keep.refl _ _
    | with_reducible assumption
    | exact rfl
    | exact id
    | exact Or.inl rfl
    | exact Or.inr rfl
    | exact Or.inr (List.prefix_refl _)
    | exact Or.inr fun _ => rfl
    | exact Or.inr ⟨rfl, rfl, rfl⟩
    | exact Or.inr fun _ => ⟨rfl, rfl, rfl⟩
    | exact Or.inr fun _ => ⟨rfl, rfl⟩
    | split
    | dsimp only

theorem execReceivePltPacket_keep (m : Sentence) (s : State) {t : State} (h : execReceivePltPacket m s = .next t) : Keep 0x420001001b80 s t := by
  unfold execReceivePltPacket at h
  injection h with h
  subst h
  repeat' first
    | with_reducible refine Keep.ite ?_ ?_
    | intro u hu
    | with_reducible apply submit_keep
    | with_reducible apply procReceivePltPacket_keep
    | with_reducible exact Keep.refl _ _
    | with_reducible assumption
    | exact rfl
    | exact id
    | exact Or.inl rfl
    | exact Or.inr rfl
    | exact Or.inr (List.prefix_refl _)
    | exact Or.inr fun _ => rfl
    | exact Or.inr ⟨rfl, rfl, rfl⟩
    | exact Or.inr fun _ => ⟨rfl, rfl, rfl⟩
    | exact Or.inr fun _ => ⟨rfl, rfl⟩
    | split
    | dsimp only

theorem procGetPltPeer_keep  (a : Sentence) (s : State) {k0 : Nat} {z0 : State} (hk : Nat.land 0x420000001b80 k0 = 0x420000001b80) (hz : Keep k0 z0 s) : Keep k0 z0 (procGetPltPeer  a s) := by
  refine Keep.step ?_ hk hz
  unfold procGetPltPeer
  refine process_keep _ _ _ _ _ _ 0x0 (fun u ws => ?_) rfl rfl rfl (Keep.refl _ _)
  repeat' first
    | exact getAct_keep ..

theorem execGetPltPeer_keep (m : Sentence) (s : State) {t : State} (h : execGetPltPeer m s = .next t) : Keep 0x420000001b80 s t := by
  unfold execGetPltPeer at h
  injection h with h
  subst h
  repeat' first
    | with_reducible refine Keep.ite ?_ ?_
    | intro u hu
    | with_reducible apply submit_keep
    | with_reducible apply procGetPltPeer_keep
    | with_reducible exact Keep.refl _ _
    | with_reducible assumption
    | exact rfl
    | exact id
    | exact Or.inl rfl
    | exact Or.inr rfl
    | exact Or.inr (List.prefix_refl _)
    | exact Or.inr fun _ => rfl
    | exact Or.inr ⟨rfl, rfl, rfl⟩
    | exact Or.inr fun _ => ⟨rfl, rfl, rfl⟩
    | exact Or.inr fun _ => ⟨rfl, rfl⟩
    | split
    | dsimp only

theorem actPeer_keep (s : State) (m : Sentence) (ws : List Word) {k0 : Nat} {z0 : State} (hk : Nat.land 0x1000300 k0 = 0x1000300) (hz : Keep k0 z0 s) : Keep k0 z0 (actPeer s m ws).1 := by
  refine Keep.step ?_ hk hz
  unfold actPeer
  repeat' first
    | with_reducible refine Keep.ite ?_ ?_
    | intro u hu
    | with_reducible apply State.setPeer_keep
    | with_reducible apply Keep.modPlt
    | with_reducible exact Keep.refl _ _
    | with_reducible assumption
    | exact rfl
    | exact id
    | exact Or.inl rfl
    | exact Or.inr rfl
    | exact Or.inr (List.prefix_refl _)
    | exact Or.inr fun _ => rfl
    | exact Or.inr ⟨rfl, rfl, rfl⟩
    | exact Or.inr fun _ => ⟨rfl, rfl, rfl⟩
    | exact Or.inr fun _ => ⟨rfl, rfl⟩
    | split
    | dsimp only

theorem procSetPltPeer_keep  (a : Sentence) (s : State) {k0 : Nat} {z0 : State} (hk : Nat.land 0x420001001b80 k0 = 0x420001001b80) (hz : Keep k0 z0 s) : Keep k0 z0 (procSetPltPeer  a s) := by
  refine Keep.step ?_ hk hz
  unfold procSetPltPeer
  refine process_keep _ _ _ _ _ _ 0x1000300 (fun u ws => ?_) rfl rfl rfl (Keep.refl _ _)
  repeat' first
    | with_reducible refine Keep.ite ?_ ?_
    | intro u hu
    | with_reducible apply actPeer_keep
    | with_reducible exact Keep.refl _ _
    | with_reducible assumption
    | exact rfl
    | exact id
    | exact Or.inl rfl
    | exact Or.inr rfl
    | exact Or.inr (List.prefix_refl _)
    | exact Or.inr fun _ => rfl
    | exact Or.inr ⟨rfl, rfl, rfl⟩
    | exact Or.inr fun _ => ⟨rfl, rfl, rfl⟩
    | exact Or.inr fun _ => ⟨rfl, rfl⟩
    | split
    | dsimp only

theorem execSetPltPeer_keep (m : Sentence) (s : State) {t : State} (h : execSetPltPeer m s = .next t) : Keep 0x420001001b80 s t := by
  unfold execSetPltPeer at h
  injection h with h
  subst h
  repeat' first
    | with_reducible refine Keep.ite ?_ ?_
    | intro u hu
    | with_reducible apply submit_keep
    | with_reducible apply procSetPltPeer_keep
    | with_reducible exact Keep.refl _ _
    | with_reducible assumption
    | exact rfl
    | exact id
    | exact Or.inl rfl
    | exact Or.inr rfl
    | exact Or.inr (List.prefix_refl _)
    | exact Or.inr fun _ => rfl
    | exact Or.inr ⟨rfl, rfl, rfl⟩
    | exact Or.inr fun _ => ⟨rfl, rfl, rfl⟩
    | exact Or.inr fun _ => ⟨rfl, rfl⟩
    | split
    | dsimp only

theorem procGetPltStatus_keep  (a : Sentence) (s : State) {k0 : Nat} {z0 : State} (hk : Nat.land 0x420000001b80 k0 = 0x420000001b80) (hz : Keep k0 z0 s) : Keep k0 z0 (procGetPltStatus  a s) := by
  refine Keep.step ?_ hk hz
  unfold procGetPltStatus
  refine process_keep _ _ _ _ _ _ 0x0 (fun u ws => ?_) rfl rfl rfl (Keep.refl _ _)
  repeat' first
    | exact getAct_keep ..

theorem execGetPltStatus_keep (m : Sentence) (s : State) {t : State} (h : execGetPltStatus m s = .next t) : Keep 0x420000001b80 s t := by
  unfold execGetPltStatus at h
  injection h with h
  subst h
  repeat' first
    | with_reducible refine Keep.ite ?_ ?_
    | intro u hu
    | with_reducible apply submit_keep
    | with_reducible apply procGetPltStatus_keep
    | with_reducible exact Keep.refl _ _
    | with_reducible assumption
    | exact rfl
    | exact id
    | exact Or.inl rfl
    | exact Or.inr rfl
    | exact Or.inr (List.prefix_refl _)
    | exact Or.inr fun _ => rfl
    | exact Or.inr ⟨rfl, rfl, rfl⟩
    | exact Or.inr fun _ => ⟨rfl, rfl, rfl⟩
    | exact Or.inr fun _ => ⟨rfl, rfl⟩
    | split
    | dsimp only

theorem State.telPut_keep (s : State) (off : Nat) (bs : List Byte) {k0 : Nat} {z0 : State} (hk : Nat.land 0x20c00000300 k0 = 0x20c00000300) (hz : Keep k0 z0 s) : Keep k0 z0 (State.telPut s off bs) := by
  refine Keep.step ?_ hk hz
  unfold State.telPut
  repeat' first
    | with_reducible refine Keep.ite ?_ ?_
    | with_reducible apply State.memPut_keep
    | with_reducible exact Keep.refl _ _
    | with_reducible assumption
    | exact rfl
    | exact id
    | exact Or.inl rfl
    | exact Or.inr rfl
    | exact Or.inr (List.prefix_refl _)
    | exact Or.inr fun _ => rfl
    | exact Or.inr ⟨rfl, rfl, rfl⟩
    | exact Or.inr fun _ => ⟨rfl, rfl, rfl⟩
    | exact Or.inr fun _ => ⟨rfl, rfl⟩
    | split
    | dsimp only

theorem State.nameLos_keep (s : State) (l : Nat) {k0 : Nat} {z0 : State} (hk : Nat.land 0x800000000100 k0 = 0x800000000100) (hz : Keep k0 z0 s) : Keep k0 z0 (State.nameLos s l) := by
  refine Keep.step ?_ hk hz
  unfold State.nameLos
  try simp -zeta only [State.fold_ev]
  repeat' first
    | with_reducible refine Keep.ite ?_ ?_
    | with_reducible apply Keep.set_ev
    | with_reducible exact Keep.refl _ _
    | with_reducible assumption
    | exact rfl
    | exact id
    | exact Or.inl rfl
    | exact Or.inr rfl
    | exact Or.inr (List.prefix_refl _)
    | exact Or.inr fun _ => rfl
    | exact Or.inr ⟨rfl, rfl, rfl⟩
    | exact Or.inr fun _ => ⟨rfl, rfl, rfl⟩
    | exact Or.inr fun _ => ⟨rfl, rfl⟩
    | split
    | dsimp only

theorem execLosAssert_keep (l : Nat) (s : State) {t : State} (h : execLosAssert l s = .next t) : Keep 0x82603fde5b08 s t := by
  unfold execLosAssert at h
  injection h with h
  subst h
  repeat' first
    | with_reducible refine Keep.ite ?_ ?_
    | intro u hu
    | with_reducible apply State.raise_keep
    | with_reducible apply State.nameLos_keep
    | with_reducible apply State.pltAbort_keep
    | with_reducible apply State.lockEnd_keep
    | with_reducible apply State.lineFault_keep
    | with_reducible apply State.follow_keep
    | with_reducible apply Keep.modLrx
    | with_reducible apply Keep.bump
    | with_reducible exact Keep.refl _ _
    | with_reducible assumption
    | exact rfl
    | exact id
    | exact Or.inl rfl
    | exact Or.inr rfl
    | exact Or.inr (List.prefix_refl _)
    | exact Or.inr fun _ => rfl
    | exact Or.inr ⟨rfl, rfl, rfl⟩
    | exact Or.inr fun _ => ⟨rfl, rfl, rfl⟩
    | exact Or.inr fun _ => ⟨rfl, rfl⟩
    | split
    | dsimp only

theorem execLosClear_keep (l : Nat) (s : State) {t : State} (h : execLosClear l s = .next t) : Keep 0x2601bda5b08 s t := by
  unfold execLosClear at h
  injection h with h
  subst h
  repeat' first
    | with_reducible refine Keep.ite ?_ ?_
    | intro u hu
    | with_reducible apply State.raise_keep
    | with_reducible apply State.acquire_keep
    | with_reducible apply State.follow_keep
    | with_reducible apply Keep.modLrx
    | with_reducible exact Keep.refl _ _
    | with_reducible assumption
    | exact rfl
    | exact id
    | exact Or.inl rfl
    | exact Or.inr rfl
    | exact Or.inr (List.prefix_refl _)
    | exact Or.inr fun _ => rfl
    | exact Or.inr ⟨rfl, rfl, rfl⟩
    | exact Or.inr fun _ => ⟨rfl, rfl, rfl⟩
    | exact Or.inr fun _ => ⟨rfl, rfl⟩
    | split
    | dsimp only

theorem State.adaptFfe_keep (s : State) (l : Nat) (ups : List (Int × List Int)) {k0 : Nat} {z0 : State} (hk : Nat.land 0x180000 k0 = 0x180000) (hz : Keep k0 z0 s) : Keep k0 z0 (State.adaptFfe s l ups) := by
  refine Keep.step ?_ hk hz
  unfold State.adaptFfe
  repeat' first
    | with_reducible refine Keep.ite ?_ ?_
    | with_reducible refine Keep.foldl _ ?_ ?_
    | intro u x hu
    | with_reducible apply Keep.modLrx
    | with_reducible exact Keep.refl _ _
    | with_reducible assumption
    | exact rfl
    | exact id
    | exact Or.inl rfl
    | exact Or.inr rfl
    | exact Or.inr (List.prefix_refl _)
    | exact Or.inr fun _ => rfl
    | exact Or.inr ⟨rfl, rfl, rfl⟩
    | exact Or.inr fun _ => ⟨rfl, rfl, rfl⟩
    | exact Or.inr fun _ => ⟨rfl, rfl⟩
    | split
    | dsimp only

theorem State.toStep_keep (s : State) (l n : Nat) {k0 : Nat} {z0 : State} (hk : Nat.land 0x180000 k0 = 0x180000) (hz : Keep k0 z0 s) : Keep k0 z0 (State.toStep s l n) := by
  refine Keep.step ?_ hk hz
  unfold State.toStep
  repeat' first
    | with_reducible refine Keep.ite ?_ ?_
    | with_reducible apply Keep.modLrx
    | with_reducible exact Keep.refl _ _
    | with_reducible assumption
    | exact rfl
    | exact id
    | exact Or.inl rfl
    | exact Or.inr rfl
    | exact Or.inr (List.prefix_refl _)
    | exact Or.inr fun _ => rfl
    | exact Or.inr ⟨rfl, rfl, rfl⟩
    | exact Or.inr fun _ => ⟨rfl, rfl, rfl⟩
    | exact Or.inr fun _ => ⟨rfl, rfl⟩
    | split
    | dsimp only

theorem execReceiverPowerSettled_keep (l : Nat) (s : State) {t : State} (h : execReceiverPowerSettled l s = .next t) : Keep 0x180000 s t := by
  unfold execReceiverPowerSettled at h
  injection h with h
  subst h
  repeat' first
    | with_reducible refine Keep.ite ?_ ?_
    | intro u hu
    | with_reducible apply State.toStep_keep
    | with_reducible exact Keep.refl _ _
    | with_reducible assumption
    | exact rfl
    | exact id
    | exact Or.inl rfl
    | exact Or.inr rfl
    | exact Or.inr (List.prefix_refl _)
    | exact Or.inr fun _ => rfl
    | exact Or.inr ⟨rfl, rfl, rfl⟩
    | exact Or.inr fun _ => ⟨rfl, rfl, rfl⟩
    | exact Or.inr fun _ => ⟨rfl, rfl⟩
    | split
    | dsimp only

theorem State.agcRun_keep (s : State) (l : Nat) (rms : List Nat) {k0 : Nat} {z0 : State} (hk : Nat.land 0x180000 k0 = 0x180000) (hz : Keep k0 z0 s) : Keep k0 z0 (State.agcRun s l rms) := by
  refine Keep.step ?_ hk hz
  unfold State.agcRun
  repeat' first
    | with_reducible refine Keep.ite ?_ ?_
    | with_reducible refine Keep.foldl _ ?_ ?_
    | intro u x hu
    | with_reducible apply Keep.modLrx
    | with_reducible exact Keep.refl _ _
    | with_reducible assumption
    | exact rfl
    | exact id
    | exact Or.inl rfl
    | exact Or.inr rfl
    | exact Or.inr (List.prefix_refl _)
    | exact Or.inr fun _ => rfl
    | exact Or.inr ⟨rfl, rfl, rfl⟩
    | exact Or.inr fun _ => ⟨rfl, rfl, rfl⟩
    | exact Or.inr fun _ => ⟨rfl, rfl⟩
    | split
    | dsimp only

theorem execAgcSettled_keep (l : Nat) (s : State) (rms : List Nat) {t : State} (h : execAgcSettled l s rms = .next t) : Keep 0x180000 s t := by
  unfold execAgcSettled at h
  injection h with h
  subst h
  repeat' first
    | with_reducible refine Keep.ite ?_ ?_
    | intro u hu
    | with_reducible apply State.agcRun_keep
    | with_reducible apply State.toStep_keep
    | with_reducible exact Keep.refl _ _
    | with_reducible assumption
    | exact rfl
    | exact id
    | exact Or.inl rfl
    | exact Or.inr rfl
    | exact Or.inr (List.prefix_refl _)
    | exact Or.inr fun _ => rfl
    | exact Or.inr ⟨rfl, rfl, rfl⟩
    | exact Or.inr fun _ => ⟨rfl, rfl, rfl⟩
    | exact Or.inr fun _ => ⟨rfl, rfl⟩
    | split
    | dsimp only

theorem execSliceCorrectionConverged_keep (l : Nat) (s : State) {t : State} (h : execSliceCorrectionConverged l s = .next t) : Keep 0x180000 s t := by
  unfold execSliceCorrectionConverged at h
  injection h with h
  subst h
  repeat' first
    | with_reducible refine Keep.ite ?_ ?_
    | intro u hu
    | with_reducible apply State.toStep_keep
    | with_reducible exact Keep.refl _ _
    | with_reducible assumption
    | exact rfl
    | exact id
    | exact Or.inl rfl
    | exact Or.inr rfl
    | exact Or.inr (List.prefix_refl _)
    | exact Or.inr fun _ => rfl
    | exact Or.inr ⟨rfl, rfl, rfl⟩
    | exact Or.inr fun _ => ⟨rfl, rfl, rfl⟩
    | exact Or.inr fun _ => ⟨rfl, rfl⟩
    | split
    | dsimp only

theorem State.toSix_keep (s : State) (l : Nat) {k0 : Nat} {z0 : State} (hk : Nat.land 0x380000 k0 = 0x380000) (hz : Keep k0 z0 s) : Keep k0 z0 (State.toSix s l) := by
  refine Keep.step ?_ hk hz
  unfold State.toSix
  repeat' first
    | with_reducible refine Keep.ite ?_ ?_
    | with_reducible apply State.toStep_keep
    | with_reducible apply Keep.modLrx
    | with_reducible apply Keep.modSea
    | with_reducible exact Keep.refl _ _
    | with_reducible assumption
    | exact rfl
    | exact id
    | exact Or.inl rfl
    | exact Or.inr rfl
    | exact Or.inr (List.prefix_refl _)
    | exact Or.inr fun _ => rfl
    | exact Or.inr ⟨rfl, rfl, rfl⟩
    | exact Or.inr fun _ => ⟨rfl, rfl, rfl⟩
    | exact Or.inr fun _ => ⟨rfl, rfl⟩
    | split
    | dsimp only

theorem execTimingRecoveryLocked_keep (l : Nat) (freq : Int) (s : State) {t : State} (h : execTimingRecoveryLocked l freq s = .next t) : Keep 0x380000 s t := by
  unfold execTimingRecoveryLocked at h
  injection h with h
  subst h
  repeat' first
    | with_reducible refine Keep.ite ?_ ?_
    | intro u hu
    | with_reducible apply State.toStep_keep
    | with_reducible apply State.toSix_keep
    | with_reducible apply Keep.modLrx
    | with_reducible exact Keep.refl _ _
    | with_reducible assumption
    | exact rfl
    | exact id
    | exact Or.inl rfl
    | exact Or.inr rfl
    | exact Or.inr (List.prefix_refl _)
    | exact Or.inr fun _ => rfl
    | exact Or.inr ⟨rfl, rfl, rfl⟩
    | exact Or.inr fun _ => ⟨rfl, rfl, rfl⟩
    | exact Or.inr fun _ => ⟨rfl, rfl⟩
    | split
    | dsimp only

theorem execFfeConverged_keep (l : Nat) (s : State) (ups : List (Int × List Int)) {t : State} (h : execFfeConverged l s ups = .next t) : Keep 0x380000 s t := by
  unfold execFfeConverged at h
  injection h with h
  subst h
  repeat' first
    | with_reducible refine Keep.ite ?_ ?_
    | intro u hu
    | with_reducible apply State.adaptFfe_keep
    | with_reducible apply State.toSix_keep
    | with_reducible exact Keep.refl _ _
    | with_reducible assumption
    | exact rfl
    | exact id
    | exact Or.inl rfl
    | exact Or.inr rfl
    | exact Or.inr (List.prefix_refl _)
    | exact Or.inr fun _ => rfl
    | exact Or.inr ⟨rfl, rfl, rfl⟩
    | exact Or.inr fun _ => ⟨rfl, rfl, rfl⟩
    | exact Or.inr fun _ => ⟨rfl, rfl⟩
    | split
    | dsimp only

theorem execAcquisitionTimeout_keep (l : Nat) (s : State) {t : State} (h : execAcquisitionTimeout l s = .next t) : Keep 0x5a0300 s t := by
  unfold execAcquisitionTimeout at h
  injection h with h
  subst h
  repeat' first
    | with_reducible refine Keep.ite ?_ ?_
    | intro u hu
    | with_reducible apply State.resetTable_keep
    | with_reducible apply State.loadPreset_keep
    | with_reducible apply State.raise_keep
    | with_reducible apply Keep.modLrx
    | with_reducible apply Keep.bump
    | with_reducible exact Keep.refl _ _
    | with_reducible assumption
    | exact rfl
    | exact id
    | exact Or.inl rfl
    | exact Or.inr rfl
    | exact Or.inr (List.prefix_refl _)
    | exact Or.inr fun _ => rfl
    | exact Or.inr ⟨rfl, rfl, rfl⟩
    | exact Or.inr fun _ => ⟨rfl, rfl, rfl⟩
    | exact Or.inr fun _ => ⟨rfl, rfl⟩
    | split
    | dsimp only

theorem State.publish_keep (s : State) (l : Nat) (q : Quality) (dis : Bool) {k0 : Nat} {z0 : State} (hk : Nat.land 0x1a0302 k0 = 0x1a0302) (hz : Keep k0 z0 s) : Keep k0 z0 (State.publish s l q dis) := by
  refine Keep.step ?_ hk hz
  unfold State.publish
  repeat' first
    | with_reducible refine Keep.ite ?_ ?_
    | with_reducible apply State.freeSkip_keep
    | with_reducible apply State.raise_keep
    | with_reducible apply Keep.modLrx
    | with_reducible apply Keep.bumpBy
    | with_reducible apply Keep.setFigure
    | with_reducible exact Keep.refl _ _
    | with_reducible assumption
    | exact rfl
    | exact id
    | exact Or.inl rfl
    | exact Or.inr rfl
    | exact Or.inr (List.prefix_refl _)
    | exact Or.inr fun _ => rfl
    | exact Or.inr ⟨rfl, rfl, rfl⟩
    | exact Or.inr fun _ => ⟨rfl, rfl, rfl⟩
    | exact Or.inr fun _ => ⟨rfl, rfl⟩
    | split
    | dsimp only

theorem State.takeEstimate_keep (s : State) (l : Nat) (e : Estimate) (dis : Bool) {k0 : Nat} {z0 : State} (hk : Nat.land 0x380302 k0 = 0x380302) (hz : Keep k0 z0 s) : Keep k0 z0 (State.takeEstimate s l e dis) := by
  refine Keep.step ?_ hk hz
  unfold State.takeEstimate
  repeat' first
    | with_reducible refine Keep.ite ?_ ?_
    | with_reducible apply State.freeNext_keep
    | with_reducible apply State.raise_keep
    | with_reducible apply Keep.modSea
    | with_reducible apply Keep.modLrx
    | with_reducible exact Keep.refl _ _
    | with_reducible assumption
    | exact rfl
    | exact id
    | exact Or.inl rfl
    | exact Or.inr rfl
    | exact Or.inr (List.prefix_refl _)
    | exact Or.inr fun _ => rfl
    | exact Or.inr ⟨rfl, rfl, rfl⟩
    | exact Or.inr fun _ => ⟨rfl, rfl, rfl⟩
    | exact Or.inr fun _ => ⟨rfl, rfl⟩
    | split
    | dsimp only

theorem State.hingeTakes_keep (s : State) (l : Nat) (dis : Bool) {k0 : Nat} {z0 : State} (hk : Nat.land 0x30380221b82 k0 = 0x30380221b82) (hz : Keep k0 z0 s) : Keep k0 z0 (State.hingeTakes s l dis) := by
  refine Keep.step ?_ hk hz
  unfold State.hingeTakes
  repeat' first
    | with_reducible refine Keep.ite ?_ ?_
    | with_reducible apply State.replanFor_keep
    | with_reducible apply Keep.modSea
    | with_reducible exact Keep.refl _ _
    | with_reducible assumption
    | exact rfl
    | exact id
    | exact Or.inl rfl
    | exact Or.inr rfl
    | exact Or.inr (List.prefix_refl _)
    | exact Or.inr fun _ => rfl
    | exact Or.inr ⟨rfl, rfl, rfl⟩
    | exact Or.inr fun _ => ⟨rfl, rfl, rfl⟩
    | exact Or.inr fun _ => ⟨rfl, rfl⟩
    | split
    | dsimp only

theorem execEstimatePeriodEnd_keep (l : Nat) (q : Quality) (e : Estimate) (rms : List Nat) (s : State) {t : State} (h : execEstimatePeriodEnd l q e rms s = .next t) : Keep 0x363bbbedb8a s t := by
  unfold execEstimatePeriodEnd at h
  injection h with h
  subst h
  repeat' first
    | with_reducible refine Keep.ite ?_ ?_
    | intro u hu
    | with_reducible apply State.agcRun_keep
    | with_reducible apply State.publish_keep
    | with_reducible apply State.takeEstimate_keep
    | with_reducible apply State.hingeTakes_keep
    | with_reducible apply State.toStep_keep
    | with_reducible apply State.raise_keep
    | with_reducible apply State.lineTryUp_keep
    | with_reducible apply State.follow_keep
    | with_reducible apply Keep.modLrx
    | with_reducible exact Keep.refl _ _
    | with_reducible assumption
    | exact rfl
    | exact id
    | exact Or.inl rfl
    | exact Or.inr rfl
    | exact Or.inr (List.prefix_refl _)
    | exact Or.inr fun _ => rfl
    | exact Or.inr ⟨rfl, rfl, rfl⟩
    | exact Or.inr fun _ => ⟨rfl, rfl, rfl⟩
    | exact Or.inr fun _ => ⟨rfl, rfl⟩
    | split
    | dsimp only

theorem State.lockLost_keep (s : State) (l cond : Nat) {k0 : Nat} {z0 : State} (hk : Nat.land 0x2603fde5b08 k0 = 0x2603fde5b08) (hz : Keep k0 z0 s) : Keep k0 z0 (State.lockLost s l cond) := by
  refine Keep.step ?_ hk hz
  unfold State.lockLost
  repeat' first
    | with_reducible refine Keep.ite ?_ ?_
    | with_reducible apply State.raise_keep
    | with_reducible apply State.faultWarm_keep
    | with_reducible apply State.follow_keep
    | with_reducible apply Keep.bump
    | with_reducible exact Keep.refl _ _
    | with_reducible assumption
    | exact rfl
    | exact id
    | exact Or.inl rfl
    | exact Or.inr rfl
    | exact Or.inr (List.prefix_refl _)
    | exact Or.inr fun _ => rfl
    | exact Or.inr ⟨rfl, rfl, rfl⟩
    | exact Or.inr fun _ => ⟨rfl, rfl, rfl⟩
    | exact Or.inr fun _ => ⟨rfl, rfl⟩
    | split
    | dsimp only

theorem execSnrWindowEnd_keep (l snr : Nat) (s : State) {t : State} (h : execSnrWindowEnd l snr s = .next t) : Keep 0x2603fde5b08 s t := by
  unfold execSnrWindowEnd at h
  injection h with h
  subst h
  repeat' first
    | with_reducible refine Keep.ite ?_ ?_
    | intro u hu
    | with_reducible apply State.lockLost_keep
    | with_reducible apply Keep.modLrx
    | with_reducible exact Keep.refl _ _
    | with_reducible assumption
    | exact rfl
    | exact id
    | exact Or.inl rfl
    | exact Or.inr rfl
    | exact Or.inr (List.prefix_refl _)
    | exact Or.inr fun _ => rfl
    | exact Or.inr ⟨rfl, rfl, rfl⟩
    | exact Or.inr fun _ => ⟨rfl, rfl, rfl⟩
    | exact Or.inr fun _ => ⟨rfl, rfl⟩
    | split
    | dsimp only

theorem execTimingFrequencyOutOfRange_keep (l : Nat) (s : State) {t : State} (h : execTimingFrequencyOutOfRange l s = .next t) : Keep 0x2603fde5b08 s t := by
  unfold execTimingFrequencyOutOfRange at h
  injection h with h
  subst h
  repeat' first
    | with_reducible refine Keep.ite ?_ ?_
    | intro u hu
    | with_reducible apply State.lockLost_keep
    | with_reducible exact Keep.refl _ _
    | with_reducible assumption
    | exact rfl
    | exact id
    | exact Or.inl rfl
    | exact Or.inr rfl
    | exact Or.inr (List.prefix_refl _)
    | exact Or.inr fun _ => rfl
    | exact Or.inr ⟨rfl, rfl, rfl⟩
    | exact Or.inr fun _ => ⟨rfl, rfl, rfl⟩
    | exact Or.inr fun _ => ⟨rfl, rfl⟩
    | split
    | dsimp only

theorem State.moveSlice_keep (s : State) (l : Nat) (skew : Bool) (r : SliceResid) {k0 : Nat} {z0 : State} (hk : Nat.land 0x100000 k0 = 0x100000) (hz : Keep k0 z0 s) : Keep k0 z0 (State.moveSlice s l skew r) := by
  refine Keep.step ?_ hk hz
  unfold State.moveSlice
  repeat' first
    | with_reducible refine Keep.ite ?_ ?_
    | with_reducible apply Keep.modSlice
    | with_reducible exact Keep.refl _ _
    | with_reducible assumption
    | exact rfl
    | exact id
    | exact Or.inl rfl
    | exact Or.inr rfl
    | exact Or.inr (List.prefix_refl _)
    | exact Or.inr fun _ => rfl
    | exact Or.inr ⟨rfl, rfl, rfl⟩
    | exact Or.inr fun _ => ⟨rfl, rfl, rfl⟩
    | exact Or.inr fun _ => ⟨rfl, rfl⟩
    | split
    | dsimp only

theorem execBackgroundWindowEnd_keep (l : Nat) (rs : List SliceResid) (ups : List (Int × List Int)) (s : State) {t : State} (h : execBackgroundWindowEnd l rs ups s = .next t) : Keep 0x23603f9e5b08 s t := by
  unfold execBackgroundWindowEnd at h
  injection h with h
  subst h
  repeat' first
    | with_reducible refine Keep.ite ?_ ?_
    | with_reducible refine Keep.foldl _ ?_ ?_
    | intro u x hu
    | intro u hu
    | with_reducible apply State.moveSlice_keep
    | with_reducible apply State.adaptFfe_keep
    | with_reducible apply State.sliceFailed_keep
    | with_reducible apply State.follow_keep
    | with_reducible apply Keep.modLrx
    | with_reducible apply Keep.modSlice
    | with_reducible exact Keep.refl _ _
    | with_reducible assumption
    | exact rfl
    | exact id
    | exact Or.inl rfl
    | exact Or.inr rfl
    | exact Or.inr (List.prefix_refl _)
    | exact Or.inr fun _ => rfl
    | exact Or.inr ⟨rfl, rfl, rfl⟩
    | exact Or.inr fun _ => ⟨rfl, rfl, rfl⟩
    | exact Or.inr fun _ => ⟨rfl, rfl⟩
    | split
    | dsimp only

theorem State.arrange_keep (s : State) (l : Nat) {k0 : Nat} {z0 : State} (hk : Nat.land 0x100000 k0 = 0x100000) (hz : Keep k0 z0 s) : Keep k0 z0 (State.arrange s l) := by
  refine Keep.step ?_ hk hz
  unfold State.arrange
  repeat' first
    | with_reducible refine Keep.ite ?_ ?_
    | with_reducible refine Keep.foldl _ ?_ ?_
    | intro u x hu
    | intro u hu
    | with_reducible apply Keep.modSlice
    | with_reducible exact Keep.refl _ _
    | with_reducible assumption
    | exact rfl
    | exact id
    | exact Or.inl rfl
    | exact Or.inr rfl
    | exact Or.inr (List.prefix_refl _)
    | exact Or.inr fun _ => rfl
    | exact Or.inr ⟨rfl, rfl, rfl⟩
    | exact Or.inr fun _ => ⟨rfl, rfl, rfl⟩
    | exact Or.inr fun _ => ⟨rfl, rfl⟩
    | split
    | dsimp only

theorem State.checkSlices_keep (s : State) (p : Nat) {k0 : Nat} {z0 : State} (hk : Nat.land 0x2c1e0300 k0 = 0x2c1e0300) (hz : Keep k0 z0 s) : Keep k0 z0 (State.checkSlices s p) := by
  refine Keep.step ?_ hk hz
  unfold State.checkSlices
  repeat' first
    | with_reducible refine Keep.ite ?_ ?_
    | with_reducible refine Keep.foldl _ ?_ ?_
    | intro u x hu
    | intro u hu
    | with_reducible apply State.arrange_keep
    | with_reducible apply State.lineFault_keep
    | with_reducible apply Keep.modLine
    | with_reducible exact Keep.refl _ _
    | with_reducible assumption
    | exact rfl
    | exact id
    | exact Or.inl rfl
    | exact Or.inr rfl
    | exact Or.inr (List.prefix_refl _)
    | exact Or.inr fun _ => rfl
    | exact Or.inr ⟨rfl, rfl, rfl⟩
    | exact Or.inr fun _ => ⟨rfl, rfl, rfl⟩
    | exact Or.inr fun _ => ⟨rfl, rfl⟩
    | split
    | dsimp only

theorem execCaptureStartCondition_keep (s : State) {t : State} (h : execCaptureStartCondition s = .next t) : Keep 0x200000000000 s t := by
  unfold execCaptureStartCondition at h
  injection h with h
  subst h
  try simp -zeta only [State.fold_cap]
  repeat' first
    | with_reducible refine Keep.ite ?_ ?_
    | intro u hu
    | with_reducible apply Keep.set_cap
    | with_reducible exact Keep.refl _ _
    | with_reducible assumption
    | exact rfl
    | exact id
    | exact Or.inl rfl
    | exact Or.inr rfl
    | exact Or.inr (List.prefix_refl _)
    | exact Or.inr fun _ => rfl
    | exact Or.inr ⟨rfl, rfl, rfl⟩
    | exact Or.inr fun _ => ⟨rfl, rfl, rfl⟩
    | exact Or.inr fun _ => ⟨rfl, rfl⟩
    | split
    | dsimp only

theorem execCaptureSegmentStart_keep (s : State) {t : State} (h : execCaptureSegmentStart s = .next t) : Keep 0x200000000000 s t := by
  unfold execCaptureSegmentStart at h
  injection h with h
  subst h
  try simp -zeta only [State.fold_cap]
  repeat' first
    | with_reducible refine Keep.ite ?_ ?_
    | intro u hu
    | with_reducible apply Keep.set_cap
    | with_reducible exact Keep.refl _ _
    | with_reducible assumption
    | exact rfl
    | exact id
    | exact Or.inl rfl
    | exact Or.inr rfl
    | exact Or.inr (List.prefix_refl _)
    | exact Or.inr fun _ => rfl
    | exact Or.inr ⟨rfl, rfl, rfl⟩
    | exact Or.inr fun _ => ⟨rfl, rfl, rfl⟩
    | exact Or.inr fun _ => ⟨rfl, rfl⟩
    | split
    | dsimp only

theorem execCaptureSegmentDrained_keep (samples : List Byte) (clips : Nat) (ecc : List SramRead) (s : State) {t : State} (h : execCaptureSegmentDrained samples clips ecc s = .next t) : Keep 0x230f80221b82 s t := by
  unfold execCaptureSegmentDrained at h
  injection h with h
  subst h
  try simp -zeta only [State.fold_cap]
  repeat' first
    | with_reducible refine Keep.ite ?_ ?_
    | intro u hu
    | with_reducible apply State.sramReads_keep
    | with_reducible apply State.memPut_keep
    | with_reducible apply State.finishOpt_keep
    | with_reducible apply State.raise_keep
    | with_reducible apply Keep.set_cap
    | with_reducible exact Keep.refl _ _
    | with_reducible assumption
    | exact rfl
    | exact id
    | exact Or.inl rfl
    | exact Or.inr rfl
    | exact Or.inr (List.prefix_refl _)
    | exact Or.inr fun _ => rfl
    | exact Or.inr ⟨rfl, rfl, rfl⟩
    | exact Or.inr fun _ => ⟨rfl, rfl, rfl⟩
    | exact Or.inr fun _ => ⟨rfl, rfl⟩
    | split
    | dsimp only

theorem State.captureEnd_keep (s : State) (detail : Nat) {k0 : Nat} {z0 : State} (hk : Nat.land 0x220000001b80 k0 = 0x220000001b80) (hz : Keep k0 z0 s) : Keep k0 z0 (State.captureEnd s detail) := by
  refine Keep.step ?_ hk hz
  unfold State.captureEnd
  try simp -zeta only [State.fold_cap]
  repeat' first
    | with_reducible refine Keep.ite ?_ ?_
    | with_reducible apply State.finishOpt_keep
    | with_reducible apply Keep.set_cap
    | with_reducible exact Keep.refl _ _
    | with_reducible assumption
    | exact rfl
    | exact id
    | exact Or.inl rfl
    | exact Or.inr rfl
    | exact Or.inr (List.prefix_refl _)
    | exact Or.inr fun _ => rfl
    | exact Or.inr ⟨rfl, rfl, rfl⟩
    | exact Or.inr fun _ => ⟨rfl, rfl, rfl⟩
    | exact Or.inr fun _ => ⟨rfl, rfl⟩
    | split
    | dsimp only

theorem procGetLrxCfg_keep  (a : Sentence) (s : State) {k0 : Nat} {z0 : State} (hk : Nat.land 0x420000001b80 k0 = 0x420000001b80) (hz : Keep k0 z0 s) : Keep k0 z0 (procGetLrxCfg  a s) := by
  refine Keep.step ?_ hk hz
  unfold procGetLrxCfg
  refine process_keep _ _ _ _ _ _ 0x0 (fun u ws => ?_) rfl rfl rfl (Keep.refl _ _)
  repeat' first
    | exact getAct_keep ..

theorem execGetLrxCfg_keep (m : Sentence) (s : State) {t : State} (h : execGetLrxCfg m s = .next t) : Keep 0x420000001b80 s t := by
  unfold execGetLrxCfg at h
  injection h with h
  subst h
  repeat' first
    | with_reducible refine Keep.ite ?_ ?_
    | intro u hu
    | with_reducible apply submit_keep
    | with_reducible apply procGetLrxCfg_keep
    | with_reducible exact Keep.refl _ _
    | with_reducible assumption
    | exact rfl
    | exact id
    | exact Or.inl rfl
    | exact Or.inr rfl
    | exact Or.inr (List.prefix_refl _)
    | exact Or.inr fun _ => rfl
    | exact Or.inr ⟨rfl, rfl, rfl⟩
    | exact Or.inr fun _ => ⟨rfl, rfl, rfl⟩
    | exact Or.inr fun _ => ⟨rfl, rfl⟩
    | split
    | dsimp only

theorem State.setGain_keep (s : State) (l : Nat) {k0 : Nat} {z0 : State} (hk : Nat.land 0x180000 k0 = 0x180000) (hz : Keep k0 z0 s) : Keep k0 z0 (State.setGain s l) := by
  refine Keep.step ?_ hk hz
  unfold State.setGain
  repeat' first
    | with_reducible refine Keep.ite ?_ ?_
    | with_reducible apply Keep.modLrx
    | with_reducible exact Keep.refl _ _
    | with_reducible assumption
    | exact rfl
    | exact id
    | exact Or.inl rfl
    | exact Or.inr rfl
    | exact Or.inr (List.prefix_refl _)
    | exact Or.inr fun _ => rfl
    | exact Or.inr ⟨rfl, rfl, rfl⟩
    | exact Or.inr fun _ => ⟨rfl, rfl, rfl⟩
    | exact Or.inr fun _ => ⟨rfl, rfl⟩
    | split
    | dsimp only

theorem procSetLrxCfg_keep  (a : Sentence) (s : State) {k0 : Nat} {z0 : State} (hk : Nat.land 0x42601b995b88 k0 = 0x42601b995b88) (hz : Keep k0 z0 s) : Keep k0 z0 (procSetLrxCfg  a s) := by
  refine Keep.step ?_ hk hz
  unfold procSetLrxCfg
  refine process_keep _ _ _ _ _ _ 0x2601b995b08 (fun u ws => ?_) rfl rfl rfl (Keep.refl _ _)
  repeat' first
    | with_reducible refine Keep.ite ?_ ?_
    | intro u hu
    | with_reducible apply setAct_keep
    | with_reducible apply State.setGain_keep
    | with_reducible apply State.follow_keep
    | with_reducible exact Keep.refl _ _
    | with_reducible assumption
    | exact rfl
    | exact id
    | exact Or.inl rfl
    | exact Or.inr rfl
    | exact Or.inr (List.prefix_refl _)
    | exact Or.inr fun _ => rfl
    | exact Or.inr ⟨rfl, rfl, rfl⟩
    | exact Or.inr fun _ => ⟨rfl, rfl, rfl⟩
    | exact Or.inr fun _ => ⟨rfl, rfl⟩
    | split
    | dsimp only

theorem execSetLrxCfg_keep (m : Sentence) (s : State) {t : State} (h : execSetLrxCfg m s = .next t) : Keep 0x42601b995b88 s t := by
  unfold execSetLrxCfg at h
  injection h with h
  subst h
  repeat' first
    | with_reducible refine Keep.ite ?_ ?_
    | intro u hu
    | with_reducible apply submit_keep
    | with_reducible apply procSetLrxCfg_keep
    | with_reducible exact Keep.refl _ _
    | with_reducible assumption
    | exact rfl
    | exact id
    | exact Or.inl rfl
    | exact Or.inr rfl
    | exact Or.inr (List.prefix_refl _)
    | exact Or.inr fun _ => rfl
    | exact Or.inr ⟨rfl, rfl, rfl⟩
    | exact Or.inr fun _ => ⟨rfl, rfl, rfl⟩
    | exact Or.inr fun _ => ⟨rfl, rfl⟩
    | split
    | dsimp only

theorem procGetLrxStatus_keep  (a : Sentence) (s : State) {k0 : Nat} {z0 : State} (hk : Nat.land 0x420000001b80 k0 = 0x420000001b80) (hz : Keep k0 z0 s) : Keep k0 z0 (procGetLrxStatus  a s) := by
  refine Keep.step ?_ hk hz
  unfold procGetLrxStatus
  refine process_keep _ _ _ _ _ _ 0x0 (fun u ws => ?_) rfl rfl rfl (Keep.refl _ _)
  repeat' first
    | exact getAct_keep ..

theorem execGetLrxStatus_keep (m : Sentence) (s : State) {t : State} (h : execGetLrxStatus m s = .next t) : Keep 0x420000001b80 s t := by
  unfold execGetLrxStatus at h
  injection h with h
  subst h
  repeat' first
    | with_reducible refine Keep.ite ?_ ?_
    | intro u hu
    | with_reducible apply submit_keep
    | with_reducible apply procGetLrxStatus_keep
    | with_reducible exact Keep.refl _ _
    | with_reducible assumption
    | exact rfl
    | exact id
    | exact Or.inl rfl
    | exact Or.inr rfl
    | exact Or.inr (List.prefix_refl _)
    | exact Or.inr fun _ => rfl
    | exact Or.inr ⟨rfl, rfl, rfl⟩
    | exact Or.inr fun _ => ⟨rfl, rfl, rfl⟩
    | exact Or.inr fun _ => ⟨rfl, rfl⟩
    | split
    | dsimp only

theorem procGetLrxQuality_keep  (a : Sentence) (s : State) {k0 : Nat} {z0 : State} (hk : Nat.land 0x420000001b80 k0 = 0x420000001b80) (hz : Keep k0 z0 s) : Keep k0 z0 (procGetLrxQuality  a s) := by
  refine Keep.step ?_ hk hz
  unfold procGetLrxQuality
  refine process_keep _ _ _ _ _ _ 0x0 (fun u ws => ?_) rfl rfl rfl (Keep.refl _ _)
  repeat' first
    | exact getAct_keep ..

theorem execGetLrxQuality_keep (m : Sentence) (s : State) {t : State} (h : execGetLrxQuality m s = .next t) : Keep 0x420000001b80 s t := by
  unfold execGetLrxQuality at h
  injection h with h
  subst h
  repeat' first
    | with_reducible refine Keep.ite ?_ ?_
    | intro u hu
    | with_reducible apply submit_keep
    | with_reducible apply procGetLrxQuality_keep
    | with_reducible exact Keep.refl _ _
    | with_reducible assumption
    | exact rfl
    | exact id
    | exact Or.inl rfl
    | exact Or.inr rfl
    | exact Or.inr (List.prefix_refl _)
    | exact Or.inr fun _ => rfl
    | exact Or.inr ⟨rfl, rfl, rfl⟩
    | exact Or.inr fun _ => ⟨rfl, rfl, rfl⟩
    | exact Or.inr fun _ => ⟨rfl, rfl⟩
    | split
    | dsimp only

theorem procGetLrxEstimate_keep  (a : Sentence) (s : State) {k0 : Nat} {z0 : State} (hk : Nat.land 0x420000001b80 k0 = 0x420000001b80) (hz : Keep k0 z0 s) : Keep k0 z0 (procGetLrxEstimate  a s) := by
  refine Keep.step ?_ hk hz
  unfold procGetLrxEstimate
  refine process_keep _ _ _ _ _ _ 0x0 (fun u ws => ?_) rfl rfl rfl (Keep.refl _ _)
  repeat' first
    | exact getAct_keep ..

theorem execGetLrxEstimate_keep (m : Sentence) (s : State) {t : State} (h : execGetLrxEstimate m s = .next t) : Keep 0x420000001b80 s t := by
  unfold execGetLrxEstimate at h
  injection h with h
  subst h
  repeat' first
    | with_reducible refine Keep.ite ?_ ?_
    | intro u hu
    | with_reducible apply submit_keep
    | with_reducible apply procGetLrxEstimate_keep
    | with_reducible exact Keep.refl _ _
    | with_reducible assumption
    | exact rfl
    | exact id
    | exact Or.inl rfl
    | exact Or.inr rfl
    | exact Or.inr (List.prefix_refl _)
    | exact Or.inr fun _ => rfl
    | exact Or.inr ⟨rfl, rfl, rfl⟩
    | exact Or.inr fun _ => ⟨rfl, rfl, rfl⟩
    | exact Or.inr fun _ => ⟨rfl, rfl⟩
    | split
    | dsimp only

theorem procGetLrxSlices_keep  (a : Sentence) (s : State) {k0 : Nat} {z0 : State} (hk : Nat.land 0x420000001b80 k0 = 0x420000001b80) (hz : Keep k0 z0 s) : Keep k0 z0 (procGetLrxSlices  a s) := by
  refine Keep.step ?_ hk hz
  unfold procGetLrxSlices
  refine process_keep _ _ _ _ _ _ 0x0 (fun u ws => ?_) rfl rfl rfl (Keep.refl _ _)
  repeat' first
    | exact getAct_keep ..

theorem execGetLrxSlices_keep (m : Sentence) (s : State) {t : State} (h : execGetLrxSlices m s = .next t) : Keep 0x420000001b80 s t := by
  unfold execGetLrxSlices at h
  injection h with h
  subst h
  repeat' first
    | with_reducible refine Keep.ite ?_ ?_
    | intro u hu
    | with_reducible apply submit_keep
    | with_reducible apply procGetLrxSlices_keep
    | with_reducible exact Keep.refl _ _
    | with_reducible assumption
    | exact rfl
    | exact id
    | exact Or.inl rfl
    | exact Or.inr rfl
    | exact Or.inr (List.prefix_refl _)
    | exact Or.inr fun _ => rfl
    | exact Or.inr ⟨rfl, rfl, rfl⟩
    | exact Or.inr fun _ => ⟨rfl, rfl, rfl⟩
    | exact Or.inr fun _ => ⟨rfl, rfl⟩
    | split
    | dsimp only

theorem State.restartAcq_keep (s : State) (l : Nat) (cold : Bool) {k0 : Nat} {z0 : State} (hk : Nat.land 0x2c5e0300 k0 = 0x2c5e0300) (hz : Keep k0 z0 s) : Keep k0 z0 (State.restartAcq s l cold) := by
  refine Keep.step ?_ hk hz
  unfold State.restartAcq
  repeat' first
    | with_reducible refine Keep.ite ?_ ?_
    | with_reducible apply State.lockEnd_keep
    | with_reducible apply State.acquire_keep
    | with_reducible apply State.portFail_keep
    | with_reducible apply Keep.modLine
    | with_reducible exact Keep.refl _ _
    | with_reducible assumption
    | exact rfl
    | exact id
    | exact Or.inl rfl
    | exact Or.inr rfl
    | exact Or.inr (List.prefix_refl _)
    | exact Or.inr fun _ => rfl
    | exact Or.inr ⟨rfl, rfl, rfl⟩
    | exact Or.inr fun _ => ⟨rfl, rfl, rfl⟩
    | exact Or.inr fun _ => ⟨rfl, rfl⟩
    | split
    | dsimp only

theorem procRestartLrxAcq_keep  (a : Sentence) (s : State) {k0 : Nat} {z0 : State} (hk : Nat.land 0x42603fde5b88 k0 = 0x42603fde5b88) (hz : Keep k0 z0 s) : Keep k0 z0 (procRestartLrxAcq  a s) := by
  refine Keep.step ?_ hk hz
  unfold procRestartLrxAcq
  refine process_keep _ _ _ _ _ _ 0x2603fde5b08 (fun u ws => ?_) rfl rfl rfl (Keep.refl _ _)
  repeat' first
    | with_reducible refine Keep.ite ?_ ?_
    | intro u hu
    | with_reducible apply State.restartAcq_keep
    | with_reducible apply State.follow_keep
    | with_reducible exact Keep.refl _ _
    | with_reducible assumption
    | exact rfl
    | exact id
    | exact Or.inl rfl
    | exact Or.inr rfl
    | exact Or.inr (List.prefix_refl _)
    | exact Or.inr fun _ => rfl
    | exact Or.inr ⟨rfl, rfl, rfl⟩
    | exact Or.inr fun _ => ⟨rfl, rfl, rfl⟩
    | exact Or.inr fun _ => ⟨rfl, rfl⟩
    | split
    | dsimp only

theorem execRestartLrxAcq_keep (m : Sentence) (s : State) {t : State} (h : execRestartLrxAcq m s = .next t) : Keep 0x42603fde5b88 s t := by
  unfold execRestartLrxAcq at h
  injection h with h
  subst h
  repeat' first
    | with_reducible refine Keep.ite ?_ ?_
    | intro u hu
    | with_reducible apply submit_keep
    | with_reducible apply procRestartLrxAcq_keep
    | with_reducible exact Keep.refl _ _
    | with_reducible assumption
    | exact rfl
    | exact id
    | exact Or.inl rfl
    | exact Or.inr rfl
    | exact Or.inr (List.prefix_refl _)
    | exact Or.inr fun _ => rfl
    | exact Or.inr ⟨rfl, rfl, rfl⟩
    | exact Or.inr fun _ => ⟨rfl, rfl, rfl⟩
    | exact Or.inr fun _ => ⟨rfl, rfl⟩
    | split
    | dsimp only

theorem procCaptureLrxCapture_keep  (a : Sentence) (s : State) {k0 : Nat} {z0 : State} (hk : Nat.land 0x620000001b80 k0 = 0x620000001b80) (hz : Keep k0 z0 s) : Keep k0 z0 (procCaptureLrxCapture  a s) := by
  refine Keep.step ?_ hk hz
  unfold procCaptureLrxCapture
  try simp -zeta only [State.fold_cap]
  refine process_keep _ _ _ _ _ _ 0x200000000000 (fun u ws => ?_) rfl rfl rfl (Keep.refl _ _)
  repeat' first
    | with_reducible refine Keep.ite ?_ ?_
    | intro u hu
    | with_reducible apply Keep.set_cap
    | with_reducible exact Keep.refl _ _
    | with_reducible assumption
    | exact rfl
    | exact id
    | exact Or.inl rfl
    | exact Or.inr rfl
    | exact Or.inr (List.prefix_refl _)
    | exact Or.inr fun _ => rfl
    | exact Or.inr ⟨rfl, rfl, rfl⟩
    | exact Or.inr fun _ => ⟨rfl, rfl, rfl⟩
    | exact Or.inr fun _ => ⟨rfl, rfl⟩
    | split
    | dsimp only

theorem execCaptureLrxCapture_keep (m : Sentence) (s : State) {t : State} (h : execCaptureLrxCapture m s = .next t) : Keep 0x620000001b80 s t := by
  unfold execCaptureLrxCapture at h
  injection h with h
  subst h
  repeat' first
    | with_reducible refine Keep.ite ?_ ?_
    | intro u hu
    | with_reducible apply submit_keep
    | with_reducible apply procCaptureLrxCapture_keep
    | with_reducible exact Keep.refl _ _
    | with_reducible assumption
    | exact rfl
    | exact id
    | exact Or.inl rfl
    | exact Or.inr rfl
    | exact Or.inr (List.prefix_refl _)
    | exact Or.inr fun _ => rfl
    | exact Or.inr ⟨rfl, rfl, rfl⟩
    | exact Or.inr fun _ => ⟨rfl, rfl, rfl⟩
    | exact Or.inr fun _ => ⟨rfl, rfl⟩
    | split
    | dsimp only

theorem procAbortLrxCapture_keep  (a : Sentence) (s : State) {k0 : Nat} {z0 : State} (hk : Nat.land 0x62601b905b88 k0 = 0x62601b905b88) (hz : Keep k0 z0 s) : Keep k0 z0 (procAbortLrxCapture  a s) := by
  refine Keep.step ?_ hk hz
  unfold procAbortLrxCapture
  refine process_keep _ _ _ _ _ _ 0x22601b905b88 (fun u ws => ?_) rfl rfl rfl (Keep.refl _ _)
  repeat' first
    | with_reducible refine Keep.ite ?_ ?_
    | intro u hu
    | with_reducible apply State.captureEnd_keep
    | with_reducible apply State.follow_keep
    | with_reducible exact Keep.refl _ _
    | with_reducible assumption
    | exact rfl
    | exact id
    | exact Or.inl rfl
    | exact Or.inr rfl
    | exact Or.inr (List.prefix_refl _)
    | exact Or.inr fun _ => rfl
    | exact Or.inr ⟨rfl, rfl, rfl⟩
    | exact Or.inr fun _ => ⟨rfl, rfl, rfl⟩
    | exact Or.inr fun _ => ⟨rfl, rfl⟩
    | split
    | dsimp only

theorem execAbortLrxCapture_keep (m : Sentence) (s : State) {t : State} (h : execAbortLrxCapture m s = .next t) : Keep 0x62601b905b88 s t := by
  unfold execAbortLrxCapture at h
  injection h with h
  subst h
  repeat' first
    | with_reducible refine Keep.ite ?_ ?_
    | intro u hu
    | with_reducible apply submit_keep
    | with_reducible apply procAbortLrxCapture_keep
    | with_reducible exact Keep.refl _ _
    | with_reducible assumption
    | exact rfl
    | exact id
    | exact Or.inl rfl
    | exact Or.inr rfl
    | exact Or.inr (List.prefix_refl _)
    | exact Or.inr fun _ => rfl
    | exact Or.inr ⟨rfl, rfl, rfl⟩
    | exact Or.inr fun _ => ⟨rfl, rfl, rfl⟩
    | exact Or.inr fun _ => ⟨rfl, rfl⟩
    | split
    | dsimp only

theorem execHslSignalDetect_keep (h : Nat) (s : State) {t : State} (h : execHslSignalDetect h s = .next t) : Keep 0x2601f925b08 s t := by
  unfold execHslSignalDetect at h
  injection h with h
  subst h
  repeat' first
    | with_reducible refine Keep.ite ?_ ?_
    | intro u hu
    | with_reducible apply State.hostAcquire_keep
    | with_reducible apply State.follow_keep
    | with_reducible apply Keep.modHost
    | with_reducible exact Keep.refl _ _
    | with_reducible assumption
    | exact rfl
    | exact id
    | exact Or.inl rfl
    | exact Or.inr rfl
    | exact Or.inr (List.prefix_refl _)
    | exact Or.inr fun _ => rfl
    | exact Or.inr ⟨rfl, rfl, rfl⟩
    | exact Or.inr fun _ => ⟨rfl, rfl, rfl⟩
    | exact Or.inr fun _ => ⟨rfl, rfl⟩
    | split
    | dsimp only

theorem execHslClockRecoveryLocked_keep (h : Nat) (s : State) (freq : Int) {t : State} (h : execHslClockRecoveryLocked h s freq = .next t) : Keep 0x2601f905b08 s t := by
  unfold execHslClockRecoveryLocked at h
  injection h with h
  subst h
  repeat' first
    | with_reducible refine Keep.ite ?_ ?_
    | intro u hu
    | with_reducible apply State.follow_keep
    | with_reducible apply Keep.modHost
    | with_reducible exact Keep.refl _ _
    | with_reducible assumption
    | exact rfl
    | exact id
    | exact Or.inl rfl
    | exact Or.inr rfl
    | exact Or.inr (List.prefix_refl _)
    | exact Or.inr fun _ => rfl
    | exact Or.inr ⟨rfl, rfl, rfl⟩
    | exact Or.inr fun _ => ⟨rfl, rfl, rfl⟩
    | exact Or.inr fun _ => ⟨rfl, rfl⟩
    | split
    | dsimp only

theorem State.askTap_keep (s : State) (h tap trying : Nat) {k0 : Nat} {z0 : State} (hk : Nat.land 0xc020000 k0 = 0xc020000) (hz : Keep k0 z0 s) : Keep k0 z0 (State.askTap s h tap trying) := by
  refine Keep.step ?_ hk hz
  unfold State.askTap
  repeat' first
    | with_reducible refine Keep.ite ?_ ?_
    | with_reducible apply Keep.modHost
    | with_reducible apply Keep.bump
    | with_reducible exact Keep.refl _ _
    | with_reducible assumption
    | exact rfl
    | exact id
    | exact Or.inl rfl
    | exact Or.inr rfl
    | exact Or.inr (List.prefix_refl _)
    | exact Or.inr fun _ => rfl
    | exact Or.inr ⟨rfl, rfl, rfl⟩
    | exact Or.inr fun _ => ⟨rfl, rfl, rfl⟩
    | exact Or.inr fun _ => ⟨rfl, rfl⟩
    | split
    | dsimp only

theorem State.nextTap_keep (s : State) (h : Nat) {k0 : Nat} {z0 : State} (hk : Nat.land 0xc020000 k0 = 0xc020000) (hz : Keep k0 z0 s) : Keep k0 z0 (State.nextTap s h) := by
  refine Keep.step ?_ hk hz
  unfold State.nextTap
  repeat' first
    | with_reducible refine Keep.ite ?_ ?_
    | with_reducible apply State.askTap_keep
    | with_reducible apply Keep.modHost
    | with_reducible exact Keep.refl _ _
    | with_reducible assumption
    | exact rfl
    | exact id
    | exact Or.inl rfl
    | exact Or.inr rfl
    | exact Or.inr (List.prefix_refl _)
    | exact Or.inr fun _ => rfl
    | exact Or.inr ⟨rfl, rfl, rfl⟩
    | exact Or.inr fun _ => ⟨rfl, rfl, rfl⟩
    | exact Or.inr fun _ => ⟨rfl, rfl⟩
    | split
    | dsimp only

theorem execTrainingFrameLock_keep (h : Nat) (inverted : Bool) (s : State) {t : State} (h : execTrainingFrameLock h inverted s = .next t) : Keep 0x2601f925b08 s t := by
  unfold execTrainingFrameLock at h
  injection h with h
  subst h
  repeat' first
    | with_reducible refine Keep.ite ?_ ?_
    | intro u hu
    | with_reducible apply State.askTap_keep
    | with_reducible apply State.follow_keep
    | with_reducible apply Keep.modHost
    | with_reducible apply Keep.bump
    | with_reducible exact Keep.refl _ _
    | with_reducible assumption
    | exact rfl
    | exact id
    | exact Or.inl rfl
    | exact Or.inr rfl
    | exact Or.inr (List.prefix_refl _)
    | exact Or.inr fun _ => rfl
    | exact Or.inr ⟨rfl, rfl, rfl⟩
    | exact Or.inr fun _ => ⟨rfl, rfl, rfl⟩
    | exact Or.inr fun _ => ⟨rfl, rfl⟩
    | split
    | dsimp only

theorem State.fallBack_keep (s : State) (h : Nat) {k0 : Nat} {z0 : State} (hk : Nat.land 0xc020000 k0 = 0xc020000) (hz : Keep k0 z0 s) : Keep k0 z0 (State.fallBack s h) := by
  refine Keep.step ?_ hk hz
  unfold State.fallBack
  repeat' first
    | with_reducible refine Keep.ite ?_ ?_
    | with_reducible apply Keep.modHost
    | with_reducible apply Keep.bump
    | with_reducible exact Keep.refl _ _
    | with_reducible assumption
    | exact rfl
    | exact id
    | exact Or.inl rfl
    | exact Or.inr rfl
    | exact Or.inr (List.prefix_refl _)
    | exact Or.inr fun _ => rfl
    | exact Or.inr ⟨rfl, rfl, rfl⟩
    | exact Or.inr fun _ => ⟨rfl, rfl, rfl⟩
    | exact Or.inr fun _ => ⟨rfl, rfl⟩
    | split
    | dsimp only

theorem execTrainingWaitExpiry_keep (h : Nat) (s : State) {t : State} (h : execTrainingWaitExpiry h s = .next t) : Keep 0x2601f925b08 s t := by
  unfold execTrainingWaitExpiry at h
  injection h with h
  subst h
  repeat' first
    | with_reducible refine Keep.ite ?_ ?_
    | intro u hu
    | with_reducible apply State.fallBack_keep
    | with_reducible apply State.follow_keep
    | with_reducible exact Keep.refl _ _
    | with_reducible assumption
    | exact rfl
    | exact id
    | exact Or.inl rfl
    | exact Or.inr rfl
    | exact Or.inr (List.prefix_refl _)
    | exact Or.inr fun _ => rfl
    | exact Or.inr ⟨rfl, rfl, rfl⟩
    | exact Or.inr fun _ => ⟨rfl, rfl, rfl⟩
    | exact Or.inr fun _ => ⟨rfl, rfl⟩
    | split
    | dsimp only

theorem execTrainingMeasurementDone_keep (h : Nat) (snr : Int) (atLimit : Bool) (s : State) {t : State} (h : execTrainingMeasurementDone h snr atLimit s = .next t) : Keep 0xc020000 s t := by
  unfold execTrainingMeasurementDone at h
  injection h with h
  subst h
  repeat' first
    | with_reducible refine Keep.ite ?_ ?_
    | intro u hu
    | with_reducible apply State.askTap_keep
    | with_reducible apply State.nextTap_keep
    | with_reducible apply Keep.bump
    | with_reducible apply Keep.modHost
    | with_reducible exact Keep.refl _ _
    | with_reducible assumption
    | exact rfl
    | exact id
    | exact Or.inl rfl
    | exact Or.inr rfl
    | exact Or.inr (List.prefix_refl _)
    | exact Or.inr fun _ => rfl
    | exact Or.inr ⟨rfl, rfl, rfl⟩
    | exact Or.inr fun _ => ⟨rfl, rfl, rfl⟩
    | exact Or.inr fun _ => ⟨rfl, rfl⟩
    | split
    | dsimp only

theorem execPartnerRequest_keep (h : Nat) (q : PartnerReq) (s : State) {t : State} (h : execPartnerRequest h q s = .next t) : Keep 0xc000000 s t := by
  unfold execPartnerRequest at h
  injection h with h
  subst h
  repeat' first
    | with_reducible refine Keep.ite ?_ ?_
    | intro u hu
    | with_reducible apply Keep.modHost
    | with_reducible exact Keep.refl _ _
    | with_reducible assumption
    | exact rfl
    | exact id
    | exact Or.inl rfl
    | exact Or.inr rfl
    | exact Or.inr (List.prefix_refl _)
    | exact Or.inr fun _ => rfl
    | exact Or.inr ⟨rfl, rfl, rfl⟩
    | exact Or.inr fun _ => ⟨rfl, rfl, rfl⟩
    | exact Or.inr fun _ => ⟨rfl, rfl⟩
    | split
    | dsimp only

theorem execTrainingComplete_keep (h : Nat) (s : State) {t : State} (h : execTrainingComplete h s = .next t) : Keep 0x2601f905b0a s t := by
  unfold execTrainingComplete at h
  injection h with h
  subst h
  repeat' first
    | with_reducible refine Keep.ite ?_ ?_
    | intro u hu
    | with_reducible apply State.raise_keep
    | with_reducible apply State.follow_keep
    | with_reducible apply State.freeNext_keep
    | with_reducible apply Keep.modHost
    | with_reducible exact Keep.refl _ _
    | with_reducible assumption
    | exact rfl
    | exact id
    | exact Or.inl rfl
    | exact Or.inr rfl
    | exact Or.inr (List.prefix_refl _)
    | exact Or.inr fun _ => rfl
    | exact Or.inr ⟨rfl, rfl, rfl⟩
    | exact Or.inr fun _ => ⟨rfl, rfl, rfl⟩
    | exact Or.inr fun _ => ⟨rfl, rfl⟩
    | split
    | dsimp only

theorem execTrainingTimeout_keep (h : Nat) (s : State) {t : State} (h : execTrainingTimeout h s = .next t) : Keep 0x2601f925b08 s t := by
  unfold execTrainingTimeout at h
  injection h with h
  subst h
  repeat' first
    | with_reducible refine Keep.ite ?_ ?_
    | intro u hu
    | with_reducible apply State.fallBack_keep
    | with_reducible apply State.follow_keep
    | with_reducible apply Keep.modHost
    | with_reducible apply Keep.bump
    | with_reducible exact Keep.refl _ _
    | with_reducible assumption
    | exact rfl
    | exact id
    | exact Or.inl rfl
    | exact Or.inr rfl
    | exact Or.inr (List.prefix_refl _)
    | exact Or.inr fun _ => rfl
    | exact Or.inr ⟨rfl, rfl, rfl⟩
    | exact Or.inr fun _ => ⟨rfl, rfl, rfl⟩
    | exact Or.inr fun _ => ⟨rfl, rfl⟩
    | split
    | dsimp only

theorem execHslEqualisationConverged_keep (h : Nat) (snrs : List Int) (s : State) (ffe : List Int) (dfe : Int) {t : State} (h : execHslEqualisationConverged h snrs s ffe dfe = .next t) : Keep 0x2601f905b08 s t := by
  unfold execHslEqualisationConverged at h
  injection h with h
  subst h
  repeat' first
    | with_reducible refine Keep.ite ?_ ?_
    | intro u hu
    | with_reducible apply State.follow_keep
    | with_reducible apply Keep.modHost
    | with_reducible exact Keep.refl _ _
    | with_reducible assumption
    | exact rfl
    | exact id
    | exact Or.inl rfl
    | exact Or.inr rfl
    | exact Or.inr (List.prefix_refl _)
    | exact Or.inr fun _ => rfl
    | exact Or.inr ⟨rfl, rfl, rfl⟩
    | exact Or.inr fun _ => ⟨rfl, rfl, rfl⟩
    | exact Or.inr fun _ => ⟨rfl, rfl⟩
    | split
    | dsimp only

theorem State.judgeGroup_keep (s : State) (g p : Nat) {k0 : Nat} {z0 : State} (hk : Nat.land 0x373bfbedb8a k0 = 0x373bfbedb8a) (hz : Keep k0 z0 s) : Keep k0 z0 (State.judgeGroup s g p) := by
  refine Keep.step ?_ hk hz
  unfold State.judgeGroup
  repeat' first
    | with_reducible refine Keep.ite ?_ ?_
    | with_reducible apply State.verdict_keep
    | with_reducible apply State.raise_keep
    | with_reducible apply Keep.modGroup
    | with_reducible exact Keep.refl _ _
    | with_reducible assumption
    | exact rfl
    | exact id
    | exact Or.inl rfl
    | exact Or.inr rfl
    | exact Or.inr (List.prefix_refl _)
    | exact Or.inr fun _ => rfl
    | exact Or.inr ⟨rfl, rfl, rfl⟩
    | exact Or.inr fun _ => ⟨rfl, rfl, rfl⟩
    | exact Or.inr fun _ => ⟨rfl, rfl⟩
    | split
    | dsimp only

theorem State.hostTryUp_keep (s : State) (h : Nat) {k0 : Nat} {z0 : State} (hk : Nat.land 0x373bfbedb8a k0 = 0x373bfbedb8a) (hz : Keep k0 z0 s) : Keep k0 z0 (State.hostTryUp s h) := by
  refine Keep.step ?_ hk hz
  unfold State.hostTryUp
  repeat' first
    | with_reducible refine Keep.ite ?_ ?_
    | with_reducible apply State.verdict_keep
    | with_reducible apply State.raise_keep
    | with_reducible apply Keep.modHost
    | with_reducible exact Keep.refl _ _
    | with_reducible assumption
    | exact rfl
    | exact id
    | exact Or.inl rfl
    | exact Or.inr rfl
    | exact Or.inr (List.prefix_refl _)
    | exact Or.inr fun _ => rfl
    | exact Or.inr ⟨rfl, rfl, rfl⟩
    | exact Or.inr fun _ => ⟨rfl, rfl, rfl⟩
    | exact Or.inr fun _ => ⟨rfl, rfl⟩
    | split
    | dsimp only

theorem execMarkerHuntDone_keep (h : Nat) (inverted : Bool) (res : HuntResult) (skew : Int) (s : State) {t : State} (h : execMarkerHuntDone h inverted res skew s = .next t) : Keep 0x373bfbedb8a s t := by
  unfold execMarkerHuntDone at h
  injection h with h
  subst h
  repeat' first
    | with_reducible refine Keep.ite ?_ ?_
    | with_reducible refine Keep.foldl _ ?_ ?_
    | intro u x hu
    | intro u hu
    | with_reducible apply State.judgeGroup_keep
    | with_reducible apply State.hostTryUp_keep
    | with_reducible apply State.portsCheck_keep
    | with_reducible apply State.follow_keep
    | with_reducible apply Keep.modHost
    | with_reducible apply Keep.modGroup
    | with_reducible exact Keep.refl _ _
    | with_reducible assumption
    | exact rfl
    | exact id
    | exact Or.inl rfl
    | exact Or.inr rfl
    | exact Or.inr (List.prefix_refl _)
    | exact Or.inr fun _ => rfl
    | exact Or.inr ⟨rfl, rfl, rfl⟩
    | exact Or.inr fun _ => ⟨rfl, rfl, rfl⟩
    | exact Or.inr fun _ => ⟨rfl, rfl⟩
    | split
    | dsimp only

theorem execSignalLoss_keep (h : Nat) (s : State) {t : State} (h : execSignalLoss h s = .next t) : Keep 0x2603f9e5b08 s t := by
  unfold execSignalLoss at h
  injection h with h
  subst h
  repeat' first
    | with_reducible refine Keep.ite ?_ ?_
    | intro u hu
    | with_reducible apply State.raise_keep
    | with_reducible apply State.hostFault_keep
    | with_reducible apply State.follow_keep
    | with_reducible apply Keep.modHost
    | with_reducible apply Keep.bump
    | with_reducible exact Keep.refl _ _
    | with_reducible assumption
    | exact rfl
    | exact id
    | exact Or.inl rfl
    | exact Or.inr rfl
    | exact Or.inr (List.prefix_refl _)
    | exact Or.inr fun _ => rfl
    | exact Or.inr ⟨rfl, rfl, rfl⟩
    | exact Or.inr fun _ => ⟨rfl, rfl, rfl⟩
    | exact Or.inr fun _ => ⟨rfl, rfl⟩
    | split
    | dsimp only

theorem State.hostLockLost_keep (s : State) (h cond : Nat) {k0 : Nat} {z0 : State} (hk : Nat.land 0x2603f9e5b08 k0 = 0x2603f9e5b08) (hz : Keep k0 z0 s) : Keep k0 z0 (State.hostLockLost s h cond) := by
  refine Keep.step ?_ hk hz
  unfold State.hostLockLost
  repeat' first
    | with_reducible refine Keep.ite ?_ ?_
    | with_reducible apply State.raise_keep
    | with_reducible apply State.hostFault_keep
    | with_reducible apply State.follow_keep
    | with_reducible apply Keep.bump
    | with_reducible exact Keep.refl _ _
    | with_reducible assumption
    | exact rfl
    | exact id
    | exact Or.inl rfl
    | exact Or.inr rfl
    | exact Or.inr (List.prefix_refl _)
    | exact Or.inr fun _ => rfl
    | exact Or.inr ⟨rfl, rfl, rfl⟩
    | exact Or.inr fun _ => ⟨rfl, rfl, rfl⟩
    | exact Or.inr fun _ => ⟨rfl, rfl⟩
    | split
    | dsimp only

theorem execHslSnrWindowEnd_keep (h snr : Nat) (freqOut : Bool) (s : State) {t : State} (h : execHslSnrWindowEnd h snr freqOut s = .next t) : Keep 0x2603f9e5b08 s t := by
  unfold execHslSnrWindowEnd at h
  injection h with h
  subst h
  repeat' first
    | with_reducible refine Keep.ite ?_ ?_
    | intro u hu
    | with_reducible apply State.hostLockLost_keep
    | with_reducible apply Keep.modHost
    | with_reducible exact Keep.refl _ _
    | with_reducible assumption
    | exact rfl
    | exact id
    | exact Or.inl rfl
    | exact Or.inr rfl
    | exact Or.inr (List.prefix_refl _)
    | exact Or.inr fun _ => rfl
    | exact Or.inr ⟨rfl, rfl, rfl⟩
    | exact Or.inr fun _ => ⟨rfl, rfl, rfl⟩
    | exact Or.inr fun _ => ⟨rfl, rfl⟩
    | split
    | dsimp only

theorem execElasticBufferSlip_keep (h : Nat) (high : Bool) (s : State) {t : State} (h : execElasticBufferSlip h high s = .next t) : Keep 0x2603f9e5b08 s t := by
  unfold execElasticBufferSlip at h
  injection h with h
  subst h
  repeat' first
    | with_reducible refine Keep.ite ?_ ?_
    | intro u hu
    | with_reducible apply State.raise_keep
    | with_reducible apply State.hostFault_keep
    | with_reducible apply State.follow_keep
    | with_reducible apply Keep.modHost
    | with_reducible apply Keep.bump
    | with_reducible exact Keep.refl _ _
    | with_reducible assumption
    | exact rfl
    | exact id
    | exact Or.inl rfl
    | exact Or.inr rfl
    | exact Or.inr (List.prefix_refl _)
    | exact Or.inr fun _ => rfl
    | exact Or.inr ⟨rfl, rfl, rfl⟩
    | exact Or.inr fun _ => ⟨rfl, rfl, rfl⟩
    | exact Or.inr fun _ => ⟨rfl, rfl⟩
    | split
    | dsimp only

theorem execAmLockLoss_keep (h pcs : Nat) (s : State) {t : State} (h : execAmLockLoss h pcs s = .next t) : Keep 0x2603f9e5b08 s t := by
  unfold execAmLockLoss at h
  injection h with h
  subst h
  repeat' first
    | with_reducible refine Keep.ite ?_ ?_
    | intro u hu
    | with_reducible apply State.raise_keep
    | with_reducible apply State.hostFault_keep
    | with_reducible apply State.follow_keep
    | with_reducible apply Keep.modHost
    | with_reducible apply Keep.bump
    | with_reducible exact Keep.refl _ _
    | with_reducible assumption
    | exact rfl
    | exact id
    | exact Or.inl rfl
    | exact Or.inr rfl
    | exact Or.inr (List.prefix_refl _)
    | exact Or.inr fun _ => rfl
    | exact Or.inr ⟨rfl, rfl, rfl⟩
    | exact Or.inr fun _ => ⟨rfl, rfl, rfl⟩
    | exact Or.inr fun _ => ⟨rfl, rfl⟩
    | split
    | dsimp only

theorem execAmLockRegained_keep (h : Nat) (s : State) {t : State} (h : execAmLockRegained h s = .next t) : Keep 0xc000000 s t := by
  unfold execAmLockRegained at h
  injection h with h
  subst h
  repeat' first
    | with_reducible refine Keep.ite ?_ ?_
    | intro u hu
    | with_reducible apply Keep.modHost
    | with_reducible exact Keep.refl _ _
    | with_reducible assumption
    | exact rfl
    | exact id
    | exact Or.inl rfl
    | exact Or.inr rfl
    | exact Or.inr (List.prefix_refl _)
    | exact Or.inr fun _ => rfl
    | exact Or.inr ⟨rfl, rfl, rfl⟩
    | exact Or.inr fun _ => ⟨rfl, rfl, rfl⟩
    | exact Or.inr fun _ => ⟨rfl, rfl⟩
    | split
    | dsimp only

theorem execFaultRecoveryTimer_keep (h : Nat) (s : State) {t : State} (h : execFaultRecoveryTimer h s = .next t) : Keep 0x2601f925b08 s t := by
  unfold execFaultRecoveryTimer at h
  injection h with h
  subst h
  repeat' first
    | with_reducible refine Keep.ite ?_ ?_
    | intro u hu
    | with_reducible apply State.hostAcquire_keep
    | with_reducible apply State.follow_keep
    | with_reducible exact Keep.refl _ _
    | with_reducible assumption
    | exact rfl
    | exact id
    | exact Or.inl rfl
    | exact Or.inr rfl
    | exact Or.inr (List.prefix_refl _)
    | exact Or.inr fun _ => rfl
    | exact Or.inr ⟨rfl, rfl, rfl⟩
    | exact Or.inr fun _ => ⟨rfl, rfl, rfl⟩
    | exact Or.inr fun _ => ⟨rfl, rfl⟩
    | split
    | dsimp only

theorem execWarmAcquisitionTimeout_keep (h : Nat) (s : State) {t : State} (h : execWarmAcquisitionTimeout h s = .next t) : Keep 0x2601f925b08 s t := by
  unfold execWarmAcquisitionTimeout at h
  injection h with h
  subst h
  repeat' first
    | with_reducible refine Keep.ite ?_ ?_
    | intro u hu
    | with_reducible apply State.hostAcquire_keep
    | with_reducible apply State.follow_keep
    | with_reducible apply Keep.modHost
    | with_reducible exact Keep.refl _ _
    | with_reducible assumption
    | exact rfl
    | exact id
    | exact Or.inl rfl
    | exact Or.inr rfl
    | exact Or.inr (List.prefix_refl _)
    | exact Or.inr fun _ => rfl
    | exact Or.inr ⟨rfl, rfl, rfl⟩
    | exact Or.inr fun _ => ⟨rfl, rfl, rfl⟩
    | exact Or.inr fun _ => ⟨rfl, rfl⟩
    | split
    | dsimp only

theorem execHslPeriodEnd_keep (h snr : Nat) (offset lo hi : Int) (s : State) (ups : List HostUpdate) (rs errs : Nat) {t : State} (h : execHslPeriodEnd h snr offset lo hi s ups rs errs = .next t) : Keep 0xc020300 s t := by
  unfold execHslPeriodEnd at h
  injection h with h
  subst h
  repeat' first
    | with_reducible refine Keep.ite ?_ ?_
    | with_reducible refine Keep.foldl _ ?_ ?_
    | intro u x hu
    | intro u hu
    | with_reducible apply State.raise_keep
    | with_reducible apply Keep.modHost
    | with_reducible apply Keep.bumpBy
    | with_reducible exact Keep.refl _ _
    | with_reducible assumption
    | exact rfl
    | exact id
    | exact Or.inl rfl
    | exact Or.inr rfl
    | exact Or.inr (List.prefix_refl _)
    | exact Or.inr fun _ => rfl
    | exact Or.inr ⟨rfl, rfl, rfl⟩
    | exact Or.inr fun _ => ⟨rfl, rfl, rfl⟩
    | exact Or.inr fun _ => ⟨rfl, rfl⟩
    | split
    | dsimp only

theorem execBlockReceived_keep (p d : Nat) (hdr : BitVec 2) (s : State) {t : State} (h : execBlockReceived p d hdr s = .next t) : Keep 0x2605b925b08 s t := by
  unfold execBlockReceived at h
  injection h with h
  subst h
  repeat' first
    | with_reducible refine Keep.ite ?_ ?_
    | intro u hu
    | with_reducible apply State.raise_keep
    | with_reducible apply State.follow_keep
    | with_reducible apply Keep.modBlock
    | with_reducible apply Keep.bump
    | with_reducible exact Keep.refl _ _
    | with_reducible assumption
    | exact rfl
    | exact id
    | exact Or.inl rfl
    | exact Or.inr rfl
    | exact Or.inr (List.prefix_refl _)
    | exact Or.inr fun _ => rfl
    | exact Or.inr ⟨rfl, rfl, rfl⟩
    | exact Or.inr fun _ => ⟨rfl, rfl, rfl⟩
    | exact Or.inr fun _ => ⟨rfl, rfl⟩
    | split
    | dsimp only

theorem execBlockLockWindowEnd_keep (p d : Nat) (s : State) {t : State} (h : execBlockLockWindowEnd p d s = .next t) : Keep 0x40000000 s t := by
  unfold execBlockLockWindowEnd at h
  injection h with h
  subst h
  repeat' first
    | with_reducible refine Keep.ite ?_ ?_
    | intro u hu
    | with_reducible apply Keep.modBlock
    | with_reducible exact Keep.refl _ _
    | with_reducible assumption
    | exact rfl
    | exact id
    | exact Or.inl rfl
    | exact Or.inr rfl
    | exact Or.inr (List.prefix_refl _)
    | exact Or.inr fun _ => rfl
    | exact Or.inr ⟨rfl, rfl, rfl⟩
    | exact Or.inr fun _ => ⟨rfl, rfl, rfl⟩
    | exact Or.inr fun _ => ⟨rfl, rfl⟩
    | split
    | dsimp only

theorem procGetHslCfg_keep  (a : Sentence) (s : State) {k0 : Nat} {z0 : State} (hk : Nat.land 0x420000001b80 k0 = 0x420000001b80) (hz : Keep k0 z0 s) : Keep k0 z0 (procGetHslCfg  a s) := by
  refine Keep.step ?_ hk hz
  unfold procGetHslCfg
  refine process_keep _ _ _ _ _ _ 0x0 (fun u ws => ?_) rfl rfl rfl (Keep.refl _ _)
  repeat' first
    | exact getAct_keep ..

theorem execGetHslCfg_keep (m : Sentence) (s : State) {t : State} (h : execGetHslCfg m s = .next t) : Keep 0x420000001b80 s t := by
  unfold execGetHslCfg at h
  injection h with h
  subst h
  repeat' first
    | with_reducible refine Keep.ite ?_ ?_
    | intro u hu
    | with_reducible apply submit_keep
    | with_reducible apply procGetHslCfg_keep
    | with_reducible exact Keep.refl _ _
    | with_reducible assumption
    | exact rfl
    | exact id
    | exact Or.inl rfl
    | exact Or.inr rfl
    | exact Or.inr (List.prefix_refl _)
    | exact Or.inr fun _ => rfl
    | exact Or.inr ⟨rfl, rfl, rfl⟩
    | exact Or.inr fun _ => ⟨rfl, rfl, rfl⟩
    | exact Or.inr fun _ => ⟨rfl, rfl⟩
    | split
    | dsimp only

theorem actHslCfg_keep (s : State) (m : Sentence) (ws : List Word) {k0 : Nat} {z0 : State} (hk : Nat.land 0xc010000 k0 = 0xc010000) (hz : Keep k0 z0 s) : Keep k0 z0 (actHslCfg s m ws).1 := by
  refine Keep.step ?_ hk hz
  unfold actHslCfg
  repeat' first
    | with_reducible refine Keep.ite ?_ ?_
    | intro u hu
    | with_reducible apply setAct_keep
    | with_reducible apply Keep.modHost
    | with_reducible exact Keep.refl _ _
    | with_reducible assumption
    | exact rfl
    | exact id
    | exact Or.inl rfl
    | exact Or.inr rfl
    | exact Or.inr (List.prefix_refl _)
    | exact Or.inr fun _ => rfl
    | exact Or.inr ⟨rfl, rfl, rfl⟩
    | exact Or.inr fun _ => ⟨rfl, rfl, rfl⟩
    | exact Or.inr fun _ => ⟨rfl, rfl⟩
    | split
    | dsimp only

theorem procSetHslCfg_keep  (a : Sentence) (s : State) {k0 : Nat} {z0 : State} (hk : Nat.land 0x42000c011b80 k0 = 0x42000c011b80) (hz : Keep k0 z0 s) : Keep k0 z0 (procSetHslCfg  a s) := by
  refine Keep.step ?_ hk hz
  unfold procSetHslCfg
  refine process_keep _ _ _ _ _ _ 0xc010000 (fun u ws => ?_) rfl rfl rfl (Keep.refl _ _)
  repeat' first
    | with_reducible refine Keep.ite ?_ ?_
    | intro u hu
    | with_reducible apply actHslCfg_keep
    | with_reducible exact Keep.refl _ _
    | with_reducible assumption
    | exact rfl
    | exact id
    | exact Or.inl rfl
    | exact Or.inr rfl
    | exact Or.inr (List.prefix_refl _)
    | exact Or.inr fun _ => rfl
    | exact Or.inr ⟨rfl, rfl, rfl⟩
    | exact Or.inr fun _ => ⟨rfl, rfl, rfl⟩
    | exact Or.inr fun _ => ⟨rfl, rfl⟩
    | split
    | dsimp only

theorem execSetHslCfg_keep (m : Sentence) (s : State) {t : State} (h : execSetHslCfg m s = .next t) : Keep 0x42000c011b80 s t := by
  unfold execSetHslCfg at h
  injection h with h
  subst h
  repeat' first
    | with_reducible refine Keep.ite ?_ ?_
    | intro u hu
    | with_reducible apply submit_keep
    | with_reducible apply procSetHslCfg_keep
    | with_reducible exact Keep.refl _ _
    | with_reducible assumption
    | exact rfl
    | exact id
    | exact Or.inl rfl
    | exact Or.inr rfl
    | exact Or.inr (List.prefix_refl _)
    | exact Or.inr fun _ => rfl
    | exact Or.inr ⟨rfl, rfl, rfl⟩
    | exact Or.inr fun _ => ⟨rfl, rfl, rfl⟩
    | exact Or.inr fun _ => ⟨rfl, rfl⟩
    | split
    | dsimp only

theorem procGetHslGroup_keep  (a : Sentence) (s : State) {k0 : Nat} {z0 : State} (hk : Nat.land 0x420000001b80 k0 = 0x420000001b80) (hz : Keep k0 z0 s) : Keep k0 z0 (procGetHslGroup  a s) := by
  refine Keep.step ?_ hk hz
  unfold procGetHslGroup
  refine process_keep _ _ _ _ _ _ 0x0 (fun u ws => ?_) rfl rfl rfl (Keep.refl _ _)
  repeat' first
    | exact getAct_keep ..

theorem execGetHslGroup_keep (m : Sentence) (s : State) {t : State} (h : execGetHslGroup m s = .next t) : Keep 0x420000001b80 s t := by
  unfold execGetHslGroup at h
  injection h with h
  subst h
  repeat' first
    | with_reducible refine Keep.ite ?_ ?_
    | intro u hu
    | with_reducible apply submit_keep
    | with_reducible apply procGetHslGroup_keep
    | with_reducible exact Keep.refl _ _
    | with_reducible assumption
    | exact rfl
    | exact id
    | exact Or.inl rfl
    | exact Or.inr rfl
    | exact Or.inr (List.prefix_refl _)
    | exact Or.inr fun _ => rfl
    | exact Or.inr ⟨rfl, rfl, rfl⟩
    | exact Or.inr fun _ => ⟨rfl, rfl, rfl⟩
    | exact Or.inr fun _ => ⟨rfl, rfl⟩
    | split
    | dsimp only

theorem procSetHslGroup_keep  (a : Sentence) (s : State) {k0 : Nat} {z0 : State} (hk : Nat.land 0x42601b915b88 k0 = 0x42601b915b88) (hz : Keep k0 z0 s) : Keep k0 z0 (procSetHslGroup  a s) := by
  refine Keep.step ?_ hk hz
  unfold procSetHslGroup
  refine process_keep _ _ _ _ _ _ 0x2601b915b08 (fun u ws => ?_) rfl rfl rfl (Keep.refl _ _)
  repeat' first
    | with_reducible refine Keep.ite ?_ ?_
    | intro u hu
    | with_reducible apply State.setParams_keep
    | with_reducible apply State.follow_keep
    | with_reducible exact Keep.refl _ _
    | with_reducible assumption
    | exact rfl
    | exact id
    | exact Or.inl rfl
    | exact Or.inr rfl
    | exact Or.inr (List.prefix_refl _)
    | exact Or.inr fun _ => rfl
    | exact Or.inr ⟨rfl, rfl, rfl⟩
    | exact Or.inr fun _ => ⟨rfl, rfl, rfl⟩
    | exact Or.inr fun _ => ⟨rfl, rfl⟩
    | split
    | dsimp only

theorem execSetHslGroup_keep (m : Sentence) (s : State) {t : State} (h : execSetHslGroup m s = .next t) : Keep 0x42601b915b88 s t := by
  unfold execSetHslGroup at h
  injection h with h
  subst h
  repeat' first
    | with_reducible refine Keep.ite ?_ ?_
    | intro u hu
    | with_reducible apply submit_keep
    | with_reducible apply procSetHslGroup_keep
    | with_reducible exact Keep.refl _ _
    | with_reducible assumption
    | exact rfl
    | exact id
    | exact Or.inl rfl
    | exact Or.inr rfl
    | exact Or.inr (List.prefix_refl _)
    | exact Or.inr fun _ => rfl
    | exact Or.inr ⟨rfl, rfl, rfl⟩
    | exact Or.inr fun _ => ⟨rfl, rfl, rfl⟩
    | exact Or.inr fun _ => ⟨rfl, rfl⟩
    | split
    | dsimp only

theorem procGetHslStatus_keep  (a : Sentence) (s : State) {k0 : Nat} {z0 : State} (hk : Nat.land 0x420000001b80 k0 = 0x420000001b80) (hz : Keep k0 z0 s) : Keep k0 z0 (procGetHslStatus  a s) := by
  refine Keep.step ?_ hk hz
  unfold procGetHslStatus
  refine process_keep _ _ _ _ _ _ 0x0 (fun u ws => ?_) rfl rfl rfl (Keep.refl _ _)
  repeat' first
    | exact getAct_keep ..

theorem execGetHslStatus_keep (m : Sentence) (s : State) {t : State} (h : execGetHslStatus m s = .next t) : Keep 0x420000001b80 s t := by
  unfold execGetHslStatus at h
  injection h with h
  subst h
  repeat' first
    | with_reducible refine Keep.ite ?_ ?_
    | intro u hu
    | with_reducible apply submit_keep
    | with_reducible apply procGetHslStatus_keep
    | with_reducible exact Keep.refl _ _
    | with_reducible assumption
    | exact rfl
    | exact id
    | exact Or.inl rfl
    | exact Or.inr rfl
    | exact Or.inr (List.prefix_refl _)
    | exact Or.inr fun _ => rfl
    | exact Or.inr ⟨rfl, rfl, rfl⟩
    | exact Or.inr fun _ => ⟨rfl, rfl, rfl⟩
    | exact Or.inr fun _ => ⟨rfl, rfl⟩
    | split
    | dsimp only

theorem procGetHslQuality_keep  (a : Sentence) (s : State) {k0 : Nat} {z0 : State} (hk : Nat.land 0x420000001b80 k0 = 0x420000001b80) (hz : Keep k0 z0 s) : Keep k0 z0 (procGetHslQuality  a s) := by
  refine Keep.step ?_ hk hz
  unfold procGetHslQuality
  refine process_keep _ _ _ _ _ _ 0x0 (fun u ws => ?_) rfl rfl rfl (Keep.refl _ _)
  repeat' first
    | exact getAct_keep ..

theorem execGetHslQuality_keep (m : Sentence) (s : State) {t : State} (h : execGetHslQuality m s = .next t) : Keep 0x420000001b80 s t := by
  unfold execGetHslQuality at h
  injection h with h
  subst h
  repeat' first
    | with_reducible refine Keep.ite ?_ ?_
    | intro u hu
    | with_reducible apply submit_keep
    | with_reducible apply procGetHslQuality_keep
    | with_reducible exact Keep.refl _ _
    | with_reducible assumption
    | exact rfl
    | exact id
    | exact Or.inl rfl
    | exact Or.inr rfl
    | exact Or.inr (List.prefix_refl _)
    | exact Or.inr fun _ => rfl
    | exact Or.inr ⟨rfl, rfl, rfl⟩
    | exact Or.inr fun _ => ⟨rfl, rfl, rfl⟩
    | exact Or.inr fun _ => ⟨rfl, rfl⟩
    | split
    | dsimp only

theorem State.restartTrain_keep (s : State) (h : Nat) (warm : Bool) {k0 : Nat} {z0 : State} (hk : Nat.land 0x2c1e0300 k0 = 0x2c1e0300) (hz : Keep k0 z0 s) : Keep k0 z0 (State.restartTrain s h warm) := by
  refine Keep.step ?_ hk hz
  unfold State.restartTrain
  repeat' first
    | with_reducible refine Keep.ite ?_ ?_
    | with_reducible apply State.hostAcquire_keep
    | with_reducible apply State.portFail_keep
    | with_reducible apply Keep.modHost
    | with_reducible exact Keep.refl _ _
    | with_reducible assumption
    | exact rfl
    | exact id
    | exact Or.inl rfl
    | exact Or.inr rfl
    | exact Or.inr (List.prefix_refl _)
    | exact Or.inr fun _ => rfl
    | exact Or.inr ⟨rfl, rfl, rfl⟩
    | exact Or.inr fun _ => ⟨rfl, rfl, rfl⟩
    | exact Or.inr fun _ => ⟨rfl, rfl⟩
    | split
    | dsimp only

theorem procRestartHslTrain_keep  (a : Sentence) (s : State) {k0 : Nat} {z0 : State} (hk : Nat.land 0x42603f9e5b88 k0 = 0x42603f9e5b88) (hz : Keep k0 z0 s) : Keep k0 z0 (procRestartHslTrain  a s) := by
  refine Keep.step ?_ hk hz
  unfold procRestartHslTrain
  refine process_keep _ _ _ _ _ _ 0x2603f9e5b08 (fun u ws => ?_) rfl rfl rfl (Keep.refl _ _)
  repeat' first
    | with_reducible refine Keep.ite ?_ ?_
    | intro u hu
    | with_reducible apply State.restartTrain_keep
    | with_reducible apply State.follow_keep
    | with_reducible exact Keep.refl _ _
    | with_reducible assumption
    | exact rfl
    | exact id
    | exact Or.inl rfl
    | exact Or.inr rfl
    | exact Or.inr (List.prefix_refl _)
    | exact Or.inr fun _ => rfl
    | exact Or.inr ⟨rfl, rfl, rfl⟩
    | exact Or.inr fun _ => ⟨rfl, rfl, rfl⟩
    | exact Or.inr fun _ => ⟨rfl, rfl⟩
    | split
    | dsimp only

theorem execRestartHslTrain_keep (m : Sentence) (s : State) {t : State} (h : execRestartHslTrain m s = .next t) : Keep 0x42603f9e5b88 s t := by
  unfold execRestartHslTrain at h
  injection h with h
  subst h
  repeat' first
    | with_reducible refine Keep.ite ?_ ?_
    | intro u hu
    | with_reducible apply submit_keep
    | with_reducible apply procRestartHslTrain_keep
    | with_reducible exact Keep.refl _ _
    | with_reducible assumption
    | exact rfl
    | exact id
    | exact Or.inl rfl
    | exact Or.inr rfl
    | exact Or.inr (List.prefix_refl _)
    | exact Or.inr fun _ => rfl
    | exact Or.inr ⟨rfl, rfl, rfl⟩
    | exact Or.inr fun _ => ⟨rfl, rfl, rfl⟩
    | exact Or.inr fun _ => ⟨rfl, rfl⟩
    | split
    | dsimp only

theorem procGetPfxBlocklock_keep  (a : Sentence) (s : State) {k0 : Nat} {z0 : State} (hk : Nat.land 0x420000001b80 k0 = 0x420000001b80) (hz : Keep k0 z0 s) : Keep k0 z0 (procGetPfxBlocklock  a s) := by
  refine Keep.step ?_ hk hz
  unfold procGetPfxBlocklock
  refine process_keep _ _ _ _ _ _ 0x0 (fun u ws => ?_) rfl rfl rfl (Keep.refl _ _)
  repeat' first
    | exact getAct_keep ..

theorem execGetPfxBlocklock_keep (m : Sentence) (s : State) {t : State} (h : execGetPfxBlocklock m s = .next t) : Keep 0x420000001b80 s t := by
  unfold execGetPfxBlocklock at h
  injection h with h
  subst h
  repeat' first
    | with_reducible refine Keep.ite ?_ ?_
    | intro u hu
    | with_reducible apply submit_keep
    | with_reducible apply procGetPfxBlocklock_keep
    | with_reducible exact Keep.refl _ _
    | with_reducible assumption
    | exact rfl
    | exact id
    | exact Or.inl rfl
    | exact Or.inr rfl
    | exact Or.inr (List.prefix_refl _)
    | exact Or.inr fun _ => rfl
    | exact Or.inr ⟨rfl, rfl, rfl⟩
    | exact Or.inr fun _ => ⟨rfl, rfl, rfl⟩
    | exact Or.inr fun _ => ⟨rfl, rfl⟩
    | split
    | dsimp only

theorem State.frontEnd_keep (s : State) (l : Nat) (xs : List Int) {k0 : Nat} {z0 : State} (hk : Nat.land 0x180000 k0 = 0x180000) (hz : Keep k0 z0 s) : Keep k0 z0 (State.frontEnd s l xs).1 := by
  refine Keep.step ?_ hk hz
  unfold State.frontEnd
  repeat' first
    | with_reducible refine Keep.ite ?_ ?_
    | with_reducible refine Keep.foldl _ ?_ ?_
    | intro u x hu
    | intro u hu
    | with_reducible apply Keep.modLrx
    | with_reducible exact Keep.refl _ _
    | with_reducible assumption
    | exact rfl
    | exact id
    | exact Or.inl rfl
    | exact Or.inr rfl
    | exact Or.inr (List.prefix_refl _)
    | exact Or.inr fun _ => rfl
    | exact Or.inr ⟨rfl, rfl, rfl⟩
    | exact Or.inr fun _ => ⟨rfl, rfl, rfl⟩
    | exact Or.inr fun _ => ⟨rfl, rfl⟩
    | split
    | dsimp only

theorem State.dispatch_keep (s : State) (l : Nat) (ys : List Int) {k0 : Nat} {z0 : State} (hk : Nat.land 0x20080200300 k0 = 0x20080200300) (hz : Keep k0 z0 s) : Keep k0 z0 (State.dispatch s l ys) := by
  refine Keep.step ?_ hk hz
  unfold State.dispatch
  try simp -zeta only [State.fold_block]
  repeat' first
    | with_reducible refine Keep.ite ?_ ?_
    | with_reducible refine Keep.foldl _ ?_ ?_
    | intro u x hu
    | intro u hu
    | with_reducible apply State.pmcEngine_keep
    | with_reducible apply Keep.modEng
    | with_reducible apply Keep.modSea
    | with_reducible apply Keep.set_block
    | with_reducible exact Keep.refl _ _
    | with_reducible assumption
    | exact rfl
    | exact id
    | exact Or.inl rfl
    | exact Or.inr rfl
    | exact Or.inr (List.prefix_refl _)
    | exact Or.inr fun _ => rfl
    | exact Or.inr ⟨rfl, rfl, rfl⟩
    | exact Or.inr fun _ => ⟨rfl, rfl, rfl⟩
    | exact Or.inr fun _ => ⟨rfl, rfl⟩
    | split
    | dsimp only

theorem execBlockEntersFifo_keep (l : Nat) (s : State) (codes : List Int) {t : State} (h : execBlockEntersFifo l s codes = .next t) : Keep 0x20080380300 s t := by
  unfold execBlockEntersFifo at h
  injection h with h
  subst h
  repeat' first
    | with_reducible refine Keep.ite ?_ ?_
    | intro u hu
    | with_reducible apply State.frontEnd_keep
    | with_reducible apply State.dispatch_keep
    | with_reducible exact Keep.refl _ _
    | with_reducible assumption
    | exact rfl
    | exact id
    | exact Or.inl rfl
    | exact Or.inr rfl
    | exact Or.inr (List.prefix_refl _)
    | exact Or.inr fun _ => rfl
    | exact Or.inr ⟨rfl, rfl, rfl⟩
    | exact Or.inr fun _ => ⟨rfl, rfl, rfl⟩
    | exact Or.inr fun _ => ⟨rfl, rfl⟩
    | split
    | dsimp only

theorem State.lateSegment_keep (s : State) (l e occ : Nat) {k0 : Nat} {z0 : State} (hk : Nat.land 0x30380221b82 k0 = 0x30380221b82) (hz : Keep k0 z0 s) : Keep k0 z0 (State.lateSegment s l e occ) := by
  refine Keep.step ?_ hk hz
  unfold State.lateSegment
  repeat' first
    | with_reducible refine Keep.ite ?_ ?_
    | with_reducible apply State.pmcEvent_keep
    | with_reducible apply State.pmcEngine_keep
    | with_reducible apply State.engineFault_keep
    | with_reducible apply Keep.bump
    | with_reducible exact Keep.refl _ _
    | with_reducible assumption
    | exact rfl
    | exact id
    | exact Or.inl rfl
    | exact Or.inr rfl
    | exact Or.inr (List.prefix_refl _)
    | exact Or.inr fun _ => rfl
    | exact Or.inr ⟨rfl, rfl, rfl⟩
    | exact Or.inr fun _ => ⟨rfl, rfl, rfl⟩
    | exact Or.inr fun _ => ⟨rfl, rfl⟩
    | split
    | dsimp only

theorem execBlockRelease_keep (l : Nat) (late : List Nat) (s : State) (ecc : List SramRead) {t : State} (h : execBlockRelease l late s ecc = .next t) : Keep 0x36b9bb25b8a s t := by
  unfold execBlockRelease at h
  injection h with h
  subst h
  repeat' first
    | with_reducible refine Keep.ite ?_ ?_
    | with_reducible refine Keep.foldl _ ?_ ?_
    | intro u x hu
    | intro u hu
    | with_reducible apply State.pmcEngine_keep
    | with_reducible apply State.lateSegment_keep
    | with_reducible apply State.sramReads_keep
    | with_reducible apply State.follow_keep
    | with_reducible apply Keep.modSea
    | with_reducible exact Keep.refl _ _
    | with_reducible assumption
    | exact rfl
    | exact id
    | exact Or.inl rfl
    | exact Or.inr rfl
    | exact Or.inr (List.prefix_refl _)
    | exact Or.inr fun _ => rfl
    | exact Or.inr ⟨rfl, rfl, rfl⟩
    | exact Or.inr fun _ => ⟨rfl, rfl, rfl⟩
    | exact Or.inr fun _ => ⟨rfl, rfl⟩
    | split
    | dsimp only

theorem execFifoWatermarkCrossed_keep (l : Nat) (s : State) {t : State} (h : execFifoWatermarkCrossed l s = .next t) : Keep 0x200000 s t := by
  unfold execFifoWatermarkCrossed at h
  injection h with h
  subst h
  repeat' first
    | with_reducible refine Keep.ite ?_ ?_
    | intro u hu
    | with_reducible apply Keep.modSea
    | with_reducible exact Keep.refl _ _
    | with_reducible assumption
    | exact rfl
    | exact id
    | exact Or.inl rfl
    | exact Or.inr rfl
    | exact Or.inr (List.prefix_refl _)
    | exact Or.inr fun _ => rfl
    | exact Or.inr ⟨rfl, rfl, rfl⟩
    | exact Or.inr fun _ => ⟨rfl, rfl, rfl⟩
    | exact Or.inr fun _ => ⟨rfl, rfl⟩
    | split
    | dsimp only

theorem execFifoOverflow_keep (l : Nat) (s : State) {t : State} (h : execFifoOverflow l s = .next t) : Keep 0x3603ffe5b08 s t := by
  unfold execFifoOverflow at h
  injection h with h
  subst h
  repeat' first
    | with_reducible refine Keep.ite ?_ ?_
    | intro u hu
    | with_reducible apply State.raise_keep
    | with_reducible apply State.errAll_keep
    | with_reducible apply State.faultWarm_keep
    | with_reducible apply State.report_keep
    | with_reducible apply State.follow_keep
    | with_reducible apply Keep.modSea
    | with_reducible exact Keep.refl _ _
    | with_reducible assumption
    | exact rfl
    | exact id
    | exact Or.inl rfl
    | exact Or.inr rfl
    | exact Or.inr (List.prefix_refl _)
    | exact Or.inr fun _ => rfl
    | exact Or.inr ⟨rfl, rfl, rfl⟩
    | exact Or.inr fun _ => ⟨rfl, rfl, rfl⟩
    | exact Or.inr fun _ => ⟨rfl, rfl⟩
    | split
    | dsimp only

theorem execPlanBlockBoundary_keep (l : Nat) (s : State) {t : State} (h : execPlanBlockBoundary l s = .next t) : Keep 0x3639bb35b8a s t := by
  unfold execPlanBlockBoundary at h
  injection h with h
  subst h
  repeat' first
    | with_reducible refine Keep.ite ?_ ?_
    | intro u hu
    | with_reducible apply State.boundary_keep
    | with_reducible apply State.follow_keep
    | with_reducible exact Keep.refl _ _
    | with_reducible assumption
    | exact rfl
    | exact id
    | exact Or.inl rfl
    | exact Or.inr rfl
    | exact Or.inr (List.prefix_refl _)
    | exact Or.inr fun _ => rfl
    | exact Or.inr ⟨rfl, rfl, rfl⟩
    | exact Or.inr fun _ => ⟨rfl, rfl, rfl⟩
    | exact Or.inr fun _ => ⟨rfl, rfl⟩
    | split
    | dsimp only

theorem execRaiseDwellExpiry_keep (s : State) {t : State} (h : execRaiseDwellExpiry s = .next t) : Keep 0x3629bb25b8a s t := by
  unfold execRaiseDwellExpiry at h
  injection h with h
  subst h
  repeat' first
    | with_reducible refine Keep.ite ?_ ?_
    | with_reducible refine Keep.foldl _ ?_ ?_
    | intro u x hu
    | intro u hu
    | with_reducible apply State.judgeAgain_keep
    | with_reducible apply State.startRaises_keep
    | with_reducible apply State.follow_keep
    | with_reducible apply Keep.modSea
    | with_reducible exact Keep.refl _ _
    | with_reducible assumption
    | exact rfl
    | exact id
    | exact Or.inl rfl
    | exact Or.inr rfl
    | exact Or.inr (List.prefix_refl _)
    | exact Or.inr fun _ => rfl
    | exact Or.inr ⟨rfl, rfl, rfl⟩
    | exact Or.inr fun _ => ⟨rfl, rfl, rfl⟩
    | exact Or.inr fun _ => ⟨rfl, rfl⟩
    | split
    | dsimp only

theorem State.setSwap_keep (s : State) (l : Nat) (w : Swap) {k0 : Nat} {z0 : State} (hk : Nat.land 0x200000 k0 = 0x200000) (hz : Keep k0 z0 s) : Keep k0 z0 (State.setSwap s l w) := by
  refine Keep.step ?_ hk hz
  unfold State.setSwap
  repeat' first
    | with_reducible refine Keep.ite ?_ ?_
    | with_reducible apply Keep.modSea
    | with_reducible exact Keep.refl _ _
    | with_reducible assumption
    | exact rfl
    | exact id
    | exact Or.inl rfl
    | exact Or.inr rfl
    | exact Or.inr (List.prefix_refl _)
    | exact Or.inr fun _ => rfl
    | exact Or.inr ⟨rfl, rfl, rfl⟩
    | exact Or.inr fun _ => ⟨rfl, rfl, rfl⟩
    | exact Or.inr fun _ => ⟨rfl, rfl⟩
    | split
    | dsimp only

theorem State.shadowCoefs_keep (s : State) (w : Swap) (cs : List Int) {k0 : Nat} {z0 : State} (hk : Nat.land 0x80000000 k0 = 0x80000000) (hz : Keep k0 z0 s) : Keep k0 z0 (State.shadowCoefs s w cs) := by
  refine Keep.step ?_ hk hz
  unfold State.shadowCoefs
  repeat' first
    | with_reducible refine Keep.ite ?_ ?_
    | with_reducible refine Keep.foldl _ ?_ ?_
    | intro u x hu
    | intro u hu
    | with_reducible apply Keep.modEng
    | with_reducible exact Keep.refl _ _
    | with_reducible assumption
    | exact rfl
    | exact id
    | exact Or.inl rfl
    | exact Or.inr rfl
    | exact Or.inr (List.prefix_refl _)
    | exact Or.inr fun _ => rfl
    | exact Or.inr ⟨rfl, rfl, rfl⟩
    | exact Or.inr fun _ => ⟨rfl, rfl, rfl⟩
    | exact Or.inr fun _ => ⟨rfl, rfl⟩
    | split
    | dsimp only

theorem execSwapStaged_keep (l : Nat) (s : State) {t : State} (h : execSwapStaged l s = .next t) : Keep 0x80200002 s t := by
  unfold execSwapStaged at h
  injection h with h
  subst h
  repeat' first
    | with_reducible refine Keep.ite ?_ ?_
    | intro u hu
    | with_reducible apply State.freeNext_keep
    | with_reducible apply State.setSwap_keep
    | with_reducible apply State.shadowCoefs_keep
    | with_reducible apply Keep.modSea
    | with_reducible exact Keep.refl _ _
    | with_reducible assumption
    | exact rfl
    | exact id
    | exact Or.inl rfl
    | exact Or.inr rfl
    | exact Or.inr (List.prefix_refl _)
    | exact Or.inr fun _ => rfl
    | exact Or.inr ⟨rfl, rfl, rfl⟩
    | exact Or.inr fun _ => ⟨rfl, rfl, rfl⟩
    | exact Or.inr fun _ => ⟨rfl, rfl⟩
    | split
    | dsimp only

theorem execShadowSettleEnd_keep (l : Nat) (s : State) (ups : List (Int × List Int)) {t : State} (h : execShadowSettleEnd l s ups = .next t) : Keep 0x80200000 s t := by
  unfold execShadowSettleEnd at h
  injection h with h
  subst h
  repeat' first
    | with_reducible refine Keep.ite ?_ ?_
    | with_reducible refine Keep.foldl _ ?_ ?_
    | intro u x hu
    | intro u hu
    | with_reducible apply State.setSwap_keep
    | with_reducible apply State.shadowCoefs_keep
    | with_reducible exact Keep.refl _ _
    | with_reducible assumption
    | exact rfl
    | exact id
    | exact Or.inl rfl
    | exact Or.inr rfl
    | exact Or.inr (List.prefix_refl _)
    | exact Or.inr fun _ => rfl
    | exact Or.inr ⟨rfl, rfl, rfl⟩
    | exact Or.inr fun _ => ⟨rfl, rfl, rfl⟩
    | exact Or.inr fun _ => ⟨rfl, rfl⟩
    | split
    | dsimp only

theorem execSwapComparisonDone_keep (l : Nat) (live shadow : Int) (s : State) {t : State} (h : execSwapComparisonDone l live shadow s = .next t) : Keep 0x200000 s t := by
  unfold execSwapComparisonDone at h
  injection h with h
  subst h
  repeat' first
    | with_reducible refine Keep.ite ?_ ?_
    | intro u hu
    | with_reducible apply State.setSwap_keep
    | with_reducible exact Keep.refl _ _
    | with_reducible assumption
    | exact rfl
    | exact id
    | exact Or.inl rfl
    | exact Or.inr rfl
    | exact Or.inr (List.prefix_refl _)
    | exact Or.inr fun _ => rfl
    | exact Or.inr ⟨rfl, rfl, rfl⟩
    | exact Or.inr fun _ => ⟨rfl, rfl, rfl⟩
    | exact Or.inr fun _ => ⟨rfl, rfl⟩
    | split
    | dsimp only

theorem State.switchKernel_keep (s : State) (l : Nat) (w : Swap) {k0 : Nat} {z0 : State} (hk : Nat.land 0x80210000 k0 = 0x80210000) (hz : Keep k0 z0 s) : Keep k0 z0 (State.switchKernel s l w) := by
  refine Keep.step ?_ hk hz
  unfold State.switchKernel
  repeat' first
    | with_reducible refine Keep.ite ?_ ?_
    | with_reducible refine Keep.foldl _ ?_ ?_
    | intro u x hu
    | intro u hu
    | with_reducible apply State.putPar_keep
    | with_reducible apply Keep.modSea
    | with_reducible apply Keep.modEng
    | with_reducible exact Keep.refl _ _
    | with_reducible assumption
    | exact rfl
    | exact id
    | exact Or.inl rfl
    | exact Or.inr rfl
    | exact Or.inr (List.prefix_refl _)
    | exact Or.inr fun _ => rfl
    | exact Or.inr ⟨rfl, rfl, rfl⟩
    | exact Or.inr fun _ => ⟨rfl, rfl, rfl⟩
    | exact Or.inr fun _ => ⟨rfl, rfl⟩
    | split
    | dsimp only

theorem execSwapSwitch_keep (l : Nat) (s : State) {t : State} (h : execSwapSwitch l s = .next t) : Keep 0x3629bb35b8a s t := by
  unfold execSwapSwitch at h
  injection h with h
  subst h
  repeat' first
    | with_reducible refine Keep.ite ?_ ?_
    | intro u hu
    | with_reducible apply State.switchKernel_keep
    | with_reducible apply State.raise_keep
    | with_reducible apply State.tellPlaced_keep
    | with_reducible apply State.judgeAgain_keep
    | with_reducible apply State.finishOpt_keep
    | with_reducible apply State.follow_keep
    | with_reducible apply State.abandonSwap_keep
    | with_reducible apply Keep.bump
    | with_reducible apply Keep.modSea
    | with_reducible exact Keep.refl _ _
    | with_reducible assumption
    | exact rfl
    | exact id
    | exact Or.inl rfl
    | exact Or.inr rfl
    | exact Or.inr (List.prefix_refl _)
    | exact Or.inr fun _ => rfl
    | exact Or.inr ⟨rfl, rfl, rfl⟩
    | exact Or.inr fun _ => ⟨rfl, rfl, rfl⟩
    | exact Or.inr fun _ => ⟨rfl, rfl⟩
    | split
    | dsimp only

theorem execShadowReturn_keep (l : Nat) (s : State) {t : State} (h : execShadowReturn l s = .next t) : Keep 0x3629bb05b8a s t := by
  unfold execShadowReturn at h
  injection h with h
  subst h
  repeat' first
    | with_reducible refine Keep.ite ?_ ?_
    | intro u hu
    | with_reducible apply State.endSwap_keep
    | with_reducible apply State.startRaises_keep
    | with_reducible apply State.follow_keep
    | with_reducible exact Keep.refl _ _
    | with_reducible assumption
    | exact rfl
    | exact id
    | exact Or.inl rfl
    | exact Or.inr rfl
    | exact Or.inr (List.prefix_refl _)
    | exact Or.inr fun _ => rfl
    | exact Or.inr ⟨rfl, rfl, rfl⟩
    | exact Or.inr fun _ => ⟨rfl, rfl, rfl⟩
    | exact Or.inr fun _ => ⟨rfl, rfl⟩
    | split
    | dsimp only

theorem execCoefficientPush_keep (l : Nat) (s : State) (errs : List Int) {t : State} (h : execCoefficientPush l s errs = .next t) : Keep 0x20080200300 s t := by
  unfold execCoefficientPush at h
  injection h with h
  subst h
  repeat' first
    | with_reducible refine Keep.ite ?_ ?_
    | with_reducible refine Keep.foldl _ ?_ ?_
    | intro u x hu
    | intro u hu
    | with_reducible apply State.pmcEngine_keep
    | with_reducible apply Keep.modSea
    | with_reducible apply Keep.modEng
    | with_reducible exact Keep.refl _ _
    | with_reducible assumption
    | exact rfl
    | exact id
    | exact Or.inl rfl
    | exact Or.inr rfl
    | exact Or.inr (List.prefix_refl _)
    | exact Or.inr fun _ => rfl
    | exact Or.inr ⟨rfl, rfl, rfl⟩
    | exact Or.inr fun _ => ⟨rfl, rfl, rfl⟩
    | exact Or.inr fun _ => ⟨rfl, rfl⟩
    | split
    | dsimp only

theorem execShadowRefresh_keep (e : Nat) (s : State) {t : State} (h : execShadowRefresh e s = .next t) : Keep 0x80000000 s t := by
  unfold execShadowRefresh at h
  injection h with h
  subst h
  repeat' first
    | with_reducible refine Keep.ite ?_ ?_
    | intro u hu
    | with_reducible apply Keep.modEng
    | with_reducible exact Keep.refl _ _
    | with_reducible assumption
    | exact rfl
    | exact id
    | exact Or.inl rfl
    | exact Or.inr rfl
    | exact Or.inr (List.prefix_refl _)
    | exact Or.inr fun _ => rfl
    | exact Or.inr ⟨rfl, rfl, rfl⟩
    | exact Or.inr fun _ => ⟨rfl, rfl, rfl⟩
    | exact Or.inr fun _ => ⟨rfl, rfl⟩
    | split
    | dsimp only

theorem State.faultRow_keep (s : State) (c : EngineCond) {k0 : Nat} {z0 : State} (hk : Nat.land 0x800020300 k0 = 0x800020300) (hz : Keep k0 z0 s) : Keep k0 z0 (State.faultRow s c) := by
  refine Keep.step ?_ hk hz
  unfold State.faultRow
  repeat' first
    | with_reducible refine Keep.ite ?_ ?_
    | with_reducible apply State.raise_keep
    | with_reducible apply State.reportRow_keep
    | with_reducible apply Keep.bump
    | with_reducible exact Keep.refl _ _
    | with_reducible assumption
    | exact rfl
    | exact id
    | exact Or.inl rfl
    | exact Or.inr rfl
    | exact Or.inr (List.prefix_refl _)
    | exact Or.inr fun _ => rfl
    | exact Or.inr ⟨rfl, rfl, rfl⟩
    | exact Or.inr fun _ => ⟨rfl, rfl, rfl⟩
    | exact Or.inr fun _ => ⟨rfl, rfl⟩
    | split
    | dsimp only

theorem execEngineFault_keep (e : Nat) (c : EngineCond) (s : State) {t : State} (h : execEngineFault e c s = .next t) : Keep 0x36b9bb25b8a s t := by
  unfold execEngineFault at h
  injection h with h
  subst h
  repeat' first
    | with_reducible refine Keep.ite ?_ ?_
    | intro u hu
    | with_reducible apply State.engineFault_keep
    | with_reducible apply State.faultRow_keep
    | with_reducible apply State.follow_keep
    | with_reducible exact Keep.refl _ _
    | with_reducible assumption
    | exact rfl
    | exact id
    | exact Or.inl rfl
    | exact Or.inr rfl
    | exact Or.inr (List.prefix_refl _)
    | exact Or.inr fun _ => rfl
    | exact Or.inr ⟨rfl, rfl, rfl⟩
    | exact Or.inr fun _ => ⟨rfl, rfl, rfl⟩
    | exact Or.inr fun _ => ⟨rfl, rfl⟩
    | split
    | dsimp only

theorem execAdaptEngineFault_keep (e : Nat) (c : EngineCond) (s : State) {t : State} (h : execAdaptEngineFault e c s = .next t) : Keep 0x36b9bb25b8a s t := by
  unfold execAdaptEngineFault at h
  injection h with h
  subst h
  repeat' first
    | with_reducible refine Keep.ite ?_ ?_
    | intro u hu
    | with_reducible apply State.adaptFault_keep
    | with_reducible apply State.faultRow_keep
    | with_reducible apply State.follow_keep
    | with_reducible exact Keep.refl _ _
    | with_reducible assumption
    | exact rfl
    | exact id
    | exact Or.inl rfl
    | exact Or.inr rfl
    | exact Or.inr (List.prefix_refl _)
    | exact Or.inr fun _ => rfl
    | exact Or.inr ⟨rfl, rfl, rfl⟩
    | exact Or.inr fun _ => ⟨rfl, rfl, rfl⟩
    | exact Or.inr fun _ => ⟨rfl, rfl⟩
    | split
    | dsimp only

theorem State.clearSwap_keep (s : State) (l : Nat) {k0 : Nat} {z0 : State} (hk : Nat.land 0x30280221b82 k0 = 0x30280221b82) (hz : Keep k0 z0 s) : Keep k0 z0 (State.clearSwap s l) := by
  refine Keep.step ?_ hk hz
  unfold State.clearSwap
  repeat' first
    | with_reducible refine Keep.ite ?_ ?_
    | with_reducible apply State.abandonSwap_keep
    | with_reducible apply State.finishOpt_keep
    | with_reducible apply Keep.modSea
    | with_reducible exact Keep.refl _ _
    | with_reducible assumption
    | exact rfl
    | exact id
    | exact Or.inl rfl
    | exact Or.inr rfl
    | exact Or.inr (List.prefix_refl _)
    | exact Or.inr fun _ => rfl
    | exact Or.inr ⟨rfl, rfl, rfl⟩
    | exact Or.inr fun _ => ⟨rfl, rfl, rfl⟩
    | exact Or.inr fun _ => ⟨rfl, rfl⟩
    | split
    | dsimp only

theorem State.commandSwap_keep (s : State) (l version : Nat) (par : List (Nat × Word)) (t : Ticket) {k0 : Nat} {z0 : State} (hk : Nat.land 0x30280221b82 k0 = 0x30280221b82) (hz : Keep k0 z0 s) :
    Keep k0 z0 (s.commandSwap l version par t) := by
  refine Keep.step ?_ hk hz
  unfold State.commandSwap
  dsimp only
  repeat' first
    | with_reducible refine Keep.ite ?_ ?_
    | with_reducible apply Keep.modSea
    | with_reducible exact Keep.refl _ _
    | exact State.startSwap_keep _ _ _ _ _ _ _ (by assumption) rfl (Keep.refl _ _)
    | exact State.clearSwap_keep _ _ rfl (Keep.refl _ _)
    | exact State.startSwap_keep _ _ _ _ _ _ _ (by assumption) rfl (State.clearSwap_keep _ _ rfl (Keep.refl _ _))
    | exact Keep.getD (fun _ h => State.startSwap_keep _ _ _ _ _ _ _ h rfl (State.clearSwap_keep _ _ rfl (Keep.refl _ _))) (State.clearSwap_keep _ _ rfl (Keep.refl _ _))
    | exact rfl
    | split

theorem procGetSeaPolicy_keep  (a : Sentence) (s : State) {k0 : Nat} {z0 : State} (hk : Nat.land 0x420000001b80 k0 = 0x420000001b80) (hz : Keep k0 z0 s) : Keep k0 z0 (procGetSeaPolicy  a s) := by
  refine Keep.step ?_ hk hz
  unfold procGetSeaPolicy
  refine process_keep _ _ _ _ _ _ 0x0 (fun u ws => ?_) rfl rfl rfl (Keep.refl _ _)
  repeat' first
    | exact getAct_keep ..

theorem execGetSeaPolicy_keep (m : Sentence) (s : State) {t : State} (h : execGetSeaPolicy m s = .next t) : Keep 0x420000001b80 s t := by
  unfold execGetSeaPolicy at h
  injection h with h
  subst h
  repeat' first
    | with_reducible refine Keep.ite ?_ ?_
    | intro u hu
    | with_reducible apply submit_keep
    | with_reducible apply procGetSeaPolicy_keep
    | with_reducible exact Keep.refl _ _
    | with_reducible assumption
    | exact rfl
    | exact id
    | exact Or.inl rfl
    | exact Or.inr rfl
    | exact Or.inr (List.prefix_refl _)
    | exact Or.inr fun _ => rfl
    | exact Or.inr ⟨rfl, rfl, rfl⟩
    | exact Or.inr fun _ => ⟨rfl, rfl, rfl⟩
    | exact Or.inr fun _ => ⟨rfl, rfl⟩
    | split
    | dsimp only

theorem actPolicy_keep (s : State) (m : Sentence) (ws : List Word) {k0 : Nat} {z0 : State} (hk : Nat.land 0x3639bb35b8a k0 = 0x3639bb35b8a) (hz : Keep k0 z0 s) : Keep k0 z0 (actPolicy s m ws).1 := by
  refine Keep.step ?_ hk hz
  unfold actPolicy
  repeat' first
    | with_reducible refine Keep.ite ?_ ?_
    | intro u hu
    | with_reducible apply State.setParams_keep
    | with_reducible apply State.replanFor_keep
    | with_reducible apply State.follow_keep
    | with_reducible exact Keep.refl _ _
    | with_reducible assumption
    | exact rfl
    | exact id
    | exact Or.inl rfl
    | exact Or.inr rfl
    | exact Or.inr (List.prefix_refl _)
    | exact Or.inr fun _ => rfl
    | exact Or.inr ⟨rfl, rfl, rfl⟩
    | exact Or.inr fun _ => ⟨rfl, rfl, rfl⟩
    | exact Or.inr fun _ => ⟨rfl, rfl⟩
    | split
    | dsimp only

theorem procSetSeaPolicy_keep  (a : Sentence) (s : State) {k0 : Nat} {z0 : State} (hk : Nat.land 0x43639bb35b8a k0 = 0x43639bb35b8a) (hz : Keep k0 z0 s) : Keep k0 z0 (procSetSeaPolicy  a s) := by
  refine Keep.step ?_ hk hz
  unfold procSetSeaPolicy
  refine process_keep _ _ _ _ _ _ 0x3639bb35b8a (fun u ws => ?_) rfl rfl rfl (Keep.refl _ _)
  repeat' first
    | with_reducible refine Keep.ite ?_ ?_
    | intro u hu
    | with_reducible apply actPolicy_keep
    | with_reducible exact Keep.refl _ _
    | with_reducible assumption
    | exact rfl
    | exact id
    | exact Or.inl rfl
    | exact Or.inr rfl
    | exact Or.inr (List.prefix_refl _)
    | exact Or.inr fun _ => rfl
    | exact Or.inr ⟨rfl, rfl, rfl⟩
    | exact Or.inr fun _ => ⟨rfl, rfl, rfl⟩
    | exact Or.inr fun _ => ⟨rfl, rfl⟩
    | split
    | dsimp only

theorem execSetSeaPolicy_keep (m : Sentence) (s : State) {t : State} (h : execSetSeaPolicy m s = .next t) : Keep 0x43639bb35b8a s t := by
  unfold execSetSeaPolicy at h
  injection h with h
  subst h
  repeat' first
    | with_reducible refine Keep.ite ?_ ?_
    | intro u hu
    | with_reducible apply submit_keep
    | with_reducible apply procSetSeaPolicy_keep
    | with_reducible exact Keep.refl _ _
    | with_reducible assumption
    | exact rfl
    | exact id
    | exact Or.inl rfl
    | exact Or.inr rfl
    | exact Or.inr (List.prefix_refl _)
    | exact Or.inr fun _ => rfl
    | exact Or.inr ⟨rfl, rfl, rfl⟩
    | exact Or.inr fun _ => ⟨rfl, rfl, rfl⟩
    | exact Or.inr fun _ => ⟨rfl, rfl⟩
    | split
    | dsimp only

theorem procGetSeaHinge_keep  (a : Sentence) (s : State) {k0 : Nat} {z0 : State} (hk : Nat.land 0x420000001b80 k0 = 0x420000001b80) (hz : Keep k0 z0 s) : Keep k0 z0 (procGetSeaHinge  a s) := by
  refine Keep.step ?_ hk hz
  unfold procGetSeaHinge
  refine process_keep _ _ _ _ _ _ 0x0 (fun u ws => ?_) rfl rfl rfl (Keep.refl _ _)
  repeat' first
    | exact getAct_keep ..

theorem execGetSeaHinge_keep (m : Sentence) (s : State) {t : State} (h : execGetSeaHinge m s = .next t) : Keep 0x420000001b80 s t := by
  unfold execGetSeaHinge at h
  injection h with h
  subst h
  repeat' first
    | with_reducible refine Keep.ite ?_ ?_
    | intro u hu
    | with_reducible apply submit_keep
    | with_reducible apply procGetSeaHinge_keep
    | with_reducible exact Keep.refl _ _
    | with_reducible assumption
    | exact rfl
    | exact id
    | exact Or.inl rfl
    | exact Or.inr rfl
    | exact Or.inr (List.prefix_refl _)
    | exact Or.inr fun _ => rfl
    | exact Or.inr ⟨rfl, rfl, rfl⟩
    | exact Or.inr fun _ => ⟨rfl, rfl, rfl⟩
    | exact Or.inr fun _ => ⟨rfl, rfl⟩
    | split
    | dsimp only

theorem procSetSeaHinge_keep  (a : Sentence) (s : State) {k0 : Nat} {z0 : State} (hk : Nat.land 0x420000011b80 k0 = 0x420000011b80) (hz : Keep k0 z0 s) : Keep k0 z0 (procSetSeaHinge  a s) := by
  refine Keep.step ?_ hk hz
  unfold procSetSeaHinge
  refine process_keep _ _ _ _ _ _ 0x10000 (fun u ws => ?_) rfl rfl rfl (Keep.refl _ _)
  repeat' first
    | with_reducible refine Keep.ite ?_ ?_
    | intro u hu
    | with_reducible apply State.setParams_keep
    | with_reducible exact Keep.refl _ _
    | with_reducible assumption
    | exact rfl
    | exact id
    | exact Or.inl rfl
    | exact Or.inr rfl
    | exact Or.inr (List.prefix_refl _)
    | exact Or.inr fun _ => rfl
    | exact Or.inr ⟨rfl, rfl, rfl⟩
    | exact Or.inr fun _ => ⟨rfl, rfl, rfl⟩
    | exact Or.inr fun _ => ⟨rfl, rfl⟩
    | split
    | dsimp only

theorem execSetSeaHinge_keep (m : Sentence) (s : State) {t : State} (h : execSetSeaHinge m s = .next t) : Keep 0x420000011b80 s t := by
  unfold execSetSeaHinge at h
  injection h with h
  subst h
  repeat' first
    | with_reducible refine Keep.ite ?_ ?_
    | intro u hu
    | with_reducible apply submit_keep
    | with_reducible apply procSetSeaHinge_keep
    | with_reducible exact Keep.refl _ _
    | with_reducible assumption
    | exact rfl
    | exact id
    | exact Or.inl rfl
    | exact Or.inr rfl
    | exact Or.inr (List.prefix_refl _)
    | exact Or.inr fun _ => rfl
    | exact Or.inr ⟨rfl, rfl, rfl⟩
    | exact Or.inr fun _ => ⟨rfl, rfl, rfl⟩
    | exact Or.inr fun _ => ⟨rfl, rfl⟩
    | split
    | dsimp only

theorem procGetSeaPlacement_keep  (a : Sentence) (s : State) {k0 : Nat} {z0 : State} (hk : Nat.land 0x420000001b80 k0 = 0x420000001b80) (hz : Keep k0 z0 s) : Keep k0 z0 (procGetSeaPlacement  a s) := by
  refine Keep.step ?_ hk hz
  unfold procGetSeaPlacement
  refine process_keep _ _ _ _ _ _ 0x0 (fun u ws => ?_) rfl rfl rfl (Keep.refl _ _)
  repeat' first
    | exact getAct_keep ..

theorem execGetSeaPlacement_keep (m : Sentence) (s : State) {t : State} (h : execGetSeaPlacement m s = .next t) : Keep 0x420000001b80 s t := by
  unfold execGetSeaPlacement at h
  injection h with h
  subst h
  repeat' first
    | with_reducible refine Keep.ite ?_ ?_
    | intro u hu
    | with_reducible apply submit_keep
    | with_reducible apply procGetSeaPlacement_keep
    | with_reducible exact Keep.refl _ _
    | with_reducible assumption
    | exact rfl
    | exact id
    | exact Or.inl rfl
    | exact Or.inr rfl
    | exact Or.inr (List.prefix_refl _)
    | exact Or.inr fun _ => rfl
    | exact Or.inr ⟨rfl, rfl, rfl⟩
    | exact Or.inr fun _ => ⟨rfl, rfl, rfl⟩
    | exact Or.inr fun _ => ⟨rfl, rfl⟩
    | split
    | dsimp only

theorem procGetSeaEngines_keep  (a : Sentence) (s : State) {k0 : Nat} {z0 : State} (hk : Nat.land 0x420000001b80 k0 = 0x420000001b80) (hz : Keep k0 z0 s) : Keep k0 z0 (procGetSeaEngines  a s) := by
  refine Keep.step ?_ hk hz
  unfold procGetSeaEngines
  refine process_keep _ _ _ _ _ _ 0x0 (fun u ws => ?_) rfl rfl rfl (Keep.refl _ _)
  repeat' first
    | exact getAct_keep ..

theorem execGetSeaEngines_keep (m : Sentence) (s : State) {t : State} (h : execGetSeaEngines m s = .next t) : Keep 0x420000001b80 s t := by
  unfold execGetSeaEngines at h
  injection h with h
  subst h
  repeat' first
    | with_reducible refine Keep.ite ?_ ?_
    | intro u hu
    | with_reducible apply submit_keep
    | with_reducible apply procGetSeaEngines_keep
    | with_reducible exact Keep.refl _ _
    | with_reducible assumption
    | exact rfl
    | exact id
    | exact Or.inl rfl
    | exact Or.inr rfl
    | exact Or.inr (List.prefix_refl _)
    | exact Or.inr fun _ => rfl
    | exact Or.inr ⟨rfl, rfl, rfl⟩
    | exact Or.inr fun _ => ⟨rfl, rfl, rfl⟩
    | exact Or.inr fun _ => ⟨rfl, rfl⟩
    | split
    | dsimp only

theorem procGetSeaKernel_keep  (a : Sentence) (s : State) {k0 : Nat} {z0 : State} (hk : Nat.land 0x420000001b80 k0 = 0x420000001b80) (hz : Keep k0 z0 s) : Keep k0 z0 (procGetSeaKernel  a s) := by
  refine Keep.step ?_ hk hz
  unfold procGetSeaKernel
  refine process_keep _ _ _ _ _ _ 0x0 (fun u ws => ?_) rfl rfl rfl (Keep.refl _ _)
  repeat' first
    | exact getAct_keep ..

theorem execGetSeaKernel_keep (m : Sentence) (s : State) {t : State} (h : execGetSeaKernel m s = .next t) : Keep 0x420000001b80 s t := by
  unfold execGetSeaKernel at h
  injection h with h
  subst h
  repeat' first
    | with_reducible refine Keep.ite ?_ ?_
    | intro u hu
    | with_reducible apply submit_keep
    | with_reducible apply procGetSeaKernel_keep
    | with_reducible exact Keep.refl _ _
    | with_reducible assumption
    | exact rfl
    | exact id
    | exact Or.inl rfl
    | exact Or.inr rfl
    | exact Or.inr (List.prefix_refl _)
    | exact Or.inr fun _ => rfl
    | exact Or.inr ⟨rfl, rfl, rfl⟩
    | exact Or.inr fun _ => ⟨rfl, rfl, rfl⟩
    | exact Or.inr fun _ => ⟨rfl, rfl⟩
    | split
    | dsimp only

theorem actSelect_keep (s : State) (m : Sentence) (ws : List Word) {k0 : Nat} {z0 : State} (hk : Nat.land 0x3629bb25b8a k0 = 0x3629bb25b8a) (hz : Keep k0 z0 s) : Keep k0 z0 (actSelect s m ws).1 := by
  refine Keep.step ?_ hk hz
  unfold actSelect
  repeat' first
    | with_reducible refine Keep.ite ?_ ?_
    | intro u hu
    | with_reducible apply State.commandSwap_keep
    | with_reducible apply State.follow_keep
    | with_reducible apply Keep.modSea
    | with_reducible exact Keep.refl _ _
    | with_reducible assumption
    | exact rfl
    | exact id
    | exact Or.inl rfl
    | exact Or.inr rfl
    | exact Or.inr (List.prefix_refl _)
    | exact Or.inr fun _ => rfl
    | exact Or.inr ⟨rfl, rfl, rfl⟩
    | exact Or.inr fun _ => ⟨rfl, rfl, rfl⟩
    | exact Or.inr fun _ => ⟨rfl, rfl⟩
    | split
    | dsimp only

theorem procSelectSeaKernel_keep  (a : Sentence) (s : State) {k0 : Nat} {z0 : State} (hk : Nat.land 0x43629bb25b8a k0 = 0x43629bb25b8a) (hz : Keep k0 z0 s) : Keep k0 z0 (procSelectSeaKernel  a s) := by
  refine Keep.step ?_ hk hz
  unfold procSelectSeaKernel
  refine process_keep _ _ _ _ _ _ 0x3629bb25b8a (fun u ws => ?_) rfl rfl rfl (Keep.refl _ _)
  repeat' first
    | with_reducible refine Keep.ite ?_ ?_
    | intro u hu
    | with_reducible apply actSelect_keep
    | with_reducible exact Keep.refl _ _
    | with_reducible assumption
    | exact rfl
    | exact id
    | exact Or.inl rfl
    | exact Or.inr rfl
    | exact Or.inr (List.prefix_refl _)
    | exact Or.inr fun _ => rfl
    | exact Or.inr ⟨rfl, rfl, rfl⟩
    | exact Or.inr fun _ => ⟨rfl, rfl, rfl⟩
    | exact Or.inr fun _ => ⟨rfl, rfl⟩
    | split
    | dsimp only

theorem execSelectSeaKernel_keep (m : Sentence) (s : State) {t : State} (h : execSelectSeaKernel m s = .next t) : Keep 0x43629bb25b8a s t := by
  unfold execSelectSeaKernel at h
  injection h with h
  subst h
  repeat' first
    | with_reducible refine Keep.ite ?_ ?_
    | intro u hu
    | with_reducible apply submit_keep
    | with_reducible apply procSelectSeaKernel_keep
    | with_reducible exact Keep.refl _ _
    | with_reducible assumption
    | exact rfl
    | exact id
    | exact Or.inl rfl
    | exact Or.inr rfl
    | exact Or.inr (List.prefix_refl _)
    | exact Or.inr fun _ => rfl
    | exact Or.inr ⟨rfl, rfl, rfl⟩
    | exact Or.inr fun _ => ⟨rfl, rfl, rfl⟩
    | exact Or.inr fun _ => ⟨rfl, rfl⟩
    | split
    | dsimp only

theorem procGetSeaKparam_keep  (a : Sentence) (s : State) {k0 : Nat} {z0 : State} (hk : Nat.land 0x420000001b80 k0 = 0x420000001b80) (hz : Keep k0 z0 s) : Keep k0 z0 (procGetSeaKparam  a s) := by
  refine Keep.step ?_ hk hz
  unfold procGetSeaKparam
  refine process_keep _ _ _ _ _ _ 0x0 (fun u ws => ?_) rfl rfl rfl (Keep.refl _ _)
  repeat' first
    | exact getAct_keep ..

theorem execGetSeaKparam_keep (m : Sentence) (s : State) {t : State} (h : execGetSeaKparam m s = .next t) : Keep 0x420000001b80 s t := by
  unfold execGetSeaKparam at h
  injection h with h
  subst h
  repeat' first
    | with_reducible refine Keep.ite ?_ ?_
    | intro u hu
    | with_reducible apply submit_keep
    | with_reducible apply procGetSeaKparam_keep
    | with_reducible exact Keep.refl _ _
    | with_reducible assumption
    | exact rfl
    | exact id
    | exact Or.inl rfl
    | exact Or.inr rfl
    | exact Or.inr (List.prefix_refl _)
    | exact Or.inr fun _ => rfl
    | exact Or.inr ⟨rfl, rfl, rfl⟩
    | exact Or.inr fun _ => ⟨rfl, rfl, rfl⟩
    | exact Or.inr fun _ => ⟨rfl, rfl⟩
    | split
    | dsimp only

theorem actKparam_keep (s : State) (m : Sentence) (ws : List Word) {k0 : Nat} {z0 : State} (hk : Nat.land 0x3629bb35b8a k0 = 0x3629bb35b8a) (hz : Keep k0 z0 s) :
    Keep k0 z0 (actKparam s m ws).1 := by
  refine Keep.step ?_ hk hz
  rw [actKparam.eq_1]
  dsimp only
  have h1 : Keep 0x3629bb35b8a s (setAct nSeaKparam s m ws).1 := setAct_keep _ _ _ _ rfl (Keep.refl _ _)
  generalize (setAct nSeaKparam s m ws).1 = s1 at h1
  have h2 : Keep 0x3629bb35b8a s (s.applyChanges nSeaKparam m.inst.toNat ((maskChanges nSeaKparam m ws).filter fun c => !bySwap c.1)) :=
    State.applyChanges_keep _ _ _ _ rfl (Keep.refl _ _)
  generalize s.applyChanges nSeaKparam m.inst.toNat ((maskChanges nSeaKparam m ws).filter fun c => !bySwap c.1) = s2 at h2
  generalize (maskChanges nSeaKparam m ws).filter (fun c => bySwap c.1) = ps
  have h3 : Keep 0x3629bb35b8a s (s2.commandSwap m.inst.toNat (s.lineAt m.inst.toNat).sea.version ps (ticketOf m)).follow :=
    State.follow_keep _ rfl (State.commandSwap_keep _ _ _ _ _ rfl h2)
  generalize (s2.commandSwap m.inst.toNat (s.lineAt m.inst.toNat).sea.version ps (ticketOf m)).follow = s3 at h3
  cases swapFollows s m ws
  · exact h1
  · exact h3

theorem procSetSeaKparam_keep  (a : Sentence) (s : State) {k0 : Nat} {z0 : State} (hk : Nat.land 0x43629bb35b8a k0 = 0x43629bb35b8a) (hz : Keep k0 z0 s) : Keep k0 z0 (procSetSeaKparam  a s) := by
  refine Keep.step ?_ hk hz
  unfold procSetSeaKparam
  refine process_keep _ _ _ _ _ _ 0x3629bb35b8a (fun u ws => ?_) rfl rfl rfl (Keep.refl _ _)
  repeat' first
    | with_reducible refine Keep.ite ?_ ?_
    | intro u hu
    | with_reducible apply actKparam_keep
    | with_reducible exact Keep.refl _ _
    | with_reducible assumption
    | exact rfl
    | exact id
    | exact Or.inl rfl
    | exact Or.inr rfl
    | exact Or.inr (List.prefix_refl _)
    | exact Or.inr fun _ => rfl
    | exact Or.inr ⟨rfl, rfl, rfl⟩
    | exact Or.inr fun _ => ⟨rfl, rfl, rfl⟩
    | exact Or.inr fun _ => ⟨rfl, rfl⟩
    | split
    | dsimp only

theorem execSetSeaKparam_keep (m : Sentence) (s : State) {t : State} (h : execSetSeaKparam m s = .next t) : Keep 0x43629bb35b8a s t := by
  unfold execSetSeaKparam at h
  injection h with h
  subst h
  repeat' first
    | with_reducible refine Keep.ite ?_ ?_
    | intro u hu
    | with_reducible apply submit_keep
    | with_reducible apply procSetSeaKparam_keep
    | with_reducible exact Keep.refl _ _
    | with_reducible assumption
    | exact rfl
    | exact id
    | exact Or.inl rfl
    | exact Or.inr rfl
    | exact Or.inr (List.prefix_refl _)
    | exact Or.inr fun _ => rfl
    | exact Or.inr ⟨rfl, rfl, rfl⟩
    | exact Or.inr fun _ => ⟨rfl, rfl, rfl⟩
    | exact Or.inr fun _ => ⟨rfl, rfl⟩
    | split
    | dsimp only

theorem execInnerCodewordDecode_keep (l : Nat) (ys after : List Int) (s : State) {t : State}
    (h : execInnerCodewordDecode l ys after s = .next t) : Keep 0x420000 s t := by
  unfold execInnerCodewordDecode at h
  injection h with h
  subst h
  refine Keep.ite ?_ (Keep.refl _ _)
  dsimp only
  generalize (if (s.lineAt l).sdf.nextQ = 0 then s.detect l (ys ++ after) else (s.lineAt l).sdf.soft) = soft
  generalize codewordOf _ _ soft = w
  generalize syndrome w.1 = y
  generalize chase w.1 w.2 (s.parN nSdfCfg l 6) = c
  generalize hs0 : (s.modSdf l fun y => { y with soft := soft, nextQ := ((s.lineAt l).sdf.nextQ + 1) % 4 }) = s0
  have h0 : Keep 0x420000 s s0 := hs0 ▸ Keep.modSdf rfl (Keep.refl _ _)
  have h1 : Keep 0x420000 s (s0.bump gSdf l 0) := Keep.bump rfl h0
  have h2 : Keep 0x420000 s (if y = 0 then (s0.bump gSdf l 0).bump gSdf l 1 else s0.bump gSdf l 0) := Keep.ite (Keep.bump rfl h1) h1
  cases c with
  | none => exact Keep.modSdf rfl (Keep.bump rfl h2)
  | some p => exact Keep.modSdf rfl (Keep.ite h2 (Keep.bumpBy rfl (Keep.bump rfl h2)))

theorem State.sdfLock_keep (s : State) (l : Nat) (offs starts : List Nat) (first : Nat) (skews : List Int) {k0 : Nat} {z0 : State} (hk : Nat.land 0x200205e9b82 k0 = 0x200205e9b82) (hz : Keep k0 z0 s) : Keep k0 z0 (State.sdfLock s l offs starts first skews) := by
  refine Keep.step ?_ hk hz
  unfold State.sdfLock
  repeat' first
    | with_reducible refine Keep.ite ?_ ?_
    | with_reducible refine Keep.foldl _ ?_ ?_
    | intro u x hu
    | intro u hu
    | with_reducible apply State.raise_keep
    | with_reducible apply State.lineTryUp_keep
    | with_reducible apply Keep.modSdf
    | with_reducible exact Keep.refl _ _
    | with_reducible assumption
    | exact rfl
    | exact id
    | exact Or.inl rfl
    | exact Or.inr rfl
    | exact Or.inr (List.prefix_refl _)
    | exact Or.inr fun _ => rfl
    | exact Or.inr ⟨rfl, rfl, rfl⟩
    | exact Or.inr fun _ => ⟨rfl, rfl, rfl⟩
    | exact Or.inr fun _ => ⟨rfl, rfl⟩
    | split
    | dsimp only

theorem execHuntTestDone_keep (l : Nat) (hard : List (List (Bool × Bool))) (rel : List (List (Nat × Nat))) (skews : List Int) (s : State) {t : State} (h : execHuntTestDone l hard rel skews s = .next t) : Keep 0x2603bdedb8a s t := by
  unfold execHuntTestDone at h
  injection h with h
  subst h
  repeat' first
    | with_reducible refine Keep.ite ?_ ?_
    | intro u hu
    | with_reducible apply State.sdfLock_keep
    | with_reducible apply State.follow_keep
    | with_reducible apply Keep.bump
    | with_reducible apply Keep.modSdf
    | with_reducible exact Keep.refl _ _
    | with_reducible assumption
    | exact rfl
    | exact id
    | exact Or.inl rfl
    | exact Or.inr rfl
    | exact Or.inr (List.prefix_refl _)
    | exact Or.inr fun _ => rfl
    | exact Or.inr ⟨rfl, rfl, rfl⟩
    | exact Or.inr fun _ => ⟨rfl, rfl, rfl⟩
    | exact Or.inr fun _ => ⟨rfl, rfl⟩
    | split
    | dsimp only

theorem State.sdfLost_keep (s : State) (l cause : Nat) {k0 : Nat} {z0 : State} (hk : Nat.land 0x2c5e0300 k0 = 0x2c5e0300) (hz : Keep k0 z0 s) : Keep k0 z0 (State.sdfLost s l cause) := by
  refine Keep.step ?_ hk hz
  unfold State.sdfLost
  repeat' first
    | with_reducible refine Keep.ite ?_ ?_
    | with_reducible apply State.lockEnd_keep
    | with_reducible apply State.faultWarm_keep
    | with_reducible exact Keep.refl _ _
    | with_reducible assumption
    | exact rfl
    | exact id
    | exact Or.inl rfl
    | exact Or.inr rfl
    | exact Or.inr (List.prefix_refl _)
    | exact Or.inr fun _ => rfl
    | exact Or.inr ⟨rfl, rfl, rfl⟩
    | exact Or.inr fun _ => ⟨rfl, rfl, rfl⟩
    | exact Or.inr fun _ => ⟨rfl, rfl⟩
    | split
    | dsimp only

theorem execLockWindowEnd_keep (l : Nat) (zeros : List Nat) (s : State) {t : State} (h : execLockWindowEnd l zeros s = .next t) : Keep 0x2603fde5b08 s t := by
  unfold execLockWindowEnd at h
  injection h with h
  subst h
  repeat' first
    | with_reducible refine Keep.ite ?_ ?_
    | intro u hu
    | with_reducible apply State.sdfLost_keep
    | with_reducible apply State.follow_keep
    | with_reducible apply Keep.modSdf
    | with_reducible exact Keep.refl _ _
    | with_reducible assumption
    | exact rfl
    | exact id
    | exact Or.inl rfl
    | exact Or.inr rfl
    | exact Or.inr (List.prefix_refl _)
    | exact Or.inr fun _ => rfl
    | exact Or.inr ⟨rfl, rfl, rfl⟩
    | exact Or.inr fun _ => ⟨rfl, rfl, rfl⟩
    | exact Or.inr fun _ => ⟨rfl, rfl⟩
    | split
    | dsimp only

theorem execRsCodewordDecode_keep (l : Nat) (r : List Nat) (s : State) {t : State} (h : execRsCodewordDecode l r s = .next t) : Keep 0x420000 s t := by
  unfold execRsCodewordDecode at h
  injection h with h
  subst h
  repeat' first
    | with_reducible refine Keep.ite ?_ ?_
    | intro u hu
    | with_reducible apply Keep.bump
    | with_reducible apply Keep.modSdf
    | with_reducible apply Keep.bumpBy
    | with_reducible exact Keep.refl _ _
    | with_reducible assumption
    | exact rfl
    | exact id
    | exact Or.inl rfl
    | exact Or.inr rfl
    | exact Or.inr (List.prefix_refl _)
    | exact Or.inr fun _ => rfl
    | exact Or.inr ⟨rfl, rfl, rfl⟩
    | exact Or.inr fun _ => ⟨rfl, rfl, rfl⟩
    | exact Or.inr fun _ => ⟨rfl, rfl⟩
    | split
    | dsimp only

theorem State.adaptTable_keep (s : State) (l : Nat) (syms : List (Nat × Int)) {k0 : Nat} {z0 : State} (hk : Nat.land 0x400000 k0 = 0x400000) (hz : Keep k0 z0 s) : Keep k0 z0 (State.adaptTable s l syms) := by
  refine Keep.step ?_ hk hz
  unfold State.adaptTable
  repeat' first
    | with_reducible refine Keep.ite ?_ ?_
    | with_reducible refine Keep.foldl _ ?_ ?_
    | intro u x hu
    | with_reducible apply Keep.modSdf
    | with_reducible exact Keep.refl _ _
    | with_reducible assumption
    | exact rfl
    | exact id
    | exact Or.inl rfl
    | exact Or.inr rfl
    | exact Or.inr (List.prefix_refl _)
    | exact Or.inr fun _ => rfl
    | exact Or.inr ⟨rfl, rfl, rfl⟩
    | exact Or.inr fun _ => ⟨rfl, rfl, rfl⟩
    | exact Or.inr fun _ => ⟨rfl, rfl⟩
    | split
    | dsimp only

theorem execSdfPeriodEnd_keep (l : Nat) (s : State) (syms : List (Nat × Int)) {t : State} (h : execSdfPeriodEnd l s syms = .next t) : Keep 0x400302 s t := by
  unfold execSdfPeriodEnd at h
  injection h with h
  subst h
  repeat' first
    | with_reducible refine Keep.ite ?_ ?_
    | intro u hu
    | with_reducible apply State.freeSkip_keep
    | with_reducible apply State.raise_keep
    | with_reducible apply State.adaptTable_keep
    | with_reducible apply Keep.modSdf
    | with_reducible exact Keep.refl _ _
    | with_reducible assumption
    | exact rfl
    | exact id
    | exact Or.inl rfl
    | exact Or.inr rfl
    | exact Or.inr (List.prefix_refl _)
    | exact Or.inr fun _ => rfl
    | exact Or.inr ⟨rfl, rfl, rfl⟩
    | exact Or.inr fun _ => ⟨rfl, rfl, rfl⟩
    | exact Or.inr fun _ => ⟨rfl, rfl⟩
    | split
    | dsimp only

theorem State.boundCheck_keep (s : State) (port fault ns : Nat) {k0 : Nat} {z0 : State} (hk : Nat.land 0x10000000300 k0 = 0x10000000300) (hz : Keep k0 z0 s) : Keep k0 z0 (State.boundCheck s port fault ns) := by
  refine Keep.step ?_ hk hz
  unfold State.boundCheck
  try simp -zeta only [State.fold_tst]
  repeat' first
    | with_reducible refine Keep.ite ?_ ?_
    | with_reducible apply State.raise_keep
    | with_reducible apply Keep.set_tst
    | with_reducible exact Keep.refl _ _
    | with_reducible assumption
    | exact rfl
    | exact id
    | exact Or.inl rfl
    | exact Or.inr rfl
    | exact Or.inr (List.prefix_refl _)
    | exact Or.inr fun _ => rfl
    | exact Or.inr ⟨rfl, rfl, rfl⟩
    | exact Or.inr fun _ => ⟨rfl, rfl, rfl⟩
    | exact Or.inr fun _ => ⟨rfl, rfl⟩
    | split
    | dsimp only

theorem execFixedStageFault_keep (st : FixedStage) (unit ns : Nat) (s : State) {t : State} (h : execFixedStageFault st unit ns s = .next t) : Keep 0x3601b90db08 s t := by
  unfold execFixedStageFault at h
  injection h with h
  subst h
  repeat' first
    | with_reducible refine Keep.ite ?_ ?_
    | intro u hu
    | with_reducible apply State.boundCheck_keep
    | with_reducible apply State.interpReport_keep
    | with_reducible apply State.report_keep
    | with_reducible apply State.follow_keep
    | with_reducible exact Keep.refl _ _
    | with_reducible assumption
    | exact rfl
    | exact id
    | exact Or.inl rfl
    | exact Or.inr rfl
    | exact Or.inr (List.prefix_refl _)
    | exact Or.inr fun _ => rfl
    | exact Or.inr ⟨rfl, rfl, rfl⟩
    | exact Or.inr fun _ => ⟨rfl, rfl, rfl⟩
    | exact Or.inr fun _ => ⟨rfl, rfl⟩
    | split
    | dsimp only

theorem procGetSdfCfg_keep  (a : Sentence) (s : State) {k0 : Nat} {z0 : State} (hk : Nat.land 0x420000001b80 k0 = 0x420000001b80) (hz : Keep k0 z0 s) : Keep k0 z0 (procGetSdfCfg  a s) := by
  refine Keep.step ?_ hk hz
  unfold procGetSdfCfg
  refine process_keep _ _ _ _ _ _ 0x0 (fun u ws => ?_) rfl rfl rfl (Keep.refl _ _)
  repeat' first
    | exact getAct_keep ..

theorem execGetSdfCfg_keep (m : Sentence) (s : State) {t : State} (h : execGetSdfCfg m s = .next t) : Keep 0x420000001b80 s t := by
  unfold execGetSdfCfg at h
  injection h with h
  subst h
  repeat' first
    | with_reducible refine Keep.ite ?_ ?_
    | intro u hu
    | with_reducible apply submit_keep
    | with_reducible apply procGetSdfCfg_keep
    | with_reducible exact Keep.refl _ _
    | with_reducible assumption
    | exact rfl
    | exact id
    | exact Or.inl rfl
    | exact Or.inr rfl
    | exact Or.inr (List.prefix_refl _)
    | exact Or.inr fun _ => rfl
    | exact Or.inr ⟨rfl, rfl, rfl⟩
    | exact Or.inr fun _ => ⟨rfl, rfl, rfl⟩
    | exact Or.inr fun _ => ⟨rfl, rfl⟩
    | split
    | dsimp only

theorem procSetSdfCfg_keep  (a : Sentence) (s : State) {k0 : Nat} {z0 : State} (hk : Nat.land 0x420000011b80 k0 = 0x420000011b80) (hz : Keep k0 z0 s) : Keep k0 z0 (procSetSdfCfg  a s) := by
  refine Keep.step ?_ hk hz
  unfold procSetSdfCfg
  refine process_keep _ _ _ _ _ _ 0x10000 (fun u ws => ?_) rfl rfl rfl (Keep.refl _ _)
  repeat' first
    | with_reducible refine Keep.ite ?_ ?_
    | intro u hu
    | with_reducible apply setAct_keep
    | with_reducible exact Keep.refl _ _
    | with_reducible assumption
    | exact rfl
    | exact id
    | exact Or.inl rfl
    | exact Or.inr rfl
    | exact Or.inr (List.prefix_refl _)
    | exact Or.inr fun _ => rfl
    | exact Or.inr ⟨rfl, rfl, rfl⟩
    | exact Or.inr fun _ => ⟨rfl, rfl, rfl⟩
    | exact Or.inr fun _ => ⟨rfl, rfl⟩
    | split
    | dsimp only

theorem execSetSdfCfg_keep (m : Sentence) (s : State) {t : State} (h : execSetSdfCfg m s = .next t) : Keep 0x420000011b80 s t := by
  unfold execSetSdfCfg at h
  injection h with h
  subst h
  repeat' first
    | with_reducible refine Keep.ite ?_ ?_
    | intro u hu
    | with_reducible apply submit_keep
    | with_reducible apply procSetSdfCfg_keep
    | with_reducible exact Keep.refl _ _
    | with_reducible assumption
    | exact rfl
    | exact id
    | exact Or.inl rfl
    | exact Or.inr rfl
    | exact Or.inr (List.prefix_refl _)
    | exact Or.inr fun _ => rfl
    | exact Or.inr ⟨rfl, rfl, rfl⟩
    | exact Or.inr fun _ => ⟨rfl, rfl, rfl⟩
    | exact Or.inr fun _ => ⟨rfl, rfl⟩
    | split
    | dsimp only

theorem procGetSdfStatus_keep  (a : Sentence) (s : State) {k0 : Nat} {z0 : State} (hk : Nat.land 0x420000001b80 k0 = 0x420000001b80) (hz : Keep k0 z0 s) : Keep k0 z0 (procGetSdfStatus  a s) := by
  refine Keep.step ?_ hk hz
  unfold procGetSdfStatus
  refine process_keep _ _ _ _ _ _ 0x0 (fun u ws => ?_) rfl rfl rfl (Keep.refl _ _)
  repeat' first
    | exact getAct_keep ..

theorem execGetSdfStatus_keep (m : Sentence) (s : State) {t : State} (h : execGetSdfStatus m s = .next t) : Keep 0x420000001b80 s t := by
  unfold execGetSdfStatus at h
  injection h with h
  subst h
  repeat' first
    | with_reducible refine Keep.ite ?_ ?_
    | intro u hu
    | with_reducible apply submit_keep
    | with_reducible apply procGetSdfStatus_keep
    | with_reducible exact Keep.refl _ _
    | with_reducible assumption
    | exact rfl
    | exact id
    | exact Or.inl rfl
    | exact Or.inr rfl
    | exact Or.inr (List.prefix_refl _)
    | exact Or.inr fun _ => rfl
    | exact Or.inr ⟨rfl, rfl, rfl⟩
    | exact Or.inr fun _ => ⟨rfl, rfl, rfl⟩
    | exact Or.inr fun _ => ⟨rfl, rfl⟩
    | split
    | dsimp only

theorem procGetSdfStats_keep  (a : Sentence) (s : State) {k0 : Nat} {z0 : State} (hk : Nat.land 0x420000001b80 k0 = 0x420000001b80) (hz : Keep k0 z0 s) : Keep k0 z0 (procGetSdfStats  a s) := by
  refine Keep.step ?_ hk hz
  unfold procGetSdfStats
  refine process_keep _ _ _ _ _ _ 0x0 (fun u ws => ?_) rfl rfl rfl (Keep.refl _ _)
  repeat' first
    | exact getAct_keep ..

theorem execGetSdfStats_keep (m : Sentence) (s : State) {t : State} (h : execGetSdfStats m s = .next t) : Keep 0x420000001b80 s t := by
  unfold execGetSdfStats at h
  injection h with h
  subst h
  repeat' first
    | with_reducible refine Keep.ite ?_ ?_
    | intro u hu
    | with_reducible apply submit_keep
    | with_reducible apply procGetSdfStats_keep
    | with_reducible exact Keep.refl _ _
    | with_reducible assumption
    | exact rfl
    | exact id
    | exact Or.inl rfl
    | exact Or.inr rfl
    | exact Or.inr (List.prefix_refl _)
    | exact Or.inr fun _ => rfl
    | exact Or.inr ⟨rfl, rfl, rfl⟩
    | exact Or.inr fun _ => ⟨rfl, rfl, rfl⟩
    | exact Or.inr fun _ => ⟨rfl, rfl⟩
    | split
    | dsimp only

theorem procGetSdfDetector_keep  (a : Sentence) (s : State) {k0 : Nat} {z0 : State} (hk : Nat.land 0x420000001b80 k0 = 0x420000001b80) (hz : Keep k0 z0 s) : Keep k0 z0 (procGetSdfDetector  a s) := by
  refine Keep.step ?_ hk hz
  unfold procGetSdfDetector
  refine process_keep _ _ _ _ _ _ 0x0 (fun u ws => ?_) rfl rfl rfl (Keep.refl _ _)
  repeat' first
    | exact getAct_keep ..

theorem execGetSdfDetector_keep (m : Sentence) (s : State) {t : State} (h : execGetSdfDetector m s = .next t) : Keep 0x420000001b80 s t := by
  unfold execGetSdfDetector at h
  injection h with h
  subst h
  repeat' first
    | with_reducible refine Keep.ite ?_ ?_
    | intro u hu
    | with_reducible apply submit_keep
    | with_reducible apply procGetSdfDetector_keep
    | with_reducible exact Keep.refl _ _
    | with_reducible assumption
    | exact rfl
    | exact id
    | exact Or.inl rfl
    | exact Or.inr rfl
    | exact Or.inr (List.prefix_refl _)
    | exact Or.inr fun _ => rfl
    | exact Or.inr ⟨rfl, rfl, rfl⟩
    | exact Or.inr fun _ => ⟨rfl, rfl, rfl⟩
    | exact Or.inr fun _ => ⟨rfl, rfl⟩
    | split
    | dsimp only

theorem State.restartHunt_keep (s : State) (l : Nat) {k0 : Nat} {z0 : State} (hk : Nat.land 0x2c5e0300 k0 = 0x2c5e0300) (hz : Keep k0 z0 s) : Keep k0 z0 (State.restartHunt s l) := by
  refine Keep.step ?_ hk hz
  unfold State.restartHunt
  repeat' first
    | with_reducible refine Keep.ite ?_ ?_
    | with_reducible apply State.lockEnd_keep
    | with_reducible apply State.huntStart_keep
    | with_reducible apply State.portFail_keep
    | with_reducible apply Keep.modSdf
    | with_reducible apply Keep.modLine
    | with_reducible exact Keep.refl _ _
    | with_reducible assumption
    | exact rfl
    | exact id
    | exact Or.inl rfl
    | exact Or.inr rfl
    | exact Or.inr (List.prefix_refl _)
    | exact Or.inr fun _ => rfl
    | exact Or.inr ⟨rfl, rfl, rfl⟩
    | exact Or.inr fun _ => ⟨rfl, rfl, rfl⟩
    | exact Or.inr fun _ => ⟨rfl, rfl⟩
    | split
    | dsimp only

theorem procRestartSdfHunt_keep  (a : Sentence) (s : State) {k0 : Nat} {z0 : State} (hk : Nat.land 0x42603fde5b88 k0 = 0x42603fde5b88) (hz : Keep k0 z0 s) : Keep k0 z0 (procRestartSdfHunt  a s) := by
  refine Keep.step ?_ hk hz
  unfold procRestartSdfHunt
  refine process_keep _ _ _ _ _ _ 0x2603fde5b08 (fun u ws => ?_) rfl rfl rfl (Keep.refl _ _)
  repeat' first
    | with_reducible refine Keep.ite ?_ ?_
    | intro u hu
    | with_reducible apply State.restartHunt_keep
    | with_reducible apply State.follow_keep
    | with_reducible exact Keep.refl _ _
    | with_reducible assumption
    | exact rfl
    | exact id
    | exact Or.inl rfl
    | exact Or.inr rfl
    | exact Or.inr (List.prefix_refl _)
    | exact Or.inr fun _ => rfl
    | exact Or.inr ⟨rfl, rfl, rfl⟩
    | exact Or.inr fun _ => ⟨rfl, rfl, rfl⟩
    | exact Or.inr fun _ => ⟨rfl, rfl⟩
    | split
    | dsimp only

theorem execRestartSdfHunt_keep (m : Sentence) (s : State) {t : State} (h : execRestartSdfHunt m s = .next t) : Keep 0x42603fde5b88 s t := by
  unfold execRestartSdfHunt at h
  injection h with h
  subst h
  repeat' first
    | with_reducible refine Keep.ite ?_ ?_
    | intro u hu
    | with_reducible apply submit_keep
    | with_reducible apply procRestartSdfHunt_keep
    | with_reducible exact Keep.refl _ _
    | with_reducible assumption
    | exact rfl
    | exact id
    | exact Or.inl rfl
    | exact Or.inr rfl
    | exact Or.inr (List.prefix_refl _)
    | exact Or.inr fun _ => rfl
    | exact Or.inr ⟨rfl, rfl, rfl⟩
    | exact Or.inr fun _ => ⟨rfl, rfl, rfl⟩
    | exact Or.inr fun _ => ⟨rfl, rfl⟩
    | split
    | dsimp only

theorem State.transmit_keep (s : State) (l : Nat) (bits : List Bool) {k0 : Nat} {z0 : State} (hk : Nat.land 0x1800000 k0 = 0x1800000) (hz : Keep k0 z0 s) : Keep k0 z0 (State.transmit s l bits) := by
  refine Keep.step ?_ hk hz
  unfold State.transmit
  repeat' first
    | with_reducible refine Keep.ite ?_ ?_
    | with_reducible refine Keep.foldl _ ?_ ?_
    | intro u x hu
    | intro u hu
    | with_reducible apply Keep.modPlt
    | with_reducible apply Keep.modLtx
    | with_reducible exact Keep.refl _ _
    | with_reducible assumption
    | exact rfl
    | exact id
    | exact Or.inl rfl
    | exact Or.inr rfl
    | exact Or.inr (List.prefix_refl _)
    | exact Or.inr fun _ => rfl
    | exact Or.inr ⟨rfl, rfl, rfl⟩
    | exact Or.inr fun _ => ⟨rfl, rfl, rfl⟩
    | exact Or.inr fun _ => ⟨rfl, rfl⟩
    | split
    | dsimp only

theorem execLtxSettingsApply_keep (l : Nat) (s : State) (bits : List Bool) {t : State} (h : execLtxSettingsApply l s bits = .next t) : Keep 0x1800000 s t := by
  unfold execLtxSettingsApply at h
  injection h with h
  subst h
  repeat' first
    | with_reducible refine Keep.ite ?_ ?_
    | with_reducible refine Keep.foldl _ ?_ ?_
    | intro u x hu
    | intro u hu
    | with_reducible apply State.transmit_keep
    | with_reducible apply Keep.modLtx
    | with_reducible exact Keep.refl _ _
    | with_reducible assumption
    | exact rfl
    | exact id
    | exact Or.inl rfl
    | exact Or.inr rfl
    | exact Or.inr (List.prefix_refl _)
    | exact Or.inr fun _ => rfl
    | exact Or.inr ⟨rfl, rfl, rfl⟩
    | exact Or.inr fun _ => ⟨rfl, rfl, rfl⟩
    | exact Or.inr fun _ => ⟨rfl, rfl⟩
    | split
    | dsimp only

theorem execSwingStep_keep (l : Nat) (s : State) {t : State} (h : execSwingStep l s = .next t) : Keep 0x800000 s t := by
  unfold execSwingStep at h
  injection h with h
  subst h
  repeat' first
    | with_reducible refine Keep.ite ?_ ?_
    | intro u hu
    | with_reducible apply Keep.modLtx
    | with_reducible exact Keep.refl _ _
    | with_reducible assumption
    | exact rfl
    | exact id
    | exact Or.inl rfl
    | exact Or.inr rfl
    | exact Or.inr (List.prefix_refl _)
    | exact Or.inr fun _ => rfl
    | exact Or.inr ⟨rfl, rfl, rfl⟩
    | exact Or.inr fun _ => ⟨rfl, rfl, rfl⟩
    | exact Or.inr fun _ => ⟨rfl, rfl⟩
    | split
    | dsimp only

theorem execDacSettled_keep (l : Nat) (s : State) {t : State} (h : execDacSettled l s = .next t) : Keep 0x2002800300 s t := by
  unfold execDacSettled at h
  injection h with h
  subst h
  repeat' first
    | with_reducible refine Keep.ite ?_ ?_
    | intro u hu
    | with_reducible apply State.opticsAsk_keep
    | with_reducible apply Keep.modLtx
    | with_reducible exact Keep.refl _ _
    | with_reducible assumption
    | exact rfl
    | exact id
    | exact Or.inl rfl
    | exact Or.inr rfl
    | exact Or.inr (List.prefix_refl _)
    | exact Or.inr fun _ => rfl
    | exact Or.inr ⟨rfl, rfl, rfl⟩
    | exact Or.inr fun _ => ⟨rfl, rfl, rfl⟩
    | exact Or.inr fun _ => ⟨rfl, rfl⟩
    | split
    | dsimp only

theorem execOpticsReady_keep (l : Nat) (s : State) {t : State} (h : execOpticsReady l s = .next t) : Keep 0x2601b905b08 s t := by
  unfold execOpticsReady at h
  injection h with h
  subst h
  repeat' first
    | with_reducible refine Keep.ite ?_ ?_
    | intro u hu
    | with_reducible apply State.follow_keep
    | with_reducible apply Keep.modLtx
    | with_reducible exact Keep.refl _ _
    | with_reducible assumption
    | exact rfl
    | exact id
    | exact Or.inl rfl
    | exact Or.inr rfl
    | exact Or.inr (List.prefix_refl _)
    | exact Or.inr fun _ => rfl
    | exact Or.inr ⟨rfl, rfl, rfl⟩
    | exact Or.inr fun _ => ⟨rfl, rfl, rfl⟩
    | exact Or.inr fun _ => ⟨rfl, rfl⟩
    | split
    | dsimp only

theorem execOpticsSettleTimeout_keep (l : Nat) (s : State) {t : State} (h : execOpticsSettleTimeout l s = .next t) : Keep 0x2002800300 s t := by
  unfold execOpticsSettleTimeout at h
  injection h with h
  subst h
  repeat' first
    | with_reducible refine Keep.ite ?_ ?_
    | intro u hu
    | with_reducible apply State.raise_keep
    | with_reducible apply State.opticsStop_keep
    | with_reducible apply Keep.modLtx
    | with_reducible exact Keep.refl _ _
    | with_reducible assumption
    | exact rfl
    | exact id
    | exact Or.inl rfl
    | exact Or.inr rfl
    | exact Or.inr (List.prefix_refl _)
    | exact Or.inr fun _ => rfl
    | exact Or.inr ⟨rfl, rfl, rfl⟩
    | exact Or.inr fun _ => ⟨rfl, rfl, rfl⟩
    | exact Or.inr fun _ => ⟨rfl, rfl⟩
    | split
    | dsimp only

theorem execOpticsRetryTimer_keep (l : Nat) (s : State) {t : State} (h : execOpticsRetryTimer l s = .next t) : Keep 0x800000 s t := by
  unfold execOpticsRetryTimer at h
  injection h with h
  subst h
  repeat' first
    | with_reducible refine Keep.ite ?_ ?_
    | intro u hu
    | with_reducible apply Keep.modLtx
    | with_reducible exact Keep.refl _ _
    | with_reducible assumption
    | exact rfl
    | exact id
    | exact Or.inl rfl
    | exact Or.inr rfl
    | exact Or.inr (List.prefix_refl _)
    | exact Or.inr fun _ => rfl
    | exact Or.inr ⟨rfl, rfl, rfl⟩
    | exact Or.inr fun _ => ⟨rfl, rfl, rfl⟩
    | exact Or.inr fun _ => ⟨rfl, rfl⟩
    | split
    | dsimp only

theorem execRampUpEnd_keep (l : Nat) (s : State) {t : State} (h : execRampUpEnd l s = .next t) : Keep 0x2601b905b08 s t := by
  unfold execRampUpEnd at h
  injection h with h
  subst h
  repeat' first
    | with_reducible refine Keep.ite ?_ ?_
    | intro u hu
    | with_reducible apply State.raise_keep
    | with_reducible apply State.follow_keep
    | with_reducible apply Keep.modLtx
    | with_reducible apply Keep.modPlt
    | with_reducible exact Keep.refl _ _
    | with_reducible assumption
    | exact rfl
    | exact id
    | exact Or.inl rfl
    | exact Or.inr rfl
    | exact Or.inr (List.prefix_refl _)
    | exact Or.inr fun _ => rfl
    | exact Or.inr ⟨rfl, rfl, rfl⟩
    | exact Or.inr fun _ => ⟨rfl, rfl, rfl⟩
    | exact Or.inr fun _ => ⟨rfl, rfl⟩
    | split
    | dsimp only

theorem execRampDownEnd_keep (l : Nat) (s : State) {t : State} (h : execRampDownEnd l s = .next t) : Keep 0x2601b925b88 s t := by
  unfold execRampDownEnd at h
  injection h with h
  subst h
  repeat' first
    | with_reducible refine Keep.ite ?_ ?_
    | intro u hu
    | with_reducible apply State.raise_keep
    | with_reducible apply State.pltTruncate_keep
    | with_reducible apply State.follow_keep
    | with_reducible apply Keep.modLtx
    | with_reducible exact Keep.refl _ _
    | with_reducible assumption
    | exact rfl
    | exact id
    | exact Or.inl rfl
    | exact Or.inr rfl
    | exact Or.inr (List.prefix_refl _)
    | exact Or.inr fun _ => rfl
    | exact Or.inr ⟨rfl, rfl, rfl⟩
    | exact Or.inr fun _ => ⟨rfl, rfl, rfl⟩
    | exact Or.inr fun _ => ⟨rfl, rfl⟩
    | split
    | dsimp only

theorem execOpticsReleaseTimer_keep (l : Nat) (s : State) {t : State} (h : execOpticsReleaseTimer l s = .next t) : Keep 0x2002800300 s t := by
  unfold execOpticsReleaseTimer at h
  injection h with h
  subst h
  repeat' first
    | with_reducible refine Keep.ite ?_ ?_
    | intro u hu
    | with_reducible apply State.opticsStop_keep
    | with_reducible apply Keep.modLtx
    | with_reducible exact Keep.refl _ _
    | with_reducible assumption
    | exact rfl
    | exact id
    | exact Or.inl rfl
    | exact Or.inr rfl
    | exact Or.inr (List.prefix_refl _)
    | exact Or.inr fun _ => rfl
    | exact Or.inr ⟨rfl, rfl, rfl⟩
    | exact Or.inr fun _ => ⟨rfl, rfl, rfl⟩
    | exact Or.inr fun _ => ⟨rfl, rfl⟩
    | split
    | dsimp only

theorem execDacCellFailure_keep (l cell ns : Nat) (s : State) {t : State} (h : execDacCellFailure l cell ns s = .next t) : Keep 0x3603f9e5b08 s t := by
  unfold execDacCellFailure at h
  injection h with h
  subst h
  repeat' first
    | with_reducible refine Keep.ite ?_ ?_
    | intro u hu
    | with_reducible apply State.boundCheck_keep
    | with_reducible apply State.cellFailed_keep
    | with_reducible apply State.follow_keep
    | with_reducible exact Keep.refl _ _
    | with_reducible assumption
    | exact rfl
    | exact id
    | exact Or.inl rfl
    | exact Or.inr rfl
    | exact Or.inr (List.prefix_refl _)
    | exact Or.inr fun _ => rfl
    | exact Or.inr ⟨rfl, rfl, rfl⟩
    | exact Or.inr fun _ => ⟨rfl, rfl, rfl⟩
    | exact Or.inr fun _ => ⟨rfl, rfl⟩
    | split
    | dsimp only

theorem procGetLtxCfg_keep  (a : Sentence) (s : State) {k0 : Nat} {z0 : State} (hk : Nat.land 0x420000001b80 k0 = 0x420000001b80) (hz : Keep k0 z0 s) : Keep k0 z0 (procGetLtxCfg  a s) := by
  refine Keep.step ?_ hk hz
  unfold procGetLtxCfg
  refine process_keep _ _ _ _ _ _ 0x0 (fun u ws => ?_) rfl rfl rfl (Keep.refl _ _)
  repeat' first
    | exact getAct_keep ..

theorem execGetLtxCfg_keep (m : Sentence) (s : State) {t : State} (h : execGetLtxCfg m s = .next t) : Keep 0x420000001b80 s t := by
  unfold execGetLtxCfg at h
  injection h with h
  subst h
  repeat' first
    | with_reducible refine Keep.ite ?_ ?_
    | intro u hu
    | with_reducible apply submit_keep
    | with_reducible apply procGetLtxCfg_keep
    | with_reducible exact Keep.refl _ _
    | with_reducible assumption
    | exact rfl
    | exact id
    | exact Or.inl rfl
    | exact Or.inr rfl
    | exact Or.inr (List.prefix_refl _)
    | exact Or.inr fun _ => rfl
    | exact Or.inr ⟨rfl, rfl, rfl⟩
    | exact Or.inr fun _ => ⟨rfl, rfl, rfl⟩
    | exact Or.inr fun _ => ⟨rfl, rfl⟩
    | split
    | dsimp only

theorem actLtxCfg_keep (s : State) (m : Sentence) (ws : List Word) {k0 : Nat} {z0 : State} (hk : Nat.land 0x2601b915b08 k0 = 0x2601b915b08) (hz : Keep k0 z0 s) : Keep k0 z0 (actLtxCfg s m ws).1 := by
  refine Keep.step ?_ hk hz
  unfold actLtxCfg
  repeat' first
    | with_reducible refine Keep.ite ?_ ?_
    | intro u hu
    | with_reducible apply setAct_keep
    | with_reducible apply State.follow_keep
    | with_reducible apply Keep.modLtx
    | with_reducible exact Keep.refl _ _
    | with_reducible assumption
    | exact rfl
    | exact id
    | exact Or.inl rfl
    | exact Or.inr rfl
    | exact Or.inr (List.prefix_refl _)
    | exact Or.inr fun _ => rfl
    | exact Or.inr ⟨rfl, rfl, rfl⟩
    | exact Or.inr fun _ => ⟨rfl, rfl, rfl⟩
    | exact Or.inr fun _ => ⟨rfl, rfl⟩
    | split
    | dsimp only

theorem procSetLtxCfg_keep  (a : Sentence) (s : State) {k0 : Nat} {z0 : State} (hk : Nat.land 0x42601b915b88 k0 = 0x42601b915b88) (hz : Keep k0 z0 s) : Keep k0 z0 (procSetLtxCfg  a s) := by
  refine Keep.step ?_ hk hz
  unfold procSetLtxCfg
  refine process_keep _ _ _ _ _ _ 0x2601b915b08 (fun u ws => ?_) rfl rfl rfl (Keep.refl _ _)
  repeat' first
    | with_reducible refine Keep.ite ?_ ?_
    | intro u hu
    | with_reducible apply actLtxCfg_keep
    | with_reducible exact Keep.refl _ _
    | with_reducible assumption
    | exact rfl
    | exact id
    | exact Or.inl rfl
    | exact Or.inr rfl
    | exact Or.inr (List.prefix_refl _)
    | exact Or.inr fun _ => rfl
    | exact Or.inr ⟨rfl, rfl, rfl⟩
    | exact Or.inr fun _ => ⟨rfl, rfl, rfl⟩
    | exact Or.inr fun _ => ⟨rfl, rfl⟩
    | split
    | dsimp only

theorem execSetLtxCfg_keep (m : Sentence) (s : State) {t : State} (h : execSetLtxCfg m s = .next t) : Keep 0x42601b915b88 s t := by
  unfold execSetLtxCfg at h
  injection h with h
  subst h
  repeat' first
    | with_reducible refine Keep.ite ?_ ?_
    | intro u hu
    | with_reducible apply submit_keep
    | with_reducible apply procSetLtxCfg_keep
    | with_reducible exact Keep.refl _ _
    | with_reducible assumption
    | exact rfl
    | exact id
    | exact Or.inl rfl
    | exact Or.inr rfl
    | exact Or.inr (List.prefix_refl _)
    | exact Or.inr fun _ => rfl
    | exact Or.inr ⟨rfl, rfl, rfl⟩
    | exact Or.inr fun _ => ⟨rfl, rfl, rfl⟩
    | exact Or.inr fun _ => ⟨rfl, rfl⟩
    | split
    | dsimp only

theorem procGetLtxStatus_keep  (a : Sentence) (s : State) {k0 : Nat} {z0 : State} (hk : Nat.land 0x420000001b80 k0 = 0x420000001b80) (hz : Keep k0 z0 s) : Keep k0 z0 (procGetLtxStatus  a s) := by
  refine Keep.step ?_ hk hz
  unfold procGetLtxStatus
  refine process_keep _ _ _ _ _ _ 0x0 (fun u ws => ?_) rfl rfl rfl (Keep.refl _ _)
  repeat' first
    | exact getAct_keep ..

theorem execGetLtxStatus_keep (m : Sentence) (s : State) {t : State} (h : execGetLtxStatus m s = .next t) : Keep 0x420000001b80 s t := by
  unfold execGetLtxStatus at h
  injection h with h
  subst h
  repeat' first
    | with_reducible refine Keep.ite ?_ ?_
    | intro u hu
    | with_reducible apply submit_keep
    | with_reducible apply procGetLtxStatus_keep
    | with_reducible exact Keep.refl _ _
    | with_reducible assumption
    | exact rfl
    | exact id
    | exact Or.inl rfl
    | exact Or.inr rfl
    | exact Or.inr (List.prefix_refl _)
    | exact Or.inr fun _ => rfl
    | exact Or.inr ⟨rfl, rfl, rfl⟩
    | exact Or.inr fun _ => ⟨rfl, rfl, rfl⟩
    | exact Or.inr fun _ => ⟨rfl, rfl⟩
    | split
    | dsimp only

theorem State.squelch_keep (s : State) (l : Nat) (fast : Bool) {k0 : Nat} {z0 : State} (hk : Nat.land 0x2601b905b08 k0 = 0x2601b905b08) (hz : Keep k0 z0 s) : Keep k0 z0 (State.squelch s l fast) := by
  refine Keep.step ?_ hk hz
  unfold State.squelch
  repeat' first
    | with_reducible refine Keep.ite ?_ ?_
    | with_reducible apply State.syncWith_keep
    | with_reducible apply State.calCheck_keep
    | with_reducible apply Keep.modLtx
    | with_reducible exact Keep.refl _ _
    | with_reducible assumption
    | exact rfl
    | exact id
    | exact Or.inl rfl
    | exact Or.inr rfl
    | exact Or.inr (List.prefix_refl _)
    | exact Or.inr fun _ => rfl
    | exact Or.inr ⟨rfl, rfl, rfl⟩
    | exact Or.inr fun _ => ⟨rfl, rfl, rfl⟩
    | exact Or.inr fun _ => ⟨rfl, rfl⟩
    | split
    | dsimp only

theorem procSquelchLtxOut_keep  (a : Sentence) (s : State) {k0 : Nat} {z0 : State} (hk : Nat.land 0x42601b905b88 k0 = 0x42601b905b88) (hz : Keep k0 z0 s) : Keep k0 z0 (procSquelchLtxOut  a s) := by
  refine Keep.step ?_ hk hz
  unfold procSquelchLtxOut
  refine process_keep _ _ _ _ _ _ 0x2601b905b08 (fun u ws => ?_) rfl rfl rfl (Keep.refl _ _)
  repeat' first
    | with_reducible refine Keep.ite ?_ ?_
    | intro u hu
    | with_reducible apply State.squelch_keep
    | with_reducible exact Keep.refl _ _
    | with_reducible assumption
    | exact rfl
    | exact id
    | exact Or.inl rfl
    | exact Or.inr rfl
    | exact Or.inr (List.prefix_refl _)
    | exact Or.inr fun _ => rfl
    | exact Or.inr ⟨rfl, rfl, rfl⟩
    | exact Or.inr fun _ => ⟨rfl, rfl, rfl⟩
    | exact Or.inr fun _ => ⟨rfl, rfl⟩
    | split
    | dsimp only

theorem execSquelchLtxOut_keep (m : Sentence) (s : State) {t : State} (h : execSquelchLtxOut m s = .next t) : Keep 0x42601b905b88 s t := by
  unfold execSquelchLtxOut at h
  injection h with h
  subst h
  repeat' first
    | with_reducible refine Keep.ite ?_ ?_
    | intro u hu
    | with_reducible apply submit_keep
    | with_reducible apply procSquelchLtxOut_keep
    | with_reducible exact Keep.refl _ _
    | with_reducible assumption
    | exact rfl
    | exact id
    | exact Or.inl rfl
    | exact Or.inr rfl
    | exact Or.inr (List.prefix_refl _)
    | exact Or.inr fun _ => rfl
    | exact Or.inr ⟨rfl, rfl, rfl⟩
    | exact Or.inr fun _ => ⟨rfl, rfl, rfl⟩
    | exact Or.inr fun _ => ⟨rfl, rfl⟩
    | split
    | dsimp only

theorem procReleaseLtxOut_keep  (a : Sentence) (s : State) {k0 : Nat} {z0 : State} (hk : Nat.land 0x42601b905b88 k0 = 0x42601b905b88) (hz : Keep k0 z0 s) : Keep k0 z0 (procReleaseLtxOut  a s) := by
  refine Keep.step ?_ hk hz
  unfold procReleaseLtxOut
  refine process_keep _ _ _ _ _ _ 0x2601b905b08 (fun u ws => ?_) rfl rfl rfl (Keep.refl _ _)
  repeat' first
    | with_reducible refine Keep.ite ?_ ?_
    | intro u hu
    | with_reducible apply State.follow_keep
    | with_reducible apply Keep.modLtx
    | with_reducible exact Keep.refl _ _
    | with_reducible assumption
    | exact rfl
    | exact id
    | exact Or.inl rfl
    | exact Or.inr rfl
    | exact Or.inr (List.prefix_refl _)
    | exact Or.inr fun _ => rfl
    | exact Or.inr ⟨rfl, rfl, rfl⟩
    | exact Or.inr fun _ => ⟨rfl, rfl, rfl⟩
    | exact Or.inr fun _ => ⟨rfl, rfl⟩
    | split
    | dsimp only

theorem execReleaseLtxOut_keep (m : Sentence) (s : State) {t : State} (h : execReleaseLtxOut m s = .next t) : Keep 0x42601b905b88 s t := by
  unfold execReleaseLtxOut at h
  injection h with h
  subst h
  repeat' first
    | with_reducible refine Keep.ite ?_ ?_
    | intro u hu
    | with_reducible apply submit_keep
    | with_reducible apply procReleaseLtxOut_keep
    | with_reducible exact Keep.refl _ _
    | with_reducible assumption
    | exact rfl
    | exact id
    | exact Or.inl rfl
    | exact Or.inr rfl
    | exact Or.inr (List.prefix_refl _)
    | exact Or.inr fun _ => rfl
    | exact Or.inr ⟨rfl, rfl, rfl⟩
    | exact Or.inr fun _ => ⟨rfl, rfl, rfl⟩
    | exact Or.inr fun _ => ⟨rfl, rfl⟩
    | split
    | dsimp only

theorem execAxRampUpdate_keep (c : Nat) (s : State) {t : State} (h : execAxRampUpdate c s = .next t) : Keep 0x2002000300 s t := by
  unfold execAxRampUpdate at h
  injection h with h
  subst h
  repeat' first
    | with_reducible refine Keep.ite ?_ ?_
    | intro u hu
    | with_reducible apply State.opticsCheck_keep
    | with_reducible apply Keep.modAx
    | with_reducible exact Keep.refl _ _
    | with_reducible assumption
    | exact rfl
    | exact id
    | exact Or.inl rfl
    | exact Or.inr rfl
    | exact Or.inr (List.prefix_refl _)
    | exact Or.inr fun _ => rfl
    | exact Or.inr ⟨rfl, rfl, rfl⟩
    | exact Or.inr fun _ => ⟨rfl, rfl, rfl⟩
    | exact Or.inr fun _ => ⟨rfl, rfl⟩
    | split
    | dsimp only

theorem State.freeCore32_keep (s : State) {k0 : Nat} {z0 : State} (hk : Nat.land 0x6000100300 k0 = 0x6000100300) (hz : Keep k0 z0 s) : Keep k0 z0 (State.freeCore32 s) := by
  refine Keep.step ?_ hk hz
  unfold State.freeCore32
  repeat' first
    | with_reducible refine Keep.ite ?_ ?_
    | with_reducible apply State.calAbandon_keep
    | with_reducible exact Keep.refl _ _
    | with_reducible assumption
    | exact rfl
    | exact id
    | exact Or.inl rfl
    | exact Or.inr rfl
    | exact Or.inr (List.prefix_refl _)
    | exact Or.inr fun _ => rfl
    | exact Or.inr ⟨rfl, rfl, rfl⟩
    | exact Or.inr fun _ => ⟨rfl, rfl, rfl⟩
    | exact Or.inr fun _ => ⟨rfl, rfl⟩
    | split
    | dsimp only

theorem State.coreToTest_keep (s : State) (c : Nat) {k0 : Nat} {z0 : State} (hk : Nat.land 0x12000000000 k0 = 0x12000000000) (hz : Keep k0 z0 s) : Keep k0 z0 (State.coreToTest s c) := by
  refine Keep.step ?_ hk hz
  unfold State.coreToTest
  repeat' first
    | with_reducible refine Keep.ite ?_ ?_
    | with_reducible apply State.report_keep
    | with_reducible apply Keep.modAx
    | with_reducible exact Keep.refl _ _
    | with_reducible assumption
    | exact rfl
    | exact id
    | exact Or.inl rfl
    | exact Or.inr rfl
    | exact Or.inr (List.prefix_refl _)
    | exact Or.inr fun _ => rfl
    | exact Or.inr ⟨rfl, rfl, rfl⟩
    | exact Or.inr fun _ => ⟨rfl, rfl, rfl⟩
    | exact Or.inr fun _ => ⟨rfl, rfl⟩
    | split
    | dsimp only

theorem State.coreFault_keep (s : State) (c cause : Nat) {k0 : Nat} {z0 : State} (hk : Nat.land 0x16002120300 k0 = 0x16002120300) (hz : Keep k0 z0 s) : Keep k0 z0 (State.coreFault s c cause) := by
  refine Keep.step ?_ hk hz
  unfold State.coreFault
  try simp -zeta only [State.fold_ocu]
  repeat' first
    | with_reducible refine Keep.ite ?_ ?_
    | with_reducible apply State.freeCore32_keep
    | with_reducible apply State.raise_keep
    | with_reducible apply State.coreToTest_keep
    | with_reducible apply State.axFail_keep
    | with_reducible apply Keep.modAx
    | with_reducible apply Keep.bump
    | with_reducible apply Keep.set_ocu
    | with_reducible exact Keep.refl _ _
    | with_reducible assumption
    | exact rfl
    | exact id
    | exact Or.inl rfl
    | exact Or.inr rfl
    | exact Or.inr (List.prefix_refl _)
    | exact Or.inr fun _ => rfl
    | exact Or.inr ⟨rfl, rfl, rfl⟩
    | exact Or.inr fun _ => ⟨rfl, rfl, rfl⟩
    | exact Or.inr fun _ => ⟨rfl, rfl⟩
    | split
    | dsimp only

theorem State.core32Fault_keep (s : State) {k0 : Nat} {z0 : State} (hk : Nat.land 0x16002100300 k0 = 0x16002100300) (hz : Keep k0 z0 s) : Keep k0 z0 (State.core32Fault s) := by
  refine Keep.step ?_ hk hz
  unfold State.core32Fault
  repeat' first
    | with_reducible refine Keep.ite ?_ ?_
    | with_reducible apply State.calAbandon_keep
    | with_reducible apply State.axFail_keep
    | with_reducible apply State.coreToTest_keep
    | with_reducible apply Keep.modAx
    | with_reducible exact Keep.refl _ _
    | with_reducible assumption
    | exact rfl
    | exact id
    | exact Or.inl rfl
    | exact Or.inr rfl
    | exact Or.inr (List.prefix_refl _)
    | exact Or.inr fun _ => rfl
    | exact Or.inr ⟨rfl, rfl, rfl⟩
    | exact Or.inr fun _ => ⟨rfl, rfl, rfl⟩
    | exact Or.inr fun _ => ⟨rfl, rfl⟩
    | split
    | dsimp only

theorem execAxCoreFault_keep (c cause : Nat) (s : State) {t : State} (h : execAxCoreFault c cause s = .next t) : Keep 0x3601b925b08 s t := by
  unfold execAxCoreFault at h
  injection h with h
  subst h
  repeat' first
    | with_reducible refine Keep.ite ?_ ?_
    | intro u hu
    | with_reducible apply State.core32Fault_keep
    | with_reducible apply State.follow_keep
    | with_reducible apply State.coreFault_keep
    | with_reducible exact Keep.refl _ _
    | with_reducible assumption
    | exact rfl
    | exact id
    | exact Or.inl rfl
    | exact Or.inr rfl
    | exact Or.inr (List.prefix_refl _)
    | exact Or.inr fun _ => rfl
    | exact Or.inr ⟨rfl, rfl, rfl⟩
    | exact Or.inr fun _ => ⟨rfl, rfl, rfl⟩
    | exact Or.inr fun _ => ⟨rfl, rfl⟩
    | split
    | dsimp only

theorem execAxOutputStageFailure_keep (c : Nat) (s : State) {t : State} (h : execAxOutputStageFailure c s = .next t) : Keep 0x2601b905b08 s t := by
  unfold execAxOutputStageFailure at h
  injection h with h
  subst h
  repeat' first
    | with_reducible refine Keep.ite ?_ ?_
    | intro u hu
    | with_reducible apply State.axFail_keep
    | with_reducible apply State.follow_keep
    | with_reducible apply Keep.modAx
    | with_reducible exact Keep.refl _ _
    | with_reducible assumption
    | exact rfl
    | exact id
    | exact Or.inl rfl
    | exact Or.inr rfl
    | exact Or.inr (List.prefix_refl _)
    | exact Or.inr fun _ => rfl
    | exact Or.inr ⟨rfl, rfl, rfl⟩
    | exact Or.inr fun _ => ⟨rfl, rfl, rfl⟩
    | exact Or.inr fun _ => ⟨rfl, rfl⟩
    | split
    | dsimp only

theorem execHandoverSwitch_keep (c : Nat) (s : State) {t : State} (h : execHandoverSwitch c s = .next t) : Keep 0x23603f9e5b08 s t := by
  unfold execHandoverSwitch at h
  injection h with h
  subst h
  try simp -zeta only [State.fold_ocu]
  repeat' first
    | with_reducible refine Keep.ite ?_ ?_
    | intro u hu
    | with_reducible apply State.calFinish_keep
    | with_reducible apply State.follow_keep
    | with_reducible apply Keep.modAx
    | with_reducible apply Keep.modCal
    | with_reducible apply Keep.set_ocu
    | with_reducible exact Keep.refl _ _
    | with_reducible assumption
    | exact rfl
    | exact id
    | exact Or.inl rfl
    | exact Or.inr rfl
    | exact Or.inr (List.prefix_refl _)
    | exact Or.inr fun _ => rfl
    | exact Or.inr ⟨rfl, rfl, rfl⟩
    | exact Or.inr fun _ => ⟨rfl, rfl, rfl⟩
    | exact Or.inr fun _ => ⟨rfl, rfl⟩
    | split
    | dsimp only

theorem execCoreCalibrationDone_keep (c : Nat) (s : State) {t : State} (h : execCoreCalibrationDone c s = .next t) : Keep 0x23603f9e5b08 s t := by
  unfold execCoreCalibrationDone at h
  injection h with h
  subst h
  try simp -zeta only [State.fold_ocu]
  repeat' first
    | with_reducible refine Keep.ite ?_ ?_
    | intro u hu
    | with_reducible apply State.calFinish_keep
    | with_reducible apply State.follow_keep
    | with_reducible apply Keep.modAx
    | with_reducible apply Keep.set_ocu
    | with_reducible exact Keep.refl _ _
    | with_reducible assumption
    | exact rfl
    | exact id
    | exact Or.inl rfl
    | exact Or.inr rfl
    | exact Or.inr (List.prefix_refl _)
    | exact Or.inr fun _ => rfl
    | exact Or.inr ⟨rfl, rfl, rfl⟩
    | exact Or.inr fun _ => ⟨rfl, rfl, rfl⟩
    | exact Or.inr fun _ => ⟨rfl, rfl⟩
    | split
    | dsimp only

theorem State.threshold_keep (s : State) (c k n : Nat) (x : Int) {k0 : Nat} {z0 : State} (hk : Nat.land 0x2601b925b08 k0 = 0x2601b925b08) (hz : Keep k0 z0 s) : Keep k0 z0 (State.threshold s c k n x) := by
  refine Keep.step ?_ hk hz
  unfold State.threshold
  repeat' first
    | with_reducible refine Keep.ite ?_ ?_
    | with_reducible apply State.raise_keep
    | with_reducible apply State.squelch_keep
    | with_reducible apply Keep.modMn
    | with_reducible apply Keep.bump
    | with_reducible exact Keep.refl _ _
    | with_reducible assumption
    | exact rfl
    | exact id
    | exact Or.inl rfl
    | exact Or.inr rfl
    | exact Or.inr (List.prefix_refl _)
    | exact Or.inr fun _ => rfl
    | exact Or.inr ⟨rfl, rfl, rfl⟩
    | exact Or.inr fun _ => ⟨rfl, rfl, rfl⟩
    | exact Or.inr fun _ => ⟨rfl, rfl⟩
    | split
    | dsimp only

theorem State.monRecord_keep (s : State) (c n x : Nat) (flags : BitVec 4) {k0 : Nat} {z0 : State} (hk : Nat.land 0x22c00002300 k0 = 0x22c00002300) (hz : Keep k0 z0 s) : Keep k0 z0 (State.monRecord s c n x flags) := by
  refine Keep.step ?_ hk hz
  unfold State.monRecord
  repeat' first
    | with_reducible refine Keep.ite ?_ ?_
    | with_reducible apply State.telPut_keep
    | with_reducible apply State.dmaDue_keep
    | with_reducible apply Keep.modMn
    | with_reducible exact Keep.refl _ _
    | with_reducible assumption
    | exact rfl
    | exact id
    | exact Or.inl rfl
    | exact Or.inr rfl
    | exact Or.inr (List.prefix_refl _)
    | exact Or.inr fun _ => rfl
    | exact Or.inr ⟨rfl, rfl, rfl⟩
    | exact Or.inr fun _ => ⟨rfl, rfl, rfl⟩
    | exact Or.inr fun _ => ⟨rfl, rfl⟩
    | split
    | dsimp only

theorem execMonitorOutputSample_keep (c x : Nat) (sat : Bool) (s : State) {t : State} (h : execMonitorOutputSample c x sat s = .next t) : Keep 0x26c1b927b0a s t := by
  unfold execMonitorOutputSample at h
  injection h with h
  subst h
  repeat' first
    | with_reducible refine Keep.ite ?_ ?_
    | intro u hu
    | with_reducible apply State.freeNext_keep
    | with_reducible apply State.monRecord_keep
    | with_reducible apply State.threshold_keep
    | with_reducible apply Keep.modMn
    | with_reducible apply Keep.bumpBy
    | with_reducible exact Keep.refl _ _
    | with_reducible assumption
    | exact rfl
    | exact id
    | exact Or.inl rfl
    | exact Or.inr rfl
    | exact Or.inr (List.prefix_refl _)
    | exact Or.inr fun _ => rfl
    | exact Or.inr ⟨rfl, rfl, rfl⟩
    | exact Or.inr fun _ => ⟨rfl, rfl, rfl⟩
    | exact Or.inr fun _ => ⟨rfl, rfl⟩
    | split
    | dsimp only

theorem State.loopBand_keep (s : State) (i : Nat) (e : Int) {k0 : Nat} {z0 : State} (hk : Nat.land 0x22000025b08 k0 = 0x22000025b08) (hz : Keep k0 z0 s) : Keep k0 z0 (State.loopBand s i e) := by
  refine Keep.step ?_ hk hz
  unfold State.loopBand
  repeat' first
    | with_reducible refine Keep.ite ?_ ?_
    | with_reducible apply State.settle_keep
    | with_reducible apply State.raise_keep
    | with_reducible apply Keep.modLoop
    | with_reducible apply Keep.bump
    | with_reducible exact Keep.refl _ _
    | with_reducible assumption
    | exact rfl
    | exact id
    | exact Or.inl rfl
    | exact Or.inr rfl
    | exact Or.inr (List.prefix_refl _)
    | exact Or.inr fun _ => rfl
    | exact Or.inr ⟨rfl, rfl, rfl⟩
    | exact Or.inr fun _ => ⟨rfl, rfl, rfl⟩
    | exact Or.inr fun _ => ⟨rfl, rfl⟩
    | split
    | dsimp only

theorem execLoopUpdate_keep (i : Nat) (s : State) {t : State} (h : execLoopUpdate i s = .next t) : Keep 0x22002025b08 s t := by
  unfold execLoopUpdate at h
  injection h with h
  subst h
  repeat' first
    | with_reducible refine Keep.ite ?_ ?_
    | intro u hu
    | with_reducible apply State.setTarget_keep
    | with_reducible apply State.loopBand_keep
    | with_reducible apply State.opticsCheck_keep
    | with_reducible apply Keep.modMn
    | with_reducible apply Keep.bump
    | with_reducible apply Keep.modLoop
    | with_reducible exact Keep.refl _ _
    | with_reducible assumption
    | exact rfl
    | exact id
    | exact Or.inl rfl
    | exact Or.inr rfl
    | exact Or.inr (List.prefix_refl _)
    | exact Or.inr fun _ => rfl
    | exact Or.inr ⟨rfl, rfl, rfl⟩
    | exact Or.inr fun _ => ⟨rfl, rfl, rfl⟩
    | exact Or.inr fun _ => ⟨rfl, rfl⟩
    | split
    | dsimp only

theorem procGetOcuAx_keep  (a : Sentence) (s : State) {k0 : Nat} {z0 : State} (hk : Nat.land 0x420000001b80 k0 = 0x420000001b80) (hz : Keep k0 z0 s) : Keep k0 z0 (procGetOcuAx  a s) := by
  refine Keep.step ?_ hk hz
  unfold procGetOcuAx
  refine process_keep _ _ _ _ _ _ 0x0 (fun u ws => ?_) rfl rfl rfl (Keep.refl _ _)
  repeat' first
    | exact getAct_keep ..

theorem execGetOcuAx_keep (m : Sentence) (s : State) {t : State} (h : execGetOcuAx m s = .next t) : Keep 0x420000001b80 s t := by
  unfold execGetOcuAx at h
  injection h with h
  subst h
  repeat' first
    | with_reducible refine Keep.ite ?_ ?_
    | intro u hu
    | with_reducible apply submit_keep
    | with_reducible apply procGetOcuAx_keep
    | with_reducible exact Keep.refl _ _
    | with_reducible assumption
    | exact rfl
    | exact id
    | exact Or.inl rfl
    | exact Or.inr rfl
    | exact Or.inr (List.prefix_refl _)
    | exact Or.inr fun _ => rfl
    | exact Or.inr ⟨rfl, rfl, rfl⟩
    | exact Or.inr fun _ => ⟨rfl, rfl, rfl⟩
    | exact Or.inr fun _ => ⟨rfl, rfl⟩
    | split
    | dsimp only

theorem procSetOcuAx_keep  (a : Sentence) (s : State) {k0 : Nat} {z0 : State} (hk : Nat.land 0x422002011b80 k0 = 0x422002011b80) (hz : Keep k0 z0 s) : Keep k0 z0 (procSetOcuAx  a s) := by
  refine Keep.step ?_ hk hz
  unfold procSetOcuAx
  refine process_keep _ _ _ _ _ _ 0x2002010300 (fun u ws => ?_) rfl rfl rfl (Keep.refl _ _)
  repeat' first
    | with_reducible refine Keep.ite ?_ ?_
    | intro u hu
    | with_reducible apply setAct_keep
    | with_reducible apply State.opticsCheck_keep
    | with_reducible exact Keep.refl _ _
    | with_reducible assumption
    | exact rfl
    | exact id
    | exact Or.inl rfl
    | exact Or.inr rfl
    | exact Or.inr (List.prefix_refl _)
    | exact Or.inr fun _ => rfl
    | exact Or.inr ⟨rfl, rfl, rfl⟩
    | exact Or.inr fun _ => ⟨rfl, rfl, rfl⟩
    | exact Or.inr fun _ => ⟨rfl, rfl⟩
    | split
    | dsimp only

theorem execSetOcuAx_keep (m : Sentence) (s : State) {t : State} (h : execSetOcuAx m s = .next t) : Keep 0x422002011b80 s t := by
  unfold execSetOcuAx at h
  injection h with h
  subst h
  repeat' first
    | with_reducible refine Keep.ite ?_ ?_
    | intro u hu
    | with_reducible apply submit_keep
    | with_reducible apply procSetOcuAx_keep
    | with_reducible exact Keep.refl _ _
    | with_reducible assumption
    | exact rfl
    | exact id
    | exact Or.inl rfl
    | exact Or.inr rfl
    | exact Or.inr (List.prefix_refl _)
    | exact Or.inr fun _ => rfl
    | exact Or.inr ⟨rfl, rfl, rfl⟩
    | exact Or.inr fun _ => ⟨rfl, rfl, rfl⟩
    | exact Or.inr fun _ => ⟨rfl, rfl⟩
    | split
    | dsimp only

theorem procGetOcuCode_keep  (a : Sentence) (s : State) {k0 : Nat} {z0 : State} (hk : Nat.land 0x420000001b80 k0 = 0x420000001b80) (hz : Keep k0 z0 s) : Keep k0 z0 (procGetOcuCode  a s) := by
  refine Keep.step ?_ hk hz
  unfold procGetOcuCode
  refine process_keep _ _ _ _ _ _ 0x0 (fun u ws => ?_) rfl rfl rfl (Keep.refl _ _)
  repeat' first
    | exact getAct_keep ..

theorem execGetOcuCode_keep (m : Sentence) (s : State) {t : State} (h : execGetOcuCode m s = .next t) : Keep 0x420000001b80 s t := by
  unfold execGetOcuCode at h
  injection h with h
  subst h
  repeat' first
    | with_reducible refine Keep.ite ?_ ?_
    | intro u hu
    | with_reducible apply submit_keep
    | with_reducible apply procGetOcuCode_keep
    | with_reducible exact Keep.refl _ _
    | with_reducible assumption
    | exact rfl
    | exact id
    | exact Or.inl rfl
    | exact Or.inr rfl
    | exact Or.inr (List.prefix_refl _)
    | exact Or.inr fun _ => rfl
    | exact Or.inr ⟨rfl, rfl, rfl⟩
    | exact Or.inr fun _ => ⟨rfl, rfl, rfl⟩
    | exact Or.inr fun _ => ⟨rfl, rfl⟩
    | split
    | dsimp only

theorem actOcuCode_keep (s : State) (m : Sentence) (ws : List Word) {k0 : Nat} {z0 : State} (hk : Nat.land 0x2002020300 k0 = 0x2002020300) (hz : Keep k0 z0 s) : Keep k0 z0 (actOcuCode s m ws).1 := by
  refine Keep.step ?_ hk hz
  unfold actOcuCode
  repeat' first
    | with_reducible refine Keep.ite ?_ ?_
    | intro u hu
    | with_reducible apply State.setTarget_keep
    | with_reducible apply State.opticsCheck_keep
    | with_reducible apply Keep.bump
    | with_reducible exact Keep.refl _ _
    | with_reducible assumption
    | exact rfl
    | exact id
    | exact Or.inl rfl
    | exact Or.inr rfl
    | exact Or.inr (List.prefix_refl _)
    | exact Or.inr fun _ => rfl
    | exact Or.inr ⟨rfl, rfl, rfl⟩
    | exact Or.inr fun _ => ⟨rfl, rfl, rfl⟩
    | exact Or.inr fun _ => ⟨rfl, rfl⟩
    | split
    | dsimp only

theorem procSetOcuCode_keep  (a : Sentence) (s : State) {k0 : Nat} {z0 : State} (hk : Nat.land 0x422002021b80 k0 = 0x422002021b80) (hz : Keep k0 z0 s) : Keep k0 z0 (procSetOcuCode  a s) := by
  refine Keep.step ?_ hk hz
  unfold procSetOcuCode
  refine process_keep _ _ _ _ _ _ 0x2002020300 (fun u ws => ?_) rfl rfl rfl (Keep.refl _ _)
  repeat' first
    | with_reducible refine Keep.ite ?_ ?_
    | intro u hu
    | with_reducible apply actOcuCode_keep
    | with_reducible exact Keep.refl _ _
    | with_reducible assumption
    | exact rfl
    | exact id
    | exact Or.inl rfl
    | exact Or.inr rfl
    | exact Or.inr (List.prefix_refl _)
    | exact Or.inr fun _ => rfl
    | exact Or.inr ⟨rfl, rfl, rfl⟩
    | exact Or.inr fun _ => ⟨rfl, rfl, rfl⟩
    | exact Or.inr fun _ => ⟨rfl, rfl⟩
    | split
    | dsimp only

theorem execSetOcuCode_keep (m : Sentence) (s : State) {t : State} (h : execSetOcuCode m s = .next t) : Keep 0x422002021b80 s t := by
  unfold execSetOcuCode at h
  injection h with h
  subst h
  repeat' first
    | with_reducible refine Keep.ite ?_ ?_
    | intro u hu
    | with_reducible apply submit_keep
    | with_reducible apply procSetOcuCode_keep
    | with_reducible exact Keep.refl _ _
    | with_reducible assumption
    | exact rfl
    | exact id
    | exact Or.inl rfl
    | exact Or.inr rfl
    | exact Or.inr (List.prefix_refl _)
    | exact Or.inr fun _ => rfl
    | exact Or.inr ⟨rfl, rfl, rfl⟩
    | exact Or.inr fun _ => ⟨rfl, rfl, rfl⟩
    | exact Or.inr fun _ => ⟨rfl, rfl⟩
    | split
    | dsimp only

theorem procGetOcuMn_keep  (a : Sentence) (s : State) {k0 : Nat} {z0 : State} (hk : Nat.land 0x420000001b80 k0 = 0x420000001b80) (hz : Keep k0 z0 s) : Keep k0 z0 (procGetOcuMn  a s) := by
  refine Keep.step ?_ hk hz
  unfold procGetOcuMn
  refine process_keep _ _ _ _ _ _ 0x0 (fun u ws => ?_) rfl rfl rfl (Keep.refl _ _)
  repeat' first
    | exact getAct_keep ..

theorem execGetOcuMn_keep (m : Sentence) (s : State) {t : State} (h : execGetOcuMn m s = .next t) : Keep 0x420000001b80 s t := by
  unfold execGetOcuMn at h
  injection h with h
  subst h
  repeat' first
    | with_reducible refine Keep.ite ?_ ?_
    | intro u hu
    | with_reducible apply submit_keep
    | with_reducible apply procGetOcuMn_keep
    | with_reducible exact Keep.refl _ _
    | with_reducible assumption
    | exact rfl
    | exact id
    | exact Or.inl rfl
    | exact Or.inr rfl
    | exact Or.inr (List.prefix_refl _)
    | exact Or.inr fun _ => rfl
    | exact Or.inr ⟨rfl, rfl, rfl⟩
    | exact Or.inr fun _ => ⟨rfl, rfl, rfl⟩
    | exact Or.inr fun _ => ⟨rfl, rfl⟩
    | split
    | dsimp only

theorem actOcuMn_keep (s : State) (m : Sentence) (ws : List Word) {k0 : Nat} {z0 : State} (hk : Nat.land 0x2000010000 k0 = 0x2000010000) (hz : Keep k0 z0 s) : Keep k0 z0 (actOcuMn s m ws).1 := by
  refine Keep.step ?_ hk hz
  unfold actOcuMn
  repeat' first
    | with_reducible refine Keep.ite ?_ ?_
    | intro u hu
    | with_reducible apply setAct_keep
    | with_reducible apply Keep.modMn
    | with_reducible exact Keep.refl _ _
    | with_reducible assumption
    | exact rfl
    | exact id
    | exact Or.inl rfl
    | exact Or.inr rfl
    | exact Or.inr (List.prefix_refl _)
    | exact Or.inr fun _ => rfl
    | exact Or.inr ⟨rfl, rfl, rfl⟩
    | exact Or.inr fun _ => ⟨rfl, rfl, rfl⟩
    | exact Or.inr fun _ => ⟨rfl, rfl⟩
    | split
    | dsimp only

theorem procSetOcuMn_keep  (a : Sentence) (s : State) {k0 : Nat} {z0 : State} (hk : Nat.land 0x422000011b80 k0 = 0x422000011b80) (hz : Keep k0 z0 s) : Keep k0 z0 (procSetOcuMn  a s) := by
  refine Keep.step ?_ hk hz
  unfold procSetOcuMn
  refine process_keep _ _ _ _ _ _ 0x2000010000 (fun u ws => ?_) rfl rfl rfl (Keep.refl _ _)
  repeat' first
    | with_reducible refine Keep.ite ?_ ?_
    | intro u hu
    | with_reducible apply actOcuMn_keep
    | with_reducible exact Keep.refl _ _
    | with_reducible assumption
    | exact rfl
    | exact id
    | exact Or.inl rfl
    | exact Or.inr rfl
    | exact Or.inr (List.prefix_refl _)
    | exact Or.inr fun _ => rfl
    | exact Or.inr ⟨rfl, rfl, rfl⟩
    | exact Or.inr fun _ => ⟨rfl, rfl, rfl⟩
    | exact Or.inr fun _ => ⟨rfl, rfl⟩
    | split
    | dsimp only

theorem execSetOcuMn_keep (m : Sentence) (s : State) {t : State} (h : execSetOcuMn m s = .next t) : Keep 0x422000011b80 s t := by
  unfold execSetOcuMn at h
  injection h with h
  subst h
  repeat' first
    | with_reducible refine Keep.ite ?_ ?_
    | intro u hu
    | with_reducible apply submit_keep
    | with_reducible apply procSetOcuMn_keep
    | with_reducible exact Keep.refl _ _
    | with_reducible assumption
    | exact rfl
    | exact id
    | exact Or.inl rfl
    | exact Or.inr rfl
    | exact Or.inr (List.prefix_refl _)
    | exact Or.inr fun _ => rfl
    | exact Or.inr ⟨rfl, rfl, rfl⟩
    | exact Or.inr fun _ => ⟨rfl, rfl, rfl⟩
    | exact Or.inr fun _ => ⟨rfl, rfl⟩
    | split
    | dsimp only

theorem procGetOcuLoop_keep  (a : Sentence) (s : State) {k0 : Nat} {z0 : State} (hk : Nat.land 0x420000001b80 k0 = 0x420000001b80) (hz : Keep k0 z0 s) : Keep k0 z0 (procGetOcuLoop  a s) := by
  refine Keep.step ?_ hk hz
  unfold procGetOcuLoop
  refine process_keep _ _ _ _ _ _ 0x0 (fun u ws => ?_) rfl rfl rfl (Keep.refl _ _)
  repeat' first
    | exact getAct_keep ..

theorem execGetOcuLoop_keep (m : Sentence) (s : State) {t : State} (h : execGetOcuLoop m s = .next t) : Keep 0x420000001b80 s t := by
  unfold execGetOcuLoop at h
  injection h with h
  subst h
  repeat' first
    | with_reducible refine Keep.ite ?_ ?_
    | intro u hu
    | with_reducible apply submit_keep
    | with_reducible apply procGetOcuLoop_keep
    | with_reducible exact Keep.refl _ _
    | with_reducible assumption
    | exact rfl
    | exact id
    | exact Or.inl rfl
    | exact Or.inr rfl
    | exact Or.inr (List.prefix_refl _)
    | exact Or.inr fun _ => rfl
    | exact Or.inr ⟨rfl, rfl, rfl⟩
    | exact Or.inr fun _ => ⟨rfl, rfl, rfl⟩
    | exact Or.inr fun _ => ⟨rfl, rfl⟩
    | split
    | dsimp only

theorem actOcuLoop_keep (s : State) (m : Sentence) (ws : List Word) {k0 : Nat} {z0 : State} (hk : Nat.land 0x2002010300 k0 = 0x2002010300) (hz : Keep k0 z0 s) : Keep k0 z0 (actOcuLoop s m ws).1 := by
  refine Keep.step ?_ hk hz
  unfold actOcuLoop
  repeat' first
    | with_reducible refine Keep.ite ?_ ?_
    | intro u hu
    | with_reducible apply setAct_keep
    | with_reducible apply State.opticsCheck_keep
    | with_reducible apply Keep.modLoop
    | with_reducible exact Keep.refl _ _
    | with_reducible assumption
    | exact rfl
    | exact id
    | exact Or.inl rfl
    | exact Or.inr rfl
    | exact Or.inr (List.prefix_refl _)
    | exact Or.inr fun _ => rfl
    | exact Or.inr ⟨rfl, rfl, rfl⟩
    | exact Or.inr fun _ => ⟨rfl, rfl, rfl⟩
    | exact Or.inr fun _ => ⟨rfl, rfl⟩
    | split
    | dsimp only

theorem procSetOcuLoop_keep  (a : Sentence) (s : State) {k0 : Nat} {z0 : State} (hk : Nat.land 0x422002011b80 k0 = 0x422002011b80) (hz : Keep k0 z0 s) : Keep k0 z0 (procSetOcuLoop  a s) := by
  refine Keep.step ?_ hk hz
  unfold procSetOcuLoop
  refine process_keep _ _ _ _ _ _ 0x2002010300 (fun u ws => ?_) rfl rfl rfl (Keep.refl _ _)
  repeat' first
    | with_reducible refine Keep.ite ?_ ?_
    | intro u hu
    | with_reducible apply actOcuLoop_keep
    | with_reducible exact Keep.refl _ _
    | with_reducible assumption
    | exact rfl
    | exact id
    | exact Or.inl rfl
    | exact Or.inr rfl
    | exact Or.inr (List.prefix_refl _)
    | exact Or.inr fun _ => rfl
    | exact Or.inr ⟨rfl, rfl, rfl⟩
    | exact Or.inr fun _ => ⟨rfl, rfl, rfl⟩
    | exact Or.inr fun _ => ⟨rfl, rfl⟩
    | split
    | dsimp only

theorem execSetOcuLoop_keep (m : Sentence) (s : State) {t : State} (h : execSetOcuLoop m s = .next t) : Keep 0x422002011b80 s t := by
  unfold execSetOcuLoop at h
  injection h with h
  subst h
  repeat' first
    | with_reducible refine Keep.ite ?_ ?_
    | intro u hu
    | with_reducible apply submit_keep
    | with_reducible apply procSetOcuLoop_keep
    | with_reducible exact Keep.refl _ _
    | with_reducible assumption
    | exact rfl
    | exact id
    | exact Or.inl rfl
    | exact Or.inr rfl
    | exact Or.inr (List.prefix_refl _)
    | exact Or.inr fun _ => rfl
    | exact Or.inr ⟨rfl, rfl, rfl⟩
    | exact Or.inr fun _ => ⟨rfl, rfl, rfl⟩
    | exact Or.inr fun _ => ⟨rfl, rfl⟩
    | split
    | dsimp only

theorem procGetOcuLane_keep  (a : Sentence) (s : State) {k0 : Nat} {z0 : State} (hk : Nat.land 0x420000001b80 k0 = 0x420000001b80) (hz : Keep k0 z0 s) : Keep k0 z0 (procGetOcuLane  a s) := by
  refine Keep.step ?_ hk hz
  unfold procGetOcuLane
  refine process_keep _ _ _ _ _ _ 0x0 (fun u ws => ?_) rfl rfl rfl (Keep.refl _ _)
  repeat' first
    | exact getAct_keep ..

theorem execGetOcuLane_keep (m : Sentence) (s : State) {t : State} (h : execGetOcuLane m s = .next t) : Keep 0x420000001b80 s t := by
  unfold execGetOcuLane at h
  injection h with h
  subst h
  repeat' first
    | with_reducible refine Keep.ite ?_ ?_
    | intro u hu
    | with_reducible apply submit_keep
    | with_reducible apply procGetOcuLane_keep
    | with_reducible exact Keep.refl _ _
    | with_reducible assumption
    | exact rfl
    | exact id
    | exact Or.inl rfl
    | exact Or.inr rfl
    | exact Or.inr (List.prefix_refl _)
    | exact Or.inr fun _ => rfl
    | exact Or.inr ⟨rfl, rfl, rfl⟩
    | exact Or.inr fun _ => ⟨rfl, rfl, rfl⟩
    | exact Or.inr fun _ => ⟨rfl, rfl⟩
    | split
    | dsimp only

theorem procGetOcuStats_keep  (a : Sentence) (s : State) {k0 : Nat} {z0 : State} (hk : Nat.land 0x420000001b80 k0 = 0x420000001b80) (hz : Keep k0 z0 s) : Keep k0 z0 (procGetOcuStats  a s) := by
  refine Keep.step ?_ hk hz
  unfold procGetOcuStats
  refine process_keep _ _ _ _ _ _ 0x0 (fun u ws => ?_) rfl rfl rfl (Keep.refl _ _)
  repeat' first
    | exact getAct_keep ..

theorem execGetOcuStats_keep (m : Sentence) (s : State) {t : State} (h : execGetOcuStats m s = .next t) : Keep 0x420000001b80 s t := by
  unfold execGetOcuStats at h
  injection h with h
  subst h
  repeat' first
    | with_reducible refine Keep.ite ?_ ?_
    | intro u hu
    | with_reducible apply submit_keep
    | with_reducible apply procGetOcuStats_keep
    | with_reducible exact Keep.refl _ _
    | with_reducible assumption
    | exact rfl
    | exact id
    | exact Or.inl rfl
    | exact Or.inr rfl
    | exact Or.inr (List.prefix_refl _)
    | exact Or.inr fun _ => rfl
    | exact Or.inr ⟨rfl, rfl, rfl⟩
    | exact Or.inr fun _ => ⟨rfl, rfl, rfl⟩
    | exact Or.inr fun _ => ⟨rfl, rfl⟩
    | split
    | dsimp only

end Sys2Proof.Machine
end

