-- ==== Sys2Proof/Laws/KeepUnits.lean ====
section
/-! SUPPORT. `Keep` for every operation of `Machine/Lexicon.lean`, `Machine/Ports.lean`, `Machine/Timekeeping.lean`, `Machine/Counters.lean`, `Machine/Shutter.lean`, `Machine/Thermal.lean`. -/

set_option linter.unusedTactic false
set_option linter.unreachableTactic false
set_option linter.unnecessarySeqFocus false
set_option linter.unusedVariables false
set_option linter.unusedSimpArgs false

namespace Sys2Proof.Machine

theorem State.setEntry_keep (s : State) (i v : Nat) {k0 : Nat} {z0 : State} (hk : Nat.land 0x200000000 k0 = 0x200000000) (hz : Keep k0 z0 s) : Keep k0 z0 (State.setEntry s i v) := by
  refine Keep.step ?_ hk hz
  unfold State.setEntry
  try simp -zeta only [State.fold_lex]
  repeat' first
    | with_reducible refine Keep.ite ?_ ?_
    | with_reducible apply Keep.set_lex
    | with_reducible exact Keep.refl _ _
    | with_reducible assumption
    | exact rfl
    | exact id
    | exact Or.inl rfl
    | exact Or.inr rfl
    | exact Or.inr (List.prefix_refl _)
    | exact Or.inr fun _ => rfl
    | exact Or.inr ⟨rfl, rfl, rfl⟩
    | exact Or.inr fun _ => ⟨rfl, rfl, rfl⟩
    | exact Or.inr fun _ => ⟨rfl, rfl⟩
    | split
    | dsimp only

theorem State.shift_keep (s : State) (l : List Nat) {k0 : Nat} {z0 : State} (hk : Nat.land 0x200000000 k0 = 0x200000000) (hz : Keep k0 z0 s) : Keep k0 z0 (s.shift l).1 := by
  induction l generalizing s with
  | nil => exact hz
  | cons i r ih =>
    cases r with
    | nil => exact hz
    | cons j r => exact ih _ (Keep.step (State.setEntry_keep _ _ _ rfl (State.setEntry_keep _ _ _ rfl (Keep.refl _ _))) hk hz)

theorem State.makeRoom_keep (s : State) (key : List Byte) (p : State × Nat) (h : s.makeRoom key = some p) : Keep 0x200020000 s p.1 := by
  unfold State.makeRoom at h
  split at h
  · cases h; exact Keep.refl _ _
  · split at h
    · cases h
    · cases h; exact Keep.bumpBy rfl (State.shift_keep _ _ rfl (Keep.refl _ _))

theorem State.placeFailure_keep (s : State) {k0 : Nat} {z0 : State} (hk : Nat.land 0x200020300 k0 = 0x200020300) (hz : Keep k0 z0 s) : Keep k0 z0 (State.placeFailure s) := by
  refine Keep.step ?_ hk hz
  unfold State.placeFailure
  try simp -zeta only [State.fold_lex]
  repeat' first
    | with_reducible refine Keep.ite ?_ ?_
    | with_reducible apply State.raise_keep
    | with_reducible apply Keep.bump
    | with_reducible apply Keep.set_lex
    | with_reducible exact Keep.refl _ _
    | with_reducible assumption
    | exact rfl
    | exact id
    | exact Or.inl rfl
    | exact Or.inr rfl
    | exact Or.inr (List.prefix_refl _)
    | exact Or.inr fun _ => rfl
    | exact Or.inr ⟨rfl, rfl, rfl⟩
    | exact Or.inr fun _ => ⟨rfl, rfl, rfl⟩
    | exact Or.inr fun _ => ⟨rfl, rfl⟩
    | split
    | dsimp only

theorem State.insertKey_keep (s : State) (key : List Byte) (installed : Bool) {k0 : Nat} {z0 : State} (hk : Nat.land 0x200020300 k0 = 0x200020300) (hz : Keep k0 z0 s) : Keep k0 z0 (State.insertKey s key installed).1 := by
  refine Keep.step ?_ hk hz
  unfold State.insertKey
  have hf : Keep 0x200020300 s s.placeFailure := State.placeFailure_keep _ rfl (Keep.refl _ _)
  dsimp only
  split
  · exact hf
  · split
    · exact hf
    · exact Keep.bump rfl (Keep.modCtx rfl (State.setEntry_keep _ _ _ rfl (Keep.step (State.makeRoom_keep _ _ _ ‹_›) rfl (Keep.refl _ _))))

theorem execKeyInsertion_keep (s : State) {t : State} (h : execKeyInsertion s = .next t) : Keep 0x200020300 s t := by
  unfold execKeyInsertion at h
  injection h with h
  subst h
  try simp -zeta only [State.fold_lex]
  repeat' first
    | with_reducible refine Keep.ite ?_ ?_
    | intro u hu
    | with_reducible apply State.insertKey_keep
    | with_reducible apply Keep.set_lex
    | with_reducible exact Keep.refl _ _
    | with_reducible assumption
    | exact rfl
    | exact id
    | exact Or.inl rfl
    | exact Or.inr rfl
    | exact Or.inr (List.prefix_refl _)
    | exact Or.inr fun _ => rfl
    | exact Or.inr ⟨rfl, rfl, rfl⟩
    | exact Or.inr fun _ => ⟨rfl, rfl, rfl⟩
    | exact Or.inr fun _ => ⟨rfl, rfl⟩
    | split
    | dsimp only

theorem State.modAnyCtx_keep (s : State) (n : Nat) (f : Ctx → Ctx) {k0 : Nat} {z0 : State} (hk : Nat.land 0x200000000 k0 = 0x200000000) (hz : Keep k0 z0 s) : Keep k0 z0 (State.modAnyCtx s n f) := by
  refine Keep.step ?_ hk hz
  unfold State.modAnyCtx
  repeat' first
    | with_reducible refine Keep.ite ?_ ?_
    | with_reducible apply Keep.modCtx
    | with_reducible apply Keep.modUnplaced
    | with_reducible exact Keep.refl _ _
    | with_reducible assumption
    | exact rfl
    | exact id
    | exact Or.inl rfl
    | exact Or.inr rfl
    | exact Or.inr (List.prefix_refl _)
    | exact Or.inr fun _ => rfl
    | exact Or.inr ⟨rfl, rfl, rfl⟩
    | exact Or.inr fun _ => ⟨rfl, rfl, rfl⟩
    | exact Or.inr fun _ => ⟨rfl, rfl⟩
    | split
    | dsimp only

theorem State.countIn_keep (s : State) (n bytes : Nat) (err ptp : Bool) {k0 : Nat} {z0 : State} (hk : Nat.land 0x200000000 k0 = 0x200000000) (hz : Keep k0 z0 s) : Keep k0 z0 (State.countIn s n bytes err ptp) := by
  refine Keep.step ?_ hk hz
  unfold State.countIn
  try simp -zeta only [State.fold_lex]
  repeat' first
    | with_reducible refine Keep.ite ?_ ?_
    | with_reducible apply State.modAnyCtx_keep
    | with_reducible apply Keep.set_lex
    | with_reducible exact Keep.refl _ _
    | with_reducible assumption
    | exact rfl
    | exact id
    | exact Or.inl rfl
    | exact Or.inr rfl
    | exact Or.inr (List.prefix_refl _)
    | exact Or.inr fun _ => rfl
    | exact Or.inr ⟨rfl, rfl, rfl⟩
    | exact Or.inr fun _ => ⟨rfl, rfl, rfl⟩
    | exact Or.inr fun _ => ⟨rfl, rfl⟩
    | split
    | dsimp only

theorem State.queueKey_keep (s : State) (p : Nat) (key : List Byte) (err : Bool) {k0 : Nat} {z0 : State} (hk : Nat.land 0x200020000 k0 = 0x200020000) (hz : Keep k0 z0 s) : Keep k0 z0 (State.queueKey s p key err) := by
  refine Keep.step ?_ hk hz
  unfold State.queueKey
  try simp -zeta only [State.fold_lex]
  repeat' first
    | with_reducible refine Keep.ite ?_ ?_
    | with_reducible apply Keep.bump
    | with_reducible apply Keep.set_lex
    | with_reducible exact Keep.refl _ _
    | with_reducible assumption
    | exact rfl
    | exact id
    | exact Or.inl rfl
    | exact Or.inr rfl
    | exact Or.inr (List.prefix_refl _)
    | exact Or.inr fun _ => rfl
    | exact Or.inr ⟨rfl, rfl, rfl⟩
    | exact Or.inr fun _ => ⟨rfl, rfl, rfl⟩
    | exact Or.inr fun _ => ⟨rfl, rfl⟩
    | split
    | dsimp only

theorem State.lexFrame_keep (s : State) (p d : Nat) (f : Frame) (ptp : Bool) {k0 : Nat} {z0 : State} (hk : Nat.land 0x200020000 k0 = 0x200020000) (hz : Keep k0 z0 s) : Keep k0 z0 (State.lexFrame s p d f ptp) := by
  refine Keep.step ?_ hk hz
  unfold State.lexFrame
  try simp -zeta only [State.fold_err]
  repeat' first
    | with_reducible refine Keep.ite ?_ ?_
    | with_reducible apply State.countIn_keep
    | with_reducible apply State.queueKey_keep
    | with_reducible apply Keep.bump
    | with_reducible apply Keep.set_err
    | with_reducible exact Keep.refl _ _
    | with_reducible assumption
    | exact rfl
    | exact id
    | exact Or.inl rfl
    | exact Or.inr rfl
    | exact Or.inr (List.prefix_refl _)
    | exact Or.inr fun _ => rfl
    | exact Or.inr ⟨rfl, rfl, rfl⟩
    | exact Or.inr fun _ => ⟨rfl, rfl, rfl⟩
    | exact Or.inr fun _ => ⟨rfl, rfl⟩
    | split
    | dsimp only

theorem State.splice_keep (s : State) (a : Nat) (bs : List Byte) {k0 : Nat} {z0 : State} (hk : Nat.land 0x400000000 k0 = 0x400000000) (hz : Keep k0 z0 s) : Keep k0 z0 (State.splice s a bs) := by
  refine Keep.step ?_ hk hz
  unfold State.splice
  try simp -zeta only [State.fold_mem]
  repeat' first
    | exact fun h => spliceCells_wf _ _ _ h
    | with_reducible refine Keep.ite ?_ ?_
    | with_reducible apply Keep.set_mem
    | with_reducible exact Keep.refl _ _
    | with_reducible assumption
    | exact rfl
    | exact id
    | exact Or.inl rfl
    | exact Or.inr rfl
    | exact Or.inr (List.prefix_refl _)
    | exact Or.inr fun _ => rfl
    | exact Or.inr ⟨rfl, rfl, rfl⟩
    | exact Or.inr fun _ => ⟨rfl, rfl, rfl⟩
    | exact Or.inr fun _ => ⟨rfl, rfl⟩
    | split
    | dsimp only

theorem State.counterReads_keep (s : State) (us : List SramRead) {k0 : Nat} {z0 : State} (hk : Nat.land 0x30b80221b82 k0 = 0x30b80221b82) (hz : Keep k0 z0 s) : Keep k0 z0 (State.counterReads s us) := by
  refine Keep.step ?_ hk hz
  unfold State.counterReads
  repeat' first
    | with_reducible refine Keep.ite ?_ ?_
    | with_reducible refine Keep.foldl _ ?_ ?_
    | intro u x hu
    | intro u hu
    | with_reducible apply State.modAnyCtx_keep
    | with_reducible apply State.sramReads_keep
    | with_reducible exact Keep.refl _ _
    | with_reducible assumption
    | exact rfl
    | exact id
    | exact Or.inl rfl
    | exact Or.inr rfl
    | exact Or.inr (List.prefix_refl _)
    | exact Or.inr fun _ => rfl
    | exact Or.inr ⟨rfl, rfl, rfl⟩
    | exact Or.inr fun _ => ⟨rfl, rfl, rfl⟩
    | exact Or.inr fun _ => ⟨rfl, rfl⟩
    | split
    | dsimp only

theorem execEarlyDrainDone_keep (s : State) (ecc : List SramRead) {t : State} (h : execEarlyDrainDone s ecc = .next t) : Keep 0x36b9bb25b8a s t := by
  unfold execEarlyDrainDone at h
  injection h with h
  subst h
  try simp -zeta only [State.fold_lex]
  repeat' first
    | with_reducible refine Keep.ite ?_ ?_
    | intro u hu
    | with_reducible apply State.counterReads_keep
    | with_reducible apply State.modAnyCtx_keep
    | with_reducible apply State.follow_keep
    | with_reducible apply Keep.bump
    | with_reducible apply Keep.set_lex
    | with_reducible exact Keep.refl _ _
    | with_reducible assumption
    | exact rfl
    | exact id
    | exact Or.inl rfl
    | exact Or.inr rfl
    | exact Or.inr (List.prefix_refl _)
    | exact Or.inr fun _ => rfl
    | exact Or.inr ⟨rfl, rfl, rfl⟩
    | exact Or.inr fun _ => ⟨rfl, rfl, rfl⟩
    | exact Or.inr fun _ => ⟨rfl, rfl⟩
    | split
    | dsimp only

theorem State.retireCtx_keep (s : State) (n : Nat) {k0 : Nat} {z0 : State} (hk : Nat.land 0x200020000 k0 = 0x200020000) (hz : Keep k0 z0 s) : Keep k0 z0 (State.retireCtx s n) := by
  refine Keep.step ?_ hk hz
  unfold State.retireCtx
  try simp -zeta only [State.fold_lex]
  repeat' first
    | with_reducible refine Keep.ite ?_ ?_
    | with_reducible apply Keep.modCtx
    | with_reducible apply Keep.bump
    | with_reducible apply Keep.set_lex
    | with_reducible exact Keep.refl _ _
    | with_reducible assumption
    | exact rfl
    | exact id
    | exact Or.inl rfl
    | exact Or.inr rfl
    | exact Or.inr (List.prefix_refl _)
    | exact Or.inr fun _ => rfl
    | exact Or.inr ⟨rfl, rfl, rfl⟩
    | exact Or.inr fun _ => ⟨rfl, rfl, rfl⟩
    | exact Or.inr fun _ => ⟨rfl, rfl⟩
    | split
    | dsimp only

theorem State.visitCtx_keep (s : State) (base : Nat) (first : Bool) (n : Nat) {k0 : Nat} {z0 : State} (hk : Nat.land 0x600020000 k0 = 0x600020000) (hz : Keep k0 z0 s) : Keep k0 z0 (State.visitCtx s base first n) := by
  refine Keep.step ?_ hk hz
  unfold State.visitCtx
  repeat' first
    | with_reducible refine Keep.ite ?_ ?_
    | with_reducible apply State.splice_keep
    | with_reducible apply State.retireCtx_keep
    | with_reducible apply Keep.modCtx
    | with_reducible apply Keep.bump
    | with_reducible exact Keep.refl _ _
    | with_reducible assumption
    | exact rfl
    | exact id
    | exact Or.inl rfl
    | exact Or.inr rfl
    | exact Or.inr (List.prefix_refl _)
    | exact Or.inr fun _ => rfl
    | exact Or.inr ⟨rfl, rfl, rfl⟩
    | exact Or.inr fun _ => ⟨rfl, rfl, rfl⟩
    | exact Or.inr fun _ => ⟨rfl, rfl⟩
    | split
    | dsimp only

theorem State.visitUnplaced_keep (s : State) (base : Nat) (first : Bool) (i : Nat) {k0 : Nat} {z0 : State} (hk : Nat.land 0x600000000 k0 = 0x600000000) (hz : Keep k0 z0 s) : Keep k0 z0 (State.visitUnplaced s base first i) := by
  refine Keep.step ?_ hk hz
  unfold State.visitUnplaced
  repeat' first
    | with_reducible refine Keep.ite ?_ ?_
    | with_reducible apply State.splice_keep
    | with_reducible apply Keep.modUnplaced
    | with_reducible exact Keep.refl _ _
    | with_reducible assumption
    | exact rfl
    | exact id
    | exact Or.inl rfl
    | exact Or.inr rfl
    | exact Or.inr (List.prefix_refl _)
    | exact Or.inr fun _ => rfl
    | exact Or.inr ⟨rfl, rfl, rfl⟩
    | exact Or.inr fun _ => ⟨rfl, rfl, rfl⟩
    | exact Or.inr fun _ => ⟨rfl, rfl⟩
    | split
    | dsimp only

theorem State.lexPass_keep (s : State) (first : Bool) {k0 : Nat} {z0 : State} (hk : Nat.land 0x20e00020300 k0 = 0x20e00020300) (hz : Keep k0 z0 s) : Keep k0 z0 (State.lexPass s first) := by
  refine Keep.step ?_ hk hz
  unfold State.lexPass
  repeat' first
    | with_reducible refine Keep.ite ?_ ?_
    | with_reducible refine Keep.foldl _ ?_ ?_
    | intro u x hu
    | intro u hu
    | with_reducible apply State.memClear_keep
    | with_reducible apply State.visitUnplaced_keep
    | with_reducible apply State.visitCtx_keep
    | with_reducible exact Keep.refl _ _
    | with_reducible assumption
    | exact rfl
    | exact id
    | exact Or.inl rfl
    | exact Or.inr rfl
    | exact Or.inr (List.prefix_refl _)
    | exact Or.inr fun _ => rfl
    | exact Or.inr ⟨rfl, rfl, rfl⟩
    | exact Or.inr fun _ => ⟨rfl, rfl, rfl⟩
    | exact Or.inr fun _ => ⟨rfl, rfl⟩
    | split
    | dsimp only

theorem State.startPass_keep (s : State) (late flush : Bool) (t : List Ticket) {k0 : Nat} {z0 : State} (hk : Nat.land 0x200000000 k0 = 0x200000000) (hz : Keep k0 z0 s) : Keep k0 z0 (State.startPass s late flush t) := by
  refine Keep.step ?_ hk hz
  unfold State.startPass
  try simp -zeta only [State.fold_lex]
  repeat' first
    | with_reducible refine Keep.ite ?_ ?_
    | with_reducible apply Keep.set_lex
    | with_reducible exact Keep.refl _ _
    | with_reducible assumption
    | exact rfl
    | exact id
    | exact Or.inl rfl
    | exact Or.inr rfl
    | exact Or.inr (List.prefix_refl _)
    | exact Or.inr fun _ => rfl
    | exact Or.inr ⟨rfl, rfl, rfl⟩
    | exact Or.inr fun _ => ⟨rfl, rfl, rfl⟩
    | exact Or.inr fun _ => ⟨rfl, rfl⟩
    | split
    | dsimp only

theorem execDumpIntervalExpiry_keep (delay kept : Nat) (s : State) {t : State} (h : execDumpIntervalExpiry delay kept s = .next t) : Keep 0x10200020300 s t := by
  unfold execDumpIntervalExpiry at h
  injection h with h
  subst h
  repeat' first
    | with_reducible refine Keep.ite ?_ ?_
    | intro u hu
    | with_reducible apply State.startPass_keep
    | with_reducible apply State.countYield_keep
    | with_reducible apply State.raise_keep
    | with_reducible apply Keep.bump
    | with_reducible exact Keep.refl _ _
    | with_reducible assumption
    | exact rfl
    | exact id
    | exact Or.inl rfl
    | exact Or.inr rfl
    | exact Or.inr (List.prefix_refl _)
    | exact Or.inr fun _ => rfl
    | exact Or.inr ⟨rfl, rfl, rfl⟩
    | exact Or.inr fun _ => ⟨rfl, rfl, rfl⟩
    | exact Or.inr fun _ => ⟨rfl, rfl⟩
    | split
    | dsimp only

theorem State.passDone_keep (s : State) {k0 : Nat} {z0 : State} (hk : Nat.land 0x20e00023b80 k0 = 0x20e00023b80) (hz : Keep k0 z0 s) : Keep k0 z0 (State.passDone s) := by
  refine Keep.step ?_ hk hz
  unfold State.passDone
  try simp -zeta only [State.fold_lex]
  repeat' first
    | with_reducible refine Keep.ite ?_ ?_
    | with_reducible refine Keep.foldl _ ?_ ?_
    | intro u x hu
    | intro u hu
    | with_reducible apply State.lexPass_keep
    | with_reducible apply State.memPut_keep
    | with_reducible apply State.finish_keep
    | with_reducible apply State.dmaDue_keep
    | with_reducible apply State.raise_keep
    | with_reducible apply State.startPass_keep
    | with_reducible apply Keep.set_lex
    | with_reducible exact Keep.refl _ _
    | with_reducible assumption
    | exact rfl
    | exact id
    | exact Or.inl rfl
    | exact Or.inr rfl
    | exact Or.inr (List.prefix_refl _)
    | exact Or.inr fun _ => rfl
    | exact Or.inr ⟨rfl, rfl, rfl⟩
    | exact Or.inr fun _ => ⟨rfl, rfl, rfl⟩
    | exact Or.inr fun _ => ⟨rfl, rfl⟩
    | split
    | dsimp only

theorem execDumpPassComplete_keep (s : State) (ecc : List SramRead) {t : State} (h : execDumpPassComplete s ecc = .next t) : Keep 0x36f9bb27b8a s t := by
  unfold execDumpPassComplete at h
  injection h with h
  subst h
  repeat' first
    | with_reducible refine Keep.ite ?_ ?_
    | intro u hu
    | with_reducible apply State.counterReads_keep
    | with_reducible apply State.passDone_keep
    | with_reducible apply State.follow_keep
    | with_reducible exact Keep.refl _ _
    | with_reducible assumption
    | exact rfl
    | exact id
    | exact Or.inl rfl
    | exact Or.inr rfl
    | exact Or.inr (List.prefix_refl _)
    | exact Or.inr fun _ => rfl
    | exact Or.inr ⟨rfl, rfl, rfl⟩
    | exact Or.inr fun _ => ⟨rfl, rfl, rfl⟩
    | exact Or.inr fun _ => ⟨rfl, rfl⟩
    | split
    | dsimp only

theorem execSpareBankFillDone_keep (b : Nat) (s : State) {t : State} (h : execSpareBankFillDone b s = .next t) : Keep 0x200000000 s t := by
  unfold execSpareBankFillDone at h
  injection h with h
  subst h
  repeat' first
    | with_reducible refine Keep.ite ?_ ?_
    | intro u hu
    | with_reducible apply Keep.modBank
    | with_reducible exact Keep.refl _ _
    | with_reducible assumption
    | exact rfl
    | exact id
    | exact Or.inl rfl
    | exact Or.inr rfl
    | exact Or.inr (List.prefix_refl _)
    | exact Or.inr fun _ => rfl
    | exact Or.inr ⟨rfl, rfl, rfl⟩
    | exact Or.inr fun _ => ⟨rfl, rfl, rfl⟩
    | exact Or.inr fun _ => ⟨rfl, rfl⟩
    | split
    | dsimp only

theorem State.markPort_keep (s : State) (p : Nat) {k0 : Nat} {z0 : State} (hk : Nat.land 0x200000000 k0 = 0x200000000) (hz : Keep k0 z0 s) : Keep k0 z0 (State.markPort s p) := by
  refine Keep.step ?_ hk hz
  unfold State.markPort
  repeat' first
    | with_reducible refine Keep.ite ?_ ?_
    | with_reducible refine Keep.foldl _ ?_ ?_
    | intro u x hu
    | intro u hu
    | with_reducible apply Keep.modCtx
    | with_reducible exact Keep.refl _ _
    | with_reducible assumption
    | exact rfl
    | exact id
    | exact Or.inl rfl
    | exact Or.inr rfl
    | exact Or.inr (List.prefix_refl _)
    | exact Or.inr fun _ => rfl
    | exact Or.inr ⟨rfl, rfl, rfl⟩
    | exact Or.inr fun _ => ⟨rfl, rfl, rfl⟩
    | exact Or.inr fun _ => ⟨rfl, rfl⟩
    | split
    | dsimp only

theorem State.rehash_keep (s : State) {k0 : Nat} {z0 : State} (hk : Nat.land 0x200020300 k0 = 0x200020300) (hz : Keep k0 z0 s) : Keep k0 z0 (State.rehash s) := by
  refine Keep.step ?_ hk hz
  unfold State.rehash
  try simp -zeta only [State.fold_lex]
  repeat' first
    | exact Keep.step (State.makeRoom_keep _ _ _ (by assumption)) rfl (by assumption)
    | exact Keep.step (State.makeRoom_keep _ _ _ (by assumption)) rfl (Keep.refl _ _)
    | with_reducible refine Keep.ite ?_ ?_
    | with_reducible refine Keep.foldl _ ?_ ?_
    | intro u x hu
    | intro u hu
    | with_reducible apply State.makeRoom_keep
    | with_reducible apply State.setEntry_keep
    | with_reducible apply State.placeFailure_keep
    | with_reducible apply Keep.modCtx
    | with_reducible apply Keep.set_lex
    | with_reducible exact Keep.refl _ _
    | with_reducible assumption
    | exact rfl
    | exact id
    | exact Or.inl rfl
    | exact Or.inr rfl
    | exact Or.inr (List.prefix_refl _)
    | exact Or.inr fun _ => rfl
    | exact Or.inr ⟨rfl, rfl, rfl⟩
    | exact Or.inr fun _ => ⟨rfl, rfl, rfl⟩
    | exact Or.inr fun _ => ⟨rfl, rfl⟩
    | split
    | dsimp only

theorem actLexCfg_keep (s : State) (m : Sentence) (ws : List Word) {k0 : Nat} {z0 : State} (hk : Nat.land 0x200030300 k0 = 0x200030300) (hz : Keep k0 z0 s) : Keep k0 z0 (actLexCfg s m ws).1 := by
  refine Keep.step ?_ hk hz
  unfold actLexCfg
  repeat' first
    | with_reducible refine Keep.ite ?_ ?_
    | intro u hu
    | with_reducible apply State.applyChanges_keep
    | with_reducible apply State.rehash_keep
    | with_reducible exact Keep.refl _ _
    | with_reducible assumption
    | exact rfl
    | exact id
    | exact Or.inl rfl
    | exact Or.inr rfl
    | exact Or.inr (List.prefix_refl _)
    | exact Or.inr fun _ => rfl
    | exact Or.inr ⟨rfl, rfl, rfl⟩
    | exact Or.inr fun _ => ⟨rfl, rfl, rfl⟩
    | exact Or.inr fun _ => ⟨rfl, rfl⟩
    | split
    | dsimp only

theorem procGetLexCfg_keep  (a : Sentence) (s : State) {k0 : Nat} {z0 : State} (hk : Nat.land 0x420000001b80 k0 = 0x420000001b80) (hz : Keep k0 z0 s) : Keep k0 z0 (procGetLexCfg  a s) := by
  refine Keep.step ?_ hk hz
  unfold procGetLexCfg
  refine process_keep _ _ _ _ _ _ 0x0 (fun u ws => ?_) rfl rfl rfl (Keep.refl _ _)
  repeat' first
    | exact getAct_keep ..

theorem execGetLexCfg_keep (m : Sentence) (s : State) {t : State} (h : execGetLexCfg m s = .next t) : Keep 0x420000001b80 s t := by
  unfold execGetLexCfg at h
  injection h with h
  subst h
  repeat' first
    | with_reducible refine Keep.ite ?_ ?_
    | intro u hu
    | with_reducible apply submit_keep
    | with_reducible apply procGetLexCfg_keep
    | with_reducible exact Keep.refl _ _
    | with_reducible assumption
    | exact rfl
    | exact id
    | exact Or.inl rfl
    | exact Or.inr rfl
    | exact Or.inr (List.prefix_refl _)
    | exact Or.inr fun _ => rfl
    | exact Or.inr ⟨rfl, rfl, rfl⟩
    | exact Or.inr fun _ => ⟨rfl, rfl, rfl⟩
    | exact Or.inr fun _ => ⟨rfl, rfl⟩
    | split
    | dsimp only

theorem procSetLexCfg_keep  (a : Sentence) (s : State) {k0 : Nat} {z0 : State} (hk : Nat.land 0x420200031b80 k0 = 0x420200031b80) (hz : Keep k0 z0 s) : Keep k0 z0 (procSetLexCfg  a s) := by
  refine Keep.step ?_ hk hz
  unfold procSetLexCfg
  refine process_keep _ _ _ _ _ _ 0x200030300 (fun u ws => ?_) rfl rfl rfl (Keep.refl _ _)
  repeat' first
    | with_reducible refine Keep.ite ?_ ?_
    | intro u hu
    | with_reducible apply actLexCfg_keep
    | with_reducible exact Keep.refl _ _
    | with_reducible assumption
    | exact rfl
    | exact id
    | exact Or.inl rfl
    | exact Or.inr rfl
    | exact Or.inr (List.prefix_refl _)
    | exact Or.inr fun _ => rfl
    | exact Or.inr ⟨rfl, rfl, rfl⟩
    | exact Or.inr fun _ => ⟨rfl, rfl, rfl⟩
    | exact Or.inr fun _ => ⟨rfl, rfl⟩
    | split
    | dsimp only

theorem execSetLexCfg_keep (m : Sentence) (s : State) {t : State} (h : execSetLexCfg m s = .next t) : Keep 0x420200031b80 s t := by
  unfold execSetLexCfg at h
  injection h with h
  subst h
  repeat' first
    | with_reducible refine Keep.ite ?_ ?_
    | intro u hu
    | with_reducible apply submit_keep
    | with_reducible apply procSetLexCfg_keep
    | with_reducible exact Keep.refl _ _
    | with_reducible assumption
    | exact rfl
    | exact id
    | exact Or.inl rfl
    | exact Or.inr rfl
    | exact Or.inr (List.prefix_refl _)
    | exact Or.inr fun _ => rfl
    | exact Or.inr ⟨rfl, rfl, rfl⟩
    | exact Or.inr fun _ => ⟨rfl, rfl, rfl⟩
    | exact Or.inr fun _ => ⟨rfl, rfl⟩
    | split
    | dsimp only

theorem procGetLexPort_keep  (a : Sentence) (s : State) {k0 : Nat} {z0 : State} (hk : Nat.land 0x420000001b80 k0 = 0x420000001b80) (hz : Keep k0 z0 s) : Keep k0 z0 (procGetLexPort  a s) := by
  refine Keep.step ?_ hk hz
  unfold procGetLexPort
  refine process_keep _ _ _ _ _ _ 0x0 (fun u ws => ?_) rfl rfl rfl (Keep.refl _ _)
  repeat' first
    | exact getAct_keep ..

theorem execGetLexPort_keep (m : Sentence) (s : State) {t : State} (h : execGetLexPort m s = .next t) : Keep 0x420000001b80 s t := by
  unfold execGetLexPort at h
  injection h with h
  subst h
  repeat' first
    | with_reducible refine Keep.ite ?_ ?_
    | intro u hu
    | with_reducible apply submit_keep
    | with_reducible apply procGetLexPort_keep
    | with_reducible exact Keep.refl _ _
    | with_reducible assumption
    | exact rfl
    | exact id
    | exact Or.inl rfl
    | exact Or.inr rfl
    | exact Or.inr (List.prefix_refl _)
    | exact Or.inr fun _ => rfl
    | exact Or.inr ⟨rfl, rfl, rfl⟩
    | exact Or.inr fun _ => ⟨rfl, rfl, rfl⟩
    | exact Or.inr fun _ => ⟨rfl, rfl⟩
    | split
    | dsimp only

theorem actLexPort_keep (s : State) (m : Sentence) (ws : List Word) {k0 : Nat} {z0 : State} (hk : Nat.land 0x200010000 k0 = 0x200010000) (hz : Keep k0 z0 s) : Keep k0 z0 (actLexPort s m ws).1 := by
  refine Keep.step ?_ hk hz
  unfold actLexPort
  repeat' first
    | with_reducible refine Keep.ite ?_ ?_
    | intro u hu
    | with_reducible apply State.applyChanges_keep
    | with_reducible apply State.markPort_keep
    | with_reducible exact Keep.refl _ _
    | with_reducible assumption
    | exact rfl
    | exact id
    | exact Or.inl rfl
    | exact Or.inr rfl
    | exact Or.inr (List.prefix_refl _)
    | exact Or.inr fun _ => rfl
    | exact Or.inr ⟨rfl, rfl, rfl⟩
    | exact Or.inr fun _ => ⟨rfl, rfl, rfl⟩
    | exact Or.inr fun _ => ⟨rfl, rfl⟩
    | split
    | dsimp only

theorem procSetLexPort_keep  (a : Sentence) (s : State) {k0 : Nat} {z0 : State} (hk : Nat.land 0x420200011b80 k0 = 0x420200011b80) (hz : Keep k0 z0 s) : Keep k0 z0 (procSetLexPort  a s) := by
  refine Keep.step ?_ hk hz
  unfold procSetLexPort
  refine process_keep _ _ _ _ _ _ 0x200010000 (fun u ws => ?_) rfl rfl rfl (Keep.refl _ _)
  repeat' first
    | with_reducible refine Keep.ite ?_ ?_
    | intro u hu
    | with_reducible apply actLexPort_keep
    | with_reducible exact Keep.refl _ _
    | with_reducible assumption
    | exact rfl
    | exact id
    | exact Or.inl rfl
    | exact Or.inr rfl
    | exact Or.inr (List.prefix_refl _)
    | exact Or.inr fun _ => rfl
    | exact Or.inr ⟨rfl, rfl, rfl⟩
    | exact Or.inr fun _ => ⟨rfl, rfl, rfl⟩
    | exact Or.inr fun _ => ⟨rfl, rfl⟩
    | split
    | dsimp only

theorem execSetLexPort_keep (m : Sentence) (s : State) {t : State} (h : execSetLexPort m s = .next t) : Keep 0x420200011b80 s t := by
  unfold execSetLexPort at h
  injection h with h
  subst h
  repeat' first
    | with_reducible refine Keep.ite ?_ ?_
    | intro u hu
    | with_reducible apply submit_keep
    | with_reducible apply procSetLexPort_keep
    | with_reducible exact Keep.refl _ _
    | with_reducible assumption
    | exact rfl
    | exact id
    | exact Or.inl rfl
    | exact Or.inr rfl
    | exact Or.inr (List.prefix_refl _)
    | exact Or.inr fun _ => rfl
    | exact Or.inr ⟨rfl, rfl, rfl⟩
    | exact Or.inr fun _ => ⟨rfl, rfl, rfl⟩
    | exact Or.inr fun _ => ⟨rfl, rfl⟩
    | split
    | dsimp only

theorem actLexContext_keep (s : State) (x_ : Sentence) (ws : List Word) {k0 : Nat} {z0 : State} (hk : Nat.land 0x0 k0 = 0x0) (hz : Keep k0 z0 s) : Keep k0 z0 (actLexContext s x_ ws).1 := by
  refine Keep.step ?_ hk hz
  unfold actLexContext
  repeat' first
    | with_reducible refine Keep.ite ?_ ?_
    | intro u hu
    | with_reducible exact Keep.refl _ _
    | with_reducible assumption
    | exact rfl
    | exact id
    | exact Or.inl rfl
    | exact Or.inr rfl
    | exact Or.inr (List.prefix_refl _)
    | exact Or.inr fun _ => rfl
    | exact Or.inr ⟨rfl, rfl, rfl⟩
    | exact Or.inr fun _ => ⟨rfl, rfl, rfl⟩
    | exact Or.inr fun _ => ⟨rfl, rfl⟩
    | split
    | dsimp only

theorem procGetLexContext_keep  (a : Sentence) (s : State) {k0 : Nat} {z0 : State} (hk : Nat.land 0x420000001b80 k0 = 0x420000001b80) (hz : Keep k0 z0 s) : Keep k0 z0 (procGetLexContext  a s) := by
  refine Keep.step ?_ hk hz
  unfold procGetLexContext
  refine process_keep _ _ _ _ _ _ 0x0 (fun u ws => ?_) rfl rfl rfl (Keep.refl _ _)
  repeat' first
    | with_reducible refine Keep.ite ?_ ?_
    | intro u hu
    | with_reducible apply actLexContext_keep
    | with_reducible exact Keep.refl _ _
    | with_reducible assumption
    | exact rfl
    | exact id
    | exact Or.inl rfl
    | exact Or.inr rfl
    | exact Or.inr (List.prefix_refl _)
    | exact Or.inr fun _ => rfl
    | exact Or.inr ⟨rfl, rfl, rfl⟩
    | exact Or.inr fun _ => ⟨rfl, rfl, rfl⟩
    | exact Or.inr fun _ => ⟨rfl, rfl⟩
    | split
    | dsimp only

theorem execGetLexContext_keep (m : Sentence) (s : State) {t : State} (h : execGetLexContext m s = .next t) : Keep 0x420000001b80 s t := by
  unfold execGetLexContext at h
  injection h with h
  subst h
  repeat' first
    | with_reducible refine Keep.ite ?_ ?_
    | intro u hu
    | with_reducible apply submit_keep
    | with_reducible apply procGetLexContext_keep
    | with_reducible exact Keep.refl _ _
    | with_reducible assumption
    | exact rfl
    | exact id
    | exact Or.inl rfl
    | exact Or.inr rfl
    | exact Or.inr (List.prefix_refl _)
    | exact Or.inr fun _ => rfl
    | exact Or.inr ⟨rfl, rfl, rfl⟩
    | exact Or.inr fun _ => ⟨rfl, rfl, rfl⟩
    | exact Or.inr fun _ => ⟨rfl, rfl⟩
    | split
    | dsimp only

theorem actInsertCtx_keep (s : State) (x_ : Sentence) (ws : List Word) {k0 : Nat} {z0 : State} (hk : Nat.land 0x200020300 k0 = 0x200020300) (hz : Keep k0 z0 s) : Keep k0 z0 (actInsertCtx s x_ ws).1 := by
  refine Keep.step ?_ hk hz
  unfold actInsertCtx
  repeat' first
    | with_reducible refine Keep.ite ?_ ?_
    | intro u hu
    | with_reducible apply State.insertKey_keep
    | with_reducible exact Keep.refl _ _
    | with_reducible assumption
    | exact rfl
    | exact id
    | exact Or.inl rfl
    | exact Or.inr rfl
    | exact Or.inr (List.prefix_refl _)
    | exact Or.inr fun _ => rfl
    | exact Or.inr ⟨rfl, rfl, rfl⟩
    | exact Or.inr fun _ => ⟨rfl, rfl, rfl⟩
    | exact Or.inr fun _ => ⟨rfl, rfl⟩
    | split
    | dsimp only

theorem procInsertLexContext_keep  (a : Sentence) (s : State) {k0 : Nat} {z0 : State} (hk : Nat.land 0x420200021b80 k0 = 0x420200021b80) (hz : Keep k0 z0 s) : Keep k0 z0 (procInsertLexContext  a s) := by
  refine Keep.step ?_ hk hz
  unfold procInsertLexContext
  refine process_keep _ _ _ _ _ _ 0x200020300 (fun u ws => ?_) rfl rfl rfl (Keep.refl _ _)
  repeat' first
    | with_reducible refine Keep.ite ?_ ?_
    | intro u hu
    | with_reducible apply actInsertCtx_keep
    | with_reducible exact Keep.refl _ _
    | with_reducible assumption
    | exact rfl
    | exact id
    | exact Or.inl rfl
    | exact Or.inr rfl
    | exact Or.inr (List.prefix_refl _)
    | exact Or.inr fun _ => rfl
    | exact Or.inr ⟨rfl, rfl, rfl⟩
    | exact Or.inr fun _ => ⟨rfl, rfl, rfl⟩
    | exact Or.inr fun _ => ⟨rfl, rfl⟩
    | split
    | dsimp only

theorem execInsertLexContext_keep (m : Sentence) (s : State) {t : State} (h : execInsertLexContext m s = .next t) : Keep 0x420200021b80 s t := by
  unfold execInsertLexContext at h
  injection h with h
  subst h
  repeat' first
    | with_reducible refine Keep.ite ?_ ?_
    | intro u hu
    | with_reducible apply submit_keep
    | with_reducible apply procInsertLexContext_keep
    | with_reducible exact Keep.refl _ _
    | with_reducible assumption
    | exact rfl
    | exact id
    | exact Or.inl rfl
    | exact Or.inr rfl
    | exact Or.inr (List.prefix_refl _)
    | exact Or.inr fun _ => rfl
    | exact Or.inr ⟨rfl, rfl, rfl⟩
    | exact Or.inr fun _ => ⟨rfl, rfl, rfl⟩
    | exact Or.inr fun _ => ⟨rfl, rfl⟩
    | split
    | dsimp only

theorem actDeleteCtx_keep (s : State) (x_ : Sentence) (ws : List Word) {k0 : Nat} {z0 : State} (hk : Nat.land 0x200000000 k0 = 0x200000000) (hz : Keep k0 z0 s) : Keep k0 z0 (actDeleteCtx s x_ ws).1 := by
  refine Keep.step ?_ hk hz
  unfold actDeleteCtx
  repeat' first
    | with_reducible refine Keep.ite ?_ ?_
    | intro u hu
    | with_reducible apply Keep.modCtx
    | with_reducible exact Keep.refl _ _
    | with_reducible assumption
    | exact rfl
    | exact id
    | exact Or.inl rfl
    | exact Or.inr rfl
    | exact Or.inr (List.prefix_refl _)
    | exact Or.inr fun _ => rfl
    | exact Or.inr ⟨rfl, rfl, rfl⟩
    | exact Or.inr fun _ => ⟨rfl, rfl, rfl⟩
    | exact Or.inr fun _ => ⟨rfl, rfl⟩
    | split
    | dsimp only

theorem procDeleteLexContext_keep  (a : Sentence) (s : State) {k0 : Nat} {z0 : State} (hk : Nat.land 0x420200001b80 k0 = 0x420200001b80) (hz : Keep k0 z0 s) : Keep k0 z0 (procDeleteLexContext  a s) := by
  refine Keep.step ?_ hk hz
  unfold procDeleteLexContext
  refine process_keep _ _ _ _ _ _ 0x200000000 (fun u ws => ?_) rfl rfl rfl (Keep.refl _ _)
  repeat' first
    | with_reducible refine Keep.ite ?_ ?_
    | intro u hu
    | with_reducible apply actDeleteCtx_keep
    | with_reducible exact Keep.refl _ _
    | with_reducible assumption
    | exact rfl
    | exact id
    | exact Or.inl rfl
    | exact Or.inr rfl
    | exact Or.inr (List.prefix_refl _)
    | exact Or.inr fun _ => rfl
    | exact Or.inr ⟨rfl, rfl, rfl⟩
    | exact Or.inr fun _ => ⟨rfl, rfl, rfl⟩
    | exact Or.inr fun _ => ⟨rfl, rfl⟩
    | split
    | dsimp only

theorem execDeleteLexContext_keep (m : Sentence) (s : State) {t : State} (h : execDeleteLexContext m s = .next t) : Keep 0x420200001b80 s t := by
  unfold execDeleteLexContext at h
  injection h with h
  subst h
  repeat' first
    | with_reducible refine Keep.ite ?_ ?_
    | intro u hu
    | with_reducible apply submit_keep
    | with_reducible apply procDeleteLexContext_keep
    | with_reducible exact Keep.refl _ _
    | with_reducible assumption
    | exact rfl
    | exact id
    | exact Or.inl rfl
    | exact Or.inr rfl
    | exact Or.inr (List.prefix_refl _)
    | exact Or.inr fun _ => rfl
    | exact Or.inr ⟨rfl, rfl, rfl⟩
    | exact Or.inr fun _ => ⟨rfl, rfl, rfl⟩
    | exact Or.inr fun _ => ⟨rfl, rfl⟩
    | split
    | dsimp only

theorem actFlushLex_keep (s : State) (m : Sentence) (x_ : List Word) {k0 : Nat} {z0 : State} (hk : Nat.land 0x200000000 k0 = 0x200000000) (hz : Keep k0 z0 s) : Keep k0 z0 (actFlushLex s m x_).1 := by
  refine Keep.step ?_ hk hz
  unfold actFlushLex
  repeat' first
    | with_reducible refine Keep.ite ?_ ?_
    | intro u hu
    | with_reducible apply State.startPass_keep
    | with_reducible exact Keep.refl _ _
    | with_reducible assumption
    | exact rfl
    | exact id
    | exact Or.inl rfl
    | exact Or.inr rfl
    | exact Or.inr (List.prefix_refl _)
    | exact Or.inr fun _ => rfl
    | exact Or.inr ⟨rfl, rfl, rfl⟩
    | exact Or.inr fun _ => ⟨rfl, rfl, rfl⟩
    | exact Or.inr fun _ => ⟨rfl, rfl⟩
    | split
    | dsimp only

theorem procFlushLexDump_keep  (a : Sentence) (s : State) {k0 : Nat} {z0 : State} (hk : Nat.land 0x420200001b80 k0 = 0x420200001b80) (hz : Keep k0 z0 s) : Keep k0 z0 (procFlushLexDump  a s) := by
  refine Keep.step ?_ hk hz
  unfold procFlushLexDump
  refine process_keep _ _ _ _ _ _ 0x200000000 (fun u ws => ?_) rfl rfl rfl (Keep.refl _ _)
  repeat' first
    | with_reducible refine Keep.ite ?_ ?_
    | intro u hu
    | with_reducible apply actFlushLex_keep
    | with_reducible exact Keep.refl _ _
    | with_reducible assumption
    | exact rfl
    | exact id
    | exact Or.inl rfl
    | exact Or.inr rfl
    | exact Or.inr (List.prefix_refl _)
    | exact Or.inr fun _ => rfl
    | exact Or.inr ⟨rfl, rfl, rfl⟩
    | exact Or.inr fun _ => ⟨rfl, rfl, rfl⟩
    | exact Or.inr fun _ => ⟨rfl, rfl⟩
    | split
    | dsimp only

theorem execFlushLexDump_keep (m : Sentence) (s : State) {t : State} (h : execFlushLexDump m s = .next t) : Keep 0x420200001b80 s t := by
  unfold execFlushLexDump at h
  injection h with h
  subst h
  repeat' first
    | with_reducible refine Keep.ite ?_ ?_
    | intro u hu
    | with_reducible apply submit_keep
    | with_reducible apply procFlushLexDump_keep
    | with_reducible exact Keep.refl _ _
    | with_reducible assumption
    | exact rfl
    | exact id
    | exact Or.inl rfl
    | exact Or.inr rfl
    | exact Or.inr (List.prefix_refl _)
    | exact Or.inr fun _ => rfl
    | exact Or.inr ⟨rfl, rfl, rfl⟩
    | exact Or.inr fun _ => ⟨rfl, rfl, rfl⟩
    | exact Or.inr fun _ => ⟨rfl, rfl⟩
    | split
    | dsimp only

theorem procGetLexStats_keep  (a : Sentence) (s : State) {k0 : Nat} {z0 : State} (hk : Nat.land 0x420000001b80 k0 = 0x420000001b80) (hz : Keep k0 z0 s) : Keep k0 z0 (procGetLexStats  a s) := by
  refine Keep.step ?_ hk hz
  unfold procGetLexStats
  refine process_keep _ _ _ _ _ _ 0x0 (fun u ws => ?_) rfl rfl rfl (Keep.refl _ _)
  repeat' first
    | exact getAct_keep ..

theorem execGetLexStats_keep (m : Sentence) (s : State) {t : State} (h : execGetLexStats m s = .next t) : Keep 0x420000001b80 s t := by
  unfold execGetLexStats at h
  injection h with h
  subst h
  repeat' first
    | with_reducible refine Keep.ite ?_ ?_
    | intro u hu
    | with_reducible apply submit_keep
    | with_reducible apply procGetLexStats_keep
    | with_reducible exact Keep.refl _ _
    | with_reducible assumption
    | exact rfl
    | exact id
    | exact Or.inl rfl
    | exact Or.inr rfl
    | exact Or.inr (List.prefix_refl _)
    | exact Or.inr fun _ => rfl
    | exact Or.inr ⟨rfl, rfl, rfl⟩
    | exact Or.inr fun _ => ⟨rfl, rfl, rfl⟩
    | exact Or.inr fun _ => ⟨rfl, rfl⟩
    | split
    | dsimp only

theorem execPortStartTimeout_keep (p : Nat) (s : State) {t : State} (h : execPortStartTimeout p s = .next t) : Keep 0x20020001b80 s t := by
  unfold execPortStartTimeout at h
  injection h with h
  subst h
  repeat' first
    | with_reducible refine Keep.ite ?_ ?_
    | intro u hu
    | with_reducible apply State.finishOpt_keep
    | with_reducible apply State.raise_keep
    | with_reducible apply Keep.modPort
    | with_reducible exact Keep.refl _ _
    | with_reducible assumption
    | exact rfl
    | exact id
    | exact Or.inl rfl
    | exact Or.inr rfl
    | exact Or.inr (List.prefix_refl _)
    | exact Or.inr fun _ => rfl
    | exact Or.inr ⟨rfl, rfl, rfl⟩
    | exact Or.inr fun _ => ⟨rfl, rfl, rfl⟩
    | exact Or.inr fun _ => ⟨rfl, rfl⟩
    | split
    | dsimp only

theorem State.reconfigure_keep (s : State) (p : Nat) (c : Option PortCfg) {k0 : Nat} {z0 : State} (hk : Nat.land 0x362bbb05b8a k0 = 0x362bbb05b8a) (hz : Keep k0 z0 s) : Keep k0 z0 (State.reconfigure s p c) := by
  refine Keep.step ?_ hk hz
  unfold State.reconfigure
  repeat' first
    | with_reducible refine Keep.ite ?_ ?_
    | with_reducible refine Keep.foldl _ ?_ ?_
    | intro u x hu
    | intro u hu
    | with_reducible apply State.pltConfigured_keep
    | with_reducible apply State.dropAdapt_keep
    | with_reducible apply State.reserve_keep
    | with_reducible apply State.follow_keep
    | with_reducible apply Keep.modPort
    | with_reducible exact Keep.refl _ _
    | with_reducible assumption
    | exact rfl
    | exact id
    | exact Or.inl rfl
    | exact Or.inr rfl
    | exact Or.inr (List.prefix_refl _)
    | exact Or.inr fun _ => rfl
    | exact Or.inr ⟨rfl, rfl, rfl⟩
    | exact Or.inr fun _ => ⟨rfl, rfl, rfl⟩
    | exact Or.inr fun _ => ⟨rfl, rfl⟩
    | split
    | dsimp only

theorem actPortCfg_keep (s : State) (m : Sentence) (ws : List Word) {k0 : Nat} {z0 : State} (hk : Nat.land 0x362fbb15b8a k0 = 0x362fbb15b8a) (hz : Keep k0 z0 s) : Keep k0 z0 (actPortCfg s m ws).1 := by
  refine Keep.step ?_ hk hz
  unfold actPortCfg
  repeat' first
    | with_reducible refine Keep.ite ?_ ?_
    | with_reducible refine Keep.foldl _ ?_ ?_
    | intro u x hu
    | intro u hu
    | with_reducible apply setAct_keep
    | with_reducible apply State.follow_keep
    | with_reducible apply State.reconfigure_keep
    | with_reducible apply Keep.modPort
    | with_reducible apply Keep.modBlock
    | with_reducible exact Keep.refl _ _
    | with_reducible assumption
    | exact rfl
    | exact id
    | exact Or.inl rfl
    | exact Or.inr rfl
    | exact Or.inr (List.prefix_refl _)
    | exact Or.inr fun _ => rfl
    | exact Or.inr ⟨rfl, rfl, rfl⟩
    | exact Or.inr fun _ => ⟨rfl, rfl, rfl⟩
    | exact Or.inr fun _ => ⟨rfl, rfl⟩
    | split
    | dsimp only

theorem procGetPortCfg_keep  (a : Sentence) (s : State) {k0 : Nat} {z0 : State} (hk : Nat.land 0x420000001b80 k0 = 0x420000001b80) (hz : Keep k0 z0 s) : Keep k0 z0 (procGetPortCfg  a s) := by
  refine Keep.step ?_ hk hz
  unfold procGetPortCfg
  refine process_keep _ _ _ _ _ _ 0x0 (fun u ws => ?_) rfl rfl rfl (Keep.refl _ _)
  repeat' first
    | exact getAct_keep ..

theorem execGetPortCfg_keep (m : Sentence) (s : State) {t : State} (h : execGetPortCfg m s = .next t) : Keep 0x420000001b80 s t := by
  unfold execGetPortCfg at h
  injection h with h
  subst h
  repeat' first
    | with_reducible refine Keep.ite ?_ ?_
    | intro u hu
    | with_reducible apply submit_keep
    | with_reducible apply procGetPortCfg_keep
    | with_reducible exact Keep.refl _ _
    | with_reducible assumption
    | exact rfl
    | exact id
    | exact Or.inl rfl
    | exact Or.inr rfl
    | exact Or.inr (List.prefix_refl _)
    | exact Or.inr fun _ => rfl
    | exact Or.inr ⟨rfl, rfl, rfl⟩
    | exact Or.inr fun _ => ⟨rfl, rfl, rfl⟩
    | exact Or.inr fun _ => ⟨rfl, rfl⟩
    | split
    | dsimp only

theorem procSetPortCfg_keep  (a : Sentence) (s : State) {k0 : Nat} {z0 : State} (hk : Nat.land 0x4362fbb15b8a k0 = 0x4362fbb15b8a) (hz : Keep k0 z0 s) : Keep k0 z0 (procSetPortCfg  a s) := by
  refine Keep.step ?_ hk hz
  unfold procSetPortCfg
  refine process_keep _ _ _ _ _ _ 0x362fbb15b8a (fun u ws => ?_) rfl rfl rfl (Keep.refl _ _)
  repeat' first
    | with_reducible refine Keep.ite ?_ ?_
    | intro u hu
    | with_reducible apply actPortCfg_keep
    | with_reducible exact Keep.refl _ _
    | with_reducible assumption
    | exact rfl
    | exact id
    | exact Or.inl rfl
    | exact Or.inr rfl
    | exact Or.inr (List.prefix_refl _)
    | exact Or.inr fun _ => rfl
    | exact Or.inr ⟨rfl, rfl, rfl⟩
    | exact Or.inr fun _ => ⟨rfl, rfl, rfl⟩
    | exact Or.inr fun _ => ⟨rfl, rfl⟩
    | split
    | dsimp only

theorem execSetPortCfg_keep (m : Sentence) (s : State) {t : State} (h : execSetPortCfg m s = .next t) : Keep 0x4362fbb15b8a s t := by
  unfold execSetPortCfg at h
  injection h with h
  subst h
  repeat' first
    | with_reducible refine Keep.ite ?_ ?_
    | intro u hu
    | with_reducible apply submit_keep
    | with_reducible apply procSetPortCfg_keep
    | with_reducible exact Keep.refl _ _
    | with_reducible assumption
    | exact rfl
    | exact id
    | exact Or.inl rfl
    | exact Or.inr rfl
    | exact Or.inr (List.prefix_refl _)
    | exact Or.inr fun _ => rfl
    | exact Or.inr ⟨rfl, rfl, rfl⟩
    | exact Or.inr fun _ => ⟨rfl, rfl, rfl⟩
    | exact Or.inr fun _ => ⟨rfl, rfl⟩
    | split
    | dsimp only

theorem actDeletePort_keep (s : State) (m : Sentence) (x_ : List Word) {k0 : Nat} {z0 : State} (hk : Nat.land 0x362bbb15b8a k0 = 0x362bbb15b8a) (hz : Keep k0 z0 s) : Keep k0 z0 (actDeletePort s m x_).1 := by
  refine Keep.step ?_ hk hz
  unfold actDeletePort
  repeat' first
    | with_reducible refine Keep.ite ?_ ?_
    | with_reducible refine Keep.foldl _ ?_ ?_
    | intro u x hu
    | intro u hu
    | with_reducible apply State.pltDiscard_keep
    | with_reducible apply State.setParams_keep
    | with_reducible apply State.reconfigure_keep
    | with_reducible apply State.markPort_keep
    | with_reducible exact Keep.refl _ _
    | with_reducible assumption
    | exact rfl
    | exact id
    | exact Or.inl rfl
    | exact Or.inr rfl
    | exact Or.inr (List.prefix_refl _)
    | exact Or.inr fun _ => rfl
    | exact Or.inr ⟨rfl, rfl, rfl⟩
    | exact Or.inr fun _ => ⟨rfl, rfl, rfl⟩
    | exact Or.inr fun _ => ⟨rfl, rfl⟩
    | split
    | dsimp only

theorem procDeletePortCfg_keep  (a : Sentence) (s : State) {k0 : Nat} {z0 : State} (hk : Nat.land 0x4362bbb15b8a k0 = 0x4362bbb15b8a) (hz : Keep k0 z0 s) : Keep k0 z0 (procDeletePortCfg  a s) := by
  refine Keep.step ?_ hk hz
  unfold procDeletePortCfg
  refine process_keep _ _ _ _ _ _ 0x362bbb15b8a (fun u ws => ?_) rfl rfl rfl (Keep.refl _ _)
  repeat' first
    | with_reducible refine Keep.ite ?_ ?_
    | intro u hu
    | with_reducible apply actDeletePort_keep
    | with_reducible exact Keep.refl _ _
    | with_reducible assumption
    | exact rfl
    | exact id
    | exact Or.inl rfl
    | exact Or.inr rfl
    | exact Or.inr (List.prefix_refl _)
    | exact Or.inr fun _ => rfl
    | exact Or.inr ⟨rfl, rfl, rfl⟩
    | exact Or.inr fun _ => ⟨rfl, rfl, rfl⟩
    | exact Or.inr fun _ => ⟨rfl, rfl⟩
    | split
    | dsimp only

theorem execDeletePortCfg_keep (m : Sentence) (s : State) {t : State} (h : execDeletePortCfg m s = .next t) : Keep 0x4362bbb15b8a s t := by
  unfold execDeletePortCfg at h
  injection h with h
  subst h
  repeat' first
    | with_reducible refine Keep.ite ?_ ?_
    | intro u hu
    | with_reducible apply submit_keep
    | with_reducible apply procDeletePortCfg_keep
    | with_reducible exact Keep.refl _ _
    | with_reducible assumption
    | exact rfl
    | exact id
    | exact Or.inl rfl
    | exact Or.inr rfl
    | exact Or.inr (List.prefix_refl _)
    | exact Or.inr fun _ => rfl
    | exact Or.inr ⟨rfl, rfl, rfl⟩
    | exact Or.inr fun _ => ⟨rfl, rfl, rfl⟩
    | exact Or.inr fun _ => ⟨rfl, rfl⟩
    | split
    | dsimp only

theorem actStart_keep (s : State) (m : Sentence) (x_ : List Word) {k0 : Nat} {z0 : State} (hk : Nat.land 0x363bffe5b8a k0 = 0x363bffe5b8a) (hz : Keep k0 z0 s) : Keep k0 z0 (actStart s m x_).1 := by
  refine Keep.step ?_ hk hz
  unfold actStart
  repeat' first
    | with_reducible refine Keep.ite ?_ ?_
    | intro u hu
    | with_reducible apply State.setMode_keep
    | with_reducible apply State.portStart_keep
    | with_reducible apply State.checkSlices_keep
    | with_reducible apply State.follow_keep
    | with_reducible exact Keep.refl _ _
    | with_reducible assumption
    | exact rfl
    | exact id
    | exact Or.inl rfl
    | exact Or.inr rfl
    | exact Or.inr (List.prefix_refl _)
    | exact Or.inr fun _ => rfl
    | exact Or.inr ⟨rfl, rfl, rfl⟩
    | exact Or.inr fun _ => ⟨rfl, rfl, rfl⟩
    | exact Or.inr fun _ => ⟨rfl, rfl⟩
    | split
    | dsimp only

theorem procStartPort_keep  (a : Sentence) (s : State) {k0 : Nat} {z0 : State} (hk : Nat.land 0x4363bffe5b8a k0 = 0x4363bffe5b8a) (hz : Keep k0 z0 s) : Keep k0 z0 (procStartPort  a s) := by
  refine Keep.step ?_ hk hz
  unfold procStartPort
  refine process_keep _ _ _ _ _ _ 0x363bffe5b8a (fun u ws => ?_) rfl rfl rfl (Keep.refl _ _)
  repeat' first
    | with_reducible refine Keep.ite ?_ ?_
    | intro u hu
    | with_reducible apply actStart_keep
    | with_reducible exact Keep.refl _ _
    | with_reducible assumption
    | exact rfl
    | exact id
    | exact Or.inl rfl
    | exact Or.inr rfl
    | exact Or.inr (List.prefix_refl _)
    | exact Or.inr fun _ => rfl
    | exact Or.inr ⟨rfl, rfl, rfl⟩
    | exact Or.inr fun _ => ⟨rfl, rfl, rfl⟩
    | exact Or.inr fun _ => ⟨rfl, rfl⟩
    | split
    | dsimp only

theorem execStartPort_keep (m : Sentence) (s : State) {t : State} (h : execStartPort m s = .next t) : Keep 0x4363bffe5b8a s t := by
  unfold execStartPort at h
  injection h with h
  subst h
  repeat' first
    | with_reducible refine Keep.ite ?_ ?_
    | intro u hu
    | with_reducible apply submit_keep
    | with_reducible apply procStartPort_keep
    | with_reducible exact Keep.refl _ _
    | with_reducible assumption
    | exact rfl
    | exact id
    | exact Or.inl rfl
    | exact Or.inr rfl
    | exact Or.inr (List.prefix_refl _)
    | exact Or.inr fun _ => rfl
    | exact Or.inr ⟨rfl, rfl, rfl⟩
    | exact Or.inr fun _ => ⟨rfl, rfl, rfl⟩
    | exact Or.inr fun _ => ⟨rfl, rfl⟩
    | split
    | dsimp only

theorem State.stopPort_keep (s : State) (p : Nat) {k0 : Nat} {z0 : State} (hk : Nat.land 0x363fffedb8a k0 = 0x363fffedb8a) (hz : Keep k0 z0 s) : Keep k0 z0 (State.stopPort s p) := by
  refine Keep.step ?_ hk hz
  unfold State.stopPort
  repeat' first
    | with_reducible refine Keep.ite ?_ ?_
    | with_reducible refine Keep.foldl _ ?_ ?_
    | intro u x hu
    | intro u hu
    | with_reducible apply State.pltDiscard_keep
    | with_reducible apply State.portStop_keep
    | with_reducible apply State.follow_keep
    | with_reducible exact Keep.refl _ _
    | with_reducible assumption
    | exact rfl
    | exact id
    | exact Or.inl rfl
    | exact Or.inr rfl
    | exact Or.inr (List.prefix_refl _)
    | exact Or.inr fun _ => rfl
    | exact Or.inr ⟨rfl, rfl, rfl⟩
    | exact Or.inr fun _ => ⟨rfl, rfl, rfl⟩
    | exact Or.inr fun _ => ⟨rfl, rfl⟩
    | split
    | dsimp only

theorem actStop_keep (s : State) (m : Sentence) (x_ : List Word) {k0 : Nat} {z0 : State} (hk : Nat.land 0x363fffedb8a k0 = 0x363fffedb8a) (hz : Keep k0 z0 s) : Keep k0 z0 (actStop s m x_).1 := by
  refine Keep.step ?_ hk hz
  unfold actStop
  repeat' first
    | with_reducible refine Keep.ite ?_ ?_
    | intro u hu
    | with_reducible apply State.stopPort_keep
    | with_reducible exact Keep.refl _ _
    | with_reducible assumption
    | exact rfl
    | exact id
    | exact Or.inl rfl
    | exact Or.inr rfl
    | exact Or.inr (List.prefix_refl _)
    | exact Or.inr fun _ => rfl
    | exact Or.inr ⟨rfl, rfl, rfl⟩
    | exact Or.inr fun _ => ⟨rfl, rfl, rfl⟩
    | exact Or.inr fun _ => ⟨rfl, rfl⟩
    | split
    | dsimp only

theorem procStopPort_keep  (a : Sentence) (s : State) {k0 : Nat} {z0 : State} (hk : Nat.land 0x4363fffedb8a k0 = 0x4363fffedb8a) (hz : Keep k0 z0 s) : Keep k0 z0 (procStopPort  a s) := by
  refine Keep.step ?_ hk hz
  unfold procStopPort
  refine process_keep _ _ _ _ _ _ 0x363fffedb8a (fun u ws => ?_) rfl rfl rfl (Keep.refl _ _)
  repeat' first
    | with_reducible refine Keep.ite ?_ ?_
    | intro u hu
    | with_reducible apply actStop_keep
    | with_reducible exact Keep.refl _ _
    | with_reducible assumption
    | exact rfl
    | exact id
    | exact Or.inl rfl
    | exact Or.inr rfl
    | exact Or.inr (List.prefix_refl _)
    | exact Or.inr fun _ => rfl
    | exact Or.inr ⟨rfl, rfl, rfl⟩
    | exact Or.inr fun _ => ⟨rfl, rfl, rfl⟩
    | exact Or.inr fun _ => ⟨rfl, rfl⟩
    | split
    | dsimp only

theorem execStopPort_keep (m : Sentence) (s : State) {t : State} (h : execStopPort m s = .next t) : Keep 0x4363fffedb8a s t := by
  unfold execStopPort at h
  injection h with h
  subst h
  repeat' first
    | with_reducible refine Keep.ite ?_ ?_
    | intro u hu
    | with_reducible apply submit_keep
    | with_reducible apply procStopPort_keep
    | with_reducible exact Keep.refl _ _
    | with_reducible assumption
    | exact rfl
    | exact id
    | exact Or.inl rfl
    | exact Or.inr rfl
    | exact Or.inr (List.prefix_refl _)
    | exact Or.inr fun _ => rfl
    | exact Or.inr ⟨rfl, rfl, rfl⟩
    | exact Or.inr fun _ => ⟨rfl, rfl, rfl⟩
    | exact Or.inr fun _ => ⟨rfl, rfl⟩
    | split
    | dsimp only

theorem procGetPortStatus_keep  (a : Sentence) (s : State) {k0 : Nat} {z0 : State} (hk : Nat.land 0x420000001b80 k0 = 0x420000001b80) (hz : Keep k0 z0 s) : Keep k0 z0 (procGetPortStatus  a s) := by
  refine Keep.step ?_ hk hz
  unfold procGetPortStatus
  refine process_keep _ _ _ _ _ _ 0x0 (fun u ws => ?_) rfl rfl rfl (Keep.refl _ _)
  repeat' first
    | exact getAct_keep ..

theorem execGetPortStatus_keep (m : Sentence) (s : State) {t : State} (h : execGetPortStatus m s = .next t) : Keep 0x420000001b80 s t := by
  unfold execGetPortStatus at h
  injection h with h
  subst h
  repeat' first
    | with_reducible refine Keep.ite ?_ ?_
    | intro u hu
    | with_reducible apply submit_keep
    | with_reducible apply procGetPortStatus_keep
    | with_reducible exact Keep.refl _ _
    | with_reducible assumption
    | exact rfl
    | exact id
    | exact Or.inl rfl
    | exact Or.inr rfl
    | exact Or.inr (List.prefix_refl _)
    | exact Or.inr fun _ => rfl
    | exact Or.inr ⟨rfl, rfl, rfl⟩
    | exact Or.inr fun _ => ⟨rfl, rfl, rfl⟩
    | exact Or.inr fun _ => ⟨rfl, rfl⟩
    | split
    | dsimp only

theorem State.domStep_keep (s : State) (d : Domain) (sec ns : Int) {k0 : Nat} {z0 : State} (hk : Nat.land 0x8300 k0 = 0x8300) (hz : Keep k0 z0 s) : Keep k0 z0 (State.domStep s d sec ns) := by
  refine Keep.step ?_ hk hz
  unfold State.domStep
  try simp -zeta only [State.fold_tku]
  repeat' first
    | with_reducible refine Keep.ite ?_ ?_
    | with_reducible apply State.raise_keep
    | with_reducible apply Keep.modDom
    | with_reducible apply Keep.set_tku
    | with_reducible exact Keep.refl _ _
    | with_reducible assumption
    | exact rfl
    | exact id
    | exact Or.inl rfl
    | exact Or.inr rfl
    | exact Or.inr (List.prefix_refl _)
    | exact Or.inr fun _ => rfl
    | exact Or.inr ⟨rfl, rfl, rfl⟩
    | exact Or.inr fun _ => ⟨rfl, rfl, rfl⟩
    | exact Or.inr fun _ => ⟨rfl, rfl⟩
    | split
    | dsimp only

theorem State.domSet_keep (s : State) (d : Domain) {k0 : Nat} {z0 : State} (hk : Nat.land 0x8300 k0 = 0x8300) (hz : Keep k0 z0 s) : Keep k0 z0 (State.domSet s d) := by
  refine Keep.step ?_ hk hz
  unfold State.domSet
  repeat' first
    | with_reducible refine Keep.ite ?_ ?_
    | with_reducible apply State.raise_keep
    | with_reducible apply Keep.modDom
    | with_reducible exact Keep.refl _ _
    | with_reducible assumption
    | exact rfl
    | exact id
    | exact Or.inl rfl
    | exact Or.inr rfl
    | exact Or.inr (List.prefix_refl _)
    | exact Or.inr fun _ => rfl
    | exact Or.inr ⟨rfl, rfl, rfl⟩
    | exact Or.inr fun _ => ⟨rfl, rfl, rfl⟩
    | exact Or.inr fun _ => ⟨rfl, rfl⟩
    | split
    | dsimp only

theorem State.goStep_keep (s : State) {k0 : Nat} {z0 : State} (hk : Nat.land 0x8300 k0 = 0x8300) (hz : Keep k0 z0 s) : Keep k0 z0 (State.goStep s) := by
  refine Keep.step ?_ hk hz
  unfold State.goStep
  try simp -zeta only [State.fold_tku]
  repeat' first
    | with_reducible refine Keep.ite ?_ ?_
    | with_reducible apply State.domStep_keep
    | with_reducible apply Keep.set_tku
    | with_reducible exact Keep.refl _ _
    | with_reducible assumption
    | exact rfl
    | exact id
    | exact Or.inl rfl
    | exact Or.inr rfl
    | exact Or.inr (List.prefix_refl _)
    | exact Or.inr fun _ => rfl
    | exact Or.inr ⟨rfl, rfl, rfl⟩
    | exact Or.inr fun _ => ⟨rfl, rfl, rfl⟩
    | exact Or.inr fun _ => ⟨rfl, rfl⟩
    | split
    | dsimp only

theorem State.selectDomain_keep (s : State) {k0 : Nat} {z0 : State} (hk : Nat.land 0x8300 k0 = 0x8300) (hz : Keep k0 z0 s) : Keep k0 z0 (State.selectDomain s) := by
  refine Keep.step ?_ hk hz
  unfold State.selectDomain
  try simp -zeta only [State.fold_tku]
  repeat' first
    | with_reducible refine Keep.ite ?_ ?_
    | with_reducible apply State.raise_keep
    | with_reducible apply Keep.set_tku
    | with_reducible exact Keep.refl _ _
    | with_reducible assumption
    | exact rfl
    | exact id
    | exact Or.inl rfl
    | exact Or.inr rfl
    | exact Or.inr (List.prefix_refl _)
    | exact Or.inr fun _ => rfl
    | exact Or.inr ⟨rfl, rfl, rfl⟩
    | exact Or.inr fun _ => ⟨rfl, rfl, rfl⟩
    | exact Or.inr fun _ => ⟨rfl, rfl⟩
    | split
    | dsimp only

theorem State.countTicks_keep (s : State) {k0 : Nat} {z0 : State} (hk : Nat.land 0x20000 k0 = 0x20000) (hz : Keep k0 z0 s) : Keep k0 z0 (State.countTicks s) := by
  refine Keep.step ?_ hk hz
  unfold State.countTicks
  repeat' first
    | with_reducible refine Keep.ite ?_ ?_
    | with_reducible refine Keep.foldl _ ?_ ?_
    | intro u x hu
    | intro u hu
    | with_reducible apply Keep.bump
    | with_reducible exact Keep.refl _ _
    | with_reducible assumption
    | exact rfl
    | exact id
    | exact Or.inl rfl
    | exact Or.inr rfl
    | exact Or.inr (List.prefix_refl _)
    | exact Or.inr fun _ => rfl
    | exact Or.inr ⟨rfl, rfl, rfl⟩
    | exact Or.inr fun _ => ⟨rfl, rfl, rfl⟩
    | exact Or.inr fun _ => ⟨rfl, rfl⟩
    | split
    | dsimp only

theorem State.tick_keep (s : State) {k0 : Nat} {z0 : State} (hk : Nat.land 0x20000028300 k0 = 0x20000028300) (hz : Keep k0 z0 s) : Keep k0 z0 (State.tick s) := by
  refine Keep.step ?_ hk hz
  unfold State.tick
  try simp -zeta only [State.fold_tku]
  repeat' first
    | with_reducible refine Keep.ite ?_ ?_
    | with_reducible apply State.goStep_keep
    | with_reducible apply State.domSet_keep
    | with_reducible apply State.selectDomain_keep
    | with_reducible apply State.countTicks_keep
    | with_reducible apply State.pmcEvent_keep
    | with_reducible apply Keep.modDom
    | with_reducible apply Keep.set_tku
    | with_reducible exact Keep.refl _ _
    | with_reducible assumption
    | exact rfl
    | exact id
    | exact Or.inl rfl
    | exact Or.inr rfl
    | exact Or.inr (List.prefix_refl _)
    | exact Or.inr fun _ => rfl
    | exact Or.inr ⟨rfl, rfl, rfl⟩
    | exact Or.inr fun _ => ⟨rfl, rfl, rfl⟩
    | exact Or.inr fun _ => ⟨rfl, rfl⟩
    | split
    | dsimp only

theorem execBcntTick_keep (s : State) {t : State} (h : execBcntTick s = .next t) : Keep 0x20000028300 s t := by
  unfold execBcntTick at h
  injection h with h
  subst h
  repeat' first
    | with_reducible refine Keep.ite ?_ ?_
    | intro u hu
    | with_reducible apply State.tick_keep
    | with_reducible exact Keep.refl _ _
    | with_reducible assumption
    | exact rfl
    | exact id
    | exact Or.inl rfl
    | exact Or.inr rfl
    | exact Or.inr (List.prefix_refl _)
    | exact Or.inr fun _ => rfl
    | exact Or.inr ⟨rfl, rfl, rfl⟩
    | exact Or.inr fun _ => ⟨rfl, rfl, rfl⟩
    | exact Or.inr fun _ => ⟨rfl, rfl⟩
    | split
    | dsimp only

theorem State.fold_dev_tku (t : State) (dev' : type_of% t.dev) (tku' : type_of% t.tku) :
    State.mk t.pending t.free t.fuses dev' t.shut t.mb t.ev t.icu t.hif t.err tku' t.params t.stats t.line t.host t.group t.port t.block t.eng t.hinge t.lex t.mem t.rep t.ocu t.cal t.thm t.tst t.pmc t.pwr t.fw t.cap = ((t.withDev dev').withTku tku') := rfl

theorem execLaneRefclkAbsent_keep (s : State) {t : State} (h : execLaneRefclkAbsent s = .next t) : Keep 0x2603fdedba8 s t := by
  unfold execLaneRefclkAbsent at h
  injection h with h
  subst h
  try simp -zeta only [State.fold_dev_tku, State.fold_dev, State.fold_tku]
  repeat' first
    | with_reducible refine Keep.ite ?_ ?_
    | with_reducible refine Keep.foldl _ ?_ ?_
    | intro u x hu
    | intro u hu
    | with_reducible apply State.pltTruncate_keep
    | with_reducible apply State.pltAbort_keep
    | with_reducible apply State.txCut_keep
    | with_reducible apply State.refclkFault_keep
    | with_reducible apply State.syncWith_keep
    | with_reducible apply State.calCheck_keep
    | with_reducible apply Keep.set_dev
    | with_reducible apply Keep.set_tku
    | with_reducible exact Keep.refl _ _
    | with_reducible assumption
    | exact rfl
    | exact id
    | exact Or.inl rfl
    | exact Or.inr rfl
    | exact Or.inr (List.prefix_refl _)
    | exact Or.inr fun _ => rfl
    | exact Or.inr ⟨rfl, rfl, rfl⟩
    | exact Or.inr fun _ => ⟨rfl, rfl, rfl⟩
    | exact Or.inr fun _ => ⟨rfl, rfl⟩
    | split
    | dsimp only

theorem State.applyCodes_keep (s : State) {k0 : Nat} {z0 : State} (hk : Nat.land 0x2000000000 k0 = 0x2000000000) (hz : Keep k0 z0 s) : Keep k0 z0 (State.applyCodes s) := by
  refine Keep.step ?_ hk hz
  unfold State.applyCodes
  repeat' first
    | with_reducible refine Keep.ite ?_ ?_
    | with_reducible refine Keep.foldl _ ?_ ?_
    | intro u x hu
    | intro u hu
    | with_reducible apply Keep.modAx
    | with_reducible exact Keep.refl _ _
    | with_reducible assumption
    | exact rfl
    | exact id
    | exact Or.inl rfl
    | exact Or.inr rfl
    | exact Or.inr (List.prefix_refl _)
    | exact Or.inr fun _ => rfl
    | exact Or.inr ⟨rfl, rfl, rfl⟩
    | exact Or.inr fun _ => ⟨rfl, rfl, rfl⟩
    | exact Or.inr fun _ => ⟨rfl, rfl⟩
    | split
    | dsimp only

theorem State.coldAgain_keep (s : State) (p : Nat) {k0 : Nat} {z0 : State} (hk : Nat.land 0xc5a0000 k0 = 0xc5a0000) (hz : Keep k0 z0 s) : Keep k0 z0 (State.coldAgain s p) := by
  refine Keep.step ?_ hk hz
  unfold State.coldAgain
  repeat' first
    | with_reducible refine Keep.ite ?_ ?_
    | with_reducible refine Keep.foldl _ ?_ ?_
    | intro u x hu
    | intro u hu
    | with_reducible apply State.huntStart_keep
    | with_reducible apply State.acquire_keep
    | with_reducible apply State.hostAcquire_keep
    | with_reducible exact Keep.refl _ _
    | with_reducible assumption
    | exact rfl
    | exact id
    | exact Or.inl rfl
    | exact Or.inr rfl
    | exact Or.inr (List.prefix_refl _)
    | exact Or.inr fun _ => rfl
    | exact Or.inr ⟨rfl, rfl, rfl⟩
    | exact Or.inr fun _ => ⟨rfl, rfl, rfl⟩
    | exact Or.inr fun _ => ⟨rfl, rfl⟩
    | split
    | dsimp only

theorem execLaneRefclkPresent_keep (s : State) {t : State} (h : execLaneRefclkPresent s = .next t) : Keep 0x2601fdadb28 s t := by
  unfold execLaneRefclkPresent at h
  injection h with h
  subst h
  try simp -zeta only [State.fold_dev_tku, State.fold_dev, State.fold_tku]
  repeat' first
    | with_reducible refine Keep.ite ?_ ?_
    | with_reducible refine Keep.foldl _ ?_ ?_
    | intro u x hu
    | intro u hu
    | with_reducible apply State.raise_keep
    | with_reducible apply State.applyCodes_keep
    | with_reducible apply State.coldAgain_keep
    | with_reducible apply State.follow_keep
    | with_reducible apply Keep.modMn
    | with_reducible apply Keep.set_dev
    | with_reducible apply Keep.set_tku
    | with_reducible exact Keep.refl _ _
    | with_reducible assumption
    | exact rfl
    | exact id
    | exact Or.inl rfl
    | exact Or.inr rfl
    | exact Or.inr (List.prefix_refl _)
    | exact Or.inr fun _ => rfl
    | exact Or.inr ⟨rfl, rfl, rfl⟩
    | exact Or.inr fun _ => ⟨rfl, rfl, rfl⟩
    | exact Or.inr fun _ => ⟨rfl, rfl⟩
    | split
    | dsimp only

theorem execLogMarkerTimer_keep (s : State) {t : State} (h : execLogMarkerTimer s = .next t) : Keep 0x20 s t := by
  unfold execLogMarkerTimer at h
  injection h with h
  subst h
  try simp -zeta only [State.fold_dev]
  repeat' first
    | with_reducible refine Keep.ite ?_ ?_
    | intro u hu
    | with_reducible apply Keep.set_dev
    | with_reducible exact Keep.refl _ _
    | with_reducible assumption
    | exact rfl
    | exact id
    | exact Or.inl rfl
    | exact Or.inr rfl
    | exact Or.inr (List.prefix_refl _)
    | exact Or.inr fun _ => rfl
    | exact Or.inr ⟨rfl, rfl, rfl⟩
    | exact Or.inr fun _ => ⟨rfl, rfl, rfl⟩
    | exact Or.inr fun _ => ⟨rfl, rfl⟩
    | split
    | dsimp only

theorem State.residRange_keep (s : State) (u : Nat) (res64 : Int) {k0 : Nat} {z0 : State} (hk : Nat.land 0x10000008300 k0 = 0x10000008300) (hz : Keep k0 z0 s) : Keep k0 z0 (State.residRange s u res64) := by
  refine Keep.step ?_ hk hz
  unfold State.residRange
  repeat' first
    | with_reducible refine Keep.ite ?_ ?_
    | with_reducible apply State.raise_keep
    | with_reducible apply State.interpReport_keep
    | with_reducible apply Keep.modResid
    | with_reducible exact Keep.refl _ _
    | with_reducible assumption
    | exact rfl
    | exact id
    | exact Or.inl rfl
    | exact Or.inr rfl
    | exact Or.inr (List.prefix_refl _)
    | exact Or.inr fun _ => rfl
    | exact Or.inr ⟨rfl, rfl, rfl⟩
    | exact Or.inr fun _ => ⟨rfl, rfl, rfl⟩
    | exact Or.inr fun _ => ⟨rfl, rfl⟩
    | split
    | dsimp only

theorem State.sendFrame_keep (s : State) (u : Nat) (corr : BitVec 64) (csum : BitVec 16) (ok : Bool) {k0 : Nat} {z0 : State} (hk : Nat.land 0x8000 k0 = 0x8000) (hz : Keep k0 z0 s) : Keep k0 z0 (State.sendFrame s u corr csum ok) := by
  refine Keep.step ?_ hk hz
  unfold State.sendFrame
  repeat' first
    | with_reducible refine Keep.ite ?_ ?_
    | with_reducible apply Keep.modResid
    | with_reducible exact Keep.refl _ _
    | with_reducible assumption
    | exact rfl
    | exact id
    | exact Or.inl rfl
    | exact Or.inr rfl
    | exact Or.inr (List.prefix_refl _)
    | exact Or.inr fun _ => rfl
    | exact Or.inr ⟨rfl, rfl, rfl⟩
    | exact Or.inr fun _ => ⟨rfl, rfl, rfl⟩
    | exact Or.inr fun _ => ⟨rfl, rfl⟩
    | split
    | dsimp only

theorem State.uncorrected_keep (s : State) (u item : Nat) (f : Frame) {k0 : Nat} {z0 : State} (hk : Nat.land 0x28000 k0 = 0x28000) (hz : Keep k0 z0 s) : Keep k0 z0 (State.uncorrected s u item f) := by
  refine Keep.step ?_ hk hz
  unfold State.uncorrected
  repeat' first
    | with_reducible refine Keep.ite ?_ ?_
    | with_reducible apply State.sendFrame_keep
    | with_reducible apply Keep.bump
    | with_reducible exact Keep.refl _ _
    | with_reducible assumption
    | exact rfl
    | exact id
    | exact Or.inl rfl
    | exact Or.inr rfl
    | exact Or.inr (List.prefix_refl _)
    | exact Or.inr fun _ => rfl
    | exact Or.inr ⟨rfl, rfl, rfl⟩
    | exact Or.inr fun _ => ⟨rfl, rfl, rfl⟩
    | exact Or.inr fun _ => ⟨rfl, rfl⟩
    | split
    | dsimp only

theorem State.rewrite_keep (s : State) (u : Nat) (f : Frame) (new : BitVec 64) {k0 : Nat} {z0 : State} (hk : Nat.land 0x28000 k0 = 0x28000) (hz : Keep k0 z0 s) : Keep k0 z0 (State.rewrite s u f new) := by
  refine Keep.step ?_ hk hz
  unfold State.rewrite
  repeat' first
    | with_reducible refine Keep.ite ?_ ?_
    | with_reducible apply State.sendFrame_keep
    | with_reducible apply Keep.bump
    | with_reducible exact Keep.refl _ _
    | with_reducible assumption
    | exact rfl
    | exact id
    | exact Or.inl rfl
    | exact Or.inr rfl
    | exact Or.inr (List.prefix_refl _)
    | exact Or.inr fun _ => rfl
    | exact Or.inr ⟨rfl, rfl, rfl⟩
    | exact Or.inr fun _ => ⟨rfl, rfl, rfl⟩
    | exact Or.inr fun _ => ⟨rfl, rfl⟩
    | split
    | dsimp only

theorem State.correctFrame_keep (s : State) (u : Nat) (f : Frame) (t : Nat) {k0 : Nat} {z0 : State} (hk : Nat.land 0x10000028300 k0 = 0x10000028300) (hz : Keep k0 z0 s) : Keep k0 z0 (State.correctFrame s u f t) := by
  refine Keep.step ?_ hk hz
  unfold State.correctFrame
  repeat' first
    | with_reducible refine Keep.ite ?_ ?_
    | with_reducible apply State.uncorrected_keep
    | with_reducible apply State.residRange_keep
    | with_reducible apply State.rewrite_keep
    | with_reducible apply Keep.bump
    | with_reducible apply Keep.modResid
    | with_reducible exact Keep.refl _ _
    | with_reducible assumption
    | exact rfl
    | exact id
    | exact Or.inl rfl
    | exact Or.inr rfl
    | exact Or.inr (List.prefix_refl _)
    | exact Or.inr fun _ => rfl
    | exact Or.inr ⟨rfl, rfl, rfl⟩
    | exact Or.inr fun _ => ⟨rfl, rfl, rfl⟩
    | exact Or.inr fun _ => ⟨rfl, rfl⟩
    | split
    | dsimp only

theorem execFrameParsed_keep (p d : Nat) (f : Frame) (s : State) {t : State} (h : execFrameParsed p d f s = .next t) : Keep 0x36b9bb2db8a s t := by
  unfold execFrameParsed at h
  injection h with h
  subst h
  repeat' first
    | with_reducible refine Keep.ite ?_ ?_
    | intro u hu
    | with_reducible apply State.counterReads_keep
    | with_reducible apply State.follow_keep
    | with_reducible apply State.lexFrame_keep
    | with_reducible apply State.correctFrame_keep
    | with_reducible exact Keep.refl _ _
    | with_reducible assumption
    | exact rfl
    | exact id
    | exact Or.inl rfl
    | exact Or.inr rfl
    | exact Or.inr (List.prefix_refl _)
    | exact Or.inr fun _ => rfl
    | exact Or.inr ⟨rfl, rfl, rfl⟩
    | exact Or.inr fun _ => ⟨rfl, rfl, rfl⟩
    | exact Or.inr fun _ => ⟨rfl, rfl⟩
    | split
    | dsimp only

theorem procGetTkuDomain_keep  (a : Sentence) (s : State) {k0 : Nat} {z0 : State} (hk : Nat.land 0x420000001b80 k0 = 0x420000001b80) (hz : Keep k0 z0 s) : Keep k0 z0 (procGetTkuDomain  a s) := by
  refine Keep.step ?_ hk hz
  unfold procGetTkuDomain
  refine process_keep _ _ _ _ _ _ 0x0 (fun u ws => ?_) rfl rfl rfl (Keep.refl _ _)
  repeat' first
    | exact getAct_keep ..

theorem execGetTkuDomain_keep (m : Sentence) (s : State) {t : State} (h : execGetTkuDomain m s = .next t) : Keep 0x420000001b80 s t := by
  unfold execGetTkuDomain at h
  injection h with h
  subst h
  repeat' first
    | with_reducible refine Keep.ite ?_ ?_
    | intro u hu
    | with_reducible apply submit_keep
    | with_reducible apply procGetTkuDomain_keep
    | with_reducible exact Keep.refl _ _
    | with_reducible assumption
    | exact rfl
    | exact id
    | exact Or.inl rfl
    | exact Or.inr rfl
    | exact Or.inr (List.prefix_refl _)
    | exact Or.inr fun _ => rfl
    | exact Or.inr ⟨rfl, rfl, rfl⟩
    | exact Or.inr fun _ => ⟨rfl, rfl, rfl⟩
    | exact Or.inr fun _ => ⟨rfl, rfl⟩
    | split
    | dsimp only

theorem actTkuDomain_keep (s : State) (m : Sentence) (ws : List Word) {k0 : Nat} {z0 : State} (hk : Nat.land 0x8000 k0 = 0x8000) (hz : Keep k0 z0 s) : Keep k0 z0 (actTkuDomain s m ws).1 := by
  refine Keep.step ?_ hk hz
  unfold actTkuDomain
  repeat' first
    | with_reducible refine Keep.ite ?_ ?_
    | intro u hu
    | with_reducible apply Keep.modDom
    | with_reducible exact Keep.refl _ _
    | with_reducible assumption
    | exact rfl
    | exact id
    | exact Or.inl rfl
    | exact Or.inr rfl
    | exact Or.inr (List.prefix_refl _)
    | exact Or.inr fun _ => rfl
    | exact Or.inr ⟨rfl, rfl, rfl⟩
    | exact Or.inr fun _ => ⟨rfl, rfl, rfl⟩
    | exact Or.inr fun _ => ⟨rfl, rfl⟩
    | split
    | dsimp only

theorem procSetTkuDomain_keep  (a : Sentence) (s : State) {k0 : Nat} {z0 : State} (hk : Nat.land 0x420000009b80 k0 = 0x420000009b80) (hz : Keep k0 z0 s) : Keep k0 z0 (procSetTkuDomain  a s) := by
  refine Keep.step ?_ hk hz
  unfold procSetTkuDomain
  refine process_keep _ _ _ _ _ _ 0x8000 (fun u ws => ?_) rfl rfl rfl (Keep.refl _ _)
  repeat' first
    | with_reducible refine Keep.ite ?_ ?_
    | intro u hu
    | with_reducible apply actTkuDomain_keep
    | with_reducible exact Keep.refl _ _
    | with_reducible assumption
    | exact rfl
    | exact id
    | exact Or.inl rfl
    | exact Or.inr rfl
    | exact Or.inr (List.prefix_refl _)
    | exact Or.inr fun _ => rfl
    | exact Or.inr ⟨rfl, rfl, rfl⟩
    | exact Or.inr fun _ => ⟨rfl, rfl, rfl⟩
    | exact Or.inr fun _ => ⟨rfl, rfl⟩
    | split
    | dsimp only

theorem execSetTkuDomain_keep (m : Sentence) (s : State) {t : State} (h : execSetTkuDomain m s = .next t) : Keep 0x420000009b80 s t := by
  unfold execSetTkuDomain at h
  injection h with h
  subst h
  repeat' first
    | with_reducible refine Keep.ite ?_ ?_
    | intro u hu
    | with_reducible apply submit_keep
    | with_reducible apply procSetTkuDomain_keep
    | with_reducible exact Keep.refl _ _
    | with_reducible assumption
    | exact rfl
    | exact id
    | exact Or.inl rfl
    | exact Or.inr rfl
    | exact Or.inr (List.prefix_refl _)
    | exact Or.inr fun _ => rfl
    | exact Or.inr ⟨rfl, rfl, rfl⟩
    | exact Or.inr fun _ => ⟨rfl, rfl, rfl⟩
    | exact Or.inr fun _ => ⟨rfl, rfl⟩
    | split
    | dsimp only

theorem procGetTkuPort_keep  (a : Sentence) (s : State) {k0 : Nat} {z0 : State} (hk : Nat.land 0x420000001b80 k0 = 0x420000001b80) (hz : Keep k0 z0 s) : Keep k0 z0 (procGetTkuPort  a s) := by
  refine Keep.step ?_ hk hz
  unfold procGetTkuPort
  refine process_keep _ _ _ _ _ _ 0x0 (fun u ws => ?_) rfl rfl rfl (Keep.refl _ _)
  repeat' first
    | exact getAct_keep ..

theorem execGetTkuPort_keep (m : Sentence) (s : State) {t : State} (h : execGetTkuPort m s = .next t) : Keep 0x420000001b80 s t := by
  unfold execGetTkuPort at h
  injection h with h
  subst h
  repeat' first
    | with_reducible refine Keep.ite ?_ ?_
    | intro u hu
    | with_reducible apply submit_keep
    | with_reducible apply procGetTkuPort_keep
    | with_reducible exact Keep.refl _ _
    | with_reducible assumption
    | exact rfl
    | exact id
    | exact Or.inl rfl
    | exact Or.inr rfl
    | exact Or.inr (List.prefix_refl _)
    | exact Or.inr fun _ => rfl
    | exact Or.inr ⟨rfl, rfl, rfl⟩
    | exact Or.inr fun _ => ⟨rfl, rfl, rfl⟩
    | exact Or.inr fun _ => ⟨rfl, rfl⟩
    | split
    | dsimp only

theorem procSetTkuPort_keep  (a : Sentence) (s : State) {k0 : Nat} {z0 : State} (hk : Nat.land 0x420000011b80 k0 = 0x420000011b80) (hz : Keep k0 z0 s) : Keep k0 z0 (procSetTkuPort  a s) := by
  refine Keep.step ?_ hk hz
  unfold procSetTkuPort
  refine process_keep _ _ _ _ _ _ 0x10000 (fun u ws => ?_) rfl rfl rfl (Keep.refl _ _)
  repeat' first
    | with_reducible refine Keep.ite ?_ ?_
    | intro u hu
    | with_reducible apply setAct_keep
    | with_reducible exact Keep.refl _ _
    | with_reducible assumption
    | exact rfl
    | exact id
    | exact Or.inl rfl
    | exact Or.inr rfl
    | exact Or.inr (List.prefix_refl _)
    | exact Or.inr fun _ => rfl
    | exact Or.inr ⟨rfl, rfl, rfl⟩
    | exact Or.inr fun _ => ⟨rfl, rfl, rfl⟩
    | exact Or.inr fun _ => ⟨rfl, rfl⟩
    | split
    | dsimp only

theorem execSetTkuPort_keep (m : Sentence) (s : State) {t : State} (h : execSetTkuPort m s = .next t) : Keep 0x420000011b80 s t := by
  unfold execSetTkuPort at h
  injection h with h
  subst h
  repeat' first
    | with_reducible refine Keep.ite ?_ ?_
    | intro u hu
    | with_reducible apply submit_keep
    | with_reducible apply procSetTkuPort_keep
    | with_reducible exact Keep.refl _ _
    | with_reducible assumption
    | exact rfl
    | exact id
    | exact Or.inl rfl
    | exact Or.inr rfl
    | exact Or.inr (List.prefix_refl _)
    | exact Or.inr fun _ => rfl
    | exact Or.inr ⟨rfl, rfl, rfl⟩
    | exact Or.inr fun _ => ⟨rfl, rfl, rfl⟩
    | exact Or.inr fun _ => ⟨rfl, rfl⟩
    | split
    | dsimp only

theorem procGetTkuStats_keep  (a : Sentence) (s : State) {k0 : Nat} {z0 : State} (hk : Nat.land 0x420000001b80 k0 = 0x420000001b80) (hz : Keep k0 z0 s) : Keep k0 z0 (procGetTkuStats  a s) := by
  refine Keep.step ?_ hk hz
  unfold procGetTkuStats
  refine process_keep _ _ _ _ _ _ 0x0 (fun u ws => ?_) rfl rfl rfl (Keep.refl _ _)
  repeat' first
    | exact getAct_keep ..

theorem execGetTkuStats_keep (m : Sentence) (s : State) {t : State} (h : execGetTkuStats m s = .next t) : Keep 0x420000001b80 s t := by
  unfold execGetTkuStats at h
  injection h with h
  subst h
  repeat' first
    | with_reducible refine Keep.ite ?_ ?_
    | intro u hu
    | with_reducible apply submit_keep
    | with_reducible apply procGetTkuStats_keep
    | with_reducible exact Keep.refl _ _
    | with_reducible assumption
    | exact rfl
    | exact id
    | exact Or.inl rfl
    | exact Or.inr rfl
    | exact Or.inr (List.prefix_refl _)
    | exact Or.inr fun _ => rfl
    | exact Or.inr ⟨rfl, rfl, rfl⟩
    | exact Or.inr fun _ => ⟨rfl, rfl, rfl⟩
    | exact Or.inr fun _ => ⟨rfl, rfl⟩
    | split
    | dsimp only

theorem Keep.set_stats {m : Nat} {s t : State} {x : Tbl Stat} (hm : m.testBit 17 = true)
    (hb : (∀ p ∈ t.stats, p.2.live ≤ max36) → ∀ p ∈ x, p.2.live ≤ max36) (h : Keep m s t) : Keep m s (t.withStats x) :=
  Keep.setStats hm hb h

theorem Pmc.drained_le {c : Pmc} {n : Nat} (h : c.value ≤ n) : c.drained.value ≤ n := by
  unfold Pmc.drained
  split
  · exact Nat.zero_le _
  · exact h

/-- Reading and zeroing keeps every statistic within 36 bits. -/
theorem drain_stats (l t : Tbl Stat) (h : ∀ p ∈ t, p.2.live ≤ max36) :
    ∀ p ∈ l.foldl (fun t x => if isFigure x.1 then t else tmod t (fun _ => {}) x.1 Stat.drained) t, p.2.live ≤ max36 := by
  induction l generalizing t with
  | nil => exact h
  | cons x l ih =>
    refine ih _ ?_
    dsimp only
    split
    · exact h
    · intro p hp
      rcases tset_mem _ _ _ _ hp with rfl | hp
      · exact Nat.zero_le _
      · exact h p hp

/-- Reading and zeroing changes the counters and nothing else. -/
theorem Keep.drainPmc {m : Nat} {s : State} (hm : m.testBit 41 = true) (l : Tbl Pmc) (u : State) (hu : Keep m s u) :
    Keep m s (l.foldl (fun s c => s.setPmc c.1 (s.pmcAt c.1).drained) u) := by
  induction l generalizing u with
  | nil => exact hu
  | cons c l ih => exact ih _ (Keep.setPmc hm (fun hb => Pmc.drained_le (State.pmcAt_le hb _)) hu)

theorem State.fold_stats_pmc (t : State) (stats' : type_of% t.stats) (pmc' : type_of% t.pmc) :
    State.mk t.pending t.free t.fuses t.dev t.shut t.mb t.ev t.icu t.hif t.err t.tku t.params stats' t.line t.host t.group t.port t.block t.eng t.hinge t.lex t.mem t.rep t.ocu t.cal t.thm t.tst pmc' t.pwr t.fw t.cap = ((t.withStats stats').withPmc pmc') := rfl

theorem State.dumpRead_keep (s : State) (late flush : Bool) {k0 : Nat} {z0 : State} (hk : Nat.land 0x60000020000 k0 = 0x60000020000) (hz : Keep k0 z0 s) : Keep k0 z0 (State.dumpRead s late flush) := by
  refine Keep.step ?_ hk hz
  unfold State.dumpRead
  simp -zeta only [State.fold_stats_pmc]
  have h0 : Keep 0x20000000000 s (s.pmc.ctr.foldl (fun s c => s.setPmc c.1 (s.pmcAt c.1).drained) s) := Keep.drainPmc rfl _ _ (Keep.refl _ _)
  have h1 : Keep 0x60000020000 s (s.pmc.ctr.foldl (fun s c => s.setPmc c.1 (s.pmcAt c.1).drained) s) := Keep.step h0 rfl (Keep.refl _ _)
  have hs : s.stats = (s.pmc.ctr.foldl (fun s c => s.setPmc c.1 (s.pmcAt c.1).drained) s).stats := h0.1 .stats rfl
  refine Keep.set_pmc rfl rfl (Keep.set_stats rfl (fun hb => ?_) h1)
  rw [← hs] at hb
  exact drain_stats _ _ hb

theorem State.startDump_keep (s : State) (late flush : Bool) (t : List Ticket) {k0 : Nat} {z0 : State} (hk : Nat.land 0x60000020000 k0 = 0x60000020000) (hz : Keep k0 z0 s) : Keep k0 z0 (State.startDump s late flush t) := by
  refine Keep.step ?_ hk hz
  unfold State.startDump
  try simp -zeta only [State.fold_pmc]
  repeat' first
    | with_reducible refine Keep.ite ?_ ?_
    | with_reducible apply State.dumpRead_keep
    | with_reducible apply Keep.set_pmc
    | with_reducible exact Keep.refl _ _
    | with_reducible assumption
    | exact rfl
    | exact id
    | exact Or.inl rfl
    | exact Or.inr rfl
    | exact Or.inr (List.prefix_refl _)
    | exact Or.inr fun _ => rfl
    | exact Or.inr ⟨rfl, rfl, rfl⟩
    | exact Or.inr fun _ => ⟨rfl, rfl, rfl⟩
    | exact Or.inr fun _ => ⟨rfl, rfl⟩
    | split
    | dsimp only

theorem execPmcDumpIntervalExpiry_keep (delay kept : Nat) (s : State) {t : State} (h : execPmcDumpIntervalExpiry delay kept s = .next t) : Keep 0x70000020300 s t := by
  unfold execPmcDumpIntervalExpiry at h
  injection h with h
  subst h
  try simp -zeta only [State.fold_pmc]
  repeat' first
    | with_reducible refine Keep.ite ?_ ?_
    | intro u hu
    | with_reducible apply State.startDump_keep
    | with_reducible apply State.countYield_keep
    | with_reducible apply State.raise_keep
    | with_reducible apply Keep.set_pmc
    | with_reducible exact Keep.refl _ _
    | with_reducible assumption
    | exact rfl
    | exact id
    | exact Or.inl rfl
    | exact Or.inr rfl
    | exact Or.inr (List.prefix_refl _)
    | exact Or.inr fun _ => rfl
    | exact Or.inr ⟨rfl, rfl, rfl⟩
    | exact Or.inr fun _ => ⟨rfl, rfl, rfl⟩
    | exact Or.inr fun _ => ⟨rfl, rfl⟩
    | split
    | dsimp only

theorem State.dumpWritten_keep (s : State) {k0 : Nat} {z0 : State} (hk : Nat.land 0x60c00023b80 k0 = 0x60c00023b80) (hz : Keep k0 z0 s) : Keep k0 z0 (State.dumpWritten s) := by
  refine Keep.step ?_ hk hz
  unfold State.dumpWritten
  try simp -zeta only [State.fold_pmc]
  repeat' first
    | with_reducible refine Keep.ite ?_ ?_
    | with_reducible refine Keep.foldl _ ?_ ?_
    | intro u x hu
    | intro u hu
    | with_reducible apply State.telPut_keep
    | with_reducible apply State.finish_keep
    | with_reducible apply State.dmaDue_keep
    | with_reducible apply State.raise_keep
    | with_reducible apply State.startDump_keep
    | with_reducible apply Keep.set_pmc
    | with_reducible exact Keep.refl _ _
    | with_reducible assumption
    | exact rfl
    | exact id
    | exact Or.inl rfl
    | exact Or.inr rfl
    | exact Or.inr (List.prefix_refl _)
    | exact Or.inr fun _ => rfl
    | exact Or.inr ⟨rfl, rfl, rfl⟩
    | exact Or.inr fun _ => ⟨rfl, rfl, rfl⟩
    | exact Or.inr fun _ => ⟨rfl, rfl⟩
    | split
    | dsimp only

theorem execPmcDumpWritten_keep (s : State) {t : State} (h : execPmcDumpWritten s = .next t) : Keep 0x60c00023b80 s t := by
  unfold execPmcDumpWritten at h
  injection h with h
  subst h
  repeat' first
    | with_reducible refine Keep.ite ?_ ?_
    | intro u hu
    | with_reducible apply State.dumpWritten_keep
    | with_reducible exact Keep.refl _ _
    | with_reducible assumption
    | exact rfl
    | exact id
    | exact Or.inl rfl
    | exact Or.inr rfl
    | exact Or.inr (List.prefix_refl _)
    | exact Or.inr fun _ => rfl
    | exact Or.inr ⟨rfl, rfl, rfl⟩
    | exact Or.inr fun _ => ⟨rfl, rfl, rfl⟩
    | exact Or.inr fun _ => ⟨rfl, rfl⟩
    | split
    | dsimp only

theorem State.sampleWrite_keep (s : State) (desc : Nat) {k0 : Nat} {z0 : State} (hk : Nat.land 0x60c00002300 k0 = 0x60c00002300) (hz : Keep k0 z0 s) : Keep k0 z0 (State.sampleWrite s desc) := by
  refine Keep.step ?_ hk hz
  unfold State.sampleWrite
  try simp -zeta only [State.fold_pmc]
  repeat' first
    | with_reducible refine Keep.ite ?_ ?_
    | with_reducible apply State.telPut_keep
    | with_reducible apply State.dmaDue_keep
    | with_reducible apply Keep.set_pmc
    | with_reducible exact Keep.refl _ _
    | with_reducible assumption
    | exact rfl
    | exact id
    | exact Or.inl rfl
    | exact Or.inr rfl
    | exact Or.inr (List.prefix_refl _)
    | exact Or.inr fun _ => rfl
    | exact Or.inr ⟨rfl, rfl, rfl⟩
    | exact Or.inr fun _ => ⟨rfl, rfl, rfl⟩
    | exact Or.inr fun _ => ⟨rfl, rfl⟩
    | split
    | dsimp only

theorem State.sampleDrop_keep (s : State) {k0 : Nat} {z0 : State} (hk : Nat.land 0x60c00000300 k0 = 0x60c00000300) (hz : Keep k0 z0 s) : Keep k0 z0 (State.sampleDrop s) := by
  refine Keep.step ?_ hk hz
  unfold State.sampleDrop
  try simp -zeta only [State.fold_pmc]
  repeat' first
    | with_reducible refine Keep.ite ?_ ?_
    | with_reducible apply State.telPut_keep
    | with_reducible apply State.raise_keep
    | with_reducible apply Keep.set_pmc
    | with_reducible exact Keep.refl _ _
    | with_reducible assumption
    | exact rfl
    | exact id
    | exact Or.inl rfl
    | exact Or.inr rfl
    | exact Or.inr (List.prefix_refl _)
    | exact Or.inr fun _ => rfl
    | exact Or.inr ⟨rfl, rfl, rfl⟩
    | exact Or.inr fun _ => ⟨rfl, rfl, rfl⟩
    | exact Or.inr fun _ => ⟨rfl, rfl⟩
    | split
    | dsimp only

theorem execSampleIntervalExpiry_keep (e cat op steps seg : Nat) (s : State) {t : State} (h : execSampleIntervalExpiry e cat op steps seg s = .next t) : Keep 0x60c80002302 s t := by
  unfold execSampleIntervalExpiry at h
  injection h with h
  subst h
  try simp -zeta only [State.fold_pmc]
  repeat' first
    | with_reducible refine Keep.ite ?_ ?_
    | intro u hu
    | with_reducible apply State.freeNext_keep
    | with_reducible apply State.sampleWrite_keep
    | with_reducible apply State.sampleDrop_keep
    | with_reducible apply Keep.modEng
    | with_reducible apply Keep.set_pmc
    | with_reducible exact Keep.refl _ _
    | with_reducible assumption
    | exact rfl
    | exact id
    | exact Or.inl rfl
    | exact Or.inr rfl
    | exact Or.inr (List.prefix_refl _)
    | exact Or.inr fun _ => rfl
    | exact Or.inr ⟨rfl, rfl, rfl⟩
    | exact Or.inr fun _ => ⟨rfl, rfl, rfl⟩
    | exact Or.inr fun _ => ⟨rfl, rfl⟩
    | split
    | dsimp only

theorem actGetPmcCounter_keep (s : State) (m : Sentence) (ws : List Word) {k0 : Nat} {z0 : State} (hk : Nat.land 0x0 k0 = 0x0) (hz : Keep k0 z0 s) : Keep k0 z0 (actGetPmcCounter s m ws).1 := by
  refine Keep.step ?_ hk hz
  unfold actGetPmcCounter
  repeat' first
    | with_reducible refine Keep.ite ?_ ?_
    | intro u hu
    | with_reducible exact Keep.refl _ _
    | with_reducible assumption
    | exact rfl
    | exact id
    | exact Or.inl rfl
    | exact Or.inr rfl
    | exact Or.inr (List.prefix_refl _)
    | exact Or.inr fun _ => rfl
    | exact Or.inr ⟨rfl, rfl, rfl⟩
    | exact Or.inr fun _ => ⟨rfl, rfl, rfl⟩
    | exact Or.inr fun _ => ⟨rfl, rfl⟩
    | split
    | dsimp only

theorem procGetPmcCounter_keep  (a : Sentence) (s : State) {k0 : Nat} {z0 : State} (hk : Nat.land 0x420000001b80 k0 = 0x420000001b80) (hz : Keep k0 z0 s) : Keep k0 z0 (procGetPmcCounter  a s) := by
  refine Keep.step ?_ hk hz
  unfold procGetPmcCounter
  refine process_keep _ _ _ _ _ _ 0x0 (fun u ws => ?_) rfl rfl rfl (Keep.refl _ _)
  repeat' first
    | with_reducible refine Keep.ite ?_ ?_
    | intro u hu
    | with_reducible apply actGetPmcCounter_keep
    | with_reducible exact Keep.refl _ _
    | with_reducible assumption
    | exact rfl
    | exact id
    | exact Or.inl rfl
    | exact Or.inr rfl
    | exact Or.inr (List.prefix_refl _)
    | exact Or.inr fun _ => rfl
    | exact Or.inr ⟨rfl, rfl, rfl⟩
    | exact Or.inr fun _ => ⟨rfl, rfl, rfl⟩
    | exact Or.inr fun _ => ⟨rfl, rfl⟩
    | split
    | dsimp only

theorem execGetPmcCounter_keep (m : Sentence) (s : State) {t : State} (h : execGetPmcCounter m s = .next t) : Keep 0x420000001b80 s t := by
  unfold execGetPmcCounter at h
  injection h with h
  subst h
  repeat' first
    | with_reducible refine Keep.ite ?_ ?_
    | intro u hu
    | with_reducible apply submit_keep
    | with_reducible apply procGetPmcCounter_keep
    | with_reducible exact Keep.refl _ _
    | with_reducible assumption
    | exact rfl
    | exact id
    | exact Or.inl rfl
    | exact Or.inr rfl
    | exact Or.inr (List.prefix_refl _)
    | exact Or.inr fun _ => rfl
    | exact Or.inr ⟨rfl, rfl, rfl⟩
    | exact Or.inr fun _ => ⟨rfl, rfl, rfl⟩
    | exact Or.inr fun _ => ⟨rfl, rfl⟩
    | split
    | dsimp only

theorem actSetPmc_keep (s : State) (m : Sentence) (ws : List Word) {k0 : Nat} {z0 : State} (hk : Nat.land 0x20000000000 k0 = 0x20000000000) (hz : Keep k0 z0 s) : Keep k0 z0 (actSetPmc s m ws).1 := by
  refine Keep.step ?_ hk hz
  unfold actSetPmc
  repeat' first
    | exact fun _ => Nat.zero_le _
    | with_reducible refine Keep.ite ?_ ?_
    | intro u hu
    | with_reducible apply Keep.setPmc
    | with_reducible exact Keep.refl _ _
    | with_reducible assumption
    | exact rfl
    | exact id
    | exact Or.inl rfl
    | exact Or.inr rfl
    | exact Or.inr (List.prefix_refl _)
    | exact Or.inr fun _ => rfl
    | exact Or.inr ⟨rfl, rfl, rfl⟩
    | exact Or.inr fun _ => ⟨rfl, rfl, rfl⟩
    | exact Or.inr fun _ => ⟨rfl, rfl⟩
    | split
    | dsimp only

theorem procSetPmcCounter_keep  (a : Sentence) (s : State) {k0 : Nat} {z0 : State} (hk : Nat.land 0x420000001b80 k0 = 0x420000001b80) (hz : Keep k0 z0 s) : Keep k0 z0 (procSetPmcCounter  a s) := by
  refine Keep.step ?_ hk hz
  unfold procSetPmcCounter
  refine process_keep _ _ _ _ _ _ 0x20000000000 (fun u ws => ?_) rfl rfl rfl (Keep.refl _ _)
  repeat' first
    | with_reducible refine Keep.ite ?_ ?_
    | intro u hu
    | with_reducible apply actSetPmc_keep
    | with_reducible exact Keep.refl _ _
    | with_reducible assumption
    | exact rfl
    | exact id
    | exact Or.inl rfl
    | exact Or.inr rfl
    | exact Or.inr (List.prefix_refl _)
    | exact Or.inr fun _ => rfl
    | exact Or.inr ⟨rfl, rfl, rfl⟩
    | exact Or.inr fun _ => ⟨rfl, rfl, rfl⟩
    | exact Or.inr fun _ => ⟨rfl, rfl⟩
    | split
    | dsimp only

theorem execSetPmcCounter_keep (m : Sentence) (s : State) {t : State} (h : execSetPmcCounter m s = .next t) : Keep 0x420000001b80 s t := by
  unfold execSetPmcCounter at h
  injection h with h
  subst h
  repeat' first
    | with_reducible refine Keep.ite ?_ ?_
    | intro u hu
    | with_reducible apply submit_keep
    | with_reducible apply procSetPmcCounter_keep
    | with_reducible exact Keep.refl _ _
    | with_reducible assumption
    | exact rfl
    | exact id
    | exact Or.inl rfl
    | exact Or.inr rfl
    | exact Or.inr (List.prefix_refl _)
    | exact Or.inr fun _ => rfl
    | exact Or.inr ⟨rfl, rfl, rfl⟩
    | exact Or.inr fun _ => ⟨rfl, rfl, rfl⟩
    | exact Or.inr fun _ => ⟨rfl, rfl⟩
    | split
    | dsimp only

theorem actClearPmc_keep (s : State) (x_ : Sentence) (ws : List Word) {k0 : Nat} {z0 : State} (hk : Nat.land 0x20000000000 k0 = 0x20000000000) (hz : Keep k0 z0 s) : Keep k0 z0 (actClearPmc s x_ ws).1 := by
  refine Keep.step ?_ hk hz
  unfold actClearPmc
  repeat' first
    | exact fun _ => Nat.zero_le _
    | with_reducible refine Keep.ite ?_ ?_
    | with_reducible refine Keep.foldl _ ?_ ?_
    | intro u x hu
    | intro u hu
    | with_reducible apply Keep.setPmc
    | with_reducible exact Keep.refl _ _
    | with_reducible assumption
    | exact rfl
    | exact id
    | exact Or.inl rfl
    | exact Or.inr rfl
    | exact Or.inr (List.prefix_refl _)
    | exact Or.inr fun _ => rfl
    | exact Or.inr ⟨rfl, rfl, rfl⟩
    | exact Or.inr fun _ => ⟨rfl, rfl, rfl⟩
    | exact Or.inr fun _ => ⟨rfl, rfl⟩
    | split
    | dsimp only

theorem procClearPmcCounter_keep  (a : Sentence) (s : State) {k0 : Nat} {z0 : State} (hk : Nat.land 0x420000001b80 k0 = 0x420000001b80) (hz : Keep k0 z0 s) : Keep k0 z0 (procClearPmcCounter  a s) := by
  refine Keep.step ?_ hk hz
  unfold procClearPmcCounter
  refine process_keep _ _ _ _ _ _ 0x20000000000 (fun u ws => ?_) rfl rfl rfl (Keep.refl _ _)
  repeat' first
    | with_reducible refine Keep.ite ?_ ?_
    | intro u hu
    | with_reducible apply actClearPmc_keep
    | with_reducible exact Keep.refl _ _
    | with_reducible assumption
    | exact rfl
    | exact id
    | exact Or.inl rfl
    | exact Or.inr rfl
    | exact Or.inr (List.prefix_refl _)
    | exact Or.inr fun _ => rfl
    | exact Or.inr ⟨rfl, rfl, rfl⟩
    | exact Or.inr fun _ => ⟨rfl, rfl, rfl⟩
    | exact Or.inr fun _ => ⟨rfl, rfl⟩
    | split
    | dsimp only

theorem execClearPmcCounter_keep (m : Sentence) (s : State) {t : State} (h : execClearPmcCounter m s = .next t) : Keep 0x420000001b80 s t := by
  unfold execClearPmcCounter at h
  injection h with h
  subst h
  repeat' first
    | with_reducible refine Keep.ite ?_ ?_
    | intro u hu
    | with_reducible apply submit_keep
    | with_reducible apply procClearPmcCounter_keep
    | with_reducible exact Keep.refl _ _
    | with_reducible assumption
    | exact rfl
    | exact id
    | exact Or.inl rfl
    | exact Or.inr rfl
    | exact Or.inr (List.prefix_refl _)
    | exact Or.inr fun _ => rfl
    | exact Or.inr ⟨rfl, rfl, rfl⟩
    | exact Or.inr fun _ => ⟨rfl, rfl, rfl⟩
    | exact Or.inr fun _ => ⟨rfl, rfl⟩
    | split
    | dsimp only

theorem procGetPmcDump_keep  (a : Sentence) (s : State) {k0 : Nat} {z0 : State} (hk : Nat.land 0x420000001b80 k0 = 0x420000001b80) (hz : Keep k0 z0 s) : Keep k0 z0 (procGetPmcDump  a s) := by
  refine Keep.step ?_ hk hz
  unfold procGetPmcDump
  refine process_keep _ _ _ _ _ _ 0x0 (fun u ws => ?_) rfl rfl rfl (Keep.refl _ _)
  repeat' first
    | exact getAct_keep ..

theorem execGetPmcDump_keep (m : Sentence) (s : State) {t : State} (h : execGetPmcDump m s = .next t) : Keep 0x420000001b80 s t := by
  unfold execGetPmcDump at h
  injection h with h
  subst h
  repeat' first
    | with_reducible refine Keep.ite ?_ ?_
    | intro u hu
    | with_reducible apply submit_keep
    | with_reducible apply procGetPmcDump_keep
    | with_reducible exact Keep.refl _ _
    | with_reducible assumption
    | exact rfl
    | exact id
    | exact Or.inl rfl
    | exact Or.inr rfl
    | exact Or.inr (List.prefix_refl _)
    | exact Or.inr fun _ => rfl
    | exact Or.inr ⟨rfl, rfl, rfl⟩
    | exact Or.inr fun _ => ⟨rfl, rfl, rfl⟩
    | exact Or.inr fun _ => ⟨rfl, rfl⟩
    | split
    | dsimp only

theorem actSetPmcDump_keep (s : State) (x_ : Sentence) (ws : List Word) {k0 : Nat} {z0 : State} (hk : Nat.land 0x10000 k0 = 0x10000) (hz : Keep k0 z0 s) : Keep k0 z0 (actSetPmcDump s x_ ws).1 := by
  refine Keep.step ?_ hk hz
  unfold actSetPmcDump
  repeat' first
    | with_reducible refine Keep.ite ?_ ?_
    | intro u hu
    | with_reducible apply Keep.setParam
    | with_reducible exact Keep.refl _ _
    | with_reducible assumption
    | exact rfl
    | exact id
    | exact Or.inl rfl
    | exact Or.inr rfl
    | exact Or.inr (List.prefix_refl _)
    | exact Or.inr fun _ => rfl
    | exact Or.inr ⟨rfl, rfl, rfl⟩
    | exact Or.inr fun _ => ⟨rfl, rfl, rfl⟩
    | exact Or.inr fun _ => ⟨rfl, rfl⟩
    | split
    | dsimp only

theorem procSetPmcDump_keep  (a : Sentence) (s : State) {k0 : Nat} {z0 : State} (hk : Nat.land 0x420000011b80 k0 = 0x420000011b80) (hz : Keep k0 z0 s) : Keep k0 z0 (procSetPmcDump  a s) := by
  refine Keep.step ?_ hk hz
  unfold procSetPmcDump
  refine process_keep _ _ _ _ _ _ 0x10000 (fun u ws => ?_) rfl rfl rfl (Keep.refl _ _)
  repeat' first
    | with_reducible refine Keep.ite ?_ ?_
    | intro u hu
    | with_reducible apply actSetPmcDump_keep
    | with_reducible exact Keep.refl _ _
    | with_reducible assumption
    | exact rfl
    | exact id
    | exact Or.inl rfl
    | exact Or.inr rfl
    | exact Or.inr (List.prefix_refl _)
    | exact Or.inr fun _ => rfl
    | exact Or.inr ⟨rfl, rfl, rfl⟩
    | exact Or.inr fun _ => ⟨rfl, rfl, rfl⟩
    | exact Or.inr fun _ => ⟨rfl, rfl⟩
    | split
    | dsimp only

theorem execSetPmcDump_keep (m : Sentence) (s : State) {t : State} (h : execSetPmcDump m s = .next t) : Keep 0x420000011b80 s t := by
  unfold execSetPmcDump at h
  injection h with h
  subst h
  repeat' first
    | with_reducible refine Keep.ite ?_ ?_
    | intro u hu
    | with_reducible apply submit_keep
    | with_reducible apply procSetPmcDump_keep
    | with_reducible exact Keep.refl _ _
    | with_reducible assumption
    | exact rfl
    | exact id
    | exact Or.inl rfl
    | exact Or.inr rfl
    | exact Or.inr (List.prefix_refl _)
    | exact Or.inr fun _ => rfl
    | exact Or.inr ⟨rfl, rfl, rfl⟩
    | exact Or.inr fun _ => ⟨rfl, rfl, rfl⟩
    | exact Or.inr fun _ => ⟨rfl, rfl⟩
    | split
    | dsimp only

theorem actFlushPmc_keep (s : State) (m : Sentence) (x_ : List Word) {k0 : Nat} {z0 : State} (hk : Nat.land 0x60000020000 k0 = 0x60000020000) (hz : Keep k0 z0 s) : Keep k0 z0 (actFlushPmc s m x_).1 := by
  refine Keep.step ?_ hk hz
  unfold actFlushPmc
  repeat' first
    | with_reducible refine Keep.ite ?_ ?_
    | intro u hu
    | with_reducible apply State.startDump_keep
    | with_reducible exact Keep.refl _ _
    | with_reducible assumption
    | exact rfl
    | exact id
    | exact Or.inl rfl
    | exact Or.inr rfl
    | exact Or.inr (List.prefix_refl _)
    | exact Or.inr fun _ => rfl
    | exact Or.inr ⟨rfl, rfl, rfl⟩
    | exact Or.inr fun _ => ⟨rfl, rfl, rfl⟩
    | exact Or.inr fun _ => ⟨rfl, rfl⟩
    | split
    | dsimp only

theorem procFlushPmcDump_keep  (a : Sentence) (s : State) {k0 : Nat} {z0 : State} (hk : Nat.land 0x460000021b80 k0 = 0x460000021b80) (hz : Keep k0 z0 s) : Keep k0 z0 (procFlushPmcDump  a s) := by
  refine Keep.step ?_ hk hz
  unfold procFlushPmcDump
  refine process_keep _ _ _ _ _ _ 0x60000020000 (fun u ws => ?_) rfl rfl rfl (Keep.refl _ _)
  repeat' first
    | with_reducible refine Keep.ite ?_ ?_
    | intro u hu
    | with_reducible apply actFlushPmc_keep
    | with_reducible exact Keep.refl _ _
    | with_reducible assumption
    | exact rfl
    | exact id
    | exact Or.inl rfl
    | exact Or.inr rfl
    | exact Or.inr (List.prefix_refl _)
    | exact Or.inr fun _ => rfl
    | exact Or.inr ⟨rfl, rfl, rfl⟩
    | exact Or.inr fun _ => ⟨rfl, rfl, rfl⟩
    | exact Or.inr fun _ => ⟨rfl, rfl⟩
    | split
    | dsimp only

theorem execFlushPmcDump_keep (m : Sentence) (s : State) {t : State} (h : execFlushPmcDump m s = .next t) : Keep 0x460000021b80 s t := by
  unfold execFlushPmcDump at h
  injection h with h
  subst h
  repeat' first
    | with_reducible refine Keep.ite ?_ ?_
    | intro u hu
    | with_reducible apply submit_keep
    | with_reducible apply procFlushPmcDump_keep
    | with_reducible exact Keep.refl _ _
    | with_reducible assumption
    | exact rfl
    | exact id
    | exact Or.inl rfl
    | exact Or.inr rfl
    | exact Or.inr (List.prefix_refl _)
    | exact Or.inr fun _ => rfl
    | exact Or.inr ⟨rfl, rfl, rfl⟩
    | exact Or.inr fun _ => ⟨rfl, rfl, rfl⟩
    | exact Or.inr fun _ => ⟨rfl, rfl⟩
    | split
    | dsimp only

theorem procGetPmcSample_keep  (a : Sentence) (s : State) {k0 : Nat} {z0 : State} (hk : Nat.land 0x420000001b80 k0 = 0x420000001b80) (hz : Keep k0 z0 s) : Keep k0 z0 (procGetPmcSample  a s) := by
  refine Keep.step ?_ hk hz
  unfold procGetPmcSample
  refine process_keep _ _ _ _ _ _ 0x0 (fun u ws => ?_) rfl rfl rfl (Keep.refl _ _)
  repeat' first
    | exact getAct_keep ..

theorem execGetPmcSample_keep (m : Sentence) (s : State) {t : State} (h : execGetPmcSample m s = .next t) : Keep 0x420000001b80 s t := by
  unfold execGetPmcSample at h
  injection h with h
  subst h
  repeat' first
    | with_reducible refine Keep.ite ?_ ?_
    | intro u hu
    | with_reducible apply submit_keep
    | with_reducible apply procGetPmcSample_keep
    | with_reducible exact Keep.refl _ _
    | with_reducible assumption
    | exact rfl
    | exact id
    | exact Or.inl rfl
    | exact Or.inr rfl
    | exact Or.inr (List.prefix_refl _)
    | exact Or.inr fun _ => rfl
    | exact Or.inr ⟨rfl, rfl, rfl⟩
    | exact Or.inr fun _ => ⟨rfl, rfl, rfl⟩
    | exact Or.inr fun _ => ⟨rfl, rfl⟩
    | split
    | dsimp only

theorem procSetPmcSample_keep  (a : Sentence) (s : State) {k0 : Nat} {z0 : State} (hk : Nat.land 0x420000011b80 k0 = 0x420000011b80) (hz : Keep k0 z0 s) : Keep k0 z0 (procSetPmcSample  a s) := by
  refine Keep.step ?_ hk hz
  unfold procSetPmcSample
  refine process_keep _ _ _ _ _ _ 0x10000 (fun u ws => ?_) rfl rfl rfl (Keep.refl _ _)
  repeat' first
    | with_reducible refine Keep.ite ?_ ?_
    | intro u hu
    | with_reducible apply setAct_keep
    | with_reducible exact Keep.refl _ _
    | with_reducible assumption
    | exact rfl
    | exact id
    | exact Or.inl rfl
    | exact Or.inr rfl
    | exact Or.inr (List.prefix_refl _)
    | exact Or.inr fun _ => rfl
    | exact Or.inr ⟨rfl, rfl, rfl⟩
    | exact Or.inr fun _ => ⟨rfl, rfl, rfl⟩
    | exact Or.inr fun _ => ⟨rfl, rfl⟩
    | split
    | dsimp only

theorem execSetPmcSample_keep (m : Sentence) (s : State) {t : State} (h : execSetPmcSample m s = .next t) : Keep 0x420000011b80 s t := by
  unfold execSetPmcSample at h
  injection h with h
  subst h
  repeat' first
    | with_reducible refine Keep.ite ?_ ?_
    | intro u hu
    | with_reducible apply submit_keep
    | with_reducible apply procSetPmcSample_keep
    | with_reducible exact Keep.refl _ _
    | with_reducible assumption
    | exact rfl
    | exact id
    | exact Or.inl rfl
    | exact Or.inr rfl
    | exact Or.inr (List.prefix_refl _)
    | exact Or.inr fun _ => rfl
    | exact Or.inr ⟨rfl, rfl, rfl⟩
    | exact Or.inr fun _ => ⟨rfl, rfl, rfl⟩
    | exact Or.inr fun _ => ⟨rfl, rfl⟩
    | split
    | dsimp only

theorem State.modShut_keep (s : State) (f : Shut → Shut) {k0 : Nat} {z0 : State} (hk : Nat.land 0x40 k0 = 0x40) (hz : Keep k0 z0 s) : Keep k0 z0 (State.modShut s f) := by
  refine Keep.step ?_ hk hz
  unfold State.modShut
  try simp -zeta only [State.fold_shut]
  repeat' first
    | with_reducible refine Keep.ite ?_ ?_
    | with_reducible apply Keep.set_shut
    | with_reducible exact Keep.refl _ _
    | with_reducible assumption
    | exact rfl
    | exact id
    | exact Or.inl rfl
    | exact Or.inr rfl
    | exact Or.inr (List.prefix_refl _)
    | exact Or.inr fun _ => rfl
    | exact Or.inr ⟨rfl, rfl, rfl⟩
    | exact Or.inr fun _ => ⟨rfl, rfl, rfl⟩
    | exact Or.inr fun _ => ⟨rfl, rfl⟩
    | split
    | dsimp only

theorem State.modHif_keep (s : State) (f : Hif → Hif) {k0 : Nat} {z0 : State} (hk : Nat.land 0x3000 k0 = 0x3000) (hz : Keep k0 z0 s) : Keep k0 z0 (State.modHif s f) := by
  refine Keep.step ?_ hk hz
  unfold State.modHif
  try simp -zeta only [State.fold_hif]
  repeat' first
    | with_reducible refine Keep.ite ?_ ?_
    | with_reducible apply Keep.set_hif
    | with_reducible exact Keep.refl _ _
    | with_reducible assumption
    | exact rfl
    | exact id
    | exact Or.inl rfl
    | exact Or.inr rfl
    | exact Or.inr (List.prefix_refl _)
    | exact Or.inr fun _ => rfl
    | exact Or.inr ⟨rfl, rfl, rfl⟩
    | exact Or.inr fun _ => ⟨rfl, rfl, rfl⟩
    | exact Or.inr fun _ => ⟨rfl, rfl⟩
    | split
    | dsimp only

theorem State.linkGone_keep (s : State) {k0 : Nat} {z0 : State} (hk : Nat.land 0x3300 k0 = 0x3300) (hz : Keep k0 z0 s) : Keep k0 z0 (State.linkGone s) := by
  refine Keep.step ?_ hk hz
  unfold State.linkGone
  repeat' first
    | with_reducible refine Keep.ite ?_ ?_
    | with_reducible apply State.modHif_keep
    | with_reducible apply State.raise_keep
    | with_reducible exact Keep.refl _ _
    | with_reducible assumption
    | exact rfl
    | exact id
    | exact Or.inl rfl
    | exact Or.inr rfl
    | exact Or.inr (List.prefix_refl _)
    | exact Or.inr fun _ => rfl
    | exact Or.inr ⟨rfl, rfl, rfl⟩
    | exact Or.inr fun _ => ⟨rfl, rfl, rfl⟩
    | exact Or.inr fun _ => ⟨rfl, rfl⟩
    | split
    | dsimp only

theorem State.testPorts_keep (s : State) {k0 : Nat} {z0 : State} (hk : Nat.land 0x20000000 k0 = 0x20000000) (hz : Keep k0 z0 s) : Keep k0 z0 (State.testPorts s) := by
  refine Keep.step ?_ hk hz
  unfold State.testPorts
  repeat' first
    | with_reducible refine Keep.ite ?_ ?_
    | with_reducible refine Keep.foldl _ ?_ ?_
    | intro u x hu
    | intro u hu
    | with_reducible apply Keep.modPort
    | with_reducible exact Keep.refl _ _
    | with_reducible assumption
    | exact rfl
    | exact id
    | exact Or.inl rfl
    | exact Or.inr rfl
    | exact Or.inr (List.prefix_refl _)
    | exact Or.inr fun _ => rfl
    | exact Or.inr ⟨rfl, rfl, rfl⟩
    | exact Or.inr fun _ => ⟨rfl, rfl, rfl⟩
    | exact Or.inr fun _ => ⟨rfl, rfl⟩
    | split
    | dsimp only

theorem State.lineLeaves_keep (s : State) (l : Nat) {k0 : Nat} {z0 : State} (hk : Nat.land 0x2303807f1b82 k0 = 0x2303807f1b82) (hz : Keep k0 z0 s) : Keep k0 z0 (State.lineLeaves s l) := by
  refine Keep.step ?_ hk hz
  unfold State.lineLeaves
  repeat' first
    | with_reducible refine Keep.ite ?_ ?_
    | with_reducible apply State.captureEnd_keep
    | with_reducible apply State.lineDown_keep
    | with_reducible apply Keep.setParam
    | with_reducible exact Keep.refl _ _
    | with_reducible assumption
    | exact rfl
    | exact id
    | exact Or.inl rfl
    | exact Or.inr rfl
    | exact Or.inr (List.prefix_refl _)
    | exact Or.inr fun _ => rfl
    | exact Or.inr ⟨rfl, rfl, rfl⟩
    | exact Or.inr fun _ => ⟨rfl, rfl, rfl⟩
    | exact Or.inr fun _ => ⟨rfl, rfl⟩
    | split
    | dsimp only

theorem State.hostLeaves_keep (s : State) (h : Nat) {k0 : Nat} {z0 : State} (hk : Nat.land 0xc000000 k0 = 0xc000000) (hz : Keep k0 z0 s) : Keep k0 z0 (State.hostLeaves s h) := by
  refine Keep.step ?_ hk hz
  unfold State.hostLeaves
  repeat' first
    | with_reducible refine Keep.ite ?_ ?_
    | with_reducible apply State.hostDown_keep
    | with_reducible exact Keep.refl _ _
    | with_reducible assumption
    | exact rfl
    | exact id
    | exact Or.inl rfl
    | exact Or.inr rfl
    | exact Or.inr (List.prefix_refl _)
    | exact Or.inr fun _ => rfl
    | exact Or.inr ⟨rfl, rfl, rfl⟩
    | exact Or.inr fun _ => ⟨rfl, rfl, rfl⟩
    | exact Or.inr fun _ => ⟨rfl, rfl⟩
    | split
    | dsimp only

theorem State.leaveTests_keep (s : State) {k0 : Nat} {z0 : State} (hk : Nat.land 0x2303ac7f1b82 k0 = 0x2303ac7f1b82) (hz : Keep k0 z0 s) : Keep k0 z0 (State.leaveTests s) := by
  refine Keep.step ?_ hk hz
  unfold State.leaveTests
  repeat' first
    | with_reducible refine Keep.ite ?_ ?_
    | with_reducible refine Keep.foldl _ ?_ ?_
    | intro u x hu
    | intro u hu
    | with_reducible apply State.hostLeaves_keep
    | with_reducible apply State.lineLeaves_keep
    | with_reducible apply State.testPorts_keep
    | with_reducible exact Keep.refl _ _
    | with_reducible assumption
    | exact rfl
    | exact id
    | exact Or.inl rfl
    | exact Or.inr rfl
    | exact Or.inr (List.prefix_refl _)
    | exact Or.inr fun _ => rfl
    | exact Or.inr ⟨rfl, rfl, rfl⟩
    | exact Or.inr fun _ => ⟨rfl, rfl, rfl⟩
    | exact Or.inr fun _ => ⟨rfl, rfl⟩
    | split
    | dsimp only

theorem State.endTests_keep (s : State) {k0 : Nat} {z0 : State} (hk : Nat.land 0x2323aeff1b82 k0 = 0x2323aeff1b82) (hz : Keep k0 z0 s) : Keep k0 z0 (State.endTests s) := by
  refine Keep.step ?_ hk hz
  unfold State.endTests
  repeat' first
    | with_reducible refine Keep.ite ?_ ?_
    | with_reducible refine Keep.foldl _ ?_ ?_
    | intro u x hu
    | intro u hu
    | with_reducible apply State.syncTxState_keep
    | with_reducible apply State.leaveTests_keep
    | with_reducible exact Keep.refl _ _
    | with_reducible assumption
    | exact rfl
    | exact id
    | exact Or.inl rfl
    | exact Or.inr rfl
    | exact Or.inr (List.prefix_refl _)
    | exact Or.inr fun _ => rfl
    | exact Or.inr ⟨rfl, rfl, rfl⟩
    | exact Or.inr fun _ => ⟨rfl, rfl, rfl⟩
    | exact Or.inr fun _ => ⟨rfl, rfl⟩
    | split
    | dsimp only

theorem State.refuseOutstanding_keep (s : State) {k0 : Nat} {z0 : State} (hk : Nat.land 0x20000001b80 k0 = 0x20000001b80) (hz : Keep k0 z0 s) : Keep k0 z0 (State.refuseOutstanding s) := by
  refine Keep.step ?_ hk hz
  unfold State.refuseOutstanding
  repeat' first
    | with_reducible refine Keep.ite ?_ ?_
    | with_reducible refine Keep.foldl _ ?_ ?_
    | intro u x hu
    | intro u hu
    | with_reducible apply State.finish_keep
    | with_reducible exact Keep.refl _ _
    | with_reducible assumption
    | exact rfl
    | exact id
    | exact Or.inl rfl
    | exact Or.inr rfl
    | exact Or.inr (List.prefix_refl _)
    | exact Or.inr fun _ => rfl
    | exact Or.inr ⟨rfl, rfl, rfl⟩
    | exact Or.inr fun _ => ⟨rfl, rfl, rfl⟩
    | exact Or.inr fun _ => ⟨rfl, rfl⟩
    | split
    | dsimp only

theorem State.refuseWaiting_keep (s : State) {k0 : Nat} {z0 : State} (hk : Nat.land 0x20000001b80 k0 = 0x20000001b80) (hz : Keep k0 z0 s) : Keep k0 z0 (State.refuseWaiting s) := by
  refine Keep.step ?_ hk hz
  unfold State.refuseWaiting
  try simp -zeta only [State.fold_mb]
  repeat' first
    | with_reducible refine Keep.ite ?_ ?_
    | with_reducible refine Keep.foldl _ ?_ ?_
    | intro u x hu
    | intro u hu
    | with_reducible apply State.complete_keep
    | with_reducible apply Keep.set_mb
    | with_reducible exact Keep.refl _ _
    | with_reducible assumption
    | exact rfl
    | exact id
    | exact Or.inl rfl
    | exact Or.inr rfl
    | exact Or.inr (List.prefix_refl _)
    | exact Or.inr fun _ => rfl
    | exact Or.inr ⟨rfl, rfl, rfl⟩
    | exact Or.inr fun _ => ⟨rfl, rfl, rfl⟩
    | exact Or.inr fun _ => ⟨rfl, rfl⟩
    | split
    | dsimp only

theorem State.fold_hinge_fw (t : State) (hinge' : type_of% t.hinge) (fw' : type_of% t.fw) :
    State.mk t.pending t.free t.fuses t.dev t.shut t.mb t.ev t.icu t.hif t.err t.tku t.params t.stats t.line t.host t.group t.port t.block t.eng hinge' t.lex t.mem t.rep t.ocu t.cal t.thm t.tst t.pmc t.pwr fw' t.cap = ((t.withHinge hinge').withFw fw') := rfl

theorem State.dropWork_keep (s : State) {k0 : Nat} {z0 : State} (hk : Nat.land 0x3363a1321ba2 k0 = 0x3363a1321ba2) (hz : Keep k0 z0 s) : Keep k0 z0 (State.dropWork s) := by
  refine Keep.step ?_ hk hz
  unfold State.dropWork
  try simp -zeta only [State.fold_hinge_fw, State.fold_hinge, State.fold_fw]
  repeat' first
    | with_reducible refine Keep.ite ?_ ?_
    | with_reducible refine Keep.foldl _ ?_ ?_
    | intro u x hu
    | intro u hu
    | with_reducible apply State.abandonSwap_keep
    | with_reducible apply State.captureEnd_keep
    | with_reducible apply State.abortSlice_keep
    | with_reducible apply State.calAbandon_keep
    | with_reducible apply State.refuseWaiting_keep
    | with_reducible apply State.endEnter_keep
    | with_reducible apply Keep.modSea
    | with_reducible apply Keep.modPlt
    | with_reducible apply Keep.modPort
    | with_reducible apply Keep.set_hinge
    | with_reducible apply Keep.set_fw
    | with_reducible exact Keep.refl _ _
    | with_reducible assumption
    | exact rfl
    | exact id
    | exact Or.inl rfl
    | exact Or.inr rfl
    | exact Or.inr (List.prefix_refl _)
    | exact Or.inr fun _ => rfl
    | exact Or.inr ⟨rfl, rfl, rfl⟩
    | exact Or.inr fun _ => ⟨rfl, rfl, rfl⟩
    | exact Or.inr fun _ => ⟨rfl, rfl⟩
    | split
    | dsimp only

theorem State.cutLines_keep (s : State) {k0 : Nat} {z0 : State} (hk : Nat.land 0x2002800300 k0 = 0x2002800300) (hz : Keep k0 z0 s) : Keep k0 z0 (State.cutLines s) := by
  refine Keep.step ?_ hk hz
  unfold State.cutLines
  repeat' first
    | with_reducible refine Keep.ite ?_ ?_
    | with_reducible refine Keep.foldl _ ?_ ?_
    | intro u x hu
    | intro u hu
    | with_reducible apply State.endEnable_keep
    | with_reducible apply State.laserCut_keep
    | with_reducible apply Keep.modLtx
    | with_reducible exact Keep.refl _ _
    | with_reducible assumption
    | exact rfl
    | exact id
    | exact Or.inl rfl
    | exact Or.inr rfl
    | exact Or.inr (List.prefix_refl _)
    | exact Or.inr fun _ => rfl
    | exact Or.inr ⟨rfl, rfl, rfl⟩
    | exact Or.inr fun _ => ⟨rfl, rfl, rfl⟩
    | exact Or.inr fun _ => ⟨rfl, rfl⟩
    | split
    | dsimp only

theorem State.shutFlush_keep (s : State) (lexicon : Bool) {k0 : Nat} {z0 : State} (hk : Nat.land 0x60200020040 k0 = 0x60200020040) (hz : Keep k0 z0 s) : Keep k0 z0 (State.shutFlush s lexicon) := by
  refine Keep.step ?_ hk hz
  unfold State.shutFlush
  repeat' first
    | with_reducible refine Keep.ite ?_ ?_
    | with_reducible apply State.modShut_keep
    | with_reducible apply State.startPass_keep
    | with_reducible apply State.startDump_keep
    | with_reducible exact Keep.refl _ _
    | with_reducible assumption
    | exact rfl
    | exact id
    | exact Or.inl rfl
    | exact Or.inr rfl
    | exact Or.inr (List.prefix_refl _)
    | exact Or.inr fun _ => rfl
    | exact Or.inr ⟨rfl, rfl, rfl⟩
    | exact Or.inr fun _ => ⟨rfl, rfl, rfl⟩
    | exact Or.inr fun _ => ⟨rfl, rfl⟩
    | split
    | dsimp only

theorem State.shutSave_keep (s : State) {k0 : Nat} {z0 : State} (hk : Nat.land 0x40 k0 = 0x40) (hz : Keep k0 z0 s) : Keep k0 z0 (State.shutSave s) := by
  refine Keep.step ?_ hk hz
  unfold State.shutSave
  repeat' first
    | with_reducible refine Keep.ite ?_ ?_
    | with_reducible apply State.modShut_keep
    | with_reducible exact Keep.refl _ _
    | with_reducible assumption
    | exact rfl
    | exact id
    | exact Or.inl rfl
    | exact Or.inr rfl
    | exact Or.inr (List.prefix_refl _)
    | exact Or.inr fun _ => rfl
    | exact Or.inr ⟨rfl, rfl, rfl⟩
    | exact Or.inr fun _ => ⟨rfl, rfl, rfl⟩
    | exact Or.inr fun _ => ⟨rfl, rfl⟩
    | split
    | dsimp only

theorem State.shutStart_keep (s : State) (t : Trigger) (broken : Bool) (hold : Nat) (skip : Bool) (ticket : Option Ticket) {k0 : Nat} {z0 : State} (hk : Nat.land 0x3763bfff5bea k0 = 0x3763bfff5bea) (hz : Keep k0 z0 s) : Keep k0 z0 (State.shutStart s t broken hold skip ticket) := by
  refine Keep.step ?_ hk hz
  unfold State.shutStart
  repeat' first
    | with_reducible refine Keep.ite ?_ ?_
    | with_reducible apply State.setMode_keep
    | with_reducible apply State.refuseOutstanding_keep
    | with_reducible apply State.dropWork_keep
    | with_reducible apply State.endTests_keep
    | with_reducible apply State.modShut_keep
    | with_reducible apply State.cutLines_keep
    | with_reducible apply State.sync_keep
    | with_reducible apply State.shutFlush_keep
    | with_reducible apply State.shutSave_keep
    | with_reducible exact Keep.refl _ _
    | with_reducible assumption
    | exact rfl
    | exact id
    | exact Or.inl rfl
    | exact Or.inr rfl
    | exact Or.inr (List.prefix_refl _)
    | exact Or.inr fun _ => rfl
    | exact Or.inr ⟨rfl, rfl, rfl⟩
    | exact Or.inr fun _ => ⟨rfl, rfl, rfl⟩
    | exact Or.inr fun _ => ⟨rfl, rfl⟩
    | split
    | dsimp only

theorem State.afterHold_keep (s : State) {k0 : Nat} {z0 : State} (hk : Nat.land 0x40 k0 = 0x40) (hz : Keep k0 z0 s) : Keep k0 z0 (State.afterHold s) := by
  refine Keep.step ?_ hk hz
  unfold State.afterHold
  repeat' first
    | with_reducible refine Keep.ite ?_ ?_
    | with_reducible apply State.modShut_keep
    | with_reducible exact Keep.refl _ _
    | with_reducible assumption
    | exact rfl
    | exact id
    | exact Or.inl rfl
    | exact Or.inr rfl
    | exact Or.inr (List.prefix_refl _)
    | exact Or.inr fun _ => rfl
    | exact Or.inr ⟨rfl, rfl, rfl⟩
    | exact Or.inr fun _ => ⟨rfl, rfl, rfl⟩
    | exact Or.inr fun _ => ⟨rfl, rfl⟩
    | split
    | dsimp only

theorem State.afterSave_keep (s : State) (done : Bool) {k0 : Nat} {z0 : State} (hk : Nat.land 0x20000001bc0 k0 = 0x20000001bc0) (hz : Keep k0 z0 s) : Keep k0 z0 (State.afterSave s done) := by
  refine Keep.step ?_ hk hz
  unfold State.afterSave
  repeat' first
    | with_reducible refine Keep.ite ?_ ?_
    | with_reducible apply State.modShut_keep
    | with_reducible apply State.finishOpt_keep
    | with_reducible apply State.afterHold_keep
    | with_reducible exact Keep.refl _ _
    | with_reducible assumption
    | exact rfl
    | exact id
    | exact Or.inl rfl
    | exact Or.inr rfl
    | exact Or.inr (List.prefix_refl _)
    | exact Or.inr fun _ => rfl
    | exact Or.inr ⟨rfl, rfl, rfl⟩
    | exact Or.inr fun _ => ⟨rfl, rfl, rfl⟩
    | exact Or.inr fun _ => ⟨rfl, rfl⟩
    | split
    | dsimp only

theorem State.fold_lex_pmc (t : State) (lex' : type_of% t.lex) (pmc' : type_of% t.pmc) :
    State.mk t.pending t.free t.fuses t.dev t.shut t.mb t.ev t.icu t.hif t.err t.tku t.params t.stats t.line t.host t.group t.port t.block t.eng t.hinge lex' t.mem t.rep t.ocu t.cal t.thm t.tst pmc' t.pwr t.fw t.cap = ((t.withLex lex').withPmc pmc') := rfl

theorem State.afterFlush_keep (s : State) (done : Bool) {k0 : Nat} {z0 : State} (hk : Nat.land 0x60200001bc0 k0 = 0x60200001bc0) (hz : Keep k0 z0 s) : Keep k0 z0 (State.afterFlush s done) := by
  refine Keep.step ?_ hk hz
  unfold State.afterFlush
  try simp -zeta only [State.fold_lex_pmc, State.fold_lex, State.fold_pmc]
  repeat' first
    | with_reducible refine Keep.ite ?_ ?_
    | with_reducible refine Keep.foldl _ ?_ ?_
    | intro u x hu
    | intro u hu
    | with_reducible apply State.finish_keep
    | with_reducible apply State.modShut_keep
    | with_reducible apply State.shutSave_keep
    | with_reducible apply Keep.set_lex
    | with_reducible apply Keep.set_pmc
    | with_reducible exact Keep.refl _ _
    | with_reducible assumption
    | exact rfl
    | exact id
    | exact Or.inl rfl
    | exact Or.inr rfl
    | exact Or.inr (List.prefix_refl _)
    | exact Or.inr fun _ => rfl
    | exact Or.inr ⟨rfl, rfl, rfl⟩
    | exact Or.inr fun _ => ⟨rfl, rfl, rfl⟩
    | exact Or.inr fun _ => ⟨rfl, rfl⟩
    | split
    | dsimp only

theorem State.shutAbandon_keep (s : State) {k0 : Nat} {z0 : State} (hk : Nat.land 0x60200001bc0 k0 = 0x60200001bc0) (hz : Keep k0 z0 s) : Keep k0 z0 (State.shutAbandon s) := by
  refine Keep.step ?_ hk hz
  unfold State.shutAbandon
  repeat' first
    | with_reducible refine Keep.ite ?_ ?_
    | with_reducible apply State.afterFlush_keep
    | with_reducible apply State.afterSave_keep
    | with_reducible apply State.afterHold_keep
    | with_reducible apply State.modShut_keep
    | with_reducible exact Keep.refl _ _
    | with_reducible assumption
    | exact rfl
    | exact id
    | exact Or.inl rfl
    | exact Or.inr rfl
    | exact Or.inr (List.prefix_refl _)
    | exact Or.inr fun _ => rfl
    | exact Or.inr ⟨rfl, rfl, rfl⟩
    | exact Or.inr fun _ => ⟨rfl, rfl, rfl⟩
    | exact Or.inr fun _ => ⟨rfl, rfl⟩
    | split
    | dsimp only

theorem State.shutAdopt_keep (s : State) (t : Trigger) {k0 : Nat} {z0 : State} (hk : Nat.land 0x62202801bc0 k0 = 0x62202801bc0) (hz : Keep k0 z0 s) : Keep k0 z0 (State.shutAdopt s t) := by
  refine Keep.step ?_ hk hz
  unfold State.shutAdopt
  repeat' first
    | with_reducible refine Keep.ite ?_ ?_
    | with_reducible apply State.modShut_keep
    | with_reducible apply State.cutLines_keep
    | with_reducible apply State.shutAbandon_keep
    | with_reducible exact Keep.refl _ _
    | with_reducible assumption
    | exact rfl
    | exact id
    | exact Or.inl rfl
    | exact Or.inr rfl
    | exact Or.inr (List.prefix_refl _)
    | exact Or.inr fun _ => rfl
    | exact Or.inr ⟨rfl, rfl, rfl⟩
    | exact Or.inr fun _ => ⟨rfl, rfl, rfl⟩
    | exact Or.inr fun _ => ⟨rfl, rfl⟩
    | split
    | dsimp only

theorem State.shutTrigger_keep (s : State) (t : Trigger) (broken : Bool) {k0 : Nat} {z0 : State} (hk : Nat.land 0x3763bfff5bea k0 = 0x3763bfff5bea) (hz : Keep k0 z0 s) : Keep k0 z0 (State.shutTrigger s t broken) := by
  refine Keep.step ?_ hk hz
  unfold State.shutTrigger
  repeat' first
    | with_reducible refine Keep.ite ?_ ?_
    | with_reducible apply State.shutAdopt_keep
    | with_reducible apply State.shutStart_keep
    | with_reducible exact Keep.refl _ _
    | with_reducible assumption
    | exact rfl
    | exact id
    | exact Or.inl rfl
    | exact Or.inr rfl
    | exact Or.inr (List.prefix_refl _)
    | exact Or.inr fun _ => rfl
    | exact Or.inr ⟨rfl, rfl, rfl⟩
    | exact Or.inr fun _ => ⟨rfl, rfl, rfl⟩
    | exact Or.inr fun _ => ⟨rfl, rfl⟩
    | split
    | dsimp only

theorem execShutterFlushDone_keep (s : State) {t : State} (h : execShutterFlushDone s = .next t) : Keep 0x60200001bc0 s t := by
  unfold execShutterFlushDone at h
  injection h with h
  subst h
  repeat' first
    | with_reducible refine Keep.ite ?_ ?_
    | intro u hu
    | with_reducible apply State.afterFlush_keep
    | with_reducible exact Keep.refl _ _
    | with_reducible assumption
    | exact rfl
    | exact id
    | exact Or.inl rfl
    | exact Or.inr rfl
    | exact Or.inr (List.prefix_refl _)
    | exact Or.inr fun _ => rfl
    | exact Or.inr ⟨rfl, rfl, rfl⟩
    | exact Or.inr fun _ => ⟨rfl, rfl, rfl⟩
    | exact Or.inr fun _ => ⟨rfl, rfl⟩
    | split
    | dsimp only

theorem execShutterDeadlineExpiry_keep (s : State) {t : State} (h : execShutterDeadlineExpiry s = .next t) : Keep 0x60200001bc0 s t := by
  unfold execShutterDeadlineExpiry at h
  injection h with h
  subst h
  repeat' first
    | with_reducible refine Keep.ite ?_ ?_
    | intro u hu
    | with_reducible apply State.shutAbandon_keep
    | with_reducible exact Keep.refl _ _
    | with_reducible assumption
    | exact rfl
    | exact id
    | exact Or.inl rfl
    | exact Or.inr rfl
    | exact Or.inr (List.prefix_refl _)
    | exact Or.inr fun _ => rfl
    | exact Or.inr ⟨rfl, rfl, rfl⟩
    | exact Or.inr fun _ => ⟨rfl, rfl, rfl⟩
    | exact Or.inr fun _ => ⟨rfl, rfl⟩
    | split
    | dsimp only

theorem execShutterLogSaved_keep (s : State) {t : State} (h : execShutterLogSaved s = .next t) : Keep 0x20000001bc0 s t := by
  unfold execShutterLogSaved at h
  injection h with h
  subst h
  repeat' first
    | with_reducible refine Keep.ite ?_ ?_
    | intro u hu
    | with_reducible apply State.modShut_keep
    | with_reducible apply State.afterSave_keep
    | with_reducible exact Keep.refl _ _
    | with_reducible assumption
    | exact rfl
    | exact id
    | exact Or.inl rfl
    | exact Or.inr rfl
    | exact Or.inr (List.prefix_refl _)
    | exact Or.inr fun _ => rfl
    | exact Or.inr ⟨rfl, rfl, rfl⟩
    | exact Or.inr fun _ => ⟨rfl, rfl, rfl⟩
    | exact Or.inr fun _ => ⟨rfl, rfl⟩
    | split
    | dsimp only

theorem execShutterHoldEnd_keep (s : State) {t : State} (h : execShutterHoldEnd s = .next t) : Keep 0x40 s t := by
  unfold execShutterHoldEnd at h
  injection h with h
  subst h
  repeat' first
    | with_reducible refine Keep.ite ?_ ?_
    | intro u hu
    | with_reducible apply State.afterHold_keep
    | with_reducible exact Keep.refl _ _
    | with_reducible assumption
    | exact rfl
    | exact id
    | exact Or.inl rfl
    | exact Or.inr rfl
    | exact Or.inr (List.prefix_refl _)
    | exact Or.inr fun _ => rfl
    | exact Or.inr ⟨rfl, rfl, rfl⟩
    | exact Or.inr fun _ => ⟨rfl, rfl, rfl⟩
    | exact Or.inr fun _ => ⟨rfl, rfl⟩
    | split
    | dsimp only

theorem execShutdownBistDone_keep (fails : List RepairEntry) (s : State) {t : State} (h : execShutdownBistDone fails s = .next t) : Keep 0x21000005b48 s t := by
  unfold execShutdownBistDone at h
  injection h with h
  subst h
  repeat' first
    | with_reducible refine Keep.ite ?_ ?_
    | with_reducible refine Keep.foldl _ ?_ ?_
    | intro u x hu
    | intro u hu
    | with_reducible apply State.repair_keep
    | with_reducible apply State.modShut_keep
    | with_reducible apply State.settle_keep
    | with_reducible exact Keep.refl _ _
    | with_reducible assumption
    | exact rfl
    | exact id
    | exact Or.inl rfl
    | exact Or.inr rfl
    | exact Or.inr (List.prefix_refl _)
    | exact Or.inr fun _ => rfl
    | exact Or.inr ⟨rfl, rfl, rfl⟩
    | exact Or.inr fun _ => ⟨rfl, rfl, rfl⟩
    | exact Or.inr fun _ => ⟨rfl, rfl⟩
    | split
    | dsimp only

theorem State.lanesDown_keep (s : State) {k0 : Nat} {z0 : State} (hk : Nat.land 0xc1c0000 k0 = 0xc1c0000) (hz : Keep k0 z0 s) : Keep k0 z0 (State.lanesDown s) := by
  refine Keep.step ?_ hk hz
  unfold State.lanesDown
  repeat' first
    | with_reducible refine Keep.ite ?_ ?_
    | with_reducible refine Keep.foldl _ ?_ ?_
    | intro u x hu
    | intro u hu
    | with_reducible apply State.hostDown_keep
    | with_reducible apply Keep.modLine
    | with_reducible exact Keep.refl _ _
    | with_reducible assumption
    | exact rfl
    | exact id
    | exact Or.inl rfl
    | exact Or.inr rfl
    | exact Or.inr (List.prefix_refl _)
    | exact Or.inr fun _ => rfl
    | exact Or.inr ⟨rfl, rfl, rfl⟩
    | exact Or.inr fun _ => ⟨rfl, rfl, rfl⟩
    | exact Or.inr fun _ => ⟨rfl, rfl⟩
    | split
    | dsimp only

theorem State.rampOut_keep (s : State) (l : Nat) {k0 : Nat} {z0 : State} (hk : Nat.land 0x2002800300 k0 = 0x2002800300) (hz : Keep k0 z0 s) : Keep k0 z0 (State.rampOut s l) := by
  refine Keep.step ?_ hk hz
  unfold State.rampOut
  repeat' first
    | with_reducible refine Keep.ite ?_ ?_
    | with_reducible apply State.endEnable_keep
    | with_reducible apply State.raise_keep
    | with_reducible exact Keep.refl _ _
    | with_reducible assumption
    | exact rfl
    | exact id
    | exact Or.inl rfl
    | exact Or.inr rfl
    | exact Or.inr (List.prefix_refl _)
    | exact Or.inr fun _ => rfl
    | exact Or.inr ⟨rfl, rfl, rfl⟩
    | exact Or.inr fun _ => ⟨rfl, rfl, rfl⟩
    | exact Or.inr fun _ => ⟨rfl, rfl⟩
    | split
    | dsimp only

theorem State.shutPower_keep (s : State) {k0 : Nat} {z0 : State} (hk : Nat.land 0xaac1f9e7be8 k0 = 0xaac1f9e7be8) (hz : Keep k0 z0 s) : Keep k0 z0 (State.shutPower s) := by
  refine Keep.step ?_ hk hz
  unfold State.shutPower
  dsimp only
  have h1 : Keep 0xaac1f9e7be8 s ((List.range s.lines).foldl (fun s l => (s.pltTruncate l).modLtx l fun x =>
      { x with state := .off, enStep := 0, retry := false, content := .none, release := false }) ((List.range s.lines).foldl (fun s l => s.rampOut l) s).lanesDown.axIdleAll.linkGone) :=
    Keep.foldl _ (fun u x hu => Keep.modLtx rfl (State.pltTruncate_keep _ _ rfl hu))
      (State.linkGone_keep _ rfl (State.axIdleAll_keep _ rfl (State.lanesDown_keep _ rfl
        (Keep.foldl _ (fun u x hu => State.rampOut_keep _ _ rfl hu) (Keep.refl _ _)))))
  generalize (List.range s.lines).foldl (fun s l => (s.pltTruncate l).modLtx l fun x =>
      { x with state := .off, enStep := 0, retry := false, content := .none, release := false }) ((List.range s.lines).foldl (fun s l => s.rampOut l) s).lanesDown.axIdleAll.linkGone = t at h1
  refine State.sync_keep _ rfl (State.modShut_keep _ _ rfl ?_)
  have h2 : Keep 0xaac1f9e7be8 s (t.withDev { t.dev with powered := false, pfEnabled := false }) :=
    Keep.set_dev (.inr ⟨rfl, rfl, rfl⟩) (.inr rfl) (.inl rfl) h1
  have h4 := Keep.set_mem (x := { t.mem with data := [], cond := [] }) (.inl rfl) (.inl rfl) (fun _ => rfl) (by exact id) h2
  exact Keep.set_pwr rfl (Keep.set_thm (x := { t.thm with thermN := t.thm.thermN || decide (t.shut.column = Trigger.thermal) }) rfl h4)

theorem execShutterPowerDown_keep (s : State) {t : State} (h : execShutterPowerDown s = .next t) : Keep 0xaac1f9e7be8 s t := by
  unfold execShutterPowerDown at h
  injection h with h
  subst h
  repeat' first
    | with_reducible refine Keep.ite ?_ ?_
    | intro u hu
    | with_reducible apply State.shutPower_keep
    | with_reducible exact Keep.refl _ _
    | with_reducible assumption
    | exact rfl
    | exact id
    | exact Or.inl rfl
    | exact Or.inr rfl
    | exact Or.inr (List.prefix_refl _)
    | exact Or.inr fun _ => rfl
    | exact Or.inr ⟨rfl, rfl, rfl⟩
    | exact Or.inr fun _ => ⟨rfl, rfl, rfl⟩
    | exact Or.inr fun _ => ⟨rfl, rfl⟩
    | split
    | dsimp only

theorem State.rankSensors_keep (s : State) (fresh : List Nat) {k0 : Nat} {z0 : State} (hk : Nat.land 0x8000000000 k0 = 0x8000000000) (hz : Keep k0 z0 s) : Keep k0 z0 (State.rankSensors s fresh) := by
  refine Keep.step ?_ hk hz
  unfold State.rankSensors
  repeat' first
    | with_reducible refine Keep.ite ?_ ?_
    | with_reducible refine Keep.foldl _ ?_ ?_
    | intro u x hu
    | intro u hu
    | with_reducible apply Keep.modSensor
    | with_reducible exact Keep.refl _ _
    | with_reducible assumption
    | exact rfl
    | exact id
    | exact Or.inl rfl
    | exact Or.inr rfl
    | exact Or.inr (List.prefix_refl _)
    | exact Or.inr fun _ => rfl
    | exact Or.inr ⟨rfl, rfl, rfl⟩
    | exact Or.inr fun _ => ⟨rfl, rfl, rfl⟩
    | exact Or.inr fun _ => ⟨rfl, rfl⟩
    | split
    | dsimp only

theorem State.brokenSensor_keep (s : State) (n cause : Nat) {k0 : Nat} {z0 : State} (hk : Nat.land 0x28000001b00 k0 = 0x28000001b00) (hz : Keep k0 z0 s) : Keep k0 z0 (State.brokenSensor s n cause).1 := by
  refine Keep.step ?_ hk hz
  unfold State.brokenSensor
  try simp -zeta only [State.fold_thm]
  repeat' first
    | with_reducible refine Keep.ite ?_ ?_
    | intro u hu
    | with_reducible apply State.raise_keep
    | with_reducible apply State.level_keep
    | with_reducible apply Keep.set_thm
    | with_reducible exact Keep.refl _ _
    | with_reducible assumption
    | exact rfl
    | exact id
    | exact Or.inl rfl
    | exact Or.inr rfl
    | exact Or.inr (List.prefix_refl _)
    | exact Or.inr fun _ => rfl
    | exact Or.inr ⟨rfl, rfl, rfl⟩
    | exact Or.inr fun _ => ⟨rfl, rfl, rfl⟩
    | exact Or.inr fun _ => ⟨rfl, rfl⟩
    | split
    | dsimp only

theorem State.restoredSensor_keep (s : State) (n : Nat) {k0 : Nat} {z0 : State} (hk : Nat.land 0x8000000300 k0 = 0x8000000300) (hz : Keep k0 z0 s) : Keep k0 z0 (State.restoredSensor s n) := by
  refine Keep.step ?_ hk hz
  unfold State.restoredSensor
  try simp -zeta only [State.fold_thm]
  repeat' first
    | with_reducible refine Keep.ite ?_ ?_
    | with_reducible apply State.raise_keep
    | with_reducible apply Keep.set_thm
    | with_reducible exact Keep.refl _ _
    | with_reducible assumption
    | exact rfl
    | exact id
    | exact Or.inl rfl
    | exact Or.inr rfl
    | exact Or.inr (List.prefix_refl _)
    | exact Or.inr fun _ => rfl
    | exact Or.inr ⟨rfl, rfl, rfl⟩
    | exact Or.inr fun _ => ⟨rfl, rfl, rfl⟩
    | exact Or.inr fun _ => ⟨rfl, rfl⟩
    | split
    | dsimp only

theorem Keep.foldlFst {α β : Type} {m : Nat} {s : State} {f : State × β → α → State × β} (l : List α) {t : State × β}
    (hf : ∀ u x, Keep m s u.1 → Keep m s (f u x).1) (h : Keep m s t.1) : Keep m s (l.foldl f t).1 := by
  induction l generalizing t with
  | nil => exact h
  | cons x xs ih => exact ih (hf t x h)

theorem State.convert_keep (s : State) (conv : List (Option Int)) {k0 : Nat} {z0 : State} (hk : Nat.land 0x28000001b00 k0 = 0x28000001b00) (hz : Keep k0 z0 s) : Keep k0 z0 (State.convert s conv).1 := by
  refine Keep.step ?_ hk hz
  unfold State.convert
  repeat' first
    | with_reducible refine Keep.foldlFst _ ?_ ?_
    | intro u x hu
    | with_reducible refine Keep.ite ?_ ?_
    | with_reducible refine Keep.foldl _ ?_ ?_
    | intro u x hu
    | intro u hu
    | with_reducible apply State.rankSensors_keep
    | with_reducible apply State.brokenSensor_keep
    | with_reducible apply State.restoredSensor_keep
    | with_reducible apply Keep.modSensor
    | with_reducible exact Keep.refl _ _
    | with_reducible assumption
    | exact rfl
    | exact id
    | exact Or.inl rfl
    | exact Or.inr rfl
    | exact Or.inr (List.prefix_refl _)
    | exact Or.inr fun _ => rfl
    | exact Or.inr ⟨rfl, rfl, rfl⟩
    | exact Or.inr fun _ => ⟨rfl, rfl, rfl⟩
    | exact Or.inr fun _ => ⟨rfl, rfl⟩
    | split
    | dsimp only

theorem State.setBand_keep (s : State) (hot : Int) {k0 : Nat} {z0 : State} (hk : Nat.land 0x8000180300 k0 = 0x8000180300) (hz : Keep k0 z0 s) : Keep k0 z0 (State.setBand s hot) := by
  refine Keep.step ?_ hk hz
  unfold State.setBand
  try simp -zeta only [State.fold_thm]
  repeat' first
    | with_reducible refine Keep.ite ?_ ?_
    | with_reducible refine Keep.foldl _ ?_ ?_
    | intro u x hu
    | intro u hu
    | with_reducible apply State.raise_keep
    | with_reducible apply Keep.modLrx
    | with_reducible apply Keep.set_thm
    | with_reducible exact Keep.refl _ _
    | with_reducible assumption
    | exact rfl
    | exact id
    | exact Or.inl rfl
    | exact Or.inr rfl
    | exact Or.inr (List.prefix_refl _)
    | exact Or.inr fun _ => rfl
    | exact Or.inr ⟨rfl, rfl, rfl⟩
    | exact Or.inr fun _ => ⟨rfl, rfl, rfl⟩
    | exact Or.inr fun _ => ⟨rfl, rfl⟩
    | split
    | dsimp only

theorem State.setLevel_keep (s : State) (hot : Int) {k0 : Nat} {z0 : State} (hk : Nat.land 0x38380221b82 k0 = 0x38380221b82) (hz : Keep k0 z0 s) : Keep k0 z0 (State.setLevel s hot) := by
  refine Keep.step ?_ hk hz
  unfold State.setLevel
  try simp -zeta only [State.fold_hinge, State.fold_thm]
  repeat' first
    | with_reducible refine Keep.ite ?_ ?_
    | with_reducible apply State.level_keep
    | with_reducible apply State.raise_keep
    | with_reducible apply State.replanHeld_keep
    | with_reducible apply Keep.set_hinge
    | with_reducible apply Keep.set_thm
    | with_reducible exact Keep.refl _ _
    | with_reducible assumption
    | exact rfl
    | exact id
    | exact Or.inl rfl
    | exact Or.inr rfl
    | exact Or.inr (List.prefix_refl _)
    | exact Or.inr fun _ => rfl
    | exact Or.inr ⟨rfl, rfl, rfl⟩
    | exact Or.inr fun _ => ⟨rfl, rfl, rfl⟩
    | exact Or.inr fun _ => ⟨rfl, rfl⟩
    | split
    | dsimp only

theorem State.setThermN_keep (s : State) (hot : Int) {k0 : Nat} {z0 : State} (hk : Nat.land 0x8000000300 k0 = 0x8000000300) (hz : Keep k0 z0 s) : Keep k0 z0 (State.setThermN s hot) := by
  refine Keep.step ?_ hk hz
  unfold State.setThermN
  try simp -zeta only [State.fold_thm]
  repeat' first
    | with_reducible refine Keep.ite ?_ ?_
    | with_reducible apply State.raise_keep
    | with_reducible apply Keep.set_thm
    | with_reducible exact Keep.refl _ _
    | with_reducible assumption
    | exact rfl
    | exact id
    | exact Or.inl rfl
    | exact Or.inr rfl
    | exact Or.inr (List.prefix_refl _)
    | exact Or.inr fun _ => rfl
    | exact Or.inr ⟨rfl, rfl, rfl⟩
    | exact Or.inr fun _ => ⟨rfl, rfl, rfl⟩
    | exact Or.inr fun _ => ⟨rfl, rfl⟩
    | split
    | dsimp only

theorem State.thermRecord_keep (s : State) {k0 : Nat} {z0 : State} (hk : Nat.land 0x28c00002300 k0 = 0x28c00002300) (hz : Keep k0 z0 s) : Keep k0 z0 (State.thermRecord s) := by
  refine Keep.step ?_ hk hz
  unfold State.thermRecord
  try simp -zeta only [State.fold_thm]
  repeat' first
    | with_reducible refine Keep.ite ?_ ?_
    | with_reducible apply State.telPut_keep
    | with_reducible apply State.dmaDue_keep
    | with_reducible apply Keep.set_thm
    | with_reducible exact Keep.refl _ _
    | with_reducible assumption
    | exact rfl
    | exact id
    | exact Or.inl rfl
    | exact Or.inr rfl
    | exact Or.inr (List.prefix_refl _)
    | exact Or.inr fun _ => rfl
    | exact Or.inr ⟨rfl, rfl, rfl⟩
    | exact Or.inr fun _ => ⟨rfl, rfl, rfl⟩
    | exact Or.inr fun _ => ⟨rfl, rfl⟩
    | split
    | dsimp only

theorem State.dieReading_keep (s : State) (die : Nat) (m : Option Nat) {k0 : Nat} {z0 : State} (hk : Nat.land 0x8800000002 k0 = 0x8800000002) (hz : Keep k0 z0 s) : Keep k0 z0 (State.dieReading s die m) := by
  refine Keep.step ?_ hk hz
  unfold State.dieReading
  try simp -zeta only [State.fold_mem]
  repeat' first
    | with_reducible refine Keep.ite ?_ ?_
    | with_reducible apply State.freeNext_keep
    | with_reducible apply Keep.modSensor
    | with_reducible apply Keep.set_mem
    | with_reducible exact Keep.refl _ _
    | with_reducible assumption
    | exact rfl
    | exact id
    | exact Or.inl rfl
    | exact Or.inr rfl
    | exact Or.inr (List.prefix_refl _)
    | exact Or.inr fun _ => rfl
    | exact Or.inr ⟨rfl, rfl, rfl⟩
    | exact Or.inr fun _ => ⟨rfl, rfl, rfl⟩
    | exact Or.inr fun _ => ⟨rfl, rfl⟩
    | split
    | dsimp only

theorem State.calTemps_keep (s : State) {k0 : Nat} {z0 : State} (hk : Nat.land 0x4000000000 k0 = 0x4000000000) (hz : Keep k0 z0 s) : Keep k0 z0 (State.calTemps s) := by
  refine Keep.step ?_ hk hz
  unfold State.calTemps
  repeat' first
    | with_reducible refine Keep.ite ?_ ?_
    | with_reducible refine Keep.foldl _ ?_ ?_
    | intro u x hu
    | intro u hu
    | with_reducible apply State.setDue_keep
    | with_reducible exact Keep.refl _ _
    | with_reducible assumption
    | exact rfl
    | exact id
    | exact Or.inl rfl
    | exact Or.inr rfl
    | exact Or.inr (List.prefix_refl _)
    | exact Or.inr fun _ => rfl
    | exact Or.inr ⟨rfl, rfl, rfl⟩
    | exact Or.inr fun _ => ⟨rfl, rfl, rfl⟩
    | exact Or.inr fun _ => ⟨rfl, rfl⟩
    | split
    | dsimp only

theorem State.thermLimit_keep (s : State) (hot : Option Int) {k0 : Nat} {z0 : State} (hk : Nat.land 0x3763bfff5bea k0 = 0x3763bfff5bea) (hz : Keep k0 z0 s) : Keep k0 z0 (State.thermLimit s hot) := by
  refine Keep.step ?_ hk hz
  unfold State.thermLimit
  repeat' first
    | with_reducible refine Keep.ite ?_ ?_
    | with_reducible apply State.shutTrigger_keep
    | with_reducible exact Keep.refl _ _
    | with_reducible assumption
    | exact rfl
    | exact id
    | exact Or.inl rfl
    | exact Or.inr rfl
    | exact Or.inr (List.prefix_refl _)
    | exact Or.inr fun _ => rfl
    | exact Or.inr ⟨rfl, rfl, rfl⟩
    | exact Or.inr fun _ => ⟨rfl, rfl, rfl⟩
    | exact Or.inr fun _ => ⟨rfl, rfl⟩
    | split
    | dsimp only

theorem State.applyReading_keep (s : State) (hot : Option Int) (held : Bool) {k0 : Nat} {z0 : State} (hk : Nat.land 0x383803a1b82 k0 = 0x383803a1b82) (hz : Keep k0 z0 s) : Keep k0 z0 (State.applyReading s hot held) := by
  refine Keep.step ?_ hk hz
  unfold State.applyReading
  try simp -zeta only [State.fold_thm]
  repeat' first
    | with_reducible refine Keep.ite ?_ ?_
    | with_reducible apply State.setBand_keep
    | with_reducible apply State.setLevel_keep
    | with_reducible apply State.setThermN_keep
    | with_reducible apply Keep.set_thm
    | with_reducible exact Keep.refl _ _
    | with_reducible assumption
    | exact rfl
    | exact id
    | exact Or.inl rfl
    | exact Or.inr rfl
    | exact Or.inr (List.prefix_refl _)
    | exact Or.inr fun _ => rfl
    | exact Or.inr ⟨rfl, rfl, rfl⟩
    | exact Or.inr fun _ => ⟨rfl, rfl, rfl⟩
    | exact Or.inr fun _ => ⟨rfl, rfl⟩
    | split
    | dsimp only

theorem execThermalReading_keep (conv : List (Option Int)) (mr4 : List (Option Nat)) (s : State) {t : State} (h : execThermalReading conv mr4 s = .next t) : Keep 0x37efbfff7bea s t := by
  unfold execThermalReading at h
  injection h with h
  subst h
  repeat' first
    | with_reducible refine Keep.ite ?_ ?_
    | intro u hu
    | with_reducible apply State.convert_keep
    | with_reducible apply State.thermLimit_keep
    | with_reducible apply State.settle_keep
    | with_reducible apply State.applyReading_keep
    | with_reducible apply State.dieReading_keep
    | with_reducible apply State.thermRecord_keep
    | with_reducible apply State.calTemps_keep
    | with_reducible apply State.follow_keep
    | with_reducible exact Keep.refl _ _
    | with_reducible assumption
    | exact rfl
    | exact id
    | exact Or.inl rfl
    | exact Or.inr rfl
    | exact Or.inr (List.prefix_refl _)
    | exact Or.inr fun _ => rfl
    | exact Or.inr ⟨rfl, rfl, rfl⟩
    | exact Or.inr fun _ => ⟨rfl, rfl, rfl⟩
    | exact Or.inr fun _ => ⟨rfl, rfl⟩
    | split
    | dsimp only

theorem procGetThmCfg_keep  (a : Sentence) (s : State) {k0 : Nat} {z0 : State} (hk : Nat.land 0x420000001b80 k0 = 0x420000001b80) (hz : Keep k0 z0 s) : Keep k0 z0 (procGetThmCfg  a s) := by
  refine Keep.step ?_ hk hz
  unfold procGetThmCfg
  refine process_keep _ _ _ _ _ _ 0x0 (fun u ws => ?_) rfl rfl rfl (Keep.refl _ _)
  repeat' first
    | exact getAct_keep ..

theorem execGetThmCfg_keep (m : Sentence) (s : State) {t : State} (h : execGetThmCfg m s = .next t) : Keep 0x420000001b80 s t := by
  unfold execGetThmCfg at h
  injection h with h
  subst h
  repeat' first
    | with_reducible refine Keep.ite ?_ ?_
    | intro u hu
    | with_reducible apply submit_keep
    | with_reducible apply procGetThmCfg_keep
    | with_reducible exact Keep.refl _ _
    | with_reducible assumption
    | exact rfl
    | exact id
    | exact Or.inl rfl
    | exact Or.inr rfl
    | exact Or.inr (List.prefix_refl _)
    | exact Or.inr fun _ => rfl
    | exact Or.inr ⟨rfl, rfl, rfl⟩
    | exact Or.inr fun _ => ⟨rfl, rfl, rfl⟩
    | exact Or.inr fun _ => ⟨rfl, rfl⟩
    | split
    | dsimp only

theorem procSetThmCfg_keep  (a : Sentence) (s : State) {k0 : Nat} {z0 : State} (hk : Nat.land 0x420000011b80 k0 = 0x420000011b80) (hz : Keep k0 z0 s) : Keep k0 z0 (procSetThmCfg  a s) := by
  refine Keep.step ?_ hk hz
  unfold procSetThmCfg
  refine process_keep _ _ _ _ _ _ 0x10000 (fun u ws => ?_) rfl rfl rfl (Keep.refl _ _)
  repeat' first
    | with_reducible refine Keep.ite ?_ ?_
    | intro u hu
    | with_reducible apply setAct_keep
    | with_reducible exact Keep.refl _ _
    | with_reducible assumption
    | exact rfl
    | exact id
    | exact Or.inl rfl
    | exact Or.inr rfl
    | exact Or.inr (List.prefix_refl _)
    | exact Or.inr fun _ => rfl
    | exact Or.inr ⟨rfl, rfl, rfl⟩
    | exact Or.inr fun _ => ⟨rfl, rfl, rfl⟩
    | exact Or.inr fun _ => ⟨rfl, rfl⟩
    | split
    | dsimp only

theorem execSetThmCfg_keep (m : Sentence) (s : State) {t : State} (h : execSetThmCfg m s = .next t) : Keep 0x420000011b80 s t := by
  unfold execSetThmCfg at h
  injection h with h
  subst h
  repeat' first
    | with_reducible refine Keep.ite ?_ ?_
    | intro u hu
    | with_reducible apply submit_keep
    | with_reducible apply procSetThmCfg_keep
    | with_reducible exact Keep.refl _ _
    | with_reducible assumption
    | exact rfl
    | exact id
    | exact Or.inl rfl
    | exact Or.inr rfl
    | exact Or.inr (List.prefix_refl _)
    | exact Or.inr fun _ => rfl
    | exact Or.inr ⟨rfl, rfl, rfl⟩
    | exact Or.inr fun _ => ⟨rfl, rfl, rfl⟩
    | exact Or.inr fun _ => ⟨rfl, rfl⟩
    | split
    | dsimp only

theorem procGetThmSensor_keep  (a : Sentence) (s : State) {k0 : Nat} {z0 : State} (hk : Nat.land 0x420000001b80 k0 = 0x420000001b80) (hz : Keep k0 z0 s) : Keep k0 z0 (procGetThmSensor  a s) := by
  refine Keep.step ?_ hk hz
  unfold procGetThmSensor
  refine process_keep _ _ _ _ _ _ 0x0 (fun u ws => ?_) rfl rfl rfl (Keep.refl _ _)
  repeat' first
    | exact getAct_keep ..

theorem execGetThmSensor_keep (m : Sentence) (s : State) {t : State} (h : execGetThmSensor m s = .next t) : Keep 0x420000001b80 s t := by
  unfold execGetThmSensor at h
  injection h with h
  subst h
  repeat' first
    | with_reducible refine Keep.ite ?_ ?_
    | intro u hu
    | with_reducible apply submit_keep
    | with_reducible apply procGetThmSensor_keep
    | with_reducible exact Keep.refl _ _
    | with_reducible assumption
    | exact rfl
    | exact id
    | exact Or.inl rfl
    | exact Or.inr rfl
    | exact Or.inr (List.prefix_refl _)
    | exact Or.inr fun _ => rfl
    | exact Or.inr ⟨rfl, rfl, rfl⟩
    | exact Or.inr fun _ => ⟨rfl, rfl, rfl⟩
    | exact Or.inr fun _ => ⟨rfl, rfl⟩
    | split
    | dsimp only

theorem actAckSensor_keep (s : State) (m : Sentence) (x_ : List Word) {k0 : Nat} {z0 : State} (hk : Nat.land 0x8000000000 k0 = 0x8000000000) (hz : Keep k0 z0 s) : Keep k0 z0 (actAckSensor s m x_).1 := by
  refine Keep.step ?_ hk hz
  unfold actAckSensor
  repeat' first
    | with_reducible refine Keep.ite ?_ ?_
    | intro u hu
    | with_reducible apply Keep.modSensor
    | with_reducible exact Keep.refl _ _
    | with_reducible assumption
    | exact rfl
    | exact id
    | exact Or.inl rfl
    | exact Or.inr rfl
    | exact Or.inr (List.prefix_refl _)
    | exact Or.inr fun _ => rfl
    | exact Or.inr ⟨rfl, rfl, rfl⟩
    | exact Or.inr fun _ => ⟨rfl, rfl, rfl⟩
    | exact Or.inr fun _ => ⟨rfl, rfl⟩
    | split
    | dsimp only

theorem procAckThmSensor_keep  (a : Sentence) (s : State) {k0 : Nat} {z0 : State} (hk : Nat.land 0x428000001b80 k0 = 0x428000001b80) (hz : Keep k0 z0 s) : Keep k0 z0 (procAckThmSensor  a s) := by
  refine Keep.step ?_ hk hz
  unfold procAckThmSensor
  refine process_keep _ _ _ _ _ _ 0x8000000000 (fun u ws => ?_) rfl rfl rfl (Keep.refl _ _)
  repeat' first
    | with_reducible refine Keep.ite ?_ ?_
    | intro u hu
    | with_reducible apply actAckSensor_keep
    | with_reducible exact Keep.refl _ _
    | with_reducible assumption
    | exact rfl
    | exact id
    | exact Or.inl rfl
    | exact Or.inr rfl
    | exact Or.inr (List.prefix_refl _)
    | exact Or.inr fun _ => rfl
    | exact Or.inr ⟨rfl, rfl, rfl⟩
    | exact Or.inr fun _ => ⟨rfl, rfl, rfl⟩
    | exact Or.inr fun _ => ⟨rfl, rfl⟩
    | split
    | dsimp only

theorem execAckThmSensor_keep (m : Sentence) (s : State) {t : State} (h : execAckThmSensor m s = .next t) : Keep 0x428000001b80 s t := by
  unfold execAckThmSensor at h
  injection h with h
  subst h
  repeat' first
    | with_reducible refine Keep.ite ?_ ?_
    | intro u hu
    | with_reducible apply submit_keep
    | with_reducible apply procAckThmSensor_keep
    | with_reducible exact Keep.refl _ _
    | with_reducible assumption
    | exact rfl
    | exact id
    | exact Or.inl rfl
    | exact Or.inr rfl
    | exact Or.inr (List.prefix_refl _)
    | exact Or.inr fun _ => rfl
    | exact Or.inr ⟨rfl, rfl, rfl⟩
    | exact Or.inr fun _ => ⟨rfl, rfl, rfl⟩
    | exact Or.inr fun _ => ⟨rfl, rfl⟩
    | split
    | dsimp only

theorem procGetThmStatus_keep  (a : Sentence) (s : State) {k0 : Nat} {z0 : State} (hk : Nat.land 0x420000001b80 k0 = 0x420000001b80) (hz : Keep k0 z0 s) : Keep k0 z0 (procGetThmStatus  a s) := by
  refine Keep.step ?_ hk hz
  unfold procGetThmStatus
  refine process_keep _ _ _ _ _ _ 0x0 (fun u ws => ?_) rfl rfl rfl (Keep.refl _ _)
  repeat' first
    | exact getAct_keep ..

theorem execGetThmStatus_keep (m : Sentence) (s : State) {t : State} (h : execGetThmStatus m s = .next t) : Keep 0x420000001b80 s t := by
  unfold execGetThmStatus at h
  injection h with h
  subst h
  repeat' first
    | with_reducible refine Keep.ite ?_ ?_
    | intro u hu
    | with_reducible apply submit_keep
    | with_reducible apply procGetThmStatus_keep
    | with_reducible exact Keep.refl _ _
    | with_reducible assumption
    | exact rfl
    | exact id
    | exact Or.inl rfl
    | exact Or.inr rfl
    | exact Or.inr (List.prefix_refl _)
    | exact Or.inr fun _ => rfl
    | exact Or.inr ⟨rfl, rfl, rfl⟩
    | exact Or.inr fun _ => ⟨rfl, rfl, rfl⟩
    | exact Or.inr fun _ => ⟨rfl, rfl⟩
    | split
    | dsimp only

theorem actClearThm_keep (s : State) (x_ : Sentence) (x1_ : List Word) {k0 : Nat} {z0 : State} (hk : Nat.land 0x28000005b08 k0 = 0x28000005b08) (hz : Keep k0 z0 s) : Keep k0 z0 (actClearThm s x_ x1_).1 := by
  refine Keep.step ?_ hk hz
  unfold actClearThm
  try simp -zeta only [State.fold_thm]
  repeat' first
    | with_reducible refine Keep.ite ?_ ?_
    | intro u hu
    | with_reducible apply State.settle_keep
    | with_reducible apply Keep.set_thm
    | with_reducible exact Keep.refl _ _
    | with_reducible assumption
    | exact rfl
    | exact id
    | exact Or.inl rfl
    | exact Or.inr rfl
    | exact Or.inr (List.prefix_refl _)
    | exact Or.inr fun _ => rfl
    | exact Or.inr ⟨rfl, rfl, rfl⟩
    | exact Or.inr fun _ => ⟨rfl, rfl, rfl⟩
    | exact Or.inr fun _ => ⟨rfl, rfl⟩
    | split
    | dsimp only

theorem procClearThmStatus_keep  (a : Sentence) (s : State) {k0 : Nat} {z0 : State} (hk : Nat.land 0x428000005b88 k0 = 0x428000005b88) (hz : Keep k0 z0 s) : Keep k0 z0 (procClearThmStatus  a s) := by
  refine Keep.step ?_ hk hz
  unfold procClearThmStatus
  refine process_keep _ _ _ _ _ _ 0x28000005b08 (fun u ws => ?_) rfl rfl rfl (Keep.refl _ _)
  repeat' first
    | with_reducible refine Keep.ite ?_ ?_
    | intro u hu
    | with_reducible apply actClearThm_keep
    | with_reducible exact Keep.refl _ _
    | with_reducible assumption
    | exact rfl
    | exact id
    | exact Or.inl rfl
    | exact Or.inr rfl
    | exact Or.inr (List.prefix_refl _)
    | exact Or.inr fun _ => rfl
    | exact Or.inr ⟨rfl, rfl, rfl⟩
    | exact Or.inr fun _ => ⟨rfl, rfl, rfl⟩
    | exact Or.inr fun _ => ⟨rfl, rfl⟩
    | split
    | dsimp only

theorem execClearThmStatus_keep (m : Sentence) (s : State) {t : State} (h : execClearThmStatus m s = .next t) : Keep 0x428000005b88 s t := by
  unfold execClearThmStatus at h
  injection h with h
  subst h
  repeat' first
    | with_reducible refine Keep.ite ?_ ?_
    | intro u hu
    | with_reducible apply submit_keep
    | with_reducible apply procClearThmStatus_keep
    | with_reducible exact Keep.refl _ _
    | with_reducible assumption
    | exact rfl
    | exact id
    | exact Or.inl rfl
    | exact Or.inr rfl
    | exact Or.inr (List.prefix_refl _)
    | exact Or.inr fun _ => rfl
    | exact Or.inr ⟨rfl, rfl, rfl⟩
    | exact Or.inr fun _ => ⟨rfl, rfl, rfl⟩
    | exact Or.inr fun _ => ⟨rfl, rfl⟩
    | split
    | dsimp only

end Sys2Proof.Machine
end

