-- ==== Sys2Proof/Laws/KeepDevice.lean ====
section
/-! SUPPORT. `Keep` for every operation of `Machine/Power.lean`, `Machine/Startup.lean`, `Machine/Reliability.lean`, `Machine/HostInterface.lean`, `Machine/Firmware.lean`, `Machine/Modes.lean`. -/

set_option linter.unusedTactic false
set_option linter.unreachableTactic false
set_option linter.unnecessarySeqFocus false
set_option linter.unusedVariables false
set_option linter.unusedSimpArgs false

namespace Sys2Proof.Machine

theorem State.modPwr_keep (s : State) (f : Pwr → Pwr) {k0 : Nat} {z0 : State} (hk : Nat.land 0x80000000000 k0 = 0x80000000000) (hz : Keep k0 z0 s) : Keep k0 z0 (State.modPwr s f) := by
  refine Keep.step ?_ hk hz
  unfold State.modPwr
  try simp -zeta only [State.fold_pwr]
  repeat' first
    | with_reducible refine Keep.ite ?_ ?_
    | with_reducible apply Keep.set_pwr
    | with_reducible exact Keep.refl _ _
    | with_reducible assumption
    | exact rfl
    | exact id
    | exact Or.inl rfl
    | exact Or.inr rfl
    | exact Or.inr (List.prefix_refl _)
    | exact Or.inr fun _ => rfl
    | exact Or.inr ⟨rfl, rfl, rfl⟩
    | exact Or.inr fun _ => ⟨rfl, rfl, rfl⟩
    | exact Or.inr fun _ => ⟨rfl, rfl⟩
    | split
    | dsimp only

theorem queueAt_reset (r : Requester) : ((tget State.reset.ev.queue (fun _ => {}) r.num : EvQueue)).others = 0 := by
  cases r <;> rfl

theorem State.cold_keep (s : State) {k0 : Nat} {z0 : State} (hk : Nat.land 0xbfeffffffff8 k0 = 0xbfeffffffff8) (hz : Keep k0 z0 s) : Keep k0 z0 (State.cold s) := by
  refine Keep.step ⟨fun c hc => ?_, fun b hb => ?_⟩ hk hz
  · cases c
    case outstanding => exact fun r => Nat.zero_le _
    all_goals first | exact rfl | exact absurd hc (by decide)
  · cases b
    case memory => exact rfl
    case queues => exact fun r => (queueAt_reset r).trans_le (Nat.zero_le _)
    case outstanding => exact fun r => Nat.zero_le _
    case repair => exact hb
    case stats => exact fun p hp => absurd hp (List.not_mem_nil)
    case counters => exact fun p hp => absurd hp (List.not_mem_nil)
    case echo => exact Nat.zero_le _

theorem State.keepRecord_keep (s : State) {k0 : Nat} {z0 : State} (hk : Nat.land 0x40 k0 = 0x40) (hz : Keep k0 z0 s) : Keep k0 z0 (State.keepRecord s) := by
  refine Keep.step ?_ hk hz
  unfold State.keepRecord
  repeat' first
    | with_reducible refine Keep.ite ?_ ?_
    | with_reducible apply State.modShut_keep
    | with_reducible exact Keep.refl _ _
    | with_reducible assumption
    | exact rfl
    | exact id
    | exact Or.inl rfl
    | exact Or.inr rfl
    | exact Or.inr (List.prefix_refl _)
    | exact Or.inr fun _ => rfl
    | exact Or.inr ⟨rfl, rfl, rfl⟩
    | exact Or.inr fun _ => ⟨rfl, rfl, rfl⟩
    | exact Or.inr fun _ => ⟨rfl, rfl⟩
    | split
    | dsimp only

theorem State.powerLoss_keep (s : State) {k0 : Nat} {z0 : State} (hk : Nat.land 0xbfeffffffff8 k0 = 0xbfeffffffff8) (hz : Keep k0 z0 s) : Keep k0 z0 (State.powerLoss s) := by
  refine Keep.step ?_ hk hz
  unfold State.powerLoss
  repeat' first
    | with_reducible refine Keep.ite ?_ ?_
    | with_reducible apply State.keepRecord_keep
    | with_reducible apply State.cold_keep
    | with_reducible exact Keep.refl _ _
    | with_reducible assumption
    | exact rfl
    | exact id
    | exact Or.inl rfl
    | exact Or.inr rfl
    | exact Or.inr (List.prefix_refl _)
    | exact Or.inr fun _ => rfl
    | exact Or.inr ⟨rfl, rfl, rfl⟩
    | exact Or.inr fun _ => ⟨rfl, rfl, rfl⟩
    | exact Or.inr fun _ => ⟨rfl, rfl⟩
    | split
    | dsimp only

theorem execRailFault_keep (rail : Nat) (cause : RailCause) (s : State) {t : State} (h : execRailFault rail cause s = .next t) : Keep 0xbfeffffffff8 s t := by
  unfold execRailFault at h
  injection h with h
  subst h
  repeat' first
    | with_reducible refine Keep.ite ?_ ?_
    | intro u hu
    | with_reducible apply State.powerLoss_keep
    | with_reducible apply State.modPwr_keep
    | with_reducible exact Keep.refl _ _
    | with_reducible assumption
    | exact rfl
    | exact id
    | exact Or.inl rfl
    | exact Or.inr rfl
    | exact Or.inr (List.prefix_refl _)
    | exact Or.inr fun _ => rfl
    | exact Or.inr ⟨rfl, rfl, rfl⟩
    | exact Or.inr fun _ => ⟨rfl, rfl, rfl⟩
    | exact Or.inr fun _ => ⟨rfl, rfl⟩
    | split
    | dsimp only

theorem execRailCurrentDwell_keep (rail current : Nat) (s : State) {t : State} (h : execRailCurrentDwell rail current s = .next t) : Keep 0x80000000300 s t := by
  unfold execRailCurrentDwell at h
  injection h with h
  subst h
  repeat' first
    | with_reducible refine Keep.ite ?_ ?_
    | intro u hu
    | with_reducible apply State.modPwr_keep
    | with_reducible apply State.raise_keep
    | with_reducible exact Keep.refl _ _
    | with_reducible assumption
    | exact rfl
    | exact id
    | exact Or.inl rfl
    | exact Or.inr rfl
    | exact Or.inr (List.prefix_refl _)
    | exact Or.inr fun _ => rfl
    | exact Or.inr ⟨rfl, rfl, rfl⟩
    | exact Or.inr fun _ => ⟨rfl, rfl, rfl⟩
    | exact Or.inr fun _ => ⟨rfl, rfl⟩
    | split
    | dsimp only

theorem execVinUndervoltage_keep (vin : Nat) (s : State) {t : State} (h : execVinUndervoltage vin s = .next t) : Keep 0x3f63bfff5bea s t := by
  unfold execVinUndervoltage at h
  injection h with h
  subst h
  repeat' first
    | with_reducible refine Keep.ite ?_ ?_
    | intro u hu
    | with_reducible apply State.modPwr_keep
    | with_reducible apply State.raise_keep
    | with_reducible apply State.shutTrigger_keep
    | with_reducible exact Keep.refl _ _
    | with_reducible assumption
    | exact rfl
    | exact id
    | exact Or.inl rfl
    | exact Or.inr rfl
    | exact Or.inr (List.prefix_refl _)
    | exact Or.inr fun _ => rfl
    | exact Or.inr ⟨rfl, rfl, rfl⟩
    | exact Or.inr fun _ => ⟨rfl, rfl, rfl⟩
    | exact Or.inr fun _ => ⟨rfl, rfl⟩
    | split
    | dsimp only

theorem execVinPowerDown_keep (s : State) {t : State} (h : execVinPowerDown s = .next t) : Keep 0xbfeffffffff8 s t := by
  unfold execVinPowerDown at h
  injection h with h
  subst h
  try simp -zeta only [State.fold_thm]
  repeat' first
    | with_reducible refine Keep.ite ?_ ?_
    | intro u hu
    | with_reducible apply State.modPwr_keep
    | with_reducible apply State.powerLoss_keep
    | with_reducible apply Keep.set_thm
    | with_reducible exact Keep.refl _ _
    | with_reducible assumption
    | exact rfl
    | exact id
    | exact Or.inl rfl
    | exact Or.inr rfl
    | exact Or.inr (List.prefix_refl _)
    | exact Or.inr fun _ => rfl
    | exact Or.inr ⟨rfl, rfl, rfl⟩
    | exact Or.inr fun _ => ⟨rfl, rfl, rfl⟩
    | exact Or.inr fun _ => ⟨rfl, rfl⟩
    | split
    | dsimp only

theorem execInputOvervoltage_keep (s : State) {t : State} (h : execInputOvervoltage s = .next t) : Keep 0xbfeffffffff8 s t := by
  unfold execInputOvervoltage at h
  injection h with h
  subst h
  repeat' first
    | with_reducible refine Keep.ite ?_ ?_
    | intro u hu
    | with_reducible apply State.modPwr_keep
    | with_reducible apply State.powerLoss_keep
    | with_reducible exact Keep.refl _ _
    | with_reducible assumption
    | exact rfl
    | exact id
    | exact Or.inl rfl
    | exact Or.inr rfl
    | exact Or.inr (List.prefix_refl _)
    | exact Or.inr fun _ => rfl
    | exact Or.inr ⟨rfl, rfl, rfl⟩
    | exact Or.inr fun _ => ⟨rfl, rfl, rfl⟩
    | exact Or.inr fun _ => ⟨rfl, rfl⟩
    | split
    | dsimp only

theorem State.vcoreUp_keep (s : State) {k0 : Nat} {z0 : State} (hk : Nat.land 0x80000000000 k0 = 0x80000000000) (hz : Keep k0 z0 s) : Keep k0 z0 (State.vcoreUp s) := by
  refine Keep.step ?_ hk hz
  unfold State.vcoreUp
  repeat' first
    | with_reducible refine Keep.ite ?_ ?_
    | with_reducible apply State.modPwr_keep
    | with_reducible exact Keep.refl _ _
    | with_reducible assumption
    | exact rfl
    | exact id
    | exact Or.inl rfl
    | exact Or.inr rfl
    | exact Or.inr (List.prefix_refl _)
    | exact Or.inr fun _ => rfl
    | exact Or.inr ⟨rfl, rfl, rfl⟩
    | exact Or.inr fun _ => ⟨rfl, rfl, rfl⟩
    | exact Or.inr fun _ => ⟨rfl, rfl⟩
    | split
    | dsimp only

theorem State.slackLow_keep (s : State) (slack : List Int) (rates : List Nat) {k0 : Nat} {z0 : State} (hk : Nat.land 0x80000000300 k0 = 0x80000000300) (hz : Keep k0 z0 s) : Keep k0 z0 (State.slackLow s slack rates) := by
  refine Keep.step ?_ hk hz
  unfold State.slackLow
  repeat' first
    | with_reducible refine Keep.ite ?_ ?_
    | with_reducible apply State.vcoreUp_keep
    | with_reducible apply State.modPwr_keep
    | with_reducible apply State.raise_keep
    | with_reducible exact Keep.refl _ _
    | with_reducible assumption
    | exact rfl
    | exact id
    | exact Or.inl rfl
    | exact Or.inr rfl
    | exact Or.inr (List.prefix_refl _)
    | exact Or.inr fun _ => rfl
    | exact Or.inr ⟨rfl, rfl, rfl⟩
    | exact Or.inr fun _ => ⟨rfl, rfl, rfl⟩
    | exact Or.inr fun _ => ⟨rfl, rfl⟩
    | split
    | dsimp only

theorem State.slackRegulate_keep (s : State) (slack : List Int) (rates : List Nat) {k0 : Nat} {z0 : State} (hk : Nat.land 0x80000000300 k0 = 0x80000000300) (hz : Keep k0 z0 s) : Keep k0 z0 (State.slackRegulate s slack rates) := by
  refine Keep.step ?_ hk hz
  unfold State.slackRegulate
  repeat' first
    | with_reducible refine Keep.ite ?_ ?_
    | with_reducible apply State.modPwr_keep
    | with_reducible apply State.slackLow_keep
    | with_reducible exact Keep.refl _ _
    | with_reducible assumption
    | exact rfl
    | exact id
    | exact Or.inl rfl
    | exact Or.inr rfl
    | exact Or.inr (List.prefix_refl _)
    | exact Or.inr fun _ => rfl
    | exact Or.inr ⟨rfl, rfl, rfl⟩
    | exact Or.inr fun _ => ⟨rfl, rfl, rfl⟩
    | exact Or.inr fun _ => ⟨rfl, rfl⟩
    | split
    | dsimp only

theorem State.slackThrottle_keep (s : State) {k0 : Nat} {z0 : State} (hk : Nat.land 0x80000000000 k0 = 0x80000000000) (hz : Keep k0 z0 s) : Keep k0 z0 (State.slackThrottle s) := by
  refine Keep.step ?_ hk hz
  unfold State.slackThrottle
  repeat' first
    | with_reducible refine Keep.ite ?_ ?_
    | with_reducible apply State.modPwr_keep
    | with_reducible apply State.vcoreUp_keep
    | with_reducible exact Keep.refl _ _
    | with_reducible assumption
    | exact rfl
    | exact id
    | exact Or.inl rfl
    | exact Or.inr rfl
    | exact Or.inr (List.prefix_refl _)
    | exact Or.inr fun _ => rfl
    | exact Or.inr ⟨rfl, rfl, rfl⟩
    | exact Or.inr fun _ => ⟨rfl, rfl, rfl⟩
    | exact Or.inr fun _ => ⟨rfl, rfl⟩
    | split
    | dsimp only

theorem execSlackReport_keep (slack : List Int) (rates : List Nat) (s : State) {t : State} (h : execSlackReport slack rates s = .next t) : Keep 0xb239bb25b8a s t := by
  unfold execSlackReport at h
  injection h with h
  subst h
  repeat' first
    | with_reducible refine Keep.ite ?_ ?_
    | intro u hu
    | with_reducible apply State.modPwr_keep
    | with_reducible apply State.slackRegulate_keep
    | with_reducible apply State.slackThrottle_keep
    | with_reducible apply State.reportRates_keep
    | with_reducible apply State.sync_keep
    | with_reducible exact Keep.refl _ _
    | with_reducible assumption
    | exact rfl
    | exact id
    | exact Or.inl rfl
    | exact Or.inr rfl
    | exact Or.inr (List.prefix_refl _)
    | exact Or.inr fun _ => rfl
    | exact Or.inr ⟨rfl, rfl, rfl⟩
    | exact Or.inr fun _ => ⟨rfl, rfl, rfl⟩
    | exact Or.inr fun _ => ⟨rfl, rfl⟩
    | split
    | dsimp only

theorem execLoweringDwellExpiry_keep (s : State) {t : State} (h : execLoweringDwellExpiry s = .next t) : Keep 0x80000000000 s t := by
  unfold execLoweringDwellExpiry at h
  injection h with h
  subst h
  repeat' first
    | with_reducible refine Keep.ite ?_ ?_
    | intro u hu
    | with_reducible apply State.modPwr_keep
    | with_reducible exact Keep.refl _ _
    | with_reducible assumption
    | exact rfl
    | exact id
    | exact Or.inl rfl
    | exact Or.inr rfl
    | exact Or.inr (List.prefix_refl _)
    | exact Or.inr fun _ => rfl
    | exact Or.inr ⟨rfl, rfl, rfl⟩
    | exact Or.inr fun _ => ⟨rfl, rfl, rfl⟩
    | exact Or.inr fun _ => ⟨rfl, rfl⟩
    | split
    | dsimp only

theorem execVcoreReductionAnnounced_keep (s : State) {t : State} (h : execVcoreReductionAnnounced s = .next t) : Keep 0x80000000000 s t := by
  unfold execVcoreReductionAnnounced at h
  injection h with h
  subst h
  repeat' first
    | with_reducible refine Keep.ite ?_ ?_
    | intro u hu
    | with_reducible apply State.modPwr_keep
    | with_reducible exact Keep.refl _ _
    | with_reducible assumption
    | exact rfl
    | exact id
    | exact Or.inl rfl
    | exact Or.inr rfl
    | exact Or.inr (List.prefix_refl _)
    | exact Or.inr fun _ => rfl
    | exact Or.inr ⟨rfl, rfl, rfl⟩
    | exact Or.inr fun _ => ⟨rfl, rfl, rfl⟩
    | exact Or.inr fun _ => ⟨rfl, rfl⟩
    | split
    | dsimp only

theorem execVcoreStepSettled_keep (rates : List Nat) (s : State) {t : State} (h : execVcoreStepSettled rates s = .next t) : Keep 0xb639bb25b8a s t := by
  unfold execVcoreStepSettled at h
  injection h with h
  subst h
  repeat' first
    | with_reducible refine Keep.ite ?_ ?_
    | intro u hu
    | with_reducible apply State.modPwr_keep
    | with_reducible apply State.reportRates_keep
    | with_reducible apply State.follow_keep
    | with_reducible exact Keep.refl _ _
    | with_reducible assumption
    | exact rfl
    | exact id
    | exact Or.inl rfl
    | exact Or.inr rfl
    | exact Or.inr (List.prefix_refl _)
    | exact Or.inr fun _ => rfl
    | exact Or.inr ⟨rfl, rfl, rfl⟩
    | exact Or.inr fun _ => ⟨rfl, rfl, rfl⟩
    | exact Or.inr fun _ => ⟨rfl, rfl⟩
    | split
    | dsimp only

theorem State.vcoreIdle_keep (s : State) {k0 : Nat} {z0 : State} (hk : Nat.land 0x80000000000 k0 = 0x80000000000) (hz : Keep k0 z0 s) : Keep k0 z0 (State.vcoreIdle s) := by
  refine Keep.step ?_ hk hz
  unfold State.vcoreIdle
  repeat' first
    | with_reducible refine Keep.ite ?_ ?_
    | with_reducible apply State.modPwr_keep
    | with_reducible exact Keep.refl _ _
    | with_reducible assumption
    | exact rfl
    | exact id
    | exact Or.inl rfl
    | exact Or.inr rfl
    | exact Or.inr (List.prefix_refl _)
    | exact Or.inr fun _ => rfl
    | exact Or.inr ⟨rfl, rfl, rfl⟩
    | exact Or.inr fun _ => ⟨rfl, rfl, rfl⟩
    | exact Or.inr fun _ => ⟨rfl, rfl⟩
    | split
    | dsimp only

theorem procGetPwrCfg_keep  (a : Sentence) (s : State) {k0 : Nat} {z0 : State} (hk : Nat.land 0x420000001b80 k0 = 0x420000001b80) (hz : Keep k0 z0 s) : Keep k0 z0 (procGetPwrCfg  a s) := by
  refine Keep.step ?_ hk hz
  unfold procGetPwrCfg
  refine process_keep _ _ _ _ _ _ 0x0 (fun u ws => ?_) rfl rfl rfl (Keep.refl _ _)
  repeat' first
    | exact getAct_keep ..

theorem execGetPwrCfg_keep (m : Sentence) (s : State) {t : State} (h : execGetPwrCfg m s = .next t) : Keep 0x420000001b80 s t := by
  unfold execGetPwrCfg at h
  injection h with h
  subst h
  repeat' first
    | with_reducible refine Keep.ite ?_ ?_
    | intro u hu
    | with_reducible apply submit_keep
    | with_reducible apply procGetPwrCfg_keep
    | with_reducible exact Keep.refl _ _
    | with_reducible assumption
    | exact rfl
    | exact id
    | exact Or.inl rfl
    | exact Or.inr rfl
    | exact Or.inr (List.prefix_refl _)
    | exact Or.inr fun _ => rfl
    | exact Or.inr ⟨rfl, rfl, rfl⟩
    | exact Or.inr fun _ => ⟨rfl, rfl, rfl⟩
    | exact Or.inr fun _ => ⟨rfl, rfl⟩
    | split
    | dsimp only

theorem procSetPwrCfg_keep  (a : Sentence) (s : State) {k0 : Nat} {z0 : State} (hk : Nat.land 0x420000011b80 k0 = 0x420000011b80) (hz : Keep k0 z0 s) : Keep k0 z0 (procSetPwrCfg  a s) := by
  refine Keep.step ?_ hk hz
  unfold procSetPwrCfg
  refine process_keep _ _ _ _ _ _ 0x10000 (fun u ws => ?_) rfl rfl rfl (Keep.refl _ _)
  repeat' first
    | with_reducible refine Keep.ite ?_ ?_
    | intro u hu
    | with_reducible apply setAct_keep
    | with_reducible exact Keep.refl _ _
    | with_reducible assumption
    | exact rfl
    | exact id
    | exact Or.inl rfl
    | exact Or.inr rfl
    | exact Or.inr (List.prefix_refl _)
    | exact Or.inr fun _ => rfl
    | exact Or.inr ⟨rfl, rfl, rfl⟩
    | exact Or.inr fun _ => ⟨rfl, rfl, rfl⟩
    | exact Or.inr fun _ => ⟨rfl, rfl⟩
    | split
    | dsimp only

theorem execSetPwrCfg_keep (m : Sentence) (s : State) {t : State} (h : execSetPwrCfg m s = .next t) : Keep 0x420000011b80 s t := by
  unfold execSetPwrCfg at h
  injection h with h
  subst h
  repeat' first
    | with_reducible refine Keep.ite ?_ ?_
    | intro u hu
    | with_reducible apply submit_keep
    | with_reducible apply procSetPwrCfg_keep
    | with_reducible exact Keep.refl _ _
    | with_reducible assumption
    | exact rfl
    | exact id
    | exact Or.inl rfl
    | exact Or.inr rfl
    | exact Or.inr (List.prefix_refl _)
    | exact Or.inr fun _ => rfl
    | exact Or.inr ⟨rfl, rfl, rfl⟩
    | exact Or.inr fun _ => ⟨rfl, rfl, rfl⟩
    | exact Or.inr fun _ => ⟨rfl, rfl⟩
    | split
    | dsimp only

theorem actPwrStatus_keep (s : State) (x_ : Sentence) (x1_ : List Word) {k0 : Nat} {z0 : State} (hk : Nat.land 0x2 k0 = 0x2) (hz : Keep k0 z0 s) : Keep k0 z0 (actPwrStatus s x_ x1_).1 := by
  refine Keep.step ?_ hk hz
  unfold actPwrStatus
  repeat' first
    | with_reducible refine Keep.ite ?_ ?_
    | intro u hu
    | with_reducible apply State.freeNext_keep
    | with_reducible exact Keep.refl _ _
    | with_reducible assumption
    | exact rfl
    | exact id
    | exact Or.inl rfl
    | exact Or.inr rfl
    | exact Or.inr (List.prefix_refl _)
    | exact Or.inr fun _ => rfl
    | exact Or.inr ⟨rfl, rfl, rfl⟩
    | exact Or.inr fun _ => ⟨rfl, rfl, rfl⟩
    | exact Or.inr fun _ => ⟨rfl, rfl⟩
    | split
    | dsimp only

theorem procGetPwrStatus_keep  (a : Sentence) (s : State) {k0 : Nat} {z0 : State} (hk : Nat.land 0x420000001b82 k0 = 0x420000001b82) (hz : Keep k0 z0 s) : Keep k0 z0 (procGetPwrStatus  a s) := by
  refine Keep.step ?_ hk hz
  unfold procGetPwrStatus
  refine process_keep _ _ _ _ _ _ 0x2 (fun u ws => ?_) rfl rfl rfl (Keep.refl _ _)
  repeat' first
    | with_reducible refine Keep.ite ?_ ?_
    | intro u hu
    | with_reducible apply actPwrStatus_keep
    | with_reducible exact Keep.refl _ _
    | with_reducible assumption
    | exact rfl
    | exact id
    | exact Or.inl rfl
    | exact Or.inr rfl
    | exact Or.inr (List.prefix_refl _)
    | exact Or.inr fun _ => rfl
    | exact Or.inr ⟨rfl, rfl, rfl⟩
    | exact Or.inr fun _ => ⟨rfl, rfl, rfl⟩
    | exact Or.inr fun _ => ⟨rfl, rfl⟩
    | split
    | dsimp only

theorem execGetPwrStatus_keep (m : Sentence) (s : State) {t : State} (h : execGetPwrStatus m s = .next t) : Keep 0x420000001b82 s t := by
  unfold execGetPwrStatus at h
  injection h with h
  subst h
  repeat' first
    | with_reducible refine Keep.ite ?_ ?_
    | intro u hu
    | with_reducible apply submit_keep
    | with_reducible apply procGetPwrStatus_keep
    | with_reducible exact Keep.refl _ _
    | with_reducible assumption
    | exact rfl
    | exact id
    | exact Or.inl rfl
    | exact Or.inr rfl
    | exact Or.inr (List.prefix_refl _)
    | exact Or.inr fun _ => rfl
    | exact Or.inr ⟨rfl, rfl, rfl⟩
    | exact Or.inr fun _ => ⟨rfl, rfl, rfl⟩
    | exact Or.inr fun _ => ⟨rfl, rfl⟩
    | split
    | dsimp only

theorem actClearPwr_keep (s : State) (x_ : Sentence) (x1_ : List Word) {k0 : Nat} {z0 : State} (hk : Nat.land 0xa0000005b08 k0 = 0xa0000005b08) (hz : Keep k0 z0 s) : Keep k0 z0 (actClearPwr s x_ x1_).1 := by
  refine Keep.step ?_ hk hz
  unfold actClearPwr
  repeat' first
    | with_reducible refine Keep.ite ?_ ?_
    | intro u hu
    | with_reducible apply State.modPwr_keep
    | with_reducible apply State.settle_keep
    | with_reducible exact Keep.refl _ _
    | with_reducible assumption
    | exact rfl
    | exact id
    | exact Or.inl rfl
    | exact Or.inr rfl
    | exact Or.inr (List.prefix_refl _)
    | exact Or.inr fun _ => rfl
    | exact Or.inr ⟨rfl, rfl, rfl⟩
    | exact Or.inr fun _ => ⟨rfl, rfl, rfl⟩
    | exact Or.inr fun _ => ⟨rfl, rfl⟩
    | split
    | dsimp only

theorem procClearPwrStatus_keep  (a : Sentence) (s : State) {k0 : Nat} {z0 : State} (hk : Nat.land 0x4a0000005b88 k0 = 0x4a0000005b88) (hz : Keep k0 z0 s) : Keep k0 z0 (procClearPwrStatus  a s) := by
  refine Keep.step ?_ hk hz
  unfold procClearPwrStatus
  refine process_keep _ _ _ _ _ _ 0xa0000005b08 (fun u ws => ?_) rfl rfl rfl (Keep.refl _ _)
  repeat' first
    | with_reducible refine Keep.ite ?_ ?_
    | intro u hu
    | with_reducible apply actClearPwr_keep
    | with_reducible exact Keep.refl _ _
    | with_reducible assumption
    | exact rfl
    | exact id
    | exact Or.inl rfl
    | exact Or.inr rfl
    | exact Or.inr (List.prefix_refl _)
    | exact Or.inr fun _ => rfl
    | exact Or.inr ⟨rfl, rfl, rfl⟩
    | exact Or.inr fun _ => ⟨rfl, rfl, rfl⟩
    | exact Or.inr fun _ => ⟨rfl, rfl⟩
    | split
    | dsimp only

theorem execClearPwrStatus_keep (m : Sentence) (s : State) {t : State} (h : execClearPwrStatus m s = .next t) : Keep 0x4a0000005b88 s t := by
  unfold execClearPwrStatus at h
  injection h with h
  subst h
  repeat' first
    | with_reducible refine Keep.ite ?_ ?_
    | intro u hu
    | with_reducible apply submit_keep
    | with_reducible apply procClearPwrStatus_keep
    | with_reducible exact Keep.refl _ _
    | with_reducible assumption
    | exact rfl
    | exact id
    | exact Or.inl rfl
    | exact Or.inr rfl
    | exact Or.inr (List.prefix_refl _)
    | exact Or.inr fun _ => rfl
    | exact Or.inr ⟨rfl, rfl, rfl⟩
    | exact Or.inr fun _ => ⟨rfl, rfl, rfl⟩
    | exact Or.inr fun _ => ⟨rfl, rfl⟩
    | split
    | dsimp only

theorem actPwrRail_keep (s : State) (m : Sentence) (x_ : List Word) {k0 : Nat} {z0 : State} (hk : Nat.land 0x2 k0 = 0x2) (hz : Keep k0 z0 s) : Keep k0 z0 (actPwrRail s m x_).1 := by
  refine Keep.step ?_ hk hz
  unfold actPwrRail
  repeat' first
    | with_reducible refine Keep.ite ?_ ?_
    | intro u hu
    | with_reducible apply State.freeSkip_keep
    | with_reducible exact Keep.refl _ _
    | with_reducible assumption
    | exact rfl
    | exact id
    | exact Or.inl rfl
    | exact Or.inr rfl
    | exact Or.inr (List.prefix_refl _)
    | exact Or.inr fun _ => rfl
    | exact Or.inr ⟨rfl, rfl, rfl⟩
    | exact Or.inr fun _ => ⟨rfl, rfl, rfl⟩
    | exact Or.inr fun _ => ⟨rfl, rfl⟩
    | split
    | dsimp only

theorem procGetPwrRail_keep  (a : Sentence) (s : State) {k0 : Nat} {z0 : State} (hk : Nat.land 0x420000001b82 k0 = 0x420000001b82) (hz : Keep k0 z0 s) : Keep k0 z0 (procGetPwrRail  a s) := by
  refine Keep.step ?_ hk hz
  unfold procGetPwrRail
  refine process_keep _ _ _ _ _ _ 0x2 (fun u ws => ?_) rfl rfl rfl (Keep.refl _ _)
  repeat' first
    | with_reducible refine Keep.ite ?_ ?_
    | intro u hu
    | with_reducible apply actPwrRail_keep
    | with_reducible exact Keep.refl _ _
    | with_reducible assumption
    | exact rfl
    | exact id
    | exact Or.inl rfl
    | exact Or.inr rfl
    | exact Or.inr (List.prefix_refl _)
    | exact Or.inr fun _ => rfl
    | exact Or.inr ⟨rfl, rfl, rfl⟩
    | exact Or.inr fun _ => ⟨rfl, rfl, rfl⟩
    | exact Or.inr fun _ => ⟨rfl, rfl⟩
    | split
    | dsimp only

theorem execGetPwrRail_keep (m : Sentence) (s : State) {t : State} (h : execGetPwrRail m s = .next t) : Keep 0x420000001b82 s t := by
  unfold execGetPwrRail at h
  injection h with h
  subst h
  repeat' first
    | with_reducible refine Keep.ite ?_ ?_
    | intro u hu
    | with_reducible apply submit_keep
    | with_reducible apply procGetPwrRail_keep
    | with_reducible exact Keep.refl _ _
    | with_reducible assumption
    | exact rfl
    | exact id
    | exact Or.inl rfl
    | exact Or.inr rfl
    | exact Or.inr (List.prefix_refl _)
    | exact Or.inr fun _ => rfl
    | exact Or.inr ⟨rfl, rfl, rfl⟩
    | exact Or.inr fun _ => ⟨rfl, rfl, rfl⟩
    | exact Or.inr fun _ => ⟨rfl, rfl⟩
    | split
    | dsimp only

theorem State.startUp_keep (s : State) {k0 : Nat} {z0 : State} (hk : Nat.land 0xbfeffffffff8 k0 = 0xbfeffffffff8) (hz : Keep k0 z0 s) : Keep k0 z0 (State.startUp s) := by
  refine Keep.step ?_ hk hz
  unfold State.startUp
  try simp -zeta only [State.fold_dev]
  repeat' first
    | with_reducible refine Keep.ite ?_ ?_
    | with_reducible apply State.powerLoss_keep
    | with_reducible apply State.modPwr_keep
    | with_reducible apply Keep.set_dev
    | with_reducible exact Keep.refl _ _
    | with_reducible assumption
    | exact rfl
    | exact id
    | exact Or.inl rfl
    | exact Or.inr rfl
    | exact Or.inr (List.prefix_refl _)
    | exact Or.inr fun _ => rfl
    | exact Or.inr ⟨rfl, rfl, rfl⟩
    | exact Or.inr fun _ => ⟨rfl, rfl, rfl⟩
    | exact Or.inr fun _ => ⟨rfl, rfl⟩
    | split
    | dsimp only

theorem execVinValid_keep (vin : Nat) (straps : BitVec 3) (s : State) {t : State} (h : execVinValid vin straps s = .next t) : Keep 0xbfeffffffff8 s t := by
  unfold execVinValid at h
  injection h with h
  subst h
  try simp -zeta only [State.fold_hif]
  repeat' first
    | with_reducible refine Keep.ite ?_ ?_
    | intro u hu
    | with_reducible apply State.modPwr_keep
    | with_reducible apply State.startUp_keep
    | with_reducible apply Keep.set_hif
    | with_reducible exact Keep.refl _ _
    | with_reducible assumption
    | exact rfl
    | exact id
    | exact Or.inl rfl
    | exact Or.inr rfl
    | exact Or.inr (List.prefix_refl _)
    | exact Or.inr fun _ => rfl
    | exact Or.inr ⟨rfl, rfl, rfl⟩
    | exact Or.inr fun _ => ⟨rfl, rfl, rfl⟩
    | exact Or.inr fun _ => ⟨rfl, rfl⟩
    | split
    | dsimp only

theorem execRailInRegulation_keep (s : State) {t : State} (h : execRailInRegulation s = .next t) : Keep 0x80000000000 s t := by
  unfold execRailInRegulation at h
  injection h with h
  subst h
  repeat' first
    | with_reducible refine Keep.ite ?_ ?_
    | intro u hu
    | with_reducible apply State.modPwr_keep
    | with_reducible exact Keep.refl _ _
    | with_reducible assumption
    | exact rfl
    | exact id
    | exact Or.inl rfl
    | exact Or.inr rfl
    | exact Or.inr (List.prefix_refl _)
    | exact Or.inr fun _ => rfl
    | exact Or.inr ⟨rfl, rfl, rfl⟩
    | exact Or.inr fun _ => ⟨rfl, rfl, rfl⟩
    | exact Or.inr fun _ => ⟨rfl, rfl⟩
    | split
    | dsimp only

theorem State.upStep_keep (s : State) (n : Nat) {k0 : Nat} {z0 : State} (hk : Nat.land 0x20 k0 = 0x20) (hz : Keep k0 z0 s) : Keep k0 z0 (State.upStep s n) := by
  refine Keep.step ?_ hk hz
  unfold State.upStep
  try simp -zeta only [State.fold_dev]
  repeat' first
    | with_reducible refine Keep.ite ?_ ?_
    | with_reducible apply Keep.set_dev
    | with_reducible exact Keep.refl _ _
    | with_reducible assumption
    | exact rfl
    | exact id
    | exact Or.inl rfl
    | exact Or.inr rfl
    | exact Or.inr (List.prefix_refl _)
    | exact Or.inr fun _ => rfl
    | exact Or.inr ⟨rfl, rfl, rfl⟩
    | exact Or.inr fun _ => ⟨rfl, rfl, rfl⟩
    | exact Or.inr fun _ => ⟨rfl, rfl⟩
    | split
    | dsimp only

theorem State.startFail_keep (s : State) (err : Nat) {k0 : Nat} {z0 : State} (hk : Nat.land 0x328 k0 = 0x328) (hz : Keep k0 z0 s) : Keep k0 z0 (State.startFail s err) := by
  refine Keep.step ?_ hk hz
  unfold State.startFail
  try simp -zeta only [State.fold_dev]
  repeat' first
    | with_reducible refine Keep.ite ?_ ?_
    | with_reducible apply State.setMode_keep
    | with_reducible apply Keep.set_dev
    | with_reducible exact Keep.refl _ _
    | with_reducible assumption
    | exact rfl
    | exact id
    | exact Or.inl rfl
    | exact Or.inr rfl
    | exact Or.inr (List.prefix_refl _)
    | exact Or.inr fun _ => rfl
    | exact Or.inr ⟨rfl, rfl, rfl⟩
    | exact Or.inr fun _ => ⟨rfl, rfl, rfl⟩
    | exact Or.inr fun _ => ⟨rfl, rfl⟩
    | split
    | dsimp only

theorem execPgoodReleaseTimer_keep (s : State) {t : State} (h : execPgoodReleaseTimer s = .next t) : Keep 0x80000000020 s t := by
  unfold execPgoodReleaseTimer at h
  injection h with h
  subst h
  repeat' first
    | with_reducible refine Keep.ite ?_ ?_
    | intro u hu
    | with_reducible apply State.modPwr_keep
    | with_reducible apply State.upStep_keep
    | with_reducible exact Keep.refl _ _
    | with_reducible assumption
    | exact rfl
    | exact id
    | exact Or.inl rfl
    | exact Or.inr rfl
    | exact Or.inr (List.prefix_refl _)
    | exact Or.inr fun _ => rfl
    | exact Or.inr ⟨rfl, rfl, rfl⟩
    | exact Or.inr fun _ => ⟨rfl, rfl, rfl⟩
    | exact Or.inr fun _ => ⟨rfl, rfl⟩
    | split
    | dsimp only

theorem execFuseMapLoaded_keep (ok : Bool) (s : State) {t : State} (h : execFuseMapLoaded ok s = .next t) : Keep 0x20000005b28 s t := by
  unfold execFuseMapLoaded at h
  injection h with h
  subst h
  repeat' first
    | with_reducible refine Keep.ite ?_ ?_
    | intro u hu
    | with_reducible apply State.upStep_keep
    | with_reducible apply State.startFail_keep
    | with_reducible apply State.settle_keep
    | with_reducible exact Keep.refl _ _
    | with_reducible assumption
    | exact rfl
    | exact id
    | exact Or.inl rfl
    | exact Or.inr rfl
    | exact Or.inr (List.prefix_refl _)
    | exact Or.inr fun _ => rfl
    | exact Or.inr ⟨rfl, rfl, rfl⟩
    | exact Or.inr fun _ => ⟨rfl, rfl, rfl⟩
    | exact Or.inr fun _ => ⟨rfl, rfl⟩
    | split
    | dsimp only

theorem State.fold_dev_mem (t : State) (dev' : type_of% t.dev) (mem' : type_of% t.mem) :
    State.mk t.pending t.free t.fuses dev' t.shut t.mb t.ev t.icu t.hif t.err t.tku t.params t.stats t.line t.host t.group t.port t.block t.eng t.hinge t.lex mem' t.rep t.ocu t.cal t.thm t.tst t.pmc t.pwr t.fw t.cap = ((t.withDev dev').withMem mem') := rfl

theorem execMemoryFillDone_keep (ok : Bool) (s : State) {t : State} (h : execMemoryFillDone ok s = .next t) : Keep 0x20c00005b28 s t := by
  unfold execMemoryFillDone at h
  injection h with h
  subst h
  try simp -zeta only [State.fold_dev_mem, State.fold_dev, State.fold_mem]
  repeat' first
    | exact fun _ => rfl
    | with_reducible refine Keep.ite ?_ ?_
    | intro u hu
    | with_reducible apply State.upStep_keep
    | with_reducible apply State.startFail_keep
    | with_reducible apply State.settle_keep
    | with_reducible apply Keep.set_dev
    | with_reducible apply Keep.set_mem
    | with_reducible exact Keep.refl _ _
    | with_reducible assumption
    | exact rfl
    | exact id
    | exact Or.inl rfl
    | exact Or.inr rfl
    | exact Or.inr (List.prefix_refl _)
    | exact Or.inr fun _ => rfl
    | exact Or.inr ⟨rfl, rfl, rfl⟩
    | exact Or.inr fun _ => ⟨rfl, rfl, rfl⟩
    | exact Or.inr fun _ => ⟨rfl, rfl⟩
    | split
    | dsimp only

theorem State.arrangeCells_keep (s : State) (l : Nat) {k0 : Nat} {z0 : State} (hk : Nat.land 0x800000 k0 = 0x800000) (hz : Keep k0 z0 s) : Keep k0 z0 (State.arrangeCells s l) := by
  refine Keep.step ?_ hk hz
  unfold State.arrangeCells
  repeat' first
    | with_reducible refine Keep.ite ?_ ?_
    | with_reducible refine Keep.foldl _ ?_ ?_
    | intro u x hu
    | intro u hu
    | with_reducible apply Keep.modLtx
    | with_reducible apply Keep.modCell
    | with_reducible exact Keep.refl _ _
    | with_reducible assumption
    | exact rfl
    | exact id
    | exact Or.inl rfl
    | exact Or.inr rfl
    | exact Or.inr (List.prefix_refl _)
    | exact Or.inr fun _ => rfl
    | exact Or.inr ⟨rfl, rfl, rfl⟩
    | exact Or.inr fun _ => ⟨rfl, rfl, rfl⟩
    | exact Or.inr fun _ => ⟨rfl, rfl⟩
    | split
    | dsimp only

theorem State.retireBank_keep (s : State) (b : Nat) {k0 : Nat} {z0 : State} (hk : Nat.land 0x200000000 k0 = 0x200000000) (hz : Keep k0 z0 s) : Keep k0 z0 (State.retireBank s b) := by
  refine Keep.step ?_ hk hz
  unfold State.retireBank
  repeat' first
    | with_reducible refine Keep.ite ?_ ?_
    | with_reducible apply Keep.modBank
    | with_reducible exact Keep.refl _ _
    | with_reducible assumption
    | exact rfl
    | exact id
    | exact Or.inl rfl
    | exact Or.inr rfl
    | exact Or.inr (List.prefix_refl _)
    | exact Or.inr fun _ => rfl
    | exact Or.inr ⟨rfl, rfl, rfl⟩
    | exact Or.inr fun _ => ⟨rfl, rfl, rfl⟩
    | exact Or.inr fun _ => ⟨rfl, rfl⟩
    | split
    | dsimp only

theorem State.retireCore_keep (s : State) (c : Nat) {k0 : Nat} {z0 : State} (hk : Nat.land 0x2000000000 k0 = 0x2000000000) (hz : Keep k0 z0 s) : Keep k0 z0 (State.retireCore s c) := by
  refine Keep.step ?_ hk hz
  unfold State.retireCore
  try simp -zeta only [State.fold_ocu]
  repeat' first
    | with_reducible refine Keep.ite ?_ ?_
    | with_reducible apply Keep.modAx
    | with_reducible apply Keep.set_ocu
    | with_reducible exact Keep.refl _ _
    | with_reducible assumption
    | exact rfl
    | exact id
    | exact Or.inl rfl
    | exact Or.inr rfl
    | exact Or.inr (List.prefix_refl _)
    | exact Or.inr fun _ => rfl
    | exact Or.inr ⟨rfl, rfl, rfl⟩
    | exact Or.inr fun _ => ⟨rfl, rfl, rfl⟩
    | exact Or.inr fun _ => ⟨rfl, rfl⟩
    | split
    | dsimp only

theorem State.applyEntry_keep (s : State) (e : RepairEntry) {k0 : Nat} {z0 : State} (hk : Nat.land 0x12a80948300 k0 = 0x12a80948300) (hz : Keep k0 z0 s) : Keep k0 z0 (State.applyEntry s e) := by
  refine Keep.step ?_ hk hz
  unfold State.applyEntry
  repeat' first
    | with_reducible refine Keep.ite ?_ ?_
    | with_reducible refine Keep.foldl _ ?_ ?_
    | intro u x hu
    | intro u hu
    | with_reducible apply State.retireBank_keep
    | with_reducible apply State.retireCore_keep
    | with_reducible apply State.relYield_keep
    | with_reducible apply Keep.modSlice
    | with_reducible apply Keep.modEng
    | with_reducible apply Keep.modRegion
    | with_reducible apply Keep.modCell
    | with_reducible apply Keep.modResid
    | with_reducible apply Keep.modLine
    | with_reducible exact Keep.refl _ _
    | with_reducible assumption
    | exact rfl
    | exact id
    | exact Or.inl rfl
    | exact Or.inr rfl
    | exact Or.inr (List.prefix_refl _)
    | exact Or.inr fun _ => rfl
    | exact Or.inr ⟨rfl, rfl, rfl⟩
    | exact Or.inr fun _ => ⟨rfl, rfl, rfl⟩
    | exact Or.inr fun _ => ⟨rfl, rfl⟩
    | split
    | dsimp only

theorem State.applyRecord_keep (s : State) {k0 : Nat} {z0 : State} (hk : Nat.land 0x12a80948300 k0 = 0x12a80948300) (hz : Keep k0 z0 s) : Keep k0 z0 (State.applyRecord s) := by
  refine Keep.step ?_ hk hz
  unfold State.applyRecord
  repeat' first
    | with_reducible refine Keep.ite ?_ ?_
    | with_reducible refine Keep.foldl _ ?_ ?_
    | intro u x hu
    | intro u hu
    | with_reducible apply State.arrange_keep
    | with_reducible apply State.arrangeCells_keep
    | with_reducible apply State.applyEntry_keep
    | with_reducible exact Keep.refl _ _
    | with_reducible assumption
    | exact rfl
    | exact id
    | exact Or.inl rfl
    | exact Or.inr rfl
    | exact Or.inr (List.prefix_refl _)
    | exact Or.inr fun _ => rfl
    | exact Or.inr ⟨rfl, rfl, rfl⟩
    | exact Or.inr fun _ => ⟨rfl, rfl, rfl⟩
    | exact Or.inr fun _ => ⟨rfl, rfl⟩
    | split
    | dsimp only

theorem State.fold_dev_rep (t : State) (dev' : type_of% t.dev) (rep' : type_of% t.rep) :
    State.mk t.pending t.free t.fuses dev' t.shut t.mb t.ev t.icu t.hif t.err t.tku t.params t.stats t.line t.host t.group t.port t.block t.eng t.hinge t.lex t.mem rep' t.ocu t.cal t.thm t.tst t.pmc t.pwr t.fw t.cap = ((t.withDev dev').withRep rep') := rfl

theorem State.ignoreRecord_keep (s : State) {k0 : Nat} {z0 : State} (hk : Nat.land 0x1000000020 k0 = 0x1000000020) (hz : Keep k0 z0 s) : Keep k0 z0 (State.ignoreRecord s) := by
  refine Keep.step ?_ hk hz
  unfold State.ignoreRecord
  try simp -zeta only [State.fold_dev_rep, State.fold_dev, State.fold_rep]
  repeat' first
    | exact fun _ => Nat.zero_le _
    | with_reducible refine Keep.ite ?_ ?_
    | with_reducible apply Keep.set_dev
    | with_reducible apply Keep.set_rep
    | with_reducible exact Keep.refl _ _
    | with_reducible assumption
    | exact rfl
    | exact id
    | exact Or.inl rfl
    | exact Or.inr rfl
    | exact Or.inr (List.prefix_refl _)
    | exact Or.inr fun _ => rfl
    | exact Or.inr ⟨rfl, rfl, rfl⟩
    | exact Or.inr fun _ => ⟨rfl, rfl, rfl⟩
    | exact Or.inr fun _ => ⟨rfl, rfl⟩
    | split
    | dsimp only

theorem execRepairRecordApplied_keep (valid : Bool) (s : State) {t : State} (h : execRepairRecordApplied valid s = .next t) : Keep 0x33a9b94db28 s t := by
  unfold execRepairRecordApplied at h
  injection h with h
  subst h
  try simp -zeta only [State.fold_dev_rep, State.fold_dev, State.fold_rep]
  repeat' first
    | with_reducible refine Keep.ite ?_ ?_
    | intro u hu
    | with_reducible apply State.applyRecord_keep
    | with_reducible apply State.ignoreRecord_keep
    | with_reducible apply State.upStep_keep
    | with_reducible apply State.sync_keep
    | with_reducible apply Keep.set_dev
    | with_reducible apply Keep.set_rep
    | with_reducible exact Keep.refl _ _
    | with_reducible assumption
    | exact rfl
    | exact id
    | exact Or.inl rfl
    | exact Or.inr rfl
    | exact Or.inr (List.prefix_refl _)
    | exact Or.inr fun _ => rfl
    | exact Or.inr ⟨rfl, rfl, rfl⟩
    | exact Or.inr fun _ => ⟨rfl, rfl, rfl⟩
    | exact Or.inr fun _ => ⟨rfl, rfl⟩
    | split
    | dsimp only

theorem execEnFall_keep (s : State) {t : State} (h : execEnFall s = .next t) : Keep 0xbfeffffffff8 s t := by
  unfold execEnFall at h
  injection h with h
  subst h
  try simp -zeta only [State.fold_thm]
  repeat' first
    | with_reducible refine Keep.ite ?_ ?_
    | intro u hu
    | with_reducible apply State.modPwr_keep
    | with_reducible apply State.powerLoss_keep
    | with_reducible apply Keep.set_thm
    | with_reducible exact Keep.refl _ _
    | with_reducible assumption
    | exact rfl
    | exact id
    | exact Or.inl rfl
    | exact Or.inr rfl
    | exact Or.inr (List.prefix_refl _)
    | exact Or.inr fun _ => rfl
    | exact Or.inr ⟨rfl, rfl, rfl⟩
    | exact Or.inr fun _ => ⟨rfl, rfl, rfl⟩
    | exact Or.inr fun _ => ⟨rfl, rfl⟩
    | split
    | dsimp only

theorem execEnRise_keep (s : State) {t : State} (h : execEnRise s = .next t) : Keep 0xbfeffffffff8 s t := by
  unfold execEnRise at h
  injection h with h
  subst h
  repeat' first
    | with_reducible refine Keep.ite ?_ ?_
    | intro u hu
    | with_reducible apply State.modPwr_keep
    | with_reducible apply State.startUp_keep
    | with_reducible exact Keep.refl _ _
    | with_reducible assumption
    | exact rfl
    | exact id
    | exact Or.inl rfl
    | exact Or.inr rfl
    | exact Or.inr (List.prefix_refl _)
    | exact Or.inr fun _ => rfl
    | exact Or.inr ⟨rfl, rfl, rfl⟩
    | exact Or.inr fun _ => ⟨rfl, rfl, rfl⟩
    | exact Or.inr fun _ => ⟨rfl, rfl⟩
    | split
    | dsimp only

theorem execSysRstNAct_keep (s : State) {t : State} (h : execSysRstNAct s = .next t) : Keep 0xbfeffffffff8 s t := by
  unfold execSysRstNAct at h
  injection h with h
  subst h
  repeat' first
    | with_reducible refine Keep.ite ?_ ?_
    | intro u hu
    | with_reducible apply State.modPwr_keep
    | with_reducible apply State.powerLoss_keep
    | with_reducible exact Keep.refl _ _
    | with_reducible assumption
    | exact rfl
    | exact id
    | exact Or.inl rfl
    | exact Or.inr rfl
    | exact Or.inr (List.prefix_refl _)
    | exact Or.inr fun _ => rfl
    | exact Or.inr ⟨rfl, rfl, rfl⟩
    | exact Or.inr fun _ => ⟨rfl, rfl, rfl⟩
    | exact Or.inr fun _ => ⟨rfl, rfl⟩
    | split
    | dsimp only

theorem execSysRstNRelease_keep (s : State) {t : State} (h : execSysRstNRelease s = .next t) : Keep 0xbfeffffffff8 s t := by
  unfold execSysRstNRelease at h
  injection h with h
  subst h
  repeat' first
    | with_reducible refine Keep.ite ?_ ?_
    | intro u hu
    | with_reducible apply State.modPwr_keep
    | with_reducible apply State.startUp_keep
    | with_reducible exact Keep.refl _ _
    | with_reducible assumption
    | exact rfl
    | exact id
    | exact Or.inl rfl
    | exact Or.inr rfl
    | exact Or.inr (List.prefix_refl _)
    | exact Or.inr fun _ => rfl
    | exact Or.inr ⟨rfl, rfl, rfl⟩
    | exact Or.inr fun _ => ⟨rfl, rfl, rfl⟩
    | exact Or.inr fun _ => ⟨rfl, rfl⟩
    | split
    | dsimp only

theorem execBackstopTrip_keep (s : State) {t : State} (h : execBackstopTrip s = .next t) : Keep 0xbfeffffffff8 s t := by
  unfold execBackstopTrip at h
  injection h with h
  subst h
  try simp -zeta only [State.fold_thm]
  repeat' first
    | with_reducible refine Keep.ite ?_ ?_
    | intro u hu
    | with_reducible apply State.powerLoss_keep
    | with_reducible apply Keep.set_thm
    | with_reducible exact Keep.refl _ _
    | with_reducible assumption
    | exact rfl
    | exact id
    | exact Or.inl rfl
    | exact Or.inr rfl
    | exact Or.inr (List.prefix_refl _)
    | exact Or.inr fun _ => rfl
    | exact Or.inr ⟨rfl, rfl, rfl⟩
    | exact Or.inr fun _ => ⟨rfl, rfl, rfl⟩
    | exact Or.inr fun _ => ⟨rfl, rfl⟩
    | split
    | dsimp only

theorem execDatapathPowered_keep (rates : List Nat) (s : State) {t : State} (h : execDatapathPowered rates s = .next t) : Keep 0xb63bffe5baa s t := by
  unfold execDatapathPowered at h
  injection h with h
  subst h
  try simp -zeta only [State.fold_dev]
  repeat' first
    | with_reducible refine Keep.ite ?_ ?_
    | with_reducible refine Keep.foldl _ ?_ ?_
    | intro u x hu
    | intro u hu
    | with_reducible apply State.modPwr_keep
    | with_reducible apply State.startHinge_keep
    | with_reducible apply State.startLanes_keep
    | with_reducible apply State.checkSlices_keep
    | with_reducible apply State.replanHeld_keep
    | with_reducible apply State.endEnter_keep
    | with_reducible apply State.follow_keep
    | with_reducible apply Keep.set_dev
    | with_reducible exact Keep.refl _ _
    | with_reducible assumption
    | exact rfl
    | exact id
    | exact Or.inl rfl
    | exact Or.inr rfl
    | exact Or.inr (List.prefix_refl _)
    | exact Or.inr fun _ => rfl
    | exact Or.inr ⟨rfl, rfl, rfl⟩
    | exact Or.inr fun _ => ⟨rfl, rfl, rfl⟩
    | exact Or.inr fun _ => ⟨rfl, rfl⟩
    | split
    | dsimp only

theorem State.modTst_keep (s : State) (f : Tst → Tst) {k0 : Nat} {z0 : State} (hk : Nat.land 0x10000000000 k0 = 0x10000000000) (hz : Keep k0 z0 s) : Keep k0 z0 (State.modTst s f) := by
  refine Keep.step ?_ hk hz
  unfold State.modTst
  try simp -zeta only [State.fold_tst]
  repeat' first
    | with_reducible refine Keep.ite ?_ ?_
    | with_reducible apply Keep.set_tst
    | with_reducible exact Keep.refl _ _
    | with_reducible assumption
    | exact rfl
    | exact id
    | exact Or.inl rfl
    | exact Or.inr rfl
    | exact Or.inr (List.prefix_refl _)
    | exact Or.inr fun _ => rfl
    | exact Or.inr ⟨rfl, rfl, rfl⟩
    | exact Or.inr fun _ => ⟨rfl, rfl, rfl⟩
    | exact Or.inr fun _ => ⟨rfl, rfl⟩
    | split
    | dsimp only

theorem State.addHistory_keep (s : State) (r : Report) {k0 : Nat} {z0 : State} (hk : Nat.land 0x10000000000 k0 = 0x10000000000) (hz : Keep k0 z0 s) : Keep k0 z0 (State.addHistory s r) := by
  refine Keep.step ?_ hk hz
  unfold State.addHistory
  repeat' first
    | with_reducible refine Keep.ite ?_ ?_
    | with_reducible apply State.modTst_keep
    | with_reducible exact Keep.refl _ _
    | with_reducible assumption
    | exact rfl
    | exact id
    | exact Or.inl rfl
    | exact Or.inr rfl
    | exact Or.inr (List.prefix_refl _)
    | exact Or.inr fun _ => rfl
    | exact Or.inr ⟨rfl, rfl, rfl⟩
    | exact Or.inr fun _ => ⟨rfl, rfl, rfl⟩
    | exact Or.inr fun _ => ⟨rfl, rfl⟩
    | split
    | dsimp only

theorem State.returnElem_keep (s : State) (r : Report) {k0 : Nat} {z0 : State} (hk : Nat.land 0x36380b29b82 k0 = 0x36380b29b82) (hz : Keep k0 z0 s) : Keep k0 z0 (State.returnElem s r) := by
  refine Keep.step ?_ hk hz
  unfold State.returnElem
  repeat' first
    | with_reducible refine Keep.ite ?_ ?_
    | with_reducible apply State.reserve_keep
    | with_reducible apply State.replanHeld_keep
    | with_reducible apply State.relYieldEnd_keep
    | with_reducible apply Keep.modSlice
    | with_reducible apply Keep.modEng
    | with_reducible apply Keep.modBank
    | with_reducible apply Keep.modCell
    | with_reducible apply Keep.modAx
    | with_reducible apply Keep.modCal
    | with_reducible apply Keep.modResid
    | with_reducible exact Keep.refl _ _
    | with_reducible assumption
    | exact rfl
    | exact id
    | exact Or.inl rfl
    | exact Or.inr rfl
    | exact Or.inr (List.prefix_refl _)
    | exact Or.inr fun _ => rfl
    | exact Or.inr ⟨rfl, rfl, rfl⟩
    | exact Or.inr fun _ => ⟨rfl, rfl, rfl⟩
    | exact Or.inr fun _ => ⟨rfl, rfl⟩
    | split
    | dsimp only

theorem State.stageDown_keep (s : State) (l : Nat) {k0 : Nat} {z0 : State} (hk : Nat.land 0x2c1e0300 k0 = 0x2c1e0300) (hz : Keep k0 z0 s) : Keep k0 z0 (State.stageDown s l) := by
  refine Keep.step ?_ hk hz
  unfold State.stageDown
  repeat' first
    | with_reducible refine Keep.ite ?_ ?_
    | with_reducible apply State.lineFault_keep
    | with_reducible apply Keep.modLine
    | with_reducible exact Keep.refl _ _
    | with_reducible assumption
    | exact rfl
    | exact id
    | exact Or.inl rfl
    | exact Or.inr rfl
    | exact Or.inr (List.prefix_refl _)
    | exact Or.inr fun _ => rfl
    | exact Or.inr ⟨rfl, rfl, rfl⟩
    | exact Or.inr fun _ => ⟨rfl, rfl, rfl⟩
    | exact Or.inr fun _ => ⟨rfl, rfl⟩
    | split
    | dsimp only

theorem State.retireElem_keep (s : State) (r : Report) {k0 : Nat} {z0 : State} (hk : Nat.land 0x323acbe1b82 k0 = 0x323acbe1b82) (hz : Keep k0 z0 s) : Keep k0 z0 (State.retireElem s r) := by
  refine Keep.step ?_ hk hz
  unfold State.retireElem
  try simp -zeta only [State.fold_ocu]
  repeat' first
    | with_reducible refine Keep.ite ?_ ?_
    | with_reducible refine Keep.foldl _ ?_ ?_
    | intro u x hu
    | intro u hu
    | with_reducible apply State.raise_keep
    | with_reducible apply State.replanHeld_keep
    | with_reducible apply State.stageDown_keep
    | with_reducible apply Keep.modSlice
    | with_reducible apply Keep.modEng
    | with_reducible apply Keep.modBank
    | with_reducible apply Keep.modCell
    | with_reducible apply Keep.modAx
    | with_reducible apply Keep.set_ocu
    | with_reducible exact Keep.refl _ _
    | with_reducible assumption
    | exact rfl
    | exact id
    | exact Or.inl rfl
    | exact Or.inr rfl
    | exact Or.inr (List.prefix_refl _)
    | exact Or.inr fun _ => rfl
    | exact Or.inr ⟨rfl, rfl, rfl⟩
    | exact Or.inr fun _ => ⟨rfl, rfl, rfl⟩
    | exact Or.inr fun _ => ⟨rfl, rfl⟩
    | split
    | dsimp only

theorem State.verdict_keep (s : State) (r : Report) (lasting : Bool) (runs : Nat) (untested : Bool) {k0 : Nat} {z0 : State} (hk : Nat.land 0x373bfbedb8a k0 = 0x373bfbedb8a) (hz : Keep k0 z0 s) : Keep k0 z0 (State.verdict s r lasting runs untested) := by
  refine Keep.step ?_ hk hz
  unfold State.verdict
  repeat' first
    | with_reducible refine Keep.ite ?_ ?_
    | with_reducible apply State.modTst_keep
    | with_reducible apply State.raise_keep
    | with_reducible apply State.retireElem_keep
    | with_reducible apply State.repair_keep
    | with_reducible apply State.addHistory_keep
    | with_reducible apply State.returnElem_keep
    | with_reducible apply State.startTests_keep
    | with_reducible apply State.follow_keep
    | with_reducible exact Keep.refl _ _
    | with_reducible assumption
    | exact rfl
    | exact id
    | exact Or.inl rfl
    | exact Or.inr rfl
    | exact Or.inr (List.prefix_refl _)
    | exact Or.inr fun _ => rfl
    | exact Or.inr ⟨rfl, rfl, rfl⟩
    | exact Or.inr fun _ => ⟨rfl, rfl, rfl⟩
    | exact Or.inr fun _ => ⟨rfl, rfl⟩
    | split
    | dsimp only

theorem execTargetedTestDone_keep (kind : ElemKind) (pass : Bool) (s : State) {t : State} (h : execTargetedTestDone kind pass s = .next t) : Keep 0x373bfbedb8a s t := by
  unfold execTargetedTestDone at h
  injection h with h
  subst h
  repeat' first
    | with_reducible refine Keep.ite ?_ ?_
    | intro u hu
    | with_reducible apply State.modTst_keep
    | with_reducible apply State.verdict_keep
    | with_reducible exact Keep.refl _ _
    | with_reducible assumption
    | exact rfl
    | exact id
    | exact Or.inl rfl
    | exact Or.inr rfl
    | exact Or.inr (List.prefix_refl _)
    | exact Or.inr fun _ => rfl
    | exact Or.inr ⟨rfl, rfl, rfl⟩
    | exact Or.inr fun _ => ⟨rfl, rfl, rfl⟩
    | exact Or.inr fun _ => ⟨rfl, rfl⟩
    | split
    | dsimp only

theorem State.swapEngine_keep (s : State) (e k : Nat) {k0 : Nat} {z0 : State} (hk : Nat.land 0x180000000 k0 = 0x180000000) (hz : Keep k0 z0 s) : Keep k0 z0 (State.swapEngine s e k) := by
  refine Keep.step ?_ hk hz
  unfold State.swapEngine
  try simp -zeta only [State.fold_hinge]
  repeat' first
    | with_reducible refine Keep.ite ?_ ?_
    | with_reducible apply Keep.modEng
    | with_reducible apply Keep.set_hinge
    | with_reducible exact Keep.refl _ _
    | with_reducible assumption
    | exact rfl
    | exact id
    | exact Or.inl rfl
    | exact Or.inr rfl
    | exact Or.inr (List.prefix_refl _)
    | exact Or.inr fun _ => rfl
    | exact Or.inr ⟨rfl, rfl, rfl⟩
    | exact Or.inr fun _ => ⟨rfl, rfl, rfl⟩
    | exact Or.inr fun _ => ⟨rfl, rfl⟩
    | split
    | dsimp only

theorem State.startEngineSlice_keep (s : State) (e : Nat) {k0 : Nat} {z0 : State} (hk : Nat.land 0x10180000000 k0 = 0x10180000000) (hz : Keep k0 z0 s) : Keep k0 z0 (State.startEngineSlice s e) := by
  refine Keep.step ?_ hk hz
  unfold State.startEngineSlice
  repeat' first
    | with_reducible refine Keep.ite ?_ ?_
    | with_reducible apply State.modTst_keep
    | with_reducible apply State.swapEngine_keep
    | with_reducible apply Keep.modEng
    | with_reducible exact Keep.refl _ _
    | with_reducible assumption
    | exact rfl
    | exact id
    | exact Or.inl rfl
    | exact Or.inr rfl
    | exact Or.inr (List.prefix_refl _)
    | exact Or.inr fun _ => rfl
    | exact Or.inr ⟨rfl, rfl, rfl⟩
    | exact Or.inr fun _ => ⟨rfl, rfl, rfl⟩
    | exact Or.inr fun _ => ⟨rfl, rfl⟩
    | split
    | dsimp only

theorem State.startBankSlice_keep (s : State) (b : Nat) {k0 : Nat} {z0 : State} (hk : Nat.land 0x10200000000 k0 = 0x10200000000) (hz : Keep k0 z0 s) : Keep k0 z0 (State.startBankSlice s b) := by
  refine Keep.step ?_ hk hz
  unfold State.startBankSlice
  repeat' first
    | with_reducible refine Keep.ite ?_ ?_
    | with_reducible apply State.modTst_keep
    | with_reducible apply Keep.modBank
    | with_reducible exact Keep.refl _ _
    | with_reducible assumption
    | exact rfl
    | exact id
    | exact Or.inl rfl
    | exact Or.inr rfl
    | exact Or.inr (List.prefix_refl _)
    | exact Or.inr fun _ => rfl
    | exact Or.inr ⟨rfl, rfl, rfl⟩
    | exact Or.inr fun _ => ⟨rfl, rfl, rfl⟩
    | exact Or.inr fun _ => ⟨rfl, rfl⟩
    | split
    | dsimp only

theorem execTestSliceStart_keep (b : SliceBlock) (s : State) {t : State} (h : execTestSliceStart b s = .next t) : Keep 0x30380005b08 s t := by
  unfold execTestSliceStart at h
  injection h with h
  subst h
  repeat' first
    | with_reducible refine Keep.ite ?_ ?_
    | intro u hu
    | with_reducible apply State.startEngineSlice_keep
    | with_reducible apply State.settle_keep
    | with_reducible apply State.startBankSlice_keep
    | with_reducible exact Keep.refl _ _
    | with_reducible assumption
    | exact rfl
    | exact id
    | exact Or.inl rfl
    | exact Or.inr rfl
    | exact Or.inr (List.prefix_refl _)
    | exact Or.inr fun _ => rfl
    | exact Or.inr ⟨rfl, rfl, rfl⟩
    | exact Or.inr fun _ => ⟨rfl, rfl, rfl⟩
    | exact Or.inr fun _ => ⟨rfl, rfl⟩
    | split
    | dsimp only

theorem State.slicePass_keep (s : State) (b : SliceBlock) {k0 : Nat} {z0 : State} (hk : Nat.land 0x30280201b82 k0 = 0x30280201b82) (hz : Keep k0 z0 s) : Keep k0 z0 (State.slicePass s b) := by
  refine Keep.step ?_ hk hz
  unfold State.slicePass
  repeat' first
    | with_reducible refine Keep.ite ?_ ?_
    | with_reducible apply State.modTst_keep
    | with_reducible apply State.relYieldEnd_keep
    | with_reducible apply State.reserve_keep
    | with_reducible apply State.startRaises_keep
    | with_reducible apply Keep.modEng
    | with_reducible apply Keep.modBank
    | with_reducible exact Keep.refl _ _
    | with_reducible assumption
    | exact rfl
    | exact id
    | exact Or.inl rfl
    | exact Or.inr rfl
    | exact Or.inr (List.prefix_refl _)
    | exact Or.inr fun _ => rfl
    | exact Or.inr ⟨rfl, rfl, rfl⟩
    | exact Or.inr fun _ => ⟨rfl, rfl, rfl⟩
    | exact Or.inr fun _ => ⟨rfl, rfl⟩
    | split
    | dsimp only

theorem State.sliceFail_keep (s : State) (b : SliceBlock) {k0 : Nat} {z0 : State} (hk : Nat.land 0x10280000000 k0 = 0x10280000000) (hz : Keep k0 z0 s) : Keep k0 z0 (State.sliceFail s b) := by
  refine Keep.step ?_ hk hz
  unfold State.sliceFail
  repeat' first
    | with_reducible refine Keep.ite ?_ ?_
    | with_reducible apply State.isolate_keep
    | with_reducible apply State.report_keep
    | with_reducible apply Keep.modBank
    | with_reducible exact Keep.refl _ _
    | with_reducible assumption
    | exact rfl
    | exact id
    | exact Or.inl rfl
    | exact Or.inr rfl
    | exact Or.inr (List.prefix_refl _)
    | exact Or.inr fun _ => rfl
    | exact Or.inr ⟨rfl, rfl, rfl⟩
    | exact Or.inr fun _ => ⟨rfl, rfl, rfl⟩
    | exact Or.inr fun _ => ⟨rfl, rfl⟩
    | split
    | dsimp only

theorem execSliceTestDone_keep (b : SliceBlock) (pass : Bool) (s : State) {t : State} (h : execSliceTestDone b pass s = .next t) : Keep 0x3629bb05b8a s t := by
  unfold execSliceTestDone at h
  injection h with h
  subst h
  repeat' first
    | with_reducible refine Keep.ite ?_ ?_
    | intro u hu
    | with_reducible apply State.modTst_keep
    | with_reducible apply State.slicePass_keep
    | with_reducible apply State.sliceFail_keep
    | with_reducible apply State.follow_keep
    | with_reducible exact Keep.refl _ _
    | with_reducible assumption
    | exact rfl
    | exact id
    | exact Or.inl rfl
    | exact Or.inr rfl
    | exact Or.inr (List.prefix_refl _)
    | exact Or.inr fun _ => rfl
    | exact Or.inr ⟨rfl, rfl, rfl⟩
    | exact Or.inr fun _ => ⟨rfl, rfl, rfl⟩
    | exact Or.inr fun _ => ⟨rfl, rfl⟩
    | split
    | dsimp only

theorem execCoverageTimer_keep (b : SliceBlock) (s : State) {t : State} (h : execCoverageTimer b s = .next t) : Keep 0x10000000300 s t := by
  unfold execCoverageTimer at h
  injection h with h
  subst h
  repeat' first
    | with_reducible refine Keep.ite ?_ ?_
    | intro u hu
    | with_reducible apply State.raise_keep
    | with_reducible apply State.relYield_keep
    | with_reducible exact Keep.refl _ _
    | with_reducible assumption
    | exact rfl
    | exact id
    | exact Or.inl rfl
    | exact Or.inr rfl
    | exact Or.inr (List.prefix_refl _)
    | exact Or.inr fun _ => rfl
    | exact Or.inr ⟨rfl, rfl, rfl⟩
    | exact Or.inr fun _ => ⟨rfl, rfl, rfl⟩
    | exact Or.inr fun _ => ⟨rfl, rfl⟩
    | split
    | dsimp only

theorem procGetTstCfg_keep  (a : Sentence) (s : State) {k0 : Nat} {z0 : State} (hk : Nat.land 0x420000001b80 k0 = 0x420000001b80) (hz : Keep k0 z0 s) : Keep k0 z0 (procGetTstCfg  a s) := by
  refine Keep.step ?_ hk hz
  unfold procGetTstCfg
  refine process_keep _ _ _ _ _ _ 0x0 (fun u ws => ?_) rfl rfl rfl (Keep.refl _ _)
  repeat' first
    | exact getAct_keep ..

theorem execGetTstCfg_keep (m : Sentence) (s : State) {t : State} (h : execGetTstCfg m s = .next t) : Keep 0x420000001b80 s t := by
  unfold execGetTstCfg at h
  injection h with h
  subst h
  repeat' first
    | with_reducible refine Keep.ite ?_ ?_
    | intro u hu
    | with_reducible apply submit_keep
    | with_reducible apply procGetTstCfg_keep
    | with_reducible exact Keep.refl _ _
    | with_reducible assumption
    | exact rfl
    | exact id
    | exact Or.inl rfl
    | exact Or.inr rfl
    | exact Or.inr (List.prefix_refl _)
    | exact Or.inr fun _ => rfl
    | exact Or.inr ⟨rfl, rfl, rfl⟩
    | exact Or.inr fun _ => ⟨rfl, rfl, rfl⟩
    | exact Or.inr fun _ => ⟨rfl, rfl⟩
    | split
    | dsimp only

theorem actTstCfg_keep (s : State) (m : Sentence) (ws : List Word) {k0 : Nat} {z0 : State} (hk : Nat.land 0x10000010300 k0 = 0x10000010300) (hz : Keep k0 z0 s) : Keep k0 z0 (actTstCfg s m ws).1 := by
  refine Keep.step ?_ hk hz
  unfold actTstCfg
  repeat' first
    | with_reducible refine Keep.ite ?_ ?_
    | intro u hu
    | with_reducible apply setAct_keep
    | with_reducible apply State.relYield_keep
    | with_reducible apply State.relYieldEnd_keep
    | with_reducible exact Keep.refl _ _
    | with_reducible assumption
    | exact rfl
    | exact id
    | exact Or.inl rfl
    | exact Or.inr rfl
    | exact Or.inr (List.prefix_refl _)
    | exact Or.inr fun _ => rfl
    | exact Or.inr ⟨rfl, rfl, rfl⟩
    | exact Or.inr fun _ => ⟨rfl, rfl, rfl⟩
    | exact Or.inr fun _ => ⟨rfl, rfl⟩
    | split
    | dsimp only

theorem procSetTstCfg_keep  (a : Sentence) (s : State) {k0 : Nat} {z0 : State} (hk : Nat.land 0x430000011b80 k0 = 0x430000011b80) (hz : Keep k0 z0 s) : Keep k0 z0 (procSetTstCfg  a s) := by
  refine Keep.step ?_ hk hz
  unfold procSetTstCfg
  refine process_keep _ _ _ _ _ _ 0x10000010300 (fun u ws => ?_) rfl rfl rfl (Keep.refl _ _)
  repeat' first
    | with_reducible refine Keep.ite ?_ ?_
    | intro u hu
    | with_reducible apply actTstCfg_keep
    | with_reducible exact Keep.refl _ _
    | with_reducible assumption
    | exact rfl
    | exact id
    | exact Or.inl rfl
    | exact Or.inr rfl
    | exact Or.inr (List.prefix_refl _)
    | exact Or.inr fun _ => rfl
    | exact Or.inr ⟨rfl, rfl, rfl⟩
    | exact Or.inr fun _ => ⟨rfl, rfl, rfl⟩
    | exact Or.inr fun _ => ⟨rfl, rfl⟩
    | split
    | dsimp only

theorem execSetTstCfg_keep (m : Sentence) (s : State) {t : State} (h : execSetTstCfg m s = .next t) : Keep 0x430000011b80 s t := by
  unfold execSetTstCfg at h
  injection h with h
  subst h
  repeat' first
    | with_reducible refine Keep.ite ?_ ?_
    | intro u hu
    | with_reducible apply submit_keep
    | with_reducible apply procSetTstCfg_keep
    | with_reducible exact Keep.refl _ _
    | with_reducible assumption
    | exact rfl
    | exact id
    | exact Or.inl rfl
    | exact Or.inr rfl
    | exact Or.inr (List.prefix_refl _)
    | exact Or.inr fun _ => rfl
    | exact Or.inr ⟨rfl, rfl, rfl⟩
    | exact Or.inr fun _ => ⟨rfl, rfl, rfl⟩
    | exact Or.inr fun _ => ⟨rfl, rfl⟩
    | split
    | dsimp only

theorem procGetTstStatus_keep  (a : Sentence) (s : State) {k0 : Nat} {z0 : State} (hk : Nat.land 0x420000001b80 k0 = 0x420000001b80) (hz : Keep k0 z0 s) : Keep k0 z0 (procGetTstStatus  a s) := by
  refine Keep.step ?_ hk hz
  unfold procGetTstStatus
  refine process_keep _ _ _ _ _ _ 0x0 (fun u ws => ?_) rfl rfl rfl (Keep.refl _ _)
  repeat' first
    | exact getAct_keep ..

theorem execGetTstStatus_keep (m : Sentence) (s : State) {t : State} (h : execGetTstStatus m s = .next t) : Keep 0x420000001b80 s t := by
  unfold execGetTstStatus at h
  injection h with h
  subst h
  repeat' first
    | with_reducible refine Keep.ite ?_ ?_
    | intro u hu
    | with_reducible apply submit_keep
    | with_reducible apply procGetTstStatus_keep
    | with_reducible exact Keep.refl _ _
    | with_reducible assumption
    | exact rfl
    | exact id
    | exact Or.inl rfl
    | exact Or.inr rfl
    | exact Or.inr (List.prefix_refl _)
    | exact Or.inr fun _ => rfl
    | exact Or.inr ⟨rfl, rfl, rfl⟩
    | exact Or.inr fun _ => ⟨rfl, rfl, rfl⟩
    | exact Or.inr fun _ => ⟨rfl, rfl⟩
    | split
    | dsimp only

theorem actTstVerdicts_keep (s : State) (x_ : Sentence) (ws : List Word) {k0 : Nat} {z0 : State} (hk : Nat.land 0x0 k0 = 0x0) (hz : Keep k0 z0 s) : Keep k0 z0 (actTstVerdicts s x_ ws).1 := by
  refine Keep.step ?_ hk hz
  unfold actTstVerdicts
  repeat' first
    | with_reducible refine Keep.ite ?_ ?_
    | intro u hu
    | with_reducible exact Keep.refl _ _
    | with_reducible assumption
    | exact rfl
    | exact id
    | exact Or.inl rfl
    | exact Or.inr rfl
    | exact Or.inr (List.prefix_refl _)
    | exact Or.inr fun _ => rfl
    | exact Or.inr ⟨rfl, rfl, rfl⟩
    | exact Or.inr fun _ => ⟨rfl, rfl, rfl⟩
    | exact Or.inr fun _ => ⟨rfl, rfl⟩
    | split
    | dsimp only

theorem procGetTstVerdicts_keep  (a : Sentence) (s : State) {k0 : Nat} {z0 : State} (hk : Nat.land 0x420000001b80 k0 = 0x420000001b80) (hz : Keep k0 z0 s) : Keep k0 z0 (procGetTstVerdicts  a s) := by
  refine Keep.step ?_ hk hz
  unfold procGetTstVerdicts
  refine process_keep _ _ _ _ _ _ 0x0 (fun u ws => ?_) rfl rfl rfl (Keep.refl _ _)
  repeat' first
    | with_reducible refine Keep.ite ?_ ?_
    | intro u hu
    | with_reducible apply actTstVerdicts_keep
    | with_reducible exact Keep.refl _ _
    | with_reducible assumption
    | exact rfl
    | exact id
    | exact Or.inl rfl
    | exact Or.inr rfl
    | exact Or.inr (List.prefix_refl _)
    | exact Or.inr fun _ => rfl
    | exact Or.inr ⟨rfl, rfl, rfl⟩
    | exact Or.inr fun _ => ⟨rfl, rfl, rfl⟩
    | exact Or.inr fun _ => ⟨rfl, rfl⟩
    | split
    | dsimp only

theorem execGetTstVerdicts_keep (m : Sentence) (s : State) {t : State} (h : execGetTstVerdicts m s = .next t) : Keep 0x420000001b80 s t := by
  unfold execGetTstVerdicts at h
  injection h with h
  subst h
  repeat' first
    | with_reducible refine Keep.ite ?_ ?_
    | intro u hu
    | with_reducible apply submit_keep
    | with_reducible apply procGetTstVerdicts_keep
    | with_reducible exact Keep.refl _ _
    | with_reducible assumption
    | exact rfl
    | exact id
    | exact Or.inl rfl
    | exact Or.inr rfl
    | exact Or.inr (List.prefix_refl _)
    | exact Or.inr fun _ => rfl
    | exact Or.inr ⟨rfl, rfl, rfl⟩
    | exact Or.inr fun _ => ⟨rfl, rfl, rfl⟩
    | exact Or.inr fun _ => ⟨rfl, rfl⟩
    | split
    | dsimp only

theorem actRepRecord_keep (s : State) (x_ : Sentence) (ws : List Word) {k0 : Nat} {z0 : State} (hk : Nat.land 0x0 k0 = 0x0) (hz : Keep k0 z0 s) : Keep k0 z0 (actRepRecord s x_ ws).1 := by
  refine Keep.step ?_ hk hz
  unfold actRepRecord
  repeat' first
    | with_reducible refine Keep.ite ?_ ?_
    | intro u hu
    | with_reducible exact Keep.refl _ _
    | with_reducible assumption
    | exact rfl
    | exact id
    | exact Or.inl rfl
    | exact Or.inr rfl
    | exact Or.inr (List.prefix_refl _)
    | exact Or.inr fun _ => rfl
    | exact Or.inr ⟨rfl, rfl, rfl⟩
    | exact Or.inr fun _ => ⟨rfl, rfl, rfl⟩
    | exact Or.inr fun _ => ⟨rfl, rfl⟩
    | split
    | dsimp only

theorem procGetRepRecord_keep  (a : Sentence) (s : State) {k0 : Nat} {z0 : State} (hk : Nat.land 0x420000001b80 k0 = 0x420000001b80) (hz : Keep k0 z0 s) : Keep k0 z0 (procGetRepRecord  a s) := by
  refine Keep.step ?_ hk hz
  unfold procGetRepRecord
  refine process_keep _ _ _ _ _ _ 0x0 (fun u ws => ?_) rfl rfl rfl (Keep.refl _ _)
  repeat' first
    | with_reducible refine Keep.ite ?_ ?_
    | intro u hu
    | with_reducible apply actRepRecord_keep
    | with_reducible exact Keep.refl _ _
    | with_reducible assumption
    | exact rfl
    | exact id
    | exact Or.inl rfl
    | exact Or.inr rfl
    | exact Or.inr (List.prefix_refl _)
    | exact Or.inr fun _ => rfl
    | exact Or.inr ⟨rfl, rfl, rfl⟩
    | exact Or.inr fun _ => ⟨rfl, rfl, rfl⟩
    | exact Or.inr fun _ => ⟨rfl, rfl⟩
    | split
    | dsimp only

theorem execGetRepRecord_keep (m : Sentence) (s : State) {t : State} (h : execGetRepRecord m s = .next t) : Keep 0x420000001b80 s t := by
  unfold execGetRepRecord at h
  injection h with h
  subst h
  repeat' first
    | with_reducible refine Keep.ite ?_ ?_
    | intro u hu
    | with_reducible apply submit_keep
    | with_reducible apply procGetRepRecord_keep
    | with_reducible exact Keep.refl _ _
    | with_reducible assumption
    | exact rfl
    | exact id
    | exact Or.inl rfl
    | exact Or.inr rfl
    | exact Or.inr (List.prefix_refl _)
    | exact Or.inr fun _ => rfl
    | exact Or.inr ⟨rfl, rfl, rfl⟩
    | exact Or.inr fun _ => ⟨rfl, rfl, rfl⟩
    | exact Or.inr fun _ => ⟨rfl, rfl⟩
    | split
    | dsimp only

theorem procGetRelYields_keep  (a : Sentence) (s : State) {k0 : Nat} {z0 : State} (hk : Nat.land 0x420000001b80 k0 = 0x420000001b80) (hz : Keep k0 z0 s) : Keep k0 z0 (procGetRelYields  a s) := by
  refine Keep.step ?_ hk hz
  unfold procGetRelYields
  refine process_keep _ _ _ _ _ _ 0x0 (fun u ws => ?_) rfl rfl rfl (Keep.refl _ _)
  repeat' first
    | exact getAct_keep ..

theorem execGetRelYields_keep (m : Sentence) (s : State) {t : State} (h : execGetRelYields m s = .next t) : Keep 0x420000001b80 s t := by
  unfold execGetRelYields at h
  injection h with h
  subst h
  repeat' first
    | with_reducible refine Keep.ite ?_ ?_
    | intro u hu
    | with_reducible apply submit_keep
    | with_reducible apply procGetRelYields_keep
    | with_reducible exact Keep.refl _ _
    | with_reducible assumption
    | exact rfl
    | exact id
    | exact Or.inl rfl
    | exact Or.inr rfl
    | exact Or.inr (List.prefix_refl _)
    | exact Or.inr fun _ => rfl
    | exact Or.inr ⟨rfl, rfl, rfl⟩
    | exact Or.inr fun _ => ⟨rfl, rfl, rfl⟩
    | exact Or.inr fun _ => ⟨rfl, rfl⟩
    | split
    | dsimp only

theorem execLinkDown_keep (s : State) {t : State} (h : execLinkDown s = .next t) : Keep 0x3300 s t := by
  unfold execLinkDown at h
  injection h with h
  subst h
  repeat' first
    | with_reducible refine Keep.ite ?_ ?_
    | intro u hu
    | with_reducible apply State.linkGone_keep
    | with_reducible exact Keep.refl _ _
    | with_reducible assumption
    | exact rfl
    | exact id
    | exact Or.inl rfl
    | exact Or.inr rfl
    | exact Or.inr (List.prefix_refl _)
    | exact Or.inr fun _ => rfl
    | exact Or.inr ⟨rfl, rfl, rfl⟩
    | exact Or.inr fun _ => ⟨rfl, rfl, rfl⟩
    | exact Or.inr fun _ => ⟨rfl, rfl⟩
    | split
    | dsimp only

theorem execLinkUp_keep (speed width : Nat) (s : State) {t : State} (h : execLinkUp speed width s = .next t) : Keep 0x3300 s t := by
  unfold execLinkUp at h
  injection h with h
  subst h
  repeat' first
    | with_reducible refine Keep.ite ?_ ?_
    | intro u hu
    | with_reducible apply State.modHif_keep
    | with_reducible apply State.raise_keep
    | with_reducible exact Keep.refl _ _
    | with_reducible assumption
    | exact rfl
    | exact id
    | exact Or.inl rfl
    | exact Or.inr rfl
    | exact Or.inr (List.prefix_refl _)
    | exact Or.inr fun _ => rfl
    | exact Or.inr ⟨rfl, rfl, rfl⟩
    | exact Or.inr fun _ => ⟨rfl, rfl, rfl⟩
    | exact Or.inr fun _ => ⟨rfl, rfl⟩
    | split
    | dsimp only

theorem execAspmL1Entry_keep (s : State) {t : State} (h : execAspmL1Entry s = .next t) : Keep 0x3000 s t := by
  unfold execAspmL1Entry at h
  injection h with h
  subst h
  repeat' first
    | with_reducible refine Keep.ite ?_ ?_
    | intro u hu
    | with_reducible apply State.modHif_keep
    | with_reducible exact Keep.refl _ _
    | with_reducible assumption
    | exact rfl
    | exact id
    | exact Or.inl rfl
    | exact Or.inr rfl
    | exact Or.inr (List.prefix_refl _)
    | exact Or.inr fun _ => rfl
    | exact Or.inr ⟨rfl, rfl, rfl⟩
    | exact Or.inr fun _ => ⟨rfl, rfl, rfl⟩
    | exact Or.inr fun _ => ⟨rfl, rfl⟩
    | split
    | dsimp only

theorem dropped_le (l : List Outst) (r k : Requester) :
    ((l.map fun o => if o.req = r then { o with dropped := true } else o).filter fun o => o.req = k ∧ !o.dropped).length ≤
      (l.filter fun o => o.req = k ∧ !o.dropped).length := by
  induction l with
  | nil => exact Nat.le_refl _
  | cons o l ih =>
    simp only [List.map_cons, List.filter_cons]
    by_cases hr : o.req = r
    · rw [if_pos hr]
      rw [if_neg (by simp)]
      split
      · exact Nat.le_succ_of_le ih
      · exact ih
    · rw [if_neg hr]
      split
      · exact Nat.succ_le_succ ih
      · exact ih

theorem State.dropMailboxes_keep (s : State) (r : Requester) {k0 : Nat} {z0 : State} (hk : Nat.land 0xa0 k0 = 0xa0) (hz : Keep k0 z0 s) : Keep k0 z0 (State.dropMailboxes s r) := by
  refine Keep.step ?_ hk hz
  unfold State.dropMailboxes
  have h1 : Keep 0xa0 s ((List.range 16).foldl (fun s n => s.modBox r n fun _ => boxDflt n) s) :=
    Keep.foldl _ (fun u x hu => Keep.modBox rfl hu) (Keep.refl _ _)
  generalize (List.range 16).foldl (fun s n => s.modBox r n fun _ => boxDflt n) s = t at h1
  have h2 : Keep 0xa0 s (t.withMb { t.mb with
      waiting := t.mb.waiting.filter fun w => w.2.2.req ≠ r
      outstanding := t.mb.outstanding.map fun o => if o.req = r then { o with dropped := true } else o }) :=
    Keep.set_fewer rfl (fun k => dropped_le _ r k) h1
  exact Keep.set_dev (x := { t.dev with enterWait := t.dev.enterWait.filter fun m => decide (m.req ≠ r) })
    (.inr (by exact ⟨rfl, rfl, rfl⟩)) (.inr (by exact rfl)) (.inl rfl) h2

theorem State.stopChannels_keep (s : State) (r : Requester) {k0 : Nat} {z0 : State} (hk : Nat.land 0x3000 k0 = 0x3000) (hz : Keep k0 z0 s) : Keep k0 z0 (State.stopChannels s r) := by
  refine Keep.step ?_ hk hz
  unfold State.stopChannels
  repeat' first
    | with_reducible refine Keep.ite ?_ ?_
    | with_reducible refine Keep.foldl _ ?_ ?_
    | intro u x hu
    | intro u hu
    | with_reducible apply State.modHif_keep
    | with_reducible apply Keep.modDma
    | with_reducible exact Keep.refl _ _
    | with_reducible assumption
    | exact rfl
    | exact id
    | exact Or.inl rfl
    | exact Or.inr rfl
    | exact Or.inr (List.prefix_refl _)
    | exact Or.inr fun _ => rfl
    | exact Or.inr ⟨rfl, rfl, rfl⟩
    | exact Or.inr fun _ => ⟨rfl, rfl, rfl⟩
    | exact Or.inr fun _ => ⟨rfl, rfl⟩
    | split
    | dsimp only

theorem EvQueue.emptied_others (q : EvQueue) : q.emptied.others ≤ 960 := by
  unfold EvQueue.emptied
  cases h : q.recs with
  | nil => simp [EvQueue.others, h]
  | cons e r => exact Nat.zero_le _

theorem State.resetFunction_keep (s : State) (r : Requester) (kind : Nat) {k0 : Nat} {z0 : State} (hk : Nat.land 0x20000003ba0 k0 = 0x20000003ba0) (hz : Keep k0 z0 s) : Keep k0 z0 (State.resetFunction s r kind) := by
  refine Keep.step ?_ hk hz
  unfold State.resetFunction
  repeat' first
    | exact fun q _ => EvQueue.emptied_others q
    | with_reducible refine Keep.ite ?_ ?_
    | with_reducible apply State.dropMailboxes_keep
    | with_reducible apply State.stopChannels_keep
    | with_reducible apply State.modHif_keep
    | with_reducible apply State.raise_keep
    | with_reducible apply State.settleIcuOf_keep
    | with_reducible apply Keep.modQueue
    | with_reducible apply Keep.modIcu
    | with_reducible apply Keep.modSnap
    | with_reducible exact Keep.refl _ _
    | with_reducible assumption
    | exact rfl
    | exact id
    | exact Or.inl rfl
    | exact Or.inr rfl
    | exact Or.inr (List.prefix_refl _)
    | exact Or.inr fun _ => rfl
    | exact Or.inr ⟨rfl, rfl, rfl⟩
    | exact Or.inr fun _ => ⟨rfl, rfl, rfl⟩
    | exact Or.inr fun _ => ⟨rfl, rfl⟩
    | split
    | dsimp only

theorem execFunctionLevelReset_keep (r : Requester) (s : State) {t : State} (h : execFunctionLevelReset r s = .next t) : Keep 0x20000003ba0 s t := by
  unfold execFunctionLevelReset at h
  injection h with h
  subst h
  repeat' first
    | with_reducible refine Keep.ite ?_ ?_
    | intro u hu
    | with_reducible apply State.resetFunction_keep
    | with_reducible exact Keep.refl _ _
    | with_reducible assumption
    | exact rfl
    | exact id
    | exact Or.inl rfl
    | exact Or.inr rfl
    | exact Or.inr (List.prefix_refl _)
    | exact Or.inr fun _ => rfl
    | exact Or.inr ⟨rfl, rfl, rfl⟩
    | exact Or.inr fun _ => ⟨rfl, rfl, rfl⟩
    | exact Or.inr fun _ => ⟨rfl, rfl⟩
    | split
    | dsimp only

theorem execHotReset_keep (s : State) {t : State} (h : execHotReset s = .next t) : Keep 0x20000003ba0 s t := by
  unfold execHotReset at h
  injection h with h
  subst h
  repeat' first
    | with_reducible refine Keep.ite ?_ ?_
    | intro u hu
    | with_reducible apply State.resetFunction_keep
    | with_reducible exact Keep.refl _ _
    | with_reducible assumption
    | exact rfl
    | exact id
    | exact Or.inl rfl
    | exact Or.inr rfl
    | exact Or.inr (List.prefix_refl _)
    | exact Or.inr fun _ => rfl
    | exact Or.inr ⟨rfl, rfl, rfl⟩
    | exact Or.inr fun _ => ⟨rfl, rfl, rfl⟩
    | exact Or.inr fun _ => ⟨rfl, rfl⟩
    | split
    | dsimp only

theorem execPerstNAssert_keep (s : State) {t : State} (h : execPerstNAssert s = .next t) : Keep 0x20000003ba0 s t := by
  unfold execPerstNAssert at h
  injection h with h
  subst h
  repeat' first
    | with_reducible refine Keep.ite ?_ ?_
    | intro u hu
    | with_reducible apply State.modHif_keep
    | with_reducible apply State.linkGone_keep
    | with_reducible apply State.resetFunction_keep
    | with_reducible exact Keep.refl _ _
    | with_reducible assumption
    | exact rfl
    | exact id
    | exact Or.inl rfl
    | exact Or.inr rfl
    | exact Or.inr (List.prefix_refl _)
    | exact Or.inr fun _ => rfl
    | exact Or.inr ⟨rfl, rfl, rfl⟩
    | exact Or.inr fun _ => ⟨rfl, rfl, rfl⟩
    | exact Or.inr fun _ => ⟨rfl, rfl⟩
    | split
    | dsimp only

theorem execPerstNDeassert_keep (s : State) {t : State} (h : execPerstNDeassert s = .next t) : Keep 0x3000 s t := by
  unfold execPerstNDeassert at h
  injection h with h
  subst h
  repeat' first
    | with_reducible refine Keep.ite ?_ ?_
    | intro u hu
    | with_reducible apply State.modHif_keep
    | with_reducible exact Keep.refl _ _
    | with_reducible assumption
    | exact rfl
    | exact id
    | exact Or.inl rfl
    | exact Or.inr rfl
    | exact Or.inr (List.prefix_refl _)
    | exact Or.inr fun _ => rfl
    | exact Or.inr ⟨rfl, rfl, rfl⟩
    | exact Or.inr fun _ => ⟨rfl, rfl, rfl⟩
    | exact Or.inr fun _ => ⟨rfl, rfl⟩
    | split
    | dsimp only

theorem State.setD_keep (s : State) (r : Requester) (d : DState) {k0 : Nat} {z0 : State} (hk : Nat.land 0x3000 k0 = 0x3000) (hz : Keep k0 z0 s) : Keep k0 z0 (State.setD s r d) := by
  refine Keep.step ?_ hk hz
  unfold State.setD
  repeat' first
    | with_reducible refine Keep.ite ?_ ?_
    | with_reducible apply State.modHif_keep
    | with_reducible exact Keep.refl _ _
    | with_reducible assumption
    | exact rfl
    | exact id
    | exact Or.inl rfl
    | exact Or.inr rfl
    | exact Or.inr (List.prefix_refl _)
    | exact Or.inr fun _ => rfl
    | exact Or.inr ⟨rfl, rfl, rfl⟩
    | exact Or.inr fun _ => ⟨rfl, rfl, rfl⟩
    | exact Or.inr fun _ => ⟨rfl, rfl⟩
    | split
    | dsimp only

theorem execEnterD3hot_keep (r : Requester) (s : State) {t : State} (h : execEnterD3hot r s = .next t) : Keep 0x3000 s t := by
  unfold execEnterD3hot at h
  injection h with h
  subst h
  repeat' first
    | with_reducible refine Keep.ite ?_ ?_
    | intro u hu
    | with_reducible apply State.setD_keep
    | with_reducible exact Keep.refl _ _
    | with_reducible assumption
    | exact rfl
    | exact id
    | exact Or.inl rfl
    | exact Or.inr rfl
    | exact Or.inr (List.prefix_refl _)
    | exact Or.inr fun _ => rfl
    | exact Or.inr ⟨rfl, rfl, rfl⟩
    | exact Or.inr fun _ => ⟨rfl, rfl, rfl⟩
    | exact Or.inr fun _ => ⟨rfl, rfl⟩
    | split
    | dsimp only

theorem execEnterD0_keep (r : Requester) (s : State) {t : State} (h : execEnterD0 r s = .next t) : Keep 0x20000003b00 s t := by
  unfold execEnterD0 at h
  injection h with h
  subst h
  repeat' first
    | with_reducible refine Keep.ite ?_ ?_
    | with_reducible refine Keep.foldl _ ?_ ?_
    | intro u x hu
    | intro u hu
    | with_reducible apply State.sendVec_keep
    | with_reducible apply State.sendPba_keep
    | with_reducible apply State.setD_keep
    | with_reducible exact Keep.refl _ _
    | with_reducible assumption
    | exact rfl
    | exact id
    | exact Or.inl rfl
    | exact Or.inr rfl
    | exact Or.inr (List.prefix_refl _)
    | exact Or.inr fun _ => rfl
    | exact Or.inr ⟨rfl, rfl, rfl⟩
    | exact Or.inr fun _ => ⟨rfl, rfl, rfl⟩
    | exact Or.inr fun _ => ⟨rfl, rfl⟩
    | split
    | dsimp only

theorem execEnterD3cold_keep (r : Requester) (s : State) {t : State} (h : execEnterD3cold r s = .next t) : Keep 0x20000003b00 s t := by
  unfold execEnterD3cold at h
  injection h with h
  subst h
  repeat' first
    | with_reducible refine Keep.ite ?_ ?_
    | intro u hu
    | with_reducible apply State.setD_keep
    | with_reducible apply State.linkGone_keep
    | with_reducible apply State.settleIcuOf_keep
    | with_reducible apply Keep.modIcu
    | with_reducible apply Keep.modSnap
    | with_reducible exact Keep.refl _ _
    | with_reducible assumption
    | exact rfl
    | exact id
    | exact Or.inl rfl
    | exact Or.inr rfl
    | exact Or.inr (List.prefix_refl _)
    | exact Or.inr fun _ => rfl
    | exact Or.inr ⟨rfl, rfl, rfl⟩
    | exact Or.inr fun _ => ⟨rfl, rfl, rfl⟩
    | exact Or.inr fun _ => ⟨rfl, rfl⟩
    | split
    | dsimp only

theorem execTapTakeoverLoad_keep (op : Byte) (s : State) {t : State} (h : execTapTakeoverLoad op s = .next t) : Keep 0x3300 s t := by
  unfold execTapTakeoverLoad at h
  injection h with h
  subst h
  repeat' first
    | with_reducible refine Keep.ite ?_ ?_
    | intro u hu
    | with_reducible apply State.modHif_keep
    | with_reducible apply State.linkGone_keep
    | with_reducible exact Keep.refl _ _
    | with_reducible assumption
    | exact rfl
    | exact id
    | exact Or.inl rfl
    | exact Or.inr rfl
    | exact Or.inr (List.prefix_refl _)
    | exact Or.inr fun _ => rfl
    | exact Or.inr ⟨rfl, rfl, rfl⟩
    | exact Or.inr fun _ => ⟨rfl, rfl, rfl⟩
    | exact Or.inr fun _ => ⟨rfl, rfl⟩
    | split
    | dsimp only

theorem execTapRelease_keep (s : State) {t : State} (h : execTapRelease s = .next t) : Keep 0x3000 s t := by
  unfold execTapRelease at h
  injection h with h
  subst h
  repeat' first
    | with_reducible refine Keep.ite ?_ ?_
    | intro u hu
    | with_reducible apply State.modHif_keep
    | with_reducible exact Keep.refl _ _
    | with_reducible assumption
    | exact rfl
    | exact id
    | exact Or.inl rfl
    | exact Or.inr rfl
    | exact Or.inr (List.prefix_refl _)
    | exact Or.inr fun _ => rfl
    | exact Or.inr ⟨rfl, rfl, rfl⟩
    | exact Or.inr fun _ => ⟨rfl, rfl, rfl⟩
    | exact Or.inr fun _ => ⟨rfl, rfl⟩
    | split
    | dsimp only

theorem State.fold_dev_ev (t : State) (dev' : type_of% t.dev) (ev' : type_of% t.ev) :
    State.mk t.pending t.free t.fuses dev' t.shut t.mb ev' t.icu t.hif t.err t.tku t.params t.stats t.line t.host t.group t.port t.block t.eng t.hinge t.lex t.mem t.rep t.ocu t.cal t.thm t.tst t.pmc t.pwr t.fw t.cap = ((t.withDev dev').withEv ev') := rfl

theorem execEventRaised_keep (i : Nat) (s : State) {t : State} (h : execEventRaised i s = .next t) : Keep 0x820000005b20 s t := by
  unfold execEventRaised at h
  injection h with h
  subst h
  try simp -zeta only [State.fold_dev_ev, State.fold_dev, State.fold_ev]
  repeat' first
    | with_reducible refine Keep.ite ?_ ?_
    | with_reducible refine Keep.foldl _ ?_ ?_
    | intro u x hu
    | intro u hu
    | with_reducible apply State.deliverTo_keep
    | with_reducible apply State.settleIcu_keep
    | with_reducible apply Keep.set_dev
    | with_reducible apply Keep.set_ev
    | with_reducible exact Keep.refl _ _
    | with_reducible assumption
    | exact rfl
    | exact id
    | exact Or.inl rfl
    | exact Or.inr rfl
    | exact Or.inr (List.prefix_refl _)
    | exact Or.inr fun _ => rfl
    | exact Or.inr ⟨rfl, rfl, rfl⟩
    | exact Or.inr fun _ => ⟨rfl, rfl, rfl⟩
    | exact Or.inr fun _ => ⟨rfl, rfl⟩
    | split
    | dsimp only

theorem execCoalescingTimerExpiry_keep (r : Requester) (vec : Nat) (s : State) {t : State} (h : execCoalescingTimerExpiry r vec s = .next t) : Keep 0x20000001b00 s t := by
  unfold execCoalescingTimerExpiry at h
  injection h with h
  subst h
  repeat' first
    | with_reducible refine Keep.ite ?_ ?_
    | intro u hu
    | with_reducible apply State.sendVec_keep
    | with_reducible exact Keep.refl _ _
    | with_reducible assumption
    | exact rfl
    | exact id
    | exact Or.inl rfl
    | exact Or.inr rfl
    | exact Or.inr (List.prefix_refl _)
    | exact Or.inr fun _ => rfl
    | exact Or.inr ⟨rfl, rfl, rfl⟩
    | exact Or.inr fun _ => ⟨rfl, rfl, rfl⟩
    | exact Or.inr fun _ => ⟨rfl, rfl⟩
    | split
    | dsimp only

theorem State.pushReads_keep (s : State) (q : DmaReady) {k0 : Nat} {z0 : State} (hk : Nat.land 0x800020300 k0 = 0x800020300) (hz : Keep k0 z0 s) : Keep k0 z0 (State.pushReads s q).1 := by
  refine Keep.step ?_ hk hz
  unfold State.pushReads
  repeat' first
    | with_reducible refine Keep.foldlFst _ ?_ ?_
    | intro u x hu
    | with_reducible refine Keep.ite ?_ ?_
    | with_reducible refine Keep.foldl _ ?_ ?_
    | intro u x hu
    | intro u hu
    | with_reducible apply State.readWord_keep
    | with_reducible exact Keep.refl _ _
    | with_reducible assumption
    | exact rfl
    | exact id
    | exact Or.inl rfl
    | exact Or.inr rfl
    | exact Or.inr (List.prefix_refl _)
    | exact Or.inr fun _ => rfl
    | exact Or.inr ⟨rfl, rfl, rfl⟩
    | exact Or.inr fun _ => ⟨rfl, rfl, rfl⟩
    | exact Or.inr fun _ => ⟨rfl, rfl⟩
    | split
    | dsimp only

theorem execDmaRecordWritten_keep (ch src : Nat) (s : State) {t : State} (h : execDmaRecordWritten ch src s = .next t) : Keep 0x20800023b00 s t := by
  unfold execDmaRecordWritten at h
  injection h with h
  subst h
  repeat' first
    | with_reducible refine Keep.ite ?_ ?_
    | intro u hu
    | with_reducible apply State.modHif_keep
    | with_reducible apply State.pushReads_keep
    | with_reducible apply State.pmcEvent_keep
    | with_reducible apply State.edge_keep
    | with_reducible apply Keep.modDma
    | with_reducible exact Keep.refl _ _
    | with_reducible assumption
    | exact rfl
    | exact id
    | exact Or.inl rfl
    | exact Or.inr rfl
    | exact Or.inr (List.prefix_refl _)
    | exact Or.inr fun _ => rfl
    | exact Or.inr ⟨rfl, rfl, rfl⟩
    | exact Or.inr fun _ => ⟨rfl, rfl, rfl⟩
    | exact Or.inr fun _ => ⟨rfl, rfl⟩
    | split
    | dsimp only

theorem procGetHifLink_keep  (a : Sentence) (s : State) {k0 : Nat} {z0 : State} (hk : Nat.land 0x420000001b80 k0 = 0x420000001b80) (hz : Keep k0 z0 s) : Keep k0 z0 (procGetHifLink  a s) := by
  refine Keep.step ?_ hk hz
  unfold procGetHifLink
  refine process_keep _ _ _ _ _ _ 0x0 (fun u ws => ?_) rfl rfl rfl (Keep.refl _ _)
  repeat' first
    | exact getAct_keep ..

theorem execGetHifLink_keep (m : Sentence) (s : State) {t : State} (h : execGetHifLink m s = .next t) : Keep 0x420000001b80 s t := by
  unfold execGetHifLink at h
  injection h with h
  subst h
  repeat' first
    | with_reducible refine Keep.ite ?_ ?_
    | intro u hu
    | with_reducible apply submit_keep
    | with_reducible apply procGetHifLink_keep
    | with_reducible exact Keep.refl _ _
    | with_reducible assumption
    | exact rfl
    | exact id
    | exact Or.inl rfl
    | exact Or.inr rfl
    | exact Or.inr (List.prefix_refl _)
    | exact Or.inr fun _ => rfl
    | exact Or.inr ⟨rfl, rfl, rfl⟩
    | exact Or.inr fun _ => ⟨rfl, rfl, rfl⟩
    | exact Or.inr fun _ => ⟨rfl, rfl⟩
    | split
    | dsimp only

theorem procGetHifWindow_keep  (a : Sentence) (s : State) {k0 : Nat} {z0 : State} (hk : Nat.land 0x420000001b80 k0 = 0x420000001b80) (hz : Keep k0 z0 s) : Keep k0 z0 (procGetHifWindow  a s) := by
  refine Keep.step ?_ hk hz
  unfold procGetHifWindow
  refine process_keep _ _ _ _ _ _ 0x0 (fun u ws => ?_) rfl rfl rfl (Keep.refl _ _)
  repeat' first
    | exact getAct_keep ..

theorem execGetHifWindow_keep (m : Sentence) (s : State) {t : State} (h : execGetHifWindow m s = .next t) : Keep 0x420000001b80 s t := by
  unfold execGetHifWindow at h
  injection h with h
  subst h
  repeat' first
    | with_reducible refine Keep.ite ?_ ?_
    | intro u hu
    | with_reducible apply submit_keep
    | with_reducible apply procGetHifWindow_keep
    | with_reducible exact Keep.refl _ _
    | with_reducible assumption
    | exact rfl
    | exact id
    | exact Or.inl rfl
    | exact Or.inr rfl
    | exact Or.inr (List.prefix_refl _)
    | exact Or.inr fun _ => rfl
    | exact Or.inr ⟨rfl, rfl, rfl⟩
    | exact Or.inr fun _ => ⟨rfl, rfl, rfl⟩
    | exact Or.inr fun _ => ⟨rfl, rfl⟩
    | split
    | dsimp only

theorem actHifWindow_keep (s : State) (x_ : Sentence) (ws : List Word) {k0 : Nat} {z0 : State} (hk : Nat.land 0x3000 k0 = 0x3000) (hz : Keep k0 z0 s) : Keep k0 z0 (actHifWindow s x_ ws).1 := by
  refine Keep.step ?_ hk hz
  unfold actHifWindow
  repeat' first
    | with_reducible refine Keep.ite ?_ ?_
    | intro u hu
    | with_reducible apply State.modHif_keep
    | with_reducible exact Keep.refl _ _
    | with_reducible assumption
    | exact rfl
    | exact id
    | exact Or.inl rfl
    | exact Or.inr rfl
    | exact Or.inr (List.prefix_refl _)
    | exact Or.inr fun _ => rfl
    | exact Or.inr ⟨rfl, rfl, rfl⟩
    | exact Or.inr fun _ => ⟨rfl, rfl, rfl⟩
    | exact Or.inr fun _ => ⟨rfl, rfl⟩
    | split
    | dsimp only

theorem procSetHifWindow_keep  (a : Sentence) (s : State) {k0 : Nat} {z0 : State} (hk : Nat.land 0x420000003b80 k0 = 0x420000003b80) (hz : Keep k0 z0 s) : Keep k0 z0 (procSetHifWindow  a s) := by
  refine Keep.step ?_ hk hz
  unfold procSetHifWindow
  refine process_keep _ _ _ _ _ _ 0x3000 (fun u ws => ?_) rfl rfl rfl (Keep.refl _ _)
  repeat' first
    | with_reducible refine Keep.ite ?_ ?_
    | intro u hu
    | with_reducible apply actHifWindow_keep
    | with_reducible exact Keep.refl _ _
    | with_reducible assumption
    | exact rfl
    | exact id
    | exact Or.inl rfl
    | exact Or.inr rfl
    | exact Or.inr (List.prefix_refl _)
    | exact Or.inr fun _ => rfl
    | exact Or.inr ⟨rfl, rfl, rfl⟩
    | exact Or.inr fun _ => ⟨rfl, rfl, rfl⟩
    | exact Or.inr fun _ => ⟨rfl, rfl⟩
    | split
    | dsimp only

theorem execSetHifWindow_keep (m : Sentence) (s : State) {t : State} (h : execSetHifWindow m s = .next t) : Keep 0x420000003b80 s t := by
  unfold execSetHifWindow at h
  injection h with h
  subst h
  repeat' first
    | with_reducible refine Keep.ite ?_ ?_
    | intro u hu
    | with_reducible apply submit_keep
    | with_reducible apply procSetHifWindow_keep
    | with_reducible exact Keep.refl _ _
    | with_reducible assumption
    | exact rfl
    | exact id
    | exact Or.inl rfl
    | exact Or.inr rfl
    | exact Or.inr (List.prefix_refl _)
    | exact Or.inr fun _ => rfl
    | exact Or.inr ⟨rfl, rfl, rfl⟩
    | exact Or.inr fun _ => ⟨rfl, rfl, rfl⟩
    | exact Or.inr fun _ => ⟨rfl, rfl⟩
    | split
    | dsimp only

theorem procGetHifDma_keep  (a : Sentence) (s : State) {k0 : Nat} {z0 : State} (hk : Nat.land 0x420000001b80 k0 = 0x420000001b80) (hz : Keep k0 z0 s) : Keep k0 z0 (procGetHifDma  a s) := by
  refine Keep.step ?_ hk hz
  unfold procGetHifDma
  refine process_keep _ _ _ _ _ _ 0x0 (fun u ws => ?_) rfl rfl rfl (Keep.refl _ _)
  repeat' first
    | exact getAct_keep ..

theorem execGetHifDma_keep (m : Sentence) (s : State) {t : State} (h : execGetHifDma m s = .next t) : Keep 0x420000001b80 s t := by
  unfold execGetHifDma at h
  injection h with h
  subst h
  repeat' first
    | with_reducible refine Keep.ite ?_ ?_
    | intro u hu
    | with_reducible apply submit_keep
    | with_reducible apply procGetHifDma_keep
    | with_reducible exact Keep.refl _ _
    | with_reducible assumption
    | exact rfl
    | exact id
    | exact Or.inl rfl
    | exact Or.inr rfl
    | exact Or.inr (List.prefix_refl _)
    | exact Or.inr fun _ => rfl
    | exact Or.inr ⟨rfl, rfl, rfl⟩
    | exact Or.inr fun _ => ⟨rfl, rfl, rfl⟩
    | exact Or.inr fun _ => ⟨rfl, rfl⟩
    | split
    | dsimp only

theorem actHifDma_keep (s : State) (m : Sentence) (ws : List Word) {k0 : Nat} {z0 : State} (hk : Nat.land 0x20000007b08 k0 = 0x20000007b08) (hz : Keep k0 z0 s) : Keep k0 z0 (actHifDma s m ws).1 := by
  refine Keep.step ?_ hk hz
  unfold actHifDma
  repeat' first
    | with_reducible refine Keep.ite ?_ ?_
    | intro u hu
    | with_reducible apply State.modHif_keep
    | with_reducible apply State.settle_keep
    | with_reducible apply Keep.modDma
    | with_reducible exact Keep.refl _ _
    | with_reducible assumption
    | exact rfl
    | exact id
    | exact Or.inl rfl
    | exact Or.inr rfl
    | exact Or.inr (List.prefix_refl _)
    | exact Or.inr fun _ => rfl
    | exact Or.inr ⟨rfl, rfl, rfl⟩
    | exact Or.inr fun _ => ⟨rfl, rfl, rfl⟩
    | exact Or.inr fun _ => ⟨rfl, rfl⟩
    | split
    | dsimp only

theorem procSetHifDma_keep  (a : Sentence) (s : State) {k0 : Nat} {z0 : State} (hk : Nat.land 0x420000007b88 k0 = 0x420000007b88) (hz : Keep k0 z0 s) : Keep k0 z0 (procSetHifDma  a s) := by
  refine Keep.step ?_ hk hz
  unfold procSetHifDma
  refine process_keep _ _ _ _ _ _ 0x20000007b08 (fun u ws => ?_) rfl rfl rfl (Keep.refl _ _)
  repeat' first
    | with_reducible refine Keep.ite ?_ ?_
    | intro u hu
    | with_reducible apply actHifDma_keep
    | with_reducible exact Keep.refl _ _
    | with_reducible assumption
    | exact rfl
    | exact id
    | exact Or.inl rfl
    | exact Or.inr rfl
    | exact Or.inr (List.prefix_refl _)
    | exact Or.inr fun _ => rfl
    | exact Or.inr ⟨rfl, rfl, rfl⟩
    | exact Or.inr fun _ => ⟨rfl, rfl, rfl⟩
    | exact Or.inr fun _ => ⟨rfl, rfl⟩
    | split
    | dsimp only

theorem execSetHifDma_keep (m : Sentence) (s : State) {t : State} (h : execSetHifDma m s = .next t) : Keep 0x420000007b88 s t := by
  unfold execSetHifDma at h
  injection h with h
  subst h
  repeat' first
    | with_reducible refine Keep.ite ?_ ?_
    | intro u hu
    | with_reducible apply submit_keep
    | with_reducible apply procSetHifDma_keep
    | with_reducible exact Keep.refl _ _
    | with_reducible assumption
    | exact rfl
    | exact id
    | exact Or.inl rfl
    | exact Or.inr rfl
    | exact Or.inr (List.prefix_refl _)
    | exact Or.inr fun _ => rfl
    | exact Or.inr ⟨rfl, rfl, rfl⟩
    | exact Or.inr fun _ => ⟨rfl, rfl, rfl⟩
    | exact Or.inr fun _ => ⟨rfl, rfl⟩
    | split
    | dsimp only

theorem actHifMgt_keep (s : State) (x_ : Sentence) (x1_ : List Word) {k0 : Nat} {z0 : State} (hk : Nat.land 0x2 k0 = 0x2) (hz : Keep k0 z0 s) : Keep k0 z0 (actHifMgt s x_ x1_).1 := by
  refine Keep.step ?_ hk hz
  unfold actHifMgt
  repeat' first
    | with_reducible refine Keep.ite ?_ ?_
    | intro u hu
    | with_reducible apply State.freeNext_keep
    | with_reducible exact Keep.refl _ _
    | with_reducible assumption
    | exact rfl
    | exact id
    | exact Or.inl rfl
    | exact Or.inr rfl
    | exact Or.inr (List.prefix_refl _)
    | exact Or.inr fun _ => rfl
    | exact Or.inr ⟨rfl, rfl, rfl⟩
    | exact Or.inr fun _ => ⟨rfl, rfl, rfl⟩
    | exact Or.inr fun _ => ⟨rfl, rfl⟩
    | split
    | dsimp only

theorem procGetHifMgt_keep  (a : Sentence) (s : State) {k0 : Nat} {z0 : State} (hk : Nat.land 0x420000001b82 k0 = 0x420000001b82) (hz : Keep k0 z0 s) : Keep k0 z0 (procGetHifMgt  a s) := by
  refine Keep.step ?_ hk hz
  unfold procGetHifMgt
  refine process_keep _ _ _ _ _ _ 0x2 (fun u ws => ?_) rfl rfl rfl (Keep.refl _ _)
  repeat' first
    | with_reducible refine Keep.ite ?_ ?_
    | intro u hu
    | with_reducible apply actHifMgt_keep
    | with_reducible exact Keep.refl _ _
    | with_reducible assumption
    | exact rfl
    | exact id
    | exact Or.inl rfl
    | exact Or.inr rfl
    | exact Or.inr (List.prefix_refl _)
    | exact Or.inr fun _ => rfl
    | exact Or.inr ⟨rfl, rfl, rfl⟩
    | exact Or.inr fun _ => ⟨rfl, rfl, rfl⟩
    | exact Or.inr fun _ => ⟨rfl, rfl⟩
    | split
    | dsimp only

theorem execGetHifMgt_keep (m : Sentence) (s : State) {t : State} (h : execGetHifMgt m s = .next t) : Keep 0x420000001b82 s t := by
  unfold execGetHifMgt at h
  injection h with h
  subst h
  repeat' first
    | with_reducible refine Keep.ite ?_ ?_
    | intro u hu
    | with_reducible apply submit_keep
    | with_reducible apply procGetHifMgt_keep
    | with_reducible exact Keep.refl _ _
    | with_reducible assumption
    | exact rfl
    | exact id
    | exact Or.inl rfl
    | exact Or.inr rfl
    | exact Or.inr (List.prefix_refl _)
    | exact Or.inr fun _ => rfl
    | exact Or.inr ⟨rfl, rfl, rfl⟩
    | exact Or.inr fun _ => ⟨rfl, rfl, rfl⟩
    | exact Or.inr fun _ => ⟨rfl, rfl⟩
    | split
    | dsimp only

theorem actGetIcuEvent_keep (s : State) (x_ : Sentence) (ws : List Word) {k0 : Nat} {z0 : State} (hk : Nat.land 0x0 k0 = 0x0) (hz : Keep k0 z0 s) : Keep k0 z0 (actGetIcuEvent s x_ ws).1 := by
  refine Keep.step ?_ hk hz
  unfold actGetIcuEvent
  repeat' first
    | with_reducible refine Keep.ite ?_ ?_
    | intro u hu
    | with_reducible exact Keep.refl _ _
    | with_reducible assumption
    | exact rfl
    | exact id
    | exact Or.inl rfl
    | exact Or.inr rfl
    | exact Or.inr (List.prefix_refl _)
    | exact Or.inr fun _ => rfl
    | exact Or.inr ⟨rfl, rfl, rfl⟩
    | exact Or.inr fun _ => ⟨rfl, rfl, rfl⟩
    | exact Or.inr fun _ => ⟨rfl, rfl⟩
    | split
    | dsimp only

theorem procGetIcuEvent_keep  (a : Sentence) (s : State) {k0 : Nat} {z0 : State} (hk : Nat.land 0x420000001b80 k0 = 0x420000001b80) (hz : Keep k0 z0 s) : Keep k0 z0 (procGetIcuEvent  a s) := by
  refine Keep.step ?_ hk hz
  unfold procGetIcuEvent
  refine process_keep _ _ _ _ _ _ 0x0 (fun u ws => ?_) rfl rfl rfl (Keep.refl _ _)
  repeat' first
    | with_reducible refine Keep.ite ?_ ?_
    | intro u hu
    | with_reducible apply actGetIcuEvent_keep
    | with_reducible exact Keep.refl _ _
    | with_reducible assumption
    | exact rfl
    | exact id
    | exact Or.inl rfl
    | exact Or.inr rfl
    | exact Or.inr (List.prefix_refl _)
    | exact Or.inr fun _ => rfl
    | exact Or.inr ⟨rfl, rfl, rfl⟩
    | exact Or.inr fun _ => ⟨rfl, rfl, rfl⟩
    | exact Or.inr fun _ => ⟨rfl, rfl⟩
    | split
    | dsimp only

theorem execGetIcuEvent_keep (m : Sentence) (s : State) {t : State} (h : execGetIcuEvent m s = .next t) : Keep 0x420000001b80 s t := by
  unfold execGetIcuEvent at h
  injection h with h
  subst h
  repeat' first
    | with_reducible refine Keep.ite ?_ ?_
    | intro u hu
    | with_reducible apply submit_keep
    | with_reducible apply procGetIcuEvent_keep
    | with_reducible exact Keep.refl _ _
    | with_reducible assumption
    | exact rfl
    | exact id
    | exact Or.inl rfl
    | exact Or.inr rfl
    | exact Or.inr (List.prefix_refl _)
    | exact Or.inr fun _ => rfl
    | exact Or.inr ⟨rfl, rfl, rfl⟩
    | exact Or.inr fun _ => ⟨rfl, rfl, rfl⟩
    | exact Or.inr fun _ => ⟨rfl, rfl⟩
    | split
    | dsimp only

theorem actSetIcuEvent_keep (s : State) (x_ : Sentence) (ws : List Word) {k0 : Nat} {z0 : State} (hk : Nat.land 0x20000001f00 k0 = 0x20000001f00) (hz : Keep k0 z0 s) : Keep k0 z0 (actSetIcuEvent s x_ ws).1 := by
  refine Keep.step ?_ hk hz
  unfold actSetIcuEvent
  try simp -zeta only [State.fold_ev]
  repeat' first
    | with_reducible refine Keep.ite ?_ ?_
    | intro u hu
    | with_reducible apply State.settleIcu_keep
    | with_reducible apply Keep.set_ev
    | with_reducible exact Keep.refl _ _
    | with_reducible assumption
    | exact rfl
    | exact id
    | exact Or.inl rfl
    | exact Or.inr rfl
    | exact Or.inr (List.prefix_refl _)
    | exact Or.inr fun _ => rfl
    | exact Or.inr ⟨rfl, rfl, rfl⟩
    | exact Or.inr fun _ => ⟨rfl, rfl, rfl⟩
    | exact Or.inr fun _ => ⟨rfl, rfl⟩
    | split
    | dsimp only

theorem procSetIcuEvent_keep  (a : Sentence) (s : State) {k0 : Nat} {z0 : State} (hk : Nat.land 0x420000001f80 k0 = 0x420000001f80) (hz : Keep k0 z0 s) : Keep k0 z0 (procSetIcuEvent  a s) := by
  refine Keep.step ?_ hk hz
  unfold procSetIcuEvent
  refine process_keep _ _ _ _ _ _ 0x20000001f00 (fun u ws => ?_) rfl rfl rfl (Keep.refl _ _)
  repeat' first
    | with_reducible refine Keep.ite ?_ ?_
    | intro u hu
    | with_reducible apply actSetIcuEvent_keep
    | with_reducible exact Keep.refl _ _
    | with_reducible assumption
    | exact rfl
    | exact id
    | exact Or.inl rfl
    | exact Or.inr rfl
    | exact Or.inr (List.prefix_refl _)
    | exact Or.inr fun _ => rfl
    | exact Or.inr ⟨rfl, rfl, rfl⟩
    | exact Or.inr fun _ => ⟨rfl, rfl, rfl⟩
    | exact Or.inr fun _ => ⟨rfl, rfl⟩
    | split
    | dsimp only

theorem execSetIcuEvent_keep (m : Sentence) (s : State) {t : State} (h : execSetIcuEvent m s = .next t) : Keep 0x420000001f80 s t := by
  unfold execSetIcuEvent at h
  injection h with h
  subst h
  repeat' first
    | with_reducible refine Keep.ite ?_ ?_
    | intro u hu
    | with_reducible apply submit_keep
    | with_reducible apply procSetIcuEvent_keep
    | with_reducible exact Keep.refl _ _
    | with_reducible assumption
    | exact rfl
    | exact id
    | exact Or.inl rfl
    | exact Or.inr rfl
    | exact Or.inr (List.prefix_refl _)
    | exact Or.inr fun _ => rfl
    | exact Or.inr ⟨rfl, rfl, rfl⟩
    | exact Or.inr fun _ => ⟨rfl, rfl, rfl⟩
    | exact Or.inr fun _ => ⟨rfl, rfl⟩
    | split
    | dsimp only

theorem procGetIcuMgt_keep  (a : Sentence) (s : State) {k0 : Nat} {z0 : State} (hk : Nat.land 0x420000001b80 k0 = 0x420000001b80) (hz : Keep k0 z0 s) : Keep k0 z0 (procGetIcuMgt  a s) := by
  refine Keep.step ?_ hk hz
  unfold procGetIcuMgt
  refine process_keep _ _ _ _ _ _ 0x0 (fun u ws => ?_) rfl rfl rfl (Keep.refl _ _)
  repeat' first
    | exact getAct_keep ..

theorem execGetIcuMgt_keep (m : Sentence) (s : State) {t : State} (h : execGetIcuMgt m s = .next t) : Keep 0x420000001b80 s t := by
  unfold execGetIcuMgt at h
  injection h with h
  subst h
  repeat' first
    | with_reducible refine Keep.ite ?_ ?_
    | intro u hu
    | with_reducible apply submit_keep
    | with_reducible apply procGetIcuMgt_keep
    | with_reducible exact Keep.refl _ _
    | with_reducible assumption
    | exact rfl
    | exact id
    | exact Or.inl rfl
    | exact Or.inr rfl
    | exact Or.inr (List.prefix_refl _)
    | exact Or.inr fun _ => rfl
    | exact Or.inr ⟨rfl, rfl, rfl⟩
    | exact Or.inr fun _ => ⟨rfl, rfl, rfl⟩
    | exact Or.inr fun _ => ⟨rfl, rfl⟩
    | split
    | dsimp only

theorem actIcuMgt_keep (s : State) (x_ : Sentence) (ws : List Word) {k0 : Nat} {z0 : State} (hk : Nat.land 0x20000001b00 k0 = 0x20000001b00) (hz : Keep k0 z0 s) : Keep k0 z0 (actIcuMgt s x_ ws).1 := by
  refine Keep.step ?_ hk hz
  unfold actIcuMgt
  repeat' first
    | with_reducible refine Keep.ite ?_ ?_
    | intro u hu
    | with_reducible apply State.icuEnable_keep
    | with_reducible exact Keep.refl _ _
    | with_reducible assumption
    | exact rfl
    | exact id
    | exact Or.inl rfl
    | exact Or.inr rfl
    | exact Or.inr (List.prefix_refl _)
    | exact Or.inr fun _ => rfl
    | exact Or.inr ⟨rfl, rfl, rfl⟩
    | exact Or.inr fun _ => ⟨rfl, rfl, rfl⟩
    | exact Or.inr fun _ => ⟨rfl, rfl⟩
    | split
    | dsimp only

theorem procSetIcuMgt_keep  (a : Sentence) (s : State) {k0 : Nat} {z0 : State} (hk : Nat.land 0x420000001b80 k0 = 0x420000001b80) (hz : Keep k0 z0 s) : Keep k0 z0 (procSetIcuMgt  a s) := by
  refine Keep.step ?_ hk hz
  unfold procSetIcuMgt
  refine process_keep _ _ _ _ _ _ 0x20000001b00 (fun u ws => ?_) rfl rfl rfl (Keep.refl _ _)
  repeat' first
    | with_reducible refine Keep.ite ?_ ?_
    | intro u hu
    | with_reducible apply actIcuMgt_keep
    | with_reducible exact Keep.refl _ _
    | with_reducible assumption
    | exact rfl
    | exact id
    | exact Or.inl rfl
    | exact Or.inr rfl
    | exact Or.inr (List.prefix_refl _)
    | exact Or.inr fun _ => rfl
    | exact Or.inr ⟨rfl, rfl, rfl⟩
    | exact Or.inr fun _ => ⟨rfl, rfl, rfl⟩
    | exact Or.inr fun _ => ⟨rfl, rfl⟩
    | split
    | dsimp only

theorem execSetIcuMgt_keep (m : Sentence) (s : State) {t : State} (h : execSetIcuMgt m s = .next t) : Keep 0x420000001b80 s t := by
  unfold execSetIcuMgt at h
  injection h with h
  subst h
  repeat' first
    | with_reducible refine Keep.ite ?_ ?_
    | intro u hu
    | with_reducible apply submit_keep
    | with_reducible apply procSetIcuMgt_keep
    | with_reducible exact Keep.refl _ _
    | with_reducible assumption
    | exact rfl
    | exact id
    | exact Or.inl rfl
    | exact Or.inr rfl
    | exact Or.inr (List.prefix_refl _)
    | exact Or.inr fun _ => rfl
    | exact Or.inr ⟨rfl, rfl, rfl⟩
    | exact Or.inr fun _ => ⟨rfl, rfl, rfl⟩
    | exact Or.inr fun _ => ⟨rfl, rfl⟩
    | split
    | dsimp only

theorem State.modFw_keep (s : State) (f : Fw → Fw) {k0 : Nat} {z0 : State} (hk : Nat.land 0x100000000000 k0 = 0x100000000000) (hz : Keep k0 z0 s) : Keep k0 z0 (State.modFw s f) := by
  refine Keep.step ?_ hk hz
  unfold State.modFw
  try simp -zeta only [State.fold_fw]
  repeat' first
    | with_reducible refine Keep.ite ?_ ?_
    | with_reducible apply Keep.set_fw
    | with_reducible exact Keep.refl _ _
    | with_reducible assumption
    | exact rfl
    | exact id
    | exact Or.inl rfl
    | exact Or.inr rfl
    | exact Or.inr (List.prefix_refl _)
    | exact Or.inr fun _ => rfl
    | exact Or.inr ⟨rfl, rfl, rfl⟩
    | exact Or.inr fun _ => ⟨rfl, rfl, rfl⟩
    | exact Or.inr fun _ => ⟨rfl, rfl⟩
    | split
    | dsimp only

theorem actLoadKernel_keep (s : State) (m : Sentence) (ws : List Word) {k0 : Nat} {z0 : State} (hk : Nat.land 0x100000000 k0 = 0x100000000) (hz : Keep k0 z0 s) : Keep k0 z0 (actLoadKernel s m ws).1 := by
  refine Keep.step ?_ hk hz
  unfold actLoadKernel
  try simp -zeta only [State.fold_hinge]
  repeat' first
    | with_reducible refine Keep.ite ?_ ?_
    | intro u hu
    | with_reducible apply Keep.set_hinge
    | with_reducible exact Keep.refl _ _
    | with_reducible assumption
    | exact rfl
    | exact id
    | exact Or.inl rfl
    | exact Or.inr rfl
    | exact Or.inr (List.prefix_refl _)
    | exact Or.inr fun _ => rfl
    | exact Or.inr ⟨rfl, rfl, rfl⟩
    | exact Or.inr fun _ => ⟨rfl, rfl, rfl⟩
    | exact Or.inr fun _ => ⟨rfl, rfl⟩
    | split
    | dsimp only

theorem procLoadSeaKernel_keep  (a : Sentence) (s : State) {k0 : Nat} {z0 : State} (hk : Nat.land 0x420100001b80 k0 = 0x420100001b80) (hz : Keep k0 z0 s) : Keep k0 z0 (procLoadSeaKernel  a s) := by
  refine Keep.step ?_ hk hz
  unfold procLoadSeaKernel
  refine process_keep _ _ _ _ _ _ 0x100000000 (fun u ws => ?_) rfl rfl rfl (Keep.refl _ _)
  repeat' first
    | with_reducible refine Keep.ite ?_ ?_
    | intro u hu
    | with_reducible apply actLoadKernel_keep
    | with_reducible exact Keep.refl _ _
    | with_reducible assumption
    | exact rfl
    | exact id
    | exact Or.inl rfl
    | exact Or.inr rfl
    | exact Or.inr (List.prefix_refl _)
    | exact Or.inr fun _ => rfl
    | exact Or.inr ⟨rfl, rfl, rfl⟩
    | exact Or.inr fun _ => ⟨rfl, rfl, rfl⟩
    | exact Or.inr fun _ => ⟨rfl, rfl⟩
    | split
    | dsimp only

theorem execLoadSeaKernel_keep (m : Sentence) (s : State) {t : State} (h : execLoadSeaKernel m s = .next t) : Keep 0x420100001b80 s t := by
  unfold execLoadSeaKernel at h
  injection h with h
  subst h
  repeat' first
    | with_reducible refine Keep.ite ?_ ?_
    | intro u hu
    | with_reducible apply submit_keep
    | with_reducible apply procLoadSeaKernel_keep
    | with_reducible exact Keep.refl _ _
    | with_reducible assumption
    | exact rfl
    | exact id
    | exact Or.inl rfl
    | exact Or.inr rfl
    | exact Or.inr (List.prefix_refl _)
    | exact Or.inr fun _ => rfl
    | exact Or.inr ⟨rfl, rfl, rfl⟩
    | exact Or.inr fun _ => ⟨rfl, rfl, rfl⟩
    | exact Or.inr fun _ => ⟨rfl, rfl⟩
    | split
    | dsimp only

theorem actLoadFw_keep (s : State) (m : Sentence) (ws : List Word) {k0 : Nat} {z0 : State} (hk : Nat.land 0x100000000000 k0 = 0x100000000000) (hz : Keep k0 z0 s) : Keep k0 z0 (actLoadFw s m ws).1 := by
  refine Keep.step ?_ hk hz
  unfold actLoadFw
  repeat' first
    | with_reducible refine Keep.ite ?_ ?_
    | intro u hu
    | with_reducible apply State.modFw_keep
    | with_reducible exact Keep.refl _ _
    | with_reducible assumption
    | exact rfl
    | exact id
    | exact Or.inl rfl
    | exact Or.inr rfl
    | exact Or.inr (List.prefix_refl _)
    | exact Or.inr fun _ => rfl
    | exact Or.inr ⟨rfl, rfl, rfl⟩
    | exact Or.inr fun _ => ⟨rfl, rfl, rfl⟩
    | exact Or.inr fun _ => ⟨rfl, rfl⟩
    | split
    | dsimp only

theorem procLoadFwImage_keep  (a : Sentence) (s : State) {k0 : Nat} {z0 : State} (hk : Nat.land 0x520000001b80 k0 = 0x520000001b80) (hz : Keep k0 z0 s) : Keep k0 z0 (procLoadFwImage  a s) := by
  refine Keep.step ?_ hk hz
  unfold procLoadFwImage
  refine process_keep _ _ _ _ _ _ 0x100000000000 (fun u ws => ?_) rfl rfl rfl (Keep.refl _ _)
  repeat' first
    | with_reducible refine Keep.ite ?_ ?_
    | intro u hu
    | with_reducible apply actLoadFw_keep
    | with_reducible exact Keep.refl _ _
    | with_reducible assumption
    | exact rfl
    | exact id
    | exact Or.inl rfl
    | exact Or.inr rfl
    | exact Or.inr (List.prefix_refl _)
    | exact Or.inr fun _ => rfl
    | exact Or.inr ⟨rfl, rfl, rfl⟩
    | exact Or.inr fun _ => ⟨rfl, rfl, rfl⟩
    | exact Or.inr fun _ => ⟨rfl, rfl⟩
    | split
    | dsimp only

theorem execLoadFwImage_keep (m : Sentence) (s : State) {t : State} (h : execLoadFwImage m s = .next t) : Keep 0x520000001b80 s t := by
  unfold execLoadFwImage at h
  injection h with h
  subst h
  repeat' first
    | with_reducible refine Keep.ite ?_ ?_
    | intro u hu
    | with_reducible apply submit_keep
    | with_reducible apply procLoadFwImage_keep
    | with_reducible exact Keep.refl _ _
    | with_reducible assumption
    | exact rfl
    | exact id
    | exact Or.inl rfl
    | exact Or.inr rfl
    | exact Or.inr (List.prefix_refl _)
    | exact Or.inr fun _ => rfl
    | exact Or.inr ⟨rfl, rfl, rfl⟩
    | exact Or.inr fun _ => ⟨rfl, rfl, rfl⟩
    | exact Or.inr fun _ => ⟨rfl, rfl⟩
    | split
    | dsimp only

theorem State.enterKernel_keep (s : State) (i : Image) {k0 : Nat} {z0 : State} (hk : Nat.land 0x20100001b80 k0 = 0x20100001b80) (hz : Keep k0 z0 s) : Keep k0 z0 (State.enterKernel s i) := by
  refine Keep.step ?_ hk hz
  unfold State.enterKernel
  try simp -zeta only [State.fold_hinge]
  repeat' first
    | with_reducible refine Keep.ite ?_ ?_
    | with_reducible apply State.finishOpt_keep
    | with_reducible apply State.raise_keep
    | with_reducible apply Keep.set_hinge
    | with_reducible exact Keep.refl _ _
    | with_reducible assumption
    | exact rfl
    | exact id
    | exact Or.inl rfl
    | exact Or.inr rfl
    | exact Or.inr (List.prefix_refl _)
    | exact Or.inr fun _ => rfl
    | exact Or.inr ⟨rfl, rfl, rfl⟩
    | exact Or.inr fun _ => ⟨rfl, rfl, rfl⟩
    | exact Or.inr fun _ => ⟨rfl, rfl⟩
    | split
    | dsimp only

theorem State.kernelChecked_keep (s : State) (sigOk digestOk : Bool) {k0 : Nat} {z0 : State} (hk : Nat.land 0x20100001b80 k0 = 0x20100001b80) (hz : Keep k0 z0 s) : Keep k0 z0 (State.kernelChecked s sigOk digestOk) := by
  refine Keep.step ?_ hk hz
  unfold State.kernelChecked
  try simp -zeta only [State.fold_hinge]
  repeat' first
    | with_reducible refine Keep.ite ?_ ?_
    | with_reducible apply State.finishOpt_keep
    | with_reducible apply State.enterKernel_keep
    | with_reducible apply Keep.set_hinge
    | with_reducible exact Keep.refl _ _
    | with_reducible assumption
    | exact rfl
    | exact id
    | exact Or.inl rfl
    | exact Or.inr rfl
    | exact Or.inr (List.prefix_refl _)
    | exact Or.inr fun _ => rfl
    | exact Or.inr ⟨rfl, rfl, rfl⟩
    | exact Or.inr fun _ => ⟨rfl, rfl, rfl⟩
    | exact Or.inr fun _ => ⟨rfl, rfl⟩
    | split
    | dsimp only

theorem State.paneChecked_keep (s : State) (sigOk digestOk : Bool) {k0 : Nat} {z0 : State} (hk : Nat.land 0x120000001b80 k0 = 0x120000001b80) (hz : Keep k0 z0 s) : Keep k0 z0 (State.paneChecked s sigOk digestOk) := by
  refine Keep.step ?_ hk hz
  unfold State.paneChecked
  repeat' first
    | with_reducible refine Keep.ite ?_ ?_
    | with_reducible apply State.modFw_keep
    | with_reducible apply State.finishOpt_keep
    | with_reducible exact Keep.refl _ _
    | with_reducible assumption
    | exact rfl
    | exact id
    | exact Or.inl rfl
    | exact Or.inr rfl
    | exact Or.inr (List.prefix_refl _)
    | exact Or.inr fun _ => rfl
    | exact Or.inr ⟨rfl, rfl, rfl⟩
    | exact Or.inr fun _ => ⟨rfl, rfl, rfl⟩
    | exact Or.inr fun _ => ⟨rfl, rfl⟩
    | split
    | dsimp only

theorem execImageCheckDone_keep (kernel sigOk digestOk : Bool) (s : State) {t : State} (h : execImageCheckDone kernel sigOk digestOk s = .next t) : Keep 0x120100001b80 s t := by
  unfold execImageCheckDone at h
  injection h with h
  subst h
  repeat' first
    | with_reducible refine Keep.ite ?_ ?_
    | intro u hu
    | with_reducible apply State.kernelChecked_keep
    | with_reducible apply State.paneChecked_keep
    | with_reducible exact Keep.refl _ _
    | with_reducible assumption
    | exact rfl
    | exact id
    | exact Or.inl rfl
    | exact Or.inr rfl
    | exact Or.inr (List.prefix_refl _)
    | exact Or.inr fun _ => rfl
    | exact Or.inr ⟨rfl, rfl, rfl⟩
    | exact Or.inr fun _ => ⟨rfl, rfl, rfl⟩
    | exact Or.inr fun _ => ⟨rfl, rfl⟩
    | split
    | dsimp only

theorem State.paneWritten_keep (s : State) (i : Image) (ok : Bool) {k0 : Nat} {z0 : State} (hk : Nat.land 0x120100001b82 k0 = 0x120100001b82) (hz : Keep k0 z0 s) : Keep k0 z0 (State.paneWritten s i ok) := by
  refine Keep.step ?_ hk hz
  unfold State.paneWritten
  try simp -zeta only [State.fold_hinge]
  repeat' first
    | with_reducible refine Keep.ite ?_ ?_
    | with_reducible apply State.freeNext_keep
    | with_reducible apply State.modFw_keep
    | with_reducible apply State.finishOpt_keep
    | with_reducible apply Keep.set_hinge
    | with_reducible exact Keep.refl _ _
    | with_reducible assumption
    | exact rfl
    | exact id
    | exact Or.inl rfl
    | exact Or.inr rfl
    | exact Or.inr (List.prefix_refl _)
    | exact Or.inr fun _ => rfl
    | exact Or.inr ⟨rfl, rfl, rfl⟩
    | exact Or.inr fun _ => ⟨rfl, rfl, rfl⟩
    | exact Or.inr fun _ => ⟨rfl, rfl⟩
    | split
    | dsimp only

theorem execFwImageWritten_keep (ok : Bool) (s : State) {t : State} (h : execFwImageWritten ok s = .next t) : Keep 0x120100001b82 s t := by
  unfold execFwImageWritten at h
  injection h with h
  subst h
  repeat' first
    | with_reducible refine Keep.ite ?_ ?_
    | intro u hu
    | with_reducible apply State.paneWritten_keep
    | with_reducible exact Keep.refl _ _
    | with_reducible assumption
    | exact rfl
    | exact id
    | exact Or.inl rfl
    | exact Or.inr rfl
    | exact Or.inr (List.prefix_refl _)
    | exact Or.inr fun _ => rfl
    | exact Or.inr ⟨rfl, rfl, rfl⟩
    | exact Or.inr fun _ => ⟨rfl, rfl, rfl⟩
    | exact Or.inr fun _ => ⟨rfl, rfl⟩
    | split
    | dsimp only

theorem procGetFwImage_keep  (a : Sentence) (s : State) {k0 : Nat} {z0 : State} (hk : Nat.land 0x420000001b80 k0 = 0x420000001b80) (hz : Keep k0 z0 s) : Keep k0 z0 (procGetFwImage  a s) := by
  refine Keep.step ?_ hk hz
  unfold procGetFwImage
  refine process_keep _ _ _ _ _ _ 0x0 (fun u ws => ?_) rfl rfl rfl (Keep.refl _ _)
  repeat' first
    | exact getAct_keep ..

theorem execGetFwImage_keep (m : Sentence) (s : State) {t : State} (h : execGetFwImage m s = .next t) : Keep 0x420000001b80 s t := by
  unfold execGetFwImage at h
  injection h with h
  subst h
  repeat' first
    | with_reducible refine Keep.ite ?_ ?_
    | intro u hu
    | with_reducible apply submit_keep
    | with_reducible apply procGetFwImage_keep
    | with_reducible exact Keep.refl _ _
    | with_reducible assumption
    | exact rfl
    | exact id
    | exact Or.inl rfl
    | exact Or.inr rfl
    | exact Or.inr (List.prefix_refl _)
    | exact Or.inr fun _ => rfl
    | exact Or.inr ⟨rfl, rfl, rfl⟩
    | exact Or.inr fun _ => ⟨rfl, rfl, rfl⟩
    | exact Or.inr fun _ => ⟨rfl, rfl⟩
    | split
    | dsimp only

theorem procGetFwPane_keep  (a : Sentence) (s : State) {k0 : Nat} {z0 : State} (hk : Nat.land 0x420000001b80 k0 = 0x420000001b80) (hz : Keep k0 z0 s) : Keep k0 z0 (procGetFwPane  a s) := by
  refine Keep.step ?_ hk hz
  unfold procGetFwPane
  refine process_keep _ _ _ _ _ _ 0x0 (fun u ws => ?_) rfl rfl rfl (Keep.refl _ _)
  repeat' first
    | exact getAct_keep ..

theorem execGetFwPane_keep (m : Sentence) (s : State) {t : State} (h : execGetFwPane m s = .next t) : Keep 0x420000001b80 s t := by
  unfold execGetFwPane at h
  injection h with h
  subst h
  repeat' first
    | with_reducible refine Keep.ite ?_ ?_
    | intro u hu
    | with_reducible apply submit_keep
    | with_reducible apply procGetFwPane_keep
    | with_reducible exact Keep.refl _ _
    | with_reducible assumption
    | exact rfl
    | exact id
    | exact Or.inl rfl
    | exact Or.inr rfl
    | exact Or.inr (List.prefix_refl _)
    | exact Or.inr fun _ => rfl
    | exact Or.inr ⟨rfl, rfl, rfl⟩
    | exact Or.inr fun _ => ⟨rfl, rfl, rfl⟩
    | exact Or.inr fun _ => ⟨rfl, rfl⟩
    | split
    | dsimp only

theorem State.fold_dev_fw (t : State) (dev' : type_of% t.dev) (fw' : type_of% t.fw) :
    State.mk t.pending t.free t.fuses dev' t.shut t.mb t.ev t.icu t.hif t.err t.tku t.params t.stats t.line t.host t.group t.port t.block t.eng t.hinge t.lex t.mem t.rep t.ocu t.cal t.thm t.tst t.pmc t.pwr fw' t.cap = ((t.withDev dev').withFw fw') := rfl

theorem actSwitch_keep (s : State) (m : Sentence) (ws : List Word) {k0 : Nat} {z0 : State} (hk : Nat.land 0x100000000328 k0 = 0x100000000328) (hz : Keep k0 z0 s) : Keep k0 z0 (actSwitch s m ws).1 := by
  refine Keep.step ?_ hk hz
  unfold actSwitch
  try simp -zeta only [State.fold_dev_fw, State.fold_dev, State.fold_fw]
  repeat' first
    | with_reducible refine Keep.ite ?_ ?_
    | intro u hu
    | with_reducible apply State.modFw_keep
    | with_reducible apply State.setMode_keep
    | with_reducible apply Keep.set_dev
    | with_reducible apply Keep.set_fw
    | with_reducible exact Keep.refl _ _
    | with_reducible assumption
    | exact rfl
    | exact id
    | exact Or.inl rfl
    | exact Or.inr rfl
    | exact Or.inr (List.prefix_refl _)
    | exact Or.inr fun _ => rfl
    | exact Or.inr ⟨rfl, rfl, rfl⟩
    | exact Or.inr fun _ => ⟨rfl, rfl, rfl⟩
    | exact Or.inr fun _ => ⟨rfl, rfl⟩
    | split
    | dsimp only

theorem procSwitchFwPane_keep  (a : Sentence) (s : State) {k0 : Nat} {z0 : State} (hk : Nat.land 0x520000001ba8 k0 = 0x520000001ba8) (hz : Keep k0 z0 s) : Keep k0 z0 (procSwitchFwPane  a s) := by
  refine Keep.step ?_ hk hz
  unfold procSwitchFwPane
  refine process_keep _ _ _ _ _ _ 0x100000000328 (fun u ws => ?_) rfl rfl rfl (Keep.refl _ _)
  repeat' first
    | with_reducible refine Keep.ite ?_ ?_
    | intro u hu
    | with_reducible apply actSwitch_keep
    | with_reducible exact Keep.refl _ _
    | with_reducible assumption
    | exact rfl
    | exact id
    | exact Or.inl rfl
    | exact Or.inr rfl
    | exact Or.inr (List.prefix_refl _)
    | exact Or.inr fun _ => rfl
    | exact Or.inr ⟨rfl, rfl, rfl⟩
    | exact Or.inr fun _ => ⟨rfl, rfl, rfl⟩
    | exact Or.inr fun _ => ⟨rfl, rfl⟩
    | split
    | dsimp only

theorem execSwitchFwPane_keep (m : Sentence) (s : State) {t : State} (h : execSwitchFwPane m s = .next t) : Keep 0x520000001ba8 s t := by
  unfold execSwitchFwPane at h
  injection h with h
  subst h
  repeat' first
    | with_reducible refine Keep.ite ?_ ?_
    | intro u hu
    | with_reducible apply submit_keep
    | with_reducible apply procSwitchFwPane_keep
    | with_reducible exact Keep.refl _ _
    | with_reducible assumption
    | exact rfl
    | exact id
    | exact Or.inl rfl
    | exact Or.inr rfl
    | exact Or.inr (List.prefix_refl _)
    | exact Or.inr fun _ => rfl
    | exact Or.inr ⟨rfl, rfl, rfl⟩
    | exact Or.inr fun _ => ⟨rfl, rfl, rfl⟩
    | exact Or.inr fun _ => ⟨rfl, rfl⟩
    | split
    | dsimp only

theorem State.switchFail_keep (s : State) {k0 : Nat} {z0 : State} (hk : Nat.land 0x120000005b88 k0 = 0x120000005b88) (hz : Keep k0 z0 s) : Keep k0 z0 (State.switchFail s) := by
  refine Keep.step ?_ hk hz
  unfold State.switchFail
  repeat' first
    | with_reducible refine Keep.ite ?_ ?_
    | with_reducible apply State.modFw_keep
    | with_reducible apply State.finishOpt_keep
    | with_reducible apply State.raise_keep
    | with_reducible apply State.errAll_keep
    | with_reducible apply State.settle_keep
    | with_reducible exact Keep.refl _ _
    | with_reducible assumption
    | exact rfl
    | exact id
    | exact Or.inl rfl
    | exact Or.inr rfl
    | exact Or.inr (List.prefix_refl _)
    | exact Or.inr fun _ => rfl
    | exact Or.inr ⟨rfl, rfl, rfl⟩
    | exact Or.inr fun _ => ⟨rfl, rfl, rfl⟩
    | exact Or.inr fun _ => ⟨rfl, rfl⟩
    | split
    | dsimp only

theorem execPaneLoaded_keep (ok : Bool) (s : State) {t : State} (h : execPaneLoaded ok s = .next t) : Keep 0x120000005b88 s t := by
  unfold execPaneLoaded at h
  injection h with h
  subst h
  repeat' first
    | with_reducible refine Keep.ite ?_ ?_
    | intro u hu
    | with_reducible apply State.modFw_keep
    | with_reducible apply State.switchFail_keep
    | with_reducible exact Keep.refl _ _
    | with_reducible assumption
    | exact rfl
    | exact id
    | exact Or.inl rfl
    | exact Or.inr rfl
    | exact Or.inr (List.prefix_refl _)
    | exact Or.inr fun _ => rfl
    | exact Or.inr ⟨rfl, rfl, rfl⟩
    | exact Or.inr fun _ => ⟨rfl, rfl, rfl⟩
    | exact Or.inr fun _ => ⟨rfl, rfl⟩
    | split
    | dsimp only

theorem execFirmwareStateSaved_keep (s : State) {t : State} (h : execFirmwareStateSaved s = .next t) : Keep 0x100000000000 s t := by
  unfold execFirmwareStateSaved at h
  injection h with h
  subst h
  repeat' first
    | with_reducible refine Keep.ite ?_ ?_
    | intro u hu
    | with_reducible apply State.modFw_keep
    | with_reducible exact Keep.refl _ _
    | with_reducible assumption
    | exact rfl
    | exact id
    | exact Or.inl rfl
    | exact Or.inr rfl
    | exact Or.inr (List.prefix_refl _)
    | exact Or.inr fun _ => rfl
    | exact Or.inr ⟨rfl, rfl, rfl⟩
    | exact Or.inr fun _ => ⟨rfl, rfl, rfl⟩
    | exact Or.inr fun _ => ⟨rfl, rfl⟩
    | split
    | dsimp only

theorem State.markActive_keep (s : State) {k0 : Nat} {z0 : State} (hk : Nat.land 0x120000001b80 k0 = 0x120000001b80) (hz : Keep k0 z0 s) : Keep k0 z0 (State.markActive s) := by
  refine Keep.step ?_ hk hz
  unfold State.markActive
  repeat' first
    | with_reducible refine Keep.ite ?_ ?_
    | with_reducible apply State.modFw_keep
    | with_reducible apply State.finishOpt_keep
    | with_reducible apply State.raise_keep
    | with_reducible exact Keep.refl _ _
    | with_reducible assumption
    | exact rfl
    | exact id
    | exact Or.inl rfl
    | exact Or.inr rfl
    | exact Or.inr (List.prefix_refl _)
    | exact Or.inr fun _ => rfl
    | exact Or.inr ⟨rfl, rfl, rfl⟩
    | exact Or.inr fun _ => ⟨rfl, rfl, rfl⟩
    | exact Or.inr fun _ => ⟨rfl, rfl⟩
    | split
    | dsimp only

theorem execPaneMarkedActive_keep (s : State) {t : State} (h : execPaneMarkedActive s = .next t) : Keep 0x120000001b80 s t := by
  unfold execPaneMarkedActive at h
  injection h with h
  subst h
  repeat' first
    | with_reducible refine Keep.ite ?_ ?_
    | intro u hu
    | with_reducible apply State.markActive_keep
    | with_reducible exact Keep.refl _ _
    | with_reducible assumption
    | exact rfl
    | exact id
    | exact Or.inl rfl
    | exact Or.inr rfl
    | exact Or.inr (List.prefix_refl _)
    | exact Or.inr fun _ => rfl
    | exact Or.inr ⟨rfl, rfl, rfl⟩
    | exact Or.inr fun _ => ⟨rfl, rfl, rfl⟩
    | exact Or.inr fun _ => ⟨rfl, rfl⟩
    | split
    | dsimp only

theorem procGetDevMode_keep  (a : Sentence) (s : State) {k0 : Nat} {z0 : State} (hk : Nat.land 0x420000001b80 k0 = 0x420000001b80) (hz : Keep k0 z0 s) : Keep k0 z0 (procGetDevMode  a s) := by
  refine Keep.step ?_ hk hz
  unfold procGetDevMode
  refine process_keep _ _ _ _ _ _ 0x0 (fun u ws => ?_) rfl rfl rfl (Keep.refl _ _)
  repeat' first
    | exact getAct_keep ..

theorem execGetDevMode_keep (m : Sentence) (s : State) {t : State} (h : execGetDevMode m s = .next t) : Keep 0x420000001b80 s t := by
  unfold execGetDevMode at h
  injection h with h
  subst h
  repeat' first
    | with_reducible refine Keep.ite ?_ ?_
    | intro u hu
    | with_reducible apply submit_keep
    | with_reducible apply procGetDevMode_keep
    | with_reducible exact Keep.refl _ _
    | with_reducible assumption
    | exact rfl
    | exact id
    | exact Or.inl rfl
    | exact Or.inr rfl
    | exact Or.inr (List.prefix_refl _)
    | exact Or.inr fun _ => rfl
    | exact Or.inr ⟨rfl, rfl, rfl⟩
    | exact Or.inr fun _ => ⟨rfl, rfl, rfl⟩
    | exact Or.inr fun _ => ⟨rfl, rfl⟩
    | split
    | dsimp only

theorem State.datapathOff_keep (s : State) {k0 : Nat} {z0 : State} (hk : Nat.land 0xb2383221ba2 k0 = 0xb2383221ba2) (hz : Keep k0 z0 s) : Keep k0 z0 (State.datapathOff s) := by
  refine Keep.step ?_ hk hz
  unfold State.datapathOff
  have h1 : Keep 0xb2383221ba2 s (if s.dev.powered && s.unitOn fLex then s.startPass false false [] else s) :=
    Keep.ite (State.startPass_keep _ _ _ _ rfl (Keep.refl _ _)) (Keep.refl _ _)
  generalize (if s.dev.powered && s.unitOn fLex then s.startPass false false [] else s) = s1 at h1
  have h2 : Keep 0xb2383221ba2 s ((List.range s1.lines).foldl (fun s l => (s.pltTruncate l).pltDiscard l) s1).stopHinge.vcoreIdle :=
    State.vcoreIdle_keep _ rfl (State.stopHinge_keep _ rfl
      (Keep.foldl _ (fun u x hu => State.pltDiscard_keep _ _ rfl (State.pltTruncate_keep _ _ rfl hu)) h1))
  dsimp only
  generalize ((List.range s1.lines).foldl (fun s l => (s.pltTruncate l).pltDiscard l) s1).stopHinge.vcoreIdle = s3 at h2
  exact State.axIdleAll_keep _ rfl (Keep.set_dev (x := { s3.dev with powered := false })
    (.inr (by exact ⟨rfl, rfl, rfl⟩)) (.inr (by exact rfl)) (.inl rfl) h2)

theorem actEnter_keep (s : State) (m : Sentence) (ws : List Word) {k0 : Nat} {z0 : State} (hk : Nat.land 0x2b63bfff5baa k0 = 0x2b63bfff5baa) (hz : Keep k0 z0 s) : Keep k0 z0 (actEnter s m ws).1 := by
  refine Keep.step ?_ hk hz
  rw [actEnter.eq_1]
  have h1 : Keep 0x2b63bfff5baa s ((if s.dev.mode = .workshop then s.leaveTests else s).endEnter cStateRefused 1) :=
    State.endEnter_keep _ _ _ rfl (Keep.ite (State.leaveTests_keep _ rfl (Keep.refl _ _)) (Keep.refl _ _))
  generalize (if s.dev.mode = .workshop then s.leaveTests else s).endEnter cStateRefused 1 = s1 at h1
  generalize enterTarget (ws.getD 0 0).toNat = t
  have h2 : Keep 0x2b63bfff5baa s (s1.setMode t (enterTrigger s.dev.mode t)) := State.setMode_keep _ _ _ rfl h1
  generalize s1.setMode t (enterTrigger s.dev.mode t) = s2 at h2
  have h3 : Keep 0x2b63bfff5baa s (if t = .dormant then s2.datapathOff else s2) := Keep.ite (State.datapathOff_keep _ rfl h2) h2
  dsimp only
  generalize (if t = .dormant then s2.datapathOff else s2) = s3 at h3
  have h4 : Keep 0x2b63bfff5baa s ((s3.withDev { s3.dev with enterWait := [m] }).follow) :=
    State.follow_keep _ rfl (Keep.set_dev (.inr (by exact ⟨rfl, rfl, rfl⟩)) (.inr (by exact rfl)) (.inl rfl) h3)
  have h5 : Keep 0x2b63bfff5baa s s3.follow := State.follow_keep _ rfl h3
  show Keep 0x2b63bfff5baa s (if t = .dormant ∨ s3.dev.powered then (s3.follow, okDone)
    else ((s3.withDev { s3.dev with enterWait := [m] }).follow, .wait)).1
  generalize s3.follow = a at h5 ⊢
  generalize (s3.withDev { s3.dev with enterWait := [m] }).follow = b at h4 ⊢
  split
  · exact h5
  · exact h4

theorem procEnterDevMode_keep  (a : Sentence) (s : State) {k0 : Nat} {z0 : State} (hk : Nat.land 0x6b63bfff5baa k0 = 0x6b63bfff5baa) (hz : Keep k0 z0 s) : Keep k0 z0 (procEnterDevMode  a s) := by
  refine Keep.step ?_ hk hz
  unfold procEnterDevMode
  refine process_keep _ _ _ _ _ _ 0x2b63bfff5baa (fun u ws => ?_) rfl rfl rfl (Keep.refl _ _)
  repeat' first
    | with_reducible refine Keep.ite ?_ ?_
    | intro u hu
    | with_reducible apply actEnter_keep
    | with_reducible exact Keep.refl _ _
    | with_reducible assumption
    | exact rfl
    | exact id
    | exact Or.inl rfl
    | exact Or.inr rfl
    | exact Or.inr (List.prefix_refl _)
    | exact Or.inr fun _ => rfl
    | exact Or.inr ⟨rfl, rfl, rfl⟩
    | exact Or.inr fun _ => ⟨rfl, rfl, rfl⟩
    | exact Or.inr fun _ => ⟨rfl, rfl⟩
    | split
    | dsimp only

theorem execEnterDevMode_keep (m : Sentence) (s : State) {t : State} (h : execEnterDevMode m s = .next t) : Keep 0x6b63bfff5baa s t := by
  unfold execEnterDevMode at h
  injection h with h
  subst h
  repeat' first
    | with_reducible refine Keep.ite ?_ ?_
    | intro u hu
    | with_reducible apply submit_keep
    | with_reducible apply procEnterDevMode_keep
    | with_reducible exact Keep.refl _ _
    | with_reducible assumption
    | exact rfl
    | exact id
    | exact Or.inl rfl
    | exact Or.inr rfl
    | exact Or.inr (List.prefix_refl _)
    | exact Or.inr fun _ => rfl
    | exact Or.inr ⟨rfl, rfl, rfl⟩
    | exact Or.inr fun _ => ⟨rfl, rfl, rfl⟩
    | exact Or.inr fun _ => ⟨rfl, rfl⟩
    | split
    | dsimp only

theorem actShutter_keep (s : State) (m : Sentence) (ws : List Word) {k0 : Nat} {z0 : State} (hk : Nat.land 0x3763bfff5bea k0 = 0x3763bfff5bea) (hz : Keep k0 z0 s) : Keep k0 z0 (actShutter s m ws).1 := by
  refine Keep.step ?_ hk hz
  unfold actShutter
  repeat' first
    | with_reducible refine Keep.ite ?_ ?_
    | intro u hu
    | with_reducible apply State.shutStart_keep
    | with_reducible exact Keep.refl _ _
    | with_reducible assumption
    | exact rfl
    | exact id
    | exact Or.inl rfl
    | exact Or.inr rfl
    | exact Or.inr (List.prefix_refl _)
    | exact Or.inr fun _ => rfl
    | exact Or.inr ⟨rfl, rfl, rfl⟩
    | exact Or.inr fun _ => ⟨rfl, rfl, rfl⟩
    | exact Or.inr fun _ => ⟨rfl, rfl⟩
    | split
    | dsimp only

theorem procShutterDevMode_keep  (a : Sentence) (s : State) {k0 : Nat} {z0 : State} (hk : Nat.land 0x7763bfff5bea k0 = 0x7763bfff5bea) (hz : Keep k0 z0 s) : Keep k0 z0 (procShutterDevMode  a s) := by
  refine Keep.step ?_ hk hz
  unfold procShutterDevMode
  refine process_keep _ _ _ _ _ _ 0x3763bfff5bea (fun u ws => ?_) rfl rfl rfl (Keep.refl _ _)
  repeat' first
    | with_reducible refine Keep.ite ?_ ?_
    | intro u hu
    | with_reducible apply actShutter_keep
    | with_reducible exact Keep.refl _ _
    | with_reducible assumption
    | exact rfl
    | exact id
    | exact Or.inl rfl
    | exact Or.inr rfl
    | exact Or.inr (List.prefix_refl _)
    | exact Or.inr fun _ => rfl
    | exact Or.inr ⟨rfl, rfl, rfl⟩
    | exact Or.inr fun _ => ⟨rfl, rfl, rfl⟩
    | exact Or.inr fun _ => ⟨rfl, rfl⟩
    | split
    | dsimp only

theorem execShutterDevMode_keep (m : Sentence) (s : State) {t : State} (h : execShutterDevMode m s = .next t) : Keep 0x7763bfff5bea s t := by
  unfold execShutterDevMode at h
  injection h with h
  subst h
  repeat' first
    | with_reducible refine Keep.ite ?_ ?_
    | intro u hu
    | with_reducible apply submit_keep
    | with_reducible apply procShutterDevMode_keep
    | with_reducible exact Keep.refl _ _
    | with_reducible assumption
    | exact rfl
    | exact id
    | exact Or.inl rfl
    | exact Or.inr rfl
    | exact Or.inr (List.prefix_refl _)
    | exact Or.inr fun _ => rfl
    | exact Or.inr ⟨rfl, rfl, rfl⟩
    | exact Or.inr fun _ => ⟨rfl, rfl, rfl⟩
    | exact Or.inr fun _ => ⟨rfl, rfl⟩
    | split
    | dsimp only

theorem actEnterTest_keep (s : State) (m : Sentence) (x_ : List Word) {k0 : Nat} {z0 : State} (hk : Nat.land 0x2603fdc5b08 k0 = 0x2603fdc5b08) (hz : Keep k0 z0 s) : Keep k0 z0 (actEnterTest s m x_).1 := by
  refine Keep.step ?_ hk hz
  unfold actEnterTest
  repeat' first
    | with_reducible refine Keep.ite ?_ ?_
    | intro u hu
    | with_reducible apply State.huntStart_keep
    | with_reducible apply State.testPorts_keep
    | with_reducible apply State.follow_keep
    | with_reducible apply Keep.modLine
    | with_reducible apply Keep.modHost
    | with_reducible exact Keep.refl _ _
    | with_reducible assumption
    | exact rfl
    | exact id
    | exact Or.inl rfl
    | exact Or.inr rfl
    | exact Or.inr (List.prefix_refl _)
    | exact Or.inr fun _ => rfl
    | exact Or.inr ⟨rfl, rfl, rfl⟩
    | exact Or.inr fun _ => ⟨rfl, rfl, rfl⟩
    | exact Or.inr fun _ => ⟨rfl, rfl⟩
    | split
    | dsimp only

theorem procEnterLaneTest_keep  (a : Sentence) (s : State) {k0 : Nat} {z0 : State} (hk : Nat.land 0x42603fdc5b88 k0 = 0x42603fdc5b88) (hz : Keep k0 z0 s) : Keep k0 z0 (procEnterLaneTest  a s) := by
  refine Keep.step ?_ hk hz
  unfold procEnterLaneTest
  refine process_keep _ _ _ _ _ _ 0x2603fdc5b08 (fun u ws => ?_) rfl rfl rfl (Keep.refl _ _)
  repeat' first
    | with_reducible refine Keep.ite ?_ ?_
    | intro u hu
    | with_reducible apply actEnterTest_keep
    | with_reducible exact Keep.refl _ _
    | with_reducible assumption
    | exact rfl
    | exact id
    | exact Or.inl rfl
    | exact Or.inr rfl
    | exact Or.inr (List.prefix_refl _)
    | exact Or.inr fun _ => rfl
    | exact Or.inr ⟨rfl, rfl, rfl⟩
    | exact Or.inr fun _ => ⟨rfl, rfl, rfl⟩
    | exact Or.inr fun _ => ⟨rfl, rfl⟩
    | split
    | dsimp only

theorem execEnterLaneTest_keep (m : Sentence) (s : State) {t : State} (h : execEnterLaneTest m s = .next t) : Keep 0x42603fdc5b88 s t := by
  unfold execEnterLaneTest at h
  injection h with h
  subst h
  repeat' first
    | with_reducible refine Keep.ite ?_ ?_
    | intro u hu
    | with_reducible apply submit_keep
    | with_reducible apply procEnterLaneTest_keep
    | with_reducible exact Keep.refl _ _
    | with_reducible assumption
    | exact rfl
    | exact id
    | exact Or.inl rfl
    | exact Or.inr rfl
    | exact Or.inr (List.prefix_refl _)
    | exact Or.inr fun _ => rfl
    | exact Or.inr ⟨rfl, rfl, rfl⟩
    | exact Or.inr fun _ => ⟨rfl, rfl, rfl⟩
    | exact Or.inr fun _ => ⟨rfl, rfl⟩
    | split
    | dsimp only

theorem actLeaveTest_keep (s : State) (m : Sentence) (x_ : List Word) {k0 : Nat} {z0 : State} (hk : Nat.land 0x2363bfff5b8a k0 = 0x2363bfff5b8a) (hz : Keep k0 z0 s) : Keep k0 z0 (actLeaveTest s m x_).1 := by
  refine Keep.step ?_ hk hz
  unfold actLeaveTest
  repeat' first
    | with_reducible refine Keep.ite ?_ ?_
    | intro u hu
    | with_reducible apply State.lineLeaves_keep
    | with_reducible apply State.hostLeaves_keep
    | with_reducible apply State.testPorts_keep
    | with_reducible apply State.follow_keep
    | with_reducible exact Keep.refl _ _
    | with_reducible assumption
    | exact rfl
    | exact id
    | exact Or.inl rfl
    | exact Or.inr rfl
    | exact Or.inr (List.prefix_refl _)
    | exact Or.inr fun _ => rfl
    | exact Or.inr ⟨rfl, rfl, rfl⟩
    | exact Or.inr fun _ => ⟨rfl, rfl, rfl⟩
    | exact Or.inr fun _ => ⟨rfl, rfl⟩
    | split
    | dsimp only

theorem procLeaveLaneTest_keep  (a : Sentence) (s : State) {k0 : Nat} {z0 : State} (hk : Nat.land 0x6363bfff5b8a k0 = 0x6363bfff5b8a) (hz : Keep k0 z0 s) : Keep k0 z0 (procLeaveLaneTest  a s) := by
  refine Keep.step ?_ hk hz
  unfold procLeaveLaneTest
  refine process_keep _ _ _ _ _ _ 0x2363bfff5b8a (fun u ws => ?_) rfl rfl rfl (Keep.refl _ _)
  repeat' first
    | with_reducible refine Keep.ite ?_ ?_
    | intro u hu
    | with_reducible apply actLeaveTest_keep
    | with_reducible exact Keep.refl _ _
    | with_reducible assumption
    | exact rfl
    | exact id
    | exact Or.inl rfl
    | exact Or.inr rfl
    | exact Or.inr (List.prefix_refl _)
    | exact Or.inr fun _ => rfl
    | exact Or.inr ⟨rfl, rfl, rfl⟩
    | exact Or.inr fun _ => ⟨rfl, rfl, rfl⟩
    | exact Or.inr fun _ => ⟨rfl, rfl⟩
    | split
    | dsimp only

theorem execLeaveLaneTest_keep (m : Sentence) (s : State) {t : State} (h : execLeaveLaneTest m s = .next t) : Keep 0x6363bfff5b8a s t := by
  unfold execLeaveLaneTest at h
  injection h with h
  subst h
  repeat' first
    | with_reducible refine Keep.ite ?_ ?_
    | intro u hu
    | with_reducible apply submit_keep
    | with_reducible apply procLeaveLaneTest_keep
    | with_reducible exact Keep.refl _ _
    | with_reducible assumption
    | exact rfl
    | exact id
    | exact Or.inl rfl
    | exact Or.inr rfl
    | exact Or.inr (List.prefix_refl _)
    | exact Or.inr fun _ => rfl
    | exact Or.inr ⟨rfl, rfl, rfl⟩
    | exact Or.inr fun _ => ⟨rfl, rfl, rfl⟩
    | exact Or.inr fun _ => ⟨rfl, rfl⟩
    | split
    | dsimp only

theorem procGetDevFeature_keep  (a : Sentence) (s : State) {k0 : Nat} {z0 : State} (hk : Nat.land 0x420000001b80 k0 = 0x420000001b80) (hz : Keep k0 z0 s) : Keep k0 z0 (procGetDevFeature  a s) := by
  refine Keep.step ?_ hk hz
  unfold procGetDevFeature
  refine process_keep _ _ _ _ _ _ 0x0 (fun u ws => ?_) rfl rfl rfl (Keep.refl _ _)
  repeat' first
    | exact getAct_keep ..

theorem execGetDevFeature_keep (m : Sentence) (s : State) {t : State} (h : execGetDevFeature m s = .next t) : Keep 0x420000001b80 s t := by
  unfold execGetDevFeature at h
  injection h with h
  subst h
  repeat' first
    | with_reducible refine Keep.ite ?_ ?_
    | intro u hu
    | with_reducible apply submit_keep
    | with_reducible apply procGetDevFeature_keep
    | with_reducible exact Keep.refl _ _
    | with_reducible assumption
    | exact rfl
    | exact id
    | exact Or.inl rfl
    | exact Or.inr rfl
    | exact Or.inr (List.prefix_refl _)
    | exact Or.inr fun _ => rfl
    | exact Or.inr ⟨rfl, rfl, rfl⟩
    | exact Or.inr fun _ => ⟨rfl, rfl, rfl⟩
    | exact Or.inr fun _ => ⟨rfl, rfl⟩
    | split
    | dsimp only

theorem actNegotiate_keep (s : State) (x_ : Sentence) (ws : List Word) {k0 : Nat} {z0 : State} (hk : Nat.land 0x2601b905b28 k0 = 0x2601b905b28) (hz : Keep k0 z0 s) : Keep k0 z0 (actNegotiate s x_ ws).1 := by
  refine Keep.step ?_ hk hz
  unfold actNegotiate
  try simp -zeta only [State.fold_dev]
  repeat' first
    | with_reducible refine Keep.ite ?_ ?_
    | intro u hu
    | with_reducible apply State.follow_keep
    | with_reducible apply Keep.set_dev
    | with_reducible exact Keep.refl _ _
    | with_reducible assumption
    | exact rfl
    | exact id
    | exact Or.inl rfl
    | exact Or.inr rfl
    | exact Or.inr (List.prefix_refl _)
    | exact Or.inr fun _ => rfl
    | exact Or.inr ⟨rfl, rfl, rfl⟩
    | exact Or.inr fun _ => ⟨rfl, rfl, rfl⟩
    | exact Or.inr fun _ => ⟨rfl, rfl⟩
    | split
    | dsimp only

theorem procNegotiateDevFeature_keep  (a : Sentence) (s : State) {k0 : Nat} {z0 : State} (hk : Nat.land 0x42601b905ba8 k0 = 0x42601b905ba8) (hz : Keep k0 z0 s) : Keep k0 z0 (procNegotiateDevFeature  a s) := by
  refine Keep.step ?_ hk hz
  unfold procNegotiateDevFeature
  refine process_keep _ _ _ _ _ _ 0x2601b905b28 (fun u ws => ?_) rfl rfl rfl (Keep.refl _ _)
  repeat' first
    | with_reducible refine Keep.ite ?_ ?_
    | intro u hu
    | with_reducible apply actNegotiate_keep
    | with_reducible exact Keep.refl _ _
    | with_reducible assumption
    | exact rfl
    | exact id
    | exact Or.inl rfl
    | exact Or.inr rfl
    | exact Or.inr (List.prefix_refl _)
    | exact Or.inr fun _ => rfl
    | exact Or.inr ⟨rfl, rfl, rfl⟩
    | exact Or.inr fun _ => ⟨rfl, rfl, rfl⟩
    | exact Or.inr fun _ => ⟨rfl, rfl⟩
    | split
    | dsimp only

theorem execNegotiateDevFeature_keep (m : Sentence) (s : State) {t : State} (h : execNegotiateDevFeature m s = .next t) : Keep 0x42601b905ba8 s t := by
  unfold execNegotiateDevFeature at h
  injection h with h
  subst h
  repeat' first
    | with_reducible refine Keep.ite ?_ ?_
    | intro u hu
    | with_reducible apply submit_keep
    | with_reducible apply procNegotiateDevFeature_keep
    | with_reducible exact Keep.refl _ _
    | with_reducible assumption
    | exact rfl
    | exact id
    | exact Or.inl rfl
    | exact Or.inr rfl
    | exact Or.inr (List.prefix_refl _)
    | exact Or.inr fun _ => rfl
    | exact Or.inr ⟨rfl, rfl, rfl⟩
    | exact Or.inr fun _ => ⟨rfl, rfl, rfl⟩
    | exact Or.inr fun _ => ⟨rfl, rfl⟩
    | split
    | dsimp only

theorem EvQueue.fewer (q : EvQueue) (n : Nat) : ({ q with recs := q.recs.drop n } : EvQueue).others ≤ q.others :=
  (List.Sublist.filter _ (List.drop_sublist ..)).length_le

theorem actReceiveEvent_keep (s : State) (m : Sentence) (ws : List Word) {k0 : Nat} {z0 : State} (hk : Nat.land 0x20000001b00 k0 = 0x20000001b00) (hz : Keep k0 z0 s) : Keep k0 z0 (actReceiveEvent s m ws).1 := by
  refine Keep.step ?_ hk hz
  unfold actReceiveEvent
  repeat' first
    | exact fun _ h => (EvQueue.fewer _ _).trans h
    | with_reducible refine Keep.ite ?_ ?_
    | intro u hu
    | with_reducible apply State.flushLost_keep
    | with_reducible apply State.settleIcuOf_keep
    | with_reducible apply Keep.modQueue
    | with_reducible exact Keep.refl _ _
    | with_reducible assumption
    | exact rfl
    | exact id
    | exact Or.inl rfl
    | exact Or.inr rfl
    | exact Or.inr (List.prefix_refl _)
    | exact Or.inr fun _ => rfl
    | exact Or.inr ⟨rfl, rfl, rfl⟩
    | exact Or.inr fun _ => ⟨rfl, rfl, rfl⟩
    | exact Or.inr fun _ => ⟨rfl, rfl⟩
    | split
    | dsimp only

theorem procReceiveDevEvent_keep  (a : Sentence) (s : State) {k0 : Nat} {z0 : State} (hk : Nat.land 0x420000001b80 k0 = 0x420000001b80) (hz : Keep k0 z0 s) : Keep k0 z0 (procReceiveDevEvent  a s) := by
  refine Keep.step ?_ hk hz
  unfold procReceiveDevEvent
  refine process_keep _ _ _ _ _ _ 0x20000001b00 (fun u ws => ?_) rfl rfl rfl (Keep.refl _ _)
  repeat' first
    | with_reducible refine Keep.ite ?_ ?_
    | intro u hu
    | with_reducible apply actReceiveEvent_keep
    | with_reducible exact Keep.refl _ _
    | with_reducible assumption
    | exact rfl
    | exact id
    | exact Or.inl rfl
    | exact Or.inr rfl
    | exact Or.inr (List.prefix_refl _)
    | exact Or.inr fun _ => rfl
    | exact Or.inr ⟨rfl, rfl, rfl⟩
    | exact Or.inr fun _ => ⟨rfl, rfl, rfl⟩
    | exact Or.inr fun _ => ⟨rfl, rfl⟩
    | split
    | dsimp only

theorem execReceiveDevEvent_keep (m : Sentence) (s : State) {t : State} (h : execReceiveDevEvent m s = .next t) : Keep 0x420000001b80 s t := by
  unfold execReceiveDevEvent at h
  injection h with h
  subst h
  repeat' first
    | with_reducible refine Keep.ite ?_ ?_
    | intro u hu
    | with_reducible apply submit_keep
    | with_reducible apply procReceiveDevEvent_keep
    | with_reducible exact Keep.refl _ _
    | with_reducible assumption
    | exact rfl
    | exact id
    | exact Or.inl rfl
    | exact Or.inr rfl
    | exact Or.inr (List.prefix_refl _)
    | exact Or.inr fun _ => rfl
    | exact Or.inr ⟨rfl, rfl, rfl⟩
    | exact Or.inr fun _ => ⟨rfl, rfl, rfl⟩
    | exact Or.inr fun _ => ⟨rfl, rfl⟩
    | split
    | dsimp only

theorem actGetMbxStats_keep (s : State) (m : Sentence) (x_ : List Word) {k0 : Nat} {z0 : State} (hk : Nat.land 0x0 k0 = 0x0) (hz : Keep k0 z0 s) : Keep k0 z0 (actGetMbxStats s m x_).1 := by
  refine Keep.step ?_ hk hz
  unfold actGetMbxStats
  repeat' first
    | with_reducible refine Keep.ite ?_ ?_
    | intro u hu
    | with_reducible exact Keep.refl _ _
    | with_reducible assumption
    | exact rfl
    | exact id
    | exact Or.inl rfl
    | exact Or.inr rfl
    | exact Or.inr (List.prefix_refl _)
    | exact Or.inr fun _ => rfl
    | exact Or.inr ⟨rfl, rfl, rfl⟩
    | exact Or.inr fun _ => ⟨rfl, rfl, rfl⟩
    | exact Or.inr fun _ => ⟨rfl, rfl⟩
    | split
    | dsimp only

theorem procGetMbxStats_keep  (a : Sentence) (s : State) {k0 : Nat} {z0 : State} (hk : Nat.land 0x420000001b80 k0 = 0x420000001b80) (hz : Keep k0 z0 s) : Keep k0 z0 (procGetMbxStats  a s) := by
  refine Keep.step ?_ hk hz
  unfold procGetMbxStats
  refine process_keep _ _ _ _ _ _ 0x0 (fun u ws => ?_) rfl rfl rfl (Keep.refl _ _)
  repeat' first
    | with_reducible refine Keep.ite ?_ ?_
    | intro u hu
    | with_reducible apply actGetMbxStats_keep
    | with_reducible exact Keep.refl _ _
    | with_reducible assumption
    | exact rfl
    | exact id
    | exact Or.inl rfl
    | exact Or.inr rfl
    | exact Or.inr (List.prefix_refl _)
    | exact Or.inr fun _ => rfl
    | exact Or.inr ⟨rfl, rfl, rfl⟩
    | exact Or.inr fun _ => ⟨rfl, rfl, rfl⟩
    | exact Or.inr fun _ => ⟨rfl, rfl⟩
    | split
    | dsimp only

theorem execGetMbxStats_keep (m : Sentence) (s : State) {t : State} (h : execGetMbxStats m s = .next t) : Keep 0x420000001b80 s t := by
  unfold execGetMbxStats at h
  injection h with h
  subst h
  repeat' first
    | with_reducible refine Keep.ite ?_ ?_
    | intro u hu
    | with_reducible apply submit_keep
    | with_reducible apply procGetMbxStats_keep
    | with_reducible exact Keep.refl _ _
    | with_reducible assumption
    | exact rfl
    | exact id
    | exact Or.inl rfl
    | exact Or.inr rfl
    | exact Or.inr (List.prefix_refl _)
    | exact Or.inr fun _ => rfl
    | exact Or.inr ⟨rfl, rfl, rfl⟩
    | exact Or.inr fun _ => ⟨rfl, rfl, rfl⟩
    | exact Or.inr fun _ => ⟨rfl, rfl⟩
    | split
    | dsimp only

theorem actClearMbxStats_keep (s : State) (m : Sentence) (x_ : List Word) {k0 : Nat} {z0 : State} (hk : Nat.land 0x80 k0 = 0x80) (hz : Keep k0 z0 s) : Keep k0 z0 (actClearMbxStats s m x_).1 := by
  refine Keep.step ?_ hk hz
  unfold actClearMbxStats
  try simp -zeta only [State.fold_mb]
  repeat' first
    | with_reducible refine Keep.ite ?_ ?_
    | intro u hu
    | with_reducible apply Keep.set_mb
    | with_reducible exact Keep.refl _ _
    | with_reducible assumption
    | exact rfl
    | exact id
    | exact Or.inl rfl
    | exact Or.inr rfl
    | exact Or.inr (List.prefix_refl _)
    | exact Or.inr fun _ => rfl
    | exact Or.inr ⟨rfl, rfl, rfl⟩
    | exact Or.inr fun _ => ⟨rfl, rfl, rfl⟩
    | exact Or.inr fun _ => ⟨rfl, rfl⟩
    | split
    | dsimp only

theorem procClearMbxStats_keep  (a : Sentence) (s : State) {k0 : Nat} {z0 : State} (hk : Nat.land 0x420000001b80 k0 = 0x420000001b80) (hz : Keep k0 z0 s) : Keep k0 z0 (procClearMbxStats  a s) := by
  refine Keep.step ?_ hk hz
  unfold procClearMbxStats
  refine process_keep _ _ _ _ _ _ 0x80 (fun u ws => ?_) rfl rfl rfl (Keep.refl _ _)
  repeat' first
    | with_reducible refine Keep.ite ?_ ?_
    | intro u hu
    | with_reducible apply actClearMbxStats_keep
    | with_reducible exact Keep.refl _ _
    | with_reducible assumption
    | exact rfl
    | exact id
    | exact Or.inl rfl
    | exact Or.inr rfl
    | exact Or.inr (List.prefix_refl _)
    | exact Or.inr fun _ => rfl
    | exact Or.inr ⟨rfl, rfl, rfl⟩
    | exact Or.inr fun _ => ⟨rfl, rfl, rfl⟩
    | exact Or.inr fun _ => ⟨rfl, rfl⟩
    | split
    | dsimp only

theorem execClearMbxStats_keep (m : Sentence) (s : State) {t : State} (h : execClearMbxStats m s = .next t) : Keep 0x420000001b80 s t := by
  unfold execClearMbxStats at h
  injection h with h
  subst h
  repeat' first
    | with_reducible refine Keep.ite ?_ ?_
    | intro u hu
    | with_reducible apply submit_keep
    | with_reducible apply procClearMbxStats_keep
    | with_reducible exact Keep.refl _ _
    | with_reducible assumption
    | exact rfl
    | exact id
    | exact Or.inl rfl
    | exact Or.inr rfl
    | exact Or.inr (List.prefix_refl _)
    | exact Or.inr fun _ => rfl
    | exact Or.inr ⟨rfl, rfl, rfl⟩
    | exact Or.inr fun _ => ⟨rfl, rfl, rfl⟩
    | exact Or.inr fun _ => ⟨rfl, rfl⟩
    | split
    | dsimp only

theorem State.setGrant_keep (s : State) (g : Bool) {k0 : Nat} {z0 : State} (hk : Nat.land 0x20 k0 = 0x20) (hz : Keep k0 z0 s) : Keep k0 z0 (State.setGrant s g) := by
  refine Keep.step ?_ hk hz
  unfold State.setGrant
  try simp -zeta only [State.fold_dev]
  repeat' first
    | with_reducible refine Keep.ite ?_ ?_
    | with_reducible apply Keep.set_dev
    | with_reducible exact Keep.refl _ _
    | with_reducible assumption
    | exact rfl
    | exact id
    | exact Or.inl rfl
    | exact Or.inr rfl
    | exact Or.inr (List.prefix_refl _)
    | exact Or.inr fun _ => rfl
    | exact Or.inr ⟨rfl, rfl, rfl⟩
    | exact Or.inr fun _ => ⟨rfl, rfl, rfl⟩
    | exact Or.inr fun _ => ⟨rfl, rfl⟩
    | split
    | dsimp only

theorem procGrantPf1Grant_keep  (a : Sentence) (s : State) {k0 : Nat} {z0 : State} (hk : Nat.land 0x420000001ba0 k0 = 0x420000001ba0) (hz : Keep k0 z0 s) : Keep k0 z0 (procGrantPf1Grant  a s) := by
  refine Keep.step ?_ hk hz
  unfold procGrantPf1Grant
  refine process_keep _ _ _ _ _ _ 0x20 (fun u ws => ?_) rfl rfl rfl (Keep.refl _ _)
  repeat' first
    | with_reducible refine Keep.ite ?_ ?_
    | intro u hu
    | with_reducible apply State.setGrant_keep
    | with_reducible exact Keep.refl _ _
    | with_reducible assumption
    | exact rfl
    | exact id
    | exact Or.inl rfl
    | exact Or.inr rfl
    | exact Or.inr (List.prefix_refl _)
    | exact Or.inr fun _ => rfl
    | exact Or.inr ⟨rfl, rfl, rfl⟩
    | exact Or.inr fun _ => ⟨rfl, rfl, rfl⟩
    | exact Or.inr fun _ => ⟨rfl, rfl⟩
    | split
    | dsimp only

theorem execGrantPf1Grant_keep (m : Sentence) (s : State) {t : State} (h : execGrantPf1Grant m s = .next t) : Keep 0x420000001ba0 s t := by
  unfold execGrantPf1Grant at h
  injection h with h
  subst h
  repeat' first
    | with_reducible refine Keep.ite ?_ ?_
    | intro u hu
    | with_reducible apply submit_keep
    | with_reducible apply procGrantPf1Grant_keep
    | with_reducible exact Keep.refl _ _
    | with_reducible assumption
    | exact rfl
    | exact id
    | exact Or.inl rfl
    | exact Or.inr rfl
    | exact Or.inr (List.prefix_refl _)
    | exact Or.inr fun _ => rfl
    | exact Or.inr ⟨rfl, rfl, rfl⟩
    | exact Or.inr fun _ => ⟨rfl, rfl, rfl⟩
    | exact Or.inr fun _ => ⟨rfl, rfl⟩
    | split
    | dsimp only

theorem State.revoke_keep (s : State) {k0 : Nat} {z0 : State} (hk : Nat.land 0x3020 k0 = 0x3020) (hz : Keep k0 z0 s) : Keep k0 z0 (State.revoke s) := by
  refine Keep.step ?_ hk hz
  unfold State.revoke
  repeat' first
    | with_reducible refine Keep.ite ?_ ?_
    | with_reducible refine Keep.foldl _ ?_ ?_
    | intro u x hu
    | intro u hu
    | with_reducible apply State.setGrant_keep
    | with_reducible apply State.modHif_keep
    | with_reducible apply Keep.modDma
    | with_reducible exact Keep.refl _ _
    | with_reducible assumption
    | exact rfl
    | exact id
    | exact Or.inl rfl
    | exact Or.inr rfl
    | exact Or.inr (List.prefix_refl _)
    | exact Or.inr fun _ => rfl
    | exact Or.inr ⟨rfl, rfl, rfl⟩
    | exact Or.inr fun _ => ⟨rfl, rfl, rfl⟩
    | exact Or.inr fun _ => ⟨rfl, rfl⟩
    | split
    | dsimp only

theorem procRevokePf1Grant_keep  (a : Sentence) (s : State) {k0 : Nat} {z0 : State} (hk : Nat.land 0x420000003ba0 k0 = 0x420000003ba0) (hz : Keep k0 z0 s) : Keep k0 z0 (procRevokePf1Grant  a s) := by
  refine Keep.step ?_ hk hz
  unfold procRevokePf1Grant
  refine process_keep _ _ _ _ _ _ 0x3020 (fun u ws => ?_) rfl rfl rfl (Keep.refl _ _)
  repeat' first
    | with_reducible refine Keep.ite ?_ ?_
    | intro u hu
    | with_reducible apply State.revoke_keep
    | with_reducible exact Keep.refl _ _
    | with_reducible assumption
    | exact rfl
    | exact id
    | exact Or.inl rfl
    | exact Or.inr rfl
    | exact Or.inr (List.prefix_refl _)
    | exact Or.inr fun _ => rfl
    | exact Or.inr ⟨rfl, rfl, rfl⟩
    | exact Or.inr fun _ => ⟨rfl, rfl, rfl⟩
    | exact Or.inr fun _ => ⟨rfl, rfl⟩
    | split
    | dsimp only

theorem execRevokePf1Grant_keep (m : Sentence) (s : State) {t : State} (h : execRevokePf1Grant m s = .next t) : Keep 0x420000003ba0 s t := by
  unfold execRevokePf1Grant at h
  injection h with h
  subst h
  repeat' first
    | with_reducible refine Keep.ite ?_ ?_
    | intro u hu
    | with_reducible apply submit_keep
    | with_reducible apply procRevokePf1Grant_keep
    | with_reducible exact Keep.refl _ _
    | with_reducible assumption
    | exact rfl
    | exact id
    | exact Or.inl rfl
    | exact Or.inr rfl
    | exact Or.inr (List.prefix_refl _)
    | exact Or.inr fun _ => rfl
    | exact Or.inr ⟨rfl, rfl, rfl⟩
    | exact Or.inr fun _ => ⟨rfl, rfl, rfl⟩
    | exact Or.inr fun _ => ⟨rfl, rfl⟩
    | split
    | dsimp only

theorem procGetPf1Grant_keep  (a : Sentence) (s : State) {k0 : Nat} {z0 : State} (hk : Nat.land 0x420000001b80 k0 = 0x420000001b80) (hz : Keep k0 z0 s) : Keep k0 z0 (procGetPf1Grant  a s) := by
  refine Keep.step ?_ hk hz
  unfold procGetPf1Grant
  refine process_keep _ _ _ _ _ _ 0x0 (fun u ws => ?_) rfl rfl rfl (Keep.refl _ _)
  repeat' first
    | exact getAct_keep ..

theorem execGetPf1Grant_keep (m : Sentence) (s : State) {t : State} (h : execGetPf1Grant m s = .next t) : Keep 0x420000001b80 s t := by
  unfold execGetPf1Grant at h
  injection h with h
  subst h
  repeat' first
    | with_reducible refine Keep.ite ?_ ?_
    | intro u hu
    | with_reducible apply submit_keep
    | with_reducible apply procGetPf1Grant_keep
    | with_reducible exact Keep.refl _ _
    | with_reducible assumption
    | exact rfl
    | exact id
    | exact Or.inl rfl
    | exact Or.inr rfl
    | exact Or.inr (List.prefix_refl _)
    | exact Or.inr fun _ => rfl
    | exact Or.inr ⟨rfl, rfl, rfl⟩
    | exact Or.inr fun _ => ⟨rfl, rfl, rfl⟩
    | exact Or.inr fun _ => ⟨rfl, rfl⟩
    | split
    | dsimp only

end Sys2Proof.Machine
end

