-- ==== Sys2Proof/Laws/KeepRegs.lean ====
section
/-! SUPPORT. `Keep` for every operation of `Machine/Registers.lean`, `Machine/Sentences.lean`, `Machine/Opening.lean`. -/

set_option linter.unusedTactic false
set_option linter.unreachableTactic false
set_option linter.unnecessarySeqFocus false
set_option linter.unusedVariables false
set_option linter.unusedSimpArgs false

namespace Sys2Proof.Machine

theorem State.readAct_keep (s : State) (r : Requester) (off0 : Nat) {k0 : Nat} {z0 : State} (hk : Nat.land 0x20000007b10 k0 = 0x20000007b10) (hz : Keep k0 z0 s) : Keep k0 z0 (State.readAct s r off0) := by
  refine Keep.step ?_ hk hz
  unfold State.readAct
  repeat' first
    | with_reducible refine Keep.ite ?_ ?_
    | with_reducible apply State.readSticky_keep
    | with_reducible apply State.mgtStatus_keep
    | with_reducible apply State.answer_keep
    | with_reducible apply State.look_keep
    | with_reducible apply State.claim_keep
    | with_reducible apply State.pmcLatch_keep
    | with_reducible apply State.tkuSnap_keep
    | with_reducible exact Keep.refl _ _
    | with_reducible assumption
    | exact rfl
    | exact id
    | exact Or.inl rfl
    | exact Or.inr rfl
    | exact Or.inr (List.prefix_refl _)
    | exact Or.inr fun _ => rfl
    | exact Or.inr ⟨rfl, rfl, rfl⟩
    | exact Or.inr fun _ => ⟨rfl, rfl, rfl⟩
    | exact Or.inr fun _ => ⟨rfl, rfl⟩
    | split
    | dsimp only

theorem execReadLoSnapshot_keep (r : Requester) (off : Nat) (s : State) {t : State} (h : execReadLoSnapshot r off s = .next t) : Keep 0x20000007b10 s t := by
  unfold execReadLoSnapshot at h
  injection h with h
  subst h
  repeat' first
    | with_reducible refine Keep.ite ?_ ?_
    | intro u hu
    | with_reducible apply State.onBus_keep
    | with_reducible apply State.answer_keep
    | with_reducible apply State.readAct_keep
    | with_reducible apply Keep.modSnap
    | with_reducible exact Keep.refl _ _
    | with_reducible assumption
    | exact rfl
    | exact id
    | exact Or.inl rfl
    | exact Or.inr rfl
    | exact Or.inr (List.prefix_refl _)
    | exact Or.inr fun _ => rfl
    | exact Or.inr ⟨rfl, rfl, rfl⟩
    | exact Or.inr fun _ => ⟨rfl, rfl, rfl⟩
    | exact Or.inr fun _ => ⟨rfl, rfl⟩
    | split
    | dsimp only

theorem State.boxWrite_keep (s : State) (r : Requester) (n off : Nat) (v : Word) {k0 : Nat} {z0 : State} (hk : Nat.land 0x80 k0 = 0x80) (hz : Keep k0 z0 s) : Keep k0 z0 (State.boxWrite s r n off v) := by
  refine Keep.step ?_ hk hz
  unfold State.boxWrite
  try simp -zeta only [State.fold_mb]
  repeat' first
    | with_reducible refine Keep.ite ?_ ?_
    | with_reducible apply Keep.modBox
    | with_reducible apply Keep.set_mb
    | with_reducible exact Keep.refl _ _
    | with_reducible assumption
    | exact rfl
    | exact id
    | exact Or.inl rfl
    | exact Or.inr rfl
    | exact Or.inr (List.prefix_refl _)
    | exact Or.inr fun _ => rfl
    | exact Or.inr ⟨rfl, rfl, rfl⟩
    | exact Or.inr fun _ => ⟨rfl, rfl, rfl⟩
    | exact Or.inr fun _ => ⟨rfl, rfl⟩
    | split
    | dsimp only

theorem State.icuWrite_keep (s : State) (r : Requester) (off : Nat) (v : Word) {k0 : Nat} {z0 : State} (hk : Nat.land 0x20000007b00 k0 = 0x20000007b00) (hz : Keep k0 z0 s) : Keep k0 z0 (State.icuWrite s r off v) := by
  refine Keep.step ?_ hk hz
  unfold State.icuWrite
  repeat' first
    | with_reducible refine Keep.ite ?_ ?_
    | with_reducible apply State.icuEnable_keep
    | with_reducible apply State.completeSrc_keep
    | with_reducible apply State.discardWrite_keep
    | with_reducible apply Keep.modIcu
    | with_reducible apply Keep.modVec
    | with_reducible exact Keep.refl _ _
    | with_reducible assumption
    | exact rfl
    | exact id
    | exact Or.inl rfl
    | exact Or.inr rfl
    | exact Or.inr (List.prefix_refl _)
    | exact Or.inr fun _ => rfl
    | exact Or.inr ⟨rfl, rfl, rfl⟩
    | exact Or.inr fun _ => ⟨rfl, rfl, rfl⟩
    | exact Or.inr fun _ => ⟨rfl, rfl⟩
    | split
    | dsimp only

theorem State.pmcWrite_keep (s : State) (r : Requester) (off : Nat) (v : Word) {k0 : Nat} {z0 : State} (hk : Nat.land 0x20000007b00 k0 = 0x20000007b00) (hz : Keep k0 z0 s) : Keep k0 z0 (State.pmcWrite s r off v) := by
  refine Keep.step ?_ hk hz
  unfold State.pmcWrite
  repeat' first
    | with_reducible refine Keep.ite ?_ ?_
    | with_reducible apply State.discardWrite_keep
    | with_reducible apply State.pmcGroup_keep
    | with_reducible apply Keep.modSnap
    | with_reducible exact Keep.refl _ _
    | with_reducible assumption
    | exact rfl
    | exact id
    | exact Or.inl rfl
    | exact Or.inr rfl
    | exact Or.inr (List.prefix_refl _)
    | exact Or.inr fun _ => rfl
    | exact Or.inr ⟨rfl, rfl, rfl⟩
    | exact Or.inr fun _ => ⟨rfl, rfl, rfl⟩
    | exact Or.inr fun _ => ⟨rfl, rfl⟩
    | split
    | dsimp only

theorem State.tkuRegWrite_keep (s : State) (off : Nat) (v : Word) {k0 : Nat} {z0 : State} (hk : Nat.land 0x2000000fb00 k0 = 0x2000000fb00) (hz : Keep k0 z0 s) : Keep k0 z0 (State.tkuRegWrite s off v) := by
  refine Keep.step ?_ hk hz
  unfold State.tkuRegWrite
  try simp -zeta only [State.fold_tku]
  repeat' first
    | with_reducible refine Keep.ite ?_ ?_
    | with_reducible apply State.incLo_keep
    | with_reducible apply State.incHi_keep
    | with_reducible apply State.stepGo_keep
    | with_reducible apply State.domSelWrite_keep
    | with_reducible apply State.tkuStatusWrite_keep
    | with_reducible apply State.discardWrite_keep
    | with_reducible apply Keep.set_tku
    | with_reducible exact Keep.refl _ _
    | with_reducible assumption
    | exact rfl
    | exact id
    | exact Or.inl rfl
    | exact Or.inr rfl
    | exact Or.inr (List.prefix_refl _)
    | exact Or.inr fun _ => rfl
    | exact Or.inr ⟨rfl, rfl, rfl⟩
    | exact Or.inr fun _ => ⟨rfl, rfl, rfl⟩
    | exact Or.inr fun _ => ⟨rfl, rfl⟩
    | split
    | dsimp only

theorem State.dmaWrite_keep (s : State) (r : Requester) (off : Nat) (v : Word) {k0 : Nat} {z0 : State} (hk : Nat.land 0x20000007b00 k0 = 0x20000007b00) (hz : Keep k0 z0 s) : Keep k0 z0 (State.dmaWrite s r off v) := by
  refine Keep.step ?_ hk hz
  unfold State.dmaWrite
  repeat' first
    | with_reducible refine Keep.ite ?_ ?_
    | with_reducible apply State.discardWrite_keep
    | with_reducible apply State.dmaTail_keep
    | with_reducible apply State.dmaStatus_keep
    | with_reducible exact Keep.refl _ _
    | with_reducible assumption
    | exact rfl
    | exact id
    | exact Or.inl rfl
    | exact Or.inr rfl
    | exact Or.inr (List.prefix_refl _)
    | exact Or.inr fun _ => rfl
    | exact Or.inr ⟨rfl, rfl, rfl⟩
    | exact Or.inr fun _ => ⟨rfl, rfl, rfl⟩
    | exact Or.inr fun _ => ⟨rfl, rfl⟩
    | split
    | dsimp only

theorem State.msixWrite_keep (s : State) (r : Requester) (off : Nat) (v : Word) {k0 : Nat} {z0 : State} (hk : Nat.land 0x20000007b00 k0 = 0x20000007b00) (hz : Keep k0 z0 s) : Keep k0 z0 (State.msixWrite s r off v) := by
  refine Keep.step ?_ hk hz
  unfold State.msixWrite
  repeat' first
    | with_reducible refine Keep.ite ?_ ?_
    | with_reducible apply State.discardWrite_keep
    | with_reducible apply State.unmask_keep
    | with_reducible apply Keep.modVec
    | with_reducible exact Keep.refl _ _
    | with_reducible assumption
    | exact rfl
    | exact id
    | exact Or.inl rfl
    | exact Or.inr rfl
    | exact Or.inr (List.prefix_refl _)
    | exact Or.inr fun _ => rfl
    | exact Or.inr ⟨rfl, rfl, rfl⟩
    | exact Or.inr fun _ => ⟨rfl, rfl, rfl⟩
    | exact Or.inr fun _ => ⟨rfl, rfl⟩
    | split
    | dsimp only

theorem State.idWrite_keep (s : State) (r : Requester) (off : Nat) (v : Word) {k0 : Nat} {z0 : State} (hk : Nat.land 0x20000007b00 k0 = 0x20000007b00) (hz : Keep k0 z0 s) : Keep k0 z0 (State.idWrite s r off v) := by
  refine Keep.step ?_ hk hz
  unfold State.idWrite
  repeat' first
    | with_reducible refine Keep.ite ?_ ?_
    | with_reducible apply State.discardWrite_keep
    | with_reducible apply Keep.modSnap
    | with_reducible exact Keep.refl _ _
    | with_reducible assumption
    | exact rfl
    | exact id
    | exact Or.inl rfl
    | exact Or.inr rfl
    | exact Or.inr (List.prefix_refl _)
    | exact Or.inr fun _ => rfl
    | exact Or.inr ⟨rfl, rfl, rfl⟩
    | exact Or.inr fun _ => ⟨rfl, rfl, rfl⟩
    | exact Or.inr fun _ => ⟨rfl, rfl⟩
    | split
    | dsimp only

theorem State.errWrite_keep (s : State) (r : Requester) (off : Nat) {k0 : Nat} {z0 : State} (hk : Nat.land 0x20000007b00 k0 = 0x20000007b00) (hz : Keep k0 z0 s) : Keep k0 z0 (State.errWrite s r off) := by
  refine Keep.step ?_ hk hz
  unfold State.errWrite
  repeat' first
    | with_reducible refine Keep.ite ?_ ?_
    | with_reducible apply State.discardWrite_keep
    | with_reducible exact Keep.refl _ _
    | with_reducible assumption
    | exact rfl
    | exact id
    | exact Or.inl rfl
    | exact Or.inr rfl
    | exact Or.inr (List.prefix_refl _)
    | exact Or.inr fun _ => rfl
    | exact Or.inr ⟨rfl, rfl, rfl⟩
    | exact Or.inr fun _ => ⟨rfl, rfl, rfl⟩
    | exact Or.inr fun _ => ⟨rfl, rfl⟩
    | split
    | dsimp only

theorem State.blockWrite_keep (s : State) (r : Requester) (off : Nat) (v : Word) {k0 : Nat} {z0 : State} (hk : Nat.land 0x2000000fb00 k0 = 0x2000000fb00) (hz : Keep k0 z0 s) : Keep k0 z0 (State.blockWrite s r off v) := by
  refine Keep.step ?_ hk hz
  unfold State.blockWrite
  repeat' first
    | with_reducible refine Keep.ite ?_ ?_
    | with_reducible apply State.idWrite_keep
    | with_reducible apply State.icuWrite_keep
    | with_reducible apply State.pmcWrite_keep
    | with_reducible apply State.tkuRegWrite_keep
    | with_reducible apply State.discardWrite_keep
    | with_reducible apply State.dmaWrite_keep
    | with_reducible apply State.errWrite_keep
    | with_reducible apply State.msixWrite_keep
    | with_reducible exact Keep.refl _ _
    | with_reducible assumption
    | exact rfl
    | exact id
    | exact Or.inl rfl
    | exact Or.inr rfl
    | exact Or.inr (List.prefix_refl _)
    | exact Or.inr fun _ => rfl
    | exact Or.inr ⟨rfl, rfl, rfl⟩
    | exact Or.inr fun _ => ⟨rfl, rfl, rfl⟩
    | exact Or.inr fun _ => ⟨rfl, rfl⟩
    | split
    | dsimp only

theorem procUndefined_keep (verb noun : Nat) (m : Sentence) (s : State) {k0 : Nat} {z0 : State} (hk : Nat.land 0x20000001b80 k0 = 0x20000001b80) (hz : Keep k0 z0 s) : Keep k0 z0 (procUndefined verb noun m s) := by
  refine Keep.step ?_ hk hz
  unfold procUndefined
  repeat' first
    | with_reducible refine Keep.ite ?_ ?_
    | with_reducible apply State.pmcEvent_keep
    | with_reducible apply State.complete_keep
    | with_reducible exact Keep.refl _ _
    | with_reducible assumption
    | exact rfl
    | exact id
    | exact Or.inl rfl
    | exact Or.inr rfl
    | exact Or.inr (List.prefix_refl _)
    | exact Or.inr fun _ => rfl
    | exact Or.inr ⟨rfl, rfl, rfl⟩
    | exact Or.inr fun _ => ⟨rfl, rfl, rfl⟩
    | exact Or.inr fun _ => ⟨rfl, rfl⟩
    | split
    | dsimp only

theorem commands0_keep : ∀ c ∈ commands0, ∀ a s, Keep 0x7fe3ffffffea s (c.2 a s) := by
  unfold commands0
  refine List.forall_mem_cons.2 ⟨fun a s => procGetDevMode_keep a s rfl (Keep.refl _ _), ?_⟩
  refine List.forall_mem_cons.2 ⟨fun a s => procEnterDevMode_keep a s rfl (Keep.refl _ _), ?_⟩
  refine List.forall_mem_cons.2 ⟨fun a s => procShutterDevMode_keep a s rfl (Keep.refl _ _), ?_⟩
  refine List.forall_mem_cons.2 ⟨fun a s => procEnterLaneTest_keep a s rfl (Keep.refl _ _), ?_⟩
  refine List.forall_mem_cons.2 ⟨fun a s => procLeaveLaneTest_keep a s rfl (Keep.refl _ _), ?_⟩
  refine List.forall_mem_cons.2 ⟨fun a s => procGetDevFeature_keep a s rfl (Keep.refl _ _), ?_⟩
  refine List.forall_mem_cons.2 ⟨fun a s => procNegotiateDevFeature_keep a s rfl (Keep.refl _ _), ?_⟩
  refine List.forall_mem_cons.2 ⟨fun a s => procReceiveDevEvent_keep a s rfl (Keep.refl _ _), ?_⟩
  refine List.forall_mem_cons.2 ⟨fun a s => procGetMbxStats_keep a s rfl (Keep.refl _ _), ?_⟩
  refine List.forall_mem_cons.2 ⟨fun a s => procClearMbxStats_keep a s rfl (Keep.refl _ _), ?_⟩
  refine List.forall_mem_cons.2 ⟨fun a s => procLoadFwImage_keep a s rfl (Keep.refl _ _), ?_⟩
  refine List.forall_mem_cons.2 ⟨fun a s => procGetFwImage_keep a s rfl (Keep.refl _ _), ?_⟩
  refine List.forall_mem_cons.2 ⟨fun a s => procGrantPf1Grant_keep a s rfl (Keep.refl _ _), ?_⟩
  refine List.forall_mem_cons.2 ⟨fun a s => procRevokePf1Grant_keep a s rfl (Keep.refl _ _), ?_⟩
  refine List.forall_mem_cons.2 ⟨fun a s => procGetPf1Grant_keep a s rfl (Keep.refl _ _), ?_⟩
  refine List.forall_mem_cons.2 ⟨fun a s => procGetLrxCfg_keep a s rfl (Keep.refl _ _), ?_⟩
  refine List.forall_mem_cons.2 ⟨fun a s => procSetLrxCfg_keep a s rfl (Keep.refl _ _), ?_⟩
  refine List.forall_mem_cons.2 ⟨fun a s => procGetLrxStatus_keep a s rfl (Keep.refl _ _), ?_⟩
  refine List.forall_mem_cons.2 ⟨fun a s => procGetLrxQuality_keep a s rfl (Keep.refl _ _), ?_⟩
  refine List.forall_mem_cons.2 ⟨fun a s => procGetLrxEstimate_keep a s rfl (Keep.refl _ _), ?_⟩
  exact fun c hc => absurd hc List.not_mem_nil

theorem commands1_keep : ∀ c ∈ commands1, ∀ a s, Keep 0x7fe3ffffffea s (c.2 a s) := by
  unfold commands1
  refine List.forall_mem_cons.2 ⟨fun a s => procGetLrxSlices_keep a s rfl (Keep.refl _ _), ?_⟩
  refine List.forall_mem_cons.2 ⟨fun a s => procRestartLrxAcq_keep a s rfl (Keep.refl _ _), ?_⟩
  refine List.forall_mem_cons.2 ⟨fun a s => procCaptureLrxCapture_keep a s rfl (Keep.refl _ _), ?_⟩
  refine List.forall_mem_cons.2 ⟨fun a s => procAbortLrxCapture_keep a s rfl (Keep.refl _ _), ?_⟩
  refine List.forall_mem_cons.2 ⟨fun a s => procGetSeaPolicy_keep a s rfl (Keep.refl _ _), ?_⟩
  refine List.forall_mem_cons.2 ⟨fun a s => procSetSeaPolicy_keep a s rfl (Keep.refl _ _), ?_⟩
  refine List.forall_mem_cons.2 ⟨fun a s => procGetSeaHinge_keep a s rfl (Keep.refl _ _), ?_⟩
  refine List.forall_mem_cons.2 ⟨fun a s => procSetSeaHinge_keep a s rfl (Keep.refl _ _), ?_⟩
  refine List.forall_mem_cons.2 ⟨fun a s => procGetSeaPlacement_keep a s rfl (Keep.refl _ _), ?_⟩
  refine List.forall_mem_cons.2 ⟨fun a s => procGetSeaEngines_keep a s rfl (Keep.refl _ _), ?_⟩
  refine List.forall_mem_cons.2 ⟨fun a s => procGetSeaKernel_keep a s rfl (Keep.refl _ _), ?_⟩
  refine List.forall_mem_cons.2 ⟨fun a s => procLoadSeaKernel_keep a s rfl (Keep.refl _ _), ?_⟩
  refine List.forall_mem_cons.2 ⟨fun a s => procSelectSeaKernel_keep a s rfl (Keep.refl _ _), ?_⟩
  refine List.forall_mem_cons.2 ⟨fun a s => procGetSeaKparam_keep a s rfl (Keep.refl _ _), ?_⟩
  refine List.forall_mem_cons.2 ⟨fun a s => procSetSeaKparam_keep a s rfl (Keep.refl _ _), ?_⟩
  refine List.forall_mem_cons.2 ⟨fun a s => procGetSdfCfg_keep a s rfl (Keep.refl _ _), ?_⟩
  refine List.forall_mem_cons.2 ⟨fun a s => procSetSdfCfg_keep a s rfl (Keep.refl _ _), ?_⟩
  refine List.forall_mem_cons.2 ⟨fun a s => procGetSdfStatus_keep a s rfl (Keep.refl _ _), ?_⟩
  refine List.forall_mem_cons.2 ⟨fun a s => procGetSdfStats_keep a s rfl (Keep.refl _ _), ?_⟩
  refine List.forall_mem_cons.2 ⟨fun a s => procGetSdfDetector_keep a s rfl (Keep.refl _ _), ?_⟩
  exact fun c hc => absurd hc List.not_mem_nil

theorem commands2_keep : ∀ c ∈ commands2, ∀ a s, Keep 0x7fe3ffffffea s (c.2 a s) := by
  unfold commands2
  refine List.forall_mem_cons.2 ⟨fun a s => procRestartSdfHunt_keep a s rfl (Keep.refl _ _), ?_⟩
  refine List.forall_mem_cons.2 ⟨fun a s => procGetLtxCfg_keep a s rfl (Keep.refl _ _), ?_⟩
  refine List.forall_mem_cons.2 ⟨fun a s => procSetLtxCfg_keep a s rfl (Keep.refl _ _), ?_⟩
  refine List.forall_mem_cons.2 ⟨fun a s => procGetLtxStatus_keep a s rfl (Keep.refl _ _), ?_⟩
  refine List.forall_mem_cons.2 ⟨fun a s => procSquelchLtxOut_keep a s rfl (Keep.refl _ _), ?_⟩
  refine List.forall_mem_cons.2 ⟨fun a s => procReleaseLtxOut_keep a s rfl (Keep.refl _ _), ?_⟩
  refine List.forall_mem_cons.2 ⟨fun a s => procGetHslCfg_keep a s rfl (Keep.refl _ _), ?_⟩
  refine List.forall_mem_cons.2 ⟨fun a s => procSetHslCfg_keep a s rfl (Keep.refl _ _), ?_⟩
  refine List.forall_mem_cons.2 ⟨fun a s => procGetHslGroup_keep a s rfl (Keep.refl _ _), ?_⟩
  refine List.forall_mem_cons.2 ⟨fun a s => procSetHslGroup_keep a s rfl (Keep.refl _ _), ?_⟩
  refine List.forall_mem_cons.2 ⟨fun a s => procGetHslStatus_keep a s rfl (Keep.refl _ _), ?_⟩
  refine List.forall_mem_cons.2 ⟨fun a s => procGetHslQuality_keep a s rfl (Keep.refl _ _), ?_⟩
  refine List.forall_mem_cons.2 ⟨fun a s => procRestartHslTrain_keep a s rfl (Keep.refl _ _), ?_⟩
  refine List.forall_mem_cons.2 ⟨fun a s => procGetPfxBlocklock_keep a s rfl (Keep.refl _ _), ?_⟩
  refine List.forall_mem_cons.2 ⟨fun a s => procGetPortCfg_keep a s rfl (Keep.refl _ _), ?_⟩
  refine List.forall_mem_cons.2 ⟨fun a s => procSetPortCfg_keep a s rfl (Keep.refl _ _), ?_⟩
  refine List.forall_mem_cons.2 ⟨fun a s => procDeletePortCfg_keep a s rfl (Keep.refl _ _), ?_⟩
  refine List.forall_mem_cons.2 ⟨fun a s => procStartPort_keep a s rfl (Keep.refl _ _), ?_⟩
  refine List.forall_mem_cons.2 ⟨fun a s => procStopPort_keep a s rfl (Keep.refl _ _), ?_⟩
  refine List.forall_mem_cons.2 ⟨fun a s => procGetPortStatus_keep a s rfl (Keep.refl _ _), ?_⟩
  exact fun c hc => absurd hc List.not_mem_nil

theorem commands3_keep : ∀ c ∈ commands3, ∀ a s, Keep 0x7fe3ffffffea s (c.2 a s) := by
  unfold commands3
  refine List.forall_mem_cons.2 ⟨fun a s => procGetPltCfg_keep a s rfl (Keep.refl _ _), ?_⟩
  refine List.forall_mem_cons.2 ⟨fun a s => procSetPltCfg_keep a s rfl (Keep.refl _ _), ?_⟩
  refine List.forall_mem_cons.2 ⟨fun a s => procSendPltPacket_keep a s rfl (Keep.refl _ _), ?_⟩
  refine List.forall_mem_cons.2 ⟨fun a s => procReceivePltPacket_keep a s rfl (Keep.refl _ _), ?_⟩
  refine List.forall_mem_cons.2 ⟨fun a s => procGetPltPeer_keep a s rfl (Keep.refl _ _), ?_⟩
  refine List.forall_mem_cons.2 ⟨fun a s => procSetPltPeer_keep a s rfl (Keep.refl _ _), ?_⟩
  refine List.forall_mem_cons.2 ⟨fun a s => procGetPltStatus_keep a s rfl (Keep.refl _ _), ?_⟩
  refine List.forall_mem_cons.2 ⟨fun a s => procGetLexCfg_keep a s rfl (Keep.refl _ _), ?_⟩
  refine List.forall_mem_cons.2 ⟨fun a s => procSetLexCfg_keep a s rfl (Keep.refl _ _), ?_⟩
  refine List.forall_mem_cons.2 ⟨fun a s => procGetLexPort_keep a s rfl (Keep.refl _ _), ?_⟩
  refine List.forall_mem_cons.2 ⟨fun a s => procSetLexPort_keep a s rfl (Keep.refl _ _), ?_⟩
  refine List.forall_mem_cons.2 ⟨fun a s => procGetLexContext_keep a s rfl (Keep.refl _ _), ?_⟩
  refine List.forall_mem_cons.2 ⟨fun a s => procInsertLexContext_keep a s rfl (Keep.refl _ _), ?_⟩
  refine List.forall_mem_cons.2 ⟨fun a s => procDeleteLexContext_keep a s rfl (Keep.refl _ _), ?_⟩
  refine List.forall_mem_cons.2 ⟨fun a s => procFlushLexDump_keep a s rfl (Keep.refl _ _), ?_⟩
  refine List.forall_mem_cons.2 ⟨fun a s => procGetLexStats_keep a s rfl (Keep.refl _ _), ?_⟩
  refine List.forall_mem_cons.2 ⟨fun a s => procGetTkuDomain_keep a s rfl (Keep.refl _ _), ?_⟩
  refine List.forall_mem_cons.2 ⟨fun a s => procSetTkuDomain_keep a s rfl (Keep.refl _ _), ?_⟩
  refine List.forall_mem_cons.2 ⟨fun a s => procGetTkuPort_keep a s rfl (Keep.refl _ _), ?_⟩
  refine List.forall_mem_cons.2 ⟨fun a s => procSetTkuPort_keep a s rfl (Keep.refl _ _), ?_⟩
  exact fun c hc => absurd hc List.not_mem_nil

theorem commands4_keep : ∀ c ∈ commands4, ∀ a s, Keep 0x7fe3ffffffea s (c.2 a s) := by
  unfold commands4
  refine List.forall_mem_cons.2 ⟨fun a s => procGetTkuStats_keep a s rfl (Keep.refl _ _), ?_⟩
  refine List.forall_mem_cons.2 ⟨fun a s => procGetHifLink_keep a s rfl (Keep.refl _ _), ?_⟩
  refine List.forall_mem_cons.2 ⟨fun a s => procGetHifWindow_keep a s rfl (Keep.refl _ _), ?_⟩
  refine List.forall_mem_cons.2 ⟨fun a s => procSetHifWindow_keep a s rfl (Keep.refl _ _), ?_⟩
  refine List.forall_mem_cons.2 ⟨fun a s => procGetHifDma_keep a s rfl (Keep.refl _ _), ?_⟩
  refine List.forall_mem_cons.2 ⟨fun a s => procSetHifDma_keep a s rfl (Keep.refl _ _), ?_⟩
  refine List.forall_mem_cons.2 ⟨fun a s => procGetHifMgt_keep a s rfl (Keep.refl _ _), ?_⟩
  refine List.forall_mem_cons.2 ⟨fun a s => procGetIcuEvent_keep a s rfl (Keep.refl _ _), ?_⟩
  refine List.forall_mem_cons.2 ⟨fun a s => procSetIcuEvent_keep a s rfl (Keep.refl _ _), ?_⟩
  refine List.forall_mem_cons.2 ⟨fun a s => procGetIcuMgt_keep a s rfl (Keep.refl _ _), ?_⟩
  refine List.forall_mem_cons.2 ⟨fun a s => procSetIcuMgt_keep a s rfl (Keep.refl _ _), ?_⟩
  refine List.forall_mem_cons.2 ⟨fun a s => procGetMemCfg_keep a s rfl (Keep.refl _ _), ?_⟩
  refine List.forall_mem_cons.2 ⟨fun a s => procSetMemCfg_keep a s rfl (Keep.refl _ _), ?_⟩
  refine List.forall_mem_cons.2 ⟨fun a s => procGetMemStatus_keep a s rfl (Keep.refl _ _), ?_⟩
  refine List.forall_mem_cons.2 ⟨fun a s => procGetMemEcho_keep a s rfl (Keep.refl _ _), ?_⟩
  refine List.forall_mem_cons.2 ⟨fun a s => procGetMemSpares_keep a s rfl (Keep.refl _ _), ?_⟩
  refine List.forall_mem_cons.2 ⟨fun a s => procGetMemStats_keep a s rfl (Keep.refl _ _), ?_⟩
  refine List.forall_mem_cons.2 ⟨fun a s => procGetOcuAx_keep a s rfl (Keep.refl _ _), ?_⟩
  refine List.forall_mem_cons.2 ⟨fun a s => procSetOcuAx_keep a s rfl (Keep.refl _ _), ?_⟩
  refine List.forall_mem_cons.2 ⟨fun a s => procGetOcuCode_keep a s rfl (Keep.refl _ _), ?_⟩
  exact fun c hc => absurd hc List.not_mem_nil

theorem commands5_keep : ∀ c ∈ commands5, ∀ a s, Keep 0x7fe3ffffffea s (c.2 a s) := by
  unfold commands5
  refine List.forall_mem_cons.2 ⟨fun a s => procSetOcuCode_keep a s rfl (Keep.refl _ _), ?_⟩
  refine List.forall_mem_cons.2 ⟨fun a s => procGetOcuMn_keep a s rfl (Keep.refl _ _), ?_⟩
  refine List.forall_mem_cons.2 ⟨fun a s => procSetOcuMn_keep a s rfl (Keep.refl _ _), ?_⟩
  refine List.forall_mem_cons.2 ⟨fun a s => procGetOcuLoop_keep a s rfl (Keep.refl _ _), ?_⟩
  refine List.forall_mem_cons.2 ⟨fun a s => procSetOcuLoop_keep a s rfl (Keep.refl _ _), ?_⟩
  refine List.forall_mem_cons.2 ⟨fun a s => procGetOcuLane_keep a s rfl (Keep.refl _ _), ?_⟩
  refine List.forall_mem_cons.2 ⟨fun a s => procGetOcuStats_keep a s rfl (Keep.refl _ _), ?_⟩
  refine List.forall_mem_cons.2 ⟨fun a s => procGetCalCfg_keep a s rfl (Keep.refl _ _), ?_⟩
  refine List.forall_mem_cons.2 ⟨fun a s => procSetCalCfg_keep a s rfl (Keep.refl _ _), ?_⟩
  refine List.forall_mem_cons.2 ⟨fun a s => procGetCalBlock_keep a s rfl (Keep.refl _ _), ?_⟩
  refine List.forall_mem_cons.2 ⟨fun a s => procRunCalBlock_keep a s rfl (Keep.refl _ _), ?_⟩
  refine List.forall_mem_cons.2 ⟨fun a s => procClearCalBlock_keep a s rfl (Keep.refl _ _), ?_⟩
  refine List.forall_mem_cons.2 ⟨fun a s => procGetThmCfg_keep a s rfl (Keep.refl _ _), ?_⟩
  refine List.forall_mem_cons.2 ⟨fun a s => procSetThmCfg_keep a s rfl (Keep.refl _ _), ?_⟩
  refine List.forall_mem_cons.2 ⟨fun a s => procGetThmSensor_keep a s rfl (Keep.refl _ _), ?_⟩
  refine List.forall_mem_cons.2 ⟨fun a s => procAckThmSensor_keep a s rfl (Keep.refl _ _), ?_⟩
  refine List.forall_mem_cons.2 ⟨fun a s => procGetThmStatus_keep a s rfl (Keep.refl _ _), ?_⟩
  refine List.forall_mem_cons.2 ⟨fun a s => procClearThmStatus_keep a s rfl (Keep.refl _ _), ?_⟩
  refine List.forall_mem_cons.2 ⟨fun a s => procGetFwPane_keep a s rfl (Keep.refl _ _), ?_⟩
  refine List.forall_mem_cons.2 ⟨fun a s => procSwitchFwPane_keep a s rfl (Keep.refl _ _), ?_⟩
  exact fun c hc => absurd hc List.not_mem_nil

theorem commands6_keep : ∀ c ∈ commands6, ∀ a s, Keep 0x7fe3ffffffea s (c.2 a s) := by
  unfold commands6
  refine List.forall_mem_cons.2 ⟨fun a s => procGetTstCfg_keep a s rfl (Keep.refl _ _), ?_⟩
  refine List.forall_mem_cons.2 ⟨fun a s => procSetTstCfg_keep a s rfl (Keep.refl _ _), ?_⟩
  refine List.forall_mem_cons.2 ⟨fun a s => procGetTstStatus_keep a s rfl (Keep.refl _ _), ?_⟩
  refine List.forall_mem_cons.2 ⟨fun a s => procGetTstVerdicts_keep a s rfl (Keep.refl _ _), ?_⟩
  refine List.forall_mem_cons.2 ⟨fun a s => procGetRepRecord_keep a s rfl (Keep.refl _ _), ?_⟩
  refine List.forall_mem_cons.2 ⟨fun a s => procGetRelYields_keep a s rfl (Keep.refl _ _), ?_⟩
  refine List.forall_mem_cons.2 ⟨fun a s => procGetPmcCounter_keep a s rfl (Keep.refl _ _), ?_⟩
  refine List.forall_mem_cons.2 ⟨fun a s => procSetPmcCounter_keep a s rfl (Keep.refl _ _), ?_⟩
  refine List.forall_mem_cons.2 ⟨fun a s => procClearPmcCounter_keep a s rfl (Keep.refl _ _), ?_⟩
  refine List.forall_mem_cons.2 ⟨fun a s => procGetPmcDump_keep a s rfl (Keep.refl _ _), ?_⟩
  refine List.forall_mem_cons.2 ⟨fun a s => procSetPmcDump_keep a s rfl (Keep.refl _ _), ?_⟩
  refine List.forall_mem_cons.2 ⟨fun a s => procFlushPmcDump_keep a s rfl (Keep.refl _ _), ?_⟩
  refine List.forall_mem_cons.2 ⟨fun a s => procGetPmcSample_keep a s rfl (Keep.refl _ _), ?_⟩
  refine List.forall_mem_cons.2 ⟨fun a s => procSetPmcSample_keep a s rfl (Keep.refl _ _), ?_⟩
  refine List.forall_mem_cons.2 ⟨fun a s => procGetPwrCfg_keep a s rfl (Keep.refl _ _), ?_⟩
  refine List.forall_mem_cons.2 ⟨fun a s => procSetPwrCfg_keep a s rfl (Keep.refl _ _), ?_⟩
  refine List.forall_mem_cons.2 ⟨fun a s => procGetPwrStatus_keep a s rfl (Keep.refl _ _), ?_⟩
  refine List.forall_mem_cons.2 ⟨fun a s => procClearPwrStatus_keep a s rfl (Keep.refl _ _), ?_⟩
  refine List.forall_mem_cons.2 ⟨fun a s => procGetPwrRail_keep a s rfl (Keep.refl _ _), ?_⟩
  exact fun c hc => absurd hc List.not_mem_nil

/-- What any sentence that the firmware begins changes. -/
theorem commands_keep : ∀ c ∈ commands, ∀ a s, Keep 0x7fe3ffffffea s (c.2 a s) := by
  intro c hc
  simp only [commands, List.mem_append] at hc
  obtain (((((h | h) | h) | h) | h) | h) | h := hc
  · exact commands0_keep c h
  · exact commands1_keep c h
  · exact commands2_keep c h
  · exact commands3_keep c h
  · exact commands4_keep c h
  · exact commands5_keep c h
  · exact commands6_keep c h

theorem runSentence_keep (verb noun : Nat) (a : Sentence) (s : State) {k0 : Nat} {z0 : State} (hk : Nat.land 0x7fe3ffffffea k0 = 0x7fe3ffffffea) (hz : Keep k0 z0 s) : Keep k0 z0 (runSentence verb noun a s) := by
  refine Keep.step ?_ hk hz
  unfold runSentence
  cases h : commandOf verb noun with
  | none => exact procUndefined_keep _ _ _ _ rfl (Keep.refl _ _)
  | some c => exact commands_keep c (List.mem_of_find?_eq_some h) a s

theorem State.beginWaiting_keep (s : State) {k0 : Nat} {z0 : State} (hk : Nat.land 0x7fe3ffffffea k0 = 0x7fe3ffffffea) (hz : Keep k0 z0 s) : Keep k0 z0 (State.beginWaiting s) := by
  refine Keep.step ?_ hk hz
  unfold State.beginWaiting
  try simp -zeta only [State.fold_mb]
  repeat' first
    | with_reducible refine Keep.ite ?_ ?_
    | with_reducible refine Keep.foldl _ ?_ ?_
    | intro u x hu
    | intro u hu
    | with_reducible apply runSentence_keep
    | with_reducible apply Keep.set_mb
    | with_reducible exact Keep.refl _ _
    | with_reducible assumption
    | exact rfl
    | exact id
    | exact Or.inl rfl
    | exact Or.inr rfl
    | exact Or.inr (List.prefix_refl _)
    | exact Or.inr fun _ => rfl
    | exact Or.inr ⟨rfl, rfl, rfl⟩
    | exact Or.inr fun _ => ⟨rfl, rfl, rfl⟩
    | exact Or.inr fun _ => ⟨rfl, rfl⟩
    | split
    | dsimp only

theorem State.bootRomBegins_keep (s : State) {k0 : Nat} {z0 : State} (hk : Nat.land 0x7fe3ffffffea k0 = 0x7fe3ffffffea) (hz : Keep k0 z0 s) : Keep k0 z0 (State.bootRomBegins s) := by
  refine Keep.step ?_ hk hz
  unfold State.bootRomBegins
  try simp -zeta only [State.fold_mb]
  repeat' first
    | with_reducible refine Keep.ite ?_ ?_
    | with_reducible refine Keep.foldl _ ?_ ?_
    | intro u x hu
    | intro u hu
    | with_reducible apply runSentence_keep
    | with_reducible apply State.complete_keep
    | with_reducible apply Keep.set_mb
    | with_reducible exact Keep.refl _ _
    | with_reducible assumption
    | exact rfl
    | exact id
    | exact Or.inl rfl
    | exact Or.inr rfl
    | exact Or.inr (List.prefix_refl _)
    | exact Or.inr fun _ => rfl
    | exact Or.inr ⟨rfl, rfl, rfl⟩
    | exact Or.inr fun _ => ⟨rfl, rfl, rfl⟩
    | exact Or.inr fun _ => ⟨rfl, rfl⟩
    | split
    | dsimp only

theorem State.endRecovery_keep (s : State) (b : Bool) {k0 : Nat} {z0 : State} (hk : Nat.land 0x120000001b80 k0 = 0x120000001b80) (hz : Keep k0 z0 s) : Keep k0 z0 (State.endRecovery s b) := by
  refine Keep.step ?_ hk hz
  unfold State.endRecovery
  repeat' first
    | with_reducible refine Keep.ite ?_ ?_
    | with_reducible apply State.modFw_keep
    | with_reducible apply State.finish_keep
    | with_reducible exact Keep.refl _ _
    | with_reducible assumption
    | exact rfl
    | exact id
    | exact Or.inl rfl
    | exact Or.inr rfl
    | exact Or.inr (List.prefix_refl _)
    | exact Or.inr fun _ => rfl
    | exact Or.inr ⟨rfl, rfl, rfl⟩
    | exact Or.inr fun _ => ⟨rfl, rfl, rfl⟩
    | exact Or.inr fun _ => ⟨rfl, rfl⟩
    | split
    | dsimp only

theorem State.firmwareUp_keep (s : State) (b : Bool) {k0 : Nat} {z0 : State} (hk : Nat.land 0x128000001ba0 k0 = 0x128000001ba0) (hz : Keep k0 z0 s) : Keep k0 z0 (State.firmwareUp s b) := by
  refine Keep.step ?_ hk hz
  unfold State.firmwareUp
  try simp -zeta only [State.fold_thm]
  repeat' first
    | with_reducible refine Keep.ite ?_ ?_
    | with_reducible apply State.modFw_keep
    | with_reducible apply State.endRecovery_keep
    | with_reducible apply State.upStep_keep
    | with_reducible apply Keep.set_thm
    | with_reducible exact Keep.refl _ _
    | with_reducible assumption
    | exact rfl
    | exact id
    | exact Or.inl rfl
    | exact Or.inr rfl
    | exact Or.inr (List.prefix_refl _)
    | exact Or.inr fun _ => rfl
    | exact Or.inr ⟨rfl, rfl, rfl⟩
    | exact Or.inr fun _ => ⟨rfl, rfl, rfl⟩
    | exact Or.inr fun _ => ⟨rfl, rfl⟩
    | split
    | dsimp only

theorem State.fold_dev_thm (t : State) (dev' : type_of% t.dev) (thm' : type_of% t.thm) :
    State.mk t.pending t.free t.fuses dev' t.shut t.mb t.ev t.icu t.hif t.err t.tku t.params t.stats t.line t.host t.group t.port t.block t.eng t.hinge t.lex t.mem t.rep t.ocu t.cal thm' t.tst t.pmc t.pwr t.fw t.cap = ((t.withDev dev').withThm thm') := rfl

theorem State.firmwareDown_keep (s : State) {k0 : Nat} {z0 : State} (hk : Nat.land 0x7fe3ffffffea k0 = 0x7fe3ffffffea) (hz : Keep k0 z0 s) : Keep k0 z0 (State.firmwareDown s) := by
  refine Keep.step ?_ hk hz
  unfold State.firmwareDown
  try simp -zeta only [State.fold_dev_thm, State.fold_dev, State.fold_thm]
  repeat' first
    | with_reducible refine Keep.ite ?_ ?_
    | with_reducible apply State.modFw_keep
    | with_reducible apply State.finishOpt_keep
    | with_reducible apply State.startFail_keep
    | with_reducible apply State.settle_keep
    | with_reducible apply State.bootRomBegins_keep
    | with_reducible apply Keep.set_dev
    | with_reducible apply Keep.set_thm
    | with_reducible exact Keep.refl _ _
    | with_reducible assumption
    | exact rfl
    | exact id
    | exact Or.inl rfl
    | exact Or.inr rfl
    | exact Or.inr (List.prefix_refl _)
    | exact Or.inr fun _ => rfl
    | exact Or.inr ⟨rfl, rfl, rfl⟩
    | exact Or.inr fun _ => ⟨rfl, rfl, rfl⟩
    | exact Or.inr fun _ => ⟨rfl, rfl⟩
    | split
    | dsimp only

theorem execFirmwareLoadDone_keep (ok : Bool) (s : State) {t : State} (h : execFirmwareLoadDone ok s = .next t) : Keep 0x7fe3ffffffea s t := by
  unfold execFirmwareLoadDone at h
  injection h with h
  subst h
  repeat' first
    | with_reducible refine Keep.ite ?_ ?_
    | intro u hu
    | with_reducible apply State.firmwareUp_keep
    | with_reducible apply State.settle_keep
    | with_reducible apply State.modFw_keep
    | with_reducible apply State.firmwareDown_keep
    | with_reducible exact Keep.refl _ _
    | with_reducible assumption
    | exact rfl
    | exact id
    | exact Or.inl rfl
    | exact Or.inr rfl
    | exact Or.inr (List.prefix_refl _)
    | exact Or.inr fun _ => rfl
    | exact Or.inr ⟨rfl, rfl, rfl⟩
    | exact Or.inr fun _ => ⟨rfl, rfl, rfl⟩
    | exact Or.inr fun _ => ⟨rfl, rfl⟩
    | split
    | dsimp only

theorem State.railSeen_keep (s : State) {k0 : Nat} {z0 : State} (hk : Nat.land 0x300 k0 = 0x300) (hz : Keep k0 z0 s) : Keep k0 z0 (State.railSeen s) := by
  refine Keep.step ?_ hk hz
  unfold State.railSeen
  repeat' first
    | with_reducible refine Keep.ite ?_ ?_
    | with_reducible apply State.raise_keep
    | with_reducible exact Keep.refl _ _
    | with_reducible assumption
    | exact rfl
    | exact id
    | exact Or.inl rfl
    | exact Or.inr rfl
    | exact Or.inr (List.prefix_refl _)
    | exact Or.inr fun _ => rfl
    | exact Or.inr ⟨rfl, rfl, rfl⟩
    | exact Or.inr fun _ => ⟨rfl, rfl, rfl⟩
    | exact Or.inr fun _ => ⟨rfl, rfl⟩
    | split
    | dsimp only

theorem execStartUpComplete_keep (s : State) {t : State} (h : execStartUpComplete s = .next t) : Keep 0x7fe3ffffffea s t := by
  unfold execStartUpComplete at h
  injection h with h
  subst h
  try simp -zeta only [State.fold_dev]
  repeat' first
    | with_reducible refine Keep.ite ?_ ?_
    | intro u hu
    | with_reducible apply State.setMode_keep
    | with_reducible apply State.railSeen_keep
    | with_reducible apply State.follow_keep
    | with_reducible apply State.beginWaiting_keep
    | with_reducible apply Keep.set_dev
    | with_reducible exact Keep.refl _ _
    | with_reducible assumption
    | exact rfl
    | exact id
    | exact Or.inl rfl
    | exact Or.inr rfl
    | exact Or.inr (List.prefix_refl _)
    | exact Or.inr fun _ => rfl
    | exact Or.inr ⟨rfl, rfl, rfl⟩
    | exact Or.inr fun _ => ⟨rfl, rfl, rfl⟩
    | exact Or.inr fun _ => ⟨rfl, rfl⟩
    | split
    | dsimp only

theorem execNewPaneResumed_keep (s : State) {t : State} (h : execNewPaneResumed s = .next t) : Keep 0x7fe3ffffffea s t := by
  unfold execNewPaneResumed at h
  injection h with h
  subst h
  try simp -zeta only [State.fold_dev]
  repeat' first
    | with_reducible refine Keep.ite ?_ ?_
    | intro u hu
    | with_reducible apply State.modFw_keep
    | with_reducible apply State.settle_keep
    | with_reducible apply State.beginWaiting_keep
    | with_reducible apply Keep.set_dev
    | with_reducible exact Keep.refl _ _
    | with_reducible assumption
    | exact rfl
    | exact id
    | exact Or.inl rfl
    | exact Or.inr rfl
    | exact Or.inr (List.prefix_refl _)
    | exact Or.inr fun _ => rfl
    | exact Or.inr ⟨rfl, rfl, rfl⟩
    | exact Or.inr fun _ => ⟨rfl, rfl, rfl⟩
    | exact Or.inr fun _ => ⟨rfl, rfl⟩
    | split
    | dsimp only

theorem execPaneSwitchTimeout_keep (s : State) {t : State} (h : execPaneSwitchTimeout s = .next t) : Keep 0x7fe3ffffffea s t := by
  unfold execPaneSwitchTimeout at h
  injection h with h
  subst h
  repeat' first
    | with_reducible refine Keep.ite ?_ ?_
    | intro u hu
    | with_reducible apply State.switchFail_keep
    | with_reducible apply State.beginWaiting_keep
    | with_reducible exact Keep.refl _ _
    | with_reducible assumption
    | exact rfl
    | exact id
    | exact Or.inl rfl
    | exact Or.inr rfl
    | exact Or.inr (List.prefix_refl _)
    | exact Or.inr fun _ => rfl
    | exact Or.inr ⟨rfl, rfl, rfl⟩
    | exact Or.inr fun _ => ⟨rfl, rfl, rfl⟩
    | exact Or.inr fun _ => ⟨rfl, rfl⟩
    | split
    | dsimp only

theorem execMbxDoorbellRing_keep (verb noun : Byte) (m : Sentence) (s : State) {t : State} (h : execMbxDoorbellRing verb noun m s = .next t) : Keep 0x7fe3ffffffea s t := by
  unfold execMbxDoorbellRing at h
  injection h with h
  subst h
  repeat' first
    | with_reducible refine Keep.ite ?_ ?_
    | intro u hu
    | with_reducible apply submit_keep
    | with_reducible apply runSentence_keep
    | with_reducible exact Keep.refl _ _
    | with_reducible assumption
    | exact rfl
    | exact id
    | exact Or.inl rfl
    | exact Or.inr rfl
    | exact Or.inr (List.prefix_refl _)
    | exact Or.inr fun _ => rfl
    | exact Or.inr ⟨rfl, rfl, rfl⟩
    | exact Or.inr fun _ => ⟨rfl, rfl, rfl⟩
    | exact Or.inr fun _ => ⟨rfl, rfl⟩
    | split
    | dsimp only

theorem State.doorbell_keep (s : State) (r : Requester) (n : Nat) (v : Word) {k0 : Nat} {z0 : State} (hk : Nat.land 0x7fe3ffffffea k0 = 0x7fe3ffffffea) (hz : Keep k0 z0 s) : Keep k0 z0 (State.doorbell s r n v) := by
  refine Keep.step ?_ hk hz
  unfold State.doorbell
  try simp -zeta only [State.fold_mb]
  repeat' first
    | exact fun u hu => runSentence_keep _ _ _ _ rfl hu
    | with_reducible refine Keep.ite ?_ ?_
    | with_reducible apply State.ring_keep
    | with_reducible apply runSentence_keep
    | with_reducible apply Keep.set_mb
    | with_reducible exact Keep.refl _ _
    | with_reducible assumption
    | exact rfl
    | exact id
    | exact Or.inl rfl
    | exact Or.inr rfl
    | exact Or.inr (List.prefix_refl _)
    | exact Or.inr fun _ => rfl
    | exact Or.inr ⟨rfl, rfl, rfl⟩
    | exact Or.inr fun _ => ⟨rfl, rfl, rfl⟩
    | exact Or.inr fun _ => ⟨rfl, rfl⟩
    | split
    | dsimp only

theorem execRegisterWrite_keep (r : Requester) (off : Nat) (v : Word) (whole : Bool) (s : State) {t : State} (h : execRegisterWrite r off v whole s = .next t) : Keep 0x7fe3ffffffea s t := by
  unfold execRegisterWrite at h
  injection h with h
  subst h
  repeat' first
    | with_reducible refine Keep.ite ?_ ?_
    | intro u hu
    | with_reducible apply State.onBus_keep
    | with_reducible apply State.discardWrite_keep
    | with_reducible apply State.doorbell_keep
    | with_reducible apply State.boxWrite_keep
    | with_reducible apply State.blockWrite_keep
    | with_reducible exact Keep.refl _ _
    | with_reducible assumption
    | exact rfl
    | exact id
    | exact Or.inl rfl
    | exact Or.inr rfl
    | exact Or.inr (List.prefix_refl _)
    | exact Or.inr fun _ => rfl
    | exact Or.inr ⟨rfl, rfl, rfl⟩
    | exact Or.inr fun _ => ⟨rfl, rfl, rfl⟩
    | exact Or.inr fun _ => ⟨rfl, rfl⟩
    | split
    | dsimp only

end Sys2Proof.Machine
end

