-- ==== Sys2Proof/Laws/KeepExec.lean ====
section
/-! SUPPORT. What any command can change, and that it carries every bound over: `exec_keep`, from the lemma of each meaning. -/

set_option linter.unusedTactic false
set_option linter.unreachableTactic false
set_option linter.unnecessarySeqFocus false
set_option linter.unusedVariables false
set_option linter.unusedSimpArgs false

namespace Sys2Proof.Machine

/-- The components that some command changes: all but the queue of waiting commands, the fuses. -/
def anyMask : Nat := 0xfffffffffffa

/-- What one command can do. -/
theorem exec_keep (i : Instr) (s0 : State) {t : State} (hx : exec i s0 = .next t) : Keep anyMask s0 t := by
  cases i with
  | registerWrite r off v whole => exact Keep.step (execRegisterWrite_keep r off v whole s0 hx) rfl (Keep.refl _ _)
  | bar0WideRead r off dwords => exact Keep.step (execBar0WideRead_keep r off dwords s0 hx) rfl (Keep.refl _ _)
  | readLoSnapshot r off => exact Keep.step (execReadLoSnapshot_keep r off s0 hx) rfl (Keep.refl _ _)
  | tkuBcntLoRead r => exact Keep.step (execTkuBcntLoRead_keep r s0 hx) rfl (Keep.refl _ _)
  | tkuIncLoWrite r d v => exact Keep.step (execTkuIncLoWrite_keep r d v s0 hx) rfl (Keep.refl _ _)
  | tkuIncHiWrite r d v => exact Keep.step (execTkuIncHiWrite_keep r d v s0 hx) rfl (Keep.refl _ _)
  | tkuStepGoA r => exact Keep.step (execTkuStepGoA_keep r s0 hx) rfl (Keep.refl _ _)
  | tkuStepGoB r both => exact Keep.step (execTkuStepGoB_keep r both s0 hx) rfl (Keep.refl _ _)
  | tkuDomSelWrite r v => exact Keep.step (execTkuDomSelWrite_keep r v s0 hx) rfl (Keep.refl _ _)
  | tkuStatusClear r v now => exact Keep.step (execTkuStatusClear_keep r v now s0 hx) rfl (Keep.refl _ _)
  | icuClaimRead r vec => exact Keep.step (execIcuClaimRead_keep r vec s0 hx) rfl (Keep.refl _ _)
  | icuCompleteWrite r v => exact Keep.step (execIcuCompleteWrite_keep r v s0 hx) rfl (Keep.refl _ _)
  | icuLevelRead r => exact Keep.step (execIcuLevelRead_keep r s0 hx) rfl (Keep.refl _ _)
  | icuEnableWrite r v => exact Keep.step (execIcuEnableWrite_keep r v s0 hx) rfl (Keep.refl _ _)
  | icuPmeCauseClear r v now => exact Keep.step (execIcuPmeCauseClear_keep r v now s0 hx) rfl (Keep.refl _ _)
  | msixUnmask r vec => exact Keep.step (execMsixUnmask_keep r vec s0 hx) rfl (Keep.refl _ _)
  | pmcValueLoRead r => exact Keep.step (execPmcValueLoRead_keep r s0 hx) rfl (Keep.refl _ _)
  | pmcGroupLatchGo r => exact Keep.step (execPmcGroupLatchGo_keep r s0 hx) rfl (Keep.refl _ _)
  | dmaTailWrite r ch v => exact Keep.step (execDmaTailWrite_keep r ch v s0 hx) rfl (Keep.refl _ _)
  | dmaStatusClear r ch v now => exact Keep.step (execDmaStatusClear_keep r ch v now s0 hx) rfl (Keep.refl _ _)
  | errStickyRead r now => exact Keep.step (execErrStickyRead_keep r now s0 hx) rfl (Keep.refl _ _)
  | idErrRead r now => exact Keep.step (execIdErrRead_keep r now s0 hx) rfl (Keep.refl _ _)
  | mgtMbxStatusRead n => exact Keep.step (execMgtMbxStatusRead_keep n s0 hx) rfl (Keep.refl _ _)
  | mgtTransferDiscarded => exact Keep.step (execMgtTransferDiscarded_keep s0 hx) rfl (Keep.refl _ _)
  | i3cDynamicAddress addr => exact Keep.step (execI3cDynamicAddress_keep addr s0 hx) rfl (Keep.refl _ _)
  | i3cRstdaa => exact Keep.step (execI3cRstdaa_keep s0 hx) rfl (Keep.refl _ _)
  | ibiDeclined => exact Keep.step (execIbiDeclined_keep s0 hx) rfl (Keep.refl _ _)
  | bar2Read r off dwords ups => exact Keep.step (execBar2Read_keep r off dwords ups s0 hx) rfl (Keep.refl _ _)
  | bar2Write r off bytes ups => exact Keep.step (execBar2Write_keep r off bytes ups s0 hx) rfl (Keep.refl _ _)
  | echoEntryExpiry region addr => exact Keep.step (execEchoEntryExpiry_keep region addr s0 hx) rfl (Keep.refl _ _)
  | repairCopyDone region => exact Keep.step (execRepairCopyDone_keep region s0 hx) rfl (Keep.refl _ _)
  | marchTestDone region verdict => exact Keep.step (execMarchTestDone_keep region verdict s0 hx) rfl (Keep.refl _ _)
  | repairRecordAppend => exact Keep.step (execRepairRecordAppend_keep s0 hx) rfl (Keep.refl _ _)
  | refreshCommand die => exact Keep.step (execRefreshCommand_keep die s0 hx) rfl (Keep.refl _ _)
  | vinValid vin straps => exact Keep.step (execVinValid_keep vin straps s0 hx) rfl (Keep.refl _ _)
  | railInRegulation => exact Keep.step (execRailInRegulation_keep s0 hx) rfl (Keep.refl _ _)
  | pgoodReleaseTimer => exact Keep.step (execPgoodReleaseTimer_keep s0 hx) rfl (Keep.refl _ _)
  | fuseMapLoaded ok => exact Keep.step (execFuseMapLoaded_keep ok s0 hx) rfl (Keep.refl _ _)
  | memoryFillDone ok => exact Keep.step (execMemoryFillDone_keep ok s0 hx) rfl (Keep.refl _ _)
  | firmwareLoadDone ok => exact Keep.step (execFirmwareLoadDone_keep ok s0 hx) rfl (Keep.refl _ _)
  | repairRecordApplied valid => exact Keep.step (execRepairRecordApplied_keep valid s0 hx) rfl (Keep.refl _ _)
  | startUpComplete => exact Keep.step (execStartUpComplete_keep s0 hx) rfl (Keep.refl _ _)
  | vinUndervoltage vin => exact Keep.step (execVinUndervoltage_keep vin s0 hx) rfl (Keep.refl _ _)
  | vinPowerDown => exact Keep.step (execVinPowerDown_keep s0 hx) rfl (Keep.refl _ _)
  | inputOvervoltage => exact Keep.step (execInputOvervoltage_keep s0 hx) rfl (Keep.refl _ _)
  | enFall => exact Keep.step (execEnFall_keep s0 hx) rfl (Keep.refl _ _)
  | enRise => exact Keep.step (execEnRise_keep s0 hx) rfl (Keep.refl _ _)
  | sysRstNAct => exact Keep.step (execSysRstNAct_keep s0 hx) rfl (Keep.refl _ _)
  | sysRstNRelease => exact Keep.step (execSysRstNRelease_keep s0 hx) rfl (Keep.refl _ _)
  | railFault rail cause => exact Keep.step (execRailFault_keep rail cause s0 hx) rfl (Keep.refl _ _)
  | railCurrentDwell rail current => exact Keep.step (execRailCurrentDwell_keep rail current s0 hx) rfl (Keep.refl _ _)
  | backstopTrip => exact Keep.step (execBackstopTrip_keep s0 hx) rfl (Keep.refl _ _)
  | laneRefclkAbsent => exact Keep.step (execLaneRefclkAbsent_keep s0 hx) rfl (Keep.refl _ _)
  | laneRefclkPresent => exact Keep.step (execLaneRefclkPresent_keep s0 hx) rfl (Keep.refl _ _)
  | perstNAssert => exact Keep.step (execPerstNAssert_keep s0 hx) rfl (Keep.refl _ _)
  | functionLevelReset r => exact Keep.step (execFunctionLevelReset_keep r s0 hx) rfl (Keep.refl _ _)
  | hotReset => exact Keep.step (execHotReset_keep s0 hx) rfl (Keep.refl _ _)
  | linkDown => exact Keep.step (execLinkDown_keep s0 hx) rfl (Keep.refl _ _)
  | linkUp speed width => exact Keep.step (execLinkUp_keep speed width s0 hx) rfl (Keep.refl _ _)
  | enterD3hot r => exact Keep.step (execEnterD3hot_keep r s0 hx) rfl (Keep.refl _ _)
  | enterD0 r => exact Keep.step (execEnterD0_keep r s0 hx) rfl (Keep.refl _ _)
  | enterD3cold r => exact Keep.step (execEnterD3cold_keep r s0 hx) rfl (Keep.refl _ _)
  | aspmL1Entry => exact Keep.step (execAspmL1Entry_keep s0 hx) rfl (Keep.refl _ _)
  | tapTakeoverLoad op => exact Keep.step (execTapTakeoverLoad_keep op s0 hx) rfl (Keep.refl _ _)
  | tapRelease => exact Keep.step (execTapRelease_keep s0 hx) rfl (Keep.refl _ _)
  | eventRaised n => exact Keep.step (execEventRaised_keep n s0 hx) rfl (Keep.refl _ _)
  | coalescingTimerExpiry r vec => exact Keep.step (execCoalescingTimerExpiry_keep r vec s0 hx) rfl (Keep.refl _ _)
  | datapathPowered rates => exact Keep.step (execDatapathPowered_keep rates s0 hx) rfl (Keep.refl _ _)
  | losAssert l => exact Keep.step (execLosAssert_keep l s0 hx) rfl (Keep.refl _ _)
  | losClear l => exact Keep.step (execLosClear_keep l s0 hx) rfl (Keep.refl _ _)
  | receiverPowerSettled l => exact Keep.step (execReceiverPowerSettled_keep l s0 hx) rfl (Keep.refl _ _)
  | agcSettled l rms => exact Keep.step (execAgcSettled_keep l s0 rms hx) rfl (Keep.refl _ _)
  | sliceCorrectionConverged l => exact Keep.step (execSliceCorrectionConverged_keep l s0 hx) rfl (Keep.refl _ _)
  | timingRecoveryLocked l freq => exact Keep.step (execTimingRecoveryLocked_keep l freq s0 hx) rfl (Keep.refl _ _)
  | ffeConverged l ups => exact Keep.step (execFfeConverged_keep l s0 ups hx) rfl (Keep.refl _ _)
  | acquisitionTimeout l => exact Keep.step (execAcquisitionTimeout_keep l s0 hx) rfl (Keep.refl _ _)
  | estimatePeriodEnd l q e rms => exact Keep.step (execEstimatePeriodEnd_keep l q e rms s0 hx) rfl (Keep.refl _ _)
  | snrWindowEnd l snr => exact Keep.step (execSnrWindowEnd_keep l snr s0 hx) rfl (Keep.refl _ _)
  | timingFrequencyOutOfRange l => exact Keep.step (execTimingFrequencyOutOfRange_keep l s0 hx) rfl (Keep.refl _ _)
  | backgroundWindowEnd l rs ups => exact Keep.step (execBackgroundWindowEnd_keep l rs ups s0 hx) rfl (Keep.refl _ _)
  | rotationStepStart l => exact Keep.step (execRotationStepStart_keep l s0 hx) rfl (Keep.refl _ _)
  | shadowComparisonDone l ok => exact Keep.step (execShadowComparisonDone_keep l ok s0 hx) rfl (Keep.refl _ _)
  | rotationSwitch l => exact Keep.step (execRotationSwitch_keep l s0 hx) rfl (Keep.refl _ _)
  | transomCalibrationDone l ok => exact Keep.step (execTransomCalibrationDone_keep l s0 ok hx) rfl (Keep.refl _ _)
  | captureStartCondition => exact Keep.step (execCaptureStartCondition_keep s0 hx) rfl (Keep.refl _ _)
  | captureSegmentStart => exact Keep.step (execCaptureSegmentStart_keep s0 hx) rfl (Keep.refl _ _)
  | captureSegmentDrained samples clips ecc => exact Keep.step (execCaptureSegmentDrained_keep samples clips ecc s0 hx) rfl (Keep.refl _ _)
  | blockEntersFifo l codes => exact Keep.step (execBlockEntersFifo_keep l s0 codes hx) rfl (Keep.refl _ _)
  | blockRelease l late ecc => exact Keep.step (execBlockRelease_keep l late s0 ecc hx) rfl (Keep.refl _ _)
  | fifoWatermarkCrossed l => exact Keep.step (execFifoWatermarkCrossed_keep l s0 hx) rfl (Keep.refl _ _)
  | fifoOverflow l => exact Keep.step (execFifoOverflow_keep l s0 hx) rfl (Keep.refl _ _)
  | slackReport slack rates => exact Keep.step (execSlackReport_keep slack rates s0 hx) rfl (Keep.refl _ _)
  | loweringDwellExpiry => exact Keep.step (execLoweringDwellExpiry_keep s0 hx) rfl (Keep.refl _ _)
  | vcoreReductionAnnounced => exact Keep.step (execVcoreReductionAnnounced_keep s0 hx) rfl (Keep.refl _ _)
  | vcoreStepSettled rates => exact Keep.step (execVcoreStepSettled_keep rates s0 hx) rfl (Keep.refl _ _)
  | planBlockBoundary l => exact Keep.step (execPlanBlockBoundary_keep l s0 hx) rfl (Keep.refl _ _)
  | raiseDwellExpiry => exact Keep.step (execRaiseDwellExpiry_keep s0 hx) rfl (Keep.refl _ _)
  | swapStaged l => exact Keep.step (execSwapStaged_keep l s0 hx) rfl (Keep.refl _ _)
  | shadowSettleEnd l ups => exact Keep.step (execShadowSettleEnd_keep l s0 ups hx) rfl (Keep.refl _ _)
  | swapComparisonDone l live shadow => exact Keep.step (execSwapComparisonDone_keep l live shadow s0 hx) rfl (Keep.refl _ _)
  | swapSwitch l => exact Keep.step (execSwapSwitch_keep l s0 hx) rfl (Keep.refl _ _)
  | shadowReturn l => exact Keep.step (execShadowReturn_keep l s0 hx) rfl (Keep.refl _ _)
  | coefficientPush l errs => exact Keep.step (execCoefficientPush_keep l s0 errs hx) rfl (Keep.refl _ _)
  | shadowRefresh e => exact Keep.step (execShadowRefresh_keep e s0 hx) rfl (Keep.refl _ _)
  | engineFault e cond => exact Keep.step (execEngineFault_keep e cond s0 hx) rfl (Keep.refl _ _)
  | adaptEngineFault e cond => exact Keep.step (execAdaptEngineFault_keep e cond s0 hx) rfl (Keep.refl _ _)
  | huntTestDone l hard rel skews => exact Keep.step (execHuntTestDone_keep l hard rel skews s0 hx) rfl (Keep.refl _ _)
  | lockWindowEnd l zeros => exact Keep.step (execLockWindowEnd_keep l zeros s0 hx) rfl (Keep.refl _ _)
  | innerCodewordDecode l ys after => exact Keep.step (execInnerCodewordDecode_keep l ys after s0 hx) rfl (Keep.refl _ _)
  | rsCodewordDecode l r => exact Keep.step (execRsCodewordDecode_keep l r s0 hx) rfl (Keep.refl _ _)
  | sdfPeriodEnd l syms => exact Keep.step (execSdfPeriodEnd_keep l s0 syms hx) rfl (Keep.refl _ _)
  | fixedStageFault stage unit ns => exact Keep.step (execFixedStageFault_keep stage unit ns s0 hx) rfl (Keep.refl _ _)
  | ltxSettingsApply l bits => exact Keep.step (execLtxSettingsApply_keep l s0 bits hx) rfl (Keep.refl _ _)
  | swingStep l => exact Keep.step (execSwingStep_keep l s0 hx) rfl (Keep.refl _ _)
  | dacSettled l => exact Keep.step (execDacSettled_keep l s0 hx) rfl (Keep.refl _ _)
  | opticsReady l => exact Keep.step (execOpticsReady_keep l s0 hx) rfl (Keep.refl _ _)
  | opticsSettleTimeout l => exact Keep.step (execOpticsSettleTimeout_keep l s0 hx) rfl (Keep.refl _ _)
  | opticsRetryTimer l => exact Keep.step (execOpticsRetryTimer_keep l s0 hx) rfl (Keep.refl _ _)
  | rampUpEnd l => exact Keep.step (execRampUpEnd_keep l s0 hx) rfl (Keep.refl _ _)
  | rampDownEnd l => exact Keep.step (execRampDownEnd_keep l s0 hx) rfl (Keep.refl _ _)
  | dacCellFailure l cell ns => exact Keep.step (execDacCellFailure_keep l cell ns s0 hx) rfl (Keep.refl _ _)
  | opticsReleaseTimer l => exact Keep.step (execOpticsReleaseTimer_keep l s0 hx) rfl (Keep.refl _ _)
  | axRampUpdate c => exact Keep.step (execAxRampUpdate_keep c s0 hx) rfl (Keep.refl _ _)
  | monitorOutputSample c x sat => exact Keep.step (execMonitorOutputSample_keep c x sat s0 hx) rfl (Keep.refl _ _)
  | loopUpdate n => exact Keep.step (execLoopUpdate_keep n s0 hx) rfl (Keep.refl _ _)
  | axCoreFault c cause => exact Keep.step (execAxCoreFault_keep c cause s0 hx) rfl (Keep.refl _ _)
  | axOutputStageFailure c => exact Keep.step (execAxOutputStageFailure_keep c s0 hx) rfl (Keep.refl _ _)
  | handoverSwitch c => exact Keep.step (execHandoverSwitch_keep c s0 hx) rfl (Keep.refl _ _)
  | coreCalibrationDone c => exact Keep.step (execCoreCalibrationDone_keep c s0 hx) rfl (Keep.refl _ _)
  | pilotPacketStart l => exact Keep.step (execPilotPacketStart_keep l s0 hx) rfl (Keep.refl _ _)
  | pilotPacketEnd l => exact Keep.step (execPilotPacketEnd_keep l s0 hx) rfl (Keep.refl _ _)
  | beaconIntervalExpiry l => exact Keep.step (execBeaconIntervalExpiry_keep l s0 hx) rfl (Keep.refl _ _)
  | syncDetection l m diff preamble => exact Keep.step (execSyncDetection_keep l m diff preamble s0 hx) rfl (Keep.refl _ _)
  | headerDecoded l hdr => exact Keep.step (execHeaderDecoded_keep l hdr s0 hx) rfl (Keep.refl _ _)
  | bodyDecoded l body plq subOff rateOff => exact Keep.step (execBodyDecoded_keep l body plq subOff rateOff s0 hx) rfl (Keep.refl _ _)
  | peerTimeout l => exact Keep.step (execPeerTimeout_keep l s0 hx) rfl (Keep.refl _ _)
  | hslSignalDetect h => exact Keep.step (execHslSignalDetect_keep h s0 hx) rfl (Keep.refl _ _)
  | hslClockRecoveryLocked h freq => exact Keep.step (execHslClockRecoveryLocked_keep h s0 freq hx) rfl (Keep.refl _ _)
  | trainingFrameLock h inverted => exact Keep.step (execTrainingFrameLock_keep h inverted s0 hx) rfl (Keep.refl _ _)
  | trainingWaitExpiry h => exact Keep.step (execTrainingWaitExpiry_keep h s0 hx) rfl (Keep.refl _ _)
  | trainingMeasurementDone h snr atLimit => exact Keep.step (execTrainingMeasurementDone_keep h snr atLimit s0 hx) rfl (Keep.refl _ _)
  | partnerRequest h q => exact Keep.step (execPartnerRequest_keep h q s0 hx) rfl (Keep.refl _ _)
  | trainingComplete h => exact Keep.step (execTrainingComplete_keep h s0 hx) rfl (Keep.refl _ _)
  | trainingTimeout h => exact Keep.step (execTrainingTimeout_keep h s0 hx) rfl (Keep.refl _ _)
  | hslEqualisationConverged h snrs ffe dfe => exact Keep.step (execHslEqualisationConverged_keep h snrs s0 ffe dfe hx) rfl (Keep.refl _ _)
  | markerHuntDone h inverted res skew => exact Keep.step (execMarkerHuntDone_keep h inverted res skew s0 hx) rfl (Keep.refl _ _)
  | signalLoss h => exact Keep.step (execSignalLoss_keep h s0 hx) rfl (Keep.refl _ _)
  | hslSnrWindowEnd h snr freqOut => exact Keep.step (execHslSnrWindowEnd_keep h snr freqOut s0 hx) rfl (Keep.refl _ _)
  | elasticBufferSlip h high => exact Keep.step (execElasticBufferSlip_keep h high s0 hx) rfl (Keep.refl _ _)
  | amLockLoss h pcs => exact Keep.step (execAmLockLoss_keep h pcs s0 hx) rfl (Keep.refl _ _)
  | hslPeriodEnd h snr offset lo hi ups rs errs => exact Keep.step (execHslPeriodEnd_keep h snr offset lo hi s0 ups rs errs hx) rfl (Keep.refl _ _)
  | faultRecoveryTimer h => exact Keep.step (execFaultRecoveryTimer_keep h s0 hx) rfl (Keep.refl _ _)
  | warmAcquisitionTimeout h => exact Keep.step (execWarmAcquisitionTimeout_keep h s0 hx) rfl (Keep.refl _ _)
  | blockReceived p d hdr => exact Keep.step (execBlockReceived_keep p d hdr s0 hx) rfl (Keep.refl _ _)
  | blockLockWindowEnd p d => exact Keep.step (execBlockLockWindowEnd_keep p d s0 hx) rfl (Keep.refl _ _)
  | frameParsed p d f => exact Keep.step (execFrameParsed_keep p d f s0 hx) rfl (Keep.refl _ _)
  | portStartTimeout p => exact Keep.step (execPortStartTimeout_keep p s0 hx) rfl (Keep.refl _ _)
  | keyInsertion => exact Keep.step (execKeyInsertion_keep s0 hx) rfl (Keep.refl _ _)
  | earlyDrainDone ecc => exact Keep.step (execEarlyDrainDone_keep s0 ecc hx) rfl (Keep.refl _ _)
  | dumpIntervalExpiry delay kept => exact Keep.step (execDumpIntervalExpiry_keep delay kept s0 hx) rfl (Keep.refl _ _)
  | dumpPassComplete ecc => exact Keep.step (execDumpPassComplete_keep s0 ecc hx) rfl (Keep.refl _ _)
  | spareBankFillDone b => exact Keep.step (execSpareBankFillDone_keep b s0 hx) rfl (Keep.refl _ _)
  | logMarkerTimer => exact Keep.step (execLogMarkerTimer_keep s0 hx) rfl (Keep.refl _ _)
  | pmcDumpIntervalExpiry delay kept => exact Keep.step (execPmcDumpIntervalExpiry_keep delay kept s0 hx) rfl (Keep.refl _ _)
  | pmcDumpWritten => exact Keep.step (execPmcDumpWritten_keep s0 hx) rfl (Keep.refl _ _)
  | sampleIntervalExpiry e cat op steps seg => exact Keep.step (execSampleIntervalExpiry_keep e cat op steps seg s0 hx) rfl (Keep.refl _ _)
  | dmaRecordWritten ch src => exact Keep.step (execDmaRecordWritten_keep ch src s0 hx) rfl (Keep.refl _ _)
  | thermalReading conv mr4 => exact Keep.step (execThermalReading_keep conv mr4 s0 hx) rfl (Keep.refl _ _)
  | calIntervalExpiry b => exact Keep.step (execCalIntervalExpiry_keep b s0 hx) rfl (Keep.refl _ _)
  | calibrationRunStart b => exact Keep.step (execCalibrationRunStart_keep b s0 hx) rfl (Keep.refl _ _)
  | measurementPairDone b x y => exact Keep.step (execMeasurementPairDone_keep b x y s0 hx) rfl (Keep.refl _ _)
  | ltxCalStep l => exact Keep.step (execLtxCalStep_keep l s0 hx) rfl (Keep.refl _ _)
  | monconvFrame => exact Keep.step (execMonconvFrame_keep s0 hx) rfl (Keep.refl _ _)
  | calDueTimer b => exact Keep.step (execCalDueTimer_keep b s0 hx) rfl (Keep.refl _ _)
  | targetedTestDone kind pass => exact Keep.step (execTargetedTestDone_keep kind pass s0 hx) rfl (Keep.refl _ _)
  | testSliceStart b => exact Keep.step (execTestSliceStart_keep b s0 hx) rfl (Keep.refl _ _)
  | sliceTestDone b pass => exact Keep.step (execSliceTestDone_keep b pass s0 hx) rfl (Keep.refl _ _)
  | coverageTimer b => exact Keep.step (execCoverageTimer_keep b s0 hx) rfl (Keep.refl _ _)
  | imageCheckDone kernel sigOk digestOk => exact Keep.step (execImageCheckDone_keep kernel sigOk digestOk s0 hx) rfl (Keep.refl _ _)
  | fwImageWritten ok => exact Keep.step (execFwImageWritten_keep ok s0 hx) rfl (Keep.refl _ _)
  | paneLoaded ok => exact Keep.step (execPaneLoaded_keep ok s0 hx) rfl (Keep.refl _ _)
  | firmwareStateSaved => exact Keep.step (execFirmwareStateSaved_keep s0 hx) rfl (Keep.refl _ _)
  | newPaneResumed => exact Keep.step (execNewPaneResumed_keep s0 hx) rfl (Keep.refl _ _)
  | paneMarkedActive => exact Keep.step (execPaneMarkedActive_keep s0 hx) rfl (Keep.refl _ _)
  | paneSwitchTimeout => exact Keep.step (execPaneSwitchTimeout_keep s0 hx) rfl (Keep.refl _ _)
  | shutterFlushDone => exact Keep.step (execShutterFlushDone_keep s0 hx) rfl (Keep.refl _ _)
  | shutterDeadlineExpiry => exact Keep.step (execShutterDeadlineExpiry_keep s0 hx) rfl (Keep.refl _ _)
  | shutterLogSaved => exact Keep.step (execShutterLogSaved_keep s0 hx) rfl (Keep.refl _ _)
  | shutterHoldEnd => exact Keep.step (execShutterHoldEnd_keep s0 hx) rfl (Keep.refl _ _)
  | shutdownBistDone fails => exact Keep.step (execShutdownBistDone_keep fails s0 hx) rfl (Keep.refl _ _)
  | shutterPowerDown => exact Keep.step (execShutterPowerDown_keep s0 hx) rfl (Keep.refl _ _)
  | getDevMode m => exact Keep.step (execGetDevMode_keep m s0 hx) rfl (Keep.refl _ _)
  | enterDevMode m => exact Keep.step (execEnterDevMode_keep m s0 hx) rfl (Keep.refl _ _)
  | shutterDevMode m => exact Keep.step (execShutterDevMode_keep m s0 hx) rfl (Keep.refl _ _)
  | enterLaneTest m => exact Keep.step (execEnterLaneTest_keep m s0 hx) rfl (Keep.refl _ _)
  | leaveLaneTest m => exact Keep.step (execLeaveLaneTest_keep m s0 hx) rfl (Keep.refl _ _)
  | getDevFeature m => exact Keep.step (execGetDevFeature_keep m s0 hx) rfl (Keep.refl _ _)
  | negotiateDevFeature m => exact Keep.step (execNegotiateDevFeature_keep m s0 hx) rfl (Keep.refl _ _)
  | receiveDevEvent m => exact Keep.step (execReceiveDevEvent_keep m s0 hx) rfl (Keep.refl _ _)
  | getMbxStats m => exact Keep.step (execGetMbxStats_keep m s0 hx) rfl (Keep.refl _ _)
  | clearMbxStats m => exact Keep.step (execClearMbxStats_keep m s0 hx) rfl (Keep.refl _ _)
  | loadFwImage m => exact Keep.step (execLoadFwImage_keep m s0 hx) rfl (Keep.refl _ _)
  | getFwImage m => exact Keep.step (execGetFwImage_keep m s0 hx) rfl (Keep.refl _ _)
  | grantPf1Grant m => exact Keep.step (execGrantPf1Grant_keep m s0 hx) rfl (Keep.refl _ _)
  | revokePf1Grant m => exact Keep.step (execRevokePf1Grant_keep m s0 hx) rfl (Keep.refl _ _)
  | getPf1Grant m => exact Keep.step (execGetPf1Grant_keep m s0 hx) rfl (Keep.refl _ _)
  | getLrxCfg m => exact Keep.step (execGetLrxCfg_keep m s0 hx) rfl (Keep.refl _ _)
  | setLrxCfg m => exact Keep.step (execSetLrxCfg_keep m s0 hx) rfl (Keep.refl _ _)
  | getLrxStatus m => exact Keep.step (execGetLrxStatus_keep m s0 hx) rfl (Keep.refl _ _)
  | getLrxQuality m => exact Keep.step (execGetLrxQuality_keep m s0 hx) rfl (Keep.refl _ _)
  | getLrxEstimate m => exact Keep.step (execGetLrxEstimate_keep m s0 hx) rfl (Keep.refl _ _)
  | getLrxSlices m => exact Keep.step (execGetLrxSlices_keep m s0 hx) rfl (Keep.refl _ _)
  | restartLrxAcq m => exact Keep.step (execRestartLrxAcq_keep m s0 hx) rfl (Keep.refl _ _)
  | captureLrxCapture m => exact Keep.step (execCaptureLrxCapture_keep m s0 hx) rfl (Keep.refl _ _)
  | abortLrxCapture m => exact Keep.step (execAbortLrxCapture_keep m s0 hx) rfl (Keep.refl _ _)
  | getSeaPolicy m => exact Keep.step (execGetSeaPolicy_keep m s0 hx) rfl (Keep.refl _ _)
  | setSeaPolicy m => exact Keep.step (execSetSeaPolicy_keep m s0 hx) rfl (Keep.refl _ _)
  | getSeaHinge m => exact Keep.step (execGetSeaHinge_keep m s0 hx) rfl (Keep.refl _ _)
  | setSeaHinge m => exact Keep.step (execSetSeaHinge_keep m s0 hx) rfl (Keep.refl _ _)
  | getSeaPlacement m => exact Keep.step (execGetSeaPlacement_keep m s0 hx) rfl (Keep.refl _ _)
  | getSeaEngines m => exact Keep.step (execGetSeaEngines_keep m s0 hx) rfl (Keep.refl _ _)
  | getSeaKernel m => exact Keep.step (execGetSeaKernel_keep m s0 hx) rfl (Keep.refl _ _)
  | loadSeaKernel m => exact Keep.step (execLoadSeaKernel_keep m s0 hx) rfl (Keep.refl _ _)
  | selectSeaKernel m => exact Keep.step (execSelectSeaKernel_keep m s0 hx) rfl (Keep.refl _ _)
  | getSeaKparam m => exact Keep.step (execGetSeaKparam_keep m s0 hx) rfl (Keep.refl _ _)
  | setSeaKparam m => exact Keep.step (execSetSeaKparam_keep m s0 hx) rfl (Keep.refl _ _)
  | getSdfCfg m => exact Keep.step (execGetSdfCfg_keep m s0 hx) rfl (Keep.refl _ _)
  | setSdfCfg m => exact Keep.step (execSetSdfCfg_keep m s0 hx) rfl (Keep.refl _ _)
  | getSdfStatus m => exact Keep.step (execGetSdfStatus_keep m s0 hx) rfl (Keep.refl _ _)
  | getSdfStats m => exact Keep.step (execGetSdfStats_keep m s0 hx) rfl (Keep.refl _ _)
  | getSdfDetector m => exact Keep.step (execGetSdfDetector_keep m s0 hx) rfl (Keep.refl _ _)
  | restartSdfHunt m => exact Keep.step (execRestartSdfHunt_keep m s0 hx) rfl (Keep.refl _ _)
  | getLtxCfg m => exact Keep.step (execGetLtxCfg_keep m s0 hx) rfl (Keep.refl _ _)
  | setLtxCfg m => exact Keep.step (execSetLtxCfg_keep m s0 hx) rfl (Keep.refl _ _)
  | getLtxStatus m => exact Keep.step (execGetLtxStatus_keep m s0 hx) rfl (Keep.refl _ _)
  | squelchLtxOut m => exact Keep.step (execSquelchLtxOut_keep m s0 hx) rfl (Keep.refl _ _)
  | releaseLtxOut m => exact Keep.step (execReleaseLtxOut_keep m s0 hx) rfl (Keep.refl _ _)
  | getHslCfg m => exact Keep.step (execGetHslCfg_keep m s0 hx) rfl (Keep.refl _ _)
  | setHslCfg m => exact Keep.step (execSetHslCfg_keep m s0 hx) rfl (Keep.refl _ _)
  | getHslGroup m => exact Keep.step (execGetHslGroup_keep m s0 hx) rfl (Keep.refl _ _)
  | setHslGroup m => exact Keep.step (execSetHslGroup_keep m s0 hx) rfl (Keep.refl _ _)
  | getHslStatus m => exact Keep.step (execGetHslStatus_keep m s0 hx) rfl (Keep.refl _ _)
  | getHslQuality m => exact Keep.step (execGetHslQuality_keep m s0 hx) rfl (Keep.refl _ _)
  | restartHslTrain m => exact Keep.step (execRestartHslTrain_keep m s0 hx) rfl (Keep.refl _ _)
  | getPfxBlocklock m => exact Keep.step (execGetPfxBlocklock_keep m s0 hx) rfl (Keep.refl _ _)
  | getPortCfg m => exact Keep.step (execGetPortCfg_keep m s0 hx) rfl (Keep.refl _ _)
  | setPortCfg m => exact Keep.step (execSetPortCfg_keep m s0 hx) rfl (Keep.refl _ _)
  | deletePortCfg m => exact Keep.step (execDeletePortCfg_keep m s0 hx) rfl (Keep.refl _ _)
  | startPort m => exact Keep.step (execStartPort_keep m s0 hx) rfl (Keep.refl _ _)
  | stopPort m => exact Keep.step (execStopPort_keep m s0 hx) rfl (Keep.refl _ _)
  | getPortStatus m => exact Keep.step (execGetPortStatus_keep m s0 hx) rfl (Keep.refl _ _)
  | getPltCfg m => exact Keep.step (execGetPltCfg_keep m s0 hx) rfl (Keep.refl _ _)
  | setPltCfg m => exact Keep.step (execSetPltCfg_keep m s0 hx) rfl (Keep.refl _ _)
  | sendPltPacket m => exact Keep.step (execSendPltPacket_keep m s0 hx) rfl (Keep.refl _ _)
  | receivePltPacket m => exact Keep.step (execReceivePltPacket_keep m s0 hx) rfl (Keep.refl _ _)
  | getPltPeer m => exact Keep.step (execGetPltPeer_keep m s0 hx) rfl (Keep.refl _ _)
  | setPltPeer m => exact Keep.step (execSetPltPeer_keep m s0 hx) rfl (Keep.refl _ _)
  | getPltStatus m => exact Keep.step (execGetPltStatus_keep m s0 hx) rfl (Keep.refl _ _)
  | getLexCfg m => exact Keep.step (execGetLexCfg_keep m s0 hx) rfl (Keep.refl _ _)
  | setLexCfg m => exact Keep.step (execSetLexCfg_keep m s0 hx) rfl (Keep.refl _ _)
  | getLexPort m => exact Keep.step (execGetLexPort_keep m s0 hx) rfl (Keep.refl _ _)
  | setLexPort m => exact Keep.step (execSetLexPort_keep m s0 hx) rfl (Keep.refl _ _)
  | getLexContext m => exact Keep.step (execGetLexContext_keep m s0 hx) rfl (Keep.refl _ _)
  | insertLexContext m => exact Keep.step (execInsertLexContext_keep m s0 hx) rfl (Keep.refl _ _)
  | deleteLexContext m => exact Keep.step (execDeleteLexContext_keep m s0 hx) rfl (Keep.refl _ _)
  | flushLexDump m => exact Keep.step (execFlushLexDump_keep m s0 hx) rfl (Keep.refl _ _)
  | getLexStats m => exact Keep.step (execGetLexStats_keep m s0 hx) rfl (Keep.refl _ _)
  | getTkuDomain m => exact Keep.step (execGetTkuDomain_keep m s0 hx) rfl (Keep.refl _ _)
  | setTkuDomain m => exact Keep.step (execSetTkuDomain_keep m s0 hx) rfl (Keep.refl _ _)
  | getTkuPort m => exact Keep.step (execGetTkuPort_keep m s0 hx) rfl (Keep.refl _ _)
  | setTkuPort m => exact Keep.step (execSetTkuPort_keep m s0 hx) rfl (Keep.refl _ _)
  | getTkuStats m => exact Keep.step (execGetTkuStats_keep m s0 hx) rfl (Keep.refl _ _)
  | getHifLink m => exact Keep.step (execGetHifLink_keep m s0 hx) rfl (Keep.refl _ _)
  | getHifWindow m => exact Keep.step (execGetHifWindow_keep m s0 hx) rfl (Keep.refl _ _)
  | setHifWindow m => exact Keep.step (execSetHifWindow_keep m s0 hx) rfl (Keep.refl _ _)
  | getHifDma m => exact Keep.step (execGetHifDma_keep m s0 hx) rfl (Keep.refl _ _)
  | setHifDma m => exact Keep.step (execSetHifDma_keep m s0 hx) rfl (Keep.refl _ _)
  | getHifMgt m => exact Keep.step (execGetHifMgt_keep m s0 hx) rfl (Keep.refl _ _)
  | getIcuEvent m => exact Keep.step (execGetIcuEvent_keep m s0 hx) rfl (Keep.refl _ _)
  | setIcuEvent m => exact Keep.step (execSetIcuEvent_keep m s0 hx) rfl (Keep.refl _ _)
  | getIcuMgt m => exact Keep.step (execGetIcuMgt_keep m s0 hx) rfl (Keep.refl _ _)
  | setIcuMgt m => exact Keep.step (execSetIcuMgt_keep m s0 hx) rfl (Keep.refl _ _)
  | getMemCfg m => exact Keep.step (execGetMemCfg_keep m s0 hx) rfl (Keep.refl _ _)
  | setMemCfg m => exact Keep.step (execSetMemCfg_keep m s0 hx) rfl (Keep.refl _ _)
  | getMemStatus m => exact Keep.step (execGetMemStatus_keep m s0 hx) rfl (Keep.refl _ _)
  | getMemEcho m => exact Keep.step (execGetMemEcho_keep m s0 hx) rfl (Keep.refl _ _)
  | getMemSpares m => exact Keep.step (execGetMemSpares_keep m s0 hx) rfl (Keep.refl _ _)
  | getMemStats m => exact Keep.step (execGetMemStats_keep m s0 hx) rfl (Keep.refl _ _)
  | getOcuAx m => exact Keep.step (execGetOcuAx_keep m s0 hx) rfl (Keep.refl _ _)
  | setOcuAx m => exact Keep.step (execSetOcuAx_keep m s0 hx) rfl (Keep.refl _ _)
  | getOcuCode m => exact Keep.step (execGetOcuCode_keep m s0 hx) rfl (Keep.refl _ _)
  | setOcuCode m => exact Keep.step (execSetOcuCode_keep m s0 hx) rfl (Keep.refl _ _)
  | getOcuMn m => exact Keep.step (execGetOcuMn_keep m s0 hx) rfl (Keep.refl _ _)
  | setOcuMn m => exact Keep.step (execSetOcuMn_keep m s0 hx) rfl (Keep.refl _ _)
  | getOcuLoop m => exact Keep.step (execGetOcuLoop_keep m s0 hx) rfl (Keep.refl _ _)
  | setOcuLoop m => exact Keep.step (execSetOcuLoop_keep m s0 hx) rfl (Keep.refl _ _)
  | getOcuLane m => exact Keep.step (execGetOcuLane_keep m s0 hx) rfl (Keep.refl _ _)
  | getOcuStats m => exact Keep.step (execGetOcuStats_keep m s0 hx) rfl (Keep.refl _ _)
  | getCalCfg m => exact Keep.step (execGetCalCfg_keep m s0 hx) rfl (Keep.refl _ _)
  | setCalCfg m => exact Keep.step (execSetCalCfg_keep m s0 hx) rfl (Keep.refl _ _)
  | getCalBlock m => exact Keep.step (execGetCalBlock_keep m s0 hx) rfl (Keep.refl _ _)
  | runCalBlock m => exact Keep.step (execRunCalBlock_keep m s0 hx) rfl (Keep.refl _ _)
  | clearCalBlock m => exact Keep.step (execClearCalBlock_keep m s0 hx) rfl (Keep.refl _ _)
  | getThmCfg m => exact Keep.step (execGetThmCfg_keep m s0 hx) rfl (Keep.refl _ _)
  | setThmCfg m => exact Keep.step (execSetThmCfg_keep m s0 hx) rfl (Keep.refl _ _)
  | getThmSensor m => exact Keep.step (execGetThmSensor_keep m s0 hx) rfl (Keep.refl _ _)
  | ackThmSensor m => exact Keep.step (execAckThmSensor_keep m s0 hx) rfl (Keep.refl _ _)
  | getThmStatus m => exact Keep.step (execGetThmStatus_keep m s0 hx) rfl (Keep.refl _ _)
  | clearThmStatus m => exact Keep.step (execClearThmStatus_keep m s0 hx) rfl (Keep.refl _ _)
  | getFwPane m => exact Keep.step (execGetFwPane_keep m s0 hx) rfl (Keep.refl _ _)
  | switchFwPane m => exact Keep.step (execSwitchFwPane_keep m s0 hx) rfl (Keep.refl _ _)
  | getTstCfg m => exact Keep.step (execGetTstCfg_keep m s0 hx) rfl (Keep.refl _ _)
  | setTstCfg m => exact Keep.step (execSetTstCfg_keep m s0 hx) rfl (Keep.refl _ _)
  | getTstStatus m => exact Keep.step (execGetTstStatus_keep m s0 hx) rfl (Keep.refl _ _)
  | getTstVerdicts m => exact Keep.step (execGetTstVerdicts_keep m s0 hx) rfl (Keep.refl _ _)
  | getRepRecord m => exact Keep.step (execGetRepRecord_keep m s0 hx) rfl (Keep.refl _ _)
  | getRelYields m => exact Keep.step (execGetRelYields_keep m s0 hx) rfl (Keep.refl _ _)
  | getPmcCounter m => exact Keep.step (execGetPmcCounter_keep m s0 hx) rfl (Keep.refl _ _)
  | setPmcCounter m => exact Keep.step (execSetPmcCounter_keep m s0 hx) rfl (Keep.refl _ _)
  | clearPmcCounter m => exact Keep.step (execClearPmcCounter_keep m s0 hx) rfl (Keep.refl _ _)
  | getPmcDump m => exact Keep.step (execGetPmcDump_keep m s0 hx) rfl (Keep.refl _ _)
  | setPmcDump m => exact Keep.step (execSetPmcDump_keep m s0 hx) rfl (Keep.refl _ _)
  | flushPmcDump m => exact Keep.step (execFlushPmcDump_keep m s0 hx) rfl (Keep.refl _ _)
  | getPmcSample m => exact Keep.step (execGetPmcSample_keep m s0 hx) rfl (Keep.refl _ _)
  | setPmcSample m => exact Keep.step (execSetPmcSample_keep m s0 hx) rfl (Keep.refl _ _)
  | getPwrCfg m => exact Keep.step (execGetPwrCfg_keep m s0 hx) rfl (Keep.refl _ _)
  | setPwrCfg m => exact Keep.step (execSetPwrCfg_keep m s0 hx) rfl (Keep.refl _ _)
  | getPwrStatus m => exact Keep.step (execGetPwrStatus_keep m s0 hx) rfl (Keep.refl _ _)
  | clearPwrStatus m => exact Keep.step (execClearPwrStatus_keep m s0 hx) rfl (Keep.refl _ _)
  | getPwrRail m => exact Keep.step (execGetPwrRail_keep m s0 hx) rfl (Keep.refl _ _)
  | bcntTick => exact Keep.step (execBcntTick_keep s0 hx) rfl (Keep.refl _ _)
  | mbxDoorbellRing verb noun m => exact Keep.step (execMbxDoorbellRing_keep verb noun m s0 hx) rfl (Keep.refl _ _)
  | amLockRegained h => exact Keep.step (execAmLockRegained_keep h s0 hx) rfl (Keep.refl _ _)
  | perstNDeassert => exact Keep.step (execPerstNDeassert_keep s0 hx) rfl (Keep.refl _ _)

end Sys2Proof.Machine
end

