-- ==== Sys2Proof/Laws/State.lean ====
section
/-! SUPPORT. One lemma per field per update of the state, and what each element reads after an update of its table. -/

set_option linter.unusedTactic false
set_option linter.unreachableTactic false
set_option linter.unnecessarySeqFocus false
set_option linter.unusedVariables false
set_option linter.unusedSimpArgs false

namespace Sys2Proof.Machine

variable (s : State)

@[simp] theorem State.modGroup_pending (g : Nat) (f : Group → Group) : (s.modGroup g f).pending = s.pending := rfl
@[simp] theorem State.modGroup_free (g : Nat) (f : Group → Group) : (s.modGroup g f).free = s.free := rfl
@[simp] theorem State.modGroup_fuses (g : Nat) (f : Group → Group) : (s.modGroup g f).fuses = s.fuses := rfl
@[simp] theorem State.modGroup_dev (g : Nat) (f : Group → Group) : (s.modGroup g f).dev = s.dev := rfl
@[simp] theorem State.modGroup_shut (g : Nat) (f : Group → Group) : (s.modGroup g f).shut = s.shut := rfl
@[simp] theorem State.modGroup_mb (g : Nat) (f : Group → Group) : (s.modGroup g f).mb = s.mb := rfl
@[simp] theorem State.modGroup_ev (g : Nat) (f : Group → Group) : (s.modGroup g f).ev = s.ev := rfl
@[simp] theorem State.modGroup_icu (g : Nat) (f : Group → Group) : (s.modGroup g f).icu = s.icu := rfl
@[simp] theorem State.modGroup_hif (g : Nat) (f : Group → Group) : (s.modGroup g f).hif = s.hif := rfl
@[simp] theorem State.modGroup_err (g : Nat) (f : Group → Group) : (s.modGroup g f).err = s.err := rfl
@[simp] theorem State.modGroup_tku (g : Nat) (f : Group → Group) : (s.modGroup g f).tku = s.tku := rfl
@[simp] theorem State.modGroup_params (g : Nat) (f : Group → Group) : (s.modGroup g f).params = s.params := rfl
@[simp] theorem State.modGroup_stats (g : Nat) (f : Group → Group) : (s.modGroup g f).stats = s.stats := rfl
@[simp] theorem State.modGroup_line (g : Nat) (f : Group → Group) : (s.modGroup g f).line = s.line := rfl
@[simp] theorem State.modGroup_host (g : Nat) (f : Group → Group) : (s.modGroup g f).host = s.host := rfl
@[simp] theorem State.modGroup_port (g : Nat) (f : Group → Group) : (s.modGroup g f).port = s.port := rfl
@[simp] theorem State.modGroup_block (g : Nat) (f : Group → Group) : (s.modGroup g f).block = s.block := rfl
@[simp] theorem State.modGroup_eng (g : Nat) (f : Group → Group) : (s.modGroup g f).eng = s.eng := rfl
@[simp] theorem State.modGroup_hinge (g : Nat) (f : Group → Group) : (s.modGroup g f).hinge = s.hinge := rfl
@[simp] theorem State.modGroup_lex (g : Nat) (f : Group → Group) : (s.modGroup g f).lex = s.lex := rfl
@[simp] theorem State.modGroup_mem (g : Nat) (f : Group → Group) : (s.modGroup g f).mem = s.mem := rfl
@[simp] theorem State.modGroup_rep (g : Nat) (f : Group → Group) : (s.modGroup g f).rep = s.rep := rfl
@[simp] theorem State.modGroup_ocu (g : Nat) (f : Group → Group) : (s.modGroup g f).ocu = s.ocu := rfl
@[simp] theorem State.modGroup_cal (g : Nat) (f : Group → Group) : (s.modGroup g f).cal = s.cal := rfl
@[simp] theorem State.modGroup_thm (g : Nat) (f : Group → Group) : (s.modGroup g f).thm = s.thm := rfl
@[simp] theorem State.modGroup_tst (g : Nat) (f : Group → Group) : (s.modGroup g f).tst = s.tst := rfl
@[simp] theorem State.modGroup_pmc (g : Nat) (f : Group → Group) : (s.modGroup g f).pmc = s.pmc := rfl
@[simp] theorem State.modGroup_pwr (g : Nat) (f : Group → Group) : (s.modGroup g f).pwr = s.pwr := rfl
@[simp] theorem State.modGroup_fw (g : Nat) (f : Group → Group) : (s.modGroup g f).fw = s.fw := rfl
@[simp] theorem State.modGroup_cap (g : Nat) (f : Group → Group) : (s.modGroup g f).cap = s.cap := rfl

@[simp] theorem State.modBlock_pending (i : Nat) (f : Block → Block) : (s.modBlock i f).pending = s.pending := rfl
@[simp] theorem State.modBlock_free (i : Nat) (f : Block → Block) : (s.modBlock i f).free = s.free := rfl
@[simp] theorem State.modBlock_fuses (i : Nat) (f : Block → Block) : (s.modBlock i f).fuses = s.fuses := rfl
@[simp] theorem State.modBlock_dev (i : Nat) (f : Block → Block) : (s.modBlock i f).dev = s.dev := rfl
@[simp] theorem State.modBlock_shut (i : Nat) (f : Block → Block) : (s.modBlock i f).shut = s.shut := rfl
@[simp] theorem State.modBlock_mb (i : Nat) (f : Block → Block) : (s.modBlock i f).mb = s.mb := rfl
@[simp] theorem State.modBlock_ev (i : Nat) (f : Block → Block) : (s.modBlock i f).ev = s.ev := rfl
@[simp] theorem State.modBlock_icu (i : Nat) (f : Block → Block) : (s.modBlock i f).icu = s.icu := rfl
@[simp] theorem State.modBlock_hif (i : Nat) (f : Block → Block) : (s.modBlock i f).hif = s.hif := rfl
@[simp] theorem State.modBlock_err (i : Nat) (f : Block → Block) : (s.modBlock i f).err = s.err := rfl
@[simp] theorem State.modBlock_tku (i : Nat) (f : Block → Block) : (s.modBlock i f).tku = s.tku := rfl
@[simp] theorem State.modBlock_params (i : Nat) (f : Block → Block) : (s.modBlock i f).params = s.params := rfl
@[simp] theorem State.modBlock_stats (i : Nat) (f : Block → Block) : (s.modBlock i f).stats = s.stats := rfl
@[simp] theorem State.modBlock_line (i : Nat) (f : Block → Block) : (s.modBlock i f).line = s.line := rfl
@[simp] theorem State.modBlock_host (i : Nat) (f : Block → Block) : (s.modBlock i f).host = s.host := rfl
@[simp] theorem State.modBlock_group (i : Nat) (f : Block → Block) : (s.modBlock i f).group = s.group := rfl
@[simp] theorem State.modBlock_port (i : Nat) (f : Block → Block) : (s.modBlock i f).port = s.port := rfl
@[simp] theorem State.modBlock_eng (i : Nat) (f : Block → Block) : (s.modBlock i f).eng = s.eng := rfl
@[simp] theorem State.modBlock_hinge (i : Nat) (f : Block → Block) : (s.modBlock i f).hinge = s.hinge := rfl
@[simp] theorem State.modBlock_lex (i : Nat) (f : Block → Block) : (s.modBlock i f).lex = s.lex := rfl
@[simp] theorem State.modBlock_mem (i : Nat) (f : Block → Block) : (s.modBlock i f).mem = s.mem := rfl
@[simp] theorem State.modBlock_rep (i : Nat) (f : Block → Block) : (s.modBlock i f).rep = s.rep := rfl
@[simp] theorem State.modBlock_ocu (i : Nat) (f : Block → Block) : (s.modBlock i f).ocu = s.ocu := rfl
@[simp] theorem State.modBlock_cal (i : Nat) (f : Block → Block) : (s.modBlock i f).cal = s.cal := rfl
@[simp] theorem State.modBlock_thm (i : Nat) (f : Block → Block) : (s.modBlock i f).thm = s.thm := rfl
@[simp] theorem State.modBlock_tst (i : Nat) (f : Block → Block) : (s.modBlock i f).tst = s.tst := rfl
@[simp] theorem State.modBlock_pmc (i : Nat) (f : Block → Block) : (s.modBlock i f).pmc = s.pmc := rfl
@[simp] theorem State.modBlock_pwr (i : Nat) (f : Block → Block) : (s.modBlock i f).pwr = s.pwr := rfl
@[simp] theorem State.modBlock_fw (i : Nat) (f : Block → Block) : (s.modBlock i f).fw = s.fw := rfl
@[simp] theorem State.modBlock_cap (i : Nat) (f : Block → Block) : (s.modBlock i f).cap = s.cap := rfl

@[simp] theorem State.modEng_pending (e : Nat) (f : Engine → Engine) : (s.modEng e f).pending = s.pending := rfl
@[simp] theorem State.modEng_free (e : Nat) (f : Engine → Engine) : (s.modEng e f).free = s.free := rfl
@[simp] theorem State.modEng_fuses (e : Nat) (f : Engine → Engine) : (s.modEng e f).fuses = s.fuses := rfl
@[simp] theorem State.modEng_dev (e : Nat) (f : Engine → Engine) : (s.modEng e f).dev = s.dev := rfl
@[simp] theorem State.modEng_shut (e : Nat) (f : Engine → Engine) : (s.modEng e f).shut = s.shut := rfl
@[simp] theorem State.modEng_mb (e : Nat) (f : Engine → Engine) : (s.modEng e f).mb = s.mb := rfl
@[simp] theorem State.modEng_ev (e : Nat) (f : Engine → Engine) : (s.modEng e f).ev = s.ev := rfl
@[simp] theorem State.modEng_icu (e : Nat) (f : Engine → Engine) : (s.modEng e f).icu = s.icu := rfl
@[simp] theorem State.modEng_hif (e : Nat) (f : Engine → Engine) : (s.modEng e f).hif = s.hif := rfl
@[simp] theorem State.modEng_err (e : Nat) (f : Engine → Engine) : (s.modEng e f).err = s.err := rfl
@[simp] theorem State.modEng_tku (e : Nat) (f : Engine → Engine) : (s.modEng e f).tku = s.tku := rfl
@[simp] theorem State.modEng_params (e : Nat) (f : Engine → Engine) : (s.modEng e f).params = s.params := rfl
@[simp] theorem State.modEng_stats (e : Nat) (f : Engine → Engine) : (s.modEng e f).stats = s.stats := rfl
@[simp] theorem State.modEng_line (e : Nat) (f : Engine → Engine) : (s.modEng e f).line = s.line := rfl
@[simp] theorem State.modEng_host (e : Nat) (f : Engine → Engine) : (s.modEng e f).host = s.host := rfl
@[simp] theorem State.modEng_group (e : Nat) (f : Engine → Engine) : (s.modEng e f).group = s.group := rfl
@[simp] theorem State.modEng_port (e : Nat) (f : Engine → Engine) : (s.modEng e f).port = s.port := rfl
@[simp] theorem State.modEng_block (e : Nat) (f : Engine → Engine) : (s.modEng e f).block = s.block := rfl
@[simp] theorem State.modEng_hinge (e : Nat) (f : Engine → Engine) : (s.modEng e f).hinge = s.hinge := rfl
@[simp] theorem State.modEng_lex (e : Nat) (f : Engine → Engine) : (s.modEng e f).lex = s.lex := rfl
@[simp] theorem State.modEng_mem (e : Nat) (f : Engine → Engine) : (s.modEng e f).mem = s.mem := rfl
@[simp] theorem State.modEng_rep (e : Nat) (f : Engine → Engine) : (s.modEng e f).rep = s.rep := rfl
@[simp] theorem State.modEng_ocu (e : Nat) (f : Engine → Engine) : (s.modEng e f).ocu = s.ocu := rfl
@[simp] theorem State.modEng_cal (e : Nat) (f : Engine → Engine) : (s.modEng e f).cal = s.cal := rfl
@[simp] theorem State.modEng_thm (e : Nat) (f : Engine → Engine) : (s.modEng e f).thm = s.thm := rfl
@[simp] theorem State.modEng_tst (e : Nat) (f : Engine → Engine) : (s.modEng e f).tst = s.tst := rfl
@[simp] theorem State.modEng_pmc (e : Nat) (f : Engine → Engine) : (s.modEng e f).pmc = s.pmc := rfl
@[simp] theorem State.modEng_pwr (e : Nat) (f : Engine → Engine) : (s.modEng e f).pwr = s.pwr := rfl
@[simp] theorem State.modEng_fw (e : Nat) (f : Engine → Engine) : (s.modEng e f).fw = s.fw := rfl
@[simp] theorem State.modEng_cap (e : Nat) (f : Engine → Engine) : (s.modEng e f).cap = s.cap := rfl

@[simp] theorem State.modCal_pending (b : Nat) (f : Cal → Cal) : (s.modCal b f).pending = s.pending := rfl
@[simp] theorem State.modCal_free (b : Nat) (f : Cal → Cal) : (s.modCal b f).free = s.free := rfl
@[simp] theorem State.modCal_fuses (b : Nat) (f : Cal → Cal) : (s.modCal b f).fuses = s.fuses := rfl
@[simp] theorem State.modCal_dev (b : Nat) (f : Cal → Cal) : (s.modCal b f).dev = s.dev := rfl
@[simp] theorem State.modCal_shut (b : Nat) (f : Cal → Cal) : (s.modCal b f).shut = s.shut := rfl
@[simp] theorem State.modCal_mb (b : Nat) (f : Cal → Cal) : (s.modCal b f).mb = s.mb := rfl
@[simp] theorem State.modCal_ev (b : Nat) (f : Cal → Cal) : (s.modCal b f).ev = s.ev := rfl
@[simp] theorem State.modCal_icu (b : Nat) (f : Cal → Cal) : (s.modCal b f).icu = s.icu := rfl
@[simp] theorem State.modCal_hif (b : Nat) (f : Cal → Cal) : (s.modCal b f).hif = s.hif := rfl
@[simp] theorem State.modCal_err (b : Nat) (f : Cal → Cal) : (s.modCal b f).err = s.err := rfl
@[simp] theorem State.modCal_tku (b : Nat) (f : Cal → Cal) : (s.modCal b f).tku = s.tku := rfl
@[simp] theorem State.modCal_params (b : Nat) (f : Cal → Cal) : (s.modCal b f).params = s.params := rfl
@[simp] theorem State.modCal_stats (b : Nat) (f : Cal → Cal) : (s.modCal b f).stats = s.stats := rfl
@[simp] theorem State.modCal_line (b : Nat) (f : Cal → Cal) : (s.modCal b f).line = s.line := rfl
@[simp] theorem State.modCal_host (b : Nat) (f : Cal → Cal) : (s.modCal b f).host = s.host := rfl
@[simp] theorem State.modCal_group (b : Nat) (f : Cal → Cal) : (s.modCal b f).group = s.group := rfl
@[simp] theorem State.modCal_port (b : Nat) (f : Cal → Cal) : (s.modCal b f).port = s.port := rfl
@[simp] theorem State.modCal_block (b : Nat) (f : Cal → Cal) : (s.modCal b f).block = s.block := rfl
@[simp] theorem State.modCal_eng (b : Nat) (f : Cal → Cal) : (s.modCal b f).eng = s.eng := rfl
@[simp] theorem State.modCal_hinge (b : Nat) (f : Cal → Cal) : (s.modCal b f).hinge = s.hinge := rfl
@[simp] theorem State.modCal_lex (b : Nat) (f : Cal → Cal) : (s.modCal b f).lex = s.lex := rfl
@[simp] theorem State.modCal_mem (b : Nat) (f : Cal → Cal) : (s.modCal b f).mem = s.mem := rfl
@[simp] theorem State.modCal_rep (b : Nat) (f : Cal → Cal) : (s.modCal b f).rep = s.rep := rfl
@[simp] theorem State.modCal_ocu (b : Nat) (f : Cal → Cal) : (s.modCal b f).ocu = s.ocu := rfl
@[simp] theorem State.modCal_thm (b : Nat) (f : Cal → Cal) : (s.modCal b f).thm = s.thm := rfl
@[simp] theorem State.modCal_tst (b : Nat) (f : Cal → Cal) : (s.modCal b f).tst = s.tst := rfl
@[simp] theorem State.modCal_pmc (b : Nat) (f : Cal → Cal) : (s.modCal b f).pmc = s.pmc := rfl
@[simp] theorem State.modCal_pwr (b : Nat) (f : Cal → Cal) : (s.modCal b f).pwr = s.pwr := rfl
@[simp] theorem State.modCal_fw (b : Nat) (f : Cal → Cal) : (s.modCal b f).fw = s.fw := rfl
@[simp] theorem State.modCal_cap (b : Nat) (f : Cal → Cal) : (s.modCal b f).cap = s.cap := rfl

@[simp] theorem State.modAx_pending (c : Nat) (f : Ax → Ax) : (s.modAx c f).pending = s.pending := rfl
@[simp] theorem State.modAx_free (c : Nat) (f : Ax → Ax) : (s.modAx c f).free = s.free := rfl
@[simp] theorem State.modAx_fuses (c : Nat) (f : Ax → Ax) : (s.modAx c f).fuses = s.fuses := rfl
@[simp] theorem State.modAx_dev (c : Nat) (f : Ax → Ax) : (s.modAx c f).dev = s.dev := rfl
@[simp] theorem State.modAx_shut (c : Nat) (f : Ax → Ax) : (s.modAx c f).shut = s.shut := rfl
@[simp] theorem State.modAx_mb (c : Nat) (f : Ax → Ax) : (s.modAx c f).mb = s.mb := rfl
@[simp] theorem State.modAx_ev (c : Nat) (f : Ax → Ax) : (s.modAx c f).ev = s.ev := rfl
@[simp] theorem State.modAx_icu (c : Nat) (f : Ax → Ax) : (s.modAx c f).icu = s.icu := rfl
@[simp] theorem State.modAx_hif (c : Nat) (f : Ax → Ax) : (s.modAx c f).hif = s.hif := rfl
@[simp] theorem State.modAx_err (c : Nat) (f : Ax → Ax) : (s.modAx c f).err = s.err := rfl
@[simp] theorem State.modAx_tku (c : Nat) (f : Ax → Ax) : (s.modAx c f).tku = s.tku := rfl
@[simp] theorem State.modAx_params (c : Nat) (f : Ax → Ax) : (s.modAx c f).params = s.params := rfl
@[simp] theorem State.modAx_stats (c : Nat) (f : Ax → Ax) : (s.modAx c f).stats = s.stats := rfl
@[simp] theorem State.modAx_line (c : Nat) (f : Ax → Ax) : (s.modAx c f).line = s.line := rfl
@[simp] theorem State.modAx_host (c : Nat) (f : Ax → Ax) : (s.modAx c f).host = s.host := rfl
@[simp] theorem State.modAx_group (c : Nat) (f : Ax → Ax) : (s.modAx c f).group = s.group := rfl
@[simp] theorem State.modAx_port (c : Nat) (f : Ax → Ax) : (s.modAx c f).port = s.port := rfl
@[simp] theorem State.modAx_block (c : Nat) (f : Ax → Ax) : (s.modAx c f).block = s.block := rfl
@[simp] theorem State.modAx_eng (c : Nat) (f : Ax → Ax) : (s.modAx c f).eng = s.eng := rfl
@[simp] theorem State.modAx_hinge (c : Nat) (f : Ax → Ax) : (s.modAx c f).hinge = s.hinge := rfl
@[simp] theorem State.modAx_lex (c : Nat) (f : Ax → Ax) : (s.modAx c f).lex = s.lex := rfl
@[simp] theorem State.modAx_mem (c : Nat) (f : Ax → Ax) : (s.modAx c f).mem = s.mem := rfl
@[simp] theorem State.modAx_rep (c : Nat) (f : Ax → Ax) : (s.modAx c f).rep = s.rep := rfl
@[simp] theorem State.modAx_cal (c : Nat) (f : Ax → Ax) : (s.modAx c f).cal = s.cal := rfl
@[simp] theorem State.modAx_thm (c : Nat) (f : Ax → Ax) : (s.modAx c f).thm = s.thm := rfl
@[simp] theorem State.modAx_tst (c : Nat) (f : Ax → Ax) : (s.modAx c f).tst = s.tst := rfl
@[simp] theorem State.modAx_pmc (c : Nat) (f : Ax → Ax) : (s.modAx c f).pmc = s.pmc := rfl
@[simp] theorem State.modAx_pwr (c : Nat) (f : Ax → Ax) : (s.modAx c f).pwr = s.pwr := rfl
@[simp] theorem State.modAx_fw (c : Nat) (f : Ax → Ax) : (s.modAx c f).fw = s.fw := rfl
@[simp] theorem State.modAx_cap (c : Nat) (f : Ax → Ax) : (s.modAx c f).cap = s.cap := rfl

@[simp] theorem State.modMn_pending (c : Nat) (f : Mon → Mon) : (s.modMn c f).pending = s.pending := rfl
@[simp] theorem State.modMn_free (c : Nat) (f : Mon → Mon) : (s.modMn c f).free = s.free := rfl
@[simp] theorem State.modMn_fuses (c : Nat) (f : Mon → Mon) : (s.modMn c f).fuses = s.fuses := rfl
@[simp] theorem State.modMn_dev (c : Nat) (f : Mon → Mon) : (s.modMn c f).dev = s.dev := rfl
@[simp] theorem State.modMn_shut (c : Nat) (f : Mon → Mon) : (s.modMn c f).shut = s.shut := rfl
@[simp] theorem State.modMn_mb (c : Nat) (f : Mon → Mon) : (s.modMn c f).mb = s.mb := rfl
@[simp] theorem State.modMn_ev (c : Nat) (f : Mon → Mon) : (s.modMn c f).ev = s.ev := rfl
@[simp] theorem State.modMn_icu (c : Nat) (f : Mon → Mon) : (s.modMn c f).icu = s.icu := rfl
@[simp] theorem State.modMn_hif (c : Nat) (f : Mon → Mon) : (s.modMn c f).hif = s.hif := rfl
@[simp] theorem State.modMn_err (c : Nat) (f : Mon → Mon) : (s.modMn c f).err = s.err := rfl
@[simp] theorem State.modMn_tku (c : Nat) (f : Mon → Mon) : (s.modMn c f).tku = s.tku := rfl
@[simp] theorem State.modMn_params (c : Nat) (f : Mon → Mon) : (s.modMn c f).params = s.params := rfl
@[simp] theorem State.modMn_stats (c : Nat) (f : Mon → Mon) : (s.modMn c f).stats = s.stats := rfl
@[simp] theorem State.modMn_line (c : Nat) (f : Mon → Mon) : (s.modMn c f).line = s.line := rfl
@[simp] theorem State.modMn_host (c : Nat) (f : Mon → Mon) : (s.modMn c f).host = s.host := rfl
@[simp] theorem State.modMn_group (c : Nat) (f : Mon → Mon) : (s.modMn c f).group = s.group := rfl
@[simp] theorem State.modMn_port (c : Nat) (f : Mon → Mon) : (s.modMn c f).port = s.port := rfl
@[simp] theorem State.modMn_block (c : Nat) (f : Mon → Mon) : (s.modMn c f).block = s.block := rfl
@[simp] theorem State.modMn_eng (c : Nat) (f : Mon → Mon) : (s.modMn c f).eng = s.eng := rfl
@[simp] theorem State.modMn_hinge (c : Nat) (f : Mon → Mon) : (s.modMn c f).hinge = s.hinge := rfl
@[simp] theorem State.modMn_lex (c : Nat) (f : Mon → Mon) : (s.modMn c f).lex = s.lex := rfl
@[simp] theorem State.modMn_mem (c : Nat) (f : Mon → Mon) : (s.modMn c f).mem = s.mem := rfl
@[simp] theorem State.modMn_rep (c : Nat) (f : Mon → Mon) : (s.modMn c f).rep = s.rep := rfl
@[simp] theorem State.modMn_cal (c : Nat) (f : Mon → Mon) : (s.modMn c f).cal = s.cal := rfl
@[simp] theorem State.modMn_thm (c : Nat) (f : Mon → Mon) : (s.modMn c f).thm = s.thm := rfl
@[simp] theorem State.modMn_tst (c : Nat) (f : Mon → Mon) : (s.modMn c f).tst = s.tst := rfl
@[simp] theorem State.modMn_pmc (c : Nat) (f : Mon → Mon) : (s.modMn c f).pmc = s.pmc := rfl
@[simp] theorem State.modMn_pwr (c : Nat) (f : Mon → Mon) : (s.modMn c f).pwr = s.pwr := rfl
@[simp] theorem State.modMn_fw (c : Nat) (f : Mon → Mon) : (s.modMn c f).fw = s.fw := rfl
@[simp] theorem State.modMn_cap (c : Nat) (f : Mon → Mon) : (s.modMn c f).cap = s.cap := rfl

@[simp] theorem State.modLoop_pending (i : Nat) (f : OcuLoop → OcuLoop) : (s.modLoop i f).pending = s.pending := rfl
@[simp] theorem State.modLoop_free (i : Nat) (f : OcuLoop → OcuLoop) : (s.modLoop i f).free = s.free := rfl
@[simp] theorem State.modLoop_fuses (i : Nat) (f : OcuLoop → OcuLoop) : (s.modLoop i f).fuses = s.fuses := rfl
@[simp] theorem State.modLoop_dev (i : Nat) (f : OcuLoop → OcuLoop) : (s.modLoop i f).dev = s.dev := rfl
@[simp] theorem State.modLoop_shut (i : Nat) (f : OcuLoop → OcuLoop) : (s.modLoop i f).shut = s.shut := rfl
@[simp] theorem State.modLoop_mb (i : Nat) (f : OcuLoop → OcuLoop) : (s.modLoop i f).mb = s.mb := rfl
@[simp] theorem State.modLoop_ev (i : Nat) (f : OcuLoop → OcuLoop) : (s.modLoop i f).ev = s.ev := rfl
@[simp] theorem State.modLoop_icu (i : Nat) (f : OcuLoop → OcuLoop) : (s.modLoop i f).icu = s.icu := rfl
@[simp] theorem State.modLoop_hif (i : Nat) (f : OcuLoop → OcuLoop) : (s.modLoop i f).hif = s.hif := rfl
@[simp] theorem State.modLoop_err (i : Nat) (f : OcuLoop → OcuLoop) : (s.modLoop i f).err = s.err := rfl
@[simp] theorem State.modLoop_tku (i : Nat) (f : OcuLoop → OcuLoop) : (s.modLoop i f).tku = s.tku := rfl
@[simp] theorem State.modLoop_params (i : Nat) (f : OcuLoop → OcuLoop) : (s.modLoop i f).params = s.params := rfl
@[simp] theorem State.modLoop_stats (i : Nat) (f : OcuLoop → OcuLoop) : (s.modLoop i f).stats = s.stats := rfl
@[simp] theorem State.modLoop_line (i : Nat) (f : OcuLoop → OcuLoop) : (s.modLoop i f).line = s.line := rfl
@[simp] theorem State.modLoop_host (i : Nat) (f : OcuLoop → OcuLoop) : (s.modLoop i f).host = s.host := rfl
@[simp] theorem State.modLoop_group (i : Nat) (f : OcuLoop → OcuLoop) : (s.modLoop i f).group = s.group := rfl
@[simp] theorem State.modLoop_port (i : Nat) (f : OcuLoop → OcuLoop) : (s.modLoop i f).port = s.port := rfl
@[simp] theorem State.modLoop_block (i : Nat) (f : OcuLoop → OcuLoop) : (s.modLoop i f).block = s.block := rfl
@[simp] theorem State.modLoop_eng (i : Nat) (f : OcuLoop → OcuLoop) : (s.modLoop i f).eng = s.eng := rfl
@[simp] theorem State.modLoop_hinge (i : Nat) (f : OcuLoop → OcuLoop) : (s.modLoop i f).hinge = s.hinge := rfl
@[simp] theorem State.modLoop_lex (i : Nat) (f : OcuLoop → OcuLoop) : (s.modLoop i f).lex = s.lex := rfl
@[simp] theorem State.modLoop_mem (i : Nat) (f : OcuLoop → OcuLoop) : (s.modLoop i f).mem = s.mem := rfl
@[simp] theorem State.modLoop_rep (i : Nat) (f : OcuLoop → OcuLoop) : (s.modLoop i f).rep = s.rep := rfl
@[simp] theorem State.modLoop_cal (i : Nat) (f : OcuLoop → OcuLoop) : (s.modLoop i f).cal = s.cal := rfl
@[simp] theorem State.modLoop_thm (i : Nat) (f : OcuLoop → OcuLoop) : (s.modLoop i f).thm = s.thm := rfl
@[simp] theorem State.modLoop_tst (i : Nat) (f : OcuLoop → OcuLoop) : (s.modLoop i f).tst = s.tst := rfl
@[simp] theorem State.modLoop_pmc (i : Nat) (f : OcuLoop → OcuLoop) : (s.modLoop i f).pmc = s.pmc := rfl
@[simp] theorem State.modLoop_pwr (i : Nat) (f : OcuLoop → OcuLoop) : (s.modLoop i f).pwr = s.pwr := rfl
@[simp] theorem State.modLoop_fw (i : Nat) (f : OcuLoop → OcuLoop) : (s.modLoop i f).fw = s.fw := rfl
@[simp] theorem State.modLoop_cap (i : Nat) (f : OcuLoop → OcuLoop) : (s.modLoop i f).cap = s.cap := rfl

@[simp] theorem State.modCtx_pending (c : Nat) (f : Ctx → Ctx) : (s.modCtx c f).pending = s.pending := rfl
@[simp] theorem State.modCtx_free (c : Nat) (f : Ctx → Ctx) : (s.modCtx c f).free = s.free := rfl
@[simp] theorem State.modCtx_fuses (c : Nat) (f : Ctx → Ctx) : (s.modCtx c f).fuses = s.fuses := rfl
@[simp] theorem State.modCtx_dev (c : Nat) (f : Ctx → Ctx) : (s.modCtx c f).dev = s.dev := rfl
@[simp] theorem State.modCtx_shut (c : Nat) (f : Ctx → Ctx) : (s.modCtx c f).shut = s.shut := rfl
@[simp] theorem State.modCtx_mb (c : Nat) (f : Ctx → Ctx) : (s.modCtx c f).mb = s.mb := rfl
@[simp] theorem State.modCtx_ev (c : Nat) (f : Ctx → Ctx) : (s.modCtx c f).ev = s.ev := rfl
@[simp] theorem State.modCtx_icu (c : Nat) (f : Ctx → Ctx) : (s.modCtx c f).icu = s.icu := rfl
@[simp] theorem State.modCtx_hif (c : Nat) (f : Ctx → Ctx) : (s.modCtx c f).hif = s.hif := rfl
@[simp] theorem State.modCtx_err (c : Nat) (f : Ctx → Ctx) : (s.modCtx c f).err = s.err := rfl
@[simp] theorem State.modCtx_tku (c : Nat) (f : Ctx → Ctx) : (s.modCtx c f).tku = s.tku := rfl
@[simp] theorem State.modCtx_params (c : Nat) (f : Ctx → Ctx) : (s.modCtx c f).params = s.params := rfl
@[simp] theorem State.modCtx_stats (c : Nat) (f : Ctx → Ctx) : (s.modCtx c f).stats = s.stats := rfl
@[simp] theorem State.modCtx_line (c : Nat) (f : Ctx → Ctx) : (s.modCtx c f).line = s.line := rfl
@[simp] theorem State.modCtx_host (c : Nat) (f : Ctx → Ctx) : (s.modCtx c f).host = s.host := rfl
@[simp] theorem State.modCtx_group (c : Nat) (f : Ctx → Ctx) : (s.modCtx c f).group = s.group := rfl
@[simp] theorem State.modCtx_port (c : Nat) (f : Ctx → Ctx) : (s.modCtx c f).port = s.port := rfl
@[simp] theorem State.modCtx_block (c : Nat) (f : Ctx → Ctx) : (s.modCtx c f).block = s.block := rfl
@[simp] theorem State.modCtx_eng (c : Nat) (f : Ctx → Ctx) : (s.modCtx c f).eng = s.eng := rfl
@[simp] theorem State.modCtx_hinge (c : Nat) (f : Ctx → Ctx) : (s.modCtx c f).hinge = s.hinge := rfl
@[simp] theorem State.modCtx_mem (c : Nat) (f : Ctx → Ctx) : (s.modCtx c f).mem = s.mem := rfl
@[simp] theorem State.modCtx_rep (c : Nat) (f : Ctx → Ctx) : (s.modCtx c f).rep = s.rep := rfl
@[simp] theorem State.modCtx_ocu (c : Nat) (f : Ctx → Ctx) : (s.modCtx c f).ocu = s.ocu := rfl
@[simp] theorem State.modCtx_cal (c : Nat) (f : Ctx → Ctx) : (s.modCtx c f).cal = s.cal := rfl
@[simp] theorem State.modCtx_thm (c : Nat) (f : Ctx → Ctx) : (s.modCtx c f).thm = s.thm := rfl
@[simp] theorem State.modCtx_tst (c : Nat) (f : Ctx → Ctx) : (s.modCtx c f).tst = s.tst := rfl
@[simp] theorem State.modCtx_pmc (c : Nat) (f : Ctx → Ctx) : (s.modCtx c f).pmc = s.pmc := rfl
@[simp] theorem State.modCtx_pwr (c : Nat) (f : Ctx → Ctx) : (s.modCtx c f).pwr = s.pwr := rfl
@[simp] theorem State.modCtx_fw (c : Nat) (f : Ctx → Ctx) : (s.modCtx c f).fw = s.fw := rfl
@[simp] theorem State.modCtx_cap (c : Nat) (f : Ctx → Ctx) : (s.modCtx c f).cap = s.cap := rfl

@[simp] theorem State.modUnplaced_pending (i : Nat) (f : Ctx → Ctx) : (s.modUnplaced i f).pending = s.pending := rfl
@[simp] theorem State.modUnplaced_free (i : Nat) (f : Ctx → Ctx) : (s.modUnplaced i f).free = s.free := rfl
@[simp] theorem State.modUnplaced_fuses (i : Nat) (f : Ctx → Ctx) : (s.modUnplaced i f).fuses = s.fuses := rfl
@[simp] theorem State.modUnplaced_dev (i : Nat) (f : Ctx → Ctx) : (s.modUnplaced i f).dev = s.dev := rfl
@[simp] theorem State.modUnplaced_shut (i : Nat) (f : Ctx → Ctx) : (s.modUnplaced i f).shut = s.shut := rfl
@[simp] theorem State.modUnplaced_mb (i : Nat) (f : Ctx → Ctx) : (s.modUnplaced i f).mb = s.mb := rfl
@[simp] theorem State.modUnplaced_ev (i : Nat) (f : Ctx → Ctx) : (s.modUnplaced i f).ev = s.ev := rfl
@[simp] theorem State.modUnplaced_icu (i : Nat) (f : Ctx → Ctx) : (s.modUnplaced i f).icu = s.icu := rfl
@[simp] theorem State.modUnplaced_hif (i : Nat) (f : Ctx → Ctx) : (s.modUnplaced i f).hif = s.hif := rfl
@[simp] theorem State.modUnplaced_err (i : Nat) (f : Ctx → Ctx) : (s.modUnplaced i f).err = s.err := rfl
@[simp] theorem State.modUnplaced_tku (i : Nat) (f : Ctx → Ctx) : (s.modUnplaced i f).tku = s.tku := rfl
@[simp] theorem State.modUnplaced_params (i : Nat) (f : Ctx → Ctx) : (s.modUnplaced i f).params = s.params := rfl
@[simp] theorem State.modUnplaced_stats (i : Nat) (f : Ctx → Ctx) : (s.modUnplaced i f).stats = s.stats := rfl
@[simp] theorem State.modUnplaced_line (i : Nat) (f : Ctx → Ctx) : (s.modUnplaced i f).line = s.line := rfl
@[simp] theorem State.modUnplaced_host (i : Nat) (f : Ctx → Ctx) : (s.modUnplaced i f).host = s.host := rfl
@[simp] theorem State.modUnplaced_group (i : Nat) (f : Ctx → Ctx) : (s.modUnplaced i f).group = s.group := rfl
@[simp] theorem State.modUnplaced_port (i : Nat) (f : Ctx → Ctx) : (s.modUnplaced i f).port = s.port := rfl
@[simp] theorem State.modUnplaced_block (i : Nat) (f : Ctx → Ctx) : (s.modUnplaced i f).block = s.block := rfl
@[simp] theorem State.modUnplaced_eng (i : Nat) (f : Ctx → Ctx) : (s.modUnplaced i f).eng = s.eng := rfl
@[simp] theorem State.modUnplaced_hinge (i : Nat) (f : Ctx → Ctx) : (s.modUnplaced i f).hinge = s.hinge := rfl
@[simp] theorem State.modUnplaced_mem (i : Nat) (f : Ctx → Ctx) : (s.modUnplaced i f).mem = s.mem := rfl
@[simp] theorem State.modUnplaced_rep (i : Nat) (f : Ctx → Ctx) : (s.modUnplaced i f).rep = s.rep := rfl
@[simp] theorem State.modUnplaced_ocu (i : Nat) (f : Ctx → Ctx) : (s.modUnplaced i f).ocu = s.ocu := rfl
@[simp] theorem State.modUnplaced_cal (i : Nat) (f : Ctx → Ctx) : (s.modUnplaced i f).cal = s.cal := rfl
@[simp] theorem State.modUnplaced_thm (i : Nat) (f : Ctx → Ctx) : (s.modUnplaced i f).thm = s.thm := rfl
@[simp] theorem State.modUnplaced_tst (i : Nat) (f : Ctx → Ctx) : (s.modUnplaced i f).tst = s.tst := rfl
@[simp] theorem State.modUnplaced_pmc (i : Nat) (f : Ctx → Ctx) : (s.modUnplaced i f).pmc = s.pmc := rfl
@[simp] theorem State.modUnplaced_pwr (i : Nat) (f : Ctx → Ctx) : (s.modUnplaced i f).pwr = s.pwr := rfl
@[simp] theorem State.modUnplaced_fw (i : Nat) (f : Ctx → Ctx) : (s.modUnplaced i f).fw = s.fw := rfl
@[simp] theorem State.modUnplaced_cap (i : Nat) (f : Ctx → Ctx) : (s.modUnplaced i f).cap = s.cap := rfl

@[simp] theorem State.modBank_pending (b : Nat) (f : Bank → Bank) : (s.modBank b f).pending = s.pending := rfl
@[simp] theorem State.modBank_free (b : Nat) (f : Bank → Bank) : (s.modBank b f).free = s.free := rfl
@[simp] theorem State.modBank_fuses (b : Nat) (f : Bank → Bank) : (s.modBank b f).fuses = s.fuses := rfl
@[simp] theorem State.modBank_dev (b : Nat) (f : Bank → Bank) : (s.modBank b f).dev = s.dev := rfl
@[simp] theorem State.modBank_shut (b : Nat) (f : Bank → Bank) : (s.modBank b f).shut = s.shut := rfl
@[simp] theorem State.modBank_mb (b : Nat) (f : Bank → Bank) : (s.modBank b f).mb = s.mb := rfl
@[simp] theorem State.modBank_ev (b : Nat) (f : Bank → Bank) : (s.modBank b f).ev = s.ev := rfl
@[simp] theorem State.modBank_icu (b : Nat) (f : Bank → Bank) : (s.modBank b f).icu = s.icu := rfl
@[simp] theorem State.modBank_hif (b : Nat) (f : Bank → Bank) : (s.modBank b f).hif = s.hif := rfl
@[simp] theorem State.modBank_err (b : Nat) (f : Bank → Bank) : (s.modBank b f).err = s.err := rfl
@[simp] theorem State.modBank_tku (b : Nat) (f : Bank → Bank) : (s.modBank b f).tku = s.tku := rfl
@[simp] theorem State.modBank_params (b : Nat) (f : Bank → Bank) : (s.modBank b f).params = s.params := rfl
@[simp] theorem State.modBank_stats (b : Nat) (f : Bank → Bank) : (s.modBank b f).stats = s.stats := rfl
@[simp] theorem State.modBank_line (b : Nat) (f : Bank → Bank) : (s.modBank b f).line = s.line := rfl
@[simp] theorem State.modBank_host (b : Nat) (f : Bank → Bank) : (s.modBank b f).host = s.host := rfl
@[simp] theorem State.modBank_group (b : Nat) (f : Bank → Bank) : (s.modBank b f).group = s.group := rfl
@[simp] theorem State.modBank_port (b : Nat) (f : Bank → Bank) : (s.modBank b f).port = s.port := rfl
@[simp] theorem State.modBank_block (b : Nat) (f : Bank → Bank) : (s.modBank b f).block = s.block := rfl
@[simp] theorem State.modBank_eng (b : Nat) (f : Bank → Bank) : (s.modBank b f).eng = s.eng := rfl
@[simp] theorem State.modBank_hinge (b : Nat) (f : Bank → Bank) : (s.modBank b f).hinge = s.hinge := rfl
@[simp] theorem State.modBank_mem (b : Nat) (f : Bank → Bank) : (s.modBank b f).mem = s.mem := rfl
@[simp] theorem State.modBank_rep (b : Nat) (f : Bank → Bank) : (s.modBank b f).rep = s.rep := rfl
@[simp] theorem State.modBank_ocu (b : Nat) (f : Bank → Bank) : (s.modBank b f).ocu = s.ocu := rfl
@[simp] theorem State.modBank_cal (b : Nat) (f : Bank → Bank) : (s.modBank b f).cal = s.cal := rfl
@[simp] theorem State.modBank_thm (b : Nat) (f : Bank → Bank) : (s.modBank b f).thm = s.thm := rfl
@[simp] theorem State.modBank_tst (b : Nat) (f : Bank → Bank) : (s.modBank b f).tst = s.tst := rfl
@[simp] theorem State.modBank_pmc (b : Nat) (f : Bank → Bank) : (s.modBank b f).pmc = s.pmc := rfl
@[simp] theorem State.modBank_pwr (b : Nat) (f : Bank → Bank) : (s.modBank b f).pwr = s.pwr := rfl
@[simp] theorem State.modBank_fw (b : Nat) (f : Bank → Bank) : (s.modBank b f).fw = s.fw := rfl
@[simp] theorem State.modBank_cap (b : Nat) (f : Bank → Bank) : (s.modBank b f).cap = s.cap := rfl

@[simp] theorem State.modSensor_pending (n : Nat) (f : Sensor → Sensor) : (s.modSensor n f).pending = s.pending := rfl
@[simp] theorem State.modSensor_free (n : Nat) (f : Sensor → Sensor) : (s.modSensor n f).free = s.free := rfl
@[simp] theorem State.modSensor_fuses (n : Nat) (f : Sensor → Sensor) : (s.modSensor n f).fuses = s.fuses := rfl
@[simp] theorem State.modSensor_dev (n : Nat) (f : Sensor → Sensor) : (s.modSensor n f).dev = s.dev := rfl
@[simp] theorem State.modSensor_shut (n : Nat) (f : Sensor → Sensor) : (s.modSensor n f).shut = s.shut := rfl
@[simp] theorem State.modSensor_mb (n : Nat) (f : Sensor → Sensor) : (s.modSensor n f).mb = s.mb := rfl
@[simp] theorem State.modSensor_ev (n : Nat) (f : Sensor → Sensor) : (s.modSensor n f).ev = s.ev := rfl
@[simp] theorem State.modSensor_icu (n : Nat) (f : Sensor → Sensor) : (s.modSensor n f).icu = s.icu := rfl
@[simp] theorem State.modSensor_hif (n : Nat) (f : Sensor → Sensor) : (s.modSensor n f).hif = s.hif := rfl
@[simp] theorem State.modSensor_err (n : Nat) (f : Sensor → Sensor) : (s.modSensor n f).err = s.err := rfl
@[simp] theorem State.modSensor_tku (n : Nat) (f : Sensor → Sensor) : (s.modSensor n f).tku = s.tku := rfl
@[simp] theorem State.modSensor_params (n : Nat) (f : Sensor → Sensor) : (s.modSensor n f).params = s.params := rfl
@[simp] theorem State.modSensor_stats (n : Nat) (f : Sensor → Sensor) : (s.modSensor n f).stats = s.stats := rfl
@[simp] theorem State.modSensor_line (n : Nat) (f : Sensor → Sensor) : (s.modSensor n f).line = s.line := rfl
@[simp] theorem State.modSensor_host (n : Nat) (f : Sensor → Sensor) : (s.modSensor n f).host = s.host := rfl
@[simp] theorem State.modSensor_group (n : Nat) (f : Sensor → Sensor) : (s.modSensor n f).group = s.group := rfl
@[simp] theorem State.modSensor_port (n : Nat) (f : Sensor → Sensor) : (s.modSensor n f).port = s.port := rfl
@[simp] theorem State.modSensor_block (n : Nat) (f : Sensor → Sensor) : (s.modSensor n f).block = s.block := rfl
@[simp] theorem State.modSensor_eng (n : Nat) (f : Sensor → Sensor) : (s.modSensor n f).eng = s.eng := rfl
@[simp] theorem State.modSensor_hinge (n : Nat) (f : Sensor → Sensor) : (s.modSensor n f).hinge = s.hinge := rfl
@[simp] theorem State.modSensor_lex (n : Nat) (f : Sensor → Sensor) : (s.modSensor n f).lex = s.lex := rfl
@[simp] theorem State.modSensor_mem (n : Nat) (f : Sensor → Sensor) : (s.modSensor n f).mem = s.mem := rfl
@[simp] theorem State.modSensor_rep (n : Nat) (f : Sensor → Sensor) : (s.modSensor n f).rep = s.rep := rfl
@[simp] theorem State.modSensor_ocu (n : Nat) (f : Sensor → Sensor) : (s.modSensor n f).ocu = s.ocu := rfl
@[simp] theorem State.modSensor_cal (n : Nat) (f : Sensor → Sensor) : (s.modSensor n f).cal = s.cal := rfl
@[simp] theorem State.modSensor_tst (n : Nat) (f : Sensor → Sensor) : (s.modSensor n f).tst = s.tst := rfl
@[simp] theorem State.modSensor_pmc (n : Nat) (f : Sensor → Sensor) : (s.modSensor n f).pmc = s.pmc := rfl
@[simp] theorem State.modSensor_pwr (n : Nat) (f : Sensor → Sensor) : (s.modSensor n f).pwr = s.pwr := rfl
@[simp] theorem State.modSensor_fw (n : Nat) (f : Sensor → Sensor) : (s.modSensor n f).fw = s.fw := rfl
@[simp] theorem State.modSensor_cap (n : Nat) (f : Sensor → Sensor) : (s.modSensor n f).cap = s.cap := rfl

@[simp] theorem State.modResid_pending (i : Nat) (f : Resid → Resid) : (s.modResid i f).pending = s.pending := rfl
@[simp] theorem State.modResid_free (i : Nat) (f : Resid → Resid) : (s.modResid i f).free = s.free := rfl
@[simp] theorem State.modResid_fuses (i : Nat) (f : Resid → Resid) : (s.modResid i f).fuses = s.fuses := rfl
@[simp] theorem State.modResid_dev (i : Nat) (f : Resid → Resid) : (s.modResid i f).dev = s.dev := rfl
@[simp] theorem State.modResid_shut (i : Nat) (f : Resid → Resid) : (s.modResid i f).shut = s.shut := rfl
@[simp] theorem State.modResid_mb (i : Nat) (f : Resid → Resid) : (s.modResid i f).mb = s.mb := rfl
@[simp] theorem State.modResid_ev (i : Nat) (f : Resid → Resid) : (s.modResid i f).ev = s.ev := rfl
@[simp] theorem State.modResid_icu (i : Nat) (f : Resid → Resid) : (s.modResid i f).icu = s.icu := rfl
@[simp] theorem State.modResid_hif (i : Nat) (f : Resid → Resid) : (s.modResid i f).hif = s.hif := rfl
@[simp] theorem State.modResid_err (i : Nat) (f : Resid → Resid) : (s.modResid i f).err = s.err := rfl
@[simp] theorem State.modResid_params (i : Nat) (f : Resid → Resid) : (s.modResid i f).params = s.params := rfl
@[simp] theorem State.modResid_stats (i : Nat) (f : Resid → Resid) : (s.modResid i f).stats = s.stats := rfl
@[simp] theorem State.modResid_line (i : Nat) (f : Resid → Resid) : (s.modResid i f).line = s.line := rfl
@[simp] theorem State.modResid_host (i : Nat) (f : Resid → Resid) : (s.modResid i f).host = s.host := rfl
@[simp] theorem State.modResid_group (i : Nat) (f : Resid → Resid) : (s.modResid i f).group = s.group := rfl
@[simp] theorem State.modResid_port (i : Nat) (f : Resid → Resid) : (s.modResid i f).port = s.port := rfl
@[simp] theorem State.modResid_block (i : Nat) (f : Resid → Resid) : (s.modResid i f).block = s.block := rfl
@[simp] theorem State.modResid_eng (i : Nat) (f : Resid → Resid) : (s.modResid i f).eng = s.eng := rfl
@[simp] theorem State.modResid_hinge (i : Nat) (f : Resid → Resid) : (s.modResid i f).hinge = s.hinge := rfl
@[simp] theorem State.modResid_lex (i : Nat) (f : Resid → Resid) : (s.modResid i f).lex = s.lex := rfl
@[simp] theorem State.modResid_mem (i : Nat) (f : Resid → Resid) : (s.modResid i f).mem = s.mem := rfl
@[simp] theorem State.modResid_rep (i : Nat) (f : Resid → Resid) : (s.modResid i f).rep = s.rep := rfl
@[simp] theorem State.modResid_ocu (i : Nat) (f : Resid → Resid) : (s.modResid i f).ocu = s.ocu := rfl
@[simp] theorem State.modResid_cal (i : Nat) (f : Resid → Resid) : (s.modResid i f).cal = s.cal := rfl
@[simp] theorem State.modResid_thm (i : Nat) (f : Resid → Resid) : (s.modResid i f).thm = s.thm := rfl
@[simp] theorem State.modResid_tst (i : Nat) (f : Resid → Resid) : (s.modResid i f).tst = s.tst := rfl
@[simp] theorem State.modResid_pmc (i : Nat) (f : Resid → Resid) : (s.modResid i f).pmc = s.pmc := rfl
@[simp] theorem State.modResid_pwr (i : Nat) (f : Resid → Resid) : (s.modResid i f).pwr = s.pwr := rfl
@[simp] theorem State.modResid_fw (i : Nat) (f : Resid → Resid) : (s.modResid i f).fw = s.fw := rfl
@[simp] theorem State.modResid_cap (i : Nat) (f : Resid → Resid) : (s.modResid i f).cap = s.cap := rfl

@[simp] theorem State.modRegion_pending (r : Nat) (f : Region → Region) : (s.modRegion r f).pending = s.pending := rfl
@[simp] theorem State.modRegion_free (r : Nat) (f : Region → Region) : (s.modRegion r f).free = s.free := rfl
@[simp] theorem State.modRegion_fuses (r : Nat) (f : Region → Region) : (s.modRegion r f).fuses = s.fuses := rfl
@[simp] theorem State.modRegion_dev (r : Nat) (f : Region → Region) : (s.modRegion r f).dev = s.dev := rfl
@[simp] theorem State.modRegion_shut (r : Nat) (f : Region → Region) : (s.modRegion r f).shut = s.shut := rfl
@[simp] theorem State.modRegion_mb (r : Nat) (f : Region → Region) : (s.modRegion r f).mb = s.mb := rfl
@[simp] theorem State.modRegion_ev (r : Nat) (f : Region → Region) : (s.modRegion r f).ev = s.ev := rfl
@[simp] theorem State.modRegion_icu (r : Nat) (f : Region → Region) : (s.modRegion r f).icu = s.icu := rfl
@[simp] theorem State.modRegion_hif (r : Nat) (f : Region → Region) : (s.modRegion r f).hif = s.hif := rfl
@[simp] theorem State.modRegion_err (r : Nat) (f : Region → Region) : (s.modRegion r f).err = s.err := rfl
@[simp] theorem State.modRegion_tku (r : Nat) (f : Region → Region) : (s.modRegion r f).tku = s.tku := rfl
@[simp] theorem State.modRegion_params (r : Nat) (f : Region → Region) : (s.modRegion r f).params = s.params := rfl
@[simp] theorem State.modRegion_stats (r : Nat) (f : Region → Region) : (s.modRegion r f).stats = s.stats := rfl
@[simp] theorem State.modRegion_line (r : Nat) (f : Region → Region) : (s.modRegion r f).line = s.line := rfl
@[simp] theorem State.modRegion_host (r : Nat) (f : Region → Region) : (s.modRegion r f).host = s.host := rfl
@[simp] theorem State.modRegion_group (r : Nat) (f : Region → Region) : (s.modRegion r f).group = s.group := rfl
@[simp] theorem State.modRegion_port (r : Nat) (f : Region → Region) : (s.modRegion r f).port = s.port := rfl
@[simp] theorem State.modRegion_block (r : Nat) (f : Region → Region) : (s.modRegion r f).block = s.block := rfl
@[simp] theorem State.modRegion_eng (r : Nat) (f : Region → Region) : (s.modRegion r f).eng = s.eng := rfl
@[simp] theorem State.modRegion_hinge (r : Nat) (f : Region → Region) : (s.modRegion r f).hinge = s.hinge := rfl
@[simp] theorem State.modRegion_lex (r : Nat) (f : Region → Region) : (s.modRegion r f).lex = s.lex := rfl
@[simp] theorem State.modRegion_rep (r : Nat) (f : Region → Region) : (s.modRegion r f).rep = s.rep := rfl
@[simp] theorem State.modRegion_ocu (r : Nat) (f : Region → Region) : (s.modRegion r f).ocu = s.ocu := rfl
@[simp] theorem State.modRegion_cal (r : Nat) (f : Region → Region) : (s.modRegion r f).cal = s.cal := rfl
@[simp] theorem State.modRegion_thm (r : Nat) (f : Region → Region) : (s.modRegion r f).thm = s.thm := rfl
@[simp] theorem State.modRegion_tst (r : Nat) (f : Region → Region) : (s.modRegion r f).tst = s.tst := rfl
@[simp] theorem State.modRegion_pmc (r : Nat) (f : Region → Region) : (s.modRegion r f).pmc = s.pmc := rfl
@[simp] theorem State.modRegion_pwr (r : Nat) (f : Region → Region) : (s.modRegion r f).pwr = s.pwr := rfl
@[simp] theorem State.modRegion_fw (r : Nat) (f : Region → Region) : (s.modRegion r f).fw = s.fw := rfl
@[simp] theorem State.modRegion_cap (r : Nat) (f : Region → Region) : (s.modRegion r f).cap = s.cap := rfl

@[simp] theorem State.modDma_pending (c : Nat) (f : Dma → Dma) : (s.modDma c f).pending = s.pending := rfl
@[simp] theorem State.modDma_free (c : Nat) (f : Dma → Dma) : (s.modDma c f).free = s.free := rfl
@[simp] theorem State.modDma_fuses (c : Nat) (f : Dma → Dma) : (s.modDma c f).fuses = s.fuses := rfl
@[simp] theorem State.modDma_dev (c : Nat) (f : Dma → Dma) : (s.modDma c f).dev = s.dev := rfl
@[simp] theorem State.modDma_shut (c : Nat) (f : Dma → Dma) : (s.modDma c f).shut = s.shut := rfl
@[simp] theorem State.modDma_mb (c : Nat) (f : Dma → Dma) : (s.modDma c f).mb = s.mb := rfl
@[simp] theorem State.modDma_ev (c : Nat) (f : Dma → Dma) : (s.modDma c f).ev = s.ev := rfl
@[simp] theorem State.modDma_icu (c : Nat) (f : Dma → Dma) : (s.modDma c f).icu = s.icu := rfl
@[simp] theorem State.modDma_err (c : Nat) (f : Dma → Dma) : (s.modDma c f).err = s.err := rfl
@[simp] theorem State.modDma_tku (c : Nat) (f : Dma → Dma) : (s.modDma c f).tku = s.tku := rfl
@[simp] theorem State.modDma_params (c : Nat) (f : Dma → Dma) : (s.modDma c f).params = s.params := rfl
@[simp] theorem State.modDma_stats (c : Nat) (f : Dma → Dma) : (s.modDma c f).stats = s.stats := rfl
@[simp] theorem State.modDma_line (c : Nat) (f : Dma → Dma) : (s.modDma c f).line = s.line := rfl
@[simp] theorem State.modDma_host (c : Nat) (f : Dma → Dma) : (s.modDma c f).host = s.host := rfl
@[simp] theorem State.modDma_group (c : Nat) (f : Dma → Dma) : (s.modDma c f).group = s.group := rfl
@[simp] theorem State.modDma_port (c : Nat) (f : Dma → Dma) : (s.modDma c f).port = s.port := rfl
@[simp] theorem State.modDma_block (c : Nat) (f : Dma → Dma) : (s.modDma c f).block = s.block := rfl
@[simp] theorem State.modDma_eng (c : Nat) (f : Dma → Dma) : (s.modDma c f).eng = s.eng := rfl
@[simp] theorem State.modDma_hinge (c : Nat) (f : Dma → Dma) : (s.modDma c f).hinge = s.hinge := rfl
@[simp] theorem State.modDma_lex (c : Nat) (f : Dma → Dma) : (s.modDma c f).lex = s.lex := rfl
@[simp] theorem State.modDma_mem (c : Nat) (f : Dma → Dma) : (s.modDma c f).mem = s.mem := rfl
@[simp] theorem State.modDma_rep (c : Nat) (f : Dma → Dma) : (s.modDma c f).rep = s.rep := rfl
@[simp] theorem State.modDma_ocu (c : Nat) (f : Dma → Dma) : (s.modDma c f).ocu = s.ocu := rfl
@[simp] theorem State.modDma_cal (c : Nat) (f : Dma → Dma) : (s.modDma c f).cal = s.cal := rfl
@[simp] theorem State.modDma_thm (c : Nat) (f : Dma → Dma) : (s.modDma c f).thm = s.thm := rfl
@[simp] theorem State.modDma_tst (c : Nat) (f : Dma → Dma) : (s.modDma c f).tst = s.tst := rfl
@[simp] theorem State.modDma_pmc (c : Nat) (f : Dma → Dma) : (s.modDma c f).pmc = s.pmc := rfl
@[simp] theorem State.modDma_pwr (c : Nat) (f : Dma → Dma) : (s.modDma c f).pwr = s.pwr := rfl
@[simp] theorem State.modDma_fw (c : Nat) (f : Dma → Dma) : (s.modDma c f).fw = s.fw := rfl
@[simp] theorem State.modDma_cap (c : Nat) (f : Dma → Dma) : (s.modDma c f).cap = s.cap := rfl

@[simp] theorem State.modPort_pending (p : Nat) (f : Port → Port) : (s.modPort p f).pending = s.pending := rfl
@[simp] theorem State.modPort_free (p : Nat) (f : Port → Port) : (s.modPort p f).free = s.free := rfl
@[simp] theorem State.modPort_fuses (p : Nat) (f : Port → Port) : (s.modPort p f).fuses = s.fuses := rfl
@[simp] theorem State.modPort_dev (p : Nat) (f : Port → Port) : (s.modPort p f).dev = s.dev := rfl
@[simp] theorem State.modPort_shut (p : Nat) (f : Port → Port) : (s.modPort p f).shut = s.shut := rfl
@[simp] theorem State.modPort_mb (p : Nat) (f : Port → Port) : (s.modPort p f).mb = s.mb := rfl
@[simp] theorem State.modPort_ev (p : Nat) (f : Port → Port) : (s.modPort p f).ev = s.ev := rfl
@[simp] theorem State.modPort_icu (p : Nat) (f : Port → Port) : (s.modPort p f).icu = s.icu := rfl
@[simp] theorem State.modPort_hif (p : Nat) (f : Port → Port) : (s.modPort p f).hif = s.hif := rfl
@[simp] theorem State.modPort_err (p : Nat) (f : Port → Port) : (s.modPort p f).err = s.err := rfl
@[simp] theorem State.modPort_tku (p : Nat) (f : Port → Port) : (s.modPort p f).tku = s.tku := rfl
@[simp] theorem State.modPort_params (p : Nat) (f : Port → Port) : (s.modPort p f).params = s.params := rfl
@[simp] theorem State.modPort_stats (p : Nat) (f : Port → Port) : (s.modPort p f).stats = s.stats := rfl
@[simp] theorem State.modPort_line (p : Nat) (f : Port → Port) : (s.modPort p f).line = s.line := rfl
@[simp] theorem State.modPort_host (p : Nat) (f : Port → Port) : (s.modPort p f).host = s.host := rfl
@[simp] theorem State.modPort_group (p : Nat) (f : Port → Port) : (s.modPort p f).group = s.group := rfl
@[simp] theorem State.modPort_block (p : Nat) (f : Port → Port) : (s.modPort p f).block = s.block := rfl
@[simp] theorem State.modPort_eng (p : Nat) (f : Port → Port) : (s.modPort p f).eng = s.eng := rfl
@[simp] theorem State.modPort_hinge (p : Nat) (f : Port → Port) : (s.modPort p f).hinge = s.hinge := rfl
@[simp] theorem State.modPort_lex (p : Nat) (f : Port → Port) : (s.modPort p f).lex = s.lex := rfl
@[simp] theorem State.modPort_mem (p : Nat) (f : Port → Port) : (s.modPort p f).mem = s.mem := rfl
@[simp] theorem State.modPort_rep (p : Nat) (f : Port → Port) : (s.modPort p f).rep = s.rep := rfl
@[simp] theorem State.modPort_ocu (p : Nat) (f : Port → Port) : (s.modPort p f).ocu = s.ocu := rfl
@[simp] theorem State.modPort_cal (p : Nat) (f : Port → Port) : (s.modPort p f).cal = s.cal := rfl
@[simp] theorem State.modPort_thm (p : Nat) (f : Port → Port) : (s.modPort p f).thm = s.thm := rfl
@[simp] theorem State.modPort_tst (p : Nat) (f : Port → Port) : (s.modPort p f).tst = s.tst := rfl
@[simp] theorem State.modPort_pmc (p : Nat) (f : Port → Port) : (s.modPort p f).pmc = s.pmc := rfl
@[simp] theorem State.modPort_pwr (p : Nat) (f : Port → Port) : (s.modPort p f).pwr = s.pwr := rfl
@[simp] theorem State.modPort_fw (p : Nat) (f : Port → Port) : (s.modPort p f).fw = s.fw := rfl
@[simp] theorem State.modPort_cap (p : Nat) (f : Port → Port) : (s.modPort p f).cap = s.cap := rfl

@[simp] theorem State.modLine_pending (l : Nat) (f : Line → Line) : (s.modLine l f).pending = s.pending := rfl
@[simp] theorem State.modLine_free (l : Nat) (f : Line → Line) : (s.modLine l f).free = s.free := rfl
@[simp] theorem State.modLine_fuses (l : Nat) (f : Line → Line) : (s.modLine l f).fuses = s.fuses := rfl
@[simp] theorem State.modLine_dev (l : Nat) (f : Line → Line) : (s.modLine l f).dev = s.dev := rfl
@[simp] theorem State.modLine_shut (l : Nat) (f : Line → Line) : (s.modLine l f).shut = s.shut := rfl
@[simp] theorem State.modLine_mb (l : Nat) (f : Line → Line) : (s.modLine l f).mb = s.mb := rfl
@[simp] theorem State.modLine_ev (l : Nat) (f : Line → Line) : (s.modLine l f).ev = s.ev := rfl
@[simp] theorem State.modLine_icu (l : Nat) (f : Line → Line) : (s.modLine l f).icu = s.icu := rfl
@[simp] theorem State.modLine_hif (l : Nat) (f : Line → Line) : (s.modLine l f).hif = s.hif := rfl
@[simp] theorem State.modLine_err (l : Nat) (f : Line → Line) : (s.modLine l f).err = s.err := rfl
@[simp] theorem State.modLine_tku (l : Nat) (f : Line → Line) : (s.modLine l f).tku = s.tku := rfl
@[simp] theorem State.modLine_params (l : Nat) (f : Line → Line) : (s.modLine l f).params = s.params := rfl
@[simp] theorem State.modLine_stats (l : Nat) (f : Line → Line) : (s.modLine l f).stats = s.stats := rfl
@[simp] theorem State.modLine_host (l : Nat) (f : Line → Line) : (s.modLine l f).host = s.host := rfl
@[simp] theorem State.modLine_group (l : Nat) (f : Line → Line) : (s.modLine l f).group = s.group := rfl
@[simp] theorem State.modLine_port (l : Nat) (f : Line → Line) : (s.modLine l f).port = s.port := rfl
@[simp] theorem State.modLine_block (l : Nat) (f : Line → Line) : (s.modLine l f).block = s.block := rfl
@[simp] theorem State.modLine_eng (l : Nat) (f : Line → Line) : (s.modLine l f).eng = s.eng := rfl
@[simp] theorem State.modLine_hinge (l : Nat) (f : Line → Line) : (s.modLine l f).hinge = s.hinge := rfl
@[simp] theorem State.modLine_lex (l : Nat) (f : Line → Line) : (s.modLine l f).lex = s.lex := rfl
@[simp] theorem State.modLine_mem (l : Nat) (f : Line → Line) : (s.modLine l f).mem = s.mem := rfl
@[simp] theorem State.modLine_rep (l : Nat) (f : Line → Line) : (s.modLine l f).rep = s.rep := rfl
@[simp] theorem State.modLine_ocu (l : Nat) (f : Line → Line) : (s.modLine l f).ocu = s.ocu := rfl
@[simp] theorem State.modLine_cal (l : Nat) (f : Line → Line) : (s.modLine l f).cal = s.cal := rfl
@[simp] theorem State.modLine_thm (l : Nat) (f : Line → Line) : (s.modLine l f).thm = s.thm := rfl
@[simp] theorem State.modLine_tst (l : Nat) (f : Line → Line) : (s.modLine l f).tst = s.tst := rfl
@[simp] theorem State.modLine_pmc (l : Nat) (f : Line → Line) : (s.modLine l f).pmc = s.pmc := rfl
@[simp] theorem State.modLine_pwr (l : Nat) (f : Line → Line) : (s.modLine l f).pwr = s.pwr := rfl
@[simp] theorem State.modLine_fw (l : Nat) (f : Line → Line) : (s.modLine l f).fw = s.fw := rfl
@[simp] theorem State.modLine_cap (l : Nat) (f : Line → Line) : (s.modLine l f).cap = s.cap := rfl

@[simp] theorem State.modLrx_pending (l : Nat) (f : Lrx → Lrx) : (s.modLrx l f).pending = s.pending := rfl
@[simp] theorem State.modLrx_free (l : Nat) (f : Lrx → Lrx) : (s.modLrx l f).free = s.free := rfl
@[simp] theorem State.modLrx_fuses (l : Nat) (f : Lrx → Lrx) : (s.modLrx l f).fuses = s.fuses := rfl
@[simp] theorem State.modLrx_dev (l : Nat) (f : Lrx → Lrx) : (s.modLrx l f).dev = s.dev := rfl
@[simp] theorem State.modLrx_shut (l : Nat) (f : Lrx → Lrx) : (s.modLrx l f).shut = s.shut := rfl
@[simp] theorem State.modLrx_mb (l : Nat) (f : Lrx → Lrx) : (s.modLrx l f).mb = s.mb := rfl
@[simp] theorem State.modLrx_ev (l : Nat) (f : Lrx → Lrx) : (s.modLrx l f).ev = s.ev := rfl
@[simp] theorem State.modLrx_icu (l : Nat) (f : Lrx → Lrx) : (s.modLrx l f).icu = s.icu := rfl
@[simp] theorem State.modLrx_hif (l : Nat) (f : Lrx → Lrx) : (s.modLrx l f).hif = s.hif := rfl
@[simp] theorem State.modLrx_err (l : Nat) (f : Lrx → Lrx) : (s.modLrx l f).err = s.err := rfl
@[simp] theorem State.modLrx_tku (l : Nat) (f : Lrx → Lrx) : (s.modLrx l f).tku = s.tku := rfl
@[simp] theorem State.modLrx_params (l : Nat) (f : Lrx → Lrx) : (s.modLrx l f).params = s.params := rfl
@[simp] theorem State.modLrx_stats (l : Nat) (f : Lrx → Lrx) : (s.modLrx l f).stats = s.stats := rfl
@[simp] theorem State.modLrx_host (l : Nat) (f : Lrx → Lrx) : (s.modLrx l f).host = s.host := rfl
@[simp] theorem State.modLrx_group (l : Nat) (f : Lrx → Lrx) : (s.modLrx l f).group = s.group := rfl
@[simp] theorem State.modLrx_port (l : Nat) (f : Lrx → Lrx) : (s.modLrx l f).port = s.port := rfl
@[simp] theorem State.modLrx_block (l : Nat) (f : Lrx → Lrx) : (s.modLrx l f).block = s.block := rfl
@[simp] theorem State.modLrx_eng (l : Nat) (f : Lrx → Lrx) : (s.modLrx l f).eng = s.eng := rfl
@[simp] theorem State.modLrx_hinge (l : Nat) (f : Lrx → Lrx) : (s.modLrx l f).hinge = s.hinge := rfl
@[simp] theorem State.modLrx_lex (l : Nat) (f : Lrx → Lrx) : (s.modLrx l f).lex = s.lex := rfl
@[simp] theorem State.modLrx_mem (l : Nat) (f : Lrx → Lrx) : (s.modLrx l f).mem = s.mem := rfl
@[simp] theorem State.modLrx_rep (l : Nat) (f : Lrx → Lrx) : (s.modLrx l f).rep = s.rep := rfl
@[simp] theorem State.modLrx_ocu (l : Nat) (f : Lrx → Lrx) : (s.modLrx l f).ocu = s.ocu := rfl
@[simp] theorem State.modLrx_cal (l : Nat) (f : Lrx → Lrx) : (s.modLrx l f).cal = s.cal := rfl
@[simp] theorem State.modLrx_thm (l : Nat) (f : Lrx → Lrx) : (s.modLrx l f).thm = s.thm := rfl
@[simp] theorem State.modLrx_tst (l : Nat) (f : Lrx → Lrx) : (s.modLrx l f).tst = s.tst := rfl
@[simp] theorem State.modLrx_pmc (l : Nat) (f : Lrx → Lrx) : (s.modLrx l f).pmc = s.pmc := rfl
@[simp] theorem State.modLrx_pwr (l : Nat) (f : Lrx → Lrx) : (s.modLrx l f).pwr = s.pwr := rfl
@[simp] theorem State.modLrx_fw (l : Nat) (f : Lrx → Lrx) : (s.modLrx l f).fw = s.fw := rfl
@[simp] theorem State.modLrx_cap (l : Nat) (f : Lrx → Lrx) : (s.modLrx l f).cap = s.cap := rfl

@[simp] theorem State.modSea_pending (l : Nat) (f : Sea → Sea) : (s.modSea l f).pending = s.pending := rfl
@[simp] theorem State.modSea_free (l : Nat) (f : Sea → Sea) : (s.modSea l f).free = s.free := rfl
@[simp] theorem State.modSea_fuses (l : Nat) (f : Sea → Sea) : (s.modSea l f).fuses = s.fuses := rfl
@[simp] theorem State.modSea_dev (l : Nat) (f : Sea → Sea) : (s.modSea l f).dev = s.dev := rfl
@[simp] theorem State.modSea_shut (l : Nat) (f : Sea → Sea) : (s.modSea l f).shut = s.shut := rfl
@[simp] theorem State.modSea_mb (l : Nat) (f : Sea → Sea) : (s.modSea l f).mb = s.mb := rfl
@[simp] theorem State.modSea_ev (l : Nat) (f : Sea → Sea) : (s.modSea l f).ev = s.ev := rfl
@[simp] theorem State.modSea_icu (l : Nat) (f : Sea → Sea) : (s.modSea l f).icu = s.icu := rfl
@[simp] theorem State.modSea_hif (l : Nat) (f : Sea → Sea) : (s.modSea l f).hif = s.hif := rfl
@[simp] theorem State.modSea_err (l : Nat) (f : Sea → Sea) : (s.modSea l f).err = s.err := rfl
@[simp] theorem State.modSea_tku (l : Nat) (f : Sea → Sea) : (s.modSea l f).tku = s.tku := rfl
@[simp] theorem State.modSea_params (l : Nat) (f : Sea → Sea) : (s.modSea l f).params = s.params := rfl
@[simp] theorem State.modSea_stats (l : Nat) (f : Sea → Sea) : (s.modSea l f).stats = s.stats := rfl
@[simp] theorem State.modSea_host (l : Nat) (f : Sea → Sea) : (s.modSea l f).host = s.host := rfl
@[simp] theorem State.modSea_group (l : Nat) (f : Sea → Sea) : (s.modSea l f).group = s.group := rfl
@[simp] theorem State.modSea_port (l : Nat) (f : Sea → Sea) : (s.modSea l f).port = s.port := rfl
@[simp] theorem State.modSea_block (l : Nat) (f : Sea → Sea) : (s.modSea l f).block = s.block := rfl
@[simp] theorem State.modSea_eng (l : Nat) (f : Sea → Sea) : (s.modSea l f).eng = s.eng := rfl
@[simp] theorem State.modSea_hinge (l : Nat) (f : Sea → Sea) : (s.modSea l f).hinge = s.hinge := rfl
@[simp] theorem State.modSea_lex (l : Nat) (f : Sea → Sea) : (s.modSea l f).lex = s.lex := rfl
@[simp] theorem State.modSea_mem (l : Nat) (f : Sea → Sea) : (s.modSea l f).mem = s.mem := rfl
@[simp] theorem State.modSea_rep (l : Nat) (f : Sea → Sea) : (s.modSea l f).rep = s.rep := rfl
@[simp] theorem State.modSea_ocu (l : Nat) (f : Sea → Sea) : (s.modSea l f).ocu = s.ocu := rfl
@[simp] theorem State.modSea_cal (l : Nat) (f : Sea → Sea) : (s.modSea l f).cal = s.cal := rfl
@[simp] theorem State.modSea_thm (l : Nat) (f : Sea → Sea) : (s.modSea l f).thm = s.thm := rfl
@[simp] theorem State.modSea_tst (l : Nat) (f : Sea → Sea) : (s.modSea l f).tst = s.tst := rfl
@[simp] theorem State.modSea_pmc (l : Nat) (f : Sea → Sea) : (s.modSea l f).pmc = s.pmc := rfl
@[simp] theorem State.modSea_pwr (l : Nat) (f : Sea → Sea) : (s.modSea l f).pwr = s.pwr := rfl
@[simp] theorem State.modSea_fw (l : Nat) (f : Sea → Sea) : (s.modSea l f).fw = s.fw := rfl
@[simp] theorem State.modSea_cap (l : Nat) (f : Sea → Sea) : (s.modSea l f).cap = s.cap := rfl

@[simp] theorem State.modSdf_pending (l : Nat) (f : Sdf → Sdf) : (s.modSdf l f).pending = s.pending := rfl
@[simp] theorem State.modSdf_free (l : Nat) (f : Sdf → Sdf) : (s.modSdf l f).free = s.free := rfl
@[simp] theorem State.modSdf_fuses (l : Nat) (f : Sdf → Sdf) : (s.modSdf l f).fuses = s.fuses := rfl
@[simp] theorem State.modSdf_dev (l : Nat) (f : Sdf → Sdf) : (s.modSdf l f).dev = s.dev := rfl
@[simp] theorem State.modSdf_shut (l : Nat) (f : Sdf → Sdf) : (s.modSdf l f).shut = s.shut := rfl
@[simp] theorem State.modSdf_mb (l : Nat) (f : Sdf → Sdf) : (s.modSdf l f).mb = s.mb := rfl
@[simp] theorem State.modSdf_ev (l : Nat) (f : Sdf → Sdf) : (s.modSdf l f).ev = s.ev := rfl
@[simp] theorem State.modSdf_icu (l : Nat) (f : Sdf → Sdf) : (s.modSdf l f).icu = s.icu := rfl
@[simp] theorem State.modSdf_hif (l : Nat) (f : Sdf → Sdf) : (s.modSdf l f).hif = s.hif := rfl
@[simp] theorem State.modSdf_err (l : Nat) (f : Sdf → Sdf) : (s.modSdf l f).err = s.err := rfl
@[simp] theorem State.modSdf_tku (l : Nat) (f : Sdf → Sdf) : (s.modSdf l f).tku = s.tku := rfl
@[simp] theorem State.modSdf_params (l : Nat) (f : Sdf → Sdf) : (s.modSdf l f).params = s.params := rfl
@[simp] theorem State.modSdf_stats (l : Nat) (f : Sdf → Sdf) : (s.modSdf l f).stats = s.stats := rfl
@[simp] theorem State.modSdf_host (l : Nat) (f : Sdf → Sdf) : (s.modSdf l f).host = s.host := rfl
@[simp] theorem State.modSdf_group (l : Nat) (f : Sdf → Sdf) : (s.modSdf l f).group = s.group := rfl
@[simp] theorem State.modSdf_port (l : Nat) (f : Sdf → Sdf) : (s.modSdf l f).port = s.port := rfl
@[simp] theorem State.modSdf_block (l : Nat) (f : Sdf → Sdf) : (s.modSdf l f).block = s.block := rfl
@[simp] theorem State.modSdf_eng (l : Nat) (f : Sdf → Sdf) : (s.modSdf l f).eng = s.eng := rfl
@[simp] theorem State.modSdf_hinge (l : Nat) (f : Sdf → Sdf) : (s.modSdf l f).hinge = s.hinge := rfl
@[simp] theorem State.modSdf_lex (l : Nat) (f : Sdf → Sdf) : (s.modSdf l f).lex = s.lex := rfl
@[simp] theorem State.modSdf_mem (l : Nat) (f : Sdf → Sdf) : (s.modSdf l f).mem = s.mem := rfl
@[simp] theorem State.modSdf_rep (l : Nat) (f : Sdf → Sdf) : (s.modSdf l f).rep = s.rep := rfl
@[simp] theorem State.modSdf_ocu (l : Nat) (f : Sdf → Sdf) : (s.modSdf l f).ocu = s.ocu := rfl
@[simp] theorem State.modSdf_cal (l : Nat) (f : Sdf → Sdf) : (s.modSdf l f).cal = s.cal := rfl
@[simp] theorem State.modSdf_thm (l : Nat) (f : Sdf → Sdf) : (s.modSdf l f).thm = s.thm := rfl
@[simp] theorem State.modSdf_tst (l : Nat) (f : Sdf → Sdf) : (s.modSdf l f).tst = s.tst := rfl
@[simp] theorem State.modSdf_pmc (l : Nat) (f : Sdf → Sdf) : (s.modSdf l f).pmc = s.pmc := rfl
@[simp] theorem State.modSdf_pwr (l : Nat) (f : Sdf → Sdf) : (s.modSdf l f).pwr = s.pwr := rfl
@[simp] theorem State.modSdf_fw (l : Nat) (f : Sdf → Sdf) : (s.modSdf l f).fw = s.fw := rfl
@[simp] theorem State.modSdf_cap (l : Nat) (f : Sdf → Sdf) : (s.modSdf l f).cap = s.cap := rfl

@[simp] theorem State.modLtx_pending (l : Nat) (f : Ltx → Ltx) : (s.modLtx l f).pending = s.pending := rfl
@[simp] theorem State.modLtx_free (l : Nat) (f : Ltx → Ltx) : (s.modLtx l f).free = s.free := rfl
@[simp] theorem State.modLtx_fuses (l : Nat) (f : Ltx → Ltx) : (s.modLtx l f).fuses = s.fuses := rfl
@[simp] theorem State.modLtx_dev (l : Nat) (f : Ltx → Ltx) : (s.modLtx l f).dev = s.dev := rfl
@[simp] theorem State.modLtx_shut (l : Nat) (f : Ltx → Ltx) : (s.modLtx l f).shut = s.shut := rfl
@[simp] theorem State.modLtx_mb (l : Nat) (f : Ltx → Ltx) : (s.modLtx l f).mb = s.mb := rfl
@[simp] theorem State.modLtx_ev (l : Nat) (f : Ltx → Ltx) : (s.modLtx l f).ev = s.ev := rfl
@[simp] theorem State.modLtx_icu (l : Nat) (f : Ltx → Ltx) : (s.modLtx l f).icu = s.icu := rfl
@[simp] theorem State.modLtx_hif (l : Nat) (f : Ltx → Ltx) : (s.modLtx l f).hif = s.hif := rfl
@[simp] theorem State.modLtx_err (l : Nat) (f : Ltx → Ltx) : (s.modLtx l f).err = s.err := rfl
@[simp] theorem State.modLtx_tku (l : Nat) (f : Ltx → Ltx) : (s.modLtx l f).tku = s.tku := rfl
@[simp] theorem State.modLtx_params (l : Nat) (f : Ltx → Ltx) : (s.modLtx l f).params = s.params := rfl
@[simp] theorem State.modLtx_stats (l : Nat) (f : Ltx → Ltx) : (s.modLtx l f).stats = s.stats := rfl
@[simp] theorem State.modLtx_host (l : Nat) (f : Ltx → Ltx) : (s.modLtx l f).host = s.host := rfl
@[simp] theorem State.modLtx_group (l : Nat) (f : Ltx → Ltx) : (s.modLtx l f).group = s.group := rfl
@[simp] theorem State.modLtx_port (l : Nat) (f : Ltx → Ltx) : (s.modLtx l f).port = s.port := rfl
@[simp] theorem State.modLtx_block (l : Nat) (f : Ltx → Ltx) : (s.modLtx l f).block = s.block := rfl
@[simp] theorem State.modLtx_eng (l : Nat) (f : Ltx → Ltx) : (s.modLtx l f).eng = s.eng := rfl
@[simp] theorem State.modLtx_hinge (l : Nat) (f : Ltx → Ltx) : (s.modLtx l f).hinge = s.hinge := rfl
@[simp] theorem State.modLtx_lex (l : Nat) (f : Ltx → Ltx) : (s.modLtx l f).lex = s.lex := rfl
@[simp] theorem State.modLtx_mem (l : Nat) (f : Ltx → Ltx) : (s.modLtx l f).mem = s.mem := rfl
@[simp] theorem State.modLtx_rep (l : Nat) (f : Ltx → Ltx) : (s.modLtx l f).rep = s.rep := rfl
@[simp] theorem State.modLtx_ocu (l : Nat) (f : Ltx → Ltx) : (s.modLtx l f).ocu = s.ocu := rfl
@[simp] theorem State.modLtx_cal (l : Nat) (f : Ltx → Ltx) : (s.modLtx l f).cal = s.cal := rfl
@[simp] theorem State.modLtx_thm (l : Nat) (f : Ltx → Ltx) : (s.modLtx l f).thm = s.thm := rfl
@[simp] theorem State.modLtx_tst (l : Nat) (f : Ltx → Ltx) : (s.modLtx l f).tst = s.tst := rfl
@[simp] theorem State.modLtx_pmc (l : Nat) (f : Ltx → Ltx) : (s.modLtx l f).pmc = s.pmc := rfl
@[simp] theorem State.modLtx_pwr (l : Nat) (f : Ltx → Ltx) : (s.modLtx l f).pwr = s.pwr := rfl
@[simp] theorem State.modLtx_fw (l : Nat) (f : Ltx → Ltx) : (s.modLtx l f).fw = s.fw := rfl
@[simp] theorem State.modLtx_cap (l : Nat) (f : Ltx → Ltx) : (s.modLtx l f).cap = s.cap := rfl

@[simp] theorem State.modPlt_pending (l : Nat) (f : Plt → Plt) : (s.modPlt l f).pending = s.pending := rfl
@[simp] theorem State.modPlt_free (l : Nat) (f : Plt → Plt) : (s.modPlt l f).free = s.free := rfl
@[simp] theorem State.modPlt_fuses (l : Nat) (f : Plt → Plt) : (s.modPlt l f).fuses = s.fuses := rfl
@[simp] theorem State.modPlt_dev (l : Nat) (f : Plt → Plt) : (s.modPlt l f).dev = s.dev := rfl
@[simp] theorem State.modPlt_shut (l : Nat) (f : Plt → Plt) : (s.modPlt l f).shut = s.shut := rfl
@[simp] theorem State.modPlt_mb (l : Nat) (f : Plt → Plt) : (s.modPlt l f).mb = s.mb := rfl
@[simp] theorem State.modPlt_ev (l : Nat) (f : Plt → Plt) : (s.modPlt l f).ev = s.ev := rfl
@[simp] theorem State.modPlt_icu (l : Nat) (f : Plt → Plt) : (s.modPlt l f).icu = s.icu := rfl
@[simp] theorem State.modPlt_hif (l : Nat) (f : Plt → Plt) : (s.modPlt l f).hif = s.hif := rfl
@[simp] theorem State.modPlt_err (l : Nat) (f : Plt → Plt) : (s.modPlt l f).err = s.err := rfl
@[simp] theorem State.modPlt_tku (l : Nat) (f : Plt → Plt) : (s.modPlt l f).tku = s.tku := rfl
@[simp] theorem State.modPlt_params (l : Nat) (f : Plt → Plt) : (s.modPlt l f).params = s.params := rfl
@[simp] theorem State.modPlt_stats (l : Nat) (f : Plt → Plt) : (s.modPlt l f).stats = s.stats := rfl
@[simp] theorem State.modPlt_host (l : Nat) (f : Plt → Plt) : (s.modPlt l f).host = s.host := rfl
@[simp] theorem State.modPlt_group (l : Nat) (f : Plt → Plt) : (s.modPlt l f).group = s.group := rfl
@[simp] theorem State.modPlt_port (l : Nat) (f : Plt → Plt) : (s.modPlt l f).port = s.port := rfl
@[simp] theorem State.modPlt_block (l : Nat) (f : Plt → Plt) : (s.modPlt l f).block = s.block := rfl
@[simp] theorem State.modPlt_eng (l : Nat) (f : Plt → Plt) : (s.modPlt l f).eng = s.eng := rfl
@[simp] theorem State.modPlt_hinge (l : Nat) (f : Plt → Plt) : (s.modPlt l f).hinge = s.hinge := rfl
@[simp] theorem State.modPlt_lex (l : Nat) (f : Plt → Plt) : (s.modPlt l f).lex = s.lex := rfl
@[simp] theorem State.modPlt_mem (l : Nat) (f : Plt → Plt) : (s.modPlt l f).mem = s.mem := rfl
@[simp] theorem State.modPlt_rep (l : Nat) (f : Plt → Plt) : (s.modPlt l f).rep = s.rep := rfl
@[simp] theorem State.modPlt_ocu (l : Nat) (f : Plt → Plt) : (s.modPlt l f).ocu = s.ocu := rfl
@[simp] theorem State.modPlt_cal (l : Nat) (f : Plt → Plt) : (s.modPlt l f).cal = s.cal := rfl
@[simp] theorem State.modPlt_thm (l : Nat) (f : Plt → Plt) : (s.modPlt l f).thm = s.thm := rfl
@[simp] theorem State.modPlt_tst (l : Nat) (f : Plt → Plt) : (s.modPlt l f).tst = s.tst := rfl
@[simp] theorem State.modPlt_pmc (l : Nat) (f : Plt → Plt) : (s.modPlt l f).pmc = s.pmc := rfl
@[simp] theorem State.modPlt_pwr (l : Nat) (f : Plt → Plt) : (s.modPlt l f).pwr = s.pwr := rfl
@[simp] theorem State.modPlt_fw (l : Nat) (f : Plt → Plt) : (s.modPlt l f).fw = s.fw := rfl
@[simp] theorem State.modPlt_cap (l : Nat) (f : Plt → Plt) : (s.modPlt l f).cap = s.cap := rfl

@[simp] theorem State.modHost_pending (h : Nat) (f : HostLane → HostLane) : (s.modHost h f).pending = s.pending := rfl
@[simp] theorem State.modHost_free (h : Nat) (f : HostLane → HostLane) : (s.modHost h f).free = s.free := rfl
@[simp] theorem State.modHost_fuses (h : Nat) (f : HostLane → HostLane) : (s.modHost h f).fuses = s.fuses := rfl
@[simp] theorem State.modHost_dev (h : Nat) (f : HostLane → HostLane) : (s.modHost h f).dev = s.dev := rfl
@[simp] theorem State.modHost_shut (h : Nat) (f : HostLane → HostLane) : (s.modHost h f).shut = s.shut := rfl
@[simp] theorem State.modHost_mb (h : Nat) (f : HostLane → HostLane) : (s.modHost h f).mb = s.mb := rfl
@[simp] theorem State.modHost_ev (h : Nat) (f : HostLane → HostLane) : (s.modHost h f).ev = s.ev := rfl
@[simp] theorem State.modHost_icu (h : Nat) (f : HostLane → HostLane) : (s.modHost h f).icu = s.icu := rfl
@[simp] theorem State.modHost_hif (h : Nat) (f : HostLane → HostLane) : (s.modHost h f).hif = s.hif := rfl
@[simp] theorem State.modHost_err (h : Nat) (f : HostLane → HostLane) : (s.modHost h f).err = s.err := rfl
@[simp] theorem State.modHost_tku (h : Nat) (f : HostLane → HostLane) : (s.modHost h f).tku = s.tku := rfl
@[simp] theorem State.modHost_params (h : Nat) (f : HostLane → HostLane) : (s.modHost h f).params = s.params := rfl
@[simp] theorem State.modHost_stats (h : Nat) (f : HostLane → HostLane) : (s.modHost h f).stats = s.stats := rfl
@[simp] theorem State.modHost_line (h : Nat) (f : HostLane → HostLane) : (s.modHost h f).line = s.line := rfl
@[simp] theorem State.modHost_group (h : Nat) (f : HostLane → HostLane) : (s.modHost h f).group = s.group := rfl
@[simp] theorem State.modHost_port (h : Nat) (f : HostLane → HostLane) : (s.modHost h f).port = s.port := rfl
@[simp] theorem State.modHost_block (h : Nat) (f : HostLane → HostLane) : (s.modHost h f).block = s.block := rfl
@[simp] theorem State.modHost_eng (h : Nat) (f : HostLane → HostLane) : (s.modHost h f).eng = s.eng := rfl
@[simp] theorem State.modHost_hinge (h : Nat) (f : HostLane → HostLane) : (s.modHost h f).hinge = s.hinge := rfl
@[simp] theorem State.modHost_lex (h : Nat) (f : HostLane → HostLane) : (s.modHost h f).lex = s.lex := rfl
@[simp] theorem State.modHost_mem (h : Nat) (f : HostLane → HostLane) : (s.modHost h f).mem = s.mem := rfl
@[simp] theorem State.modHost_rep (h : Nat) (f : HostLane → HostLane) : (s.modHost h f).rep = s.rep := rfl
@[simp] theorem State.modHost_ocu (h : Nat) (f : HostLane → HostLane) : (s.modHost h f).ocu = s.ocu := rfl
@[simp] theorem State.modHost_cal (h : Nat) (f : HostLane → HostLane) : (s.modHost h f).cal = s.cal := rfl
@[simp] theorem State.modHost_thm (h : Nat) (f : HostLane → HostLane) : (s.modHost h f).thm = s.thm := rfl
@[simp] theorem State.modHost_tst (h : Nat) (f : HostLane → HostLane) : (s.modHost h f).tst = s.tst := rfl
@[simp] theorem State.modHost_pmc (h : Nat) (f : HostLane → HostLane) : (s.modHost h f).pmc = s.pmc := rfl
@[simp] theorem State.modHost_pwr (h : Nat) (f : HostLane → HostLane) : (s.modHost h f).pwr = s.pwr := rfl
@[simp] theorem State.modHost_fw (h : Nat) (f : HostLane → HostLane) : (s.modHost h f).fw = s.fw := rfl
@[simp] theorem State.modHost_cap (h : Nat) (f : HostLane → HostLane) : (s.modHost h f).cap = s.cap := rfl

@[simp] theorem State.modSlice_pending (l n : Nat) (f : Slice → Slice) : (s.modSlice l n f).pending = s.pending := rfl
@[simp] theorem State.modSlice_free (l n : Nat) (f : Slice → Slice) : (s.modSlice l n f).free = s.free := rfl
@[simp] theorem State.modSlice_fuses (l n : Nat) (f : Slice → Slice) : (s.modSlice l n f).fuses = s.fuses := rfl
@[simp] theorem State.modSlice_dev (l n : Nat) (f : Slice → Slice) : (s.modSlice l n f).dev = s.dev := rfl
@[simp] theorem State.modSlice_shut (l n : Nat) (f : Slice → Slice) : (s.modSlice l n f).shut = s.shut := rfl
@[simp] theorem State.modSlice_mb (l n : Nat) (f : Slice → Slice) : (s.modSlice l n f).mb = s.mb := rfl
@[simp] theorem State.modSlice_ev (l n : Nat) (f : Slice → Slice) : (s.modSlice l n f).ev = s.ev := rfl
@[simp] theorem State.modSlice_icu (l n : Nat) (f : Slice → Slice) : (s.modSlice l n f).icu = s.icu := rfl
@[simp] theorem State.modSlice_hif (l n : Nat) (f : Slice → Slice) : (s.modSlice l n f).hif = s.hif := rfl
@[simp] theorem State.modSlice_err (l n : Nat) (f : Slice → Slice) : (s.modSlice l n f).err = s.err := rfl
@[simp] theorem State.modSlice_tku (l n : Nat) (f : Slice → Slice) : (s.modSlice l n f).tku = s.tku := rfl
@[simp] theorem State.modSlice_params (l n : Nat) (f : Slice → Slice) : (s.modSlice l n f).params = s.params := rfl
@[simp] theorem State.modSlice_stats (l n : Nat) (f : Slice → Slice) : (s.modSlice l n f).stats = s.stats := rfl
@[simp] theorem State.modSlice_host (l n : Nat) (f : Slice → Slice) : (s.modSlice l n f).host = s.host := rfl
@[simp] theorem State.modSlice_group (l n : Nat) (f : Slice → Slice) : (s.modSlice l n f).group = s.group := rfl
@[simp] theorem State.modSlice_port (l n : Nat) (f : Slice → Slice) : (s.modSlice l n f).port = s.port := rfl
@[simp] theorem State.modSlice_block (l n : Nat) (f : Slice → Slice) : (s.modSlice l n f).block = s.block := rfl
@[simp] theorem State.modSlice_eng (l n : Nat) (f : Slice → Slice) : (s.modSlice l n f).eng = s.eng := rfl
@[simp] theorem State.modSlice_hinge (l n : Nat) (f : Slice → Slice) : (s.modSlice l n f).hinge = s.hinge := rfl
@[simp] theorem State.modSlice_lex (l n : Nat) (f : Slice → Slice) : (s.modSlice l n f).lex = s.lex := rfl
@[simp] theorem State.modSlice_mem (l n : Nat) (f : Slice → Slice) : (s.modSlice l n f).mem = s.mem := rfl
@[simp] theorem State.modSlice_rep (l n : Nat) (f : Slice → Slice) : (s.modSlice l n f).rep = s.rep := rfl
@[simp] theorem State.modSlice_ocu (l n : Nat) (f : Slice → Slice) : (s.modSlice l n f).ocu = s.ocu := rfl
@[simp] theorem State.modSlice_cal (l n : Nat) (f : Slice → Slice) : (s.modSlice l n f).cal = s.cal := rfl
@[simp] theorem State.modSlice_thm (l n : Nat) (f : Slice → Slice) : (s.modSlice l n f).thm = s.thm := rfl
@[simp] theorem State.modSlice_tst (l n : Nat) (f : Slice → Slice) : (s.modSlice l n f).tst = s.tst := rfl
@[simp] theorem State.modSlice_pmc (l n : Nat) (f : Slice → Slice) : (s.modSlice l n f).pmc = s.pmc := rfl
@[simp] theorem State.modSlice_pwr (l n : Nat) (f : Slice → Slice) : (s.modSlice l n f).pwr = s.pwr := rfl
@[simp] theorem State.modSlice_fw (l n : Nat) (f : Slice → Slice) : (s.modSlice l n f).fw = s.fw := rfl
@[simp] theorem State.modSlice_cap (l n : Nat) (f : Slice → Slice) : (s.modSlice l n f).cap = s.cap := rfl

@[simp] theorem State.modCell_pending (l n : Nat) (f : Cell → Cell) : (s.modCell l n f).pending = s.pending := rfl
@[simp] theorem State.modCell_free (l n : Nat) (f : Cell → Cell) : (s.modCell l n f).free = s.free := rfl
@[simp] theorem State.modCell_fuses (l n : Nat) (f : Cell → Cell) : (s.modCell l n f).fuses = s.fuses := rfl
@[simp] theorem State.modCell_dev (l n : Nat) (f : Cell → Cell) : (s.modCell l n f).dev = s.dev := rfl
@[simp] theorem State.modCell_shut (l n : Nat) (f : Cell → Cell) : (s.modCell l n f).shut = s.shut := rfl
@[simp] theorem State.modCell_mb (l n : Nat) (f : Cell → Cell) : (s.modCell l n f).mb = s.mb := rfl
@[simp] theorem State.modCell_ev (l n : Nat) (f : Cell → Cell) : (s.modCell l n f).ev = s.ev := rfl
@[simp] theorem State.modCell_icu (l n : Nat) (f : Cell → Cell) : (s.modCell l n f).icu = s.icu := rfl
@[simp] theorem State.modCell_hif (l n : Nat) (f : Cell → Cell) : (s.modCell l n f).hif = s.hif := rfl
@[simp] theorem State.modCell_err (l n : Nat) (f : Cell → Cell) : (s.modCell l n f).err = s.err := rfl
@[simp] theorem State.modCell_tku (l n : Nat) (f : Cell → Cell) : (s.modCell l n f).tku = s.tku := rfl
@[simp] theorem State.modCell_params (l n : Nat) (f : Cell → Cell) : (s.modCell l n f).params = s.params := rfl
@[simp] theorem State.modCell_stats (l n : Nat) (f : Cell → Cell) : (s.modCell l n f).stats = s.stats := rfl
@[simp] theorem State.modCell_host (l n : Nat) (f : Cell → Cell) : (s.modCell l n f).host = s.host := rfl
@[simp] theorem State.modCell_group (l n : Nat) (f : Cell → Cell) : (s.modCell l n f).group = s.group := rfl
@[simp] theorem State.modCell_port (l n : Nat) (f : Cell → Cell) : (s.modCell l n f).port = s.port := rfl
@[simp] theorem State.modCell_block (l n : Nat) (f : Cell → Cell) : (s.modCell l n f).block = s.block := rfl
@[simp] theorem State.modCell_eng (l n : Nat) (f : Cell → Cell) : (s.modCell l n f).eng = s.eng := rfl
@[simp] theorem State.modCell_hinge (l n : Nat) (f : Cell → Cell) : (s.modCell l n f).hinge = s.hinge := rfl
@[simp] theorem State.modCell_lex (l n : Nat) (f : Cell → Cell) : (s.modCell l n f).lex = s.lex := rfl
@[simp] theorem State.modCell_mem (l n : Nat) (f : Cell → Cell) : (s.modCell l n f).mem = s.mem := rfl
@[simp] theorem State.modCell_rep (l n : Nat) (f : Cell → Cell) : (s.modCell l n f).rep = s.rep := rfl
@[simp] theorem State.modCell_ocu (l n : Nat) (f : Cell → Cell) : (s.modCell l n f).ocu = s.ocu := rfl
@[simp] theorem State.modCell_cal (l n : Nat) (f : Cell → Cell) : (s.modCell l n f).cal = s.cal := rfl
@[simp] theorem State.modCell_thm (l n : Nat) (f : Cell → Cell) : (s.modCell l n f).thm = s.thm := rfl
@[simp] theorem State.modCell_tst (l n : Nat) (f : Cell → Cell) : (s.modCell l n f).tst = s.tst := rfl
@[simp] theorem State.modCell_pmc (l n : Nat) (f : Cell → Cell) : (s.modCell l n f).pmc = s.pmc := rfl
@[simp] theorem State.modCell_pwr (l n : Nat) (f : Cell → Cell) : (s.modCell l n f).pwr = s.pwr := rfl
@[simp] theorem State.modCell_fw (l n : Nat) (f : Cell → Cell) : (s.modCell l n f).fw = s.fw := rfl
@[simp] theorem State.modCell_cap (l n : Nat) (f : Cell → Cell) : (s.modCell l n f).cap = s.cap := rfl

@[simp] theorem State.modSnap_pending (r : Requester) (f : Snap → Snap) : (s.modSnap r f).pending = s.pending := rfl
@[simp] theorem State.modSnap_free (r : Requester) (f : Snap → Snap) : (s.modSnap r f).free = s.free := rfl
@[simp] theorem State.modSnap_fuses (r : Requester) (f : Snap → Snap) : (s.modSnap r f).fuses = s.fuses := rfl
@[simp] theorem State.modSnap_dev (r : Requester) (f : Snap → Snap) : (s.modSnap r f).dev = s.dev := rfl
@[simp] theorem State.modSnap_shut (r : Requester) (f : Snap → Snap) : (s.modSnap r f).shut = s.shut := rfl
@[simp] theorem State.modSnap_mb (r : Requester) (f : Snap → Snap) : (s.modSnap r f).mb = s.mb := rfl
@[simp] theorem State.modSnap_ev (r : Requester) (f : Snap → Snap) : (s.modSnap r f).ev = s.ev := rfl
@[simp] theorem State.modSnap_icu (r : Requester) (f : Snap → Snap) : (s.modSnap r f).icu = s.icu := rfl
@[simp] theorem State.modSnap_err (r : Requester) (f : Snap → Snap) : (s.modSnap r f).err = s.err := rfl
@[simp] theorem State.modSnap_tku (r : Requester) (f : Snap → Snap) : (s.modSnap r f).tku = s.tku := rfl
@[simp] theorem State.modSnap_params (r : Requester) (f : Snap → Snap) : (s.modSnap r f).params = s.params := rfl
@[simp] theorem State.modSnap_stats (r : Requester) (f : Snap → Snap) : (s.modSnap r f).stats = s.stats := rfl
@[simp] theorem State.modSnap_line (r : Requester) (f : Snap → Snap) : (s.modSnap r f).line = s.line := rfl
@[simp] theorem State.modSnap_host (r : Requester) (f : Snap → Snap) : (s.modSnap r f).host = s.host := rfl
@[simp] theorem State.modSnap_group (r : Requester) (f : Snap → Snap) : (s.modSnap r f).group = s.group := rfl
@[simp] theorem State.modSnap_port (r : Requester) (f : Snap → Snap) : (s.modSnap r f).port = s.port := rfl
@[simp] theorem State.modSnap_block (r : Requester) (f : Snap → Snap) : (s.modSnap r f).block = s.block := rfl
@[simp] theorem State.modSnap_eng (r : Requester) (f : Snap → Snap) : (s.modSnap r f).eng = s.eng := rfl
@[simp] theorem State.modSnap_hinge (r : Requester) (f : Snap → Snap) : (s.modSnap r f).hinge = s.hinge := rfl
@[simp] theorem State.modSnap_lex (r : Requester) (f : Snap → Snap) : (s.modSnap r f).lex = s.lex := rfl
@[simp] theorem State.modSnap_mem (r : Requester) (f : Snap → Snap) : (s.modSnap r f).mem = s.mem := rfl
@[simp] theorem State.modSnap_rep (r : Requester) (f : Snap → Snap) : (s.modSnap r f).rep = s.rep := rfl
@[simp] theorem State.modSnap_ocu (r : Requester) (f : Snap → Snap) : (s.modSnap r f).ocu = s.ocu := rfl
@[simp] theorem State.modSnap_cal (r : Requester) (f : Snap → Snap) : (s.modSnap r f).cal = s.cal := rfl
@[simp] theorem State.modSnap_thm (r : Requester) (f : Snap → Snap) : (s.modSnap r f).thm = s.thm := rfl
@[simp] theorem State.modSnap_tst (r : Requester) (f : Snap → Snap) : (s.modSnap r f).tst = s.tst := rfl
@[simp] theorem State.modSnap_pmc (r : Requester) (f : Snap → Snap) : (s.modSnap r f).pmc = s.pmc := rfl
@[simp] theorem State.modSnap_pwr (r : Requester) (f : Snap → Snap) : (s.modSnap r f).pwr = s.pwr := rfl
@[simp] theorem State.modSnap_fw (r : Requester) (f : Snap → Snap) : (s.modSnap r f).fw = s.fw := rfl
@[simp] theorem State.modSnap_cap (r : Requester) (f : Snap → Snap) : (s.modSnap r f).cap = s.cap := rfl

@[simp] theorem State.modIcu_pending (r : Requester) (f : Icu → Icu) : (s.modIcu r f).pending = s.pending := rfl
@[simp] theorem State.modIcu_free (r : Requester) (f : Icu → Icu) : (s.modIcu r f).free = s.free := rfl
@[simp] theorem State.modIcu_fuses (r : Requester) (f : Icu → Icu) : (s.modIcu r f).fuses = s.fuses := rfl
@[simp] theorem State.modIcu_dev (r : Requester) (f : Icu → Icu) : (s.modIcu r f).dev = s.dev := rfl
@[simp] theorem State.modIcu_shut (r : Requester) (f : Icu → Icu) : (s.modIcu r f).shut = s.shut := rfl
@[simp] theorem State.modIcu_mb (r : Requester) (f : Icu → Icu) : (s.modIcu r f).mb = s.mb := rfl
@[simp] theorem State.modIcu_ev (r : Requester) (f : Icu → Icu) : (s.modIcu r f).ev = s.ev := rfl
@[simp] theorem State.modIcu_hif (r : Requester) (f : Icu → Icu) : (s.modIcu r f).hif = s.hif := rfl
@[simp] theorem State.modIcu_err (r : Requester) (f : Icu → Icu) : (s.modIcu r f).err = s.err := rfl
@[simp] theorem State.modIcu_tku (r : Requester) (f : Icu → Icu) : (s.modIcu r f).tku = s.tku := rfl
@[simp] theorem State.modIcu_params (r : Requester) (f : Icu → Icu) : (s.modIcu r f).params = s.params := rfl
@[simp] theorem State.modIcu_stats (r : Requester) (f : Icu → Icu) : (s.modIcu r f).stats = s.stats := rfl
@[simp] theorem State.modIcu_line (r : Requester) (f : Icu → Icu) : (s.modIcu r f).line = s.line := rfl
@[simp] theorem State.modIcu_host (r : Requester) (f : Icu → Icu) : (s.modIcu r f).host = s.host := rfl
@[simp] theorem State.modIcu_group (r : Requester) (f : Icu → Icu) : (s.modIcu r f).group = s.group := rfl
@[simp] theorem State.modIcu_port (r : Requester) (f : Icu → Icu) : (s.modIcu r f).port = s.port := rfl
@[simp] theorem State.modIcu_block (r : Requester) (f : Icu → Icu) : (s.modIcu r f).block = s.block := rfl
@[simp] theorem State.modIcu_eng (r : Requester) (f : Icu → Icu) : (s.modIcu r f).eng = s.eng := rfl
@[simp] theorem State.modIcu_hinge (r : Requester) (f : Icu → Icu) : (s.modIcu r f).hinge = s.hinge := rfl
@[simp] theorem State.modIcu_lex (r : Requester) (f : Icu → Icu) : (s.modIcu r f).lex = s.lex := rfl
@[simp] theorem State.modIcu_mem (r : Requester) (f : Icu → Icu) : (s.modIcu r f).mem = s.mem := rfl
@[simp] theorem State.modIcu_rep (r : Requester) (f : Icu → Icu) : (s.modIcu r f).rep = s.rep := rfl
@[simp] theorem State.modIcu_ocu (r : Requester) (f : Icu → Icu) : (s.modIcu r f).ocu = s.ocu := rfl
@[simp] theorem State.modIcu_cal (r : Requester) (f : Icu → Icu) : (s.modIcu r f).cal = s.cal := rfl
@[simp] theorem State.modIcu_thm (r : Requester) (f : Icu → Icu) : (s.modIcu r f).thm = s.thm := rfl
@[simp] theorem State.modIcu_tst (r : Requester) (f : Icu → Icu) : (s.modIcu r f).tst = s.tst := rfl
@[simp] theorem State.modIcu_pmc (r : Requester) (f : Icu → Icu) : (s.modIcu r f).pmc = s.pmc := rfl
@[simp] theorem State.modIcu_pwr (r : Requester) (f : Icu → Icu) : (s.modIcu r f).pwr = s.pwr := rfl
@[simp] theorem State.modIcu_fw (r : Requester) (f : Icu → Icu) : (s.modIcu r f).fw = s.fw := rfl
@[simp] theorem State.modIcu_cap (r : Requester) (f : Icu → Icu) : (s.modIcu r f).cap = s.cap := rfl

@[simp] theorem State.modQueue_pending (r : Requester) (f : EvQueue → EvQueue) : (s.modQueue r f).pending = s.pending := rfl
@[simp] theorem State.modQueue_free (r : Requester) (f : EvQueue → EvQueue) : (s.modQueue r f).free = s.free := rfl
@[simp] theorem State.modQueue_fuses (r : Requester) (f : EvQueue → EvQueue) : (s.modQueue r f).fuses = s.fuses := rfl
@[simp] theorem State.modQueue_dev (r : Requester) (f : EvQueue → EvQueue) : (s.modQueue r f).dev = s.dev := rfl
@[simp] theorem State.modQueue_shut (r : Requester) (f : EvQueue → EvQueue) : (s.modQueue r f).shut = s.shut := rfl
@[simp] theorem State.modQueue_mb (r : Requester) (f : EvQueue → EvQueue) : (s.modQueue r f).mb = s.mb := rfl
@[simp] theorem State.modQueue_icu (r : Requester) (f : EvQueue → EvQueue) : (s.modQueue r f).icu = s.icu := rfl
@[simp] theorem State.modQueue_hif (r : Requester) (f : EvQueue → EvQueue) : (s.modQueue r f).hif = s.hif := rfl
@[simp] theorem State.modQueue_err (r : Requester) (f : EvQueue → EvQueue) : (s.modQueue r f).err = s.err := rfl
@[simp] theorem State.modQueue_tku (r : Requester) (f : EvQueue → EvQueue) : (s.modQueue r f).tku = s.tku := rfl
@[simp] theorem State.modQueue_params (r : Requester) (f : EvQueue → EvQueue) : (s.modQueue r f).params = s.params := rfl
@[simp] theorem State.modQueue_stats (r : Requester) (f : EvQueue → EvQueue) : (s.modQueue r f).stats = s.stats := rfl
@[simp] theorem State.modQueue_line (r : Requester) (f : EvQueue → EvQueue) : (s.modQueue r f).line = s.line := rfl
@[simp] theorem State.modQueue_host (r : Requester) (f : EvQueue → EvQueue) : (s.modQueue r f).host = s.host := rfl
@[simp] theorem State.modQueue_group (r : Requester) (f : EvQueue → EvQueue) : (s.modQueue r f).group = s.group := rfl
@[simp] theorem State.modQueue_port (r : Requester) (f : EvQueue → EvQueue) : (s.modQueue r f).port = s.port := rfl
@[simp] theorem State.modQueue_block (r : Requester) (f : EvQueue → EvQueue) : (s.modQueue r f).block = s.block := rfl
@[simp] theorem State.modQueue_eng (r : Requester) (f : EvQueue → EvQueue) : (s.modQueue r f).eng = s.eng := rfl
@[simp] theorem State.modQueue_hinge (r : Requester) (f : EvQueue → EvQueue) : (s.modQueue r f).hinge = s.hinge := rfl
@[simp] theorem State.modQueue_lex (r : Requester) (f : EvQueue → EvQueue) : (s.modQueue r f).lex = s.lex := rfl
@[simp] theorem State.modQueue_mem (r : Requester) (f : EvQueue → EvQueue) : (s.modQueue r f).mem = s.mem := rfl
@[simp] theorem State.modQueue_rep (r : Requester) (f : EvQueue → EvQueue) : (s.modQueue r f).rep = s.rep := rfl
@[simp] theorem State.modQueue_ocu (r : Requester) (f : EvQueue → EvQueue) : (s.modQueue r f).ocu = s.ocu := rfl
@[simp] theorem State.modQueue_cal (r : Requester) (f : EvQueue → EvQueue) : (s.modQueue r f).cal = s.cal := rfl
@[simp] theorem State.modQueue_thm (r : Requester) (f : EvQueue → EvQueue) : (s.modQueue r f).thm = s.thm := rfl
@[simp] theorem State.modQueue_tst (r : Requester) (f : EvQueue → EvQueue) : (s.modQueue r f).tst = s.tst := rfl
@[simp] theorem State.modQueue_pmc (r : Requester) (f : EvQueue → EvQueue) : (s.modQueue r f).pmc = s.pmc := rfl
@[simp] theorem State.modQueue_pwr (r : Requester) (f : EvQueue → EvQueue) : (s.modQueue r f).pwr = s.pwr := rfl
@[simp] theorem State.modQueue_fw (r : Requester) (f : EvQueue → EvQueue) : (s.modQueue r f).fw = s.fw := rfl
@[simp] theorem State.modQueue_cap (r : Requester) (f : EvQueue → EvQueue) : (s.modQueue r f).cap = s.cap := rfl

@[simp] theorem State.modBox_pending (r : Requester) (n : Nat) (f : Box → Box) : (s.modBox r n f).pending = s.pending := rfl
@[simp] theorem State.modBox_free (r : Requester) (n : Nat) (f : Box → Box) : (s.modBox r n f).free = s.free := rfl
@[simp] theorem State.modBox_fuses (r : Requester) (n : Nat) (f : Box → Box) : (s.modBox r n f).fuses = s.fuses := rfl
@[simp] theorem State.modBox_dev (r : Requester) (n : Nat) (f : Box → Box) : (s.modBox r n f).dev = s.dev := rfl
@[simp] theorem State.modBox_shut (r : Requester) (n : Nat) (f : Box → Box) : (s.modBox r n f).shut = s.shut := rfl
@[simp] theorem State.modBox_ev (r : Requester) (n : Nat) (f : Box → Box) : (s.modBox r n f).ev = s.ev := rfl
@[simp] theorem State.modBox_icu (r : Requester) (n : Nat) (f : Box → Box) : (s.modBox r n f).icu = s.icu := rfl
@[simp] theorem State.modBox_hif (r : Requester) (n : Nat) (f : Box → Box) : (s.modBox r n f).hif = s.hif := rfl
@[simp] theorem State.modBox_err (r : Requester) (n : Nat) (f : Box → Box) : (s.modBox r n f).err = s.err := rfl
@[simp] theorem State.modBox_tku (r : Requester) (n : Nat) (f : Box → Box) : (s.modBox r n f).tku = s.tku := rfl
@[simp] theorem State.modBox_params (r : Requester) (n : Nat) (f : Box → Box) : (s.modBox r n f).params = s.params := rfl
@[simp] theorem State.modBox_stats (r : Requester) (n : Nat) (f : Box → Box) : (s.modBox r n f).stats = s.stats := rfl
@[simp] theorem State.modBox_line (r : Requester) (n : Nat) (f : Box → Box) : (s.modBox r n f).line = s.line := rfl
@[simp] theorem State.modBox_host (r : Requester) (n : Nat) (f : Box → Box) : (s.modBox r n f).host = s.host := rfl
@[simp] theorem State.modBox_group (r : Requester) (n : Nat) (f : Box → Box) : (s.modBox r n f).group = s.group := rfl
@[simp] theorem State.modBox_port (r : Requester) (n : Nat) (f : Box → Box) : (s.modBox r n f).port = s.port := rfl
@[simp] theorem State.modBox_block (r : Requester) (n : Nat) (f : Box → Box) : (s.modBox r n f).block = s.block := rfl
@[simp] theorem State.modBox_eng (r : Requester) (n : Nat) (f : Box → Box) : (s.modBox r n f).eng = s.eng := rfl
@[simp] theorem State.modBox_hinge (r : Requester) (n : Nat) (f : Box → Box) : (s.modBox r n f).hinge = s.hinge := rfl
@[simp] theorem State.modBox_lex (r : Requester) (n : Nat) (f : Box → Box) : (s.modBox r n f).lex = s.lex := rfl
@[simp] theorem State.modBox_mem (r : Requester) (n : Nat) (f : Box → Box) : (s.modBox r n f).mem = s.mem := rfl
@[simp] theorem State.modBox_rep (r : Requester) (n : Nat) (f : Box → Box) : (s.modBox r n f).rep = s.rep := rfl
@[simp] theorem State.modBox_ocu (r : Requester) (n : Nat) (f : Box → Box) : (s.modBox r n f).ocu = s.ocu := rfl
@[simp] theorem State.modBox_cal (r : Requester) (n : Nat) (f : Box → Box) : (s.modBox r n f).cal = s.cal := rfl
@[simp] theorem State.modBox_thm (r : Requester) (n : Nat) (f : Box → Box) : (s.modBox r n f).thm = s.thm := rfl
@[simp] theorem State.modBox_tst (r : Requester) (n : Nat) (f : Box → Box) : (s.modBox r n f).tst = s.tst := rfl
@[simp] theorem State.modBox_pmc (r : Requester) (n : Nat) (f : Box → Box) : (s.modBox r n f).pmc = s.pmc := rfl
@[simp] theorem State.modBox_pwr (r : Requester) (n : Nat) (f : Box → Box) : (s.modBox r n f).pwr = s.pwr := rfl
@[simp] theorem State.modBox_fw (r : Requester) (n : Nat) (f : Box → Box) : (s.modBox r n f).fw = s.fw := rfl
@[simp] theorem State.modBox_cap (r : Requester) (n : Nat) (f : Box → Box) : (s.modBox r n f).cap = s.cap := rfl

@[simp] theorem State.modSrc_pending (r : Requester) (n : Nat) (f : Src → Src) : (s.modSrc r n f).pending = s.pending := rfl
@[simp] theorem State.modSrc_free (r : Requester) (n : Nat) (f : Src → Src) : (s.modSrc r n f).free = s.free := rfl
@[simp] theorem State.modSrc_fuses (r : Requester) (n : Nat) (f : Src → Src) : (s.modSrc r n f).fuses = s.fuses := rfl
@[simp] theorem State.modSrc_dev (r : Requester) (n : Nat) (f : Src → Src) : (s.modSrc r n f).dev = s.dev := rfl
@[simp] theorem State.modSrc_shut (r : Requester) (n : Nat) (f : Src → Src) : (s.modSrc r n f).shut = s.shut := rfl
@[simp] theorem State.modSrc_mb (r : Requester) (n : Nat) (f : Src → Src) : (s.modSrc r n f).mb = s.mb := rfl
@[simp] theorem State.modSrc_ev (r : Requester) (n : Nat) (f : Src → Src) : (s.modSrc r n f).ev = s.ev := rfl
@[simp] theorem State.modSrc_hif (r : Requester) (n : Nat) (f : Src → Src) : (s.modSrc r n f).hif = s.hif := rfl
@[simp] theorem State.modSrc_err (r : Requester) (n : Nat) (f : Src → Src) : (s.modSrc r n f).err = s.err := rfl
@[simp] theorem State.modSrc_tku (r : Requester) (n : Nat) (f : Src → Src) : (s.modSrc r n f).tku = s.tku := rfl
@[simp] theorem State.modSrc_params (r : Requester) (n : Nat) (f : Src → Src) : (s.modSrc r n f).params = s.params := rfl
@[simp] theorem State.modSrc_stats (r : Requester) (n : Nat) (f : Src → Src) : (s.modSrc r n f).stats = s.stats := rfl
@[simp] theorem State.modSrc_line (r : Requester) (n : Nat) (f : Src → Src) : (s.modSrc r n f).line = s.line := rfl
@[simp] theorem State.modSrc_host (r : Requester) (n : Nat) (f : Src → Src) : (s.modSrc r n f).host = s.host := rfl
@[simp] theorem State.modSrc_group (r : Requester) (n : Nat) (f : Src → Src) : (s.modSrc r n f).group = s.group := rfl
@[simp] theorem State.modSrc_port (r : Requester) (n : Nat) (f : Src → Src) : (s.modSrc r n f).port = s.port := rfl
@[simp] theorem State.modSrc_block (r : Requester) (n : Nat) (f : Src → Src) : (s.modSrc r n f).block = s.block := rfl
@[simp] theorem State.modSrc_eng (r : Requester) (n : Nat) (f : Src → Src) : (s.modSrc r n f).eng = s.eng := rfl
@[simp] theorem State.modSrc_hinge (r : Requester) (n : Nat) (f : Src → Src) : (s.modSrc r n f).hinge = s.hinge := rfl
@[simp] theorem State.modSrc_lex (r : Requester) (n : Nat) (f : Src → Src) : (s.modSrc r n f).lex = s.lex := rfl
@[simp] theorem State.modSrc_mem (r : Requester) (n : Nat) (f : Src → Src) : (s.modSrc r n f).mem = s.mem := rfl
@[simp] theorem State.modSrc_rep (r : Requester) (n : Nat) (f : Src → Src) : (s.modSrc r n f).rep = s.rep := rfl
@[simp] theorem State.modSrc_ocu (r : Requester) (n : Nat) (f : Src → Src) : (s.modSrc r n f).ocu = s.ocu := rfl
@[simp] theorem State.modSrc_cal (r : Requester) (n : Nat) (f : Src → Src) : (s.modSrc r n f).cal = s.cal := rfl
@[simp] theorem State.modSrc_thm (r : Requester) (n : Nat) (f : Src → Src) : (s.modSrc r n f).thm = s.thm := rfl
@[simp] theorem State.modSrc_tst (r : Requester) (n : Nat) (f : Src → Src) : (s.modSrc r n f).tst = s.tst := rfl
@[simp] theorem State.modSrc_pmc (r : Requester) (n : Nat) (f : Src → Src) : (s.modSrc r n f).pmc = s.pmc := rfl
@[simp] theorem State.modSrc_pwr (r : Requester) (n : Nat) (f : Src → Src) : (s.modSrc r n f).pwr = s.pwr := rfl
@[simp] theorem State.modSrc_fw (r : Requester) (n : Nat) (f : Src → Src) : (s.modSrc r n f).fw = s.fw := rfl
@[simp] theorem State.modSrc_cap (r : Requester) (n : Nat) (f : Src → Src) : (s.modSrc r n f).cap = s.cap := rfl

@[simp] theorem State.modVec_pending (r : Requester) (n : Nat) (f : Vec → Vec) : (s.modVec r n f).pending = s.pending := rfl
@[simp] theorem State.modVec_free (r : Requester) (n : Nat) (f : Vec → Vec) : (s.modVec r n f).free = s.free := rfl
@[simp] theorem State.modVec_fuses (r : Requester) (n : Nat) (f : Vec → Vec) : (s.modVec r n f).fuses = s.fuses := rfl
@[simp] theorem State.modVec_dev (r : Requester) (n : Nat) (f : Vec → Vec) : (s.modVec r n f).dev = s.dev := rfl
@[simp] theorem State.modVec_shut (r : Requester) (n : Nat) (f : Vec → Vec) : (s.modVec r n f).shut = s.shut := rfl
@[simp] theorem State.modVec_mb (r : Requester) (n : Nat) (f : Vec → Vec) : (s.modVec r n f).mb = s.mb := rfl
@[simp] theorem State.modVec_ev (r : Requester) (n : Nat) (f : Vec → Vec) : (s.modVec r n f).ev = s.ev := rfl
@[simp] theorem State.modVec_hif (r : Requester) (n : Nat) (f : Vec → Vec) : (s.modVec r n f).hif = s.hif := rfl
@[simp] theorem State.modVec_err (r : Requester) (n : Nat) (f : Vec → Vec) : (s.modVec r n f).err = s.err := rfl
@[simp] theorem State.modVec_tku (r : Requester) (n : Nat) (f : Vec → Vec) : (s.modVec r n f).tku = s.tku := rfl
@[simp] theorem State.modVec_params (r : Requester) (n : Nat) (f : Vec → Vec) : (s.modVec r n f).params = s.params := rfl
@[simp] theorem State.modVec_stats (r : Requester) (n : Nat) (f : Vec → Vec) : (s.modVec r n f).stats = s.stats := rfl
@[simp] theorem State.modVec_line (r : Requester) (n : Nat) (f : Vec → Vec) : (s.modVec r n f).line = s.line := rfl
@[simp] theorem State.modVec_host (r : Requester) (n : Nat) (f : Vec → Vec) : (s.modVec r n f).host = s.host := rfl
@[simp] theorem State.modVec_group (r : Requester) (n : Nat) (f : Vec → Vec) : (s.modVec r n f).group = s.group := rfl
@[simp] theorem State.modVec_port (r : Requester) (n : Nat) (f : Vec → Vec) : (s.modVec r n f).port = s.port := rfl
@[simp] theorem State.modVec_block (r : Requester) (n : Nat) (f : Vec → Vec) : (s.modVec r n f).block = s.block := rfl
@[simp] theorem State.modVec_eng (r : Requester) (n : Nat) (f : Vec → Vec) : (s.modVec r n f).eng = s.eng := rfl
@[simp] theorem State.modVec_hinge (r : Requester) (n : Nat) (f : Vec → Vec) : (s.modVec r n f).hinge = s.hinge := rfl
@[simp] theorem State.modVec_lex (r : Requester) (n : Nat) (f : Vec → Vec) : (s.modVec r n f).lex = s.lex := rfl
@[simp] theorem State.modVec_mem (r : Requester) (n : Nat) (f : Vec → Vec) : (s.modVec r n f).mem = s.mem := rfl
@[simp] theorem State.modVec_rep (r : Requester) (n : Nat) (f : Vec → Vec) : (s.modVec r n f).rep = s.rep := rfl
@[simp] theorem State.modVec_ocu (r : Requester) (n : Nat) (f : Vec → Vec) : (s.modVec r n f).ocu = s.ocu := rfl
@[simp] theorem State.modVec_cal (r : Requester) (n : Nat) (f : Vec → Vec) : (s.modVec r n f).cal = s.cal := rfl
@[simp] theorem State.modVec_thm (r : Requester) (n : Nat) (f : Vec → Vec) : (s.modVec r n f).thm = s.thm := rfl
@[simp] theorem State.modVec_tst (r : Requester) (n : Nat) (f : Vec → Vec) : (s.modVec r n f).tst = s.tst := rfl
@[simp] theorem State.modVec_pmc (r : Requester) (n : Nat) (f : Vec → Vec) : (s.modVec r n f).pmc = s.pmc := rfl
@[simp] theorem State.modVec_pwr (r : Requester) (n : Nat) (f : Vec → Vec) : (s.modVec r n f).pwr = s.pwr := rfl
@[simp] theorem State.modVec_fw (r : Requester) (n : Nat) (f : Vec → Vec) : (s.modVec r n f).fw = s.fw := rfl
@[simp] theorem State.modVec_cap (r : Requester) (n : Nat) (f : Vec → Vec) : (s.modVec r n f).cap = s.cap := rfl

@[simp] theorem State.modDom_pending (d : Domain) (f : DomClk → DomClk) : (s.modDom d f).pending = s.pending := by cases d <;> rfl
@[simp] theorem State.modDom_free (d : Domain) (f : DomClk → DomClk) : (s.modDom d f).free = s.free := by cases d <;> rfl
@[simp] theorem State.modDom_fuses (d : Domain) (f : DomClk → DomClk) : (s.modDom d f).fuses = s.fuses := by cases d <;> rfl
@[simp] theorem State.modDom_dev (d : Domain) (f : DomClk → DomClk) : (s.modDom d f).dev = s.dev := by cases d <;> rfl
@[simp] theorem State.modDom_shut (d : Domain) (f : DomClk → DomClk) : (s.modDom d f).shut = s.shut := by cases d <;> rfl
@[simp] theorem State.modDom_mb (d : Domain) (f : DomClk → DomClk) : (s.modDom d f).mb = s.mb := by cases d <;> rfl
@[simp] theorem State.modDom_ev (d : Domain) (f : DomClk → DomClk) : (s.modDom d f).ev = s.ev := by cases d <;> rfl
@[simp] theorem State.modDom_icu (d : Domain) (f : DomClk → DomClk) : (s.modDom d f).icu = s.icu := by cases d <;> rfl
@[simp] theorem State.modDom_hif (d : Domain) (f : DomClk → DomClk) : (s.modDom d f).hif = s.hif := by cases d <;> rfl
@[simp] theorem State.modDom_err (d : Domain) (f : DomClk → DomClk) : (s.modDom d f).err = s.err := by cases d <;> rfl
@[simp] theorem State.modDom_params (d : Domain) (f : DomClk → DomClk) : (s.modDom d f).params = s.params := by cases d <;> rfl
@[simp] theorem State.modDom_stats (d : Domain) (f : DomClk → DomClk) : (s.modDom d f).stats = s.stats := by cases d <;> rfl
@[simp] theorem State.modDom_line (d : Domain) (f : DomClk → DomClk) : (s.modDom d f).line = s.line := by cases d <;> rfl
@[simp] theorem State.modDom_host (d : Domain) (f : DomClk → DomClk) : (s.modDom d f).host = s.host := by cases d <;> rfl
@[simp] theorem State.modDom_group (d : Domain) (f : DomClk → DomClk) : (s.modDom d f).group = s.group := by cases d <;> rfl
@[simp] theorem State.modDom_port (d : Domain) (f : DomClk → DomClk) : (s.modDom d f).port = s.port := by cases d <;> rfl
@[simp] theorem State.modDom_block (d : Domain) (f : DomClk → DomClk) : (s.modDom d f).block = s.block := by cases d <;> rfl
@[simp] theorem State.modDom_eng (d : Domain) (f : DomClk → DomClk) : (s.modDom d f).eng = s.eng := by cases d <;> rfl
@[simp] theorem State.modDom_hinge (d : Domain) (f : DomClk → DomClk) : (s.modDom d f).hinge = s.hinge := by cases d <;> rfl
@[simp] theorem State.modDom_lex (d : Domain) (f : DomClk → DomClk) : (s.modDom d f).lex = s.lex := by cases d <;> rfl
@[simp] theorem State.modDom_mem (d : Domain) (f : DomClk → DomClk) : (s.modDom d f).mem = s.mem := by cases d <;> rfl
@[simp] theorem State.modDom_rep (d : Domain) (f : DomClk → DomClk) : (s.modDom d f).rep = s.rep := by cases d <;> rfl
@[simp] theorem State.modDom_ocu (d : Domain) (f : DomClk → DomClk) : (s.modDom d f).ocu = s.ocu := by cases d <;> rfl
@[simp] theorem State.modDom_cal (d : Domain) (f : DomClk → DomClk) : (s.modDom d f).cal = s.cal := by cases d <;> rfl
@[simp] theorem State.modDom_thm (d : Domain) (f : DomClk → DomClk) : (s.modDom d f).thm = s.thm := by cases d <;> rfl
@[simp] theorem State.modDom_tst (d : Domain) (f : DomClk → DomClk) : (s.modDom d f).tst = s.tst := by cases d <;> rfl
@[simp] theorem State.modDom_pmc (d : Domain) (f : DomClk → DomClk) : (s.modDom d f).pmc = s.pmc := by cases d <;> rfl
@[simp] theorem State.modDom_pwr (d : Domain) (f : DomClk → DomClk) : (s.modDom d f).pwr = s.pwr := by cases d <;> rfl
@[simp] theorem State.modDom_fw (d : Domain) (f : DomClk → DomClk) : (s.modDom d f).fw = s.fw := by cases d <;> rfl
@[simp] theorem State.modDom_cap (d : Domain) (f : DomClk → DomClk) : (s.modDom d f).cap = s.cap := by cases d <;> rfl

@[simp] theorem State.setPort_pending (p : Nat) (x : Port) : (s.setPort p x).pending = s.pending := rfl
@[simp] theorem State.setPort_free (p : Nat) (x : Port) : (s.setPort p x).free = s.free := rfl
@[simp] theorem State.setPort_fuses (p : Nat) (x : Port) : (s.setPort p x).fuses = s.fuses := rfl
@[simp] theorem State.setPort_dev (p : Nat) (x : Port) : (s.setPort p x).dev = s.dev := rfl
@[simp] theorem State.setPort_shut (p : Nat) (x : Port) : (s.setPort p x).shut = s.shut := rfl
@[simp] theorem State.setPort_mb (p : Nat) (x : Port) : (s.setPort p x).mb = s.mb := rfl
@[simp] theorem State.setPort_ev (p : Nat) (x : Port) : (s.setPort p x).ev = s.ev := rfl
@[simp] theorem State.setPort_icu (p : Nat) (x : Port) : (s.setPort p x).icu = s.icu := rfl
@[simp] theorem State.setPort_hif (p : Nat) (x : Port) : (s.setPort p x).hif = s.hif := rfl
@[simp] theorem State.setPort_err (p : Nat) (x : Port) : (s.setPort p x).err = s.err := rfl
@[simp] theorem State.setPort_tku (p : Nat) (x : Port) : (s.setPort p x).tku = s.tku := rfl
@[simp] theorem State.setPort_params (p : Nat) (x : Port) : (s.setPort p x).params = s.params := rfl
@[simp] theorem State.setPort_stats (p : Nat) (x : Port) : (s.setPort p x).stats = s.stats := rfl
@[simp] theorem State.setPort_line (p : Nat) (x : Port) : (s.setPort p x).line = s.line := rfl
@[simp] theorem State.setPort_host (p : Nat) (x : Port) : (s.setPort p x).host = s.host := rfl
@[simp] theorem State.setPort_group (p : Nat) (x : Port) : (s.setPort p x).group = s.group := rfl
@[simp] theorem State.setPort_block (p : Nat) (x : Port) : (s.setPort p x).block = s.block := rfl
@[simp] theorem State.setPort_eng (p : Nat) (x : Port) : (s.setPort p x).eng = s.eng := rfl
@[simp] theorem State.setPort_hinge (p : Nat) (x : Port) : (s.setPort p x).hinge = s.hinge := rfl
@[simp] theorem State.setPort_lex (p : Nat) (x : Port) : (s.setPort p x).lex = s.lex := rfl
@[simp] theorem State.setPort_mem (p : Nat) (x : Port) : (s.setPort p x).mem = s.mem := rfl
@[simp] theorem State.setPort_rep (p : Nat) (x : Port) : (s.setPort p x).rep = s.rep := rfl
@[simp] theorem State.setPort_ocu (p : Nat) (x : Port) : (s.setPort p x).ocu = s.ocu := rfl
@[simp] theorem State.setPort_cal (p : Nat) (x : Port) : (s.setPort p x).cal = s.cal := rfl
@[simp] theorem State.setPort_thm (p : Nat) (x : Port) : (s.setPort p x).thm = s.thm := rfl
@[simp] theorem State.setPort_tst (p : Nat) (x : Port) : (s.setPort p x).tst = s.tst := rfl
@[simp] theorem State.setPort_pmc (p : Nat) (x : Port) : (s.setPort p x).pmc = s.pmc := rfl
@[simp] theorem State.setPort_pwr (p : Nat) (x : Port) : (s.setPort p x).pwr = s.pwr := rfl
@[simp] theorem State.setPort_fw (p : Nat) (x : Port) : (s.setPort p x).fw = s.fw := rfl
@[simp] theorem State.setPort_cap (p : Nat) (x : Port) : (s.setPort p x).cap = s.cap := rfl

@[simp] theorem State.setLine_pending (l : Nat) (x : Line) : (s.setLine l x).pending = s.pending := rfl
@[simp] theorem State.setLine_free (l : Nat) (x : Line) : (s.setLine l x).free = s.free := rfl
@[simp] theorem State.setLine_fuses (l : Nat) (x : Line) : (s.setLine l x).fuses = s.fuses := rfl
@[simp] theorem State.setLine_dev (l : Nat) (x : Line) : (s.setLine l x).dev = s.dev := rfl
@[simp] theorem State.setLine_shut (l : Nat) (x : Line) : (s.setLine l x).shut = s.shut := rfl
@[simp] theorem State.setLine_mb (l : Nat) (x : Line) : (s.setLine l x).mb = s.mb := rfl
@[simp] theorem State.setLine_ev (l : Nat) (x : Line) : (s.setLine l x).ev = s.ev := rfl
@[simp] theorem State.setLine_icu (l : Nat) (x : Line) : (s.setLine l x).icu = s.icu := rfl
@[simp] theorem State.setLine_hif (l : Nat) (x : Line) : (s.setLine l x).hif = s.hif := rfl
@[simp] theorem State.setLine_err (l : Nat) (x : Line) : (s.setLine l x).err = s.err := rfl
@[simp] theorem State.setLine_tku (l : Nat) (x : Line) : (s.setLine l x).tku = s.tku := rfl
@[simp] theorem State.setLine_params (l : Nat) (x : Line) : (s.setLine l x).params = s.params := rfl
@[simp] theorem State.setLine_stats (l : Nat) (x : Line) : (s.setLine l x).stats = s.stats := rfl
@[simp] theorem State.setLine_host (l : Nat) (x : Line) : (s.setLine l x).host = s.host := rfl
@[simp] theorem State.setLine_group (l : Nat) (x : Line) : (s.setLine l x).group = s.group := rfl
@[simp] theorem State.setLine_port (l : Nat) (x : Line) : (s.setLine l x).port = s.port := rfl
@[simp] theorem State.setLine_block (l : Nat) (x : Line) : (s.setLine l x).block = s.block := rfl
@[simp] theorem State.setLine_eng (l : Nat) (x : Line) : (s.setLine l x).eng = s.eng := rfl
@[simp] theorem State.setLine_hinge (l : Nat) (x : Line) : (s.setLine l x).hinge = s.hinge := rfl
@[simp] theorem State.setLine_lex (l : Nat) (x : Line) : (s.setLine l x).lex = s.lex := rfl
@[simp] theorem State.setLine_mem (l : Nat) (x : Line) : (s.setLine l x).mem = s.mem := rfl
@[simp] theorem State.setLine_rep (l : Nat) (x : Line) : (s.setLine l x).rep = s.rep := rfl
@[simp] theorem State.setLine_ocu (l : Nat) (x : Line) : (s.setLine l x).ocu = s.ocu := rfl
@[simp] theorem State.setLine_cal (l : Nat) (x : Line) : (s.setLine l x).cal = s.cal := rfl
@[simp] theorem State.setLine_thm (l : Nat) (x : Line) : (s.setLine l x).thm = s.thm := rfl
@[simp] theorem State.setLine_tst (l : Nat) (x : Line) : (s.setLine l x).tst = s.tst := rfl
@[simp] theorem State.setLine_pmc (l : Nat) (x : Line) : (s.setLine l x).pmc = s.pmc := rfl
@[simp] theorem State.setLine_pwr (l : Nat) (x : Line) : (s.setLine l x).pwr = s.pwr := rfl
@[simp] theorem State.setLine_fw (l : Nat) (x : Line) : (s.setLine l x).fw = s.fw := rfl
@[simp] theorem State.setLine_cap (l : Nat) (x : Line) : (s.setLine l x).cap = s.cap := rfl

@[simp] theorem State.setHost_pending (h : Nat) (x : HostLane) : (s.setHost h x).pending = s.pending := rfl
@[simp] theorem State.setHost_free (h : Nat) (x : HostLane) : (s.setHost h x).free = s.free := rfl
@[simp] theorem State.setHost_fuses (h : Nat) (x : HostLane) : (s.setHost h x).fuses = s.fuses := rfl
@[simp] theorem State.setHost_dev (h : Nat) (x : HostLane) : (s.setHost h x).dev = s.dev := rfl
@[simp] theorem State.setHost_shut (h : Nat) (x : HostLane) : (s.setHost h x).shut = s.shut := rfl
@[simp] theorem State.setHost_mb (h : Nat) (x : HostLane) : (s.setHost h x).mb = s.mb := rfl
@[simp] theorem State.setHost_ev (h : Nat) (x : HostLane) : (s.setHost h x).ev = s.ev := rfl
@[simp] theorem State.setHost_icu (h : Nat) (x : HostLane) : (s.setHost h x).icu = s.icu := rfl
@[simp] theorem State.setHost_hif (h : Nat) (x : HostLane) : (s.setHost h x).hif = s.hif := rfl
@[simp] theorem State.setHost_err (h : Nat) (x : HostLane) : (s.setHost h x).err = s.err := rfl
@[simp] theorem State.setHost_tku (h : Nat) (x : HostLane) : (s.setHost h x).tku = s.tku := rfl
@[simp] theorem State.setHost_params (h : Nat) (x : HostLane) : (s.setHost h x).params = s.params := rfl
@[simp] theorem State.setHost_stats (h : Nat) (x : HostLane) : (s.setHost h x).stats = s.stats := rfl
@[simp] theorem State.setHost_line (h : Nat) (x : HostLane) : (s.setHost h x).line = s.line := rfl
@[simp] theorem State.setHost_group (h : Nat) (x : HostLane) : (s.setHost h x).group = s.group := rfl
@[simp] theorem State.setHost_port (h : Nat) (x : HostLane) : (s.setHost h x).port = s.port := rfl
@[simp] theorem State.setHost_block (h : Nat) (x : HostLane) : (s.setHost h x).block = s.block := rfl
@[simp] theorem State.setHost_eng (h : Nat) (x : HostLane) : (s.setHost h x).eng = s.eng := rfl
@[simp] theorem State.setHost_hinge (h : Nat) (x : HostLane) : (s.setHost h x).hinge = s.hinge := rfl
@[simp] theorem State.setHost_lex (h : Nat) (x : HostLane) : (s.setHost h x).lex = s.lex := rfl
@[simp] theorem State.setHost_mem (h : Nat) (x : HostLane) : (s.setHost h x).mem = s.mem := rfl
@[simp] theorem State.setHost_rep (h : Nat) (x : HostLane) : (s.setHost h x).rep = s.rep := rfl
@[simp] theorem State.setHost_ocu (h : Nat) (x : HostLane) : (s.setHost h x).ocu = s.ocu := rfl
@[simp] theorem State.setHost_cal (h : Nat) (x : HostLane) : (s.setHost h x).cal = s.cal := rfl
@[simp] theorem State.setHost_thm (h : Nat) (x : HostLane) : (s.setHost h x).thm = s.thm := rfl
@[simp] theorem State.setHost_tst (h : Nat) (x : HostLane) : (s.setHost h x).tst = s.tst := rfl
@[simp] theorem State.setHost_pmc (h : Nat) (x : HostLane) : (s.setHost h x).pmc = s.pmc := rfl
@[simp] theorem State.setHost_pwr (h : Nat) (x : HostLane) : (s.setHost h x).pwr = s.pwr := rfl
@[simp] theorem State.setHost_fw (h : Nat) (x : HostLane) : (s.setHost h x).fw = s.fw := rfl
@[simp] theorem State.setHost_cap (h : Nat) (x : HostLane) : (s.setHost h x).cap = s.cap := rfl

@[simp] theorem State.setPmc_pending (k : Nat) (x : Pmc) : (s.setPmc k x).pending = s.pending := rfl
@[simp] theorem State.setPmc_free (k : Nat) (x : Pmc) : (s.setPmc k x).free = s.free := rfl
@[simp] theorem State.setPmc_fuses (k : Nat) (x : Pmc) : (s.setPmc k x).fuses = s.fuses := rfl
@[simp] theorem State.setPmc_dev (k : Nat) (x : Pmc) : (s.setPmc k x).dev = s.dev := rfl
@[simp] theorem State.setPmc_shut (k : Nat) (x : Pmc) : (s.setPmc k x).shut = s.shut := rfl
@[simp] theorem State.setPmc_mb (k : Nat) (x : Pmc) : (s.setPmc k x).mb = s.mb := rfl
@[simp] theorem State.setPmc_ev (k : Nat) (x : Pmc) : (s.setPmc k x).ev = s.ev := rfl
@[simp] theorem State.setPmc_icu (k : Nat) (x : Pmc) : (s.setPmc k x).icu = s.icu := rfl
@[simp] theorem State.setPmc_hif (k : Nat) (x : Pmc) : (s.setPmc k x).hif = s.hif := rfl
@[simp] theorem State.setPmc_err (k : Nat) (x : Pmc) : (s.setPmc k x).err = s.err := rfl
@[simp] theorem State.setPmc_tku (k : Nat) (x : Pmc) : (s.setPmc k x).tku = s.tku := rfl
@[simp] theorem State.setPmc_params (k : Nat) (x : Pmc) : (s.setPmc k x).params = s.params := rfl
@[simp] theorem State.setPmc_stats (k : Nat) (x : Pmc) : (s.setPmc k x).stats = s.stats := rfl
@[simp] theorem State.setPmc_line (k : Nat) (x : Pmc) : (s.setPmc k x).line = s.line := rfl
@[simp] theorem State.setPmc_host (k : Nat) (x : Pmc) : (s.setPmc k x).host = s.host := rfl
@[simp] theorem State.setPmc_group (k : Nat) (x : Pmc) : (s.setPmc k x).group = s.group := rfl
@[simp] theorem State.setPmc_port (k : Nat) (x : Pmc) : (s.setPmc k x).port = s.port := rfl
@[simp] theorem State.setPmc_block (k : Nat) (x : Pmc) : (s.setPmc k x).block = s.block := rfl
@[simp] theorem State.setPmc_eng (k : Nat) (x : Pmc) : (s.setPmc k x).eng = s.eng := rfl
@[simp] theorem State.setPmc_hinge (k : Nat) (x : Pmc) : (s.setPmc k x).hinge = s.hinge := rfl
@[simp] theorem State.setPmc_lex (k : Nat) (x : Pmc) : (s.setPmc k x).lex = s.lex := rfl
@[simp] theorem State.setPmc_mem (k : Nat) (x : Pmc) : (s.setPmc k x).mem = s.mem := rfl
@[simp] theorem State.setPmc_rep (k : Nat) (x : Pmc) : (s.setPmc k x).rep = s.rep := rfl
@[simp] theorem State.setPmc_ocu (k : Nat) (x : Pmc) : (s.setPmc k x).ocu = s.ocu := rfl
@[simp] theorem State.setPmc_cal (k : Nat) (x : Pmc) : (s.setPmc k x).cal = s.cal := rfl
@[simp] theorem State.setPmc_thm (k : Nat) (x : Pmc) : (s.setPmc k x).thm = s.thm := rfl
@[simp] theorem State.setPmc_tst (k : Nat) (x : Pmc) : (s.setPmc k x).tst = s.tst := rfl
@[simp] theorem State.setPmc_pwr (k : Nat) (x : Pmc) : (s.setPmc k x).pwr = s.pwr := rfl
@[simp] theorem State.setPmc_fw (k : Nat) (x : Pmc) : (s.setPmc k x).fw = s.fw := rfl
@[simp] theorem State.setPmc_cap (k : Nat) (x : Pmc) : (s.setPmc k x).cap = s.cap := rfl

@[simp] theorem State.bumpBy_pending (g j i n : Nat) : (s.bumpBy g j i n).pending = s.pending := rfl
@[simp] theorem State.bumpBy_free (g j i n : Nat) : (s.bumpBy g j i n).free = s.free := rfl
@[simp] theorem State.bumpBy_fuses (g j i n : Nat) : (s.bumpBy g j i n).fuses = s.fuses := rfl
@[simp] theorem State.bumpBy_dev (g j i n : Nat) : (s.bumpBy g j i n).dev = s.dev := rfl
@[simp] theorem State.bumpBy_shut (g j i n : Nat) : (s.bumpBy g j i n).shut = s.shut := rfl
@[simp] theorem State.bumpBy_mb (g j i n : Nat) : (s.bumpBy g j i n).mb = s.mb := rfl
@[simp] theorem State.bumpBy_ev (g j i n : Nat) : (s.bumpBy g j i n).ev = s.ev := rfl
@[simp] theorem State.bumpBy_icu (g j i n : Nat) : (s.bumpBy g j i n).icu = s.icu := rfl
@[simp] theorem State.bumpBy_hif (g j i n : Nat) : (s.bumpBy g j i n).hif = s.hif := rfl
@[simp] theorem State.bumpBy_err (g j i n : Nat) : (s.bumpBy g j i n).err = s.err := rfl
@[simp] theorem State.bumpBy_tku (g j i n : Nat) : (s.bumpBy g j i n).tku = s.tku := rfl
@[simp] theorem State.bumpBy_params (g j i n : Nat) : (s.bumpBy g j i n).params = s.params := rfl
@[simp] theorem State.bumpBy_line (g j i n : Nat) : (s.bumpBy g j i n).line = s.line := rfl
@[simp] theorem State.bumpBy_host (g j i n : Nat) : (s.bumpBy g j i n).host = s.host := rfl
@[simp] theorem State.bumpBy_group (g j i n : Nat) : (s.bumpBy g j i n).group = s.group := rfl
@[simp] theorem State.bumpBy_port (g j i n : Nat) : (s.bumpBy g j i n).port = s.port := rfl
@[simp] theorem State.bumpBy_block (g j i n : Nat) : (s.bumpBy g j i n).block = s.block := rfl
@[simp] theorem State.bumpBy_eng (g j i n : Nat) : (s.bumpBy g j i n).eng = s.eng := rfl
@[simp] theorem State.bumpBy_hinge (g j i n : Nat) : (s.bumpBy g j i n).hinge = s.hinge := rfl
@[simp] theorem State.bumpBy_lex (g j i n : Nat) : (s.bumpBy g j i n).lex = s.lex := rfl
@[simp] theorem State.bumpBy_mem (g j i n : Nat) : (s.bumpBy g j i n).mem = s.mem := rfl
@[simp] theorem State.bumpBy_rep (g j i n : Nat) : (s.bumpBy g j i n).rep = s.rep := rfl
@[simp] theorem State.bumpBy_ocu (g j i n : Nat) : (s.bumpBy g j i n).ocu = s.ocu := rfl
@[simp] theorem State.bumpBy_cal (g j i n : Nat) : (s.bumpBy g j i n).cal = s.cal := rfl
@[simp] theorem State.bumpBy_thm (g j i n : Nat) : (s.bumpBy g j i n).thm = s.thm := rfl
@[simp] theorem State.bumpBy_tst (g j i n : Nat) : (s.bumpBy g j i n).tst = s.tst := rfl
@[simp] theorem State.bumpBy_pmc (g j i n : Nat) : (s.bumpBy g j i n).pmc = s.pmc := rfl
@[simp] theorem State.bumpBy_pwr (g j i n : Nat) : (s.bumpBy g j i n).pwr = s.pwr := rfl
@[simp] theorem State.bumpBy_fw (g j i n : Nat) : (s.bumpBy g j i n).fw = s.fw := rfl
@[simp] theorem State.bumpBy_cap (g j i n : Nat) : (s.bumpBy g j i n).cap = s.cap := rfl

@[simp] theorem State.bump_pending (g j i : Nat) : (s.bump g j i).pending = s.pending := rfl
@[simp] theorem State.bump_free (g j i : Nat) : (s.bump g j i).free = s.free := rfl
@[simp] theorem State.bump_fuses (g j i : Nat) : (s.bump g j i).fuses = s.fuses := rfl
@[simp] theorem State.bump_dev (g j i : Nat) : (s.bump g j i).dev = s.dev := rfl
@[simp] theorem State.bump_shut (g j i : Nat) : (s.bump g j i).shut = s.shut := rfl
@[simp] theorem State.bump_mb (g j i : Nat) : (s.bump g j i).mb = s.mb := rfl
@[simp] theorem State.bump_ev (g j i : Nat) : (s.bump g j i).ev = s.ev := rfl
@[simp] theorem State.bump_icu (g j i : Nat) : (s.bump g j i).icu = s.icu := rfl
@[simp] theorem State.bump_hif (g j i : Nat) : (s.bump g j i).hif = s.hif := rfl
@[simp] theorem State.bump_err (g j i : Nat) : (s.bump g j i).err = s.err := rfl
@[simp] theorem State.bump_tku (g j i : Nat) : (s.bump g j i).tku = s.tku := rfl
@[simp] theorem State.bump_params (g j i : Nat) : (s.bump g j i).params = s.params := rfl
@[simp] theorem State.bump_line (g j i : Nat) : (s.bump g j i).line = s.line := rfl
@[simp] theorem State.bump_host (g j i : Nat) : (s.bump g j i).host = s.host := rfl
@[simp] theorem State.bump_group (g j i : Nat) : (s.bump g j i).group = s.group := rfl
@[simp] theorem State.bump_port (g j i : Nat) : (s.bump g j i).port = s.port := rfl
@[simp] theorem State.bump_block (g j i : Nat) : (s.bump g j i).block = s.block := rfl
@[simp] theorem State.bump_eng (g j i : Nat) : (s.bump g j i).eng = s.eng := rfl
@[simp] theorem State.bump_hinge (g j i : Nat) : (s.bump g j i).hinge = s.hinge := rfl
@[simp] theorem State.bump_lex (g j i : Nat) : (s.bump g j i).lex = s.lex := rfl
@[simp] theorem State.bump_mem (g j i : Nat) : (s.bump g j i).mem = s.mem := rfl
@[simp] theorem State.bump_rep (g j i : Nat) : (s.bump g j i).rep = s.rep := rfl
@[simp] theorem State.bump_ocu (g j i : Nat) : (s.bump g j i).ocu = s.ocu := rfl
@[simp] theorem State.bump_cal (g j i : Nat) : (s.bump g j i).cal = s.cal := rfl
@[simp] theorem State.bump_thm (g j i : Nat) : (s.bump g j i).thm = s.thm := rfl
@[simp] theorem State.bump_tst (g j i : Nat) : (s.bump g j i).tst = s.tst := rfl
@[simp] theorem State.bump_pmc (g j i : Nat) : (s.bump g j i).pmc = s.pmc := rfl
@[simp] theorem State.bump_pwr (g j i : Nat) : (s.bump g j i).pwr = s.pwr := rfl
@[simp] theorem State.bump_fw (g j i : Nat) : (s.bump g j i).fw = s.fw := rfl
@[simp] theorem State.bump_cap (g j i : Nat) : (s.bump g j i).cap = s.cap := rfl

@[simp] theorem State.setFigure_pending (g j i : Nat) (v : Word) : (s.setFigure g j i v).pending = s.pending := rfl
@[simp] theorem State.setFigure_free (g j i : Nat) (v : Word) : (s.setFigure g j i v).free = s.free := rfl
@[simp] theorem State.setFigure_fuses (g j i : Nat) (v : Word) : (s.setFigure g j i v).fuses = s.fuses := rfl
@[simp] theorem State.setFigure_dev (g j i : Nat) (v : Word) : (s.setFigure g j i v).dev = s.dev := rfl
@[simp] theorem State.setFigure_shut (g j i : Nat) (v : Word) : (s.setFigure g j i v).shut = s.shut := rfl
@[simp] theorem State.setFigure_mb (g j i : Nat) (v : Word) : (s.setFigure g j i v).mb = s.mb := rfl
@[simp] theorem State.setFigure_ev (g j i : Nat) (v : Word) : (s.setFigure g j i v).ev = s.ev := rfl
@[simp] theorem State.setFigure_icu (g j i : Nat) (v : Word) : (s.setFigure g j i v).icu = s.icu := rfl
@[simp] theorem State.setFigure_hif (g j i : Nat) (v : Word) : (s.setFigure g j i v).hif = s.hif := rfl
@[simp] theorem State.setFigure_err (g j i : Nat) (v : Word) : (s.setFigure g j i v).err = s.err := rfl
@[simp] theorem State.setFigure_tku (g j i : Nat) (v : Word) : (s.setFigure g j i v).tku = s.tku := rfl
@[simp] theorem State.setFigure_params (g j i : Nat) (v : Word) : (s.setFigure g j i v).params = s.params := rfl
@[simp] theorem State.setFigure_line (g j i : Nat) (v : Word) : (s.setFigure g j i v).line = s.line := rfl
@[simp] theorem State.setFigure_host (g j i : Nat) (v : Word) : (s.setFigure g j i v).host = s.host := rfl
@[simp] theorem State.setFigure_group (g j i : Nat) (v : Word) : (s.setFigure g j i v).group = s.group := rfl
@[simp] theorem State.setFigure_port (g j i : Nat) (v : Word) : (s.setFigure g j i v).port = s.port := rfl
@[simp] theorem State.setFigure_block (g j i : Nat) (v : Word) : (s.setFigure g j i v).block = s.block := rfl
@[simp] theorem State.setFigure_eng (g j i : Nat) (v : Word) : (s.setFigure g j i v).eng = s.eng := rfl
@[simp] theorem State.setFigure_hinge (g j i : Nat) (v : Word) : (s.setFigure g j i v).hinge = s.hinge := rfl
@[simp] theorem State.setFigure_lex (g j i : Nat) (v : Word) : (s.setFigure g j i v).lex = s.lex := rfl
@[simp] theorem State.setFigure_mem (g j i : Nat) (v : Word) : (s.setFigure g j i v).mem = s.mem := rfl
@[simp] theorem State.setFigure_rep (g j i : Nat) (v : Word) : (s.setFigure g j i v).rep = s.rep := rfl
@[simp] theorem State.setFigure_ocu (g j i : Nat) (v : Word) : (s.setFigure g j i v).ocu = s.ocu := rfl
@[simp] theorem State.setFigure_cal (g j i : Nat) (v : Word) : (s.setFigure g j i v).cal = s.cal := rfl
@[simp] theorem State.setFigure_thm (g j i : Nat) (v : Word) : (s.setFigure g j i v).thm = s.thm := rfl
@[simp] theorem State.setFigure_tst (g j i : Nat) (v : Word) : (s.setFigure g j i v).tst = s.tst := rfl
@[simp] theorem State.setFigure_pmc (g j i : Nat) (v : Word) : (s.setFigure g j i v).pmc = s.pmc := rfl
@[simp] theorem State.setFigure_pwr (g j i : Nat) (v : Word) : (s.setFigure g j i v).pwr = s.pwr := rfl
@[simp] theorem State.setFigure_fw (g j i : Nat) (v : Word) : (s.setFigure g j i v).fw = s.fw := rfl
@[simp] theorem State.setFigure_cap (g j i : Nat) (v : Word) : (s.setFigure g j i v).cap = s.cap := rfl

@[simp] theorem State.setParam_pending (noun inst elem : Nat) (w : Word) : (s.setParam noun inst elem w).pending = s.pending := by unfold State.setParam; rfl
@[simp] theorem State.setParam_free (noun inst elem : Nat) (w : Word) : (s.setParam noun inst elem w).free = s.free := by unfold State.setParam; rfl
@[simp] theorem State.setParam_fuses (noun inst elem : Nat) (w : Word) : (s.setParam noun inst elem w).fuses = s.fuses := by unfold State.setParam; rfl
@[simp] theorem State.setParam_dev (noun inst elem : Nat) (w : Word) : (s.setParam noun inst elem w).dev = s.dev := by unfold State.setParam; rfl
@[simp] theorem State.setParam_shut (noun inst elem : Nat) (w : Word) : (s.setParam noun inst elem w).shut = s.shut := by unfold State.setParam; rfl
@[simp] theorem State.setParam_mb (noun inst elem : Nat) (w : Word) : (s.setParam noun inst elem w).mb = s.mb := by unfold State.setParam; rfl
@[simp] theorem State.setParam_ev (noun inst elem : Nat) (w : Word) : (s.setParam noun inst elem w).ev = s.ev := by unfold State.setParam; rfl
@[simp] theorem State.setParam_icu (noun inst elem : Nat) (w : Word) : (s.setParam noun inst elem w).icu = s.icu := by unfold State.setParam; rfl
@[simp] theorem State.setParam_hif (noun inst elem : Nat) (w : Word) : (s.setParam noun inst elem w).hif = s.hif := by unfold State.setParam; rfl
@[simp] theorem State.setParam_err (noun inst elem : Nat) (w : Word) : (s.setParam noun inst elem w).err = s.err := by unfold State.setParam; rfl
@[simp] theorem State.setParam_tku (noun inst elem : Nat) (w : Word) : (s.setParam noun inst elem w).tku = s.tku := by unfold State.setParam; rfl
@[simp] theorem State.setParam_stats (noun inst elem : Nat) (w : Word) : (s.setParam noun inst elem w).stats = s.stats := by unfold State.setParam; rfl
@[simp] theorem State.setParam_line (noun inst elem : Nat) (w : Word) : (s.setParam noun inst elem w).line = s.line := by unfold State.setParam; rfl
@[simp] theorem State.setParam_host (noun inst elem : Nat) (w : Word) : (s.setParam noun inst elem w).host = s.host := by unfold State.setParam; rfl
@[simp] theorem State.setParam_group (noun inst elem : Nat) (w : Word) : (s.setParam noun inst elem w).group = s.group := by unfold State.setParam; rfl
@[simp] theorem State.setParam_port (noun inst elem : Nat) (w : Word) : (s.setParam noun inst elem w).port = s.port := by unfold State.setParam; rfl
@[simp] theorem State.setParam_block (noun inst elem : Nat) (w : Word) : (s.setParam noun inst elem w).block = s.block := by unfold State.setParam; rfl
@[simp] theorem State.setParam_eng (noun inst elem : Nat) (w : Word) : (s.setParam noun inst elem w).eng = s.eng := by unfold State.setParam; rfl
@[simp] theorem State.setParam_hinge (noun inst elem : Nat) (w : Word) : (s.setParam noun inst elem w).hinge = s.hinge := by unfold State.setParam; rfl
@[simp] theorem State.setParam_lex (noun inst elem : Nat) (w : Word) : (s.setParam noun inst elem w).lex = s.lex := by unfold State.setParam; rfl
@[simp] theorem State.setParam_mem (noun inst elem : Nat) (w : Word) : (s.setParam noun inst elem w).mem = s.mem := by unfold State.setParam; rfl
@[simp] theorem State.setParam_rep (noun inst elem : Nat) (w : Word) : (s.setParam noun inst elem w).rep = s.rep := by unfold State.setParam; rfl
@[simp] theorem State.setParam_ocu (noun inst elem : Nat) (w : Word) : (s.setParam noun inst elem w).ocu = s.ocu := by unfold State.setParam; rfl
@[simp] theorem State.setParam_cal (noun inst elem : Nat) (w : Word) : (s.setParam noun inst elem w).cal = s.cal := by unfold State.setParam; rfl
@[simp] theorem State.setParam_thm (noun inst elem : Nat) (w : Word) : (s.setParam noun inst elem w).thm = s.thm := by unfold State.setParam; rfl
@[simp] theorem State.setParam_tst (noun inst elem : Nat) (w : Word) : (s.setParam noun inst elem w).tst = s.tst := by unfold State.setParam; rfl
@[simp] theorem State.setParam_pmc (noun inst elem : Nat) (w : Word) : (s.setParam noun inst elem w).pmc = s.pmc := by unfold State.setParam; rfl
@[simp] theorem State.setParam_pwr (noun inst elem : Nat) (w : Word) : (s.setParam noun inst elem w).pwr = s.pwr := by unfold State.setParam; rfl
@[simp] theorem State.setParam_fw (noun inst elem : Nat) (w : Word) : (s.setParam noun inst elem w).fw = s.fw := by unfold State.setParam; rfl
@[simp] theorem State.setParam_cap (noun inst elem : Nat) (w : Word) : (s.setParam noun inst elem w).cap = s.cap := by unfold State.setParam; rfl

@[simp] theorem State.freeSkip_pending (n : Nat) : (s.freeSkip n).pending = s.pending := rfl
@[simp] theorem State.freeSkip_fuses (n : Nat) : (s.freeSkip n).fuses = s.fuses := rfl
@[simp] theorem State.freeSkip_dev (n : Nat) : (s.freeSkip n).dev = s.dev := rfl
@[simp] theorem State.freeSkip_shut (n : Nat) : (s.freeSkip n).shut = s.shut := rfl
@[simp] theorem State.freeSkip_mb (n : Nat) : (s.freeSkip n).mb = s.mb := rfl
@[simp] theorem State.freeSkip_ev (n : Nat) : (s.freeSkip n).ev = s.ev := rfl
@[simp] theorem State.freeSkip_icu (n : Nat) : (s.freeSkip n).icu = s.icu := rfl
@[simp] theorem State.freeSkip_hif (n : Nat) : (s.freeSkip n).hif = s.hif := rfl
@[simp] theorem State.freeSkip_err (n : Nat) : (s.freeSkip n).err = s.err := rfl
@[simp] theorem State.freeSkip_tku (n : Nat) : (s.freeSkip n).tku = s.tku := rfl
@[simp] theorem State.freeSkip_params (n : Nat) : (s.freeSkip n).params = s.params := rfl
@[simp] theorem State.freeSkip_stats (n : Nat) : (s.freeSkip n).stats = s.stats := rfl
@[simp] theorem State.freeSkip_line (n : Nat) : (s.freeSkip n).line = s.line := rfl
@[simp] theorem State.freeSkip_host (n : Nat) : (s.freeSkip n).host = s.host := rfl
@[simp] theorem State.freeSkip_group (n : Nat) : (s.freeSkip n).group = s.group := rfl
@[simp] theorem State.freeSkip_port (n : Nat) : (s.freeSkip n).port = s.port := rfl
@[simp] theorem State.freeSkip_block (n : Nat) : (s.freeSkip n).block = s.block := rfl
@[simp] theorem State.freeSkip_eng (n : Nat) : (s.freeSkip n).eng = s.eng := rfl
@[simp] theorem State.freeSkip_hinge (n : Nat) : (s.freeSkip n).hinge = s.hinge := rfl
@[simp] theorem State.freeSkip_lex (n : Nat) : (s.freeSkip n).lex = s.lex := rfl
@[simp] theorem State.freeSkip_mem (n : Nat) : (s.freeSkip n).mem = s.mem := rfl
@[simp] theorem State.freeSkip_rep (n : Nat) : (s.freeSkip n).rep = s.rep := rfl
@[simp] theorem State.freeSkip_ocu (n : Nat) : (s.freeSkip n).ocu = s.ocu := rfl
@[simp] theorem State.freeSkip_cal (n : Nat) : (s.freeSkip n).cal = s.cal := rfl
@[simp] theorem State.freeSkip_thm (n : Nat) : (s.freeSkip n).thm = s.thm := rfl
@[simp] theorem State.freeSkip_tst (n : Nat) : (s.freeSkip n).tst = s.tst := rfl
@[simp] theorem State.freeSkip_pmc (n : Nat) : (s.freeSkip n).pmc = s.pmc := rfl
@[simp] theorem State.freeSkip_pwr (n : Nat) : (s.freeSkip n).pwr = s.pwr := rfl
@[simp] theorem State.freeSkip_fw (n : Nat) : (s.freeSkip n).fw = s.fw := rfl
@[simp] theorem State.freeSkip_cap (n : Nat) : (s.freeSkip n).cap = s.cap := rfl

@[simp] theorem State.freeNext_pending  : (s.freeNext ).pending = s.pending := rfl
@[simp] theorem State.freeNext_fuses  : (s.freeNext ).fuses = s.fuses := rfl
@[simp] theorem State.freeNext_dev  : (s.freeNext ).dev = s.dev := rfl
@[simp] theorem State.freeNext_shut  : (s.freeNext ).shut = s.shut := rfl
@[simp] theorem State.freeNext_mb  : (s.freeNext ).mb = s.mb := rfl
@[simp] theorem State.freeNext_ev  : (s.freeNext ).ev = s.ev := rfl
@[simp] theorem State.freeNext_icu  : (s.freeNext ).icu = s.icu := rfl
@[simp] theorem State.freeNext_hif  : (s.freeNext ).hif = s.hif := rfl
@[simp] theorem State.freeNext_err  : (s.freeNext ).err = s.err := rfl
@[simp] theorem State.freeNext_tku  : (s.freeNext ).tku = s.tku := rfl
@[simp] theorem State.freeNext_params  : (s.freeNext ).params = s.params := rfl
@[simp] theorem State.freeNext_stats  : (s.freeNext ).stats = s.stats := rfl
@[simp] theorem State.freeNext_line  : (s.freeNext ).line = s.line := rfl
@[simp] theorem State.freeNext_host  : (s.freeNext ).host = s.host := rfl
@[simp] theorem State.freeNext_group  : (s.freeNext ).group = s.group := rfl
@[simp] theorem State.freeNext_port  : (s.freeNext ).port = s.port := rfl
@[simp] theorem State.freeNext_block  : (s.freeNext ).block = s.block := rfl
@[simp] theorem State.freeNext_eng  : (s.freeNext ).eng = s.eng := rfl
@[simp] theorem State.freeNext_hinge  : (s.freeNext ).hinge = s.hinge := rfl
@[simp] theorem State.freeNext_lex  : (s.freeNext ).lex = s.lex := rfl
@[simp] theorem State.freeNext_mem  : (s.freeNext ).mem = s.mem := rfl
@[simp] theorem State.freeNext_rep  : (s.freeNext ).rep = s.rep := rfl
@[simp] theorem State.freeNext_ocu  : (s.freeNext ).ocu = s.ocu := rfl
@[simp] theorem State.freeNext_cal  : (s.freeNext ).cal = s.cal := rfl
@[simp] theorem State.freeNext_thm  : (s.freeNext ).thm = s.thm := rfl
@[simp] theorem State.freeNext_tst  : (s.freeNext ).tst = s.tst := rfl
@[simp] theorem State.freeNext_pmc  : (s.freeNext ).pmc = s.pmc := rfl
@[simp] theorem State.freeNext_pwr  : (s.freeNext ).pwr = s.pwr := rfl
@[simp] theorem State.freeNext_fw  : (s.freeNext ).fw = s.fw := rfl
@[simp] theorem State.freeNext_cap  : (s.freeNext ).cap = s.cap := rfl

theorem State.groupAt_modGroup (i j : Nat) (f : Group → Group) : (s.modGroup i f).groupAt j = if j = i then f (s.groupAt i) else s.groupAt j := tget_tmod ..
@[simp] theorem State.groupAt_modGroup_self (i : Nat) (f : Group → Group) : (s.modGroup i f).groupAt i = f (s.groupAt i) := tget_tmod_same ..
theorem State.blockAt_modBlock (i j : Nat) (f : Block → Block) : (s.modBlock i f).blockAt j = if j = i then f (s.blockAt i) else s.blockAt j := tget_tmod ..
@[simp] theorem State.blockAt_modBlock_self (i : Nat) (f : Block → Block) : (s.modBlock i f).blockAt i = f (s.blockAt i) := tget_tmod_same ..
theorem State.engAt_modEng (i j : Nat) (f : Engine → Engine) : (s.modEng i f).engAt j = if j = i then f (s.engAt i) else s.engAt j := tget_tmod ..
@[simp] theorem State.engAt_modEng_self (i : Nat) (f : Engine → Engine) : (s.modEng i f).engAt i = f (s.engAt i) := tget_tmod_same ..
theorem State.calAt_modCal (i j : Nat) (f : Cal → Cal) : (s.modCal i f).calAt j = if j = i then f (s.calAt i) else s.calAt j := tget_tmod ..
@[simp] theorem State.calAt_modCal_self (i : Nat) (f : Cal → Cal) : (s.modCal i f).calAt i = f (s.calAt i) := tget_tmod_same ..
theorem State.axAt_modAx (i j : Nat) (f : Ax → Ax) : (s.modAx i f).axAt j = if j = i then f (s.axAt i) else s.axAt j := tget_tmod ..
@[simp] theorem State.axAt_modAx_self (i : Nat) (f : Ax → Ax) : (s.modAx i f).axAt i = f (s.axAt i) := tget_tmod_same ..
theorem State.mnAt_modMn (i j : Nat) (f : Mon → Mon) : (s.modMn i f).mnAt j = if j = i then f (s.mnAt i) else s.mnAt j := tget_tmod ..
@[simp] theorem State.mnAt_modMn_self (i : Nat) (f : Mon → Mon) : (s.modMn i f).mnAt i = f (s.mnAt i) := tget_tmod_same ..
theorem State.loopAt_modLoop (i j : Nat) (f : OcuLoop → OcuLoop) : (s.modLoop i f).loopAt j = if j = i then f (s.loopAt i) else s.loopAt j := tget_tmod ..
@[simp] theorem State.loopAt_modLoop_self (i : Nat) (f : OcuLoop → OcuLoop) : (s.modLoop i f).loopAt i = f (s.loopAt i) := tget_tmod_same ..
theorem State.ctxAt_modCtx (i j : Nat) (f : Ctx → Ctx) : (s.modCtx i f).ctxAt j = if j = i then f (s.ctxAt i) else s.ctxAt j := tget_tmod ..
@[simp] theorem State.ctxAt_modCtx_self (i : Nat) (f : Ctx → Ctx) : (s.modCtx i f).ctxAt i = f (s.ctxAt i) := tget_tmod_same ..
theorem State.unplacedAt_modUnplaced (i j : Nat) (f : Ctx → Ctx) : (s.modUnplaced i f).unplacedAt j = if j = i then f (s.unplacedAt i) else s.unplacedAt j := tget_tmod ..
@[simp] theorem State.unplacedAt_modUnplaced_self (i : Nat) (f : Ctx → Ctx) : (s.modUnplaced i f).unplacedAt i = f (s.unplacedAt i) := tget_tmod_same ..
theorem State.bankAt_modBank (i j : Nat) (f : Bank → Bank) : (s.modBank i f).bankAt j = if j = i then f (s.bankAt i) else s.bankAt j := tget_tmod ..
@[simp] theorem State.bankAt_modBank_self (i : Nat) (f : Bank → Bank) : (s.modBank i f).bankAt i = f (s.bankAt i) := tget_tmod_same ..
theorem State.sensorAt_modSensor (i j : Nat) (f : Sensor → Sensor) : (s.modSensor i f).sensorAt j = if j = i then f (s.sensorAt i) else s.sensorAt j := tget_tmod ..
@[simp] theorem State.sensorAt_modSensor_self (i : Nat) (f : Sensor → Sensor) : (s.modSensor i f).sensorAt i = f (s.sensorAt i) := tget_tmod_same ..
theorem State.residAt_modResid (i j : Nat) (f : Resid → Resid) : (s.modResid i f).residAt j = if j = i then f (s.residAt i) else s.residAt j := tget_tmod ..
@[simp] theorem State.residAt_modResid_self (i : Nat) (f : Resid → Resid) : (s.modResid i f).residAt i = f (s.residAt i) := tget_tmod_same ..
theorem State.regionAt_modRegion (i j : Nat) (f : Region → Region) : (s.modRegion i f).regionAt j = if j = i then f (s.regionAt i) else s.regionAt j := tget_tmod ..
@[simp] theorem State.regionAt_modRegion_self (i : Nat) (f : Region → Region) : (s.modRegion i f).regionAt i = f (s.regionAt i) := tget_tmod_same ..
theorem State.dmaAt_modDma (i j : Nat) (f : Dma → Dma) : (s.modDma i f).dmaAt j = if j = i then f (s.dmaAt i) else s.dmaAt j := tget_tmod ..
@[simp] theorem State.dmaAt_modDma_self (i : Nat) (f : Dma → Dma) : (s.modDma i f).dmaAt i = f (s.dmaAt i) := tget_tmod_same ..

theorem State.portAt_setPort (i j : Nat) (x : Port) : (s.setPort i x).portAt j = if j = i then x else s.portAt j := by
  simp [State.portAt, State.setPort, tget_tset]
theorem State.portAt_modPort (i j : Nat) (f : Port → Port) : (s.modPort i f).portAt j = if j = i then f (s.portAt i) else s.portAt j :=
  State.portAt_setPort ..
@[simp] theorem State.portAt_modPort_self (i : Nat) (f : Port → Port) : (s.modPort i f).portAt i = f (s.portAt i) := by
  rw [State.portAt_modPort, if_pos rfl]
theorem State.lineAt_setLine (i j : Nat) (x : Line) : (s.setLine i x).lineAt j = if j = i then x else s.lineAt j := by
  simp [State.lineAt, State.setLine, tget_tset]
theorem State.lineAt_modLine (i j : Nat) (f : Line → Line) : (s.modLine i f).lineAt j = if j = i then f (s.lineAt i) else s.lineAt j :=
  State.lineAt_setLine ..
@[simp] theorem State.lineAt_modLine_self (i : Nat) (f : Line → Line) : (s.modLine i f).lineAt i = f (s.lineAt i) := by
  rw [State.lineAt_modLine, if_pos rfl]
theorem State.hostAt_setHost (i j : Nat) (x : HostLane) : (s.setHost i x).hostAt j = if j = i then x else s.hostAt j := by
  simp [State.hostAt, State.setHost, tget_tset]
theorem State.hostAt_modHost (i j : Nat) (f : HostLane → HostLane) : (s.modHost i f).hostAt j = if j = i then f (s.hostAt i) else s.hostAt j :=
  State.hostAt_setHost ..
@[simp] theorem State.hostAt_modHost_self (i : Nat) (f : HostLane → HostLane) : (s.modHost i f).hostAt i = f (s.hostAt i) := by
  rw [State.hostAt_modHost, if_pos rfl]
theorem State.lineAt_modLrx (i j : Nat) (f : Lrx → Lrx) :
    (s.modLrx i f).lineAt j = if j = i then { s.lineAt i with lrx := f (s.lineAt i).lrx } else s.lineAt j :=
  State.lineAt_modLine ..
@[simp] theorem State.lineAt_modLrx_self (i : Nat) (f : Lrx → Lrx) :
    (s.modLrx i f).lineAt i = { s.lineAt i with lrx := f (s.lineAt i).lrx } := State.lineAt_modLine_self ..
theorem State.lineAt_modSea (i j : Nat) (f : Sea → Sea) :
    (s.modSea i f).lineAt j = if j = i then { s.lineAt i with sea := f (s.lineAt i).sea } else s.lineAt j :=
  State.lineAt_modLine ..
@[simp] theorem State.lineAt_modSea_self (i : Nat) (f : Sea → Sea) :
    (s.modSea i f).lineAt i = { s.lineAt i with sea := f (s.lineAt i).sea } := State.lineAt_modLine_self ..
theorem State.lineAt_modSdf (i j : Nat) (f : Sdf → Sdf) :
    (s.modSdf i f).lineAt j = if j = i then { s.lineAt i with sdf := f (s.lineAt i).sdf } else s.lineAt j :=
  State.lineAt_modLine ..
@[simp] theorem State.lineAt_modSdf_self (i : Nat) (f : Sdf → Sdf) :
    (s.modSdf i f).lineAt i = { s.lineAt i with sdf := f (s.lineAt i).sdf } := State.lineAt_modLine_self ..
theorem State.lineAt_modLtx (i j : Nat) (f : Ltx → Ltx) :
    (s.modLtx i f).lineAt j = if j = i then { s.lineAt i with ltx := f (s.lineAt i).ltx } else s.lineAt j :=
  State.lineAt_modLine ..
@[simp] theorem State.lineAt_modLtx_self (i : Nat) (f : Ltx → Ltx) :
    (s.modLtx i f).lineAt i = { s.lineAt i with ltx := f (s.lineAt i).ltx } := State.lineAt_modLine_self ..
theorem State.lineAt_modPlt (i j : Nat) (f : Plt → Plt) :
    (s.modPlt i f).lineAt j = if j = i then { s.lineAt i with plt := f (s.lineAt i).plt } else s.lineAt j :=
  State.lineAt_modLine ..
@[simp] theorem State.lineAt_modPlt_self (i : Nat) (f : Plt → Plt) :
    (s.modPlt i f).lineAt i = { s.lineAt i with plt := f (s.lineAt i).plt } := State.lineAt_modLine_self ..

theorem Requester.num_inj {r q : Requester} (h : r.num = q.num) : r = q := by cases r <;> cases q <;> first | rfl | exact absurd h (by decide)

@[simp] theorem State.snapAt_modSnap_self (r : Requester) (f : Snap → Snap) : (s.modSnap r f).snapAt r = f (s.snapAt r) := tget_tmod_same ..
theorem State.snapAt_modSnap (r q : Requester) (f : Snap → Snap) : (s.modSnap r f).snapAt q = if q = r then f (s.snapAt r) else s.snapAt q := by
  refine (tget_tmod ..).trans ?_
  by_cases h : q = r
  · rw [if_pos h, if_pos (congrArg _ h)]; rfl
  · rw [if_neg h, if_neg fun e => h (Requester.num_inj e)]; rfl
@[simp] theorem State.icuAt_modIcu_self (r : Requester) (f : Icu → Icu) : (s.modIcu r f).icuAt r = f (s.icuAt r) := tget_tmod_same ..
theorem State.icuAt_modIcu (r q : Requester) (f : Icu → Icu) : (s.modIcu r f).icuAt q = if q = r then f (s.icuAt r) else s.icuAt q := by
  refine (tget_tmod ..).trans ?_
  by_cases h : q = r
  · rw [if_pos h, if_pos (congrArg _ h)]; rfl
  · rw [if_neg h, if_neg fun e => h (Requester.num_inj e)]; rfl
@[simp] theorem State.queueAt_modQueue_self (r : Requester) (f : EvQueue → EvQueue) : (s.modQueue r f).queueAt r = f (s.queueAt r) := tget_tmod_same ..
theorem State.queueAt_modQueue (r q : Requester) (f : EvQueue → EvQueue) : (s.modQueue r f).queueAt q = if q = r then f (s.queueAt r) else s.queueAt q := by
  refine (tget_tmod ..).trans ?_
  by_cases h : q = r
  · rw [if_pos h, if_pos (congrArg _ h)]; rfl
  · rw [if_neg h, if_neg fun e => h (Requester.num_inj e)]; rfl

@[simp] theorem State.srcAt_modSrc_self (r : Requester) (n : Nat) (f : Src → Src) : (s.modSrc r n f).srcAt r n = f (s.srcAt r n) := by
  simp [State.srcAt, State.modSrc]
@[simp] theorem State.vecAt_modVec_self (r : Requester) (n : Nat) (f : Vec → Vec) : (s.modVec r n f).vecAt r n = f (s.vecAt r n) := by
  simp [State.vecAt, State.modVec]
@[simp] theorem State.boxAt_modBox_self (r : Requester) (n : Nat) (f : Box → Box) : (s.modBox r n f).boxAt r n = f (s.boxAt r n) :=
  tget_tmod_same ..
@[simp] theorem State.dom_modDom_self (d : Domain) (f : DomClk → DomClk) : (s.modDom d f).dom d = f (s.dom d) := by cases d <;> rfl
@[simp] theorem State.pmcAt_setPmc_self (k : Nat) (x : Pmc) : (s.setPmc k x).pmcAt k = x := by simp [State.pmcAt, State.setPmc]
theorem State.pmcAt_setPmc (k j : Nat) (x : Pmc) : (s.setPmc k x).pmcAt j = if j = k then x else s.pmcAt j := by
  simp [State.pmcAt, State.setPmc, tget_tset]
@[simp] theorem State.sliceAt_modSlice_self (l n : Nat) (f : Slice → Slice) : (s.modSlice l n f).sliceAt l n = f (s.sliceAt l n) := by
  simp [State.sliceAt, State.modSlice]
@[simp] theorem State.cellAt_modCell_self (l n : Nat) (f : Cell → Cell) : (s.modCell l n f).cellAt l n = f (s.cellAt l n) := by
  simp [State.cellAt, State.modCell]
@[simp] theorem State.statAt_bumpBy_self (g j i n : Nat) : (s.bumpBy g j i n).statAt g j i = (s.statAt g j i).add n := by
  simp [State.statAt, State.bumpBy]
@[simp] theorem State.statAt_bump_self (g j i : Nat) : (s.bump g j i).statAt g j i = (s.statAt g j i).add 1 := by
  simp [State.bump]

end Sys2Proof.Machine
end

