-- ==== Sys2Proof/Laws/Frames.lean ====
section
/-! SUPPORT. What the shared operations leave alone, field by field, from their `Keep` lemmas. -/

set_option linter.unusedTactic false
set_option linter.unreachableTactic false
set_option linter.unnecessarySeqFocus false
set_option linter.unusedVariables false
set_option linter.unusedSimpArgs false

namespace Sys2Proof.Machine

theorem State.raise_frame (s : State) (code : Nat) (data : List Word) : Keep 0x300 s (State.raise s code data) := State.raise_keep s code data rfl (Keep.refl _ _)
@[simp] theorem State.raise_pending (s : State) (code : Nat) (data : List Word) : (State.raise s code data).pending = s.pending := ((State.raise_frame s code data).1 .pending rfl).symm
@[simp] theorem State.raise_free (s : State) (code : Nat) (data : List Word) : (State.raise s code data).free = s.free := ((State.raise_frame s code data).1 .free rfl).symm
@[simp] theorem State.raise_fuses (s : State) (code : Nat) (data : List Word) : (State.raise s code data).fuses = s.fuses := ((State.raise_frame s code data).1 .fuses rfl).symm
@[simp] theorem State.raise_shut (s : State) (code : Nat) (data : List Word) : (State.raise s code data).shut = s.shut := ((State.raise_frame s code data).1 .shut rfl).symm
@[simp] theorem State.raise_mb (s : State) (code : Nat) (data : List Word) : (State.raise s code data).mb = s.mb := ((State.raise_frame s code data).1 .mb rfl).symm
@[simp] theorem State.raise_ev_urgent (s : State) (code : Nat) (data : List Word) : (State.raise s code data).ev.urgent = s.ev.urgent := ((State.raise_frame s code data).1 .evUrgent rfl).symm
@[simp] theorem State.raise_icu (s : State) (code : Nat) (data : List Word) : (State.raise s code data).icu = s.icu := ((State.raise_frame s code data).1 .icu rfl).symm
@[simp] theorem State.raise_hif_l1 (s : State) (code : Nat) (data : List Word) : (State.raise s code data).hif.l1 = s.hif.l1 := ((State.raise_frame s code data).1 .hifL1 rfl).symm
@[simp] theorem State.raise_err (s : State) (code : Nat) (data : List Word) : (State.raise s code data).err = s.err := ((State.raise_frame s code data).1 .err rfl).symm
@[simp] theorem State.raise_tku (s : State) (code : Nat) (data : List Word) : (State.raise s code data).tku = s.tku := ((State.raise_frame s code data).1 .tku rfl).symm
@[simp] theorem State.raise_params (s : State) (code : Nat) (data : List Word) : (State.raise s code data).params = s.params := ((State.raise_frame s code data).1 .params rfl).symm
@[simp] theorem State.raise_stats (s : State) (code : Nat) (data : List Word) : (State.raise s code data).stats = s.stats := ((State.raise_frame s code data).1 .stats rfl).symm
@[simp] theorem State.raise_group (s : State) (code : Nat) (data : List Word) : (State.raise s code data).group = s.group := ((State.raise_frame s code data).1 .group rfl).symm
@[simp] theorem State.raise_port (s : State) (code : Nat) (data : List Word) : (State.raise s code data).port = s.port := ((State.raise_frame s code data).1 .port rfl).symm
@[simp] theorem State.raise_block (s : State) (code : Nat) (data : List Word) : (State.raise s code data).block = s.block := ((State.raise_frame s code data).1 .block rfl).symm
@[simp] theorem State.raise_eng (s : State) (code : Nat) (data : List Word) : (State.raise s code data).eng = s.eng := ((State.raise_frame s code data).1 .eng rfl).symm
@[simp] theorem State.raise_hinge (s : State) (code : Nat) (data : List Word) : (State.raise s code data).hinge = s.hinge := ((State.raise_frame s code data).1 .hinge rfl).symm
@[simp] theorem State.raise_lex (s : State) (code : Nat) (data : List Word) : (State.raise s code data).lex = s.lex := ((State.raise_frame s code data).1 .lex rfl).symm
@[simp] theorem State.raise_mem_data (s : State) (code : Nat) (data : List Word) : (State.raise s code data).mem.data = s.mem.data := ((State.raise_frame s code data).1 .memData rfl).symm
@[simp] theorem State.raise_rep (s : State) (code : Nat) (data : List Word) : (State.raise s code data).rep = s.rep := ((State.raise_frame s code data).1 .rep rfl).symm
@[simp] theorem State.raise_ocu (s : State) (code : Nat) (data : List Word) : (State.raise s code data).ocu = s.ocu := ((State.raise_frame s code data).1 .ocu rfl).symm
@[simp] theorem State.raise_cal (s : State) (code : Nat) (data : List Word) : (State.raise s code data).cal = s.cal := ((State.raise_frame s code data).1 .cal rfl).symm
@[simp] theorem State.raise_thm (s : State) (code : Nat) (data : List Word) : (State.raise s code data).thm = s.thm := ((State.raise_frame s code data).1 .thm rfl).symm
@[simp] theorem State.raise_tst (s : State) (code : Nat) (data : List Word) : (State.raise s code data).tst = s.tst := ((State.raise_frame s code data).1 .tst rfl).symm
@[simp] theorem State.raise_pmc_ctr (s : State) (code : Nat) (data : List Word) : (State.raise s code data).pmc.ctr = s.pmc.ctr := ((State.raise_frame s code data).1 .pmcCtr rfl).symm
@[simp] theorem State.raise_pwr (s : State) (code : Nat) (data : List Word) : (State.raise s code data).pwr = s.pwr := ((State.raise_frame s code data).1 .pwr rfl).symm
@[simp] theorem State.raise_fw (s : State) (code : Nat) (data : List Word) : (State.raise s code data).fw = s.fw := ((State.raise_frame s code data).1 .fw rfl).symm
@[simp] theorem State.raise_cap (s : State) (code : Nat) (data : List Word) : (State.raise s code data).cap = s.cap := ((State.raise_frame s code data).1 .cap rfl).symm
@[simp] theorem State.raise_dev_busRead (s : State) (code : Nat) (data : List Word) : (State.raise s code data).dev.busRead = s.dev.busRead := ((State.raise_frame s code data).1 .devBus rfl).symm
@[simp] theorem State.raise_dev_rest (s : State) (code : Nat) (data : List Word) : (State.raise s code data).dev.rest = s.dev.rest := ((State.raise_frame s code data).1 .devRest rfl).symm
@[simp] theorem State.raise_hif_rest (s : State) (code : Nat) (data : List Word) : (State.raise s code data).hif.rest = s.hif.rest := ((State.raise_frame s code data).1 .hifRest rfl).symm
@[simp] theorem State.raise_mem_rest (s : State) (code : Nat) (data : List Word) : (State.raise s code data).mem.rest = s.mem.rest := ((State.raise_frame s code data).1 .memRest rfl).symm
@[simp] theorem State.raise_pmc_rest (s : State) (code : Nat) (data : List Word) : (State.raise s code data).pmc.rest = s.pmc.rest := ((State.raise_frame s code data).1 .pmcRest rfl).symm
@[simp] theorem State.raise_dev_mode (s : State) (code : Nat) (data : List Word) : (State.raise s code data).dev.mode = s.dev.mode := ((State.raise_frame s code data).1 .devMode rfl).1.symm
@[simp] theorem State.raise_dev_guard (s : State) (code : Nat) (data : List Word) : (State.raise s code data).dev.guard = s.dev.guard := ((State.raise_frame s code data).1 .devMode rfl).2.1.symm
@[simp] theorem State.raise_dev_guardSince (s : State) (code : Nat) (data : List Word) : (State.raise s code data).dev.guardSince = s.dev.guardSince := ((State.raise_frame s code data).1 .devMode rfl).2.2.symm
@[simp] theorem State.raise_lineAt_lrx_rest (s : State) (code : Nat) (data : List Word) (ln : Nat) : ((State.raise s code data).lineAt ln).lrx.rest = (s.lineAt ln).lrx.rest := (((State.raise_frame s code data).1 .lnRx rfl) ln).symm
@[simp] theorem State.raise_lineAt_lrx (s : State) (code : Nat) (data : List Word) (ln : Nat) : ((State.raise s code data).lineAt ln).lrx = (s.lineAt ln).lrx := (((State.raise_frame s code data).1 .lnRxPower rfl) ln).symm
@[simp] theorem State.raise_lineAt_sea (s : State) (code : Nat) (data : List Word) (ln : Nat) : ((State.raise s code data).lineAt ln).sea = (s.lineAt ln).sea := (((State.raise_frame s code data).1 .lnSea rfl) ln).symm
@[simp] theorem State.raise_lineAt_sdf (s : State) (code : Nat) (data : List Word) (ln : Nat) : ((State.raise s code data).lineAt ln).sdf = (s.lineAt ln).sdf := (((State.raise_frame s code data).1 .lnSdf rfl) ln).symm
@[simp] theorem State.raise_lineAt_ltx (s : State) (code : Nat) (data : List Word) (ln : Nat) : ((State.raise s code data).lineAt ln).ltx = (s.lineAt ln).ltx := (((State.raise_frame s code data).1 .lnLtx rfl) ln).symm
@[simp] theorem State.raise_lineAt_plt (s : State) (code : Nat) (data : List Word) (ln : Nat) : ((State.raise s code data).lineAt ln).plt = (s.lineAt ln).plt := (((State.raise_frame s code data).1 .lnPlt rfl) ln).symm
@[simp] theorem State.raise_lineAt_state (s : State) (code : Nat) (data : List Word) (ln : Nat) : ((State.raise s code data).lineAt ln).state = (s.lineAt ln).state := (((State.raise_frame s code data).1 .lnState rfl) ln).1.symm
@[simp] theorem State.raise_lineAt_stuck (s : State) (code : Nat) (data : List Word) (ln : Nat) : ((State.raise s code data).lineAt ln).stuck = (s.lineAt ln).stuck := (((State.raise_frame s code data).1 .lnState rfl) ln).2.1.symm
@[simp] theorem State.raise_lineAt_badStage (s : State) (code : Nat) (data : List Word) (ln : Nat) : ((State.raise s code data).lineAt ln).badStage = (s.lineAt ln).badStage := (((State.raise_frame s code data).1 .lnState rfl) ln).2.2.symm
@[simp] theorem State.raise_lineAt_optics (s : State) (code : Nat) (data : List Word) (ln : Nat) : ((State.raise s code data).lineAt ln).optics = (s.lineAt ln).optics := (((State.raise_frame s code data).1 .lnOptics rfl) ln).1.symm
@[simp] theorem State.raise_lineAt_optSince (s : State) (code : Nat) (data : List Word) (ln : Nat) : ((State.raise s code data).lineAt ln).optSince = (s.lineAt ln).optSince := (((State.raise_frame s code data).1 .lnOptics rfl) ln).2.symm
@[simp] theorem State.raise_hostAt_rest (s : State) (code : Nat) (data : List Word) (hn : Nat) : ((State.raise s code data).hostAt hn).rest = (s.hostAt hn).rest := (((State.raise_frame s code data).1 .hostRest rfl) hn).symm
@[simp] theorem State.raise_hostAt (s : State) (code : Nat) (data : List Word) (hn : Nat) : (State.raise s code data).hostAt hn = s.hostAt hn := (((State.raise_frame s code data).1 .hostTx rfl) hn).symm

theorem State.pmcEvent_frame (s : State) (ev n : Nat) : Keep 0x20000000300 s (State.pmcEvent s ev n) := State.pmcEvent_keep s ev n rfl (Keep.refl _ _)
@[simp] theorem State.pmcEvent_pending (s : State) (ev n : Nat) : (State.pmcEvent s ev n).pending = s.pending := ((State.pmcEvent_frame s ev n).1 .pending rfl).symm
@[simp] theorem State.pmcEvent_free (s : State) (ev n : Nat) : (State.pmcEvent s ev n).free = s.free := ((State.pmcEvent_frame s ev n).1 .free rfl).symm
@[simp] theorem State.pmcEvent_fuses (s : State) (ev n : Nat) : (State.pmcEvent s ev n).fuses = s.fuses := ((State.pmcEvent_frame s ev n).1 .fuses rfl).symm
@[simp] theorem State.pmcEvent_shut (s : State) (ev n : Nat) : (State.pmcEvent s ev n).shut = s.shut := ((State.pmcEvent_frame s ev n).1 .shut rfl).symm
@[simp] theorem State.pmcEvent_mb (s : State) (ev n : Nat) : (State.pmcEvent s ev n).mb = s.mb := ((State.pmcEvent_frame s ev n).1 .mb rfl).symm
@[simp] theorem State.pmcEvent_ev_urgent (s : State) (ev n : Nat) : (State.pmcEvent s ev n).ev.urgent = s.ev.urgent := ((State.pmcEvent_frame s ev n).1 .evUrgent rfl).symm
@[simp] theorem State.pmcEvent_icu (s : State) (ev n : Nat) : (State.pmcEvent s ev n).icu = s.icu := ((State.pmcEvent_frame s ev n).1 .icu rfl).symm
@[simp] theorem State.pmcEvent_hif_l1 (s : State) (ev n : Nat) : (State.pmcEvent s ev n).hif.l1 = s.hif.l1 := ((State.pmcEvent_frame s ev n).1 .hifL1 rfl).symm
@[simp] theorem State.pmcEvent_err (s : State) (ev n : Nat) : (State.pmcEvent s ev n).err = s.err := ((State.pmcEvent_frame s ev n).1 .err rfl).symm
@[simp] theorem State.pmcEvent_tku (s : State) (ev n : Nat) : (State.pmcEvent s ev n).tku = s.tku := ((State.pmcEvent_frame s ev n).1 .tku rfl).symm
@[simp] theorem State.pmcEvent_params (s : State) (ev n : Nat) : (State.pmcEvent s ev n).params = s.params := ((State.pmcEvent_frame s ev n).1 .params rfl).symm
@[simp] theorem State.pmcEvent_stats (s : State) (ev n : Nat) : (State.pmcEvent s ev n).stats = s.stats := ((State.pmcEvent_frame s ev n).1 .stats rfl).symm
@[simp] theorem State.pmcEvent_group (s : State) (ev n : Nat) : (State.pmcEvent s ev n).group = s.group := ((State.pmcEvent_frame s ev n).1 .group rfl).symm
@[simp] theorem State.pmcEvent_port (s : State) (ev n : Nat) : (State.pmcEvent s ev n).port = s.port := ((State.pmcEvent_frame s ev n).1 .port rfl).symm
@[simp] theorem State.pmcEvent_block (s : State) (ev n : Nat) : (State.pmcEvent s ev n).block = s.block := ((State.pmcEvent_frame s ev n).1 .block rfl).symm
@[simp] theorem State.pmcEvent_eng (s : State) (ev n : Nat) : (State.pmcEvent s ev n).eng = s.eng := ((State.pmcEvent_frame s ev n).1 .eng rfl).symm
@[simp] theorem State.pmcEvent_hinge (s : State) (ev n : Nat) : (State.pmcEvent s ev n).hinge = s.hinge := ((State.pmcEvent_frame s ev n).1 .hinge rfl).symm
@[simp] theorem State.pmcEvent_lex (s : State) (ev n : Nat) : (State.pmcEvent s ev n).lex = s.lex := ((State.pmcEvent_frame s ev n).1 .lex rfl).symm
@[simp] theorem State.pmcEvent_mem_data (s : State) (ev n : Nat) : (State.pmcEvent s ev n).mem.data = s.mem.data := ((State.pmcEvent_frame s ev n).1 .memData rfl).symm
@[simp] theorem State.pmcEvent_rep (s : State) (ev n : Nat) : (State.pmcEvent s ev n).rep = s.rep := ((State.pmcEvent_frame s ev n).1 .rep rfl).symm
@[simp] theorem State.pmcEvent_ocu (s : State) (ev n : Nat) : (State.pmcEvent s ev n).ocu = s.ocu := ((State.pmcEvent_frame s ev n).1 .ocu rfl).symm
@[simp] theorem State.pmcEvent_cal (s : State) (ev n : Nat) : (State.pmcEvent s ev n).cal = s.cal := ((State.pmcEvent_frame s ev n).1 .cal rfl).symm
@[simp] theorem State.pmcEvent_thm (s : State) (ev n : Nat) : (State.pmcEvent s ev n).thm = s.thm := ((State.pmcEvent_frame s ev n).1 .thm rfl).symm
@[simp] theorem State.pmcEvent_tst (s : State) (ev n : Nat) : (State.pmcEvent s ev n).tst = s.tst := ((State.pmcEvent_frame s ev n).1 .tst rfl).symm
@[simp] theorem State.pmcEvent_pwr (s : State) (ev n : Nat) : (State.pmcEvent s ev n).pwr = s.pwr := ((State.pmcEvent_frame s ev n).1 .pwr rfl).symm
@[simp] theorem State.pmcEvent_fw (s : State) (ev n : Nat) : (State.pmcEvent s ev n).fw = s.fw := ((State.pmcEvent_frame s ev n).1 .fw rfl).symm
@[simp] theorem State.pmcEvent_cap (s : State) (ev n : Nat) : (State.pmcEvent s ev n).cap = s.cap := ((State.pmcEvent_frame s ev n).1 .cap rfl).symm
@[simp] theorem State.pmcEvent_dev_busRead (s : State) (ev n : Nat) : (State.pmcEvent s ev n).dev.busRead = s.dev.busRead := ((State.pmcEvent_frame s ev n).1 .devBus rfl).symm
@[simp] theorem State.pmcEvent_dev_rest (s : State) (ev n : Nat) : (State.pmcEvent s ev n).dev.rest = s.dev.rest := ((State.pmcEvent_frame s ev n).1 .devRest rfl).symm
@[simp] theorem State.pmcEvent_hif_rest (s : State) (ev n : Nat) : (State.pmcEvent s ev n).hif.rest = s.hif.rest := ((State.pmcEvent_frame s ev n).1 .hifRest rfl).symm
@[simp] theorem State.pmcEvent_mem_rest (s : State) (ev n : Nat) : (State.pmcEvent s ev n).mem.rest = s.mem.rest := ((State.pmcEvent_frame s ev n).1 .memRest rfl).symm
@[simp] theorem State.pmcEvent_pmc_rest (s : State) (ev n : Nat) : (State.pmcEvent s ev n).pmc.rest = s.pmc.rest := ((State.pmcEvent_frame s ev n).1 .pmcRest rfl).symm
@[simp] theorem State.pmcEvent_dev_mode (s : State) (ev n : Nat) : (State.pmcEvent s ev n).dev.mode = s.dev.mode := ((State.pmcEvent_frame s ev n).1 .devMode rfl).1.symm
@[simp] theorem State.pmcEvent_dev_guard (s : State) (ev n : Nat) : (State.pmcEvent s ev n).dev.guard = s.dev.guard := ((State.pmcEvent_frame s ev n).1 .devMode rfl).2.1.symm
@[simp] theorem State.pmcEvent_dev_guardSince (s : State) (ev n : Nat) : (State.pmcEvent s ev n).dev.guardSince = s.dev.guardSince := ((State.pmcEvent_frame s ev n).1 .devMode rfl).2.2.symm
@[simp] theorem State.pmcEvent_lineAt_lrx_rest (s : State) (ev n : Nat) (ln : Nat) : ((State.pmcEvent s ev n).lineAt ln).lrx.rest = (s.lineAt ln).lrx.rest := (((State.pmcEvent_frame s ev n).1 .lnRx rfl) ln).symm
@[simp] theorem State.pmcEvent_lineAt_lrx (s : State) (ev n : Nat) (ln : Nat) : ((State.pmcEvent s ev n).lineAt ln).lrx = (s.lineAt ln).lrx := (((State.pmcEvent_frame s ev n).1 .lnRxPower rfl) ln).symm
@[simp] theorem State.pmcEvent_lineAt_sea (s : State) (ev n : Nat) (ln : Nat) : ((State.pmcEvent s ev n).lineAt ln).sea = (s.lineAt ln).sea := (((State.pmcEvent_frame s ev n).1 .lnSea rfl) ln).symm
@[simp] theorem State.pmcEvent_lineAt_sdf (s : State) (ev n : Nat) (ln : Nat) : ((State.pmcEvent s ev n).lineAt ln).sdf = (s.lineAt ln).sdf := (((State.pmcEvent_frame s ev n).1 .lnSdf rfl) ln).symm
@[simp] theorem State.pmcEvent_lineAt_ltx (s : State) (ev n : Nat) (ln : Nat) : ((State.pmcEvent s ev n).lineAt ln).ltx = (s.lineAt ln).ltx := (((State.pmcEvent_frame s ev n).1 .lnLtx rfl) ln).symm
@[simp] theorem State.pmcEvent_lineAt_plt (s : State) (ev n : Nat) (ln : Nat) : ((State.pmcEvent s ev n).lineAt ln).plt = (s.lineAt ln).plt := (((State.pmcEvent_frame s ev n).1 .lnPlt rfl) ln).symm
@[simp] theorem State.pmcEvent_lineAt_state (s : State) (ev n : Nat) (ln : Nat) : ((State.pmcEvent s ev n).lineAt ln).state = (s.lineAt ln).state := (((State.pmcEvent_frame s ev n).1 .lnState rfl) ln).1.symm
@[simp] theorem State.pmcEvent_lineAt_stuck (s : State) (ev n : Nat) (ln : Nat) : ((State.pmcEvent s ev n).lineAt ln).stuck = (s.lineAt ln).stuck := (((State.pmcEvent_frame s ev n).1 .lnState rfl) ln).2.1.symm
@[simp] theorem State.pmcEvent_lineAt_badStage (s : State) (ev n : Nat) (ln : Nat) : ((State.pmcEvent s ev n).lineAt ln).badStage = (s.lineAt ln).badStage := (((State.pmcEvent_frame s ev n).1 .lnState rfl) ln).2.2.symm
@[simp] theorem State.pmcEvent_lineAt_optics (s : State) (ev n : Nat) (ln : Nat) : ((State.pmcEvent s ev n).lineAt ln).optics = (s.lineAt ln).optics := (((State.pmcEvent_frame s ev n).1 .lnOptics rfl) ln).1.symm
@[simp] theorem State.pmcEvent_lineAt_optSince (s : State) (ev n : Nat) (ln : Nat) : ((State.pmcEvent s ev n).lineAt ln).optSince = (s.lineAt ln).optSince := (((State.pmcEvent_frame s ev n).1 .lnOptics rfl) ln).2.symm
@[simp] theorem State.pmcEvent_hostAt_rest (s : State) (ev n : Nat) (hn : Nat) : ((State.pmcEvent s ev n).hostAt hn).rest = (s.hostAt hn).rest := (((State.pmcEvent_frame s ev n).1 .hostRest rfl) hn).symm
@[simp] theorem State.pmcEvent_hostAt (s : State) (ev n : Nat) (hn : Nat) : (State.pmcEvent s ev n).hostAt hn = s.hostAt hn := (((State.pmcEvent_frame s ev n).1 .hostTx rfl) hn).symm

theorem State.pmcAdd_frame (s : State) (k n : Nat) : Keep 0x20000000300 s (State.pmcAdd s k n) := State.pmcAdd_keep s k n rfl (Keep.refl _ _)
@[simp] theorem State.pmcAdd_pending (s : State) (k n : Nat) : (State.pmcAdd s k n).pending = s.pending := ((State.pmcAdd_frame s k n).1 .pending rfl).symm
@[simp] theorem State.pmcAdd_free (s : State) (k n : Nat) : (State.pmcAdd s k n).free = s.free := ((State.pmcAdd_frame s k n).1 .free rfl).symm
@[simp] theorem State.pmcAdd_fuses (s : State) (k n : Nat) : (State.pmcAdd s k n).fuses = s.fuses := ((State.pmcAdd_frame s k n).1 .fuses rfl).symm
@[simp] theorem State.pmcAdd_shut (s : State) (k n : Nat) : (State.pmcAdd s k n).shut = s.shut := ((State.pmcAdd_frame s k n).1 .shut rfl).symm
@[simp] theorem State.pmcAdd_mb (s : State) (k n : Nat) : (State.pmcAdd s k n).mb = s.mb := ((State.pmcAdd_frame s k n).1 .mb rfl).symm
@[simp] theorem State.pmcAdd_ev_urgent (s : State) (k n : Nat) : (State.pmcAdd s k n).ev.urgent = s.ev.urgent := ((State.pmcAdd_frame s k n).1 .evUrgent rfl).symm
@[simp] theorem State.pmcAdd_icu (s : State) (k n : Nat) : (State.pmcAdd s k n).icu = s.icu := ((State.pmcAdd_frame s k n).1 .icu rfl).symm
@[simp] theorem State.pmcAdd_hif_l1 (s : State) (k n : Nat) : (State.pmcAdd s k n).hif.l1 = s.hif.l1 := ((State.pmcAdd_frame s k n).1 .hifL1 rfl).symm
@[simp] theorem State.pmcAdd_err (s : State) (k n : Nat) : (State.pmcAdd s k n).err = s.err := ((State.pmcAdd_frame s k n).1 .err rfl).symm
@[simp] theorem State.pmcAdd_tku (s : State) (k n : Nat) : (State.pmcAdd s k n).tku = s.tku := ((State.pmcAdd_frame s k n).1 .tku rfl).symm
@[simp] theorem State.pmcAdd_params (s : State) (k n : Nat) : (State.pmcAdd s k n).params = s.params := ((State.pmcAdd_frame s k n).1 .params rfl).symm
@[simp] theorem State.pmcAdd_stats (s : State) (k n : Nat) : (State.pmcAdd s k n).stats = s.stats := ((State.pmcAdd_frame s k n).1 .stats rfl).symm
@[simp] theorem State.pmcAdd_group (s : State) (k n : Nat) : (State.pmcAdd s k n).group = s.group := ((State.pmcAdd_frame s k n).1 .group rfl).symm
@[simp] theorem State.pmcAdd_port (s : State) (k n : Nat) : (State.pmcAdd s k n).port = s.port := ((State.pmcAdd_frame s k n).1 .port rfl).symm
@[simp] theorem State.pmcAdd_block (s : State) (k n : Nat) : (State.pmcAdd s k n).block = s.block := ((State.pmcAdd_frame s k n).1 .block rfl).symm
@[simp] theorem State.pmcAdd_eng (s : State) (k n : Nat) : (State.pmcAdd s k n).eng = s.eng := ((State.pmcAdd_frame s k n).1 .eng rfl).symm
@[simp] theorem State.pmcAdd_hinge (s : State) (k n : Nat) : (State.pmcAdd s k n).hinge = s.hinge := ((State.pmcAdd_frame s k n).1 .hinge rfl).symm
@[simp] theorem State.pmcAdd_lex (s : State) (k n : Nat) : (State.pmcAdd s k n).lex = s.lex := ((State.pmcAdd_frame s k n).1 .lex rfl).symm
@[simp] theorem State.pmcAdd_mem_data (s : State) (k n : Nat) : (State.pmcAdd s k n).mem.data = s.mem.data := ((State.pmcAdd_frame s k n).1 .memData rfl).symm
@[simp] theorem State.pmcAdd_rep (s : State) (k n : Nat) : (State.pmcAdd s k n).rep = s.rep := ((State.pmcAdd_frame s k n).1 .rep rfl).symm
@[simp] theorem State.pmcAdd_ocu (s : State) (k n : Nat) : (State.pmcAdd s k n).ocu = s.ocu := ((State.pmcAdd_frame s k n).1 .ocu rfl).symm
@[simp] theorem State.pmcAdd_cal (s : State) (k n : Nat) : (State.pmcAdd s k n).cal = s.cal := ((State.pmcAdd_frame s k n).1 .cal rfl).symm
@[simp] theorem State.pmcAdd_thm (s : State) (k n : Nat) : (State.pmcAdd s k n).thm = s.thm := ((State.pmcAdd_frame s k n).1 .thm rfl).symm
@[simp] theorem State.pmcAdd_tst (s : State) (k n : Nat) : (State.pmcAdd s k n).tst = s.tst := ((State.pmcAdd_frame s k n).1 .tst rfl).symm
@[simp] theorem State.pmcAdd_pwr (s : State) (k n : Nat) : (State.pmcAdd s k n).pwr = s.pwr := ((State.pmcAdd_frame s k n).1 .pwr rfl).symm
@[simp] theorem State.pmcAdd_fw (s : State) (k n : Nat) : (State.pmcAdd s k n).fw = s.fw := ((State.pmcAdd_frame s k n).1 .fw rfl).symm
@[simp] theorem State.pmcAdd_cap (s : State) (k n : Nat) : (State.pmcAdd s k n).cap = s.cap := ((State.pmcAdd_frame s k n).1 .cap rfl).symm
@[simp] theorem State.pmcAdd_dev_busRead (s : State) (k n : Nat) : (State.pmcAdd s k n).dev.busRead = s.dev.busRead := ((State.pmcAdd_frame s k n).1 .devBus rfl).symm
@[simp] theorem State.pmcAdd_dev_rest (s : State) (k n : Nat) : (State.pmcAdd s k n).dev.rest = s.dev.rest := ((State.pmcAdd_frame s k n).1 .devRest rfl).symm
@[simp] theorem State.pmcAdd_hif_rest (s : State) (k n : Nat) : (State.pmcAdd s k n).hif.rest = s.hif.rest := ((State.pmcAdd_frame s k n).1 .hifRest rfl).symm
@[simp] theorem State.pmcAdd_mem_rest (s : State) (k n : Nat) : (State.pmcAdd s k n).mem.rest = s.mem.rest := ((State.pmcAdd_frame s k n).1 .memRest rfl).symm
@[simp] theorem State.pmcAdd_pmc_rest (s : State) (k n : Nat) : (State.pmcAdd s k n).pmc.rest = s.pmc.rest := ((State.pmcAdd_frame s k n).1 .pmcRest rfl).symm
@[simp] theorem State.pmcAdd_dev_mode (s : State) (k n : Nat) : (State.pmcAdd s k n).dev.mode = s.dev.mode := ((State.pmcAdd_frame s k n).1 .devMode rfl).1.symm
@[simp] theorem State.pmcAdd_dev_guard (s : State) (k n : Nat) : (State.pmcAdd s k n).dev.guard = s.dev.guard := ((State.pmcAdd_frame s k n).1 .devMode rfl).2.1.symm
@[simp] theorem State.pmcAdd_dev_guardSince (s : State) (k n : Nat) : (State.pmcAdd s k n).dev.guardSince = s.dev.guardSince := ((State.pmcAdd_frame s k n).1 .devMode rfl).2.2.symm
@[simp] theorem State.pmcAdd_lineAt_lrx_rest (s : State) (k n : Nat) (ln : Nat) : ((State.pmcAdd s k n).lineAt ln).lrx.rest = (s.lineAt ln).lrx.rest := (((State.pmcAdd_frame s k n).1 .lnRx rfl) ln).symm
@[simp] theorem State.pmcAdd_lineAt_lrx (s : State) (k n : Nat) (ln : Nat) : ((State.pmcAdd s k n).lineAt ln).lrx = (s.lineAt ln).lrx := (((State.pmcAdd_frame s k n).1 .lnRxPower rfl) ln).symm
@[simp] theorem State.pmcAdd_lineAt_sea (s : State) (k n : Nat) (ln : Nat) : ((State.pmcAdd s k n).lineAt ln).sea = (s.lineAt ln).sea := (((State.pmcAdd_frame s k n).1 .lnSea rfl) ln).symm
@[simp] theorem State.pmcAdd_lineAt_sdf (s : State) (k n : Nat) (ln : Nat) : ((State.pmcAdd s k n).lineAt ln).sdf = (s.lineAt ln).sdf := (((State.pmcAdd_frame s k n).1 .lnSdf rfl) ln).symm
@[simp] theorem State.pmcAdd_lineAt_ltx (s : State) (k n : Nat) (ln : Nat) : ((State.pmcAdd s k n).lineAt ln).ltx = (s.lineAt ln).ltx := (((State.pmcAdd_frame s k n).1 .lnLtx rfl) ln).symm
@[simp] theorem State.pmcAdd_lineAt_plt (s : State) (k n : Nat) (ln : Nat) : ((State.pmcAdd s k n).lineAt ln).plt = (s.lineAt ln).plt := (((State.pmcAdd_frame s k n).1 .lnPlt rfl) ln).symm
@[simp] theorem State.pmcAdd_lineAt_state (s : State) (k n : Nat) (ln : Nat) : ((State.pmcAdd s k n).lineAt ln).state = (s.lineAt ln).state := (((State.pmcAdd_frame s k n).1 .lnState rfl) ln).1.symm
@[simp] theorem State.pmcAdd_lineAt_stuck (s : State) (k n : Nat) (ln : Nat) : ((State.pmcAdd s k n).lineAt ln).stuck = (s.lineAt ln).stuck := (((State.pmcAdd_frame s k n).1 .lnState rfl) ln).2.1.symm
@[simp] theorem State.pmcAdd_lineAt_badStage (s : State) (k n : Nat) (ln : Nat) : ((State.pmcAdd s k n).lineAt ln).badStage = (s.lineAt ln).badStage := (((State.pmcAdd_frame s k n).1 .lnState rfl) ln).2.2.symm
@[simp] theorem State.pmcAdd_lineAt_optics (s : State) (k n : Nat) (ln : Nat) : ((State.pmcAdd s k n).lineAt ln).optics = (s.lineAt ln).optics := (((State.pmcAdd_frame s k n).1 .lnOptics rfl) ln).1.symm
@[simp] theorem State.pmcAdd_lineAt_optSince (s : State) (k n : Nat) (ln : Nat) : ((State.pmcAdd s k n).lineAt ln).optSince = (s.lineAt ln).optSince := (((State.pmcAdd_frame s k n).1 .lnOptics rfl) ln).2.symm
@[simp] theorem State.pmcAdd_hostAt_rest (s : State) (k n : Nat) (hn : Nat) : ((State.pmcAdd s k n).hostAt hn).rest = (s.hostAt hn).rest := (((State.pmcAdd_frame s k n).1 .hostRest rfl) hn).symm
@[simp] theorem State.pmcAdd_hostAt (s : State) (k n : Nat) (hn : Nat) : (State.pmcAdd s k n).hostAt hn = s.hostAt hn := (((State.pmcAdd_frame s k n).1 .hostTx rfl) hn).symm

theorem State.pmcEngine_frame (s : State) (e ev n : Nat) : Keep 0x20000000300 s (State.pmcEngine s e ev n) := State.pmcEngine_keep s e ev n rfl (Keep.refl _ _)
@[simp] theorem State.pmcEngine_pending (s : State) (e ev n : Nat) : (State.pmcEngine s e ev n).pending = s.pending := ((State.pmcEngine_frame s e ev n).1 .pending rfl).symm
@[simp] theorem State.pmcEngine_free (s : State) (e ev n : Nat) : (State.pmcEngine s e ev n).free = s.free := ((State.pmcEngine_frame s e ev n).1 .free rfl).symm
@[simp] theorem State.pmcEngine_fuses (s : State) (e ev n : Nat) : (State.pmcEngine s e ev n).fuses = s.fuses := ((State.pmcEngine_frame s e ev n).1 .fuses rfl).symm
@[simp] theorem State.pmcEngine_shut (s : State) (e ev n : Nat) : (State.pmcEngine s e ev n).shut = s.shut := ((State.pmcEngine_frame s e ev n).1 .shut rfl).symm
@[simp] theorem State.pmcEngine_mb (s : State) (e ev n : Nat) : (State.pmcEngine s e ev n).mb = s.mb := ((State.pmcEngine_frame s e ev n).1 .mb rfl).symm
@[simp] theorem State.pmcEngine_ev_urgent (s : State) (e ev n : Nat) : (State.pmcEngine s e ev n).ev.urgent = s.ev.urgent := ((State.pmcEngine_frame s e ev n).1 .evUrgent rfl).symm
@[simp] theorem State.pmcEngine_icu (s : State) (e ev n : Nat) : (State.pmcEngine s e ev n).icu = s.icu := ((State.pmcEngine_frame s e ev n).1 .icu rfl).symm
@[simp] theorem State.pmcEngine_hif_l1 (s : State) (e ev n : Nat) : (State.pmcEngine s e ev n).hif.l1 = s.hif.l1 := ((State.pmcEngine_frame s e ev n).1 .hifL1 rfl).symm
@[simp] theorem State.pmcEngine_err (s : State) (e ev n : Nat) : (State.pmcEngine s e ev n).err = s.err := ((State.pmcEngine_frame s e ev n).1 .err rfl).symm
@[simp] theorem State.pmcEngine_tku (s : State) (e ev n : Nat) : (State.pmcEngine s e ev n).tku = s.tku := ((State.pmcEngine_frame s e ev n).1 .tku rfl).symm
@[simp] theorem State.pmcEngine_params (s : State) (e ev n : Nat) : (State.pmcEngine s e ev n).params = s.params := ((State.pmcEngine_frame s e ev n).1 .params rfl).symm
@[simp] theorem State.pmcEngine_stats (s : State) (e ev n : Nat) : (State.pmcEngine s e ev n).stats = s.stats := ((State.pmcEngine_frame s e ev n).1 .stats rfl).symm
@[simp] theorem State.pmcEngine_group (s : State) (e ev n : Nat) : (State.pmcEngine s e ev n).group = s.group := ((State.pmcEngine_frame s e ev n).1 .group rfl).symm
@[simp] theorem State.pmcEngine_port (s : State) (e ev n : Nat) : (State.pmcEngine s e ev n).port = s.port := ((State.pmcEngine_frame s e ev n).1 .port rfl).symm
@[simp] theorem State.pmcEngine_block (s : State) (e ev n : Nat) : (State.pmcEngine s e ev n).block = s.block := ((State.pmcEngine_frame s e ev n).1 .block rfl).symm
@[simp] theorem State.pmcEngine_eng (s : State) (e ev n : Nat) : (State.pmcEngine s e ev n).eng = s.eng := ((State.pmcEngine_frame s e ev n).1 .eng rfl).symm
@[simp] theorem State.pmcEngine_hinge (s : State) (e ev n : Nat) : (State.pmcEngine s e ev n).hinge = s.hinge := ((State.pmcEngine_frame s e ev n).1 .hinge rfl).symm
@[simp] theorem State.pmcEngine_lex (s : State) (e ev n : Nat) : (State.pmcEngine s e ev n).lex = s.lex := ((State.pmcEngine_frame s e ev n).1 .lex rfl).symm
@[simp] theorem State.pmcEngine_mem_data (s : State) (e ev n : Nat) : (State.pmcEngine s e ev n).mem.data = s.mem.data := ((State.pmcEngine_frame s e ev n).1 .memData rfl).symm
@[simp] theorem State.pmcEngine_rep (s : State) (e ev n : Nat) : (State.pmcEngine s e ev n).rep = s.rep := ((State.pmcEngine_frame s e ev n).1 .rep rfl).symm
@[simp] theorem State.pmcEngine_ocu (s : State) (e ev n : Nat) : (State.pmcEngine s e ev n).ocu = s.ocu := ((State.pmcEngine_frame s e ev n).1 .ocu rfl).symm
@[simp] theorem State.pmcEngine_cal (s : State) (e ev n : Nat) : (State.pmcEngine s e ev n).cal = s.cal := ((State.pmcEngine_frame s e ev n).1 .cal rfl).symm
@[simp] theorem State.pmcEngine_thm (s : State) (e ev n : Nat) : (State.pmcEngine s e ev n).thm = s.thm := ((State.pmcEngine_frame s e ev n).1 .thm rfl).symm
@[simp] theorem State.pmcEngine_tst (s : State) (e ev n : Nat) : (State.pmcEngine s e ev n).tst = s.tst := ((State.pmcEngine_frame s e ev n).1 .tst rfl).symm
@[simp] theorem State.pmcEngine_pwr (s : State) (e ev n : Nat) : (State.pmcEngine s e ev n).pwr = s.pwr := ((State.pmcEngine_frame s e ev n).1 .pwr rfl).symm
@[simp] theorem State.pmcEngine_fw (s : State) (e ev n : Nat) : (State.pmcEngine s e ev n).fw = s.fw := ((State.pmcEngine_frame s e ev n).1 .fw rfl).symm
@[simp] theorem State.pmcEngine_cap (s : State) (e ev n : Nat) : (State.pmcEngine s e ev n).cap = s.cap := ((State.pmcEngine_frame s e ev n).1 .cap rfl).symm
@[simp] theorem State.pmcEngine_dev_busRead (s : State) (e ev n : Nat) : (State.pmcEngine s e ev n).dev.busRead = s.dev.busRead := ((State.pmcEngine_frame s e ev n).1 .devBus rfl).symm
@[simp] theorem State.pmcEngine_dev_rest (s : State) (e ev n : Nat) : (State.pmcEngine s e ev n).dev.rest = s.dev.rest := ((State.pmcEngine_frame s e ev n).1 .devRest rfl).symm
@[simp] theorem State.pmcEngine_hif_rest (s : State) (e ev n : Nat) : (State.pmcEngine s e ev n).hif.rest = s.hif.rest := ((State.pmcEngine_frame s e ev n).1 .hifRest rfl).symm
@[simp] theorem State.pmcEngine_mem_rest (s : State) (e ev n : Nat) : (State.pmcEngine s e ev n).mem.rest = s.mem.rest := ((State.pmcEngine_frame s e ev n).1 .memRest rfl).symm
@[simp] theorem State.pmcEngine_pmc_rest (s : State) (e ev n : Nat) : (State.pmcEngine s e ev n).pmc.rest = s.pmc.rest := ((State.pmcEngine_frame s e ev n).1 .pmcRest rfl).symm
@[simp] theorem State.pmcEngine_dev_mode (s : State) (e ev n : Nat) : (State.pmcEngine s e ev n).dev.mode = s.dev.mode := ((State.pmcEngine_frame s e ev n).1 .devMode rfl).1.symm
@[simp] theorem State.pmcEngine_dev_guard (s : State) (e ev n : Nat) : (State.pmcEngine s e ev n).dev.guard = s.dev.guard := ((State.pmcEngine_frame s e ev n).1 .devMode rfl).2.1.symm
@[simp] theorem State.pmcEngine_dev_guardSince (s : State) (e ev n : Nat) : (State.pmcEngine s e ev n).dev.guardSince = s.dev.guardSince := ((State.pmcEngine_frame s e ev n).1 .devMode rfl).2.2.symm
@[simp] theorem State.pmcEngine_lineAt_lrx_rest (s : State) (e ev n : Nat) (ln : Nat) : ((State.pmcEngine s e ev n).lineAt ln).lrx.rest = (s.lineAt ln).lrx.rest := (((State.pmcEngine_frame s e ev n).1 .lnRx rfl) ln).symm
@[simp] theorem State.pmcEngine_lineAt_lrx (s : State) (e ev n : Nat) (ln : Nat) : ((State.pmcEngine s e ev n).lineAt ln).lrx = (s.lineAt ln).lrx := (((State.pmcEngine_frame s e ev n).1 .lnRxPower rfl) ln).symm
@[simp] theorem State.pmcEngine_lineAt_sea (s : State) (e ev n : Nat) (ln : Nat) : ((State.pmcEngine s e ev n).lineAt ln).sea = (s.lineAt ln).sea := (((State.pmcEngine_frame s e ev n).1 .lnSea rfl) ln).symm
@[simp] theorem State.pmcEngine_lineAt_sdf (s : State) (e ev n : Nat) (ln : Nat) : ((State.pmcEngine s e ev n).lineAt ln).sdf = (s.lineAt ln).sdf := (((State.pmcEngine_frame s e ev n).1 .lnSdf rfl) ln).symm
@[simp] theorem State.pmcEngine_lineAt_ltx (s : State) (e ev n : Nat) (ln : Nat) : ((State.pmcEngine s e ev n).lineAt ln).ltx = (s.lineAt ln).ltx := (((State.pmcEngine_frame s e ev n).1 .lnLtx rfl) ln).symm
@[simp] theorem State.pmcEngine_lineAt_plt (s : State) (e ev n : Nat) (ln : Nat) : ((State.pmcEngine s e ev n).lineAt ln).plt = (s.lineAt ln).plt := (((State.pmcEngine_frame s e ev n).1 .lnPlt rfl) ln).symm
@[simp] theorem State.pmcEngine_lineAt_state (s : State) (e ev n : Nat) (ln : Nat) : ((State.pmcEngine s e ev n).lineAt ln).state = (s.lineAt ln).state := (((State.pmcEngine_frame s e ev n).1 .lnState rfl) ln).1.symm
@[simp] theorem State.pmcEngine_lineAt_stuck (s : State) (e ev n : Nat) (ln : Nat) : ((State.pmcEngine s e ev n).lineAt ln).stuck = (s.lineAt ln).stuck := (((State.pmcEngine_frame s e ev n).1 .lnState rfl) ln).2.1.symm
@[simp] theorem State.pmcEngine_lineAt_badStage (s : State) (e ev n : Nat) (ln : Nat) : ((State.pmcEngine s e ev n).lineAt ln).badStage = (s.lineAt ln).badStage := (((State.pmcEngine_frame s e ev n).1 .lnState rfl) ln).2.2.symm
@[simp] theorem State.pmcEngine_lineAt_optics (s : State) (e ev n : Nat) (ln : Nat) : ((State.pmcEngine s e ev n).lineAt ln).optics = (s.lineAt ln).optics := (((State.pmcEngine_frame s e ev n).1 .lnOptics rfl) ln).1.symm
@[simp] theorem State.pmcEngine_lineAt_optSince (s : State) (e ev n : Nat) (ln : Nat) : ((State.pmcEngine s e ev n).lineAt ln).optSince = (s.lineAt ln).optSince := (((State.pmcEngine_frame s e ev n).1 .lnOptics rfl) ln).2.symm
@[simp] theorem State.pmcEngine_hostAt_rest (s : State) (e ev n : Nat) (hn : Nat) : ((State.pmcEngine s e ev n).hostAt hn).rest = (s.hostAt hn).rest := (((State.pmcEngine_frame s e ev n).1 .hostRest rfl) hn).symm
@[simp] theorem State.pmcEngine_hostAt (s : State) (e ev n : Nat) (hn : Nat) : (State.pmcEngine s e ev n).hostAt hn = s.hostAt hn := (((State.pmcEngine_frame s e ev n).1 .hostTx rfl) hn).symm

theorem State.errSet_frame (s : State) (r : Requester) (bit : Nat) : Keep 0x4000 s (State.errSet s r bit) := State.errSet_keep s r bit rfl (Keep.refl _ _)
@[simp] theorem State.errSet_pending (s : State) (r : Requester) (bit : Nat) : (State.errSet s r bit).pending = s.pending := ((State.errSet_frame s r bit).1 .pending rfl).symm
@[simp] theorem State.errSet_free (s : State) (r : Requester) (bit : Nat) : (State.errSet s r bit).free = s.free := ((State.errSet_frame s r bit).1 .free rfl).symm
@[simp] theorem State.errSet_fuses (s : State) (r : Requester) (bit : Nat) : (State.errSet s r bit).fuses = s.fuses := ((State.errSet_frame s r bit).1 .fuses rfl).symm
@[simp] theorem State.errSet_shut (s : State) (r : Requester) (bit : Nat) : (State.errSet s r bit).shut = s.shut := ((State.errSet_frame s r bit).1 .shut rfl).symm
@[simp] theorem State.errSet_mb (s : State) (r : Requester) (bit : Nat) : (State.errSet s r bit).mb = s.mb := ((State.errSet_frame s r bit).1 .mb rfl).symm
@[simp] theorem State.errSet_ev_raised (s : State) (r : Requester) (bit : Nat) : (State.errSet s r bit).ev.raised = s.ev.raised := ((State.errSet_frame s r bit).1 .evRaised rfl).symm
@[simp] theorem State.errSet_ev_queue (s : State) (r : Requester) (bit : Nat) : (State.errSet s r bit).ev.queue = s.ev.queue := ((State.errSet_frame s r bit).1 .evQueue rfl).symm
@[simp] theorem State.errSet_ev_urgent (s : State) (r : Requester) (bit : Nat) : (State.errSet s r bit).ev.urgent = s.ev.urgent := ((State.errSet_frame s r bit).1 .evUrgent rfl).symm
@[simp] theorem State.errSet_icu (s : State) (r : Requester) (bit : Nat) : (State.errSet s r bit).icu = s.icu := ((State.errSet_frame s r bit).1 .icu rfl).symm
@[simp] theorem State.errSet_hif_l1 (s : State) (r : Requester) (bit : Nat) : (State.errSet s r bit).hif.l1 = s.hif.l1 := ((State.errSet_frame s r bit).1 .hifL1 rfl).symm
@[simp] theorem State.errSet_tku (s : State) (r : Requester) (bit : Nat) : (State.errSet s r bit).tku = s.tku := ((State.errSet_frame s r bit).1 .tku rfl).symm
@[simp] theorem State.errSet_params (s : State) (r : Requester) (bit : Nat) : (State.errSet s r bit).params = s.params := ((State.errSet_frame s r bit).1 .params rfl).symm
@[simp] theorem State.errSet_stats (s : State) (r : Requester) (bit : Nat) : (State.errSet s r bit).stats = s.stats := ((State.errSet_frame s r bit).1 .stats rfl).symm
@[simp] theorem State.errSet_group (s : State) (r : Requester) (bit : Nat) : (State.errSet s r bit).group = s.group := ((State.errSet_frame s r bit).1 .group rfl).symm
@[simp] theorem State.errSet_port (s : State) (r : Requester) (bit : Nat) : (State.errSet s r bit).port = s.port := ((State.errSet_frame s r bit).1 .port rfl).symm
@[simp] theorem State.errSet_block (s : State) (r : Requester) (bit : Nat) : (State.errSet s r bit).block = s.block := ((State.errSet_frame s r bit).1 .block rfl).symm
@[simp] theorem State.errSet_eng (s : State) (r : Requester) (bit : Nat) : (State.errSet s r bit).eng = s.eng := ((State.errSet_frame s r bit).1 .eng rfl).symm
@[simp] theorem State.errSet_hinge (s : State) (r : Requester) (bit : Nat) : (State.errSet s r bit).hinge = s.hinge := ((State.errSet_frame s r bit).1 .hinge rfl).symm
@[simp] theorem State.errSet_lex (s : State) (r : Requester) (bit : Nat) : (State.errSet s r bit).lex = s.lex := ((State.errSet_frame s r bit).1 .lex rfl).symm
@[simp] theorem State.errSet_mem_data (s : State) (r : Requester) (bit : Nat) : (State.errSet s r bit).mem.data = s.mem.data := ((State.errSet_frame s r bit).1 .memData rfl).symm
@[simp] theorem State.errSet_rep (s : State) (r : Requester) (bit : Nat) : (State.errSet s r bit).rep = s.rep := ((State.errSet_frame s r bit).1 .rep rfl).symm
@[simp] theorem State.errSet_ocu (s : State) (r : Requester) (bit : Nat) : (State.errSet s r bit).ocu = s.ocu := ((State.errSet_frame s r bit).1 .ocu rfl).symm
@[simp] theorem State.errSet_cal (s : State) (r : Requester) (bit : Nat) : (State.errSet s r bit).cal = s.cal := ((State.errSet_frame s r bit).1 .cal rfl).symm
@[simp] theorem State.errSet_thm (s : State) (r : Requester) (bit : Nat) : (State.errSet s r bit).thm = s.thm := ((State.errSet_frame s r bit).1 .thm rfl).symm
@[simp] theorem State.errSet_tst (s : State) (r : Requester) (bit : Nat) : (State.errSet s r bit).tst = s.tst := ((State.errSet_frame s r bit).1 .tst rfl).symm
@[simp] theorem State.errSet_pmc_ctr (s : State) (r : Requester) (bit : Nat) : (State.errSet s r bit).pmc.ctr = s.pmc.ctr := ((State.errSet_frame s r bit).1 .pmcCtr rfl).symm
@[simp] theorem State.errSet_pwr (s : State) (r : Requester) (bit : Nat) : (State.errSet s r bit).pwr = s.pwr := ((State.errSet_frame s r bit).1 .pwr rfl).symm
@[simp] theorem State.errSet_fw (s : State) (r : Requester) (bit : Nat) : (State.errSet s r bit).fw = s.fw := ((State.errSet_frame s r bit).1 .fw rfl).symm
@[simp] theorem State.errSet_cap (s : State) (r : Requester) (bit : Nat) : (State.errSet s r bit).cap = s.cap := ((State.errSet_frame s r bit).1 .cap rfl).symm
@[simp] theorem State.errSet_dev_busRead (s : State) (r : Requester) (bit : Nat) : (State.errSet s r bit).dev.busRead = s.dev.busRead := ((State.errSet_frame s r bit).1 .devBus rfl).symm
@[simp] theorem State.errSet_dev_rest (s : State) (r : Requester) (bit : Nat) : (State.errSet s r bit).dev.rest = s.dev.rest := ((State.errSet_frame s r bit).1 .devRest rfl).symm
@[simp] theorem State.errSet_hif_rest (s : State) (r : Requester) (bit : Nat) : (State.errSet s r bit).hif.rest = s.hif.rest := ((State.errSet_frame s r bit).1 .hifRest rfl).symm
@[simp] theorem State.errSet_mem_rest (s : State) (r : Requester) (bit : Nat) : (State.errSet s r bit).mem.rest = s.mem.rest := ((State.errSet_frame s r bit).1 .memRest rfl).symm
@[simp] theorem State.errSet_pmc_rest (s : State) (r : Requester) (bit : Nat) : (State.errSet s r bit).pmc.rest = s.pmc.rest := ((State.errSet_frame s r bit).1 .pmcRest rfl).symm
@[simp] theorem State.errSet_dev_mode (s : State) (r : Requester) (bit : Nat) : (State.errSet s r bit).dev.mode = s.dev.mode := ((State.errSet_frame s r bit).1 .devMode rfl).1.symm
@[simp] theorem State.errSet_dev_guard (s : State) (r : Requester) (bit : Nat) : (State.errSet s r bit).dev.guard = s.dev.guard := ((State.errSet_frame s r bit).1 .devMode rfl).2.1.symm
@[simp] theorem State.errSet_dev_guardSince (s : State) (r : Requester) (bit : Nat) : (State.errSet s r bit).dev.guardSince = s.dev.guardSince := ((State.errSet_frame s r bit).1 .devMode rfl).2.2.symm
@[simp] theorem State.errSet_lineAt_lrx_rest (s : State) (r : Requester) (bit : Nat) (ln : Nat) : ((State.errSet s r bit).lineAt ln).lrx.rest = (s.lineAt ln).lrx.rest := (((State.errSet_frame s r bit).1 .lnRx rfl) ln).symm
@[simp] theorem State.errSet_lineAt_lrx (s : State) (r : Requester) (bit : Nat) (ln : Nat) : ((State.errSet s r bit).lineAt ln).lrx = (s.lineAt ln).lrx := (((State.errSet_frame s r bit).1 .lnRxPower rfl) ln).symm
@[simp] theorem State.errSet_lineAt_sea (s : State) (r : Requester) (bit : Nat) (ln : Nat) : ((State.errSet s r bit).lineAt ln).sea = (s.lineAt ln).sea := (((State.errSet_frame s r bit).1 .lnSea rfl) ln).symm
@[simp] theorem State.errSet_lineAt_sdf (s : State) (r : Requester) (bit : Nat) (ln : Nat) : ((State.errSet s r bit).lineAt ln).sdf = (s.lineAt ln).sdf := (((State.errSet_frame s r bit).1 .lnSdf rfl) ln).symm
@[simp] theorem State.errSet_lineAt_ltx (s : State) (r : Requester) (bit : Nat) (ln : Nat) : ((State.errSet s r bit).lineAt ln).ltx = (s.lineAt ln).ltx := (((State.errSet_frame s r bit).1 .lnLtx rfl) ln).symm
@[simp] theorem State.errSet_lineAt_plt (s : State) (r : Requester) (bit : Nat) (ln : Nat) : ((State.errSet s r bit).lineAt ln).plt = (s.lineAt ln).plt := (((State.errSet_frame s r bit).1 .lnPlt rfl) ln).symm
@[simp] theorem State.errSet_lineAt_state (s : State) (r : Requester) (bit : Nat) (ln : Nat) : ((State.errSet s r bit).lineAt ln).state = (s.lineAt ln).state := (((State.errSet_frame s r bit).1 .lnState rfl) ln).1.symm
@[simp] theorem State.errSet_lineAt_stuck (s : State) (r : Requester) (bit : Nat) (ln : Nat) : ((State.errSet s r bit).lineAt ln).stuck = (s.lineAt ln).stuck := (((State.errSet_frame s r bit).1 .lnState rfl) ln).2.1.symm
@[simp] theorem State.errSet_lineAt_badStage (s : State) (r : Requester) (bit : Nat) (ln : Nat) : ((State.errSet s r bit).lineAt ln).badStage = (s.lineAt ln).badStage := (((State.errSet_frame s r bit).1 .lnState rfl) ln).2.2.symm
@[simp] theorem State.errSet_lineAt_optics (s : State) (r : Requester) (bit : Nat) (ln : Nat) : ((State.errSet s r bit).lineAt ln).optics = (s.lineAt ln).optics := (((State.errSet_frame s r bit).1 .lnOptics rfl) ln).1.symm
@[simp] theorem State.errSet_lineAt_optSince (s : State) (r : Requester) (bit : Nat) (ln : Nat) : ((State.errSet s r bit).lineAt ln).optSince = (s.lineAt ln).optSince := (((State.errSet_frame s r bit).1 .lnOptics rfl) ln).2.symm
@[simp] theorem State.errSet_hostAt_rest (s : State) (r : Requester) (bit : Nat) (hn : Nat) : ((State.errSet s r bit).hostAt hn).rest = (s.hostAt hn).rest := (((State.errSet_frame s r bit).1 .hostRest rfl) hn).symm
@[simp] theorem State.errSet_hostAt (s : State) (r : Requester) (bit : Nat) (hn : Nat) : (State.errSet s r bit).hostAt hn = s.hostAt hn := (((State.errSet_frame s r bit).1 .hostTx rfl) hn).symm

theorem State.errAll_frame (s : State) (bit : Nat) : Keep 0x4000 s (State.errAll s bit) := State.errAll_keep s bit rfl (Keep.refl _ _)
@[simp] theorem State.errAll_pending (s : State) (bit : Nat) : (State.errAll s bit).pending = s.pending := ((State.errAll_frame s bit).1 .pending rfl).symm
@[simp] theorem State.errAll_free (s : State) (bit : Nat) : (State.errAll s bit).free = s.free := ((State.errAll_frame s bit).1 .free rfl).symm
@[simp] theorem State.errAll_fuses (s : State) (bit : Nat) : (State.errAll s bit).fuses = s.fuses := ((State.errAll_frame s bit).1 .fuses rfl).symm
@[simp] theorem State.errAll_shut (s : State) (bit : Nat) : (State.errAll s bit).shut = s.shut := ((State.errAll_frame s bit).1 .shut rfl).symm
@[simp] theorem State.errAll_mb (s : State) (bit : Nat) : (State.errAll s bit).mb = s.mb := ((State.errAll_frame s bit).1 .mb rfl).symm
@[simp] theorem State.errAll_ev_raised (s : State) (bit : Nat) : (State.errAll s bit).ev.raised = s.ev.raised := ((State.errAll_frame s bit).1 .evRaised rfl).symm
@[simp] theorem State.errAll_ev_queue (s : State) (bit : Nat) : (State.errAll s bit).ev.queue = s.ev.queue := ((State.errAll_frame s bit).1 .evQueue rfl).symm
@[simp] theorem State.errAll_ev_urgent (s : State) (bit : Nat) : (State.errAll s bit).ev.urgent = s.ev.urgent := ((State.errAll_frame s bit).1 .evUrgent rfl).symm
@[simp] theorem State.errAll_icu (s : State) (bit : Nat) : (State.errAll s bit).icu = s.icu := ((State.errAll_frame s bit).1 .icu rfl).symm
@[simp] theorem State.errAll_hif_l1 (s : State) (bit : Nat) : (State.errAll s bit).hif.l1 = s.hif.l1 := ((State.errAll_frame s bit).1 .hifL1 rfl).symm
@[simp] theorem State.errAll_tku (s : State) (bit : Nat) : (State.errAll s bit).tku = s.tku := ((State.errAll_frame s bit).1 .tku rfl).symm
@[simp] theorem State.errAll_params (s : State) (bit : Nat) : (State.errAll s bit).params = s.params := ((State.errAll_frame s bit).1 .params rfl).symm
@[simp] theorem State.errAll_stats (s : State) (bit : Nat) : (State.errAll s bit).stats = s.stats := ((State.errAll_frame s bit).1 .stats rfl).symm
@[simp] theorem State.errAll_group (s : State) (bit : Nat) : (State.errAll s bit).group = s.group := ((State.errAll_frame s bit).1 .group rfl).symm
@[simp] theorem State.errAll_port (s : State) (bit : Nat) : (State.errAll s bit).port = s.port := ((State.errAll_frame s bit).1 .port rfl).symm
@[simp] theorem State.errAll_block (s : State) (bit : Nat) : (State.errAll s bit).block = s.block := ((State.errAll_frame s bit).1 .block rfl).symm
@[simp] theorem State.errAll_eng (s : State) (bit : Nat) : (State.errAll s bit).eng = s.eng := ((State.errAll_frame s bit).1 .eng rfl).symm
@[simp] theorem State.errAll_hinge (s : State) (bit : Nat) : (State.errAll s bit).hinge = s.hinge := ((State.errAll_frame s bit).1 .hinge rfl).symm
@[simp] theorem State.errAll_lex (s : State) (bit : Nat) : (State.errAll s bit).lex = s.lex := ((State.errAll_frame s bit).1 .lex rfl).symm
@[simp] theorem State.errAll_mem_data (s : State) (bit : Nat) : (State.errAll s bit).mem.data = s.mem.data := ((State.errAll_frame s bit).1 .memData rfl).symm
@[simp] theorem State.errAll_rep (s : State) (bit : Nat) : (State.errAll s bit).rep = s.rep := ((State.errAll_frame s bit).1 .rep rfl).symm
@[simp] theorem State.errAll_ocu (s : State) (bit : Nat) : (State.errAll s bit).ocu = s.ocu := ((State.errAll_frame s bit).1 .ocu rfl).symm
@[simp] theorem State.errAll_cal (s : State) (bit : Nat) : (State.errAll s bit).cal = s.cal := ((State.errAll_frame s bit).1 .cal rfl).symm
@[simp] theorem State.errAll_thm (s : State) (bit : Nat) : (State.errAll s bit).thm = s.thm := ((State.errAll_frame s bit).1 .thm rfl).symm
@[simp] theorem State.errAll_tst (s : State) (bit : Nat) : (State.errAll s bit).tst = s.tst := ((State.errAll_frame s bit).1 .tst rfl).symm
@[simp] theorem State.errAll_pmc_ctr (s : State) (bit : Nat) : (State.errAll s bit).pmc.ctr = s.pmc.ctr := ((State.errAll_frame s bit).1 .pmcCtr rfl).symm
@[simp] theorem State.errAll_pwr (s : State) (bit : Nat) : (State.errAll s bit).pwr = s.pwr := ((State.errAll_frame s bit).1 .pwr rfl).symm
@[simp] theorem State.errAll_fw (s : State) (bit : Nat) : (State.errAll s bit).fw = s.fw := ((State.errAll_frame s bit).1 .fw rfl).symm
@[simp] theorem State.errAll_cap (s : State) (bit : Nat) : (State.errAll s bit).cap = s.cap := ((State.errAll_frame s bit).1 .cap rfl).symm
@[simp] theorem State.errAll_dev_busRead (s : State) (bit : Nat) : (State.errAll s bit).dev.busRead = s.dev.busRead := ((State.errAll_frame s bit).1 .devBus rfl).symm
@[simp] theorem State.errAll_dev_rest (s : State) (bit : Nat) : (State.errAll s bit).dev.rest = s.dev.rest := ((State.errAll_frame s bit).1 .devRest rfl).symm
@[simp] theorem State.errAll_hif_rest (s : State) (bit : Nat) : (State.errAll s bit).hif.rest = s.hif.rest := ((State.errAll_frame s bit).1 .hifRest rfl).symm
@[simp] theorem State.errAll_mem_rest (s : State) (bit : Nat) : (State.errAll s bit).mem.rest = s.mem.rest := ((State.errAll_frame s bit).1 .memRest rfl).symm
@[simp] theorem State.errAll_pmc_rest (s : State) (bit : Nat) : (State.errAll s bit).pmc.rest = s.pmc.rest := ((State.errAll_frame s bit).1 .pmcRest rfl).symm
@[simp] theorem State.errAll_dev_mode (s : State) (bit : Nat) : (State.errAll s bit).dev.mode = s.dev.mode := ((State.errAll_frame s bit).1 .devMode rfl).1.symm
@[simp] theorem State.errAll_dev_guard (s : State) (bit : Nat) : (State.errAll s bit).dev.guard = s.dev.guard := ((State.errAll_frame s bit).1 .devMode rfl).2.1.symm
@[simp] theorem State.errAll_dev_guardSince (s : State) (bit : Nat) : (State.errAll s bit).dev.guardSince = s.dev.guardSince := ((State.errAll_frame s bit).1 .devMode rfl).2.2.symm
@[simp] theorem State.errAll_lineAt_lrx_rest (s : State) (bit : Nat) (ln : Nat) : ((State.errAll s bit).lineAt ln).lrx.rest = (s.lineAt ln).lrx.rest := (((State.errAll_frame s bit).1 .lnRx rfl) ln).symm
@[simp] theorem State.errAll_lineAt_lrx (s : State) (bit : Nat) (ln : Nat) : ((State.errAll s bit).lineAt ln).lrx = (s.lineAt ln).lrx := (((State.errAll_frame s bit).1 .lnRxPower rfl) ln).symm
@[simp] theorem State.errAll_lineAt_sea (s : State) (bit : Nat) (ln : Nat) : ((State.errAll s bit).lineAt ln).sea = (s.lineAt ln).sea := (((State.errAll_frame s bit).1 .lnSea rfl) ln).symm
@[simp] theorem State.errAll_lineAt_sdf (s : State) (bit : Nat) (ln : Nat) : ((State.errAll s bit).lineAt ln).sdf = (s.lineAt ln).sdf := (((State.errAll_frame s bit).1 .lnSdf rfl) ln).symm
@[simp] theorem State.errAll_lineAt_ltx (s : State) (bit : Nat) (ln : Nat) : ((State.errAll s bit).lineAt ln).ltx = (s.lineAt ln).ltx := (((State.errAll_frame s bit).1 .lnLtx rfl) ln).symm
@[simp] theorem State.errAll_lineAt_plt (s : State) (bit : Nat) (ln : Nat) : ((State.errAll s bit).lineAt ln).plt = (s.lineAt ln).plt := (((State.errAll_frame s bit).1 .lnPlt rfl) ln).symm
@[simp] theorem State.errAll_lineAt_state (s : State) (bit : Nat) (ln : Nat) : ((State.errAll s bit).lineAt ln).state = (s.lineAt ln).state := (((State.errAll_frame s bit).1 .lnState rfl) ln).1.symm
@[simp] theorem State.errAll_lineAt_stuck (s : State) (bit : Nat) (ln : Nat) : ((State.errAll s bit).lineAt ln).stuck = (s.lineAt ln).stuck := (((State.errAll_frame s bit).1 .lnState rfl) ln).2.1.symm
@[simp] theorem State.errAll_lineAt_badStage (s : State) (bit : Nat) (ln : Nat) : ((State.errAll s bit).lineAt ln).badStage = (s.lineAt ln).badStage := (((State.errAll_frame s bit).1 .lnState rfl) ln).2.2.symm
@[simp] theorem State.errAll_lineAt_optics (s : State) (bit : Nat) (ln : Nat) : ((State.errAll s bit).lineAt ln).optics = (s.lineAt ln).optics := (((State.errAll_frame s bit).1 .lnOptics rfl) ln).1.symm
@[simp] theorem State.errAll_lineAt_optSince (s : State) (bit : Nat) (ln : Nat) : ((State.errAll s bit).lineAt ln).optSince = (s.lineAt ln).optSince := (((State.errAll_frame s bit).1 .lnOptics rfl) ln).2.symm
@[simp] theorem State.errAll_hostAt_rest (s : State) (bit : Nat) (hn : Nat) : ((State.errAll s bit).hostAt hn).rest = (s.hostAt hn).rest := (((State.errAll_frame s bit).1 .hostRest rfl) hn).symm
@[simp] theorem State.errAll_hostAt (s : State) (bit : Nat) (hn : Nat) : (State.errAll s bit).hostAt hn = s.hostAt hn := (((State.errAll_frame s bit).1 .hostTx rfl) hn).symm

theorem State.settleIcuOf_frame (s : State) (r : Requester) : Keep 0x20000001b00 s (State.settleIcuOf s r) := State.settleIcuOf_keep s r rfl (Keep.refl _ _)
@[simp] theorem State.settleIcuOf_pending (s : State) (r : Requester) : (State.settleIcuOf s r).pending = s.pending := ((State.settleIcuOf_frame s r).1 .pending rfl).symm
@[simp] theorem State.settleIcuOf_free (s : State) (r : Requester) : (State.settleIcuOf s r).free = s.free := ((State.settleIcuOf_frame s r).1 .free rfl).symm
@[simp] theorem State.settleIcuOf_fuses (s : State) (r : Requester) : (State.settleIcuOf s r).fuses = s.fuses := ((State.settleIcuOf_frame s r).1 .fuses rfl).symm
@[simp] theorem State.settleIcuOf_shut (s : State) (r : Requester) : (State.settleIcuOf s r).shut = s.shut := ((State.settleIcuOf_frame s r).1 .shut rfl).symm
@[simp] theorem State.settleIcuOf_mb (s : State) (r : Requester) : (State.settleIcuOf s r).mb = s.mb := ((State.settleIcuOf_frame s r).1 .mb rfl).symm
@[simp] theorem State.settleIcuOf_ev_urgent (s : State) (r : Requester) : (State.settleIcuOf s r).ev.urgent = s.ev.urgent := ((State.settleIcuOf_frame s r).1 .evUrgent rfl).symm
@[simp] theorem State.settleIcuOf_err (s : State) (r : Requester) : (State.settleIcuOf s r).err = s.err := ((State.settleIcuOf_frame s r).1 .err rfl).symm
@[simp] theorem State.settleIcuOf_tku (s : State) (r : Requester) : (State.settleIcuOf s r).tku = s.tku := ((State.settleIcuOf_frame s r).1 .tku rfl).symm
@[simp] theorem State.settleIcuOf_params (s : State) (r : Requester) : (State.settleIcuOf s r).params = s.params := ((State.settleIcuOf_frame s r).1 .params rfl).symm
@[simp] theorem State.settleIcuOf_stats (s : State) (r : Requester) : (State.settleIcuOf s r).stats = s.stats := ((State.settleIcuOf_frame s r).1 .stats rfl).symm
@[simp] theorem State.settleIcuOf_group (s : State) (r : Requester) : (State.settleIcuOf s r).group = s.group := ((State.settleIcuOf_frame s r).1 .group rfl).symm
@[simp] theorem State.settleIcuOf_port (s : State) (r : Requester) : (State.settleIcuOf s r).port = s.port := ((State.settleIcuOf_frame s r).1 .port rfl).symm
@[simp] theorem State.settleIcuOf_block (s : State) (r : Requester) : (State.settleIcuOf s r).block = s.block := ((State.settleIcuOf_frame s r).1 .block rfl).symm
@[simp] theorem State.settleIcuOf_eng (s : State) (r : Requester) : (State.settleIcuOf s r).eng = s.eng := ((State.settleIcuOf_frame s r).1 .eng rfl).symm
@[simp] theorem State.settleIcuOf_hinge (s : State) (r : Requester) : (State.settleIcuOf s r).hinge = s.hinge := ((State.settleIcuOf_frame s r).1 .hinge rfl).symm
@[simp] theorem State.settleIcuOf_lex (s : State) (r : Requester) : (State.settleIcuOf s r).lex = s.lex := ((State.settleIcuOf_frame s r).1 .lex rfl).symm
@[simp] theorem State.settleIcuOf_mem_data (s : State) (r : Requester) : (State.settleIcuOf s r).mem.data = s.mem.data := ((State.settleIcuOf_frame s r).1 .memData rfl).symm
@[simp] theorem State.settleIcuOf_rep (s : State) (r : Requester) : (State.settleIcuOf s r).rep = s.rep := ((State.settleIcuOf_frame s r).1 .rep rfl).symm
@[simp] theorem State.settleIcuOf_ocu (s : State) (r : Requester) : (State.settleIcuOf s r).ocu = s.ocu := ((State.settleIcuOf_frame s r).1 .ocu rfl).symm
@[simp] theorem State.settleIcuOf_cal (s : State) (r : Requester) : (State.settleIcuOf s r).cal = s.cal := ((State.settleIcuOf_frame s r).1 .cal rfl).symm
@[simp] theorem State.settleIcuOf_thm (s : State) (r : Requester) : (State.settleIcuOf s r).thm = s.thm := ((State.settleIcuOf_frame s r).1 .thm rfl).symm
@[simp] theorem State.settleIcuOf_tst (s : State) (r : Requester) : (State.settleIcuOf s r).tst = s.tst := ((State.settleIcuOf_frame s r).1 .tst rfl).symm
@[simp] theorem State.settleIcuOf_pwr (s : State) (r : Requester) : (State.settleIcuOf s r).pwr = s.pwr := ((State.settleIcuOf_frame s r).1 .pwr rfl).symm
@[simp] theorem State.settleIcuOf_fw (s : State) (r : Requester) : (State.settleIcuOf s r).fw = s.fw := ((State.settleIcuOf_frame s r).1 .fw rfl).symm
@[simp] theorem State.settleIcuOf_cap (s : State) (r : Requester) : (State.settleIcuOf s r).cap = s.cap := ((State.settleIcuOf_frame s r).1 .cap rfl).symm
@[simp] theorem State.settleIcuOf_dev_busRead (s : State) (r : Requester) : (State.settleIcuOf s r).dev.busRead = s.dev.busRead := ((State.settleIcuOf_frame s r).1 .devBus rfl).symm
@[simp] theorem State.settleIcuOf_dev_rest (s : State) (r : Requester) : (State.settleIcuOf s r).dev.rest = s.dev.rest := ((State.settleIcuOf_frame s r).1 .devRest rfl).symm
@[simp] theorem State.settleIcuOf_hif_rest (s : State) (r : Requester) : (State.settleIcuOf s r).hif.rest = s.hif.rest := ((State.settleIcuOf_frame s r).1 .hifRest rfl).symm
@[simp] theorem State.settleIcuOf_mem_rest (s : State) (r : Requester) : (State.settleIcuOf s r).mem.rest = s.mem.rest := ((State.settleIcuOf_frame s r).1 .memRest rfl).symm
@[simp] theorem State.settleIcuOf_pmc_rest (s : State) (r : Requester) : (State.settleIcuOf s r).pmc.rest = s.pmc.rest := ((State.settleIcuOf_frame s r).1 .pmcRest rfl).symm
@[simp] theorem State.settleIcuOf_dev_mode (s : State) (r : Requester) : (State.settleIcuOf s r).dev.mode = s.dev.mode := ((State.settleIcuOf_frame s r).1 .devMode rfl).1.symm
@[simp] theorem State.settleIcuOf_dev_guard (s : State) (r : Requester) : (State.settleIcuOf s r).dev.guard = s.dev.guard := ((State.settleIcuOf_frame s r).1 .devMode rfl).2.1.symm
@[simp] theorem State.settleIcuOf_dev_guardSince (s : State) (r : Requester) : (State.settleIcuOf s r).dev.guardSince = s.dev.guardSince := ((State.settleIcuOf_frame s r).1 .devMode rfl).2.2.symm
@[simp] theorem State.settleIcuOf_lineAt_lrx_rest (s : State) (r : Requester) (ln : Nat) : ((State.settleIcuOf s r).lineAt ln).lrx.rest = (s.lineAt ln).lrx.rest := (((State.settleIcuOf_frame s r).1 .lnRx rfl) ln).symm
@[simp] theorem State.settleIcuOf_lineAt_lrx (s : State) (r : Requester) (ln : Nat) : ((State.settleIcuOf s r).lineAt ln).lrx = (s.lineAt ln).lrx := (((State.settleIcuOf_frame s r).1 .lnRxPower rfl) ln).symm
@[simp] theorem State.settleIcuOf_lineAt_sea (s : State) (r : Requester) (ln : Nat) : ((State.settleIcuOf s r).lineAt ln).sea = (s.lineAt ln).sea := (((State.settleIcuOf_frame s r).1 .lnSea rfl) ln).symm
@[simp] theorem State.settleIcuOf_lineAt_sdf (s : State) (r : Requester) (ln : Nat) : ((State.settleIcuOf s r).lineAt ln).sdf = (s.lineAt ln).sdf := (((State.settleIcuOf_frame s r).1 .lnSdf rfl) ln).symm
@[simp] theorem State.settleIcuOf_lineAt_ltx (s : State) (r : Requester) (ln : Nat) : ((State.settleIcuOf s r).lineAt ln).ltx = (s.lineAt ln).ltx := (((State.settleIcuOf_frame s r).1 .lnLtx rfl) ln).symm
@[simp] theorem State.settleIcuOf_lineAt_plt (s : State) (r : Requester) (ln : Nat) : ((State.settleIcuOf s r).lineAt ln).plt = (s.lineAt ln).plt := (((State.settleIcuOf_frame s r).1 .lnPlt rfl) ln).symm
@[simp] theorem State.settleIcuOf_lineAt_state (s : State) (r : Requester) (ln : Nat) : ((State.settleIcuOf s r).lineAt ln).state = (s.lineAt ln).state := (((State.settleIcuOf_frame s r).1 .lnState rfl) ln).1.symm
@[simp] theorem State.settleIcuOf_lineAt_stuck (s : State) (r : Requester) (ln : Nat) : ((State.settleIcuOf s r).lineAt ln).stuck = (s.lineAt ln).stuck := (((State.settleIcuOf_frame s r).1 .lnState rfl) ln).2.1.symm
@[simp] theorem State.settleIcuOf_lineAt_badStage (s : State) (r : Requester) (ln : Nat) : ((State.settleIcuOf s r).lineAt ln).badStage = (s.lineAt ln).badStage := (((State.settleIcuOf_frame s r).1 .lnState rfl) ln).2.2.symm
@[simp] theorem State.settleIcuOf_lineAt_optics (s : State) (r : Requester) (ln : Nat) : ((State.settleIcuOf s r).lineAt ln).optics = (s.lineAt ln).optics := (((State.settleIcuOf_frame s r).1 .lnOptics rfl) ln).1.symm
@[simp] theorem State.settleIcuOf_lineAt_optSince (s : State) (r : Requester) (ln : Nat) : ((State.settleIcuOf s r).lineAt ln).optSince = (s.lineAt ln).optSince := (((State.settleIcuOf_frame s r).1 .lnOptics rfl) ln).2.symm
@[simp] theorem State.settleIcuOf_hostAt_rest (s : State) (r : Requester) (hn : Nat) : ((State.settleIcuOf s r).hostAt hn).rest = (s.hostAt hn).rest := (((State.settleIcuOf_frame s r).1 .hostRest rfl) hn).symm
@[simp] theorem State.settleIcuOf_hostAt (s : State) (r : Requester) (hn : Nat) : (State.settleIcuOf s r).hostAt hn = s.hostAt hn := (((State.settleIcuOf_frame s r).1 .hostTx rfl) hn).symm

theorem State.settleIcu_frame (s : State) : Keep 0x20000001b00 s (State.settleIcu s) := State.settleIcu_keep s rfl (Keep.refl _ _)
@[simp] theorem State.settleIcu_pending (s : State) : (State.settleIcu s).pending = s.pending := ((State.settleIcu_frame s).1 .pending rfl).symm
@[simp] theorem State.settleIcu_free (s : State) : (State.settleIcu s).free = s.free := ((State.settleIcu_frame s).1 .free rfl).symm
@[simp] theorem State.settleIcu_fuses (s : State) : (State.settleIcu s).fuses = s.fuses := ((State.settleIcu_frame s).1 .fuses rfl).symm
@[simp] theorem State.settleIcu_shut (s : State) : (State.settleIcu s).shut = s.shut := ((State.settleIcu_frame s).1 .shut rfl).symm
@[simp] theorem State.settleIcu_mb (s : State) : (State.settleIcu s).mb = s.mb := ((State.settleIcu_frame s).1 .mb rfl).symm
@[simp] theorem State.settleIcu_ev_urgent (s : State) : (State.settleIcu s).ev.urgent = s.ev.urgent := ((State.settleIcu_frame s).1 .evUrgent rfl).symm
@[simp] theorem State.settleIcu_err (s : State) : (State.settleIcu s).err = s.err := ((State.settleIcu_frame s).1 .err rfl).symm
@[simp] theorem State.settleIcu_tku (s : State) : (State.settleIcu s).tku = s.tku := ((State.settleIcu_frame s).1 .tku rfl).symm
@[simp] theorem State.settleIcu_params (s : State) : (State.settleIcu s).params = s.params := ((State.settleIcu_frame s).1 .params rfl).symm
@[simp] theorem State.settleIcu_stats (s : State) : (State.settleIcu s).stats = s.stats := ((State.settleIcu_frame s).1 .stats rfl).symm
@[simp] theorem State.settleIcu_group (s : State) : (State.settleIcu s).group = s.group := ((State.settleIcu_frame s).1 .group rfl).symm
@[simp] theorem State.settleIcu_port (s : State) : (State.settleIcu s).port = s.port := ((State.settleIcu_frame s).1 .port rfl).symm
@[simp] theorem State.settleIcu_block (s : State) : (State.settleIcu s).block = s.block := ((State.settleIcu_frame s).1 .block rfl).symm
@[simp] theorem State.settleIcu_eng (s : State) : (State.settleIcu s).eng = s.eng := ((State.settleIcu_frame s).1 .eng rfl).symm
@[simp] theorem State.settleIcu_hinge (s : State) : (State.settleIcu s).hinge = s.hinge := ((State.settleIcu_frame s).1 .hinge rfl).symm
@[simp] theorem State.settleIcu_lex (s : State) : (State.settleIcu s).lex = s.lex := ((State.settleIcu_frame s).1 .lex rfl).symm
@[simp] theorem State.settleIcu_mem_data (s : State) : (State.settleIcu s).mem.data = s.mem.data := ((State.settleIcu_frame s).1 .memData rfl).symm
@[simp] theorem State.settleIcu_rep (s : State) : (State.settleIcu s).rep = s.rep := ((State.settleIcu_frame s).1 .rep rfl).symm
@[simp] theorem State.settleIcu_ocu (s : State) : (State.settleIcu s).ocu = s.ocu := ((State.settleIcu_frame s).1 .ocu rfl).symm
@[simp] theorem State.settleIcu_cal (s : State) : (State.settleIcu s).cal = s.cal := ((State.settleIcu_frame s).1 .cal rfl).symm
@[simp] theorem State.settleIcu_thm (s : State) : (State.settleIcu s).thm = s.thm := ((State.settleIcu_frame s).1 .thm rfl).symm
@[simp] theorem State.settleIcu_tst (s : State) : (State.settleIcu s).tst = s.tst := ((State.settleIcu_frame s).1 .tst rfl).symm
@[simp] theorem State.settleIcu_pwr (s : State) : (State.settleIcu s).pwr = s.pwr := ((State.settleIcu_frame s).1 .pwr rfl).symm
@[simp] theorem State.settleIcu_fw (s : State) : (State.settleIcu s).fw = s.fw := ((State.settleIcu_frame s).1 .fw rfl).symm
@[simp] theorem State.settleIcu_cap (s : State) : (State.settleIcu s).cap = s.cap := ((State.settleIcu_frame s).1 .cap rfl).symm
@[simp] theorem State.settleIcu_dev_busRead (s : State) : (State.settleIcu s).dev.busRead = s.dev.busRead := ((State.settleIcu_frame s).1 .devBus rfl).symm
@[simp] theorem State.settleIcu_dev_rest (s : State) : (State.settleIcu s).dev.rest = s.dev.rest := ((State.settleIcu_frame s).1 .devRest rfl).symm
@[simp] theorem State.settleIcu_hif_rest (s : State) : (State.settleIcu s).hif.rest = s.hif.rest := ((State.settleIcu_frame s).1 .hifRest rfl).symm
@[simp] theorem State.settleIcu_mem_rest (s : State) : (State.settleIcu s).mem.rest = s.mem.rest := ((State.settleIcu_frame s).1 .memRest rfl).symm
@[simp] theorem State.settleIcu_pmc_rest (s : State) : (State.settleIcu s).pmc.rest = s.pmc.rest := ((State.settleIcu_frame s).1 .pmcRest rfl).symm
@[simp] theorem State.settleIcu_dev_mode (s : State) : (State.settleIcu s).dev.mode = s.dev.mode := ((State.settleIcu_frame s).1 .devMode rfl).1.symm
@[simp] theorem State.settleIcu_dev_guard (s : State) : (State.settleIcu s).dev.guard = s.dev.guard := ((State.settleIcu_frame s).1 .devMode rfl).2.1.symm
@[simp] theorem State.settleIcu_dev_guardSince (s : State) : (State.settleIcu s).dev.guardSince = s.dev.guardSince := ((State.settleIcu_frame s).1 .devMode rfl).2.2.symm
@[simp] theorem State.settleIcu_lineAt_lrx_rest (s : State) (ln : Nat) : ((State.settleIcu s).lineAt ln).lrx.rest = (s.lineAt ln).lrx.rest := (((State.settleIcu_frame s).1 .lnRx rfl) ln).symm
@[simp] theorem State.settleIcu_lineAt_lrx (s : State) (ln : Nat) : ((State.settleIcu s).lineAt ln).lrx = (s.lineAt ln).lrx := (((State.settleIcu_frame s).1 .lnRxPower rfl) ln).symm
@[simp] theorem State.settleIcu_lineAt_sea (s : State) (ln : Nat) : ((State.settleIcu s).lineAt ln).sea = (s.lineAt ln).sea := (((State.settleIcu_frame s).1 .lnSea rfl) ln).symm
@[simp] theorem State.settleIcu_lineAt_sdf (s : State) (ln : Nat) : ((State.settleIcu s).lineAt ln).sdf = (s.lineAt ln).sdf := (((State.settleIcu_frame s).1 .lnSdf rfl) ln).symm
@[simp] theorem State.settleIcu_lineAt_ltx (s : State) (ln : Nat) : ((State.settleIcu s).lineAt ln).ltx = (s.lineAt ln).ltx := (((State.settleIcu_frame s).1 .lnLtx rfl) ln).symm
@[simp] theorem State.settleIcu_lineAt_plt (s : State) (ln : Nat) : ((State.settleIcu s).lineAt ln).plt = (s.lineAt ln).plt := (((State.settleIcu_frame s).1 .lnPlt rfl) ln).symm
@[simp] theorem State.settleIcu_lineAt_state (s : State) (ln : Nat) : ((State.settleIcu s).lineAt ln).state = (s.lineAt ln).state := (((State.settleIcu_frame s).1 .lnState rfl) ln).1.symm
@[simp] theorem State.settleIcu_lineAt_stuck (s : State) (ln : Nat) : ((State.settleIcu s).lineAt ln).stuck = (s.lineAt ln).stuck := (((State.settleIcu_frame s).1 .lnState rfl) ln).2.1.symm
@[simp] theorem State.settleIcu_lineAt_badStage (s : State) (ln : Nat) : ((State.settleIcu s).lineAt ln).badStage = (s.lineAt ln).badStage := (((State.settleIcu_frame s).1 .lnState rfl) ln).2.2.symm
@[simp] theorem State.settleIcu_lineAt_optics (s : State) (ln : Nat) : ((State.settleIcu s).lineAt ln).optics = (s.lineAt ln).optics := (((State.settleIcu_frame s).1 .lnOptics rfl) ln).1.symm
@[simp] theorem State.settleIcu_lineAt_optSince (s : State) (ln : Nat) : ((State.settleIcu s).lineAt ln).optSince = (s.lineAt ln).optSince := (((State.settleIcu_frame s).1 .lnOptics rfl) ln).2.symm
@[simp] theorem State.settleIcu_hostAt_rest (s : State) (hn : Nat) : ((State.settleIcu s).hostAt hn).rest = (s.hostAt hn).rest := (((State.settleIcu_frame s).1 .hostRest rfl) hn).symm
@[simp] theorem State.settleIcu_hostAt (s : State) (hn : Nat) : (State.settleIcu s).hostAt hn = s.hostAt hn := (((State.settleIcu_frame s).1 .hostTx rfl) hn).symm

theorem State.edge_frame (s : State) (r : Requester) (src : Nat) : Keep 0x20000001b00 s (State.edge s r src) := State.edge_keep s r src rfl (Keep.refl _ _)
@[simp] theorem State.edge_pending (s : State) (r : Requester) (src : Nat) : (State.edge s r src).pending = s.pending := ((State.edge_frame s r src).1 .pending rfl).symm
@[simp] theorem State.edge_free (s : State) (r : Requester) (src : Nat) : (State.edge s r src).free = s.free := ((State.edge_frame s r src).1 .free rfl).symm
@[simp] theorem State.edge_fuses (s : State) (r : Requester) (src : Nat) : (State.edge s r src).fuses = s.fuses := ((State.edge_frame s r src).1 .fuses rfl).symm
@[simp] theorem State.edge_shut (s : State) (r : Requester) (src : Nat) : (State.edge s r src).shut = s.shut := ((State.edge_frame s r src).1 .shut rfl).symm
@[simp] theorem State.edge_mb (s : State) (r : Requester) (src : Nat) : (State.edge s r src).mb = s.mb := ((State.edge_frame s r src).1 .mb rfl).symm
@[simp] theorem State.edge_ev_urgent (s : State) (r : Requester) (src : Nat) : (State.edge s r src).ev.urgent = s.ev.urgent := ((State.edge_frame s r src).1 .evUrgent rfl).symm
@[simp] theorem State.edge_err (s : State) (r : Requester) (src : Nat) : (State.edge s r src).err = s.err := ((State.edge_frame s r src).1 .err rfl).symm
@[simp] theorem State.edge_tku (s : State) (r : Requester) (src : Nat) : (State.edge s r src).tku = s.tku := ((State.edge_frame s r src).1 .tku rfl).symm
@[simp] theorem State.edge_params (s : State) (r : Requester) (src : Nat) : (State.edge s r src).params = s.params := ((State.edge_frame s r src).1 .params rfl).symm
@[simp] theorem State.edge_stats (s : State) (r : Requester) (src : Nat) : (State.edge s r src).stats = s.stats := ((State.edge_frame s r src).1 .stats rfl).symm
@[simp] theorem State.edge_group (s : State) (r : Requester) (src : Nat) : (State.edge s r src).group = s.group := ((State.edge_frame s r src).1 .group rfl).symm
@[simp] theorem State.edge_port (s : State) (r : Requester) (src : Nat) : (State.edge s r src).port = s.port := ((State.edge_frame s r src).1 .port rfl).symm
@[simp] theorem State.edge_block (s : State) (r : Requester) (src : Nat) : (State.edge s r src).block = s.block := ((State.edge_frame s r src).1 .block rfl).symm
@[simp] theorem State.edge_eng (s : State) (r : Requester) (src : Nat) : (State.edge s r src).eng = s.eng := ((State.edge_frame s r src).1 .eng rfl).symm
@[simp] theorem State.edge_hinge (s : State) (r : Requester) (src : Nat) : (State.edge s r src).hinge = s.hinge := ((State.edge_frame s r src).1 .hinge rfl).symm
@[simp] theorem State.edge_lex (s : State) (r : Requester) (src : Nat) : (State.edge s r src).lex = s.lex := ((State.edge_frame s r src).1 .lex rfl).symm
@[simp] theorem State.edge_mem_data (s : State) (r : Requester) (src : Nat) : (State.edge s r src).mem.data = s.mem.data := ((State.edge_frame s r src).1 .memData rfl).symm
@[simp] theorem State.edge_rep (s : State) (r : Requester) (src : Nat) : (State.edge s r src).rep = s.rep := ((State.edge_frame s r src).1 .rep rfl).symm
@[simp] theorem State.edge_ocu (s : State) (r : Requester) (src : Nat) : (State.edge s r src).ocu = s.ocu := ((State.edge_frame s r src).1 .ocu rfl).symm
@[simp] theorem State.edge_cal (s : State) (r : Requester) (src : Nat) : (State.edge s r src).cal = s.cal := ((State.edge_frame s r src).1 .cal rfl).symm
@[simp] theorem State.edge_thm (s : State) (r : Requester) (src : Nat) : (State.edge s r src).thm = s.thm := ((State.edge_frame s r src).1 .thm rfl).symm
@[simp] theorem State.edge_tst (s : State) (r : Requester) (src : Nat) : (State.edge s r src).tst = s.tst := ((State.edge_frame s r src).1 .tst rfl).symm
@[simp] theorem State.edge_pwr (s : State) (r : Requester) (src : Nat) : (State.edge s r src).pwr = s.pwr := ((State.edge_frame s r src).1 .pwr rfl).symm
@[simp] theorem State.edge_fw (s : State) (r : Requester) (src : Nat) : (State.edge s r src).fw = s.fw := ((State.edge_frame s r src).1 .fw rfl).symm
@[simp] theorem State.edge_cap (s : State) (r : Requester) (src : Nat) : (State.edge s r src).cap = s.cap := ((State.edge_frame s r src).1 .cap rfl).symm
@[simp] theorem State.edge_dev_busRead (s : State) (r : Requester) (src : Nat) : (State.edge s r src).dev.busRead = s.dev.busRead := ((State.edge_frame s r src).1 .devBus rfl).symm
@[simp] theorem State.edge_dev_rest (s : State) (r : Requester) (src : Nat) : (State.edge s r src).dev.rest = s.dev.rest := ((State.edge_frame s r src).1 .devRest rfl).symm
@[simp] theorem State.edge_hif_rest (s : State) (r : Requester) (src : Nat) : (State.edge s r src).hif.rest = s.hif.rest := ((State.edge_frame s r src).1 .hifRest rfl).symm
@[simp] theorem State.edge_mem_rest (s : State) (r : Requester) (src : Nat) : (State.edge s r src).mem.rest = s.mem.rest := ((State.edge_frame s r src).1 .memRest rfl).symm
@[simp] theorem State.edge_pmc_rest (s : State) (r : Requester) (src : Nat) : (State.edge s r src).pmc.rest = s.pmc.rest := ((State.edge_frame s r src).1 .pmcRest rfl).symm
@[simp] theorem State.edge_dev_mode (s : State) (r : Requester) (src : Nat) : (State.edge s r src).dev.mode = s.dev.mode := ((State.edge_frame s r src).1 .devMode rfl).1.symm
@[simp] theorem State.edge_dev_guard (s : State) (r : Requester) (src : Nat) : (State.edge s r src).dev.guard = s.dev.guard := ((State.edge_frame s r src).1 .devMode rfl).2.1.symm
@[simp] theorem State.edge_dev_guardSince (s : State) (r : Requester) (src : Nat) : (State.edge s r src).dev.guardSince = s.dev.guardSince := ((State.edge_frame s r src).1 .devMode rfl).2.2.symm
@[simp] theorem State.edge_lineAt_lrx_rest (s : State) (r : Requester) (src : Nat) (ln : Nat) : ((State.edge s r src).lineAt ln).lrx.rest = (s.lineAt ln).lrx.rest := (((State.edge_frame s r src).1 .lnRx rfl) ln).symm
@[simp] theorem State.edge_lineAt_lrx (s : State) (r : Requester) (src : Nat) (ln : Nat) : ((State.edge s r src).lineAt ln).lrx = (s.lineAt ln).lrx := (((State.edge_frame s r src).1 .lnRxPower rfl) ln).symm
@[simp] theorem State.edge_lineAt_sea (s : State) (r : Requester) (src : Nat) (ln : Nat) : ((State.edge s r src).lineAt ln).sea = (s.lineAt ln).sea := (((State.edge_frame s r src).1 .lnSea rfl) ln).symm
@[simp] theorem State.edge_lineAt_sdf (s : State) (r : Requester) (src : Nat) (ln : Nat) : ((State.edge s r src).lineAt ln).sdf = (s.lineAt ln).sdf := (((State.edge_frame s r src).1 .lnSdf rfl) ln).symm
@[simp] theorem State.edge_lineAt_ltx (s : State) (r : Requester) (src : Nat) (ln : Nat) : ((State.edge s r src).lineAt ln).ltx = (s.lineAt ln).ltx := (((State.edge_frame s r src).1 .lnLtx rfl) ln).symm
@[simp] theorem State.edge_lineAt_plt (s : State) (r : Requester) (src : Nat) (ln : Nat) : ((State.edge s r src).lineAt ln).plt = (s.lineAt ln).plt := (((State.edge_frame s r src).1 .lnPlt rfl) ln).symm
@[simp] theorem State.edge_lineAt_state (s : State) (r : Requester) (src : Nat) (ln : Nat) : ((State.edge s r src).lineAt ln).state = (s.lineAt ln).state := (((State.edge_frame s r src).1 .lnState rfl) ln).1.symm
@[simp] theorem State.edge_lineAt_stuck (s : State) (r : Requester) (src : Nat) (ln : Nat) : ((State.edge s r src).lineAt ln).stuck = (s.lineAt ln).stuck := (((State.edge_frame s r src).1 .lnState rfl) ln).2.1.symm
@[simp] theorem State.edge_lineAt_badStage (s : State) (r : Requester) (src : Nat) (ln : Nat) : ((State.edge s r src).lineAt ln).badStage = (s.lineAt ln).badStage := (((State.edge_frame s r src).1 .lnState rfl) ln).2.2.symm
@[simp] theorem State.edge_lineAt_optics (s : State) (r : Requester) (src : Nat) (ln : Nat) : ((State.edge s r src).lineAt ln).optics = (s.lineAt ln).optics := (((State.edge_frame s r src).1 .lnOptics rfl) ln).1.symm
@[simp] theorem State.edge_lineAt_optSince (s : State) (r : Requester) (src : Nat) (ln : Nat) : ((State.edge s r src).lineAt ln).optSince = (s.lineAt ln).optSince := (((State.edge_frame s r src).1 .lnOptics rfl) ln).2.symm
@[simp] theorem State.edge_hostAt_rest (s : State) (r : Requester) (src : Nat) (hn : Nat) : ((State.edge s r src).hostAt hn).rest = (s.hostAt hn).rest := (((State.edge_frame s r src).1 .hostRest rfl) hn).symm
@[simp] theorem State.edge_hostAt (s : State) (r : Requester) (src : Nat) (hn : Nat) : (State.edge s r src).hostAt hn = s.hostAt hn := (((State.edge_frame s r src).1 .hostTx rfl) hn).symm

theorem State.level_frame (s : State) (r : Requester) (src : Nat) (cond : Bool) : Keep 0x20000001b00 s (State.level s r src cond) := State.level_keep s r src cond rfl (Keep.refl _ _)
@[simp] theorem State.level_pending (s : State) (r : Requester) (src : Nat) (cond : Bool) : (State.level s r src cond).pending = s.pending := ((State.level_frame s r src cond).1 .pending rfl).symm
@[simp] theorem State.level_free (s : State) (r : Requester) (src : Nat) (cond : Bool) : (State.level s r src cond).free = s.free := ((State.level_frame s r src cond).1 .free rfl).symm
@[simp] theorem State.level_fuses (s : State) (r : Requester) (src : Nat) (cond : Bool) : (State.level s r src cond).fuses = s.fuses := ((State.level_frame s r src cond).1 .fuses rfl).symm
@[simp] theorem State.level_shut (s : State) (r : Requester) (src : Nat) (cond : Bool) : (State.level s r src cond).shut = s.shut := ((State.level_frame s r src cond).1 .shut rfl).symm
@[simp] theorem State.level_mb (s : State) (r : Requester) (src : Nat) (cond : Bool) : (State.level s r src cond).mb = s.mb := ((State.level_frame s r src cond).1 .mb rfl).symm
@[simp] theorem State.level_ev_urgent (s : State) (r : Requester) (src : Nat) (cond : Bool) : (State.level s r src cond).ev.urgent = s.ev.urgent := ((State.level_frame s r src cond).1 .evUrgent rfl).symm
@[simp] theorem State.level_err (s : State) (r : Requester) (src : Nat) (cond : Bool) : (State.level s r src cond).err = s.err := ((State.level_frame s r src cond).1 .err rfl).symm
@[simp] theorem State.level_tku (s : State) (r : Requester) (src : Nat) (cond : Bool) : (State.level s r src cond).tku = s.tku := ((State.level_frame s r src cond).1 .tku rfl).symm
@[simp] theorem State.level_params (s : State) (r : Requester) (src : Nat) (cond : Bool) : (State.level s r src cond).params = s.params := ((State.level_frame s r src cond).1 .params rfl).symm
@[simp] theorem State.level_stats (s : State) (r : Requester) (src : Nat) (cond : Bool) : (State.level s r src cond).stats = s.stats := ((State.level_frame s r src cond).1 .stats rfl).symm
@[simp] theorem State.level_group (s : State) (r : Requester) (src : Nat) (cond : Bool) : (State.level s r src cond).group = s.group := ((State.level_frame s r src cond).1 .group rfl).symm
@[simp] theorem State.level_port (s : State) (r : Requester) (src : Nat) (cond : Bool) : (State.level s r src cond).port = s.port := ((State.level_frame s r src cond).1 .port rfl).symm
@[simp] theorem State.level_block (s : State) (r : Requester) (src : Nat) (cond : Bool) : (State.level s r src cond).block = s.block := ((State.level_frame s r src cond).1 .block rfl).symm
@[simp] theorem State.level_eng (s : State) (r : Requester) (src : Nat) (cond : Bool) : (State.level s r src cond).eng = s.eng := ((State.level_frame s r src cond).1 .eng rfl).symm
@[simp] theorem State.level_hinge (s : State) (r : Requester) (src : Nat) (cond : Bool) : (State.level s r src cond).hinge = s.hinge := ((State.level_frame s r src cond).1 .hinge rfl).symm
@[simp] theorem State.level_lex (s : State) (r : Requester) (src : Nat) (cond : Bool) : (State.level s r src cond).lex = s.lex := ((State.level_frame s r src cond).1 .lex rfl).symm
@[simp] theorem State.level_mem_data (s : State) (r : Requester) (src : Nat) (cond : Bool) : (State.level s r src cond).mem.data = s.mem.data := ((State.level_frame s r src cond).1 .memData rfl).symm
@[simp] theorem State.level_rep (s : State) (r : Requester) (src : Nat) (cond : Bool) : (State.level s r src cond).rep = s.rep := ((State.level_frame s r src cond).1 .rep rfl).symm
@[simp] theorem State.level_ocu (s : State) (r : Requester) (src : Nat) (cond : Bool) : (State.level s r src cond).ocu = s.ocu := ((State.level_frame s r src cond).1 .ocu rfl).symm
@[simp] theorem State.level_cal (s : State) (r : Requester) (src : Nat) (cond : Bool) : (State.level s r src cond).cal = s.cal := ((State.level_frame s r src cond).1 .cal rfl).symm
@[simp] theorem State.level_thm (s : State) (r : Requester) (src : Nat) (cond : Bool) : (State.level s r src cond).thm = s.thm := ((State.level_frame s r src cond).1 .thm rfl).symm
@[simp] theorem State.level_tst (s : State) (r : Requester) (src : Nat) (cond : Bool) : (State.level s r src cond).tst = s.tst := ((State.level_frame s r src cond).1 .tst rfl).symm
@[simp] theorem State.level_pwr (s : State) (r : Requester) (src : Nat) (cond : Bool) : (State.level s r src cond).pwr = s.pwr := ((State.level_frame s r src cond).1 .pwr rfl).symm
@[simp] theorem State.level_fw (s : State) (r : Requester) (src : Nat) (cond : Bool) : (State.level s r src cond).fw = s.fw := ((State.level_frame s r src cond).1 .fw rfl).symm
@[simp] theorem State.level_cap (s : State) (r : Requester) (src : Nat) (cond : Bool) : (State.level s r src cond).cap = s.cap := ((State.level_frame s r src cond).1 .cap rfl).symm
@[simp] theorem State.level_dev_busRead (s : State) (r : Requester) (src : Nat) (cond : Bool) : (State.level s r src cond).dev.busRead = s.dev.busRead := ((State.level_frame s r src cond).1 .devBus rfl).symm
@[simp] theorem State.level_dev_rest (s : State) (r : Requester) (src : Nat) (cond : Bool) : (State.level s r src cond).dev.rest = s.dev.rest := ((State.level_frame s r src cond).1 .devRest rfl).symm
@[simp] theorem State.level_hif_rest (s : State) (r : Requester) (src : Nat) (cond : Bool) : (State.level s r src cond).hif.rest = s.hif.rest := ((State.level_frame s r src cond).1 .hifRest rfl).symm
@[simp] theorem State.level_mem_rest (s : State) (r : Requester) (src : Nat) (cond : Bool) : (State.level s r src cond).mem.rest = s.mem.rest := ((State.level_frame s r src cond).1 .memRest rfl).symm
@[simp] theorem State.level_pmc_rest (s : State) (r : Requester) (src : Nat) (cond : Bool) : (State.level s r src cond).pmc.rest = s.pmc.rest := ((State.level_frame s r src cond).1 .pmcRest rfl).symm
@[simp] theorem State.level_dev_mode (s : State) (r : Requester) (src : Nat) (cond : Bool) : (State.level s r src cond).dev.mode = s.dev.mode := ((State.level_frame s r src cond).1 .devMode rfl).1.symm
@[simp] theorem State.level_dev_guard (s : State) (r : Requester) (src : Nat) (cond : Bool) : (State.level s r src cond).dev.guard = s.dev.guard := ((State.level_frame s r src cond).1 .devMode rfl).2.1.symm
@[simp] theorem State.level_dev_guardSince (s : State) (r : Requester) (src : Nat) (cond : Bool) : (State.level s r src cond).dev.guardSince = s.dev.guardSince := ((State.level_frame s r src cond).1 .devMode rfl).2.2.symm
@[simp] theorem State.level_lineAt_lrx_rest (s : State) (r : Requester) (src : Nat) (cond : Bool) (ln : Nat) : ((State.level s r src cond).lineAt ln).lrx.rest = (s.lineAt ln).lrx.rest := (((State.level_frame s r src cond).1 .lnRx rfl) ln).symm
@[simp] theorem State.level_lineAt_lrx (s : State) (r : Requester) (src : Nat) (cond : Bool) (ln : Nat) : ((State.level s r src cond).lineAt ln).lrx = (s.lineAt ln).lrx := (((State.level_frame s r src cond).1 .lnRxPower rfl) ln).symm
@[simp] theorem State.level_lineAt_sea (s : State) (r : Requester) (src : Nat) (cond : Bool) (ln : Nat) : ((State.level s r src cond).lineAt ln).sea = (s.lineAt ln).sea := (((State.level_frame s r src cond).1 .lnSea rfl) ln).symm
@[simp] theorem State.level_lineAt_sdf (s : State) (r : Requester) (src : Nat) (cond : Bool) (ln : Nat) : ((State.level s r src cond).lineAt ln).sdf = (s.lineAt ln).sdf := (((State.level_frame s r src cond).1 .lnSdf rfl) ln).symm
@[simp] theorem State.level_lineAt_ltx (s : State) (r : Requester) (src : Nat) (cond : Bool) (ln : Nat) : ((State.level s r src cond).lineAt ln).ltx = (s.lineAt ln).ltx := (((State.level_frame s r src cond).1 .lnLtx rfl) ln).symm
@[simp] theorem State.level_lineAt_plt (s : State) (r : Requester) (src : Nat) (cond : Bool) (ln : Nat) : ((State.level s r src cond).lineAt ln).plt = (s.lineAt ln).plt := (((State.level_frame s r src cond).1 .lnPlt rfl) ln).symm
@[simp] theorem State.level_lineAt_state (s : State) (r : Requester) (src : Nat) (cond : Bool) (ln : Nat) : ((State.level s r src cond).lineAt ln).state = (s.lineAt ln).state := (((State.level_frame s r src cond).1 .lnState rfl) ln).1.symm
@[simp] theorem State.level_lineAt_stuck (s : State) (r : Requester) (src : Nat) (cond : Bool) (ln : Nat) : ((State.level s r src cond).lineAt ln).stuck = (s.lineAt ln).stuck := (((State.level_frame s r src cond).1 .lnState rfl) ln).2.1.symm
@[simp] theorem State.level_lineAt_badStage (s : State) (r : Requester) (src : Nat) (cond : Bool) (ln : Nat) : ((State.level s r src cond).lineAt ln).badStage = (s.lineAt ln).badStage := (((State.level_frame s r src cond).1 .lnState rfl) ln).2.2.symm
@[simp] theorem State.level_lineAt_optics (s : State) (r : Requester) (src : Nat) (cond : Bool) (ln : Nat) : ((State.level s r src cond).lineAt ln).optics = (s.lineAt ln).optics := (((State.level_frame s r src cond).1 .lnOptics rfl) ln).1.symm
@[simp] theorem State.level_lineAt_optSince (s : State) (r : Requester) (src : Nat) (cond : Bool) (ln : Nat) : ((State.level s r src cond).lineAt ln).optSince = (s.lineAt ln).optSince := (((State.level_frame s r src cond).1 .lnOptics rfl) ln).2.symm
@[simp] theorem State.level_hostAt_rest (s : State) (r : Requester) (src : Nat) (cond : Bool) (hn : Nat) : ((State.level s r src cond).hostAt hn).rest = (s.hostAt hn).rest := (((State.level_frame s r src cond).1 .hostRest rfl) hn).symm
@[simp] theorem State.level_hostAt (s : State) (r : Requester) (src : Nat) (cond : Bool) (hn : Nat) : (State.level s r src cond).hostAt hn = s.hostAt hn := (((State.level_frame s r src cond).1 .hostTx rfl) hn).symm

theorem State.enterPending_frame (s : State) (r : Requester) (src : Nat) : Keep 0x20000001b00 s (State.enterPending s r src) := State.enterPending_keep s r src rfl (Keep.refl _ _)
@[simp] theorem State.enterPending_pending (s : State) (r : Requester) (src : Nat) : (State.enterPending s r src).pending = s.pending := ((State.enterPending_frame s r src).1 .pending rfl).symm
@[simp] theorem State.enterPending_free (s : State) (r : Requester) (src : Nat) : (State.enterPending s r src).free = s.free := ((State.enterPending_frame s r src).1 .free rfl).symm
@[simp] theorem State.enterPending_fuses (s : State) (r : Requester) (src : Nat) : (State.enterPending s r src).fuses = s.fuses := ((State.enterPending_frame s r src).1 .fuses rfl).symm
@[simp] theorem State.enterPending_shut (s : State) (r : Requester) (src : Nat) : (State.enterPending s r src).shut = s.shut := ((State.enterPending_frame s r src).1 .shut rfl).symm
@[simp] theorem State.enterPending_mb (s : State) (r : Requester) (src : Nat) : (State.enterPending s r src).mb = s.mb := ((State.enterPending_frame s r src).1 .mb rfl).symm
@[simp] theorem State.enterPending_ev_urgent (s : State) (r : Requester) (src : Nat) : (State.enterPending s r src).ev.urgent = s.ev.urgent := ((State.enterPending_frame s r src).1 .evUrgent rfl).symm
@[simp] theorem State.enterPending_err (s : State) (r : Requester) (src : Nat) : (State.enterPending s r src).err = s.err := ((State.enterPending_frame s r src).1 .err rfl).symm
@[simp] theorem State.enterPending_tku (s : State) (r : Requester) (src : Nat) : (State.enterPending s r src).tku = s.tku := ((State.enterPending_frame s r src).1 .tku rfl).symm
@[simp] theorem State.enterPending_params (s : State) (r : Requester) (src : Nat) : (State.enterPending s r src).params = s.params := ((State.enterPending_frame s r src).1 .params rfl).symm
@[simp] theorem State.enterPending_stats (s : State) (r : Requester) (src : Nat) : (State.enterPending s r src).stats = s.stats := ((State.enterPending_frame s r src).1 .stats rfl).symm
@[simp] theorem State.enterPending_group (s : State) (r : Requester) (src : Nat) : (State.enterPending s r src).group = s.group := ((State.enterPending_frame s r src).1 .group rfl).symm
@[simp] theorem State.enterPending_port (s : State) (r : Requester) (src : Nat) : (State.enterPending s r src).port = s.port := ((State.enterPending_frame s r src).1 .port rfl).symm
@[simp] theorem State.enterPending_block (s : State) (r : Requester) (src : Nat) : (State.enterPending s r src).block = s.block := ((State.enterPending_frame s r src).1 .block rfl).symm
@[simp] theorem State.enterPending_eng (s : State) (r : Requester) (src : Nat) : (State.enterPending s r src).eng = s.eng := ((State.enterPending_frame s r src).1 .eng rfl).symm
@[simp] theorem State.enterPending_hinge (s : State) (r : Requester) (src : Nat) : (State.enterPending s r src).hinge = s.hinge := ((State.enterPending_frame s r src).1 .hinge rfl).symm
@[simp] theorem State.enterPending_lex (s : State) (r : Requester) (src : Nat) : (State.enterPending s r src).lex = s.lex := ((State.enterPending_frame s r src).1 .lex rfl).symm
@[simp] theorem State.enterPending_mem_data (s : State) (r : Requester) (src : Nat) : (State.enterPending s r src).mem.data = s.mem.data := ((State.enterPending_frame s r src).1 .memData rfl).symm
@[simp] theorem State.enterPending_rep (s : State) (r : Requester) (src : Nat) : (State.enterPending s r src).rep = s.rep := ((State.enterPending_frame s r src).1 .rep rfl).symm
@[simp] theorem State.enterPending_ocu (s : State) (r : Requester) (src : Nat) : (State.enterPending s r src).ocu = s.ocu := ((State.enterPending_frame s r src).1 .ocu rfl).symm
@[simp] theorem State.enterPending_cal (s : State) (r : Requester) (src : Nat) : (State.enterPending s r src).cal = s.cal := ((State.enterPending_frame s r src).1 .cal rfl).symm
@[simp] theorem State.enterPending_thm (s : State) (r : Requester) (src : Nat) : (State.enterPending s r src).thm = s.thm := ((State.enterPending_frame s r src).1 .thm rfl).symm
@[simp] theorem State.enterPending_tst (s : State) (r : Requester) (src : Nat) : (State.enterPending s r src).tst = s.tst := ((State.enterPending_frame s r src).1 .tst rfl).symm
@[simp] theorem State.enterPending_pwr (s : State) (r : Requester) (src : Nat) : (State.enterPending s r src).pwr = s.pwr := ((State.enterPending_frame s r src).1 .pwr rfl).symm
@[simp] theorem State.enterPending_fw (s : State) (r : Requester) (src : Nat) : (State.enterPending s r src).fw = s.fw := ((State.enterPending_frame s r src).1 .fw rfl).symm
@[simp] theorem State.enterPending_cap (s : State) (r : Requester) (src : Nat) : (State.enterPending s r src).cap = s.cap := ((State.enterPending_frame s r src).1 .cap rfl).symm
@[simp] theorem State.enterPending_dev_busRead (s : State) (r : Requester) (src : Nat) : (State.enterPending s r src).dev.busRead = s.dev.busRead := ((State.enterPending_frame s r src).1 .devBus rfl).symm
@[simp] theorem State.enterPending_dev_rest (s : State) (r : Requester) (src : Nat) : (State.enterPending s r src).dev.rest = s.dev.rest := ((State.enterPending_frame s r src).1 .devRest rfl).symm
@[simp] theorem State.enterPending_hif_rest (s : State) (r : Requester) (src : Nat) : (State.enterPending s r src).hif.rest = s.hif.rest := ((State.enterPending_frame s r src).1 .hifRest rfl).symm
@[simp] theorem State.enterPending_mem_rest (s : State) (r : Requester) (src : Nat) : (State.enterPending s r src).mem.rest = s.mem.rest := ((State.enterPending_frame s r src).1 .memRest rfl).symm
@[simp] theorem State.enterPending_pmc_rest (s : State) (r : Requester) (src : Nat) : (State.enterPending s r src).pmc.rest = s.pmc.rest := ((State.enterPending_frame s r src).1 .pmcRest rfl).symm
@[simp] theorem State.enterPending_dev_mode (s : State) (r : Requester) (src : Nat) : (State.enterPending s r src).dev.mode = s.dev.mode := ((State.enterPending_frame s r src).1 .devMode rfl).1.symm
@[simp] theorem State.enterPending_dev_guard (s : State) (r : Requester) (src : Nat) : (State.enterPending s r src).dev.guard = s.dev.guard := ((State.enterPending_frame s r src).1 .devMode rfl).2.1.symm
@[simp] theorem State.enterPending_dev_guardSince (s : State) (r : Requester) (src : Nat) : (State.enterPending s r src).dev.guardSince = s.dev.guardSince := ((State.enterPending_frame s r src).1 .devMode rfl).2.2.symm
@[simp] theorem State.enterPending_lineAt_lrx_rest (s : State) (r : Requester) (src : Nat) (ln : Nat) : ((State.enterPending s r src).lineAt ln).lrx.rest = (s.lineAt ln).lrx.rest := (((State.enterPending_frame s r src).1 .lnRx rfl) ln).symm
@[simp] theorem State.enterPending_lineAt_lrx (s : State) (r : Requester) (src : Nat) (ln : Nat) : ((State.enterPending s r src).lineAt ln).lrx = (s.lineAt ln).lrx := (((State.enterPending_frame s r src).1 .lnRxPower rfl) ln).symm
@[simp] theorem State.enterPending_lineAt_sea (s : State) (r : Requester) (src : Nat) (ln : Nat) : ((State.enterPending s r src).lineAt ln).sea = (s.lineAt ln).sea := (((State.enterPending_frame s r src).1 .lnSea rfl) ln).symm
@[simp] theorem State.enterPending_lineAt_sdf (s : State) (r : Requester) (src : Nat) (ln : Nat) : ((State.enterPending s r src).lineAt ln).sdf = (s.lineAt ln).sdf := (((State.enterPending_frame s r src).1 .lnSdf rfl) ln).symm
@[simp] theorem State.enterPending_lineAt_ltx (s : State) (r : Requester) (src : Nat) (ln : Nat) : ((State.enterPending s r src).lineAt ln).ltx = (s.lineAt ln).ltx := (((State.enterPending_frame s r src).1 .lnLtx rfl) ln).symm
@[simp] theorem State.enterPending_lineAt_plt (s : State) (r : Requester) (src : Nat) (ln : Nat) : ((State.enterPending s r src).lineAt ln).plt = (s.lineAt ln).plt := (((State.enterPending_frame s r src).1 .lnPlt rfl) ln).symm
@[simp] theorem State.enterPending_lineAt_state (s : State) (r : Requester) (src : Nat) (ln : Nat) : ((State.enterPending s r src).lineAt ln).state = (s.lineAt ln).state := (((State.enterPending_frame s r src).1 .lnState rfl) ln).1.symm
@[simp] theorem State.enterPending_lineAt_stuck (s : State) (r : Requester) (src : Nat) (ln : Nat) : ((State.enterPending s r src).lineAt ln).stuck = (s.lineAt ln).stuck := (((State.enterPending_frame s r src).1 .lnState rfl) ln).2.1.symm
@[simp] theorem State.enterPending_lineAt_badStage (s : State) (r : Requester) (src : Nat) (ln : Nat) : ((State.enterPending s r src).lineAt ln).badStage = (s.lineAt ln).badStage := (((State.enterPending_frame s r src).1 .lnState rfl) ln).2.2.symm
@[simp] theorem State.enterPending_lineAt_optics (s : State) (r : Requester) (src : Nat) (ln : Nat) : ((State.enterPending s r src).lineAt ln).optics = (s.lineAt ln).optics := (((State.enterPending_frame s r src).1 .lnOptics rfl) ln).1.symm
@[simp] theorem State.enterPending_lineAt_optSince (s : State) (r : Requester) (src : Nat) (ln : Nat) : ((State.enterPending s r src).lineAt ln).optSince = (s.lineAt ln).optSince := (((State.enterPending_frame s r src).1 .lnOptics rfl) ln).2.symm
@[simp] theorem State.enterPending_hostAt_rest (s : State) (r : Requester) (src : Nat) (hn : Nat) : ((State.enterPending s r src).hostAt hn).rest = (s.hostAt hn).rest := (((State.enterPending_frame s r src).1 .hostRest rfl) hn).symm
@[simp] theorem State.enterPending_hostAt (s : State) (r : Requester) (src : Nat) (hn : Nat) : (State.enterPending s r src).hostAt hn = s.hostAt hn := (((State.enterPending_frame s r src).1 .hostTx rfl) hn).symm

theorem State.settleErr_frame (s : State) : Keep 0x4000 s (State.settleErr s) := State.settleErr_keep s rfl (Keep.refl _ _)
@[simp] theorem State.settleErr_pending (s : State) : (State.settleErr s).pending = s.pending := ((State.settleErr_frame s).1 .pending rfl).symm
@[simp] theorem State.settleErr_free (s : State) : (State.settleErr s).free = s.free := ((State.settleErr_frame s).1 .free rfl).symm
@[simp] theorem State.settleErr_fuses (s : State) : (State.settleErr s).fuses = s.fuses := ((State.settleErr_frame s).1 .fuses rfl).symm
@[simp] theorem State.settleErr_shut (s : State) : (State.settleErr s).shut = s.shut := ((State.settleErr_frame s).1 .shut rfl).symm
@[simp] theorem State.settleErr_mb (s : State) : (State.settleErr s).mb = s.mb := ((State.settleErr_frame s).1 .mb rfl).symm
@[simp] theorem State.settleErr_ev_raised (s : State) : (State.settleErr s).ev.raised = s.ev.raised := ((State.settleErr_frame s).1 .evRaised rfl).symm
@[simp] theorem State.settleErr_ev_queue (s : State) : (State.settleErr s).ev.queue = s.ev.queue := ((State.settleErr_frame s).1 .evQueue rfl).symm
@[simp] theorem State.settleErr_ev_urgent (s : State) : (State.settleErr s).ev.urgent = s.ev.urgent := ((State.settleErr_frame s).1 .evUrgent rfl).symm
@[simp] theorem State.settleErr_icu (s : State) : (State.settleErr s).icu = s.icu := ((State.settleErr_frame s).1 .icu rfl).symm
@[simp] theorem State.settleErr_hif_l1 (s : State) : (State.settleErr s).hif.l1 = s.hif.l1 := ((State.settleErr_frame s).1 .hifL1 rfl).symm
@[simp] theorem State.settleErr_tku (s : State) : (State.settleErr s).tku = s.tku := ((State.settleErr_frame s).1 .tku rfl).symm
@[simp] theorem State.settleErr_params (s : State) : (State.settleErr s).params = s.params := ((State.settleErr_frame s).1 .params rfl).symm
@[simp] theorem State.settleErr_stats (s : State) : (State.settleErr s).stats = s.stats := ((State.settleErr_frame s).1 .stats rfl).symm
@[simp] theorem State.settleErr_group (s : State) : (State.settleErr s).group = s.group := ((State.settleErr_frame s).1 .group rfl).symm
@[simp] theorem State.settleErr_port (s : State) : (State.settleErr s).port = s.port := ((State.settleErr_frame s).1 .port rfl).symm
@[simp] theorem State.settleErr_block (s : State) : (State.settleErr s).block = s.block := ((State.settleErr_frame s).1 .block rfl).symm
@[simp] theorem State.settleErr_eng (s : State) : (State.settleErr s).eng = s.eng := ((State.settleErr_frame s).1 .eng rfl).symm
@[simp] theorem State.settleErr_hinge (s : State) : (State.settleErr s).hinge = s.hinge := ((State.settleErr_frame s).1 .hinge rfl).symm
@[simp] theorem State.settleErr_lex (s : State) : (State.settleErr s).lex = s.lex := ((State.settleErr_frame s).1 .lex rfl).symm
@[simp] theorem State.settleErr_mem_data (s : State) : (State.settleErr s).mem.data = s.mem.data := ((State.settleErr_frame s).1 .memData rfl).symm
@[simp] theorem State.settleErr_rep (s : State) : (State.settleErr s).rep = s.rep := ((State.settleErr_frame s).1 .rep rfl).symm
@[simp] theorem State.settleErr_ocu (s : State) : (State.settleErr s).ocu = s.ocu := ((State.settleErr_frame s).1 .ocu rfl).symm
@[simp] theorem State.settleErr_cal (s : State) : (State.settleErr s).cal = s.cal := ((State.settleErr_frame s).1 .cal rfl).symm
@[simp] theorem State.settleErr_thm (s : State) : (State.settleErr s).thm = s.thm := ((State.settleErr_frame s).1 .thm rfl).symm
@[simp] theorem State.settleErr_tst (s : State) : (State.settleErr s).tst = s.tst := ((State.settleErr_frame s).1 .tst rfl).symm
@[simp] theorem State.settleErr_pmc_ctr (s : State) : (State.settleErr s).pmc.ctr = s.pmc.ctr := ((State.settleErr_frame s).1 .pmcCtr rfl).symm
@[simp] theorem State.settleErr_pwr (s : State) : (State.settleErr s).pwr = s.pwr := ((State.settleErr_frame s).1 .pwr rfl).symm
@[simp] theorem State.settleErr_fw (s : State) : (State.settleErr s).fw = s.fw := ((State.settleErr_frame s).1 .fw rfl).symm
@[simp] theorem State.settleErr_cap (s : State) : (State.settleErr s).cap = s.cap := ((State.settleErr_frame s).1 .cap rfl).symm
@[simp] theorem State.settleErr_dev_busRead (s : State) : (State.settleErr s).dev.busRead = s.dev.busRead := ((State.settleErr_frame s).1 .devBus rfl).symm
@[simp] theorem State.settleErr_dev_rest (s : State) : (State.settleErr s).dev.rest = s.dev.rest := ((State.settleErr_frame s).1 .devRest rfl).symm
@[simp] theorem State.settleErr_hif_rest (s : State) : (State.settleErr s).hif.rest = s.hif.rest := ((State.settleErr_frame s).1 .hifRest rfl).symm
@[simp] theorem State.settleErr_mem_rest (s : State) : (State.settleErr s).mem.rest = s.mem.rest := ((State.settleErr_frame s).1 .memRest rfl).symm
@[simp] theorem State.settleErr_pmc_rest (s : State) : (State.settleErr s).pmc.rest = s.pmc.rest := ((State.settleErr_frame s).1 .pmcRest rfl).symm
@[simp] theorem State.settleErr_dev_mode (s : State) : (State.settleErr s).dev.mode = s.dev.mode := ((State.settleErr_frame s).1 .devMode rfl).1.symm
@[simp] theorem State.settleErr_dev_guard (s : State) : (State.settleErr s).dev.guard = s.dev.guard := ((State.settleErr_frame s).1 .devMode rfl).2.1.symm
@[simp] theorem State.settleErr_dev_guardSince (s : State) : (State.settleErr s).dev.guardSince = s.dev.guardSince := ((State.settleErr_frame s).1 .devMode rfl).2.2.symm
@[simp] theorem State.settleErr_lineAt_lrx_rest (s : State) (ln : Nat) : ((State.settleErr s).lineAt ln).lrx.rest = (s.lineAt ln).lrx.rest := (((State.settleErr_frame s).1 .lnRx rfl) ln).symm
@[simp] theorem State.settleErr_lineAt_lrx (s : State) (ln : Nat) : ((State.settleErr s).lineAt ln).lrx = (s.lineAt ln).lrx := (((State.settleErr_frame s).1 .lnRxPower rfl) ln).symm
@[simp] theorem State.settleErr_lineAt_sea (s : State) (ln : Nat) : ((State.settleErr s).lineAt ln).sea = (s.lineAt ln).sea := (((State.settleErr_frame s).1 .lnSea rfl) ln).symm
@[simp] theorem State.settleErr_lineAt_sdf (s : State) (ln : Nat) : ((State.settleErr s).lineAt ln).sdf = (s.lineAt ln).sdf := (((State.settleErr_frame s).1 .lnSdf rfl) ln).symm
@[simp] theorem State.settleErr_lineAt_ltx (s : State) (ln : Nat) : ((State.settleErr s).lineAt ln).ltx = (s.lineAt ln).ltx := (((State.settleErr_frame s).1 .lnLtx rfl) ln).symm
@[simp] theorem State.settleErr_lineAt_plt (s : State) (ln : Nat) : ((State.settleErr s).lineAt ln).plt = (s.lineAt ln).plt := (((State.settleErr_frame s).1 .lnPlt rfl) ln).symm
@[simp] theorem State.settleErr_lineAt_state (s : State) (ln : Nat) : ((State.settleErr s).lineAt ln).state = (s.lineAt ln).state := (((State.settleErr_frame s).1 .lnState rfl) ln).1.symm
@[simp] theorem State.settleErr_lineAt_stuck (s : State) (ln : Nat) : ((State.settleErr s).lineAt ln).stuck = (s.lineAt ln).stuck := (((State.settleErr_frame s).1 .lnState rfl) ln).2.1.symm
@[simp] theorem State.settleErr_lineAt_badStage (s : State) (ln : Nat) : ((State.settleErr s).lineAt ln).badStage = (s.lineAt ln).badStage := (((State.settleErr_frame s).1 .lnState rfl) ln).2.2.symm
@[simp] theorem State.settleErr_lineAt_optics (s : State) (ln : Nat) : ((State.settleErr s).lineAt ln).optics = (s.lineAt ln).optics := (((State.settleErr_frame s).1 .lnOptics rfl) ln).1.symm
@[simp] theorem State.settleErr_lineAt_optSince (s : State) (ln : Nat) : ((State.settleErr s).lineAt ln).optSince = (s.lineAt ln).optSince := (((State.settleErr_frame s).1 .lnOptics rfl) ln).2.symm
@[simp] theorem State.settleErr_hostAt_rest (s : State) (hn : Nat) : ((State.settleErr s).hostAt hn).rest = (s.hostAt hn).rest := (((State.settleErr_frame s).1 .hostRest rfl) hn).symm
@[simp] theorem State.settleErr_hostAt (s : State) (hn : Nat) : (State.settleErr s).hostAt hn = s.hostAt hn := (((State.settleErr_frame s).1 .hostTx rfl) hn).symm

theorem State.settleGuard_frame (s : State) : Keep 0x308 s (State.settleGuard s) := State.settleGuard_keep s rfl (Keep.refl _ _)
@[simp] theorem State.settleGuard_pending (s : State) : (State.settleGuard s).pending = s.pending := ((State.settleGuard_frame s).1 .pending rfl).symm
@[simp] theorem State.settleGuard_free (s : State) : (State.settleGuard s).free = s.free := ((State.settleGuard_frame s).1 .free rfl).symm
@[simp] theorem State.settleGuard_fuses (s : State) : (State.settleGuard s).fuses = s.fuses := ((State.settleGuard_frame s).1 .fuses rfl).symm
@[simp] theorem State.settleGuard_shut (s : State) : (State.settleGuard s).shut = s.shut := ((State.settleGuard_frame s).1 .shut rfl).symm
@[simp] theorem State.settleGuard_mb (s : State) : (State.settleGuard s).mb = s.mb := ((State.settleGuard_frame s).1 .mb rfl).symm
@[simp] theorem State.settleGuard_ev_urgent (s : State) : (State.settleGuard s).ev.urgent = s.ev.urgent := ((State.settleGuard_frame s).1 .evUrgent rfl).symm
@[simp] theorem State.settleGuard_icu (s : State) : (State.settleGuard s).icu = s.icu := ((State.settleGuard_frame s).1 .icu rfl).symm
@[simp] theorem State.settleGuard_hif_l1 (s : State) : (State.settleGuard s).hif.l1 = s.hif.l1 := ((State.settleGuard_frame s).1 .hifL1 rfl).symm
@[simp] theorem State.settleGuard_err (s : State) : (State.settleGuard s).err = s.err := ((State.settleGuard_frame s).1 .err rfl).symm
@[simp] theorem State.settleGuard_tku (s : State) : (State.settleGuard s).tku = s.tku := ((State.settleGuard_frame s).1 .tku rfl).symm
@[simp] theorem State.settleGuard_params (s : State) : (State.settleGuard s).params = s.params := ((State.settleGuard_frame s).1 .params rfl).symm
@[simp] theorem State.settleGuard_stats (s : State) : (State.settleGuard s).stats = s.stats := ((State.settleGuard_frame s).1 .stats rfl).symm
@[simp] theorem State.settleGuard_group (s : State) : (State.settleGuard s).group = s.group := ((State.settleGuard_frame s).1 .group rfl).symm
@[simp] theorem State.settleGuard_port (s : State) : (State.settleGuard s).port = s.port := ((State.settleGuard_frame s).1 .port rfl).symm
@[simp] theorem State.settleGuard_block (s : State) : (State.settleGuard s).block = s.block := ((State.settleGuard_frame s).1 .block rfl).symm
@[simp] theorem State.settleGuard_eng (s : State) : (State.settleGuard s).eng = s.eng := ((State.settleGuard_frame s).1 .eng rfl).symm
@[simp] theorem State.settleGuard_hinge (s : State) : (State.settleGuard s).hinge = s.hinge := ((State.settleGuard_frame s).1 .hinge rfl).symm
@[simp] theorem State.settleGuard_lex (s : State) : (State.settleGuard s).lex = s.lex := ((State.settleGuard_frame s).1 .lex rfl).symm
@[simp] theorem State.settleGuard_mem_data (s : State) : (State.settleGuard s).mem.data = s.mem.data := ((State.settleGuard_frame s).1 .memData rfl).symm
@[simp] theorem State.settleGuard_rep (s : State) : (State.settleGuard s).rep = s.rep := ((State.settleGuard_frame s).1 .rep rfl).symm
@[simp] theorem State.settleGuard_ocu (s : State) : (State.settleGuard s).ocu = s.ocu := ((State.settleGuard_frame s).1 .ocu rfl).symm
@[simp] theorem State.settleGuard_cal (s : State) : (State.settleGuard s).cal = s.cal := ((State.settleGuard_frame s).1 .cal rfl).symm
@[simp] theorem State.settleGuard_thm (s : State) : (State.settleGuard s).thm = s.thm := ((State.settleGuard_frame s).1 .thm rfl).symm
@[simp] theorem State.settleGuard_tst (s : State) : (State.settleGuard s).tst = s.tst := ((State.settleGuard_frame s).1 .tst rfl).symm
@[simp] theorem State.settleGuard_pmc_ctr (s : State) : (State.settleGuard s).pmc.ctr = s.pmc.ctr := ((State.settleGuard_frame s).1 .pmcCtr rfl).symm
@[simp] theorem State.settleGuard_pwr (s : State) : (State.settleGuard s).pwr = s.pwr := ((State.settleGuard_frame s).1 .pwr rfl).symm
@[simp] theorem State.settleGuard_fw (s : State) : (State.settleGuard s).fw = s.fw := ((State.settleGuard_frame s).1 .fw rfl).symm
@[simp] theorem State.settleGuard_cap (s : State) : (State.settleGuard s).cap = s.cap := ((State.settleGuard_frame s).1 .cap rfl).symm
@[simp] theorem State.settleGuard_dev_busRead (s : State) : (State.settleGuard s).dev.busRead = s.dev.busRead := ((State.settleGuard_frame s).1 .devBus rfl).symm
@[simp] theorem State.settleGuard_dev_rest (s : State) : (State.settleGuard s).dev.rest = s.dev.rest := ((State.settleGuard_frame s).1 .devRest rfl).symm
@[simp] theorem State.settleGuard_hif_rest (s : State) : (State.settleGuard s).hif.rest = s.hif.rest := ((State.settleGuard_frame s).1 .hifRest rfl).symm
@[simp] theorem State.settleGuard_mem_rest (s : State) : (State.settleGuard s).mem.rest = s.mem.rest := ((State.settleGuard_frame s).1 .memRest rfl).symm
@[simp] theorem State.settleGuard_pmc_rest (s : State) : (State.settleGuard s).pmc.rest = s.pmc.rest := ((State.settleGuard_frame s).1 .pmcRest rfl).symm
@[simp] theorem State.settleGuard_lineAt_lrx_rest (s : State) (ln : Nat) : ((State.settleGuard s).lineAt ln).lrx.rest = (s.lineAt ln).lrx.rest := (((State.settleGuard_frame s).1 .lnRx rfl) ln).symm
@[simp] theorem State.settleGuard_lineAt_lrx (s : State) (ln : Nat) : ((State.settleGuard s).lineAt ln).lrx = (s.lineAt ln).lrx := (((State.settleGuard_frame s).1 .lnRxPower rfl) ln).symm
@[simp] theorem State.settleGuard_lineAt_sea (s : State) (ln : Nat) : ((State.settleGuard s).lineAt ln).sea = (s.lineAt ln).sea := (((State.settleGuard_frame s).1 .lnSea rfl) ln).symm
@[simp] theorem State.settleGuard_lineAt_sdf (s : State) (ln : Nat) : ((State.settleGuard s).lineAt ln).sdf = (s.lineAt ln).sdf := (((State.settleGuard_frame s).1 .lnSdf rfl) ln).symm
@[simp] theorem State.settleGuard_lineAt_ltx (s : State) (ln : Nat) : ((State.settleGuard s).lineAt ln).ltx = (s.lineAt ln).ltx := (((State.settleGuard_frame s).1 .lnLtx rfl) ln).symm
@[simp] theorem State.settleGuard_lineAt_plt (s : State) (ln : Nat) : ((State.settleGuard s).lineAt ln).plt = (s.lineAt ln).plt := (((State.settleGuard_frame s).1 .lnPlt rfl) ln).symm
@[simp] theorem State.settleGuard_lineAt_state (s : State) (ln : Nat) : ((State.settleGuard s).lineAt ln).state = (s.lineAt ln).state := (((State.settleGuard_frame s).1 .lnState rfl) ln).1.symm
@[simp] theorem State.settleGuard_lineAt_stuck (s : State) (ln : Nat) : ((State.settleGuard s).lineAt ln).stuck = (s.lineAt ln).stuck := (((State.settleGuard_frame s).1 .lnState rfl) ln).2.1.symm
@[simp] theorem State.settleGuard_lineAt_badStage (s : State) (ln : Nat) : ((State.settleGuard s).lineAt ln).badStage = (s.lineAt ln).badStage := (((State.settleGuard_frame s).1 .lnState rfl) ln).2.2.symm
@[simp] theorem State.settleGuard_lineAt_optics (s : State) (ln : Nat) : ((State.settleGuard s).lineAt ln).optics = (s.lineAt ln).optics := (((State.settleGuard_frame s).1 .lnOptics rfl) ln).1.symm
@[simp] theorem State.settleGuard_lineAt_optSince (s : State) (ln : Nat) : ((State.settleGuard s).lineAt ln).optSince = (s.lineAt ln).optSince := (((State.settleGuard_frame s).1 .lnOptics rfl) ln).2.symm
@[simp] theorem State.settleGuard_hostAt_rest (s : State) (hn : Nat) : ((State.settleGuard s).hostAt hn).rest = (s.hostAt hn).rest := (((State.settleGuard_frame s).1 .hostRest rfl) hn).symm
@[simp] theorem State.settleGuard_hostAt (s : State) (hn : Nat) : (State.settleGuard s).hostAt hn = s.hostAt hn := (((State.settleGuard_frame s).1 .hostTx rfl) hn).symm

theorem State.settlePorts_frame (s : State) : Keep 0x308 s (State.settlePorts s) := State.settlePorts_keep s rfl (Keep.refl _ _)
@[simp] theorem State.settlePorts_pending (s : State) : (State.settlePorts s).pending = s.pending := ((State.settlePorts_frame s).1 .pending rfl).symm
@[simp] theorem State.settlePorts_free (s : State) : (State.settlePorts s).free = s.free := ((State.settlePorts_frame s).1 .free rfl).symm
@[simp] theorem State.settlePorts_fuses (s : State) : (State.settlePorts s).fuses = s.fuses := ((State.settlePorts_frame s).1 .fuses rfl).symm
@[simp] theorem State.settlePorts_shut (s : State) : (State.settlePorts s).shut = s.shut := ((State.settlePorts_frame s).1 .shut rfl).symm
@[simp] theorem State.settlePorts_mb (s : State) : (State.settlePorts s).mb = s.mb := ((State.settlePorts_frame s).1 .mb rfl).symm
@[simp] theorem State.settlePorts_ev_urgent (s : State) : (State.settlePorts s).ev.urgent = s.ev.urgent := ((State.settlePorts_frame s).1 .evUrgent rfl).symm
@[simp] theorem State.settlePorts_icu (s : State) : (State.settlePorts s).icu = s.icu := ((State.settlePorts_frame s).1 .icu rfl).symm
@[simp] theorem State.settlePorts_hif_l1 (s : State) : (State.settlePorts s).hif.l1 = s.hif.l1 := ((State.settlePorts_frame s).1 .hifL1 rfl).symm
@[simp] theorem State.settlePorts_err (s : State) : (State.settlePorts s).err = s.err := ((State.settlePorts_frame s).1 .err rfl).symm
@[simp] theorem State.settlePorts_tku (s : State) : (State.settlePorts s).tku = s.tku := ((State.settlePorts_frame s).1 .tku rfl).symm
@[simp] theorem State.settlePorts_params (s : State) : (State.settlePorts s).params = s.params := ((State.settlePorts_frame s).1 .params rfl).symm
@[simp] theorem State.settlePorts_stats (s : State) : (State.settlePorts s).stats = s.stats := ((State.settlePorts_frame s).1 .stats rfl).symm
@[simp] theorem State.settlePorts_group (s : State) : (State.settlePorts s).group = s.group := ((State.settlePorts_frame s).1 .group rfl).symm
@[simp] theorem State.settlePorts_port (s : State) : (State.settlePorts s).port = s.port := ((State.settlePorts_frame s).1 .port rfl).symm
@[simp] theorem State.settlePorts_block (s : State) : (State.settlePorts s).block = s.block := ((State.settlePorts_frame s).1 .block rfl).symm
@[simp] theorem State.settlePorts_eng (s : State) : (State.settlePorts s).eng = s.eng := ((State.settlePorts_frame s).1 .eng rfl).symm
@[simp] theorem State.settlePorts_hinge (s : State) : (State.settlePorts s).hinge = s.hinge := ((State.settlePorts_frame s).1 .hinge rfl).symm
@[simp] theorem State.settlePorts_lex (s : State) : (State.settlePorts s).lex = s.lex := ((State.settlePorts_frame s).1 .lex rfl).symm
@[simp] theorem State.settlePorts_mem_data (s : State) : (State.settlePorts s).mem.data = s.mem.data := ((State.settlePorts_frame s).1 .memData rfl).symm
@[simp] theorem State.settlePorts_rep (s : State) : (State.settlePorts s).rep = s.rep := ((State.settlePorts_frame s).1 .rep rfl).symm
@[simp] theorem State.settlePorts_ocu (s : State) : (State.settlePorts s).ocu = s.ocu := ((State.settlePorts_frame s).1 .ocu rfl).symm
@[simp] theorem State.settlePorts_cal (s : State) : (State.settlePorts s).cal = s.cal := ((State.settlePorts_frame s).1 .cal rfl).symm
@[simp] theorem State.settlePorts_thm (s : State) : (State.settlePorts s).thm = s.thm := ((State.settlePorts_frame s).1 .thm rfl).symm
@[simp] theorem State.settlePorts_tst (s : State) : (State.settlePorts s).tst = s.tst := ((State.settlePorts_frame s).1 .tst rfl).symm
@[simp] theorem State.settlePorts_pmc_ctr (s : State) : (State.settlePorts s).pmc.ctr = s.pmc.ctr := ((State.settlePorts_frame s).1 .pmcCtr rfl).symm
@[simp] theorem State.settlePorts_pwr (s : State) : (State.settlePorts s).pwr = s.pwr := ((State.settlePorts_frame s).1 .pwr rfl).symm
@[simp] theorem State.settlePorts_fw (s : State) : (State.settlePorts s).fw = s.fw := ((State.settlePorts_frame s).1 .fw rfl).symm
@[simp] theorem State.settlePorts_cap (s : State) : (State.settlePorts s).cap = s.cap := ((State.settlePorts_frame s).1 .cap rfl).symm
@[simp] theorem State.settlePorts_dev_busRead (s : State) : (State.settlePorts s).dev.busRead = s.dev.busRead := ((State.settlePorts_frame s).1 .devBus rfl).symm
@[simp] theorem State.settlePorts_dev_rest (s : State) : (State.settlePorts s).dev.rest = s.dev.rest := ((State.settlePorts_frame s).1 .devRest rfl).symm
@[simp] theorem State.settlePorts_hif_rest (s : State) : (State.settlePorts s).hif.rest = s.hif.rest := ((State.settlePorts_frame s).1 .hifRest rfl).symm
@[simp] theorem State.settlePorts_mem_rest (s : State) : (State.settlePorts s).mem.rest = s.mem.rest := ((State.settlePorts_frame s).1 .memRest rfl).symm
@[simp] theorem State.settlePorts_pmc_rest (s : State) : (State.settlePorts s).pmc.rest = s.pmc.rest := ((State.settlePorts_frame s).1 .pmcRest rfl).symm
@[simp] theorem State.settlePorts_lineAt_lrx_rest (s : State) (ln : Nat) : ((State.settlePorts s).lineAt ln).lrx.rest = (s.lineAt ln).lrx.rest := (((State.settlePorts_frame s).1 .lnRx rfl) ln).symm
@[simp] theorem State.settlePorts_lineAt_lrx (s : State) (ln : Nat) : ((State.settlePorts s).lineAt ln).lrx = (s.lineAt ln).lrx := (((State.settlePorts_frame s).1 .lnRxPower rfl) ln).symm
@[simp] theorem State.settlePorts_lineAt_sea (s : State) (ln : Nat) : ((State.settlePorts s).lineAt ln).sea = (s.lineAt ln).sea := (((State.settlePorts_frame s).1 .lnSea rfl) ln).symm
@[simp] theorem State.settlePorts_lineAt_sdf (s : State) (ln : Nat) : ((State.settlePorts s).lineAt ln).sdf = (s.lineAt ln).sdf := (((State.settlePorts_frame s).1 .lnSdf rfl) ln).symm
@[simp] theorem State.settlePorts_lineAt_ltx (s : State) (ln : Nat) : ((State.settlePorts s).lineAt ln).ltx = (s.lineAt ln).ltx := (((State.settlePorts_frame s).1 .lnLtx rfl) ln).symm
@[simp] theorem State.settlePorts_lineAt_plt (s : State) (ln : Nat) : ((State.settlePorts s).lineAt ln).plt = (s.lineAt ln).plt := (((State.settlePorts_frame s).1 .lnPlt rfl) ln).symm
@[simp] theorem State.settlePorts_lineAt_state (s : State) (ln : Nat) : ((State.settlePorts s).lineAt ln).state = (s.lineAt ln).state := (((State.settlePorts_frame s).1 .lnState rfl) ln).1.symm
@[simp] theorem State.settlePorts_lineAt_stuck (s : State) (ln : Nat) : ((State.settlePorts s).lineAt ln).stuck = (s.lineAt ln).stuck := (((State.settlePorts_frame s).1 .lnState rfl) ln).2.1.symm
@[simp] theorem State.settlePorts_lineAt_badStage (s : State) (ln : Nat) : ((State.settlePorts s).lineAt ln).badStage = (s.lineAt ln).badStage := (((State.settlePorts_frame s).1 .lnState rfl) ln).2.2.symm
@[simp] theorem State.settlePorts_lineAt_optics (s : State) (ln : Nat) : ((State.settlePorts s).lineAt ln).optics = (s.lineAt ln).optics := (((State.settlePorts_frame s).1 .lnOptics rfl) ln).1.symm
@[simp] theorem State.settlePorts_lineAt_optSince (s : State) (ln : Nat) : ((State.settlePorts s).lineAt ln).optSince = (s.lineAt ln).optSince := (((State.settlePorts_frame s).1 .lnOptics rfl) ln).2.symm
@[simp] theorem State.settlePorts_hostAt_rest (s : State) (hn : Nat) : ((State.settlePorts s).hostAt hn).rest = (s.hostAt hn).rest := (((State.settlePorts_frame s).1 .hostRest rfl) hn).symm
@[simp] theorem State.settlePorts_hostAt (s : State) (hn : Nat) : (State.settlePorts s).hostAt hn = s.hostAt hn := (((State.settlePorts_frame s).1 .hostTx rfl) hn).symm

theorem State.settle_frame (s : State) : Keep 0x20000005b08 s (State.settle s) := State.settle_keep s rfl (Keep.refl _ _)
@[simp] theorem State.settle_pending (s : State) : (State.settle s).pending = s.pending := ((State.settle_frame s).1 .pending rfl).symm
@[simp] theorem State.settle_free (s : State) : (State.settle s).free = s.free := ((State.settle_frame s).1 .free rfl).symm
@[simp] theorem State.settle_fuses (s : State) : (State.settle s).fuses = s.fuses := ((State.settle_frame s).1 .fuses rfl).symm
@[simp] theorem State.settle_shut (s : State) : (State.settle s).shut = s.shut := ((State.settle_frame s).1 .shut rfl).symm
@[simp] theorem State.settle_mb (s : State) : (State.settle s).mb = s.mb := ((State.settle_frame s).1 .mb rfl).symm
@[simp] theorem State.settle_ev_urgent (s : State) : (State.settle s).ev.urgent = s.ev.urgent := ((State.settle_frame s).1 .evUrgent rfl).symm
@[simp] theorem State.settle_tku (s : State) : (State.settle s).tku = s.tku := ((State.settle_frame s).1 .tku rfl).symm
@[simp] theorem State.settle_params (s : State) : (State.settle s).params = s.params := ((State.settle_frame s).1 .params rfl).symm
@[simp] theorem State.settle_stats (s : State) : (State.settle s).stats = s.stats := ((State.settle_frame s).1 .stats rfl).symm
@[simp] theorem State.settle_group (s : State) : (State.settle s).group = s.group := ((State.settle_frame s).1 .group rfl).symm
@[simp] theorem State.settle_port (s : State) : (State.settle s).port = s.port := ((State.settle_frame s).1 .port rfl).symm
@[simp] theorem State.settle_block (s : State) : (State.settle s).block = s.block := ((State.settle_frame s).1 .block rfl).symm
@[simp] theorem State.settle_eng (s : State) : (State.settle s).eng = s.eng := ((State.settle_frame s).1 .eng rfl).symm
@[simp] theorem State.settle_hinge (s : State) : (State.settle s).hinge = s.hinge := ((State.settle_frame s).1 .hinge rfl).symm
@[simp] theorem State.settle_lex (s : State) : (State.settle s).lex = s.lex := ((State.settle_frame s).1 .lex rfl).symm
@[simp] theorem State.settle_mem_data (s : State) : (State.settle s).mem.data = s.mem.data := ((State.settle_frame s).1 .memData rfl).symm
@[simp] theorem State.settle_rep (s : State) : (State.settle s).rep = s.rep := ((State.settle_frame s).1 .rep rfl).symm
@[simp] theorem State.settle_ocu (s : State) : (State.settle s).ocu = s.ocu := ((State.settle_frame s).1 .ocu rfl).symm
@[simp] theorem State.settle_cal (s : State) : (State.settle s).cal = s.cal := ((State.settle_frame s).1 .cal rfl).symm
@[simp] theorem State.settle_thm (s : State) : (State.settle s).thm = s.thm := ((State.settle_frame s).1 .thm rfl).symm
@[simp] theorem State.settle_tst (s : State) : (State.settle s).tst = s.tst := ((State.settle_frame s).1 .tst rfl).symm
@[simp] theorem State.settle_pwr (s : State) : (State.settle s).pwr = s.pwr := ((State.settle_frame s).1 .pwr rfl).symm
@[simp] theorem State.settle_fw (s : State) : (State.settle s).fw = s.fw := ((State.settle_frame s).1 .fw rfl).symm
@[simp] theorem State.settle_cap (s : State) : (State.settle s).cap = s.cap := ((State.settle_frame s).1 .cap rfl).symm
@[simp] theorem State.settle_dev_busRead (s : State) : (State.settle s).dev.busRead = s.dev.busRead := ((State.settle_frame s).1 .devBus rfl).symm
@[simp] theorem State.settle_dev_rest (s : State) : (State.settle s).dev.rest = s.dev.rest := ((State.settle_frame s).1 .devRest rfl).symm
@[simp] theorem State.settle_hif_rest (s : State) : (State.settle s).hif.rest = s.hif.rest := ((State.settle_frame s).1 .hifRest rfl).symm
@[simp] theorem State.settle_mem_rest (s : State) : (State.settle s).mem.rest = s.mem.rest := ((State.settle_frame s).1 .memRest rfl).symm
@[simp] theorem State.settle_pmc_rest (s : State) : (State.settle s).pmc.rest = s.pmc.rest := ((State.settle_frame s).1 .pmcRest rfl).symm
@[simp] theorem State.settle_lineAt_lrx_rest (s : State) (ln : Nat) : ((State.settle s).lineAt ln).lrx.rest = (s.lineAt ln).lrx.rest := (((State.settle_frame s).1 .lnRx rfl) ln).symm
@[simp] theorem State.settle_lineAt_lrx (s : State) (ln : Nat) : ((State.settle s).lineAt ln).lrx = (s.lineAt ln).lrx := (((State.settle_frame s).1 .lnRxPower rfl) ln).symm
@[simp] theorem State.settle_lineAt_sea (s : State) (ln : Nat) : ((State.settle s).lineAt ln).sea = (s.lineAt ln).sea := (((State.settle_frame s).1 .lnSea rfl) ln).symm
@[simp] theorem State.settle_lineAt_sdf (s : State) (ln : Nat) : ((State.settle s).lineAt ln).sdf = (s.lineAt ln).sdf := (((State.settle_frame s).1 .lnSdf rfl) ln).symm
@[simp] theorem State.settle_lineAt_ltx (s : State) (ln : Nat) : ((State.settle s).lineAt ln).ltx = (s.lineAt ln).ltx := (((State.settle_frame s).1 .lnLtx rfl) ln).symm
@[simp] theorem State.settle_lineAt_plt (s : State) (ln : Nat) : ((State.settle s).lineAt ln).plt = (s.lineAt ln).plt := (((State.settle_frame s).1 .lnPlt rfl) ln).symm
@[simp] theorem State.settle_lineAt_state (s : State) (ln : Nat) : ((State.settle s).lineAt ln).state = (s.lineAt ln).state := (((State.settle_frame s).1 .lnState rfl) ln).1.symm
@[simp] theorem State.settle_lineAt_stuck (s : State) (ln : Nat) : ((State.settle s).lineAt ln).stuck = (s.lineAt ln).stuck := (((State.settle_frame s).1 .lnState rfl) ln).2.1.symm
@[simp] theorem State.settle_lineAt_badStage (s : State) (ln : Nat) : ((State.settle s).lineAt ln).badStage = (s.lineAt ln).badStage := (((State.settle_frame s).1 .lnState rfl) ln).2.2.symm
@[simp] theorem State.settle_lineAt_optics (s : State) (ln : Nat) : ((State.settle s).lineAt ln).optics = (s.lineAt ln).optics := (((State.settle_frame s).1 .lnOptics rfl) ln).1.symm
@[simp] theorem State.settle_lineAt_optSince (s : State) (ln : Nat) : ((State.settle s).lineAt ln).optSince = (s.lineAt ln).optSince := (((State.settle_frame s).1 .lnOptics rfl) ln).2.symm
@[simp] theorem State.settle_hostAt_rest (s : State) (hn : Nat) : ((State.settle s).hostAt hn).rest = (s.hostAt hn).rest := (((State.settle_frame s).1 .hostRest rfl) hn).symm
@[simp] theorem State.settle_hostAt (s : State) (hn : Nat) : (State.settle s).hostAt hn = s.hostAt hn := (((State.settle_frame s).1 .hostTx rfl) hn).symm

theorem State.setMode_frame (s : State) (m : Mode) (trigger : Nat) : Keep 0x308 s (State.setMode s m trigger) := State.setMode_keep s m trigger rfl (Keep.refl _ _)
@[simp] theorem State.setMode_pending (s : State) (m : Mode) (trigger : Nat) : (State.setMode s m trigger).pending = s.pending := ((State.setMode_frame s m trigger).1 .pending rfl).symm
@[simp] theorem State.setMode_free (s : State) (m : Mode) (trigger : Nat) : (State.setMode s m trigger).free = s.free := ((State.setMode_frame s m trigger).1 .free rfl).symm
@[simp] theorem State.setMode_fuses (s : State) (m : Mode) (trigger : Nat) : (State.setMode s m trigger).fuses = s.fuses := ((State.setMode_frame s m trigger).1 .fuses rfl).symm
@[simp] theorem State.setMode_shut (s : State) (m : Mode) (trigger : Nat) : (State.setMode s m trigger).shut = s.shut := ((State.setMode_frame s m trigger).1 .shut rfl).symm
@[simp] theorem State.setMode_mb (s : State) (m : Mode) (trigger : Nat) : (State.setMode s m trigger).mb = s.mb := ((State.setMode_frame s m trigger).1 .mb rfl).symm
@[simp] theorem State.setMode_ev_urgent (s : State) (m : Mode) (trigger : Nat) : (State.setMode s m trigger).ev.urgent = s.ev.urgent := ((State.setMode_frame s m trigger).1 .evUrgent rfl).symm
@[simp] theorem State.setMode_icu (s : State) (m : Mode) (trigger : Nat) : (State.setMode s m trigger).icu = s.icu := ((State.setMode_frame s m trigger).1 .icu rfl).symm
@[simp] theorem State.setMode_hif_l1 (s : State) (m : Mode) (trigger : Nat) : (State.setMode s m trigger).hif.l1 = s.hif.l1 := ((State.setMode_frame s m trigger).1 .hifL1 rfl).symm
@[simp] theorem State.setMode_err (s : State) (m : Mode) (trigger : Nat) : (State.setMode s m trigger).err = s.err := ((State.setMode_frame s m trigger).1 .err rfl).symm
@[simp] theorem State.setMode_tku (s : State) (m : Mode) (trigger : Nat) : (State.setMode s m trigger).tku = s.tku := ((State.setMode_frame s m trigger).1 .tku rfl).symm
@[simp] theorem State.setMode_params (s : State) (m : Mode) (trigger : Nat) : (State.setMode s m trigger).params = s.params := ((State.setMode_frame s m trigger).1 .params rfl).symm
@[simp] theorem State.setMode_stats (s : State) (m : Mode) (trigger : Nat) : (State.setMode s m trigger).stats = s.stats := ((State.setMode_frame s m trigger).1 .stats rfl).symm
@[simp] theorem State.setMode_group (s : State) (m : Mode) (trigger : Nat) : (State.setMode s m trigger).group = s.group := ((State.setMode_frame s m trigger).1 .group rfl).symm
@[simp] theorem State.setMode_port (s : State) (m : Mode) (trigger : Nat) : (State.setMode s m trigger).port = s.port := ((State.setMode_frame s m trigger).1 .port rfl).symm
@[simp] theorem State.setMode_block (s : State) (m : Mode) (trigger : Nat) : (State.setMode s m trigger).block = s.block := ((State.setMode_frame s m trigger).1 .block rfl).symm
@[simp] theorem State.setMode_eng (s : State) (m : Mode) (trigger : Nat) : (State.setMode s m trigger).eng = s.eng := ((State.setMode_frame s m trigger).1 .eng rfl).symm
@[simp] theorem State.setMode_hinge (s : State) (m : Mode) (trigger : Nat) : (State.setMode s m trigger).hinge = s.hinge := ((State.setMode_frame s m trigger).1 .hinge rfl).symm
@[simp] theorem State.setMode_lex (s : State) (m : Mode) (trigger : Nat) : (State.setMode s m trigger).lex = s.lex := ((State.setMode_frame s m trigger).1 .lex rfl).symm
@[simp] theorem State.setMode_mem_data (s : State) (m : Mode) (trigger : Nat) : (State.setMode s m trigger).mem.data = s.mem.data := ((State.setMode_frame s m trigger).1 .memData rfl).symm
@[simp] theorem State.setMode_rep (s : State) (m : Mode) (trigger : Nat) : (State.setMode s m trigger).rep = s.rep := ((State.setMode_frame s m trigger).1 .rep rfl).symm
@[simp] theorem State.setMode_ocu (s : State) (m : Mode) (trigger : Nat) : (State.setMode s m trigger).ocu = s.ocu := ((State.setMode_frame s m trigger).1 .ocu rfl).symm
@[simp] theorem State.setMode_cal (s : State) (m : Mode) (trigger : Nat) : (State.setMode s m trigger).cal = s.cal := ((State.setMode_frame s m trigger).1 .cal rfl).symm
@[simp] theorem State.setMode_thm (s : State) (m : Mode) (trigger : Nat) : (State.setMode s m trigger).thm = s.thm := ((State.setMode_frame s m trigger).1 .thm rfl).symm
@[simp] theorem State.setMode_tst (s : State) (m : Mode) (trigger : Nat) : (State.setMode s m trigger).tst = s.tst := ((State.setMode_frame s m trigger).1 .tst rfl).symm
@[simp] theorem State.setMode_pmc_ctr (s : State) (m : Mode) (trigger : Nat) : (State.setMode s m trigger).pmc.ctr = s.pmc.ctr := ((State.setMode_frame s m trigger).1 .pmcCtr rfl).symm
@[simp] theorem State.setMode_pwr (s : State) (m : Mode) (trigger : Nat) : (State.setMode s m trigger).pwr = s.pwr := ((State.setMode_frame s m trigger).1 .pwr rfl).symm
@[simp] theorem State.setMode_fw (s : State) (m : Mode) (trigger : Nat) : (State.setMode s m trigger).fw = s.fw := ((State.setMode_frame s m trigger).1 .fw rfl).symm
@[simp] theorem State.setMode_cap (s : State) (m : Mode) (trigger : Nat) : (State.setMode s m trigger).cap = s.cap := ((State.setMode_frame s m trigger).1 .cap rfl).symm
@[simp] theorem State.setMode_dev_busRead (s : State) (m : Mode) (trigger : Nat) : (State.setMode s m trigger).dev.busRead = s.dev.busRead := ((State.setMode_frame s m trigger).1 .devBus rfl).symm
@[simp] theorem State.setMode_dev_rest (s : State) (m : Mode) (trigger : Nat) : (State.setMode s m trigger).dev.rest = s.dev.rest := ((State.setMode_frame s m trigger).1 .devRest rfl).symm
@[simp] theorem State.setMode_hif_rest (s : State) (m : Mode) (trigger : Nat) : (State.setMode s m trigger).hif.rest = s.hif.rest := ((State.setMode_frame s m trigger).1 .hifRest rfl).symm
@[simp] theorem State.setMode_mem_rest (s : State) (m : Mode) (trigger : Nat) : (State.setMode s m trigger).mem.rest = s.mem.rest := ((State.setMode_frame s m trigger).1 .memRest rfl).symm
@[simp] theorem State.setMode_pmc_rest (s : State) (m : Mode) (trigger : Nat) : (State.setMode s m trigger).pmc.rest = s.pmc.rest := ((State.setMode_frame s m trigger).1 .pmcRest rfl).symm
@[simp] theorem State.setMode_lineAt_lrx_rest (s : State) (m : Mode) (trigger : Nat) (ln : Nat) : ((State.setMode s m trigger).lineAt ln).lrx.rest = (s.lineAt ln).lrx.rest := (((State.setMode_frame s m trigger).1 .lnRx rfl) ln).symm
@[simp] theorem State.setMode_lineAt_lrx (s : State) (m : Mode) (trigger : Nat) (ln : Nat) : ((State.setMode s m trigger).lineAt ln).lrx = (s.lineAt ln).lrx := (((State.setMode_frame s m trigger).1 .lnRxPower rfl) ln).symm
@[simp] theorem State.setMode_lineAt_sea (s : State) (m : Mode) (trigger : Nat) (ln : Nat) : ((State.setMode s m trigger).lineAt ln).sea = (s.lineAt ln).sea := (((State.setMode_frame s m trigger).1 .lnSea rfl) ln).symm
@[simp] theorem State.setMode_lineAt_sdf (s : State) (m : Mode) (trigger : Nat) (ln : Nat) : ((State.setMode s m trigger).lineAt ln).sdf = (s.lineAt ln).sdf := (((State.setMode_frame s m trigger).1 .lnSdf rfl) ln).symm
@[simp] theorem State.setMode_lineAt_ltx (s : State) (m : Mode) (trigger : Nat) (ln : Nat) : ((State.setMode s m trigger).lineAt ln).ltx = (s.lineAt ln).ltx := (((State.setMode_frame s m trigger).1 .lnLtx rfl) ln).symm
@[simp] theorem State.setMode_lineAt_plt (s : State) (m : Mode) (trigger : Nat) (ln : Nat) : ((State.setMode s m trigger).lineAt ln).plt = (s.lineAt ln).plt := (((State.setMode_frame s m trigger).1 .lnPlt rfl) ln).symm
@[simp] theorem State.setMode_lineAt_state (s : State) (m : Mode) (trigger : Nat) (ln : Nat) : ((State.setMode s m trigger).lineAt ln).state = (s.lineAt ln).state := (((State.setMode_frame s m trigger).1 .lnState rfl) ln).1.symm
@[simp] theorem State.setMode_lineAt_stuck (s : State) (m : Mode) (trigger : Nat) (ln : Nat) : ((State.setMode s m trigger).lineAt ln).stuck = (s.lineAt ln).stuck := (((State.setMode_frame s m trigger).1 .lnState rfl) ln).2.1.symm
@[simp] theorem State.setMode_lineAt_badStage (s : State) (m : Mode) (trigger : Nat) (ln : Nat) : ((State.setMode s m trigger).lineAt ln).badStage = (s.lineAt ln).badStage := (((State.setMode_frame s m trigger).1 .lnState rfl) ln).2.2.symm
@[simp] theorem State.setMode_lineAt_optics (s : State) (m : Mode) (trigger : Nat) (ln : Nat) : ((State.setMode s m trigger).lineAt ln).optics = (s.lineAt ln).optics := (((State.setMode_frame s m trigger).1 .lnOptics rfl) ln).1.symm
@[simp] theorem State.setMode_lineAt_optSince (s : State) (m : Mode) (trigger : Nat) (ln : Nat) : ((State.setMode s m trigger).lineAt ln).optSince = (s.lineAt ln).optSince := (((State.setMode_frame s m trigger).1 .lnOptics rfl) ln).2.symm
@[simp] theorem State.setMode_hostAt_rest (s : State) (m : Mode) (trigger : Nat) (hn : Nat) : ((State.setMode s m trigger).hostAt hn).rest = (s.hostAt hn).rest := (((State.setMode_frame s m trigger).1 .hostRest rfl) hn).symm
@[simp] theorem State.setMode_hostAt (s : State) (m : Mode) (trigger : Nat) (hn : Nat) : (State.setMode s m trigger).hostAt hn = s.hostAt hn := (((State.setMode_frame s m trigger).1 .hostTx rfl) hn).symm

theorem State.complete_frame (s : State) (m : Sentence) (code detail : Nat) (o : Obj) (words : List Word) (bytes : Nat) : Keep 0x20000001b80 s (State.complete s m code detail o words bytes) := State.complete_keep s m code detail o words bytes rfl (Keep.refl _ _)
@[simp] theorem State.complete_pending (s : State) (m : Sentence) (code detail : Nat) (o : Obj) (words : List Word) (bytes : Nat) : (State.complete s m code detail o words bytes).pending = s.pending := ((State.complete_frame s m code detail o words bytes).1 .pending rfl).symm
@[simp] theorem State.complete_free (s : State) (m : Sentence) (code detail : Nat) (o : Obj) (words : List Word) (bytes : Nat) : (State.complete s m code detail o words bytes).free = s.free := ((State.complete_frame s m code detail o words bytes).1 .free rfl).symm
@[simp] theorem State.complete_fuses (s : State) (m : Sentence) (code detail : Nat) (o : Obj) (words : List Word) (bytes : Nat) : (State.complete s m code detail o words bytes).fuses = s.fuses := ((State.complete_frame s m code detail o words bytes).1 .fuses rfl).symm
@[simp] theorem State.complete_shut (s : State) (m : Sentence) (code detail : Nat) (o : Obj) (words : List Word) (bytes : Nat) : (State.complete s m code detail o words bytes).shut = s.shut := ((State.complete_frame s m code detail o words bytes).1 .shut rfl).symm
@[simp] theorem State.complete_ev_urgent (s : State) (m : Sentence) (code detail : Nat) (o : Obj) (words : List Word) (bytes : Nat) : (State.complete s m code detail o words bytes).ev.urgent = s.ev.urgent := ((State.complete_frame s m code detail o words bytes).1 .evUrgent rfl).symm
@[simp] theorem State.complete_err (s : State) (m : Sentence) (code detail : Nat) (o : Obj) (words : List Word) (bytes : Nat) : (State.complete s m code detail o words bytes).err = s.err := ((State.complete_frame s m code detail o words bytes).1 .err rfl).symm
@[simp] theorem State.complete_tku (s : State) (m : Sentence) (code detail : Nat) (o : Obj) (words : List Word) (bytes : Nat) : (State.complete s m code detail o words bytes).tku = s.tku := ((State.complete_frame s m code detail o words bytes).1 .tku rfl).symm
@[simp] theorem State.complete_params (s : State) (m : Sentence) (code detail : Nat) (o : Obj) (words : List Word) (bytes : Nat) : (State.complete s m code detail o words bytes).params = s.params := ((State.complete_frame s m code detail o words bytes).1 .params rfl).symm
@[simp] theorem State.complete_stats (s : State) (m : Sentence) (code detail : Nat) (o : Obj) (words : List Word) (bytes : Nat) : (State.complete s m code detail o words bytes).stats = s.stats := ((State.complete_frame s m code detail o words bytes).1 .stats rfl).symm
@[simp] theorem State.complete_group (s : State) (m : Sentence) (code detail : Nat) (o : Obj) (words : List Word) (bytes : Nat) : (State.complete s m code detail o words bytes).group = s.group := ((State.complete_frame s m code detail o words bytes).1 .group rfl).symm
@[simp] theorem State.complete_port (s : State) (m : Sentence) (code detail : Nat) (o : Obj) (words : List Word) (bytes : Nat) : (State.complete s m code detail o words bytes).port = s.port := ((State.complete_frame s m code detail o words bytes).1 .port rfl).symm
@[simp] theorem State.complete_block (s : State) (m : Sentence) (code detail : Nat) (o : Obj) (words : List Word) (bytes : Nat) : (State.complete s m code detail o words bytes).block = s.block := ((State.complete_frame s m code detail o words bytes).1 .block rfl).symm
@[simp] theorem State.complete_eng (s : State) (m : Sentence) (code detail : Nat) (o : Obj) (words : List Word) (bytes : Nat) : (State.complete s m code detail o words bytes).eng = s.eng := ((State.complete_frame s m code detail o words bytes).1 .eng rfl).symm
@[simp] theorem State.complete_hinge (s : State) (m : Sentence) (code detail : Nat) (o : Obj) (words : List Word) (bytes : Nat) : (State.complete s m code detail o words bytes).hinge = s.hinge := ((State.complete_frame s m code detail o words bytes).1 .hinge rfl).symm
@[simp] theorem State.complete_lex (s : State) (m : Sentence) (code detail : Nat) (o : Obj) (words : List Word) (bytes : Nat) : (State.complete s m code detail o words bytes).lex = s.lex := ((State.complete_frame s m code detail o words bytes).1 .lex rfl).symm
@[simp] theorem State.complete_mem_data (s : State) (m : Sentence) (code detail : Nat) (o : Obj) (words : List Word) (bytes : Nat) : (State.complete s m code detail o words bytes).mem.data = s.mem.data := ((State.complete_frame s m code detail o words bytes).1 .memData rfl).symm
@[simp] theorem State.complete_rep (s : State) (m : Sentence) (code detail : Nat) (o : Obj) (words : List Word) (bytes : Nat) : (State.complete s m code detail o words bytes).rep = s.rep := ((State.complete_frame s m code detail o words bytes).1 .rep rfl).symm
@[simp] theorem State.complete_ocu (s : State) (m : Sentence) (code detail : Nat) (o : Obj) (words : List Word) (bytes : Nat) : (State.complete s m code detail o words bytes).ocu = s.ocu := ((State.complete_frame s m code detail o words bytes).1 .ocu rfl).symm
@[simp] theorem State.complete_cal (s : State) (m : Sentence) (code detail : Nat) (o : Obj) (words : List Word) (bytes : Nat) : (State.complete s m code detail o words bytes).cal = s.cal := ((State.complete_frame s m code detail o words bytes).1 .cal rfl).symm
@[simp] theorem State.complete_thm (s : State) (m : Sentence) (code detail : Nat) (o : Obj) (words : List Word) (bytes : Nat) : (State.complete s m code detail o words bytes).thm = s.thm := ((State.complete_frame s m code detail o words bytes).1 .thm rfl).symm
@[simp] theorem State.complete_tst (s : State) (m : Sentence) (code detail : Nat) (o : Obj) (words : List Word) (bytes : Nat) : (State.complete s m code detail o words bytes).tst = s.tst := ((State.complete_frame s m code detail o words bytes).1 .tst rfl).symm
@[simp] theorem State.complete_pwr (s : State) (m : Sentence) (code detail : Nat) (o : Obj) (words : List Word) (bytes : Nat) : (State.complete s m code detail o words bytes).pwr = s.pwr := ((State.complete_frame s m code detail o words bytes).1 .pwr rfl).symm
@[simp] theorem State.complete_fw (s : State) (m : Sentence) (code detail : Nat) (o : Obj) (words : List Word) (bytes : Nat) : (State.complete s m code detail o words bytes).fw = s.fw := ((State.complete_frame s m code detail o words bytes).1 .fw rfl).symm
@[simp] theorem State.complete_cap (s : State) (m : Sentence) (code detail : Nat) (o : Obj) (words : List Word) (bytes : Nat) : (State.complete s m code detail o words bytes).cap = s.cap := ((State.complete_frame s m code detail o words bytes).1 .cap rfl).symm
@[simp] theorem State.complete_dev_busRead (s : State) (m : Sentence) (code detail : Nat) (o : Obj) (words : List Word) (bytes : Nat) : (State.complete s m code detail o words bytes).dev.busRead = s.dev.busRead := ((State.complete_frame s m code detail o words bytes).1 .devBus rfl).symm
@[simp] theorem State.complete_dev_rest (s : State) (m : Sentence) (code detail : Nat) (o : Obj) (words : List Word) (bytes : Nat) : (State.complete s m code detail o words bytes).dev.rest = s.dev.rest := ((State.complete_frame s m code detail o words bytes).1 .devRest rfl).symm
@[simp] theorem State.complete_hif_rest (s : State) (m : Sentence) (code detail : Nat) (o : Obj) (words : List Word) (bytes : Nat) : (State.complete s m code detail o words bytes).hif.rest = s.hif.rest := ((State.complete_frame s m code detail o words bytes).1 .hifRest rfl).symm
@[simp] theorem State.complete_mem_rest (s : State) (m : Sentence) (code detail : Nat) (o : Obj) (words : List Word) (bytes : Nat) : (State.complete s m code detail o words bytes).mem.rest = s.mem.rest := ((State.complete_frame s m code detail o words bytes).1 .memRest rfl).symm
@[simp] theorem State.complete_pmc_rest (s : State) (m : Sentence) (code detail : Nat) (o : Obj) (words : List Word) (bytes : Nat) : (State.complete s m code detail o words bytes).pmc.rest = s.pmc.rest := ((State.complete_frame s m code detail o words bytes).1 .pmcRest rfl).symm
@[simp] theorem State.complete_dev_mode (s : State) (m : Sentence) (code detail : Nat) (o : Obj) (words : List Word) (bytes : Nat) : (State.complete s m code detail o words bytes).dev.mode = s.dev.mode := ((State.complete_frame s m code detail o words bytes).1 .devMode rfl).1.symm
@[simp] theorem State.complete_dev_guard (s : State) (m : Sentence) (code detail : Nat) (o : Obj) (words : List Word) (bytes : Nat) : (State.complete s m code detail o words bytes).dev.guard = s.dev.guard := ((State.complete_frame s m code detail o words bytes).1 .devMode rfl).2.1.symm
@[simp] theorem State.complete_dev_guardSince (s : State) (m : Sentence) (code detail : Nat) (o : Obj) (words : List Word) (bytes : Nat) : (State.complete s m code detail o words bytes).dev.guardSince = s.dev.guardSince := ((State.complete_frame s m code detail o words bytes).1 .devMode rfl).2.2.symm
@[simp] theorem State.complete_lineAt_lrx_rest (s : State) (m : Sentence) (code detail : Nat) (o : Obj) (words : List Word) (bytes : Nat) (ln : Nat) : ((State.complete s m code detail o words bytes).lineAt ln).lrx.rest = (s.lineAt ln).lrx.rest := (((State.complete_frame s m code detail o words bytes).1 .lnRx rfl) ln).symm
@[simp] theorem State.complete_lineAt_lrx (s : State) (m : Sentence) (code detail : Nat) (o : Obj) (words : List Word) (bytes : Nat) (ln : Nat) : ((State.complete s m code detail o words bytes).lineAt ln).lrx = (s.lineAt ln).lrx := (((State.complete_frame s m code detail o words bytes).1 .lnRxPower rfl) ln).symm
@[simp] theorem State.complete_lineAt_sea (s : State) (m : Sentence) (code detail : Nat) (o : Obj) (words : List Word) (bytes : Nat) (ln : Nat) : ((State.complete s m code detail o words bytes).lineAt ln).sea = (s.lineAt ln).sea := (((State.complete_frame s m code detail o words bytes).1 .lnSea rfl) ln).symm
@[simp] theorem State.complete_lineAt_sdf (s : State) (m : Sentence) (code detail : Nat) (o : Obj) (words : List Word) (bytes : Nat) (ln : Nat) : ((State.complete s m code detail o words bytes).lineAt ln).sdf = (s.lineAt ln).sdf := (((State.complete_frame s m code detail o words bytes).1 .lnSdf rfl) ln).symm
@[simp] theorem State.complete_lineAt_ltx (s : State) (m : Sentence) (code detail : Nat) (o : Obj) (words : List Word) (bytes : Nat) (ln : Nat) : ((State.complete s m code detail o words bytes).lineAt ln).ltx = (s.lineAt ln).ltx := (((State.complete_frame s m code detail o words bytes).1 .lnLtx rfl) ln).symm
@[simp] theorem State.complete_lineAt_plt (s : State) (m : Sentence) (code detail : Nat) (o : Obj) (words : List Word) (bytes : Nat) (ln : Nat) : ((State.complete s m code detail o words bytes).lineAt ln).plt = (s.lineAt ln).plt := (((State.complete_frame s m code detail o words bytes).1 .lnPlt rfl) ln).symm
@[simp] theorem State.complete_lineAt_state (s : State) (m : Sentence) (code detail : Nat) (o : Obj) (words : List Word) (bytes : Nat) (ln : Nat) : ((State.complete s m code detail o words bytes).lineAt ln).state = (s.lineAt ln).state := (((State.complete_frame s m code detail o words bytes).1 .lnState rfl) ln).1.symm
@[simp] theorem State.complete_lineAt_stuck (s : State) (m : Sentence) (code detail : Nat) (o : Obj) (words : List Word) (bytes : Nat) (ln : Nat) : ((State.complete s m code detail o words bytes).lineAt ln).stuck = (s.lineAt ln).stuck := (((State.complete_frame s m code detail o words bytes).1 .lnState rfl) ln).2.1.symm
@[simp] theorem State.complete_lineAt_badStage (s : State) (m : Sentence) (code detail : Nat) (o : Obj) (words : List Word) (bytes : Nat) (ln : Nat) : ((State.complete s m code detail o words bytes).lineAt ln).badStage = (s.lineAt ln).badStage := (((State.complete_frame s m code detail o words bytes).1 .lnState rfl) ln).2.2.symm
@[simp] theorem State.complete_lineAt_optics (s : State) (m : Sentence) (code detail : Nat) (o : Obj) (words : List Word) (bytes : Nat) (ln : Nat) : ((State.complete s m code detail o words bytes).lineAt ln).optics = (s.lineAt ln).optics := (((State.complete_frame s m code detail o words bytes).1 .lnOptics rfl) ln).1.symm
@[simp] theorem State.complete_lineAt_optSince (s : State) (m : Sentence) (code detail : Nat) (o : Obj) (words : List Word) (bytes : Nat) (ln : Nat) : ((State.complete s m code detail o words bytes).lineAt ln).optSince = (s.lineAt ln).optSince := (((State.complete_frame s m code detail o words bytes).1 .lnOptics rfl) ln).2.symm
@[simp] theorem State.complete_hostAt_rest (s : State) (m : Sentence) (code detail : Nat) (o : Obj) (words : List Word) (bytes : Nat) (hn : Nat) : ((State.complete s m code detail o words bytes).hostAt hn).rest = (s.hostAt hn).rest := (((State.complete_frame s m code detail o words bytes).1 .hostRest rfl) hn).symm
@[simp] theorem State.complete_hostAt (s : State) (m : Sentence) (code detail : Nat) (o : Obj) (words : List Word) (bytes : Nat) (hn : Nat) : (State.complete s m code detail o words bytes).hostAt hn = s.hostAt hn := (((State.complete_frame s m code detail o words bytes).1 .hostTx rfl) hn).symm

theorem State.cmdDone_frame (s : State) (r : Requester) (o : Outst) (status detail : Nat) (info : Word) (result : List Word) : Keep 0x20000001b00 s (State.cmdDone s r o status detail info result) := State.cmdDone_keep s r o status detail info result rfl (Keep.refl _ _)
@[simp] theorem State.cmdDone_pending (s : State) (r : Requester) (o : Outst) (status detail : Nat) (info : Word) (result : List Word) : (State.cmdDone s r o status detail info result).pending = s.pending := ((State.cmdDone_frame s r o status detail info result).1 .pending rfl).symm
@[simp] theorem State.cmdDone_free (s : State) (r : Requester) (o : Outst) (status detail : Nat) (info : Word) (result : List Word) : (State.cmdDone s r o status detail info result).free = s.free := ((State.cmdDone_frame s r o status detail info result).1 .free rfl).symm
@[simp] theorem State.cmdDone_fuses (s : State) (r : Requester) (o : Outst) (status detail : Nat) (info : Word) (result : List Word) : (State.cmdDone s r o status detail info result).fuses = s.fuses := ((State.cmdDone_frame s r o status detail info result).1 .fuses rfl).symm
@[simp] theorem State.cmdDone_shut (s : State) (r : Requester) (o : Outst) (status detail : Nat) (info : Word) (result : List Word) : (State.cmdDone s r o status detail info result).shut = s.shut := ((State.cmdDone_frame s r o status detail info result).1 .shut rfl).symm
@[simp] theorem State.cmdDone_mb (s : State) (r : Requester) (o : Outst) (status detail : Nat) (info : Word) (result : List Word) : (State.cmdDone s r o status detail info result).mb = s.mb := ((State.cmdDone_frame s r o status detail info result).1 .mb rfl).symm
@[simp] theorem State.cmdDone_ev_urgent (s : State) (r : Requester) (o : Outst) (status detail : Nat) (info : Word) (result : List Word) : (State.cmdDone s r o status detail info result).ev.urgent = s.ev.urgent := ((State.cmdDone_frame s r o status detail info result).1 .evUrgent rfl).symm
@[simp] theorem State.cmdDone_err (s : State) (r : Requester) (o : Outst) (status detail : Nat) (info : Word) (result : List Word) : (State.cmdDone s r o status detail info result).err = s.err := ((State.cmdDone_frame s r o status detail info result).1 .err rfl).symm
@[simp] theorem State.cmdDone_tku (s : State) (r : Requester) (o : Outst) (status detail : Nat) (info : Word) (result : List Word) : (State.cmdDone s r o status detail info result).tku = s.tku := ((State.cmdDone_frame s r o status detail info result).1 .tku rfl).symm
@[simp] theorem State.cmdDone_params (s : State) (r : Requester) (o : Outst) (status detail : Nat) (info : Word) (result : List Word) : (State.cmdDone s r o status detail info result).params = s.params := ((State.cmdDone_frame s r o status detail info result).1 .params rfl).symm
@[simp] theorem State.cmdDone_stats (s : State) (r : Requester) (o : Outst) (status detail : Nat) (info : Word) (result : List Word) : (State.cmdDone s r o status detail info result).stats = s.stats := ((State.cmdDone_frame s r o status detail info result).1 .stats rfl).symm
@[simp] theorem State.cmdDone_group (s : State) (r : Requester) (o : Outst) (status detail : Nat) (info : Word) (result : List Word) : (State.cmdDone s r o status detail info result).group = s.group := ((State.cmdDone_frame s r o status detail info result).1 .group rfl).symm
@[simp] theorem State.cmdDone_port (s : State) (r : Requester) (o : Outst) (status detail : Nat) (info : Word) (result : List Word) : (State.cmdDone s r o status detail info result).port = s.port := ((State.cmdDone_frame s r o status detail info result).1 .port rfl).symm
@[simp] theorem State.cmdDone_block (s : State) (r : Requester) (o : Outst) (status detail : Nat) (info : Word) (result : List Word) : (State.cmdDone s r o status detail info result).block = s.block := ((State.cmdDone_frame s r o status detail info result).1 .block rfl).symm
@[simp] theorem State.cmdDone_eng (s : State) (r : Requester) (o : Outst) (status detail : Nat) (info : Word) (result : List Word) : (State.cmdDone s r o status detail info result).eng = s.eng := ((State.cmdDone_frame s r o status detail info result).1 .eng rfl).symm
@[simp] theorem State.cmdDone_hinge (s : State) (r : Requester) (o : Outst) (status detail : Nat) (info : Word) (result : List Word) : (State.cmdDone s r o status detail info result).hinge = s.hinge := ((State.cmdDone_frame s r o status detail info result).1 .hinge rfl).symm
@[simp] theorem State.cmdDone_lex (s : State) (r : Requester) (o : Outst) (status detail : Nat) (info : Word) (result : List Word) : (State.cmdDone s r o status detail info result).lex = s.lex := ((State.cmdDone_frame s r o status detail info result).1 .lex rfl).symm
@[simp] theorem State.cmdDone_mem_data (s : State) (r : Requester) (o : Outst) (status detail : Nat) (info : Word) (result : List Word) : (State.cmdDone s r o status detail info result).mem.data = s.mem.data := ((State.cmdDone_frame s r o status detail info result).1 .memData rfl).symm
@[simp] theorem State.cmdDone_rep (s : State) (r : Requester) (o : Outst) (status detail : Nat) (info : Word) (result : List Word) : (State.cmdDone s r o status detail info result).rep = s.rep := ((State.cmdDone_frame s r o status detail info result).1 .rep rfl).symm
@[simp] theorem State.cmdDone_ocu (s : State) (r : Requester) (o : Outst) (status detail : Nat) (info : Word) (result : List Word) : (State.cmdDone s r o status detail info result).ocu = s.ocu := ((State.cmdDone_frame s r o status detail info result).1 .ocu rfl).symm
@[simp] theorem State.cmdDone_cal (s : State) (r : Requester) (o : Outst) (status detail : Nat) (info : Word) (result : List Word) : (State.cmdDone s r o status detail info result).cal = s.cal := ((State.cmdDone_frame s r o status detail info result).1 .cal rfl).symm
@[simp] theorem State.cmdDone_thm (s : State) (r : Requester) (o : Outst) (status detail : Nat) (info : Word) (result : List Word) : (State.cmdDone s r o status detail info result).thm = s.thm := ((State.cmdDone_frame s r o status detail info result).1 .thm rfl).symm
@[simp] theorem State.cmdDone_tst (s : State) (r : Requester) (o : Outst) (status detail : Nat) (info : Word) (result : List Word) : (State.cmdDone s r o status detail info result).tst = s.tst := ((State.cmdDone_frame s r o status detail info result).1 .tst rfl).symm
@[simp] theorem State.cmdDone_pwr (s : State) (r : Requester) (o : Outst) (status detail : Nat) (info : Word) (result : List Word) : (State.cmdDone s r o status detail info result).pwr = s.pwr := ((State.cmdDone_frame s r o status detail info result).1 .pwr rfl).symm
@[simp] theorem State.cmdDone_fw (s : State) (r : Requester) (o : Outst) (status detail : Nat) (info : Word) (result : List Word) : (State.cmdDone s r o status detail info result).fw = s.fw := ((State.cmdDone_frame s r o status detail info result).1 .fw rfl).symm
@[simp] theorem State.cmdDone_cap (s : State) (r : Requester) (o : Outst) (status detail : Nat) (info : Word) (result : List Word) : (State.cmdDone s r o status detail info result).cap = s.cap := ((State.cmdDone_frame s r o status detail info result).1 .cap rfl).symm
@[simp] theorem State.cmdDone_dev_busRead (s : State) (r : Requester) (o : Outst) (status detail : Nat) (info : Word) (result : List Word) : (State.cmdDone s r o status detail info result).dev.busRead = s.dev.busRead := ((State.cmdDone_frame s r o status detail info result).1 .devBus rfl).symm
@[simp] theorem State.cmdDone_dev_rest (s : State) (r : Requester) (o : Outst) (status detail : Nat) (info : Word) (result : List Word) : (State.cmdDone s r o status detail info result).dev.rest = s.dev.rest := ((State.cmdDone_frame s r o status detail info result).1 .devRest rfl).symm
@[simp] theorem State.cmdDone_hif_rest (s : State) (r : Requester) (o : Outst) (status detail : Nat) (info : Word) (result : List Word) : (State.cmdDone s r o status detail info result).hif.rest = s.hif.rest := ((State.cmdDone_frame s r o status detail info result).1 .hifRest rfl).symm
@[simp] theorem State.cmdDone_mem_rest (s : State) (r : Requester) (o : Outst) (status detail : Nat) (info : Word) (result : List Word) : (State.cmdDone s r o status detail info result).mem.rest = s.mem.rest := ((State.cmdDone_frame s r o status detail info result).1 .memRest rfl).symm
@[simp] theorem State.cmdDone_pmc_rest (s : State) (r : Requester) (o : Outst) (status detail : Nat) (info : Word) (result : List Word) : (State.cmdDone s r o status detail info result).pmc.rest = s.pmc.rest := ((State.cmdDone_frame s r o status detail info result).1 .pmcRest rfl).symm
@[simp] theorem State.cmdDone_dev_mode (s : State) (r : Requester) (o : Outst) (status detail : Nat) (info : Word) (result : List Word) : (State.cmdDone s r o status detail info result).dev.mode = s.dev.mode := ((State.cmdDone_frame s r o status detail info result).1 .devMode rfl).1.symm
@[simp] theorem State.cmdDone_dev_guard (s : State) (r : Requester) (o : Outst) (status detail : Nat) (info : Word) (result : List Word) : (State.cmdDone s r o status detail info result).dev.guard = s.dev.guard := ((State.cmdDone_frame s r o status detail info result).1 .devMode rfl).2.1.symm
@[simp] theorem State.cmdDone_dev_guardSince (s : State) (r : Requester) (o : Outst) (status detail : Nat) (info : Word) (result : List Word) : (State.cmdDone s r o status detail info result).dev.guardSince = s.dev.guardSince := ((State.cmdDone_frame s r o status detail info result).1 .devMode rfl).2.2.symm
@[simp] theorem State.cmdDone_lineAt_lrx_rest (s : State) (r : Requester) (o : Outst) (status detail : Nat) (info : Word) (result : List Word) (ln : Nat) : ((State.cmdDone s r o status detail info result).lineAt ln).lrx.rest = (s.lineAt ln).lrx.rest := (((State.cmdDone_frame s r o status detail info result).1 .lnRx rfl) ln).symm
@[simp] theorem State.cmdDone_lineAt_lrx (s : State) (r : Requester) (o : Outst) (status detail : Nat) (info : Word) (result : List Word) (ln : Nat) : ((State.cmdDone s r o status detail info result).lineAt ln).lrx = (s.lineAt ln).lrx := (((State.cmdDone_frame s r o status detail info result).1 .lnRxPower rfl) ln).symm
@[simp] theorem State.cmdDone_lineAt_sea (s : State) (r : Requester) (o : Outst) (status detail : Nat) (info : Word) (result : List Word) (ln : Nat) : ((State.cmdDone s r o status detail info result).lineAt ln).sea = (s.lineAt ln).sea := (((State.cmdDone_frame s r o status detail info result).1 .lnSea rfl) ln).symm
@[simp] theorem State.cmdDone_lineAt_sdf (s : State) (r : Requester) (o : Outst) (status detail : Nat) (info : Word) (result : List Word) (ln : Nat) : ((State.cmdDone s r o status detail info result).lineAt ln).sdf = (s.lineAt ln).sdf := (((State.cmdDone_frame s r o status detail info result).1 .lnSdf rfl) ln).symm
@[simp] theorem State.cmdDone_lineAt_ltx (s : State) (r : Requester) (o : Outst) (status detail : Nat) (info : Word) (result : List Word) (ln : Nat) : ((State.cmdDone s r o status detail info result).lineAt ln).ltx = (s.lineAt ln).ltx := (((State.cmdDone_frame s r o status detail info result).1 .lnLtx rfl) ln).symm
@[simp] theorem State.cmdDone_lineAt_plt (s : State) (r : Requester) (o : Outst) (status detail : Nat) (info : Word) (result : List Word) (ln : Nat) : ((State.cmdDone s r o status detail info result).lineAt ln).plt = (s.lineAt ln).plt := (((State.cmdDone_frame s r o status detail info result).1 .lnPlt rfl) ln).symm
@[simp] theorem State.cmdDone_lineAt_state (s : State) (r : Requester) (o : Outst) (status detail : Nat) (info : Word) (result : List Word) (ln : Nat) : ((State.cmdDone s r o status detail info result).lineAt ln).state = (s.lineAt ln).state := (((State.cmdDone_frame s r o status detail info result).1 .lnState rfl) ln).1.symm
@[simp] theorem State.cmdDone_lineAt_stuck (s : State) (r : Requester) (o : Outst) (status detail : Nat) (info : Word) (result : List Word) (ln : Nat) : ((State.cmdDone s r o status detail info result).lineAt ln).stuck = (s.lineAt ln).stuck := (((State.cmdDone_frame s r o status detail info result).1 .lnState rfl) ln).2.1.symm
@[simp] theorem State.cmdDone_lineAt_badStage (s : State) (r : Requester) (o : Outst) (status detail : Nat) (info : Word) (result : List Word) (ln : Nat) : ((State.cmdDone s r o status detail info result).lineAt ln).badStage = (s.lineAt ln).badStage := (((State.cmdDone_frame s r o status detail info result).1 .lnState rfl) ln).2.2.symm
@[simp] theorem State.cmdDone_lineAt_optics (s : State) (r : Requester) (o : Outst) (status detail : Nat) (info : Word) (result : List Word) (ln : Nat) : ((State.cmdDone s r o status detail info result).lineAt ln).optics = (s.lineAt ln).optics := (((State.cmdDone_frame s r o status detail info result).1 .lnOptics rfl) ln).1.symm
@[simp] theorem State.cmdDone_lineAt_optSince (s : State) (r : Requester) (o : Outst) (status detail : Nat) (info : Word) (result : List Word) (ln : Nat) : ((State.cmdDone s r o status detail info result).lineAt ln).optSince = (s.lineAt ln).optSince := (((State.cmdDone_frame s r o status detail info result).1 .lnOptics rfl) ln).2.symm
@[simp] theorem State.cmdDone_hostAt_rest (s : State) (r : Requester) (o : Outst) (status detail : Nat) (info : Word) (result : List Word) (hn : Nat) : ((State.cmdDone s r o status detail info result).hostAt hn).rest = (s.hostAt hn).rest := (((State.cmdDone_frame s r o status detail info result).1 .hostRest rfl) hn).symm
@[simp] theorem State.cmdDone_hostAt (s : State) (r : Requester) (o : Outst) (status detail : Nat) (info : Word) (result : List Word) (hn : Nat) : (State.cmdDone s r o status detail info result).hostAt hn = s.hostAt hn := (((State.cmdDone_frame s r o status detail info result).1 .hostTx rfl) hn).symm

theorem State.finishObj_frame (s : State) (t : Ticket) (code detail : Nat) (o : Obj) (result : List Word) : Keep 0x20000001b80 s (State.finishObj s t code detail o result) := State.finishObj_keep s t code detail o result rfl (Keep.refl _ _)
@[simp] theorem State.finishObj_pending (s : State) (t : Ticket) (code detail : Nat) (o : Obj) (result : List Word) : (State.finishObj s t code detail o result).pending = s.pending := ((State.finishObj_frame s t code detail o result).1 .pending rfl).symm
@[simp] theorem State.finishObj_free (s : State) (t : Ticket) (code detail : Nat) (o : Obj) (result : List Word) : (State.finishObj s t code detail o result).free = s.free := ((State.finishObj_frame s t code detail o result).1 .free rfl).symm
@[simp] theorem State.finishObj_fuses (s : State) (t : Ticket) (code detail : Nat) (o : Obj) (result : List Word) : (State.finishObj s t code detail o result).fuses = s.fuses := ((State.finishObj_frame s t code detail o result).1 .fuses rfl).symm
@[simp] theorem State.finishObj_shut (s : State) (t : Ticket) (code detail : Nat) (o : Obj) (result : List Word) : (State.finishObj s t code detail o result).shut = s.shut := ((State.finishObj_frame s t code detail o result).1 .shut rfl).symm
@[simp] theorem State.finishObj_ev_urgent (s : State) (t : Ticket) (code detail : Nat) (o : Obj) (result : List Word) : (State.finishObj s t code detail o result).ev.urgent = s.ev.urgent := ((State.finishObj_frame s t code detail o result).1 .evUrgent rfl).symm
@[simp] theorem State.finishObj_err (s : State) (t : Ticket) (code detail : Nat) (o : Obj) (result : List Word) : (State.finishObj s t code detail o result).err = s.err := ((State.finishObj_frame s t code detail o result).1 .err rfl).symm
@[simp] theorem State.finishObj_tku (s : State) (t : Ticket) (code detail : Nat) (o : Obj) (result : List Word) : (State.finishObj s t code detail o result).tku = s.tku := ((State.finishObj_frame s t code detail o result).1 .tku rfl).symm
@[simp] theorem State.finishObj_params (s : State) (t : Ticket) (code detail : Nat) (o : Obj) (result : List Word) : (State.finishObj s t code detail o result).params = s.params := ((State.finishObj_frame s t code detail o result).1 .params rfl).symm
@[simp] theorem State.finishObj_stats (s : State) (t : Ticket) (code detail : Nat) (o : Obj) (result : List Word) : (State.finishObj s t code detail o result).stats = s.stats := ((State.finishObj_frame s t code detail o result).1 .stats rfl).symm
@[simp] theorem State.finishObj_group (s : State) (t : Ticket) (code detail : Nat) (o : Obj) (result : List Word) : (State.finishObj s t code detail o result).group = s.group := ((State.finishObj_frame s t code detail o result).1 .group rfl).symm
@[simp] theorem State.finishObj_port (s : State) (t : Ticket) (code detail : Nat) (o : Obj) (result : List Word) : (State.finishObj s t code detail o result).port = s.port := ((State.finishObj_frame s t code detail o result).1 .port rfl).symm
@[simp] theorem State.finishObj_block (s : State) (t : Ticket) (code detail : Nat) (o : Obj) (result : List Word) : (State.finishObj s t code detail o result).block = s.block := ((State.finishObj_frame s t code detail o result).1 .block rfl).symm
@[simp] theorem State.finishObj_eng (s : State) (t : Ticket) (code detail : Nat) (o : Obj) (result : List Word) : (State.finishObj s t code detail o result).eng = s.eng := ((State.finishObj_frame s t code detail o result).1 .eng rfl).symm
@[simp] theorem State.finishObj_hinge (s : State) (t : Ticket) (code detail : Nat) (o : Obj) (result : List Word) : (State.finishObj s t code detail o result).hinge = s.hinge := ((State.finishObj_frame s t code detail o result).1 .hinge rfl).symm
@[simp] theorem State.finishObj_lex (s : State) (t : Ticket) (code detail : Nat) (o : Obj) (result : List Word) : (State.finishObj s t code detail o result).lex = s.lex := ((State.finishObj_frame s t code detail o result).1 .lex rfl).symm
@[simp] theorem State.finishObj_mem_data (s : State) (t : Ticket) (code detail : Nat) (o : Obj) (result : List Word) : (State.finishObj s t code detail o result).mem.data = s.mem.data := ((State.finishObj_frame s t code detail o result).1 .memData rfl).symm
@[simp] theorem State.finishObj_rep (s : State) (t : Ticket) (code detail : Nat) (o : Obj) (result : List Word) : (State.finishObj s t code detail o result).rep = s.rep := ((State.finishObj_frame s t code detail o result).1 .rep rfl).symm
@[simp] theorem State.finishObj_ocu (s : State) (t : Ticket) (code detail : Nat) (o : Obj) (result : List Word) : (State.finishObj s t code detail o result).ocu = s.ocu := ((State.finishObj_frame s t code detail o result).1 .ocu rfl).symm
@[simp] theorem State.finishObj_cal (s : State) (t : Ticket) (code detail : Nat) (o : Obj) (result : List Word) : (State.finishObj s t code detail o result).cal = s.cal := ((State.finishObj_frame s t code detail o result).1 .cal rfl).symm
@[simp] theorem State.finishObj_thm (s : State) (t : Ticket) (code detail : Nat) (o : Obj) (result : List Word) : (State.finishObj s t code detail o result).thm = s.thm := ((State.finishObj_frame s t code detail o result).1 .thm rfl).symm
@[simp] theorem State.finishObj_tst (s : State) (t : Ticket) (code detail : Nat) (o : Obj) (result : List Word) : (State.finishObj s t code detail o result).tst = s.tst := ((State.finishObj_frame s t code detail o result).1 .tst rfl).symm
@[simp] theorem State.finishObj_pwr (s : State) (t : Ticket) (code detail : Nat) (o : Obj) (result : List Word) : (State.finishObj s t code detail o result).pwr = s.pwr := ((State.finishObj_frame s t code detail o result).1 .pwr rfl).symm
@[simp] theorem State.finishObj_fw (s : State) (t : Ticket) (code detail : Nat) (o : Obj) (result : List Word) : (State.finishObj s t code detail o result).fw = s.fw := ((State.finishObj_frame s t code detail o result).1 .fw rfl).symm
@[simp] theorem State.finishObj_cap (s : State) (t : Ticket) (code detail : Nat) (o : Obj) (result : List Word) : (State.finishObj s t code detail o result).cap = s.cap := ((State.finishObj_frame s t code detail o result).1 .cap rfl).symm
@[simp] theorem State.finishObj_dev_busRead (s : State) (t : Ticket) (code detail : Nat) (o : Obj) (result : List Word) : (State.finishObj s t code detail o result).dev.busRead = s.dev.busRead := ((State.finishObj_frame s t code detail o result).1 .devBus rfl).symm
@[simp] theorem State.finishObj_dev_rest (s : State) (t : Ticket) (code detail : Nat) (o : Obj) (result : List Word) : (State.finishObj s t code detail o result).dev.rest = s.dev.rest := ((State.finishObj_frame s t code detail o result).1 .devRest rfl).symm
@[simp] theorem State.finishObj_hif_rest (s : State) (t : Ticket) (code detail : Nat) (o : Obj) (result : List Word) : (State.finishObj s t code detail o result).hif.rest = s.hif.rest := ((State.finishObj_frame s t code detail o result).1 .hifRest rfl).symm
@[simp] theorem State.finishObj_mem_rest (s : State) (t : Ticket) (code detail : Nat) (o : Obj) (result : List Word) : (State.finishObj s t code detail o result).mem.rest = s.mem.rest := ((State.finishObj_frame s t code detail o result).1 .memRest rfl).symm
@[simp] theorem State.finishObj_pmc_rest (s : State) (t : Ticket) (code detail : Nat) (o : Obj) (result : List Word) : (State.finishObj s t code detail o result).pmc.rest = s.pmc.rest := ((State.finishObj_frame s t code detail o result).1 .pmcRest rfl).symm
@[simp] theorem State.finishObj_dev_mode (s : State) (t : Ticket) (code detail : Nat) (o : Obj) (result : List Word) : (State.finishObj s t code detail o result).dev.mode = s.dev.mode := ((State.finishObj_frame s t code detail o result).1 .devMode rfl).1.symm
@[simp] theorem State.finishObj_dev_guard (s : State) (t : Ticket) (code detail : Nat) (o : Obj) (result : List Word) : (State.finishObj s t code detail o result).dev.guard = s.dev.guard := ((State.finishObj_frame s t code detail o result).1 .devMode rfl).2.1.symm
@[simp] theorem State.finishObj_dev_guardSince (s : State) (t : Ticket) (code detail : Nat) (o : Obj) (result : List Word) : (State.finishObj s t code detail o result).dev.guardSince = s.dev.guardSince := ((State.finishObj_frame s t code detail o result).1 .devMode rfl).2.2.symm
@[simp] theorem State.finishObj_lineAt_lrx_rest (s : State) (t : Ticket) (code detail : Nat) (o : Obj) (result : List Word) (ln : Nat) : ((State.finishObj s t code detail o result).lineAt ln).lrx.rest = (s.lineAt ln).lrx.rest := (((State.finishObj_frame s t code detail o result).1 .lnRx rfl) ln).symm
@[simp] theorem State.finishObj_lineAt_lrx (s : State) (t : Ticket) (code detail : Nat) (o : Obj) (result : List Word) (ln : Nat) : ((State.finishObj s t code detail o result).lineAt ln).lrx = (s.lineAt ln).lrx := (((State.finishObj_frame s t code detail o result).1 .lnRxPower rfl) ln).symm
@[simp] theorem State.finishObj_lineAt_sea (s : State) (t : Ticket) (code detail : Nat) (o : Obj) (result : List Word) (ln : Nat) : ((State.finishObj s t code detail o result).lineAt ln).sea = (s.lineAt ln).sea := (((State.finishObj_frame s t code detail o result).1 .lnSea rfl) ln).symm
@[simp] theorem State.finishObj_lineAt_sdf (s : State) (t : Ticket) (code detail : Nat) (o : Obj) (result : List Word) (ln : Nat) : ((State.finishObj s t code detail o result).lineAt ln).sdf = (s.lineAt ln).sdf := (((State.finishObj_frame s t code detail o result).1 .lnSdf rfl) ln).symm
@[simp] theorem State.finishObj_lineAt_ltx (s : State) (t : Ticket) (code detail : Nat) (o : Obj) (result : List Word) (ln : Nat) : ((State.finishObj s t code detail o result).lineAt ln).ltx = (s.lineAt ln).ltx := (((State.finishObj_frame s t code detail o result).1 .lnLtx rfl) ln).symm
@[simp] theorem State.finishObj_lineAt_plt (s : State) (t : Ticket) (code detail : Nat) (o : Obj) (result : List Word) (ln : Nat) : ((State.finishObj s t code detail o result).lineAt ln).plt = (s.lineAt ln).plt := (((State.finishObj_frame s t code detail o result).1 .lnPlt rfl) ln).symm
@[simp] theorem State.finishObj_lineAt_state (s : State) (t : Ticket) (code detail : Nat) (o : Obj) (result : List Word) (ln : Nat) : ((State.finishObj s t code detail o result).lineAt ln).state = (s.lineAt ln).state := (((State.finishObj_frame s t code detail o result).1 .lnState rfl) ln).1.symm
@[simp] theorem State.finishObj_lineAt_stuck (s : State) (t : Ticket) (code detail : Nat) (o : Obj) (result : List Word) (ln : Nat) : ((State.finishObj s t code detail o result).lineAt ln).stuck = (s.lineAt ln).stuck := (((State.finishObj_frame s t code detail o result).1 .lnState rfl) ln).2.1.symm
@[simp] theorem State.finishObj_lineAt_badStage (s : State) (t : Ticket) (code detail : Nat) (o : Obj) (result : List Word) (ln : Nat) : ((State.finishObj s t code detail o result).lineAt ln).badStage = (s.lineAt ln).badStage := (((State.finishObj_frame s t code detail o result).1 .lnState rfl) ln).2.2.symm
@[simp] theorem State.finishObj_lineAt_optics (s : State) (t : Ticket) (code detail : Nat) (o : Obj) (result : List Word) (ln : Nat) : ((State.finishObj s t code detail o result).lineAt ln).optics = (s.lineAt ln).optics := (((State.finishObj_frame s t code detail o result).1 .lnOptics rfl) ln).1.symm
@[simp] theorem State.finishObj_lineAt_optSince (s : State) (t : Ticket) (code detail : Nat) (o : Obj) (result : List Word) (ln : Nat) : ((State.finishObj s t code detail o result).lineAt ln).optSince = (s.lineAt ln).optSince := (((State.finishObj_frame s t code detail o result).1 .lnOptics rfl) ln).2.symm
@[simp] theorem State.finishObj_hostAt_rest (s : State) (t : Ticket) (code detail : Nat) (o : Obj) (result : List Word) (hn : Nat) : ((State.finishObj s t code detail o result).hostAt hn).rest = (s.hostAt hn).rest := (((State.finishObj_frame s t code detail o result).1 .hostRest rfl) hn).symm
@[simp] theorem State.finishObj_hostAt (s : State) (t : Ticket) (code detail : Nat) (o : Obj) (result : List Word) (hn : Nat) : (State.finishObj s t code detail o result).hostAt hn = s.hostAt hn := (((State.finishObj_frame s t code detail o result).1 .hostTx rfl) hn).symm

theorem State.finish_frame (s : State) (t : Ticket) (code detail : Nat) : Keep 0x20000001b80 s (State.finish s t code detail) := State.finish_keep s t code detail rfl (Keep.refl _ _)
@[simp] theorem State.finish_pending (s : State) (t : Ticket) (code detail : Nat) : (State.finish s t code detail).pending = s.pending := ((State.finish_frame s t code detail).1 .pending rfl).symm
@[simp] theorem State.finish_free (s : State) (t : Ticket) (code detail : Nat) : (State.finish s t code detail).free = s.free := ((State.finish_frame s t code detail).1 .free rfl).symm
@[simp] theorem State.finish_fuses (s : State) (t : Ticket) (code detail : Nat) : (State.finish s t code detail).fuses = s.fuses := ((State.finish_frame s t code detail).1 .fuses rfl).symm
@[simp] theorem State.finish_shut (s : State) (t : Ticket) (code detail : Nat) : (State.finish s t code detail).shut = s.shut := ((State.finish_frame s t code detail).1 .shut rfl).symm
@[simp] theorem State.finish_ev_urgent (s : State) (t : Ticket) (code detail : Nat) : (State.finish s t code detail).ev.urgent = s.ev.urgent := ((State.finish_frame s t code detail).1 .evUrgent rfl).symm
@[simp] theorem State.finish_err (s : State) (t : Ticket) (code detail : Nat) : (State.finish s t code detail).err = s.err := ((State.finish_frame s t code detail).1 .err rfl).symm
@[simp] theorem State.finish_tku (s : State) (t : Ticket) (code detail : Nat) : (State.finish s t code detail).tku = s.tku := ((State.finish_frame s t code detail).1 .tku rfl).symm
@[simp] theorem State.finish_params (s : State) (t : Ticket) (code detail : Nat) : (State.finish s t code detail).params = s.params := ((State.finish_frame s t code detail).1 .params rfl).symm
@[simp] theorem State.finish_stats (s : State) (t : Ticket) (code detail : Nat) : (State.finish s t code detail).stats = s.stats := ((State.finish_frame s t code detail).1 .stats rfl).symm
@[simp] theorem State.finish_group (s : State) (t : Ticket) (code detail : Nat) : (State.finish s t code detail).group = s.group := ((State.finish_frame s t code detail).1 .group rfl).symm
@[simp] theorem State.finish_port (s : State) (t : Ticket) (code detail : Nat) : (State.finish s t code detail).port = s.port := ((State.finish_frame s t code detail).1 .port rfl).symm
@[simp] theorem State.finish_block (s : State) (t : Ticket) (code detail : Nat) : (State.finish s t code detail).block = s.block := ((State.finish_frame s t code detail).1 .block rfl).symm
@[simp] theorem State.finish_eng (s : State) (t : Ticket) (code detail : Nat) : (State.finish s t code detail).eng = s.eng := ((State.finish_frame s t code detail).1 .eng rfl).symm
@[simp] theorem State.finish_hinge (s : State) (t : Ticket) (code detail : Nat) : (State.finish s t code detail).hinge = s.hinge := ((State.finish_frame s t code detail).1 .hinge rfl).symm
@[simp] theorem State.finish_lex (s : State) (t : Ticket) (code detail : Nat) : (State.finish s t code detail).lex = s.lex := ((State.finish_frame s t code detail).1 .lex rfl).symm
@[simp] theorem State.finish_mem_data (s : State) (t : Ticket) (code detail : Nat) : (State.finish s t code detail).mem.data = s.mem.data := ((State.finish_frame s t code detail).1 .memData rfl).symm
@[simp] theorem State.finish_rep (s : State) (t : Ticket) (code detail : Nat) : (State.finish s t code detail).rep = s.rep := ((State.finish_frame s t code detail).1 .rep rfl).symm
@[simp] theorem State.finish_ocu (s : State) (t : Ticket) (code detail : Nat) : (State.finish s t code detail).ocu = s.ocu := ((State.finish_frame s t code detail).1 .ocu rfl).symm
@[simp] theorem State.finish_cal (s : State) (t : Ticket) (code detail : Nat) : (State.finish s t code detail).cal = s.cal := ((State.finish_frame s t code detail).1 .cal rfl).symm
@[simp] theorem State.finish_thm (s : State) (t : Ticket) (code detail : Nat) : (State.finish s t code detail).thm = s.thm := ((State.finish_frame s t code detail).1 .thm rfl).symm
@[simp] theorem State.finish_tst (s : State) (t : Ticket) (code detail : Nat) : (State.finish s t code detail).tst = s.tst := ((State.finish_frame s t code detail).1 .tst rfl).symm
@[simp] theorem State.finish_pwr (s : State) (t : Ticket) (code detail : Nat) : (State.finish s t code detail).pwr = s.pwr := ((State.finish_frame s t code detail).1 .pwr rfl).symm
@[simp] theorem State.finish_fw (s : State) (t : Ticket) (code detail : Nat) : (State.finish s t code detail).fw = s.fw := ((State.finish_frame s t code detail).1 .fw rfl).symm
@[simp] theorem State.finish_cap (s : State) (t : Ticket) (code detail : Nat) : (State.finish s t code detail).cap = s.cap := ((State.finish_frame s t code detail).1 .cap rfl).symm
@[simp] theorem State.finish_dev_busRead (s : State) (t : Ticket) (code detail : Nat) : (State.finish s t code detail).dev.busRead = s.dev.busRead := ((State.finish_frame s t code detail).1 .devBus rfl).symm
@[simp] theorem State.finish_dev_rest (s : State) (t : Ticket) (code detail : Nat) : (State.finish s t code detail).dev.rest = s.dev.rest := ((State.finish_frame s t code detail).1 .devRest rfl).symm
@[simp] theorem State.finish_hif_rest (s : State) (t : Ticket) (code detail : Nat) : (State.finish s t code detail).hif.rest = s.hif.rest := ((State.finish_frame s t code detail).1 .hifRest rfl).symm
@[simp] theorem State.finish_mem_rest (s : State) (t : Ticket) (code detail : Nat) : (State.finish s t code detail).mem.rest = s.mem.rest := ((State.finish_frame s t code detail).1 .memRest rfl).symm
@[simp] theorem State.finish_pmc_rest (s : State) (t : Ticket) (code detail : Nat) : (State.finish s t code detail).pmc.rest = s.pmc.rest := ((State.finish_frame s t code detail).1 .pmcRest rfl).symm
@[simp] theorem State.finish_dev_mode (s : State) (t : Ticket) (code detail : Nat) : (State.finish s t code detail).dev.mode = s.dev.mode := ((State.finish_frame s t code detail).1 .devMode rfl).1.symm
@[simp] theorem State.finish_dev_guard (s : State) (t : Ticket) (code detail : Nat) : (State.finish s t code detail).dev.guard = s.dev.guard := ((State.finish_frame s t code detail).1 .devMode rfl).2.1.symm
@[simp] theorem State.finish_dev_guardSince (s : State) (t : Ticket) (code detail : Nat) : (State.finish s t code detail).dev.guardSince = s.dev.guardSince := ((State.finish_frame s t code detail).1 .devMode rfl).2.2.symm
@[simp] theorem State.finish_lineAt_lrx_rest (s : State) (t : Ticket) (code detail : Nat) (ln : Nat) : ((State.finish s t code detail).lineAt ln).lrx.rest = (s.lineAt ln).lrx.rest := (((State.finish_frame s t code detail).1 .lnRx rfl) ln).symm
@[simp] theorem State.finish_lineAt_lrx (s : State) (t : Ticket) (code detail : Nat) (ln : Nat) : ((State.finish s t code detail).lineAt ln).lrx = (s.lineAt ln).lrx := (((State.finish_frame s t code detail).1 .lnRxPower rfl) ln).symm
@[simp] theorem State.finish_lineAt_sea (s : State) (t : Ticket) (code detail : Nat) (ln : Nat) : ((State.finish s t code detail).lineAt ln).sea = (s.lineAt ln).sea := (((State.finish_frame s t code detail).1 .lnSea rfl) ln).symm
@[simp] theorem State.finish_lineAt_sdf (s : State) (t : Ticket) (code detail : Nat) (ln : Nat) : ((State.finish s t code detail).lineAt ln).sdf = (s.lineAt ln).sdf := (((State.finish_frame s t code detail).1 .lnSdf rfl) ln).symm
@[simp] theorem State.finish_lineAt_ltx (s : State) (t : Ticket) (code detail : Nat) (ln : Nat) : ((State.finish s t code detail).lineAt ln).ltx = (s.lineAt ln).ltx := (((State.finish_frame s t code detail).1 .lnLtx rfl) ln).symm
@[simp] theorem State.finish_lineAt_plt (s : State) (t : Ticket) (code detail : Nat) (ln : Nat) : ((State.finish s t code detail).lineAt ln).plt = (s.lineAt ln).plt := (((State.finish_frame s t code detail).1 .lnPlt rfl) ln).symm
@[simp] theorem State.finish_lineAt_state (s : State) (t : Ticket) (code detail : Nat) (ln : Nat) : ((State.finish s t code detail).lineAt ln).state = (s.lineAt ln).state := (((State.finish_frame s t code detail).1 .lnState rfl) ln).1.symm
@[simp] theorem State.finish_lineAt_stuck (s : State) (t : Ticket) (code detail : Nat) (ln : Nat) : ((State.finish s t code detail).lineAt ln).stuck = (s.lineAt ln).stuck := (((State.finish_frame s t code detail).1 .lnState rfl) ln).2.1.symm
@[simp] theorem State.finish_lineAt_badStage (s : State) (t : Ticket) (code detail : Nat) (ln : Nat) : ((State.finish s t code detail).lineAt ln).badStage = (s.lineAt ln).badStage := (((State.finish_frame s t code detail).1 .lnState rfl) ln).2.2.symm
@[simp] theorem State.finish_lineAt_optics (s : State) (t : Ticket) (code detail : Nat) (ln : Nat) : ((State.finish s t code detail).lineAt ln).optics = (s.lineAt ln).optics := (((State.finish_frame s t code detail).1 .lnOptics rfl) ln).1.symm
@[simp] theorem State.finish_lineAt_optSince (s : State) (t : Ticket) (code detail : Nat) (ln : Nat) : ((State.finish s t code detail).lineAt ln).optSince = (s.lineAt ln).optSince := (((State.finish_frame s t code detail).1 .lnOptics rfl) ln).2.symm
@[simp] theorem State.finish_hostAt_rest (s : State) (t : Ticket) (code detail : Nat) (hn : Nat) : ((State.finish s t code detail).hostAt hn).rest = (s.hostAt hn).rest := (((State.finish_frame s t code detail).1 .hostRest rfl) hn).symm
@[simp] theorem State.finish_hostAt (s : State) (t : Ticket) (code detail : Nat) (hn : Nat) : (State.finish s t code detail).hostAt hn = s.hostAt hn := (((State.finish_frame s t code detail).1 .hostTx rfl) hn).symm

theorem State.finishOpt_frame (s : State) (t : Option Ticket) (code detail : Nat) (o : Obj) : Keep 0x20000001b80 s (State.finishOpt s t code detail o) := State.finishOpt_keep s t code detail o rfl (Keep.refl _ _)
@[simp] theorem State.finishOpt_pending (s : State) (t : Option Ticket) (code detail : Nat) (o : Obj) : (State.finishOpt s t code detail o).pending = s.pending := ((State.finishOpt_frame s t code detail o).1 .pending rfl).symm
@[simp] theorem State.finishOpt_free (s : State) (t : Option Ticket) (code detail : Nat) (o : Obj) : (State.finishOpt s t code detail o).free = s.free := ((State.finishOpt_frame s t code detail o).1 .free rfl).symm
@[simp] theorem State.finishOpt_fuses (s : State) (t : Option Ticket) (code detail : Nat) (o : Obj) : (State.finishOpt s t code detail o).fuses = s.fuses := ((State.finishOpt_frame s t code detail o).1 .fuses rfl).symm
@[simp] theorem State.finishOpt_shut (s : State) (t : Option Ticket) (code detail : Nat) (o : Obj) : (State.finishOpt s t code detail o).shut = s.shut := ((State.finishOpt_frame s t code detail o).1 .shut rfl).symm
@[simp] theorem State.finishOpt_ev_urgent (s : State) (t : Option Ticket) (code detail : Nat) (o : Obj) : (State.finishOpt s t code detail o).ev.urgent = s.ev.urgent := ((State.finishOpt_frame s t code detail o).1 .evUrgent rfl).symm
@[simp] theorem State.finishOpt_err (s : State) (t : Option Ticket) (code detail : Nat) (o : Obj) : (State.finishOpt s t code detail o).err = s.err := ((State.finishOpt_frame s t code detail o).1 .err rfl).symm
@[simp] theorem State.finishOpt_tku (s : State) (t : Option Ticket) (code detail : Nat) (o : Obj) : (State.finishOpt s t code detail o).tku = s.tku := ((State.finishOpt_frame s t code detail o).1 .tku rfl).symm
@[simp] theorem State.finishOpt_params (s : State) (t : Option Ticket) (code detail : Nat) (o : Obj) : (State.finishOpt s t code detail o).params = s.params := ((State.finishOpt_frame s t code detail o).1 .params rfl).symm
@[simp] theorem State.finishOpt_stats (s : State) (t : Option Ticket) (code detail : Nat) (o : Obj) : (State.finishOpt s t code detail o).stats = s.stats := ((State.finishOpt_frame s t code detail o).1 .stats rfl).symm
@[simp] theorem State.finishOpt_group (s : State) (t : Option Ticket) (code detail : Nat) (o : Obj) : (State.finishOpt s t code detail o).group = s.group := ((State.finishOpt_frame s t code detail o).1 .group rfl).symm
@[simp] theorem State.finishOpt_port (s : State) (t : Option Ticket) (code detail : Nat) (o : Obj) : (State.finishOpt s t code detail o).port = s.port := ((State.finishOpt_frame s t code detail o).1 .port rfl).symm
@[simp] theorem State.finishOpt_block (s : State) (t : Option Ticket) (code detail : Nat) (o : Obj) : (State.finishOpt s t code detail o).block = s.block := ((State.finishOpt_frame s t code detail o).1 .block rfl).symm
@[simp] theorem State.finishOpt_eng (s : State) (t : Option Ticket) (code detail : Nat) (o : Obj) : (State.finishOpt s t code detail o).eng = s.eng := ((State.finishOpt_frame s t code detail o).1 .eng rfl).symm
@[simp] theorem State.finishOpt_hinge (s : State) (t : Option Ticket) (code detail : Nat) (o : Obj) : (State.finishOpt s t code detail o).hinge = s.hinge := ((State.finishOpt_frame s t code detail o).1 .hinge rfl).symm
@[simp] theorem State.finishOpt_lex (s : State) (t : Option Ticket) (code detail : Nat) (o : Obj) : (State.finishOpt s t code detail o).lex = s.lex := ((State.finishOpt_frame s t code detail o).1 .lex rfl).symm
@[simp] theorem State.finishOpt_mem_data (s : State) (t : Option Ticket) (code detail : Nat) (o : Obj) : (State.finishOpt s t code detail o).mem.data = s.mem.data := ((State.finishOpt_frame s t code detail o).1 .memData rfl).symm
@[simp] theorem State.finishOpt_rep (s : State) (t : Option Ticket) (code detail : Nat) (o : Obj) : (State.finishOpt s t code detail o).rep = s.rep := ((State.finishOpt_frame s t code detail o).1 .rep rfl).symm
@[simp] theorem State.finishOpt_ocu (s : State) (t : Option Ticket) (code detail : Nat) (o : Obj) : (State.finishOpt s t code detail o).ocu = s.ocu := ((State.finishOpt_frame s t code detail o).1 .ocu rfl).symm
@[simp] theorem State.finishOpt_cal (s : State) (t : Option Ticket) (code detail : Nat) (o : Obj) : (State.finishOpt s t code detail o).cal = s.cal := ((State.finishOpt_frame s t code detail o).1 .cal rfl).symm
@[simp] theorem State.finishOpt_thm (s : State) (t : Option Ticket) (code detail : Nat) (o : Obj) : (State.finishOpt s t code detail o).thm = s.thm := ((State.finishOpt_frame s t code detail o).1 .thm rfl).symm
@[simp] theorem State.finishOpt_tst (s : State) (t : Option Ticket) (code detail : Nat) (o : Obj) : (State.finishOpt s t code detail o).tst = s.tst := ((State.finishOpt_frame s t code detail o).1 .tst rfl).symm
@[simp] theorem State.finishOpt_pwr (s : State) (t : Option Ticket) (code detail : Nat) (o : Obj) : (State.finishOpt s t code detail o).pwr = s.pwr := ((State.finishOpt_frame s t code detail o).1 .pwr rfl).symm
@[simp] theorem State.finishOpt_fw (s : State) (t : Option Ticket) (code detail : Nat) (o : Obj) : (State.finishOpt s t code detail o).fw = s.fw := ((State.finishOpt_frame s t code detail o).1 .fw rfl).symm
@[simp] theorem State.finishOpt_cap (s : State) (t : Option Ticket) (code detail : Nat) (o : Obj) : (State.finishOpt s t code detail o).cap = s.cap := ((State.finishOpt_frame s t code detail o).1 .cap rfl).symm
@[simp] theorem State.finishOpt_dev_busRead (s : State) (t : Option Ticket) (code detail : Nat) (o : Obj) : (State.finishOpt s t code detail o).dev.busRead = s.dev.busRead := ((State.finishOpt_frame s t code detail o).1 .devBus rfl).symm
@[simp] theorem State.finishOpt_dev_rest (s : State) (t : Option Ticket) (code detail : Nat) (o : Obj) : (State.finishOpt s t code detail o).dev.rest = s.dev.rest := ((State.finishOpt_frame s t code detail o).1 .devRest rfl).symm
@[simp] theorem State.finishOpt_hif_rest (s : State) (t : Option Ticket) (code detail : Nat) (o : Obj) : (State.finishOpt s t code detail o).hif.rest = s.hif.rest := ((State.finishOpt_frame s t code detail o).1 .hifRest rfl).symm
@[simp] theorem State.finishOpt_mem_rest (s : State) (t : Option Ticket) (code detail : Nat) (o : Obj) : (State.finishOpt s t code detail o).mem.rest = s.mem.rest := ((State.finishOpt_frame s t code detail o).1 .memRest rfl).symm
@[simp] theorem State.finishOpt_pmc_rest (s : State) (t : Option Ticket) (code detail : Nat) (o : Obj) : (State.finishOpt s t code detail o).pmc.rest = s.pmc.rest := ((State.finishOpt_frame s t code detail o).1 .pmcRest rfl).symm
@[simp] theorem State.finishOpt_dev_mode (s : State) (t : Option Ticket) (code detail : Nat) (o : Obj) : (State.finishOpt s t code detail o).dev.mode = s.dev.mode := ((State.finishOpt_frame s t code detail o).1 .devMode rfl).1.symm
@[simp] theorem State.finishOpt_dev_guard (s : State) (t : Option Ticket) (code detail : Nat) (o : Obj) : (State.finishOpt s t code detail o).dev.guard = s.dev.guard := ((State.finishOpt_frame s t code detail o).1 .devMode rfl).2.1.symm
@[simp] theorem State.finishOpt_dev_guardSince (s : State) (t : Option Ticket) (code detail : Nat) (o : Obj) : (State.finishOpt s t code detail o).dev.guardSince = s.dev.guardSince := ((State.finishOpt_frame s t code detail o).1 .devMode rfl).2.2.symm
@[simp] theorem State.finishOpt_lineAt_lrx_rest (s : State) (t : Option Ticket) (code detail : Nat) (o : Obj) (ln : Nat) : ((State.finishOpt s t code detail o).lineAt ln).lrx.rest = (s.lineAt ln).lrx.rest := (((State.finishOpt_frame s t code detail o).1 .lnRx rfl) ln).symm
@[simp] theorem State.finishOpt_lineAt_lrx (s : State) (t : Option Ticket) (code detail : Nat) (o : Obj) (ln : Nat) : ((State.finishOpt s t code detail o).lineAt ln).lrx = (s.lineAt ln).lrx := (((State.finishOpt_frame s t code detail o).1 .lnRxPower rfl) ln).symm
@[simp] theorem State.finishOpt_lineAt_sea (s : State) (t : Option Ticket) (code detail : Nat) (o : Obj) (ln : Nat) : ((State.finishOpt s t code detail o).lineAt ln).sea = (s.lineAt ln).sea := (((State.finishOpt_frame s t code detail o).1 .lnSea rfl) ln).symm
@[simp] theorem State.finishOpt_lineAt_sdf (s : State) (t : Option Ticket) (code detail : Nat) (o : Obj) (ln : Nat) : ((State.finishOpt s t code detail o).lineAt ln).sdf = (s.lineAt ln).sdf := (((State.finishOpt_frame s t code detail o).1 .lnSdf rfl) ln).symm
@[simp] theorem State.finishOpt_lineAt_ltx (s : State) (t : Option Ticket) (code detail : Nat) (o : Obj) (ln : Nat) : ((State.finishOpt s t code detail o).lineAt ln).ltx = (s.lineAt ln).ltx := (((State.finishOpt_frame s t code detail o).1 .lnLtx rfl) ln).symm
@[simp] theorem State.finishOpt_lineAt_plt (s : State) (t : Option Ticket) (code detail : Nat) (o : Obj) (ln : Nat) : ((State.finishOpt s t code detail o).lineAt ln).plt = (s.lineAt ln).plt := (((State.finishOpt_frame s t code detail o).1 .lnPlt rfl) ln).symm
@[simp] theorem State.finishOpt_lineAt_state (s : State) (t : Option Ticket) (code detail : Nat) (o : Obj) (ln : Nat) : ((State.finishOpt s t code detail o).lineAt ln).state = (s.lineAt ln).state := (((State.finishOpt_frame s t code detail o).1 .lnState rfl) ln).1.symm
@[simp] theorem State.finishOpt_lineAt_stuck (s : State) (t : Option Ticket) (code detail : Nat) (o : Obj) (ln : Nat) : ((State.finishOpt s t code detail o).lineAt ln).stuck = (s.lineAt ln).stuck := (((State.finishOpt_frame s t code detail o).1 .lnState rfl) ln).2.1.symm
@[simp] theorem State.finishOpt_lineAt_badStage (s : State) (t : Option Ticket) (code detail : Nat) (o : Obj) (ln : Nat) : ((State.finishOpt s t code detail o).lineAt ln).badStage = (s.lineAt ln).badStage := (((State.finishOpt_frame s t code detail o).1 .lnState rfl) ln).2.2.symm
@[simp] theorem State.finishOpt_lineAt_optics (s : State) (t : Option Ticket) (code detail : Nat) (o : Obj) (ln : Nat) : ((State.finishOpt s t code detail o).lineAt ln).optics = (s.lineAt ln).optics := (((State.finishOpt_frame s t code detail o).1 .lnOptics rfl) ln).1.symm
@[simp] theorem State.finishOpt_lineAt_optSince (s : State) (t : Option Ticket) (code detail : Nat) (o : Obj) (ln : Nat) : ((State.finishOpt s t code detail o).lineAt ln).optSince = (s.lineAt ln).optSince := (((State.finishOpt_frame s t code detail o).1 .lnOptics rfl) ln).2.symm
@[simp] theorem State.finishOpt_hostAt_rest (s : State) (t : Option Ticket) (code detail : Nat) (o : Obj) (hn : Nat) : ((State.finishOpt s t code detail o).hostAt hn).rest = (s.hostAt hn).rest := (((State.finishOpt_frame s t code detail o).1 .hostRest rfl) hn).symm
@[simp] theorem State.finishOpt_hostAt (s : State) (t : Option Ticket) (code detail : Nat) (o : Obj) (hn : Nat) : (State.finishOpt s t code detail o).hostAt hn = s.hostAt hn := (((State.finishOpt_frame s t code detail o).1 .hostTx rfl) hn).symm

theorem State.relYield_frame (s : State) (rank obj kept keptObj : Nat) (req : Option Requester) : Keep 0x10000000300 s (State.relYield s rank obj kept keptObj req) := State.relYield_keep s rank obj kept keptObj req rfl (Keep.refl _ _)
@[simp] theorem State.relYield_pending (s : State) (rank obj kept keptObj : Nat) (req : Option Requester) : (State.relYield s rank obj kept keptObj req).pending = s.pending := ((State.relYield_frame s rank obj kept keptObj req).1 .pending rfl).symm
@[simp] theorem State.relYield_free (s : State) (rank obj kept keptObj : Nat) (req : Option Requester) : (State.relYield s rank obj kept keptObj req).free = s.free := ((State.relYield_frame s rank obj kept keptObj req).1 .free rfl).symm
@[simp] theorem State.relYield_fuses (s : State) (rank obj kept keptObj : Nat) (req : Option Requester) : (State.relYield s rank obj kept keptObj req).fuses = s.fuses := ((State.relYield_frame s rank obj kept keptObj req).1 .fuses rfl).symm
@[simp] theorem State.relYield_shut (s : State) (rank obj kept keptObj : Nat) (req : Option Requester) : (State.relYield s rank obj kept keptObj req).shut = s.shut := ((State.relYield_frame s rank obj kept keptObj req).1 .shut rfl).symm
@[simp] theorem State.relYield_mb (s : State) (rank obj kept keptObj : Nat) (req : Option Requester) : (State.relYield s rank obj kept keptObj req).mb = s.mb := ((State.relYield_frame s rank obj kept keptObj req).1 .mb rfl).symm
@[simp] theorem State.relYield_ev_urgent (s : State) (rank obj kept keptObj : Nat) (req : Option Requester) : (State.relYield s rank obj kept keptObj req).ev.urgent = s.ev.urgent := ((State.relYield_frame s rank obj kept keptObj req).1 .evUrgent rfl).symm
@[simp] theorem State.relYield_icu (s : State) (rank obj kept keptObj : Nat) (req : Option Requester) : (State.relYield s rank obj kept keptObj req).icu = s.icu := ((State.relYield_frame s rank obj kept keptObj req).1 .icu rfl).symm
@[simp] theorem State.relYield_hif_l1 (s : State) (rank obj kept keptObj : Nat) (req : Option Requester) : (State.relYield s rank obj kept keptObj req).hif.l1 = s.hif.l1 := ((State.relYield_frame s rank obj kept keptObj req).1 .hifL1 rfl).symm
@[simp] theorem State.relYield_err (s : State) (rank obj kept keptObj : Nat) (req : Option Requester) : (State.relYield s rank obj kept keptObj req).err = s.err := ((State.relYield_frame s rank obj kept keptObj req).1 .err rfl).symm
@[simp] theorem State.relYield_tku (s : State) (rank obj kept keptObj : Nat) (req : Option Requester) : (State.relYield s rank obj kept keptObj req).tku = s.tku := ((State.relYield_frame s rank obj kept keptObj req).1 .tku rfl).symm
@[simp] theorem State.relYield_params (s : State) (rank obj kept keptObj : Nat) (req : Option Requester) : (State.relYield s rank obj kept keptObj req).params = s.params := ((State.relYield_frame s rank obj kept keptObj req).1 .params rfl).symm
@[simp] theorem State.relYield_stats (s : State) (rank obj kept keptObj : Nat) (req : Option Requester) : (State.relYield s rank obj kept keptObj req).stats = s.stats := ((State.relYield_frame s rank obj kept keptObj req).1 .stats rfl).symm
@[simp] theorem State.relYield_group (s : State) (rank obj kept keptObj : Nat) (req : Option Requester) : (State.relYield s rank obj kept keptObj req).group = s.group := ((State.relYield_frame s rank obj kept keptObj req).1 .group rfl).symm
@[simp] theorem State.relYield_port (s : State) (rank obj kept keptObj : Nat) (req : Option Requester) : (State.relYield s rank obj kept keptObj req).port = s.port := ((State.relYield_frame s rank obj kept keptObj req).1 .port rfl).symm
@[simp] theorem State.relYield_block (s : State) (rank obj kept keptObj : Nat) (req : Option Requester) : (State.relYield s rank obj kept keptObj req).block = s.block := ((State.relYield_frame s rank obj kept keptObj req).1 .block rfl).symm
@[simp] theorem State.relYield_eng (s : State) (rank obj kept keptObj : Nat) (req : Option Requester) : (State.relYield s rank obj kept keptObj req).eng = s.eng := ((State.relYield_frame s rank obj kept keptObj req).1 .eng rfl).symm
@[simp] theorem State.relYield_hinge (s : State) (rank obj kept keptObj : Nat) (req : Option Requester) : (State.relYield s rank obj kept keptObj req).hinge = s.hinge := ((State.relYield_frame s rank obj kept keptObj req).1 .hinge rfl).symm
@[simp] theorem State.relYield_lex (s : State) (rank obj kept keptObj : Nat) (req : Option Requester) : (State.relYield s rank obj kept keptObj req).lex = s.lex := ((State.relYield_frame s rank obj kept keptObj req).1 .lex rfl).symm
@[simp] theorem State.relYield_mem_data (s : State) (rank obj kept keptObj : Nat) (req : Option Requester) : (State.relYield s rank obj kept keptObj req).mem.data = s.mem.data := ((State.relYield_frame s rank obj kept keptObj req).1 .memData rfl).symm
@[simp] theorem State.relYield_rep (s : State) (rank obj kept keptObj : Nat) (req : Option Requester) : (State.relYield s rank obj kept keptObj req).rep = s.rep := ((State.relYield_frame s rank obj kept keptObj req).1 .rep rfl).symm
@[simp] theorem State.relYield_ocu (s : State) (rank obj kept keptObj : Nat) (req : Option Requester) : (State.relYield s rank obj kept keptObj req).ocu = s.ocu := ((State.relYield_frame s rank obj kept keptObj req).1 .ocu rfl).symm
@[simp] theorem State.relYield_cal (s : State) (rank obj kept keptObj : Nat) (req : Option Requester) : (State.relYield s rank obj kept keptObj req).cal = s.cal := ((State.relYield_frame s rank obj kept keptObj req).1 .cal rfl).symm
@[simp] theorem State.relYield_thm (s : State) (rank obj kept keptObj : Nat) (req : Option Requester) : (State.relYield s rank obj kept keptObj req).thm = s.thm := ((State.relYield_frame s rank obj kept keptObj req).1 .thm rfl).symm
@[simp] theorem State.relYield_pmc_ctr (s : State) (rank obj kept keptObj : Nat) (req : Option Requester) : (State.relYield s rank obj kept keptObj req).pmc.ctr = s.pmc.ctr := ((State.relYield_frame s rank obj kept keptObj req).1 .pmcCtr rfl).symm
@[simp] theorem State.relYield_pwr (s : State) (rank obj kept keptObj : Nat) (req : Option Requester) : (State.relYield s rank obj kept keptObj req).pwr = s.pwr := ((State.relYield_frame s rank obj kept keptObj req).1 .pwr rfl).symm
@[simp] theorem State.relYield_fw (s : State) (rank obj kept keptObj : Nat) (req : Option Requester) : (State.relYield s rank obj kept keptObj req).fw = s.fw := ((State.relYield_frame s rank obj kept keptObj req).1 .fw rfl).symm
@[simp] theorem State.relYield_cap (s : State) (rank obj kept keptObj : Nat) (req : Option Requester) : (State.relYield s rank obj kept keptObj req).cap = s.cap := ((State.relYield_frame s rank obj kept keptObj req).1 .cap rfl).symm
@[simp] theorem State.relYield_dev_busRead (s : State) (rank obj kept keptObj : Nat) (req : Option Requester) : (State.relYield s rank obj kept keptObj req).dev.busRead = s.dev.busRead := ((State.relYield_frame s rank obj kept keptObj req).1 .devBus rfl).symm
@[simp] theorem State.relYield_dev_rest (s : State) (rank obj kept keptObj : Nat) (req : Option Requester) : (State.relYield s rank obj kept keptObj req).dev.rest = s.dev.rest := ((State.relYield_frame s rank obj kept keptObj req).1 .devRest rfl).symm
@[simp] theorem State.relYield_hif_rest (s : State) (rank obj kept keptObj : Nat) (req : Option Requester) : (State.relYield s rank obj kept keptObj req).hif.rest = s.hif.rest := ((State.relYield_frame s rank obj kept keptObj req).1 .hifRest rfl).symm
@[simp] theorem State.relYield_mem_rest (s : State) (rank obj kept keptObj : Nat) (req : Option Requester) : (State.relYield s rank obj kept keptObj req).mem.rest = s.mem.rest := ((State.relYield_frame s rank obj kept keptObj req).1 .memRest rfl).symm
@[simp] theorem State.relYield_pmc_rest (s : State) (rank obj kept keptObj : Nat) (req : Option Requester) : (State.relYield s rank obj kept keptObj req).pmc.rest = s.pmc.rest := ((State.relYield_frame s rank obj kept keptObj req).1 .pmcRest rfl).symm
@[simp] theorem State.relYield_dev_mode (s : State) (rank obj kept keptObj : Nat) (req : Option Requester) : (State.relYield s rank obj kept keptObj req).dev.mode = s.dev.mode := ((State.relYield_frame s rank obj kept keptObj req).1 .devMode rfl).1.symm
@[simp] theorem State.relYield_dev_guard (s : State) (rank obj kept keptObj : Nat) (req : Option Requester) : (State.relYield s rank obj kept keptObj req).dev.guard = s.dev.guard := ((State.relYield_frame s rank obj kept keptObj req).1 .devMode rfl).2.1.symm
@[simp] theorem State.relYield_dev_guardSince (s : State) (rank obj kept keptObj : Nat) (req : Option Requester) : (State.relYield s rank obj kept keptObj req).dev.guardSince = s.dev.guardSince := ((State.relYield_frame s rank obj kept keptObj req).1 .devMode rfl).2.2.symm
@[simp] theorem State.relYield_lineAt_lrx_rest (s : State) (rank obj kept keptObj : Nat) (req : Option Requester) (ln : Nat) : ((State.relYield s rank obj kept keptObj req).lineAt ln).lrx.rest = (s.lineAt ln).lrx.rest := (((State.relYield_frame s rank obj kept keptObj req).1 .lnRx rfl) ln).symm
@[simp] theorem State.relYield_lineAt_lrx (s : State) (rank obj kept keptObj : Nat) (req : Option Requester) (ln : Nat) : ((State.relYield s rank obj kept keptObj req).lineAt ln).lrx = (s.lineAt ln).lrx := (((State.relYield_frame s rank obj kept keptObj req).1 .lnRxPower rfl) ln).symm
@[simp] theorem State.relYield_lineAt_sea (s : State) (rank obj kept keptObj : Nat) (req : Option Requester) (ln : Nat) : ((State.relYield s rank obj kept keptObj req).lineAt ln).sea = (s.lineAt ln).sea := (((State.relYield_frame s rank obj kept keptObj req).1 .lnSea rfl) ln).symm
@[simp] theorem State.relYield_lineAt_sdf (s : State) (rank obj kept keptObj : Nat) (req : Option Requester) (ln : Nat) : ((State.relYield s rank obj kept keptObj req).lineAt ln).sdf = (s.lineAt ln).sdf := (((State.relYield_frame s rank obj kept keptObj req).1 .lnSdf rfl) ln).symm
@[simp] theorem State.relYield_lineAt_ltx (s : State) (rank obj kept keptObj : Nat) (req : Option Requester) (ln : Nat) : ((State.relYield s rank obj kept keptObj req).lineAt ln).ltx = (s.lineAt ln).ltx := (((State.relYield_frame s rank obj kept keptObj req).1 .lnLtx rfl) ln).symm
@[simp] theorem State.relYield_lineAt_plt (s : State) (rank obj kept keptObj : Nat) (req : Option Requester) (ln : Nat) : ((State.relYield s rank obj kept keptObj req).lineAt ln).plt = (s.lineAt ln).plt := (((State.relYield_frame s rank obj kept keptObj req).1 .lnPlt rfl) ln).symm
@[simp] theorem State.relYield_lineAt_state (s : State) (rank obj kept keptObj : Nat) (req : Option Requester) (ln : Nat) : ((State.relYield s rank obj kept keptObj req).lineAt ln).state = (s.lineAt ln).state := (((State.relYield_frame s rank obj kept keptObj req).1 .lnState rfl) ln).1.symm
@[simp] theorem State.relYield_lineAt_stuck (s : State) (rank obj kept keptObj : Nat) (req : Option Requester) (ln : Nat) : ((State.relYield s rank obj kept keptObj req).lineAt ln).stuck = (s.lineAt ln).stuck := (((State.relYield_frame s rank obj kept keptObj req).1 .lnState rfl) ln).2.1.symm
@[simp] theorem State.relYield_lineAt_badStage (s : State) (rank obj kept keptObj : Nat) (req : Option Requester) (ln : Nat) : ((State.relYield s rank obj kept keptObj req).lineAt ln).badStage = (s.lineAt ln).badStage := (((State.relYield_frame s rank obj kept keptObj req).1 .lnState rfl) ln).2.2.symm
@[simp] theorem State.relYield_lineAt_optics (s : State) (rank obj kept keptObj : Nat) (req : Option Requester) (ln : Nat) : ((State.relYield s rank obj kept keptObj req).lineAt ln).optics = (s.lineAt ln).optics := (((State.relYield_frame s rank obj kept keptObj req).1 .lnOptics rfl) ln).1.symm
@[simp] theorem State.relYield_lineAt_optSince (s : State) (rank obj kept keptObj : Nat) (req : Option Requester) (ln : Nat) : ((State.relYield s rank obj kept keptObj req).lineAt ln).optSince = (s.lineAt ln).optSince := (((State.relYield_frame s rank obj kept keptObj req).1 .lnOptics rfl) ln).2.symm
@[simp] theorem State.relYield_hostAt_rest (s : State) (rank obj kept keptObj : Nat) (req : Option Requester) (hn : Nat) : ((State.relYield s rank obj kept keptObj req).hostAt hn).rest = (s.hostAt hn).rest := (((State.relYield_frame s rank obj kept keptObj req).1 .hostRest rfl) hn).symm
@[simp] theorem State.relYield_hostAt (s : State) (rank obj kept keptObj : Nat) (req : Option Requester) (hn : Nat) : (State.relYield s rank obj kept keptObj req).hostAt hn = s.hostAt hn := (((State.relYield_frame s rank obj kept keptObj req).1 .hostTx rfl) hn).symm

theorem State.relYieldEnd_frame (s : State) (rank obj : Nat) : Keep 0x10000000300 s (State.relYieldEnd s rank obj) := State.relYieldEnd_keep s rank obj rfl (Keep.refl _ _)
@[simp] theorem State.relYieldEnd_pending (s : State) (rank obj : Nat) : (State.relYieldEnd s rank obj).pending = s.pending := ((State.relYieldEnd_frame s rank obj).1 .pending rfl).symm
@[simp] theorem State.relYieldEnd_free (s : State) (rank obj : Nat) : (State.relYieldEnd s rank obj).free = s.free := ((State.relYieldEnd_frame s rank obj).1 .free rfl).symm
@[simp] theorem State.relYieldEnd_fuses (s : State) (rank obj : Nat) : (State.relYieldEnd s rank obj).fuses = s.fuses := ((State.relYieldEnd_frame s rank obj).1 .fuses rfl).symm
@[simp] theorem State.relYieldEnd_shut (s : State) (rank obj : Nat) : (State.relYieldEnd s rank obj).shut = s.shut := ((State.relYieldEnd_frame s rank obj).1 .shut rfl).symm
@[simp] theorem State.relYieldEnd_mb (s : State) (rank obj : Nat) : (State.relYieldEnd s rank obj).mb = s.mb := ((State.relYieldEnd_frame s rank obj).1 .mb rfl).symm
@[simp] theorem State.relYieldEnd_ev_urgent (s : State) (rank obj : Nat) : (State.relYieldEnd s rank obj).ev.urgent = s.ev.urgent := ((State.relYieldEnd_frame s rank obj).1 .evUrgent rfl).symm
@[simp] theorem State.relYieldEnd_icu (s : State) (rank obj : Nat) : (State.relYieldEnd s rank obj).icu = s.icu := ((State.relYieldEnd_frame s rank obj).1 .icu rfl).symm
@[simp] theorem State.relYieldEnd_hif_l1 (s : State) (rank obj : Nat) : (State.relYieldEnd s rank obj).hif.l1 = s.hif.l1 := ((State.relYieldEnd_frame s rank obj).1 .hifL1 rfl).symm
@[simp] theorem State.relYieldEnd_err (s : State) (rank obj : Nat) : (State.relYieldEnd s rank obj).err = s.err := ((State.relYieldEnd_frame s rank obj).1 .err rfl).symm
@[simp] theorem State.relYieldEnd_tku (s : State) (rank obj : Nat) : (State.relYieldEnd s rank obj).tku = s.tku := ((State.relYieldEnd_frame s rank obj).1 .tku rfl).symm
@[simp] theorem State.relYieldEnd_params (s : State) (rank obj : Nat) : (State.relYieldEnd s rank obj).params = s.params := ((State.relYieldEnd_frame s rank obj).1 .params rfl).symm
@[simp] theorem State.relYieldEnd_stats (s : State) (rank obj : Nat) : (State.relYieldEnd s rank obj).stats = s.stats := ((State.relYieldEnd_frame s rank obj).1 .stats rfl).symm
@[simp] theorem State.relYieldEnd_group (s : State) (rank obj : Nat) : (State.relYieldEnd s rank obj).group = s.group := ((State.relYieldEnd_frame s rank obj).1 .group rfl).symm
@[simp] theorem State.relYieldEnd_port (s : State) (rank obj : Nat) : (State.relYieldEnd s rank obj).port = s.port := ((State.relYieldEnd_frame s rank obj).1 .port rfl).symm
@[simp] theorem State.relYieldEnd_block (s : State) (rank obj : Nat) : (State.relYieldEnd s rank obj).block = s.block := ((State.relYieldEnd_frame s rank obj).1 .block rfl).symm
@[simp] theorem State.relYieldEnd_eng (s : State) (rank obj : Nat) : (State.relYieldEnd s rank obj).eng = s.eng := ((State.relYieldEnd_frame s rank obj).1 .eng rfl).symm
@[simp] theorem State.relYieldEnd_hinge (s : State) (rank obj : Nat) : (State.relYieldEnd s rank obj).hinge = s.hinge := ((State.relYieldEnd_frame s rank obj).1 .hinge rfl).symm
@[simp] theorem State.relYieldEnd_lex (s : State) (rank obj : Nat) : (State.relYieldEnd s rank obj).lex = s.lex := ((State.relYieldEnd_frame s rank obj).1 .lex rfl).symm
@[simp] theorem State.relYieldEnd_mem_data (s : State) (rank obj : Nat) : (State.relYieldEnd s rank obj).mem.data = s.mem.data := ((State.relYieldEnd_frame s rank obj).1 .memData rfl).symm
@[simp] theorem State.relYieldEnd_rep (s : State) (rank obj : Nat) : (State.relYieldEnd s rank obj).rep = s.rep := ((State.relYieldEnd_frame s rank obj).1 .rep rfl).symm
@[simp] theorem State.relYieldEnd_ocu (s : State) (rank obj : Nat) : (State.relYieldEnd s rank obj).ocu = s.ocu := ((State.relYieldEnd_frame s rank obj).1 .ocu rfl).symm
@[simp] theorem State.relYieldEnd_cal (s : State) (rank obj : Nat) : (State.relYieldEnd s rank obj).cal = s.cal := ((State.relYieldEnd_frame s rank obj).1 .cal rfl).symm
@[simp] theorem State.relYieldEnd_thm (s : State) (rank obj : Nat) : (State.relYieldEnd s rank obj).thm = s.thm := ((State.relYieldEnd_frame s rank obj).1 .thm rfl).symm
@[simp] theorem State.relYieldEnd_pmc_ctr (s : State) (rank obj : Nat) : (State.relYieldEnd s rank obj).pmc.ctr = s.pmc.ctr := ((State.relYieldEnd_frame s rank obj).1 .pmcCtr rfl).symm
@[simp] theorem State.relYieldEnd_pwr (s : State) (rank obj : Nat) : (State.relYieldEnd s rank obj).pwr = s.pwr := ((State.relYieldEnd_frame s rank obj).1 .pwr rfl).symm
@[simp] theorem State.relYieldEnd_fw (s : State) (rank obj : Nat) : (State.relYieldEnd s rank obj).fw = s.fw := ((State.relYieldEnd_frame s rank obj).1 .fw rfl).symm
@[simp] theorem State.relYieldEnd_cap (s : State) (rank obj : Nat) : (State.relYieldEnd s rank obj).cap = s.cap := ((State.relYieldEnd_frame s rank obj).1 .cap rfl).symm
@[simp] theorem State.relYieldEnd_dev_busRead (s : State) (rank obj : Nat) : (State.relYieldEnd s rank obj).dev.busRead = s.dev.busRead := ((State.relYieldEnd_frame s rank obj).1 .devBus rfl).symm
@[simp] theorem State.relYieldEnd_dev_rest (s : State) (rank obj : Nat) : (State.relYieldEnd s rank obj).dev.rest = s.dev.rest := ((State.relYieldEnd_frame s rank obj).1 .devRest rfl).symm
@[simp] theorem State.relYieldEnd_hif_rest (s : State) (rank obj : Nat) : (State.relYieldEnd s rank obj).hif.rest = s.hif.rest := ((State.relYieldEnd_frame s rank obj).1 .hifRest rfl).symm
@[simp] theorem State.relYieldEnd_mem_rest (s : State) (rank obj : Nat) : (State.relYieldEnd s rank obj).mem.rest = s.mem.rest := ((State.relYieldEnd_frame s rank obj).1 .memRest rfl).symm
@[simp] theorem State.relYieldEnd_pmc_rest (s : State) (rank obj : Nat) : (State.relYieldEnd s rank obj).pmc.rest = s.pmc.rest := ((State.relYieldEnd_frame s rank obj).1 .pmcRest rfl).symm
@[simp] theorem State.relYieldEnd_dev_mode (s : State) (rank obj : Nat) : (State.relYieldEnd s rank obj).dev.mode = s.dev.mode := ((State.relYieldEnd_frame s rank obj).1 .devMode rfl).1.symm
@[simp] theorem State.relYieldEnd_dev_guard (s : State) (rank obj : Nat) : (State.relYieldEnd s rank obj).dev.guard = s.dev.guard := ((State.relYieldEnd_frame s rank obj).1 .devMode rfl).2.1.symm
@[simp] theorem State.relYieldEnd_dev_guardSince (s : State) (rank obj : Nat) : (State.relYieldEnd s rank obj).dev.guardSince = s.dev.guardSince := ((State.relYieldEnd_frame s rank obj).1 .devMode rfl).2.2.symm
@[simp] theorem State.relYieldEnd_lineAt_lrx_rest (s : State) (rank obj : Nat) (ln : Nat) : ((State.relYieldEnd s rank obj).lineAt ln).lrx.rest = (s.lineAt ln).lrx.rest := (((State.relYieldEnd_frame s rank obj).1 .lnRx rfl) ln).symm
@[simp] theorem State.relYieldEnd_lineAt_lrx (s : State) (rank obj : Nat) (ln : Nat) : ((State.relYieldEnd s rank obj).lineAt ln).lrx = (s.lineAt ln).lrx := (((State.relYieldEnd_frame s rank obj).1 .lnRxPower rfl) ln).symm
@[simp] theorem State.relYieldEnd_lineAt_sea (s : State) (rank obj : Nat) (ln : Nat) : ((State.relYieldEnd s rank obj).lineAt ln).sea = (s.lineAt ln).sea := (((State.relYieldEnd_frame s rank obj).1 .lnSea rfl) ln).symm
@[simp] theorem State.relYieldEnd_lineAt_sdf (s : State) (rank obj : Nat) (ln : Nat) : ((State.relYieldEnd s rank obj).lineAt ln).sdf = (s.lineAt ln).sdf := (((State.relYieldEnd_frame s rank obj).1 .lnSdf rfl) ln).symm
@[simp] theorem State.relYieldEnd_lineAt_ltx (s : State) (rank obj : Nat) (ln : Nat) : ((State.relYieldEnd s rank obj).lineAt ln).ltx = (s.lineAt ln).ltx := (((State.relYieldEnd_frame s rank obj).1 .lnLtx rfl) ln).symm
@[simp] theorem State.relYieldEnd_lineAt_plt (s : State) (rank obj : Nat) (ln : Nat) : ((State.relYieldEnd s rank obj).lineAt ln).plt = (s.lineAt ln).plt := (((State.relYieldEnd_frame s rank obj).1 .lnPlt rfl) ln).symm
@[simp] theorem State.relYieldEnd_lineAt_state (s : State) (rank obj : Nat) (ln : Nat) : ((State.relYieldEnd s rank obj).lineAt ln).state = (s.lineAt ln).state := (((State.relYieldEnd_frame s rank obj).1 .lnState rfl) ln).1.symm
@[simp] theorem State.relYieldEnd_lineAt_stuck (s : State) (rank obj : Nat) (ln : Nat) : ((State.relYieldEnd s rank obj).lineAt ln).stuck = (s.lineAt ln).stuck := (((State.relYieldEnd_frame s rank obj).1 .lnState rfl) ln).2.1.symm
@[simp] theorem State.relYieldEnd_lineAt_badStage (s : State) (rank obj : Nat) (ln : Nat) : ((State.relYieldEnd s rank obj).lineAt ln).badStage = (s.lineAt ln).badStage := (((State.relYieldEnd_frame s rank obj).1 .lnState rfl) ln).2.2.symm
@[simp] theorem State.relYieldEnd_lineAt_optics (s : State) (rank obj : Nat) (ln : Nat) : ((State.relYieldEnd s rank obj).lineAt ln).optics = (s.lineAt ln).optics := (((State.relYieldEnd_frame s rank obj).1 .lnOptics rfl) ln).1.symm
@[simp] theorem State.relYieldEnd_lineAt_optSince (s : State) (rank obj : Nat) (ln : Nat) : ((State.relYieldEnd s rank obj).lineAt ln).optSince = (s.lineAt ln).optSince := (((State.relYieldEnd_frame s rank obj).1 .lnOptics rfl) ln).2.symm
@[simp] theorem State.relYieldEnd_hostAt_rest (s : State) (rank obj : Nat) (hn : Nat) : ((State.relYieldEnd s rank obj).hostAt hn).rest = (s.hostAt hn).rest := (((State.relYieldEnd_frame s rank obj).1 .hostRest rfl) hn).symm
@[simp] theorem State.relYieldEnd_hostAt (s : State) (rank obj : Nat) (hn : Nat) : (State.relYieldEnd s rank obj).hostAt hn = s.hostAt hn := (((State.relYieldEnd_frame s rank obj).1 .hostTx rfl) hn).symm

theorem State.report_frame (s : State) (kind : ElemKind) (unit loc source : Nat) : Keep 0x10000000000 s (State.report s kind unit loc source) := State.report_keep s kind unit loc source rfl (Keep.refl _ _)
@[simp] theorem State.report_pending (s : State) (kind : ElemKind) (unit loc source : Nat) : (State.report s kind unit loc source).pending = s.pending := ((State.report_frame s kind unit loc source).1 .pending rfl).symm
@[simp] theorem State.report_free (s : State) (kind : ElemKind) (unit loc source : Nat) : (State.report s kind unit loc source).free = s.free := ((State.report_frame s kind unit loc source).1 .free rfl).symm
@[simp] theorem State.report_fuses (s : State) (kind : ElemKind) (unit loc source : Nat) : (State.report s kind unit loc source).fuses = s.fuses := ((State.report_frame s kind unit loc source).1 .fuses rfl).symm
@[simp] theorem State.report_shut (s : State) (kind : ElemKind) (unit loc source : Nat) : (State.report s kind unit loc source).shut = s.shut := ((State.report_frame s kind unit loc source).1 .shut rfl).symm
@[simp] theorem State.report_mb (s : State) (kind : ElemKind) (unit loc source : Nat) : (State.report s kind unit loc source).mb = s.mb := ((State.report_frame s kind unit loc source).1 .mb rfl).symm
@[simp] theorem State.report_ev_raised (s : State) (kind : ElemKind) (unit loc source : Nat) : (State.report s kind unit loc source).ev.raised = s.ev.raised := ((State.report_frame s kind unit loc source).1 .evRaised rfl).symm
@[simp] theorem State.report_ev_queue (s : State) (kind : ElemKind) (unit loc source : Nat) : (State.report s kind unit loc source).ev.queue = s.ev.queue := ((State.report_frame s kind unit loc source).1 .evQueue rfl).symm
@[simp] theorem State.report_ev_urgent (s : State) (kind : ElemKind) (unit loc source : Nat) : (State.report s kind unit loc source).ev.urgent = s.ev.urgent := ((State.report_frame s kind unit loc source).1 .evUrgent rfl).symm
@[simp] theorem State.report_icu (s : State) (kind : ElemKind) (unit loc source : Nat) : (State.report s kind unit loc source).icu = s.icu := ((State.report_frame s kind unit loc source).1 .icu rfl).symm
@[simp] theorem State.report_hif_l1 (s : State) (kind : ElemKind) (unit loc source : Nat) : (State.report s kind unit loc source).hif.l1 = s.hif.l1 := ((State.report_frame s kind unit loc source).1 .hifL1 rfl).symm
@[simp] theorem State.report_err (s : State) (kind : ElemKind) (unit loc source : Nat) : (State.report s kind unit loc source).err = s.err := ((State.report_frame s kind unit loc source).1 .err rfl).symm
@[simp] theorem State.report_tku (s : State) (kind : ElemKind) (unit loc source : Nat) : (State.report s kind unit loc source).tku = s.tku := ((State.report_frame s kind unit loc source).1 .tku rfl).symm
@[simp] theorem State.report_params (s : State) (kind : ElemKind) (unit loc source : Nat) : (State.report s kind unit loc source).params = s.params := ((State.report_frame s kind unit loc source).1 .params rfl).symm
@[simp] theorem State.report_stats (s : State) (kind : ElemKind) (unit loc source : Nat) : (State.report s kind unit loc source).stats = s.stats := ((State.report_frame s kind unit loc source).1 .stats rfl).symm
@[simp] theorem State.report_group (s : State) (kind : ElemKind) (unit loc source : Nat) : (State.report s kind unit loc source).group = s.group := ((State.report_frame s kind unit loc source).1 .group rfl).symm
@[simp] theorem State.report_port (s : State) (kind : ElemKind) (unit loc source : Nat) : (State.report s kind unit loc source).port = s.port := ((State.report_frame s kind unit loc source).1 .port rfl).symm
@[simp] theorem State.report_block (s : State) (kind : ElemKind) (unit loc source : Nat) : (State.report s kind unit loc source).block = s.block := ((State.report_frame s kind unit loc source).1 .block rfl).symm
@[simp] theorem State.report_eng (s : State) (kind : ElemKind) (unit loc source : Nat) : (State.report s kind unit loc source).eng = s.eng := ((State.report_frame s kind unit loc source).1 .eng rfl).symm
@[simp] theorem State.report_hinge (s : State) (kind : ElemKind) (unit loc source : Nat) : (State.report s kind unit loc source).hinge = s.hinge := ((State.report_frame s kind unit loc source).1 .hinge rfl).symm
@[simp] theorem State.report_lex (s : State) (kind : ElemKind) (unit loc source : Nat) : (State.report s kind unit loc source).lex = s.lex := ((State.report_frame s kind unit loc source).1 .lex rfl).symm
@[simp] theorem State.report_mem_data (s : State) (kind : ElemKind) (unit loc source : Nat) : (State.report s kind unit loc source).mem.data = s.mem.data := ((State.report_frame s kind unit loc source).1 .memData rfl).symm
@[simp] theorem State.report_rep (s : State) (kind : ElemKind) (unit loc source : Nat) : (State.report s kind unit loc source).rep = s.rep := ((State.report_frame s kind unit loc source).1 .rep rfl).symm
@[simp] theorem State.report_ocu (s : State) (kind : ElemKind) (unit loc source : Nat) : (State.report s kind unit loc source).ocu = s.ocu := ((State.report_frame s kind unit loc source).1 .ocu rfl).symm
@[simp] theorem State.report_cal (s : State) (kind : ElemKind) (unit loc source : Nat) : (State.report s kind unit loc source).cal = s.cal := ((State.report_frame s kind unit loc source).1 .cal rfl).symm
@[simp] theorem State.report_thm (s : State) (kind : ElemKind) (unit loc source : Nat) : (State.report s kind unit loc source).thm = s.thm := ((State.report_frame s kind unit loc source).1 .thm rfl).symm
@[simp] theorem State.report_pmc_ctr (s : State) (kind : ElemKind) (unit loc source : Nat) : (State.report s kind unit loc source).pmc.ctr = s.pmc.ctr := ((State.report_frame s kind unit loc source).1 .pmcCtr rfl).symm
@[simp] theorem State.report_pwr (s : State) (kind : ElemKind) (unit loc source : Nat) : (State.report s kind unit loc source).pwr = s.pwr := ((State.report_frame s kind unit loc source).1 .pwr rfl).symm
@[simp] theorem State.report_fw (s : State) (kind : ElemKind) (unit loc source : Nat) : (State.report s kind unit loc source).fw = s.fw := ((State.report_frame s kind unit loc source).1 .fw rfl).symm
@[simp] theorem State.report_cap (s : State) (kind : ElemKind) (unit loc source : Nat) : (State.report s kind unit loc source).cap = s.cap := ((State.report_frame s kind unit loc source).1 .cap rfl).symm
@[simp] theorem State.report_dev_busRead (s : State) (kind : ElemKind) (unit loc source : Nat) : (State.report s kind unit loc source).dev.busRead = s.dev.busRead := ((State.report_frame s kind unit loc source).1 .devBus rfl).symm
@[simp] theorem State.report_dev_rest (s : State) (kind : ElemKind) (unit loc source : Nat) : (State.report s kind unit loc source).dev.rest = s.dev.rest := ((State.report_frame s kind unit loc source).1 .devRest rfl).symm
@[simp] theorem State.report_hif_rest (s : State) (kind : ElemKind) (unit loc source : Nat) : (State.report s kind unit loc source).hif.rest = s.hif.rest := ((State.report_frame s kind unit loc source).1 .hifRest rfl).symm
@[simp] theorem State.report_mem_rest (s : State) (kind : ElemKind) (unit loc source : Nat) : (State.report s kind unit loc source).mem.rest = s.mem.rest := ((State.report_frame s kind unit loc source).1 .memRest rfl).symm
@[simp] theorem State.report_pmc_rest (s : State) (kind : ElemKind) (unit loc source : Nat) : (State.report s kind unit loc source).pmc.rest = s.pmc.rest := ((State.report_frame s kind unit loc source).1 .pmcRest rfl).symm
@[simp] theorem State.report_dev_mode (s : State) (kind : ElemKind) (unit loc source : Nat) : (State.report s kind unit loc source).dev.mode = s.dev.mode := ((State.report_frame s kind unit loc source).1 .devMode rfl).1.symm
@[simp] theorem State.report_dev_guard (s : State) (kind : ElemKind) (unit loc source : Nat) : (State.report s kind unit loc source).dev.guard = s.dev.guard := ((State.report_frame s kind unit loc source).1 .devMode rfl).2.1.symm
@[simp] theorem State.report_dev_guardSince (s : State) (kind : ElemKind) (unit loc source : Nat) : (State.report s kind unit loc source).dev.guardSince = s.dev.guardSince := ((State.report_frame s kind unit loc source).1 .devMode rfl).2.2.symm
@[simp] theorem State.report_lineAt_lrx_rest (s : State) (kind : ElemKind) (unit loc source : Nat) (ln : Nat) : ((State.report s kind unit loc source).lineAt ln).lrx.rest = (s.lineAt ln).lrx.rest := (((State.report_frame s kind unit loc source).1 .lnRx rfl) ln).symm
@[simp] theorem State.report_lineAt_lrx (s : State) (kind : ElemKind) (unit loc source : Nat) (ln : Nat) : ((State.report s kind unit loc source).lineAt ln).lrx = (s.lineAt ln).lrx := (((State.report_frame s kind unit loc source).1 .lnRxPower rfl) ln).symm
@[simp] theorem State.report_lineAt_sea (s : State) (kind : ElemKind) (unit loc source : Nat) (ln : Nat) : ((State.report s kind unit loc source).lineAt ln).sea = (s.lineAt ln).sea := (((State.report_frame s kind unit loc source).1 .lnSea rfl) ln).symm
@[simp] theorem State.report_lineAt_sdf (s : State) (kind : ElemKind) (unit loc source : Nat) (ln : Nat) : ((State.report s kind unit loc source).lineAt ln).sdf = (s.lineAt ln).sdf := (((State.report_frame s kind unit loc source).1 .lnSdf rfl) ln).symm
@[simp] theorem State.report_lineAt_ltx (s : State) (kind : ElemKind) (unit loc source : Nat) (ln : Nat) : ((State.report s kind unit loc source).lineAt ln).ltx = (s.lineAt ln).ltx := (((State.report_frame s kind unit loc source).1 .lnLtx rfl) ln).symm
@[simp] theorem State.report_lineAt_plt (s : State) (kind : ElemKind) (unit loc source : Nat) (ln : Nat) : ((State.report s kind unit loc source).lineAt ln).plt = (s.lineAt ln).plt := (((State.report_frame s kind unit loc source).1 .lnPlt rfl) ln).symm
@[simp] theorem State.report_lineAt_state (s : State) (kind : ElemKind) (unit loc source : Nat) (ln : Nat) : ((State.report s kind unit loc source).lineAt ln).state = (s.lineAt ln).state := (((State.report_frame s kind unit loc source).1 .lnState rfl) ln).1.symm
@[simp] theorem State.report_lineAt_stuck (s : State) (kind : ElemKind) (unit loc source : Nat) (ln : Nat) : ((State.report s kind unit loc source).lineAt ln).stuck = (s.lineAt ln).stuck := (((State.report_frame s kind unit loc source).1 .lnState rfl) ln).2.1.symm
@[simp] theorem State.report_lineAt_badStage (s : State) (kind : ElemKind) (unit loc source : Nat) (ln : Nat) : ((State.report s kind unit loc source).lineAt ln).badStage = (s.lineAt ln).badStage := (((State.report_frame s kind unit loc source).1 .lnState rfl) ln).2.2.symm
@[simp] theorem State.report_lineAt_optics (s : State) (kind : ElemKind) (unit loc source : Nat) (ln : Nat) : ((State.report s kind unit loc source).lineAt ln).optics = (s.lineAt ln).optics := (((State.report_frame s kind unit loc source).1 .lnOptics rfl) ln).1.symm
@[simp] theorem State.report_lineAt_optSince (s : State) (kind : ElemKind) (unit loc source : Nat) (ln : Nat) : ((State.report s kind unit loc source).lineAt ln).optSince = (s.lineAt ln).optSince := (((State.report_frame s kind unit loc source).1 .lnOptics rfl) ln).2.symm
@[simp] theorem State.report_hostAt_rest (s : State) (kind : ElemKind) (unit loc source : Nat) (hn : Nat) : ((State.report s kind unit loc source).hostAt hn).rest = (s.hostAt hn).rest := (((State.report_frame s kind unit loc source).1 .hostRest rfl) hn).symm
@[simp] theorem State.report_hostAt (s : State) (kind : ElemKind) (unit loc source : Nat) (hn : Nat) : (State.report s kind unit loc source).hostAt hn = s.hostAt hn := (((State.report_frame s kind unit loc source).1 .hostTx rfl) hn).symm

theorem State.repair_frame (s : State) (kind source unit loc : Nat) : Keep 0x1000000300 s (State.repair s kind source unit loc) := State.repair_keep s kind source unit loc rfl (Keep.refl _ _)
@[simp] theorem State.repair_pending (s : State) (kind source unit loc : Nat) : (State.repair s kind source unit loc).pending = s.pending := ((State.repair_frame s kind source unit loc).1 .pending rfl).symm
@[simp] theorem State.repair_free (s : State) (kind source unit loc : Nat) : (State.repair s kind source unit loc).free = s.free := ((State.repair_frame s kind source unit loc).1 .free rfl).symm
@[simp] theorem State.repair_fuses (s : State) (kind source unit loc : Nat) : (State.repair s kind source unit loc).fuses = s.fuses := ((State.repair_frame s kind source unit loc).1 .fuses rfl).symm
@[simp] theorem State.repair_shut (s : State) (kind source unit loc : Nat) : (State.repair s kind source unit loc).shut = s.shut := ((State.repair_frame s kind source unit loc).1 .shut rfl).symm
@[simp] theorem State.repair_mb (s : State) (kind source unit loc : Nat) : (State.repair s kind source unit loc).mb = s.mb := ((State.repair_frame s kind source unit loc).1 .mb rfl).symm
@[simp] theorem State.repair_ev_urgent (s : State) (kind source unit loc : Nat) : (State.repair s kind source unit loc).ev.urgent = s.ev.urgent := ((State.repair_frame s kind source unit loc).1 .evUrgent rfl).symm
@[simp] theorem State.repair_icu (s : State) (kind source unit loc : Nat) : (State.repair s kind source unit loc).icu = s.icu := ((State.repair_frame s kind source unit loc).1 .icu rfl).symm
@[simp] theorem State.repair_hif_l1 (s : State) (kind source unit loc : Nat) : (State.repair s kind source unit loc).hif.l1 = s.hif.l1 := ((State.repair_frame s kind source unit loc).1 .hifL1 rfl).symm
@[simp] theorem State.repair_err (s : State) (kind source unit loc : Nat) : (State.repair s kind source unit loc).err = s.err := ((State.repair_frame s kind source unit loc).1 .err rfl).symm
@[simp] theorem State.repair_tku (s : State) (kind source unit loc : Nat) : (State.repair s kind source unit loc).tku = s.tku := ((State.repair_frame s kind source unit loc).1 .tku rfl).symm
@[simp] theorem State.repair_params (s : State) (kind source unit loc : Nat) : (State.repair s kind source unit loc).params = s.params := ((State.repair_frame s kind source unit loc).1 .params rfl).symm
@[simp] theorem State.repair_stats (s : State) (kind source unit loc : Nat) : (State.repair s kind source unit loc).stats = s.stats := ((State.repair_frame s kind source unit loc).1 .stats rfl).symm
@[simp] theorem State.repair_group (s : State) (kind source unit loc : Nat) : (State.repair s kind source unit loc).group = s.group := ((State.repair_frame s kind source unit loc).1 .group rfl).symm
@[simp] theorem State.repair_port (s : State) (kind source unit loc : Nat) : (State.repair s kind source unit loc).port = s.port := ((State.repair_frame s kind source unit loc).1 .port rfl).symm
@[simp] theorem State.repair_block (s : State) (kind source unit loc : Nat) : (State.repair s kind source unit loc).block = s.block := ((State.repair_frame s kind source unit loc).1 .block rfl).symm
@[simp] theorem State.repair_eng (s : State) (kind source unit loc : Nat) : (State.repair s kind source unit loc).eng = s.eng := ((State.repair_frame s kind source unit loc).1 .eng rfl).symm
@[simp] theorem State.repair_hinge (s : State) (kind source unit loc : Nat) : (State.repair s kind source unit loc).hinge = s.hinge := ((State.repair_frame s kind source unit loc).1 .hinge rfl).symm
@[simp] theorem State.repair_lex (s : State) (kind source unit loc : Nat) : (State.repair s kind source unit loc).lex = s.lex := ((State.repair_frame s kind source unit loc).1 .lex rfl).symm
@[simp] theorem State.repair_mem_data (s : State) (kind source unit loc : Nat) : (State.repair s kind source unit loc).mem.data = s.mem.data := ((State.repair_frame s kind source unit loc).1 .memData rfl).symm
@[simp] theorem State.repair_ocu (s : State) (kind source unit loc : Nat) : (State.repair s kind source unit loc).ocu = s.ocu := ((State.repair_frame s kind source unit loc).1 .ocu rfl).symm
@[simp] theorem State.repair_cal (s : State) (kind source unit loc : Nat) : (State.repair s kind source unit loc).cal = s.cal := ((State.repair_frame s kind source unit loc).1 .cal rfl).symm
@[simp] theorem State.repair_thm (s : State) (kind source unit loc : Nat) : (State.repair s kind source unit loc).thm = s.thm := ((State.repair_frame s kind source unit loc).1 .thm rfl).symm
@[simp] theorem State.repair_tst (s : State) (kind source unit loc : Nat) : (State.repair s kind source unit loc).tst = s.tst := ((State.repair_frame s kind source unit loc).1 .tst rfl).symm
@[simp] theorem State.repair_pmc_ctr (s : State) (kind source unit loc : Nat) : (State.repair s kind source unit loc).pmc.ctr = s.pmc.ctr := ((State.repair_frame s kind source unit loc).1 .pmcCtr rfl).symm
@[simp] theorem State.repair_pwr (s : State) (kind source unit loc : Nat) : (State.repair s kind source unit loc).pwr = s.pwr := ((State.repair_frame s kind source unit loc).1 .pwr rfl).symm
@[simp] theorem State.repair_fw (s : State) (kind source unit loc : Nat) : (State.repair s kind source unit loc).fw = s.fw := ((State.repair_frame s kind source unit loc).1 .fw rfl).symm
@[simp] theorem State.repair_cap (s : State) (kind source unit loc : Nat) : (State.repair s kind source unit loc).cap = s.cap := ((State.repair_frame s kind source unit loc).1 .cap rfl).symm
@[simp] theorem State.repair_dev_busRead (s : State) (kind source unit loc : Nat) : (State.repair s kind source unit loc).dev.busRead = s.dev.busRead := ((State.repair_frame s kind source unit loc).1 .devBus rfl).symm
@[simp] theorem State.repair_dev_rest (s : State) (kind source unit loc : Nat) : (State.repair s kind source unit loc).dev.rest = s.dev.rest := ((State.repair_frame s kind source unit loc).1 .devRest rfl).symm
@[simp] theorem State.repair_hif_rest (s : State) (kind source unit loc : Nat) : (State.repair s kind source unit loc).hif.rest = s.hif.rest := ((State.repair_frame s kind source unit loc).1 .hifRest rfl).symm
@[simp] theorem State.repair_mem_rest (s : State) (kind source unit loc : Nat) : (State.repair s kind source unit loc).mem.rest = s.mem.rest := ((State.repair_frame s kind source unit loc).1 .memRest rfl).symm
@[simp] theorem State.repair_pmc_rest (s : State) (kind source unit loc : Nat) : (State.repair s kind source unit loc).pmc.rest = s.pmc.rest := ((State.repair_frame s kind source unit loc).1 .pmcRest rfl).symm
@[simp] theorem State.repair_dev_mode (s : State) (kind source unit loc : Nat) : (State.repair s kind source unit loc).dev.mode = s.dev.mode := ((State.repair_frame s kind source unit loc).1 .devMode rfl).1.symm
@[simp] theorem State.repair_dev_guard (s : State) (kind source unit loc : Nat) : (State.repair s kind source unit loc).dev.guard = s.dev.guard := ((State.repair_frame s kind source unit loc).1 .devMode rfl).2.1.symm
@[simp] theorem State.repair_dev_guardSince (s : State) (kind source unit loc : Nat) : (State.repair s kind source unit loc).dev.guardSince = s.dev.guardSince := ((State.repair_frame s kind source unit loc).1 .devMode rfl).2.2.symm
@[simp] theorem State.repair_lineAt_lrx_rest (s : State) (kind source unit loc : Nat) (ln : Nat) : ((State.repair s kind source unit loc).lineAt ln).lrx.rest = (s.lineAt ln).lrx.rest := (((State.repair_frame s kind source unit loc).1 .lnRx rfl) ln).symm
@[simp] theorem State.repair_lineAt_lrx (s : State) (kind source unit loc : Nat) (ln : Nat) : ((State.repair s kind source unit loc).lineAt ln).lrx = (s.lineAt ln).lrx := (((State.repair_frame s kind source unit loc).1 .lnRxPower rfl) ln).symm
@[simp] theorem State.repair_lineAt_sea (s : State) (kind source unit loc : Nat) (ln : Nat) : ((State.repair s kind source unit loc).lineAt ln).sea = (s.lineAt ln).sea := (((State.repair_frame s kind source unit loc).1 .lnSea rfl) ln).symm
@[simp] theorem State.repair_lineAt_sdf (s : State) (kind source unit loc : Nat) (ln : Nat) : ((State.repair s kind source unit loc).lineAt ln).sdf = (s.lineAt ln).sdf := (((State.repair_frame s kind source unit loc).1 .lnSdf rfl) ln).symm
@[simp] theorem State.repair_lineAt_ltx (s : State) (kind source unit loc : Nat) (ln : Nat) : ((State.repair s kind source unit loc).lineAt ln).ltx = (s.lineAt ln).ltx := (((State.repair_frame s kind source unit loc).1 .lnLtx rfl) ln).symm
@[simp] theorem State.repair_lineAt_plt (s : State) (kind source unit loc : Nat) (ln : Nat) : ((State.repair s kind source unit loc).lineAt ln).plt = (s.lineAt ln).plt := (((State.repair_frame s kind source unit loc).1 .lnPlt rfl) ln).symm
@[simp] theorem State.repair_lineAt_state (s : State) (kind source unit loc : Nat) (ln : Nat) : ((State.repair s kind source unit loc).lineAt ln).state = (s.lineAt ln).state := (((State.repair_frame s kind source unit loc).1 .lnState rfl) ln).1.symm
@[simp] theorem State.repair_lineAt_stuck (s : State) (kind source unit loc : Nat) (ln : Nat) : ((State.repair s kind source unit loc).lineAt ln).stuck = (s.lineAt ln).stuck := (((State.repair_frame s kind source unit loc).1 .lnState rfl) ln).2.1.symm
@[simp] theorem State.repair_lineAt_badStage (s : State) (kind source unit loc : Nat) (ln : Nat) : ((State.repair s kind source unit loc).lineAt ln).badStage = (s.lineAt ln).badStage := (((State.repair_frame s kind source unit loc).1 .lnState rfl) ln).2.2.symm
@[simp] theorem State.repair_lineAt_optics (s : State) (kind source unit loc : Nat) (ln : Nat) : ((State.repair s kind source unit loc).lineAt ln).optics = (s.lineAt ln).optics := (((State.repair_frame s kind source unit loc).1 .lnOptics rfl) ln).1.symm
@[simp] theorem State.repair_lineAt_optSince (s : State) (kind source unit loc : Nat) (ln : Nat) : ((State.repair s kind source unit loc).lineAt ln).optSince = (s.lineAt ln).optSince := (((State.repair_frame s kind source unit loc).1 .lnOptics rfl) ln).2.symm
@[simp] theorem State.repair_hostAt_rest (s : State) (kind source unit loc : Nat) (hn : Nat) : ((State.repair s kind source unit loc).hostAt hn).rest = (s.hostAt hn).rest := (((State.repair_frame s kind source unit loc).1 .hostRest rfl) hn).symm
@[simp] theorem State.repair_hostAt (s : State) (kind source unit loc : Nat) (hn : Nat) : (State.repair s kind source unit loc).hostAt hn = s.hostAt hn := (((State.repair_frame s kind source unit loc).1 .hostTx rfl) hn).symm

theorem State.appendEntry_frame (s : State) (e : RepairEntry) : Keep 0x1000000300 s (State.appendEntry s e) := State.appendEntry_keep s e rfl (Keep.refl _ _)
@[simp] theorem State.appendEntry_pending (s : State) (e : RepairEntry) : (State.appendEntry s e).pending = s.pending := ((State.appendEntry_frame s e).1 .pending rfl).symm
@[simp] theorem State.appendEntry_free (s : State) (e : RepairEntry) : (State.appendEntry s e).free = s.free := ((State.appendEntry_frame s e).1 .free rfl).symm
@[simp] theorem State.appendEntry_fuses (s : State) (e : RepairEntry) : (State.appendEntry s e).fuses = s.fuses := ((State.appendEntry_frame s e).1 .fuses rfl).symm
@[simp] theorem State.appendEntry_shut (s : State) (e : RepairEntry) : (State.appendEntry s e).shut = s.shut := ((State.appendEntry_frame s e).1 .shut rfl).symm
@[simp] theorem State.appendEntry_mb (s : State) (e : RepairEntry) : (State.appendEntry s e).mb = s.mb := ((State.appendEntry_frame s e).1 .mb rfl).symm
@[simp] theorem State.appendEntry_ev_urgent (s : State) (e : RepairEntry) : (State.appendEntry s e).ev.urgent = s.ev.urgent := ((State.appendEntry_frame s e).1 .evUrgent rfl).symm
@[simp] theorem State.appendEntry_icu (s : State) (e : RepairEntry) : (State.appendEntry s e).icu = s.icu := ((State.appendEntry_frame s e).1 .icu rfl).symm
@[simp] theorem State.appendEntry_hif_l1 (s : State) (e : RepairEntry) : (State.appendEntry s e).hif.l1 = s.hif.l1 := ((State.appendEntry_frame s e).1 .hifL1 rfl).symm
@[simp] theorem State.appendEntry_err (s : State) (e : RepairEntry) : (State.appendEntry s e).err = s.err := ((State.appendEntry_frame s e).1 .err rfl).symm
@[simp] theorem State.appendEntry_tku (s : State) (e : RepairEntry) : (State.appendEntry s e).tku = s.tku := ((State.appendEntry_frame s e).1 .tku rfl).symm
@[simp] theorem State.appendEntry_params (s : State) (e : RepairEntry) : (State.appendEntry s e).params = s.params := ((State.appendEntry_frame s e).1 .params rfl).symm
@[simp] theorem State.appendEntry_stats (s : State) (e : RepairEntry) : (State.appendEntry s e).stats = s.stats := ((State.appendEntry_frame s e).1 .stats rfl).symm
@[simp] theorem State.appendEntry_group (s : State) (e : RepairEntry) : (State.appendEntry s e).group = s.group := ((State.appendEntry_frame s e).1 .group rfl).symm
@[simp] theorem State.appendEntry_port (s : State) (e : RepairEntry) : (State.appendEntry s e).port = s.port := ((State.appendEntry_frame s e).1 .port rfl).symm
@[simp] theorem State.appendEntry_block (s : State) (e : RepairEntry) : (State.appendEntry s e).block = s.block := ((State.appendEntry_frame s e).1 .block rfl).symm
@[simp] theorem State.appendEntry_eng (s : State) (e : RepairEntry) : (State.appendEntry s e).eng = s.eng := ((State.appendEntry_frame s e).1 .eng rfl).symm
@[simp] theorem State.appendEntry_hinge (s : State) (e : RepairEntry) : (State.appendEntry s e).hinge = s.hinge := ((State.appendEntry_frame s e).1 .hinge rfl).symm
@[simp] theorem State.appendEntry_lex (s : State) (e : RepairEntry) : (State.appendEntry s e).lex = s.lex := ((State.appendEntry_frame s e).1 .lex rfl).symm
@[simp] theorem State.appendEntry_mem_data (s : State) (e : RepairEntry) : (State.appendEntry s e).mem.data = s.mem.data := ((State.appendEntry_frame s e).1 .memData rfl).symm
@[simp] theorem State.appendEntry_ocu (s : State) (e : RepairEntry) : (State.appendEntry s e).ocu = s.ocu := ((State.appendEntry_frame s e).1 .ocu rfl).symm
@[simp] theorem State.appendEntry_cal (s : State) (e : RepairEntry) : (State.appendEntry s e).cal = s.cal := ((State.appendEntry_frame s e).1 .cal rfl).symm
@[simp] theorem State.appendEntry_thm (s : State) (e : RepairEntry) : (State.appendEntry s e).thm = s.thm := ((State.appendEntry_frame s e).1 .thm rfl).symm
@[simp] theorem State.appendEntry_tst (s : State) (e : RepairEntry) : (State.appendEntry s e).tst = s.tst := ((State.appendEntry_frame s e).1 .tst rfl).symm
@[simp] theorem State.appendEntry_pmc_ctr (s : State) (e : RepairEntry) : (State.appendEntry s e).pmc.ctr = s.pmc.ctr := ((State.appendEntry_frame s e).1 .pmcCtr rfl).symm
@[simp] theorem State.appendEntry_pwr (s : State) (e : RepairEntry) : (State.appendEntry s e).pwr = s.pwr := ((State.appendEntry_frame s e).1 .pwr rfl).symm
@[simp] theorem State.appendEntry_fw (s : State) (e : RepairEntry) : (State.appendEntry s e).fw = s.fw := ((State.appendEntry_frame s e).1 .fw rfl).symm
@[simp] theorem State.appendEntry_cap (s : State) (e : RepairEntry) : (State.appendEntry s e).cap = s.cap := ((State.appendEntry_frame s e).1 .cap rfl).symm
@[simp] theorem State.appendEntry_dev_busRead (s : State) (e : RepairEntry) : (State.appendEntry s e).dev.busRead = s.dev.busRead := ((State.appendEntry_frame s e).1 .devBus rfl).symm
@[simp] theorem State.appendEntry_dev_rest (s : State) (e : RepairEntry) : (State.appendEntry s e).dev.rest = s.dev.rest := ((State.appendEntry_frame s e).1 .devRest rfl).symm
@[simp] theorem State.appendEntry_hif_rest (s : State) (e : RepairEntry) : (State.appendEntry s e).hif.rest = s.hif.rest := ((State.appendEntry_frame s e).1 .hifRest rfl).symm
@[simp] theorem State.appendEntry_mem_rest (s : State) (e : RepairEntry) : (State.appendEntry s e).mem.rest = s.mem.rest := ((State.appendEntry_frame s e).1 .memRest rfl).symm
@[simp] theorem State.appendEntry_pmc_rest (s : State) (e : RepairEntry) : (State.appendEntry s e).pmc.rest = s.pmc.rest := ((State.appendEntry_frame s e).1 .pmcRest rfl).symm
@[simp] theorem State.appendEntry_dev_mode (s : State) (e : RepairEntry) : (State.appendEntry s e).dev.mode = s.dev.mode := ((State.appendEntry_frame s e).1 .devMode rfl).1.symm
@[simp] theorem State.appendEntry_dev_guard (s : State) (e : RepairEntry) : (State.appendEntry s e).dev.guard = s.dev.guard := ((State.appendEntry_frame s e).1 .devMode rfl).2.1.symm
@[simp] theorem State.appendEntry_dev_guardSince (s : State) (e : RepairEntry) : (State.appendEntry s e).dev.guardSince = s.dev.guardSince := ((State.appendEntry_frame s e).1 .devMode rfl).2.2.symm
@[simp] theorem State.appendEntry_lineAt_lrx_rest (s : State) (e : RepairEntry) (ln : Nat) : ((State.appendEntry s e).lineAt ln).lrx.rest = (s.lineAt ln).lrx.rest := (((State.appendEntry_frame s e).1 .lnRx rfl) ln).symm
@[simp] theorem State.appendEntry_lineAt_lrx (s : State) (e : RepairEntry) (ln : Nat) : ((State.appendEntry s e).lineAt ln).lrx = (s.lineAt ln).lrx := (((State.appendEntry_frame s e).1 .lnRxPower rfl) ln).symm
@[simp] theorem State.appendEntry_lineAt_sea (s : State) (e : RepairEntry) (ln : Nat) : ((State.appendEntry s e).lineAt ln).sea = (s.lineAt ln).sea := (((State.appendEntry_frame s e).1 .lnSea rfl) ln).symm
@[simp] theorem State.appendEntry_lineAt_sdf (s : State) (e : RepairEntry) (ln : Nat) : ((State.appendEntry s e).lineAt ln).sdf = (s.lineAt ln).sdf := (((State.appendEntry_frame s e).1 .lnSdf rfl) ln).symm
@[simp] theorem State.appendEntry_lineAt_ltx (s : State) (e : RepairEntry) (ln : Nat) : ((State.appendEntry s e).lineAt ln).ltx = (s.lineAt ln).ltx := (((State.appendEntry_frame s e).1 .lnLtx rfl) ln).symm
@[simp] theorem State.appendEntry_lineAt_plt (s : State) (e : RepairEntry) (ln : Nat) : ((State.appendEntry s e).lineAt ln).plt = (s.lineAt ln).plt := (((State.appendEntry_frame s e).1 .lnPlt rfl) ln).symm
@[simp] theorem State.appendEntry_lineAt_state (s : State) (e : RepairEntry) (ln : Nat) : ((State.appendEntry s e).lineAt ln).state = (s.lineAt ln).state := (((State.appendEntry_frame s e).1 .lnState rfl) ln).1.symm
@[simp] theorem State.appendEntry_lineAt_stuck (s : State) (e : RepairEntry) (ln : Nat) : ((State.appendEntry s e).lineAt ln).stuck = (s.lineAt ln).stuck := (((State.appendEntry_frame s e).1 .lnState rfl) ln).2.1.symm
@[simp] theorem State.appendEntry_lineAt_badStage (s : State) (e : RepairEntry) (ln : Nat) : ((State.appendEntry s e).lineAt ln).badStage = (s.lineAt ln).badStage := (((State.appendEntry_frame s e).1 .lnState rfl) ln).2.2.symm
@[simp] theorem State.appendEntry_lineAt_optics (s : State) (e : RepairEntry) (ln : Nat) : ((State.appendEntry s e).lineAt ln).optics = (s.lineAt ln).optics := (((State.appendEntry_frame s e).1 .lnOptics rfl) ln).1.symm
@[simp] theorem State.appendEntry_lineAt_optSince (s : State) (e : RepairEntry) (ln : Nat) : ((State.appendEntry s e).lineAt ln).optSince = (s.lineAt ln).optSince := (((State.appendEntry_frame s e).1 .lnOptics rfl) ln).2.symm
@[simp] theorem State.appendEntry_hostAt_rest (s : State) (e : RepairEntry) (hn : Nat) : ((State.appendEntry s e).hostAt hn).rest = (s.hostAt hn).rest := (((State.appendEntry_frame s e).1 .hostRest rfl) hn).symm
@[simp] theorem State.appendEntry_hostAt (s : State) (e : RepairEntry) (hn : Nat) : (State.appendEntry s e).hostAt hn = s.hostAt hn := (((State.appendEntry_frame s e).1 .hostTx rfl) hn).symm

theorem State.countYield_frame (s : State) (rank kept : Nat) : Keep 0x10000000000 s (State.countYield s rank kept) := State.countYield_keep s rank kept rfl (Keep.refl _ _)
@[simp] theorem State.countYield_pending (s : State) (rank kept : Nat) : (State.countYield s rank kept).pending = s.pending := ((State.countYield_frame s rank kept).1 .pending rfl).symm
@[simp] theorem State.countYield_free (s : State) (rank kept : Nat) : (State.countYield s rank kept).free = s.free := ((State.countYield_frame s rank kept).1 .free rfl).symm
@[simp] theorem State.countYield_fuses (s : State) (rank kept : Nat) : (State.countYield s rank kept).fuses = s.fuses := ((State.countYield_frame s rank kept).1 .fuses rfl).symm
@[simp] theorem State.countYield_shut (s : State) (rank kept : Nat) : (State.countYield s rank kept).shut = s.shut := ((State.countYield_frame s rank kept).1 .shut rfl).symm
@[simp] theorem State.countYield_mb (s : State) (rank kept : Nat) : (State.countYield s rank kept).mb = s.mb := ((State.countYield_frame s rank kept).1 .mb rfl).symm
@[simp] theorem State.countYield_ev_raised (s : State) (rank kept : Nat) : (State.countYield s rank kept).ev.raised = s.ev.raised := ((State.countYield_frame s rank kept).1 .evRaised rfl).symm
@[simp] theorem State.countYield_ev_queue (s : State) (rank kept : Nat) : (State.countYield s rank kept).ev.queue = s.ev.queue := ((State.countYield_frame s rank kept).1 .evQueue rfl).symm
@[simp] theorem State.countYield_ev_urgent (s : State) (rank kept : Nat) : (State.countYield s rank kept).ev.urgent = s.ev.urgent := ((State.countYield_frame s rank kept).1 .evUrgent rfl).symm
@[simp] theorem State.countYield_icu (s : State) (rank kept : Nat) : (State.countYield s rank kept).icu = s.icu := ((State.countYield_frame s rank kept).1 .icu rfl).symm
@[simp] theorem State.countYield_hif_l1 (s : State) (rank kept : Nat) : (State.countYield s rank kept).hif.l1 = s.hif.l1 := ((State.countYield_frame s rank kept).1 .hifL1 rfl).symm
@[simp] theorem State.countYield_err (s : State) (rank kept : Nat) : (State.countYield s rank kept).err = s.err := ((State.countYield_frame s rank kept).1 .err rfl).symm
@[simp] theorem State.countYield_tku (s : State) (rank kept : Nat) : (State.countYield s rank kept).tku = s.tku := ((State.countYield_frame s rank kept).1 .tku rfl).symm
@[simp] theorem State.countYield_params (s : State) (rank kept : Nat) : (State.countYield s rank kept).params = s.params := ((State.countYield_frame s rank kept).1 .params rfl).symm
@[simp] theorem State.countYield_stats (s : State) (rank kept : Nat) : (State.countYield s rank kept).stats = s.stats := ((State.countYield_frame s rank kept).1 .stats rfl).symm
@[simp] theorem State.countYield_group (s : State) (rank kept : Nat) : (State.countYield s rank kept).group = s.group := ((State.countYield_frame s rank kept).1 .group rfl).symm
@[simp] theorem State.countYield_port (s : State) (rank kept : Nat) : (State.countYield s rank kept).port = s.port := ((State.countYield_frame s rank kept).1 .port rfl).symm
@[simp] theorem State.countYield_block (s : State) (rank kept : Nat) : (State.countYield s rank kept).block = s.block := ((State.countYield_frame s rank kept).1 .block rfl).symm
@[simp] theorem State.countYield_eng (s : State) (rank kept : Nat) : (State.countYield s rank kept).eng = s.eng := ((State.countYield_frame s rank kept).1 .eng rfl).symm
@[simp] theorem State.countYield_hinge (s : State) (rank kept : Nat) : (State.countYield s rank kept).hinge = s.hinge := ((State.countYield_frame s rank kept).1 .hinge rfl).symm
@[simp] theorem State.countYield_lex (s : State) (rank kept : Nat) : (State.countYield s rank kept).lex = s.lex := ((State.countYield_frame s rank kept).1 .lex rfl).symm
@[simp] theorem State.countYield_mem_data (s : State) (rank kept : Nat) : (State.countYield s rank kept).mem.data = s.mem.data := ((State.countYield_frame s rank kept).1 .memData rfl).symm
@[simp] theorem State.countYield_rep (s : State) (rank kept : Nat) : (State.countYield s rank kept).rep = s.rep := ((State.countYield_frame s rank kept).1 .rep rfl).symm
@[simp] theorem State.countYield_ocu (s : State) (rank kept : Nat) : (State.countYield s rank kept).ocu = s.ocu := ((State.countYield_frame s rank kept).1 .ocu rfl).symm
@[simp] theorem State.countYield_cal (s : State) (rank kept : Nat) : (State.countYield s rank kept).cal = s.cal := ((State.countYield_frame s rank kept).1 .cal rfl).symm
@[simp] theorem State.countYield_thm (s : State) (rank kept : Nat) : (State.countYield s rank kept).thm = s.thm := ((State.countYield_frame s rank kept).1 .thm rfl).symm
@[simp] theorem State.countYield_pmc_ctr (s : State) (rank kept : Nat) : (State.countYield s rank kept).pmc.ctr = s.pmc.ctr := ((State.countYield_frame s rank kept).1 .pmcCtr rfl).symm
@[simp] theorem State.countYield_pwr (s : State) (rank kept : Nat) : (State.countYield s rank kept).pwr = s.pwr := ((State.countYield_frame s rank kept).1 .pwr rfl).symm
@[simp] theorem State.countYield_fw (s : State) (rank kept : Nat) : (State.countYield s rank kept).fw = s.fw := ((State.countYield_frame s rank kept).1 .fw rfl).symm
@[simp] theorem State.countYield_cap (s : State) (rank kept : Nat) : (State.countYield s rank kept).cap = s.cap := ((State.countYield_frame s rank kept).1 .cap rfl).symm
@[simp] theorem State.countYield_dev_busRead (s : State) (rank kept : Nat) : (State.countYield s rank kept).dev.busRead = s.dev.busRead := ((State.countYield_frame s rank kept).1 .devBus rfl).symm
@[simp] theorem State.countYield_dev_rest (s : State) (rank kept : Nat) : (State.countYield s rank kept).dev.rest = s.dev.rest := ((State.countYield_frame s rank kept).1 .devRest rfl).symm
@[simp] theorem State.countYield_hif_rest (s : State) (rank kept : Nat) : (State.countYield s rank kept).hif.rest = s.hif.rest := ((State.countYield_frame s rank kept).1 .hifRest rfl).symm
@[simp] theorem State.countYield_mem_rest (s : State) (rank kept : Nat) : (State.countYield s rank kept).mem.rest = s.mem.rest := ((State.countYield_frame s rank kept).1 .memRest rfl).symm
@[simp] theorem State.countYield_pmc_rest (s : State) (rank kept : Nat) : (State.countYield s rank kept).pmc.rest = s.pmc.rest := ((State.countYield_frame s rank kept).1 .pmcRest rfl).symm
@[simp] theorem State.countYield_dev_mode (s : State) (rank kept : Nat) : (State.countYield s rank kept).dev.mode = s.dev.mode := ((State.countYield_frame s rank kept).1 .devMode rfl).1.symm
@[simp] theorem State.countYield_dev_guard (s : State) (rank kept : Nat) : (State.countYield s rank kept).dev.guard = s.dev.guard := ((State.countYield_frame s rank kept).1 .devMode rfl).2.1.symm
@[simp] theorem State.countYield_dev_guardSince (s : State) (rank kept : Nat) : (State.countYield s rank kept).dev.guardSince = s.dev.guardSince := ((State.countYield_frame s rank kept).1 .devMode rfl).2.2.symm
@[simp] theorem State.countYield_lineAt_lrx_rest (s : State) (rank kept : Nat) (ln : Nat) : ((State.countYield s rank kept).lineAt ln).lrx.rest = (s.lineAt ln).lrx.rest := (((State.countYield_frame s rank kept).1 .lnRx rfl) ln).symm
@[simp] theorem State.countYield_lineAt_lrx (s : State) (rank kept : Nat) (ln : Nat) : ((State.countYield s rank kept).lineAt ln).lrx = (s.lineAt ln).lrx := (((State.countYield_frame s rank kept).1 .lnRxPower rfl) ln).symm
@[simp] theorem State.countYield_lineAt_sea (s : State) (rank kept : Nat) (ln : Nat) : ((State.countYield s rank kept).lineAt ln).sea = (s.lineAt ln).sea := (((State.countYield_frame s rank kept).1 .lnSea rfl) ln).symm
@[simp] theorem State.countYield_lineAt_sdf (s : State) (rank kept : Nat) (ln : Nat) : ((State.countYield s rank kept).lineAt ln).sdf = (s.lineAt ln).sdf := (((State.countYield_frame s rank kept).1 .lnSdf rfl) ln).symm
@[simp] theorem State.countYield_lineAt_ltx (s : State) (rank kept : Nat) (ln : Nat) : ((State.countYield s rank kept).lineAt ln).ltx = (s.lineAt ln).ltx := (((State.countYield_frame s rank kept).1 .lnLtx rfl) ln).symm
@[simp] theorem State.countYield_lineAt_plt (s : State) (rank kept : Nat) (ln : Nat) : ((State.countYield s rank kept).lineAt ln).plt = (s.lineAt ln).plt := (((State.countYield_frame s rank kept).1 .lnPlt rfl) ln).symm
@[simp] theorem State.countYield_lineAt_state (s : State) (rank kept : Nat) (ln : Nat) : ((State.countYield s rank kept).lineAt ln).state = (s.lineAt ln).state := (((State.countYield_frame s rank kept).1 .lnState rfl) ln).1.symm
@[simp] theorem State.countYield_lineAt_stuck (s : State) (rank kept : Nat) (ln : Nat) : ((State.countYield s rank kept).lineAt ln).stuck = (s.lineAt ln).stuck := (((State.countYield_frame s rank kept).1 .lnState rfl) ln).2.1.symm
@[simp] theorem State.countYield_lineAt_badStage (s : State) (rank kept : Nat) (ln : Nat) : ((State.countYield s rank kept).lineAt ln).badStage = (s.lineAt ln).badStage := (((State.countYield_frame s rank kept).1 .lnState rfl) ln).2.2.symm
@[simp] theorem State.countYield_lineAt_optics (s : State) (rank kept : Nat) (ln : Nat) : ((State.countYield s rank kept).lineAt ln).optics = (s.lineAt ln).optics := (((State.countYield_frame s rank kept).1 .lnOptics rfl) ln).1.symm
@[simp] theorem State.countYield_lineAt_optSince (s : State) (rank kept : Nat) (ln : Nat) : ((State.countYield s rank kept).lineAt ln).optSince = (s.lineAt ln).optSince := (((State.countYield_frame s rank kept).1 .lnOptics rfl) ln).2.symm
@[simp] theorem State.countYield_hostAt_rest (s : State) (rank kept : Nat) (hn : Nat) : ((State.countYield s rank kept).hostAt hn).rest = (s.hostAt hn).rest := (((State.countYield_frame s rank kept).1 .hostRest rfl) hn).symm
@[simp] theorem State.countYield_hostAt (s : State) (rank kept : Nat) (hn : Nat) : (State.countYield s rank kept).hostAt hn = s.hostAt hn := (((State.countYield_frame s rank kept).1 .hostTx rfl) hn).symm

theorem State.sync_frame (s : State) : Keep 0x2201b905b08 s (State.sync s) := State.sync_keep s rfl (Keep.refl _ _)
@[simp] theorem State.sync_pending (s : State) : (State.sync s).pending = s.pending := ((State.sync_frame s).1 .pending rfl).symm
@[simp] theorem State.sync_free (s : State) : (State.sync s).free = s.free := ((State.sync_frame s).1 .free rfl).symm
@[simp] theorem State.sync_fuses (s : State) : (State.sync s).fuses = s.fuses := ((State.sync_frame s).1 .fuses rfl).symm
@[simp] theorem State.sync_shut (s : State) : (State.sync s).shut = s.shut := ((State.sync_frame s).1 .shut rfl).symm
@[simp] theorem State.sync_mb (s : State) : (State.sync s).mb = s.mb := ((State.sync_frame s).1 .mb rfl).symm
@[simp] theorem State.sync_ev_urgent (s : State) : (State.sync s).ev.urgent = s.ev.urgent := ((State.sync_frame s).1 .evUrgent rfl).symm
@[simp] theorem State.sync_tku (s : State) : (State.sync s).tku = s.tku := ((State.sync_frame s).1 .tku rfl).symm
@[simp] theorem State.sync_params (s : State) : (State.sync s).params = s.params := ((State.sync_frame s).1 .params rfl).symm
@[simp] theorem State.sync_stats (s : State) : (State.sync s).stats = s.stats := ((State.sync_frame s).1 .stats rfl).symm
@[simp] theorem State.sync_port (s : State) : (State.sync s).port = s.port := ((State.sync_frame s).1 .port rfl).symm
@[simp] theorem State.sync_block (s : State) : (State.sync s).block = s.block := ((State.sync_frame s).1 .block rfl).symm
@[simp] theorem State.sync_eng (s : State) : (State.sync s).eng = s.eng := ((State.sync_frame s).1 .eng rfl).symm
@[simp] theorem State.sync_hinge (s : State) : (State.sync s).hinge = s.hinge := ((State.sync_frame s).1 .hinge rfl).symm
@[simp] theorem State.sync_lex (s : State) : (State.sync s).lex = s.lex := ((State.sync_frame s).1 .lex rfl).symm
@[simp] theorem State.sync_mem_data (s : State) : (State.sync s).mem.data = s.mem.data := ((State.sync_frame s).1 .memData rfl).symm
@[simp] theorem State.sync_rep (s : State) : (State.sync s).rep = s.rep := ((State.sync_frame s).1 .rep rfl).symm
@[simp] theorem State.sync_cal (s : State) : (State.sync s).cal = s.cal := ((State.sync_frame s).1 .cal rfl).symm
@[simp] theorem State.sync_thm (s : State) : (State.sync s).thm = s.thm := ((State.sync_frame s).1 .thm rfl).symm
@[simp] theorem State.sync_tst (s : State) : (State.sync s).tst = s.tst := ((State.sync_frame s).1 .tst rfl).symm
@[simp] theorem State.sync_pwr (s : State) : (State.sync s).pwr = s.pwr := ((State.sync_frame s).1 .pwr rfl).symm
@[simp] theorem State.sync_fw (s : State) : (State.sync s).fw = s.fw := ((State.sync_frame s).1 .fw rfl).symm
@[simp] theorem State.sync_cap (s : State) : (State.sync s).cap = s.cap := ((State.sync_frame s).1 .cap rfl).symm
@[simp] theorem State.sync_dev_busRead (s : State) : (State.sync s).dev.busRead = s.dev.busRead := ((State.sync_frame s).1 .devBus rfl).symm
@[simp] theorem State.sync_dev_rest (s : State) : (State.sync s).dev.rest = s.dev.rest := ((State.sync_frame s).1 .devRest rfl).symm
@[simp] theorem State.sync_hif_rest (s : State) : (State.sync s).hif.rest = s.hif.rest := ((State.sync_frame s).1 .hifRest rfl).symm
@[simp] theorem State.sync_mem_rest (s : State) : (State.sync s).mem.rest = s.mem.rest := ((State.sync_frame s).1 .memRest rfl).symm
@[simp] theorem State.sync_pmc_rest (s : State) : (State.sync s).pmc.rest = s.pmc.rest := ((State.sync_frame s).1 .pmcRest rfl).symm
@[simp] theorem State.sync_lineAt_lrx_rest (s : State) (ln : Nat) : ((State.sync s).lineAt ln).lrx.rest = (s.lineAt ln).lrx.rest := (((State.sync_frame s).1 .lnRx rfl) ln).symm
@[simp] theorem State.sync_lineAt_sea (s : State) (ln : Nat) : ((State.sync s).lineAt ln).sea = (s.lineAt ln).sea := (((State.sync_frame s).1 .lnSea rfl) ln).symm
@[simp] theorem State.sync_lineAt_sdf (s : State) (ln : Nat) : ((State.sync s).lineAt ln).sdf = (s.lineAt ln).sdf := (((State.sync_frame s).1 .lnSdf rfl) ln).symm
@[simp] theorem State.sync_lineAt_state (s : State) (ln : Nat) : ((State.sync s).lineAt ln).state = (s.lineAt ln).state := (((State.sync_frame s).1 .lnState rfl) ln).1.symm
@[simp] theorem State.sync_lineAt_stuck (s : State) (ln : Nat) : ((State.sync s).lineAt ln).stuck = (s.lineAt ln).stuck := (((State.sync_frame s).1 .lnState rfl) ln).2.1.symm
@[simp] theorem State.sync_lineAt_badStage (s : State) (ln : Nat) : ((State.sync s).lineAt ln).badStage = (s.lineAt ln).badStage := (((State.sync_frame s).1 .lnState rfl) ln).2.2.symm
@[simp] theorem State.sync_hostAt_rest (s : State) (hn : Nat) : ((State.sync s).hostAt hn).rest = (s.hostAt hn).rest := (((State.sync_frame s).1 .hostRest rfl) hn).symm

theorem State.follow_frame (s : State) : Keep 0x2601b905b08 s (State.follow s) := State.follow_keep s rfl (Keep.refl _ _)
@[simp] theorem State.follow_pending (s : State) : (State.follow s).pending = s.pending := ((State.follow_frame s).1 .pending rfl).symm
@[simp] theorem State.follow_free (s : State) : (State.follow s).free = s.free := ((State.follow_frame s).1 .free rfl).symm
@[simp] theorem State.follow_fuses (s : State) : (State.follow s).fuses = s.fuses := ((State.follow_frame s).1 .fuses rfl).symm
@[simp] theorem State.follow_shut (s : State) : (State.follow s).shut = s.shut := ((State.follow_frame s).1 .shut rfl).symm
@[simp] theorem State.follow_mb (s : State) : (State.follow s).mb = s.mb := ((State.follow_frame s).1 .mb rfl).symm
@[simp] theorem State.follow_ev_urgent (s : State) : (State.follow s).ev.urgent = s.ev.urgent := ((State.follow_frame s).1 .evUrgent rfl).symm
@[simp] theorem State.follow_tku (s : State) : (State.follow s).tku = s.tku := ((State.follow_frame s).1 .tku rfl).symm
@[simp] theorem State.follow_params (s : State) : (State.follow s).params = s.params := ((State.follow_frame s).1 .params rfl).symm
@[simp] theorem State.follow_stats (s : State) : (State.follow s).stats = s.stats := ((State.follow_frame s).1 .stats rfl).symm
@[simp] theorem State.follow_port (s : State) : (State.follow s).port = s.port := ((State.follow_frame s).1 .port rfl).symm
@[simp] theorem State.follow_block (s : State) : (State.follow s).block = s.block := ((State.follow_frame s).1 .block rfl).symm
@[simp] theorem State.follow_eng (s : State) : (State.follow s).eng = s.eng := ((State.follow_frame s).1 .eng rfl).symm
@[simp] theorem State.follow_hinge (s : State) : (State.follow s).hinge = s.hinge := ((State.follow_frame s).1 .hinge rfl).symm
@[simp] theorem State.follow_lex (s : State) : (State.follow s).lex = s.lex := ((State.follow_frame s).1 .lex rfl).symm
@[simp] theorem State.follow_mem_data (s : State) : (State.follow s).mem.data = s.mem.data := ((State.follow_frame s).1 .memData rfl).symm
@[simp] theorem State.follow_rep (s : State) : (State.follow s).rep = s.rep := ((State.follow_frame s).1 .rep rfl).symm
@[simp] theorem State.follow_thm (s : State) : (State.follow s).thm = s.thm := ((State.follow_frame s).1 .thm rfl).symm
@[simp] theorem State.follow_tst (s : State) : (State.follow s).tst = s.tst := ((State.follow_frame s).1 .tst rfl).symm
@[simp] theorem State.follow_pwr (s : State) : (State.follow s).pwr = s.pwr := ((State.follow_frame s).1 .pwr rfl).symm
@[simp] theorem State.follow_fw (s : State) : (State.follow s).fw = s.fw := ((State.follow_frame s).1 .fw rfl).symm
@[simp] theorem State.follow_cap (s : State) : (State.follow s).cap = s.cap := ((State.follow_frame s).1 .cap rfl).symm
@[simp] theorem State.follow_dev_busRead (s : State) : (State.follow s).dev.busRead = s.dev.busRead := ((State.follow_frame s).1 .devBus rfl).symm
@[simp] theorem State.follow_dev_rest (s : State) : (State.follow s).dev.rest = s.dev.rest := ((State.follow_frame s).1 .devRest rfl).symm
@[simp] theorem State.follow_hif_rest (s : State) : (State.follow s).hif.rest = s.hif.rest := ((State.follow_frame s).1 .hifRest rfl).symm
@[simp] theorem State.follow_mem_rest (s : State) : (State.follow s).mem.rest = s.mem.rest := ((State.follow_frame s).1 .memRest rfl).symm
@[simp] theorem State.follow_pmc_rest (s : State) : (State.follow s).pmc.rest = s.pmc.rest := ((State.follow_frame s).1 .pmcRest rfl).symm
@[simp] theorem State.follow_lineAt_lrx_rest (s : State) (ln : Nat) : ((State.follow s).lineAt ln).lrx.rest = (s.lineAt ln).lrx.rest := (((State.follow_frame s).1 .lnRx rfl) ln).symm
@[simp] theorem State.follow_lineAt_sea (s : State) (ln : Nat) : ((State.follow s).lineAt ln).sea = (s.lineAt ln).sea := (((State.follow_frame s).1 .lnSea rfl) ln).symm
@[simp] theorem State.follow_lineAt_sdf (s : State) (ln : Nat) : ((State.follow s).lineAt ln).sdf = (s.lineAt ln).sdf := (((State.follow_frame s).1 .lnSdf rfl) ln).symm
@[simp] theorem State.follow_lineAt_state (s : State) (ln : Nat) : ((State.follow s).lineAt ln).state = (s.lineAt ln).state := (((State.follow_frame s).1 .lnState rfl) ln).1.symm
@[simp] theorem State.follow_lineAt_stuck (s : State) (ln : Nat) : ((State.follow s).lineAt ln).stuck = (s.lineAt ln).stuck := (((State.follow_frame s).1 .lnState rfl) ln).2.1.symm
@[simp] theorem State.follow_lineAt_badStage (s : State) (ln : Nat) : ((State.follow s).lineAt ln).badStage = (s.lineAt ln).badStage := (((State.follow_frame s).1 .lnState rfl) ln).2.2.symm
@[simp] theorem State.follow_hostAt_rest (s : State) (hn : Nat) : ((State.follow s).hostAt hn).rest = (s.hostAt hn).rest := (((State.follow_frame s).1 .hostRest rfl) hn).symm

theorem State.calCheck_frame (s : State) : Keep 0x6000100300 s (State.calCheck s) := State.calCheck_keep s rfl (Keep.refl _ _)
@[simp] theorem State.calCheck_pending (s : State) : (State.calCheck s).pending = s.pending := ((State.calCheck_frame s).1 .pending rfl).symm
@[simp] theorem State.calCheck_free (s : State) : (State.calCheck s).free = s.free := ((State.calCheck_frame s).1 .free rfl).symm
@[simp] theorem State.calCheck_fuses (s : State) : (State.calCheck s).fuses = s.fuses := ((State.calCheck_frame s).1 .fuses rfl).symm
@[simp] theorem State.calCheck_shut (s : State) : (State.calCheck s).shut = s.shut := ((State.calCheck_frame s).1 .shut rfl).symm
@[simp] theorem State.calCheck_mb (s : State) : (State.calCheck s).mb = s.mb := ((State.calCheck_frame s).1 .mb rfl).symm
@[simp] theorem State.calCheck_ev_urgent (s : State) : (State.calCheck s).ev.urgent = s.ev.urgent := ((State.calCheck_frame s).1 .evUrgent rfl).symm
@[simp] theorem State.calCheck_icu (s : State) : (State.calCheck s).icu = s.icu := ((State.calCheck_frame s).1 .icu rfl).symm
@[simp] theorem State.calCheck_hif_l1 (s : State) : (State.calCheck s).hif.l1 = s.hif.l1 := ((State.calCheck_frame s).1 .hifL1 rfl).symm
@[simp] theorem State.calCheck_err (s : State) : (State.calCheck s).err = s.err := ((State.calCheck_frame s).1 .err rfl).symm
@[simp] theorem State.calCheck_tku (s : State) : (State.calCheck s).tku = s.tku := ((State.calCheck_frame s).1 .tku rfl).symm
@[simp] theorem State.calCheck_params (s : State) : (State.calCheck s).params = s.params := ((State.calCheck_frame s).1 .params rfl).symm
@[simp] theorem State.calCheck_stats (s : State) : (State.calCheck s).stats = s.stats := ((State.calCheck_frame s).1 .stats rfl).symm
@[simp] theorem State.calCheck_group (s : State) : (State.calCheck s).group = s.group := ((State.calCheck_frame s).1 .group rfl).symm
@[simp] theorem State.calCheck_port (s : State) : (State.calCheck s).port = s.port := ((State.calCheck_frame s).1 .port rfl).symm
@[simp] theorem State.calCheck_block (s : State) : (State.calCheck s).block = s.block := ((State.calCheck_frame s).1 .block rfl).symm
@[simp] theorem State.calCheck_eng (s : State) : (State.calCheck s).eng = s.eng := ((State.calCheck_frame s).1 .eng rfl).symm
@[simp] theorem State.calCheck_hinge (s : State) : (State.calCheck s).hinge = s.hinge := ((State.calCheck_frame s).1 .hinge rfl).symm
@[simp] theorem State.calCheck_lex (s : State) : (State.calCheck s).lex = s.lex := ((State.calCheck_frame s).1 .lex rfl).symm
@[simp] theorem State.calCheck_mem_data (s : State) : (State.calCheck s).mem.data = s.mem.data := ((State.calCheck_frame s).1 .memData rfl).symm
@[simp] theorem State.calCheck_rep (s : State) : (State.calCheck s).rep = s.rep := ((State.calCheck_frame s).1 .rep rfl).symm
@[simp] theorem State.calCheck_thm (s : State) : (State.calCheck s).thm = s.thm := ((State.calCheck_frame s).1 .thm rfl).symm
@[simp] theorem State.calCheck_tst (s : State) : (State.calCheck s).tst = s.tst := ((State.calCheck_frame s).1 .tst rfl).symm
@[simp] theorem State.calCheck_pmc_ctr (s : State) : (State.calCheck s).pmc.ctr = s.pmc.ctr := ((State.calCheck_frame s).1 .pmcCtr rfl).symm
@[simp] theorem State.calCheck_pwr (s : State) : (State.calCheck s).pwr = s.pwr := ((State.calCheck_frame s).1 .pwr rfl).symm
@[simp] theorem State.calCheck_fw (s : State) : (State.calCheck s).fw = s.fw := ((State.calCheck_frame s).1 .fw rfl).symm
@[simp] theorem State.calCheck_cap (s : State) : (State.calCheck s).cap = s.cap := ((State.calCheck_frame s).1 .cap rfl).symm
@[simp] theorem State.calCheck_dev_busRead (s : State) : (State.calCheck s).dev.busRead = s.dev.busRead := ((State.calCheck_frame s).1 .devBus rfl).symm
@[simp] theorem State.calCheck_dev_rest (s : State) : (State.calCheck s).dev.rest = s.dev.rest := ((State.calCheck_frame s).1 .devRest rfl).symm
@[simp] theorem State.calCheck_hif_rest (s : State) : (State.calCheck s).hif.rest = s.hif.rest := ((State.calCheck_frame s).1 .hifRest rfl).symm
@[simp] theorem State.calCheck_mem_rest (s : State) : (State.calCheck s).mem.rest = s.mem.rest := ((State.calCheck_frame s).1 .memRest rfl).symm
@[simp] theorem State.calCheck_pmc_rest (s : State) : (State.calCheck s).pmc.rest = s.pmc.rest := ((State.calCheck_frame s).1 .pmcRest rfl).symm
@[simp] theorem State.calCheck_dev_mode (s : State) : (State.calCheck s).dev.mode = s.dev.mode := ((State.calCheck_frame s).1 .devMode rfl).1.symm
@[simp] theorem State.calCheck_dev_guard (s : State) : (State.calCheck s).dev.guard = s.dev.guard := ((State.calCheck_frame s).1 .devMode rfl).2.1.symm
@[simp] theorem State.calCheck_dev_guardSince (s : State) : (State.calCheck s).dev.guardSince = s.dev.guardSince := ((State.calCheck_frame s).1 .devMode rfl).2.2.symm
@[simp] theorem State.calCheck_lineAt_lrx_rest (s : State) (ln : Nat) : ((State.calCheck s).lineAt ln).lrx.rest = (s.lineAt ln).lrx.rest := (((State.calCheck_frame s).1 .lnRx rfl) ln).symm
@[simp] theorem State.calCheck_lineAt_sea (s : State) (ln : Nat) : ((State.calCheck s).lineAt ln).sea = (s.lineAt ln).sea := (((State.calCheck_frame s).1 .lnSea rfl) ln).symm
@[simp] theorem State.calCheck_lineAt_sdf (s : State) (ln : Nat) : ((State.calCheck s).lineAt ln).sdf = (s.lineAt ln).sdf := (((State.calCheck_frame s).1 .lnSdf rfl) ln).symm
@[simp] theorem State.calCheck_lineAt_ltx (s : State) (ln : Nat) : ((State.calCheck s).lineAt ln).ltx = (s.lineAt ln).ltx := (((State.calCheck_frame s).1 .lnLtx rfl) ln).symm
@[simp] theorem State.calCheck_lineAt_plt (s : State) (ln : Nat) : ((State.calCheck s).lineAt ln).plt = (s.lineAt ln).plt := (((State.calCheck_frame s).1 .lnPlt rfl) ln).symm
@[simp] theorem State.calCheck_lineAt_state (s : State) (ln : Nat) : ((State.calCheck s).lineAt ln).state = (s.lineAt ln).state := (((State.calCheck_frame s).1 .lnState rfl) ln).1.symm
@[simp] theorem State.calCheck_lineAt_stuck (s : State) (ln : Nat) : ((State.calCheck s).lineAt ln).stuck = (s.lineAt ln).stuck := (((State.calCheck_frame s).1 .lnState rfl) ln).2.1.symm
@[simp] theorem State.calCheck_lineAt_badStage (s : State) (ln : Nat) : ((State.calCheck s).lineAt ln).badStage = (s.lineAt ln).badStage := (((State.calCheck_frame s).1 .lnState rfl) ln).2.2.symm
@[simp] theorem State.calCheck_lineAt_optics (s : State) (ln : Nat) : ((State.calCheck s).lineAt ln).optics = (s.lineAt ln).optics := (((State.calCheck_frame s).1 .lnOptics rfl) ln).1.symm
@[simp] theorem State.calCheck_lineAt_optSince (s : State) (ln : Nat) : ((State.calCheck s).lineAt ln).optSince = (s.lineAt ln).optSince := (((State.calCheck_frame s).1 .lnOptics rfl) ln).2.symm
@[simp] theorem State.calCheck_hostAt_rest (s : State) (hn : Nat) : ((State.calCheck s).hostAt hn).rest = (s.hostAt hn).rest := (((State.calCheck_frame s).1 .hostRest rfl) hn).symm
@[simp] theorem State.calCheck_hostAt (s : State) (hn : Nat) : (State.calCheck s).hostAt hn = s.hostAt hn := (((State.calCheck_frame s).1 .hostTx rfl) hn).symm

theorem State.flushLost_frame (s : State) (r : Requester) : Keep 0x20000000300 s (State.flushLost s r) := State.flushLost_keep s r rfl (Keep.refl _ _)
@[simp] theorem State.flushLost_pending (s : State) (r : Requester) : (State.flushLost s r).pending = s.pending := ((State.flushLost_frame s r).1 .pending rfl).symm
@[simp] theorem State.flushLost_free (s : State) (r : Requester) : (State.flushLost s r).free = s.free := ((State.flushLost_frame s r).1 .free rfl).symm
@[simp] theorem State.flushLost_fuses (s : State) (r : Requester) : (State.flushLost s r).fuses = s.fuses := ((State.flushLost_frame s r).1 .fuses rfl).symm
@[simp] theorem State.flushLost_shut (s : State) (r : Requester) : (State.flushLost s r).shut = s.shut := ((State.flushLost_frame s r).1 .shut rfl).symm
@[simp] theorem State.flushLost_mb (s : State) (r : Requester) : (State.flushLost s r).mb = s.mb := ((State.flushLost_frame s r).1 .mb rfl).symm
@[simp] theorem State.flushLost_ev_urgent (s : State) (r : Requester) : (State.flushLost s r).ev.urgent = s.ev.urgent := ((State.flushLost_frame s r).1 .evUrgent rfl).symm
@[simp] theorem State.flushLost_icu (s : State) (r : Requester) : (State.flushLost s r).icu = s.icu := ((State.flushLost_frame s r).1 .icu rfl).symm
@[simp] theorem State.flushLost_hif_l1 (s : State) (r : Requester) : (State.flushLost s r).hif.l1 = s.hif.l1 := ((State.flushLost_frame s r).1 .hifL1 rfl).symm
@[simp] theorem State.flushLost_err (s : State) (r : Requester) : (State.flushLost s r).err = s.err := ((State.flushLost_frame s r).1 .err rfl).symm
@[simp] theorem State.flushLost_tku (s : State) (r : Requester) : (State.flushLost s r).tku = s.tku := ((State.flushLost_frame s r).1 .tku rfl).symm
@[simp] theorem State.flushLost_params (s : State) (r : Requester) : (State.flushLost s r).params = s.params := ((State.flushLost_frame s r).1 .params rfl).symm
@[simp] theorem State.flushLost_stats (s : State) (r : Requester) : (State.flushLost s r).stats = s.stats := ((State.flushLost_frame s r).1 .stats rfl).symm
@[simp] theorem State.flushLost_group (s : State) (r : Requester) : (State.flushLost s r).group = s.group := ((State.flushLost_frame s r).1 .group rfl).symm
@[simp] theorem State.flushLost_port (s : State) (r : Requester) : (State.flushLost s r).port = s.port := ((State.flushLost_frame s r).1 .port rfl).symm
@[simp] theorem State.flushLost_block (s : State) (r : Requester) : (State.flushLost s r).block = s.block := ((State.flushLost_frame s r).1 .block rfl).symm
@[simp] theorem State.flushLost_eng (s : State) (r : Requester) : (State.flushLost s r).eng = s.eng := ((State.flushLost_frame s r).1 .eng rfl).symm
@[simp] theorem State.flushLost_hinge (s : State) (r : Requester) : (State.flushLost s r).hinge = s.hinge := ((State.flushLost_frame s r).1 .hinge rfl).symm
@[simp] theorem State.flushLost_lex (s : State) (r : Requester) : (State.flushLost s r).lex = s.lex := ((State.flushLost_frame s r).1 .lex rfl).symm
@[simp] theorem State.flushLost_mem_data (s : State) (r : Requester) : (State.flushLost s r).mem.data = s.mem.data := ((State.flushLost_frame s r).1 .memData rfl).symm
@[simp] theorem State.flushLost_rep (s : State) (r : Requester) : (State.flushLost s r).rep = s.rep := ((State.flushLost_frame s r).1 .rep rfl).symm
@[simp] theorem State.flushLost_ocu (s : State) (r : Requester) : (State.flushLost s r).ocu = s.ocu := ((State.flushLost_frame s r).1 .ocu rfl).symm
@[simp] theorem State.flushLost_cal (s : State) (r : Requester) : (State.flushLost s r).cal = s.cal := ((State.flushLost_frame s r).1 .cal rfl).symm
@[simp] theorem State.flushLost_thm (s : State) (r : Requester) : (State.flushLost s r).thm = s.thm := ((State.flushLost_frame s r).1 .thm rfl).symm
@[simp] theorem State.flushLost_tst (s : State) (r : Requester) : (State.flushLost s r).tst = s.tst := ((State.flushLost_frame s r).1 .tst rfl).symm
@[simp] theorem State.flushLost_pwr (s : State) (r : Requester) : (State.flushLost s r).pwr = s.pwr := ((State.flushLost_frame s r).1 .pwr rfl).symm
@[simp] theorem State.flushLost_fw (s : State) (r : Requester) : (State.flushLost s r).fw = s.fw := ((State.flushLost_frame s r).1 .fw rfl).symm
@[simp] theorem State.flushLost_cap (s : State) (r : Requester) : (State.flushLost s r).cap = s.cap := ((State.flushLost_frame s r).1 .cap rfl).symm
@[simp] theorem State.flushLost_dev_busRead (s : State) (r : Requester) : (State.flushLost s r).dev.busRead = s.dev.busRead := ((State.flushLost_frame s r).1 .devBus rfl).symm
@[simp] theorem State.flushLost_dev_rest (s : State) (r : Requester) : (State.flushLost s r).dev.rest = s.dev.rest := ((State.flushLost_frame s r).1 .devRest rfl).symm
@[simp] theorem State.flushLost_hif_rest (s : State) (r : Requester) : (State.flushLost s r).hif.rest = s.hif.rest := ((State.flushLost_frame s r).1 .hifRest rfl).symm
@[simp] theorem State.flushLost_mem_rest (s : State) (r : Requester) : (State.flushLost s r).mem.rest = s.mem.rest := ((State.flushLost_frame s r).1 .memRest rfl).symm
@[simp] theorem State.flushLost_pmc_rest (s : State) (r : Requester) : (State.flushLost s r).pmc.rest = s.pmc.rest := ((State.flushLost_frame s r).1 .pmcRest rfl).symm
@[simp] theorem State.flushLost_dev_mode (s : State) (r : Requester) : (State.flushLost s r).dev.mode = s.dev.mode := ((State.flushLost_frame s r).1 .devMode rfl).1.symm
@[simp] theorem State.flushLost_dev_guard (s : State) (r : Requester) : (State.flushLost s r).dev.guard = s.dev.guard := ((State.flushLost_frame s r).1 .devMode rfl).2.1.symm
@[simp] theorem State.flushLost_dev_guardSince (s : State) (r : Requester) : (State.flushLost s r).dev.guardSince = s.dev.guardSince := ((State.flushLost_frame s r).1 .devMode rfl).2.2.symm
@[simp] theorem State.flushLost_lineAt_lrx_rest (s : State) (r : Requester) (ln : Nat) : ((State.flushLost s r).lineAt ln).lrx.rest = (s.lineAt ln).lrx.rest := (((State.flushLost_frame s r).1 .lnRx rfl) ln).symm
@[simp] theorem State.flushLost_lineAt_lrx (s : State) (r : Requester) (ln : Nat) : ((State.flushLost s r).lineAt ln).lrx = (s.lineAt ln).lrx := (((State.flushLost_frame s r).1 .lnRxPower rfl) ln).symm
@[simp] theorem State.flushLost_lineAt_sea (s : State) (r : Requester) (ln : Nat) : ((State.flushLost s r).lineAt ln).sea = (s.lineAt ln).sea := (((State.flushLost_frame s r).1 .lnSea rfl) ln).symm
@[simp] theorem State.flushLost_lineAt_sdf (s : State) (r : Requester) (ln : Nat) : ((State.flushLost s r).lineAt ln).sdf = (s.lineAt ln).sdf := (((State.flushLost_frame s r).1 .lnSdf rfl) ln).symm
@[simp] theorem State.flushLost_lineAt_ltx (s : State) (r : Requester) (ln : Nat) : ((State.flushLost s r).lineAt ln).ltx = (s.lineAt ln).ltx := (((State.flushLost_frame s r).1 .lnLtx rfl) ln).symm
@[simp] theorem State.flushLost_lineAt_plt (s : State) (r : Requester) (ln : Nat) : ((State.flushLost s r).lineAt ln).plt = (s.lineAt ln).plt := (((State.flushLost_frame s r).1 .lnPlt rfl) ln).symm
@[simp] theorem State.flushLost_lineAt_state (s : State) (r : Requester) (ln : Nat) : ((State.flushLost s r).lineAt ln).state = (s.lineAt ln).state := (((State.flushLost_frame s r).1 .lnState rfl) ln).1.symm
@[simp] theorem State.flushLost_lineAt_stuck (s : State) (r : Requester) (ln : Nat) : ((State.flushLost s r).lineAt ln).stuck = (s.lineAt ln).stuck := (((State.flushLost_frame s r).1 .lnState rfl) ln).2.1.symm
@[simp] theorem State.flushLost_lineAt_badStage (s : State) (r : Requester) (ln : Nat) : ((State.flushLost s r).lineAt ln).badStage = (s.lineAt ln).badStage := (((State.flushLost_frame s r).1 .lnState rfl) ln).2.2.symm
@[simp] theorem State.flushLost_lineAt_optics (s : State) (r : Requester) (ln : Nat) : ((State.flushLost s r).lineAt ln).optics = (s.lineAt ln).optics := (((State.flushLost_frame s r).1 .lnOptics rfl) ln).1.symm
@[simp] theorem State.flushLost_lineAt_optSince (s : State) (r : Requester) (ln : Nat) : ((State.flushLost s r).lineAt ln).optSince = (s.lineAt ln).optSince := (((State.flushLost_frame s r).1 .lnOptics rfl) ln).2.symm
@[simp] theorem State.flushLost_hostAt_rest (s : State) (r : Requester) (hn : Nat) : ((State.flushLost s r).hostAt hn).rest = (s.hostAt hn).rest := (((State.flushLost_frame s r).1 .hostRest rfl) hn).symm
@[simp] theorem State.flushLost_hostAt (s : State) (r : Requester) (hn : Nat) : (State.flushLost s r).hostAt hn = s.hostAt hn := (((State.flushLost_frame s r).1 .hostTx rfl) hn).symm

theorem State.deliverTo_frame (s0 : State) (r : Requester) (e : Ev) : Keep 0x20000004300 s0 (State.deliverTo s0 r e) := State.deliverTo_keep s0 r e rfl (Keep.refl _ _)
@[simp] theorem State.deliverTo_pending (s0 : State) (r : Requester) (e : Ev) : (State.deliverTo s0 r e).pending = s0.pending := ((State.deliverTo_frame s0 r e).1 .pending rfl).symm
@[simp] theorem State.deliverTo_free (s0 : State) (r : Requester) (e : Ev) : (State.deliverTo s0 r e).free = s0.free := ((State.deliverTo_frame s0 r e).1 .free rfl).symm
@[simp] theorem State.deliverTo_fuses (s0 : State) (r : Requester) (e : Ev) : (State.deliverTo s0 r e).fuses = s0.fuses := ((State.deliverTo_frame s0 r e).1 .fuses rfl).symm
@[simp] theorem State.deliverTo_shut (s0 : State) (r : Requester) (e : Ev) : (State.deliverTo s0 r e).shut = s0.shut := ((State.deliverTo_frame s0 r e).1 .shut rfl).symm
@[simp] theorem State.deliverTo_mb (s0 : State) (r : Requester) (e : Ev) : (State.deliverTo s0 r e).mb = s0.mb := ((State.deliverTo_frame s0 r e).1 .mb rfl).symm
@[simp] theorem State.deliverTo_ev_urgent (s0 : State) (r : Requester) (e : Ev) : (State.deliverTo s0 r e).ev.urgent = s0.ev.urgent := ((State.deliverTo_frame s0 r e).1 .evUrgent rfl).symm
@[simp] theorem State.deliverTo_icu (s0 : State) (r : Requester) (e : Ev) : (State.deliverTo s0 r e).icu = s0.icu := ((State.deliverTo_frame s0 r e).1 .icu rfl).symm
@[simp] theorem State.deliverTo_hif_l1 (s0 : State) (r : Requester) (e : Ev) : (State.deliverTo s0 r e).hif.l1 = s0.hif.l1 := ((State.deliverTo_frame s0 r e).1 .hifL1 rfl).symm
@[simp] theorem State.deliverTo_tku (s0 : State) (r : Requester) (e : Ev) : (State.deliverTo s0 r e).tku = s0.tku := ((State.deliverTo_frame s0 r e).1 .tku rfl).symm
@[simp] theorem State.deliverTo_params (s0 : State) (r : Requester) (e : Ev) : (State.deliverTo s0 r e).params = s0.params := ((State.deliverTo_frame s0 r e).1 .params rfl).symm
@[simp] theorem State.deliverTo_stats (s0 : State) (r : Requester) (e : Ev) : (State.deliverTo s0 r e).stats = s0.stats := ((State.deliverTo_frame s0 r e).1 .stats rfl).symm
@[simp] theorem State.deliverTo_group (s0 : State) (r : Requester) (e : Ev) : (State.deliverTo s0 r e).group = s0.group := ((State.deliverTo_frame s0 r e).1 .group rfl).symm
@[simp] theorem State.deliverTo_port (s0 : State) (r : Requester) (e : Ev) : (State.deliverTo s0 r e).port = s0.port := ((State.deliverTo_frame s0 r e).1 .port rfl).symm
@[simp] theorem State.deliverTo_block (s0 : State) (r : Requester) (e : Ev) : (State.deliverTo s0 r e).block = s0.block := ((State.deliverTo_frame s0 r e).1 .block rfl).symm
@[simp] theorem State.deliverTo_eng (s0 : State) (r : Requester) (e : Ev) : (State.deliverTo s0 r e).eng = s0.eng := ((State.deliverTo_frame s0 r e).1 .eng rfl).symm
@[simp] theorem State.deliverTo_hinge (s0 : State) (r : Requester) (e : Ev) : (State.deliverTo s0 r e).hinge = s0.hinge := ((State.deliverTo_frame s0 r e).1 .hinge rfl).symm
@[simp] theorem State.deliverTo_lex (s0 : State) (r : Requester) (e : Ev) : (State.deliverTo s0 r e).lex = s0.lex := ((State.deliverTo_frame s0 r e).1 .lex rfl).symm
@[simp] theorem State.deliverTo_mem_data (s0 : State) (r : Requester) (e : Ev) : (State.deliverTo s0 r e).mem.data = s0.mem.data := ((State.deliverTo_frame s0 r e).1 .memData rfl).symm
@[simp] theorem State.deliverTo_rep (s0 : State) (r : Requester) (e : Ev) : (State.deliverTo s0 r e).rep = s0.rep := ((State.deliverTo_frame s0 r e).1 .rep rfl).symm
@[simp] theorem State.deliverTo_ocu (s0 : State) (r : Requester) (e : Ev) : (State.deliverTo s0 r e).ocu = s0.ocu := ((State.deliverTo_frame s0 r e).1 .ocu rfl).symm
@[simp] theorem State.deliverTo_cal (s0 : State) (r : Requester) (e : Ev) : (State.deliverTo s0 r e).cal = s0.cal := ((State.deliverTo_frame s0 r e).1 .cal rfl).symm
@[simp] theorem State.deliverTo_thm (s0 : State) (r : Requester) (e : Ev) : (State.deliverTo s0 r e).thm = s0.thm := ((State.deliverTo_frame s0 r e).1 .thm rfl).symm
@[simp] theorem State.deliverTo_tst (s0 : State) (r : Requester) (e : Ev) : (State.deliverTo s0 r e).tst = s0.tst := ((State.deliverTo_frame s0 r e).1 .tst rfl).symm
@[simp] theorem State.deliverTo_pwr (s0 : State) (r : Requester) (e : Ev) : (State.deliverTo s0 r e).pwr = s0.pwr := ((State.deliverTo_frame s0 r e).1 .pwr rfl).symm
@[simp] theorem State.deliverTo_fw (s0 : State) (r : Requester) (e : Ev) : (State.deliverTo s0 r e).fw = s0.fw := ((State.deliverTo_frame s0 r e).1 .fw rfl).symm
@[simp] theorem State.deliverTo_cap (s0 : State) (r : Requester) (e : Ev) : (State.deliverTo s0 r e).cap = s0.cap := ((State.deliverTo_frame s0 r e).1 .cap rfl).symm
@[simp] theorem State.deliverTo_dev_busRead (s0 : State) (r : Requester) (e : Ev) : (State.deliverTo s0 r e).dev.busRead = s0.dev.busRead := ((State.deliverTo_frame s0 r e).1 .devBus rfl).symm
@[simp] theorem State.deliverTo_dev_rest (s0 : State) (r : Requester) (e : Ev) : (State.deliverTo s0 r e).dev.rest = s0.dev.rest := ((State.deliverTo_frame s0 r e).1 .devRest rfl).symm
@[simp] theorem State.deliverTo_hif_rest (s0 : State) (r : Requester) (e : Ev) : (State.deliverTo s0 r e).hif.rest = s0.hif.rest := ((State.deliverTo_frame s0 r e).1 .hifRest rfl).symm
@[simp] theorem State.deliverTo_mem_rest (s0 : State) (r : Requester) (e : Ev) : (State.deliverTo s0 r e).mem.rest = s0.mem.rest := ((State.deliverTo_frame s0 r e).1 .memRest rfl).symm
@[simp] theorem State.deliverTo_pmc_rest (s0 : State) (r : Requester) (e : Ev) : (State.deliverTo s0 r e).pmc.rest = s0.pmc.rest := ((State.deliverTo_frame s0 r e).1 .pmcRest rfl).symm
@[simp] theorem State.deliverTo_dev_mode (s0 : State) (r : Requester) (e : Ev) : (State.deliverTo s0 r e).dev.mode = s0.dev.mode := ((State.deliverTo_frame s0 r e).1 .devMode rfl).1.symm
@[simp] theorem State.deliverTo_dev_guard (s0 : State) (r : Requester) (e : Ev) : (State.deliverTo s0 r e).dev.guard = s0.dev.guard := ((State.deliverTo_frame s0 r e).1 .devMode rfl).2.1.symm
@[simp] theorem State.deliverTo_dev_guardSince (s0 : State) (r : Requester) (e : Ev) : (State.deliverTo s0 r e).dev.guardSince = s0.dev.guardSince := ((State.deliverTo_frame s0 r e).1 .devMode rfl).2.2.symm
@[simp] theorem State.deliverTo_lineAt_lrx_rest (s0 : State) (r : Requester) (e : Ev) (ln : Nat) : ((State.deliverTo s0 r e).lineAt ln).lrx.rest = (s0.lineAt ln).lrx.rest := (((State.deliverTo_frame s0 r e).1 .lnRx rfl) ln).symm
@[simp] theorem State.deliverTo_lineAt_lrx (s0 : State) (r : Requester) (e : Ev) (ln : Nat) : ((State.deliverTo s0 r e).lineAt ln).lrx = (s0.lineAt ln).lrx := (((State.deliverTo_frame s0 r e).1 .lnRxPower rfl) ln).symm
@[simp] theorem State.deliverTo_lineAt_sea (s0 : State) (r : Requester) (e : Ev) (ln : Nat) : ((State.deliverTo s0 r e).lineAt ln).sea = (s0.lineAt ln).sea := (((State.deliverTo_frame s0 r e).1 .lnSea rfl) ln).symm
@[simp] theorem State.deliverTo_lineAt_sdf (s0 : State) (r : Requester) (e : Ev) (ln : Nat) : ((State.deliverTo s0 r e).lineAt ln).sdf = (s0.lineAt ln).sdf := (((State.deliverTo_frame s0 r e).1 .lnSdf rfl) ln).symm
@[simp] theorem State.deliverTo_lineAt_ltx (s0 : State) (r : Requester) (e : Ev) (ln : Nat) : ((State.deliverTo s0 r e).lineAt ln).ltx = (s0.lineAt ln).ltx := (((State.deliverTo_frame s0 r e).1 .lnLtx rfl) ln).symm
@[simp] theorem State.deliverTo_lineAt_plt (s0 : State) (r : Requester) (e : Ev) (ln : Nat) : ((State.deliverTo s0 r e).lineAt ln).plt = (s0.lineAt ln).plt := (((State.deliverTo_frame s0 r e).1 .lnPlt rfl) ln).symm
@[simp] theorem State.deliverTo_lineAt_state (s0 : State) (r : Requester) (e : Ev) (ln : Nat) : ((State.deliverTo s0 r e).lineAt ln).state = (s0.lineAt ln).state := (((State.deliverTo_frame s0 r e).1 .lnState rfl) ln).1.symm
@[simp] theorem State.deliverTo_lineAt_stuck (s0 : State) (r : Requester) (e : Ev) (ln : Nat) : ((State.deliverTo s0 r e).lineAt ln).stuck = (s0.lineAt ln).stuck := (((State.deliverTo_frame s0 r e).1 .lnState rfl) ln).2.1.symm
@[simp] theorem State.deliverTo_lineAt_badStage (s0 : State) (r : Requester) (e : Ev) (ln : Nat) : ((State.deliverTo s0 r e).lineAt ln).badStage = (s0.lineAt ln).badStage := (((State.deliverTo_frame s0 r e).1 .lnState rfl) ln).2.2.symm
@[simp] theorem State.deliverTo_lineAt_optics (s0 : State) (r : Requester) (e : Ev) (ln : Nat) : ((State.deliverTo s0 r e).lineAt ln).optics = (s0.lineAt ln).optics := (((State.deliverTo_frame s0 r e).1 .lnOptics rfl) ln).1.symm
@[simp] theorem State.deliverTo_lineAt_optSince (s0 : State) (r : Requester) (e : Ev) (ln : Nat) : ((State.deliverTo s0 r e).lineAt ln).optSince = (s0.lineAt ln).optSince := (((State.deliverTo_frame s0 r e).1 .lnOptics rfl) ln).2.symm
@[simp] theorem State.deliverTo_hostAt_rest (s0 : State) (r : Requester) (e : Ev) (hn : Nat) : ((State.deliverTo s0 r e).hostAt hn).rest = (s0.hostAt hn).rest := (((State.deliverTo_frame s0 r e).1 .hostRest rfl) hn).symm
@[simp] theorem State.deliverTo_hostAt (s0 : State) (r : Requester) (e : Ev) (hn : Nat) : (State.deliverTo s0 r e).hostAt hn = s0.hostAt hn := (((State.deliverTo_frame s0 r e).1 .hostTx rfl) hn).symm

theorem State.dmaDue_frame (s : State) (src sseq addr : Nat) (late flush : Bool) : Keep 0x2000 s (State.dmaDue s src sseq addr late flush) := State.dmaDue_keep s src sseq addr late flush rfl (Keep.refl _ _)
@[simp] theorem State.dmaDue_pending (s : State) (src sseq addr : Nat) (late flush : Bool) : (State.dmaDue s src sseq addr late flush).pending = s.pending := ((State.dmaDue_frame s src sseq addr late flush).1 .pending rfl).symm
@[simp] theorem State.dmaDue_free (s : State) (src sseq addr : Nat) (late flush : Bool) : (State.dmaDue s src sseq addr late flush).free = s.free := ((State.dmaDue_frame s src sseq addr late flush).1 .free rfl).symm
@[simp] theorem State.dmaDue_fuses (s : State) (src sseq addr : Nat) (late flush : Bool) : (State.dmaDue s src sseq addr late flush).fuses = s.fuses := ((State.dmaDue_frame s src sseq addr late flush).1 .fuses rfl).symm
@[simp] theorem State.dmaDue_shut (s : State) (src sseq addr : Nat) (late flush : Bool) : (State.dmaDue s src sseq addr late flush).shut = s.shut := ((State.dmaDue_frame s src sseq addr late flush).1 .shut rfl).symm
@[simp] theorem State.dmaDue_mb (s : State) (src sseq addr : Nat) (late flush : Bool) : (State.dmaDue s src sseq addr late flush).mb = s.mb := ((State.dmaDue_frame s src sseq addr late flush).1 .mb rfl).symm
@[simp] theorem State.dmaDue_ev_raised (s : State) (src sseq addr : Nat) (late flush : Bool) : (State.dmaDue s src sseq addr late flush).ev.raised = s.ev.raised := ((State.dmaDue_frame s src sseq addr late flush).1 .evRaised rfl).symm
@[simp] theorem State.dmaDue_ev_queue (s : State) (src sseq addr : Nat) (late flush : Bool) : (State.dmaDue s src sseq addr late flush).ev.queue = s.ev.queue := ((State.dmaDue_frame s src sseq addr late flush).1 .evQueue rfl).symm
@[simp] theorem State.dmaDue_ev_urgent (s : State) (src sseq addr : Nat) (late flush : Bool) : (State.dmaDue s src sseq addr late flush).ev.urgent = s.ev.urgent := ((State.dmaDue_frame s src sseq addr late flush).1 .evUrgent rfl).symm
@[simp] theorem State.dmaDue_icu (s : State) (src sseq addr : Nat) (late flush : Bool) : (State.dmaDue s src sseq addr late flush).icu = s.icu := ((State.dmaDue_frame s src sseq addr late flush).1 .icu rfl).symm
@[simp] theorem State.dmaDue_hif_l1 (s : State) (src sseq addr : Nat) (late flush : Bool) : (State.dmaDue s src sseq addr late flush).hif.l1 = s.hif.l1 := ((State.dmaDue_frame s src sseq addr late flush).1 .hifL1 rfl).symm
@[simp] theorem State.dmaDue_err (s : State) (src sseq addr : Nat) (late flush : Bool) : (State.dmaDue s src sseq addr late flush).err = s.err := ((State.dmaDue_frame s src sseq addr late flush).1 .err rfl).symm
@[simp] theorem State.dmaDue_tku (s : State) (src sseq addr : Nat) (late flush : Bool) : (State.dmaDue s src sseq addr late flush).tku = s.tku := ((State.dmaDue_frame s src sseq addr late flush).1 .tku rfl).symm
@[simp] theorem State.dmaDue_params (s : State) (src sseq addr : Nat) (late flush : Bool) : (State.dmaDue s src sseq addr late flush).params = s.params := ((State.dmaDue_frame s src sseq addr late flush).1 .params rfl).symm
@[simp] theorem State.dmaDue_stats (s : State) (src sseq addr : Nat) (late flush : Bool) : (State.dmaDue s src sseq addr late flush).stats = s.stats := ((State.dmaDue_frame s src sseq addr late flush).1 .stats rfl).symm
@[simp] theorem State.dmaDue_group (s : State) (src sseq addr : Nat) (late flush : Bool) : (State.dmaDue s src sseq addr late flush).group = s.group := ((State.dmaDue_frame s src sseq addr late flush).1 .group rfl).symm
@[simp] theorem State.dmaDue_port (s : State) (src sseq addr : Nat) (late flush : Bool) : (State.dmaDue s src sseq addr late flush).port = s.port := ((State.dmaDue_frame s src sseq addr late flush).1 .port rfl).symm
@[simp] theorem State.dmaDue_block (s : State) (src sseq addr : Nat) (late flush : Bool) : (State.dmaDue s src sseq addr late flush).block = s.block := ((State.dmaDue_frame s src sseq addr late flush).1 .block rfl).symm
@[simp] theorem State.dmaDue_eng (s : State) (src sseq addr : Nat) (late flush : Bool) : (State.dmaDue s src sseq addr late flush).eng = s.eng := ((State.dmaDue_frame s src sseq addr late flush).1 .eng rfl).symm
@[simp] theorem State.dmaDue_hinge (s : State) (src sseq addr : Nat) (late flush : Bool) : (State.dmaDue s src sseq addr late flush).hinge = s.hinge := ((State.dmaDue_frame s src sseq addr late flush).1 .hinge rfl).symm
@[simp] theorem State.dmaDue_lex (s : State) (src sseq addr : Nat) (late flush : Bool) : (State.dmaDue s src sseq addr late flush).lex = s.lex := ((State.dmaDue_frame s src sseq addr late flush).1 .lex rfl).symm
@[simp] theorem State.dmaDue_mem_data (s : State) (src sseq addr : Nat) (late flush : Bool) : (State.dmaDue s src sseq addr late flush).mem.data = s.mem.data := ((State.dmaDue_frame s src sseq addr late flush).1 .memData rfl).symm
@[simp] theorem State.dmaDue_rep (s : State) (src sseq addr : Nat) (late flush : Bool) : (State.dmaDue s src sseq addr late flush).rep = s.rep := ((State.dmaDue_frame s src sseq addr late flush).1 .rep rfl).symm
@[simp] theorem State.dmaDue_ocu (s : State) (src sseq addr : Nat) (late flush : Bool) : (State.dmaDue s src sseq addr late flush).ocu = s.ocu := ((State.dmaDue_frame s src sseq addr late flush).1 .ocu rfl).symm
@[simp] theorem State.dmaDue_cal (s : State) (src sseq addr : Nat) (late flush : Bool) : (State.dmaDue s src sseq addr late flush).cal = s.cal := ((State.dmaDue_frame s src sseq addr late flush).1 .cal rfl).symm
@[simp] theorem State.dmaDue_thm (s : State) (src sseq addr : Nat) (late flush : Bool) : (State.dmaDue s src sseq addr late flush).thm = s.thm := ((State.dmaDue_frame s src sseq addr late flush).1 .thm rfl).symm
@[simp] theorem State.dmaDue_tst (s : State) (src sseq addr : Nat) (late flush : Bool) : (State.dmaDue s src sseq addr late flush).tst = s.tst := ((State.dmaDue_frame s src sseq addr late flush).1 .tst rfl).symm
@[simp] theorem State.dmaDue_pmc_ctr (s : State) (src sseq addr : Nat) (late flush : Bool) : (State.dmaDue s src sseq addr late flush).pmc.ctr = s.pmc.ctr := ((State.dmaDue_frame s src sseq addr late flush).1 .pmcCtr rfl).symm
@[simp] theorem State.dmaDue_pwr (s : State) (src sseq addr : Nat) (late flush : Bool) : (State.dmaDue s src sseq addr late flush).pwr = s.pwr := ((State.dmaDue_frame s src sseq addr late flush).1 .pwr rfl).symm
@[simp] theorem State.dmaDue_fw (s : State) (src sseq addr : Nat) (late flush : Bool) : (State.dmaDue s src sseq addr late flush).fw = s.fw := ((State.dmaDue_frame s src sseq addr late flush).1 .fw rfl).symm
@[simp] theorem State.dmaDue_cap (s : State) (src sseq addr : Nat) (late flush : Bool) : (State.dmaDue s src sseq addr late flush).cap = s.cap := ((State.dmaDue_frame s src sseq addr late flush).1 .cap rfl).symm
@[simp] theorem State.dmaDue_dev_busRead (s : State) (src sseq addr : Nat) (late flush : Bool) : (State.dmaDue s src sseq addr late flush).dev.busRead = s.dev.busRead := ((State.dmaDue_frame s src sseq addr late flush).1 .devBus rfl).symm
@[simp] theorem State.dmaDue_dev_rest (s : State) (src sseq addr : Nat) (late flush : Bool) : (State.dmaDue s src sseq addr late flush).dev.rest = s.dev.rest := ((State.dmaDue_frame s src sseq addr late flush).1 .devRest rfl).symm
@[simp] theorem State.dmaDue_mem_rest (s : State) (src sseq addr : Nat) (late flush : Bool) : (State.dmaDue s src sseq addr late flush).mem.rest = s.mem.rest := ((State.dmaDue_frame s src sseq addr late flush).1 .memRest rfl).symm
@[simp] theorem State.dmaDue_pmc_rest (s : State) (src sseq addr : Nat) (late flush : Bool) : (State.dmaDue s src sseq addr late flush).pmc.rest = s.pmc.rest := ((State.dmaDue_frame s src sseq addr late flush).1 .pmcRest rfl).symm
@[simp] theorem State.dmaDue_dev_mode (s : State) (src sseq addr : Nat) (late flush : Bool) : (State.dmaDue s src sseq addr late flush).dev.mode = s.dev.mode := ((State.dmaDue_frame s src sseq addr late flush).1 .devMode rfl).1.symm
@[simp] theorem State.dmaDue_dev_guard (s : State) (src sseq addr : Nat) (late flush : Bool) : (State.dmaDue s src sseq addr late flush).dev.guard = s.dev.guard := ((State.dmaDue_frame s src sseq addr late flush).1 .devMode rfl).2.1.symm
@[simp] theorem State.dmaDue_dev_guardSince (s : State) (src sseq addr : Nat) (late flush : Bool) : (State.dmaDue s src sseq addr late flush).dev.guardSince = s.dev.guardSince := ((State.dmaDue_frame s src sseq addr late flush).1 .devMode rfl).2.2.symm
@[simp] theorem State.dmaDue_lineAt_lrx_rest (s : State) (src sseq addr : Nat) (late flush : Bool) (ln : Nat) : ((State.dmaDue s src sseq addr late flush).lineAt ln).lrx.rest = (s.lineAt ln).lrx.rest := (((State.dmaDue_frame s src sseq addr late flush).1 .lnRx rfl) ln).symm
@[simp] theorem State.dmaDue_lineAt_lrx (s : State) (src sseq addr : Nat) (late flush : Bool) (ln : Nat) : ((State.dmaDue s src sseq addr late flush).lineAt ln).lrx = (s.lineAt ln).lrx := (((State.dmaDue_frame s src sseq addr late flush).1 .lnRxPower rfl) ln).symm
@[simp] theorem State.dmaDue_lineAt_sea (s : State) (src sseq addr : Nat) (late flush : Bool) (ln : Nat) : ((State.dmaDue s src sseq addr late flush).lineAt ln).sea = (s.lineAt ln).sea := (((State.dmaDue_frame s src sseq addr late flush).1 .lnSea rfl) ln).symm
@[simp] theorem State.dmaDue_lineAt_sdf (s : State) (src sseq addr : Nat) (late flush : Bool) (ln : Nat) : ((State.dmaDue s src sseq addr late flush).lineAt ln).sdf = (s.lineAt ln).sdf := (((State.dmaDue_frame s src sseq addr late flush).1 .lnSdf rfl) ln).symm
@[simp] theorem State.dmaDue_lineAt_ltx (s : State) (src sseq addr : Nat) (late flush : Bool) (ln : Nat) : ((State.dmaDue s src sseq addr late flush).lineAt ln).ltx = (s.lineAt ln).ltx := (((State.dmaDue_frame s src sseq addr late flush).1 .lnLtx rfl) ln).symm
@[simp] theorem State.dmaDue_lineAt_plt (s : State) (src sseq addr : Nat) (late flush : Bool) (ln : Nat) : ((State.dmaDue s src sseq addr late flush).lineAt ln).plt = (s.lineAt ln).plt := (((State.dmaDue_frame s src sseq addr late flush).1 .lnPlt rfl) ln).symm
@[simp] theorem State.dmaDue_lineAt_state (s : State) (src sseq addr : Nat) (late flush : Bool) (ln : Nat) : ((State.dmaDue s src sseq addr late flush).lineAt ln).state = (s.lineAt ln).state := (((State.dmaDue_frame s src sseq addr late flush).1 .lnState rfl) ln).1.symm
@[simp] theorem State.dmaDue_lineAt_stuck (s : State) (src sseq addr : Nat) (late flush : Bool) (ln : Nat) : ((State.dmaDue s src sseq addr late flush).lineAt ln).stuck = (s.lineAt ln).stuck := (((State.dmaDue_frame s src sseq addr late flush).1 .lnState rfl) ln).2.1.symm
@[simp] theorem State.dmaDue_lineAt_badStage (s : State) (src sseq addr : Nat) (late flush : Bool) (ln : Nat) : ((State.dmaDue s src sseq addr late flush).lineAt ln).badStage = (s.lineAt ln).badStage := (((State.dmaDue_frame s src sseq addr late flush).1 .lnState rfl) ln).2.2.symm
@[simp] theorem State.dmaDue_lineAt_optics (s : State) (src sseq addr : Nat) (late flush : Bool) (ln : Nat) : ((State.dmaDue s src sseq addr late flush).lineAt ln).optics = (s.lineAt ln).optics := (((State.dmaDue_frame s src sseq addr late flush).1 .lnOptics rfl) ln).1.symm
@[simp] theorem State.dmaDue_lineAt_optSince (s : State) (src sseq addr : Nat) (late flush : Bool) (ln : Nat) : ((State.dmaDue s src sseq addr late flush).lineAt ln).optSince = (s.lineAt ln).optSince := (((State.dmaDue_frame s src sseq addr late flush).1 .lnOptics rfl) ln).2.symm
@[simp] theorem State.dmaDue_hostAt_rest (s : State) (src sseq addr : Nat) (late flush : Bool) (hn : Nat) : ((State.dmaDue s src sseq addr late flush).hostAt hn).rest = (s.hostAt hn).rest := (((State.dmaDue_frame s src sseq addr late flush).1 .hostRest rfl) hn).symm
@[simp] theorem State.dmaDue_hostAt (s : State) (src sseq addr : Nat) (late flush : Bool) (hn : Nat) : (State.dmaDue s src sseq addr late flush).hostAt hn = s.hostAt hn := (((State.dmaDue_frame s src sseq addr late flush).1 .hostTx rfl) hn).symm

theorem State.discardWrite_frame (s : State) (r : Requester) : Keep 0x20000007b00 s (State.discardWrite s r) := State.discardWrite_keep s r rfl (Keep.refl _ _)
@[simp] theorem State.discardWrite_pending (s : State) (r : Requester) : (State.discardWrite s r).pending = s.pending := ((State.discardWrite_frame s r).1 .pending rfl).symm
@[simp] theorem State.discardWrite_free (s : State) (r : Requester) : (State.discardWrite s r).free = s.free := ((State.discardWrite_frame s r).1 .free rfl).symm
@[simp] theorem State.discardWrite_fuses (s : State) (r : Requester) : (State.discardWrite s r).fuses = s.fuses := ((State.discardWrite_frame s r).1 .fuses rfl).symm
@[simp] theorem State.discardWrite_shut (s : State) (r : Requester) : (State.discardWrite s r).shut = s.shut := ((State.discardWrite_frame s r).1 .shut rfl).symm
@[simp] theorem State.discardWrite_mb (s : State) (r : Requester) : (State.discardWrite s r).mb = s.mb := ((State.discardWrite_frame s r).1 .mb rfl).symm
@[simp] theorem State.discardWrite_ev_urgent (s : State) (r : Requester) : (State.discardWrite s r).ev.urgent = s.ev.urgent := ((State.discardWrite_frame s r).1 .evUrgent rfl).symm
@[simp] theorem State.discardWrite_tku (s : State) (r : Requester) : (State.discardWrite s r).tku = s.tku := ((State.discardWrite_frame s r).1 .tku rfl).symm
@[simp] theorem State.discardWrite_params (s : State) (r : Requester) : (State.discardWrite s r).params = s.params := ((State.discardWrite_frame s r).1 .params rfl).symm
@[simp] theorem State.discardWrite_stats (s : State) (r : Requester) : (State.discardWrite s r).stats = s.stats := ((State.discardWrite_frame s r).1 .stats rfl).symm
@[simp] theorem State.discardWrite_group (s : State) (r : Requester) : (State.discardWrite s r).group = s.group := ((State.discardWrite_frame s r).1 .group rfl).symm
@[simp] theorem State.discardWrite_port (s : State) (r : Requester) : (State.discardWrite s r).port = s.port := ((State.discardWrite_frame s r).1 .port rfl).symm
@[simp] theorem State.discardWrite_block (s : State) (r : Requester) : (State.discardWrite s r).block = s.block := ((State.discardWrite_frame s r).1 .block rfl).symm
@[simp] theorem State.discardWrite_eng (s : State) (r : Requester) : (State.discardWrite s r).eng = s.eng := ((State.discardWrite_frame s r).1 .eng rfl).symm
@[simp] theorem State.discardWrite_hinge (s : State) (r : Requester) : (State.discardWrite s r).hinge = s.hinge := ((State.discardWrite_frame s r).1 .hinge rfl).symm
@[simp] theorem State.discardWrite_lex (s : State) (r : Requester) : (State.discardWrite s r).lex = s.lex := ((State.discardWrite_frame s r).1 .lex rfl).symm
@[simp] theorem State.discardWrite_mem_data (s : State) (r : Requester) : (State.discardWrite s r).mem.data = s.mem.data := ((State.discardWrite_frame s r).1 .memData rfl).symm
@[simp] theorem State.discardWrite_rep (s : State) (r : Requester) : (State.discardWrite s r).rep = s.rep := ((State.discardWrite_frame s r).1 .rep rfl).symm
@[simp] theorem State.discardWrite_ocu (s : State) (r : Requester) : (State.discardWrite s r).ocu = s.ocu := ((State.discardWrite_frame s r).1 .ocu rfl).symm
@[simp] theorem State.discardWrite_cal (s : State) (r : Requester) : (State.discardWrite s r).cal = s.cal := ((State.discardWrite_frame s r).1 .cal rfl).symm
@[simp] theorem State.discardWrite_thm (s : State) (r : Requester) : (State.discardWrite s r).thm = s.thm := ((State.discardWrite_frame s r).1 .thm rfl).symm
@[simp] theorem State.discardWrite_tst (s : State) (r : Requester) : (State.discardWrite s r).tst = s.tst := ((State.discardWrite_frame s r).1 .tst rfl).symm
@[simp] theorem State.discardWrite_pwr (s : State) (r : Requester) : (State.discardWrite s r).pwr = s.pwr := ((State.discardWrite_frame s r).1 .pwr rfl).symm
@[simp] theorem State.discardWrite_fw (s : State) (r : Requester) : (State.discardWrite s r).fw = s.fw := ((State.discardWrite_frame s r).1 .fw rfl).symm
@[simp] theorem State.discardWrite_cap (s : State) (r : Requester) : (State.discardWrite s r).cap = s.cap := ((State.discardWrite_frame s r).1 .cap rfl).symm
@[simp] theorem State.discardWrite_dev_busRead (s : State) (r : Requester) : (State.discardWrite s r).dev.busRead = s.dev.busRead := ((State.discardWrite_frame s r).1 .devBus rfl).symm
@[simp] theorem State.discardWrite_dev_rest (s : State) (r : Requester) : (State.discardWrite s r).dev.rest = s.dev.rest := ((State.discardWrite_frame s r).1 .devRest rfl).symm
@[simp] theorem State.discardWrite_mem_rest (s : State) (r : Requester) : (State.discardWrite s r).mem.rest = s.mem.rest := ((State.discardWrite_frame s r).1 .memRest rfl).symm
@[simp] theorem State.discardWrite_pmc_rest (s : State) (r : Requester) : (State.discardWrite s r).pmc.rest = s.pmc.rest := ((State.discardWrite_frame s r).1 .pmcRest rfl).symm
@[simp] theorem State.discardWrite_dev_mode (s : State) (r : Requester) : (State.discardWrite s r).dev.mode = s.dev.mode := ((State.discardWrite_frame s r).1 .devMode rfl).1.symm
@[simp] theorem State.discardWrite_dev_guard (s : State) (r : Requester) : (State.discardWrite s r).dev.guard = s.dev.guard := ((State.discardWrite_frame s r).1 .devMode rfl).2.1.symm
@[simp] theorem State.discardWrite_dev_guardSince (s : State) (r : Requester) : (State.discardWrite s r).dev.guardSince = s.dev.guardSince := ((State.discardWrite_frame s r).1 .devMode rfl).2.2.symm
@[simp] theorem State.discardWrite_lineAt_lrx_rest (s : State) (r : Requester) (ln : Nat) : ((State.discardWrite s r).lineAt ln).lrx.rest = (s.lineAt ln).lrx.rest := (((State.discardWrite_frame s r).1 .lnRx rfl) ln).symm
@[simp] theorem State.discardWrite_lineAt_lrx (s : State) (r : Requester) (ln : Nat) : ((State.discardWrite s r).lineAt ln).lrx = (s.lineAt ln).lrx := (((State.discardWrite_frame s r).1 .lnRxPower rfl) ln).symm
@[simp] theorem State.discardWrite_lineAt_sea (s : State) (r : Requester) (ln : Nat) : ((State.discardWrite s r).lineAt ln).sea = (s.lineAt ln).sea := (((State.discardWrite_frame s r).1 .lnSea rfl) ln).symm
@[simp] theorem State.discardWrite_lineAt_sdf (s : State) (r : Requester) (ln : Nat) : ((State.discardWrite s r).lineAt ln).sdf = (s.lineAt ln).sdf := (((State.discardWrite_frame s r).1 .lnSdf rfl) ln).symm
@[simp] theorem State.discardWrite_lineAt_ltx (s : State) (r : Requester) (ln : Nat) : ((State.discardWrite s r).lineAt ln).ltx = (s.lineAt ln).ltx := (((State.discardWrite_frame s r).1 .lnLtx rfl) ln).symm
@[simp] theorem State.discardWrite_lineAt_plt (s : State) (r : Requester) (ln : Nat) : ((State.discardWrite s r).lineAt ln).plt = (s.lineAt ln).plt := (((State.discardWrite_frame s r).1 .lnPlt rfl) ln).symm
@[simp] theorem State.discardWrite_lineAt_state (s : State) (r : Requester) (ln : Nat) : ((State.discardWrite s r).lineAt ln).state = (s.lineAt ln).state := (((State.discardWrite_frame s r).1 .lnState rfl) ln).1.symm
@[simp] theorem State.discardWrite_lineAt_stuck (s : State) (r : Requester) (ln : Nat) : ((State.discardWrite s r).lineAt ln).stuck = (s.lineAt ln).stuck := (((State.discardWrite_frame s r).1 .lnState rfl) ln).2.1.symm
@[simp] theorem State.discardWrite_lineAt_badStage (s : State) (r : Requester) (ln : Nat) : ((State.discardWrite s r).lineAt ln).badStage = (s.lineAt ln).badStage := (((State.discardWrite_frame s r).1 .lnState rfl) ln).2.2.symm
@[simp] theorem State.discardWrite_lineAt_optics (s : State) (r : Requester) (ln : Nat) : ((State.discardWrite s r).lineAt ln).optics = (s.lineAt ln).optics := (((State.discardWrite_frame s r).1 .lnOptics rfl) ln).1.symm
@[simp] theorem State.discardWrite_lineAt_optSince (s : State) (r : Requester) (ln : Nat) : ((State.discardWrite s r).lineAt ln).optSince = (s.lineAt ln).optSince := (((State.discardWrite_frame s r).1 .lnOptics rfl) ln).2.symm
@[simp] theorem State.discardWrite_hostAt_rest (s : State) (r : Requester) (hn : Nat) : ((State.discardWrite s r).hostAt hn).rest = (s.hostAt hn).rest := (((State.discardWrite_frame s r).1 .hostRest rfl) hn).symm
@[simp] theorem State.discardWrite_hostAt (s : State) (r : Requester) (hn : Nat) : (State.discardWrite s r).hostAt hn = s.hostAt hn := (((State.discardWrite_frame s r).1 .hostTx rfl) hn).symm

theorem State.lineTryUp_frame (s : State) (l : Nat) : Keep 0x200201e9b82 s (State.lineTryUp s l) := State.lineTryUp_keep s l rfl (Keep.refl _ _)
@[simp] theorem State.lineTryUp_pending (s : State) (l : Nat) : (State.lineTryUp s l).pending = s.pending := ((State.lineTryUp_frame s l).1 .pending rfl).symm
@[simp] theorem State.lineTryUp_fuses (s : State) (l : Nat) : (State.lineTryUp s l).fuses = s.fuses := ((State.lineTryUp_frame s l).1 .fuses rfl).symm
@[simp] theorem State.lineTryUp_shut (s : State) (l : Nat) : (State.lineTryUp s l).shut = s.shut := ((State.lineTryUp_frame s l).1 .shut rfl).symm
@[simp] theorem State.lineTryUp_ev_urgent (s : State) (l : Nat) : (State.lineTryUp s l).ev.urgent = s.ev.urgent := ((State.lineTryUp_frame s l).1 .evUrgent rfl).symm
@[simp] theorem State.lineTryUp_err (s : State) (l : Nat) : (State.lineTryUp s l).err = s.err := ((State.lineTryUp_frame s l).1 .err rfl).symm
@[simp] theorem State.lineTryUp_params (s : State) (l : Nat) : (State.lineTryUp s l).params = s.params := ((State.lineTryUp_frame s l).1 .params rfl).symm
@[simp] theorem State.lineTryUp_group (s : State) (l : Nat) : (State.lineTryUp s l).group = s.group := ((State.lineTryUp_frame s l).1 .group rfl).symm
@[simp] theorem State.lineTryUp_block (s : State) (l : Nat) : (State.lineTryUp s l).block = s.block := ((State.lineTryUp_frame s l).1 .block rfl).symm
@[simp] theorem State.lineTryUp_eng (s : State) (l : Nat) : (State.lineTryUp s l).eng = s.eng := ((State.lineTryUp_frame s l).1 .eng rfl).symm
@[simp] theorem State.lineTryUp_hinge (s : State) (l : Nat) : (State.lineTryUp s l).hinge = s.hinge := ((State.lineTryUp_frame s l).1 .hinge rfl).symm
@[simp] theorem State.lineTryUp_lex (s : State) (l : Nat) : (State.lineTryUp s l).lex = s.lex := ((State.lineTryUp_frame s l).1 .lex rfl).symm
@[simp] theorem State.lineTryUp_mem_data (s : State) (l : Nat) : (State.lineTryUp s l).mem.data = s.mem.data := ((State.lineTryUp_frame s l).1 .memData rfl).symm
@[simp] theorem State.lineTryUp_rep (s : State) (l : Nat) : (State.lineTryUp s l).rep = s.rep := ((State.lineTryUp_frame s l).1 .rep rfl).symm
@[simp] theorem State.lineTryUp_ocu (s : State) (l : Nat) : (State.lineTryUp s l).ocu = s.ocu := ((State.lineTryUp_frame s l).1 .ocu rfl).symm
@[simp] theorem State.lineTryUp_cal (s : State) (l : Nat) : (State.lineTryUp s l).cal = s.cal := ((State.lineTryUp_frame s l).1 .cal rfl).symm
@[simp] theorem State.lineTryUp_thm (s : State) (l : Nat) : (State.lineTryUp s l).thm = s.thm := ((State.lineTryUp_frame s l).1 .thm rfl).symm
@[simp] theorem State.lineTryUp_tst (s : State) (l : Nat) : (State.lineTryUp s l).tst = s.tst := ((State.lineTryUp_frame s l).1 .tst rfl).symm
@[simp] theorem State.lineTryUp_pwr (s : State) (l : Nat) : (State.lineTryUp s l).pwr = s.pwr := ((State.lineTryUp_frame s l).1 .pwr rfl).symm
@[simp] theorem State.lineTryUp_fw (s : State) (l : Nat) : (State.lineTryUp s l).fw = s.fw := ((State.lineTryUp_frame s l).1 .fw rfl).symm
@[simp] theorem State.lineTryUp_cap (s : State) (l : Nat) : (State.lineTryUp s l).cap = s.cap := ((State.lineTryUp_frame s l).1 .cap rfl).symm
@[simp] theorem State.lineTryUp_dev_busRead (s : State) (l : Nat) : (State.lineTryUp s l).dev.busRead = s.dev.busRead := ((State.lineTryUp_frame s l).1 .devBus rfl).symm
@[simp] theorem State.lineTryUp_dev_rest (s : State) (l : Nat) : (State.lineTryUp s l).dev.rest = s.dev.rest := ((State.lineTryUp_frame s l).1 .devRest rfl).symm
@[simp] theorem State.lineTryUp_hif_rest (s : State) (l : Nat) : (State.lineTryUp s l).hif.rest = s.hif.rest := ((State.lineTryUp_frame s l).1 .hifRest rfl).symm
@[simp] theorem State.lineTryUp_mem_rest (s : State) (l : Nat) : (State.lineTryUp s l).mem.rest = s.mem.rest := ((State.lineTryUp_frame s l).1 .memRest rfl).symm
@[simp] theorem State.lineTryUp_pmc_rest (s : State) (l : Nat) : (State.lineTryUp s l).pmc.rest = s.pmc.rest := ((State.lineTryUp_frame s l).1 .pmcRest rfl).symm
@[simp] theorem State.lineTryUp_dev_mode (s : State) (l : Nat) : (State.lineTryUp s l).dev.mode = s.dev.mode := ((State.lineTryUp_frame s l).1 .devMode rfl).1.symm
@[simp] theorem State.lineTryUp_dev_guard (s : State) (l : Nat) : (State.lineTryUp s l).dev.guard = s.dev.guard := ((State.lineTryUp_frame s l).1 .devMode rfl).2.1.symm
@[simp] theorem State.lineTryUp_dev_guardSince (s : State) (l : Nat) : (State.lineTryUp s l).dev.guardSince = s.dev.guardSince := ((State.lineTryUp_frame s l).1 .devMode rfl).2.2.symm
@[simp] theorem State.lineTryUp_lineAt_sea (s : State) (l : Nat) (ln : Nat) : ((State.lineTryUp s l).lineAt ln).sea = (s.lineAt ln).sea := (((State.lineTryUp_frame s l).1 .lnSea rfl) ln).symm
@[simp] theorem State.lineTryUp_lineAt_sdf (s : State) (l : Nat) (ln : Nat) : ((State.lineTryUp s l).lineAt ln).sdf = (s.lineAt ln).sdf := (((State.lineTryUp_frame s l).1 .lnSdf rfl) ln).symm
@[simp] theorem State.lineTryUp_lineAt_ltx (s : State) (l : Nat) (ln : Nat) : ((State.lineTryUp s l).lineAt ln).ltx = (s.lineAt ln).ltx := (((State.lineTryUp_frame s l).1 .lnLtx rfl) ln).symm
@[simp] theorem State.lineTryUp_lineAt_plt (s : State) (l : Nat) (ln : Nat) : ((State.lineTryUp s l).lineAt ln).plt = (s.lineAt ln).plt := (((State.lineTryUp_frame s l).1 .lnPlt rfl) ln).symm
@[simp] theorem State.lineTryUp_lineAt_optics (s : State) (l : Nat) (ln : Nat) : ((State.lineTryUp s l).lineAt ln).optics = (s.lineAt ln).optics := (((State.lineTryUp_frame s l).1 .lnOptics rfl) ln).1.symm
@[simp] theorem State.lineTryUp_lineAt_optSince (s : State) (l : Nat) (ln : Nat) : ((State.lineTryUp s l).lineAt ln).optSince = (s.lineAt ln).optSince := (((State.lineTryUp_frame s l).1 .lnOptics rfl) ln).2.symm
@[simp] theorem State.lineTryUp_hostAt_rest (s : State) (l : Nat) (hn : Nat) : ((State.lineTryUp s l).hostAt hn).rest = (s.hostAt hn).rest := (((State.lineTryUp_frame s l).1 .hostRest rfl) hn).symm
@[simp] theorem State.lineTryUp_hostAt (s : State) (l : Nat) (hn : Nat) : (State.lineTryUp s l).hostAt hn = s.hostAt hn := (((State.lineTryUp_frame s l).1 .hostTx rfl) hn).symm

theorem State.endEnter_frame (s : State) (code detail : Nat) : Keep 0x20000001ba0 s (State.endEnter s code detail) := State.endEnter_keep s code detail rfl (Keep.refl _ _)
@[simp] theorem State.endEnter_pending (s : State) (code detail : Nat) : (State.endEnter s code detail).pending = s.pending := ((State.endEnter_frame s code detail).1 .pending rfl).symm
@[simp] theorem State.endEnter_free (s : State) (code detail : Nat) : (State.endEnter s code detail).free = s.free := ((State.endEnter_frame s code detail).1 .free rfl).symm
@[simp] theorem State.endEnter_fuses (s : State) (code detail : Nat) : (State.endEnter s code detail).fuses = s.fuses := ((State.endEnter_frame s code detail).1 .fuses rfl).symm
@[simp] theorem State.endEnter_shut (s : State) (code detail : Nat) : (State.endEnter s code detail).shut = s.shut := ((State.endEnter_frame s code detail).1 .shut rfl).symm
@[simp] theorem State.endEnter_ev_urgent (s : State) (code detail : Nat) : (State.endEnter s code detail).ev.urgent = s.ev.urgent := ((State.endEnter_frame s code detail).1 .evUrgent rfl).symm
@[simp] theorem State.endEnter_err (s : State) (code detail : Nat) : (State.endEnter s code detail).err = s.err := ((State.endEnter_frame s code detail).1 .err rfl).symm
@[simp] theorem State.endEnter_tku (s : State) (code detail : Nat) : (State.endEnter s code detail).tku = s.tku := ((State.endEnter_frame s code detail).1 .tku rfl).symm
@[simp] theorem State.endEnter_params (s : State) (code detail : Nat) : (State.endEnter s code detail).params = s.params := ((State.endEnter_frame s code detail).1 .params rfl).symm
@[simp] theorem State.endEnter_stats (s : State) (code detail : Nat) : (State.endEnter s code detail).stats = s.stats := ((State.endEnter_frame s code detail).1 .stats rfl).symm
@[simp] theorem State.endEnter_group (s : State) (code detail : Nat) : (State.endEnter s code detail).group = s.group := ((State.endEnter_frame s code detail).1 .group rfl).symm
@[simp] theorem State.endEnter_port (s : State) (code detail : Nat) : (State.endEnter s code detail).port = s.port := ((State.endEnter_frame s code detail).1 .port rfl).symm
@[simp] theorem State.endEnter_block (s : State) (code detail : Nat) : (State.endEnter s code detail).block = s.block := ((State.endEnter_frame s code detail).1 .block rfl).symm
@[simp] theorem State.endEnter_eng (s : State) (code detail : Nat) : (State.endEnter s code detail).eng = s.eng := ((State.endEnter_frame s code detail).1 .eng rfl).symm
@[simp] theorem State.endEnter_hinge (s : State) (code detail : Nat) : (State.endEnter s code detail).hinge = s.hinge := ((State.endEnter_frame s code detail).1 .hinge rfl).symm
@[simp] theorem State.endEnter_lex (s : State) (code detail : Nat) : (State.endEnter s code detail).lex = s.lex := ((State.endEnter_frame s code detail).1 .lex rfl).symm
@[simp] theorem State.endEnter_mem_data (s : State) (code detail : Nat) : (State.endEnter s code detail).mem.data = s.mem.data := ((State.endEnter_frame s code detail).1 .memData rfl).symm
@[simp] theorem State.endEnter_rep (s : State) (code detail : Nat) : (State.endEnter s code detail).rep = s.rep := ((State.endEnter_frame s code detail).1 .rep rfl).symm
@[simp] theorem State.endEnter_ocu (s : State) (code detail : Nat) : (State.endEnter s code detail).ocu = s.ocu := ((State.endEnter_frame s code detail).1 .ocu rfl).symm
@[simp] theorem State.endEnter_cal (s : State) (code detail : Nat) : (State.endEnter s code detail).cal = s.cal := ((State.endEnter_frame s code detail).1 .cal rfl).symm
@[simp] theorem State.endEnter_thm (s : State) (code detail : Nat) : (State.endEnter s code detail).thm = s.thm := ((State.endEnter_frame s code detail).1 .thm rfl).symm
@[simp] theorem State.endEnter_tst (s : State) (code detail : Nat) : (State.endEnter s code detail).tst = s.tst := ((State.endEnter_frame s code detail).1 .tst rfl).symm
@[simp] theorem State.endEnter_pwr (s : State) (code detail : Nat) : (State.endEnter s code detail).pwr = s.pwr := ((State.endEnter_frame s code detail).1 .pwr rfl).symm
@[simp] theorem State.endEnter_fw (s : State) (code detail : Nat) : (State.endEnter s code detail).fw = s.fw := ((State.endEnter_frame s code detail).1 .fw rfl).symm
@[simp] theorem State.endEnter_cap (s : State) (code detail : Nat) : (State.endEnter s code detail).cap = s.cap := ((State.endEnter_frame s code detail).1 .cap rfl).symm
@[simp] theorem State.endEnter_dev_busRead (s : State) (code detail : Nat) : (State.endEnter s code detail).dev.busRead = s.dev.busRead := ((State.endEnter_frame s code detail).1 .devBus rfl).symm
@[simp] theorem State.endEnter_hif_rest (s : State) (code detail : Nat) : (State.endEnter s code detail).hif.rest = s.hif.rest := ((State.endEnter_frame s code detail).1 .hifRest rfl).symm
@[simp] theorem State.endEnter_mem_rest (s : State) (code detail : Nat) : (State.endEnter s code detail).mem.rest = s.mem.rest := ((State.endEnter_frame s code detail).1 .memRest rfl).symm
@[simp] theorem State.endEnter_pmc_rest (s : State) (code detail : Nat) : (State.endEnter s code detail).pmc.rest = s.pmc.rest := ((State.endEnter_frame s code detail).1 .pmcRest rfl).symm
@[simp] theorem State.endEnter_dev_mode (s : State) (code detail : Nat) : (State.endEnter s code detail).dev.mode = s.dev.mode := ((State.endEnter_frame s code detail).1 .devMode rfl).1.symm
@[simp] theorem State.endEnter_dev_guard (s : State) (code detail : Nat) : (State.endEnter s code detail).dev.guard = s.dev.guard := ((State.endEnter_frame s code detail).1 .devMode rfl).2.1.symm
@[simp] theorem State.endEnter_dev_guardSince (s : State) (code detail : Nat) : (State.endEnter s code detail).dev.guardSince = s.dev.guardSince := ((State.endEnter_frame s code detail).1 .devMode rfl).2.2.symm
@[simp] theorem State.endEnter_lineAt_lrx_rest (s : State) (code detail : Nat) (ln : Nat) : ((State.endEnter s code detail).lineAt ln).lrx.rest = (s.lineAt ln).lrx.rest := (((State.endEnter_frame s code detail).1 .lnRx rfl) ln).symm
@[simp] theorem State.endEnter_lineAt_lrx (s : State) (code detail : Nat) (ln : Nat) : ((State.endEnter s code detail).lineAt ln).lrx = (s.lineAt ln).lrx := (((State.endEnter_frame s code detail).1 .lnRxPower rfl) ln).symm
@[simp] theorem State.endEnter_lineAt_sea (s : State) (code detail : Nat) (ln : Nat) : ((State.endEnter s code detail).lineAt ln).sea = (s.lineAt ln).sea := (((State.endEnter_frame s code detail).1 .lnSea rfl) ln).symm
@[simp] theorem State.endEnter_lineAt_sdf (s : State) (code detail : Nat) (ln : Nat) : ((State.endEnter s code detail).lineAt ln).sdf = (s.lineAt ln).sdf := (((State.endEnter_frame s code detail).1 .lnSdf rfl) ln).symm
@[simp] theorem State.endEnter_lineAt_ltx (s : State) (code detail : Nat) (ln : Nat) : ((State.endEnter s code detail).lineAt ln).ltx = (s.lineAt ln).ltx := (((State.endEnter_frame s code detail).1 .lnLtx rfl) ln).symm
@[simp] theorem State.endEnter_lineAt_plt (s : State) (code detail : Nat) (ln : Nat) : ((State.endEnter s code detail).lineAt ln).plt = (s.lineAt ln).plt := (((State.endEnter_frame s code detail).1 .lnPlt rfl) ln).symm
@[simp] theorem State.endEnter_lineAt_state (s : State) (code detail : Nat) (ln : Nat) : ((State.endEnter s code detail).lineAt ln).state = (s.lineAt ln).state := (((State.endEnter_frame s code detail).1 .lnState rfl) ln).1.symm
@[simp] theorem State.endEnter_lineAt_stuck (s : State) (code detail : Nat) (ln : Nat) : ((State.endEnter s code detail).lineAt ln).stuck = (s.lineAt ln).stuck := (((State.endEnter_frame s code detail).1 .lnState rfl) ln).2.1.symm
@[simp] theorem State.endEnter_lineAt_badStage (s : State) (code detail : Nat) (ln : Nat) : ((State.endEnter s code detail).lineAt ln).badStage = (s.lineAt ln).badStage := (((State.endEnter_frame s code detail).1 .lnState rfl) ln).2.2.symm
@[simp] theorem State.endEnter_lineAt_optics (s : State) (code detail : Nat) (ln : Nat) : ((State.endEnter s code detail).lineAt ln).optics = (s.lineAt ln).optics := (((State.endEnter_frame s code detail).1 .lnOptics rfl) ln).1.symm
@[simp] theorem State.endEnter_lineAt_optSince (s : State) (code detail : Nat) (ln : Nat) : ((State.endEnter s code detail).lineAt ln).optSince = (s.lineAt ln).optSince := (((State.endEnter_frame s code detail).1 .lnOptics rfl) ln).2.symm
@[simp] theorem State.endEnter_hostAt_rest (s : State) (code detail : Nat) (hn : Nat) : ((State.endEnter s code detail).hostAt hn).rest = (s.hostAt hn).rest := (((State.endEnter_frame s code detail).1 .hostRest rfl) hn).symm
@[simp] theorem State.endEnter_hostAt (s : State) (code detail : Nat) (hn : Nat) : (State.endEnter s code detail).hostAt hn = s.hostAt hn := (((State.endEnter_frame s code detail).1 .hostTx rfl) hn).symm

theorem State.portCheck_frame (s : State) (p : Nat) : Keep 0x20020029b82 s (State.portCheck s p) := State.portCheck_keep s p rfl (Keep.refl _ _)
@[simp] theorem State.portCheck_pending (s : State) (p : Nat) : (State.portCheck s p).pending = s.pending := ((State.portCheck_frame s p).1 .pending rfl).symm
@[simp] theorem State.portCheck_fuses (s : State) (p : Nat) : (State.portCheck s p).fuses = s.fuses := ((State.portCheck_frame s p).1 .fuses rfl).symm
@[simp] theorem State.portCheck_shut (s : State) (p : Nat) : (State.portCheck s p).shut = s.shut := ((State.portCheck_frame s p).1 .shut rfl).symm
@[simp] theorem State.portCheck_ev_urgent (s : State) (p : Nat) : (State.portCheck s p).ev.urgent = s.ev.urgent := ((State.portCheck_frame s p).1 .evUrgent rfl).symm
@[simp] theorem State.portCheck_err (s : State) (p : Nat) : (State.portCheck s p).err = s.err := ((State.portCheck_frame s p).1 .err rfl).symm
@[simp] theorem State.portCheck_params (s : State) (p : Nat) : (State.portCheck s p).params = s.params := ((State.portCheck_frame s p).1 .params rfl).symm
@[simp] theorem State.portCheck_group (s : State) (p : Nat) : (State.portCheck s p).group = s.group := ((State.portCheck_frame s p).1 .group rfl).symm
@[simp] theorem State.portCheck_block (s : State) (p : Nat) : (State.portCheck s p).block = s.block := ((State.portCheck_frame s p).1 .block rfl).symm
@[simp] theorem State.portCheck_eng (s : State) (p : Nat) : (State.portCheck s p).eng = s.eng := ((State.portCheck_frame s p).1 .eng rfl).symm
@[simp] theorem State.portCheck_hinge (s : State) (p : Nat) : (State.portCheck s p).hinge = s.hinge := ((State.portCheck_frame s p).1 .hinge rfl).symm
@[simp] theorem State.portCheck_lex (s : State) (p : Nat) : (State.portCheck s p).lex = s.lex := ((State.portCheck_frame s p).1 .lex rfl).symm
@[simp] theorem State.portCheck_mem_data (s : State) (p : Nat) : (State.portCheck s p).mem.data = s.mem.data := ((State.portCheck_frame s p).1 .memData rfl).symm
@[simp] theorem State.portCheck_rep (s : State) (p : Nat) : (State.portCheck s p).rep = s.rep := ((State.portCheck_frame s p).1 .rep rfl).symm
@[simp] theorem State.portCheck_ocu (s : State) (p : Nat) : (State.portCheck s p).ocu = s.ocu := ((State.portCheck_frame s p).1 .ocu rfl).symm
@[simp] theorem State.portCheck_cal (s : State) (p : Nat) : (State.portCheck s p).cal = s.cal := ((State.portCheck_frame s p).1 .cal rfl).symm
@[simp] theorem State.portCheck_thm (s : State) (p : Nat) : (State.portCheck s p).thm = s.thm := ((State.portCheck_frame s p).1 .thm rfl).symm
@[simp] theorem State.portCheck_tst (s : State) (p : Nat) : (State.portCheck s p).tst = s.tst := ((State.portCheck_frame s p).1 .tst rfl).symm
@[simp] theorem State.portCheck_pwr (s : State) (p : Nat) : (State.portCheck s p).pwr = s.pwr := ((State.portCheck_frame s p).1 .pwr rfl).symm
@[simp] theorem State.portCheck_fw (s : State) (p : Nat) : (State.portCheck s p).fw = s.fw := ((State.portCheck_frame s p).1 .fw rfl).symm
@[simp] theorem State.portCheck_cap (s : State) (p : Nat) : (State.portCheck s p).cap = s.cap := ((State.portCheck_frame s p).1 .cap rfl).symm
@[simp] theorem State.portCheck_dev_busRead (s : State) (p : Nat) : (State.portCheck s p).dev.busRead = s.dev.busRead := ((State.portCheck_frame s p).1 .devBus rfl).symm
@[simp] theorem State.portCheck_dev_rest (s : State) (p : Nat) : (State.portCheck s p).dev.rest = s.dev.rest := ((State.portCheck_frame s p).1 .devRest rfl).symm
@[simp] theorem State.portCheck_hif_rest (s : State) (p : Nat) : (State.portCheck s p).hif.rest = s.hif.rest := ((State.portCheck_frame s p).1 .hifRest rfl).symm
@[simp] theorem State.portCheck_mem_rest (s : State) (p : Nat) : (State.portCheck s p).mem.rest = s.mem.rest := ((State.portCheck_frame s p).1 .memRest rfl).symm
@[simp] theorem State.portCheck_pmc_rest (s : State) (p : Nat) : (State.portCheck s p).pmc.rest = s.pmc.rest := ((State.portCheck_frame s p).1 .pmcRest rfl).symm
@[simp] theorem State.portCheck_dev_mode (s : State) (p : Nat) : (State.portCheck s p).dev.mode = s.dev.mode := ((State.portCheck_frame s p).1 .devMode rfl).1.symm
@[simp] theorem State.portCheck_dev_guard (s : State) (p : Nat) : (State.portCheck s p).dev.guard = s.dev.guard := ((State.portCheck_frame s p).1 .devMode rfl).2.1.symm
@[simp] theorem State.portCheck_dev_guardSince (s : State) (p : Nat) : (State.portCheck s p).dev.guardSince = s.dev.guardSince := ((State.portCheck_frame s p).1 .devMode rfl).2.2.symm
@[simp] theorem State.portCheck_lineAt_lrx_rest (s : State) (p : Nat) (ln : Nat) : ((State.portCheck s p).lineAt ln).lrx.rest = (s.lineAt ln).lrx.rest := (((State.portCheck_frame s p).1 .lnRx rfl) ln).symm
@[simp] theorem State.portCheck_lineAt_lrx (s : State) (p : Nat) (ln : Nat) : ((State.portCheck s p).lineAt ln).lrx = (s.lineAt ln).lrx := (((State.portCheck_frame s p).1 .lnRxPower rfl) ln).symm
@[simp] theorem State.portCheck_lineAt_sea (s : State) (p : Nat) (ln : Nat) : ((State.portCheck s p).lineAt ln).sea = (s.lineAt ln).sea := (((State.portCheck_frame s p).1 .lnSea rfl) ln).symm
@[simp] theorem State.portCheck_lineAt_sdf (s : State) (p : Nat) (ln : Nat) : ((State.portCheck s p).lineAt ln).sdf = (s.lineAt ln).sdf := (((State.portCheck_frame s p).1 .lnSdf rfl) ln).symm
@[simp] theorem State.portCheck_lineAt_ltx (s : State) (p : Nat) (ln : Nat) : ((State.portCheck s p).lineAt ln).ltx = (s.lineAt ln).ltx := (((State.portCheck_frame s p).1 .lnLtx rfl) ln).symm
@[simp] theorem State.portCheck_lineAt_plt (s : State) (p : Nat) (ln : Nat) : ((State.portCheck s p).lineAt ln).plt = (s.lineAt ln).plt := (((State.portCheck_frame s p).1 .lnPlt rfl) ln).symm
@[simp] theorem State.portCheck_lineAt_state (s : State) (p : Nat) (ln : Nat) : ((State.portCheck s p).lineAt ln).state = (s.lineAt ln).state := (((State.portCheck_frame s p).1 .lnState rfl) ln).1.symm
@[simp] theorem State.portCheck_lineAt_stuck (s : State) (p : Nat) (ln : Nat) : ((State.portCheck s p).lineAt ln).stuck = (s.lineAt ln).stuck := (((State.portCheck_frame s p).1 .lnState rfl) ln).2.1.symm
@[simp] theorem State.portCheck_lineAt_badStage (s : State) (p : Nat) (ln : Nat) : ((State.portCheck s p).lineAt ln).badStage = (s.lineAt ln).badStage := (((State.portCheck_frame s p).1 .lnState rfl) ln).2.2.symm
@[simp] theorem State.portCheck_lineAt_optics (s : State) (p : Nat) (ln : Nat) : ((State.portCheck s p).lineAt ln).optics = (s.lineAt ln).optics := (((State.portCheck_frame s p).1 .lnOptics rfl) ln).1.symm
@[simp] theorem State.portCheck_lineAt_optSince (s : State) (p : Nat) (ln : Nat) : ((State.portCheck s p).lineAt ln).optSince = (s.lineAt ln).optSince := (((State.portCheck_frame s p).1 .lnOptics rfl) ln).2.symm
@[simp] theorem State.portCheck_hostAt_rest (s : State) (p : Nat) (hn : Nat) : ((State.portCheck s p).hostAt hn).rest = (s.hostAt hn).rest := (((State.portCheck_frame s p).1 .hostRest rfl) hn).symm
@[simp] theorem State.portCheck_hostAt (s : State) (p : Nat) (hn : Nat) : (State.portCheck s p).hostAt hn = s.hostAt hn := (((State.portCheck_frame s p).1 .hostTx rfl) hn).symm

theorem State.startTests_frame (s : State) : Keep 0x10000000000 s (State.startTests s) := State.startTests_keep s rfl (Keep.refl _ _)
@[simp] theorem State.startTests_pending (s : State) : (State.startTests s).pending = s.pending := ((State.startTests_frame s).1 .pending rfl).symm
@[simp] theorem State.startTests_free (s : State) : (State.startTests s).free = s.free := ((State.startTests_frame s).1 .free rfl).symm
@[simp] theorem State.startTests_fuses (s : State) : (State.startTests s).fuses = s.fuses := ((State.startTests_frame s).1 .fuses rfl).symm
@[simp] theorem State.startTests_shut (s : State) : (State.startTests s).shut = s.shut := ((State.startTests_frame s).1 .shut rfl).symm
@[simp] theorem State.startTests_mb (s : State) : (State.startTests s).mb = s.mb := ((State.startTests_frame s).1 .mb rfl).symm
@[simp] theorem State.startTests_ev_raised (s : State) : (State.startTests s).ev.raised = s.ev.raised := ((State.startTests_frame s).1 .evRaised rfl).symm
@[simp] theorem State.startTests_ev_queue (s : State) : (State.startTests s).ev.queue = s.ev.queue := ((State.startTests_frame s).1 .evQueue rfl).symm
@[simp] theorem State.startTests_ev_urgent (s : State) : (State.startTests s).ev.urgent = s.ev.urgent := ((State.startTests_frame s).1 .evUrgent rfl).symm
@[simp] theorem State.startTests_icu (s : State) : (State.startTests s).icu = s.icu := ((State.startTests_frame s).1 .icu rfl).symm
@[simp] theorem State.startTests_hif_l1 (s : State) : (State.startTests s).hif.l1 = s.hif.l1 := ((State.startTests_frame s).1 .hifL1 rfl).symm
@[simp] theorem State.startTests_err (s : State) : (State.startTests s).err = s.err := ((State.startTests_frame s).1 .err rfl).symm
@[simp] theorem State.startTests_tku (s : State) : (State.startTests s).tku = s.tku := ((State.startTests_frame s).1 .tku rfl).symm
@[simp] theorem State.startTests_params (s : State) : (State.startTests s).params = s.params := ((State.startTests_frame s).1 .params rfl).symm
@[simp] theorem State.startTests_stats (s : State) : (State.startTests s).stats = s.stats := ((State.startTests_frame s).1 .stats rfl).symm
@[simp] theorem State.startTests_group (s : State) : (State.startTests s).group = s.group := ((State.startTests_frame s).1 .group rfl).symm
@[simp] theorem State.startTests_port (s : State) : (State.startTests s).port = s.port := ((State.startTests_frame s).1 .port rfl).symm
@[simp] theorem State.startTests_block (s : State) : (State.startTests s).block = s.block := ((State.startTests_frame s).1 .block rfl).symm
@[simp] theorem State.startTests_eng (s : State) : (State.startTests s).eng = s.eng := ((State.startTests_frame s).1 .eng rfl).symm
@[simp] theorem State.startTests_hinge (s : State) : (State.startTests s).hinge = s.hinge := ((State.startTests_frame s).1 .hinge rfl).symm
@[simp] theorem State.startTests_lex (s : State) : (State.startTests s).lex = s.lex := ((State.startTests_frame s).1 .lex rfl).symm
@[simp] theorem State.startTests_mem_data (s : State) : (State.startTests s).mem.data = s.mem.data := ((State.startTests_frame s).1 .memData rfl).symm
@[simp] theorem State.startTests_rep (s : State) : (State.startTests s).rep = s.rep := ((State.startTests_frame s).1 .rep rfl).symm
@[simp] theorem State.startTests_ocu (s : State) : (State.startTests s).ocu = s.ocu := ((State.startTests_frame s).1 .ocu rfl).symm
@[simp] theorem State.startTests_cal (s : State) : (State.startTests s).cal = s.cal := ((State.startTests_frame s).1 .cal rfl).symm
@[simp] theorem State.startTests_thm (s : State) : (State.startTests s).thm = s.thm := ((State.startTests_frame s).1 .thm rfl).symm
@[simp] theorem State.startTests_pmc_ctr (s : State) : (State.startTests s).pmc.ctr = s.pmc.ctr := ((State.startTests_frame s).1 .pmcCtr rfl).symm
@[simp] theorem State.startTests_pwr (s : State) : (State.startTests s).pwr = s.pwr := ((State.startTests_frame s).1 .pwr rfl).symm
@[simp] theorem State.startTests_fw (s : State) : (State.startTests s).fw = s.fw := ((State.startTests_frame s).1 .fw rfl).symm
@[simp] theorem State.startTests_cap (s : State) : (State.startTests s).cap = s.cap := ((State.startTests_frame s).1 .cap rfl).symm
@[simp] theorem State.startTests_dev_busRead (s : State) : (State.startTests s).dev.busRead = s.dev.busRead := ((State.startTests_frame s).1 .devBus rfl).symm
@[simp] theorem State.startTests_dev_rest (s : State) : (State.startTests s).dev.rest = s.dev.rest := ((State.startTests_frame s).1 .devRest rfl).symm
@[simp] theorem State.startTests_hif_rest (s : State) : (State.startTests s).hif.rest = s.hif.rest := ((State.startTests_frame s).1 .hifRest rfl).symm
@[simp] theorem State.startTests_mem_rest (s : State) : (State.startTests s).mem.rest = s.mem.rest := ((State.startTests_frame s).1 .memRest rfl).symm
@[simp] theorem State.startTests_pmc_rest (s : State) : (State.startTests s).pmc.rest = s.pmc.rest := ((State.startTests_frame s).1 .pmcRest rfl).symm
@[simp] theorem State.startTests_dev_mode (s : State) : (State.startTests s).dev.mode = s.dev.mode := ((State.startTests_frame s).1 .devMode rfl).1.symm
@[simp] theorem State.startTests_dev_guard (s : State) : (State.startTests s).dev.guard = s.dev.guard := ((State.startTests_frame s).1 .devMode rfl).2.1.symm
@[simp] theorem State.startTests_dev_guardSince (s : State) : (State.startTests s).dev.guardSince = s.dev.guardSince := ((State.startTests_frame s).1 .devMode rfl).2.2.symm
@[simp] theorem State.startTests_lineAt_lrx_rest (s : State) (ln : Nat) : ((State.startTests s).lineAt ln).lrx.rest = (s.lineAt ln).lrx.rest := (((State.startTests_frame s).1 .lnRx rfl) ln).symm
@[simp] theorem State.startTests_lineAt_lrx (s : State) (ln : Nat) : ((State.startTests s).lineAt ln).lrx = (s.lineAt ln).lrx := (((State.startTests_frame s).1 .lnRxPower rfl) ln).symm
@[simp] theorem State.startTests_lineAt_sea (s : State) (ln : Nat) : ((State.startTests s).lineAt ln).sea = (s.lineAt ln).sea := (((State.startTests_frame s).1 .lnSea rfl) ln).symm
@[simp] theorem State.startTests_lineAt_sdf (s : State) (ln : Nat) : ((State.startTests s).lineAt ln).sdf = (s.lineAt ln).sdf := (((State.startTests_frame s).1 .lnSdf rfl) ln).symm
@[simp] theorem State.startTests_lineAt_ltx (s : State) (ln : Nat) : ((State.startTests s).lineAt ln).ltx = (s.lineAt ln).ltx := (((State.startTests_frame s).1 .lnLtx rfl) ln).symm
@[simp] theorem State.startTests_lineAt_plt (s : State) (ln : Nat) : ((State.startTests s).lineAt ln).plt = (s.lineAt ln).plt := (((State.startTests_frame s).1 .lnPlt rfl) ln).symm
@[simp] theorem State.startTests_lineAt_state (s : State) (ln : Nat) : ((State.startTests s).lineAt ln).state = (s.lineAt ln).state := (((State.startTests_frame s).1 .lnState rfl) ln).1.symm
@[simp] theorem State.startTests_lineAt_stuck (s : State) (ln : Nat) : ((State.startTests s).lineAt ln).stuck = (s.lineAt ln).stuck := (((State.startTests_frame s).1 .lnState rfl) ln).2.1.symm
@[simp] theorem State.startTests_lineAt_badStage (s : State) (ln : Nat) : ((State.startTests s).lineAt ln).badStage = (s.lineAt ln).badStage := (((State.startTests_frame s).1 .lnState rfl) ln).2.2.symm
@[simp] theorem State.startTests_lineAt_optics (s : State) (ln : Nat) : ((State.startTests s).lineAt ln).optics = (s.lineAt ln).optics := (((State.startTests_frame s).1 .lnOptics rfl) ln).1.symm
@[simp] theorem State.startTests_lineAt_optSince (s : State) (ln : Nat) : ((State.startTests s).lineAt ln).optSince = (s.lineAt ln).optSince := (((State.startTests_frame s).1 .lnOptics rfl) ln).2.symm
@[simp] theorem State.startTests_hostAt_rest (s : State) (hn : Nat) : ((State.startTests s).hostAt hn).rest = (s.hostAt hn).rest := (((State.startTests_frame s).1 .hostRest rfl) hn).symm
@[simp] theorem State.startTests_hostAt (s : State) (hn : Nat) : (State.startTests s).hostAt hn = s.hostAt hn := (((State.startTests_frame s).1 .hostTx rfl) hn).symm

theorem State.abortSlice_frame (s : State) (b : SliceBlock) (kept : Nat) (req : Option Requester) : Keep 0x10280000302 s (State.abortSlice s b kept req) := State.abortSlice_keep s b kept req rfl (Keep.refl _ _)
@[simp] theorem State.abortSlice_pending (s : State) (b : SliceBlock) (kept : Nat) (req : Option Requester) : (State.abortSlice s b kept req).pending = s.pending := ((State.abortSlice_frame s b kept req).1 .pending rfl).symm
@[simp] theorem State.abortSlice_fuses (s : State) (b : SliceBlock) (kept : Nat) (req : Option Requester) : (State.abortSlice s b kept req).fuses = s.fuses := ((State.abortSlice_frame s b kept req).1 .fuses rfl).symm
@[simp] theorem State.abortSlice_shut (s : State) (b : SliceBlock) (kept : Nat) (req : Option Requester) : (State.abortSlice s b kept req).shut = s.shut := ((State.abortSlice_frame s b kept req).1 .shut rfl).symm
@[simp] theorem State.abortSlice_mb (s : State) (b : SliceBlock) (kept : Nat) (req : Option Requester) : (State.abortSlice s b kept req).mb = s.mb := ((State.abortSlice_frame s b kept req).1 .mb rfl).symm
@[simp] theorem State.abortSlice_ev_urgent (s : State) (b : SliceBlock) (kept : Nat) (req : Option Requester) : (State.abortSlice s b kept req).ev.urgent = s.ev.urgent := ((State.abortSlice_frame s b kept req).1 .evUrgent rfl).symm
@[simp] theorem State.abortSlice_icu (s : State) (b : SliceBlock) (kept : Nat) (req : Option Requester) : (State.abortSlice s b kept req).icu = s.icu := ((State.abortSlice_frame s b kept req).1 .icu rfl).symm
@[simp] theorem State.abortSlice_hif_l1 (s : State) (b : SliceBlock) (kept : Nat) (req : Option Requester) : (State.abortSlice s b kept req).hif.l1 = s.hif.l1 := ((State.abortSlice_frame s b kept req).1 .hifL1 rfl).symm
@[simp] theorem State.abortSlice_err (s : State) (b : SliceBlock) (kept : Nat) (req : Option Requester) : (State.abortSlice s b kept req).err = s.err := ((State.abortSlice_frame s b kept req).1 .err rfl).symm
@[simp] theorem State.abortSlice_tku (s : State) (b : SliceBlock) (kept : Nat) (req : Option Requester) : (State.abortSlice s b kept req).tku = s.tku := ((State.abortSlice_frame s b kept req).1 .tku rfl).symm
@[simp] theorem State.abortSlice_params (s : State) (b : SliceBlock) (kept : Nat) (req : Option Requester) : (State.abortSlice s b kept req).params = s.params := ((State.abortSlice_frame s b kept req).1 .params rfl).symm
@[simp] theorem State.abortSlice_stats (s : State) (b : SliceBlock) (kept : Nat) (req : Option Requester) : (State.abortSlice s b kept req).stats = s.stats := ((State.abortSlice_frame s b kept req).1 .stats rfl).symm
@[simp] theorem State.abortSlice_group (s : State) (b : SliceBlock) (kept : Nat) (req : Option Requester) : (State.abortSlice s b kept req).group = s.group := ((State.abortSlice_frame s b kept req).1 .group rfl).symm
@[simp] theorem State.abortSlice_port (s : State) (b : SliceBlock) (kept : Nat) (req : Option Requester) : (State.abortSlice s b kept req).port = s.port := ((State.abortSlice_frame s b kept req).1 .port rfl).symm
@[simp] theorem State.abortSlice_block (s : State) (b : SliceBlock) (kept : Nat) (req : Option Requester) : (State.abortSlice s b kept req).block = s.block := ((State.abortSlice_frame s b kept req).1 .block rfl).symm
@[simp] theorem State.abortSlice_hinge (s : State) (b : SliceBlock) (kept : Nat) (req : Option Requester) : (State.abortSlice s b kept req).hinge = s.hinge := ((State.abortSlice_frame s b kept req).1 .hinge rfl).symm
@[simp] theorem State.abortSlice_mem_data (s : State) (b : SliceBlock) (kept : Nat) (req : Option Requester) : (State.abortSlice s b kept req).mem.data = s.mem.data := ((State.abortSlice_frame s b kept req).1 .memData rfl).symm
@[simp] theorem State.abortSlice_rep (s : State) (b : SliceBlock) (kept : Nat) (req : Option Requester) : (State.abortSlice s b kept req).rep = s.rep := ((State.abortSlice_frame s b kept req).1 .rep rfl).symm
@[simp] theorem State.abortSlice_ocu (s : State) (b : SliceBlock) (kept : Nat) (req : Option Requester) : (State.abortSlice s b kept req).ocu = s.ocu := ((State.abortSlice_frame s b kept req).1 .ocu rfl).symm
@[simp] theorem State.abortSlice_cal (s : State) (b : SliceBlock) (kept : Nat) (req : Option Requester) : (State.abortSlice s b kept req).cal = s.cal := ((State.abortSlice_frame s b kept req).1 .cal rfl).symm
@[simp] theorem State.abortSlice_thm (s : State) (b : SliceBlock) (kept : Nat) (req : Option Requester) : (State.abortSlice s b kept req).thm = s.thm := ((State.abortSlice_frame s b kept req).1 .thm rfl).symm
@[simp] theorem State.abortSlice_pmc_ctr (s : State) (b : SliceBlock) (kept : Nat) (req : Option Requester) : (State.abortSlice s b kept req).pmc.ctr = s.pmc.ctr := ((State.abortSlice_frame s b kept req).1 .pmcCtr rfl).symm
@[simp] theorem State.abortSlice_pwr (s : State) (b : SliceBlock) (kept : Nat) (req : Option Requester) : (State.abortSlice s b kept req).pwr = s.pwr := ((State.abortSlice_frame s b kept req).1 .pwr rfl).symm
@[simp] theorem State.abortSlice_fw (s : State) (b : SliceBlock) (kept : Nat) (req : Option Requester) : (State.abortSlice s b kept req).fw = s.fw := ((State.abortSlice_frame s b kept req).1 .fw rfl).symm
@[simp] theorem State.abortSlice_cap (s : State) (b : SliceBlock) (kept : Nat) (req : Option Requester) : (State.abortSlice s b kept req).cap = s.cap := ((State.abortSlice_frame s b kept req).1 .cap rfl).symm
@[simp] theorem State.abortSlice_dev_busRead (s : State) (b : SliceBlock) (kept : Nat) (req : Option Requester) : (State.abortSlice s b kept req).dev.busRead = s.dev.busRead := ((State.abortSlice_frame s b kept req).1 .devBus rfl).symm
@[simp] theorem State.abortSlice_dev_rest (s : State) (b : SliceBlock) (kept : Nat) (req : Option Requester) : (State.abortSlice s b kept req).dev.rest = s.dev.rest := ((State.abortSlice_frame s b kept req).1 .devRest rfl).symm
@[simp] theorem State.abortSlice_hif_rest (s : State) (b : SliceBlock) (kept : Nat) (req : Option Requester) : (State.abortSlice s b kept req).hif.rest = s.hif.rest := ((State.abortSlice_frame s b kept req).1 .hifRest rfl).symm
@[simp] theorem State.abortSlice_mem_rest (s : State) (b : SliceBlock) (kept : Nat) (req : Option Requester) : (State.abortSlice s b kept req).mem.rest = s.mem.rest := ((State.abortSlice_frame s b kept req).1 .memRest rfl).symm
@[simp] theorem State.abortSlice_pmc_rest (s : State) (b : SliceBlock) (kept : Nat) (req : Option Requester) : (State.abortSlice s b kept req).pmc.rest = s.pmc.rest := ((State.abortSlice_frame s b kept req).1 .pmcRest rfl).symm
@[simp] theorem State.abortSlice_dev_mode (s : State) (b : SliceBlock) (kept : Nat) (req : Option Requester) : (State.abortSlice s b kept req).dev.mode = s.dev.mode := ((State.abortSlice_frame s b kept req).1 .devMode rfl).1.symm
@[simp] theorem State.abortSlice_dev_guard (s : State) (b : SliceBlock) (kept : Nat) (req : Option Requester) : (State.abortSlice s b kept req).dev.guard = s.dev.guard := ((State.abortSlice_frame s b kept req).1 .devMode rfl).2.1.symm
@[simp] theorem State.abortSlice_dev_guardSince (s : State) (b : SliceBlock) (kept : Nat) (req : Option Requester) : (State.abortSlice s b kept req).dev.guardSince = s.dev.guardSince := ((State.abortSlice_frame s b kept req).1 .devMode rfl).2.2.symm
@[simp] theorem State.abortSlice_lineAt_lrx_rest (s : State) (b : SliceBlock) (kept : Nat) (req : Option Requester) (ln : Nat) : ((State.abortSlice s b kept req).lineAt ln).lrx.rest = (s.lineAt ln).lrx.rest := (((State.abortSlice_frame s b kept req).1 .lnRx rfl) ln).symm
@[simp] theorem State.abortSlice_lineAt_lrx (s : State) (b : SliceBlock) (kept : Nat) (req : Option Requester) (ln : Nat) : ((State.abortSlice s b kept req).lineAt ln).lrx = (s.lineAt ln).lrx := (((State.abortSlice_frame s b kept req).1 .lnRxPower rfl) ln).symm
@[simp] theorem State.abortSlice_lineAt_sea (s : State) (b : SliceBlock) (kept : Nat) (req : Option Requester) (ln : Nat) : ((State.abortSlice s b kept req).lineAt ln).sea = (s.lineAt ln).sea := (((State.abortSlice_frame s b kept req).1 .lnSea rfl) ln).symm
@[simp] theorem State.abortSlice_lineAt_sdf (s : State) (b : SliceBlock) (kept : Nat) (req : Option Requester) (ln : Nat) : ((State.abortSlice s b kept req).lineAt ln).sdf = (s.lineAt ln).sdf := (((State.abortSlice_frame s b kept req).1 .lnSdf rfl) ln).symm
@[simp] theorem State.abortSlice_lineAt_ltx (s : State) (b : SliceBlock) (kept : Nat) (req : Option Requester) (ln : Nat) : ((State.abortSlice s b kept req).lineAt ln).ltx = (s.lineAt ln).ltx := (((State.abortSlice_frame s b kept req).1 .lnLtx rfl) ln).symm
@[simp] theorem State.abortSlice_lineAt_plt (s : State) (b : SliceBlock) (kept : Nat) (req : Option Requester) (ln : Nat) : ((State.abortSlice s b kept req).lineAt ln).plt = (s.lineAt ln).plt := (((State.abortSlice_frame s b kept req).1 .lnPlt rfl) ln).symm
@[simp] theorem State.abortSlice_lineAt_state (s : State) (b : SliceBlock) (kept : Nat) (req : Option Requester) (ln : Nat) : ((State.abortSlice s b kept req).lineAt ln).state = (s.lineAt ln).state := (((State.abortSlice_frame s b kept req).1 .lnState rfl) ln).1.symm
@[simp] theorem State.abortSlice_lineAt_stuck (s : State) (b : SliceBlock) (kept : Nat) (req : Option Requester) (ln : Nat) : ((State.abortSlice s b kept req).lineAt ln).stuck = (s.lineAt ln).stuck := (((State.abortSlice_frame s b kept req).1 .lnState rfl) ln).2.1.symm
@[simp] theorem State.abortSlice_lineAt_badStage (s : State) (b : SliceBlock) (kept : Nat) (req : Option Requester) (ln : Nat) : ((State.abortSlice s b kept req).lineAt ln).badStage = (s.lineAt ln).badStage := (((State.abortSlice_frame s b kept req).1 .lnState rfl) ln).2.2.symm
@[simp] theorem State.abortSlice_lineAt_optics (s : State) (b : SliceBlock) (kept : Nat) (req : Option Requester) (ln : Nat) : ((State.abortSlice s b kept req).lineAt ln).optics = (s.lineAt ln).optics := (((State.abortSlice_frame s b kept req).1 .lnOptics rfl) ln).1.symm
@[simp] theorem State.abortSlice_lineAt_optSince (s : State) (b : SliceBlock) (kept : Nat) (req : Option Requester) (ln : Nat) : ((State.abortSlice s b kept req).lineAt ln).optSince = (s.lineAt ln).optSince := (((State.abortSlice_frame s b kept req).1 .lnOptics rfl) ln).2.symm
@[simp] theorem State.abortSlice_hostAt_rest (s : State) (b : SliceBlock) (kept : Nat) (req : Option Requester) (hn : Nat) : ((State.abortSlice s b kept req).hostAt hn).rest = (s.hostAt hn).rest := (((State.abortSlice_frame s b kept req).1 .hostRest rfl) hn).symm
@[simp] theorem State.abortSlice_hostAt (s : State) (b : SliceBlock) (kept : Nat) (req : Option Requester) (hn : Nat) : (State.abortSlice s b kept req).hostAt hn = s.hostAt hn := (((State.abortSlice_frame s b kept req).1 .hostTx rfl) hn).symm

end Sys2Proof.Machine
end

