-- ==== Sys2Proof/WellFormed.lean ====
section
/-! DEFINITION. The ranges of the commands' operands: numbers that name an element on no member of the family, lists of
another length than the spec's, and sentences that no host software could write are ill-formed (R10, R442, R450). -/

namespace Sys2Proof

/-- A memory region number (R523, R524). -/
def regionNo (n : Nat) : Bool := decide (n ≤ 4) || decide (8 ≤ n ∧ n ≤ 11)

/-- An aligned register offset of a requester's space (R474, R475, R494). -/
def regOff (r : Requester) (off : Nat) : Bool :=
  decide (off % 4 = 0) &&
    match r with
    | .pf0 => decide (off < 0x400000)
    | .pf1 => decide (off < 0x100000)
    | .mgt => decide (off < 0x3000)

/-- The residuals of a slice: the slice exists, and the commonest value occurs at most as often as there are codes. -/
def residOk (r : SliceResid) : Bool := decide (r.slice < 65 ∧ r.same ≤ r.codes)

/-- An LMS update: 32 tap inputs that are ADC codes (R67, R98). -/
def lmsOk (u : Int × List Int) : Bool := decide (u.2.length = 32) && u.2.all fun x => decide (-128 ≤ x ∧ x ≤ 127)

/-- A histogram of 9-bit samples (R67). -/
def histOk (h : List (Int × Nat)) : Bool := h.all fun p => decide (-256 ≤ p.1 ∧ p.1 ≤ 255)

/-- A block that in-service slices test (R639). -/
def sliceOk : SliceBlock → Bool
  | .engine e => decide (e < 256)
  | .bank b => decide (b < 34)

/-- A word of LPDDR5X, and a syndrome that can be correctable: odd weight, not 7 bits set (R524, R526). -/
def upsetOk (u : Nat × Option Nat) : Bool :=
  decide (u.1 % 8 = 0 ∧ u.1 < 0xE0000000) &&
    match u.2 with
    | none => true
    | some syn =>
      let w := ((List.range 8).filter syn.testBit).length
      decide (syn < 256) && (w == 1 || w == 3 || w == 5)

/-- A sentence that fits its mailbox (R441, R442). -/
def Sentence.wf (m : Sentence) : Bool :=
  decide (m.words.length ≤ 1008) &&
    match m.req with
    | .mgt => decide (m.mbx < 2)
    | _ => decide (m.mbx < 16)

/-- A read of SRAM names the region that the reader reads, and a syndrome of 7 bits. -/
def sramOk (g : Nat) (u : SramRead) : Bool := u.region == g && u.syn.all fun x => decide (0 < x ∧ x < 127)

/-- The row of a local-memory fault belongs to the engine. -/
def condOk (e : Nat) (c : EngineCond) : Bool :=
  match c with
  | .localMemory _ r => r / 256 == e
  | _ => true

/-- A well-formed command. -/
def Instr.wf : Instr → Bool
  | .registerWrite r off _ _ => regOff r off
  | .bar0WideRead _ _ dwords => decide (2 ≤ dwords)
  | .readLoSnapshot r off => regOff r off
  | .tkuBcntLoRead _ => true
  | .tkuIncLoWrite _ _ _ => true
  | .tkuIncHiWrite _ _ _ => true
  | .tkuStepGoA _ => true
  | .tkuStepGoB _ _ => true
  | .tkuDomSelWrite _ _ => true
  | .tkuStatusClear _ _ _ => true
  | .icuClaimRead _ vec => decide (vec < 64)
  | .icuCompleteWrite _ _ => true
  | .icuLevelRead _ => true
  | .icuEnableWrite _ _ => true
  | .icuPmeCauseClear _ _ _ => true
  | .msixUnmask _ vec => (vec.all fun v => decide (v < 64))
  | .pmcValueLoRead _ => true
  | .pmcGroupLatchGo _ => true
  | .dmaTailWrite _ ch _ => decide (ch < 4)
  | .dmaStatusClear _ ch _ _ => decide (ch < 4)
  | .errStickyRead _ _ => true
  | .idErrRead _ _ => true
  | .mgtMbxStatusRead n => decide (n < 2)
  | .mgtTransferDiscarded => true
  | .i3cDynamicAddress _ => true
  | .i3cRstdaa => true
  | .ibiDeclined => true
  | .bar2Read _ off dwords ups => decide (off % 4 = 0 ∧ 0 < dwords ∧ dwords ≤ 1024) && ups.all upsetOk
  | .bar2Write _ off bytes ups => decide (off % 4 = 0 ∧ bytes.length ≤ 512) && ups.all upsetOk
  | .echoEntryExpiry region _ => regionNo region
  | .repairCopyDone region => regionNo region
  | .marchTestDone region _ => regionNo region
  | .repairRecordAppend => true
  | .refreshCommand die => decide (die < 2)
  | .vinValid _ _ => true
  | .railInRegulation => true
  | .pgoodReleaseTimer => true
  | .fuseMapLoaded _ => true
  | .memoryFillDone _ => true
  | .firmwareLoadDone _ => true
  | .repairRecordApplied _ => true
  | .startUpComplete => true
  | .vinUndervoltage _ => true
  | .vinPowerDown => true
  | .inputOvervoltage => true
  | .enFall => true
  | .enRise => true
  | .sysRstNAct => true
  | .sysRstNRelease => true
  | .railFault rail _ => decide (rail < 9)
  | .railCurrentDwell rail _ => decide (rail < 9)
  | .backstopTrip => true
  | .laneRefclkAbsent => true
  | .laneRefclkPresent => true
  | .perstNAssert => true
  | .functionLevelReset _ => true
  | .hotReset => true
  | .linkDown => true
  | .linkUp _ _ => true
  | .enterD3hot _ => true
  | .enterD0 _ => true
  | .enterD3cold _ => true
  | .aspmL1Entry => true
  | .tapTakeoverLoad _ => true
  | .tapRelease => true
  | .eventRaised _ => true
  | .coalescingTimerExpiry _ vec => decide (vec < 64)
  | .datapathPowered rates => decide (rates.length ≤ 4)
  | .losAssert l => decide (l < 8)
  | .losClear l => decide (l < 8)
  | .receiverPowerSettled l => decide (l < 8)
  | .agcSettled l _ => decide (l < 8)
  | .sliceCorrectionConverged l => decide (l < 8)
  | .timingRecoveryLocked l _ => decide (l < 8)
  | .ffeConverged l ups => decide (l < 8) && ups.all lmsOk
  | .acquisitionTimeout l => decide (l < 8)
  | .estimatePeriodEnd l q e _ => decide (l < 8) && histOk q.hist && decide (e.echoes.length ≤ 4)
  | .snrWindowEnd l _ => decide (l < 8)
  | .timingFrequencyOutOfRange l => decide (l < 8)
  | .backgroundWindowEnd l rs ups => decide (l < 8) && rs.all residOk && ups.all lmsOk
  | .rotationStepStart l => decide (l < 8)
  | .shadowComparisonDone l _ => decide (l < 8)
  | .rotationSwitch l => decide (l < 8)
  | .transomCalibrationDone l _ => decide (l < 8)
  | .captureStartCondition => true
  | .captureSegmentStart => true
  | .captureSegmentDrained samples _ ecc => decide (samples.length ≤ 2097152) && ecc.all (sramOk 2)
  | .blockEntersFifo l codes => decide (l < 8) && decide (codes.length ≤ 960) && codes.all fun x => decide (-128 ≤ x ∧ x ≤ 127)
  | .blockRelease l late ecc => decide (l < 8) && (late.all fun x => decide (x < 15)) && ecc.all fun u => sramOk 1 u || sramOk 4 u
  | .fifoWatermarkCrossed l => decide (l < 8)
  | .fifoOverflow l => decide (l < 8)
  | .slackReport slack rates => decide (slack.length ≤ 4 ∧ rates.length ≤ 4)
  | .loweringDwellExpiry => true
  | .vcoreReductionAnnounced => true
  | .vcoreStepSettled rates => decide (rates.length ≤ 4)
  | .planBlockBoundary l => decide (l < 8)
  | .raiseDwellExpiry => true
  | .swapStaged l => decide (l < 8)
  | .shadowSettleEnd l _ => decide (l < 8)
  | .swapComparisonDone l _ _ => decide (l < 8)
  | .swapSwitch l => decide (l < 8)
  | .shadowReturn l => decide (l < 8)
  | .coefficientPush l _ => decide (l < 8)
  | .shadowRefresh e => decide (e < 256)
  | .engineFault e c => decide (e < 256) && condOk e c
  | .adaptEngineFault e c => decide (e < 256) && condOk e c
  | .huntTestDone l hard rel _ => decide (l < 8) && decide (hard.map List.length = rel.map List.length) && decide (hard.length = 4) &&
      rel.all fun xs => xs.all fun x => decide (x.1 ≤ 15 ∧ x.2 ≤ 15)
  | .lockWindowEnd l zeros => decide (l < 8) && decide (zeros.length = 4)
  | .innerCodewordDecode l ys after => decide (l < 8) && decide (ys.length ≤ 352 ∧ after.length ≤ 64) &&
      (ys ++ after).all fun y => decide (-256 ≤ y ∧ y ≤ 255)
  | .rsCodewordDecode l r => decide (l < 8) && decide (r.length = 544) && r.all fun x => decide (x < 1024)
  | .sdfPeriodEnd l syms => decide (l < 8) && syms.all fun x => decide (x.1 < 64 ∧ -256 ≤ x.2 ∧ x.2 ≤ 255)
  | .fixedStageFault _ _ _ => true
  | .ltxSettingsApply l bits => decide (l < 8) && decide (bits.length ≤ 544)
  | .swingStep l => decide (l < 8)
  | .dacSettled l => decide (l < 8)
  | .opticsReady l => decide (l < 8)
  | .opticsSettleTimeout l => decide (l < 8)
  | .opticsRetryTimer l => decide (l < 8)
  | .rampUpEnd l => decide (l < 8)
  | .rampDownEnd l => decide (l < 8)
  | .dacCellFailure l cell _ => decide (l < 8) && decide (cell < 16)
  | .opticsReleaseTimer l => decide (l < 8)
  | .axRampUpdate c => decide (c ≤ 32)
  | .monitorOutputSample c x _ => decide (c < 64) && decide (x ≤ 65535)
  | .loopUpdate i => decide (i < 32)
  | .axCoreFault c cause => decide (c ≤ 32) && decide (cause < 2)
  | .axOutputStageFailure c => decide (c ≤ 32)
  | .handoverSwitch c => decide (c < 32)
  | .coreCalibrationDone c => decide (c ≤ 32)
  | .pilotPacketStart l => decide (l < 8)
  | .pilotPacketEnd l => decide (l < 8)
  | .beaconIntervalExpiry l => decide (l < 8)
  | .syncDetection l _ _ _ => decide (l < 8)
  | .headerDecoded l hdr => decide (l < 8) && decide (hdr.length = 4)
  | .bodyDecoded l _ _ _ _ => decide (l < 8)
  | .peerTimeout l => decide (l < 8)
  | .hslSignalDetect h => decide (h < 16)
  | .hslClockRecoveryLocked h _ => decide (h < 16)
  | .trainingFrameLock h _ => decide (h < 16)
  | .trainingWaitExpiry h => decide (h < 16)
  | .trainingMeasurementDone h _ _ => decide (h < 16)
  | .partnerRequest h _ => decide (h < 16)
  | .trainingComplete h => decide (h < 16)
  | .trainingTimeout h => decide (h < 16)
  | .hslEqualisationConverged h snrs ffe dfe => decide (h < 16) && decide (snrs.length = 19) && decide (ffe.length = 24) &&
      (dfe :: ffe).all fun c => decide (-512 ≤ c ∧ c ≤ 511)
  | .markerHuntDone h _ _ _ => decide (h < 16)
  | .signalLoss h => decide (h < 16)
  | .hslSnrWindowEnd h _ _ => decide (h < 16)
  | .elasticBufferSlip h _ => decide (h < 16)
  | .amLockLoss h _ => decide (h < 16)
  | .hslPeriodEnd h _ offset lo hi ups _ _ => decide (h < 16) && decide (lo ≤ offset ∧ offset ≤ hi) &&
      ups.all fun u => decide (u.xs.length = 24) && u.xs.all fun x => decide (-64 ≤ x ∧ x ≤ 63)
  | .faultRecoveryTimer h => decide (h < 16)
  | .warmAcquisitionTimeout h => decide (h < 16)
  | .blockReceived p d _ => decide (p < 8) && decide (d < 2)
  | .blockLockWindowEnd p d => decide (p < 8) && decide (d < 2)
  | .frameParsed p d f => decide (p < 8) && decide (d < 2) && f.ecc.all fun u => sramOk 1 u || sramOk 3 u
  | .portStartTimeout p => decide (p < 8)
  | .keyInsertion => true
  | .earlyDrainDone ecc => ecc.all (sramOk 3)
  | .dumpIntervalExpiry _ kept => decide (kept < 6)
  | .dumpPassComplete ecc => ecc.all (sramOk 3)
  | .spareBankFillDone b => decide (b < 34)
  | .logMarkerTimer => true
  | .pmcDumpIntervalExpiry _ kept => decide (kept < 6)
  | .pmcDumpWritten => true
  | .sampleIntervalExpiry e cat _ _ _ => decide (e < 256) && decide (1 ≤ cat ∧ cat ≤ 5)
  | .dmaRecordWritten ch src => decide (ch < 4) && decide (src < 6)
  | .thermalReading conv mr4 => decide (conv.length = 16 ∧ mr4.length = 2)
  | .calIntervalExpiry b => decide (b ≤ 96)
  | .calibrationRunStart b => decide (b ≤ 96)
  | .measurementPairDone b _ _ => decide (b ≤ 96)
  | .ltxCalStep l => decide (l < 8)
  | .monconvFrame => true
  | .calDueTimer b => decide (b ≤ 96)
  | .targetedTestDone _ _ => true
  | .testSliceStart b => sliceOk b
  | .sliceTestDone b _ => sliceOk b
  | .coverageTimer b => sliceOk b
  | .imageCheckDone _ _ _ => true
  | .fwImageWritten _ => true
  | .paneLoaded _ => true
  | .firmwareStateSaved => true
  | .newPaneResumed => true
  | .paneMarkedActive => true
  | .paneSwitchTimeout => true
  | .shutterFlushDone => true
  | .shutterDeadlineExpiry => true
  | .shutterLogSaved => true
  | .shutterHoldEnd => true
  | .shutdownBistDone _ => true
  | .shutterPowerDown => true
  | .getDevMode m => m.wf
  | .enterDevMode m => m.wf
  | .shutterDevMode m => m.wf
  | .enterLaneTest m => m.wf
  | .leaveLaneTest m => m.wf
  | .getDevFeature m => m.wf
  | .negotiateDevFeature m => m.wf
  | .receiveDevEvent m => m.wf
  | .getMbxStats m => m.wf
  | .clearMbxStats m => m.wf
  | .loadFwImage m => m.wf
  | .getFwImage m => m.wf
  | .grantPf1Grant m => m.wf
  | .revokePf1Grant m => m.wf
  | .getPf1Grant m => m.wf
  | .getLrxCfg m => m.wf
  | .setLrxCfg m => m.wf
  | .getLrxStatus m => m.wf
  | .getLrxQuality m => m.wf
  | .getLrxEstimate m => m.wf
  | .getLrxSlices m => m.wf
  | .restartLrxAcq m => m.wf
  | .captureLrxCapture m => m.wf
  | .abortLrxCapture m => m.wf
  | .getSeaPolicy m => m.wf
  | .setSeaPolicy m => m.wf
  | .getSeaHinge m => m.wf
  | .setSeaHinge m => m.wf
  | .getSeaPlacement m => m.wf
  | .getSeaEngines m => m.wf
  | .getSeaKernel m => m.wf
  | .loadSeaKernel m => m.wf
  | .selectSeaKernel m => m.wf
  | .getSeaKparam m => m.wf
  | .setSeaKparam m => m.wf
  | .getSdfCfg m => m.wf
  | .setSdfCfg m => m.wf
  | .getSdfStatus m => m.wf
  | .getSdfStats m => m.wf
  | .getSdfDetector m => m.wf
  | .restartSdfHunt m => m.wf
  | .getLtxCfg m => m.wf
  | .setLtxCfg m => m.wf
  | .getLtxStatus m => m.wf
  | .squelchLtxOut m => m.wf
  | .releaseLtxOut m => m.wf
  | .getHslCfg m => m.wf
  | .setHslCfg m => m.wf
  | .getHslGroup m => m.wf
  | .setHslGroup m => m.wf
  | .getHslStatus m => m.wf
  | .getHslQuality m => m.wf
  | .restartHslTrain m => m.wf
  | .getPfxBlocklock m => m.wf
  | .getPortCfg m => m.wf
  | .setPortCfg m => m.wf
  | .deletePortCfg m => m.wf
  | .startPort m => m.wf
  | .stopPort m => m.wf
  | .getPortStatus m => m.wf
  | .getPltCfg m => m.wf
  | .setPltCfg m => m.wf
  | .sendPltPacket m => m.wf
  | .receivePltPacket m => m.wf
  | .getPltPeer m => m.wf
  | .setPltPeer m => m.wf
  | .getPltStatus m => m.wf
  | .getLexCfg m => m.wf
  | .setLexCfg m => m.wf
  | .getLexPort m => m.wf
  | .setLexPort m => m.wf
  | .getLexContext m => m.wf
  | .insertLexContext m => m.wf
  | .deleteLexContext m => m.wf
  | .flushLexDump m => m.wf
  | .getLexStats m => m.wf
  | .getTkuDomain m => m.wf
  | .setTkuDomain m => m.wf
  | .getTkuPort m => m.wf
  | .setTkuPort m => m.wf
  | .getTkuStats m => m.wf
  | .getHifLink m => m.wf
  | .getHifWindow m => m.wf
  | .setHifWindow m => m.wf
  | .getHifDma m => m.wf
  | .setHifDma m => m.wf
  | .getHifMgt m => m.wf
  | .getIcuEvent m => m.wf
  | .setIcuEvent m => m.wf
  | .getIcuMgt m => m.wf
  | .setIcuMgt m => m.wf
  | .getMemCfg m => m.wf
  | .setMemCfg m => m.wf
  | .getMemStatus m => m.wf
  | .getMemEcho m => m.wf
  | .getMemSpares m => m.wf
  | .getMemStats m => m.wf
  | .getOcuAx m => m.wf
  | .setOcuAx m => m.wf
  | .getOcuCode m => m.wf
  | .setOcuCode m => m.wf
  | .getOcuMn m => m.wf
  | .setOcuMn m => m.wf
  | .getOcuLoop m => m.wf
  | .setOcuLoop m => m.wf
  | .getOcuLane m => m.wf
  | .getOcuStats m => m.wf
  | .getCalCfg m => m.wf
  | .setCalCfg m => m.wf
  | .getCalBlock m => m.wf
  | .runCalBlock m => m.wf
  | .clearCalBlock m => m.wf
  | .getThmCfg m => m.wf
  | .setThmCfg m => m.wf
  | .getThmSensor m => m.wf
  | .ackThmSensor m => m.wf
  | .getThmStatus m => m.wf
  | .clearThmStatus m => m.wf
  | .getFwPane m => m.wf
  | .switchFwPane m => m.wf
  | .getTstCfg m => m.wf
  | .setTstCfg m => m.wf
  | .getTstStatus m => m.wf
  | .getTstVerdicts m => m.wf
  | .getRepRecord m => m.wf
  | .getRelYields m => m.wf
  | .getPmcCounter m => m.wf
  | .setPmcCounter m => m.wf
  | .clearPmcCounter m => m.wf
  | .getPmcDump m => m.wf
  | .setPmcDump m => m.wf
  | .flushPmcDump m => m.wf
  | .getPmcSample m => m.wf
  | .setPmcSample m => m.wf
  | .getPwrCfg m => m.wf
  | .setPwrCfg m => m.wf
  | .getPwrStatus m => m.wf
  | .clearPwrStatus m => m.wf
  | .getPwrRail m => m.wf
  | .bcntTick => true
  | .mbxDoorbellRing _ _ m => m.wf
  | .amLockRegained h => decide (h < 16)
  | .perstNDeassert => true

end Sys2Proof
end

