-- ==== Sys2Proof/Tests/Slice0.lean ====
section
/-! SUPPORT. Tests: ill-formed commands that the checks refuse, small runs with their results worked out from the spec, and for
every statement with hypotheses a state and operands that meet them (`test_met_…`). -/

section

-- One after the other, in the memory of one.
set_option Elab.async false

open Sys2Proof Sys2Proof.Machine

/-! ## States and operands that meet the statements' hypotheses

`Met p` says that every hypothesis of `p`, clause by clause, is met by a concrete state and concrete operands: a universal
statement by a value, an implication by a proof of what it assumes, a conjunction in both parts. A conclusion (a next state
that exists, or an equation) needs nothing more. -/

/-- The premises of a sentence that is taken, as one test. -/
theorem takes_of_test (c : CmdSpec) (m : Sentence) (s : State)
    (h : (s.reach m.req m.mbx = true ∧ (s.boxAt m.req m.mbx).state ≠ .busy ∧ s.begins = true ∧ s.dev.mode ≠ .startFailed ∧
      (m.len.toNat + 3) / 4 ≤ m.words.length ∧ m.words.length ≤ 1008) ∧ commonCheck c m (payloadOf m) s = none) : s.Takes c m :=
  ⟨h.1.1, h.1.2.1, h.1.2.2.1, h.1.2.2.2.1, h.1.2.2.2.2.1, h.1.2.2.2.2.2, h.2⟩

inductive Met : Prop → Prop where
  /-- Both parts. -/
  | both {p q : Prop} (hp : Met p) (hq : Met q) : Met (p ∧ q)
  /-- A value for a universal statement. -/
  | all {α : Type} {p : α → Prop} (a : α) (h : Met (p a)) : Met (∀ x, p x)
  /-- A hypothesis that holds. -/
  | when {p q : Prop} (hq : Met q) (hp : p := by decide +kernel) : Met (p → q)
  /-- A conclusion: something exists. -/
  | answers {α : Type} {p : α → Prop} : Met (∃ x, p x)
  /-- A conclusion: an equation. -/
  | equals {α : Type} {a b : α} : Met (a = b)
  /-- A conclusion: a bound. -/
  | less {a b : Nat} : Met (a < b)
  /-- A state that meets a command's premise. -/
  | run {c : Instr} {pre : State → Prop} {post : State → State → Prop} (s : State) (h : pre s := by decide +kernel) :
      Met (Completes c pre post)
  /-- A sentence and a state that meet a mailbox command's premises. -/
  | carry {c : Sentence → Instr} {k : CmdSpec} {pre : Sentence → State → Prop} {post : Sentence → State → State → Prop}
      (m : Sentence) (s : State) (ht : s.Takes k m := by exact takes_of_test _ _ _ (by decide +kernel))
      (hc : m.check = false := by decide +kernel) (h : pre m s := by decide +kernel) : Met (Carries c k pre post)
  /-- A sentence and a state that meet a GET's premises. -/
  | read {c : Sentence → Instr} {k : CmdSpec} {f : State → Nat → List Word} (m : Sentence) (s : State)
      (ht : s.Takes k m := by exact takes_of_test _ _ _ (by decide +kernel)) : Met (Reads c k f)

/-- The premises `s.Takes` and `m.check = false` of a statement that names them. -/
theorem Met.taken {p : Prop} {c : CmdSpec} {m : Sentence} {s : State} (h : Met p)
    (ht : s.Takes c m := by exact takes_of_test _ _ _ (by decide +kernel)) : Met (s.Takes c m → p) := .when h ht

/-- A sentence of PF0's mailbox 0 with this instance and payload. -/
def say (inst : BitVec 8) (words : List Word) : Sentence :=
  { req := .pf0, mbx := 0, adverbs := 1, inst := inst, tag := 0, len := BitVec.ofNat 12 (4 * words.length), words := words }

/-- PF0 can reach its registers. -/
def busUp : State := { dev := { pfEnabled := true }, hif := { linkUp := true } }

/-- PF0's mailboxes are open in this mode. -/
def opened (m : Mode) : State := { dev := { mode := m, isOpen := true, pfEnabled := true }, hif := { linkUp := true } }

/-- A block whose second codeword has one wrong bit, its first, and no reliability (R181). -/
def oneWrongBit : List SoftSymbol :=
  [{ first := false, second := false, d1 := 0, d2 := 0 }, { first := true, second := false, d1 := 0, d2 := 0 }]

/-- The same with both bits of the symbol wrong: a syndrome of degree 167. -/
def oneWrongSymbol : List SoftSymbol :=
  [{ first := false, second := false, d1 := 0, d2 := 0 }, { first := true, second := true, d1 := 0, d2 := 0 }]

/-- Four streams of forty-one codewords of zeros, one after the other: hard bits and reliabilities (R202). -/
def zeroBits : List (List (Bool × Bool)) := List.replicate 4 (List.replicate 2952 (false, false))
def zeroRel : List (List (Nat × Nat)) := List.replicate 4 (List.replicate 2952 (0, 0))

/-- A word of zeros but for its last symbol: one symbol error (R209). -/
def oneSymbolError : List Nat := List.replicate 543 0 ++ [1]

theorem gfMul_zero_left (b : Nat) : gfMul 0 b = 0 := by
  have h : ∀ l : List Nat, (l.foldl (fun (p : Nat × Nat) k => (if b.testBit k then p.1 ^^^ p.2 else p.1, gfStep p.2)) (0, 0)) = (0, 0) := by
    intro l
    induction l with
    | nil => rfl
    | cons k l ih => rw [List.foldl_cons]; simpa [gfStep] using ih
  exact congrArg Prod.fst (h _)

theorem foldl_zeros (p n : Nat) : (List.replicate n 0).foldl (fun a x => gfMul a p ^^^ x) 0 = 0 := by
  induction n with
  | zero => rfl
  | succ n ih => simpa [List.replicate_succ, gfMul_zero_left] using ih

theorem rsSyndromes_last (x : Nat) : rsSyndromes (List.replicate 543 0 ++ [x]) = List.replicate 30 x := by
  unfold rsSyndromes
  simp only [List.foldl_append, foldl_zeros, List.foldl_cons, List.foldl_nil, gfMul_zero_left, Nat.zero_xor, List.map_const',
    List.length_range]

theorem getD_last (n x : Nat) : (List.replicate n 0 ++ [x]).getD n 0 = x := by simp

theorem set_last (n x y : Nat) : (List.replicate n 0 ++ [x]).set n y = List.replicate n 0 ++ [y] := by
  rw [List.set_append_right _ _ (by simp)]
  simp

theorem locator_of_one : rsLocator (List.replicate 30 1) 30 = ([1, 1], [1], 1, 30, 1) := by decide +kernel
theorem value_of_one : rsValue (List.replicate 30 1) [1, 1] 543 = 1 := by decide +kernel
theorem roots_of_one : rsRoots [1, 1] = [543] := by
  have e : List.range 544 =
      List.range' 0 136 ++ (List.range' 136 136 ++ (List.range' 272 136 ++ List.range' 408 136)) := by
    rw [List.range_eq_range', List.range'_append_1, List.range'_append_1, List.range'_append_1]
  have h : ∀ s, s = 0 ∨ s = 136 ∨ s = 272 → (List.range' s 136).filter
      (fun i => gfEval [1, 1] (gfPow 2 ((1023 - (543 - i)) % 1023)) == 0) = [] := by
    rintro s (rfl | rfl | rfl) <;> decide +kernel
  have l : (List.range' 408 136).filter
      (fun i => gfEval [1, 1] (gfPow 2 ((1023 - (543 - i)) % 1023)) == 0) = [543] := by decide +kernel
  unfold rsRoots
  rw [e, List.filter_append, List.filter_append, List.filter_append, h 0 (.inl rfl), h 136 (.inr (.inl rfl)),
    h 272 (.inr (.inr rfl)), l]
  rfl

theorem rsDecode_corrects {r syn c b at_ fixed : List Nat} {len m bd : Nat} (hs : rsSyndromes r = syn)
    (h0 : syn.all (· == 0) = false) (hl : rsLocator syn 30 = (c, b, len, m, bd)) (hr : rsRoots c = at_)
    (hn : ¬(15 < len ∨ at_.length ≠ len)) (hf : at_.foldl (fun w i => w.set i (w.getD i 0 ^^^ rsValue syn c i)) r = fixed)
    (hz : (rsSyndromes fixed).all (· == 0) = true) : rsDecode r = some (fixed, len) := by
  subst hs hr hf
  unfold rsDecode
  simp only [h0, hl, hn, hz, if_true, if_false, Bool.false_eq_true]

/-- The decoder finds the error and corrects it. -/
theorem rsDecode_oneSymbolError : rsDecode oneSymbolError = some (List.replicate 543 0 ++ [0], 1) := by
  refine rsDecode_corrects (rsSyndromes_last 1) (by decide) locator_of_one roots_of_one (by decide) ?_ ?_
  · rw [List.foldl_cons, List.foldl_nil, value_of_one]
    unfold oneSymbolError
    rw [getD_last, set_last]
    rfl
  · rw [rsSyndromes_last]
    decide

theorem test_met_TimekeepingRegistersComplete : Met Obligations.TimekeepingRegistersComplete :=
  .both (.both (.all .pf0 <| .all busUp <| .when <| .when <| .answers) <|
  .both (.all .a <| .all 0 <| .all busUp <| .when <| .when <| .answers) <|
  .both (.all .a <| .all 25 <| .all busUp <| .when <| .when <| .answers) <|
  .both (.all busUp <| .when <| .answers) <|
  .both (.all true <|
    .all { dev := { accepted := 0xFFFFFFFFFFFFFFFFFFFFFFFFFFFFFFFF, pfEnabled := true }, hif := { linkUp := true } } <|
    .when <| .when <| .answers) <|
  .both (.all 0 <| .all busUp <| .when <| .when <| .answers) <|
  .all 0 <| .all 0 <| .all busUp <| .when <| .answers) <|
  .both (.all (.tkuStepGoA .pf1) <| .all busUp <| .when (.when .answers) (.inr (.inr (.inl rfl)))) <|
  .all (.tkuBcntLoRead .mgt) <| .all { dev := { mgtUp := true } } <| .when .equals (.inl rfl)

theorem test_met_InterruptRegistersComplete : Met Obligations.InterruptRegistersComplete :=
  .both (.all .pf0 <| .all 0 <| .all busUp <| .when <| .when <| .when <| .answers) <|
  .both (.all .pf0 <| .all 0 <| .all busUp <| .when <| .when <| .answers) <|
  .both (.all .pf0 <| .all busUp <| .when <| .when <| .answers) <|
  .both (.all .pf0 <| .all 0 <| .all busUp <| .when <| .when <| .answers) <|
  .both (.all .pf0 <| .all 0 <| .all 0 <| .all busUp <| .when <| .when <| .answers) <|
  .both (.all .pf0 <| .all 0 <| .all busUp <| .when <| .when <| .when <| .answers) <|
  .all .pf0 <| .all busUp <| .when <| .when <| .answers

theorem test_met_RegisterAccessesComplete : Met Obligations.RegisterAccessesComplete :=
  .both (.all .pf0 <| .all 0 <| .all 0 <| .all busUp <| .when <| .when <| .answers) <|
  .both (.all .pf0 <| .all 0x20018 <| .all 0 <| .all busUp <| .when <| .when <| .answers) <|
  .both (.all .pf0 <| .all 0 <| .all busUp <| .when <| .when <| .when <| .when <| .when <| .when <| .answers) <|
  .both (.all .pf0 <| .all busUp <| .when <| .when <| .when <| .when <| .answers) <|
  .both (.all .pf0 <| .all busUp <| .when <| .when <| .when <| .answers) <|
  .both (.all .pf0 <| .all 0 <| .all 0x80000040 <|
    .all { dev := { pfEnabled := true }, hif := { linkUp := true, dma := [(0, { size := 4096, head := 128 })] } } <|
    .when <| .when <| .when <| .when <| .answers) <|
  .both (.all .pf0 <| .all 0 <| .all 65 <| .all busUp <| .when <| .when <| .when <| .when <| .answers) <|
  .both (.all .pf0 <| .all 0 <| .all 0 <| .all 0 <| .all busUp <| .when <| .when <| .when <| .answers) <|
  .both (.all .pf0 <| .all busUp <| .when <| .when <| .answers) <|
  .both (.all .pf0 <| .all busUp <| .when <| .answers) <|
  .both (.all 0 <| .all { dev := { mgtUp := true } } <| .when <| .when <| .answers) <|
  .both (.all { dev := { mgtUp := true } } <| .when <| .answers) <|
  .both (.all 0 <| .all { dev := { mgtUp := true } } <| .when <| .answers) <|
  .both (.all { dev := { mgtUp := true } } <| .when <| .answers) <|
  .all { dev := { mgtUp := true }, icu := [(2, { src := [(16, { state := .pending })] })], hif := { i3c := true } } <|
    .when <| .when <| .when <| .answers

theorem test_met_RegisterWriteCompletes : Met Obligations.RegisterWriteCompletes :=
  .both (.all .pf0 <| .all 0 <| .all 0 <| .all busUp <| .when <| .answers) <|
  .both (.all .pf0 <| .all 0 <| .all 0 <| .all busUp <| .when <| .when <| .when <| .answers) <|
  .both (.all .pf0 <| .all 0 <| .all 0 <| .all 0 <| .all busUp <| .when <| .when <| .when <| .when <| .answers) <|
  .both (.all .pf0 <| .all 0 <| .all 0 <|
    .all { dev := { pfEnabled := true }, mb := { box := [(0, { state := .busy })] }, hif := { linkUp := true } } <|
    .when <| .when <| .when <| .answers) <|
  .both (.all 0 <| .all busUp <| .when <| .answers) <|
  .both (.all 0 <| .all busUp <| .when <| .answers) <|
  .both (.all .pf0 <| .all 0 <| .all busUp <| .when <| .when <| .when <| .answers) <|
  .all .pf0 <| .all 0 <| .all 0 <| .all busUp <| .when <| .when <| .when <| .answers

theorem test_met_RegisterReadsReturnWhatWasWritten : Met Obligations.RegisterReadsReturnWhatWasWritten :=
  .both (.all .pf0 <| .all 0 <| .all 5 <| .all 77 <| .all busUp <| .when <| .when <| .when <| .when <| .answers) <|
  .both (.all 0 <| .all busUp <| .when <| .answers) <|
  .both (.all .pf0 <| .all 0 <| .all busUp <| .when <| .when <| .answers) <|
  .all .pf0 <| .all 0 <| .all busUp <| .when <| .when <| .answers

theorem test_met_AcquisitionStepsComplete : Met Obligations.AcquisitionStepsComplete :=
  .both (.all 0 <| .run { line := [(0, { state := .acquire, lrx := { power := .full, step := 1 } })] }) <|
  .both (.all 1 <| .all ([560]) <|
    .run { params := [(0x100101, 37)], line := [(1, { state := .fault, lrx := { power := .full, step := 2 } })] }) <|
  .both (.all 0 <| .all [] <|
    .run { params := [(0x100000, 0)], line := [(0, { state := .acquire, lrx := { power := .full, step := 2 } })] }) <|
  .both (.all 0 <| .run { line := [(0, { state := .acquire, lrx := { power := .full, step := 3 } })] }) <|
  .both (.all 0 <| .all 2000 <| .run { line := [(0, { state := .acquire, lrx := { power := .full, step := 4 } })] }) <|
  .both (.all 0 <| .all [] <| .run { line := [(0, { state := .acquire, lrx := { power := .full, step := 5 } })] }) <|
  .all 0 <| .run { line := [(0, { state := .acquire, lrx := { power := .full, step := 1 } })] }

theorem test_met_LossOfSignalAndLockComplete : Met Obligations.LossOfSignalAndLockComplete :=
  .both (.all 0 <| .run { dev := { mode := .provisioned }, line := [(0, { lrx := { power := .full } })] }) <|
  .both (.all 0 <| .run { line := [(0, { lrx := { power := .full, los := true } })] }) <|
  .both (.all 0 <| .all 0 <|
    .run { dev := { mode := .provisioned }, line := [(0, { state := .up, lrx := { lowSnr := 2 } })] }) <|
  .both (.all 0 <| .all 0 <| .run { line := [(0, { state := .up })] }) <|
  .all 0 <| .run { dev := { mode := .provisioned }, line := [(0, { state := .up })] }

theorem test_met_EstimatesAndSlicesComplete : Met Obligations.EstimatesAndSlicesComplete :=
  .both (.all 0 <| .all ({ hist := [], clips := 0, freq := 0 }) <|
    .all ({ n := 0, dLin := 0, dNl2 := 0, dNl3 := 0, echoes := [] }) <| .all [] <|
    .run { line := [(0, { state := .up, lrx := { power := .full } })] }) <|
  .both (.all 0 <| .all ({ hist := [], clips := 0, freq := 0 }) <|
    .all ({ n := 0, dLin := 0, dNl2 := 0, dNl3 := 0, echoes := [] }) <| .all [] <|
    .run { line := [(0, { state := .acquire, lrx := { power := .full, step := 6 } })] }) <|
  .both (.all 3 <| .all ({ slice := 3, off := 5, gain := -2, skew := 300, codes := 10, same := 1 }) <| .all 3 <|
    .run { line := [(3, { lrx := { power := .full } })] }) <|
  .all 0 <| .all ({ slice := 0, off := 65, gain := 0, skew := 601, codes := 10, same := 10 }) <| .all 7 <| .all 1 <|
    .run { line := [(0, { lrx := { power := .full, slices := [(0, { pos := some 7, bad := 1 }), (1, {})], transom := 1 } })] }

theorem test_met_SampleCaptureCompletes : Met Obligations.SampleCaptureCompletes :=
  .both (.run { cap := { armed := true } }) <|
  .both (.run { cap := { running := true } }) <|
  .both (.all (List.replicate 4096 128) <| .all 3 <| .run { cap := { running := true, taking := true, segLen := 4096 } }) <|
  .both (.all (List.replicate 4096 7) <| .all 3 <| .all 0 <| .all 5 <|
    .run { cap := { running := true, taking := true, segLen := 4096 } }) <|
  .all (List.replicate 4096 0) <| .all 3 <|
    .run { cap := { running := true, taking := true, segLen := 4096, count := 4, done := 3 } }

theorem test_met_FifosAndEnginesComplete : Met Obligations.FifosAndEnginesComplete :=
  .both (.both (.all 0 <| .all [] <| .run { line := [(0, { state := .acquire, lrx := { power := .full } })] }) <|
  .both (.all 0 <| .all [] <| .run { line := [(0, { lrx := { power := .listen } })] }) <|
  .both (.all 0 <| .all ({ occ := 1, segs := [0, 1, 2, 0, 1, 2, 0, 1, 2, 0, 1, 2, 0, 1, 2] }) <|
    .all ([{ occ := 2, tier := 1, ffe := [-1], segs := [1, 2, 0, 1, 2, 0, 1, 2, 0, 1, 2, 0, 1, 2, 0], out := [-1] }]) <|
    .run { line := [(0, { sea := { fifo := [{ occ := 1, segs := [0, 1, 2, 0, 1, 2, 0, 1, 2, 0, 1, 2, 0, 1, 2] }, { occ := 2, tier := 1, ffe := [-1], segs := [1, 2, 0, 1, 2, 0, 1, 2, 0, 1, 2, 0, 1, 2, 0], out := [-1] }] } })] }) <|
  .both (.all 2 <|
    .all ({ occ := 3, tier := 2, ffe := [2, 2], segs := [2, 0, 1, 2, 0, 1, 2, 0, 1, 2, 0, 1, 2, 0, 1], out := [2, 2] }) <| .all ([{ occ := 4, tier := 3, ffe := [-3, -3, -3], segs := [0, 1, 2, 0, 1, 2, 0, 1, 2, 0, 1, 2, 0, 1, 2], out := [-3, -3, -3] }]) <| .all 2 <| .run { line := [(2, { sea := { fifo := [{ occ := 3, tier := 2, ffe := [2, 2], segs := [2, 0, 1, 2, 0, 1, 2, 0, 1, 2, 0, 1, 2, 0, 1], out := [2, 2] }, { occ := 4, tier := 3, ffe := [-3, -3, -3], segs := [0, 1, 2, 0, 1, 2, 0, 1, 2, 0, 1, 2, 0, 1, 2], out := [-3, -3, -3] }] } })] }) <|
  .both (.all 0 <| .all ({ occ := 1, segs := [0, 1, 2, 0, 1, 2, 0, 1, 2, 0, 1, 2, 0, 1, 2] }) <|
    .all ([{ occ := 2, tier := 1, ffe := [-1], segs := [1, 2, 0, 1, 2, 0, 1, 2, 0, 1, 2, 0, 1, 2, 0], out := [-1] }]) <|
    .all 0 <| .all 0 <|
    .run { line := [(0, { sea := { fifo := [{ occ := 1, segs := [0, 1, 2, 0, 1, 2, 0, 1, 2, 0, 1, 2, 0, 1, 2] }, { occ := 2, tier := 1, ffe := [-1], segs := [1, 2, 0, 1, 2, 0, 1, 2, 0, 1, 2, 0, 1, 2, 0], out := [-1] }] } })] }) <|
  .both (.all 0 <| .run { line := [(0, { sea := { tier := 1, fifo := [{}, {}, {}, {}] } })] }) <|
  .all 0 <|
    .run { dev := { mode := .provisioned }, line := [(0, { state := .up, sea := { fifo := List.replicate 16 {} } })] }) <|
  .both (.all 0 <| .all [] <| .run { eng := [(9, { role := .adapt }), (70, { role := .tier })] }) <|
  .both (.all 0 <| .run { eng := [(0, { role := .transom })] }) <|
  .both (.all 65 <| .all 70 <| .all .lateSegment <| .run { eng := [(65, { role := .tier }), (70, { role := .transom })] }) <|
  .all 65 <| .all 70 <| .all .lateSegment <| .run { eng := [(65, { role := .adapt }), (70, { role := .transom })] }

theorem test_met_PlansAreApplied : Met Obligations.PlansAreApplied :=
  .both (.all 0 <|
    .run { line := [(0, { sea := { tier := 2 } })], port := [(0, { cfg := some { type := 0, half := false, reduced := false, base := 0, profile := .terminate }, state := .acquire })], hinge := { rates := [230], started := true } }) <|
  .both (.all 0 <|
    .run { line := [(0, { sea := { tier := 1, dropNext := true } })], port := [(0, { cfg := some { type := 0, half := false, reduced := false, base := 0, profile := .terminate }, state := .acquire })], hinge := { rates := [230], started := true } }) <|
  .run { hinge := { started := true } }

theorem test_met_SwapStepsComplete : Met Obligations.SwapStepsComplete :=
  .both (.all 0 <| .all ({ count := 1 }) <|
    .run { line := [(0, { sea := { swap := some { count := 1 } } })], eng := [(70, { role := .tier })] }) <|
  .both (.all 0 <| .all ({ step := 3 }) <| .all [] <| .run { line := [(0, { sea := { swap := some { step := 3 } } })] }) <|
  .both (.all 0 <| .all ({ step := 4 }) <| .all 0 <| .all 0 <|
    .run { line := [(0, { sea := { swap := some { step := 4 } } })] }) <|
  .both (.all 0 <| .all ({ step := 5, live := 5, shadow := 15 }) <|
    .run { line := [(0, { sea := { swap := some { step := 5, live := 5, shadow := 15 } } })] }) <|
  .both (.all 0 <| .all ({ step := 5, live := 5, shadow := 16 }) <|
    .run { line := [(0, { sea := { swap := some { step := 5, live := 5, shadow := 16 } } })] }) <|
  .all 0 <| .all ({ step := 6 }) <| .run { line := [(0, { sea := { swap := some { step := 6 } } })] }

theorem test_met_HardDecodingCorrectsSingleErrors : Met Obligations.HardDecodingCorrectsSingleErrors :=
  .both (.all 0 <| .both .equals .equals) <|
  .both (.all 1 <| .all 3 .equals) <|
  .both (.all 143 <| .when .equals) <|
  .both (.all 1 <| .all 143 <| .when .equals) <|
  .both (.all 1 <| .all 143 <| .all [] <| .when <| .both .equals .equals) <|
  .both (.all 255 <| .when <| .when .answers) <|
  .all 31 <| .all [] <| .all 252 <| .when <| .when <| .when .equals

theorem test_met_PrecodingIsRecovered : Met Obligations.PrecodingIsRecovered :=
  .both (.all [3, 0, 2, 1] <| .all 3 <| .all 3 <| .when <| .when <| .when .equals) <|
  .both (.both .equals <|
  .both .equals <|
  .both .equals <|
  .equals) <|
  .both (.all true <| .all true .equals) <|
  .both (.all 3 <| .when .equals) <|
  .both (.all 3 <| .all 2 <| .when <| .when <| .both .equals .equals) <|
  .all [[1, 2], [3, 4], [5, 6]] <| .all 2 <| .when <| .when .equals

theorem test_met_CodewordsAndLockComplete : Met Obligations.CodewordsAndLockComplete :=
  .both (.both (.all 0 <| .all [] <| .all [] <| .all (1, List.replicate 144 0) <| .all 0 <| .all [0] <|
    .run { line := [(0, { sdf := { lock := true, nextQ := 1, soft := oneWrongBit } })] }) <|
  .both (.all 0 <| .all [] <| .all [] <| .all (3, List.replicate 144 0) <|
    .run { params := [(0x300006, 0)], line := [(0, { sdf := { lock := true, nextQ := 1, soft := oneWrongSymbol } })] }) <|
  .both (.all 0 <| .all oneSymbolError <| .all (List.replicate 543 0 ++ [0]) <| .all 1 <|
    .run { line := [(0, { sdf := { lock := true } })] } ⟨by decide +kernel, by decide +kernel, rsDecode_oneSymbolError, by decide, by decide⟩) <|
  .all 0 <| .all [1] <| .run { line := [(0, { sdf := { lock := true } })] }) <|
  .both (.all 0 <| .all zeroBits <| .all zeroRel <| .all 0 <| .all 0 <| .all 0 <| .all 0 <| .all [] <| .all 0 <|
    .run { line := [(0, { state := .acquire, lrx := { power := .full } })] }) <|
  .both (.all 0 <| .all zeroBits <| .all zeroRel <| .all 0 <| .all 1 <| .all 0 <| .all 0 <| .all [] <|
    .run { line := [(0, { state := .acquire, lrx := { power := .full }, sdf := { prev := some [0, 1, 0, 0] } })] }) <|
  .both (.all 0 <| .all [] <| .all [] <| .all [] <|
    .run { line := [(0, { state := .acquire, lrx := { power := .full } })] }) <|
  .both (.all 0 <| .all ([8, 64, 9, 8]) <| .run { line := [(0, { sdf := { lock := true } })] }) <|
  .all 0 <| .all ([7, 8, 8, 8]) <| .all 0 <|
    .run { dev := { mode := .provisioned }, line := [(0, { state := .up, sdf := { lock := true, bad := [3] } })] }

theorem test_met_SdfPeriodsAndStageFaultsComplete : Met Obligations.SdfPeriodsAndStageFaultsComplete :=
  .both (.all 0 <| .all ([(0, 40), (0, -30)]) <| .run { stats := [(4096, { live := 1000 }), (4104, { live := 1000 })] }) <|
  .both (.all 0 <| .all [] <|
    .run { stats := [(4096, { live := 1000 }), (4101, { live := 1000 })], line := [(0, { sdf := { degHigh := 2 } })] }) <|
  .all 0 <| .all 20001 <| .run {}

theorem test_met_TransmittersComplete : Met Obligations.TransmittersComplete :=
  .both (.both (.all 0 <| .run { line := [(0, { ltx := { enStep := 1 } })] }) <|
  .both (.all 0 <| .run { line := [(0, { ltx := { enStep := 3 }, optics := .ready })] }) <|
  .both (.all 0 <| .run { line := [(0, { ltx := { enStep := 3 } })] }) <|
  .both (.all 0 <|
    .run { dev := { mode := .provisioned, refclk := true, powered := true }, line := [(0, { state := .up, ltx := { retry := true } })] }) <|
  .both (.all 0 <| .run { line := [(0, { ltx := { state := .rampUp } })] }) <|
  .both (.all 0 <| .run { line := [(0, { ltx := { state := .rampDown } })] }) <|
  .all 0 <| .run { line := [(0, { ltx := { release := true }, optics := .ready })] }) <|
  .both (.all 0 <| .all (List.replicate 576 true) <| .run {}) <|
  .both (.all 0 <| .run {}) <|
  .both (.all 0 <| .all 3 <| .all 7 <| .all 0 <| .run { line := [(0, { ltx := { cells := [(7, {})] } })] }) <|
  .all 0 <| .all 3 <| .all 0 <|
    .run { dev := { mode := .provisioned }, line := [(0, { state := .up, ltx := { cells := [(15, { pos := some 0 })] } })] }

theorem test_met_LtxBoundsAreKept : Met Obligations.LtxBoundsAreKept :=
  .both (.all (say 0 [2, 0, 10, 5, 5, 20]) <| .all (opened .dormant) <| .all ([1]) <|
    .all ([(1, 10), (2, 5), (3, 5), (4, 20)]) <| .taken <| .when <| .when <| .when <| .answers) <|
  .all (say 0 [2, 0, 8]) <|
    .all { dev := { mode := .dormant, accepted := 0xFFFFFFFFFFFFFFFFFFFFFFFFFFFFFFFF, isOpen := true, pfEnabled := true }, hif := { linkUp := true }, params := [(0x380004, 123)] } <| .all ([1]) <| .all ([(1, 8)]) <| .taken <| .when <| .when <| .when <| .answers

theorem test_met_HostAcquisitionCompletes : Met Obligations.HostAcquisitionCompletes :=
  .both (.all 0 <| .run { dev := { refclk := true }, host := [(0, { state := .acquire, step := 1 })] }) <|
  .both (.all 0 <| .all 2000 <| .run { host := [(0, { state := .acquire, step := 2 })] }) <|
  .both (.all 0 <| .all true <| .run { host := [(0, { state := .acquire, step := 3 })] }) <|
  .both (.all 0 <| .run { host := [(0, { state := .acquire, step := 3 })] }) <|
  .both (.all 0 <| .run { host := [(0, { state := .acquire, step := 4 })] }) <|
  .both (.all 0 <| .run { host := [(0, { state := .acquire, step := 7 })] }) <|
  .both (.all 0 <| .run { host := [(0, { state := .acquire, step := 4, mode := 0 })] }) <|
  .both (.all 0 <| .all ([0, 0, 0]) <| .all (List.replicate 24 0) <| .all 3 <|
    .run { host := [(0, { state := .acquire, step := 5 })] }) <|
  .all 0 <| .run { dev := { mode := .provisioned }, host := [(0, { state := .acquire, warm := true })] }

theorem test_met_TrainingRequestsComplete : Met Obligations.TrainingRequestsComplete :=
  .both (.all 0 <| .all 10 <| .run { host := [(0, { state := .acquire, step := 4, trying := 1, lastSnr := 100 })] }) <|
  .both (.all 0 <| .all 110 <| .run { host := [(0, { state := .acquire, step := 4, trying := 1 })] }) <|
  .both (.all 0 <| .all 110 <| .run { host := [(0, { state := .acquire, step := 4, tapIdx := 2, trying := 4 })] }) <|
  .both (.all 0 <| .all 10 <| .run { host := [(0, { state := .acquire, step := 4, trying := 1 })] }) <|
  .all 0 <| .all (.preset 0) <| .run { host := [(0, { state := .acquire, step := 4, cm1 := 0, c0 := 64, c1 := 0 })] }

theorem test_met_MarkerHuntCompletes : Met Obligations.MarkerHuntCompletes :=
  .all 0 <| .all 0 <| .all true <| .all 33 <|
    .run { dev := { mode := .provisioned }, host := [(0, { state := .acquire, step := 6 }), (1, { state := .acquire, amLock := true, skew := 33 })], port := [(0, { cfg := some { type := 0, half := false, reduced := false, base := 0, profile := .terminate } })] }

theorem test_met_HostLossesAndBlockLockComplete : Met Obligations.HostLossesAndBlockLockComplete :=
  .both (.both (.all 0 <| .run { dev := { mode := .provisioned }, host := [(0, { state := .up, sigLoss := false })] }) <|
  .both (.all 0 <| .run { host := [(0, { state := .acquire, sigLoss := false })] }) <|
  .both (.all 0 <| .all 0 <| .run { dev := { mode := .provisioned }, host := [(0, { state := .up })] }) <|
  .both (.all 1 <| .all true <| .all ({ type := 0, half := false, reduced := false, base := 0, profile := .observe }) <|
    .run { dev := { mode := .provisioned }, host := [(1, { state := .up })], port := [(0, { cfg := some { type := 0, half := false, reduced := false, base := 0, profile := .observe } })] }) <|
  .both (.all 1 <| .all true <|
    .all ({ type := 0, half := false, reduced := false, base := 0, profile := .terminate }) <|
    .run { port := [(0, { cfg := some { type := 0, half := false, reduced := false, base := 0, profile := .terminate } })] }) <|
  .both (.all 0 <| .all 0 <| .run { dev := { mode := .provisioned }, host := [(0, { state := .up })] }) <|
  .both (.all 0 <| .run { host := [(0, { state := .fault, cause := .amLock })] }) <|
  .both (.all 0 <| .run { dev := { mode := .provisioned }, host := [(0, { state := .fault, recover := true })] }) <|
  .both (.all 1 <| .all 3 <| .all 5000 <| .all (-4000) <| .all 6000 <|
    .all ([{ err := 0, xs := [5, -7, 100], level := 0 }]) <| .all 0 <| .all 0 <|
    .all ({ type := 0, half := false, reduced := false, base := 0, profile := .observe }) <|
    .run { host := [(1, { state := .up })], port := [(0, { cfg := some { type := 0, half := false, reduced := false, base := 0, profile := .observe } })] }) <|
  .all 0 <| .all 0 <| .all 0 <| .all 0 <| .all 0 <| .all [] <| .all 0 <| .all 0 <|
    .run { host := [(0, { state := .test })] }) <|
  .both (.all 0 <| .all 0 <| .all 1 <|
    .all ({ type := 0, half := false, reduced := false, base := 0, profile := .observe }) <|
    .run { port := [(0, { cfg := some { type := 0, half := false, reduced := false, base := 0, profile := .observe }, state := .acquire })], block := [(0, { run := 63 })] }) <|
  .both (.all 0 <| .all 0 <| .all 0 <|
    .all ({ type := 0, half := false, reduced := false, base := 0, profile := .observe }) <|
    .run { port := [(0, { cfg := some { type := 0, half := false, reduced := false, base := 0, profile := .observe }, state := .acquire })] }) <|
  .both (.all 0 <| .all 0 <| .all 0 <|
    .all ({ type := 0, half := false, reduced := false, base := 0, profile := .observe }) <|
    .run { port := [(0, { cfg := some { type := 0, half := false, reduced := false, base := 0, profile := .observe }, state := .acquire })], block := [(0, { lock := true, bad := 64 })] }) <|
  .all 0 <| .all 0 <| .run { block := [(0, { lock := true, seen := 1024 })] }

theorem test_met_PortCommandsComplete : Met Obligations.PortCommandsComplete :=
  .both (.carry (say 0 []) { dev := { mode := .dormant, refclk := true, isOpen := true, pfEnabled := true }, hif := { linkUp := true }, port := [(0, { cfg := some { type := 0, half := false, reduced := false, base := 0, profile := .observe } })] }) <|
  .both (.carry (say 0 []) { (opened .provisioned) with port := [(0, { cfg := some { type := 0, half := false, reduced := false, base := 0, profile := .observe }, state := .acquire })] }) <|
  .both (.all ({ type := 0, half := false, reduced := false, base := 0, profile := .observe }) <|
    .carry (say 0 [31, 0, 0, 0, 0, 0, 1]) (opened .dormant)) <|
  .both (.all ({ type := 0, half := false, reduced := false, base := 1, profile := .observe }) <|
    .carry (say 0 [31, 0, 0, 0, 0, 1, 1]) (opened .dormant)) <|
  .both (.carry (say 0 []) { (opened .dormant) with port := [(0, { cfg := some { type := 0, half := false, reduced := false, base := 0, profile := .transparent } })] }) <|
  .all 0 <| .run { port := [(0, { state := .acquire })] }

theorem test_met_PilotPacketsComplete : Met Obligations.PilotPacketsComplete :=
  .both (.both (.all 0 <|
    .run { dev := { accepted := 0xFFFFFFFFFFFFFFFFFFFFFFFFFFFFFFFF }, line := [(0, { plt := { begun := true } })], port := [(0, { cfg := some { type := 0, half := false, reduced := false, base := 0, profile := .observe } })] }) <|
  .both (.all 0 <|
    .all ({ type := 1, seq := 0, payload := [1, 0, 8, 50, 0, 0, 0, 0, 0, 0, 0, 0, 0, 0, 0, 0, 0, 0, 0, 0, 255, 0, 0, 0, 0, 0, 0, 0, 0, 0, 0, 0, 0, 0, 0, 0, 0, 0, 0, 0, 0, 0, 0, 0, 0, 0, 0, 0, 0, 0, 0, 0, 0, 0, 0, 0] }) <| .run { dev := { refclk := true, accepted := 0xFFFFFFFFFFFFFFFFFFFFFFFFFFFFFFFF }, line := [(0, { ltx := { state := .on }, plt := { due := true } })] }) <|
  .both (.all 0 <| .all ({ type := 16, seq := 0, payload := [] }) <| .all [] <|
    .run { dev := { refclk := true, accepted := 0xFFFFFFFFFFFFFFFFFFFFFFFFFFFFFFFF }, line := [(0, { ltx := { state := .on }, plt := { queue := [{ type := 16, seq := 0, payload := [] }] } })] }) <|
  .both (.all 0 <| .all ({ type := 1, seq := 0, payload := [] }) <|
    .run { line := [(0, { plt := { air := some { type := 1, seq := 0, payload := [] } } })] }) <|
  .both (.all 0 <| .all ({ type := 17, seq := 0, payload := [] }) <|
    .run { line := [(0, { plt := { air := some { type := 17, seq := 0, payload := [] } } })] }) <|
  .both (.carry { req := .pf0, mbx := 0, adverbs := 1, inst := 0, tag := 0, len := 5, words := [16, 5, 6] } { dev := { mode := .provisioned, accepted := 0xFFFFFFFFFFFFFFFFFFFFFFFFFFFFFFFF, isOpen := true, pfEnabled := true }, hif := { linkUp := true } }) <|
  .carry (say 0 [16, 5, 6]) { dev := { mode := .provisioned, accepted := 0xFFFFFFFFFFFFFFFFFFFFFFFFFFFFFFFF, isOpen := true, pfEnabled := true }, hif := { linkUp := true }, line := [(0, { plt := { queue := [{ type := 0, seq := 0, payload := [] }, { type := 0, seq := 0, payload := [] }, { type := 0, seq := 0, payload := [] }, { type := 0, seq := 0, payload := [] }] } })] }) <|
  .both (.all 0 <| .all 100 <| .all 0 <| .all 24 <| .run { line := [(0, { lrx := { power := .full } })] }) <|
  .both (.all 0 <| .all ([0, 0, 0, 0]) <| .run { line := [(0, { lrx := { power := .full }, plt := { rx := .header } })] }) <|
  .both (.all 0 <| .all (List.replicate 20 0) <| .all 0 <| .all 0 <| .all 0 <|
    .run { line := [(0, { lrx := { power := .full }, plt := { rx := .body, hdr := [0, 16] } })] }) <|
  .both (.all 0 <|
    .all ([1, 0, 0, 0, 0, 0, 0, 0, 0, 0, 0, 0, 0, 0, 0, 0, 0, 0, 0, 0, 0, 0, 0, 0, 0, 0, 0, 0, 0, 0, 0, 0, 0, 0, 0, 0, 0, 0, 0, 0, 0, 0, 0, 0, 0, 0, 0, 0, 0, 0, 0, 0, 0, 0, 0, 0, 78, 160, 46, 79]) <| .all 0 <| .all 0 <| .all 0 <| .run { dev := { accepted := 0xFFFFFFFFFFFFFFFFFFFFFFFFFFFFFFFF }, line := [(0, { lrx := { power := .full }, plt := { rx := .body, hdr := [1, 56, 0, 58] } })] }) <|
  .both (.all 0 <| .run { line := [(0, { plt := { peer := .match_ } })] }) <|
  .both (.all ({ type := 0, seq := 0, payload := [], plq := 0, m := 0, sub := 0, rate := 0, bcnt := 0 }) <| .all [] <|
    .carry (say 0 []) { dev := { mode := .dormant, accepted := 0xFFFFFFFFFFFFFFFFFFFFFFFFFFFFFFFF, isOpen := true, pfEnabled := true }, hif := { linkUp := true }, line := [(0, { plt := { rxq := [{ type := 0, seq := 0, payload := [], plq := 0, m := 0, sub := 0, rate := 0, bcnt := 0 }] } })] }) <|
  .both (.carry (say 0 []) { dev := { mode := .dormant, accepted := 0xFFFFFFFFFFFFFFFFFFFFFFFFFFFFFFFF, isOpen := true, pfEnabled := true }, hif := { linkUp := true } }) <|
  .both (.carry (say 0 [0, 3, 3, 3, 3, 3, 3, 3, 3, 3, 3]) { dev := { mode := .dormant, accepted := 0xFFFFFFFFFFFFFFFFFFFFFFFFFFFFFFFF, isOpen := true, pfEnabled := true }, hif := { linkUp := true } }) <|
  .carry (say 0 [1, 3, 3, 3, 3, 3, 3, 3, 3, 3, 3]) { dev := { mode := .dormant, accepted := 0xFFFFFFFFFFFFFFFFFFFFFFFFFFFFFFFF, isOpen := true, pfEnabled := true }, hif := { linkUp := true } }

theorem test_met_EveryFrameCountsOnce : Met Obligations.EveryFrameCountsOnce :=
  .all { dev := { mode := .provisioned, accepted := 0xFFFFFFFFFFFFFFFFFFFFFFFFFFFFFFFF }, port := [(0, { cfg := some { type := 0, half := false, reduced := false, base := 0, profile := .observe }, state := .up })] } <| .all 0 <| .all 0 <| .all ({ da := 0, sa := 0, tags := [], etype := none, length := 0, fcsOk := true, errCtrl := true, cut := true, ptp := none, ip := 0, proto := 0, frag := true, dport := 0, correction := 0, csum := 0, parseAt := 0, rewriteAt := 0 }) <| .all ({ type := 0, half := false, reduced := false, base := 0, profile := .observe }) <| .when <| .when <| .when <| .when <| .when <| .when <| .when <| .when <| .answers

theorem test_met_LexiconEventsComplete : Met Obligations.LexiconEventsComplete :=
  .both (.all (List.replicate 17 0) <| .all [] <| .all 580 <| .run { lex := { insertq := [List.replicate 17 0] } }) <|
  .both (.all (List.replicate 17 0) <| .all [] <|
    .run { lex := { ctx := [(3, { key := List.replicate 17 0 })], index := [(580, 4)], insertq := [List.replicate 17 0] } }) <|
  .both (.all 0 <| .all ([2, 3]) <| .run { lex := { drainq := [0, 2, 3] } }) <|
  .both (.all 0 <| .all ([2, 3]) <| .all 0 <| .run { lex := { ctx := [(0, { state := .live })], drainq := [0, 2, 3] } }) <|
  .both (.all ([{ region := 3, addr := 4, row := 5, syn := none }]) <| .run {}) <|
  .both (.all 0 <| .run { dev := { mode := .provisioned, accepted := 0xFFFFFFFFFFFFFFFFFFFFFFFFFFFFFFFF } }) <|
  .both (.all 1 <| .all 0 <| .run { dev := { mode := .provisioned, accepted := 0xFFFFFFFFFFFFFFFFFFFFFFFFFFFFFFFF } }) <|
  .both (.all 7 <| .all true <| .all true <| .run { lex := { pass := some (7, (true, true)) } }) <|
  .all 0 <| .run { lex := { banks := [(0, { filling := true })] } }

theorem test_met_LexiconCommandsComplete : Met Obligations.LexiconCommandsComplete :=
  .both (.all 580 <|
    .carry (say 0 [0, 0, 0, 0, 0]) { dev := { mode := .dormant, accepted := 0xFFFFFFFFFFFFFFFFFFFFFFFFFFFFFFFF, isOpen := true, pfEnabled := true }, hif := { linkUp := true } }) <|
  .both (.all 3 <|
    .carry (say 0 [0, 0, 0, 0, 0]) { dev := { mode := .dormant, accepted := 0xFFFFFFFFFFFFFFFFFFFFFFFFFFFFFFFF, isOpen := true, pfEnabled := true }, hif := { linkUp := true }, lex := { ctx := [(3, { key := List.replicate 17 0 })], index := [(580, 4)] } }) <|
  .both (.all 0 <|
    .carry (say 0 [0]) { dev := { mode := .dormant, accepted := 0xFFFFFFFFFFFFFFFFFFFFFFFFFFFFFFFF, isOpen := true, pfEnabled := true }, hif := { linkUp := true }, lex := { ctx := [(0, { state := .live })] } }) <|
  .both (.carry (say 0 []) { dev := { mode := .provisioned, accepted := 0xFFFFFFFFFFFFFFFFFFFFFFFFFFFFFFFF, isOpen := true, pfEnabled := true }, hif := { linkUp := true } }) <|
  .both (.all ([1]) <| .all ([(1, 0)]) <|
    .carry (say 0 [2, 0, 0]) { dev := { mode := .dormant, accepted := 0xFFFFFFFFFFFFFFFFFFFFFFFFFFFFFFFF, isOpen := true, pfEnabled := true }, hif := { linkUp := true }, params := [(0x590001, 9)] }) <|
  .both (.carry (say 0 [4, 0, 1, 2]) { dev := { mode := .provisioned, accepted := 0xFFFFFFFFFFFFFFFFFFFFFFFFFFFFFFFF, isOpen := true, pfEnabled := true }, hif := { linkUp := true } }) <|
  .all ([0]) <| .all ([(0, 1)]) <|
    .carry (say 0 [1, 0, 1]) { dev := { mode := .dormant, accepted := 0xFFFFFFFFFFFFFFFFFFFFFFFFFFFFFFFF, isOpen := true, pfEnabled := true }, hif := { linkUp := true } }

theorem test_met_DomainClockAdvances : Met Obligations.DomainClockAdvances :=
  .both (.all { sec := 2 ^ 48 - 1, ns := 999999999, frac := 2 ^ 32 - 1 } <| .both .less <| .both .less <| .both .less <|
    .both .equals .equals) <|
  .run { dev := { refclk := true } }

theorem test_met_TicksComplete : Met Obligations.TicksComplete :=
  .both (.run {}) <|
  .both (.run { dev := { refclk := true } }) <|
  .both (.all 0 <| .all 0 <| .all [] <| .all 1 <|
    .run { dev := { refclk := true }, tku := { gos := [(true, (false, (0, 0)))] } }) <|
  .both (.all (-5) <| .all (-3) <| .all [] <|
    .run { dev := { refclk := true }, tku := { gos := [(true, (false, (-5, -3)))] } }) <|
  .all 0 <| .all 0 <| .run { dev := { refclk := true }, tku := { domA := { setNext := some (0, 0) } } }

theorem test_met_ClockLossAndReturnComplete : Met Obligations.ClockLossAndReturnComplete :=
  .both (.run { dev := { refclk := true } }) <|
  .both (.run { dev := { mode := .dormant, refclkSeen := true } }) <|
  .both (.run { dev := { mode := .dormant } }) <|
  .run { dev := { isOpen := true } }

theorem test_met_FramesAreCorrected : Met Obligations.FramesAreCorrected :=
  .both (.all 0 <| .all 0 <|
    .all ({ da := 0, sa := 0, tags := [], etype := some 35063, length := 100, fcsOk := true, errCtrl := true, cut := false, ptp := some (0, 2), ip := 0, proto := 0, frag := true, dport := 0, correction := 0, csum := 0, parseAt := 0, rewriteAt := 0 }) <| .all ({ type := 0, half := false, reduced := false, base := 0, profile := .terminate }) <| .run { dev := { mode := .provisioned, accepted := 0xFFFFFFFFFFFFFFFFFFFFFFFFFFFFFFFF }, tku := { resid := [(0, { ingress := 0, egress := 0 })] }, port := [(0, { cfg := some { type := 0, half := false, reduced := false, base := 0, profile := .terminate }, state := .up })], block := [(0, { lock := true })] }) <|
  .both (.all 0 <| .all 0 <|
    .all ({ da := 0, sa := 0, tags := [], etype := some 35063, length := 100, fcsOk := true, errCtrl := true, cut := false, ptp := some (0, 2), ip := 0, proto := 0, frag := true, dport := 0, correction := 0, csum := 0, parseAt := 0, rewriteAt := 0 }) <| .all ({ type := 0, half := false, reduced := false, base := 0, profile := .terminate }) <| .run { dev := { mode := .provisioned, accepted := 0xFFFFFFFFFFFFFFFFFFFFFFFFFFFFFFFF }, params := [(0x610000, 1)], port := [(0, { cfg := some { type := 0, half := false, reduced := false, base := 0, profile := .terminate }, state := .up })], block := [(0, { lock := true })] }) <|
  .both (.all 0 <| .all 0 <|
    .all ({ da := 0, sa := 0, tags := [], etype := some 35063, length := 100, fcsOk := true, errCtrl := true, cut := false, ptp := some (0, 2), ip := 0, proto := 0, frag := true, dport := 0, correction := 0, csum := 0, parseAt := 0, rewriteAt := -1000 }) <| .all ({ type := 0, half := false, reduced := false, base := 0, profile := .terminate }) <| .run { dev := { mode := .provisioned, accepted := 0xFFFFFFFFFFFFFFFFFFFFFFFFFFFFFFFF }, port := [(0, { cfg := some { type := 0, half := false, reduced := false, base := 0, profile := .terminate }, state := .up })], block := [(0, { lock := true })] }) <|
  .all 0 <| .all 0 <|
    .all ({ da := 0, sa := 0, tags := [], etype := some 35063, length := 100, fcsOk := true, errCtrl := true, cut := false, ptp := some (0, 2), ip := 0, proto := 0, frag := true, dport := 0, correction := 0, csum := 0, parseAt := 0, rewriteAt := 0 }) <| .all ({ type := 0, half := false, reduced := false, base := 0, profile := .transparent }) <| .run { port := [(0, { cfg := some { type := 0, half := false, reduced := false, base := 0, profile := .transparent } })] }

theorem test_met_DoorbellsComplete : Met Obligations.DoorbellsComplete :=
  .both (.all 1 <| .all 0 <|
    .all ({ req := .pf0, mbx := 0, adverbs := 0, inst := 0, tag := 5, len := 8, words := [] }) <|
    .run { dev := { pfEnabled := true }, mb := { box := [(0, { state := .busy })] }, hif := { linkUp := true } }) <|
  .both (.all .pf0 <| .all 0 <| .all 0 <| .all 0 <|
    .run { dev := { pfEnabled := true }, mb := { box := [(0, { state := .busy })] }, hif := { linkUp := true } }) <|
  .both (.all 1 <| .all 0 <|
    .all ({ req := .pf0, mbx := 0, adverbs := 0, inst := 0, tag := 5, len := 8, words := [] }) <| .run busUp) <|
  .both (.all 200 <| .all 0 <|
    .all ({ req := .pf0, mbx := 0, adverbs := 0, inst := 0, tag := 5, len := 8, words := [] }) <|
    .run { dev := { isOpen := true, pfEnabled := true }, hif := { linkUp := true } }) <|
  .all 1 <| .all 0 <| .all ({ req := .pf0, mbx := 0, adverbs := 0, inst := 0, tag := 5, len := 8, words := [] }) <| .run {}

theorem test_met_ModeCommandsComplete : Met Obligations.ModeCommandsComplete :=
  .both (.all 1 <| .carry (say 0 [1]) (opened .dormant)) <|
  .both (.all 0 <| .carry (say 0 [0]) (opened .provisioned)) <|
  .both (.all 0 <| .carry (say 0 [0]) { (opened .provisioned) with port := [(1, { state := .acquire })] }) <|
  .both (.carry (say 0 [0]) (opened .service)) <|
  .both (.all 0 <| .all 0 <| .carry (say 0 [0, 0]) (opened .dormant)) <|
  .all 61 <| .all 0 <| .carry (say 0 [61, 0]) (opened .dormant)

theorem test_met_LaneTestNegotiationAndGrantComplete : Met Obligations.LaneTestNegotiationAndGrantComplete :=
  .both (.carry (say 0 []) { dev := { mode := .workshop, powered := true, isOpen := true, pfEnabled := true }, hif := { linkUp := true } }) <|
  .both (.carry (say 16 []) { dev := { mode := .workshop, powered := true, isOpen := true, pfEnabled := true }, hif := { linkUp := true } }) <|
  .both (.carry (say 0 []) { dev := { mode := .workshop, powered := true, isOpen := true, pfEnabled := true }, hif := { linkUp := true }, line := [(0, { state := .test })] }) <|
  .both (.carry (say 0 []) { (opened .workshop) with line := [(0, { state := .test })] }) <|
  .both (.carry (say 16 []) { (opened .workshop) with host := [(0, { state := .test })] }) <|
  .both (.carry (say 0 []) (opened .workshop)) <|
  .both (.carry (say 0 [0, 0, 0, 0]) (opened .dormant)) <|
  .both (.carry (say 0 [0, 0, 0, 0]) { dev := { mode := .dormant, negotiated := true, isOpen := true, pfEnabled := true }, hif := { linkUp := true } }) <|
  .both (.carry (say 0 [512, 0, 0, 0]) (opened .dormant)) <|
  .both (.carry (say 0 []) (opened .dormant)) <|
  .carry (say 0 []) (opened .dormant)

theorem test_met_EventQueueIsFifo : Met Obligations.EventQueueIsFifo :=
  .both (.all 1 <| .carry (say 0 [1]) (opened .dormant)) <|
  .both (.all 0 <| .carry (say 0 [0]) (opened .dormant)) <|
  .carry (say 0 []) (opened .dormant)

theorem test_met_StatusReadsComplete : Met Obligations.StatusReadsComplete :=
  .both (.both (.read (say 0 []) (opened .dormant)) <|
  .both (.read (say 0 []) (opened .dormant)) <|
  .both (.read (say 0 []) (opened .dormant)) <|
  .both (.read (say 0 []) (opened .dormant)) <|
  .both (.read (say 0 []) (opened .dormant)) <|
  .both (.read (say 0 []) (opened .dormant)) <|
  .both (.read (say 0 []) (opened .dormant)) <|
  .both (.read (say 0 []) (opened .dormant)) <|
  .both (.read (say 0 []) (opened .dormant)) <|
  .both (.read (say 0 []) { dev := { mode := .dormant, accepted := 0xFFFFFFFFFFFFFFFFFFFFFFFFFFFFFFFF, isOpen := true, pfEnabled := true }, hif := { linkUp := true } }) <|
  .both (.read (say 0 []) { dev := { mode := .dormant, accepted := 0xFFFFFFFFFFFFFFFFFFFFFFFFFFFFFFFF, isOpen := true, pfEnabled := true }, hif := { linkUp := true } }) <|
  .both (.read (say 0 []) { dev := { mode := .dormant, accepted := 0xFFFFFFFFFFFFFFFFFFFFFFFFFFFFFFFF, isOpen := true, pfEnabled := true }, hif := { linkUp := true } }) <|
  .both (.read (say 0 []) (opened .dormant)) <|
  .both (.read (say 0 []) { dev := { mode := .dormant, accepted := 0xFFFFFFFFFFFFFFFFFFFFFFFFFFFFFFFF, isOpen := true, pfEnabled := true }, hif := { linkUp := true } }) <|
  .both (.read (say 0 []) (opened .dormant)) <|
  .both (.read (say 0 []) (opened .dormant)) <|
  .both (.read (say 0 []) (opened .dormant)) <|
  .both (.read (say 0 []) (opened .dormant)) <|
  .both (.read (say 0 []) (opened .dormant)) <|
  .both (.read (say 0 []) (opened .dormant)) <|
  .both (.read (say 0 []) (opened .dormant)) <|
  .both (.read (say 0 []) (opened .dormant)) <|
  .both (.read (say 0 []) (opened .dormant)) <|
  .both (.read (say 0 []) (opened .dormant)) <|
  .both (.read (say 0 []) (opened .dormant)) <|
  .both (.read (say 0 []) (opened .dormant)) <|
  .read (say 0 []) (opened .dormant)) <|
  .both (.read (say 0 []) (opened .dormant)) <|
  .both (.read (say 0 []) (opened .dormant)) <|
  .both (.read (say 0 []) (opened .dormant)) <|
  .both (.read (say 0 []) (opened .dormant)) <|
  .both (.read (say 0 []) (opened .dormant)) <|
  .both (.read (say 0 []) (opened .dormant)) <|
  .both (.read (say 0 []) (opened .dormant)) <|
  .both (.read (say 0 []) (opened .dormant)) <|
  .both (.read (say 0 []) (opened .dormant)) <|
  .both (.read (say 0 []) (opened .dormant)) <|
  .both (.read (say 0 []) { dev := { mode := .dormant, accepted := 0xFFFFFFFFFFFFFFFFFFFFFFFFFFFFFFFF, isOpen := true, pfEnabled := true }, hif := { linkUp := true } }) <|
  .both (.read (say 0 []) { dev := { mode := .dormant, accepted := 0xFFFFFFFFFFFFFFFFFFFFFFFFFFFFFFFF, isOpen := true, pfEnabled := true }, hif := { linkUp := true } }) <|
  .both (.read (say 0 []) { dev := { mode := .dormant, accepted := 0xFFFFFFFFFFFFFFFFFFFFFFFFFFFFFFFF, isOpen := true, pfEnabled := true }, hif := { linkUp := true } }) <|
  .both (.read (say 0 []) (opened .dormant)) <|
  .both (.read (say 0 []) (opened .dormant)) <|
  .both (.read (say 0 []) (opened .dormant)) <|
  .both (.read (say 0 []) (opened .dormant)) <|
  .both (.read (say 0 []) (opened .dormant)) <|
  .both (.read (say 0 []) (opened .dormant)) <|
  .both (.read (say 0 []) (opened .dormant)) <|
  .read (say 0 []) (opened .dormant)

theorem test_met_DeviceReadsComplete : Met Obligations.DeviceReadsComplete :=
  .both (.read (say 0 []) (opened .dormant)) <|
  .both (.read (say 0 []) (opened .dormant)) <|
  .both (.read (say 0 []) (opened .dormant)) <|
  .both (.carry (say 0 []) (opened .dormant)) <|
  .both (.read (say 0 []) (opened .dormant)) <|
  .both (.read (say 0 []) (opened .dormant)) <|
  .both (.read (say 0 []) (opened .dormant)) <|
  .both (.carry (say 0 []) (opened .dormant)) <|
  .both (.all 257 <| .carry (say 0 [257]) (opened .dormant)) <|
  .both (.all 0 <| .carry (say 0 [0]) (opened .dormant)) <|
  .both (.read (say 0 []) (opened .dormant)) <|
  .both (.read (say 0 []) (opened .dormant)) <|
  .both (.read (say 0 []) (opened .dormant)) <|
  .both (.read (say 0 []) (opened .dormant)) <|
  .both (.read (say 0 []) (opened .dormant)) <|
  .both (.read (say 0 []) (opened .dormant)) <|
  .both (.read (say 0 []) (opened .dormant)) <|
  .both (.read (say 0 []) (opened .dormant)) <|
  .both (.read (say 0 []) (opened .dormant)) <|
  .both (.all 0 <| .carry (say 0 [0]) (opened .dormant)) <|
  .both (.all 0 <| .carry (say 0 [0]) (opened .dormant)) <|
  .both (.read (say 0 []) (opened .dormant)) <|
  .both (.all 0 <| .carry (say 0 [0]) (opened .dormant)) <|
  .both (.carry (say 0 [0]) { dev := { mode := .dormant, accepted := 0xFFFFFFFFFFFFFFFFFFFFFFFFFFFFFFFF, isOpen := true, pfEnabled := true }, hif := { linkUp := true } }) <|
  .both (.carry (say 0 []) (opened .dormant)) <|
  .carry (say 0 []) (opened .dormant)

theorem test_met_SettingsComplete : Met Obligations.SettingsComplete :=
  .both (.both (.all ([0]) <| .all ([(0, 0x80000000)]) <|
    .carry (say 0 [1, 0, 0x80000000]) (opened .dormant)) (.all ({ code := 34, detail := 1 }) <|
    .carry (say 0 [1, 0, 57]) (opened .dormant))) <|
  .both (.both (.all ([0]) <| .all ([(0, 1)]) <|
    .carry (say 0 [1, 0, 1]) (opened .dormant)) (.all ({ code := 34, detail := 1 }) <|
    .carry (say 0 [1, 0, 2]) (opened .dormant))) <|
  .both (.both (.all ([0]) <| .all ([(0, 60)]) <|
    .carry (say 0 [1, 0, 60]) (opened .dormant)) (.all ({ code := 34, detail := 1 }) <|
    .carry (say 0 [1, 0, 91]) (opened .dormant))) <|
  .both (.both (.all ([0]) <| .all ([(0, 2)]) <|
    .carry (say 0 [1, 0, 2]) (opened .dormant)) (.all ({ code := 34, detail := 1 }) <|
    .carry (say 0 [1, 0, 3]) (opened .dormant))) <|
  .both (.both (.all ([0]) <| .all ([(0, 0)]) <|
    .carry (say 0 [1, 0, 0]) { dev := { mode := .dormant, accepted := 0xFFFFFFFFFFFFFFFFFFFFFFFFFFFFFFFF, isOpen := true, pfEnabled := true }, hif := { linkUp := true } }) (.all ({ code := 34, detail := 1 }) <| .carry (say 0 [1, 0, 2]) { dev := { mode := .dormant, accepted := 0xFFFFFFFFFFFFFFFFFFFFFFFFFFFFFFFF, isOpen := true, pfEnabled := true }, hif := { linkUp := true } })) <|
  .both (.both (.all ([0]) <| .all ([(0, 0)]) <|
    .carry (say 0 [1, 0, 0]) { dev := { mode := .dormant, accepted := 0xFFFFFFFFFFFFFFFFFFFFFFFFFFFFFFFF, isOpen := true, pfEnabled := true }, hif := { linkUp := true } }) (.all ({ code := 34, detail := 1 }) <| .carry (say 0 [1, 0, 2]) { dev := { mode := .dormant, accepted := 0xFFFFFFFFFFFFFFFFFFFFFFFFFFFFFFFF, isOpen := true, pfEnabled := true }, hif := { linkUp := true } })) <|
  .both (.both (.all ([0]) <| .all ([(0, 3600)]) <|
    .carry (say 0 [1, 0, 3600]) (opened .dormant)) (.all ({ code := 34, detail := 1 }) <|
    .carry (say 0 [1, 0, 0x15181]) (opened .dormant))) <|
  .both (.both (.all ([0]) <| .all ([(0, 4)]) <|
    .carry (say 0 [1, 0, 4]) (opened .dormant)) (.all ({ code := 34, detail := 1 }) <|
    .carry (say 0 [1, 0, 17]) (opened .dormant))) <|
  .both (.both (.all ([0]) <| .all ([(0, 5)]) <|
    .carry (say 0 [1, 0, 5]) (opened .dormant)) (.all ({ code := 34, detail := 1 }) <|
    .carry (say 0 [1, 0, 101]) (opened .dormant))) <|
  .both (.both (.all ([0]) <| .all ([(0, 16)]) <|
    .carry (say 0 [1, 0, 16]) { (opened .dormant) with pwr := { vin := 120 } }) (.all ({ code := 34, detail := 1 }) <|
    .carry (say 0 [1, 0, 101]) { (opened .dormant) with pwr := { vin := 120 } })) <|
  .both (.both (.all ([0]) <| .all ([(0, 1)]) <|
    .carry (say 0 [1, 0, 1]) (opened .dormant)) (.all ({ code := 34, detail := 1 }) <|
    .carry (say 0 [1, 0, 2]) (opened .dormant))) <|
  .both (.both (.all ([0]) <| .all ([(0, 1)]) <|
    .carry (say 0 [1, 0, 1]) (opened .dormant)) (.all ({ code := 34, detail := 1 }) <|
    .carry (say 0 [1, 0, 3]) (opened .dormant))) <|
  .both (.both (.all ([0]) <| .all ([(0, 1000)]) <|
    .carry (say 0 [1, 0, 1000]) (opened .dormant)) (.all ({ code := 34, detail := 1 }) <|
    .carry (say 0 [1, 0, 0x186A1]) (opened .dormant))) <|
  .both (.both (.all ([0]) <| .all ([(0, 0)]) <|
    .carry (say 0 [1, 0, 0]) (opened .dormant)) (.all ({ code := 34, detail := 1 }) <|
    .carry (say 0 [1, 0, 64]) (opened .dormant))) <|
  .both (.both (.all ([0]) <| .all ([(0, 8)]) <|
    .carry (say 0 [1, 0, 8]) (opened .dormant)) (.all ({ code := 34, detail := 1 }) <|
    .carry (say 0 [1, 0, 16]) (opened .dormant))) <|
  .both (.both (.all ([0]) <| .all ([(0, 24)]) <|
    .carry (say 0 [1, 0, 24]) (opened .dormant)) (.all ({ code := 34, detail := 1 }) <|
    .carry (say 0 [1, 0, 169]) (opened .dormant))) <|
  .both (.carry (say 0 [4, 0, 1]) (opened .dormant)) <|
  .carry (say 0 [4, 0, 0]) { (opened .dormant) with params := [(0x880002, 1)] }

theorem test_met_AssignmentsComplete : Met Obligations.AssignmentsComplete :=
  .both (.carry (say 0 [0, 0, 1]) (opened .dormant)) <|
  .both (.carry (say 0 [14, 10]) (opened .dormant)) <|
  .both (.carry (say 0 [0, 0]) (opened .dormant)) <|
  .both (.all 0 <| .all 0 <| .all 0 <| .carry (say 0 [0, 0, 0]) (opened .dormant)) <|
  .both (.all 0x20000000 <| .carry (say 0 [0x20000000]) (opened .dormant)) <|
  .both (.all 0 <| .carry (say 0 [0]) (opened .dormant)) <|
  .both (.carry (say 0 [0, 0, 5, 0x4000000, 1, 0, 1]) { dev := { mode := .dormant, accepted := 0xFFFFFFFFFFFFFFFFFFFFFFFFFFFFFFFF, isOpen := true, pfEnabled := true }, hif := { linkUp := true } }) <|
  .both (.carry (say 0 [0, 0, 5, 0x4000000, 1, 0, 0]) { dev := { mode := .dormant, accepted := 0xFFFFFFFFFFFFFFFFFFFFFFFFFFFFFFFF, isOpen := true, pfEnabled := true }, hif := { linkUp := true } }) <|
  .both (.all 3 <| .all 0 <| .carry (say 0 [3, 0]) (opened .dormant)) <|
  .both (.all 0 <| .carry (say 0 [0]) (opened .dormant)) <|
  .both (.carry (say 0 [0]) (opened .dormant)) <|
  .all 1 <| .carry (say 0 [1]) (opened .dormant)

theorem test_met_UnitCommandsComplete : Met Obligations.UnitCommandsComplete :=
  .both (.all true <| .carry (say 0 [0]) { (opened .provisioned) with line := [(0, { state := .acquire })] }) <|
  .both (.carry (say 0 [0]) (opened .provisioned)) <|
  .both (.carry (say 0 []) { (opened .provisioned) with line := [(0, { state := .acquire })] }) <|
  .both (.all true <| .carry (say 0 [1]) { (opened .provisioned) with host := [(0, { state := .acquire })] }) <|
  .both (.carry (say 0 []) { (opened .provisioned) with line := [(0, { ltx := { state := .on } })] }) <|
  .both (.carry (say 0 []) (opened .provisioned)) <|
  .both (.all 12 <| .all 0 <| .all 1 <| .all 0 <| .all 0 <|
    .carry (say 0 [0, 12, 0, 1, 0]) { dev := { mode := .workshop, accepted := 0xFFFFFFFFFFFFFFFFFFFFFFFFFFFFFFFF, isOpen := true, pfEnabled := true }, hif := { linkUp := true }, line := [(0, { state := .test })] }) <|
  .both (.carry (say 0 []) { dev := { mode := .workshop, accepted := 0xFFFFFFFFFFFFFFFFFFFFFFFFFFFFFFFF, isOpen := true, pfEnabled := true }, hif := { linkUp := true }, cap := { running := true } }) <|
  .both (.carry (say 0 [0, 0]) { dev := { mode := .dormant, accepted := 0xFFFFFFFFFFFFFFFFFFFFFFFFFFFFFFFF, isOpen := true, pfEnabled := true }, hif := { linkUp := true } }) <|
  .both (.carry (say 0 [0, 0]) { dev := { mode := .dormant, accepted := 0xFFFFFFFFFFFFFFFFFFFFFFFFFFFFFFFF, isOpen := true, pfEnabled := true }, hif := { linkUp := true } }) <|
  .both (.all 17 <| .all 0 <|
    .carry (say 0 [17, 0]) { (opened .provisioned) with line := [(0, { sea := { tier := 1 } }), (4, { sea := { swap := some {} } }), (5, { sea := { swap := some {} } }), (6, { sea := { swap := some {} } }), (7, { sea := { swap := some {} } })], port := [(0, { cfg := some { type := 0, half := false, reduced := false, base := 0, profile := .observe }, state := .up })] }) <|
  .both (.all 17 <| .all 0 <|
    .carry (say 0 [17, 0]) { (opened .provisioned) with line := [(0, { sea := { tier := 1 } })], port := [(0, { cfg := some { type := 0, half := false, reduced := false, base := 0, profile := .observe }, state := .up })] }) <|
  .both (.all 17 <| .all 0 <| .carry (say 0 [17, 0]) (opened .provisioned)) <|
  .both (.all ([0, 4]) <| .all ([(0, 0), (4, 33), (5, 400)]) <|
    .carry (say 0 [17, 0, 0, 33, 400]) { (opened .dormant) with line := [(0, { sea := { tier := 1 } }), (4, { sea := { swap := some {} } }), (5, { sea := { swap := some {} } }), (6, { sea := { swap := some {} } }), (7, { sea := { swap := some {} } })] }) <|
  .both (.carry (say 0 []) (opened .dormant)) <|
  .both (.carry { req := .pf0, mbx := 2, adverbs := 0, inst := 16, tag := 2, len := 0, words := [] } { (opened .service) with line := [(0, { ltx := { cells := [(15, { health := .retired })] } })] }) <|
  .both (.carry (say 0 []) (opened .dormant)) <|
  .both (.carry (say 0 []) { (opened .dormant) with thm := { sensor := [(0, { broken := true })] } }) <|
  .both (.carry (say 0 []) (opened .dormant)) <|
  .both (.carry (say 0 []) (opened .dormant)) <|
  .both (.carry (say 0 []) (opened .dormant)) <|
  .both (.all 0 <|
    .carry (say 0 [0]) { dev := { mode := .dormant, accepted := 0x1FF007F, isOpen := true, pfEnabled := true }, hif := { linkUp := true }, fw := { shown := true } }) <|
  .all 0 <|
    .carry (say 0 [0]) { dev := { mode := .dormant, accepted := 0xFFFFFFFFFFFFFFFFFFFFFFFFFFFFFFFF, isOpen := true, pfEnabled := true }, hif := { linkUp := true } }

theorem test_met_WindowAccessesComplete : Met Obligations.WindowAccessesComplete :=
  .both (.all .pf0 <| .all 0 <| .all 0 <| .run busUp) <|
  .all 0 <| .all [] <| .run busUp

theorem test_met_BadWordsReadAsTheSpecSays : Met Obligations.BadWordsReadAsTheSpecSays :=
  .both (.all .pf0 <| .all 0x400000 <| .all none <| .run busUp) <|
  .all .pf0 <| .all 0x400000 <|
    .run { dev := { pfEnabled := true }, hif := { linkUp := true }, mem := { cond := [(0x20400000, .poisoned)] } }

theorem test_met_MemoryRepairCompletes : Met Obligations.MemoryRepairCompletes :=
  .both (.all 0 <| .all 0 <| .run {}) <|
  .both (.all 0 <| .run { mem := { region := [(0, { step := 1 })] } }) <|
  .both (.all 0 <| .run { mem := { region := [(0, { step := 2 })] } }) <|
  .both (.all 0 <| .run { mem := { region := [(0, { step := 2 })] } }) <|
  .both (.all 0 <| .run { mem := { region := [(0, { step := 2 })] } }) <|
  .both (.all 3 <| .run { mem := { region := [(3, { step := 3 })] } }) <|
  .both (.all 0 <| .run { mem := { region := [(0, { step := 3 })] } }) <|
  .both (.all ({ kind := 0, source := 0, unit := 0, location := 0, start := 0, seconds := 0 }) <| .all [] <|
    .run { mem := { toRecord := [{ kind := 0, source := 0, unit := 0, location := 0, start := 0, seconds := 0 }] } }) <|
  .all 0 <| .run {}

theorem test_met_CalibrationsComplete : Met Obligations.CalibrationsComplete :=
  .both (.both (.all 0 <| .run { cal := [(0, { runs := 1 })] }) <|
  .both (.all 0 <| .run { line := [(0, { state := .up, lrx := { power := .full } })], cal := [(0, { due := true })] }) <|
  .both (.all 0 <| .run { cal := [(0, { due := true })] }) <|
  .both (.all ([100, 50]) <| .all ([101, 51]) <| .run { cal := [(64, { running := true })] }) <|
  .both (.all 0 <| .all ([5, 5, 5]) <| .all ([50, 50, 50]) <|
    .run { line := [(0, { lrx := { rotStep := 4 } })], cal := [(0, { running := true, pair := 2 })] }) <|
  .both (.all 0 <| .run { cal := [(16, { running := true, pair := 3 })] }) <|
  .both (.all 0 <| .run { cal := [(16, { running := true, elem := 14, pair := 3 })] }) <|
  .run { dev := { refclk := true }, cal := [(96, { running := true })] }) <|
  .both (.all 0 <| .all 64 <| .run { cal := [(0, { running := true })] }) <|
  .both (.all 0 <| .run { line := [(0, { lrx := { rotStep := 1 } })], cal := [(0, { running := true })] }) <|
  .both (.all 0 <| .run { line := [(0, { lrx := { rotStep := 1 } })], cal := [(0, { running := true })] }) <|
  .both (.all 0 <| .all 0 <| .run { line := [(0, { lrx := { rotStep := 2 } })], cal := [(0, { running := true })] }) <|
  .both (.all 0 <| .run { line := [(0, { lrx := { rotStep := 4 } })], cal := [(0, { running := true, pair := 3 })] }) <|
  .both (.all 0 <|
    .run { line := [(0, { lrx := { slices := [(64, { needsCal := true })], rotStep := 4 } })], cal := [(0, { running := true, pair := 3 })] }) <|
  .both (.all 0 <| .run { line := [(0, { lrx := { rotStep := 4 } })], cal := [(0, { running := true, pair := 3 })] }) <|
  .all 0 <| .run { line := [(0, { lrx := { rotStep := 4, rotPos := 63 } })], cal := [(0, { running := true, pair := 3 })] }

theorem test_met_CountersComplete : Met Obligations.CountersComplete :=
  .both (.both (.all 0 <| .run { dev := { mode := .dormant } }) <|
  .both (.all 1 <| .all 0 <| .run { dev := { mode := .dormant } }) <|
  .both (.all ({ at_ := 0, late := true, flush := true, ctrs := [], stats := [] }) <|
    .run { pmc := { dump := some { at_ := 0, late := true, flush := true, ctrs := [], stats := [] } } }) <|
  .both (.all 0 <| .all 0 <| .all 0 <| .all 0 <| .all 0 <|
    .run { dev := { powered := true, accepted := 0xFFFFFFFFFFFFFFFFFFFFFFFFFFFFFFFF }, params := [(0x920000, 0)] }) <|
  .both (.all 0 <| .all 0 <| .all 0 <| .all 0 <| .all 0 <|
    .run { dev := { powered := true, accepted := 0xFFFFFFFFFFFFFFFFFFFFFFFFFFFFFFFF }, params := [(0x920000, 0)], pmc := { winAt := 0xFFFFFFFFDABF41C0 } }) <|
  .all 0 <| .all 0 <| .all 0 <| .all 0 <| .all 0 <|
    .run { dev := { powered := true, accepted := 0xFFFFFFFFFFFFFFFFFFFFFFFFFFFFFFFF }, params := [(0x920000, 0)], pmc := { winN := 0x7A120 } }) <|
  .both (.all 0 <| .all 0 <| .all 0 <| .carry (say 0 [0, 0, 0]) (opened .dormant)) <|
  .both (.all 256 <| .all 1 <| .all 0 <| .carry (say 0 [256, 1, 0]) (opened .dormant)) <|
  .both (.all 0 <| .carry (say 0 [0]) (opened .dormant)) <|
  .carry (say 0 []) (opened .dormant)

theorem test_met_LinkAndPowerStatesComplete : Met Obligations.LinkAndPowerStatesComplete :=
  .both (.run { hif := { linkUp := true } }) <|
  .both (.all 1 <| .all 1 <| .run { dev := { mode := .dormant }, hif := { perst := false }, pwr := { up := true } }) <|
  .both (.all 1 <| .all 1 <|
    .run { dev := { mode := .dormant }, hif := { linkUp := true, perst := false }, pwr := { up := true } }) <|
  .both (.run { hif := { linkUp := true } }) <|
  .both (.all .pf0 <| .run { hif := { linkUp := true } }) <|
  .both (.all .pf0 <| .run { hif := { linkUp := true, dstate := [(0, .d3hot)] } }) <|
  .both (.all .pf0 <| .run { dev := { mode := .dormant }, pwr := { up := true } }) <|
  .both (.run { dev := { mode := .dormant }, pwr := { up := true } }) <|
  .both (.run {}) <|
  .both (.all 0 <| .run { dev := { mode := .dormant } }) <|
  .both (.all 0 <| .run {}) <|
  .run {}

theorem test_met_FunctionResetsComplete : Met Obligations.FunctionResetsComplete :=
  .both (.all .pf0 <| .run { dev := { mode := .dormant }, hif := { linkUp := true }, pwr := { up := true } }) <|
  .run { dev := { mode := .dormant }, hif := { linkUp := true }, pwr := { up := true } }

theorem test_met_DeliveriesComplete : Met Obligations.DeliveriesComplete :=
  .both (.all 0 <| .all { code := 39, bcnt := 39, data := [] } <|
    .run { dev := { mode := .dormant }, ev := { raised := [{ code := 39, bcnt := 39, data := [] }] } }) <|
  .both (.all 0 <| .all ({ code := 0, bcnt := 0, data := [] }) <|
    .run { dev := { mode := .dormant }, ev := { raised := [{ code := 0, bcnt := 0, data := [] }] } }) <|
  .both (.all 1 <| .run { dev := { mode := .startFailed } }) <|
  .both (.all .pf0 <| .all 0 <| .run { icu := [(0, { vec := [(0, { held := [0], timer := true, masked := false })] })] }) <|
  .both (.all .pf0 <| .all 0 <| .run { icu := [(0, { vec := [(0, { held := [0], timer := true })] })] }) <|
  .both (.all 0 <| .all 0 <|
    .all ({ ch := 0, src := 0, bcnt := 0, sseq := 0, late := true, flush := true, addr := 0 }) <|
    .run { dev := { pfEnabled := true }, hif := { linkUp := true, dma := [(0, { size := 0x800000 })], ready := [{ ch := 0, src := 0, bcnt := 0, sseq := 0, late := true, flush := true, addr := 0 }] } }) <|
  .all 0 <| .all 0 <| .all ({ ch := 0, src := 0, bcnt := 0, sseq := 0, late := true, flush := true, addr := 0 }) <|
    .run { hif := { ready := [{ ch := 0, src := 0, bcnt := 0, sseq := 0, late := true, flush := true, addr := 0 }] } }

theorem test_met_OpticsUpdatesComplete : Met Obligations.OpticsUpdatesComplete :=
  .both (.all 0 <| .run { dev := { refclk := true }, params := [(0x680007, 0)] }) <|
  .both (.all 0 <| .run { dev := { refclk := true } }) <|
  .both (.all 0 <| .run {}) <|
  .both (.all 0 <| .all 0 <| .run { dev := { mode := .provisioned, refclk := true } }) <|
  .both (.all 0 <| .all 101 <|
    .run { dev := { mode := .provisioned, refclk := true }, params := [(0x6A0003, 0), (0x6A0006, 1)] }) <|
  .both (.all 0 <|
    .run { dev := { mode := .provisioned, refclk := true }, params := [(0x680002, 1), (0x6B0009, 1)], ocu := { mn := [(0, { fresh := [0] })], loop := [(0, { running := true })] } }) <|
  .all 0 <|
    .run { dev := { mode := .provisioned, refclk := true }, params := [(0x680002, 1), (0x6B0009, 1)], ocu := { mn := [(0, { lastFlags := 1, fresh := [0] })], loop := [(0, { running := true })] } }

theorem test_met_CoresComplete : Met Obligations.CoresComplete :=
  .both (.all 0 <| .all 0 <|
    .run { dev := { refclk := true } } ⟨by decide +kernel, rfl, rfl, rfl, by decide +kernel, rfl, rfl, fun _ => rfl, rfl⟩) <|
  .both (.all 0 <| .all 0 <| .run { dev := { refclk := true }, ocu := { c32Lasting := true } }) <|
  .both (.all 0 <| .run { dev := { refclk := true } }) <|
  .both (.all 33 <| .all 0 <| .run {}) <|
  .both (.all 0 <| .run {}) <|
  .both (.all 0 <| .run { ocu := { ax := [(0, { hand := 1 })] }, cal := [(32, { running := true })] }) <|
  .both (.all 0 <| .run { ocu := { ax := [(0, { hand := 4 })] }, cal := [(32, { running := true })] }) <|
  .both (.all 0 <| .run { ocu := { ax := [(0, { hand := 3 })] }, cal := [(32, { running := true, pair := 3 })] }) <|
  .run { cal := [(64, { running := true, pair := 3 })] }

theorem test_met_ThermalReadingsComplete : Met Obligations.ThermalReadingsComplete :=
  .both (.all (List.replicate 16 (some 300)) <| .all [] <| .all 300 <|
    .run { dev := { mode := .dormant }, thm := { reading := true } }) <|
  .both (.all (List.replicate 16 (some 1754)) <| .all ([some 3, some 3, some 3]) <| .all 1754 <|
    .run { dev := { mode := .provisioned }, thm := { blind := 7, reading := true } }) <|
  .both (.all [] <| .all [] <| .run {}) <|
  .all { last := 1, fails := 2, good := 2 } <| .when <| .all 1 <| .all 1 <|
    .both .equals <| .both .equals <| .both .equals <| .both .equals <| .both .equals .equals

theorem test_met_TestsComplete : Met Obligations.TestsComplete :=
  .both (.all .slice <| .all ({ kind := .slice, unit := 0, loc := 0, source := 0 }) <|
    .run { tst := { under := [({ kind := .slice, unit := 0, loc := 0, source := 0 }, 0)] } }) <|
  .both (.all .slice <| .all ({ kind := .slice, unit := 0, loc := 0, source := 0 }) <|
    .run { tst := { under := [({ kind := .slice, unit := 0, loc := 0, source := 0 }, 1)] } }) <|
  .both (.all .slice <| .all ({ kind := .slice, unit := 0, loc := 0, source := 0 }) <| .all 0 <|
    .run { tst := { under := [({ kind := .slice, unit := 0, loc := 0, source := 0 }, 0)] } }) <|
  .both (.all .slice <| .all ({ kind := .slice, unit := 0, loc := 0, source := 0 }) <| .all 0 <| .all true <|
    .run { tst := { under := [({ kind := .slice, unit := 0, loc := 0, source := 0 }, 0)] }, fw := { a := { testSets := 0 } } }) <|
  .both (.all 0 <|
    .run { dev := { mode := .provisioned, powered := true }, eng := [(0, {}), (1, { role := .test }), (2, { role := .test }), (3, { role := .test }), (4, { role := .test }), (5, { role := .test }), (6, { role := .test }), (7, { role := .test }), (8, { role := .test }), (9, { role := .test }), (10, { role := .test }), (11, { role := .test }), (12, { role := .test }), (13, { role := .test }), (14, { role := .test }), (15, { role := .test }), (16, { role := .test }), (17, { role := .test }), (18, { role := .test }), (19, { role := .test }), (20, { role := .test }), (21, { role := .test }), (22, { role := .test }), (23, { role := .test }), (24, { role := .test }), (25, { role := .test }), (26, { role := .test }), (27, { role := .test }), (28, { role := .test }), (29, { role := .test }), (30, { role := .test }), (31, { role := .test }), (32, { role := .test }), (33, { role := .test }), (34, { role := .test }), (35, { role := .test }), (36, { role := .test }), (37, { role := .test }), (38, { role := .test }), (39, { role := .test }), (40, { role := .test }), (41, { role := .test }), (42, { role := .test }), (43, { role := .test }), (44, { role := .test }), (45, { role := .test }), (46, { role := .test }), (47, { role := .test }), (48, { role := .test }), (49, { role := .test }), (50, { role := .test }), (51, { role := .test }), (52, { role := .test }), (53, { role := .test }), (54, { role := .test }), (55, { role := .test }), (56, { role := .test }), (57, { role := .test }), (58, { role := .test }), (59, { role := .test }), (60, { role := .test }), (61, { role := .test }), (62, { role := .test }), (63, { role := .test }), (64, {}), (65, {}), (66, {}), (67, {}), (68, {}), (69, {}), (70, {}), (71, {}), (72, {}), (73, {}), (74, {}), (75, {}), (76, {}), (77, {}), (78, {}), (79, {}), (80, {}), (81, {}), (82, {}), (83, {}), (84, {}), (85, {}), (86, {}), (87, {}), (88, {}), (89, {}), (90, {}), (91, {}), (92, {}), (93, {}), (94, {}), (95, {}), (96, {}), (97, {}), (98, {}), (99, {}), (100, {}), (101, {}), (102, {}), (103, {}), (104, {}), (105, {}), (106, {}), (107, {}), (108, {}), (109, {}), (110, {}), (111, {}), (112, {}), (113, {}), (114, {}), (115, {}), (116, {}), (117, {}), (118, {}), (119, {}), (120, {}), (121, {}), (122, {}), (123, {}), (124, {}), (125, {}), (126, {}), (127, {}), (128, {}), (129, {}), (130, {}), (131, {}), (132, {}), (133, {}), (134, {}), (135, {}), (136, {}), (137, {}), (138, {}), (139, {}), (140, {}), (141, {}), (142, {}), (143, {}), (144, {}), (145, {}), (146, {}), (147, {}), (148, {}), (149, {}), (150, {}), (151, {}), (152, {}), (153, {}), (154, {}), (155, {}), (156, {}), (157, {}), (158, {}), (159, {}), (160, {}), (161, {}), (162, {}), (163, {}), (164, {}), (165, {}), (166, {}), (167, {}), (168, {}), (169, {}), (170, {}), (171, {}), (172, {}), (173, {}), (174, {}), (175, {}), (176, {}), (177, {}), (178, {}), (179, {}), (180, {}), (181, {}), (182, {}), (183, {}), (184, {}), (185, {}), (186, {}), (187, {}), (188, {}), (189, {}), (190, {}), (191, {}), (192, {}), (193, {}), (194, {}), (195, {}), (196, {}), (197, {}), (198, {}), (199, {}), (200, {}), (201, {}), (202, {}), (203, {}), (204, {}), (205, {}), (206, {}), (207, {}), (208, {}), (209, {}), (210, {}), (211, {}), (212, {}), (213, {}), (214, {}), (215, {}), (216, {}), (217, {}), (218, {}), (219, {}), (220, {}), (221, {}), (222, {}), (223, {}), (224, {}), (225, {}), (226, {}), (227, {}), (228, {}), (229, {}), (230, {}), (231, {}), (232, {}), (233, {}), (234, {}), (235, {}), (236, {}), (237, {}), (238, {}), (239, {}), (240, {}), (241, {}), (242, {}), (243, {}), (244, {}), (245, {}), (246, {}), (247, {}), (248, {}), (249, {}), (250, {}), (251, {}), (252, {}), (253, {}), (254, {}), (255, {})] }) <|
  .both (.all (.engine 0) <| .run {}) <|
  .both (.all 0 <| .run { tst := { slices := [.engine 0] } }) <|
  .all (.engine 0) <| .run { dev := { mode := .provisioned, powered := true } }

theorem test_met_PowerCommandsComplete : Met Obligations.PowerCommandsComplete :=
  .both (.run {}) <|
  .both (.run {}) <|
  .both (.run {}) <|
  .both (.run { pwr := { vin := 100, en := false } }) <|
  .both (.run {}) <|
  .both (.run { pwr := { vin := 100, sysRst := true } }) <|
  .both (.all 0 <| .all .over <| .run { pwr := { rails := 7, up := true } }) <|
  .both (.all 0 <| .all 5000 <| .run { pwr := { rails := 7, up := true } }) <|
  .both (.run { pwr := { up := true } }) <|
  .both (.all ([100, 100, 100, 100]) <| .all ([200, 210, 220, 230]) <| .all 100 <| .run { dev := { powered := true } }) <|
  .both (.all ([2000, 2000, 2000, 2000]) <| .all ([200, 210, 220, 230]) <| .all 2000 <|
    .run { dev := { powered := true } }) <|
  .both (.run { dev := { powered := true }, pwr := { lowering := true } }) <|
  .both (.all 600 <| .run { dev := { powered := true }, pwr := { announced := some 600 } }) <|
  .both (.all 600 <| .run { dev := { powered := true }, pwr := { announced := some 600, forThrottle := true } }) <|
  .both (.all 600 <| .all 1 <|
    .run { line := [(1, { sea := { tier := 4 } })], port := [(1, { cfg := some { type := 0, half := false, reduced := false, base := 0, profile := .observe }, state := .up })], pwr := { announced := some 600, forThrottle := true } }) <|
  .both (.all 600 <|
    .run { line := [(1, { sea := { tier := 3 } })], port := [(1, { cfg := some { type := 0, half := false, reduced := false, base := 0, profile := .observe }, state := .up })], pwr := { announced := some 600 } }) <|
  .all ([200, 210, 220, 230]) <| .run { dev := { powered := true }, pwr := { stepping := true } }

theorem test_met_StartUpStepsComplete : Met Obligations.StartUpStepsComplete :=
  .both (.all 88 <| .all 0 <| .run {}) <|
  .both (.run { dev := { step := 1 } }) <|
  .both (.run { dev := { step := 1 }, pwr := { rails := 7 } }) <|
  .both (.run { dev := { step := 2 } }) <|
  .both (.run { dev := { step := 2 } }) <|
  .both (.run { dev := { step := 3 } }) <|
  .both (.run { dev := { step := 3 } }) <|
  .both (.run { dev := { step := 5 } }) <|
  .both (.run { dev := { step := 5 } }) <|
  .both (.run { dev := { step := 5 }, fw := { tried := true } }) <|
  .both (.run { dev := { step := 6 } }) <|
  .both (.run { dev := { step := 6 } }) <|
  .both (.run { dev := { step := 8 } }) <|
  .all ([200, 210, 220, 230]) <| .run { dev := { mode := .provisioned } }

theorem test_met_ShutterStepsComplete : Met Obligations.ShutterStepsComplete :=
  .both (.all 0 <| .run { dev := { mode := .dormant }, pwr := { up := true } }) <|
  .both (.all 0 <| .run { dev := { mode := .shutter }, shut := { step := .hold }, pwr := { up := true } }) <|
  .both (.run { dev := { mode := .shutter }, shut := { step := .flush } }) <|
  .both (.run { dev := { mode := .shutter }, shut := { step := .flush } }) <|
  .both (.run { dev := { mode := .shutter }, shut := { step := .save, column := .thermal } }) <|
  .both (.run { dev := { mode := .shutter }, shut := { step := .save } }) <|
  .both (.run { dev := { mode := .shutter }, shut := { step := .hold } }) <|
  .both (.run { dev := { mode := .shutter }, shut := { step := .bist } }) <|
  .run { dev := { mode := .shutter }, shut := { step := .power } }

theorem test_met_PanesComplete : Met Obligations.PanesComplete :=
  .both (.all false <| .all true <| .all true <|
    .all ({ ticket := none, check := false, id := 0, pane := 0, length := 0, hdr := [] }) <| .all 1 <|
    .run { fw := { load := some { ticket := none, check := false, id := 0, pane := 0, length := 0, hdr := [] } } }) <|
  .both (.all ({ ticket := some { req := .pf0, tag := 0 }, check := false, id := 0, pane := 0, length := 256, hdr := [87, 88, 73, 77, 1, 0, 1, 0, 0, 0, 0, 0, 0, 0, 0, 0, 0, 0, 0, 0, 0, 0, 0, 0, 0, 0, 0, 0, 0, 0, 0, 0, 255, 255, 255, 255, 0, 0, 0, 0, 0, 0, 0, 0, 0, 0, 0, 0, 0, 0, 0, 0, 0, 0, 0, 0, 0, 0, 0, 0, 0, 0, 0, 0, 0, 0, 0, 0, 0, 0, 0, 0, 0, 0, 0, 0, 0, 0, 0, 0, 0, 0, 0, 0, 0, 0, 0, 0, 0, 0, 0, 0, 0, 0, 0, 0, 0, 0, 0, 0, 0, 0, 0, 0, 0, 0, 0, 0, 0, 0, 0, 0, 0, 0, 0, 0, 0, 0, 0, 0, 0, 0, 0, 0, 0, 0, 0, 0, 0, 0, 0, 0, 0, 0, 0, 0, 0, 0, 0, 0, 0, 0, 0, 0, 0, 0, 0, 0, 0, 0, 0, 0, 0, 0, 0, 0, 0, 0, 0, 0, 0, 0, 0, 0, 0, 0, 0, 0, 0, 0, 0, 0, 0, 0, 0, 0, 0, 0, 0, 0, 0, 0, 0, 0, 0, 0, 0, 0, 0, 0, 0, 0, 0, 0, 0, 0, 0, 0, 0, 0, 0, 0, 0, 0, 0, 0, 0, 0, 0, 0, 0, 0, 0, 0, 0, 0, 0, 0, 0, 0, 0, 0, 0, 0, 0, 0, 0, 0, 0, 0, 0, 0, 0, 0, 0, 0, 0, 0, 0, 0, 0, 0, 0, 0, 0, 0, 0, 0, 0, 0, 0, 0, 0, 0, 0, 0] }) <| .run { fw := { load := some { ticket := some { req := .pf0, tag := 0 }, check := false, id := 0, pane := 0, length := 256, hdr := [87, 88, 73, 77, 1, 0, 1, 0, 0, 0, 0, 0, 0, 0, 0, 0, 0, 0, 0, 0, 0, 0, 0, 0, 0, 0, 0, 0, 0, 0, 0, 0, 255, 255, 255, 255, 0, 0, 0, 0, 0, 0, 0, 0, 0, 0, 0, 0, 0, 0, 0, 0, 0, 0, 0, 0, 0, 0, 0, 0, 0, 0, 0, 0, 0, 0, 0, 0, 0, 0, 0, 0, 0, 0, 0, 0, 0, 0, 0, 0, 0, 0, 0, 0, 0, 0, 0, 0, 0, 0, 0, 0, 0, 0, 0, 0, 0, 0, 0, 0, 0, 0, 0, 0, 0, 0, 0, 0, 0, 0, 0, 0, 0, 0, 0, 0, 0, 0, 0, 0, 0, 0, 0, 0, 0, 0, 0, 0, 0, 0, 0, 0, 0, 0, 0, 0, 0, 0, 0, 0, 0, 0, 0, 0, 0, 0, 0, 0, 0, 0, 0, 0, 0, 0, 0, 0, 0, 0, 0, 0, 0, 0, 0, 0, 0, 0, 0, 0, 0, 0, 0, 0, 0, 0, 0, 0, 0, 0, 0, 0, 0, 0, 0, 0, 0, 0, 0, 0, 0, 0, 0, 0, 0, 0, 0, 0, 0, 0, 0, 0, 0, 0, 0, 0, 0, 0, 0, 0, 0, 0, 0, 0, 0, 0, 0, 0, 0, 0, 0, 0, 0, 0, 0, 0, 0, 0, 0, 0, 0, 0, 0, 0, 0, 0, 0, 0, 0, 0, 0, 0, 0, 0, 0, 0, 0, 0, 0, 0, 0, 0, 0, 0, 0, 0, 0, 0] } } }) <|
  .both (.all ({ ticket := some { req := .pf0, tag := 0 }, check := false, id := 0, pane := 0, length := 256, hdr := [87, 88, 73, 77, 2, 0, 1, 0, 0, 0, 0, 0, 0, 0, 0, 0, 0, 0, 0, 0, 0, 0, 0, 0, 0, 0, 0, 0, 0, 0, 0, 0, 255, 255, 255, 255, 0, 0, 0, 0, 0, 0, 0, 0, 0, 0, 0, 0, 0, 0, 0, 0, 0, 0, 0, 0, 0, 0, 0, 0, 0, 0, 0, 0, 0, 0, 0, 0, 0, 0, 0, 0, 0, 0, 0, 0, 0, 0, 0, 0, 0, 0, 0, 0, 0, 0, 0, 0, 0, 0, 0, 0, 0, 0, 0, 0, 0, 0, 0, 0, 0, 0, 0, 0, 0, 0, 0, 0, 0, 0, 0, 0, 0, 0, 0, 0, 0, 0, 0, 0, 0, 0, 0, 0, 0, 0, 0, 0, 0, 0, 0, 0, 0, 0, 0, 0, 0, 0, 0, 0, 0, 0, 0, 0, 0, 0, 0, 0, 0, 0, 0, 0, 0, 0, 0, 0, 0, 0, 0, 0, 0, 0, 0, 0, 0, 0, 0, 0, 0, 0, 0, 0, 0, 0, 0, 0, 0, 0, 0, 0, 0, 0, 0, 0, 0, 0, 0, 0, 0, 0, 0, 0, 0, 0, 0, 0, 0, 0, 0, 0, 0, 0, 0, 0, 0, 0, 0, 0, 0, 0, 0, 0, 0, 0, 0, 0, 0, 0, 0, 0, 0, 0, 0, 0, 0, 0, 0, 0, 0, 0, 0, 0, 0, 0, 0, 0, 0, 0, 0, 0, 0, 0, 0, 0, 0, 0, 0, 0, 0, 0, 0, 0, 0, 0, 0, 0] }) <| .all [] <| .run { hinge := { load := [{ ticket := some { req := .pf0, tag := 0 }, check := false, id := 0, pane := 0, length := 256, hdr := [87, 88, 73, 77, 2, 0, 1, 0, 0, 0, 0, 0, 0, 0, 0, 0, 0, 0, 0, 0, 0, 0, 0, 0, 0, 0, 0, 0, 0, 0, 0, 0, 255, 255, 255, 255, 0, 0, 0, 0, 0, 0, 0, 0, 0, 0, 0, 0, 0, 0, 0, 0, 0, 0, 0, 0, 0, 0, 0, 0, 0, 0, 0, 0, 0, 0, 0, 0, 0, 0, 0, 0, 0, 0, 0, 0, 0, 0, 0, 0, 0, 0, 0, 0, 0, 0, 0, 0, 0, 0, 0, 0, 0, 0, 0, 0, 0, 0, 0, 0, 0, 0, 0, 0, 0, 0, 0, 0, 0, 0, 0, 0, 0, 0, 0, 0, 0, 0, 0, 0, 0, 0, 0, 0, 0, 0, 0, 0, 0, 0, 0, 0, 0, 0, 0, 0, 0, 0, 0, 0, 0, 0, 0, 0, 0, 0, 0, 0, 0, 0, 0, 0, 0, 0, 0, 0, 0, 0, 0, 0, 0, 0, 0, 0, 0, 0, 0, 0, 0, 0, 0, 0, 0, 0, 0, 0, 0, 0, 0, 0, 0, 0, 0, 0, 0, 0, 0, 0, 0, 0, 0, 0, 0, 0, 0, 0, 0, 0, 0, 0, 0, 0, 0, 0, 0, 0, 0, 0, 0, 0, 0, 0, 0, 0, 0, 0, 0, 0, 0, 0, 0, 0, 0, 0, 0, 0, 0, 0, 0, 0, 0, 0, 0, 0, 0, 0, 0, 0, 0, 0, 0, 0, 0, 0, 0, 0, 0, 0, 0, 0, 0, 0, 0, 0, 0, 0] }] } }) <|
  .both (.all true <|
    .all ({ ticket := none, check := false, id := 0, pane := 0, length := 0, hdr := [], checked := true }) <|
    .run { fw := { load := some { ticket := none, check := false, id := 0, pane := 0, length := 0, hdr := [], checked := true } } }) <|
  .both (.run { fw := { sw := 1 } }) <|
  .both (.run { fw := { sw := 1 } }) <|
  .both (.run { fw := { sw := 2 } }) <|
  .both (.run { fw := { sw := 3 } }) <|
  .both (.run { fw := { sw := 4 } }) <|
  .both (.run { fw := { sw := 2 } }) <|
  .run {}

/-- The state after a step that has a next state. -/
def after (s : State) : State :=
  match step s with
  | .next t => t
  | _ => s

/-- The step has a next state. -/
def goesOn (s : State) : Bool :=
  match step s with
  | .next _ => true
  | _ => false

theorem step_eq_after (s : State) (h : goesOn s = true) : step s = .next (after s) := by
  unfold goesOn at h
  unfold after
  split at h
  · rename_i t ht
    rw [ht]
  · cases h

/-- The management port can be reached, and a transfer of it that is discarded waits in the queue (R495). -/
def oneWaits : State := { pending := [.mgtTransferDiscarded], dev := { mgtUp := true } }

theorem test_met_StepsTakeTheQueueInOrder : Met Obligations.StepsTakeTheQueueInOrder :=
  .both (.all oneWaits <| .all .mgtTransferDiscarded <| .all [] <| .when .equals) <|
  .all {} <| .when .equals

/-- What the step of that state does: the queue is empty, and the transfer is counted. -/
theorem test_step_counts_a_discarded_transfer :
    step oneWaits = .next (after oneWaits) ∧ (after oneWaits).pending = [] ∧ (after oneWaits).hif.mgtDiscarded = 1 :=
  ⟨step_eq_after oneWaits (by decide +kernel), by decide +kernel, by decide +kernel⟩

/-- Its next state meets the premise of `CommandsKeepTheirFrames`. -/
theorem test_met_CommandsKeepTheirFrames :
    exec .mgtTransferDiscarded { oneWaits with pending := [] } = .next (after oneWaits) :=
  step_eq_after oneWaits (by decide +kernel)

theorem test_met_BoundsAreKept : (∀ b : Bound, b.holds oneWaits) ∧ step oneWaits = .next (after oneWaits) := by
  refine ⟨fun b => ?_, step_eq_after oneWaits (by decide +kernel)⟩
  cases b <;> simp only [Bound.holds]
  · decide
  · exact fun r => by cases r <;> decide
  · exact fun r => by cases r <;> decide
  all_goals decide

/-! ## Ill-formed commands -/

/-- A sentence for mailbox 16, which no function has (R441). -/
def toMailbox16 : Sentence :=
  { req := .pf0, mbx := 16, adverbs := 0, inst := 0, tag := 0, len := 0, words := [] }

/-- Lanes, host lanes and ports that no part has are refused. -/
theorem test_illFormed_lanes :
    ([.losAssert 8, .losClear 8, .receiverPowerSettled 8, .agcSettled 8 [], .sliceCorrectionConverged 8, 
      .timingRecoveryLocked 8 0, .acquisitionTimeout 8, .snrWindowEnd 8 0, .timingFrequencyOutOfRange 8, 
      .rotationStepStart 8, .shadowComparisonDone 8 false, .rotationSwitch 8, .transomCalibrationDone 8 false, 
      .fifoWatermarkCrossed 8, .fifoOverflow 8, .planBlockBoundary 8, .swapStaged 8, .shadowSettleEnd 8 [], 
      .swapComparisonDone 8 0 0, .swapSwitch 8, .shadowReturn 8, .coefficientPush 8 [], .swingStep 8, .dacSettled 8, 
      .opticsReady 8, .opticsSettleTimeout 8, .opticsRetryTimer 8, .rampUpEnd 8, .rampDownEnd 8, 
      .opticsReleaseTimer 8, .pilotPacketStart 8, .pilotPacketEnd 8, .beaconIntervalExpiry 8, .syncDetection 8 0 0 0, 
      .bodyDecoded 8 [] 0 0 0, .peerTimeout 8, .hslSignalDetect 16, .hslClockRecoveryLocked 16 0, 
      .trainingFrameLock 16 false, .trainingWaitExpiry 16, .trainingMeasurementDone 16 0 false, .trainingComplete 16, 
      .trainingTimeout 16, .signalLoss 16, .hslSnrWindowEnd 16 0 false, .elasticBufferSlip 16 false, 
      .amLockLoss 16 0, .faultRecoveryTimer 16, .warmAcquisitionTimeout 16, .portStartTimeout 8, .ltxCalStep 8, 
      .amLockRegained 16, .partnerRequest 16 (.preset 0), .markerHuntDone 16 false .normal 0, 
      .blockLockWindowEnd 8 0, .blockLockWindowEnd 0 2, .blockReceived 8 0 0, .blockReceived 0 2 0] : List Instr).all (fun c => !c.wf) = true := by
  decide +kernel

/-- Sentences for a mailbox that does not exist are refused (R441). -/
theorem test_illFormed_sentences :
    ([.getDevMode toMailbox16, .enterDevMode toMailbox16, .shutterDevMode toMailbox16, .enterLaneTest toMailbox16, 
      .leaveLaneTest toMailbox16, .getDevFeature toMailbox16, .negotiateDevFeature toMailbox16, 
      .receiveDevEvent toMailbox16, .getMbxStats toMailbox16, .clearMbxStats toMailbox16, .loadFwImage toMailbox16, 
      .getFwImage toMailbox16, .grantPf1Grant toMailbox16, .revokePf1Grant toMailbox16, .getPf1Grant toMailbox16, 
      .getLrxCfg toMailbox16, .setLrxCfg toMailbox16, .getLrxStatus toMailbox16, .getLrxQuality toMailbox16, 
      .getLrxEstimate toMailbox16, .getLrxSlices toMailbox16, .restartLrxAcq toMailbox16, 
      .captureLrxCapture toMailbox16, .abortLrxCapture toMailbox16, .getSeaPolicy toMailbox16, 
      .setSeaPolicy toMailbox16, .getSeaHinge toMailbox16, .setSeaHinge toMailbox16, .getSeaPlacement toMailbox16, 
      .getSeaEngines toMailbox16, .getSeaKernel toMailbox16, .loadSeaKernel toMailbox16, 
      .selectSeaKernel toMailbox16, .getSeaKparam toMailbox16, .setSeaKparam toMailbox16, .getSdfCfg toMailbox16, 
      .setSdfCfg toMailbox16, .getSdfStatus toMailbox16, .getSdfStats toMailbox16, .getSdfDetector toMailbox16, 
      .restartSdfHunt toMailbox16, .getLtxCfg toMailbox16, .setLtxCfg toMailbox16, .getLtxStatus toMailbox16, 
      .squelchLtxOut toMailbox16, .releaseLtxOut toMailbox16, .getHslCfg toMailbox16, .setHslCfg toMailbox16, 
      .getHslGroup toMailbox16, .setHslGroup toMailbox16, .getHslStatus toMailbox16, .getHslQuality toMailbox16, 
      .restartHslTrain toMailbox16, .getPfxBlocklock toMailbox16, .getPortCfg toMailbox16, .setPortCfg toMailbox16, 
      .deletePortCfg toMailbox16, .startPort toMailbox16, .stopPort toMailbox16, .getPortStatus toMailbox16, 
      .getPltCfg toMailbox16, .setPltCfg toMailbox16, .sendPltPacket toMailbox16, .receivePltPacket toMailbox16, 
      .getPltPeer toMailbox16, .setPltPeer toMailbox16, .getPltStatus toMailbox16, .getLexCfg toMailbox16, 
      .setLexCfg toMailbox16, .getLexPort toMailbox16] : List Instr).all (fun c => !c.wf) = true := by
  decide +kernel

/-- Sentences for a mailbox that does not exist are refused (R441). -/
theorem test_illFormed_sentences_of_the_other_units :
    ([.setLexPort toMailbox16, .getLexContext toMailbox16, .insertLexContext toMailbox16, 
      .deleteLexContext toMailbox16, .flushLexDump toMailbox16, .getLexStats toMailbox16, .getTkuDomain toMailbox16, 
      .setTkuDomain toMailbox16, .getTkuPort toMailbox16, .setTkuPort toMailbox16, .getTkuStats toMailbox16, 
      .getHifLink toMailbox16, .getHifWindow toMailbox16, .setHifWindow toMailbox16, .getHifDma toMailbox16, 
      .setHifDma toMailbox16, .getHifMgt toMailbox16, .getIcuEvent toMailbox16, .setIcuEvent toMailbox16, 
      .getIcuMgt toMailbox16, .setIcuMgt toMailbox16, .getMemCfg toMailbox16, .setMemCfg toMailbox16, 
      .getMemStatus toMailbox16, .getMemEcho toMailbox16, .getMemSpares toMailbox16, .getMemStats toMailbox16, 
      .getOcuAx toMailbox16, .setOcuAx toMailbox16, .getOcuCode toMailbox16, .setOcuCode toMailbox16, 
      .getOcuMn toMailbox16, .setOcuMn toMailbox16, .getOcuLoop toMailbox16, .setOcuLoop toMailbox16, 
      .getOcuLane toMailbox16, .getOcuStats toMailbox16, .getCalCfg toMailbox16, .setCalCfg toMailbox16, 
      .getCalBlock toMailbox16, .runCalBlock toMailbox16, .clearCalBlock toMailbox16, .getThmCfg toMailbox16, 
      .setThmCfg toMailbox16, .getThmSensor toMailbox16, .ackThmSensor toMailbox16, .getThmStatus toMailbox16, 
      .clearThmStatus toMailbox16, .getFwPane toMailbox16, .switchFwPane toMailbox16, .getTstCfg toMailbox16, 
      .setTstCfg toMailbox16, .getTstStatus toMailbox16, .getTstVerdicts toMailbox16, .getRepRecord toMailbox16, 
      .getRelYields toMailbox16, .getPmcCounter toMailbox16, .setPmcCounter toMailbox16, 
      .clearPmcCounter toMailbox16, .getPmcDump toMailbox16, .setPmcDump toMailbox16, .flushPmcDump toMailbox16, 
      .getPmcSample toMailbox16, .setPmcSample toMailbox16, .getPwrCfg toMailbox16, .setPwrCfg toMailbox16, 
      .getPwrStatus toMailbox16, .clearPwrStatus toMailbox16, .getPwrRail toMailbox16, 
      .mbxDoorbellRing 0 0 toMailbox16] : List Instr).all (fun c => !c.wf) = true := by
  decide +kernel

/-- Sentences longer than the mailbox, and for a third mailbox of the management port, are refused (R441, R442). -/
theorem test_illFormed_sentence_forms :
    Sentence.wf { toMailbox16 with mbx := 0, words := List.replicate 1009 0 } = false ∧
      Sentence.wf { toMailbox16 with req := .mgt, mbx := 2 } = false ∧ Sentence.wf { toMailbox16 with mbx := 15 } = true := by
  decide +kernel

/-- Elements, offsets and sizes outside the spec are refused. -/
theorem test_illFormed_elements :
    ([.icuClaimRead .pf0 64, .dmaTailWrite .pf0 4 0, .dmaStatusClear .pf0 4 0 0, .mgtMbxStatusRead 2, 
      .refreshCommand 2, .railCurrentDwell 9 0, .coalescingTimerExpiry .pf0 64, .shadowRefresh 256, .axRampUpdate 33, 
      .loopUpdate 32, .axOutputStageFailure 33, .handoverSwitch 32, .coreCalibrationDone 33, .dumpIntervalExpiry 0 6, 
      .spareBankFillDone 34, .pmcDumpIntervalExpiry 0 6, .calIntervalExpiry 97, .calibrationRunStart 97, 
      .measurementPairDone 97 [] [], .calDueTimer 97, .railFault 9 .over, .engineFault 256 .lateSegment, 
      .adaptEngineFault 256 .lateSegment, .registerWrite .pf0 2 0 true, .registerWrite .pf1 0x100000 0 true, 
      .bar0WideRead .pf0 0 1, .readLoSnapshot .mgt 0x3000, .msixUnmask .pf0 (some 64), .bar2Read .pf0 2 1 [], 
      .bar2Read .pf0 0 0 [], .bar2Read .pf0 0 1025 [], .bar2Read .pf0 0 1 [(4, none)], 
      .bar2Read .pf0 0 1 [(0, some 3)], .bar2Write .pf0 2 [] [], .bar2Write .pf0 0 (List.replicate 513 none) [], 
      .bar2Write .pf0 0 [] [(4, none)], .echoEntryExpiry 5 0, .repairCopyDone 12, .marchTestDone 7 .transient, 
      .datapathPowered [1, 2, 3, 4, 5], .slackReport [1, 2, 3, 4, 5] [], .slackReport [] [1, 2, 3, 4, 5], 
      .vcoreStepSettled [1, 2, 3, 4, 5]] : List Instr).all (fun c => !c.wf) = true := by
  decide +kernel

/-- An estimate period without samples. -/
def emptyFigures : Quality := { hist := [], clips := 0, freq := 0 }

/-- An estimate without residuals. -/
def emptyEstimate : Estimate := { n := 0, dLin := 0, dNl2 := 0, dNl3 := 0, echoes := [] }

/-- A read of a region that is no SRAM. -/
def noRegion : SramRead := { region := 8, addr := 0, row := 0, syn := none }

/-- The Sync of the worked example of "Timekeeping and residence correction". -/
def anyFrame : Frame :=
  { da := 0, sa := 0, tags := [], etype := some 0x88F7, length := 100, fcsOk := true, errCtrl := false, cut := false,
    ptp := some (0, 2), ip := 4, proto := 17, frag := false, dport := 319, correction := 0x0ABC0000, csum := 0x3D72,
    parseAt := 0, rewriteAt := 263 * 64 + 24 }

/-- Figures of another length or range than the spec gives them are refused. -/
theorem test_illFormed_figures :
    ([.agcSettled 8 [], .ffeConverged 8 [], .ffeConverged 0 [(1, [])], .ffeConverged 0 [(1, List.replicate 32 128)], 
      .estimatePeriodEnd 8 emptyFigures emptyEstimate [], .estimatePeriodEnd 0 { emptyFigures with hist := [(256, 1)] } emptyEstimate [], 
      .estimatePeriodEnd 0 emptyFigures { emptyEstimate with echoes := List.replicate 5 (1, 1) } [], .backgroundWindowEnd 8 [] [], 
      .backgroundWindowEnd 0 [{ slice := 65, off := 0, gain := 0, skew := 0, codes := 0, same := 0 }] [], .backgroundWindowEnd 0 [] [(0, [0])], 
      .captureSegmentDrained (List.replicate 4096 0) 0 [noRegion], .blockEntersFifo 8 [], 
      .blockEntersFifo 0 (List.replicate 961 0), .blockEntersFifo 0 [128], .blockRelease 8 [] [], 
      .blockRelease 0 [15] [], .blockRelease 0 [] [noRegion], .engineFault 3 (.localMemory 0 256), 
      .adaptEngineFault 0 (.localMemory 0 256), .coefficientPush 8 [], .shadowSettleEnd 8 [], 
      .huntTestDone 8 [[], [], [], []] [[], [], [], []] [], .huntTestDone 0 [] [] [], 
      .huntTestDone 0 [[(false, false)], [], [], []] [[(16, 0)], [], [], []] [], 
      .huntTestDone 0 [[(false, false)], [], [], []] [[], [], [], []] [], .lockWindowEnd 8 [0, 0, 0, 0], 
      .lockWindowEnd 0 [], .innerCodewordDecode 8 [] [], .innerCodewordDecode 0 (List.replicate 353 0) [], 
      .innerCodewordDecode 0 [] (List.replicate 65 0), .innerCodewordDecode 0 [256] [], 
      .rsCodewordDecode 8 (List.replicate 544 0), .rsCodewordDecode 0 [], 
      .rsCodewordDecode 0 (List.replicate 544 1024), .sdfPeriodEnd 8 [], .sdfPeriodEnd 0 [(64, 0)], 
      .sdfPeriodEnd 0 [(0, 256)], .ltxSettingsApply 8 [], .ltxSettingsApply 0 (List.replicate 545 false), 
      .dacCellFailure 8 0 0, .dacCellFailure 0 16 0, .monitorOutputSample 64 0 false, 
      .monitorOutputSample 0 65536 false, .axCoreFault 33 0, .axCoreFault 0 2, .headerDecoded 8 [0, 0, 0, 0], 
      .headerDecoded 0 [], .hslEqualisationConverged 16 (List.replicate 19 0) (List.replicate 24 0) 0, 
      .hslEqualisationConverged 0 [] (List.replicate 24 0) 0, .hslEqualisationConverged 0 (List.replicate 19 0) [] 0, 
      .hslEqualisationConverged 0 (List.replicate 19 0) (List.replicate 24 512) 0, .hslPeriodEnd 16 0 0 0 0 [] 0 0, 
      .hslPeriodEnd 0 0 1 0 0 [] 0 0, .hslPeriodEnd 0 0 0 0 0 [{ err := 0, xs := [], level := 0 }] 0 0, .sampleIntervalExpiry 256 1 0 0 0, 
      .sampleIntervalExpiry 0 0 0 0 0, .sampleIntervalExpiry 0 6 0 0 0, .earlyDrainDone [noRegion], .dumpPassComplete [noRegion], 
      .dmaRecordWritten 4 0, .dmaRecordWritten 0 6, .thermalReading [] [none, none], 
      .thermalReading (List.replicate 16 none) [], .testSliceStart (.engine 256), .testSliceStart (.bank 34), 
      .sliceTestDone (.bank 34) true, .coverageTimer (.engine 256), .frameParsed 8 0 anyFrame, .frameParsed 0 2 anyFrame, 
      .frameParsed 0 0 { anyFrame with ecc := [noRegion] }] : List Instr).all (fun c => !c.wf) = true := by
  decide +kernel

/-! ## Results worked out in the spec -/

/-- "Parity of one codeword": c134 = c135 = 1 gives the parity 0x27. -/
theorem test_parity_of_the_example : parity (BitVec.twoPow 136 134 ||| BitVec.twoPow 136 135) = 0x27 := by decide +kernel

/-- "The end of a block": symbols 268 to 287, before and after the precoder. -/
theorem test_precoding_of_the_example :
    precodeRun 0 [0, 2, 0, 0, 0, 0, 0, 0, 0, 3, 0, 0, 0, 1, 0, 0, 0, 2, 0, 0] =
      [0, 2, 2, 2, 2, 2, 2, 2, 2, 1, 3, 1, 3, 2, 2, 2, 2, 0, 0, 0] ∧ unprecode 3 2 = 1 := by decide +kernel

/-- The reliabilities of "A double error". -/
def doubleErrorReliabilities : List Nat :=
  (List.range 144).map fun i => if i = 137 then 2 else if i = 139 then 1 else if i = 40 ∨ i = 101 then 4 else 6

/-- "A double error": t = 0b0001 is kept, and c137 and c139 are flipped back. -/
theorem test_double_error_of_the_example :
    chase (encodeWord (BitVec.twoPow 136 134 ||| BitVec.twoPow 136 135) ^^^ BitVec.twoPow 144 137 ^^^ BitVec.twoPow 144 139)
      doubleErrorReliabilities 4 = some (1, [139, 137]) := by decide +kernel

/-- "A beacon on L5": the header's HCRC, and the coded bits of its first byte. -/
theorem test_header_of_the_example :
    crc8 [0x01, 0x38, 0x2A] = 0xEC ∧ (convRun 0 (bitsOf [0x01])) =
      [true, true, true, false, true, true, true, true, false, false, false, true, true, true, false, false] := by
  decide +kernel

/-- "A Sync message": residence at increment 0x01_999E_D7C7, and the UDP checksum after the change of two words. -/
theorem test_residence_of_the_example :
    residence16 (263 * 64 + 24) 0x01999ED7C7 0 = 0x01A56BCB ∧
      udpUpdate 0x3D72 0x0ABC0000 0x0C616BCB = 0xD001 := by decide +kernel

/-- "A heater voltage and its readback": the slot that ring 5 holds for sample 1,000. -/
theorem test_monitor_slot_of_the_example : slotVal 0 clsMon 5 0 0x03E8B000 = 0x0500050003E8B000 := by decide +kernel

/-- "Reading an accumulated counter": the two slots of context 0x01A3. -/
theorem test_slot_pair_of_the_example :
    slotVal 0 clsLex 0x01A3 0 0x200000000 = 0x0101A30200000000 ∧ slotVal 1 clsLex 0x01A3 0 2 = 0x8101A30000000002 := by decide +kernel

/-- The event codes that R519's paragraph gives. -/
theorem test_event_codes :
    evLrxLosAssert = 0x0100 ∧ evSeaYield = 0x0201 ∧ evSeaFifoOverflow = 0x020A ∧ evPortFault = 0x0483 ∧
      evTkuDiscontinuity = 0x0602 := by decide

/-- DMA1 of "A Lexicon record that meets the end of the ring". -/
def fullRing : State :=
  { dev := { pfEnabled := true }
    hif := { linkUp := true, dma := [(1, { size := 0x800000, head := 0x700000, tail := 0x400000, enabled := true })],
             ready := [{ ch := 1, src := 0, bcnt := 0, sseq := 7, late := false, flush := false, addr := 0 }] }
    pending := [.dmaRecordWritten 1 0] }

/-- The record goes to offset 0 behind a pad: HEAD 0x0019_0040, two records more. -/
theorem test_ring_of_the_example :
    goesOn fullRing = true ∧ ((after fullRing).dmaAt 1).head = 0x190040 ∧ ((after fullRing).dmaAt 1).records = 2 := by
  decide +kernel

end
end

section
/-! PROOFS. The refutation of the statement about register accesses that act on the access or on one latch (O3).

A refused TAIL write sets DMA_ERROR, and with it source 22 sends its message (R488, R733, R500). The message counts as event
0x013, a counter of that event that reaches its end raises PMC_SATURATED (R668), and between steps 2 and 4 of a pane switch the
buffer of R658 may have no place for it: the event is then dropped and counted as lost in every event queue (log entry 15).
The statement's frame for the write does not name the event queues. -/

namespace Sys2Proof.Machine

/-- A TAIL write of a PCIe function that reaches its registers acts on the channel. -/
theorem exec_dmaTailWrite_of_bus {r : Requester} {s : State} (ch : Nat) (v : Word) (hbus : s.bus r) (hr : r ≠ .mgt) :
    exec (.dmaTailWrite r ch v) s = .next (s.dmaTail r ch v) := by
  change execDmaTailWrite r ch v s = _
  simp [execDmaTailWrite, State.funcBus, State.onBus, hbus, hr]

/-- A pane switch after step 2 whose event buffer is full, in SERVICE with the link up: PF0 owns DMA channel 0, vector 22 of PF0 is
unmasked, and counter 0, programmed with event 0x013, stands one below its end. -/
def fullBufferSwitch : State :=
  { dev := { mode := .service, isOpen := true, pfEnabled := true }
    hif := { linkUp := true, dma := [(0, { size := 0x800000, enabled := true })] }
    icu := [(Requester.num .pf0, { vec := [(22, { masked := false })] })]
    ev := { raised := List.replicate 4096 { code := evLrxLosAssert, bcnt := 0, data := [] } }
    pmc := { ctr := [(0, { event := 0x013, value := max36 - 1 })] }
    fw := { sw := 2 } }

/-- The state keeps the bounds that every step keeps. -/
theorem fullBufferSwitch_holds_bounds (b : Bound) : b.holds fullBufferSwitch := by
  cases b with
  | memory => exact rfl
  | queues => intro r; cases r <;> decide
  | outstanding => intro r; cases r <;> decide
  | repair => exact Nat.zero_le _
  | stats => exact List.forall_mem_nil _
  | counters => exact List.forall_mem_singleton.2 (Nat.sub_le max36 1)
  | echo => exact Nat.zero_le _

/-- TAIL value 1 is no multiple of 64: PF0's queue counts the PMC_SATURATED that the refusal's message brings as lost. -/
theorem dmaTail_fullBufferSwitch_lost : ((fullBufferSwitch.dmaTail .pf0 0 1).queueAt .pf0).lost = 1 := by decide +kernel

/-- Refutes O3: its frame for a refused TAIL write leaves the event queues alone, but in `fullBufferSwitch` the write adds to the lost
events of PF0's queue. -/
theorem not_registerAccessesComplete : ¬ Obligations.RegisterAccessesComplete := by
  unfold Obligations.RegisterAccessesComplete
  rintro ⟨-, -, -, -, -, -, refusedTail, -⟩
  have hbus : fullBufferSwitch.bus .pf0 := by decide
  obtain ⟨t, hexec, -, -, frame⟩ := refusedTail .pf0 0 1 fullBufferSwitch hbus (by decide) rfl (by decide)
  rw [exec_dmaTailWrite_of_bus 0 1 hbus (by decide)] at hexec
  obtain rfl := Host.Outcome.next.inj hexec
  have queues : fullBufferSwitch.ev.queue = (fullBufferSwitch.dmaTail .pf0 0 1).ev.queue := frame .evQueue (by decide)
  have lost := dmaTail_fullBufferSwitch_lost
  rw [State.queueAt, ← queues] at lost
  exact absurd lost (by decide)

end Sys2Proof.Machine
end

section
/-! PROOFS. Laws that several proofs use: what a frame says of a lane, of a port, of an event raised on the way, and what a fold
reaches. -/

namespace Sys2Proof.Machine

/-- A bit of the one mask of two masks without a common bit is no bit of the other. -/
theorem testBit_of_land_zero {m n i : Nat} (h : m.land n = 0) (hi : n.testBit i = true) : m.testBit i = false := by
  have hbit : (m &&& n).testBit i = (0 : Nat).testBit i := congrArg (Nat.testBit · i) h
  rwa [Nat.testBit_and, hi, Bool.and_true, Nat.zero_testBit] at hbit

section
variable {m n : Nat} {s u t : State}

theorem Keep.live_eq (h : Keep m s t) (hm : m.testBit 3 = false) : t.live = s.live := by
  have hmode : s.dev.mode = t.dev.mode := (h.1 .devMode hm).1
  rw [State.live, State.live, hmode]

theorem Keep.refclk_eq (h : Keep m s t) (hm : m.testBit 5 = false) : t.dev.refclk = s.dev.refclk :=
  (congrArg Dev.refclk (h.1 .devRest hm)).symm

theorem Keep.portAt_eq (h : Keep m s t) (hm : m.testBit 29 = false) (p : Nat) : t.portAt p = s.portAt p :=
  congrArg (fun x : Tbl Port => tget x (fun _ => {}) p) (h.1 .port hm).symm

theorem Keep.engAt_eq (h : Keep m s t) (hm : m.testBit 31 = false) (e : Nat) : t.engAt e = s.engAt e :=
  congrArg (fun x : Tbl Engine => tget x (fun _ => {}) e) (h.1 .eng hm).symm

theorem Keep.statAt_eq (h : Keep m s t) (hm : m.testBit 17 = false) (g j i : Nat) : t.statAt g j i = s.statAt g j i :=
  congrArg (fun x : Tbl Stat => tget x (fun _ => {}) (statKey g j i)) (h.1 .stats hm).symm

theorem Keep.groupOf_eq (h : Keep m s t) (hm : m.land 0x80000004 = 0) (l : Nat) : t.groupOf l = s.groupOf l := by
  have hfuses : s.fuses = t.fuses := h.1 .fuses (testBit_of_land_zero hm rfl)
  have heng := h.engAt_eq (testBit_of_land_zero hm rfl)
  simp only [State.groupOf, State.engines, hfuses, heng]

/-- A frame that leaves out the eight components of a line lane leaves every lane as it is. -/
theorem Keep.lineAt_eq (h : Keep m s t) (hm : m.land 0x3FC0000 = 0) (l : Nat) : t.lineAt l = s.lineAt l := by
  have hstate := h.1 .lnState (testBit_of_land_zero hm rfl) l
  have hrx := h.1 .lnRxPower (testBit_of_land_zero hm rfl) l
  have hsea := h.1 .lnSea (testBit_of_land_zero hm rfl) l
  have hsdf := h.1 .lnSdf (testBit_of_land_zero hm rfl) l
  have hltx := h.1 .lnLtx (testBit_of_land_zero hm rfl) l
  have hplt := h.1 .lnPlt (testBit_of_land_zero hm rfl) l
  have hopt := h.1 .lnOptics (testBit_of_land_zero hm rfl) l
  generalize s.lineAt l = x at *
  generalize t.lineAt l = y at *
  cases x; cases y
  simp_all

/-- An event that a command raises on the way: what comes before it leaves the time, the pane switch and the events raised so
far alone, what follows takes no raised event away. -/
theorem Raises.of_keep {code : Nat} {data : List Word} (hs : s.hears) (hu : Keep m s u) (hm : m.land 0x900000008000 = 0)
    (ht : Keep n (u.raise code data) t) (hn : n.testBit 47 = false) : Raises s t code data := by
  have hfw : s.fw = u.fw := hu.1 .fw (testBit_of_land_zero hm rfl)
  have htku : s.tku = u.tku := hu.1 .tku (testBit_of_land_zero hm rfl)
  have hbefore : s.ev.raised <+: u.ev.raised := hu.1 .evTaken (testBit_of_land_zero hm rfl)
  have hafter : (u.raise code data).ev.raised <+: t.ev.raised := ht.1 .evTaken hn
  have hears : u.eventsHeld = false := by rw [State.eventsHeld, ← hfw]; exact hs
  have hraise : (u.raise code data).ev.raised = u.ev.raised ++ [{ code := code, bcnt := s.tku.bcnt, data := data }] := by
    simp [State.raise, hears, htku]
  rw [hraise] at hafter
  exact ⟨hbefore.trans ((List.prefix_append ..).trans hafter), hafter.subset (by simp)⟩

end

/-- A fold passes the element `x`: what held before holds until then, and what `x` brings stays. -/
theorem foldl_reaches {σ α : Type} {f : σ → α → σ} {Q R : σ → Prop} {xs : List α} {x : α} (hx : x ∈ xs)
    (hQ : ∀ s y, Q s → Q (f s y)) (hQR : ∀ s, Q s → R (f s x)) (hR : ∀ s y, R s → R (f s y)) {s : σ} (hs : Q s) :
    R (xs.foldl f s) := by
  induction xs generalizing s with
  | nil => cases hx
  | cons y ys ih =>
    rcases List.mem_cons.1 hx with rfl | hy
    · exact List.foldlRecOn ys f (hQR s hs) fun b hb a _ => hR b a hb
    · exact ih hy (hQ s y hs)

end Sys2Proof.Machine
end

section
/-! PROOFS. Loss and return of LANE_REFCLK, and the log marker (O30). -/

namespace Sys2Proof.Machine

/-! What the steps of a loss and of a return leave alone, from their `Keep` lemmas. -/

theorem State.pltDone_frame (s : State) (l : Nat) (p : PltPkt) (how : Nat) : Keep 0x20000001b80 s (s.pltDone l p how) :=
  s.pltDone_keep l p how rfl (Keep.refl _ _)
theorem State.pltTruncate_frame (s : State) (l : Nat) : Keep 0x20001021b80 s (s.pltTruncate l) := s.pltTruncate_keep l rfl (Keep.refl _ _)
theorem State.pltAbort_frame (s : State) (l : Nat) : Keep 0x1020000 s (s.pltAbort l) := s.pltAbort_keep l rfl (Keep.refl _ _)
theorem State.txCut_frame (s : State) (l : Nat) : Keep 0x800300 s (s.txCut l) := s.txCut_keep l rfl (Keep.refl _ _)
theorem State.opticsStop_frame (s : State) (l : Nat) : Keep 0x2002000300 s (s.opticsStop l) := s.opticsStop_keep l rfl (Keep.refl _ _)
theorem State.refclkFault_frame (s : State) : Keep 0x2c5e0300 s s.refclkFault := s.refclkFault_keep rfl (Keep.refl _ _)
theorem State.syncRx_frame (s : State) (l : Nat) : Keep 0x1100000 s (s.syncRx l) := s.syncRx_keep l rfl (Keep.refl _ _)
theorem State.syncTx_frame (s : State) (l : Nat) (c : TxCause) : Keep 0x2002800300 s (s.syncTx l c) := s.syncTx_keep l c rfl (Keep.refl _ _)
theorem State.syncWith_frame (s : State) (c : TxCause) : Keep 0x2201b905b08 s (s.syncWith c) := s.syncWith_keep c rfl (Keep.refl _ _)

/-! A line lane that sends nothing: its drive is OFF and no pilot packet is on air (R42). -/

/-- The transmitter of a lane is OFF and the lane's pilot channel sends no packet. -/
def State.Silent (s : State) (k : Nat) : Prop := (s.lineAt k).ltx.state = .off ∧ (s.lineAt k).plt.air = none

/-- A change that touches neither transmitters nor the pilot channel keeps a lane silent. -/
theorem State.Silent.of_keep {m : Nat} {s t : State} {k : Nat} (hs : s.Silent k) (h : Keep m s t) (hm : m.land 0x1800000 = 0) :
    t.Silent k := by
  have hltx := h.1 .lnLtx (testBit_of_land_zero hm rfl) k
  have hplt := h.1 .lnPlt (testBit_of_land_zero hm rfl) k
  rwa [State.Silent, ← hltx, ← hplt]

/-- The packet on air is cut off; a lane without one stays so. -/
theorem State.pltTruncate_air (s : State) {l k : Nat} (h : k = l ∨ (s.lineAt k).plt.air = none) :
    ((s.pltTruncate l).lineAt k).plt.air = none := by
  unfold State.pltTruncate
  split
  · next hair =>
    rcases h with rfl | h
    · exact hair
    · exact h
  · next p hair =>
    have hend : (((s.airEnd l).bump gPlt l 3).lineAt k).plt.air = none := by
      change ((s.airEnd l).lineAt k).plt.air = none
      rw [State.airEnd, State.lineAt_modPlt]
      split
      · rfl
      · next hk => exact h.resolve_left hk
    dsimp only
    split
    · exact hend
    · rwa [← (State.pltDone_frame ..).1 .lnPlt rfl k]

theorem State.pltAbort_air (s : State) (l k : Nat) : ((s.pltAbort l).lineAt k).plt.air = (s.lineAt k).plt.air := by
  unfold State.pltAbort
  split
  · rfl
  · change ((s.modPlt l fun x => { x with rx := .idle }).lineAt k).plt.air = _
    rw [State.lineAt_modPlt]
    split
    · next hk => rw [hk]
    · rfl

/-- The drive of lane `l` is cut; a lane that is OFF stays so. -/
theorem State.txCut_off (s : State) {l k : Nat} (h : k = l ∨ (s.lineAt k).ltx.state = .off) :
    ((s.txCut l).lineAt k).ltx.state = .off := by
  unfold State.txCut
  dsimp only
  split
  · next hoff =>
    rw [State.lineAt_modLtx]
    split
    · exact hoff.1
    · next hk => exact h.resolve_left hk
  · rw [State.raise_lineAt_ltx, State.lineAt_modLtx]
    split
    · rfl
    · next hk => exact h.resolve_left hk

/-- What the loss of the clock does to the transmitter and the pilot channel of a lane (R42). -/
def State.cutLane (s : State) (l : Nat) : State := ((s.pltTruncate l).pltAbort l).txCut l

/-- The loss of the clock on lane `l` silences it and leaves silent lanes silent. -/
theorem State.cutLane_silent (s : State) {l k : Nat} (h : k = l ∨ s.Silent k) : (s.cutLane l).Silent k := by
  unfold State.cutLane
  constructor
  · refine State.txCut_off _ (h.imp_right fun hk => ?_)
    rw [← (State.pltAbort_frame ..).1 .lnLtx rfl k, ← (State.pltTruncate_frame ..).1 .lnLtx rfl k]
    exact hk.1
  · rw [← (State.txCut_frame ..).1 .lnPlt rfl k, State.pltAbort_air]
    exact State.pltTruncate_air s (h.imp_right And.right)

/-! Without LANE_REFCLK no transmitter leaves OFF (R42, R235). -/

theorem State.txWant_of_refclk {s : State} (h : s.dev.refclk = false) (l : Nat) : s.txWant l = false := by
  simp [State.txWant, h]

/-- An update of lane `l` that does not move its transmitter's state moves no lane's. -/
theorem State.lineAt_modLtx_state (s : State) (l k : Nat) (f : Ltx → Ltx) (h : (f (s.lineAt l).ltx).state = (s.lineAt l).ltx.state) :
    ((s.modLtx l f).lineAt k).ltx.state = (s.lineAt k).ltx.state := by
  rw [State.lineAt_modLtx]
  split
  · next hk => rw [hk, h]
  · rfl

theorem State.endEnable_state (s : State) (l : Nat) (c : TxCause) (k : Nat) :
    ((s.endEnable l c).lineAt k).ltx.state = (s.lineAt k).ltx.state := by
  unfold State.endEnable
  split
  · rw [State.raise_lineAt_ltx, ← (State.opticsStop_frame ..).1 .lnLtx rfl k, State.lineAt_modLtx_state]
    rfl
  · exact State.lineAt_modLtx_state s l k _ rfl

theorem State.syncTxState_off {s : State} (hclk : s.dev.refclk = false) (l : Nat) (c : TxCause) {k : Nat}
    (hk : (s.lineAt k).ltx.state = .off) : ((s.syncTxState l c).lineAt k).ltx.state = .off := by
  unfold State.syncTxState
  rw [State.txWant_of_refclk hclk]
  simp only [Bool.false_eq_true, if_false]
  split
  case h_1 => rw [State.endEnable_state, hk]
  case h_4 => exact hk
  all_goals
    rw [State.lineAt_modLtx]
    split
    · simp_all
    · exact hk

theorem State.syncTx_off {s : State} (hclk : s.dev.refclk = false) (l : Nat) (c : TxCause) {k : Nat}
    (hk : (s.lineAt k).ltx.state = .off) : ((s.syncTx l c).lineAt k).ltx.state = .off := by
  unfold State.syncTx
  extract_lets s0 s1
  have hs0 : (s0.lineAt k).ltx.state = .off ∧ s0.dev.refclk = false := by
    dsimp only [s0]
    split
    · exact ⟨hk, hclk⟩
    · exact ⟨(State.lineAt_modLtx_state s l k _ rfl).trans hk, hclk⟩
  have hs1 : (s1.lineAt k).ltx.state = .off := by
    dsimp only [s1]
    split
    · exact hs0.1
    · exact State.syncTxState_off hs0.2 l c hs0.1
  exact (State.lineAt_modLtx_state s1 l k _ rfl).trans hs1

theorem State.syncRx_air (s : State) (l k : Nat) : ((s.syncRx l).lineAt k).plt.air = (s.lineAt k).plt.air := by
  unfold State.syncRx
  dsimp only
  split
  · rfl
  split
  · rw [State.lineAt_modLrx]
    split
    · next hk => rw [hk]
    · rfl
  split
  · rw [State.lineAt_modPlt]
    split
    · next hk => rw [hk, State.lineAt_modLrx_self]
    · next hk => rw [State.lineAt_modLrx, if_neg hk]
  · rw [State.lineAt_modLrx]
    split
    · next hk => rw [hk]
    · rfl

/-- Receivers and transmitters follow: without the clock, silent lanes stay silent. -/
theorem State.syncLane_silent {s : State} {k : Nat} (h : s.dev.refclk = false ∧ s.Silent k) (l : Nat) (c : TxCause) :
    ((s.syncRx l).syncTx l c).dev.refclk = false ∧ ((s.syncRx l).syncTx l c).Silent k := by
  obtain ⟨hclk, htx, hair⟩ := h
  have hrx : (s.syncRx l).dev.refclk = false := ((State.syncRx_frame s l).refclk_eq rfl).trans hclk
  refine ⟨((State.syncTx_frame ..).refclk_eq rfl).trans hrx, State.syncTx_off hrx l c ?_, ?_⟩
  · rwa [← (State.syncRx_frame s l).1 .lnLtx rfl k]
  · rwa [← (State.syncTx_frame ..).1 .lnPlt rfl k, State.syncRx_air]

/-- All of the part follows: without the clock, silent lanes stay silent. -/
theorem State.syncWith_silent {s : State} {k : Nat} (h : s.dev.refclk = false ∧ s.Silent k) (c : TxCause) :
    (s.syncWith c).Silent k := by
  have hlines := List.foldlRecOn (motive := fun u : State => u.dev.refclk = false ∧ u.Silent k) (List.range s.lines)
    (fun s l => (s.syncRx l).syncTx l c) h fun u hu l _ => State.syncLane_silent hu l c
  unfold State.syncWith
  extract_lets s1 s2
  have hrest : Keep 0x2201a105b08 s1 ([0, 1].foldl (fun s g => s.syncGroup g) s2.opticsCheck).settle := by
    refine State.settle_keep _ rfl (Keep.foldl _ (fun u g hu => State.syncGroup_keep u g rfl hu) ?_)
    exact State.opticsCheck_keep _ rfl (Keep.foldl _ (fun u h hu => State.syncHost_keep u h rfl hu) (Keep.refl _ _))
  exact hlines.2.of_keep hrest rfl

/-! Ports at the loss of the clock (R317, R308). -/

theorem State.portAt_modPort_state (s : State) (q p : Nat) (f : Port → Port) (h : (f (s.portAt q)).state = (s.portAt q).state) :
    ((s.modPort q f).portAt p).state = (s.portAt p).state := by
  rw [State.portAt_modPort]
  split
  · next hp => rw [hp, h]
  · rfl

theorem State.countFaultSide_state (s : State) (q : Nat) (host : Bool) (p : Nat) :
    ((s.countFaultSide q host).portAt p).state = (s.portAt p).state := by
  unfold State.countFaultSide
  dsimp only
  split
  · split
    · rfl
    · exact State.portAt_modPort_state s q p (fun x => { x with hostIn := true }) rfl
  · split
    · rfl
    · exact State.portAt_modPort_state s q p (fun x => { x with lineIn := true }) rfl

/-- What lanes that fail do to the state of their port `q`, and to no other's: a live port that is UP enters FAULT. -/
theorem State.portFail_state (s : State) (q : Nat) (ls hs : List Nat) (ev p : Nat) :
    ((s.portFail q ls hs ev).portAt p).state =
      if p = q ∧ s.live = true ∧ (s.portAt q).state = .up then .fault else (s.portAt p).state := by
  unfold State.portFail
  extract_lets x add count
  have hcount : ∀ u : State, ((count (add u)).portAt p).state = (u.portAt p).state := by
    intro u
    have hadd : ((add u).portAt p).state = (u.portAt p).state := State.portAt_modPort_state u q p _ rfl
    dsimp only [count]
    split <;> split <;> simp only [State.countFaultSide_state, hadd]
  have hstate : (if s.live = true then x.state else .stopped) = .up ↔ s.live = true ∧ (s.portAt q).state = .up := by
    split <;> simp_all [x]
  split
  · next hup =>
    rw [(State.raise_frame ..).portAt_eq rfl, hcount, State.portAt_modPort]
    split
    · next hp => rw [if_pos ⟨hp, hstate.1 hup⟩]
    · next hp => rw [if_neg fun h => hp h.1]
  · next hfault =>
    rw [hcount, if_neg fun h => ?_]
    rw [hstate.2 h.2] at hfault
    cases hfault
  · next hup _ => rw [if_neg fun h => hup (hstate.2 h.2)]

/-- What the loss of the clock does to the port of slot `p` and its lanes (R317). -/
def State.clockLost (s : State) (p : Nat) : State :=
  let st := if s.live then (s.portAt p).state else .stopped
  if st = .acquire ∨ st = .up ∨ st = .fault then
    let ls := s.portLines p
    let hs := s.portHosts p
    let s1 := ls.foldl (fun s l => s.modLine l fun x => { x with
      state := .fault, lrx := { x.lrx with step := 0, lowSnr := 0 } }) s
    let s2 := hs.foldl (fun s h => s.modHost h fun x => { x with
      state := .fault, step := 0, cause := .refclk, recover := false, wasUp := false }) s1
    if st = .acquire then s2.modPort p fun x => { x with
      state := .fault, faultAt := s.tku.bcnt, cause := (ls.headD 0, 0), lineFault := ls, hostFault := hs,
      lineIn := false, hostIn := false, clockLost := true }
    else (s2.portFail p ls hs laneRefclk).modPort p fun x => { x with clockLost := true }
  else s

theorem State.refclkFault_eq (s : State) : s.refclkFault =
    let s0 := (List.range s.lines).foldl (fun s l => s.lockEnd l lostRefclk) s
    s0.slots.foldl (fun s p => s.clockLost p) s0 := rfl

/-- A live port that is UP or in FAULT is in FAULT once its slot has lost the clock; the loss on another slot leaves its state
alone. -/
theorem State.clockLost_state (s : State) (q p : Nat) (hlive : s.live = true) :
    ((s.clockLost q).portAt p).state = if p = q ∧ (s.portAt q).state ≠ .stopped ∧ (s.portAt q).state ≠ .test then .fault
      else (s.portAt p).state := by
  unfold State.clockLost
  extract_lets st ls hs s1 s2
  have hkeep : Keep 0xC1C0000 s s2 := by
    refine Keep.foldl _ (fun u h hu => Keep.modHost (.inl rfl) rfl hu) (Keep.foldl _ (fun u l hu => ?_) (Keep.refl _ _))
    exact Keep.modLine (.inl rfl) (.inl rfl) (.inl rfl) (.inr fun _ => rfl) (.inr fun _ => rfl) (.inr fun _ => rfl)
      (.inr fun _ => rfl) (.inr fun _ => ⟨rfl, rfl⟩) hu
  have hst : st = (s.portAt q).state := if_pos hlive
  rw [hst]
  have hport : ∀ p, s2.portAt p = s.portAt p := hkeep.portAt_eq rfl
  have hlive2 : s2.live = true := (hkeep.live_eq rfl).trans hlive
  split
  · next hstarted =>
    split
    · next hacq =>
      rw [State.portAt_modPort]
      split
      · next hp => simp [hp, hacq]
      · next hp => rw [if_neg fun h => hp h.1, hport]
    · next hacq =>
      rw [State.portAt_modPort_state _ _ _ _ rfl, State.portFail_state, hport, hport, hlive2]
      obtain hup | hfault := hstarted.resolve_left hacq
      · simp [hup]
      · by_cases hp : p = q <;> simp [hp, hfault]
  · next hidle =>
    by_cases hp : p = q
    · subst hp
      generalize (s.portAt p).state = x at hidle
      cases x <;> simp_all
    · simp [hp]

/-- A loss of the clock on another slot, or on this one, leaves the mode alone. -/
theorem State.clockLost_frame (s : State) (p : Nat) : Keep 0x2C1E0300 s (s.clockLost p) := by
  unfold State.clockLost
  extract_lets st ls hs s1 s2
  have hs2 : Keep 0x2C1E0300 s s2 := by
    refine Keep.foldl _ (fun u h hu => Keep.modHost (.inl rfl) rfl hu) (Keep.foldl _ (fun u l hu => ?_) (Keep.refl _ _))
    exact Keep.modLine (.inl rfl) (.inl rfl) (.inl rfl) (.inr fun _ => rfl) (.inr fun _ => rfl) (.inr fun _ => rfl)
      (.inr fun _ => rfl) (.inr fun _ => ⟨rfl, rfl⟩) hu
  split
  · split
    · exact Keep.modPort rfl hs2
    · exact Keep.modPort rfl (State.portFail_keep _ _ _ _ _ rfl hs2)
  · exact Keep.refl _ _

/-- A port in traffic: live, UP or in FAULT. -/
def State.InTraffic (s : State) (p : Nat) : Prop :=
  s.live = true ∧ ((s.portAt p).state = .up ∨ (s.portAt p).state = .fault)

/-- A port in FAULT while the device is live. -/
def State.InFault (s : State) (p : Nat) : Prop := s.live = true ∧ (s.portAt p).state = .fault

/-- A port in traffic is in FAULT once its own slot has lost the clock. -/
theorem State.InTraffic.clockLost_self {s : State} {p : Nat} (h : s.InTraffic p) : (s.clockLost p).InFault p := by
  obtain ⟨hlive, hstate⟩ := h
  refine ⟨((State.clockLost_frame s p).live_eq rfl).trans hlive, ?_⟩
  rw [State.clockLost_state s p p hlive, if_pos]
  rcases hstate with h | h <;> simp [h]

theorem State.InFault.clockLost {s : State} {p : Nat} (h : s.InFault p) (q : Nat) : (s.clockLost q).InFault p := by
  obtain ⟨hlive, hstate⟩ := h
  refine ⟨((State.clockLost_frame s q).live_eq rfl).trans hlive, ?_⟩
  rw [State.clockLost_state s q p hlive, hstate, ite_self]

theorem State.InTraffic.clockLost {s : State} {p : Nat} (h : s.InTraffic p) (q : Nat) : (s.clockLost q).InTraffic p := by
  obtain ⟨hlive, hstate⟩ := h
  refine ⟨((State.clockLost_frame s q).live_eq rfl).trans hlive, ?_⟩
  rw [State.clockLost_state s q p hlive]
  split
  · exact .inr rfl
  · exact hstate

/-- Every live port that was UP is in FAULT after the loss of the clock. -/
theorem State.refclkFault_state {s : State} {p : Nat} (hp : p ∈ s.slots) (hlive : s.live = true) (hup : (s.portAt p).state = .up) :
    (s.refclkFault.portAt p).state = .fault := by
  rw [State.refclkFault_eq]
  extract_lets s0
  have hs0 : Keep 0x420300 s s0 := Keep.foldl _ (fun u l hu => State.lockEnd_keep u l lostRefclk rfl hu) (Keep.refl _ _)
  have hslots : p ∈ s0.slots := by
    have hfuses : s.fuses = s0.fuses := hs0.1 .fuses rfl
    rwa [State.slots, State.lines, ← hfuses]
  have hs0p : s0.InTraffic p := ⟨(hs0.live_eq rfl).trans hlive, .inl (by rw [hs0.portAt_eq rfl, hup])⟩
  exact (foldl_reaches (Q := (State.InTraffic · p)) (R := (State.InFault · p)) hslots (fun _ q hu => hu.clockLost q)
    (fun _ hu => hu.clockLost_self) (fun _ q hu => hu.clockLost q) hs0p).2

/-! LANE_REFCLK_ABSENT. -/

/-- The state in which the clock is declared absent: BCNT holds its value, which is noted (R383). -/
def State.clockStopped (s : State) : State :=
  { s with dev := { s.dev with refclk := false }, tku := { s.tku with holdAt := s.tku.bcnt } }

/-- Every transmitter is cut and every pilot packet on air truncated (R42). -/
def State.allCut (s : State) : State := (List.range s.lines).foldl State.cutLane s

theorem State.allCut_frame (s : State) : Keep 0x20001821b80 s s.allCut :=
  Keep.foldl _ (fun _ l hu => State.txCut_keep _ l rfl (State.pltAbort_keep _ l rfl (State.pltTruncate_keep _ l rfl hu))) (Keep.refl _ _)

theorem State.allCut_silent (s : State) {l : Nat} (hl : l < s.lines) : s.allCut.Silent l :=
  foldl_reaches (f := State.cutLane) (Q := fun _ => True) (R := fun u => u.Silent l) (List.mem_range.2 hl) (fun _ _ _ => trivial)
    (fun u _ => u.cutLane_silent (.inl rfl)) (fun u _ hu => u.cutLane_silent (.inr hu)) trivial

theorem exec_laneRefclkAbsent_of_present {s : State} (h : s.dev.refclk = true) :
    exec .laneRefclkAbsent s = .next ((s.clockStopped.allCut.refclkFault).syncWith .refclk).calCheck :=
  by
  change execLaneRefclkAbsent s = _
  rw [execLaneRefclkAbsent, if_pos h]
  rfl

/-- The loss of the clock (R42, R317, R383). -/
theorem laneRefclkAbsent_completes : Completes .laneRefclkAbsent (fun s => s.dev.refclk)
    (fun s t => t.dev.refclk = false ∧ t.tku.bcnt = s.tku.bcnt ∧ t.tku.holdAt = s.tku.bcnt ∧
      (∀ l, l < s.lines → (t.lineAt l).ltx.state = .off ∧ (t.lineAt l).plt.air = none) ∧
      ∀ p ∈ s.slots, s.live → (s.portAt p).state = .up → (t.portAt p).state = .fault) := by
  intro s hclk
  refine ⟨_, exec_laneRefclkAbsent_of_present hclk, ?_⟩
  have hcut := s.clockStopped.allCut_frame
  have hfault := State.refclkFault_frame s.clockStopped.allCut
  have hsync := State.syncWith_frame s.clockStopped.allCut.refclkFault .refclk
  have hcal := State.calCheck_frame (s.clockStopped.allCut.refclkFault.syncWith .refclk)
  have hall := hcal.step (n := 0x6000100300) (m := 0x2603FDE5B88) rfl
    (hsync.step rfl (hfault.step rfl (hcut.step rfl (Keep.refl _ _))))
  have htku : s.clockStopped.tku = _ := hall.1 .tku rfl
  refine ⟨hall.refclk_eq rfl, ?_, ?_, fun l hl => ?_, fun p hp hlive hup => ?_⟩
  · rw [← htku]; rfl
  · rw [← htku]; rfl
  · have hsilent := (s.clockStopped.allCut_silent hl).of_keep hfault rfl
    have hclk : s.clockStopped.allCut.refclkFault.dev.refclk = false := (hfault.refclk_eq rfl).trans (hcut.refclk_eq rfl)
    exact (State.syncWith_silent ⟨hclk, hsilent⟩ .refclk).of_keep hcal rfl
  · have hfuses : s.clockStopped.fuses = s.clockStopped.allCut.fuses := hcut.1 .fuses rfl
    rw [hcal.portAt_eq rfl, hsync.portAt_eq rfl]
    refine State.refclkFault_state ?_ ((hcut.live_eq rfl).trans hlive) ?_
    · rwa [State.slots, State.lines, ← hfuses]
    · rw [hcut.portAt_eq rfl]; exact hup

/-! LANE_REFCLK_PRESENT. -/

/-- The state in which the clock is declared present after a hold: every time view is discontinuous (R383). -/
def State.clockReturned (s : State) : State :=
  { s with
    dev := { s.dev with refclk := true }
    tku := { s.tku with heldFlag := true, domA := { s.tku.domA with disc := true }
                        domB := if s.domBOn then { s.tku.domB with disc := true } else s.tku.domB } }

/-- The state in which the clock is declared present for the first time. -/
def State.clockSeen (s : State) : State := { s with dev := { s.dev with refclk := true, refclkSeen := true } }

/-- After TKU_DISCONTINUITY the return of the clock touches neither the device's record nor timekeeping, and takes no event away. -/
theorem exec_laneRefclkPresent_of_held {s : State} (hclk : s.dev.refclk = false) (hseen : s.dev.refclkSeen = true)
    (hmode : s.dev.mode ≠ .starting) :
    ∃ t, exec .laneRefclkPresent s = .next t ∧
      Keep 0x2601FDA5B08 (s.clockReturned.raise evTkuDiscontinuity (field32 s.tku.holdAt.toNat ++ field32 s.tku.bcnt.toNat)) t := by
  change ∃ t, execLaneRefclkPresent s = _ ∧ _
  rw [execLaneRefclkPresent, if_neg (by simp [hclk, hmode]), if_pos hseen]
  refine ⟨_, rfl, State.follow_keep _ rfl (Keep.foldl _ (fun u p hu => ?_) (Keep.foldl _ (fun u c hu => ?_) ?_))⟩
  · exact Keep.ite (State.coldAgain_keep _ _ rfl hu) hu
  · exact Keep.modMn rfl hu
  · exact State.applyCodes_keep _ rfl (Keep.refl _ _)

theorem exec_laneRefclkPresent_of_first {s : State} (hclk : s.dev.refclk = false) (hseen : s.dev.refclkSeen = false)
    (hmode : s.dev.mode ≠ .starting) : ∃ t, exec .laneRefclkPresent s = .next t ∧ Keep 0x2601B905B08 s.clockSeen t := by
  change ∃ t, execLaneRefclkPresent s = _ ∧ _
  rw [execLaneRefclkPresent, if_neg (by simp [hclk, hmode]), if_neg (by simp [hseen])]
  exact ⟨_, rfl, State.follow_keep _ rfl (State.applyCodes_keep _ rfl (Keep.refl _ _))⟩

/-- The return of the clock after a hold (R42, R383). -/
theorem laneRefclkPresent_completes_of_held : Completes .laneRefclkPresent
    (fun s => s.dev.refclk = false ∧ s.dev.refclkSeen ∧ s.dev.mode ≠ .starting ∧ s.hears)
    (fun s t => t.dev.refclk = true ∧ t.tku.bcnt = s.tku.bcnt ∧ t.tku.heldFlag = true ∧ t.tku.domA.disc = true ∧
      (s.domBOn → t.tku.domB.disc = true) ∧
      Raises s t evTkuDiscontinuity [Word.nat s.tku.holdAt.toNat, Word.nat s.tku.bcnt.toNat]) := by
  rintro s ⟨hclk, hseen, hmode, hears⟩
  obtain ⟨t, hexec, ht⟩ := exec_laneRefclkPresent_of_held hclk hseen hmode
  have hall := ht.step (m := 0x2601FDA5B08) rfl (State.raise_keep _ _ _ rfl (Keep.refl _ _))
  have htku : s.clockReturned.tku = t.tku := hall.1 .tku rfl
  refine ⟨t, hexec, hall.refclk_eq rfl, ?_, ?_, ?_, fun hB => ?_, ?_⟩
  · rw [← htku]; rfl
  · rw [← htku]; rfl
  · rw [← htku]; rfl
  · rw [← htku]
    simp [State.clockReturned, hB]
  · exact Raises.of_keep (s := s.clockReturned) hears (Keep.refl 0 _) rfl ht rfl

/-- The first time that the clock is present: no time view is lost. -/
theorem laneRefclkPresent_completes_of_first : Completes .laneRefclkPresent
    (fun s => s.dev.refclk = false ∧ s.dev.refclkSeen = false ∧ s.dev.mode ≠ .starting)
    (fun s t => t.dev.refclk = true ∧ t.dev.refclkSeen = true ∧ t.tku = s.tku) := by
  rintro s ⟨hclk, hseen, hmode⟩
  obtain ⟨t, hexec, ht⟩ := exec_laneRefclkPresent_of_first hclk hseen hmode
  have hrest : s.clockSeen.dev.rest = t.dev.rest := ht.1 .devRest rfl
  have htku : s.clockSeen.tku = t.tku := ht.1 .tku rfl
  exact ⟨t, hexec, ht.refclk_eq rfl, (congrArg Dev.refclkSeen hrest).symm, htku.symm⟩

/-! LOG_MARKER_TIMER (R398). -/

theorem logMarkerTimer_completes : Completes .logMarkerTimer (fun s => s.begins)
    (fun s t => t.dev.log = s.dev.log ++ [.marker s.tku.sel (s.dom s.tku.sel).sec (s.dom s.tku.sel).ns] ∧
      OnlyChanges [.devRest] s t) := by
  intro s hbegins
  obtain ⟨t, hexec, hlog⟩ : ∃ t, exec .logMarkerTimer s = .next t ∧
      t.dev.log = s.dev.log ++ [.marker s.tku.sel (s.dom s.tku.sel).sec (s.dom s.tku.sel).ns] := by
    change ∃ t, execLogMarkerTimer s = _ ∧ _
    rw [execLogMarkerTimer, if_pos hbegins]
    exact ⟨_, rfl, rfl⟩
  exact ⟨t, hexec, hlog, (execLogMarkerTimer_keep s hexec).among rfl⟩

/-- Settles O30, from one lemma for each of its four clauses. -/
theorem clockLossAndReturnComplete : Obligations.ClockLossAndReturnComplete :=
  ⟨laneRefclkAbsent_completes, laneRefclkPresent_completes_of_held, laneRefclkPresent_completes_of_first, logMarkerTimer_completes⟩

end Sys2Proof.Machine
end

section
/-! PROOFS. The elastic FIFO of a lane (O10, its first part): what a block that enters it brings (R46, R127, R128), what a release
takes (R131, R132, R540), the high watermark (R51) and the overflow (R52). -/

namespace Sys2Proof.Machine

/-! A block enters. -/

/-- A block that is dispatched joins the FIFO, with its FFE samples at tier 0 or without a group, else with its segments round-robin
over the group and their results (R127, R128); only engines and their counters change beside the lane's elastic stage. -/
theorem State.dispatch_cases (s : State) (l : Nat) (ys : List Int) {x : Sea} {g : List Nat} (hx : (s.lineAt l).sea = x)
    (hg : s.groupOf l = g) :
    ∃ u, Keep 0x20080000300 s u ∧
      (((x.tier = 0 ∨ g = []) ∧ s.dispatch l ys = u.modSea l fun y => { y with
          fifo := y.fifo ++ [{ occ := x.fifo.length + 1, ffe := ys, out := ys }], overlap := ys.drop (ys.length - 64) }) ∨
        (¬ (x.tier = 0 ∨ g = []) ∧ ∃ out tap, s.dispatch l ys = u.modSea l fun y => { y with
          fifo := y.fifo ++ [{ occ := x.fifo.length + 1, tier := x.tier, ffe := ys, out := out
                               segs := (List.range 15).map fun k => g.getD ((x.rr + k) % g.length) 0 }]
          overlap := ys.drop (ys.length - 64)
          taps := (y.taps ++ [tap]).drop (y.taps.length + 1 - 256), rr := (x.rr + 15) % g.length })) := by
  generalize hd : s.dispatch l ys = d
  unfold State.dispatch at hd
  rw [hx, hg] at hd
  extract_lets x' g' block s1 occ last segs work s2 out tap at hd
  subst hd
  have hs1 : Keep 0x20080000300 s s1 := by
    dsimp only [s1]
    refine Keep.foldl _ (fun u e hu => ?_) (Keep.refl _ _)
    exact State.pmcEngine_keep _ _ _ _ rfl (Keep.modEng rfl hu)
  by_cases h : x.tier = 0 ∨ g = []
  · exact ⟨s1, hs1, .inl ⟨h, if_pos (by simpa using h)⟩⟩
  · have hs2 : Keep 0x20080000300 s s2 := Keep.foldl segs.zipIdx (fun u p hu => Keep.modEng rfl hu) hs1
    exact ⟨s2, hs2, .inr ⟨h, out, tap, if_neg (by simpa using h)⟩⟩

theorem State.dispatch_lineAt_other (s : State) {l k : Nat} (ys : List Int) (hk : k ≠ l) :
    (s.dispatch l ys).lineAt k = s.lineAt k := by
  obtain ⟨u, hu, ⟨-, h⟩ | ⟨-, out, tap, h⟩⟩ := s.dispatch_cases l ys rfl rfl <;>
    rw [h, State.lineAt_modSea, if_neg hk, hu.lineAt_eq rfl]

/-- The front end touches nothing but the receiver of its lane. -/
theorem State.frontEnd_lineAt_other (s : State) {l k : Nat} (xs : List Int) (hk : k ≠ l) :
    (s.frontEnd l xs).1.lineAt k = s.lineAt k := by
  unfold State.frontEnd
  dsimp only
  split <;> rw [State.lineAt_modLrx, if_neg hk]

theorem State.frontEnd_frame (s : State) (l : Nat) (xs : List Int) : Keep 0x180000 s (s.frontEnd l xs).1 :=
  s.frontEnd_keep l xs rfl (Keep.refl _ _)

/-- In LISTEN the front end is the envelope tap alone (R67, R71). -/
theorem State.frontEnd_of_listen {s : State} {l : Nat} (xs : List Int) (h : (s.lineAt l).lrx.power = .listen) :
    (s.frontEnd l xs).1 = s.modLrx l fun y => { y with
      env := xs.foldl (fun e v => e.take (envWindow (s.half l) true) (s.lineAt l).lrx.los v) y.env } := by
  simp [State.frontEnd, h]

theorem exec_blockEntersFifo_of_flow {s : State} {l : Nat} (codes : List Int) (hl : l < s.lines)
    (hpower : (s.lineAt l).lrx.power = .full) (hflow : s.blocksFlow l = true) (hroom : (s.lineAt l).sea.fifo.length < 16) :
    exec (.blockEntersFifo l codes) s =
      .next ((s.frontEnd l (s.correctCodes l codes)).1.dispatch l (s.frontEnd l (s.correctCodes l codes)).2) := by
  change execBlockEntersFifo l s codes = _
  rw [execBlockEntersFifo, if_pos ⟨hl, by simp [hpower]⟩]
  dsimp only
  rw [if_pos ⟨hflow, hroom⟩]

theorem exec_blockEntersFifo_of_listen {s : State} {l : Nat} (codes : List Int) (hl : l < s.lines)
    (hpower : (s.lineAt l).lrx.power = .listen) :
    exec (.blockEntersFifo l codes) s = .next (s.frontEnd l (s.correctCodes l codes)).1 := by
  have hflow : s.blocksFlow l = false := by simp [State.blocksFlow, hpower]
  change execBlockEntersFifo l s codes = _
  rw [execBlockEntersFifo, if_pos ⟨hl, by simp [hpower]⟩]
  dsimp only
  rw [if_neg (by simp [hflow])]

/-- A block enters with its samples as the receiver corrects and equalises them, its segments spread over the group. -/
theorem blockEntersFifo_completes (l : Nat) (codes : List Int) : Completes (.blockEntersFifo l codes)
    (fun s => l < s.lines ∧ (s.lineAt l).lrx.power = .full ∧ (s.lineAt l).sea.discard = false ∧
      ((s.lineAt l).state = .acquire ∨ (s.lineAt l).state = .up ∨ (s.lineAt l).state = .test ∨
        ((s.lineAt l).state = .fault ∧ 1 ≤ (s.lineAt l).lrx.step)) ∧ (s.lineAt l).sea.fifo.length < 16)
    fun s t => (∃ b, (t.lineAt l).sea.fifo = (s.lineAt l).sea.fifo ++ [b] ∧ b.occ = (s.lineAt l).sea.fifo.length + 1 ∧
        b.ffe = (s.frontEnd l (s.correctCodes l codes)).2 ∧ ((s.lineAt l).sea.tier = 0 → b.out = b.ffe) ∧
        (0 < (s.lineAt l).sea.tier → s.groupOf l ≠ [] → b.tier = (s.lineAt l).sea.tier ∧
          b.segs = (List.range 15).map (fun k =>
            (s.groupOf l).getD (((s.lineAt l).sea.rr + k) % (s.groupOf l).length) 0) ∧
          (t.lineAt l).sea.rr = ((s.lineAt l).sea.rr + 15) % (s.groupOf l).length) ∧
        (t.lineAt l).sea.overlap = b.ffe.drop (b.ffe.length - 64)) ∧
      (∀ k, k ≠ l → t.lineAt k = s.lineAt k) := by
  rintro s ⟨hl, hpower, hdiscard, hstate, hroom⟩
  have hflow : s.blocksFlow l = true := by
    simpa [State.blocksFlow, hl, hpower, hdiscard, or_assoc] using hstate
  refine ⟨_, exec_blockEntersFifo_of_flow codes hl hpower hflow hroom, ?_, fun k hk => ?_⟩
  · have hfront := s.frontEnd_frame l (s.correctCodes l codes)
    have hsea : (s.lineAt l).sea = _ := hfront.1 .lnSea rfl l
    have hgroup := hfront.groupOf_eq rfl l
    generalize (s.frontEnd l (s.correctCodes l codes)).2 = ys
    generalize (s.frontEnd l (s.correctCodes l codes)).1 = r at *
    rw [← hgroup, hsea]
    obtain ⟨u, hu, h⟩ := r.dispatch_cases l ys rfl rfl
    have husea : (r.lineAt l).sea = (u.lineAt l).sea := hu.1 .lnSea rfl l
    obtain ⟨hffe, h⟩ | ⟨hseg, out, tap, h⟩ := h
    · refine ⟨{ occ := (r.lineAt l).sea.fifo.length + 1, ffe := ys, out := ys }, ?_⟩
      rw [h, State.lineAt_modSea_self, husea]
      refine ⟨rfl, rfl, rfl, fun _ => rfl, fun htier hg => ?_, rfl⟩
      exact absurd hffe (by rw [not_or]; exact ⟨husea ▸ htier.ne', hg⟩)
    · rw [h, State.lineAt_modSea_self, husea]
      exact ⟨_, rfl, rfl, rfl, fun htier => absurd (.inl (husea ▸ htier)) hseg, fun _ _ => ⟨rfl, rfl, rfl⟩, rfl⟩
  · rw [State.dispatch_lineAt_other _ _ hk, State.frontEnd_lineAt_other _ _ hk]

/-- In LISTEN the codes are those of the running slices, for the envelope alone. -/
theorem blockEntersFifo_completes_of_listen (l : Nat) (codes : List Int) : Completes (.blockEntersFifo l codes)
    (fun s => l < s.lines ∧ (s.lineAt l).lrx.power = .listen)
    fun s t => (t.lineAt l).sea = (s.lineAt l).sea ∧
      (t.lineAt l).lrx.env = (s.correctCodes l codes).foldl
        (fun e v => e.take (envWindow (s.half l) true) (s.lineAt l).lrx.los v) (s.lineAt l).lrx.env ∧
      (∀ k, k ≠ l → t.lineAt k = s.lineAt k) ∧ OnlyChanges [.lnRx, .lnRxPower] s t := by
  rintro s ⟨hl, hpower⟩
  have hframe := s.frontEnd_frame l (s.correctCodes l codes)
  refine ⟨_, exec_blockEntersFifo_of_listen codes hl hpower, (hframe.1 .lnSea rfl l).symm, ?_, ?_, hframe.among rfl⟩
  · rw [State.frontEnd_of_listen _ hpower, State.lineAt_modLrx_self]
  · exact fun k hk => s.frontEnd_lineAt_other _ hk

/-! The oldest block leaves. -/

/-- The oldest block of a lane leaves its FIFO: `late` names its late segments, `bad` says that it holds a poisoned word. -/
def State.released (s : State) (l : Nat) (b : Blk) (rest : List Blk) (late : List Nat) (bad : Bool) : State :=
  s.modSea l fun x => { x with fifo := rest, out := b.released late bad }

/-- The late segments of a block, with their engines. -/
def Blk.slow (b : Blk) (late : List Nat) : List (Nat × Nat) := b.segs.zipIdx.filter fun p => late.contains p.2

theorem Blk.slow_nil (b : Blk) : b.slow [] = [] := by simp [Blk.slow]

/-- Of numbered elements only the one in place `k` has the number `k`. -/
theorem zipIdx_filter_snd {α : Type} {xs : List α} {k : Nat} (hk : k < xs.length) (n : Nat) :
    (xs.zipIdx n).filter (fun p => decide (p.2 = n + k)) = [(xs[k], n + k)] := by
  induction xs generalizing n k with
  | nil => cases hk
  | cons x xs ih =>
    rw [List.zipIdx_cons]
    cases k with
    | zero =>
      have hlater : ∀ p ∈ xs.zipIdx (n + 1), ¬ p.2 = n := by
        intro p hp
        have := List.le_snd_of_mem_zipIdx hp
        omega
      simpa using hlater
    | succ k =>
      have hk' := ih (Nat.lt_of_succ_lt_succ hk) (n + 1)
      simpa [Nat.add_right_comm, Nat.add_assoc] using hk'

theorem Blk.slow_singleton {b : Blk} {k : Nat} (hk : k < b.segs.length) : b.slow [k] = [(b.segs[k], k)] := by
  simpa [Blk.slow] using zipIdx_filter_snd hk 0

/-- Each segment of a block counts its MAC-slot issues (R129). -/
def State.countIssues (s : State) (b : Blk) : State :=
  b.segs.foldl (fun s e => (s.pmcEngine e 0x101 1).pmcEngine e 0x100 (macOf b.tier / 2)) s

theorem State.countIssues_frame (s : State) (b : Blk) : Keep 0x20000000300 s (s.countIssues b) := by
  unfold State.countIssues
  refine Keep.foldl _ (fun u e hu => ?_) (Keep.refl _ _)
  exact State.pmcEngine_keep _ _ _ _ rfl (State.pmcEngine_keep _ _ _ _ rfl hu)

/-- A release takes the oldest block and counts its issues; then its late segments are judged, and its bad words. -/
theorem exec_blockRelease {s : State} {l : Nat} {b : Blk} {rest : List Blk} (late : List Nat) (ecc : List SramRead)
    (hfifo : (s.lineAt l).sea.fifo = b :: rest) : exec (.blockRelease l late ecc) s = .next (
      let s3 := (b.slow late).foldl (fun s p => s.lateSegment l p.1 b.occ)
        ((s.released l b rest late (!(badRows 1 ecc).isEmpty)).countIssues b)
      if (b.slow late).isEmpty ∧ ecc.isEmpty then s3 else (s3.sramReads ecc).follow) := by
  change execBlockRelease l late s ecc = _
  rw [execBlockRelease, hfifo]
  rfl

theorem State.released_frame (s : State) (l : Nat) (b : Blk) (rest : List Blk) (late : List Nat) (bad : Bool) :
    Keep 0x200000 s (s.released l b rest late bad) := Keep.modSea rfl (Keep.refl _ _)

theorem State.released_sea (s : State) (l : Nat) (b : Blk) (rest : List Blk) (late : List Nat) (bad : Bool) :
    ((s.released l b rest late bad).lineAt l).sea = { (s.lineAt l).sea with fifo := rest, out := b.released late bad } := by
  rw [State.released, State.lineAt_modSea_self]

/-- A block without a late segment or a bad word leaves with its results (R131). -/
theorem blockRelease_completes (l : Nat) (b : Blk) (rest : List Blk) : Completes (.blockRelease l [] [])
    (fun s => (s.lineAt l).sea.fifo = b :: rest)
    fun s t => (t.lineAt l).sea = { (s.lineAt l).sea with fifo := rest, out := b.released [] false } ∧
      (∀ k, k ≠ l → t.lineAt k = s.lineAt k) ∧ OnlyChanges [.lnSea, .evRaised, .evQueue, .pmcCtr] s t := by
  intro s hfifo
  have hissues := (s.released l b rest [] false).countIssues_frame b
  refine ⟨(s.released l b rest [] false).countIssues b, ?_, ?_, fun k hk => ?_, ?_⟩
  · rw [exec_blockRelease [] [] hfifo, Blk.slow_nil]
    rfl
  · rw [hissues.lineAt_eq rfl, State.released_sea]
  · rw [hissues.lineAt_eq rfl, State.released, State.lineAt_modSea, if_neg hk]
  · exact (hissues.step (m := 0x20000200300) rfl ((s.released_frame l b rest [] false).step rfl (Keep.refl _ _))).among rfl

/-! A late segment of a block that came in at an occupancy above 2 is counted, and its engine stays in the group (R132, R133). -/

theorem State.lateSegment_of_two_lt {occ : Nat} (h : 2 < occ) (s : State) (l e : Nat) :
    s.lateSegment l e occ = ((s.bump gSea l 0).pmcEvent 0x052 1).pmcEngine e 0x107 1 := by
  rw [State.lateSegment, if_neg fun hlate => Nat.not_le_of_lt h hlate.1]

theorem exec_blockRelease_of_late {s : State} {l k : Nat} {b : Blk} {rest : List Blk} (hfifo : (s.lineAt l).sea.fifo = b :: rest)
    (hocc : 2 < b.occ) (hk : k < b.segs.length) : exec (.blockRelease l [k] []) s = .next
      ((((((s.released l b rest [k] false).countIssues b).bump gSea l 0).pmcEvent 0x052 1).pmcEngine b.segs[k] 0x107 1).follow) := by
  rw [exec_blockRelease [k] [] hfifo, Blk.slow_singleton hk]
  exact congrArg (fun v : State => Host.Outcome.next v.follow) (State.lateSegment_of_two_lt hocc ..)

/-- A late segment leaves with its FFE samples (R132). -/
theorem blockRelease_completes_of_late (l : Nat) (b : Blk) (rest : List Blk) (k : Nat) : Completes (.blockRelease l [k] [])
    (fun s => (s.lineAt l).sea.fifo = b :: rest ∧ 2 < b.occ ∧ k < b.segs.length)
    fun s t => (t.lineAt l).sea.fifo = rest ∧ (t.lineAt l).sea.out = b.released [k] false ∧
      t.statAt gSea l 0 = (s.statAt gSea l 0).add 1 ∧ t.eng = s.eng := by
  rintro s ⟨hfifo, hocc, hk⟩
  refine ⟨_, exec_blockRelease_of_late hfifo hocc hk, ?_⟩
  have hissues := (s.released l b rest [k] false).countIssues_frame b
  have hu := hissues.step (m := 0x20000200300) rfl ((s.released_frame l b rest [k] false).step rfl (Keep.refl _ _))
  have hsea := (hissues.1 .lnSea rfl l).symm.trans (s.released_sea l b rest [k] false)
  generalize (s.released l b rest [k] false).countIssues b = u at *
  have hlate : Keep 0x2601B905B08 (u.bump gSea l 0) (((u.bump gSea l 0).pmcEvent 0x052 1).pmcEngine b.segs[k] 0x107 1).follow :=
    State.follow_keep _ rfl (State.pmcEngine_keep _ _ _ _ rfl (State.pmcEvent_keep _ _ _ rfl (Keep.refl _ _)))
  generalize (((u.bump gSea l 0).pmcEvent 0x052 1).pmcEngine b.segs[k] 0x107 1).follow = t at *
  have htsea : (t.lineAt l).sea = _ := (hlate.1 .lnSea rfl l).symm.trans hsea
  refine ⟨by rw [htsea], by rw [htsea], ?_, ?_⟩
  · rw [hlate.statAt_eq rfl, State.statAt_bump_self, hu.statAt_eq rfl]
  · exact (hlate.1 .eng rfl).symm.trans (hu.1 .eng rfl).symm

/-! A block with a word that cannot be corrected leaves as zeros (R538, R540). -/

/-- Beside engines and banks, a bad SRAM row is reported to targeted self-test alone (R542). -/
theorem State.reportSram_frame (s : State) {u : SramRead} (hbank : u.region ≠ 3) (heng : u.region ≠ 4) :
    Keep 0x800020000 s (s.reportSram u) := by
  unfold State.reportSram
  rw [if_neg hbank, if_neg heng]
  exact Keep.ite (Keep.refl _ _) (State.reportRow_keep _ _ _ rfl (Keep.refl _ _))

theorem exec_blockRelease_of_bad {s : State} {l : Nat} {b : Blk} {rest : List Blk} (w row : Nat)
    (hfifo : (s.lineAt l).sea.fifo = b :: rest) :
    ∃ t, exec (.blockRelease l [] [{ region := 1, addr := w, row := row, syn := none }]) s = .next t ∧
      Keep 0x2681B925B08 (((s.released l b rest [] true).countIssues b).bump gMem 1 3 |>.raise evMemUncorr [1, Word.nat w, 5]) t := by
  rw [exec_blockRelease [] _ hfifo, Blk.slow_nil]
  refine ⟨_, rfl, State.follow_keep _ rfl ?_⟩
  exact (State.reportSram_frame _ (u := ⟨1, w, row, none⟩) (show 1 ≠ 3 by decide) (show 1 ≠ 4 by decide)).step rfl (Keep.refl _ _)

theorem blockRelease_completes_of_bad (l : Nat) (b : Blk) (rest : List Blk) (w row : Nat) :
    Completes (.blockRelease l [] [{ region := 1, addr := w, row := row, syn := none }])
    (fun s => (s.lineAt l).sea.fifo = b :: rest ∧ s.hears)
    fun s t => (t.lineAt l).sea.fifo = rest ∧ (t.lineAt l).sea.out = List.replicate 960 0 ∧
      Raises s t evMemUncorr [1, Word.nat w, 5] := by
  rintro s ⟨hfifo, hears⟩
  obtain ⟨t, hexec, ht⟩ := exec_blockRelease_of_bad w row hfifo
  have hissues := (s.released l b rest [] true).countIssues_frame b
  have hu : Keep 0x20000220300 s (((s.released l b rest [] true).countIssues b).bump gMem 1 3) :=
    Keep.bump rfl (hissues.step rfl ((s.released_frame l b rest [] true).step rfl (Keep.refl _ _)))
  have hsea := (hissues.1 .lnSea rfl l).symm.trans (s.released_sea l b rest [] true)
  have htsea : (t.lineAt l).sea = _ := ((State.raise_frame ..).1 .lnSea rfl l |>.trans (ht.1 .lnSea rfl l)).symm.trans hsea
  exact ⟨t, hexec, by rw [htsea], by rw [htsea]; rfl, Raises.of_keep hears hu rfl ht rfl⟩

/-! The high watermark and the overflow. -/

theorem fifoWatermarkCrossed_completes (l : Nat) : Completes (.fifoWatermarkCrossed l)
    (fun s => 4 ≤ (s.lineAt l).sea.fifo.length ∧ 0 < (s.lineAt l).sea.tier)
    fun s t => (t.lineAt l).sea = { (s.lineAt l).sea with dropNext := true } ∧ ∀ k, k ≠ l → t.lineAt k = s.lineAt k := by
  intro s hmark
  refine ⟨s.modSea l fun x => { x with dropNext := true }, congrArg Host.Outcome.next (if_pos hmark), ?_, fun k hk => ?_⟩
  · rw [State.lineAt_modSea_self]
  · rw [State.lineAt_modSea, if_neg hk]

/-- The fault of a port changes that port, its counts and the events alone. -/
theorem State.portFail_frame (s : State) (p : Nat) (ls hs : List Nat) (ev : Nat) : Keep 0x20020300 s (s.portFail p ls hs ev) := by
  unfold State.portFail
  extract_lets x add count
  have hadd : ∀ {u : State}, Keep 0x20020300 s u → Keep 0x20020300 s (add u) := Keep.modPort rfl
  have hcount : ∀ {u : State}, Keep 0x20020300 s u → Keep 0x20020300 s (count u) := by
    intro u hu
    have hside : ∀ host : Bool, ∀ {v : State}, Keep 0x20020300 s v → Keep 0x20020300 s (v.countFaultSide p host) :=
      fun host _ hv => State.countFaultSide_keep _ p host rfl hv
    dsimp only [count]
    split <;> split
    · exact hu
    · exact hside _ hu
    · exact hside _ hu
    · exact hside _ (hside _ hu)
  split
  · exact State.raise_keep _ _ _ rfl (hcount (hadd (Keep.modPort rfl (Keep.refl _ _))))
  · exact hcount (hadd (Keep.refl _ _))
  · exact Keep.refl _ _

/-- A live lane that is UP enters FAULT; what its port does with it touches no lane (R421). -/
theorem State.lineFault_of_up {s : State} {l : Nat} (ev : Nat) (hlive : s.live = true) (hup : (s.lineAt l).state = .up) :
    Keep 0x20020300 (s.modLine l fun x => { x with state := .fault, lrx := { x.lrx with step := 0, lowSnr := 0 } })
      (s.lineFault l ev) := by
  unfold State.lineFault
  extract_lets was s1
  have hwas : was = .up := hup
  rw [if_neg (by simp [hlive, hwas]), if_pos hwas]
  split
  · exact Keep.refl _ _
  · exact State.portFail_frame ..

theorem State.lineAt_bump (s : State) (g j i l : Nat) : (s.bump g j i).lineAt l = s.lineAt l := rfl

/-- A warm acquisition keeps what the lane holds and begins at step 1 (R102). -/
theorem State.acquire_warm (s : State) (l : Nat) :
    ((s.acquire l false).lineAt l).state = (s.lineAt l).state ∧ ((s.acquire l false).lineAt l).lrx.step = 1 ∧
      ((s.acquire l false).lineAt l).lrx.cold = false := by
  simp [State.acquire, State.lineAt_bump]

/-- An UP lane that loses its signal path is in FAULT and starts a warm acquisition (R80). -/
theorem State.faultWarm_of_up {s : State} {l : Nat} (ev : Nat) (hlive : s.live = true) (hup : (s.lineAt l).state = .up)
    (hstuck : (s.lineAt l).stuck = false) :
    ((s.faultWarm l ev).lineAt l).state = .fault ∧ ((s.faultWarm l ev).lineAt l).lrx.step = 1 ∧
      ((s.faultWarm l ev).lineAt l).lrx.cold = false := by
  have hline := (State.lineFault_of_up ev hlive hup).lineAt_eq rfl l
  rw [State.lineAt_modLine_self] at hline
  have hacq := (s.lineFault l ev).acquire_warm l
  rw [State.faultWarm, if_pos (by rw [hline]; simp [hstuck])]
  rwa [hline] at hacq

/-- The blocks of a full FIFO are given up, its lane discards those that come (R52). -/
def State.overflowed (s : State) (l : Nat) : State :=
  (((s.modSea l fun y => { y with fifo := [] }).raise evSeaFifoOverflow [Word.nat l]).errAll 4).modSea l fun y =>
    { y with discard := true }

theorem State.overflowed_lineAt (s : State) (l : Nat) :
    (s.overflowed l).lineAt l = { s.lineAt l with sea := { (s.lineAt l).sea with fifo := [], discard := true } } := by
  rw [State.overflowed, State.lineAt_modSea_self, (State.errAll_frame ..).lineAt_eq rfl, (State.raise_frame ..).lineAt_eq rfl,
    State.lineAt_modSea_self]

theorem State.overflowed_frame (s : State) (l : Nat) :
    Keep 0x204000 ((s.modSea l fun y => { y with fifo := [] }).raise evSeaFifoOverflow [Word.nat l]) (s.overflowed l) :=
  Keep.modSea rfl (State.errAll_keep _ _ rfl (Keep.refl _ _))

theorem exec_fifoOverflow_of_up {s : State} {l : Nat} (hfull : 16 ≤ (s.lineAt l).sea.fifo.length) (hl : l < s.lines)
    (hup : (s.lineAt l).state = .up) : exec (.fifoOverflow l) s =
      .next (((s.overflowed l).faultWarm l evSeaFifoOverflow).report .stage l 5 srcTest).follow := by
  change execFifoOverflow l s = _
  rw [execFifoOverflow, if_pos ⟨hfull, hl⟩]
  dsimp only
  rw [if_pos (.inl hup)]
  rfl

/-- The overflow discards the blocks and sends an UP lane into FAULT, from which it reacquires (R52). -/
theorem fifoOverflow_completes (l : Nat) : Completes (.fifoOverflow l)
    (fun s => s.live ∧ 16 ≤ (s.lineAt l).sea.fifo.length ∧ l < s.lines ∧ (s.lineAt l).state = .up ∧
      (s.lineAt l).stuck = false ∧ s.hears)
    fun s t => (t.lineAt l).sea.fifo = [] ∧ (t.lineAt l).sea.discard = true ∧ (t.lineAt l).state = .fault ∧
      (t.lineAt l).lrx.step = 1 ∧ (t.lineAt l).lrx.cold = false ∧ Raises s t evSeaFifoOverflow [Word.nat l] := by
  rintro s ⟨hlive, hfull, hl, hup, hstuck, hears⟩
  refine ⟨_, exec_fifoOverflow_of_up hfull hl hup, ?_⟩
  have hline := s.overflowed_lineAt l
  have hout := s.overflowed_frame l
  have hlive' : (s.overflowed l).live = true := (hout.live_eq rfl).trans (((State.raise_frame ..).live_eq rfl).trans hlive)
  obtain ⟨hstate, hstep, hcold⟩ := State.faultWarm_of_up (s := s.overflowed l) (l := l) evSeaFifoOverflow hlive'
    (by rw [hline]; exact hup) (by rw [hline]; exact hstuck)
  have hwarm : Keep 0x2C5E0300 (s.overflowed l) ((s.overflowed l).faultWarm l evSeaFifoOverflow) :=
    State.faultWarm_keep _ _ _ rfl (Keep.refl _ _)
  generalize (s.overflowed l).faultWarm l evSeaFifoOverflow = u at *
  have hafter : Keep 0x3601B905B08 u (u.report .stage l 5 srcTest).follow :=
    State.follow_keep _ rfl (State.report_keep _ _ _ _ _ rfl (Keep.refl _ _))
  generalize (u.report .stage l 5 srcTest).follow = t at *
  have hsea : (t.lineAt l).sea = _ := ((hwarm.1 .lnSea rfl l).trans (hafter.1 .lnSea rfl l)).symm.trans (congrArg Line.sea hline)
  have hrx : (u.lineAt l).lrx.rest = (t.lineAt l).lrx.rest := hafter.1 .lnRx rfl l
  have hraised := hafter.step (m := 0x3603FFE5B08) rfl (hwarm.step rfl (hout.step rfl (Keep.refl _ _)))
  refine ⟨by rw [hsea], by rw [hsea], (hafter.1 .lnState rfl l).1.symm.trans hstate, ?_, ?_, ?_⟩
  · exact (congrArg Lrx.step hrx).symm.trans hstep
  · exact (congrArg Lrx.cold hrx).symm.trans hcold
  · exact Raises.of_keep hears (Keep.modSea (m := 0x200000) rfl (Keep.refl _ _)) rfl hraised rfl

end Sys2Proof.Machine
end

section
/-! PROOFS. Coefficient sets and engine faults (O10, its second part): the push of a set to its group (R142), the shadow copies of a
transom engine (R143), and the transom engine that takes the place of one that fails (R164 to R167). -/

namespace Sys2Proof.Machine

/-! Coefficient sets. -/

/-- A coefficient set goes to every engine of a group, for its next block boundary (R142). -/
def State.pushSet (s : State) (g : List Nat) (cs : List Int) : State :=
  g.foldl (fun s e => (s.modEng e fun y => { y with coefNext := some cs }).pmcEngine e 0x103 1) s

theorem State.pushSet_frame (s : State) (g : List Nat) (cs : List Int) : Keep 0x20080000300 s (s.pushSet g cs) :=
  Keep.foldl g (fun _ _ hu => State.pmcEngine_keep _ _ _ _ rfl (Keep.modEng rfl hu)) (Keep.refl _ _)

theorem State.engAt_pushSet (s : State) (g : List Nat) (cs : List Int) (e : Nat) :
    (s.pushSet g cs).engAt e = if e ∈ g then { s.engAt e with coefNext := some cs } else s.engAt e := by
  induction g generalizing s with
  | nil => rfl
  | cons k ks ih =>
    have hhead : ((s.modEng k fun y => { y with coefNext := some cs }).pmcEngine k 0x103 1).engAt e =
        if e = k then { s.engAt e with coefNext := some cs } else s.engAt e := by
      rw [(State.pmcEngine_frame ..).engAt_eq rfl, State.engAt_modEng]
      split
      · next he => rw [he]
      · rfl
    rw [State.pushSet, List.foldl_cons]
    refine (ih _).trans ?_
    rw [hhead]
    by_cases he : e = k <;> by_cases hks : e ∈ ks <;> simp [he, hks]

theorem exec_coefficientPush_of_group {s : State} {l : Nat} (errs : List Int) (hl : l < s.lines)
    (hpolicy : s.parN nSeaKparam l 3 = 0) (hhold : (s.lineAt l).sea.adaptHold = false) (hadapt : s.adaptOf l ≠ [])
    (hgroup : s.groupOf l ≠ []) : exec (.coefficientPush l errs) s = .next (
      let m := (errs.zip (s.lineAt l).sea.taps).foldl (kernelLms (-(s.parI nSeaKparam l 1)).toNat (s.leakOf l))
        (s.lineAt l).sea.master
      (s.modSea l fun y => { y with master := m, taps := [] }).pushSet (s.groupOf l) (coefSetOf m)) := by
  change execCoefficientPush l s errs = _
  rw [execCoefficientPush]
  dsimp only
  rw [if_pos (by simp [hl, hpolicy, hhold, hadapt, hgroup])]
  rfl

/-- A pushed set reaches every engine of the group and no other. -/
theorem coefficientPush_completes (l : Nat) (errs : List Int) : Completes (.coefficientPush l errs)
    (fun s => l < s.lines ∧ s.parN nSeaKparam l 3 = 0 ∧ (s.lineAt l).sea.adaptHold = false ∧ s.adaptOf l ≠ [] ∧ s.groupOf l ≠ [])
    fun s t => (t.lineAt l).sea.master = (errs.zip (s.lineAt l).sea.taps).foldl
        (kernelLms (-(s.parI nSeaKparam l 1)).toNat (s.leakOf l)) (s.lineAt l).sea.master ∧
      (t.lineAt l).sea.taps = [] ∧
      (∀ e ∈ s.groupOf l, t.engAt e = { s.engAt e with coefNext := some (coefSetOf (t.lineAt l).sea.master) }) ∧
      ∀ e, e ∉ s.groupOf l → t.engAt e = s.engAt e := by
  rintro s ⟨hl, hpolicy, hhold, hadapt, hgroup⟩
  refine ⟨_, exec_coefficientPush_of_group errs hl hpolicy hhold hadapt hgroup, ?_⟩
  dsimp only
  rw [(State.pushSet_frame ..).lineAt_eq rfl, State.lineAt_modSea_self]
  refine ⟨rfl, rfl, fun e he => ?_, fun e he => ?_⟩
  · rw [State.engAt_pushSet, if_pos he]; rfl
  · rw [State.engAt_pushSet, if_neg he]; rfl

/-- A transom engine copies every lane's set. -/
theorem shadowRefresh_completes (e : Nat) : Completes (.shadowRefresh e) (fun s => (s.engAt e).role = .transom)
    fun s t => t.engAt e = { s.engAt e with shadow := (List.range s.lines).map fun l => coefSetOf (s.lineAt l).sea.master } ∧
      OnlyChanges [.eng] s t := by
  intro s hrole
  refine ⟨s.modEng e fun x => { x with shadow := (List.range s.lines).map s.setOf }, congrArg Host.Outcome.next (if_pos hrole), ?_, ?_⟩
  · exact State.engAt_modEng_self ..
  · exact Keep.among (m := 0x80000000) (Keep.modEng rfl (Keep.refl _ _)) rfl

/-! The steps of an engine fault, engine by engine. -/

theorem State.isolate_frame (s : State) (e source : Nat) : Keep 0x10080000000 s (s.isolate e source) :=
  s.isolate_keep e source rfl (Keep.refl _ _)

/-- An engine that fails goes to targeted self-test (R164), and no other engine changes. -/
theorem State.engAt_isolate (s : State) (e source j : Nat) :
    (s.isolate e source).engAt j =
      if j = e then { (s.engAt e).fresh with role := .test, lane := (s.engAt e).lane } else s.engAt j := by
  rw [State.isolate, (State.report_frame ..).engAt_eq rfl, State.engAt_modEng]

/-- The end of a slice on engine `k` touches no other engine. -/
theorem State.engAt_abortSlice_other (s : State) {k j : Nat} (kept : Nat) (req : Option Requester) (hj : j ≠ k) :
    (s.abortSlice (.engine k) kept req).engAt j = s.engAt j := by
  unfold State.abortSlice
  split
  · extract_lets tst s1 s2 s3
    have hs2 : Keep 0x300 s1 s2 := State.raise_frame ..
    have hs3 : Keep 0x10000000302 s2 s3 := State.relYield_keep _ _ _ _ _ _ rfl (State.freeNext_keep _ rfl (Keep.refl _ _))
    rw [State.engAt_modEng, if_neg hj, hs3.engAt_eq rfl, hs2.engAt_eq rfl]
    rfl
  · rfl

/-- An engine that is placed has its role and its lane. -/
theorem State.engAt_assign_role (s : State) (k : Nat) (role : Role) (l : Nat) :
    ((s.assign k role l).engAt k).role = role ∧ ((s.assign k role l).engAt k).lane = l := by
  simp [State.assign]

theorem State.engAt_assign_other (s : State) {k j : Nat} (role : Role) (l : Nat) (hj : j ≠ k) :
    (s.assign k role l).engAt j = s.engAt j := by
  rw [State.assign, State.engAt_modEng, if_neg hj, State.engAt_abortSlice_other _ _ _ hj]

/-- A transom engine that runs no slice starts from its shadow copy of the lane's set (R165). -/
theorem State.engAt_assign_coefs {s : State} {k : Nat} (role : Role) (l : Nat) (hrole : (s.engAt k).role = .transom)
    (hslice : .engine k ∉ s.tst.slices) :
    ((s.assign k role l).engAt k).coefs = (s.engAt k).shadow.getD l (coefSetOf (s.lineAt l).sea.master) := by
  have habort : s.abortSlice (.engine k) 4 none = s := if_neg (by simpa using hslice)
  simp [State.assign, habort, hrole, State.setOf]

/-! To bring the transom complement back takes FREE engines alone (R166). -/

theorem State.role_of_mem_freeIn {s : State} {q e : Nat} (h : e ∈ s.freeIn q) : (s.engAt e).role = .free := by
  have hfree := (List.mem_filter.1 h).2
  simp only [Bool.and_eq_true, decide_eq_true_eq] at hfree
  exact hfree.2

theorem State.engAt_topUpOne {s : State} {j : Nat} (q : Option Nat) (hj : (s.engAt j).role ≠ .free) :
    (s.topUpOne q).engAt j = s.engAt j := by
  unfold State.topUpOne
  split
  · extract_lets short near pick
    have hnear : ∀ e ∈ near, (s.engAt e).role = .free := by
      intro e he
      dsimp only [near] at he
      split at he
      · cases he
      · exact State.role_of_mem_freeIn he
    have hpick : ∀ e ∈ pick, (s.engAt e).role = .free := by
      intro e he
      obtain hn | hq := List.mem_append.1 he
      · exact hnear e hn
      · obtain ⟨k, -, hk⟩ := List.mem_flatMap.1 hq
        split at hk
        · exact State.role_of_mem_freeIn hk
        · cases hk
    have hall : ∀ e ∈ (List.range s.quads).flatMap s.freeIn, (s.engAt e).role = .free := by
      intro e he
      obtain ⟨k, -, hk⟩ := List.mem_flatMap.1 he
      exact State.role_of_mem_freeIn hk
    split
    · rfl
    · next e he =>
      have hfree : (s.engAt e).role = .free := by
        obtain hh | ⟨-, hh⟩ := Option.or_eq_some_iff.1 he
        · exact hpick e (List.mem_of_head? hh)
        · exact hall e (List.mem_of_head? hh)
      have hne : j ≠ e := fun hje => hj (hje ▸ hfree)
      exact (State.engAt_modEng ..).trans (if_neg hne)
  · rfl

theorem State.engAt_topUp {s : State} {j : Nat} (q : Option Nat) (hj : (s.engAt j).role ≠ .free) :
    (s.topUp q).engAt j = s.engAt j := by
  unfold State.topUp
  refine List.foldlRecOn (motive := fun u : State => u.engAt j = s.engAt j) _ _ rfl fun u hu _ _ => ?_
  rw [State.engAt_topUpOne q (by rwa [hu]), hu]

theorem State.engAt_replaceTransom {s : State} {j : Nat} (q : Nat) (hj : (s.engAt j).role ≠ .free) :
    (s.replaceTransom q).engAt j = s.engAt j := by
  unfold State.replaceTransom
  split
  · extract_lets s1
    have hs1 : s1.engAt j = s.engAt j := State.engAt_topUp _ hj
    split
    · rw [(State.raise_frame ..).engAt_eq rfl, hs1]
    · exact hs1
  · rfl

/-! The transom engine that is taken (R165). -/

/-- The transom engine that a failed engine of its quadrant finds is the lowest-numbered one there (log entry 16). -/
theorem State.find_transom {s : State} {e k : Nat} (hk : k < s.engines) (hrole : (s.engAt k).role = .transom)
    (hquad : k / 64 = e / 64) (hfirst : ∀ j, j < k → j / 64 = e / 64 → (s.engAt j).role ≠ .transom) :
    (listWhere s.engines fun k => (s.engAt k).role = .transom).find? (fun j => decide (j / 64 = e / 64)) = some k := by
  rw [listWhere, List.find?_filter, List.find?_range_eq_some]
  refine ⟨by simp [hrole, hquad], List.mem_range.2 hk, fun j hj => ?_⟩
  by_cases h : j / 64 = e / 64
  · simp [hfirst j hj h]
  · simp [h]

theorem State.report_slices (s : State) (kind : ElemKind) (unit loc source : Nat) :
    (s.report kind unit loc source).tst.slices = s.tst.slices := by
  have hstart : ∀ u : State, u.startTests.tst.slices = u.tst.slices := by
    intro u
    unfold State.startTests
    refine List.foldlRecOn (motive := fun v : State => v.tst.slices = u.tst.slices) _ _ rfl fun v hv kind _ => ?_
    dsimp only
    split
    · exact hv
    · split
      · exact hv
      · exact hv
  unfold State.report
  dsimp only
  split
  · rfl
  · rw [hstart]

/-- The state `w` in which engine `e` has left its place to a transom engine: it is isolated and its fault is counted. -/
structure State.Vacated (s : State) (e : Nat) (w : State) : Prop where
  keep : Keep 0x10180020000 s w
  engAt : ∀ j, w.engAt j =
    if j = e then { (s.engAt e).fresh with role := .test, lane := (s.engAt e).lane } else s.engAt j
  count : w.statAt gSea (s.engAt e).lane 6 = (s.statAt gSea (s.engAt e).lane 6).add 1
  slices : w.tst.slices = s.tst.slices

/-- Engine `e` is isolated, and the fault counts on its lane (R164, R172). -/
def State.vacate (s : State) (e : Nat) : State := (s.isolate e srcTest).bump gSea (s.engAt e).lane 6

theorem State.vacate_vacated (s : State) (e : Nat) : s.Vacated e (s.vacate e) where
  keep := Keep.bump rfl (State.isolate_keep s e srcTest rfl (Keep.refl _ _))
  engAt j := s.engAt_isolate e srcTest j
  count := by rw [State.vacate, State.statAt_bump_self, (s.isolate_frame e srcTest).statAt_eq rfl]
  slices := State.report_slices ..

theorem State.Vacated.set_hinge {s w : State} {e : Nat} (h : s.Vacated e w) (x : Hinge) : s.Vacated e (w.withHinge x) where
  keep := Keep.set_hinge rfl h.keep
  engAt := h.engAt
  count := h.count
  slices := h.slices

/-- The transom engine that the failed engine's quadrant has is there once the engine is isolated. -/
theorem State.Vacated.find_transom {s w : State} {e k : Nat} (h : s.Vacated e w) (hk : k < s.engines)
    (hrole : (s.engAt k).role = .transom) (hke : k ≠ e) (hquad : k / 64 = e / 64)
    (hfirst : ∀ j, j < k → j / 64 = e / 64 → (s.engAt j).role ≠ .transom) :
    (listWhere w.engines fun k => (w.engAt k).role = .transom).find? (fun j => decide (j / 64 = e / 64)) = some k := by
  have hfuses : s.fuses = w.fuses := h.keep.1 .fuses rfl
  refine State.find_transom (by rwa [State.engines, ← hfuses]) (by rw [h.engAt, if_neg hke, hrole]) hquad fun j hj hq => ?_
  rw [h.engAt]
  split
  · exact nofun
  · exact hfirst j hj hq

/-! What follows once the place is taken. -/

/-- Counts of items with other numbers stand as they are. -/
theorem State.statAt_bump_other (s : State) (g j g' j' : Nat) {i i' : Nat} (h : i' % 32 ≠ i % 32) :
    (s.bump g j i).statAt g' j' i' = s.statAt g' j' i' := by
  have hkey : statKey g' j' i' ≠ statKey g j i := by simp only [statKey]; omega
  exact tget_tmod_other s.stats (fun _ => ({} : Stat)) (fun x => x.add 1) hkey

/-- A row's report counts no engine fault. -/
theorem State.reportRow_statAt (s : State) (g row l : Nat) : (s.reportRow g row).statAt gSea l 6 = s.statAt gSea l 6 := by
  unfold State.reportRow
  dsimp only
  split
  · rfl
  split
  · exact (State.rowTest_keep s g row rfl (Keep.refl 0x800000000 s)).statAt_eq rfl ..
  split
  · rfl
  · exact State.statAt_bump_other s gMem g gSea l (by decide)

theorem State.faultRow_statAt (s : State) (c : EngineCond) (l : Nat) : (s.faultRow c).statAt gSea l 6 = s.statAt gSea l 6 := by
  unfold State.faultRow
  split
  · rw [State.reportRow_statAt, (State.raise_frame ..).statAt_eq rfl, State.statAt_bump_other _ _ _ _ _ (by decide)]
  · rfl

/-- Engine `k` has taken the place of engine `e`: the event, the transom complement, the row behind the fault (R164 to R166). -/
def State.succeeded (s : State) (e l : Nat) (c : EngineCond) (k : Nat) : State :=
  (((s.engineEvent e l c k).replaceTransom (k / 64)).faultRow c).follow

theorem State.succeeded_frame (s : State) (e l : Nat) (c : EngineCond) (k : Nat) :
    Keep 0x2689B925B08 (s.raise evSeaEngineFault [Word.nat e, Word.nat l, Word.nat (condNum c), Word.nat k]) (s.succeeded e l c k) :=
  State.follow_keep _ rfl (State.faultRow_keep _ _ rfl (State.replaceTransom_keep _ _ rfl (Keep.refl _ _)))

theorem State.engAt_succeeded {s : State} {j : Nat} (e l : Nat) (c : EngineCond) (k : Nat) (hj : (s.engAt j).role ≠ .free) :
    (s.succeeded e l c k).engAt j = s.engAt j := by
  have hevent : (s.engineEvent e l c k).engAt j = s.engAt j := (State.raise_frame ..).engAt_eq rfl j
  have hrow := State.faultRow_keep ((s.engineEvent e l c k).replaceTransom (k / 64)) c rfl (Keep.refl 0x800020300 _)
  rw [State.succeeded, (State.follow_frame _).engAt_eq rfl, hrow.engAt_eq rfl, State.engAt_replaceTransom _ (by rwa [hevent]), hevent]

theorem State.statAt_succeeded (s : State) (e l : Nat) (c : EngineCond) (k m : Nat) :
    (s.succeeded e l c k).statAt gSea m 6 = s.statAt gSea m 6 := by
  have hplace : Keep 0x80000300 s ((s.engineEvent e l c k).replaceTransom (k / 64)) :=
    State.replaceTransom_keep _ _ rfl (State.engineEvent_keep _ _ _ _ _ rfl (Keep.refl _ _))
  rw [State.succeeded, (State.follow_frame _).statAt_eq rfl, State.faultRow_statAt, hplace.statAt_eq rfl]

/-! The two faults. -/

/-- What the fault of an engine in the role `role` of a lane leaves behind: the engine in TEST, transom engine `k` in its role on the
lane, the fault counted there and told (R164 to R167, R172). -/
structure State.Replaced (s : State) (e k : Nat) (role : Role) (c : EngineCond) (t : State) : Prop where
  failed : (t.engAt e).role = .test
  taken : (t.engAt k).role = role
  lane : (t.engAt k).lane = (s.engAt e).lane
  coefs : .engine k ∉ s.tst.slices → (t.engAt k).coefs =
    (s.engAt k).shadow.getD (s.engAt e).lane (coefSetOf (s.lineAt (s.engAt e).lane).sea.master)
  count : t.statAt gSea (s.engAt e).lane 6 = (s.statAt gSea (s.engAt e).lane 6).add 1
  told : s.hears → Raises s t evSeaEngineFault [Word.nat e, Word.nat (s.engAt e).lane, Word.nat (condNum c), Word.nat k]

/-- A transom engine that is placed where engine `e` has left, and at most a hold of the lane's adaptation with it, replaces `e`. -/
theorem State.Vacated.replaced {s w y : State} {e k : Nat} {role : Role} (c : EngineCond) (h : s.Vacated e w) (hke : k ≠ e)
    (hrole : role ≠ .free) (htransom : (s.engAt k).role = .transom)
    (hy : Keep 0x200000 (w.assign k role (s.engAt e).lane) y) : s.Replaced e k role c (y.succeeded e (s.engAt e).lane c k) := by
  have hk : (y.engAt k).role = role ∧ (y.engAt k).lane = (s.engAt e).lane := by
    rw [hy.engAt_eq rfl]
    exact State.engAt_assign_role ..
  have he : (y.engAt e).role = .test := by
    rw [hy.engAt_eq rfl, State.engAt_assign_other _ _ _ hke.symm, h.engAt, if_pos rfl]
  have hassign : Keep 0x10280000382 w (w.assign k role (s.engAt e).lane) := State.assign_keep _ _ _ _ rfl (Keep.refl _ _)
  have htk := State.engAt_succeeded e (s.engAt e).lane c k (s := y) (j := k) (by rwa [hk.1])
  have hwk : w.engAt k = s.engAt k := by rw [h.engAt, if_neg hke]
  refine ⟨?_, ?_, ?_, fun hslice => ?_, ?_, fun hears => ?_⟩
  · rw [State.engAt_succeeded _ _ _ _ (by rw [he]; exact nofun), he]
  · rw [htk, hk.1]
  · rw [htk, hk.2]
  · have hcoefs := State.engAt_assign_coefs (s := w) (k := k) role (s.engAt e).lane (by rw [hwk]; exact htransom)
      (by rw [h.slices]; exact hslice)
    rw [htk, hy.engAt_eq rfl, hcoefs, hwk, h.keep.lineAt_eq rfl]
  · rw [State.statAt_succeeded, hy.statAt_eq rfl, hassign.statAt_eq rfl, h.count]
  · have hw : Keep 0x10380220382 s w := h.keep.step rfl (Keep.refl _ _)
    have hbefore : Keep 0x10380220382 s y := hy.step rfl (hassign.step rfl hw)
    exact Raises.of_keep hears hbefore rfl (y.succeeded_frame e (s.engAt e).lane c k) rfl

/-- The conditions under which transom engine `k` takes the place of engine `e`: it is the first of its quadrant. -/
structure State.Heir (s : State) (e k : Nat) : Prop where
  present : k < s.engines
  role : (s.engAt k).role = .transom
  quad : k / 64 = e / 64
  first : ∀ j, j < k → j / 64 = e / 64 → (s.engAt j).role ≠ .transom

theorem State.takeTransom_of_find {s : State} {e k : Nat}
    (h : (listWhere s.engines fun k => (s.engAt k).role = .transom).find? (fun j => decide (j / 64 = e / 64)) = some k) :
    s.takeTransom e = some (s, k) := by
  simp only [State.takeTransom, h, Option.some_or]

/-- An engine of a group leaves its place; if it was lent to a floor it is lent no more (R152, R164). -/
def State.vacateTier (s : State) (e : Nat) : State :=
  (s.vacate e).withHinge { (s.vacate e).hinge with lentFloors := s.hinge.lentFloors.erase e }

theorem State.engineFault_of_tier {s w : State} {e k : Nat} (c : EngineCond) (hrole : (s.engAt e).role = .tier)
    (htake : (s.vacateTier e).takeTransom e = some (w, k)) : s.engineFault e c =
      ((w.assign k .tier (s.engAt e).lane).engineEvent e (s.engAt e).lane c k).replaceTransom (k / 64) := by
  simp only [State.engineFault, hrole]
  split
  · next w' k' h =>
    obtain ⟨rfl, rfl⟩ := Prod.mk.inj (Option.some.inj (htake.symm.trans h))
    rfl
  · next h => exact absurd (htake.symm.trans h) nofun

/-- The fault of an engine of a group (R164, R165). -/
theorem exec_engineFault_of_tier {s : State} {e k : Nat} (c : EngineCond) (he : e < s.engines) (hrole : (s.engAt e).role = .tier)
    (hk : s.Heir e k) : ∃ t, exec (.engineFault e c) s = .next t ∧ s.Replaced e k .tier c t := by
  have hke : k ≠ e := by
    rintro rfl
    exact absurd (hrole.symm.trans hk.role) nofun
  have hw : s.Vacated e (s.vacateTier e) := (s.vacate_vacated e).set_hinge _
  have hfault := State.engineFault_of_tier c hrole
    (State.takeTransom_of_find (hw.find_transom hk.present hk.role hke hk.quad hk.first))
  refine ⟨((s.vacateTier e).assign k .tier (s.engAt e).lane).succeeded e (s.engAt e).lane c k, ?_, ?_⟩
  · change execEngineFault e c s = _
    rw [execEngineFault, if_pos ⟨he, by simp [hrole]⟩, hfault]
    rfl
  · exact hw.replaced c hke nofun hk.role (Keep.refl _ _)

theorem State.adaptFault_of_find {s : State} {e k : Nat} (c : EngineCond)
    (h : (listWhere (s.vacate e).engines fun k => ((s.vacate e).engAt k).role = .transom).find?
      (fun j => decide (j / 64 = e / 64)) = some k) : s.adaptFault e c =
      ((((s.vacate e).assign k .adapt (s.engAt e).lane).holdAdapt (s.engAt e).lane).engineEvent e (s.engAt e).lane c k).replaceTransom
        (k / 64) := by
  unfold State.adaptFault
  extract_lets l s0 tr pick
  have hpick : pick = some k := by
    dsimp only [pick, tr]
    rw [show tr.find? _ = some k from h]
    rfl
  rw [hpick]
  rfl

/-- The fault of an adaptation engine (R167). -/
theorem exec_adaptEngineFault_of_adapt {s : State} {e k : Nat} (c : EngineCond) (he : e < s.engines)
    (hrole : (s.engAt e).role = .adapt) (hk : s.Heir e k) :
    ∃ t, exec (.adaptEngineFault e c) s = .next t ∧ s.Replaced e k .adapt c t := by
  have hke : k ≠ e := by
    rintro rfl
    exact absurd (hrole.symm.trans hk.role) nofun
  have hw := s.vacate_vacated e
  have hfault := State.adaptFault_of_find c (hw.find_transom hk.present hk.role hke hk.quad hk.first)
  refine ⟨(((s.vacate e).assign k .adapt (s.engAt e).lane).holdAdapt (s.engAt e).lane).succeeded e (s.engAt e).lane c k, ?_, ?_⟩
  · change execAdaptEngineFault e c s = _
    rw [execAdaptEngineFault, if_pos ⟨he, hrole⟩, hfault]
    rfl
  · exact hw.replaced c hke nofun hk.role (State.holdAdapt_keep _ _ rfl (Keep.refl _ _))

/-- A transom engine takes the place of an engine of a group that fails, from its shadow copy. -/
theorem engineFault_completes (e k : Nat) (c : EngineCond) : Completes (.engineFault e c)
    (fun s => e < s.engines ∧ (s.engAt e).role = .tier ∧ k < s.engines ∧ (s.engAt k).role = .transom ∧ k / 64 = e / 64 ∧
      (∀ j, j < k → j / 64 = e / 64 → (s.engAt j).role ≠ .transom) ∧ s.hears)
    fun s t => (t.engAt e).role = .test ∧ (t.engAt k).role = .tier ∧ (t.engAt k).lane = (s.engAt e).lane ∧
      (.engine k ∉ s.tst.slices → (t.engAt k).coefs =
        (s.engAt k).shadow.getD (s.engAt e).lane (coefSetOf (s.lineAt (s.engAt e).lane).sea.master)) ∧
      t.statAt gSea (s.engAt e).lane 6 = (s.statAt gSea (s.engAt e).lane 6).add 1 ∧
      Raises s t evSeaEngineFault [Word.nat e, Word.nat (s.engAt e).lane, Word.nat (condNum c), Word.nat k] := by
  rintro s ⟨he, hrole, hk, htransom, hquad, hfirst, hears⟩
  obtain ⟨t, hexec, ht⟩ := exec_engineFault_of_tier c he hrole ⟨hk, htransom, hquad, hfirst⟩
  exact ⟨t, hexec, ht.failed, ht.taken, ht.lane, ht.coefs, ht.count, ht.told hears⟩

/-- A transom engine takes the place of an adaptation engine that fails. -/
theorem adaptEngineFault_completes (e k : Nat) (c : EngineCond) : Completes (.adaptEngineFault e c)
    (fun s => e < s.engines ∧ (s.engAt e).role = .adapt ∧ k < s.engines ∧ (s.engAt k).role = .transom ∧ k / 64 = e / 64 ∧
      (∀ j, j < k → j / 64 = e / 64 → (s.engAt j).role ≠ .transom) ∧ s.hears)
    fun s t => (t.engAt e).role = .test ∧ (t.engAt k).role = .adapt ∧ (t.engAt k).lane = (s.engAt e).lane ∧
      t.statAt gSea (s.engAt e).lane 6 = (s.statAt gSea (s.engAt e).lane 6).add 1 ∧
      Raises s t evSeaEngineFault [Word.nat e, Word.nat (s.engAt e).lane, Word.nat (condNum c), Word.nat k] := by
  rintro s ⟨he, hrole, hk, htransom, hquad, hfirst, hears⟩
  obtain ⟨t, hexec, ht⟩ := exec_adaptEngineFault_of_adapt c he hrole ⟨hk, htransom, hquad, hfirst⟩
  exact ⟨t, hexec, ht.failed, ht.taken, ht.lane, ht.count, ht.told hears⟩

end Sys2Proof.Machine
end


section

/-! PROOFS. The elastic FIFOs, coefficient sets and engine faults (O10). -/

namespace Sys2Proof.Machine

/-- Settles O10, from one lemma for each of its eleven clauses. -/
theorem fifosAndEnginesComplete : Obligations.FifosAndEnginesComplete :=
  ⟨⟨blockEntersFifo_completes, blockEntersFifo_completes_of_listen, blockRelease_completes, blockRelease_completes_of_late,
    blockRelease_completes_of_bad, fifoWatermarkCrossed_completes, fifoOverflow_completes⟩,
    coefficientPush_completes, shadowRefresh_completes, engineFault_completes, adaptEngineFault_completes⟩

end Sys2Proof.Machine

end

section
/-! PROOFS. The steps of an acquisition of a line lane (O6): what each event of a step changes (R102, R103). -/

namespace Sys2Proof.Machine

/-! An update of a part of lane `l` leaves the other lanes as they are. -/

section
variable (s : State) {l k : Nat} (hk : k ≠ l)
include hk

theorem State.lineAt_modLrx_other (f : Lrx → Lrx) : (s.modLrx l f).lineAt k = s.lineAt k := by
  rw [State.lineAt_modLrx, if_neg hk]

theorem State.lineAt_modSea_other (f : Sea → Sea) : (s.modSea l f).lineAt k = s.lineAt k := by
  rw [State.lineAt_modSea, if_neg hk]

theorem State.lineAt_modSdf_other (f : Sdf → Sdf) : (s.modSdf l f).lineAt k = s.lineAt k := by
  rw [State.lineAt_modSdf, if_neg hk]

end

/-! The events of the steps. -/

/-- An acquisition on a lane that is not held in FAULT, whose receiver is in FULL and sees light, may end its step. -/
theorem State.inStep_of {s : State} {l n : Nat} (hl : l < s.lines)
    (hstate : (s.lineAt l).state = .acquire ∨ (s.lineAt l).state = .fault) (hstuck : (s.lineAt l).stuck = false)
    (hstep : (s.lineAt l).lrx.step = n) (hlos : (s.lineAt l).lrx.los = false) (hpower : (s.lineAt l).lrx.power = .full) :
    s.inStep l n = true := by
  simp [State.inStep, hl, hstate, hstuck, hstep, hlos, hpower]

theorem exec_receiverPowerSettled {s : State} {l : Nat} (h : s.inStep l 1 = true) :
    exec (.receiverPowerSettled l) s = .next (s.toStep l 2) := congrArg Host.Outcome.next (if_pos h)

theorem exec_sliceCorrectionConverged {s : State} {l : Nat} (h : s.inStep l 3 = true) :
    exec (.sliceCorrectionConverged l) s = .next (s.toStep l 4) := congrArg Host.Outcome.next (if_pos h)

theorem exec_agcSettled {s : State} {l : Nat} (rms : List Nat) (h : s.inStep l 2 = true)
    (hgain : s.vgaAuto l = false ∨ agcNear (s.parN nLrxCfg l 1) (rms.getLastD 0) = true) :
    exec (.agcSettled l rms) s = .next ((s.agcRun l rms).toStep l (if (s.lineAt l).lrx.cold then 3 else 4)) := by
  change execAgcSettled l s rms = _
  rw [execAgcSettled, if_pos ⟨h, by simpa using hgain⟩]

theorem exec_timingRecoveryLocked {s : State} {l : Nat} {f : Int} (h : s.inStep l 4 = true) (hf : f.natAbs ≤ 2000) :
    exec (.timingRecoveryLocked l f) s = .next (
      if (s.lineAt l).lrx.cold then (s.modLrx l fun x => { x with freq := f }).toStep l 5
      else (s.modLrx l fun x => { x with freq := f }).toSix l) := by
  change execTimingRecoveryLocked l f s = _
  rw [execTimingRecoveryLocked, if_pos ⟨h, hf⟩]

theorem exec_ffeConverged {s : State} {l : Nat} (ups : List (Int × List Int)) (h : s.inStep l 5 = true) :
    exec (.ffeConverged l ups) s = .next ((s.adaptFfe l ups).toSix l) := by
  change execFfeConverged l s ups = _
  rw [execFfeConverged, if_pos h]

/-! Each step's event on the receiver of its lane. -/

theorem State.toStep_lrx (s : State) (l n : Nat) : ((s.toStep l n).lineAt l).lrx = { (s.lineAt l).lrx with step := n } := by
  simp [State.toStep]

theorem State.toStep_lineAt_other (s : State) {l k : Nat} (n : Nat) (hk : k ≠ l) : (s.toStep l n).lineAt k = s.lineAt k :=
  s.lineAt_modLrx_other hk _

theorem State.toStep_frame (s : State) (l n : Nat) : Keep 0x180000 s (s.toStep l n) := Keep.modLrx (.inl rfl) rfl (Keep.refl _ _)

theorem State.toSix_lrx (s : State) (l : Nat) : ((s.toSix l).lineAt l).lrx =
    { (s.lineAt l).lrx with step := 6, disturbed := !(s.lineAt l).lrx.cold } := by
  simp [State.toSix, State.toStep]

theorem State.toSix_sea (s : State) (l : Nat) : ((s.toSix l).lineAt l).sea = { (s.lineAt l).sea with discard := false } := by
  simp [State.toSix, State.toStep]

theorem State.toSix_lineAt_other (s : State) {l k : Nat} (hk : k ≠ l) : (s.toSix l).lineAt k = s.lineAt k := by
  rw [State.toSix, State.lineAt_modSea_other _ hk, State.lineAt_modLrx_other _ hk, State.toStep_lineAt_other _ _ hk]

theorem State.toSix_frame (s : State) (l : Nat) : Keep 0x380000 s (s.toSix l) :=
  Keep.modSea rfl (Keep.modLrx (.inl rfl) rfl ((s.toStep_frame l 6).step rfl (Keep.refl _ _)))

/-- The AGC moves the gain alone, where it is AUTO and the receiver is not frozen (R74, R78). -/
theorem State.agcRun_eq (s : State) (l : Nat) (rms : List Nat) : ((s.agcRun l rms).lineAt l) =
    { s.lineAt l with lrx := { (s.lineAt l).lrx with
      gain := if s.vgaAuto l = true ∧ (s.lineAt l).lrx.frozen = false
        then (rms.take (10 * s.parN nLrxCfg l 2)).foldl (agcStep (s.parN nLrxCfg l 1)) (s.lineAt l).lrx.gain
        else (s.lineAt l).lrx.gain } } := by
  unfold State.agcRun
  simp only [Bool.not_eq_true']
  split
  · rw [State.lineAt_modLrx_self]
  · rfl

theorem State.agcRun_lineAt_other (s : State) {l k : Nat} (rms : List Nat) (hk : k ≠ l) :
    (s.agcRun l rms).lineAt k = s.lineAt k := by
  unfold State.agcRun
  split
  · exact s.lineAt_modLrx_other hk _
  · rfl

theorem State.agcRun_frame (s : State) (l : Nat) (rms : List Nat) : Keep 0x180000 s (s.agcRun l rms) :=
  s.agcRun_keep l rms rfl (Keep.refl _ _)

/-- The LMS updates move the taps alone, while adaptation runs. -/
theorem State.adaptFfe_lineAt (s : State) (l : Nat) (ups : List (Int × List Int)) : ((s.adaptFfe l ups).lineAt l) =
    { s.lineAt l with lrx := { (s.lineAt l).lrx with
      taps := if s.ffeRuns l = true then ups.foldl (ffeLms (s.ffeStep l)) (s.lineAt l).lrx.taps else (s.lineAt l).lrx.taps } } := by
  unfold State.adaptFfe
  split
  · rw [State.lineAt_modLrx_self]
  · rfl

theorem State.adaptFfe_lineAt_other (s : State) {l k : Nat} (ups : List (Int × List Int)) (hk : k ≠ l) :
    (s.adaptFfe l ups).lineAt k = s.lineAt k := by
  unfold State.adaptFfe
  split
  · exact s.lineAt_modLrx_other hk _
  · rfl

theorem State.adaptFfe_frame (s : State) (l : Nat) (ups : List (Int × List Int)) : Keep 0x180000 s (s.adaptFfe l ups) :=
  s.adaptFfe_keep l ups rfl (Keep.refl _ _)

/-- In FULL, in a step of an acquisition, FREEZE and a frozen receiver alone hold the taps (R78, R100). -/
theorem State.ffeRuns_iff_of_step {s : State} {l n : Nat} (hpower : (s.lineAt l).lrx.power = .full)
    (hstep : (s.lineAt l).lrx.step = n + 1) :
    s.ffeRuns l = true ↔ s.parN nLrxCfg l 10 = 0 ∧ (s.lineAt l).lrx.frozen = false := by
  simp [State.ffeRuns, hpower, hstep]

/-! The clauses. -/

theorem receiverPowerSettled_completes (l : Nat) : Completes (.receiverPowerSettled l) (fun s => l < s.lines ∧
      ((s.lineAt l).state = .acquire ∨ (s.lineAt l).state = .fault) ∧ (s.lineAt l).stuck = false ∧ (s.lineAt l).lrx.step = 1 ∧
      (s.lineAt l).lrx.los = false ∧ (s.lineAt l).lrx.power = .full)
    fun s t => (t.lineAt l).lrx = { (s.lineAt l).lrx with step := 2 } ∧
      (∀ k, k ≠ l → t.lineAt k = s.lineAt k) ∧ OnlyChanges [.lnRx, .lnRxPower] s t := by
  rintro s ⟨hl, hstate, hstuck, hstep, hlos, hpower⟩
  exact ⟨_, exec_receiverPowerSettled (State.inStep_of hl hstate hstuck hstep hlos hpower), s.toStep_lrx l 2,
    fun k hk => s.toStep_lineAt_other 2 hk, (s.toStep_frame l 2).among rfl⟩

theorem sliceCorrectionConverged_completes (l : Nat) : Completes (.sliceCorrectionConverged l) (fun s => l < s.lines ∧
      ((s.lineAt l).state = .acquire ∨ (s.lineAt l).state = .fault) ∧ (s.lineAt l).stuck = false ∧ (s.lineAt l).lrx.step = 3 ∧
      (s.lineAt l).lrx.los = false ∧ (s.lineAt l).lrx.power = .full)
    fun s t => (t.lineAt l).lrx = { (s.lineAt l).lrx with step := 4 } ∧
      (∀ k, k ≠ l → t.lineAt k = s.lineAt k) ∧ OnlyChanges [.lnRx, .lnRxPower] s t := by
  rintro s ⟨hl, hstate, hstuck, hstep, hlos, hpower⟩
  exact ⟨_, exec_sliceCorrectionConverged (State.inStep_of hl hstate hstuck hstep hlos hpower), s.toStep_lrx l 4,
    fun k hk => s.toStep_lineAt_other 4 hk, (s.toStep_frame l 4).among rfl⟩

/-- Where step 2 ends, the lane goes on with the gain that the AGC has found. -/
theorem State.afterAgc_spec (s : State) (l n : Nat) (rms : List Nat) :
    (∀ k, k ≠ l → ((s.agcRun l rms).toStep l n).lineAt k = s.lineAt k) ∧
      OnlyChanges [.lnRx, .lnRxPower] s ((s.agcRun l rms).toStep l n) :=
  ⟨fun _ hk => (State.toStep_lineAt_other _ n hk).trans (s.agcRun_lineAt_other rms hk),
    ((State.toStep_frame _ l n).step rfl (s.agcRun_frame l rms)).among rfl⟩

theorem agcSettled_completes (l : Nat) (rms : List Nat) : Completes (.agcSettled l rms) (fun s => l < s.lines ∧
      ((s.lineAt l).state = .acquire ∨ (s.lineAt l).state = .fault) ∧ (s.lineAt l).stuck = false ∧ (s.lineAt l).lrx.step = 2 ∧
      (s.lineAt l).lrx.los = false ∧ (s.lineAt l).lrx.power = .full ∧ s.parI nLrxCfg l 0 = autoInt ∧
      agcNear (s.parN nLrxCfg l 1) (rms.getLastD 0) = true)
    fun s t => (t.lineAt l).lrx = { (s.lineAt l).lrx with
        step := if (s.lineAt l).lrx.cold then 3 else 4
        gain := if (s.lineAt l).lrx.frozen then (s.lineAt l).lrx.gain
          else (rms.take (10 * s.parN nLrxCfg l 2)).foldl (agcStep (s.parN nLrxCfg l 1)) (s.lineAt l).lrx.gain } ∧
      (∀ k, k ≠ l → t.lineAt k = s.lineAt k) ∧ OnlyChanges [.lnRx, .lnRxPower] s t := by
  rintro s ⟨hl, hstate, hstuck, hstep, hlos, hpower, hauto, hnear⟩
  have hvga : s.vgaAuto l = true := by simpa [State.vgaAuto] using hauto
  refine ⟨_, exec_agcSettled rms (State.inStep_of hl hstate hstuck hstep hlos hpower) (.inr hnear), ?_, s.afterAgc_spec l _ rms⟩
  rw [State.toStep_lrx, State.agcRun_eq]
  cases hfrozen : (s.lineAt l).lrx.frozen <;> simp [hvga]

theorem agcSettled_completes_of_set (l : Nat) (rms : List Nat) : Completes (.agcSettled l rms) (fun s => l < s.lines ∧
      ((s.lineAt l).state = .acquire ∨ (s.lineAt l).state = .fault) ∧ (s.lineAt l).stuck = false ∧ (s.lineAt l).lrx.step = 2 ∧
      (s.lineAt l).lrx.los = false ∧ (s.lineAt l).lrx.power = .full ∧ s.parI nLrxCfg l 0 ≠ autoInt)
    fun s t => (t.lineAt l).lrx = { (s.lineAt l).lrx with step := if (s.lineAt l).lrx.cold then 3 else 4 } ∧
      (∀ k, k ≠ l → t.lineAt k = s.lineAt k) ∧ OnlyChanges [.lnRx, .lnRxPower] s t := by
  rintro s ⟨hl, hstate, hstuck, hstep, hlos, hpower, hset⟩
  have hvga : s.vgaAuto l = false := by simpa [State.vgaAuto] using hset
  refine ⟨_, exec_agcSettled rms (State.inStep_of hl hstate hstuck hstep hlos hpower) (.inl hvga), ?_, s.afterAgc_spec l _ rms⟩
  rw [State.toStep_lrx, State.agcRun_eq]
  simp [hvga]

theorem timingRecoveryLocked_completes (l : Nat) (f : Int) : Completes (.timingRecoveryLocked l f) (fun s => l < s.lines ∧
      ((s.lineAt l).state = .acquire ∨ (s.lineAt l).state = .fault) ∧ (s.lineAt l).stuck = false ∧ (s.lineAt l).lrx.step = 4 ∧
      (s.lineAt l).lrx.los = false ∧ (s.lineAt l).lrx.power = .full ∧ -2000 ≤ f ∧ f ≤ 2000)
    fun s t => (t.lineAt l).lrx.freq = f ∧ (t.lineAt l).lrx.step = (if (s.lineAt l).lrx.cold then 5 else 6) ∧
      ((s.lineAt l).lrx.cold = true → (t.lineAt l).lrx = { (s.lineAt l).lrx with step := 5, freq := f } ∧
        (t.lineAt l).sea = (s.lineAt l).sea) ∧
      ((s.lineAt l).lrx.cold = false → (t.lineAt l).lrx = { (s.lineAt l).lrx with step := 6, freq := f, disturbed := true } ∧
        (t.lineAt l).sea = { (s.lineAt l).sea with discard := false }) ∧
      (∀ k, k ≠ l → t.lineAt k = s.lineAt k) ∧ OnlyChanges [.lnRx, .lnRxPower, .lnSea] s t := by
  rintro s ⟨hl, hstate, hstuck, hstep, hlos, hpower, hlow, hhigh⟩
  have hframe : Keep 0x380000 s (s.modLrx l fun x => { x with freq := f }) := Keep.modLrx (.inl rfl) rfl (Keep.refl _ _)
  refine ⟨_, exec_timingRecoveryLocked (State.inStep_of hl hstate hstuck hstep hlos hpower) (by omega), ?_⟩
  cases hcold : (s.lineAt l).lrx.cold
  · simp only [Bool.false_eq_true, if_false]
    rw [State.toSix_lrx, State.toSix_sea, State.lineAt_modLrx_self]
    refine ⟨rfl, by simp [hcold], fun h => absurd (hcold.symm.trans h) nofun, fun _ => ⟨by simp [hcold], rfl⟩, fun k hk => ?_,
      ((State.toSix_frame _ l).step rfl hframe).among rfl⟩
    rw [State.toSix_lineAt_other _ hk, State.lineAt_modLrx_other _ hk]
  · simp only [if_true]
    have hsea : (((s.modLrx l fun x => { x with freq := f }).toStep l 5).lineAt l).sea = (s.lineAt l).sea := by
      simp [State.toStep]
    rw [State.toStep_lrx, hsea, State.lineAt_modLrx_self]
    refine ⟨rfl, by simp [hcold], fun _ => ⟨rfl, rfl⟩, fun h => absurd (hcold.symm.trans h) nofun, fun k hk => ?_,
      ((State.toStep_frame _ l 5).step rfl hframe).among rfl⟩
    rw [State.toStep_lineAt_other _ _ hk, State.lineAt_modLrx_other _ hk]

theorem ffeConverged_completes (l : Nat) (ups : List (Int × List Int)) : Completes (.ffeConverged l ups) (fun s => l < s.lines ∧
      ((s.lineAt l).state = .acquire ∨ (s.lineAt l).state = .fault) ∧ (s.lineAt l).stuck = false ∧ (s.lineAt l).lrx.step = 5 ∧
      (s.lineAt l).lrx.los = false ∧ (s.lineAt l).lrx.power = .full)
    fun s t => (t.lineAt l).lrx = { (s.lineAt l).lrx with
        step := 6, disturbed := !(s.lineAt l).lrx.cold
        taps := if s.parN nLrxCfg l 10 = 0 ∧ (s.lineAt l).lrx.frozen = false
          then ups.foldl (ffeLms (-(s.parI nLrxCfg l 9)).toNat) (s.lineAt l).lrx.taps else (s.lineAt l).lrx.taps } ∧
      (t.lineAt l).sea = { (s.lineAt l).sea with discard := false } ∧
      (∀ k, k ≠ l → t.lineAt k = s.lineAt k) ∧ OnlyChanges [.lnRx, .lnRxPower, .lnSea] s t := by
  rintro s ⟨hl, hstate, hstuck, hstep, hlos, hpower⟩
  refine ⟨_, exec_ffeConverged ups (State.inStep_of hl hstate hstuck hstep hlos hpower), ?_, ?_, fun k hk => ?_,
    ((State.toSix_frame _ l).step (m := 0x380000) rfl ((s.adaptFfe_frame l ups).step rfl (Keep.refl _ _))).among rfl⟩
  · rw [State.toSix_lrx, State.adaptFfe_lineAt]
    simp only [State.ffeRuns_iff_of_step hpower hstep]
    rfl
  · rw [State.toSix_sea, State.adaptFfe_lineAt]
  · rw [State.toSix_lineAt_other _ hk, State.adaptFfe_lineAt_other _ _ hk]

/-! A timeout (R103). -/

/-- The preset of the next attempt: under AUTO the next of the four, else the one that is set. -/
def Lrx.nextPreset (x : Lrx) : Nat := if x.presetSet = autoInt then (x.preset + 1) % 4 else x.presetSet.toNat

/-- The lane begins again at step 2 as a cold acquisition, with the taps of its preset and the nominal level table. -/
def State.retried (s : State) (l : Nat) : State :=
  (((s.modLrx l fun y => { y with
    step := 2, cold := true, freqHeld := false, retries := y.retries + 1, consec := y.consec + 1 }).resetTable l).loadPreset l
      (s.lineAt l).lrx.nextPreset).bump gLrx l 1

theorem exec_acquisitionTimeout {s : State} {l n : Nat} (h : s.inStep l n = true) (hn : 1 ≤ n ∧ n ≤ 6) :
    exec (.acquisitionTimeout l) s = .next (
      if ((s.lineAt l).lrx.consec + 1) % 4 = 0 then
        (s.retried l).raise evLrxAcqRetry [Word.nat l, Word.nat ((s.lineAt l).lrx.retries + 1), Word.nat (s.lineAt l).lrx.preset]
      else s.retried l) := by
  have hany : [1, 2, 3, 4, 5, 6].any (s.inStep l) = true := List.any_eq_true.2 ⟨n, by simp; omega, h⟩
  change execAcquisitionTimeout l s = _
  rw [execAcquisitionTimeout, if_pos hany]
  rfl

theorem State.retried_lrx (s : State) (l : Nat) : ((s.retried l).lineAt l).lrx = { (s.lineAt l).lrx with
    step := 2, cold := true, freqHeld := false, retries := (s.lineAt l).lrx.retries + 1, consec := (s.lineAt l).lrx.consec + 1
    preset := (s.lineAt l).lrx.nextPreset, presetBand := (s.lineAt l).lrx.band
    taps := presetTaps (s.lineAt l).lrx.band (s.lineAt l).lrx.nextPreset (s.lineAt l).lrx.mainCur } := by
  simp [State.retried, State.loadPreset, State.resetTable, State.lineAt_bump]

theorem State.retried_table (s : State) (l : Nat) : ((s.retried l).lineAt l).sdf.table = [] := by
  simp [State.retried, State.loadPreset, State.resetTable, State.lineAt_bump]

theorem State.retried_lineAt_other (s : State) {l k : Nat} (hk : k ≠ l) : (s.retried l).lineAt k = s.lineAt k := by
  rw [State.retried, State.lineAt_bump, State.loadPreset, State.lineAt_modLrx_other _ hk, State.resetTable,
    State.lineAt_modSdf_other _ hk, State.lineAt_modLrx_other _ hk]

theorem State.retried_statAt (s : State) (l : Nat) : (s.retried l).statAt gLrx l 1 = (s.statAt gLrx l 1).add 1 := by
  rw [State.retried, State.statAt_bump_self]
  rfl

theorem State.retried_frame (s : State) (l : Nat) : Keep 0x5a0000 s (s.retried l) :=
  Keep.bump rfl (Keep.modLrx (.inl rfl) rfl (Keep.modSdf rfl (Keep.modLrx (.inl rfl) rfl (Keep.refl _ _))))

theorem acquisitionTimeout_completes (l : Nat) : Completes (.acquisitionTimeout l) (fun s => l < s.lines ∧
      ((s.lineAt l).state = .acquire ∨ (s.lineAt l).state = .fault) ∧ (s.lineAt l).stuck = false ∧
      1 ≤ (s.lineAt l).lrx.step ∧ (s.lineAt l).lrx.step ≤ 6 ∧ (s.lineAt l).lrx.los = false ∧ (s.lineAt l).lrx.power = .full)
    fun s t => (t.lineAt l).lrx.step = 2 ∧ (t.lineAt l).lrx.cold = true ∧ (t.lineAt l).lrx.freqHeld = false ∧
      (t.lineAt l).lrx.retries = (s.lineAt l).lrx.retries + 1 ∧ (t.lineAt l).lrx.consec = (s.lineAt l).lrx.consec + 1 ∧
      (t.lineAt l).lrx.preset = (if (s.lineAt l).lrx.presetSet = autoInt then ((s.lineAt l).lrx.preset + 1) % 4
        else (s.lineAt l).lrx.presetSet.toNat) ∧
      (t.lineAt l).lrx.taps = presetTaps (s.lineAt l).lrx.band (t.lineAt l).lrx.preset (s.lineAt l).lrx.mainCur ∧
      (t.lineAt l).sdf.table = [] ∧ t.statAt gLrx l 1 = (s.statAt gLrx l 1).add 1 ∧
      (((s.lineAt l).lrx.consec + 1) % 4 = 0 → s.hears →
        Raises s t evLrxAcqRetry [Word.nat l, Word.nat ((s.lineAt l).lrx.retries + 1), Word.nat (s.lineAt l).lrx.preset]) ∧
      (∀ k, k ≠ l → t.lineAt k = s.lineAt k) ∧
      OnlyChanges [.lnRx, .lnRxPower, .lnSdf, .stats, .evRaised, .evQueue] s t := by
  rintro s ⟨hl, hstate, hstuck, hlow, hhigh, hlos, hpower⟩
  have hexec := exec_acquisitionTimeout (State.inStep_of hl hstate hstuck rfl hlos hpower) ⟨hlow, hhigh⟩
  refine ⟨_, hexec, ?_⟩
  set t := if ((s.lineAt l).lrx.consec + 1) % 4 = 0 then _ else _ with ht
  have hraise : Keep 0x300 (s.retried l) t := by
    rw [ht]
    split
    · exact State.raise_frame ..
    · exact Keep.refl _ _
  have hline := hraise.lineAt_eq rfl
  have hlrx := s.retried_lrx l
  rw [← hline] at hlrx
  rw [hlrx, hraise.statAt_eq rfl, s.retried_statAt l]
  refine ⟨rfl, rfl, rfl, rfl, rfl, rfl, rfl, ?_, rfl, fun hfourth hears => ?_, fun k hk => ?_,
    (hraise.step rfl ((s.retried_frame l).step (m := 0x5a0300) rfl (Keep.refl _ _))).among rfl⟩
  · rw [hline, s.retried_table]
  · rw [ht, if_pos hfourth]
    exact Raises.of_keep hears (s.retried_frame l) rfl (Keep.refl 0 _) rfl
  · rw [hline, s.retried_lineAt_other hk]

/-- Settles O6, from one lemma for each event of a step. -/
theorem acquisitionStepsComplete : Obligations.AcquisitionStepsComplete :=
  ⟨receiverPowerSettled_completes, agcSettled_completes, agcSettled_completes_of_set, sliceCorrectionConverged_completes,
    timingRecoveryLocked_completes, ffeConverged_completes, acquisitionTimeout_completes⟩

end Sys2Proof.Machine
end

section
/-! PROOFS. Loss of signal, its end, and loss of lock of a line lane (O7; R76 to R80, R222). -/

namespace Sys2Proof.Machine

/-! What a frame says of the state and the receiver of a lane. -/

section
variable {m : Nat} {s t : State}

theorem Keep.lineState_eq (h : Keep m s t) (hm : m.testBit 18 = false) (l : Nat) : (t.lineAt l).state = (s.lineAt l).state :=
  (h.1 .lnState hm l).1.symm

theorem Keep.lrxRest_eq (h : Keep m s t) (hm : m.testBit 19 = false) (l : Nat) : (t.lineAt l).lrx.rest = (s.lineAt l).lrx.rest :=
  (h.1 .lnRx hm l).symm

/-- A field of the receiver that is no part of its power state, its slices or their rotation. -/
theorem Keep.lrx_eq {α : Type} (h : Keep m s t) (hm : m.testBit 19 = false) (l : Nat) (f : Lrx → α) (hf : ∀ x : Lrx, f x.rest = f x) :
    f (t.lineAt l).lrx = f (s.lineAt l).lrx := by
  rw [← hf, h.lrxRest_eq hm, hf]

end

/-- An acquisition begins at step 1, cold or warm as it is asked for. -/
theorem State.acquire_step (s : State) (l : Nat) (cold : Bool) :
    ((s.acquire l cold).lineAt l).lrx.step = 1 ∧ ((s.acquire l cold).lineAt l).lrx.cold = cold := by
  cases cold <;> simp [State.acquire, State.lineAt_bump, State.loadPreset, State.resetTable]

/-- A lane of a live datapath that is in ACQUIRE, UP or FAULT is in FAULT, and its acquisition stands still. -/
theorem State.lineFault_lineAt {s : State} {l : Nat} (ev : Nat) (hlive : s.live = true)
    (hstate : (s.lineAt l).state ≠ .down ∧ (s.lineAt l).state ≠ .test) : (s.lineFault l ev).lineAt l =
      { s.lineAt l with state := .fault, lrx := { (s.lineAt l).lrx with step := 0, lowSnr := 0 } } := by
  by_cases hup : (s.lineAt l).state = .up
  · rw [(State.lineFault_of_up ev hlive hup).lineAt_eq rfl, State.lineAt_modLine_self]
  · unfold State.lineFault
    extract_lets was s1
    rw [if_neg (by simp [hlive, was, hstate]), if_neg hup, State.lineAt_modLine_self]

/-! Loss of signal. -/

/-- LOS is asserted on a receiver, before its event. -/
def State.dark (s : State) (l : Nat) : State :=
  (s.modLrx l fun y => { y with los := true, losSince := s.tku.bcnt, losFirst := false, disturbed := true }).bump gLrx l 2

/-- The event of a loss of signal, the cause that it gives to a codeword loss of the same moment, and the end of a pilot frame. -/
def State.losNamed (s : State) (l : Nat) : State :=
  (((s.dark l).raise evLrxLosAssert [Word.nat l, Word.nat (s.lineAt l).state.num]).nameLos l).pltAbort l

/-- What the lane does at a loss of signal (R78). -/
def State.losActs (s : State) (l : Nat) : State :=
  match (s.lineAt l).state with
  | .acquire | .up =>
    (((s.losNamed l).modLrx l fun y => { y with frozen := true, freqHeld := true }).lockEnd l lostLos).lineFault l evLrxLosAssert
  | .fault => ((s.losNamed l).modLrx l fun y => { y with frozen := true, freqHeld := true, step := 0 }).lockEnd l lostLos
  | _ => (s.losNamed l).lockEnd l lostLos

theorem exec_losAssert {s : State} {l : Nat} (hl : l < s.lines) (hpower : (s.lineAt l).lrx.power ≠ .off)
    (hlos : (s.lineAt l).lrx.los = false) : exec (.losAssert l) s = .next (s.losActs l).follow := by
  change execLosAssert l s = _
  rw [execLosAssert, if_pos ⟨hl, hpower, by simp [hlos]⟩]
  rfl

theorem State.lockEnd_frame (s : State) (l cause : Nat) : Keep 0x420300 s (s.lockEnd l cause) := s.lockEnd_keep l cause rfl (Keep.refl _ _)

theorem State.losActs_frame (s : State) (l : Nat) : Keep 0x2c5e0300 (s.losNamed l) (s.losActs l) := by
  have hrx : ∀ f : Lrx → Lrx, Keep 0x2c5e0300 (s.losNamed l) ((s.losNamed l).modLrx l f) :=
    fun f => Keep.modLrx (.inl rfl) rfl (Keep.refl _ _)
  unfold State.losActs
  split
  · exact State.lineFault_keep _ _ _ rfl (State.lockEnd_keep _ _ _ rfl (hrx _))
  · exact State.lineFault_keep _ _ _ rfl (State.lockEnd_keep _ _ _ rfl (hrx _))
  · exact State.lockEnd_keep _ _ _ rfl (hrx _)
  · exact State.lockEnd_keep _ _ _ rfl (Keep.refl _ _)

theorem State.losNamed_frame (s : State) (l : Nat) : Keep 0x8000011a0300 s (s.losNamed l) :=
  State.pltAbort_keep _ _ rfl (State.nameLos_keep _ _ rfl (State.raise_keep _ _ _ rfl
    (Keep.bump rfl (Keep.modLrx (.inl rfl) rfl (Keep.refl _ _)))))

/-- The receiver at a loss of signal: its gain and taps stay (R78). -/
theorem State.losNamed_lrx (s : State) (l : Nat) : ((s.losNamed l).lineAt l).lrx =
    { (s.lineAt l).lrx with los := true, losSince := s.tku.bcnt, losFirst := false, disturbed := true } := by
  have hframe : Keep 0x800001020300 (s.dark l) (s.losNamed l) :=
    State.pltAbort_keep _ _ rfl (State.nameLos_keep _ _ rfl (State.raise_keep _ _ _ rfl (Keep.refl _ _)))
  rw [← hframe.1 .lnRxPower rfl l, State.dark, State.lineAt_bump, State.lineAt_modLrx_self]

/-- A record that is no SDF_LOCK_LOST stays as it is (R222). -/
theorem State.mem_nameLos (s : State) (l : Nat) {e : Ev} (he : e ∈ s.ev.raised) (hcode : e.code ≠ evSdfLockLost) :
    e ∈ (s.nameLos l).ev.raised := by
  refine List.mem_map.2 ⟨e, he, if_neg fun h => hcode h.1⟩

/-- The record of the loss of signal and every earlier record but an SDF_LOCK_LOST are raised. -/
theorem State.losNamed_raised {s : State} {l : Nat} (hears : s.hears) :
    { code := evLrxLosAssert, bcnt := s.tku.bcnt, data := [Word.nat l, Word.nat (s.lineAt l).state.num] } ∈ (s.losNamed l).ev.raised ∧
      ∀ e ∈ s.ev.raised, e.code ≠ evSdfLockLost → e ∈ (s.losNamed l).ev.raised := by
  obtain ⟨hbefore, hraised⟩ : Raises s ((s.dark l).raise evLrxLosAssert [Word.nat l, Word.nat (s.lineAt l).state.num])
      evLrxLosAssert [Word.nat l, Word.nat (s.lineAt l).state.num] :=
    Raises.of_keep (m := 0x1a0000) hears (Keep.bump rfl (Keep.modLrx (.inl rfl) rfl (Keep.refl _ _))) rfl (Keep.refl 0 _) rfl
  have hevents : ∀ e ∈ ((s.dark l).raise evLrxLosAssert [Word.nat l, Word.nat (s.lineAt l).state.num]).ev.raised,
      e.code ≠ evSdfLockLost → e ∈ (s.losNamed l).ev.raised := by
    intro e he hcode
    have hkept : (State.nameLos _ l).ev.raised = (s.losNamed l).ev.raised := (State.pltAbort_frame ..).1 .evRaised rfl
    rw [← hkept]
    exact State.mem_nameLos _ l he hcode
  exact ⟨hevents _ hraised (show evLrxLosAssert ≠ evSdfLockLost by decide), fun e he => hevents e (hbefore.subset he)⟩

/-- The lane at a loss of signal: in ACQUIRE and UP it enters FAULT and holds its frequency, else its state stays; gain and taps
stay (R78). -/
theorem State.losActs_line {s : State} {l : Nat} (hlive : s.live = true) :
    ((s.lineAt l).state = .acquire ∨ (s.lineAt l).state = .up →
      ((s.losActs l).lineAt l).state = .fault ∧ ((s.losActs l).lineAt l).lrx.freqHeld = true) ∧
    ((s.lineAt l).state = .down ∨ (s.lineAt l).state = .test ∨ (s.lineAt l).state = .fault →
      ((s.losActs l).lineAt l).state = (s.lineAt l).state) ∧
    ((s.losActs l).lineAt l).lrx.gain = (s.lineAt l).lrx.gain ∧ ((s.losActs l).lineAt l).lrx.taps = (s.lineAt l).lrx.taps := by
  have hnamed := s.losNamed_frame l
  have hrx := s.losNamed_lrx l
  have hstate := hnamed.lineState_eq rfl l
  have hlive' : (s.losNamed l).live = true := (hnamed.live_eq rfl).trans hlive
  unfold State.losActs
  generalize s.losNamed l = u at *
  have hfrozen : ∀ f : Lrx → Lrx, (((u.modLrx l f).lockEnd l lostLos).lineAt l).state = (s.lineAt l).state ∧
      (((u.modLrx l f).lockEnd l lostLos).lineAt l).lrx = f (u.lineAt l).lrx := by
    intro f
    have hend := State.lockEnd_frame (u.modLrx l f) l lostLos
    refine ⟨(hend.lineState_eq rfl l).trans ?_, (hend.1 .lnRxPower rfl l).symm.trans ?_⟩
    · rw [State.lineAt_modLrx_self, hstate]
    · rw [State.lineAt_modLrx_self]
  have hfault : (s.lineAt l).state ≠ .down ∧ (s.lineAt l).state ≠ .test → ∀ f : Lrx → Lrx,
      (((u.modLrx l f).lockEnd l lostLos).lineFault l evLrxLosAssert).lineAt l =
        { ((u.modLrx l f).lockEnd l lostLos).lineAt l with
          state := .fault, lrx := { f (u.lineAt l).lrx with step := 0, lowSnr := 0 } } := by
    intro hne f
    have hends : Keep 0x5a0300 u ((u.modLrx l f).lockEnd l lostLos) :=
      State.lockEnd_keep _ _ _ rfl (Keep.modLrx (.inl rfl) rfl (Keep.refl _ _))
    rw [State.lineFault_lineAt _ ((hends.live_eq rfl).trans hlive') (by rwa [(hfrozen f).1]), (hfrozen f).2]
  split
  case h_1 h => simp [hfault (by simp [h]), hrx, h]
  case h_2 h => simp [hfault (by simp [h]), hrx, h]
  case h_3 h => simp [hfrozen, hrx, h]
  case h_4 hacquire hup hfault' =>
    have hend := u.lockEnd_frame l lostLos
    have hlrx := (hend.1 .lnRxPower rfl l).symm.trans hrx
    rw [hend.lineState_eq rfl, hlrx, hstate]
    exact ⟨fun h => (h.elim hacquire hup).elim, fun _ => rfl, rfl, rfl⟩

theorem losAssert_completes (l : Nat) : Completes (.losAssert l)
    (fun s => s.live ∧ l < s.lines ∧ (s.lineAt l).lrx.power ≠ .off ∧ (s.lineAt l).lrx.los = false ∧ s.hears)
    fun s t => { code := evLrxLosAssert, bcnt := s.tku.bcnt, data := [Word.nat l, Word.nat (s.lineAt l).state.num] } ∈ t.ev.raised ∧
      (∀ e ∈ s.ev.raised, e.code ≠ evSdfLockLost → e ∈ t.ev.raised) ∧
      ((s.lineAt l).state = .acquire ∨ (s.lineAt l).state = .up → (t.lineAt l).state = .fault ∧ (t.lineAt l).lrx.freqHeld = true) ∧
      ((s.lineAt l).state = .down ∨ (s.lineAt l).state = .test ∨ (s.lineAt l).state = .fault →
        (t.lineAt l).state = (s.lineAt l).state) ∧
      (t.lineAt l).lrx.gain = (s.lineAt l).lrx.gain ∧ (t.lineAt l).lrx.taps = (s.lineAt l).lrx.taps := by
  rintro s ⟨hlive, hl, hpower, hlos, hears⟩
  refine ⟨_, exec_losAssert hl hpower hlos, ?_⟩
  obtain ⟨hevent, hbefore⟩ := State.losNamed_raised (l := l) hears
  have hline := State.losActs_line (l := l) hlive
  have hall : Keep 0x2603fde5b08 (s.losNamed l) (s.losActs l).follow :=
    State.follow_keep _ rfl ((s.losActs_frame l).step rfl (Keep.refl _ _))
  have hfollow := (s.losActs l).follow_frame
  have hraised : (s.losNamed l).ev.raised <+: (s.losActs l).follow.ev.raised := hall.1 .evTaken rfl
  rw [hfollow.lineState_eq rfl, hfollow.lrx_eq rfl l Lrx.freqHeld fun _ => rfl, hfollow.lrx_eq rfl l Lrx.gain fun _ => rfl, hfollow.lrx_eq rfl l Lrx.taps fun _ => rfl]
  exact ⟨hraised.subset hevent, fun e he hcode => hraised.subset (hbefore e he hcode), hline⟩

/-! The end of a loss of signal. -/

/-- LOS has lasted more than 100 ms, or since the receiver's start (R79, R744). -/
def State.losLong (s : State) (l : Nat) : Bool :=
  (s.lineAt l).lrx.losFirst || decide (losWarmTicks < s.since (s.lineAt l).lrx.losSince)

/-- The signal is back, with its event. -/
def State.lit (s : State) (l : Nat) : State :=
  (s.modLrx l fun y => { y with los := false, losFirst := false }).raise evLrxLosClear
    [Word.nat l, Word.nat (s.since (s.lineAt l).lrx.losSince), Word.flag (s.losLong l)]

/-- After the event, a lane in FAULT that is not held there starts its acquisition; beside it, the time of an acquisition that waited
begins. -/
theorem exec_losClear {s : State} {l : Nat} (hl : l < s.lines) (hpower : (s.lineAt l).lrx.power ≠ .off)
    (hlos : (s.lineAt l).lrx.los = true) : ∃ v, exec (.losClear l) s = .next v.follow ∧ Keep 0x5a0000 (s.lit l) v ∧
      ((s.lineAt l).state = .fault → (s.lineAt l).stuck = false → v = (s.lit l).acquire l (s.losLong l)) := by
  change ∃ v, execLosClear l s = _ ∧ _
  rw [execLosClear, if_pos ⟨hl, hpower, hlos⟩]
  refine ⟨_, rfl, ?_, fun hfault hstuck => ?_⟩
  · split
    · exact Keep.modLrx (.inl rfl) rfl (Keep.refl _ _)
    · exact Keep.ite (Keep.refl _ _) (State.acquire_keep _ _ _ rfl (Keep.refl _ _))
    · exact Keep.refl _ _
  · simp only [hfault, hstuck]
    rfl

theorem losClear_completes (l : Nat) : Completes (.losClear l)
    (fun s => l < s.lines ∧ (s.lineAt l).lrx.power ≠ .off ∧ (s.lineAt l).lrx.los = true ∧ s.hears)
    fun s t => Raises s t evLrxLosClear [Word.nat l, Word.nat (s.since (s.lineAt l).lrx.losSince),
        Word.flag ((s.lineAt l).lrx.losFirst || decide (62500000 < s.since (s.lineAt l).lrx.losSince))] ∧
      ((s.lineAt l).state = .fault → (s.lineAt l).stuck = false → (t.lineAt l).lrx.step = 1 ∧
        (t.lineAt l).lrx.cold = ((s.lineAt l).lrx.losFirst || decide (62500000 < s.since (s.lineAt l).lrx.losSince))) := by
  rintro s ⟨hl, hpower, hlos, hears⟩
  obtain ⟨v, hexec, hv, hfault⟩ := exec_losClear hl hpower hlos
  have hall : Keep 0x2601bda5b08 (s.lit l) v.follow := State.follow_keep _ rfl (hv.step rfl (Keep.refl _ _))
  have hbefore : Keep 0x180000 s (s.modLrx l fun y => { y with los := false, losFirst := false }) :=
    Keep.modLrx (.inl rfl) rfl (Keep.refl _ _)
  refine ⟨_, hexec, Raises.of_keep hears hbefore rfl hall rfl, fun hstate hstuck => ?_⟩
  rw [v.follow_frame.lrx_eq rfl l Lrx.step fun _ => rfl, v.follow_frame.lrx_eq rfl l Lrx.cold fun _ => rfl, hfault hstate hstuck]
  exact (s.lit l).acquire_step l (s.losLong l)

/-! Loss of lock (R80). -/

/-- The event names the lane and the condition; the lane is in FAULT and acquires warm. -/
theorem State.lockLost_spec {s : State} {l : Nat} (cond : Nat) (hlive : s.live = true) (hup : (s.lineAt l).state = .up)
    (hstuck : (s.lineAt l).stuck = false) (hears : s.hears) :
    Raises s (s.lockLost l cond) evLrxLockLost [Word.nat l, Word.nat cond] ∧ ((s.lockLost l cond).lineAt l).state = .fault ∧
      ((s.lockLost l cond).lineAt l).lrx.step = 1 ∧ ((s.lockLost l cond).lineAt l).lrx.cold = false := by
  unfold State.lockLost
  have hbump : Keep 0x20000 s (s.bump gLrx l 3) := Keep.bump rfl (Keep.refl _ _)
  have hraise : Keep 0x20300 s ((s.bump gLrx l 3).raise evLrxLockLost [Word.nat l, Word.nat cond]) :=
    State.raise_keep _ _ _ rfl (hbump.step rfl (Keep.refl _ _))
  have hline := hraise.lineAt_eq rfl l
  have hwarm := State.faultWarm_of_up evLrxLockLost ((hraise.live_eq rfl).trans hlive)
    ((congrArg Line.state hline).trans hup) ((congrArg Line.stuck hline).trans hstuck)
  have hkeep : Keep 0x2603fde5b08 ((s.bump gLrx l 3).raise evLrxLockLost [Word.nat l, Word.nat cond]) _ :=
    State.follow_keep _ rfl (State.faultWarm_keep _ l evLrxLockLost rfl (Keep.refl _ _))
  refine ⟨Raises.of_keep hears hbump rfl hkeep rfl, ?_⟩
  have hfollow := (((s.bump gLrx l 3).raise evLrxLockLost [Word.nat l, Word.nat cond]).faultWarm l evLrxLockLost).follow_frame
  rwa [hfollow.lineState_eq rfl, hfollow.lrx_eq rfl l Lrx.step fun _ => rfl, hfollow.lrx_eq rfl l Lrx.cold fun _ => rfl]

theorem exec_snrWindowEnd {s : State} {l snr : Nat} (hup : (s.lineAt l).state = .up) (hl : l < s.lines) :
    exec (.snrWindowEnd l snr) s = .next (
      if snr < 50 * s.parN nLrxCfg l 14 then
        if 2 ≤ (s.lineAt l).lrx.lowSnr then s.lockLost l 0
        else s.modLrx l fun x => { x with lowSnr := x.lowSnr + 1 }
      else s.modLrx l fun x => { x with lowSnr := 0 }) := by
  change execSnrWindowEnd l snr s = _
  rw [execSnrWindowEnd, if_pos ⟨hup, hl⟩]

theorem snrWindowEnd_completes_of_third (l snr : Nat) : Completes (.snrWindowEnd l snr)
    (fun s => s.live ∧ l < s.lines ∧ (s.lineAt l).state = .up ∧ (s.lineAt l).stuck = false ∧ snr < 50 * s.parN nLrxCfg l 14 ∧
      2 ≤ (s.lineAt l).lrx.lowSnr ∧ s.hears)
    fun s t => Raises s t evLrxLockLost [Word.nat l, Word.nat 0] ∧ (t.lineAt l).state = .fault ∧
      (t.lineAt l).lrx.step = 1 ∧ (t.lineAt l).lrx.cold = false := by
  rintro s ⟨hlive, hl, hup, hstuck, hlow, hthird, hears⟩
  refine ⟨s.lockLost l 0, ?_, State.lockLost_spec 0 hlive hup hstuck hears⟩
  rw [exec_snrWindowEnd hup hl, if_pos hlow, if_pos hthird]

theorem snrWindowEnd_completes (l snr : Nat) : Completes (.snrWindowEnd l snr)
    (fun s => l < s.lines ∧ (s.lineAt l).state = .up ∧ (50 * s.parN nLrxCfg l 14 ≤ snr ∨ (s.lineAt l).lrx.lowSnr < 2))
    fun s t => (t.lineAt l).state = .up ∧
      (t.lineAt l).lrx.lowSnr = (if snr < 50 * s.parN nLrxCfg l 14 then (s.lineAt l).lrx.lowSnr + 1 else 0) ∧
      OnlyChanges [.lnRx, .lnRxPower] s t := by
  rintro s ⟨hl, hup, hkeeps⟩
  have hrx : ∀ f : Lrx → Lrx, ((s.modLrx l f).lineAt l).state = .up ∧ OnlyChanges [.lnRx, .lnRxPower] s (s.modLrx l f) := fun f =>
    ⟨by rw [State.lineAt_modLrx_self]; exact hup, Keep.among (m := 0x180000) (Keep.modLrx (.inl rfl) rfl (Keep.refl _ _)) rfl⟩
  rw [exec_snrWindowEnd hup hl]
  by_cases hlow : snr < 50 * s.parN nLrxCfg l 14
  · have hfew : ¬ 2 ≤ (s.lineAt l).lrx.lowSnr := by omega
    simp only [if_pos hlow, if_neg hfew]
    exact ⟨_, rfl, (hrx _).1, by rw [State.lineAt_modLrx_self], (hrx _).2⟩
  · simp only [if_neg hlow]
    exact ⟨_, rfl, (hrx _).1, by rw [State.lineAt_modLrx_self], (hrx _).2⟩

theorem timingFrequencyOutOfRange_completes (l : Nat) : Completes (.timingFrequencyOutOfRange l)
    (fun s => s.live ∧ l < s.lines ∧ (s.lineAt l).state = .up ∧ (s.lineAt l).stuck = false ∧ s.hears)
    fun s t => Raises s t evLrxLockLost [Word.nat l, Word.nat 1] ∧ (t.lineAt l).state = .fault ∧
      (t.lineAt l).lrx.step = 1 ∧ (t.lineAt l).lrx.cold = false := by
  rintro s ⟨hlive, hl, hup, hstuck, hears⟩
  exact ⟨s.lockLost l 1, congrArg Host.Outcome.next (if_pos ⟨hup, hl⟩), State.lockLost_spec 1 hlive hup hstuck hears⟩

/-- Settles O7, from one lemma for each of its five clauses. -/
theorem lossOfSignalAndLockComplete : Obligations.LossOfSignalAndLockComplete :=
  ⟨losAssert_completes, losClear_completes, snrWindowEnd_completes_of_third, snrWindowEnd_completes,
    timingFrequencyOutOfRange_completes⟩

end Sys2Proof.Machine
end

section
/-! PROOFS. The places of ADC slices: what an update of a slice does to the others, and what leaves every slice on its position. -/

namespace Sys2Proof.Machine

theorem State.sliceAt_modSlice (s : State) (l n k j : Nat) (f : Slice → Slice) :
    (s.modSlice l n f).sliceAt k j = if k = l ∧ j = n then f (s.sliceAt l n) else s.sliceAt k j := by
  unfold State.sliceAt State.modSlice
  rw [State.lineAt_modLrx]
  by_cases hk : k = l <;> by_cases hj : j = n <;> simp [hk, hj, tget_tmod]

theorem State.sliceAt_modSlice_other (s : State) {l n j : Nat} (hj : j ≠ n) (f : Slice → Slice) :
    (s.modSlice l n f).sliceAt l j = s.sliceAt l j := by
  rw [State.sliceAt_modSlice, if_neg fun h => hj h.2]

/-- An update of a receiver that leaves the table of its slices alone. -/
theorem State.sliceAt_modLrx (s : State) (l k n : Nat) {f : Lrx → Lrx} (hf : ∀ x, (f x).slices = x.slices) :
    (s.modLrx l f).sliceAt k n = s.sliceAt k n := by
  unfold State.sliceAt
  rw [State.lineAt_modLrx]
  split
  · next hk => rw [hk, hf]
  · rfl

theorem Keep.sliceAt_eq {m : Nat} {s t : State} (h : Keep m s t) (hm : m.testBit 20 = false) (l n : Nat) :
    t.sliceAt l n = s.sliceAt l n := congrArg (fun x : Lrx => tget x.slices sliceDflt n) (h.1 .lnRxPower hm l).symm

/-- A slice but for its coefficients (R81). -/
def Slice.place (x : Slice) : Slice := { x with off := 0, gain := 0, skew := 0 }

/-- Every slice is on its position and in its health, and every lane has its transom and its rotation's position. -/
def State.PlacesKept (s t : State) : Prop :=
  ∀ l, (t.lineAt l).lrx.transom = (s.lineAt l).lrx.transom ∧ (t.lineAt l).lrx.rotPos = (s.lineAt l).lrx.rotPos ∧
    ∀ n, (t.sliceAt l n).place = (s.sliceAt l n).place

namespace State.PlacesKept
variable {m : Nat} {s t u : State}

theorem refl (s : State) : s.PlacesKept s := fun _ => ⟨rfl, rfl, fun _ => rfl⟩

theorem of_keep (h : s.PlacesKept t) (hu : Keep m t u) (hm : m.testBit 20 = false) : s.PlacesKept u := fun l => by
  have hrx := hu.1 .lnRxPower hm l
  obtain ⟨htransom, hpos, hplace⟩ := h l
  exact ⟨hrx ▸ htransom, hrx ▸ hpos, fun n => hu.sliceAt_eq hm l n ▸ hplace n⟩

theorem modLrx {l : Nat} {f : Lrx → Lrx} (hf : ∀ x, (f x).transom = x.transom ∧ (f x).rotPos = x.rotPos ∧ (f x).slices = x.slices)
    (h : s.PlacesKept t) : s.PlacesKept (t.modLrx l f) := fun k => by
  obtain ⟨htransom, hpos, hplace⟩ := h k
  refine ⟨?_, ?_, fun n => (congrArg Slice.place (t.sliceAt_modLrx l k n fun x => (hf x).2.2)).trans (hplace n)⟩ <;>
    rw [State.lineAt_modLrx] <;> split <;> simp_all

theorem modSlice {l n : Nat} {f : Slice → Slice} (hf : ∀ x, (f x).place = x.place) (h : s.PlacesKept t) :
    s.PlacesKept (t.modSlice l n f) := fun k => by
  obtain ⟨htransom, hpos, hplace⟩ := h k
  refine ⟨?_, ?_, fun j => ?_⟩
  · rw [State.modSlice, State.lineAt_modLrx]
    split <;> simp_all
  · rw [State.modSlice, State.lineAt_modLrx]
    split <;> simp_all
  · rw [State.sliceAt_modSlice]
    split
    · next hkj =>
      obtain ⟨rfl, rfl⟩ := hkj
      rw [hf, hplace]
    · exact hplace j

/-- A field of a slice that is no coefficient. -/
theorem slice_eq {α : Type} (h : s.PlacesKept t) (l n : Nat) (f : Slice → α) (hf : ∀ x : Slice, f x.place = f x) :
    f (t.sliceAt l n) = f (s.sliceAt l n) := by
  rw [← hf, (h l).2.2 n, hf]

end State.PlacesKept

/-! What follows a change of lanes, ports or mode moves no slice: receivers change their power state, an abandoned run gives a slice
its old coefficients back. -/

theorem State.syncRx_places {s u : State} (h : s.PlacesKept u) (l : Nat) : s.PlacesKept (u.syncRx l) := by
  unfold State.syncRx
  extract_lets w x
  split
  · exact h
  · split
    · exact h.modLrx fun _ => ⟨rfl, rfl, rfl⟩
    · split
      · refine State.PlacesKept.of_keep (m := 0x1000000) ?_ (Keep.modPlt rfl (Keep.refl _ _)) rfl
        exact h.modLrx fun _ => ⟨rfl, rfl, rfl⟩
      · exact h.modLrx fun _ => ⟨rfl, rfl, rfl⟩

theorem State.syncWith_places {s u : State} (h : s.PlacesKept u) (c : TxCause) : s.PlacesKept (u.syncWith c) := by
  have hlines := List.foldlRecOn (motive := s.PlacesKept) (List.range u.lines)
    (fun v l => (v.syncRx l).syncTx l c) h fun v hv l _ => (State.syncRx_places hv l).of_keep (State.syncTx_frame ..) rfl
  unfold State.syncWith
  extract_lets s1 s2
  have hrest : Keep 0x2201a005b08 s1 ([0, 1].foldl (fun s g => s.syncGroup g) s2.opticsCheck).settle := by
    refine State.settle_keep _ rfl (Keep.foldl _ (fun u g hu => State.syncGroup_keep u g rfl hu) ?_)
    exact State.opticsCheck_keep _ rfl (Keep.foldl _ (fun u h hu => State.syncHost_keep u h rfl hu) (Keep.refl _ _))
  exact hlines.of_keep hrest rfl

/-- The element of an abandoned run is let go: a slice takes its old coefficients back, a core no longer stands in. -/
theorem State.calAbandon_places {s u : State} (h : s.PlacesKept u) (b cause : Nat) : s.PlacesKept (u.calAbandon b cause) := by
  unfold State.calAbandon
  extract_lets x s1 y back ocu s3 ocu' s2
  have hs1 : s.PlacesKept s1 := h.of_keep (m := 0x4000000000) (Keep.modCal rfl (Keep.refl _ _)) rfl
  have hocu : ∀ o, Keep 0x2000000000 s1 { s1 with ocu := o } := fun o => Keep.set_ocu rfl (Keep.refl _ _)
  have hback : s.PlacesKept back := by
    dsimp only [back]
    split
    · exact hs1.modSlice fun _ => rfl
    · exact hs1
  have hs2 : s.PlacesKept s2 := by
    dsimp only [s2]
    split
    · exact hback.modLrx fun _ => ⟨rfl, rfl, rfl⟩
    · exact hs1
    · split
      · exact hs1.of_keep (hocu _) rfl
      · exact hs1.of_keep (m := 0x2000000000) (Keep.set_ocu rfl (Keep.modAx rfl (Keep.refl _ _))) rfl
    · exact hs1
  split
  · split
    · exact hs2
    · exact hs2.of_keep (State.raise_frame ..) rfl
  · exact h

theorem State.calCheck_places {s u : State} (h : s.PlacesKept u) : s.PlacesKept u.calCheck := by
  refine List.foldlRecOn (motive := s.PlacesKept) _ _ h fun v hv b _ => ?_
  have hcal : ∀ f : Cal → Cal, s.PlacesKept (v.modCal b f) := fun f => hv.of_keep (m := 0x4000000000) (Keep.modCal rfl (Keep.refl _ _)) rfl
  dsimp only
  split
  · split
    · exact hcal _
    · exact State.calAbandon_places hv b abEligible
  · split
    · exact (hcal _).of_keep (m := 0x4000000000) (State.setDue_keep _ _ _ rfl (Keep.refl _ _)) rfl
    · exact hv

theorem State.follow_places {s u : State} (h : s.PlacesKept u) : s.PlacesKept u.follow :=
  State.calCheck_places (State.syncWith_places h .laneState)

end Sys2Proof.Machine
end

section
/-! PROOFS. Estimate periods, the background estimator and failed slices (O8; R82, R89, R90, R105 to R111). -/

namespace Sys2Proof.Machine

/-! An estimate period. -/

/-- A frame that leaves out the parameters leaves every parameter as it is. -/
theorem Keep.parI_eq {m : Nat} {s t : State} (h : Keep m s t) (hm : m.land 0x10004 = 0) (n l i : Nat) :
    t.parI n l i = s.parI n l i := by
  have hparams : s.params = t.params := h.1 .params (testBit_of_land_zero hm rfl)
  have hfuses : s.fuses = t.fuses := h.1 .fuses (testBit_of_land_zero hm rfl)
  simp only [State.parI, State.param, hparams, hfuses]

/-- The figures that a period publishes (R105, R106). -/
theorem State.publish_lrx (s : State) (l : Nat) (q : Quality) (dis : Bool) :
    ((s.publish l q dis).lineAt l).lrx = { (s.lineAt l).lrx with
      q := (s.figures l q).map Word.int, qDisturbed := dis, disturbed := false, periods := (s.lineAt l).lrx.periods + 1
      freq := q.freq, snr := (((s.figures l q).map Word.int).getD 8 0).toNat } := by
  unfold State.publish
  extract_lets ws s1 s2
  have hs2 : Keep 0x20000 s1 s2 := Keep.setFigure rfl (Keep.setFigure rfl (Keep.bumpBy rfl (Keep.refl _ _)))
  have hall : Keep 0x20300 s1 (if clipLimit (s.half l) < q.clips then s2.raise evLrxClip [Word.nat l, Word.nat q.clips] else s2) :=
    Keep.ite (State.raise_keep _ _ _ rfl (hs2.step rfl (Keep.refl _ _))) (hs2.step rfl (Keep.refl _ _))
  rw [← hall.1 .lnRxPower rfl l, State.lineAt_modLrx_self]
  rfl

/-- The estimate's fields, the recommendation and the runs behind it; what the receiver has published stays. -/
theorem State.takeEstimate_lrx (s : State) (l : Nat) (e : Estimate) (dis : Bool) : ∃ est tier short runs,
    ((s.takeEstimate l e dis).lineAt l).lrx = { (s.lineAt l).lrx with
      est := est, echoes := (echoList (s.parI nLrxCfg l 15) e.echoes).length, estDisturbed := dis, recTier := tier
      shortfall := short, lowRuns := runs } := by
  unfold State.takeEstimate
  extract_lets es dEcho target snr x runs tier short pad ws win s0 s1
  refine ⟨ws, tier, short, runs, ?_⟩
  have hs0 : Keep 0x200002 s s0 :=
    Keep.ite (State.freeNext_keep _ rfl (Keep.refl _ _)) (Keep.modSea rfl (State.freeNext_keep _ rfl (Keep.refl _ _)))
  have hs1 : ∀ d, Keep 0x300 s1 (if tier ≠ x.recTier ∨ short ≠ x.shortfall then s1.raise evLrxDemand d else s1) :=
    fun d => Keep.ite (State.raise_frame ..) (Keep.refl _ _)
  rw [← (hs1 _).1 .lnRxPower rfl l, State.lineAt_modLrx_self, ← hs0.1 .lnRxPower rfl l]

/-- The receiver takes its figures and its estimate, the Hinge the recommendation. -/
def State.estimated (s : State) (l : Nat) (q : Quality) (e : Estimate) (rms : List Nat) (dis : Bool) : State :=
  (((s.agcRun l rms).publish l q dis).takeEstimate l e dis).hingeTakes l dis

theorem State.estimated_frame (s : State) (l : Nat) (q : Quality) (e : Estimate) (rms : List Nat) (dis : Bool) :
    Keep 0x303803a1b82 s (s.estimated l q e rms dis) :=
  State.hingeTakes_keep _ _ _ rfl (State.takeEstimate_keep _ _ _ _ rfl (State.publish_keep _ _ _ _ rfl
    (State.agcRun_keep _ _ _ rfl (Keep.refl _ _))))

/-- What a period leaves in the receiver: figures of the gain that the AGC has found, and the echo list. -/
theorem State.estimated_lrx (s : State) (l : Nat) (q : Quality) (e : Estimate) (rms : List Nat) (dis : Bool) :
    ∃ est tier short runs snr, ((s.estimated l q e rms dis).lineAt l).lrx = { ((s.agcRun l rms).lineAt l).lrx with
      q := ((s.agcRun l rms).figures l q).map Word.int, qDisturbed := dis, disturbed := false
      periods := ((s.agcRun l rms).lineAt l).lrx.periods + 1, freq := q.freq, snr := snr, est := est
      echoes := (echoList (s.parI nLrxCfg l 15) e.echoes).length, estDisturbed := dis, recTier := tier, shortfall := short
      lowRuns := runs } := by
  obtain ⟨est, tier, short, runs, hestimate⟩ := ((s.agcRun l rms).publish l q dis).takeEstimate_lrx l e dis
  have hhinge : Keep 0x30380221b82 (((s.agcRun l rms).publish l q dis).takeEstimate l e dis) (s.estimated l q e rms dis) :=
    State.hingeTakes_keep _ _ _ rfl (Keep.refl _ _)
  have hpublish : Keep 0x1a0302 s ((s.agcRun l rms).publish l q dis) :=
    State.publish_keep _ _ _ _ rfl ((s.agcRun_frame l rms).step rfl (Keep.refl _ _))
  refine ⟨est, tier, short, runs, (((s.agcRun l rms).figures l q).map Word.int |>.getD 8 0).toNat, ?_⟩
  rw [← hhinge.1 .lnRxPower rfl l, hestimate, State.publish_lrx, hpublish.parI_eq rfl]

theorem exec_estimatePeriodEnd_of_up {s : State} {l : Nat} (q : Quality) (e : Estimate) (rms : List Nat) (hl : l < s.lines)
    (hpower : (s.lineAt l).lrx.power = .full) (hstate : (s.lineAt l).state = .up ∨ (s.lineAt l).state = .test) :
    exec (.estimatePeriodEnd l q e rms) s =
      .next (s.estimated l q e rms ((s.lineAt l).lrx.disturbed || (s.lineAt l).lrx.los)).follow := by
  have hsix : s.inStep l 6 = false := by rcases hstate with h | h <;> simp [State.inStep, h]
  change execEstimatePeriodEnd l q e rms s = _
  rw [execEstimatePeriodEnd, if_pos ⟨hl, hpower, by tauto⟩]
  simp only [hsix, Bool.false_eq_true, if_false]
  rfl

theorem estimatePeriodEnd_completes (l : Nat) (q : Quality) (e : Estimate) (rms : List Nat) :
    Completes (.estimatePeriodEnd l q e rms)
    (fun s => l < s.lines ∧ (s.lineAt l).lrx.power = .full ∧ ((s.lineAt l).state = .up ∨ (s.lineAt l).state = .test))
    fun s t => (t.lineAt l).lrx.q = ((s.agcRun l rms).figures l q).map Word.int ∧ (t.lineAt l).lrx.freq = q.freq ∧
      (t.lineAt l).lrx.periods = (s.lineAt l).lrx.periods + 1 ∧
      (t.lineAt l).lrx.qDisturbed = ((s.lineAt l).lrx.disturbed || (s.lineAt l).lrx.los) ∧
      (t.lineAt l).lrx.disturbed = false ∧ (t.lineAt l).lrx.estDisturbed = (t.lineAt l).lrx.qDisturbed ∧
      (t.lineAt l).lrx.echoes = (echoList (s.parI nLrxCfg l 15) e.echoes).length := by
  rintro s ⟨hl, hpower, hstate⟩
  refine ⟨_, exec_estimatePeriodEnd_of_up q e rms hl hpower hstate, ?_⟩
  obtain ⟨est, tier, short, runs, snr, hlrx⟩ := s.estimated_lrx l q e rms ((s.lineAt l).lrx.disturbed || (s.lineAt l).lrx.los)
  have hperiods : ((s.agcRun l rms).lineAt l).lrx.periods = (s.lineAt l).lrx.periods := by rw [State.agcRun_eq]
  generalize s.estimated l q e rms _ = u at *
  have hfollow := u.follow_frame
  rw [hfollow.lrx_eq rfl l Lrx.q fun _ => rfl, hfollow.lrx_eq rfl l Lrx.freq fun _ => rfl,
    hfollow.lrx_eq rfl l Lrx.periods fun _ => rfl, hfollow.lrx_eq rfl l Lrx.qDisturbed fun _ => rfl,
    hfollow.lrx_eq rfl l Lrx.disturbed fun _ => rfl, hfollow.lrx_eq rfl l Lrx.estDisturbed fun _ => rfl,
    hfollow.lrx_eq rfl l Lrx.echoes fun _ => rfl, hlrx]
  exact ⟨rfl, rfl, congrArg (· + 1) hperiods, rfl, rfl, rfl, rfl⟩

/-! The period that ends step 6 (R102). -/

/-- The receiver has ended step 6: no retry in a row is left, and it waits for codeword lock. -/
def State.acquired (s : State) (l : Nat) (q : Quality) (e : Estimate) (rms : List Nat) (dis : Bool) : State :=
  ((s.estimated l q e rms dis).toStep l 7).modLrx l fun y => { y with consec := 0 }

theorem exec_estimatePeriodEnd_of_six {s : State} {l : Nat} (q : Quality) (e : Estimate) (rms : List Nat)
    (hsix : s.inStep l 6 = true) (hl : l < s.lines) (hpower : (s.lineAt l).lrx.power = .full) :
    exec (.estimatePeriodEnd l q e rms) s = .next
      ((((s.acquired l q e rms ((s.lineAt l).lrx.disturbed || (s.lineAt l).lrx.los)).raise evLrxAcqDone
        [Word.nat l, Word.nat (s.since (s.lineAt l).lrx.since), Word.nat (s.lineAt l).lrx.retries]).lineTryUp l).follow) := by
  change execEstimatePeriodEnd l q e rms s = _
  rw [execEstimatePeriodEnd, if_pos ⟨hl, hpower, .inr (.inr (.inl hsix))⟩]
  simp only [hsix, if_true]
  rfl

/-- A lane that enters UP ends its acquisition; its receiver keeps everything else. -/
theorem State.lineTryUp_lrx (s : State) (l : Nat) : ∃ n, ((s.lineTryUp l).lineAt l).lrx = { (s.lineAt l).lrx with step := n } := by
  unfold State.lineTryUp
  extract_lets x
  split
  · have hports : ∀ u : State, Keep 0x20020029b82 u u.portsCheck := fun u => State.portsCheck_keep u rfl (Keep.refl _ _)
    exact ⟨0, by rw [(hports _).lineAt_eq rfl, State.lineAt_modLine_self]⟩
  · exact ⟨_, rfl⟩

theorem estimatePeriodEnd_completes_of_six (l : Nat) (q : Quality) (e : Estimate) (rms : List Nat) :
    Completes (.estimatePeriodEnd l q e rms) (fun s => l < s.lines ∧
      ((s.lineAt l).state = .acquire ∨ (s.lineAt l).state = .fault) ∧ (s.lineAt l).stuck = false ∧ (s.lineAt l).lrx.step = 6 ∧
      (s.lineAt l).lrx.los = false ∧ (s.lineAt l).lrx.power = .full ∧ s.hears)
    fun s t => (t.lineAt l).lrx.q = ((s.agcRun l rms).figures l q).map Word.int ∧ (t.lineAt l).lrx.consec = 0 ∧
      Raises s t evLrxAcqDone [Word.nat l, Word.nat (s.since (s.lineAt l).lrx.since), Word.nat (s.lineAt l).lrx.retries] := by
  rintro s ⟨hl, hstate, hstuck, hstep, hlos, hpower, hears⟩
  refine ⟨_, exec_estimatePeriodEnd_of_six q e rms (State.inStep_of hl hstate hstuck hstep hlos hpower) hl hpower, ?_⟩
  generalize ((s.lineAt l).lrx.disturbed || (s.lineAt l).lrx.los) = dis
  obtain ⟨est, tier, short, runs, snr, hlrx⟩ := s.estimated_lrx l q e rms dis
  have hacquired : Keep 0x303803a1b82 s (s.acquired l q e rms dis) :=
    Keep.modLrx (.inl rfl) rfl ((State.toStep_frame _ l 7).step rfl (s.estimated_frame l q e rms dis))
  have hlrx' : ((s.acquired l q e rms dis).lineAt l).lrx =
      { ((s.estimated l q e rms dis).lineAt l).lrx with step := 7, consec := 0 } := by
    rw [State.acquired, State.lineAt_modLrx_self, State.toStep_lrx]
  have hup := ((s.acquired l q e rms dis).raise evLrxAcqDone
    [Word.nat l, Word.nat (s.since (s.lineAt l).lrx.since), Word.nat (s.lineAt l).lrx.retries]).lineTryUp_lrx l
  have hlast : ∀ u : State, Keep 0x2603b9edb8a u (u.lineTryUp l).follow := fun u =>
    State.follow_keep _ rfl (State.lineTryUp_keep _ l rfl (Keep.refl _ _))
  refine ⟨?_, ?_, Raises.of_keep hears hacquired rfl (hlast _) rfl⟩ <;>
    obtain ⟨n, hn⟩ := hup <;>
    rw [(State.raise_frame ..).lineAt_eq rfl, hlrx', hlrx] at hn
  · rw [(State.follow_frame _).lrx_eq rfl l Lrx.q fun _ => rfl, hn]
  · rw [(State.follow_frame _).lrx_eq rfl l Lrx.consec fun _ => rfl, hn]

/-! A window of the background estimator that finds the residual of one slice. -/

theorem residOf_singleton (r : SliceResid) (n : Nat) : residOf [r] n = if n = r.slice then some r else none := by
  by_cases h : n = r.slice
  · simp [residOf, h]
  · simp [residOf, h, Ne.symm h]

/-- A fold over the first numbers of which one alone does something. -/
theorem foldl_range_of_one {σ : Type} {f : σ → Nat → σ} {n N : Nat} (hn : n < N) (hf : ∀ u k, k ≠ n → f u k = u) (u : σ) :
    (List.range N).foldl f u = f u n := by
  have hskip : ∀ (ks : List Nat) (v : σ), n ∉ ks → ks.foldl f v = v := by
    intro ks v hks
    exact List.foldlRecOn (motive := (· = v)) ks f rfl fun w hw k hk => (hf w k fun h => hks (h ▸ hk)).trans hw
  obtain ⟨before, after, hsplit⟩ := List.append_of_mem (List.mem_range.2 hn)
  have hnot := List.nodup_middle.1 (hsplit ▸ List.nodup_range (n := N))
  rw [List.nodup_cons, List.mem_append, not_or] at hnot
  rw [hsplit, List.foldl_append, hskip before u hnot.1.1, List.foldl_cons, hskip after _ hnot.1.2]

/-- Of the first numbers one alone passes. -/
theorem filter_range_of_one {p : Nat → Bool} {n N : Nat} (hn : n < N) (hp : ∀ k, p k = true ↔ k = n) : (List.range N).filter p = [n] := by
  have hp' : p = fun k => decide (k = n) := funext fun k => by rw [Bool.eq_iff_iff, hp, decide_eq_true_iff]
  rw [hp', List.filter_eq, List.count_eq_one_of_mem List.nodup_range (List.mem_range.2 hn), List.replicate_one]

/-- The window has moved the slice of its residual, unless the receiver is frozen. -/
def State.windowed (s : State) (l : Nat) (r : SliceResid) : State :=
  let s0 := s.modLrx l fun y => { y with skewWin := (y.skewWin + 1) % 10 }
  (if (s.lineAt l).lrx.frozen then s0 else s0.moveSlice l ((s.lineAt l).lrx.skewWin == 9) r).adaptFfe l []

/-- The window's verdict on each running slice. -/
def State.judged (s : State) (l : Nat) (r : SliceResid) : State :=
  ((List.range 65).filter fun n => s.sliceRuns l n).foldl
    (fun u n => u.modSlice l n fun y => { y with bad := if n = r.slice ∧ residBad r = true then 1 else 0 }) s

/-- Running slices that break R89 in a second window. -/
def State.failedSlices (s : State) (l : Nat) (r : SliceResid) : List Nat :=
  ((List.range 65).filter fun n => s.sliceRuns l n).filter fun n =>
    decide (n = r.slice ∧ residBad r = true) && decide (1 ≤ (s.sliceAt l n).bad)

theorem exec_backgroundWindowEnd {s : State} {l : Nat} {r : SliceResid} (hl : l < s.lines)
    (hpower : (s.lineAt l).lrx.power = .full) (hr : r.slice < 65) : exec (.backgroundWindowEnd l [r] []) s = .next (
      if ((s.windowed l r).failedSlices l r).isEmpty then (s.windowed l r).judged l r
      else (((s.windowed l r).failedSlices l r).foldl (fun v n => v.sliceFailed l n) ((s.windowed l r).judged l r)).follow) := by
  generalize hu : s.windowed l r = u
  change execBackgroundWindowEnd l [r] [] s = _
  rw [execBackgroundWindowEnd, if_pos ⟨hl, hpower⟩]
  extract_lets s0 s1 s2 active bad failed s3
  have hs1 : s1 = if (s.lineAt l).lrx.frozen then s0 else s0.moveSlice l ((s.lineAt l).lrx.skewWin == 9) r := by
    dsimp only [s1]
    split
    · rfl
    · refine (foldl_range_of_one hr (fun v k hk => ?_) s0).trans ?_
      · rw [residOf_singleton, if_neg hk]
      · rw [residOf_singleton, if_pos rfl]
  have hs2 : s2 = u := (congrArg (fun v : State => v.adaptFfe l []) hs1).trans hu
  have hbad : bad = fun n => decide (n = r.slice ∧ residBad r = true) := by
    funext n
    dsimp only [bad]
    rw [residOf_singleton]
    by_cases h : n = r.slice <;> simp [h]
  have hfailed : failed = u.failedSlices l r := by
    dsimp only [failed, active]
    rw [hs2, hbad]
    rfl
  have hs3 : s3 = u.judged l r := by
    dsimp only [s3, active]
    rw [hs2, hbad]
    simp only [decide_eq_true_eq]
    rfl
  rw [hfailed, hs3]

/-! What the window leaves as it is. -/

theorem Keep.half_eq {m : Nat} {s t : State} (h : Keep m s t) (hm : m.land 0x20000004 = 0) (l : Nat) : t.half l = s.half l := by
  have hport : s.port = t.port := h.1 .port (testBit_of_land_zero hm rfl)
  have hfuses : s.fuses = t.fuses := h.1 .fuses (testBit_of_land_zero hm rfl)
  simp only [State.half, State.lineCfg, State.portOf, State.slots, State.lines, State.portLines, State.portAt, hport, hfuses]

theorem State.adaptFfe_nil_lineAt (s : State) (l : Nat) : (s.adaptFfe l []).lineAt l = s.lineAt l := by
  rw [State.adaptFfe_lineAt, List.foldl_nil, ite_self]

/-- One step against the residual, within the ranges of R81. -/
def Slice.moved (x : Slice) (skew : Bool) (r : SliceResid) : Slice := { x with
  off := clampInt (-256) 256 (x.off + signInt r.off), gain := clampInt (-600) 600 (x.gain + signInt r.gain)
  skew := if skew then clampInt (-120) 120 (x.skew + signInt r.skew) else x.skew }

theorem signInt_eq (x : Int) : signInt x = max (-1) (min 1 x) := by
  unfold signInt
  split
  · omega
  · split <;> omega

/-- In FULL a slice on a position runs, at half rate on the first 32 of them (R64, R71). -/
theorem State.sliceRuns_of_full {s : State} {l n p : Nat} (hpower : (s.lineAt l).lrx.power = .full)
    (hpos : (s.sliceAt l n).pos = some p) (hhalf : s.half l = true → p < 32) : s.sliceRuns l n = true := by
  have hidle : s.sliceIdle l n = false := by
    cases hrate : s.half l with
    | false => simp [State.sliceIdle, hpos, hrate]
    | true => simpa [State.sliceIdle, hpos, hrate] using hhalf hrate
  simp [State.sliceRuns, hpos, hpower, hidle]

section
variable (s : State) (l : Nat) (r : SliceResid)

theorem State.windowed_frame : Keep 0x180000 s (s.windowed l r) :=
  State.adaptFfe_keep _ _ _ rfl (Keep.ite (Keep.modLrx (.inl rfl) rfl (Keep.refl _ _))
    (State.moveSlice_keep _ _ _ _ rfl (Keep.modLrx (.inl rfl) rfl (Keep.refl _ _))))

theorem State.windowed_places : s.PlacesKept (s.windowed l r) := by
  have hwin : s.PlacesKept (s.modLrx l fun y => { y with skewWin := (y.skewWin + 1) % 10 }) :=
    (State.PlacesKept.refl s).modLrx fun _ => ⟨rfl, rfl, rfl⟩
  have hmoved : ∀ skew, s.PlacesKept ((s.modLrx l fun y => { y with skewWin := (y.skewWin + 1) % 10 }).moveSlice l skew r) := by
    intro skew
    unfold State.moveSlice
    split
    · exact hwin.modSlice fun _ => rfl
    · exact hwin
  have hffe : ∀ u : State, s.PlacesKept u → s.PlacesKept (u.adaptFfe l []) := by
    intro u hu
    unfold State.adaptFfe
    split
    · exact hu.modLrx fun _ => ⟨rfl, rfl, rfl⟩
    · exact hu
  unfold State.windowed
  refine hffe _ ?_
  split
  · exact hwin
  · exact hmoved _

/-- Beside its slices the receiver counts the window alone. -/
theorem State.windowed_lrx : ∃ xs, ((s.windowed l r).lineAt l).lrx =
    { (s.lineAt l).lrx with slices := xs, skewWin := ((s.lineAt l).lrx.skewWin + 1) % 10 } := by
  unfold State.windowed
  extract_lets s0
  rw [State.adaptFfe_nil_lineAt]
  have hs0 : (s0.lineAt l).lrx = { (s.lineAt l).lrx with skewWin := ((s.lineAt l).lrx.skewWin + 1) % 10 } := by
    rw [State.lineAt_modLrx_self]
  split
  · exact ⟨_, hs0⟩
  · unfold State.moveSlice
    split
    · exact ⟨_, by rw [State.modSlice, State.lineAt_modLrx_self, hs0]⟩
    · exact ⟨_, hs0⟩

/-- The verdict of a window touches no part of a slice but the count that it keeps (R89). -/
theorem State.judged_slice {α : Type} (n : Nat) (f : Slice → α) (hf : ∀ x b, f { x with bad := b } = f x) :
    f ((s.judged l r).sliceAt l n) = f (s.sliceAt l n) := by
  refine List.foldlRecOn (motive := fun u : State => f (u.sliceAt l n) = f (s.sliceAt l n)) _ _ rfl fun u hu k _ => ?_
  rw [State.sliceAt_modSlice]
  split
  · next h => rw [hf, ← h.2, hu]
  · exact hu

theorem State.judged_frame : Keep 0x100000 s (s.judged l r) :=
  Keep.foldl _ (fun _ _ hu => Keep.modSlice rfl hu) (Keep.refl _ _)

theorem State.judged_lrx : ∃ xs, ((s.judged l r).lineAt l).lrx = { (s.lineAt l).lrx with slices := xs } := by
  refine List.foldlRecOn (motive := fun u : State => ∃ xs, (u.lineAt l).lrx = { (s.lineAt l).lrx with slices := xs }) _ _
    ⟨_, rfl⟩ fun u hu k _ => ?_
  obtain ⟨xs, hu⟩ := hu
  exact ⟨_, by rw [State.modSlice, State.lineAt_modLrx_self, hu]⟩

end

/-- The window moves a running slice by one step. -/
theorem State.windowed_slice {s : State} {l : Nat} {r : SliceResid} (hfrozen : (s.lineAt l).lrx.frozen = false)
    (hruns : s.sliceRuns l r.slice = true) :
    (s.windowed l r).sliceAt l r.slice = (s.sliceAt l r.slice).moved ((s.lineAt l).lrx.skewWin == 9) r := by
  unfold State.windowed
  extract_lets s0
  have hs0 : s0.sliceAt l r.slice = s.sliceAt l r.slice := s.sliceAt_modLrx l l r.slice fun _ => rfl
  have hpower : (s0.lineAt l).lrx.power = (s.lineAt l).lrx.power := by rw [State.lineAt_modLrx_self]
  have hruns0 : s0.sliceRuns l r.slice = true := by
    rw [← hruns, State.sliceRuns, State.sliceRuns, State.sliceIdle, State.sliceIdle, hs0, hpower]
    rfl
  have hffe : ∀ u : State, (u.adaptFfe l []).sliceAt l r.slice = u.sliceAt l r.slice := fun u =>
    congrArg (fun x : Line => tget x.lrx.slices sliceDflt r.slice) (u.adaptFfe_nil_lineAt l)
  rw [hffe, if_neg (by simp [hfrozen]), State.moveSlice, if_pos hruns0, State.sliceAt_modSlice_self, hs0]
  rfl

theorem backgroundWindowEnd_completes (l : Nat) (r : SliceResid) (p : Nat) : Completes (.backgroundWindowEnd l [r] [])
    (fun s => l < s.lines ∧ (s.lineAt l).lrx.power = .full ∧ (s.lineAt l).lrx.frozen = false ∧ r.slice < 65 ∧
      (s.sliceAt l r.slice).pos = some p ∧ (s.half l = true → p < 32) ∧
      r.off.natAbs ≤ 64 ∧ r.gain.natAbs ≤ 600 ∧ r.skew.natAbs ≤ 600 ∧ 10 * r.same ≤ 9 * r.codes)
    fun s t => (t.sliceAt l r.slice).off = max (-256) (min 256 ((s.sliceAt l r.slice).off + max (-1) (min 1 r.off))) ∧
      (t.sliceAt l r.slice).gain = max (-600) (min 600 ((s.sliceAt l r.slice).gain + max (-1) (min 1 r.gain))) ∧
      (t.sliceAt l r.slice).skew = (if (s.lineAt l).lrx.skewWin = 9
        then max (-120) (min 120 ((s.sliceAt l r.slice).skew + max (-1) (min 1 r.skew))) else (s.sliceAt l r.slice).skew) ∧
      OnlyChanges [.lnRx, .lnRxPower] s t := by
  rintro s ⟨hl, hpower, hfrozen, hr, hpos, hhalf, hoff, hgain, hskew, hsame⟩
  have hgood : residBad r = false := by simp [residBad]; omega
  have hnone : (s.windowed l r).failedSlices l r = [] := by simp [State.failedSlices, hgood]
  refine ⟨(s.windowed l r).judged l r, ?_, ?_⟩
  · rw [exec_backgroundWindowEnd hl hpower hr, hnone]
    rfl
  · have hslice := State.windowed_slice hfrozen (State.sliceRuns_of_full hpower hpos hhalf)
    have hjudged := fun {α : Type} => (s.windowed l r).judged_slice (α := α) l r r.slice
    beta_reduce
    rw [hjudged Slice.off fun _ _ => rfl, hjudged Slice.gain fun _ _ => rfl, hjudged Slice.skew fun _ _ => rfl, hslice, ← signInt_eq,
      ← signInt_eq, ← signInt_eq]
    refine ⟨rfl, rfl, ?_, ((State.judged_frame ..).step rfl (s.windowed_frame l r)).among rfl⟩
    simp [Slice.moved, clampInt]

/-! An active slice fails (R90). -/

/-- The transom, where it is healthy, idle and calibrated, is the spare. -/
theorem State.substSlice_of_transom {s : State} {l k : Nat} (hk : k < 65) (htransom : (s.lineAt l).lrx.transom = k)
    (hpos : (s.sliceAt l k).pos = none) (hhealth : (s.sliceAt l k).health = .ok) (hcal : (s.sliceAt l k).needsCal = false) :
    s.substSlice l = some k := by
  unfold State.substSlice
  extract_lets ok t
  have ht : t = k := htransom
  have hmem : ok.contains t = true := by
    simp [ok, ht, hk, State.sliceSpare, State.sliceIdle, hpos, hhealth, hcal]
  rw [if_pos hmem, ht]

/-- The spare `k` stands on position `p` of the failed slice `n`. -/
def State.substituted (s : State) (l n k p : Nat) : State :=
  (((((s.modSlice l n fun x => { x with pos := none, health := .test, bad := 0 }).modSlice l k fun x =>
    { x with pos := some p, bad := 0 }).modLrx l fun x => { x with disturbed := true }).countSubst l).bump gLrx l 5)

theorem State.sliceFailed_of_spare {s : State} {l n k p : Nat} (hpos : (s.sliceAt l n).pos = some p)
    (hrot : (s.lineAt l).lrx.rotStep = 0) (hspare : s.substSlice l = some k) : s.sliceFailed l n =
      ((s.substituted l n k p).raise evLrxSliceSubst [Word.nat l, Word.nat n, Word.nat k, Word.nat p]).report .slice l n srcTest := by
  unfold State.sliceFailed
  simp only [hpos, hrot, hspare, ne_eq, not_true_eq_false, if_false]
  rfl

theorem State.substituted_frame (s : State) (l n k p : Nat) : Keep 0x2000001a0000 s (s.substituted l n k p) :=
  Keep.bump rfl (State.countSubst_keep _ _ rfl (Keep.modLrx (.inl rfl) rfl (Keep.modSlice rfl (Keep.modSlice rfl (Keep.refl _ _)))))

/-- Where the slices of a substitution stand; its period is disturbed. -/
theorem State.substituted_spec (s : State) (l : Nat) {n k : Nat} (p : Nat) (hne : k ≠ n) :
    ((s.substituted l n k p).sliceAt l k).pos = some p ∧ ((s.substituted l n k p).sliceAt l n).pos = none ∧
      ((s.substituted l n k p).sliceAt l n).health = .test ∧ ((s.substituted l n k p).lineAt l).lrx.disturbed = true := by
  unfold State.substituted
  have hcount : ∀ u : State, Keep 0x200000020000 u ((u.countSubst l).bump gLrx l 5) := fun u =>
    Keep.bump rfl (State.countSubst_keep _ _ rfl (Keep.refl _ _))
  have hdisturbed : ∀ (u : State) (j : Nat), (u.modLrx l fun x => { x with disturbed := true }).sliceAt l j = u.sliceAt l j :=
    fun u j => u.sliceAt_modLrx l l j fun _ => rfl
  rw [(hcount _).sliceAt_eq rfl, (hcount _).sliceAt_eq rfl, ← (hcount _).1 .lnRxPower rfl l, hdisturbed, hdisturbed, State.sliceAt_modSlice_self,
    State.sliceAt_modSlice_other _ (Ne.symm hne), State.sliceAt_modSlice_self, State.lineAt_modLrx_self]
  exact ⟨rfl, rfl, rfl, rfl⟩

theorem backgroundWindowEnd_completes_of_bad (l : Nat) (r : SliceResid) (p k : Nat) : Completes (.backgroundWindowEnd l [r] [])
    (fun s => l < s.lines ∧ (s.lineAt l).lrx.power = .full ∧ r.slice < 65 ∧
      (s.sliceAt l r.slice).pos = some p ∧ (s.half l = true → p < 32) ∧
      (64 < r.off.natAbs ∨ 600 < r.gain.natAbs ∨ 600 < r.skew.natAbs ∨ 9 * r.codes < 10 * r.same) ∧
      1 ≤ (s.sliceAt l r.slice).bad ∧ (s.lineAt l).lrx.rotStep = 0 ∧ (s.lineAt l).lrx.transom = k ∧ k ≠ r.slice ∧ k < 65 ∧
      (s.sliceAt l k).pos = none ∧ (s.sliceAt l k).health = .ok ∧ (s.sliceAt l k).needsCal = false ∧ s.hears)
    fun s t => Raises s t evLrxSliceSubst [Word.nat l, Word.nat r.slice, Word.nat k, Word.nat p] ∧
      (t.sliceAt l k).pos = some p ∧ (t.sliceAt l r.slice).pos = none ∧ (t.sliceAt l r.slice).health = .test ∧
      (t.lineAt l).lrx.disturbed = true := by
  rintro s ⟨hl, hpower, hr, hpos, hhalf, hbreaks, hagain, hrot, htransom, hne, hk, hkpos, hkhealth, hkcal, hears⟩
  have hbad : residBad r = true := by simpa [residBad] using hbreaks
  have hplaces := s.windowed_places l r
  obtain ⟨xs, hlrx⟩ := s.windowed_lrx l r
  have hframe := s.windowed_frame l r
  have hexec := exec_backgroundWindowEnd hl hpower hr
  generalize s.windowed l r = u at *
  have hupos : ∀ n, (u.sliceAt l n).pos = (s.sliceAt l n).pos := fun n => hplaces.slice_eq l n Slice.pos fun _ => rfl
  have hubad : (u.sliceAt l r.slice).bad = (s.sliceAt l r.slice).bad := hplaces.slice_eq l r.slice Slice.bad fun _ => rfl
  have hfailed : u.failedSlices l r = [r.slice] := by
    have hruns : u.sliceRuns l r.slice = true := State.sliceRuns_of_full (by rw [hlrx]; exact hpower)
      ((hupos _).trans hpos) (by rwa [hframe.half_eq rfl])
    rw [State.failedSlices, List.filter_filter]
    refine filter_range_of_one hr fun n => ⟨fun h => by simp at h; tauto, ?_⟩
    rintro rfl
    simp [hruns, hbad, hubad, hagain]
  obtain ⟨ys, hvlrx⟩ := u.judged_lrx l r
  have hvframe := (u.judged_frame l r).step (m := 0x180000) rfl hframe
  have hvslice := fun {α : Type} => u.judged_slice (α := α) l r
  rw [hfailed] at hexec
  refine ⟨_, hexec, ?_⟩
  simp only [List.isEmpty_cons, Bool.false_eq_true, if_false, List.foldl_cons, List.foldl_nil]
  generalize u.judged l r = v at *
  have hspare : v.substSlice l = some k := by
    refine State.substSlice_of_transom hk (by rw [hvlrx, hlrx]; exact htransom) ?_ ?_ ?_
    · rw [hvslice k Slice.pos fun _ _ => rfl, hupos, hkpos]
    · rw [hvslice k Slice.health fun _ _ => rfl, hplaces.slice_eq l k Slice.health fun _ => rfl, hkhealth]
    · rw [hvslice k Slice.needsCal fun _ _ => rfl, hplaces.slice_eq l k Slice.needsCal fun _ => rfl, hkcal]
  have hvpos : (v.sliceAt l r.slice).pos = some p := by rw [hvslice r.slice Slice.pos fun _ _ => rfl, hupos, hpos]
  rw [State.sliceFailed_of_spare hvpos (by rw [hvlrx, hlrx]; exact hrot) hspare]
  obtain ⟨hspot, hvacant, htest, hdisturbed⟩ := v.substituted_spec l p hne
  have hbefore := (v.substituted_frame l r.slice k p).step (m := 0x2000001a0000) rfl (hvframe.step rfl (Keep.refl _ _))
  generalize v.substituted l r.slice k p = w at *
  have hreport : Keep 0x10000000300 w ((w.raise evLrxSliceSubst [Word.nat l, Word.nat r.slice, Word.nat k, Word.nat p]).report
      .slice l r.slice srcTest) := State.report_keep _ _ _ _ _ rfl (State.raise_keep _ _ _ rfl (Keep.refl _ _))
  have hafter : Keep 0x3601b905b08 (w.raise evLrxSliceSubst [Word.nat l, Word.nat r.slice, Word.nat k, Word.nat p])
      (State.report _ .slice l r.slice srcTest).follow := State.follow_keep _ rfl (State.report_keep _ _ _ _ _ rfl (Keep.refl _ _))
  have hend := State.follow_places ((State.PlacesKept.refl w).of_keep hreport rfl)
  refine ⟨Raises.of_keep hears hbefore rfl hafter rfl, ?_, ?_, ?_, ?_⟩
  · rw [hend.slice_eq l k Slice.pos fun _ => rfl, hspot]
  · rw [hend.slice_eq l r.slice Slice.pos fun _ => rfl, hvacant]
  · rw [hend.slice_eq l r.slice Slice.health fun _ => rfl, htest]
  · rw [(State.follow_frame _).lrx_eq rfl l Lrx.disturbed fun _ => rfl, hreport.lineAt_eq rfl, hdisturbed]

/-- Settles O8, from one lemma for each of its four clauses. -/
theorem estimatesAndSlicesComplete : Obligations.EstimatesAndSlicesComplete :=
  ⟨estimatePeriodEnd_completes, estimatePeriodEnd_completes_of_six, backgroundWindowEnd_completes, backgroundWindowEnd_completes_of_bad⟩

end Sys2Proof.Machine
end

section
/-! PROOFS. Sample capture (O9; R114 to R118, R540), on what a store leaves in memory. -/

namespace Sys2Proof.Machine

/-! Tables in parts. -/

section
variable {α : Type} {xs ys : Tbl α} (d : Nat → α) {j : Nat}

theorem tget_of_absent (h : ∀ p ∈ xs, p.1 ≠ j) : tget xs d j = d j := by
  induction xs with
  | nil => rfl
  | cons p ps ih =>
    rw [tget_cons, if_neg (h p List.mem_cons_self)]
    exact ih fun q hq => h q (List.mem_cons_of_mem _ hq)

theorem tget_append_of_absent_left (h : ∀ p ∈ xs, p.1 ≠ j) : tget (xs ++ ys) d j = tget ys d j := by
  induction xs with
  | nil => rfl
  | cons p ps ih =>
    rw [List.cons_append, tget_cons, if_neg (h p List.mem_cons_self)]
    exact ih fun q hq => h q (List.mem_cons_of_mem _ hq)

theorem tget_append_of_absent_right (h : ∀ p ∈ ys, p.1 ≠ j) : tget (xs ++ ys) d j = tget xs d j := by
  induction xs with
  | nil => exact tget_of_absent d h
  | cons p ps ih => rw [List.cons_append, tget_cons, tget_cons, ih]

/-- A filter that keeps an index keeps its value. -/
theorem tget_filter {keep : Nat × α → Bool} (h : ∀ v, keep (j, v) = true) : tget (xs.filter keep) d j = tget xs d j := by
  induction xs with
  | nil => rfl
  | cons p ps ih =>
    by_cases hp : keep p = true
    · rw [List.filter_cons_of_pos hp, tget_cons, tget_cons, ih]
    · have hne : p.1 ≠ j := by
        rintro rfl
        exact hp (h p.2)
      rw [List.filter_cons_of_neg hp, ih, tget_cons, if_neg hne]

end

/-! Stores. -/

theorem tget_cellsOf (a i : Nat) (bs : List Byte) : tget (cellsOf a bs) (fun _ => 0) (a + i) = bs.getD i 0 := by
  induction bs generalizing a i with
  | nil => rfl
  | cons b bs ih =>
    unfold cellsOf
    cases i with
    | zero =>
      split
      · next hb =>
        rw [tget_of_absent]
        · exact hb.symm
        · exact fun p hp => by have := (cellsOf_range (a + 1) bs p hp).1; omega
      · rw [tget_cons, if_pos (Nat.add_zero a).symm]
        rfl
    | succ i =>
      have hnext := ih (a + 1) i
      rw [Nat.add_right_comm, Nat.add_assoc] at hnext
      split
      · exact hnext
      · rw [tget_cons, if_neg (by dsimp only; omega)]
        exact hnext

/-- A store puts its bytes in their places and leaves every other byte as it is. -/
theorem tget_spliceCells (m : List Host.Cell) (a j : Nat) (bs : List Byte) : tget (spliceCells m a bs) (fun _ => 0) j =
    if a ≤ j ∧ j < a + bs.length then bs.getD (j - a) 0 else tget m (fun _ => 0) j := by
  unfold spliceCells
  have hlow : a ≤ j → ∀ p ∈ m.filter (fun c => decide (c.1 < a)), p.1 ≠ j := fun h p hp => by
    have := of_decide_eq_true (List.mem_filter.1 hp).2
    omega
  have hcells : ¬ (a ≤ j ∧ j < a + bs.length) → ∀ p ∈ cellsOf a bs, p.1 ≠ j := fun h p hp => by
    have := cellsOf_range a bs p hp
    omega
  have hhigh : j < a + bs.length → ∀ p ∈ m.filter (fun c => decide (a + bs.length ≤ c.1)), p.1 ≠ j := fun h p hp => by
    have := of_decide_eq_true (List.mem_filter.1 hp).2
    omega
  split
  · next hin =>
    rw [tget_append_of_absent_right _ (hhigh hin.2), tget_append_of_absent_left _ (hlow hin.1)]
    obtain ⟨i, rfl⟩ := Nat.exists_eq_add_of_le hin.1
    rw [tget_cellsOf, Nat.add_sub_cancel_left]
  · next hout =>
    by_cases hj : j < a
    · rw [tget_append_of_absent_right _ (hhigh (by omega)), tget_append_of_absent_right _ (hcells hout)]
      exact tget_filter _ fun _ => decide_eq_true hj
    · rw [List.append_assoc, tget_append_of_absent_left _ (hlow (by omega)), tget_append_of_absent_left _ (hcells hout)]
      exact tget_filter _ fun _ => decide_eq_true (by dsimp only; omega)

theorem Keep.memByte_eq {m : Nat} {s t : State} (h : Keep m s t) (hm : m.testBit 34 = false) (a : Nat) :
    t.memByte a = s.memByte a := congrArg (fun x : List Host.Cell => tget x (fun _ => 0) a) (h.1 .memData hm).symm

theorem State.memByte_memPut (s : State) (a j : Nat) (bs : List Byte) : (s.memPut a bs).memByte j =
    if a ≤ j ∧ j < a + bs.length then bs.getD (j - a) 0 else s.memByte j :=
  ((State.pmcEvent_frame ..).memByte_eq rfl j).trans (tget_spliceCells s.mem.data a j bs)

theorem State.memByte_memPut_of_lt (s : State) (a : Nat) {i : Nat} {bs : List Byte} (h : i < bs.length) :
    (s.memPut a bs).memByte (a + i) = bs.getD i 0 := by
  rw [State.memByte_memPut, if_pos (by omega), Nat.add_sub_cancel_left]

theorem State.memPut_frame (s : State) (a : Nat) (bs : List Byte) : Keep 0x20c00000300 s (s.memPut a bs) :=
  s.memPut_keep a bs rfl (Keep.refl _ _)

/-! The begin of a capture and of a segment. -/

theorem captureStartCondition_completes : Completes .captureStartCondition (fun s => s.cap.armed ∧ s.cap.running = false ∧
      (s.cap.start = 0 ∨ (s.cap.start = 1 ∧ s.cap.startAt.toNat ≤ s.tku.bcnt.toNat) ∨
        (s.cap.start = 2 ∧ (s.lineAt s.cap.lane).lrx.los = false)))
    fun s t => t.cap = { s.cap with armed := false, running := true } ∧ OnlyChanges [.cap] s t := by
  rintro s ⟨harmed, hrunning, hmet⟩
  refine ⟨{ s with cap := { s.cap with armed := false, running := true } }, ?_, rfl,
    Keep.among (m := 0x200000000000) (Keep.set_cap rfl (Keep.refl _ _)) rfl⟩
  change execCaptureStartCondition s = _
  rw [execCaptureStartCondition, if_pos ⟨harmed, by simp [hrunning], by simpa using hmet⟩]

theorem captureSegmentStart_completes : Completes .captureSegmentStart (fun s => s.cap.running ∧ s.cap.taking = false)
    fun s t => t.cap = { s.cap with taking := true, segAt := s.tku.bcnt, substs := 0 } ∧ OnlyChanges [.cap] s t := by
  rintro s ⟨hrunning, htaking⟩
  refine ⟨{ s with cap := { s.cap with taking := true, segAt := s.tku.bcnt, substs := 0 } }, ?_, rfl,
    Keep.among (m := 0x200000000000) (Keep.set_cap rfl (Keep.refl _ _)) rfl⟩
  change execCaptureSegmentStart s = _
  rw [execCaptureSegmentStart, if_pos ⟨hrunning, by simp [htaking]⟩]

/-! A segment is drained. -/

/-- Offset of the segment in the capture region. -/
def Cap.rel (c : Cap) : Nat := c.offset + c.done * c.segLen

/-- The clip count of a segment (R117). -/
def Cap.clipCount (c : Cap) (bs : List Byte) (clips : Nat) : Nat :=
  if c.raw then (bs.filter fun b => b == 0x80 || b == 0x7F).length else clips

/-- The segment and its descriptor are written, and the segment is counted (R116, R117). -/
def State.drained (s : State) (c : Cap) (bs : List Byte) (clips : Nat) : State :=
  { (s.memPut (0x60000000 + c.rel) bs).memPut (0x5F000000 + 32 * (c.rel / 4096)) (capDescriptor c (c.clipCount bs clips)) with
    cap := { c with taking := false, done := c.done + 1 } }

theorem exec_captureSegmentDrained {s : State} (bs : List Byte) (clips : Nat) (hrunning : s.cap.running = true)
    (htaking : s.cap.taking = true) (hlen : bs.length = s.cap.segLen) (hmore : s.cap.done + 1 ≠ s.cap.count) :
    exec (.captureSegmentDrained bs clips []) s = .next (s.drained s.cap bs clips) := by
  change execCaptureSegmentDrained bs clips [] s = _
  rw [execCaptureSegmentDrained, if_pos ⟨hrunning, htaking, hlen⟩]
  simp only [hmore, if_false]
  rfl

theorem exec_captureSegmentDrained_of_bad {s : State} (bs : List Byte) (clips w row : Nat) (hrunning : s.cap.running = true)
    (htaking : s.cap.taking = true) (hlen : bs.length = s.cap.segLen) (hmore : s.cap.done + 1 ≠ s.cap.count) :
    exec (.captureSegmentDrained bs clips [{ region := 2, addr := w, row := row, syn := none }]) s =
      .next ((s.sramRead { region := 2, addr := w, row := row, syn := none }).drained s.cap
        (bs.mapIdx fun i b => if [w].contains (i / 4) then 0 else b) clips) := by
  change execCaptureSegmentDrained bs clips _ s = _
  rw [execCaptureSegmentDrained, if_pos ⟨hrunning, htaking, hlen⟩]
  simp only [hmore, if_false]
  rfl

theorem exec_captureSegmentDrained_of_last {s : State} (bs : List Byte) (clips : Nat) (hrunning : s.cap.running = true)
    (htaking : s.cap.taking = true) (hlen : bs.length = s.cap.segLen) (hlast : s.cap.done + 1 = s.cap.count) :
    exec (.captureSegmentDrained bs clips []) s = .next ((({ s.drained s.cap bs clips with
      cap := { s.cap with taking := false, done := s.cap.done + 1, running := false, ticket := none } }).finishOpt s.cap.ticket cDone 0
        (.line s.cap.lane)).raise evLrxCaptureDone [Word.nat s.cap.lane, Word.nat (s.cap.done + 1)]) := by
  change execCaptureSegmentDrained bs clips [] s = _
  rw [execCaptureSegmentDrained, if_pos ⟨hrunning, htaking, hlen⟩]
  simp only [hlast, if_true]
  rw [← hlast]
  rfl

theorem State.drained_frame (s : State) (c : Cap) (bs : List Byte) (clips : Nat) : Keep 0x220c00000300 s (s.drained c bs clips) :=
  Keep.set_cap rfl (State.memPut_keep _ _ _ rfl (State.memPut_keep _ _ _ rfl (Keep.refl _ _)))

theorem leBytes_length (n v : Nat) : (leBytes n v).length = n := by simp [leBytes]

theorem capDescriptor_length (c : Cap) (n : Nat) : (capDescriptor c n).length = 32 := by simp [capDescriptor, leBytes_length]

/-- A list that zeros follow reads zeros beyond its end. -/
theorem getD_append_replicate (xs : List Byte) (n i : Nat) : (xs ++ List.replicate n 0).getD i 0 = xs.getD i 0 := by
  simp only [List.getD_eq_getElem?_getD, List.getElem?_append, List.getElem?_replicate]
  split
  · rfl
  · next h =>
    rw [List.getElem?_eq_none (by omega)]
    split <;> rfl

/-- Descriptors lie below the capture region, which holds the segments. -/
theorem Cap.descriptor_below {c : Cap} (hlen : 4096 ≤ c.segLen) (hroom : c.rel + c.segLen ≤ capRegion) :
    0x5F000000 + 32 * (c.rel / 4096) + 32 ≤ 0x60000000 := by
  unfold capRegion at hroom
  omega

/-- The bytes of a segment that has been drained. -/
theorem State.drained_segment (s : State) {c : Cap} {bs : List Byte} (clips : Nat) (hlen : 4096 ≤ c.segLen)
    (hroom : c.rel + c.segLen ≤ capRegion) {i : Nat} (hi : i < bs.length) :
    (s.drained c bs clips).memByte (0x60000000 + c.rel + i) = bs.getD i 0 := by
  have hbelow := Cap.descriptor_below hlen hroom
  change (State.memPut _ _ _).memByte _ = _
  rw [State.memByte_memPut, capDescriptor_length, if_neg (by omega), State.memByte_memPut_of_lt s _ hi]

/-- The bytes of its descriptor. -/
theorem State.drained_descriptor (s : State) (c : Cap) (bs : List Byte) (clips : Nat) {i : Nat} (hi : i < 32) :
    (s.drained c bs clips).memByte (0x5F000000 + 32 * (c.rel / 4096) + i) = (capDescriptor c (c.clipCount bs clips)).getD i 0 :=
  State.memByte_memPut_of_lt _ _ (by rwa [capDescriptor_length])

theorem captureSegmentDrained_completes (bs : List Byte) (clips : Nat) : Completes (.captureSegmentDrained bs clips [])
    (fun s => s.cap.running ∧ s.cap.taking ∧ bs.length = s.cap.segLen ∧ s.cap.done + 1 ≠ s.cap.count ∧ 4096 ≤ s.cap.segLen ∧
      s.cap.offset + s.cap.done * s.cap.segLen + s.cap.segLen ≤ capRegion)
    fun s t => t.cap.done = s.cap.done + 1 ∧ t.cap.running = true ∧ t.cap.taking = false ∧
      (∀ i, i < s.cap.segLen → t.memByte (0x60000000 + (s.cap.offset + s.cap.done * s.cap.segLen) + i) = bs.getD i 0) ∧
      (∀ i, i < 32 → t.memByte (0x5F000000 + 32 * ((s.cap.offset + s.cap.done * s.cap.segLen) / 4096) + i) =
        (leBytes 8 s.cap.segAt.toNat ++ leBytes 4 s.cap.segLen ++ leBytes 1 (if s.cap.raw then 0 else 1) ++
          leBytes 1 (min s.cap.substs 255) ++ leBytes 2 (min (if s.cap.raw
            then (bs.filter fun b => b == 0x80 || b == 0x7F).length else clips) 65535)).getD i 0) ∧
      OnlyChanges [.cap, .memData, .memRest, .evRaised, .evQueue, .pmcCtr] s t := by
  rintro s ⟨hrunning, htaking, hlen, hmore, hseg, hroom⟩
  refine ⟨_, exec_captureSegmentDrained bs clips hrunning htaking hlen hmore, rfl, hrunning, rfl, fun i hi => ?_, fun i hi => ?_,
    (s.drained_frame s.cap bs clips).among rfl⟩
  · exact s.drained_segment clips hseg hroom (hlen ▸ hi)
  · exact (s.drained_descriptor s.cap bs clips hi).trans (getD_append_replicate _ 16 i)

/-! A word of the buffer cannot be corrected (R538, R540). -/

/-- Of the memory statistics a row's report counts the full queues alone (R544). -/
theorem State.reportRow_statAt_other (s : State) (g row h j : Nat) {i : Nat} (hi : i % 32 ≠ 8) :
    (s.reportRow g row).statAt h j i = s.statAt h j i := by
  unfold State.reportRow
  extract_lets x
  split
  · rfl
  split
  · exact (State.rowTest_keep s g row rfl (Keep.refl 0x800000000 s)).statAt_eq rfl ..
  split
  · rfl
  · exact State.statAt_bump_other s gMem g h j hi

/-- The read counts the word, raises its event and reports its row. -/
theorem State.captureRead_spec (s : State) (w row : Nat) :
    (s.sramRead { region := 2, addr := w, row := row, syn := none }).statAt gMem 2 3 = (s.statAt gMem 2 3).add 1 ∧
      Keep 0x800020000 ((s.bump gMem 2 3).raise evMemUncorr [2, Word.nat w, 6])
        (s.sramRead { region := 2, addr := w, row := row, syn := none }) := by
  change (State.reportSram ((s.bump gMem 2 3).raise evMemUncorr [2, Word.nat w, 6]) _).statAt gMem 2 3 = _ ∧
    Keep _ _ (State.reportSram _ _)
  refine ⟨?_, State.reportSram_frame _ (u := ⟨2, w, row, none⟩) (show 2 ≠ 3 by decide) (show 2 ≠ 4 by decide)⟩
  have hcount : ((s.bump gMem 2 3).raise evMemUncorr [2, Word.nat w, 6]).statAt gMem 2 3 = (s.statAt gMem 2 3).add 1 := by
    rw [(State.raise_frame ..).statAt_eq rfl, State.statAt_bump_self]
  unfold State.reportSram
  split
  · exact hcount
  · rw [if_neg (show 2 ≠ 3 by decide), if_neg (show 2 ≠ 4 by decide), State.reportRow_statAt_other _ _ _ _ _ (by decide), hcount]

theorem captureSegmentDrained_completes_of_bad (bs : List Byte) (clips w row : Nat) :
    Completes (.captureSegmentDrained bs clips [{ region := 2, addr := w, row := row, syn := none }])
    (fun s => s.cap.running ∧ s.cap.taking ∧ bs.length = s.cap.segLen ∧ s.cap.done + 1 ≠ s.cap.count ∧ 4096 ≤ s.cap.segLen ∧
      s.cap.offset + s.cap.done * s.cap.segLen + s.cap.segLen ≤ capRegion ∧ s.hears)
    fun s t => (∀ i, i < s.cap.segLen → t.memByte (0x60000000 + (s.cap.offset + s.cap.done * s.cap.segLen) + i) =
        if i / 4 = w then 0 else bs.getD i 0) ∧
      t.statAt gMem 2 3 = (s.statAt gMem 2 3).add 1 ∧ Raises s t evMemUncorr [2, Word.nat w, 6] := by
  rintro s ⟨hrunning, htaking, hlen, hmore, hseg, hroom, hears⟩
  refine ⟨_, exec_captureSegmentDrained_of_bad bs clips w row hrunning htaking hlen hmore, fun i hi => ?_, ?_, ?_⟩
  · have hi' : i < bs.length := hlen ▸ hi
    refine (State.drained_segment _ clips hseg hroom (by rwa [List.length_mapIdx])).trans ?_
    simp [List.getD_eq_getElem?_getD, hi']
  · rw [(State.drained_frame ..).statAt_eq rfl, (s.captureRead_spec w row).1]
  · have hbump : Keep 0x20000 s (s.bump gMem 2 3) := Keep.bump rfl (Keep.refl _ _)
    exact Raises.of_keep (n := 0x220c00020300) hears hbump rfl ((State.drained_frame ..).step rfl
      ((s.captureRead_spec w row).2.step rfl (Keep.refl _ _))) rfl

/-! The last segment (R118). -/

theorem captureSegmentDrained_completes_of_last (bs : List Byte) (clips : Nat) : Completes (.captureSegmentDrained bs clips [])
    (fun s => s.cap.running ∧ s.cap.taking ∧ bs.length = s.cap.segLen ∧ s.cap.done + 1 = s.cap.count ∧ s.hears)
    fun s t => t.cap.done = s.cap.done + 1 ∧ t.cap.running = false ∧
      Raises s t evLrxCaptureDone [Word.nat s.cap.lane, Word.nat (s.cap.done + 1)] := by
  rintro s ⟨hrunning, htaking, hlen, hlast, hears⟩
  refine ⟨_, exec_captureSegmentDrained_of_last bs clips hrunning htaking hlen hlast, ?_⟩
  have hends : Keep 0x220c00000300 s { s.drained s.cap bs clips with
      cap := { s.cap with taking := false, done := s.cap.done + 1, running := false, ticket := none } } :=
    Keep.set_cap rfl (s.drained_frame s.cap bs clips)
  generalize hu : ({ s.drained s.cap bs clips with
    cap := { s.cap with taking := false, done := s.cap.done + 1, running := false, ticket := none } } : State) = u at *
  have hcap : u.cap = { s.cap with taking := false, done := s.cap.done + 1, running := false, ticket := none } := by rw [← hu]
  have hfinish : Keep 0x220e00001b80 s (u.finishOpt s.cap.ticket cDone 0 (.line s.cap.lane)) :=
    State.finishOpt_keep _ _ _ _ _ rfl (hends.step rfl (Keep.refl _ _))
  have hafter : Keep 0x20000001b80 u ((u.finishOpt s.cap.ticket cDone 0 (.line s.cap.lane)).raise evLrxCaptureDone
      [Word.nat s.cap.lane, Word.nat (s.cap.done + 1)]) :=
    State.raise_keep _ _ _ rfl (State.finishOpt_keep _ _ _ _ _ rfl (Keep.refl _ _))
  have hcap' : u.cap = _ := hafter.1 .cap rfl
  beta_reduce
  rw [← hcap', hcap]
  exact ⟨rfl, rfl, Raises.of_keep hears hfinish rfl (Keep.refl 0 _) rfl⟩

/-- Settles O9, from one lemma for each of its five clauses. -/
theorem sampleCaptureCompletes : Obligations.SampleCaptureCompletes :=
  ⟨captureStartCondition_completes, captureSegmentStart_completes, captureSegmentDrained_completes,
    captureSegmentDrained_completes_of_bad, captureSegmentDrained_completes_of_last⟩

end Sys2Proof.Machine
end

section
/-! PROOFS. What failures, abandoned runs and the rules that follow a change leave of the calibration blocks (R588, R597). -/

namespace Sys2Proof.Machine

theorem Keep.calAt_eq {m : Nat} {s t : State} (h : Keep m s t) (hm : m.testBit 38 = false) (b : Nat) : t.calAt b = s.calAt b :=
  congrArg (fun x : Tbl Cal => tget x (fun _ => {}) b) (h.1 .cal hm).symm

/-- A lane is held in FAULT. -/
theorem Keep.stick {m : Nat} {s t : State} (h : Keep m s t) (hm : m.testBit 18 = true) (l : Nat) :
    Keep m s (t.modLine l fun y => { y with stuck := true }) :=
  Keep.modLine (.inl hm) (.inr fun _ => rfl) (.inr fun _ => rfl) (.inr fun _ => rfl) (.inr fun _ => rfl) (.inr fun _ => rfl)
    (.inr fun _ => rfl) (.inr fun _ => ⟨rfl, rfl⟩) h

/-- A block but for its due state and the run in progress. -/
def Cal.kept (x : Cal) : Cal :=
  { x with running := false, suspended := false, due := false, cause := 0, dueAt := 0, overdue := false, everDue := false
           pair := 0, pairs := [], abandoned := [] }

/-- Every block has its counts, flags and coefficients, and no run has begun. -/
def State.CalKept (s t : State) : Prop :=
  ∀ b, (t.calAt b).kept = (s.calAt b).kept ∧ ((s.calAt b).running = false → (t.calAt b).running = false)

namespace State.CalKept
variable {m : Nat} {s t u : State}

theorem refl (s : State) : s.CalKept s := fun _ => ⟨rfl, id⟩

theorem of_keep (h : s.CalKept t) (hu : Keep m t u) (hm : m.testBit 38 = false) : s.CalKept u := fun b => by
  rw [hu.calAt_eq hm]
  exact h b

theorem modCal {b : Nat} {f : Cal → Cal} (hf : ∀ x, (f x).kept = x.kept ∧ (x.running = false → (f x).running = false))
    (h : s.CalKept t) : s.CalKept (t.modCal b f) := fun c => by
  rw [State.calAt_modCal]
  split
  · next hc =>
    obtain ⟨hkept, hrunning⟩ := h b
    rw [hc]
    exact ⟨(hf _).1.trans hkept, fun hb => (hf _).2 (hrunning hb)⟩
  · exact h c

/-- A field of a block that is no part of its due state or of its run. -/
theorem cal_eq {α : Type} (h : s.CalKept t) (b : Nat) (f : Cal → α) (hf : ∀ x : Cal, f x.kept = f x) : f (t.calAt b) = f (s.calAt b) := by
  rw [← hf, (h b).1, hf]

end State.CalKept

/-- An abandoned run is no longer in progress; the block stays due (R597). -/
theorem State.calAbandon_cases (s : State) (b cause : Nat) : s.calAbandon b cause = s ∨
    ∃ f : Cal → Cal, (∀ x, (f x).kept = x.kept ∧ (f x).running = false) ∧ Keep 0x2000100300 (s.modCal b f) (s.calAbandon b cause) := by
  unfold State.calAbandon
  extract_lets x s1 y back ocu s3 ocu' s2
  split
  · refine .inr ⟨_, ?_, (?_ : Keep 0x2000100300 s1 _)⟩
    · exact fun _ => ⟨rfl, rfl⟩
    have hback : Keep 0x2000100300 s1 back := by
      dsimp only [back]
      split
      · exact Keep.modSlice rfl (Keep.refl _ _)
      · exact Keep.refl _ _
    have hs2 : Keep 0x2000100300 s1 s2 := by
      dsimp only [s2]
      split
      · exact Keep.modLrx (.inr fun _ => rfl) rfl hback
      · exact Keep.refl _ _
      · exact Keep.ite (Keep.set_ocu rfl (Keep.refl _ _)) (Keep.set_ocu rfl (Keep.modAx rfl (Keep.refl _ _)))
      · exact Keep.refl _ _
    exact Keep.ite hs2 (State.raise_keep _ _ _ rfl hs2)
  · exact .inl rfl

theorem State.calAbandon_calKept {s u : State} (h : s.CalKept u) (b cause : Nat) : s.CalKept (u.calAbandon b cause) := by
  obtain heq | ⟨f, hf, hkeep⟩ := u.calAbandon_cases b cause
  · rwa [heq]
  · exact (h.modCal fun x => ⟨(hf x).1, fun _ => (hf x).2⟩).of_keep hkeep rfl

theorem State.setDue_calKept {s u : State} (h : s.CalKept u) (b cause : Nat) : s.CalKept (u.setDue b cause) := by
  unfold State.setDue
  split
  · exact h
  · exact h.modCal fun _ => ⟨rfl, id⟩

theorem State.calCheck_calKept {s u : State} (h : s.CalKept u) : s.CalKept u.calCheck := by
  refine List.foldlRecOn (motive := s.CalKept) _ _ h fun v hv b _ => ?_
  dsimp only
  split
  · split
    · exact hv.modCal fun _ => ⟨rfl, id⟩
    · exact State.calAbandon_calKept hv b abEligible
  · split
    · refine State.setDue_calKept ?_ b duePower
      exact hv.modCal fun _ => ⟨rfl, id⟩
    · exact hv

theorem State.follow_calKept {s u : State} (h : s.CalKept u) : s.CalKept u.follow := by
  have hsync : Keep 0x2201b905b08 u u.sync := u.syncWith_frame .laneState
  exact State.calCheck_calKept (h.of_keep hsync rfl)

/-! Elements that fail. -/

theorem State.sliceFailed_calKept {s u : State} (h : s.CalKept u) (l n : Nat) : s.CalKept (u.sliceFailed l n) := by
  unfold State.sliceFailed
  split
  · exact h
  · extract_lets s0 out
    have hs0 : s.CalKept s0 := by
      dsimp only [s0]
      split
      · exact State.calAbandon_calKept h l abFault
      · exact h
    have hout : Keep 0x100000 s0 out := Keep.modSlice rfl (Keep.refl _ _)
    split
    · refine hs0.of_keep (m := 0x2100001a0300) ?_ rfl
      exact State.report_keep _ _ _ _ _ rfl (State.raise_keep _ _ _ rfl (Keep.bump rfl (State.countSubst_keep _ _ rfl
        (Keep.modLrx (.inl rfl) rfl (Keep.modSlice rfl (hout.step rfl (Keep.refl _ _)))))))
    · refine hs0.of_keep (m := 0x1002c1e0300) ?_ rfl
      exact Keep.stick (State.lineFault_keep _ _ _ rfl (State.report_keep _ _ _ _ _ rfl
        (State.raise_keep _ _ _ rfl (hout.step rfl (Keep.refl _ _))))) rfl l

theorem State.cellFailed_calKept {s u : State} (h : s.CalKept u) (l cell : Nat) : s.CalKept (u.cellFailed l cell) := by
  unfold State.cellFailed
  extract_lets x s1 s1' s2'
  split
  · refine h.of_keep (m := 0x10000800000) ?_ rfl
    exact State.report_keep _ _ _ _ _ rfl (Keep.modCell rfl (Keep.refl _ _))
  split
  · refine (State.calAbandon_calKept h (l + 16) abFault).of_keep (m := 0x10000800300) ?_ rfl
    exact State.report_keep _ _ _ _ _ rfl (State.raise_keep _ _ _ rfl (Keep.modCell rfl (Keep.modCell rfl (Keep.refl _ _))))
  · have hs2 : Keep 0x1002c9e0300 u s2' :=
      State.report_keep _ _ _ _ _ rfl (State.raise_keep _ _ _ rfl (Keep.modLtx rfl (Keep.modCell rfl (Keep.refl _ _))))
    have hfault := h.of_keep (State.lineFault_keep _ l evLtxNoSpareCell rfl (hs2.stick rfl l)) rfl
    split
    case h_4 => exact h.of_keep hs2 rfl
    all_goals exact hfault

theorem State.reportElem_calKept {s u : State} (h : s.CalKept u) (b e : Nat) : s.CalKept (u.reportElem b e) := by
  unfold State.reportElem
  split
  · split
    · exact h.of_keep (m := 0x10000100000) (State.report_keep _ _ _ _ _ rfl (Keep.modSlice rfl (Keep.refl _ _))) rfl
    · split
      · exact State.sliceFailed_calKept h b e
      · exact h
  · exact State.cellFailed_calKept h (b - 16) e
  · exact h.of_keep (m := 0x12000000000) (State.report_keep _ _ _ _ _ rfl (Keep.modAx rfl (Keep.refl _ _))) rfl
  · exact h

/-! A run that completes (R595, R600, R603). -/

/-- The block of a completed run, before the elements that it found are reported. -/
def State.runEnded (s : State) (b : Nat) : State :=
  s.modCal b fun x => { x with
    running := false, runs := min (x.runs + 1) max36, lastDis := x.runDis, tRef := x.tStart, lastSec := (s.dom s.tku.sel).sec
    lastNs := (s.dom s.tku.sel).ns, lastDom := s.tku.sel, lastUnset := (s.dom s.tku.sel).unset, lastBcnt := s.tku.bcnt }

/-- A run ends with its event, after the reports of elements that dissented in two runs. -/
theorem State.calFinish_cases (s : State) (b : Nat) : ∃ u, Keep 0x21602c9e0300 s u ∧ (s.runEnded b).CalKept u ∧
    s.calFinish b = u.raise evCalDone [Word.nat b, Word.nat ((s.calAt b).runs + 1), Word.nat (s.calAt b).runCause,
      Word.nat (s.since (s.calAt b).startAt), Word.nat (s.calAt b).runDis.length] := by
  unfold State.calFinish
  extract_lets x d s1 s2
  refine ⟨s2, ?_, ?_, rfl⟩
  · exact Keep.foldl _ (fun u e hu => State.reportElem_keep u b e rfl hu) (Keep.modCal rfl (Keep.refl _ _))
  · exact List.foldlRecOn (motive := (s.runEnded b).CalKept) _ _ (State.CalKept.refl _) fun u hu e _ => State.reportElem_calKept hu b e

/-- What the end of a run tells, and what it leaves in its block. -/
theorem State.calFinish_follow_spec (s : State) (b : Nat) :
    ((s.calFinish b).follow.calAt b).running = false ∧ ((s.calFinish b).follow.calAt b).runs = min ((s.calAt b).runs + 1) max36 ∧
      ((s.calFinish b).follow.calAt b).flags = (s.calAt b).flags ∧
      ((s.calFinish b).follow.calAt b).dissents = (s.calAt b).dissents ∧
      ((s.calFinish b).follow.calAt b).coef = (s.calAt b).coef := by
  obtain ⟨u, -, hkept, heq⟩ := s.calFinish_cases b
  rw [heq]
  have hend := fun d => State.follow_calKept (hkept.of_keep (u.raise_frame evCalDone d) rfl)
  rw [(hend _).cal_eq b Cal.runs fun _ => rfl, (hend _).cal_eq b Cal.flags fun _ => rfl, (hend _).cal_eq b Cal.dissents fun _ => rfl,
    (hend _).cal_eq b Cal.coef fun _ => rfl]
  have hcal := fun d => (hend d b).2
  simp only [State.runEnded, State.calAt_modCal_self] at hcal ⊢
  exact ⟨hcal _ trivial, trivial, trivial, trivial, trivial⟩

theorem State.calFinish_follow_raises {s0 s : State} (b : Nat) (hears : s0.hears) (hs : Keep 0x21602c9e0300 s0 s) :
    Raises s0 (s.calFinish b).follow evCalDone [Word.nat b, Word.nat ((s.calAt b).runs + 1), Word.nat (s.calAt b).runCause,
      Word.nat (s.since (s.calAt b).startAt), Word.nat (s.calAt b).runDis.length] := by
  obtain ⟨u, hu, -, heq⟩ := s.calFinish_cases b
  rw [heq]
  exact Raises.of_keep hears (hu.step rfl hs) rfl (State.follow_frame _) rfl

end Sys2Proof.Machine
end

section
/-! PROOFS. Calibration runs (O44, its first part; R588, R590, R592 to R597): due blocks, the start of a run, pairs of measurements
and the end of a run. -/

namespace Sys2Proof.Machine

theorem State.calAt_modCal_other (s : State) {b k : Nat} (hk : k ≠ b) (f : Cal → Cal) : (s.modCal b f).calAt k = s.calAt k := by
  rw [State.calAt_modCal, if_neg hk]

/-- Time that BCNT shows, or that it cannot show without LANE_REFCLK, has passed (log entry 144). -/
theorem State.passed_of {s : State} {at_ : BitVec 64} {n : Nat} (h : s.dev.refclk = false ∨ n ≤ s.since at_) : s.passed at_ n = true := by
  rcases h with h | h <;> simp [State.passed, h]

/-! Due blocks. -/

theorem calIntervalExpiry_completes (b : Nat) : Completes (.calIntervalExpiry b)
    (fun s => calBlockOk s.fuses.part b ∧ 0 < (s.calAt b).runs ∧ (s.calAt b).due = false ∧
      (s.dev.refclk = false ∨ s.parN nCalCfg 0 1 * 625000000 ≤ s.since (s.calAt b).lastBcnt))
    fun s t => t.calAt b = { s.calAt b with due := true, cause := dueInterval, dueAt := s.tku.bcnt, overdue := false } ∧
      ∀ k, k ≠ b → t.calAt k = s.calAt k := by
  rintro s ⟨hblock, hruns, hdue, htime⟩
  refine ⟨s.modCal b fun x => { x with due := true, cause := dueInterval, dueAt := s.tku.bcnt, overdue := false }, ?_,
    State.calAt_modCal_self .., fun k hk => s.calAt_modCal_other hk _⟩
  change execCalIntervalExpiry b s = _
  rw [execCalIntervalExpiry, if_pos ⟨hblock, hruns, State.passed_of htime⟩, State.setDue, if_neg (by simp [hdue])]

theorem calDueTimer_completes (b : Nat) : Completes (.calDueTimer b)
    (fun s => (s.calAt b).due ∧ (s.calAt b).overdue = false ∧ (s.calAt b).running = false ∧ s.hears ∧
      (s.dev.refclk = false ∨ 60 * 625000000 ≤ s.since (s.calAt b).dueAt))
    fun s t => (t.calAt b).overdue = true ∧ (t.calAt b).due = true ∧
      Raises s t evCalOverdue [Word.nat b, Word.nat (s.calAt b).cause, Word.nat (s.since (s.calAt b).dueAt),
        Word.nat (s.calState b)] := by
  rintro s ⟨hdue, hoverdue, hrunning, hears, htime⟩
  have hcal : Keep 0x4000000000 s (s.modCal b fun x => { x with overdue := true }) := Keep.modCal rfl (Keep.refl _ _)
  refine ⟨(s.modCal b fun x => { x with overdue := true }).raise evCalOverdue [Word.nat b, Word.nat (s.calAt b).cause,
    Word.nat (s.since (s.calAt b).dueAt), Word.nat (s.calState b)], ?_, ?_, ?_, Raises.of_keep hears hcal rfl (Keep.refl 0 _) rfl⟩
  · change execCalDueTimer b s = _
    rw [execCalDueTimer, if_pos ⟨hdue, by simp [hoverdue], by simp [hrunning], State.passed_of htime⟩]
    rfl
  · rw [(State.raise_frame ..).calAt_eq rfl, State.calAt_modCal_self]
  · rw [(State.raise_frame ..).calAt_eq rfl, State.calAt_modCal_self]
    exact hdue

/-! The start of a run. -/

/-- The block of a run that starts (R590). -/
def State.runBegun (s : State) (b : Nat) : State :=
  s.modCal b fun x => { x with
    running := true, suspended := false, due := false, runCause := x.cause, startAt := s.tku.bcnt, tStart := s.blockTemp b
    elem := 0, pair := 0, pairs := [], runDis := [], frames := 0 }

/-- Beside its block a run that starts touches the element that it begins with; a core's run takes core 32 (R589). -/
theorem exec_calibrationRunStart {s : State} {b : Nat} (hkind : ∀ c ∈ s.calBlocks, (s.calAt c).running → calKind c ≠ calKind b)
    (hears : s.hears) (hfirst : s.firstDue (calKind b) = some b) : ∃ t, exec (.calibrationRunStart b) s = .next t ∧
      Keep 0x2000980000 (s.runBegun b) t ∧ (32 ≤ b → b < 64 → t.ocu.c32 = some (b - 32)) := by
  have hany : (s.calBlocks.any fun c => (s.calAt c).running && calKind c = calKind b) = false := by
    rw [List.any_eq_false]
    intro c hc
    have := hkind c hc
    simp only [Bool.and_eq_true, decide_eq_true_eq, not_and]
    exact this
  change ∃ t, execCalibrationRunStart b s = _ ∧ _
  rw [execCalibrationRunStart, if_neg (by simp [hany, hfirst, show s.eventsHeld = false from hears])]
  refine ⟨_, rfl, ?_, fun hlow hhigh => ?_⟩
  · cases calKind b with
    | lrx => exact Keep.modLrx (.inl rfl) rfl (Keep.refl _ _)
    | ltx => exact State.cellStep_keep _ _ _ rfl (Keep.refl _ _)
    | ax => exact Keep.ite (Keep.set_ocu rfl (Keep.refl _ _)) (Keep.set_ocu rfl (Keep.modAx rfl (Keep.modAx rfl (Keep.refl _ _))))
    | conv => exact Keep.refl _ _
  · have hax : calKind b = .ax := by
      rw [calKind, if_neg (by omega), if_neg (by omega), if_pos (by omega)]
    simp only [hax, if_neg (show b ≠ 64 by omega)]

theorem calibrationRunStart_completes (b : Nat) : Completes (.calibrationRunStart b)
    (fun s => (∀ c ∈ s.calBlocks, (s.calAt c).running → calKind c ≠ calKind b) ∧ s.hears ∧ s.firstDue (calKind b) = some b)
    fun s t => (t.calAt b).running = true ∧ (t.calAt b).due = false ∧ (t.calAt b).runCause = (s.calAt b).cause ∧
      (t.calAt b).startAt = s.tku.bcnt ∧ (t.calAt b).tStart = s.blockTemp b ∧
      (32 ≤ b → b < 64 → t.ocu.c32 = some (b - 32)) ∧ ∀ k, k ≠ b → t.calAt k = s.calAt k := by
  rintro s ⟨hkind, hears, hfirst⟩
  obtain ⟨t, hexec, ht, hcore⟩ := exec_calibrationRunStart hkind hears hfirst
  refine ⟨t, hexec, ?_⟩
  have hcal : t.calAt b = _ := (ht.calAt_eq rfl b).trans (State.calAt_modCal_self ..)
  beta_reduce
  rw [hcal]
  exact ⟨rfl, rfl, rfl, rfl, rfl, hcore, fun k hk => (ht.calAt_eq rfl k).trans (s.calAt_modCal_other hk _)⟩

/-! Pairs of measurements (R593 to R595). -/

theorem exec_measurementPairDone {s : State} {b : Nat} {x y : List Int} (hmeasuring : s.measuring b = true)
    (hx : x.length = (calQuantities (calKind b)).length) (hy : y.length = (calQuantities (calKind b)).length) :
    exec (.measurementPairDone b x y) s = .next (
      if calKind b = .conv ∧ ((s.pairDone b x y).calAt b).pair = 3 then ((s.pairDone b x y).calFinish b).follow
      else (s.pairDone b x y).follow) := by
  change execMeasurementPairDone b x y s = _
  rw [execMeasurementPairDone, if_pos ⟨hmeasuring, hx, hy⟩]

/-- A pair that agrees stores its mean; a flag of the element is cleared. -/
theorem State.pairDone_of_agree {s : State} {b : Nat} {x y : List Int} (hagree : pairAgrees (calKind b) x y = true) :
    ((s.pairDone b x y).calAt b).coef = ((s.storeCoef b (s.calElem b) (List.zipWith pairMean x y)).calAt b).coef := by
  unfold State.pairDone
  extract_lets k e c s1
  rw [if_pos hagree]
  have hs1 : (s1.calAt b).coef = _ := congrArg Cal.coef (State.calAt_modCal_self ..)
  split
  · rw [(State.raise_frame ..).calAt_eq rfl, State.calAt_modCal_self]
    exact hs1
  · exact hs1

theorem measurementPairDone_completes_of_core (x y : List Int) : Completes (.measurementPairDone 64 x y)
    (fun s => (s.calAt 64).running ∧ (s.calAt 64).pair < 3 ∧ x.length = 2 ∧ y.length = 2 ∧ pairAgrees .ax x y)
    fun _ t => tget (t.calAt 64).coef (fun _ => 0) 0 = pairMean (x.getD 0 0) (y.getD 0 0) ∧
      tget (t.calAt 64).coef (fun _ => 0) 1 = pairMean (x.getD 1 0) (y.getD 1 0) := by
  rintro s ⟨hrunning, hpair, hx, hy, hagree⟩
  obtain ⟨a, b, rfl⟩ := List.length_eq_two.1 hx
  obtain ⟨c, d, rfl⟩ := List.length_eq_two.1 hy
  have hmeasuring : s.measuring 64 = true := by simp [State.measuring, hrunning, hpair, calKind]
  have hkind : ¬ (calKind 64 = .conv ∧ ((s.pairDone 64 [a, b] [c, d]).calAt 64).pair = 3) := fun h => absurd h.1 (by decide)
  refine ⟨_, exec_measurementPairDone hmeasuring hx hy, ?_⟩
  rw [if_neg hkind]
  have hcoef := State.pairDone_of_agree (s := s) (b := 64) hagree
  have hstore : ((s.storeCoef 64 (s.calElem 64) (List.zipWith pairMean [a, b] [c, d])).calAt 64).coef =
      tset (tset (s.calAt 64).coef (fun _ => 0) 0 (pairMean a c)) (fun _ => 0) 1 (pairMean b d) :=
    congrArg Cal.coef (State.calAt_modCal_self ..)
  have hend : (s.pairDone 64 [a, b] [c, d]).CalKept (s.pairDone 64 [a, b] [c, d]).follow := State.follow_calKept (State.CalKept.refl _)
  beta_reduce
  rw [hend.cal_eq 64 Cal.coef fun _ => rfl, hcoef, hstore]
  constructor
  · rw [tget_tset_other _ _ _ (by decide), tget_tset_same]
    rfl
  · rw [tget_tset_same]
    rfl

/-- The block of an element whose third pair disagrees. -/
def State.dissented (s : State) (b : Nat) (x y : List Int) : State :=
  s.modCal b fun c => { c with
    pair := 3, pairs := (s.calAt b).pairs ++ (x ++ y).map Word.int
    flags := if (s.calAt b).flags.contains (s.calElem b) then c.flags else c.flags ++ [s.calElem b]
    dissents := c.dissents + 1, runDis := c.runDis ++ [s.calElem b] }

theorem State.pairDone_of_dissent {s : State} {b : Nat} {x y : List Int} (hagree : pairAgrees (calKind b) x y = false)
    (hpair : (s.calAt b).pair = 2) : s.pairDone b x y =
      (s.dissented b x y).raise evCalDissent (Word.nat b :: Word.nat (s.calElem b) :: ((s.calAt b).pairs ++ (x ++ y).map Word.int)) := by
  unfold State.pairDone
  simp only [hagree, hpair, Bool.false_eq_true, if_false, Nat.lt_irrefl]
  rfl

theorem State.mem_dissented_flags (s : State) (b : Nat) (x y : List Int) : s.calElem b ∈ ((s.dissented b x y).calAt b).flags := by
  rw [State.dissented, State.calAt_modCal_self]
  dsimp only
  split
  · next h => exact List.contains_iff_mem.1 h
  · exact List.mem_append_right _ List.mem_cons_self

theorem measurementPairDone_completes_of_dissent (b : Nat) (x y : List Int) : Completes (.measurementPairDone b x y)
    (fun s => (s.calAt b).running ∧ (calKind b = .lrx → (s.lineAt b).lrx.rotStep = 4) ∧
      (calKind b = .ax → b = 64 ∨ (s.axAt (b - 32)).hand = 3) ∧ x.length = (calQuantities (calKind b)).length ∧ y.length = x.length ∧
      pairAgrees (calKind b) x y = false ∧ (s.calAt b).pair = 2 ∧ s.hears)
    fun s t => s.calElem b ∈ (t.calAt b).flags ∧ (t.calAt b).dissents = (s.calAt b).dissents + 1 ∧
      (t.calAt b).coef = (s.calAt b).coef ∧
      Raises s t evCalDissent (Word.nat b :: Word.nat (s.calElem b) :: ((s.calAt b).pairs ++ (x ++ y).map Word.int)) := by
  rintro s ⟨hrunning, hlrx, hax, hx, hy, hagree, hpair, hears⟩
  have hmeasuring : s.measuring b = true := by
    unfold State.measuring
    cases hk : calKind b <;> simp_all
  have hframe : Keep 0x4000000000 s (s.dissented b x y) := Keep.modCal rfl (Keep.refl _ _)
  have hmem := s.mem_dissented_flags b x y
  have hdissents : ((s.dissented b x y).calAt b).dissents = _ := congrArg Cal.dissents (State.calAt_modCal_self ..)
  have hcoef : ((s.dissented b x y).calAt b).coef = _ := congrArg Cal.coef (State.calAt_modCal_self ..)
  refine ⟨_, exec_measurementPairDone hmeasuring hx (hy.trans hx), ?_⟩
  rw [State.pairDone_of_dissent hagree hpair]
  beta_reduce
  generalize Word.nat b :: Word.nat (s.calElem b) :: ((s.calAt b).pairs ++ (x ++ y).map Word.int) = data
  have hcal := (State.raise_frame (s.dissented b x y) evCalDissent data).calAt_eq rfl b
  have hraises : ∀ (n : Nat) (t : State), Keep n ((s.dissented b x y).raise evCalDissent data) t → n.testBit 47 = false →
      Raises s t evCalDissent data := fun n t ht hn => Raises.of_keep hears hframe rfl ht hn
  generalize (s.dissented b x y).raise evCalDissent data = u at *
  split
  · obtain ⟨-, -, hflags, hcount, hcoef'⟩ := u.calFinish_follow_spec b
    have hafter : Keep 0x23603f9e5b08 u (u.calFinish b).follow := State.follow_keep _ rfl (State.calFinish_keep _ b rfl (Keep.refl _ _))
    rw [hflags, hcount, hcoef', hcal]
    exact ⟨hmem, hdissents, hcoef, hraises _ _ hafter rfl⟩
  · have hend := State.follow_calKept (State.CalKept.refl u)
    rw [hend.cal_eq b Cal.flags fun _ => rfl, hend.cal_eq b Cal.dissents fun _ => rfl, hend.cal_eq b Cal.coef fun _ => rfl, hcal]
    exact ⟨hmem, hdissents, hcoef, hraises _ _ u.follow_frame rfl⟩

/-! The run of a transmitter goes from cell to cell (R585). -/

/-- The next element of a run. -/
def State.nextElem (s : State) (b : Nat) : State := s.modCal b fun y => { y with elem := y.elem + 1, pair := 0, pairs := [] }

theorem exec_ltxCalStep {s : State} {l : Nat} (hrunning : (s.calAt (l + 16)).running = true) (hpair : 3 ≤ (s.calAt (l + 16)).pair) :
    exec (.ltxCalStep l) s = .next (if (s.calAt (l + 16)).elem + 1 = 15 then ((s.nextElem (l + 16)).calFinish (l + 16)).follow
      else (s.nextElem (l + 16)).cellStep l ((s.calAt (l + 16)).elem + 1)) := by
  change execLtxCalStep l s = _
  rw [execLtxCalStep, if_pos ⟨hrunning, hpair⟩]
  rfl

theorem ltxCalStep_completes (l : Nat) : Completes (.ltxCalStep l)
    (fun s => (s.calAt (l + 16)).running ∧ 3 ≤ (s.calAt (l + 16)).pair ∧ (s.calAt (l + 16)).elem < 14)
    fun s t => (t.calAt (l + 16)).elem = (s.calAt (l + 16)).elem + 1 ∧ (t.calAt (l + 16)).pair = 0 := by
  rintro s ⟨hrunning, hpair, helem⟩
  refine ⟨_, exec_ltxCalStep hrunning hpair, ?_⟩
  have hcell : ∀ u : State, Keep 0x800000 u (u.cellStep l ((s.calAt (l + 16)).elem + 1)) := fun u =>
    u.cellStep_keep _ _ rfl (Keep.refl _ _)
  beta_reduce
  rw [if_neg (by omega), (hcell _).calAt_eq rfl, State.nextElem,
    State.calAt_modCal_self]
  exact ⟨rfl, rfl⟩

/-- The end of a run that goes on from `s`, whose block has moved to its last element on the way. -/
theorem State.runEnd_spec {s u : State} {b : Nat} (hears : s.hears) (hs : Keep 0x21602c9e0300 s u)
    (hcal : u.calAt b = { s.calAt b with elem := (s.calAt b).elem + 1, pair := 0, pairs := [] }) :
    ((u.calFinish b).follow.calAt b).running = false ∧ ((u.calFinish b).follow.calAt b).runs = min ((s.calAt b).runs + 1) max36 ∧
      Raises s (u.calFinish b).follow evCalDone [Word.nat b, Word.nat ((s.calAt b).runs + 1), Word.nat (s.calAt b).runCause,
        Word.nat (s.since (s.calAt b).startAt), Word.nat (s.calAt b).runDis.length] := by
  obtain ⟨hrunning, hruns, -⟩ := u.calFinish_follow_spec b
  have hraises := State.calFinish_follow_raises b hears hs
  have htku : s.tku = u.tku := hs.1 .tku rfl
  rw [State.since, ← htku, hcal] at hraises
  rw [hcal] at hruns
  exact ⟨hrunning, hruns, hraises⟩

theorem ltxCalStep_completes_of_last (l : Nat) : Completes (.ltxCalStep l)
    (fun s => (s.calAt (l + 16)).running ∧ 3 ≤ (s.calAt (l + 16)).pair ∧ (s.calAt (l + 16)).elem = 14 ∧ s.hears)
    fun s t => (t.calAt (l + 16)).runs = min ((s.calAt (l + 16)).runs + 1) max36 ∧ (t.calAt (l + 16)).running = false ∧
      Raises s t evCalDone [Word.nat (l + 16), Word.nat ((s.calAt (l + 16)).runs + 1),
        Word.nat (s.calAt (l + 16)).runCause, Word.nat (s.since (s.calAt (l + 16)).startAt),
        Word.nat (s.calAt (l + 16)).runDis.length] := by
  rintro s ⟨hrunning, hpair, helem, hears⟩
  refine ⟨_, exec_ltxCalStep hrunning hpair, ?_⟩
  rw [if_pos (by omega)]
  have hframe : Keep 0x21602c9e0300 s (s.nextElem (l + 16)) := Keep.modCal rfl (Keep.refl _ _)
  obtain ⟨hended, hruns, hraises⟩ := State.runEnd_spec hears hframe (State.calAt_modCal_self ..)
  exact ⟨hruns, hended, hraises⟩

theorem monconvFrame_completes : Completes .monconvFrame
    (fun s => (s.calAt 96).running ∧ s.dev.refclk ∧ ((s.calAt 96).frames = 0 ∨ 625000 ≤ s.since (s.calAt 96).frameAt))
    fun s t => t.calAt 96 = { s.calAt 96 with frames := (s.calAt 96).frames + 1, frameAt := s.tku.bcnt } ∧
      (∀ b, b ≠ 96 → t.calAt b = s.calAt b) ∧ OnlyChanges [.cal] s t := by
  intro s h
  refine ⟨s.modCal 96 fun y => { y with frames := y.frames + 1, frameAt := s.tku.bcnt }, ?_, State.calAt_modCal_self ..,
    fun b hb => s.calAt_modCal_other hb _, Keep.among (m := 0x4000000000) (Keep.modCal rfl (Keep.refl _ _)) rfl⟩
  change execMonconvFrame s = _
  rw [execMonconvFrame, if_pos h]

end Sys2Proof.Machine
end

section
/-! PROOFS. The rotation of the transom slice (O44, its second part; R84 to R88, R92, R95). -/

namespace Sys2Proof.Machine

theorem State.sliceIdle_congr {s t : State} {l n : Nat} (hpos : (t.sliceAt l n).pos = (s.sliceAt l n).pos) (hhalf : t.half l = s.half l) :
    t.sliceIdle l n = s.sliceIdle l n := by
  unfold State.sliceIdle
  rw [hpos, hhalf]

/-- The slices on the positions of a lane are a matter of the slices' positions and the lane's rate. -/
theorem State.sliceOn_congr {s t : State} {l : Nat} (hpos : ∀ n, (t.sliceAt l n).pos = (s.sliceAt l n).pos) (hhalf : t.half l = s.half l)
    (p : Nat) : t.sliceOn l p = s.sliceOn l p := by
  simp only [State.sliceOn, State.sliceIdle_congr (hpos _) hhalf, hpos]

/-! Step 1: the transom shadows the position. -/

/-- The instant at which a step begins is no matter of the transom (R86). -/
theorem State.transomSlice_rotAt (s : State) (l : Nat) (at_ : Option (BitVec 64)) :
    (s.modLrx l fun x => { x with rotAt := at_ }).transomSlice l = s.transomSlice l := by
  have hslice : ∀ n, (s.modLrx l fun x => { x with rotAt := at_ }).sliceAt l n = s.sliceAt l n := fun n =>
    s.sliceAt_modLrx l l n fun _ => rfl
  have hspare : ∀ n, (s.modLrx l fun x => { x with rotAt := at_ }).sliceSpare l n = s.sliceSpare l n := by
    intro n
    rw [State.sliceSpare, State.sliceSpare, hslice, State.sliceIdle_congr (congrArg Slice.pos (hslice n)) rfl]
  simp only [State.transomSlice, hspare, State.lineAt_modLrx_self]

theorem State.rotSuspended_eq_false {s : State} {l k : Nat}
    (hcap : (s.lineAt l).state = .test → s.cap.lane = l → s.cap.armed = false ∧ s.cap.running = false) (hk : s.transomSlice l = some k) :
    s.rotSuspended l = false := by
  unfold State.rotSuspended
  by_cases htest : (s.lineAt l).state = .test
  · by_cases hlane : s.cap.lane = l
    · obtain ⟨harmed, hrunning⟩ := hcap htest hlane
      simp [hk, harmed, hrunning]
    · simp [hk, hlane]
  · simp [hk, htest]

theorem State.rotApart_of {s : State} {l : Nat}
    (h : ∀ j, j < s.lines → j ≠ l → (s.lineAt j).lrx.rotAt.all fun b => 62500 ≤ s.since b) : s.rotApart l = true := by
  unfold State.rotApart
  rw [List.all_eq_true]
  intro j hj
  by_cases hjl : j = l
  · simp [hjl]
  · have hj' := h j (List.mem_range.1 hj) hjl
    cases hat : (s.lineAt j).lrx.rotAt with
    | none => simp
    | some b => simpa [hat, hjl] using hj'

theorem exec_rotationStepStart {s : State} {l k : Nat} (hrunning : (s.calAt l).running = true) (hstep : (s.lineAt l).lrx.rotStep = 0)
    (hfree : s.rotSuspended l = false) (hapart : s.rotApart l = true) (hk : s.transomSlice l = some k)
    (hcal : (s.sliceAt l k).needsCal = false) : exec (.rotationStepStart l) s = .next
      ((s.modLrx l fun x => { x with rotAt := some s.tku.bcnt }).modLrx l fun x => { x with rotStep := 1, transom := k }) := by
  have hslice : (s.modLrx l fun x => { x with rotAt := some s.tku.bcnt }).sliceAt l k = s.sliceAt l k :=
    s.sliceAt_modLrx l l k fun _ => rfl
  change execRotationStepStart l s = _
  rw [execRotationStepStart, if_pos ⟨hrunning, hstep, by simp [hfree], hapart⟩]
  simp only [State.transomSlice_rotAt, hk, Option.getD_some, hslice, hcal, Bool.false_eq_true, if_false]

theorem rotationStepStart_completes (l k : Nat) : Completes (.rotationStepStart l)
    (fun s => (s.calAt l).running ∧ (s.lineAt l).lrx.rotStep = 0 ∧
      ((s.lineAt l).state = .test → s.cap.lane = l → s.cap.armed = false ∧ s.cap.running = false) ∧ s.transomSlice l = some k ∧
      (s.sliceAt l k).needsCal = false ∧
      ∀ j, j < s.lines → j ≠ l → (s.lineAt j).lrx.rotAt.all fun b => 62500 ≤ s.since b)
    fun s t => (t.lineAt l).lrx = { (s.lineAt l).lrx with rotStep := 1, transom := k, rotAt := some s.tku.bcnt } ∧
      ∀ j, j ≠ l → t.lineAt j = s.lineAt j := by
  rintro s ⟨hrunning, hstep, hcap, hk, hcal, hapart⟩
  refine ⟨_, exec_rotationStepStart hrunning hstep (State.rotSuspended_eq_false hcap hk) (State.rotApart_of hapart) hk hcal, ?_,
    fun j hj => ?_⟩
  · rw [State.lineAt_modLrx_self, State.lineAt_modLrx_self]
  · rw [State.lineAt_modLrx_other _ hj, State.lineAt_modLrx_other _ hj]

/-! Step 2: the comparison. -/

theorem exec_shadowComparisonDone {s : State} {l : Nat} (ok : Bool) (hrunning : (s.calAt l).running = true)
    (hstep : (s.lineAt l).lrx.rotStep = 1) : exec (.shadowComparisonDone l ok) s = .next (
      if ok then s.modLrx l fun x => { x with rotStep := 2 }
      else ((((s.modLrx l fun x => { x with rotStep := 0 }).bump gLrx l 6).modSlice l (s.lineAt l).lrx.transom fun x =>
        { x with health := .test }).report .slice l (s.lineAt l).lrx.transom srcTest).follow) := by
  change execShadowComparisonDone l ok s = _
  rw [execShadowComparisonDone, if_pos ⟨hrunning, hstep⟩]

theorem shadowComparisonDone_completes (l : Nat) : Completes (.shadowComparisonDone l true)
    (fun s => (s.calAt l).running ∧ (s.lineAt l).lrx.rotStep = 1)
    fun s t => (t.lineAt l).lrx = { (s.lineAt l).lrx with rotStep := 2 } ∧ ∀ j, j ≠ l → t.lineAt j = s.lineAt j := by
  rintro s ⟨hrunning, hstep⟩
  refine ⟨_, exec_shadowComparisonDone true hrunning hstep, ?_, fun j hj => ?_⟩
  · rw [if_pos rfl, State.lineAt_modLrx_self]
  · rw [if_pos rfl, State.lineAt_modLrx_other _ hj]

/-- A slice of lane `l` goes to targeted self-test, and its report. -/
def State.sliceOut (s : State) (l n : Nat) : State :=
  (s.modSlice l n fun x => { x with health := .test }).report .slice l n srcTest

theorem State.sliceOut_frame (s : State) (l n : Nat) : Keep 0x10000100000 s (s.sliceOut l n) :=
  State.report_keep _ _ _ _ _ rfl (Keep.modSlice rfl (Keep.refl _ _))

/-- Where a slice goes to self-test, every slice keeps its position, and the lane its rotation. -/
theorem State.sliceOut_follow_spec (s : State) (l n : Nat) : ((s.sliceOut l n).follow.sliceAt l n).health = .test ∧
    (∀ p, (s.sliceOut l n).follow.sliceOn l p = s.sliceOn l p) ∧
    ((s.sliceOut l n).follow.lineAt l).lrx.rotPos = (s.lineAt l).lrx.rotPos := by
  have hplaces := State.follow_places (State.PlacesKept.refl (s.sliceOut l n))
  have hreport := (s.modSlice l n fun x => { x with health := .test }).report_frame .slice l n srcTest
  have hslice : ∀ k, (s.sliceOut l n).sliceAt l k = if k = n then { s.sliceAt l n with health := .test } else s.sliceAt l k := by
    intro k
    rw [State.sliceOut, hreport.sliceAt_eq rfl, State.sliceAt_modSlice]
    simp
  have hpos : ∀ k, ((s.sliceOut l n).follow.sliceAt l k).pos = (s.sliceAt l k).pos := by
    intro k
    rw [hplaces.slice_eq l k Slice.pos fun _ => rfl, hslice]
    split
    · next hk => rw [hk]
    · rfl
  have hall : Keep 0x3601b905b08 s (s.sliceOut l n).follow := State.follow_keep _ rfl ((s.sliceOut_frame l n).step rfl (Keep.refl _ _))
  refine ⟨?_, State.sliceOn_congr hpos (hall.half_eq rfl l), (hplaces l).2.1.trans ?_⟩
  · rw [hplaces.slice_eq l n Slice.health fun _ => rfl, hslice, if_pos rfl]
  · rw [State.sliceOut, hreport.lineAt_eq rfl, State.modSlice, State.lineAt_modLrx_self]

theorem shadowComparisonDone_completes_of_bad (l : Nat) : Completes (.shadowComparisonDone l false)
    (fun s => (s.calAt l).running ∧ (s.lineAt l).lrx.rotStep = 1)
    fun s t => t.statAt gLrx l 6 = (s.statAt gLrx l 6).add 1 ∧ (∀ p, t.sliceOn l p = s.sliceOn l p) ∧
      (t.sliceAt l (s.lineAt l).lrx.transom).health = .test := by
  rintro s ⟨hrunning, hstep⟩
  refine ⟨_, exec_shadowComparisonDone false hrunning hstep, ?_⟩
  have hbegin : ∀ n, ((s.modLrx l fun x => { x with rotStep := 0 }).bump gLrx l 6).sliceAt l n = s.sliceAt l n := fun n =>
    (Keep.sliceAt_eq (m := 0x20000) (Keep.bump rfl (Keep.refl _ _)) rfl l n).trans (s.sliceAt_modLrx l l n (by intro; rfl))
  have hstat : ((s.modLrx l fun x => { x with rotStep := 0 }).bump gLrx l 6).statAt gLrx l 6 = (s.statAt gLrx l 6).add 1 :=
    State.statAt_bump_self ..
  have hhalf : ((s.modLrx l fun x => { x with rotStep := 0 }).bump gLrx l 6).half l = s.half l := rfl
  generalize (s.modLrx l fun x => { x with rotStep := 0 }).bump gLrx l 6 = u at *
  obtain ⟨hhealth, hon, -⟩ := u.sliceOut_follow_spec l (s.lineAt l).lrx.transom
  have hall : Keep 0x3601b905b08 u (u.sliceOut l (s.lineAt l).lrx.transom).follow :=
    State.follow_keep _ rfl ((u.sliceOut_frame l _).step rfl (Keep.refl _ _))
  refine ⟨(hall.statAt_eq rfl ..).trans hstat, fun p => (hon p).trans ?_, hhealth⟩
  exact State.sliceOn_congr (fun n => congrArg Slice.pos (hbegin n)) hhalf p

/-! Step 3: the switch. -/

/-- The transom takes the rotation's position; the slice that it relieves is the new transom. -/
def State.switched (s : State) (l n : Nat) : State :=
  ((((s.modSlice l n fun y => { y with pos := none, bad := 0 }).modSlice l (s.lineAt l).lrx.transom fun y =>
    { y with pos := some (s.lineAt l).lrx.rotPos, bad := 0 }).modLrx l fun y => { y with
      rotStep := 4, transom := n, rotOld := some ((s.sliceAt l n).off, (s.sliceAt l n).gain, (s.sliceAt l n).skew) }).modCal l
        fun y => { y with pair := 0, pairs := [] })

theorem exec_rotationSwitch {s : State} {l n : Nat} (hrunning : (s.calAt l).running = true) (hstep : (s.lineAt l).lrx.rotStep = 2)
    (hn : s.sliceOn l (s.lineAt l).lrx.rotPos = some n) : exec (.rotationSwitch l) s = .next (s.switched l n) := by
  change execRotationSwitch l s = _
  rw [execRotationSwitch, if_pos ⟨hrunning, hstep⟩]
  simp only [hn]
  rfl

theorem State.switched_sliceAt (s : State) (l n k : Nat) : (s.switched l n).sliceAt l k =
    ((s.modSlice l n fun y => { y with pos := none, bad := 0 }).modSlice l (s.lineAt l).lrx.transom fun y =>
      { y with pos := some (s.lineAt l).lrx.rotPos, bad := 0 }).sliceAt l k :=
  (Keep.sliceAt_eq (m := 0x4000000000) (Keep.modCal rfl (Keep.refl _ _)) rfl l k).trans (State.sliceAt_modLrx _ l l k (by intro; rfl))

theorem rotationSwitch_completes (l n : Nat) : Completes (.rotationSwitch l)
    (fun s => (s.calAt l).running ∧ (s.lineAt l).lrx.rotStep = 2 ∧ s.sliceOn l (s.lineAt l).lrx.rotPos = some n ∧
      n ≠ (s.lineAt l).lrx.transom)
    fun s t => (t.sliceAt l n).pos = none ∧ (t.sliceAt l (s.lineAt l).lrx.transom).pos = some (s.lineAt l).lrx.rotPos ∧
      (t.lineAt l).lrx.transom = n ∧ (t.lineAt l).lrx.rotStep = 4 ∧
      (∀ k, k ≠ n → k ≠ (s.lineAt l).lrx.transom → t.sliceAt l k = s.sliceAt l k) ∧ ∀ j, j ≠ l → t.lineAt j = s.lineAt j := by
  rintro s ⟨hrunning, hstep, hn, hne⟩
  have hcal : ∀ (u : State) (j : Nat), (u.modCal l fun y => { y with pair := 0, pairs := [] }).lineAt j = u.lineAt j := fun u j =>
    Keep.lineAt_eq (m := 0x4000000000) (Keep.modCal rfl (Keep.refl _ _)) rfl j
  refine ⟨_, exec_rotationSwitch hrunning hstep hn, ?_, ?_, ?_, ?_, fun k hkn hkt => ?_, fun j hj => ?_⟩
  · rw [State.switched_sliceAt, State.sliceAt_modSlice_other _ hne, State.sliceAt_modSlice_self]
  · rw [State.switched_sliceAt, State.sliceAt_modSlice_self]
  · rw [State.switched, hcal, State.lineAt_modLrx_self]
  · rw [State.switched, hcal, State.lineAt_modLrx_self]
  · rw [State.switched_sliceAt, State.sliceAt_modSlice_other _ hkt, State.sliceAt_modSlice_other _ hkn]
  · rw [State.switched, hcal, State.lineAt_modLrx_other _ hj, State.modSlice, State.lineAt_modLrx_other _ hj, State.modSlice,
      State.lineAt_modLrx_other _ hj]

/-! Steps 4 and 5: the calibration of the new transom. -/

/-- The slice calibrated last, whether it came from a self-test, and the rest of the run (R84, R86, R92, R95). -/
theorem exec_transomCalibrationDone {s : State} {l : Nat} (ok : Bool) (hrunning : (s.calAt l).running = true)
    (hstep : (s.lineAt l).lrx.rotStep = 4) (hpair : 3 ≤ (s.calAt l).pair) : exec (.transomCalibrationDone l ok) s = .next (
      if ok = false then ((((s.modLrx l fun y => { y with rotStep := 0, rotOld := none }).modCal l fun y =>
        { y with pair := 0, pairs := [] }).sliceOut l (s.lineAt l).lrx.transom).follow)
      else if (s.sliceAt l (s.lineAt l).lrx.transom).needsCal then
        ((s.modLrx l fun y => { y with rotStep := 0, rotOld := none }).modSlice l (s.lineAt l).lrx.transom fun y =>
          { y with needsCal := false }).modCal l fun y => { y with pair := 0, pairs := [] }
      else if (s.lineAt l).lrx.rotPos + 1 = (if s.half l then 32 else 64) then
        ((((s.modLrx l fun y => { y with rotStep := 0, rotPos := y.rotPos + 1, rotOld := none }).nextElem l).calFinish l).follow)
      else (s.modLrx l fun y => { y with rotStep := 0, rotPos := y.rotPos + 1, rotOld := none }).nextElem l) := by
  change execTransomCalibrationDone l s ok = _
  rw [execTransomCalibrationDone, if_pos ⟨hrunning, hstep, hpair⟩]
  cases ok <;> rfl

theorem transomCalibrationDone_completes_of_bad (l : Nat) : Completes (.transomCalibrationDone l false)
    (fun s => (s.calAt l).running ∧ (s.lineAt l).lrx.rotStep = 4 ∧ 3 ≤ (s.calAt l).pair)
    fun s t => (t.sliceAt l (s.lineAt l).lrx.transom).health = .test ∧ (∀ p, t.sliceOn l p = s.sliceOn l p) ∧
      (t.lineAt l).lrx.rotPos = (s.lineAt l).lrx.rotPos := by
  rintro s ⟨hrunning, hstep, hpair⟩
  refine ⟨_, exec_transomCalibrationDone false hrunning hstep hpair, ?_⟩
  beta_reduce
  rw [if_pos rfl]
  set u := (s.modLrx l fun y => { y with rotStep := 0, rotOld := none }).modCal l fun y => { y with pair := 0, pairs := [] } with hu
  have hcal : Keep 0x4000000000 (s.modLrx l fun y => { y with rotStep := 0, rotOld := none }) u := Keep.modCal rfl (Keep.refl _ _)
  have hslice : ∀ n, u.sliceAt l n = s.sliceAt l n := fun n =>
    (hcal.sliceAt_eq rfl l n).trans (s.sliceAt_modLrx l l n (by intro; rfl))
  have hpos : (u.lineAt l).lrx.rotPos = (s.lineAt l).lrx.rotPos := by
    rw [hcal.lineAt_eq rfl, State.lineAt_modLrx_self]
  obtain ⟨hhealth, hon, hrot⟩ := u.sliceOut_follow_spec l (s.lineAt l).lrx.transom
  exact ⟨hhealth, fun p => (hon p).trans (State.sliceOn_congr (fun n => congrArg Slice.pos (hslice n)) rfl p), hrot.trans hpos⟩

theorem transomCalibrationDone_completes_of_tested (l : Nat) : Completes (.transomCalibrationDone l true)
    (fun s => (s.calAt l).running ∧ (s.lineAt l).lrx.rotStep = 4 ∧ 3 ≤ (s.calAt l).pair ∧
      (s.sliceAt l (s.lineAt l).lrx.transom).needsCal)
    fun s t => (t.sliceAt l (s.lineAt l).lrx.transom).needsCal = false ∧ (t.lineAt l).lrx.rotStep = 0 ∧
      (t.lineAt l).lrx.rotPos = (s.lineAt l).lrx.rotPos := by
  rintro s ⟨hrunning, hstep, hpair, hcal⟩
  refine ⟨_, exec_transomCalibrationDone true hrunning hstep hpair, ?_⟩
  beta_reduce
  rw [if_neg nofun, if_pos hcal]
  have hcalAt : ∀ u : State, Keep 0x4000000000 u (u.modCal l fun y => { y with pair := 0, pairs := [] }) := fun u =>
    Keep.modCal rfl (Keep.refl _ _)
  rw [(hcalAt _).sliceAt_eq rfl, (hcalAt _).lineAt_eq rfl, State.sliceAt_modSlice_self, State.modSlice, State.lineAt_modLrx_self,
    State.lineAt_modLrx_self]
  exact ⟨rfl, rfl, rfl⟩

theorem transomCalibrationDone_completes (l : Nat) : Completes (.transomCalibrationDone l true)
    (fun s => (s.calAt l).running ∧ (s.lineAt l).lrx.rotStep = 4 ∧ 3 ≤ (s.calAt l).pair ∧
      (s.sliceAt l (s.lineAt l).lrx.transom).needsCal = false ∧ (s.lineAt l).lrx.rotPos + 1 ≠ (if s.half l then 32 else 64))
    fun s t => (t.lineAt l).lrx.rotStep = 0 ∧ (t.lineAt l).lrx.rotPos = (s.lineAt l).lrx.rotPos + 1 ∧
      (t.calAt l).running = true ∧ (t.calAt l).runs = (s.calAt l).runs := by
  rintro s ⟨hrunning, hstep, hpair, hcal, hmore⟩
  refine ⟨_, exec_transomCalibrationDone true hrunning hstep hpair, ?_⟩
  beta_reduce
  rw [if_neg nofun, if_neg (by simp [hcal]), if_neg hmore]
  have hnext : ∀ u : State, Keep 0x4000000000 u (u.nextElem l) := fun u => Keep.modCal rfl (Keep.refl _ _)
  rw [(hnext _).lineAt_eq rfl, State.lineAt_modLrx_self, State.nextElem, State.calAt_modCal_self]
  exact ⟨rfl, rfl, hrunning, rfl⟩

theorem transomCalibrationDone_completes_of_last (l : Nat) : Completes (.transomCalibrationDone l true)
    (fun s => (s.calAt l).running ∧ (s.lineAt l).lrx.rotStep = 4 ∧ 3 ≤ (s.calAt l).pair ∧
      (s.sliceAt l (s.lineAt l).lrx.transom).needsCal = false ∧ (s.lineAt l).lrx.rotPos + 1 = (if s.half l then 32 else 64) ∧
      s.hears)
    fun s t => (t.calAt l).running = false ∧ (t.calAt l).runs = min ((s.calAt l).runs + 1) max36 ∧
      Raises s t evCalDone [Word.nat l, Word.nat ((s.calAt l).runs + 1), Word.nat (s.calAt l).runCause,
        Word.nat (s.since (s.calAt l).startAt), Word.nat (s.calAt l).runDis.length] := by
  rintro s ⟨hrunning, hstep, hpair, hcal, hlast, hears⟩
  refine ⟨_, exec_transomCalibrationDone true hrunning hstep hpair, ?_⟩
  beta_reduce
  rw [if_neg nofun, if_neg (by simp [hcal]), if_pos hlast]
  refine State.runEnd_spec hears (Keep.modCal rfl (Keep.modLrx (.inl rfl) rfl (Keep.refl _ _))) (State.calAt_modCal_self ..)

/-- Settles O44, from one lemma for each clause on calibration runs and on the rotation. -/
theorem calibrationsComplete : Obligations.CalibrationsComplete :=
  ⟨⟨calIntervalExpiry_completes, calibrationRunStart_completes, calDueTimer_completes, measurementPairDone_completes_of_core,
    measurementPairDone_completes_of_dissent, ltxCalStep_completes, ltxCalStep_completes_of_last, monconvFrame_completes⟩,
    rotationStepStart_completes, shadowComparisonDone_completes, shadowComparisonDone_completes_of_bad, rotationSwitch_completes,
    transomCalibrationDone_completes_of_bad, transomCalibrationDone_completes_of_tested, transomCalibrationDone_completes,
    transomCalibrationDone_completes_of_last⟩

end Sys2Proof.Machine
end

section
/-! PROOFS. Commands of a mailbox: how a sentence that is taken is carried out (R443, R444, R453), what its reply is (R445), and
what the way to it leaves as it is. -/

namespace Sys2Proof.Machine

/-! What the begin of a command changes: its mailbox, events and performance counters. -/

theorem State.raise_eq (s : State) (code : Nat) (data : List Word) : ∃ e, s.raise code data = { s with ev := e } := by
  unfold State.raise
  split
  · refine List.foldlRecOn (motive := fun u : State => ∃ e, u = { s with ev := e }) requesters _ ⟨s.ev, rfl⟩ fun u hu r _ => ?_
    obtain ⟨e, rfl⟩ := hu
    exact ⟨_, rfl⟩
  · exact ⟨_, rfl⟩

theorem State.pmcAdd_eq (s : State) (k n : Nat) : ∃ e p, s.pmcAdd k n = { s with ev := e, pmc := p } := by
  unfold State.pmcAdd
  extract_lets c s1
  split
  · exact ⟨s.ev, _, rfl⟩
  · split
    · exact ⟨s.ev, _, rfl⟩
    · obtain ⟨e, he⟩ := s1.raise_eq evPmcSaturated [Word.nat k, Word.nat c.event]
      exact ⟨e, _, he⟩

theorem State.pmcEvent_eq (s : State) (ev n : Nat) : ∃ e p, s.pmcEvent ev n = { s with ev := e, pmc := p } := by
  refine List.foldlRecOn (motive := fun u : State => ∃ e p, u = { s with ev := e, pmc := p }) _ _ ⟨s.ev, s.pmc, rfl⟩ fun u hu k _ => ?_
  obtain ⟨e, p, rfl⟩ := hu
  obtain ⟨e', p', h⟩ := State.pmcAdd_eq { s with ev := e, pmc := p } k n
  exact ⟨e', p', h⟩

theorem State.modBox_eq (s : State) (r : Requester) (n : Nat) (f : Box → Box) : ∃ b, s.modBox r n f = { s with mb := b } := ⟨_, rfl⟩

theorem State.begins_modBox (s : State) (r : Requester) (n : Nat) (f : Box → Box) : (s.modBox r n f).begins = s.begins := rfl

section
variable (s : State) (verb noun : Nat) (m : Sentence)

theorem State.begun_eq : ∃ b e p, s.begun verb noun m = { s with mb := b, ev := e, pmc := p } := by
  unfold State.begun
  generalize (fun b : Box => { b with
    cmd := Word.nat (verb + noun * 256 + m.inst.toNat * 65536 + m.adverbs.toNat * 16777216)
    taglen := Word.nat (m.tag.toNat + m.len.toNat * 65536), payload := putWords b.payload 0 m.words }) = f
  obtain ⟨b, hb⟩ := s.modBox_eq m.req m.mbx f
  obtain ⟨b', hb'⟩ := State.modBox_eq { s with mb := b } m.req m.mbx fun b => { b with state := .busy }
  obtain ⟨e, p, h⟩ := State.pmcEvent_eq { s with mb := b' } 0x010 1
  rw [hb, hb']
  exact ⟨b', e, p, h⟩

/-- What does not look at mailboxes, events and performance counters sees no difference at the begin of a command. -/
theorem State.begun_congr {α : Type} (f : State → α) (hf : ∀ u b e p, f { u with mb := b, ev := e, pmc := p } = f u) :
    f (s.begun verb noun m) = f s := by
  obtain ⟨b, e, p, h⟩ := s.begun_eq verb noun m
  rw [h, hf]

theorem State.begun_frame : Keep 0x20000000380 s (s.begun verb noun m) :=
  State.pmcEvent_keep _ _ _ rfl (Keep.modBox rfl (Keep.modBox rfl (Keep.refl _ _)))

theorem State.boxAt_begun : (s.begun verb noun m).boxAt m.req m.mbx = { s.boxAt m.req m.mbx with
    cmd := Word.nat (verb + noun * 256 + m.inst.toNat * 65536 + m.adverbs.toNat * 16777216)
    taglen := Word.nat (m.tag.toNat + m.len.toNat * 65536), payload := putWords (s.boxAt m.req m.mbx).payload 0 m.words
    state := .busy } := by
  unfold State.begun
  have hmb := (State.pmcEvent_frame ((s.modBox m.req m.mbx fun b =>
    { b with cmd := Word.nat (verb + noun * 256 + m.inst.toNat * 65536 + m.adverbs.toNat * 16777216)
             taglen := Word.nat (m.tag.toNat + m.len.toNat * 65536)
             payload := putWords b.payload 0 m.words }).modBox m.req m.mbx fun b => { b with state := .busy }) 0x010 1).1 .mb rfl
  rw [State.boxAt, ← hmb]
  exact (State.boxAt_modBox_self ..).trans (by rw [State.boxAt_modBox_self])

end

/-! The words of a sentence. -/

theorem tget_putWords (p : Tbl Word) (i j : Nat) (ws : List Word) :
    tget (putWords p i ws) (fun _ => 0) j = if i ≤ j ∧ j < i + ws.length then ws.getD (j - i) 0 else tget p (fun _ => 0) j := by
  induction ws generalizing p i with
  | nil => rw [putWords, List.length_nil, if_neg (by omega)]
  | cons w ws ih =>
    rw [putWords, ih, List.length_cons]
    by_cases hj : j = i
    · rw [if_neg (by omega), if_pos (by omega), hj, tget_tset_same, Nat.sub_self]
      rfl
    · rw [tget_tset_other _ _ _ hj]
      by_cases hin : i + 1 ≤ j ∧ j < i + 1 + ws.length
      · rw [if_pos hin, if_pos (by omega), show j - i = (j - (i + 1)) + 1 by omega, List.getD_cons_succ]
      · rw [if_neg hin, if_neg (by omega)]

/-- A mailbox that a sentence was written into holds the sentence's payload. -/
theorem Box.words_of_payload {b : Box} {p : Tbl Word} {m : Sentence} (hb : b.payload = putWords p 0 m.words)
    (hwritten : (m.len.toNat + 3) / 4 ≤ m.words.length) : b.words m.len.toNat = payloadOf m := by
  unfold Box.words payloadOf
  refine List.ext_getElem (by simp [hwritten]) fun i hi hi' => ?_
  rw [List.length_map, List.length_range] at hi
  rw [List.getElem_map, List.getElem_range, hb, tget_putWords, if_pos (by omega), List.getElem_take, Nat.sub_zero,
    List.getD_eq_getElem _ _ (by omega)]

/-! A sentence that is taken is carried out. -/

/-- The checks of R453 look at nothing that the begin of a command changes. -/
theorem commonCheck_begun (c : CmdSpec) (m : Sentence) (ws : List Word) (s : State) (verb noun : Nat) :
    commonCheck c m ws (s.begun verb noun m) = commonCheck c m ws s :=
  s.begun_congr verb noun m (commonCheck c m ws) fun _ _ _ _ => rfl

/-- The begin of a command that is taken: the mailbox is BUSY and holds the sentence. -/
theorem submit_of_takes {c : CmdSpec} {m : Sentence} {s : State} (run : Sentence → State → State) (h : s.Takes c m) :
    ∃ s0, submit c.verb c.noun run m s = run m s0 ∧ s0.pmcEvent 0x010 1 = s.begun c.verb c.noun m := by
  obtain ⟨hreach, hready, hbegins, hstarted, -, hfits, -⟩ := h
  have hring : ∀ f : Box → Box, (s.modBox m.req m.mbx f).ring c.verb c.noun run m =
      run m ((s.modBox m.req m.mbx f).modBox m.req m.mbx fun b => { b with state := .busy }) := by
    intro f
    unfold State.ring
    rw [if_neg (by rw [State.modBox_dev]; exact fun hx => hstarted hx.1), State.begins_modBox, if_pos hbegins]
  unfold submit State.begun
  rw [if_pos hreach, if_neg hready]
  dsimp only
  rw [hring, List.take_of_length_le hfits]
  exact ⟨_, rfl, rfl⟩

section
variable {c : CmdSpec} {check : State → Sentence → List Word → Option Refuse}
  {act : State → Sentence → List Word → State × Reply} {echo : State → Nat → List Word} {m : Sentence} {s e : State}

/-- The words that a command reads at its begin, and that R453 passes them. -/
theorem State.Takes.begun (h : s.Takes c m) :
    ((s.begun c.verb c.noun m).boxAt m.req m.mbx).words m.len.toNat = payloadOf m ∧
      commonCheck c m (payloadOf m) (s.begun c.verb c.noun m) = none := by
  exact ⟨Box.words_of_payload (congrArg Box.payload (s.boxAt_begun ..)) h.written, (commonCheck_begun ..).trans h.passes⟩

theorem submit_of_refused {r : Refuse} (h : s.Takes c m) (hcheck : check (s.begun c.verb c.noun m) m (payloadOf m) = some r) :
    ∃ o, submit c.verb c.noun (process c check act echo) m s = (s.begun c.verb c.noun m).complete m r.code r.detail o [] 0 := by
  obtain ⟨s0, hsubmit, hs0⟩ := submit_of_takes (process c check act echo) h
  obtain ⟨hwords, hcommon⟩ := h.begun
  rw [hsubmit]
  unfold process
  simp only [hs0, hwords, hcommon, hcheck]
  exact ⟨_, rfl⟩

/-- Whichever words a reply carries. -/
theorem complete_ite {p : Prop} [Decidable p] (u : State) (x : Sentence) (code detail : Nat) (o : Obj) (ws xs : List Word) (j k : Nat) :
    ∃ zs i, (if p then u.complete x code detail o ws j else u.complete x code detail o xs k) = u.complete x code detail o zs i := by
  split
  · exact ⟨_, _, rfl⟩
  · exact ⟨_, _, rfl⟩

theorem submit_of_done {out : List Word} {n : Nat} (h : s.Takes c m) (hm : m.check = false)
    (hcheck : check (s.begun c.verb c.noun m) m (payloadOf m) = none)
    (hact : act (s.begun c.verb c.noun m) m (payloadOf m) = (e, .done out n)) :
    ∃ o ws k, submit c.verb c.noun (process c check act echo) m s = e.complete m cDone 0 o ws k := by
  obtain ⟨s0, hsubmit, hs0⟩ := submit_of_takes (process c check act echo) h
  obtain ⟨hwords, hcommon⟩ := h.begun
  rw [hsubmit]
  unfold process
  simp only [hs0, hwords, hcommon, hcheck, hact, hm, Bool.false_eq_true, if_false]
  exact ⟨_, complete_ite ..⟩

theorem submit_of_yielded {out : List Word} {ranks : Nat} (h : s.Takes c m) (hm : m.check = false)
    (hcheck : check (s.begun c.verb c.noun m) m (payloadOf m) = none)
    (hact : act (s.begun c.verb c.noun m) m (payloadOf m) = (e, .yielded ranks out)) :
    ∃ o ws k, submit c.verb c.noun (process c check act echo) m s = e.complete m cYielded ranks o ws k := by
  obtain ⟨s0, hsubmit, hs0⟩ := submit_of_takes (process c check act echo) h
  obtain ⟨hwords, hcommon⟩ := h.begun
  rw [hsubmit]
  unfold process
  simp only [hs0, hwords, hcommon, hcheck, hact, hm, Bool.false_eq_true, if_false]
  exact ⟨_, complete_ite ..⟩

/-- An ACCEPTED command is outstanding from its reply on (R456). -/
def State.issued (s : State) (c : CmdSpec) (m : Sentence) : State :=
  { s with mb := { s.mb with outstanding := s.mb.outstanding ++ [outstOf c m] } }

theorem submit_of_accepted {out : List Word} (h : s.Takes c m) (hm : m.check = false)
    (hcheck : check (s.begun c.verb c.noun m) m (payloadOf m) = none)
    (hact : act (s.begun c.verb c.noun m) m (payloadOf m) = (e, .accepted out))
    (hticket : ticketCheck m (s.begun c.verb c.noun m) = none) :
    ∃ o ws k, submit c.verb c.noun (process c check act echo) m s = (e.issued c m).complete m cAccepted 0 o ws k := by
  obtain ⟨s0, hsubmit, hs0⟩ := submit_of_takes (process c check act echo) h
  obtain ⟨hwords, hcommon⟩ := h.begun
  rw [hsubmit]
  unfold process
  simp only [hs0, hwords, hcommon, hcheck, hact, hm, hticket, Bool.false_eq_true, false_and, if_false]
  exact ⟨_, _, _, rfl⟩

end

/-! Replies. -/

/-- The mailbox of a command whose reply has been given. -/
theorem State.complete_replied {s e : State} {m : Sentence} {c : CmdSpec} (code detail : Nat) (o : Obj) (ws : List Word) (k : Nat)
    (hbox : e.mb.box = (s.begun c.verb c.noun m).mb.box) : Replied s (e.complete m code detail o ws k) m code detail := by
  have hseq : (e.boxAt m.req m.mbx).seq = (s.boxAt m.req m.mbx).seq := by
    have hbegun := congrArg Box.seq (s.boxAt_begun c.verb c.noun m)
    rw [State.boxAt, ← hbox] at hbegun
    exact hbegun
  have hreply : ∀ u : State, u.boxAt m.req m.mbx = { e.boxAt m.req m.mbx with
      payload := putWords (e.boxAt m.req m.mbx).payload 0 ws, resp := Word.nat (m.tag.toNat + k * 65536), info := e.info o
      status := Word.nat (code + detail * 256), seq := (e.boxAt m.req m.mbx).seq + 1, state := .complete } →
      Replied s u m code detail := by
    intro u hu
    refine ⟨by rw [hu], by rw [hu], ?_⟩
    rw [hu, ← hseq]
  refine hreply _ ?_
  unfold State.complete
  extract_lets s1 mb s2
  have hs2 : s2.boxAt m.req m.mbx = s1.boxAt m.req m.mbx := rfl
  split
  · exact hs2.trans (State.boxAt_modBox_self ..)
  · have hmb : s2.mb = (s2.edge m.req m.mbx).mb := (s2.edge_frame m.req m.mbx).1 .mb rfl
    have hbox : (s2.edge m.req m.mbx).boxAt m.req m.mbx = s2.boxAt m.req m.mbx :=
      congrArg (fun b : Mb => tget b.box boxDflt (boxKey m.req m.mbx)) hmb.symm
    exact hbox.trans (hs2.trans (State.boxAt_modBox_self ..))

end Sys2Proof.Machine
end

section
/-! PROOFS. SET on the parameter tables (O38; R69, R70, R449, R452), and the switch of the test slices (R655, R661). -/

namespace Sys2Proof.Machine

/-! Parameters. -/

theorem State.param_setParam (s : State) (n i e n' i' e' : Nat) (w : Word) : (s.setParam n i e w).param n' i' e' =
    if paramKey n' i' e' = paramKey n i e then w else s.param n' i' e' := tget_tset ..

/-- The changes of a SET depend on the parameters alone. -/
theorem State.applyChanges_params {s t : State} (hparams : s.params = t.params) (hfuses : s.fuses = t.fuses) (n i : Nat)
    (cs : List ParamChange) : (s.applyChanges n i cs).params = (t.applyChanges n i cs).params := by
  unfold State.applyChanges
  induction cs generalizing s t with
  | nil => exact hparams
  | cons c cs ih =>
    refine ih ?_ hfuses
    simp only [State.setParam, hparams, hfuses]

/-- A parameter that no change names keeps its value. -/
theorem State.param_applyChanges_other (s : State) {n i n' i' e' : Nat} {cs : List ParamChange}
    (h : ∀ c ∈ cs, paramKey n i c.1 ≠ paramKey n' i' e') : (s.applyChanges n i cs).param n' i' e' = s.param n' i' e' := by
  refine List.foldlRecOn (motive := fun u : State => u.param n' i' e' = s.param n' i' e') cs _ rfl fun u hu c hc => ?_
  rw [State.param_setParam, if_neg (h c hc).symm, hu]

theorem State.applyChanges_frame (s : State) (n i : Nat) (cs : List ParamChange) : Keep 0x10000 s (s.applyChanges n i cs) :=
  s.applyChanges_keep n i cs rfl (Keep.refl _ _)

/-- The check of the length passes a payload of the mask form that selects rows of the table. -/
theorem State.Takes.parse {c : CmdSpec} {m : Sentence} {s : State} (h : s.Takes c m) (hform : c.form = .mask) (d : Nat) :
    parseMask (paramRows c.noun) m.len.toNat (payloadOf m) ≠ .badLength d := by
  intro hparse
  have hpasses := h.passes
  simp only [commonCheck, Option.or_eq_none_iff] at hpasses
  obtain ⟨-, -, -, -, -, hlen, -⟩ := hpasses
  unfold lenCheck at hlen
  split at hlen
  · cases hlen
  · rw [hform] at hlen
    simp only [hparse] at hlen
    cases hlen

/-- What a command that is taken addresses is in the range of its noun (R450). -/
theorem State.Takes.inst {c : CmdSpec} {m : Sentence} {s : State} (h : s.Takes c m) : c.inst.ok s m.inst.toNat = true := by
  have hpasses := h.passes
  simp only [commonCheck, Option.or_eq_none_iff] at hpasses
  obtain ⟨-, -, -, -, hinst, -⟩ := hpasses
  unfold instCheck at hinst
  split at hinst
  · next hok => exact hok
  · cases hinst

/-! A SET of the mask form. -/

/-- A SET whose effect changes the selected parameters, and beside them neither a parameter nor a mailbox. -/
theorem sets_of {c : Sentence → Instr} {k : CmdSpec} {check : State → Sentence → List Word → Option Refuse}
    {act : State → Sentence → List Word → State × Reply} {echo : State → Nat → List Word} {pre : Sentence → State → Prop}
    (hexec : ∀ m s, exec (c m) s = .next (submit k.verb k.noun (process k check act echo) m s))
    (hact : ∀ m s, pre m s → ∃ n e, act (s.begun k.verb k.noun m) m (payloadOf m) = (e, okDone) ∧
      Keep n ((s.begun k.verb k.noun m).applyChanges k.noun m.inst.toNat (maskChanges k.noun m (payloadOf m))) e ∧
      n.land 0x10080 = 0) : Sets c k check pre := by
  refine ⟨fun rows cs m s htakes hm ⟨hpre, hcheck, hparse⟩ => ?_, fun r m s htakes hm hcheck => ?_⟩
  · obtain ⟨n, e, heq, hkeep, hn⟩ := hact m s hpre
    obtain ⟨o, ws, j, hsubmit⟩ := submit_of_done (echo := echo) htakes hm hcheck heq
    have hmb : (s.begun k.verb k.noun m).mb = e.mb :=
      ((State.applyChanges_frame ..).1 .mb rfl).trans (hkeep.1 .mb (testBit_of_land_zero hn rfl))
    have hchanges : maskChanges k.noun m (payloadOf m) = cs := by rw [maskChanges, hparse]
    have hparams : _ = e.params := hkeep.1 .params (testBit_of_land_zero hn rfl)
    have hcomplete : e.params = (e.complete m cDone 0 o ws j).params := (State.complete_frame ..).1 .params rfl
    refine ⟨_, (hexec m s).trans (congrArg Host.Outcome.next hsubmit), State.complete_replied cDone 0 o ws j (by rw [hmb]), ?_⟩
    rw [← hcomplete, ← hparams, hchanges]
    exact State.applyChanges_params ((s.begun_frame ..).1 .params rfl).symm ((s.begun_frame ..).1 .fuses rfl).symm ..
  · obtain ⟨o, hsubmit⟩ := submit_of_refused (act := act) (echo := echo) htakes hcheck
    have hparams : s.params = ((s.begun k.verb k.noun m).complete m r.code r.detail o [] 0).params :=
      ((s.begun_frame ..).1 .params rfl).trans ((State.complete_frame ..).1 .params rfl)
    exact ⟨_, (hexec m s).trans (congrArg Host.Outcome.next hsubmit), State.complete_replied _ _ o [] 0 rfl, hparams.symm⟩

/-- A SET with no effect beside its parameters. -/
theorem sets_of_setAct {c : Sentence → Instr} {k : CmdSpec} {check : State → Sentence → List Word → Option Refuse}
    {echo : State → Nat → List Word}
    (hexec : ∀ m s, exec (c m) s = .next (submit k.verb k.noun (process k check (setAct k.noun) echo) m s)) :
    Sets c k check fun _ _ => True :=
  sets_of hexec fun _ _ _ => ⟨0, _, rfl, Keep.refl _ _, rfl⟩

/-! The tables with an effect beside their parameters. -/

theorem setLrxCfg_sets : Sets .setLrxCfg specSetLrxCfg checkLoopback fun _ _ => True :=
  sets_of (fun _ _ => rfl) fun _ _ _ =>
    ⟨0x2601b985b08, _, rfl, State.follow_keep _ rfl (State.setGain_keep _ _ rfl (Keep.refl _ _)), rfl⟩

theorem setLtxCfg_sets : Sets .setLtxCfg specSetLtxCfg checkLtxCfg fun _ _ => True :=
  sets_of (fun _ _ => rfl) fun _ _ _ =>
    ⟨0x2601b905b08, _, rfl, State.follow_keep _ rfl (Keep.ite (Keep.modLtx rfl (Keep.refl _ _)) (Keep.refl _ _)), rfl⟩

theorem setHslCfg_sets : Sets .setHslCfg specSetHslCfg checkHslCfg fun _ _ => True := by
  refine sets_of (fun _ _ => rfl) fun m s _ => ⟨0xc000000, _, rfl, ?_, rfl⟩
  split
  · exact Keep.refl _ _
  · exact Keep.ite (Keep.modHost (.inl rfl) rfl (Keep.refl _ _)) (Keep.refl _ _)

theorem setOcuAx_sets : Sets .setOcuAx specSetOcuAx checkOcuAx fun _ _ => True :=
  sets_of (fun _ _ => rfl) fun _ _ _ => ⟨0x2002000300, _, rfl, State.opticsCheck_keep _ rfl (Keep.refl _ _), rfl⟩

theorem setOcuMn_sets : Sets .setOcuMn specSetOcuMn checkOcuMn fun _ _ => True :=
  sets_of (fun _ _ => rfl) fun _ _ _ => ⟨0x2000000000, _, rfl, Keep.modMn rfl (Keep.refl _ _), rfl⟩

theorem setOcuLoop_sets : Sets .setOcuLoop specSetOcuLoop checkOcuLoop fun _ _ => True :=
  sets_of (fun _ _ => rfl) fun _ _ _ =>
    ⟨0x2002000300, _, rfl, State.opticsCheck_keep _ rfl (Keep.ite (Keep.refl _ _) (Keep.modLoop rfl (Keep.refl _ _))), rfl⟩

/-- A change that needs no By-swap acts at once (R137). -/
theorem actKparam_of_set {s : State} {m : Sentence} {ws : List Word} (h : swapFollows s m ws = false) :
    actKparam s m ws = setAct nSeaKparam s m ws := by
  unfold actKparam
  rw [if_neg (by simp [h])]
  rfl

theorem setSeaKparam_sets : Sets .setSeaKparam specSetSeaKparam checkKparam
    fun m s => swapFollows (s.begun vSet nSeaKparam m) m (payloadOf m) = false :=
  sets_of (fun _ _ => rfl) fun _ _ hfollows => ⟨0, _, actKparam_of_set hfollows, Keep.refl _ _, rfl⟩

/-! The test slices: row 2 of TST_CFG (R661). -/

/-- Rows 0 and 1 of TST_CFG hold elements 0 and 1. -/
theorem maskElems_tstRows {sel : List Nat} (hsel : ∀ i ∈ sel, i = 0 ∨ i = 1) : ∀ p ∈ maskElems tstRows sel, p.1 < 2 := by
  have hrow : ∀ i, i = 0 ∨ i = 1 → ∀ p ∈ maskElems tstRows [i], p.1 < 2 := by
    rintro i (rfl | rfl) <;> decide
  intro p hp
  obtain ⟨i, hi, hp⟩ := List.mem_flatMap.1 hp
  exact hrow i (hsel i hi) p (List.mem_flatMap.2 ⟨i, List.mem_singleton_self i, hp⟩)

/-- Changes of rows other than row 2 leave the slices ON or OFF. -/
theorem maskChanges_tstRows {m : Sentence} {ws : List Word} (h : (maskSelected nTstCfg ws).contains 2 = false) :
    ∀ c ∈ maskChanges nTstCfg m ws, c.1 < 2 := by
  intro c hc
  unfold maskChanges at hc
  split at hc
  case h_2 => cases hc
  case h_1 rows cs hparse =>
    unfold parseMask at hparse
    split at hparse
    case h_2 => cases hparse
    case h_1 lo hi vals =>
      have hsel : ∀ i ∈ maskRows tstRows lo hi, i = 0 ∨ i = 1 := by
        intro i hi'
        have hne : i ≠ 2 := fun h2 => by
          have hcontains : (maskSelected nTstCfg (lo :: hi :: vals)).contains i = true := List.contains_iff_mem.2 hi'
          rw [h2, h] at hcontains
          cases hcontains
        have hlt : i < tstRows.length := List.mem_range.1 (List.mem_filter.1 hi').1
        have hlen : tstRows.length = 3 := rfl
        omega
      split at hparse
      · cases hparse
      split at hparse
      · cases hparse
      dsimp only at hparse
      split at hparse
      · cases hparse
      split at hparse
      · obtain ⟨-, rfl⟩ := MaskParse.ok.inj hparse
        obtain ⟨p, hp, rfl⟩ := List.mem_map.1 hc
        exact maskElems_tstRows hsel p.1 (List.of_mem_zip hp).1
      · cases hparse

theorem State.slicesOn_applyChanges (s : State) (i : Nat) {cs : List ParamChange} (h : ∀ c ∈ cs, c.1 < 2) :
    (s.applyChanges nTstCfg i cs).slicesOn = s.slicesOn := by
  have hparam : (s.applyChanges nTstCfg i cs).param nTstCfg 0 2 = s.param nTstCfg 0 2 :=
    s.param_applyChanges_other fun c hc => by have := h c hc; unfold paramKey; omega
  rw [State.slicesOn, State.slicesOn, State.parN, State.parN, hparam]

theorem setTstCfg_sets : Sets .setTstCfg specSetTstCfg (setCheck nTstCfg)
    fun m _ => (maskSelected nTstCfg (payloadOf m)).contains 2 = false := by
  refine sets_of (fun _ _ => rfl) fun m s hsel => ⟨0, _, ?_, Keep.refl _ _, rfl⟩
  have hon := (s.begun vSet nTstCfg m).slicesOn_applyChanges m.inst.toNat (maskChanges_tstRows (m := m) hsel)
  change actTstCfg (s.begun vSet nTstCfg m) m (payloadOf m) = _
  unfold actTstCfg setAct
  dsimp only
  rw [hon]
  cases (s.begun vSet nTstCfg m).slicesOn <;> rfl

/-- The sentence that turns the slices OFF or ON selects their element alone. -/
theorem parse_tstCfg {s : State} {m : Sentence} {w : Word} (htakes : s.Takes specSetTstCfg m) (hw : w = 0 ∨ w = 1)
    (hpayload : payloadOf m = [4, 0, w]) : parseMask (paramRows nTstCfg) m.len.toNat (payloadOf m) = .ok [2] [(2, w)] := by
  have hlen := htakes.parse rfl 2
  rw [hpayload] at hlen ⊢
  by_cases h12 : m.len.toNat = 12
  · rw [h12]
    rcases hw with rfl | rfl <;> decide
  · refine absurd ?_ hlen
    have hels : (maskElems tstRows (maskRows tstRows 4 0)).length = 1 := by decide
    change parseMask tstRows m.len.toNat [4, 0, w] = _
    simp only [parseMask, hels]
    split
    · rfl
    · rw [if_neg (by decide), if_pos (.inl h12)]

/-- Begin, check and effect of the sentence on the slices' element. -/
theorem tstCfg_of_payload {s : State} {m : Sentence} {w : Word} (htakes : s.Takes specSetTstCfg m) (hw : w = 0 ∨ w = 1)
    (hpayload : payloadOf m = [4, 0, w]) : setCheck nTstCfg (s.begun vSet nTstCfg m) m (payloadOf m) = none ∧
      (setAct nTstCfg (s.begun vSet nTstCfg m) m (payloadOf m)).1 = (s.begun vSet nTstCfg m).setParam nTstCfg 0 2 w := by
  have hparse := parse_tstCfg htakes hw hpayload
  have hinst : m.inst.toNat = 0 := by simpa [specSetTstCfg, InstKind.ok] using htakes.inst
  constructor
  · rw [setCheck, maskRange, hparse]
  · rw [setAct, maskChanges, hparse, hinst]
    rfl

theorem State.slicesOn_setParam (s : State) (w : Word) : (s.setParam nTstCfg 0 2 w).slicesOn = (w.toNat == 0) := by
  rw [State.slicesOn, State.parN, State.param_setParam, if_pos rfl]

theorem Keep.param_eq {m : Nat} {s t : State} (h : Keep m s t) (hm : m.land 0x10004 = 0) (n i e : Nat) :
    t.param n i e = s.param n i e := by
  have hparams : s.params = t.params := h.1 .params (testBit_of_land_zero hm rfl)
  have hfuses : s.fuses = t.fuses := h.1 .fuses (testBit_of_land_zero hm rfl)
  simp only [State.param, hparams, hfuses]

/-- What the SET leaves after its effect `e` and its reply. -/
theorem setTstCfg_reply {s e : State} {m : Sentence} {w : Word} (code detail : Nat) (o : Obj) (ws : List Word) (k : Nat)
    (he : Keep 0x10000000300 ((s.begun vSet nTstCfg m).setParam nTstCfg 0 2 w) e) :
    Replied s (e.complete m code detail o ws k) m code detail ∧ (e.complete m code detail o ws k).param nTstCfg 0 2 = w := by
  have hmb : (s.begun vSet nTstCfg m).mb = e.mb := he.1 .mb rfl
  refine ⟨State.complete_replied (c := specSetTstCfg) code detail o ws k (congrArg Mb.box hmb.symm), ?_⟩
  rw [(State.complete_frame ..).param_eq rfl, he.param_eq rfl, State.param_setParam, if_pos rfl]

theorem setTstCfg_carries_off : Carries .setTstCfg specSetTstCfg (fun m s => payloadOf m = [4, 0, 1] ∧ s.slicesOn ∧ m.echo = false)
    fun m s t => Replied s t m cYielded (7 * 16 + sliceKept) ∧ t.param nTstCfg 0 2 = 1 := by
  rintro m s htakes hm ⟨hpayload, hon, -⟩
  obtain ⟨hcheck, hset⟩ := tstCfg_of_payload htakes (.inr rfl) hpayload
  have hbegun : (s.begun vSet nTstCfg m).slicesOn = true := (s.begun_congr _ _ _ State.slicesOn fun _ _ _ _ => rfl).trans hon
  have hact : actTstCfg (s.begun vSet nTstCfg m) m (payloadOf m) =
      (((s.begun vSet nTstCfg m).setParam nTstCfg 0 2 1).relYield 7 objSlices sliceKept 0 (some m.req), .yielded (7 * 16 + sliceKept) []) := by
    unfold actTstCfg
    simp only [hset, hbegun, State.slicesOn_setParam]
    rfl
  obtain ⟨o, ws, k, hsubmit⟩ := submit_of_yielded (echo := setEcho nTstCfg) htakes hm hcheck hact
  exact ⟨_, congrArg Host.Outcome.next hsubmit, setTstCfg_reply _ _ o ws k (State.relYield_frame ..)⟩

/-- A list from which every element with a property is taken once holds none. -/
theorem not_mem_foldl_erase {α : Type} [DecidableEq α] (xs : List α) (p : α → Bool) {x : α} (hx : p x = true) :
    x ∉ (xs.filter p).foldl List.erase xs := by
  rw [← List.diff_eq_foldl, ← List.count_eq_zero, List.count_diff, List.count_filter hx, Nat.sub_self]

/-- The yields that end leave the list of those in force. -/
theorem State.relYieldEnd_yields (s : State) (rank obj : Nat) : (s.relYieldEnd rank obj).tst.yields =
    (s.tst.yields.filter fun y => decide (y.rank = rank ∧ y.obj = obj)).foldl List.erase s.tst.yields := by
  unfold State.relYieldEnd
  generalize (s.tst.yields.filter fun y => decide (y.rank = rank ∧ y.obj = obj)) = ys
  induction ys generalizing s with
  | nil => rfl
  | cons y ys ih =>
    rw [List.foldl_cons, List.foldl_cons, ih]
    have hraise : ∀ (u : State) (d : List Word), (u.raise evRelYieldEnd d).tst = u.tst := fun u d => ((u.raise_frame _ d).1 .tst rfl).symm
    rw [hraise]
    rfl

/-- The yield of the slices has ended. -/
theorem State.relYieldEnd_any (s : State) (rank obj : Nat) :
    ((s.relYieldEnd rank obj).tst.yields.any fun y => y.rank == rank && y.obj == obj) = false := by
  rw [List.any_eq_false]
  intro y hy hmatch
  rw [State.relYieldEnd_yields] at hy
  exact not_mem_foldl_erase _ _ (by simpa using hmatch) hy

theorem setTstCfg_carries_on : Carries .setTstCfg specSetTstCfg (fun m s => payloadOf m = [4, 0, 0] ∧ s.slicesOn = false)
    fun m s t => Replied s t m cDone 0 ∧ t.param nTstCfg 0 2 = 0 ∧
      (t.tst.yields.any fun y => y.rank == 7 && y.obj == objSlices) = false := by
  rintro m s htakes hm ⟨hpayload, hoff⟩
  obtain ⟨hcheck, hset⟩ := tstCfg_of_payload htakes (.inl rfl) hpayload
  have hbegun : (s.begun vSet nTstCfg m).slicesOn = false := (s.begun_congr _ _ _ State.slicesOn fun _ _ _ _ => rfl).trans hoff
  have hact : actTstCfg (s.begun vSet nTstCfg m) m (payloadOf m) =
      (((s.begun vSet nTstCfg m).setParam nTstCfg 0 2 0).relYieldEnd 7 objSlices, okDone) := by
    unfold actTstCfg
    simp only [hset, hbegun, State.slicesOn_setParam]
    rfl
  obtain ⟨o, ws, k, hsubmit⟩ := submit_of_done (echo := setEcho nTstCfg) htakes hm hcheck hact
  obtain ⟨hreplied, hparam⟩ := setTstCfg_reply cDone 0 o ws k (State.relYieldEnd_frame ..)
  refine ⟨_, congrArg Host.Outcome.next hsubmit, hreplied, hparam, ?_⟩
  have htst := (State.complete_frame (((s.begun vSet nTstCfg m).setParam nTstCfg 0 2 0).relYieldEnd 7 objSlices) m cDone 0 o ws k).1 .tst rfl
  rw [← show _ = _ from htst]
  exact State.relYieldEnd_any ..

/-- Settles O38, from one lemma for each table with an effect of its own. -/
theorem settingsComplete : Obligations.SettingsComplete :=
  ⟨setLrxCfg_sets, sets_of_setAct fun _ _ => rfl, setLtxCfg_sets, setHslCfg_sets, sets_of_setAct fun _ _ => rfl,
    sets_of_setAct fun _ _ => rfl, sets_of_setAct fun _ _ => rfl, sets_of_setAct fun _ _ => rfl, sets_of_setAct fun _ _ => rfl,
    sets_of_setAct fun _ _ => rfl, sets_of_setAct fun _ _ => rfl, setOcuAx_sets, setOcuMn_sets, setOcuLoop_sets, setSeaKparam_sets,
    setTstCfg_sets, setTstCfg_carries_off, setTstCfg_carries_on⟩

end Sys2Proof.Machine
end

section
/-! PROOFS. What a command leaves, from its check and its effect: DONE, ACCEPTED (R445, R447) and the refusals (R453). -/

namespace Sys2Proof.Machine

theorem State.outstanding_modBox (s : State) (r : Requester) (n : Nat) (f : Box → Box) :
    (s.modBox r n f).mb.outstanding = s.mb.outstanding := rfl

/-- The begin of a command ends no command. -/
theorem State.begun_outstanding (s : State) (verb noun : Nat) (m : Sentence) :
    (s.begun verb noun m).mb.outstanding = s.mb.outstanding := by
  have hcount : ∀ u : State, (u.pmcEvent 0x010 1).mb.outstanding = u.mb.outstanding :=
    fun u => (congrArg Mb.outstanding ((u.pmcEvent_frame 0x010 1).1 .mb rfl)).symm
  rw [State.begun, hcount, State.outstanding_modBox, State.outstanding_modBox]

theorem ticketCheck_begun (s : State) (verb noun : Nat) (m : Sentence) :
    ticketCheck m (s.begun verb noun m) = ticketCheck m s := by
  have hof : (s.begun verb noun m).outstandingOf m.req = s.outstandingOf m.req := by
    rw [State.outstandingOf, State.begun_outstanding]
    rfl
  rw [ticketCheck, hof]
  rfl

theorem State.complete_outstanding (s : State) (m : Sentence) (code detail : Nat) (o : Obj) (ws : List Word) (k : Nat) :
    (s.complete m code detail o ws k).mb.outstanding = s.mb.outstanding := by
  unfold State.complete
  extract_lets s1 mb s2
  split
  · rfl
  · exact (congrArg Mb.outstanding ((s2.edge_frame m.req m.mbx).1 .mb rfl)).symm.trans rfl

/-- A command that is taken stands in a mode of its class (R439). -/
theorem State.Takes.mode {c : CmdSpec} {m : Sentence} {s : State} (h : s.Takes c m) : c.modes.ok s = true := by
  have hpasses := h.passes
  simp only [commonCheck, Option.or_eq_none_iff] at hpasses
  obtain ⟨-, -, -, -, -, -, hmode⟩ := hpasses
  rw [modeCheck, if_neg h.started] at hmode
  split at hmode
  · next hok => exact hok
  · cases hmode

theorem State.lineAt_begun (s : State) (verb noun : Nat) (m : Sentence) (l : Nat) : (s.begun verb noun m).lineAt l = s.lineAt l :=
  s.begun_congr verb noun m (State.lineAt · l) fun _ _ _ _ => rfl

/-- An effect that leaves the mailboxes. -/
theorem Keep.box_eq {s t : State} (h : Keep 0xFFFFFFFFFF7F s t) : t.mb.box = s.mb.box := congrArg Mb.box (h.1 .mb rfl).symm

/-- What the consequences of a change and a reply leave. -/
theorem State.follow_replied {s t : State} (h : Keep 0x20000001b80 s.follow t) : Keep 0x2601b905b88 s t :=
  h.step rfl (s.follow_keep rfl (Keep.refl _ _))

section
variable {c : Sentence → Instr} {k : CmdSpec} {check : State → Sentence → List Word → Option Refuse}
  {act : State → Sentence → List Word → State × Reply} {echo : State → Nat → List Word} {pre : Sentence → State → Prop}
  {post : Sentence → State → State → Prop}
  (hexec : ∀ m s, exec (c m) s = .next (submit k.verb k.noun (process k check act echo) m s))
include hexec

/-- DONE: the check passes, and what the effect `e` leaves meets the postcondition, whatever the reply adds to it. -/
theorem carries_done (h : ∀ m s, s.Takes k m → pre m s → check (s.begun k.verb k.noun m) m (payloadOf m) = none ∧
      ∃ e out n, act (s.begun k.verb k.noun m) m (payloadOf m) = (e, .done out n) ∧
        e.mb.box = (s.begun k.verb k.noun m).mb.box ∧ ∀ t, Keep 0x20000001b80 e t → post m s t) :
    Carries c k pre fun m s t => Replied s t m cDone 0 ∧ post m s t := by
  intro m s htakes hm hpre
  obtain ⟨hcheck, e, out, n, hact, hbox, hpost⟩ := h m s htakes hpre
  obtain ⟨o, ws, j, hsubmit⟩ := submit_of_done (echo := echo) htakes hm hcheck hact
  exact ⟨_, (hexec m s).trans (congrArg Host.Outcome.next hsubmit), State.complete_replied cDone 0 o ws j hbox,
    hpost _ (State.complete_frame ..)⟩

/-- ACCEPTED: the command is outstanding beside what its effect leaves. -/
theorem carries_accepted (h : ∀ m s, s.Takes k m → pre m s → check (s.begun k.verb k.noun m) m (payloadOf m) = none ∧
      ticketCheck m s = none ∧
      ∃ e out, act (s.begun k.verb k.noun m) m (payloadOf m) = (e, .accepted out) ∧
        e.mb.box = (s.begun k.verb k.noun m).mb.box ∧
        ∀ t, Keep 0x20000001b80 (e.issued k m) t → outstOf k m ∈ t.mb.outstanding → post m s t) :
    Carries c k pre fun m s t => Replied s t m cAccepted 0 ∧ post m s t := by
  intro m s htakes hm hpre
  obtain ⟨hcheck, hticket, e, out, hact, hbox, hpost⟩ := h m s htakes hpre
  obtain ⟨o, ws, j, hsubmit⟩ := submit_of_accepted (echo := echo) htakes hm hcheck hact ((ticketCheck_begun ..).trans hticket)
  refine ⟨_, (hexec m s).trans (congrArg Host.Outcome.next hsubmit), State.complete_replied cAccepted 0 o ws j hbox,
    hpost _ (State.complete_frame ..) ?_⟩
  rw [State.complete_outstanding]
  exact List.mem_append_right _ (List.mem_singleton_self _)

omit hexec in
theorem Carries.imp {post' : Sentence → State → State → Prop} (h : Carries c k pre post)
    (himp : ∀ m s t, post m s t → post' m s t) : Carries c k pre post' :=
  fun m s htakes hm hpre => (h m s htakes hm hpre).imp fun t ht => ⟨ht.1, himp m s t ht.2⟩

/-- A refusal leaves what the begin of the command does not change. -/
theorem carries_refused {code detail : Nat} (h : ∀ m s, s.Takes k m → pre m s →
      check (s.begun k.verb k.noun m) m (payloadOf m) = some { code := code, detail := detail } ∧
        ∀ t, Keep 0x20000001b80 s t → post m s t) :
    Carries c k pre fun m s t => Replied s t m code detail ∧ post m s t := by
  intro m s htakes _ hpre
  obtain ⟨hcheck, hpost⟩ := h m s htakes hpre
  obtain ⟨o, hsubmit⟩ := submit_of_refused (act := act) (echo := echo) htakes hcheck
  exact ⟨_, (hexec m s).trans (congrArg Host.Outcome.next hsubmit), State.complete_replied code detail o [] 0 rfl,
    hpost _ ((State.complete_frame ..).step rfl ((s.begun_frame ..).step rfl (Keep.refl _ _)))⟩

end

end Sys2Proof.Machine
end

section
/-! PROOFS. The commands on line and host lanes: RESTART of acquisition, hunt and training (R120, R220, R294), the transmitter forced
OFF and released (R242). -/

namespace Sys2Proof.Machine

/-! RESTART of a line lane's acquisition. -/

/-- After the end of lock the decoder is out of lock. -/
theorem State.lockEnd_lock (s : State) (l cause : Nat) : ((s.lockEnd l cause).lineAt l).sdf.lock = false := by
  unfold State.lockEnd
  split
  · rw [← (State.raise_frame ..).1 .lnSdf rfl, State.lineAt_bump, State.huntStart, State.lineAt_modSdf_self]
  · next h => simpa using h

/-- An acquisition leaves the state of its lane and the lock of its decoder. -/
theorem State.acquire_lineState (s : State) (l : Nat) (cold : Bool) :
    ((s.acquire l cold).lineAt l).state = (s.lineAt l).state ∧ ((s.acquire l cold).lineAt l).sdf.lock = (s.lineAt l).sdf.lock := by
  cases cold <;> simp [State.acquire, State.lineAt_bump, State.loadPreset, State.resetTable]

/-- A failed lane reaches the events and the faults of its port, and no lane. -/
theorem State.portFail_match_frame (s : State) (p : Option Nat) (ls hs : List Nat) (ev : Nat) :
    Keep 0x20020300 s (match (generalizing := false) p with | none => s | some p => s.portFail p ls hs ev) := by
  cases p with
  | none => exact Keep.refl _ _
  | some p => exact State.portFail_frame ..

/-- Where the restart of an acquisition leads: an UP lane enters ACQUIRE and its port follows. -/
theorem State.restartAcq_cases (s : State) (l : Nat) (cold : Bool) :
    ((s.lineAt l).state = .up → Keep 0x20020300
      (((s.lockEnd l lostRestart).modLine l fun x => { x with state := .acquire }).acquire l cold) (s.restartAcq l cold)) ∧
    ((s.lineAt l).state ≠ .up → s.restartAcq l cold = (s.lockEnd l lostRestart).acquire l cold) := by
  have hstate := (s.lockEnd_frame l lostRestart).lineState_eq rfl l
  unfold State.restartAcq
  extract_lets u s1
  rw [show (u.lineAt l).state = (s.lineAt l).state from hstate]
  refine ⟨fun hup => ?_, fun hup => if_neg hup⟩
  rw [if_pos hup]
  exact State.portFail_match_frame ..

/-- A restarted acquisition is in step 1, out of lock; a lane that was UP is in ACQUIRE. -/
theorem State.restartAcq_line (s : State) (l : Nat) (cold : Bool) :
    ((s.restartAcq l cold).lineAt l).lrx.step = 1 ∧ ((s.restartAcq l cold).lineAt l).lrx.cold = cold ∧
      ((s.restartAcq l cold).lineAt l).sdf.lock = false ∧
      ((s.restartAcq l cold).lineAt l).state = if (s.lineAt l).state = .up then .acquire else (s.lineAt l).state := by
  obtain ⟨hup, hother⟩ := s.restartAcq_cases l cold
  have hstate := (s.lockEnd_frame l lostRestart).lineState_eq rfl l
  have hlock := s.lockEnd_lock l lostRestart
  generalize s.lockEnd l lostRestart = u at *
  have hacquire : ∀ v : State, (v.lineAt l).sdf.lock = false → ((v.acquire l cold).lineAt l).lrx.step = 1 ∧
      ((v.acquire l cold).lineAt l).lrx.cold = cold ∧ ((v.acquire l cold).lineAt l).sdf.lock = false ∧
      ((v.acquire l cold).lineAt l).state = (v.lineAt l).state := by
    intro v hv
    obtain ⟨hstep, hcold⟩ := v.acquire_step l cold
    obtain ⟨hstate, hlock⟩ := v.acquire_lineState l cold
    exact ⟨hstep, hcold, hlock.trans hv, hstate⟩
  split
  case isTrue h =>
    have hkeep := hup h
    rw [← hkeep.1 .lnRxPower rfl l, ← hkeep.1 .lnSdf rfl l, hkeep.lineState_eq rfl l]
    refine (hacquire _ (by rwa [State.lineAt_modLine_self])).imp_right fun hrest => hrest.imp_right fun hrest => hrest.imp_right ?_
    intro hmod
    rw [hmod, State.lineAt_modLine_self]
  case isFalse h =>
    rw [hother h, ← hstate]
    exact hacquire u hlock

theorem restartLrxAcq_carries (cold : Bool) : Carries .restartLrxAcq specRestartLrxAcq
    (fun m s => (s.lineAt m.inst.toNat).state ≠ .down ∧ payloadOf m = [if cold then 0 else 1])
    fun m s t => Replied s t m cDone 0 ∧ (t.lineAt m.inst.toNat).lrx.step = 1 ∧ (t.lineAt m.inst.toNat).lrx.cold = cold ∧
      (t.lineAt m.inst.toNat).sdf.lock = false ∧
      (t.lineAt m.inst.toNat).state = if (s.lineAt m.inst.toNat).state = .up then .acquire else (s.lineAt m.inst.toNat).state := by
  refine carries_done (fun _ _ => rfl) fun m s _ ⟨hstate, hpayload⟩ => ?_
  have hcold : decide ((payloadOf m).getD 0 0 = 0) = cold := by rw [hpayload]; cases cold <;> rfl
  refine ⟨?_, _, _, _, rfl, (State.follow_keep _ rfl (State.restartAcq_keep _ _ _ rfl (Keep.refl _ _))).box_eq, fun t ht => ?_⟩
  · change (if ((s.begun vRestart nLrxAcq m).lineAt m.inst.toNat).state = .down then _ else _) = none
    rw [State.lineAt_begun, if_neg hstate, hpayload]
    cases cold <;> rfl
  · have hkeep := State.follow_replied ht
    change Keep _ ((s.begun vRestart nLrxAcq m).restartAcq _ _) _ at hkeep
    rw [hcold] at hkeep
    rw [hkeep.lrx_eq rfl _ Lrx.step fun _ => rfl, hkeep.lrx_eq rfl _ Lrx.cold fun _ => rfl, ← hkeep.1 .lnSdf rfl,
      hkeep.lineState_eq rfl, ← s.lineAt_begun vRestart nLrxAcq m]
    exact State.restartAcq_line ..

theorem restartLrxAcq_carries_down : Carries .restartLrxAcq specRestartLrxAcq (fun m s => (s.lineAt m.inst.toNat).state = .down)
    fun m s t => Replied s t m cStateRefused 2 := by
  refine Carries.imp (carries_refused (post := fun _ _ _ => True) (fun _ _ => rfl) fun m s _ hdown => ⟨?_, fun _ _ => trivial⟩)
    fun _ _ _ ht => ht.1
  change (if ((s.begun vRestart nLrxAcq m).lineAt m.inst.toNat).state = .down then _ else _) = _
  rw [State.lineAt_begun, if_pos hdown]

/-! RESTART of the decoder's hunt. -/

/-- Where the restart of a hunt leads: an UP lane enters ACQUIRE and its port follows. -/
theorem State.restartHunt_cases (s : State) (l : Nat) :
    ((s.lineAt l).state = .up → Keep 0x20020300
      ((((s.lockEnd l lostRestart).modSdf l fun x => { x with prev := none }).huntStart l).modLine l fun x =>
        { x with state := .acquire, lrx := { x.lrx with step := 7, since :=
          (((s.lockEnd l lostRestart).modSdf l fun x => { x with prev := none }).huntStart l).tku.bcnt } }) (s.restartHunt l)) ∧
    ((s.lineAt l).state ≠ .up → s.restartHunt l =
      ((s.lockEnd l lostRestart).modSdf l fun x => { x with prev := none }).huntStart l) := by
  have htku : s.tku = (((s.lockEnd l lostRestart).modSdf l fun x => { x with prev := none }).huntStart l).tku :=
    (s.lockEnd_frame l lostRestart).1 .tku rfl
  unfold State.restartHunt
  extract_lets up s1 s2 s3
  refine ⟨fun hup => ?_, fun hup => if_neg hup⟩
  rw [if_pos hup, ← htku]
  exact State.portFail_match_frame ..

/-- A restarted hunt begins a full sweep out of lock; a lane that was UP is in ACQUIRE. -/
theorem State.restartHunt_line (s : State) (l : Nat) :
    ((s.restartHunt l).lineAt l).sdf.lock = false ∧ ((s.restartHunt l).lineAt l).sdf.prev = none ∧
      ((s.restartHunt l).lineAt l).sdf.off = [0, 0, 0, 0] ∧
      ((s.restartHunt l).lineAt l).state = if (s.lineAt l).state = .up then .acquire else (s.lineAt l).state := by
  obtain ⟨hup, hother⟩ := s.restartHunt_cases l
  have hstate := (s.lockEnd_frame l lostRestart).lineState_eq rfl l
  have hlock := s.lockEnd_lock l lostRestart
  generalize s.lockEnd l lostRestart = u at *
  split
  case isTrue h =>
    have hkeep := hup h
    rw [← hkeep.1 .lnSdf rfl l, hkeep.lineState_eq rfl l]
    simp [State.huntStart, hlock]
  case isFalse h =>
    rw [hother h, ← hstate]
    simp [State.huntStart, hlock]

theorem restartSdfHunt_carries : Carries .restartSdfHunt specRestartSdfHunt (fun m s => (s.lineAt m.inst.toNat).state ≠ .down)
    fun m s t => Replied s t m cDone 0 ∧ (t.lineAt m.inst.toNat).sdf.lock = false ∧ (t.lineAt m.inst.toNat).sdf.prev = none ∧
      (t.lineAt m.inst.toNat).sdf.off = [0, 0, 0, 0] ∧
      (t.lineAt m.inst.toNat).state = if (s.lineAt m.inst.toNat).state = .up then .acquire else (s.lineAt m.inst.toNat).state := by
  refine carries_done (fun _ _ => rfl) fun m s _ hstate => ?_
  refine ⟨?_, _, _, _, rfl, (State.follow_keep _ rfl (State.restartHunt_keep _ _ rfl (Keep.refl _ _))).box_eq, fun t ht => ?_⟩
  · change (if ((s.begun vRestart nSdfHunt m).lineAt m.inst.toNat).state = .down then _ else _) = none
    rw [State.lineAt_begun, if_neg hstate]
  · have hkeep := State.follow_replied ht
    rw [← hkeep.1 .lnSdf rfl, hkeep.lineState_eq rfl, ← s.lineAt_begun vRestart nSdfHunt m]
    exact State.restartHunt_line ..

/-! RESTART of a host lane's training. -/

/-- Where a restart of training leads: the port of an UP lane follows. -/
theorem State.restartTrain_frame (s : State) (h : Nat) (warm : Bool) :
    Keep 0x20020300 ((s.modHost h fun x => { x with warmRuns := 0 }).hostAcquire h warm) (s.restartTrain h warm) := by
  unfold State.restartTrain
  extract_lets was s1
  split
  · exact State.portFail_frame ..
  · exact Keep.refl _ _

theorem State.hostAt_bump (s : State) (g i k h : Nat) : (s.bump g i k).hostAt h = s.hostAt h := rfl

/-- A restarted training begins with step 1 of an acquisition. -/
theorem State.restartTrain_host {s : State} {h : Nat} {warm : Bool} (hlive : s.live = true) :
    ((s.restartTrain h warm).hostAt h).state = .acquire ∧ ((s.restartTrain h warm).hostAt h).step = 1 ∧
      ((s.restartTrain h warm).hostAt h).warm = warm ∧ ((s.restartTrain h warm).hostAt h).warmRuns = 0 := by
  have hlive' : (s.modHost h fun x => { x with warmRuns := 0 }).live = true := hlive
  have hzero : ((s.modHost h fun x => { x with warmRuns := 0 }).hostAt h).warmRuns = 0 := by rw [State.hostAt_modHost_self]
  rw [← (s.restartTrain_frame h warm).1 .hostTx rfl h]
  generalize (s.modHost h fun x => { x with warmRuns := 0 }) = u at *
  cases warm <;> simp [State.hostAcquire, State.hostAt_bump, hlive', hzero]

/-- A field of a host lane that is no part of what it sends. -/
theorem Keep.host_eq {α : Type} {m : Nat} {s t : State} (h : Keep m s t) (hm : m.testBit 26 = false) (l : Nat) (f : HostLane → α)
    (hf : ∀ x : HostLane, f x.rest = f x) : f (t.hostAt l) = f (s.hostAt l) := by
  rw [← hf, ← h.1 .hostRest hm l, hf]

theorem restartHslTrain_carries (warm : Bool) : Carries .restartHslTrain specRestartHslTrain
    (fun m s => (s.hostAt m.inst.toNat).state ≠ .down ∧ payloadOf m = [if warm then 1 else 0])
    fun m s t => Replied s t m cDone 0 ∧ (t.hostAt m.inst.toNat).state = .acquire ∧ (t.hostAt m.inst.toNat).step = 1 ∧
      (t.hostAt m.inst.toNat).warm = warm ∧ (t.hostAt m.inst.toNat).warmRuns = 0 := by
  refine carries_done (fun _ _ => rfl) fun m s htakes ⟨hstate, hpayload⟩ => ?_
  have hhost : (s.begun vRestart nHslTrain m).hostAt m.inst.toNat = s.hostAt m.inst.toNat :=
    s.begun_congr _ _ _ (State.hostAt · _) fun _ _ _ _ => rfl
  have hwarm : decide ((payloadOf m).getD 0 0 = 1) = warm := by rw [hpayload]; cases warm <;> rfl
  refine ⟨?_, _, _, _, rfl, (State.follow_keep _ rfl (State.restartTrain_keep _ _ _ rfl (Keep.refl _ _))).box_eq, fun t ht => ?_⟩
  · change (if ((s.begun vRestart nHslTrain m).hostAt m.inst.toNat).state = .down then _ else _) = none
    rw [hhost, if_neg hstate, hpayload]
    cases warm <;> rfl
  · have hkeep := State.follow_replied ht
    change Keep _ ((s.begun vRestart nHslTrain m).restartTrain _ _) _ at hkeep
    rw [hwarm] at hkeep
    rw [hkeep.host_eq rfl _ HostLane.state fun _ => rfl, hkeep.host_eq rfl _ HostLane.step fun _ => rfl,
      hkeep.host_eq rfl _ HostLane.warm fun _ => rfl, hkeep.host_eq rfl _ HostLane.warmRuns fun _ => rfl]
    exact State.restartTrain_host (((s.begun_frame vRestart nHslTrain m).live_eq rfl).trans htakes.mode)

end Sys2Proof.Machine
end

section
/-! PROOFS. A line transmitter forced OFF and released (R242): SQUELCH and RELEASE on LTX_OUT. -/

namespace Sys2Proof.Machine

/-- A property that one element of a list brings about, and that the others keep, holds after the list. -/
theorem foldl_of_mem {α β : Type} {f : β → α → β} {P Q : β → Prop} {a : α} {xs : List α} {b : β} (ha : a ∈ xs) (hb : P b)
    (hP : ∀ b x, P b → P (f b x)) (hreach : ∀ b, P b → Q (f b a)) (hQ : ∀ b x, P b → Q b → Q (f b x)) :
    P (xs.foldl f b) ∧ Q (xs.foldl f b) := by
  induction xs generalizing b with
  | nil => cases ha
  | cons x xs ih =>
    rcases List.mem_cons.1 ha with rfl | ha
    · exact List.foldlRecOn (motive := fun b => P b ∧ Q b) xs f ⟨hP b a hb, hreach b hb⟩ fun b hb x _ =>
        ⟨hP b x hb.1, hQ b x hb.1 hb.2⟩
    · exact ih ha (hP b x hb)

/-! A transmitter follows its lane (R234 to R238): whether it is forced OFF, and what that makes of its state. -/

/-- Of the transmitters at most lane `l`'s is another, and whether it is forced OFF is the same. -/
def State.TxOf (l : Nat) (s t : State) : Prop :=
  (∀ k, k ≠ l → (t.lineAt k).ltx = (s.lineAt k).ltx) ∧ (t.lineAt l).ltx.forced = (s.lineAt l).ltx.forced

theorem State.TxOf.refl (l : Nat) (s : State) : s.TxOf l s := ⟨fun _ _ => rfl, rfl⟩

theorem State.TxOf.modLtx {l : Nat} {s t : State} (h : s.TxOf l t) {f : Ltx → Ltx} (hf : ∀ x, (f x).forced = x.forced) :
    s.TxOf l (t.modLtx l f) :=
  ⟨fun k hk => by rw [State.lineAt_modLtx, if_neg hk]; exact h.1 k hk, by rw [State.lineAt_modLtx, if_pos rfl, ← h.2]; exact hf _⟩

theorem State.TxOf.of_keep {l m : Nat} {s t u : State} (h : s.TxOf l t) (hkeep : Keep m t u) (hm : m.testBit 23 = false) :
    s.TxOf l u :=
  ⟨fun k hk => (hkeep.1 .lnLtx hm k).symm.trans (h.1 k hk), by rw [← hkeep.1 .lnLtx hm l, h.2]⟩

theorem State.endEnable_txOf (s : State) (l : Nat) (c : TxCause) : s.TxOf l (s.endEnable l c) := by
  unfold State.endEnable
  split
  · refine State.TxOf.of_keep (State.TxOf.of_keep ?_ (State.opticsStop_frame ..) rfl) (State.raise_frame ..) rfl
    exact (State.TxOf.refl l s).modLtx fun _ => rfl
  · exact (State.TxOf.refl l s).modLtx fun _ => rfl

theorem State.syncTxState_txOf (s : State) (l : Nat) (c : TxCause) : s.TxOf l (s.syncTxState l c) := by
  have hmod : ∀ f : Ltx → Ltx, (∀ x, (f x).forced = x.forced) → s.TxOf l (s.modLtx l f) :=
    fun f hf => (State.TxOf.refl l s).modLtx hf
  unfold State.syncTxState
  dsimp only
  split <;> split
  · split
    · exact hmod _ fun _ => rfl
    · exact State.TxOf.refl l s
  · exact hmod _ fun _ => rfl
  · exact State.TxOf.refl l s
  · exact s.endEnable_txOf l c
  · exact hmod _ fun _ => rfl
  · exact hmod _ fun _ => rfl
  · exact State.TxOf.refl l s

/-- A transmitter that is forced OFF ramps down. -/
theorem State.syncTxState_forced {s : State} {l : Nat} (c : TxCause) (hforced : (s.lineAt l).ltx.forced = true)
    (hstate : (s.lineAt l).ltx.state = .on ∨ (s.lineAt l).ltx.state = .rampDown) :
    ((s.syncTxState l c).lineAt l).ltx.state = .rampDown := by
  have hwant : s.txWant l = false := by simp [State.txWant, hforced]
  unfold State.syncTxState
  rw [hwant]
  rcases hstate with hstate | hstate
  · simp [hstate]
  · simp [hstate]

/-- The modes in which a transmitter's force is kept (R242). -/
def State.forces (s : State) : Prop := s.live = true ∨ s.dev.mode = .workshop

theorem State.forces.of_keep {m : Nat} {s t : State} (h : s.forces) (hkeep : Keep m s t) (hm : m.testBit 3 = false) : t.forces := by
  have hmode := (hkeep.1 .devMode hm).1
  rwa [State.forces, State.live, ← hmode]

theorem State.forces.not_shutter {s : State} (h : s.forces) : s.dev.mode ≠ .shutter := by
  intro hmode
  rcases h with h | h
  · simp [State.live, hmode] at h
  · simp [hmode] at h

/-- In these modes a transmitter follows the table and then its content. -/
theorem State.syncTx_of_forces {s : State} (h : s.forces) (l : Nat) (c : TxCause) :
    s.syncTx l c = (s.syncTxState l c).modLtx l fun x => { x with content := (s.syncTxState l c).txCarries l } := by
  unfold State.syncTx
  extract_lets s0 s1
  have hs1 : s1 = s.syncTxState l c := by
    have hs0 : s0 = s := if_pos h
    dsimp only [s1]
    rw [if_neg h.not_shutter, hs0]
  rw [hs1]

/-- Lane `k`'s transmitter is forced OFF, ON or ramping down. -/
structure State.Squelched (s : State) (k : Nat) : Prop where
  forces : s.forces
  forced : (s.lineAt k).ltx.forced = true
  state : (s.lineAt k).ltx.state = .on ∨ (s.lineAt k).ltx.state = .rampDown

theorem State.Squelched.of_keep {m k : Nat} {s t : State} (h : s.Squelched k) (hkeep : Keep m s t) (hm : m.land 0x800008 = 0) :
    t.Squelched k := by
  have hltx := hkeep.1 .lnLtx (testBit_of_land_zero hm rfl) k
  exact ⟨h.forces.of_keep hkeep (testBit_of_land_zero hm rfl), hltx ▸ h.forced, hltx ▸ h.state⟩

/-- The transmitter of a lane follows: a squelched lane stays so, and its own turn makes it ramp down. -/
theorem State.Squelched.syncTx {s : State} {k : Nat} (h : s.Squelched k) (l : Nat) (c : TxCause) :
    (s.syncTx l c).Squelched k ∧ (l = k ∨ (s.lineAt k).ltx.state = .rampDown → ((s.syncTx l c).lineAt k).ltx.state = .rampDown) := by
  have hforces := h.forces.of_keep (s.syncTx_frame l c) rfl
  rw [State.syncTx_of_forces h.forces] at hforces ⊢
  by_cases hl : l = k
  · subst hl
    have hdown := State.syncTxState_forced c h.forced h.state
    refine ⟨⟨hforces, ?_, .inr ?_⟩, fun _ => ?_⟩
    · rw [State.lineAt_modLtx_self, ← h.forced]
      exact (s.syncTxState_txOf l c).2
    all_goals
      rw [State.lineAt_modLtx_self]
      exact hdown
  · have hltx := ((s.syncTxState_txOf l c).modLtx (f := fun x => { x with content := (s.syncTxState l c).txCarries l })
      fun _ => rfl).1 k (Ne.symm hl)
    exact ⟨⟨hforces, hltx ▸ h.forced, hltx ▸ h.state⟩, fun hdown => hltx ▸ hdown.resolve_left hl⟩

/-- What follows the receivers and transmitters of the lanes leaves the transmitters. -/
theorem State.syncWith_ltx (s : State) (c : TxCause) (k : Nat) : ((s.syncWith c).lineAt k).ltx =
    (((List.range s.lines).foldl (fun s l => (s.syncRx l).syncTx l c) s).lineAt k).ltx := by
  unfold State.syncWith
  extract_lets s1 s2
  have hrest : Keep 0x2201a105b08 s1 ([0, 1].foldl (fun s g => s.syncGroup g) s2.opticsCheck).settle := by
    refine State.settle_keep _ rfl (Keep.foldl _ (fun u g hu => State.syncGroup_keep u g rfl hu) ?_)
    exact State.opticsCheck_keep _ rfl (Keep.foldl _ (fun u h hu => State.syncHost_keep u h rfl hu) (Keep.refl _ _))
  exact (hrest.1 .lnLtx rfl k).symm

/-- All of the part follows: a transmitter that is forced OFF ramps down. -/
theorem State.Squelched.syncWith {s : State} {k : Nat} (h : s.Squelched k) (hk : k < s.lines) (c : TxCause) :
    ((s.syncWith c).lineAt k).ltx.forced = true ∧ ((s.syncWith c).lineAt k).ltx.state = .rampDown := by
  rw [State.syncWith_ltx]
  have hrx : ∀ (u : State) (l : Nat), u.Squelched k → (u.syncRx l).Squelched k := fun u l hu => hu.of_keep (u.syncRx_frame l) rfl
  have hdown : ∀ (u : State) (l : Nat), u.Squelched k → (u.lineAt k).ltx.state = .rampDown →
      (((u.syncRx l).syncTx l c).lineAt k).ltx.state = .rampDown := by
    intro u l hu hstate
    refine ((hrx u l hu).syncTx l c).2 (.inr ?_)
    rw [← (u.syncRx_frame l).1 .lnLtx rfl k, hstate]
  obtain ⟨hsquelched, hstate⟩ := foldl_of_mem (f := fun (u : State) l => (u.syncRx l).syncTx l c)
    (P := fun u : State => u.Squelched k) (Q := fun u : State => (u.lineAt k).ltx.state = .rampDown)
    (List.mem_range.2 hk) h (fun u l hu => ((hrx u l hu).syncTx l c).1)
    (fun u hu => ((hrx u k hu).syncTx k c).2 (.inl rfl)) hdown
  exact ⟨hsquelched.forced, hstate⟩

/-- A transmitter that is ON ramps down where it is squelched. -/
theorem State.squelch_ltx {s : State} {l : Nat} (fast : Bool) (hl : l < s.lines) (hforces : s.forces)
    (hon : (s.lineAt l).ltx.state = .on) :
    ((s.squelch l fast).lineAt l).ltx.forced = true ∧ ((s.squelch l fast).lineAt l).ltx.state = .rampDown := by
  unfold State.squelch
  rw [← (State.calCheck_frame _).1 .lnLtx rfl l]
  refine State.Squelched.syncWith ⟨?_, ?_, .inl ?_⟩ ?_ _
  · refine State.forces.of_keep (m := 0x800000) hforces ?_ rfl
    exact Keep.modLtx rfl (Keep.refl _ _)
  · rw [State.lineAt_modLtx_self]
  · rw [State.lineAt_modLtx_self, hon]
  · exact hl

theorem squelchLtxOut_carries : Carries .squelchLtxOut specSquelchLtxOut (fun m s => (s.lineAt m.inst.toNat).ltx.state = .on)
    fun m s t => Replied s t m cDone 0 ∧ (t.lineAt m.inst.toNat).ltx.forced = true ∧
      (t.lineAt m.inst.toNat).ltx.state = .rampDown := by
  refine carries_done (fun _ _ => rfl) fun m s htakes hon => ?_
  refine ⟨rfl, _, _, _, rfl, (State.squelch_keep _ _ _ rfl (Keep.refl _ _)).box_eq, fun t ht => ?_⟩
  have hbegun : Keep 0x20000000380 s (s.begun vSquelch nLtxOut m) := s.begun_frame ..
  have hforces : s.forces := by simpa [specSquelchLtxOut, ModeClass.ok, State.forces] using htakes.mode
  have hinst : m.inst.toNat < s.lines := by simpa [specSquelchLtxOut, InstKind.ok] using htakes.inst
  have hlines : (s.begun vSquelch nLtxOut m).lines = s.lines := s.begun_congr _ _ _ State.lines fun _ _ _ _ => rfl
  rw [← ht.1 .lnLtx rfl m.inst.toNat]
  exact State.squelch_ltx false (hinst.trans_eq hlines.symm) (hforces.of_keep hbegun rfl) (by rw [State.lineAt_begun, hon])

/-! RELEASE. -/

/-- A transmitter that is not forced OFF stays so while the lanes follow. -/
theorem State.syncTx_released {s : State} {k : Nat} (h : (s.lineAt k).ltx.forced = false) (l : Nat) (c : TxCause) :
    ((s.syncTx l c).lineAt k).ltx.forced = false := by
  unfold State.syncTx
  extract_lets s0 s1
  have hof : ∀ {u v : State}, u.TxOf l v → (u.lineAt k).ltx.forced = false → (v.lineAt k).ltx.forced = false := by
    intro u v huv hu
    by_cases hk : k = l
    · subst hk
      rw [huv.2, hu]
    · rw [huv.1 k hk, hu]
  have hs0 : (s0.lineAt k).ltx.forced = false := by
    dsimp only [s0]
    split
    · exact h
    · rw [State.lineAt_modLtx]
      split
      · rfl
      · exact h
  have hs1 : (s1.lineAt k).ltx.forced = false := by
    dsimp only [s1]
    split
    · exact hs0
    · exact hof (s0.syncTxState_txOf l c) hs0
  exact hof ((State.TxOf.refl l s1).modLtx fun _ => rfl) hs1

theorem releaseLtxOut_carries : Carries .releaseLtxOut specReleaseLtxOut (fun _ _ => True)
    fun m s t => Replied s t m cDone 0 ∧ (t.lineAt m.inst.toNat).ltx.forced = false := by
  refine carries_done (fun _ _ => rfl) fun m s _ _ => ?_
  refine ⟨rfl, _, _, _, rfl, (State.follow_keep _ rfl (Keep.modLtx rfl (Keep.refl _ _))).box_eq, fun t ht => ?_⟩
  have hkeep : Keep 0x26000101b80 (((s.begun vRelease nLtxOut m).modLtx m.inst.toNat fun x =>
    { x with forced := false }).syncWith .laneState) t := ht.step rfl (State.calCheck_keep _ rfl (Keep.refl _ _))
  rw [← hkeep.1 .lnLtx rfl m.inst.toNat, State.syncWith_ltx]
  refine List.foldlRecOn (motive := fun u : State => (u.lineAt m.inst.toNat).ltx.forced = false) _ _ ?_ fun u hu l _ => ?_
  · rw [State.lineAt_modLtx_self]
  · exact State.syncTx_released ((congrArg Ltx.forced ((u.syncRx_frame l).1 .lnLtx rfl m.inst.toNat)).symm.trans hu) l _

end Sys2Proof.Machine
end

section
/-! PROOFS. The commands that capture (R114, R115), load (R137, R464), calibrate (R602), acknowledge and clear (R623), and switch
panes (R657). -/

namespace Sys2Proof.Machine

/-! CAPTURE and ABORT. -/

/-- The parameters of a CAPTURE that names them all. -/
structure CaptureNamed (m : Sentence) (e off n st at_ : Nat) : Prop where
  payload : payloadOf m = [0, Word.nat e, Word.nat off, Word.nat n, Word.nat st] ++ (if st = 1 then words64 at_ else [])
  exponent : 12 ≤ e ∧ e ≤ 21
  start : st ≤ 2
  aligned : off % 2 ^ e = 0
  counts : 0 < n
  inside : off + n * 2 ^ e ≤ capRegion
  at64 : at_ < 2 ^ 64

section
variable {m : Sentence} {e off n st at_ : Nat} (h : CaptureNamed m e off n st at_)
include h

theorem CaptureNamed.params : capParams m (payloadOf m) = payloadOf m := by
  refine if_neg fun hlen => ?_
  have hnil : payloadOf m = [] := by rw [payloadOf, hlen]; rfl
  rw [h.payload] at hnil
  cases hnil

/-- Each word of the payload holds its parameter. -/
theorem CaptureNamed.words : ((payloadOf m).getD 0 0).toNat = 0 ∧ ((payloadOf m).getD 1 0).toNat = e ∧
    ((payloadOf m).getD 2 0).toNat = off ∧ ((payloadOf m).getD 3 0).toNat = n ∧ ((payloadOf m).getD 4 0).toNat = st ∧
    ((payloadOf m).getD 5 0).toNat + ((payloadOf m).getD 6 0).toNat * 2 ^ 32 = if st = 1 then at_ else 0 := by
  have hinside : off + n * 2 ^ e ≤ 2147483648 := h.inside
  have hsize : n * 1 ≤ n * 2 ^ e := Nat.mul_le_mul_left n Nat.one_le_two_pow
  have hwords : ∀ k, k < 2 ^ 32 → (Word.nat k).toNat = k := fun k hk => by
    rw [Word.nat, BitVec.toNat_ofNat, Nat.mod_eq_of_lt hk]
  rw [h.payload]
  refine ⟨rfl, hwords e ?_, hwords off ?_, hwords n ?_, hwords st ?_, ?_⟩
  · have := h.exponent; omega
  · omega
  · omega
  · have := h.start; omega
  · split
    · have hhigh : at_ / 2 ^ 32 < 2 ^ 32 := Nat.div_lt_of_lt_mul (by rw [← pow_add]; exact h.at64)
      have hlow : (Word.nat at_).toNat = at_ % 2 ^ 32 := BitVec.toNat_ofNat ..
      simp only [words64, List.cons_append, List.nil_append, List.getD_cons_succ, List.getD_cons_zero]
      rw [hlow, hwords _ hhigh, Nat.mod_add_div']
    · simp

theorem CaptureNamed.check {s : State} (htest : (s.lineAt m.inst.toNat).state = .test)
    (hidle : s.cap.armed = false ∧ s.cap.running = false) : checkCapture s m (payloadOf m) = none := by
  obtain ⟨h0, h1, h2, h3, h4, -⟩ := h.words
  have hsize : 1 * 2 ^ e ≤ n * 2 ^ e := Nat.mul_le_mul_right _ h.counts
  have hinside := h.inside
  have hexp := h.exponent
  have hstart := h.start
  have hsome := h.counts
  unfold checkCapture
  rw [h.params]
  dsimp only
  rw [if_neg (not_not.2 htest), if_neg, if_neg]
  · simp [hidle.1, hidle.2]
  · simp only [h0, h1, h2, h3, h4]
    have := h.aligned
    omega

end

theorem captureLrxCapture_carries (e off n st at_ : Nat) : Carries .captureLrxCapture specCaptureLrxCapture
    (fun m s => payloadOf m = [0, Word.nat e, Word.nat off, Word.nat n, Word.nat st] ++ (if st = 1 then words64 at_ else []) ∧
      (s.lineAt m.inst.toNat).state = .test ∧ 12 ≤ e ∧ e ≤ 21 ∧ st ≤ 2 ∧ off % 2 ^ e = 0 ∧ 0 < n ∧ off + n * 2 ^ e ≤ capRegion ∧
      at_ < 2 ^ 64 ∧ s.cap.armed = false ∧ s.cap.running = false ∧ ticketCheck m s = none)
    fun m s t => Replied s t m cAccepted 0 ∧ t.cap = {
      armed := true, lane := m.inst.toNat, raw := true, segLen := 2 ^ e, offset := off, count := n, start := st
      startAt := if st = 1 then BitVec.ofNat 64 at_ else 0, ticket := some (ticketOf m) } := by
  refine carries_accepted (fun _ _ => rfl) fun m s _
    ⟨hpayload, htest, hlow, hhigh, hstart, haligned, hsome, hinside, hat, harmed, hrunning, hticket⟩ => ?_
  have hnamed : CaptureNamed m e off n st at_ := ⟨hpayload, ⟨hlow, hhigh⟩, hstart, haligned, hsome, hinside, hat⟩
  have hcap : (s.begun vCapture nLrxCapture m).cap = s.cap := s.begun_congr _ _ _ State.cap fun _ _ _ _ => rfl
  have hcheck := hnamed.check (by rw [State.lineAt_begun, htest])
    ⟨(congrArg Cap.armed hcap).trans harmed, (congrArg Cap.running hcap).trans hrunning⟩
  refine ⟨hcheck, hticket, _, _, rfl, rfl, fun t ht _ => ?_⟩
  obtain ⟨h0, h1, h2, h3, h4, h5⟩ := hnamed.words
  refine (ht.1 .cap rfl).symm.trans ?_
  dsimp only [State.issued]
  rw [hnamed.params]
  simp only [h0, h1, h2, h3, h4, h5]
  split <;> rfl

/-- An end of a command leaves the mailboxes themselves. -/
theorem State.finishOpt_box (s : State) (t : Option Ticket) (code detail : Nat) (o : Obj) :
    (s.finishOpt t code detail o).mb.box = s.mb.box := by
  unfold State.finishOpt State.finishObj
  split
  · rfl
  split
  · rfl
  · dsimp only
    split
    · rfl
    · exact (State.cmdDone_keep _ _ _ _ _ _ _ rfl (Keep.refl _ _)).box_eq

theorem abortLrxCapture_carries : Carries .abortLrxCapture specAbortLrxCapture
    (fun m s => s.cap.lane = m.inst.toNat ∧ s.cap.running)
    fun m s t => Replied s t m cDone 0 ∧ t.cap.running = false ∧ t.cap.armed = false ∧ t.cap.ticket = none := by
  refine carries_done (fun _ _ => rfl) fun m s _ ⟨hlane, hrunning⟩ => ?_
  have hcap : (s.begun vAbort nLrxCapture m).cap = s.cap := s.begun_congr _ _ _ State.cap fun _ _ _ _ => rfl
  have hact : (if (s.begun vAbort nLrxCapture m).cap.lane = m.inst.toNat then (s.begun vAbort nLrxCapture m).captureEnd 2
      else s.begun vAbort nLrxCapture m) = ({ s.begun vAbort nLrxCapture m with
        cap := { (s.begun vAbort nLrxCapture m).cap with armed := false, running := false, taking := false, ticket := none } } :
          State).finishOpt (s.begun vAbort nLrxCapture m).cap.ticket cStateRefused 2 (.line (s.begun vAbort nLrxCapture m).cap.lane) := by
    rw [if_pos (by rw [hcap, hlane]), State.captureEnd, if_pos (.inr (by rw [hcap, hrunning]))]
  refine ⟨rfl, _, _, _, congrArg (fun u : State => (u.follow, okDone)) hact, ?_, fun t ht => ?_⟩
  · rw [(State.follow_keep _ rfl (Keep.refl _ _)).box_eq, State.finishOpt_box]
    rfl
  · have hcap := ((State.finishOpt_frame _ _ _ _ _).1 .cap rfl).trans ((State.follow_replied ht).1 .cap rfl)
    rw [← show _ = t.cap from hcap]
    exact ⟨rfl, rfl, rfl⟩

/-! LOAD of a kernel and of a firmware image. -/

/-- The image that a LOAD names is read from memory as it stood before the command. -/
theorem State.stage_begun (s : State) (verb noun : Nat) (m : Sentence) (ws : List Word) (pane : Bool) :
    (s.begun verb noun m).stage m ws pane = s.stage m ws pane :=
  s.begun_congr verb noun m (State.stage · m ws pane) fun _ _ _ _ => rfl

theorem State.fw_begun (s : State) (verb noun : Nat) (m : Sentence) : (s.begun verb noun m).fw = s.fw :=
  s.begun_congr verb noun m State.fw fun _ _ _ _ => rfl

theorem State.mode_begun (s : State) (verb noun : Nat) (m : Sentence) : (s.begun verb noun m).dev.mode = s.dev.mode :=
  s.begun_congr verb noun m (fun u => u.dev.mode) fun _ _ _ _ => rfl

theorem loadSeaKernel_carries : Carries .loadSeaKernel specLoadSeaKernel
    (fun m s => checkStage 0x100000 (payloadOf m) = none ∧ ticketCheck m s = none)
    fun m s t => Replied s t m cAccepted 0 ∧ t.hinge.load = s.hinge.load ++ [s.stage m (payloadOf m) false] ∧
      outstOf specLoadSeaKernel m ∈ t.mb.outstanding := by
  refine carries_accepted (fun _ _ => rfl) fun m s _ ⟨hstage, hticket⟩ => ?_
  have hhinge : (s.begun vLoad nSeaKernel m).hinge = s.hinge := s.begun_congr _ _ _ State.hinge fun _ _ _ _ => rfl
  refine ⟨hstage, hticket, _, _, rfl, rfl, fun t ht hout => ⟨?_, hout⟩⟩
  have hload := congrArg Hinge.load (ht.1 .hinge rfl)
  rw [← s.stage_begun vLoad nSeaKernel m, ← hhinge]
  exact hload.symm

/-- Outside START_FAILED a LOAD writes the pane that is not shown (R467). -/
theorem State.loadPane_of_started {s : State} (h : s.dev.mode ≠ .startFailed) : s.loadPane = some !s.fw.shown := by
  unfold State.loadPane State.activePane
  rw [if_neg h, if_neg h]

theorem loadFwImage_carries : Carries .loadFwImage specLoadFwImage
    (fun m s => checkStage 0x1000000 (payloadOf m) = none ∧ s.fw.sw = 0 ∧ s.fw.load = none ∧ ticketCheck m s = none)
    fun m s t => Replied s t m cAccepted 0 ∧ t.fw = { s.fw with load := some (s.stage m (payloadOf m) (!s.fw.shown)) } := by
  refine carries_accepted (fun _ _ => rfl) fun m s htakes ⟨hstage, hswitch, hload, hticket⟩ => ?_
  have hpane : (s.begun vLoad nFwImage m).loadPane = some !s.fw.shown := by
    rw [State.loadPane_of_started (by rw [State.mode_begun]; exact htakes.started), State.fw_begun]
  refine ⟨?_, hticket, _, _, rfl, rfl, fun t ht _ => ?_⟩
  · change (checkStage _ _).or (if (s.begun vLoad nFwImage m).fw.sw ≠ 0 ∨ (s.begun vLoad nFwImage m).fw.load.isSome ∨
      (s.begun vLoad nFwImage m).loadPane.isNone then _ else _) = none
    rw [hstage, hpane, State.fw_begun, hswitch, hload]
    rfl
  · refine (ht.1 .fw rfl).symm.trans ?_
    change { (s.begun vLoad nFwImage m).fw with load := some ((s.begun vLoad nFwImage m).stage m (payloadOf m)
      ((s.begun vLoad nFwImage m).loadPane.getD false)) } = _
    rw [hpane, State.stage_begun, State.fw_begun]
    rfl

/-! Calibration blocks (R595, R602). -/

theorem runCalBlock_carries : Carries .runCalBlock specRunCalBlock (fun m s => s.noSpare m.inst.toNat = false)
    fun m s t => Replied s t m cDone 0 ∧ (t.calAt m.inst.toNat).due = true := by
  refine carries_done (fun _ _ => rfl) fun m s _ hspare => ?_
  have hbegun : (s.begun vRun nCalBlock m).noSpare m.inst.toNat = s.noSpare m.inst.toNat :=
    s.begun_congr _ _ _ (State.noSpare · _) fun _ _ _ _ => rfl
  refine ⟨?_, _, _, _, rfl, (State.setDue_keep _ _ _ rfl (Keep.refl _ _)).box_eq, fun t ht => ?_⟩
  · change (if (s.begun vRun nCalBlock m).noSpare m.inst.toNat then _ else _) = none
    rw [hbegun, hspare, if_neg Bool.false_ne_true]
  · rw [ht.calAt_eq rfl]
    unfold State.setDue
    split
    · next hdue => exact hdue
    · rw [State.calAt_modCal_self]

theorem runCalBlock_carries_noSpare : Carries .runCalBlock specRunCalBlock (fun m s => s.noSpare m.inst.toNat)
    fun m s t => Replied s t m cStateRefused 2 ∧ t.cal = s.cal := by
  refine carries_refused (fun _ _ => rfl) fun m s _ hspare => ⟨?_, fun t ht => (ht.1 .cal rfl).symm⟩
  have hbegun : (s.begun vRun nCalBlock m).noSpare m.inst.toNat = s.noSpare m.inst.toNat :=
    s.begun_congr _ _ _ (State.noSpare · _) fun _ _ _ _ => rfl
  change (if (s.begun vRun nCalBlock m).noSpare m.inst.toNat then _ else _) = _
  rw [hbegun, if_pos hspare]

theorem clearCalBlock_carries : Carries .clearCalBlock specClearCalBlock (fun _ _ => True)
    fun m s t => Replied s t m cDone 0 ∧ t.calAt m.inst.toNat = { s.calAt m.inst.toNat with flags := [] } := by
  refine carries_done (fun _ _ => rfl) fun m s _ _ => ⟨rfl, _, _, _, rfl, rfl, fun t ht => ?_⟩
  have hbegun : (s.begun vClear nCalBlock m).calAt m.inst.toNat = s.calAt m.inst.toNat :=
    s.begun_congr _ _ _ (State.calAt · _) fun _ _ _ _ => rfl
  rw [ht.calAt_eq rfl, ← hbegun]
  exact State.calAt_modCal_self ..

/-! Sensors, the backstop trip and the rail-fault record (R620, R623, R692). -/

theorem State.sensorAt_begun (s : State) (verb noun : Nat) (m : Sentence) (n : Nat) :
    (s.begun verb noun m).sensorAt n = s.sensorAt n :=
  s.begun_congr verb noun m (State.sensorAt · n) fun _ _ _ _ => rfl

theorem ackThmSensor_carries : Carries .ackThmSensor specAckThmSensor (fun m s => (s.sensorAt m.inst.toNat).broken)
    fun m s t => Replied s t m cDone 0 ∧ (t.sensorAt m.inst.toNat).acked = true ∧ (t.sensorAt m.inst.toNat).broken = true := by
  refine carries_done (fun _ _ => rfl) fun m s _ hbroken => ⟨?_, _, _, _, rfl, rfl, fun t ht => ?_⟩
  · change (if ((s.begun vAck nThmSensor m).sensorAt m.inst.toNat).broken then _ else _) = none
    rw [State.sensorAt_begun, if_pos hbroken]
  · have hthm := ht.1 .thm rfl
    have hsensor : t.sensorAt m.inst.toNat = _ :=
      (congrArg (fun x : Thm => tget x.sensor (fun _ => {}) m.inst.toNat) hthm).symm.trans (State.sensorAt_modSensor_self ..)
    rw [hsensor]
    exact ⟨rfl, by rw [State.sensorAt_begun]; exact hbroken⟩

theorem ackThmSensor_carries_sound : Carries .ackThmSensor specAckThmSensor (fun m s => (s.sensorAt m.inst.toNat).broken = false)
    fun m s t => Replied s t m cStateRefused 2 ∧ t.thm = s.thm := by
  refine carries_refused (fun _ _ => rfl) fun m s _ hsound => ⟨?_, fun t ht => (ht.1 .thm rfl).symm⟩
  change (if ((s.begun vAck nThmSensor m).sensorAt m.inst.toNat).broken then _ else _) = _
  rw [State.sensorAt_begun, hsound, if_neg Bool.false_ne_true]

theorem clearThmStatus_carries : Carries .clearThmStatus specClearThmStatus (fun _ _ => True)
    fun m s t => Replied s t m cDone 0 ∧ t.thm = { s.thm with trip := false } := by
  refine carries_done (fun _ _ => rfl) fun m s _ _ =>
    ⟨rfl, _, _, _, rfl, (State.settle_keep _ rfl (Keep.refl _ _)).box_eq, fun t ht => ?_⟩
  have hthm : (s.begun vClear nThmStatus m).thm = s.thm := s.begun_congr _ _ _ State.thm fun _ _ _ _ => rfl
  exact (((State.settle_frame _).1 .thm rfl).trans (ht.1 .thm rfl)).symm.trans (congrArg (fun x : Thm => { x with trip := false }) hthm)

theorem clearPwrStatus_carries : Carries .clearPwrStatus specClearPwrStatus (fun _ _ => True)
    fun m s t => Replied s t m cDone 0 ∧ t.pwr = { s.pwr with fault := none } := by
  refine carries_done (fun _ _ => rfl) fun m s _ _ =>
    ⟨rfl, _, _, _, rfl, (State.settle_keep _ rfl (Keep.refl _ _)).box_eq, fun t ht => ?_⟩
  have hpwr : (s.begun vClear nPwrStatus m).pwr = s.pwr := s.begun_congr _ _ _ State.pwr fun _ _ _ _ => rfl
  exact (((State.settle_frame _).1 .pwr rfl).trans (ht.1 .pwr rfl)).symm.trans (congrArg (fun x : Pwr => { x with fault := none }) hpwr)

/-! SWITCH of the firmware pane (R657). -/

/-- The word of a pane names it. -/
theorem pane_word {n : Nat} (hn : n ≤ 1) : (Word.nat n).toNat = n := by
  rw [Word.nat, BitVec.toNat_ofNat, Nat.mod_eq_of_lt (by omega)]

theorem State.checkSwitch_eq {s : State} {m : Sentence} {n : Nat} (h : s.dev.mode ≠ .startFailed) (hn : n ≤ 1) :
    checkSwitch s m [Word.nat n] = if (n == 1) = s.fw.shown then some { code := cResource, detail := 1 }
      else if (s.fw.pane (n == 1)).valid ∧ s.covers (s.fw.pane (n == 1)) ∧ s.fw.sw = 0 ∧ s.fw.load.isNone then none
      else some { code := cResource, detail := 2 } := by
  have hactive : s.activePane = s.fw.shown := if_neg h
  unfold checkSwitch
  simp only [List.getD_cons_zero, pane_word hn, hactive, h, not_false_eq_true, ne_eq, true_and, Nat.not_lt.2 hn, false_or]

theorem switchFwPane_carries (n : Nat) : Carries .switchFwPane specSwitchFwPane
    (fun m s => payloadOf m = [Word.nat n] ∧ n ≤ 1 ∧ (n == 1) = !s.fw.shown ∧ (s.fw.pane (n == 1)).valid ∧
      s.covers (s.fw.pane (n == 1)) ∧ s.fw.sw = 0 ∧ s.fw.load = none ∧ ticketCheck m s = none)
    fun m s t => Replied s t m cAccepted 0 ∧ t.fw.sw = 1 ∧ t.fw.swTarget = (n == 1) ∧ t.fw.ticket = some (ticketOf m) ∧
      t.fw.running = s.fw.running ∧ t.dev.mode = s.dev.mode := by
  refine carries_accepted (fun _ _ => rfl) fun m s htakes ⟨hpayload, hn, hother, hvalid, hcovers, hswitch, hload, hticket⟩ => ?_
  have hmode : (s.begun vSwitch nFwPane m).dev.mode ≠ .startFailed := by rw [State.mode_begun]; exact htakes.started
  have hcovers' : (s.begun vSwitch nFwPane m).covers (s.fw.pane (n == 1)) = s.covers (s.fw.pane (n == 1)) :=
    s.begun_congr _ _ _ (State.covers · _) fun _ _ _ _ => rfl
  refine ⟨?_, hticket, _, _, if_neg hmode, rfl, fun t ht _ => ?_⟩
  · change checkSwitch (s.begun vSwitch nFwPane m) m (payloadOf m) = none
    rw [hpayload, State.checkSwitch_eq hmode hn, State.fw_begun, hcovers', hother, if_neg (by simp), ← hother,
      if_pos ⟨hvalid, hcovers, hswitch, by rw [hload]; rfl⟩]
  · have hfw := s.fw_begun specSwitchFwPane.verb specSwitchFwPane.noun m
    have hdev := s.mode_begun specSwitchFwPane.verb specSwitchFwPane.noun m
    generalize s.begun specSwitchFwPane.verb specSwitchFwPane.noun m = u at *
    rw [← ht.1 .fw rfl, ← (ht.1 .devMode rfl).1, hpayload, ← hfw, ← hdev]
    refine ⟨rfl, ?_, rfl, rfl, rfl⟩
    change decide ((Word.nat n).toNat = 1) = _
    rw [pane_word hn]
    rfl

theorem switchFwPane_carries_active (n : Nat) : Carries .switchFwPane specSwitchFwPane
    (fun m s => payloadOf m = [Word.nat n] ∧ n ≤ 1 ∧ (n == 1) = s.fw.shown)
    fun m s t => Replied s t m cResource 1 ∧ t.fw = s.fw := by
  refine carries_refused (fun _ _ => rfl) fun m s htakes ⟨hpayload, hn, hactive⟩ => ⟨?_, fun t ht => (ht.1 .fw rfl).symm⟩
  have hmode : (s.begun vSwitch nFwPane m).dev.mode ≠ .startFailed := by rw [State.mode_begun]; exact htakes.started
  change checkSwitch (s.begun vSwitch nFwPane m) m (payloadOf m) = _
  rw [hpayload, State.checkSwitch_eq hmode hn, State.fw_begun, if_pos hactive]

end Sys2Proof.Machine
end

section
/-! PROOFS. Commanded swaps (R138, R161, R163): SELECT of a kernel, and SET of "By swap" parameters (R136). -/

namespace Sys2Proof.Machine

/-! A commanded swap on a lane without a swap. -/

/-- No swap runs or waits on a lane. -/
def State.Unswapped (s : State) (l : Nat) : Prop := (s.lineAt l).sea.swap = none ∧ (s.lineAt l).sea.swapWait = none

section
variable {s : State} {l : Nat} (h : s.Unswapped l)
include h

theorem State.Unswapped.clearSwap : s.clearSwap l = s := by
  obtain ⟨hswap, hwait⟩ := h
  have habandon : s.abandonSwap l swR163 2 = s := by
    unfold State.abandonSwap
    rw [hswap]
  unfold State.clearSwap
  dsimp only
  rw [habandon, hwait]

/-- With four swaps running a commanded swap waits (R163). -/
theorem State.Unswapped.waits (hfour : 4 ≤ s.swapsRunning) (version : Nat) (par : List (Nat × Word)) (t : Ticket) :
    s.canSwap l = true ∧ s.commandSwap l version par t = s.modSea l fun x => { x with
      swapWait := some { tier := (s.lineAt l).sea.tier, version := version, par := par, ticket := some t } } := by
  unfold State.canSwap State.commandSwap
  dsimp only
  rw [h.clearSwap, if_pos hfour]
  exact ⟨by simp [hfour], rfl⟩

end

/-- The first free engines, in the order in which a swap takes its shadows. -/
def State.freeEngs (s : State) : List Nat := (List.range s.quads).flatMap s.freeIn

/-- A swap that adds no engine takes its two shadows from FREE where it can (R161). -/
theorem State.shadowPick_zero {s : State} (hfree : 2 ≤ s.freeEngs.length) : s.shadowPick 0 = some (s.freeEngs.take 2, []) := by
  have htakable : 2 ≤ s.takable := by
    refine hfree.trans ?_
    rw [State.freeEngs, List.length_flatMap]
    exact List.sum_le_sum fun q _ => Nat.le_add_right _ _
  have hlen : (s.freeEngs.take 2).length = 2 := by rw [List.length_take, Nat.min_eq_left hfree]
  unfold State.shadowPick
  rw [if_neg (Nat.not_lt_zero _), Nat.sub_zero, Nat.min_eq_left htakable]
  dsimp only
  rw [← State.freeEngs, hlen]
  rfl

/-- The shadows of a swap that adds no engine. -/
def State.shadowed (s : State) (l : Nat) : State := (s.freeEngs.take 2).foldl (fun s e => s.assign e .shadow l) s

theorem State.assign_slice_frame (s : State) (e : Nat) (role : Role) (l : Nat) : Keep 0x10280000302 s (s.assign e role l) :=
  Keep.modEng rfl (s.abortSlice_frame ..)

theorem State.shadowed_frame (s : State) (l : Nat) : Keep 0x10280000302 s (s.shadowed l) :=
  Keep.foldl _ (fun u e hu => (u.assign_slice_frame e .shadow l).step rfl hu) (Keep.refl _ _)

/-- Every engine that a swap takes is a shadow of its lane. -/
theorem State.engAt_shadowed (s : State) (l : Nat) {e : Nat} (he : e ∈ s.freeEngs.take 2) :
    ((s.shadowed l).engAt e).role = .shadow ∧ ((s.shadowed l).engAt e).lane = l := by
  refine (foldl_of_mem (P := fun _ => True) (Q := fun u : State => (u.engAt e).role = .shadow ∧ (u.engAt e).lane = l) he trivial
    (fun _ _ _ => trivial) (fun u _ => u.engAt_assign_role e .shadow l) fun u k _ hu => ?_).2
  by_cases hk : e = k
  · subst hk
    exact u.engAt_assign_role e .shadow l
  · rwa [u.engAt_assign_other .shadow l hk]

/-- With fewer than four swaps running and two free engines a commanded swap that adds no engine starts (R159, R161). -/
theorem State.Unswapped.starts {s : State} {l : Nat} (h : s.Unswapped l) (hfour : s.swapsRunning < 4)
    (hplan : (s.lineAt l).sea.planEng ≤ (s.groupOf l).length) (hfree : 2 ≤ s.freeEngs.length) (version : Nat) (t : Ticket) :
    s.canSwap l = true ∧ s.commandSwap l version [] t = (((s.shadowed l).modSea l fun x => { x with
      swap := some { step := 1, tier := (s.lineAt l).sea.tier, version := version, ticket := some t, shadows := s.freeEngs.take 2
                     count := (s.groupOf l).length } }).pmcEvent 0x051 1) := by
  have hneed : s.swapNeed l = 0 := Nat.sub_eq_zero_of_le hplan
  have hpick := State.shadowPick_zero hfree
  constructor
  · unfold State.canSwap
    dsimp only
    rw [h.clearSwap, hneed, hpick]
    exact Bool.or_true _
  · unfold State.commandSwap
    dsimp only
    rw [h.clearSwap, if_neg (Nat.not_le.2 hfour), Nat.max_eq_right hplan, State.startSwap, Nat.sub_self, hpick]
    dsimp only [Option.getD]
    rw [List.append_nil]
    rfl

/-! SELECT of a kernel. -/

/-- The kernel of a tier that runs is in the catalogue, and no other names it (R134). -/
theorem kernelOf_mem {t : Nat} (ht : 0 < t) : kernelOf t ∈ [0x11, 0x22, 0x33, 0x44] := by
  match t with
  | 1 | 2 | 3 | 4 => decide
  | n + 5 => exact List.mem_of_elem_eq_true rfl

/-- A version of a kernel that SELECT may name (R138, R453). -/
def State.Selectable (s : State) (k : Nat) (v : Word) : Prop :=
  k < 2 ^ 32 ∧ kernelIds.contains k = true ∧ (s.kernAt k).vers.contains v = true ∧
    ((s.kernAt k).own = v ∨ s.accepts fKernelLoad = true)

theorem State.Selectable.check {s : State} {k : Nat} {v : Word} {m : Sentence} (h : s.Selectable k v)
    (hswap : s.runsKernel m.inst.toNat k = true → s.canSwap m.inst.toNat = true) : checkSelect s m [Word.nat k, v] = none := by
  obtain ⟨hk, hid, hvers, hown⟩ := h
  have hword : (Word.nat k).toNat = k := by rw [Word.nat, BitVec.toNat_ofNat, Nat.mod_eq_of_lt hk]
  unfold checkSelect
  simp only [List.getD_cons_zero, List.getD_cons_succ, hword]
  rw [if_neg (by rw [hid, hvers]; decide), if_neg (by simpa [or_iff_not_imp_left] using hown), if_neg (by simpa using hswap)]

/-- A lane runs a kernel of which SELECT names a version that the pane holds. -/
def State.Reselectable (s : State) (l k : Nat) (v : Word) : Prop :=
  0 < (s.lineAt l).sea.tier ∧ kernelOf (s.lineAt l).sea.tier = k ∧ s.startedLanes.contains l = true ∧
    (s.kernAt k).vers.contains v = true ∧ ((s.kernAt k).own = v ∨ s.accepts fKernelLoad = true) ∧ s.Unswapped l

section
variable {s : State} {k : Nat} {v : Word} {m : Sentence} (h : s.Reselectable m.inst.toNat k v)
include h

theorem State.Reselectable.selectable : s.Selectable k v := by
  obtain ⟨htier, rfl, -, hvers, hown, -⟩ := h
  have hall : ∀ x ∈ [0x11, 0x22, 0x33, 0x44], x < 2 ^ 32 ∧ kernelIds.contains x = true := by decide
  exact ⟨(hall _ (kernelOf_mem htier)).1, (hall _ (kernelOf_mem htier)).2, hvers, hown⟩

/-- SELECT of the kernel that runs swaps it. -/
theorem State.Reselectable.act : actSelect s m [Word.nat k, v] =
    ((s.commandSwap m.inst.toNat v.toNat [] (ticketOf m)).follow, .accepted []) := by
  have hword : (Word.nat k).toNat = k := by rw [Word.nat, BitVec.toNat_ofNat, Nat.mod_eq_of_lt h.selectable.1]
  obtain ⟨htier, hkernel, hstarted, -, -, -⟩ := h
  have hruns : s.runsKernel m.inst.toNat k = true := by
    unfold State.runsKernel
    dsimp only
    rw [hkernel, hstarted]
    simp [htier]
  unfold actSelect
  simp only [List.getD_cons_zero, List.getD_cons_succ, hword]
  rw [if_pos hruns]

end

/-- What a command that has been ACCEPTED leaves of stage, engines and parameters. -/
theorem State.issued_replied {s t : State} {c : CmdSpec} {m : Sentence} (h : Keep 0x20000001b80 (s.issued c m) t) :
    (∀ l, (t.lineAt l).sea = (s.lineAt l).sea) ∧ t.eng = s.eng ∧ t.params = s.params :=
  ⟨fun l => (h.1 .lnSea rfl l).symm, (h.1 .eng rfl).symm, (h.1 .params rfl).symm⟩

/-- A command that swaps: it is ACCEPTED, and all that follows leaves what the swap has made of stage, engines and parameters. -/
theorem carries_swap {c : Sentence → Instr} {k : CmdSpec} {check : State → Sentence → List Word → Option Refuse}
    {act : State → Sentence → List Word → State × Reply} {echo : State → Nat → List Word} {pre : Sentence → State → Prop}
    {post : Sentence → State → State → Prop}
    (hexec : ∀ m s, exec (c m) s = .next (submit k.verb k.noun (process k check act echo) m s))
    (h : ∀ m s, pre m s → ticketCheck m s = none ∧ check (s.begun k.verb k.noun m) m (payloadOf m) = none ∧
      ∃ e : State, act (s.begun k.verb k.noun m) m (payloadOf m) = (e.follow, .accepted []) ∧
        e.mb.box = (s.begun k.verb k.noun m).mb.box ∧
        ∀ t, (∀ l, (t.lineAt l).sea = (e.lineAt l).sea) → t.eng = e.eng → t.params = e.params → post m s t) :
    Carries c k pre fun m s t => Replied s t m cAccepted 0 ∧ post m s t := by
  refine carries_accepted hexec fun m s _ hpre => ?_
  obtain ⟨hticket, hcheck, e, hact, hbox, hpost⟩ := h m s hpre
  have hfollow := e.follow_frame
  have hmb : e.mb = e.follow.mb := hfollow.1 .mb rfl
  refine ⟨hcheck, hticket, _, _, hact, (congrArg Mb.box hmb).symm.trans hbox, fun t ht _ => ?_⟩
  obtain ⟨hsea, heng, hparams⟩ := State.issued_replied ht
  exact hpost t (fun l => (hsea l).trans (hfollow.1 .lnSea rfl l).symm) (heng.trans (hfollow.1 .eng rfl).symm)
    (hparams.trans (hfollow.1 .params rfl).symm)

theorem selectSeaKernel_carries_waiting (k : Nat) (v : Word) : Carries .selectSeaKernel specSelectSeaKernel
    (fun m s => payloadOf m = [Word.nat k, v] ∧ 0 < (s.lineAt m.inst.toNat).sea.tier ∧ kernelOf (s.lineAt m.inst.toNat).sea.tier = k ∧
      s.startedLanes.contains m.inst.toNat ∧ (s.kernAt k).vers.contains v ∧ ((s.kernAt k).own = v ∨ s.accepts fKernelLoad) ∧
      (s.lineAt m.inst.toNat).sea.swap = none ∧ (s.lineAt m.inst.toNat).sea.swapWait = none ∧ 4 ≤ s.swapsRunning ∧
      ticketCheck m s = none)
    fun m s t => Replied s t m cAccepted 0 ∧ (t.lineAt m.inst.toNat).sea.swapWait =
      some { tier := (s.lineAt m.inst.toNat).sea.tier, version := v.toNat, ticket := some (ticketOf m) } := by
  refine carries_swap (fun _ _ => rfl) fun m s
    ⟨hpayload, htier, hkernel, hstarted, hvers, hown, hswap, hwait, hfour, hticket⟩ => ⟨hticket, ?_⟩
  have hbegun := s.begun_congr specSelectSeaKernel.verb specSelectSeaKernel.noun m
    (fun u : State => u.Reselectable m.inst.toNat k v ∧ 4 ≤ u.swapsRunning) fun _ _ _ _ => rfl
  have hline := s.lineAt_begun specSelectSeaKernel.verb specSelectSeaKernel.noun m m.inst.toNat
  obtain ⟨hready, hfour⟩ := hbegun.mpr ⟨⟨htier, hkernel, hstarted, hvers, hown, hswap, hwait⟩, hfour⟩
  rw [hpayload]
  generalize s.begun specSelectSeaKernel.verb specSelectSeaKernel.noun m = u at *
  obtain ⟨-, -, -, -, -, hfree⟩ := id hready
  obtain ⟨hcan, hcommand⟩ := hfree.waits hfour v.toNat [] (ticketOf m)
  refine ⟨hready.selectable.check fun _ => hcan, _, hready.act, ?_, fun t hsea _ _ => ?_⟩
  · rw [hcommand]
    rfl
  · rw [hsea, hcommand, State.lineAt_modSea_self, hline]

theorem selectSeaKernel_carries_starting (k : Nat) (v : Word) : Carries .selectSeaKernel specSelectSeaKernel
    (fun m s => payloadOf m = [Word.nat k, v] ∧ 0 < (s.lineAt m.inst.toNat).sea.tier ∧ kernelOf (s.lineAt m.inst.toNat).sea.tier = k ∧
      s.startedLanes.contains m.inst.toNat ∧ (s.kernAt k).vers.contains v ∧ ((s.kernAt k).own = v ∨ s.accepts fKernelLoad) ∧
      (s.lineAt m.inst.toNat).sea.swap = none ∧ (s.lineAt m.inst.toNat).sea.swapWait = none ∧ s.swapsRunning < 4 ∧
      (s.lineAt m.inst.toNat).sea.planEng ≤ (s.groupOf m.inst.toNat).length ∧
      2 ≤ ((List.range s.quads).flatMap s.freeIn).length ∧ ticketCheck m s = none)
    fun m s t => Replied s t m cAccepted 0 ∧ (t.lineAt m.inst.toNat).sea.swap =
      some { step := 1, tier := (s.lineAt m.inst.toNat).sea.tier, version := v.toNat, ticket := some (ticketOf m),
             shadows := ((List.range s.quads).flatMap s.freeIn).take 2, count := (s.groupOf m.inst.toNat).length } ∧
      ∀ e ∈ ((List.range s.quads).flatMap s.freeIn).take 2, (t.engAt e).role = .shadow ∧ (t.engAt e).lane = m.inst.toNat := by
  refine carries_swap (fun _ _ => rfl) fun m s
    ⟨hpayload, htier, hkernel, hstarted, hvers, hown, hswap, hwait, hfour, hplan, hfree, hticket⟩ => ⟨hticket, ?_⟩
  change 2 ≤ s.freeEngs.length at hfree
  have hbegun := s.begun_congr specSelectSeaKernel.verb specSelectSeaKernel.noun m
    (fun u : State => u.Reselectable m.inst.toNat k v ∧ u.swapsRunning < 4) fun _ _ _ _ => rfl
  have hline := s.lineAt_begun specSelectSeaKernel.verb specSelectSeaKernel.noun m m.inst.toNat
  have hgroup := s.begun_congr specSelectSeaKernel.verb specSelectSeaKernel.noun m (State.groupOf · m.inst.toNat) fun _ _ _ _ => rfl
  have hengs := s.begun_congr specSelectSeaKernel.verb specSelectSeaKernel.noun m State.freeEngs fun _ _ _ _ => rfl
  obtain ⟨hready, hfour⟩ := hbegun.mpr ⟨⟨htier, hkernel, hstarted, hvers, hown, hswap, hwait⟩, hfour⟩
  rw [hpayload, ← State.freeEngs, ← hengs, ← show List.length _ = _ from congrArg List.length hgroup, ← hline]
  rw [← hengs] at hfree
  rw [← hgroup, ← hline] at hplan
  generalize s.begun specSelectSeaKernel.verb specSelectSeaKernel.noun m = u at *
  obtain ⟨-, -, -, -, -, hnone⟩ := id hready
  obtain ⟨hcan, hcommand⟩ := hnone.starts hfour hplan hfree v.toNat (ticketOf m)
  refine ⟨hready.selectable.check fun _ => hcan, _, hready.act, ?_, fun t hsea heng _ => ⟨?_, fun e he => ?_⟩⟩
  · rw [hcommand]
    exact (State.pmcEvent_keep _ _ _ rfl (Keep.modSea rfl ((u.shadowed_frame _).step rfl (Keep.refl _ _)))).box_eq
  · rw [hsea, hcommand, ← (State.pmcEvent_frame ..).1 .lnSea rfl m.inst.toNat, State.lineAt_modSea_self]
  · have hshadow : t.engAt e = (u.shadowed m.inst.toNat).engAt e := by
      rw [State.engAt, heng, hcommand]
      exact congrArg (tget · (fun _ => {}) e) ((State.pmcEvent_frame ..).1 .eng rfl).symm
    rw [hshadow]
    exact u.engAt_shadowed _ he

theorem selectSeaKernel_carries_other (k : Nat) (v : Word) : Carries .selectSeaKernel specSelectSeaKernel
    (fun m s => payloadOf m = [Word.nat k, v] ∧ k ≠ 0 ∧ k < 2 ^ 32 ∧ kernelIds.contains k ∧
      (s.startedLanes.contains m.inst.toNat = false ∨ kernelOf (s.lineAt m.inst.toNat).sea.tier ≠ k) ∧
      (s.kernAt k).vers.contains v ∧ ((s.kernAt k).own = v ∨ s.accepts fKernelLoad))
    fun m s t => Replied s t m cDone 0 ∧
      (t.lineAt m.inst.toNat).sea.sel = tset (s.lineAt m.inst.toNat).sea.sel (fun _ => none) k (some v.toNat) ∧
      (t.lineAt m.inst.toNat).sea.swap = (s.lineAt m.inst.toNat).sea.swap := by
  refine carries_done (fun _ _ => rfl) fun m s _ ⟨hpayload, _, hk, hid, hother, hvers, hown⟩ => ?_
  have hbegun := s.begun_congr specSelectSeaKernel.verb specSelectSeaKernel.noun m
    (fun u : State => u.Selectable k v ∧ u.runsKernel m.inst.toNat k = false) fun _ _ _ _ => rfl
  have hline := s.lineAt_begun specSelectSeaKernel.verb specSelectSeaKernel.noun m m.inst.toNat
  have hnot : s.runsKernel m.inst.toNat k = false := by
    unfold State.runsKernel
    dsimp only
    rcases hother with hother | hother
    · rw [hother, Bool.and_false]
    · simp [hother]
  have hword : (Word.nat k).toNat = k := by rw [Word.nat, BitVec.toNat_ofNat, Nat.mod_eq_of_lt hk]
  obtain ⟨hselect, hnot⟩ := hbegun.mpr ⟨⟨hk, hid, hvers, hown⟩, hnot⟩
  rw [hpayload]
  generalize s.begun specSelectSeaKernel.verb specSelectSeaKernel.noun m = u at *
  have hact : actSelect u m [Word.nat k, v] = (u.modSea m.inst.toNat fun x => { x with
      sel := tset x.sel (fun _ => none) k (some v.toNat), version := if x.tier = 0 ∧ k = 0 then v.toNat else x.version }, okDone) := by
    unfold actSelect
    simp only [List.getD_cons_zero, List.getD_cons_succ, hword]
    rw [hnot, if_neg Bool.false_ne_true]
  refine ⟨hselect.check fun hruns => ?_, _, _, _, hact, rfl, fun t ht => ?_⟩
  · rw [hnot] at hruns
    cases hruns
  · rw [← ht.1 .lnSea rfl, State.lineAt_modSea_self, hline]
    exact ⟨rfl, rfl⟩

/-! SET of "By swap" parameters (R136). -/

/-- A change that leaves the stage of every lane leaves the number of swaps. -/
theorem Keep.swapsRunning_eq {n : Nat} {s t : State} (h : Keep n s t) (hn : n.land 0x200004 = 0) :
    t.swapsRunning = s.swapsRunning := by
  have hfuses : s.fuses = t.fuses := h.1 .fuses (testBit_of_land_zero hn rfl)
  have hsea : ∀ l, (t.lineAt l).sea = (s.lineAt l).sea := fun l => (h.1 .lnSea (testBit_of_land_zero hn rfl) l).symm
  simp only [State.swapsRunning, State.lines, hfuses, hsea]

theorem filter_bySwap (cs : List ParamChange) : (cs.filter fun c => bySwap c.1) = cs.filter fun c => c.1 = 0 ∨ c.1 = 4 ∨ c.1 = 5 :=
  List.filter_congr fun c _ => by simp [bySwap, Bool.or_assoc]

theorem filter_not_bySwap (cs : List ParamChange) :
    (cs.filter fun c => !bySwap c.1) = cs.filter fun c => c.1 ≠ 0 ∧ c.1 ≠ 4 ∧ c.1 ≠ 5 :=
  List.filter_congr fun c _ => by simp [bySwap, Bool.and_assoc]

theorem setSeaKparam_carries_waiting (r : List Nat) (cs : List ParamChange) : Carries .setSeaKparam specSetSeaKparam
    (fun m s => parseMask (paramRows nSeaKparam) m.len.toNat (payloadOf m) = .ok r cs ∧
      (maskRange nSeaKparam m (payloadOf m)).isNone ∧
      ((maskSelected nSeaKparam (payloadOf m)).contains 0 ∨ (maskSelected nSeaKparam (payloadOf m)).contains 4) ∧
      0 < (s.lineAt m.inst.toNat).sea.tier ∧ (s.lineAt m.inst.toNat).sea.swap = none ∧
      (s.lineAt m.inst.toNat).sea.swapWait = none ∧ 4 ≤ s.swapsRunning ∧ ticketCheck m s = none)
    fun m s t => Replied s t m cAccepted 0 ∧
      t.params = (s.applyChanges nSeaKparam m.inst.toNat (cs.filter fun c => c.1 ≠ 0 ∧ c.1 ≠ 4 ∧ c.1 ≠ 5)).params ∧
      (t.lineAt m.inst.toNat).sea.swapWait =
        some { tier := (s.lineAt m.inst.toNat).sea.tier, version := (s.lineAt m.inst.toNat).sea.version,
               par := cs.filter fun c => c.1 = 0 ∨ c.1 = 4 ∨ c.1 = 5, ticket := some (ticketOf m) } := by
  refine carries_swap (fun _ _ => rfl) fun m s ⟨hparse, hrange, hsel, htier, hswap, hwait, hfour, hticket⟩ => ⟨hticket, ?_⟩
  have hbegun := s.begun_congr specSetSeaKparam.verb specSetSeaKparam.noun m
    (fun u : State => u.Unswapped m.inst.toNat ∧ 4 ≤ u.swapsRunning) fun _ _ _ _ => rfl
  have hline := s.lineAt_begun specSetSeaKparam.verb specSetSeaKparam.noun m m.inst.toNat
  obtain ⟨hnone, hfour⟩ := hbegun.mpr ⟨⟨hswap, hwait⟩, hfour⟩
  have hchanges : maskChanges nSeaKparam m (payloadOf m) = cs := by rw [maskChanges, hparse]
  have hparams : (s.begun specSetSeaKparam.verb specSetSeaKparam.noun m).params = s.params := ((s.begun_frame ..).1 .params rfl).symm
  have hfuses : (s.begun specSetSeaKparam.verb specSetSeaKparam.noun m).fuses = s.fuses := ((s.begun_frame ..).1 .fuses rfl).symm
  generalize s.begun specSetSeaKparam.verb specSetSeaKparam.noun m = u at *
  have hfollows : swapFollows u m (payloadOf m) = true := by
    unfold swapFollows
    simp only [hline, htier, decide_true, Bool.and_true, Bool.or_eq_true]
    exact hsel
  have happly := u.applyChanges_frame nSeaKparam m.inst.toNat (cs.filter fun c => c.1 ≠ 0 ∧ c.1 ≠ 4 ∧ c.1 ≠ 5)
  have happlied := State.applyChanges_params hparams hfuses nSeaKparam m.inst.toNat (cs.filter fun c => c.1 ≠ 0 ∧ c.1 ≠ 4 ∧ c.1 ≠ 5)
  have hsea := happly.1 .lnSea rfl m.inst.toNat
  have hact : actKparam u m (payloadOf m) = (((u.applyChanges nSeaKparam m.inst.toNat
      (cs.filter fun c => c.1 ≠ 0 ∧ c.1 ≠ 4 ∧ c.1 ≠ 5)).commandSwap m.inst.toNat (u.lineAt m.inst.toNat).sea.version (cs.filter fun c => c.1 = 0 ∨ c.1 = 4 ∨ c.1 = 5) (ticketOf m)).follow, .accepted []) := by
    unfold actKparam
    dsimp only
    rw [if_pos hfollows, hchanges, filter_bySwap, filter_not_bySwap]
  generalize u.applyChanges nSeaKparam m.inst.toNat (cs.filter fun c => c.1 ≠ 0 ∧ c.1 ≠ 4 ∧ c.1 ≠ 5) = w at *
  have hfree : w.Unswapped m.inst.toNat := by rwa [State.Unswapped, ← hsea]
  obtain ⟨-, hcommand⟩ := hfree.waits (hfour.trans_eq (happly.swapsRunning_eq rfl).symm) (u.lineAt m.inst.toNat).sea.version
    (cs.filter fun c => c.1 = 0 ∨ c.1 = 4 ∨ c.1 = 5) (ticketOf m)
  refine ⟨?_, _, hact, ?_, fun t hseas _ hkept => ⟨?_, ?_⟩⟩
  · change (maskRange nSeaKparam m (payloadOf m)).or _ = none
    rw [Option.isNone_iff_eq_none.1 hrange, (hnone.waits hfour 0 [] (ticketOf m)).1]
    simp
  · rw [hcommand]
    exact (happly.step rfl (Keep.refl _ _)).box_eq
  · rw [hkept, hcommand, ← happlied]
    rfl
  · rw [hseas, hcommand, State.lineAt_modSea_self, ← hsea, hline]

end Sys2Proof.Machine
end

section
/-! PROOFS. The commands on single units together (O40). -/

namespace Sys2Proof.Machine

/-- Settles O40, from one lemma for each command and outcome. -/
theorem unitCommandsComplete : Obligations.UnitCommandsComplete :=
  ⟨restartLrxAcq_carries, restartLrxAcq_carries_down, restartSdfHunt_carries, restartHslTrain_carries, squelchLtxOut_carries,
    releaseLtxOut_carries, captureLrxCapture_carries, abortLrxCapture_carries, loadSeaKernel_carries, loadFwImage_carries,
    selectSeaKernel_carries_waiting, selectSeaKernel_carries_starting, selectSeaKernel_carries_other, setSeaKparam_carries_waiting,
    runCalBlock_carries, runCalBlock_carries_noSpare, clearCalBlock_carries, ackThmSensor_carries, ackThmSensor_carries_sound,
    clearThmStatus_carries, clearPwrStatus_carries, switchFwPane_carries, switchFwPane_carries_active⟩

end Sys2Proof.Machine
end

section
/-! PROOFS. What the Hinge's operations leave of a lane's elastic stage and of its counts: engines that come and go, swaps that start
and end, yields, and plans (R154 to R163, R168). -/

namespace Sys2Proof.Machine

/-! A stage but for what an operation may change. -/

/-- A stage but for its yield and the hold of its adaptation (R167, R168). -/
def Sea.calm (x : Sea) : Sea := { x with yielding := false, cause := .capacity, yieldSince := 0, adaptHold := false }

/-- A calm stage but for the swap that runs, the one that waits, and the wait for the next plan (R161, R163). -/
def Sea.kernel (x : Sea) : Sea := { x.calm with swap := none, swapWait := none, waitPlan := false }

/-- A stage's kernel but for the plan that it follows (R154, R156). -/
def Sea.running (x : Sea) : Sea := { x.kernel with plan := 0, planEng := 0, held := false }

/-- The part `g` of every lane's stage, the lane's statistic `i` of the elastic stage, and the mailboxes are as they were. -/
structure State.SeaKept (g : Sea → Sea) (i : Nat) (s t : State) : Prop where
  sea : ∀ l, g (t.lineAt l).sea = g (s.lineAt l).sea
  stat : ∀ l, t.statAt gSea l i = s.statAt gSea l i
  box : t.mb.box = s.mb.box

namespace State.SeaKept
variable {m i l : Nat} {g g' : Sea → Sea} {f : Sea → Sea} {s t u : State}

theorem refl (s : State) : s.SeaKept g i s := ⟨fun _ => rfl, fun _ => rfl, rfl⟩

/-- A further change that keeps a finer part. -/
theorem step (h' : t.SeaKept g' i u) (hg : ∀ x, g (g' x) = g x) (h : s.SeaKept g i t) : s.SeaKept g i u where
  sea l := by rw [← hg, h'.sea, hg, h.sea]
  stat l := (h'.stat l).trans (h.stat l)
  box := h'.box.trans h.box

theorem keep (h' : Keep m t u) (hm : m.land 0x220080 = 0) (h : s.SeaKept g i t) : s.SeaKept g i u where
  sea l := by rw [← h'.1 .lnSea (testBit_of_land_zero hm rfl) l, h.sea]
  stat l := (h'.statAt_eq (testBit_of_land_zero hm rfl) ..).trans (h.stat l)
  box := (congrArg Mb.box (h'.1 .mb (testBit_of_land_zero hm rfl))).symm.trans h.box

theorem modSea (hf : ∀ x, g (f x) = g x) (h : s.SeaKept g i t) : s.SeaKept g i (t.modSea l f) where
  sea k := by
    rw [State.lineAt_modSea]
    split
    · next hk => rw [hk]; exact (hf _).trans (h.sea l)
    · exact h.sea k
  stat := h.stat
  box := h.box

/-- Another statistic counts. -/
theorem bump {j : Nat} (hij : i % 32 ≠ j % 32) (h : s.SeaKept g i t) : s.SeaKept g i (t.bump gSea l j) where
  sea := h.sea
  stat k := (t.statAt_bump_other _ _ _ _ hij).trans (h.stat k)
  box := h.box

/-- A command ends: its record leaves the mailboxes (R447). -/
theorem finishOpt {ticket : Option Ticket} {code detail : Nat} {o : Obj} (h : s.SeaKept g i t) :
    s.SeaKept g i (t.finishOpt ticket code detail o) where
  sea l := (congrArg g (((t.finishOpt_frame ticket code detail o).1 .lnSea rfl) l).symm).trans (h.sea l)
  stat l := ((t.finishOpt_frame ticket code detail o).statAt_eq rfl ..).trans (h.stat l)
  box := by
    refine Eq.trans ?_ h.box
    unfold State.finishOpt
    split
    · rfl
    · unfold State.finishObj
      split
      · rfl
      · dsimp only
        split
        · rfl
        · exact (congrArg Mb.box ((State.cmdDone_frame ..).1 .mb rfl)).symm

theorem foldl {α : Type} {op : State → α → State} (hop : ∀ u x, s.SeaKept g i u → s.SeaKept g i (op u x)) (xs : List α)
    (h : s.SeaKept g i t) : s.SeaKept g i (xs.foldl op t) :=
  List.foldlRecOn (motive := s.SeaKept g i) xs op h fun u hu x _ => hop u x hu

/-- A field that belongs to the part. -/
theorem sea_eq {α : Type} (h : s.SeaKept g i t) (l : Nat) (f : Sea → α) (hf : ∀ x, f (g x) = f x) :
    f (t.lineAt l).sea = f (s.lineAt l).sea := by rw [← hf, h.sea, hf]

end State.SeaKept

section
variable {i : Nat} (s : State)

/-! Engines come and go. -/

theorem State.holdAdapt_kept (l : Nat) : s.SeaKept Sea.calm i (s.holdAdapt l) := by
  unfold State.holdAdapt
  exact .modSea (fun _ => rfl) (.refl _)

theorem State.fillAdapt_kept (l : Nat) : s.SeaKept Sea.calm i (s.fillAdapt l) := by
  unfold State.fillAdapt
  split
  · refine .step (State.holdAdapt_kept _ l) (fun _ => rfl) (.foldl (fun u _ hu => ?_) _ (.refl _))
    split
    · split
      · exact hu
      · exact .keep (State.assign_slice_frame ..) rfl hu
    · exact hu
  · exact .refl _

theorem State.reserve_kept : s.SeaKept Sea.calm i s.reserve :=
  .keep (State.topUp_keep _ _ rfl (Keep.refl 0x80000000 _)) rfl
    (.foldl (fun u l => .step (u.fillAdapt_kept l) fun _ => rfl) _ (.refl _))

theorem State.releaseSpare_kept (l : Nat) : s.SeaKept Sea.calm i (s.releaseSpare l) := by
  unfold State.releaseSpare
  extract_lets s1
  have hs1 : Keep 0x180000000 s s1 := Keep.ite (Keep.refl _ _) (State.returnLent_keep _ _ rfl (Keep.refl _ _))
  split
  · exact .keep hs1 rfl (.refl _)
  · exact .step (State.reserve_kept _) (fun _ => rfl) (.keep (State.freeEngines_keep _ _ rfl hs1) rfl (.refl _))

theorem State.addEngines_frame (s : State) (l n : Nat) : Keep 0x10280000302 s (s.addEngines l n).1 := by
  induction n generalizing s with
  | zero => exact Keep.refl _ _
  | succ n ih =>
    unfold State.addEngines
    split
    · exact Keep.refl _ _
    · exact (ih _).step rfl (s.assign_slice_frame ..)

theorem State.lendOne_frame (l : Nat) : Keep 0x10380000302 s (s.lendOne l) := by
  unfold State.lendOne
  split
  · exact Keep.refl _ _
  · exact Keep.set_hinge rfl (Keep.modEng rfl ((s.assign_slice_frame ..).step rfl (Keep.refl _ _)))

theorem State.enlarge_kept (l : Nat) : s.SeaKept Sea.kernel i (s.enlarge l) := by
  unfold State.enlarge
  extract_lets a s1 lend
  have hs1 : s.SeaKept Sea.kernel i s1 :=
    .modSea (fun _ => rfl) (.keep (s.addEngines_frame l _) rfl (.refl _))
  split
  · exact .foldl (fun u _ => .keep (u.lendOne_frame l) rfl) _ hs1
  · exact hs1

/-! Yields: they count as statistics 2 and 3 of the lane (R168, R170). -/

theorem State.seaYield_kept (hi : i % 32 ≠ 2) (l t : Nat) (c : YieldCause) : s.SeaKept Sea.calm i (s.seaYield l t c) :=
  .keep (State.raise_keep _ _ _ rfl (State.countYield_keep _ _ _ rfl (Keep.refl 0x10000000300 _))) rfl
    (.bump hi (.modSea (fun _ => rfl) (.refl _)))

theorem State.seaYieldEnd_kept (hi : i % 32 ≠ 3) (l : Nat) : s.SeaKept Sea.calm i (s.seaYieldEnd l) := by
  unfold State.seaYieldEnd
  dsimp only
  split
  · exact .keep (State.raise_keep _ _ _ rfl (State.countYieldEnd_keep _ _ _ rfl (Keep.refl 0x10000000300 _))) rfl
      (.bump hi (.modSea (fun _ => rfl) (.refl _)))
  · exact .refl _

theorem State.judgeLane_kept (hi : i % 32 ≠ 2 ∧ i % 32 ≠ 3) (old : List (Nat × Nat × Nat)) (why : YieldCause) (l : Nat) :
    s.SeaKept Sea.calm i (s.judgeLane old why l) := by
  unfold State.judgeLane
  extract_lets x run same
  split
  · split
    · exact .refl _
    · exact s.seaYield_kept hi.1 ..
  · split
    · exact s.seaYieldEnd_kept hi.2 l
    · split
      · exact s.seaYield_kept hi.1 ..
      · exact .refl _

theorem State.judgeYield_kept (hi : i % 32 ≠ 2 ∧ i % 32 ≠ 3) (old : List (Nat × Nat × Nat)) (why : Nat → YieldCause) :
    s.SeaKept Sea.calm i (s.judgeYield old why) :=
  .foldl (fun u l => .step (u.judgeLane_kept hi old (why l) l) fun _ => rfl) _ (.refl _)

theorem State.judgeAgain_kept (hi : i % 32 ≠ 2 ∧ i % 32 ≠ 3) (old : List (Nat × Nat × Nat)) :
    s.SeaKept Sea.calm i (s.judgeAgain old) := s.judgeYield_kept hi old _

/-! Swaps: an abandoned one counts as statistic 5 of the lane (R160). -/

/-- A swap that ends is no more; nothing else of its lane's stage changes. -/
theorem State.endSwap_kept (l : Nat) (w : Swap) (keep : Bool) :
    (s.modSea l fun x => { x with swap := none }).SeaKept Sea.calm i (s.endSwap l w keep) := by
  unfold State.endSwap
  extract_lets s1 s2 s3
  have hs2 : Keep 0x80000000 s s2 := State.toTransom_keep _ _ rfl (State.freeEngines_keep _ _ rfl (Keep.refl _ _))
  have hs3 : Keep 0x80000000 s s3 := Keep.ite hs2 (State.freeEngines_keep _ _ rfl hs2)
  refine .step (State.reserve_kept _) (fun _ => rfl)
    ⟨fun k => congrArg Sea.calm ?_, fun k => hs3.statAt_eq rfl gSea k i, (hs3.step rfl (Keep.refl _ _)).box_eq⟩
  rw [State.lineAt_modSea, State.lineAt_modSea, hs3.lineAt_eq rfl, hs3.lineAt_eq rfl]

theorem State.abandonSwap_kept (hi : i % 32 ≠ 5) (l reason detail : Nat) :
    s.SeaKept Sea.kernel i (s.abandonSwap l reason detail) := by
  have hend : ∀ w keep, s.SeaKept Sea.kernel i (s.endSwap l w keep) := fun w keep =>
    .step (s.endSwap_kept l w keep) (fun _ => rfl) (.modSea (fun _ => rfl) (.refl _))
  unfold State.abandonSwap
  split
  · exact .refl _
  · split
    · exact hend ..
    · exact .keep (State.tellPlaced_keep _ _ rfl (Keep.refl 0x300 _)) rfl
        (.finishOpt (.keep (State.raise_frame ..) rfl (.bump hi (hend ..))))

/-- A swap that starts: only its lane has another stage, and there only the swap is new (R159). -/
theorem State.startSwap_eq {s u : State} {l tier version count : Nat} {ticket : Option Ticket} {par : List (Nat × Word)}
    (h : s.startSwap l tier version ticket count par = some u) :
    ∃ t w, Keep 0x10280000302 s t ∧ u = (t.modSea l fun x => { x with swap := some w }).pmcEvent 0x051 1 := by
  unfold State.startSwap at h
  split at h
  · cases h
  · exact ⟨_, _, Keep.foldl _ (fun v e hv => (v.assign_slice_frame e .shadow l).step rfl hv) (Keep.refl _ _), (Option.some.inj h).symm⟩

theorem State.startSwap_kept {s u : State} {l tier version count : Nat} {ticket : Option Ticket} {par : List (Nat × Word)}
    (h : s.startSwap l tier version ticket count par = some u) : s.SeaKept Sea.kernel i u := by
  obtain ⟨t, w, ht, rfl⟩ := State.startSwap_eq h
  exact .keep (State.pmcEvent_frame ..) rfl (.modSea (fun _ => rfl) (.keep ht rfl (.refl _)))

/-- A swap that starts where it can, or what takes its place. -/
theorem State.getD_startSwap_kept {s t v : State} {l tier version count : Nat} {ticket : Option Ticket} {par : List (Nat × Word)}
    (h : s.SeaKept Sea.kernel i t) (hv : s.SeaKept Sea.kernel i v) :
    s.SeaKept Sea.kernel i ((t.startSwap l tier version ticket count par).getD v) := by
  cases hstart : t.startSwap l tier version ticket count par with
  | none => exact hv
  | some u => exact .step (State.startSwap_kept hstart) (fun _ => rfl) h

theorem State.startRaise_kept (l : Nat) : s.SeaKept Sea.kernel i (s.startRaise l) := by
  unfold State.startRaise
  extract_lets x
  have hwait : ∀ f : Sea → Sea, (∀ x, (f x).kernel = x.kernel) → s.SeaKept Sea.kernel i (s.modSea l f) := fun f hf =>
    .modSea hf (.refl _)
  split
  · exact .refl _
  · split
    · exact State.getD_startSwap_kept (hwait _ fun _ => rfl) (.finishOpt (hwait _ fun _ => rfl))
    · split
      · exact State.getD_startSwap_kept (.refl _) (hwait _ fun _ => rfl)
      · exact .refl _

theorem State.startRaises_kept : s.SeaKept Sea.kernel i s.startRaises := by
  unfold State.startRaises
  split
  · exact .foldl (fun u l => .step (u.startRaise_kept l) fun _ => rfl) _ (.refl _)
  · exact .refl _

theorem State.waitFollows_kept (l : Nat) : s.SeaKept Sea.kernel i (s.waitFollows l) := by
  unfold State.waitFollows
  extract_lets x s1
  split
  · exact .refl _
  · split
    · exact .refl _
    · have hs1 : s.SeaKept Sea.kernel i s1 := .modSea (fun _ => rfl) (.refl _)
      split
      · exact .finishOpt (.keep (State.raise_frame ..) rfl hs1)
      · split
        · exact .finishOpt (.keep (State.putPar_keep _ _ _ rfl (Keep.refl 0x10000 _)) rfl hs1)
        · exact .modSea (fun _ => rfl) (.refl _)

/-! Plans. -/

theorem State.takePlan_kept (hi : i % 32 ≠ 5) (now : Bool) (r : Nat) (p : LanePlan) :
    s.SeaKept Sea.running i (s.takePlan now r p) := by
  unfold State.takePlan
  extract_lets l x s1
  have hs1 : s.SeaKept Sea.running i s1 := by
    dsimp only [s1]
    split
    · exact .refl _
    · split
      · exact .step (s.abandonSwap_kept hi ..) (fun _ => rfl) (.refl _)
      · exact .refl _
  exact .modSea (fun _ => rfl) hs1

/-- A plan leaves the kernels that run, the drops that are due and the raises that are barred. -/
theorem State.replan_kept (hi : i % 32 ≠ 2 ∧ i % 32 ≠ 3 ∧ i % 32 ≠ 5) (now : Nat → Bool) (drop : Option Nat) :
    s.SeaKept Sea.running i (s.replan now drop) := by
  obtain ⟨hyield, hend, habandon⟩ := hi
  unfold State.replan
  extract_lets r p free before why old s1 hinge s2
  split
  · have hs1 : s.SeaKept Sea.running i s1 :=
      .foldl (fun u q => .step (u.takePlan_kept habandon ..) fun _ => rfl) _ (.refl _)
    have hs2 : Keep 0x20100000300 s1 s2 := State.pmcEvent_keep _ _ _ rfl (Keep.set_hinge rfl (Keep.refl _ _))
    exact .step (State.startRaises_kept _) (fun _ => rfl)
      (.step (State.judgeYield_kept _ ⟨hyield, hend⟩ ..) (fun _ => rfl) (.keep hs2 rfl hs1))
  · exact .refl _

end

end Sys2Proof.Machine
end

section
/-! PROOFS. The steps of a kernel swap (O12; R136, R159, R160). -/

namespace Sys2Proof.Machine

theorem State.swapIn_of_step {s : State} {l n : Nat} {w : Swap} (hswap : (s.lineAt l).sea.swap = some w) (hstep : w.step = n) :
    s.swapIn l n = some w := by
  unfold State.swapIn
  rw [hswap]
  exact if_pos hstep

/-! The shadows of a swap. -/

theorem State.shadowCoefs_frame (s : State) (w : Swap) (cs : List Int) : Keep 0x80000000 s (s.shadowCoefs w cs) :=
  s.shadowCoefs_keep w cs rfl (Keep.refl _ _)

/-- Every shadow takes the set. -/
theorem State.engAt_shadowCoefs (s : State) (w : Swap) (cs : List Int) {e : Nat} (he : e ∈ w.shadows ++ w.lent) :
    ((s.shadowCoefs w cs).engAt e).coefs = coefSetOf cs := by
  refine foldl_reaches (Q := fun _ => True) (R := fun u : State => (u.engAt e).coefs = coefSetOf cs) he (fun _ _ h => h)
    (fun u _ => by rw [State.engAt_modEng_self]) (fun u k hu => ?_) trivial
  rw [State.engAt_modEng]
  split
  · rfl
  · exact hu

/-- A swap that goes to its next step with the set `cs` for its shadows: the other lanes are as they were. -/
theorem State.lineAt_shadowed_swap (s : State) (l : Nat) (w w' : Swap) (cs : List Int) :
    (((s.setSwap l w').shadowCoefs w cs).lineAt l).sea = { (s.lineAt l).sea with swap := some w' } ∧
      ∀ k, k ≠ l → ((s.setSwap l w').shadowCoefs w cs).lineAt k = s.lineAt k := by
  constructor
  · rw [(State.shadowCoefs_frame ..).lineAt_eq rfl, State.setSwap, State.lineAt_modSea_self]
  · intro k hk
    rw [(State.shadowCoefs_frame ..).lineAt_eq rfl, State.setSwap, State.lineAt_modSea_other s hk]

/-! Steps 2 to 4. -/

/-- What the shadows start from: the live coefficients, new terms at zero (R159). -/
def State.stagedCoefs (s : State) (l : Nat) (w : Swap) : List Int :=
  (s.liveMaster l (s.parWith l w.par 0)).zipIdx.map fun c => if max 16 (macOf (s.lineAt l).sea.tier) ≤ c.2 then 0 else c.1

/-- The stage chooses echo delays and third-order terms where the kernel of its swap brings them (R135). -/
def State.withTerms (s : State) (l : Nat) (w : Swap) : State :=
  let x := (s.lineAt l).sea
  let s1 := if x.tier < 3 then
      s.modSea l fun y => { y with delays := s.echoDelays l (s.parWith l w.par 4) (s.parWith l w.par 5) }
    else s
  if x.tier < 4 ∧ w.tier = 4 then (s1.modSea l fun y => { y with third := chooseThird s.freeVal.toNat }).freeNext else s1

theorem State.lineAt_withTerms_other (s : State) {l k : Nat} (w : Swap) (hk : k ≠ l) : (s.withTerms l w).lineAt k = s.lineAt k := by
  unfold State.withTerms
  extract_lets x s1
  have hs1 : s1.lineAt k = s.lineAt k := by
    dsimp only [s1]
    split
    · exact s.lineAt_modSea_other hk _
    · rfl
  split
  · exact ((State.freeNext_keep _ rfl (Keep.refl 0x2 _)).lineAt_eq rfl k).trans ((s1.lineAt_modSea_other hk _).trans hs1)
  · exact hs1

theorem exec_swapStaged_of_count {s : State} {l : Nat} {w : Swap} (hswap : (s.lineAt l).sea.swap = some w) (hstep : w.step = 1)
    (hcount : w.count ≤ (s.groupOf l).length) : exec (.swapStaged l) s = .next
      (((s.withTerms l w).setSwap l { w with step := 3, coefs := s.stagedCoefs l w }).shadowCoefs w (s.stagedCoefs l w)) := by
  change execSwapStaged l s = _
  unfold execSwapStaged
  rw [State.swapIn_of_step hswap hstep]
  dsimp only
  rw [if_neg (Nat.not_lt.2 hcount)]
  rfl

/-- Step 2 ends: the shadows start from the live coefficients. -/
theorem swapStaged_completes (l : Nat) (w : Swap) : Completes (.swapStaged l)
    (fun s => (s.lineAt l).sea.swap = some w ∧ w.step = 1 ∧ w.count ≤ (s.groupOf l).length)
    fun s t => (∃ cs, (t.lineAt l).sea.swap = some { w with step := 3, coefs := cs } ∧
        cs = (s.liveMaster l (s.parWith l w.par 0)).zipIdx.map
          (fun c => if max 16 (macOf (s.lineAt l).sea.tier) ≤ c.2 then 0 else c.1) ∧
        ∀ e ∈ w.shadows ++ w.lent, (t.engAt e).coefs = coefSetOf cs) ∧
      (∀ k, k ≠ l → t.lineAt k = s.lineAt k) ∧ OnlyChanges [.free, .lnSea, .eng] s t := by
  rintro s ⟨hswap, hstep, hcount⟩
  have hexec := exec_swapStaged_of_count hswap hstep hcount
  obtain ⟨hsea, hother⟩ :=
    (s.withTerms l w).lineAt_shadowed_swap l w { w with step := 3, coefs := s.stagedCoefs l w } (s.stagedCoefs l w)
  exact ⟨_, hexec, ⟨s.stagedCoefs l w, congrArg Sea.swap hsea, rfl, fun e => State.engAt_shadowCoefs _ w _⟩,
    fun k hk => (hother k hk).trans (s.lineAt_withTerms_other w hk), (execSwapStaged_keep l s hexec).among rfl⟩

/-- What the shadows have adapted to when the settle time has passed: the terms that come new, from their errors (R159). -/
def State.settledCoefs (s : State) (l : Nat) (w : Swap) (ups : List (Int × List Int)) : List Int :=
  (ups.foldl (kernelLms (-(s.parI nSeaKparam l 1)).toNat (s.leakOf l)) w.coefs).zipIdx.map
    fun c => if c.2 < macOf (s.lineAt l).sea.tier then w.coefs.getD c.2 0 else c.1

/-- Step 3 ends: the terms that come new have adapted. -/
theorem shadowSettleEnd_completes (l : Nat) (w : Swap) (ups : List (Int × List Int)) : Completes (.shadowSettleEnd l ups)
    (fun s => (s.lineAt l).sea.swap = some w ∧ w.step = 3)
    fun s t => (∃ cs, (t.lineAt l).sea = { (s.lineAt l).sea with swap := some { w with step := 4, coefs := cs } } ∧
        cs = (ups.foldl (kernelLms (-(s.parI nSeaKparam l 1)).toNat (s.leakOf l)) w.coefs).zipIdx.map
          (fun c => if c.2 < macOf (s.lineAt l).sea.tier then w.coefs.getD c.2 0 else c.1) ∧
        ∀ e ∈ w.shadows ++ w.lent, (t.engAt e).coefs = coefSetOf cs) ∧
      (∀ k, k ≠ l → t.lineAt k = s.lineAt k) ∧ OnlyChanges [.lnSea, .eng] s t := by
  rintro s ⟨hswap, hstep⟩
  have hexec : exec (.shadowSettleEnd l ups) s = .next ((s.setSwap l { w with step := 4, coefs := s.settledCoefs l w ups }).shadowCoefs w
      (s.settledCoefs l w ups)) := by
    change execShadowSettleEnd l s ups = _
    unfold execShadowSettleEnd
    rw [State.swapIn_of_step hswap hstep]
    rfl
  obtain ⟨hsea, hother⟩ := s.lineAt_shadowed_swap l w { w with step := 4, coefs := s.settledCoefs l w ups } (s.settledCoefs l w ups)
  exact ⟨_, hexec, ⟨s.settledCoefs l w ups, hsea, rfl, fun e => State.engAt_shadowCoefs _ w _⟩, hother,
    (execShadowSettleEnd_keep l s ups hexec).among rfl⟩

/-- Step 4 ends: the two error powers stand in the swap. -/
theorem swapComparisonDone_completes (l : Nat) (w : Swap) (a b : Int) : Completes (.swapComparisonDone l a b)
    (fun s => (s.lineAt l).sea.swap = some w ∧ w.step = 4)
    fun s t => (t.lineAt l).sea = { (s.lineAt l).sea with swap := some { w with step := 5, live := a, shadow := b } } ∧
      (∀ k, k ≠ l → t.lineAt k = s.lineAt k) ∧ OnlyChanges [.lnSea] s t := by
  rintro s ⟨hswap, hstep⟩
  have hexec : exec (.swapComparisonDone l a b) s = .next (s.setSwap l { w with step := 5, live := a, shadow := b }) := by
    change execSwapComparisonDone l a b s = _
    unfold execSwapComparisonDone
    rw [State.swapIn_of_step hswap hstep]
  refine ⟨_, hexec, ?_, fun k hk => s.lineAt_modSea_other hk _, (execSwapComparisonDone_keep l a b s hexec).among rfl⟩
  rw [State.setSwap, State.lineAt_modSea_self]

/-! Step 5: the switch. -/

/-- The live coefficients with the adapted ones for the terms that come new (R159). -/
def State.switchedCoefs (s : State) (l : Nat) (w : Swap) : List Int :=
  (s.liveMaster l (s.parWith l w.par 0)).zipIdx.map
    fun c => if c.2 < macOf (s.lineAt l).sea.tier then c.1 else w.coefs.getD c.2 0

/-- The stage after a switch: the new kernel in force, the swap in step 6. -/
def Sea.switched (x : Sea) (w : Swap) (cs : List Int) : Sea :=
  { x with swap := some { w with step := 6, ticket := none }, tier := w.tier, version := w.version, master := cs
           sel := tset x.sel (fun _ => none) (kernelOf w.tier) (some w.version) }

theorem State.switchKernel_engines (s : State) (l : Nat) (w : Swap) : Keep 0x80000000
    ((s.putPar l w.par).modSea l fun x => x.switched w (s.switchedCoefs l w)) (s.switchKernel l w) :=
  Keep.foldl _ (fun _ _ hu => Keep.modEng rfl hu) (Keep.refl _ _)

theorem State.sea_switchKernel (s : State) (l : Nat) (w : Swap) :
    ((s.switchKernel l w).lineAt l).sea = (s.lineAt l).sea.switched w (s.switchedCoefs l w) := by
  rw [(s.switchKernel_engines l w).lineAt_eq rfl, State.lineAt_modSea_self, (s.putPar_keep l w.par rfl (Keep.refl 0x10000 s)).lineAt_eq rfl]

/-- The "By swap" values take effect (R136). -/
theorem State.params_switchKernel (s : State) (l : Nat) (w : Swap) : (s.switchKernel l w).params = (s.putPar l w.par).params :=
  ((s.switchKernel_engines l w).1 .params rfl).symm

/-- What follows a switch: SEA_SWAP_DONE, SEA_PLACED, yields that begin or end, and the end of the command. -/
def State.switchTold (s u : State) (l : Nat) (w : Swap) : State :=
  ((((u.raise evSeaSwapDone
    [Word.nat l, Word.nat (kernelOf w.tier), Word.nat w.version, Word.int w.live, Word.int w.shadow]).tellPlaced s).judgeAgain
      s.standing).finishOpt w.ticket cDone 0 (.line l)).follow

theorem exec_swapSwitch_of_fits {s : State} {l : Nat} {w : Swap} (hswap : (s.lineAt l).sea.swap = some w) (hstep : w.step = 5)
    (hpower : w.shadow ≤ w.live + 10) (hfits : engNeed (s.half l) w.tier s.planRate ≤ (s.groupOf l).length) :
    exec (.swapSwitch l) s = .next (s.switchTold ((s.switchKernel l w).bump gSea l 4) l w) := by
  change execSwapSwitch l s = _
  unfold execSwapSwitch
  rw [State.swapIn_of_step hswap hstep]
  dsimp only
  rw [if_pos ⟨hpower, hfits⟩]
  rfl

theorem State.switchTold_frame (s u : State) (l : Nat) (w : Swap) : Keep 0x3601bb25b88
    (u.raise evSeaSwapDone [Word.nat l, Word.nat (kernelOf w.tier), Word.nat w.version, Word.int w.live, Word.int w.shadow])
    (s.switchTold u l w) :=
  State.follow_keep _ rfl (State.finishOpt_keep _ _ _ _ _ rfl (State.judgeAgain_keep _ _ rfl
    (State.tellPlaced_keep _ _ rfl (Keep.refl _ _))))

theorem State.switchTold_kept (s u : State) (l : Nat) (w : Swap) : u.SeaKept Sea.calm 4 (s.switchTold u l w) :=
  .keep (State.follow_frame _) rfl (.finishOpt (.step (State.judgeAgain_kept _ (by decide) _) (fun _ => rfl)
    (.keep (State.tellPlaced_keep _ _ rfl (State.raise_frame ..)) rfl (.refl _))))

/-- The group switches where the shadow is at most 0.1 dB above the live kernel and the group has its engines. -/
theorem swapSwitch_completes (l : Nat) (w : Swap) : Completes (.swapSwitch l)
    (fun s => (s.lineAt l).sea.swap = some w ∧ w.step = 5 ∧ w.shadow ≤ w.live + 10 ∧
      engNeed (s.half l) w.tier s.planRate ≤ (s.groupOf l).length ∧ s.hears)
    fun s t => (t.lineAt l).sea.tier = w.tier ∧ (t.lineAt l).sea.version = w.version ∧
      (t.lineAt l).sea.swap = some { w with step := 6, ticket := none } ∧
      (t.lineAt l).sea.master = (s.liveMaster l (s.parWith l w.par 0)).zipIdx.map
        (fun c => if c.2 < macOf (s.lineAt l).sea.tier then c.1 else w.coefs.getD c.2 0) ∧
      t.params = (s.putPar l w.par).params ∧
      Raises s t evSeaSwapDone [Word.nat l, Word.nat (kernelOf w.tier), Word.nat w.version, Word.int w.live, Word.int w.shadow] := by
  rintro s ⟨hswap, hstep, hpower, hfits, hears⟩
  have hkept := s.switchTold_kept ((s.switchKernel l w).bump gSea l 4) l w
  have hsea : (((s.switchKernel l w).bump gSea l 4).lineAt l).sea = _ := s.sea_switchKernel l w
  refine ⟨_, exec_swapSwitch_of_fits hswap hstep hpower hfits, ?_, ?_, ?_, ?_, ?_, ?_⟩
  · rw [hkept.sea_eq l Sea.tier fun _ => rfl, hsea]; rfl
  · rw [hkept.sea_eq l Sea.version fun _ => rfl, hsea]; rfl
  · rw [hkept.sea_eq l Sea.swap fun _ => rfl, hsea]; rfl
  · rw [hkept.sea_eq l Sea.master fun _ => rfl, hsea]; rfl
  · rw [← s.params_switchKernel l w, ← (State.switchTold_frame ..).1 .params rfl, State.raise_params]; rfl
  · exact Raises.of_keep (m := 0x80230000) hears (Keep.bump rfl (State.switchKernel_keep _ _ _ rfl (Keep.refl _ _))) rfl
      (State.switchTold_frame ..) rfl

/-! Step 5: the swap is abandoned. -/

/-- What an abandonment before the switch leaves: the swap is gone, its count has moved on. -/
theorem State.abandonSwap_abandoned {s : State} {l : Nat} {w : Swap} (hswap : (s.lineAt l).sea.swap = some w) (hstep : w.step ≠ 6)
    (reason detail : Nat) :
    ((s.abandonSwap l reason detail).lineAt l).sea.calm = { (s.lineAt l).sea.calm with swap := none } ∧
      (s.abandonSwap l reason detail).statAt gSea l 5 = (s.statAt gSea l 5).add 1 ∧
      (s.hears → Raises s (s.abandonSwap l reason detail) evSeaSwapAbandoned [Word.nat l, Word.nat reason]) := by
  have hend : (s.modSea l fun x => { x with swap := none }).SeaKept Sea.calm 5 (s.endSwap l w false) := s.endSwap_kept l w false
  have hbefore : Keep 0x10280220382 s ((s.endSwap l w false).bump gSea l 5) :=
    Keep.bump rfl (State.endSwap_keep _ _ _ _ rfl (Keep.refl _ _))
  unfold State.abandonSwap
  rw [hswap]
  dsimp only
  rw [if_neg hstep]
  have hafter : Keep 0x20000001b80 (((s.endSwap l w false).bump gSea l 5).raise evSeaSwapAbandoned [Word.nat l, Word.nat reason]) _ :=
    State.tellPlaced_keep _ s rfl (State.finishOpt_keep _ w.ticket cStateRefused detail (.line l) rfl (Keep.refl _ _))
  refine ⟨?_, ?_, fun hears => Raises.of_keep hears hbefore rfl hafter rfl⟩
  · rw [hafter.lineAt_eq rfl, State.raise_lineAt_sea, State.lineAt_bump, hend.sea, State.lineAt_modSea_self]
    rfl
  · rw [hafter.statAt_eq rfl, (State.raise_frame ..).statAt_eq rfl, State.statAt_bump_self, hend.stat]
    rfl

/-- An event that was raised stands through what takes no event away. -/
theorem Raises.keep {n code : Nat} {data : List Word} {s u t : State} (h : Raises s u code data) (ht : Keep n u t)
    (hn : n.testBit 47 = false) : Raises s t code data := by
  have hafter : u.ev.raised <+: t.ev.raised := ht.1 .evTaken hn
  obtain ⟨hbefore, hmem⟩ := h
  exact ⟨hbefore.trans hafter, hafter.subset hmem⟩

/-- Raises to the tier of a swap that failed wait for the dwell (R160). -/
def State.barRaise (s u : State) (l : Nat) (w : Swap) : State :=
  if (s.lineAt l).sea.tier < w.tier then u.modSea l fun x => { x with bar := w.tier } else u

theorem State.barRaise_frame (s u : State) (l : Nat) (w : Swap) : Keep 0x200000 u (s.barRaise u l w) :=
  Keep.ite (Keep.modSea rfl (Keep.refl _ _)) (Keep.refl _ _)

theorem State.sea_barRaise (s u : State) (l : Nat) (w : Swap) : ((s.barRaise u l w).lineAt l).sea =
    { (u.lineAt l).sea with bar := if (s.lineAt l).sea.tier < w.tier then w.tier else (u.lineAt l).sea.bar } := by
  unfold State.barRaise
  split
  · rw [State.lineAt_modSea_self]
  · rfl

/-- The swap is abandoned for want of quality, and yields begin or end (R160, R168). -/
def State.failSwap (s : State) (l : Nat) (w : Swap) : State :=
  ((s.barRaise (s.abandonSwap l swR160 2) l w).judgeAgain s.standing).follow

theorem exec_swapSwitch_of_worse {s : State} {l : Nat} {w : Swap} (hswap : (s.lineAt l).sea.swap = some w) (hstep : w.step = 5)
    (hpower : w.live + 10 < w.shadow) (hfits : engNeed (s.half l) w.tier s.planRate ≤ (s.groupOf l).length) :
    exec (.swapSwitch l) s = .next (s.failSwap l w) := by
  change execSwapSwitch l s = _
  unfold execSwapSwitch
  rw [State.swapIn_of_step hswap hstep]
  dsimp only
  rw [if_neg fun h => absurd h.1 (Int.not_le.2 hpower), if_pos hfits]
  rfl

/-- The live kernel stays where the shadow is more than 0.1 dB above it. -/
theorem swapSwitch_completes_of_worse (l : Nat) (w : Swap) : Completes (.swapSwitch l)
    (fun s => (s.lineAt l).sea.swap = some w ∧ w.step = 5 ∧ w.live + 10 < w.shadow ∧
      engNeed (s.half l) w.tier s.planRate ≤ (s.groupOf l).length ∧ s.hears)
    fun s t => (t.lineAt l).sea.tier = (s.lineAt l).sea.tier ∧ (t.lineAt l).sea.version = (s.lineAt l).sea.version ∧
      (t.lineAt l).sea.swap = none ∧ t.params = s.params ∧
      ((s.lineAt l).sea.tier < w.tier → (t.lineAt l).sea.bar = w.tier) ∧
      t.statAt gSea l 5 = (s.statAt gSea l 5).add 1 ∧ Raises s t evSeaSwapAbandoned [Word.nat l, Word.nat 0] := by
  rintro s ⟨hswap, hstep, hpower, hfits, hears⟩
  obtain ⟨hsea, hcount, htold⟩ := State.abandonSwap_abandoned hswap (by omega) swR160 2
  have hbar := s.barRaise_frame (s.abandonSwap l swR160 2) l w
  have hkept : (s.barRaise (s.abandonSwap l swR160 2) l w).SeaKept Sea.calm 5 (s.failSwap l w) :=
    .keep (State.follow_frame _) rfl (.step (State.judgeAgain_kept _ (by decide) _) (fun _ => rfl) (.refl _))
  have hafter : Keep 0x3601bb25b08 (s.abandonSwap l swR160 2) (s.failSwap l w) :=
    State.follow_keep _ rfl (State.judgeAgain_keep _ _ rfl (hbar.step rfl (Keep.refl _ _)))
  have hfield : ∀ {α : Type} (f : Sea → α), (∀ x, f x.calm = f x) → (∀ x b, f { x with bar := b } = f x) →
      f ((s.failSwap l w).lineAt l).sea = f { (s.lineAt l).sea.calm with swap := none } := by
    intro α f hcalm hfree
    rw [hkept.sea_eq l f hcalm, s.sea_barRaise, hfree, ← hcalm, hsea]
  refine ⟨_, exec_swapSwitch_of_worse hswap hstep hpower hfits, ?_, ?_, ?_, ?_, fun htier => ?_, ?_, (htold hears).keep hafter rfl⟩
  · exact hfield Sea.tier (fun _ => rfl) fun _ _ => rfl
  · exact hfield Sea.version (fun _ => rfl) fun _ _ => rfl
  · exact hfield Sea.swap (fun _ => rfl) fun _ _ => rfl
  · exact (hafter.1 .params rfl).symm.trans ((s.abandonSwap_keep l swR160 2 rfl (Keep.refl 0x30280221b82 s)).1 .params rfl).symm
  · rw [hkept.sea_eq l Sea.bar fun _ => rfl, s.sea_barRaise, if_pos htier]
  · rw [hkept.stat, hbar.statAt_eq rfl, hcount]

/-! Step 6: the shadows return. -/

/-- A swap that starts touches the stage of no other lane. -/
theorem State.sea_getD_startSwap_other {s v : State} {l k tier version count : Nat} {ticket : Option Ticket} {par : List (Nat × Word)}
    (hk : k ≠ l) (hv : (v.lineAt k).sea = (s.lineAt k).sea) :
    (((s.startSwap l tier version ticket count par).getD v).lineAt k).sea = (s.lineAt k).sea := by
  cases hstart : s.startSwap l tier version ticket count par with
  | none => exact hv
  | some u =>
    obtain ⟨t, w, ht, rfl⟩ := State.startSwap_eq hstart
    rw [Option.getD_some, State.pmcEvent_lineAt_sea, State.lineAt_modSea_other t hk, ht.lineAt_eq rfl]

theorem State.sea_startRaise_other (s : State) {l k : Nat} (hk : k ≠ l) : ((s.startRaise l).lineAt k).sea = (s.lineAt k).sea := by
  unfold State.startRaise
  extract_lets x
  have hwait : ∀ f, ((s.modSea l f).lineAt k).sea = (s.lineAt k).sea := fun f => congrArg Line.sea (s.lineAt_modSea_other hk f)
  split
  · rfl
  · split
    · exact (State.sea_getD_startSwap_other hk (by rw [(State.finishOpt_frame ..).lineAt_eq rfl])).trans (hwait _)
    · split
      · exact State.sea_getD_startSwap_other hk (hwait _)
      · rfl

/-- Nothing starts on a lane without a swap that runs its plan's tier. -/
theorem State.startRaise_of_unswapped {s : State} {l : Nat} (h : s.Unswapped l) (hplan : (s.lineAt l).sea.plan ≤ (s.lineAt l).sea.tier) :
    s.startRaise l = s := by
  obtain ⟨-, hwait⟩ := h
  unfold State.startRaise
  dsimp only
  rw [hwait]
  split
  · rfl
  · exact if_neg fun hraise => Nat.not_lt.2 hplan hraise.2.1

theorem State.sea_startRaises_of_unswapped {s : State} {l : Nat} (h : s.Unswapped l)
    (hplan : (s.lineAt l).sea.plan ≤ (s.lineAt l).sea.tier) : (s.startRaises.lineAt l).sea = (s.lineAt l).sea := by
  unfold State.startRaises
  split
  · refine List.foldlRecOn (motive := fun u : State => (u.lineAt l).sea = (s.lineAt l).sea) _ _ rfl fun u hu k _ => ?_
    by_cases hk : l = k
    · subst hk
      rw [State.startRaise_of_unswapped (by rwa [State.Unswapped, hu]) (by rwa [hu]), hu]
    · rw [u.sea_startRaise_other hk, hu]
  · rfl

/-- The shadows return, and a lane that runs its plan's tier starts no other swap. -/
theorem shadowReturn_completes (l : Nat) (w : Swap) : Completes (.shadowReturn l)
    (fun s => (s.lineAt l).sea.swap = some w ∧ w.step = 6 ∧ (s.lineAt l).sea.swapWait = none ∧
      (s.lineAt l).sea.plan ≤ (s.lineAt l).sea.tier)
    fun s t => (t.lineAt l).sea.swap = none ∧ (t.lineAt l).sea.tier = (s.lineAt l).sea.tier := by
  rintro s ⟨hswap, hstep, hwait, hplan⟩
  have hexec : exec (.shadowReturn l) s = .next (s.endSwap l w true).startRaises.follow := by
    change execShadowReturn l s = _
    unfold execShadowReturn
    rw [State.swapIn_of_step hswap hstep]
  have hend : (s.modSea l fun x => { x with swap := none }).SeaKept Sea.calm 0 (s.endSwap l w true) := s.endSwap_kept l w true
  have hfield : ∀ {α : Type} (f : Sea → α), (∀ x, f x.calm = f x) →
      f ((s.endSwap l w true).lineAt l).sea = f { (s.lineAt l).sea with swap := none } := by
    intro α f hcalm
    rw [hend.sea_eq l f hcalm, State.lineAt_modSea_self]
  have hnone : ((s.endSwap l w true).lineAt l).sea.swap = none := hfield Sea.swap fun _ => rfl
  have hunswapped : (s.endSwap l w true).Unswapped l := ⟨hnone, (hfield Sea.swapWait fun _ => rfl).trans hwait⟩
  have htier : ((s.endSwap l w true).lineAt l).sea.tier = (s.lineAt l).sea.tier := hfield Sea.tier fun _ => rfl
  have hstill := State.sea_startRaises_of_unswapped hunswapped (by rw [htier, hfield Sea.plan fun _ => rfl]; exact hplan)
  refine ⟨_, hexec, ?_⟩
  dsimp only
  rw [State.follow_lineAt_sea, hstill]
  exact ⟨hnone, htier⟩

/-- Settles O12, from one lemma for each step of a swap and each outcome of the comparison. -/
theorem swapStepsComplete : Obligations.SwapStepsComplete :=
  ⟨swapStaged_completes, shadowSettleEnd_completes, swapComparisonDone_completes, swapSwitch_completes,
    swapSwitch_completes_of_worse, shadowReturn_completes⟩

end Sys2Proof.Machine
end

section
/-! PROOFS. How a plan is applied: block boundaries, tier drops and the raise dwell (O11; R51, R154, R156, R157). -/

namespace Sys2Proof.Machine

/-! A block boundary (R156). -/

/-- What a boundary does after a drop that is due: the plan's lowering, engines that leave and join, raises that start. -/
def State.refit (s : State) (l : Nat) : State :=
  let s1 := (s.lowerTier l).releaseSpare l
  let s2 := if s1.growTurn l ∧ s1.mustGrow l then s1.enlarge l else s1
  (s2.tellPlaced s).startRaises

theorem State.boundary_eq_refit (s : State) (l : Nat) :
    s.boundary l = (if (s.lineAt l).sea.dropNext then s.tierDrop l else s).refit l := rfl

theorem State.refit_frame (s : State) (l : Nat) : Keep 0x30380231b82 s (s.refit l) := by
  unfold State.refit
  extract_lets s1 s2
  have hs1 : Keep 0x30380231b82 s s1 := State.releaseSpare_keep _ _ rfl (State.lowerTier_keep _ _ rfl (Keep.refl _ _))
  exact State.startRaises_keep _ rfl (State.tellPlaced_keep _ _ rfl (Keep.ite (State.enlarge_keep _ _ rfl hs1) hs1))

/-- Beyond the lowering, a boundary leaves every lane's kernel. -/
theorem State.refit_kept {i : Nat} (s : State) (l : Nat) : (s.lowerTier l).SeaKept Sea.kernel i (s.refit l) := by
  unfold State.refit
  extract_lets s1 s2
  have hs1 : (s.lowerTier l).SeaKept Sea.kernel i s1 := .step (State.releaseSpare_kept _ l) (fun _ => rfl) (.refl _)
  have hs2 : (s.lowerTier l).SeaKept Sea.kernel i s2 := by
    dsimp only [s2]
    split
    · exact .step (State.enlarge_kept _ l) (fun _ => rfl) hs1
    · exact hs1
  exact .step (State.startRaises_kept _) (fun _ => rfl) (.keep (State.tellPlaced_keep _ _ rfl (Keep.refl 0x300 _)) rfl hs2)

/-- A lane above its plan is lowered to it. -/
theorem State.lowerTier_kept_of_above {i : Nat} {s : State} {l : Nat} (h : (s.lineAt l).sea.plan < (s.lineAt l).sea.tier) :
    (s.modSea l fun y => { y with
      tier := (s.lineAt l).sea.plan, version := s.versionFor l (s.lineAt l).sea.plan, held := false }).SeaKept Sea.kernel i
      (s.lowerTier l) := by
  unfold State.lowerTier
  dsimp only
  rw [if_pos h]
  exact State.waitFollows_kept _ l

theorem State.lowerTier_of_within {s : State} {l : Nat} (h : ¬ (s.lineAt l).sea.plan < (s.lineAt l).sea.tier) : s.lowerTier l = s :=
  if_neg h

/-- A lowering is to the lower of tier and plan; drops that are due and counts stay. -/
theorem State.lowerTier_lowered {i : Nat} (s : State) (l : Nat) :
    ((s.lowerTier l).lineAt l).sea.tier = min (s.lineAt l).sea.tier (s.lineAt l).sea.plan ∧
      ((s.lowerTier l).lineAt l).sea.dropNext = (s.lineAt l).sea.dropNext ∧ (s.lowerTier l).statAt gSea l i = s.statAt gSea l i := by
  by_cases h : (s.lineAt l).sea.plan < (s.lineAt l).sea.tier
  · have hkept := State.lowerTier_kept_of_above (i := i) h
    rw [hkept.sea_eq l Sea.tier fun _ => rfl, hkept.sea_eq l Sea.dropNext fun _ => rfl, hkept.stat, State.lineAt_modSea_self]
    exact ⟨(Nat.min_eq_right (Nat.le_of_lt h)).symm, rfl, rfl⟩
  · rw [State.lowerTier_of_within h]
    exact ⟨(Nat.min_eq_left (Nat.not_lt.1 h)).symm, rfl, rfl⟩

theorem exec_planBlockBoundary_of_started {s : State} {l : Nat} (hstarted : s.hinge.started) (hrate : 0 < s.planRate)
    (hlane : s.startedLanes.contains l) : exec (.planBlockBoundary l) s = .next (s.boundary l).follow :=
  congrArg Host.Outcome.next (if_pos ⟨hstarted, hrate, hlane⟩)

/-- A boundary lowers a lane to its plan. -/
theorem planBlockBoundary_completes_of_above (l : Nat) : Completes (.planBlockBoundary l)
    (fun s => s.hinge.started ∧ 0 < s.planRate ∧ s.startedLanes.contains l ∧ (s.lineAt l).sea.dropNext = false ∧
      (s.lineAt l).sea.plan < (s.lineAt l).sea.tier)
    fun s t => (t.lineAt l).sea.tier = (s.lineAt l).sea.plan ∧ (t.lineAt l).sea.plan = (s.lineAt l).sea.plan ∧
      (t.lineAt l).sea.fifo = (s.lineAt l).sea.fifo := by
  rintro s ⟨hstarted, hrate, hlane, hdrop, habove⟩
  have hboundary : s.boundary l = s.refit l := by rw [State.boundary_eq_refit, hdrop]; rfl
  have hkept : (s.modSea l fun y => { y with
      tier := (s.lineAt l).sea.plan, version := s.versionFor l (s.lineAt l).sea.plan, held := false }).SeaKept Sea.kernel 0
      (s.boundary l).follow :=
    .keep (State.follow_frame _) rfl (hboundary ▸ .step (s.refit_kept l) (fun _ => rfl) (State.lowerTier_kept_of_above habove))
  refine ⟨_, exec_planBlockBoundary_of_started hstarted hrate hlane, ?_⟩
  dsimp only
  rw [hkept.sea_eq l Sea.tier fun _ => rfl, hkept.sea_eq l Sea.plan fun _ => rfl, hkept.sea_eq l Sea.fifo fun _ => rfl,
    State.lineAt_modSea_self]
  exact ⟨rfl, rfl, rfl⟩

/-! A drop of one tier (R51, R157). -/

/-- The lane runs one tier lower and counts the drop. A swap in progress has ended. -/
def State.dropTier (s : State) (l : Nat) : State :=
  ((s.abandonSwap l swOther 2).modSea l fun y => { y with
    dropNext := false, tier := (s.lineAt l).sea.tier - 1, version := s.versionFor l ((s.lineAt l).sea.tier - 1)
    bar := (s.lineAt l).sea.tier }).bump gSea l 1

/-- The event of a drop on a lane (R172). -/
def State.raiseDrop (s u : State) (l : Nat) : State :=
  u.raise evSeaTierDrop [Word.nat l, Word.nat (s.lineAt l).sea.tier, Word.nat ((s.lineAt l).sea.tier - 1),
    Word.nat (s.lineAt l).sea.fifo.length]

theorem State.tierDrop_of_pos {s : State} {l : Nat} (h : 0 < (s.lineAt l).sea.tier) : s.tierDrop l =
    (((s.raiseDrop (s.dropTier l) l).tellPlaced (s.abandonSwap l swOther 2)).waitFollows l).replan (fun _ => false) (some l) := by
  unfold State.tierDrop
  dsimp only
  rw [if_neg (Nat.pos_iff_ne_zero.1 h)]
  rfl

theorem State.dropTier_frame (s : State) (l : Nat) : Keep 0x30280221b82 s (s.dropTier l) :=
  Keep.bump rfl (Keep.modSea rfl (State.abandonSwap_keep _ _ _ _ rfl (Keep.refl _ _)))

theorem State.tierDrop_frame {s : State} {l : Nat} (h : 0 < (s.lineAt l).sea.tier) :
    Keep 0x30380231b82 (s.raiseDrop (s.dropTier l) l) (s.tierDrop l) := by
  rw [State.tierDrop_of_pos h]
  exact State.replan_keep _ _ _ rfl (State.waitFollows_keep _ _ rfl (State.tellPlaced_keep _ _ rfl (Keep.refl _ _)))

/-- What follows a drop leaves the kernels that run, the drops that are due and the count of drops. -/
theorem State.tierDrop_kept {s : State} {l : Nat} (h : 0 < (s.lineAt l).sea.tier) :
    (s.dropTier l).SeaKept Sea.running 1 (s.tierDrop l) := by
  rw [State.tierDrop_of_pos h]
  exact .step (State.replan_kept _ (by decide) _ _) (fun _ => rfl) (.step (State.waitFollows_kept _ l) (fun _ => rfl)
    (.keep (State.tellPlaced_keep _ _ rfl (State.raise_frame ..)) rfl (.refl _)))

/-- A drop that is due takes one tier and is due no more. -/
theorem State.tierDrop_dropped {s : State} {l : Nat} (h : 0 < (s.lineAt l).sea.tier) :
    ((s.tierDrop l).lineAt l).sea.tier = (s.lineAt l).sea.tier - 1 ∧ ((s.tierDrop l).lineAt l).sea.dropNext = false ∧
      (s.tierDrop l).statAt gSea l 1 = (s.statAt gSea l 1).add 1 := by
  have hkept := State.tierDrop_kept h
  have habandon : s.SeaKept Sea.kernel 1 (s.abandonSwap l swOther 2) := s.abandonSwap_kept (by decide) l swOther 2
  have hcount : (s.dropTier l).statAt gSea l 1 = ((s.abandonSwap l swOther 2).statAt gSea l 1).add 1 := State.statAt_bump_self ..
  rw [hkept.sea_eq l Sea.tier fun _ => rfl, hkept.sea_eq l Sea.dropNext fun _ => rfl, hkept.stat, hcount, habandon.stat,
    State.dropTier, State.lineAt_bump, State.lineAt_modSea_self]
  exact ⟨rfl, rfl, rfl⟩

/-- A drop that is due comes at the boundary. -/
theorem planBlockBoundary_completes_of_drop (l : Nat) : Completes (.planBlockBoundary l)
    (fun s => s.hinge.started ∧ 0 < s.planRate ∧ s.startedLanes.contains l ∧ (s.lineAt l).sea.dropNext ∧
      0 < (s.lineAt l).sea.tier ∧ s.hears)
    fun s t => (t.lineAt l).sea.dropNext = false ∧ (t.lineAt l).sea.tier ≤ (s.lineAt l).sea.tier - 1 ∧
      t.statAt gSea l 1 = (s.statAt gSea l 1).add 1 ∧
      Raises s t evSeaTierDrop [Word.nat l, Word.nat (s.lineAt l).sea.tier, Word.nat ((s.lineAt l).sea.tier - 1),
        Word.nat (s.lineAt l).sea.fifo.length] := by
  rintro s ⟨hstarted, hrate, hlane, hdrop, htier, hears⟩
  have hboundary : s.boundary l = (s.tierDrop l).refit l := by rw [State.boundary_eq_refit, if_pos hdrop]
  have hkept : ((s.tierDrop l).lowerTier l).SeaKept Sea.kernel 1 (s.boundary l).follow :=
    .keep (State.follow_frame _) rfl (hboundary ▸ State.refit_kept _ l)
  have hafter : Keep 0x363bbb35b8a (s.raiseDrop (s.dropTier l) l) (s.boundary l).follow :=
    State.follow_keep _ rfl (hboundary ▸ (State.refit_frame _ l).step rfl ((State.tierDrop_frame htier).step rfl (Keep.refl _ _)))
  obtain ⟨hlower, hdue, hcount⟩ := (s.tierDrop l).lowerTier_lowered (i := 1) l
  obtain ⟨hdropped, hnone, hone⟩ := State.tierDrop_dropped htier
  refine ⟨_, exec_planBlockBoundary_of_started hstarted hrate hlane, ?_, ?_, ?_,
    Raises.of_keep hears (s.dropTier_frame l) rfl hafter rfl⟩
  · rw [hkept.sea_eq l Sea.dropNext fun _ => rfl, hdue, hnone]
  · rw [hkept.sea_eq l Sea.tier fun _ => rfl, hlower, ← hdropped]
    exact Nat.min_le_left _ _
  · rw [hkept.stat, hcount, hone]

/-! The raise dwell (R154, R157). -/

/-- No raise of a lane waits for the dwell. -/
def State.freeRaises (s : State) : State :=
  (List.range s.lines).foldl (fun s l => s.modSea l fun x => { x with held := false, bar := 0 }) s

theorem State.sea_freeRaises (s : State) {l : Nat} (hl : l < s.lines) :
    (s.freeRaises.lineAt l).sea.held = false ∧ (s.freeRaises.lineAt l).sea.bar = 0 ∧
      (s.freeRaises.lineAt l).sea.tier = (s.lineAt l).sea.tier := by
  refine foldl_reaches (Q := fun u : State => (u.lineAt l).sea.tier = (s.lineAt l).sea.tier)
    (R := fun u : State => (u.lineAt l).sea.held = false ∧ (u.lineAt l).sea.bar = 0 ∧ (u.lineAt l).sea.tier = (s.lineAt l).sea.tier)
    (List.mem_range.2 hl) (fun u k hu => ?_) (fun u hu => ?_) (fun u k hu => ?_) rfl
  · rw [State.lineAt_modSea]
    split
    · next hk => rw [← hk]; exact hu
    · exact hu
  · rw [State.lineAt_modSea_self]
    exact ⟨rfl, rfl, hu⟩
  · rw [State.lineAt_modSea]
    split
    · next hk => rw [← hk]; exact ⟨rfl, rfl, hu.2.2⟩
    · exact hu

/-- The dwell frees every raise that waits for it. -/
theorem raiseDwellExpiry_completes : Completes .raiseDwellExpiry (fun s => s.hinge.started)
    fun s t => ∀ l, l < s.lines → (t.lineAt l).sea.held = false ∧ (t.lineAt l).sea.bar = 0 ∧
      (t.lineAt l).sea.tier = (s.lineAt l).sea.tier := by
  intro s hstarted
  have hexec : exec .raiseDwellExpiry s = .next (s.freeRaises.judgeAgain s.standing).startRaises.follow :=
    congrArg Host.Outcome.next (if_pos hstarted)
  have hkept : s.freeRaises.SeaKept Sea.kernel 0 (s.freeRaises.judgeAgain s.standing).startRaises.follow :=
    .keep (State.follow_frame _) rfl (.step (State.startRaises_kept _) (fun _ => rfl)
      (.step (State.judgeAgain_kept _ (by decide) _) (fun _ => rfl) (.refl _)))
  refine ⟨_, hexec, fun l hl => ?_⟩
  rw [hkept.sea_eq l Sea.held fun _ => rfl, hkept.sea_eq l Sea.bar fun _ => rfl, hkept.sea_eq l Sea.tier fun _ => rfl]
  exact s.sea_freeRaises hl

/-- Settles O11, from one lemma for each of its three clauses. -/
theorem plansAreApplied : Obligations.PlansAreApplied :=
  ⟨planBlockBoundary_completes_of_above, planBlockBoundary_completes_of_drop, raiseDwellExpiry_completes⟩

end Sys2Proof.Machine
end

section
/-! PROOFS. SET on the nouns with a payload of their own (O39): what the words of a payload make of the state (R148, R171, R291, R392,
R410, R477, R481, R489, R520, R522, R561, R684). -/

namespace Sys2Proof.Machine

/-! The words of a payload. -/

theorem Word.toNat_nat {n : Nat} (h : n < 2 ^ 32) : (Word.nat n).toNat = n := by
  rw [Word.nat, BitVec.toNat_ofNat, Nat.mod_eq_of_lt h]

/-- A noun whose payload has one length takes as many words. -/
theorem State.Takes.payload_length {c : CmdSpec} {m : Sentence} {s : State} {n : Nat} (h : s.Takes c m) (hform : c.form = .fixed [n]) :
    (payloadOf m).length = (n + 3) / 4 := by
  have hpasses := h.passes
  have hwritten := h.written
  simp only [commonCheck, Option.or_eq_none_iff] at hpasses
  obtain ⟨-, -, -, -, -, hlen, -⟩ := hpasses
  unfold lenCheck at hlen
  split at hlen
  · cases hlen
  · simp only [hform] at hlen
    split at hlen
    · next hn =>
      have hbytes : m.len.toNat = n := List.mem_singleton.1 (List.contains_iff_mem.1 hn)
      rw [hbytes] at hwritten
      rw [payloadOf, List.length_take, hbytes, Nat.min_eq_left hwritten]
    · cases hlen

theorem State.setParams_frame (s : State) (n i e : Nat) (ws : List Word) : Keep 0x10000 s (s.setParams n i e ws) :=
  s.setParams_keep n i e ws rfl (Keep.refl _ _)

/-- Words that are set from element `e` on. -/
theorem State.param_setParams (s : State) (n i e j : Nat) (ws : List Word) : (s.setParams n i e ws).param n i j =
    if e ≤ j ∧ j < e + ws.length then ws.getD (j - e) 0 else s.param n i j := by
  have hkey : ∀ a, paramKey n i j = paramKey n i a ↔ j = a := fun a => by unfold paramKey; omega
  induction ws generalizing s e with
  | nil => rw [State.setParams, List.length_nil, if_neg (by omega)]
  | cons w ws ih =>
    rw [State.setParams, ih, State.param_setParam, List.length_cons]
    simp only [hkey]
    by_cases hj : j = e
    · rw [if_neg (by omega), if_pos hj, if_pos (by omega), hj, Nat.sub_self]
      rfl
    · by_cases hin : e + 1 ≤ j ∧ j < e + 1 + ws.length
      · rw [if_pos hin, if_pos (by omega), show j - e = (j - (e + 1)) + 1 by omega, List.getD_cons_succ]
      · rw [if_neg hin, if_neg hj, if_neg (by omega)]

/-- The first `k` words of a payload, as parameters from element 0 on. -/
theorem State.param_setParams_take (s : State) (n i : Nat) {j k : Nat} {ws : List Word} (hj : j < k) (hk : k ≤ ws.length) :
    (s.setParams n i 0 (ws.take k)).param n i j = ws.getD j 0 := by
  rw [State.param_setParams, List.length_take, Nat.min_eq_left hk, if_pos (by omega), Nat.sub_zero, List.getD_eq_getElem?_getD,
    List.getElem?_take_of_lt hj, ← List.getD_eq_getElem?_getD]

/-! The Hinge and the host groups. -/

/-- The state that a policy leaves: the Hinge has planned with it (R148, R154). -/
def State.policed (s : State) (p : Nat) (ws : List Word) : State :=
  ((s.setParams nSeaPolicy p 0 (ws.take 3)).replanFor (s.portLines p)).follow

theorem actPolicy_eq (s : State) (m : Sentence) (ws : List Word) :
    actPolicy s m ws = (s.policed m.inst.toNat ws, okDone) ∨
      ∃ ranks, actPolicy s m ws = (s.policed m.inst.toNat ws, .yielded ranks []) := by
  unfold actPolicy
  extract_lets p s1
  split
  · exact .inl rfl
  · exact .inr ⟨_, rfl⟩

theorem State.policed_box (s : State) (p : Nat) (ws : List Word) : (s.policed p ws).mb.box = s.mb.box := by
  have hkept : s.SeaKept Sea.running 0 (s.policed p ws) :=
    .keep (State.follow_frame _) rfl (.step (State.replan_kept _ (by decide) _ _) (fun _ => rfl)
      (.keep (State.setParams_frame ..) rfl (.refl _)))
  exact hkept.box

theorem State.policed_param (s : State) (p : Nat) {j : Nat} {ws : List Word} (hj : j < 3) (hws : 3 ≤ ws.length) :
    (s.policed p ws).param nSeaPolicy p j = ws.getD j 0 := by
  have hplan : Keep 0x363bbb25b8a (s.setParams nSeaPolicy p 0 (ws.take 3)) (s.policed p ws) :=
    State.follow_keep _ rfl (State.replanFor_keep _ _ rfl (Keep.refl _ _))
  rw [hplan.param_eq rfl, State.param_setParams_take _ _ _ hj hws]

theorem setSeaPolicy_carries : Carries .setSeaPolicy specSetSeaPolicy
    (fun m s => checkPolicy (s.begun vSet nSeaPolicy m) m (payloadOf m) = none)
    (fun m s t => (Replied s t m cDone 0 ∨ ∃ d, Replied s t m cYielded d) ∧
      ∀ i, i < 3 → t.param nSeaPolicy m.inst.toNat i = (payloadOf m).getD i 0) := by
  intro m s htakes hm hcheck
  have hlength : (payloadOf m).length = 3 := htakes.payload_length rfl
  have hbox := (s.begun vSet nSeaPolicy m).policed_box m.inst.toNat (payloadOf m)
  have hparam : ∀ t, Keep 0x20000001b80 ((s.begun vSet nSeaPolicy m).policed m.inst.toNat (payloadOf m)) t →
      ∀ i, i < 3 → t.param nSeaPolicy m.inst.toNat i = (payloadOf m).getD i 0 := fun t ht i hi =>
    (ht.param_eq rfl ..).trans (State.policed_param _ _ hi (Nat.le_of_eq hlength.symm))
  obtain hact | ⟨ranks, hact⟩ := actPolicy_eq (s.begun vSet nSeaPolicy m) m (payloadOf m)
  · obtain ⟨o, ws, k, hsubmit⟩ := submit_of_done (echo := State.policy) htakes hm hcheck hact
    exact ⟨_, congrArg Host.Outcome.next hsubmit, .inl (State.complete_replied (c := specSetSeaPolicy) cDone 0 o ws k hbox),
      hparam _ (State.complete_frame ..)⟩
  · obtain ⟨o, ws, k, hsubmit⟩ := submit_of_yielded (echo := State.policy) htakes hm hcheck hact
    exact ⟨_, congrArg Host.Outcome.next hsubmit,
      .inr ⟨ranks, State.complete_replied (c := specSetSeaPolicy) cYielded ranks o ws k hbox⟩,
      hparam _ (State.complete_frame ..)⟩

theorem setSeaHinge_carries : Carries .setSeaHinge specSetSeaHinge
    (fun m s => checkHinge (s.begun vSet nSeaHinge m) m (payloadOf m) = none)
    (fun m s t => Replied s t m cDone 0 ∧ t.param nSeaHinge 0 0 = (payloadOf m).getD 0 0 ∧
      t.param nSeaHinge 0 1 = (payloadOf m).getD 1 0) := by
  refine carries_done (fun _ _ => rfl) fun m s htakes hcheck => ⟨hcheck, _, _, _, rfl, ?_, fun t ht => ?_⟩
  · exact ((State.setParams_frame ..).step rfl (Keep.refl _ _)).box_eq
  · have hlength : 2 ≤ (payloadOf m).length := Nat.le_of_eq (htakes.payload_length rfl).symm
    exact ⟨(ht.param_eq rfl ..).trans (State.param_setParams_take _ _ _ (by decide) hlength),
      (ht.param_eq rfl ..).trans (State.param_setParams_take _ _ _ (by decide) hlength)⟩

theorem setHslGroup_carries : Carries .setHslGroup specSetHslGroup
    (fun m s => checkHslGroup (s.begun vSet nHslGroup m) m (payloadOf m) = none)
    (fun m s t => Replied s t m cDone 0 ∧ t.param nHslGroup m.inst.toNat 0 = (payloadOf m).getD 0 0 ∧
      t.param nHslGroup m.inst.toNat 1 = (payloadOf m).getD 1 0) := by
  refine carries_done (fun _ _ => rfl) fun m s htakes hcheck => ⟨hcheck, _, _, _, rfl, ?_, fun t ht => ?_⟩
  · exact (State.follow_keep _ rfl ((State.setParams_frame ..).step rfl (Keep.refl _ _))).box_eq
  · have hlength : 2 ≤ (payloadOf m).length := Nat.le_of_eq (htakes.payload_length rfl).symm
    have hkeep := State.follow_replied ht
    exact ⟨(hkeep.param_eq rfl ..).trans (State.param_setParams_take _ _ _ (by decide) hlength),
      (hkeep.param_eq rfl ..).trans (State.param_setParams_take _ _ _ (by decide) hlength)⟩

/-! Times, the BAR2 window and the dump interval. -/

theorem State.tku_begun (s : State) (verb noun : Nat) (m : Sentence) : (s.begun verb noun m).tku = s.tku :=
  s.begun_congr verb noun m State.tku fun _ _ _ _ => rfl

theorem setTkuDomain_carries (lo hi ns : Nat) : Carries .setTkuDomain specSetTkuDomain
    (fun m _ => payloadOf m = [Word.nat lo, Word.nat hi, Word.nat ns] ∧ lo < 2 ^ 32 ∧ hi < 2 ^ 16 ∧ ns < 1000000000)
    (fun m s t => Replied s t m cDone 0 ∧
      (m.inst = 0 → t.tku.domA = { s.tku.domA with setNext := some (lo + hi * 2 ^ 32, ns) } ∧ t.tku.domB = s.tku.domB) ∧
      (m.inst = 1 → t.tku.domB = { s.tku.domB with setNext := some (lo + hi * 2 ^ 32, ns) } ∧ t.tku.domA = s.tku.domA)) := by
  refine carries_done (fun _ _ => rfl) fun m s _ ⟨hpayload, hlo, hhi, hns⟩ => ?_
  have hwords : ∀ u : State, checkTkuDomain u m [Word.nat lo, Word.nat hi, Word.nat ns] = none ∧
      actTkuDomain u m [Word.nat lo, Word.nat hi, Word.nat ns] =
        (u.modDom (if m.inst = 0 then .a else .b) fun x => { x with setNext := some (lo + hi * 2 ^ 32, ns) }, okDone) := by
    intro u
    unfold checkTkuDomain actTkuDomain
    simp only [List.getD_cons_zero, List.getD_cons_succ, Word.toNat_nat hlo, Word.toNat_nat (n := hi) (by omega),
      Word.toNat_nat (n := ns) (by omega), and_true]
    exact if_neg (by omega)
  obtain ⟨hcheck, hact⟩ := hwords (s.begun vSet nTkuDomain m)
  rw [hpayload]
  refine ⟨hcheck, _, _, _, hact, ?_, fun t ht => ⟨fun hinst => ?_, fun hinst => ?_⟩⟩
  · exact (Keep.modDom (m := 0xFFFFFFFFFF7F) rfl (Keep.refl _ _)).box_eq
  · rw [← ht.1 .tku rfl, if_pos hinst, ← s.tku_begun specSetTkuDomain.verb specSetTkuDomain.noun m]
    exact ⟨rfl, rfl⟩
  · rw [← ht.1 .tku rfl, if_neg (by rw [hinst]; decide), ← s.tku_begun specSetTkuDomain.verb specSetTkuDomain.noun m]
    exact ⟨rfl, rfl⟩

/-- The window's base as a word of the payload (R477). -/
theorem checkHifWindow_nat {b : Nat} (hb : b < 2 ^ 32) (s : State) (m : Sentence) : checkHifWindow s m [Word.nat b] =
    if b % 0x10000000 = 0 ∧ 0x20000000 ≤ b ∧ b ≤ 0xD0000000 then none else some { code := cResource, detail := 1 } := by
  unfold checkHifWindow
  simp only [List.getD_cons_zero, Word.toNat_nat hb]

/-- A field of the host interface other than the link's L1. -/
theorem Keep.hif_eq {α : Type} {n : Nat} {s t : State} (h : Keep n s t) (hn : n.testBit 13 = false) (f : Hif → α)
    (hf : ∀ x : Hif, f x.rest = f x) : f t.hif = f s.hif := by
  have hrest : s.hif.rest = t.hif.rest := h.1 .hifRest hn
  rw [← hf, ← hrest, hf]

theorem setHifWindow_carries (b : Nat) : Carries .setHifWindow specSetHifWindow
    (fun m _ => payloadOf m = [Word.nat b] ∧ b % 0x10000000 = 0 ∧ 0x20000000 ≤ b ∧ b ≤ 0xD0000000)
    (fun m s t => Replied s t m cDone 0 ∧ t.hif.window = b) := by
  refine carries_done (fun _ _ => rfl) fun m s _ ⟨hpayload, hbase⟩ => ?_
  have hb : b < 2 ^ 32 := by omega
  rw [hpayload]
  refine ⟨(checkHifWindow_nat hb ..).trans (if_pos hbase), _, _, _, rfl, rfl, fun t ht => ?_⟩
  exact (ht.hif_eq rfl Hif.window fun _ => rfl).trans (Word.toNat_nat hb)

theorem setHifWindow_carries_refused (b : Nat) : Carries .setHifWindow specSetHifWindow
    (fun m _ => payloadOf m = [Word.nat b] ∧ b < 2 ^ 32 ∧ (b % 0x10000000 ≠ 0 ∨ b < 0x20000000 ∨ 0xD0000000 < b))
    (fun m s t => Replied s t m cResource 1 ∧ t.hif.window = s.hif.window) := by
  refine carries_refused (fun _ _ => rfl) fun m s _ ⟨hpayload, hb, hbase⟩ => ⟨?_, fun t ht => ?_⟩
  · rw [hpayload]
    exact (checkHifWindow_nat hb ..).trans (if_neg (by omega))
  · exact ht.hif_eq rfl Hif.window fun _ => rfl

theorem setPmcDump_carries (n : Nat) : Carries .setPmcDump specSetPmcDump (fun m _ => payloadOf m = [Word.nat n] ∧ 1 ≤ n ∧ n ≤ 500)
    (fun m s t => Replied s t m cDone 0 ∧ t.param nPmcDump 0 0 = Word.nat n) := by
  refine carries_done (fun _ _ => rfl) fun m s _ ⟨hpayload, hlow, hhigh⟩ => ?_
  rw [hpayload]
  refine ⟨?_, _, _, _, rfl, rfl, fun t ht => ?_⟩
  · have hint : (Word.nat n).toInt = n := by
      have hn : (Word.nat n).toNat = n := Word.toNat_nat (by omega)
      rw [BitVec.toInt_eq_toNat_of_lt (by omega), hn]
    have hrow : (row1 100 1 500).ok (Word.nat n) = true := by
      simp only [ParamRow.ok, Bool.or_eq_true, decide_eq_true_eq, hint]
      exact .inl ⟨Int.ofNat_le.2 hlow, Int.ofNat_le.2 hhigh⟩
    exact if_pos hrow
  · rw [ht.param_eq rfl]
    exact (State.param_setParam ..).trans (if_pos rfl)

/-! DMA channels (R481, R489). -/

theorem State.dmaAt_begun (s : State) (verb noun : Nat) (m : Sentence) (c : Nat) : (s.begun verb noun m).dmaAt c = s.dmaAt c :=
  s.begun_congr verb noun m (State.dmaAt · c) fun _ _ _ _ => rfl

/-- A channel as a payload sets it; where it is enabled its pointers and counts start at zero (R489). -/
def Dma.configured (d : Dma) (ws : List Word) (on : Bool) : Dma :=
  let e := { d with owner := dmaOwner (ws.getD 0 0), base := (ws.getD 2 0) ++ (ws.getD 1 0), size := (ws.getD 3 0).toNat
                    sources := (ws.getD 4 0).setWidth 6, vector := (ws.getD 5 0).setWidth 6, enabled := on }
  if on then { e with head := 0, tail := 0, records := 0, drops := 0, dropped := 0, last := [] } else e

/-- The state with a channel configured, and nothing more of it ready to push. -/
def State.setDma (s : State) (c : Nat) (ws : List Word) (on : Bool) : State :=
  (s.modDma c fun d => d.configured ws on).modHif fun x => { x with ready := x.ready.filter fun q => q.ch ≠ c }

theorem State.dmaAt_setDma (s : State) (c : Nat) (ws : List Word) (on : Bool) :
    (s.setDma c ws on).dmaAt c = (s.dmaAt c).configured ws on := s.dmaAt_modDma_self c fun d => d.configured ws on

theorem actHifDma_eq {ws : List Word} {on : Bool} (hon : ws.getD 6 0 = if on then 1 else 0) (s : State) (m : Sentence) :
    actHifDma s m ws = ((s.setDma m.inst.toNat ws on).settle, okDone) := by
  have hflag : decide ((ws.getD 6 0).toNat = 1) = on := by rw [hon]; cases on <;> rfl
  unfold actHifDma
  dsimp only
  rw [hflag]
  rfl

/-- SET on HIF_DMA configures the channel and drops what stands ready of it. -/
theorem setHifDma_carries (on : Bool) : Carries .setHifDma specSetHifDma
    (fun m s => checkHifDma (s.begun vSet nHifDma m) m (payloadOf m) = none ∧ (payloadOf m).getD 6 0 = if on then 1 else 0)
    (fun m s t => Replied s t m cDone 0 ∧ t.dmaAt m.inst.toNat = (s.dmaAt m.inst.toNat).configured (payloadOf m) on ∧
      ∀ q ∈ t.hif.ready, q.ch ≠ m.inst.toNat) := by
  refine carries_done (fun _ _ => rfl) fun m s _ ⟨hcheck, hon⟩ =>
    ⟨hcheck, _, _, _, actHifDma_eq hon _ m, (congrArg Mb.box ((State.settle_frame _).1 .mb rfl)).symm, fun t ht => ?_⟩
  have hrest : ∀ {α : Type} (f : Hif → α), (∀ x : Hif, f x.rest = f x) → f t.hif = _ := fun f hf =>
    (ht.hif_eq rfl f hf).trans ((State.settle_frame _).hif_eq rfl f hf)
  have hdma := hrest (fun x => tget x.dma (fun _ => ({} : Dma)) m.inst.toNat) fun _ => rfl
  have hready := hrest Hif.ready fun _ => rfl
  refine ⟨hdma.trans ?_, fun q hq => ?_⟩
  · rw [← s.dmaAt_begun specSetHifDma.verb specSetHifDma.noun m]
    exact State.dmaAt_setDma ..
  · rw [hready] at hq
    exact of_decide_eq_true (List.mem_filter.1 hq).2

theorem setHifDma_carries_on : Carries .setHifDma specSetHifDma
    (fun m s => checkHifDma (s.begun vSet nHifDma m) m (payloadOf m) = none ∧ (payloadOf m).getD 6 0 = 1)
    (fun m s t => Replied s t m cDone 0 ∧ (t.dmaAt m.inst.toNat).enabled = true ∧ (t.dmaAt m.inst.toNat).head = 0 ∧
      (t.dmaAt m.inst.toNat).tail = 0 ∧ (t.dmaAt m.inst.toNat).records = 0 ∧ (t.dmaAt m.inst.toNat).drops = 0 ∧
      (t.dmaAt m.inst.toNat).size = ((payloadOf m).getD 3 0).toNat ∧
      (t.dmaAt m.inst.toNat).base = (payloadOf m).getD 2 0 ++ (payloadOf m).getD 1 0) := by
  refine (setHifDma_carries true).imp fun m s t ⟨hreply, hdma, _⟩ => ⟨hreply, ?_⟩
  rw [hdma]
  exact ⟨rfl, rfl, rfl, rfl, rfl, rfl, rfl⟩

theorem setHifDma_carries_off : Carries .setHifDma specSetHifDma
    (fun m s => checkHifDma (s.begun vSet nHifDma m) m (payloadOf m) = none ∧ (payloadOf m).getD 6 0 = 0)
    (fun m s t => Replied s t m cDone 0 ∧ (t.dmaAt m.inst.toNat).enabled = false ∧
      (t.dmaAt m.inst.toNat).head = (s.dmaAt m.inst.toNat).head ∧ ∀ q ∈ t.hif.ready, q.ch ≠ m.inst.toNat) := by
  refine (setHifDma_carries false).imp fun m s t ⟨hreply, hdma, hready⟩ => ?_
  rw [hdma]
  exact ⟨hreply, rfl, rfl, hready⟩

/-! The interrupt controller (R519, R520, R522). -/

/-- A word of two values. -/
theorem Word.nat_eq_one {u : Nat} (h : u ≤ 1) : Word.nat u = 1 ↔ u = 1 := by
  obtain rfl | rfl : u = 0 ∨ u = 1 := by omega
  · decide
  · decide

theorem setIcuEvent_carries (code u : Nat) : Carries .setIcuEvent specSetIcuEvent
    (fun m _ => payloadOf m = [Word.nat code, Word.nat u] ∧ isEventCode code ∧ code < 2 ^ 32 ∧ u ≤ 1)
    (fun m s t => Replied s t m cDone 0 ∧ t.urgentCode code = decide (u = 1) ∧
      ∀ k, k ≠ code → t.urgentCode k = s.urgentCode k) := by
  refine carries_done (fun _ _ => rfl) fun m s _ ⟨hpayload, hcode, hlt, hu⟩ => ?_
  have hword := Word.toNat_nat hlt
  rw [hpayload]
  refine ⟨?_, _, _, _, rfl, ?_, fun t ht => ?_⟩
  · unfold checkIcuEvent
    simp only [List.getD_cons_zero, List.getD_cons_succ, hword, Word.toNat_nat (n := u) (by omega)]
    exact if_pos ⟨hcode, hu⟩
  · exact (congrArg Mb.box ((State.settleIcu_frame _).1 .mb rfl)).symm
  · have hurgent : ∀ k, t.urgentCode k = if k = code then decide (u = 1) else s.urgentCode k := by
      intro k
      have hset := congrArg (tget · urgentAtStart k) ((ht.1 .evUrgent rfl).symm.trans ((State.settleIcu_frame _).1 .evUrgent rfl).symm)
      refine hset.trans ((tget_tset ..).trans ?_)
      simp only [List.getD_cons_zero, List.getD_cons_succ, hword, Word.nat_eq_one hu]
      congr 1
      exact congrArg (tget · urgentAtStart k) ((s.begun_frame ..).1 .evUrgent rfl).symm
    exact ⟨(hurgent code).trans (if_pos rfl), fun k hk => (hurgent k).trans (if_neg hk)⟩

/-- The enable bits of every requester's interrupt controller are as they were. -/
def State.EnablesKept (s t : State) : Prop := ∀ r, (t.icuAt r).enable = (s.icuAt r).enable

namespace State.EnablesKept
variable {n : Nat} {s t u : State}

theorem refl (s : State) : s.EnablesKept s := fun _ => rfl

theorem keep (h' : Keep n t u) (hn : n.testBit 11 = false) (h : s.EnablesKept t) : s.EnablesKept u := fun r =>
  (congrArg (fun x : Tbl Icu => (tget x (fun _ => {}) r.num).enable) (h'.1 .icu hn).symm).trans (h r)

theorem modIcu {q : Requester} {f : Icu → Icu} (hf : ∀ x, (f x).enable = x.enable) (h : s.EnablesKept t) :
    s.EnablesKept (t.modIcu q f) := fun r => by
  rw [State.icuAt_modIcu]
  split
  · next hr => rw [hr, hf]; exact h q
  · exact h r

theorem modSrc {q : Requester} {src : Nat} {f : Src → Src} (h : s.EnablesKept t) : s.EnablesKept (t.modSrc q src f) :=
  .modIcu (fun _ => rfl) h

theorem modVec {q : Requester} {v : Nat} {f : Vec → Vec} (h : s.EnablesKept t) : s.EnablesKept (t.modVec q v f) :=
  .modIcu (fun _ => rfl) h

theorem sendVec (r : Requester) (v : Nat) (h : s.EnablesKept t) : s.EnablesKept (t.sendVec r v) := by
  unfold State.sendVec
  extract_lets x s1 hif
  split
  · exact .modVec h
  · have hs1 : s.EnablesKept s1 := .modVec h
    exact .keep (State.pmcEvent_frame ..) rfl hs1

theorem enterPending (r : Requester) (src : Nat) (h : s.EnablesKept t) : s.EnablesKept (t.enterPending r src) := by
  unfold State.enterPending
  split
  · split
    · exact .modIcu (fun _ => rfl) h
    · exact h
  · extract_lets v urgent s1 s2
    have hs1 : s.EnablesKept s1 := .modVec h
    split
    · split
      · exact h
      · split
        · exact .sendVec _ _ hs1
        · exact .modVec hs1
    · have hs2 : s.EnablesKept s2 := by
        dsimp only [s2]
        split
        · exact h
        · exact hs1
      split
      · exact .modIcu (fun _ => rfl) hs2
      · exact hs2

theorem edge (r : Requester) (src : Nat) (h : s.EnablesKept t) : s.EnablesKept (t.edge r src) := by
  unfold State.edge
  split
  · split
    · exact .enterPending _ _ (.modSrc h)
    · exact h
    · exact .modSrc h
    · exact h
  · exact h

theorem level (r : Requester) (src : Nat) (cond : Bool) (h : s.EnablesKept t) : s.EnablesKept (t.level r src cond) := by
  unfold State.level
  extract_lets now x s1 s2
  have hs1 : s.EnablesKept s1 := .modSrc h
  have hs2 : s.EnablesKept s2 := .modSrc h
  split
  · exact h
  · split
    · split
      · exact .enterPending _ _ (.modSrc hs1)
      · exact hs1
    · split
      · exact .modVec (.modSrc hs2)
      · split
        · exact .modIcu (fun _ => rfl) hs2
        · exact hs2

theorem settleIcuOf (r : Requester) (h : s.EnablesKept t) : s.EnablesKept (t.settleIcuOf r) :=
  List.foldlRecOn (motive := s.EnablesKept) _ _ h fun u hu src _ => .level r src (u.levelNow r src) hu

/-- A reply changes no enable bit. -/
theorem complete (m : Sentence) (code detail : Nat) (o : Obj) (ws : List Word) (k : Nat) (h : s.EnablesKept t) :
    s.EnablesKept (t.complete m code detail o ws k) := by
  unfold State.complete
  extract_lets s1 mb s2
  have hs2 : s.EnablesKept s2 := h
  split
  · exact hs2
  · exact .edge _ _ hs2

end State.EnablesKept

theorem setIcuMgt_carries (e : Nat) : Carries .setIcuMgt specSetIcuMgt
    (fun m _ => payloadOf m = [Word.nat e] ∧ e < 2 ^ 32 ∧ e &&& mgtMask = e)
    (fun m s t => Replied s t m cDone 0 ∧ (t.icuAt .mgt).enable = BitVec.ofNat 24 e) := by
  rintro m s htakes hm ⟨hpayload, he, hmask⟩
  have hcheck : checkIcuMgt (s.begun vSet nIcuMgt m) m (payloadOf m) = none := by
    rw [hpayload]
    unfold checkIcuMgt
    simp only [List.getD_cons_zero, Word.toNat_nat he]
    exact if_pos hmask
  obtain ⟨o, ws, k, hsubmit⟩ := submit_of_done (act := actIcuMgt) (echo := fun s _ => s.icuMgtWords) htakes hm hcheck rfl
  refine ⟨_, congrArg Host.Outcome.next hsubmit, State.complete_replied (c := specSetIcuMgt) cDone 0 o ws k ?_, ?_⟩
  · exact (congrArg Mb.box ((State.settleIcuOf_frame _ _).1 .mb rfl)).symm
  · have hkept := State.EnablesKept.complete m cDone 0 o ws k (.settleIcuOf .mgt
      (.refl ((s.begun vSet nIcuMgt m).modIcu .mgt fun x => { x with enable := ((payloadOf m).getD 0 0).setWidth 24 })))
    refine (hkept .mgt).trans ?_
    rw [State.icuAt_modIcu_self, hpayload]
    exact BitVec.setWidth_ofNat_of_le (show 24 ≤ 32 by decide) e

/-! Codes of the auxiliary channels (R561). -/

theorem State.syncLoop_ax (s : State) (i : Nat) : (s.syncLoop i).ocu.ax = s.ocu.ax := by
  unfold State.syncLoop
  dsimp only
  split
  · rfl
  · split <;> rfl

/-- Loops and optics that follow a change leave the channels. -/
theorem State.opticsCheck_ax (s : State) : s.opticsCheck.ocu.ax = s.ocu.ax := by
  have hloops : s.syncLoops.ocu.ax = s.ocu.ax := by
    unfold State.syncLoops
    exact List.foldlRecOn (motive := fun u : State => u.ocu.ax = s.ocu.ax) _ _ rfl fun u hu i _ => (u.syncLoop_ax i).trans hu
  have hoptics : Keep 0x2000300 s.syncLoops s.opticsCheck :=
    Keep.foldl _ (fun u l hu => u.opticsStep_keep l rfl hu) (Keep.refl _ _)
  exact (congrArg Ocu.ax (hoptics.1 .ocu rfl)).symm.trans hloops

/-- A new target; without a slew limit, with LANE_REFCLK, the code is there at once. -/
theorem State.axAt_setTarget (s : State) (c t : Nat) : ((s.setTarget c t).axAt c).target = t ∧
    (s.param nOcuAx c axSlew = offWord → s.dev.refclk → ((s.setTarget c t).axAt c).code = t) := by
  unfold State.setTarget
  split
  · rw [State.axAt_modAx_self]
    exact ⟨rfl, fun _ _ => rfl⟩
  · next h =>
    rw [State.axAt_modAx_self]
    exact ⟨rfl, fun hslew hclk => absurd ⟨hslew, hclk⟩ h⟩

theorem setOcuCode_carries : Carries .setOcuCode specSetOcuCode
    (fun m s => checkOcuCode (s.begun vSet nOcuCode m) m (payloadOf m) = none)
    (fun m s t => Replied s t m cDone 0 ∧ (t.axAt m.inst.toNat).target = ((payloadOf m).getD 0 0).toNat ∧
      (s.param nOcuAx m.inst.toNat axSlew = offWord → s.dev.refclk →
        (t.axAt m.inst.toNat).code = ((payloadOf m).getD 0 0).toNat)) := by
  refine carries_done (fun _ _ => rfl) fun m s _ hcheck => ⟨hcheck, _, _, _, rfl, ?_, fun t ht => ?_⟩
  · exact (State.opticsCheck_keep _ rfl (Keep.bump rfl (State.setTarget_keep _ _ _ rfl (Keep.refl _ _)))).box_eq
  · have hax : t.axAt m.inst.toNat = ((s.begun specSetOcuCode.verb specSetOcuCode.noun m).setTarget m.inst.toNat
        ((payloadOf m).getD 0 0).toNat).axAt m.inst.toNat :=
      congrArg (tget · (fun _ => ({} : Ax)) m.inst.toNat) ((congrArg Ocu.ax (ht.1 .ocu rfl)).symm.trans (State.opticsCheck_ax _))
    have hparam := (s.begun_frame specSetOcuCode.verb specSetOcuCode.noun m).param_eq rfl nOcuAx m.inst.toNat axSlew
    have hclock := (s.begun_frame specSetOcuCode.verb specSetOcuCode.noun m).refclk_eq rfl
    rw [hax, ← hparam, ← hclock]
    exact State.axAt_setTarget ..

/-- Settles O39, from one lemma for each noun and outcome. -/
theorem assignmentsComplete : Obligations.AssignmentsComplete :=
  ⟨setSeaPolicy_carries, setSeaHinge_carries, setHslGroup_carries, setTkuDomain_carries, setHifWindow_carries,
    setHifWindow_carries_refused, setHifDma_carries_on, setHifDma_carries_off, setIcuEvent_carries, setIcuMgt_carries,
    setOcuCode_carries, setPmcDump_carries⟩

end Sys2Proof.Machine
end

section
/-! PROOFS. The inner code (O13; R178 to R180, R198): the powers of x modulo g(x) and their period, syndromes as sums over the bits
of a word, and hard decoding. -/

namespace Sys2Proof.Machine

/-! Powers of x modulo g(x) = 0x11D (R178). -/

/-- Division by x modulo g(x): the inverse of `xStep`. -/
def xBack (v : Nat) : Nat := if v % 2 = 1 then (v ^^^ 0x11D) / 2 else v / 2

theorem xStep_lt : ∀ v < 256, xStep v < 256 := by decide +kernel

theorem xBack_xStep : ∀ v < 256, xBack (xStep v) = v := by decide +kernel

theorem xPow_lt (d : Nat) : xPow d < 256 := by
  induction d with
  | zero => decide
  | succ d ih => exact xStep_lt _ ih

theorem xPow_ne_zero (d : Nat) : xPow d ≠ 0 := by
  induction d with
  | zero => decide
  | succ d ih =>
    intro h
    have hback := xBack_xStep _ (xPow_lt d)
    rw [show xStep (xPow d) = 0 from h] at hback
    exact ih hback.symm

/-- The values x^d, x^(d + 1), … are the powers one after another. -/
theorem xPowers_xPow (n d : Nat) : xPowers n (xPow d) = (List.range n).map fun i => xPow (d + i) := by
  induction n generalizing d with
  | zero => rfl
  | succ n ih =>
    rw [List.range_succ_eq_map, List.map_cons, List.map_map]
    refine congrArg (xPow d :: ·) ((ih (d + 1)).trans (List.map_congr_left fun i _ => ?_))
    exact congrArg xPow (Nat.add_right_comm d 1 i)

theorem one_notMem_xPowers : 1 ∉ xPowers 254 2 := by decide +kernel

/-- x has order 255 modulo g(x): no smaller power is 1. -/
theorem xPow_ne_one {d : Nat} (hpos : 0 < d) (hd : d < 255) : xPow d ≠ 1 := by
  intro h
  apply one_notMem_xPowers
  rw [show xPowers 254 2 = _ from xPowers_xPow 254 1]
  exact List.mem_map.2 ⟨d - 1, List.mem_range.2 (by omega), by rw [Nat.add_sub_cancel' hpos, h]⟩

/-- Division by x^e on both sides of an equation of powers. -/
theorem xPow_cancel {d e : Nat} (h : xPow (d + e) = xPow e) : xPow d = 1 := by
  induction e with
  | zero => exact h
  | succ e ih =>
    apply ih
    rw [← xBack_xStep _ (xPow_lt (d + e)), ← xBack_xStep _ (xPow_lt e)]
    exact congrArg xBack h

/-- The degree of a power below 255 is unique (R180). -/
theorem xPow_inj {d e : Nat} (hd : d < 255) (he : e < 255) (h : xPow d = xPow e) : d = e := by
  wlog hle : e ≤ d generalizing d e
  · exact (this he hd h.symm (by omega)).symm
  by_contra hne
  refine xPow_ne_one (d := d - e) (by omega) (by omega) (xPow_cancel (e := e) ?_)
  rw [Nat.sub_add_cancel hle, h]

/-- Every nonzero syndrome is a power below 255: the 255 powers differ, and there are 255 nonzero syndromes (R180). -/
theorem exists_xPow_eq {x : Nat} (hpos : 0 < x) (hx : x < 256) : ∃ d < 255, xPow d = x := by
  have hmaps : Set.MapsTo xPow (Finset.range 255) (Finset.Ioo 0 256) := fun d _ =>
    Finset.mem_coe.2 (Finset.mem_Ioo.2 ⟨Nat.pos_of_ne_zero (xPow_ne_zero d), xPow_lt d⟩)
  have hinj : Set.InjOn xPow (Finset.range 255) := fun d hd e he h =>
    xPow_inj (Finset.mem_range.1 hd) (Finset.mem_range.1 he) h
  have hmem : x ∈ (↑(Finset.Ioo 0 256) : Set Nat) := Finset.mem_coe.2 (Finset.mem_Ioo.2 ⟨hpos, hx⟩)
  obtain ⟨d, hd, rfl⟩ := Finset.surjOn_of_injOn_of_card_le xPow hmaps hinj (by simp) hmem
  exact ⟨d, Finset.mem_range.1 hd, rfl⟩

/-! The syndrome of each bit. -/

@[simp] theorem bitSyndromes_length : bitSyndromes.length = 144 := by
  rw [bitSyndromes, List.length_reverse, show xPowers 144 1 = _ from xPowers_xPow 144 0, List.length_map, List.length_range]

theorem bitSyndromes_getElem {i : Nat} (hi : i < bitSyndromes.length) : bitSyndromes[i] = xPow (143 - i) := by
  have hpowers : xPowers 144 1 = _ := xPowers_xPow 144 0
  simp only [bitSyndromes, List.getElem_reverse, hpowers, List.getElem_map, List.getElem_range, List.length_map, List.length_range]
  exact congrArg xPow (Nat.zero_add _)

theorem mem_bitSyndromes {v : Nat} (h : v ∈ bitSyndromes) : ∃ i < 144, xPow (143 - i) = v := by
  obtain ⟨i, hi, rfl⟩ := List.mem_iff_getElem.1 h
  exact ⟨i, bitSyndromes_length ▸ hi, (bitSyndromes_getElem hi).symm⟩

/-- The syndrome of one bit names that bit. -/
theorem idxOf?_bitSyndromes {i : Nat} (hi : i < 144) : bitSyndromes.idxOf? (xPow (143 - i)) = some i := by
  have hlen : i < bitSyndromes.length := by simpa using hi
  refine List.idxOf?_eq_some_iff.2 ⟨hlen, bitSyndromes_getElem hlen, fun j hj h => ?_⟩
  rw [bitSyndromes_getElem (hj.trans hlen)] at h
  have := xPow_inj (by omega) (by omega) h
  omega

/-! Exclusive ors over the set bits of a word. -/

theorem foldl_xorWhere (p : Nat → Bool) (vs : List Nat) (n a : Nat) :
    (vs.zipIdx n).foldl (fun a v => if p v.2 then a ^^^ v.1 else a) a = a ^^^ xorWhere (fun i => p (n + i)) vs := by
  induction vs generalizing p n a with
  | nil => exact (Nat.xor_zero a).symm
  | cons v vs ih =>
    have htail : xorWhere (fun i => p (n + i)) (v :: vs) =
        (if p n then v else 0) ^^^ xorWhere (fun i => p (n + 1 + i)) vs := by
      rw [xorWhere, List.zipIdx_cons, List.foldl_cons, ih fun i => p (n + i)]
      simp [Nat.add_assoc]
    rw [List.zipIdx_cons, List.foldl_cons, ih, htail]
    split <;> simp [Nat.xor_assoc]

theorem xorWhere_cons (p : Nat → Bool) (v : Nat) (vs : List Nat) :
    xorWhere p (v :: vs) = (if p 0 then v else 0) ^^^ xorWhere (fun i => p (i + 1)) vs := by
  rw [xorWhere, List.zipIdx_cons, List.foldl_cons, foldl_xorWhere, Nat.zero_xor]
  simp only [Nat.zero_add, Nat.add_comm 1]

theorem xorWhere_congr {p q : Nat → Bool} {vs : List Nat} (h : ∀ i < vs.length, p i = q i) : xorWhere p vs = xorWhere q vs := by
  induction vs generalizing p q with
  | nil => rfl
  | cons v vs ih =>
    rw [xorWhere_cons, xorWhere_cons, h 0 (Nat.succ_pos _), ih fun i hi => h (i + 1) (Nat.succ_lt_succ hi)]

theorem xorWhere_append (p : Nat → Bool) (us vs : List Nat) :
    xorWhere p (us ++ vs) = xorWhere p us ^^^ xorWhere (fun i => p (us.length + i)) vs := by
  rw [xorWhere, List.zipIdx_append, List.foldl_append, foldl_xorWhere, Nat.zero_add]
  rfl

theorem xorWhere_xor (p q : Nat → Bool) (vs : List Nat) :
    xorWhere (fun i => p i ^^ q i) vs = xorWhere p vs ^^^ xorWhere q vs := by
  induction vs generalizing p q with
  | nil => exact (Nat.xor_self 0).symm
  | cons v vs ih =>
    have hhead : (if p 0 ^^ q 0 then v else 0) = (if p 0 then v else 0) ^^^ (if q 0 then v else 0) := by
      cases p 0 <;> cases q 0 <;> simp
    simp only [xorWhere_cons, ih, hhead]
    ac_rfl

theorem xorWhere_false (vs : List Nat) : xorWhere (fun _ => false) vs = 0 := by
  induction vs with
  | nil => rfl
  | cons v vs ih => simp [xorWhere_cons, ih]

/-- Of a single set position the value is taken. -/
theorem xorWhere_eq_getElem {vs : List Nat} {i : Nat} (hi : i < vs.length) : xorWhere (fun j => decide (j = i)) vs = vs[i] := by
  induction vs generalizing i with
  | nil => cases hi
  | cons v vs ih =>
    cases i with
    | zero => simp [xorWhere_cons, xorWhere_false]
    | succ i => simpa [xorWhere_cons] using ih (Nat.lt_of_succ_lt_succ hi)

theorem xorWhere_lt {p : Nat → Bool} {vs : List Nat} (h : ∀ v ∈ vs, v < 2 ^ 8) : xorWhere p vs < 2 ^ 8 := by
  induction vs generalizing p with
  | nil => exact Nat.two_pow_pos 8
  | cons v vs ih =>
    obtain ⟨hv, hvs⟩ := List.forall_mem_cons.1 h
    rw [xorWhere_cons]
    exact Nat.xor_lt_two_pow (by split <;> [exact hv; exact Nat.two_pow_pos 8]) (ih hvs)

/-! Syndromes and codewords (R179, R180). -/

theorem syndrome_xor (a b : BitVec 144) : syndrome (a ^^^ b) = syndrome a ^^^ syndrome b := by
  rw [syndrome, syndrome, syndrome, ← xorWhere_xor]
  exact xorWhere_congr fun i _ => BitVec.getLsbD_xor

theorem syndrome_twoPow {i : Nat} (hi : i < 144) : syndrome (BitVec.twoPow 144 i) = xPow (143 - i) := by
  have hlen : i < bitSyndromes.length := by simpa using hi
  rw [← bitSyndromes_getElem hlen, ← xorWhere_eq_getElem hlen]
  refine xorWhere_congr fun j hj => ?_
  rw [bitSyndromes_length] at hj
  simp [BitVec.getLsbD_twoPow, hi, eq_comm]

theorem parity_lt (m : BitVec 136) : parity m < 2 ^ 8 := by
  refine xorWhere_lt fun v hv => ?_
  obtain ⟨i, -, rfl⟩ := mem_bitSyndromes (List.mem_of_mem_take hv)
  exact xPow_lt _

/-- The parity byte as the last eight bits of a codeword, p7 first (R179). -/
def parityBits (p : Nat) : Nat := ((List.range 8).map fun k => if p.testBit (7 - k) then 2 ^ k else 0).sum

theorem bitSyndromes_drop : bitSyndromes.drop 136 = [128, 64, 32, 16, 8, 4, 2, 1] := by decide +kernel

theorem xorWhere_parityBits : ∀ p < 256, xorWhere (parityBits p).testBit [128, 64, 32, 16, 8, 4, 2, 1] = p := by decide +kernel

theorem encodeWord_eq (m : BitVec 136) :
    encodeWord m = BitVec.ofNat 144 (2 ^ 136 * parityBits (parity m) + m.toNat) := by
  have hsum : (List.range 8).map (fun k => if (parity m).testBit (7 - k) then 2 ^ (136 + k) else 0) =
      (List.range 8).map (fun k => 2 ^ 136 * if (parity m).testBit (7 - k) then 2 ^ k else 0) :=
    List.map_congr_left fun k _ => by rw [mul_ite, Nat.mul_zero, Nat.pow_add]
  rw [encodeWord, hsum, List.sum_map_mul_left, Nat.add_comm]
  rfl

theorem encodeWord_getLsbD (m : BitVec 136) {i : Nat} (hi : i < 144) : (encodeWord m).getLsbD i =
    if i < 136 then m.getLsbD i else (parityBits (parity m)).testBit (i - 136) := by
  rw [encodeWord_eq, BitVec.getLsbD_ofNat, Nat.testBit_two_pow_mul_add _ m.isLt]
  simp [hi, BitVec.testBit_toNat]

theorem encodeWord_setWidth (m : BitVec 136) : (encodeWord m).setWidth 136 = m := by
  refine BitVec.eq_of_getLsbD_eq fun i hi => ?_
  rw [BitVec.getLsbD_setWidth, encodeWord_getLsbD m (by omega), if_pos hi]
  simp [hi]

/-- The payload's part of the syndrome is the parity, and so is that of the parity bits. -/
theorem syndrome_encodeWord (m : BitVec 136) : syndrome (encodeWord m) = 0 := by
  have hlen : (bitSyndromes.take 136).length = 136 := by simp
  have hpayload : xorWhere (encodeWord m).getLsbD (bitSyndromes.take 136) = parity m :=
    xorWhere_congr fun i hi => by
      rw [hlen] at hi
      rw [encodeWord_getLsbD m (by omega), if_pos hi]
  have hparity : xorWhere (fun i => (encodeWord m).getLsbD (136 + i)) (bitSyndromes.drop 136) = parity m := by
    rw [bitSyndromes_drop]
    refine (xorWhere_congr fun i hi => ?_).trans (xorWhere_parityBits _ (parity_lt m))
    have hi' : i < 8 := hi
    rw [encodeWord_getLsbD m (by omega), if_neg (by omega), Nat.add_sub_cancel_left]
  rw [syndrome, ← List.take_append_drop 136 bitSyndromes, xorWhere_append, hlen, hpayload, hparity, Nat.xor_self]

theorem syndrome_encodeWord_xor (m : BitVec 136) {i : Nat} (hi : i < 144) :
    syndrome (encodeWord m ^^^ BitVec.twoPow 144 i) = xPow (143 - i) := by
  rw [syndrome_xor, syndrome_encodeWord, Nat.zero_xor, syndrome_twoPow hi]

/-! Hard decoding (R198, R217). -/

/-- Hard decoding tests no position: the hard word's syndrome decides. -/
theorem chase_zero (w : BitVec 144) (rel : List Nat) : chase w rel 0 = (candidate (syndrome w) []).map fun fs => (0, fs) := by
  have hflips : flipsOf ((leastReliable rel).take 0) 0 = [] := rfl
  simp only [chase, Nat.pow_zero, List.range_one, List.foldl_cons, List.foldl_nil, hflips]
  cases candidate (syndrome w) [] <;> rfl

theorem candidate_nil {x : Nat} (hx : x ≠ 0) : candidate x [] = (bitSyndromes.idxOf? x).map fun i => [i] := by
  rw [candidate, List.foldl_nil, if_neg hx]
  cases bitSyndromes.idxOf? x <;> rfl

theorem chase_zero_of_xPow {w : BitVec 144} {d : Nat} (rel : List Nat) (h : syndrome w = xPow d) :
    chase w rel 0 = (bitSyndromes.idxOf? (xPow d)).map fun i => (0, [i]) := by
  rw [chase_zero, h, candidate_nil (xPow_ne_zero d), Option.map_map]
  rfl

theorem toggle_singleton (w : BitVec 144) (i : Nat) : toggle (w ^^^ BitVec.twoPow 144 i) [i] = w := by
  rw [toggle, List.foldl_cons, List.foldl_nil, BitVec.xor_assoc, BitVec.xor_self, BitVec.xor_zero]

/-- A degree of 144 or more belongs to no bit. -/
theorem idxOf?_bitSyndromes_eq_none {d : Nat} (hlow : 144 ≤ d) (hd : d < 255) : bitSyndromes.idxOf? (xPow d) = none := by
  refine List.idxOf?_eq_none_iff.2 fun h => ?_
  obtain ⟨i, hi, hpow⟩ := mem_bitSyndromes h
  have := xPow_inj (by omega) hd hpow
  omega

/-- Settles O13: codewords from the split of a word into payload and parity, the single degree of a syndrome from the order of x,
hard decoding from the syndrome's place among those of the bits. -/
theorem hardDecodingCorrectsSingleErrors : Obligations.HardDecodingCorrectsSingleErrors := by
  refine ⟨fun m => ⟨syndrome_encodeWord m, encodeWord_setWidth m⟩, syndrome_xor, fun i => syndrome_twoPow,
    fun m i => syndrome_encodeWord_xor m, fun m i rel hi => ⟨?_, toggle_singleton _ i⟩, fun x hpos hx => ?_,
    fun w rel d hlow hd h => ?_⟩
  · rw [chase_zero_of_xPow rel (syndrome_encodeWord_xor m hi), idxOf?_bitSyndromes hi]
    rfl
  · obtain ⟨d, hd, hpow⟩ := exists_xPow_eq hpos hx
    exact ⟨d, hd, hpow, fun e he h => xPow_inj he hd (h.trans hpow.symm)⟩
  · rw [chase_zero_of_xPow rel h, idxOf?_bitSyndromes_eq_none hlow hd]
    rfl

end Sys2Proof.Machine
end

section
/-! PROOFS. Precoding, Gray indices, the bits of the trellis' branches, and the interleaving of FEC symbols (O14;
R183 to R188, R194). -/

namespace Sys2Proof.Machine

/-- The receiver takes the precoding of one symbol back (R185). -/
theorem unprecode_precode {g : Nat} (p : Nat) (hg : g < 4) : unprecode p (precode g p) = g := by
  unfold unprecode precode
  omega

/-- The same along a run: each level and the one before it give the index (R185). -/
theorem unprecode_precodeRun {gs : List Nat} (hgs : ∀ g ∈ gs, g < 4) (p : Nat) {n : Nat} (hn : n < gs.length) :
    unprecode ((p :: precodeRun p gs).getD n 0) ((precodeRun p gs).getD n 0) = gs.getD n 0 := by
  induction gs generalizing p n with
  | nil => cases hn
  | cons g gs ih =>
    obtain ⟨hg, hgs⟩ := List.forall_mem_cons.1 hgs
    cases n with
    | zero => exact unprecode_precode p hg
    | succ n => exact ih hgs (precode g p) (Nat.lt_of_succ_lt_succ hn)

theorem grayBits_grayOf (a b : Bool) : grayBits (grayOf a b) = (a, b) := by cases a <;> cases b <;> rfl

theorem grayOf_grayBits : ∀ g < 4, grayOf (grayBits g).1 (grayBits g).2 = g := by decide

/-! FEC symbols of PCS lanes (R188). -/

/-- Of the numbers below m * n, those that leave the remainder k < m are k, m + k, 2 m + k and so on. -/
theorem filter_mod_range {m k : Nat} (hk : k < m) (n : Nat) :
    (List.range (m * n)).filter (fun i => i % m == k) = (List.range n).map fun j => m * j + k := by
  induction n with
  | zero => rfl
  | succ n ih =>
    have hturn : (List.range m).filter ((fun i => i % m == k) ∘ fun x => m * n + x) = [k] := by
      have hmod : ∀ x ∈ List.range m, ((fun i => i % m == k) ∘ fun x => m * n + x) x = (x == k) := fun x hx => by
        simp [Nat.mod_eq_of_lt (List.mem_range.1 hx)]
      rw [List.filter_congr hmod, List.filter_beq, List.count_range, if_pos hk, List.replicate_one]
    rw [Nat.mul_succ, List.range_add, List.filter_append, ih, List.filter_map, hturn, List.range_succ, List.map_append]
    rfl

/-- Symbol i of the interleaved stream is symbol i / K of PCS lane i mod K (R188). -/
theorem interleaveFec_eq {lanes : List (List (BitVec 10))} (h : lanes ≠ []) (n : Nat) : interleaveFec lanes 0 n =
    (List.range n).map fun i => (lanes.getD (i % lanes.length) []).getD (i / lanes.length) 0 := by
  have hmax : max 1 lanes.length = lanes.length := Nat.max_eq_right (List.length_pos_iff.2 h)
  simp only [interleaveFec, hmax, Nat.add_zero]

/-- Lane k takes every K-th symbol from symbol k on (R188). -/
theorem separateFec_map_range {m : Nat} (hm : 0 < m) (n : Nat) (f : Nat → BitVec 10) :
    separateFec m 0 ((List.range (m * n)).map f) = (List.range m).map fun k => (List.range n).map fun j => f (m * j + k) := by
  have hzip : ((List.range (m * n)).map f).zipIdx = (List.range (m * n)).map fun i => (f i, i) := by
    apply List.ext_getElem <;> simp
  refine List.map_congr_left fun k hk => ?_
  have hfilter := filter_mod_range (List.mem_range.1 hk) n
  rw [hzip, List.filter_map, Nat.max_eq_right hm, List.map_map]
  refine (congrArg (List.map f) hfilter).trans ?_
  rw [List.map_map]
  rfl

theorem separateFec_interleaveFec {lanes : List (List (BitVec 10))} {n : Nat} (h : lanes ≠ []) (hn : ∀ x ∈ lanes, x.length = n) :
    separateFec lanes.length 0 (interleaveFec lanes 0 (lanes.length * n)) = lanes := by
  have hpos : 0 < lanes.length := List.length_pos_iff.2 h
  rw [interleaveFec_eq h, separateFec_map_range hpos]
  refine List.ext_getElem (by simp) fun k _ hk => ?_
  rw [List.getElem_map, List.getElem_range]
  refine List.ext_getElem (by simp [hn]) fun j _ hj => ?_
  rw [List.getElem_map, List.getElem_range, Nat.mul_add_mod, Nat.mod_eq_of_lt hk, Nat.mul_add_div hpos, Nat.div_eq_of_lt hk,
    Nat.add_zero, List.getD_eq_getElem _ _ hk, List.getD_eq_getElem _ _ hj]

/-- Settles O14: runs by induction, Gray indices by their cases, the FEC symbols by the places that each PCS lane takes. -/
theorem precodingIsRecovered : Obligations.PrecodingIsRecovered :=
  ⟨fun _ p _ hgs _ hn => unprecode_precodeRun hgs p hn, ⟨rfl, rfl, rfl, rfl⟩, grayBits_grayOf, grayOf_grayBits,
    fun _ _ _ _ => ⟨rfl, rfl⟩, fun _ _ h hn => separateFec_interleaveFec h hn⟩

end Sys2Proof.Machine
end

section
/-! PROOFS. The 10 ms period of SDF and faults of fixed stages (O16; R193, R214 to R217, R638). -/

namespace Sys2Proof.Machine

/-! The period. -/

/-- The bit error ratio of the period that ends (R214). -/
def State.berOf (s : State) (l : Nat) : Nat × Nat :=
  ratioOf (s.stat gSdf l 5 - (s.lineAt l).sdf.bits0) (144 * (s.stat gSdf l 0 - (s.lineAt l).sdf.cw0)) (s.freeAt 0)

/-- Its RS symbol error ratio (R214). -/
def State.serOf (s : State) (l : Nat) : Nat × Nat :=
  ratioOf (s.stat gSdf l 11 - (s.lineAt l).sdf.rsSym0) (544 * (s.stat gSdf l 8 - (s.lineAt l).sdf.rsCw0)) (s.freeAt 1)

/-- The runs of periods above and below the degrade threshold, with this one (R215). -/
def State.berRuns (s : State) (l : Nat) : Nat × Nat :=
  degRuns (s.berOf l) (s.lineAt l).sdf.degThr (s.lineAt l).sdf.degHigh (s.lineAt l).sdf.degLow

/-- The same for the RS threshold. -/
def State.serRuns (s : State) (l : Nat) : Nat × Nat :=
  degRuns (s.serOf l) (s.lineAt l).sdf.rsThr (s.lineAt l).sdf.rsHigh (s.lineAt l).sdf.rsLow

/-- The third period in a row above a threshold, on a lane that was not degraded by it (R215). -/
def degStarts (runs : Nat × Nat) (deg : Bool) : Bool := decide (3 ≤ runs.1) && !deg

/-- The tenth period in a row below half of the threshold, on a lane that was degraded by it (R215). -/
def degEnds (runs : Nat × Nat) (deg : Bool) : Bool := decide (10 ≤ runs.2) && deg

/-- The lane with the period's figures, before the events (R214 to R217). -/
def State.sdfJudged (s : State) (l : Nat) : State :=
  (s.freeSkip 2).modSdf l fun y => { y with
    ber := ratioWord (s.berOf l), ser := ratioWord (s.serOf l), bits0 := s.stat gSdf l 5, cw0 := s.stat gSdf l 0
    rsSym0 := s.stat gSdf l 11, rsCw0 := s.stat gSdf l 8
    degHigh := (s.berRuns l).1, degLow := (s.berRuns l).2
    deg := (y.deg || degStarts (s.berRuns l) (s.lineAt l).sdf.deg) && !degEnds (s.berRuns l) (s.lineAt l).sdf.deg
    degSince := if degStarts (s.berRuns l) (s.lineAt l).sdf.deg then s.tku.bcnt else y.degSince
    rsHigh := (s.serRuns l).1, rsLow := (s.serRuns l).2
    rsDeg := (y.rsDeg || degStarts (s.serRuns l) (s.lineAt l).sdf.rsDeg) && !degEnds (s.serRuns l) (s.lineAt l).sdf.rsDeg
    rsSince := if degStarts (s.serRuns l) (s.lineAt l).sdf.rsDeg then s.tku.bcnt else y.rsSince
    uncorr := 0, degThr := s.parN nSdfCfg l 7, rsThr := s.parN nSdfCfg l 8 }

/-- The event of a lane that degrades. -/
def State.degradeNamed (s : State) (l : Nat) : State :=
  if degStarts (s.berRuns l) (s.lineAt l).sdf.deg then
    (s.sdfJudged l).raise evSdfDegrade [Word.nat l, Word.nat (ratioWord (s.berOf l))]
  else s.sdfJudged l

/-- The event of uncorrectable RS codewords (R216). -/
def State.uncorrNamed (s u : State) (l : Nat) : State :=
  if 0 < (s.lineAt l).sdf.uncorr then u.raise evSdfRsUncorr [Word.nat l, Word.nat (s.lineAt l).sdf.uncorr] else u

/-- A period ends: figures, the events of the degrade thresholds, that of uncorrectable codewords, and last the level table. -/
theorem exec_sdfPeriodEnd {s : State} {l : Nat} (syms : List (Nat × Int)) (hl : l < s.lines) :
    ∃ v, Keep 0x300 (s.degradeNamed l) v ∧ exec (.sdfPeriodEnd l syms) s = .next (
      if s.parN nSdfCfg l 3 = 0 ∧ (s.lineAt l).sdf.lock then (s.uncorrNamed v l).adaptTable l syms else s.uncorrNamed v l) := by
  change ∃ v, _ ∧ execSdfPeriodEnd l s syms = _
  rw [execSdfPeriodEnd, if_pos hl]
  refine ⟨_, ?_, rfl⟩
  have hraise : ∀ (c : Bool) (code : Nat) (data : List Word) {u : State}, Keep 0x300 (s.degradeNamed l) u →
      Keep 0x300 (s.degradeNamed l) (if c then u.raise code data else u) :=
    fun c code data u hu => Keep.ite (State.raise_keep _ _ _ rfl hu) hu
  exact hraise _ _ _ (hraise _ _ _ (hraise _ _ _ (Keep.refl _ _)))

theorem State.sdfJudged_frame (s : State) (l : Nat) : Keep 0x400002 s (s.sdfJudged l) :=
  Keep.modSdf rfl (State.freeSkip_keep s 2 rfl (Keep.refl _ _))

theorem State.lineAt_freeSkip (s : State) (n l : Nat) : (s.freeSkip n).lineAt l = s.lineAt l := rfl

/-- What the period's figures make of the lane's decoder. -/
theorem State.sdfJudged_sdf (s : State) (l : Nat) : ((s.sdfJudged l).lineAt l).sdf.ber = ratioWord (s.berOf l) ∧
    ((s.sdfJudged l).lineAt l).sdf.ser = ratioWord (s.serOf l) ∧ ((s.sdfJudged l).lineAt l).sdf.uncorr = 0 ∧
    ((s.sdfJudged l).lineAt l).sdf.degThr = s.parN nSdfCfg l 7 ∧ ((s.sdfJudged l).lineAt l).sdf.rsThr = s.parN nSdfCfg l 8 ∧
    ((s.sdfJudged l).lineAt l).sdf.table = (s.lineAt l).sdf.table := by
  simp [State.sdfJudged, State.lineAt_freeSkip]

theorem State.sdfJudged_lineAt_other (s : State) {l k : Nat} (hk : k ≠ l) : (s.sdfJudged l).lineAt k = s.lineAt k :=
  State.lineAt_modSdf_other _ hk _

theorem State.degradeNamed_frame (s : State) (l : Nat) : Keep 0x300 (s.sdfJudged l) (s.degradeNamed l) :=
  Keep.ite (State.raise_frame ..) (Keep.refl _ _)

theorem State.uncorrNamed_frame (s u : State) (l : Nat) : Keep 0x300 u (s.uncorrNamed u l) :=
  Keep.ite (State.raise_frame ..) (Keep.refl _ _)

/-- The level table moves by the decided symbols, the rest of the lane stays (R193). -/
theorem State.adaptTable_lineAt (s : State) (l : Nat) (syms : List (Nat × Int)) : (s.adaptTable l syms).lineAt l =
    { s.lineAt l with sdf := { (s.lineAt l).sdf with table := (syms.foldl (fun t p =>
        tmod t nominalLevel p.1 fun m => m + roundDiv (1048576 * p.2 - m) (2 ^ (-(s.parI nSdfCfg l 4)).toNat))
        (s.lineAt l).sdf.table) } } := by
  rw [State.adaptTable, State.lineAt_modSdf_self]

theorem State.adaptTable_lineAt_other (s : State) {l k : Nat} (syms : List (Nat × Int)) (hk : k ≠ l) :
    (s.adaptTable l syms).lineAt k = s.lineAt k := s.lineAt_modSdf_other hk _

theorem State.adaptTable_frame (s : State) (l : Nat) (syms : List (Nat × Int)) : Keep 0x400000 s (s.adaptTable l syms) :=
  s.adaptTable_keep l syms rfl (Keep.refl _ _)

theorem ratioOf_of_pos (num : Nat) {den : Nat} (open_ : Word) (h : 0 < den) : ratioOf num den open_ = (num, den) :=
  if_neg h.ne'

theorem State.berOf_eq {s : State} {l : Nat} (h : (s.lineAt l).sdf.cw0 < s.stat gSdf l 0) : s.berOf l =
    (s.stat gSdf l 5 - (s.lineAt l).sdf.bits0, 144 * (s.stat gSdf l 0 - (s.lineAt l).sdf.cw0)) :=
  ratioOf_of_pos _ _ (by omega)

theorem State.serOf_eq {s : State} {l : Nat} (h : (s.lineAt l).sdf.rsCw0 < s.stat gSdf l 8) : s.serOf l =
    (s.stat gSdf l 11 - (s.lineAt l).sdf.rsSym0, 544 * (s.stat gSdf l 8 - (s.lineAt l).sdf.rsCw0)) :=
  ratioOf_of_pos _ _ (by omega)

/-- The events before the end of a period leave its figures. -/
theorem State.uncorrNamed_judged {s v : State} {l : Nat} (hv : Keep 0x300 (s.degradeNamed l) v) :
    Keep 0x300 (s.sdfJudged l) (s.uncorrNamed v l) :=
  (s.uncorrNamed_frame v l).step rfl (hv.step rfl (s.degradeNamed_frame l))

theorem sdfPeriodEnd_completes (l : Nat) (syms : List (Nat × Int)) : Completes (.sdfPeriodEnd l syms)
    (fun s => l < s.lines ∧ (s.lineAt l).sdf.cw0 < s.stat gSdf l 0 ∧ (s.lineAt l).sdf.rsCw0 < s.stat gSdf l 8)
    fun s t => (t.lineAt l).sdf.ber = ratioWord (s.stat gSdf l 5 - (s.lineAt l).sdf.bits0,
        144 * (s.stat gSdf l 0 - (s.lineAt l).sdf.cw0)) ∧
      (t.lineAt l).sdf.ser = ratioWord (s.stat gSdf l 11 - (s.lineAt l).sdf.rsSym0,
        544 * (s.stat gSdf l 8 - (s.lineAt l).sdf.rsCw0)) ∧
      (t.lineAt l).sdf.uncorr = 0 ∧ (t.lineAt l).sdf.degThr = s.parN nSdfCfg l 7 ∧ (t.lineAt l).sdf.rsThr = s.parN nSdfCfg l 8 ∧
      (t.lineAt l).sdf.table = (if s.parN nSdfCfg l 3 = 0 ∧ (s.lineAt l).sdf.lock then syms.foldl (fun t p =>
          tmod t nominalLevel p.1 fun m => m + roundDiv (1048576 * p.2 - m) (2 ^ (-(s.parI nSdfCfg l 4)).toNat))
          (s.lineAt l).sdf.table
        else (s.lineAt l).sdf.table) ∧
      (0 < (s.lineAt l).sdf.uncorr → s.hears → Raises s t evSdfRsUncorr [Word.nat l, Word.nat (s.lineAt l).sdf.uncorr]) ∧
      (∀ j, j ≠ l → t.lineAt j = s.lineAt j) ∧ OnlyChanges [.free, .lnSdf, .evRaised, .evQueue] s t := by
  rintro s ⟨hl, hcw, hrs⟩
  obtain ⟨v, hv, hexec⟩ := exec_sdfPeriodEnd syms hl
  have hjudged : Keep 0x400302 s v := hv.step rfl ((s.degradeNamed_frame l).step rfl ((s.sdfJudged_frame l).step rfl (Keep.refl _ _)))
  have hevents := State.uncorrNamed_judged hv
  have hlane : (s.uncorrNamed v l).lineAt l = (s.sdfJudged l).lineAt l := hevents.lineAt_eq rfl l
  have hpar : (s.uncorrNamed v l).parI nSdfCfg l 4 = s.parI nSdfCfg l 4 :=
    ((s.uncorrNamed_frame v l).step rfl hjudged).parI_eq rfl ..
  have hraises : ∀ {n : Nat} {t : State}, Keep n (s.uncorrNamed v l) t → n.testBit 47 = false → 0 < (s.lineAt l).sdf.uncorr →
      s.hears → Raises s t evSdfRsUncorr [Word.nat l, Word.nat (s.lineAt l).sdf.uncorr] := by
    intro n t ht hn huncorr hears
    rw [State.uncorrNamed, if_pos huncorr] at ht
    exact Raises.of_keep hears hjudged rfl ht hn
  have hother : ∀ j, j ≠ l → (s.uncorrNamed v l).lineAt j = s.lineAt j := fun j hj =>
    (hevents.lineAt_eq rfl j).trans (s.sdfJudged_lineAt_other hj)
  have hframe := execSdfPeriodEnd_keep l s syms hexec
  refine ⟨_, hexec, ?_⟩
  dsimp only
  rw [← State.berOf_eq hcw, ← State.serOf_eq hrs]
  have hsdf := s.sdfJudged_sdf l
  obtain ⟨hber, hser, huncorr, hdeg, hrsThr, htable⟩ := hsdf
  by_cases hadapt : s.parN nSdfCfg l 3 = 0 ∧ (s.lineAt l).sdf.lock
  · rw [if_pos hadapt] at hframe ⊢
    rw [if_pos hadapt, State.adaptTable_lineAt, hlane, hpar, htable]
    exact ⟨hber, hser, huncorr, hdeg, hrsThr, rfl, hraises (State.adaptTable_frame ..) rfl,
      fun j hj => (State.adaptTable_lineAt_other _ syms hj).trans (hother j hj), hframe.among rfl⟩
  · rw [if_neg hadapt] at hframe ⊢
    rw [if_neg hadapt, hlane]
    exact ⟨hber, hser, huncorr, hdeg, hrsThr, htable, hraises (Keep.refl 0 _) rfl, hother, hframe.among rfl⟩

/-- A third period above the threshold degrades a lane that was not degraded (R215). -/
theorem State.degStarts_of_third {s : State} {l : Nat} (hcw : (s.lineAt l).sdf.cw0 < s.stat gSdf l 0)
    (hhigh : (s.lineAt l).sdf.degHigh = 2) (hdeg : (s.lineAt l).sdf.deg = false)
    (habove : (s.lineAt l).sdf.degThr * (144 * (s.stat gSdf l 0 - (s.lineAt l).sdf.cw0)) <
      (s.stat gSdf l 5 - (s.lineAt l).sdf.bits0) * 1000000) :
    degStarts (s.berRuns l) (s.lineAt l).sdf.deg = true := by
  simp [degStarts, State.berRuns, degRuns, State.berOf_eq hcw, hhigh, hdeg, habove]

theorem sdfPeriodEnd_completes_of_third (l : Nat) (syms : List (Nat × Int)) : Completes (.sdfPeriodEnd l syms)
    (fun s => l < s.lines ∧ (s.lineAt l).sdf.cw0 < s.stat gSdf l 0 ∧ (s.lineAt l).sdf.degHigh = 2 ∧
      (s.lineAt l).sdf.deg = false ∧ s.hears ∧
      (s.lineAt l).sdf.degThr * (144 * (s.stat gSdf l 0 - (s.lineAt l).sdf.cw0)) <
        (s.stat gSdf l 5 - (s.lineAt l).sdf.bits0) * 1000000)
    fun s t => (t.lineAt l).sdf.deg = true ∧ Raises s t evSdfDegrade [Word.nat l,
      Word.nat (ratioWord (s.stat gSdf l 5 - (s.lineAt l).sdf.bits0, 144 * (s.stat gSdf l 0 - (s.lineAt l).sdf.cw0)))] := by
  rintro s ⟨hl, hcw, hhigh, hdeg, hears, habove⟩
  obtain ⟨v, hv, hexec⟩ := exec_sdfPeriodEnd syms hl
  have hstarts := State.degStarts_of_third hcw hhigh hdeg habove
  have hlane : (s.uncorrNamed v l).lineAt l = (s.sdfJudged l).lineAt l := (State.uncorrNamed_judged hv).lineAt_eq rfl l
  have hjudged : ((s.sdfJudged l).lineAt l).sdf.deg = true := by
    rw [hdeg] at hstarts
    simp [State.sdfJudged, hstarts, hdeg, degEnds]
  have hend : Keep 0x400300 (s.degradeNamed l)
      (if s.parN nSdfCfg l 3 = 0 ∧ (s.lineAt l).sdf.lock then (s.uncorrNamed v l).adaptTable l syms else s.uncorrNamed v l) := by
    have hv' : Keep 0x400300 (s.degradeNamed l) (s.uncorrNamed v l) :=
      (s.uncorrNamed_frame v l).step rfl (hv.step rfl (Keep.refl _ _))
    exact Keep.ite ((State.adaptTable_frame ..).step rfl hv') hv'
  refine ⟨_, hexec, ?_, ?_⟩
  · split
    · rw [State.adaptTable_lineAt, hlane]
      exact hjudged
    · rw [hlane]
      exact hjudged
  · rw [State.degradeNamed, if_pos hstarts] at hend
    rw [← State.berOf_eq hcw]
    exact Raises.of_keep hears (s.sdfJudged_frame l) rfl hend rfl

/-! Faults of fixed stages (R634, R638). -/

/-- A report touches the queue of tests, the tests under way and the count of merged reports alone (R625, R631). -/
theorem State.report_tst_eq {α : Type} (f : Tst → α)
    (hf : ∀ x q u m, f { x with queue := q, under := u, merged := m } = f x) (s : State) (kind : ElemKind) (unit loc source : Nat) :
    f (s.report kind unit loc source).tst = f s.tst := by
  have hstart : ∀ u : State, f u.startTests.tst = f u.tst := by
    intro u
    unfold State.startTests
    refine List.foldlRecOn (motive := fun v : State => f v.tst = f u.tst) _ _ rfl fun v hv kind _ => ?_
    dsimp only
    split
    · exact hv
    · split
      · exact hv
      · exact (hf v.tst _ _ _).trans hv
  unfold State.report
  extract_lets r
  split
  · exact hf s.tst _ _ _
  · exact (hstart _).trans (hf s.tst _ _ _)

theorem exec_fixedStageFault_sdf {s : State} {l : Nat} (ns : Nat) (hl : l < s.lines) :
    exec (.fixedStageFault .sdf l ns) s =
      .next (((s.boundCheck ((s.portOf l).getD l) 0 ns).report .stage l 0 srcTest).follow) :=
  congrArg Host.Outcome.next (if_pos (decide_eq_true hl))

/-- An interruption longer than 20 us counts and is raised as an event (R638). -/
theorem State.boundCheck_of_long (s : State) (port fault : Nat) {ns : Nat} (h : 20000 < ns) : s.boundCheck port fault ns =
    ({ s with tst := { s.tst with bound := s.tst.bound + 1 } }).raise evRelBoundExceeded
      [Word.nat port, Word.nat fault, Word.nat ns] := if_pos h

theorem fixedStageFault_sdf_completes (l ns : Nat) : Completes (.fixedStageFault .sdf l ns)
    (fun s => l < s.lines ∧ 20000 < ns ∧ s.hears)
    fun s t => t.tst.bound = s.tst.bound + 1 ∧
      Raises s t evRelBoundExceeded [Word.nat ((s.portOf l).getD l), Word.nat 0, Word.nat ns] := by
  rintro s ⟨hl, hlong, hears⟩
  refine ⟨_, exec_fixedStageFault_sdf ns hl, ?_, ?_⟩
  · have hfollow := (((s.boundCheck ((s.portOf l).getD l) 0 ns).report .stage l 0 srcTest).follow_frame).1 .tst rfl
    rw [← hfollow, State.report_tst_eq Tst.bound fun _ _ _ _ => rfl, State.boundCheck_of_long s _ _ hlong, State.raise_tst]
  · rw [State.boundCheck_of_long s _ _ hlong]
    have hcount : Keep 0x10000000000 s { s with tst := { s.tst with bound := s.tst.bound + 1 } } := Keep.set_tst rfl (Keep.refl _ _)
    exact Raises.of_keep hears hcount rfl (State.follow_keep (k0 := 0x3601b905b08) _ rfl
      (State.report_keep _ _ _ _ _ rfl (Keep.refl _ _))) rfl

/-- Settles O16, from one lemma for each of its three clauses. -/
theorem sdfPeriodsAndStageFaultsComplete : Obligations.SdfPeriodsAndStageFaultsComplete :=
  ⟨sdfPeriodEnd_completes, sdfPeriodEnd_completes_of_third, fixedStageFault_sdf_completes⟩

end Sys2Proof.Machine
end

section
/-! PROOFS. Codewords of a locked lane (O15, its first part; R198, R199, R203, R209 to R213). -/

namespace Sys2Proof.Machine

/-! Counts. -/

theorem State.statAt_bumpBy_other (s : State) (g j g' j' n : Nat) {i i' : Nat} (h : i' % 32 ≠ i % 32) :
    (s.bumpBy g j i n).statAt g' j' i' = s.statAt g' j' i' := by
  have hkey : statKey g' j' i' ≠ statKey g j i := by simp only [statKey]; omega
  exact tget_tmod_other s.stats (fun _ => ({} : Stat)) (fun x => x.add n) hkey

theorem State.statAt_modSdf (s : State) (l g j i : Nat) (f : Sdf → Sdf) : (s.modSdf l f).statAt g j i = s.statAt g j i := rfl

theorem State.lineAt_bumpBy (s : State) (g j i n l : Nat) : (s.bumpBy g j i n).lineAt l = s.lineAt l := rfl

/-! Inner codewords (R198, R199, R203). -/

/-- The block that the codewords of a lane are taken from: the first one brings the detector's (R203). -/
def State.softOf (s : State) (l : Nat) (ys after : List Int) : List SoftSymbol :=
  if (s.lineAt l).sdf.nextQ = 0 then s.detect l (ys ++ after) else (s.lineAt l).sdf.soft

/-- The codeword that is delivered next: hard bits and reliabilities. -/
def State.nextWord (s : State) (l : Nat) (ys after : List Int) : BitVec 144 × List Nat :=
  codewordOf (s.lineAt l).sdf.nextQ (s.parN nSdfCfg l 5) (s.softOf l ys after)

/-- The codeword is taken from its block and counted, before the decoder's choice. -/
def State.wordTaken (s : State) (l : Nat) (ys after : List Int) : State :=
  let s1 := (s.modSdf l fun y => { y with
    soft := s.softOf l ys after, nextQ := ((s.lineAt l).sdf.nextQ + 1) % 4 }).bump gSdf l 0
  if syndrome (s.nextWord l ys after).1 = 0 then s1.bump gSdf l 1 else s1

section
variable {s : State} {l : Nat} {ys after : List Int} (hl : l < s.lines) (hlock : (s.lineAt l).sdf.lock = true)
include hl hlock

theorem exec_innerCodewordDecode_of_some {k : Nat} {fs : List Nat} (hfs : fs ≠ [])
    (h : chase (s.nextWord l ys after).1 (s.nextWord l ys after).2 (s.parN nSdfCfg l 6) = some (k, fs)) :
    exec (.innerCodewordDecode l ys after) s = .next (
      (((s.wordTaken l ys after).bump gSdf l (if k = 0 then 2 else 3)).bumpBy gSdf l 5 fs.length).modSdf l fun y =>
        { y with payload := (toggle (s.nextWord l ys after).1 fs).setWidth 136 }) := by
  change execInnerCodewordDecode l ys after s = _
  have hempty : ¬ fs.isEmpty = true := by simpa using hfs
  unfold State.nextWord State.softOf at h
  rw [execInnerCodewordDecode, if_pos ⟨hl, hlock⟩]
  simp only [h, if_neg hempty]
  rfl

theorem exec_innerCodewordDecode_of_none
    (h : chase (s.nextWord l ys after).1 (s.nextWord l ys after).2 (s.parN nSdfCfg l 6) = none) :
    exec (.innerCodewordDecode l ys after) s = .next (
      ((s.wordTaken l ys after).bump gSdf l 4).modSdf l fun y =>
        { y with payload := (s.nextWord l ys after).1.setWidth 136 }) := by
  change execInnerCodewordDecode l ys after s = _
  unfold State.nextWord State.softOf at h
  rw [execInnerCodewordDecode, if_pos ⟨hl, hlock⟩]
  simp only [h]
  rfl

end

theorem State.wordTaken_lineAt (s : State) (l : Nat) (ys after : List Int) : (s.wordTaken l ys after).lineAt l =
    { s.lineAt l with sdf := { (s.lineAt l).sdf with
      soft := s.softOf l ys after, nextQ := ((s.lineAt l).sdf.nextQ + 1) % 4 } } := by
  unfold State.wordTaken
  extract_lets s1
  have hs1 : s1.lineAt l = { s.lineAt l with sdf := { (s.lineAt l).sdf with
      soft := s.softOf l ys after, nextQ := ((s.lineAt l).sdf.nextQ + 1) % 4 } } := by
    simp only [s1, State.lineAt_bump, State.lineAt_modSdf_self]
  split
  · rw [State.lineAt_bump, hs1]
  · exact hs1

theorem State.wordTaken_lineAt_other (s : State) {l j : Nat} (ys after : List Int) (hj : j ≠ l) :
    (s.wordTaken l ys after).lineAt j = s.lineAt j := by
  unfold State.wordTaken
  extract_lets s1
  have hs1 : s1.lineAt j = s.lineAt j := by rw [State.lineAt_bump, State.lineAt_modSdf_other _ hj]
  split
  · rw [State.lineAt_bump, hs1]
  · exact hs1

/-- A codeword counts, and as clean where its syndrome is zero. -/
theorem State.wordTaken_statAt (s : State) (l : Nat) (ys after : List Int) :
    (s.wordTaken l ys after).statAt gSdf l 0 = (s.statAt gSdf l 0).add 1 ∧
      ∀ i, 2 ≤ i → i < 32 → (s.wordTaken l ys after).statAt gSdf l i = s.statAt gSdf l i := by
  unfold State.wordTaken
  extract_lets s1
  have hself : s1.statAt gSdf l 0 = (s.statAt gSdf l 0).add 1 := State.statAt_bump_self ..
  have hother : ∀ i, 2 ≤ i → i < 32 → s1.statAt gSdf l i = s.statAt gSdf l i := fun i hi hlt =>
    State.statAt_bump_other _ gSdf l gSdf l (by omega)
  split
  · exact ⟨(s1.statAt_bump_other gSdf l gSdf l (by decide)).trans hself,
      fun i hi hlt => (s1.statAt_bump_other gSdf l gSdf l (by omega)).trans (hother i hi hlt)⟩
  · exact ⟨hself, hother⟩

theorem innerCodewordDecode_completes_of_some (l : Nat) (ys after : List Int) (w : BitVec 144 × List Nat) (k : Nat)
    (fs : List Nat) : Completes (.innerCodewordDecode l ys after)
    (fun s => l < s.lines ∧ (s.lineAt l).sdf.lock ∧ w = codewordOf (s.lineAt l).sdf.nextQ (s.parN nSdfCfg l 5)
        (if (s.lineAt l).sdf.nextQ = 0 then s.detect l (ys ++ after) else (s.lineAt l).sdf.soft) ∧
      chase w.1 w.2 (s.parN nSdfCfg l 6) = some (k, fs) ∧ fs ≠ [])
    fun s t => (t.lineAt l).sdf.payload = (toggle w.1 fs).setWidth 136 ∧ t.statAt gSdf l 0 = (s.statAt gSdf l 0).add 1 ∧
      t.statAt gSdf l (if k = 0 then 2 else 3) = (s.statAt gSdf l (if k = 0 then 2 else 3)).add 1 ∧
      t.statAt gSdf l 5 = (s.statAt gSdf l 5).add fs.length ∧ t.statAt gSdf l 4 = s.statAt gSdf l 4 ∧
      (t.lineAt l).sdf.nextQ = ((s.lineAt l).sdf.nextQ + 1) % 4 ∧ (∀ j, j ≠ l → t.lineAt j = s.lineAt j) := by
  rintro s ⟨hl, hlock, hw, hchase, hfs⟩
  obtain rfl : w = s.nextWord l ys after := hw
  refine ⟨_, exec_innerCodewordDecode_of_some hl hlock hfs hchase, ?_⟩
  obtain ⟨hcount, hstats⟩ := s.wordTaken_statAt l ys after
  have hlane := s.wordTaken_lineAt l ys after
  have hother := fun {j : Nat} (hj : j ≠ l) => s.wordTaken_lineAt_other ys after hj
  generalize hitem : (if k = 0 then 2 else 3) = item
  have hrange : 2 ≤ item ∧ item ≤ 3 := by split at hitem <;> omega
  generalize s.wordTaken l ys after = u at *
  generalize s.nextWord l ys after = w
  refine ⟨?_, ?_, ?_, ?_, ?_, ?_, fun j hj => ?_⟩
  · simp only [State.lineAt_modSdf_self]
  · rw [State.statAt_modSdf, State.statAt_bumpBy_other _ gSdf l gSdf l _ (by decide),
      State.statAt_bump_other _ gSdf l gSdf l (by omega), hcount]
  · rw [State.statAt_modSdf, State.statAt_bumpBy_other _ gSdf l gSdf l _ (by omega),
      State.statAt_bump_self, hstats item (by omega) (by omega)]
  · rw [State.statAt_modSdf, State.statAt_bumpBy_self,
      State.statAt_bump_other _ gSdf l gSdf l (by omega), hstats 5 (by decide) (by decide)]
  · rw [State.statAt_modSdf, State.statAt_bumpBy_other _ gSdf l gSdf l _ (by decide),
      State.statAt_bump_other _ gSdf l gSdf l (by omega),
      hstats 4 (by decide) (by decide)]
  · rw [State.lineAt_modSdf_self, State.lineAt_bumpBy, State.lineAt_bump, hlane]
  · rw [State.lineAt_modSdf_other _ hj, State.lineAt_bumpBy, State.lineAt_bump, hother hj]

theorem innerCodewordDecode_completes_of_none (l : Nat) (ys after : List Int) (w : BitVec 144 × List Nat) :
    Completes (.innerCodewordDecode l ys after)
    (fun s => l < s.lines ∧ (s.lineAt l).sdf.lock ∧ w = codewordOf (s.lineAt l).sdf.nextQ (s.parN nSdfCfg l 5)
        (if (s.lineAt l).sdf.nextQ = 0 then s.detect l (ys ++ after) else (s.lineAt l).sdf.soft) ∧
      chase w.1 w.2 (s.parN nSdfCfg l 6) = none)
    fun s t => (t.lineAt l).sdf.payload = w.1.setWidth 136 ∧ t.statAt gSdf l 0 = (s.statAt gSdf l 0).add 1 ∧
      t.statAt gSdf l 4 = (s.statAt gSdf l 4).add 1 ∧ t.statAt gSdf l 5 = s.statAt gSdf l 5 ∧
      (t.lineAt l).sdf.nextQ = ((s.lineAt l).sdf.nextQ + 1) % 4 ∧ (∀ j, j ≠ l → t.lineAt j = s.lineAt j) := by
  rintro s ⟨hl, hlock, hw, hchase⟩
  obtain rfl : w = s.nextWord l ys after := hw
  refine ⟨_, exec_innerCodewordDecode_of_none hl hlock hchase, ?_⟩
  obtain ⟨hcount, hstats⟩ := s.wordTaken_statAt l ys after
  have hlane := s.wordTaken_lineAt l ys after
  have hother := fun {j : Nat} (hj : j ≠ l) => s.wordTaken_lineAt_other ys after hj
  generalize s.wordTaken l ys after = u at *
  generalize s.nextWord l ys after = w
  refine ⟨?_, ?_, ?_, ?_, ?_, fun j hj => ?_⟩
  · simp only [State.lineAt_modSdf_self]
  · rw [State.statAt_modSdf, State.statAt_bump_other _ gSdf l gSdf l (by decide), hcount]
  · rw [State.statAt_modSdf, State.statAt_bump_self, hstats 4 (by decide) (by decide)]
  · rw [State.statAt_modSdf, State.statAt_bump_other _ gSdf l gSdf l (by decide), hstats 5 (by decide) (by decide)]
  · rw [State.lineAt_modSdf_self, State.lineAt_bump, hlane]
  · rw [State.lineAt_modSdf_other _ hj, State.lineAt_bump, hother hj]

/-! RS codewords (R209 to R213). -/

section
variable {s : State} {l : Nat} {r : List Nat} (hl : l < s.lines) (hlock : (s.lineAt l).sdf.lock = true)
include hl hlock

theorem exec_rsCodewordDecode_of_some {w : List Nat} {n : Nat} (hpos : 0 < n) (h : rsDecode r = some (w, n)) :
    exec (.rsCodewordDecode l r) s = .next (
      (((((s.bump gSdf l 8).bump gSdf l (12 + min n 15)).modSdf l fun x => { x with
        rsOut := if s.terminates l then rsEncode (w.take 514) else r, rsMark := false }).bump gSdf l 9).bumpBy gSdf l 11 n)) := by
  change execRsCodewordDecode l r s = _
  rw [execRsCodewordDecode, if_pos ⟨hl, hlock⟩]
  simp only [h, if_neg hpos.ne']

theorem exec_rsCodewordDecode_of_none (h : rsDecode r = none) : exec (.rsCodewordDecode l r) s = .next (
      ((s.bump gSdf l 8).bump gSdf l 10).modSdf l fun x =>
        { x with uncorr := x.uncorr + 1, rsOut := r, rsMark := s.terminates l }) := by
  change execRsCodewordDecode l r s = _
  rw [execRsCodewordDecode, if_pos ⟨hl, hlock⟩]
  simp only [h]

end

theorem rsCodewordDecode_completes_of_some (l : Nat) (r w : List Nat) (n : Nat) : Completes (.rsCodewordDecode l r)
    (fun s => l < s.lines ∧ (s.lineAt l).sdf.lock ∧ rsDecode r = some (w, n) ∧ 0 < n ∧ n ≤ 15)
    fun s t => t.statAt gSdf l 8 = (s.statAt gSdf l 8).add 1 ∧ t.statAt gSdf l 9 = (s.statAt gSdf l 9).add 1 ∧
      t.statAt gSdf l 10 = s.statAt gSdf l 10 ∧ t.statAt gSdf l 11 = (s.statAt gSdf l 11).add n ∧
      t.statAt gSdf l (12 + n) = (s.statAt gSdf l (12 + n)).add 1 ∧ (t.lineAt l).sdf.rsMark = false ∧
      (t.lineAt l).sdf.rsOut = (if s.terminates l then rsEncode (w.take 514) else r) ∧ OnlyChanges [.stats, .lnSdf] s t := by
  rintro s ⟨hl, hlock, hdecode, hpos, hn⟩
  have hexec := exec_rsCodewordDecode_of_some hl hlock hpos hdecode
  rw [Nat.min_eq_left hn] at hexec
  refine ⟨_, hexec, ?_, ?_, ?_, ?_, ?_, ?_, ?_, (execRsCodewordDecode_keep l r s hexec).among rfl⟩
  · rw [State.statAt_bumpBy_other _ gSdf l gSdf l _ (by decide), State.statAt_bump_other _ gSdf l gSdf l (by decide),
      State.statAt_modSdf, State.statAt_bump_other _ gSdf l gSdf l (by omega), State.statAt_bump_self]
  · rw [State.statAt_bumpBy_other _ gSdf l gSdf l _ (by decide), State.statAt_bump_self, State.statAt_modSdf,
      State.statAt_bump_other _ gSdf l gSdf l (by omega), State.statAt_bump_other _ gSdf l gSdf l (by decide)]
  · rw [State.statAt_bumpBy_other _ gSdf l gSdf l _ (by decide), State.statAt_bump_other _ gSdf l gSdf l (by decide),
      State.statAt_modSdf, State.statAt_bump_other _ gSdf l gSdf l (by omega), State.statAt_bump_other _ gSdf l gSdf l (by decide)]
  · rw [State.statAt_bumpBy_self, State.statAt_bump_other _ gSdf l gSdf l (by decide), State.statAt_modSdf,
      State.statAt_bump_other _ gSdf l gSdf l (by omega), State.statAt_bump_other _ gSdf l gSdf l (by decide)]
  · rw [State.statAt_bumpBy_other _ gSdf l gSdf l _ (by omega), State.statAt_bump_other _ gSdf l gSdf l (by omega),
      State.statAt_modSdf, State.statAt_bump_self, State.statAt_bump_other _ gSdf l gSdf l (by omega)]
  · rw [State.lineAt_bumpBy, State.lineAt_bump, State.lineAt_modSdf_self]
  · rw [State.lineAt_bumpBy, State.lineAt_bump, State.lineAt_modSdf_self]

theorem rsCodewordDecode_completes_of_none (l : Nat) (r : List Nat) : Completes (.rsCodewordDecode l r)
    (fun s => l < s.lines ∧ (s.lineAt l).sdf.lock ∧ rsDecode r = none)
    fun s t => t.statAt gSdf l 8 = (s.statAt gSdf l 8).add 1 ∧ t.statAt gSdf l 9 = s.statAt gSdf l 9 ∧
      t.statAt gSdf l 10 = (s.statAt gSdf l 10).add 1 ∧
      (t.lineAt l).sdf = { (s.lineAt l).sdf with
        uncorr := (s.lineAt l).sdf.uncorr + 1, rsOut := r, rsMark := s.terminates l } ∧ OnlyChanges [.stats, .lnSdf] s t := by
  rintro s ⟨hl, hlock, hdecode⟩
  have hexec := exec_rsCodewordDecode_of_none hl hlock hdecode
  refine ⟨_, hexec, ?_, ?_, ?_, ?_, (execRsCodewordDecode_keep l r s hexec).among rfl⟩
  · rw [State.statAt_modSdf, State.statAt_bump_other _ gSdf l gSdf l (by decide), State.statAt_bump_self]
  · rw [State.statAt_modSdf, State.statAt_bump_other _ gSdf l gSdf l (by decide), State.statAt_bump_other _ gSdf l gSdf l (by decide)]
  · rw [State.statAt_modSdf, State.statAt_bump_self, State.statAt_bump_other _ gSdf l gSdf l (by decide)]
  · rw [State.lineAt_modSdf_self, State.lineAt_bump, State.lineAt_bump]

end Sys2Proof.Machine
end

section
/-! PROOFS. Codeword lock and its loss (O15, its second part; R201 to R207). -/

namespace Sys2Proof.Machine

/-! The hunt (R201 to R204). -/

/-- What the four streams of a hunt test have found, with what they had found before. -/
def State.huntNow (s : State) (l : Nat) (hd : List (List (Bool × Bool))) (rl : List (List (Nat × Nat))) : List (Option Nat) :=
  (List.range 4).map fun k => ((s.lineAt l).sdf.found.getD k none).or
    (huntStream ((huntStreams hd rl).getD k []) ((s.lineAt l).sdf.huntOffsets k))

/-- Where nothing was found before, the test's own boundaries count. -/
theorem State.huntNow_eq {s : State} {l : Nat} {hd : List (List (Bool × Bool))} {rl : List (List (Nat × Nat))}
    {f : Nat → Option Nat} (hfound : (s.lineAt l).sdf.found = [none, none, none, none])
    (h : ∀ i, i < 4 → huntStream ((huntStreams hd rl).getD i []) ((s.lineAt l).sdf.huntOffsets i) = f i) :
    s.huntNow l hd rl = (List.range 4).map f := by
  refine List.map_congr_left fun i hi => ?_
  have hi4 := List.mem_range.1 hi
  have hnone : (s.lineAt l).sdf.found.getD i none = none := by
    rw [hfound]
    interval_cases i <;> rfl
  rw [hnone, Option.none_or, h i hi4]

/-- A lane in ACQUIRE, FAULT or TEST whose receiver is in FULL and sees light hunts until it has lock. -/
theorem State.hunting_of {s : State} {l : Nat} (hl : l < s.lines)
    (hstate : (s.lineAt l).state = .acquire ∨ (s.lineAt l).state = .fault ∨ (s.lineAt l).state = .test)
    (hpower : (s.lineAt l).lrx.power = .full) (hlos : (s.lineAt l).lrx.los = false) (hlock : (s.lineAt l).sdf.lock = false) :
    s.hunting l = true := by
  rcases hstate with h | h | h <;> simp [State.hunting, hl, h, hpower, hlos, hlock]

section
variable {s : State} {l : Nat} {hd : List (List (Bool × Bool))} {rl : List (List (Nat × Nat))} (k : List Int)
  (hhunt : s.hunting l = true)
include hhunt

/-- All four boundaries with consecutive starts lock the lane (R203). -/
theorem exec_huntTestDone_of_start {a b c d q : Nat} (hnow : s.huntNow l hd rl = [some a, some b, some c, some d])
    (hstart : blockStart [streamStart a 0, streamStart b 1, streamStart c 2, streamStart d 3] = some q) :
    exec (.huntTestDone l hd rl k) s = .next ((s.sdfLock l [a, b, c, d]
      [streamStart a 0, streamStart b 1, streamStart c 2, streamStart d 3] q k).follow) := by
  change execHuntTestDone l hd rl k s = _
  unfold State.huntNow at hnow
  rw [execHuntTestDone, if_pos hhunt]
  simp only [hnow]
  simp [hstart]

/-- Starts that are not consecutive are discarded (R203). -/
theorem exec_huntTestDone_of_mismatch {a b c d : Nat} (hnow : s.huntNow l hd rl = [some a, some b, some c, some d])
    (hstart : blockStart [streamStart a 0, streamStart b 1, streamStart c 2, streamStart d 3] = none) :
    exec (.huntTestDone l hd rl k) s = .next ((s.bump gSdf l 6).modSdf l fun y => { y with
      found := [none, none, none, none], huntMis := y.huntMis + 1, prev := none, huntOff := 0 }) := by
  change execHuntTestDone l hd rl k s = _
  unfold State.huntNow at hnow
  rw [execHuntTestDone, if_pos hhunt]
  simp only [hnow]
  simp [hstart]

/-- Without a boundary the hunt goes on (R202, R204). -/
theorem exec_huntTestDone_of_none (hnow : s.huntNow l hd rl = [none, none, none, none]) (hprev : (s.lineAt l).sdf.prev = none) :
    exec (.huntTestDone l hd rl k) s = .next (
      if 48 ≤ (s.lineAt l).sdf.huntOff then
        s.modSdf l fun y => { y with
          huntOff := 0, precode := if (s.lineAt l).sdf.preSet = 2 then !y.precode else y.precode
          found := [none, none, none, none] }
      else s.modSdf l fun y => { y with found := [none, none, none, none], huntOff := y.huntOff + 24 }) := by
  change execHuntTestDone l hd rl k s = _
  unfold State.huntNow at hnow
  rw [execHuntTestDone, if_pos hhunt]
  simp only [hnow]
  simp [hprev]

end

/-! Lock (R203, R206). -/

/-- The lane's decoder with the lock. -/
def State.sdfLocked (s : State) (l : Nat) (offs starts : List Nat) (first : Nat) : State :=
  s.modSdf l fun y => { y with
    lock := true, off := offs, start := starts, first := first, found := offs.map some, bad := [0, 0, 0, 0], prev := none
    nextQ := 0, soft := [] }

/-- The delays of a port's line lanes are taken (R190). -/
def State.skewsTaken (s : State) (l : Nat) (skews : List Int) : State :=
  match s.portOf l with
  | none => s
  | some p => ((s.portLines p).zip (relSkews skews)).foldl (fun s (k : Nat × Int) => s.modSdf k.1 fun y => { y with skew := k.2 }) s

theorem State.sdfLock_eq (s : State) (l : Nat) (offs starts : List Nat) (first : Nat) (skews : List Int) :
    s.sdfLock l offs starts first skews = ((((s.sdfLocked l offs starts first).skewsTaken l skews).raise evSdfLock
      [Word.nat l, precodeWord (s.lineAt l).sdf.precode, Word.nat (s.since (s.lineAt l).sdf.huntSince),
        Word.nat (s.lineAt l).sdf.huntMis]).lineTryUp l) := rfl

theorem State.skewsTaken_frame (s : State) (l : Nat) (skews : List Int) : Keep 0x400000 s (s.skewsTaken l skews) := by
  unfold State.skewsTaken
  split
  · exact Keep.refl _ _
  · exact Keep.foldl _ (fun u x hu => Keep.modSdf rfl hu) (Keep.refl _ _)

/-- Of a decoder the delay alone changes (R190). -/
theorem State.skewsTaken_sdf (s : State) (l : Nat) (skews : List Int) (j : Nat) :
    ∃ d, ((s.skewsTaken l skews).lineAt j).sdf = { (s.lineAt j).sdf with skew := d } := by
  unfold State.skewsTaken
  split
  · exact ⟨(s.lineAt j).sdf.skew, rfl⟩
  · refine List.foldlRecOn (motive := fun u : State => ∃ d, (u.lineAt j).sdf = { (s.lineAt j).sdf with skew := d }) _ _
      ⟨(s.lineAt j).sdf.skew, rfl⟩ fun u hu x _ => ?_
    obtain ⟨d, hd⟩ := hu
    rw [State.lineAt_modSdf]
    split
    · next h => exact ⟨x.2, by rw [← h, hd]⟩
    · exact ⟨d, hd⟩

/-- The decoder after the lock. -/
theorem State.sdfLock_follow_sdf (s : State) (l : Nat) (offs starts : List Nat) (first : Nat) (skews : List Int) :
    (((s.sdfLock l offs starts first skews).follow).lineAt l).sdf.lock = true ∧
      (((s.sdfLock l offs starts first skews).follow).lineAt l).sdf.off = offs ∧
      (((s.sdfLock l offs starts first skews).follow).lineAt l).sdf.first = first ∧
      (((s.sdfLock l offs starts first skews).follow).lineAt l).sdf.start = starts := by
  have hend : ∀ (u : State) (data : List Word), Keep 0x2603b9edb8a u (((u.raise evSdfLock data).lineTryUp l).follow) :=
    fun u data => State.follow_keep _ rfl (State.lineTryUp_keep _ l rfl (State.raise_keep _ _ _ rfl (Keep.refl _ _)))
  obtain ⟨d, hd⟩ := (s.sdfLocked l offs starts first).skewsTaken_sdf l skews l
  rw [State.sdfLock_eq, ← (hend _ _).1 .lnSdf rfl l, hd, State.sdfLocked, State.lineAt_modSdf_self]
  exact ⟨rfl, rfl, rfl, rfl⟩

theorem huntTestDone_completes_of_start (l : Nat) (hd : List (List (Bool × Bool))) (rl : List (List (Nat × Nat)))
    (a b c d : Nat) (k : List Int) (q : Nat) : Completes (.huntTestDone l hd rl k)
    (fun s => l < s.lines ∧ ((s.lineAt l).state = .acquire ∨ (s.lineAt l).state = .fault ∨ (s.lineAt l).state = .test) ∧
      (s.lineAt l).lrx.power = .full ∧ (s.lineAt l).lrx.los = false ∧ (s.lineAt l).sdf.lock = false ∧
      (s.lineAt l).sdf.found = [none, none, none, none] ∧
      (∀ i, i < 4 → huntStream ((huntStreams hd rl).getD i []) ((s.lineAt l).sdf.huntOffsets i) = some ([a, b, c, d].getD i 0)) ∧
      blockStart [streamStart a 0, streamStart b 1, streamStart c 2, streamStart d 3] = some q ∧ s.hears)
    fun s t => (t.lineAt l).sdf.lock = true ∧ (t.lineAt l).sdf.off = [a, b, c, d] ∧ (t.lineAt l).sdf.first = q ∧
      (t.lineAt l).sdf.start = [streamStart a 0, streamStart b 1, streamStart c 2, streamStart d 3] ∧
      Raises s t evSdfLock [Word.nat l, if (s.lineAt l).sdf.precode then 0 else 1,
        Word.nat (s.since (s.lineAt l).sdf.huntSince), Word.nat (s.lineAt l).sdf.huntMis] := by
  rintro s ⟨hl, hstate, hpower, hlos, hlock, hfound, hstream, hstart, hears⟩
  have hhunt := State.hunting_of hl hstate hpower hlos hlock
  have hnow : s.huntNow l hd rl = [some a, some b, some c, some d] :=
    State.huntNow_eq (f := fun i => some ([a, b, c, d].getD i 0)) hfound hstream
  refine ⟨_, exec_huntTestDone_of_start k hhunt hnow hstart, ?_⟩
  generalize [streamStart a 0, streamStart b 1, streamStart c 2, streamStart d 3] = starts
  obtain ⟨hlocked, hoff, hfirst, hstarts⟩ := s.sdfLock_follow_sdf l [a, b, c, d] starts q k
  refine ⟨hlocked, hoff, hfirst, hstarts, ?_⟩
  have hword : precodeWord (s.lineAt l).sdf.precode = if (s.lineAt l).sdf.precode then 0 else 1 := by
    cases (s.lineAt l).sdf.precode <;> rfl
  have hbefore : Keep 0x400000 s ((s.sdfLocked l [a, b, c, d] starts q).skewsTaken l k) :=
    (State.skewsTaken_frame ..).step rfl (Keep.modSdf rfl (Keep.refl _ _))
  rw [← hword, State.sdfLock_eq]
  exact Raises.of_keep hears hbefore rfl
    (State.follow_keep (k0 := 0x2603b9edb8a) _ rfl (State.lineTryUp_keep _ l rfl (Keep.refl _ _))) rfl

theorem huntTestDone_completes_of_mismatch (l : Nat) (hd : List (List (Bool × Bool))) (rl : List (List (Nat × Nat)))
    (a b c d : Nat) (k : List Int) : Completes (.huntTestDone l hd rl k)
    (fun s => l < s.lines ∧ ((s.lineAt l).state = .acquire ∨ (s.lineAt l).state = .fault ∨ (s.lineAt l).state = .test) ∧
      (s.lineAt l).lrx.power = .full ∧ (s.lineAt l).lrx.los = false ∧ (s.lineAt l).sdf.lock = false ∧
      (s.lineAt l).sdf.found = [none, none, none, none] ∧
      (∀ i, i < 4 → huntStream ((huntStreams hd rl).getD i []) ((s.lineAt l).sdf.huntOffsets i) = some ([a, b, c, d].getD i 0)) ∧
      blockStart [streamStart a 0, streamStart b 1, streamStart c 2, streamStart d 3] = none)
    fun s t => (t.lineAt l).sdf = { (s.lineAt l).sdf with prev := none, huntOff := 0, huntMis := (s.lineAt l).sdf.huntMis + 1 } ∧
      t.statAt gSdf l 6 = (s.statAt gSdf l 6).add 1 ∧ ∀ j, j ≠ l → t.lineAt j = s.lineAt j := by
  rintro s ⟨hl, hstate, hpower, hlos, hlock, hfound, hstream, hstart⟩
  have hhunt := State.hunting_of hl hstate hpower hlos hlock
  have hnow : s.huntNow l hd rl = [some a, some b, some c, some d] :=
    State.huntNow_eq (f := fun i => some ([a, b, c, d].getD i 0)) hfound hstream
  refine ⟨_, exec_huntTestDone_of_mismatch k hhunt hnow hstart, ?_, ?_, fun j hj => ?_⟩
  · rw [State.lineAt_modSdf_self, State.lineAt_bump, ← hfound]
  · rw [State.statAt_modSdf, State.statAt_bump_self]
  · rw [State.lineAt_modSdf_other _ hj, State.lineAt_bump]

theorem huntTestDone_completes_of_none (l : Nat) (hd : List (List (Bool × Bool))) (rl : List (List (Nat × Nat))) (k : List Int) :
    Completes (.huntTestDone l hd rl k)
    (fun s => l < s.lines ∧ ((s.lineAt l).state = .acquire ∨ (s.lineAt l).state = .fault ∨ (s.lineAt l).state = .test) ∧
      (s.lineAt l).lrx.power = .full ∧ (s.lineAt l).lrx.los = false ∧ (s.lineAt l).sdf.lock = false ∧
      (s.lineAt l).sdf.found = [none, none, none, none] ∧ (s.lineAt l).sdf.prev = none ∧
      (∀ i, i < 4 → huntStream ((huntStreams hd rl).getD i []) ((List.range 24).map ((s.lineAt l).sdf.huntOff + ·)) = none))
    fun s t => (t.lineAt l).sdf = (if 48 ≤ (s.lineAt l).sdf.huntOff
        then { (s.lineAt l).sdf with huntOff := 0, precode := ((s.lineAt l).sdf.preSet == 2) ^^ (s.lineAt l).sdf.precode }
        else { (s.lineAt l).sdf with huntOff := (s.lineAt l).sdf.huntOff + 24 }) ∧ OnlyChanges [.lnSdf] s t := by
  rintro s ⟨hl, hstate, hpower, hlos, hlock, hfound, hprev, hstream⟩
  have hhunt := State.hunting_of hl hstate hpower hlos hlock
  have hoffs : ∀ i, (s.lineAt l).sdf.huntOffsets i = (List.range 24).map ((s.lineAt l).sdf.huntOff + ·) := fun i => by
    rw [Sdf.huntOffsets, hprev]
  have hnow : s.huntNow l hd rl = [none, none, none, none] :=
    State.huntNow_eq (f := fun _ => none) hfound fun i hi => by rw [hoffs, hstream i hi]
  have hpre : (if (s.lineAt l).sdf.preSet = 2 then !(s.lineAt l).sdf.precode else (s.lineAt l).sdf.precode) =
      (((s.lineAt l).sdf.preSet == 2) ^^ (s.lineAt l).sdf.precode) := by
    by_cases h : (s.lineAt l).sdf.preSet = 2
    · simp [h]
    · simp [h, beq_eq_false_iff_ne.2 h]
  have hframe : ∀ f : Sdf → Sdf, OnlyChanges [.lnSdf] s (s.modSdf l f) := fun f =>
    Keep.among (m := 0x400000) (Keep.modSdf rfl (Keep.refl _ _)) rfl
  refine ⟨_, exec_huntTestDone_of_none k hhunt hnow hprev, ?_⟩
  split
  · refine ⟨?_, hframe _⟩
    rw [State.lineAt_modSdf_self, ← hfound, ← hpre]
  · refine ⟨?_, hframe _⟩
    rw [State.lineAt_modSdf_self, ← hfound]

/-! Loss of lock (R205, R207). -/

/-- The counts of windows in a row with fewer than 8 zero syndromes, with this one. -/
def State.badNow (s : State) (l : Nat) (z : List Nat) : List Nat :=
  (List.range 4).map fun k => if z.getD k 0 < 8 then (s.lineAt l).sdf.bad.getD k 0 + 1 else 0

theorem State.badNow_getD (s : State) (l : Nat) (z : List Nat) {k : Nat} (hk : k < 4) :
    (s.badNow l z).getD k 0 = if z.getD k 0 < 8 then (s.lineAt l).sdf.bad.getD k 0 + 1 else 0 := by
  simp [State.badNow, hk]

section
variable {s : State} {l : Nat} (z : List Nat) (hl : l < s.lines) (hlock : (s.lineAt l).sdf.lock = true)
include hl hlock

theorem exec_lockWindowEnd_of_none
    (h : ((List.range 4).find? fun k => decide (4 ≤ (s.badNow l z).getD k 0)) = none) :
    exec (.lockWindowEnd l z) s = .next (s.modSdf l fun x => { x with bad := s.badNow l z }) := by
  change execLockWindowEnd l z s = _
  unfold State.badNow at h
  rw [execLockWindowEnd, if_pos ⟨hl, hlock⟩]
  simp only [h]
  rfl

theorem exec_lockWindowEnd_of_some {k : Nat}
    (h : ((List.range 4).find? fun k => decide (4 ≤ (s.badNow l z).getD k 0)) = some k) :
    exec (.lockWindowEnd l z) s =
      .next (((s.modSdf l fun x => { x with bad := s.badNow l z }).sdfLost l k).follow) := by
  change execLockWindowEnd l z s = _
  unfold State.badNow at h
  rw [execLockWindowEnd, if_pos ⟨hl, hlock⟩]
  simp only [h]
  rfl

end

theorem lockWindowEnd_completes (l : Nat) (z : List Nat) : Completes (.lockWindowEnd l z)
    (fun s => l < s.lines ∧ (s.lineAt l).sdf.lock ∧ ∀ k, k < 4 → 8 ≤ z.getD k 0)
    fun s t => (t.lineAt l).sdf = { (s.lineAt l).sdf with bad := [0, 0, 0, 0] } ∧ OnlyChanges [.lnSdf] s t := by
  rintro s ⟨hl, hlock, hz⟩
  have hbad : s.badNow l z = [0, 0, 0, 0] :=
    List.map_congr_left (g := fun _ => 0) fun k hk => if_neg (Nat.not_lt.2 (hz k (List.mem_range.1 hk)))
  refine ⟨_, exec_lockWindowEnd_of_none z hl hlock (by rw [hbad]; decide), ?_⟩
  exact ⟨by rw [State.lineAt_modSdf_self, hbad], Keep.among (m := 0x400000) (Keep.modSdf rfl (Keep.refl _ _)) rfl⟩

/-- The fault of a port counts entries to its fault set alone. -/
theorem State.portFail_statAt (s : State) (p : Nat) (ls hs : List Nat) (ev g j : Nat) {i : Nat} (hline : i % 32 ≠ 0)
    (hhost : i % 32 ≠ 3) : (s.portFail p ls hs ev).statAt g j i = s.statAt g j i := by
  unfold State.portFail
  extract_lets x add count
  have hadd : ∀ u : State, (add u).statAt g j i = u.statAt g j i := fun _ => rfl
  have hside : ∀ (u : State) (host : Bool), (u.countFaultSide p host).statAt g j i = u.statAt g j i := by
    intro u host
    unfold State.countFaultSide
    extract_lets y
    split <;> split
    · rfl
    · exact State.statAt_bump_other _ gPort p g j (by omega)
    · rfl
    · exact State.statAt_bump_other _ gPort p g j (by omega)
  have hcount : ∀ u : State, (count u).statAt g j i = u.statAt g j i := by
    intro u
    dsimp only [count]
    split <;> split <;> simp only [hside]
  split
  · exact ((State.raise_frame ..).statAt_eq rfl ..).trans ((hcount _).trans (hadd _))
  · exact (hcount _).trans (hadd _)
  · rfl

theorem State.lineFault_statAt (s : State) (l ev g j : Nat) {i : Nat} (hline : i % 32 ≠ 0) (hhost : i % 32 ≠ 3) :
    (s.lineFault l ev).statAt g j i = s.statAt g j i := by
  unfold State.lineFault
  extract_lets was s1
  split
  · rfl
  · split
    · split
      · rfl
      · exact s1.portFail_statAt _ _ _ _ g j hline hhost
    · rfl

theorem State.acquire_warm_statAt (s : State) (l g j : Nat) {i : Nat} (h : i % 32 ≠ 0) :
    (s.acquire l false).statAt g j i = s.statAt g j i :=
  State.statAt_bump_other _ gLrx l g j (by omega)

theorem State.faultWarm_statAt (s : State) (l ev g j : Nat) {i : Nat} (hline : i % 32 ≠ 0) (hhost : i % 32 ≠ 3) :
    (s.faultWarm l ev).statAt g j i = s.statAt g j i := by
  have hfault := s.lineFault_statAt l ev g j hline hhost
  unfold State.faultWarm
  extract_lets s1
  split
  · exact (s1.acquire_warm_statAt l g j hline).trans hfault
  · exact hfault

/-- A warm acquisition takes the detector's setting and leaves the rest of the decoder (R197). -/
theorem State.acquire_warm_sdf (s : State) (l : Nat) : ((s.acquire l false).lineAt l).sdf =
    { (s.lineAt l).sdf with slicer := s.parN nSdfCfg l 2 == 1 } := by
  simp [State.acquire, State.lineAt_bump]

theorem State.faultWarm_sdf (s : State) (l ev : Nat) :
    ((s.faultWarm l ev).lineAt l).sdf.lock = (s.lineAt l).sdf.lock ∧
      ((s.faultWarm l ev).lineAt l).sdf.prev = (s.lineAt l).sdf.prev := by
  have hfault : (s.lineAt l).sdf = ((s.lineFault l ev).lineAt l).sdf :=
    (State.lineFault_keep s l ev rfl (Keep.refl 0x2c1e0300 s)).1 .lnSdf rfl l
  unfold State.faultWarm
  extract_lets s1
  split
  · rw [State.acquire_warm_sdf, hfault]
    exact ⟨rfl, rfl⟩
  · rw [hfault]
    exact ⟨rfl, rfl⟩

/-- The hunt of a lane that loses lock begins, the loss is counted and named (R205, R206). -/
def State.lockLossNamed (s : State) (l cause : Nat) : State :=
  ((s.huntStart l).bump gSdf l 7).raise evSdfLockLost [Word.nat l, Word.nat cause]

/-- The hunt is out of lock, and begins with the offsets that were in use (R206). -/
theorem State.lockLossNamed_sdf {s : State} {l : Nat} (cause : Nat) (hlock : (s.lineAt l).sdf.lock = true) :
    ((s.lockLossNamed l cause).lineAt l).sdf.lock = false ∧
      ((s.lockLossNamed l cause).lineAt l).sdf.prev = some (s.lineAt l).sdf.off := by
  rw [State.lockLossNamed, State.raise_lineAt_sdf, State.lineAt_bump]
  simp [State.huntStart, hlock]

theorem State.lockLossCounted_frame (s : State) (l : Nat) : Keep 0x420000 s ((s.huntStart l).bump gSdf l 7) :=
  Keep.bump rfl (s.huntStart_keep l rfl (Keep.refl _ _))

theorem State.lockLossNamed_frame (s : State) (l cause : Nat) : Keep 0x420300 s (s.lockLossNamed l cause) :=
  (State.raise_frame ..).step rfl ((s.lockLossCounted_frame l).step rfl (Keep.refl _ _))

theorem State.lockLossNamed_statAt (s : State) (l cause : Nat) :
    (s.lockLossNamed l cause).statAt gSdf l 7 = (s.statAt gSdf l 7).add 1 := by
  rw [State.lockLossNamed, (State.raise_frame ..).statAt_eq rfl, State.statAt_bump_self,
    (s.huntStart_keep l rfl (Keep.refl 0x400000 s)).statAt_eq rfl]

theorem State.lockLossNamed_raises {n : Nat} {s t : State} {l cause : Nat} (hears : s.hears)
    (ht : Keep n (s.lockLossNamed l cause) t) (hn : n.testBit 47 = false) :
    Raises s t evSdfLockLost [Word.nat l, Word.nat cause] :=
  Raises.of_keep hears (s.lockLossCounted_frame l) rfl ht hn

theorem State.sdfLost_of_up {s : State} {l : Nat} (cause : Nat) (hlock : (s.lineAt l).sdf.lock = true)
    (hup : (s.lineAt l).state = .up) : s.sdfLost l cause = (s.lockLossNamed l cause).faultWarm l evSdfLockLost := by
  rw [State.sdfLost, State.lockEnd, if_pos hlock, if_pos hup]
  rfl

/-- An UP lane that loses lock hunts again, and acquires warm from FAULT (R80, R205, R207). -/
theorem State.sdfLost_spec {s : State} {l : Nat} (cause : Nat) (hlive : s.live = true) (hlock : (s.lineAt l).sdf.lock = true)
    (hup : (s.lineAt l).state = .up) (hstuck : (s.lineAt l).stuck = false) (hears : s.hears) :
    (((s.sdfLost l cause).follow).lineAt l).sdf.lock = false ∧
      (((s.sdfLost l cause).follow).lineAt l).sdf.prev = some (s.lineAt l).sdf.off ∧
      (((s.sdfLost l cause).follow).lineAt l).state = .fault ∧ (((s.sdfLost l cause).follow).lineAt l).lrx.step = 1 ∧
      (((s.sdfLost l cause).follow).lineAt l).lrx.cold = false ∧
      ((s.sdfLost l cause).follow).statAt gSdf l 7 = (s.statAt gSdf l 7).add 1 ∧
      Raises s ((s.sdfLost l cause).follow) evSdfLockLost [Word.nat l, Word.nat cause] := by
  rw [State.sdfLost_of_up cause hlock hup]
  have hall : Keep 0x2603fde5b08 (s.lockLossNamed l cause) (((s.lockLossNamed l cause).faultWarm l evSdfLockLost).follow) :=
    State.follow_keep _ rfl (State.faultWarm_keep _ l evSdfLockLost rfl (Keep.refl _ _))
  have hraises := State.lockLossNamed_raises hears hall rfl
  obtain ⟨hfree, hprev⟩ := State.lockLossNamed_sdf cause hlock
  have hframe := s.lockLossNamed_frame l cause
  have hcounted := s.lockLossNamed_statAt l cause
  generalize s.lockLossNamed l cause = u at *
  obtain ⟨hstateEq, hstuckEq, -⟩ := hframe.1 .lnState rfl l
  obtain ⟨hfault, hstep, hcold⟩ := State.faultWarm_of_up evSdfLockLost ((hframe.live_eq rfl).trans hlive)
    (hstateEq.symm.trans hup) (hstuckEq.symm.trans hstuck)
  obtain ⟨hlockEq, hprevEq⟩ := u.faultWarm_sdf l evSdfLockLost
  have hfollow := (u.faultWarm l evSdfLockLost).follow_frame
  rw [← hfollow.1 .lnSdf rfl, hfollow.lineState_eq rfl, hfollow.lrx_eq rfl l Lrx.step fun _ => rfl,
    hfollow.lrx_eq rfl l Lrx.cold fun _ => rfl, hfollow.statAt_eq rfl]
  refine ⟨hlockEq.trans hfree, hprevEq.trans hprev, hfault, hstep, hcold, ?_, hraises⟩
  exact (u.faultWarm_statAt l evSdfLockLost gSdf l (by decide) (by decide)).trans hcounted

theorem lockWindowEnd_completes_of_fourth (l : Nat) (z : List Nat) (k : Nat) : Completes (.lockWindowEnd l z)
    (fun s => s.live ∧ l < s.lines ∧ (s.lineAt l).sdf.lock ∧ (s.lineAt l).state = .up ∧ (s.lineAt l).stuck = false ∧
      k < 4 ∧ z.getD k 0 < 8 ∧ 3 ≤ (s.lineAt l).sdf.bad.getD k 0 ∧ (∀ j, j < k → 8 ≤ z.getD j 0) ∧ s.hears)
    fun s t => (t.lineAt l).sdf.lock = false ∧ (t.lineAt l).sdf.prev = some (s.lineAt l).sdf.off ∧
      (t.lineAt l).state = .fault ∧ (t.lineAt l).lrx.step = 1 ∧ (t.lineAt l).lrx.cold = false ∧
      t.statAt gSdf l 7 = (s.statAt gSdf l 7).add 1 ∧ Raises s t evSdfLockLost [Word.nat l, Word.nat k] := by
  rintro s ⟨hlive, hl, hlock, hup, hstuck, hk, hlow, hthird, hbefore, hears⟩
  have hfind : ((List.range 4).find? fun k => decide (4 ≤ (s.badNow l z).getD k 0)) = some k := by
    refine List.find?_range_eq_some.2 ⟨?_, List.mem_range.2 hk, fun j hj => ?_⟩
    · rw [s.badNow_getD l z hk, if_pos hlow]
      exact decide_eq_true (by omega)
    · rw [s.badNow_getD l z (hj.trans hk), if_neg (Nat.not_lt.2 (hbefore j hj))]
      rfl
  refine ⟨_, exec_lockWindowEnd_of_some z hl hlock hfind, ?_⟩
  have hline := s.lineAt_modSdf_self l fun x => { x with bad := s.badNow l z }
  have hspec := State.sdfLost_spec (s := s.modSdf l fun x => { x with bad := s.badNow l z }) (l := l) k hlive
    (by rw [hline]; exact hlock) (by rw [hline]; exact hup) (by rw [hline]; exact hstuck) hears
  rw [hline, State.statAt_modSdf] at hspec
  exact hspec

/-- Settles O15: the codewords of a locked lane, and its lock found and lost, from one lemma for each clause. -/
theorem codewordsAndLockComplete : Obligations.CodewordsAndLockComplete :=
  ⟨⟨innerCodewordDecode_completes_of_some, innerCodewordDecode_completes_of_none, rsCodewordDecode_completes_of_some,
      rsCodewordDecode_completes_of_none⟩,
    huntTestDone_completes_of_start, huntTestDone_completes_of_mismatch, huntTestDone_completes_of_none, lockWindowEnd_completes,
    lockWindowEnd_completes_of_fourth⟩

end Sys2Proof.Machine
end

section
/-! PROOFS. The bounds of a transmitter's settings (O18; R226, R229): a SET that would break one is refused whole, and its refusal leaves
the parameters and the lanes. -/

namespace Sys2Proof.Machine

/-! A reply leaves the table of the lanes. -/

section
variable (s : State)

theorem State.pmcEvent_line (ev n : Nat) : (s.pmcEvent ev n).line = s.line := by
  obtain ⟨e, p, h⟩ := s.pmcEvent_eq ev n
  rw [h]

theorem State.sendVec_line (r : Requester) (v : Nat) : (s.sendVec r v).line = s.line := by
  unfold State.sendVec
  dsimp only
  split
  · rfl
  · exact State.pmcEvent_line ..

theorem State.enterPending_line (r : Requester) (src : Nat) : (s.enterPending r src).line = s.line := by
  unfold State.enterPending
  split
  · split <;> rfl
  · extract_lets v urgent s1 s2
    have hs2 : s2.line = s.line := by
      dsimp only [s2]
      split <;> rfl
    split
    · split
      · rfl
      · split
        · exact s1.sendVec_line r v
        · rfl
    · split <;> exact hs2

theorem State.edge_line (r : Requester) (src : Nat) : (s.edge r src).line = s.line := by
  unfold State.edge
  split
  · split
    · exact State.enterPending_line ..
    · rfl
    · rfl
    · rfl
  · rfl

theorem State.complete_line (m : Sentence) (code detail : Nat) (o : Obj) (ws : List Word) (k : Nat) :
    (s.complete m code detail o ws k).line = s.line := by
  unfold State.complete
  extract_lets s1 mb s2
  have hs2 : s2.line = s.line := rfl
  split
  · exact hs2
  · exact (s2.edge_line m.req m.mbx).trans hs2

end

/-- A command whose own check, which looks at no mailbox, event or performance counter, refuses it leaves the parameters and the lanes. -/
theorem refused_whole {c : Sentence → Instr} {k : CmdSpec} {check : State → Sentence → List Word → Option Refuse}
    {act : State → Sentence → List Word → State × Reply} {echo : State → Nat → List Word} {m : Sentence} {s : State} {code detail : Nat}
    (hexec : exec (c m) s = .next (submit k.verb k.noun (process k check act echo) m s)) (htakes : s.Takes k m)
    (hbegun : ∀ u b e p, check { u with mb := b, ev := e, pmc := p } m (payloadOf m) = check u m (payloadOf m))
    (hcheck : check s m (payloadOf m) = some { code := code, detail := detail }) :
    ∃ t, exec (c m) s = .next t ∧ Replied s t m code detail ∧ t.params = s.params ∧ t.line = s.line := by
  have hrefused := (s.begun_congr k.verb k.noun m (check · m (payloadOf m)) hbegun).trans hcheck
  obtain ⟨o, hsubmit⟩ := submit_of_refused (act := act) (echo := echo) htakes hrefused
  refine ⟨_, hexec.trans (congrArg Host.Outcome.next hsubmit), State.complete_replied code detail o [] 0 rfl, ?_, ?_⟩
  · exact ((State.complete_frame ..).1 .params rfl).symm.trans ((s.begun_frame ..).1 .params rfl).symm
  · exact (State.complete_line ..).trans (s.begun_congr _ _ _ State.line fun _ _ _ _ => rfl)

/-- A SET of levels, taps or table that would disorder the levels or could clip a sample meets its check. -/
theorem checkLtxCfg_of_broken {m : Sentence} {s : State} {r : List Nat} {cs : List ParamChange}
    (hparse : parseMask (paramRows nLtxCfg) m.len.toNat (payloadOf m) = .ok r cs) (hshape : ltxShape (payloadOf m) = true)
    (hbroken : levelsOk (ltxValues s m.inst.toNat ltxLevels 4 cs) = false ∨
      driveOk (ltxValues s m.inst.toNat ltxLevels 4 cs) (ltxValues s m.inst.toNat ltxTaps 9 cs)
        (ltxValues s m.inst.toNat ltxTable 64 cs) (s.parN nPltCfg m.inst.toNat pltDepth) = false) :
    checkLtxCfg s m (payloadOf m) = some { code := cResource, detail := 1 } := by
  have hchanges : maskChanges nLtxCfg m (payloadOf m) = cs := by rw [maskChanges, hparse]
  have hrange : maskRange nLtxCfg m (payloadOf m) = none := by rw [maskRange, hparse]
  unfold checkLtxCfg
  dsimp only
  rw [hchanges, hrange, Option.none_or, if_pos]
  refine ⟨hshape, ?_⟩
  rcases hbroken with h | h <;> simp [h]

/-- A SET of the pilot depth under which a sample could clip meets its check. -/
theorem checkPltCfg_of_broken {m : Sentence} {s : State} {r : List Nat} {cs : List ParamChange}
    (hparse : parseMask (paramRows nPltCfg) m.len.toNat (payloadOf m) = .ok r cs)
    (hdepth : (maskSelected nPltCfg (payloadOf m)).contains pltDepth = true)
    (hbroken : driveOk (ltxValues s m.inst.toNat ltxLevels 4 []) (ltxValues s m.inst.toNat ltxTaps 9 [])
      (ltxValues s m.inst.toNat ltxTable 64 []) (changed s nPltCfg m.inst.toNat pltDepth cs).toNat = false) :
    checkPltCfg s m (payloadOf m) = some { code := cResource, detail := 1 } := by
  have hchanges : maskChanges nPltCfg m (payloadOf m) = cs := by rw [maskChanges, hparse]
  have hrange : maskRange nPltCfg m (payloadOf m) = none := by rw [maskRange, hparse]
  unfold checkPltCfg
  dsimp only
  rw [hchanges, hrange, Option.none_or, if_pos]
  exact ⟨hdepth, by simp [hbroken]⟩

/-- Settles O18: each of the two SETs meets its own check, whose refusal leaves parameters and lanes. -/
theorem ltxBoundsAreKept : Obligations.LtxBoundsAreKept :=
  ⟨fun _ _ _ _ htakes hparse hshape hbroken => refused_whole (c := .setLtxCfg) rfl htakes
      (fun _ _ _ _ => rfl) (checkLtxCfg_of_broken hparse hshape hbroken),
    fun _ _ _ _ htakes hparse hdepth hbroken => refused_whole (c := .setPltCfg) rfl htakes
      (fun _ _ _ _ => rfl) (checkPltCfg_of_broken hparse hdepth hbroken)⟩

end Sys2Proof.Machine
end

section
/-! PROOFS. What following a change does to a line transmitter (O17, its first part; R234 to R238): its enable sequence, its drive and
its content move, the rest of it stays. -/

namespace Sys2Proof.Machine

/-- A transmitter after the table has called for ON or for OFF at the time `now` (R235, R237, R238). -/
def Ltx.followed (x : Ltx) (want : Bool) (now : BitVec 64) (cause : TxCause) : Ltx :=
  match want, x.state with
  | true, .off => if x.enStep = 0 ∧ !x.retry then { x with enStep := 1, since := now, attempts := 0 } else x
  | true, .rampDown => { x with state := .rampUp, since := now, fast := false }
  | false, .off => { x with enStep := 0, retry := false }
  | false, .on | false, .rampUp => { x with state := .rampDown, enStep := 0, cause := cause }
  | _, _ => x

/-- What following leaves of a transmitter: all but its drive, its enable sequence and its content. -/
def Ltx.kept (x : Ltx) : Ltx :=
  { x with state := .off, enStep := 0, forced := false, content := .none, since := 0, attempts := 0, retry := false, cause := .laneState,
           fast := false }

theorem Ltx.followed_kept (x : Ltx) (want : Bool) (now : BitVec 64) (cause : TxCause) : (x.followed want now cause).kept = x.kept := by
  unfold Ltx.followed
  split
  · split <;> rfl
  all_goals rfl

/-- A drive that is OFF stays OFF: an enable begins with its sequence. -/
theorem Ltx.followed_off {x : Ltx} (h : x.state = .off) (want : Bool) (now : BitVec 64) (cause : TxCause) :
    (x.followed want now cause).state = .off := by
  unfold Ltx.followed
  cases want
  · simp only [h]
  · simp only [h]
    split
    · rfl
    · exact h

/-- A drive that is ON or ramping up, as the table calls for, stays as it is. -/
theorem Ltx.followed_wanted {x : Ltx} (h : x.state = .rampUp ∨ x.state = .on) (now : BitVec 64) (cause : TxCause) :
    x.followed true now cause = x := by
  unfold Ltx.followed
  rcases h with h | h <;> simp only [h]

theorem State.endEnable_ltx (s : State) (l : Nat) (c : TxCause) :
    ((s.endEnable l c).lineAt l).ltx = { (s.lineAt l).ltx with enStep := 0, retry := false } := by
  unfold State.endEnable
  split
  · rw [State.raise_lineAt_ltx, ← (State.opticsStop_frame ..).1 .lnLtx rfl l, State.lineAt_modLtx_self]
  · next h => rw [State.lineAt_modLtx_self, ← not_not.1 h]

theorem State.syncTxState_ltx (s : State) (l : Nat) (c : TxCause) :
    ((s.syncTxState l c).lineAt l).ltx = (s.lineAt l).ltx.followed (s.txWant l) s.tku.bcnt c := by
  unfold State.syncTxState Ltx.followed
  dsimp only
  cases s.txWant l <;> cases hstate : (s.lineAt l).ltx.state
  case false.off => simpa [hstate] using s.endEnable_ltx l c
  case true.off =>
    rw [if_pos rfl]
    dsimp only
    split
    · rw [State.lineAt_modLtx_self, hstate]
    · rfl
  all_goals simp

/-- The transmitter of lane `l` once its lane has followed: what it was, moved as the table calls, with a content that is none while its
drive is OFF. -/
theorem State.syncTx_ltx (s : State) (l : Nat) (c : TxCause) : ∃ y : Ltx, ∃ n, ((s.syncTx l c).lineAt l).ltx = { y with content := n } ∧
    y.kept = (s.lineAt l).ltx.kept ∧ ((s.lineAt l).ltx.state = .off → y.state = .off) ∧ (y.state = .off → n = .none) := by
  unfold State.syncTx
  extract_lets s0 s1
  have hs0 : (s0.lineAt l).ltx.kept = (s.lineAt l).ltx.kept ∧ (s0.lineAt l).ltx.state = (s.lineAt l).ltx.state := by
    dsimp only [s0]
    split
    · exact ⟨rfl, rfl⟩
    · rw [State.lineAt_modLtx_self]
      exact ⟨rfl, rfl⟩
  have hs1 : (s1.lineAt l).ltx.kept = (s0.lineAt l).ltx.kept ∧ ((s0.lineAt l).ltx.state = .off → (s1.lineAt l).ltx.state = .off) := by
    dsimp only [s1]
    split
    · exact ⟨rfl, id⟩
    · rw [State.syncTxState_ltx]
      exact ⟨Ltx.followed_kept .., fun hoff => Ltx.followed_off hoff ..⟩
  refine ⟨(s1.lineAt l).ltx, s1.txCarries l, ?_, hs1.1.trans hs0.1, fun hoff => hs1.2 (hs0.2.trans hoff), fun hoff => ?_⟩
  · rw [State.lineAt_modLtx_self]
  · exact if_pos hoff

/-- Another lane's transmitter does not move. -/
theorem State.syncTx_ltx_other (s : State) {l k : Nat} (c : TxCause) (hk : k ≠ l) :
    ((s.syncTx l c).lineAt k).ltx = (s.lineAt k).ltx := by
  unfold State.syncTx
  extract_lets s0 s1
  have hmod : ∀ (u : State) (f : Ltx → Ltx), (u.modLtx l f).lineAt k = u.lineAt k := fun u f => by
    rw [State.lineAt_modLtx, if_neg hk]
  have hs0 : s0.lineAt k = s.lineAt k := by
    dsimp only [s0]
    split
    · rfl
    · exact hmod s _
  have hs1 : (s1.lineAt k).ltx = (s0.lineAt k).ltx := by
    dsimp only [s1]
    split
    · rfl
    · exact (s0.syncTxState_txOf l c).1 k hk
  rw [hmod, hs1, hs0]

/-- What the receivers' and transmitters' turns keep of `s` holds of a state from which all that follows touches neither transmitters nor
the pilot channel. -/
theorem State.follow_turns {P : State → Prop} {s : State} (h : P s) (hrx : ∀ u l, P u → P (u.syncRx l))
    (htx : ∀ u l, P u → P (u.syncTx l .laneState)) : ∃ u, P u ∧ Keep 0x2601a105b08 u s.follow := by
  refine ⟨(List.range s.lines).foldl (fun s l => (s.syncRx l).syncTx l .laneState) s,
    List.foldlRecOn (motive := P) _ _ h fun u hu l _ => htx _ l (hrx u l hu), State.calCheck_keep _ rfl ?_⟩
  unfold State.sync State.syncWith
  extract_lets s1 s2
  refine State.settle_keep _ rfl (Keep.foldl _ (fun u g hu => State.syncGroup_keep u g rfl hu) ?_)
  exact State.opticsCheck_keep _ rfl (Keep.foldl _ (fun u h hu => State.syncHost_keep u h rfl hu) (Keep.refl _ _))

/-- A property of lane `k`'s transmitter that its own turn keeps outlasts all that follows. -/
theorem State.follow_ltx_of_turn {P : Ltx → Prop} {k : Nat} {s : State} (h : P (s.lineAt k).ltx)
    (hturn : ∀ (u : State) (l : Nat), P (u.lineAt l).ltx → P ((u.syncTx l .laneState).lineAt l).ltx) : P (s.follow.lineAt k).ltx := by
  obtain ⟨u, hu, hrest⟩ := State.follow_turns (P := fun u => P (u.lineAt k).ltx) h
    (fun u l hu => by rwa [← (u.syncRx_frame l).1 .lnLtx rfl k]) fun u l hu => by
      by_cases hk : k = l
      · subst hk
        exact hturn u k hu
      · rwa [State.syncTx_ltx_other _ _ hk]
  rwa [← hrest.1 .lnLtx rfl k]

/-- Following moves no more of a transmitter than its drive, its enable sequence and its content. -/
theorem State.follow_kept (s : State) (k : Nat) : (s.follow.lineAt k).ltx.kept = (s.lineAt k).ltx.kept := by
  refine State.follow_ltx_of_turn (P := fun x => x.kept = (s.lineAt k).ltx.kept) rfl fun u l hu => ?_
  obtain ⟨y, n, hy, hkept, -⟩ := u.syncTx_ltx l .laneState
  rw [hy]
  exact hkept.trans hu

/-- A field of a transmitter that following does not move. -/
theorem State.follow_ltx_eq {α : Type} (s : State) (k : Nat) (f : Ltx → α) (hf : ∀ x : Ltx, f x.kept = f x) :
    f (s.follow.lineAt k).ltx = f (s.lineAt k).ltx := by
  rw [← hf, s.follow_kept, hf]

/-- A transmitter that is OFF and carries nothing does so when all has followed. -/
theorem State.follow_off {s : State} {k : Nat} (h : (s.lineAt k).ltx.state = .off ∧ (s.lineAt k).ltx.content = .none) :
    (s.follow.lineAt k).ltx.state = .off ∧ (s.follow.lineAt k).ltx.content = .none := by
  refine State.follow_ltx_of_turn (P := fun x => x.state = .off ∧ x.content = .none) h fun u l ⟨hoff, _⟩ => ?_
  obtain ⟨y, n, hy, -, hstate, hcontent⟩ := u.syncTx_ltx l .laneState
  rw [hy]
  exact ⟨hstate hoff, hcontent (hstate hoff)⟩

/-! A transmitter that the table of R234 calls for. -/

/-- What the table calls for goes by the device, the lane's state and port, and whether the transmitter is forced OFF or dead. -/
theorem Keep.txWant_eq {m k : Nat} {s t : State} (h : Keep m s t) (hm : m.land 0x2005002C = 0)
    (hforced : (t.lineAt k).ltx.forced = (s.lineAt k).ltx.forced) (hdead : (t.lineAt k).ltx.dead = (s.lineAt k).ltx.dead) :
    t.txWant k = s.txWant k := by
  have hmode : s.dev.mode = t.dev.mode := (h.1 .devMode (testBit_of_land_zero hm rfl)).1
  have hrest : s.dev.rest = t.dev.rest := h.1 .devRest (testBit_of_land_zero hm rfl)
  have hpowered : s.dev.powered = t.dev.powered := (congrArg Dev.powered hrest :)
  have hrefclk : s.dev.refclk = t.dev.refclk := (congrArg Dev.refclk hrest :)
  have hfuses : s.fuses = t.fuses := h.1 .fuses (testBit_of_land_zero hm rfl)
  have hparams : s.params = t.params := h.1 .params (testBit_of_land_zero hm rfl)
  have hstate := h.lineState_eq (testBit_of_land_zero hm rfl) k
  have hport := h.portAt_eq (testBit_of_land_zero hm rfl)
  simp only [State.txWant, State.txTable, State.live, State.portOf, State.slots, State.lines, State.portLines, State.parN, State.param,
    hmode, hpowered, hrefclk, hfuses, hparams, hstate, hport, hforced, hdead]

/-- Lane `k`'s transmitter is called for, its drive is in state `d` and its enable sequence at step `n`. -/
structure State.Drives (s : State) (k : Nat) (d : TxState) (n : Nat) : Prop where
  want : s.txWant k = true
  state : (s.lineAt k).ltx.state = d
  step : (s.lineAt k).ltx.enStep = n

theorem State.Drives.of_keep {m k n : Nat} {d : TxState} {s t : State} (h : s.Drives k d n) (hkeep : Keep m s t)
    (hm : m.land 0x2005002C = 0) (hltx : (t.lineAt k).ltx = (s.lineAt k).ltx) : t.Drives k d n where
  want := (hkeep.txWant_eq hm (congrArg Ltx.forced hltx) (congrArg Ltx.dead hltx)).trans h.want
  state := hltx ▸ h.state
  step := hltx ▸ h.step

theorem State.forces_of_txWant {s : State} {k : Nat} (h : s.txWant k = true) : s.forces := by
  simp only [State.txWant, Bool.and_eq_true, Bool.or_eq_true, decide_eq_true_eq] at h
  obtain ⟨⟨⟨⟨-, hforces⟩, -⟩, -⟩, -⟩ := h
  exact hforces

theorem State.Drives.syncTx {k n : Nat} {d : TxState} {s : State} (h : s.Drives k d n) (hd : d = .rampUp ∨ d = .on) (l : Nat)
    (c : TxCause) : (s.syncTx l c).Drives k d n := by
  by_cases hk : k = l
  · subst hk
    have hltx : ((s.syncTx k c).lineAt k).ltx = { (s.lineAt k).ltx with content := (s.syncTxState k c).txCarries k } := by
      rw [State.syncTx_of_forces (State.forces_of_txWant h.want), State.lineAt_modLtx_self, State.syncTxState_ltx, h.want,
        Ltx.followed_wanted (h.state ▸ hd)]
    refine ⟨?_, by rw [hltx]; exact h.state, by rw [hltx]; exact h.step⟩
    exact ((s.syncTx_frame k c).txWant_eq rfl (by rw [hltx]) (by rw [hltx])).trans h.want
  · exact h.of_keep (s.syncTx_frame l c) rfl (s.syncTx_ltx_other c hk)

/-- A drive that is ON or ramping up stays so while the table calls for it. -/
theorem State.Drives.follow {k n : Nat} {d : TxState} {s : State} (h : s.Drives k d n) (hd : d = .rampUp ∨ d = .on) :
    (s.follow.lineAt k).ltx.state = d ∧ (s.follow.lineAt k).ltx.enStep = n := by
  obtain ⟨u, hu, hrest⟩ := State.follow_turns (P := fun u => u.Drives k d n) h
    (fun u l hu => hu.of_keep (u.syncRx_frame l) rfl ((u.syncRx_frame l).1 .lnLtx rfl k).symm) fun u l hu => hu.syncTx hd l .laneState
  rw [← hrest.1 .lnLtx rfl k]
  exact ⟨hu.state, hu.step⟩

end Sys2Proof.Machine
end

section
/-! PROOFS. The enable sequence of a line transmitter and its reverse (O17, its second part; R235 to R238, R578). -/

namespace Sys2Proof.Machine

/-! The optics of a lane (R578). -/

/-- A step of a lane's optics ends STARTING or STOPPING, or leaves them. -/
theorem State.opticsStep_optics (s : State) (l k : Nat) : ((s.opticsStep l).lineAt k).optics = (s.lineAt k).optics ∨
    ((s.lineAt k).optics = .starting ∧ ((s.opticsStep l).lineAt k).optics = .ready) ∨
    ((s.lineAt k).optics = .stopping ∧ ((s.opticsStep l).lineAt k).optics = .idle) := by
  have hmod : ∀ o : Optics, ((s.modLine l fun x => { x with optics := o }).lineAt k).optics =
      if k = l then o else (s.lineAt k).optics := by
    intro o
    rw [State.lineAt_modLine]
    split <;> rfl
  unfold State.opticsStep
  dsimp only
  by_cases hk : k = l
  · subst hk
    split
    · next hstarting =>
      split
      · exact .inr (.inl ⟨hstarting, by rw [State.raise_lineAt_optics, hmod, if_pos rfl]⟩)
      · exact .inl rfl
    · next hstopping =>
      split
      · exact .inr (.inr ⟨hstopping, by rw [hmod, if_pos rfl]⟩)
      · exact .inl rfl
    · exact .inl rfl
  · left
    split
    · split
      · rw [State.raise_lineAt_optics, hmod, if_neg hk]
      · rfl
    · split
      · rw [hmod, if_neg hk]
      · rfl
    · rfl

/-- Optics that start or stop end what they began and go no further. -/
theorem State.opticsCheck_optics {s : State} {k : Nat} {a b : Optics} (hab : (a = .starting ∧ b = .ready) ∨ (a = .stopping ∧ b = .idle))
    (h : (s.lineAt k).optics = a) : (s.opticsCheck.lineAt k).optics = a ∨ (s.opticsCheck.lineAt k).optics = b := by
  have hloops : Keep 0x2000000000 s s.syncLoops := State.syncLoops_keep _ rfl (Keep.refl _ _)
  refine List.foldlRecOn (motive := fun u : State => (u.lineAt k).optics = a ∨ (u.lineAt k).optics = b) _ _
    (.inl ((hloops.1 .lnOptics rfl k).1.symm.trans h)) fun u hu l _ => ?_
  rcases u.opticsStep_optics l k with hsame | ⟨hwas, hnow⟩ | ⟨hwas, hnow⟩
  · rwa [hsame]
  all_goals
    rw [hnow]
    rw [hwas] at hu
    rcases hab with ⟨rfl, rfl⟩ | ⟨rfl, rfl⟩ <;> simp_all

theorem Keep.optics_eq {m : Nat} {s t : State} (h : Keep m s t) (hm : m.testBit 25 = false) (l : Nat) :
    (t.lineAt l).optics = (s.lineAt l).optics := (h.1 .lnOptics hm l).1.symm

theorem State.opticsAsk_frame (s : State) (l : Nat) : Keep 0x2002000300 s (s.opticsAsk l) := s.opticsAsk_keep l rfl (Keep.refl _ _)

/-- Optics that are asked for start (R578). -/
theorem State.opticsAsk_of_idle {s : State} {l : Nat} (h : (s.lineAt l).optics = .idle) :
    ((s.opticsAsk l).lineAt l).optics = .starting ∨ ((s.opticsAsk l).lineAt l).optics = .ready := by
  unfold State.opticsAsk
  rw [h]
  extract_lets s1
  have hs1 : (s1.lineAt l).optics = .starting := by
    dsimp only [s1]
    rw [State.lineAt_modLine_self]
  refine State.opticsCheck_optics (.inl ⟨rfl, rfl⟩) ((Keep.optics_eq (m := 0x2000000000) ?_ rfl l).trans hs1)
  exact Keep.foldl _ (fun u i hu => Keep.ite (Keep.modLoop rfl (State.setTarget_keep _ _ _ rfl hu)) hu) (Keep.refl _ _)

/-- Optics that are given up stop (R578). -/
theorem State.opticsStop_of_ready {s : State} {l : Nat} (h : (s.lineAt l).optics = .ready) :
    ((s.opticsStop l).lineAt l).optics = .stopping ∨ ((s.opticsStop l).lineAt l).optics = .idle := by
  unfold State.opticsStop
  rw [h]
  extract_lets s1 s2
  have hs1 : (s1.lineAt l).optics = .stopping := by
    dsimp only [s1]
    rw [State.lineAt_modLine_self]
  have hs2 : Keep 0x2000000000 s1 s2 :=
    Keep.foldl _ (fun u i hu => Keep.modLoop rfl hu) (State.syncLoops_keep _ rfl (Keep.refl _ _))
  refine State.opticsCheck_optics (.inr ⟨rfl, rfl⟩) ((Keep.optics_eq (m := 0x2000000000) ?_ rfl l).trans hs1)
  exact Keep.foldl _ (fun u c hu => Keep.ite hu (State.setTarget_keep _ _ _ rfl hu)) hs2

/-! The enable sequence (R235, R236). -/

theorem dacSettled_completes (l : Nat) : Completes (.dacSettled l)
    (fun s => (s.lineAt l).ltx.enStep = 1 ∧ (s.lineAt l).ltx.state = .off ∧ (s.lineAt l).optics = .idle)
    fun _ t => (t.lineAt l).ltx.enStep = 3 ∧ ((t.lineAt l).optics = .starting ∨ (t.lineAt l).optics = .ready) := by
  rintro s ⟨hstep, hoff, hidle⟩
  refine ⟨_, congrArg Host.Outcome.next (if_pos ⟨hstep, hoff⟩), ?_, State.opticsAsk_of_idle ?_⟩
  · rw [← (State.opticsAsk_frame ..).1 .lnLtx rfl l, State.lineAt_modLtx_self]
  · rw [State.lineAt_modLtx_self, hidle]

theorem opticsReady_completes (l : Nat) : Completes (.opticsReady l)
    (fun s => (s.lineAt l).ltx.enStep = 3 ∧ (s.lineAt l).optics = .ready)
    fun s t => (t.lineAt l).ltx.precoder = 0 ∧ (t.lineAt l).ltx.sent = [] ∧
      (s.txWant l → (t.lineAt l).ltx.state = .rampUp ∧ (t.lineAt l).ltx.enStep = 4) := by
  intro s hready
  refine ⟨_, congrArg Host.Outcome.next (if_pos hready), ?_, ?_, fun hwant => State.Drives.follow ⟨?_, ?_, ?_⟩ (.inl rfl)⟩
  · rw [State.follow_ltx_eq _ l Ltx.precoder fun _ => rfl, State.lineAt_modLtx_self]
  · rw [State.follow_ltx_eq _ l Ltx.sent fun _ => rfl, State.lineAt_modLtx_self]
  · refine (Keep.txWant_eq (Keep.modLtx (m := 0x800000) rfl (Keep.refl _ _)) rfl ?_ ?_).trans hwant <;> rw [State.lineAt_modLtx_self]
  · rw [State.lineAt_modLtx_self]
  · rw [State.lineAt_modLtx_self]

theorem opticsSettleTimeout_completes (l : Nat) : Completes (.opticsSettleTimeout l)
    (fun s => (s.lineAt l).ltx.enStep = 3 ∧ (s.lineAt l).optics ≠ .ready ∧ s.hears)
    fun s t => (t.lineAt l).ltx.enStep = 0 ∧ (t.lineAt l).ltx.retry = true ∧
      (t.lineAt l).ltx.attempts = (s.lineAt l).ltx.attempts + 1 ∧ (t.lineAt l).state = (s.lineAt l).state ∧
      Raises s t evLtxOpticsTimeout [Word.nat l, Word.nat ((s.lineAt l).ltx.attempts + 1)] := by
  rintro s ⟨hstep, hlate, hears⟩
  refine ⟨_, congrArg Host.Outcome.next (if_pos ⟨hstep, hlate⟩), ?_⟩
  dsimp only
  have hback : Keep 0x800000 s (s.modLtx l fun x => { x with enStep := 0, retry := true, attempts := (s.lineAt l).ltx.attempts + 1 }) :=
    Keep.modLtx rfl (Keep.refl _ _)
  have hstop : ∀ u : State, Keep 0x2002000300 u (u.opticsStop l) := fun u => u.opticsStop_frame l
  rw [← (hstop _).1 .lnLtx rfl l, (hstop _).lineState_eq rfl, State.raise_lineAt_ltx, State.raise_lineAt_state,
    State.lineAt_modLtx_self]
  exact ⟨rfl, rfl, rfl, rfl, Raises.of_keep hears hback rfl (hstop _) rfl⟩

/-- The lanes for which the table of R234 calls for ON. -/
theorem State.txTable_of {s : State} {l : Nat}
    (h : (s.live = true ∧ ((s.lineAt l).state = .acquire ∨ (s.lineAt l).state = .up ∨
        ((s.lineAt l).state = .fault ∧ s.parN nLtxCfg l ltxSquelchFault = 0) ∨
        ((s.lineAt l).state = .down ∧ (s.portOf l).isSome = true ∧ s.parN nLtxCfg l ltxWhileDown = 1))) ∨
      (s.dev.mode = .workshop ∧ (s.lineAt l).state = .test)) : s.forces ∧ s.txTable l = true := by
  unfold State.txTable
  rcases h with ⟨hlive, hstate⟩ | ⟨hmode, htest⟩
  · have hmode : s.dev.mode ≠ .workshop := fun hmode => by simp [State.live, hmode] at hlive
    rw [if_neg hmode]
    refine ⟨.inl hlive, ?_⟩
    rcases hstate with hstate | hstate | ⟨hstate, hset⟩ | ⟨hstate, hport, hset⟩
    · simp only [hstate]
    · simp only [hstate]
    · simp only [hstate, hset, beq_self_eq_true]
    · simp only [hstate, hport, hset, beq_self_eq_true, Bool.and_self]
  · rw [if_pos hmode]
    exact ⟨.inr hmode, decide_eq_true htest⟩

theorem State.txWant_of_table {s : State} {l : Nat} (hpowered : s.dev.powered = true) (hclk : s.dev.refclk = true)
    (hforced : (s.lineAt l).ltx.forced = false) (hdead : (s.lineAt l).ltx.dead = false) (hforces : s.forces)
    (htable : s.txTable l = true) : s.txWant l = true := by
  have hmodes : (s.live || decide (s.dev.mode = .workshop)) = true := by simpa [State.forces] using hforces
  rw [State.txWant, hpowered, hclk, hmodes, htable, hforced, hdead]
  rfl

theorem opticsRetryTimer_completes (l : Nat) : Completes (.opticsRetryTimer l)
    (fun s => (s.lineAt l).ltx.retry ∧ s.dev.powered ∧ s.dev.refclk ∧ (s.lineAt l).ltx.forced = false ∧
      (s.lineAt l).ltx.dead = false ∧
      ((s.live ∧ ((s.lineAt l).state = .acquire ∨ (s.lineAt l).state = .up ∨
          ((s.lineAt l).state = .fault ∧ s.parN nLtxCfg l ltxSquelchFault = 0) ∨
          ((s.lineAt l).state = .down ∧ (s.portOf l).isSome ∧ s.parN nLtxCfg l ltxWhileDown = 1))) ∨
        (s.dev.mode = .workshop ∧ (s.lineAt l).state = .test)))
    fun s t => (t.lineAt l).ltx = { (s.lineAt l).ltx with enStep := 1, retry := false, since := s.tku.bcnt } ∧
      (∀ k, k ≠ l → t.lineAt k = s.lineAt k) ∧ OnlyChanges [.lnLtx] s t := by
  rintro s ⟨hretry, hpowered, hclk, hforced, hdead, htable⟩
  obtain ⟨hforces, hon⟩ := State.txTable_of htable
  have hwant := State.txWant_of_table hpowered hclk hforced hdead hforces hon
  refine ⟨_, congrArg Host.Outcome.next (if_pos ⟨hretry, hwant⟩), ?_, fun k hk => ?_, ?_⟩
  · rw [State.lineAt_modLtx_self]
  · rw [State.lineAt_modLtx, if_neg hk]
  · exact (Keep.modLtx (m := 0x800000) rfl (Keep.refl _ _)).among rfl

/-! The ends of the ramps (R235 step 5, R237). -/

theorem State.syncRx_begun (s : State) (l k : Nat) : ((s.syncRx l).lineAt k).plt.begun = (s.lineAt k).plt.begun := by
  unfold State.syncRx
  extract_lets w x
  have hmod : ∀ (u : State) (f : Lrx → Lrx), ((u.modLrx l f).lineAt k).plt = (u.lineAt k).plt := by
    intro u f
    rw [State.lineAt_modLrx]
    split
    · next hk => rw [hk]
    · rfl
  split
  · rfl
  split
  · rw [hmod]
  split
  · rw [State.lineAt_modPlt]
    split
    · next hk => rw [hk, State.lineAt_modLrx_self]
    · rw [hmod]
  · rw [hmod]

/-- Following leaves what has begun on a pilot channel. -/
theorem State.follow_begun (s : State) (k : Nat) : (s.follow.lineAt k).plt.begun = (s.lineAt k).plt.begun := by
  obtain ⟨u, hu, hrest⟩ := State.follow_turns (P := fun u => (u.lineAt k).plt.begun = (s.lineAt k).plt.begun) rfl
    (fun u l hu => (u.syncRx_begun l k).trans hu) fun u l hu => by rwa [← (u.syncTx_frame l .laneState).1 .lnPlt rfl k]
  rw [← hrest.1 .lnPlt rfl k, hu]

/-- The drive of lane `l` is ON at the end of its ramp, and its beacons may begin. -/
def State.rampedUp (s : State) (l : Nat) : State :=
  (s.modLtx l fun x => { x with state := .on, enStep := 0, attempts := 0 }).modPlt l fun x => { x with begun := true }

theorem State.rampedUp_ltx (s : State) (l : Nat) :
    ((s.rampedUp l).lineAt l).ltx = { (s.lineAt l).ltx with state := .on, enStep := 0, attempts := 0 } := by
  rw [State.rampedUp, State.lineAt_modPlt_self, State.lineAt_modLtx_self]

theorem State.rampedUp_frame (s : State) (l : Nat) : Keep 0x1800000 s (s.rampedUp l) :=
  Keep.modPlt rfl (Keep.modLtx rfl (Keep.refl _ _))

theorem exec_rampUpEnd {s : State} {l : Nat} (h : (s.lineAt l).ltx.state = .rampUp) : exec (.rampUpEnd l) s =
    .next ((s.rampedUp l).raise evLtxEnabled [Word.nat l, Word.nat (s.since (s.lineAt l).ltx.since)]).follow :=
  congrArg Host.Outcome.next (if_pos h)

theorem rampUpEnd_completes (l : Nat) : Completes (.rampUpEnd l) (fun s => (s.lineAt l).ltx.state = .rampUp ∧ s.hears)
    fun s t => (s.txWant l → (t.lineAt l).ltx.state = .on) ∧ (t.lineAt l).plt.begun = true ∧
      Raises s t evLtxEnabled [Word.nat l, Word.nat (s.since (s.lineAt l).ltx.since)] := by
  rintro s ⟨hup, hears⟩
  refine ⟨_, exec_rampUpEnd hup, fun hwant => ?_, ?_, Raises.of_keep hears (s.rampedUp_frame l) rfl (State.follow_frame _) rfl⟩
  · have hltx := s.rampedUp_ltx l
    have hcalled : (s.rampedUp l).txWant l = true :=
      ((s.rampedUp_frame l).txWant_eq rfl (by rw [hltx]) (by rw [hltx])).trans hwant
    have hdrives : (s.rampedUp l).Drives l .on 0 := ⟨hcalled, by rw [hltx], by rw [hltx]⟩
    exact ((hdrives.of_keep (State.raise_frame ..) rfl (State.raise_lineAt_ltx ..)).follow (.inr rfl)).1
  · rw [State.follow_begun, State.raise_lineAt_plt, State.rampedUp, State.lineAt_modPlt_self]

/-- The drive of lane `l` is OFF at the end of its ramp, and 10 us run until its optics are released. -/
def State.rampedDown (s : State) (l : Nat) : State :=
  s.modLtx l fun x => { x with state := .off, content := .none, fast := false, release := true }

theorem State.rampedDown_frame (s : State) (l : Nat) : Keep 0x800000 s (s.rampedDown l) := Keep.modLtx rfl (Keep.refl _ _)

theorem exec_rampDownEnd {s : State} {l : Nat} (h : (s.lineAt l).ltx.state = .rampDown) : exec (.rampDownEnd l) s =
    .next (((s.rampedDown l).raise evLtxDisabled [Word.nat l, Word.nat (s.lineAt l).ltx.cause.num]).pltTruncate l).follow :=
  congrArg Host.Outcome.next (if_pos h)

theorem rampDownEnd_completes (l : Nat) : Completes (.rampDownEnd l) (fun s => (s.lineAt l).ltx.state = .rampDown ∧ s.hears)
    fun s t => (t.lineAt l).ltx.state = .off ∧ (t.lineAt l).ltx.content = .none ∧ (t.lineAt l).ltx.release = true ∧
      Raises s t evLtxDisabled [Word.nat l, Word.nat (s.lineAt l).ltx.cause.num] := by
  rintro s ⟨hdown, hears⟩
  have hltx : ∀ data, ((((s.rampedDown l).raise evLtxDisabled data).pltTruncate l).lineAt l).ltx =
      { (s.lineAt l).ltx with state := .off, content := .none, fast := false, release := true } := fun data => by
    rw [← (State.pltTruncate_frame ..).1 .lnLtx rfl l, State.raise_lineAt_ltx, State.rampedDown, State.lineAt_modLtx_self]
  have hoff := State.follow_off (k := l) (by rw [hltx [Word.nat l, Word.nat (s.lineAt l).ltx.cause.num]]; exact ⟨rfl, rfl⟩)
  refine ⟨_, exec_rampDownEnd hdown, hoff.1, hoff.2, ?_, ?_⟩
  · rw [State.follow_ltx_eq _ l Ltx.release fun _ => rfl, hltx]
  · exact Raises.of_keep hears (s.rampedDown_frame l) rfl
      (State.follow_keep (k0 := 0x2601b925b88) _ rfl (State.pltTruncate_keep _ l rfl (Keep.refl _ _))) rfl

theorem opticsReleaseTimer_completes (l : Nat) : Completes (.opticsReleaseTimer l)
    (fun s => (s.lineAt l).ltx.release ∧ (s.lineAt l).ltx.state = .off ∧ (s.lineAt l).optics = .ready)
    fun _ t => (t.lineAt l).ltx.release = false ∧ ((t.lineAt l).optics = .stopping ∨ (t.lineAt l).optics = .idle) := by
  rintro s ⟨hrelease, hoff, hready⟩
  refine ⟨_, congrArg Host.Outcome.next (if_pos ⟨hrelease, hoff⟩), ?_, State.opticsStop_of_ready ?_⟩
  · rw [← (State.opticsStop_frame ..).1 .lnLtx rfl l, State.lineAt_modLtx_self]
  · rw [State.lineAt_modLtx_self, hready]

end Sys2Proof.Machine
end

section
/-! PROOFS. The transmit datapath and the settings of a line transmitter (O17, its third part; R223 to R228). -/

namespace Sys2Proof.Machine

/-- A table written at the indices 1 to `n` from empty holds there what was written, and its defaults elsewhere. -/
theorem tget_foldl_tset {α : Type} [DecidableEq α] (d f : Nat → α) (n i : Nat) :
    tget ((List.range n).foldl (fun t j => tset t d (j + 1) (f (j + 1))) []) d i = if 1 ≤ i ∧ i ≤ n then f i else d i := by
  induction n with
  | zero => rw [List.range_zero, List.foldl_nil, tget_nil, if_neg (by omega)]
  | succ n ih =>
    rw [List.range_succ, List.foldl_append, List.foldl_cons, List.foldl_nil, tget_tset]
    by_cases hi : i = n + 1
    · rw [if_pos hi, if_pos (by omega), hi]
    · rw [if_neg hi, ih]
      exact if_congr (by omega) rfl rfl

/-- The transmitter after an interleaver block (R223 to R225). -/
theorem State.transmit_ltx (s : State) (l : Nat) (bits : List Bool) {xs : List Int}
    (hxs : xs = txSamples (s.half l) (s.txSet l ltxLevels 4) (s.txSet l ltxTaps 9) (s.txSet l ltxTable 64) (s.lineAt l).ltx.sent
      (s.txBlock l bits)) :
    ((s.transmit l bits).lineAt l).ltx = { (s.lineAt l).ltx with
      dac := (xs.zipIdx).map fun p => (s.lineAt l).sampleCode p.1 p.2
      index := ((s.lineAt l).ltx.index + xs.length) % 18000
      precoder := (s.txBlock l bits).getLastD (s.lineAt l).ltx.precoder
      sent := ((s.txBlock l bits).reverse ++ (s.lineAt l).ltx.sent).take 8
      prbs := if (s.lineAt l).ltx.content = .fill then (List.range 544).foldl (fun st _ => prbsNext st) (s.lineAt l).ltx.prbs
        else (s.lineAt l).ltx.prbs } := by
  subst hxs
  unfold State.transmit
  rw [State.lineAt_modLtx_self, State.lineAt_modPlt_self]

theorem State.transmit_lineAt_other (s : State) {l k : Nat} (bits : List Bool) (hk : k ≠ l) :
    (s.transmit l bits).lineAt k = s.lineAt k := by
  unfold State.transmit
  rw [State.lineAt_modLtx, if_neg hk, State.lineAt_modPlt, if_neg hk]

/-- The fill of a transmitter is PRBS31 in the line format (R177). -/
theorem State.txBlock_of_fill {s : State} {l : Nat} (h : (s.lineAt l).ltx.content = .fill) (bits : List Bool) : s.txBlock l bits =
    txLevels (s.parN nSdfCfg l 0 == 0) (s.lineAt l).ltx.precoder (payloadSymbols (prbsRun 544 (s.lineAt l).ltx.prbs)) := by
  unfold State.txBlock
  simp only [h, if_true]

/-- The level values, taps and table of a lane as its parameters hold them (R227). -/
def State.stagedSettings (s : State) (l : Nat) : Tbl Word :=
  (List.range 77).foldl (fun t i =>
    tset t (fun e => paramDflt s.fuses (paramKey nLtxCfg l e)) (i + 1) (s.param nLtxCfg l (i + 1))) []

theorem State.tget_stagedSettings (s : State) (l : Nat) {i : Nat} (hi : 1 ≤ i ∧ i ≤ 77) :
    tget (s.stagedSettings l) (fun e => paramDflt s.fuses (paramKey nLtxCfg l e)) i = s.param nLtxCfg l i := by
  rw [State.stagedSettings, tget_foldl_tset _ (s.param nLtxCfg l), if_pos hi]

/-- The settings that are staged at the end of a block take effect together. -/
def State.takeStaged (s : State) (l : Nat) (bits : List Bool) : State :=
  if (s.lineAt l).ltx.staged then
    (s.transmit l bits).modLtx l fun x => { x with staged := false, applied := s.stagedSettings l }
  else s.transmit l bits

theorem exec_ltxSettingsApply {s : State} {l : Nat} (hl : l < s.lines) (bits : List Bool) :
    exec (.ltxSettingsApply l bits) s = .next (s.takeStaged l bits) := congrArg Host.Outcome.next (if_pos hl)

theorem State.takeStaged_ltx (s : State) (l : Nat) (bits : List Bool) : ((s.takeStaged l bits).lineAt l).ltx =
    { ((s.transmit l bits).lineAt l).ltx with
      staged := false
      applied := if (s.lineAt l).ltx.staged then s.stagedSettings l else (s.lineAt l).ltx.applied } := by
  unfold State.takeStaged
  have hltx := s.transmit_ltx l bits rfl
  cases hstaged : (s.lineAt l).ltx.staged
  · rw [if_neg Bool.false_ne_true, if_neg Bool.false_ne_true, hltx, ← hstaged]
  · rw [if_pos rfl, if_pos rfl, State.lineAt_modLtx_self]

theorem ltxSettingsApply_completes (l : Nat) (bits : List Bool) : Completes (.ltxSettingsApply l bits) (fun s => l < s.lines)
    fun s t => (∃ levels xs, levels = s.txBlock l bits ∧
        xs = txSamples (s.half l) (s.txSet l ltxLevels 4) (s.txSet l ltxTaps 9) (s.txSet l ltxTable 64)
          (s.lineAt l).ltx.sent levels ∧
        (t.lineAt l).ltx.dac = (xs.zipIdx).map (fun p => (s.lineAt l).sampleCode p.1 p.2) ∧
        (t.lineAt l).ltx.precoder = levels.getLastD (s.lineAt l).ltx.precoder ∧
        (t.lineAt l).ltx.index = ((s.lineAt l).ltx.index + xs.length) % 18000 ∧
        ((s.lineAt l).ltx.content = .fill → levels = txLevels (s.parN nSdfCfg l 0 == 0) (s.lineAt l).ltx.precoder
          (payloadSymbols (prbsRun 544 (s.lineAt l).ltx.prbs)))) ∧
      (t.lineAt l).ltx.staged = false ∧
      ((s.lineAt l).ltx.staged = false → (t.lineAt l).ltx.applied = (s.lineAt l).ltx.applied) ∧
      ((s.lineAt l).ltx.staged = true → ∀ i, 1 ≤ i → i ≤ 77 →
        tget (t.lineAt l).ltx.applied (fun e => paramDflt s.fuses (paramKey nLtxCfg l e)) i = s.param nLtxCfg l i) ∧
      (∀ k, k ≠ l → t.lineAt k = s.lineAt k) ∧ OnlyChanges [.lnLtx, .lnPlt] s t := by
  intro s hl
  have hexec := exec_ltxSettingsApply hl bits
  refine ⟨_, hexec, ⟨_, _, rfl, rfl, ?_, ?_, ?_, fun hfill => State.txBlock_of_fill hfill bits⟩, ?_, fun hunstaged => ?_,
    fun hstaged i hlo hhi => ?_, fun k hk => ?_, (execLtxSettingsApply_keep l s bits hexec).among rfl⟩
  · rw [State.takeStaged_ltx, s.transmit_ltx l bits rfl]
  · rw [State.takeStaged_ltx, s.transmit_ltx l bits rfl]
  · rw [State.takeStaged_ltx, s.transmit_ltx l bits rfl]
  · rw [State.takeStaged_ltx]
  · rw [State.takeStaged_ltx, hunstaged]
    rfl
  · rw [State.takeStaged_ltx, if_pos hstaged, s.tget_stagedSettings l ⟨hlo, hhi⟩]
  · unfold State.takeStaged
    split
    · rw [State.lineAt_modLtx, if_neg hk, State.transmit_lineAt_other s bits hk]
    · exact State.transmit_lineAt_other s bits hk

/-- The swing after a step of 10 mV towards `want` (R228). -/
def swingTowards (x want : Nat) : Nat := if x < want then x + 1 else if want < x then x - 1 else x

theorem exec_swingStep {s : State} {l : Nat} (hl : l < s.lines) : exec (.swingStep l) s =
    .next (s.modLtx l fun x => { x with swing := swingTowards x.swing (s.parN nLtxCfg l ltxSwing) }) :=
  congrArg Host.Outcome.next (if_pos hl)

theorem swingStep_completes (l : Nat) : Completes (.swingStep l) (fun s => l < s.lines)
    fun s t => ((s.lineAt l).ltx.swing < s.parN nLtxCfg l ltxSwing → (t.lineAt l).ltx.swing = (s.lineAt l).ltx.swing + 1) ∧
      (s.parN nLtxCfg l ltxSwing < (s.lineAt l).ltx.swing → (t.lineAt l).ltx.swing = (s.lineAt l).ltx.swing - 1) ∧
      (s.parN nLtxCfg l ltxSwing = (s.lineAt l).ltx.swing → t.lineAt l = s.lineAt l) ∧ OnlyChanges [.lnLtx] s t := by
  intro s hl
  refine ⟨_, exec_swingStep hl, fun hup => ?_, fun hdown => ?_, fun heq => ?_, (Keep.modLtx (m := 0x800000) rfl (Keep.refl _ _)).among rfl⟩
  · rw [State.lineAt_modLtx_self]
    exact if_pos hup
  · rw [State.lineAt_modLtx_self]
    exact (if_neg hdown.not_gt).trans (if_pos hdown)
  · rw [State.lineAt_modLtx_self, heq, swingTowards, if_neg (lt_irrefl _), if_neg (lt_irrefl _)]

end Sys2Proof.Machine
end

section
/-! PROOFS. The cells of a DAC (O17, its last part; R243 to R245). -/

namespace Sys2Proof.Machine

theorem State.cellAt_modCell_other (s : State) {l n j : Nat} (hj : j ≠ n) (f : Cell → Cell) : (s.modCell l n f).cellAt l j = s.cellAt l j := by
  rw [State.modCell, State.cellAt, State.lineAt_modLtx_self]
  exact tget_tmod_other _ _ _ hj

theorem Keep.cellAt_eq {m : Nat} {s t : State} (h : Keep m s t) (hm : m.testBit 23 = false) (l n : Nat) : t.cellAt l n = s.cellAt l n :=
  congrArg (fun x : Ltx => tget x.cells cellDflt n) (h.1 .lnLtx hm l).symm

theorem State.cellAt_follow (s : State) (l n : Nat) : s.follow.cellAt l n = s.cellAt l n :=
  s.follow_ltx_eq l (fun x => tget x.cells cellDflt n) fun _ => rfl

/-- The transom cell is the first healthy cell without a position (R243). -/
theorem State.transomCell_eq_some {s : State} {l k : Nat} (hk : k < 16) (hpos : (s.cellAt l k).pos = none)
    (hhealth : (s.cellAt l k).health = .ok) (hbefore : ∀ j, j < k → (s.cellAt l j).pos = none → (s.cellAt l j).health ≠ .ok) :
    s.transomCell l = some k := by
  refine List.find?_range_eq_some.2 ⟨by simp [hpos, hhealth], List.mem_range.2 hk, fun j hj => ?_⟩
  simpa [Option.isSome_iff_ne_none, or_iff_not_imp_left] using hbefore j hj

theorem State.transomCell_eq_none {s : State} {l : Nat}
    (hnone : ∀ j, j < 16 → (s.cellAt l j).pos = none → (s.cellAt l j).health ≠ .ok) : s.transomCell l = none :=
  List.find?_eq_none.2 fun j hj => by simpa using hnone j (List.mem_range.1 hj)

/-- A failed cell of a lane is taken in hand within the bound of R638: no interruption is reported. -/
theorem exec_dacCellFailure {s : State} {l cell ns : Nat} (hl : l < s.lines) (hcell : cell < 16)
    (hpos : (s.cellAt l cell).pos.isSome = true) (hhealth : (s.cellAt l cell).health = .ok) (hns : ns ≤ 20000) :
    exec (.dacCellFailure l cell ns) s = .next (s.cellFailed l cell).follow := by
  have hbound : ∀ port fault, s.boundCheck port fault ns = s := fun port fault => if_neg (Nat.not_lt.2 hns)
  refine congrArg Host.Outcome.next ((if_pos ⟨hl, hcell, hpos, hhealth⟩).trans ?_)
  rw [hbound]

/-- Cell `k` stands on the position of the failed cell `cell`, which waits for its test. -/
def State.cellMoved (s : State) (l cell k : Nat) : State :=
  ((s.calAbandon (l + 16) abFault).modCell l cell fun y => { y with pos := none, health := .test }).modCell l k fun y =>
    { y with pos := (s.cellAt l cell).pos }

theorem State.cellFailed_of_spare {s : State} {l cell k : Nat} (hpos : (s.cellAt l cell).pos.isSome = true)
    (hspare : s.transomCell l = some k) : s.cellFailed l cell =
      ((s.cellMoved l cell k).raise evLtxCellSubst [Word.nat l, Word.nat cell]).report .cell l cell srcTest := by
  unfold State.cellFailed
  dsimp only
  rw [if_neg (by simpa [Option.isSome_iff_ne_none] using hpos), hspare]
  rfl

theorem State.cellMoved_frame (s : State) (l cell k : Nat) : Keep 0x6000900300 s (s.cellMoved l cell k) :=
  Keep.modCell rfl (Keep.modCell rfl (State.calAbandon_keep _ _ _ rfl (Keep.refl _ _)))

theorem dacCellFailure_completes (l cell k ns : Nat) : Completes (.dacCellFailure l cell ns)
    (fun s => l < s.lines ∧ cell < 16 ∧ (s.cellAt l cell).pos.isSome ∧ (s.cellAt l cell).health = .ok ∧
      k < 16 ∧ (s.cellAt l k).pos = none ∧ (s.cellAt l k).health = .ok ∧
      (∀ j, j < k → (s.cellAt l j).pos = none → (s.cellAt l j).health ≠ .ok) ∧ ns ≤ 20000 ∧ s.hears)
    fun s t => (t.cellAt l k).pos = (s.cellAt l cell).pos ∧ (t.cellAt l cell).pos = none ∧ (t.cellAt l cell).health = .test ∧
      Raises s t evLtxCellSubst [Word.nat l, Word.nat cell] := by
  rintro s ⟨hl, hcell, hpos, hhealth, hk, hkpos, hkhealth, hbefore, hns, hears⟩
  have hne : cell ≠ k := fun h => by simp [h, hkpos] at hpos
  have hafter : Keep 0x3601b905b08 ((s.cellMoved l cell k).raise evLtxCellSubst [Word.nat l, Word.nat cell]) (s.cellFailed l cell).follow := by
    rw [State.cellFailed_of_spare hpos (State.transomCell_eq_some hk hkpos hkhealth hbefore)]
    exact State.follow_keep _ rfl (State.report_keep _ _ _ _ _ rfl (Keep.refl _ _))
  have hcells : ∀ n, (s.cellFailed l cell).follow.cellAt l n = (s.cellMoved l cell k).cellAt l n := fun n => by
    rw [State.cellAt_follow, State.cellFailed_of_spare hpos (State.transomCell_eq_some hk hkpos hkhealth hbefore),
      (State.report_frame ..).cellAt_eq rfl, (State.raise_frame ..).cellAt_eq rfl]
  refine ⟨_, exec_dacCellFailure hl hcell hpos hhealth hns, ?_, ?_, ?_, Raises.of_keep hears (s.cellMoved_frame l cell k) rfl hafter rfl⟩
  · rw [hcells, State.cellMoved, State.cellAt_modCell_self]
  · rw [hcells, State.cellMoved, State.cellAt_modCell_other _ hne, State.cellAt_modCell_self]
  · rw [hcells, State.cellMoved, State.cellAt_modCell_other _ hne, State.cellAt_modCell_self]

/-- Without a spare for `cell` the transmitter of its lane is held OFF (R245). -/
def State.cellLost (s : State) (l cell : Nat) : State :=
  (s.modCell l cell fun y => { y with health := .test }).modLtx l fun y => { y with dead := true }

/-- The event and the test of a cell without a spare. -/
def State.cellLossNamed (s : State) (l cell : Nat) : State :=
  ((s.cellLost l cell).raise evLtxNoSpareCell [Word.nat l, Word.nat ((s.cellLost l cell).healthyCells l)]).report .cell l cell srcTest

theorem State.cellLossNamed_frame (s : State) (l cell : Nat) : Keep 0x10000800300 s (s.cellLossNamed l cell) :=
  State.report_keep _ _ _ _ _ rfl (State.raise_keep _ _ _ rfl (Keep.modLtx rfl (Keep.modCell rfl (Keep.refl _ _))))

theorem State.cellLossNamed_dead (s : State) (l cell : Nat) : ((s.cellLossNamed l cell).lineAt l).ltx.dead = true := by
  rw [State.cellLossNamed, ← (State.report_frame ..).1 .lnLtx rfl l, State.raise_lineAt_ltx, State.cellLost, State.lineAt_modLtx_self]

theorem State.cellFailed_of_up {s : State} {l cell : Nat} (hpos : (s.cellAt l cell).pos.isSome = true)
    (hnone : s.transomCell l = none) (hup : (s.lineAt l).state = .up) : s.cellFailed l cell =
      ((s.cellLossNamed l cell).modLine l fun y => { y with stuck := true }).lineFault l evLtxNoSpareCell := by
  have hnamed : ((s.cellLossNamed l cell).lineAt l).state = .up := ((s.cellLossNamed_frame l cell).lineState_eq rfl l).trans hup
  unfold State.cellFailed
  dsimp only
  rw [if_neg (by simpa [Option.isSome_iff_ne_none] using hpos), hnone]
  dsimp only
  split
  case h_4 hother _ => exact absurd hnamed hother
  all_goals rfl

theorem dacCellFailure_completes_of_none (l cell ns : Nat) : Completes (.dacCellFailure l cell ns)
    (fun s => l < s.lines ∧ cell < 16 ∧ (s.cellAt l cell).pos.isSome ∧ (s.cellAt l cell).health = .ok ∧
      (∀ j, j < 16 → (s.cellAt l j).pos = none → (s.cellAt l j).health ≠ .ok) ∧
      ns ≤ 20000 ∧ s.live ∧ (s.lineAt l).state = .up)
    fun _ t => (t.lineAt l).state = .fault ∧ (t.lineAt l).stuck = true ∧ (t.lineAt l).ltx.dead = true := by
  rintro s ⟨hl, hcell, hpos, hhealth, hnone, hns, hlive, hup⟩
  have hframe := s.cellLossNamed_frame l cell
  have hstuck : (((s.cellLossNamed l cell).modLine l fun y => { y with stuck := true }).lineAt l) =
      { (s.cellLossNamed l cell).lineAt l with stuck := true } := State.lineAt_modLine_self ..
  have hline : (s.cellFailed l cell).lineAt l = { (s.cellLossNamed l cell).lineAt l with
      state := .fault, stuck := true, lrx := { ((s.cellLossNamed l cell).lineAt l).lrx with step := 0, lowSnr := 0 } } := by
    rw [State.cellFailed_of_up hpos (State.transomCell_eq_none hnone) hup, State.lineFault_lineAt, hstuck]
    · exact (hframe.live_eq rfl).trans hlive
    · rw [hstuck, hframe.lineState_eq rfl l, hup]
      decide
  refine ⟨_, exec_dacCellFailure hl hcell hpos hhealth hns, ?_, ?_, ?_⟩
  · rw [(State.follow_frame _).lineState_eq rfl, hline]
  · rw [← ((State.follow_frame (s.cellFailed l cell)).1 .lnState rfl l).2.1, hline]
  · rw [State.follow_ltx_eq _ l Ltx.dead fun _ => rfl, hline]
    exact s.cellLossNamed_dead l cell

/-- Settles O17, from one lemma for each clause. -/
theorem transmittersComplete : Obligations.TransmittersComplete :=
  ⟨⟨dacSettled_completes, opticsReady_completes, opticsSettleTimeout_completes, opticsRetryTimer_completes, rampUpEnd_completes,
      rampDownEnd_completes, opticsReleaseTimer_completes⟩,
    ltxSettingsApply_completes, swingStep_completes, dacCellFailure_completes, dacCellFailure_completes_of_none⟩

end Sys2Proof.Machine
end

section
/-! PROOFS. Host lanes: what an update, a frame and the rules that follow a change leave of a lane (R248 to R296), and the entries of a
lane to ACQUIRE and FAULT (R286, R287). -/

namespace Sys2Proof.Machine

/-! What a frame says of a host lane. -/

theorem State.hostAt_modHost_other (s : State) {h k : Nat} (hk : k ≠ h) (f : HostLane → HostLane) :
    (s.modHost h f).hostAt k = s.hostAt k := by
  rw [State.hostAt_modHost, if_neg hk]

/-- A frame without the lanes' records leaves of a lane all but what it sends and how that is timed. -/
theorem Keep.host_sends {m : Nat} {s t : State} (h : Keep m s t) (hm : m.testBit 26 = false) (k : Nat) :
    ∃ tx timed, t.hostAt k = { s.hostAt k with tx := tx, localTimed := timed } := by
  have hrest := h.1 .hostRest hm k
  refine ⟨(t.hostAt k).tx, (t.hostAt k).localTimed, ?_⟩
  generalize s.hostAt k = x at hrest ⊢
  generalize t.hostAt k = y at hrest ⊢
  cases x; cases y
  simp only [HostLane.rest, HostLane.mk.injEq] at hrest ⊢
  simp [hrest]

/-- What follows a change decides anew what a lane sends, and no more of it. -/
theorem State.follow_host (s : State) (h : Nat) :
    ∃ tx timed, s.follow.hostAt h = { s.hostAt h with tx := tx, localTimed := timed } :=
  s.follow_frame.host_sends rfl h

theorem State.follow_statAt (s : State) (g j i : Nat) : s.follow.statAt g j i = s.statAt g j i := s.follow_frame.statAt_eq rfl g j i

theorem State.statAt_modHost (s : State) (h g j i : Nat) (f : HostLane → HostLane) : (s.modHost h f).statAt g j i = s.statAt g j i := rfl

theorem State.hostAt_bumpBy (s : State) (g j i n h : Nat) : (s.bumpBy g j i n).hostAt h = s.hostAt h := rfl

theorem State.raise_statAt (s : State) (code : Nat) (data : List Word) (g j i : Nat) :
    (s.raise code data).statAt g j i = s.statAt g j i := (s.raise_frame code data).statAt_eq rfl g j i

theorem State.hostIn_of {s : State} {h n : Nat} (hh : h < s.hosts) (hstate : (s.hostAt h).state = .acquire)
    (hstep : (s.hostAt h).step = n) : s.hostIn h n = true := by
  simp [State.hostIn, hh, hstate, hstep]

/-! The entry to ACQUIRE (R265, R286). -/

theorem State.hostAcquire_host {s : State} {h : Nat} (warm : Bool) (hlive : s.live = true) :
    ((s.hostAcquire h warm).hostAt h).state = .acquire ∧ ((s.hostAcquire h warm).hostAt h).step = 1 ∧
      ((s.hostAcquire h warm).hostAt h).warm = warm := by
  cases warm <;> simp [State.hostAcquire, State.hostAt_bump, hlive]

/-- A warm acquisition keeps CTLE, taps and polarity (R286). -/
theorem State.hostAcquire_warm_host {s : State} {h : Nat} (hlive : s.live = true) :
    ((s.hostAcquire h true).hostAt h).cm1 = (s.hostAt h).cm1 ∧ ((s.hostAcquire h true).hostAt h).ctle = (s.hostAt h).ctle ∧
      ((s.hostAcquire h true).hostAt h).polInv = (s.hostAt h).polInv := by
  simp [State.hostAcquire, State.hostAt_bump, hlive]

theorem State.hostAcquire_statAt {s : State} (h : Nat) (warm : Bool) (hlive : s.live = true) :
    (s.hostAcquire h warm).statAt gHsl h (if warm then 1 else 0) = (s.statAt gHsl h (if warm then 1 else 0)).add 1 := by
  cases warm <;> simp [State.hostAcquire, hlive, State.statAt_modHost]

/-! The entry to FAULT (R286). -/

/-- A lane in FAULT; a loss of lock and a slip have cleared at once. -/
def HostLane.faulted (x : HostLane) (cause : HostCause) : HostLane :=
  { x with state := .fault, step := 0, cause := cause, recover := cause = .lock || cause = .slip, lowSnr := 0, wasUp := false }

/-- Beside the lane, a fault moves its port alone, with its count and its event. -/
theorem State.hostFault_of_live {s : State} (h : Nat) (cause : HostCause) (ev : Nat) (hlive : s.live = true) :
    Keep 0x20020300 (s.modHost h fun x => x.faulted cause) (s.hostFault h cause ev) := by
  unfold State.hostFault
  extract_lets was s1
  rw [if_pos hlive]
  split
  · split
    · exact Keep.refl _ _
    · exact State.portFail_frame ..
  · exact Keep.refl _ _

theorem State.hostFault_host {s : State} (h : Nat) (cause : HostCause) (ev : Nat) (hlive : s.live = true) :
    (s.hostFault h cause ev).hostAt h = (s.hostAt h).faulted cause := by
  rw [← (State.hostFault_of_live h cause ev hlive).1 .hostTx rfl h, State.hostAt_modHost_self]

/-- The counts of the lane's own items stand; its port counts the entry to its fault set as items 0 and 3. -/
theorem State.hostFault_statAt (s : State) (h : Nat) (cause : HostCause) (ev g j : Nat) {i : Nat} (hline : i % 32 ≠ 0)
    (hhost : i % 32 ≠ 3) : (s.hostFault h cause ev).statAt g j i = s.statAt g j i := by
  unfold State.hostFault
  extract_lets was s1
  split
  · split
    · split
      · rfl
      · exact s1.portFail_statAt _ _ _ _ g j hline hhost
    · rfl
  · rfl

end Sys2Proof.Machine
end

section
/-! PROOFS. The acquisition of a host lane (O19; R257 to R260, R264 to R271, R287). -/

namespace Sys2Proof.Machine

/-! Steps 1 and 2. -/

theorem hslSignalDetect_completes (h : Nat) : Completes (.hslSignalDetect h)
    (fun s => h < s.hosts ∧ (s.hostAt h).state = .acquire ∧ (s.hostAt h).step = 1 ∧ (s.hostAt h).sigLoss ∧ s.dev.refclk)
    fun _ t => (t.hostAt h).sigLoss = false ∧ (t.hostAt h).step = 2 ∧ (t.hostAt h).state = .acquire := by
  rintro s ⟨hh, hstate, hstep, hloss, hclk⟩
  refine ⟨((s.modHost h fun y => { y with sigLoss := false }).modHost h fun y => { y with step := 2 }).follow, ?_, ?_⟩
  · change execHslSignalDetect h s = _
    simp only [execHslSignalDetect, hstate, hstep, hclk, hh, hloss]
    rfl
  · obtain ⟨tx, timed, hhost⟩ := State.follow_host _ h
    rw [hhost, State.hostAt_modHost_self, State.hostAt_modHost_self]
    exact ⟨rfl, rfl, hstate⟩

theorem hslClockRecoveryLocked_completes (h : Nat) (freq : Int) : Completes (.hslClockRecoveryLocked h freq)
    (fun s => h < s.hosts ∧ (s.hostAt h).state = .acquire ∧ (s.hostAt h).step = 2 ∧ -2000 ≤ freq ∧ freq ≤ 2000)
    fun s t => (t.hostAt h).step = (if (s.hostAt h).warm ∨ (s.hostAt h).mode = 1 then 5 else 3) := by
  rintro s ⟨hh, hstate, hstep, hlow, hhigh⟩
  refine ⟨_, congrArg Host.Outcome.next (if_pos ⟨State.hostIn_of hh hstate hstep, by omega⟩), ?_⟩
  obtain ⟨tx, timed, hhost⟩ := State.follow_host _ h
  rw [hhost, State.hostAt_modHost_self]

/-! Steps 3 and 4: training and fallback (R265 to R269). -/

/-- A request beside the first 63 is sent. -/
theorem State.askTap_of_few {s : State} {h tap trying : Nat} (hfew : (s.hostAt h).requests < 64) : s.askTap h tap trying =
    (s.modHost h fun x => { x with
      tapIdx := tap, trying := trying, asked := some (s.request h tap trying), requests := x.requests + 1 }).bump gHsl h 7 :=
  if_neg (by omega)

/-- A lane whose partner sends training frames, before its first request (R266). -/
def HostLane.trainBegun (x : HostLane) (inverted : Bool) : HostLane :=
  { x with step := 4, polInv := if x.rxPol = 0 then inverted else x.polInv, trying := 0, tapIdx := 0, kept := false,
           ready := false, requests := 0, lastSnr := 0 }

theorem exec_trainingFrameLock {s : State} {h : Nat} (inverted : Bool) (hin : s.hostIn h 3 = true) :
    exec (.trainingFrameLock h inverted) s =
      .next ((((s.modHost h fun y => y.trainBegun inverted).bump gHsl h 2).askTap h 0 0).follow) :=
  congrArg Host.Outcome.next (if_pos hin)

theorem trainingFrameLock_completes (h : Nat) (inv : Bool) : Completes (.trainingFrameLock h inv)
    (fun s => h < s.hosts ∧ (s.hostAt h).state = .acquire ∧ (s.hostAt h).step = 3)
    fun s t => (t.hostAt h).step = 4 ∧ (t.hostAt h).requests = 1 ∧ (t.hostAt h).ready = false ∧
      (t.hostAt h).asked = some (.preset (s.hostAt h).startPreset) ∧
      (t.hostAt h).polInv = (if (s.hostAt h).rxPol = 0 then inv else (s.hostAt h).polInv) ∧
      t.statAt gHsl h 2 = (s.statAt gHsl h 2).add 1 ∧ t.statAt gHsl h 7 = (s.statAt gHsl h 7).add 1 := by
  rintro s ⟨hh, hstate, hstep⟩
  have hbegun : (((s.modHost h fun y => y.trainBegun inv).bump gHsl h 2).hostAt h) = (s.hostAt h).trainBegun inv := by
    rw [State.hostAt_bump, State.hostAt_modHost_self]
  have hrequest : ((s.modHost h fun y => y.trainBegun inv).bump gHsl h 2).request h 0 0 = .preset (s.hostAt h).startPreset := by
    rw [State.request, hbegun]
    rfl
  have hasked : ((s.modHost h fun y => y.trainBegun inv).bump gHsl h 2).askTap h 0 0 =
      (((s.modHost h fun y => y.trainBegun inv).bump gHsl h 2).modHost h fun x => { x with
        tapIdx := 0, trying := 0, asked := some (.preset (s.hostAt h).startPreset), requests := x.requests + 1 }).bump gHsl h 7 := by
    rw [State.askTap_of_few (by rw [hbegun]; exact Nat.zero_lt_succ 63), hrequest]
  refine ⟨_, (exec_trainingFrameLock inv (State.hostIn_of hh hstate hstep)).trans (by rw [hasked]), ?_⟩
  obtain ⟨tx, timed, hhost⟩ := State.follow_host _ h
  rw [hhost, State.hostAt_bump, State.hostAt_modHost_self, hbegun, State.follow_statAt, State.follow_statAt,
    State.statAt_bump_self, State.statAt_bump_other _ _ _ _ _ (by decide), State.statAt_modHost, State.statAt_modHost,
    State.statAt_bump_self, State.statAt_bump_other _ _ _ _ _ (by decide), State.statAt_modHost, State.statAt_modHost]
  exact ⟨rfl, rfl, rfl, rfl, rfl, rfl, rfl⟩

theorem trainingWaitExpiry_completes (h : Nat) : Completes (.trainingWaitExpiry h)
    (fun s => h < s.hosts ∧ (s.hostAt h).state = .acquire ∧ (s.hostAt h).step = 3 ∧ (s.hostAt h).mode = 2)
    fun s t => (t.hostAt h).step = 7 ∧ (t.hostAt h).fellBack = true ∧ t.statAt gHsl h 3 = (s.statAt gHsl h 3).add 1 := by
  rintro s ⟨hh, hstate, hstep, hauto⟩
  refine ⟨_, congrArg Host.Outcome.next (if_pos ⟨State.hostIn_of hh hstate hstep, hauto⟩), ?_⟩
  obtain ⟨tx, timed, hhost⟩ := State.follow_host (s.fallBack h) h
  rw [hhost, State.follow_statAt, State.fallBack, State.hostAt_bump, State.hostAt_modHost_self, State.statAt_bump_self]
  exact ⟨rfl, rfl, rfl⟩

theorem trainingComplete_completes (h : Nat) : Completes (.trainingComplete h)
    (fun s => h < s.hosts ∧ (s.hostAt h).state = .acquire ∧ (s.hostAt h).step = 4 ∧ s.hears)
    fun s t => (t.hostAt h).step = 5 ∧ (t.hostAt h).train = .trained ∧ Raises s t evHslTrainDone
      [Word.nat h, Word.nat 0, Word.nat (s.hostAt h).requests, Word.int (s.hostAt h).lastSnr] := by
  rintro s ⟨hh, hstate, hstep, hears⟩
  refine ⟨_, congrArg Host.Outcome.next (if_pos (State.hostIn_of hh hstate hstep)), ?_⟩
  obtain ⟨tx, timed, hhost⟩ := State.follow_host _ h
  rw [hhost, State.raise_hostAt, State.hostAt_modHost_self]
  exact ⟨rfl, rfl, Raises.of_keep hears (Keep.modHost (m := 0xc000000) (.inl rfl) rfl (Keep.refl _ _)) rfl (State.follow_frame _) rfl⟩

theorem trainingComplete_completes_of_fallback (h : Nat) : Completes (.trainingComplete h)
    (fun s => h < s.hosts ∧ (s.hostAt h).state = .acquire ∧ (s.hostAt h).step = 7 ∧ s.hears)
    fun s t => (t.hostAt h).step = 5 ∧ (t.hostAt h).train = .fallback ∧ ∃ v, Raises s t evHslTrainDone
      [Word.nat h, Word.nat 1, Word.nat (s.hostAt h).requests, v] := by
  rintro s ⟨hh, hstate, hstep, hears⟩
  have hfour : ¬ s.hostIn h 4 = true := by simp [State.hostIn, hstep]
  refine ⟨_, congrArg Host.Outcome.next ((if_neg hfour).trans (if_pos (State.hostIn_of hh hstate hstep))), ?_⟩
  have hafter (u : State) : Keep 0x2601b905b0a u u.freeNext.follow := State.follow_keep _ rfl (State.freeNext_keep _ rfl (Keep.refl _ _))
  obtain ⟨tx, timed, hhost⟩ := (hafter _).host_sends rfl h
  beta_reduce
  rw [hhost, State.raise_hostAt, State.hostAt_modHost_self]
  exact ⟨rfl, rfl, s.freeVal,
    Raises.of_keep hears (Keep.modHost (m := 0xc000000) (.inl rfl) rfl (Keep.refl _ _)) rfl (hafter _) rfl⟩

theorem trainingTimeout_completes (h : Nat) : Completes (.trainingTimeout h)
    (fun s => h < s.hosts ∧ (s.hostAt h).state = .acquire ∧ (s.hostAt h).step = 4 ∧ (s.hostAt h).mode ≠ 2)
    fun s t => (t.hostAt h).step = 2 ∧ (t.hostAt h).requests = 0 ∧
      ((t.hostAt h).cm1, (t.hostAt h).c0, (t.hostAt h).c1) = hostPreset (s.hostAt h).txPreset ∧
      t.statAt gHsl h 4 = (s.statAt gHsl h 4).add 1 := by
  rintro s ⟨hh, hstate, hstep, hon⟩
  refine ⟨_, congrArg Host.Outcome.next ((if_pos (.inr (State.hostIn_of hh hstate hstep))).trans
    (congrArg State.follow (if_neg hon))), ?_⟩
  obtain ⟨tx, timed, hhost⟩ := State.follow_host _ h
  rw [hhost, State.follow_statAt, State.hostAt_bump, State.hostAt_modHost_self, State.statAt_bump_self]
  exact ⟨rfl, rfl, rfl, rfl⟩

/-! Step 5: equalisation (R257 to R259). -/

/-- The better of two peakings (R258). -/
def betterPeak (b p : Int × Nat) : Int × Nat := if b.1 < p.1 then (p.1, p.2 + 2) else b

/-- The peaking reached has an SNR that none of the list exceeds, and it is the first one's or that of a place in the list. -/
theorem foldl_betterPeak (xs : List Int) (k : Nat) (b : Int × Nat) :
    b.1 ≤ ((xs.zipIdx k).foldl betterPeak b).1 ∧ (∀ v ∈ xs, v ≤ ((xs.zipIdx k).foldl betterPeak b).1) ∧
      ((xs.zipIdx k).foldl betterPeak b = b ∨
        ∃ i < xs.length, (xs.zipIdx k).foldl betterPeak b = (xs.getD i 0, k + i + 2)) := by
  induction xs generalizing k b with
  | nil => exact ⟨le_refl _, List.forall_mem_nil _, .inl rfl⟩
  | cons x xs ih =>
    rw [List.zipIdx_cons, List.foldl_cons]
    obtain ⟨hfirst, hrest, hplace⟩ := ih (k + 1) (betterPeak b (x, k))
    have hstep : b.1 ≤ (betterPeak b (x, k)).1 ∧ x ≤ (betterPeak b (x, k)).1 := by
      unfold betterPeak
      split
      · next hlt => exact ⟨hlt.le, le_refl _⟩
      · next hlt => exact ⟨le_refl _, not_lt.1 hlt⟩
    refine ⟨hstep.1.trans hfirst, List.forall_mem_cons.2 ⟨hstep.2.trans hfirst, hrest⟩, ?_⟩
    rcases hplace with hsame | ⟨i, hi, hlater⟩
    · rw [hsame]
      unfold betterPeak
      split
      · exact .inr ⟨0, Nat.succ_pos _, rfl⟩
      · exact .inl rfl
    · refine .inr ⟨i + 1, Nat.succ_lt_succ hi, ?_⟩
      rw [hlater, List.getD_cons_succ]
      congr 1
      omega

/-- AUTO takes a peaking of the list whose SNR none exceeds. -/
theorem bestPeaking_best {snrs : List Int} (hsome : 0 < snrs.length) :
    2 ≤ bestPeaking snrs ∧ bestPeaking snrs ≤ snrs.length + 1 ∧ ∀ v ∈ snrs, v ≤ snrs.getD (bestPeaking snrs - 2) 0 := by
  have hbest : bestPeaking snrs = (snrs.zipIdx.foldl betterPeak (snrs.getD 0 0, 2)).2 := rfl
  obtain ⟨-, hall, hplace⟩ := foldl_betterPeak snrs 0 (snrs.getD 0 0, 2)
  obtain ⟨i, hi, hat⟩ : ∃ i < snrs.length, snrs.zipIdx.foldl betterPeak (snrs.getD 0 0, 2) = (snrs.getD i 0, i + 2) := by
    rcases hplace with hfirst | ⟨i, hi, hlater⟩
    · exact ⟨0, hsome, hfirst⟩
    · exact ⟨i, hi, by rw [hlater, Nat.zero_add]⟩
  rw [hat] at hall hbest
  rw [hbest]
  exact ⟨by omega, by omega, hall⟩

theorem HostLane.dfeIn_off {x : HostLane} (hoff : x.dfeOn = false) (d : Int) : x.dfeIn d = 0 := by simp [HostLane.dfeIn, hoff]

/-- The DFE tap stays within 0.35 of the main cursor; one that lies there is taken as it is (R259). -/
theorem HostLane.dfeIn_on {x : HostLane} (hon : x.dfeOn = true) (d : Int) :
    (x.dfeIn d).natAbs ≤ 35 * (x.ffe.getD (x.cursor - 1) 0).natAbs / 100 ∧
      (d.natAbs ≤ 35 * (x.ffe.getD (x.cursor - 1) 0).natAbs / 100 → x.dfeIn d = d) := by
  simp only [HostLane.dfeIn, hon, if_true]
  generalize 35 * (x.ffe.getD (x.cursor - 1) 0).natAbs / 100 = m
  omega

/-- A lane that has its peaking and its FFE coefficients, before its DFE tap. -/
def HostLane.equalised (x : HostLane) (snrs ffe : List Int) : HostLane :=
  { x with step := 6, ffe := ffe, ctle := if x.warm then x.ctle else if x.ctleSet = autoInt then bestPeaking snrs else x.ctleSet.toNat }

theorem exec_hslEqualisationConverged {s : State} {h : Nat} (snrs ffe : List Int) (dfe : Int) (hin : s.hostIn h 5 = true) :
    exec (.hslEqualisationConverged h snrs ffe dfe) s = .next
      (((s.modHost h fun y => y.equalised snrs ffe).modHost h fun y => { y with dfe := y.dfeIn dfe }).follow) :=
  congrArg Host.Outcome.next (if_pos hin)

theorem hslEqualisationConverged_completes (h : Nat) (snrs ffe : List Int) (dfe : Int) :
    Completes (.hslEqualisationConverged h snrs ffe dfe)
    (fun s => h < s.hosts ∧ (s.hostAt h).state = .acquire ∧ (s.hostAt h).step = 5)
    fun s t => (t.hostAt h).step = 6 ∧ (t.hostAt h).ffe = ffe ∧
      ((s.hostAt h).dfeOn = false → (t.hostAt h).dfe = 0) ∧
      ((s.hostAt h).dfeOn = true → (t.hostAt h).dfe.natAbs ≤ 35 * (ffe.getD ((s.hostAt h).cursor - 1) 0).natAbs / 100 ∧
        (dfe.natAbs ≤ 35 * (ffe.getD ((s.hostAt h).cursor - 1) 0).natAbs / 100 → (t.hostAt h).dfe = dfe)) ∧
      ((s.hostAt h).warm → (t.hostAt h).ctle = (s.hostAt h).ctle) ∧
      ((s.hostAt h).warm = false → (s.hostAt h).ctleSet ≠ autoInt → (t.hostAt h).ctle = (s.hostAt h).ctleSet.toNat) ∧
      ((s.hostAt h).warm = false → (s.hostAt h).ctleSet = autoInt → snrs.length = 19 →
        2 ≤ (t.hostAt h).ctle ∧ (t.hostAt h).ctle ≤ 20 ∧ ∀ v ∈ snrs, v ≤ snrs.getD ((t.hostAt h).ctle - 2) 0) := by
  rintro s ⟨hh, hstate, hstep⟩
  refine ⟨_, exec_hslEqualisationConverged snrs ffe dfe (State.hostIn_of hh hstate hstep), ?_⟩
  obtain ⟨tx, timed, hhost⟩ := State.follow_host _ h
  rw [hhost, State.hostAt_modHost_self, State.hostAt_modHost_self]
  have hctle : ((s.hostAt h).equalised snrs ffe).ctle = if (s.hostAt h).warm then (s.hostAt h).ctle
      else if (s.hostAt h).ctleSet = autoInt then bestPeaking snrs else (s.hostAt h).ctleSet.toNat := rfl
  refine ⟨rfl, rfl, fun hoff => HostLane.dfeIn_off (x := (s.hostAt h).equalised snrs ffe) hoff dfe,
    fun hon => HostLane.dfeIn_on (x := (s.hostAt h).equalised snrs ffe) hon dfe, fun hwarm => ?_, fun hcold hset => ?_,
    fun hcold hset hlen => ?_⟩
  · exact hctle.trans (if_pos hwarm)
  · rw [hctle, hcold, if_neg Bool.false_ne_true, if_neg hset]
  · have hbest := bestPeaking_best (snrs := snrs) (by omega)
    rw [hlen] at hbest
    rwa [hctle, hcold, if_neg Bool.false_ne_true, if_pos hset]

/-! The timeout of a warm acquisition (R287). -/

theorem warmAcquisitionTimeout_completes (h : Nat) : Completes (.warmAcquisitionTimeout h)
    (fun s => s.live ∧ h < s.hosts ∧ (s.hostAt h).state = .acquire ∧ (s.hostAt h).warm)
    fun s t => (t.hostAt h).state = .acquire ∧ (t.hostAt h).step = 1 ∧
      (t.hostAt h).warm = decide ((s.hostAt h).warmRuns + 1 < 3) ∧
      t.statAt gHsl h (if (s.hostAt h).warmRuns + 1 < 3 then 1 else 0) =
        (s.statAt gHsl h (if (s.hostAt h).warmRuns + 1 < 3 then 1 else 0)).add 1 := by
  rintro s ⟨hlive, hh, hstate, hwarm⟩
  refine ⟨_, congrArg Host.Outcome.next (if_pos ⟨hh, hstate, hwarm⟩), ?_⟩
  obtain ⟨tx, timed, hhost⟩ := State.follow_host _ h
  rw [hhost, State.follow_statAt]
  by_cases hthird : 3 ≤ (s.hostAt h).warmRuns + 1
  · obtain ⟨hacquire, hone, hcold⟩ := State.hostAcquire_host (h := h) false hlive
    rw [if_pos hthird, decide_eq_false (by omega), if_neg (by omega)]
    exact ⟨hacquire, hone, hcold, State.hostAcquire_statAt h false hlive⟩
  · have hlive' : (s.modHost h fun y => { y with warmRuns := (s.hostAt h).warmRuns + 1 }).live = true := hlive
    obtain ⟨hacquire, hone, hagain⟩ := State.hostAcquire_host (h := h) true hlive'
    rw [if_neg hthird, decide_eq_true (by omega), if_pos (by omega)]
    exact ⟨hacquire, hone, hagain, State.hostAcquire_statAt h true hlive'⟩

/-- Settles O19, from one lemma for each of its nine clauses. -/
theorem hostAcquisitionCompletes : Obligations.HostAcquisitionCompletes :=
  ⟨hslSignalDetect_completes, hslClockRecoveryLocked_completes, trainingFrameLock_completes, trainingWaitExpiry_completes,
    trainingComplete_completes, trainingComplete_completes_of_fallback, trainingTimeout_completes,
    hslEqualisationConverged_completes, warmAcquisitionTimeout_completes⟩

end Sys2Proof.Machine
end

section
/-! PROOFS. Training requests of a host lane (O20; R261 to R263, R266, R267): the requests that the receiver sends after a
measurement, and the taps of the transmitter after a partner's request. -/

namespace Sys2Proof.Machine

/-! Requests to the partner (R266). -/

/-- A lane after its next request. -/
def HostLane.asks (x : HostLane) (tap trying : Nat) (q : PartnerReq) : HostLane :=
  { x with tapIdx := tap, trying := trying, asked := some q, requests := x.requests + 1 }

/-- A request for a tap counts as item 7 of the lane and moves no other lane. -/
theorem State.askTap_spec {s : State} {h : Nat} (tap : Nat) {trying : Nat} (htap : trying ≠ 0) (hfew : (s.hostAt h).requests < 64) :
    (s.askTap h tap trying).hostAt h =
        (s.hostAt h).asks tap trying (.tap ([2, 0, 1].getD tap 1) (trying == 1 || trying == 4)) ∧
      (∀ k, k ≠ h → (s.askTap h tap trying).hostAt k = s.hostAt k) ∧
      (s.askTap h tap trying).statAt gHsl h 7 = (s.statAt gHsl h 7).add 1 ∧
      (s.askTap h tap trying).statAt gHsl h 8 = s.statAt gHsl h 8 := by
  rw [State.askTap_of_few hfew]
  refine ⟨?_, fun k hk => (State.hostAt_bump ..).trans (State.hostAt_modHost_other s hk _), State.statAt_bump_self ..,
    State.statAt_bump_other _ _ _ _ _ (by decide)⟩
  rw [State.hostAt_bump, State.hostAt_modHost_self, State.request]
  · rfl
  · exact htap

/-! The measurement after a request. -/

/-- A lane that keeps the change of a tap for the SNR that it brought. -/
def HostLane.improved (x : HostLane) (snr : Int) : HostLane := { x with lastSnr := snr, kept := true }

section
variable {s : State} {h : Nat}

/-- After an increment that brings less than 0.05 dB the request undoes it. -/
theorem exec_trainingMeasurementDone_of_worse {snr : Int} (hin : s.hostIn h 4 = true) (hready : (s.hostAt h).ready = false)
    (htrying : (s.hostAt h).trying = 1) (hsnr : snr < (s.hostAt h).lastSnr + 5) :
    exec (.trainingMeasurementDone h snr false) s = .next (s.askTap h (s.hostAt h).tapIdx 2) := by
  change execTrainingMeasurementDone h snr false s = _
  rw [execTrainingMeasurementDone]
  simp [hin, hready, htrying, hsnr]

/-- After an increment that brings 0.05 dB and more the pass goes on to the next tap. -/
theorem exec_trainingMeasurementDone_of_better {snr : Int} (hin : s.hostIn h 4 = true) (hready : (s.hostAt h).ready = false)
    (htrying : (s.hostAt h).trying = 1) (hsnr : (s.hostAt h).lastSnr + 5 ≤ snr) :
    exec (.trainingMeasurementDone h snr false) s = .next ((s.modHost h fun y => y.improved snr).nextTap h) := by
  change execTrainingMeasurementDone h snr false s = _
  rw [execTrainingMeasurementDone]
  simp [hin, hready, htrying, hsnr, HostLane.improved]

/-- After the undoing of a decrement the pass goes on to the next tap. -/
theorem exec_trainingMeasurementDone_of_undone (snr : Int) (hin : s.hostIn h 4 = true) (hready : (s.hostAt h).ready = false)
    (htrying : (s.hostAt h).trying = 4) : exec (.trainingMeasurementDone h snr false) s = .next (s.nextTap h) := by
  change execTrainingMeasurementDone h snr false s = _
  rw [execTrainingMeasurementDone]
  simp [hin, hready, htrying]

/-- After an increment at the partner's limit the request is a decrement, with nothing to undo. -/
theorem exec_trainingMeasurementDone_of_limit (snr : Int) (hin : s.hostIn h 4 = true) (hready : (s.hostAt h).ready = false)
    (htrying : (s.hostAt h).trying = 1) :
    exec (.trainingMeasurementDone h snr true) s = .next ((s.bump gHsl h 8).askTap h (s.hostAt h).tapIdx 3) := by
  change execTrainingMeasurementDone h snr true s = _
  rw [execTrainingMeasurementDone]
  simp [hin, hready, htrying]

end

theorem trainingMeasurementDone_completes_of_worse (h : Nat) (snr : Int) : Completes (.trainingMeasurementDone h snr false)
    (fun s => h < s.hosts ∧ (s.hostAt h).state = .acquire ∧ (s.hostAt h).step = 4 ∧ (s.hostAt h).ready = false ∧
      (s.hostAt h).trying = 1 ∧ (s.hostAt h).requests < 64 ∧ snr < (s.hostAt h).lastSnr + 5)
    fun s t => t.hostAt h = { s.hostAt h with
        trying := 2, requests := (s.hostAt h).requests + 1,
        asked := some (.tap ([2, 0, 1].getD (s.hostAt h).tapIdx 1) false) } ∧
      t.statAt gHsl h 7 = (s.statAt gHsl h 7).add 1 ∧ ∀ k, k ≠ h → t.hostAt k = s.hostAt k := by
  rintro s ⟨hh, hstate, hstep, hready, htrying, hfew, hsnr⟩
  obtain ⟨hself, hothers, hcount, -⟩ := State.askTap_spec (s.hostAt h).tapIdx (trying := 2) (by decide) hfew
  exact ⟨_, exec_trainingMeasurementDone_of_worse (State.hostIn_of hh hstate hstep) hready htrying hsnr, hself, hcount, hothers⟩

theorem trainingMeasurementDone_completes_of_better (h : Nat) (snr : Int) : Completes (.trainingMeasurementDone h snr false)
    (fun s => h < s.hosts ∧ (s.hostAt h).state = .acquire ∧ (s.hostAt h).step = 4 ∧ (s.hostAt h).ready = false ∧
      (s.hostAt h).trying = 1 ∧ (s.hostAt h).requests < 64 ∧ (s.hostAt h).tapIdx < 2 ∧ (s.hostAt h).lastSnr + 5 ≤ snr)
    fun s t => t.hostAt h = { s.hostAt h with
        lastSnr := snr, kept := true, tapIdx := (s.hostAt h).tapIdx + 1, requests := (s.hostAt h).requests + 1,
        asked := some (.tap ([2, 0, 1].getD ((s.hostAt h).tapIdx + 1) 1) true) } ∧
      ∀ k, k ≠ h → t.hostAt k = s.hostAt k := by
  rintro s ⟨hh, hstate, hstep, hready, htrying, hfew, htap, hsnr⟩
  have hkept : (s.modHost h fun y => y.improved snr).hostAt h = (s.hostAt h).improved snr := State.hostAt_modHost_self ..
  have hnext : (s.modHost h fun y => y.improved snr).nextTap h =
      (s.modHost h fun y => y.improved snr).askTap h ((s.hostAt h).tapIdx + 1) 1 := by
    rw [State.nextTap, hkept]
    exact if_pos htap
  obtain ⟨hself, hothers, -, -⟩ := State.askTap_spec (s := s.modHost h fun y => y.improved snr)
    ((s.hostAt h).tapIdx + 1) (trying := 1) (by decide) (by rw [hkept]; exact hfew)
  refine ⟨_, (exec_trainingMeasurementDone_of_better (State.hostIn_of hh hstate hstep) hready htrying hsnr).trans
    (congrArg Host.Outcome.next hnext), hself.trans ?_, fun k hk => (hothers k hk).trans (State.hostAt_modHost_other s hk _)⟩
  rw [hkept]
  simp only [HostLane.asks, HostLane.improved, htrying]
  rfl

theorem trainingMeasurementDone_completes_of_last (h : Nat) (snr : Int) : Completes (.trainingMeasurementDone h snr false)
    (fun s => h < s.hosts ∧ (s.hostAt h).state = .acquire ∧ (s.hostAt h).step = 4 ∧ (s.hostAt h).ready = false ∧
      (s.hostAt h).trying = 4 ∧ (s.hostAt h).tapIdx = 2 ∧ (s.hostAt h).kept = false)
    fun s t => t.hostAt h = { s.hostAt h with ready := true } ∧ ∀ k, k ≠ h → t.hostAt k = s.hostAt k := by
  rintro s ⟨hh, hstate, hstep, hready, htrying, htap, hkept⟩
  have hnext : s.nextTap h = s.modHost h fun y => { y with ready := true } := by simp [State.nextTap, htap, hkept]
  refine ⟨_, (exec_trainingMeasurementDone_of_undone snr (State.hostIn_of hh hstate hstep) hready htrying).trans (by rw [hnext]), ?_⟩
  exact ⟨State.hostAt_modHost_self .., fun k hk => State.hostAt_modHost_other s hk _⟩

theorem trainingMeasurementDone_completes_of_limit (h : Nat) (snr : Int) : Completes (.trainingMeasurementDone h snr true)
    (fun s => h < s.hosts ∧ (s.hostAt h).state = .acquire ∧ (s.hostAt h).step = 4 ∧ (s.hostAt h).ready = false ∧
      (s.hostAt h).trying = 1 ∧ (s.hostAt h).requests < 64)
    fun s t => t.hostAt h = { s.hostAt h with
        trying := 3, requests := (s.hostAt h).requests + 1,
        asked := some (.tap ([2, 0, 1].getD (s.hostAt h).tapIdx 1) false) } ∧
      t.statAt gHsl h 8 = (s.statAt gHsl h 8).add 1 ∧ ∀ k, k ≠ h → t.hostAt k = s.hostAt k := by
  rintro s ⟨hh, hstate, hstep, hready, htrying, hfew⟩
  obtain ⟨hself, hothers, -, hlimit⟩ :=
    State.askTap_spec (s := s.bump gHsl h 8) (h := h) (s.hostAt h).tapIdx (trying := 3) (by decide) hfew
  exact ⟨_, exec_trainingMeasurementDone_of_limit snr (State.hostIn_of hh hstate hstep) hready htrying, hself,
    hlimit.trans (State.statAt_bump_self ..), hothers⟩

/-! Requests of the partner (R261 to R263, R267). -/

/-- A request leaves the taps within their limits. -/
theorem tapsOk_tapsAfter {q : PartnerReq} {t : Int × Int × Int} (ht : tapsOk t.1 t.2.1 t.2.2 = true) :
    tapsOk (tapsAfter q t).1 (tapsAfter q t).2.1 (tapsAfter q t).2.2 = true := by
  unfold tapsAfter
  extract_lets new
  split
  · assumption
  · exact ht

/-- A decrement of c-1 that the limits bar changes nothing and is answered so. -/
theorem tapsAfter_of_limit {c0 c1 : Int} : tapsAfter (.tap 0 false) (-16, c0, c1) = (-16, c0, c1) := by
  simp [tapsAfter, tapsOk]

/-- A decrement of c-1 moves c0 with it, as their sum is bound (R261). -/
theorem tapsAfter_of_room {cm1 c0 c1 : Int} (hok : tapsOk cm1 c0 c1 = true) (hroom : -16 < cm1) (hmain : 32 < c0) :
    tapsAfter (.tap 0 false) (cm1, c0, c1) = (cm1 - 1, c0 - 1, c1) := by
  have hmoved : tapsOk (cm1 - 1) (c0 - 1) c1 = true := by
    simp only [tapsOk, decide_eq_true_eq] at hok ⊢
    omega
  exact if_pos hmoved

theorem tapsAfter_preset_three (t : Int × Int × Int) : tapsAfter (.preset 3) t = (-6, 48, -10) := rfl

/-- A preset other than 1 to 5 changes nothing. -/
theorem tapsAfter_preset_six (t : Int × Int × Int) : tapsAfter (.preset 6) t = t := by simp [tapsAfter]

/-- A lane after a partner's request. -/
def HostLane.answers (x : HostLane) (q : PartnerReq) : HostLane :=
  { x with
    cm1 := (tapsAfter q (x.cm1, x.c0, x.c1)).1, c0 := (tapsAfter q (x.cm1, x.c0, x.c1)).2.1
    c1 := (tapsAfter q (x.cm1, x.c0, x.c1)).2.2, answer := answerTo q (x.cm1, x.c0, x.c1) }

theorem exec_partnerRequest {s : State} {h : Nat} (q : PartnerReq) (hin : s.hostIn h 4 = true) :
    exec (.partnerRequest h q) s = .next (s.modHost h fun _ => (s.hostAt h).answers q) :=
  congrArg Host.Outcome.next (if_pos hin)

theorem partnerRequest_completes (h : Nat) (q : PartnerReq) : Completes (.partnerRequest h q)
    (fun s => h < s.hosts ∧ (s.hostAt h).state = .acquire ∧ (s.hostAt h).step = 4 ∧
      tapsOk (s.hostAt h).cm1 (s.hostAt h).c0 (s.hostAt h).c1)
    fun s t => tapsOk (t.hostAt h).cm1 (t.hostAt h).c0 (t.hostAt h).c1 ∧
      (q = .tap 0 false → (s.hostAt h).cm1 = -16 → t.hostAt h = { s.hostAt h with answer := .atLimit }) ∧
      (q = .tap 0 false → -16 < (s.hostAt h).cm1 → 32 < (s.hostAt h).c0 →
        t.hostAt h = { s.hostAt h with cm1 := (s.hostAt h).cm1 - 1, c0 := (s.hostAt h).c0 - 1, answer := .updated }) ∧
      (q = .preset 3 → t.hostAt h = { s.hostAt h with cm1 := -6, c0 := 48, c1 := -10, answer := .updated }) ∧
      (q = .preset 6 → t.hostAt h = { s.hostAt h with answer := .notSupported }) ∧ ∀ k, k ≠ h → t.hostAt k = s.hostAt k := by
  rintro s ⟨hh, hstate, hstep, hok⟩
  refine ⟨_, exec_partnerRequest q (State.hostIn_of hh hstate hstep), ?_⟩
  beta_reduce
  rw [State.hostAt_modHost_self]
  generalize s.hostAt h = x at hok ⊢
  refine ⟨tapsOk_tapsAfter hok, ?_, ?_, ?_, ?_, fun k hk => State.hostAt_modHost_other s hk _⟩
  · rintro rfl hlimit
    rw [HostLane.answers, answerTo, hlimit, tapsAfter_of_limit, if_pos rfl, ← hlimit]
  · rintro rfl hroom hmain
    have hmoves : (x.cm1 - 1, x.c0 - 1, x.c1) ≠ (x.cm1, x.c0, x.c1) := by simp
    rw [HostLane.answers, answerTo, tapsAfter_of_room hok hroom hmain, if_neg hmoves]
  · rintro rfl
    rfl
  · rintro rfl
    rw [HostLane.answers, tapsAfter_preset_six]
    rfl

/-- Settles O20, from one lemma for each of its five clauses. -/
theorem trainingRequestsComplete : Obligations.TrainingRequestsComplete :=
  ⟨trainingMeasurementDone_completes_of_worse, trainingMeasurementDone_completes_of_better,
    trainingMeasurementDone_completes_of_last, trainingMeasurementDone_completes_of_limit, partnerRequest_completes⟩

end Sys2Proof.Machine
end

section
/-! PROOFS. Losses and recovery of host lanes and their figures (O22, its first part; R254, R256, R259, R260, R270, R280, R286, R293). -/

namespace Sys2Proof.Machine

/-! A lane that enters FAULT, when all has followed. -/

theorem State.hostFault_frame (s : State) (h : Nat) (cause : HostCause) (ev : Nat) : Keep 0x2c1e0300 s (s.hostFault h cause ev) :=
  s.hostFault_keep h cause ev rfl (Keep.refl _ _)

theorem State.hostFault_follow_frame (s : State) (h : Nat) (cause : HostCause) (ev : Nat) :
    Keep 0x2603f9e5b08 s (s.hostFault h cause ev).follow :=
  State.follow_keep _ rfl ((s.hostFault_frame h cause ev).step rfl (Keep.refl _ _))

/-- The lane is in FAULT with its cause. -/
theorem State.hostFault_follow_host {s : State} (h : Nat) (cause : HostCause) (ev : Nat) (hlive : s.live = true) :
    ∃ tx timed, (s.hostFault h cause ev).follow.hostAt h =
      { (s.hostAt h).faulted cause with tx := tx, localTimed := timed } := by
  obtain ⟨tx, timed, hhost⟩ := (s.hostFault h cause ev).follow_host h
  exact ⟨tx, timed, by rw [hhost, State.hostFault_host h cause ev hlive]⟩

/-- The counts of the lane's items other than 0 and 3 stand. -/
theorem State.hostFault_follow_statAt (s : State) (h : Nat) (cause : HostCause) (ev g j : Nat) {i : Nat} (hline : i % 32 ≠ 0)
    (hhost : i % 32 ≠ 3) : (s.hostFault h cause ev).follow.statAt g j i = s.statAt g j i :=
  (State.follow_statAt ..).trans (s.hostFault_statAt h cause ev g j hline hhost)

/-! Loss of signal (R260, R270). -/

/-- The loss of a signal with its count and its event (R296). -/
def State.signalLost (s : State) (h : Nat) : State :=
  ((s.modHost h fun y => { y with sigLoss := true }).bump gHsl h 9).raise evHslSignalLost
    [Word.nat h, Word.nat (s.hostAt h).state.num]

theorem State.signalLost_host (s : State) (h : Nat) : (s.signalLost h).hostAt h = { s.hostAt h with sigLoss := true } := by
  rw [State.signalLost, State.raise_hostAt, State.hostAt_bump, State.hostAt_modHost_self]

theorem State.signalLost_statAt (s : State) (h : Nat) : (s.signalLost h).statAt gHsl h 9 = (s.statAt gHsl h 9).add 1 ∧
    (s.signalLost h).statAt gHsl h 5 = s.statAt gHsl h 5 := by
  refine ⟨(State.raise_statAt ..).trans (State.statAt_bump_self ..), (State.raise_statAt ..).trans ?_⟩
  exact State.statAt_bump_other _ _ _ _ _ (by decide)

theorem exec_signalLoss_of_up {s : State} {h : Nat} (hh : h < s.hosts) (hup : (s.hostAt h).state = .up)
    (hheard : (s.hostAt h).sigLoss = false) :
    exec (.signalLoss h) s = .next ((s.signalLost h).hostFault h .signal evHslSignalLost).follow := by
  change execSignalLoss h s = _
  rw [execSignalLoss, if_pos ⟨hh, by simp [hup], by simp [hheard]⟩]
  simp only [hup]
  rw [← hup]
  rfl

/-- An acquisition that loses its signal goes back to step 1. -/
def HostLane.backToOne (x : HostLane) : HostLane :=
  { x with step := 1, amLock := false, ready := false, requests := 0, fellBack := false }

theorem exec_signalLoss_of_acquire {s : State} {h : Nat} (hh : h < s.hosts) (hacquire : (s.hostAt h).state = .acquire)
    (hheard : (s.hostAt h).sigLoss = false) :
    exec (.signalLoss h) s = .next (((s.signalLost h).modHost h HostLane.backToOne).bump gHsl h 5).follow := by
  change execSignalLoss h s = _
  rw [execSignalLoss, if_pos ⟨hh, by simp [hacquire], by simp [hheard]⟩]
  simp only [hacquire]
  rw [← hacquire]
  rfl

theorem signalLoss_completes_of_up (h : Nat) : Completes (.signalLoss h)
    (fun s => s.live ∧ h < s.hosts ∧ (s.hostAt h).state = .up ∧ (s.hostAt h).sigLoss = false ∧ s.hears)
    fun s t => (t.hostAt h).state = .fault ∧ (t.hostAt h).cause = .signal ∧ t.statAt gHsl h 9 = (s.statAt gHsl h 9).add 1 ∧
      Raises s t evHslSignalLost [Word.nat h, Word.nat (s.hostAt h).state.num] := by
  rintro s ⟨hlive, hh, hup, hheard, hears⟩
  have hnamed : (s.signalLost h).live = true := ((State.raise_frame ..).live_eq rfl).trans hlive
  obtain ⟨tx, timed, hhost⟩ := State.hostFault_follow_host h .signal evHslSignalLost hnamed
  refine ⟨_, exec_signalLoss_of_up hh hup hheard, ?_⟩
  beta_reduce
  rw [hhost, State.hostFault_follow_statAt _ _ _ _ _ _ (by decide) (by decide)]
  exact ⟨rfl, rfl, (s.signalLost_statAt h).1, Raises.of_keep (m := 0xc020000) hears
    (Keep.bump rfl (Keep.modHost (.inl rfl) rfl (Keep.refl _ _))) rfl (State.hostFault_follow_frame ..) rfl⟩

theorem signalLoss_completes_of_acquire (h : Nat) : Completes (.signalLoss h)
    (fun s => h < s.hosts ∧ (s.hostAt h).state = .acquire ∧ (s.hostAt h).sigLoss = false)
    fun s t => (t.hostAt h).state = .acquire ∧ (t.hostAt h).step = 1 ∧ t.statAt gHsl h 5 = (s.statAt gHsl h 5).add 1 ∧
      (t.hostAt h).cm1 = (s.hostAt h).cm1 ∧ (t.hostAt h).c0 = (s.hostAt h).c0 ∧ (t.hostAt h).c1 = (s.hostAt h).c1 := by
  rintro s ⟨hh, hacquire, hheard⟩
  obtain ⟨tx, timed, hhost⟩ := State.follow_host (((s.signalLost h).modHost h HostLane.backToOne).bump gHsl h 5) h
  refine ⟨_, exec_signalLoss_of_acquire hh hacquire hheard, ?_⟩
  beta_reduce
  rw [hhost, State.hostAt_bump, State.hostAt_modHost_self, State.signalLost_host, State.follow_statAt, State.statAt_bump_self,
    State.statAt_modHost, (s.signalLost_statAt h).2]
  exact ⟨hacquire, rfl, rfl, rfl, rfl, rfl⟩

/-! Loss of lock, of the elastic buffer's place and of the markers (R254, R260, R280). -/

theorem hslSnrWindowEnd_completes_of_freqOut (h snr : Nat) : Completes (.hslSnrWindowEnd h snr true)
    (fun s => s.live ∧ h < s.hosts ∧ (s.hostAt h).state = .up ∧ s.hears)
    fun s t => (t.hostAt h).state = .fault ∧ (t.hostAt h).cause = .lock ∧ (t.hostAt h).recover = true ∧
      t.statAt gHsl h 10 = (s.statAt gHsl h 10).add 1 ∧ Raises s t evHslLockLost [Word.nat h, Word.nat 1] := by
  rintro s ⟨hlive, hh, hup, hears⟩
  have hnamed : ((s.bump gHsl h 10).raise evHslLockLost [Word.nat h, Word.nat 1]).live = true :=
    ((State.raise_frame ..).live_eq rfl).trans hlive
  obtain ⟨tx, timed, hhost⟩ := State.hostFault_follow_host h .lock evHslLockLost hnamed
  refine ⟨s.hostLockLost h 1, congrArg Host.Outcome.next ((if_pos ⟨hh, hup⟩).trans (if_pos rfl)), ?_⟩
  dsimp only [State.hostLockLost]
  rw [hhost, State.hostFault_follow_statAt _ _ _ _ _ _ (by decide) (by decide), State.raise_statAt,
    State.statAt_bump_self]
  exact ⟨rfl, rfl, rfl, rfl,
    Raises.of_keep (m := 0x20000) hears (Keep.bump rfl (Keep.refl _ _)) rfl (State.hostFault_follow_frame ..) rfl⟩

theorem exec_elasticBufferSlip_of_up {s : State} {h : Nat} {c : PortCfg} (high : Bool) (hcfg : s.hostCfg h = some c)
    (hup : (s.hostAt h).state = .up) (hprofile : c.profile ≠ .terminate) : exec (.elasticBufferSlip h high) s = .next
      ((((s.modHost h fun y => { y with elastic := if high then 128 else -128 }).bump gHsl h 11).raise evHslSlip
        [Word.nat h, Word.flag high]).hostFault h .slip evHslSlip).follow := by
  change execElasticBufferSlip h high s = _
  simp only [execElasticBufferSlip, hcfg]
  rw [if_pos ⟨hup, hprofile⟩]

theorem elasticBufferSlip_completes (h : Nat) (high : Bool) (c : PortCfg) : Completes (.elasticBufferSlip h high)
    (fun s => s.live ∧ s.hostCfg h = some c ∧ (s.hostAt h).state = .up ∧ c.profile ≠ .terminate ∧ s.hears)
    fun s t => (t.hostAt h).state = .fault ∧ (t.hostAt h).cause = .slip ∧ Raises s t evHslSlip [Word.nat h, Word.flag high] := by
  rintro s ⟨hlive, hcfg, hup, hprofile, hears⟩
  have hnamed : (((s.modHost h fun y => { y with elastic := if high then 128 else -128 }).bump gHsl h 11).raise evHslSlip
      [Word.nat h, Word.flag high]).live = true := ((State.raise_frame ..).live_eq rfl).trans hlive
  obtain ⟨tx, timed, hhost⟩ := State.hostFault_follow_host h .slip evHslSlip hnamed
  refine ⟨_, exec_elasticBufferSlip_of_up high hcfg hup hprofile, ?_⟩
  beta_reduce
  rw [hhost]
  exact ⟨rfl, rfl, Raises.of_keep (m := 0xc020000) hears (Keep.bump rfl (Keep.modHost (.inl rfl) rfl (Keep.refl _ _))) rfl
    (State.hostFault_follow_frame ..) rfl⟩

/-- Terminate has no elastic buffer that could slip (R255). -/
theorem elasticBufferSlip_completes_of_terminate (h : Nat) (high : Bool) (c : PortCfg) : Completes (.elasticBufferSlip h high)
    (fun s => s.hostCfg h = some c ∧ c.profile = .terminate) fun s t => t = s := by
  rintro s ⟨hcfg, hprofile⟩
  refine ⟨s, ?_, rfl⟩
  change execElasticBufferSlip h high s = _
  simp only [execElasticBufferSlip, hcfg]
  rw [if_neg fun hslips => hslips.2 hprofile]

theorem amLockLoss_completes (h pcs : Nat) : Completes (.amLockLoss h pcs)
    (fun s => s.live ∧ h < s.hosts ∧ (s.hostAt h).state = .up ∧ s.hears)
    fun s t => (t.hostAt h).state = .fault ∧ (t.hostAt h).cause = .amLock ∧ (t.hostAt h).amLock = false ∧
      Raises s t evHslAmLockLost [Word.nat h, Word.nat pcs] := by
  rintro s ⟨hlive, hh, hup, hears⟩
  have hnamed : (((s.modHost h fun y => { y with amLock := false }).bump gHsl h 12).raise evHslAmLockLost
      [Word.nat h, Word.nat pcs]).live = true := ((State.raise_frame ..).live_eq rfl).trans hlive
  obtain ⟨tx, timed, hhost⟩ := State.hostFault_follow_host h .amLock evHslAmLockLost hnamed
  refine ⟨_, congrArg Host.Outcome.next (if_pos ⟨hh, hup⟩), ?_⟩
  dsimp only
  rw [hhost, State.raise_hostAt, State.hostAt_bump, State.hostAt_modHost_self]
  exact ⟨rfl, rfl, rfl, Raises.of_keep (m := 0xc020000) hears (Keep.bump rfl (Keep.modHost (.inl rfl) rfl (Keep.refl _ _))) rfl
    (State.hostFault_follow_frame ..) rfl⟩

/-! Recovery (R286). -/

theorem amLockRegained_completes (h : Nat) : Completes (.amLockRegained h)
    (fun s => h < s.hosts ∧ (s.hostAt h).state = .fault ∧ (s.hostAt h).cause = .amLock)
    fun s t => t.hostAt h = { s.hostAt h with amLock := true, recover := true } ∧ ∀ k, k ≠ h → t.hostAt k = s.hostAt k := by
  rintro s ⟨hh, hfault, hcause⟩
  exact ⟨_, congrArg Host.Outcome.next (if_pos ⟨hh, hfault, hcause⟩), State.hostAt_modHost_self ..,
    fun k hk => State.hostAt_modHost_other s hk _⟩

theorem faultRecoveryTimer_completes (h : Nat) : Completes (.faultRecoveryTimer h)
    (fun s => s.live ∧ h < s.hosts ∧ (s.hostAt h).state = .fault ∧ (s.hostAt h).recover)
    fun s t => (t.hostAt h).state = .acquire ∧ (t.hostAt h).warm = true ∧ (t.hostAt h).step = 1 ∧
      (t.hostAt h).cm1 = (s.hostAt h).cm1 ∧ (t.hostAt h).ctle = (s.hostAt h).ctle ∧ (t.hostAt h).polInv = (s.hostAt h).polInv := by
  rintro s ⟨hlive, hh, hfault, hrecover⟩
  obtain ⟨tx, timed, hhost⟩ := State.follow_host (s.hostAcquire h true) h
  obtain ⟨hacquire, hone, hwarm⟩ := State.hostAcquire_host (h := h) true hlive
  refine ⟨_, congrArg Host.Outcome.next (if_pos ⟨hh, hfault, hrecover⟩), ?_⟩
  beta_reduce
  rw [hhost]
  exact ⟨hacquire, hwarm, hone, State.hostAcquire_warm_host hlive⟩

/-! The end of a period (R256, R259, R293). -/

/-- The LMS updates of a period move the FFE and the DFE alone. -/
theorem HostLane.foldl_adapt (x : HostLane) (ups : List HostUpdate) :
    ∃ ffe dfe, ups.foldl HostLane.adapt x = { x with ffe := ffe, dfe := dfe } := by
  induction ups generalizing x with
  | nil => exact ⟨x.ffe, x.dfe, rfl⟩
  | cons u ups ih =>
    obtain ⟨ffe, dfe, hrest⟩ := ih (x.adapt u)
    exact ⟨ffe, dfe, hrest⟩

/-- A lane at the end of a period: its figures, and the equaliser that the updates moved. -/
def HostLane.periodEnded (x : HostLane) (run : Bool) (snr : Nat) (offset : Int) (ups : List HostUpdate) : HostLane :=
  { (if run then ups.foldl HostLane.adapt x else x) with
    snr := snr, offset := offset, disturbed := !(x.wasUp && x.state = .up), wasUp := x.state = .up, periods := x.periods + 1 }

theorem HostLane.periodEnded_state (x : HostLane) (run : Bool) (snr : Nat) (offset : Int) (ups : List HostUpdate) :
    (x.periodEnded run snr offset ups).state = x.state := by
  obtain ⟨ffe, dfe, hadapted⟩ := x.foldl_adapt ups
  cases run <;> simp [HostLane.periodEnded, hadapted]

/-- The lane's figures and the count of RS symbols of a period in UP. -/
def State.upPeriod (s : State) (h snr : Nat) (offset : Int) (ups : List HostUpdate) (rs : Nat) (p : Profile) : State :=
  if p ≠ .transparent then
    (s.modHost h fun y => y.periodEnded (s.parN nHslCfg h 12 == 0) snr offset ups).bumpBy gHsl h 13 rs
  else s.modHost h fun y => y.periodEnded (s.parN nHslCfg h 12 == 0) snr offset ups

theorem exec_hslPeriodEnd_of_up {s : State} {h : Nat} {c : PortCfg} (snr : Nat) (off lo hi : Int) (ups : List HostUpdate)
    (rs errs : Nat) (hh : h < s.hosts) (hup : (s.hostAt h).state = .up) (hcfg : s.hostCfg h = some c)
    (hoff : offsetLimit c.profile < off.natAbs) : exec (.hslPeriodEnd h snr off lo hi ups rs errs) s = .next
      ((s.upPeriod h snr off ups rs c.profile).raise evHslRefOffset
        [Word.nat h, Word.int off, Word.flag (decide (10000 < hi - lo))]) := by
  change execHslPeriodEnd h snr off lo hi s ups rs errs = _
  rw [execHslPeriodEnd, if_pos ⟨hh, by simp [hup]⟩]
  simp only [hup, hcfg, if_pos hoff]
  simp [State.upPeriod, HostLane.periodEnded]

theorem State.upPeriod_host (s : State) (h snr : Nat) (offset : Int) (ups : List HostUpdate) (rs : Nat) (p : Profile) :
    (s.upPeriod h snr offset ups rs p).hostAt h = (s.hostAt h).periodEnded (s.parN nHslCfg h 12 == 0) snr offset ups := by
  unfold State.upPeriod
  split
  · rw [State.hostAt_bumpBy, State.hostAt_modHost_self]
  · rw [State.hostAt_modHost_self]

theorem hslPeriodEnd_completes_of_up (h snr : Nat) (off lo hi : Int) (ups : List HostUpdate) (rs errs : Nat) (c : PortCfg) :
    Completes (.hslPeriodEnd h snr off lo hi ups rs errs)
    (fun s => h < s.hosts ∧ (s.hostAt h).state = .up ∧ s.hostCfg h = some c ∧
      (if c.profile = .terminate then 2000 else 20) < off.natAbs ∧ s.hears)
    fun s t => (t.hostAt h).snr = snr ∧ (t.hostAt h).offset = off ∧ (t.hostAt h).state = .up ∧
      (t.hostAt h).disturbed = !(s.hostAt h).wasUp ∧
      (s.parN nHslCfg h 12 ≠ 0 → (t.hostAt h).ffe = (s.hostAt h).ffe ∧ (t.hostAt h).dfe = (s.hostAt h).dfe) ∧
      (s.parN nHslCfg h 12 = 0 → (t.hostAt h).ffe = (ups.foldl HostLane.adapt (s.hostAt h)).ffe ∧
        (t.hostAt h).dfe = (ups.foldl HostLane.adapt (s.hostAt h)).dfe) ∧
      (c.profile ≠ .transparent → t.statAt gHsl h 13 = (s.statAt gHsl h 13).add rs) ∧
      Raises s t evHslRefOffset [Word.nat h, Word.int off, Word.flag (decide (10000 < hi - lo))] := by
  rintro s ⟨hh, hup, hcfg, hoff, hears⟩
  refine ⟨_, exec_hslPeriodEnd_of_up snr off lo hi ups rs errs hh hup hcfg hoff, ?_⟩
  beta_reduce
  rw [State.raise_hostAt, State.upPeriod_host, State.raise_statAt]
  refine ⟨rfl, rfl, (HostLane.periodEnded_state ..).trans hup, ?_, fun hfrozen => ?_, fun hrun => ?_, fun hcounted => ?_, ?_⟩
  · simp [HostLane.periodEnded, hup]
  · simp [HostLane.periodEnded, hfrozen]
  · simp [HostLane.periodEnded, hrun]
  · rw [State.upPeriod, if_pos hcounted, State.statAt_bumpBy_self, State.statAt_modHost]
  · have hlane (f : HostLane → HostLane) : Keep 0xc020000 s (s.modHost h f) := Keep.modHost (.inl rfl) rfl (Keep.refl _ _)
    exact Raises.of_keep hears (Keep.ite (Keep.bumpBy rfl (hlane _)) (hlane _)) rfl (Keep.refl 0 _) rfl

theorem exec_hslPeriodEnd_of_test {s : State} {h : Nat} (snr : Nat) (off lo hi : Int) (ups : List HostUpdate) (rs errs : Nat)
    (hh : h < s.hosts) (htest : (s.hostAt h).state = .test) : ∃ t, exec (.hslPeriodEnd h snr off lo hi ups rs errs) s = .next t ∧
      Keep 0x300 ((s.modHost h fun y => y.periodEnded false snr off ups).bumpBy gHsl h 14 errs) t := by
  change ∃ t, execHslPeriodEnd h snr off lo hi s ups rs errs = _ ∧ _
  rw [execHslPeriodEnd, if_pos ⟨hh, by simp [htest]⟩]
  refine ⟨_, rfl, ?_⟩
  simp only [htest]
  split
  · exact Keep.refl _ _
  · exact Keep.ite (State.raise_frame ..) (Keep.refl _ _)

theorem hslPeriodEnd_completes_of_test (h snr : Nat) (off lo hi : Int) (ups : List HostUpdate) (rs errs : Nat) :
    Completes (.hslPeriodEnd h snr off lo hi ups rs errs) (fun s => h < s.hosts ∧ (s.hostAt h).state = .test)
    fun s t => (t.hostAt h).snr = snr ∧ (t.hostAt h).offset = off ∧ (t.hostAt h).ffe = (s.hostAt h).ffe ∧
      t.statAt gHsl h 14 = (s.statAt gHsl h 14).add errs := by
  rintro s ⟨hh, htest⟩
  obtain ⟨t, hexec, hkeep⟩ := exec_hslPeriodEnd_of_test snr off lo hi ups rs errs hh htest
  have hlane : t.hostAt h = (s.hostAt h).periodEnded false snr off ups := by
    rw [← hkeep.1 .hostTx rfl h, State.hostAt_bumpBy, State.hostAt_modHost_self]
  refine ⟨t, hexec, ?_⟩
  beta_reduce
  rw [hlane, hkeep.statAt_eq rfl, State.statAt_bumpBy_self]
  exact ⟨rfl, rfl, rfl, rfl⟩

end Sys2Proof.Machine
end

section
/-! PROOFS. The block-lock monitor (R282, R283), and with the losses of host lanes O22. -/

namespace Sys2Proof.Machine

/-! One header at the monitor. -/

theorem Block.take_hunt_of_valid {x : Block} (hhunt : x.lock = false) (hrun : 63 ≤ x.run) :
    x.take true = { lock := true, pos := x.pos } := by
  have hlocks : 64 ≤ x.run + 1 := by omega
  simp [Block.take, hhunt, hlocks]

theorem Block.take_hunt_of_invalid {x : Block} (hhunt : x.lock = false) :
    x.take false = { x with pos := (x.pos + 1) % 66, run := 0 } := by
  simp [Block.take, hhunt]

theorem Block.take_lock_of_last {x : Block} (hlock : x.lock = true) (hbad : x.bad = 64) (hseen : x.seen < 1024) :
    x.take false = { lock := false, pos := x.pos } := by
  have hwithin : ¬ 1024 ≤ x.seen := by omega
  simp [Block.take, hlock, hbad, hwithin]

theorem State.watched_of {s : State} {p : Nat} {c : PortCfg} (hcfg : (s.portAt p).cfg = some c) (hprofile : c.profile ≠ .transparent)
    (hstate : (s.portAt p).state = .acquire ∨ (s.portAt p).state = .up ∨ (s.portAt p).state = .fault) : s.watched p = true := by
  simp only [State.watched, hcfg]
  rcases hstate with hstate | hstate | hstate <;> simp [hprofile, hstate]

section
variable {s : State} {p d : Nat} {hdr : BitVec 2}

theorem exec_blockReceived_of_lock (hp : p < s.lines) (hd : d < 2) (hwatched : s.watched p = true) (hvalid : hdr = 1 ∨ hdr = 2)
    (hhunt : (s.blockAt (blockIdx p d)).lock = false) (hrun : 63 ≤ (s.blockAt (blockIdx p d)).run) :
    exec (.blockReceived p d hdr) s = .next ((s.modBlock (blockIdx p d) fun _ =>
      { lock := true, pos := (s.blockAt (blockIdx p d)).pos }).raise evPfxBlockLock [Word.nat p, Word.nat d]).follow := by
  change execBlockReceived p d hdr s = _
  rw [execBlockReceived, if_pos ⟨hp, hd, hwatched⟩]
  simp only [decide_eq_true hvalid, Block.take_hunt_of_valid hhunt hrun, hhunt]
  rfl

theorem exec_blockReceived_of_slip (hp : p < s.lines) (hd : d < 2) (hwatched : s.watched p = true) (hinvalid : ¬ (hdr = 1 ∨ hdr = 2))
    (hhunt : (s.blockAt (blockIdx p d)).lock = false) : exec (.blockReceived p d hdr) s = .next (s.modBlock (blockIdx p d) fun _ =>
      { s.blockAt (blockIdx p d) with pos := ((s.blockAt (blockIdx p d)).pos + 1) % 66, run := 0 }) := by
  change execBlockReceived p d hdr s = _
  rw [execBlockReceived, if_pos ⟨hp, hd, hwatched⟩]
  simp only [decide_eq_false hinvalid, Block.take_hunt_of_invalid hhunt, hhunt]
  rfl

theorem exec_blockReceived_of_loss (hp : p < s.lines) (hd : d < 2) (hwatched : s.watched p = true) (hinvalid : ¬ (hdr = 1 ∨ hdr = 2))
    (hlock : (s.blockAt (blockIdx p d)).lock = true) (hbad : (s.blockAt (blockIdx p d)).bad = 64)
    (hseen : (s.blockAt (blockIdx p d)).seen < 1024) : exec (.blockReceived p d hdr) s = .next
      ((((s.modBlock (blockIdx p d) fun _ => { lock := false, pos := (s.blockAt (blockIdx p d)).pos }).bump gPfx (blockIdx p d) 1).bump
        gPfx (blockIdx p d) 0).raise evPfxBlockLockLost [Word.nat p, Word.nat d]).follow := by
  change execBlockReceived p d hdr s = _
  rw [execBlockReceived, if_pos ⟨hp, hd, hwatched⟩]
  simp only [decide_eq_false hinvalid, Block.take_lock_of_last hlock hbad hseen, hlock]
  rfl

end

theorem invalid_header {hdr : BitVec 2} (h : hdr = 0 ∨ hdr = 3) : ¬ (hdr = 1 ∨ hdr = 2) := by
  rcases h with rfl | rfl <;> decide

theorem Keep.blockAt_eq {m : Nat} {s t : State} (h : Keep m s t) (hm : m.testBit 30 = false) (i : Nat) : t.blockAt i = s.blockAt i :=
  congrArg (fun x : Tbl Block => tget x (fun _ => {}) i) (h.1 .block hm).symm

theorem blockReceived_completes_of_lock (p d : Nat) (hdr : BitVec 2) (c : PortCfg) : Completes (.blockReceived p d hdr)
    (fun s => p < s.lines ∧ d < 2 ∧ (s.portAt p).cfg = some c ∧ c.profile ≠ .transparent ∧
      ((s.portAt p).state = .acquire ∨ (s.portAt p).state = .up ∨ (s.portAt p).state = .fault) ∧ (hdr = 1 ∨ hdr = 2) ∧
      (s.blockAt (blockIdx p d)).lock = false ∧ 63 ≤ (s.blockAt (blockIdx p d)).run ∧ s.hears)
    fun s t => t.blockAt (blockIdx p d) = { lock := true, pos := (s.blockAt (blockIdx p d)).pos } ∧
      Raises s t evPfxBlockLock [Word.nat p, Word.nat d] := by
  rintro s ⟨hp, hd, hcfg, hprofile, hstate, hvalid, hhunt, hrun, hears⟩
  refine ⟨_, exec_blockReceived_of_lock hp hd (State.watched_of hcfg hprofile hstate) hvalid hhunt hrun, ?_, ?_⟩
  · rw [(State.follow_frame _).blockAt_eq rfl, (State.raise_frame ..).blockAt_eq rfl, State.blockAt_modBlock_self]
  · exact Raises.of_keep (m := 0x40000000) hears (Keep.modBlock rfl (Keep.refl _ _)) rfl (State.follow_frame _) rfl

theorem blockReceived_completes_of_slip (p d : Nat) (hdr : BitVec 2) (c : PortCfg) : Completes (.blockReceived p d hdr)
    (fun s => p < s.lines ∧ d < 2 ∧ (s.portAt p).cfg = some c ∧ c.profile ≠ .transparent ∧
      ((s.portAt p).state = .acquire ∨ (s.portAt p).state = .up ∨ (s.portAt p).state = .fault) ∧ (hdr = 0 ∨ hdr = 3) ∧
      (s.blockAt (blockIdx p d)).lock = false)
    fun s t => t.blockAt (blockIdx p d) =
      { s.blockAt (blockIdx p d) with pos := ((s.blockAt (blockIdx p d)).pos + 1) % 66, run := 0 } := by
  rintro s ⟨hp, hd, hcfg, hprofile, hstate, hinvalid, hhunt⟩
  exact ⟨_, exec_blockReceived_of_slip hp hd (State.watched_of hcfg hprofile hstate) (invalid_header hinvalid) hhunt,
    State.blockAt_modBlock_self ..⟩

theorem blockReceived_completes_of_loss (p d : Nat) (hdr : BitVec 2) (c : PortCfg) : Completes (.blockReceived p d hdr)
    (fun s => p < s.lines ∧ d < 2 ∧ (s.portAt p).cfg = some c ∧ c.profile ≠ .transparent ∧
      ((s.portAt p).state = .acquire ∨ (s.portAt p).state = .up ∨ (s.portAt p).state = .fault) ∧ (hdr = 0 ∨ hdr = 3) ∧
      (s.blockAt (blockIdx p d)).lock ∧ (s.blockAt (blockIdx p d)).bad = 64 ∧ (s.blockAt (blockIdx p d)).seen < 1024 ∧ s.hears)
    fun s t => t.blockAt (blockIdx p d) = { lock := false, pos := (s.blockAt (blockIdx p d)).pos } ∧
      t.statAt gPfx (blockIdx p d) 0 = (s.statAt gPfx (blockIdx p d) 0).add 1 ∧
      t.statAt gPfx (blockIdx p d) 1 = (s.statAt gPfx (blockIdx p d) 1).add 1 ∧
      Raises s t evPfxBlockLockLost [Word.nat p, Word.nat d] := by
  rintro s ⟨hp, hd, hcfg, hprofile, hstate, hinvalid, hlock, hbad, hseen, hears⟩
  have hstats (u : State) : ((u.bump gPfx (blockIdx p d) 1).bump gPfx (blockIdx p d) 0).blockAt (blockIdx p d) =
      u.blockAt (blockIdx p d) := rfl
  have hblock (f : Block → Block) (j i : Nat) : (s.modBlock (blockIdx p d) f).statAt gPfx j i = s.statAt gPfx j i := rfl
  refine ⟨_, exec_blockReceived_of_loss hp hd (State.watched_of hcfg hprofile hstate) (invalid_header hinvalid) hlock hbad hseen,
    ?_, ?_, ?_, ?_⟩
  · rw [(State.follow_frame _).blockAt_eq rfl, (State.raise_frame ..).blockAt_eq rfl]
    exact (hstats _).trans (State.blockAt_modBlock_self ..)
  · rw [State.follow_statAt, State.raise_statAt, State.statAt_bump_self, State.statAt_bump_other _ _ _ _ _ (by decide), hblock]
  · rw [State.follow_statAt, State.raise_statAt, State.statAt_bump_other _ _ _ _ _ (by decide), State.statAt_bump_self, hblock]
  · exact Raises.of_keep (m := 0x40020000) hears (Keep.bump rfl (Keep.bump rfl (Keep.modBlock rfl (Keep.refl _ _)))) rfl
      (State.follow_frame _) rfl

theorem blockLockWindowEnd_completes (p d : Nat) : Completes (.blockLockWindowEnd p d)
    (fun s => p < s.lines ∧ d < 2 ∧ (s.blockAt (blockIdx p d)).lock ∧ 1024 ≤ (s.blockAt (blockIdx p d)).seen)
    fun s t => t.blockAt (blockIdx p d) = { s.blockAt (blockIdx p d) with seen := 0, bad := 0 } ∧ OnlyChanges [.block] s t := by
  rintro s hwindow
  exact ⟨_, congrArg Host.Outcome.next (if_pos hwindow), State.blockAt_modBlock_self ..,
    Keep.among (m := 0x40000000) (Keep.modBlock rfl (Keep.refl _ _)) rfl⟩

/-- Settles O22, from one lemma for each of its clauses. -/
theorem hostLossesAndBlockLockComplete : Obligations.HostLossesAndBlockLockComplete :=
  ⟨⟨signalLoss_completes_of_up, signalLoss_completes_of_acquire, hslSnrWindowEnd_completes_of_freqOut, elasticBufferSlip_completes,
      elasticBufferSlip_completes_of_terminate, amLockLoss_completes, amLockRegained_completes, faultRecoveryTimer_completes,
      hslPeriodEnd_completes_of_up, hslPeriodEnd_completes_of_test⟩,
    blockReceived_completes_of_lock, blockReceived_completes_of_slip, blockReceived_completes_of_loss, blockLockWindowEnd_completes⟩

end Sys2Proof.Machine
end

section
/-! PROOFS. The end of the marker hunt (O21; R271, R273 to R279, R286): the verdict of a group, the entry of its lanes to UP, and what
of both stands when all has followed. -/

namespace Sys2Proof.Machine

/-! What a frame says of groups, of the lanes of a port, and of events. -/

section
variable {m n : Nat} {s u t : State}

theorem Keep.groupAt_eq (h : Keep m s t) (hm : m.testBit 28 = false) (g : Nat) : t.groupAt g = s.groupAt g :=
  congrArg (fun x : Tbl Group => tget x (fun _ => {}) g) (h.1 .group hm).symm

theorem Keep.portHosts_eq (h : Keep m s t) (hm : m.testBit 29 = false) (p : Nat) : t.portHosts p = s.portHosts p := by
  rw [State.portHosts, State.portHosts, h.portAt_eq hm]

theorem Keep.portOfHost_eq (h : Keep m s t) (hm : m.land 0x20000004 = 0) (k : Nat) : t.portOfHost k = s.portOfHost k := by
  have hfuses : s.fuses = t.fuses := h.1 .fuses (testBit_of_land_zero hm rfl)
  simp only [State.portOfHost, State.slots, State.lines, ← hfuses, h.portHosts_eq (testBit_of_land_zero hm rfl)]

/-- Whether a port's markers lock in the group's order rests on the group and its settings (R274, R291). -/
theorem Keep.orderOk_eq (h : Keep m s t) (hm : m.testBit 28 = false) (hparam : m.land 0x10004 = 0) (g p : Nat) :
    t.orderOk g p = s.orderOk g p := by
  have hrev : t.groupRev g = s.groupRev g := by
    rw [State.groupRev, State.groupRev, State.forcedRev, State.forcedRev, State.parN, State.parN, h.param_eq hparam, h.groupAt_eq hm]
  rw [State.orderOk, State.orderOk, h.groupAt_eq hm, hrev]

theorem Keep.hears (h : Keep m s t) (hm : m.testBit 44 = false) (hs : s.hears) : t.hears := by
  have hfw : s.fw = t.fw := h.1 .fw hm
  rw [State.hears, State.eventsHeld, ← hfw]
  exact hs

/-- An event that is raised after a change that takes no event away and leaves the time alone. -/
theorem Raises.after {code : Nat} {data : List Word} (h : Raises u t code data) (hu : Keep m s u) (hm : m.land 0x800000008000 = 0) :
    Raises s t code data := by
  have hbefore : s.ev.raised <+: u.ev.raised := hu.1 .evTaken (testBit_of_land_zero hm rfl)
  have htku : s.tku = u.tku := hu.1 .tku (testBit_of_land_zero hm rfl)
  obtain ⟨hraised, hmem⟩ := h
  exact ⟨hbefore.trans hraised, htku ▸ hmem⟩

end

/-! A group with a lane that is not DOWN keeps its verdict (R275). -/

theorem State.syncGroup_groupAt {s : State} {g k : Nat} (hk : k < 8) (hlane : (s.hostAt (8 * g + k)).state ≠ .down) (j : Nat) :
    (s.syncGroup j).groupAt g = s.groupAt g := by
  unfold State.syncGroup
  split
  · next hdown =>
    have hother : g ≠ j := by
      rintro rfl
      exact hlane (of_decide_eq_true (List.all_eq_true.1 hdown k (List.mem_range.2 hk)))
    dsimp only
    rw [State.groupAt_modGroup, if_neg hother, State.groupAt_modGroup, if_neg hother]
  · rfl

theorem State.follow_groupAt {s : State} {g k : Nat} (hk : k < 8) (hlane : (s.hostAt (8 * g + k)).state ≠ .down) :
    s.follow.groupAt g = s.groupAt g := by
  have hafter (v : State) : Keep 0x26000105b08 v v.settle.calCheck :=
    State.calCheck_keep _ rfl (State.settle_keep _ rfl (Keep.refl _ _))
  unfold State.follow State.sync State.syncWith
  extract_lets s1 s2
  have hbefore : Keep 0x200b900300 s s2.opticsCheck :=
    State.opticsCheck_keep _ rfl (Keep.foldl _ (fun u h hu => State.syncHost_keep u h rfl hu)
      (Keep.foldl _ (fun u l hu => State.syncTx_keep _ l _ rfl (State.syncRx_keep u l rfl hu)) (Keep.refl _ _)))
  have hstart : (s2.opticsCheck.hostAt (8 * g + k)).state ≠ .down := by
    rwa [hbefore.host_eq rfl _ HostLane.state fun _ => rfl]
  rw [(hafter _).groupAt_eq rfl, ← hbefore.groupAt_eq rfl]
  refine (List.foldlRecOn (motive := fun v : State => (v.hostAt (8 * g + k)).state ≠ .down ∧ v.groupAt g = s2.opticsCheck.groupAt g)
    [0, 1] _ ⟨hstart, rfl⟩ fun v ⟨hv, hgroup⟩ j _ => ⟨?_, (State.syncGroup_groupAt hk hv j).trans hgroup⟩).2
  rwa [(State.syncGroup_keep v j rfl (Keep.refl 0x10000000 v)).host_eq rfl _ HostLane.state fun _ => rfl]

/-! The verdict of a group (R274, R275). -/

theorem verdictOf_reversed {rs : List HuntResult} (hmirrored : .mirrored ∈ rs) (hnormal : .normal ∉ rs) : verdictOf rs = .reversed := by
  simp [verdictOf, hmirrored, hnormal]

/-- The group `g` is REVERSED, with its event and its transmit order (R276). -/
def State.reversed (s : State) (g : Nat) : State :=
  ((s.modGroup g fun x => { x with verdict := .reversed }).raise evHslReversal [Word.nat g, Word.nat 2]).modGroup g fun x =>
    { x with txRev :=
      ((s.modGroup g fun x => { x with verdict := .reversed }).raise evHslReversal [Word.nat g, Word.nat 2]).txWantRev g }

/-- The first port of a group to end step 6 decides; its lanes lock mirrored. -/
theorem State.judgeGroup_of_mirrored {s : State} {g p : Nat} (hp : p < s.lines) (hauto : s.parN nHslGroup g 0 = 0)
    (hended : s.huntsEnded p = true) (hverdict : (s.groupAt g).verdict = .none)
    (hresults : ∀ q, tget (s.groupAt g).results (fun _ => none) q = if q = p then some .mirrored else none)
    (hlanes : ∀ k, k < 8 → (s.hostAt (8 * g + k)).state = .down ∨ (s.hostAt (8 * g + k)).state = .acquire) :
    s.judgeGroup g p = s.reversed g := by
  have hall : ((List.range 8).all fun k =>
      (s.hostAt (8 * g + k)).state = .down || (s.hostAt (8 * g + k)).state = .acquire) = true :=
    List.all_eq_true.2 fun k hk => by simpa using hlanes k (List.mem_range.1 hk)
  have hreversed : verdictOf (s.slots.filterMap fun q => tget (s.groupAt g).results (fun _ => none) q) = .reversed := by
    refine verdictOf_reversed (List.mem_filterMap.2 ⟨p, List.mem_range.2 hp, (hresults p).trans (if_pos rfl)⟩) fun hnormal => ?_
    obtain ⟨q, -, hq⟩ := List.mem_filterMap.1 hnormal
    rw [hresults] at hq
    split at hq <;> cases hq
  unfold State.judgeGroup
  rw [if_pos ⟨hauto, hended⟩, if_pos hverdict, if_pos hall]
  dsimp only
  rw [hreversed, if_neg (by decide)]
  rfl

theorem State.reversed_frame (s : State) (g : Nat) : Keep 0x10000300 s (s.reversed g) :=
  Keep.modGroup rfl (State.raise_keep _ _ _ rfl (Keep.modGroup rfl (Keep.refl _ _)))

theorem State.reversed_groupAt (s : State) (g : Nat) : ((s.reversed g).groupAt g).verdict = .reversed ∧
    ((s.reversed g).groupAt g).results = (s.groupAt g).results := by
  rw [State.reversed, State.groupAt_modGroup_self, (State.raise_frame ..).groupAt_eq rfl, State.groupAt_modGroup_self]
  exact ⟨rfl, rfl⟩

theorem State.reversed_raises {s : State} (g : Nat) (hears : s.hears) :
    Raises s (s.reversed g) evHslReversal [Word.nat g, Word.nat 2] :=
  Raises.of_keep (m := 0x10000000) hears (Keep.modGroup rfl (Keep.refl _ _)) rfl
    (Keep.modGroup (m := 0x10000000) rfl (Keep.refl _ _)) rfl

/-- Markers in the mirrored position lock in the order of a REVERSED group. -/
theorem State.orderOk_of_reversed {s : State} {g p : Nat} (hauto : s.parN nHslGroup g 0 = 0)
    (hverdict : (s.groupAt g).verdict = .reversed)
    (hresult : tget (s.groupAt g).results (fun _ => none) p = some .mirrored) : s.orderOk g p = true := by
  simp [State.orderOk, State.groupRev, hauto, hverdict, hresult]

/-! The entry of a lane to UP (R278, R279, R286). -/

/-- A lane that enters UP. -/
def HostLane.entersUp (x : HostLane) : HostLane := { x with state := .up, step := 0, warmRuns := 0, lowSnr := 0, elastic := 0 }

/-- Delays that are all the same have no spread. -/
theorem spread_of_const {xs : List Int} {x : Int} (h : ∀ y ∈ xs, y = x) : spread xs = 0 := by
  cases xs with
  | nil => rfl
  | cons y ys =>
    obtain ⟨a, ha⟩ := Option.isSome_iff_exists.1 (List.isSome_max?_of_mem (List.mem_cons_self (a := y) (l := ys)))
    obtain ⟨b, hb⟩ := Option.isSome_iff_exists.1 (List.isSome_min?_of_mem (List.mem_cons_self (a := y) (l := ys)))
    rw [spread, ha, hb, Option.getD_some, Option.getD_some, h a (List.max?_mem ha), h b (List.min?_mem hb), sub_self]

/-- Lane `h` of port `p` has ended step 6 in a group whose verdict is made: its port locks in the group's order, with the delay `x` on
every lane. -/
structure State.Locks (s : State) (h p : Nat) (x : Int) : Prop where
  port : s.portOfHost h = some p
  live : s.live = true
  state : (s.hostAt h).state = .acquire
  step : (s.hostAt h).step = 6
  lock : (s.hostAt h).amLock = true
  order : s.orderOk (h / 8) p = true
  verdict : (s.groupAt (h / 8)).verdict ≠ .none
  skews : ∀ k ∈ s.portHosts p, (s.hostAt k).skew = x

/-- Such a lane enters UP. -/
theorem State.Locks.hostTryUp {s : State} {h p : Nat} {x : Int} (hs : s.Locks h p x) : s.hostTryUp h =
    (s.modHost h HostLane.entersUp).raise evHslUp
      [Word.nat h, Word.nat (s.since (s.hostAt h).since), Word.nat (s.hostAt h).train.num] := by
  have hspread : spread (((s.portHosts p).filter fun k => (s.hostAt k).amLock).map fun k => (s.hostAt k).skew) ≤ hostSkewMax := by
    rw [spread_of_const (x := x)]
    · decide
    · intro y hy
      obtain ⟨k, hk, rfl⟩ := List.mem_map.1 hy
      exact hs.skews k (List.mem_filter.1 hk).1
  unfold State.hostTryUp
  rw [hs.port]
  exact if_pos ⟨hs.live, hs.state, hs.step, hs.lock, hs.order, .inl hs.verdict, hspread⟩

/-- Only a lane in ACQUIRE moves. -/
theorem State.hostTryUp_of_up {s : State} {h : Nat} (hup : (s.hostAt h).state = .up) : s.hostTryUp h = s := by
  unfold State.hostTryUp
  dsimp only
  split
  · rfl
  · exact if_neg fun htries => by simp [hup] at htries

theorem State.hostTryUp_cases (s : State) (h : Nat) : s.hostTryUp h = s ∨
    ∃ data, s.hostTryUp h = (s.modHost h HostLane.entersUp).raise evHslUp data := by
  unfold State.hostTryUp
  dsimp only
  split
  · exact .inl rfl
  · split
    · exact .inr ⟨_, rfl⟩
    · exact .inl rfl

theorem State.hostTryUp_frame (s : State) (h : Nat) : Keep 0xc000300 s (s.hostTryUp h) := by
  rcases s.hostTryUp_cases h with hsame | ⟨data, hup⟩
  · rw [hsame]; exact Keep.refl _ _
  · rw [hup]; exact State.raise_keep _ _ _ rfl (Keep.modHost (.inl rfl) rfl (Keep.refl _ _))

theorem State.hostTryUp_other (s : State) {h k : Nat} (hk : k ≠ h) : (s.hostTryUp h).hostAt k = s.hostAt k := by
  rcases s.hostTryUp_cases h with hsame | ⟨data, hup⟩
  · rw [hsame]
  · rw [hup, State.raise_hostAt, State.hostAt_modHost_other s hk]

/-- An entry to UP leaves every lane's delay. -/
theorem State.hostTryUp_skew (s : State) (h k : Nat) : ((s.hostTryUp h).hostAt k).skew = (s.hostAt k).skew := by
  rcases s.hostTryUp_cases h with hsame | ⟨data, hup⟩
  · rw [hsame]
  · rw [hup, State.raise_hostAt, State.hostAt_modHost]
    split
    · next hk => rw [hk]; rfl
    · rfl

/-! The lanes of a group, one after another. -/

/-- Between the verdict `s` and `u`, lanes beside `h` have entered UP, and delays stand. -/
def State.Awaits (s u : State) (h : Nat) : Prop :=
  Keep 0xc000300 s u ∧ u.hostAt h = s.hostAt h ∧ ∀ k, (u.hostAt k).skew = (s.hostAt k).skew

/-- Between the verdict `s` and `u`, lane `h` has entered UP with its event. -/
def State.Entered (s u : State) (h : Nat) : Prop :=
  Keep 0xc000300 s u ∧ u.hostAt h = (s.hostAt h).entersUp ∧
    Raises s u evHslUp [Word.nat h, Word.nat (s.since (s.hostAt h).since), Word.nat (s.hostAt h).train.num]

theorem State.Awaits.other {s u : State} {h k : Nat} (ha : s.Awaits u h) (hk : h ≠ k) : s.Awaits (u.hostTryUp k) h := by
  obtain ⟨hkeep, hself, hskews⟩ := ha
  exact ⟨hkeep.trans (u.hostTryUp_frame k), (u.hostTryUp_other hk).trans hself, fun j => (u.hostTryUp_skew k j).trans (hskews j)⟩

theorem State.Entered.step {s u : State} {h : Nat} (he : s.Entered u h) (k : Nat) : s.Entered (u.hostTryUp k) h := by
  obtain ⟨hkeep, hself, hraised⟩ := he
  refine ⟨hkeep.trans (u.hostTryUp_frame k), ?_, hraised.keep (u.hostTryUp_frame k) rfl⟩
  by_cases hk : h = k
  · subst hk
    rw [State.hostTryUp_of_up (by rw [hself]; rfl), hself]
  · rw [u.hostTryUp_other hk, hself]

/-- Other lanes' turns leave all that the entry of lane `h` rests on. -/
theorem State.Awaits.locks {s u : State} {h p : Nat} {x : Int} (ha : s.Awaits u h) (hs : s.Locks h p x) : u.Locks h p x := by
  obtain ⟨hkeep, hself, hsame⟩ := ha
  exact {
    port := (hkeep.portOfHost_eq rfl h).trans hs.port
    live := (hkeep.live_eq rfl).trans hs.live
    state := by rw [hself, hs.state]
    step := by rw [hself, hs.step]
    lock := by rw [hself, hs.lock]
    order := (hkeep.orderOk_eq rfl rfl _ _).trans hs.order
    verdict := by rw [hkeep.groupAt_eq rfl]; exact hs.verdict
    skews := fun k hk => (hsame k).trans (hs.skews k (by rwa [← hkeep.portHosts_eq rfl])) }

/-- Lane `h` enters UP at its turn. -/
theorem State.Awaits.enters {s u : State} {h p : Nat} {x : Int} (ha : s.Awaits u h) (hs : s.Locks h p x) (hears : s.hears) :
    s.Entered (u.hostTryUp h) h := by
  have hup := (ha.locks hs).hostTryUp
  obtain ⟨hkeep, hself, -⟩ := ha
  have htku : s.tku = u.tku := hkeep.1 .tku rfl
  rw [hself, State.since, ← htku] at hup
  refine ⟨hkeep.trans (u.hostTryUp_frame h), ?_, ?_⟩
  · rw [hup, State.raise_hostAt, State.hostAt_modHost_self, hself]
  · rw [hup]
    exact Raises.of_keep hears (Keep.modHost (m := 0xc000300) (.inl rfl) rfl hkeep) rfl (Keep.refl 0 _) rfl

/-- After the turns of every lane of the group, lane `h` has entered UP. -/
theorem State.Locks.entered {s : State} {h p : Nat} {x : Int} (hs : s.Locks h p x) (hears : s.hears) :
    s.Entered ((List.range 8).foldl (fun s k => s.hostTryUp (8 * (h / 8) + k)) s) h := by
  refine foldl_reaches (Q := fun u => s.Awaits u h ∨ s.Entered u h) (R := fun u => s.Entered u h) (x := h % 8)
    (List.mem_range.2 (Nat.mod_lt h (by decide))) ?_ ?_ (fun u k hu => hu.step _) (.inl ⟨Keep.refl _ _, rfl, fun _ => rfl⟩)
  · rintro u k (ha | he)
    · by_cases hk : h = 8 * (h / 8) + k
      · rw [← hk]
        exact .inr (ha.enters hs hears)
      · exact .inl (ha.other hk)
    · exact .inr (he.step _)
  · rintro u (ha | he)
    · rw [Nat.div_add_mod]
      exact ha.enters hs hears
    · exact he.step _

/-! The end of step 6. -/

/-- A lane whose markers lock (R271, R277). -/
def HostLane.marked (x : HostLane) (inverted : Bool) (skew : Int) : HostLane :=
  { x with amLock := true, skew := skew,
           polInv := if x.rxPol = 0 && !x.warm && x.train ≠ .trained then inverted else x.polInv }

theorem State.hostAt_modGroup (s : State) (g k : Nat) (f : Group → Group) : (s.modGroup g f).hostAt k = s.hostAt k := rfl

theorem State.groupAt_modHost (s : State) (h g : Nat) (f : HostLane → HostLane) : (s.modHost h f).groupAt g = s.groupAt g := rfl

/-- The lane's markers lock, and its port has a result of R273. -/
def State.marked (s : State) (h p : Nat) (inverted : Bool) (res : HuntResult) (skew : Int) : State :=
  (s.modHost h fun y => y.marked inverted skew).modGroup (h / 8) fun x =>
    { x with results := tset x.results (fun _ => none) p (some res) }

theorem exec_markerHuntDone {s : State} {h p : Nat} (inv : Bool) (res : HuntResult) (skew : Int) (hport : s.portOfHost h = some p)
    (hin : s.hostIn h 6 = true) (hlock : (s.hostAt h).amLock = false) : exec (.markerHuntDone h inv res skew) s = .next
      ((List.range 8).foldl (fun s k => s.hostTryUp (8 * (h / 8) + k))
        ((s.marked h p inv res skew).judgeGroup (h / 8) p)).portsCheck.follow := by
  change execMarkerHuntDone h inv res skew s = _
  simp only [execMarkerHuntDone, hport]
  rw [if_pos ⟨hin, by rw [hlock]; rfl⟩]
  rfl

theorem State.marked_frame (s : State) (h p : Nat) (inv : Bool) (res : HuntResult) (skew : Int) :
    Keep 0x1c000000 s (s.marked h p inv res skew) := Keep.modGroup rfl (Keep.modHost (.inl rfl) rfl (Keep.refl _ _))

theorem State.marked_host (s : State) (h p : Nat) (inv : Bool) (res : HuntResult) (skew : Int) :
    (s.marked h p inv res skew).hostAt h = (s.hostAt h).marked inv skew :=
  (State.hostAt_modGroup ..).trans (State.hostAt_modHost_self ..)

theorem State.marked_other (s : State) {h k : Nat} (hk : k ≠ h) (p : Nat) (inv : Bool) (res : HuntResult) (skew : Int) :
    (s.marked h p inv res skew).hostAt k = s.hostAt k :=
  (State.hostAt_modGroup ..).trans (State.hostAt_modHost_other s hk _)

theorem State.marked_state (s : State) (h p : Nat) (inv : Bool) (res : HuntResult) (skew : Int) (k : Nat) :
    ((s.marked h p inv res skew).hostAt k).state = (s.hostAt k).state := by
  by_cases hk : k = h
  · rw [hk, State.marked_host]; rfl
  · rw [State.marked_other s hk]

theorem State.marked_results {s : State} {h : Nat} (p : Nat) (inv : Bool) (res : HuntResult) (skew : Int)
    (hnone : (s.groupAt (h / 8)).results = []) (q : Nat) :
    tget ((s.marked h p inv res skew).groupAt (h / 8)).results (fun _ => none) q = if q = p then some res else none := by
  rw [State.marked, State.groupAt_modGroup_self, State.groupAt_modHost]
  dsimp only
  rw [hnone, tget_tset, tget_nil]

theorem State.marked_verdict (s : State) (h p : Nat) (inv : Bool) (res : HuntResult) (skew : Int) :
    ((s.marked h p inv res skew).groupAt (h / 8)).verdict = (s.groupAt (h / 8)).verdict := by
  rw [State.marked, State.groupAt_modGroup_self]
  rfl

/-- The last lane of a port to find its markers, in a group without a verdict: every other lane of the port has them, with the same
delay, and no lane of the group carries traffic. -/
structure State.LastOfPort (s : State) (h p : Nat) (skew : Int) : Prop where
  port : s.portOfHost h = some p
  slot : p < s.lines
  step : (s.hostAt h).step = 6
  state : (s.hostAt h).state = .acquire
  auto : s.parN nHslGroup (h / 8) 0 = 0
  verdict : (s.groupAt (h / 8)).verdict = .none
  results : (s.groupAt (h / 8)).results = []
  others : ∀ k ∈ s.portHosts p, (s.hostAt k).state = .acquire ∧ (k = h ∨ ((s.hostAt k).amLock ∧ (s.hostAt k).skew = skew))
  lanes : ∀ k, k < 8 → (s.hostAt (8 * (h / 8) + k)).state = .down ∨ (s.hostAt (8 * (h / 8) + k)).state = .acquire

section
variable {s : State} {h p : Nat} {skew : Int}

/-- Every lane of the port has its markers, at one delay. -/
theorem State.LastOfPort.marked_ports (hs : s.LastOfPort h p skew) (inv : Bool) (res : HuntResult) :
    ∀ k ∈ s.portHosts p, ((s.marked h p inv res skew).hostAt k).state = .acquire ∧
      ((s.marked h p inv res skew).hostAt k).amLock = true ∧ ((s.marked h p inv res skew).hostAt k).skew = skew := by
  intro k hk
  obtain ⟨hacquire, hfound⟩ := hs.others k hk
  refine ⟨(s.marked_state ..).trans hacquire, ?_⟩
  by_cases hself : k = h
  · rw [hself, State.marked_host]
    exact ⟨rfl, rfl⟩
  · rw [State.marked_other s hself]
    exact hfound.resolve_left hself

/-- Its mirrored markers make the group REVERSED. -/
theorem State.LastOfPort.judged (hs : s.LastOfPort h p skew) (inv : Bool) :
    (s.marked h p inv .mirrored skew).judgeGroup (h / 8) p = (s.marked h p inv .mirrored skew).reversed (h / 8) := by
  have hended : (s.marked h p inv .mirrored skew).huntsEnded p = true := by
    refine List.all_eq_true.2 fun k hk => ?_
    obtain ⟨hacquire, hmark, -⟩ := hs.marked_ports inv .mirrored k (by rwa [← (s.marked_frame ..).portHosts_eq rfl])
    simp [hacquire, hmark]
  refine State.judgeGroup_of_mirrored hs.slot hs.auto hended ((s.marked_verdict ..).trans hs.verdict)
    (State.marked_results p inv _ skew hs.results) fun k hk => ?_
  rw [State.marked_state]
  exact hs.lanes k hk

/-- From the marks to the verdict the lanes stay as they are. -/
theorem State.reversed_host (s : State) (g k : Nat) : (s.reversed g).hostAt k = s.hostAt k :=
  ((s.reversed_frame g).1 .hostTx rfl k).symm

theorem State.marked_reversed_frame (s : State) (h p : Nat) (inv : Bool) (skew : Int) :
    Keep 0x1c000300 s ((s.marked h p inv .mirrored skew).reversed (h / 8)) :=
  (State.reversed_frame _ _).step rfl ((s.marked_frame h p inv .mirrored skew).step rfl (Keep.refl _ _))

/-- The lane can enter UP on that verdict. -/
theorem State.LastOfPort.locks (hs : s.LastOfPort h p skew) (hlive : s.live = true) (inv : Bool) :
    ((s.marked h p inv .mirrored skew).reversed (h / 8)).Locks h p skew := by
  have hto := s.marked_reversed_frame h p inv skew
  obtain ⟨hreversed, hresults⟩ := (s.marked h p inv .mirrored skew).reversed_groupAt (h / 8)
  have hlane : ((s.marked h p inv .mirrored skew).reversed (h / 8)).hostAt h = (s.hostAt h).marked inv skew :=
    (State.reversed_host ..).trans (s.marked_host ..)
  exact {
    port := (hto.portOfHost_eq rfl h).trans hs.port
    live := (hto.live_eq rfl).trans hlive
    state := by rw [hlane]; exact hs.state
    step := by rw [hlane]; exact hs.step
    lock := by rw [hlane]; rfl
    order := by
      refine State.orderOk_of_reversed ?_ hreversed ?_
      · rw [State.parN, hto.param_eq rfl]
        exact hs.auto
      · rw [hresults, State.marked_results p inv _ skew hs.results, if_pos rfl]
    verdict := by rw [hreversed]; decide
    skews := fun k hk => by
      rw [State.reversed_host]
      exact (hs.marked_ports inv .mirrored k (by rwa [← hto.portHosts_eq rfl])).2.2 }

end

/-- A lane that has entered UP stays so, and its group keeps its verdict, when the ports and all else follow. -/
theorem State.Entered.follow {j u : State} {h : Nat} (he : j.Entered u h) :
    (∃ tx timed, u.portsCheck.follow.hostAt h = { (j.hostAt h).entersUp with tx := tx, localTimed := timed }) ∧
      u.portsCheck.follow.groupAt (h / 8) = j.groupAt (h / 8) ∧ Keep 0x2603f92db8a u u.portsCheck.follow := by
  obtain ⟨hturns, hself, -⟩ := he
  have hchecked : Keep 0x20020029b82 u u.portsCheck := State.portsCheck_keep u rfl (Keep.refl _ _)
  have hlane : u.portsCheck.hostAt h = (j.hostAt h).entersUp := (hchecked.1 .hostTx rfl h).symm.trans hself
  refine ⟨?_, ?_, State.follow_keep _ rfl (hchecked.step rfl (Keep.refl _ _))⟩
  · rw [← hlane]
    exact u.portsCheck.follow_host h
  · have hup : (u.portsCheck.hostAt (8 * (h / 8) + h % 8)).state ≠ .down := by
      rw [Nat.div_add_mod, hlane]
      exact LaneState.noConfusion
    rw [State.follow_groupAt (Nat.mod_lt h (by decide)) hup, hchecked.groupAt_eq rfl, hturns.groupAt_eq rfl]

/-- Settles O21: the verdict is made on the marks, the lane enters UP at its turn, and neither goes back when all has followed. -/
theorem markerHuntCompletes : Obligations.MarkerHuntCompletes := by
  rintro h p inv skew s ⟨hlive, hport, -, hp, hh, hstate, hstep, hlock, hauto, hverdict, hresults, hothers, hlanes, hears⟩
  have hlast : s.LastOfPort h p skew := ⟨hport, hp, hstep, hstate, hauto, hverdict, hresults, hothers, hlanes⟩
  have hmarked := s.marked_frame h p inv .mirrored skew
  have hto := s.marked_reversed_frame h p inv skew
  have hentered := (hlast.locks hlive inv).entered (hto.hears rfl hears)
  obtain ⟨⟨tx, timed, hhost⟩, hgroup, hafter⟩ := hentered.follow
  obtain ⟨hturns, -, hup⟩ := hentered
  have hraised := ((State.reversed_raises (h / 8) (hmarked.hears rfl hears)).after hmarked rfl).keep hturns rfl
  have htku : s.tku = ((s.marked h p inv .mirrored skew).reversed (h / 8)).tku := hto.1 .tku rfl
  refine ⟨_, (exec_markerHuntDone inv .mirrored skew hport (State.hostIn_of hh hstate hstep) hlock).trans
    (by rw [hlast.judged inv]), ?_⟩
  rw [State.reversed_host, State.marked_host] at hhost hup
  rw [State.since, ← htku] at hup
  rw [hhost, hgroup]
  exact ⟨(State.reversed_groupAt ..).1, rfl, rfl, rfl, hraised.keep hafter rfl, (hup.after hto rfl).keep hafter rfl⟩

end Sys2Proof.Machine
end

section
/-! PROOFS. What START, STOP, a new configuration and a deletion make of a port and its lanes (R302, R306, R308, R318). -/

namespace Sys2Proof.Machine

/-! The mailboxes stand while commands that were ACCEPTED end and the Hinge takes engines back. -/

theorem Keep.boxes_eq {m : Nat} {s t : State} (h : Keep m s t) (hm : m.testBit 7 = false) : t.mb.box = s.mb.box :=
  congrArg Mb.box (h.1 .mb hm).symm

theorem State.finishObj_box (s : State) (t : Ticket) (code detail : Nat) (o : Obj) (result : List Word) :
    (s.finishObj t code detail o result).mb.box = s.mb.box := by
  unfold State.finishObj
  split
  · rfl
  · dsimp only
    split
    · rfl
    · exact (State.cmdDone_keep _ _ _ _ _ _ _ rfl (Keep.refl _ _)).box_eq

theorem State.pltDone_box (s : State) (l : Nat) (p : PltPkt) (how : Nat) : (s.pltDone l p how).mb.box = s.mb.box := by
  unfold State.pltDone
  extract_lets s1
  have hs1 : s1.mb.box = s.mb.box := (State.raise_frame ..).boxes_eq rfl
  split
  · exact hs1
  · exact (State.finishObj_box ..).trans hs1

theorem State.pltDiscard_box (s : State) (l : Nat) : (s.pltDiscard l).mb.box = s.mb.box :=
  List.foldlRecOn (motive := fun u : State => u.mb.box = s.mb.box) _ _ rfl fun u hu p _ => (u.pltDone_box l p pltDiscarded).trans hu

theorem State.releaseLane_box (s : State) (l : Nat) : (s.releaseLane l).mb.box = s.mb.box := by
  unfold State.releaseLane
  extract_lets s1 s2 s4 s5
  have hs1 : s.SeaKept (fun _ => {}) 0 s1 :=
    .step (State.seaYieldEnd_kept _ (by decide) l) (fun _ => rfl) (.step (s.abandonSwap_kept (by decide) ..) (fun _ => rfl) (.refl _))
  have hs2 : s.SeaKept (fun _ => {}) 0 s2 := by
    dsimp only [s2]
    split
    · exact hs1
    · exact .finishOpt hs1
  have hs5 : s.SeaKept (fun _ => {}) 0 s5 :=
    .keep (State.freeEngines_keep _ _ rfl (State.returnLent_keep _ _ rfl (Keep.refl 0x180000000 _))) rfl hs2
  have hend : s.SeaKept (fun _ => {}) 0 (s5.modSea l fun x => { sel := x.sel }).reserve :=
    .step (State.reserve_kept _) (fun _ => rfl) (.modSea (fun _ => rfl) hs5)
  exact (State.SeaKept.keep (State.tellPlaced_keep _ s1 rfl (Keep.refl 0x300 _)) rfl hend).box

theorem State.lineDown_box (s : State) (l : Nat) : (s.lineDown l).mb.box = s.mb.box := by
  rw [State.lineDown, State.modLine_mb, State.releaseLane_box, (s.lockEnd_frame l lostLeft).boxes_eq rfl]

theorem State.replanHeld_box (s : State) : s.replanHeld.mb.box = s.mb.box := (State.replan_kept (i := 0) s (by decide) _ _).box

/-! Lanes that go DOWN. -/

theorem State.lineDown_state (s : State) (l k : Nat) :
    ((s.lineDown l).lineAt k).state = if k = l then .down else (s.lineAt k).state := by
  have hbefore : Keep 0x30380621b82 s ((s.lockEnd l lostLeft).releaseLane l) :=
    State.releaseLane_keep _ _ rfl ((s.lockEnd_frame l lostLeft).step rfl (Keep.refl _ _))
  rw [State.lineDown, State.lineAt_modLine]
  split
  · rfl
  · exact (hbefore.1 .lnState rfl k).1.symm

theorem State.hostDown_state (s : State) (h k : Nat) :
    ((s.hostDown h).hostAt k).state = if k = h then .down else (s.hostAt k).state := by
  rw [State.hostDown, State.hostAt_modHost]
  split <;> rfl

/-- Every line lane of a list goes DOWN. -/
theorem State.foldl_lineDown_state (s : State) {ls : List Nat} {l : Nat} (hl : l ∈ ls) :
    ((ls.foldl (fun s l => s.lineDown l) s).lineAt l).state = .down :=
  foldl_reaches (Q := fun _ => True) (R := fun u : State => (u.lineAt l).state = .down) hl (fun _ _ _ => trivial)
    (fun u _ => (u.lineDown_state l l).trans (if_pos rfl)) (fun u k hu => by rw [State.lineDown_state, hu, ite_self]) trivial

/-- Every host lane of a list goes DOWN. -/
theorem State.foldl_hostDown_state (s : State) {hs : List Nat} {h : Nat} (hh : h ∈ hs) :
    ((hs.foldl (fun s h => s.hostDown h) s).hostAt h).state = .down :=
  foldl_reaches (Q := fun _ => True) (R := fun u : State => (u.hostAt h).state = .down) hh (fun _ _ _ => trivial)
    (fun u _ => (u.hostDown_state h h).trans (if_pos rfl)) (fun u k hu => by rw [State.hostDown_state, hu, ite_self]) trivial

/-! A port stops (R308). -/

/-- An event that is raised after a change that takes no event away, at the same tick. -/
theorem Raises.after_of_bcnt {code m : Nat} {data : List Word} {s u t : State} (h : Raises u t code data) (hu : Keep m s u)
    (hm : m.testBit 47 = false) (hbcnt : u.tku.bcnt = s.tku.bcnt) : Raises s t code data := by
  obtain ⟨hraised, hmem⟩ := h
  exact ⟨(hu.1 .evTaken hm).trans hraised, hbcnt ▸ hmem⟩

/-- The lanes of a port that stops go DOWN, line lanes first. -/
def State.portLanesDown (s : State) (p : Nat) : State :=
  let s2 := (s.portLines p).foldl (fun s l => s.lineDown l) s
  (s2.portHosts p).foldl (fun s h => s.hostDown h) s2

/-- A port without its run: no START under way, no fault set. -/
def Port.stopped (x : Port) : Port :=
  { x with state := .stopped, ticket := none, lineFault := [], hostFault := [], lineIn := false, hostIn := false, upOnce := false }

/-- The port is STOPPED: its marker results, path delays and block-lock monitors are forgotten. -/
def State.portCleared (s : State) (p : Nat) : State :=
  let s4 := [0, 1].foldl (fun s g => s.modGroup g fun y => { y with results := tset y.results (fun _ => none) p none })
    (s.modPort p Port.stopped)
  [0, 1].foldl (fun s d =>
    (s.modResid (2 * p + d) fun x => { x with ingress := 0xFFFFFFFF, egress := 0xFFFFFFFF }).modBlock (blockIdx p d) fun _ => {}) s4

/-- Lanes and port have stopped, and so has a START under way; nothing of it is told yet. -/
def State.portEnded (s : State) (p detail : Nat) : State :=
  ((s.portLanesDown p).portCleared p).finishOpt (s.portAt p).ticket cStateRefused detail (.port p)

theorem State.portStop_eq (s : State) (p detail : Nat) : s.portStop p detail =
    ((s.portEnded p detail).raise evPortStopped [Word.nat p, Word.nat (s.portAt p).state.num]).replanHeld := rfl

section
variable (s : State) (p detail : Nat)

theorem State.foldl_lineDown_frame (ls : List Nat) : Keep 0x303807e1b82 s (ls.foldl (fun s l => s.lineDown l) s) :=
  Keep.foldl _ (fun u l hu => u.lineDown_keep l rfl hu) (Keep.refl _ _)

theorem State.foldl_hostDown_frame (hs : List Nat) : Keep 0xc000000 s (hs.foldl (fun s h => s.hostDown h) s) :=
  Keep.foldl _ (fun u h hu => u.hostDown_keep h rfl hu) (Keep.refl _ _)

theorem State.portLanesDown_frame : Keep 0x3038c7e1b82 s (s.portLanesDown p) :=
  (State.foldl_hostDown_frame _ _).step rfl ((s.foldl_lineDown_frame _).step rfl (Keep.refl _ _))

theorem State.portLanesDown_lineAt {l : Nat} (hl : l ∈ s.portLines p) : ((s.portLanesDown p).lineAt l).state = .down :=
  ((State.foldl_hostDown_frame _ _).1 .lnState rfl l).1.symm.trans (State.foldl_lineDown_state _ hl)

theorem State.portLanesDown_hostAt {h : Nat} (hh : h ∈ s.portHosts p) : ((s.portLanesDown p).hostAt h).state = .down :=
  State.foldl_hostDown_state _ (by rwa [(s.foldl_lineDown_frame _).portHosts_eq rfl])

theorem State.portLanesDown_box : (s.portLanesDown p).mb.box = s.mb.box :=
  ((State.foldl_hostDown_frame _ _).boxes_eq rfl).trans
    (List.foldlRecOn (motive := fun u : State => u.mb.box = s.mb.box) _ _ rfl fun u hu l _ => (u.lineDown_box l).trans hu)

/-- Beside the port itself, its groups, path delays and block-lock monitors. -/
theorem State.portCleared_of_modPort : Keep 0x50008000 (s.modPort p Port.stopped) (s.portCleared p) :=
  Keep.foldl _ (fun _ _ hu => Keep.modBlock rfl (Keep.modResid rfl hu)) (Keep.foldl _ (fun _ _ hu => Keep.modGroup rfl hu) (Keep.refl _ _))

theorem State.portCleared_frame : Keep 0x70008000 s (s.portCleared p) :=
  (s.portCleared_of_modPort p).step rfl (Keep.modPort rfl (Keep.refl _ _))

theorem State.portCleared_portAt : (s.portCleared p).portAt p = (s.portAt p).stopped :=
  ((s.portCleared_of_modPort p).portAt_eq rfl p).trans (State.portAt_modPort_self ..)

theorem State.portEnded_frame : Keep 0x20000001b80 ((s.portLanesDown p).portCleared p) (s.portEnded p detail) :=
  State.finishOpt_frame ..

/-- The stop is told, and the Hinge plans again. -/
theorem State.portStop_frame : Keep 0x30380221b82 (s.portEnded p detail) (s.portStop p detail) :=
  State.replanHeld_keep _ rfl (State.raise_keep _ _ _ rfl (Keep.refl _ _))

theorem State.portStop_state : ((s.portStop p detail).portAt p).state = .stopped := by
  rw [(s.portStop_frame p detail).portAt_eq rfl, (s.portEnded_frame p detail).portAt_eq rfl, State.portCleared_portAt]
  rfl

theorem State.portStop_lineAt {l : Nat} (hl : l ∈ s.portLines p) : ((s.portStop p detail).lineAt l).state = .down := by
  rw [← ((s.portStop_frame p detail).1 .lnState rfl l).1, ← ((s.portEnded_frame p detail).1 .lnState rfl l).1,
    ← (((s.portLanesDown p).portCleared_frame p).1 .lnState rfl l).1, State.portLanesDown_lineAt s p hl]

theorem State.portStop_hostAt {h : Nat} (hh : h ∈ s.portHosts p) : ((s.portStop p detail).hostAt h).state = .down := by
  have hafter := (s.portStop_frame p detail).step (m := 0x303f0229b82) rfl
    ((s.portEnded_frame p detail).step rfl (((s.portLanesDown p).portCleared_frame p).step rfl (Keep.refl _ _)))
  rw [hafter.host_eq rfl h HostLane.state fun _ => rfl, State.portLanesDown_hostAt s p hh]

theorem State.portStop_box : (s.portStop p detail).mb.box = s.mb.box := by
  rw [State.portStop_eq, State.replanHeld_box, (State.raise_frame ..).boxes_eq rfl, State.portEnded, State.finishOpt_box,
    ((s.portLanesDown p).portCleared_frame p).boxes_eq rfl, State.portLanesDown_box]

/-- A stop is told with the state that the port leaves. -/
theorem State.portStop_raises (hears : s.hears) :
    Raises s (s.portStop p detail) evPortStopped [Word.nat p, Word.nat (s.portAt p).state.num] := by
  have hdown := s.portLanesDown_frame p
  have hended := s.portEnded_frame p detail
  have hbefore := hended.step (m := 0x303fc7e9b82) rfl (((s.portLanesDown p).portCleared_frame p).step rfl (hdown.step rfl (Keep.refl _ _)))
  have hraise : Raises (s.portEnded p detail) (s.portStop p detail) evPortStopped [Word.nat p, Word.nat (s.portAt p).state.num] :=
    Raises.of_keep (hbefore.hears rfl hears) (Keep.refl 0 _) rfl (State.replanHeld_keep _ rfl (Keep.refl 0x30380221b82 _)) rfl
  refine hraise.after_of_bcnt hbefore rfl ?_
  calc (s.portEnded p detail).tku.bcnt
      = ((s.portLanesDown p).portCleared p).tku.bcnt := (congrArg Tku.bcnt (hended.1 .tku rfl)).symm
    _ = (s.portLanesDown p).tku.bcnt := rfl
    _ = s.tku.bcnt := (congrArg Tku.bcnt (hdown.1 .tku rfl)).symm

/-- What STOP leaves of the mailboxes: beside the port's stop it discards the pilot queues (R344). -/
theorem State.foldl_pltDiscard_box (ls : List Nat) : (ls.foldl (fun s l => s.pltDiscard l) s).mb.box = s.mb.box :=
  List.foldlRecOn (motive := fun u : State => u.mb.box = s.mb.box) _ _ rfl fun u hu l _ => (u.pltDiscard_box l).trans hu

theorem State.foldl_pltDiscard_frame (ls : List Nat) : Keep 0x20001001b80 s (ls.foldl (fun s l => s.pltDiscard l) s) :=
  Keep.foldl _ (fun u l hu => u.pltDiscard_keep l rfl hu) (Keep.refl _ _)

end

/-! A port gets a configuration or loses it (R302, R318). -/

section
variable (s : State) (p : Nat) (c : Option PortCfg)

/-- A slot with the configuration `c`. -/
def Port.configured (x : Port) (c : Option PortCfg) : Port := { x with cfg := c }

/-- The lanes follow the slot's configuration: pilot records and adaptation engines. -/
def State.lanesConfigured (s : State) (p : Nat) (old : List Nat) : State :=
  let s2 := (s.portLines p ++ old.filter (!(s.portLines p).contains ·)).foldl (fun s l => s.pltConfigured l) s
  if s2.hinge.started then s2.dropAdapt.reserve else s2

theorem State.reconfigure_eq : s.reconfigure p c =
    ((s.modPort p fun x => x.configured c).lanesConfigured p (s.portLines p)).follow := rfl

theorem State.lanesConfigured_frame (old : List Nat) : Keep 0x10281200382 s (s.lanesConfigured p old) := by
  have hplt : Keep 0x10281200382 s ((s.portLines p ++ old.filter (!(s.portLines p).contains ·)).foldl (fun s l => s.pltConfigured l) s) :=
    Keep.foldl _ (fun u l hu => u.pltConfigured_keep l rfl hu) (Keep.refl _ _)
  exact Keep.ite (State.reserve_keep _ rfl (State.dropAdapt_keep _ rfl hplt)) hplt

theorem State.lanesConfigured_box (old : List Nat) : (s.lanesConfigured p old).mb.box = s.mb.box := by
  have hplt : Keep 0x1000300 s ((s.portLines p ++ old.filter (!(s.portLines p).contains ·)).foldl (fun s l => s.pltConfigured l) s) :=
    Keep.foldl _ (fun u l hu => u.pltConfigured_keep l rfl hu) (Keep.refl _ _)
  unfold State.lanesConfigured
  dsimp only
  split
  · rw [(State.reserve_kept (i := 0) _).box, (State.dropAdapt_keep _ rfl (Keep.refl 0x80000000 _)).boxes_eq rfl, hplt.boxes_eq rfl]
  · exact hplt.boxes_eq rfl

theorem State.reconfigure_box : (s.reconfigure p c).mb.box = s.mb.box := by
  rw [State.reconfigure_eq, (State.follow_frame _).boxes_eq rfl, State.lanesConfigured_box]
  rfl

theorem State.reconfigure_portAt (q : Nat) :
    (s.reconfigure p c).portAt q = if q = p then (s.portAt p).configured c else s.portAt q := by
  rw [State.reconfigure_eq, (State.follow_frame _).portAt_eq rfl, (State.lanesConfigured_frame ..).portAt_eq rfl, State.portAt_modPort]

end

/-! The mode after a change that all else follows: DORMANT is left by commands alone (R417). -/

theorem State.setMode_mode (s : State) (m : Mode) (trigger : Nat) : (s.setMode m trigger).dev.mode = m := State.raise_dev_mode ..

theorem State.settlePorts_mode (s : State) (h : s.dev.mode ≠ .dormant) : s.settlePorts.dev.mode ≠ .dormant := by
  unfold State.settlePorts
  split
  · rw [State.setMode_mode]
    split <;> exact Mode.noConfusion
  · split
    · rw [State.setMode_mode]
      exact Mode.noConfusion
    · exact h

theorem State.settleGuard_mode (s : State) (h : s.dev.mode ≠ .dormant) : s.settleGuard.dev.mode ≠ .dormant := by
  unfold State.settleGuard
  split
  · exact h
  · extract_lets g times s1
    split
    · rw [State.setMode_mode]
      exact Mode.noConfusion
    · split
      · rw [State.setMode_mode]
        exact Mode.noConfusion
      · exact h

theorem State.settle_mode (s : State) (h : s.dev.mode ≠ .dormant) : s.settle.dev.mode ≠ .dormant := by
  have hafter : Keep 0x20000005b00 s.settlePorts.settleGuard s.settle :=
    State.settleIcu_keep _ rfl (State.settleErr_keep _ rfl (Keep.refl _ _))
  rw [← (hafter.1 .devMode rfl).1]
  exact State.settleGuard_mode _ (State.settlePorts_mode s h)

theorem State.follow_mode (s : State) (h : s.dev.mode ≠ .dormant) : s.follow.dev.mode ≠ .dormant := by
  unfold State.follow State.sync State.syncWith
  extract_lets s1 s2
  have hbefore : Keep 0x201b900300 s ([0, 1].foldl (fun s g => s.syncGroup g) s2.opticsCheck) :=
    Keep.foldl _ (fun u g hu => State.syncGroup_keep u g rfl hu)
      (State.opticsCheck_keep _ rfl (Keep.foldl _ (fun u h hu => State.syncHost_keep u h rfl hu)
        (Keep.foldl _ (fun u l hu => State.syncTx_keep _ l _ rfl (State.syncRx_keep u l rfl hu)) (Keep.refl _ _))))
  rw [← ((State.calCheck_frame _).1 .devMode rfl).1]
  refine State.settle_mode _ ?_
  rwa [← (hbefore.1 .devMode rfl).1]

end Sys2Proof.Machine
end

section
/-! PROOFS. The commands of ports and the late start (O23; R302, R306, R308, R309, R318). -/

namespace Sys2Proof.Machine

theorem Keep.portLines_eq {n : Nat} {s t : State} (h : Keep n s t) (hn : n.testBit 29 = false) (p : Nat) :
    t.portLines p = s.portLines p := by
  rw [State.portLines, State.portLines, h.portAt_eq hn]

theorem State.portAt_begun (s : State) (verb noun : Nat) (m : Sentence) (p : Nat) :
    (s.begun verb noun m).portAt p = s.portAt p :=
  s.begun_congr verb noun m (State.portAt · p) fun _ _ _ _ => rfl

theorem State.dev_begun (s : State) (verb noun : Nat) (m : Sentence) : (s.begun verb noun m).dev = s.dev :=
  s.begun_congr verb noun m State.dev fun _ _ _ _ => rfl

/-- A configured slot in one of the states that a command takes. -/
theorem State.portIn_begun {s : State} {p : Nat} {ok : PortState → Bool} {x : PortState} (verb noun : Nat) (m : Sentence)
    (hcfg : (s.portAt p).cfg.isSome = true) (hstate : (s.portAt p).state = x) (hok : ok x = true) :
    (s.begun verb noun m).portIn p ok = none := by
  rw [State.portIn, State.portAt_begun, hcfg, hstate, hok]
  rfl

theorem State.portAt_issued (s : State) (c : CmdSpec) (m : Sentence) (p : Nat) : (s.issued c m).portAt p = s.portAt p := rfl

theorem State.dev_issued (s : State) (c : CmdSpec) (m : Sentence) : (s.issued c m).dev = s.dev := rfl

/-! START (R41, R308, R417). -/

/-- A port that starts. -/
def Port.starting (x : Port) (b : BitVec 64) (t : Ticket) : Port :=
  { x with state := .acquire, since := b, ticket := some t, clockLost := false, late := false, upOnce := false,
           lineFault := [], hostFault := [], lineIn := false, hostIn := false }

/-- START moves DORMANT to PROVISIONED. -/
def State.provisioned (s : State) : State := if s.dev.mode = .dormant then s.setMode .provisioned tPower else s

theorem State.provisioned_frame (s : State) : Keep 0x308 s s.provisioned :=
  Keep.ite (State.setMode_frame ..) (Keep.refl _ _)

theorem State.provisioned_mode (s : State) : s.provisioned.dev.mode ≠ .dormant := by
  unfold State.provisioned
  split
  · rw [State.setMode_mode]
    exact Mode.noConfusion
  · next h => exact h

/-- START while the datapath has no power: the port waits in ACQUIRE. -/
def State.startWaits (s : State) (p : Nat) (t : Ticket) : State :=
  (s.provisioned.modPort p fun x => x.starting s.provisioned.tku.bcnt t).clearDemand p

theorem State.startWaits_frame (s : State) (p : Nat) (t : Ticket) : Keep 0x20180308 s (s.startWaits p t) :=
  State.clearDemand_keep _ _ rfl (Keep.modPort rfl (s.provisioned_frame.step rfl (Keep.refl _ _)))

theorem State.startWaits_portAt (s : State) (p : Nat) (t : Ticket) :
    (s.startWaits p t).portAt p = (s.portAt p).starting s.provisioned.tku.bcnt t := by
  have hclear : Keep 0x180000 (s.provisioned.modPort p fun x => x.starting s.provisioned.tku.bcnt t) (s.startWaits p t) :=
    State.clearDemand_keep _ _ rfl (Keep.refl _ _)
  rw [hclear.portAt_eq rfl, State.portAt_modPort_self, s.provisioned_frame.portAt_eq rfl]

theorem State.startWaits_mode (s : State) (p : Nat) (t : Ticket) : (s.startWaits p t).dev.mode ≠ .dormant := by
  have hclear : Keep 0x20180000 s.provisioned (s.startWaits p t) :=
    State.clearDemand_keep _ _ rfl (Keep.modPort rfl (Keep.refl _ _))
  rw [← (hclear.1 .devMode rfl).1]
  exact s.provisioned_mode

theorem actStart_eq (s : State) (m : Sentence) (ws : List Word) : actStart s m ws =
    ((if (s.provisioned.portStart m.inst.toNat (some (ticketOf m))).dev.powered then
      (s.provisioned.portStart m.inst.toNat (some (ticketOf m))).checkSlices m.inst.toNat
      else s.provisioned.portStart m.inst.toNat (some (ticketOf m))).follow, .accepted []) := rfl

theorem actStart_of_unpowered {s : State} (h : s.dev.powered = false) (m : Sentence) (ws : List Word) :
    actStart s m ws = ((s.startWaits m.inst.toNat (ticketOf m)).follow, .accepted []) := by
  have hoff : (s.startWaits m.inst.toNat (ticketOf m)).dev.powered = false :=
    (congrArg Dev.powered ((s.startWaits_frame ..).1 .devRest rfl)).symm.trans h
  have hstart : s.provisioned.portStart m.inst.toNat (some (ticketOf m)) = s.startWaits m.inst.toNat (ticketOf m) :=
    if_neg (Bool.eq_false_iff.1 hoff)
  rw [actStart_eq, hstart, if_neg (Bool.eq_false_iff.1 hoff)]

/-- What START leaves while the datapath has no power. -/
theorem State.startWaits_follow (s : State) (p : Nat) (t : Ticket) : (s.startWaits p t).follow.mb.box = s.mb.box ∧
    (s.startWaits p t).follow.portAt p = (s.portAt p).starting s.provisioned.tku.bcnt t ∧
    (s.startWaits p t).follow.dev.mode ≠ .dormant := by
  have hfollow := (s.startWaits p t).follow_frame
  exact ⟨(hfollow.boxes_eq rfl).trans ((s.startWaits_frame p t).boxes_eq rfl),
    (hfollow.portAt_eq rfl p).trans (s.startWaits_portAt p t), State.follow_mode _ (s.startWaits_mode p t)⟩

theorem startPort_carries : Carries .startPort specStartPort
    (fun m s => s.dev.refclk ∧ (s.portAt m.inst.toNat).cfg.isSome ∧ (s.portAt m.inst.toNat).state = .stopped ∧
      ticketCheck m s = none ∧ s.dev.powered = false)
    (fun m s t => Replied s t m cAccepted 0 ∧ (t.portAt m.inst.toNat).state = .acquire ∧
      (t.portAt m.inst.toNat).ticket = some (ticketOf m) ∧ t.dev.mode ≠ .dormant ∧
      (t.portAt m.inst.toNat).cfg = (s.portAt m.inst.toNat).cfg ∧ outstOf specStartPort m ∈ t.mb.outstanding) := by
  refine carries_accepted (fun _ _ => rfl) fun m s _ ⟨hclk, hcfg, hstopped, hticket, hoff⟩ => ?_
  obtain ⟨hbox, hport, hmode⟩ := (s.begun specStartPort.verb specStartPort.noun m).startWaits_follow m.inst.toNat (ticketOf m)
  refine ⟨?_, hticket, _, _, actStart_of_unpowered (by rw [State.dev_begun, hoff]) .., hbox, fun t ht hout => ?_⟩
  · rw [checkStart, State.dev_begun, hclk]
    exact State.portIn_begun (ok := (· = .stopped)) _ _ _ hcfg hstopped rfl
  · rw [ht.portAt_eq rfl, ← (ht.1 .devMode rfl).1, State.portAt_issued, State.dev_issued, hport, State.portAt_begun]
    exact ⟨rfl, rfl, hmode, rfl, hout⟩

/-- A command is taken while events are heard (R657, R658). -/
theorem State.Takes.hears {c : CmdSpec} {m : Sentence} {s : State} (h : s.Takes c m) : s.hears := by
  have hbegins := h.begins
  rw [State.begins, Bool.and_eq_true, Bool.not_eq_true'] at hbegins
  exact hbegins.2

/-! STOP (R308, R316, R344). -/

section
variable (s : State) (p : Nat)

theorem State.stopPort_box : (s.stopPort p).mb.box = s.mb.box := by
  rw [State.stopPort, (State.follow_frame _).boxes_eq rfl, State.portStop_box, State.foldl_pltDiscard_box]

/-- What STOP makes of its port and the port's lanes, and what it tells. -/
theorem State.stopPort_stops (hears : s.hears) : ((s.stopPort p).portAt p).state = .stopped ∧
    (∀ l ∈ s.portLines p, ((s.stopPort p).lineAt l).state = .down) ∧
    (∀ h ∈ s.portHosts p, ((s.stopPort p).hostAt h).state = .down) ∧
    Raises s (s.stopPort p) evPortStopped [Word.nat p, Word.nat (s.portAt p).state.num] := by
  have hdiscard := s.foldl_pltDiscard_frame (s.portLines p)
  have hfollow := State.follow_frame (((s.portLines p).foldl (fun s l => s.pltDiscard l) s).portStop p 2)
  refine ⟨?_, fun l hl => ?_, fun h hh => ?_, ?_⟩
  · exact (congrArg Port.state (hfollow.portAt_eq rfl p)).trans (State.portStop_state ..)
  · refine (hfollow.1 .lnState rfl l).1.symm.trans (State.portStop_lineAt _ _ _ ?_)
    rwa [hdiscard.portLines_eq rfl]
  · refine (hfollow.host_eq rfl h HostLane.state fun _ => rfl).trans (State.portStop_hostAt _ _ _ ?_)
    rwa [hdiscard.portHosts_eq rfl]
  · rw [← hdiscard.portAt_eq rfl p]
    exact ((State.portStop_raises _ p 2 (hdiscard.hears rfl hears)).after hdiscard rfl).keep hfollow rfl

end

theorem stopPort_carries : Carries .stopPort specStopPort
    (fun m s => (s.portAt m.inst.toNat).cfg.isSome ∧
      ((s.portAt m.inst.toNat).state = .acquire ∨ (s.portAt m.inst.toNat).state = .up ∨ (s.portAt m.inst.toNat).state = .fault))
    (fun m s t => Replied s t m cDone 0 ∧ (t.portAt m.inst.toNat).state = .stopped ∧
      (∀ l ∈ s.portLines m.inst.toNat, (t.lineAt l).state = .down) ∧
      (∀ h ∈ s.portHosts m.inst.toNat, (t.hostAt h).state = .down) ∧
      Raises s t evPortStopped [Word.nat m.inst.toNat, Word.nat (s.portAt m.inst.toNat).state.num]) := by
  refine carries_done (fun _ _ => rfl) fun m s htakes ⟨hcfg, hstarted⟩ => ?_
  have hbegun := s.begun_frame specStopPort.verb specStopPort.noun m
  obtain ⟨hstopped, hlines, hhosts, hraises⟩ := State.stopPort_stops (s.begun specStopPort.verb specStopPort.noun m) m.inst.toNat
    (hbegun.hears rfl htakes.hears)
  rw [State.portAt_begun] at hraises
  rw [hbegun.portLines_eq rfl] at hlines
  rw [hbegun.portHosts_eq rfl] at hhosts
  have hruns : (s.portAt m.inst.toNat).state ≠ .stopped ∧ (s.portAt m.inst.toNat).state ≠ .test := by
    rcases hstarted with h | h | h <;> rw [h] <;> exact ⟨PortState.noConfusion, PortState.noConfusion⟩
  refine ⟨State.portIn_begun _ _ _ hcfg rfl (decide_eq_true hruns.2), _, _, _,
    congrArg (·, okDone) (if_neg (by rw [State.portAt_begun]; exact hruns.1)), State.stopPort_box ..,
    fun t ht => ⟨?_, fun l hl => ?_, fun h hh => ?_, ?_⟩⟩
  · exact (congrArg Port.state (ht.portAt_eq rfl _)).trans hstopped
  · exact (ht.1 .lnState rfl l).1.symm.trans (hlines l hl)
  · exact (ht.host_eq rfl h HostLane.state fun _ => rfl).trans (hhosts h hh)
  · exact (hraises.after hbegun rfl).keep ht rfl

/-! SET of a configuration (R302, R305, R306). -/

/-- A STOPPED slot takes any configuration that stands. -/
theorem checkPortCfg_of_stopped {s : State} {m : Sentence} {ws : List Word} {c : PortCfg}
    (hstopped : (s.portAt m.inst.toNat).state = .stopped) (hrange : maskRange nPortCfg m ws = none) (hasked : askedCfg s m ws = some c) :
    checkPortCfg s m ws = if s.cfgOk m.inst.toNat c then none else some { code := cResource, detail := 1 } := by
  have hfits : s.cfgFits m.inst.toNat (some c) = true := by
    unfold State.cfgFits
    rw [hstopped]
  rw [checkPortCfg, hrange, hasked]
  dsimp only
  rw [hfits]
  rfl

theorem checkPortCfg_begun (s : State) (verb noun : Nat) (m : Sentence) (ws : List Word) :
    checkPortCfg (s.begun verb noun m) m ws = checkPortCfg s m ws :=
  s.begun_congr verb noun m (checkPortCfg · m ws) fun _ _ _ _ => rfl

/-- A new profile acts in place; Transparent has no block-lock monitor (R304, R305). -/
def State.profiled (s : State) (p : Nat) (c : PortCfg) : State :=
  let s2 := s.modPort p fun x => x.configured (some c)
  (if c.profile = .transparent then [0, 1].foldl (fun s d => s.modBlock (blockIdx p d) fun _ => {}) s2 else s2).follow

theorem State.profiled_box (s : State) (p : Nat) (c : PortCfg) : (s.profiled p c).mb.box = s.mb.box := by
  have hplace : Keep 0x2607b905b08 s (s.profiled p c) :=
    State.follow_keep _ rfl (Keep.ite (Keep.foldl _ (fun _ _ hu => Keep.modBlock rfl hu) (Keep.modPort rfl (Keep.refl _ _)))
      (Keep.modPort rfl (Keep.refl _ _)))
  exact hplace.boxes_eq rfl

theorem State.profiled_portAt (s : State) (p : Nat) (c : PortCfg) (q : Nat) :
    (s.profiled p c).portAt q = if q = p then (s.portAt p).configured (some c) else s.portAt q := by
  have hplace : Keep 0x2605b905b08 (s.modPort p fun x => x.configured (some c)) (s.profiled p c) :=
    State.follow_keep _ rfl (Keep.ite (Keep.foldl _ (fun _ _ hu => Keep.modBlock rfl hu) (Keep.refl _ _)) (Keep.refl _ _))
  rw [hplace.portAt_eq rfl, State.portAt_modPort]

/-- A SET of a configuration that changes the profile alone acts in place; any other has the lanes follow. -/
theorem actPortCfg_cases (s : State) (m : Sentence) (ws : List Word) :
    actPortCfg s m ws = ((setAct nPortCfg s m ws).1.reconfigure m.inst.toNat (askedCfg s m ws), okDone) ∨
    ∃ c, askedCfg s m ws = some c ∧ actPortCfg s m ws = ((setAct nPortCfg s m ws).1.profiled m.inst.toNat c, okDone) := by
  unfold actPortCfg
  dsimp only
  split
  · next a b _ hasked =>
    split
    · refine .inr ⟨b, hasked, ?_⟩
      rw [hasked]
      rfl
    · exact .inl rfl
  · exact .inl rfl

/-- Either way the slot's configuration alone changes among the ports. -/
theorem actPortCfg_spec (s : State) (m : Sentence) (ws : List Word) : ∃ e, actPortCfg s m ws = (e, okDone) ∧ e.mb.box = s.mb.box ∧
    ∀ q, e.portAt q = if q = m.inst.toNat then (s.portAt m.inst.toNat).configured (askedCfg s m ws) else s.portAt q := by
  have hset : Keep 0x10000 s (setAct nPortCfg s m ws).1 := s.applyChanges_frame ..
  simp only [← hset.portAt_eq rfl]
  rw [← hset.boxes_eq rfl]
  obtain hact | ⟨c, hasked, hact⟩ := actPortCfg_cases s m ws
  · exact ⟨_, hact, State.reconfigure_box .., State.reconfigure_portAt _ _ _⟩
  · rw [hasked]
    exact ⟨_, hact, State.profiled_box .., State.profiled_portAt _ _ _⟩

theorem setPortCfg_carries (c : PortCfg) : Carries .setPortCfg specSetPortCfg
    (fun m s => (s.portAt m.inst.toNat).state = .stopped ∧ maskRange nPortCfg m (payloadOf m) = none ∧
      askedCfg s m (payloadOf m) = some c ∧ s.cfgOk m.inst.toNat c)
    (fun m s t => Replied s t m cDone 0 ∧ (t.portAt m.inst.toNat).cfg = some c ∧
      ∀ p, p ≠ m.inst.toNat → t.portAt p = s.portAt p) := by
  refine carries_done (fun _ _ => rfl) fun m s _ ⟨hstopped, hrange, hasked, hok⟩ => ?_
  obtain ⟨e, hact, hbox, hports⟩ := actPortCfg_spec (s.begun specSetPortCfg.verb specSetPortCfg.noun m) m (payloadOf m)
  have hcfg : askedCfg (s.begun specSetPortCfg.verb specSetPortCfg.noun m) m (payloadOf m) = some c :=
    (s.begun_congr _ _ _ (askedCfg · m (payloadOf m)) fun _ _ _ _ => rfl).trans hasked
  refine ⟨?_, e, _, _, hact, hbox, fun t ht => ⟨?_, fun p hp => ?_⟩⟩
  · exact (checkPortCfg_begun ..).trans ((checkPortCfg_of_stopped hstopped hrange hasked).trans (if_pos hok))
  · rw [ht.portAt_eq rfl, hports, if_pos rfl]
    exact hcfg
  · rw [ht.portAt_eq rfl, hports, if_neg hp, State.portAt_begun]

theorem setPortCfg_carries_refused (c : PortCfg) : Carries .setPortCfg specSetPortCfg
    (fun m s => (s.portAt m.inst.toNat).state = .stopped ∧ maskRange nPortCfg m (payloadOf m) = none ∧
      askedCfg s m (payloadOf m) = some c ∧ s.cfgOk m.inst.toNat c = false)
    (fun m s t => Replied s t m cResource 1 ∧ t.port = s.port ∧ t.params = s.params) :=
  carries_refused (fun _ _ => rfl) fun _ _ _ ⟨hstopped, hrange, hasked, hbroken⟩ =>
    ⟨(checkPortCfg_begun ..).trans ((checkPortCfg_of_stopped hstopped hrange hasked).trans (if_neg (Bool.eq_false_iff.1 hbroken))),
      fun _ ht => ⟨(ht.1 .port rfl).symm, (ht.1 .params rfl).symm⟩⟩

/-! DELETE (R318, R344, R363). -/

theorem deletePortCfg_carries : Carries .deletePortCfg specDeletePortCfg
    (fun m s => (s.portAt m.inst.toNat).cfg.isSome ∧ (s.portAt m.inst.toNat).state = .stopped)
    (fun m s t => Replied s t m cDone 0 ∧ (t.portAt m.inst.toNat).cfg = none ∧ t.portLines m.inst.toNat = []) := by
  refine carries_done (fun _ _ => rfl) fun m s _ ⟨hcfg, hstopped⟩ => ?_
  refine ⟨State.portIn_begun _ _ _ hcfg hstopped rfl, _, _, _, rfl, ?_, fun t ht => ?_⟩
  · rw [(State.markPort_keep _ _ rfl (Keep.refl 0x200000000 _)).boxes_eq rfl, State.reconfigure_box,
      (State.setParams_frame ..).boxes_eq rfl, State.foldl_pltDiscard_box]
  · have hnone : (t.portAt m.inst.toNat).cfg = none := by
      rw [ht.portAt_eq rfl, (State.markPort_keep _ _ rfl (Keep.refl 0x200000000 _)).portAt_eq rfl, State.reconfigure_portAt, if_pos rfl]
      rfl
    exact ⟨hnone, by rw [State.portLines, hnone]⟩

/-! The late start (R309). -/

/-- A port whose START has ended late. -/
def Port.endedLate (x : Port) : Port := { x with late := true, ticket := none }

/-- A START that is late has ended; nothing of it is told yet. -/
def State.startLate (s : State) (p : Nat) : State :=
  (s.modPort p Port.endedLate).finishOpt (s.portAt p).ticket cDone 1 (.port p)

/-- The lanes that a late port waits for, and their steps (R309). -/
def State.lateWords (s : State) (p : Nat) : List Word :=
  let ls := (s.portLines p).filter fun l => (s.lineAt l).state = .acquire
  let hs := (s.portHosts p).filter fun h => (s.hostAt h).state = .acquire
  [Word.nat p, Word.nat (maskOf ls), Word.nat (maskOf hs)] ++ ls.map (fun l => Word.nat (s.lineAt l).lrx.step) ++
    hs.map fun h => Word.nat (s.hostAt h).step

theorem State.startLate_portAt (s : State) (p : Nat) (data : List Word) :
    ((s.startLate p).raise evPortStartLate data).portAt p = (s.portAt p).endedLate := by
  rw [(State.raise_frame ..).portAt_eq rfl, State.startLate, (State.finishOpt_frame ..).portAt_eq rfl, State.portAt_modPort_self]

theorem exec_portStartTimeout {s : State} {p : Nat} (hp : p < s.lines) (hacquire : (s.portAt p).state = .acquire)
    (hup : (s.portAt p).upOnce = false) (hlate : (s.portAt p).late = false) :
    exec (.portStartTimeout p) s = .next ((s.startLate p).raise evPortStartLate (s.lateWords p)) :=
  congrArg Host.Outcome.next (if_pos ⟨hp, .inl hacquire, by rw [hup]; rfl, by rw [hlate]; rfl⟩)

theorem portStartTimeout_completes (p : Nat) : Completes (.portStartTimeout p)
    (fun s => p < s.lines ∧ (s.portAt p).state = .acquire ∧ (s.portAt p).upOnce = false ∧ (s.portAt p).late = false ∧ s.hears)
    fun s t => (t.portAt p).late = true ∧ (t.portAt p).ticket = none ∧ (t.portAt p).state = .acquire ∧
      Raises s t evPortStartLate
        ([Word.nat p, Word.nat (maskOf ((s.portLines p).filter fun l => (s.lineAt l).state = .acquire)),
          Word.nat (maskOf ((s.portHosts p).filter fun h => (s.hostAt h).state = .acquire))] ++
        ((s.portLines p).filter fun l => (s.lineAt l).state = .acquire).map (fun l => Word.nat (s.lineAt l).lrx.step) ++
        ((s.portHosts p).filter fun h => (s.hostAt h).state = .acquire).map fun h => Word.nat (s.hostAt h).step) := by
  rintro s ⟨hp, hacquire, hup, hlate, hears⟩
  have hended : Keep 0x20020001b80 s (s.startLate p) := State.finishOpt_keep _ _ _ _ _ rfl (Keep.modPort rfl (Keep.refl _ _))
  have hport := s.startLate_portAt p (s.lateWords p)
  refine ⟨_, exec_portStartTimeout hp hacquire hup hlate, ?_⟩
  dsimp only
  rw [hport]
  exact ⟨rfl, rfl, hacquire, Raises.of_keep hears hended rfl (Keep.refl 0 _) rfl⟩

/-- Settles O23, from one lemma for each of its six clauses. -/
theorem portCommandsComplete : Obligations.PortCommandsComplete :=
  ⟨startPort_carries, stopPort_carries, setPortCfg_carries, setPortCfg_carries_refused, deletePortCfg_carries,
    portStartTimeout_completes⟩

end Sys2Proof.Machine
end

section
/-! PROOFS. The refutation of the statement about the residence correction of PTP frames (O31).

Its clause for a residence out of range leaves the SRAM words that the frame's reads found bad open, and bounds neither their
region nor the lanes that engines serve. The statistics stand in one table under 2048 * group + 32 * unit + item: item 5 of a line
lane 448 + u, its abandoned swaps, has the number of item 5 of timekeeping unit u, its residences out of range. A read that finds
local memory bad faults the engine whose row it is (R542), and a shadow engine's fault abandons the swap of its lane (R162). The
frame then counts twice where the statement has it count once. No part has a lane 448, and no well-formed frame names local memory
(R10, R374, R540), but the statement is about every state and every frame. -/

namespace Sys2Proof.Machine

/-- A PTP event message, in order but for a path that ends before it starts, on whose way a word of engine 0's local memory was
found uncorrectable. -/
def outOfRangeFrame : Frame :=
  { da := 0, sa := 0, tags := [], etype := some 0x88F7, length := 100, fcsOk := true, errCtrl := false, cut := false,
    ptp := some (0, 2), ip := 0, proto := 0, frag := false, dport := 0, correction := 0, csum := 0, parseAt := 0,
    rewriteAt := -1000, ecc := [{ region := 4, addr := 0, row := 0, syn := none }] }

/-- The configuration of a Terminate port. -/
def terminateCfg : PortCfg := { type := 0, half := false, reduced := false, base := 0, profile := .terminate }

/-- Port 0 is UP and carries traffic with residence correction accepted; engine 0 shadows a swap of lane 448. -/
def strayShadow : State :=
  { dev := { mode := .provisioned, accepted := 2 }
    port := [(0, { cfg := some terminateCfg, state := .up })]
    block := [(0, { lock := true })]
    eng := [(0, { role := .shadow, lane := 448 })]
    line := [(448, { sea := { swap := some {} } })] }

/-- The parse of a PTP event message that a Terminate port forwards, where reads found words bad and the Lexicon is off (R399, R743). -/
theorem exec_frameParsed_of_event {s : State} {p d : Nat} {f : Frame} {c : PortCfg} (hcfg : (s.portAt p).cfg = some c)
    (hparses : s.parses p d f c = true) (hecc : f.ecc.isEmpty = false) (hlex : s.unitOn fLex = false)
    (hevent : c.profile = .terminate ∧ s.unitOn fResid = true ∧ ptpEvent f = true) : exec (.frameParsed p d f) s = .next
      ((s.counterReads f.ecc).follow.correctFrame (2 * p + d) (frameSent f) (f.ptp.getD (0, 0)).1.toNat).follow := by
  change execFrameParsed p d f s = _
  simp only [execFrameParsed, hcfg, hparses, hecc, hlex, if_pos hevent, if_true, Bool.false_eq_true, if_false]

/-- The state in which the frame has been corrected, before what follows from that. -/
def strayShadowCorrected : State := (strayShadow.counterReads outOfRangeFrame.ecc).follow.correctFrame 0 outOfRangeFrame 0

theorem exec_frameParsed_strayShadow : exec (.frameParsed 0 0 outOfRangeFrame) strayShadow = .next strayShadowCorrected.follow :=
  exec_frameParsed_of_event (c := terminateCfg) rfl (by decide) rfl (by decide) (by decide)

/-- The abandoned swap and the residence out of range both count. -/
theorem strayShadowCorrected_count : (strayShadowCorrected.statAt gTku 0 tkRange).live = 2 := by decide +kernel

/-- Refutes O31: in `strayShadow` one frame out of range adds 2 to unit 0's residences out of range. -/
theorem not_framesAreCorrected : ¬ Obligations.FramesAreCorrected := by
  unfold Obligations.FramesAreCorrected
  rintro ⟨-, -, outOfRange, -⟩
  obtain ⟨t, hexec, -, -, hcount⟩ := outOfRange 0 0 outOfRangeFrame terminateCfg strayShadow (by decide +kernel)
  obtain rfl := Host.Outcome.next.inj (exec_frameParsed_strayShadow.symm.trans hexec)
  rw [State.follow_statAt] at hcount
  have honce := strayShadowCorrected_count
  rw [hcount] at honce
  exact absurd honce (by decide)

end Sys2Proof.Machine
end

section
/-! PROOFS. Replies with result words (R445, R449): which words the mailbox holds after a command other than SET. -/

namespace Sys2Proof.Machine

/-! The mailbox after a reply. -/

theorem State.edge_boxAt (s : State) (r q : Requester) (src n : Nat) : (s.edge r src).boxAt q n = s.boxAt q n :=
  congrArg (fun b : Mb => tget b.box boxDflt (boxKey q n)) ((s.edge_frame r src).1 .mb rfl).symm

theorem State.complete_boxAt (e : State) (m : Sentence) (code detail : Nat) (o : Obj) (ws : List Word) (k : Nat) :
    (e.complete m code detail o ws k).boxAt m.req m.mbx = { e.boxAt m.req m.mbx with
      payload := putWords (e.boxAt m.req m.mbx).payload 0 ws, resp := Word.nat (m.tag.toNat + k * 65536), info := e.info o
      status := Word.nat (code + detail * 256), seq := (e.boxAt m.req m.mbx).seq + 1, state := .complete } := by
  unfold State.complete
  extract_lets s1 mb s2
  have hs2 : s2.boxAt m.req m.mbx = s1.boxAt m.req m.mbx := rfl
  split
  · exact hs2.trans (State.boxAt_modBox_self ..)
  · exact (State.edge_boxAt ..).trans (hs2.trans (State.boxAt_modBox_self ..))

/-- The mailbox holds the words of the reply from its first payload word on. -/
theorem State.complete_payload (e : State) (m : Sentence) (code detail : Nat) (o : Obj) {ws : List Word} (k : Nat) {i : Nat}
    (hi : i < ws.length) :
    tget ((e.complete m code detail o ws k).boxAt m.req m.mbx).payload (fun _ => 0) i = ws.getD i 0 := by
  rw [State.complete_boxAt]
  exact (tget_putWords ..).trans (if_pos ⟨Nat.zero_le i, by omega⟩)

theorem State.complete_delivers (e : State) (m : Sentence) (code detail : Nat) (o : Obj) (ws : List Word) :
    Delivers (e.complete m code detail o ws (4 * ws.length)) m ws :=
  ⟨congrArg Box.resp (State.complete_boxAt ..), fun _ hi => State.complete_payload _ _ _ _ _ _ hi⟩

section
variable {k : CmdSpec} {check : State → Sentence → List Word → Option Refuse} {act : State → Sentence → List Word → State × Reply}
  {echo : State → Nat → List Word} {m : Sentence} {s e : State} {out : List Word}

/-- A command that is no SET has no parameter set to echo (R449). -/
theorem submit_of_done_words {n : Nat} (h : s.Takes k m) (hm : m.check = false) (hverb : k.verb ≠ vSet)
    (hcheck : check (s.begun k.verb k.noun m) m (payloadOf m) = none)
    (hact : act (s.begun k.verb k.noun m) m (payloadOf m) = (e, .done out n)) :
    ∃ o, submit k.verb k.noun (process k check act echo) m s = e.complete m cDone 0 o out n := by
  obtain ⟨s0, hsubmit, hs0⟩ := submit_of_takes (process k check act echo) h
  obtain ⟨hwords, hcommon⟩ := h.begun
  rw [hsubmit]
  unfold process
  simp only [hs0, hwords, hcommon, hcheck, hact, hm, hverb, decide_false, Bool.and_false, Bool.false_eq_true, if_false]
  exact ⟨_, rfl⟩

theorem submit_of_accepted_words (h : s.Takes k m) (hm : m.check = false)
    (hcheck : check (s.begun k.verb k.noun m) m (payloadOf m) = none)
    (hact : act (s.begun k.verb k.noun m) m (payloadOf m) = (e, .accepted out))
    (hticket : ticketCheck m (s.begun k.verb k.noun m) = none) :
    ∃ o, submit k.verb k.noun (process k check act echo) m s = (e.issued k m).complete m cAccepted 0 o out (4 * out.length) := by
  obtain ⟨s0, hsubmit, hs0⟩ := submit_of_takes (process k check act echo) h
  obtain ⟨hwords, hcommon⟩ := h.begun
  rw [hsubmit]
  unfold process
  simp only [hs0, hwords, hcommon, hcheck, hact, hm, hticket, Bool.false_eq_true, false_and, if_false]
  exact ⟨_, rfl⟩

end

section
variable {c : Sentence → Instr} {k : CmdSpec} {check : State → Sentence → List Word → Option Refuse}
  {act : State → Sentence → List Word → State × Reply} {echo : State → Nat → List Word} {pre : Sentence → State → Prop}
  {post : Sentence → State → State → Prop}
  (hexec : ∀ m s, exec (c m) s = .next (submit k.verb k.noun (process k check act echo) m s))
include hexec

/-- DONE of a command that is no SET: the reply carries the words of the effect. -/
theorem carries_done_words (hverb : k.verb ≠ vSet)
    (h : ∀ m s, s.Takes k m → pre m s → check (s.begun k.verb k.noun m) m (payloadOf m) = none ∧
      ∃ e out n, act (s.begun k.verb k.noun m) m (payloadOf m) = (e, .done out n) ∧
        e.mb.box = (s.begun k.verb k.noun m).mb.box ∧ ∀ o, post m s (e.complete m cDone 0 o out n)) :
    Carries c k pre fun m s t => Replied s t m cDone 0 ∧ post m s t := by
  intro m s htakes hm hpre
  obtain ⟨hcheck, e, out, n, hact, hbox, hpost⟩ := h m s htakes hpre
  obtain ⟨o, hsubmit⟩ := submit_of_done_words (echo := echo) htakes hm hverb hcheck hact
  exact ⟨_, (hexec m s).trans (congrArg Host.Outcome.next hsubmit), State.complete_replied cDone 0 o out n hbox, hpost o⟩

/-- ACCEPTED: the reply carries the words of the effect. -/
theorem carries_accepted_words
    (h : ∀ m s, s.Takes k m → pre m s → check (s.begun k.verb k.noun m) m (payloadOf m) = none ∧ ticketCheck m s = none ∧
      ∃ e out, act (s.begun k.verb k.noun m) m (payloadOf m) = (e, .accepted out) ∧
        e.mb.box = (s.begun k.verb k.noun m).mb.box ∧
        ∀ o, post m s ((e.issued k m).complete m cAccepted 0 o out (4 * out.length))) :
    Carries c k pre fun m s t => Replied s t m cAccepted 0 ∧ post m s t := by
  intro m s htakes hm hpre
  obtain ⟨hcheck, hticket, e, out, hact, hbox, hpost⟩ := h m s htakes hpre
  obtain ⟨o, hsubmit⟩ := submit_of_accepted_words (echo := echo) htakes hm hcheck hact ((ticketCheck_begun ..).trans hticket)
  exact ⟨_, (hexec m s).trans (congrArg Host.Outcome.next hsubmit), State.complete_replied cAccepted 0 o _ _ hbox, hpost o⟩

end

end Sys2Proof.Machine
end

section
/-! PROOFS. Pilot packets sent (O24, its first part; R322, R327, R332, R333, R344). -/

namespace Sys2Proof.Machine

theorem State.lineAt_modPlt_other (s : State) {l k : Nat} (f : Plt → Plt) (hk : k ≠ l) : (s.modPlt l f).lineAt k = s.lineAt k := by
  rw [State.lineAt_modPlt, if_neg hk]

theorem State.plt_modPlt (s : State) (l : Nat) (f : Plt → Plt) : ((s.modPlt l f).lineAt l).plt = f (s.lineAt l).plt := by
  rw [State.lineAt_modPlt_self]

theorem State.modPlt_frame (s : State) (l : Nat) (f : Plt → Plt) : Keep 0x1000000 s (s.modPlt l f) := Keep.modPlt rfl (Keep.refl _ _)

/-! Beacons (R332). -/

theorem exec_beaconIntervalExpiry {s : State} {l : Nat} (h : l < s.lines ∧ (s.portOf l).isSome ∧ s.unitOn fPilot ∧
      s.parN nPltCfg l pltTransmit = 0 ∧ s.param nPltCfg l pltInterval ≠ offWord ∧ (s.lineAt l).plt.begun) :
    exec (.beaconIntervalExpiry l) s =
      .next (if (s.lineAt l).plt.due then s.bump gPlt l 2 else s.modPlt l fun x => { x with due := true }) :=
  congrArg Host.Outcome.next (if_pos h)

theorem beaconIntervalExpiry_completes (l : Nat) : Completes (.beaconIntervalExpiry l)
    (fun s => l < s.lines ∧ (s.portOf l).isSome ∧ s.unitOn fPilot ∧ s.parN nPltCfg l pltTransmit = 0 ∧
      s.param nPltCfg l pltInterval ≠ offWord ∧ (s.lineAt l).plt.begun)
    fun s t => (t.lineAt l).plt = { (s.lineAt l).plt with due := true } ∧
      ((s.lineAt l).plt.due → t.statAt gPlt l 2 = (s.statAt gPlt l 2).add 1) ∧
      ((s.lineAt l).plt.due = false → t.stats = s.stats) ∧ ∀ k, k ≠ l → t.lineAt k = s.lineAt k := by
  intro s hpre
  refine ⟨_, exec_beaconIntervalExpiry hpre, ?_⟩
  dsimp only
  cases hdue : (s.lineAt l).plt.due with
  | true =>
    have hsame : (s.lineAt l).plt = { (s.lineAt l).plt with due := true } := by rw [← hdue]
    exact ⟨hsame, fun _ => State.statAt_bump_self .., nofun, fun _ _ => rfl⟩
  | false =>
    rw [if_neg Bool.false_ne_true]
    exact ⟨State.plt_modPlt .., nofun, fun _ => rfl, fun _ hk => State.lineAt_modPlt_other _ _ hk⟩

/-! A packet starts (R327, R333, R344). -/

/-- The conditions under which the pilot transmitter of a lane starts packets, after the gap of R327. -/
theorem State.pltCanSend_of {s : State} {l : Nat} (hl : l < s.lines) (hunit : s.unitOn fPilot = true)
    (htransmit : s.parN nPltCfg l pltTransmit = 0) (hon : (s.lineAt l).ltx.state = .on) (hclk : s.dev.refclk = true)
    (hair : (s.lineAt l).plt.air = none) (hgap : ((s.lineAt l).plt.endedAt.all fun b => 160000 ≤ s.since b) = true) :
    s.pltCanSend l = true := by
  unfold State.pltCanSend
  rw [decide_eq_true hl, hunit, htransmit, hon, hclk, hair]
  cases hended : (s.lineAt l).plt.endedAt with
  | none => rfl
  | some b =>
    rw [hended] at hgap
    exact hgap

/-- A packet that goes on air. -/
def Plt.sends (x : Plt) (p : PltPkt) (index depth : Nat) : Plt := { x with
  air := some p, airPhases := phases (packetBits (header p.type p.payload.length p.seq) p.payload)
  airAt := -(((18000 - index % 18000) % 18000 : Nat) : Int), depth := depth }

/-- What goes on air goes with the depth in force and the place of its symbol 0, whatever `f` has made of the pilot channel. -/
theorem State.airStart_modPlt (s : State) (l : Nat) (f : Plt → Plt) (p : PltPkt) :
    ((((s.modPlt l f).airStart l p).lineAt l).plt =
      (f (s.lineAt l).plt).sends p (s.lineAt l).ltx.index (s.parN nPltCfg l pltDepth)) ∧
    (∀ k, k ≠ l → ((s.modPlt l f).airStart l p).lineAt k = s.lineAt k) ∧
    OnlyChanges [.lnPlt] s ((s.modPlt l f).airStart l p) := by
  have hframe : Keep 0x1000000 s ((s.modPlt l f).airStart l p) := Keep.modPlt rfl (s.modPlt_frame l f)
  refine ⟨?_, fun k hk => ?_, hframe.among rfl⟩
  · rw [State.airStart, State.plt_modPlt, State.lineAt_modPlt_self]
    rfl
  · rw [State.airStart, State.lineAt_modPlt_other _ _ hk, State.lineAt_modPlt_other _ _ hk]

theorem exec_pilotPacketStart_of_due {s : State} {l : Nat} (hcan : s.pltCanSend l = true) (hdue : (s.lineAt l).plt.due = true) :
    exec (.pilotPacketStart l) s = .next ((s.modPlt l fun y => { y with due := false, seq := (y.seq + 1) % 256 }).airStart l
      { type := pltIdentity, seq := (s.lineAt l).plt.seq, payload := s.beaconPayload l }) :=
  congrArg Host.Outcome.next ((if_pos hcan).trans (if_pos hdue))

theorem exec_pilotPacketStart_of_queue {s : State} {l : Nat} {p : PltPkt} {ps : List PltPkt} (hcan : s.pltCanSend l = true)
    (hdue : (s.lineAt l).plt.due = false) (hqueue : (s.lineAt l).plt.queue = p :: ps) :
    exec (.pilotPacketStart l) s = .next ((s.modPlt l fun y => { y with queue := ps }).airStart l p) := by
  refine congrArg Host.Outcome.next ((if_pos hcan).trans ((if_neg (Bool.eq_false_iff.1 hdue)).trans ?_))
  rw [hqueue]

theorem pilotPacketStart_completes_of_due (l : Nat) (p : PltPkt) : Completes (.pilotPacketStart l)
    (fun s => l < s.lines ∧ s.unitOn fPilot ∧ s.parN nPltCfg l pltTransmit = 0 ∧ (s.lineAt l).ltx.state = .on ∧ s.dev.refclk ∧
      (s.lineAt l).plt.air = none ∧ ((s.lineAt l).plt.endedAt.all fun b => 160000 ≤ s.since b) ∧
      (s.lineAt l).plt.due ∧ p = { type := pltIdentity, seq := (s.lineAt l).plt.seq, payload := s.beaconPayload l })
    fun s t => (t.lineAt l).plt = { (s.lineAt l).plt with
        due := false, seq := ((s.lineAt l).plt.seq + 1) % 256, air := some p,
        airPhases := phases (packetBits (header p.type p.payload.length p.seq) p.payload),
        airAt := -(((18000 - (s.lineAt l).ltx.index % 18000) % 18000 : Nat) : Int), depth := s.parN nPltCfg l pltDepth } ∧
      (∀ k, k ≠ l → t.lineAt k = s.lineAt k) ∧ OnlyChanges [.lnPlt] s t := by
  rintro s ⟨hl, hunit, htransmit, hon, hclk, hair, hgap, hdue, rfl⟩
  exact ⟨_, exec_pilotPacketStart_of_due (State.pltCanSend_of hl hunit htransmit hon hclk hair hgap) hdue,
    State.airStart_modPlt ..⟩

theorem pilotPacketStart_completes_of_queue (l : Nat) (p : PltPkt) (ps : List PltPkt) : Completes (.pilotPacketStart l)
    (fun s => l < s.lines ∧ s.unitOn fPilot ∧ s.parN nPltCfg l pltTransmit = 0 ∧ (s.lineAt l).ltx.state = .on ∧ s.dev.refclk ∧
      (s.lineAt l).plt.air = none ∧ ((s.lineAt l).plt.endedAt.all fun b => 160000 ≤ s.since b) ∧
      (s.lineAt l).plt.due = false ∧ (s.lineAt l).plt.queue = p :: ps)
    fun s t => (t.lineAt l).plt = { (s.lineAt l).plt with
        queue := ps, air := some p,
        airPhases := phases (packetBits (header p.type p.payload.length p.seq) p.payload),
        airAt := -(((18000 - (s.lineAt l).ltx.index % 18000) % 18000 : Nat) : Int), depth := s.parN nPltCfg l pltDepth } ∧
      (∀ k, k ≠ l → t.lineAt k = s.lineAt k) ∧ OnlyChanges [.lnPlt] s t := by
  rintro s ⟨hl, hunit, htransmit, hon, hclk, hair, hgap, hdue, hqueue⟩
  exact ⟨_, exec_pilotPacketStart_of_queue (State.pltCanSend_of hl hunit htransmit hon hclk hair hgap) hdue hqueue,
    State.airStart_modPlt ..⟩

/-! The packet on air ends (R322, R349). -/

/-- The packet on air has ended and is counted. -/
def State.airCounted (s : State) (l : Nat) : State := (s.airEnd l).bump gPlt l 0

theorem State.airCounted_lineAt (s : State) (l k : Nat) : (s.airCounted l).lineAt k = (s.airEnd l).lineAt k := rfl

theorem State.airEnd_plt (s : State) (l : Nat) : ((s.airEnd l).lineAt l).plt =
    { (s.lineAt l).plt with air := none, airPhases := [], endedAt := some s.tku.bcnt } := State.plt_modPlt ..

theorem State.airCounted_statAt (s : State) (l : Nat) : (s.airCounted l).statAt gPlt l 0 = (s.statAt gPlt l 0).add 1 :=
  State.statAt_bump_self ..

theorem State.airCounted_frame (s : State) (l : Nat) : Keep 0x1020000 s (s.airCounted l) :=
  Keep.bump rfl (State.airEnd_keep _ _ rfl (Keep.refl _ _))

theorem exec_pilotPacketEnd_of_identity {s : State} {l : Nat} {p : PltPkt} (hair : (s.lineAt l).plt.air = some p)
    (htype : p.type = pltIdentity) : exec (.pilotPacketEnd l) s =
      .next (((s.airCounted l).modPlt l fun x => { x with beacons := x.beacons + 1 }).bump gPlt l 1) := by
  change execPilotPacketEnd l s = _
  rw [execPilotPacketEnd, hair]
  exact congrArg Host.Outcome.next (if_pos htype)

theorem exec_pilotPacketEnd_of_user {s : State} {l : Nat} {p : PltPkt} (hair : (s.lineAt l).plt.air = some p)
    (htype : p.type ≠ pltIdentity) : exec (.pilotPacketEnd l) s = .next ((s.airCounted l).pltDone l p pltSent) := by
  change execPilotPacketEnd l s = _
  rw [execPilotPacketEnd, hair]
  exact congrArg Host.Outcome.next (if_neg htype)

theorem pilotPacketEnd_completes_of_identity (l : Nat) (p : PltPkt) : Completes (.pilotPacketEnd l)
    (fun s => (s.lineAt l).plt.air = some p ∧ p.type = pltIdentity)
    fun s t => (t.lineAt l).plt = { (s.lineAt l).plt with
        air := none, airPhases := [], endedAt := some s.tku.bcnt, beacons := (s.lineAt l).plt.beacons + 1 } ∧
      t.statAt gPlt l 0 = (s.statAt gPlt l 0).add 1 ∧ t.statAt gPlt l 1 = (s.statAt gPlt l 1).add 1 ∧
      (∀ k, k ≠ l → t.lineAt k = s.lineAt k) ∧ OnlyChanges [.lnPlt, .stats] s t := by
  rintro s ⟨hair, htype⟩
  have hframe : Keep 0x1020000 s (((s.airCounted l).modPlt l fun x => { x with beacons := x.beacons + 1 }).bump gPlt l 1) :=
    Keep.bump rfl (Keep.modPlt rfl (s.airCounted_frame l))
  refine ⟨_, exec_pilotPacketEnd_of_identity hair htype, ?_, ?_, ?_, fun k hk => ?_, hframe.among rfl⟩
  · rw [State.lineAt_bump, State.plt_modPlt, State.airCounted_lineAt, State.airEnd_plt]
  · rw [State.statAt_bump_other _ _ _ _ _ (by decide)]
    exact s.airCounted_statAt l
  · rw [State.statAt_bump_self]
    exact congrArg (Stat.add · 1) (State.statAt_bump_other _ _ _ _ _ (by decide))
  · rw [State.lineAt_bump, State.lineAt_modPlt_other _ _ hk, State.airCounted_lineAt]
    exact State.lineAt_modPlt_other _ _ hk

theorem State.pltDone_of_raise (s : State) (l : Nat) (p : PltPkt) (how : Nat) :
    Keep 0x20000001b80 (s.raise evPltTxDone [Word.nat l, Word.nat p.seq, Word.nat how]) (s.pltDone l p how) := by
  unfold State.pltDone
  cases p.ticket with
  | none => exact Keep.refl _ _
  | some t => exact State.finishObj_frame ..

theorem pilotPacketEnd_completes_of_user (l : Nat) (p : PltPkt) : Completes (.pilotPacketEnd l)
    (fun s => (s.lineAt l).plt.air = some p ∧ p.type ≠ pltIdentity ∧ s.hears)
    fun s t => (t.lineAt l).plt = { (s.lineAt l).plt with air := none, airPhases := [], endedAt := some s.tku.bcnt } ∧
      t.statAt gPlt l 0 = (s.statAt gPlt l 0).add 1 ∧
      Raises s t evPltTxDone [Word.nat l, Word.nat p.seq, Word.nat 0] := by
  rintro s ⟨hair, htype, hears⟩
  have hdone := (s.airCounted l).pltDone_frame l p pltSent
  refine ⟨_, exec_pilotPacketEnd_of_user hair htype, ?_, ?_,
    Raises.of_keep hears (s.airCounted_frame l) rfl (State.pltDone_of_raise ..) rfl⟩
  · rw [← hdone.1 .lnPlt rfl l, State.airCounted_lineAt, State.airEnd_plt]
  · rw [hdone.statAt_eq rfl, State.airCounted_statAt]

/-! SEND (R344, R347). -/

theorem checkSend_begun (s : State) (verb noun : Nat) (m : Sentence) (ws : List Word) :
    checkSend (s.begun verb noun m) m ws = checkSend s m ws :=
  s.begun_congr verb noun m (checkSend · m ws) fun _ _ _ _ => rfl

/-- A USER packet that joins the transmit queue with the next SEQ. -/
def Plt.queued (x : Plt) (type : Nat) (payload : List Byte) (t : Ticket) : Plt := { x with
  seq := (x.seq + 1) % 256, queue := x.queue ++ [{ type := type, seq := x.seq, payload := payload, ticket := some t }] }

theorem actSend_eq (s : State) (m : Sentence) (ws : List Word) : actSend s m ws =
    (s.modPlt m.inst.toNat fun x => x.queued (ws.getD 0 0).toNat (bytesOfWords (m.len.toNat - 4) (ws.drop 1)) (ticketOf m),
      .accepted [Word.nat (s.lineAt m.inst.toNat).plt.seq]) := rfl

theorem State.lineAt_issued (s : State) (c : CmdSpec) (m : Sentence) (l : Nat) : (s.issued c m).lineAt l = s.lineAt l := rfl

theorem sendPltPacket_carries : Carries .sendPltPacket specSendPltPacket
    (fun m s => pltUser ((payloadOf m).getD 0 0).toNat ∧ (s.lineAt m.inst.toNat).plt.queue.length < 4 ∧ ticketCheck m s = none)
    (fun m s t => Replied s t m cAccepted 0 ∧ Delivers t m [Word.nat (s.lineAt m.inst.toNat).plt.seq] ∧
      (t.lineAt m.inst.toNat).plt = { (s.lineAt m.inst.toNat).plt with
        seq := ((s.lineAt m.inst.toNat).plt.seq + 1) % 256
        queue := (s.lineAt m.inst.toNat).plt.queue ++ [{
          type := ((payloadOf m).getD 0 0).toNat, seq := (s.lineAt m.inst.toNat).plt.seq,
          payload := bytesOfWords (m.len.toNat - 4) ((payloadOf m).drop 1), ticket := some (ticketOf m) }] }) := by
  refine carries_accepted_words (fun _ _ => rfl) fun m s _ ⟨huser, hroom, hticket⟩ => ?_
  have hline := s.lineAt_begun specSendPltPacket.verb specSendPltPacket.noun m m.inst.toNat
  refine ⟨?_, hticket, _, _, actSend_eq .., rfl, fun o => ⟨?_, ?_⟩⟩
  · rw [checkSend_begun, checkSend, huser, if_neg (by decide), if_neg (Nat.not_le.2 hroom)]
  · rw [hline]
    exact State.complete_delivers ..
  · rw [State.complete_lineAt_plt, State.lineAt_issued, State.plt_modPlt, hline]
    rfl

theorem sendPltPacket_carries_refused : Carries .sendPltPacket specSendPltPacket
    (fun m s => pltUser ((payloadOf m).getD 0 0).toNat ∧ 4 ≤ (s.lineAt m.inst.toNat).plt.queue.length)
    (fun m s t => Replied s t m cResource 5 ∧ t.line = s.line) := by
  intro m s htakes _ ⟨huser, hfull⟩
  have hcheck : checkSend s m (payloadOf m) = some { code := cResource, detail := 5 } := by
    rw [checkSend, huser, if_neg (by decide), if_pos hfull]
  obtain ⟨t, hexec, hreplied, -, hline⟩ := refused_whole (c := .sendPltPacket) rfl htakes (fun _ _ _ _ => rfl) hcheck
  exact ⟨t, hexec, hreplied, hline⟩

end Sys2Proof.Machine
end

section
/-! PROOFS. Pilot packets received (O24, its second part; R337 to R346). -/

namespace Sys2Proof.Machine

theorem State.pltHears_of {s : State} {l : Nat} (hl : l < s.lines) (hpower : (s.lineAt l).lrx.power ≠ .off)
    (hlos : (s.lineAt l).lrx.los = false) : s.pltHears l = true := by
  simp [State.pltHears, hl, hpower, hlos]

/-! Sync detections (R337, R339). -/

/-- A reception that begins. -/
def Plt.receives (x : Plt) (m : Int) (b : BitVec 64) : Plt := { x with rx := .header, m := m, hdr := [], syncAt := b }

theorem State.pltBegin_plt (s : State) (l : Nat) (m : Int) :
    ((s.pltBegin l m).lineAt l).plt = (s.lineAt l).plt.receives m s.tku.bcnt := State.plt_modPlt ..

theorem State.statAt_pltBegin (s : State) (l : Nat) (m : Int) (g j i : Nat) : (s.pltBegin l m).statAt g j i = s.statAt g j i := rfl

/-- A sync detection that is accepted is counted, and the state of the reception under way decides on it. -/
theorem exec_syncDetection {s : State} {l : Nat} {m : Int} {d p : Nat}
    (h : s.pltHears l ∧ d ≤ s.parN nPltCfg l pltThreshold ∧ 24 ≤ p) :
    exec (.syncDetection l m d p) s = .next (
      match (s.lineAt l).plt.rx with
      | .idle => (s.bump gPlt l 4).pltBegin l m
      | .header => ((s.bump gPlt l 4).bump gPlt l 7).pltBegin l m
      | .body => if (s.lineAt l).plt.m + 60 ≤ m then ((s.bump gPlt l 4).bump gPlt l 8).pltBegin l m
          else (s.bump gPlt l 4).bump gPlt l 9) :=
  congrArg Host.Outcome.next (if_pos h)

/-- Two counts of a lane's pilot channel move together. -/
theorem State.statAt_bump_bump (s : State) (l : Nat) {i : Nat} (h : i % 32 ≠ 4) :
    ((s.bump gPlt l 4).bump gPlt l i).statAt gPlt l 4 = (s.statAt gPlt l 4).add 1 ∧
    ((s.bump gPlt l 4).bump gPlt l i).statAt gPlt l i = (s.statAt gPlt l i).add 1 := by
  rw [State.statAt_bump_other _ _ _ _ _ (Ne.symm h), State.statAt_bump_self, State.statAt_bump_self,
    State.statAt_bump_other _ _ _ _ _ h]
  exact ⟨rfl, rfl⟩

theorem syncDetection_completes (l : Nat) (m : Int) (d p : Nat) : Completes (.syncDetection l m d p)
    (fun s => l < s.lines ∧ (s.lineAt l).lrx.power ≠ .off ∧ (s.lineAt l).lrx.los = false ∧ d ≤ s.parN nPltCfg l pltThreshold ∧ 24 ≤ p)
    fun s t => t.statAt gPlt l 4 = (s.statAt gPlt l 4).add 1 ∧
      ((s.lineAt l).plt.rx = .idle → (t.lineAt l).plt =
        { (s.lineAt l).plt with rx := .header, m := m, hdr := [], syncAt := s.tku.bcnt }) ∧
      ((s.lineAt l).plt.rx = .header → t.statAt gPlt l 7 = (s.statAt gPlt l 7).add 1 ∧ (t.lineAt l).plt.m = m) ∧
      ((s.lineAt l).plt.rx = .body → (s.lineAt l).plt.m + 60 ≤ m →
        t.statAt gPlt l 8 = (s.statAt gPlt l 8).add 1 ∧ (t.lineAt l).plt.rx = .header ∧ (t.lineAt l).plt.m = m) ∧
      ((s.lineAt l).plt.rx = .body → m < (s.lineAt l).plt.m + 60 →
        t.statAt gPlt l 9 = (s.statAt gPlt l 9).add 1 ∧ (t.lineAt l).plt = (s.lineAt l).plt) := by
  rintro s ⟨hl, hpower, hlos, hdiff, hpreamble⟩
  refine ⟨_, exec_syncDetection ⟨State.pltHears_of hl hpower hlos, hdiff, hpreamble⟩, ?_⟩
  dsimp only
  cases (s.lineAt l).plt.rx with
  | idle => exact ⟨State.statAt_bump_self .., fun _ => State.pltBegin_plt .., nofun, nofun, nofun⟩
  | header =>
    obtain ⟨hsync, hfalse⟩ := s.statAt_bump_bump l (i := 7) (by decide)
    exact ⟨hsync, nofun, fun _ => ⟨hfalse, congrArg Plt.m (State.pltBegin_plt ..)⟩, nofun, nofun⟩
  | body =>
    dsimp only
    split
    · next hstronger =>
      obtain ⟨hsync, hpreempted⟩ := s.statAt_bump_bump l (i := 8) (by decide)
      have hplt := State.pltBegin_plt ((s.bump gPlt l 4).bump gPlt l 8) l m
      exact ⟨hsync, nofun, nofun, fun _ _ => ⟨hpreempted, congrArg Plt.rx hplt, congrArg Plt.m hplt⟩,
        fun _ hweaker => absurd hstronger (Int.not_le.2 hweaker)⟩
    · next hweaker =>
      obtain ⟨hsync, hignored⟩ := s.statAt_bump_bump l (i := 9) (by decide)
      exact ⟨hsync, nofun, nofun, fun _ hstronger => absurd hstronger hweaker, fun _ _ => ⟨hignored, rfl⟩⟩

/-! Headers (R338). -/

theorem exec_headerDecoded {s : State} {l : Nat} (hdr : List Byte) (h : s.pltHears l ∧ (s.lineAt l).plt.rx = .header) :
    exec (.headerDecoded l hdr) s = .next (
      if headerOk hdr then (s.modPlt l fun x => { x with rx := .body, hdr := hdr }).bump gPlt l 5
      else (s.modPlt l fun x => { x with rx := .idle }).bump gPlt l 6) :=
  congrArg Host.Outcome.next (if_pos h)

/-- A change of a lane's pilot channel beside a count. -/
theorem State.modPlt_bump (s : State) (l : Nat) (f : Plt → Plt) (i : Nat) :
    (((s.modPlt l f).bump gPlt l i).lineAt l).plt = f (s.lineAt l).plt ∧
    ((s.modPlt l f).bump gPlt l i).statAt gPlt l i = (s.statAt gPlt l i).add 1 :=
  ⟨State.plt_modPlt .., State.statAt_bump_self ..⟩

theorem headerDecoded_completes (l : Nat) (hdr : List Byte) : Completes (.headerDecoded l hdr)
    (fun s => l < s.lines ∧ (s.lineAt l).lrx.power ≠ .off ∧ (s.lineAt l).lrx.los = false ∧ (s.lineAt l).plt.rx = .header)
    fun s t => (headerOk hdr → (t.lineAt l).plt = { (s.lineAt l).plt with rx := .body, hdr := hdr } ∧
        t.statAt gPlt l 5 = (s.statAt gPlt l 5).add 1) ∧
      (headerOk hdr = false → (t.lineAt l).plt = { (s.lineAt l).plt with rx := .idle } ∧
        t.statAt gPlt l 6 = (s.statAt gPlt l 6).add 1) := by
  rintro s ⟨hl, hpower, hlos, hrx⟩
  refine ⟨_, exec_headerDecoded hdr ⟨State.pltHears_of hl hpower hlos, hrx⟩, ?_⟩
  dsimp only
  cases headerOk hdr with
  | true => exact ⟨fun _ => State.modPlt_bump .., nofun⟩
  | false => exact ⟨nofun, fun _ => State.modPlt_bump ..⟩

/-! The peer record (R346). -/

/-- A change of peer state: the record holds the new one, and the event is the only other change. -/
theorem State.setPeer_plt (s : State) (l : Nat) (p : PeerState) (b : List Byte) :
    ((s.setPeer l p b).lineAt l).plt = { (s.lineAt l).plt with peer := p } := by
  unfold State.setPeer
  extract_lets old
  split
  · next h => rw [← h]
  · rw [State.raise_lineAt_plt, State.plt_modPlt]

theorem State.setPeer_frame (s : State) (l : Nat) (p : PeerState) (b : List Byte) : Keep 0x1000300 s (s.setPeer l p b) :=
  s.setPeer_keep l p b rfl (Keep.refl _ _)

/-- The peer state that a beacon brings (R346). -/
def Plt.judge (x : Plt) (b : List Byte) : PeerState :=
  if x.expects then (if x.matches_ b then .match_ else .mismatch) else .unchecked

theorem State.takeBeacon_plt (s : State) (l : Nat) (b : List Byte) (plq : Int) : ((s.takeBeacon l b plq).lineAt l).plt =
    { (s.lineAt l).plt with beacon := some b, beaconPlq := plq, beaconAt := s.tku.bcnt, peer := (s.lineAt l).plt.judge b } := by
  unfold State.takeBeacon
  dsimp only
  rw [State.setPeer_plt, State.plt_modPlt]
  rfl

theorem State.takeBeacon_frame (s : State) (l : Nat) (b : List Byte) (plq : Int) : Keep 0x1000300 s (s.takeBeacon l b plq) :=
  s.takeBeacon_keep l b plq rfl (Keep.refl _ _)

theorem exec_peerTimeout_of_match {s : State} {l : Nat} (hl : l < s.lines) (hpeer : (s.lineAt l).plt.peer = .match_) :
    exec (.peerTimeout l) s = .next (s.setPeer l .lost ((s.lineAt l).plt.beacon.getD [])) :=
  congrArg Host.Outcome.next (if_pos ⟨hl, .inl hpeer⟩)

theorem peerTimeout_completes (l : Nat) : Completes (.peerTimeout l) (fun s => l < s.lines ∧ (s.lineAt l).plt.peer = .match_)
    fun s t => (t.lineAt l).plt = { (s.lineAt l).plt with peer := .lost } ∧ OnlyChanges [.lnPlt, .evRaised, .evQueue] s t :=
  fun s ⟨hl, hpeer⟩ => ⟨_, exec_peerTimeout_of_match hl hpeer, State.setPeer_plt .., (s.setPeer_frame ..).among rfl⟩

/-! Bodies (R339, R340, R343). -/

theorem exec_bodyDecoded_of_bad {s : State} {l : Nat} {body : List Byte} (plq so ro : Int) (hears : s.pltHears l = true)
    (hrx : (s.lineAt l).plt.rx = .body) (hlen : body.length = ((s.lineAt l).plt.hdr.getD 1 0).toNat + 4)
    (hbad : bodyOk (s.lineAt l).plt.hdr body = false) :
    exec (.bodyDecoded l body plq so ro) s = .next ((s.modPlt l fun y => { y with rx := .idle }).bump gPlt l 10) :=
  congrArg Host.Outcome.next ((if_pos ⟨hears, hrx, hlen⟩).trans (if_neg (Bool.eq_false_iff.1 hbad)))

theorem bodyDecoded_completes_of_bad (l : Nat) (body : List Byte) (plq so ro : Int) : Completes (.bodyDecoded l body plq so ro)
    (fun s => l < s.lines ∧ (s.lineAt l).lrx.power ≠ .off ∧ (s.lineAt l).lrx.los = false ∧ (s.lineAt l).plt.rx = .body ∧
      body.length = ((s.lineAt l).plt.hdr.getD 1 0).toNat + 4 ∧
      bodyOk (s.lineAt l).plt.hdr body = false)
    fun s t => (t.lineAt l).plt = { (s.lineAt l).plt with rx := .idle } ∧ t.statAt gPlt l 10 = (s.statAt gPlt l 10).add 1 ∧
      t.statAt gPlt l 13 = s.statAt gPlt l 13 := by
  rintro s ⟨hl, hpower, hlos, hrx, hlen, hbad⟩
  obtain ⟨hplt, hcount⟩ := s.modPlt_bump l (fun y => { y with rx := .idle }) 10
  exact ⟨_, exec_bodyDecoded_of_bad plq so ro (State.pltHears_of hl hpower hlos) hrx hlen hbad, hplt, hcount,
    State.statAt_bump_other _ _ _ _ _ (by decide)⟩

/-- A beacon that is delivered: the reception is over and the packet counted; the peer record is still the old one. -/
def State.beaconHeard (s : State) (l : Nat) (plq : Int) : State :=
  ((s.modPlt l fun y => { y with rx := .idle }).modPlt l fun y => { y with plqHeard := plqQuarter plq }).bump gPlt l 13

theorem State.beaconHeard_plt (s : State) (l : Nat) (plq : Int) :
    ((s.beaconHeard l plq).lineAt l).plt = { (s.lineAt l).plt with rx := .idle, plqHeard := plqQuarter plq } := by
  rw [State.beaconHeard, State.lineAt_bump, State.plt_modPlt, State.plt_modPlt]

theorem State.beaconHeard_statAt (s : State) (l : Nat) (plq : Int) :
    (s.beaconHeard l plq).statAt gPlt l 13 = (s.statAt gPlt l 13).add 1 := State.statAt_bump_self ..

/-- The header of an IDENTITY packet of 56 bytes, and its payload's FORMAT (R331). -/
theorem identity_of_header {hdr body : List Byte} (hhdr : hdr.take 2 = [1, 56]) (hformat : body.getD 0 0 = 1) :
    (hdr.getD 0 0).toNat = pltIdentity ∧ (hdr.getD 1 0).toNat = 56 ∧ (body.take 56).getD 0 0 = 0x01 := by
  match hdr, hhdr with
  | a :: b :: _, hhdr =>
    obtain ⟨rfl, htail⟩ := List.cons.inj hhdr
    obtain ⟨rfl, -⟩ := List.cons.inj htail
    refine ⟨rfl, rfl, ?_⟩
    cases body with
    | nil => exact hformat
    | cons x xs => exact hformat

theorem exec_bodyDecoded_of_beacon {s : State} {l : Nat} {body : List Byte} (plq so ro : Int) (hears : s.pltHears l = true)
    (hrx : (s.lineAt l).plt.rx = .body) (hunit : s.unitOn fPilot = true) (hhdr : (s.lineAt l).plt.hdr.take 2 = [1, 56])
    (hlen : body.length = 60) (hformat : body.getD 0 0 = 1) (hok : bodyOk (s.lineAt l).plt.hdr body = true) :
    exec (.bodyDecoded l body plq so ro) s = .next ((s.beaconHeard l plq).takeBeacon l (body.take 56) plq) := by
  obtain ⟨htype, hlength, hfirst⟩ := identity_of_header hhdr hformat
  refine congrArg Host.Outcome.next ?_
  dsimp only
  rw [if_pos ⟨hears, hrx, by rw [hlen, hlength]⟩, if_pos hok, hunit, if_neg (by decide), hlength, if_pos ⟨htype, rfl, hfirst⟩]
  rfl

theorem bodyDecoded_completes_of_beacon (l : Nat) (body : List Byte) (plq so ro : Int) : Completes (.bodyDecoded l body plq so ro)
    (fun s => l < s.lines ∧ (s.lineAt l).lrx.power ≠ .off ∧ (s.lineAt l).lrx.los = false ∧ (s.lineAt l).plt.rx = .body ∧
      s.unitOn fPilot ∧ (s.lineAt l).plt.hdr.take 2 = [1, 56] ∧ body.length = 60 ∧ body.getD 0 0 = 1 ∧ bodyOk (s.lineAt l).plt.hdr body)
    fun s t => (t.lineAt l).plt.rx = .idle ∧ (t.lineAt l).plt.beacon = some (body.take 56) ∧ (t.lineAt l).plt.beaconPlq = plq ∧
      (t.lineAt l).plt.beaconAt = s.tku.bcnt ∧ t.statAt gPlt l 13 = (s.statAt gPlt l 13).add 1 ∧
      (t.lineAt l).plt.peer = (if (s.lineAt l).plt.expects then
        (if (s.lineAt l).plt.matches_ (body.take 56) then .match_ else .mismatch) else .unchecked) := by
  rintro s ⟨hl, hpower, hlos, hrx, hunit, hhdr, hlen, hformat, hok⟩
  refine ⟨_, exec_bodyDecoded_of_beacon plq so ro (State.pltHears_of hl hpower hlos) hrx hunit hhdr hlen hformat hok, ?_⟩
  dsimp only
  rw [State.takeBeacon_plt, State.beaconHeard_plt, (State.takeBeacon_frame ..).statAt_eq rfl, State.beaconHeard_statAt]
  exact ⟨rfl, rfl, rfl, rfl, rfl, rfl⟩

/-! RECEIVE (R343, R347). -/

/-- The words of a received packet (R347). -/
def PltRx.words (p : PltRx) : List Word :=
  [Word.nat p.type, Word.nat p.seq, Word.int p.plq, Word.int p.m, Word.int p.sub, Word.int p.rate] ++
    words64 p.bcnt.toNat ++ [Word.nat p.payload.length] ++ wordsOfBytes p.payload

theorem PltRx.words_length (p : PltRx) : 9 ≤ p.words.length := by
  simp only [PltRx.words, words64, List.length_append, List.length_cons, List.length_nil]
  omega

theorem actReceive_of_cons {s : State} {m : Sentence} {p : PltRx} {ps : List PltRx} (ws : List Word)
    (h : (s.lineAt m.inst.toNat).plt.rxq = p :: ps) : actReceive s m ws =
      (s.modPlt m.inst.toNat fun x => { x with rxq := ps }, .done p.words (36 + p.payload.length)) := by
  unfold actReceive
  dsimp only
  rw [h]
  rfl

theorem actReceive_of_nil {s : State} {m : Sentence} (ws : List Word) (h : (s.lineAt m.inst.toNat).plt.rxq = []) :
    actReceive s m ws = (s, okDone) := by
  unfold actReceive
  dsimp only
  rw [h]

theorem receivePltPacket_carries (p : PltRx) (ps : List PltRx) : Carries .receivePltPacket specReceivePltPacket
    (fun m s => (s.lineAt m.inst.toNat).plt.rxq = p :: ps)
    (fun m s t => Replied s t m cDone 0 ∧
      (t.lineAt m.inst.toNat).plt = { (s.lineAt m.inst.toNat).plt with rxq := ps } ∧
      tget (t.boxAt m.req m.mbx).payload (fun _ => 0) 0 = Word.nat p.type ∧
      tget (t.boxAt m.req m.mbx).payload (fun _ => 0) 1 = Word.nat p.seq) := by
  refine carries_done_words (fun _ _ => rfl) (by decide) fun m s _ hqueue => ?_
  have hline := s.lineAt_begun specReceivePltPacket.verb specReceivePltPacket.noun m m.inst.toNat
  refine ⟨rfl, _, _, _, actReceive_of_cons _ (by rw [hline, hqueue]), rfl, fun o => ⟨?_, ?_, ?_⟩⟩
  · rw [State.complete_lineAt_plt, State.plt_modPlt, hline]
  · exact State.complete_payload _ _ _ _ _ _ (Nat.lt_of_lt_of_le (by decide) p.words_length)
  · exact State.complete_payload _ _ _ _ _ _ (Nat.lt_of_lt_of_le (by decide) p.words_length)

theorem receivePltPacket_carries_empty : Carries .receivePltPacket specReceivePltPacket
    (fun m s => (s.lineAt m.inst.toNat).plt.rxq = [])
    (fun m s t => Replied s t m cDone 0 ∧ Delivers t m [] ∧ t.line = s.line) := by
  refine carries_done_words (fun _ _ => rfl) (by decide) fun m s _ hqueue => ?_
  have hline := s.lineAt_begun specReceivePltPacket.verb specReceivePltPacket.noun m m.inst.toNat
  refine ⟨rfl, _, _, _, actReceive_of_nil _ (by rw [hline, hqueue]), rfl, fun o => ⟨State.complete_delivers .., ?_⟩⟩
  exact (State.complete_line ..).trans (s.begun_congr _ _ _ State.line fun _ _ _ _ => rfl)

/-! SET on PLT_PEER (R346, R347). -/

/-- The expectation that the words of a SET give. -/
def Plt.expecting (x : Plt) (ws : List Word) : Plt := { x with
  expUid := if (ws.getD 0 0).toNat.testBit 0 then
    some (BitVec.ofNat 64 ((ws.getD 1 0).toNat + (ws.getD 2 0).toNat * 2 ^ 32)) else none
  expLabel := if (ws.getD 0 0).toNat.testBit 1 then some (wordBytesOf ((ws.drop 3).take 8)) else none }

theorem Plt.expecting_of_clear {x : Plt} {ws : List Word} (h : (ws.getD 0 0).toNat = 0) :
    x.expecting ws = { x with expUid := none, expLabel := none } := by
  rw [Plt.expecting, h]
  rfl

theorem Plt.expecting_of_uid {x : Plt} {ws : List Word} (h : (ws.getD 0 0).toNat = 1) : x.expecting ws =
    { x with expUid := some (BitVec.ofNat 64 ((ws.getD 1 0).toNat + (ws.getD 2 0).toNat * 2 ^ 32)), expLabel := none } := by
  rw [Plt.expecting, h]
  rfl

/-- The expectation is set, and the peer state starts afresh. -/
def State.expectPeer (s : State) (l : Nat) (ws : List Word) : State :=
  (s.modPlt l fun x => x.expecting ws).setPeer l ((s.lineAt l).plt.expecting ws).peer0 []

theorem actPeer_eq (s : State) (m : Sentence) (ws : List Word) : actPeer s m ws = (s.expectPeer m.inst.toNat ws, okDone) := by
  rw [State.expectPeer, ← s.plt_modPlt m.inst.toNat fun x => x.expecting ws]
  rfl

theorem State.expectPeer_plt (s : State) (l : Nat) (ws : List Word) : ((s.expectPeer l ws).lineAt l).plt =
    { (s.lineAt l).plt.expecting ws with peer := ((s.lineAt l).plt.expecting ws).peer0 } := by
  rw [State.expectPeer, State.setPeer_plt, State.plt_modPlt]

/-- A SET whose mask names the UID and the label alone is carried out. -/
theorem setPltPeer_carries : Carries .setPltPeer specSetPltPeer (fun m _ => ((payloadOf m).getD 0 0).toNat < 4)
    (fun m s t => Replied s t m cDone 0 ∧ (t.lineAt m.inst.toNat).plt =
      { (s.lineAt m.inst.toNat).plt.expecting (payloadOf m) with
        peer := ((s.lineAt m.inst.toNat).plt.expecting (payloadOf m)).peer0 }) := by
  refine carries_done (fun _ _ => rfl) fun m s _ hmask => ?_
  refine ⟨if_neg (Nat.not_le.2 hmask), _, _, _, actPeer_eq .., ?_, fun t ht => ?_⟩
  · exact (State.setPeer_frame ..).boxes_eq rfl
  · rw [← ht.1 .lnPlt rfl, State.expectPeer_plt, State.lineAt_begun]

theorem setPltPeer_carries_clear : Carries .setPltPeer specSetPltPeer (fun m _ => ((payloadOf m).getD 0 0).toNat = 0)
    (fun m s t => Replied s t m cDone 0 ∧ (t.lineAt m.inst.toNat).plt.expUid = none ∧
      (t.lineAt m.inst.toNat).plt.expLabel = none ∧ (t.lineAt m.inst.toNat).plt.peer = .unchecked) := by
  intro m s htakes hm hmask
  obtain ⟨t, hexec, hreplied, hplt⟩ := setPltPeer_carries m s htakes hm (by omega)
  rw [Plt.expecting_of_clear hmask] at hplt
  exact ⟨t, hexec, hreplied, by rw [hplt]; exact ⟨rfl, rfl, rfl⟩⟩

theorem setPltPeer_carries_uid : Carries .setPltPeer specSetPltPeer (fun m _ => ((payloadOf m).getD 0 0).toNat = 1)
    (fun m s t => Replied s t m cDone 0 ∧ (t.lineAt m.inst.toNat).plt.peer = .none ∧
      (t.lineAt m.inst.toNat).plt.expUid =
        some (BitVec.ofNat 64 (((payloadOf m).getD 1 0).toNat + ((payloadOf m).getD 2 0).toNat * 2 ^ 32))) := by
  intro m s htakes hm hmask
  obtain ⟨t, hexec, hreplied, hplt⟩ := setPltPeer_carries m s htakes hm (by omega)
  rw [Plt.expecting_of_uid hmask] at hplt
  exact ⟨t, hexec, hreplied, by rw [hplt]; exact ⟨rfl, rfl⟩⟩

end Sys2Proof.Machine
end

section
/-! PROOFS. The pilot channel (O24). -/

namespace Sys2Proof.Machine

/-- Settles O24, from one lemma for each of its clauses on packets sent and on packets received. -/
theorem pilotPacketsComplete : Obligations.PilotPacketsComplete :=
  ⟨⟨beaconIntervalExpiry_completes, pilotPacketStart_completes_of_due, pilotPacketStart_completes_of_queue,
      pilotPacketEnd_completes_of_identity, pilotPacketEnd_completes_of_user, sendPltPacket_carries, sendPltPacket_carries_refused⟩,
    syncDetection_completes, headerDecoded_completes, bodyDecoded_completes_of_bad, bodyDecoded_completes_of_beacon,
    peerTimeout_completes, receivePltPacket_carries, receivePltPacket_carries_empty, setPltPeer_carries_clear,
    setPltPeer_carries_uid⟩

end Sys2Proof.Machine
end

section
/-! PROOFS. What the Lexicon keeps while engines come and go and words of SRAM are read (R158, R164 to R167, R373, R374, R542): the
operations on engines leave it as it is, a bank that goes to self-test changes its banks alone. -/

namespace Sys2Proof.Machine

theorem Keep.lex_eq {m : Nat} {s t : State} (h : Keep m s t) (hm : m.testBit 33 = false) : t.lex = s.lex := (h.1 .lex hm).symm

/-! Engines. Placement ends slices on engines alone (R158). -/

theorem State.foldl_lex {α : Type} {op : State → α → State} (hop : ∀ u x, (op u x).lex = u.lex) (xs : List α) (s : State) :
    (xs.foldl op s).lex = s.lex :=
  List.foldlRecOn (motive := fun u : State => u.lex = s.lex) xs op rfl fun u hu x _ => (hop u x).trans hu

section
variable (s : State)

theorem State.abortSlice_engine_lex (e kept : Nat) (req : Option Requester) : (s.abortSlice (.engine e) kept req).lex = s.lex := by
  unfold State.abortSlice
  split
  · extract_lets tst s1 s2 s3
    have hs2 : Keep 0x300 s1 s2 := State.raise_frame ..
    have hs3 : Keep 0x10000000302 s2 s3 := State.relYield_keep _ _ _ _ _ _ rfl (State.freeNext_keep _ rfl (Keep.refl _ _))
    exact (hs3.lex_eq rfl).trans (hs2.lex_eq rfl)
  · rfl

theorem State.assign_lex (e : Nat) (role : Role) (l : Nat) : (s.assign e role l).lex = s.lex := s.abortSlice_engine_lex e 4 none

theorem State.freeEngines_lex (es : List Nat) : (s.freeEngines es).lex = s.lex :=
  (State.freeEngines_keep s es rfl (Keep.refl 0x80000000 s)).lex_eq rfl

theorem State.toTransom_lex (es : List Nat) : (s.toTransom es).lex = s.lex :=
  (State.toTransom_keep s es rfl (Keep.refl 0x80000000 s)).lex_eq rfl

theorem State.topUp_lex (q : Option Nat) : (s.topUp q).lex = s.lex :=
  (State.topUp_keep s q rfl (Keep.refl 0x80000000 s)).lex_eq rfl

theorem State.tellPlaced_lex (was : State) : (s.tellPlaced was).lex = s.lex :=
  (State.tellPlaced_keep s was rfl (Keep.refl 0x300 s)).lex_eq rfl

theorem State.holdAdapt_lex (l : Nat) : (s.holdAdapt l).lex = s.lex := by rw [State.holdAdapt, State.modSea_lex]

theorem State.fillAdapt_lex (l : Nat) : (s.fillAdapt l).lex = s.lex := by
  unfold State.fillAdapt
  split
  · rw [State.holdAdapt_lex]
    refine State.foldl_lex (fun u _ => ?_) _ s
    split
    · split
      · rfl
      · exact u.assign_lex ..
    · rfl
  · rfl

theorem State.reserve_lex : s.reserve.lex = s.lex := by
  rw [State.reserve, State.topUp_lex]
  exact State.foldl_lex State.fillAdapt_lex _ s

/-! Swaps. -/

theorem State.endSwap_lex (l : Nat) (w : Swap) (keep : Bool) : (s.endSwap l w keep).lex = s.lex := by
  unfold State.endSwap
  extract_lets s1 s2 s3
  have hs2 : s2.lex = s.lex := (s1.toTransom_lex _).trans (s.freeEngines_lex _)
  have hs3 : s3.lex = s.lex := by
    dsimp only [s3]
    split
    · exact hs2
    · exact (s2.freeEngines_lex _).trans hs2
  exact (State.reserve_lex _).trans hs3

theorem State.abandonSwap_lex (l reason detail : Nat) : (s.abandonSwap l reason detail).lex = s.lex := by
  unfold State.abandonSwap
  split
  · rfl
  · split
    · exact s.endSwap_lex ..
    · dsimp only
      rw [State.tellPlaced_lex, State.finishOpt_lex, State.raise_lex, State.bump_lex, State.endSwap_lex]

theorem State.startSwap_lex {s u : State} {l tier version count : Nat} {ticket : Option Ticket} {par : List (Nat × Word)}
    (h : s.startSwap l tier version ticket count par = some u) : u.lex = s.lex := by
  unfold State.startSwap at h
  split at h
  · cases h
  · obtain rfl := Option.some.inj h
    rw [State.pmcEvent_lex]
    exact State.foldl_lex (fun v e => v.assign_lex e .shadow l) _ s

/-- A swap that starts where it can, or what takes its place. -/
theorem State.getD_startSwap_lex {s t v : State} {l tier version count : Nat} {ticket : Option Ticket} {par : List (Nat × Word)}
    (ht : t.lex = s.lex) (hv : v.lex = s.lex) : ((t.startSwap l tier version ticket count par).getD v).lex = s.lex := by
  cases hstart : t.startSwap l tier version ticket count par with
  | none => exact hv
  | some u => exact (State.startSwap_lex hstart).trans ht

theorem State.startRaise_lex (l : Nat) : (s.startRaise l).lex = s.lex := by
  unfold State.startRaise
  extract_lets x
  split
  · rfl
  · split
    · exact State.getD_startSwap_lex rfl (State.finishOpt_lex ..)
    · split
      · exact State.getD_startSwap_lex rfl rfl
      · rfl

theorem State.startRaises_lex : s.startRaises.lex = s.lex := by
  unfold State.startRaises
  split
  · exact State.foldl_lex State.startRaise_lex _ s
  · rfl

/-! Plans. -/

theorem State.takePlan_lex (now : Bool) (r : Nat) (p : LanePlan) : (s.takePlan now r p).lex = s.lex := by
  unfold State.takePlan
  extract_lets l x s1
  change s1.lex = s.lex
  dsimp only [s1]
  split
  · rfl
  · split
    · exact s.abandonSwap_lex ..
    · rfl

theorem State.replan_lex (now : Nat → Bool) (drop : Option Nat) : (s.replan now drop).lex = s.lex := by
  unfold State.replan
  extract_lets r p free before why old s1 hinge s2
  split
  · have hs1 : s1.lex = s.lex := State.foldl_lex (fun u q => u.takePlan_lex ..) _ s
    have hs2 : Keep 0x20100000300 s1 s2 := State.pmcEvent_keep _ _ _ rfl (Keep.set_hinge rfl (Keep.refl _ _))
    have hjudged := State.judgeYield_keep s2 old why rfl (Keep.refl 0x10000220300 s2)
    exact (State.startRaises_lex _).trans ((hjudged.lex_eq rfl).trans ((hs2.lex_eq rfl).trans hs1))
  · rfl

/-! Faults. -/

theorem State.isolate_lex (e source : Nat) : (s.isolate e source).lex = s.lex := (s.isolate_frame e source).lex_eq rfl

theorem State.engineEvent_lex (e l : Nat) (c : EngineCond) (k : Nat) : (s.engineEvent e l c k).lex = s.lex := State.raise_lex ..

theorem State.replaceTransom_lex (q : Nat) : (s.replaceTransom q).lex = s.lex :=
  (State.replaceTransom_keep s q rfl (Keep.refl 0x80000300 s)).lex_eq rfl

theorem State.takeTransom_lex {s u : State} {e k : Nat} (h : s.takeTransom e = some (u, k)) : u.lex = s.lex := by
  unfold State.takeTransom at h
  dsimp only at h
  split at h
  · cases h
    rfl
  · split at h
    · cases h
    · split at h
      · cases h
      · obtain ⟨k', -, heq⟩ := Option.map_eq_some_iff.1 h
        cases heq
        exact s.abandonSwap_lex ..

theorem State.adaptFault_lex (e : Nat) (c : EngineCond) : (s.adaptFault e c).lex = s.lex := by
  unfold State.adaptFault
  extract_lets l s0 tr pick
  have hs0 : s0.lex = s.lex := s.isolate_lex e srcTest
  cases pick with
  | some k =>
    dsimp only
    rw [State.replaceTransom_lex, State.engineEvent_lex, State.holdAdapt_lex, State.assign_lex, hs0]
  | none =>
    dsimp only
    rw [State.replanHeld, State.replan_lex, State.engineEvent_lex, State.modSea_lex, hs0]

/-- An engine's fault leaves the Lexicon as it is. -/
theorem State.engineFault_lex (e : Nat) (c : EngineCond) : (s.engineFault e c).lex = s.lex := by
  unfold State.engineFault
  extract_lets x lent s0 hinge s1 tst s0'
  have hs1 : s1.lex = s.lex := s.isolate_lex e srcTest
  split
  · exact s.adaptFault_lex e c
  · split
    · next htake =>
      rw [State.replaceTransom_lex, State.engineEvent_lex, State.assign_lex, State.takeTransom_lex htake, hs1]
    · rw [State.replanHeld, State.replan_lex, State.replaceTransom_lex, State.tellPlaced_lex, State.engineEvent_lex, hs1]
  · rw [State.replaceTransom_lex, State.engineEvent_lex, State.isolate_lex, State.abandonSwap_lex]
  · rw [State.replaceTransom_lex, State.engineEvent_lex, State.isolate_lex]
  · rw [State.replaceTransom_lex, State.engineEvent_lex, State.isolate_lex]
  · rw [State.engineEvent_lex, State.isolate_lex]
    split <;> rfl
  · rfl

end

/-! Banks. -/

/-- The Lexicon but for the state of its banks. -/
def Lex.books (x : Lex) : Lex := { x with banks := [] }

section
variable {s t : State}

/-- What the Lexicon keeps beside its banks. -/
theorem State.books_eq {α : Type} (h : t.lex.books = s.lex.books) (f : Lex → α) (hf : ∀ x, f (Lex.books x) = f x) :
    f t.lex = f s.lex := by rw [← hf, h, hf]

variable (s)

/-- A bank that goes to self-test, and the spare that takes its place, are banks (R373). -/
theorem State.bankOut_books (b : Nat) : (s.bankOut b).lex.books = s.lex.books := by
  unfold State.bankOut
  split
  · rw [State.report_lex]
    rfl
  · rfl

theorem State.reportRow_lex (g row : Nat) : (s.reportRow g row).lex = s.lex :=
  (State.reportRow_keep s g row rfl (Keep.refl 0x800020000 s)).lex_eq rfl

theorem State.reportSram_books (u : SramRead) : (s.reportSram u).lex.books = s.lex.books := by
  unfold State.reportSram
  split
  · rfl
  · dsimp only
    rw [State.reportRow_lex]
    split
    · exact s.bankOut_books _
    · split
      · exact congrArg Lex.books (s.engineFault_lex ..)
      · rfl

theorem State.sramRead_books (u : SramRead) : (s.sramRead u).lex.books = s.lex.books := by
  unfold State.sramRead
  split
  · next syn _ =>
    have hcorrect := (State.correctAt_keep s u.region u.addr u.row syn rfl (Keep.refl 0x800020300 s)).lex_eq rfl
    dsimp only
    split
    · rw [State.reportSram_books, hcorrect]
    · rw [hcorrect]
  · rw [State.reportSram_books, State.raise_lex]
    rfl

/-- Reads of SRAM words, whatever they find, leave the Lexicon's contexts, index and queues as they are. -/
theorem State.sramReads_books (us : List SramRead) : (s.sramReads us).lex.books = s.lex.books :=
  List.foldlRecOn (motive := fun u : State => u.lex.books = s.lex.books) us _ rfl fun v hv u _ => (v.sramRead_books u).trans hv

end

end Sys2Proof.Machine
end

section
/-! PROOFS. The contexts of the Lexicon: their updates, lookups, and the marks that uncorrectable counter words leave (R351, R357,
R374). -/

namespace Sys2Proof.Machine

/-! Contexts and unplaced contexts by one number. -/

section
variable (s : State)

theorem State.anyCtx_modAnyCtx (n k : Nat) (f : Ctx → Ctx) :
    (s.modAnyCtx n f).anyCtx k = if k = n then f (s.anyCtx n) else s.anyCtx k := by
  unfold State.modAnyCtx State.anyCtx
  by_cases hn : n < 16384 <;> by_cases hk : k < 16384
  · simp only [if_pos hn, if_pos hk, State.ctxAt_modCtx]
  · rw [if_pos hn, if_neg hk, if_neg hk, if_neg (by omega)]
    rfl
  · rw [if_neg hn, if_pos hk, if_pos hk, if_neg (by omega)]
    rfl
  · rw [if_neg hn, if_neg hk, State.unplacedAt_modUnplaced, if_neg hn, if_neg hk]
    by_cases heq : k = n
    · rw [if_pos heq, if_pos (by rw [heq])]
    · rw [if_neg heq, if_neg (by omega)]

end

/-- A context but for the mark of a poisoned counter word. -/
def Ctx.counts (c : Ctx) : Ctx := { c with poisoned := false }

theorem Ctx.eq_of_counts {c d : Ctx} (h : d.counts = c.counts) : d = { c with poisoned := d.poisoned } := by
  cases c
  cases d
  cases h
  rfl

/-- From `s` to `t` the Lexicon has changed in its banks and in the contexts marked as poisoned alone. -/
structure State.OnlyPoisons (s t : State) : Prop where
  ctx : ∀ k, (t.ctxAt k).counts = (s.ctxAt k).counts
  unplaced : ∀ k, (t.unplacedAt k).counts = (s.unplacedAt k).counts
  index : t.lex.index = s.lex.index
  drainq : t.lex.drainq = s.lex.drainq

namespace State.OnlyPoisons
variable {s t u : State}

theorem refl (s : State) : s.OnlyPoisons s := ⟨fun _ => rfl, fun _ => rfl, rfl, rfl⟩

theorem books (h : s.OnlyPoisons t) (hu : u.lex.books = t.lex.books) : s.OnlyPoisons u where
  ctx k := (congrArg Ctx.counts (State.books_eq hu (fun x => tget x.ctx (fun _ => {}) k) fun _ => rfl)).trans (h.ctx k)
  unplaced k := (congrArg Ctx.counts (State.books_eq hu (fun x => tget x.unplaced (fun _ => {}) k) fun _ => rfl)).trans (h.unplaced k)
  index := (State.books_eq hu Lex.index fun _ => rfl).trans h.index
  drainq := (State.books_eq hu Lex.drainq fun _ => rfl).trans h.drainq

theorem modAnyCtx (h : s.OnlyPoisons t) (n : Nat) : s.OnlyPoisons (t.modAnyCtx n fun c => { c with poisoned := true }) := by
  unfold State.modAnyCtx
  split
  · refine ⟨fun k => ?_, h.unplaced, h.index, h.drainq⟩
    rw [State.ctxAt_modCtx]
    split
    · next hk =>
      rw [hk, ← h.ctx]
      rfl
    · exact h.ctx k
  · refine ⟨h.ctx, fun k => ?_, h.index, h.drainq⟩
    rw [State.unplacedAt_modUnplaced]
    split
    · next hk =>
      rw [hk, ← h.unplaced]
      rfl
    · exact h.unplaced k

theorem anyCtx (h : s.OnlyPoisons t) (k : Nat) : t.anyCtx k = { s.anyCtx k with poisoned := (t.anyCtx k).poisoned } := by
  refine Ctx.eq_of_counts ?_
  unfold State.anyCtx
  split
  · exact h.ctx k
  · exact h.unplaced _

theorem ctxKey (h : s.OnlyPoisons t) (k : Nat) : (t.ctxAt k).key = (s.ctxAt k).key := by
  have hkey := congrArg Ctx.key (h.ctx k)
  exact hkey

/-- A lookup finds what it found before. -/
theorem lookup (h : s.OnlyPoisons t) (hparams : t.params = s.params) (hfuses : t.fuses = s.fuses) (key : List Byte) :
    t.lookup key = s.lookup key := by
  have hentry : t.entryAt = s.entryAt := funext fun i => congrArg (fun x : Tbl Nat => tget x (fun _ => 0) i) h.index
  have hcandidates : t.candidates key = s.candidates key := by
    simp only [State.candidates, State.buckets, State.param, hparams, hfuses]
  simp only [State.lookup, hentry, hcandidates, h.ctxKey]

end State.OnlyPoisons

/-- An uncorrectable counter word of a context in use marks the context (R374). -/
def State.poison (s : State) (n : Nat) : State :=
  if (s.anyCtx n).state = .live ∨ (16384 ≤ n ∧ n < 16400) then s.modAnyCtx n fun c => { c with poisoned := true } else s

theorem State.counterReads_eq (s : State) (us : List SramRead) :
    s.counterReads us = (badRows 3 us).foldl State.poison (s.sramReads us) := rfl

theorem State.counterReads_onlyPoisons (s : State) (us : List SramRead) : s.OnlyPoisons (s.counterReads us) := by
  rw [State.counterReads_eq]
  refine List.foldlRecOn (motive := s.OnlyPoisons) _ _ ((State.OnlyPoisons.refl s).books (s.sramReads_books us)) fun u hu n _ => ?_
  unfold State.poison
  split
  · exact hu.modAnyCtx n
  · exact hu

end Sys2Proof.Machine
end

section
/-! PROOFS. Every frame that the parse delivers counts once (O25; R351, R353, R358, R366). -/

namespace Sys2Proof.Machine

/-! What a frame counts in. -/

/-- A frame counts in the context of the number alone, whether or not an early drain falls due (R366). -/
theorem State.anyCtx_countIn (s : State) (n bytes : Nat) (err ptp : Bool) (k : Nat) :
    (s.countIn n bytes err ptp).anyCtx k = if k = n then (s.anyCtx n).frame bytes err ptp s.epoch else s.anyCtx k := by
  refine Eq.trans ?_ (s.anyCtx_modAnyCtx n k fun c => c.frame bytes err ptp s.epoch)
  unfold State.countIn
  dsimp only
  split <;> rfl

theorem State.anyCtx_queueKey (s : State) (p : Nat) (key : List Byte) (err : Bool) (k : Nat) :
    (s.queueKey p key err).anyCtx k = s.anyCtx k := by
  unfold State.queueKey
  split
  · rfl
  · split <;> rfl

/-- The number in which a frame is counted: the context that a lookup of its key finds, else the unplaced context of its port and
direction. -/
def State.CountsIn (s : State) (p d : Nat) (f : Frame) (n : Nat) : Prop :=
  n = 16384 + 2 * p + d ∨ ∃ key, frameKey f p d (s.parN nLexPort p 1) = some key ∧ s.lookup key = some n

theorem State.lexFrame_counts (s : State) (p d : Nat) (f : Frame) (ptp : Bool) : ∃ n, s.CountsIn p d f n ∧
    ∀ k, (s.lexFrame p d f ptp).anyCtx k =
      if k = n then (s.anyCtx n).frame (min f.length 16383) (frameErrored f) ptp s.epoch else s.anyCtx k := by
  unfold State.lexFrame
  extract_lets err bytes lost
  split
  · exact ⟨_, .inl rfl, s.anyCtx_countIn _ bytes err ptp⟩
  · split
    · exact ⟨_, .inl rfl, s.anyCtx_countIn _ bytes err ptp⟩
    · next key hkey =>
      split
      · next n hfound => exact ⟨n, .inr ⟨key, hkey, hfound⟩, State.anyCtx_countIn _ n bytes err ptp⟩
      · refine ⟨_, .inl rfl, fun k => ?_⟩
        rw [State.anyCtx_queueKey]
        exact State.anyCtx_countIn _ _ bytes err ptp k

/-! The parse of a frame. -/

/-- The state in which a frame is counted: what reads of words found bad has been followed up (R540, R542). -/
def State.frameRead (s : State) (f : Frame) : State := if f.ecc.isEmpty then s else (s.counterReads f.ecc).follow

/-- A frame that is counted, and may be a PTP event message whose residence is corrected, which the Lexicon does not see. -/
theorem exec_frameParsed_of_counted {s : State} {p d : Nat} {f : Frame} {c : PortCfg} (hcfg : (s.portAt p).cfg = some c)
    (hparses : s.parses p d f c = true) (hlex : s.unitOn fLex = true) :
    ∃ t, exec (.frameParsed p d f) s = .next t ∧ t.lex = ((s.frameRead f).lexFrame p d f (ptpEvent f)).lex := by
  change ∃ t, execFrameParsed p d f s = .next t ∧ _
  simp only [execFrameParsed, hcfg, hparses, hlex, if_true]
  refine ⟨_, rfl, ?_⟩
  split
  · rw [State.follow_lex]
    exact (State.correctFrame_keep _ _ _ _ rfl (Keep.refl 0x10000028300 _)).lex_eq rfl
  · rfl

theorem State.frameRead_onlyPoisons (s : State) (f : Frame) : s.OnlyPoisons (s.frameRead f) := by
  unfold State.frameRead
  split
  · exact .refl s
  · exact (s.counterReads_onlyPoisons f.ecc).books (congrArg Lex.books (State.follow_lex _))

theorem State.frameRead_frame (s : State) (f : Frame) : Keep 0x36b9bb25b8a s (s.frameRead f) := by
  unfold State.frameRead
  split
  · exact Keep.refl _ _
  · exact State.follow_keep _ rfl (State.counterReads_keep s f.ecc rfl (Keep.refl _ _))

theorem State.frameRead_of_good {s : State} {f : Frame} (h : f.ecc = []) : s.frameRead f = s := by
  rw [State.frameRead, h]
  rfl

/-- Reads that find words bad change neither the epoch nor which context a frame belongs to. -/
theorem State.countsIn_frameRead {s : State} {p d n : Nat} {f : Frame} (h : (s.frameRead f).CountsIn p d f n) : s.CountsIn p d f n := by
  have hframe := s.frameRead_frame f
  have hparams : (s.frameRead f).params = s.params := (hframe.1 .params rfl).symm
  have hfuses : (s.frameRead f).fuses = s.fuses := (hframe.1 .fuses rfl).symm
  refine h.imp id fun ⟨key, hkey, hfound⟩ => ⟨key, ?_, ?_⟩
  · rw [← hkey]
    simp only [State.parN, State.param, hparams, hfuses]
  · rw [← (s.frameRead_onlyPoisons f).lookup hparams hfuses, hfound]

theorem State.epoch_frameRead (s : State) (f : Frame) : (s.frameRead f).epoch = s.epoch :=
  congrArg (fun x : Tku => x.bcnt.toNat / 625000 % 2 ^ 32) ((s.frameRead_frame f).1 .tku rfl).symm

/-- Settles O25: the lookup of R351 names one context, and nothing that follows the count looks at the Lexicon. -/
theorem everyFrameCountsOnce : Obligations.EveryFrameCountsOnce := by
  intro s p d f c hcfg hp hd hprofile hlive hstate hforwards hunit
  have hparses : s.parses p d f c = true := by
    simpa [State.parses, hp, hd, hprofile, hlive] using ⟨hstate, hforwards⟩
  obtain ⟨t, hexec, hlex⟩ := exec_frameParsed_of_counted hcfg hparses hunit
  obtain ⟨n, hcounts, hany⟩ := (s.frameRead f).lexFrame_counts p d f (ptpEvent f)
  have hread := s.frameRead_onlyPoisons f
  have hctx (k : Nat) : t.anyCtx k = if k = n
      then ((s.frameRead f).anyCtx n).frame (min f.length 16383) (frameErrored f) (ptpEvent f) s.epoch
      else (s.frameRead f).anyCtx k := by
    rw [← s.epoch_frameRead f, ← hany k]
    exact congrArg (fun x : Lex => if k < 16384 then tget x.ctx (fun _ => {}) k else tget x.unplaced (fun _ => {}) (k - 16384)) hlex
  refine ⟨t, hexec, n, ?_, fun k hk => ?_, fun hgood k => ?_, State.countsIn_frameRead hcounts⟩
  · rw [hctx, if_pos rfl, hread.anyCtx n]
    rfl
  · rw [hctx, if_neg hk]
    exact hread.anyCtx k
  · rw [hctx, State.frameRead_of_good hgood]
    split
    · next hk => exact hk ▸ rfl
    · rfl

end Sys2Proof.Machine
end

section
/-! PROOFS. The inserter and the queue of early drains (O26, its first part; R358, R359, R366, R370, R373, R374). -/

namespace Sys2Proof.Machine

/-! Insertion. -/

/-- The entry that a key takes finds its context, whatever the other candidates hold. -/
theorem lookup_of_entry {s t : State} {k : List Byte} {i n : Nat} (hmiss : s.lookup k = none) (hi : i ∈ s.candidates k)
    (hcandidates : t.candidates k = s.candidates k) (hentry : ∀ j, t.entryAt j = if j = i then n + 1 else s.entryAt j)
    (hkey : ∀ j, (t.ctxAt j).key = if j = n then k else (s.ctxAt j).key) : t.lookup k = some n := by
  have hhit : ∀ j ∈ s.candidates k, (t.entryAt j != 0 && (t.ctxAt (t.entryAt j - 1)).key == k) = true → t.entryAt j - 1 = n := by
    intro j hj hfound
    by_contra hother
    have hji : j ≠ i := fun h => hother (by rw [hentry, if_pos h]; rfl)
    rw [hkey, if_neg hother, hentry, if_neg hji] at hfound
    have hnone := List.find?_eq_none.1 (Option.map_eq_none_iff.1 hmiss) j hj
    exact hnone hfound
  have hi' : (t.entryAt i != 0 && (t.ctxAt (t.entryAt i - 1)).key == k) = true := by
    simp [hentry, hkey]
  unfold State.lookup
  rw [hcandidates]
  cases hfind : (s.candidates k).find? fun j => t.entryAt j != 0 && (t.ctxAt (t.entryAt j - 1)).key == k with
  | none => exact absurd hi' (List.find?_eq_none.1 hfind i hi)
  | some j =>
    have hfound := List.find?_some hfind
    exact congrArg some (hhit j (List.mem_of_find?_eq_some hfind) hfound)

theorem State.entryAt_setEntry (s : State) (i j v : Nat) : (s.setEntry i v).entryAt j = if j = i then v else s.entryAt j := by
  simp only [State.entryAt, State.setEntry, tget_tset]

/-- The state after a key has taken entry `i` and the lowest free number. -/
def State.inserted (s : State) (key : List Byte) (i : Nat) (installed : Bool) : State :=
  ((s.setEntry i (firstFreeCtx 0 s.lex.ctx + 1)).modCtx (firstFreeCtx 0 s.lex.ctx) fun c => c.renew key installed s.epoch).bump
    gLex 0 lxInsertions

theorem State.insertKey_of_room {s : State} {key : List Byte} {i : Nat} (hroom : s.freeEntry (s.candidates key) = some i)
    (hnumber : firstFreeCtx 0 s.lex.ctx ≤ 16383) (installed : Bool) :
    s.insertKey key installed = (s.inserted key i installed, some (firstFreeCtx 0 s.lex.ctx)) := by
  simp only [State.insertKey, if_neg (Nat.not_lt.2 hnumber), State.makeRoom, hroom, State.inserted]

section
variable (s : State) (key : List Byte) (i : Nat) (installed : Bool)

theorem State.inserted_entryAt (j : Nat) :
    (s.inserted key i installed).entryAt j = if j = i then firstFreeCtx 0 s.lex.ctx + 1 else s.entryAt j :=
  s.entryAt_setEntry i j (firstFreeCtx 0 s.lex.ctx + 1)

theorem State.inserted_ctxAt (j : Nat) : (s.inserted key i installed).ctxAt j =
    if j = firstFreeCtx 0 s.lex.ctx then (s.ctxAt (firstFreeCtx 0 s.lex.ctx)).renew key installed s.epoch else s.ctxAt j :=
  State.ctxAt_modCtx ..

theorem State.inserted_lookup {s : State} {key : List Byte} {i : Nat} (hmiss : s.lookup key = none)
    (hroom : s.freeEntry (s.candidates key) = some i) (installed : Bool) :
    (s.inserted key i installed).lookup key = some (firstFreeCtx 0 s.lex.ctx) := by
  refine lookup_of_entry hmiss (List.mem_of_find?_eq_some hroom) rfl (s.inserted_entryAt key i installed) fun j => ?_
  rw [State.inserted_ctxAt]
  split <;> rfl

theorem State.inserted_statAt :
    (s.inserted key i installed).statAt gLex 0 lxInsertions = (s.statAt gLex 0 lxInsertions).add 1 := State.statAt_bump_self ..

end

/-- The inserter's queue without the key that it takes. -/
def State.unqueued (s : State) (ks : List (List Byte)) : State := { s with lex := { s.lex with insertq := ks } }

theorem exec_keyInsertion_of_miss {s : State} {k : List Byte} {ks : List (List Byte)} (hqueue : s.lex.insertq = k :: ks)
    (hmiss : s.lookup k = none) : exec .keyInsertion s = .next ((s.unqueued ks).insertKey k false).1 := by
  change execKeyInsertion s = _
  have hmiss' : (s.unqueued ks).lookup k = none := hmiss
  rw [execKeyInsertion, hqueue]
  exact congrArg Host.Outcome.next (if_neg (by
    change ¬ ((s.unqueued ks).lookup k).isSome = true
    simp [hmiss']))

theorem exec_keyInsertion_of_hit {s : State} {k : List Byte} {ks : List (List Byte)} (hqueue : s.lex.insertq = k :: ks)
    (hhit : (s.lookup k).isSome = true) : exec .keyInsertion s = .next (s.unqueued ks) := by
  change execKeyInsertion s = _
  rw [execKeyInsertion, hqueue]
  exact congrArg Host.Outcome.next (if_pos hhit)

theorem keyInsertion_completes_of_miss (k : List Byte) (ks : List (List Byte)) (i : Nat) : Completes .keyInsertion
    (fun s => s.lex.insertq = k :: ks ∧ s.lookup k = none ∧ s.freeEntry (s.candidates k) = some i ∧
      firstFreeCtx 0 s.lex.ctx ≤ 16383)
    fun s t => t.lex.insertq = ks ∧ t.entryAt i = firstFreeCtx 0 s.lex.ctx + 1 ∧
      t.lookup k = some (firstFreeCtx 0 s.lex.ctx) ∧
      t.ctxAt (firstFreeCtx 0 s.lex.ctx) = (s.ctxAt (firstFreeCtx 0 s.lex.ctx)).renew k false s.epoch ∧
      t.statAt gLex 0 lxInsertions = (s.statAt gLex 0 lxInsertions).add 1 := by
  rintro s ⟨hqueue, hmiss, hroom, hnumber⟩
  have hinsert := State.insertKey_of_room (s := s.unqueued ks) hroom hnumber false
  refine ⟨(s.unqueued ks).inserted k i false, ?_, rfl, ?_, State.inserted_lookup (s := s.unqueued ks) hmiss hroom false, ?_,
    State.inserted_statAt ..⟩
  · rw [exec_keyInsertion_of_miss hqueue hmiss, hinsert]
  · exact (State.inserted_entryAt ..).trans (if_pos rfl)
  · exact (State.inserted_ctxAt ..).trans (if_pos rfl)

theorem keyInsertion_completes_of_hit (k : List Byte) (ks : List (List Byte)) : Completes .keyInsertion
    (fun s => s.lex.insertq = k :: ks ∧ (s.lookup k).isSome)
    fun s t => t.lex = { s.lex with insertq := ks } ∧ OnlyChanges [.lex] s t := by
  rintro s ⟨hqueue, hhit⟩
  have hframe : Keep 0x200000000 s (s.unqueued ks) := Keep.set_lex rfl (Keep.refl _ _)
  exact ⟨_, exec_keyInsertion_of_hit hqueue hhit, rfl, hframe.among rfl⟩

/-! Early drains. -/

/-- An early drain of context `n`: it leaves the queue, and its counts go into its totals. -/
def State.earlyDrained (s : State) (n : Nat) : State :=
  ({ s with lex := { s.lex with drainq := s.lex.drainq.erase n } }.modAnyCtx n fun c => { c.drain with drains := c.drains + 1 }).bump
    gLex 0 lxDrains

section
variable {s : State} {n : Nat} {ns : List Nat}

theorem find_of_head (hqueue : s.lex.drainq = n :: ns) (hread : (s.bankAt (n / 512)).filling = false) :
    s.lex.drainq.find? (fun n => !s.ctxStale n) = some n := by
  rw [hqueue, List.find?_cons_of_pos]
  rw [State.ctxStale, hread]
  rfl

theorem exec_earlyDrainDone (hqueue : s.lex.drainq = n :: ns) (hread : (s.bankAt (n / 512)).filling = false) :
    exec (.earlyDrainDone []) s = .next (s.earlyDrained n) := by
  change execEarlyDrainDone s [] = _
  rw [execEarlyDrainDone, find_of_head hqueue hread]
  rfl

theorem exec_earlyDrainDone_of_bad (hqueue : s.lex.drainq = n :: ns) (hread : (s.bankAt (n / 512)).filling = false) (r : SramRead)
    (rs : List SramRead) : exec (.earlyDrainDone (r :: rs)) s = .next ((s.counterReads (r :: rs)).earlyDrained n).follow := by
  change execEarlyDrainDone s (r :: rs) = _
  rw [execEarlyDrainDone, find_of_head hqueue hread]
  rfl

theorem State.earlyDrained_drainq (hqueue : s.lex.drainq = n :: ns) : (s.earlyDrained n).lex.drainq = ns := by
  have herase : (s.earlyDrained n).lex.drainq = s.lex.drainq.erase n := by
    unfold State.earlyDrained State.modAnyCtx
    split <;> rfl
  rw [herase, hqueue, List.erase_cons_head]

end

section
variable (s : State) (n : Nat)

theorem State.earlyDrained_anyCtx (k : Nat) : (s.earlyDrained n).anyCtx k =
    if k = n then { (s.anyCtx n).drain with drains := (s.anyCtx n).drains + 1 } else s.anyCtx k :=
  State.anyCtx_modAnyCtx ..

theorem State.earlyDrained_statAt : (s.earlyDrained n).statAt gLex 0 lxDrains = (s.statAt gLex 0 lxDrains).add 1 := by
  refine (State.statAt_bump_self ..).trans (congrArg (Stat.add · 1) ?_)
  unfold State.modAnyCtx
  split <;> rfl

theorem State.earlyDrained_frame : Keep 0x200020000 s (s.earlyDrained n) :=
  Keep.bump rfl (State.modAnyCtx_keep _ _ _ rfl (Keep.set_lex rfl (Keep.refl _ _)))

end

theorem earlyDrainDone_completes (n : Nat) (ns : List Nat) : Completes (.earlyDrainDone [])
    (fun s => s.lex.drainq = n :: ns ∧ (s.bankAt (n / 512)).filling = false)
    fun s t => t.lex.drainq = ns ∧ t.anyCtx n = { (s.anyCtx n).drain with drains := (s.anyCtx n).drains + 1 } ∧
      (∀ k, k ≠ n → t.anyCtx k = s.anyCtx k) ∧ t.statAt gLex 0 lxDrains = (s.statAt gLex 0 lxDrains).add 1 ∧
      OnlyChanges [.lex, .stats] s t := by
  rintro s ⟨hqueue, hread⟩
  exact ⟨s.earlyDrained n, exec_earlyDrainDone hqueue hread, State.earlyDrained_drainq hqueue,
    (s.earlyDrained_anyCtx n n).trans (if_pos rfl), fun k hk => (s.earlyDrained_anyCtx n k).trans (if_neg hk), s.earlyDrained_statAt n,
    (s.earlyDrained_frame n).among rfl⟩

theorem State.anyCtx_of_books {s t : State} (h : t.lex.books = s.lex.books) (k : Nat) : t.anyCtx k = s.anyCtx k :=
  State.books_eq h (fun x => if k < 16384 then tget x.ctx (fun _ => {}) k else tget x.unplaced (fun _ => {}) (k - 16384)) fun _ => rfl

/-- The read that finds a counter word of a LIVE context uncorrectable marks the context and no other (R374). -/
theorem State.counterReads_anyCtx {s : State} {n : Nat} (hn : n < 16384) (hlive : (s.ctxAt n).state = .live) (a k : Nat) :
    (s.counterReads [{ region := 3, addr := a, row := n, syn := none }]).anyCtx k =
      if k = n then { s.anyCtx n with poisoned := true } else s.anyCtx k := by
  have hsame := State.anyCtx_of_books (s.sramReads_books [{ region := 3, addr := a, row := n, syn := none }])
  rw [State.counterReads_eq]
  generalize s.sramReads _ = u at hsame ⊢
  have hrows : badRows 3 [{ region := 3, addr := a, row := n, syn := none }] = [n] := rfl
  have hstate : (u.anyCtx n).state = .live := by rw [hsame, State.anyCtx, if_pos hn, hlive]
  rw [hrows, List.foldl_cons, List.foldl_nil, State.poison, if_pos (.inl hstate), State.anyCtx_modAnyCtx, hsame, hsame]

theorem earlyDrainDone_completes_of_uncorrectable (n : Nat) (ns : List Nat) (a : Nat) :
    Completes (.earlyDrainDone [{ region := 3, addr := a, row := n, syn := none }])
    (fun s => s.lex.drainq = n :: ns ∧ (s.bankAt (n / 512)).filling = false ∧ n < 16384 ∧ (s.ctxAt n).state = .live)
    fun s t => t.lex.drainq = ns ∧
      t.ctxAt n = { (s.ctxAt n).drain with drains := (s.ctxAt n).drains + 1, poisoned := true } ∧
      ∀ k, k ≠ n → t.anyCtx k = s.anyCtx k := by
  rintro s ⟨hqueue, hread, hn, hlive⟩
  have hreads := State.counterReads_anyCtx hn hlive a
  have hqueue' := (s.counterReads_onlyPoisons [{ region := 3, addr := a, row := n, syn := none }]).drainq.trans hqueue
  refine ⟨_, exec_earlyDrainDone_of_bad hqueue hread _ [], ?_⟩
  generalize s.counterReads _ = u at hreads hqueue' ⊢
  have hany (k : Nat) : (u.earlyDrained n).follow.anyCtx k = (u.earlyDrained n).anyCtx k := by
    simp only [State.anyCtx, State.ctxAt, State.unplacedAt, State.follow_lex]
  have hctx (v : State) : v.anyCtx n = v.ctxAt n := if_pos hn
  refine ⟨?_, ?_, fun k hk => ?_⟩
  · exact (congrArg Lex.drainq (State.follow_lex _)).trans (State.earlyDrained_drainq hqueue')
  · refine (hctx _).symm.trans ?_
    rw [hany, State.earlyDrained_anyCtx, if_pos rfl, hreads, if_pos rfl, hctx]
    rfl
  · rw [hany, State.earlyDrained_anyCtx, if_neg hk, hreads, if_neg hk]

theorem earlyDrainDone_completes_of_filling (us : List SramRead) : Completes (.earlyDrainDone us)
    (fun s => ∀ n ∈ s.lex.drainq, (s.bankAt (n / 512)).filling = true) fun s t => t = s := by
  intro s hfilling
  have hfind : s.lex.drainq.find? (fun n => !s.ctxStale n) = none :=
    List.find?_eq_none.2 fun n hn => by rw [State.ctxStale, hfilling n hn]; decide
  refine ⟨s, ?_, rfl⟩
  change execEarlyDrainDone s us = _
  rw [execEarlyDrainDone, hfind]

/-! Spare banks (R373). -/

theorem spareBankFillDone_completes (b : Nat) : Completes (.spareBankFillDone b) (fun s => (s.bankAt b).filling)
    fun s t => t.bankAt b = { s.bankAt b with filling := false } ∧ (∀ k, k ≠ b → t.bankAt k = s.bankAt k) := by
  intro s hfilling
  refine ⟨_, congrArg Host.Outcome.next (if_pos hfilling), State.bankAt_modBank_self .., fun k hk => ?_⟩
  rw [State.bankAt_modBank, if_neg hk]

end Sys2Proof.Machine
end

section
/-! PROOFS. Dump passes (O26, its second part; R365, R369, R371). -/

namespace Sys2Proof.Machine

/-! A pass starts. -/

theorem State.dumpsRun_of {s : State} (hunit : s.unitOn fLex = true) (hmode : s.live = true ∨ s.dev.mode = .workshop) :
    s.dumpsRun = true := by
  unfold State.dumpsRun
  rcases hmode with hlive | hworkshop
  · rw [hunit, hlive]
    rfl
  · rw [hunit, hworkshop]
    simp

/-- A pass that begins now. -/
def State.passBegun (s : State) (late flush : Bool) (t : List Ticket) : State :=
  { s with lex := { s.lex with pass := some (s.tku.bcnt, late, flush), tickets := t } }

theorem State.startPass_of_none {s : State} (h : s.lex.pass = none) (late flush : Bool) (t : List Ticket) :
    s.startPass late flush t = s.passBegun late flush t := by
  rw [State.startPass, h]
  rfl

theorem State.passBegun_frame (s : State) (late flush : Bool) (t : List Ticket) : Keep 0x200000000 s (s.passBegun late flush t) :=
  Keep.set_lex rfl (Keep.refl _ _)

theorem exec_dumpIntervalExpiry {s : State} (hrun : s.dumpsRun = true) (hpass : s.lex.pass = none) (delay kept : Nat) :
    exec (.dumpIntervalExpiry delay kept) s = .next (if delay = 0 then s.passBegun false false []
      else (((s.passBegun true false []).bump gLex 0 lxLate).countYield 6 kept).raise evLexDumpLate
        [Word.nat delay, Word.nat 6, Word.nat kept]) := by
  refine congrArg Host.Outcome.next ((if_pos ⟨hrun, hpass⟩).trans ?_)
  rw [State.startPass_of_none hpass]
  by_cases hdelay : delay = 0
  · rw [if_pos hdelay, if_pos hdelay, hdelay]
    rfl
  · rw [if_neg hdelay, if_neg hdelay, decide_eq_true (Nat.pos_of_ne_zero hdelay)]
    rfl

theorem dumpIntervalExpiry_completes (kept : Nat) : Completes (.dumpIntervalExpiry 0 kept)
    (fun s => s.unitOn fLex ∧ (s.live ∨ s.dev.mode = .workshop) ∧ s.lex.pass = none)
    fun s t => t.lex = { s.lex with pass := some (s.tku.bcnt, false, false), tickets := [] } ∧ OnlyChanges [.lex] s t := by
  rintro s ⟨hunit, hmode, hpass⟩
  exact ⟨_, exec_dumpIntervalExpiry (State.dumpsRun_of hunit hmode) hpass 0 kept, rfl, (s.passBegun_frame ..).among rfl⟩

theorem dumpIntervalExpiry_completes_of_late (delay kept : Nat) : Completes (.dumpIntervalExpiry delay kept)
    (fun s => s.unitOn fLex ∧ (s.live ∨ s.dev.mode = .workshop) ∧ s.lex.pass = none ∧ 0 < delay ∧ s.hears)
    fun s t => t.lex.pass = some (s.tku.bcnt, true, false) ∧ t.statAt gLex 0 lxLate = (s.statAt gLex 0 lxLate).add 1 ∧
      Raises s t evLexDumpLate [Word.nat delay, 6, Word.nat kept] := by
  rintro s ⟨hunit, hmode, hpass, hdelay, hears⟩
  have hexec := exec_dumpIntervalExpiry (State.dumpsRun_of hunit hmode) hpass delay kept
  rw [if_neg (Nat.ne_of_gt hdelay)] at hexec
  have hbump : Keep 0x200020000 s ((s.passBegun true false []).bump gLex 0 lxLate) :=
    Keep.bump rfl ((s.passBegun_frame ..).step rfl (Keep.refl _ _))
  have hcounted := State.countYield_keep ((s.passBegun true false []).bump gLex 0 lxLate) 6 kept rfl (Keep.refl 0x10000000000 _)
  refine ⟨_, hexec, ?_, ?_, Raises.of_keep hears (hcounted.step (m := 0x10200020000) rfl (hbump.step rfl (Keep.refl _ _))) rfl
    (Keep.refl 0 _) rfl⟩
  · rw [State.raise_lex, hcounted.lex_eq rfl]
    rfl
  · rw [State.raise_statAt, hcounted.statAt_eq rfl, State.statAt_bump_self]
    rfl

/-! What a pass visits. -/

/-- The Lexicon but for its contexts, its index and the queue of early drains. -/
def Lex.schedule (x : Lex) : Lex := { x with ctx := [], unplaced := [], index := [], drainq := [] }

/-- From `s` to `t` no unplaced context has changed, and nothing that tells when passes run. -/
def State.VisitKept (s t : State) : Prop := t.lex.unplaced = s.lex.unplaced ∧ t.lex.schedule = s.lex.schedule

theorem State.VisitKept.refl (s : State) : s.VisitKept s := ⟨rfl, rfl⟩

theorem State.VisitKept.of_lex {s t u : State} (h : s.VisitKept t) (hu : u.lex = t.lex) : s.VisitKept u := by
  rwa [State.VisitKept, hu]

theorem State.splice_lex (s : State) (a : Nat) (bs : List Byte) : (s.splice a bs).lex = s.lex := rfl

theorem State.modCtx_visitKept {s t : State} (h : s.VisitKept t) (n : Nat) (f : Ctx → Ctx) : s.VisitKept (t.modCtx n f) := h

theorem State.retireCtx_visitKept {s t : State} (h : s.VisitKept t) (n : Nat) : s.VisitKept (t.retireCtx n) := h

section
variable (s : State) (base : Nat) (first : Bool)

/-- A visit of a context stays with the contexts, their index and the queue of early drains. -/
theorem State.visitCtx_visitKept {s t : State} (h : s.VisitKept t) (n : Nat) : s.VisitKept (t.visitCtx base first n) := by
  unfold State.visitCtx
  extract_lets c stale gone v s1 s2 s3 s4 s5
  split
  · have hs1 : s.VisitKept s1 := State.modCtx_visitKept h n _
    have hs3 : s.VisitKept s3 := hs1.of_lex ((State.splice_lex ..).trans (State.splice_lex ..))
    have hs4 : s.VisitKept s4 := by
      dsimp only [s4]
      split
      · exact hs3.of_lex (State.bump_lex ..)
      · exact hs3
    have hs5 : s.VisitKept s5 := by
      dsimp only [s5]
      split
      · exact hs4.of_lex (State.bump_lex ..)
      · exact hs4
    split
    · exact State.retireCtx_visitKept hs5 n
    · exact hs5
  · exact h.of_lex (State.splice_lex ..)

theorem State.visitUnplaced_lex (i : Nat) : (s.visitUnplaced base first i).lex =
    (s.modUnplaced i fun _ => ((s.unplacedAt i).visit first false).1).lex := State.splice_lex ..

/-- A visit of the first `n` unplaced contexts. -/
def State.visitsUnplaced (n : Nat) : State := (List.range n).foldl (fun s i => s.visitUnplaced base first i) s

/-- Each unplaced context is visited once. -/
theorem State.unplacedAt_visitsUnplaced (n j : Nat) : (s.visitsUnplaced base first n).unplacedAt j =
    if j < n then ((s.unplacedAt j).visit first false).1 else s.unplacedAt j := by
  induction n with
  | zero => rfl
  | succ n ih =>
    have hnext : s.visitsUnplaced base first (n + 1) = (s.visitsUnplaced base first n).visitUnplaced base first n := by
      simp only [State.visitsUnplaced, List.range_succ, List.foldl_append, List.foldl_cons, List.foldl_nil]
    have hvisit (u : State) : (u.visitUnplaced base first n).unplacedAt j =
        if j = n then ((u.unplacedAt n).visit first false).1 else u.unplacedAt j := State.unplacedAt_modUnplaced ..
    rw [hnext, hvisit]
    by_cases hj : j = n
    · subst hj
      rw [if_pos rfl, if_pos (Nat.lt_succ_self j), ih, if_neg (Nat.lt_irrefl j)]
    · rw [if_neg hj, ih]
      by_cases hlt : j < n
      · rw [if_pos hlt, if_pos (by omega)]
      · rw [if_neg hlt, if_neg (by omega)]

theorem State.visitsUnplaced_schedule (n : Nat) : (s.visitsUnplaced base first n).lex.schedule = s.lex.schedule :=
  List.foldlRecOn (motive := fun u : State => u.lex.schedule = s.lex.schedule) (List.range n) _ rfl fun u hu i _ => by
    rw [State.visitUnplaced_lex]
    exact hu

theorem State.memClear_lex (a n : Nat) : (s.memClear a n).lex = s.lex := State.pmcEvent_lex ..

/-- A pass visits the unplaced contexts, then contexts. -/
theorem State.lexPass_cases : ∃ u : State, u.lex = s.lex ∧
    (u.visitsUnplaced (lexBuffer s.lex.seq) first 16).VisitKept (s.lexPass first) := by
  unfold State.lexPass
  extract_lets base s1 s2 ns
  refine ⟨s1, (State.memClear_lex ..).trans (State.memClear_lex ..), ?_⟩
  change s2.VisitKept _
  generalize s2 = v
  exact List.foldlRecOn (motive := v.VisitKept) _ _ (State.VisitKept.refl v) fun u hu n _ => State.visitCtx_visitKept base first hu n

theorem State.lexPass_schedule : (s.lexPass first).lex.schedule = s.lex.schedule := by
  obtain ⟨u, hu, -, hschedule⟩ := s.lexPass_cases first
  rw [hschedule, State.visitsUnplaced_schedule, hu]

theorem State.lexPass_unplacedAt {i : Nat} (hi : i < 16) :
    (s.lexPass first).unplacedAt i = ((s.unplacedAt i).visit first false).1 := by
  obtain ⟨u, hu, hunplaced, -⟩ := s.lexPass_cases first
  have hvisits := u.unplacedAt_visitsUnplaced (lexBuffer s.lex.seq) first 16 i
  have hbefore : u.unplacedAt i = s.unplacedAt i := congrArg (fun x : Lex => tget x.unplaced (fun _ => {}) i) hu
  rw [if_pos hi, hbefore] at hvisits
  rw [← hvisits]
  exact congrArg (fun x : Tbl Ctx => tget x (fun _ => {}) i) hunplaced

end

/-! A pass ends. -/

/-- The pass in progress ends, its record and its event but: the buffer and then its header are written (R369). -/
def State.passWritten (s : State) (start : BitVec 64) (late flush : Bool) : State :=
  let s1 := s.lexPass (!s.lex.everDumped)
  let s2 := s1.memPut (lexBuffer s.lex.seq) (s1.lexHeader start (dumpFlags late flush (!s.lex.everDumped)))
  { s2 with lex := { s2.lex with pass := none, tickets := [], seq := s.lex.seq + 1, everDumped := true } }

/-- The FLUSHes that the pass serves have ended, and a ring has its record to push. -/
def State.passTold (s : State) (start : BitVec 64) (late flush : Bool) : State :=
  (s.lex.tickets.foldl (fun s t => s.finish t cDone 0) (s.passWritten start late flush)).dmaDue 0 s.lex.seq (lexBuffer s.lex.seq)
    late flush

section
variable (s : State) (start : BitVec 64) (late flush : Bool)

theorem State.memPut_lex (a : Nat) (bs : List Byte) : (s.memPut a bs).lex = s.lex := State.pmcEvent_lex ..

theorem State.passWritten_lex : (s.passWritten start late flush).lex =
    { (s.lexPass (!s.lex.everDumped)).lex with pass := none, tickets := [], seq := s.lex.seq + 1, everDumped := true } := by
  unfold State.passWritten
  dsimp only
  rw [State.memPut_lex]

theorem State.passTold_lex : (s.passTold start late flush).lex = (s.passWritten start late flush).lex := by
  rw [State.passTold, State.dmaDue_lex]
  exact State.foldl_lex (fun u t => State.finish_lex ..) _ _

theorem State.passTold_frame : Keep 0x20e00023b80 s (s.passTold start late flush) := by
  have hwritten : Keep 0x20e00020300 s (s.passWritten start late flush) :=
    Keep.set_lex rfl (State.memPut_keep _ _ _ rfl (State.lexPass_keep s _ rfl (Keep.refl _ _)))
  exact State.dmaDue_keep _ _ _ _ _ _ rfl
    (Keep.foldl _ (fun u t hu => State.finish_keep u t cDone 0 rfl hu) (hwritten.step rfl (Keep.refl _ _)))

/-- A pass that no other one waits for ends with its event. -/
theorem State.passDone_of {s : State} {start : BitVec 64} {late flush : Bool} (hpass : s.lex.pass = some (start, late, flush))
    (hagain : s.lex.again = none) : s.passDone = (s.passTold start late flush).raise evLexDumpDone
      [Word.nat s.lex.seq, Word.nat (s.lex.seq % 2), Word.nat (dumpFlags late flush (!s.lex.everDumped))] := by
  have hschedule := congrArg Lex.again (s.lexPass_schedule (!s.lex.everDumped))
  have hnone : ((s.passTold start late flush).raise evLexDumpDone [Word.nat s.lex.seq, Word.nat (s.lex.seq % 2),
      Word.nat (dumpFlags late flush (!s.lex.everDumped))]).lex.again = none := by
    rw [State.raise_lex, State.passTold_lex, State.passWritten_lex]
    exact hschedule.trans hagain
  simp only [State.passTold, State.passWritten] at hnone ⊢
  simp only [State.passDone, hpass, field32, List.cons_append, List.nil_append, hnone]

end

theorem dumpPassComplete_completes (start : BitVec 64) (late flush : Bool) : Completes (.dumpPassComplete [])
    (fun s => s.lex.pass = some (start, late, flush) ∧ s.lex.again = none ∧ s.hears)
    fun s t => t.lex.pass = none ∧ t.lex.seq = s.lex.seq + 1 ∧ t.lex.everDumped = true ∧
      (∀ i, i < 16 → t.unplacedAt i = ((s.unplacedAt i).visit (!s.lex.everDumped) false).1) ∧
      Raises s t evLexDumpDone [Word.nat s.lex.seq, Word.nat (s.lex.seq % 2),
        Word.nat (dumpFlags late flush (!s.lex.everDumped))] := by
  rintro s ⟨hpass, hagain, hears⟩
  have hexec : exec (.dumpPassComplete []) s = .next s.passDone := by
    refine congrArg Host.Outcome.next (if_neg ?_)
    simp
  rw [State.passDone_of hpass hagain] at hexec
  have hlex : ∀ d, ((s.passTold start late flush).raise evLexDumpDone d).lex =
      { (s.lexPass (!s.lex.everDumped)).lex with pass := none, tickets := [], seq := s.lex.seq + 1, everDumped := true } := fun d => by
    rw [State.raise_lex, State.passTold_lex, State.passWritten_lex]
  refine ⟨_, hexec, ?_, ?_, ?_, fun i hi => ?_, Raises.of_keep hears (s.passTold_frame start late flush) rfl (Keep.refl 0 _) rfl⟩
  · rw [hlex]
  · rw [hlex]
  · rw [hlex]
  · rw [← s.lexPass_unplacedAt _ hi, State.unplacedAt, hlex]
    rfl

/-- Settles O26, from one lemma for each of its clauses. -/
theorem lexiconEventsComplete : Obligations.LexiconEventsComplete :=
  ⟨keyInsertion_completes_of_miss, keyInsertion_completes_of_hit, earlyDrainDone_completes, earlyDrainDone_completes_of_uncorrectable,
    earlyDrainDone_completes_of_filling, dumpIntervalExpiry_completes, dumpIntervalExpiry_completes_of_late,
    dumpPassComplete_completes, spareBankFillDone_completes⟩

end Sys2Proof.Machine
end

section
/-! PROOFS. The Lexicon's commands (O27; R358, R359, R363, R372, R376, R377), and what a payload of the mask form makes of each
parameter (R452). -/

namespace Sys2Proof.Machine

/-! What a command finds of the Lexicon and leaves of it. -/

section
variable (s : State) (verb noun : Nat) (m : Sentence)

theorem State.lex_begun : (s.begun verb noun m).lex = s.lex := s.begun_congr verb noun m State.lex fun _ _ _ _ => rfl

theorem State.ctxAt_begun (n : Nat) : (s.begun verb noun m).ctxAt n = s.ctxAt n :=
  s.begun_congr verb noun m (State.ctxAt · n) fun _ _ _ _ => rfl

theorem State.lookup_begun (key : List Byte) : (s.begun verb noun m).lookup key = s.lookup key :=
  s.begun_congr verb noun m (State.lookup · key) fun _ _ _ _ => rfl

theorem State.param_begun (n i e : Nat) : (s.begun verb noun m).param n i e = s.param n i e :=
  s.begun_congr verb noun m (State.param · n i e) fun _ _ _ _ => rfl

end

theorem State.ctxAt_of_lex {s t : State} (h : t.lex = s.lex) (n : Nat) : t.ctxAt n = s.ctxAt n :=
  congrArg (fun x : Lex => tget x.ctx (fun _ => {}) n) h

/-! INSERT (R358, R359). -/

/-- A key whose PORT_DIR names a port of the part passes (R355). -/
theorem checkInsertCtx_of_port {s : State} {m : Sentence} {ws : List Word}
    (h : (bytesOfWords 17 ws).headD 0 < BitVec.ofNat 8 (2 * s.lines)) : checkInsertCtx s m ws = none := by
  have hport : ((bytesOfWords 17 ws).headD 0).toNat < 2 * s.lines :=
    Nat.lt_of_lt_of_le (BitVec.lt_def.1 h) ((BitVec.toNat_ofNat ..).trans_le (Nat.mod_le ..))
  exact if_neg (Nat.not_le.2 hport)

theorem checkInsertCtx_begun (s : State) (verb noun : Nat) (m : Sentence) (ws : List Word) :
    checkInsertCtx (s.begun verb noun m) m ws = checkInsertCtx s m ws :=
  s.begun_congr verb noun m (checkInsertCtx · m ws) fun _ _ _ _ => rfl

theorem insertLexContext_carries (i : Nat) : Carries .insertLexContext specInsertLexContext
    (fun m s => (bytesOfWords 17 (payloadOf m)).headD 0 < BitVec.ofNat 8 (2 * s.lines) ∧
      s.lookup (bytesOfWords 17 (payloadOf m)) = none ∧ firstFreeCtx 0 s.lex.ctx ≤ 16383 ∧
      s.freeEntry (s.candidates (bytesOfWords 17 (payloadOf m))) = some i)
    (fun m s t => Replied s t m cDone 0 ∧ Delivers t m [Word.nat (firstFreeCtx 0 s.lex.ctx)] ∧
      (t.ctxAt (firstFreeCtx 0 s.lex.ctx)).installed = true ∧ (t.ctxAt (firstFreeCtx 0 s.lex.ctx)).state = .live ∧
      (t.ctxAt (firstFreeCtx 0 s.lex.ctx)).key = bytesOfWords 17 (payloadOf m)) := by
  refine carries_done_words (fun _ _ => rfl) (by decide) fun m s _ ⟨hport, hmiss, hnumber, hroom⟩ => ?_
  generalize hkey : bytesOfWords 17 (payloadOf m) = key at *
  generalize hbegun : s.begun specInsertLexContext.verb specInsertLexContext.noun m = u
  have hlex : u.lex = s.lex := hbegun ▸ s.lex_begun ..
  have hroom' : u.freeEntry (u.candidates key) = some i := by
    rw [← hroom, ← hbegun]
    exact s.begun_congr _ _ m (fun v => v.freeEntry (v.candidates key)) fun _ _ _ _ => rfl
  have hact : actInsertCtx u m (payloadOf m) =
      (u.inserted key i true, okWords [Word.nat (firstFreeCtx 0 s.lex.ctx)]) := by
    have hmiss' : u.lookup key = none := by rw [← hbegun, State.lookup_begun, hmiss]
    rw [← hlex] at hnumber ⊢
    simp only [actInsertCtx, hkey, hmiss', State.insertKey_of_room hroom' hnumber]
  refine ⟨?_, _, _, _, hact, rfl, fun o => ⟨State.complete_delivers .., ?_⟩⟩
  · rw [← hbegun, checkInsertCtx_begun]
    exact checkInsertCtx_of_port (by rwa [hkey])
  · rw [State.ctxAt_of_lex (State.complete_lex ..), ← hlex, State.inserted_ctxAt, if_pos rfl]
    exact ⟨rfl, rfl, rfl⟩

/-- A key that has a context is not inserted twice. -/
theorem insertLexContext_carries_present (n : Nat) : Carries .insertLexContext specInsertLexContext
    (fun m s => (bytesOfWords 17 (payloadOf m)).headD 0 < BitVec.ofNat 8 (2 * s.lines) ∧
      s.lookup (bytesOfWords 17 (payloadOf m)) = some n)
    (fun m s t => Replied s t m cDone 0 ∧ Delivers t m [Word.nat n] ∧ t.lex = s.lex) := by
  refine carries_done_words (fun _ _ => rfl) (by decide) fun m s _ ⟨hport, hfound⟩ => ?_
  generalize hbegun : s.begun specInsertLexContext.verb specInsertLexContext.noun m = u
  have hact : actInsertCtx u m (payloadOf m) = (u, okWords [Word.nat n]) := by
    have hfound' : u.lookup (bytesOfWords 17 (payloadOf m)) = some n := by rw [← hbegun, State.lookup_begun, hfound]
    simp only [actInsertCtx, hfound']
  refine ⟨?_, _, _, _, hact, rfl, fun o => ⟨State.complete_delivers .., ?_⟩⟩
  · rw [← hbegun, checkInsertCtx_begun]
    exact checkInsertCtx_of_port hport
  · rw [State.complete_lex, ← hbegun, State.lex_begun]

/-! DELETE (R363) and FLUSH (R372). -/

theorem deleteLexContext_carries (n : Nat) : Carries .deleteLexContext specDeleteLexContext
    (fun m s => ((payloadOf m).getD 0 0).toNat = n ∧ (s.ctxAt n).state = .live)
    (fun m s t => Replied s t m cDone 0 ∧ t.ctxAt n = { s.ctxAt n with marked := true } ∧
      ∀ k, k ≠ n → t.ctxAt k = s.ctxAt k) := by
  refine carries_done (fun _ _ => rfl) fun m s _ ⟨hnumber, hlive⟩ => ?_
  refine ⟨if_pos (by rw [hnumber, State.ctxAt_begun, hlive]), _, _, _, rfl, rfl, fun t ht => ?_⟩
  have hctx := State.ctxAt_of_lex (ht.lex_eq rfl)
  refine ⟨?_, fun k hk => ?_⟩
  · rw [hctx, hnumber, State.ctxAt_modCtx_self, State.ctxAt_begun]
  · rw [hctx, hnumber, State.ctxAt_modCtx, if_neg hk, State.ctxAt_begun]

theorem flushLexDump_carries : Carries .flushLexDump specFlushLexDump
    (fun m s => s.lex.pass = none ∧ ticketCheck m s = none)
    (fun m s t => Replied s t m cAccepted 0 ∧ outstOf specFlushLexDump m ∈ t.mb.outstanding ∧
      t.lex = { s.lex with pass := some (s.tku.bcnt, false, true), tickets := [ticketOf m] }) := by
  refine carries_accepted (fun _ _ => rfl) fun m s _ ⟨hpass, hticket⟩ => ?_
  generalize hbegun : s.begun specFlushLexDump.verb specFlushLexDump.noun m = u
  have hlex : u.lex = s.lex := hbegun ▸ s.lex_begun ..
  have htku : u.tku = s.tku := hbegun ▸ s.begun_congr _ _ m State.tku fun _ _ _ _ => rfl
  have hact : actFlushLex u m (payloadOf m) = (u.passBegun false true [ticketOf m], .accepted []) := by
    rw [actFlushLex, State.startPass_of_none (by rw [hlex, hpass])]
  refine ⟨rfl, hticket, _, _, hact, rfl, fun t ht hout => ⟨hout, ?_⟩⟩
  rw [← hlex, ← htku]
  exact ht.lex_eq rfl

/-! SET of a port's parameters (R363, R376). -/

/-- The elements that a payload of the mask form changes are those of the rows that it selects, in the table's order. -/
theorem parseMask_elems {rows : List ParamRow} {len : Nat} {ws : List Word} {sel : List Nat} {cs : List ParamChange}
    (h : parseMask rows len ws = .ok sel cs) :
    (cs.map Prod.fst).Sublist ((maskElems rows (List.range rows.length)).map Prod.fst) := by
  unfold parseMask at h
  split at h
  · next lo hi vals =>
    split at h
    · cases h
    · split at h
      · cases h
      · dsimp only at h
        split at h
        · cases h
        · next hlen =>
          split at h
          · obtain ⟨rfl, rfl⟩ := MaskParse.ok.inj h
            have helems : (((maskElems rows (maskRows rows lo hi)).zip vals).map fun p => (p.1.1, p.2)).map Prod.fst =
                (maskElems rows (maskRows rows lo hi)).map Prod.fst := by
              have hcovers : (maskElems rows (maskRows rows lo hi)).length ≤ vals.length := by omega
              rw [List.map_map, ← List.map_fst_zip hcovers, List.map_map, List.map_fst_zip hcovers]
              rfl
            rw [helems]
            exact ((List.filter_sublist).flatMap _).map _
          · cases h
  · cases h

theorem changed_setParam_other (s : State) {n i e e' : Nat} (w : Word) (cs : List ParamChange) (h : e' ≠ e) :
    changed (s.setParam n i e w) n i e' cs = changed s n i e' cs := by
  have hparam : (s.setParam n i e w).param n i e' = s.param n i e' := by
    rw [State.param_setParam, if_neg (by unfold paramKey; omega)]
  rw [changed, changed, hparam]

/-- Where a SET names each element once, an element takes the value that the SET gives it. -/
theorem State.param_applyChanges (s : State) (n i e : Nat) {cs : List ParamChange} (h : (cs.map Prod.fst).Nodup) :
    (s.applyChanges n i cs).param n i e = changed s n i e cs := by
  induction cs generalizing s with
  | nil => rfl
  | cons c cs ih =>
    obtain ⟨hnew, hrest⟩ := List.nodup_cons.1 h
    have hstep : (s.applyChanges n i (c :: cs)).param n i e = changed (s.setParam n i c.1 c.2) n i e cs := ih _ hrest
    rw [hstep]
    by_cases hc : c.1 = e
    · subst hc
      have hnone : (cs.find? fun d => decide (d.1 = c.1)) = none :=
        List.find?_eq_none.2 fun d hd => by
          have hne : d.1 ≠ c.1 := fun heq => hnew (heq ▸ List.mem_map_of_mem hd)
          simpa using hne
      have hhead : ((c :: cs).find? fun d => decide (d.1 = c.1)) = some c := List.find?_cons_of_pos (by simp)
      rw [changed, changed, hnone, hhead]
      exact (s.param_setParam ..).trans (if_pos rfl)
    · rw [changed_setParam_other s c.2 cs (Ne.symm hc), changed, changed, List.find?_cons_of_neg (by simpa using hc)]

/-- A change of a port's key mask marks every LIVE context of the port. -/
theorem State.markPort_marks (s : State) {p n : Nat} (hlive : (s.ctxAt n).state = .live)
    (hport : ((s.ctxAt n).key.headD 0).toNat / 2 = p) (hmem : (n, s.ctxAt n) ∈ s.lex.ctx) :
    ((s.markPort p).ctxAt n).marked = true := by
  have hchosen : (decide ((s.ctxAt n).state = .live) && ((s.ctxAt n).key.headD 0).toNat / 2 == p) = true := by
    rw [decide_eq_true hlive, hport, beq_self_eq_true, Bool.and_self]
  have hn : n ∈ (s.lex.ctx.filter fun c => c.2.state = .live && (c.2.key.headD 0).toNat / 2 == p).map Prod.fst :=
    List.mem_map.2 ⟨(n, s.ctxAt n), List.mem_filter.2 ⟨hmem, hchosen⟩, rfl⟩
  refine foldl_reaches (Q := fun _ => True) (R := fun u : State => (u.ctxAt n).marked = true) hn (fun _ _ _ => trivial)
    (fun u _ => by rw [State.ctxAt_modCtx_self]) (fun u k hu => ?_) trivial
  rw [State.ctxAt_modCtx]
  split
  · rfl
  · exact hu

theorem State.markPort_frame (s : State) (p : Nat) : Keep 0x200000000 s (s.markPort p) := s.markPort_keep p rfl (Keep.refl _ _)

theorem State.lines_le (s : State) : s.lines ≤ 8 := by
  rw [State.lines, nLine]
  split <;> decide

theorem setLexPort_carries (r : List Nat) (cs : List ParamChange) : Carries .setLexPort specSetLexPort
    (fun m s => parseMask (paramRows nLexPort) m.len.toNat (payloadOf m) = .ok r cs ∧ (∀ c ∈ cs, c.1 = 1) ∧
      changed s nLexPort m.inst.toNat 1 cs ≠ s.param nLexPort m.inst.toNat 1)
    (fun m s t => Replied s t m cDone 0 ∧ t.param nLexPort m.inst.toNat 1 = changed s nLexPort m.inst.toNat 1 cs ∧
      ∀ n, (s.ctxAt n).state = .live → (s.ctxAt n).key.headD 0 = BitVec.ofNat 8 (2 * m.inst.toNat) →
        (n, s.ctxAt n) ∈ s.lex.ctx → (t.ctxAt n).marked = true) := by
  refine carries_done (fun _ _ => rfl) fun m s htakes ⟨hparse, honly, hchanged⟩ => ?_
  have hport : m.inst.toNat < s.lines := of_decide_eq_true htakes.inst
  generalize hbegun : s.begun specSetLexPort.verb specSetLexPort.noun m = u
  have hlex : u.lex = s.lex := hbegun ▸ s.lex_begun ..
  have hparam : u.param nLexPort m.inst.toNat 1 = s.param nLexPort m.inst.toNat 1 := hbegun ▸ s.param_begun ..
  have hvalue : changed u nLexPort m.inst.toNat 1 cs = changed s nLexPort m.inst.toNat 1 cs := by
    rw [changed, changed, hparam]
  have hchanges : maskChanges nLexPort m (payloadOf m) = cs := by rw [maskChanges, hparse]
  have hnodup : (cs.map Prod.fst).Nodup :=
    List.Nodup.sublist (parseMask_elems hparse) (by decide)
  have hset : (u.applyChanges nLexPort m.inst.toNat cs).param nLexPort m.inst.toNat 1 = changed s nLexPort m.inst.toNat 1 cs :=
    (u.param_applyChanges nLexPort m.inst.toNat 1 hnodup).trans hvalue
  have happlied : (u.applyChanges nLexPort m.inst.toNat cs).lex = s.lex := ((u.applyChanges_frame ..).lex_eq rfl).trans hlex
  have hmarks := (u.applyChanges nLexPort m.inst.toNat cs).markPort_frame m.inst.toNat
  have hact : actLexPort u m (payloadOf m) = ((u.applyChanges nLexPort m.inst.toNat cs).markPort m.inst.toNat, okDone) := by
    rw [actLexPort]
    rw [hchanges, hset, hparam, if_neg hchanged]
  refine ⟨?_, _, _, _, hact, ?_, fun t ht => ⟨?_, fun n hlive hkey hmem => ?_⟩⟩
  · have hrange : maskRange nLexPort m (payloadOf m) = none := by rw [maskRange, hparse]
    have hlearn : (cs.any fun c => c.1 == 0 && c.2 == 1) = false :=
      List.any_eq_false.2 fun c hc => by simp [honly c hc]
    rw [checkLexPort, hrange, hchanges, hlearn]
    rfl
  · exact (hmarks.boxes_eq rfl).trans ((u.applyChanges_frame ..).boxes_eq rfl)
  · rw [← hset]
    have hparams := (ht.1 .params rfl).symm.trans (hmarks.1 .params rfl).symm
    have hfuses := (ht.1 .fuses rfl).symm.trans (hmarks.1 .fuses rfl).symm
    rw [State.param, hparams, hfuses]
    rfl
  · have hctx := State.ctxAt_of_lex happlied
    rw [State.ctxAt_of_lex (ht.lex_eq rfl)]
    refine State.markPort_marks _ (by rw [hctx, hlive]) ?_ (by rw [hctx, happlied]; exact hmem)
    rw [hctx, hkey, BitVec.toNat_ofNat]
    have hlines := s.lines_le
    omega

/-! SET of the device-wide parameters (R376, R377). -/

theorem setLexCfg_carries_refused : Carries .setLexCfg specSetLexCfg
    (fun m s => (maskSelected nLexCfg (payloadOf m)).contains 2 ∧ s.dev.mode ≠ .dormant)
    (fun m s t => Replied s t m cStateRefused 1 ∧ t.params = s.params ∧ t.lex = s.lex) := by
  refine carries_refused (fun _ _ => rfl) fun m s _ ⟨hsalts, hmode⟩ =>
    ⟨if_pos ⟨hsalts, by rwa [State.dev_begun]⟩, fun t ht => ⟨(ht.1 .params rfl).symm, ht.lex_eq rfl⟩⟩

theorem setLexCfg_carries (r : List Nat) (cs : List ParamChange) : Carries .setLexCfg specSetLexCfg
    (fun m _ => parseMask (paramRows nLexCfg) m.len.toNat (payloadOf m) = .ok r cs ∧
      (maskSelected nLexCfg (payloadOf m)).contains 2 = false)
    (fun m s t => Replied s t m cDone 0 ∧ t.params = (s.applyChanges nLexCfg 0 cs).params ∧ t.lex = s.lex) := by
  refine carries_done (fun _ _ => rfl) fun m s _ ⟨hparse, hsalts⟩ => ?_
  generalize hbegun : s.begun specSetLexCfg.verb specSetLexCfg.noun m = u
  have hframe : Keep 0x20000000380 s u := hbegun ▸ s.begun_frame ..
  have hact : actLexCfg u m (payloadOf m) = (u.applyChanges nLexCfg 0 cs, okDone) := by
    rw [actLexCfg, maskChanges, hparse, hsalts]
    rfl
  have happly := u.applyChanges_frame nLexCfg 0 cs
  refine ⟨?_, _, _, _, hact, happly.boxes_eq rfl, fun t ht => ⟨?_, ?_⟩⟩
  · rw [checkLexCfg, hsalts, maskRange, hparse]
    exact if_neg fun h => Bool.false_ne_true h.1
  · rw [← ht.1 .params rfl]
    exact State.applyChanges_params (hframe.1 .params rfl).symm (hframe.1 .fuses rfl).symm ..
  · rw [ht.lex_eq rfl, happly.lex_eq rfl, hframe.lex_eq rfl]

/-- Settles O27, from one lemma for each of its clauses. -/
theorem lexiconCommandsComplete : Obligations.LexiconCommandsComplete :=
  ⟨insertLexContext_carries, insertLexContext_carries_present, deleteLexContext_carries, flushLexDump_carries, setLexPort_carries,
    setLexCfg_carries_refused, setLexCfg_carries⟩

end Sys2Proof.Machine
end

section
/-! PROOFS. GET and what it delivers (R445, R451). -/

namespace Sys2Proof.Machine

/-- CHECK on GET is refused (R453): a GET that is taken has none. -/
theorem State.Takes.unchecked {k : CmdSpec} {m : Sentence} {s : State} (h : s.Takes k m) (hverb : k.verb = vGet) :
    m.check = false := by
  have hpasses := h.passes
  simp only [commonCheck, Option.or_eq_none_iff] at hpasses
  obtain ⟨hadverbs, -⟩ := hpasses
  by_contra hcheck
  rw [Bool.not_eq_false] at hcheck
  rw [adverbCheck] at hadverbs
  split at hadverbs
  · cases hadverbs
  · rw [if_pos ⟨hcheck, .inl hverb⟩] at hadverbs
    cases hadverbs

section
variable {c : Sentence → Instr} {k : CmdSpec} {check : State → Sentence → List Word → Option Refuse}
  {act : State → Sentence → List Word → State × Reply}

/-- A GET whose effect answers the words `f`. -/
theorem carries_delivers (hexec : ∀ m s, exec (c m) s = .next (submit k.verb k.noun (process k check act noEcho) m s))
    (hverb : k.verb = vGet) {pre : Sentence → State → Prop} {f : Sentence → State → List Word}
    (h : ∀ m s, s.Takes k m → pre m s → check (s.begun k.verb k.noun m) m (payloadOf m) = none ∧
      ∃ e, act (s.begun k.verb k.noun m) m (payloadOf m) = (e, okWords (f m s)) ∧
        e.mb.box = (s.begun k.verb k.noun m).mb.box) :
    Carries c k pre fun m s t => Replied s t m cDone 0 ∧ Delivers t m (f m s) := by
  refine carries_done_words hexec (by rw [hverb]; decide) fun m s htakes hpre => ?_
  obtain ⟨hcheck, e, hact, hbox⟩ := h m s htakes hpre
  exact ⟨hcheck, e, f m s, _, hact, hbox, fun o => State.complete_delivers e m cDone 0 o (f m s)⟩

/-- A GET that changes nothing reads in the state in which it is carried out. -/
theorem reads_of_getAct {f : State → Nat → List Word}
    (hexec : ∀ m s, exec (c m) s = .next (submit k.verb k.noun (process k noCheck (getAct f) noEcho) m s))
    (hverb : k.verb = vGet) : Reads c k f := fun m s htakes =>
  carries_delivers hexec hverb (pre := fun _ _ => True) (fun _ _ _ _ => ⟨rfl, _, rfl, rfl⟩) m s htakes (htakes.unchecked hverb) trivial

end

end Sys2Proof.Machine
end

section
/-! PROOFS. GET on the device's nouns (O37; R378, R438, R469, R497, R522, R553, R581, R623, R661, R684, R703). -/

namespace Sys2Proof.Machine

/-! What the begin of a command leaves for a GET to read. -/

section
variable (s : State) (verb noun : Nat) (m : Sentence)

/-- The begin of a command is written in the mailboxes themselves alone. -/
theorem State.mb_begun {α : Type} (f : Mb → α) (hf : ∀ x b, f { x with box := b } = f x) : f (s.begun verb noun m).mb = f s.mb := by
  have hcount : ∀ u : State, f (u.pmcEvent 0x010 1).mb = f u.mb :=
    fun u => (congrArg f ((u.pmcEvent_frame 0x010 1).1 .mb rfl)).symm
  rw [State.begun, hcount]
  exact (hf ..).trans (hf ..)

/-- No reply and no discarded write counts at the begin of a command. -/
theorem State.mbxWords_begun (r : Requester) : (s.begun verb noun m).mbxWords r = s.mbxWords r := by
  have hcounts := s.mb_begun verb noun m Mb.counts fun _ _ => rfl
  have hdiscards := s.mb_begun verb noun m Mb.discards fun _ _ => rfl
  simp only [State.mbxWords, hcounts, hdiscards]

theorem State.urgentCode_begun (code : Nat) : (s.begun verb noun m).urgentCode code = s.urgentCode code :=
  congrArg (fun x : Tbl Bool => tget x urgentAtStart code) ((s.begun_frame verb noun m).1 .evUrgent rfl).symm

theorem State.lexContextWords_begun (n : Nat) : (s.begun verb noun m).lexContextWords n = s.lexContextWords n :=
  s.begun_congr verb noun m (State.lexContextWords · n) fun _ _ _ _ => rfl

theorem State.pwrWords_begun : (s.begun verb noun m).pwrWords = s.pwrWords :=
  s.begun_congr verb noun m State.pwrWords fun _ _ _ _ => rfl

end

/-! The numbers that a payload names. -/

theorem payload_number {m : Sentence} {n : Nat} (h : payloadOf m = [Word.nat n]) (hn : n < 2 ^ 32) :
    ((payloadOf m).getD 0 0).toNat = n := by
  rw [h]
  exact Word.toNat_nat hn

theorem getMbxStats_carries : Carries .getMbxStats specGetMbxStats (fun _ _ => True)
    (fun m s t => Replied s t m cDone 0 ∧ Delivers t m (s.mbxWords m.req)) :=
  carries_delivers (fun _ _ => rfl) rfl fun m s _ _ => ⟨rfl, _, by rw [actGetMbxStats, State.mbxWords_begun], rfl⟩

/-- The bus speed is the free value that comes next, and the one after it is left for the next use. -/
theorem getHifMgt_carries : Carries .getHifMgt specGetHifMgt (fun _ _ => True)
    (fun m s t => Replied s t m cDone 0 ∧ Delivers t m [Word.flag s.hif.i3c, Word.nat (0x58 + s.hif.straps.toNat),
      Word.nat s.hif.dynAddr.toNat, s.freeVal, Word.nat s.hif.mgtDiscarded]) := by
  refine carries_delivers (fun _ _ => rfl) rfl fun m s _ _ => ⟨rfl, (s.begun vGet nHifMgt m).freeNext, ?_, rfl⟩
  exact congrArg (Prod.mk _) (congrArg okWords (s.begun_congr vGet nHifMgt m (fun u => [Word.flag u.hif.i3c,
    Word.nat (0x58 + u.hif.straps.toNat), Word.nat u.hif.dynAddr.toNat, u.freeVal, Word.nat u.hif.mgtDiscarded])
    fun _ _ _ _ => rfl))

theorem getIcuEvent_carries (code : Nat) : Carries .getIcuEvent specGetIcuEvent
    (fun m _ => payloadOf m = [Word.nat code] ∧ isEventCode code ∧ code < 2 ^ 32)
    (fun m s t => Replied s t m cDone 0 ∧ Delivers t m [Word.flag (s.urgentCode code)]) := by
  refine carries_delivers (fun _ _ => rfl) rfl fun m s _ ⟨hpayload, hevent, hcode⟩ => ?_
  have hnumber := payload_number hpayload hcode
  refine ⟨if_pos ⟨by rwa [hnumber], by rw [hpayload]; exact Nat.zero_le 1⟩, _, ?_, rfl⟩
  rw [actGetIcuEvent, hnumber, State.urgentCode_begun]

theorem getIcuEvent_carries_refused (code : Nat) : Carries .getIcuEvent specGetIcuEvent
    (fun m _ => payloadOf m = [Word.nat code] ∧ isEventCode code = false ∧ code < 2 ^ 32)
    (fun m s t => Replied s t m cResource 1) := by
  intro m s htakes hm hpre
  refine ((carries_refused (c := .getIcuEvent) (pre := fun m _ => payloadOf m = [Word.nat code] ∧ isEventCode code = false ∧ code < 2 ^ 32)
    (post := fun _ _ _ => True) (fun _ _ => rfl)
    fun m s _ hpre => ⟨?_, fun _ _ => trivial⟩) m s htakes hm hpre).imp fun t ht => ⟨ht.1, ht.2.1⟩
  obtain ⟨hpayload, hevent, hcode⟩ := hpre
  refine if_neg fun hcheck => ?_
  rw [payload_number hpayload hcode, hevent] at hcheck
  exact Bool.false_ne_true hcheck.1

theorem getTstVerdicts_carries (n : Nat) : Carries .getTstVerdicts specGetTstVerdicts
    (fun m _ => payloadOf m = [Word.nat n] ∧ n < 256)
    (fun m s t => Replied s t m cDone 0 ∧ Delivers t m (((s.tst.verdicts.drop n).take 144).flatMap verdictWords)) := by
  refine carries_delivers (fun _ _ => rfl) rfl fun m s _ ⟨hpayload, hn⟩ => ?_
  have hnumber := payload_number hpayload (by omega)
  have htst := s.begun_congr vGet nTstVerdicts m State.tst fun _ _ _ _ => rfl
  refine ⟨if_pos (by rwa [hnumber]), _, ?_, rfl⟩
  rw [actTstVerdicts, hnumber]
  exact congrArg (fun x : Tst => (_, okWords (((x.verdicts.drop n).take 144).flatMap verdictWords))) htst

theorem getRepRecord_carries (n : Nat) : Carries .getRepRecord specGetRepRecord
    (fun m _ => payloadOf m = [Word.nat n] ∧ n < 2048)
    (fun m s t => Replied s t m cDone 0 ∧
      Delivers t m (wordsOfBytes (repHeader s.rep ++ (((s.rep.entries.drop n).take 248).flatMap entryBytes)))) := by
  refine carries_delivers (fun _ _ => rfl) rfl fun m s _ ⟨hpayload, hn⟩ => ?_
  have hnumber := payload_number hpayload (by omega)
  have hrep := s.begun_congr vGet nRepRecord m State.rep fun _ _ _ _ => rfl
  refine ⟨if_pos (by rwa [hnumber]), _, ?_, rfl⟩
  rw [actRepRecord, hnumber]
  exact congrArg (fun x : Rep =>
    (_, okWords (wordsOfBytes (repHeader x ++ (((x.entries.drop n).take 248).flatMap entryBytes))))) hrep

theorem getPmcCounter_carries (k : Nat) : Carries .getPmcCounter specGetPmcCounter
    (fun m s => payloadOf m = [Word.nat k] ∧ k < 4096 ∧ s.pmcExists k)
    (fun m s t => Replied s t m cDone 0 ∧ Delivers t m ((s.begun vGet nPmcCounter m).pmcWords m.req k)) := by
  refine carries_delivers (fun _ _ => rfl) rfl fun m s _ ⟨hpayload, hk, hexists⟩ => ?_
  have hnumber := payload_number hpayload (by omega)
  have hbegun := s.begun_congr vGet nPmcCounter m (State.pmcExists · k) fun _ _ _ _ => rfl
  refine ⟨if_pos (by rw [hnumber]; exact hbegun.trans hexists), _, ?_, rfl⟩
  rw [actGetPmcCounter, hnumber]
  rfl

theorem getLexContext_carries : Carries .getLexContext specGetLexContext (fun _ _ => True)
    (fun m s t => Replied s t m cDone 0 ∧ Delivers t m (s.lexContextWords ((payloadOf m).getD 0 0).toNat)) :=
  carries_delivers (fun _ _ => rfl) rfl fun m s _ _ => ⟨rfl, _, by rw [actLexContext, State.lexContextWords_begun], rfl⟩

theorem getPwrStatus_carries : Carries .getPwrStatus specGetPwrStatus (fun _ _ => True)
    (fun m s t => Replied s t m cDone 0 ∧ Delivers t m s.pwrWords) :=
  carries_delivers (fun _ _ => rfl) rfl fun m s _ _ =>
    ⟨rfl, (s.begun vGet nPwrStatus m).freeNext, congrArg (Prod.mk _) (congrArg okWords (s.pwrWords_begun ..)), rfl⟩

theorem getPwrRail_carries : Carries .getPwrRail specGetPwrRail (fun _ _ => True)
    (fun m s t => Replied s t m cDone 0 ∧
      Delivers t m [s.freeVal, s.freeAt 1, Word.flag (s.railOn m.inst.toNat), s.freeAt 2]) := by
  refine carries_delivers (fun _ _ => rfl) rfl fun m s _ _ => ⟨rfl, (s.begun vGet nPwrRail m).freeSkip 3, ?_, rfl⟩
  exact congrArg (Prod.mk _) (congrArg okWords (s.begun_congr vGet nPwrRail m
    (fun u => [u.freeVal, u.freeAt 1, Word.flag (u.railOn m.inst.toNat), u.freeAt 2]) fun _ _ _ _ => rfl))

/-- Settles O37: a GET with words of its own has its lemma above, every other one reads what its noun reports. -/
theorem deviceReadsComplete : Obligations.DeviceReadsComplete :=
  ⟨reads_of_getAct (fun _ _ => rfl) rfl, reads_of_getAct (fun _ _ => rfl) rfl, reads_of_getAct (fun _ _ => rfl) rfl,
    getMbxStats_carries, reads_of_getAct (fun _ _ => rfl) rfl, reads_of_getAct (fun _ _ => rfl) rfl,
    reads_of_getAct (fun _ _ => rfl) rfl, getHifMgt_carries, getIcuEvent_carries, getIcuEvent_carries_refused,
    reads_of_getAct (fun _ _ => rfl) rfl, reads_of_getAct (fun _ _ => rfl) rfl, reads_of_getAct (fun _ _ => rfl) rfl,
    reads_of_getAct (fun _ _ => rfl) rfl, reads_of_getAct (fun _ _ => rfl) rfl, reads_of_getAct (fun _ _ => rfl) rfl,
    reads_of_getAct (fun _ _ => rfl) rfl, reads_of_getAct (fun _ _ => rfl) rfl, reads_of_getAct (fun _ _ => rfl) rfl,
    getTstVerdicts_carries, getRepRecord_carries, reads_of_getAct (fun _ _ => rfl) rfl, getPmcCounter_carries,
    getLexContext_carries, getPwrStatus_carries, getPwrRail_carries⟩

end Sys2Proof.Machine
end

section
/-! PROOFS. Reads and writes of the timekeeping registers (O1; R387 to R395, R397, R474, R475, R494, R730, R731, R742). -/

namespace Sys2Proof.Machine

/-! Which access reaches the unit: PF0 alone writes it (R395), and the management port has no such block (R494). -/

section
variable {s : State}

theorem State.onBus_of_bus {r : Requester} (hbus : s.bus r) (f : State → State) : s.onBus r f = f s := if_pos hbus

theorem State.tkuWrite_pf0 (hbus : s.bus .pf0) (f : State → State) : s.tkuWrite .pf0 f = f s := if_pos hbus

theorem State.tkuWrite_pf1 (hbus : s.bus .pf1) (f : State → State) : s.tkuWrite .pf1 f = s.discardWrite .pf1 := if_pos hbus

theorem State.tkuWrite_mgt (s : State) (f : State → State) : s.tkuWrite .mgt f = s := ite_self s

end

/-! The snapshot (R393). -/

/-- Domain B as a snapshot shows it: zeros where it does not run (R742). -/
def State.shownB (s : State) : DomClk := if s.domBOn then s.tku.domB else {}

/-- A function's snapshots with BCNT and both domains taken at one tick. -/
def State.snapped (s : State) (x : Snap) : Snap := { x with
  bcnt := s.tku.bcnt
  aSec := s.tku.domA.sec, aNs := s.tku.domA.ns, aFrac := s.tku.domA.frac
  bSec := s.shownB.sec, bNs := s.shownB.ns, bFrac := s.shownB.frac }

theorem State.snapAt_tkuSnap (s : State) (r : Requester) : (s.tkuSnap r).snapAt r = s.snapped (s.snapAt r) :=
  s.snapAt_modSnap_self r s.snapped

/-- A function's read of BCNT_LO answers its low word and takes the snapshot. -/
theorem tkuBcntLoRead_completes {r : Requester} {s : State} (hbus : s.bus r) (hr : r ≠ .mgt) :
    ∃ t, exec (.tkuBcntLoRead r) s = .next t ∧
      (t.snapAt r).bcnt = s.tku.bcnt ∧ t.dev.busRead = { words := [s.tku.bcnt.setWidth 32] } ∧
      (t.snapAt r).aSec = s.tku.domA.sec ∧ (t.snapAt r).aNs = s.tku.domA.ns ∧ (t.snapAt r).aFrac = s.tku.domA.frac ∧
      (s.domBOn → (t.snapAt r).bSec = s.tku.domB.sec ∧ (t.snapAt r).bNs = s.tku.domB.ns ∧ (t.snapAt r).bFrac = s.tku.domB.frac) ∧
      (¬s.domBOn → (t.snapAt r).bSec = 0 ∧ (t.snapAt r).bNs = 0 ∧ (t.snapAt r).bFrac = 0) ∧
      OnlyChanges [.devBus, .hifRest] s t := by
  have hexec : exec (.tkuBcntLoRead r) s = .next (s.tkuSnap r) := by
    change execTkuBcntLoRead r s = _
    rw [execTkuBcntLoRead, State.onBus_of_bus hbus, if_neg hr]
  refine ⟨_, hexec, ?_⟩
  rw [State.snapAt_tkuSnap]
  refine ⟨rfl, rfl, rfl, rfl, rfl, fun hB => ?_, fun hB => ?_, (execTkuBcntLoRead_keep r s hexec).among rfl⟩
  · have hshown : s.shownB = s.tku.domB := if_pos hB
    rw [← hshown]
    exact ⟨rfl, rfl, rfl⟩
  · have hshown : s.shownB = {} := if_neg hB
    rw [State.snapped, hshown]
    exact ⟨rfl, rfl, rfl⟩

/-! PF0's writes: increments (R387, R388, R730). -/

/-- The increment that a write of INC_HI forms with the staged fraction. -/
def DomClk.formed (x : DomClk) (v : Word) : Nat := v.toNat % 256 * 2 ^ 32 + x.staged.getD (x.inc % 2 ^ 32)

theorem State.modDom_frame (s : State) (d : Domain) (f : DomClk → DomClk) : Keep 0x8000 s (s.modDom d f) :=
  Keep.modDom rfl (Keep.refl _ _)

theorem State.modDom_incRefused (s : State) (d : Domain) (f : DomClk → DomClk) :
    (s.modDom d f).tku.incRefused = s.tku.incRefused := by cases d <;> rfl

theorem tkuIncLoWrite_completes {d : Domain} {s : State} (v : Word) (hbus : s.bus .pf0) (hdom : s.domOn d) :
    ∃ t, exec (.tkuIncLoWrite .pf0 d v) s = .next t ∧
      (t.dom d).staged = some v.toNat ∧ (t.dom d).inc = (s.dom d).inc ∧ OnlyChanges [.tku] s t := by
  have hexec : exec (.tkuIncLoWrite .pf0 d v) s = .next (s.modDom d fun x => { x with staged := some v.toNat }) := by
    change execTkuIncLoWrite .pf0 d v s = _
    rw [execTkuIncLoWrite, State.tkuWrite_pf0 hbus, State.incLo, if_pos hdom]
  refine ⟨_, hexec, ?_, ?_, (s.modDom_frame d _).among rfl⟩
  · rw [State.dom_modDom_self]
  · rw [State.dom_modDom_self]

/-- The state with an increment committed for the next tick. -/
def State.incCommitted (s : State) (d : Domain) (n : Nat) : State := s.modDom d fun x => { x with staged := none, incNext := some n }

/-- The state with an increment refused: the fraction is no longer staged. -/
def State.incDeclined (s : State) (d : Domain) : State :=
  let u := s.modDom d fun x => { x with staged := none }
  { u with tku := { u.tku with incRefused := true } }

theorem State.dom_incDeclined (s : State) (d : Domain) : (s.incDeclined d).dom d = { s.dom d with staged := none } := by
  cases d <;> rfl

theorem State.incHi_of_ok {s : State} {d : Domain} {v : Word} (hdom : s.domOn d) (hn : incOk ((s.dom d).formed v)) :
    s.incHi d v = s.incCommitted d ((s.dom d).formed v) := by
  rw [State.incHi, if_pos hdom]
  exact if_pos hn

theorem State.incHi_of_bad {s : State} {d : Domain} {v : Word} (hdom : s.domOn d) (hn : ¬incOk ((s.dom d).formed v)) :
    s.incHi d v = s.incDeclined d := by
  rw [State.incHi, if_pos hdom]
  exact if_neg hn

theorem tkuIncHiWrite_completes {d : Domain} {s : State} (v : Word) (hbus : s.bus .pf0) (hdom : s.domOn d) :
    ∃ t, exec (.tkuIncHiWrite .pf0 d v) s = .next t ∧
      (t.dom d).inc = (s.dom d).inc ∧ (t.dom d).staged = none ∧ OnlyChanges [.tku] s t ∧
      (∀ n, n = v.toNat % 256 * 2 ^ 32 + (s.dom d).staged.getD ((s.dom d).inc % 2 ^ 32) →
        (0x019930BE0E ≤ n → n ≤ 0x019A027526 → (t.dom d).incNext = some n ∧ t.tku.incRefused = s.tku.incRefused) ∧
        (n < 0x019930BE0E ∨ 0x019A027526 < n → (t.dom d).incNext = (s.dom d).incNext ∧ t.tku.incRefused = true)) := by
  have hexec : exec (.tkuIncHiWrite .pf0 d v) s = .next (s.incHi d v) := by
    change execTkuIncHiWrite .pf0 d v s = _
    rw [execTkuIncHiWrite, State.tkuWrite_pf0 hbus]
  have hrange : incOk ((s.dom d).formed v) ↔ 0x019930BE0E ≤ (s.dom d).formed v ∧ (s.dom d).formed v ≤ 0x019A027526 :=
    decide_eq_true_iff
  by_cases hn : incOk ((s.dom d).formed v)
  · have hdomt : (s.incCommitted d ((s.dom d).formed v)).dom d =
      { s.dom d with staged := none, incNext := some ((s.dom d).formed v) } := State.dom_modDom_self ..
    rw [State.incHi_of_ok hdom hn] at hexec
    refine ⟨_, hexec, ?_, ?_, (s.modDom_frame d _).among rfl, ?_⟩
    · rw [hdomt]
    · rw [hdomt]
    rintro n rfl
    refine ⟨fun _ _ => ⟨?_, s.modDom_incRefused d _⟩, fun hout => ?_⟩
    · rw [hdomt]
      rfl
    · obtain ⟨hlow, hhigh⟩ := hrange.1 hn
      exact absurd hout (not_or.2 ⟨Nat.not_lt.2 hlow, Nat.not_lt.2 hhigh⟩)
  · rw [State.incHi_of_bad hdom hn] at hexec
    refine ⟨_, hexec, ?_, ?_, (Keep.set_tku rfl (s.modDom_frame d _)).among rfl, ?_⟩
    · rw [State.dom_incDeclined]
    · rw [State.dom_incDeclined]
    rintro n rfl
    refine ⟨fun hlow hhigh => absurd (hrange.2 ⟨hlow, hhigh⟩) hn, fun _ => ⟨?_, rfl⟩⟩
    rw [State.dom_incDeclined]

/-! PF0's writes: steps, the domain, flags (R389, R393, R394, R397, R731, R742). -/

/-- The state with a step committed. -/
def State.stepCommitted (s : State) (a b : Bool) : State :=
  { s with tku := { s.tku with gos := s.tku.gos ++ [(a, b, s.tku.stepSec.toInt, s.tku.stepNs.toInt)] } }

theorem State.stepGo_a (s : State) : s.stepGo true false = s.stepCommitted true false := rfl

theorem State.stepGo_b {s : State} (hB : s.domBOn) (a : Bool) : s.stepGo a true = s.stepCommitted a true := by
  simp [State.stepGo, State.stepCommitted, hB]

theorem tkuStepGoA_completes {s : State} (hbus : s.bus .pf0) : ∃ t, exec (.tkuStepGoA .pf0) s = .next t ∧
    t.tku.gos = s.tku.gos ++ [(true, false, s.tku.stepSec.toInt, s.tku.stepNs.toInt)] ∧ OnlyChanges [.tku] s t := by
  have hexec : exec (.tkuStepGoA .pf0) s = .next (s.stepCommitted true false) := by
    change execTkuStepGoA .pf0 s = _
    rw [execTkuStepGoA, State.tkuWrite_pf0 hbus, State.stepGo_a]
  exact ⟨_, hexec, rfl, (Keep.set_tku (m := 0x8000) rfl (Keep.refl _ _)).among rfl⟩

theorem tkuStepGoB_completes {s : State} (both : Bool) (hbus : s.bus .pf0) (hB : s.domBOn) :
    ∃ t, exec (.tkuStepGoB .pf0 both) s = .next t ∧
      t.tku.gos = s.tku.gos ++ [(both, true, s.tku.stepSec.toInt, s.tku.stepNs.toInt)] ∧ OnlyChanges [.tku] s t := by
  have hexec : exec (.tkuStepGoB .pf0 both) s = .next (s.stepCommitted both true) := by
    change execTkuStepGoB .pf0 both s = _
    rw [execTkuStepGoB, State.tkuWrite_pf0 hbus, State.stepGo_b hB]
  exact ⟨_, hexec, rfl, (Keep.set_tku (m := 0x8000) rfl (Keep.refl _ _)).among rfl⟩

theorem tkuDomSelWrite_completes {s : State} {v : Word} (hbus : s.bus .pf0) (hB : v.getLsbD 0 → s.domBOn) :
    ∃ t, exec (.tkuDomSelWrite .pf0 v) s = .next t ∧
      t.tku.selNext = some (if v.getLsbD 0 then .b else .a) ∧ t.tku.sel = s.tku.sel ∧ OnlyChanges [.tku] s t := by
  have hexec : exec (.tkuDomSelWrite .pf0 v) s =
      .next { s with tku := { s.tku with selNext := some (if v.getLsbD 0 then .b else .a) } } := by
    change execTkuDomSelWrite .pf0 v s = _
    rw [execTkuDomSelWrite, State.tkuWrite_pf0 hbus, State.domSelWrite, if_neg]
    rintro ⟨hbit, hoff⟩
    rw [hB hbit] at hoff
    cases hoff
  exact ⟨_, hexec, rfl, rfl, (Keep.set_tku (m := 0x8000) rfl (Keep.refl _ _)).among rfl⟩

theorem tkuStatusClear_completes {s : State} (v now : Word) (hbus : s.bus .pf0) :
    ∃ t, exec (.tkuStatusClear .pf0 v now) s = .next t ∧
      t.tku.domA.disc = ((s.tku.domA.disc && !v.getLsbD 0) || now.getLsbD 0) ∧
      (s.domBOn → t.tku.domB.disc = ((s.tku.domB.disc && !v.getLsbD 1) || now.getLsbD 1)) ∧
      t.tku.heldFlag = ((s.tku.heldFlag && !v.getLsbD 2) || now.getLsbD 2) ∧
      t.tku.stepRefused = ((s.tku.stepRefused && !v.getLsbD 3) || now.getLsbD 3) ∧
      t.tku.incRefused = ((s.tku.incRefused && !v.getLsbD 4) || now.getLsbD 4) ∧ OnlyChanges [.tku] s t := by
  have hexec : exec (.tkuStatusClear .pf0 v now) s = .next (s.tkuStatusWrite v now) := by
    change execTkuStatusClear .pf0 v now s = _
    rw [execTkuStatusClear, State.tkuWrite_pf0 hbus]
  refine ⟨_, hexec, rfl, fun hB => ?_, rfl, rfl, rfl, (Keep.set_tku (m := 0x8000) rfl (Keep.refl _ _)).among rfl⟩
  exact congrArg DomClk.disc (if_pos hB)

/-! PF1's writes are discarded (R395, R474, R475). -/

theorem State.sticky_errSet (s : State) (r q : Requester) (bit : Nat) :
    (s.errSet r bit).sticky q = if q = r then s.sticky r ||| BitVec.twoPow 17 bit else s.sticky q := by
  refine (tget_tset (d := fun _ => (0 : BitVec 17)) ..).trans ?_
  by_cases h : q = r
  · rw [if_pos h, if_pos (congrArg _ h)]
  · rw [if_neg h, if_neg fun e => h (Requester.num_inj e)]
    rfl

theorem Keep.sticky_eq {m : Nat} {s t : State} (h : Keep m s t) (hm : m.testBit 14 = false) (r : Requester) :
    t.sticky r = s.sticky r :=
  congrArg (fun x : Err => tget x.sticky (fun _ => 0) r.num) (h.1 .err hm).symm

/-- A discarded write of PF1 counts, and sets WRITE_DISCARDED in its error summary (R475, R733). -/
theorem State.discardWrite_pf1 (s : State) : (s.discardWrite .pf1).tku = s.tku ∧
    (s.discardWrite .pf1).hif.discarded = s.hif.discarded + 1 ∧ ((s.discardWrite .pf1).sticky .pf1).getLsbD 15 = true ∧
    OnlyChanges [.evRaised, .evQueue, .icu, .hifL1, .hifRest, .err, .pmcCtr] s (s.discardWrite .pf1) := by
  refine ⟨State.discardWrite_tku .., ?_, ?_, (s.discardWrite_frame .pf1).among rfl⟩
  · exact (State.settleIcuOf_frame ..).hif_eq rfl Hif.discarded fun _ => rfl
  · unfold State.discardWrite
    rw [(State.settleIcuOf_frame ..).sticky_eq rfl, State.sticky_errSet, if_pos rfl, BitVec.getLsbD_or, Bool.or_eq_true]
    exact .inr (by decide)

/-- The writes of the timekeeping registers. -/
inductive TkuWrite (r : Requester) : Instr → Prop
  | incLo (d : Domain) (v : Word) : TkuWrite r (.tkuIncLoWrite r d v)
  | incHi (d : Domain) (v : Word) : TkuWrite r (.tkuIncHiWrite r d v)
  | stepGoA : TkuWrite r (.tkuStepGoA r)
  | stepGoB (both : Bool) : TkuWrite r (.tkuStepGoB r both)
  | domSel (v : Word) : TkuWrite r (.tkuDomSelWrite r v)
  | status (v now : Word) : TkuWrite r (.tkuStatusClear r v now)

theorem TkuWrite.of_or {r : Requester} {c : Instr} (h : (∃ d v, c = .tkuIncLoWrite r d v) ∨ (∃ d v, c = .tkuIncHiWrite r d v) ∨
    c = .tkuStepGoA r ∨ (∃ b, c = .tkuStepGoB r b) ∨ (∃ v, c = .tkuDomSelWrite r v) ∨
    (∃ v now, c = .tkuStatusClear r v now)) :
    TkuWrite r c := by
  obtain ⟨d, v, rfl⟩ | ⟨d, v, rfl⟩ | rfl | ⟨b, rfl⟩ | ⟨v, rfl⟩ | ⟨v, now, rfl⟩ := h
  · exact .incLo d v
  · exact .incHi d v
  · exact .stepGoA
  · exact .stepGoB b
  · exact .domSel v
  · exact .status v now

/-- Each write hands its effect to `tkuWrite`. -/
theorem TkuWrite.exec_eq {r : Requester} {c : Instr} (h : TkuWrite r c) (s : State) : ∃ f, exec c s = .next (s.tkuWrite r f) := by
  cases h <;> exact ⟨_, rfl⟩

theorem TkuWrite.discarded {c : Instr} {s : State} (h : TkuWrite .pf1 c) (hbus : s.bus .pf1) : ∃ t, exec c s = .next t ∧
    t.tku = s.tku ∧ t.hif.discarded = s.hif.discarded + 1 ∧ (t.sticky .pf1).getLsbD 15 = true ∧
    OnlyChanges [.evRaised, .evQueue, .icu, .hifL1, .hifRest, .err, .pmcCtr] s t := by
  obtain ⟨f, hexec⟩ := h.exec_eq s
  rw [State.tkuWrite_pf1 hbus] at hexec
  exact ⟨_, hexec, s.discardWrite_pf1⟩

/-! The management port reaches no timekeeping register (R494). -/

theorem TkuWrite.ignored {c : Instr} (h : TkuWrite .mgt c) (s : State) : exec c s = .next s := by
  obtain ⟨f, hexec⟩ := h.exec_eq s
  rwa [State.tkuWrite_mgt] at hexec

theorem tkuBcntLoRead_mgt (s : State) : exec (.tkuBcntLoRead .mgt) s = .next s := congrArg Host.Outcome.next (ite_self s)

/-- Settles O1: PF0's accesses have one lemma each, the others' writes one for all. -/
theorem timekeepingRegistersComplete : Obligations.TimekeepingRegistersComplete :=
  ⟨⟨fun _ _ => tkuBcntLoRead_completes, fun _ v _ => tkuIncLoWrite_completes v, fun _ v _ => tkuIncHiWrite_completes v,
    fun _ => tkuStepGoA_completes, fun both _ => tkuStepGoB_completes both, fun _ _ => tkuDomSelWrite_completes,
    fun v now _ => tkuStatusClear_completes v now⟩,
    fun _ _ hc => (TkuWrite.of_or hc).discarded,
    fun _ s hc => hc.elim (fun h => h ▸ tkuBcntLoRead_mgt s) fun h => (TkuWrite.of_or h).ignored s⟩

end Sys2Proof.Machine
end

section
/-! PROOFS. Domain clocks and what takes effect at a BCNT tick (O28 and O29; R381, R383, R385, R388 to R392, R397). -/

namespace Sys2Proof.Machine

/-! The advance of a clock (R385). -/

/-- The time that a clock holds, in units of 2^-32 ns. -/
def DomClk.time (x : DomClk) : Nat := (x.sec * 1000000000 + x.ns) * 2 ^ 32 + x.frac

theorem DomClk.advance_in_range (x : DomClk) :
    x.advance.frac < 2 ^ 32 ∧ x.advance.ns < 1000000000 ∧ x.advance.sec < 2 ^ 48 :=
  ⟨Nat.mod_lt _ (by decide), Nat.mod_lt _ (by decide), Nat.mod_lt _ (by decide)⟩

/-- Seconds modulo 2^48 are time modulo 2^48 seconds. -/
theorem mod_seconds_modEq (sec ns frac : Nat) : ((sec % 2 ^ 48 * 1000000000 + ns) * 2 ^ 32 + frac) ≡
    ((sec * 1000000000 + ns) * 2 ^ 32 + frac) [MOD 2 ^ 48 * 1000000000 * 2 ^ 32] :=
  ((((Nat.mod_modEq sec (2 ^ 48)).mul_right' 1000000000).add_right ns).mul_right' (2 ^ 32)).add_right frac

/-- The increment is added, but for the seconds that wrap. -/
theorem DomClk.advance_time (x : DomClk) : x.advance.time ≡ x.time + x.inc [MOD 2 ^ 48 * 1000000000 * 2 ^ 32] := by
  have hfrac := Nat.div_add_mod (x.ns * 2 ^ 32 + x.frac + x.inc) (2 ^ 32)
  have hns := Nat.div_add_mod ((x.ns * 2 ^ 32 + x.frac + x.inc) / 2 ^ 32) 1000000000
  refine (mod_seconds_modEq ..).trans (congrArg (· % _) ?_)
  simp only [DomClk.time, DomClk.advance]
  omega

/-! A tick moves a clock's time and takes its increment; the rest of the clock stands. -/

section
variable (x : DomClk)

theorem DomClk.advance_inc : x.advance.inc = x.inc := by cases x; rfl
theorem DomClk.tick_setNext : x.tick.setNext = x.setNext := by cases x; rfl
theorem DomClk.tick_steps : x.tick.steps = x.steps := by cases x; rfl

end

/-! The parts of a tick. -/

/-- At the edge BCNT and domain A's clock advance. -/
def State.counted (s : State) : State := ({ s with tku := { s.tku with bcnt := s.tku.bcnt + 1 } }).modDom .a DomClk.tick

/-- At the edge BCNT and the clocks that run advance. -/
def State.advanced (s : State) : State := if s.domBOn then s.counted.modDom .b DomClk.tick else s.counted

/-- A SET of domain B's time takes effect where the domain runs. -/
def State.domSetB (s : State) : State := if s.domBOn then s.domSet .b else s

/-- What follows the committed step of a tick. -/
def State.tickRest (s : State) : State := ((s.domSet .a).domSetB.selectDomain.countTicks).pmcEvent 0x001 1

/-- A tick: the edge, the committed step, the rest. -/
theorem exec_bcntTick {s : State} (h : s.dev.refclk) : exec .bcntTick s = .next s.advanced.goStep.tickRest :=
  congrArg Host.Outcome.next (if_pos h)

section
variable (s : State)

theorem State.advanced_tku : s.advanced.tku = { s.tku with
    bcnt := s.tku.bcnt + 1, domA := s.tku.domA.tick, domB := if s.domBOn then s.tku.domB.tick else s.tku.domB } := by
  unfold State.advanced
  split
  · rfl
  · rfl

theorem State.advanced_domBOn : s.advanced.domBOn = s.domBOn := by
  unfold State.advanced
  split
  · rfl
  · rfl

theorem State.advanced_frame : Keep 0x8000 s s.advanced :=
  have hcounted : Keep 0x8000 s s.counted := Keep.modDom rfl (Keep.set_tku rfl (Keep.refl _ _))
  Keep.ite (Keep.modDom rfl hcounted) hcounted

variable {s}

theorem State.goStep_of_nil (h : s.tku.gos = []) : s.goStep = s := by
  rw [State.goStep, h]

theorem State.domSet_of_none {d : Domain} (h : (s.dom d).setNext = none) : s.domSet d = s := by
  rw [State.domSet, h]

theorem State.domSetB_of_off (h : s.domBOn = false) : s.domSetB = s := by
  rw [State.domSetB, h]
  rfl

theorem State.domSetB_of_none (h : s.tku.domB.setNext = none) : s.domSetB = s := by
  rw [State.domSetB, State.domSet_of_none (d := .b) h, ite_self]

/-- A SET of domain B's time touches no other field of the unit. -/
theorem State.domSetB_tku (s : State) : ∃ b, s.domSetB.tku = { s.tku with domB := b } := by
  unfold State.domSetB State.domSet
  split
  · split
    · exact ⟨_, rfl⟩
    · exact ⟨_, State.raise_tku ..⟩
  · exact ⟨_, rfl⟩

theorem State.selectDomain_tku (s : State) :
    s.selectDomain.tku = { s.tku with sel := s.tku.selNext.getD s.tku.sel, selNext := none } := by
  unfold State.selectDomain
  split
  · next h =>
    have hunchanged : s.tku = { s.tku with selNext := none } := by rw [← h]
    rw [h]
    exact hunchanged
  · next d h =>
    rw [h]
    dsimp only
    split
    · rfl
    · exact State.raise_tku ..

/-- The rest of a tick as timekeeping sees it. -/
theorem State.tickRest_tku (s : State) : s.tickRest.tku = (s.domSet .a).domSetB.selectDomain.tku :=
  ((State.pmcEvent_frame ..).1 .tku rfl).symm.trans ((State.countTicks_keep _ (k0 := 0x20000) rfl (Keep.refl _ _)).1 .tku rfl).symm

/-- The rest of a tick leaves all of the unit but domain B and the selection as the SET of domain A's time leaves it. -/
theorem State.tickRest_tku_of_set (s : State) :
    ∃ b sel, s.tickRest.tku = { (s.domSet .a).tku with domB := b, sel := sel, selNext := none } := by
  obtain ⟨b, hb⟩ := (s.domSet .a).domSetB_tku
  refine ⟨b, (s.domSet .a).tku.selNext.getD (s.domSet .a).tku.sel, ?_⟩
  rw [State.tickRest_tku, State.selectDomain_tku, hb]

theorem State.domSetB_frame (s : State) : Keep 0x8300 s s.domSetB :=
  Keep.ite (State.domSet_keep _ _ rfl (Keep.refl _ _)) (Keep.refl _ _)

theorem State.tickRest_frame (s : State) : Keep 0x20000028300 s s.tickRest :=
  State.pmcEvent_keep _ _ _ rfl (State.countTicks_keep _ rfl (State.selectDomain_keep _ rfl
    ((State.domSetB_frame _).step rfl (State.domSet_keep _ _ rfl (Keep.refl _ _)))))

end

/-! A tick at which no step and no time is due (R381, R385, R388, R397). -/

theorem DomClk.tick_of_none {x : DomClk} (h : x.incNext = none) : x.tick = x.advance := by
  rw [DomClk.tick, h]
  change DomClk.advance { x with incNext := none } = _
  rw [← h]

/-- Without a step and a SET of domain A, and without a SET of domain B where it runs. -/
theorem State.quietTick_tku {s : State} (hgos : s.tku.gos = []) (hA : s.tku.domA.setNext = none)
    (hB : s.domBOn = false ∨ s.tku.domB.setNext = none) : s.advanced.goStep.tickRest.tku = { s.tku with
      bcnt := s.tku.bcnt + 1, domA := s.tku.domA.tick, domB := if s.domBOn then s.tku.domB.tick else s.tku.domB
      sel := s.tku.selNext.getD s.tku.sel, selNext := none } := by
  have htku := s.advanced_tku
  have hgo : s.advanced.goStep = s.advanced := State.goStep_of_nil (by rw [htku]; exact hgos)
  have hsetA : s.advanced.domSet .a = s.advanced := State.domSet_of_none (by rw [State.dom, htku, DomClk.tick_setNext, hA])
  have hsetB : s.advanced.domSetB = s.advanced := by
    rcases hB with hoff | hnone
    · exact State.domSetB_of_off (s.advanced_domBOn.trans hoff)
    · refine State.domSetB_of_none ?_
      rw [htku]
      dsimp only
      split
      · rw [DomClk.tick_setNext, hnone]
      · exact hnone
  rw [hgo, State.tickRest_tku, hsetA, hsetB, State.selectDomain_tku, htku]

theorem bcntTick_advances : Completes .bcntTick
    (fun s => s.dev.refclk ∧ s.tku.gos = [] ∧ s.tku.domA.setNext = none ∧ s.tku.domA.incNext = none ∧
      s.tku.domB.setNext = none ∧ s.tku.domB.incNext = none)
    fun s t => t.tku.domA = s.tku.domA.advance ∧ (s.domBOn → t.tku.domB = s.tku.domB.advance) := by
  rintro s ⟨hclk, hgos, hsetA, hincA, hsetB, hincB⟩
  refine ⟨_, exec_bcntTick hclk, ?_⟩
  beta_reduce
  rw [State.quietTick_tku hgos hsetA (.inr hsetB)]
  exact ⟨DomClk.tick_of_none hincA, fun hB => (if_pos hB).trans (DomClk.tick_of_none hincB)⟩

/-- Settles O28, from the laws of the advance and the tick at which nothing else is due. -/
theorem domainClockAdvances : Obligations.DomainClockAdvances := by
  refine ⟨fun x => ?_, bcntTick_advances⟩
  obtain ⟨hfrac, hns, hsec⟩ := x.advance_in_range
  exact ⟨hfrac, hns, hsec, x.advance_inc, x.advance_time⟩

theorem bcntTick_quiet : Completes .bcntTick
    (fun s => s.dev.refclk ∧ s.tku.gos = [] ∧ s.tku.domA.setNext = none ∧ s.domBOn = false)
    (fun s t => t.tku.bcnt = s.tku.bcnt + 1 ∧ t.tku.domA = s.tku.domA.tick ∧ t.tku.domB = s.tku.domB ∧
      t.tku.sel = s.tku.selNext.getD s.tku.sel) := by
  rintro s ⟨hclk, hgos, hsetA, hoff⟩
  refine ⟨_, exec_bcntTick hclk, ?_⟩
  beta_reduce
  rw [State.quietTick_tku hgos hsetA (.inl hoff), hoff]
  exact ⟨rfl, rfl, rfl, rfl⟩

/-- Without LANE_REFCLK there is no edge (R383). -/
theorem bcntTick_held : Completes .bcntTick (fun s => s.dev.refclk = false) (fun s t => t = s) := fun _ hclk =>
  ⟨_, congrArg Host.Outcome.next (if_neg (by simp [hclk])), rfl⟩

/-! A committed step of domain A (R389, R391, R731). -/

/-- The state at the edge with the first committed step taken. -/
def State.stepTaken (s : State) (r : List (Bool × Bool × Int × Int)) : State :=
  { s.advanced with tku := { s.advanced.tku with gos := r } }

/-- A clock stepped to `n` nanoseconds. -/
def DomClk.steppedTo (x : DomClk) (n : Nat) : DomClk := { x.mark with sec := n / 1000000000, ns := n % 1000000000 }

theorem DomClk.steppedTo_steps (x : DomClk) (n : Nat) : (x.steppedTo n).steps = (x.steps + 1) % 2 ^ 32 := rfl
theorem DomClk.steppedTo_frac (x : DomClk) (n : Nat) : (x.steppedTo n).frac = x.frac := rfl
theorem DomClk.steppedTo_setNext (x : DomClk) (n : Nat) : (x.steppedTo n).setNext = x.setNext := rfl

/-- The state with domain A stepped to `n` nanoseconds. -/
def State.steppedTo (s : State) (n : Nat) : State := s.modDom .a fun x => x.steppedTo n

section
variable {s : State} {sec ns : Int} {r : List (Bool × Bool × Int × Int)}

theorem State.stepTaken_tku : (s.stepTaken r).tku = { s.tku with
    bcnt := s.tku.bcnt + 1, domA := s.tku.domA.tick, domB := if s.domBOn then s.tku.domB.tick else s.tku.domB, gos := r } := by
  rw [State.stepTaken, State.advanced_tku]

theorem State.goStep_advanced (hgos : s.tku.gos = (true, false, sec, ns) :: r) :
    s.advanced.goStep = (s.stepTaken r).domStep .a sec ns := by
  have hadv : s.advanced.tku.gos = (true, false, sec, ns) :: r := by rw [State.advanced_tku]; exact hgos
  rw [State.goStep, hadv]
  rfl

theorem State.dom_stepTaken : (s.stepTaken r).dom .a = s.tku.domA.tick := by rw [State.dom, State.stepTaken_tku]

theorem State.domStep_of_refused (h : stepTotal s.tku.domA.tick sec ns = none) : (s.stepTaken r).domStep .a sec ns =
    { s.stepTaken r with tku := { (s.stepTaken r).tku with stepRefused := true } } := by
  rw [State.domStep, State.dom_stepTaken, h]

theorem State.domStep_of_total {n : Nat} (h : stepTotal s.tku.domA.tick sec ns = some n) :
    (s.stepTaken r).domStep .a sec ns =
      ((s.stepTaken r).steppedTo n).raise evTkuStep (stepWords .a sec ns ((s.tku.domA.steps + 1) % 2 ^ 32)) := by
  have hsteps : (((s.stepTaken r).steppedTo n).dom .a).steps = (s.tku.domA.steps + 1) % 2 ^ 32 := by
    rw [State.steppedTo, State.dom_modDom_self, State.dom_stepTaken, DomClk.steppedTo_steps, DomClk.tick_steps]
  rw [State.domStep, State.dom_stepTaken, h, ← hsteps]
  rfl

/-- Where no SET of domain A is due, a step leaves none due. -/
theorem State.tickRest_tku_of_unset {u : State} (h : u.tku.domA.setNext = none) :
    ∃ b sel, u.tickRest.tku = { u.tku with domB := b, sel := sel, selNext := none } := by
  have hset : u.domSet .a = u := State.domSet_of_none h
  obtain ⟨b, sel, htku⟩ := u.tickRest_tku_of_set
  exact ⟨b, sel, htku.trans (by rw [hset])⟩

end

theorem bcntTick_steps (sec ns : Int) (r : List (Bool × Bool × Int × Int)) (n : Nat) : Completes .bcntTick
    (fun s => s.dev.refclk ∧ s.tku.gos = (true, false, sec, ns) :: r ∧ s.tku.domA.setNext = none ∧
      stepTotal s.tku.domA.tick sec ns = some n ∧ s.hears)
    (fun s t => t.tku.bcnt = s.tku.bcnt + 1 ∧ t.tku.gos = r ∧ t.tku.domA.sec = n / 1000000000 ∧
      t.tku.domA.ns = n % 1000000000 ∧ t.tku.domA.frac = s.tku.domA.tick.frac ∧ t.tku.domA.unset = false ∧
      t.tku.domA.disc = true ∧ t.tku.domA.steps = (s.tku.domA.steps + 1) % 2 ^ 32 ∧
      ({ code := evTkuStep, bcnt := s.tku.bcnt + 1, data := stepWords .a sec ns ((s.tku.domA.steps + 1) % 2 ^ 32) } : Ev) ∈
        t.ev.raised) := by
  rintro s ⟨hclk, hgos, hset, htotal, hears⟩
  have hstep := (State.goStep_advanced hgos).trans (State.domStep_of_total htotal)
  have hstepped : ((s.stepTaken r).steppedTo n).tku = { (s.stepTaken r).tku with domA := s.tku.domA.tick.steppedTo n } := by
    rw [← State.dom_stepTaken (r := r)]
    rfl
  have hgo : s.advanced.goStep.tku = { (s.stepTaken r).tku with domA := s.tku.domA.tick.steppedTo n } := by
    rw [hstep, State.raise_tku, hstepped]
  obtain ⟨b, sel, htku⟩ := State.tickRest_tku_of_unset (u := s.advanced.goStep)
    (by rw [hgo, DomClk.steppedTo_setNext, DomClk.tick_setNext, hset])
  have hdomA : s.advanced.goStep.tickRest.tku.domA = s.tku.domA.tick.steppedTo n := by rw [htku, hgo]
  have hraises : Raises ((s.stepTaken r).steppedTo n) s.advanced.goStep.tickRest evTkuStep
      (stepWords .a sec ns ((s.tku.domA.steps + 1) % 2 ^ 32)) := by
    have hheard : ((s.stepTaken r).steppedTo n).hears := s.advanced_frame.hears rfl hears
    have hrest := s.advanced.goStep.tickRest_frame
    rw [hstep] at hrest ⊢
    exact Raises.of_keep hheard (Keep.refl 0 _) rfl hrest rfl
  obtain ⟨-, hmem⟩ := hraises
  rw [hstepped, State.stepTaken_tku] at hmem
  refine ⟨_, exec_bcntTick hclk, ?_⟩
  beta_reduce
  rw [hdomA, DomClk.steppedTo_frac, DomClk.steppedTo_steps, DomClk.tick_steps, htku, hgo, State.stepTaken_tku]
  exact ⟨rfl, rfl, rfl, rfl, rfl, rfl, rfl, rfl, hmem⟩

theorem bcntTick_refuses (sec ns : Int) (r : List (Bool × Bool × Int × Int)) : Completes .bcntTick
    (fun s => s.dev.refclk ∧ s.tku.gos = (true, false, sec, ns) :: r ∧ s.tku.domA.setNext = none ∧
      stepTotal s.tku.domA.tick sec ns = none)
    (fun s t => t.tku.gos = r ∧ t.tku.domA = s.tku.domA.tick ∧ t.tku.stepRefused = true) := by
  rintro s ⟨hclk, hgos, hset, htotal⟩
  have hgo : s.advanced.goStep.tku = { (s.stepTaken r).tku with stepRefused := true } := by
    rw [State.goStep_advanced hgos, State.domStep_of_refused htotal]
  rw [State.stepTaken_tku] at hgo
  obtain ⟨b, sel, htku⟩ := State.tickRest_tku_of_unset (u := s.advanced.goStep) (by rw [hgo, DomClk.tick_setNext, hset])
  refine ⟨_, exec_bcntTick hclk, ?_⟩
  beta_reduce
  rw [htku, hgo]
  exact ⟨rfl, rfl, rfl⟩

/-! A SET of domain A's time (R392). -/

/-- A clock set to a time. -/
def DomClk.setTo (x : DomClk) (sec ns : Nat) : DomClk := { x.mark with sec := sec, ns := ns, frac := 0, setNext := none }

theorem DomClk.setTo_steps (x : DomClk) (sec ns : Nat) : (x.setTo sec ns).steps = (x.steps + 1) % 2 ^ 32 := rfl

theorem State.domSet_tku {s : State} {sec ns : Nat} (h : s.tku.domA.setNext = some (sec, ns)) :
    (s.domSet .a).tku = { s.tku with domA := s.tku.domA.setTo sec ns } := by
  have hdom : (s.dom .a).setNext = some (sec, ns) := h
  rw [State.domSet, hdom]
  exact State.raise_tku ..

theorem bcntTick_sets (sec ns : Nat) : Completes .bcntTick
    (fun s => s.dev.refclk ∧ s.tku.gos = [] ∧ s.tku.domA.setNext = some (sec, ns))
    (fun s t => t.tku.domA.sec = sec ∧ t.tku.domA.ns = ns ∧ t.tku.domA.frac = 0 ∧ t.tku.domA.unset = false ∧
      t.tku.domA.disc = true ∧ t.tku.domA.steps = (s.tku.domA.steps + 1) % 2 ^ 32) := by
  rintro s ⟨hclk, hgos, hset⟩
  have hgo : s.advanced.goStep = s.advanced := State.goStep_of_nil (by rw [State.advanced_tku]; exact hgos)
  have hadvanced : s.advanced.tku.domA = s.tku.domA.tick := by rw [State.advanced_tku]
  have hsetA := State.domSet_tku (s := s.advanced) (by rw [hadvanced, DomClk.tick_setNext, hset])
  obtain ⟨b, sel, htku⟩ := s.advanced.tickRest_tku_of_set
  have hdomA : s.advanced.tickRest.tku.domA = s.tku.domA.tick.setTo sec ns := by rw [htku, hsetA, hadvanced]
  refine ⟨_, exec_bcntTick hclk, ?_⟩
  beta_reduce
  rw [hgo, hdomA, DomClk.setTo_steps, DomClk.tick_steps]
  exact ⟨rfl, rfl, rfl, rfl, rfl, rfl⟩

/-- Settles O29, from one lemma for each of its clauses. -/
theorem ticksComplete : Obligations.TicksComplete :=
  ⟨bcntTick_held, bcntTick_quiet, bcntTick_steps, bcntTick_refuses, bcntTick_sets⟩

end Sys2Proof.Machine
end

section
/-! PROOFS. What is raised while no pane switch holds events back (R658): it goes to the end of the raised list, and no event queue
changes. The mask 0x20000001900 names raised events, interrupt controllers, the link's L1 and the performance counters. -/

namespace Sys2Proof.Machine

section
variable {s u : State} (hears : s.hears)
include hears

theorem Keep.raise_heard (code : Nat) (data : List Word) (h : Keep 0x20000001900 s u) : Keep 0x20000001900 s (u.raise code data) := by
  have hu : u.eventsHeld = false := h.hears rfl hears
  rw [State.raise, if_neg (by simp [hu])]
  exact Keep.set_ev (.inl rfl) rfl (.inr rfl) (.inr (List.prefix_append ..)) h

theorem Keep.pmcAdd_heard (k n : Nat) (h : Keep 0x20000001900 s u) : Keep 0x20000001900 s (u.pmcAdd k n) := by
  unfold State.pmcAdd
  extract_lets c s1
  have hs1 : Keep 0x20000001900 s s1 := Keep.setPmc rfl (fun _ => Nat.le_refl _) h
  split
  · next hlt => exact Keep.setPmc rfl (fun _ => Nat.le_of_lt hlt) h
  · split
    · exact hs1
    · exact Keep.raise_heard hears _ _ hs1

theorem Keep.pmcEvent_heard (ev n : Nat) (h : Keep 0x20000001900 s u) : Keep 0x20000001900 s (u.pmcEvent ev n) :=
  Keep.foldl _ (fun _ k hk => Keep.pmcAdd_heard hears k n hk) h

theorem Keep.sendVec_heard (r : Requester) (v : Nat) (h : Keep 0x20000001900 s u) : Keep 0x20000001900 s (u.sendVec r v) := by
  unfold State.sendVec
  extract_lets x s1 hif
  have hs1 : Keep 0x20000001900 s s1 := Keep.modVec rfl h
  split
  · exact Keep.modVec rfl h
  · exact Keep.pmcEvent_heard hears _ _ (Keep.set_hif (.inl rfl) (.inr rfl) hs1)

theorem Keep.enterPending_heard (r : Requester) (src : Nat) (h : Keep 0x20000001900 s u) :
    Keep 0x20000001900 s (u.enterPending r src) := by
  unfold State.enterPending
  split
  · exact Keep.ite (Keep.modIcu rfl h) h
  · extract_lets v urgent s1 s2
    have hs1 : Keep 0x20000001900 s s1 := Keep.modVec rfl h
    have hs2 : Keep 0x20000001900 s s2 := Keep.ite h hs1
    exact Keep.ite (Keep.ite h (Keep.ite (Keep.sendVec_heard hears _ _ hs1) (Keep.modVec rfl hs1)))
      (Keep.ite (Keep.modIcu rfl hs2) hs2)

theorem Keep.level_heard (r : Requester) (src : Nat) (cond : Bool) (h : Keep 0x20000001900 s u) :
    Keep 0x20000001900 s (u.level r src cond) := by
  unfold State.level
  extract_lets now x s1 s2
  have hs1 : Keep 0x20000001900 s s1 := Keep.modSrc rfl h
  have hs2 : Keep 0x20000001900 s s2 := Keep.modSrc rfl h
  refine Keep.ite h (Keep.ite (Keep.ite (Keep.enterPending_heard hears _ _ (Keep.modSrc rfl hs1)) hs1) ?_)
  exact Keep.ite (Keep.modVec rfl (Keep.modSrc rfl hs2)) (Keep.ite (Keep.modIcu rfl hs2) hs2)

theorem Keep.settleIcu_heard (h : Keep 0x20000001900 s u) : Keep 0x20000001900 s u.settleIcu :=
  Keep.foldl _ (fun _ r hr => Keep.foldl _ (fun _ src hsrc => Keep.level_heard hears r src _ hsrc) hr) h

end

end Sys2Proof.Machine
end

section
/-! PROOFS. Events into the queues (O48, its first part; R398, R458, R499, R733). -/

namespace Sys2Proof.Machine

theorem Keep.queueAt_eq {m : Nat} {s t : State} (h : Keep m s t) (hm : m.testBit 9 = false) (r : Requester) :
    t.queueAt r = s.queueAt r :=
  congrArg (fun x : Tbl EvQueue => tget x (fun _ => {}) r.num) (h.1 .evQueue hm).symm

theorem Keep.log_eq {m : Nat} {s t : State} (h : Keep m s t) (hm : m.testBit 5 = false) : t.dev.log = s.dev.log :=
  (congrArg Dev.log (h.1 .devRest hm)).symm

/-! One queue. -/

/-- A queue after an event: first the EVT_LOST that is due, then the event's record where it has a place. -/
def EvQueue.deliver (q : EvQueue) (b : BitVec 64) (e : Ev) : EvQueue :=
  if (q.flushLost b).others < 960 ∧ (q.flushLost b).lost = 0 then (q.flushLost b).push e.code 0 e.bcnt e.data
  else (q.flushLost b).drop e.bcnt

theorem EvQueue.flushLost_of_not_due {q : EvQueue} (h : ¬(0 < q.lost ∧ q.others < 960)) (b : BitVec 64) :
    q.flushLost b = q := if_neg h

theorem EvQueue.deliver_of_room {q : EvQueue} (b : BitVec 64) (e : Ev) (hlost : q.lost = 0) (hroom : q.others < 960) :
    q.deliver b e = q.push e.code 0 e.bcnt e.data := by
  rw [EvQueue.deliver, EvQueue.flushLost_of_not_due (by omega), if_pos ⟨hroom, hlost⟩]

theorem EvQueue.deliver_of_full {q : EvQueue} (b : BitVec 64) (e : Ev) (hfull : 960 ≤ q.others) : q.deliver b e = q.drop e.bcnt := by
  rw [EvQueue.deliver, EvQueue.flushLost_of_not_due (by omega), if_neg (by omega)]

/-! The queues of the requesters. -/

section
variable {s : State}

theorem State.queueAt_pmcEvent (hears : s.hears) (ev n : Nat) (q : Requester) : (s.pmcEvent ev n).queueAt q = s.queueAt q :=
  (Keep.pmcEvent_heard hears ev n (Keep.refl _ _)).queueAt_eq rfl q

theorem State.queueAt_flushLost (hears : s.hears) (r q : Requester) : (s.flushLost r).queueAt q =
    if q = r then (s.queueAt r).flushLost s.tku.bcnt else s.queueAt q := by
  unfold State.flushLost
  split
  · rw [State.queueAt_pmcEvent (s := s.modQueue r _) hears, State.queueAt_modQueue]
  · next hdue =>
    rw [EvQueue.flushLost_of_not_due hdue]
    split
    · next h => rw [h]
    · rfl

theorem State.queueAt_deliverTo (hears : s.hears) (r : Requester) (e : Ev) (q : Requester) : (s.deliverTo r e).queueAt q =
    if q = r then (s.queueAt r).deliver s.tku.bcnt e else s.queueAt q := by
  have hflush : (s.flushLost r).hears := (s.flushLost_frame r).hears rfl hears
  have hqueue := State.queueAt_flushLost hears r
  have hself := (hqueue r).trans (if_pos rfl)
  unfold State.deliverTo
  dsimp only
  rw [EvQueue.deliver, ← hself]
  split
  · rw [State.queueAt_pmcEvent (s := (s.flushLost r).modQueue r _) hflush, State.queueAt_modQueue]
    split
    · rfl
    · next hq => exact (hqueue q).trans (if_neg hq)
  · have herr := State.errSet_frame ((s.flushLost r).modQueue r fun q => q.drop e.bcnt) r 13
    rw [State.queueAt_pmcEvent (herr.hears rfl hflush), herr.queueAt_eq rfl, State.queueAt_modQueue]
    split
    · rfl
    · next hq => exact (hqueue q).trans (if_neg hq)

/-- The record of an event goes to every requester (R499). -/
def State.delivered (s : State) (e : Ev) : State := requesters.foldl (fun s r => s.deliverTo r e) s

theorem State.delivered_frame (s : State) (e : Ev) : Keep 0x20000004300 s (s.delivered e) :=
  Keep.foldl _ (fun _ r h => State.deliverTo_keep _ r e rfl h) (Keep.refl _ _)

theorem State.queueAt_delivered (hears : s.hears) (e : Ev) (q : Requester) :
    (s.delivered e).queueAt q = (s.queueAt q).deliver s.tku.bcnt e := by
  have h0 : (s.deliverTo .pf0 e).hears := (s.deliverTo_frame .pf0 e).hears rfl hears
  have h1 : ((s.deliverTo .pf0 e).deliverTo .pf1 e).hears := (State.deliverTo_frame _ .pf1 e).hears rfl h0
  simp only [State.delivered, requesters, List.foldl_cons, List.foldl_nil, State.queueAt_deliverTo h1, State.queueAt_deliverTo h0,
    State.queueAt_deliverTo hears, State.deliverTo_tku]
  cases q with
  | pf0 => simp only [reduceCtorEq, if_true, if_false]
  | pf1 => simp only [reduceCtorEq, if_true, if_false]
  | mgt => simp only [reduceCtorEq, if_true, if_false]

/-! A record that is dropped sets EVT_LOST in the requester's error summary (R733). -/

theorem State.sticky_deliverTo_of_set {r q : Requester} {b : Nat} (e : Ev) (h : (s.sticky q).getLsbD b = true) :
    ((s.deliverTo r e).sticky q).getLsbD b = true := by
  have hflush := (s.flushLost_frame r).sticky_eq rfl q
  unfold State.deliverTo
  dsimp only
  split
  · rw [(State.pmcEvent_frame ..).sticky_eq rfl]
    exact hflush ▸ h
  · rw [(State.pmcEvent_frame ..).sticky_eq rfl, State.sticky_errSet]
    change (if q = r then (s.flushLost r).sticky r ||| _ else (s.flushLost r).sticky q).getLsbD b = true
    split
    · next hq =>
      subst hq
      rw [BitVec.getLsbD_or, hflush, h, Bool.true_or]
    · rw [hflush, h]

theorem State.sticky_deliverTo_of_full {r : Requester} (e : Ev) (hfull : 960 ≤ (s.queueAt r).others) :
    ((s.deliverTo r e).sticky r).getLsbD 13 = true := by
  have hflush : s.flushLost r = s := if_neg (by omega)
  rw [State.deliverTo, hflush, if_neg (by omega), (State.pmcEvent_frame ..).sticky_eq rfl, State.sticky_errSet, if_pos rfl,
    BitVec.getLsbD_or, Bool.or_eq_true]
  exact .inr (by decide)

theorem State.sticky_delivered_of_full (hears : s.hears) {r : Requester} (e : Ev) (hfull : 960 ≤ (s.queueAt r).others) :
    ((s.delivered e).sticky r).getLsbD 13 = true := by
  have hr : r ∈ requesters := by cases r <;> decide
  refine foldl_reaches (f := fun (u : State) q => u.deliverTo q e) (Q := fun u => u.hears ∧ 960 ≤ (u.queueAt r).others) hr
    (fun u q ⟨hu, hlen⟩ => ⟨(u.deliverTo_frame q e).hears rfl hu, ?_⟩)
    (fun u ⟨_, hlen⟩ => u.sticky_deliverTo_of_full e hlen)
    (fun u q hset => u.sticky_deliverTo_of_set e hset) ⟨hears, hfull⟩
  rw [State.queueAt_deliverTo hu]
  split
  · next hq =>
    subst hq
    rw [EvQueue.deliver_of_full _ _ hlen]
    exact hlen
  · exact hlen

/-! EVENT_RAISED. -/

/-- Firmware takes an event: it leaves the raised list for the log (R398). -/
def State.eventTaken (s : State) (i : Nat) (e : Ev) : State := { s with
  ev := { s.ev with raised := s.ev.raised.eraseIdx i }
  dev := { s.dev with log := s.dev.log ++ [LogRec.event e.code e.bcnt s.view] } }

theorem State.fwTakes_of {s : State} (hmode : s.dev.mode ≠ .startFailed) (hstep : s.dev.mode = .starting → 6 ≤ s.dev.step)
    (hears : s.hears) : s.fwTakes = true := by
  have hheld : s.eventsHeld = false := hears
  simpa [State.fwTakes, hheld, hmode] using imp_iff_not_or.1 hstep

theorem exec_eventRaised_of_takes {i : Nat} {e : Ev} (hraised : s.ev.raised[i]? = some e) (htakes : s.fwTakes = true) :
    exec (.eventRaised i) s = .next ((s.eventTaken i e).delivered e).settleIcu := by
  change execEventRaised i s = _
  rw [execEventRaised, hraised]
  exact congrArg Host.Outcome.next (if_pos htakes)

/-- A queue after EVENT_RAISED is the queue after the delivery. -/
theorem State.queueAt_recorded (hears : s.hears) (i : Nat) (e : Ev) (r : Requester) :
    ((s.eventTaken i e).delivered e).settleIcu.queueAt r = (s.queueAt r).deliver s.tku.bcnt e := by
  have htaken : (s.eventTaken i e).hears := hears
  have hdelivered : ((s.eventTaken i e).delivered e).hears := (State.delivered_frame _ e).hears rfl htaken
  rw [(Keep.settleIcu_heard hdelivered (Keep.refl _ _)).queueAt_eq rfl, State.queueAt_delivered htaken]
  rfl

end

theorem eventRaised_records (i : Nat) (e : Ev) : Completes (.eventRaised i)
    (fun s => s.ev.raised[i]? = some e ∧ s.dev.mode ≠ .startFailed ∧ (s.dev.mode = .starting → 6 ≤ s.dev.step) ∧ s.hears)
    fun s t => s.ev.raised.eraseIdx i <+: t.ev.raised ∧ t.dev.log = s.dev.log ++ [.event e.code e.bcnt s.view] ∧
      ∀ r, (s.queueAt r).lost = 0 → (s.queueAt r).others < 960 →
        (t.queueAt r).recs = (s.queueAt r).recs ++
          [{ code := e.code, flags := 0, bcnt := e.bcnt, qseq := (s.queueAt r).qseq, data := e.data }] ∧
        (t.queueAt r).qseq = (s.queueAt r).qseq + 1 ∧ (t.queueAt r).lost = 0 := by
  rintro s ⟨hraised, hmode, hstep, hears⟩
  have hframe := (State.settleIcu_frame _).step (m := 0x20000005B00) rfl
    (((s.eventTaken i e).delivered_frame e).step rfl (Keep.refl _ _))
  refine ⟨_, exec_eventRaised_of_takes hraised (State.fwTakes_of hmode hstep hears), hframe.1 .evTaken rfl,
    hframe.log_eq rfl, fun r hlost hroom => ?_⟩
  rw [State.queueAt_recorded hears, EvQueue.deliver_of_room _ _ hlost hroom]
  exact ⟨rfl, rfl, hlost⟩

theorem eventRaised_drops (i : Nat) (e : Ev) : Completes (.eventRaised i)
    (fun s => s.ev.raised[i]? = some e ∧ s.dev.mode ≠ .startFailed ∧ (s.dev.mode = .starting → 6 ≤ s.dev.step) ∧ s.hears)
    fun s t => ∀ r, 960 ≤ (s.queueAt r).others →
      (t.queueAt r).recs = (s.queueAt r).recs ∧ (t.queueAt r).lost = (s.queueAt r).lost + 1 ∧
        (t.queueAt r).lostLast = e.bcnt ∧ (t.sticky r).getLsbD 13 = true := by
  rintro s ⟨hraised, hmode, hstep, hears⟩
  refine ⟨_, exec_eventRaised_of_takes hraised (State.fwTakes_of hmode hstep hears), fun r hfull => ?_⟩
  rw [State.queueAt_recorded hears, EvQueue.deliver_of_full _ _ hfull, (State.settleIcu_frame _).sticky_eq rfl]
  exact ⟨rfl, rfl, rfl, State.sticky_delivered_of_full (s := s.eventTaken i e) hears e hfull⟩

theorem State.fwTakes_of_held {s : State} (h : s.dev.mode = .startFailed ∨ s.eventsHeld) : s.fwTakes = false := by
  rcases h with hmode | hheld
  · simp [State.fwTakes, hmode]
  · simp [State.fwTakes, hheld]

theorem eventRaised_held (i : Nat) : Completes (.eventRaised i) (fun s => s.dev.mode = .startFailed ∨ s.eventsHeld)
    fun s t => t = s := by
  intro s h
  refine ⟨s, ?_, rfl⟩
  change execEventRaised i s = _
  unfold execEventRaised
  split
  · rfl
  · exact congrArg Host.Outcome.next (if_neg (by rw [State.fwTakes_of_held h]; exact Bool.false_ne_true))

end Sys2Proof.Machine
end

section
/-! PROOFS. Messages of coalescing timers (O48, its second part; R507, R509, R510). -/

namespace Sys2Proof.Machine

section
variable {s : State} {r : Requester} {v : Nat}

theorem State.sendVec_of_masked (h : (s.vecAt r v).masked ∨ (s.icuAt r).funcMask) :
    s.sendVec r v = s.modVec r v fun x => { x with held := [], timer := false, pba := true } := if_pos h

theorem State.vecAt_sendVec_of_open (hvec : (s.vecAt r v).masked = false) (hfunc : (s.icuAt r).funcMask = false) :
    (s.sendVec r v).vecAt r v = { s.vecAt r v with held := [], timer := false, sent := (s.vecAt r v).sent + 1 } ∧
      (s.sendVec r v).hif.l1 = false := by
  rw [State.sendVec, if_neg (by simp [hvec, hfunc])]
  refine ⟨?_, State.pmcEvent_hif_l1 ..⟩
  rw [State.vecAt, State.icuAt, State.pmcEvent_icu]
  exact State.vecAt_modVec_self ..

theorem exec_coalescingTimerExpiry (hr : r ≠ .mgt) (hv : v < vectors r) (hd0 : s.dstate r = .d0) (htimer : (s.vecAt r v).timer)
    (hheld : (s.vecAt r v).held ≠ []) : exec (.coalescingTimerExpiry r v) s = .next (s.sendVec r v) :=
  congrArg Host.Outcome.next (if_pos ⟨hr, hv, hd0, htimer, hheld⟩)

end

theorem coalescingTimerExpiry_sends (r : Requester) (v : Nat) : Completes (.coalescingTimerExpiry r v)
    (fun s => r ≠ .mgt ∧ v < vectors r ∧ s.dstate r = .d0 ∧ (s.vecAt r v).timer ∧ (s.vecAt r v).held ≠ [] ∧
      (s.vecAt r v).masked = false ∧ (s.icuAt r).funcMask = false)
    fun s t => t.vecAt r v = { s.vecAt r v with held := [], timer := false, sent := (s.vecAt r v).sent + 1 } ∧ t.hif.l1 = false :=
  fun _ ⟨hr, hv, hd0, htimer, hheld, hvec, hfunc⟩ =>
    ⟨_, exec_coalescingTimerExpiry hr hv hd0 htimer hheld, State.vecAt_sendVec_of_open hvec hfunc⟩

theorem coalescingTimerExpiry_pends (r : Requester) (v : Nat) : Completes (.coalescingTimerExpiry r v)
    (fun s => r ≠ .mgt ∧ v < vectors r ∧ s.dstate r = .d0 ∧ (s.vecAt r v).timer ∧ (s.vecAt r v).held ≠ [] ∧
      ((s.vecAt r v).masked ∨ (s.icuAt r).funcMask))
    fun s t => t.vecAt r v = { s.vecAt r v with held := [], timer := false, pba := true } ∧ OnlyChanges [.icu] s t := by
  rintro s ⟨hr, hv, hd0, htimer, hheld, hmasked⟩
  refine ⟨_, exec_coalescingTimerExpiry hr hv hd0 htimer hheld, ?_⟩
  rw [State.sendVec_of_masked hmasked]
  exact ⟨State.vecAt_modVec_self .., (Keep.modVec (m := 0x800) rfl (Keep.refl _ _)).among rfl⟩

end Sys2Proof.Machine
end

section
/-! PROOFS. Records of DMA channels (O48, its last part; R483 to R487), and with them O48. -/

namespace Sys2Proof.Machine

/-! One channel. -/

theorem Dma.need_of_fits {d : Dma} {len : Nat} (h : d.head + len ≤ d.size) : d.need len = (len, 0) := by
  rw [Dma.need]
  exact if_neg (by omega)

theorem Dma.le_need (d : Dma) (len : Nat) : len ≤ (d.need len).1 := by
  unfold Dma.need
  extract_lets toEnd
  split
  · exact Nat.le_add_right ..
  · exact Nat.le_refl _

/-- The header of a record that stands at HEAD (R483). -/
def Dma.header (d : Dma) (q : DmaReady) (bad : List Nat) : DmaHdr :=
  { offset := d.head, type := q.src + 1, flags := dmaFlags (decide (0 < d.dropped)) q.flush q.late, length := dmaLength q.src
    bcnt := q.bcnt, sseq := q.sseq, rseq := d.records, dropped := d.dropped, bad := bad }

theorem Dma.push_of_fits {d : Dma} {q : DmaReady} (bad : List Nat) (h : d.head + dmaLength q.src ≤ d.size) : d.push q bad =
    { d with head := (d.head + dmaLength q.src) % d.size, records := (d.records + 1) % 2 ^ 32, dropped := 0
             last := [d.header q bad] } := by
  rw [Dma.push, Dma.need_of_fits h]
  rfl

/-! DMA_RECORD_WRITTEN. -/

section
variable {s : State} {ch src : Nat} {q : DmaReady}

/-- The state with a channel's data no longer ready. -/
def State.dataTaken (s : State) (q : DmaReady) : State := s.modHif fun x => { x with ready := x.ready.erase q }

theorem State.dataTaken_ready (h : s.hif.ready = [q]) : (s.dataTaken q).hif.ready = [] := by
  change s.hif.ready.erase q = []
  rw [h, List.erase_cons_head]

/-- The state in which the channel has read its data and written its record. -/
def State.recordPushed (s : State) (ch : Nat) (q : DmaReady) : State :=
  ((s.dataTaken q).pushReads q).1.modDma ch fun d => d.push q ((s.dataTaken q).pushReads q).2

theorem State.pushReads_of_good (h : s.mem.cond = []) (q : DmaReady) : s.pushReads q = (s, []) := by
  rw [State.pushReads, h]
  rfl

theorem State.dmaAt_recordPushed (s : State) (ch : Nat) (q : DmaReady) :
    (s.recordPushed ch q).dmaAt ch = (s.dmaAt ch).push q ((s.dataTaken q).pushReads q).2 := by
  have hreads : Keep 0x800020300 (s.dataTaken q) ((s.dataTaken q).pushReads q).1 := State.pushReads_keep _ q rfl (Keep.refl _ _)
  rw [State.recordPushed, State.dmaAt_modDma_self]
  congr 1
  exact hreads.hif_eq rfl (fun x => tget x.dma (fun _ => {}) ch) fun _ => rfl

theorem State.recordPushed_ready (h : s.hif.ready = [q]) (ch : Nat) : (s.recordPushed ch q).hif.ready = [] := by
  have hreads : Keep 0x800020300 (s.dataTaken q) ((s.dataTaken q).pushReads q).1 := State.pushReads_keep _ q rfl (Keep.refl _ _)
  exact (hreads.hif_eq rfl Hif.ready fun _ => rfl).trans (State.dataTaken_ready h)

section
variable (hready : s.hif.ready = [q]) (hch : q.ch = ch) (hsrc : q.src = src)
include hready hch hsrc

theorem find_ready : (s.hif.ready.find? fun q => q.ch == ch && q.src == src) = some q := by
  rw [hready, List.find?_cons_of_pos (by simp [hch, hsrc])]

theorem exec_dmaRecordWritten_of_may (hmay : s.dmaMay (s.dmaAt ch).owner)
    (hspace : ((s.dmaAt ch).need (dmaLength src)).1 ≤ (s.dmaAt ch).space) :
    ∃ t, exec (.dmaRecordWritten ch src) s = .next t ∧ Keep 0x20000001B00 (s.recordPushed ch q) t := by
  change ∃ t, execDmaRecordWritten ch src s = _ ∧ _
  rw [execDmaRecordWritten, find_ready hready hch hsrc]
  exact ⟨_, congrArg Host.Outcome.next (if_pos ⟨hmay, hspace⟩),
    State.edge_keep _ _ _ rfl (State.pmcEvent_keep _ _ _ rfl (State.pmcEvent_keep _ _ _ rfl (Keep.refl _ _)))⟩

theorem exec_dmaRecordWritten_of_not
    (h : ¬(s.dmaMay (s.dmaAt ch).owner ∧ ((s.dmaAt ch).need (dmaLength src)).1 ≤ (s.dmaAt ch).space)) :
    exec (.dmaRecordWritten ch src) s = .next ((s.dataTaken q).modDma ch Dma.dropOne) := by
  change execDmaRecordWritten ch src s = _
  rw [execDmaRecordWritten, find_ready hready hch hsrc]
  exact congrArg Host.Outcome.next (if_neg h)

end

theorem State.dmaMay_of {r : Requester} (hpf : s.dev.pfEnabled) (hlink : s.hif.linkUp) (hd0 : s.dstate r = .d0)
    (hbme : tget s.hif.bme (fun _ => true) r.num = true) : s.dmaMay r := by
  simp [State.dmaMay, hpf, hlink, hd0, hbme]

end

theorem dmaRecordWritten_writes (ch src : Nat) (q : DmaReady) : Completes (.dmaRecordWritten ch src)
    (fun s => s.hif.ready = [q] ∧ q.ch = ch ∧ q.src = src ∧ s.dev.pfEnabled ∧ s.hif.linkUp ∧
      s.dstate (s.dmaAt ch).owner = .d0 ∧ tget s.hif.bme (fun _ => true) (s.dmaAt ch).owner.num ∧ 0 < dmaLength src ∧
      (s.dmaAt ch).head + dmaLength src ≤ (s.dmaAt ch).size ∧ (s.dmaAt ch).head < (s.dmaAt ch).size ∧
      dmaLength src ≤ (s.dmaAt ch).space)
    fun s t => t.hif.ready = [] ∧ (t.dmaAt ch).head = ((s.dmaAt ch).head + dmaLength src) % (s.dmaAt ch).size ∧
      (t.dmaAt ch).records = ((s.dmaAt ch).records + 1) % 2 ^ 32 ∧ (t.dmaAt ch).dropped = 0 ∧
      ∃ bad, (s.mem.cond = [] → bad = []) ∧
      (t.dmaAt ch).last = [{ offset := (s.dmaAt ch).head, type := src + 1,
                             flags := dmaFlags (decide (0 < (s.dmaAt ch).dropped)) q.flush q.late, length := dmaLength src,
                             bcnt := q.bcnt, sseq := q.sseq, rseq := (s.dmaAt ch).records, dropped := (s.dmaAt ch).dropped, bad := bad }] := by
  rintro s ⟨hready, hch, rfl, hpf, hlink, hd0, hbme, -, hfits, -, hspace⟩
  obtain ⟨t, hexec, ht⟩ := exec_dmaRecordWritten_of_may hready hch rfl (State.dmaMay_of hpf hlink hd0 hbme)
    (by rw [Dma.need_of_fits hfits]; exact hspace)
  have hdma : t.dmaAt ch = _ := (ht.hif_eq rfl (fun x => tget x.dma (fun _ => {}) ch) fun _ => rfl).trans
    ((s.dmaAt_recordPushed ch q).trans (Dma.push_of_fits _ hfits))
  refine ⟨t, hexec, (ht.hif_eq rfl Hif.ready fun _ => rfl).trans (State.recordPushed_ready hready ch), ?_⟩
  rw [hdma]
  exact ⟨rfl, rfl, rfl, _, fun hgood => congrArg Prod.snd (State.pushReads_of_good (s := s.dataTaken q) hgood q), rfl⟩

theorem dmaRecordWritten_drops (ch src : Nat) (q : DmaReady) : Completes (.dmaRecordWritten ch src)
    (fun s => s.hif.ready = [q] ∧ q.ch = ch ∧ q.src = src ∧
      (s.hif.linkUp = false ∨ s.dstate (s.dmaAt ch).owner ≠ .d0 ∨ (s.dmaAt ch).space < dmaLength src))
    fun s t => t.hif.ready = [] ∧ (t.dmaAt ch).head = (s.dmaAt ch).head ∧ (t.dmaAt ch).gap = true ∧
      (t.dmaAt ch).dropped = (s.dmaAt ch).dropped + 1 ∧ (t.dmaAt ch).drops = min ((s.dmaAt ch).drops + 1) 0xFFFF ∧
      OnlyChanges [.hifRest] s t := by
  rintro s ⟨hready, hch, hsrc, hcannot⟩
  have hnot : ¬(s.dmaMay (s.dmaAt ch).owner ∧ ((s.dmaAt ch).need (dmaLength src)).1 ≤ (s.dmaAt ch).space) := by
    rintro ⟨hmay, hspace⟩
    simp only [State.dmaMay, Bool.and_eq_true, decide_eq_true_iff] at hmay
    obtain ⟨⟨⟨-, hlink⟩, hd0⟩, -⟩ := hmay
    rcases hcannot with hdown | hasleep | hfull
    · rw [hdown] at hlink
      cases hlink
    · exact hasleep hd0
    · exact absurd ((Dma.le_need _ _).trans hspace) (Nat.not_le.2 hfull)
  have hdma : ((s.dataTaken q).modDma ch Dma.dropOne).dmaAt ch = (s.dmaAt ch).dropOne := State.dmaAt_modDma_self ..
  refine ⟨_, exec_dmaRecordWritten_of_not hready hch hsrc hnot, State.dataTaken_ready hready, ?_⟩
  rw [hdma]
  have htaken : Keep 0x2000 s (s.dataTaken q) := Keep.set_hif (.inr rfl) (.inl rfl) (Keep.refl _ _)
  exact ⟨rfl, rfl, rfl, rfl, (Keep.modDma rfl htaken).among rfl⟩

/-- Settles O48, from one lemma for each of its clauses. -/
theorem deliveriesComplete : Obligations.DeliveriesComplete :=
  ⟨eventRaised_records, eventRaised_drops, eventRaised_held, coalescingTimerExpiry_sends, coalescingTimerExpiry_pends,
    dmaRecordWritten_writes, dmaRecordWritten_drops⟩

end Sys2Proof.Machine
end

section
/-! PROOFS. The whole block: steps take the queue in order (O57), the bounds of the stores hold at reset and after every step (O60, O59;
R456, R458, R532, R651, R668, R676), and every command keeps its frame (O58). -/

namespace Sys2Proof.Machine

/-! Steps. -/

theorem step_cons {s : State} {c : Instr} {cs : List Instr} (h : s.pending = c :: cs) :
    step s = exec c { s with pending := cs } := by
  simp [step, h]

theorem step_nil {s : State} (h : s.pending = []) : step s = .next s := by
  simp [step, h]

/-- Settles O57, by the two forms of the queue. -/
theorem stepsTakeTheQueueInOrder : Obligations.StepsTakeTheQueueInOrder :=
  ⟨fun _ _ _ => step_cons, fun _ => step_nil⟩

/-! Bounds. -/

/-- No bound looks at the queue of waiting commands. -/
theorem Bound.holds_withPending {b : Bound} {s : State} (cs : List Instr) (h : b.holds s) : b.holds { s with pending := cs } := by
  cases b <;> exact h

/-- Settles O59: the command at the front of the queue carries every bound over, and an idle step changes nothing. -/
theorem boundsAreKept : Obligations.BoundsAreKept := by
  intro s t hbounds hstep b
  match hqueue : s.pending with
  | [] =>
    rw [step_nil hqueue] at hstep
    exact Host.Outcome.next.inj hstep ▸ hbounds b
  | c :: cs =>
    rw [step_cons hqueue] at hstep
    exact (exec_keep c _ hstep).2 b (Bound.holds_withPending cs (hbounds b))

/-- Settles O60: every store is empty. -/
theorem boundsHoldAtReset : Obligations.BoundsHoldAtReset := by
  intro b
  cases b with
  | memory => exact rfl
  | queues => exact fun _ => Nat.zero_le _
  | outstanding => exact fun _ => Nat.zero_le _
  | repair => exact Nat.zero_le _
  | stats => exact List.forall_mem_nil _
  | counters => exact List.forall_mem_nil _
  | echo => exact Nat.zero_le _

/-! Frames. -/

/-- Settles O58: the frame of each command's meaning lies among the components that the command may change. -/
theorem commandsKeepTheirFrames : Obligations.CommandsKeepTheirFrames := by
  intro c s t hx
  cases c with dsimp only [mayChange]
  | registerWrite r off v whole => exact (execRegisterWrite_keep r off v whole s hx).among rfl
  | bar0WideRead r off dwords => exact (execBar0WideRead_keep r off dwords s hx).among rfl
  | readLoSnapshot r off => exact (execReadLoSnapshot_keep r off s hx).among rfl
  | tkuBcntLoRead r => exact (execTkuBcntLoRead_keep r s hx).among rfl
  | tkuIncLoWrite r d v => exact (execTkuIncLoWrite_keep r d v s hx).among rfl
  | tkuIncHiWrite r d v => exact (execTkuIncHiWrite_keep r d v s hx).among rfl
  | tkuStepGoA r => exact (execTkuStepGoA_keep r s hx).among rfl
  | tkuStepGoB r both => exact (execTkuStepGoB_keep r both s hx).among rfl
  | tkuDomSelWrite r v => exact (execTkuDomSelWrite_keep r v s hx).among rfl
  | tkuStatusClear r v now => exact (execTkuStatusClear_keep r v now s hx).among rfl
  | icuClaimRead r vec => exact (execIcuClaimRead_keep r vec s hx).among rfl
  | icuCompleteWrite r v => exact (execIcuCompleteWrite_keep r v s hx).among rfl
  | icuLevelRead r => exact (execIcuLevelRead_keep r s hx).among rfl
  | icuEnableWrite r v => exact (execIcuEnableWrite_keep r v s hx).among rfl
  | icuPmeCauseClear r v now => exact (execIcuPmeCauseClear_keep r v now s hx).among rfl
  | msixUnmask r vec => exact (execMsixUnmask_keep r vec s hx).among rfl
  | pmcValueLoRead r => exact (execPmcValueLoRead_keep r s hx).among rfl
  | pmcGroupLatchGo r => exact (execPmcGroupLatchGo_keep r s hx).among rfl
  | dmaTailWrite r ch v => exact (execDmaTailWrite_keep r ch v s hx).among rfl
  | dmaStatusClear r ch v now => exact (execDmaStatusClear_keep r ch v now s hx).among rfl
  | errStickyRead r now => exact (execErrStickyRead_keep r now s hx).among rfl
  | idErrRead r now => exact (execIdErrRead_keep r now s hx).among rfl
  | mgtMbxStatusRead n => exact (execMgtMbxStatusRead_keep n s hx).among rfl
  | mgtTransferDiscarded => exact (execMgtTransferDiscarded_keep s hx).among rfl
  | i3cDynamicAddress addr => exact (execI3cDynamicAddress_keep addr s hx).among rfl
  | i3cRstdaa => exact (execI3cRstdaa_keep s hx).among rfl
  | ibiDeclined => exact (execIbiDeclined_keep s hx).among rfl
  | bar2Read r off dwords ups => exact (execBar2Read_keep r off dwords ups s hx).among rfl
  | bar2Write r off bytes ups => exact (execBar2Write_keep r off bytes ups s hx).among rfl
  | echoEntryExpiry region addr => exact (execEchoEntryExpiry_keep region addr s hx).among rfl
  | repairCopyDone region => exact (execRepairCopyDone_keep region s hx).among rfl
  | marchTestDone region verdict => exact (execMarchTestDone_keep region verdict s hx).among rfl
  | repairRecordAppend => exact (execRepairRecordAppend_keep s hx).among rfl
  | refreshCommand die => exact (execRefreshCommand_keep die s hx).among rfl
  | vinValid vin straps => exact (execVinValid_keep vin straps s hx).among rfl
  | railInRegulation => exact (execRailInRegulation_keep s hx).among rfl
  | pgoodReleaseTimer => exact (execPgoodReleaseTimer_keep s hx).among rfl
  | fuseMapLoaded ok => exact (execFuseMapLoaded_keep ok s hx).among rfl
  | memoryFillDone ok => exact (execMemoryFillDone_keep ok s hx).among rfl
  | firmwareLoadDone ok => exact (execFirmwareLoadDone_keep ok s hx).among rfl
  | repairRecordApplied valid => exact (execRepairRecordApplied_keep valid s hx).among rfl
  | startUpComplete => exact (execStartUpComplete_keep s hx).among rfl
  | vinUndervoltage vin => exact (execVinUndervoltage_keep vin s hx).among rfl
  | vinPowerDown => exact (execVinPowerDown_keep s hx).among rfl
  | inputOvervoltage => exact (execInputOvervoltage_keep s hx).among rfl
  | enFall => exact (execEnFall_keep s hx).among rfl
  | enRise => exact (execEnRise_keep s hx).among rfl
  | sysRstNAct => exact (execSysRstNAct_keep s hx).among rfl
  | sysRstNRelease => exact (execSysRstNRelease_keep s hx).among rfl
  | railFault rail cause => exact (execRailFault_keep rail cause s hx).among rfl
  | railCurrentDwell rail current => exact (execRailCurrentDwell_keep rail current s hx).among rfl
  | backstopTrip => exact (execBackstopTrip_keep s hx).among rfl
  | laneRefclkAbsent => exact (execLaneRefclkAbsent_keep s hx).among rfl
  | laneRefclkPresent => exact (execLaneRefclkPresent_keep s hx).among rfl
  | perstNAssert => exact (execPerstNAssert_keep s hx).among rfl
  | functionLevelReset r => exact (execFunctionLevelReset_keep r s hx).among rfl
  | hotReset => exact (execHotReset_keep s hx).among rfl
  | linkDown => exact (execLinkDown_keep s hx).among rfl
  | linkUp speed width => exact (execLinkUp_keep speed width s hx).among rfl
  | enterD3hot r => exact (execEnterD3hot_keep r s hx).among rfl
  | enterD0 r => exact (execEnterD0_keep r s hx).among rfl
  | enterD3cold r => exact (execEnterD3cold_keep r s hx).among rfl
  | aspmL1Entry => exact (execAspmL1Entry_keep s hx).among rfl
  | tapTakeoverLoad op => exact (execTapTakeoverLoad_keep op s hx).among rfl
  | tapRelease => exact (execTapRelease_keep s hx).among rfl
  | eventRaised n => exact (execEventRaised_keep n s hx).among rfl
  | coalescingTimerExpiry r vec => exact (execCoalescingTimerExpiry_keep r vec s hx).among rfl
  | datapathPowered rates => exact (execDatapathPowered_keep rates s hx).among rfl
  | losAssert l => exact (execLosAssert_keep l s hx).among rfl
  | losClear l => exact (execLosClear_keep l s hx).among rfl
  | receiverPowerSettled l => exact (execReceiverPowerSettled_keep l s hx).among rfl
  | agcSettled l rms => exact (execAgcSettled_keep l s rms hx).among rfl
  | sliceCorrectionConverged l => exact (execSliceCorrectionConverged_keep l s hx).among rfl
  | timingRecoveryLocked l freq => exact (execTimingRecoveryLocked_keep l freq s hx).among rfl
  | ffeConverged l ups => exact (execFfeConverged_keep l s ups hx).among rfl
  | acquisitionTimeout l => exact (execAcquisitionTimeout_keep l s hx).among rfl
  | estimatePeriodEnd l q e rms => exact (execEstimatePeriodEnd_keep l q e rms s hx).among rfl
  | snrWindowEnd l snr => exact (execSnrWindowEnd_keep l snr s hx).among rfl
  | timingFrequencyOutOfRange l => exact (execTimingFrequencyOutOfRange_keep l s hx).among rfl
  | backgroundWindowEnd l rs ups => exact (execBackgroundWindowEnd_keep l rs ups s hx).among rfl
  | rotationStepStart l => exact (execRotationStepStart_keep l s hx).among rfl
  | shadowComparisonDone l ok => exact (execShadowComparisonDone_keep l ok s hx).among rfl
  | rotationSwitch l => exact (execRotationSwitch_keep l s hx).among rfl
  | transomCalibrationDone l ok => exact (execTransomCalibrationDone_keep l s ok hx).among rfl
  | captureStartCondition => exact (execCaptureStartCondition_keep s hx).among rfl
  | captureSegmentStart => exact (execCaptureSegmentStart_keep s hx).among rfl
  | captureSegmentDrained samples clips ecc => exact (execCaptureSegmentDrained_keep samples clips ecc s hx).among rfl
  | blockEntersFifo l codes => exact (execBlockEntersFifo_keep l s codes hx).among rfl
  | blockRelease l late ecc => exact (execBlockRelease_keep l late s ecc hx).among rfl
  | fifoWatermarkCrossed l => exact (execFifoWatermarkCrossed_keep l s hx).among rfl
  | fifoOverflow l => exact (execFifoOverflow_keep l s hx).among rfl
  | slackReport slack rates => exact (execSlackReport_keep slack rates s hx).among rfl
  | loweringDwellExpiry => exact (execLoweringDwellExpiry_keep s hx).among rfl
  | vcoreReductionAnnounced => exact (execVcoreReductionAnnounced_keep s hx).among rfl
  | vcoreStepSettled rates => exact (execVcoreStepSettled_keep rates s hx).among rfl
  | planBlockBoundary l => exact (execPlanBlockBoundary_keep l s hx).among rfl
  | raiseDwellExpiry => exact (execRaiseDwellExpiry_keep s hx).among rfl
  | swapStaged l => exact (execSwapStaged_keep l s hx).among rfl
  | shadowSettleEnd l ups => exact (execShadowSettleEnd_keep l s ups hx).among rfl
  | swapComparisonDone l live shadow => exact (execSwapComparisonDone_keep l live shadow s hx).among rfl
  | swapSwitch l => exact (execSwapSwitch_keep l s hx).among rfl
  | shadowReturn l => exact (execShadowReturn_keep l s hx).among rfl
  | coefficientPush l errs => exact (execCoefficientPush_keep l s errs hx).among rfl
  | shadowRefresh e => exact (execShadowRefresh_keep e s hx).among rfl
  | engineFault e cond => exact (execEngineFault_keep e cond s hx).among rfl
  | adaptEngineFault e cond => exact (execAdaptEngineFault_keep e cond s hx).among rfl
  | huntTestDone l hard rel skews => exact (execHuntTestDone_keep l hard rel skews s hx).among rfl
  | lockWindowEnd l zeros => exact (execLockWindowEnd_keep l zeros s hx).among rfl
  | innerCodewordDecode l ys after => exact (execInnerCodewordDecode_keep l ys after s hx).among rfl
  | rsCodewordDecode l r => exact (execRsCodewordDecode_keep l r s hx).among rfl
  | sdfPeriodEnd l syms => exact (execSdfPeriodEnd_keep l s syms hx).among rfl
  | fixedStageFault stage unit ns => exact (execFixedStageFault_keep stage unit ns s hx).among rfl
  | ltxSettingsApply l bits => exact (execLtxSettingsApply_keep l s bits hx).among rfl
  | swingStep l => exact (execSwingStep_keep l s hx).among rfl
  | dacSettled l => exact (execDacSettled_keep l s hx).among rfl
  | opticsReady l => exact (execOpticsReady_keep l s hx).among rfl
  | opticsSettleTimeout l => exact (execOpticsSettleTimeout_keep l s hx).among rfl
  | opticsRetryTimer l => exact (execOpticsRetryTimer_keep l s hx).among rfl
  | rampUpEnd l => exact (execRampUpEnd_keep l s hx).among rfl
  | rampDownEnd l => exact (execRampDownEnd_keep l s hx).among rfl
  | dacCellFailure l cell ns => exact (execDacCellFailure_keep l cell ns s hx).among rfl
  | opticsReleaseTimer l => exact (execOpticsReleaseTimer_keep l s hx).among rfl
  | axRampUpdate c => exact (execAxRampUpdate_keep c s hx).among rfl
  | monitorOutputSample c x sat => exact (execMonitorOutputSample_keep c x sat s hx).among rfl
  | loopUpdate n => exact (execLoopUpdate_keep n s hx).among rfl
  | axCoreFault c cause => exact (execAxCoreFault_keep c cause s hx).among rfl
  | axOutputStageFailure c => exact (execAxOutputStageFailure_keep c s hx).among rfl
  | handoverSwitch c => exact (execHandoverSwitch_keep c s hx).among rfl
  | coreCalibrationDone c => exact (execCoreCalibrationDone_keep c s hx).among rfl
  | pilotPacketStart l => exact (execPilotPacketStart_keep l s hx).among rfl
  | pilotPacketEnd l => exact (execPilotPacketEnd_keep l s hx).among rfl
  | beaconIntervalExpiry l => exact (execBeaconIntervalExpiry_keep l s hx).among rfl
  | syncDetection l m diff preamble => exact (execSyncDetection_keep l m diff preamble s hx).among rfl
  | headerDecoded l hdr => exact (execHeaderDecoded_keep l hdr s hx).among rfl
  | bodyDecoded l body plq subOff rateOff => exact (execBodyDecoded_keep l body plq subOff rateOff s hx).among rfl
  | peerTimeout l => exact (execPeerTimeout_keep l s hx).among rfl
  | hslSignalDetect h => exact (execHslSignalDetect_keep h s hx).among rfl
  | hslClockRecoveryLocked h freq => exact (execHslClockRecoveryLocked_keep h s freq hx).among rfl
  | trainingFrameLock h inverted => exact (execTrainingFrameLock_keep h inverted s hx).among rfl
  | trainingWaitExpiry h => exact (execTrainingWaitExpiry_keep h s hx).among rfl
  | trainingMeasurementDone h snr atLimit => exact (execTrainingMeasurementDone_keep h snr atLimit s hx).among rfl
  | partnerRequest h q => exact (execPartnerRequest_keep h q s hx).among rfl
  | trainingComplete h => exact (execTrainingComplete_keep h s hx).among rfl
  | trainingTimeout h => exact (execTrainingTimeout_keep h s hx).among rfl
  | hslEqualisationConverged h snrs ffe dfe => exact (execHslEqualisationConverged_keep h snrs s ffe dfe hx).among rfl
  | markerHuntDone h inverted res skew => exact (execMarkerHuntDone_keep h inverted res skew s hx).among rfl
  | signalLoss h => exact (execSignalLoss_keep h s hx).among rfl
  | hslSnrWindowEnd h snr freqOut => exact (execHslSnrWindowEnd_keep h snr freqOut s hx).among rfl
  | elasticBufferSlip h high => exact (execElasticBufferSlip_keep h high s hx).among rfl
  | amLockLoss h pcs => exact (execAmLockLoss_keep h pcs s hx).among rfl
  | hslPeriodEnd h snr offset lo hi ups rs errs => exact (execHslPeriodEnd_keep h snr offset lo hi s ups rs errs hx).among rfl
  | faultRecoveryTimer h => exact (execFaultRecoveryTimer_keep h s hx).among rfl
  | warmAcquisitionTimeout h => exact (execWarmAcquisitionTimeout_keep h s hx).among rfl
  | blockReceived p d hdr => exact (execBlockReceived_keep p d hdr s hx).among rfl
  | blockLockWindowEnd p d => exact (execBlockLockWindowEnd_keep p d s hx).among rfl
  | frameParsed p d f => exact (execFrameParsed_keep p d f s hx).among rfl
  | portStartTimeout p => exact (execPortStartTimeout_keep p s hx).among rfl
  | keyInsertion => exact (execKeyInsertion_keep s hx).among rfl
  | earlyDrainDone ecc => exact (execEarlyDrainDone_keep s ecc hx).among rfl
  | dumpIntervalExpiry delay kept => exact (execDumpIntervalExpiry_keep delay kept s hx).among rfl
  | dumpPassComplete ecc => exact (execDumpPassComplete_keep s ecc hx).among rfl
  | spareBankFillDone b => exact (execSpareBankFillDone_keep b s hx).among rfl
  | logMarkerTimer => exact (execLogMarkerTimer_keep s hx).among rfl
  | pmcDumpIntervalExpiry delay kept => exact (execPmcDumpIntervalExpiry_keep delay kept s hx).among rfl
  | pmcDumpWritten => exact (execPmcDumpWritten_keep s hx).among rfl
  | sampleIntervalExpiry e cat op steps seg => exact (execSampleIntervalExpiry_keep e cat op steps seg s hx).among rfl
  | dmaRecordWritten ch src => exact (execDmaRecordWritten_keep ch src s hx).among rfl
  | thermalReading conv mr4 => exact (execThermalReading_keep conv mr4 s hx).among rfl
  | calIntervalExpiry b => exact (execCalIntervalExpiry_keep b s hx).among rfl
  | calibrationRunStart b => exact (execCalibrationRunStart_keep b s hx).among rfl
  | measurementPairDone b x y => exact (execMeasurementPairDone_keep b x y s hx).among rfl
  | ltxCalStep l => exact (execLtxCalStep_keep l s hx).among rfl
  | monconvFrame => exact (execMonconvFrame_keep s hx).among rfl
  | calDueTimer b => exact (execCalDueTimer_keep b s hx).among rfl
  | targetedTestDone kind pass => exact (execTargetedTestDone_keep kind pass s hx).among rfl
  | testSliceStart b => exact (execTestSliceStart_keep b s hx).among rfl
  | sliceTestDone b pass => exact (execSliceTestDone_keep b pass s hx).among rfl
  | coverageTimer b => exact (execCoverageTimer_keep b s hx).among rfl
  | imageCheckDone kernel sigOk digestOk => exact (execImageCheckDone_keep kernel sigOk digestOk s hx).among rfl
  | fwImageWritten ok => exact (execFwImageWritten_keep ok s hx).among rfl
  | paneLoaded ok => exact (execPaneLoaded_keep ok s hx).among rfl
  | firmwareStateSaved => exact (execFirmwareStateSaved_keep s hx).among rfl
  | newPaneResumed => exact (execNewPaneResumed_keep s hx).among rfl
  | paneMarkedActive => exact (execPaneMarkedActive_keep s hx).among rfl
  | paneSwitchTimeout => exact (execPaneSwitchTimeout_keep s hx).among rfl
  | shutterFlushDone => exact (execShutterFlushDone_keep s hx).among rfl
  | shutterDeadlineExpiry => exact (execShutterDeadlineExpiry_keep s hx).among rfl
  | shutterLogSaved => exact (execShutterLogSaved_keep s hx).among rfl
  | shutterHoldEnd => exact (execShutterHoldEnd_keep s hx).among rfl
  | shutdownBistDone fails => exact (execShutdownBistDone_keep fails s hx).among rfl
  | shutterPowerDown => exact (execShutterPowerDown_keep s hx).among rfl
  | getDevMode m => exact (execGetDevMode_keep m s hx).among rfl
  | enterDevMode m => exact (execEnterDevMode_keep m s hx).among rfl
  | shutterDevMode m => exact (execShutterDevMode_keep m s hx).among rfl
  | enterLaneTest m => exact (execEnterLaneTest_keep m s hx).among rfl
  | leaveLaneTest m => exact (execLeaveLaneTest_keep m s hx).among rfl
  | getDevFeature m => exact (execGetDevFeature_keep m s hx).among rfl
  | negotiateDevFeature m => exact (execNegotiateDevFeature_keep m s hx).among rfl
  | receiveDevEvent m => exact (execReceiveDevEvent_keep m s hx).among rfl
  | getMbxStats m => exact (execGetMbxStats_keep m s hx).among rfl
  | clearMbxStats m => exact (execClearMbxStats_keep m s hx).among rfl
  | loadFwImage m => exact (execLoadFwImage_keep m s hx).among rfl
  | getFwImage m => exact (execGetFwImage_keep m s hx).among rfl
  | grantPf1Grant m => exact (execGrantPf1Grant_keep m s hx).among rfl
  | revokePf1Grant m => exact (execRevokePf1Grant_keep m s hx).among rfl
  | getPf1Grant m => exact (execGetPf1Grant_keep m s hx).among rfl
  | getLrxCfg m => exact (execGetLrxCfg_keep m s hx).among rfl
  | setLrxCfg m => exact (execSetLrxCfg_keep m s hx).among rfl
  | getLrxStatus m => exact (execGetLrxStatus_keep m s hx).among rfl
  | getLrxQuality m => exact (execGetLrxQuality_keep m s hx).among rfl
  | getLrxEstimate m => exact (execGetLrxEstimate_keep m s hx).among rfl
  | getLrxSlices m => exact (execGetLrxSlices_keep m s hx).among rfl
  | restartLrxAcq m => exact (execRestartLrxAcq_keep m s hx).among rfl
  | captureLrxCapture m => exact (execCaptureLrxCapture_keep m s hx).among rfl
  | abortLrxCapture m => exact (execAbortLrxCapture_keep m s hx).among rfl
  | getSeaPolicy m => exact (execGetSeaPolicy_keep m s hx).among rfl
  | setSeaPolicy m => exact (execSetSeaPolicy_keep m s hx).among rfl
  | getSeaHinge m => exact (execGetSeaHinge_keep m s hx).among rfl
  | setSeaHinge m => exact (execSetSeaHinge_keep m s hx).among rfl
  | getSeaPlacement m => exact (execGetSeaPlacement_keep m s hx).among rfl
  | getSeaEngines m => exact (execGetSeaEngines_keep m s hx).among rfl
  | getSeaKernel m => exact (execGetSeaKernel_keep m s hx).among rfl
  | loadSeaKernel m => exact (execLoadSeaKernel_keep m s hx).among rfl
  | selectSeaKernel m => exact (execSelectSeaKernel_keep m s hx).among rfl
  | getSeaKparam m => exact (execGetSeaKparam_keep m s hx).among rfl
  | setSeaKparam m => exact (execSetSeaKparam_keep m s hx).among rfl
  | getSdfCfg m => exact (execGetSdfCfg_keep m s hx).among rfl
  | setSdfCfg m => exact (execSetSdfCfg_keep m s hx).among rfl
  | getSdfStatus m => exact (execGetSdfStatus_keep m s hx).among rfl
  | getSdfStats m => exact (execGetSdfStats_keep m s hx).among rfl
  | getSdfDetector m => exact (execGetSdfDetector_keep m s hx).among rfl
  | restartSdfHunt m => exact (execRestartSdfHunt_keep m s hx).among rfl
  | getLtxCfg m => exact (execGetLtxCfg_keep m s hx).among rfl
  | setLtxCfg m => exact (execSetLtxCfg_keep m s hx).among rfl
  | getLtxStatus m => exact (execGetLtxStatus_keep m s hx).among rfl
  | squelchLtxOut m => exact (execSquelchLtxOut_keep m s hx).among rfl
  | releaseLtxOut m => exact (execReleaseLtxOut_keep m s hx).among rfl
  | getHslCfg m => exact (execGetHslCfg_keep m s hx).among rfl
  | setHslCfg m => exact (execSetHslCfg_keep m s hx).among rfl
  | getHslGroup m => exact (execGetHslGroup_keep m s hx).among rfl
  | setHslGroup m => exact (execSetHslGroup_keep m s hx).among rfl
  | getHslStatus m => exact (execGetHslStatus_keep m s hx).among rfl
  | getHslQuality m => exact (execGetHslQuality_keep m s hx).among rfl
  | restartHslTrain m => exact (execRestartHslTrain_keep m s hx).among rfl
  | getPfxBlocklock m => exact (execGetPfxBlocklock_keep m s hx).among rfl
  | getPortCfg m => exact (execGetPortCfg_keep m s hx).among rfl
  | setPortCfg m => exact (execSetPortCfg_keep m s hx).among rfl
  | deletePortCfg m => exact (execDeletePortCfg_keep m s hx).among rfl
  | startPort m => exact (execStartPort_keep m s hx).among rfl
  | stopPort m => exact (execStopPort_keep m s hx).among rfl
  | getPortStatus m => exact (execGetPortStatus_keep m s hx).among rfl
  | getPltCfg m => exact (execGetPltCfg_keep m s hx).among rfl
  | setPltCfg m => exact (execSetPltCfg_keep m s hx).among rfl
  | sendPltPacket m => exact (execSendPltPacket_keep m s hx).among rfl
  | receivePltPacket m => exact (execReceivePltPacket_keep m s hx).among rfl
  | getPltPeer m => exact (execGetPltPeer_keep m s hx).among rfl
  | setPltPeer m => exact (execSetPltPeer_keep m s hx).among rfl
  | getPltStatus m => exact (execGetPltStatus_keep m s hx).among rfl
  | getLexCfg m => exact (execGetLexCfg_keep m s hx).among rfl
  | setLexCfg m => exact (execSetLexCfg_keep m s hx).among rfl
  | getLexPort m => exact (execGetLexPort_keep m s hx).among rfl
  | setLexPort m => exact (execSetLexPort_keep m s hx).among rfl
  | getLexContext m => exact (execGetLexContext_keep m s hx).among rfl
  | insertLexContext m => exact (execInsertLexContext_keep m s hx).among rfl
  | deleteLexContext m => exact (execDeleteLexContext_keep m s hx).among rfl
  | flushLexDump m => exact (execFlushLexDump_keep m s hx).among rfl
  | getLexStats m => exact (execGetLexStats_keep m s hx).among rfl
  | getTkuDomain m => exact (execGetTkuDomain_keep m s hx).among rfl
  | setTkuDomain m => exact (execSetTkuDomain_keep m s hx).among rfl
  | getTkuPort m => exact (execGetTkuPort_keep m s hx).among rfl
  | setTkuPort m => exact (execSetTkuPort_keep m s hx).among rfl
  | getTkuStats m => exact (execGetTkuStats_keep m s hx).among rfl
  | getHifLink m => exact (execGetHifLink_keep m s hx).among rfl
  | getHifWindow m => exact (execGetHifWindow_keep m s hx).among rfl
  | setHifWindow m => exact (execSetHifWindow_keep m s hx).among rfl
  | getHifDma m => exact (execGetHifDma_keep m s hx).among rfl
  | setHifDma m => exact (execSetHifDma_keep m s hx).among rfl
  | getHifMgt m => exact (execGetHifMgt_keep m s hx).among rfl
  | getIcuEvent m => exact (execGetIcuEvent_keep m s hx).among rfl
  | setIcuEvent m => exact (execSetIcuEvent_keep m s hx).among rfl
  | getIcuMgt m => exact (execGetIcuMgt_keep m s hx).among rfl
  | setIcuMgt m => exact (execSetIcuMgt_keep m s hx).among rfl
  | getMemCfg m => exact (execGetMemCfg_keep m s hx).among rfl
  | setMemCfg m => exact (execSetMemCfg_keep m s hx).among rfl
  | getMemStatus m => exact (execGetMemStatus_keep m s hx).among rfl
  | getMemEcho m => exact (execGetMemEcho_keep m s hx).among rfl
  | getMemSpares m => exact (execGetMemSpares_keep m s hx).among rfl
  | getMemStats m => exact (execGetMemStats_keep m s hx).among rfl
  | getOcuAx m => exact (execGetOcuAx_keep m s hx).among rfl
  | setOcuAx m => exact (execSetOcuAx_keep m s hx).among rfl
  | getOcuCode m => exact (execGetOcuCode_keep m s hx).among rfl
  | setOcuCode m => exact (execSetOcuCode_keep m s hx).among rfl
  | getOcuMn m => exact (execGetOcuMn_keep m s hx).among rfl
  | setOcuMn m => exact (execSetOcuMn_keep m s hx).among rfl
  | getOcuLoop m => exact (execGetOcuLoop_keep m s hx).among rfl
  | setOcuLoop m => exact (execSetOcuLoop_keep m s hx).among rfl
  | getOcuLane m => exact (execGetOcuLane_keep m s hx).among rfl
  | getOcuStats m => exact (execGetOcuStats_keep m s hx).among rfl
  | getCalCfg m => exact (execGetCalCfg_keep m s hx).among rfl
  | setCalCfg m => exact (execSetCalCfg_keep m s hx).among rfl
  | getCalBlock m => exact (execGetCalBlock_keep m s hx).among rfl
  | runCalBlock m => exact (execRunCalBlock_keep m s hx).among rfl
  | clearCalBlock m => exact (execClearCalBlock_keep m s hx).among rfl
  | getThmCfg m => exact (execGetThmCfg_keep m s hx).among rfl
  | setThmCfg m => exact (execSetThmCfg_keep m s hx).among rfl
  | getThmSensor m => exact (execGetThmSensor_keep m s hx).among rfl
  | ackThmSensor m => exact (execAckThmSensor_keep m s hx).among rfl
  | getThmStatus m => exact (execGetThmStatus_keep m s hx).among rfl
  | clearThmStatus m => exact (execClearThmStatus_keep m s hx).among rfl
  | getFwPane m => exact (execGetFwPane_keep m s hx).among rfl
  | switchFwPane m => exact (execSwitchFwPane_keep m s hx).among rfl
  | getTstCfg m => exact (execGetTstCfg_keep m s hx).among rfl
  | setTstCfg m => exact (execSetTstCfg_keep m s hx).among rfl
  | getTstStatus m => exact (execGetTstStatus_keep m s hx).among rfl
  | getTstVerdicts m => exact (execGetTstVerdicts_keep m s hx).among rfl
  | getRepRecord m => exact (execGetRepRecord_keep m s hx).among rfl
  | getRelYields m => exact (execGetRelYields_keep m s hx).among rfl
  | getPmcCounter m => exact (execGetPmcCounter_keep m s hx).among rfl
  | setPmcCounter m => exact (execSetPmcCounter_keep m s hx).among rfl
  | clearPmcCounter m => exact (execClearPmcCounter_keep m s hx).among rfl
  | getPmcDump m => exact (execGetPmcDump_keep m s hx).among rfl
  | setPmcDump m => exact (execSetPmcDump_keep m s hx).among rfl
  | flushPmcDump m => exact (execFlushPmcDump_keep m s hx).among rfl
  | getPmcSample m => exact (execGetPmcSample_keep m s hx).among rfl
  | setPmcSample m => exact (execSetPmcSample_keep m s hx).among rfl
  | getPwrCfg m => exact (execGetPwrCfg_keep m s hx).among rfl
  | setPwrCfg m => exact (execSetPwrCfg_keep m s hx).among rfl
  | getPwrStatus m => exact (execGetPwrStatus_keep m s hx).among rfl
  | clearPwrStatus m => exact (execClearPwrStatus_keep m s hx).among rfl
  | getPwrRail m => exact (execGetPwrRail_keep m s hx).among rfl
  | bcntTick => exact (execBcntTick_keep s hx).among rfl
  | mbxDoorbellRing verb noun m => exact (execMbxDoorbellRing_keep verb noun m s hx).among rfl
  | amLockRegained h => exact (execAmLockRegained_keep h s hx).among rfl
  | perstNDeassert => exact (execPerstNDeassert_keep s hx).among rfl

end Sys2Proof.Machine
end

section
/-! PROOFS. GET on parameter sets and status nouns (O36; R69, R120, R171, R220, R246, R294, R318, R347, R378, R410, R449, R452, R581,
R602). -/

namespace Sys2Proof.Machine

/-- Settles O36: no GET of the statement has an effect, so that each delivers what its noun reads (`reads_of_getAct`). -/
theorem statusReadsComplete : Obligations.StatusReadsComplete := by
  unfold Obligations.StatusReadsComplete
  and_intros <;> exact reads_of_getAct (fun _ _ => rfl) rfl

end Sys2Proof.Machine
end

section
/-! PROOFS. The refutations of the statements about the registers of an interrupt controller (O2) and about register writes (O4).

A message of a vector counts as event 0x013, and a counter of that event that reaches its end raises PMC_SATURATED (R500, R507, R668).
Between steps 2 and 4 of a pane switch the buffer of R658 may have no place for it: the event then counts as lost in every event queue
(log entry 15). The frames of both statements leave the event queues alone. -/

namespace Sys2Proof.Machine

/-- A register write of a requester that reaches its registers, of part of the register. -/
theorem exec_registerWrite_of_part {r : Requester} {s : State} (o : Nat) (v : Word) (hbus : s.bus r) :
    exec (.registerWrite r o v false) s = .next (s.discardWrite r) := by
  change execRegisterWrite r o v false s = _
  simp [execRegisterWrite, State.onBus, hbus]

/-- An unmasking by a PCIe function that reaches its registers. -/
theorem exec_msixUnmask_of_bus {r : Requester} {s : State} (v : Option Nat) (hbus : s.bus r) (hr : r ≠ .mgt) :
    exec (.msixUnmask r v) s = .next (s.unmask r v) := by
  change execMsixUnmask r v s = _
  simp [execMsixUnmask, State.funcBus, State.onBus, hbus, hr]

/-- The discard sets WRITE_DISCARDED, whose message counts. -/
theorem discardWrite_fullBufferSwitch_lost : ((fullBufferSwitch.discardWrite .pf0).queueAt .pf0).lost = 1 := by decide +kernel

/-- `fullBufferSwitch` with a message pending on vector 22 of PF0, which is masked. -/
def maskedFullBufferSwitch : State :=
  { fullBufferSwitch with icu := [(Requester.num .pf0, { vec := [(22, { pba := true })] })] }

/-- The state keeps the bounds that every step keeps. -/
theorem maskedFullBufferSwitch_holds_bounds (b : Bound) : b.holds maskedFullBufferSwitch :=
  (Keep.set_icu (m := 0x800) rfl (Keep.refl _ _)).2 b (fullBufferSwitch_holds_bounds b)

/-- The message that the unmasking sends counts. -/
theorem unmask_maskedFullBufferSwitch_lost :
    ((maskedFullBufferSwitch.unmask .pf0 (some 22)).queueAt .pf0).lost = 1 := by decide +kernel

/-- A frame without the event queues leaves the count of lost events as it is. -/
theorem OnlyChanges.lost_eq {cs : List Comp} {s t : State} (h : OnlyChanges cs s t) (hcs : Comp.evQueue ∉ cs) (r : Requester) :
    (t.queueAt r).lost = (s.queueAt r).lost :=
  congrArg (fun x : Tbl EvQueue => (tget x (fun _ => {}) r.num).lost) (h .evQueue hcs).symm

/-- Refutes O2: its frame for the unmasking of a vector leaves the event queues alone, but in `maskedFullBufferSwitch` the message that
was pending adds to the lost events of PF0's queue. -/
theorem not_interruptRegistersComplete : ¬ Obligations.InterruptRegistersComplete := by
  unfold Obligations.InterruptRegistersComplete
  rintro ⟨-, -, -, -, -, unmask, -⟩
  have hbus : maskedFullBufferSwitch.bus .pf0 := by decide
  obtain ⟨t, hexec, -, frame, -⟩ := unmask .pf0 22 maskedFullBufferSwitch hbus (by decide) (by decide)
  rw [exec_msixUnmask_of_bus (some 22) hbus (by decide)] at hexec
  obtain rfl := Host.Outcome.next.inj hexec
  have lost := frame.lost_eq (by decide) .pf0
  rw [unmask_maskedFullBufferSwitch_lost] at lost
  exact absurd lost (by decide)

/-- Refutes O4: its frame for a discarded write leaves the event queues alone, but in `fullBufferSwitch` the discard's message adds to
the lost events of PF0's queue. -/
theorem not_registerWriteCompletes : ¬ Obligations.RegisterWriteCompletes := by
  unfold Obligations.RegisterWriteCompletes
  rintro ⟨part, -⟩
  have hbus : fullBufferSwitch.bus .pf0 := by decide
  obtain ⟨t, hexec, -, -, -, frame⟩ := part .pf0 0 0 fullBufferSwitch hbus
  rw [exec_registerWrite_of_part 0 0 hbus] at hexec
  obtain rfl := Host.Outcome.next.inj hexec
  have lost := frame.lost_eq (by decide) .pf0
  rw [discardWrite_fullBufferSwitch_lost] at lost
  exact absurd lost (by decide)

end Sys2Proof.Machine
end

section
/-! PROOFS. RING (O32; R443, R444, R454, R741): a mailbox that is BUSY, one that is not yet open, and a verb that the spec does not
know. -/

namespace Sys2Proof.Machine

section
variable {s : State} {m : Sentence}

/-! A mailbox that is BUSY discards and counts. -/

/-- Counts discarded writes of a mailbox (R444). -/
def State.discarded (s : State) (r : Requester) (n k : Nat) : State :=
  { s with mb := { s.mb with discards := tmod s.mb.discards (fun _ => 0) (boxKey r n) (· + k) } }

theorem State.discarded_frame (s : State) (r : Requester) (n k : Nat) : Keep 0x80 s (s.discarded r n k) :=
  Keep.set_mb rfl rfl (Keep.refl _ _)

theorem State.discards_discarded (s : State) (r : Requester) (n k : Nat) :
    tget (s.discarded r n k).mb.discards (fun _ => 0) (boxKey r n) = tget s.mb.discards (fun _ => 0) (boxKey r n) + k :=
  tget_tmod_same s.mb.discards (fun _ => 0) (boxKey r n) (· + k)

/-- What RING writes of a sentence into its mailbox (R443). -/
def State.written (s : State) (verb noun : Nat) (m : Sentence) : State :=
  s.modBox m.req m.mbx fun b =>
    { b with cmd := Word.nat (verb + noun * 256 + m.inst.toNat * 65536 + m.adverbs.toNat * 16777216)
             taglen := Word.nat (m.tag.toNat + m.len.toNat * 65536), payload := putWords b.payload 0 (m.words.take 1008) }

theorem submit_of_busy {verb noun : Nat} (run : Sentence → State → State) (hreach : s.reach m.req m.mbx)
    (hbusy : (s.boxAt m.req m.mbx).state = .busy) :
    submit verb noun run m s = s.discarded m.req m.mbx (m.words.length + 3) := by
  rw [submit, if_pos hreach, if_pos hbusy, State.discarded]

theorem submit_of_ready {verb noun : Nat} (run : Sentence → State → State) (hreach : s.reach m.req m.mbx)
    (hready : (s.boxAt m.req m.mbx).state ≠ .busy) :
    submit verb noun run m s = (s.written verb noun m).ring verb noun run m := by
  rw [submit, if_pos hreach, if_neg hready, State.written]

theorem submit_of_unreached {verb noun : Nat} (run : Sentence → State → State) (hreach : s.reach m.req m.mbx = false) :
    submit verb noun run m s = s := if_neg (by simp [hreach])

theorem exec_mbxDoorbellRing (verb noun : Byte) (m : Sentence) (s : State) : exec (.mbxDoorbellRing verb noun m) s =
    .next (submit verb.toNat noun.toNat (runSentence verb.toNat noun.toNat) m s) := rfl

theorem doorbell_busy (verb noun : Byte) (m : Sentence) : Completes (.mbxDoorbellRing verb noun m)
    (fun s => s.reach m.req m.mbx ∧ (s.boxAt m.req m.mbx).state = .busy)
    fun s t => OnlyChanges [.mb] s t ∧ t.boxAt m.req m.mbx = s.boxAt m.req m.mbx ∧ t.mb.waiting = s.mb.waiting ∧
      tget t.mb.discards (fun _ => 0) (boxKey m.req m.mbx) =
        tget s.mb.discards (fun _ => 0) (boxKey m.req m.mbx) + (m.words.length + 3) := by
  rintro s ⟨hreach, hbusy⟩
  refine ⟨_, (exec_mbxDoorbellRing ..).trans (congrArg _ (submit_of_busy _ hreach hbusy)), ?_⟩
  exact ⟨(s.discarded_frame ..).among rfl, rfl, rfl, s.discards_discarded ..⟩

/-! Register writes of a mailbox that is BUSY. -/

/-- An offset in a mailbox names the mailbox and the offset in it. -/
theorem boxOf_of_lt {r : Requester} {n o : Nat} (hn : n < mailboxes r) (ho : o < 0x1000) :
    boxOf r (0x1000 * (n + 1) + o) = some (n, o) := by
  unfold boxOf
  rw [if_pos (by omega), show (0x1000 * (n + 1) + o) / 0x1000 - 1 = n by omega, show (0x1000 * (n + 1) + o) % 0x1000 = o by omega]

theorem State.boxWrite_of_busy {r : Requester} {n o : Nat} (v : Word) (hbusy : (s.boxAt r n).state = .busy)
    (ho : o = 0x000 ∨ o = 0x004 ∨ o = 0x00C ∨ (0x040 ≤ o ∧ o < 0x1000)) : s.boxWrite r n o v = s.discarded r n 1 := by
  have hit : (o = 0x000 || o = 0x004 || o = 0x00C || decide (0x040 ≤ o)) = true := by
    rcases ho with rfl | rfl | rfl | ⟨hlo, -⟩
    · rfl
    · rfl
    · rfl
    · simp [hlo]
  unfold State.boxWrite
  simp only [hit, Bool.not_true, Bool.false_eq_true, if_false]
  exact if_pos hbusy

theorem exec_registerWrite_of_box {r : Requester} {n o : Nat} (v : Word) (hbus : s.bus r) (hn : n < mailboxes r) (ho : o < 0x1000)
    (hring : o ≠ 0x008) : exec (.registerWrite r (0x1000 * (n + 1) + o) v true) s = .next (s.boxWrite r n o v) := by
  change execRegisterWrite r (0x1000 * (n + 1) + o) v true s = _
  simp [execRegisterWrite, State.onBus, hbus, boxOf_of_lt hn ho, hring]

theorem registerWrite_busy (r : Requester) (n o : Nat) (v : Word) :
    Completes (.registerWrite r (0x1000 * (n + 1) + o) v true)
      (fun s => s.bus r ∧ n < mailboxes r ∧ (s.boxAt r n).state = .busy ∧ o % 4 = 0 ∧
        (o = 0x000 ∨ o = 0x004 ∨ o = 0x00C ∨ (0x040 ≤ o ∧ o < 0x1000)))
      fun s t => OnlyChanges [.mb] s t ∧ t.mb.box = s.mb.box ∧ t.mb.waiting = s.mb.waiting ∧
        tget t.mb.discards (fun _ => 0) (boxKey r n) = tget s.mb.discards (fun _ => 0) (boxKey r n) + 1 := by
  rintro s ⟨hbus, hn, hbusy, -, ho⟩
  refine ⟨_, (exec_registerWrite_of_box v hbus hn (by omega) (by omega)).trans
    (congrArg _ (State.boxWrite_of_busy v hbusy ho)), ?_⟩
  exact ⟨(s.discarded_frame ..).among rfl, rfl, rfl, s.discards_discarded ..⟩

/-! A mailbox that takes a sentence. -/

/-- The mailbox holds the sentence and is BUSY (R443). -/
def State.taken (s : State) (verb noun : Nat) (m : Sentence) : State :=
  (s.written verb noun m).modBox m.req m.mbx fun b => { b with state := .busy }

theorem State.taken_frame (s : State) (verb noun : Nat) (m : Sentence) : Keep 0x80 s (s.taken verb noun m) :=
  Keep.modBox rfl (Keep.modBox rfl (Keep.refl _ _))

theorem State.waiting_modBox (s : State) (r : Requester) (n : Nat) (f : Box → Box) :
    (s.modBox r n f).mb.waiting = s.mb.waiting := rfl

theorem State.boxAt_taken (s : State) (verb noun : Nat) (m : Sentence) : ((s.taken verb noun m).boxAt m.req m.mbx).state = .busy ∧
    ((s.taken verb noun m).boxAt m.req m.mbx).seq = (s.boxAt m.req m.mbx).seq := by
  rw [State.taken, State.boxAt_modBox_self, State.written, State.boxAt_modBox_self]
  exact ⟨rfl, rfl⟩

/-- A sentence waits until the mailboxes open (R741). -/
def State.queued (s : State) (w : Byte × Byte × Sentence) : State :=
  { s with mb := { s.mb with waiting := s.mb.waiting ++ [w] } }

theorem State.queued_frame (s : State) (w : Byte × Byte × Sentence) : Keep 0x80 s (s.queued w) :=
  Keep.set_mb rfl rfl (Keep.refl _ _)

theorem State.waiting_queued (s : State) (w : Byte × Byte × Sentence) : (s.queued w).mb.waiting = s.mb.waiting ++ [w] := rfl

theorem State.boxAt_queued (s : State) (w : Byte × Byte × Sentence) (r : Requester) (n : Nat) :
    (s.queued w).boxAt r n = s.boxAt r n := rfl

theorem State.ring_of_closed {verb noun : Nat} (run : Sentence → State → State) (hmode : s.dev.mode ≠ .startFailed)
    (hbegins : s.begins = false) : s.ring verb noun run m =
      (s.modBox m.req m.mbx fun b => { b with state := .busy }).queued (BitVec.ofNat 8 verb, BitVec.ofNat 8 noun, m) :=
  (if_neg fun h => hmode h.1).trans (if_neg (by simp [hbegins]))

theorem State.ring_of_begins {verb noun : Nat} (run : Sentence → State → State) (hmode : s.dev.mode ≠ .startFailed)
    (hbegins : s.begins) : s.ring verb noun run m = run m (s.modBox m.req m.mbx fun b => { b with state := .busy }) :=
  (if_neg fun h => hmode h.1).trans (if_pos hbegins)

/-- What a RING waits for does not depend on the sentence that is written. -/
theorem State.written_opens (s : State) (verb noun : Nat) (m : Sentence) :
    (s.written verb noun m).dev.mode = s.dev.mode ∧ (s.written verb noun m).begins = s.begins := by
  rw [State.written, State.modBox_dev, State.begins_modBox]
  exact ⟨rfl, rfl⟩

theorem submit_of_closed {verb noun : Nat} (run : Sentence → State → State) (hreach : s.reach m.req m.mbx)
    (hready : (s.boxAt m.req m.mbx).state ≠ .busy) (hmode : s.dev.mode ≠ .startFailed) (hbegins : s.begins = false) :
    submit verb noun run m s = (s.taken verb noun m).queued (BitVec.ofNat 8 verb, BitVec.ofNat 8 noun, m) := by
  obtain ⟨hmode', hbegins'⟩ := s.written_opens verb noun m
  rw [← hmode'] at hmode
  rw [← hbegins'] at hbegins
  rw [submit_of_ready run hreach hready, State.ring_of_closed run hmode hbegins, State.taken]

theorem submit_of_begins {verb noun : Nat} (run : Sentence → State → State) (hreach : s.reach m.req m.mbx)
    (hready : (s.boxAt m.req m.mbx).state ≠ .busy) (hmode : s.dev.mode ≠ .startFailed) (hbegins : s.begins) :
    submit verb noun run m s = run m (s.taken verb noun m) := by
  obtain ⟨hmode', hbegins'⟩ := s.written_opens verb noun m
  rw [← hmode'] at hmode
  rw [← hbegins'] at hbegins
  rw [submit_of_ready run hreach hready, State.ring_of_begins run hmode hbegins, State.taken]

theorem doorbell_waits (verb noun : Byte) (m : Sentence) : Completes (.mbxDoorbellRing verb noun m)
    (fun s => s.reach m.req m.mbx ∧ (s.boxAt m.req m.mbx).state ≠ .busy ∧ s.dev.mode ≠ .startFailed ∧ s.begins = false)
    fun s t => OnlyChanges [.mb] s t ∧ (t.boxAt m.req m.mbx).state = .busy ∧
      (t.boxAt m.req m.mbx).seq = (s.boxAt m.req m.mbx).seq ∧ t.mb.waiting = s.mb.waiting ++ [(verb, noun, m)] := by
  rintro s ⟨hreach, hready, hmode, hbegins⟩
  refine ⟨_, (exec_mbxDoorbellRing ..).trans (congrArg _ (submit_of_closed _ hreach hready hmode hbegins)), ?_⟩
  obtain ⟨hbusy, hseq⟩ := s.boxAt_taken verb.toNat noun.toNat m
  rw [State.boxAt_queued, State.waiting_queued, State.taken, State.waiting_modBox, State.written, State.waiting_modBox,
    BitVec.ofNat_toNat, BitVec.ofNat_toNat, BitVec.setWidth_eq, BitVec.setWidth_eq]
  exact ⟨((State.queued_frame ..).step rfl (s.taken_frame ..)).among rfl, hbusy, hseq, rfl⟩

/-! A verb that no command has. -/

/-- Every command's verb is one of the spec's. -/
theorem knownVerbs_of_mem_commands : ∀ c ∈ commands, knownVerbs.contains c.1.verb = true := by decide +kernel

theorem runSentence_of_unknownVerb {verb : Nat} (noun : Nat) (h : knownVerbs.contains verb = false) :
    runSentence verb noun = procUndefined verb noun := by
  have hnone : commandOf verb noun = none := by
    refine List.find?_eq_none.2 fun c hc hverb => ?_
    rw [Bool.and_eq_true, beq_iff_eq] at hverb
    have hknown := knownVerbs_of_mem_commands c hc
    rw [hverb.1, h] at hknown
    cases hknown
  rw [runSentence, hnone]

theorem undefinedRefusal_of_unknownVerb {verb : Nat} (noun : Nat) (m : Sentence) (h : knownVerbs.contains verb = false) :
    undefinedRefusal verb noun m = { code := cBadVerb, detail := 1 } := by
  rw [undefinedRefusal, h]
  rfl

theorem State.pmcEvent_boxAt (s : State) (ev n : Nat) (r : Requester) (k : Nat) : (s.pmcEvent ev n).boxAt r k = s.boxAt r k :=
  congrArg (fun b : Mb => tget b.box boxDflt (boxKey r k)) ((s.pmcEvent_frame ev n).1 .mb rfl).symm

theorem doorbell_unknownVerb (verb noun : Byte) (m : Sentence) : Completes (.mbxDoorbellRing verb noun m)
    (fun s => s.reach m.req m.mbx ∧ (s.boxAt m.req m.mbx).state ≠ .busy ∧ s.dev.mode ≠ .startFailed ∧ s.begins ∧
      knownVerbs.contains verb.toNat = false)
    fun s t => Replied s t m cBadVerb 1 ∧ OnlyChanges [.mb, .evRaised, .evQueue, .icu, .hifL1, .pmcCtr] s t := by
  rintro s ⟨hreach, hready, hmode, hbegins, hverb⟩
  refine ⟨_, (exec_mbxDoorbellRing ..).trans (congrArg _ (submit_of_begins _ hreach hready hmode hbegins)), ?_⟩
  obtain ⟨-, hseq⟩ := s.boxAt_taken verb.toNat noun.toNat m
  rw [runSentence_of_unknownVerb noun.toNat hverb]
  have htaken : Keep 0x20000001b80 s (s.taken verb.toNat noun.toNat m) := (s.taken_frame ..).step rfl (Keep.refl _ _)
  refine ⟨?_, (procUndefined_keep _ _ _ _ rfl htaken).among rfl⟩
  rw [procUndefined, undefinedRefusal_of_unknownVerb _ _ hverb, Replied, State.complete_boxAt, State.pmcEvent_boxAt]
  exact ⟨rfl, rfl, congrArg (· + 1) hseq⟩

theorem doorbell_unreached (verb noun : Byte) (m : Sentence) :
    Completes (.mbxDoorbellRing verb noun m) (fun s => s.reach m.req m.mbx = false) fun s t => t = s := fun _ hreach =>
  ⟨_, (exec_mbxDoorbellRing ..).trans (congrArg _ (submit_of_unreached _ hreach)), rfl⟩

end

/-- Settles O32, from one lemma for each of its clauses. -/
theorem doorbellsComplete : Obligations.DoorbellsComplete :=
  ⟨doorbell_busy, registerWrite_busy, doorbell_waits, doorbell_unknownVerb, doorbell_unreached⟩

end Sys2Proof.Machine
end

section
/-! PROOFS. The refutation of the statement about the mode commands (O33).

The Shutter ends every ENTER that still waits (R435), and its completion goes into the mailbox that the ENTER names. The clause for SHUTTER
does not say that no ENTER waits on the mailbox of the SHUTTER itself. -/

namespace Sys2Proof.Machine

/-- SHUTTER from PF0's mailbox 0, with a hold of 0 s and the BIST run. -/
def promptShutter : Sentence := { req := .pf0, mbx := 0, adverbs := 0, inst := 0, tag := 1, len := 8, words := [0, 0] }

/-- ENTER PROVISIONED from PF0's mailbox 0. -/
def waitingEnter : Sentence := { req := .pf0, mbx := 0, adverbs := 0, inst := 0, tag := 0, len := 4, words := [1] }

/-- DORMANT with the link up, mailbox 0 of PF0 IDLE, and an ENTER of that same mailbox that still waits. -/
def waitingDormant : State :=
  { dev := { mode := .dormant, isOpen := true, pfEnabled := true, enterWait := [waitingEnter] }
    hif := { linkUp := true } }

/-- The state keeps the bounds that every step keeps. -/
theorem waitingDormant_holds_bounds (b : Bound) : b.holds waitingDormant := by
  cases b with
  | memory => exact rfl
  | queues => intro r; cases r <;> decide
  | outstanding => intro r; cases r <;> decide
  | repair => exact Nat.zero_le _
  | stats => exact List.forall_mem_nil _
  | counters => exact List.forall_mem_nil _
  | echo => exact Nat.zero_le _

/-- The sentence passes the checks. -/
theorem waitingDormant_takes : waitingDormant.Takes specShutterDevMode promptShutter where
  reach := by decide +kernel
  ready := by decide +kernel
  begins := by decide +kernel
  started := by decide +kernel
  written := by decide +kernel
  fits := by decide +kernel
  passes := by decide +kernel

/-- SHUTTER's reply and the refusal of the ENTER both move SEQ on. -/
theorem execShutter_waitingDormant_seq :
    ((submit vShutter nDevMode procShutterDevMode promptShutter waitingDormant).boxAt .pf0 0).seq = 2 := by decide +kernel

/-- Refutes O33: in `waitingDormant` the SHUTTER moves the SEQ of its mailbox on by two. The clause for SHUTTER leaves open which ENTERs
wait; the part itself has no ENTER waiting on a mailbox that is not BUSY. -/
theorem not_modeCommandsComplete : ¬ Obligations.ModeCommandsComplete := by
  unfold Obligations.ModeCommandsComplete
  rintro ⟨-, -, -, -, shutter, -⟩
  obtain ⟨t, hexec, ⟨-, -, hseq⟩, -⟩ := shutter 0 0 promptShutter waitingDormant waitingDormant_takes rfl
    ⟨by decide, by decide, by decide, by decide, rfl, rfl⟩
  obtain rfl := Host.Outcome.next.inj hexec
  have two := execShutter_waitingDormant_seq.symm.trans hseq
  exact absurd two (by decide)

end Sys2Proof.Machine
end

section
/-! PROOFS. LANE_TEST, feature negotiation and PF1's grant (O34; R421, R422, R426, R438, R462, R463). -/

namespace Sys2Proof.Machine

section
variable {s t : State}

/-- A field of the device that is neither mode, guard causes nor the bus output. -/
theorem Keep.devRest_eq {α : Type} {m : Nat} (h : Keep m s t) (hm : m.testBit 5 = false) (f : Dev → α)
    (hf : ∀ x : Dev, f x.rest = f x) : f t.dev = f s.dev := by
  rw [← hf, ← h.1 .devRest hm, hf]

/-! Lanes that enter TEST and leave it. -/

theorem State.lineLeaves_box (s : State) (l : Nat) : (s.lineLeaves l).mb.box = s.mb.box := by
  unfold State.lineLeaves
  split
  · extract_lets s1
    have hcap : s1.mb.box = s.mb.box := by
      unfold s1 State.captureEnd
      split
      · split
        · exact State.finishOpt_box ..
        · rfl
      · rfl
    exact (State.lineDown_box ..).trans hcap
  · rfl

theorem State.lineLeaves_state (hstate : (s.lineAt l).state = .test) : ((s.lineLeaves l).lineAt l).state = .down := by
  rw [State.lineLeaves, if_pos hstate]
  exact (State.lineDown_state ..).trans (if_pos rfl)

theorem State.hostLeaves_state (hstate : (s.hostAt h).state = .test) : ((s.hostLeaves h).hostAt h).state = .down := by
  rw [State.hostLeaves, if_pos hstate]
  exact (State.hostDown_state ..).trans (if_pos rfl)

/-- A line lane in TEST: its symbol count and its hunt start anew. -/
def State.lineTests (s : State) (l : Nat) : State :=
  (s.modLine l fun x => { x with
    state := .test, lrx := { x.lrx with disturbed := false }
    sdf := { x.sdf with prev := none, countFrom := s.tku.bcnt } }).huntStart l

theorem State.lineTests_state (s : State) (l k : Nat) :
    ((s.lineTests l).lineAt k).state = if k = l then .test else (s.lineAt k).state := by
  rw [State.lineTests, (State.huntStart_keep _ l rfl (Keep.refl 0x400000 _)).lineState_eq rfl, State.lineAt_modLine]
  split <;> rfl

theorem actEnterTest_line {m : Sentence} (hline : m.inst.toNat < 16) (s : State) (ws : List Word) :
    actEnterTest s m ws = ((s.lineTests m.inst.toNat).testPorts.follow, okDone) := by
  rw [actEnterTest, if_pos hline]
  rfl

theorem actEnterTest_host {m : Sentence} (hhost : 16 ≤ m.inst.toNat) (s : State) (ws : List Word) :
    actEnterTest s m ws =
      ((s.modHost (m.inst.toNat - 16) fun x => { x with state := .test }).testPorts.follow, okDone) := by
  rw [actEnterTest, if_neg (Nat.not_lt.2 hhost)]

theorem actLeaveTest_line {m : Sentence} (hline : m.inst.toNat < 16) (s : State) (ws : List Word) :
    actLeaveTest s m ws = ((s.lineLeaves m.inst.toNat).testPorts.follow, okDone) := by
  rw [actLeaveTest, if_pos hline]

theorem actLeaveTest_host {m : Sentence} (hhost : 16 ≤ m.inst.toNat) (s : State) (ws : List Word) :
    actLeaveTest s m ws = ((s.hostLeaves (m.inst.toNat - 16)).testPorts.follow, okDone) := by
  rw [actLeaveTest, if_neg (Nat.not_lt.2 hhost)]

/-- What the lanes' ports, the consequences of the change and a reply leave of the lanes. -/
theorem State.testPorts_replied (h : Keep 0x20000001b80 s.testPorts.follow t) : Keep 0x2603b905b88 s t :=
  h.step rfl (s.testPorts.follow_keep rfl (s.testPorts_keep rfl (Keep.refl _ _)))

theorem State.hostAt_begun (s : State) (verb noun : Nat) (m : Sentence) (h : Nat) :
    (s.begun verb noun m).hostAt h = s.hostAt h :=
  s.begun_congr verb noun m (State.hostAt · h) fun _ _ _ _ => rfl

theorem State.testLane_begun (s : State) (verb noun : Nat) (m : Sentence) (i : Nat) :
    (s.begun verb noun m).testLane i = s.testLane i :=
  s.begun_congr verb noun m (State.testLane · i) fun _ _ _ _ => rfl

theorem State.testLane_line (hline : i < 16) : s.testLane i = (s.lineAt i).state := if_pos hline

theorem State.testLane_host (hhost : 16 ≤ i) : s.testLane i = (s.hostAt (i - 16)).state := if_neg (Nat.not_lt.2 hhost)

theorem checkEnterTest_eq_none {m : Sentence} (hon : s.dev.powered = true) (hdown : s.testLane m.inst.toNat = .down)
    (verb noun : Nat) (ws : List Word) : checkEnterTest (s.begun verb noun m) m ws = none := by
  simp [checkEnterTest, State.dev_begun, hon, State.testLane_begun, hdown]

theorem checkLeaveTest_eq_none {m : Sentence} (htest : s.testLane m.inst.toNat = .test)
    (verb noun : Nat) (ws : List Word) : checkLeaveTest (s.begun verb noun m) m ws = none := by
  rw [checkLeaveTest, State.testLane_begun, if_pos htest]

end

theorem enterLaneTest_carries_line : Carries .enterLaneTest specEnterLaneTest
    (fun m s => m.inst.toNat < 16 ∧ s.dev.powered ∧ (s.lineAt m.inst.toNat).state = .down)
    (fun m s t => Replied s t m cDone 0 ∧ (t.lineAt m.inst.toNat).state = .test ∧
      ∀ l, l ≠ m.inst.toNat → (t.lineAt l).state = (s.lineAt l).state) := by
  refine carries_done (fun _ _ => rfl) fun m s _ ⟨hline, hon, hdown⟩ => ?_
  refine ⟨checkEnterTest_eq_none hon ((State.testLane_line hline).trans hdown) _ _ _, _, _, _, actEnterTest_line hline _ _,
    (State.follow_keep _ rfl (State.testPorts_keep _ rfl (Keep.refl _ _))).box_eq, fun t ht => ?_⟩
  have hlanes : ∀ l, (t.lineAt l).state = if l = m.inst.toNat then .test else (s.lineAt l).state := fun l => by
    rw [(State.testPorts_replied ht).lineState_eq rfl, State.lineTests_state, State.lineAt_begun]
  exact ⟨(hlanes _).trans (if_pos rfl), fun l hl => (hlanes l).trans (if_neg hl)⟩

theorem enterLaneTest_carries_host : Carries .enterLaneTest specEnterLaneTest
    (fun m s => 16 ≤ m.inst.toNat ∧ s.dev.powered ∧ (s.hostAt (m.inst.toNat - 16)).state = .down)
    (fun m s t => Replied s t m cDone 0 ∧ (t.hostAt (m.inst.toNat - 16)).state = .test) := by
  refine carries_done (fun _ _ => rfl) fun m s _ ⟨hhost, hon, hdown⟩ => ?_
  refine ⟨checkEnterTest_eq_none hon ((State.testLane_host hhost).trans hdown) _ _ _, _, _, _, actEnterTest_host hhost _ _,
    (State.follow_keep _ rfl (State.testPorts_keep _ rfl (Keep.refl _ _))).box_eq, fun t ht => ?_⟩
  rw [(State.testPorts_replied ht).host_eq rfl _ HostLane.state fun _ => rfl, State.hostAt_modHost_self]

theorem enterLaneTest_carries_refused : Carries .enterLaneTest specEnterLaneTest
    (fun m s => s.dev.powered ∧ s.testLane m.inst.toNat ≠ .down)
    (fun m s t => Replied s t m cStateRefused 2 ∧ ∀ l, (t.lineAt l).state = (s.lineAt l).state) :=
  carries_refused (fun _ _ => rfl) fun m s _ ⟨hon, hlane⟩ =>
    ⟨by simp [checkEnterTest, State.dev_begun, hon, State.testLane_begun, hlane], fun t ht => ht.lineState_eq rfl⟩

theorem leaveLaneTest_carries_line : Carries .leaveLaneTest specLeaveLaneTest
    (fun m s => m.inst.toNat < 16 ∧ (s.lineAt m.inst.toNat).state = .test)
    (fun m s t => Replied s t m cDone 0 ∧ (t.lineAt m.inst.toNat).state = .down) := by
  refine carries_done (fun _ _ => rfl) fun m s _ ⟨hline, htest⟩ => ?_
  refine ⟨checkLeaveTest_eq_none ((State.testLane_line hline).trans htest) _ _ _, _, _, _, actLeaveTest_line hline _ _,
    (Keep.box_eq (State.follow_keep _ rfl (State.testPorts_keep _ rfl (Keep.refl _ _)))).trans (State.lineLeaves_box ..),
    fun t ht => ?_⟩
  rw [(State.testPorts_replied ht).lineState_eq rfl]
  exact State.lineLeaves_state (by rw [State.lineAt_begun, htest])

theorem leaveLaneTest_carries_host : Carries .leaveLaneTest specLeaveLaneTest
    (fun m s => 16 ≤ m.inst.toNat ∧ (s.hostAt (m.inst.toNat - 16)).state = .test)
    (fun m s t => Replied s t m cDone 0 ∧ (t.hostAt (m.inst.toNat - 16)).state = .down) := by
  refine carries_done (fun _ _ => rfl) fun m s _ ⟨hhost, htest⟩ => ?_
  refine ⟨checkLeaveTest_eq_none ((State.testLane_host hhost).trans htest) _ _ _, _, _, _, actLeaveTest_host hhost _ _,
    (State.follow_keep _ rfl (State.testPorts_keep _ rfl (State.hostLeaves_keep _ _ rfl (Keep.refl _ _)))).box_eq, fun t ht => ?_⟩
  rw [(State.testPorts_replied ht).host_eq rfl _ HostLane.state fun _ => rfl]
  exact State.hostLeaves_state (by rw [State.hostAt_begun, htest])

theorem leaveLaneTest_carries_refused : Carries .leaveLaneTest specLeaveLaneTest (fun m s => s.testLane m.inst.toNat ≠ .test)
    (fun m s t => Replied s t m cStateRefused 2) := by
  refine Carries.imp (carries_refused (post := fun _ _ _ => True) (fun _ _ => rfl) fun m s _ hlane => ⟨?_, fun _ _ => trivial⟩)
    fun _ _ _ ht => ht.1
  rw [checkLeaveTest, State.testLane_begun, if_neg hlane]

/-! Feature negotiation. -/

theorem State.feature_begun (s : State) (verb noun : Nat) (m : Sentence) : (s.begun verb noun m).feature = s.feature :=
  s.begun_congr verb noun m State.feature fun _ _ _ _ => rfl

/-- A device that has accepted a feature word. -/
def State.negotiated (s : State) (w : BitVec 128) : State :=
  { s with dev := { s.dev with accepted := w, negotiated := true } }

theorem negotiateDevFeature_carries : Carries .negotiateDevFeature specNegotiateDevFeature
    (fun m s => s.dev.negotiated = false ∧ askedFeatures (payloadOf m) &&& s.feature = askedFeatures (payloadOf m))
    (fun m s t => Replied s t m cDone 0 ∧ Delivers t m (words128 (askedFeatures (payloadOf m))) ∧
      t.dev.accepted = askedFeatures (payloadOf m) ∧ t.dev.negotiated = true) := by
  refine carries_done_words (fun _ _ => rfl) (by decide) fun m s _ ⟨hfirst, hasked⟩ => ?_
  refine ⟨?_, _, _, _, rfl, (State.follow_keep _ rfl (Keep.refl _ _)).box_eq, fun o => ⟨State.complete_delivers .., ?_⟩⟩
  · rw [checkNegotiate, State.dev_begun, State.feature_begun, if_neg (by simp [hfirst]), if_pos hasked]
  · have hkeep := State.follow_replied (State.complete_frame
      (((s.begun vNegotiate nDevFeature m).negotiated (askedFeatures (payloadOf m))).follow) m cDone 0 o
      (words128 (askedFeatures (payloadOf m))) 16)
    exact ⟨hkeep.devRest_eq rfl Dev.accepted fun _ => rfl, hkeep.devRest_eq rfl Dev.negotiated fun _ => rfl⟩

theorem negotiateDevFeature_carries_again : Carries .negotiateDevFeature specNegotiateDevFeature (fun _ s => s.dev.negotiated)
    (fun m s t => Replied s t m cStateRefused 3 ∧ t.dev.accepted = s.dev.accepted) :=
  carries_refused (fun _ _ => rfl) fun m s _ hbound =>
    ⟨by rw [checkNegotiate, State.dev_begun, if_pos hbound], fun t ht => ht.devRest_eq rfl Dev.accepted fun _ => rfl⟩

theorem negotiateDevFeature_carries_absent : Carries .negotiateDevFeature specNegotiateDevFeature
    (fun m s => s.dev.negotiated = false ∧ askedFeatures (payloadOf m) &&& s.feature ≠ askedFeatures (payloadOf m))
    (fun m s t => Replied s t m cNotPresent 0 ∧ t.dev.negotiated = false) :=
  carries_refused (fun _ _ => rfl) fun m s _ ⟨hfirst, hasked⟩ =>
    ⟨by rw [checkNegotiate, State.dev_begun, State.feature_begun, if_neg (by simp [hfirst]), if_neg hasked],
      fun t ht => (ht.devRest_eq rfl Dev.negotiated fun _ => rfl).trans hfirst⟩

/-! PF1's grant. -/

theorem grantPf1Grant_carries : Carries .grantPf1Grant specGrantPf1Grant (fun _ _ => True)
    (fun m s t => Replied s t m cDone 0 ∧ t.dev.grant = true ∧ t.hif.rest = s.hif.rest) := by
  refine carries_done (fun _ _ => rfl) fun m s _ _ => ⟨rfl, _, _, _, rfl, rfl, fun t ht => ⟨?_, ?_⟩⟩
  · exact ht.devRest_eq rfl Dev.grant fun _ => rfl
  · exact (ht.1 .hifRest rfl).symm.trans ((s.begun_frame vGrant nPf1Grant m).1 .hifRest rfl).symm

/-- A change of each of the channels in a list; the others are as they were. -/
theorem State.dmaAt_modDmas (s : State) {own : List Nat} (hown : own.Nodup) (f : Dma → Dma) (c : Nat) :
    (own.foldl (fun s c => s.modDma c f) s).dmaAt c = if c ∈ own then f (s.dmaAt c) else s.dmaAt c := by
  induction own generalizing s with
  | nil => rfl
  | cons x xs ih =>
    obtain ⟨hx, hxs⟩ := List.nodup_cons.1 hown
    rw [List.foldl_cons, ih _ hxs, State.dmaAt_modDma]
    by_cases hc : c = x
    · simp [hc, hx]
    · simp [hc]

/-- The channels that a requester owns. -/
def State.ownChannels (s : State) (r : Requester) : List Nat := (List.range 4).filter fun c => (s.dmaAt c).owner = r

theorem State.dmaAt_modOwn (s u : State) (hdma : ∀ c, u.dmaAt c = s.dmaAt c) (r : Requester) (f : Dma → Dma) (c : Nat) :
    ((s.ownChannels r).foldl (fun s c => s.modDma c f) u).dmaAt c =
      if c < 4 ∧ (s.dmaAt c).owner = r then f (s.dmaAt c) else s.dmaAt c := by
  have hown : (s.ownChannels r).Nodup := List.nodup_range.filter _
  rw [State.dmaAt_modDmas _ hown, hdma]
  simp only [State.ownChannels, List.mem_filter, List.mem_range, decide_eq_true_eq]

theorem State.dmaAt_revoke (s : State) (c : Nat) :
    s.revoke.dmaAt c = if c < 4 ∧ (s.dmaAt c).owner = .pf1 then { s.dmaAt c with sources := (s.dmaAt c).sources &&& 0x39 }
      else s.dmaAt c :=
  s.dmaAt_modOwn (s.setGrant false) (fun _ => rfl) .pf1 (fun d => { d with sources := d.sources &&& 0x39 }) c

theorem State.revoke_grant (s : State) : s.revoke.dev.grant = false :=
  List.foldlRecOn (motive := fun u : State => u.dev.grant = false) _ _ rfl fun _ h _ _ => h

theorem revokePf1Grant_carries : Carries .revokePf1Grant specRevokePf1Grant (fun _ _ => True)
    (fun m s t => Replied s t m cDone 0 ∧ t.dev.grant = false ∧
      (∀ c, c < 4 → (s.dmaAt c).owner = .pf1 → (t.dmaAt c).sources.getLsbD 1 = false ∧ (t.dmaAt c).sources.getLsbD 2 = false) ∧
      ∀ c, (s.dmaAt c).owner ≠ .pf1 → t.dmaAt c = s.dmaAt c) := by
  refine carries_done (fun _ _ => rfl) fun m s _ _ =>
    ⟨rfl, _, _, _, rfl, (State.revoke_keep _ rfl (Keep.refl _ _)).box_eq, fun t ht => ⟨?_, ?_⟩⟩
  · exact (ht.devRest_eq rfl Dev.grant fun _ => rfl).trans (State.revoke_grant _)
  · have hdma : ∀ c, t.dmaAt c = if c < 4 ∧ (s.dmaAt c).owner = .pf1 then
        { s.dmaAt c with sources := (s.dmaAt c).sources &&& 0x39 } else s.dmaAt c := fun c => by
      rw [← s.dmaAt_begun vRevoke nPf1Grant m c, ← State.dmaAt_revoke]
      exact ht.hif_eq rfl (fun x => tget x.dma (fun _ => {}) c) fun _ => rfl
    refine ⟨fun c hc hpf1 => ?_, fun c hpf1 => ?_⟩
    · rw [hdma, if_pos ⟨hc, hpf1⟩]
      simp
    · rw [hdma, if_neg fun h => hpf1 h.2]

/-- Settles O34, clause by clause. -/
theorem laneTestNegotiationAndGrantComplete : Obligations.LaneTestNegotiationAndGrantComplete :=
  ⟨enterLaneTest_carries_line, enterLaneTest_carries_host, enterLaneTest_carries_refused, leaveLaneTest_carries_line,
    leaveLaneTest_carries_host, leaveLaneTest_carries_refused, negotiateDevFeature_carries, negotiateDevFeature_carries_again,
    negotiateDevFeature_carries_absent, grantPf1Grant_carries, revokePf1Grant_carries⟩

end Sys2Proof.Machine
end

section
/-! PROOFS. RECEIVE on the event queue and CLEAR of the mailbox statistics (O35; R458, R459, R469). -/

namespace Sys2Proof.Machine

/-! What is signalled while no pane switch holds events back. -/

section
variable {s u : State} (hears : s.hears)
include hears

theorem Keep.edge_heard (r : Requester) (src : Nat) (h : Keep 0x20000001900 s u) : Keep 0x20000001900 s (u.edge r src) := by
  unfold State.edge
  split
  · split
    · exact Keep.enterPending_heard hears _ _ (Keep.modSrc rfl h)
    · exact h
    · exact Keep.modSrc rfl h
    · exact h
  · exact h

theorem Keep.settleIcuOf_heard (r : Requester) (h : Keep 0x20000001900 s u) : Keep 0x20000001900 s (u.settleIcuOf r) :=
  Keep.foldl _ (fun _ src hu => Keep.level_heard hears r src _ hu) h

/-- A reply leaves every event queue as it is. -/
theorem State.queueAt_complete (m : Sentence) (code detail : Nat) (o : Obj) (ws : List Word) (k : Nat) (r : Requester) :
    (s.complete m code detail o ws k).queueAt r = s.queueAt r := by
  unfold State.complete
  extract_lets s1 mb s2
  split
  · rfl
  · exact (Keep.edge_heard (s := s2) hears _ _ (Keep.refl _ _)).queueAt_eq rfl r

/-- So does the begin of a command. -/
theorem State.queueAt_begun (verb noun : Nat) (m : Sentence) (r : Requester) : (s.begun verb noun m).queueAt r = s.queueAt r := by
  have hcount : ∀ u, Keep 0x80 s u → (u.pmcEvent 0x010 1).queueAt r = s.queueAt r := fun u hu =>
    (State.queueAt_pmcEvent (hu.hears rfl hears) 0x010 1 r).trans (hu.queueAt_eq rfl r)
  rw [State.begun]
  exact hcount _ (Keep.modBox rfl (Keep.modBox rfl (Keep.refl _ _)))

end

theorem State.hears_begun {s : State} (hears : s.hears) (verb noun : Nat) (m : Sentence) : (s.begun verb noun m).hears :=
  (s.begun_frame verb noun m).hears rfl hears

/-! RECEIVE on the event queue. -/

/-- The queue of a requester without its `n` oldest records. -/
def State.received (s : State) (r : Requester) (n : Nat) : State := s.modQueue r fun q => { q with recs := q.recs.drop n }

/-- Dropping as many records as were handed out. -/
theorem drop_length_take {α : Type} (n : Nat) (xs : List α) : xs.drop (xs.take n).length = xs.drop n := by
  rw [List.length_take]
  rcases Nat.le_total n xs.length with h | h
  · rw [Nat.min_eq_left h]
  · rw [Nat.min_eq_right h, List.drop_length, List.drop_eq_nil_of_le h]

theorem State.modQueue_congr {s : State} {r : Requester} {f g : EvQueue → EvQueue} (h : f (s.queueAt r) = g (s.queueAt r)) :
    s.modQueue r f = s.modQueue r g :=
  congrArg (fun q => { s with ev := { s.ev with queue := tset s.ev.queue (fun _ => {}) r.num q } }) h

theorem State.recs_received (s : State) (r : Requester) (n : Nat) :
    ((s.received r n).queueAt r).recs = (s.queueAt r).recs.drop n :=
  congrArg EvQueue.recs (State.queueAt_modQueue_self ..)

theorem State.queueAt_received_other {s : State} {r q : Requester} (hq : q ≠ r) (n : Nat) :
    (s.received r n).queueAt q = s.queueAt q := by rw [State.received, State.queueAt_modQueue, if_neg hq]

theorem State.hears_received {s : State} (hears : s.hears) (r : Requester) (n : Nat) : (s.received r n).hears := hears

/-- What RECEIVE does to a queue that owes no EVT_LOST. -/
theorem actReceiveEvent_eq {s : State} {m : Sentence} {ws : List Word} {n : Nat} (hn : (ws.getD 0 0).toNat = n)
    (hlost : (s.queueAt m.req).lost = 0) :
    actReceiveEvent s m ws = ((s.received m.req n).settleIcuOf m.req,
      okWords ([Word.nat (min n (s.queueAt m.req).recs.length), Word.nat ((s.queueAt m.req).recs.length - n), 0, 0] ++
        ((s.queueAt m.req).recs.take n).flatMap EvRec.words)) := by
  have howes : ((s.received m.req n).queueAt m.req).lost = 0 := by
    rw [State.received, State.queueAt_modQueue_self]
    exact hlost
  have hflush : (s.received m.req n).flushLost m.req = s.received m.req n := if_neg fun h => by omega
  have htaken : (s.modQueue m.req fun q => { q with recs := q.recs.drop ((s.queueAt m.req).recs.take n).length }) =
      s.received m.req n :=
    State.modQueue_congr (congrArg (fun xs => { s.queueAt m.req with recs := xs }) (drop_length_take n _))
  simp only [actReceiveEvent, hn, hlost, htaken, hflush, drop_length_take, List.length_drop]
  rw [List.length_take]
  rfl

theorem receiveDevEvent_carries (n : Nat) : Carries .receiveDevEvent specReceiveDevEvent
    (fun m s => payloadOf m = [Word.nat n] ∧ 1 ≤ n ∧ n ≤ 62 ∧ (s.queueAt m.req).lost = 0)
    (fun m s t => Replied s t m cDone 0 ∧
      Delivers t m ([Word.nat (min n (s.queueAt m.req).recs.length), Word.nat ((s.queueAt m.req).recs.length - n), 0, 0] ++
        ((s.queueAt m.req).recs.take n).flatMap EvRec.words) ∧
      (t.queueAt m.req).recs = (s.queueAt m.req).recs.drop n ∧
      ∀ r, r ≠ m.req → t.queueAt r = s.queueAt r) := by
  refine carries_done_words (fun _ _ => rfl) (by decide) fun m s htakes ⟨hpayload, hlow, hhigh, hlost⟩ => ?_
  have hn := payload_number hpayload (by omega)
  have hears := State.hears_begun htakes.hears specReceiveDevEvent.verb specReceiveDevEvent.noun m
  have hbegun := State.queueAt_begun htakes.hears specReceiveDevEvent.verb specReceiveDevEvent.noun m
  generalize s.begun specReceiveDevEvent.verb specReceiveDevEvent.noun m = u at hears hbegun ⊢
  have hact := actReceiveEvent_eq (m := m) hn ((congrArg EvQueue.lost (hbegun m.req)).trans hlost)
  replace hears := State.hears_received hears m.req n
  have hsettle := Keep.settleIcuOf_heard hears m.req (Keep.refl 0x20000001900 _)
  have hqueue : ∀ o ws k r, (((u.received m.req n).settleIcuOf m.req).complete m cDone 0 o ws k).queueAt r =
      (u.received m.req n).queueAt r := fun o ws k r =>
    (State.queueAt_complete (hsettle.hears rfl hears) m cDone 0 o ws k r).trans (hsettle.queueAt_eq rfl r)
  rw [hbegun] at hact
  refine ⟨?_, _, _, _, hact, (State.settleIcuOf_keep _ _ rfl (Keep.refl _ _)).box_eq, fun o =>
    ⟨State.complete_delivers .., ?_, fun r hr => ?_⟩⟩
  · rw [checkReceiveEvent, hn, if_pos ⟨hlow, hhigh⟩]
  · rw [hqueue, State.recs_received, hbegun]
  · rw [hqueue, State.queueAt_received_other hr, hbegun]

theorem receiveDevEvent_carries_refused (n : Nat) : Carries .receiveDevEvent specReceiveDevEvent
    (fun m _ => payloadOf m = [Word.nat n] ∧ n < 2 ^ 32 ∧ (n = 0 ∨ 62 < n))
    (fun m s t => Replied s t m cResource 1 ∧ t.queueAt m.req = s.queueAt m.req) := by
  intro m s htakes _ ⟨hpayload, hn, hout⟩
  have hcheck : checkReceiveEvent (s.begun specReceiveDevEvent.verb specReceiveDevEvent.noun m) m (payloadOf m) =
      some { code := cResource, detail := 1 } := by
    rw [checkReceiveEvent, payload_number hpayload hn, if_neg (by omega)]
  obtain ⟨o, hsubmit⟩ := submit_of_refused (act := actReceiveEvent) (echo := noEcho) htakes hcheck
  refine ⟨_, congrArg Host.Outcome.next hsubmit, State.complete_replied cResource 1 o [] 0 rfl, ?_⟩
  rw [State.queueAt_complete (State.hears_begun htakes.hears ..), State.queueAt_begun htakes.hears]

/-! CLEAR of the mailbox statistics. -/

/-- The entries that a filter takes out of a table read as its default. -/
theorem tget_filter_out {α : Type} {xs : Tbl α} {d : Nat → α} {keep : Nat × α → Bool} {j : Nat} (h : ∀ v, keep (j, v) = false) :
    tget (xs.filter keep) d j = d j :=
  tget_of_absent (d := d) fun ⟨k, v⟩ hp hj => by
    obtain rfl : k = j := hj
    exact absurd (List.mem_filter.1 hp).2 (by simp [h])

/-- The counts of the other requesters, and no discarded write of this one. -/
def State.statsCleared (s : State) (r : Requester) : State :=
  { s with mb := { s.mb with
      counts := s.mb.counts.filter fun p => p.1 / 256 ≠ r.num
      discards := s.mb.discards.filter fun p => p.1 / 16 ≠ r.num } }

/-- A reply counts under its requester and its code. -/
theorem State.counts_complete (s : State) (m : Sentence) (code detail : Nat) (o : Obj) (ws : List Word) (k : Nat) :
    (s.complete m code detail o ws k).mb.counts = tmod s.mb.counts (fun _ => 0) (256 * m.req.num + code) (· + 1) := by
  unfold State.complete
  extract_lets s1 mb s2
  split
  · rfl
  · exact (congrArg Mb.counts ((s2.edge_frame m.req m.mbx).1 .mb rfl)).symm

theorem State.discards_complete (s : State) (m : Sentence) (code detail : Nat) (o : Obj) (ws : List Word) (k : Nat) :
    (s.complete m code detail o ws k).mb.discards = s.mb.discards := by
  unfold State.complete
  extract_lets s1 mb s2
  split
  · rfl
  · exact (congrArg Mb.discards ((s2.edge_frame m.req m.mbx).1 .mb rfl)).symm

theorem clearMbxStats_carries : Carries .clearMbxStats specClearMbxStats (fun _ _ => True)
    (fun m s t => Replied s t m cDone 0 ∧
      (∀ c, c < 256 → c ≠ cDone → tget t.mb.counts (fun _ => 0) (256 * m.req.num + c) = 0) ∧
      (∀ n, n < 16 → tget t.mb.discards (fun _ => 0) (boxKey m.req n) = 0) ∧
      ∀ r c, r ≠ m.req → c < 256 → tget t.mb.counts (fun _ => 0) (256 * r.num + c) = tget s.mb.counts (fun _ => 0) (256 * r.num + c)) := by
  refine carries_done_words (fun _ _ => rfl) (by decide) fun m s _ _ => ?_
  have hcounts := s.mb_begun specClearMbxStats.verb specClearMbxStats.noun m Mb.counts fun _ _ => rfl
  refine ⟨rfl, (s.begun specClearMbxStats.verb specClearMbxStats.noun m).statsCleared m.req, [], 0, rfl, rfl, fun o =>
    ⟨fun c hc hne => ?_, fun n _ => ?_, fun r c hr hc => ?_⟩⟩
  · rw [State.counts_complete, tget_tmod_other _ _ _ (by omega)]
    exact tget_filter_out fun v => decide_eq_false fun h => h (by omega)
  · rw [State.discards_complete]
    exact tget_filter_out fun v => decide_eq_false fun h => h (by simp only [boxKey]; omega)
  · have hnum : r.num ≠ m.req.num := fun h => hr (Requester.num_inj h)
    rw [State.counts_complete, tget_tmod_other _ _ _ (by simp only [cDone]; omega), ← hcounts]
    exact tget_filter _ fun v => decide_eq_true (by simp only; omega)

/-- Settles O35, clause by clause. -/
theorem eventQueueIsFifo : Obligations.EventQueueIsFifo :=
  ⟨receiveDevEvent_carries, receiveDevEvent_carries_refused, clearMbxStats_carries⟩

end Sys2Proof.Machine
end

section
/-! PROOFS. Reads and writes through the BAR2 windows (O41; R476 to R478, R480). -/

namespace Sys2Proof.Machine

/-! The words of an access. -/

theorem mem_wordsOf {a n w : Nat} : w ∈ wordsOf a n ↔ w % 8 = 0 ∧ a < w + 8 ∧ w < a + n ∧ 0 < n := by
  unfold wordsOf
  split
  · simp; omega
  · simp only [List.mem_map, List.mem_range]
    constructor
    · rintro ⟨i, hi, rfl⟩
      omega
    · rintro ⟨hw, hlow, hhigh, -⟩
      exact ⟨w / 8 - a / 8, by omega, by omega⟩

theorem wordsOf_nodup (a n : Nat) : (wordsOf a n).Nodup := by
  unfold wordsOf
  split
  · exact List.nodup_nil
  · exact List.nodup_range.map fun i j h => by omega

/-! Reads of good words. -/

section
variable {s : State}

theorem State.readWord_of_good {w : Nat} (reader : Nat) (h : s.condOf w = .good) : s.readWord reader w = (s, true) := by
  simp only [State.readWord, h]

theorem State.readWords_of_good (r : Requester) {ws : List Nat} (h : ∀ w ∈ ws, s.condOf w = .good) : s.readWords r ws = (s, []) := by
  induction ws with
  | nil => rfl
  | cons w ws ih =>
    have hw := State.readWord_of_good r.num (h w List.mem_cons_self)
    simp only [State.readWords, hw, ih fun x hx => h x (List.mem_cons_of_mem w hx), if_true, ite_self]

theorem State.dwordAt_of_delivered (r : Requester) (a : Nat) :
    s.dwordAt r [] a = if s.readsZero r a then 0 else Word.nat (leVal (s.memBytes a 4)) := by
  simp only [State.dwordAt, List.contains_nil, or_false, Bool.false_eq_true]

/-- Bytes and the rest are the whole memory. -/
theorem Keep.mem_eq {m : Nat} {t : State} (h : Keep m s t) (hdata : m.testBit 34 = false) (hrest : m.testBit 35 = false) :
    t.mem = s.mem := by
  have hd : s.mem.data = t.mem.data := h.1 .memData hdata
  have hr : s.mem.rest = t.mem.rest := h.1 .memRest hrest
  calc t.mem = { t.mem.rest with data := t.mem.data } := rfl
    _ = { s.mem.rest with data := s.mem.data } := by rw [hd, hr]
    _ = s.mem := rfl

/-- The L1 flag and the rest are the whole host interface. -/
theorem Keep.hif_whole {m : Nat} {t : State} (h : Keep m s t) (hl1 : m.testBit 12 = false) (hrest : m.testBit 13 = false) :
    t.hif = s.hif := by
  have hl : s.hif.l1 = t.hif.l1 := h.1 .hifL1 hl1
  have hr : s.hif.rest = t.hif.rest := h.1 .hifRest hrest
  calc t.hif = { t.hif.rest with l1 := t.hif.l1 } := rfl
    _ = { s.hif.rest with l1 := s.hif.l1 } := by rw [hl, hr]
    _ = s.hif := rfl

end

theorem bar2Read_completes (r : Requester) (off n : Nat) : Completes (.bar2Read r off n [])
    (fun s => s.bus r ∧ off + 4 * n ≤ bar2Size r ∧ ∀ w ∈ wordsOf (s.bar2Addr r off) (4 * n), s.condOf w = .good)
    fun s t => t.dev.busRead.words = (List.range n).map (fun i =>
        if s.readsZero r (s.bar2Addr r off + 4 * i) then 0 else Word.nat (leVal (s.memBytes (s.bar2Addr r off + 4 * i) 4))) ∧
      t.dev.busRead.poisoned = false ∧ t.mem = s.mem ∧ OnlyChanges [.devBus, .pmcCtr, .evRaised, .evQueue] s t := by
  rintro s ⟨hbus, hfits, hgood⟩
  have hexec : exec (.bar2Read r off n []) s = .next ((s.answer ((List.range n).map fun i =>
      if s.readsZero r (s.bar2Addr r off + 4 * i) then 0
        else Word.nat (leVal (s.memBytes (s.bar2Addr r off + 4 * i) 4)))).pmcEvent 0x020 (units64 (s.bar2Addr r off) (4 * n))) := by
    change execBar2Read r off n [] s = _
    rw [execBar2Read, if_pos ⟨hbus, hfits⟩]
    simp only [List.filter_nil, List.foldl_nil, State.readWords_of_good r hgood, State.dwordAt_of_delivered]
    rfl
  have hcount := State.pmcEvent_frame (s.answer ((List.range n).map fun i =>
      if s.readsZero r (s.bar2Addr r off + 4 * i) then 0
        else Word.nat (leVal (s.memBytes (s.bar2Addr r off + 4 * i) 4)))) 0x020 (units64 (s.bar2Addr r off) (4 * n))
  have hbusRead := hcount.1 .devBus rfl
  refine ⟨_, hexec, congrArg BusRead.words hbusRead.symm, congrArg BusRead.poisoned hbusRead.symm, hcount.mem_eq rfl rfl, ?_⟩
  exact Keep.among (m := 0x20000000310) (hcount.step rfl (Keep.set_dev (.inr ⟨rfl, rfl, rfl⟩) (.inl rfl) (.inr rfl) (Keep.refl _ _))) rfl

/-! Writes. -/

section
variable {s : State}

/-- A word whose stored bytes take the enabled ones of a partial write. -/
def State.mergeWord (s : State) (w : Nat) (bs : List (Option Byte)) : State :=
  { s with mem := { s.mem with data := spliceCells s.mem.data w (mergeBytes (s.memBytes w 8) bs) } }

theorem State.writeWord_of_good (r : Requester) {w : Nat} (bs : List (Option Byte)) (hgood : s.condOf w = .good) :
    s.writeWord r w bs = if bs.all Option.isNone then s else if bs.all Option.isSome then s.memStore w (bs.map fun b => b.getD 0)
      else (s.bump gMem (chanOf w) 1).mergeWord w bs := by
  have hbump : (s.bump gMem (chanOf w) 1).condOf w = .good := hgood
  simp only [State.writeWord, hbump]
  rfl

theorem getD_mergeBytes {old : List Byte} {new : List (Option Byte)} {i : Nat} (hold : i < old.length) (hnew : i < new.length) :
    (mergeBytes old new).getD i 0 = (new.getD i none).getD (old.getD i 0) := by
  simp [mergeBytes, List.getD_eq_getElem?_getD, hold, hnew]

theorem State.memByte_memStore (s : State) (a j : Nat) (bs : List Byte) : (s.memStore a bs).memByte j =
    if a ≤ j ∧ j < a + bs.length then bs.getD (j - a) 0 else s.memByte j := tget_spliceCells s.mem.data a j bs

theorem State.memByte_mergeWord (s : State) {w : Nat} {bs : List (Option Byte)} (hlen : bs.length = 8) (b : Nat) :
    (s.mergeWord w bs).memByte b = if w ≤ b ∧ b < w + 8 then (bs.getD (b - w) none).getD (s.memByte b) else s.memByte b := by
  have hold : (s.memBytes w 8).length = 8 := by rw [State.memBytes, List.length_map, List.length_range]
  refine (tget_spliceCells ..).trans ?_
  have hmerged : (mergeBytes (s.memBytes w 8) bs).length = 8 := by rw [mergeBytes, List.length_zipWith, hold, hlen, Nat.min_self]
  rw [hmerged]
  split
  · next hin =>
    have hbyte : (s.memBytes w 8).getD (b - w) 0 = s.memByte b := by
      rw [State.memBytes, List.getD_eq_getElem _ _ (by simp; omega), List.getElem_map, List.getElem_range, Nat.add_sub_cancel' hin.1]
    rw [getD_mergeBytes (by omega) (by omega), hbyte]
  · rfl

/-- A write to a good word puts the enabled bytes in their places and leaves every other byte as it is. -/
theorem State.memByte_writeWord {r : Requester} {w : Nat} {bs : List (Option Byte)} (hlen : bs.length = 8) (hgood : s.condOf w = .good)
    (b : Nat) : (s.writeWord r w bs).memByte b =
      if w ≤ b ∧ b < w + 8 then (bs.getD (b - w) none).getD (s.memByte b) else s.memByte b := by
  have hget : b - w < 8 → bs.getD (b - w) none ∈ bs := fun h => by
    rw [List.getD_eq_getElem _ _ (by omega)]
    exact List.getElem_mem _
  rw [State.writeWord_of_good r bs hgood]
  split_ifs with hnone hin hsome hin hin
  · rw [Option.isNone_iff_eq_none.1 (List.all_eq_true.1 hnone _ (hget (by omega)))]
    rfl
  · rfl
  · obtain ⟨x, hx⟩ := Option.isSome_iff_exists.1 (List.all_eq_true.1 hsome _ (hget (by omega)))
    rw [State.memByte_memStore, if_pos (by rw [List.length_map, hlen]; exact hin)]
    exact (List.getD_map (l := bs) (d := none) (fun b : Option Byte => b.getD 0)).trans (by rw [hx]; rfl)
  · rw [State.memByte_memStore, if_neg (by rw [List.length_map, hlen]; exact hin)]
  · exact (State.memByte_mergeWord _ hlen b).trans (if_pos hin)
  · exact (State.memByte_mergeWord _ hlen b).trans (if_neg hin)

/-- A write to a good word leaves every good word good. -/
theorem State.condOf_writeWord {r : Requester} {w x : Nat} {bs : List (Option Byte)} (hgood : s.condOf w = .good)
    (hx : s.condOf x = .good) : (s.writeWord r w bs).condOf x = .good := by
  rw [State.writeWord_of_good r bs hgood]
  split_ifs
  · exact hx
  · by_cases hin : x < w ∨ w + (bs.map fun b => b.getD 0).length ≤ x
    · exact (tget_filter _ fun _ => decide_eq_true hin).trans hx
    · exact tget_filter_out fun _ => decide_eq_false hin
  · exact hx

theorem getD_wordBytes (a : Nat) (bs : List (Option Byte)) (w : Nat) {i : Nat} (hi : i < 8) :
    (wordBytes a bs w).getD i none = if w + i < a then none else bs.getD (w + i - a) none := by
  rw [wordBytes, List.getD_eq_getElem _ _ (by simpa using hi), List.getElem_map, List.getElem_range]
  split
  · rfl
  · rw [List.getD_eq_getElem?_getD]
    cases bs[w + i - a]? <;> rfl

/-- The byte that a request leaves at an address: an enabled one of its own, or the stored one. -/
def State.byteAfter (s : State) (a : Nat) (bs : List (Option Byte)) (b : Nat) : Byte :=
  if b < a then s.memByte b else (bs.getD (b - a) none).getD (s.memByte b)

/-- A write to good words, one after another. -/
theorem State.memByte_writeWords (r : Requester) (a : Nat) (bs : List (Option Byte)) {ws : List Nat} (hnodup : ws.Nodup)
    (haligned : ∀ w ∈ ws, w % 8 = 0) (hgood : ∀ w ∈ ws, s.condOf w = .good) (b : Nat) :
    (ws.foldl (fun s w => s.writeWord r w (wordBytes a bs w)) s).memByte b =
      if 8 * (b / 8) ∈ ws then s.byteAfter a bs b else s.memByte b := by
  induction ws generalizing s with
  | nil => rfl
  | cons w ws ih =>
    obtain ⟨hw, hnodup⟩ := List.nodup_cons.1 hnodup
    have hgoodw := hgood w List.mem_cons_self
    have halw := haligned w List.mem_cons_self
    have hfirst := State.memByte_writeWord (r := r) (bs := wordBytes a bs w) (by simp [wordBytes]) hgoodw b
    rw [List.foldl_cons, ih hnodup (fun x hx => haligned x (List.mem_cons_of_mem w hx)) fun x hx =>
      State.condOf_writeWord hgoodw (hgood x (List.mem_cons_of_mem w hx))]
    by_cases hb : 8 * (b / 8) = w
    · rw [if_pos (by omega), getD_wordBytes _ _ _ (by omega), Nat.add_sub_cancel' (by omega)] at hfirst
      rw [hb, if_neg hw, if_pos List.mem_cons_self, hfirst, State.byteAfter]
      split <;> rfl
    · rw [if_neg (by omega)] at hfirst
      simp only [State.byteAfter, hfirst, List.mem_cons, hb, false_or]

end

theorem bar2Write_completes (off : Nat) (bs : List (Option Byte)) : Completes (.bar2Write .pf0 off bs [])
    (fun s => s.bus .pf0 ∧ off + bs.length ≤ 0x10000000 ∧ 0x20000000 ≤ s.hif.window + off ∧
      s.hif.window + off + bs.length ≤ 0x30000000 ∧ ∀ w ∈ wordsOf (s.hif.window + off) bs.length, s.condOf w = .good)
    fun s t => (∀ i, i < bs.length → t.memByte (s.hif.window + off + i) =
        ((bs.getD i none).getD (s.memByte (s.hif.window + off + i)))) ∧
      (∀ a, a < s.hif.window + off ∨ s.hif.window + off + bs.length ≤ a → t.memByte a = s.memByte a) ∧
      t.hif = s.hif ∧ OnlyChanges [.memData, .memRest, .stats, .pmcCtr, .evRaised, .evQueue] s t := by
  rintro s ⟨hbus, hfits, hlow, hhigh, hgood⟩
  generalize ha : s.hif.window + off = a at *
  have hstaging : ∀ w ∈ wordsOf a bs.length, memKind w = .staging := fun w hw => by
    obtain ⟨halign, hbelow, habove, -⟩ := mem_wordsOf.1 hw
    rw [memKind, if_neg (by omega), if_pos (by omega)]
  have hhere : (wordsOf a bs.length).filter (fun w => memKind w = .staging) = wordsOf a bs.length :=
    List.filter_eq_self.2 fun w hw => decide_eq_true (hstaging w hw)
  have hnone : (wordsOf a bs.length).any (fun w => memKind w = .readOnly) = false :=
    List.any_eq_false.2 fun w hw => by simp [hstaging w hw]
  have hexec : exec (.bar2Write .pf0 off bs []) s =
      .next (((wordsOf a bs.length).foldl (fun s w => s.writeWord .pf0 w (wordBytes a bs w)) s).pmcEvent 0x021
        (if wordsOf a bs.length = [] then 0 else units64 a bs.length)) := by
    change execBar2Write .pf0 off bs [] s = _
    have haddr : s.bar2Addr .pf0 off = a := ha
    rw [execBar2Write, if_pos ⟨hbus, rfl, hfits⟩]
    simp only [haddr, hhere, hnone, List.filter_nil, List.foldl_nil, Bool.false_eq_true, if_false]
  have hbyte := State.memByte_writeWords .pf0 a bs (wordsOf_nodup a bs.length) (fun w hw => (mem_wordsOf.1 hw).1) hgood
  have hwords : Keep 0xc00020300 s ((wordsOf a bs.length).foldl (fun s w => s.writeWord .pf0 w (wordBytes a bs w)) s) :=
    Keep.foldl _ (fun u w hu => u.writeWord_keep _ _ _ rfl hu) (Keep.refl _ _)
  generalize (wordsOf a bs.length).foldl (fun s w => s.writeWord .pf0 w (wordBytes a bs w)) s = u at *
  have hcount := u.pmcEvent_frame 0x021 (if wordsOf a bs.length = [] then 0 else units64 a bs.length)
  have hafter : ∀ b, u.memByte b = s.byteAfter a bs b := fun b => by
    rw [hbyte]
    split
    · rfl
    · next hout =>
      rw [mem_wordsOf] at hout
      rw [State.byteAfter]
      split
      · rfl
      · rw [List.getD_eq_default _ _ (by omega)]
        rfl
  have hall : Keep 0x20c00020300 s _ := hcount.step rfl (hwords.step rfl (Keep.refl _ _))
  refine ⟨_, hexec, fun i hi => ?_, fun b hb => ?_, ?_, hall.among rfl⟩
  · rw [ha, hcount.memByte_eq rfl, hafter, State.byteAfter, if_neg (by omega), Nat.add_sub_cancel_left]
  · rw [ha] at hb
    rw [hcount.memByte_eq rfl, hafter, State.byteAfter]
    split
    · rfl
    · rw [List.getD_eq_default _ _ (by omega)]
      rfl
  · exact hall.hif_whole rfl rfl

/-- Settles O41, clause by clause. -/
theorem windowAccessesComplete : Obligations.WindowAccessesComplete :=
  ⟨bar2Read_completes, bar2Write_completes⟩

end Sys2Proof.Machine
end

section
/-! PROOFS. The steps of a row's test and of its repair, the record's append and the refresh (O43; R534, R543, R546, R549). -/

namespace Sys2Proof.Machine

section
variable {s t : State}

theorem Keep.regionAt_eq {m : Nat} (h : Keep m s t) (hm : m.testBit 35 = false) (g : Nat) : t.regionAt g = s.regionAt g :=
  (congrArg (fun x : Mem => tget x.region (fun _ => {}) g) (h.1 .memRest hm)).symm

theorem Keep.toRecord_eq {m : Nat} (h : Keep m s t) (hm : m.testBit 35 = false) : t.mem.toRecord = s.mem.toRecord :=
  (congrArg Mem.toRecord (h.1 .memRest hm)).symm

/-! The echo table and the copy. -/

theorem echoEntryExpiry_completes (g a : Nat) : Completes (.echoEntryExpiry g a) (fun _ => True) fun s t =>
    (∀ e, e ∈ t.mem.echo ↔ e ∈ s.mem.echo ∧
      ¬(e.region = g ∧ e.addr = a ∧ (e.window * 625000000 ≤ s.since e.bcnt ∨ s.dev.refclk = false))) ∧
    t.mem.data = s.mem.data ∧
    OnlyChanges [.memRest] s t := by
  intro s _
  refine ⟨_, rfl, fun e => ?_, rfl, ?_⟩
  · simp only [List.mem_filter, Bool.not_eq_true', Bool.and_eq_false_iff, decide_eq_false_iff_not, Bool.or_eq_false_iff,
      Bool.not_eq_false', State.expired, secTicks]
    cases s.dev.refclk <;> grind
  · exact (execEchoEntryExpiry_keep g a s rfl).among rfl

/-- A row's test is the same but for the counts of corrections. -/
def Region.Counts (x y : Region) : Prop := ∃ n b, y = { x with sinceEvent := n, lastEvent := b }

/-- A correction counts in its region. -/
theorem State.regionAt_countCorrection (s : State) (g a : Nat) : (s.regionAt g).Counts ((s.countCorrection g a).regionAt g) := by
  unfold State.countCorrection
  extract_lets s1 n
  have hs1 : s1.regionAt g = { s.regionAt g with sinceEvent := (s.regionAt g).sinceEvent + 1 } :=
    State.regionAt_modRegion_self (s := s.bump gMem g 0) ..
  split
  · rw [(State.raise_frame ..).regionAt_eq rfl, State.regionAt_modRegion_self, hs1]
    exact ⟨_, _, rfl⟩
  · exact ⟨_, _, hs1⟩

theorem Region.Counts.trans {x y z : Region} (h : x.Counts y) (h' : y.Counts z) : x.Counts z := by
  obtain ⟨n, b, rfl⟩ := h
  obtain ⟨n', b', rfl⟩ := h'
  exact ⟨n', b', rfl⟩

/-- What the copy makes of a word of the row (R543). -/
def State.copyWord (g : Nat) (s : State) (w : Nat) : State :=
  match s.condOf w with
  | .correctable _ => (s.setCond w .good).countCorrection g w
  | .uncorrectable => s.setCond w .poisoned
  | _ => s

theorem State.regionAt_copyWord (g : Nat) (s : State) (w : Nat) : (s.regionAt g).Counts ((s.copyWord g w).regionAt g) := by
  unfold State.copyWord
  split
  · exact State.regionAt_countCorrection (s.setCond w .good) g w
  · exact ⟨_, _, rfl⟩
  · exact ⟨_, _, rfl⟩

theorem State.copyWord_frame (g : Nat) (s : State) (w : Nat) : Keep 0x800020300 s (s.copyWord g w) := by
  unfold State.copyWord
  split
  · exact State.countCorrection_keep _ _ _ rfl (State.setCond_keep _ _ _ rfl (Keep.refl _ _))
  · exact State.setCond_keep _ _ _ rfl (Keep.refl _ _)
  · exact Keep.refl _ _

theorem repairCopyDone_completes (g : Nat) : Completes (.repairCopyDone g) (fun s => (s.regionAt g).step = 1) fun s t =>
    (t.regionAt g).step = 2 ∧ (t.regionAt g).row = (s.regionAt g).row ∧ (t.regionAt g).usedRows = (s.regionAt g).usedRows ∧
    t.mem.data = s.mem.data ∧ OnlyChanges [.memRest, .stats, .evRaised, .evQueue] s t := by
  intro s hstep
  let bad := (s.mem.cond.filter fun c => decide (chanOf c.1 = g ∧ rowOf c.1 = (s.regionAt g).row)).map Prod.fst
  have hexec : exec (.repairCopyDone g) s = .next ((bad.foldl (State.copyWord g) s).modRegion g fun x => { x with step := 2 }) := by
    change execRepairCopyDone g s = _
    rw [execRepairCopyDone, if_pos hstep]
    rfl
  have hcounts : (s.regionAt g).Counts ((bad.foldl (State.copyWord g) s).regionAt g) :=
    List.foldlRecOn (motive := fun u : State => (s.regionAt g).Counts (u.regionAt g)) bad _ ⟨_, _, rfl⟩
      fun u hu w _ => hu.trans (u.regionAt_copyWord g w)
  have hkeep : Keep 0x800020300 s (bad.foldl (State.copyWord g) s) :=
    Keep.foldl _ (fun u w hu => hu.trans (u.copyWord_frame g w)) (Keep.refl _ _)
  obtain ⟨n, b, hregion⟩ := hcounts
  have hdata := hkeep.1 .memData rfl
  refine ⟨_, hexec, ?_, ?_, ?_, hdata.symm, Keep.among (Keep.modRegion rfl hkeep) rfl⟩
  all_goals rw [State.regionAt_modRegion_self, hregion]

/-! The verdict of a march test. -/

theorem State.nextRow_of_empty {g : Nat} (hqueue : (s.regionAt g).queue = []) :
    s.nextRow g = s.modRegion g fun x => { x with step := 0, row := 0 } := by
  have hnone : ((s.modRegion g fun x => { x with step := 0, row := 0 }).regionAt g).queue = [] := by
    rw [State.regionAt_modRegion_self]
    exact hqueue
  simp only [State.nextRow, hnone]

theorem State.regionAt_repairDue (s : State) (g row kind : Nat) (v : MarchVerdict) : (s.repairDue g row kind v).regionAt g =
    { s.regionAt g with repairs := (s.regionAt g).repairs ++ [{ row := row, verdict := v, bcnt := s.tku.bcnt }] } :=
  State.regionAt_modRegion_self (s := s) g fun x => { x with repairs := x.repairs ++ [{ row := row, verdict := v, bcnt := s.tku.bcnt }] }

theorem State.toRecord_repairDue (s : State) (g row kind : Nat) (v : MarchVerdict) :
    (s.repairDue g row kind v).mem.toRecord = s.mem.toRecord ++ [s.newEntry kind 0 g row] := rfl

/-- A lasting verdict with its repair: recorded, counted, and the region's test ends. -/
def State.repaired (s : State) (g row kind item : Nat) (v : MarchVerdict) : State :=
  (((s.repairDue g row kind v).bump gMem g item).nextRow g).settle

theorem State.repaired_done {g : Nat} (hqueue : (s.regionAt g).queue = []) (row kind item : Nat) (v : MarchVerdict) :
    (s.repaired g row kind item v).regionAt g = { s.regionAt g with
      step := 0, row := 0, repairs := (s.regionAt g).repairs ++ [{ row := row, verdict := v, bcnt := s.tku.bcnt }] } ∧
    (s.repaired g row kind item v).mem.toRecord = s.mem.toRecord ++ [s.newEntry kind 0 g row] ∧
    (s.repaired g row kind item v).statAt gMem g item = (s.statAt gMem g item).add 1 := by
  have hregion : ((s.repairDue g row kind v).bump gMem g item).regionAt g =
      { s.regionAt g with repairs := (s.regionAt g).repairs ++ [{ row := row, verdict := v, bcnt := s.tku.bcnt }] } :=
    s.regionAt_repairDue ..
  have hnext : ((s.repairDue g row kind v).bump gMem g item).nextRow g = _ :=
    State.nextRow_of_empty ((congrArg Region.queue hregion).trans hqueue)
  rw [State.repaired, hnext, (State.settle_frame _).regionAt_eq rfl, (State.settle_frame _).toRecord_eq rfl,
    (State.settle_frame _).statAt_eq rfl, State.regionAt_modRegion_self, hregion]
  refine ⟨rfl, s.toRecord_repairDue g row kind v, ?_⟩
  exact State.statAt_bump_self (s := s.repairDue g row kind v) gMem g item

/-- A spare that a verdict gives back, or takes. -/
theorem State.newEntry_modRegion (s : State) (g' : Nat) (f : Region → Region) (kind source unit loc : Nat) :
    (s.modRegion g' f).newEntry kind source unit loc = s.newEntry kind source unit loc := rfl

theorem marchTestDone_transient (g : Nat) : Completes (.marchTestDone g .transient)
    (fun s => (s.regionAt g).step = 2 ∧ (s.regionAt g).queue = []) fun s t =>
    (t.regionAt g).step = 0 ∧ (t.regionAt g).usedRows = (s.regionAt g).usedRows - 1 ∧
    (t.regionAt g).repairs = (s.regionAt g).repairs ∧ t.mem.toRecord = s.mem.toRecord := by
  rintro s ⟨hstep, hqueue⟩
  let u := s.modRegion g fun x => { x with usedRows := x.usedRows - 1 }
  have hexec : exec (.marchTestDone g .transient) s = .next (u.nextRow g).settle := by
    change execMarchTestDone g .transient s = _
    simp [execMarchTestDone, hstep, u]
  have hu : u.regionAt g = { s.regionAt g with usedRows := (s.regionAt g).usedRows - 1 } := State.regionAt_modRegion_self ..
  have hregion : (u.nextRow g).settle.regionAt g =
      { s.regionAt g with usedRows := (s.regionAt g).usedRows - 1, step := 0, row := 0 } := by
    rw [(State.settle_frame _).regionAt_eq rfl, State.nextRow_of_empty (by rw [hu]; exact hqueue), State.regionAt_modRegion_self, hu]
  refine ⟨_, hexec, ?_, ?_, ?_, ?_⟩
  · rw [hregion]
  · rw [hregion]
  · rw [hregion]
  · rw [(State.settle_frame _).toRecord_eq rfl, State.nextRow_of_empty (by rw [hu]; exact hqueue)]
    rfl

theorem marchTestDone_lastingRow (g : Nat) : Completes (.marchTestDone g .lastingRow)
    (fun s => (s.regionAt g).step = 2 ∧ (s.regionAt g).queue = []) fun s t =>
    (t.regionAt g).step = 0 ∧ (t.regionAt g).usedRows = (s.regionAt g).usedRows ∧
    (t.regionAt g).repairs = (s.regionAt g).repairs ++ [{ row := (s.regionAt g).row, verdict := .lastingRow, bcnt := s.tku.bcnt }] ∧
    t.mem.toRecord = s.mem.toRecord ++ [s.newEntry (if 8 ≤ g then 6 else 3) 0 g (s.regionAt g).row] ∧
    t.statAt gMem g 9 = (s.statAt gMem g 9).add 1 := by
  rintro s ⟨hstep, hqueue⟩
  have hexec : exec (.marchTestDone g .lastingRow) s =
      .next (s.repaired g (s.regionAt g).row (if 8 ≤ g then 6 else 3) 9 .lastingRow) := by
    change execMarchTestDone g .lastingRow s = _
    simp [execMarchTestDone, hstep, State.repaired]
  obtain ⟨hregion, hrecord, hstat⟩ := State.repaired_done hqueue (s.regionAt g).row (if 8 ≤ g then 6 else 3) 9 .lastingRow
  exact ⟨_, hexec, by rw [hregion], by rw [hregion], by rw [hregion], hrecord, hstat⟩

theorem marchTestDone_lastingColumn (g : Nat) : Completes (.marchTestDone g .lastingColumn)
    (fun s => (s.regionAt g).step = 2 ∧ (s.regionAt g).queue = [] ∧ g < 8 ∧ 0 < s.colsFree g (s.regionAt g).row) fun s t =>
    (t.regionAt g).step = 0 ∧ (t.regionAt g).usedRows = (s.regionAt g).usedRows - 1 ∧
    (t.regionAt g).usedCols = (s.regionAt g).usedCols + 1 ∧
    (t.regionAt g).repairs = (s.regionAt g).repairs ++ [{ row := (s.regionAt g).row, verdict := .lastingColumn, bcnt := s.tku.bcnt }] ∧
    t.mem.toRecord = s.mem.toRecord ++ [s.newEntry 4 0 g (s.regionAt g).row] ∧
    t.statAt gMem g 10 = (s.statAt gMem g 10).add 1 := by
  rintro s ⟨hstep, hqueue, hg, hfree⟩
  let u := (s.modRegion g fun x => { x with usedRows := x.usedRows - 1 }).modRegion g fun x => { x with usedCols := x.usedCols + 1 }
  have hexec : exec (.marchTestDone g .lastingColumn) s = .next (u.repaired g (s.regionAt g).row 4 10 .lastingColumn) := by
    change execMarchTestDone g .lastingColumn s = _
    simp [execMarchTestDone, hstep, hg, hfree, State.repaired, u]
  have hu : u.regionAt g =
      { s.regionAt g with usedRows := (s.regionAt g).usedRows - 1, usedCols := (s.regionAt g).usedCols + 1 } := by
    rw [State.regionAt_modRegion_self, State.regionAt_modRegion_self]
  obtain ⟨hregion, hrecord, hstat⟩ :=
    State.repaired_done (s := u) ((congrArg Region.queue hu).trans hqueue) (s.regionAt g).row 4 10 .lastingColumn
  rw [hu] at hregion
  exact ⟨_, hexec, by rw [hregion], by rw [hregion], by rw [hregion], by rw [hregion]; rfl, hrecord, hstat⟩

theorem marchTestDone_wholeUnit (g : Nat) : Completes (.marchTestDone g .lastingRow)
    (fun s => (s.regionAt g).step = 3 ∧ (s.regionAt g).queue = [] ∧ (g = 3 ∨ g = 4) ∧ 0 < s.rowsFree g (s.regionAt g).row) fun s t =>
    (t.regionAt g).step = 0 ∧ (t.regionAt g).usedRows = (s.regionAt g).usedRows + 1 ∧
    (t.regionAt g).repairs = (s.regionAt g).repairs ++ [{ row := (s.regionAt g).row, verdict := .lastingRow, bcnt := s.tku.bcnt }] ∧
    t.mem.toRecord = s.mem.toRecord ++ [s.newEntry 3 0 g (s.regionAt g).row] ∧
    t.statAt gMem g 9 = (s.statAt gMem g 9).add 1 := by
  rintro s ⟨hstep, hqueue, hg, hfree⟩
  let u := s.modRegion g fun x => { x with usedRows := x.usedRows + 1 }
  have hwhole : wholeUnit g = true := by simpa [wholeUnit] using hg
  have hexec : exec (.marchTestDone g .lastingRow) s = .next (u.repaired g (s.regionAt g).row 3 9 .lastingRow) := by
    change execMarchTestDone g .lastingRow s = _
    simp [execMarchTestDone, hstep, hwhole, hfree, State.repaired, u]
  have hu : u.regionAt g = { s.regionAt g with usedRows := (s.regionAt g).usedRows + 1 } := State.regionAt_modRegion_self ..
  obtain ⟨hregion, hrecord, hstat⟩ :=
    State.repaired_done (s := u) ((congrArg Region.queue hu).trans hqueue) (s.regionAt g).row 3 9 .lastingRow
  rw [hu] at hregion
  exact ⟨_, hexec, by rw [hregion], by rw [hregion], by rw [hregion]; rfl, hrecord, hstat⟩

/-- A region without a spare for a row: the row's echoes are pinned (R546). -/
def State.spent (s : State) (g row : Nat) : State :=
  let u := (s.bump gMem g 11).modRegion g fun x => { x with exhausted := true, pinnedRows := x.pinnedRows ++ [row] }
  { u with mem := { u.mem with echo := u.mem.echo.map fun e : Echo =>
    ({ e with pinned := e.pinned || decide (e.region = g ∧ e.row = row) } : Echo) } }

theorem State.exhaust_eq (s : State) (g row : Nat) :
    s.exhaust g row = (s.spent g row).raise evMemSparesExhausted [Word.nat g, Word.nat row] := rfl

theorem State.regionAt_spent (s : State) (g row : Nat) : (s.spent g row).regionAt g =
    { s.regionAt g with exhausted := true, pinnedRows := (s.regionAt g).pinnedRows ++ [row] } :=
  State.regionAt_modRegion_self (s := s.bump gMem g 11) g fun x => { x with exhausted := true, pinnedRows := x.pinnedRows ++ [row] }

theorem State.spent_frame (s : State) (g row : Nat) : Keep 0x800020000 s (s.spent g row) := by
  unfold State.spent
  extract_lets u mem
  exact Keep.set_mem (.inr rfl) (.inl rfl) id (fun h => (List.length_map ..).trans_le h)
    (Keep.modRegion rfl (Keep.bump rfl (Keep.refl _ _)))

theorem marchTestDone_exhausted (g : Nat) : Completes (.marchTestDone g .lastingRow)
    (fun s => (s.regionAt g).step = 3 ∧ (s.regionAt g).queue = [] ∧
      ((g ≠ 3 ∧ g ≠ 4) ∨ s.rowsFree g (s.regionAt g).row = 0) ∧ s.hears) fun s t =>
    (t.regionAt g).step = 0 ∧ (t.regionAt g).exhausted = true ∧
    (t.regionAt g).pinnedRows = (s.regionAt g).pinnedRows ++ [(s.regionAt g).row] ∧
    Raises s t evMemSparesExhausted [Word.nat g, Word.nat (s.regionAt g).row] := by
  rintro s ⟨hstep, hqueue, hnone, hears⟩
  have hexec : exec (.marchTestDone g .lastingRow) s = .next ((s.exhaust g (s.regionAt g).row).nextRow g).settle := by
    change execMarchTestDone g .lastingRow s = _
    have hno : ¬(wholeUnit g = true ∧ 0 < s.rowsFree g (s.regionAt g).row) := by
      simp only [wholeUnit, Bool.or_eq_true, beq_iff_eq]
      omega
    simp [execMarchTestDone, hstep, hno]
  have hregion : (s.exhaust g (s.regionAt g).row).regionAt g =
      { s.regionAt g with exhausted := true, pinnedRows := (s.regionAt g).pinnedRows ++ [(s.regionAt g).row] } := by
    rw [State.exhaust_eq, (State.raise_frame ..).regionAt_eq rfl, State.regionAt_spent]
  have hend : ((s.exhaust g (s.regionAt g).row).nextRow g).settle.regionAt g = { s.regionAt g with
      exhausted := true, pinnedRows := (s.regionAt g).pinnedRows ++ [(s.regionAt g).row], step := 0, row := 0 } := by
    rw [(State.settle_frame _).regionAt_eq rfl, State.nextRow_of_empty (by rw [hregion]; exact hqueue),
      State.regionAt_modRegion_self, hregion]
  refine ⟨_, hexec, by rw [hend], by rw [hend], by rw [hend], ?_⟩
  exact Raises.of_keep hears (s.spent_frame g _) rfl
    (State.settle_keep _ rfl (State.nextRow_keep _ g rfl (Keep.refl 0x20800005b08 _))) rfl

/-! The record's append and the refresh. -/

theorem repairRecordAppend_completes (e : RepairEntry) (es : List RepairEntry) : Completes .repairRecordAppend
    (fun s => s.mem.toRecord = e :: es ∧ s.rep.entries.length < 2048 ∧ s.hears) fun s t =>
    t.mem.toRecord = es ∧ t.rep.entries = s.rep.entries ++ [e] ∧ t.rep.gen = s.rep.gen + 1 ∧
    Raises s t evMemRepaired [Word.nat e.unit, Word.nat e.location, Word.nat (if e.kind = 4 then 2 else 1),
      Word.nat (if e.kind = 4 then s.colsFree e.unit e.location else s.rowsFree e.unit e.location)] := by
  rintro s ⟨hrecord, hroom, hears⟩
  let u : State := { s with
    mem := { s.mem with toRecord := es }, rep := { s.rep with entries := s.rep.entries ++ [e], gen := s.rep.gen + 1 } }
  have hu : ({ s with mem := { s.mem with toRecord := es } } : State).appendEntry e = u := if_neg (Nat.not_le.2 hroom)
  have hexec : exec .repairRecordAppend s = .next (u.raise evMemRepaired [Word.nat e.unit, Word.nat e.location,
      Word.nat (if e.kind = 4 then 2 else 1),
      Word.nat (if e.kind = 4 then s.colsFree e.unit e.location else s.rowsFree e.unit e.location)]).settle := by
    change execRepairRecordAppend s = _
    simp only [execRepairRecordAppend, hrecord, hu]
    rfl
  have hrep := State.settle_frame (u.raise evMemRepaired [Word.nat e.unit, Word.nat e.location,
      Word.nat (if e.kind = 4 then 2 else 1),
      Word.nat (if e.kind = 4 then s.colsFree e.unit e.location else s.rowsFree e.unit e.location)])
  have hraise := hrep.step rfl (State.raise_keep _ _ _ rfl (Keep.refl 0x20000005b08 u))
  have hrep' := hraise.1 .rep rfl
  refine ⟨_, hexec, hraise.toRecord_eq rfl, (congrArg (fun x : Rep => x.entries) hrep').symm, (congrArg (fun x : Rep => x.gen) hrep').symm, ?_⟩
  have hbefore : Keep 0x1800000300 s u :=
    hu ▸ State.appendEntry_keep _ e rfl (Keep.set_mem (.inr rfl) (.inl rfl) id id (Keep.refl _ _))
  exact Raises.of_keep hears hbefore rfl hrep rfl

theorem refreshCommand_completes (die : Nat) : Completes (.refreshCommand die) (fun s => s.hears) fun s t =>
    t.multOf die = (s.multNow die).1 ∧
    ((s.multNow die).1 ≠ s.multOf die → Raises s t evMemRefresh
      [Word.nat die, Word.nat (s.multOf die), Word.nat (s.multNow die).1, Word.nat (s.multNow die).2]) ∧
    OnlyChanges [.memRest, .evRaised, .evQueue] s t := by
  intro s hears
  let u : State := { s with mem := { s.mem with mult := tset s.mem.mult (fun _ => 1) die (s.multNow die).1 } }
  have hexec : exec (.refreshCommand die) s = .next (if (s.multNow die).1 = s.multOf die then s
      else u.raise evMemRefresh
        [Word.nat die, Word.nat (s.multOf die), Word.nat (s.multNow die).1, Word.nat (s.multNow die).2]) := rfl
  refine ⟨_, hexec, ?_, fun hchange => ?_, (execRefreshCommand_keep die s hexec).among rfl⟩
  · split
    · next h => exact h.symm
    · exact (congrArg (fun x : Mem => tget x.mult (fun _ => 1) die) ((State.raise_frame u ..).mem_eq rfl rfl)).trans
        (tget_tset_same s.mem.mult (fun _ => 1) die (s.multNow die).1)
  · rw [if_neg hchange]
    exact Raises.of_keep (n := 0) (u := u) hears (Keep.set_mem (m := 0x800000000) (.inr rfl) (.inl rfl) id id (Keep.refl _ _)) rfl
      (Keep.refl _ _) rfl

end

/-- Settles O43, clause by clause. -/
theorem memoryRepairCompletes : Obligations.MemoryRepairCompletes :=
  ⟨echoEntryExpiry_completes, repairCopyDone_completes, marchTestDone_transient, marchTestDone_lastingRow, marchTestDone_lastingColumn,
    marchTestDone_wholeUnit, marchTestDone_exhausted, repairRecordAppend_completes, refreshCommand_completes⟩

end Sys2Proof.Machine
end

section
/-! PROOFS. Dumps, sampling records and the settings of the performance counters (O45; R666, R669, R670, R674 to R682). -/

namespace Sys2Proof.Machine

section
variable {s t : State}

/-- A field of the counters' unit that is no counter. -/
theorem Keep.pmcRest_eq {α : Type} {m : Nat} (h : Keep m s t) (hm : m.testBit 42 = false) (f : Pmcs → α)
    (hf : ∀ x : Pmcs, f x.rest = f x) : f t.pmc = f s.pmc := by
  have hrest : s.pmc.rest = t.pmc.rest := h.1 .pmcRest hm
  rw [← hf, ← hrest, hf]

theorem Keep.pmcAt_eq {m : Nat} (h : Keep m s t) (hm : m.testBit 41 = false) (k : Nat) : t.pmcAt k = s.pmcAt k :=
  congrArg (fun x : Tbl Pmc => tget x (fun _ => {}) k) (h.1 .pmcCtr hm).symm

/-! A dump is read. -/

theorem Pmc.drained_drained (c : Pmc) : c.drained.drained = c.drained := by
  obtain ⟨ev, drain, value, total⟩ := c
  cases drain <;> simp [Pmc.drained]

theorem State.pmcAt_drainAll (ks : Tbl Pmc) (s : State) (k : Nat) :
    (ks.foldl (fun s c => s.setPmc c.1 (s.pmcAt c.1).drained) s).pmcAt k =
      if k ∈ ks.map Prod.fst then (s.pmcAt k).drained else s.pmcAt k := by
  induction ks generalizing s with
  | nil => rfl
  | cons c cs ih =>
    rw [List.foldl_cons, ih, State.pmcAt_setPmc]
    by_cases hk : k = c.1
    · subst hk
      simp [Pmc.drained_drained]
    · simp only [hk, if_false, List.map_cons, List.mem_cons, false_or]

/-- A dump drains every counter, also one that nothing has counted in. -/
theorem State.pmcAt_dumpRead (s : State) (late flush : Bool) (k : Nat) : (s.dumpRead late flush).pmcAt k = (s.pmcAt k).drained := by
  refine (State.pmcAt_drainAll s.pmc.ctr s k).trans ?_
  split
  · rfl
  · next hk =>
    have habsent : s.pmcAt k = {} := tget_of_absent _ fun p hp hpk => hk (hpk ▸ List.mem_map_of_mem hp)
    rw [habsent]
    rfl

theorem State.startDump_of_none (late flush : Bool) (ts : List Ticket) (h : s.pmc.dump = none) :
    s.startDump late flush ts = { s.dumpRead late flush with pmc := { (s.dumpRead late flush).pmc with tickets := ts } } := by
  simp only [State.startDump, h]

/-- A dump that starts was read at this tick. -/
theorem State.dump_startDump (late flush : Bool) (ts : List Ticket) (h : s.pmc.dump = none) :
    ∃ x, (s.startDump late flush ts).pmc.dump = some x ∧ x.at_ = s.tku.bcnt ∧ x.late = late ∧ x.flush = flush := by
  rw [State.startDump_of_none late flush ts h]
  exact ⟨_, rfl, rfl, rfl, rfl⟩

theorem State.pmcAt_startDump (late flush : Bool) (ts : List Ticket) (h : s.pmc.dump = none) (k : Nat) :
    (s.startDump late flush ts).pmcAt k = (s.pmcAt k).drained := by
  rw [State.startDump_of_none late flush ts h]
  exact s.pmcAt_dumpRead late flush k

theorem State.late_startDump (late flush : Bool) (ts : List Ticket) (h : s.pmc.dump = none) :
    (s.startDump late flush ts).pmc.late = s.pmc.late := by
  rw [State.startDump_of_none late flush ts h]
  exact List.foldlRecOn (motive := fun u : State => u.pmc.late = s.pmc.late) s.pmc.ctr _ rfl fun _ hu _ _ => hu

theorem State.pmcRuns_of_mode (h : s.live ∨ s.dev.mode = .dormant ∨ s.dev.mode = .workshop) : s.pmcRuns = true := by
  rcases h with h | h | h <;> simp [State.pmcRuns, h]

end

theorem pmcDumpIntervalExpiry_reads (kept : Nat) : Completes (.pmcDumpIntervalExpiry 0 kept)
    (fun s => (s.live ∨ s.dev.mode = .dormant ∨ s.dev.mode = .workshop) ∧ s.pmc.dump = none)
    fun s t => (∃ x, t.pmc.dump = some x ∧ x.at_ = s.tku.bcnt ∧ x.late = false ∧ x.flush = false) ∧
      ∀ k,
        (t.pmcAt k).value = (if (s.pmcAt k).drain then 0 else (s.pmcAt k).value) ∧
        (t.pmcAt k).total = (if (s.pmcAt k).drain then ((s.pmcAt k).total + (s.pmcAt k).value) % 2 ^ 64 else (s.pmcAt k).total) := by
  rintro s ⟨hmode, hdump⟩
  have hexec : exec (.pmcDumpIntervalExpiry 0 kept) s = .next (s.startDump false false []) := by
    change execPmcDumpIntervalExpiry 0 kept s = _
    rw [execPmcDumpIntervalExpiry, if_pos ⟨State.pmcRuns_of_mode hmode, hdump⟩]
    rfl
  refine ⟨_, hexec, State.dump_startDump _ _ _ hdump, fun k => ?_⟩
  rw [State.pmcAt_startDump _ _ _ hdump, Pmc.drained]
  split <;> exact ⟨rfl, rfl⟩

theorem pmcDumpIntervalExpiry_late (delay kept : Nat) : Completes (.pmcDumpIntervalExpiry delay kept)
    (fun s => (s.live ∨ s.dev.mode = .dormant ∨ s.dev.mode = .workshop) ∧ s.pmc.dump = none ∧ 0 < delay ∧ s.hears)
    fun s t => (∃ x, t.pmc.dump = some x ∧ x.late = true) ∧ t.pmc.late = s.pmc.late + 1 ∧
      Raises s t evPmcDumpLate [Word.nat delay, Word.nat 6, Word.nat kept] := by
  rintro s ⟨hmode, hdump, hdelay, hears⟩
  let u := s.startDump true false []
  let v := ({ u with pmc := { u.pmc with late := u.pmc.late + 1 } } : State).countYield 6 kept
  have hexec : exec (.pmcDumpIntervalExpiry delay kept) s =
      .next (v.raise evPmcDumpLate [Word.nat delay, Word.nat 6, Word.nat kept]) := by
    change execPmcDumpIntervalExpiry delay kept s = _
    rw [execPmcDumpIntervalExpiry, if_pos ⟨State.pmcRuns_of_mode hmode, hdump⟩, decide_eq_true hdelay]
    dsimp only
    rw [if_neg (by omega)]
    rfl
  have hbefore : Keep 0x70000020000 s v := State.countYield_keep _ _ _ rfl
    (Keep.set_pmc rfl rfl (State.startDump_keep _ _ _ _ rfl (Keep.refl _ _)))
  have hafter : Keep 0x10000000300 ({ u with pmc := { u.pmc with late := u.pmc.late + 1 } } : State)
      (v.raise evPmcDumpLate [Word.nat delay, Word.nat 6, Word.nat kept]) :=
    State.raise_keep _ _ _ rfl (State.countYield_keep _ _ _ rfl (Keep.refl _ _))
  obtain ⟨x, hx, -, hlate, -⟩ := State.dump_startDump true false [] hdump
  refine ⟨_, hexec, ⟨x, ?_, hlate⟩, ?_, Raises.of_keep (n := 0) hears hbefore rfl (Keep.refl _ _) rfl⟩
  · exact (hafter.pmcRest_eq rfl Pmcs.dump fun _ => rfl).trans hx
  · exact (hafter.pmcRest_eq rfl Pmcs.late fun _ => rfl).trans (congrArg (· + 1) (State.late_startDump _ _ _ hdump))

/-! A dump is written. -/

/-- The dump that was read stands in telemetry memory, and the sequence number moves on. -/
def State.dumpStored (s : State) (x : PmcDump) : State :=
  let flags := dumpFlags x.late x.flush s.pmc.last.isNone
  let h := dumpHeader s.pmc.d x.at_.toNat s.pmcInterval flags
  let u := (s.telPut (telPmc + 0x200000 * (s.pmc.d % 2)) (pmcBuffer x s.pmc.last.isNone s.engines h)).telPut
    (telHist + 0x40000 * (s.pmc.d % 112)) (s.statRecord x s.pmc.last.isNone h)
  { u with pmc := { u.pmc with dump := none, tickets := [], d := s.pmc.d + 1, last := some s.pmc.d } }

/-- The FLUSHes that the dump serves have ended, and DMA has its two records to push. -/
def State.dumpServed (s : State) (x : PmcDump) : State :=
  ((s.pmc.tickets.foldl (fun s t => s.finish t cDone 0) (s.dumpStored x)).dmaDue 1 s.pmc.d
    (telemetry + telPmc + 0x200000 * (s.pmc.d % 2)) x.late x.flush).dmaDue 5 s.pmc.d
    (telemetry + telHist + 0x40000 * (s.pmc.d % 112)) x.late x.flush

theorem State.dumpStored_frame (s : State) (x : PmcDump) : Keep 0x60c00000300 s (s.dumpStored x) := by
  unfold State.dumpStored
  extract_lets flags h u
  exact Keep.set_pmc rfl rfl (State.telPut_keep _ _ _ rfl (State.telPut_keep _ _ _ rfl (Keep.refl _ _)))

theorem State.dumpServed_frame (s : State) (x : PmcDump) : Keep 0x20000003b80 (s.dumpStored x) (s.dumpServed x) :=
  State.dmaDue_keep _ _ _ _ _ _ rfl (State.dmaDue_keep _ _ _ _ _ _ rfl
    (Keep.foldl _ (fun u t hu => u.finish_keep t _ _ rfl hu) (Keep.refl _ _)))

theorem State.again_dumpStored (s : State) (x : PmcDump) : (s.dumpStored x).pmc.again = s.pmc.again := by
  unfold State.dumpStored
  extract_lets flags h u
  exact Keep.pmcRest_eq (m := 0x20c00000300) (State.telPut_keep _ _ _ rfl (State.telPut_keep _ _ _ rfl (Keep.refl _ _))) rfl
    Pmcs.again fun _ => rfl

/-- The dump that waited for the one that is written starts. -/
def State.nextDump (s : State) : State :=
  match s.pmc.again with
  | none => s
  | some fl => ({ s with pmc := { s.pmc with again := none, waiting := [] } }).startDump false fl s.pmc.waiting

/-- A dump that no other follows. -/
theorem State.dumpWritten_of_last {s : State} {x : PmcDump} (hdump : s.pmc.dump = some x) (hagain : s.pmc.again = none) :
    s.dumpWritten = (s.dumpServed x).raise evPmcDumpDone
      [Word.nat s.pmc.d, Word.nat (s.pmc.d % 2), Word.nat (dumpFlags x.late x.flush s.pmc.last.isNone)] := by
  have hnone : ((s.dumpServed x).raise evPmcDumpDone
      [Word.nat s.pmc.d, Word.nat (s.pmc.d % 2), Word.nat (dumpFlags x.late x.flush s.pmc.last.isNone)]).pmc.again = none := by
    have hkeep := State.raise_keep _ evPmcDumpDone
      [Word.nat s.pmc.d, Word.nat (s.pmc.d % 2), Word.nat (dumpFlags x.late x.flush s.pmc.last.isNone)] rfl (s.dumpServed_frame x)
    rw [hkeep.pmcRest_eq rfl Pmcs.again fun _ => rfl, s.again_dumpStored, hagain]
  have hwritten : s.dumpWritten = ((s.dumpServed x).raise evPmcDumpDone
      [Word.nat s.pmc.d, Word.nat (s.pmc.d % 2), Word.nat (dumpFlags x.late x.flush s.pmc.last.isNone)]).nextDump := by
    simp only [State.dumpWritten, hdump]
    rfl
  rw [hwritten, State.nextDump, hnone]

theorem pmcDumpWritten_completes (x : PmcDump) : Completes .pmcDumpWritten
    (fun s => s.pmc.dump = some x ∧ s.pmc.again = none ∧ s.hears)
    fun s t => t.pmc.dump = none ∧ t.pmc.d = s.pmc.d + 1 ∧ t.pmc.last = some s.pmc.d ∧
      Raises s t evPmcDumpDone [Word.nat s.pmc.d, Word.nat (s.pmc.d % 2),
        Word.nat (dumpFlags x.late x.flush s.pmc.last.isNone)] := by
  rintro s ⟨hdump, hagain, hears⟩
  have hkeep := State.raise_keep _ evPmcDumpDone
    [Word.nat s.pmc.d, Word.nat (s.pmc.d % 2), Word.nat (dumpFlags x.late x.flush s.pmc.last.isNone)] rfl (s.dumpServed_frame x)
  refine ⟨_, congrArg Host.Outcome.next (State.dumpWritten_of_last hdump hagain), hkeep.pmcRest_eq rfl Pmcs.dump fun _ => rfl,
    hkeep.pmcRest_eq rfl Pmcs.d fun _ => rfl, hkeep.pmcRest_eq rfl Pmcs.last fun _ => rfl, ?_⟩
  exact Raises.of_keep (m := 0x60c00003b80) (n := 0) hears ((s.dumpServed_frame x).step rfl ((s.dumpStored_frame x).step rfl (Keep.refl _ _))) rfl
    (Keep.refl _ _) rfl

/-! A sampling record is written or dropped. -/

/-- The engine has drawn its next interval. -/
def State.drawn (s : State) (e : Nat) (next : Word) : State :=
  (s.modEng e fun x => { x with lfsr := next, interval := intervalOf (2 ^ s.parN nPmcSample 0 1) next }).freeNext

/-- The second of sampling that a record falls in. -/
def State.inSecond (s : State) : State :=
  if 625000000 ≤ s.since s.pmc.winAt then { s with pmc := { s.pmc with winAt := s.tku.bcnt, winN := 0 } } else s

/-- A record is written, or dropped above 500,000 in a second. -/
def State.takeSample (s : State) (desc : Nat) : State := if s.pmc.winN < 500000 then s.sampleWrite desc else s.sampleDrop

section
variable {s : State} {e : Nat}

theorem roleNum_isSome {r : Role} (htest : r ≠ .test) (hretired : r ≠ .retired) : ∃ n, roleNum r = some n := by
  cases r with
  | test => exact absurd rfl htest
  | retired => exact absurd rfl hretired
  | _ => exact ⟨_, rfl⟩

/-- Sampling is ON for the engine, and accepted. -/
structure State.Samples (s : State) (e : Nat) : Prop where
  notTest : (s.engAt e).role ≠ .test
  notRetired : (s.engAt e).role ≠ .retired
  exists' : e < s.engines
  on : s.param nPmcSample 0 0 = 0
  accepted : s.accepts fSampling = true
  quadrant : (s.parN nPmcSample 0 2).testBit (e / 64) = true
  powered : s.dev.powered = true

theorem State.Samples.sampled (h : s.Samples e) : s.sampled e = true := by
  have hon : s.parN nPmcSample 0 0 = 0 := congrArg BitVec.toNat h.on
  simp [State.sampled, h.exists', hon, h.accepted, h.quadrant, h.powered]

theorem State.Samples.exec (h : s.Samples e) (cat op steps seg : Nat) : ∃ next desc,
    exec (.sampleIntervalExpiry e cat op steps seg) s = .next ((s.drawn e next).inSecond.takeSample desc) := by
  obtain ⟨n, hrole⟩ := roleNum_isSome h.notTest h.notRetired
  change ∃ next desc, execSampleIntervalExpiry e cat op steps seg s = _
  simp only [execSampleIntervalExpiry, hrole, h.sampled, if_true]
  exact ⟨_, _, rfl⟩

/-- A written record counts, in all and in its second. -/
theorem State.pmc_sampleWrite (s : State) (desc : Nat) :
    (s.sampleWrite desc).pmc.rest = { s.pmc.rest with recs := s.pmc.recs + 1, winN := s.pmc.winN + 1 } := by
  unfold State.sampleWrite
  extract_lets r s1 counted s2 s3
  have hs1 : s1.pmc.rest = s.pmc.rest := ((State.telPut_keep _ _ _ rfl (Keep.refl 0x20c00000300 _)).1 .pmcRest rfl).symm
  have hs2 : s2.pmc.rest = { s.pmc.rest with recs := s.pmc.recs + 1, winN := s.pmc.winN + 1 } :=
    congrArg (fun x : Pmcs => { x with recs := s.pmc.recs + 1, winN := x.winN + 1 }) hs1
  have hend : Keep 0x20c00002300 s2 (if (r + 1) % 128 = 0 then
      s3.dmaDue 2 (r - 127) (telemetry + telSample + 0x40 + 32 * ((r - 127) % 262142)) false false else s3) :=
    Keep.ite (State.dmaDue_keep _ _ _ _ _ _ rfl (State.telPut_keep _ _ _ rfl (Keep.refl _ _)))
      (State.telPut_keep _ _ _ rfl (Keep.refl _ _))
  exact (hend.1 .pmcRest rfl).symm.trans hs2

/-- A dropped record counts as dropped. -/
theorem State.pmc_sampleDrop (s : State) : s.sampleDrop.pmc.recs = s.pmc.recs ∧ s.sampleDrop.pmc.drops = s.pmc.drops + 1 := by
  unfold State.sampleDrop
  extract_lets n dropped s1 s2 due
  have hs2 : s2.pmc.rest = s1.pmc.rest := ((State.telPut_keep _ _ _ rfl (Keep.refl 0x20c00000300 _)).1 .pmcRest rfl).symm
  have hrecs : s2.pmc.recs = s.pmc.recs := (congrArg Pmcs.recs hs2).trans rfl
  have hdrops : s2.pmc.drops = s.pmc.drops + 1 := (congrArg Pmcs.drops hs2).trans rfl
  split
  · have hraise := State.raise_keep ({ s2 with pmc := { s2.pmc with dropSince := 0, dropAt := some s.tku.bcnt } }) evPmcSampleDrop
      [Word.nat n] rfl (Keep.refl 0x300 _)
    exact ⟨(hraise.pmcRest_eq rfl Pmcs.recs fun _ => rfl).trans hrecs, (hraise.pmcRest_eq rfl Pmcs.drops fun _ => rfl).trans hdrops⟩
  · exact ⟨hrecs, hdrops⟩

theorem State.engAt_drawn (s : State) (e : Nat) (next : Word) : (s.drawn e next).engAt e =
    { s.engAt e with lfsr := next, interval := intervalOf (2 ^ s.parN nPmcSample 0 1) next } :=
  State.engAt_modEng_self (s := s) e fun x => { x with lfsr := next, interval := intervalOf (2 ^ s.parN nPmcSample 0 1) next }

theorem State.takeSample_of_room (desc : Nat) (h : s.pmc.winN < 500000) : s.takeSample desc = s.sampleWrite desc := if_pos h

theorem State.takeSample_of_full (desc : Nat) (h : 500000 ≤ s.pmc.winN) : s.takeSample desc = s.sampleDrop :=
  if_neg (Nat.not_lt.2 h)

theorem State.inSecond_of_within (h : s.since s.pmc.winAt < 625000000) : s.inSecond = s := if_neg (by omega)

theorem State.inSecond_of_past (h : 625000000 ≤ s.since s.pmc.winAt) :
    s.inSecond = { s with pmc := { s.pmc with winAt := s.tku.bcnt, winN := 0 } } := if_pos h

end

theorem sampleIntervalExpiry_writes (e cat op steps seg : Nat) : Completes (.sampleIntervalExpiry e cat op steps seg)
    (fun s => (s.engAt e).role ≠ .test ∧ (s.engAt e).role ≠ .retired ∧ e < s.engines ∧ s.param nPmcSample 0 0 = 0 ∧
      s.accepts fSampling ∧ (s.parN nPmcSample 0 2).testBit (e / 64) ∧ s.dev.powered ∧
      s.since s.pmc.winAt < 625000000 ∧ s.pmc.winN < 500000)
    fun s t => t.pmc.recs = s.pmc.recs + 1 ∧ t.pmc.winN = s.pmc.winN + 1 ∧ t.pmc.drops = s.pmc.drops ∧
      (t.engAt e).role = (s.engAt e).role ∧
      (t.engAt e).interval = intervalOf (2 ^ s.parN nPmcSample 0 1) (t.engAt e).lfsr := by
  rintro s ⟨htest, hretired, he, hon, haccept, hquad, hpower, hwithin, hroom⟩
  obtain ⟨next, desc, hexec⟩ := State.Samples.exec ⟨htest, hretired, he, hon, haccept, hquad, hpower⟩ cat op steps seg
  have hsecond : (s.drawn e next).inSecond = s.drawn e next := State.inSecond_of_within hwithin
  rw [hsecond, State.takeSample_of_room (s := s.drawn e next) desc hroom] at hexec
  have hpmc := (s.drawn e next).pmc_sampleWrite desc
  have heng := (State.sampleWrite_keep (s.drawn e next) desc rfl (Keep.refl 0x60c00002300 _)).engAt_eq rfl e
  rw [State.engAt_drawn] at heng
  refine ⟨_, hexec, congrArg Pmcs.recs hpmc, congrArg Pmcs.winN hpmc, (congrArg Pmcs.drops hpmc).trans rfl, ?_, ?_⟩
  · rw [heng]
  · rw [heng]

theorem sampleIntervalExpiry_opens (e cat op steps seg : Nat) : Completes (.sampleIntervalExpiry e cat op steps seg)
    (fun s => (s.engAt e).role ≠ .test ∧ (s.engAt e).role ≠ .retired ∧ e < s.engines ∧ s.param nPmcSample 0 0 = 0 ∧
      s.accepts fSampling ∧ (s.parN nPmcSample 0 2).testBit (e / 64) ∧ s.dev.powered ∧
      625000000 ≤ s.since s.pmc.winAt)
    fun s t => t.pmc.recs = s.pmc.recs + 1 ∧ t.pmc.winN = 1 ∧ t.pmc.winAt = s.tku.bcnt ∧ t.pmc.drops = s.pmc.drops := by
  rintro s ⟨htest, hretired, he, hon, haccept, hquad, hpower, hpast⟩
  obtain ⟨next, desc, hexec⟩ := State.Samples.exec ⟨htest, hretired, he, hon, haccept, hquad, hpower⟩ cat op steps seg
  have hsecond : (s.drawn e next).inSecond = _ := State.inSecond_of_past hpast
  rw [hsecond, State.takeSample_of_room _ (Nat.zero_lt_succ _)] at hexec
  have hpmc := State.pmc_sampleWrite
    ({ s.drawn e next with pmc := { (s.drawn e next).pmc with winAt := (s.drawn e next).tku.bcnt, winN := 0 } }) desc
  exact ⟨_, hexec, congrArg Pmcs.recs hpmc, congrArg Pmcs.winN hpmc, (congrArg Pmcs.winAt hpmc).trans rfl, (congrArg Pmcs.drops hpmc).trans rfl⟩

theorem sampleIntervalExpiry_drops (e cat op steps seg : Nat) : Completes (.sampleIntervalExpiry e cat op steps seg)
    (fun s => (s.engAt e).role ≠ .test ∧ (s.engAt e).role ≠ .retired ∧ e < s.engines ∧ s.param nPmcSample 0 0 = 0 ∧
      s.accepts fSampling ∧ (s.parN nPmcSample 0 2).testBit (e / 64) ∧ s.dev.powered ∧
      s.since s.pmc.winAt < 625000000 ∧ 500000 ≤ s.pmc.winN)
    fun s t => t.pmc.recs = s.pmc.recs ∧ t.pmc.drops = s.pmc.drops + 1 := by
  rintro s ⟨htest, hretired, he, hon, haccept, hquad, hpower, hwithin, hfull⟩
  obtain ⟨next, desc, hexec⟩ := State.Samples.exec ⟨htest, hretired, he, hon, haccept, hquad, hpower⟩ cat op steps seg
  have hsecond : (s.drawn e next).inSecond = s.drawn e next := State.inSecond_of_within hwithin
  rw [hsecond, State.takeSample_of_full (s := s.drawn e next) desc hfull] at hexec
  exact ⟨_, hexec, (s.drawn e next).pmc_sampleDrop⟩

/-! SET and CLEAR of a counter. -/

/-- The counter is the same but for what counts in it. -/
def Pmc.Counts (x y : Pmc) : Prop := ∃ v sat, y = { x with value := v, sat := sat }

theorem Pmc.Counts.refl (x : Pmc) : x.Counts x := ⟨_, _, rfl⟩

theorem Pmc.Counts.trans {x y z : Pmc} (h : x.Counts y) (h' : y.Counts z) : x.Counts z := by
  obtain ⟨v, sat, rfl⟩ := h
  obtain ⟨v', sat', rfl⟩ := h'
  exact ⟨v', sat', rfl⟩

section
variable (s : State) (k : Nat)

theorem State.pmcAt_pmcAdd (j n : Nat) : (s.pmcAt k).Counts ((s.pmcAdd j n).pmcAt k) := by
  have hset : ∀ v sat, (s.pmcAt k).Counts ((s.setPmc j { s.pmcAt j with value := v, sat := sat }).pmcAt k) := fun v sat => by
    rw [State.pmcAt_setPmc]
    split
    · next h => exact h ▸ ⟨v, sat, rfl⟩
    · exact Pmc.Counts.refl _
  unfold State.pmcAdd
  extract_lets c s1
  split
  · exact hset _ _
  · split
    · exact hset _ _
    · rw [(State.raise_frame s1 _ _).pmcAt_eq rfl]
      exact hset _ _

theorem State.pmcAt_pmcEvent (ev n : Nat) : (s.pmcAt k).Counts ((s.pmcEvent ev n).pmcAt k) :=
  List.foldlRecOn (motive := fun u : State => (s.pmcAt k).Counts (u.pmcAt k)) _ _ (Pmc.Counts.refl _)
    fun u hu j _ => hu.trans (u.pmcAt_pmcAdd k j n)

theorem State.pmcAt_sendVec (r : Requester) (v : Nat) : (s.pmcAt k).Counts ((s.sendVec r v).pmcAt k) := by
  unfold State.sendVec
  extract_lets x s1 hif
  split
  · exact Pmc.Counts.refl _
  · exact State.pmcAt_pmcEvent ..

theorem State.pmcAt_enterPending (r : Requester) (src : Nat) : (s.pmcAt k).Counts ((s.enterPending r src).pmcAt k) := by
  unfold State.enterPending
  split
  · split <;> exact Pmc.Counts.refl _
  · extract_lets v urgent s1 s2
    split
    · split
      · exact Pmc.Counts.refl _
      · split
        · exact State.pmcAt_sendVec s1 k r v
        · exact Pmc.Counts.refl _
    · have hs2 : s2.pmc = s.pmc := by
        unfold s2
        split <;> rfl
      have hcounts : (s.pmcAt k).Counts (s2.pmcAt k) := by
        rw [State.pmcAt, State.pmcAt, hs2]
        exact Pmc.Counts.refl _
      split <;> exact hcounts

theorem State.pmcAt_edge (r : Requester) (src : Nat) : (s.pmcAt k).Counts ((s.edge r src).pmcAt k) := by
  unfold State.edge
  split
  · split
    · exact State.pmcAt_enterPending (s.modSrc r src _) k r src
    · exact Pmc.Counts.refl _
    · exact Pmc.Counts.refl _
    · exact Pmc.Counts.refl _
  · exact Pmc.Counts.refl _

end

theorem State.pmcAt_complete (s : State) (k : Nat) (m : Sentence) (code detail : Nat) (o : Obj) (ws : List Word) (j : Nat) :
    (s.pmcAt k).Counts ((s.complete m code detail o ws j).pmcAt k) := by
  unfold State.complete
  extract_lets s1 mb s2
  split
  · exact Pmc.Counts.refl _
  · exact State.pmcAt_edge s2 k m.req m.mbx

/-- A reply without a signal counts in no counter. -/
theorem State.pmcAt_complete_quiet {s : State} {m : Sentence} (hquiet : m.quiet = true) (k : Nat) (code detail : Nat) (o : Obj)
    (ws : List Word) (j : Nat) : (s.complete m code detail o ws j).pmcAt k = s.pmcAt k := by
  rw [State.complete, if_pos hquiet]
  rfl

/-- DONE, for an effect whose reply is looked at. -/
theorem carries_done_complete {c : Sentence → Instr} {k : CmdSpec} {check : State → Sentence → List Word → Option Refuse}
    {act : State → Sentence → List Word → State × Reply} {echo : State → Nat → List Word} {pre : Sentence → State → Prop}
    {post : Sentence → State → State → Prop}
    (hexec : ∀ m s, exec (c m) s = .next (submit k.verb k.noun (process k check act echo) m s))
    (h : ∀ m s, s.Takes k m → pre m s → check (s.begun k.verb k.noun m) m (payloadOf m) = none ∧
      ∃ e out n, act (s.begun k.verb k.noun m) m (payloadOf m) = (e, .done out n) ∧
        e.mb.box = (s.begun k.verb k.noun m).mb.box ∧ ∀ o ws j, post m s (e.complete m cDone 0 o ws j)) :
    Carries c k pre fun m s t => Replied s t m cDone 0 ∧ post m s t := by
  intro m s htakes hm hpre
  obtain ⟨hcheck, e, out, n, hact, hbox, hpost⟩ := h m s htakes hpre
  obtain ⟨o, ws, j, hsubmit⟩ := submit_of_done (echo := echo) htakes hm hcheck hact
  exact ⟨_, (hexec m s).trans (congrArg Host.Outcome.next hsubmit), State.complete_replied cDone 0 o ws j hbox, hpost o ws j⟩

theorem State.pmcExists_begun (s : State) (verb noun : Nat) (m : Sentence) (k : Nat) :
    (s.begun verb noun m).pmcExists k = s.pmcExists k :=
  s.begun_congr verb noun m (State.pmcExists · k) fun _ _ _ _ => rfl

/-- The three words of SET on a counter. -/
theorem setPmc_payload {m : Sentence} {k ev md : Nat} (h : payloadOf m = [Word.nat k, Word.nat ev, Word.nat md]) (hk : k < 2304)
    (hev : ev < 0x200) (hmd : md ≤ 1) : ((payloadOf m).getD 0 0).toNat = k ∧ ((payloadOf m).getD 1 0).toNat = ev ∧
      ((payloadOf m).getD 2 0).toNat = md := by
  rw [h]
  exact ⟨Word.toNat_nat (by omega), Word.toNat_nat (by omega), Word.toNat_nat (by omega)⟩

/-- A counter as SET leaves it. -/
def State.counterSet (s : State) (k ev md : Nat) : State :=
  s.setPmc k { (s.pmcAt k).restart with event := ev, drain := decide (md = 1) }

theorem setPmcCounter_carries (k ev md : Nat) : Carries .setPmcCounter specSetPmcCounter
    (fun m s => payloadOf m = [Word.nat k, Word.nat ev, Word.nat md] ∧ k < 2304 ∧ ev < 0x200 ∧ md ≤ 1 ∧ s.pmcExists k ∧
      eventFits k ev)
    (fun m s t => Replied s t m cDone 0 ∧ (t.pmcAt k).event = ev ∧ (t.pmcAt k).drain = decide (md = 1) ∧
      (t.pmcAt k).total = 0 ∧ (m.quiet → (t.pmcAt k).value = 0) ∧
      (t.pmcAt k).disc0 = true ∧ (t.pmcAt k).disc1 = true ∧ (t.pmcAt k).discD = true) := by
  refine carries_done_complete (fun _ _ => rfl) fun m s _ ⟨hpayload, hk, hev, hmd, hexists, hfits⟩ => ?_
  obtain ⟨h0, h1, h2⟩ := setPmc_payload hpayload hk hev hmd
  have hexists' := (s.pmcExists_begun specSetPmcCounter.verb specSetPmcCounter.noun m k).trans hexists
  generalize s.begun specSetPmcCounter.verb specSetPmcCounter.noun m = u at hexists' ⊢
  have hact : ∃ out n, actSetPmc u m (payloadOf m) = (u.counterSet k ev md, .done out n) := by
    simp only [actSetPmc, h0, h1, h2]
    cases m.echo <;> exact ⟨_, _, rfl⟩
  obtain ⟨out, n, hact⟩ := hact
  have hset : (u.counterSet k ev md).pmcAt k = { (u.pmcAt k).restart with event := ev, drain := decide (md = 1) } :=
    State.pmcAt_setPmc_self ..
  refine ⟨?_, _, out, n, hact, rfl, fun o ws j => ?_⟩
  · rw [checkSetPmc, checkPmcNumber, h0, h1, h2, if_pos hexists', if_pos ⟨hfits, hmd⟩]
    rfl
  · obtain ⟨v, sat, hcounts⟩ := (u.counterSet k ev md).pmcAt_complete k m cDone 0 o ws j
    have hquiet : m.quiet = true → (((u.counterSet k ev md).complete m cDone 0 o ws j).pmcAt k).value = 0 := fun hq => by
      rw [State.pmcAt_complete_quiet hq, hset]
      rfl
    refine ⟨?_, ?_, ?_, hquiet, ?_, ?_, ?_⟩
    all_goals simp only [hcounts, hset, Pmc.restart]

theorem setPmcCounter_carries_refused (k ev md : Nat) : Carries .setPmcCounter specSetPmcCounter
    (fun m s => payloadOf m = [Word.nat k, Word.nat ev, Word.nat md] ∧ k < 2304 ∧ ev < 0x200 ∧ md ≤ 1 ∧ s.pmcExists k ∧
      eventFits k ev = false)
    (fun m s t => Replied s t m cResource 1) := by
  refine Carries.imp (carries_refused (post := fun _ _ _ => True) (fun _ _ => rfl)
    fun m s _ ⟨hpayload, hk, hev, hmd, hexists, hfits⟩ => ⟨?_, fun _ _ => trivial⟩) fun _ _ _ ht => ht.1
  obtain ⟨h0, h1, h2⟩ := setPmc_payload hpayload hk hev hmd
  rw [checkSetPmc, checkPmcNumber, h0, h1, h2, State.pmcExists_begun, if_pos hexists, if_neg (by simp [hfits])]
  rfl

theorem clearPmcCounter_carries (k : Nat) : Carries .clearPmcCounter specClearPmcCounter
    (fun m s => payloadOf m = [Word.nat k] ∧ k < 2304 ∧ s.pmcExists k)
    (fun m s t => Replied s t m cDone 0 ∧ (t.pmcAt k).total = 0 ∧ (t.pmcAt k).disc0 = true ∧
      (t.pmcAt k).disc1 = true ∧ (t.pmcAt k).discD = true ∧
      (m.quiet → (t.pmcAt k).value = 0 ∧ (t.pmcAt k).sat = false)) := by
  refine carries_done_complete (fun _ _ => rfl) fun m s _ ⟨hpayload, hk, hexists⟩ => ?_
  have h0 := payload_number hpayload (by omega)
  have hone : (payloadOf m).getD 0 0 ≠ allCounters := fun h => by
    rw [h] at h0
    have hall : allCounters.toNat = 4294967295 := rfl
    omega
  have hexists' := (s.pmcExists_begun specClearPmcCounter.verb specClearPmcCounter.noun m k).trans hexists
  generalize s.begun specClearPmcCounter.verb specClearPmcCounter.noun m = u at hexists' ⊢
  have hact : actClearPmc u m (payloadOf m) = (u.setPmc k { (u.pmcAt k).restart with sat := false }, .done [] 0) := by
    rw [actClearPmc, if_neg hone, h0]
    rfl
  have hbox : (u.setPmc k { (u.pmcAt k).restart with sat := false }).mb.box = u.mb.box := rfl
  have hset := u.pmcAt_setPmc_self k { (u.pmcAt k).restart with sat := false }
  generalize u.setPmc k { (u.pmcAt k).restart with sat := false } = v at *
  refine ⟨?_, v, [], 0, hact, hbox, fun o ws j => ?_⟩
  · rw [checkClearPmc, if_neg hone, checkPmcNumber, h0, if_pos hexists']
  · obtain ⟨n, sat, hcounts⟩ := v.pmcAt_complete k m cDone 0 o ws j
    refine ⟨?_, ?_, ?_, ?_, fun hq => ?_⟩
    on_goal 5 =>
      rw [State.pmcAt_complete_quiet hq, hset]
      exact ⟨rfl, rfl⟩
    all_goals simp only [hcounts, hset, Pmc.restart]

/-! FLUSH. -/

theorem flushPmcDump_carries : Carries .flushPmcDump specFlushPmcDump (fun m s => s.pmc.dump = none ∧ ticketCheck m s = none)
    (fun m s t => Replied s t m cAccepted 0 ∧ outstOf specFlushPmcDump m ∈ t.mb.outstanding ∧
      t.pmc.tickets = [ticketOf m] ∧ ∃ x, t.pmc.dump = some x ∧ x.flush = true) := by
  refine carries_accepted (fun _ _ => rfl) fun m s _ ⟨hdump, hticket⟩ => ?_
  have hnone := ((s.begun_frame specFlushPmcDump.verb specFlushPmcDump.noun m).pmcRest_eq rfl Pmcs.dump fun _ => rfl).trans hdump
  generalize s.begun specFlushPmcDump.verb specFlushPmcDump.noun m = u at hnone ⊢
  obtain ⟨x, hx, -, -, hflush⟩ := State.dump_startDump false true [ticketOf m] hnone
  refine ⟨rfl, hticket, u.startDump false true [ticketOf m], [], rfl,
    (State.startDump_keep _ _ _ _ rfl (Keep.refl _ _)).box_eq, fun t ht hout => ⟨hout, ?_, x, ?_, hflush⟩⟩
  · refine (ht.pmcRest_eq rfl Pmcs.tickets fun _ => rfl).trans ?_
    rw [State.startDump_of_none _ _ _ hnone]
    rfl
  · exact (ht.pmcRest_eq rfl Pmcs.dump fun _ => rfl).trans hx

/-- Settles O45, clause by clause. -/
theorem countersComplete : Obligations.CountersComplete :=
  ⟨⟨pmcDumpIntervalExpiry_reads, pmcDumpIntervalExpiry_late, pmcDumpWritten_completes, sampleIntervalExpiry_writes,
    sampleIntervalExpiry_opens, sampleIntervalExpiry_drops⟩, setPmcCounter_carries, setPmcCounter_carries_refused,
    clearPmcCounter_carries, flushPmcDump_carries⟩

end Sys2Proof.Machine
end

section
/-! PROOFS. The link, the power states of the functions and the test access port (O46; R425, R470, R472, R490 to R492, R511 to R515,
R714, R722). -/

namespace Sys2Proof.Machine

/-! What a signal of a requester's sources changes in the interrupt controllers. -/

/-- From `s` to `t` the sources of requester `r` were served: the other requesters' controllers are the same, and its own keeps its enables
and its count of strays. -/
structure State.Serves (r : Requester) (s t : State) : Prop where
  others : ∀ q, q ≠ r → t.icuAt q = s.icuAt q
  enable : (t.icuAt r).enable = (s.icuAt r).enable
  stray : (t.icuAt r).stray = (s.icuAt r).stray

section
variable {r : Requester} {s t u : State}

theorem State.Serves.refl (r : Requester) (s : State) : State.Serves r s s := ⟨fun _ _ => rfl, rfl, rfl⟩

theorem State.Serves.trans (h : State.Serves r s t) (h' : State.Serves r t u) : State.Serves r s u :=
  ⟨fun q hq => (h'.others q hq).trans (h.others q hq), h'.enable.trans h.enable, h'.stray.trans h.stray⟩

theorem Keep.serves {m : Nat} (h : Keep m s t) (hm : m.testBit 11 = false) : State.Serves r s t := by
  have hicu : ∀ q, t.icuAt q = s.icuAt q := fun q => congrArg (fun x : Tbl Icu => tget x (fun _ => {}) q.num) (h.1 .icu hm).symm
  exact ⟨fun q _ => hicu q, by rw [hicu], by rw [hicu]⟩

theorem State.serves_modIcu {f : Icu → Icu} (henable : ∀ x, (f x).enable = x.enable) (hstray : ∀ x, (f x).stray = x.stray) :
    State.Serves r s (s.modIcu r f) := by
  refine ⟨fun q hq => ?_, ?_, ?_⟩
  · rw [State.icuAt_modIcu, if_neg hq]
  · rw [State.icuAt_modIcu, if_pos rfl, henable]
  · rw [State.icuAt_modIcu, if_pos rfl, hstray]

theorem State.serves_modSrc (src : Nat) (f : Src → Src) : State.Serves r s (s.modSrc r src f) :=
  State.serves_modIcu (fun _ => rfl) fun _ => rfl

theorem State.serves_modVec (v : Nat) (f : Vec → Vec) : State.Serves r s (s.modVec r v f) :=
  State.serves_modIcu (fun _ => rfl) fun _ => rfl

/-- A message leaves on the link (R510). -/
def State.message (s : State) : State := ({ s with hif := { s.hif with l1 := false } }).pmcEvent 0x013 1

theorem State.message_frame (s : State) : Keep 0x20000001300 s s.message :=
  State.pmcEvent_keep _ _ _ rfl (Keep.set_hif (.inl rfl) (.inr rfl) (Keep.refl _ _))

theorem State.serves_sendVec (v : Nat) : State.Serves r s (s.sendVec r v) := by
  unfold State.sendVec
  extract_lets x s1 hif
  split
  · exact State.serves_modVec ..
  · have hs1 : State.Serves r s s1 := State.serves_modVec ..
    exact hs1.trans (s1.message_frame.serves rfl)

theorem State.serves_enterPending (src : Nat) : State.Serves r s (s.enterPending r src) := by
  unfold State.enterPending
  split
  · split
    · exact State.serves_modIcu (fun _ => rfl) fun _ => rfl
    · exact State.Serves.refl ..
  · extract_lets v urgent s1 s2
    have hs1 : State.Serves r s s1 := State.serves_modVec ..
    have hs2 : State.Serves r s s2 := by
      unfold s2
      split
      · exact State.Serves.refl ..
      · exact hs1
    split
    · split
      · exact State.Serves.refl ..
      · split
        · exact hs1.trans (State.serves_sendVec v)
        · exact hs1.trans (State.serves_modVec v _)
    · split
      · exact hs2.trans (State.serves_modIcu (fun _ => rfl) fun _ => rfl)
      · exact hs2

theorem State.serves_level (src : Nat) (cond : Bool) : State.Serves r s (s.level r src cond) := by
  unfold State.level
  extract_lets now x s1 s2
  have hs1 : State.Serves r s s1 := State.serves_modSrc ..
  have hs2 : State.Serves r s s2 := State.serves_modSrc ..
  split
  · exact State.Serves.refl ..
  · split
    · split
      · exact (hs1.trans (State.serves_modSrc src _)).trans (State.serves_enterPending src)
      · exact hs1
    · split
      · exact (hs2.trans (State.serves_modSrc src _)).trans (State.serves_modVec _ _)
      · split
        · exact hs2.trans (State.serves_modIcu (fun _ => rfl) fun _ => rfl)
        · exact hs2

theorem State.serves_settleIcuOf : State.Serves r s (s.settleIcuOf r) :=
  List.foldlRecOn (motive := State.Serves r s) _ _ (State.Serves.refl r s) fun _ hu src _ => hu.trans (State.serves_level src _)

end

/-! The link. -/

section
variable {s t : State}

/-- The host interface with the link down. -/
def State.unlinked (s : State) : State := s.modHif fun x => { x with linkUp := false, l1 := false, speed := 0, width := 0 }

/-- The host interface with the link at a speed and a width. -/
def State.linked (s : State) (v w : Nat) : State :=
  s.modHif fun x => { x with linkUp := true, l1 := false, speed := v, width := w }

theorem Keep.modHif {m : Nat} {f : Hif → Hif} (h12 : m.testBit 12 = true) (h13 : m.testBit 13 = true) (h : Keep m s t) :
    Keep m s (t.modHif f) := Keep.set_hif (.inl h12) (.inl h13) h

/-- An event leaves the host interface as it is. -/
theorem State.hif_raise (s : State) (code : Nat) (data : List Word) : (s.raise code data).hif = s.hif :=
  (s.raise_frame code data).hif_whole rfl rfl

theorem State.linkGone_of_up (h : s.hif.linkUp = true) :
    s.linkGone = s.unlinked.raise evHifLinkChange [0, Word.nat s.hif.speed, Word.nat s.hif.width, 0, 0] := if_pos h

theorem State.linkGone_of_down (h : s.hif.linkUp = false) : s.linkGone = s := if_neg (by simp [h])

theorem State.linkUp_linkGone (s : State) : s.linkGone.hif.linkUp = false := by
  cases h : s.hif.linkUp with
  | false => rw [State.linkGone_of_down h, h]
  | true => rw [State.linkGone_of_up h, State.hif_raise]; rfl

/-- A field that the link does not touch. -/
theorem State.hif_linkGone {α : Type} (s : State) (f : Hif → α)
    (hf : ∀ x : Hif, f { x with linkUp := false, l1 := false, speed := 0, width := 0 } = f x) : f s.linkGone.hif = f s.hif := by
  cases h : s.hif.linkUp with
  | false => rw [State.linkGone_of_down h]
  | true => rw [State.linkGone_of_up h, State.hif_raise]; exact hf s.hif

theorem linkDown_completes : Completes .linkDown (fun s => s.hif.linkUp ∧ s.hears)
    (fun s t => t.hif.linkUp = false ∧ t.hif.l1 = false ∧ t.hif.speed = 0 ∧ t.hif.width = 0 ∧ t.mb = s.mb ∧ t.icu = s.icu ∧
      Raises s t evHifLinkChange [0, Word.nat s.hif.speed, Word.nat s.hif.width, 0, 0]) := by
  rintro s ⟨hup, hears⟩
  have hkeep := s.unlinked.raise_frame evHifLinkChange [0, Word.nat s.hif.speed, Word.nat s.hif.width, 0, 0]
  have hhif := s.unlinked.hif_raise evHifLinkChange [0, Word.nat s.hif.speed, Word.nat s.hif.width, 0, 0]
  refine ⟨_, congrArg Host.Outcome.next (State.linkGone_of_up hup), ?_⟩
  dsimp only
  rw [hhif]
  exact ⟨rfl, rfl, rfl, rfl, (hkeep.1 .mb rfl).symm, (hkeep.1 .icu rfl).symm,
    Raises.of_keep (m := 0x3000) (n := 0) hears (Keep.modHif rfl rfl (Keep.refl _ _)) rfl (Keep.refl _ _) rfl⟩

/-- The link can train to these values. -/
structure State.Trains (s : State) (v w : Nat) : Prop where
  power : s.pwr.up = true
  perst : s.hif.perst = false
  tap : s.hif.tap = none
  shutter : ¬(s.dev.mode = .shutter ∧ s.shut.step = .complete)
  begun : s.dev.mode = .starting → 2 ≤ s.dev.step
  slow : 1 ≤ v
  fast : v ≤ 5
  lanes : [1, 2, 4, 8].contains w = true

theorem State.Trains.linkCan {v w : Nat} (h : s.Trains v w) : s.linkCan = true := by
  have hbegun := h.begun
  have hshutter := h.shutter
  simp only [State.linkCan, h.power, h.perst, h.tap, Bool.not_false, Bool.and_true, Option.isNone_none, Bool.and_eq_true,
    Bool.not_eq_true', Bool.and_eq_false_iff, decide_eq_false_iff_not, Bool.true_and]
  exact ⟨not_and_or.1 hshutter, (Decidable.em (s.dev.mode = .starting)).elim (fun h => .inr (Nat.not_lt.2 (hbegun h))) .inl⟩

theorem State.Trains.exec {v w : Nat} (h : s.Trains v w) (hnew : ¬(s.hif.linkUp = true ∧ s.hif.speed = v ∧ s.hif.width = w)) :
    exec (.linkUp v w) s = .next ((s.linked v w).raise evHifLinkChange
      [if s.hif.linkUp then 2 else 1, Word.nat s.hif.speed, Word.nat s.hif.width, Word.nat v, Word.nat w]) := by
  change execLinkUp v w s = _
  rw [execLinkUp, if_pos ⟨h.linkCan, decide_eq_true ⟨h.slow, h.fast⟩, h.lanes⟩]
  dsimp only
  rw [if_neg hnew]
  rfl

theorem State.linked_raises (hears : s.hears) (v w : Nat) (ws : List Word) :
    ((s.linked v w).raise evHifLinkChange ws).hif.linkUp = true ∧ ((s.linked v w).raise evHifLinkChange ws).hif.speed = v ∧
      ((s.linked v w).raise evHifLinkChange ws).hif.width = w ∧ Raises s ((s.linked v w).raise evHifLinkChange ws) evHifLinkChange ws := by
  rw [State.hif_raise]
  exact ⟨rfl, rfl, rfl,
    Raises.of_keep (m := 0x3000) (n := 0) hears (Keep.modHif rfl rfl (Keep.refl _ _)) rfl (Keep.refl _ _) rfl⟩

theorem linkUp_completes (v w : Nat) : Completes (.linkUp v w)
    (fun s => s.pwr.up ∧ s.hif.perst = false ∧ s.hif.tap = none ∧ ¬(s.dev.mode = .shutter ∧ s.shut.step = .complete) ∧
      (s.dev.mode = .starting → 2 ≤ s.dev.step) ∧ 1 ≤ v ∧ v ≤ 5 ∧ [1, 2, 4, 8].contains w ∧ s.hif.linkUp = false ∧ s.hears)
    fun s t => t.hif.linkUp = true ∧ t.hif.speed = v ∧ t.hif.width = w ∧
      Raises s t evHifLinkChange [1, Word.nat s.hif.speed, Word.nat s.hif.width, Word.nat v, Word.nat w] := by
  rintro s ⟨hpower, hperst, htap, hshutter, hbegun, hslow, hfast, hlanes, hdown, hears⟩
  have hexec := State.Trains.exec ⟨hpower, hperst, htap, hshutter, hbegun, hslow, hfast, hlanes⟩ (by simp [hdown])
  rw [if_neg (by simp [hdown])] at hexec
  exact ⟨_, hexec, State.linked_raises hears ..⟩

theorem linkUp_retrains (v w : Nat) : Completes (.linkUp v w)
    (fun s => s.pwr.up ∧ s.hif.perst = false ∧ s.hif.tap = none ∧ ¬(s.dev.mode = .shutter ∧ s.shut.step = .complete) ∧
      (s.dev.mode = .starting → 2 ≤ s.dev.step) ∧ 1 ≤ v ∧ v ≤ 5 ∧ [1, 2, 4, 8].contains w ∧ s.hif.linkUp ∧
      (s.hif.speed ≠ v ∨ s.hif.width ≠ w) ∧ s.hears)
    fun s t => t.hif.linkUp = true ∧ t.hif.speed = v ∧ t.hif.width = w ∧
      Raises s t evHifLinkChange [2, Word.nat s.hif.speed, Word.nat s.hif.width, Word.nat v, Word.nat w] := by
  rintro s ⟨hpower, hperst, htap, hshutter, hbegun, hslow, hfast, hlanes, hup, hother, hears⟩
  have hexec := State.Trains.exec ⟨hpower, hperst, htap, hshutter, hbegun, hslow, hfast, hlanes⟩
    fun ⟨_, hv, hw⟩ => hother.elim (fun h => h hv) fun h => h hw
  rw [if_pos hup] at hexec
  exact ⟨_, hexec, State.linked_raises hears ..⟩

theorem aspmL1Entry_completes : Completes .aspmL1Entry (fun s => s.hif.linkUp)
    (fun s t => t = { s with hif := { s.hif with l1 := true } }) :=
  fun _ hup => ⟨_, congrArg Host.Outcome.next (if_pos hup), rfl⟩

/-! Power states. -/

theorem State.dstate_setD (s : State) (r q : Requester) (d : DState) :
    (s.setD r d).dstate q = if q = r then d else s.dstate q := by
  refine (tget_tset s.hif.dstate (fun _ => .d0) r.num q.num d).trans ?_
  by_cases h : q = r
  · rw [if_pos h, if_pos (congrArg _ h)]
  · rw [if_neg h, if_neg fun e => h (Requester.num_inj e)]
    rfl

theorem Keep.dstate_eq {m : Nat} (h : Keep m s t) (hm : m.testBit 13 = false) (r : Requester) : t.dstate r = s.dstate r :=
  h.hif_eq hm (fun x => tget x.dstate (fun _ => .d0) r.num) fun _ => rfl

theorem enterD3hot_completes (r : Requester) : Completes (.enterD3hot r) (fun s => r ≠ .mgt ∧ s.hif.linkUp ∧ s.dstate r = .d0)
    fun s t => t.dstate r = .d3hot ∧ (∀ q, q ≠ r → t.dstate q = s.dstate q) ∧ OnlyChanges [.hifRest] s t := by
  intro s hpre
  refine ⟨_, congrArg Host.Outcome.next (if_pos hpre), ?_, fun q hq => ?_, ?_⟩
  · rw [State.dstate_setD, if_pos rfl]
  · rw [State.dstate_setD, if_neg hq]
  · exact Keep.among (m := 0x2000) (Keep.set_hif (.inr rfl) (.inl rfl) (Keep.refl _ _)) rfl

theorem State.vecAt_modVec (r : Requester) (v k : Nat) (f : Vec → Vec) :
    (s.modVec r v f).vecAt r k = if k = v then f (s.vecAt r v) else s.vecAt r k := by
  rw [State.modVec, State.vecAt, State.icuAt_modIcu, if_pos rfl, tget_tmod]
  rfl

theorem Keep.vecAt_eq {m : Nat} (h : Keep m s t) (hm : m.testBit 11 = false) (r : Requester) (v : Nat) : t.vecAt r v = s.vecAt r v :=
  congrArg (fun x : Tbl Icu => tget (tget x (fun _ => {}) r.num).vec (fun _ => {}) v) (h.1 .icu hm).symm

/-- A message, sent or left pending, takes the entries that its vector holds. -/
theorem State.held_sendVec (r : Requester) (v k : Nat) :
    ((s.sendVec r v).vecAt r k).held = if k = v then [] else (s.vecAt r k).held := by
  unfold State.sendVec
  extract_lets x s1 hif
  split
  · rw [State.vecAt_modVec]
    split <;> rfl
  · refine (congrArg Vec.held (s1.message_frame.vecAt_eq rfl r k)).trans ?_
    rw [State.vecAt_modVec]
    split <;> rfl

theorem State.held_sendPba (r : Requester) (v k : Nat) : ((s.sendPba r v).vecAt r k).held = (s.vecAt r k).held := by
  unfold State.sendPba
  extract_lets x s1 hif
  split
  · refine (congrArg Vec.held (s1.message_frame.vecAt_eq rfl r k)).trans ?_
    rw [State.vecAt_modVec]
    split
    · next h => rw [h]
    · rfl
  · rfl

/-- In D0 again, a vector with entries sends its message; one without sends what was pending (R513). -/
def State.wakeVec (r : Requester) (s : State) (v : Nat) : State :=
  if (s.vecAt r v).held ≠ [] then s.sendVec r v else s.sendPba r v

theorem State.held_wakeVec_self (r : Requester) (v : Nat) : ((s.wakeVec r v).vecAt r v).held = [] := by
  unfold State.wakeVec
  split
  · rw [State.held_sendVec, if_pos rfl]
  · next h => rw [State.held_sendPba, not_not.1 h]

theorem State.held_wakeVec_of_empty {r : Requester} {v : Nat} (h : (s.vecAt r v).held = []) (k : Nat) :
    ((s.wakeVec r k).vecAt r v).held = [] := by
  unfold State.wakeVec
  split
  · rw [State.held_sendVec, h, ite_self]
  · rw [State.held_sendPba, h]

theorem enterD0_completes (r : Requester) : Completes (.enterD0 r) (fun s => r ≠ .mgt ∧ s.hif.linkUp ∧ s.dstate r ≠ .d0)
    fun _ t => t.dstate r = .d0 ∧ ∀ v, v < vectors r → (t.vecAt r v).held = [] := by
  intro s hpre
  refine ⟨(List.range (vectors r)).foldl (State.wakeVec r) (s.setD r .d0), congrArg Host.Outcome.next (if_pos hpre), ?_, fun v hv => ?_⟩
  · have hkeep : Keep 0x20000001b00 (s.setD r .d0) ((List.range (vectors r)).foldl (State.wakeVec r) (s.setD r .d0)) :=
      Keep.foldl _ (fun u v hu => Keep.ite (u.sendVec_keep r v rfl hu) (u.sendPba_keep r v rfl hu)) (Keep.refl _ _)
    rw [hkeep.dstate_eq rfl, State.dstate_setD, if_pos rfl]
  · exact foldl_reaches (Q := fun _ => True) (R := fun u : State => (u.vecAt r v).held = []) (List.mem_range.2 hv)
      (fun _ _ _ => trivial) (fun u _ => u.held_wakeVec_self r v) (fun u k hu => State.held_wakeVec_of_empty hu k) trivial

theorem State.functionsOn_of (hup : s.pwr.up = true) (hbegun : s.dev.mode = .starting → 2 ≤ s.dev.step) : s.functionsOn = true := by
  simp only [State.functionsOn, hup, Bool.true_and, Bool.not_eq_true', Bool.and_eq_false_iff, decide_eq_false_iff_not]
  exact (Decidable.em (s.dev.mode = .starting)).elim (fun h => .inr (Nat.not_lt.2 (hbegun h))) .inl

/-- A function in D3cold, its interrupt controller at its reset values. -/
def State.funcCold (s : State) (r : Requester) : State :=
  ((s.setD r .d3cold).modIcu r fun _ => {}).modSnap r fun x => { x with scratch := 0 }

theorem enterD3cold_completes (r : Requester) : Completes (.enterD3cold r)
    (fun s => r ≠ .mgt ∧ s.pwr.up ∧ (s.dev.mode = .starting → 2 ≤ s.dev.step))
    fun _ t => t.dstate r = .d3cold ∧ t.hif.linkUp = false ∧ (t.icuAt r).enable = 0xFFFFFF ∧ (t.snapAt r).scratch = 0 := by
  rintro s ⟨hr, hup, hbegun⟩
  have hserves := State.serves_settleIcuOf (r := r) (s := (s.funcCold r).linkGone)
  have hkeep := (s.funcCold r).linkGone.settleIcuOf_frame r
  refine ⟨((s.funcCold r).linkGone).settleIcuOf r, congrArg Host.Outcome.next (if_pos ⟨hr, State.functionsOn_of hup hbegun⟩), ?_, ?_, ?_, ?_⟩
  · rw [hkeep.dstate_eq rfl]
    refine ((s.funcCold r).hif_linkGone (fun x => tget x.dstate (fun _ => .d0) r.num) fun _ => rfl).trans ?_
    exact (s.dstate_setD r r .d3cold).trans (if_pos rfl)
  · exact (hkeep.hif_eq rfl Hif.linkUp fun _ => rfl).trans (State.linkUp_linkGone _)
  · rw [hserves.enable, (Keep.serves (r := r) ((s.funcCold r).linkGone_keep rfl (Keep.refl 0x3300 _)) rfl).enable]
    exact congrArg Icu.enable (State.icuAt_modIcu_self (s := s.setD r .d3cold) r fun _ => {})
  · refine (hkeep.hif_eq rfl (fun x => (tget x.snap (fun _ => {}) r.num).scratch) fun _ => rfl).trans ?_
    refine ((s.funcCold r).hif_linkGone (fun x => (tget x.snap (fun _ => {}) r.num).scratch) fun _ => rfl).trans ?_
    exact congrArg Snap.scratch (State.snapAt_modSnap_self (s := (s.setD r .d3cold).modIcu r fun _ => {}) r fun x => { x with scratch := 0 })

/-! The test access port. -/

theorem tapTakeoverLoad_takes (op : Byte) : Completes (.tapTakeoverLoad op) (fun s => tapTakes op ∧ s.tapMay)
    fun _ t => t.hif.tap = some op ∧ t.hif.linkUp = false := by
  rintro s ⟨htakes, hmay⟩
  have hexec : exec (.tapTakeoverLoad op) s = .next (s.modHif fun x => { x with tap := some op, tapBypassed := false }).linkGone := by
    change execTapTakeoverLoad op s = _
    rw [execTapTakeoverLoad, if_neg (by simp [htakes]), if_pos hmay]
  exact ⟨_, hexec, State.hif_linkGone _ Hif.tap fun _ => rfl, State.linkUp_linkGone _⟩

theorem tapTakeoverLoad_bypassed (op : Byte) : Completes (.tapTakeoverLoad op) (fun s => tapTakes op ∧ s.tapMay = false)
    fun s t => t.hif = { s.hif with tap := none, tapBypassed := true } ∧ OnlyChanges [.hifRest] s t := by
  rintro s ⟨htakes, hmay⟩
  have hexec : exec (.tapTakeoverLoad op) s = .next (s.modHif fun x => { x with tap := none, tapBypassed := true }) := by
    change execTapTakeoverLoad op s = _
    rw [execTapTakeoverLoad, if_neg (by simp [htakes]), if_neg (by simp [hmay])]
  exact ⟨_, hexec, rfl, Keep.among (m := 0x2000) (Keep.set_hif (.inr rfl) (.inl rfl) (Keep.refl _ _)) rfl⟩

/-! The reset of a function. -/

theorem boxKey_eq_iff {r q : Requester} {n k : Nat} : boxKey q k = boxKey r n ↔ q = r ∧ k % 16 = n % 16 := by
  unfold boxKey
  constructor
  · intro h
    exact ⟨Requester.num_inj (by omega), by omega⟩
  · rintro ⟨rfl, h⟩
    omega

theorem State.boxAt_modBox (s : State) (r q : Requester) (n k : Nat) (f : Box → Box) :
    (s.modBox r n f).boxAt q k = if q = r ∧ k % 16 = n % 16 then f (s.boxAt r n) else s.boxAt q k := by
  rw [State.boxAt, State.modBox, State.boxAt, State.boxAt]
  refine (tget_tmod ..).trans ?_
  by_cases h : boxKey q k = boxKey r n
  · rw [if_pos h, if_pos (boxKey_eq_iff.1 h)]
  · rw [if_neg h, if_neg fun e => h (boxKey_eq_iff.2 e)]

/-- The mailboxes with these numbers at their reset values. -/
theorem State.boxAt_boxesReset (s : State) (r q : Requester) {ns : List Nat} (hns : ∀ n ∈ ns, n < 16) (k : Nat) :
    (ns.foldl (fun s n => s.modBox r n fun _ => boxDflt n) s).boxAt q k =
      if q = r ∧ k % 16 ∈ ns then boxDflt (k % 16) else s.boxAt q k := by
  induction ns generalizing s with
  | nil => simp
  | cons n ns ih =>
    have hn := hns n List.mem_cons_self
    rw [List.foldl_cons, ih _ fun x hx => hns x (List.mem_cons_of_mem n hx), State.boxAt_modBox, Nat.mod_eq_of_lt hn]
    by_cases hq : q = r
    · by_cases hk : k % 16 = n
      · simp [hq, hk]
      · simp [hq, hk]
    · simp [hq]

theorem State.dmaAt_stopChannels (s : State) (r : Requester) (c : Nat) : (s.stopChannels r).dmaAt c =
    if c < 4 ∧ (s.dmaAt c).owner = r then { s.dmaAt c with enabled := false } else s.dmaAt c :=
  s.dmaAt_modOwn s (fun _ => rfl) r (fun d => { d with enabled := false }) c

/-- What the host interface has beside its channels and what they have to push. -/
theorem State.hif_stopChannels {α : Type} (s : State) (r : Requester) (f : Hif → α)
    (hf : ∀ (x : Hif) dma ready, f { x with dma := dma, ready := ready } = f x) : f (s.stopChannels r).hif = f s.hif := by
  have hstop : ∀ u : State, f (u.modHif fun x => { x with ready := x.ready.filter fun q => !(s.ownChannels r).contains q.ch }).hif =
      f u.hif := fun u => hf u.hif u.hif.dma _
  refine (hstop _).trans ?_
  exact List.foldlRecOn (motive := fun u : State => f u.hif = f s.hif) (s.ownChannels r) _ rfl
    fun u hu c _ => (hf u.hif _ u.hif.ready).trans hu

theorem State.boxAt_dropMailboxes (s : State) (r q : Requester) (n : Nat) :
    (s.dropMailboxes r).boxAt q n = if q = r then boxDflt (boxKey r n) else s.boxAt q n := by
  have hbox : (s.dropMailboxes r).mb.box = ((List.range 16).foldl (fun s n => s.modBox r n fun _ => boxDflt n) s).mb.box := by
    unfold State.dropMailboxes
    generalize (List.range 16).foldl (fun s n => s.modBox r n fun _ => boxDflt n) s = u
    rfl
  have hkey : boxDflt (n % 16) = boxDflt (boxKey r n) := by
    rw [boxDflt, boxDflt, boxKey, Nat.mul_add_mod, Nat.mod_mod]
  have hreset := s.boxAt_boxesReset r q (fun k hk => List.mem_range.1 hk) n
  rw [State.boxAt, hbox, ← State.boxAt, hreset, hkey]
  have hlt : n % 16 < 16 := Nat.mod_lt _ (by decide)
  simp [hlt]

/-- Queue, interrupt controller, latches and power state of a function at their reset values. -/
def State.restReset (s : State) (r : Requester) : State :=
  (((s.modQueue r EvQueue.emptied).modIcu r fun _ => {}).modSnap r fun _ => {}).setD r .d0

theorem State.restReset_frame (s : State) (r : Requester) : Keep 0x3a00 s (s.restReset r) :=
  State.setD_keep _ _ _ rfl (Keep.modSnap rfl (Keep.modIcu rfl (Keep.modQueue rfl (fun q _ => q.emptied_others) (Keep.refl _ _))))

theorem State.queueAt_restReset (s : State) (r q : Requester) :
    (s.restReset r).queueAt q = if q = r then (s.queueAt r).emptied else s.queueAt q :=
  s.queueAt_modQueue r q EvQueue.emptied

theorem State.icuAt_restReset (s : State) (r q : Requester) : (s.restReset r).icuAt q = if q = r then {} else s.icuAt q :=
  State.icuAt_modIcu (s := s.modQueue r EvQueue.emptied) r q fun _ => {}

theorem State.snapAt_restReset (s : State) (r : Requester) : (s.restReset r).snapAt r = {} :=
  State.snapAt_modSnap_self (s := (s.modQueue r EvQueue.emptied).modIcu r fun _ => {}) r fun _ => {}

theorem State.dmaAt_restReset (s : State) (r : Requester) (c : Nat) : (s.restReset r).dmaAt c = s.dmaAt c := rfl

theorem State.hif_restReset {α : Type} (s : State) (r : Requester) (f : Hif → α)
    (hf : ∀ (x : Hif) snap dstate, f { x with snap := snap, dstate := dstate } = f x) : f (s.restReset r).hif = f s.hif :=
  hf s.hif _ _

/-- A function at its reset values, before its reset is reported. -/
def State.cleared (s : State) (r : Requester) : State := ((s.dropMailboxes r).stopChannels r).restReset r

theorem State.resetFunction_eq (s : State) (r : Requester) (kind : Nat) : s.resetFunction r kind =
    ((s.cleared r).raise evHifFunctionReset [Word.nat r.num, Word.nat kind, Word.nat (s.queueAt r).recs.length]).settleIcuOf r := rfl

section
variable (s : State) (r : Requester)

theorem State.stopped_frame : Keep 0x30a0 s ((s.dropMailboxes r).stopChannels r) :=
  State.stopChannels_keep _ r rfl (State.dropMailboxes_keep s r rfl (Keep.refl _ _))

theorem State.cleared_frame : Keep 0x3aa0 s (s.cleared r) :=
  ((s.dropMailboxes r).stopChannels r).restReset_frame r |>.step rfl ((s.stopped_frame r).step rfl (Keep.refl _ _))

theorem State.boxAt_cleared (q : Requester) (n : Nat) :
    (s.cleared r).boxAt q n = if q = r then boxDflt (boxKey r n) else s.boxAt q n := by
  have hmb : ((s.dropMailboxes r).stopChannels r).mb = (s.dropMailboxes r).mb :=
    ((State.stopChannels_keep _ r rfl (Keep.refl 0x3000 _)).1 .mb rfl).symm
  have hmb' := ((((s.dropMailboxes r).stopChannels r).restReset_frame r).1 .mb rfl).symm.trans hmb
  rw [State.cleared, State.boxAt, hmb', ← State.boxAt, State.boxAt_dropMailboxes]

theorem State.queueAt_cleared (q : Requester) :
    (s.cleared r).queueAt q = if q = r then (s.queueAt r).emptied else s.queueAt q := by
  rw [State.cleared, State.queueAt_restReset, (s.stopped_frame r).queueAt_eq rfl, (s.stopped_frame r).queueAt_eq rfl]

theorem Keep.icuAt_eq {m : Nat} {t : State} (h : Keep m s t) (hm : m.testBit 11 = false) (q : Requester) : t.icuAt q = s.icuAt q :=
  congrArg (fun x : Tbl Icu => tget x (fun _ => {}) q.num) (h.1 .icu hm).symm

theorem State.icuAt_cleared (q : Requester) : (s.cleared r).icuAt q = if q = r then {} else s.icuAt q := by
  rw [State.cleared, State.icuAt_restReset, Keep.icuAt_eq s (s.stopped_frame r) rfl]

theorem State.snapAt_cleared : (s.cleared r).snapAt r = {} := State.snapAt_restReset ..

theorem State.dmaAt_cleared (c : Nat) : (s.cleared r).dmaAt c =
    if c < 4 ∧ (s.dmaAt c).owner = r then { s.dmaAt c with enabled := false } else s.dmaAt c := by
  have hdma : (s.dropMailboxes r).dmaAt c = s.dmaAt c :=
    (State.dropMailboxes_keep s r rfl (Keep.refl 0xa0 _)).hif_eq rfl (fun x => tget x.dma (fun _ => {}) c) fun _ => rfl
  rw [State.cleared, State.dmaAt_restReset, State.dmaAt_stopChannels, hdma]

/-- A field that no reset of a function touches. -/
theorem State.hif_cleared {α : Type} (f : Hif → α)
    (hf : ∀ (x : Hif) dma ready snap dstate, f { x with dma := dma, ready := ready, snap := snap, dstate := dstate } = f x) :
    f (s.cleared r).hif = f s.hif := by
  have hdrop : (s.dropMailboxes r).hif = s.hif := (State.dropMailboxes_keep s r rfl (Keep.refl 0xa0 _)).hif_whole rfl rfl
  rw [State.cleared, State.hif_restReset _ _ f fun x snap dstate => hf x x.dma x.ready snap dstate,
    State.hif_stopChannels _ _ f fun x dma ready => hf x dma ready x.snap x.dstate, hdrop]

end

section
variable (s : State) (r : Requester) (kind : Nat)

/-- What the report of a reset leaves. -/
theorem State.resetFunction_frame : Keep 0x20000001b00 (s.cleared r) (s.resetFunction r kind) := by
  rw [State.resetFunction_eq]
  exact State.settleIcuOf_keep _ _ rfl (State.raise_keep _ _ _ rfl (Keep.refl _ _))

/-- Where no pane switch holds events back, the report leaves the queues as well. -/
theorem State.resetFunction_heard (hears : s.hears) : Keep 0x20000001900 (s.cleared r) (s.resetFunction r kind) := by
  have hears' : (s.cleared r).hears := (s.cleared_frame r).hears rfl hears
  rw [State.resetFunction_eq]
  exact Keep.settleIcuOf_heard hears' _ (Keep.raise_heard hears' _ _ (Keep.refl _ _))

theorem State.resetFunction_raises (hears : s.hears) : Raises s (s.resetFunction r kind) evHifFunctionReset
    [Word.nat r.num, Word.nat kind, Word.nat (s.queueAt r).recs.length] := by
  rw [State.resetFunction_eq]
  exact Raises.of_keep hears (s.cleared_frame r) rfl (State.settleIcuOf_frame ..) rfl

theorem State.serves_resetFunction : State.Serves r (s.cleared r) (s.resetFunction r kind) := by
  rw [State.resetFunction_eq]
  exact ((State.raise_frame ..).serves rfl).trans State.serves_settleIcuOf

theorem State.boxAt_resetFunction (q : Requester) (n : Nat) :
    (s.resetFunction r kind).boxAt q n = if q = r then boxDflt (boxKey r n) else s.boxAt q n := by
  rw [State.boxAt, ← (s.resetFunction_frame r kind).1 .mb rfl, ← State.boxAt, State.boxAt_cleared]

end

theorem perstNAssert_completes : Completes .perstNAssert
    (fun s => s.pwr.up ∧ (s.dev.mode = .starting → 2 ≤ s.dev.step) ∧ s.hif.linkUp = false)
    (fun s t => t.hif.perst = true ∧ (∀ r n, r ≠ .mgt → t.boxAt r n = boxDflt (boxKey r n)) ∧
      (∀ n, t.boxAt .mgt n = s.boxAt .mgt n) ∧ t.dev.mode = s.dev.mode ∧ t.tku = s.tku ∧ t.params = s.params) := by
  rintro s ⟨hup, hbegun, hdown⟩
  let u := s.modHif fun x => { x with perst := true }
  have hexec : exec .perstNAssert s = .next ((u.resetFunction .pf0 resetPerst).resetFunction .pf1 resetPerst) := by
    change execPerstNAssert s = _
    have hon := State.functionsOn_of hup hbegun
    have hlink : u.linkGone = u := State.linkGone_of_down hdown
    simp only [execPerstNAssert]
    rw [hlink, if_pos hon]
  have hkeep : Keep 0x20000003ba0 u ((u.resetFunction .pf0 resetPerst).resetFunction .pf1 resetPerst) :=
    State.resetFunction_keep _ _ _ rfl (State.resetFunction_keep _ _ _ rfl (Keep.refl _ _))
  have hperst : ∀ (v : State) r k, (v.resetFunction r k).hif.perst = v.hif.perst := fun v r k =>
    ((v.resetFunction_frame r k).hif_eq rfl Hif.perst fun _ => rfl).trans (v.hif_cleared r Hif.perst fun _ _ _ _ _ => rfl)
  refine ⟨_, hexec, ?_, fun r n hr => ?_, fun n => ?_, (hkeep.1 .devMode rfl).1.symm, (hkeep.1 .tku rfl).symm, (hkeep.1 .params rfl).symm⟩
  · rw [hperst, hperst]
    rfl
  · rw [State.boxAt_resetFunction, State.boxAt_resetFunction]
    cases r with
    | pf0 => rfl
    | pf1 => rfl
    | mgt => exact absurd rfl hr
  · rw [State.boxAt_resetFunction, State.boxAt_resetFunction]
    rfl

/-- Settles O46, clause by clause. -/
theorem linkAndPowerStatesComplete : Obligations.LinkAndPowerStatesComplete :=
  ⟨linkDown_completes, linkUp_completes, linkUp_retrains, aspmL1Entry_completes, enterD3hot_completes, enterD0_completes,
    enterD3cold_completes, perstNAssert_completes, fun _ _ => ⟨_, rfl, rfl⟩, tapTakeoverLoad_takes, tapTakeoverLoad_bypassed,
    fun _ _ => ⟨_, rfl, rfl⟩⟩

end

end Sys2Proof.Machine
end

section
/-! PROOFS. The resets of the functions (O47; R447, R472, R489, R515). -/

namespace Sys2Proof.Machine

theorem EvQueue.emptied_eq (q : EvQueue) :
    q.emptied.recs = [] ∧ q.emptied.lost = q.lost + q.recs.length ∧ q.emptied.qseq = q.qseq := by
  unfold EvQueue.emptied
  split
  · next h => exact ⟨h, by rw [h]; rfl, rfl⟩
  · next h => exact ⟨rfl, by rw [h], rfl⟩

section
variable {s : State} {r : Requester}

/-- The queues after the reset of a function. -/
theorem State.queueAt_resetFunction (hears : s.hears) (kind : Nat) (q : Requester) :
    (s.resetFunction r kind).queueAt q = if q = r then (s.queueAt r).emptied else s.queueAt q := by
  rw [(s.resetFunction_heard r kind hears).queueAt_eq rfl, State.queueAt_cleared]

theorem State.icuAt_resetFunction_other {q : Requester} (hq : q ≠ r) (kind : Nat) :
    (s.resetFunction r kind).icuAt q = s.icuAt q := by
  rw [(s.serves_resetFunction r kind).others q hq, State.icuAt_cleared, if_neg hq]

theorem State.dmaAt_resetFunction (kind c : Nat) : (s.resetFunction r kind).dmaAt c =
    if c < 4 ∧ (s.dmaAt c).owner = r then { s.dmaAt c with enabled := false } else s.dmaAt c := by
  have hdma := (s.resetFunction_frame r kind).hif_eq rfl (fun x => tget x.dma (fun _ => {}) c) fun _ => rfl
  exact hdma.trans (s.dmaAt_cleared r c)

theorem State.snapAt_resetFunction (kind : Nat) : (s.resetFunction r kind).snapAt r = {} :=
  ((s.resetFunction_frame r kind).hif_eq rfl (fun x => tget x.snap (fun _ => {}) r.num) fun _ => rfl).trans (s.snapAt_cleared r)

theorem State.linkUp_resetFunction (kind : Nat) : (s.resetFunction r kind).hif.linkUp = s.hif.linkUp :=
  ((s.resetFunction_frame r kind).hif_eq rfl Hif.linkUp fun _ => rfl).trans (s.hif_cleared r Hif.linkUp fun _ _ _ _ _ => rfl)

end

theorem functionLevelReset_completes (r : Requester) : Completes (.functionLevelReset r)
    (fun s => r ≠ .mgt ∧ s.pwr.up ∧ (s.dev.mode = .starting → 2 ≤ s.dev.step) ∧ s.hif.linkUp ∧ s.hears)
    fun s t => (∀ n, t.boxAt r n = boxDflt (boxKey r n)) ∧ (∀ q n, q ≠ r → t.boxAt q n = s.boxAt q n) ∧
      (t.queueAt r).recs = [] ∧ (t.queueAt r).lost = (s.queueAt r).lost + (s.queueAt r).recs.length ∧
      (t.queueAt r).qseq = (s.queueAt r).qseq ∧ (t.icuAt r).enable = 0xFFFFFF ∧ (t.icuAt r).stray = 0 ∧ t.snapAt r = {} ∧ (∀ q, q ≠ r → t.icuAt q = s.icuAt q) ∧
      (∀ c, c < 4 → (s.dmaAt c).owner = r → t.dmaAt c = { s.dmaAt c with enabled := false }) ∧
      (∀ c, (s.dmaAt c).owner ≠ r → t.dmaAt c = s.dmaAt c) ∧ t.hif.linkUp = true ∧
      Raises s t evHifFunctionReset [Word.nat r.num, Word.nat 0, Word.nat (s.queueAt r).recs.length] := by
  rintro s ⟨hr, hup, hbegun, hlink, hears⟩
  have hexec : exec (.functionLevelReset r) s = .next (s.resetFunction r resetFlr) :=
    congrArg Host.Outcome.next (if_pos ⟨hr, State.functionsOn_of hup hbegun, hlink⟩)
  obtain ⟨hrecs, hlost, hqseq⟩ := (s.queueAt r).emptied_eq
  have hqueue := (State.queueAt_resetFunction (r := r) hears resetFlr r).trans (if_pos rfl)
  have hserves := s.serves_resetFunction r resetFlr
  have hicu := (s.icuAt_cleared r r).trans (if_pos rfl)
  refine ⟨_, hexec, fun n => ?_, fun q n hq => ?_, ?_, ?_, ?_, ?_, ?_, State.snapAt_resetFunction _,
    fun q hq => State.icuAt_resetFunction_other hq _, fun c hc howner => ?_, fun c howner => ?_, ?_, s.resetFunction_raises r resetFlr hears⟩
  · rw [State.boxAt_resetFunction, if_pos rfl]
  · rw [State.boxAt_resetFunction, if_neg hq]
  · rw [hqueue, hrecs]
  · rw [hqueue, hlost]
  · rw [hqueue, hqseq]
  · rw [hserves.enable, hicu]
  · rw [hserves.stray, hicu]
  · rw [State.dmaAt_resetFunction, if_pos ⟨hc, howner⟩]
  · rw [State.dmaAt_resetFunction, if_neg fun h => howner h.2]
  · rw [State.linkUp_resetFunction, hlink]

theorem hotReset_completes : Completes .hotReset (fun s => s.pwr.up ∧ (s.dev.mode = .starting → 2 ≤ s.dev.step) ∧ s.hif.linkUp ∧ s.hears)
    (fun s t => (∀ r n, r ≠ .mgt → t.boxAt r n = boxDflt (boxKey r n)) ∧ (∀ n, t.boxAt .mgt n = s.boxAt .mgt n) ∧
      t.icuAt .mgt = s.icuAt .mgt ∧ t.params = s.params ∧
      Raises s t evHifFunctionReset [Word.nat 0, Word.nat 1, Word.nat (s.queueAt .pf0).recs.length] ∧
      Raises s t evHifFunctionReset [Word.nat 1, Word.nat 1, Word.nat (s.queueAt .pf1).recs.length]) := by
  rintro s ⟨hup, hbegun, hlink, hears⟩
  let u := s.resetFunction .pf0 resetHot
  have hexec : exec .hotReset s = .next (u.resetFunction .pf1 resetHot) :=
    congrArg Host.Outcome.next (if_pos ⟨State.functionsOn_of hup hbegun, hlink⟩)
  have hfirst : Keep 0x20000003ba0 s u := State.resetFunction_keep _ _ _ rfl (Keep.refl _ _)
  have hsecond : Keep 0x20000003ba0 u (u.resetFunction .pf1 resetHot) := State.resetFunction_keep _ _ _ rfl (Keep.refl _ _)
  have hqueue : u.queueAt .pf1 = s.queueAt .pf1 :=
    (State.queueAt_resetFunction (r := .pf0) hears resetHot .pf1).trans (if_neg (by decide))
  have hraise := u.resetFunction_raises .pf1 resetHot (hfirst.hears rfl hears)
  rw [hqueue] at hraise
  refine ⟨_, hexec, fun r n hr => ?_, fun n => ?_, ?_, ?_, (s.resetFunction_raises .pf0 resetHot hears).keep hsecond rfl,
    hraise.after hfirst rfl⟩
  · rw [State.boxAt_resetFunction, State.boxAt_resetFunction]
    cases r with
    | pf0 => rfl
    | pf1 => rfl
    | mgt => exact absurd rfl hr
  · rw [State.boxAt_resetFunction, State.boxAt_resetFunction]
    rfl
  · rw [State.icuAt_resetFunction_other (by decide), State.icuAt_resetFunction_other (by decide)]
  · exact ((hfirst.trans hsecond).1 .params rfl).symm

/-- Settles O47, from the two kinds of reset. -/
theorem functionResetsComplete : Obligations.FunctionResetsComplete := ⟨functionLevelReset_completes, hotReset_completes⟩

end Sys2Proof.Machine
end

section
/-! PROOFS. The refutation of the statement about ramps, monitor samples and control loops (O49).

The counters of a loop and of an auxiliary channel share one table, in which channel c stands one loop number below channel c + 128. The
clause for an update does not say that its loop drives one of the 33 channels that a part has. -/

namespace Sys2Proof.Machine

/-- A SERVICE part whose loop 0 drives a channel 128, which no part has: R576's parameter lies out of its range. -/
def strayLoop : State :=
  { dev := { mode := .service, refclk := true }
    params := [(paramKey nOcuLoop 0 lpAx, 128), (paramKey nOcuLoop 0 lpEnable, 1), (paramKey nOcuAx 128 axOwner, 1),
      (paramKey nOcuAx 128 axLane, 8), (paramKey nOcuAx 128 axSlew, offWord)]
    ocu := { mn := [(0, { fresh := [0] })], loop := [(0, { running := true })] } }

/-- The state keeps the bounds that every step keeps. -/
theorem strayLoop_holds_bounds (b : Bound) : b.holds strayLoop := by
  cases b with
  | memory => exact rfl
  | queues => intro r; cases r <;> decide
  | outstanding => intro r; cases r <;> decide
  | repair => exact Nat.zero_le _
  | stats => exact List.forall_mem_nil _
  | counters => exact List.forall_mem_nil _
  | echo => exact Nat.zero_le _

/-- The clause's premises hold in the state. -/
theorem strayLoop_updates : strayLoop.loopRuns 0 ∧ (strayLoop.mnAt (strayLoop.parN nOcuLoop 0 lpMn)).fresh = [0] ∧
    (strayLoop.mnAt (strayLoop.parN nOcuLoop 0 lpMn)).lastFlags = 0 ∧
    strayLoop.param nOcuAx (strayLoop.loopAx 0) axSlew = offWord := by decide +kernel

/-- The state after the update, -/
def strayLoopUpdated : State :=
  match execLoopUpdate 0 strayLoop with
  | .next t => t
  | _ => strayLoop

/-- in which the loop's update and the channel's count on one counter. -/
theorem strayLoopUpdated_stat : strayLoopUpdated.statAt gLoop 0 0 = ((strayLoop.statAt gLoop 0 0).add 1).add 1 := by decide +kernel

/-- Refutes O49: in `strayLoop` an update counts twice on its loop's counter. The clause leaves the loop's AX channel open; R576 and
SET OCU_LOOP (R70) keep it among the 33 channels, so no part comes to such a state. -/
theorem not_opticsUpdatesComplete : ¬ Obligations.OpticsUpdatesComplete := by
  unfold Obligations.OpticsUpdatesComplete
  rintro ⟨-, -, -, -, -, update, -⟩
  obtain ⟨hruns, hfresh, hflags, hslew⟩ := strayLoop_updates
  obtain ⟨t, hexec, -, -, -, -, -, hstat⟩ := update 0 strayLoop ⟨by decide, by decide, hruns, rfl, by decide, hfresh, hflags, hslew⟩
  obtain rfl : strayLoopUpdated = t := Host.Outcome.next.inj hexec
  exact absurd (strayLoopUpdated_stat.symm.trans hstat) (by decide +kernel)

end Sys2Proof.Machine
end

section
/-! PROOFS. What the rules that follow a change leave of the auxiliary channels and of the spare core (R564 to R566, R578, R597): optics
ramp the channels of their lane, and an abandoned handover gives its channel its own core back. -/

namespace Sys2Proof.Machine

/-- A channel without its ramp. -/
def Ax.unramped (x : Ax) : Ax := { x with code := 0, target := 0, frac := 0 }

/-- A channel without its ramp and its handover. -/
def Ax.parked (x : Ax) : Ax := { x with code := 0, target := 0, frac := 0, core := none, hand := 0 }

/-! Ramps alone. -/

/-- Core 32 stands where it stood, and channels have at most moved their ramps: none of a channel that belongs to no lane. -/
structure State.CoresAs (s t : State) : Prop where
  serves : t.ocu.c32 = s.ocu.c32
  calibrates : t.ocu.c32Cal = s.ocu.c32Cal
  lane : ∀ c, t.axLaneOf c = s.axLaneOf c
  channel : ∀ c, (t.axAt c).unramped = (s.axAt c).unramped
  code : ∀ c, 8 ≤ s.axLaneOf c → (t.axAt c).code = (s.axAt c).code

theorem Keep.axAt_eq {m : Nat} {s t : State} (h : Keep m s t) (hm : m.testBit 37 = false) (c : Nat) : t.axAt c = s.axAt c :=
  congrArg (fun x : Ocu => tget x.ax (fun _ => {}) c) (h.1 .ocu hm).symm

namespace State.CoresAs
variable {m : Nat} {s t u : State}

theorem refl (s : State) : s.CoresAs s := ⟨rfl, rfl, fun _ => rfl, fun _ => rfl, fun _ _ => rfl⟩

theorem of_keep (h : s.CoresAs t) (hu : Keep m t u) (hm : m.testBit 37 = false) (hp : m.land 0x10004 = 0) : s.CoresAs u := by
  have hocu : u.ocu = t.ocu := (hu.1 .ocu hm).symm
  have hax := hu.axAt_eq hm
  have hlane : ∀ c, u.axLaneOf c = t.axLaneOf c := fun c => congrArg BitVec.toNat (hu.param_eq hp nOcuAx c axLane)
  refine ⟨hocu ▸ h.serves, hocu ▸ h.calibrates, fun c => (hlane c).trans (h.lane c), fun c => ?_, fun c hc => ?_⟩
  · rw [hax]
    exact h.channel c
  · rw [hax]
    exact h.code c hc

theorem modLoop (h : s.CoresAs t) (i : Nat) (f : OcuLoop → OcuLoop) : s.CoresAs (t.modLoop i f) :=
  ⟨h.serves, h.calibrates, h.lane, h.channel, h.code⟩

/-- A channel of a lane moves its ramp. -/
theorem modAx (h : s.CoresAs t) {c : Nat} {f : Ax → Ax} (hc : t.axLaneOf c < 8) (hf : ∀ x, (f x).unramped = x.unramped) :
    s.CoresAs (t.modAx c f) := by
  refine ⟨h.serves, h.calibrates, h.lane, fun k => ?_, fun k hk => ?_⟩
  · rw [State.axAt_modAx]
    split
    · next heq =>
      rw [heq]
      exact (hf _).trans (h.channel c)
    · exact h.channel k
  · rw [State.axAt_modAx, if_neg]
    · exact h.code k hk
    · rintro rfl
      exact absurd hk (not_le.2 (h.lane k ▸ hc))

end State.CoresAs

theorem State.syncLoop_coresAs {s u : State} (h : s.CoresAs u) (i : Nat) : s.CoresAs (u.syncLoop i) := by
  unfold State.syncLoop
  dsimp only
  split
  · exact h
  · split
    · exact h.modLoop i _
    · exact h.modLoop i _

theorem State.syncLoops_coresAs {s u : State} (h : s.CoresAs u) : s.CoresAs u.syncLoops :=
  List.foldlRecOn (motive := s.CoresAs) _ _ h fun _ hv i _ => State.syncLoop_coresAs hv i

theorem State.opticsCheck_coresAs {s u : State} (h : s.CoresAs u) : s.CoresAs u.opticsCheck := by
  have hoptics : Keep 0x2000300 u.syncLoops u.opticsCheck :=
    Keep.foldl _ (fun v l hv => v.opticsStep_keep l rfl hv) (Keep.refl _ _)
  exact (State.syncLoops_coresAs h).of_keep hoptics rfl rfl

theorem State.setTarget_coresAs {s u : State} (h : s.CoresAs u) {c : Nat} (hc : u.axLaneOf c < 8) (n : Nat) :
    s.CoresAs (u.setTarget c n) := by
  unfold State.setTarget
  split
  · exact h.modAx hc fun _ => rfl
  · exact h.modAx hc fun _ => rfl

/-- Withdrawn optics ramp the channels of their lane. -/
theorem State.opticsStop_coresAs {s u : State} (h : s.CoresAs u) {l : Nat} (hl : l < 8) : s.CoresAs (u.opticsStop l) := by
  unfold State.opticsStop
  split
  case h_3 => exact h
  all_goals
    extract_lets s1 s2
    have hs1 : s.CoresAs s1.syncLoops := State.syncLoops_coresAs (h.of_keep (m := 0x2000000)
      (Keep.modLine (.inr fun _ => ⟨rfl, rfl, rfl⟩) (.inr fun _ => rfl) (.inr fun _ => rfl) (.inr fun _ => rfl) (.inr fun _ => rfl)
        (.inr fun _ => rfl) (.inr fun _ => rfl) (.inl rfl) (Keep.refl _ _)) rfl rfl)
    have hs2 : s.CoresAs s2 := List.foldlRecOn (motive := s.CoresAs) _ _ hs1 fun v hv i _ => hv.modLoop i _
    refine State.opticsCheck_coresAs (List.foldlRecOn (motive := s.CoresAs) _ _ hs2 fun v hv c hc => ?_)
    have hlane : v.axLaneOf c = l := by
      rw [hv.lane, ← hs2.lane]
      exact beq_iff_eq.1 (List.mem_filter.1 hc).2
    split
    · exact hv
    · exact State.setTarget_coresAs hv (hlane ▸ hl) _

theorem State.syncTx_coresAs {s u : State} (h : s.CoresAs u) {l : Nat} (hl : l < 8) (cause : TxCause) : s.CoresAs (u.syncTx l cause) := by
  have hltx : ∀ (v : State) (f : Ltx → Ltx), s.CoresAs v → s.CoresAs (v.modLtx l f) := fun v f hv =>
    hv.of_keep (m := 0x800000) (Keep.modLtx rfl (Keep.refl _ _)) rfl rfl
  have hend : ∀ v : State, s.CoresAs v → s.CoresAs (v.endEnable l cause) := fun v hv => by
    unfold State.endEnable
    split
    · exact (State.opticsStop_coresAs (hltx v _ hv) hl).of_keep (State.raise_frame ..) rfl rfl
    · exact hltx v _ hv
  have hstate : ∀ v : State, s.CoresAs v → s.CoresAs (v.syncTxState l cause) := fun v hv => by
    unfold State.syncTxState
    dsimp only
    split
    · split
      · split
        · exact hltx v _ hv
        · exact hv
      · exact hltx v _ hv
      · exact hv
    · split
      · exact hend v hv
      · exact hltx v _ hv
      · exact hltx v _ hv
      · exact hv
  unfold State.syncTx
  extract_lets s0 s1
  have hs0 : s.CoresAs s0 := by
    dsimp only [s0]
    split
    · exact h
    · exact hltx u _ h
  refine hltx s1 _ ?_
  dsimp only [s1]
  split
  · exact hs0
  · exact hstate s0 hs0

/-- Receivers, transmitters, loops and groups that follow a change move no core. -/
theorem State.sync_coresAs (s : State) : s.CoresAs s.sync := by
  have hlines : s.CoresAs ((List.range s.lines).foldl (fun s l => (s.syncRx l).syncTx l .laneState) s) :=
    List.foldlRecOn (motive := s.CoresAs) _ _ (.refl s) fun v hv l hl =>
      State.syncTx_coresAs (hv.of_keep (v.syncRx_frame l) rfl rfl) (lt_of_lt_of_le (List.mem_range.1 hl) s.lines_le) .laneState
  unfold State.sync State.syncWith
  extract_lets s1 s2
  have hs2 : s.CoresAs s2 := hlines.of_keep (m := 0x18000000) (Keep.foldl _ (fun u h hu => State.syncHost_keep u h rfl hu) (Keep.refl _ _)) rfl rfl
  exact (State.opticsCheck_coresAs hs2).of_keep (m := 0x20010005b08)
    (State.settle_keep _ rfl (Keep.foldl _ (fun u g hu => State.syncGroup_keep u g rfl hu) (Keep.refl _ _))) rfl rfl

/-! Abandoned handovers. -/

/-- Where no run is in progress, what follows a change begins and abandons none. -/
theorem State.calCheck_idle {s : State} (h : ∀ b, (s.calAt b).running = false) : Keep 0x4000000000 s s.calCheck := by
  have hend : Keep 0x4000000000 s s.calCheck ∧ s.CalKept s.calCheck := by
    unfold State.calCheck
    refine List.foldlRecOn (motive := fun u => Keep 0x4000000000 s u ∧ s.CalKept u) _ _ ⟨Keep.refl _ _, .refl s⟩ ?_
    rintro u ⟨hu, hkept⟩ b -
    have hidle : (u.calAt b).running = false := (hkept b).2 (h b)
    dsimp only
    rw [hidle, if_neg Bool.false_ne_true]
    split
    · refine ⟨State.setDue_keep _ _ _ rfl (Keep.modCal rfl hu), State.setDue_calKept ?_ b duePower⟩
      exact hkept.modCal fun _ => ⟨rfl, id⟩
    · exact ⟨hu, hkept⟩
  exact hend.1

/-- Core 32 is given to no further channel, and channels have at most moved their ramps or come back to their own cores. -/
structure State.CoresFreed (s t : State) : Prop where
  serves : s.ocu.c32 = none → t.ocu.c32 = none
  calibrates : s.ocu.c32Cal = false → t.ocu.c32Cal = false
  channel : ∀ c, (t.axAt c).parked = (s.axAt c).parked
  hand : ∀ c, (s.axAt c).hand = 0 → (t.axAt c).hand = 0
  core : ∀ c, (s.axAt c).core = none → (t.axAt c).core = none

namespace State.CoresFreed
variable {m : Nat} {s t u : State}

theorem refl (s : State) : s.CoresFreed s := ⟨id, id, fun _ => rfl, fun _ => id, fun _ => id⟩

theorem of_coresAs (h : s.CoresAs t) : s.CoresFreed t where
  serves := fun hs => h.serves.trans hs
  calibrates := fun hs => h.calibrates.trans hs
  channel := fun c => show (t.axAt c).unramped.parked = (s.axAt c).unramped.parked from congrArg Ax.parked (h.channel c)
  hand := fun c hc => (show (t.axAt c).unramped.hand = (s.axAt c).unramped.hand from congrArg Ax.hand (h.channel c)).trans hc
  core := fun c hc => (show (t.axAt c).unramped.core = (s.axAt c).unramped.core from congrArg Ax.core (h.channel c)).trans hc

theorem of_keep (h : s.CoresFreed t) (hu : Keep m t u) (hm : m.testBit 37 = false) : s.CoresFreed u := by
  have hocu : u.ocu = t.ocu := (hu.1 .ocu hm).symm
  have hax := hu.axAt_eq hm
  constructor
  · exact hocu ▸ h.serves
  · exact hocu ▸ h.calibrates
  all_goals
    intro c
    rw [hax]
  · exact h.channel c
  · exact h.hand c
  · exact h.core c

/-- A field of a channel that neither a ramp nor a handover moves. -/
theorem ax_eq {α : Type} (h : s.CoresFreed t) (c : Nat) (f : Ax → α) (hf : ∀ x : Ax, f x.parked = f x) : f (t.axAt c) = f (s.axAt c) := by
  rw [← hf, h.channel c, hf]

/-- A channel comes back to its own core. -/
theorem release (h : s.CoresFreed t) (c : Nat) : s.CoresFreed (t.modAx c fun x => { x with hand := 0, core := none }) := by
  refine ⟨h.serves, h.calibrates, fun k => ?_, fun k hk => ?_, fun k hk => ?_⟩
  all_goals
    rw [State.axAt_modAx]
    split
  · next heq =>
    rw [heq]
    exact h.channel c
  · exact h.channel k
  · rfl
  · exact h.hand k hk
  · rfl
  · exact h.core k hk

end State.CoresFreed

theorem State.calAbandon_coresFreed {s u : State} (h : s.CoresFreed u) (b cause : Nat) : s.CoresFreed (u.calAbandon b cause) := by
  unfold State.calAbandon
  extract_lets x s1 y back ocu s3 ocu' s2
  have hs1 : s.CoresFreed s1 := h.of_keep (m := 0x4000000000) (Keep.modCal rfl (Keep.refl _ _)) rfl
  have hback : s.CoresFreed back := by
    dsimp only [back]
    split
    · exact hs1.of_keep (m := 0x100000) (Keep.modSlice rfl (Keep.refl _ _)) rfl
    · exact hs1
  have hs2 : s.CoresFreed s2 := by
    dsimp only [s2]
    split
    · exact hback.of_keep (m := 0x180000) (Keep.modLrx (.inr fun _ => rfl) rfl (Keep.refl _ _)) rfl
    · exact hs1
    · split
      · exact ⟨hs1.serves, fun _ => rfl, hs1.channel, hs1.hand, hs1.core⟩
      · have hs3 : s.CoresFreed s3 := hs1.release (b - 32)
        exact ⟨fun _ => rfl, hs3.calibrates, hs3.channel, hs3.hand, hs3.core⟩
    · exact hs1
  split
  · split
    · exact hs2
    · exact hs2.of_keep (State.raise_frame ..) rfl
  · exact h

theorem State.calCheck_coresFreed {s u : State} (h : s.CoresFreed u) : s.CoresFreed u.calCheck := by
  refine List.foldlRecOn (motive := s.CoresFreed) _ _ h fun v hv b _ => ?_
  have hcal : ∀ f : Cal → Cal, s.CoresFreed (v.modCal b f) := fun f => hv.of_keep (m := 0x4000000000) (Keep.modCal rfl (Keep.refl _ _)) rfl
  dsimp only
  split
  · split
    · exact hcal _
    · exact State.calAbandon_coresFreed hv b abEligible
  · split
    · exact (hcal _).of_keep (m := 0x4000000000) (State.setDue_keep _ _ _ rfl (Keep.refl _ _)) rfl
    · exact hv

theorem State.follow_coresFreed (s : State) : s.CoresFreed s.follow :=
  State.calCheck_coresFreed (.of_coresAs s.sync_coresAs)

end Sys2Proof.Machine
end

section
/-! PROOFS. Core faults and handovers of the auxiliary channels (O50; R564 to R566). -/

namespace Sys2Proof.Machine

/-- A field of a channel that is no part of its ramp. -/
theorem State.CoresAs.ax_eq {α : Type} {s t : State} (h : s.CoresAs t) (c : Nat) (f : Ax → α) (hf : ∀ x : Ax, f x.unramped = f x) :
    f (t.axAt c) = f (s.axAt c) := by
  rw [← hf, h.channel c, hf]

/-- Where no run is in progress, what follows a change moves no core. -/
theorem State.follow_coresAs {s : State} (h : ∀ b, (s.calAt b).running = false) : s.CoresAs s.follow := by
  have hsync : Keep 0x2201b905b08 s s.sync := s.sync_frame
  exact s.sync_coresAs.of_keep (State.calCheck_idle fun b => (hsync.calAt_eq rfl b).symm ▸ h b) rfl rfl

/-! Failed channels and cores under test. -/

theorem State.axAt_coreToTest (s : State) (c k : Nat) :
    (s.coreToTest c).axAt k = if k = c then { s.axAt c with coreHealth := .test } else s.axAt k := by
  rw [State.coreToTest, (State.report_frame ..).axAt_eq rfl, State.axAt_modAx]

theorem State.coreToTest_frame (s : State) (c : Nat) : Keep 0x12000000000 s (s.coreToTest c) :=
  State.report_keep _ _ _ _ _ rfl (Keep.modAx rfl (Keep.refl _ _))

theorem State.axAt_axFail (s : State) (c k : Nat) :
    (s.axFail c).axAt k = if k = c then { s.axAt c with failed := true } else s.axAt k := by
  unfold State.axFail
  extract_lets s1 on
  have hraises : Keep 0x300 s1 (on.foldl (fun s i => s.raise evOcuLoopStopped [Word.nat i, Word.nat c])
      (s1.raise evOcuNoSpare [Word.nat c, Word.nat (s.axAt c).code])) :=
    Keep.foldl _ (fun u i hu => State.raise_keep u _ _ rfl hu) (s1.raise_frame _ _)
  have hax := congrArg (tget · (fun _ => ({} : Ax)) k) (State.opticsCheck_ax (on.foldl
    (fun s i => s.raise evOcuLoopStopped [Word.nat i, Word.nat c]) (s1.raise evOcuNoSpare [Word.nat c, Word.nat (s.axAt c).code])))
  exact hax.trans ((hraises.axAt_eq rfl k).trans (State.axAt_modAx ..))

theorem State.axFail_raises {s t : State} {m : Nat} (c : Nat) (hears : s.hears) (ht : Keep m (s.axFail c) t) (hm : m.testBit 47 = false) :
    Raises s t evOcuNoSpare [Word.nat c, Word.nat (s.axAt c).code] := by
  refine Raises.keep (u := s.axFail c) ?_ ht hm
  unfold State.axFail
  extract_lets s1 on
  refine Raises.of_keep (m := 0x2000000000) (u := s1) hears (Keep.modAx rfl (Keep.refl _ _)) rfl (n := 0x2002000300) (State.opticsCheck_keep _ rfl ?_) rfl
  exact Keep.foldl _ (fun u i hu => State.raise_keep u _ _ rfl hu) (Keep.refl _ _)

/-! Substitution. -/

/-- Core 32 takes over channel `c` (R565). -/
def State.stoodIn (s : State) (c : Nat) : State :=
  { ((s.modAx c fun x => { x with core := some 32 }).modAx 32 fun x => { x with code := 0, target := 0 }) with
    ocu := { ((s.modAx c fun x => { x with core := some 32 }).modAx 32 fun x => { x with code := 0, target := 0 }).ocu with
      c32 := some c } }

theorem State.stoodIn_frame (s : State) (c : Nat) : Keep 0x2000000000 s (s.stoodIn c) :=
  Keep.set_ocu rfl (Keep.modAx rfl (Keep.modAx rfl (Keep.refl _ _)))

theorem State.axAt_stoodIn (s : State) {c : Nat} (hc : c < 32) : (s.stoodIn c).axAt c = { s.axAt c with core := some 32 } := by
  have hax : (s.stoodIn c).axAt c =
      ((s.modAx c fun x => { x with core := some 32 }).modAx 32 fun x => { x with code := 0, target := 0 }).axAt c := rfl
  rw [hax, State.axAt_modAx, if_neg hc.ne, State.axAt_modAx_self]

/-- The substitution is told and counted, and the faulty core goes to self-test. -/
def State.coreSubstituted (s : State) (c k : Nat) : State :=
  (((s.stoodIn c).raise evOcuCoreSubst [Word.nat c, Word.nat k]).bump gAx c 2).coreToTest c

theorem State.coreSubstituted_after (s : State) (c k : Nat) :
    Keep 0x12000020300 ((s.stoodIn c).raise evOcuCoreSubst [Word.nat c, Word.nat k]) (s.coreSubstituted c k) :=
  (State.coreToTest_frame ..).step rfl (Keep.bump rfl (Keep.refl _ _))

theorem State.coreSubstituted_frame (s : State) (c k : Nat) : Keep 0x12000020300 s (s.coreSubstituted c k) :=
  (s.coreSubstituted_after c k).step rfl (State.raise_keep _ _ _ rfl ((s.stoodIn_frame c).step rfl (Keep.refl _ _)))

theorem State.coreSubstituted_core (s : State) {c : Nat} (k : Nat) (hc : c < 32) : (s.coreSubstituted c k).ocu.c32 = some c ∧
    (s.coreSubstituted c k).axAt c = { s.axAt c with core := some 32, coreHealth := .test } ∧
    (s.coreSubstituted c k).statAt gAx c 2 = (s.statAt gAx c 2).add 1 := by
  have hfirst := s.stoodIn_frame c
  have hraise := (s.stoodIn c).raise_frame evOcuCoreSubst [Word.nat c, Word.nat k]
  unfold State.coreSubstituted
  generalize (s.stoodIn c).raise evOcuCoreSubst [Word.nat c, Word.nat k] = u at hraise
  have hbump : Keep 0x20000 u (u.bump gAx c 2) := Keep.bump rfl (Keep.refl _ _)
  refine ⟨?_, ?_, ?_⟩
  · have hocu : ((u.bump gAx c 2).coreToTest c).ocu.c32 = (u.bump gAx c 2).ocu.c32 := by
      rw [State.coreToTest, State.report_ocu]
      rfl
    exact hocu.trans (congrArg Ocu.c32 (hraise.1 .ocu rfl).symm)
  · rw [State.axAt_coreToTest, if_pos rfl, hbump.axAt_eq rfl, hraise.axAt_eq rfl, State.axAt_stoodIn s hc]
  · rw [(State.coreToTest_frame ..).statAt_eq rfl, State.statAt_bump_self, hraise.statAt_eq rfl, hfirst.statAt_eq rfl]

theorem State.coreFault_of_spare {s : State} (c k : Nat) (hspare : s.spareCore) (hfree : s.ocu.c32 = none)
    (hcal : s.ocu.c32Cal = false) : s.coreFault c k = s.coreSubstituted c k := by
  have hfreed : s.freeCore32 = s := by simp [State.freeCore32, hfree, hcal]
  rw [State.coreFault, if_pos hspare, hfreed]
  rfl

/-- Without core 32 the channel holds and is FAILED. -/
theorem State.coreFault_of_none {s : State} (c k : Nat) (hspare : s.spareCore = false) :
    s.coreFault c k = ((s.modAx c fun x => { x with held := true }).axFail c).coreToTest c := by
  rw [State.coreFault, if_neg (by simp [hspare])]

theorem exec_axCoreFault {s : State} {c : Nat} (k : Nat) (hc : c < 32) (hclk : s.dev.refclk) (hcore : (s.axAt c).core = none)
    (hok : (s.axAt c).coreHealth = .ok) : exec (.axCoreFault c k) s = .next (s.coreFault c k).follow := by
  change execAxCoreFault c k s = _
  rw [execAxCoreFault, if_pos ⟨hc.le, hclk⟩, if_neg (by simp [hc.ne, hcore]), if_pos hok]

theorem axCoreFault_substitutes (c k : Nat) : Completes (.axCoreFault c k)
    (fun s => c < 32 ∧ s.dev.refclk ∧ (s.axAt c).core = none ∧ (s.axAt c).coreHealth = .ok ∧ s.spareCore ∧ s.ocu.c32 = none ∧
      s.ocu.c32Cal = false ∧ (∀ b, (s.calAt b).running = false) ∧ s.hears)
    (fun s t => t.ocu.c32 = some c ∧ (t.axAt c).core = some 32 ∧ (t.axAt c).coreHealth = .test ∧
      (8 ≤ s.axLaneOf c → (t.axAt c).code = (s.axAt c).code) ∧ (t.axAt c).failed = (s.axAt c).failed ∧
      t.statAt gAx c 2 = (s.statAt gAx c 2).add 1 ∧ Raises s t evOcuCoreSubst [Word.nat c, Word.nat k]) := by
  rintro s ⟨hc, hclk, hcore, hok, hspare, hfree, hcal, hidle, hears⟩
  have hexec := exec_axCoreFault k hc hclk hcore hok
  rw [State.coreFault_of_spare c k hspare hfree hcal] at hexec
  refine ⟨_, hexec, ?_⟩
  obtain ⟨hserves, hax, hstat⟩ := s.coreSubstituted_core k hc
  have hframe := s.coreSubstituted_frame c k
  have hcores : (s.coreSubstituted c k).CoresAs (s.coreSubstituted c k).follow := State.follow_coresAs fun b => by
    rw [hframe.calAt_eq rfl]
    exact hidle b
  have hfollow := (s.coreSubstituted c k).follow_frame
  have hlane : (s.coreSubstituted c k).axLaneOf c = s.axLaneOf c := congrArg BitVec.toNat (hframe.param_eq rfl nOcuAx c axLane)
  refine ⟨hcores.serves.trans hserves, ?_, ?_, fun hnone => ?_, ?_, ?_, ?_⟩
  · rw [hcores.ax_eq c Ax.core fun _ => rfl, hax]
  · rw [hcores.ax_eq c Ax.coreHealth fun _ => rfl, hax]
  · rw [hcores.code c (hlane.symm ▸ hnone), hax]
  · rw [hcores.ax_eq c Ax.failed fun _ => rfl, hax]
  · rw [hfollow.statAt_eq rfl, hstat]
  · exact Raises.of_keep hears (s.stoodIn_frame c) rfl (hfollow.step (m := 0x3601b925b08) rfl ((s.coreSubstituted_after c k).step rfl (Keep.refl _ _))) rfl

theorem axCoreFault_holds (c k : Nat) : Completes (.axCoreFault c k)
    (fun s => c < 32 ∧ s.dev.refclk ∧ (s.axAt c).core = none ∧ (s.axAt c).coreHealth = .ok ∧ s.spareCore = false ∧ s.hears)
    (fun s t => (t.axAt c).failed = true ∧ (t.axAt c).held = true ∧ (t.axAt c).coreHealth = .test ∧
      Raises s t evOcuNoSpare [Word.nat c, Word.nat (s.axAt c).code]) := by
  rintro s ⟨hc, hclk, hcore, hok, hspare, hears⟩
  have hexec := exec_axCoreFault k hc hclk hcore hok
  rw [State.coreFault_of_none c k hspare] at hexec
  refine ⟨_, hexec, ?_⟩
  have hheld : Keep 0x2000000000 s (s.modAx c fun x => { x with held := true }) := Keep.modAx rfl (Keep.refl _ _)
  have hself := s.axAt_modAx_self c fun x => { x with held := true }
  generalize s.modAx c (fun x => { x with held := true }) = u at hheld hself ⊢
  have hax : ((u.axFail c).coreToTest c).axAt c = { s.axAt c with held := true, failed := true, coreHealth := .test } := by
    rw [State.axAt_coreToTest, if_pos rfl, State.axAt_axFail, if_pos rfl, hself]
  have hcores := ((u.axFail c).coreToTest c).follow_coresFreed
  refine ⟨?_, ?_, ?_, ?_⟩
  · rw [hcores.ax_eq c Ax.failed fun _ => rfl, hax]
  · rw [hcores.ax_eq c Ax.held fun _ => rfl, hax]
  · rw [hcores.ax_eq c Ax.coreHealth fun _ => rfl, hax]
  · have hraises := State.axFail_raises c (hheld.hears rfl hears) ((State.follow_frame _).step (m := 0x3601b905b08) rfl
      (((u.axFail c).coreToTest_frame c).step rfl (Keep.refl _ _))) rfl
    rw [hself] at hraises
    exact hraises.after hheld rfl

theorem axCoreFault_ofSpareCore (k : Nat) : Completes (.axCoreFault 32 k)
    (fun s => s.dev.refclk ∧ (s.axAt 32).coreHealth = .ok ∧ s.ocu.c32 = none ∧ s.ocu.c32Cal = false)
    (fun s t => (t.axAt 32).coreHealth = .test ∧ ∀ c, c < 32 → (t.axAt c).failed = (s.axAt c).failed) := by
  rintro s ⟨hclk, hok, hfree, hcal⟩
  have hfault : s.core32Fault = s.coreToTest 32 := by simp [State.core32Fault, hfree, hcal]
  have hexec : exec (.axCoreFault 32 k) s = .next (s.coreToTest 32).follow := by
    change execAxCoreFault 32 k s = _
    rw [execAxCoreFault, if_pos ⟨le_rfl, hclk⟩, if_pos (.inl rfl), if_pos hok, hfault]
  have hcores := (s.coreToTest 32).follow_coresFreed
  refine ⟨_, hexec, ?_, fun c hc => ?_⟩
  · rw [hcores.ax_eq 32 Ax.coreHealth fun _ => rfl, State.axAt_coreToTest, if_pos rfl]
  · rw [hcores.ax_eq c Ax.failed fun _ => rfl, State.axAt_coreToTest, if_neg hc.ne]

theorem axOutputStageFailure_completes (c : Nat) : Completes (.axOutputStageFailure c)
    (fun s => c ≤ 32 ∧ (s.axAt c).stageOff = false ∧ (s.axAt c).failed = false ∧ s.hears)
    (fun s t => (t.axAt c).stageOff = true ∧ (t.axAt c).failed = true ∧
      Raises s t evOcuNoSpare [Word.nat c, Word.nat (s.axAt c).code]) := by
  rintro s ⟨hc, hon, hwell, hears⟩
  have hexec : exec (.axOutputStageFailure c) s = .next ((s.modAx c fun x => { x with stageOff := true }).axFail c).follow := by
    change execAxOutputStageFailure c s = _
    rw [execAxOutputStageFailure, if_pos ⟨hc, by simp [hon]⟩]
    dsimp only
    rw [if_neg (by simp [hwell])]
  refine ⟨_, hexec, ?_⟩
  have hoff : Keep 0x2000000000 s (s.modAx c fun x => { x with stageOff := true }) := Keep.modAx rfl (Keep.refl _ _)
  have hself := s.axAt_modAx_self c fun x => { x with stageOff := true }
  generalize s.modAx c (fun x => { x with stageOff := true }) = u at hoff hself ⊢
  have hax : (u.axFail c).axAt c = { s.axAt c with stageOff := true, failed := true } := by
    rw [State.axAt_axFail, if_pos rfl, hself]
  have hcores := (u.axFail c).follow_coresFreed
  refine ⟨?_, ?_, ?_⟩
  · rw [hcores.ax_eq c Ax.stageOff fun _ => rfl, hax]
  · rw [hcores.ax_eq c Ax.failed fun _ => rfl, hax]
  · have hraises := State.axFail_raises c (hoff.hears rfl hears) (State.follow_frame _) rfl
    rw [hself] at hraises
    exact hraises.after hoff rfl

/-! Handovers (R564). -/

theorem handoverSwitch_lends (c : Nat) : Completes (.handoverSwitch c)
    (fun s => c < 32 ∧ (s.calAt (32 + c)).running ∧ (s.axAt c).hand = 1)
    (fun s t => t.axAt c = { s.axAt c with hand := 3, core := some 32 } ∧ (t.calAt (32 + c)).pairs = [] ∧
      OnlyChanges [.ocu, .cal] s t) := by
  rintro s ⟨hc, hrun, hhand⟩
  have hexec : exec (.handoverSwitch c) s = .next ((s.modAx c fun x => { x with hand := 3, core := some 32 }).modCal (32 + c)
      fun y => { y with pair := 0, pairs := [] }) := by
    change execHandoverSwitch c s = _
    rw [execHandoverSwitch, if_pos ⟨hc, hrun⟩, if_pos hhand]
  refine ⟨_, hexec, s.axAt_modAx_self c _, ?_, ?_⟩
  · rw [State.calAt_modCal_self]
  · exact (Keep.modCal (m := 0x6000000000) rfl (Keep.modAx rfl (Keep.refl _ _))).among rfl

/-- The channel takes its own core back, and core 32 is free. -/
def State.takenBack (s : State) (c : Nat) : State :=
  { (s.modAx c fun x => { x with hand := 0, core := none }) with
    ocu := { (s.modAx c fun x => { x with hand := 0, core := none }).ocu with c32 := none } }

theorem State.axAt_takenBack (s : State) (c : Nat) : (s.takenBack c).axAt c = { s.axAt c with hand := 0, core := none } := by
  have hax : (s.takenBack c).axAt c = (s.modAx c fun x => { x with hand := 0, core := none }).axAt c := rfl
  rw [hax, State.axAt_modAx_self]

/-- Core 32 and the channels' handovers are as they were. -/
def State.HandsAs (s t : State) : Prop :=
  t.ocu.c32 = s.ocu.c32 ∧ t.ocu.c32Cal = s.ocu.c32Cal ∧ ∀ c, (t.axAt c).hand = (s.axAt c).hand ∧ (t.axAt c).core = (s.axAt c).core

theorem State.HandsAs.of_keep {m : Nat} {s t u : State} (h : s.HandsAs t) (hu : Keep m t u) (hm : m.testBit 37 = false) : s.HandsAs u := by
  obtain ⟨hserves, hcal, hax⟩ := h
  have hocu : u.ocu = t.ocu := (hu.1 .ocu hm).symm
  refine ⟨hocu ▸ hserves, hocu ▸ hcal, fun c => ?_⟩
  rw [hu.axAt_eq hm]
  exact hax c

/-- A run of the auxiliary DACs that completes reports cores and hands none on. -/
theorem State.calFinish_hands (s : State) {b : Nat} (hkind : calKind b = .ax) : s.HandsAs (s.calFinish b) := by
  have hreport : ∀ (u : State) (e : Nat), s.HandsAs u → s.HandsAs (u.reportElem b e) := fun u e ⟨hserves, hcal, hax⟩ => by
    rw [State.reportElem, hkind]
    refine State.HandsAs.of_keep (t := u.modAx (b - 32) fun x => { x with coreHealth := .test }) ?_ (State.report_frame ..) rfl
    refine ⟨hserves, hcal, fun c => ?_⟩
    rw [State.axAt_modAx]
    split
    · next heq => exact heq ▸ hax (b - 32)
    · exact hax c
  have hended : Keep 0x4000000000 s (s.runEnded b) := Keep.modCal rfl (Keep.refl _ _)
  have hs : s.HandsAs s := ⟨rfl, rfl, fun _ => ⟨rfl, rfl⟩⟩
  unfold State.calFinish
  extract_lets x d s1 s2
  have hs2 : s.HandsAs s2 := List.foldlRecOn (motive := s.HandsAs) _ _ (hs.of_keep hended rfl) fun u hu e _ => hreport u e hu
  exact hs2.of_keep (State.raise_frame ..) rfl

theorem calKind_ax {c : Nat} (hc : c ≤ 32) : calKind (32 + c) = .ax := by
  rw [calKind, if_neg (by omega), if_neg (by omega), if_pos (by omega)]

theorem handoverSwitch_returns (c : Nat) : Completes (.handoverSwitch c)
    (fun s => c < 32 ∧ (s.calAt (32 + c)).running ∧ (s.axAt c).hand = 4)
    (fun _ t => (t.axAt c).hand = 0 ∧ (t.axAt c).core = none ∧ t.ocu.c32 = none ∧ (t.calAt (32 + c)).running = false) := by
  rintro s ⟨hc, hrun, hhand⟩
  have hexec : exec (.handoverSwitch c) s = .next ((s.takenBack c).calFinish (32 + c)).follow := by
    change execHandoverSwitch c s = _
    rw [execHandoverSwitch, if_pos ⟨hc, hrun⟩, if_neg (by simp [hhand]), if_pos hhand]
    rfl
  obtain ⟨hserves, -, hax⟩ := (s.takenBack c).calFinish_hands (calKind_ax hc.le)
  have hcores := ((s.takenBack c).calFinish (32 + c)).follow_coresFreed
  have hself := s.axAt_takenBack c
  refine ⟨_, hexec, hcores.hand c ?_, hcores.core c ?_, hcores.serves hserves, ((s.takenBack c).calFinish_follow_spec (32 + c)).1⟩
  · rw [(hax c).1, hself]
  · rw [(hax c).2, hself]

theorem coreCalibrationDone_returns (c : Nat) : Completes (.coreCalibrationDone c)
    (fun s => c < 32 ∧ (s.calAt (32 + c)).running ∧ 3 ≤ (s.calAt (32 + c)).pair ∧ (s.axAt c).hand = 3)
    (fun s t => t.axAt c = { s.axAt c with hand := 4 } ∧ OnlyChanges [.ocu] s t) := by
  rintro s ⟨hc, hrun, hpair, hhand⟩
  have hexec : exec (.coreCalibrationDone c) s = .next (s.modAx c fun x => { x with hand := 4 }) := by
    change execCoreCalibrationDone c s = _
    rw [execCoreCalibrationDone, if_pos ⟨hrun, hpair⟩, if_neg hc.ne, if_pos ⟨hc, hhand⟩]
  exact ⟨_, hexec, s.axAt_modAx_self c _, (Keep.modAx (m := 0x2000000000) rfl (Keep.refl _ _)).among rfl⟩

theorem coreCalibrationDone_ofSpareCore : Completes (.coreCalibrationDone 32)
    (fun s => (s.calAt 64).running ∧ 3 ≤ (s.calAt 64).pair)
    (fun _ t => t.ocu.c32Cal = false ∧ (t.calAt 64).running = false) := by
  rintro s ⟨hrun, hpair⟩
  have hexec : exec (.coreCalibrationDone 32) s = .next (({ s with ocu := { s.ocu with c32Cal := false } } : State).calFinish 64).follow := by
    change execCoreCalibrationDone 32 s = _
    rw [execCoreCalibrationDone, if_pos ⟨hrun, hpair⟩, if_pos rfl]
  refine ⟨_, hexec, ?_, (State.calFinish_follow_spec _ 64).1⟩
  exact (State.follow_coresFreed _).calibrates (State.calFinish_hands _ rfl).2.1

/-- Settles O50, from what the rules that follow a change leave of cores and handovers: an abandoned run may end one, none begins one. -/
theorem coresComplete : Obligations.CoresComplete := by
  unfold Obligations.CoresComplete
  refine ⟨axCoreFault_substitutes, axCoreFault_holds, axCoreFault_ofSpareCore, fun c k s hno => ?_, axOutputStageFailure_completes,
    handoverSwitch_lends, handoverSwitch_returns, coreCalibrationDone_returns, coreCalibrationDone_ofSpareCore⟩
  have hexec : exec (.axCoreFault c k) s = .next s := by
    change execAxCoreFault c k s = _
    rw [execAxCoreFault, if_neg]
    rintro ⟨hc, hclk⟩
    exact hno.elim (fun h => absurd hc h.not_ge) fun h => by simp [h] at hclk
  exact ⟨_, hexec, rfl⟩

end Sys2Proof.Machine
end

section
/-! PROOFS. Power (O53; R687, R689, R692, R696 to R702, R713): what a start-up finds after every converter has stopped, warnings of the
rails, and the steps of the adaptive VCORE. -/

namespace Sys2Proof.Machine

/-! Without converters. -/

/-- What the part keeps when every converter stops. -/
theorem State.powerLoss_eq (s : State) : s.powerLoss = { s.cold with shut := { last := s.keepRecord.shut.last } } := by
  unfold State.powerLoss State.keepRecord
  split <;> rfl

theorem State.startUp_of_canStart {s : State} (h : s.canStart) :
    s.startUp = { s.powerLoss with pwr := { s.powerLoss.pwr with up := true }, dev := { s.powerLoss.dev with step := 1 } } := if_pos h

/-- Nothing holds the converters off. -/
theorem State.canStart_iff (s : State) : s.canStart ↔ s.pwr.en = true ∧ s.pwr.sysRst = false ∧ s.pwr.latch = false ∧
    s.thm.backstop = false ∧ s.pwr.overVolt = false ∧ 88 ≤ s.pwr.vin := by
  simp [State.canStart, and_assoc]

theorem vinPowerDown_completes : Completes .vinPowerDown (fun _ => True)
    (fun s t => t.pwr.up = false ∧ t.dev.mode = .starting ∧ t.dev.step = 0 ∧ t.pwr.latch = false ∧ t.pwr.vin = 0 ∧ t.fuses = s.fuses ∧
      t.rep = s.rep ∧ t.fw.a = s.fw.a ∧ t.fw.b = s.fw.b ∧ t.pending = s.pending ∧ t.pwr.fault = s.pwr.fault ∧ t.thm.thermN = false) := by
  intro s _
  refine ⟨_, rfl, ?_⟩
  rw [State.powerLoss_eq]
  exact ⟨rfl, rfl, rfl, rfl, rfl, rfl, rfl, rfl, rfl, rfl, rfl, rfl⟩

theorem inputOvervoltage_completes : Completes .inputOvervoltage (fun _ => True)
    (fun s t => t.pwr.up = false ∧ t.pwr.overVolt = true ∧ t.fuses = s.fuses ∧ t.rep = s.rep) := by
  intro s _
  refine ⟨_, rfl, ?_⟩
  rw [State.powerLoss_eq]
  exact ⟨rfl, rfl, rfl, rfl⟩

theorem enFall_completes : Completes .enFall (fun _ => True)
    (fun s t => t.pwr.en = false ∧ t.pwr.latch = false ∧ t.pwr.up = false ∧ t.rep = s.rep) := by
  intro s _
  refine ⟨_, rfl, ?_⟩
  rw [State.powerLoss_eq]
  exact ⟨rfl, rfl, rfl, rfl⟩

theorem enRise_completes : Completes .enRise (fun s => s.pwr.en = false ∧ s.pwr.sysRst = false ∧ s.pwr.latch = false ∧
      s.thm.backstop = false ∧ s.pwr.overVolt = false ∧ 88 ≤ s.pwr.vin)
    (fun _ t => t.pwr.en = true ∧ t.pwr.up = true ∧ t.dev.mode = .starting ∧ t.dev.step = 1) := by
  rintro s ⟨hen, hrst, hlatch, hback, hover, hvin⟩
  have hstart : (s.modPwr fun x => { x with en := true }).canStart :=
    (State.canStart_iff _).2 ⟨rfl, hrst, hlatch, hback, hover, hvin⟩
  have hexec : exec .enRise s = .next (s.modPwr fun x => { x with en := true }).startUp := by
    change execEnRise s = _
    rw [execEnRise, if_neg (by simp [hen])]
  refine ⟨_, hexec, ?_⟩
  rw [State.startUp_of_canStart hstart, State.powerLoss_eq]
  exact ⟨rfl, rfl, rfl, rfl⟩

theorem sysRstNAct_completes : Completes .sysRstNAct (fun s => s.pwr.sysRst = false)
    (fun s t => t.pwr.sysRst = true ∧ t.pwr.up = false ∧ t.tku.bcnt = 0 ∧ t.rep = s.rep) := by
  intro s hrst
  have hexec : exec .sysRstNAct s = .next (s.modPwr fun x => { x with sysRst := true }).powerLoss := by
    change execSysRstNAct s = _
    rw [execSysRstNAct, if_neg (by simp [hrst])]
  refine ⟨_, hexec, ?_⟩
  rw [State.powerLoss_eq]
  exact ⟨rfl, rfl, rfl, rfl⟩

theorem sysRstNRelease_completes : Completes .sysRstNRelease
    (fun s => s.pwr.sysRst ∧ s.pwr.en ∧ s.pwr.latch = false ∧ s.thm.backstop = false ∧ s.pwr.overVolt = false ∧ 88 ≤ s.pwr.vin)
    (fun _ t => t.pwr.sysRst = false ∧ t.pwr.up = true ∧ t.dev.step = 1 ∧ t.tku.bcnt = 0) := by
  rintro s ⟨hrst, hen, hlatch, hback, hover, hvin⟩
  have hstart : (s.modPwr fun x => { x with sysRst := false }).canStart :=
    (State.canStart_iff _).2 ⟨hen, rfl, hlatch, hback, hover, hvin⟩
  have hexec : exec .sysRstNRelease s = .next (s.modPwr fun x => { x with sysRst := false }).startUp := by
    change execSysRstNRelease s = _
    rw [execSysRstNRelease, if_pos hrst]
  refine ⟨_, hexec, ?_⟩
  rw [State.startUp_of_canStart hstart, State.powerLoss_eq]
  exact ⟨rfl, rfl, rfl, rfl⟩

theorem backstopTrip_completes : Completes .backstopTrip (fun s => s.pwr.up)
    (fun s t => t.pwr.up = false ∧ t.thm.backstop = true ∧ t.thm.trip = true ∧ t.thm.thermN = true ∧
      t.shut.last = s.keepRecord.shut.last) := by
  intro s hup
  have hexec : exec .backstopTrip s =
      .next (({ s with thm := { s.thm with backstop := true, trip := true, thermN := true } } : State).powerLoss) := by
    change execBackstopTrip s = _
    rw [execBackstopTrip, if_pos hup]
  refine ⟨_, hexec, ?_⟩
  rw [State.powerLoss_eq]
  refine ⟨rfl, rfl, rfl, rfl, ?_⟩
  unfold State.keepRecord
  split <;> rfl

/-! Rails (R692, R702). -/

theorem railFault_completes (rail : Nat) (c : RailCause) : Completes (.railFault rail c) (fun s => s.railOn rail)
    (fun s t => t.pwr.up = false ∧ t.pwr.latch = true ∧ t.pwr.fault = some { rail := rail, cause := c, bcnt := s.tku.bcnt }) := by
  intro s hon
  have hexec : exec (.railFault rail c) s = .next (s.powerLoss.modPwr fun x =>
      { x with latch := true, fault := some { rail := rail, cause := c, bcnt := s.tku.bcnt } }) := by
    change execRailFault rail c s = _
    rw [execRailFault, if_pos hon]
  refine ⟨_, hexec, ?_⟩
  rw [State.powerLoss_eq]
  exact ⟨rfl, rfl, rfl⟩

theorem railCurrentDwell_completes (rail i : Nat) : Completes (.railCurrentDwell rail i)
    (fun s => s.railOn rail ∧ railLimit rail * s.parN nPwrCfg 0 pwWarn < 20 * i ∧ tget s.pwr.warnAt (fun _ => none) rail = none ∧ s.hears)
    (fun s t => Raises s t evPwrCurrentWarn [Word.nat rail, Word.nat i] ∧
      tget t.pwr.warnAt (fun _ => none) rail = some s.tku.bcnt) := by
  rintro s ⟨hon, hlimit, hnever, hears⟩
  have hexec : exec (.railCurrentDwell rail i) s = .next ((s.modPwr fun x =>
      { x with warnAt := tset x.warnAt (fun _ => none) rail (some s.tku.bcnt) }).raise evPwrCurrentWarn [Word.nat rail, Word.nat i]) := by
    change execRailCurrentDwell rail i s = _
    simp only [execRailCurrentDwell, hnever]
    rw [if_pos ⟨hon, hlimit, trivial⟩]
  refine ⟨_, hexec, ?_, ?_⟩
  · exact Raises.of_keep (m := 0x80000000000) hears (Keep.set_pwr rfl (Keep.refl _ _)) rfl (Keep.refl 0 _) rfl
  · rw [State.raise_pwr]
    exact tget_tset_same s.pwr.warnAt (fun _ => none) rail (some s.tku.bcnt)

/-! The adaptive VCORE (R696 to R701). -/

/-- The report of a slack, before the regulation. -/
def State.slackTaken (s : State) (slack : List Int) (rates : List Nat) : State := s.modPwr fun x => { x with slack := slack, rates := rates }

theorem State.reportRates_pwr (s : State) (rates : List Nat) : (s.reportRates rates).pwr = s.pwr :=
  ((s.reportRates_keep rates (k0 := 0x30380221b82) rfl (Keep.refl _ _)).1 .pwr rfl).symm

/-- With no reduction asked for or in force, the slack alone decides (R696). -/
theorem exec_slackReport {s : State} {slack : List Int} {rates : List Nat} (hon : s.dev.powered) (hslack : slack.length = s.quads)
    (hrates : rates.length = s.quads) (hstep : s.pwr.stepping = false) (happlied : s.pwr.applied = 0) (hred : s.thm.reduction = 0) :
    ∃ t, exec (.slackReport slack rates) s = .next t ∧ t.pwr = ((s.slackTaken slack rates).slackRegulate slack rates).pwr := by
  have hexec : exec (.slackReport slack rates) s = .next
      ((if ((s.slackTaken slack rates).slackRegulate slack rates).pwr.vcore = vcoreMax ∧
          !((s.slackTaken slack rates).slackRegulate slack rates).pwr.stepping then
        ((s.slackTaken slack rates).slackRegulate slack rates).reportRates rates
      else (s.slackTaken slack rates).slackRegulate slack rates).sync) := by
    change execSlackReport slack rates s = _
    rw [execSlackReport, if_pos ⟨hon, hslack, hrates⟩]
    dsimp only
    rw [if_neg (show ¬(s.modPwr fun x => { x with slack := slack, rates := rates }).pwr.stepping = true by simp [State.modPwr, hstep]),
      if_pos (show (s.modPwr fun x => { x with slack := slack, rates := rates }).pwr.applied =
        (s.modPwr fun x => { x with slack := slack, rates := rates }).thm.reduction from happlied.trans hred.symm)]
    rfl
  refine ⟨_, hexec, ?_⟩
  rw [State.sync_pwr]
  split
  · exact State.reportRates_pwr _ _
  · rfl

theorem State.slackLow_of_room {s : State} {slack : List Int} {rates : List Nat} (h : s.pwr.vcore + 5 ≤ vcoreMax) :
    s.slackLow slack rates = s.vcoreUp := if_pos h

theorem slackReport_raises (slack : List Int) (rates : List Nat) (m : Int) : Completes (.slackReport slack rates)
    (fun s => s.dev.powered ∧ slack.length = s.quads ∧ rates.length = s.quads ∧ s.pwr.stepping = false ∧ s.pwr.applied = 0 ∧
      s.thm.reduction = 0 ∧ slack.min? = some m ∧ m < slackTarget s.thm.band ∧ s.pwr.vcore + 5 ≤ vcoreMax)
    (fun s t => t.pwr.vcore = s.pwr.vcore + 5 ∧ t.pwr.stepping = true ∧ t.pwr.announced = none) := by
  rintro s ⟨hon, hslack, hrates, hstep, happlied, hred, hmin, hlow, hroom⟩
  obtain ⟨t, hexec, hpwr⟩ := exec_slackReport hon hslack hrates hstep happlied hred
  refine ⟨t, hexec, ?_⟩
  dsimp only
  rw [hpwr, State.slackRegulate, hmin, if_pos ⟨hlow, happlied⟩, State.slackLow_of_room]
  · exact ⟨rfl, rfl, rfl⟩
  · exact hroom

theorem slackReport_lowers (slack : List Int) (rates : List Nat) (m : Int) : Completes (.slackReport slack rates)
    (fun s => s.dev.powered ∧ slack.length = s.quads ∧ rates.length = s.quads ∧ s.pwr.stepping = false ∧ s.pwr.applied = 0 ∧
      s.thm.reduction = 0 ∧ slack.min? = some m ∧ slackTarget s.thm.band + 300 < m)
    (fun s t => t.pwr.vcore = s.pwr.vcore ∧ t.pwr.lowering = true) := by
  rintro s ⟨hon, hslack, hrates, hstep, happlied, hred, hmin, hhigh⟩
  obtain ⟨t, hexec, hpwr⟩ := exec_slackReport hon hslack hrates hstep happlied hred
  have hnot : ¬m < slackTarget s.thm.band := by omega
  refine ⟨t, hexec, ?_⟩
  dsimp only
  rw [hpwr, State.slackRegulate, hmin, if_neg fun h => hnot h.1]
  exact ⟨rfl, decide_eq_true hhigh⟩

theorem loweringDwellExpiry_completes : Completes .loweringDwellExpiry
    (fun s => s.dev.powered ∧ s.pwr.lowering ∧ s.pwr.stepping = false ∧ 555 ≤ s.pwr.vcore)
    (fun s t => t = { s with pwr := { s.pwr with announced := some (s.pwr.vcore - 5), forThrottle := false } }) := by
  rintro s ⟨hon, hlowering, hstep, hroom⟩
  refine ⟨_, ?_, rfl⟩
  change execLoweringDwellExpiry s = _
  rw [execLoweringDwellExpiry, if_pos ⟨hon, hlowering, by simp [hstep], hroom⟩]
  rfl

/-- The Hinge confirms an announced reduction, or PWR drops it (R155). -/
theorem exec_vcoreReductionAnnounced {s : State} {v : Nat} (hv : s.pwr.announced = some v) : exec .vcoreReductionAnnounced s = .next
    (if s.dev.powered ∧ s.placementsHold ∧ (!s.pwr.forThrottle ∨ (s.floorsHold ∧ s.atFloors)) then
      { s with pwr := { s.pwr with
        announced := none, vcore := v, stepping := true, ceiling := false, lowering := false
        applied := if s.pwr.forThrottle then s.pwr.applied + 1 else s.pwr.applied } }
    else { s with pwr := { s.pwr with announced := none } }) := by
  change execVcoreReductionAnnounced s = _
  simp only [execVcoreReductionAnnounced, hv]
  rfl

theorem vcoreReductionAnnounced_confirms (v : Nat) : Completes .vcoreReductionAnnounced
    (fun s => s.pwr.announced = some v ∧ s.dev.powered ∧ s.placementsHold ∧ s.pwr.forThrottle = false)
    (fun s t => t.pwr.vcore = v ∧ t.pwr.announced = none ∧ t.pwr.stepping = true ∧ OnlyChanges [.pwr] s t) := by
  rintro s ⟨hv, hon, hplaced, hthrottle⟩
  refine ⟨_, exec_vcoreReductionAnnounced hv, ?_⟩
  rw [if_pos ⟨hon, hplaced, .inl (by simp [hthrottle])⟩]
  exact ⟨rfl, rfl, rfl, (Keep.set_pwr (m := 0x80000000000) rfl (Keep.refl _ _)).among rfl⟩

theorem vcoreReductionAnnounced_throttles (v : Nat) : Completes .vcoreReductionAnnounced
    (fun s => s.pwr.announced = some v ∧ s.dev.powered ∧ s.placementsHold ∧ s.pwr.forThrottle ∧
      ∀ l, l ∈ s.startedLanes → (s.lineAt l).sea.tier ≤ (s.laneIn l).floor ∧
        ((s.laneIn l).guar → (s.laneIn l).floor ≤ (s.lineAt l).sea.tier))
    (fun s t => t.pwr.vcore = v ∧ t.pwr.announced = none ∧ t.pwr.stepping = true ∧ t.pwr.applied = s.pwr.applied + 1 ∧
      OnlyChanges [.pwr] s t) := by
  rintro s ⟨hv, hon, hplaced, hthrottle, hlanes⟩
  have hfloors : s.floorsHold := List.all_eq_true.2 fun l hl => by
    have hguar := (hlanes l hl).2
    cases hg : (s.laneIn l).guar <;> simp_all
  have hat : s.atFloors := List.all_eq_true.2 fun l hl => decide_eq_true (hlanes l hl).1
  refine ⟨_, exec_vcoreReductionAnnounced hv, ?_⟩
  rw [if_pos ⟨hon, hplaced, .inr ⟨hfloors, hat⟩⟩]
  exact ⟨rfl, rfl, rfl, if_pos hthrottle, (Keep.set_pwr (m := 0x80000000000) rfl (Keep.refl _ _)).among rfl⟩

theorem vcoreReductionAnnounced_aboveFloor (v l : Nat) : Completes .vcoreReductionAnnounced
    (fun s => s.pwr.announced = some v ∧ s.pwr.forThrottle ∧ l ∈ s.startedLanes ∧ (s.laneIn l).floor < (s.lineAt l).sea.tier)
    (fun s t => t = { s with pwr := { s.pwr with announced := none } }) := by
  rintro s ⟨hv, hthrottle, hl, habove⟩
  refine ⟨_, exec_vcoreReductionAnnounced hv, if_neg ?_⟩
  rintro ⟨-, -, h⟩
  obtain h | ⟨-, hat⟩ := h
  · simp [hthrottle] at h
  · exact absurd (of_decide_eq_true (List.all_eq_true.1 hat l hl)) habove.not_ge

theorem vcoreReductionAnnounced_drops (v : Nat) : Completes .vcoreReductionAnnounced
    (fun s => s.pwr.announced = some v ∧ s.placementsHold = false)
    (fun s t => t = { s with pwr := { s.pwr with announced := none } }) := by
  rintro s ⟨hv, hplaced⟩
  exact ⟨_, exec_vcoreReductionAnnounced hv, if_neg fun h => by simp [hplaced] at h⟩

theorem vcoreStepSettled_completes (rates : List Nat) : Completes (.vcoreStepSettled rates)
    (fun s => s.dev.powered ∧ s.pwr.stepping ∧ rates.length = s.quads)
    (fun s t => t.pwr.stepping = false ∧ t.pwr.rates = rates ∧ t.pwr.vcore = s.pwr.vcore) := by
  rintro s ⟨hon, hstep, hrates⟩
  have hexec : exec (.vcoreStepSettled rates) s =
      .next ((s.modPwr fun x => { x with stepping := false, rates := rates }).reportRates rates).follow := by
    change execVcoreStepSettled rates s = _
    rw [execVcoreStepSettled, if_pos ⟨hon, hstep, hrates⟩]
  refine ⟨_, hexec, ?_⟩
  dsimp only
  rw [State.follow_pwr, State.reportRates_pwr]
  exact ⟨rfl, rfl, rfl⟩

/-- Settles O53, clause by clause from the equation of a stop of every converter and of the Hinge's answer to a reduction. -/
theorem powerCommandsComplete : Obligations.PowerCommandsComplete :=
  ⟨vinPowerDown_completes, inputOvervoltage_completes, enFall_completes, enRise_completes, sysRstNAct_completes,
    sysRstNRelease_completes, railFault_completes, railCurrentDwell_completes, backstopTrip_completes, slackReport_raises,
    slackReport_lowers, loweringDwellExpiry_completes, vcoreReductionAnnounced_confirms, vcoreReductionAnnounced_throttles,
    vcoreReductionAnnounced_aboveFloor, vcoreReductionAnnounced_drops, vcoreStepSettled_completes⟩

end Sys2Proof.Machine
end

section
/-! PROOFS. The Shutter (O55; R431, R433 to R437): its start, the end of each of its steps, stricter triggers, and step 5. -/

namespace Sys2Proof.Machine

/-! The mode SHUTTER is entered by a trigger alone, and nothing that follows a change leaves it (R417). -/

theorem Keep.mode_eq {m : Nat} {s t : State} (h : Keep m s t) (hm : m.testBit 3 = false) : t.dev.mode = s.dev.mode :=
  (h.1 .devMode hm).1.symm

theorem State.settle_shutter (s : State) : s.settle.dev.mode = .shutter ↔ s.dev.mode = .shutter := by
  have hports : s.settlePorts.dev.mode = .shutter ↔ s.dev.mode = .shutter := by
    unfold State.settlePorts
    split
    · next h =>
      rw [State.setMode_mode, h.1]
      split <;> simp
    · split
      · next h =>
        rw [State.setMode_mode]
        rcases h.1 with h | h <;> simp [h]
      · rfl
  have hguard : ∀ u : State, u.settleGuard.dev.mode = .shutter ↔ u.dev.mode = .shutter := fun u => by
    unfold State.settleGuard
    split
    · rfl
    · extract_lets g times u1
      split
      · next h =>
        rw [State.setMode_mode, h.1]
        simp
      · split
        · next h =>
          rw [State.setMode_mode, h.1]
          simp
        · rfl
  have hafter : Keep 0x20000005b00 s.settlePorts.settleGuard s.settle :=
    State.settleIcu_keep _ rfl (State.settleErr_keep _ rfl (Keep.refl _ _))
  rw [hafter.mode_eq rfl, hguard, hports]

theorem State.syncWith_shutter (s : State) (cause : TxCause) : (s.syncWith cause).dev.mode = .shutter ↔ s.dev.mode = .shutter := by
  unfold State.syncWith
  extract_lets s1 s2
  have hbefore : Keep 0x201b900300 s ([0, 1].foldl (fun s g => s.syncGroup g) s2.opticsCheck) :=
    Keep.foldl _ (fun u g hu => State.syncGroup_keep u g rfl hu)
      (State.opticsCheck_keep _ rfl (Keep.foldl _ (fun u h hu => State.syncHost_keep u h rfl hu)
        (Keep.foldl _ (fun u l hu => State.syncTx_keep _ l _ rfl (State.syncRx_keep u l rfl hu)) (Keep.refl _ _))))
  rw [State.settle_shutter, hbefore.mode_eq rfl]

theorem State.sync_shutter (s : State) : s.sync.dev.mode = .shutter ↔ s.dev.mode = .shutter := by
  rw [State.sync]
  exact s.syncWith_shutter .laneState

theorem State.follow_shutter (s : State) : s.follow.dev.mode = .shutter ↔ s.dev.mode = .shutter := by
  have hcheck : Keep 0x6000100300 s.sync s.follow := s.sync.calCheck_frame
  rw [hcheck.mode_eq rfl, s.sync_shutter]

/-! A trigger starts it (R431). -/

/-- The record that a Shutter begins with: step 1 is done at once. -/
def State.shutRecord (s : State) (t : Trigger) (broken : Bool) : ShutRec :=
  { trigger := t, broken := broken, bcnt := s.tku.bcnt, view := s.view, began := [s.tku.bcnt], ended := [s.tku.bcnt], completed := [true]
    guard := s.dev.guard }

/-- The part once it has entered the Shutter: what was outstanding is refused, and lanes have left TEST. -/
def State.shutEntered (s : State) : State :=
  if s.dev.mode = .workshop then (s.setMode .shutter tShutter).refuseOutstanding.dropWork.endTests
  else (s.setMode .shutter tShutter).refuseOutstanding.dropWork

theorem State.shutEntered_mode (s : State) : s.shutEntered.dev.mode = .shutter := by
  have hdrop : (s.setMode .shutter tShutter).refuseOutstanding.dropWork.dev.mode = .shutter := by
    have hrefuse : Keep 0x20000001b80 (s.setMode .shutter tShutter) (s.setMode .shutter tShutter).refuseOutstanding :=
      State.refuseOutstanding_keep _ rfl (Keep.refl _ _)
    have hwork : Keep 0x3363a1321ba2 (s.setMode .shutter tShutter).refuseOutstanding
        (s.setMode .shutter tShutter).refuseOutstanding.dropWork := State.dropWork_keep _ rfl (Keep.refl _ _)
    rw [hwork.mode_eq rfl, hrefuse.mode_eq rfl, State.setMode_mode]
  unfold State.shutEntered
  split
  · have htests : Keep 0x2323aeff1b82 (s.setMode .shutter tShutter).refuseOutstanding.dropWork
        (s.setMode .shutter tShutter).refuseOutstanding.dropWork.endTests := State.endTests_keep _ rfl (Keep.refl _ _)
    rw [htests.mode_eq rfl, hdrop]
  · exact hdrop

/-- The Shutter's own fields at its start. -/
def State.shutBegun (s : State) (t : Trigger) (broken : Bool) (hold : Nat) (skip : Bool) (ticket : Option Ticket) : State :=
  s.shutEntered.modShut fun x =>
    { x with column := t, hold := hold, skipBist := skip, ticket := ticket, rec_ := s.shutRecord t broken }

/-- Under an undervoltage the lines are cut; then all else follows the mode. -/
def State.shutFollowed (s : State) (t : Trigger) : State := (if t = .undervoltage then s.cutLines else s).sync

theorem State.shutFollowed_spec (s : State) (t : Trigger) (h : s.dev.mode = .shutter) :
    (s.shutFollowed t).dev.mode = .shutter ∧ (s.shutFollowed t).shut = s.shut := by
  have hcut : Keep 0x2002800300 s (if t = .undervoltage then s.cutLines else s) :=
    Keep.ite (State.cutLines_keep s rfl (Keep.refl _ _)) (Keep.refl _ _)
  unfold State.shutFollowed
  rw [State.sync_shutter, State.sync_shut, hcut.mode_eq rfl]
  exact ⟨h, (hcut.1 .shut rfl).symm⟩

theorem State.shutStart_eq (s : State) (t : Trigger) (broken : Bool) (hold : Nat) (skip : Bool) (ticket : Option Ticket) :
    s.shutStart t broken hold skip ticket =
      if s.fwModes then ((s.shutBegun t broken hold skip ticket).shutFollowed t).shutFlush (s.dev.powered && s.unitOn fLex)
      else (((s.shutBegun t broken hold skip ticket).shutFollowed t).modShut fun x =>
        { x with rec_ := (x.rec_.begin s.tku.bcnt).stop s.tku.bcnt true }).shutSave := rfl

theorem State.shutFlush_spec (s : State) (lexicon : Bool) : (s.shutFlush lexicon).dev.mode = s.dev.mode ∧
    (s.shutFlush lexicon).shut = { s.shut with step := .flush, rec_ := s.shut.rec_.begin s.tku.bcnt } := by
  refine ⟨(s.shutFlush_keep lexicon (k0 := 0x60200020040) rfl (Keep.refl _ _)).mode_eq rfl, ?_⟩
  have hpass : ∀ u : State, Keep 0x60200020000 u ((if lexicon then u.startPass false true [] else u).startDump false true []) := fun u =>
    State.startDump_keep _ _ _ _ rfl (Keep.ite (State.startPass_keep u _ _ _ rfl (Keep.refl _ _)) (Keep.refl _ _))
  exact ((hpass _).1 .shut rfl).symm

/-- A trigger starts the Shutter: its column, and the flush, or where nothing can be flushed the saving of the log. -/
theorem State.shutStart_spec (s : State) (t : Trigger) (broken : Bool) (hold : Nat) (skip : Bool) (ticket : Option Ticket) :
    (s.shutStart t broken hold skip ticket).dev.mode = .shutter ∧ (s.shutStart t broken hold skip ticket).shut.column = t ∧
      (s.shutStart t broken hold skip ticket).shut.hold = hold ∧ (s.shutStart t broken hold skip ticket).shut.rec_.trigger = t ∧
      (s.shutStart t broken hold skip ticket).shut.rec_.broken = broken ∧
      (s.shutStart t broken hold skip ticket).shut.step = if s.fwModes then .flush else .save := by
  have hbegun : (s.shutBegun t broken hold skip ticket).dev.mode = .shutter := s.shutEntered_mode
  have hfields : (s.shutBegun t broken hold skip ticket).shut.column = t ∧ (s.shutBegun t broken hold skip ticket).shut.hold = hold ∧
      (s.shutBegun t broken hold skip ticket).shut.rec_.trigger = t ∧
      (s.shutBegun t broken hold skip ticket).shut.rec_.broken = broken := ⟨rfl, rfl, rfl, rfl⟩
  obtain ⟨hmode, hshut⟩ := (s.shutBegun t broken hold skip ticket).shutFollowed_spec t hbegun
  rw [State.shutStart_eq]
  generalize (s.shutBegun t broken hold skip ticket).shutFollowed t = u at hmode hshut
  rw [← hshut] at hfields
  obtain ⟨hcolumn, hhold, htrigger, hbroken⟩ := hfields
  cases s.fwModes with
  | true =>
    obtain ⟨hflush, hstep⟩ := u.shutFlush_spec (s.dev.powered && s.unitOn fLex)
    rw [if_pos rfl, if_pos rfl, hflush, hstep]
    exact ⟨hmode, hcolumn, hhold, htrigger, hbroken, rfl⟩
  | false => exact ⟨hmode, hcolumn, hhold, htrigger, hbroken, rfl⟩

end Sys2Proof.Machine
end

section
/-! PROOFS. The steps of the Shutter (O55; R431, R433 to R437): stricter triggers, the end of each step, and step 5. -/

namespace Sys2Proof.Machine

/-! An undervoltage (R431, R434). -/

/-- PWR has reported the undervoltage. -/
def State.undervolted (s : State) (v : Nat) : State :=
  (s.modPwr fun x => { x with vin := v }).raise evPwrUndervoltage [Word.nat v, s.param nPwrCfg 0 pwLevel]

theorem exec_vinUndervoltage {s : State} {v : Nat} (hup : s.pwr.up) (hlow : v < s.uvLevel)
    (hstep : s.dev.mode = .shutter → s.shut.step ≠ .complete) :
    exec (.vinUndervoltage v) s = .next ((s.undervolted v).shutTrigger .undervoltage false) := by
  change execVinUndervoltage v s = _
  rw [execVinUndervoltage, if_pos ⟨hup, hlow, fun h => hstep h.1 h.2⟩]
  rfl

theorem State.undervolted_frame (s : State) (v : Nat) : Keep 0x80000000300 s (s.undervolted v) :=
  State.raise_keep _ _ _ rfl (Keep.set_pwr rfl (Keep.refl _ _))

theorem vinUndervoltage_starts (v : Nat) : Completes (.vinUndervoltage v)
    (fun s => s.pwr.up ∧ v < s.uvLevel ∧ s.dev.mode = .dormant ∧ s.hears)
    (fun s t => t.dev.mode = .shutter ∧ t.shut.column = .undervoltage ∧ t.shut.step = .flush ∧ t.shut.hold = 0 ∧ t.pwr.vin = v ∧
      Raises s t evPwrUndervoltage [Word.nat v, s.param nPwrCfg 0 pwLevel]) := by
  rintro s ⟨hup, hlow, hdormant, hears⟩
  have hmode : (s.undervolted v).dev.mode = .dormant := ((s.undervolted_frame v).mode_eq rfl).trans hdormant
  have hstart : (s.undervolted v).shutTrigger .undervoltage false = (s.undervolted v).shutStart .undervoltage false 0 false none :=
    if_neg (by rw [hmode]; exact Mode.noConfusion)
  refine ⟨_, exec_vinUndervoltage hup hlow (by simp [hdormant]), ?_⟩
  have hafter : Keep 0x3763bfff5bea (s.undervolted v) ((s.undervolted v).shutTrigger .undervoltage false) :=
    State.shutTrigger_keep _ _ _ rfl (Keep.refl _ _)
  have hpwr : ((s.undervolted v).shutTrigger .undervoltage false).pwr = (s.undervolted v).pwr := (hafter.1 .pwr rfl).symm
  have hvin : (s.undervolted v).pwr.vin = v := congrArg Pwr.vin (State.raise_pwr ..)
  obtain ⟨hshutter, hcolumn, hhold, -, -, hstep⟩ := (s.undervolted v).shutStart_spec .undervoltage false 0 false none
  rw [← hstart] at hshutter hcolumn hhold hstep
  have hfw : (s.undervolted v).fwModes = true := by simp [State.fwModes, hmode]
  refine ⟨hshutter, hcolumn, hstep.trans (if_pos hfw), hhold, by rw [hpwr, hvin], ?_⟩
  exact Raises.of_keep (m := 0x80000000000) hears (Keep.set_pwr rfl (Keep.refl _ _)) rfl hafter rfl

/-- In a hold a stricter trigger goes on to step 5 (R434). -/
theorem vinUndervoltage_endsHold (v : Nat) : Completes (.vinUndervoltage v)
    (fun s => s.pwr.up ∧ v < s.uvLevel ∧ s.dev.mode = .shutter ∧ s.shut.column = .commanded ∧ s.shut.step = .hold)
    (fun _ t => t.shut.column = .undervoltage ∧ t.shut.step = .power ∧ t.dev.mode = .shutter) := by
  rintro s ⟨hup, hlow, hmode, hcolumn, hstep⟩
  refine ⟨_, exec_vinUndervoltage hup hlow fun _ => by rw [hstep]; exact ShutStep.noConfusion, ?_⟩
  have hframe := s.undervolted_frame v
  have hmode' := (hframe.mode_eq rfl).trans hmode
  have hshut : (s.undervolted v).shut = s.shut := (hframe.1 .shut rfl).symm
  generalize s.undervolted v = u at hmode' hshut
  have hcut : ∀ w : State, Keep 0x2002800300 w w.cutLines := fun w => State.cutLines_keep w rfl (Keep.refl _ _)
  have hcutShut : (u.modShut fun x => { x with column := .undervoltage }).cutLines.shut = { u.shut with column := .undervoltage } :=
    ((hcut _).1 .shut rfl).symm
  have hcutMode : (u.modShut fun x => { x with column := .undervoltage }).cutLines.dev.mode = .shutter := ((hcut _).mode_eq rfl).trans hmode'
  have hadopt : u.shutTrigger .undervoltage false = (u.modShut fun x => { x with column := .undervoltage }).cutLines.afterHold := by
    rw [State.shutTrigger, if_pos hmode', State.shutAdopt, if_pos (by rw [hshut, hcolumn, hstep]; decide)]
    dsimp only
    rw [if_pos rfl, hcutShut, hshut, hstep]
    dsimp only
    rw [State.shutAbandon, hcutShut, hshut, hstep]
  dsimp only
  rw [hadopt]
  generalize (u.modShut fun x => { x with column := .undervoltage }).cutLines = w at hcutShut hcutMode
  refine ⟨?_, ?_, hcutMode⟩
  · rw [State.afterHold, State.modShut, hcutShut]
  · rw [State.afterHold, State.modShut, hcutShut]
    rfl

/-! The flush and the saving of the log (R433, R435, R437). -/

/-- The end of the flush closes both dumps and takes their numbers into the record. -/
theorem State.afterFlush_spec (s : State) (done : Bool) : (s.afterFlush done).shut.step = .save ∧
    (s.afterFlush done).shut.rec_.completed = s.shut.rec_.completed ++ [done] ∧
    (s.afterFlush done).shut.rec_.ended = s.shut.rec_.ended ++ [s.tku.bcnt] ∧ (s.afterFlush done).shut.rec_.lexSeq = s.lex.seq - 1 ∧
    (s.afterFlush done).shut.rec_.pmcSeq = s.pmc.last.getD 0 ∧ (s.afterFlush done).shut.rec_.column = s.shut.column ∧
    (s.afterFlush done).lex.pass = none ∧ (s.afterFlush done).pmc.dump = none := by
  unfold State.afterFlush
  extract_lets waiting s1 lex pmc s2
  have hfinish : Keep 0x20000001b80 s s1 := Keep.foldl _ (fun u t hu => State.finish_keep u t _ _ rfl hu) (Keep.refl _ _)
  have hshut : s2.shut = s.shut := (hfinish.1 .shut rfl).symm
  have hlex : s2.lex.seq = s.lex.seq :=
    show s1.lex.seq = s.lex.seq from congrArg Lex.seq (hfinish.1 .lex rfl).symm
  have hpmc : s2.pmc.last = s.pmc.last :=
    show s1.pmc.rest.last = s.pmc.rest.last from congrArg Pmcs.last (hfinish.1 .pmcRest rfl).symm
  have hpass : s2.lex.pass = none := rfl
  have hdump : s2.pmc.dump = none := rfl
  generalize s2 = u at hshut hlex hpmc hpass hdump
  rw [← hshut, ← hlex, ← hpmc]
  exact ⟨rfl, rfl, rfl, rfl, rfl, rfl, hpass, hdump⟩

theorem shutterFlushDone_completes : Completes .shutterFlushDone
    (fun s => s.dev.mode = .shutter ∧ s.shut.step = .flush ∧ s.lex.pass = none ∧ s.pmc.dump = none ∧ s.hif.ready = [])
    (fun s t => t.shut.step = .save ∧ t.shut.rec_.completed = s.shut.rec_.completed ++ [true] ∧
      t.shut.rec_.ended = s.shut.rec_.ended ++ [s.tku.bcnt] ∧ t.shut.rec_.lexSeq = s.lex.seq - 1 ∧
      t.shut.rec_.pmcSeq = s.pmc.last.getD 0 ∧ t.shut.rec_.column = s.shut.column) := by
  rintro s ⟨hmode, hstep, hpass, hdump, hready⟩
  have hexec : exec .shutterFlushDone s = .next (s.afterFlush true) := by
    change execShutterFlushDone s = _
    rw [execShutterFlushDone, if_pos ⟨hmode, hstep, hpass, hdump, by rw [hready]; rfl⟩]
  obtain ⟨hsave, hdone, hended, hlex, hpmc, hcolumn, -, -⟩ := s.afterFlush_spec true
  exact ⟨_, hexec, hsave, hdone, hended, hlex, hpmc, hcolumn⟩

/-- The end of the saving: a commanded Shutter holds or tests, any other goes on to step 5. -/
theorem State.afterSave_spec (s : State) (done : Bool) :
    (s.afterSave done).shut.step = (if s.shut.column = .commanded then
        (if 0 < s.shut.hold then .hold else if s.shut.skipBist then .power else .bist) else .power) ∧
      (s.afterSave done).shut.rec_.completed = s.shut.rec_.completed ++ [done] ∧ (s.afterSave done).shut.ticket = none := by
  unfold State.afterSave
  extract_lets s1 s2
  have hfinish : Keep 0x20000001b80 s1 s2 := State.finishOpt_keep _ _ _ _ _ rfl (Keep.refl _ _)
  have hshut : s2.shut = { s.shut with rec_ := s.shut.rec_.stop s.tku.bcnt done, ticket := none } := (hfinish.1 .shut rfl).symm
  generalize s2 = u at hshut
  rw [hshut]
  dsimp only
  split
  · next hhold =>
    rw [State.modShut, hshut, if_pos hhold.1, if_pos hhold.2]
    exact ⟨rfl, rfl, rfl⟩
  · next hhold =>
    rw [State.afterHold, State.modShut, hshut]
    refine ⟨?_, rfl, rfl⟩
    by_cases hcolumn : s.shut.column = .commanded
    · have hno : ¬0 < s.shut.hold := fun h => hhold ⟨hcolumn, h⟩
      rw [if_pos hcolumn, if_neg hno]
      cases hskip : s.shut.skipBist <;> simp [hcolumn]
    · rw [if_neg hcolumn]
      exact if_neg fun h => hcolumn h.1

theorem shutterDeadlineExpiry_endsFlush : Completes .shutterDeadlineExpiry (fun s => s.dev.mode = .shutter ∧ s.shut.step = .flush)
    (fun s t => t.shut.step = .save ∧ t.shut.rec_.completed = s.shut.rec_.completed ++ [false] ∧ t.lex.pass = none ∧
      t.pmc.dump = none) := by
  rintro s ⟨hmode, hstep⟩
  have hexec : exec .shutterDeadlineExpiry s = .next (s.afterFlush false) := by
    change execShutterDeadlineExpiry s = _
    rw [execShutterDeadlineExpiry, if_pos ⟨hmode, .inl hstep⟩, State.shutAbandon, hstep]
  obtain ⟨hsave, hdone, -, -, -, -, hpass, hdump⟩ := s.afterFlush_spec false
  exact ⟨_, hexec, hsave, hdone, hpass, hdump⟩

theorem shutterDeadlineExpiry_endsSave : Completes .shutterDeadlineExpiry
    (fun s => s.dev.mode = .shutter ∧ s.shut.step = .save ∧ s.shut.column = .thermal)
    (fun s t => t.shut.step = .power ∧ t.shut.rec_.completed = s.shut.rec_.completed ++ [false]) := by
  rintro s ⟨hmode, hstep, hcolumn⟩
  have hexec : exec .shutterDeadlineExpiry s = .next (s.afterSave false) := by
    change execShutterDeadlineExpiry s = _
    rw [execShutterDeadlineExpiry, if_pos ⟨hmode, .inr hstep⟩, State.shutAbandon, hstep]
  obtain ⟨hpower, hdone, -⟩ := s.afterSave_spec false
  refine ⟨_, hexec, hpower.trans (if_neg ?_), hdone⟩
  rw [hcolumn]
  exact Trigger.noConfusion

theorem shutterLogSaved_completes : Completes .shutterLogSaved (fun s => s.dev.mode = .shutter ∧ s.shut.step = .save)
    (fun s t => t.shut.step = (if s.shut.column = .commanded then
        (if 0 < s.shut.hold then .hold else if s.shut.skipBist then .power else .bist) else .power) ∧
      t.shut.rec_.completed = s.shut.rec_.completed ++ [true] ∧ t.shut.ticket = none) := by
  rintro s ⟨hmode, hstep⟩
  have hexec : exec .shutterLogSaved s =
      .next ((s.modShut fun x => { x with rec_ := { x.rec_ with step5At := s.step5Time } }).afterSave true) := by
    change execShutterLogSaved s = _
    rw [execShutterLogSaved, if_pos ⟨hmode, hstep⟩]
  exact ⟨_, hexec, State.afterSave_spec _ true⟩

/-! The hold and the test (R433, R645 to R647). -/

theorem shutterHoldEnd_completes : Completes .shutterHoldEnd
    (fun s => s.dev.mode = .shutter ∧ s.shut.step = .hold ∧ s.shut.column = .commanded)
    (fun s t => t = { s with shut := { s.shut with step := if s.shut.skipBist then .power else .bist } }) := by
  rintro s ⟨hmode, hstep, hcolumn⟩
  have hexec : exec .shutterHoldEnd s = .next s.afterHold := by
    change execShutterHoldEnd s = _
    rw [execShutterHoldEnd, if_pos ⟨hmode, hstep⟩]
  refine ⟨_, hexec, ?_⟩
  have hnext : (if s.shut.column = .commanded ∧ !s.shut.skipBist then ShutStep.bist else .power) =
      if s.shut.skipBist then .power else .bist := by
    rw [hcolumn]
    cases s.shut.skipBist <;> rfl
  rw [State.afterHold, State.modShut, hnext]

theorem shutdownBistDone_completes : Completes (.shutdownBistDone []) (fun s => s.dev.mode = .shutter ∧ s.shut.step = .bist)
    (fun s t => t.shut = { s.shut with step := .power } ∧ t.rep = s.rep) := by
  rintro s ⟨hmode, hstep⟩
  have hexec : exec (.shutdownBistDone []) s = .next (s.modShut fun x => { x with step := .power }).settle := by
    change execShutdownBistDone [] s = _
    rw [execShutdownBistDone, if_pos ⟨hmode, hstep⟩]
    rfl
  have hsettle : Keep 0x20000005b08 (s.modShut fun x => { x with step := .power }) (s.modShut fun x => { x with step := .power }).settle :=
    State.settle_keep _ rfl (Keep.refl _ _)
  exact ⟨_, hexec, (hsettle.1 .shut rfl).symm, (hsettle.1 .rep rfl).symm⟩

/-! Step 5 (R433, R436). -/

/-- What step 5 ends of a transmitter leaves every drive as it is. -/
theorem State.rampOut_state (s : State) (l k : Nat) : ((s.rampOut l).lineAt k).ltx.state = (s.lineAt k).ltx.state := by
  unfold State.rampOut
  dsimp only
  split
  · exact s.endEnable_state l .shutter k
  · rw [State.raise_lineAt_ltx]

/-- A carrier on air that is neither OFF nor ramping down is ended with the Shutter as its cause (R247). -/
theorem State.rampOut_raises {s : State} {l : Nat} (hears : s.hears) (hair : (s.lineAt l).ltx.state = .on ∨ (s.lineAt l).ltx.state = .rampUp) :
    Raises s (s.rampOut l) evLtxDisabled [Word.nat l, 2] := by
  have hraise : s.rampOut l = s.raise evLtxDisabled [Word.nat l, Word.nat TxCause.shutter.num] := by
    rw [State.rampOut]
    rcases hair with h | h <;> rw [h] <;> simp
  rw [hraise]
  exact Raises.of_keep hears (Keep.refl 0 s) rfl (Keep.refl 0 _) rfl

/-- Every transmitter has been ended. -/
def State.rampedOut (s : State) : State := (List.range s.lines).foldl (fun s l => s.rampOut l) s

theorem State.rampedOut_raises {s : State} {l : Nat} (hl : l < s.lines) (hears : s.hears)
    (hair : (s.lineAt l).ltx.state = .on ∨ (s.lineAt l).ltx.state = .rampUp) : Raises s s.rampedOut evLtxDisabled [Word.nat l, 2] := by
  have hkeep : ∀ (u : State) (k : Nat), Keep 0x2002800300 u (u.rampOut k) := fun u k => State.rampOut_keep u k rfl (Keep.refl _ _)
  refine foldl_reaches (Q := fun u => Keep 0x2002800300 s u ∧ (u.lineAt l).ltx.state = (s.lineAt l).ltx.state)
    (R := fun u => Raises s u evLtxDisabled [Word.nat l, 2]) (List.mem_range.2 hl) ?_ ?_ ?_ ⟨Keep.refl _ _, rfl⟩
  · rintro u k ⟨hu, hstate⟩
    exact ⟨(hkeep u k).step rfl hu, (u.rampOut_state k l).trans hstate⟩
  · rintro u ⟨hu, hstate⟩
    exact (State.rampOut_raises (hu.hears rfl hears) (hstate ▸ hair)).after hu rfl
  · exact fun u k hu => hu.keep (hkeep u k) rfl

/-- The lanes are DOWN, the optics idle and the link gone. -/
def State.shutSilenced (s : State) : State := s.rampedOut.lanesDown.axIdleAll.linkGone

/-- A transmitter without power. -/
def State.txOff (s : State) (l : Nat) : State := (s.pltTruncate l).modLtx l fun x =>
  { x with state := .off, enStep := 0, retry := false, content := .none, release := false }

/-- Every transmitter is OFF. -/
def State.shutOff (s : State) : State := (List.range s.lines).foldl (fun s l => s.txOff l) s.shutSilenced

/-- The datapath, LPDDR5X and PCIe are powered down. -/
def State.shutPowered (s : State) : State :=
  { s with
    dev := { s.dev with powered := false, pfEnabled := false }
    mem := { s.mem with data := [], cond := [] }
    thm := { s.thm with thermN := s.thm.thermN || decide (s.shut.column = Trigger.thermal) }
    pwr := { s.pwr with pgood := false }
    shut := { s.shut with step := .complete } }

theorem State.shutPowered_spec (s : State) : s.shutPowered.shut = { s.shut with step := .complete } ∧
    s.shutPowered.dev.powered = false ∧ s.shutPowered.dev.pfEnabled = false ∧ s.shutPowered.hif.linkUp = s.hif.linkUp ∧
    s.shutPowered.mem.data = [] ∧ s.shutPowered.pwr.pgood = false ∧
    s.shutPowered.thm.thermN = (s.thm.thermN || decide (s.shut.column = Trigger.thermal)) :=
  ⟨rfl, rfl, rfl, rfl, rfl, rfl, rfl⟩

theorem State.shutPowered_line (s : State) (l : Nat) : s.shutPowered.lineAt l = s.lineAt l := rfl

theorem State.shutPowered_frame (s : State) : Keep 0x88c00000060 s s.shutPowered := by
  have hdev : Keep 0x88c00000060 s (s.withDev { s.dev with powered := false, pfEnabled := false }) :=
    Keep.set_dev (.inr ⟨rfl, rfl, rfl⟩) (.inr rfl) (.inl rfl) (Keep.refl _ _)
  have hmem := Keep.set_mem (x := { s.mem with data := [], cond := [] }) (.inl rfl) (.inl rfl) (fun _ => rfl) (by exact id) hdev
  exact State.modShut_keep _ (fun x => { x with step := .complete }) rfl (Keep.set_pwr (x := { s.pwr with pgood := false }) rfl
    (Keep.set_thm (x := { s.thm with thermN := s.thm.thermN || decide (s.shut.column = Trigger.thermal) }) rfl hmem))

section
variable {m : Nat} {s t : State} (h : Keep m s t)
include h

theorem Keep.powered_eq (hm : m.testBit 5 = false) : t.dev.powered = s.dev.powered := (congrArg Dev.powered (h.1 .devRest hm).symm :)

theorem Keep.pfEnabled_eq (hm : m.testBit 5 = false) : t.dev.pfEnabled = s.dev.pfEnabled :=
  (congrArg Dev.pfEnabled (h.1 .devRest hm).symm :)

theorem Keep.linkUp_eq (hm : m.testBit 13 = false) : t.hif.linkUp = s.hif.linkUp := (congrArg Hif.linkUp (h.1 .hifRest hm).symm :)

end

theorem State.sync_off {s : State} {l : Nat} (h : (s.lineAt l).ltx.state = .off ∧ (s.lineAt l).ltx.content = .none) :
    (s.sync.lineAt l).ltx.state = .off := by
  have hcheck : Keep 0x6000100300 s.sync s.follow := s.sync.calCheck_frame
  have hltx : (s.sync.lineAt l).ltx = (s.follow.lineAt l).ltx := hcheck.1 .lnLtx rfl l
  rw [hltx]
  exact (State.follow_off h).1

theorem State.shutPower_eq (s : State) : s.shutPower = s.shutOff.shutPowered.sync := rfl

theorem State.txOff_frame (s : State) (l : Nat) : Keep 0x20001821b80 s (s.txOff l) :=
  Keep.modLtx rfl (State.pltTruncate_keep _ _ rfl (Keep.refl _ _))

theorem State.shutSilenced_after (s : State) : Keep 0x200e1c3300 s.rampedOut s.shutSilenced :=
  State.linkGone_keep _ rfl (State.axIdleAll_keep _ rfl (State.lanesDown_keep _ rfl (Keep.refl _ _)))

theorem State.shutOff_after (s : State) : Keep 0x20001821b80 s.shutSilenced s.shutOff :=
  Keep.foldl _ (fun u l hu => (u.txOff_frame l).step rfl hu) (Keep.refl _ _)

theorem State.shutOff_frame (s : State) : Keep 0x2200f9e3b80 s s.shutOff :=
  s.shutOff_after.step rfl (s.shutSilenced_after.step rfl
    (Keep.foldl _ (fun u l hu => State.rampOut_keep u l rfl hu) (Keep.refl _ _)))

theorem State.shutOff_off {s : State} {l : Nat} (hl : l < s.lines) :
    (s.shutOff.lineAt l).ltx.state = .off ∧ (s.shutOff.lineAt l).ltx.content = .none := by
  have hself : ∀ u : State, ((u.txOff l).lineAt l).ltx.state = .off ∧ ((u.txOff l).lineAt l).ltx.content = .none := fun u => by
    rw [State.txOff, State.lineAt_modLtx_self]
    exact ⟨rfl, rfl⟩
  refine foldl_reaches (f := State.txOff) (Q := fun _ => True)
    (R := fun u => (u.lineAt l).ltx.state = .off ∧ (u.lineAt l).ltx.content = .none) (List.mem_range.2 hl) (fun _ _ _ => trivial)
    (fun u _ => hself u) (fun u k hu => ?_) trivial
  by_cases hk : l = k
  · exact hk ▸ hself u
  · have hplt : Keep 0x20001021b80 u (u.pltTruncate k) := State.pltTruncate_keep _ _ rfl (Keep.refl _ _)
    rw [State.txOff, State.lineAt_modLtx, if_neg hk, ← hplt.1 .lnLtx rfl l]
    exact hu

theorem shutterPowerDown_completes : Completes .shutterPowerDown (fun s => s.dev.mode = .shutter ∧ s.shut.step = .power)
    (fun s t => t.shut = { s.shut with step := .complete } ∧ t.dev.powered = false ∧ t.dev.pfEnabled = false ∧ t.hif.linkUp = false ∧
      t.mem.data = [] ∧ t.pwr.pgood = false ∧ (∀ l, l < s.lines → (t.lineAt l).ltx.state = .off) ∧
      (∀ l, l < s.lines → (s.lineAt l).ltx.state = .on ∨ (s.lineAt l).ltx.state = .rampUp → s.hears →
        Raises s t evLtxDisabled [Word.nat l, 2]) ∧
      t.thm.thermN = (s.thm.thermN || decide (s.shut.column = Trigger.thermal))) := by
  rintro s ⟨hmode, hstep⟩
  have hexec : exec .shutterPowerDown s = .next s.shutOff.shutPowered.sync := by
    change execShutterPowerDown s = _
    rw [execShutterPowerDown, if_pos ⟨hmode, hstep⟩, State.shutPower_eq]
  refine ⟨_, hexec, ?_⟩
  have hoff := s.shutOff_frame
  have hshut : s.shutOff.shut = s.shut := (hoff.1 .shut rfl).symm
  have hthm : s.shutOff.thm = s.thm := (hoff.1 .thm rfl).symm
  have hlink : s.shutOff.hif.linkUp = false := by
    rw [s.shutOff_after.linkUp_eq rfl, State.shutSilenced, State.linkUp_linkGone]
  have hend := fun l (hl : l < s.lines) => State.shutOff_off hl
  have hraises := fun l (hl : l < s.lines) hears hair => ((State.rampedOut_raises hl hears hair).keep s.shutSilenced_after rfl).keep
    s.shutOff_after rfl
  generalize s.shutOff = u at hshut hthm hlink hend hraises ⊢
  obtain ⟨hcomplete, hpowered, hpf, hlinkOf, hdata, hpgood, htherm⟩ := u.shutPowered_spec
  have hframe := u.shutPowered_frame
  have hline := u.shutPowered_line
  generalize u.shutPowered = v at *
  have hsync := v.sync_frame
  dsimp only
  rw [State.sync_shut, State.sync_pwr, State.sync_thm, State.sync_mem_data, hsync.powered_eq rfl,
    hsync.pfEnabled_eq rfl, hsync.linkUp_eq rfl, hcomplete, hpowered, hpf, hlinkOf, hlink, hdata, hpgood, htherm, hshut, hthm]
  refine ⟨rfl, rfl, rfl, rfl, rfl, rfl, fun l hl => State.sync_off ?_, fun l hl hair hears => ?_, rfl⟩
  · rw [hline]
    exact hend l hl
  · exact ((hraises l hl hears hair).keep hframe rfl).keep v.sync_frame rfl

/-- Settles O55, from what a trigger starts and what the end of a flush, of a saving and of step 5 leave. -/
theorem shutterStepsComplete : Obligations.ShutterStepsComplete :=
  ⟨vinUndervoltage_starts, vinUndervoltage_endsHold, shutterFlushDone_completes, shutterDeadlineExpiry_endsFlush,
    shutterDeadlineExpiry_endsSave, shutterLogSaved_completes, shutterHoldEnd_completes, shutdownBistDone_completes,
    shutterPowerDown_completes⟩

end Sys2Proof.Machine
end

section
/-! PROOFS. A thermal reading (O51; R605, R607, R608, R613 to R618): its conversions, the hot figure, band and throttle level. -/

namespace Sys2Proof.Machine

/-! Sensors and the figures made of them. -/

/-- What a reading makes of the sensors. -/
def Thm.figures (x : Thm) : Thm := { x with sensor := [] }

theorem State.sensorAt_foldl_modSensor (f : Nat → Sensor → Sensor) (ns : List Nat) (hn : ns.Nodup) (s : State) (k : Nat) :
    ((ns.foldl (fun s n => s.modSensor n (f n)) s).sensorAt k) = if k ∈ ns then f k (s.sensorAt k) else s.sensorAt k := by
  induction ns generalizing s with
  | nil => rfl
  | cons n ns ih =>
    obtain ⟨hnot, hrest⟩ := List.nodup_cons.1 hn
    rw [List.foldl_cons, ih hrest, State.sensorAt_modSensor]
    by_cases hk : k = n
    · subst hk
      rw [if_neg hnot, if_pos rfl, if_pos List.mem_cons_self]
    · simp [hk]

/-- Every one of sixteen conversions is good, and no sensor is BROKEN. -/
structure State.AllConvert (s : State) (conv : List (Option Int)) : Prop where
  good : ∀ n, n < 16 → s.convFails conv n = none
  sound : ∀ n, n < 16 → (s.sensorAt n).broken = false

/-- A sensor that has taken its value, whatever its rank among the sensors. -/
structure Sensor.Fresh (x : Sensor) (v : Int) : Prop where
  last : x.last = v
  valid : x.valid = true
  stale : x.stale = false
  fails : x.fails = 0
  broken : x.broken = false

theorem Sensor.take_fresh {x : Sensor} (h : x.broken = false) (v : Int) : (x.take none v).Fresh v := by
  simp only [Sensor.take, h]
  exact ⟨rfl, rfl, rfl, rfl, rfl⟩

/-- The value that a conversion gives. -/
def convValue (conv : List (Option Int)) (n : Nat) : Int := (conv.getD n none).getD 0

/-- A state whose sensors have all taken the values of a reading, with all else of `s`. -/
structure State.Converted (s : State) (conv : List (Option Int)) (t : State) : Prop where
  keep : Keep 0x8000000000 s t
  figures : t.thm.figures = s.thm.figures
  fresh : ∀ n, n < 16 → (t.sensorAt n).Fresh (convValue conv n)

theorem State.Converted.rank {s t : State} {conv : List (Option Int)} (h : s.Converted conv t) (fresh : List Nat) :
    s.Converted conv (t.rankSensors fresh) := by
  unfold State.rankSensors
  refine List.foldlRecOn (motive := s.Converted conv) _ _ h fun u hu n _ => ⟨Keep.modSensor rfl hu.keep, hu.figures, fun k hk => ?_⟩
  rw [State.sensorAt_modSensor]
  split
  · next heq =>
    subst heq
    obtain ⟨hlast, hvalid, hstale, hfails, hbroken⟩ := hu.fresh k hk
    exact ⟨hlast, hvalid, hstale, hfails, hbroken⟩
  · exact hu.fresh k hk

/-- Every sensor takes its value. -/
def State.sensorsTaken (s : State) (conv : List (Option Int)) : State :=
  (List.range 16).foldl (fun t n => t.modSensor n fun x =>
    x.take (((List.range 16).map fun n => s.convFails conv n).getD n none) (convValue conv n)) s

theorem State.AllConvert.fails {s : State} {conv : List (Option Int)} (h : s.AllConvert conv) {n : Nat} (hn : n < 16) :
    ((List.range 16).map fun n => s.convFails conv n).getD n none = none := by
  rw [List.getD_eq_getElem?_getD, List.getElem?_map, List.getElem?_range hn]
  exact h.good n hn

theorem State.AllConvert.taken {s : State} {conv : List (Option Int)} (h : s.AllConvert conv) : s.Converted conv (s.sensorsTaken conv) := by
  refine ⟨Keep.foldl _ (fun u n hu => Keep.modSensor rfl hu) (Keep.refl _ _),
    List.foldlRecOn (motive := fun u : State => u.thm.figures = s.thm.figures) _ _ rfl fun _ hu _ _ => hu, fun n hn => ?_⟩
  rw [State.sensorsTaken, State.sensorAt_foldl_modSensor (fun n x =>
    x.take (((List.range 16).map fun n => s.convFails conv n).getD n none) (convValue conv n)) _ List.nodup_range,
    if_pos (List.mem_range.2 hn), h.fails hn]
  exact Sensor.take_fresh (h.sound n hn) _

theorem listWhere_eq_nil {n : Nat} {p : Nat → Bool} (h : ∀ k, k < n → p k = false) : listWhere n p = [] :=
  List.filter_eq_nil_iff.2 fun k hk => by simp [h k (List.mem_range.1 hk)]

/-- Good conversions leave no sensor BROKEN, restore none and hold no level. -/
theorem State.AllConvert.convert {s : State} {conv : List (Option Int)} (h : s.AllConvert conv) :
    ∃ t, s.convert conv = (t, none, false) ∧ s.Converted conv t := by
  have htaken := h.taken
  unfold State.convert
  extract_lets fails s1 fresh s2 raised newly s3 back
  have hs1 : s.Converted conv s1 := htaken
  have hraised : raised = [] := by
    dsimp only [raised]
    rw [listWhere_eq_nil fun n hn => by simp [h.sound n hn]]
    rfl
  have hnewly : newly = [] := listWhere_eq_nil fun n hn => by simp [(hs1.fresh n hn).broken]
  have hback : back = [] := listWhere_eq_nil fun n hn => by simp [h.sound n hn]
  have hs3 : s3 = (s2, false) := by
    dsimp only [s3]
    rw [hnewly]
    rfl
  refine ⟨s2, ?_, hs1.rank fresh⟩
  rw [hback, hraised, hs3]
  rfl

/-- The hot figure is the highest of the values, and the blind margin (R608). -/
theorem State.Converted.hotFigure {s t : State} {conv : List (Option Int)} {h : Int} (ht : s.Converted conv t)
    (hmax : ((List.range 16).map fun n => (conv.getD n none).getD 0).max? = some h) :
    t.hotFigure none = some (h + s.thm.blind) := by
  have hused : t.usedSensors = List.range 16 := List.filter_eq_self.2 fun n hn => by
    have hfresh := ht.fresh n (List.mem_range.1 hn)
    simp [hfresh.broken, hfresh.valid]
  have hlasts : (List.range 16).map (fun n => (t.sensorAt n).last) = (List.range 16).map fun n => (conv.getD n none).getD 0 :=
    List.map_congr_left fun n hn => (ht.fresh n (List.mem_range.1 hn)).last
  have hblind : t.thm.blind = s.thm.blind := show t.thm.figures.blind = s.thm.figures.blind from congrArg Thm.blind ht.figures
  simp only [State.hotFigure, State.highest, hused, hlasts, hmax, hblind, Option.map_some]

/-! What firmware makes of the hot figure (R613 to R620). -/

/-- The band of a hot figure goes to every receiver. -/
def State.bandSet (s : State) (hot : Int) : State :=
  (List.range s.lines).foldl (fun t l => t.modLrx l fun x => { x with band := (nextBand s.thm.first s.thm.band hot).num })
    { s with thm := { s.thm with band := nextBand s.thm.first s.thm.band hot, first := false, above := decide (1680 < hot) } }

theorem State.bandSet_thm (s : State) (hot : Int) : (s.bandSet hot).thm =
    { s.thm with band := nextBand s.thm.first s.thm.band hot, first := false, above := decide (1680 < hot) } :=
  List.foldlRecOn (motive := fun u : State => u.thm =
    { s.thm with band := nextBand s.thm.first s.thm.band hot, first := false, above := decide (1680 < hot) }) _ _ rfl fun _ hu _ _ => hu

theorem State.bandSet_band (s : State) (hot : Int) {l : Nat} (hl : l < s.lines) :
    ((s.bandSet hot).lineAt l).lrx.band = (nextBand s.thm.first s.thm.band hot).num := by
  refine foldl_reaches (Q := fun _ => True) (R := fun u : State => (u.lineAt l).lrx.band = (nextBand s.thm.first s.thm.band hot).num)
    (List.mem_range.2 hl) (fun _ _ _ => trivial) (fun u _ => ?_) (fun u k hu => ?_) trivial
  · rw [State.lineAt_modLrx_self]
  · rw [State.lineAt_modLrx]
    split
    · rfl
    · exact hu

theorem State.setBand_after (s : State) (hot : Int) : Keep 0x300 (s.bandSet hot) (s.setBand hot) :=
  Keep.ite (State.raise_keep _ _ _ rfl (Keep.ite (Keep.refl _ _) (State.raise_frame ..)))
    (Keep.ite (Keep.refl _ _) (State.raise_frame ..))

/-- The level that a reading sets. -/
def State.levelAt (s : State) (hot : Int) : Nat :=
  nextLevel s.thm.level (rawLevel (s.parN nThmCfg 0 thSlope) (s.parN nThmCfg 0 thThreshold) hot) (s.parN nThmCfg 0 thRelease)

/-- With the Hinge at rest no placement moves with the level. -/
theorem State.setLevel_spec (s : State) (hot : Int) (hrest : s.hinge.started = false) : Keep 0x8100000300 s (s.setLevel hot) ∧
    (s.setLevel hot).thm = { s.thm with
      raw := rawLevel (s.parN nThmCfg 0 thSlope) (s.parN nThmCfg 0 thThreshold) hot, level := s.levelAt hot
      reduction := vcoreReduction (rawLevel (s.parN nThmCfg 0 thSlope) (s.parN nThmCfg 0 thThreshold) hot) } := by
  unfold State.setLevel
  extract_lets raw lvl thm s1 hinge s2
  have hs1 : Keep 0x8100000300 s s1 := Keep.set_thm rfl (Keep.refl _ _)
  split
  · exact ⟨hs1, rfl⟩
  · have hs2 : Keep 0x8100000300 s s2 := State.raise_keep _ _ _ rfl (Keep.set_hinge rfl hs1)
    have hstarted : s2.hinge.started = false := (congrArg Hinge.started (State.raise_hinge ..)).trans hrest
    rw [hstarted, if_neg Bool.false_ne_true]
    exact ⟨hs2, State.raise_thm ..⟩

theorem State.setThermN_spec (s : State) (hot : Int) : Keep 0x8000000300 s (s.setThermN hot) ∧
    ∃ on, (s.setThermN hot).thm = { s.thm with thermN := on } := by
  unfold State.setThermN
  extract_lets lvl on thm s1
  have hs1 : Keep 0x8000000300 s s1 := Keep.set_thm rfl (Keep.refl _ _)
  split
  · exact ⟨hs1, on, rfl⟩
  · exact ⟨State.raise_keep _ _ _ rfl hs1, on, State.raise_thm ..⟩

/-- Band, level and THERM_N that a hot figure sets, with the sensors as they are. -/
theorem State.applyReading_spec (s : State) (hot : Int) (hrest : s.hinge.started = false) :
    Keep 0x8100180300 s (s.applyReading (some hot) false) ∧
      (∃ on, (s.applyReading (some hot) false).thm = { s.thm with
        hot := hot, band := nextBand s.thm.first s.thm.band hot, first := false, above := decide (1680 < hot)
        raw := rawLevel (s.parN nThmCfg 0 thSlope) (s.parN nThmCfg 0 thThreshold) hot, level := s.levelAt hot
        reduction := vcoreReduction (rawLevel (s.parN nThmCfg 0 thSlope) (s.parN nThmCfg 0 thThreshold) hot), thermN := on }) ∧
      ∀ l, l < s.lines → ((s.applyReading (some hot) false).lineAt l).lrx.band = (nextBand s.thm.first s.thm.band hot).num := by
  have happly : s.applyReading (some hot) false =
      ((({ s with thm := { s.thm with hot := hot } } : State).setBand hot).setLevel hot).setThermN hot := rfl
  rw [happly]
  have hhot : Keep 0x8000180300 s { s with thm := { s.thm with hot := hot } } := Keep.set_thm rfl (Keep.refl _ _)
  have hthm : ({ s with thm := { s.thm with hot := hot } } : State).thm = { s.thm with hot := hot } := rfl
  have hlines : ({ s with thm := { s.thm with hot := hot } } : State).lines = s.lines := rfl
  generalize ({ s with thm := { s.thm with hot := hot } } : State) = u at hhot hthm hlines ⊢
  have hband : Keep 0x8000180300 s (u.setBand hot) := by
    refine (u.setBand_after hot).step rfl ?_
    exact Keep.foldl _ (fun v l hv => Keep.modLrx (.inl rfl) rfl hv) (Keep.set_thm rfl hhot)
  have hbandThm : (u.setBand hot).thm = { u.thm with
      band := nextBand u.thm.first u.thm.band hot, first := false, above := decide (1680 < hot) } :=
    ((u.setBand_after hot).1 .thm rfl).symm.trans (u.bandSet_thm hot)
  have hbandLine : ∀ l, l < s.lines → ((u.setBand hot).lineAt l).lrx.band = (nextBand u.thm.first u.thm.band hot).num := fun l hl => by
    rw [(u.setBand_after hot).lrx_eq rfl l Lrx.band fun _ => rfl]
    exact u.bandSet_band hot (hlines ▸ hl)
  rw [hthm] at hbandThm hbandLine
  generalize u.setBand hot = v at *
  have hpar : ∀ e, v.parN nThmCfg 0 e = s.parN nThmCfg 0 e := fun e => congrArg BitVec.toNat (hband.param_eq rfl nThmCfg 0 e)
  have hrest' : v.hinge.started = false := (congrArg Hinge.started (hband.1 .hinge rfl).symm).trans hrest
  obtain ⟨hlevel, hlevelThm⟩ := v.setLevel_spec hot hrest'
  obtain ⟨htherm, on, hthermThm⟩ := (v.setLevel hot).setThermN_spec hot
  refine ⟨htherm.step rfl (hlevel.step rfl (hband.step rfl (Keep.refl _ _))), ⟨on, ?_⟩, fun l hl => ?_⟩
  · rw [hthermThm, hlevelThm, State.levelAt, hpar, hpar, hpar, hbandThm]
    rfl
  · rw [htherm.lrx_eq rfl l Lrx.band fun _ => rfl, hlevel.lrx_eq rfl l Lrx.band fun _ => rfl]
    exact hbandLine l hl

/-! The record of a reading (R622). -/

/-- A die's reading is no reading of the sixteen sensors. -/
theorem State.dieReading_spec (s : State) (die : Nat) (m : Option Nat) : (s.dieReading die m).thm.figures = s.thm.figures ∧
    ∀ n, n < 16 → (s.dieReading die m).sensorAt n = s.sensorAt n := by
  unfold State.dieReading
  extract_lets mem s1
  have hmod : ∀ (f : Sensor → Sensor) (n : Nat), n < 16 → (s1.modSensor (16 + die) f).sensorAt n = s.sensorAt n := fun f n hn => by
    rw [State.sensorAt_modSensor, if_neg (by omega)]
    rfl
  cases m with
  | none => exact ⟨rfl, hmod _⟩
  | some _ => exact ⟨rfl, hmod _⟩

theorem State.thermRecord_thm (s : State) : s.thermRecord.thm = { s.thm with r := s.thm.r + 1 } := by
  unfold State.thermRecord
  extract_lets r s1 s2 thm
  have hput : Keep 0x20c00000300 s s2 := State.telPut_keep _ _ _ rfl (State.telPut_keep _ _ _ rfl (Keep.refl _ _))
  have hthm : s2.thm = s.thm := (hput.1 .thm rfl).symm
  have hdue : ∀ (u : State) (a : Nat), (u.dmaDue 4 r a false false).thm = u.thm := fun u a => ((u.dmaDue_frame ..).1 .thm rfl).symm
  rw [hdue]
  dsimp only [thm]
  rw [hthm]

/-- Both dies are read, and the record is written. -/
def State.readingKept (s : State) (mr4 : List (Option Nat)) : State :=
  ((s.dieReading 0 (mr4.getD 0 none)).dieReading 1 (mr4.getD 1 none)).thermRecord

theorem State.readingKept_frame (s : State) (mr4 : List (Option Nat)) : Keep 0x28c00002302 s (s.readingKept mr4) :=
  State.thermRecord_keep _ rfl (State.dieReading_keep _ _ _ rfl (State.dieReading_keep _ _ _ rfl (Keep.refl _ _)))

theorem State.readingKept_spec (s : State) (mr4 : List (Option Nat)) :
    (s.readingKept mr4).thm.figures = { s.thm.figures with r := s.thm.r + 1 } ∧
      ∀ n, n < 16 → (s.readingKept mr4).sensorAt n = s.sensorAt n := by
  obtain ⟨hfirst, hfirstSensor⟩ := s.dieReading_spec 0 (mr4.getD 0 none)
  obtain ⟨hsecond, hsecondSensor⟩ := (s.dieReading 0 (mr4.getD 0 none)).dieReading_spec 1 (mr4.getD 1 none)
  have hthm := ((s.dieReading 0 (mr4.getD 0 none)).dieReading 1 (mr4.getD 1 none)).thermRecord_thm
  have hboth := hsecond.trans hfirst
  unfold State.readingKept
  generalize (s.dieReading 0 (mr4.getD 0 none)).dieReading 1 (mr4.getD 1 none) = u at hsecondSensor hthm hboth ⊢
  refine ⟨?_, fun n hn => ?_⟩
  · have hr : u.thm.r = s.thm.r := show u.thm.figures.r = s.thm.figures.r from congrArg Thm.r hboth
    rw [hthm, ← hboth, ← hr]
    rfl
  · have hsensor : u.thermRecord.sensorAt n = u.sensorAt n := by
      rw [State.sensorAt, hthm]
      rfl
    rw [hsensor, hsecondSensor n hn, hfirstSensor n hn]

/-- Blocks may become due; in a Shutter none does. -/
def State.tempsTaken (s : State) : State := if s.dev.mode = .shutter then s else s.calTemps

theorem State.tempsTaken_frame (s : State) : Keep 0x4000000000 s s.tempsTaken :=
  Keep.ite (Keep.refl _ _) (State.calTemps_keep _ rfl (Keep.refl _ _))

/-- A reading as far as the firmware limit. -/
structure State.Read (s : State) (conv : List (Option Int)) (hot : Int) (t : State) : Prop where
  keep : Keep 0x2cd00182302 s t
  sensors : ∀ n, n < 16 → (t.sensorAt n).Fresh (convValue conv n)
  hotFigure : t.thm.hot = hot
  band : t.thm.band = nextBand s.thm.first s.thm.band hot
  bands : ∀ l, l < s.lines → (t.lineAt l).lrx.band = (nextBand s.thm.first s.thm.band hot).num
  raw : t.thm.raw = rawLevel (s.parN nThmCfg 0 thSlope) (s.parN nThmCfg 0 thThreshold) hot
  level : t.thm.level = s.levelAt hot
  reduction : t.thm.reduction = vcoreReduction t.thm.raw
  number : t.thm.r = s.thm.r + 1

/-- A reading of good conversions, as far as the firmware limit. -/
theorem exec_thermalReading {s : State} {conv : List (Option Int)} {mr4 : List (Option Nat)} {h : Int} (hon : s.thm.reading)
    (hmode : s.dev.mode = .dormant ∨ s.dev.mode = .provisioned) (hrest : s.hinge.started = false) (hconv : s.AllConvert conv)
    (hmax : ((List.range 16).map fun n => (conv.getD n none).getD 0).max? = some h) :
    ∃ t, exec (.thermalReading conv mr4) s = .next (t.thermLimit (some (h + s.thm.blind))).follow ∧
      s.Read conv (h + s.thm.blind) t := by
  obtain ⟨u, hu, hconverted⟩ := hconv.convert
  have hhot := hconverted.hotFigure hmax
  have hgo : s.thm.reading = true ∧ ¬(s.dev.mode = .shutter ∧ s.shut.step = .complete) :=
    ⟨hon, fun h => by rcases hmode with hm | hm <;> simp [hm] at h⟩
  have hfailed : s.dev.mode ≠ .startFailed := by rcases hmode with hm | hm <;> simp [hm]
  refine ⟨((u.applyReading (some (h + s.thm.blind)) false).readingKept mr4).tempsTaken, ?_, ?_⟩
  · change execThermalReading conv mr4 s = _
    rw [execThermalReading, if_pos hgo]
    dsimp only
    rw [if_neg hfailed, hu]
    dsimp only
    rw [hhot]
    rfl
  obtain ⟨hkeep, hfigures, hfresh⟩ := hconverted
  have hrest' : u.hinge.started = false := (congrArg Hinge.started (hkeep.1 .hinge rfl).symm).trans hrest
  have hpar : ∀ e, u.parN nThmCfg 0 e = s.parN nThmCfg 0 e := fun e => congrArg BitVec.toNat (hkeep.param_eq rfl nThmCfg 0 e)
  generalize h + s.thm.blind = hot
  have hlevel : u.levelAt hot = s.levelAt hot := by
    have hold : u.thm.level = s.thm.level := show u.thm.figures.level = s.thm.figures.level from congrArg Thm.level hfigures
    rw [State.levelAt, State.levelAt, hpar, hpar, hpar, hold]
  have hband : nextBand u.thm.first u.thm.band hot = nextBand s.thm.first s.thm.band hot :=
    show nextBand u.thm.figures.first u.thm.figures.band hot = nextBand s.thm.figures.first s.thm.figures.band hot by rw [hfigures]
  have hnumber : u.thm.r = s.thm.r := show u.thm.figures.r = s.thm.figures.r from congrArg Thm.r hfigures
  obtain ⟨happly, ⟨on, hthm⟩, hbands⟩ := u.applyReading_spec hot hrest'
  rw [hlevel, hpar, hpar, hband] at hthm
  rw [hband] at hbands
  generalize u.applyReading (some hot) false = v at *
  obtain ⟨hkept, hsensors⟩ := v.readingKept_spec mr4
  have hkeepOf := v.readingKept_frame mr4
  have htemps := (v.readingKept mr4).tempsTaken_frame
  generalize v.readingKept mr4 = w at *
  have hend : w.tempsTaken.thm = w.thm := (htemps.1 .thm rfl).symm
  have hfig : ∀ {α : Type} (f : Thm → α), (∀ x : Thm, f x.figures = f x) →
      f w.tempsTaken.thm = f { v.thm.figures with r := v.thm.r + 1 } := fun f hf => by
    rw [hend, ← hf w.thm, hkept]
  refine ⟨?_, fun n hn => ?_, ?_, ?_, fun l hl => ?_, ?_, ?_, ?_, ?_⟩
  · exact htemps.step rfl (hkeepOf.step rfl (happly.step rfl (hkeep.step rfl (Keep.refl _ _))))
  · have hsensor : w.tempsTaken.sensorAt n = u.sensorAt n := by
      rw [State.sensorAt, hend]
      refine (hsensors n hn).trans ?_
      rw [State.sensorAt, hthm]
      rfl
    rw [hsensor]
    exact hfresh n hn
  · rw [hfig Thm.hot fun _ => rfl, hthm]
    rfl
  · rw [hfig Thm.band fun _ => rfl, hthm]
    rfl
  · rw [htemps.lrx_eq rfl l Lrx.band fun _ => rfl, hkeepOf.lrx_eq rfl l Lrx.band fun _ => rfl]
    exact hbands l (by rwa [State.lines, ← hkeep.1 .fuses rfl])
  · rw [hfig Thm.raw fun _ => rfl, hthm]
    rfl
  · rw [hfig Thm.level fun _ => rfl, hthm]
    rfl
  · rw [hfig Thm.reduction fun _ => rfl, hfig Thm.raw fun _ => rfl, hthm]
    rfl
  · rw [hfig Thm.r fun _ => rfl, hthm]
    exact congrArg (· + 1) hnumber

/-! The firmware limit (R612, R618). -/

theorem thermalReading_below (conv : List (Option Int)) (mr4 : List (Option Nat)) (h : Int) : Completes (.thermalReading conv mr4)
    (fun s => s.thm.reading ∧ (s.dev.mode = .dormant ∨ s.dev.mode = .provisioned) ∧ s.hears ∧ s.hinge.started = false ∧
      (∀ n, n < 16 → s.convFails conv n = none ∧ (s.sensorAt n).broken = false) ∧
      ((List.range 16).map fun n => (conv.getD n none).getD 0).max? = some h ∧ h + s.thm.blind < 1760)
    (fun s t => (∀ n, n < 16 → (t.sensorAt n).last = (conv.getD n none).getD 0 ∧ (t.sensorAt n).valid = true ∧
        (t.sensorAt n).stale = false ∧ (t.sensorAt n).fails = 0) ∧
      t.thm.hot = h + s.thm.blind ∧ t.thm.band = nextBand s.thm.first s.thm.band (h + s.thm.blind) ∧
      (∀ l, l < s.lines → (t.lineAt l).lrx.band = (nextBand s.thm.first s.thm.band (h + s.thm.blind)).num) ∧
      t.thm.raw = rawLevel (s.parN nThmCfg 0 thSlope) (s.parN nThmCfg 0 thThreshold) (h + s.thm.blind) ∧
      t.thm.level = nextLevel s.thm.level t.thm.raw (s.parN nThmCfg 0 thRelease) ∧
      t.thm.reduction = vcoreReduction t.thm.raw ∧ t.thm.r = s.thm.r + 1 ∧ t.dev.mode ≠ .shutter ∧ t.shut = s.shut) := by
  rintro s ⟨hon, hmode, -, hrest, hconv, hmax, hbelow⟩
  obtain ⟨u, hexec, hread⟩ := exec_thermalReading (mr4 := mr4) hon hmode hrest ⟨fun n hn => (hconv n hn).1, fun n hn => (hconv n hn).2⟩ hmax
  obtain ⟨hkeep, hsensors, hhot, hband, hbands, hraw, hlevel, hreduction, hnumber⟩ := hread
  have hlimit : u.thermLimit (some (h + s.thm.blind)) = u := by
    have hnot : ¬1760 ≤ h + s.thm.blind := by omega
    have hsound : ((List.range 16).all fun n => (u.sensorAt n).broken) = false :=
      List.all_eq_false.2 ⟨0, by decide, by simp [(hsensors 0 (by decide)).broken]⟩
    simp [State.thermLimit, hnot, hsound]
  rw [hlimit] at hexec
  refine ⟨_, hexec, ?_⟩
  dsimp only
  rw [State.follow_thm, State.follow_shut, Ne, State.follow_shutter]
  refine ⟨fun n hn => ?_, hhot, hband, fun l hl => ?_, hraw, ?_, hreduction, hnumber, ?_, (hkeep.1 .shut rfl).symm⟩
  · have hsensor : u.follow.sensorAt n = u.sensorAt n := by rw [State.sensorAt, State.follow_thm, State.sensorAt]
    obtain ⟨hlast, hvalid, hstale, hfails, -⟩ := hsensors n hn
    rw [hsensor]
    exact ⟨hlast, hvalid, hstale, hfails⟩
  · rw [u.follow_frame.lrx_eq rfl l Lrx.band fun _ => rfl]
    exact hbands l hl
  · rw [hlevel, hraw, State.levelAt]
  · rw [hkeep.mode_eq rfl]
    rcases hmode with hm | hm <;> simp [hm]

theorem thermalReading_limit (conv : List (Option Int)) (mr4 : List (Option Nat)) (h : Int) : Completes (.thermalReading conv mr4)
    (fun s => s.thm.reading ∧ (s.dev.mode = .dormant ∨ s.dev.mode = .provisioned) ∧ s.hears ∧ s.hinge.started = false ∧
      (∀ n, n < 16 → s.convFails conv n = none ∧ (s.sensorAt n).broken = false) ∧
      ((List.range 16).map fun n => (conv.getD n none).getD 0).max? = some h ∧ 1760 ≤ h + s.thm.blind)
    (fun s t => t.thm.hot = h + s.thm.blind ∧ t.dev.mode = .shutter ∧ t.shut.column = .thermal ∧ t.shut.rec_.trigger = .thermal ∧
      t.shut.rec_.broken = false) := by
  rintro s ⟨hon, hmode, -, hrest, hconv, hmax, habove⟩
  obtain ⟨u, hexec, hread⟩ := exec_thermalReading (mr4 := mr4) hon hmode hrest ⟨fun n hn => (hconv n hn).1, fun n hn => (hconv n hn).2⟩ hmax
  have hstart : u.thermLimit (some (h + s.thm.blind)) = u.shutStart .thermal false 0 false none := by
    have hnot : u.dev.mode ≠ .shutter := by
      rw [hread.keep.mode_eq rfl]
      rcases hmode with hm | hm <;> simp [hm]
    simp [State.thermLimit, habove, State.shutTrigger, hnot]
  rw [hstart] at hexec
  refine ⟨_, hexec, ?_⟩
  have hkeep : Keep 0x3763bfff5bea u (u.shutStart .thermal false 0 false none) := State.shutStart_keep _ _ _ _ _ _ rfl (Keep.refl _ _)
  obtain ⟨hshutter, hcolumn, -, htrigger, hbroken, -⟩ := u.shutStart_spec .thermal false 0 false none
  have hthm : (u.shutStart .thermal false 0 false none).thm = u.thm := (hkeep.1 .thm rfl).symm
  generalize u.shutStart .thermal false 0 false none = v at *
  dsimp only
  rw [State.follow_thm, State.follow_shut, State.follow_shutter, hthm]
  exact ⟨hread.hotFigure, hshutter, hcolumn, htrigger, hbroken⟩

/-- A failed conversion leaves the value, and the third in a row flags the sensor BROKEN (R607). -/
theorem Sensor.take_spec {x : Sensor} (h : x.broken = false) (k : Nat) (v : Int) : (x.take none v).last = v ∧ (x.take none v).fails = 0 ∧
    (x.take (some k) v).last = x.last ∧ (x.take (some k) v).stale = true ∧ (x.take (some k) v).count = x.count + 1 ∧
    (x.take (some k) v).broken = decide (3 ≤ x.fails + 1) := by
  have hfresh := Sensor.take_fresh h v
  refine ⟨hfresh.last, hfresh.fails, ?_⟩
  by_cases hthird : 3 ≤ x.fails + 1
  · simp [Sensor.take, h, hthird]
  · simp [Sensor.take, h, hthird]

/-- Settles O51: a reading of good conversions as far as the firmware limit, and what the limit makes of its hot figure. -/
theorem thermalReadingsComplete : Obligations.ThermalReadingsComplete := by
  unfold Obligations.ThermalReadingsComplete
  refine ⟨thermalReading_below, thermalReading_limit, fun conv mr4 s hoff => ?_, fun x h k v => Sensor.take_spec h k v⟩
  have hexec : exec (.thermalReading conv mr4) s = .next s := by
    change execThermalReading conv mr4 s = _
    rw [execThermalReading, if_neg fun h => by simp [hoff] at h]
  exact ⟨_, hexec, rfl⟩

end Sys2Proof.Machine
end

section
/-! PROOFS. What plans, swaps and yields leave of the Hinge's start and of the self-test's verdicts (R140, R154, R159, R168, R629). -/

namespace Sys2Proof.Machine

/-- Whether the Hinge has started, and the verdicts of self-test with their counts. -/
structure Tested where
  started : Bool
  verdicts : List (Report × TestVerdict × BitVec 64)
  intermittent : Nat
  untested : Tbl Nat

def State.tested (s : State) : Tested :=
  { started := s.hinge.started, verdicts := s.tst.verdicts, intermittent := s.tst.intermittent, untested := s.tst.untested }

theorem Keep.tested_eq {m : Nat} {s t : State} (h : Keep m s t) (hm : m.land 0x10100000000 = 0) : t.tested = s.tested := by
  have hhinge : s.hinge = t.hinge := h.1 .hinge (testBit_of_land_zero hm rfl)
  have htst : s.tst = t.tst := h.1 .tst (testBit_of_land_zero hm rfl)
  simp only [State.tested, hhinge, htst]

theorem State.foldl_tested {α : Type} {op : State → α → State} (hop : ∀ u x, (op u x).tested = u.tested) (xs : List α) (s : State) :
    (xs.foldl op s).tested = s.tested :=
  List.foldlRecOn (motive := fun u : State => u.tested = s.tested) xs op rfl fun u hu x _ => (hop u x).trans hu

section
variable (s : State)

/-! Yields and reports. -/

theorem State.raise_tested (code : Nat) (data : List Word) : (s.raise code data).tested = s.tested := (s.raise_frame code data).tested_eq rfl

theorem State.relYield_tested (rank obj kept keptObj : Nat) (req : Option Requester) :
    (s.relYield rank obj kept keptObj req).tested = s.tested := by
  unfold State.relYield
  dsimp only
  rw [State.raise_tested]
  rfl

theorem State.relYieldEnd_tested (rank obj : Nat) : (s.relYieldEnd rank obj).tested = s.tested :=
  State.foldl_tested (fun _ _ => by
    rw [State.raise_tested]
    rfl) _ s

theorem State.startTests_tested : s.startTests.tested = s.tested :=
  State.foldl_tested (fun u k => by
    split
    · rfl
    · split <;> rfl) _ s

theorem State.bump_tested (g j i : Nat) : (s.bump g j i).tested = s.tested := rfl

/-! Engines. -/

theorem State.abortSlice_tested (e kept : Nat) (req : Option Requester) : (s.abortSlice (.engine e) kept req).tested = s.tested := by
  unfold State.abortSlice
  split
  · extract_lets tst s1 s2 s3
    have hs2 : s2.tested = s1.tested := State.raise_tested ..
    have hs3 : s3.tested = s2.tested := (State.relYield_tested ..).trans
      ((State.freeNext_keep s2 (k0 := 0x2) rfl (Keep.refl _ _)).tested_eq rfl)
    exact hs3.trans hs2
  · rfl

theorem State.assign_tested (e : Nat) (role : Role) (l : Nat) : (s.assign e role l).tested = s.tested := s.abortSlice_tested e 4 none

theorem State.freeEngines_tested (es : List Nat) : (s.freeEngines es).tested = s.tested :=
  (State.freeEngines_keep s es rfl (Keep.refl 0x80000000 s)).tested_eq rfl

theorem State.toTransom_tested (es : List Nat) : (s.toTransom es).tested = s.tested :=
  (State.toTransom_keep s es rfl (Keep.refl 0x80000000 s)).tested_eq rfl

theorem State.topUp_tested (q : Option Nat) : (s.topUp q).tested = s.tested :=
  (State.topUp_keep s q rfl (Keep.refl 0x80000000 s)).tested_eq rfl

theorem State.fillAdapt_tested (l : Nat) : (s.fillAdapt l).tested = s.tested := by
  have hhold : ∀ u : State, (u.holdAdapt l).tested = u.tested := fun u => rfl
  unfold State.fillAdapt
  split
  · rw [hhold]
    refine State.foldl_tested (fun u _ => ?_) _ s
    split
    · split
      · rfl
      · exact u.assign_tested ..
    · rfl
  · rfl

theorem State.reserve_tested : s.reserve.tested = s.tested := by
  rw [State.reserve, State.topUp_tested]
  exact State.foldl_tested State.fillAdapt_tested _ s

/-! Swaps. -/

theorem State.endSwap_tested (l : Nat) (w : Swap) (keep : Bool) : (s.endSwap l w keep).tested = s.tested := by
  unfold State.endSwap
  extract_lets s1 s2 s3
  have hs2 : s2.tested = s.tested := (s1.toTransom_tested _).trans (s.freeEngines_tested _)
  have hs3 : s3.tested = s.tested := by
    dsimp only [s3]
    split
    · exact hs2
    · exact (s2.freeEngines_tested _).trans hs2
  exact (State.reserve_tested _).trans hs3

theorem State.finishOpt_tested (t : Option Ticket) (code detail : Nat) (o : Obj) : (s.finishOpt t code detail o).tested = s.tested :=
  (s.finishOpt_frame t code detail o).tested_eq rfl

theorem State.abandonSwap_tested (l reason detail : Nat) : (s.abandonSwap l reason detail).tested = s.tested := by
  have htell : ∀ u v : State, (u.tellPlaced v).tested = u.tested := fun u v =>
    (State.tellPlaced_keep u v rfl (Keep.refl 0x300 u)).tested_eq rfl
  unfold State.abandonSwap
  split
  · rfl
  · split
    · exact s.endSwap_tested ..
    · dsimp only
      rw [htell, State.finishOpt_tested, State.raise_tested, State.bump_tested]
      exact s.endSwap_tested ..

theorem State.startSwap_tested {s u : State} {l tier version count : Nat} {ticket : Option Ticket} {par : List (Nat × Word)}
    (h : s.startSwap l tier version ticket count par = some u) : u.tested = s.tested := by
  unfold State.startSwap at h
  split at h
  · cases h
  · obtain rfl := Option.some.inj h
    rw [(State.pmcEvent_frame ..).tested_eq rfl]
    exact State.foldl_tested (fun v e => v.assign_tested e .shadow l) _ s

theorem State.getD_startSwap_tested {s t v : State} {l tier version count : Nat} {ticket : Option Ticket} {par : List (Nat × Word)}
    (ht : t.tested = s.tested) (hv : v.tested = s.tested) : ((t.startSwap l tier version ticket count par).getD v).tested = s.tested := by
  cases hstart : t.startSwap l tier version ticket count par with
  | none => exact hv
  | some u => exact (State.startSwap_tested hstart).trans ht

theorem State.startRaise_tested (l : Nat) : (s.startRaise l).tested = s.tested := by
  unfold State.startRaise
  extract_lets x
  split
  · rfl
  · split
    · exact State.getD_startSwap_tested rfl (State.finishOpt_tested ..)
    · split
      · exact State.getD_startSwap_tested rfl rfl
      · rfl

theorem State.startRaises_tested : s.startRaises.tested = s.tested := by
  unfold State.startRaises
  split
  · exact State.foldl_tested State.startRaise_tested _ s
  · rfl

/-! Plans. -/

theorem State.takePlan_tested (now : Bool) (r : Nat) (p : LanePlan) : (s.takePlan now r p).tested = s.tested := by
  unfold State.takePlan
  extract_lets l x s1
  change s1.tested = s.tested
  dsimp only [s1]
  split
  · rfl
  · split
    · exact s.abandonSwap_tested ..
    · rfl

theorem State.countYield_tested (rank kept : Nat) : (s.countYield rank kept).tested = s.tested := rfl

theorem State.countYieldEnd_tested (rank kept : Nat) : (s.countYieldEnd rank kept).tested = s.tested := rfl

theorem State.modSea_tested (l : Nat) (f : Sea → Sea) : (s.modSea l f).tested = s.tested := rfl

theorem State.seaYield_tested (l t : Nat) (c : YieldCause) : (s.seaYield l t c).tested = s.tested := by
  unfold State.seaYield
  dsimp only
  rw [State.raise_tested, State.countYield_tested, State.bump_tested, State.modSea_tested]

theorem State.seaYieldEnd_tested (l : Nat) : (s.seaYieldEnd l).tested = s.tested := by
  unfold State.seaYieldEnd
  dsimp only
  split
  · rw [State.raise_tested, State.countYieldEnd_tested, State.bump_tested, State.modSea_tested]
  · rfl

theorem State.judgeLane_tested (old : List (Nat × Nat × Nat)) (why : YieldCause) (l : Nat) :
    (s.judgeLane old why l).tested = s.tested := by
  unfold State.judgeLane
  extract_lets x run same
  split
  · split
    · rfl
    · exact s.seaYield_tested ..
  · split
    · exact s.seaYieldEnd_tested l
    · split
      · exact s.seaYield_tested ..
      · rfl

theorem State.replan_tested (now : Nat → Bool) (drop : Option Nat) : (s.replan now drop).tested = s.tested := by
  unfold State.replan
  extract_lets r p free before why old s1 hinge s2
  split
  · have hs1 : s1.tested = s.tested := State.foldl_tested (fun u q => u.takePlan_tested ..) _ s
    have hs2 : s2.tested = s1.tested := (State.pmcEvent_frame ..).tested_eq rfl
    exact (State.startRaises_tested _).trans ((State.foldl_tested (fun u l => u.judgeLane_tested old (why l) l) _ s2).trans (hs2.trans hs1))
  · rfl

theorem State.replanHeld_tested : s.replanHeld.tested = s.tested := s.replan_tested _ _

end

end Sys2Proof.Machine
end

section
/-! PROOFS. Start-up (O54; R424 to R428, R496, R648, R650, R693): its steps, their failures, and the datapath's power. -/

namespace Sys2Proof.Machine

/-! The modes that no change of lanes or guard causes leaves (R417). -/

/-- A mode that traffic and guard causes do not move. -/
def Mode.rests : Mode → Bool
  | .provisioned | .service | .guarded => false
  | _ => true

theorem State.settle_rests {s : State} (h : s.dev.mode.rests = true) : s.settle.dev.mode = s.dev.mode := by
  have hports : s.settlePorts = s := by
    unfold State.settlePorts
    rw [if_neg, if_neg]
    · rintro ⟨hm | hm, -⟩ <;> simp [hm, Mode.rests] at h
    · rintro ⟨hm, -⟩
      simp [hm, Mode.rests] at h
  have hguard : s.settleGuard.dev.mode = s.dev.mode := by
    unfold State.settleGuard
    split
    · rfl
    · extract_lets g times s1
      rw [if_neg, if_neg]
      · rintro ⟨hm, -⟩
        simp [hm, Mode.rests] at h
      · rintro ⟨hm, -⟩
        simp [hm, Mode.rests] at h
  have hafter : Keep 0x20000005b00 s.settlePorts.settleGuard s.settle :=
    State.settleIcu_keep _ rfl (State.settleErr_keep _ rfl (Keep.refl _ _))
  rw [hafter.mode_eq rfl, hports, hguard]

theorem State.syncWith_rests {s : State} (h : s.dev.mode.rests = true) (cause : TxCause) : (s.syncWith cause).dev.mode = s.dev.mode := by
  unfold State.syncWith
  extract_lets s1 s2
  have hbefore : Keep 0x201b900300 s ([0, 1].foldl (fun s g => s.syncGroup g) s2.opticsCheck) :=
    Keep.foldl _ (fun u g hu => State.syncGroup_keep u g rfl hu)
      (State.opticsCheck_keep _ rfl (Keep.foldl _ (fun u h hu => State.syncHost_keep u h rfl hu)
        (Keep.foldl _ (fun u l hu => State.syncTx_keep _ l _ rfl (State.syncRx_keep u l rfl hu)) (Keep.refl _ _))))
  generalize [0, 1].foldl (fun s g => s.syncGroup g) s2.opticsCheck = u at hbefore ⊢
  have hmode : u.dev.mode = s.dev.mode := hbefore.mode_eq rfl
  rw [State.settle_rests (by rwa [hmode]), hmode]

theorem State.sync_rests {s : State} (h : s.dev.mode.rests = true) : s.sync.dev.mode = s.dev.mode := by
  rw [State.sync]
  exact State.syncWith_rests h .laneState

theorem State.follow_rests {s : State} (h : s.dev.mode.rests = true) : s.follow.dev.mode = s.dev.mode := by
  have hcheck : Keep 0x6000100300 s.sync s.follow := s.sync.calCheck_frame
  rw [hcheck.mode_eq rfl, State.sync_rests h]

/-- What no mode has a part in is as it was. -/
theorem Keep.dev_eq {α : Type} {m : Nat} {s t : State} (h : Keep m s t) (hm : m.testBit 5 = false) (f : Dev → α)
    (hf : ∀ x : Dev, f x.rest = f x) : f t.dev = f s.dev := by
  rw [← hf, ← h.1 .devRest hm, hf]

/-- A start-up that fails stays in its step with its error code (R427). -/
theorem State.startFail_settle_spec (s : State) (err : Nat) : (s.startFail err).settle.dev.mode = .startFailed ∧
    (s.startFail err).settle.dev.step = s.dev.step ∧ (s.startFail err).settle.dev.error = err ∧
    (s.startFail err).settle.dev.pfEnabled = s.dev.pfEnabled ∧ (s.startFail err).settle.dev.isOpen = s.dev.isOpen ∧
    (s.startFail err).settle.mb.waiting = s.mb.waiting := by
  have hmode : (s.startFail err).dev.mode = .startFailed := State.setMode_mode ..
  have hraise : Keep 0x308 { s with dev := { s.dev with error := err } } (s.startFail err) := State.setMode_keep _ _ _ rfl (Keep.refl _ _)
  have hwait : (s.startFail err).mb.waiting = s.mb.waiting := congrArg Mb.waiting (hraise.1 .mb rfl).symm
  have hstep := hraise.dev_eq rfl Dev.step fun _ => rfl
  have herror := hraise.dev_eq rfl Dev.error fun _ => rfl
  have hpf := hraise.dev_eq rfl Dev.pfEnabled fun _ => rfl
  have hopen := hraise.dev_eq rfl Dev.isOpen fun _ => rfl
  generalize s.startFail err = u at *
  have hsettle : Keep 0x20000005b08 u u.settle := u.settle_frame
  refine ⟨(State.settle_rests (by rw [hmode]; rfl)).trans hmode, ?_, ?_, ?_, ?_, (congrArg Mb.waiting (hsettle.1 .mb rfl).symm).trans hwait⟩
  · rw [hsettle.dev_eq rfl Dev.step fun _ => rfl, hstep]
  · rw [hsettle.dev_eq rfl Dev.error fun _ => rfl, herror]
  · rw [hsettle.dev_eq rfl Dev.pfEnabled fun _ => rfl, hpf]
  · rw [hsettle.dev_eq rfl Dev.isOpen fun _ => rfl, hopen]

/-! Steps 1 to 4. -/

/-- VIN is valid, and the address pins are sampled (R493, R687). -/
def State.vinTaken (s : State) (v : Nat) (a : BitVec 3) : State :=
  { s with
    pwr := { s.pwr with vin := v, overVolt := s.pwr.overVolt && decide (600 ≤ v) }
    hif := { s.hif with straps := a } }

theorem vinValid_completes (v : Nat) (a : BitVec 3) : Completes (.vinValid v a)
    (fun s => s.dev.mode = .starting ∧ s.dev.step = 0 ∧ 88 ≤ v ∧ s.pwr.en ∧ s.pwr.sysRst = false ∧ s.pwr.latch = false ∧
      s.thm.backstop = false ∧ s.pwr.overVolt = false)
    (fun _ t => t.dev.mode = .starting ∧ t.dev.step = 1 ∧ t.pwr.up = true ∧ t.pwr.vin = v ∧ t.hif.straps = a) := by
  rintro s ⟨hmode, hstep, hv, hen, hrst, hlatch, hback, hover⟩
  have hwaits : s.waitsForVin = true := by simp [State.waitsForVin, hmode, hstep]
  have hexec : exec (.vinValid v a) s = .next (s.vinTaken v a).startUp := by
    change execVinValid v a s = _
    rw [execVinValid, if_pos ⟨hwaits, hv⟩]
    rfl
  have hover' : (s.vinTaken v a).pwr.overVolt = false := by simp [State.vinTaken, hover]
  have hstart : (s.vinTaken v a).canStart := (State.canStart_iff _).2 ⟨hen, hrst, hlatch, hback, hover', hv⟩
  refine ⟨_, hexec, ?_⟩
  rw [State.startUp_of_canStart hstart, State.powerLoss_eq]
  exact ⟨rfl, rfl, rfl, rfl, rfl⟩

theorem railInRegulation_completes : Completes .railInRegulation
    (fun s => s.dev.mode = .starting ∧ s.dev.step = 1 ∧ s.pwr.rails < 7)
    (fun s t => t = { s with pwr := { s.pwr with rails := s.pwr.rails + 1 } }) := by
  intro s h
  refine ⟨_, ?_, rfl⟩
  change execRailInRegulation s = _
  rw [execRailInRegulation, if_pos h]
  rfl

theorem pgoodReleaseTimer_completes : Completes .pgoodReleaseTimer
    (fun s => s.dev.mode = .starting ∧ s.dev.step = 1 ∧ s.pwr.rails = 7)
    (fun s t => t = { s with pwr := { s.pwr with pgood := true }, dev := { s.dev with step := 2 } }) := by
  intro s h
  refine ⟨_, ?_, rfl⟩
  change execPgoodReleaseTimer s = _
  rw [execPgoodReleaseTimer, if_pos h]
  rfl

theorem fuseMapLoaded_completes : Completes (.fuseMapLoaded true) (fun s => s.dev.mode = .starting ∧ s.dev.step = 2)
    (fun s t => t = { s with dev := { s.dev with step := 3 } }) := by
  intro s h
  refine ⟨_, ?_, rfl⟩
  change execFuseMapLoaded true s = _
  rw [execFuseMapLoaded, if_pos h]
  rfl

theorem fuseMapLoaded_fails : Completes (.fuseMapLoaded false) (fun s => s.dev.mode = .starting ∧ s.dev.step = 2)
    (fun _ t => t.dev.mode = .startFailed ∧ t.dev.step = 2 ∧ t.dev.error = 1) := by
  intro s h
  have hexec : exec (.fuseMapLoaded false) s = .next (s.startFail 1).settle := by
    change execFuseMapLoaded false s = _
    rw [execFuseMapLoaded, if_pos h, if_neg Bool.false_ne_true]
  obtain ⟨hmode, hstep, herror, -⟩ := s.startFail_settle_spec 1
  exact ⟨_, hexec, hmode, hstep.trans h.2, herror⟩

theorem memoryFillDone_completes : Completes (.memoryFillDone true) (fun s => s.dev.mode = .starting ∧ s.dev.step = 3)
    (fun s t => t.mem.data = [] ∧ t.mem.cond = [] ∧ t.dev = { s.dev with mgtUp := true, step := 5 }) := by
  intro s h
  have hexec : exec (.memoryFillDone true) s = .next
      (({ s with mem := { s.mem with data := [], cond := [] }, dev := { s.dev with mgtUp := true } } : State).upStep 5) := by
    change execMemoryFillDone true s = _
    rw [execMemoryFillDone, if_pos h, if_pos rfl]
  exact ⟨_, hexec, rfl, rfl, rfl⟩

theorem memoryFillDone_fails : Completes (.memoryFillDone false) (fun s => s.dev.mode = .starting ∧ s.dev.step = 3)
    (fun _ t => t.dev.mode = .startFailed ∧ t.dev.step = 3 ∧ t.dev.error = 2) := by
  intro s h
  have hexec : exec (.memoryFillDone false) s = .next (s.startFail 2).settle := by
    change execMemoryFillDone false s = _
    rw [execMemoryFillDone, if_pos h, if_neg Bool.false_ne_true]
  obtain ⟨hmode, hstep, herror, -⟩ := s.startFail_settle_spec 2
  exact ⟨_, hexec, hmode, hstep.trans h.2, herror⟩

/-! Step 5 (R424, R427). -/

/-- Firmware runs from its pane and takes readings. -/
theorem State.firmwareUp_spec {s : State} {b : Bool} (hticket : s.fw.ticket = none) : (s.firmwareUp b).dev = { s.dev with step := 6 } ∧
    (s.firmwareUp b).fw = { s.fw with running := b, shown := b, verShown := (s.fw.pane b).version, tried := false } ∧
    (s.firmwareUp b).thm = { s.thm with reading := true } := by
  have hend : ∀ u : State, u.fw.ticket = none → u.endRecovery b = u := fun u hu => by rw [State.endRecovery, hu]
  unfold State.firmwareUp
  extract_lets s1 thm
  rw [hend]
  · exact ⟨rfl, rfl, rfl⟩
  · exact hticket

theorem firmwareLoadDone_completes : Completes (.firmwareLoadDone true)
    (fun s => s.dev.mode = .starting ∧ s.dev.step = 5 ∧ s.fw.ticket = none)
    (fun s t => t.dev.mode = .starting ∧ t.dev.step = 6 ∧ t.fw.running = (s.fw.active != s.fw.tried) ∧
      t.fw.shown = (s.fw.active != s.fw.tried) ∧ t.thm.reading = true) := by
  rintro s ⟨hmode, hstep, hticket⟩
  have hpane : s.firstPane = s.fw.active := by simp [State.firstPane, hticket]
  have hexec : exec (.firmwareLoadDone true) s = .next (s.firmwareUp (s.fw.active != s.fw.tried)).settle := by
    change execFirmwareLoadDone true s = _
    rw [execFirmwareLoadDone, if_pos ⟨hmode, hstep⟩, hpane]
    rfl
  obtain ⟨hup, hfw, hthm⟩ := State.firmwareUp_spec (b := s.fw.active != s.fw.tried) hticket
  have hsettle : Keep 0x20000005b08 (s.firmwareUp (s.fw.active != s.fw.tried)) (s.firmwareUp (s.fw.active != s.fw.tried)).settle :=
    State.settle_frame _
  refine ⟨_, hexec, ?_⟩
  generalize s.firmwareUp (s.fw.active != s.fw.tried) = u at *
  have hmode' : u.dev.mode = .starting := (congrArg Dev.mode hup).trans hmode
  rw [State.settle_rests (by rw [hmode']; rfl), hsettle.dev_eq rfl Dev.step fun _ => rfl, ← hsettle.1 .fw rfl, ← hsettle.1 .thm rfl, hup, hfw,
    hthm]
  exact ⟨hmode, rfl, rfl, rfl, rfl⟩

theorem firmwareLoadDone_triesNext : Completes (.firmwareLoadDone false)
    (fun s => s.dev.mode = .starting ∧ s.dev.step = 5 ∧ s.fw.ticket = none ∧ s.fw.tried = false)
    (fun s t => t.dev = s.dev ∧ t.fw.tried = true ∧ (t.fw.pane s.fw.active).valid = false) := by
  rintro s ⟨hmode, hstep, hticket, htried⟩
  have hpane : (s.firstPane != s.fw.tried) = s.fw.active := by simp [State.firstPane, hticket, htried]
  have hexec : exec (.firmwareLoadDone false) s = .next ((s.modFw fun x =>
      x.setPane s.fw.active { x.pane s.fw.active with valid := false }).modFw fun x => { x with tried := true }) := by
    change execFirmwareLoadDone false s = _
    rw [execFirmwareLoadDone, if_pos ⟨hmode, hstep⟩, hpane]
    dsimp only
    rw [if_neg Bool.false_ne_true, if_neg (by simp [htried])]
  refine ⟨_, hexec, rfl, rfl, ?_⟩
  simp only [State.modFw]
  cases s.fw.active <;> rfl

/-- Both panes have failed. -/
def State.panesDown (s : State) : State :=
  { s with
    fw := { s.fw with tried := false, ticket := none }
    dev := { s.dev with pfEnabled := true, isOpen := true }
    thm := { s.thm with reading := true } }

theorem State.firmwareDown_spec {s : State} (hticket : s.fw.ticket = none) (hwaiting : s.mb.waiting = []) :
    s.firmwareDown.dev.mode = .startFailed ∧ s.firmwareDown.dev.step = s.dev.step ∧ s.firmwareDown.dev.error = 3 ∧
      s.firmwareDown.dev.pfEnabled = true ∧ s.firmwareDown.dev.isOpen = true := by
  have hdown : s.firmwareDown = (s.panesDown.startFail 3).settle.bootRomBegins := by
    unfold State.firmwareDown
    rw [hticket]
    rfl
  have hstep : s.panesDown.dev.step = s.dev.step := rfl
  have hpf : s.panesDown.dev.pfEnabled = true := rfl
  have hopen : s.panesDown.dev.isOpen = true := rfl
  have hempty : s.panesDown.mb.waiting = [] := hwaiting
  rw [hdown]
  generalize s.panesDown = u at *
  obtain ⟨hmode, hat, herror, hpfs, hopens, hnone⟩ := u.startFail_settle_spec 3
  generalize (u.startFail 3).settle = v at *
  have hbegin : v.bootRomBegins.dev = v.dev := by
    rw [State.bootRomBegins, hnone, hempty]
    rfl
  rw [hbegin, hmode, hat, herror, hpfs, hopens]
  exact ⟨rfl, hstep, rfl, hpf, hopen⟩

theorem firmwareLoadDone_fails : Completes (.firmwareLoadDone false)
    (fun s => s.dev.mode = .starting ∧ s.dev.step = 5 ∧ s.fw.ticket = none ∧ s.fw.tried ∧ s.mb.waiting = [])
    (fun _ t => t.dev.mode = .startFailed ∧ t.dev.step = 5 ∧ t.dev.error = 3 ∧ t.dev.pfEnabled = true ∧ t.dev.isOpen = true) := by
  rintro s ⟨hmode, hstep, hticket, htried, hwaiting⟩
  have hexec : exec (.firmwareLoadDone false) s = .next (s.modFw fun x => x.setPane (s.firstPane != s.fw.tried)
      { x.pane (s.firstPane != s.fw.tried) with valid := false }).firmwareDown := by
    change execFirmwareLoadDone false s = _
    rw [execFirmwareLoadDone, if_pos ⟨hmode, hstep⟩]
    dsimp only
    rw [if_neg Bool.false_ne_true, if_pos htried]
  have hset : ∀ b, (s.modFw fun x => x.setPane b { x.pane b with valid := false }).fw.ticket = none := fun b => by
    cases b <;> exact hticket
  obtain ⟨hfailed, hat, herror, hpf, hopen⟩ := State.firmwareDown_spec (hset (s.firstPane != s.fw.tried)) hwaiting
  exact ⟨_, hexec, hfailed, hat.trans hstep, herror, hpf, hopen⟩

/-! Steps 6 to 8. -/

/-- A record that has been applied or ignored; the life has its number, and both functions are enabled. -/
def State.lifeBegun (s : State) : State :=
  { s with rep := { s.rep with startNo := s.rep.startNo + 1 }, dev := { s.dev with pfEnabled := true, step := 8 } }

theorem exec_repairRecordApplied {s : State} (valid : Bool) (h : s.dev.mode = .starting ∧ s.dev.step = 6) :
    exec (.repairRecordApplied valid) s = .next (if valid then s.applyRecord else s.ignoreRecord).lifeBegun.sync := by
  change execRepairRecordApplied valid s = _
  rw [execRepairRecordApplied, if_pos h]
  rfl

theorem repairRecordApplied_completes : Completes (.repairRecordApplied true) (fun s => s.dev.mode = .starting ∧ s.dev.step = 6)
    (fun s t => t.dev.step = 8 ∧ t.dev.pfEnabled = true ∧ t.rep = { s.rep with startNo := s.rep.startNo + 1 } ∧
      t.dev.mode = .starting) := by
  intro s h
  refine ⟨_, exec_repairRecordApplied true h, ?_⟩
  have happly : Keep 0x12a80948300 s s.applyRecord := s.applyRecord_keep rfl (Keep.refl _ _)
  have hrep : s.applyRecord.rep = s.rep := (happly.1 .rep rfl).symm
  have hmode : s.applyRecord.lifeBegun.dev.mode = .starting := (happly.mode_eq rfl).trans h.1
  have hlife : s.applyRecord.lifeBegun.rep = { s.rep with startNo := s.rep.startNo + 1 } := by rw [← hrep]; rfl
  have hstep : s.applyRecord.lifeBegun.dev.step = 8 := rfl
  have hpf : s.applyRecord.lifeBegun.dev.pfEnabled = true := rfl
  rw [if_pos rfl]
  generalize s.applyRecord.lifeBegun = u at *
  have hsync := u.sync_frame
  dsimp only
  rw [hsync.dev_eq rfl Dev.step fun _ => rfl, hsync.pfEnabled_eq rfl, ← hsync.1 .rep rfl, State.sync_rests (by rw [hmode]; rfl)]
  exact ⟨hstep, hpf, hlife, hmode⟩

theorem repairRecordApplied_ignores : Completes (.repairRecordApplied false) (fun s => s.dev.mode = .starting ∧ s.dev.step = 6)
    (fun s t => t.dev.step = 8 ∧ t.dev.repairIgnored = true ∧ t.rep.entries = [] ∧ t.rep.startNo = s.rep.startNo + 1) := by
  intro s h
  refine ⟨_, exec_repairRecordApplied false h, ?_⟩
  have hstep : s.ignoreRecord.lifeBegun.dev.step = 8 := rfl
  have hignored : s.ignoreRecord.lifeBegun.dev.repairIgnored = true := rfl
  have hentries : s.ignoreRecord.lifeBegun.rep.entries = [] := rfl
  have hlife : s.ignoreRecord.lifeBegun.rep.startNo = s.rep.startNo + 1 := rfl
  rw [if_neg Bool.false_ne_true]
  generalize s.ignoreRecord.lifeBegun = u at *
  have hsync := u.sync_frame
  dsimp only
  rw [hsync.dev_eq rfl Dev.step fun _ => rfl, hsync.dev_eq rfl Dev.repairIgnored fun _ => rfl, ← hsync.1 .rep rfl]
  exact ⟨hstep, hignored, hentries, hlife⟩

/-- Step 8 publishes what the running pane supports and opens the mailboxes. -/
def State.published (s : State) : State :=
  { s with dev := { s.dev with published := true, featHi := s.paneFeatures, step := 0, isOpen := true } }

theorem startUpComplete_completes : Completes .startUpComplete
    (fun s => s.dev.mode = .starting ∧ s.dev.step = 8 ∧ s.mb.waiting = [] ∧ s.hears)
    (fun s t => t.dev.mode = .dormant ∧ t.dev.isOpen = true ∧ t.dev.published = true ∧ t.dev.featHi = s.paneFeatures ∧
      ({ code := evDevModeChange, bcnt := s.tku.bcnt, data := [Word.nat Mode.starting.num, Word.nat Mode.dormant.num, 0,
          Word.nat s.dev.guard.toNat] } : Ev) ∈ t.ev.raised) := by
  rintro s ⟨hmode, hstep, hwaiting, hears⟩
  have hexec : exec .startUpComplete s = .next ((s.published.setMode .dormant tStart8).railSeen.follow).beginWaiting := by
    change execStartUpComplete s = _
    rw [execStartUpComplete, if_pos ⟨hmode, hstep⟩]
    rfl
  have hset : Keep 0x308 s.published (s.published.setMode .dormant tStart8) := State.setMode_keep _ _ _ rfl (Keep.refl _ _)
  have hdormant : (s.published.setMode .dormant tStart8).dev.mode = .dormant := State.setMode_mode ..
  have hevent : ({ code := evDevModeChange, bcnt := s.tku.bcnt, data := [Word.nat Mode.starting.num, Word.nat Mode.dormant.num, 0,
      Word.nat s.dev.guard.toNat] } : Ev) ∈ (s.published.setMode .dormant tStart8).ev.raised := by
    have hraises : Raises s.published (s.published.setMode .dormant tStart8) evDevModeChange
        [Word.nat s.published.dev.mode.num, Word.nat Mode.dormant.num, Word.nat tStart8, Word.nat s.published.dev.guard.toNat] :=
      Raises.of_keep (m := 0x8) (n := 0) (u := { s.published with dev := { s.published.dev with mode := .dormant } }) hears
        (Keep.set_dev (.inl rfl) (.inr rfl) (.inr rfl) (Keep.refl _ _)) rfl (Keep.refl _ _) rfl
    rw [show s.published.dev.mode = .starting from hmode] at hraises
    exact hraises.2
  have hopen := hset.dev_eq rfl Dev.isOpen fun _ => rfl
  have hpublished := hset.dev_eq rfl Dev.published fun _ => rfl
  have hfeat := hset.dev_eq rfl Dev.featHi fun _ => rfl
  have hwait : (s.published.setMode .dormant tStart8).mb.waiting = [] := (congrArg Mb.waiting (hset.1 .mb rfl).symm).trans hwaiting
  generalize s.published.setMode .dormant tStart8 = u at *
  have hseen : Keep 0x300 u u.railSeen := u.railSeen_keep rfl (Keep.refl _ _)
  have hfollow := u.railSeen.follow_frame
  have hmodes : u.railSeen.follow.dev.mode = .dormant := by
    have hrail : u.railSeen.dev.mode = .dormant := (hseen.mode_eq rfl).trans hdormant
    rw [State.follow_rests (by rw [hrail]; rfl), hrail]
  have hboth : Keep 0x2601b905b08 u u.railSeen.follow := hfollow.step rfl (hseen.step rfl (Keep.refl _ _))
  generalize u.railSeen.follow = v at *
  have hbegin : v.beginWaiting.dev = v.dev ∧ v.beginWaiting.ev = v.ev := by
    have hnone : v.mb.waiting = [] := (congrArg Mb.waiting (hboth.1 .mb rfl).symm).trans hwait
    rw [State.beginWaiting, hnone]
    exact ⟨rfl, rfl⟩
  refine ⟨_, hexec, ?_⟩
  dsimp only
  rw [hbegin.1, hbegin.2, hmodes, hboth.dev_eq rfl Dev.isOpen fun _ => rfl, hboth.dev_eq rfl Dev.published fun _ => rfl,
    hboth.dev_eq rfl Dev.featHi fun _ => rfl]
  exact ⟨rfl, hopen, hpublished, hfeat, (hboth.1 .evTaken rfl).subset hevent⟩

/-! The datapath's power (R414, R438). -/

/-- A reply to a sentence moves no other mailbox. -/
theorem State.complete_boxAt_or (s : State) (m : Sentence) (code : Nat) (r : Requester) (n : Nat) :
    (s.complete m code 0 .device [] 0).boxAt r n = s.boxAt r n ∨
      (((s.complete m code 0 .device [] 0).boxAt r n).state = .complete ∧
        ((s.complete m code 0 .device [] 0).boxAt r n).status = Word.nat code) := by
  unfold State.complete
  extract_lets s1 mb s2
  have hs2 : s2.boxAt r n = s1.boxAt r n := rfl
  have hend : ∀ u : State, u.boxAt r n = s1.boxAt r n → u.boxAt r n = s.boxAt r n ∨
      ((u.boxAt r n).state = .complete ∧ (u.boxAt r n).status = Word.nat code) := fun u hu => by
    rw [hu, State.boxAt_modBox]
    split
    · exact .inr ⟨rfl, rfl⟩
    · exact .inl rfl
  split
  · exact hend s2 hs2
  · exact hend _ ((State.edge_boxAt ..).trans hs2)

/-- ENTERs that wait are answered, and none waits any more. -/
theorem State.endEnter_spec (s : State) (code : Nat) : Keep 0x20000001ba0 s (s.endEnter code 0) ∧
    ((s.endEnter code 0).dev.enterWait = [] ∧ (s.endEnter code 0).dev.powered = s.dev.powered) ∧
    ∀ m ∈ s.dev.enterWait, ((s.endEnter code 0).boxAt m.req m.mbx).state = .complete ∧
      ((s.endEnter code 0).boxAt m.req m.mbx).status = Word.nat code := by
  refine ⟨State.endEnter_keep _ _ _ rfl (Keep.refl _ _), ?_, fun m hm => ?_⟩
  · unfold State.endEnter
    refine List.foldlRecOn (motive := fun u : State => u.dev.enterWait = [] ∧ u.dev.powered = s.dev.powered) _ _ ⟨rfl, rfl⟩ ?_
    rintro u ⟨hwait, hpowered⟩ m -
    have hreply := u.complete_frame m code 0 .device [] 0
    exact ⟨(hreply.dev_eq rfl Dev.enterWait fun _ => rfl).trans hwait, (hreply.powered_eq rfl).trans hpowered⟩
  · refine foldl_reaches (Q := fun _ => True) (R := fun u : State => (u.boxAt m.req m.mbx).state = .complete ∧
      (u.boxAt m.req m.mbx).status = Word.nat code) hm (fun _ _ _ => trivial) (fun u _ => ?_) (fun u k hu => ?_) trivial
    · rw [State.complete_boxAt]
      exact ⟨rfl, congrArg Word.nat (by omega)⟩
    · rcases u.complete_boxAt_or k code m.req m.mbx with h | h
      · rwa [h]
      · exact h

theorem State.startHinge_started (s : State) (rates : List Nat) : (s.startHinge rates).hinge.started = true := by
  unfold State.startHinge
  extract_lets hinge s1
  have htested : ((s1.topUp none).reserve.replanHeld).tested = s1.tested :=
    (State.replanHeld_tested _).trans ((State.reserve_tested _).trans (State.topUp_tested ..))
  exact (congrArg Tested.started htested :)

/-- Power comes on with the step rates that PWR reports. -/
def State.poweredWith (s : State) (rates : List Nat) : State :=
  { s with dev := { s.dev with powered := true }, pwr := { s.pwr with rates := rates } }

theorem exec_datapathPowered {s : State} {rates : List Nat} (hwants : s.wantsPower) (hoff : s.dev.powered = false)
    (hrates : rates.length = s.quads) (hstopped : s.allPorts fun p => p = .stopped) :
    exec (.datapathPowered rates) s = .next (((s.poweredWith rates).startHinge rates).endEnter cDone 0).follow := by
  have hhinge : Keep 0x30380221b82 (s.poweredWith rates) ((s.poweredWith rates).startHinge rates) :=
    State.startHinge_keep _ _ rfl (Keep.refl _ _)
  have hslots : ((s.poweredWith rates).startHinge rates).slots = s.slots := by
    rw [State.slots, State.lines, ← hhinge.1 .fuses rfl]
    rfl
  have hnone : (((s.poweredWith rates).startHinge rates).slots.filter fun p =>
      (((s.poweredWith rates).startHinge rates).portAt p).state = .acquire) = [] := by
    rw [hslots]
    refine List.filter_eq_nil_iff.2 fun p hp => ?_
    have hport : (s.portAt p).state = .stopped := of_decide_eq_true (List.all_eq_true.1 hstopped p hp)
    have hport' : ((s.poweredWith rates).portAt p).state = .stopped := hport
    rw [hhinge.portAt_eq rfl, hport']
    decide
  have hexec : execDatapathPowered rates s = .next
      (let s2 := (s.poweredWith rates).startHinge rates
      let on := s2.slots.filter fun p => (s2.portAt p).state = .acquire
      let s3 := on.foldl (fun s p => (s.startLanes p).checkSlices p) s2
      ((if on.isEmpty then s3 else s3.replanHeld).endEnter cDone 0).follow) := by
    rw [execDatapathPowered, if_pos ⟨hwants, by simp [hoff], hrates⟩]
    rfl
  change execDatapathPowered rates s = _
  generalize (s.poweredWith rates).startHinge rates = u at hexec hnone ⊢
  rw [hexec]
  dsimp only
  rw [hnone, List.isEmpty_nil, if_pos rfl, List.foldl_nil]

theorem datapathPowered_completes (rates : List Nat) : Completes (.datapathPowered rates)
    (fun s => s.wantsPower ∧ s.dev.powered = false ∧ rates.length = s.quads ∧ s.allPorts fun p => p = .stopped)
    (fun s t => t.dev.powered = true ∧ t.pwr.rates = rates ∧ t.hinge.started = true ∧ t.dev.enterWait = [] ∧
      ∀ m ∈ s.dev.enterWait, (t.boxAt m.req m.mbx).state = .complete ∧ (t.boxAt m.req m.mbx).status = Word.nat cDone) := by
  rintro s ⟨hwants, hoff, hrates, hstopped⟩
  refine ⟨_, exec_datapathPowered hwants hoff hrates hstopped, ?_⟩
  have hhinge : Keep 0x30380221b82 (s.poweredWith rates) ((s.poweredWith rates).startHinge rates) :=
    State.startHinge_keep _ _ rfl (Keep.refl _ _)
  have hstarted := (s.poweredWith rates).startHinge_started rates
  have hpowered := hhinge.powered_eq rfl
  have hpwr := (hhinge.1 .pwr rfl).symm
  have hwait := hhinge.dev_eq rfl Dev.enterWait fun _ => rfl
  generalize (s.poweredWith rates).startHinge rates = u at *
  obtain ⟨hkeep, ⟨hnone, hpoweredEnd⟩, hboxes⟩ := u.endEnter_spec cDone
  have hhingeEnd : (u.endEnter cDone 0).hinge = u.hinge := (hkeep.1 .hinge rfl).symm
  have hpwrEnd : (u.endEnter cDone 0).pwr = u.pwr := (hkeep.1 .pwr rfl).symm
  generalize u.endEnter cDone 0 = v at *
  have hfollow := v.follow_frame
  dsimp only
  rw [hfollow.powered_eq rfl, State.follow_pwr, State.follow_hinge, hfollow.dev_eq rfl Dev.enterWait fun _ => rfl, hnone,
    hpoweredEnd, hhingeEnd, hpwrEnd, hpwr, hstarted]
  refine ⟨hpowered, rfl, rfl, rfl, fun m hm => ?_⟩
  have hbox : v.follow.boxAt m.req m.mbx = v.boxAt m.req m.mbx := by
    rw [State.boxAt, ← hfollow.1 .mb rfl]
    rfl
  rw [hbox]
  exact hboxes m (hwait ▸ hm)

/-- Settles O54, step by step; what a failed step and a mode at rest keep is said once for all of them. -/
theorem startUpStepsComplete : Obligations.StartUpStepsComplete :=
  ⟨vinValid_completes, railInRegulation_completes, pgoodReleaseTimer_completes, fuseMapLoaded_completes, fuseMapLoaded_fails,
    memoryFillDone_completes, memoryFillDone_fails, firmwareLoadDone_completes, firmwareLoadDone_triesNext, firmwareLoadDone_fails,
    repairRecordApplied_completes, repairRecordApplied_ignores, startUpComplete_completes, datapathPowered_completes⟩

end Sys2Proof.Machine
end

section
/-! PROOFS. Verdicts of targeted tests (O52; R627 to R632, R655). -/

namespace Sys2Proof.Machine

/-! What a verdict's effect on its element leaves of the verdicts (R629, R632). -/

theorem State.stageDown_tested (s : State) (l : Nat) : (s.stageDown l).tested = s.tested :=
  (s.stageDown_keep l rfl (Keep.refl 0x2c1e0300 s)).tested_eq rfl

theorem State.retireElem_tested (s : State) (r : Report) : (s.retireElem r).tested = s.tested := by
  unfold State.retireElem
  split
  case h_1 =>
    extract_lets s1
    have hs1 : s1.tested = s.tested := State.raise_tested ..
    split
    · exact (s1.raise_tested ..).trans hs1
    · exact hs1
  case h_2 => exact (State.replanHeld_tested _).trans (State.raise_tested ..)
  case h_3 =>
    extract_lets s1 s2
    have hs2 : s2.tested = s.tested := by
      dsimp only [s2]
      split
      · rfl
      · exact s1.raise_tested ..
    split
    · exact (s2.raise_tested ..).trans hs2
    · exact hs2
  case h_4 => exact (State.raise_tested ..).trans (State.raise_tested ..)
  case h_5 =>
    extract_lets s1 ocu
    have hs1 : s1.tested = s.tested := State.raise_tested ..
    split
    · exact hs1
    · exact hs1
  case h_6 => exact State.foldl_tested State.stageDown_tested _ s
  case h_7 => rfl

theorem State.returnElem_tested (s : State) (r : Report) : (s.returnElem r).tested = s.tested := by
  unfold State.returnElem
  split
  case h_2 => exact (State.replanHeld_tested _).trans (State.reserve_tested _)
  case h_5 => extract_lets s1; split <;> rfl
  case h_7 => exact State.relYieldEnd_tested ..
  all_goals rfl

/-- What a verdict does to its element: LASTING retires it into the repair record, TRANSIENT returns it. -/
def State.verdictEffect (s : State) (r : Report) (lasting : Bool) : State :=
  if lasting then (s.retireElem r).repair (repairKind r.kind) r.source r.unit r.loc else (s.addHistory r).returnElem r

theorem State.verdictEffect_tested (s : State) (r : Report) (lasting : Bool) : (s.verdictEffect r lasting).tested = s.tested := by
  unfold State.verdictEffect
  split
  · exact ((State.repair_keep _ _ _ _ _ rfl (Keep.refl 0x1000000300 _)).tested_eq rfl).trans (s.retireElem_tested r)
  · exact State.returnElem_tested ..

/-- The effect lowers no event that was raised. -/
theorem State.verdictEffect_keep (s : State) (r : Report) (lasting : Bool) : Keep 0x373bfbedb8a s (s.verdictEffect r lasting) := by
  unfold State.verdictEffect
  split
  · exact State.repair_keep _ _ _ _ _ rfl (s.retireElem_keep r rfl (Keep.refl _ s))
  · exact State.returnElem_keep _ r rfl (s.addHistory_keep r rfl (Keep.refl _ s))

theorem State.verdictEffect_false_rep (s : State) (r : Report) : (s.verdictEffect r false).rep = s.rep :=
  ((State.returnElem_keep _ r rfl (s.addHistory_keep r rfl (Keep.refl 0x36380b29b82 s))).1 .rep rfl).symm

/-! The verdict (R629, R631). -/

/-- The kind of a verdict (R629). -/
def testVerdictOf (lasting : Bool) : TestVerdict := if lasting then TestVerdict.lasting else TestVerdict.transient

/-- The words of TST_VERDICT. -/
def testVerdictWords (r : Report) (lasting : Bool) (runs : Nat) (untested : Bool) : List Word :=
  [Word.nat (kindNum r.kind), Word.nat r.unit, Word.nat r.loc, Word.flag lasting, Word.nat r.source, Word.nat runs, Word.flag untested]

/-- The latest 256 of a list. -/
def latest256 {α : Type} (xs : List α) : List α := xs.drop (xs.length - 256)

theorem latest256_append_getLast? {α : Type} (xs : List α) (x : α) : (latest256 (xs ++ [x])).getLast? = some x := by
  have hlength : (xs ++ [x]).length - 256 ≤ xs.length := by
    rw [List.length_append, List.length_singleton]
    omega
  rw [latest256, List.drop_append_of_le_length hlength, List.getLast?_append]
  rfl

section
variable (s : State) (vs : List (Report × TestVerdict × BitVec 64))

/-- The state with the list of verdicts `vs`. -/
def State.withVerdicts : State := s.modTst fun t => { t with verdicts := vs }

theorem State.withVerdicts_verdicts : (s.withVerdicts vs).tst.verdicts = vs := rfl

theorem State.withVerdicts_intermittent : (s.withVerdicts vs).tst.intermittent = s.tst.intermittent := rfl

theorem State.withVerdicts_untested : (s.withVerdicts vs).tst.untested = s.tst.untested := rfl

theorem State.withVerdicts_rep : (s.withVerdicts vs).rep = s.rep := rfl

end

/-- A verdict joins the latest ones. -/
def State.verdictLogged (s : State) (r : Report) (v : TestVerdict) : State :=
  s.modTst fun t => { t with verdicts := latest256 (t.verdicts ++ [(r, v, s.tku.bcnt)]) }

theorem State.verdictLogged_eq (s : State) (r : Report) (v : TestVerdict) :
    s.verdictLogged r v = s.withVerdicts (latest256 (s.tst.verdicts ++ [(r, v, s.tku.bcnt)])) := by
  simp only [State.verdictLogged, State.withVerdicts, State.modTst]

theorem State.verdictLogged_last (s : State) (r : Report) (v : TestVerdict) :
    (s.verdictLogged r v).tst.verdicts.getLast? = some (r, v, s.tku.bcnt) := by
  rw [State.verdictLogged_eq, State.withVerdicts_verdicts, latest256_append_getLast?]

/-- A verdict is recorded and raised. -/
def State.verdictTold (s : State) (r : Report) (lasting : Bool) (runs : Nat) (untested : Bool) : State :=
  (s.verdictLogged r (testVerdictOf lasting)).raise evTstVerdict (testVerdictWords r lasting runs untested)

theorem State.verdict_eq (s : State) (r : Report) (lasting : Bool) (runs : Nat) (untested : Bool) :
    s.verdict r lasting runs untested = ((s.verdictTold r lasting runs untested).verdictEffect r lasting).startTests.follow := by
  unfold State.verdict State.verdictTold State.verdictLogged latest256 State.verdictEffect testVerdictOf testVerdictWords
  dsimp only

theorem Tested.parts {s t : State} (h : t.tested = s.tested) : t.tst.verdicts = s.tst.verdicts ∧
    t.tst.intermittent = s.tst.intermittent ∧ t.tst.untested = s.tst.untested :=
  ⟨congrArg Tested.verdicts h, congrArg Tested.intermittent h, congrArg Tested.untested h⟩

/-- Of the verdicts a verdict leaves what its record makes of them. -/
theorem State.verdict_tested (s : State) (r : Report) (lasting : Bool) (runs : Nat) (untested : Bool) :
    (s.verdict r lasting runs untested).tested = (s.verdictLogged r (testVerdictOf lasting)).tested := by
  rw [State.verdict_eq, (State.follow_frame _).tested_eq rfl, State.startTests_tested, State.verdictEffect_tested, State.verdictTold,
    State.raise_tested]

/-- The verdict stands last, and the counts of self-test stay. -/
theorem State.verdict_spec (s : State) (r : Report) (lasting : Bool) (runs : Nat) (untested : Bool) :
    (s.verdict r lasting runs untested).tst.verdicts.getLast? = some (r, testVerdictOf lasting, s.tku.bcnt) ∧
      (s.verdict r lasting runs untested).tst.intermittent = s.tst.intermittent ∧
      (s.verdict r lasting runs untested).tst.untested = s.tst.untested := by
  obtain ⟨hverdicts, hintermittent, huntested⟩ := Tested.parts (s.verdict_tested r lasting runs untested)
  rw [hverdicts, s.verdictLogged_last]
  exact ⟨rfl, by rw [hintermittent, State.verdictLogged_eq, State.withVerdicts_intermittent],
    by rw [huntested, State.verdictLogged_eq, State.withVerdicts_untested]⟩

/-- A verdict after changes of self-test alone is raised. -/
theorem State.verdict_raises {s u : State} (hears : s.hears) (hu : Keep 0x10000000000 s u) (r : Report) (lasting : Bool) (runs : Nat)
    (untested : Bool) : Raises s (u.verdict r lasting runs untested) evTstVerdict (testVerdictWords r lasting runs untested) := by
  have hlogged : Keep 0x10000000000 s (u.verdictLogged r (testVerdictOf lasting)) := u.modTst_keep _ rfl hu
  have hraised : ∀ v : State, Keep 0x373bfbedb8a v (v.verdictEffect r lasting).startTests.follow := fun v =>
    State.follow_keep _ rfl (State.startTests_keep _ rfl (v.verdictEffect_keep r lasting))
  rw [State.verdict_eq]
  exact Raises.of_keep hears hlogged rfl (hraised _) rfl

theorem State.verdictTold_rep (s : State) (r : Report) (lasting : Bool) (runs : Nat) (untested : Bool) :
    (s.verdictTold r lasting runs untested).rep = s.rep := by
  rw [State.verdictTold, State.raise_rep, State.verdictLogged_eq, State.withVerdicts_rep]

/-- A TRANSIENT verdict leaves the repair record. -/
theorem State.verdict_false_rep (s : State) (r : Report) (runs : Nat) (untested : Bool) :
    (s.verdict r false runs untested).rep = s.rep := by
  rw [State.verdict_eq, ← s.verdictTold_rep r false runs untested]
  generalize s.verdictTold r false runs untested = u
  have hfollow := State.follow_keep _ rfl (State.startTests_keep _ rfl (Keep.refl 0x3601b905b08 (u.verdictEffect r false)))
  exact (hfollow.1 .rep rfl).symm.trans (u.verdictEffect_false_rep r)

/-! The end of a run (R627, R628, R630). -/

section
variable {s : State} {k : ElemKind} {r : Report} {n : Nat}

/-- No report is under test. -/
def State.noneUnder (s : State) : State := s.modTst fun t => { t with under := [] }

theorem State.noneUnder_keep (s : State) : Keep 0x10000000000 s s.noneUnder := s.modTst_keep _ rfl (Keep.refl _ _)

/-- A pass after a failed run counts as intermittent (R628). -/
def State.countPass (s : State) (n : Nat) : State := if n = 0 then s else s.modTst fun t => { t with intermittent := t.intermittent + 1 }

theorem State.countPass_keep (s : State) (n : Nat) : Keep 0x10000000000 s (s.countPass n) :=
  Keep.ite (Keep.refl _ _) (s.modTst_keep _ rfl (Keep.refl _ _))

theorem State.countPass_intermittent (s : State) (n : Nat) :
    (s.countPass n).tst.intermittent = s.tst.intermittent + (if n = 0 then 0 else 1) := by
  unfold State.countPass
  split <;> rfl

/-- What the end of the one run under test leaves. -/
def State.afterRun (s : State) (k : ElemKind) (r : Report) (n : Nat) (pass : Bool) : State :=
  if !s.hasTestSet k then
    (s.noneUnder.modTst fun t => { t with untested := tmod t.untested (fun _ => 0) (kindNum k) (· + 1) }).verdict r true 0 true
  else if pass then
    (s.noneUnder.countPass n).verdict r (decide (2 ≤ s.recentTransients r)) (n + 1) false
  else if n = 0 then s.noneUnder.modTst fun t => { t with under := t.under ++ [(r, 1)] }
  else s.noneUnder.verdict r true 2 false

theorem exec_targetedTestDone (hunder : s.tst.under = [(r, n)]) (hkind : r.kind = k) (pass : Bool) :
    exec (.targetedTestDone k pass) s = .next (s.afterRun k r n pass) := by
  have hfind : s.tst.under.find? (fun u => decide (u.1.kind = k)) = some (r, n) := by simp [hunder, hkind]
  have herase : (s.modTst fun t => { t with under := t.under.erase (r, n) }) = s.noneUnder := by
    simp [State.noneUnder, State.modTst, hunder]
  change execTargetedTestDone k pass s = _
  unfold execTargetedTestDone
  rw [hfind]
  dsimp only
  rw [herase]
  rfl

theorem targetedTestDone_repeats (k : ElemKind) (r : Report) : Completes (.targetedTestDone k false)
    (fun s => s.tst.under = [(r, 0)] ∧ r.kind = k ∧ s.hasTestSet k)
    fun s t => t.tst.under = [(r, 1)] ∧ t.tst.verdicts = s.tst.verdicts ∧ OnlyChanges [.tst] s t := by
  rintro s ⟨hunder, hkind, hset⟩
  refine ⟨_, exec_targetedTestDone hunder hkind false, ?_⟩
  have hended : s.afterRun k r 0 false = s.noneUnder.modTst fun t => { t with under := t.under ++ [(r, 1)] } := by
    simp [State.afterRun, hset]
  rw [hended]
  have hkeep : Keep 0x10000000000 s (s.noneUnder.modTst fun t => { t with under := t.under ++ [(r, 1)] }) :=
    State.modTst_keep _ _ rfl s.noneUnder_keep
  exact ⟨rfl, rfl, hkeep.only [.tst] (compMask_testBit [.tst])⟩

theorem targetedTestDone_fails (k : ElemKind) (r : Report) : Completes (.targetedTestDone k false)
    (fun s => s.tst.under = [(r, 1)] ∧ r.kind = k ∧ s.hasTestSet k ∧ s.hears)
    fun s t => t.tst.verdicts.getLast? = some (r, .lasting, s.tku.bcnt) ∧ Raises s t evTstVerdict
      [Word.nat (kindNum k), Word.nat r.unit, Word.nat r.loc, 1, Word.nat r.source, 2, 0] := by
  rintro s ⟨hunder, rfl, hset, hears⟩
  refine ⟨_, exec_targetedTestDone hunder rfl false, ?_⟩
  have hended : s.afterRun r.kind r 1 false = s.noneUnder.verdict r true 2 false := by simp [State.afterRun, hset]
  rw [hended]
  obtain ⟨hlast, -, -⟩ := s.noneUnder.verdict_spec r true 2 false
  exact ⟨hlast, State.verdict_raises hears s.noneUnder_keep r true 2 false⟩

theorem targetedTestDone_passes (k : ElemKind) (r : Report) (n : Nat) : Completes (.targetedTestDone k true)
    (fun s => s.tst.under = [(r, n)] ∧ r.kind = k ∧ s.hasTestSet k ∧ s.recentTransients r < 2 ∧ s.hears)
    fun s t => t.tst.verdicts.getLast? = some (r, .transient, s.tku.bcnt) ∧ t.rep = s.rep ∧
      t.tst.intermittent = s.tst.intermittent + (if n = 0 then 0 else 1) ∧ Raises s t evTstVerdict
        [Word.nat (kindNum k), Word.nat r.unit, Word.nat r.loc, 0, Word.nat r.source, Word.nat (n + 1), 0] := by
  rintro s ⟨hunder, rfl, hset, hrecent, hears⟩
  refine ⟨_, exec_targetedTestDone hunder rfl true, ?_⟩
  have hended : s.afterRun r.kind r n true = (s.noneUnder.countPass n).verdict r false (n + 1) false := by
    have hfew : decide (2 ≤ s.recentTransients r) = false := decide_eq_false (by omega)
    simp [State.afterRun, hset, hfew]
  have hkeep : Keep 0x10000000000 s (s.noneUnder.countPass n) := Keep.step (State.countPass_keep _ n) rfl s.noneUnder_keep
  have hrep : (s.noneUnder.countPass n).rep = s.rep := (hkeep.1 .rep rfl).symm
  have htku : (s.noneUnder.countPass n).tku = s.tku := (hkeep.1 .tku rfl).symm
  obtain ⟨hlast, hinter, -⟩ := State.verdict_spec (s.noneUnder.countPass n) r false (n + 1) false
  rw [hended]
  refine ⟨?_, (State.verdict_false_rep _ r (n + 1) false).trans hrep, hinter.trans (s.noneUnder.countPass_intermittent n),
    State.verdict_raises hears hkeep r false (n + 1) false⟩
  rw [hlast, htku]
  rfl

theorem targetedTestDone_untested (k : ElemKind) (r : Report) (n : Nat) (pass : Bool) : Completes (.targetedTestDone k pass)
    (fun s => s.tst.under = [(r, n)] ∧ r.kind = k ∧ s.hasTestSet k = false)
    fun s t => t.tst.verdicts.getLast? = some (r, .lasting, s.tku.bcnt) ∧
      tget t.tst.untested (fun _ => 0) (kindNum k) = tget s.tst.untested (fun _ => 0) (kindNum k) + 1 := by
  rintro s ⟨hunder, rfl, hset⟩
  refine ⟨_, exec_targetedTestDone hunder rfl pass, ?_⟩
  have hended : s.afterRun r.kind r n pass = (s.noneUnder.modTst fun t => { t with
      untested := tmod t.untested (fun _ => 0) (kindNum r.kind) (· + 1) }).verdict r true 0 true := by simp [State.afterRun, hset]
  rw [hended]
  obtain ⟨hlast, -, hcount⟩ := State.verdict_spec (s.noneUnder.modTst fun t => { t with
      untested := tmod t.untested (fun _ => 0) (kindNum r.kind) (· + 1) }) r true 0 true
  refine ⟨hlast, ?_⟩
  rw [hcount]
  exact tget_tmod_same s.tst.untested (fun _ => 0) (kindNum r.kind) (· + 1)

end

end Sys2Proof.Machine
end

section
/-! PROOFS. In-service slices and their coverage (O52; R639 to R644). -/

namespace Sys2Proof.Machine

theorem State.slicesOn_iff (s : State) : s.slicesOn = true ↔ s.param nTstCfg 0 2 = 0 := by
  rw [State.slicesOn, State.parN, beq_iff_eq]
  exact (BitVec.toNat_eq (y := 0)).symm

theorem State.sliceMode_of {s : State} (hpowered : s.dev.powered = true) (hmode : s.live = true ∨ s.dev.mode = .workshop) :
    s.sliceMode = true := by
  simpa [State.sliceMode, hpowered] using hmode

/-! The start of an engine's slice (R639 steps 1 and 2, R640). -/

theorem State.engineTestable_free {s : State} {e : Nat} (he : e < s.engines) (hfree : (s.engAt e).role = .free) :
    s.engineTestable e = true := by
  simp [State.engineTestable, he, hfree]

theorem State.rested_of {s : State} {b : Nat} (h : s.tst.aborted.contains b = false ∨ s.dev.refclk = false ∨
    625000000 ≤ s.since (tget s.tst.abortAt (fun _ => 0) b)) : s.rested b = true := by
  rcases h with hkept | hlate
  · rw [State.rested, hkept]
    rfl
  · have hpassed : s.passed (tget s.tst.abortAt (fun _ => 0) b) secTicks = true := State.passed_of hlate
    rw [State.rested, hpassed, Bool.or_true]

/-- A FREE engine under a slice. -/
def State.sliceBegun (s : State) (e : Nat) : State :=
  (s.modEng e fun x => { x.fresh with role := .test, slice := true }).modTst fun t => { t with slices := t.slices ++ [.engine e] }

theorem State.startEngineSlice_free {s : State} {e : Nat} (he : e < s.engines) (hfree : (s.engAt e).role = .free)
    (hidle : s.tst.slices = []) (hrested : s.rested e = true)
    (halone : ∀ i, i < 64 → 64 * (e / 64) + i ≠ e → s.engineTestable (64 * (e / 64) + i) = false) :
    s.startEngineSlice e = s.sliceBegun e := by
  have hfirst : ((List.range 64).all fun i => 64 * (e / 64) + i == e || !s.engineTestable (64 * (e / 64) + i) ||
      !s.rested (64 * (e / 64) + i) || !s.sliceBefore (64 * (e / 64) + i) e) = true := by
    rw [List.all_eq_true]
    intro i hi
    by_cases hself : 64 * (e / 64) + i = e
    · simp [hself]
    · simp [halone i (List.mem_range.mp hi) hself]
  unfold State.startEngineSlice
  simp only [hidle, hfirst, s.engineTestable_free he hfree, hrested, hfree, List.any_nil, Bool.not_true, Bool.false_eq_true, or_self,
    if_false]
  rfl

theorem testSliceStart_free (e : Nat) : Completes (.testSliceStart (.engine e))
    (fun s => s.dev.powered ∧ (s.live ∨ s.dev.mode = .workshop) ∧ s.param nTstCfg 0 2 = 0 ∧
      (s.tst.aborted.contains e = false ∨ s.dev.refclk = false ∨ 625000000 ≤ s.since (tget s.tst.abortAt (fun _ => 0) e)) ∧
      s.tst.slices = [] ∧ e < s.engines ∧ (s.engAt e).role = .free ∧
      ∀ i, i < 64 → 64 * (e / 64) + i ≠ e → s.engineTestable (64 * (e / 64) + i) = false)
    fun s t => t.tst.slices = [.engine e] ∧ t.engAt e =
        { role := .test, slice := true, lfsr := (s.engAt e).lfsr, interval := (s.engAt e).interval } ∧
      ∀ k, k ≠ e → t.engAt k = s.engAt k := by
  rintro s ⟨hpowered, hmode, hon, hrested, hidle, he, hfree, halone⟩
  have hexec : exec (.testSliceStart (.engine e)) s = .next (s.sliceBegun e).settle := by
    change execTestSliceStart (.engine e) s = _
    unfold execTestSliceStart
    rw [if_pos ⟨State.sliceMode_of hpowered hmode, s.slicesOn_iff.mpr hon⟩]
    dsimp only
    rw [State.startEngineSlice_free he hfree hidle (State.rested_of hrested) halone]
  refine ⟨_, hexec, ?_⟩
  have heng : ∀ k, (s.sliceBegun e).settle.engAt k = (s.modEng e fun x => { x.fresh with role := .test, slice := true }).engAt k :=
    fun k => (State.settle_frame _).engAt_eq rfl k
  have hslices : (s.sliceBegun e).tst.slices = s.tst.slices ++ [.engine e] := rfl
  refine ⟨by rw [State.settle_tst, hslices, hidle]; rfl, by rw [heng, State.engAt_modEng_self]; rfl, fun k hk => ?_⟩
  rw [heng, State.engAt_modEng, if_neg hk]

theorem testSliceStart_off (b : SliceBlock) :
    Completes (.testSliceStart b) (fun s => s.param nTstCfg 0 2 ≠ 0 ∨ s.dev.powered = false) fun s t => t = s := by
  rintro s hoff
  have hno : ¬ (s.sliceMode = true ∧ s.slicesOn = true) := by
    rintro ⟨hmode, hon⟩
    rcases hoff with hparam | hpower
    · exact hparam (s.slicesOn_iff.mp hon)
    · simp [State.sliceMode, hpower] at hmode
  refine ⟨s, ?_, rfl⟩
  change execTestSliceStart b s = _
  unfold execTestSliceStart
  rw [if_neg hno]

/-! An engine's slice that passes (R639 step 4). -/

theorem State.topUpOne_idle {s : State} (h : s.hinge.started = false) (q : Option Nat) : s.topUpOne q = s := by
  unfold State.topUpOne
  rw [if_neg (by simp [h])]

theorem State.fillAdapt_idle {s : State} (h : s.hinge.started = false) (l : Nat) : s.fillAdapt l = s := by
  rw [State.fillAdapt, if_neg (by simp [h])]

theorem foldl_fixed {α β : Type} {op : β → α → β} {x : β} {xs : List α} (h : ∀ y ∈ xs, op x y = x) : xs.foldl op x = x :=
  List.foldlRecOn (motive := fun z => z = x) xs op rfl fun _ hz y hy => by rw [hz, h y hy]

/-- Before the Hinge starts no engine is reserved (R140). -/
theorem State.reserve_idle {s : State} (h : s.hinge.started = false) : s.reserve = s := by
  rw [State.reserve, foldl_fixed fun l _ => State.fillAdapt_idle h l]
  exact foldl_fixed fun _ _ => State.topUpOne_idle h none

theorem State.startRaise_idle {s : State} {l : Nat} (hwait : (s.lineAt l).sea.swapWait = none) (hest : (s.lineAt l).sea.hasEst = false) :
    s.startRaise l = s := by
  unfold State.startRaise
  dsimp only
  rw [hwait, hest]
  simp

/-- Without estimates and waiting swaps nothing starts. -/
theorem State.startRaises_idle {s : State}
    (h : ∀ l, l < s.lines → (s.lineAt l).sea.swapWait = none ∧ (s.lineAt l).sea.hasEst = false) : s.startRaises = s := by
  unfold State.startRaises
  split
  · exact foldl_fixed fun l hl => State.startRaise_idle (h l (List.mem_range.mp hl)).1 (h l (List.mem_range.mp hl)).2
  · rfl

/-- The end of yields leaves what does not speak of yields. -/
theorem State.relYieldEnd_tst {β : Type} (f : Tst → β) (hf : ∀ t ys cs, f { t with yields := ys, counts := cs } = f t) (s : State)
    (rank obj : Nat) : f (s.relYieldEnd rank obj).tst = f s.tst := by
  refine List.foldlRecOn (motive := fun u : State => f u.tst = f s.tst) _ _ rfl fun u hu y _ => ?_
  rw [State.raise_tst]
  exact (hf u.tst _ _).trans hu

/-- The pass of a block's slice, with the yields it ends. -/
def State.slicePassed (s : State) (n : Nat) : State :=
  (s.modTst fun t => { t with
    lastPass := tset t.lastPass (fun _ => 0) n s.tku.bcnt, aborted := t.aborted.filter (· ≠ n) }).relYieldEnd 7 n

theorem State.slicePass_engine (s : State) (e : Nat) :
    s.slicePass (.engine e) = ((s.slicePassed e).modEng e Engine.fresh).reserve.startRaises := rfl

/-- An engine's slice leaves those under way and passes. -/
def State.sliceOver (s : State) (e : Nat) : State :=
  (s.modTst fun t => { t with slices := t.slices.erase (.engine e) }).slicePassed e

theorem State.sliceOver_keep (s : State) (e : Nat) : Keep 0x10000000300 s (s.sliceOver e) :=
  State.relYieldEnd_keep _ 7 e rfl (State.modTst_keep _ _ rfl (s.modTst_keep _ rfl (Keep.refl _ s)))

theorem State.sliceOver_slices (s : State) (e : Nat) : (s.sliceOver e).tst.slices = s.tst.slices.erase (.engine e) :=
  State.relYieldEnd_tst (·.slices) (fun _ _ _ => rfl) _ 7 e

theorem State.sliceOver_lastPass (s : State) (e : Nat) :
    (s.sliceOver e).tst.lastPass = tset s.tst.lastPass (fun _ => 0) e s.tku.bcnt :=
  State.relYieldEnd_tst (·.lastPass) (fun _ _ _ => rfl) _ 7 e

theorem sliceTestDone_passes (e : Nat) : Completes (.sliceTestDone (.engine e) true)
    (fun s => s.tst.slices = [.engine e] ∧ s.hinge.started = false ∧
      ∀ l, l < s.lines → (s.lineAt l).sea.swapWait = none ∧ (s.lineAt l).sea.hasEst = false)
    fun s t => t.tst.slices = [] ∧ t.engAt e = { lfsr := (s.engAt e).lfsr, interval := (s.engAt e).interval } ∧
      tget t.tst.lastPass (fun _ => 0) e = s.tku.bcnt ∧ ∀ k, k ≠ e → t.engAt k = s.engAt k := by
  rintro s ⟨hslices, hstopped, hcalm⟩
  have hexec : exec (.sliceTestDone (.engine e) true) s = .next (((s.sliceOver e).modEng e Engine.fresh).reserve.startRaises).follow := by
    change execSliceTestDone (.engine e) true s = _
    unfold execSliceTestDone
    rw [if_pos (by simp [hslices])]
    dsimp only
    rw [if_pos rfl, State.slicePass_engine]
    rfl
  refine ⟨_, hexec, ?_⟩
  have hkeep : Keep 0x10080000300 s ((s.sliceOver e).modEng e Engine.fresh) :=
    Keep.modEng rfl (Keep.step (s.sliceOver_keep e) rfl (Keep.refl _ s))
  have hhinge : s.hinge = ((s.sliceOver e).modEng e Engine.fresh).hinge := hkeep.1 .hinge rfl
  have hlines : ((s.sliceOver e).modEng e Engine.fresh).lines = s.lines :=
    congrArg (fun f : Fuses => nLine f.part) (hkeep.1 .fuses rfl).symm
  have hsea : ∀ l, (s.lineAt l).sea = (((s.sliceOver e).modEng e Engine.fresh).lineAt l).sea := hkeep.1 .lnSea rfl
  rw [State.reserve_idle (hhinge ▸ hstopped), State.startRaises_idle fun l hl => by rw [← hsea]; exact hcalm l (hlines ▸ hl)]
  have heng : ∀ k, (((s.sliceOver e).modEng e Engine.fresh).follow).engAt k = if k = e then (s.engAt e).fresh else s.engAt k := fun k => by
    rw [(State.follow_frame _).engAt_eq rfl, State.engAt_modEng, (s.sliceOver_keep e).engAt_eq rfl, (s.sliceOver_keep e).engAt_eq rfl]
  dsimp only
  rw [State.follow_tst, State.modEng_tst, State.sliceOver_slices, State.sliceOver_lastPass, hslices]
  exact ⟨by simp, by rw [heng, if_pos rfl]; rfl, tget_tset_same .., fun k hk => by rw [heng, if_neg hk]⟩

/-! Coverage that is late (R641). -/

theorem State.relYield_yields (s : State) (rank obj kept keptObj : Nat) (req : Option Requester) :
    (s.relYield rank obj kept keptObj req).tst.yields =
      s.tst.yields ++ [{ rank := rank, obj := obj, keptRank := Word.nat kept, since := s.tku.bcnt, req := req }] := by
  unfold State.relYield
  dsimp only
  rw [State.raise_tst]
  rfl

theorem coverageTimer_late (b : SliceBlock) : Completes (.coverageTimer b)
    (fun s => s.dev.powered ∧ (s.live ∨ s.dev.mode = .workshop) ∧ s.param nTstCfg 0 2 = 0 ∧ s.covered b ∧
      (s.dev.refclk = false ∨
        s.parN nTstCfg 0 1 * 90 * 625000000 ≤ s.since (tget s.tst.lastPass (fun _ => 0) (blockNum b))) ∧
      (s.tst.yields.any fun y => y.rank == 7 && y.obj == blockNum b) = false ∧ s.hears)
    fun s t => Raises s t evTstCoverageLate
      [Word.nat (blockNum b), Word.nat (s.since (tget s.tst.lastPass (fun _ => 0) (blockNum b)))] ∧
      (t.tst.yields.any fun y => y.rank == 7 && y.obj == blockNum b) = true := by
  rintro s ⟨hpowered, hmode, hon, hcovered, hlate, hnone, hears⟩
  have hpassed : s.passed (tget s.tst.lastPass (fun _ => 0) (blockNum b)) s.coverageLate = true := State.passed_of hlate
  have hexec : exec (.coverageTimer b) s = .next ((s.raise evTstCoverageLate
      [Word.nat (blockNum b), Word.nat (s.since (tget s.tst.lastPass (fun _ => 0) (blockNum b)))]).relYield 7 (blockNum b) sliceKept 0
        none) := by
    change execCoverageTimer b s = _
    unfold execCoverageTimer
    dsimp only
    rw [if_pos ⟨State.sliceMode_of hpowered hmode, s.slicesOn_iff.mpr hon, hcovered, hpassed, by rw [hnone]; rfl⟩]
    rfl
  refine ⟨_, hexec, Raises.of_keep (m := 0) hears (Keep.refl 0 s) rfl (State.relYield_frame ..) rfl, ?_⟩
  rw [State.relYield_yields, List.any_append, List.any_cons]
  simp

/-- Settles O52, by the verdict that joins the list last, what its effect on the element leaves of self-test, and the engine of a slice. -/
theorem testsComplete : Obligations.TestsComplete :=
  ⟨targetedTestDone_repeats, targetedTestDone_fails, targetedTestDone_passes, targetedTestDone_untested, testSliceStart_free,
    testSliceStart_off, sliceTestDone_passes, coverageTimer_late⟩

end Sys2Proof.Machine
end
